-- ==== Sys2Proof/Word.lean ====
section
/-! DEFINITION. The words of the part: a register word of 32 bits, a byte, and the word of 64 bits that two registers or a tag
field hold (R8, R13). Nothing else stands here: field access, rounding and checks are in Machine/Bits.lean. -/

namespace Sys2Proof

/-- A register word: 32 bits, little-endian, at an offset that is a multiple of 4 (R8). -/
abbrev Word := BitVec 32

/-- A byte of a frame, of an image or of DRAM. -/
abbrev Byte := BitVec 8

end Sys2Proof
end

