-- ==== Sys2Proof/Config.lean ====
section
/-! DEFINITION. The values the spec leaves open. Each is an opaque constant: nothing can evaluate it, so a statement about it
holds for every value. `State.freeCtr` numbers the draws. -/

namespace Sys2Proof.Config

/-- The n-th open value of a run, as a natural number; a user of it takes it modulo the width it needs (log 2). -/
opaque freeValue : Nat → Nat

/-- Whether a RSTn low pulse of 200 ns to 1 µs resets the part: the spec leaves it open (R495; log 3). -/
opaque shortResetPulse : Nat → Bool

/-- The clockIdentity of the part's PTP port, which the spec does not give (R373; log 21). -/
opaque clockIdentity : Nat

/-- The offsetScaledLogVariance of the part's default data set, which the spec does not give (R373; log 21). -/
opaque clockVariance : Nat

/-- The rounding of the last bit of each built-in Regauge coefficient, which the spec does not give (R181; log 32). -/
opaque lanczosRound : Nat → Nat

/-- The centroid fraction of a record whose samples all deviate by 0, which the spec does not give: by DEFECT_ID, segment end and axis
(R252; log 35). -/
opaque zeroCentroid : Nat → Nat → Nat → Nat

/-- What a record says of a last segment without a run, which the spec does not give: by DEFECT_ID, segment end and item (R246; log 66). -/
opaque emptySegment : Nat → Nat → Nat → Nat

/-- The CRC-32C of the items of a digest, whose bytes the spec does not lay out (R460; log 40). -/
opaque digest : List Nat → Nat

/-- The VERSION of each engine and fabric type, which the spec does not give (R74; log 45). -/
opaque engineVersion : Nat → Nat

/-- A byte of DRAM that an apply left undefined: by the range's draw and the address (R70; log 20). -/
opaque staleByte : Nat → Nat → Nat

/-- Whether a DRAM word that an apply left undefined carries poison: by the range's draw and the word (R70; log 20). -/
opaque stalePoison : Nat → Nat → Bool

/-- A field of the IPv4 header of a datagram that the spec does not give: by draw and field (R294; log 77). -/
opaque ipHeader : Nat → Nat → Nat

end Sys2Proof.Config
end

