-- ==== Sys2Proof/Machine/Bits.lean ====
section
/-! DEFINITION. Helpers that know no State: register descriptions (R8 to R12), bit fields, signed and fixed-point numbers and
their rounding (R6, R7), ordered cells, and the cyclic checks of the part. -/

namespace Sys2Proof.Machine

/-- The register blocks (R475, R480). -/
inductive Blk where
  | GLB | HDR | YOK | OUT | PST | LCH | TMT | WAY | PWR | CLK | PAI | RNG
  | REI | BKL | WHT | DRY | MEW | DMC | WWT | LAN
  | ING | TRU | RGA | CPL | SPR | SEG | LBL | DBM | STA | PAT | PMT | PVW
  deriving DecidableEq, Repr

/-- The access codes of R10. -/
inductive Acc where
  | RW | RO | W1C | W1S | WP | RWS | YH
  deriving DecidableEq, Repr

/-- The reset domains of R12, in their order. -/
inductive Dom where
  | P | C | H | Y
  deriving DecidableEq, Repr

/-- One field of a register (R9): its block, the register's offset in the window, its bits, code and reset value. -/
structure Fld where
  blk : Blk
  off : Nat
  hi : Nat
  lo : Nat
  acc : Acc
  rst : Nat
  deriving DecidableEq, Repr

/-- One register of a block, or an array of `cnt` of them `stride` apart, repeated in `gcnt` groups `gstride` apart. -/
structure RegDef where
  blk : Blk
  off : Nat
  cnt : Nat
  stride : Nat
  gcnt : Nat
  gstride : Nat
  dom : Dom
  lo64 : Bool
  fields : List Fld
  deriving DecidableEq, Repr

/-- A number for a block: its order in this type, used in register keys. -/
def Blk.code : Blk → Nat
  | .GLB => 0 | .HDR => 1 | .YOK => 2 | .OUT => 3 | .PST => 4 | .LCH => 5 | .TMT => 6 | .WAY => 7
  | .PWR => 8 | .PAI => 9 | .RNG => 10 | .CLK => 11
  | .REI => 12 | .BKL => 13 | .WHT => 14 | .DRY => 15 | .MEW => 16 | .DMC => 17 | .WWT => 18 | .LAN => 19
  | .ING => 20 | .TRU => 21 | .RGA => 22 | .CPL => 23 | .SPR => 24 | .SEG => 25 | .LBL => 26 | .DBM => 27
  | .STA => 28 | .PAT => 29 | .PMT => 30 | .PVW => 31

/-- The block of a code, GLB for a number that is none. -/
def blkOfCode (n : Nat) : Blk :=
  ([.GLB, .HDR, .YOK, .OUT, .PST, .LCH, .TMT, .WAY, .PWR, .PAI, .RNG, .CLK, .REI, .BKL, .WHT, .DRY, .MEW, .DMC,
    .WWT, .LAN, .ING, .TRU, .RGA, .CPL, .SPR, .SEG, .LBL, .DBM, .STA, .PAT, .PMT, .PVW] : List Blk).getD n .GLB

/-- The directory TYPE code of a block (R480); 0 for a global block, which has no directory entry. -/
def Blk.typeCode : Blk → Nat
  | .ING => 1 | .TRU => 2 | .RGA => 3 | .CPL => 4 | .SPR => 5 | .SEG => 6 | .LBL => 7 | .DBM => 8
  | .STA => 9 | .PAT => 0xA | .PMT => 0xB | .PVW => 0xC
  | .LAN => 0x100 | .DMC => 0x101 | .MEW => 0x102 | .DRY => 0x103 | .WHT => 0x104 | .REI => 0x105
  | .BKL => 0x106 | .WWT => 0x107
  | .GLB | .HDR | .YOK | .OUT | .PST | .LCH | .TMT | .WAY | .PWR | .CLK | .PAI | .RNG => 0

/-- Every block that a directory TYPE code names. -/
def typedBlocks : List Blk :=
  [.ING, .TRU, .RGA, .CPL, .SPR, .SEG, .LBL, .DBM, .STA, .PAT, .PMT, .PVW,
   .LAN, .DMC, .MEW, .DRY, .WHT, .REI, .BKL, .WWT]

/-- The block of a TYPE code. -/
def blkOfType (t : Nat) : Option Blk := typedBlocks.find? (fun b => b.typeCode == t)

/-- The least window span of a TYPE (R480). -/
def Blk.leastSpan : Blk → Nat
  | .TRU => 40 * 1024
  | .SPR => 84 * 1024
  | .MEW => 32 * 1024
  | _ => 4096

/-- How many instances of a TYPE one coach has (R480); unit 8 of WHT exists on C0 only. -/
def Blk.perCoach : Blk → Nat
  | .ING => 8 | .TRU => 6 | .RGA => 6 | .CPL => 3 | .SPR => 6 | .SEG => 6 | .LBL => 6 | .DBM => 1
  | .STA => 6 | .PAT => 2 | .PMT => 4 | .PVW => 2 | .LAN => 16 | .DMC => 2 | .WHT => 9
  | _ => 1

/-- The rank of a domain in the order P, C, H, Y (R12). -/
def Dom.rank : Dom → Nat
  | .P => 0 | .C => 1 | .H => 2 | .Y => 3

/-- The same field `d` bytes further on: another register of the array or another group. -/
def Fld.sh (f : Fld) (d : Nat) : Fld := { f with off := f.off + d }

/-- Bits hi to lo of a word, as a number. -/
def getBits (w : Word) (hi lo : Nat) : Nat := (w.toNat / 2 ^ lo) % 2 ^ (hi + 1 - lo)

/-- The mask of bits hi to lo. -/
def maskBits (hi lo : Nat) : Word := BitVec.ofNat 32 ((2 ^ (hi + 1 - lo) - 1) * 2 ^ lo)

/-- The word with bits hi to lo replaced by v, taken modulo the field's width. -/
def putBits (w : Word) (hi lo v : Nat) : Word :=
  (w &&& ~~~ maskBits hi lo) ||| (BitVec.ofNat 32 (v * 2 ^ lo) &&& maskBits hi lo)

/-- Bit n of a number. -/
def bit (v n : Nat) : Bool := v.testBit n

/-- 1 for true, 0 for false. -/
def b2n (b : Bool) : Nat := if b then 1 else 0

/-- The number v of n bits read as two's complement. -/
def sgn (n v : Nat) : Int := if v % 2 ^ n < 2 ^ (n - 1) then (v % 2 ^ n : Nat) else ((v % 2 ^ n : Nat) : Int) - 2 ^ n

/-- The two's complement of n bits of an integer, as a number. -/
def unsgn (n : Nat) (i : Int) : Nat := (i % (2 ^ n : Int)).toNat

/-- Round num / den to the nearest integer, an exact tie to the even one (R7); 0 for den = 0. -/
def rne (num : Int) (den : Nat) : Int :=
  if den = 0 then 0
  else
    let q := Int.ediv num den
    let r := Int.emod num den
    if 2 * r < den then q
    else if 2 * r > den then q + 1
    else if q % 2 = 0 then q else q + 1

/-- Limit an integer to a range. -/
def clampI (lo hi x : Int) : Int := if x < lo then lo else if x > hi then hi else x

/-- Limit a natural number to an upper bound. -/
def satN (hi x : Nat) : Nat := if x > hi then hi else x

/-- num / den rounded up; 0 for den = 0. -/
def ceilDiv (num den : Nat) : Nat := if den = 0 then 0 else (num + den - 1) / den

/-- x rounded up to a multiple of d. -/
def alignUp (x d : Nat) : Nat := ceilDiv x d * d

/-- The integer square root, by bits from the top. -/
def isqrtGo : Nat → Nat → Nat → Nat
  | 0, _, acc => acc
  | k + 1, n, acc => let t := acc + 2 ^ k; isqrtGo k n (if t * t ≤ n then t else acc)

/-- floor of the square root of a number below 2^128. -/
def isqrt (n : Nat) : Nat := isqrtGo 64 n 0

/-! ### Ordered cells -/

/-- The value at a key of a list of cells. -/
def cget {α : Type} : List (Nat × α) → Nat → Option α
  | [], _ => none
  | (k, v) :: t, a => if a = k then some v else cget t a

/-- Put a value at a key, keeping the keys rising. -/
def cset {α : Type} : List (Nat × α) → Nat → α → List (Nat × α)
  | [], a, x => [(a, x)]
  | (k, v) :: t, a, x =>
    if a < k then (a, x) :: (k, v) :: t
    else if a = k then (a, x) :: t
    else (k, v) :: cset t a x

/-- Take a key out. -/
def cdel {α : Type} : List (Nat × α) → Nat → List (Nat × α)
  | [], _ => []
  | (k, v) :: t, a => if a = k then t else (k, v) :: cdel t a

/-- The value at a key, or d. -/
def cgetD {α : Type} (m : List (Nat × α)) (a : Nat) (d : α) : α := (cget m a).getD d

/-- Change the value at a key, starting from d where there is none. -/
def cmod {α : Type} (m : List (Nat × α)) (a : Nat) (d : α) (f : α → α) : List (Nat × α) := cset m a (f (cgetD m a d))

/-- The keys rise strictly. -/
def ckeysRise {α : Type} : List (Nat × α) → Bool
  | [] => true
  | [_] => true
  | (k, _) :: (k', v') :: t => decide (k < k') && ckeysRise ((k', v') :: t)

/-- The element at a place of a list changed by f; a place beyond the end changes nothing. -/
def lmod {α : Type} : List α → Nat → (α → α) → List α
  | [], _, _ => []
  | x :: t, 0, f => f x :: t
  | x :: t, n + 1, f => x :: lmod t n f

/-- A list without the first element that p picks. -/
def dropFirst {α : Type} (p : α → Bool) : List α → List α
  | [] => []
  | x :: t => if p x then t else x :: dropFirst p t

/-- Insert into a list ordered by a key, after every element of the same key. -/
def insertBy {α : Type} (key : α → Nat) (x : α) : List α → List α
  | [] => [x]
  | y :: t => if key x < key y then x :: y :: t else y :: insertBy key x t

/-- Sort by a key, keeping the order of equal keys. -/
def sortBy {α : Type} (key : α → Nat) (l : List α) : List α := l.foldl (fun acc x => insertBy key x acc) []

/-- The numbers lo, lo + 1, ..., lo + n - 1. -/
def rangeFrom (lo n : Nat) : List Nat := (List.range n).map (· + lo)

/-! ### Bytes and words -/

/-- The n low bytes of a number, least significant first. -/
def toBytes : Nat → Nat → List Byte
  | 0, _ => []
  | n + 1, v => BitVec.ofNat 8 v :: toBytes n (v / 256)

/-- The number whose bytes, least significant first, are given. -/
def ofBytes : List Byte → Nat
  | [] => 0
  | b :: t => b.toNat + 256 * ofBytes t

/-- n bytes of a list from a place on; a byte beyond the end reads 0. -/
def bytesAt (l : List Byte) (off n : Nat) : List Byte := ((l.drop off).take n) ++ List.replicate (n - (l.length - off)) 0

/-- The little-endian number of n bytes at a place of a byte list. -/
def leAt (l : List Byte) (off n : Nat) : Nat := ofBytes (bytesAt l off n)

/-- The big-endian number of n bytes at a place of a byte list (network order). -/
def beAt (l : List Byte) (off n : Nat) : Nat := ofBytes (bytesAt l off n).reverse

/-- One bit into a cyclic check register of n bits, most significant bit first. -/
def crcBit (n poly : Nat) (crc : Nat) (b : Bool) : Nat :=
  let fb := crc.testBit (n - 1) != b
  let sh := (crc * 2) % 2 ^ n
  if fb then sh ^^^ poly else sh

/-- The bits of a number, most significant of n first. -/
def bitsMsb (n v : Nat) : List Bool := (List.range n).map (fun i => v.testBit (n - 1 - i))

/-- A check of n bits over bits, most significant bit first, no final inversion. -/
def crcBits (n poly init : Nat) (l : List Bool) : Nat := l.foldl (crcBit n poly) init

/-- CRC-8 of the Outrider and of PI packets: x^8 + x^2 + x + 1, initial value 0, bytes most significant bit first (R397). -/
def crc8 (l : List Byte) : Nat := crcBits 8 0x07 0 (l.flatMap (fun b => bitsMsb 8 b.toNat))

/-- One bit of a reflected check register. -/
def crcRefStep (poly : Nat) : Nat → Nat → Nat
  | 0, c => c
  | k + 1, c => crcRefStep poly k (if c.testBit 0 then (c / 2) ^^^ poly else c / 2)

/-- CRC-32C, the Castagnoli check: reflected polynomial 0x82F63B78, initial value and final inversion all ones. -/
def crc32c (l : List Byte) : Nat :=
  (l.foldl (fun c b => crcRefStep 0x82F63B78 8 (c ^^^ b.toNat)) 0xFFFFFFFF) ^^^ 0xFFFFFFFF

/-- CRC-32, the frame check of Ethernet (R83): reflected polynomial 0xEDB88320, initial value and final inversion all ones. -/
def crc32 (l : List Byte) : Nat :=
  (l.foldl (fun c b => crcRefStep 0xEDB88320 8 (c ^^^ b.toNat)) 0xFFFFFFFF) ^^^ 0xFFFFFFFF

/-- An Ethernet frame with its FCS behind it (R83). -/
def withFcs (l : List Byte) : List Byte := l ++ toBytes 4 (crc32 l)

/-- The word of R15 for an error code: the letter's ASCII byte in bits 23 to 16, the digits below. -/
def codeWord (letter : Char) (digits : Nat) : Nat := letter.toNat * 65536 + digits % 65536

end Sys2Proof.Machine
end

