-- ==== Sys2Proof/Machine/Data/Chain.lean ====
section
/-! DEFINITION. What travels through the carriages and the Mews that carry it: lines with their tags, gap markers, features of
components, edge reports, records (R122, R127, R235, R237, R240, R328). -/

namespace Sys2Proof.Machine

/-- The line tag (R122). Its carriage is the chain's, its version 1. -/
structure Tag where
  md : Int
  time : Int
  index : Nat
  epoch : Nat
  camLine : Nat
  flags : Nat
  deriving DecidableEq, Repr

/-- A run of a run list: columns start to stop and the class mask (R232). -/
structure Run where
  start : Nat
  stop : Nat
  mask : Nat
  deriving DecidableEq, Repr

/-- A line in the chain. `grid` is its grid line m behind Regauge; samples are codes, WP16 or S16 by place; `poison` names the
poisoned columns of each plane; `rb` is ING_LINE.RB_ORDER as it was when the line was parsed (R191). -/
structure Line where
  tag : Tag
  grid : Nat
  rb : Nat
  planes : List (List Int)
  poison : List (List Nat)
  unjoinedLow : Bool
  unjoinedHigh : Bool
  runs : List Run          -- the owned list, behind SEG
  under : List Int         -- the corrections it was formed under: ING_MD_OFFSET, and RGA_CD_START and RGA_BANK.SEL behind Regauge (R211)
  deriving DecidableEq, Repr

/-- A gap marker (R127). Behind Regauge `from_` and `til` are the grid lines it stands for (R197), none where `til` < `from_`. -/
structure Gap where
  cause : Nat
  first : Nat
  last : Nat
  md0 : Int
  md1 : Int
  time0 : Int
  time1 : Int
  count : Nat
  bridged : Bool
  indexed : Bool
  from_ : Nat
  til : Nat
  deriving DecidableEq, Repr

/-- The features of a component in one segment (R235, R246) and what its record needs (R250). Sums are on the package origin. -/
structure Feat where
  area : Nat
  xmin : Nat
  xmax : Nat
  mfirst : Nat
  mlast : Nat
  sx : Nat
  sm : Nat
  wa : Nat
  wax : Nat
  wam : Nat
  sxx : Nat
  smm : Nat
  sxm : Nat
  emin : Int
  emax : Int
  esum : Int
  classes : List Nat
  md : Int              -- lowest tag MD of its lines (R252)
  time : Int            -- TIME of the last line, from the lowest carriage with a run there
  timeBy : Nat
  epoch : Nat           -- EPOCH of the first line, from the lowest carriage with a run there
  epochBy : Nat
  epochLast : Nat
  epochLastBy : Nat
  seen : List (Nat × Nat) -- (carriage, epoch) pairs seen
  carrLo : Nat
  carrHi : Nat
  flags : Nat           -- record flags (R251)
  deriving DecidableEq, Repr

/-- A fragment that LBL hands to its slice (R238, R246): the labels of its component, the segment it ends, its closing line, its seam mark (bit 0
the low side, bit 1 the high side). A cut leaves the component open. -/
structure Frag where
  carriage : Nat
  labels : List Nat
  seg : Nat
  feat : Option Feat
  flags : Nat
  close : Nat
  cut : Bool
  forced : Nat          -- closed early (R244): 1 alone, 2 with every component of its carriage, 3 of the package; else 0
  seams : Nat
  deriving DecidableEq, Repr

/-- An edge report (R237): the seam's low carriage (255 for the seam with a ring neighbour to the west), the side it comes from, its line, the
carriage and label of its component, and the run, in package columns. -/
structure Report where
  seam : Nat
  low : Bool
  line : Nat
  car : Nat
  label : Nat
  start : Nat
  stop : Nat
  deriving DecidableEq, Repr

/-- What a packet of a Mews carries. -/
inductive Item where
  | line (l : Line)
  | gap (g : Gap)
  | frag (f : Frag)
  | report (r : Report)
  | seam (g first last : Nat)        -- a run of lines that a seam unit marked unjoined, for its gap record
  | frontier (g line : Nat)
  | force (nodes : List (Nat × Nat)) (line : Nat) -- a full slice closes a set (R240)
  | flushMark
  | start                            -- a decode job starts: what follows is as after the carriage's start (R287)
  | bytes (l : List Byte)
  | lost (n : Nat)                   -- in a tap: n lines that it could not take come here (R40, R283)
  deriving DecidableEq, Repr

/-- A packet in a Mews (R328): its units, how many the consumer has read, whether its end mark is in, how it ended, what it carries. -/
structure MewPkt where
  units : Nat
  taken : Nat
  ended : Bool
  bad : Bool
  truncated : Bool
  item : Option Item
  deriving DecidableEq, Repr

/-- A Mews beyond its registers: packets oldest first, units its stalled producer still holds, how many packets a flush will discard,
how many jobs that a PAT has taken from it (R333), and whether its pointer word was lost (R322). -/
structure Mews where
  packets : List MewPkt
  owed : Nat
  flush : Option Nat
  jobs : Nat
  hwFlush : Bool
  deriving DecidableEq, Repr

/-- An empty Mews. -/
def Mews.fresh : Mews := ⟨[], 0, none, 0, false⟩

end Sys2Proof.Machine
end

