-- ==== Sys2Proof/Machine/Data/Records.lean ====
section
/-! DEFINITION. The labeller, the Drawbar merge and the patch cutters beyond their registers (R234 to R267). -/

namespace Sys2Proof.Machine

/-- An open component of a carriage (R234, R235): its label and those it united, its last line with a run, its lowest column, the features of
its present segment, and the joined sides whose boundary columns it covers (bit 0 low, bit 1 high). -/
structure Comp where
  label : Nat
  labels : List Nat
  last : Nat
  col : Nat
  feat : Option Feat
  seams : Nat
  deriving DecidableEq, Repr

/-- A labeller: open components, runs of the previous line as first column, last column and label, and the next label; `owes` is the cause of
the gap that the next line closes: 0 none, 0x17 a flush (R333), 5 a harness load (R70). -/
structure Lbl where
  comps : List Comp
  before : List (Nat × Nat × Nat)
  lastLine : Option Nat
  next : Nat
  lastTag : Option Tag
  owes : Nat
  deriving DecidableEq, Repr

/-- A labeller that has no line yet. -/
def Lbl.fresh : Lbl := ⟨[], [], none, 0, none, 0⟩

/-- A set of the merge (R240, R241): members and closed members as carriage and label, the cut that each open member has handed in last,
the features handed in, set flags, its DEFECT_ID, the next CONT, the segments found ready, whether it was detached, and the closing line
that closed it early (R244). -/
structure DSet where
  members : List (Nat × Nat)
  closed : List (Nat × Nat)
  handed : List ((Nat × Nat) × Nat)
  parts : List Frag
  flags : Nat
  did : Option Nat
  cont : Nat
  ready : List Nat
  solo : Bool
  forced : Option Nat
  deriving DecidableEq, Repr

/-- What a patch needs of its record (R262 to R264). -/
structure PatJob where
  stream : Nat              -- 255 live, else the replay carriage
  did : Nat
  cont : Nat
  seq : Nat
  flags : Nat
  first : Nat               -- FIRST_CARRIAGE
  feat : Feat
  centreX : Nat
  centreM : Nat
  deriving DecidableEq, Repr

/-- A record that waits for its turn (R247): its key, its class, its 64 bytes with SEQUENCE 0, and its patch. -/
structure Rec where
  sort : Nat
  kind : Nat
  cd : Int
  did : Nat
  cls : Nat
  body : List Byte
  mdEnd : Nat
  job : Option PatJob
  deriving DecidableEq, Repr

/-- What was shed in a period of P lines (R255). -/
structure Shed where
  period : Nat
  lines : Nat
  counts : List Nat
  patches : Nat
  deriving DecidableEq, Repr

/-- The pending summary of a full queue (R260). -/
structure Fold where
  period : Nat
  lines : Nat
  mdEnd : Nat
  counts : List Nat
  patches : Nat
  gaps : Nat
  deriving DecidableEq, Repr

/-- A record stream: the live one, or a replay carriage's (R240, R261). `front` is f_g by carriage, `seen` the line up to which each
carriage has been heard. -/
structure Stream where
  sets : List DSet
  reports : List (Nat × Report)   -- by carriage
  recs : List Rec                 -- in the order of R247
  front : List (Nat × Nat)
  seen : List (Nat × Nat)
  phi : Nat
  sheds : List Shed
  fold : Option Fold
  sumNext : Option Nat            -- with ALWAYS, the first line not yet summarised
  awaiting : List (Nat × Rec)     -- sent to the standby and not yet confirmed, with SEQUENCE (R459)
  shadows : List Rec              -- on a standby, records formed and not yet matched (R458)
  ackLow : Nat                    -- the low word written to the acknowledgement, which its high word applies (R256)
  deriving DecidableEq, Repr

/-- A stream without a record. -/
def Stream.fresh : Stream := ⟨[], [], [], [], [], 0, [], none, none, [], [], 0⟩

/-- A set as its slice knows it (R240): its members, its last line and its first column. -/
structure SliceSet where
  members : List (Nat × Nat)
  closed : List (Nat × Nat)
  last : Nat
  col : Nat
  deriving DecidableEq, Repr

/-- What a slice forwards to the live DBM. -/
structure Fwd where
  carriage : Nat
  item : Item
  deriving DecidableEq, Repr

/-- A DBM slice: its open sets, oldest first, the reports of its inner seams, and what waits to be forwarded. -/
structure Slice where
  sets : List SliceSet
  reports : List (Nat × Report)
  fwd : List Fwd
  deriving DecidableEq, Repr

/-- A slice that knows nothing. -/
def Slice.fresh : Slice := ⟨[], [], []⟩

/-- The Drawbar merge: streams by carriage with the live one at 255, slices by coach, the next DEFECT_ID, the first line of the next LAG
chunk of each excluded carriage (R245), and the continuation limit before the latest change with the line at which it ends (R268). -/
structure Dbm where
  streams : List (Nat × Stream)
  slices : List (Nat × Slice)
  nextId : Nat
  lag : List (Nat × Nat)
  contOld : Nat
  contFrom : Nat
  deriving DecidableEq, Repr

end Sys2Proof.Machine
end

