-- ==== Sys2Proof/Machine/Data/Stage.lean ====
section
/-! DEFINITION. Truing, Regauge, seam units and Springs beyond their registers (R169 to R228). -/

namespace Sys2Proof.Machine

/-- A table bank of Truing (R177): D in bits 15:0 and G in bits 33:16 of each entry, plane by plane, absent entries at their default; the
defect map as (plane, column, half window); and the entries that SRAM can no longer give (R183). -/
structure TruBank where
  base : Nat
  entries : List Nat
  map : List (Nat × Nat × Nat)
  bad : List Nat
  deriving DecidableEq, Repr

/-- A strip measurement in progress (R184). -/
structure RefRun where
  lines : Nat
  sums : List (List Nat)     -- per reported plane and strip column
  epoch : Nat
  since : Nat
  deriving DecidableEq, Repr

/-- A Truing corrector. -/
structure Tru where
  banks : List TruBank
  loading : Option (Nat × Nat) -- bank and image address of the load in progress
  ref : Option RefRun
  results : List (Nat × List (List Nat)) -- completed measurements of the run, oldest first: active TABLE_ID and sums
  last : Option Tag          -- the latest line's tag
  flushed : Bool             -- a flush mark came after it (R333)
  deriving DecidableEq, Repr

/-- An accepted GAIN result on its way into the datapath (R186), or a factor that the primary sent (R456): factors by reported plane in u2.30,
the TABLE_ID measured, the quality figures, when it came, and its step: 0 waits for the loader, 1 loads the rebuilt
image into `bank` as `newId`, 2 waits for its commit. -/
structure GainJob where
  ks : List Nat
  ident : Nat
  q1 : Nat
  q2 : Nat
  since : Nat
  step : Nat
  bank : Nat
  newId : Nat
  mirrored : Bool
  deriving DecidableEq, Repr

/-- Accepted SEAM corrections that are not yet in force (R213, R214): D_cd and D_md by carriage. -/
structure SeamFix where
  sums : List (Nat × (Int × Int))
  q1 : Nat
  q2 : Nat
  detail : Nat
  since : Nat
  staged : Bool
  deriving DecidableEq, Repr

/-- A table bank of Regauge (R178): increments, where none are listed all at `uniform`; coefficients, phase by phase, where none are listed
the built-in sets; and the entries that SRAM can no longer give. -/
structure RgaBank where
  uniform : Nat
  incs : List Nat
  cd : List Int
  md : List Int
  badInc : List Nat
  badCd : List Nat
  badMd : List Nat
  deriving DecidableEq, Repr

/-- A line in the MD stage (R190, R194): its tag and samples, RB_ORDER, and whether it was synthesised (R196) and has no samples. -/
structure MidLine where
  tag : Tag
  planes : List (List Int)
  made : Bool
  rb : Nat
  under : List Int
  deriving DecidableEq, Repr

/-- A Regauge resampler. `lines` holds the latest lines of the stretch since the start or hole, newest first. -/
structure Rga where
  banks : List RgaBank
  loading : Option (Nat × Nat)
  lines : List MidLine
  count : Nat                -- lines of the stretch
  bases : Nat                -- those whose output lines have left
  top : Option Int           -- the highest MD taken
  next : Nat                 -- the next output grid line
  pending : Option Gap       -- a single missing line that waits for the line behind it (R196)
  held : List Gap            -- markers of bridged lines that wait for their place between the output lines (R196, R247)
  gapSeen : Bool             -- a marker came; the next output line carries GAP_BEFORE
  epoch : Option Nat         -- EPOCH of the latest output line
  flushed : Bool
  deriving DecidableEq, Repr

/-- What becomes of something that a seam unit holds (R208): it waits for its partner, is joined, or passes as it is. -/
inductive SeamFate where
  | waits | joined | alone
  deriving DecidableEq, Repr

/-- Something that a seam unit holds. -/
structure SeamEntry where
  item : Item
  fate : SeamFate
  deriving DecidableEq, Repr

/-- One side of a seam unit: what it holds, oldest first; the highest grid line delivered or passed over by a marker; the latest line that
left; the latest tag and whether a flush mark came behind it. -/
structure SeamSide where
  entries : List SeamEntry
  top : Option Nat
  left : Option Line
  tag : Option Tag
  flushed : Bool
  deriving DecidableEq, Repr

/-- A registration window (R209, R210). -/
structure RegWindow where
  lines : Nat
  n : Nat                    -- samples used
  sxx : Int                  -- 16 Sxx
  syy : Int
  sxy : Int
  sxd : Int                  -- 8 R Sxd
  syd : Int
  sad : List Nat             -- j = −8 to 8
  inRun : Bool               -- it opened in the SEAM run in progress (R212)
  deriving DecidableEq, Repr

/-- A seam unit. -/
structure Seam where
  low : SeamSide
  high : SeamSide
  q : Option Int             -- q of the line before; none after a restart (R206)
  late : List Nat            -- grid lines that went unjoined and whose partner may still come
  unjoined : Option (Nat × Nat) -- the run of unjoined lines
  k : Int                    -- the coarse shift
  window : RegWindow
  results : List (Int × Int) -- windows that opened in a SEAM run and were published: d_cd, d_md (R212)
  seen : List Word           -- settings at the latest line (R206, R211)
  under : Option (List Int)  -- the corrections of the latest joined pair; none where the next pair restarts the window (R211, R214)
  deriving DecidableEq, Repr

/-- How Springs smooths a line (R222): the settings in force when it was formed, and the shift of its MD (R224). -/
structure Smooth where
  mode : Nat
  coef : List Int
  shift : Nat
  deriving DecidableEq, Repr

/-- A line in Springs: working samples, the columns replaced (R216), its deviation and smoothing once formed, and what passes behind it. -/
structure SprLine where
  line : Line
  x : List Int
  bad : List Nat
  e : List Int
  rank : Nat                 -- h of its rank window
  smooth : Smooth
  behind : List Item
  deriving DecidableEq, Repr

/-- A column of Springs: its baseline in 2^-20, skipped updates in a row, whether it is released (R217, R220), and its own seed after its
baseline was lost in SRAM (R322): 0 asks for one at the next line, else 1 more than the line it was seeded at. -/
structure SprCol where
  b : Nat
  skipped : Nat
  released : Bool
  own : Option Nat
  deriving DecidableEq, Repr

/-- An update that waits for its freeze mask: line k, rank-filter output, replaced columns, the F that governs it (R219). -/
structure SprUpd where
  k : Nat
  r : List Int
  bad : List Nat
  feedback : Nat
  deriving DecidableEq, Repr

/-- Springs of a carriage. `lines` are lines of the present stretch, the first at place `base` of the stretch. -/
structure Spr where
  cols : List SprCol
  lines : List SprLine
  base : Nat
  formed : Nat               -- places formed
  out : Nat                  -- places given out
  closing : Option Item      -- the marker that ends the stretch, once all has left
  seeded : Bool
  s : Nat                    -- the line of the latest seed
  hole : Bool                -- a hole since the last line
  lastGrid : Option Nat
  lastTag : Option Tag
  updates : List SprUpd      -- oldest first
  sent : List (Nat × List Run)  -- masks on their way back from SEG
  masks : List (Nat × List Run) -- masks that came back, newest first
  frozen : Option (Nat × Nat)   -- the hold of R221: first and last line
  lastMd : Option Int        -- the last line given out: MD and grid line
  lastOut : Nat
  shift : Nat                -- S of the last line given out
  shiftFrom : Option (Int × Nat) -- the last line given out under the old S (R224)
  flushed : Bool
  deriving DecidableEq, Repr

/-- A line of the corrected-line history (R26): owned columns only, with its poisoned columns. -/
structure HistLine where
  grid : Nat
  md : Int
  planes : List (List Int)
  poison : List (List Nat)
  deriving DecidableEq, Repr

/-- A Springs that has no line yet. -/
def Spr.fresh : Spr :=
  ⟨[], [], 0, 0, 0, none, false, 0, false, none, none, [], [], [], none, none, 0, 0, none, false⟩

/-- A line in SEG, and what passes behind it. -/
structure SegLine where
  line : Line
  behind : List Item
  deriving DecidableEq, Repr

/-- A segmenter (R229 to R233): lines of the present stretch, and the foreground spans of the previous line, class by class. -/
structure Seg where
  lines : List SegLine
  base : Nat
  formed : Nat
  closing : Option Item
  before : Option (List (List (Nat × Nat)))
  lastTag : Option Tag
  lastGrid : Option Nat
  flushed : Bool
  deriving DecidableEq, Repr

/-- A SEG that has no line yet. -/
def Seg.fresh : Seg := ⟨[], 0, 0, none, none, none, none, false⟩

end Sys2Proof.Machine
end

