-- ==== Sys2Proof/Machine/Data/Pair.lean ====
section
/-! DEFINITION. The redundant pair and the ring beyond their registers (R450 to R473). -/

namespace Sys2Proof.Machine

/-- One of the three items of a digest that an engine of a carriage forms at a grid line (R460): 0 Springs, 1 SEG, 2 LBL. -/
structure DigPart where
  carriage : Nat
  line : Nat
  item : Nat
  words : List Nat
  deriving DecidableEq, Repr

/-- A digest of a carriage at a grid line, formed or received at an instant. -/
structure Dig where
  carriage : Nat
  line : Nat
  crc : Nat
  since : Nat
  deriving DecidableEq, Repr

/-- The state of a carriage after a grid line that a resync carries over (R461): baselines with the line of the latest seed, SEG's previous
foreground, LBL's open components and previous runs, EPOCH and pending epochs. -/
structure Snapshot where
  line : Nat
  cols : List SprCol
  seed : Nat
  fg : List (List (Nat × Nat))
  comps : List Comp
  before : List (Nat × Nat × Nat)
  epoch : Nat
  epochs : List (Option Nat × Bool × Nat)
  deriving DecidableEq, Repr

/-- A STATE message (R454, R461). -/
inductive StateMsg where
  | snapshot (x : Snapshot)
  | line (l : Line)
  deriving DecidableEq, Repr

/-- A resync on the standby (R461): its carriage, when it began, m_s once the snapshot came, the last mirrored line, and the mirrored line at
which its own input has caught up. -/
structure Resync where
  carriage : Nat
  since : Nat
  from_ : Option Nat
  last : Nat
  held : Option Line
  deriving DecidableEq, Repr

/-- The latest mirrored trigger of a port (R456), its speed in 2^-32 nm/ns. -/
structure MirTrig where
  n : Nat
  instant : Int
  pos : Nat
  speed : Int
  unsure : Bool
  deriving DecidableEq, Repr

/-- The pair. -/
structure Pair where
  joinSince : Option Nat          -- stage 11 passed and no HELLO came yet (R452)
  aligned : Bool                  -- a heartbeat came since the part became standby (R466)
  lastRec : Option Rec            -- the latest mirrored record
  phi : Nat                       -- the mirrored Φ
  unmatched : List Rec            -- mirrored records that no shadow has met (R458)
  trigs : List (Nat × MirTrig)    -- the latest mirrored trigger by port
  silent : List (Nat × List Int)  -- instants of the generators' own events since, by port
  liveFrom : Option Int           -- after a takeover: when the generators go live (R463)
  parts : List DigPart
  own : List Dig
  theirs : List Dig
  snapWait : Option Nat           -- the carriage whose next output line is to be taken over (R461 step 2)
  snap : Option (Nat × Nat)       -- that carriage and m_s
  sending : Option Nat            -- the carriage whose SPR input lines go to the standby
  queued : List Line              -- those of them that wait for the snapshot to go first
  resync : Option Resync
  waiting : List Nat              -- carriages whose resync waits, rising
  synced : List Nat               -- carriages resynced since the part rejoined
  joinedAt : List (Nat × Nat)     -- their lines at that time
  handover : Option Nat           -- P of a switchover under way (R465)
  deriving DecidableEq, Repr

/-- No pair. -/
def Pair.fresh : Pair := ⟨none, false, none, 0, [], [], [], none, [], [], [], none, none, none, [], none, [], [], [], none⟩

/-- A hello of a ring lane (R469). -/
structure RingHello where
  pos : Nat
  size : Nat
  gridCd : Nat
  gridMd : Nat
  column0 : Int
  columns : Nat
  overlap : Nat
  leader : Nat
  web : Nat
  time : Nat
  phi : Nat
  deriving DecidableEq, Repr

/-- The ring: the latest hellos from west and east, whether each neighbour was lost since, and the partial sets that were sent west and not
yet passed by that neighbour's Φ, by segment. -/
structure Ring where
  west : Option RingHello
  east : Option RingHello
  lostWest : Bool
  lostEast : Bool
  kept : List (Nat × DSet)
  deriving DecidableEq, Repr

/-- No ring. -/
def Ring.fresh : Ring := ⟨none, none, false, false, []⟩

end Sys2Proof.Machine
end

