-- ==== Sys2Proof/Syntax/Operands.lean ====
section
/-! DEFINITION. Compound operands of commands. -/

namespace Sys2Proof

/-- A request that reaches a Whiffletree unit: its input, its length in beats, and the ns since it began (R346, R351). -/
structure BusReq where
  input : Nat
  beats : Nat
  ago : Nat
  deriving DecidableEq, Repr

/-- What an uncorrectable word of coach SRAM held (R322). Banks are those of the carriage's TRU or RGA; a window is named by the low carriage
of its seam. -/
inductive SramWord where
  | samples (mews packet plane col : Nat)
  | component (car label : Nat)
  | baseline (car col : Nat)
  | window (car : Nat)
  | pointer (mews : Nat)
  | truEntry (car bank entry : Nat)
  | rgaIncrement (car bank entry : Nat)
  | rgaCd (car bank entry : Nat)
  | rgaMd (car bank entry : Nat)
  | other
  deriving DecidableEq, Repr

/-- Where an uncorrectable word of the Waybill lies (R323, R324). -/
inductive WaybillPlace where
  | slotA | slotB | daxA | daxB | other
  deriving DecidableEq, Repr

end Sys2Proof
end

