-- ==== Sys2Proof/Syntax.lean ====
section
/-! DEFINITION. The commands of the block: one constructor for each row of spec/opcode_table.json, in its order, with what the command
brings from outside (a master and the word it writes, a lane, a carriage, a packet, a measurement). -/

namespace Sys2Proof

open Sys2Proof.Machine

/-- The commands. The comment of each gives its row, its rule and the row's summary. -/
inductive Instr where
  /-- REGISTER_WRITE (R10). A write to a register that has no row of its own acts on each field by its access code, including staged writes to RWS fields. -/
  | registerWrite (m off be : Nat) (w : Word)
  /-- UNOCCUPIED_ACCESS (R34). An access to an unoccupied offset or DRAM address completes without stalling: a read returns 0, a write is discarded, and G-0010 is recorded. -/
  | unoccupiedAccess (m off : Nat) (isWrite dram : Bool)
  /-- FIFTH_WHEEL_PORT_FAIL (R21). A Fifth-wheel port fails; its link continues on its remaining ports or its traffic reroutes, and L-0050 is recorded. -/
  | fifthWheelPortFail (c p : Nat)
  /-- FIFTH_WHEEL_WORD_RECEIVE (R23). A Felloe word arrives over the Fifth wheel and is checked and corrected, or delivered poisoned with M-0004. -/
  | fifthWheelWordReceive (c p r : Nat)
  /-- HARNESS_LOAD (R67). HDR_CTL.LOAD starts a full or patch load from SRC, or is refused with H-0005 or H-0006. -/
  | harnessLoad (m : Nat) (w : Word)
  /-- HARNESS_SOURCE_COMPLETE (R67). The staged image is complete; parse and check run, and the load fails, ends as check-only, becomes a pending patch, or enters apply. -/
  | harnessSourceComplete
  /-- HARNESS_APPLY_DRAINED (R67). Once carriages have drained, engines, Mews, routes, Reins and partitions are set, H and Y domains reset, YOKE and INIT run, and the directory is published. -/
  | harnessApplyDrained (hwFault : Bool)
  /-- HARNESS_ABORT (R71). HDR_CTL.ABORT ends a load in PHASE 1 to 3 with H-0008; in PHASE 4 it does nothing. -/
  | harnessAbort (m : Nat) (w : Word)
  /-- PATCH_CANCEL (R77). HDR_CTL.PATCH_CANCEL withdraws a pending carriage patch unless its instant has been reached. -/
  | patchCancel (m : Nat) (w : Word)
  /-- PROG_A (R66). HDR_CTL.PROG_A programs slot A with the verified staged image. -/
  | progA (m : Nat) (w : Word)
  /-- PROG_B (R66). HDR_CTL.PROG_B programs slot B with the verified staged image. -/
  | progB (m : Nat) (w : Word)
  /-- SLOT_PROGRAM_COMPLETE (R66). A slot write completes, setting DONE, or fails with H-0009 or another code. -/
  | slotProgramComplete
  /-- ENROL (R63). HDR_KEY_CTL.ENROL from the Outrider writes the digest into an empty key slot, or sets REFUSED. -/
  | enrol (m : Nat) (w : Word)
  /-- REVOKE (R63). HDR_KEY_CTL.REVOKE from the Outrider revokes a key slot for good. -/
  | revoke (m : Nat) (w : Word)
  /-- OR_DATA_APPEND (R64). A write to HDR_OR_DATA from the Outrider appends four bytes to the Outrider image buffer. -/
  | orDataAppend (m : Nat) (w : Word)
  /-- OR_BUFFER_CLEAR (R64). HDR_OR_COUNT.CLEAR empties the Outrider image buffer. -/
  | orBufferClear (m : Nat) (w : Word)
  /-- PATCH_APPLY_INSTANT (R78). A pending patch's instant is reached; the old chain completes the line before it. -/
  | patchApplyInstant
  /-- PATCH_CHAIN_DRAINED (R78). The old chain has drained; open components close truncated and the engines are reconfigured with YOKE and INIT. -/
  | patchChainDrained
  /-- PATCH_CHAIN_READY (R78). The patched chain is ready; the ING accepts lines again and one RECONFIG gap record names the shed lines. -/
  | patchChainReady
  /-- LANE_PLL_LOCKED (R97). A lane PLL locks during training; an Ethernet transmit direction is then up. -/
  | lanePllLocked (lane : Nat)
  /-- LANE_CDR_LOCKED (R97). A receiver's CDR locks and its DFE adapts; framing starts. -/
  | laneCdrLocked (lane : Nat)
  /-- LANE_FRAMING_DONE (R97). Framing completes and the receive direction is up. -/
  | laneFramingDone (lane eye : Nat)
  /-- LANE_TRAIN_TIMEOUT (R97). A lane not up 100 ms after training began sets L-0001 and starts training again. -/
  | laneTrainTimeout (lane : Nat)
  /-- CXP_DISCOVERY (R82). Daxpamen runs CXP discovery on a connection's master lane and configures the connection. -/
  | cxpDiscovery (c speed count uplink : Nat) (eyes : List Nat)
  /-- CXP_DISCOVERY_TIMEOUT (R82). Discovery exceeds DISC_TIMEOUT and L-0002 is set on every lane of the connection. -/
  | cxpDiscoveryTimeout (c : Nat)
  /-- CXP_STREAM_PACKET (R81). A CXP stream packet arrives; packets of other stream IDs are discarded and counted. -/
  | cxpStreamPacket (lane stream : Nat) (start ending last : Bool) (words poison : List Nat) (errors : Nat)
  /-- CXP_IMAGE_HEADER (R118). A CXP rectangular image header arrives; the image's first line is matched to the oldest outstanding trigger and the format is checked. -/
  | cxpImageHeader (g pfnc lines : Nat)
  /-- CXP_CONTROL_RESPONSE (R135). A CXP control acknowledgement arrives for a settings write or a tunnel transaction. -/
  | cxpControlResponse (g tag status : Nat) (data : List Word)
  /-- CXP_EVENT_PACKET (R136). A CXP event packet arrives and is queued for the host. -/
  | cxpEventPacket (g : Nat) (l : List Byte)
  /-- CXP_HEARTBEAT (R81). A CXP heartbeat packet arrives and its device time is logged against Timetable time. -/
  | cxpHeartbeat (lane time : Nat)
  /-- CXP_CONNECTION_TEST (R81). A CXP connection test packet arrives and is counted with its errors. -/
  | cxpConnectionTest (lane errors : Nat)
  /-- VOXHUS_MARKER_RECEIVE (R88). An alignment marker arrives; it loads the scrambler state and updates marker lock. -/
  | voxhusMarkerReceive (lane : Nat) (bits : List Bool)
  /-- VOXHUS_MARKER_SEND (R87). After every 8,192 Felloe words, or every 64 in training, the transmitter sends an alignment marker. -/
  | voxhusMarkerSend (lane remain : Nat)
  /-- VOXHUS_PACKET_RECEIVE (R90). A Voxhus packet header and its payload words arrive, are deskewed by VC and SEQUENCE and passed to their user. -/
  | voxhusPacketReceive (lane : Nat) (bits : List Bool) (held : Nat)
  /-- VOXHUS_CREDIT_WORD (R93). A credit word arrives and updates the TOTAL of its VC. -/
  | voxhusCreditWord (lane : Nat) (bits : List Bool)
  /-- VOXHUS_CREDIT_SEND (R93). A credit word for a VC leaves, at least every 4,096 words while credits change and every 1 ms otherwise. -/
  | voxhusCreditSend (lane v : Nat)
  /-- VOXHUS_SLEEP_REQUEST (R105). A link word with OP sleep request arrives; the transmitter may sleep once it has acknowledged. -/
  | voxhusSleepRequest (lane : Nat) (bits : List Bool)
  /-- VOXHUS_SLEEP_ACK (R105). A link word with OP sleep acknowledge arrives from the peer. -/
  | voxhusSleepAck (lane : Nat) (bits : List Bool)
  /-- VOXHUS_WAKE (R105). A link word with OP wake arrives and the direction wakes. -/
  | voxhusWake (lane : Nat) (bits : List Bool)
  /-- VOXHUS_KEEP_ALIVE (R89). A link word with OP keep-alive arrives. -/
  | voxhusKeepAlive (lane : Nat) (bits : List Bool)
  /-- TRAINING_LOCK_REPORT (R97). The peer's training lock report arrives; markers return to every 8,192 words, credit words open the VCs and the transmit direction is up. -/
  | trainingLockReport (lane : Nat) (bits : List Bool)
  /-- VOXHUS_RESERVED_WORD (R89). A control-position word of a reserved TYPE is discarded and counted. -/
  | voxhusReservedWord (lane : Nat) (bits : List Bool)
  /-- ETH_FRAME_RECEIVE (R83). An Ethernet frame arrives and goes to ARP, PTP or another service, or is discarded and counted. -/
  | ethFrameReceive (lane : Nat) (frame : List Byte) (corrected uncorrected : Nat)
  /-- ETH_BLOCK_LOCK_LOSS (R98). Ethernet block or FEC lock is lost; L-0040 and a retrain follow. -/
  | ethBlockLockLoss (lane : Nat)
  /-- LANE_SIGNAL_LOSS (R98). Signal is lost on an up lane; L-0010 is set and the lane retrains. -/
  | laneSignalLoss (lane : Nat)
  /-- LANE_RETRAIN (R98). LAN_CTL.RETRAIN retrains the lane from step 2 with the retained CTLE code. -/
  | laneRetrain (m : Nat) (w : Word) (lane : Nat)
  /-- LANE_CLEAR_COUNTS (R108). LAN_CTL.CLEAR_COUNTS zeroes every counter of the lane window. -/
  | laneClearCounts (m : Nat) (w : Word) (lane : Nat)
  /-- LANE_RUN_WWT (R99). LAN_CTL.RUN_WWT requests a LANE run for the lane's coach. -/
  | laneRunWwt (m : Nat) (w : Word) (lane : Nat)
  /-- LANE_EQ_SET_GO (R101). LAN_EQ.SET_GO makes the software code pending as if a run had accepted it. -/
  | laneEqSetGo (m : Nat) (w : Word) (lane : Nat)
  /-- LANE_EQ_SWITCH (R101). At the mode's switch point the data slice switches to the pending CTLE code. -/
  | laneEqSwitch (lane : Nat)
  /-- LANE_POWER_REQUEST (R103). A write to LAN_PWR requests new power states for the lane directions. -/
  | lanePowerRequest (m : Nat) (w : Word) (lane : Nat)
  /-- LANE_WAKE_ON_SIGNAL (R105). A receiver in doze or sleep with WAKE_ON_SIGNAL wakes when signal is detected. -/
  | laneWakeOnSignal (lane : Nat)
  /-- LANE_PRBS_CONTROL (R107). A write to LAN_PRBS_CTL starts or stops the PRBS generator and checker. -/
  | lanePrbsControl (m : Nat) (w : Word) (lane : Nat) (bits : List Bool)
  /-- ING_TRIGGER_EVENT (R116). A trigger event of the ING's source takes a number, fixes t_n and MD_n, and leaves as a CXP trigger packet or Voxhus trigger word unless suppressed. -/
  | ingTriggerEvent (g : Nat)
  /-- ING_LINE_DECIDE (R119). At a line's first packet the ING judges it late, unsolicited, format-discarded, shed or accepted. -/
  | ingLineDecide (g : Nat)
  /-- ING_LINE_END (R124). A line ends at its last packet or at the next line's first packet; short lines are padded and long lines cut. -/
  | ingLineEnd (g : Nat)
  /-- TRIGGER_WINDOW_EXPIRE (R119). A trigger's late window expires with no line and it is declared missing. -/
  | triggerWindowExpire (g : Nat)
  /-- VOXHUS_LINE_HEADER (R113). A Voxhus line header packet arrives and its PFNC value is checked against ING_PFNC. -/
  | voxhusLineHeader (g pfnc : Nat)
  /-- CAMSET_LAUNCH (R130). ING_CAMSET_CTL.GO or the CAMSET task input launches a settings change, or it is refused. -/
  | camsetLaunch (m : Nat) (w : Word) (g : Nat)
  /-- CAMSET_ACK (R131). A camera acknowledges a settings write; the next write leaves, or the last acknowledgement fixes A and the epoch start. -/
  | camsetAck (g status : Nat)
  /-- CAMSET_TIMEOUT (R132). A settings write is not acknowledged in time; the change ends and an unconfirmed epoch begins. -/
  | camsetTimeout (g : Nat)
  /-- TUNNEL_GO (R134). ING_TUN_CTL.GO starts a camera register transaction, or is refused or protected. -/
  | tunnelGo (m : Nat) (w : Word) (g : Nat)
  /-- TUNNEL_RESPONSE (R135). The camera's response ends the tunnel transaction with DONE or ERR. -/
  | tunnelResponse (g status : Nat) (data : List Word)
  /-- TUNNEL_TIMEOUT (R134). No response within TIMEOUT_MS ends the tunnel transaction with TIMEOUT. -/
  | tunnelTimeout (g : Nat)
  /-- CAMERA_EVENT_RECEIVE (R136). A Voxhus camera event packet enters the event queue, or is discarded with OVERFLOW. -/
  | cameraEventReceive (g : Nat) (l : List Byte)
  /-- CAMERA_EVENT_POP (R136). ING_EVT_STATUS.POP removes the head camera event. -/
  | cameraEventPop (m : Nat) (w : Word) (g : Nat)
  /-- STA_LINE (R141). The STA accumulates one tapped line into histograms and zone sums, or skips it. -/
  | staLine (g : Nat)
  /-- STA_BLOCK_CLOSE (R142). A statistics block closes after BLOCK_LINES or early, and is written into the ring or dropped. -/
  | staBlockClose (g : Nat)
  /-- WIRE_DISAGREE_FAULT (R145). P and N agree for DISAGREE_M samples; a wire-disagree fault is declared and the position marked uncertain. -/
  | wireDisagreeFault (p k : Nat)
  /-- WIRE_FAULT_CLEAR (R145). DISAGREE_M samples with differing wires clear the wire-disagree fault. -/
  | wireFaultClear (p k : Nat)
  /-- QUADRATURE_STEP (R147). An accepted transition of the pair levels steps the count, or registers a double edge. -/
  | quadratureStep (p : Nat) (a b z : Bool) (ra rb : Nat)
  /-- DOUBLE_EDGE_WINDOW (R148). A 1 ms double-edge window ends; a count above DE_LIMIT marks the position uncertain. -/
  | doubleEdgeWindow (p : Nat)
  /-- INDEX_EVENT (R150). An accepted Z rising edge snaps the count, aligns it, or counts a mismatch toward suspect. -/
  | indexEvent (p : Nat)
  /-- ABS_FRAME_REQUEST (R151). An absolute frame is requested by the period timer or the Rein task input and starts or waits. -/
  | absFrameRequest (p : Nat) (task dat : Bool)
  /-- ABS_REQUEST (R151). WAY_CMD.ABS_REQUEST requests an absolute frame. -/
  | absRequest (m p : Nat) (w : Word)
  /-- ABS_FRAME_COMPLETE (R152). An absolute frame completes; a good CRC unfolds V into the extended count, a bad one escalates. -/
  | absFrameComplete (p v crc : Nat)
  /-- ABS_FRAME_TIMEOUT (R151). DAT does not return high within ABS_TIMEOUT and the frame fails with TIMEOUT. -/
  | absFrameTimeout (p : Nat)
  /-- SPEED_STANDSTILL (R157). STOP_MS without an edge sets speed to 0 and clears SPEED_VALID. -/
  | speedStandstill (p : Nat)
  /-- ENCODER_TRIGGER (R159). The real-time position reaches X_next and a trigger event is issued; X_next advances by one pitch. -/
  | encoderTrigger (p : Nat)
  /-- FIXED_RATE_TRIGGER (R160). The accumulator's next instant is reached and a fixed-rate trigger event is issued. -/
  | fixedRateTrigger (p : Nat)
  /-- COMPARE_FIRE (R162). A compare unit's head target is reached; it fires its GIO pulse, Rein event and wake request. -/
  | compareFire (u : Nat)
  /-- GIO_PULSE_END (R163). A compare, alarm or Rein GIO pulse reaches its width and ends. -/
  | gioPulseEnd (src idx : Nat)
  /-- COMPARE_PUSH (R162). WAY_CMP_PUSH.PUSH inserts a target, or is refused on a full queue; a late target fires next sample. -/
  | comparePush (m u : Nat) (w : Word)
  /-- COMPARE_FLUSH (R162). WAY_CMP_PUSH.FLUSH empties a compare unit's queue. -/
  | compareFlush (m u : Nat) (w : Word)
  /-- COMPARE_ENABLE (R162). Setting WAY_CMP_CTL.ENABLE arms the head target, which fires late if already reached. -/
  | compareEnable (m u : Nat) (w : Word)
  /-- CLEAR_UNCERTAIN (R156). WAY_CMD.CLEAR_UNCERTAIN clears UNCERTAIN and SLEEP_OVERSPEED unless the port is suspect. -/
  | clearUncertain (m p : Nat) (w : Word)
  /-- CLEAR_SUSPECT (R150). WAY_CMD.CLEAR_SUSPECT clears SUSPECT and the mismatch run. -/
  | clearSuspect (m p : Nat) (w : Word)
  /-- WAY_CLEAR_COUNTS (R156). WAY_CMD.CLEAR_COUNTS zeroes the index, double-edge, absolute-error and glitch counts. -/
  | wayClearCounts (m p : Nat) (w : Word)
  /-- MOTION_WAKE (R167). Travel since sleep reaches WAY_WAKE.COUNTS and the port requests a package wake. -/
  | motionWake (p : Nat)
  /-- TRU_LINE (R171). Truing corrects one input line through dark, gain, curve, poison fill and defect-map replacement. -/
  | truLine (g : Nat)
  /-- TABLE_LOAD (R179). TBL_CTL.LOAD starts loading a TRU or RGA bank, or is refused. -/
  | tableLoad (m : Nat) (w : Word) (g : Nat) (rga : Bool)
  /-- TABLE_LOAD_COMPLETE (R180). A table load finishes checking the image and marks the bank VALID or reports its error code. -/
  | tableLoadComplete (g : Nat) (rga : Bool)
  /-- TABLE_LOAD_ABORT (R180). TBL_CTL.ABORT ends a table load with code 11. -/
  | tableLoadAbort (m : Nat) (w : Word) (g : Nat) (rga : Bool)
  /-- REF_MEASUREMENT_DONE (R184). A reference-strip measurement completes its LINES and publishes its sums. -/
  | refMeasurementDone (g : Nat)
  /-- GAIN_REBUILD (R186). The loader is free; Daxpamen rebuilds the active table with k and loads it into the inactive bank. -/
  | gainRebuild (g : Nat)
  /-- GAIN_COMMIT_STAGE (R186). The rebuilt bank is VALID; Daxpamen stages SEL and commits in carriage scope, or discards the result. -/
  | gainCommitStage (g : Nat)
  /-- GAIN_WAIT_TIMEOUT (R186). The loader stays busy or a commit pending for 1 s and the accepted result is discarded with a W-error. -/
  | gainWaitTimeout (g : Nat)
  /-- RGA_LINE (R194). Regauge takes an input line and emits the output grid lines it completes. -/
  | rgaLine (g : Nat)
  /-- RGA_GAP_MARKER (R197). A gap marker reaches Regauge and is bridged or becomes a hole. -/
  | rgaGapMarker (g : Nat)
  /-- SEAM_LINE_DELIVER (R208). A side delivers a line to a seam unit, which pairs, blends and releases lines or marks them unjoined. -/
  | seamLineDeliver (g : Nat) (low : Bool)
  /-- REG_WINDOW_END (R209). A registration window reaches LINES used lines and publishes d_cd and d_md, or none. -/
  | regWindowEnd (g : Nat)
  /-- SEAM_RUN_COMPLETE (R212). A SEAM run has its two windows per seam and is accepted or rejected. -/
  | seamRunComplete
  /-- SEAM_RUN_TIMEOUT (R212). A seam publishes no two windows within 10 s and counts as untextured. -/
  | seamRunTimeout
  /-- SPR_LINE (R215). Springs forms one line: poison replacement, rank filter, baseline and deviation, smoothing. -/
  | sprLine (g : Nat)
  /-- FREEZE_MASK_RETURN (R219). SEG returns the freeze mask of a line and Springs applies that line's baseline update. -/
  | freezeMaskReturn (g : Nat)
  /-- SPR_FREEZE (R221). SPR_FREEZE_CMD.FREEZE or the FREEZE task input freezes every column's updates for the hold. -/
  | sprFreeze (m : Nat) (v : Word) (w : Nat)
  /-- SPR_THAW (R221). SPR_FREEZE_CMD.THAW or the THAW task input ends the Reins hold. -/
  | sprThaw (m : Nat) (v : Word) (w : Nat)
  /-- SEG_LINE (R231). SEG thresholds one line with hysteresis and local contrast and forms the full and owned run lists. -/
  | segLine (g : Nat)
  /-- LBL_LINE (R234). LBL extends components from an owned run list and sends edge reports. -/
  | lblLine (g : Nat)
  /-- DBM_FRAGMENT (R240). A fragment or edge report reaches a DBM slice and is united into sets. -/
  | dbmFragment (g : Nat)
  /-- DBM_PARTIAL_SET (R240). A partial set or forwarded edge report reaches the live DBM and is united by R241. -/
  | dbmPartialSet (c : Nat)
  /-- FRONTIER_ADVANCE (R243). A carriage's frontier advances and Φ moves; sets, gaps and summaries it passes enter the emission buffer. -/
  | frontierAdvance (g : Nat)
  /-- RECORD_WRITE (R258). The next record in key order is written into the record queue with a SEQUENCE, or shed, or folded. -/
  | recordWrite (k : Nat)
  /-- CARRIAGE_LAG (R245). A carriage's frontier falls DBM_LAG.LINES behind the web; its components close and it is excluded from Φ. -/
  | carriageLag (g : Nat)
  /-- DBM_ACK_WRITE (R256). A write of DBM_ACK_HI applies the host acknowledgement, or is ignored if out of range. -/
  | dbmAckWrite (m : Nat) (w : Word)
  /-- DBM_RACK_WRITE (R261). A write of DBM_RACK_HI applies a replay stream's acknowledgement. -/
  | dbmRackWrite (m : Nat) (w : Word) (g : Nat)
  /-- PATCH_CUT (R263). Φ passes a patch's last line and PAT cuts it from the histories into its ring. -/
  | patchCut (i : Nat)
  /-- ARCHIVE_LINE (R283). The archive tap takes a line into the open row, or skips it when its Mews cannot take it. -/
  | archiveLine (g : Nat)
  /-- ARCHIVE_ROW_CLOSE (R280). A row closes at 16 lines or an early event; its groups are coded or stored raw, then the row and index entry are written. -/
  | archiveRowClose (g : Nat)
  /-- ARCHIVE_ROW_TIMEOUT (R280). 1 ms without a line closes the open archive row. -/
  | archiveRowTimeout (g : Nat)
  /-- DECODE_JOB_GO (R285). PMT_JOB_CTL.GO or the PMT GO task input starts a decode job, or refuses it with a code. -/
  | decodeJobGo (m : Nat) (w : Word) (i : Nat)
  /-- DECODE_JOB_ABORT (R288). PMT_JOB_CTL.ABORT ends the job after the line in progress with code 8. -/
  | decodeJobAbort (m : Nat) (w : Word) (i : Nat)
  /-- DECODE_LINE (R287). A decode job delivers one line to host memory or to the replay carriage, with ARCHIVE gap markers at breaks. -/
  | decodeLine (i : Nat)
  /-- DECODE_JOB_END (R289). A decode job reaches TO, fills its destination or is torn down, and ends with its code. -/
  | decodeJobEnd (i : Nat)
  /-- PREVIEW_TICK (R293). A selection tick sends the present grid line to every PVW of the view, which selects its next strip. -/
  | previewTick (view : Nat)
  /-- PREVIEW_ROW_COMPLETE (R292). Every feeding carriage passes a preview row's box rows and the row is formed. -/
  | previewRowComplete (i : Nat) (laneFull : Bool)
  /-- PREVIEW_ROW_TIMEOUT (R292). 10 ms after the first carriage passed, a preview row completes with what is present. -/
  | previewRowTimeout (i : Nat) (laneFull : Bool)
  /-- DRAM_READ (R302). A DRAM word is read and classified clean, corrected, stored poison or uncorrectable. -/
  | dramRead (addr rank err : Nat)
  /-- BAR2_READ (R393). A BAR2 read returns package DRAM data, with EP for poisoned words. -/
  | bar2Read (off n : Nat)
  /-- BAR2_WRITE (R393). A BAR2 write stores data in package DRAM, poisoned if EP is set. -/
  | bar2Write (off : Nat) (bytes : List Byte) (ep : Bool)
  /-- BAR2_BASE_WRITE (R393). A write of GLB_BAR2_BASE moves the BAR2 window for later requests. -/
  | bar2BaseWrite (m : Nat) (w : Word)
  /-- REFRESH_DUE (R314). A rank's refresh falls due and is issued, postponed, or forced through the emergency input. -/
  | refreshDue (c d rank depth beats : Nat)
  /-- REFRESH_MAKEUP (R314). The request queue falls below BUSY and owed refreshes go out back to back. -/
  | refreshMakeup (c d depth : Nat)
  /-- DIMM_HOT (R314). A DIMM sensor above 85 °C halves the refresh interval and records D-0010. -/
  | dimmHot (c d : Nat) (temp : Int)
  /-- ROW_ACTIVATE (R315). A row activation updates the bank's tracker and can Curb its requester. -/
  | rowActivate (c d rank bank row requester : Nat)
  /-- CURB_WINDOW_END (R315). A 32 ms refresh window ends, clearing trackers and Curbs. -/
  | curbWindowEnd (c d : Nat)
  /-- SCRUB_BLOCK (R317). The patrol scrubber reads a 128-byte block and writes back corrected or poisoned words. -/
  | scrubBlock (addr rank : Nat) (errs : List (Nat × Nat))
  /-- SRAM_SCRUB (R317). Coach SRAM is scrubbed once every 10 s. -/
  | sramScrub (c ce : Nat) (ue : List SramWord)
  /-- WAYBILL_SCRUB (R317). The Waybill is scrubbed once every 24 h. -/
  | waybillScrub (ce : Nat) (ue : List WaybillPlace)
  /-- REMOUNT_GO (R319). DMC_REMOUNT_CTL.GO starts a Remount of RANK when a spare rank is free. -/
  | remountGo (m : Nat) (w : Word) (c d : Nat)
  /-- REMOUNT_COPY_BLOCK (R319). The copier moves one block of the failed rank to the spare. -/
  | remountCopyBlock (ch addr : Nat) (errs : List (Nat × Nat))
  /-- REMOUNT_COMPLETE (R319). The copy pointer passes the last block; the spare takes the rank's place and the rank retires. -/
  | remountComplete (ch : Nat)
  /-- DRAM_RUN_COMPLETE (R308). A DRAM-class run's two margin measurements end and are accepted or rejected. -/
  | dramRunComplete (c : Nat) (first second : List Nat)
  /-- SRAM_UNCORRECTABLE (R322). A new uncorrectable SRAM word records M-0002 and is written back poisoned; state items restart. -/
  | sramUncorrectable (c : Nat) (w : SramWord)
  /-- MEWS_PACKET_WRITE (R329). A producer writes a packet into a Mews, stalling or dropping it when full by kind. -/
  | mewsPacketWrite (c m units : Nat) (last bad : Bool)
  /-- MEWS_SPACE_FREED (R329). The consumer frees units and a stalled producer continues. -/
  | mewsSpaceFreed (c m clocks : Nat) (last : Bool)
  /-- MEWS_PACKET_READ (R330). A consumer starts a packet by cut-through or end mark and reads its units. -/
  | mewsPacketRead (c m units clocks : Nat)
  /-- MEWS_PACKET_ABANDON (R332). A producer abandons a packet and the Mews writes a poison end mark with TRUNCATED. -/
  | mewsPacketAbandon (c m : Nat)
  /-- MEWS_FLUSH (R333). MEW_FLUSH.GO sets a flush point on a job Mews, or is refused for other kinds. -/
  | mewsFlush (m : Nat) (w : Word) (c : Nat)
  /-- MEWS_FLUSH_BOUNDARY (R333). The consumer reaches the flush point's packet boundary and the units up to it are discarded. -/
  | mewsFlushBoundary (c m : Nat)
  /-- MEWS_HW_FLUSH (R333). A Mews with a lost pointer flushes itself at its next packet boundary and delivers a flush mark. -/
  | mewsHwFlush (c m : Nat) (classes : List Nat)
  /-- MEW_PEAK_CLEAR (R331). MEW_PEAK.CLEAR clears the recorded peak fill. -/
  | mewPeakClear (m : Nat) (w : Word) (c n : Nat)
  /-- DRAYAGE_GO (R335). DRY_CH_CTL.GO or the Drayage task input starts a channel after its start tests, or refuses it. -/
  | drayageGo (m c n : Nat) (w : Word)
  /-- DRAYAGE_BURST (R337). A channel obtains buffer space for a burst, reads it and writes it out. -/
  | drayageBurst (c n : Nat) (hostData : List Byte) (hostPoison : List Nat) (hostErr : Bool)
  /-- DRAYAGE_COMPLETE (R338). The last data write of a channel leaves and its completion is reported in order. -/
  | drayageComplete (c n : Nat)
  /-- DRAYAGE_ABORT (R339). DRY_CH_CTL.ABORT stops new bursts and completes the channel with code 7. -/
  | drayageAbort (m c n : Nat) (w : Word)
  /-- DRAYAGE_CREDIT (R342). A peripheral raises its request line's credit count. -/
  | drayageCredit (c k : Nat)
  /-- DRAYAGE_REQ_CLEAR (R343). DRY_REQ.CLEAR clears a request line's credits and withdraws its request. -/
  | drayageReqClear (m c k : Nat) (w : Word)
  /-- WHIFFLETREE_DECISION (R346). A free resource with pending inputs grants the highest input and gives the losers turn hints. -/
  | whiffletreeDecision (c u : Nat) (reqs : List BusReq)
  /-- BURST_MAX_EXPIRE (R347). A grant reaches BURST_MAX beats and the holder re-arbitrates. -/
  | burstMaxExpire (c u : Nat)
  /-- GRANT_DROP (R347). A holder drops its request and the grant ends. -/
  | grantDrop (c u beats : Nat)
  /-- EMERGENCY_PREEMPT (R348). An emergency input takes the grant at the next beat boundary and the holder is preempted. -/
  | emergencyPreempt (c u beats : Nat)
  /-- STARVATION (R351). An input's wait exceeds LIMIT_NS and the starvation is reported once. -/
  | starvation (c u input : Nat)
  /-- CLEAR_STARVE (R351). WHT_CTL.CLEAR_STARVE clears WHT_STARVED and restarts the wait counters. -/
  | clearStarve (m c u : Nat) (w : Word)
  /-- REIN_SOURCE_EVENT (R358). A source raises an event, adding to its crossing counter. -/
  | reinSourceEvent (c src ev : Nat)
  /-- REIN_CYCLE (R360). In each Rein cycle channels carry events, Buckles evaluate, watch flags set and task counts update. -/
  | reinCycle
  /-- BUCKLE_GLITCH_ACCEPT (R362). A new Q value holds for GLITCH pace clocks and the glitch filter accepts it. -/
  | buckleGlitchAccept (c b : Nat)
  /-- REIN_RATE_WINDOW (R368). A 1 µs rate window ends and each channel's event allowance restarts. -/
  | reinRateWindow
  /-- REIN_TRUNK_FIRE (R364). A write to REI_TRUNK_FIRE puts one event on each named trunk channel, except secure ones for non-secure masters. -/
  | reinTrunkFire (m : Nat) (w : Word)
  /-- GIO_INPUT_EDGE (R357). A GIO input edge held for FILTER samples is accepted as a Rein event. -/
  | gioInputEdge (pin : Nat) (rising : Bool)
  /-- TIMETABLE_TICK (R370). Every 4 ns the Timetable adds 4 ns × (1 + r) to the package time. -/
  | timetableTick (n : Nat)
  /-- PTP_SYNC (R375). A Sync message is time-stamped and the servo measures the offset, slewing or refusing a step. -/
  | ptpSync (src seq domain : Nat) (twoStep : Bool) (origin corr rx : Int)
  /-- PTP_FOLLOW_UP (R373). A Follow_Up message completes a two-step Sync. -/
  | ptpFollowUp (src seq domain : Nat) (origin corr : Int)
  /-- PTP_DELAY_REQ (R373). A Delay_Req message is received and answered as master. -/
  | ptpDelayReq (src seq domain : Nat) (rx : Int)
  /-- PTP_DELAY_RESP (R373). A Delay_Resp message updates the mean path delay. -/
  | ptpDelayResp (src seq domain : Nat) (t4 corr : Int)
  /-- PTP_PDELAY_REQ (R373). A Pdelay_Req message is received and answered. -/
  | ptpPdelayReq (src seq domain : Nat) (rx : Int)
  /-- PTP_PDELAY_RESP (R373). A Pdelay_Resp message updates the peer delay. -/
  | ptpPdelayResp (seq domain : Nat) (twoStep : Bool) (t2 corr rx : Int)
  /-- PTP_PDELAY_RESP_FOLLOW_UP (R373). A Pdelay_Resp_Follow_Up completes a two-step peer delay exchange. -/
  | ptpPdelayRespFollowUp (seq domain : Nat) (t3 corr : Int)
  /-- PTP_ANNOUNCE (R377). An Announce message enters best master selection and may change the grandmaster. -/
  | ptpAnnounce (src identity p1 cls acc var p2 domain utc flags : Nat)
  /-- PTP_DISCARDED_MESSAGE (R373). A Signaling or Management message is discarded and counted. -/
  | ptpDiscardedMessage
  /-- PTP_MASTER_SEND (R373). As master, the port sends Sync or Announce at its log interval. -/
  | ptpMasterSend (announce : Bool)
  /-- ANNOUNCE_TIMEOUT (R377). No Announce within announceReceiptTimeout enters holdover. -/
  | announceTimeout
  /-- STEP_ACCEPT (R375). TMT_CMD.STEP_ACCEPT applies the pending step at the next tick. -/
  | stepAccept (m : Nat) (w : Word)
  /-- STEP_REJECT (R375). TMT_CMD.STEP_REJECT clears STEP_PENDING. -/
  | stepReject (m : Nat) (w : Word)
  /-- TIME_SET (R375). TMT_CMD.SET sets the time to TMT_SET as a step, or is refused with G-0020. -/
  | timeSet (m : Nat) (w : Word)
  /-- CAPTURE (R376). TMT_CMD.CAPTURE or a capture task input latches the present time. -/
  | capture (m : Nat) (w : Word)
  /-- LAUNCH_PUSH (R379). TMT_LAUNCH_CTL.PUSH inserts a launch entry in instant order, or is refused when full. -/
  | launchPush (m : Nat) (w : Word)
  /-- LAUNCH_FLUSH (R379). TMT_LAUNCH_CTL.FLUSH drops every software launch entry. -/
  | launchFlush (m : Nat) (w : Word)
  /-- LAUNCH_PREFETCH (R379). 20 µs before its instant a launch reads its template and holds the lane, or is dropped with G-0023. -/
  | launchPrefetch
  /-- LAUNCH_SEND (R379). A launch frame leaves at its instant, or late, or is dropped. -/
  | launchSend (busy : Bool)
  /-- ALARM_FIRE (R381). An alarm's time is reached; it fires its pulse, Rein event and wake, and advances by its period. -/
  | alarmFire (a : Nat)
  /-- MARKER_PREDICT (R382). At each 100 µs a marker target's launch time is predicted again and may lock into the launch queue. -/
  | markerPredict
  /-- IRQ_EOI (R395). A write to GLB_IRQ_EOI ends service of a vector and resends it if its level is 1. -/
  | irqEoi (m : Nat) (w : Word)
  /-- MSIX_UNMASK (R395). Clearing a vector's MSI-X mask sends its pending message. -/
  | msixUnmask (v : Nat)
  /-- OR_READ (R397). An Outrider READ frame reads up to 16 words. -/
  | orRead (bytes : List Byte)
  /-- OR_WRITE (R397). An Outrider WRITE frame writes up to 16 words. -/
  | orWrite (bytes : List Byte)
  /-- OR_WRITE_FIFO (R397). An Outrider WRITE_FIFO frame writes every word to one offset. -/
  | orWriteFifo (bytes : List Byte)
  /-- OR_RESULT (R398). An SPI RESULT frame returns the response of the latest request. -/
  | orResult
  /-- OR_IDENTIFY (R397). An Outrider IDENTIFY frame answers from the Box island with identity and status. -/
  | orIdentify (bytes : List Byte)
  /-- STALLED_ACCESS_RESUME (R401). A host access waiting on a stopped domain completes when the domain's clock runs. -/
  | stalledAccessResume
  /-- YOKE_REQUEST (R406). YOK_CTL.REQUEST runs the request tests, freezes the staged values and starts the check. -/
  | yokeRequest (m : Nat) (w : Word)
  /-- YOKE_CHECK_DONE (R406). The check ends; the commit fails, ends check-only, or becomes pending. -/
  | yokeCheckDone (carriage : Option Nat)
  /-- YOKE_RELEASE (R407). The commit's instant, line, time, boundary or Reins event releases it and the engines apply at their lines. -/
  | yokeRelease (carriage : Option Nat)
  /-- YOKE_CANCEL (R410). YOK_CTL.CANCEL ends a pending commit with Y-0007, or is refused with Y-0008. -/
  | yokeCancel (m : Nat) (w : Word)
  /-- YOKE_DISCARD (R406). YOK_CTL.DISCARD sets the master's staged values in SCOPE back to active values. -/
  | yokeDiscard (m : Nat) (w : Word)
  /-- POST_SLOT_WRITE (R415). A write to a mailbox slot claims an empty mailbox, or is discarded with COLLISION. -/
  | postSlotWrite (m mb n : Nat) (w : Word)
  /-- POST_SEND (R415). PST_CTL.SEND stamps SENDER and SEQ, sets FULL and rings horn bit 0. -/
  | postSend (m mb : Nat) (w : Word)
  /-- POST_TAKE (R416). PST_CTL.TAKE by the receiver or Outrider empties the slot and sets TAKEN. -/
  | postTake (m mb : Nat) (w : Word)
  /-- POST_ABORT (R416). PST_CTL.ABORT withdraws an untaken message or a claim. -/
  | postAbort (m mb : Nat) (w : Word)
  /-- POST_CLAIM_LAPSE (R415). A claim without SEND within the mailbox timeout lapses. -/
  | postClaimLapse (mb : Nat)
  /-- POST_TIMEOUT (R416). A message not taken within the mailbox timeout sets TIMEOUT. -/
  | postTimeout (mb : Nat)
  /-- HORN_RING (R417). A write to PST_HORN rings horn bits and may signal the receiver. -/
  | hornRing (m mb : Nat) (w : Word)
  /-- HORN_CLEAR (R417). The receiver or Outrider clears horn bits through PST_HORN_CLR. -/
  | hornClear (m mb : Nat) (w : Word)
  /-- IDENTITY (R418). Mailbox 14 service IDENTITY replies with version, serial, coach count and IMAGE_ID. -/
  | identity
  /-- FAULT_READ (R418). Mailbox 14 service FAULT_READ replies with a fault-log entry. -/
  | faultRead
  /-- FAULT_CLEAR (R418). Mailbox 14 service FAULT_CLEAR clears the fault log for the Outrider only. -/
  | faultClear
  /-- TEMPS (R418). Mailbox 14 service TEMPS replies with a coach's 16 readings. -/
  | temps
  /-- WWT_SERVICE_RUN (R446). Mailbox 15 service RUN requests a Wheelwright run of a class and instance. -/
  | wwtServiceRun
  /-- WWT_SERVICE_STATE (R446). Mailbox 15 service STATE replies with an instance's Wheelwright state. -/
  | wwtServiceState
  /-- RECORD_READ (R446). Mailbox 15 service RECORD_READ replies with a Wheelwright record. -/
  | recordRead
  /-- LINCHPIN_ACQUIRE (R419). A read of LCH_PIN tries to acquire the Linchpin and returns GRANTED, owner and suspect state. -/
  | linchpinAcquire (m n : Nat)
  /-- LINCHPIN_RELEASE (R419). LCH_PIN.RELEASE by the owner frees the Linchpin; from others it records G-0016. -/
  | linchpinRelease (m n : Nat) (w : Word)
  /-- LINCHPIN_FORCE (R421). LCH_INFO.FORCE from the Outrider breaks the Linchpin. -/
  | linchpinForce (m n : Nat) (w : Word)
  /-- LINCHPIN_BREAK (R421). An owner's reset or fault breaks its Linchpins: freed, BROKEN set, horn rung, class suspect. -/
  | linchpinBreak (owner : Nat)
  /-- LINCHPIN_LEASE_EXPIRE (R421). No Outrider frame for LCH_LEASE.MS breaks the Outrider's Linchpins. -/
  | linchpinLeaseExpire
  /-- PCIE_RESET (R436). A PCIe hot reset, link down or FLR resets the PCIe function only. -/
  | pcieReset (kind : Nat)
  /-- PCIE_PERST (R435). PCIE_PERSTn restarts link training of the endpoint only. -/
  | pciePerst
  /-- SLEEP_REQUEST (R427). PWR_CTL.GO requests Stand or Box-only; accepted requests stop triggers and start draining. -/
  | sleepRequest (m : Nat) (w : Word)
  /-- SLEEP_DRAIN_DONE (R427). Chains have drained and components closed; running Drayage is given 10 ms. -/
  | sleepDrainDone
  /-- SLEEP_DRAYAGE_DONE (R427). Drayage channels complete or are aborted; DRAM enters self-refresh and lanes sleep. -/
  | sleepDrayageDone
  /-- SLEEP_CLOCKS_STOPPED (R427). Fast clocks stop and the part reaches Stand, then powers down to Box-only if requested. -/
  | sleepClocksStopped
  /-- WAKE_EVENT (R429). An enabled wake source starts the wake sequence. -/
  | wakeEvent (src idx : Nat)
  /-- WAKE_COMMAND (R429). PWR_CMD.WAKE from the Outrider, or the host in Stand, wakes the part unless hot after a trip. -/
  | wakeCommand (m : Nat) (w : Word)
  /-- WAKE_COMPLETE (R431). The wake steps complete, Run is reached, triggers resume and the SLEEP gap record is placed. -/
  | wakeComplete (copyBad : Bool)
  /-- BOOT_CONTINUE (R433). PWR_CMD.CONTINUE from the Outrider ends the stage 3 BOOT_HOLD. -/
  | bootContinue (m : Nat) (w : Word)
  /-- POWER_ON_RESET (R434). PORn rises, or the VDD_AON monitor releases, and start-up begins at stage 1. -/
  | powerOnReset (rstnLow : Bool) (vddIo : Nat)
  /-- STARTUP_STAGE_COMPLETE (R434). A start-up stage completes and the next begins, or a fault stops start-up. -/
  | startupStageComplete (fault : Bool) (coach train : Nat) (margins : List Nat)
  /-- RESET_PIN (R436). RSTn low for at least 1 µs resets every coach and reruns stages 3 to 12. -/
  | resetPin (ns : Nat)
  /-- COACH_RESET (R437). PWR_RESET_CTL.GO from the Outrider resets one coach; other masters get G-0032. -/
  | coachReset (m : Nat) (w : Word)
  /-- COACH_RESET_READY (R437). A reset coach is ready and the running image is re-applied from the retained copy. -/
  | coachResetReady (c train ms : Nat) (margins : List Nat)
  /-- COACHMAN_WATCHDOG (R436). A Coachman watchdog expires and that core's Daxpamen restarts. -/
  | coachmanWatchdog (c j : Nat)
  /-- TEMP_SENSOR_UPDATE (R439). Sensors update every 1 ms and the hottest reading is compared with the warning and trip levels. -/
  | tempSensorUpdate (c : Nat) (readings : List Nat)
  /-- WWT_TIMER (R442). A class period expires and a run becomes due. -/
  | wwtTimer (cls coach car : Nat)
  /-- WWT_RUN (R442). WWT_CTL.RUN requests runs of the selected classes. -/
  | wwtRun (m c : Nat) (w : Word)
  /-- CLEAR_UNSETTLED (R443). WWT_CTL.CLEAR_UNSETTLED restarts the reject counts of the selected classes. -/
  | clearUnsettled (m c : Nat) (w : Word)
  /-- LANE_RUN_COMPLETE (R100). A LANE run's two measurements end and are accepted or rejected. -/
  | laneRunComplete (c : Nat) (first second : List (List Nat))
  /-- GAIN_RUN_COMPLETE (R185). A GAIN run's two measurements end, or 10 s pass, and are accepted or rejected. -/
  | gainRunComplete (g : Nat)
  /-- TSEN_RUN_COMPLETE (R441). A TSEN run's two measurements end and bad sensors are marked. -/
  | tsenRunComplete (c : Nat) (first second : List Int)
  /-- PLL_UNLOCK (R479). A PLL loses lock in Run and resets its coach or acts as RSTn, with G-0053. -/
  | pllUnlock (kind c : Nat)
  /-- REFERENCE_LOSS (R479). A reference input is lost in Run and lanes, link or the part react as given. -/
  | referenceLoss (kind : Nat)
  /-- PAIR_HELLO (R452). A HELLO arrives on the mirror link and the parts negotiate their roles. -/
  | pairHello (pairId imageId side role : Nat)
  /-- PAIR_JOIN_TIMEOUT (R452). No HELLO within PAI_JOIN.MS; the part goes solo primary or detached. -/
  | pairJoinTimeout
  /-- PAIR_HOLD_CONFLICT (R453). Both hold inputs high for 1 ms and side B yields with P-0004. -/
  | pairHoldConflict
  /-- HEARTBEAT (R455). A HEARTBEAT arrives, clearing MISSED and updating the pair offset. -/
  | heartbeat (state : Nat) (sent : Option Nat) (phi ack : Nat) (web : Int) (time : Nat)
  /-- HEARTBEAT_SEND (R454). Every 30 µs each part sends a heartbeat on every up mirror lane. -/
  | heartbeatSend
  /-- HEARTBEAT_MISSED (R455). 30 µs pass without a heartbeat and MISSED rises, leading to takeover, detach or solo. -/
  | heartbeatMissed
  /-- MIRROR_TRIGGER (R456). A TRIGGER message gives the standby a trigger number, instant, position and speed. -/
  | mirrorTrigger (port n : Nat) (instant : Int) (pos : Nat) (speed : Int) (unsure : Bool)
  /-- MIRROR_EPOCH (R456). An EPOCH message sets a carriage's epoch on the standby. -/
  | mirrorEpoch (g line epoch : Nat) (unconfirmed : Bool)
  /-- MIRROR_YOKE (R412). A YOKE message brings the frozen values to the standby, which checks them. -/
  | mirrorYoke (seq : Nat) (carriage : Option Nat) (kind instant : Nat) (defaults checkOnly : Bool) (values : List (Nat × Word))
  /-- YOKE_RESULT (R412). A YOKE_RESULT message reports the standby's check outcome to the primary. -/
  | yokeResult (seq : Nat) (code : Nat)
  /-- YOKE_APPLY (R412). A YOKE_APPLY message fixes the web position at which the standby applies. -/
  | yokeApply (seq : Nat) (pos : Nat)
  /-- RECORDS (R458). A RECORDS message delivers records that the standby stores by SEQUENCE and matches with its shadows. -/
  | records (recs : List (Nat × Rec)) (phi : Nat)
  /-- RECORDS_HELD (R459). A RECORDS_HELD message lets the primary write records up to the confirmed SEQUENCE. -/
  | recordsHeld (seq : Nat)
  /-- MIRROR_ACK (R456). An ACK message sets the standby's DBM_ACK. -/
  | mirrorAck (v : Nat)
  /-- DIGEST (R460). A DIGEST message is compared with the standby's own and a mismatch starts a resync. -/
  | digest (g line crc : Nat)
  /-- DIGEST_TIMEOUT (R460). A digest not arriving within 10 ms counts as a mismatch. -/
  | digestTimeout (g : Nat)
  /-- RESYNC_REQUEST (R461). A CONTROL resync-request makes the primary snapshot carriage g after its next output line. -/
  | resyncRequest (g : Nat)
  /-- MIRROR_STATE (R461). A STATE message delivers the snapshot or a mirrored SPR input line to the standby. -/
  | mirrorState (g : Nat) (msg : StateMsg)
  /-- RESYNC_SWITCH_BACK (R461). The standby's own input catches up and it switches back, sending resync-done. -/
  | resyncSwitchBack
  /-- RESYNC_DONE (R461). A CONTROL resync-done makes the primary place a RESYNC gap record. -/
  | resyncDone (g : Nat)
  /-- RESYNC_TIMEOUT (R461). A resync not done within 100 ms ends with P-0022. -/
  | resyncTimeout
  /-- CALIB (R456). A CALIB message makes the standby rebuild its table with the primary's k. -/
  | calib (g : Nat) (ks : List Nat)
  /-- MIRROR_TIME (R371). A TIME message disciplines the standby's Timetable. -/
  | mirrorTime (offset : Int)
  /-- SWITCHOVER_CONTROL (R465). A CONTROL switchover message gives the standby the web position of the handover. -/
  | switchoverControl (p : Nat)
  /-- HOLD_INPUT_LOW (R462). The hold input reads low for 4 samples on a standby and it takes over. -/
  | holdInputLow
  /-- SWITCHOVER (R465). PAI_CTL.SWITCHOVER on the primary hands the role over at a web position, or is refused. -/
  | switchover (m : Nat) (w : Word)
  /-- DETACH (R466). PAI_CTL.DETACH sends a standby to state 5. -/
  | detach (m : Nat) (w : Word)
  /-- REJOIN (R466). PAI_CTL.REJOIN returns a detached part to state 1. -/
  | rejoin (m : Nat) (w : Word)
  /-- RING_HELLO (R469). A ring hello arrives and the seam joins, is left unjoined, or the neighbour is found returned. -/
  | ringHello (west : Bool) (h : RingHello)
  /-- RING_HELLO_SEND (R469). Every 1 ms each ring lane sends a hello. -/
  | ringHelloSend
  /-- RING_PARTIAL_SET (R471). Member p + 1's partial set or frontier reaches member p and is united into its stream. -/
  | ringPartialSet (frags : List Frag) (reports : List Report) (frontier : Nat)
  /-- RING_NEIGHBOUR_LOST (R472). A ring neighbour's lane drops or a hello names a wrong position; seams go unjoined and sets close. -/
  | ringNeighbourLost (west : Bool)
  /-- POWER_LOSS (R494). PORn falls, or the VDD_AON monitor asserts reset below 0.70 V, and the part goes to Off with only the Waybill kept. -/
  | powerLoss
  /-- RSTN_RISE (R495). RSTn rises after being held low past PORn, releasing the part from the end of stage 2. -/
  | rstnRise
  /-- REFERENCE_RETURN (R479). A lost reference input, such as the 156.25 MHz lane reference, returns and the lanes retrain. -/
  | referenceReturn (kind : Nat)
  /-- FUNCTION_D_STATE_CHANGE (R421). The host moves the PCIe function between D0 and D3hot; leaving D0 breaks host-owned Linchpins and marks the host asleep for the Post. -/
  | functionDStateChange (d3 : Bool)
  /-- CONTROL_SLEEP_REQUEST (R467). A CONTROL sleep request from the primary reaches the standby over the mirror link, and the standby enters the requested sleep state. -/
  | controlSleepRequest (target : Nat)
  /-- FILTER_REJECTED_PULSE (R146). A raw encoder pulse shorter than FILTER_N samples is rejected by the stability filter and counted in WAY_GLITCH. -/
  | filterRejectedPulse (p k : Nat)
  /-- PTP_DELAY_REQ_SEND (R373). As slave, the PTP port sends a Delay_Req, or a Pdelay_Req under peer delay, to measure the path delay. -/
  | ptpDelayReqSend (tx : Int)
  deriving DecidableEq, Repr

end Sys2Proof
end

