-- ==== Sys2Proof/WellFormed.lean ====
section
/-! DEFINITION. Which commands are well-formed: each operand that numbers a part of the chip lies in its range. A part with fewer coaches treats
the numbers it lacks as unoccupied. -/

namespace Sys2Proof

/-- A master ID (R388): the host, the Outrider, a Coachman core, a Drayage channel, Daxpamen. -/
def okMaster (m : Nat) : Bool :=
  m == 0x01 || m == 0x10 || (decide (0x20 ≤ m) && decide (m < 0x30)) || (decide (0x40 ≤ m) && decide (m < 0x60)) || m == 0x7F

/-- A carriage (R24). -/
def okCarriage (g : Nat) : Bool := decide (g < 48)

/-- A coach (R2). -/
def okCoach (c : Nat) : Bool := decide (c < 8)

/-- A global lane (R79). -/
def okLane (l : Nat) : Bool := decide (l < 128)

/-- A camera connection (R46). -/
def okConn (c : Nat) : Bool := decide (c < 256)

/-- A Waywiser port, or a Fifth-wheel port of a coach (R21, R144). -/
def okPort (p : Nat) : Bool := decide (p < 4)

/-- A DDR5 channel of a coach (R304). -/
def okChannel (d : Nat) : Bool := decide (d < 2)

/-- A DDR5 channel of the package (R311). -/
def okPackChannel (ch : Nat) : Bool := decide (ch < 16)

/-- A mailbox (R414). -/
def okMailbox (mb : Nat) : Bool := decide (mb < 16)

/-- A Whiffletree unit of a coach (R344). -/
def okWht (u : Nat) : Bool := decide (u < 9)

/-- A compare unit of the Waywiser (R162). -/
def okCompare (u : Nat) : Bool := decide (u < 16)

/-- A Timetable alarm (R381). -/
def okAlarm (a : Nat) : Bool := decide (a < 8)

/-- A Linchpin (R419). -/
def okPin (n : Nat) : Bool := decide (n < 64)

/-- A Drayage channel of a coach (R335). -/
def okDray (n : Nat) : Bool := decide (n < 32)

/-- A Drayage request credit (R342). -/
def okCredit (k : Nat) : Bool := decide (k < 16)

/-- A Mews of a coach (R328). -/
def okMews (m : Nat) : Bool := decide (m < 1024)

/-- A GIO pin (R17). -/
def okGio (n : Nat) : Bool := decide (n < 32)

/-- Byte enables of one word (R392). -/
def okEnables (be : Nat) : Bool := decide (be < 16)

/-- Whether a command is well-formed. -/
def Instr.wf (i : Instr) : Bool :=
  match i with
  | .registerWrite m _ be _ => okMaster m && okEnables be
  | .unoccupiedAccess m _ _ _ => okMaster m
  | .fifthWheelPortFail c p => okCoach c && okPort p
  | .fifthWheelWordReceive c p _ => okCoach c && okPort p
  | .harnessLoad m _ => okMaster m
  | .harnessSourceComplete => true
  | .harnessApplyDrained _ => true
  | .harnessAbort m _ => okMaster m
  | .patchCancel m _ => okMaster m
  | .progA m _ => okMaster m
  | .progB m _ => okMaster m
  | .slotProgramComplete => true
  | .enrol m _ => okMaster m
  | .revoke m _ => okMaster m
  | .orDataAppend m _ => okMaster m
  | .orBufferClear m _ => okMaster m
  | .patchApplyInstant => true
  | .patchChainDrained => true
  | .patchChainReady => true
  | .lanePllLocked lane => okLane lane
  | .laneCdrLocked lane => okLane lane
  | .laneFramingDone lane _ => okLane lane
  | .laneTrainTimeout lane => okLane lane
  | .cxpDiscovery c _ _ _ _ => okConn c
  | .cxpDiscoveryTimeout c => okConn c
  | .cxpStreamPacket lane _ _ _ _ _ _ _ => okLane lane
  | .cxpImageHeader g _ _ => okCarriage g
  | .cxpControlResponse g _ _ _ => okCarriage g
  | .cxpEventPacket g _ => okCarriage g
  | .cxpHeartbeat lane _ => okLane lane
  | .cxpConnectionTest lane _ => okLane lane
  | .voxhusMarkerReceive lane _ => okLane lane
  | .voxhusMarkerSend lane _ => okLane lane
  | .voxhusPacketReceive lane _ _ => okLane lane
  | .voxhusCreditWord lane _ => okLane lane
  | .voxhusCreditSend lane _ => okLane lane
  | .voxhusSleepRequest lane _ => okLane lane
  | .voxhusSleepAck lane _ => okLane lane
  | .voxhusWake lane _ => okLane lane
  | .voxhusKeepAlive lane _ => okLane lane
  | .trainingLockReport lane _ => okLane lane
  | .voxhusReservedWord lane _ => okLane lane
  | .ethFrameReceive lane _ _ _ => okLane lane
  | .ethBlockLockLoss lane => okLane lane
  | .laneSignalLoss lane => okLane lane
  | .laneRetrain m _ lane => okMaster m && okLane lane
  | .laneClearCounts m _ lane => okMaster m && okLane lane
  | .laneRunWwt m _ lane => okMaster m && okLane lane
  | .laneEqSetGo m _ lane => okMaster m && okLane lane
  | .laneEqSwitch lane => okLane lane
  | .lanePowerRequest m _ lane => okMaster m && okLane lane
  | .laneWakeOnSignal lane => okLane lane
  | .lanePrbsControl m _ lane _ => okMaster m && okLane lane
  | .ingTriggerEvent g => okCarriage g
  | .ingLineDecide g => okCarriage g
  | .ingLineEnd g => okCarriage g
  | .triggerWindowExpire g => okCarriage g
  | .voxhusLineHeader g _ => okCarriage g
  | .camsetLaunch m _ g => okMaster m && okCarriage g
  | .camsetAck g _ => okCarriage g
  | .camsetTimeout g => okCarriage g
  | .tunnelGo m _ g => okMaster m && okCarriage g
  | .tunnelResponse g _ _ => okCarriage g
  | .tunnelTimeout g => okCarriage g
  | .cameraEventReceive g _ => okCarriage g
  | .cameraEventPop m _ g => okMaster m && okCarriage g
  | .staLine g => okCarriage g
  | .staBlockClose g => okCarriage g
  | .wireDisagreeFault p _ => okPort p
  | .wireFaultClear p _ => okPort p
  | .quadratureStep p _ _ _ _ _ => okPort p
  | .doubleEdgeWindow p => okPort p
  | .indexEvent p => okPort p
  | .absFrameRequest p _ _ => okPort p
  | .absRequest m p _ => okMaster m && okPort p
  | .absFrameComplete p _ _ => okPort p
  | .absFrameTimeout p => okPort p
  | .speedStandstill p => okPort p
  | .encoderTrigger p => okPort p
  | .fixedRateTrigger p => okPort p
  | .compareFire u => okCompare u
  | .gioPulseEnd _ _ => true
  | .comparePush m u _ => okMaster m && okCompare u
  | .compareFlush m u _ => okMaster m && okCompare u
  | .compareEnable m u _ => okMaster m && okCompare u
  | .clearUncertain m p _ => okMaster m && okPort p
  | .clearSuspect m p _ => okMaster m && okPort p
  | .wayClearCounts m p _ => okMaster m && okPort p
  | .motionWake p => okPort p
  | .truLine g => okCarriage g
  | .tableLoad m _ g _ => okMaster m && okCarriage g
  | .tableLoadComplete g _ => okCarriage g
  | .tableLoadAbort m _ g _ => okMaster m && okCarriage g
  | .refMeasurementDone g => okCarriage g
  | .gainRebuild g => okCarriage g
  | .gainCommitStage g => okCarriage g
  | .gainWaitTimeout g => okCarriage g
  | .rgaLine g => okCarriage g
  | .rgaGapMarker g => okCarriage g
  | .seamLineDeliver g _ => okCarriage g
  | .regWindowEnd g => okCarriage g
  | .seamRunComplete => true
  | .seamRunTimeout => true
  | .sprLine g => okCarriage g
  | .freezeMaskReturn g => okCarriage g
  | .sprFreeze m _ _ => okMaster m
  | .sprThaw m _ _ => okMaster m
  | .segLine g => okCarriage g
  | .lblLine g => okCarriage g
  | .dbmFragment g => okCarriage g
  | .dbmPartialSet c => okCoach c
  | .frontierAdvance g => okCarriage g
  | .recordWrite _ => true
  | .carriageLag g => okCarriage g
  | .dbmAckWrite m _ => okMaster m
  | .dbmRackWrite m _ g => okMaster m && okCarriage g
  | .patchCut _ => true
  | .archiveLine g => okCarriage g
  | .archiveRowClose g => okCarriage g
  | .archiveRowTimeout g => okCarriage g
  | .decodeJobGo m _ _ => okMaster m
  | .decodeJobAbort m _ _ => okMaster m
  | .decodeLine _ => true
  | .decodeJobEnd _ => true
  | .previewTick _ => true
  | .previewRowComplete _ _ => true
  | .previewRowTimeout _ _ => true
  | .dramRead _ _ _ => true
  | .bar2Read _ _ => true
  | .bar2Write _ _ _ => true
  | .bar2BaseWrite m _ => okMaster m
  | .refreshDue c d _ _ _ => okCoach c && okChannel d
  | .refreshMakeup c d _ => okCoach c && okChannel d
  | .dimmHot c d _ => okCoach c && okChannel d
  | .rowActivate c d _ _ _ _ => okCoach c && okChannel d
  | .curbWindowEnd c d => okCoach c && okChannel d
  | .scrubBlock _ _ _ => true
  | .sramScrub c _ _ => okCoach c
  | .waybillScrub _ _ => true
  | .remountGo m _ c d => okMaster m && okCoach c && okChannel d
  | .remountCopyBlock ch _ _ => okPackChannel ch
  | .remountComplete ch => okPackChannel ch
  | .dramRunComplete c _ _ => okCoach c
  | .sramUncorrectable c _ => okCoach c
  | .mewsPacketWrite c m _ _ _ => okCoach c && okMews m
  | .mewsSpaceFreed c m _ _ => okCoach c && okMews m
  | .mewsPacketRead c m _ _ => okCoach c && okMews m
  | .mewsPacketAbandon c m => okCoach c && okMews m
  | .mewsFlush m _ c => okMaster m && okCoach c
  | .mewsFlushBoundary c m => okCoach c && okMews m
  | .mewsHwFlush c m _ => okCoach c && okMews m
  | .mewPeakClear m _ c _ => okMaster m && okCoach c
  | .drayageGo m c n _ => okMaster m && okCoach c && okDray n
  | .drayageBurst c n _ _ _ => okCoach c && okDray n
  | .drayageComplete c n => okCoach c && okDray n
  | .drayageAbort m c n _ => okMaster m && okCoach c && okDray n
  | .drayageCredit c k => okCoach c && okCredit k
  | .drayageReqClear m c k _ => okMaster m && okCoach c && okCredit k
  | .whiffletreeDecision c u _ => okCoach c && okWht u
  | .burstMaxExpire c u => okCoach c && okWht u
  | .grantDrop c u _ => okCoach c && okWht u
  | .emergencyPreempt c u _ => okCoach c && okWht u
  | .starvation c u _ => okCoach c && okWht u
  | .clearStarve m c u _ => okMaster m && okCoach c && okWht u
  | .reinSourceEvent c _ _ => okCoach c
  | .reinCycle => true
  | .buckleGlitchAccept c _ => okCoach c
  | .reinRateWindow => true
  | .reinTrunkFire m _ => okMaster m
  | .gioInputEdge pin _ => okGio pin
  | .timetableTick _ => true
  | .ptpSync _ _ _ _ _ _ _ => true
  | .ptpFollowUp _ _ _ _ _ => true
  | .ptpDelayReq _ _ _ _ => true
  | .ptpDelayResp _ _ _ _ _ => true
  | .ptpPdelayReq _ _ _ _ => true
  | .ptpPdelayResp _ _ _ _ _ _ => true
  | .ptpPdelayRespFollowUp _ _ _ _ => true
  | .ptpAnnounce _ _ _ _ _ _ _ _ _ _ => true
  | .ptpDiscardedMessage => true
  | .ptpMasterSend _ => true
  | .announceTimeout => true
  | .stepAccept m _ => okMaster m
  | .stepReject m _ => okMaster m
  | .timeSet m _ => okMaster m
  | .capture m _ => okMaster m
  | .launchPush m _ => okMaster m
  | .launchFlush m _ => okMaster m
  | .launchPrefetch => true
  | .launchSend _ => true
  | .alarmFire a => okAlarm a
  | .markerPredict => true
  | .irqEoi m _ => okMaster m
  | .msixUnmask _ => true
  | .orRead _ => true
  | .orWrite _ => true
  | .orWriteFifo _ => true
  | .orResult => true
  | .orIdentify _ => true
  | .stalledAccessResume => true
  | .yokeRequest m _ => okMaster m
  | .yokeCheckDone _ => true
  | .yokeRelease _ => true
  | .yokeCancel m _ => okMaster m
  | .yokeDiscard m _ => okMaster m
  | .postSlotWrite m mb _ _ => okMaster m && okMailbox mb
  | .postSend m mb _ => okMaster m && okMailbox mb
  | .postTake m mb _ => okMaster m && okMailbox mb
  | .postAbort m mb _ => okMaster m && okMailbox mb
  | .postClaimLapse mb => okMailbox mb
  | .postTimeout mb => okMailbox mb
  | .hornRing m mb _ => okMaster m && okMailbox mb
  | .hornClear m mb _ => okMaster m && okMailbox mb
  | .identity => true
  | .faultRead => true
  | .faultClear => true
  | .temps => true
  | .wwtServiceRun => true
  | .wwtServiceState => true
  | .recordRead => true
  | .linchpinAcquire m n => okMaster m && okPin n
  | .linchpinRelease m n _ => okMaster m && okPin n
  | .linchpinForce m n _ => okMaster m && okPin n
  | .linchpinBreak _ => true
  | .linchpinLeaseExpire => true
  | .pcieReset _ => true
  | .pciePerst => true
  | .sleepRequest m _ => okMaster m
  | .sleepDrainDone => true
  | .sleepDrayageDone => true
  | .sleepClocksStopped => true
  | .wakeEvent _ _ => true
  | .wakeCommand m _ => okMaster m
  | .wakeComplete _ => true
  | .bootContinue m _ => okMaster m
  | .powerOnReset _ _ => true
  | .startupStageComplete _ _ _ _ => true
  | .resetPin _ => true
  | .coachReset m _ => okMaster m
  | .coachResetReady c _ _ _ => okCoach c
  | .coachmanWatchdog c _ => okCoach c
  | .tempSensorUpdate c _ => okCoach c
  | .wwtTimer _ _ car => okCarriage car
  | .wwtRun m c _ => okMaster m && okCoach c
  | .clearUnsettled m c _ => okMaster m && okCoach c
  | .laneRunComplete c _ _ => okCoach c
  | .gainRunComplete g => okCarriage g
  | .tsenRunComplete c _ _ => okCoach c
  | .pllUnlock _ c => okCoach c
  | .referenceLoss _ => true
  | .pairHello _ _ _ _ => true
  | .pairJoinTimeout => true
  | .pairHoldConflict => true
  | .heartbeat _ _ _ _ _ _ => true
  | .heartbeatSend => true
  | .heartbeatMissed => true
  | .mirrorTrigger _ _ _ _ _ _ => true
  | .mirrorEpoch g _ _ _ => okCarriage g
  | .mirrorYoke _ _ _ _ _ _ _ => true
  | .yokeResult _ _ => true
  | .yokeApply _ _ => true
  | .records _ _ => true
  | .recordsHeld _ => true
  | .mirrorAck _ => true
  | .digest g _ _ => okCarriage g
  | .digestTimeout g => okCarriage g
  | .resyncRequest g => okCarriage g
  | .mirrorState g _ => okCarriage g
  | .resyncSwitchBack => true
  | .resyncDone g => okCarriage g
  | .resyncTimeout => true
  | .calib g _ => okCarriage g
  | .mirrorTime _ => true
  | .switchoverControl _ => true
  | .holdInputLow => true
  | .switchover m _ => okMaster m
  | .detach m _ => okMaster m
  | .rejoin m _ => okMaster m
  | .ringHello _ _ => true
  | .ringHelloSend => true
  | .ringPartialSet _ _ _ => true
  | .ringNeighbourLost _ => true
  | .powerLoss => true
  | .rstnRise => true
  | .referenceReturn _ => true
  | .functionDStateChange _ => true
  | .controlSleepRequest _ => true
  | .filterRejectedPulse p k => okPort p && decide (k < 3)
  | .ptpDelayReqSend _ => true

end Sys2Proof
end

