-- ==== Sys2Proof/Decode.lean ====
section
/-! DEFINITION. The commands that a word spells: none. No row of the command table gives bits; a command comes with its operands from outside. -/

namespace Sys2Proof

/-- The command that the bits of a table row spell; no row has bits. -/
def decodeTableWord (_nbits _w : Nat) : Option Instr := none

end Sys2Proof
end

