-- ==== Sys2Proof/Machine/RegMap.lean ====
section
/-! DEFINITION. Every register of the part: block, offset in its window, reset domain, fields with access code and reset value,
as the register tables of spec/02 to spec/16 give them (R8 to R12, R475, R480). A field constant is named REGISTER_FIELD. -/

namespace Sys2Proof.Machine.Reg

/-! ### GLB registers (spec/13_control_paths.md, spec/14_power_startup_wheelwright.md, spec/16_register_and_error_reference.md) -/

def GLB_ID_PART : Fld := ⟨.GLB, 0x000, 3, 0, .RO, 0⟩
def GLB_ID_STEPPING : Fld := ⟨.GLB, 0x000, 7, 4, .RO, 0⟩
def GLB_ID_DEVICE : Fld := ⟨.GLB, 0x000, 31, 16, .RO, 0⟩
def GLB_ID : RegDef := ⟨.GLB, 0x000, 1, 0, 1, 0, .P, false, [GLB_ID_PART, GLB_ID_STEPPING, GLB_ID_DEVICE]⟩
def GLB_ERR_CODE : Fld := ⟨.GLB, 0x100, 31, 0, .RO, 0⟩
def GLB_ERR : RegDef := ⟨.GLB, 0x100, 1, 0, 1, 0, .C, false, [GLB_ERR_CODE]⟩
def GLB_ERR_ADDR_OFFSET : Fld := ⟨.GLB, 0x104, 31, 0, .RO, 0⟩
def GLB_ERR_ADDR : RegDef := ⟨.GLB, 0x104, 1, 0, 1, 0, .C, false, [GLB_ERR_ADDR_OFFSET]⟩
def GLB_ERR_MASTER_MASTER : Fld := ⟨.GLB, 0x108, 7, 0, .RO, 0⟩
def GLB_ERR_MASTER_COUNT : Fld := ⟨.GLB, 0x108, 31, 16, .RO, 0⟩
def GLB_ERR_MASTER : RegDef := ⟨.GLB, 0x108, 1, 0, 1, 0, .C, false, [GLB_ERR_MASTER_MASTER, GLB_ERR_MASTER_COUNT]⟩
def GLB_GUARD_HOST : Fld := ⟨.GLB, 0x10C, 0, 0, .RW, 0⟩
def GLB_GUARD_OUTRIDER : Fld := ⟨.GLB, 0x10C, 1, 1, .RW, 1⟩
def GLB_GUARD : RegDef := ⟨.GLB, 0x10C, 1, 0, 1, 0, .P, false, [GLB_GUARD_HOST, GLB_GUARD_OUTRIDER]⟩
def GLB_BAR2_BASE_GIB : Fld := ⟨.GLB, 0x110, 11, 0, .RW, 0⟩
def GLB_BAR2_BASE : RegDef := ⟨.GLB, 0x110, 1, 0, 1, 0, .C, false, [GLB_BAR2_BASE_GIB]⟩
def GLB_IRQ_LEVEL_LEVEL : Fld := ⟨.GLB, 0x140, 31, 0, .RO, 0⟩
def GLB_IRQ_LEVEL : RegDef := ⟨.GLB, 0x140, 8, 4, 1, 0, .C, false, [GLB_IRQ_LEVEL_LEVEL]⟩
def GLB_IRQ_SRC_SEL_VECTOR : Fld := ⟨.GLB, 0x160, 7, 0, .RW, 0⟩
def GLB_IRQ_SRC_SEL : RegDef := ⟨.GLB, 0x160, 1, 0, 1, 0, .C, false, [GLB_IRQ_SRC_SEL_VECTOR]⟩
def GLB_IRQ_SRC_SOURCES : Fld := ⟨.GLB, 0x164, 31, 0, .RO, 0⟩
def GLB_IRQ_SRC : RegDef := ⟨.GLB, 0x164, 1, 0, 1, 0, .C, false, [GLB_IRQ_SRC_SOURCES]⟩
def GLB_IRQ_EOI_VECTOR : Fld := ⟨.GLB, 0x168, 7, 0, .WP, 0⟩
def GLB_IRQ_EOI : RegDef := ⟨.GLB, 0x168, 1, 0, 1, 0, .C, false, [GLB_IRQ_EOI_VECTOR]⟩
def GLB_REIN_IRQ_BITS : Fld := ⟨.GLB, 0x180, 7, 0, .W1C, 0⟩
def GLB_REIN_IRQ : RegDef := ⟨.GLB, 0x180, 8, 4, 1, 0, .C, false, [GLB_REIN_IRQ_BITS]⟩
def GLB_BOOT_STAGE_STAGE : Fld := ⟨.GLB, 0x004, 3, 0, .RO, 1⟩
def GLB_BOOT_STAGE_STATE : Fld := ⟨.GLB, 0x004, 5, 4, .RO, 0⟩
def GLB_BOOT_STAGE_COACH : Fld := ⟨.GLB, 0x004, 15, 8, .RO, 255⟩
def GLB_BOOT_STAGE_MS : Fld := ⟨.GLB, 0x004, 31, 16, .RO, 0⟩
def GLB_BOOT_STAGE : RegDef := ⟨.GLB, 0x004, 1, 0, 1, 0, .P, false, [GLB_BOOT_STAGE_STAGE, GLB_BOOT_STAGE_STATE, GLB_BOOT_STAGE_COACH, GLB_BOOT_STAGE_MS]⟩
def GLB_BOOT_ERR_CODE : Fld := ⟨.GLB, 0x008, 31, 0, .RO, 0⟩
def GLB_BOOT_ERR : RegDef := ⟨.GLB, 0x008, 1, 0, 1, 0, .P, false, [GLB_BOOT_ERR_CODE]⟩
def GLB_STRAP_STRAP : Fld := ⟨.GLB, 0x00C, 7, 0, .RO, 0⟩
def GLB_STRAP : RegDef := ⟨.GLB, 0x00C, 1, 0, 1, 0, .P, false, [GLB_STRAP_STRAP]⟩
def GLB_MEM_CNT_COUNT : Fld := ⟨.GLB, 0x200, 31, 0, .RO, 0⟩
def GLB_MEM_CNT : RegDef := ⟨.GLB, 0x200, 6, 4, 1, 0, .P, false, [GLB_MEM_CNT_COUNT]⟩
def GLB_FAB_PORTS_FAILED : Fld := ⟨.GLB, 0x218, 31, 0, .RO, 0⟩
def GLB_FAB_PORTS : RegDef := ⟨.GLB, 0x218, 1, 0, 1, 0, .C, false, [GLB_FAB_PORTS_FAILED]⟩
def GLB_FAB_ERR_CODE : Fld := ⟨.GLB, 0x21C, 31, 0, .RO, 0⟩
def GLB_FAB_ERR : RegDef := ⟨.GLB, 0x21C, 1, 0, 1, 0, .C, false, [GLB_FAB_ERR_CODE]⟩
def tabGLB : List RegDef :=
  [GLB_ID, GLB_ERR, GLB_ERR_ADDR, GLB_ERR_MASTER, GLB_GUARD, GLB_BAR2_BASE, GLB_IRQ_LEVEL, GLB_IRQ_SRC_SEL, GLB_IRQ_SRC, GLB_IRQ_EOI, GLB_REIN_IRQ, GLB_BOOT_STAGE, GLB_BOOT_ERR, GLB_STRAP, GLB_MEM_CNT, GLB_FAB_PORTS, GLB_FAB_ERR]

/-! ### HDR registers (spec/02_harness_image.md) -/

def HDR_CTL_LOAD : Fld := ⟨.HDR, 0x000, 0, 0, .WP, 0⟩
def HDR_CTL_ABORT : Fld := ⟨.HDR, 0x000, 1, 1, .WP, 0⟩
def HDR_CTL_PATCH_CANCEL : Fld := ⟨.HDR, 0x000, 2, 2, .WP, 0⟩
def HDR_CTL_PROG_A : Fld := ⟨.HDR, 0x000, 3, 3, .WP, 0⟩
def HDR_CTL_PROG_B : Fld := ⟨.HDR, 0x000, 4, 4, .WP, 0⟩
def HDR_CTL_SRC : Fld := ⟨.HDR, 0x000, 9, 8, .RW, 0⟩
def HDR_CTL_CHECK_ONLY : Fld := ⟨.HDR, 0x000, 10, 10, .RW, 0⟩
def HDR_CTL_PATCH : Fld := ⟨.HDR, 0x000, 11, 11, .RW, 0⟩
def HDR_CTL : RegDef := ⟨.HDR, 0x000, 1, 0, 1, 0, .C, false, [HDR_CTL_LOAD, HDR_CTL_ABORT, HDR_CTL_PATCH_CANCEL, HDR_CTL_PROG_A, HDR_CTL_PROG_B, HDR_CTL_SRC, HDR_CTL_CHECK_ONLY, HDR_CTL_PATCH]⟩
def HDR_STATUS_PHASE : Fld := ⟨.HDR, 0x004, 2, 0, .RO, 0⟩
def HDR_STATUS_ACTIVE : Fld := ⟨.HDR, 0x004, 3, 3, .RO, 0⟩
def HDR_STATUS_DONE : Fld := ⟨.HDR, 0x004, 4, 4, .W1C, 0⟩
def HDR_STATUS_FAIL : Fld := ⟨.HDR, 0x004, 5, 5, .W1C, 0⟩
def HDR_STATUS_FALLBACK : Fld := ⟨.HDR, 0x004, 6, 6, .RO, 0⟩
def HDR_STATUS_ACTIVE_SRC : Fld := ⟨.HDR, 0x004, 9, 8, .RO, 0⟩
def HDR_STATUS_PATCH_CARRIAGE : Fld := ⟨.HDR, 0x004, 23, 16, .RO, 255⟩
def HDR_STATUS : RegDef := ⟨.HDR, 0x004, 1, 0, 1, 0, .C, false, [HDR_STATUS_PHASE, HDR_STATUS_ACTIVE, HDR_STATUS_DONE, HDR_STATUS_FAIL, HDR_STATUS_FALLBACK, HDR_STATUS_ACTIVE_SRC, HDR_STATUS_PATCH_CARRIAGE]⟩
def HDR_ERR_CODE : Fld := ⟨.HDR, 0x008, 31, 0, .RO, 0⟩
def HDR_ERR : RegDef := ⟨.HDR, 0x008, 1, 0, 1, 0, .C, false, [HDR_ERR_CODE]⟩
def HDR_ERR_LOC_CARRIAGE : Fld := ⟨.HDR, 0x00C, 7, 0, .RO, 255⟩
def HDR_ERR_LOC_SECTION : Fld := ⟨.HDR, 0x00C, 15, 8, .RO, 0⟩
def HDR_ERR_LOC_RECORD : Fld := ⟨.HDR, 0x00C, 31, 16, .RO, 0⟩
def HDR_ERR_LOC : RegDef := ⟨.HDR, 0x00C, 1, 0, 1, 0, .C, false, [HDR_ERR_LOC_CARRIAGE, HDR_ERR_LOC_SECTION, HDR_ERR_LOC_RECORD]⟩
def HDR_ERR_VALUE_VALUE : Fld := ⟨.HDR, 0x010, 31, 0, .RO, 0⟩
def HDR_ERR_VALUE : RegDef := ⟨.HDR, 0x010, 1, 0, 1, 0, .C, false, [HDR_ERR_VALUE_VALUE]⟩
def HDR_STAGE_ADDR_LO_ADDR : Fld := ⟨.HDR, 0x014, 31, 6, .RW, 0⟩
def HDR_STAGE_ADDR_LO : RegDef := ⟨.HDR, 0x014, 1, 0, 1, 0, .C, true, [HDR_STAGE_ADDR_LO_ADDR]⟩
def HDR_STAGE_ADDR_HI_ADDR : Fld := ⟨.HDR, 0x018, 9, 0, .RW, 0⟩
def HDR_STAGE_ADDR_HI : RegDef := ⟨.HDR, 0x018, 1, 0, 1, 0, .C, false, [HDR_STAGE_ADDR_HI_ADDR]⟩
def HDR_STAGE_LEN_LEN : Fld := ⟨.HDR, 0x01C, 24, 0, .RW, 0⟩
def HDR_STAGE_LEN : RegDef := ⟨.HDR, 0x01C, 1, 0, 1, 0, .C, false, [HDR_STAGE_LEN_LEN]⟩
def HDR_ACTIVE_ID_LO_ID : Fld := ⟨.HDR, 0x020, 31, 0, .RO, 0⟩
def HDR_ACTIVE_ID_LO : RegDef := ⟨.HDR, 0x020, 1, 0, 1, 0, .C, true, [HDR_ACTIVE_ID_LO_ID]⟩
def HDR_ACTIVE_ID_HI_ID : Fld := ⟨.HDR, 0x024, 31, 0, .RO, 0⟩
def HDR_ACTIVE_ID_HI : RegDef := ⟨.HDR, 0x024, 1, 0, 1, 0, .C, false, [HDR_ACTIVE_ID_HI_ID]⟩
def HDR_GEN_GEN : Fld := ⟨.HDR, 0x028, 31, 0, .RO, 0⟩
def HDR_GEN : RegDef := ⟨.HDR, 0x028, 1, 0, 1, 0, .C, false, [HDR_GEN_GEN]⟩
def HDR_OR_DATA_DATA : Fld := ⟨.HDR, 0x02C, 31, 0, .RW, 0⟩
def HDR_OR_DATA : RegDef := ⟨.HDR, 0x02C, 1, 0, 1, 0, .C, false, [HDR_OR_DATA_DATA]⟩
def HDR_OR_COUNT_BYTES : Fld := ⟨.HDR, 0x030, 24, 0, .RO, 0⟩
def HDR_OR_COUNT_CLEAR : Fld := ⟨.HDR, 0x030, 31, 31, .WP, 0⟩
def HDR_OR_COUNT : RegDef := ⟨.HDR, 0x030, 1, 0, 1, 0, .C, false, [HDR_OR_COUNT_BYTES, HDR_OR_COUNT_CLEAR]⟩
def HDR_KEY_CTL_SLOT : Fld := ⟨.HDR, 0x034, 1, 0, .RW, 0⟩
def HDR_KEY_CTL_ENROL : Fld := ⟨.HDR, 0x034, 2, 2, .WP, 0⟩
def HDR_KEY_CTL_REVOKE : Fld := ⟨.HDR, 0x034, 3, 3, .WP, 0⟩
def HDR_KEY_CTL_STATE : Fld := ⟨.HDR, 0x034, 15, 8, .RO, 0⟩
def HDR_KEY_CTL_REFUSED : Fld := ⟨.HDR, 0x034, 16, 16, .W1C, 0⟩
def HDR_KEY_CTL : RegDef := ⟨.HDR, 0x034, 1, 0, 1, 0, .P, false, [HDR_KEY_CTL_SLOT, HDR_KEY_CTL_ENROL, HDR_KEY_CTL_REVOKE, HDR_KEY_CTL_STATE, HDR_KEY_CTL_REFUSED]⟩
def HDR_KEY_DIGEST_DIGEST : Fld := ⟨.HDR, 0x040, 31, 0, .RW, 0⟩
def HDR_KEY_DIGEST : RegDef := ⟨.HDR, 0x040, 12, 4, 1, 0, .P, false, [HDR_KEY_DIGEST_DIGEST]⟩
def HDR_PATCH_AT_LO_AT : Fld := ⟨.HDR, 0x070, 31, 0, .RW, 0⟩
def HDR_PATCH_AT_LO : RegDef := ⟨.HDR, 0x070, 1, 0, 1, 0, .C, true, [HDR_PATCH_AT_LO_AT]⟩
def HDR_PATCH_AT_HI_AT : Fld := ⟨.HDR, 0x074, 31, 0, .RW, 0⟩
def HDR_PATCH_AT_HI : RegDef := ⟨.HDR, 0x074, 1, 0, 1, 0, .C, false, [HDR_PATCH_AT_HI_AT]⟩
def HDR_PATCH_KIND_KIND : Fld := ⟨.HDR, 0x078, 1, 0, .RW, 3⟩
def HDR_PATCH_KIND : RegDef := ⟨.HDR, 0x078, 1, 0, 1, 0, .C, false, [HDR_PATCH_KIND_KIND]⟩
def tabHDR : List RegDef :=
  [HDR_CTL, HDR_STATUS, HDR_ERR, HDR_ERR_LOC, HDR_ERR_VALUE, HDR_STAGE_ADDR_LO, HDR_STAGE_ADDR_HI, HDR_STAGE_LEN, HDR_ACTIVE_ID_LO, HDR_ACTIVE_ID_HI, HDR_GEN, HDR_OR_DATA, HDR_OR_COUNT, HDR_KEY_CTL, HDR_KEY_DIGEST, HDR_PATCH_AT_LO, HDR_PATCH_AT_HI, HDR_PATCH_KIND]

/-! ### YOK registers (spec/13_control_paths.md) -/

def YOK_CTL_REQUEST : Fld := ⟨.YOK, 0x000, 0, 0, .WP, 0⟩
def YOK_CTL_CANCEL : Fld := ⟨.YOK, 0x000, 1, 1, .WP, 0⟩
def YOK_CTL_DISCARD : Fld := ⟨.YOK, 0x000, 2, 2, .WP, 0⟩
def YOK_CTL_SCOPE : Fld := ⟨.YOK, 0x000, 3, 3, .RW, 0⟩
def YOK_CTL_KIND : Fld := ⟨.YOK, 0x000, 6, 4, .RW, 3⟩
def YOK_CTL_DEFAULTS : Fld := ⟨.YOK, 0x000, 7, 7, .RW, 0⟩
def YOK_CTL_CHECK_ONLY : Fld := ⟨.YOK, 0x000, 8, 8, .RW, 0⟩
def YOK_CTL_CARRIAGE : Fld := ⟨.YOK, 0x000, 23, 16, .RW, 0⟩
def YOK_CTL : RegDef := ⟨.YOK, 0x000, 1, 0, 1, 0, .C, false, [YOK_CTL_REQUEST, YOK_CTL_CANCEL, YOK_CTL_DISCARD, YOK_CTL_SCOPE, YOK_CTL_KIND, YOK_CTL_DEFAULTS, YOK_CTL_CHECK_ONLY, YOK_CTL_CARRIAGE]⟩
def YOK_AT_LO_AT : Fld := ⟨.YOK, 0x004, 31, 0, .RW, 0⟩
def YOK_AT_LO : RegDef := ⟨.YOK, 0x004, 1, 0, 1, 0, .C, true, [YOK_AT_LO_AT]⟩
def YOK_AT_HI_AT : Fld := ⟨.YOK, 0x008, 31, 0, .RW, 0⟩
def YOK_AT_HI : RegDef := ⟨.YOK, 0x008, 1, 0, 1, 0, .C, false, [YOK_AT_HI_AT]⟩
def YOK_STATUS_STATE : Fld := ⟨.YOK, 0x00C, 1, 0, .RO, 0⟩
def YOK_STATUS_DONE : Fld := ⟨.YOK, 0x00C, 2, 2, .W1C, 0⟩
def YOK_STATUS_FAIL : Fld := ⟨.YOK, 0x00C, 3, 3, .W1C, 0⟩
def YOK_STATUS_APPLIED : Fld := ⟨.YOK, 0x00C, 4, 4, .W1C, 0⟩
def YOK_STATUS_PKG_STATE : Fld := ⟨.YOK, 0x00C, 6, 5, .RO, 0⟩
def YOK_STATUS_PKG_MASTER : Fld := ⟨.YOK, 0x00C, 15, 8, .RO, 0⟩
def YOK_STATUS : RegDef := ⟨.YOK, 0x00C, 1, 0, 1, 0, .C, false, [YOK_STATUS_STATE, YOK_STATUS_DONE, YOK_STATUS_FAIL, YOK_STATUS_APPLIED, YOK_STATUS_PKG_STATE, YOK_STATUS_PKG_MASTER]⟩
def YOK_ERR_CODE : Fld := ⟨.YOK, 0x010, 31, 0, .RO, 0⟩
def YOK_ERR : RegDef := ⟨.YOK, 0x010, 1, 0, 1, 0, .C, false, [YOK_ERR_CODE]⟩
def YOK_ERR_LOC_OFFSET : Fld := ⟨.YOK, 0x014, 31, 0, .RO, 0⟩
def YOK_ERR_LOC : RegDef := ⟨.YOK, 0x014, 1, 0, 1, 0, .C, false, [YOK_ERR_LOC_OFFSET]⟩
def YOK_ERR_VALUE_VALUE : Fld := ⟨.YOK, 0x018, 31, 0, .RO, 0⟩
def YOK_ERR_VALUE : RegDef := ⟨.YOK, 0x018, 1, 0, 1, 0, .C, false, [YOK_ERR_VALUE_VALUE]⟩
def YOK_CAR_STATE_STATE : Fld := ⟨.YOK, 0x01C, 31, 0, .RO, 0⟩
def YOK_CAR_STATE : RegDef := ⟨.YOK, 0x01C, 3, 4, 1, 0, .C, false, [YOK_CAR_STATE_STATE]⟩
def YOK_PAIR_LEAD_US : Fld := ⟨.YOK, 0x028, 15, 0, .RW, 1000⟩
def YOK_PAIR : RegDef := ⟨.YOK, 0x028, 1, 0, 1, 0, .H, false, [YOK_PAIR_LEAD_US]⟩
def YOK_COUNT_APPLIED : Fld := ⟨.YOK, 0x02C, 31, 0, .RO, 0⟩
def YOK_COUNT : RegDef := ⟨.YOK, 0x02C, 1, 0, 1, 0, .C, false, [YOK_COUNT_APPLIED]⟩
def YOK_APPLY_POS_LO_NM : Fld := ⟨.YOK, 0x030, 31, 0, .RO, 0⟩
def YOK_APPLY_POS_LO : RegDef := ⟨.YOK, 0x030, 1, 0, 1, 0, .C, true, [YOK_APPLY_POS_LO_NM]⟩
def YOK_APPLY_POS_HI_NM : Fld := ⟨.YOK, 0x034, 31, 0, .RO, 0⟩
def YOK_APPLY_POS_HI : RegDef := ⟨.YOK, 0x034, 1, 0, 1, 0, .C, false, [YOK_APPLY_POS_HI_NM]⟩
def tabYOK : List RegDef :=
  [YOK_CTL, YOK_AT_LO, YOK_AT_HI, YOK_STATUS, YOK_ERR, YOK_ERR_LOC, YOK_ERR_VALUE, YOK_CAR_STATE, YOK_PAIR, YOK_COUNT, YOK_APPLY_POS_LO, YOK_APPLY_POS_HI]

/-! ### OUT registers (spec/13_control_paths.md) -/

def OUT_CFG_MODE : Fld := ⟨.OUT, 0x000, 0, 0, .RO, 0⟩
def OUT_CFG_ADDRESS : Fld := ⟨.OUT, 0x000, 7, 1, .RO, 0⟩
def OUT_CFG : RegDef := ⟨.OUT, 0x000, 1, 0, 1, 0, .P, false, [OUT_CFG_MODE, OUT_CFG_ADDRESS]⟩
def OUT_STATUS_ATTN : Fld := ⟨.OUT, 0x004, 0, 0, .RO, 0⟩
def OUT_STATUS_CRC_ERR : Fld := ⟨.OUT, 0x004, 1, 1, .W1C, 0⟩
def OUT_STATUS_MALFORMED : Fld := ⟨.OUT, 0x004, 2, 2, .W1C, 0⟩
def OUT_STATUS_OVERRUN : Fld := ⟨.OUT, 0x004, 3, 3, .W1C, 0⟩
def OUT_STATUS_ASLEEP : Fld := ⟨.OUT, 0x004, 4, 4, .W1C, 0⟩
def OUT_STATUS : RegDef := ⟨.OUT, 0x004, 1, 0, 1, 0, .P, false, [OUT_STATUS_ATTN, OUT_STATUS_CRC_ERR, OUT_STATUS_MALFORMED, OUT_STATUS_OVERRUN, OUT_STATUS_ASLEEP]⟩
def OUT_ATTN_MASK_VECTORS : Fld := ⟨.OUT, 0x008, 9, 0, .RW, 19⟩
def OUT_ATTN_MASK_GROUPS : Fld := ⟨.OUT, 0x008, 23, 16, .RW, 0⟩
def OUT_ATTN_MASK_POST : Fld := ⟨.OUT, 0x008, 24, 24, .RW, 1⟩
def OUT_ATTN_MASK : RegDef := ⟨.OUT, 0x008, 1, 0, 1, 0, .P, false, [OUT_ATTN_MASK_VECTORS, OUT_ATTN_MASK_GROUPS, OUT_ATTN_MASK_POST]⟩
def OUT_CNT_FRAMES : Fld := ⟨.OUT, 0x00C, 15, 0, .RO, 0⟩
def OUT_CNT_ERRORS : Fld := ⟨.OUT, 0x00C, 31, 16, .RO, 0⟩
def OUT_CNT : RegDef := ⟨.OUT, 0x00C, 1, 0, 1, 0, .P, false, [OUT_CNT_FRAMES, OUT_CNT_ERRORS]⟩
def tabOUT : List RegDef :=
  [OUT_CFG, OUT_STATUS, OUT_ATTN_MASK, OUT_CNT]

/-! ### PST registers (spec/13_control_paths.md) -/

def PST_CFG_RECEIVER : Fld := ⟨.PST, 0x000, 7, 0, .YH, 0⟩
def PST_CFG_SECURE : Fld := ⟨.PST, 0x000, 8, 8, .YH, 0⟩
def PST_CFG_TIMEOUT_MS : Fld := ⟨.PST, 0x000, 31, 16, .YH, 10⟩
def PST_CFG : RegDef := ⟨.PST, 0x000, 1, 0, 16, 256, .H, false, [PST_CFG_RECEIVER, PST_CFG_SECURE, PST_CFG_TIMEOUT_MS]⟩
def PST_CTL_SEND : Fld := ⟨.PST, 0x004, 0, 0, .WP, 0⟩
def PST_CTL_TAKE : Fld := ⟨.PST, 0x004, 1, 1, .WP, 0⟩
def PST_CTL_ABORT : Fld := ⟨.PST, 0x004, 2, 2, .WP, 0⟩
def PST_CTL : RegDef := ⟨.PST, 0x004, 1, 0, 16, 256, .C, false, [PST_CTL_SEND, PST_CTL_TAKE, PST_CTL_ABORT]⟩
def PST_STATUS_FULL : Fld := ⟨.PST, 0x008, 0, 0, .RO, 0⟩
def PST_STATUS_CLAIMED : Fld := ⟨.PST, 0x008, 1, 1, .RO, 0⟩
def PST_STATUS_TAKEN : Fld := ⟨.PST, 0x008, 2, 2, .W1C, 0⟩
def PST_STATUS_TIMEOUT : Fld := ⟨.PST, 0x008, 3, 3, .W1C, 0⟩
def PST_STATUS_COLLISION : Fld := ⟨.PST, 0x008, 4, 4, .W1C, 0⟩
def PST_STATUS_WRITER : Fld := ⟨.PST, 0x008, 15, 8, .RO, 0⟩
def PST_STATUS : RegDef := ⟨.PST, 0x008, 1, 0, 16, 256, .C, false, [PST_STATUS_FULL, PST_STATUS_CLAIMED, PST_STATUS_TAKEN, PST_STATUS_TIMEOUT, PST_STATUS_COLLISION, PST_STATUS_WRITER]⟩
def PST_HORN_HORN : Fld := ⟨.PST, 0x00C, 31, 0, .W1S, 0⟩
def PST_HORN : RegDef := ⟨.PST, 0x00C, 1, 0, 16, 256, .C, false, [PST_HORN_HORN]⟩
def PST_HORN_CLR_HORN : Fld := ⟨.PST, 0x010, 31, 0, .W1C, 0⟩
def PST_HORN_CLR : RegDef := ⟨.PST, 0x010, 1, 0, 16, 256, .C, false, [PST_HORN_CLR_HORN]⟩
def PST_MASK_MASK : Fld := ⟨.PST, 0x014, 31, 0, .RW, 0x80000001⟩
def PST_MASK : RegDef := ⟨.PST, 0x014, 1, 0, 16, 256, .C, false, [PST_MASK_MASK]⟩
def PST_MSG_WORD : Fld := ⟨.PST, 0x040, 31, 0, .RW, 0⟩
def PST_MSG : RegDef := ⟨.PST, 0x040, 16, 4, 16, 256, .C, false, [PST_MSG_WORD]⟩
def tabPST : List RegDef :=
  [PST_CFG, PST_CTL, PST_STATUS, PST_HORN, PST_HORN_CLR, PST_MASK, PST_MSG]

/-! ### LCH registers (spec/13_control_paths.md) -/

def LCH_SUSPECT_CLASS : Fld := ⟨.LCH, 0x000, 15, 0, .W1C, 0⟩
def LCH_SUSPECT : RegDef := ⟨.LCH, 0x000, 1, 0, 1, 0, .C, false, [LCH_SUSPECT_CLASS]⟩
def LCH_BROKEN_LO_PIN : Fld := ⟨.LCH, 0x004, 31, 0, .W1C, 0⟩
def LCH_BROKEN_LO : RegDef := ⟨.LCH, 0x004, 1, 0, 1, 0, .C, true, [LCH_BROKEN_LO_PIN]⟩
def LCH_BROKEN_HI_PIN : Fld := ⟨.LCH, 0x008, 31, 0, .W1C, 0⟩
def LCH_BROKEN_HI : RegDef := ⟨.LCH, 0x008, 1, 0, 1, 0, .C, false, [LCH_BROKEN_HI_PIN]⟩
def LCH_LEASE_MS : Fld := ⟨.LCH, 0x00C, 15, 0, .RW, 5000⟩
def LCH_LEASE : RegDef := ⟨.LCH, 0x00C, 1, 0, 1, 0, .P, false, [LCH_LEASE_MS]⟩
def LCH_HORN_MAILBOX : Fld := ⟨.LCH, 0x010, 3, 0, .RW, 14⟩
def LCH_HORN : RegDef := ⟨.LCH, 0x010, 1, 0, 1, 0, .H, false, [LCH_HORN_MAILBOX]⟩
def LCH_PIN_GRANTED : Fld := ⟨.LCH, 0x100, 0, 0, .RO, 0⟩
def LCH_PIN_SUSPECT : Fld := ⟨.LCH, 0x100, 1, 1, .RO, 0⟩
def LCH_PIN_OWNER : Fld := ⟨.LCH, 0x100, 15, 8, .RO, 0⟩
def LCH_PIN_RELEASE : Fld := ⟨.LCH, 0x100, 31, 31, .WP, 0⟩
def LCH_PIN : RegDef := ⟨.LCH, 0x100, 1, 0, 64, 8, .C, false, [LCH_PIN_GRANTED, LCH_PIN_SUSPECT, LCH_PIN_OWNER, LCH_PIN_RELEASE]⟩
def LCH_INFO_CLASS : Fld := ⟨.LCH, 0x104, 3, 0, .YH, 0⟩
def LCH_INFO_OWNER : Fld := ⟨.LCH, 0x104, 15, 8, .RO, 0⟩
def LCH_INFO_FORCE : Fld := ⟨.LCH, 0x104, 31, 31, .WP, 0⟩
def LCH_INFO : RegDef := ⟨.LCH, 0x104, 1, 0, 64, 8, .C, false, [LCH_INFO_CLASS, LCH_INFO_OWNER, LCH_INFO_FORCE]⟩
def tabLCH : List RegDef :=
  [LCH_SUSPECT, LCH_BROKEN_LO, LCH_BROKEN_HI, LCH_LEASE, LCH_HORN, LCH_PIN, LCH_INFO]

/-! ### TMT registers (spec/12_reins_and_timetable.md) -/

def TMT_CFG_ROLE : Fld := ⟨.TMT, 0x000, 1, 0, .YH, 0⟩
def TMT_CFG_TWO_STEP : Fld := ⟨.TMT, 0x000, 2, 2, .YH, 0⟩
def TMT_CFG_PEER : Fld := ⟨.TMT, 0x000, 3, 3, .YH, 0⟩
def TMT_CFG_LANE : Fld := ⟨.TMT, 0x000, 10, 4, .YH, 0⟩
def TMT_CFG_DOMAIN : Fld := ⟨.TMT, 0x000, 23, 16, .YH, 0⟩
def TMT_CFG : RegDef := ⟨.TMT, 0x000, 1, 0, 1, 0, .H, false, [TMT_CFG_ROLE, TMT_CFG_TWO_STEP, TMT_CFG_PEER, TMT_CFG_LANE, TMT_CFG_DOMAIN]⟩
def TMT_PTP_TRANSPORT : Fld := ⟨.TMT, 0x004, 0, 0, .RW, 0⟩
def TMT_PTP_PRIORITY1 : Fld := ⟨.TMT, 0x004, 15, 8, .RW, 128⟩
def TMT_PTP_PRIORITY2 : Fld := ⟨.TMT, 0x004, 23, 16, .RW, 128⟩
def TMT_PTP_CLASS : Fld := ⟨.TMT, 0x004, 31, 24, .RW, 248⟩
def TMT_PTP : RegDef := ⟨.TMT, 0x004, 1, 0, 1, 0, .H, false, [TMT_PTP_TRANSPORT, TMT_PTP_PRIORITY1, TMT_PTP_PRIORITY2, TMT_PTP_CLASS]⟩
def TMT_PTP_LOG_LOG_SYNC : Fld := ⟨.TMT, 0x008, 3, 0, .RW, 0⟩
def TMT_PTP_LOG_LOG_ANNOUNCE : Fld := ⟨.TMT, 0x008, 7, 4, .RW, 1⟩
def TMT_PTP_LOG_ACCURACY : Fld := ⟨.TMT, 0x008, 15, 8, .RW, 254⟩
def TMT_PTP_LOG : RegDef := ⟨.TMT, 0x008, 1, 0, 1, 0, .H, false, [TMT_PTP_LOG_LOG_SYNC, TMT_PTP_LOG_LOG_ANNOUNCE, TMT_PTP_LOG_ACCURACY]⟩
def TMT_STATUS_STATE : Fld := ⟨.TMT, 0x00C, 2, 0, .RO, 0⟩
def TMT_STATUS_SOURCE : Fld := ⟨.TMT, 0x00C, 5, 3, .RO, 0⟩
def TMT_STATUS_PORT_STATE : Fld := ⟨.TMT, 0x00C, 9, 6, .RO, 0⟩
def TMT_STATUS_STEP_PENDING : Fld := ⟨.TMT, 0x00C, 10, 10, .RO, 0⟩
def TMT_STATUS : RegDef := ⟨.TMT, 0x00C, 1, 0, 1, 0, .P, false, [TMT_STATUS_STATE, TMT_STATUS_SOURCE, TMT_STATUS_PORT_STATE, TMT_STATUS_STEP_PENDING]⟩
def TMT_EVENT_STEP_REFUSED : Fld := ⟨.TMT, 0x010, 0, 0, .W1C, 0⟩
def TMT_EVENT_STEPPED : Fld := ⟨.TMT, 0x010, 1, 1, .W1C, 0⟩
def TMT_EVENT_HOLDOVER : Fld := ⟨.TMT, 0x010, 2, 2, .W1C, 0⟩
def TMT_EVENT_LOCKED : Fld := ⟨.TMT, 0x010, 3, 3, .W1C, 0⟩
def TMT_EVENT_GM_CHANGE : Fld := ⟨.TMT, 0x010, 4, 4, .W1C, 0⟩
def TMT_EVENT_ALARM : Fld := ⟨.TMT, 0x010, 5, 5, .W1C, 0⟩
def TMT_EVENT_LAUNCH_LATE : Fld := ⟨.TMT, 0x010, 6, 6, .W1C, 0⟩
def TMT_EVENT_LAUNCH_DROP : Fld := ⟨.TMT, 0x010, 7, 7, .W1C, 0⟩
def TMT_EVENT_MARK_DROP : Fld := ⟨.TMT, 0x010, 8, 8, .W1C, 0⟩
def TMT_EVENT_WAKE_STEP : Fld := ⟨.TMT, 0x010, 9, 9, .W1C, 0⟩
def TMT_EVENT_CAPTURE : Fld := ⟨.TMT, 0x010, 10, 10, .W1C, 0⟩
def TMT_EVENT : RegDef := ⟨.TMT, 0x010, 1, 0, 1, 0, .C, false, [TMT_EVENT_STEP_REFUSED, TMT_EVENT_STEPPED, TMT_EVENT_HOLDOVER, TMT_EVENT_LOCKED, TMT_EVENT_GM_CHANGE, TMT_EVENT_ALARM, TMT_EVENT_LAUNCH_LATE, TMT_EVENT_LAUNCH_DROP, TMT_EVENT_MARK_DROP, TMT_EVENT_WAKE_STEP, TMT_EVENT_CAPTURE]⟩
def TMT_CMD_STEP_ACCEPT : Fld := ⟨.TMT, 0x014, 0, 0, .WP, 0⟩
def TMT_CMD_STEP_REJECT : Fld := ⟨.TMT, 0x014, 1, 1, .WP, 0⟩
def TMT_CMD_SET : Fld := ⟨.TMT, 0x014, 2, 2, .WP, 0⟩
def TMT_CMD_CAPTURE : Fld := ⟨.TMT, 0x014, 3, 3, .WP, 0⟩
def TMT_CMD : RegDef := ⟨.TMT, 0x014, 1, 0, 1, 0, .C, false, [TMT_CMD_STEP_ACCEPT, TMT_CMD_STEP_REJECT, TMT_CMD_SET, TMT_CMD_CAPTURE]⟩
def TMT_TIME_LO_NS : Fld := ⟨.TMT, 0x018, 31, 0, .RO, 0⟩
def TMT_TIME_LO : RegDef := ⟨.TMT, 0x018, 1, 0, 1, 0, .P, true, [TMT_TIME_LO_NS]⟩
def TMT_TIME_HI_NS : Fld := ⟨.TMT, 0x01C, 31, 0, .RO, 0⟩
def TMT_TIME_HI : RegDef := ⟨.TMT, 0x01C, 1, 0, 1, 0, .P, false, [TMT_TIME_HI_NS]⟩
def TMT_TIME_FRAC_FRAC : Fld := ⟨.TMT, 0x020, 15, 0, .RO, 0⟩
def TMT_TIME_FRAC : RegDef := ⟨.TMT, 0x020, 1, 0, 1, 0, .P, false, [TMT_TIME_FRAC_FRAC]⟩
def TMT_RATE_RATE : Fld := ⟨.TMT, 0x024, 31, 0, .RO, 0⟩
def TMT_RATE : RegDef := ⟨.TMT, 0x024, 1, 0, 1, 0, .P, false, [TMT_RATE_RATE]⟩
def TMT_OFFSET_LO_NS : Fld := ⟨.TMT, 0x028, 31, 0, .RO, 0⟩
def TMT_OFFSET_LO : RegDef := ⟨.TMT, 0x028, 1, 0, 1, 0, .C, true, [TMT_OFFSET_LO_NS]⟩
def TMT_OFFSET_HI_NS : Fld := ⟨.TMT, 0x02C, 31, 0, .RO, 0⟩
def TMT_OFFSET_HI : RegDef := ⟨.TMT, 0x02C, 1, 0, 1, 0, .C, false, [TMT_OFFSET_HI_NS]⟩
def TMT_PATH_DELAY_PS : Fld := ⟨.TMT, 0x030, 31, 0, .RO, 0⟩
def TMT_PATH_DELAY : RegDef := ⟨.TMT, 0x030, 1, 0, 1, 0, .C, false, [TMT_PATH_DELAY_PS]⟩
def TMT_JUMP_LIMIT_NS : Fld := ⟨.TMT, 0x034, 31, 0, .RW, 0⟩
def TMT_JUMP_LIMIT : RegDef := ⟨.TMT, 0x034, 1, 0, 1, 0, .H, false, [TMT_JUMP_LIMIT_NS]⟩
def TMT_STEP_LO_NS : Fld := ⟨.TMT, 0x038, 31, 0, .RO, 0⟩
def TMT_STEP_LO : RegDef := ⟨.TMT, 0x038, 1, 0, 1, 0, .C, true, [TMT_STEP_LO_NS]⟩
def TMT_STEP_HI_NS : Fld := ⟨.TMT, 0x03C, 31, 0, .RO, 0⟩
def TMT_STEP_HI : RegDef := ⟨.TMT, 0x03C, 1, 0, 1, 0, .C, false, [TMT_STEP_HI_NS]⟩
def TMT_HOLDOVER_AGE_S : Fld := ⟨.TMT, 0x040, 31, 0, .RO, 0⟩
def TMT_HOLDOVER_AGE : RegDef := ⟨.TMT, 0x040, 1, 0, 1, 0, .C, false, [TMT_HOLDOVER_AGE_S]⟩
def TMT_SET_LO_NS : Fld := ⟨.TMT, 0x044, 31, 0, .RW, 0⟩
def TMT_SET_LO : RegDef := ⟨.TMT, 0x044, 1, 0, 1, 0, .C, true, [TMT_SET_LO_NS]⟩
def TMT_SET_HI_NS : Fld := ⟨.TMT, 0x048, 31, 0, .RW, 0⟩
def TMT_SET_HI : RegDef := ⟨.TMT, 0x048, 1, 0, 1, 0, .C, false, [TMT_SET_HI_NS]⟩
def TMT_UTC_OFFSET : Fld := ⟨.TMT, 0x04C, 15, 0, .RO, 0⟩
def TMT_UTC_VALID : Fld := ⟨.TMT, 0x04C, 16, 16, .RO, 0⟩
def TMT_UTC_LEAP61 : Fld := ⟨.TMT, 0x04C, 17, 17, .RO, 0⟩
def TMT_UTC_LEAP59 : Fld := ⟨.TMT, 0x04C, 18, 18, .RO, 0⟩
def TMT_UTC : RegDef := ⟨.TMT, 0x04C, 1, 0, 1, 0, .C, false, [TMT_UTC_OFFSET, TMT_UTC_VALID, TMT_UTC_LEAP61, TMT_UTC_LEAP59]⟩
def TMT_GM_ID_LO_ID : Fld := ⟨.TMT, 0x050, 31, 0, .RO, 0⟩
def TMT_GM_ID_LO : RegDef := ⟨.TMT, 0x050, 1, 0, 1, 0, .C, true, [TMT_GM_ID_LO_ID]⟩
def TMT_GM_ID_HI_ID : Fld := ⟨.TMT, 0x054, 31, 0, .RO, 0⟩
def TMT_GM_ID_HI : RegDef := ⟨.TMT, 0x054, 1, 0, 1, 0, .C, false, [TMT_GM_ID_HI_ID]⟩
def TMT_SLEEP_BOUND : Fld := ⟨.TMT, 0x058, 15, 0, .RW, 2000⟩
def TMT_SLEEP_DRIFT : Fld := ⟨.TMT, 0x058, 31, 16, .RO, 0⟩
def TMT_SLEEP : RegDef := ⟨.TMT, 0x058, 1, 0, 1, 0, .P, false, [TMT_SLEEP_BOUND, TMT_SLEEP_DRIFT]⟩
def TMT_SLEEP_ERR_US : Fld := ⟨.TMT, 0x05C, 31, 0, .RO, 0⟩
def TMT_SLEEP_ERR : RegDef := ⟨.TMT, 0x05C, 1, 0, 1, 0, .P, false, [TMT_SLEEP_ERR_US]⟩
def TMT_ASYM_SEL_LANE : Fld := ⟨.TMT, 0x060, 6, 0, .RW, 0⟩
def TMT_ASYM_SEL : RegDef := ⟨.TMT, 0x060, 1, 0, 1, 0, .H, false, [TMT_ASYM_SEL_LANE]⟩
def TMT_ASYM_IN_PS : Fld := ⟨.TMT, 0x064, 31, 0, .RW, 0⟩
def TMT_ASYM_IN : RegDef := ⟨.TMT, 0x064, 1, 0, 1, 0, .H, false, [TMT_ASYM_IN_PS]⟩
def TMT_ASYM_OUT_PS : Fld := ⟨.TMT, 0x068, 31, 0, .RW, 0⟩
def TMT_ASYM_OUT : RegDef := ⟨.TMT, 0x068, 1, 0, 1, 0, .H, false, [TMT_ASYM_OUT_PS]⟩
def TMT_CAP_NS : Fld := ⟨.TMT, 0x070, 31, 0, .RO, 0⟩
def TMT_CAP : RegDef := ⟨.TMT, 0x070, 8, 4, 1, 0, .C, true, [TMT_CAP_NS]⟩
def TMT_CNT_COUNT : Fld := ⟨.TMT, 0x090, 31, 0, .RO, 0⟩
def TMT_CNT : RegDef := ⟨.TMT, 0x090, 8, 4, 1, 0, .C, false, [TMT_CNT_COUNT]⟩
def TMT_LAUNCH_TIME_LO_NS : Fld := ⟨.TMT, 0x100, 31, 0, .RW, 0⟩
def TMT_LAUNCH_TIME_LO : RegDef := ⟨.TMT, 0x100, 1, 0, 1, 0, .C, true, [TMT_LAUNCH_TIME_LO_NS]⟩
def TMT_LAUNCH_TIME_HI_NS : Fld := ⟨.TMT, 0x104, 31, 0, .RW, 0⟩
def TMT_LAUNCH_TIME_HI : RegDef := ⟨.TMT, 0x104, 1, 0, 1, 0, .C, false, [TMT_LAUNCH_TIME_HI_NS]⟩
def TMT_LAUNCH_TAG_TAG : Fld := ⟨.TMT, 0x108, 31, 0, .RW, 0⟩
def TMT_LAUNCH_TAG : RegDef := ⟨.TMT, 0x108, 1, 0, 1, 0, .C, false, [TMT_LAUNCH_TAG_TAG]⟩
def TMT_LAUNCH_CTL_TEMPLATE : Fld := ⟨.TMT, 0x10C, 3, 0, .RW, 0⟩
def TMT_LAUNCH_CTL_LATE : Fld := ⟨.TMT, 0x10C, 4, 4, .RW, 0⟩
def TMT_LAUNCH_CTL_PUSH : Fld := ⟨.TMT, 0x10C, 30, 30, .WP, 0⟩
def TMT_LAUNCH_CTL_FLUSH : Fld := ⟨.TMT, 0x10C, 31, 31, .WP, 0⟩
def TMT_LAUNCH_CTL : RegDef := ⟨.TMT, 0x10C, 1, 0, 1, 0, .C, false, [TMT_LAUNCH_CTL_TEMPLATE, TMT_LAUNCH_CTL_LATE, TMT_LAUNCH_CTL_PUSH, TMT_LAUNCH_CTL_FLUSH]⟩
def TMT_TPL_BASE_LO_ADDR : Fld := ⟨.TMT, 0x110, 31, 0, .RW, 0⟩
def TMT_TPL_BASE_LO : RegDef := ⟨.TMT, 0x110, 1, 0, 1, 0, .H, true, [TMT_TPL_BASE_LO_ADDR]⟩
def TMT_TPL_BASE_HI_ADDR : Fld := ⟨.TMT, 0x114, 31, 0, .RW, 0⟩
def TMT_TPL_BASE_HI : RegDef := ⟨.TMT, 0x114, 1, 0, 1, 0, .H, false, [TMT_TPL_BASE_HI_ADDR]⟩
def TMT_LAUNCH_STATUS_DEPTH : Fld := ⟨.TMT, 0x118, 6, 0, .RO, 0⟩
def TMT_LAUNCH_STATUS_FULL : Fld := ⟨.TMT, 0x118, 8, 8, .W1C, 0⟩
def TMT_LAUNCH_STATUS_LAST : Fld := ⟨.TMT, 0x118, 11, 10, .RO, 0⟩
def TMT_LAUNCH_STATUS : RegDef := ⟨.TMT, 0x118, 1, 0, 1, 0, .C, false, [TMT_LAUNCH_STATUS_DEPTH, TMT_LAUNCH_STATUS_FULL, TMT_LAUNCH_STATUS_LAST]⟩
def TMT_LAUNCH_LAST_TAG_TAG : Fld := ⟨.TMT, 0x11C, 31, 0, .RO, 0⟩
def TMT_LAUNCH_LAST_TAG : RegDef := ⟨.TMT, 0x11C, 1, 0, 1, 0, .C, false, [TMT_LAUNCH_LAST_TAG_TAG]⟩
def TMT_ALM_CTL_ENABLE : Fld := ⟨.TMT, 0x200, 0, 0, .RW, 0⟩
def TMT_ALM_CTL_GIO_EN : Fld := ⟨.TMT, 0x200, 1, 1, .RW, 0⟩
def TMT_ALM_CTL_GIO : Fld := ⟨.TMT, 0x200, 6, 2, .RW, 0⟩
def TMT_ALM_CTL_POLARITY : Fld := ⟨.TMT, 0x200, 7, 7, .RW, 0⟩
def TMT_ALM_CTL_REIN : Fld := ⟨.TMT, 0x200, 8, 8, .RW, 0⟩
def TMT_ALM_CTL_WAKE : Fld := ⟨.TMT, 0x200, 9, 9, .RW, 0⟩
def TMT_ALM_CTL_WIDTH_US : Fld := ⟨.TMT, 0x200, 31, 16, .RW, 1⟩
def TMT_ALM_CTL : RegDef := ⟨.TMT, 0x200, 1, 0, 8, 32, .C, false, [TMT_ALM_CTL_ENABLE, TMT_ALM_CTL_GIO_EN, TMT_ALM_CTL_GIO, TMT_ALM_CTL_POLARITY, TMT_ALM_CTL_REIN, TMT_ALM_CTL_WAKE, TMT_ALM_CTL_WIDTH_US]⟩
def TMT_ALM_TIME_LO_NS : Fld := ⟨.TMT, 0x204, 31, 0, .RW, 0⟩
def TMT_ALM_TIME_LO : RegDef := ⟨.TMT, 0x204, 1, 0, 8, 32, .C, true, [TMT_ALM_TIME_LO_NS]⟩
def TMT_ALM_TIME_HI_NS : Fld := ⟨.TMT, 0x208, 31, 0, .RW, 0⟩
def TMT_ALM_TIME_HI : RegDef := ⟨.TMT, 0x208, 1, 0, 8, 32, .C, false, [TMT_ALM_TIME_HI_NS]⟩
def TMT_ALM_PERIOD_LO_NS : Fld := ⟨.TMT, 0x20C, 31, 0, .RW, 0⟩
def TMT_ALM_PERIOD_LO : RegDef := ⟨.TMT, 0x20C, 1, 0, 8, 32, .C, true, [TMT_ALM_PERIOD_LO_NS]⟩
def TMT_ALM_PERIOD_HI_NS : Fld := ⟨.TMT, 0x210, 31, 0, .RW, 0⟩
def TMT_ALM_PERIOD_HI : RegDef := ⟨.TMT, 0x210, 1, 0, 8, 32, .C, false, [TMT_ALM_PERIOD_HI_NS]⟩
def TMT_ALM_STATUS_FIRED : Fld := ⟨.TMT, 0x214, 0, 0, .W1C, 0⟩
def TMT_ALM_STATUS_LATE : Fld := ⟨.TMT, 0x214, 1, 1, .W1C, 0⟩
def TMT_ALM_STATUS_SKIPPED : Fld := ⟨.TMT, 0x214, 31, 16, .RO, 0⟩
def TMT_ALM_STATUS : RegDef := ⟨.TMT, 0x214, 1, 0, 8, 32, .C, false, [TMT_ALM_STATUS_FIRED, TMT_ALM_STATUS_LATE, TMT_ALM_STATUS_SKIPPED]⟩
def TMT_MARK_CTL_ENABLE : Fld := ⟨.TMT, 0x400, 0, 0, .RW, 0⟩
def TMT_MARK_CTL_TEMPLATE : Fld := ⟨.TMT, 0x400, 4, 1, .RW, 0⟩
def TMT_MARK_CTL_LATE : Fld := ⟨.TMT, 0x400, 5, 5, .RW, 1⟩
def TMT_MARK_CTL_LOCK_US : Fld := ⟨.TMT, 0x400, 31, 16, .RW, 2000⟩
def TMT_MARK_CTL : RegDef := ⟨.TMT, 0x400, 1, 0, 16, 16, .C, false, [TMT_MARK_CTL_ENABLE, TMT_MARK_CTL_TEMPLATE, TMT_MARK_CTL_LATE, TMT_MARK_CTL_LOCK_US]⟩
def TMT_MARK_LEAD_NS : Fld := ⟨.TMT, 0x404, 31, 0, .RW, 0⟩
def TMT_MARK_LEAD : RegDef := ⟨.TMT, 0x404, 1, 0, 16, 16, .C, false, [TMT_MARK_LEAD_NS]⟩
def TMT_MARK_STATUS_PENDING : Fld := ⟨.TMT, 0x408, 8, 0, .RO, 0⟩
def TMT_MARK_STATUS_HELD : Fld := ⟨.TMT, 0x408, 24, 16, .RO, 0⟩
def TMT_MARK_STATUS : RegDef := ⟨.TMT, 0x408, 1, 0, 16, 16, .C, false, [TMT_MARK_STATUS_PENDING, TMT_MARK_STATUS_HELD]⟩
def TMT_MARK_PEND_TARGETS : Fld := ⟨.TMT, 0x600, 8, 0, .RO, 0⟩
def TMT_MARK_PEND : RegDef := ⟨.TMT, 0x600, 1, 0, 1, 0, .C, false, [TMT_MARK_PEND_TARGETS]⟩
def tabTMT : List RegDef :=
  [TMT_CFG, TMT_PTP, TMT_PTP_LOG, TMT_STATUS, TMT_EVENT, TMT_CMD, TMT_TIME_LO, TMT_TIME_HI, TMT_TIME_FRAC, TMT_RATE, TMT_OFFSET_LO, TMT_OFFSET_HI, TMT_PATH_DELAY, TMT_JUMP_LIMIT, TMT_STEP_LO, TMT_STEP_HI, TMT_HOLDOVER_AGE, TMT_SET_LO, TMT_SET_HI, TMT_UTC, TMT_GM_ID_LO, TMT_GM_ID_HI, TMT_SLEEP, TMT_SLEEP_ERR, TMT_ASYM_SEL, TMT_ASYM_IN, TMT_ASYM_OUT, TMT_CAP, TMT_CNT, TMT_LAUNCH_TIME_LO, TMT_LAUNCH_TIME_HI, TMT_LAUNCH_TAG, TMT_LAUNCH_CTL, TMT_TPL_BASE_LO, TMT_TPL_BASE_HI, TMT_LAUNCH_STATUS, TMT_LAUNCH_LAST_TAG, TMT_ALM_CTL, TMT_ALM_TIME_LO, TMT_ALM_TIME_HI] ++
  [TMT_ALM_PERIOD_LO, TMT_ALM_PERIOD_HI, TMT_ALM_STATUS, TMT_MARK_CTL, TMT_MARK_LEAD, TMT_MARK_STATUS, TMT_MARK_PEND]

/-! ### WAY registers (spec/05_waywiser.md) -/

def WAY_MASTER_PORT : Fld := ⟨.WAY, 0x000, 1, 0, .RWS, 0⟩
def WAY_MASTER : RegDef := ⟨.WAY, 0x000, 1, 0, 1, 0, .Y, false, [WAY_MASTER_PORT]⟩
def WAY_MASTER_OFFSET_LO_NM : Fld := ⟨.WAY, 0x008, 31, 0, .RO, 0⟩
def WAY_MASTER_OFFSET_LO : RegDef := ⟨.WAY, 0x008, 1, 0, 1, 0, .H, true, [WAY_MASTER_OFFSET_LO_NM]⟩
def WAY_MASTER_OFFSET_HI_NM : Fld := ⟨.WAY, 0x00C, 31, 0, .RO, 0⟩
def WAY_MASTER_OFFSET_HI : RegDef := ⟨.WAY, 0x00C, 1, 0, 1, 0, .H, false, [WAY_MASTER_OFFSET_HI_NM]⟩
def WAY_CFG_MODE : Fld := ⟨.WAY, 0x100, 1, 0, .YH, 0⟩
def WAY_CFG_TRIGGER : Fld := ⟨.WAY, 0x100, 3, 2, .YH, 0⟩
def WAY_CFG_FILTER_N : Fld := ⟨.WAY, 0x100, 15, 8, .YH, 1⟩
def WAY_CFG_DISAGREE_M : Fld := ⟨.WAY, 0x100, 23, 16, .YH, 1⟩
def WAY_CFG_INDEX_TOL : Fld := ⟨.WAY, 0x100, 31, 24, .YH, 2⟩
def WAY_CFG : RegDef := ⟨.WAY, 0x100, 1, 0, 4, 256, .H, false, [WAY_CFG_MODE, WAY_CFG_TRIGGER, WAY_CFG_FILTER_N, WAY_CFG_DISAGREE_M, WAY_CFG_INDEX_TOL]⟩
def WAY_CTL_INVERT : Fld := ⟨.WAY, 0x104, 0, 0, .RWS, 0⟩
def WAY_CTL_INDEX_EN : Fld := ⟨.WAY, 0x104, 1, 1, .RWS, 0⟩
def WAY_CTL_INDEX_ALIGN : Fld := ⟨.WAY, 0x104, 2, 2, .RWS, 0⟩
def WAY_CTL_SPEED_SHIFT : Fld := ⟨.WAY, 0x104, 7, 4, .RWS, 3⟩
def WAY_CTL_STOP_MS : Fld := ⟨.WAY, 0x104, 15, 8, .RWS, 10⟩
def WAY_CTL : RegDef := ⟨.WAY, 0x104, 1, 0, 4, 256, .Y, false, [WAY_CTL_INVERT, WAY_CTL_INDEX_EN, WAY_CTL_INDEX_ALIGN, WAY_CTL_SPEED_SHIFT, WAY_CTL_STOP_MS]⟩
def WAY_STATUS_LEVELS : Fld := ⟨.WAY, 0x108, 2, 0, .RO, 0⟩
def WAY_STATUS_DIR : Fld := ⟨.WAY, 0x108, 3, 3, .RO, 0⟩
def WAY_STATUS_WIRE_FAULT : Fld := ⟨.WAY, 0x108, 6, 4, .RO, 0⟩
def WAY_STATUS_UNCERTAIN : Fld := ⟨.WAY, 0x108, 7, 7, .RO, 1⟩
def WAY_STATUS_SUSPECT : Fld := ⟨.WAY, 0x108, 8, 8, .RO, 0⟩
def WAY_STATUS_SLEEP_OVERSPEED : Fld := ⟨.WAY, 0x108, 9, 9, .RO, 0⟩
def WAY_STATUS_SPEED_VALID : Fld := ⟨.WAY, 0x108, 10, 10, .RO, 0⟩
def WAY_STATUS_MISMATCH_RUN : Fld := ⟨.WAY, 0x108, 12, 11, .RO, 0⟩
def WAY_STATUS : RegDef := ⟨.WAY, 0x108, 1, 0, 4, 256, .C, false, [WAY_STATUS_LEVELS, WAY_STATUS_DIR, WAY_STATUS_WIRE_FAULT, WAY_STATUS_UNCERTAIN, WAY_STATUS_SUSPECT, WAY_STATUS_SLEEP_OVERSPEED, WAY_STATUS_SPEED_VALID, WAY_STATUS_MISMATCH_RUN]⟩
def WAY_EVENT_WIRE_FAULT : Fld := ⟨.WAY, 0x10C, 0, 0, .W1C, 0⟩
def WAY_EVENT_DOUBLE_EDGE : Fld := ⟨.WAY, 0x10C, 1, 1, .W1C, 0⟩
def WAY_EVENT_DE_LIMIT : Fld := ⟨.WAY, 0x10C, 2, 2, .W1C, 0⟩
def WAY_EVENT_INDEX_SNAP : Fld := ⟨.WAY, 0x10C, 3, 3, .W1C, 0⟩
def WAY_EVENT_INDEX_MISMATCH : Fld := ⟨.WAY, 0x10C, 4, 4, .W1C, 0⟩
def WAY_EVENT_SUSPECT : Fld := ⟨.WAY, 0x10C, 5, 5, .W1C, 0⟩
def WAY_EVENT_ABS_FRAME_ERR : Fld := ⟨.WAY, 0x10C, 6, 6, .W1C, 0⟩
def WAY_EVENT_REV_WRAP : Fld := ⟨.WAY, 0x10C, 7, 7, .W1C, 0⟩
def WAY_EVENT_UNDERFLOW : Fld := ⟨.WAY, 0x10C, 8, 8, .W1C, 0⟩
def WAY_EVENT_SLEEP_OVERSPEED : Fld := ⟨.WAY, 0x10C, 9, 9, .W1C, 0⟩
def WAY_EVENT_MOTION_WAKE : Fld := ⟨.WAY, 0x10C, 10, 10, .W1C, 0⟩
def WAY_EVENT : RegDef := ⟨.WAY, 0x10C, 1, 0, 4, 256, .C, false, [WAY_EVENT_WIRE_FAULT, WAY_EVENT_DOUBLE_EDGE, WAY_EVENT_DE_LIMIT, WAY_EVENT_INDEX_SNAP, WAY_EVENT_INDEX_MISMATCH, WAY_EVENT_SUSPECT, WAY_EVENT_ABS_FRAME_ERR, WAY_EVENT_REV_WRAP, WAY_EVENT_UNDERFLOW, WAY_EVENT_SLEEP_OVERSPEED, WAY_EVENT_MOTION_WAKE]⟩
def WAY_CMD_CLEAR_UNCERTAIN : Fld := ⟨.WAY, 0x110, 0, 0, .WP, 0⟩
def WAY_CMD_CLEAR_SUSPECT : Fld := ⟨.WAY, 0x110, 1, 1, .WP, 0⟩
def WAY_CMD_ABS_REQUEST : Fld := ⟨.WAY, 0x110, 2, 2, .WP, 0⟩
def WAY_CMD_CLEAR_COUNTS : Fld := ⟨.WAY, 0x110, 3, 3, .WP, 0⟩
def WAY_CMD : RegDef := ⟨.WAY, 0x110, 1, 0, 4, 256, .C, false, [WAY_CMD_CLEAR_UNCERTAIN, WAY_CMD_CLEAR_SUSPECT, WAY_CMD_ABS_REQUEST, WAY_CMD_CLEAR_COUNTS]⟩
def WAY_COUNT_COUNT : Fld := ⟨.WAY, 0x114, 31, 0, .RO, 0⟩
def WAY_COUNT : RegDef := ⟨.WAY, 0x114, 1, 0, 4, 256, .C, false, [WAY_COUNT_COUNT]⟩
def WAY_REV_REV : Fld := ⟨.WAY, 0x118, 31, 0, .RO, 0⟩
def WAY_REV : RegDef := ⟨.WAY, 0x118, 1, 0, 4, 256, .C, false, [WAY_REV_REV]⟩
def WAY_CPR_CPR_M1 : Fld := ⟨.WAY, 0x11C, 31, 0, .YH, 0⟩
def WAY_CPR : RegDef := ⟨.WAY, 0x11C, 1, 0, 4, 256, .H, false, [WAY_CPR_CPR_M1]⟩
def WAY_POS_LO_NM : Fld := ⟨.WAY, 0x120, 31, 0, .RO, 0⟩
def WAY_POS_LO : RegDef := ⟨.WAY, 0x120, 1, 0, 4, 256, .C, true, [WAY_POS_LO_NM]⟩
def WAY_POS_HI_NM : Fld := ⟨.WAY, 0x124, 31, 0, .RO, 0⟩
def WAY_POS_HI : RegDef := ⟨.WAY, 0x124, 1, 0, 4, 256, .C, false, [WAY_POS_HI_NM]⟩
def WAY_ORIGIN_LO_NM : Fld := ⟨.WAY, 0x128, 31, 0, .RWS, 0⟩
def WAY_ORIGIN_LO : RegDef := ⟨.WAY, 0x128, 1, 0, 4, 256, .C, true, [WAY_ORIGIN_LO_NM]⟩
def WAY_ORIGIN_HI_NM : Fld := ⟨.WAY, 0x12C, 31, 0, .RWS, 0⟩
def WAY_ORIGIN_HI : RegDef := ⟨.WAY, 0x12C, 1, 0, 4, 256, .C, false, [WAY_ORIGIN_HI_NM]⟩
def WAY_NPC_LO_FRAC : Fld := ⟨.WAY, 0x130, 31, 0, .RWS, 0⟩
def WAY_NPC_LO : RegDef := ⟨.WAY, 0x130, 1, 0, 4, 256, .C, true, [WAY_NPC_LO_FRAC]⟩
def WAY_NPC_HI_INT : Fld := ⟨.WAY, 0x134, 31, 0, .RWS, 0⟩
def WAY_NPC_HI : RegDef := ⟨.WAY, 0x134, 1, 0, 4, 256, .C, false, [WAY_NPC_HI_INT]⟩
def WAY_INDEX_COUNT_COUNT : Fld := ⟨.WAY, 0x138, 31, 0, .RWS, 0⟩
def WAY_INDEX_COUNT : RegDef := ⟨.WAY, 0x138, 1, 0, 4, 256, .Y, false, [WAY_INDEX_COUNT_COUNT]⟩
def WAY_INDEX_STAT_SNAPS : Fld := ⟨.WAY, 0x13C, 15, 0, .RO, 0⟩
def WAY_INDEX_STAT_MISMATCHES : Fld := ⟨.WAY, 0x13C, 31, 16, .RO, 0⟩
def WAY_INDEX_STAT : RegDef := ⟨.WAY, 0x13C, 1, 0, 4, 256, .C, false, [WAY_INDEX_STAT_SNAPS, WAY_INDEX_STAT_MISMATCHES]⟩
def WAY_DE_LIMIT : Fld := ⟨.WAY, 0x140, 15, 0, .YH, 0⟩
def WAY_DE_IN_WINDOW : Fld := ⟨.WAY, 0x140, 31, 16, .RO, 0⟩
def WAY_DE : RegDef := ⟨.WAY, 0x140, 1, 0, 4, 256, .C, false, [WAY_DE_LIMIT, WAY_DE_IN_WINDOW]⟩
def WAY_DE_TOTAL_COUNT : Fld := ⟨.WAY, 0x144, 31, 0, .RO, 0⟩
def WAY_DE_TOTAL : RegDef := ⟨.WAY, 0x144, 1, 0, 4, 256, .C, false, [WAY_DE_TOTAL_COUNT]⟩
def WAY_SPEED_LO_FRAC : Fld := ⟨.WAY, 0x148, 31, 0, .RO, 0⟩
def WAY_SPEED_LO : RegDef := ⟨.WAY, 0x148, 1, 0, 4, 256, .C, true, [WAY_SPEED_LO_FRAC]⟩
def WAY_SPEED_HI_INT : Fld := ⟨.WAY, 0x14C, 31, 0, .RO, 0⟩
def WAY_SPEED_HI : RegDef := ⟨.WAY, 0x14C, 1, 0, 4, 256, .C, false, [WAY_SPEED_HI_INT]⟩
def WAY_SPEED_DELAY_NS : Fld := ⟨.WAY, 0x150, 31, 0, .RO, 0⟩
def WAY_SPEED_DELAY : RegDef := ⟨.WAY, 0x150, 1, 0, 4, 256, .C, false, [WAY_SPEED_DELAY_NS]⟩
def WAY_TRIG_PITCH_NM : Fld := ⟨.WAY, 0x154, 31, 0, .RWS, 0⟩
def WAY_TRIG_PITCH : RegDef := ⟨.WAY, 0x154, 1, 0, 4, 256, .Y, false, [WAY_TRIG_PITCH_NM]⟩
def WAY_TRIG_RATE_MHZ : Fld := ⟨.WAY, 0x158, 31, 0, .RWS, 0⟩
def WAY_TRIG_RATE : RegDef := ⟨.WAY, 0x158, 1, 0, 4, 256, .Y, false, [WAY_TRIG_RATE_MHZ]⟩
def WAY_TRIG_PHASE_NM : Fld := ⟨.WAY, 0x15C, 31, 0, .RWS, 0⟩
def WAY_TRIG_PHASE : RegDef := ⟨.WAY, 0x15C, 1, 0, 4, 256, .Y, false, [WAY_TRIG_PHASE_NM]⟩
def WAY_TRIG_COUNT_LO_COUNT : Fld := ⟨.WAY, 0x160, 31, 0, .RO, 0⟩
def WAY_TRIG_COUNT_LO : RegDef := ⟨.WAY, 0x160, 1, 0, 4, 256, .C, true, [WAY_TRIG_COUNT_LO_COUNT]⟩
def WAY_TRIG_COUNT_HI_COUNT : Fld := ⟨.WAY, 0x164, 31, 0, .RO, 0⟩
def WAY_TRIG_COUNT_HI : RegDef := ⟨.WAY, 0x164, 1, 0, 4, 256, .C, false, [WAY_TRIG_COUNT_HI_COUNT]⟩
def WAY_ABS_CFG_BITS : Fld := ⟨.WAY, 0x170, 5, 0, .YH, 0⟩
def WAY_ABS_CFG_GRAY : Fld := ⟨.WAY, 0x170, 6, 6, .YH, 0⟩
def WAY_ABS_CFG_CRC_BITS : Fld := ⟨.WAY, 0x170, 12, 8, .YH, 0⟩
def WAY_ABS_CFG_CLOCK_KHZ : Fld := ⟨.WAY, 0x170, 31, 16, .YH, 0⟩
def WAY_ABS_CFG : RegDef := ⟨.WAY, 0x170, 1, 0, 4, 256, .H, false, [WAY_ABS_CFG_BITS, WAY_ABS_CFG_GRAY, WAY_ABS_CFG_CRC_BITS, WAY_ABS_CFG_CLOCK_KHZ]⟩
def WAY_ABS_POLY_POLY : Fld := ⟨.WAY, 0x174, 15, 0, .YH, 0⟩
def WAY_ABS_POLY : RegDef := ⟨.WAY, 0x174, 1, 0, 4, 256, .H, false, [WAY_ABS_POLY_POLY]⟩
def WAY_ABS_TIMEOUT_NS : Fld := ⟨.WAY, 0x178, 31, 0, .YH, 0⟩
def WAY_ABS_TIMEOUT : RegDef := ⟨.WAY, 0x178, 1, 0, 4, 256, .H, false, [WAY_ABS_TIMEOUT_NS]⟩
def WAY_ABS_CTL_PERIOD_US : Fld := ⟨.WAY, 0x17C, 15, 0, .RWS, 0⟩
def WAY_ABS_CTL_SLEEP_MS : Fld := ⟨.WAY, 0x17C, 23, 16, .RWS, 10⟩
def WAY_ABS_CTL_CRC_INV : Fld := ⟨.WAY, 0x17C, 24, 24, .RWS, 0⟩
def WAY_ABS_CTL : RegDef := ⟨.WAY, 0x17C, 1, 0, 4, 256, .Y, false, [WAY_ABS_CTL_PERIOD_US, WAY_ABS_CTL_SLEEP_MS, WAY_ABS_CTL_CRC_INV]⟩
def WAY_ABS_RAW_LO_V : Fld := ⟨.WAY, 0x180, 31, 0, .RO, 0⟩
def WAY_ABS_RAW_LO : RegDef := ⟨.WAY, 0x180, 1, 0, 4, 256, .C, true, [WAY_ABS_RAW_LO_V]⟩
def WAY_ABS_RAW_HI_V : Fld := ⟨.WAY, 0x184, 7, 0, .RO, 0⟩
def WAY_ABS_RAW_HI : RegDef := ⟨.WAY, 0x184, 1, 0, 4, 256, .C, false, [WAY_ABS_RAW_HI_V]⟩
def WAY_ABS_ERRS_CRC : Fld := ⟨.WAY, 0x188, 7, 0, .RO, 0⟩
def WAY_ABS_ERRS_TIMEOUT : Fld := ⟨.WAY, 0x188, 15, 8, .RO, 0⟩
def WAY_ABS_ERRS_BUSY : Fld := ⟨.WAY, 0x188, 23, 16, .RO, 0⟩
def WAY_ABS_ERRS : RegDef := ⟨.WAY, 0x188, 1, 0, 4, 256, .C, false, [WAY_ABS_ERRS_CRC, WAY_ABS_ERRS_TIMEOUT, WAY_ABS_ERRS_BUSY]⟩
def WAY_WAKE_ENABLE : Fld := ⟨.WAY, 0x18C, 0, 0, .RW, 0⟩
def WAY_WAKE_COUNTS : Fld := ⟨.WAY, 0x18C, 23, 8, .RW, 1⟩
def WAY_WAKE : RegDef := ⟨.WAY, 0x18C, 1, 0, 4, 256, .H, false, [WAY_WAKE_ENABLE, WAY_WAKE_COUNTS]⟩
def WAY_GLITCH_COUNT : Fld := ⟨.WAY, 0x190, 31, 0, .RO, 0⟩
def WAY_GLITCH : RegDef := ⟨.WAY, 0x190, 1, 0, 4, 256, .C, false, [WAY_GLITCH_COUNT]⟩
def WAY_CMP_CTL_ENABLE : Fld := ⟨.WAY, 0x800, 0, 0, .RW, 0⟩
def WAY_CMP_CTL_PORT : Fld := ⟨.WAY, 0x800, 2, 1, .RW, 0⟩
def WAY_CMP_CTL_WEB : Fld := ⟨.WAY, 0x800, 3, 3, .RW, 0⟩
def WAY_CMP_CTL_DIR : Fld := ⟨.WAY, 0x800, 5, 4, .RW, 0⟩
def WAY_CMP_CTL_GIO_EN : Fld := ⟨.WAY, 0x800, 6, 6, .RW, 0⟩
def WAY_CMP_CTL_GIO : Fld := ⟨.WAY, 0x800, 11, 7, .RW, 0⟩
def WAY_CMP_CTL_POLARITY : Fld := ⟨.WAY, 0x800, 12, 12, .RW, 0⟩
def WAY_CMP_CTL_REIN : Fld := ⟨.WAY, 0x800, 13, 13, .RW, 0⟩
def WAY_CMP_CTL_WAKE : Fld := ⟨.WAY, 0x800, 14, 14, .RW, 0⟩
def WAY_CMP_CTL_WIDTH_US : Fld := ⟨.WAY, 0x800, 31, 16, .RW, 1⟩
def WAY_CMP_CTL : RegDef := ⟨.WAY, 0x800, 1, 0, 16, 64, .H, false, [WAY_CMP_CTL_ENABLE, WAY_CMP_CTL_PORT, WAY_CMP_CTL_WEB, WAY_CMP_CTL_DIR, WAY_CMP_CTL_GIO_EN, WAY_CMP_CTL_GIO, WAY_CMP_CTL_POLARITY, WAY_CMP_CTL_REIN, WAY_CMP_CTL_WAKE, WAY_CMP_CTL_WIDTH_US]⟩
def WAY_CMP_STATUS_DEPTH : Fld := ⟨.WAY, 0x804, 3, 0, .RO, 0⟩
def WAY_CMP_STATUS_PULSE : Fld := ⟨.WAY, 0x804, 4, 4, .RO, 0⟩
def WAY_CMP_STATUS_FIRED : Fld := ⟨.WAY, 0x804, 8, 8, .W1C, 0⟩
def WAY_CMP_STATUS_LATE : Fld := ⟨.WAY, 0x804, 9, 9, .W1C, 0⟩
def WAY_CMP_STATUS_FULL : Fld := ⟨.WAY, 0x804, 10, 10, .W1C, 0⟩
def WAY_CMP_STATUS_DROPS : Fld := ⟨.WAY, 0x804, 31, 16, .RO, 0⟩
def WAY_CMP_STATUS : RegDef := ⟨.WAY, 0x804, 1, 0, 16, 64, .C, false, [WAY_CMP_STATUS_DEPTH, WAY_CMP_STATUS_PULSE, WAY_CMP_STATUS_FIRED, WAY_CMP_STATUS_LATE, WAY_CMP_STATUS_FULL, WAY_CMP_STATUS_DROPS]⟩
def WAY_CMP_TARGET_LO_NM : Fld := ⟨.WAY, 0x808, 31, 0, .RW, 0⟩
def WAY_CMP_TARGET_LO : RegDef := ⟨.WAY, 0x808, 1, 0, 16, 64, .C, true, [WAY_CMP_TARGET_LO_NM]⟩
def WAY_CMP_TARGET_HI_NM : Fld := ⟨.WAY, 0x80C, 31, 0, .RW, 0⟩
def WAY_CMP_TARGET_HI : RegDef := ⟨.WAY, 0x80C, 1, 0, 16, 64, .C, false, [WAY_CMP_TARGET_HI_NM]⟩
def WAY_CMP_PUSH_TAG : Fld := ⟨.WAY, 0x810, 15, 0, .RW, 0⟩
def WAY_CMP_PUSH_FLUSH : Fld := ⟨.WAY, 0x810, 30, 30, .WP, 0⟩
def WAY_CMP_PUSH_PUSH : Fld := ⟨.WAY, 0x810, 31, 31, .WP, 0⟩
def WAY_CMP_PUSH : RegDef := ⟨.WAY, 0x810, 1, 0, 16, 64, .C, false, [WAY_CMP_PUSH_TAG, WAY_CMP_PUSH_FLUSH, WAY_CMP_PUSH_PUSH]⟩
def WAY_CMP_FIRED_POS_LO_NM : Fld := ⟨.WAY, 0x814, 31, 0, .RO, 0⟩
def WAY_CMP_FIRED_POS_LO : RegDef := ⟨.WAY, 0x814, 1, 0, 16, 64, .C, true, [WAY_CMP_FIRED_POS_LO_NM]⟩
def WAY_CMP_FIRED_POS_HI_NM : Fld := ⟨.WAY, 0x818, 31, 0, .RO, 0⟩
def WAY_CMP_FIRED_POS_HI : RegDef := ⟨.WAY, 0x818, 1, 0, 16, 64, .C, false, [WAY_CMP_FIRED_POS_HI_NM]⟩
def WAY_CMP_FIRED_TAG_TAG : Fld := ⟨.WAY, 0x81C, 15, 0, .RO, 0⟩
def WAY_CMP_FIRED_TAG : RegDef := ⟨.WAY, 0x81C, 1, 0, 16, 64, .C, false, [WAY_CMP_FIRED_TAG_TAG]⟩
def WAY_CMP_FIRED_TIME_LO_NS : Fld := ⟨.WAY, 0x820, 31, 0, .RO, 0⟩
def WAY_CMP_FIRED_TIME_LO : RegDef := ⟨.WAY, 0x820, 1, 0, 16, 64, .C, true, [WAY_CMP_FIRED_TIME_LO_NS]⟩
def WAY_CMP_FIRED_TIME_HI_NS : Fld := ⟨.WAY, 0x824, 31, 0, .RO, 0⟩
def WAY_CMP_FIRED_TIME_HI : RegDef := ⟨.WAY, 0x824, 1, 0, 16, 64, .C, false, [WAY_CMP_FIRED_TIME_HI_NS]⟩
def tabWAY : List RegDef :=
  [WAY_MASTER, WAY_MASTER_OFFSET_LO, WAY_MASTER_OFFSET_HI, WAY_CFG, WAY_CTL, WAY_STATUS, WAY_EVENT, WAY_CMD, WAY_COUNT, WAY_REV, WAY_CPR, WAY_POS_LO, WAY_POS_HI, WAY_ORIGIN_LO, WAY_ORIGIN_HI, WAY_NPC_LO, WAY_NPC_HI, WAY_INDEX_COUNT, WAY_INDEX_STAT, WAY_DE, WAY_DE_TOTAL, WAY_SPEED_LO, WAY_SPEED_HI, WAY_SPEED_DELAY, WAY_TRIG_PITCH, WAY_TRIG_RATE, WAY_TRIG_PHASE, WAY_TRIG_COUNT_LO, WAY_TRIG_COUNT_HI, WAY_ABS_CFG, WAY_ABS_POLY, WAY_ABS_TIMEOUT, WAY_ABS_CTL, WAY_ABS_RAW_LO, WAY_ABS_RAW_HI, WAY_ABS_ERRS, WAY_WAKE, WAY_GLITCH, WAY_CMP_CTL, WAY_CMP_STATUS] ++
  [WAY_CMP_TARGET_LO, WAY_CMP_TARGET_HI, WAY_CMP_PUSH, WAY_CMP_FIRED_POS_LO, WAY_CMP_FIRED_POS_HI, WAY_CMP_FIRED_TAG, WAY_CMP_FIRED_TIME_LO, WAY_CMP_FIRED_TIME_HI]

/-! ### PWR registers (spec/14_power_startup_wheelwright.md) -/

def PWR_STATE_STATE : Fld := ⟨.PWR, 0x000, 2, 0, .RO, 0⟩
def PWR_STATE_TARGET : Fld := ⟨.PWR, 0x000, 4, 3, .RO, 0⟩
def PWR_STATE_COACH_UP : Fld := ⟨.PWR, 0x000, 15, 8, .RO, 0⟩
def PWR_STATE : RegDef := ⟨.PWR, 0x000, 1, 0, 1, 0, .P, false, [PWR_STATE_STATE, PWR_STATE_TARGET, PWR_STATE_COACH_UP]⟩
def PWR_CTL_TARGET : Fld := ⟨.PWR, 0x004, 1, 0, .RW, 1⟩
def PWR_CTL_FORCE : Fld := ⟨.PWR, 0x004, 2, 2, .RW, 0⟩
def PWR_CTL_GO : Fld := ⟨.PWR, 0x004, 3, 3, .WP, 0⟩
def PWR_CTL : RegDef := ⟨.PWR, 0x004, 1, 0, 1, 0, .P, false, [PWR_CTL_TARGET, PWR_CTL_FORCE, PWR_CTL_GO]⟩
def PWR_WAKE_EN_MOTION : Fld := ⟨.PWR, 0x008, 0, 0, .RW, 1⟩
def PWR_WAKE_EN_COMPARE : Fld := ⟨.PWR, 0x008, 1, 1, .RW, 1⟩
def PWR_WAKE_EN_GIO : Fld := ⟨.PWR, 0x008, 2, 2, .RW, 0⟩
def PWR_WAKE_EN_POST : Fld := ⟨.PWR, 0x008, 3, 3, .RW, 1⟩
def PWR_WAKE_EN_ALARM : Fld := ⟨.PWR, 0x008, 4, 4, .RW, 1⟩
def PWR_WAKE_EN : RegDef := ⟨.PWR, 0x008, 1, 0, 1, 0, .P, false, [PWR_WAKE_EN_MOTION, PWR_WAKE_EN_COMPARE, PWR_WAKE_EN_GIO, PWR_WAKE_EN_POST, PWR_WAKE_EN_ALARM]⟩
def PWR_WAKE_GIO_PIN : Fld := ⟨.PWR, 0x00C, 31, 0, .RW, 0⟩
def PWR_WAKE_GIO : RegDef := ⟨.PWR, 0x00C, 1, 0, 1, 0, .P, false, [PWR_WAKE_GIO_PIN]⟩
def PWR_WAKE_CAUSE_SOURCE : Fld := ⟨.PWR, 0x010, 2, 0, .RO, 0⟩
def PWR_WAKE_CAUSE_INDEX : Fld := ⟨.PWR, 0x010, 7, 3, .RO, 0⟩
def PWR_WAKE_CAUSE_SEEN : Fld := ⟨.PWR, 0x010, 13, 8, .W1C, 0⟩
def PWR_WAKE_CAUSE : RegDef := ⟨.PWR, 0x010, 1, 0, 1, 0, .P, false, [PWR_WAKE_CAUSE_SOURCE, PWR_WAKE_CAUSE_INDEX, PWR_WAKE_CAUSE_SEEN]⟩
def PWR_WAKE_HORN_MAILBOX : Fld := ⟨.PWR, 0x014, 15, 0, .W1S, 0⟩
def PWR_WAKE_HORN : RegDef := ⟨.PWR, 0x014, 1, 0, 1, 0, .P, false, [PWR_WAKE_HORN_MAILBOX]⟩
def PWR_CMD_WAKE : Fld := ⟨.PWR, 0x018, 0, 0, .WP, 0⟩
def PWR_CMD_CONTINUE : Fld := ⟨.PWR, 0x018, 1, 1, .WP, 0⟩
def PWR_CMD : RegDef := ⟨.PWR, 0x018, 1, 0, 1, 0, .P, false, [PWR_CMD_WAKE, PWR_CMD_CONTINUE]⟩
def PWR_EVENT_ENTERED : Fld := ⟨.PWR, 0x01C, 0, 0, .W1C, 0⟩
def PWR_EVENT_WOKEN : Fld := ⟨.PWR, 0x01C, 1, 1, .W1C, 0⟩
def PWR_EVENT_REFUSED : Fld := ⟨.PWR, 0x01C, 2, 2, .W1C, 0⟩
def PWR_EVENT_ABORTED : Fld := ⟨.PWR, 0x01C, 3, 3, .W1C, 0⟩
def PWR_EVENT_HOT : Fld := ⟨.PWR, 0x01C, 4, 4, .W1C, 0⟩
def PWR_EVENT_TRIP : Fld := ⟨.PWR, 0x01C, 5, 5, .W1C, 0⟩
def PWR_EVENT_WWT : Fld := ⟨.PWR, 0x01C, 6, 6, .RO, 0⟩
def PWR_EVENT : RegDef := ⟨.PWR, 0x01C, 1, 0, 1, 0, .P, false, [PWR_EVENT_ENTERED, PWR_EVENT_WOKEN, PWR_EVENT_REFUSED, PWR_EVENT_ABORTED, PWR_EVENT_HOT, PWR_EVENT_TRIP, PWR_EVENT_WWT]⟩
def PWR_RESET_CTL_COACH : Fld := ⟨.PWR, 0x020, 2, 0, .RW, 0⟩
def PWR_RESET_CTL_GO : Fld := ⟨.PWR, 0x020, 3, 3, .WP, 0⟩
def PWR_RESET_CTL : RegDef := ⟨.PWR, 0x020, 1, 0, 1, 0, .P, false, [PWR_RESET_CTL_COACH, PWR_RESET_CTL_GO]⟩
def PWR_RESET_CAUSE_CAUSE : Fld := ⟨.PWR, 0x024, 31, 0, .RO, 0⟩
def PWR_RESET_CAUSE : RegDef := ⟨.PWR, 0x024, 1, 0, 1, 0, .P, false, [PWR_RESET_CAUSE_CAUSE]⟩
def PWR_TEMP_MAX : Fld := ⟨.PWR, 0x028, 15, 0, .RO, 0⟩
def PWR_TEMP_WARN : Fld := ⟨.PWR, 0x028, 31, 16, .RW, 800⟩
def PWR_TEMP : RegDef := ⟨.PWR, 0x028, 1, 0, 1, 0, .P, false, [PWR_TEMP_MAX, PWR_TEMP_WARN]⟩
def PWR_LAST_WAKE_US : Fld := ⟨.PWR, 0x02C, 31, 0, .RO, 0⟩
def PWR_LAST : RegDef := ⟨.PWR, 0x02C, 1, 0, 1, 0, .P, false, [PWR_LAST_WAKE_US]⟩
def tabPWR : List RegDef :=
  [PWR_STATE, PWR_CTL, PWR_WAKE_EN, PWR_WAKE_GIO, PWR_WAKE_CAUSE, PWR_WAKE_HORN, PWR_CMD, PWR_EVENT, PWR_RESET_CTL, PWR_RESET_CAUSE, PWR_TEMP, PWR_LAST]

/-! ### CLK registers (spec/16_register_and_error_reference.md) -/

def CLK_PACE_CODE : Fld := ⟨.CLK, 0x000, 6, 0, .YH, 100⟩
def CLK_PACE : RegDef := ⟨.CLK, 0x000, 1, 0, 1, 0, .H, false, [CLK_PACE_CODE]⟩
def CLK_LOCK_PACE : Fld := ⟨.CLK, 0x004, 7, 0, .RO, 0⟩
def CLK_LOCK_CONTROL : Fld := ⟨.CLK, 0x004, 15, 8, .RO, 0⟩
def CLK_LOCK_SAMPLE : Fld := ⟨.CLK, 0x004, 16, 16, .RO, 0⟩
def CLK_LOCK_SYSREF : Fld := ⟨.CLK, 0x004, 17, 17, .RO, 0⟩
def CLK_LOCK_LANEREF : Fld := ⟨.CLK, 0x004, 18, 18, .RO, 0⟩
def CLK_LOCK_PCIEREF : Fld := ⟨.CLK, 0x004, 19, 19, .RO, 0⟩
def CLK_LOCK_BOX : Fld := ⟨.CLK, 0x004, 20, 20, .RO, 0⟩
def CLK_LOCK : RegDef := ⟨.CLK, 0x004, 1, 0, 1, 0, .C, false, [CLK_LOCK_PACE, CLK_LOCK_CONTROL, CLK_LOCK_SAMPLE, CLK_LOCK_SYSREF, CLK_LOCK_LANEREF, CLK_LOCK_PCIEREF, CLK_LOCK_BOX]⟩
def CLK_EVENT_UNLOCK : Fld := ⟨.CLK, 0x008, 0, 0, .W1C, 0⟩
def CLK_EVENT_REF_LOSS : Fld := ⟨.CLK, 0x008, 1, 1, .W1C, 0⟩
def CLK_EVENT : RegDef := ⟨.CLK, 0x008, 1, 0, 1, 0, .C, false, [CLK_EVENT_UNLOCK, CLK_EVENT_REF_LOSS]⟩
def tabCLK : List RegDef :=
  [CLK_PACE, CLK_LOCK, CLK_EVENT]

/-! ### PAI registers (spec/15_redundant_pair_and_ring.md) -/

def PAI_CFG_PRESENT : Fld := ⟨.PAI, 0x000, 0, 0, .YH, 0⟩
def PAI_CFG_PREFERENCE : Fld := ⟨.PAI, 0x000, 2, 1, .YH, 0⟩
def PAI_CFG_SIDE : Fld := ⟨.PAI, 0x000, 3, 3, .RO, 0⟩
def PAI_CFG : RegDef := ⟨.PAI, 0x000, 1, 0, 1, 0, .H, false, [PAI_CFG_PRESENT, PAI_CFG_PREFERENCE, PAI_CFG_SIDE]⟩
def PAI_PINS_SIDE_GIO : Fld := ⟨.PAI, 0x004, 4, 0, .RW, 0⟩
def PAI_PINS_HOLD_GIO : Fld := ⟨.PAI, 0x004, 12, 8, .RW, 1⟩
def PAI_PINS_HOLD_EN : Fld := ⟨.PAI, 0x004, 13, 13, .RW, 0⟩
def PAI_PINS : RegDef := ⟨.PAI, 0x004, 1, 0, 1, 0, .H, false, [PAI_PINS_SIDE_GIO, PAI_PINS_HOLD_GIO, PAI_PINS_HOLD_EN]⟩
def PAI_STATUS_STATE : Fld := ⟨.PAI, 0x008, 2, 0, .RO, 0⟩
def PAI_STATUS_LANES_UP : Fld := ⟨.PAI, 0x008, 6, 3, .RO, 0⟩
def PAI_STATUS_HOLD_IN : Fld := ⟨.PAI, 0x008, 7, 7, .RO, 0⟩
def PAI_STATUS_PARTNER : Fld := ⟨.PAI, 0x008, 10, 8, .RO, 0⟩
def PAI_STATUS_RESYNC : Fld := ⟨.PAI, 0x008, 11, 11, .RO, 0⟩
def PAI_STATUS_READY : Fld := ⟨.PAI, 0x008, 12, 12, .RO, 0⟩
def PAI_STATUS_MISSED : Fld := ⟨.PAI, 0x008, 14, 13, .RO, 0⟩
def PAI_STATUS : RegDef := ⟨.PAI, 0x008, 1, 0, 1, 0, .C, false, [PAI_STATUS_STATE, PAI_STATUS_LANES_UP, PAI_STATUS_HOLD_IN, PAI_STATUS_PARTNER, PAI_STATUS_RESYNC, PAI_STATUS_READY, PAI_STATUS_MISSED]⟩
def PAI_CTL_SWITCHOVER : Fld := ⟨.PAI, 0x00C, 0, 0, .WP, 0⟩
def PAI_CTL_DETACH : Fld := ⟨.PAI, 0x00C, 1, 1, .WP, 0⟩
def PAI_CTL_REJOIN : Fld := ⟨.PAI, 0x00C, 2, 2, .WP, 0⟩
def PAI_CTL : RegDef := ⟨.PAI, 0x00C, 1, 0, 1, 0, .C, false, [PAI_CTL_SWITCHOVER, PAI_CTL_DETACH, PAI_CTL_REJOIN]⟩
def PAI_EVENT_ROLE : Fld := ⟨.PAI, 0x010, 0, 0, .W1C, 0⟩
def PAI_EVENT_TAKEOVER : Fld := ⟨.PAI, 0x010, 1, 1, .W1C, 0⟩
def PAI_EVENT_LINK : Fld := ⟨.PAI, 0x010, 2, 2, .W1C, 0⟩
def PAI_EVENT_DIGEST : Fld := ⟨.PAI, 0x010, 3, 3, .W1C, 0⟩
def PAI_EVENT_RESYNC : Fld := ⟨.PAI, 0x010, 4, 4, .W1C, 0⟩
def PAI_EVENT_RESYNC_FAIL : Fld := ⟨.PAI, 0x010, 5, 5, .W1C, 0⟩
def PAI_EVENT_DIVERGE : Fld := ⟨.PAI, 0x010, 6, 6, .W1C, 0⟩
def PAI_EVENT_YIELD : Fld := ⟨.PAI, 0x010, 7, 7, .W1C, 0⟩
def PAI_EVENT : RegDef := ⟨.PAI, 0x010, 1, 0, 1, 0, .C, false, [PAI_EVENT_ROLE, PAI_EVENT_TAKEOVER, PAI_EVENT_LINK, PAI_EVENT_DIGEST, PAI_EVENT_RESYNC, PAI_EVENT_RESYNC_FAIL, PAI_EVENT_DIVERGE, PAI_EVENT_YIELD]⟩
def PAI_ERR_CODE : Fld := ⟨.PAI, 0x014, 31, 0, .RO, 0⟩
def PAI_ERR : RegDef := ⟨.PAI, 0x014, 1, 0, 1, 0, .C, false, [PAI_ERR_CODE]⟩
def PAI_JOIN_MS : Fld := ⟨.PAI, 0x018, 15, 0, .RW, 2000⟩
def PAI_JOIN : RegDef := ⟨.PAI, 0x018, 1, 0, 1, 0, .H, false, [PAI_JOIN_MS]⟩
def PAI_TAKE_SETTLE_US : Fld := ⟨.PAI, 0x01C, 7, 0, .RW, 2⟩
def PAI_TAKE : RegDef := ⟨.PAI, 0x01C, 1, 0, 1, 0, .H, false, [PAI_TAKE_SETTLE_US]⟩
def PAI_TAKE_POS_LO_NM : Fld := ⟨.PAI, 0x020, 31, 0, .RO, 0⟩
def PAI_TAKE_POS_LO : RegDef := ⟨.PAI, 0x020, 1, 0, 1, 0, .C, true, [PAI_TAKE_POS_LO_NM]⟩
def PAI_TAKE_POS_HI_NM : Fld := ⟨.PAI, 0x024, 31, 0, .RO, 0⟩
def PAI_TAKE_POS_HI : RegDef := ⟨.PAI, 0x024, 1, 0, 1, 0, .C, false, [PAI_TAKE_POS_HI_NM]⟩
def PAI_WEB_OFFSET_LO_NM : Fld := ⟨.PAI, 0x028, 31, 0, .RO, 0⟩
def PAI_WEB_OFFSET_LO : RegDef := ⟨.PAI, 0x028, 1, 0, 1, 0, .C, true, [PAI_WEB_OFFSET_LO_NM]⟩
def PAI_WEB_OFFSET_HI_NM : Fld := ⟨.PAI, 0x02C, 31, 0, .RO, 0⟩
def PAI_WEB_OFFSET_HI : RegDef := ⟨.PAI, 0x02C, 1, 0, 1, 0, .C, false, [PAI_WEB_OFFSET_HI_NM]⟩
def PAI_DIGEST_LO_CARRIAGE : Fld := ⟨.PAI, 0x030, 31, 0, .W1C, 0⟩
def PAI_DIGEST_LO : RegDef := ⟨.PAI, 0x030, 1, 0, 1, 0, .C, true, [PAI_DIGEST_LO_CARRIAGE]⟩
def PAI_DIGEST_HI_CARRIAGE : Fld := ⟨.PAI, 0x034, 15, 0, .W1C, 0⟩
def PAI_DIGEST_HI : RegDef := ⟨.PAI, 0x034, 1, 0, 1, 0, .C, false, [PAI_DIGEST_HI_CARRIAGE]⟩
def PAI_CNT_COUNT : Fld := ⟨.PAI, 0x040, 31, 0, .RO, 0⟩
def PAI_CNT : RegDef := ⟨.PAI, 0x040, 4, 4, 1, 0, .C, false, [PAI_CNT_COUNT]⟩
def PAI_BYP_FN_FN : Fld := ⟨.PAI, 0x080, 15, 0, .RW, 0⟩
def PAI_BYP_FN : RegDef := ⟨.PAI, 0x080, 1, 0, 1, 0, .H, false, [PAI_BYP_FN_FN]⟩
def PAI_BYP_SW_HOLD : Fld := ⟨.PAI, 0x084, 7, 0, .RW, 0⟩
def PAI_BYP_SW : RegDef := ⟨.PAI, 0x084, 1, 0, 1, 0, .H, false, [PAI_BYP_SW_HOLD]⟩
def PAI_BYP_LEVEL_LEVEL : Fld := ⟨.PAI, 0x088, 7, 0, .RO, 0⟩
def PAI_BYP_LEVEL : RegDef := ⟨.PAI, 0x088, 1, 0, 1, 0, .P, false, [PAI_BYP_LEVEL_LEVEL]⟩
def tabPAI : List RegDef :=
  [PAI_CFG, PAI_PINS, PAI_STATUS, PAI_CTL, PAI_EVENT, PAI_ERR, PAI_JOIN, PAI_TAKE, PAI_TAKE_POS_LO, PAI_TAKE_POS_HI, PAI_WEB_OFFSET_LO, PAI_WEB_OFFSET_HI, PAI_DIGEST_LO, PAI_DIGEST_HI, PAI_CNT, PAI_BYP_FN, PAI_BYP_SW, PAI_BYP_LEVEL]

/-! ### RNG registers (spec/15_redundant_pair_and_ring.md) -/

def RNG_CFG_POSITION : Fld := ⟨.RNG, 0x000, 1, 0, .YH, 0⟩
def RNG_CFG_SIZE : Fld := ⟨.RNG, 0x000, 4, 2, .YH, 1⟩
def RNG_CFG_WEST : Fld := ⟨.RNG, 0x000, 11, 5, .YH, 0⟩
def RNG_CFG_EAST : Fld := ⟨.RNG, 0x000, 18, 12, .YH, 0⟩
def RNG_CFG : RegDef := ⟨.RNG, 0x000, 1, 0, 1, 0, .H, false, [RNG_CFG_POSITION, RNG_CFG_SIZE, RNG_CFG_WEST, RNG_CFG_EAST]⟩
def RNG_STATUS_LIVE : Fld := ⟨.RNG, 0x004, 0, 0, .RO, 0⟩
def RNG_STATUS_WEST_UP : Fld := ⟨.RNG, 0x004, 1, 1, .RO, 0⟩
def RNG_STATUS_EAST_UP : Fld := ⟨.RNG, 0x004, 2, 2, .RO, 0⟩
def RNG_STATUS_WEST_POS : Fld := ⟨.RNG, 0x004, 4, 3, .RO, 0⟩
def RNG_STATUS_EAST_POS : Fld := ⟨.RNG, 0x004, 6, 5, .RO, 0⟩
def RNG_STATUS_LOW_JOINED : Fld := ⟨.RNG, 0x004, 7, 7, .RO, 0⟩
def RNG_STATUS_HIGH_JOINED : Fld := ⟨.RNG, 0x004, 8, 8, .RO, 0⟩
def RNG_STATUS_LEADER : Fld := ⟨.RNG, 0x004, 10, 9, .RO, 0⟩
def RNG_STATUS : RegDef := ⟨.RNG, 0x004, 1, 0, 1, 0, .C, false, [RNG_STATUS_LIVE, RNG_STATUS_WEST_UP, RNG_STATUS_EAST_UP, RNG_STATUS_WEST_POS, RNG_STATUS_EAST_POS, RNG_STATUS_LOW_JOINED, RNG_STATUS_HIGH_JOINED, RNG_STATUS_LEADER]⟩
def RNG_EVENT_LOST : Fld := ⟨.RNG, 0x008, 0, 0, .W1C, 0⟩
def RNG_EVENT_MISMATCH : Fld := ⟨.RNG, 0x008, 1, 1, .W1C, 0⟩
def RNG_EVENT_RETURNED : Fld := ⟨.RNG, 0x008, 2, 2, .W1C, 0⟩
def RNG_EVENT_LEADER : Fld := ⟨.RNG, 0x008, 3, 3, .W1C, 0⟩
def RNG_EVENT : RegDef := ⟨.RNG, 0x008, 1, 0, 1, 0, .C, false, [RNG_EVENT_LOST, RNG_EVENT_MISMATCH, RNG_EVENT_RETURNED, RNG_EVENT_LEADER]⟩
def RNG_ERR_CODE : Fld := ⟨.RNG, 0x00C, 31, 0, .RO, 0⟩
def RNG_ERR : RegDef := ⟨.RNG, 0x00C, 1, 0, 1, 0, .C, false, [RNG_ERR_CODE]⟩
def RNG_FRONTIER_LO_LINE : Fld := ⟨.RNG, 0x010, 31, 0, .RO, 0⟩
def RNG_FRONTIER_LO : RegDef := ⟨.RNG, 0x010, 1, 0, 1, 0, .C, true, [RNG_FRONTIER_LO_LINE]⟩
def RNG_FRONTIER_HI_LINE : Fld := ⟨.RNG, 0x014, 31, 0, .RO, 0⟩
def RNG_FRONTIER_HI : RegDef := ⟨.RNG, 0x014, 1, 0, 1, 0, .C, false, [RNG_FRONTIER_HI_LINE]⟩
def RNG_CNT_COUNT : Fld := ⟨.RNG, 0x018, 31, 0, .RO, 0⟩
def RNG_CNT : RegDef := ⟨.RNG, 0x018, 2, 4, 1, 0, .C, false, [RNG_CNT_COUNT]⟩
def tabRNG : List RegDef :=
  [RNG_CFG, RNG_STATUS, RNG_EVENT, RNG_ERR, RNG_FRONTIER_LO, RNG_FRONTIER_HI, RNG_CNT]

/-! ### REI registers (spec/12_reins_and_timetable.md) -/

def REI_CFG_COACH : Fld := ⟨.REI, 0x000, 2, 0, .YH, 0⟩
def REI_CFG_TRUNK : Fld := ⟨.REI, 0x000, 3, 3, .YH, 0⟩
def REI_CFG : RegDef := ⟨.REI, 0x000, 1, 0, 1, 0, .H, false, [REI_CFG_COACH, REI_CFG_TRUNK]⟩
def REI_EVENT_DENIED : Fld := ⟨.REI, 0x004, 0, 0, .W1C, 0⟩
def REI_EVENT_RATE_DROP : Fld := ⟨.REI, 0x004, 1, 1, .W1C, 0⟩
def REI_EVENT_TASK_OVF : Fld := ⟨.REI, 0x004, 2, 2, .W1C, 0⟩
def REI_EVENT_SRC_SAT : Fld := ⟨.REI, 0x004, 3, 3, .W1C, 0⟩
def REI_EVENT : RegDef := ⟨.REI, 0x004, 1, 0, 1, 0, .C, false, [REI_EVENT_DENIED, REI_EVENT_RATE_DROP, REI_EVENT_TASK_OVF, REI_EVENT_SRC_SAT]⟩
def REI_WATCH_LO_FLAGS : Fld := ⟨.REI, 0x008, 31, 0, .W1C, 0⟩
def REI_WATCH_LO : RegDef := ⟨.REI, 0x008, 1, 0, 1, 0, .C, true, [REI_WATCH_LO_FLAGS]⟩
def REI_WATCH_HI_FLAGS : Fld := ⟨.REI, 0x00C, 31, 0, .W1C, 0⟩
def REI_WATCH_HI : RegDef := ⟨.REI, 0x00C, 1, 0, 1, 0, .C, false, [REI_WATCH_HI_FLAGS]⟩
def REI_TRUNK_WATCH_FLAGS : Fld := ⟨.REI, 0x010, 31, 0, .W1C, 0⟩
def REI_TRUNK_WATCH : RegDef := ⟨.REI, 0x010, 1, 0, 1, 0, .C, false, [REI_TRUNK_WATCH_FLAGS]⟩
def REI_TRUNK_FIRE_FIRE : Fld := ⟨.REI, 0x014, 31, 0, .WP, 0⟩
def REI_TRUNK_FIRE : RegDef := ⟨.REI, 0x014, 1, 0, 1, 0, .C, false, [REI_TRUNK_FIRE_FIRE]⟩
def REI_DENIED_MASTER : Fld := ⟨.REI, 0x018, 7, 0, .RO, 0⟩
def REI_DENIED_CHANNEL : Fld := ⟨.REI, 0x018, 14, 8, .RO, 0⟩
def REI_DENIED_KIND : Fld := ⟨.REI, 0x018, 17, 15, .RO, 0⟩
def REI_DENIED : RegDef := ⟨.REI, 0x018, 1, 0, 1, 0, .C, false, [REI_DENIED_MASTER, REI_DENIED_CHANNEL, REI_DENIED_KIND]⟩
def REI_TASK_SEL_SINK : Fld := ⟨.REI, 0x01C, 15, 0, .RW, 0⟩
def REI_TASK_SEL_TASK : Fld := ⟨.REI, 0x01C, 23, 16, .RW, 0⟩
def REI_TASK_SEL : RegDef := ⟨.REI, 0x01C, 1, 0, 1, 0, .C, false, [REI_TASK_SEL_SINK, REI_TASK_SEL_TASK]⟩
def REI_TASK_STATE_COUNT : Fld := ⟨.REI, 0x020, 3, 0, .RO, 0⟩
def REI_TASK_STATE_OVERFLOW : Fld := ⟨.REI, 0x020, 4, 4, .W1C, 0⟩
def REI_TASK_STATE : RegDef := ⟨.REI, 0x020, 1, 0, 1, 0, .C, false, [REI_TASK_STATE_COUNT, REI_TASK_STATE_OVERFLOW]⟩
def REI_GIO_FILTER : Fld := ⟨.REI, 0x024, 7, 0, .RW, 4⟩
def REI_GIO_WIDTH_US : Fld := ⟨.REI, 0x024, 31, 16, .RW, 1⟩
def REI_GIO : RegDef := ⟨.REI, 0x024, 1, 0, 1, 0, .H, false, [REI_GIO_FILTER, REI_GIO_WIDTH_US]⟩
def REI_CH_CFG_OWNER : Fld := ⟨.REI, 0x100, 7, 0, .RWS, 0⟩
def REI_CH_CFG_SECURE : Fld := ⟨.REI, 0x100, 8, 8, .YH, 0⟩
def REI_CH_CFG_RATE_LIMIT : Fld := ⟨.REI, 0x100, 25, 16, .RWS, 0⟩
def REI_CH_CFG : RegDef := ⟨.REI, 0x100, 64, 8, 1, 0, .Y, false, [REI_CH_CFG_OWNER, REI_CH_CFG_SECURE, REI_CH_CFG_RATE_LIMIT]⟩
def REI_CH_DROPS_COUNT : Fld := ⟨.REI, 0x104, 31, 0, .RO, 0⟩
def REI_CH_DROPS : RegDef := ⟨.REI, 0x104, 64, 8, 1, 0, .C, false, [REI_CH_DROPS_COUNT]⟩
def REI_TR_CFG_OWNER : Fld := ⟨.REI, 0x300, 7, 0, .RWS, 0⟩
def REI_TR_CFG_SECURE : Fld := ⟨.REI, 0x300, 8, 8, .YH, 0⟩
def REI_TR_CFG_RATE_LIMIT : Fld := ⟨.REI, 0x300, 25, 16, .RWS, 0⟩
def REI_TR_CFG : RegDef := ⟨.REI, 0x300, 32, 8, 1, 0, .Y, false, [REI_TR_CFG_OWNER, REI_TR_CFG_SECURE, REI_TR_CFG_RATE_LIMIT]⟩
def REI_TR_DROPS_COUNT : Fld := ⟨.REI, 0x304, 31, 0, .RO, 0⟩
def REI_TR_DROPS : RegDef := ⟨.REI, 0x304, 32, 8, 1, 0, .C, false, [REI_TR_DROPS_COUNT]⟩
def REI_SRC_SOURCE : Fld := ⟨.REI, 0x400, 15, 0, .RWS, 0⟩
def REI_SRC_EVENT : Fld := ⟨.REI, 0x400, 23, 16, .RWS, 0⟩
def REI_SRC_CHANNEL : Fld := ⟨.REI, 0x400, 30, 24, .RWS, 0⟩
def REI_SRC_ENABLE : Fld := ⟨.REI, 0x400, 31, 31, .RWS, 0⟩
def REI_SRC : RegDef := ⟨.REI, 0x400, 256, 4, 1, 0, .Y, false, [REI_SRC_SOURCE, REI_SRC_EVENT, REI_SRC_CHANNEL, REI_SRC_ENABLE]⟩
def REI_SNK_SINK : Fld := ⟨.REI, 0x800, 15, 0, .RWS, 0⟩
def REI_SNK_TASK : Fld := ⟨.REI, 0x800, 23, 16, .RWS, 0⟩
def REI_SNK_CHANNEL : Fld := ⟨.REI, 0x800, 30, 24, .RWS, 0⟩
def REI_SNK_ENABLE : Fld := ⟨.REI, 0x800, 31, 31, .RWS, 0⟩
def REI_SNK : RegDef := ⟨.REI, 0x800, 256, 4, 1, 0, .Y, false, [REI_SNK_SINK, REI_SNK_TASK, REI_SNK_CHANNEL, REI_SNK_ENABLE]⟩
def tabREI : List RegDef :=
  [REI_CFG, REI_EVENT, REI_WATCH_LO, REI_WATCH_HI, REI_TRUNK_WATCH, REI_TRUNK_FIRE, REI_DENIED, REI_TASK_SEL, REI_TASK_STATE, REI_GIO, REI_CH_CFG, REI_CH_DROPS, REI_TR_CFG, REI_TR_DROPS, REI_SRC, REI_SNK]

/-! ### BKL registers (spec/12_reins_and_timetable.md) -/

def BKL_CFG_LUT : Fld := ⟨.BKL, 0x100, 15, 0, .RWS, 0⟩
def BKL_CFG_FF : Fld := ⟨.BKL, 0x100, 16, 16, .RWS, 0⟩
def BKL_CFG_FILTER : Fld := ⟨.BKL, 0x100, 19, 17, .RWS, 0⟩
def BKL_CFG_GLITCH : Fld := ⟨.BKL, 0x100, 31, 20, .RWS, 0⟩
def BKL_CFG : RegDef := ⟨.BKL, 0x100, 1, 0, 32, 16, .Y, false, [BKL_CFG_LUT, BKL_CFG_FF, BKL_CFG_FILTER, BKL_CFG_GLITCH]⟩
def BKL_IN_IN : Fld := ⟨.BKL, 0x104, 31, 0, .RWS, 0⟩
def BKL_IN : RegDef := ⟨.BKL, 0x104, 1, 0, 32, 16, .Y, false, [BKL_IN_IN]⟩
def BKL_OUT_CHANNEL : Fld := ⟨.BKL, 0x108, 5, 0, .RWS, 0⟩
def BKL_OUT_ENABLE : Fld := ⟨.BKL, 0x108, 6, 6, .RWS, 0⟩
def BKL_OUT_INPUTS : Fld := ⟨.BKL, 0x108, 19, 16, .RO, 0⟩
def BKL_OUT_Y : Fld := ⟨.BKL, 0x108, 20, 20, .RO, 0⟩
def BKL_OUT_Q : Fld := ⟨.BKL, 0x108, 21, 21, .RO, 0⟩
def BKL_OUT_OUT : Fld := ⟨.BKL, 0x108, 22, 22, .RO, 0⟩
def BKL_OUT : RegDef := ⟨.BKL, 0x108, 1, 0, 32, 16, .Y, false, [BKL_OUT_CHANNEL, BKL_OUT_ENABLE, BKL_OUT_INPUTS, BKL_OUT_Y, BKL_OUT_Q, BKL_OUT_OUT]⟩
def tabBKL : List RegDef :=
  [BKL_CFG, BKL_IN, BKL_OUT]

/-! ### WHT registers (spec/11_mews_drayage_whiffletree.md) -/

def WHT_CFG_COACH : Fld := ⟨.WHT, 0x000, 2, 0, .YH, 0⟩
def WHT_CFG_UNIT : Fld := ⟨.WHT, 0x000, 7, 4, .YH, 0⟩
def WHT_CFG_KIND : Fld := ⟨.WHT, 0x000, 10, 8, .YH, 0⟩
def WHT_CFG_FIXED : Fld := ⟨.WHT, 0x000, 11, 11, .YH, 0⟩
def WHT_CFG_EMERGENCY : Fld := ⟨.WHT, 0x000, 12, 12, .YH, 0⟩
def WHT_CFG_INPUTS : Fld := ⟨.WHT, 0x000, 31, 16, .YH, 0⟩
def WHT_CFG : RegDef := ⟨.WHT, 0x000, 1, 0, 1, 0, .H, false, [WHT_CFG_COACH, WHT_CFG_UNIT, WHT_CFG_KIND, WHT_CFG_FIXED, WHT_CFG_EMERGENCY, WHT_CFG_INPUTS]⟩
def WHT_CTL_HOLD : Fld := ⟨.WHT, 0x004, 0, 0, .RW, 0⟩
def WHT_CTL_CLEAR_STARVE : Fld := ⟨.WHT, 0x004, 1, 1, .WP, 0⟩
def WHT_CTL : RegDef := ⟨.WHT, 0x004, 1, 0, 1, 0, .C, false, [WHT_CTL_HOLD, WHT_CTL_CLEAR_STARVE]⟩
def WHT_STATUS_HOLDER : Fld := ⟨.WHT, 0x008, 3, 0, .RO, 0⟩
def WHT_STATUS_GRANTED : Fld := ⟨.WHT, 0x008, 4, 4, .RO, 0⟩
def WHT_STATUS_HOLD_MODE : Fld := ⟨.WHT, 0x008, 5, 5, .RO, 1⟩
def WHT_STATUS_HOLD_CAUSE : Fld := ⟨.WHT, 0x008, 8, 6, .RO, 1⟩
def WHT_STATUS_BEATS : Fld := ⟨.WHT, 0x008, 31, 16, .RO, 0⟩
def WHT_STATUS : RegDef := ⟨.WHT, 0x008, 1, 0, 1, 0, .C, false, [WHT_STATUS_HOLDER, WHT_STATUS_GRANTED, WHT_STATUS_HOLD_MODE, WHT_STATUS_HOLD_CAUSE, WHT_STATUS_BEATS]⟩
def WHT_PENDING_INPUT : Fld := ⟨.WHT, 0x00C, 15, 0, .RO, 0⟩
def WHT_PENDING : RegDef := ⟨.WHT, 0x00C, 1, 0, 1, 0, .C, false, [WHT_PENDING_INPUT]⟩
def WHT_STARVE_LIMIT_NS : Fld := ⟨.WHT, 0x010, 31, 0, .RW, 0x186a0⟩
def WHT_STARVE : RegDef := ⟨.WHT, 0x010, 1, 0, 1, 0, .H, false, [WHT_STARVE_LIMIT_NS]⟩
def WHT_STARVED_INPUT : Fld := ⟨.WHT, 0x014, 15, 0, .W1C, 0⟩
def WHT_STARVED : RegDef := ⟨.WHT, 0x014, 1, 0, 1, 0, .C, false, [WHT_STARVED_INPUT]⟩
def WHT_EVENT_STARVE : Fld := ⟨.WHT, 0x018, 0, 0, .W1C, 0⟩
def WHT_EVENT_PREEMPT : Fld := ⟨.WHT, 0x018, 1, 1, .W1C, 0⟩
def WHT_EVENT_DEAD : Fld := ⟨.WHT, 0x018, 2, 2, .W1C, 0⟩
def WHT_EVENT_REMAP : Fld := ⟨.WHT, 0x018, 3, 3, .W1C, 0⟩
def WHT_EVENT : RegDef := ⟨.WHT, 0x018, 1, 0, 1, 0, .C, false, [WHT_EVENT_STARVE, WHT_EVENT_PREEMPT, WHT_EVENT_DEAD, WHT_EVENT_REMAP]⟩
def WHT_CNT_COUNT : Fld := ⟨.WHT, 0x01C, 31, 0, .RO, 0⟩
def WHT_CNT : RegDef := ⟨.WHT, 0x01C, 4, 4, 1, 0, .C, false, [WHT_CNT_COUNT]⟩
def WHT_IN_REQUESTER : Fld := ⟨.WHT, 0x040, 15, 0, .RWS, 0⟩
def WHT_IN_BURST_MAX : Fld := ⟨.WHT, 0x040, 28, 16, .RWS, 0⟩
def WHT_IN : RegDef := ⟨.WHT, 0x040, 16, 4, 1, 0, .Y, false, [WHT_IN_REQUESTER, WHT_IN_BURST_MAX]⟩
def WHT_WAIT_HINT : Fld := ⟨.WHT, 0x080, 11, 0, .RO, 0⟩
def WHT_WAIT_PENDING : Fld := ⟨.WHT, 0x080, 12, 12, .RO, 0⟩
def WHT_WAIT_PREEMPTED : Fld := ⟨.WHT, 0x080, 13, 13, .RO, 0⟩
def WHT_WAIT_WAIT_US : Fld := ⟨.WHT, 0x080, 31, 16, .RO, 0⟩
def WHT_WAIT : RegDef := ⟨.WHT, 0x080, 16, 4, 1, 0, .C, false, [WHT_WAIT_HINT, WHT_WAIT_PENDING, WHT_WAIT_PREEMPTED, WHT_WAIT_WAIT_US]⟩
def tabWHT : List RegDef :=
  [WHT_CFG, WHT_CTL, WHT_STATUS, WHT_PENDING, WHT_STARVE, WHT_STARVED, WHT_EVENT, WHT_CNT, WHT_IN, WHT_WAIT]

/-! ### DRY registers (spec/11_mews_drayage_whiffletree.md) -/

def DRY_CFG_COACH : Fld := ⟨.DRY, 0x000, 2, 0, .YH, 0⟩
def DRY_CFG : RegDef := ⟨.DRY, 0x000, 1, 0, 1, 0, .H, false, [DRY_CFG_COACH]⟩
def DRY_DONE_CHANNEL : Fld := ⟨.DRY, 0x004, 31, 0, .W1C, 0⟩
def DRY_DONE : RegDef := ⟨.DRY, 0x004, 1, 0, 1, 0, .C, false, [DRY_DONE_CHANNEL]⟩
def DRY_ERR_CHANNEL : Fld := ⟨.DRY, 0x008, 31, 0, .W1C, 0⟩
def DRY_ERR : RegDef := ⟨.DRY, 0x008, 1, 0, 1, 0, .C, false, [DRY_ERR_CHANNEL]⟩
def DRY_BUF_USED : Fld := ⟨.DRY, 0x00C, 12, 0, .RO, 0⟩
def DRY_BUF_PEAK : Fld := ⟨.DRY, 0x00C, 28, 16, .RO, 0⟩
def DRY_BUF : RegDef := ⟨.DRY, 0x00C, 1, 0, 1, 0, .C, false, [DRY_BUF_USED, DRY_BUF_PEAK]⟩
def DRY_REQ_CREDIT : Fld := ⟨.DRY, 0x040, 15, 0, .RO, 0⟩
def DRY_REQ_OVERFLOW : Fld := ⟨.DRY, 0x040, 16, 16, .W1C, 0⟩
def DRY_REQ_CLEAR : Fld := ⟨.DRY, 0x040, 31, 31, .WP, 0⟩
def DRY_REQ : RegDef := ⟨.DRY, 0x040, 16, 4, 1, 0, .C, false, [DRY_REQ_CREDIT, DRY_REQ_OVERFLOW, DRY_REQ_CLEAR]⟩
def DRY_CH_CFG_BURST : Fld := ⟨.DRY, 0x100, 5, 0, .RW, 0⟩
def DRY_CH_CFG_PACE : Fld := ⟨.DRY, 0x100, 12, 8, .RW, 31⟩
def DRY_CH_CFG_SRC_SPACE : Fld := ⟨.DRY, 0x100, 13, 13, .RW, 0⟩
def DRY_CH_CFG_DST_SPACE : Fld := ⟨.DRY, 0x100, 14, 14, .RW, 0⟩
def DRY_CH_CFG_WB_SPACE : Fld := ⟨.DRY, 0x100, 15, 15, .RW, 0⟩
def DRY_CH_CFG_WB_EN : Fld := ⟨.DRY, 0x100, 16, 16, .RW, 0⟩
def DRY_CH_CFG_IRQ_EN : Fld := ⟨.DRY, 0x100, 17, 17, .RW, 1⟩
def DRY_CH_CFG : RegDef := ⟨.DRY, 0x100, 1, 0, 32, 64, .C, false, [DRY_CH_CFG_BURST, DRY_CH_CFG_PACE, DRY_CH_CFG_SRC_SPACE, DRY_CH_CFG_DST_SPACE, DRY_CH_CFG_WB_SPACE, DRY_CH_CFG_WB_EN, DRY_CH_CFG_IRQ_EN]⟩
def DRY_CH_CTL_GO : Fld := ⟨.DRY, 0x104, 0, 0, .WP, 0⟩
def DRY_CH_CTL_ABORT : Fld := ⟨.DRY, 0x104, 1, 1, .WP, 0⟩
def DRY_CH_CTL : RegDef := ⟨.DRY, 0x104, 1, 0, 32, 64, .C, false, [DRY_CH_CTL_GO, DRY_CH_CTL_ABORT]⟩
def DRY_CH_STATUS_STATE : Fld := ⟨.DRY, 0x108, 2, 0, .RO, 0⟩
def DRY_CH_STATUS_CODE : Fld := ⟨.DRY, 0x108, 7, 4, .RO, 0⟩
def DRY_CH_STATUS_POISON : Fld := ⟨.DRY, 0x108, 8, 8, .RO, 0⟩
def DRY_CH_STATUS_REFUSED : Fld := ⟨.DRY, 0x108, 9, 9, .W1C, 0⟩
def DRY_CH_STATUS : RegDef := ⟨.DRY, 0x108, 1, 0, 32, 64, .C, false, [DRY_CH_STATUS_STATE, DRY_CH_STATUS_CODE, DRY_CH_STATUS_POISON, DRY_CH_STATUS_REFUSED]⟩
def DRY_CH_SRC_LO_ADDR : Fld := ⟨.DRY, 0x10C, 31, 0, .RW, 0⟩
def DRY_CH_SRC_LO : RegDef := ⟨.DRY, 0x10C, 1, 0, 32, 64, .C, true, [DRY_CH_SRC_LO_ADDR]⟩
def DRY_CH_SRC_HI_ADDR : Fld := ⟨.DRY, 0x110, 31, 0, .RW, 0⟩
def DRY_CH_SRC_HI : RegDef := ⟨.DRY, 0x110, 1, 0, 32, 64, .C, false, [DRY_CH_SRC_HI_ADDR]⟩
def DRY_CH_DST_LO_ADDR : Fld := ⟨.DRY, 0x114, 31, 0, .RW, 0⟩
def DRY_CH_DST_LO : RegDef := ⟨.DRY, 0x114, 1, 0, 32, 64, .C, true, [DRY_CH_DST_LO_ADDR]⟩
def DRY_CH_DST_HI_ADDR : Fld := ⟨.DRY, 0x118, 31, 0, .RW, 0⟩
def DRY_CH_DST_HI : RegDef := ⟨.DRY, 0x118, 1, 0, 32, 64, .C, false, [DRY_CH_DST_HI_ADDR]⟩
def DRY_CH_CNT_BYTES : Fld := ⟨.DRY, 0x11C, 31, 0, .RW, 0⟩
def DRY_CH_CNT : RegDef := ⟨.DRY, 0x11C, 1, 0, 32, 64, .C, false, [DRY_CH_CNT_BYTES]⟩
def DRY_CH_WB_LO_ADDR : Fld := ⟨.DRY, 0x120, 31, 6, .RW, 0⟩
def DRY_CH_WB_LO : RegDef := ⟨.DRY, 0x120, 1, 0, 32, 64, .C, true, [DRY_CH_WB_LO_ADDR]⟩
def DRY_CH_WB_HI_ADDR : Fld := ⟨.DRY, 0x124, 31, 0, .RW, 0⟩
def DRY_CH_WB_HI : RegDef := ⟨.DRY, 0x124, 1, 0, 32, 64, .C, false, [DRY_CH_WB_HI_ADDR]⟩
def DRY_CH_RESID_BYTES : Fld := ⟨.DRY, 0x128, 31, 0, .RO, 0⟩
def DRY_CH_RESID : RegDef := ⟨.DRY, 0x128, 1, 0, 32, 64, .C, false, [DRY_CH_RESID_BYTES]⟩
def DRY_CH_LANE_LANE : Fld := ⟨.DRY, 0x130, 3, 0, .RWS, 0⟩
def DRY_CH_LANE : RegDef := ⟨.DRY, 0x130, 1, 0, 32, 64, .Y, false, [DRY_CH_LANE_LANE]⟩
def tabDRY : List RegDef :=
  [DRY_CFG, DRY_DONE, DRY_ERR, DRY_BUF, DRY_REQ, DRY_CH_CFG, DRY_CH_CTL, DRY_CH_STATUS, DRY_CH_SRC_LO, DRY_CH_SRC_HI, DRY_CH_DST_LO, DRY_CH_DST_HI, DRY_CH_CNT, DRY_CH_WB_LO, DRY_CH_WB_HI, DRY_CH_RESID, DRY_CH_LANE]

/-! ### MEW registers (spec/11_mews_drayage_whiffletree.md) -/

def MEW_CFG_COACH : Fld := ⟨.MEW, 0x000, 2, 0, .YH, 0⟩
def MEW_CFG_COUNT : Fld := ⟨.MEW, 0x000, 26, 16, .YH, 0⟩
def MEW_CFG : RegDef := ⟨.MEW, 0x000, 1, 0, 1, 0, .H, false, [MEW_CFG_COACH, MEW_CFG_COUNT]⟩
def MEW_EVENT_POISON_END : Fld := ⟨.MEW, 0x004, 0, 0, .W1C, 0⟩
def MEW_EVENT_TRUNCATED : Fld := ⟨.MEW, 0x004, 1, 1, .W1C, 0⟩
def MEW_EVENT_FLUSHED : Fld := ⟨.MEW, 0x004, 2, 2, .W1C, 0⟩
def MEW_EVENT_FLUSH_MARK : Fld := ⟨.MEW, 0x004, 3, 3, .W1C, 0⟩
def MEW_EVENT : RegDef := ⟨.MEW, 0x004, 1, 0, 1, 0, .C, false, [MEW_EVENT_POISON_END, MEW_EVENT_TRUNCATED, MEW_EVENT_FLUSHED, MEW_EVENT_FLUSH_MARK]⟩
def MEW_FLUSH_MEWS : Fld := ⟨.MEW, 0x008, 9, 0, .RW, 0⟩
def MEW_FLUSH_GO : Fld := ⟨.MEW, 0x008, 31, 31, .WP, 0⟩
def MEW_FLUSH : RegDef := ⟨.MEW, 0x008, 1, 0, 1, 0, .C, false, [MEW_FLUSH_MEWS, MEW_FLUSH_GO]⟩
def MEW_FLUSH_STATUS_BUSY : Fld := ⟨.MEW, 0x00C, 0, 0, .RO, 0⟩
def MEW_FLUSH_STATUS_DONE : Fld := ⟨.MEW, 0x00C, 1, 1, .W1C, 0⟩
def MEW_FLUSH_STATUS_REFUSED : Fld := ⟨.MEW, 0x00C, 2, 2, .W1C, 0⟩
def MEW_FLUSH_STATUS_DISCARDED : Fld := ⟨.MEW, 0x00C, 31, 16, .RO, 0⟩
def MEW_FLUSH_STATUS : RegDef := ⟨.MEW, 0x00C, 1, 0, 1, 0, .C, false, [MEW_FLUSH_STATUS_BUSY, MEW_FLUSH_STATUS_DONE, MEW_FLUSH_STATUS_REFUSED, MEW_FLUSH_STATUS_DISCARDED]⟩
def MEW_CNT_COUNT : Fld := ⟨.MEW, 0x010, 31, 0, .RO, 0⟩
def MEW_CNT : RegDef := ⟨.MEW, 0x010, 4, 4, 1, 0, .C, false, [MEW_CNT_COUNT]⟩
def MEW_DEPTH_UNITS : Fld := ⟨.MEW, 0x1000, 19, 0, .YH, 0⟩
def MEW_DEPTH_KIND : Fld := ⟨.MEW, 0x1000, 22, 20, .YH, 0⟩
def MEW_DEPTH : RegDef := ⟨.MEW, 0x1000, 1, 0, 1024, 16, .H, false, [MEW_DEPTH_UNITS, MEW_DEPTH_KIND]⟩
def MEW_FILL_UNITS : Fld := ⟨.MEW, 0x1004, 19, 0, .RO, 0⟩
def MEW_FILL_PACKETS : Fld := ⟨.MEW, 0x1004, 31, 20, .RO, 0⟩
def MEW_FILL : RegDef := ⟨.MEW, 0x1004, 1, 0, 1024, 16, .C, false, [MEW_FILL_UNITS, MEW_FILL_PACKETS]⟩
def MEW_PEAK_UNITS : Fld := ⟨.MEW, 0x1008, 19, 0, .RO, 0⟩
def MEW_PEAK_CUT : Fld := ⟨.MEW, 0x1008, 30, 20, .YH, 0⟩
def MEW_PEAK_CLEAR : Fld := ⟨.MEW, 0x1008, 31, 31, .WP, 0⟩
def MEW_PEAK : RegDef := ⟨.MEW, 0x1008, 1, 0, 1024, 16, .C, false, [MEW_PEAK_UNITS, MEW_PEAK_CUT, MEW_PEAK_CLEAR]⟩
def MEW_STALL_PROD : Fld := ⟨.MEW, 0x100C, 15, 0, .RO, 0⟩
def MEW_STALL_CONS : Fld := ⟨.MEW, 0x100C, 31, 16, .RO, 0⟩
def MEW_STALL : RegDef := ⟨.MEW, 0x100C, 1, 0, 1024, 16, .C, false, [MEW_STALL_PROD, MEW_STALL_CONS]⟩
def tabMEW : List RegDef :=
  [MEW_CFG, MEW_EVENT, MEW_FLUSH, MEW_FLUSH_STATUS, MEW_CNT, MEW_DEPTH, MEW_FILL, MEW_PEAK, MEW_STALL]

/-! ### DMC registers (spec/10_memory.md) -/

def DMC_CFG_COACH : Fld := ⟨.DMC, 0x000, 2, 0, .YH, 0⟩
def DMC_CFG_CHANNEL : Fld := ⟨.DMC, 0x000, 3, 3, .YH, 0⟩
def DMC_CFG_SPEED : Fld := ⟨.DMC, 0x000, 5, 4, .YH, 0⟩
def DMC_CFG_DIMMS : Fld := ⟨.DMC, 0x000, 7, 6, .YH, 0⟩
def DMC_CFG_RANKS : Fld := ⟨.DMC, 0x000, 10, 8, .YH, 0⟩
def DMC_CFG_WIDTH : Fld := ⟨.DMC, 0x000, 11, 11, .YH, 0⟩
def DMC_CFG_CAPACITY : Fld := ⟨.DMC, 0x000, 24, 16, .YH, 0⟩
def DMC_CFG_SPARE : Fld := ⟨.DMC, 0x000, 27, 25, .YH, 7⟩
def DMC_CFG : RegDef := ⟨.DMC, 0x000, 1, 0, 1, 0, .H, false, [DMC_CFG_COACH, DMC_CFG_CHANNEL, DMC_CFG_SPEED, DMC_CFG_DIMMS, DMC_CFG_RANKS, DMC_CFG_WIDTH, DMC_CFG_CAPACITY, DMC_CFG_SPARE]⟩
def DMC_STATUS_STATE : Fld := ⟨.DMC, 0x004, 2, 0, .RO, 0⟩
def DMC_STATUS_OWED : Fld := ⟨.DMC, 0x004, 6, 3, .RO, 0⟩
def DMC_STATUS_HOT : Fld := ⟨.DMC, 0x004, 7, 7, .RO, 0⟩
def DMC_STATUS_RETIRED : Fld := ⟨.DMC, 0x004, 11, 8, .RO, 0⟩
def DMC_STATUS : RegDef := ⟨.DMC, 0x004, 1, 0, 1, 0, .C, false, [DMC_STATUS_STATE, DMC_STATUS_OWED, DMC_STATUS_HOT, DMC_STATUS_RETIRED]⟩
def DMC_ERR_CODE : Fld := ⟨.DMC, 0x008, 31, 0, .RO, 0⟩
def DMC_ERR : RegDef := ⟨.DMC, 0x008, 1, 0, 1, 0, .C, false, [DMC_ERR_CODE]⟩
def DMC_EVENT_CE : Fld := ⟨.DMC, 0x00C, 0, 0, .W1C, 0⟩
def DMC_EVENT_UE : Fld := ⟨.DMC, 0x00C, 1, 1, .W1C, 0⟩
def DMC_EVENT_POISON_READ : Fld := ⟨.DMC, 0x00C, 2, 2, .W1C, 0⟩
def DMC_EVENT_CE_LIMIT : Fld := ⟨.DMC, 0x00C, 3, 3, .W1C, 0⟩
def DMC_EVENT_CURB : Fld := ⟨.DMC, 0x00C, 4, 4, .W1C, 0⟩
def DMC_EVENT_REMOUNT_START : Fld := ⟨.DMC, 0x00C, 5, 5, .W1C, 0⟩
def DMC_EVENT_REMOUNT_DONE : Fld := ⟨.DMC, 0x00C, 6, 6, .W1C, 0⟩
def DMC_EVENT_HOT : Fld := ⟨.DMC, 0x00C, 7, 7, .W1C, 0⟩
def DMC_EVENT_MARGIN : Fld := ⟨.DMC, 0x00C, 8, 8, .W1C, 0⟩
def DMC_EVENT : RegDef := ⟨.DMC, 0x00C, 1, 0, 1, 0, .C, false, [DMC_EVENT_CE, DMC_EVENT_UE, DMC_EVENT_POISON_READ, DMC_EVENT_CE_LIMIT, DMC_EVENT_CURB, DMC_EVENT_REMOUNT_START, DMC_EVENT_REMOUNT_DONE, DMC_EVENT_HOT, DMC_EVENT_MARGIN]⟩
def DMC_CE_COUNT : Fld := ⟨.DMC, 0x010, 31, 0, .RO, 0⟩
def DMC_CE : RegDef := ⟨.DMC, 0x010, 1, 0, 1, 0, .C, false, [DMC_CE_COUNT]⟩
def DMC_UE_COUNT : Fld := ⟨.DMC, 0x014, 31, 0, .RO, 0⟩
def DMC_UE : RegDef := ⟨.DMC, 0x014, 1, 0, 1, 0, .C, false, [DMC_UE_COUNT]⟩
def DMC_POISON_COUNT : Fld := ⟨.DMC, 0x018, 31, 0, .RO, 0⟩
def DMC_POISON : RegDef := ⟨.DMC, 0x018, 1, 0, 1, 0, .C, false, [DMC_POISON_COUNT]⟩
def DMC_RMW_COUNT : Fld := ⟨.DMC, 0x01C, 31, 0, .RO, 0⟩
def DMC_RMW : RegDef := ⟨.DMC, 0x01C, 1, 0, 1, 0, .C, false, [DMC_RMW_COUNT]⟩
def DMC_ERR_ADDR_LO_ADDR : Fld := ⟨.DMC, 0x020, 31, 7, .RO, 0⟩
def DMC_ERR_ADDR_LO : RegDef := ⟨.DMC, 0x020, 1, 0, 1, 0, .C, true, [DMC_ERR_ADDR_LO_ADDR]⟩
def DMC_ERR_ADDR_HI_ADDR : Fld := ⟨.DMC, 0x024, 9, 0, .RO, 0⟩
def DMC_ERR_ADDR_HI : RegDef := ⟨.DMC, 0x024, 1, 0, 1, 0, .C, false, [DMC_ERR_ADDR_HI_ADDR]⟩
def DMC_ERR_INFO_RANK : Fld := ⟨.DMC, 0x028, 1, 0, .RO, 0⟩
def DMC_ERR_INFO_SYMBOL : Fld := ⟨.DMC, 0x028, 6, 2, .RO, 0⟩
def DMC_ERR_INFO_KIND : Fld := ⟨.DMC, 0x028, 8, 7, .RO, 0⟩
def DMC_ERR_INFO_SCRUB : Fld := ⟨.DMC, 0x028, 9, 9, .RO, 0⟩
def DMC_ERR_INFO_BEAT : Fld := ⟨.DMC, 0x028, 13, 10, .RO, 0⟩
def DMC_ERR_INFO : RegDef := ⟨.DMC, 0x028, 1, 0, 1, 0, .C, false, [DMC_ERR_INFO_RANK, DMC_ERR_INFO_SYMBOL, DMC_ERR_INFO_KIND, DMC_ERR_INFO_SCRUB, DMC_ERR_INFO_BEAT]⟩
def DMC_CE_LIMIT_LIMIT : Fld := ⟨.DMC, 0x02C, 15, 0, .RW, 4096⟩
def DMC_CE_LIMIT_AUTO : Fld := ⟨.DMC, 0x02C, 16, 16, .RW, 1⟩
def DMC_CE_LIMIT : RegDef := ⟨.DMC, 0x02C, 1, 0, 1, 0, .H, false, [DMC_CE_LIMIT_LIMIT, DMC_CE_LIMIT_AUTO]⟩
def DMC_REF_BUSY : Fld := ⟨.DMC, 0x030, 7, 0, .RWS, 16⟩
def DMC_REF : RegDef := ⟨.DMC, 0x030, 1, 0, 1, 0, .Y, false, [DMC_REF_BUSY]⟩
def DMC_SCRUB_HOURS : Fld := ⟨.DMC, 0x034, 7, 0, .RWS, 24⟩
def DMC_SCRUB : RegDef := ⟨.DMC, 0x034, 1, 0, 1, 0, .Y, false, [DMC_SCRUB_HOURS]⟩
def DMC_CURB_CTL_THRESHOLD : Fld := ⟨.DMC, 0x038, 15, 0, .RWS, 2048⟩
def DMC_CURB_CTL_DELAY : Fld := ⟨.DMC, 0x038, 31, 16, .RWS, 200⟩
def DMC_CURB_CTL : RegDef := ⟨.DMC, 0x038, 1, 0, 1, 0, .Y, false, [DMC_CURB_CTL_THRESHOLD, DMC_CURB_CTL_DELAY]⟩
def DMC_CURB_STATUS_REQUESTER : Fld := ⟨.DMC, 0x03C, 15, 0, .RO, 0⟩
def DMC_CURB_STATUS_ACTIVE : Fld := ⟨.DMC, 0x03C, 16, 16, .RO, 0⟩
def DMC_CURB_STATUS_CURBED : Fld := ⟨.DMC, 0x03C, 31, 24, .RO, 0⟩
def DMC_CURB_STATUS : RegDef := ⟨.DMC, 0x03C, 1, 0, 1, 0, .C, false, [DMC_CURB_STATUS_REQUESTER, DMC_CURB_STATUS_ACTIVE, DMC_CURB_STATUS_CURBED]⟩
def DMC_CURB_CNT_COUNT : Fld := ⟨.DMC, 0x040, 31, 0, .RO, 0⟩
def DMC_CURB_CNT : RegDef := ⟨.DMC, 0x040, 1, 0, 1, 0, .C, false, [DMC_CURB_CNT_COUNT]⟩
def DMC_REMOUNT_CTL_GO : Fld := ⟨.DMC, 0x044, 0, 0, .WP, 0⟩
def DMC_REMOUNT_CTL_RANK : Fld := ⟨.DMC, 0x044, 2, 1, .RW, 0⟩
def DMC_REMOUNT_CTL : RegDef := ⟨.DMC, 0x044, 1, 0, 1, 0, .C, false, [DMC_REMOUNT_CTL_GO, DMC_REMOUNT_CTL_RANK]⟩
def DMC_REMOUNT_STATUS_STATE : Fld := ⟨.DMC, 0x048, 1, 0, .RO, 0⟩
def DMC_REMOUNT_STATUS_FROM : Fld := ⟨.DMC, 0x048, 3, 2, .RO, 0⟩
def DMC_REMOUNT_STATUS_SPARE : Fld := ⟨.DMC, 0x048, 5, 4, .RO, 0⟩
def DMC_REMOUNT_STATUS_PROGRESS : Fld := ⟨.DMC, 0x048, 15, 8, .RO, 0⟩
def DMC_REMOUNT_STATUS_POISONED : Fld := ⟨.DMC, 0x048, 31, 16, .RO, 0⟩
def DMC_REMOUNT_STATUS : RegDef := ⟨.DMC, 0x048, 1, 0, 1, 0, .C, false, [DMC_REMOUNT_STATUS_STATE, DMC_REMOUNT_STATUS_FROM, DMC_REMOUNT_STATUS_SPARE, DMC_REMOUNT_STATUS_PROGRESS, DMC_REMOUNT_STATUS_POISONED]⟩
def DMC_PWR_KEEP_IN_BOX : Fld := ⟨.DMC, 0x04C, 0, 0, .RW, 0⟩
def DMC_PWR : RegDef := ⟨.DMC, 0x04C, 1, 0, 1, 0, .H, false, [DMC_PWR_KEEP_IN_BOX]⟩
def DMC_TRAIN_MODE : Fld := ⟨.DMC, 0x050, 1, 0, .RO, 0⟩
def DMC_TRAIN_TIME_MS : Fld := ⟨.DMC, 0x050, 31, 16, .RO, 0⟩
def DMC_TRAIN : RegDef := ⟨.DMC, 0x050, 1, 0, 1, 0, .C, false, [DMC_TRAIN_MODE, DMC_TRAIN_TIME_MS]⟩
def DMC_MARGIN_READ : Fld := ⟨.DMC, 0x060, 15, 0, .RO, 0⟩
def DMC_MARGIN_WRITE : Fld := ⟨.DMC, 0x060, 31, 16, .RO, 0⟩
def DMC_MARGIN : RegDef := ⟨.DMC, 0x060, 10, 4, 1, 0, .C, false, [DMC_MARGIN_READ, DMC_MARGIN_WRITE]⟩
def DMC_UTIL_LOAD : Fld := ⟨.DMC, 0x090, 7, 0, .RO, 0⟩
def DMC_UTIL_RFM : Fld := ⟨.DMC, 0x090, 31, 16, .RO, 0⟩
def DMC_UTIL : RegDef := ⟨.DMC, 0x090, 1, 0, 1, 0, .C, false, [DMC_UTIL_LOAD, DMC_UTIL_RFM]⟩
def DMC_PART_SEL_PARTITION : Fld := ⟨.DMC, 0x0A0, 15, 0, .RW, 0⟩
def DMC_PART_SEL : RegDef := ⟨.DMC, 0x0A0, 1, 0, 1, 0, .C, false, [DMC_PART_SEL_PARTITION]⟩
def DMC_PART_INFO_KIND : Fld := ⟨.DMC, 0x0A4, 3, 0, .RO, 0⟩
def DMC_PART_INFO_CARRIAGE : Fld := ⟨.DMC, 0x0A4, 15, 8, .RO, 255⟩
def DMC_PART_INFO_GRANULE : Fld := ⟨.DMC, 0x0A4, 20, 16, .RO, 0⟩
def DMC_PART_INFO_VALID : Fld := ⟨.DMC, 0x0A4, 31, 31, .RO, 0⟩
def DMC_PART_INFO : RegDef := ⟨.DMC, 0x0A4, 1, 0, 1, 0, .C, false, [DMC_PART_INFO_KIND, DMC_PART_INFO_CARRIAGE, DMC_PART_INFO_GRANULE, DMC_PART_INFO_VALID]⟩
def DMC_PART_CHANNELS_MASK : Fld := ⟨.DMC, 0x0A8, 15, 0, .RO, 0⟩
def DMC_PART_CHANNELS : RegDef := ⟨.DMC, 0x0A8, 1, 0, 1, 0, .C, false, [DMC_PART_CHANNELS_MASK]⟩
def DMC_PART_BASE_LO_ADDR : Fld := ⟨.DMC, 0x0AC, 31, 0, .RO, 0⟩
def DMC_PART_BASE_LO : RegDef := ⟨.DMC, 0x0AC, 1, 0, 1, 0, .C, true, [DMC_PART_BASE_LO_ADDR]⟩
def DMC_PART_BASE_HI_ADDR : Fld := ⟨.DMC, 0x0B0, 9, 0, .RO, 0⟩
def DMC_PART_BASE_HI : RegDef := ⟨.DMC, 0x0B0, 1, 0, 1, 0, .C, false, [DMC_PART_BASE_HI_ADDR]⟩
def DMC_PART_SIZE_LO_BYTES : Fld := ⟨.DMC, 0x0B4, 31, 0, .RO, 0⟩
def DMC_PART_SIZE_LO : RegDef := ⟨.DMC, 0x0B4, 1, 0, 1, 0, .C, true, [DMC_PART_SIZE_LO_BYTES]⟩
def DMC_PART_SIZE_HI_BYTES : Fld := ⟨.DMC, 0x0B8, 9, 0, .RO, 0⟩
def DMC_PART_SIZE_HI : RegDef := ⟨.DMC, 0x0B8, 1, 0, 1, 0, .C, false, [DMC_PART_SIZE_HI_BYTES]⟩
def DMC_RANK_CE_COUNT : Fld := ⟨.DMC, 0x0C0, 31, 0, .RO, 0⟩
def DMC_RANK_CE : RegDef := ⟨.DMC, 0x0C0, 4, 4, 1, 0, .C, false, [DMC_RANK_CE_COUNT]⟩
def tabDMC : List RegDef :=
  [DMC_CFG, DMC_STATUS, DMC_ERR, DMC_EVENT, DMC_CE, DMC_UE, DMC_POISON, DMC_RMW, DMC_ERR_ADDR_LO, DMC_ERR_ADDR_HI, DMC_ERR_INFO, DMC_CE_LIMIT, DMC_REF, DMC_SCRUB, DMC_CURB_CTL, DMC_CURB_STATUS, DMC_CURB_CNT, DMC_REMOUNT_CTL, DMC_REMOUNT_STATUS, DMC_PWR, DMC_TRAIN, DMC_MARGIN, DMC_UTIL, DMC_PART_SEL, DMC_PART_INFO, DMC_PART_CHANNELS, DMC_PART_BASE_LO, DMC_PART_BASE_HI, DMC_PART_SIZE_LO, DMC_PART_SIZE_HI, DMC_RANK_CE]

/-! ### WWT registers (spec/14_power_startup_wheelwright.md) -/

def WWT_CFG_COACH : Fld := ⟨.WWT, 0x000, 2, 0, .YH, 0⟩
def WWT_CFG : RegDef := ⟨.WWT, 0x000, 1, 0, 1, 0, .H, false, [WWT_CFG_COACH]⟩
def WWT_CTL_RUN : Fld := ⟨.WWT, 0x004, 4, 0, .WP, 0⟩
def WWT_CTL_CLEAR_UNSETTLED : Fld := ⟨.WWT, 0x004, 5, 5, .WP, 0⟩
def WWT_CTL_CARRIAGE : Fld := ⟨.WWT, 0x004, 15, 8, .RW, 0⟩
def WWT_CTL : RegDef := ⟨.WWT, 0x004, 1, 0, 1, 0, .C, false, [WWT_CTL_RUN, WWT_CTL_CLEAR_UNSETTLED, WWT_CTL_CARRIAGE]⟩
def WWT_STATUS_RUNNING : Fld := ⟨.WWT, 0x008, 4, 0, .RO, 0⟩
def WWT_STATUS_UNSETTLED : Fld := ⟨.WWT, 0x008, 12, 8, .RO, 0⟩
def WWT_STATUS_REJECTS : Fld := ⟨.WWT, 0x008, 25, 16, .RO, 0⟩
def WWT_STATUS : RegDef := ⟨.WWT, 0x008, 1, 0, 1, 0, .C, false, [WWT_STATUS_RUNNING, WWT_STATUS_UNSETTLED, WWT_STATUS_REJECTS]⟩
def WWT_EVENT_ACCEPTED : Fld := ⟨.WWT, 0x00C, 0, 0, .W1C, 0⟩
def WWT_EVENT_REJECTED : Fld := ⟨.WWT, 0x00C, 1, 1, .W1C, 0⟩
def WWT_EVENT_UNSETTLED : Fld := ⟨.WWT, 0x00C, 2, 2, .W1C, 0⟩
def WWT_EVENT_SETTLED : Fld := ⟨.WWT, 0x00C, 3, 3, .W1C, 0⟩
def WWT_EVENT_NOT_APPLIED : Fld := ⟨.WWT, 0x00C, 4, 4, .W1C, 0⟩
def WWT_EVENT_SENSOR_BAD : Fld := ⟨.WWT, 0x00C, 5, 5, .W1C, 0⟩
def WWT_EVENT : RegDef := ⟨.WWT, 0x00C, 1, 0, 1, 0, .C, false, [WWT_EVENT_ACCEPTED, WWT_EVENT_REJECTED, WWT_EVENT_UNSETTLED, WWT_EVENT_SETTLED, WWT_EVENT_NOT_APPLIED, WWT_EVENT_SENSOR_BAD]⟩
def WWT_LAST_CLASS : Fld := ⟨.WWT, 0x010, 2, 0, .RO, 0⟩
def WWT_LAST_OUTCOME : Fld := ⟨.WWT, 0x010, 4, 3, .RO, 0⟩
def WWT_LAST_INSTANCE : Fld := ⟨.WWT, 0x010, 15, 8, .RO, 0⟩
def WWT_LAST_QUALITY : Fld := ⟨.WWT, 0x010, 31, 16, .RO, 0⟩
def WWT_LAST : RegDef := ⟨.WWT, 0x010, 1, 0, 1, 0, .C, false, [WWT_LAST_CLASS, WWT_LAST_OUTCOME, WWT_LAST_INSTANCE, WWT_LAST_QUALITY]⟩
def WWT_THRESH_LANE : Fld := ⟨.WWT, 0x014, 7, 0, .RW, 32⟩
def WWT_THRESH_DRAM : Fld := ⟨.WWT, 0x014, 15, 8, .RW, 32⟩
def WWT_THRESH_SEAM : Fld := ⟨.WWT, 0x014, 23, 16, .RW, 32⟩
def WWT_THRESH_GAIN : Fld := ⟨.WWT, 0x014, 31, 24, .RW, 32⟩
def WWT_THRESH : RegDef := ⟨.WWT, 0x014, 1, 0, 1, 0, .H, false, [WWT_THRESH_LANE, WWT_THRESH_DRAM, WWT_THRESH_SEAM, WWT_THRESH_GAIN]⟩
def WWT_THRESH_TSEN_TSEN : Fld := ⟨.WWT, 0x018, 7, 0, .RW, 32⟩
def WWT_THRESH_TSEN : RegDef := ⟨.WWT, 0x018, 1, 0, 1, 0, .H, false, [WWT_THRESH_TSEN_TSEN]⟩
def WWT_PERIOD0_S : Fld := ⟨.WWT, 0x01C, 31, 0, .RW, 3600⟩
def WWT_PERIOD0 : RegDef := ⟨.WWT, 0x01C, 1, 0, 1, 0, .H, false, [WWT_PERIOD0_S]⟩
def WWT_PERIOD1_S : Fld := ⟨.WWT, 0x020, 31, 0, .RW, 3600⟩
def WWT_PERIOD1 : RegDef := ⟨.WWT, 0x020, 1, 0, 1, 0, .H, false, [WWT_PERIOD1_S]⟩
def WWT_PERIOD2_S : Fld := ⟨.WWT, 0x024, 31, 0, .RW, 600⟩
def WWT_PERIOD2 : RegDef := ⟨.WWT, 0x024, 1, 0, 1, 0, .H, false, [WWT_PERIOD2_S]⟩
def WWT_PERIOD3_S : Fld := ⟨.WWT, 0x028, 31, 0, .RW, 600⟩
def WWT_PERIOD3 : RegDef := ⟨.WWT, 0x028, 1, 0, 1, 0, .H, false, [WWT_PERIOD3_S]⟩
def WWT_PERIOD4_S : Fld := ⟨.WWT, 0x02C, 31, 0, .RW, 60⟩
def WWT_PERIOD4 : RegDef := ⟨.WWT, 0x02C, 1, 0, 1, 0, .H, false, [WWT_PERIOD4_S]⟩
def WWT_GAIN_UNSETTLED_CARRIAGE : Fld := ⟨.WWT, 0x030, 5, 0, .RO, 0⟩
def WWT_GAIN_UNSETTLED : RegDef := ⟨.WWT, 0x030, 1, 0, 1, 0, .C, false, [WWT_GAIN_UNSETTLED_CARRIAGE]⟩
def WWT_TEMP_EVEN : Fld := ⟨.WWT, 0x040, 15, 0, .RO, 0⟩
def WWT_TEMP_ODD : Fld := ⟨.WWT, 0x040, 31, 16, .RO, 0⟩
def WWT_TEMP : RegDef := ⟨.WWT, 0x040, 8, 4, 1, 0, .C, false, [WWT_TEMP_EVEN, WWT_TEMP_ODD]⟩
def WWT_TSEN_BAD : Fld := ⟨.WWT, 0x060, 15, 0, .RO, 0⟩
def WWT_TSEN_DEV : Fld := ⟨.WWT, 0x060, 31, 16, .RO, 0⟩
def WWT_TSEN : RegDef := ⟨.WWT, 0x060, 1, 0, 1, 0, .C, false, [WWT_TSEN_BAD, WWT_TSEN_DEV]⟩
def tabWWT : List RegDef :=
  [WWT_CFG, WWT_CTL, WWT_STATUS, WWT_EVENT, WWT_LAST, WWT_THRESH, WWT_THRESH_TSEN, WWT_PERIOD0, WWT_PERIOD1, WWT_PERIOD2, WWT_PERIOD3, WWT_PERIOD4, WWT_GAIN_UNSETTLED, WWT_TEMP, WWT_TSEN]

/-! ### LAN registers (spec/03_field_lanes.md) -/

def LAN_CFG_MODE : Fld := ⟨.LAN, 0x000, 2, 0, .YH, 0⟩
def LAN_CFG_RATE : Fld := ⟨.LAN, 0x000, 6, 3, .YH, 0⟩
def LAN_CFG_USE : Fld := ⟨.LAN, 0x000, 9, 7, .YH, 0⟩
def LAN_CFG_CONNECTION : Fld := ⟨.LAN, 0x000, 15, 10, .YH, 63⟩
def LAN_CFG_INDEX : Fld := ⟨.LAN, 0x000, 17, 16, .YH, 0⟩
def LAN_CFG_GLOBAL : Fld := ⟨.LAN, 0x000, 24, 18, .YH, 0⟩
def LAN_CFG : RegDef := ⟨.LAN, 0x000, 1, 0, 1, 0, .H, false, [LAN_CFG_MODE, LAN_CFG_RATE, LAN_CFG_USE, LAN_CFG_CONNECTION, LAN_CFG_INDEX, LAN_CFG_GLOBAL]⟩
def LAN_STATUS_RX_STATE : Fld := ⟨.LAN, 0x004, 2, 0, .RO, 0⟩
def LAN_STATUS_TX_STATE : Fld := ⟨.LAN, 0x004, 5, 3, .RO, 0⟩
def LAN_STATUS_SIGNAL : Fld := ⟨.LAN, 0x004, 6, 6, .RO, 0⟩
def LAN_STATUS_PLL_LOCK : Fld := ⟨.LAN, 0x004, 7, 7, .RO, 0⟩
def LAN_STATUS_FRAMED : Fld := ⟨.LAN, 0x004, 8, 8, .RO, 0⟩
def LAN_STATUS_TRAIN_STEP : Fld := ⟨.LAN, 0x004, 12, 9, .RO, 0⟩
def LAN_STATUS : RegDef := ⟨.LAN, 0x004, 1, 0, 1, 0, .C, false, [LAN_STATUS_RX_STATE, LAN_STATUS_TX_STATE, LAN_STATUS_SIGNAL, LAN_STATUS_PLL_LOCK, LAN_STATUS_FRAMED, LAN_STATUS_TRAIN_STEP]⟩
def LAN_CTL_RETRAIN : Fld := ⟨.LAN, 0x008, 0, 0, .WP, 0⟩
def LAN_CTL_CLEAR_COUNTS : Fld := ⟨.LAN, 0x008, 1, 1, .WP, 0⟩
def LAN_CTL_RUN_WWT : Fld := ⟨.LAN, 0x008, 2, 2, .WP, 0⟩
def LAN_CTL : RegDef := ⟨.LAN, 0x008, 1, 0, 1, 0, .C, false, [LAN_CTL_RETRAIN, LAN_CTL_CLEAR_COUNTS, LAN_CTL_RUN_WWT]⟩
def LAN_PWR_RX_REQ : Fld := ⟨.LAN, 0x00C, 1, 0, .RW, 0⟩
def LAN_PWR_TX_REQ : Fld := ⟨.LAN, 0x00C, 3, 2, .RW, 0⟩
def LAN_PWR_WAKE_ON_SIGNAL : Fld := ⟨.LAN, 0x00C, 4, 4, .RW, 1⟩
def LAN_PWR_PEER_SLEEP : Fld := ⟨.LAN, 0x00C, 5, 5, .RW, 0⟩
def LAN_PWR_TX_KEEP : Fld := ⟨.LAN, 0x00C, 6, 6, .RW, 0⟩
def LAN_PWR : RegDef := ⟨.LAN, 0x00C, 1, 0, 1, 0, .H, false, [LAN_PWR_RX_REQ, LAN_PWR_TX_REQ, LAN_PWR_WAKE_ON_SIGNAL, LAN_PWR_PEER_SLEEP, LAN_PWR_TX_KEEP]⟩
def LAN_EQ_CODE : Fld := ⟨.LAN, 0x010, 3, 0, .RO, 0⟩
def LAN_EQ_NEXT : Fld := ⟨.LAN, 0x010, 7, 4, .RO, 0⟩
def LAN_EQ_PENDING : Fld := ⟨.LAN, 0x010, 8, 8, .RO, 0⟩
def LAN_EQ_AUTO : Fld := ⟨.LAN, 0x010, 9, 9, .YH, 0⟩
def LAN_EQ_SET : Fld := ⟨.LAN, 0x010, 13, 10, .RW, 0⟩
def LAN_EQ_SET_GO : Fld := ⟨.LAN, 0x010, 14, 14, .WP, 0⟩
def LAN_EQ : RegDef := ⟨.LAN, 0x010, 1, 0, 1, 0, .H, false, [LAN_EQ_CODE, LAN_EQ_NEXT, LAN_EQ_PENDING, LAN_EQ_AUTO, LAN_EQ_SET, LAN_EQ_SET_GO]⟩
def LAN_EYE_WIDTH : Fld := ⟨.LAN, 0x014, 5, 0, .RO, 0⟩
def LAN_EYE_CODE : Fld := ⟨.LAN, 0x014, 11, 8, .RO, 0⟩
def LAN_EYE_RUNS : Fld := ⟨.LAN, 0x014, 31, 16, .RO, 0⟩
def LAN_EYE : RegDef := ⟨.LAN, 0x014, 1, 0, 1, 0, .H, false, [LAN_EYE_WIDTH, LAN_EYE_CODE, LAN_EYE_RUNS]⟩
def LAN_ERR_CODE : Fld := ⟨.LAN, 0x018, 31, 0, .RO, 0⟩
def LAN_ERR : RegDef := ⟨.LAN, 0x018, 1, 0, 1, 0, .C, false, [LAN_ERR_CODE]⟩
def LAN_EVENT_DOWN : Fld := ⟨.LAN, 0x01C, 0, 0, .W1C, 0⟩
def LAN_EVENT_UP : Fld := ⟨.LAN, 0x01C, 1, 1, .W1C, 0⟩
def LAN_EVENT_ERR : Fld := ⟨.LAN, 0x01C, 2, 2, .W1C, 0⟩
def LAN_EVENT_TRIG_DROPPED : Fld := ⟨.LAN, 0x01C, 3, 3, .W1C, 0⟩
def LAN_EVENT_CREDIT : Fld := ⟨.LAN, 0x01C, 4, 4, .W1C, 0⟩
def LAN_EVENT_EQ_SWITCH : Fld := ⟨.LAN, 0x01C, 5, 5, .W1C, 0⟩
def LAN_EVENT_TRIG_DROP_COUNT : Fld := ⟨.LAN, 0x01C, 31, 16, .RO, 0⟩
def LAN_EVENT : RegDef := ⟨.LAN, 0x01C, 1, 0, 1, 0, .C, false, [LAN_EVENT_DOWN, LAN_EVENT_UP, LAN_EVENT_ERR, LAN_EVENT_TRIG_DROPPED, LAN_EVENT_CREDIT, LAN_EVENT_EQ_SWITCH, LAN_EVENT_TRIG_DROP_COUNT]⟩
def LAN_CORR_COUNT : Fld := ⟨.LAN, 0x020, 31, 0, .RO, 0⟩
def LAN_CORR : RegDef := ⟨.LAN, 0x020, 1, 0, 1, 0, .C, false, [LAN_CORR_COUNT]⟩
def LAN_UNCORR_COUNT : Fld := ⟨.LAN, 0x024, 31, 0, .RO, 0⟩
def LAN_UNCORR : RegDef := ⟨.LAN, 0x024, 1, 0, 1, 0, .C, false, [LAN_UNCORR_COUNT]⟩
def LAN_FRAMING_STUFF : Fld := ⟨.LAN, 0x028, 7, 0, .RO, 0⟩
def LAN_FRAMING_MARKER : Fld := ⟨.LAN, 0x028, 15, 8, .RO, 0⟩
def LAN_FRAMING_HEADER : Fld := ⟨.LAN, 0x028, 23, 16, .RO, 0⟩
def LAN_FRAMING_RETRAINS : Fld := ⟨.LAN, 0x028, 31, 24, .RO, 0⟩
def LAN_FRAMING : RegDef := ⟨.LAN, 0x028, 1, 0, 1, 0, .C, false, [LAN_FRAMING_STUFF, LAN_FRAMING_MARKER, LAN_FRAMING_HEADER, LAN_FRAMING_RETRAINS]⟩
def LAN_PRBS_CTL_PATTERN : Fld := ⟨.LAN, 0x030, 1, 0, .RW, 0⟩
def LAN_PRBS_CTL_TX_ON : Fld := ⟨.LAN, 0x030, 2, 2, .RW, 0⟩
def LAN_PRBS_CTL_RX_ON : Fld := ⟨.LAN, 0x030, 3, 3, .RW, 0⟩
def LAN_PRBS_CTL_LOCK : Fld := ⟨.LAN, 0x030, 4, 4, .RO, 0⟩
def LAN_PRBS_CTL : RegDef := ⟨.LAN, 0x030, 1, 0, 1, 0, .C, false, [LAN_PRBS_CTL_PATTERN, LAN_PRBS_CTL_TX_ON, LAN_PRBS_CTL_RX_ON, LAN_PRBS_CTL_LOCK]⟩
def LAN_PRBS_ERR_ERRORS : Fld := ⟨.LAN, 0x034, 31, 0, .RO, 0⟩
def LAN_PRBS_ERR : RegDef := ⟨.LAN, 0x034, 1, 0, 1, 0, .C, false, [LAN_PRBS_ERR_ERRORS]⟩
def LAN_PRBS_BITS_MBITS : Fld := ⟨.LAN, 0x038, 31, 0, .RO, 0⟩
def LAN_PRBS_BITS : RegDef := ⟨.LAN, 0x038, 1, 0, 1, 0, .C, false, [LAN_PRBS_BITS_MBITS]⟩
def LAN_CXP_SPEED : Fld := ⟨.LAN, 0x044, 3, 0, .RO, 0⟩
def LAN_CXP_UPLINK : Fld := ⟨.LAN, 0x044, 5, 4, .RO, 0⟩
def LAN_CXP_MASTER : Fld := ⟨.LAN, 0x044, 6, 6, .RO, 0⟩
def LAN_CXP_DISC_TIMEOUT : Fld := ⟨.LAN, 0x044, 31, 16, .RW, 0x2710⟩
def LAN_CXP : RegDef := ⟨.LAN, 0x044, 1, 0, 1, 0, .H, false, [LAN_CXP_SPEED, LAN_CXP_UPLINK, LAN_CXP_MASTER, LAN_CXP_DISC_TIMEOUT]⟩
def LAN_ETH_FEC : Fld := ⟨.LAN, 0x048, 1, 0, .RW, 0⟩
def LAN_ETH_VLAN : Fld := ⟨.LAN, 0x048, 13, 2, .RW, 0⟩
def LAN_ETH_VLAN_ON : Fld := ⟨.LAN, 0x048, 14, 14, .RW, 0⟩
def LAN_ETH : RegDef := ⟨.LAN, 0x048, 1, 0, 1, 0, .H, false, [LAN_ETH_FEC, LAN_ETH_VLAN, LAN_ETH_VLAN_ON]⟩
def LAN_MAC_LO_MAC : Fld := ⟨.LAN, 0x04C, 31, 0, .RW, 0⟩
def LAN_MAC_LO : RegDef := ⟨.LAN, 0x04C, 1, 0, 1, 0, .H, true, [LAN_MAC_LO_MAC]⟩
def LAN_MAC_HI_MAC : Fld := ⟨.LAN, 0x050, 15, 0, .RW, 0⟩
def LAN_MAC_HI : RegDef := ⟨.LAN, 0x050, 1, 0, 1, 0, .H, false, [LAN_MAC_HI_MAC]⟩
def LAN_IPV4_ADDR : Fld := ⟨.LAN, 0x054, 31, 0, .RW, 0⟩
def LAN_IPV4 : RegDef := ⟨.LAN, 0x054, 1, 0, 1, 0, .H, false, [LAN_IPV4_ADDR]⟩
def LAN_VC_GRANTED : Fld := ⟨.LAN, 0x080, 7, 0, .RO, 0⟩
def LAN_VC_HELD : Fld := ⟨.LAN, 0x080, 15, 8, .RO, 0⟩
def LAN_VC_SEQ_ERR : Fld := ⟨.LAN, 0x080, 31, 16, .RO, 0⟩
def LAN_VC : RegDef := ⟨.LAN, 0x080, 16, 4, 1, 0, .C, false, [LAN_VC_GRANTED, LAN_VC_HELD, LAN_VC_SEQ_ERR]⟩
def tabLAN : List RegDef :=
  [LAN_CFG, LAN_STATUS, LAN_CTL, LAN_PWR, LAN_EQ, LAN_EYE, LAN_ERR, LAN_EVENT, LAN_CORR, LAN_UNCORR, LAN_FRAMING, LAN_PRBS_CTL, LAN_PRBS_ERR, LAN_PRBS_BITS, LAN_CXP, LAN_ETH, LAN_MAC_LO, LAN_MAC_HI, LAN_IPV4, LAN_VC]

/-! ### ING registers (spec/04_camera_streams.md) -/

def ING_CFG_CARRIAGE : Fld := ⟨.ING, 0x000, 7, 0, .YH, 0⟩
def ING_CFG_PLANES : Fld := ⟨.ING, 0x000, 9, 8, .YH, 1⟩
def ING_CFG_LANES : Fld := ⟨.ING, 0x000, 11, 10, .YH, 0⟩
def ING_CFG_PROTOCOL : Fld := ⟨.ING, 0x000, 12, 12, .YH, 0⟩
def ING_CFG_REPLAY : Fld := ⟨.ING, 0x000, 13, 13, .YH, 0⟩
def ING_CFG_FORMAT : Fld := ⟨.ING, 0x000, 31, 16, .YH, 0⟩
def ING_CFG : RegDef := ⟨.ING, 0x000, 1, 0, 1, 0, .H, false, [ING_CFG_CARRIAGE, ING_CFG_PLANES, ING_CFG_LANES, ING_CFG_PROTOCOL, ING_CFG_REPLAY, ING_CFG_FORMAT]⟩
def ING_STREAM_STREAM : Fld := ⟨.ING, 0x004, 15, 0, .YH, 0⟩
def ING_STREAM_WIDTH : Fld := ⟨.ING, 0x004, 31, 16, .YH, 0⟩
def ING_STREAM : RegDef := ⟨.ING, 0x004, 1, 0, 1, 0, .H, false, [ING_STREAM_STREAM, ING_STREAM_WIDTH]⟩
def ING_PFNC_VALUE : Fld := ⟨.ING, 0x008, 31, 0, .RW, 0⟩
def ING_PFNC : RegDef := ⟨.ING, 0x008, 1, 0, 1, 0, .H, false, [ING_PFNC_VALUE]⟩
def ING_LINE_PAD_MODE : Fld := ⟨.ING, 0x00C, 0, 0, .RWS, 0⟩
def ING_LINE_ORDER : Fld := ⟨.ING, 0x00C, 1, 1, .RWS, 0⟩
def ING_LINE_RB_ORDER : Fld := ⟨.ING, 0x00C, 2, 2, .RWS, 0⟩
def ING_LINE_PAD_VALUE : Fld := ⟨.ING, 0x00C, 31, 16, .RWS, 0⟩
def ING_LINE : RegDef := ⟨.ING, 0x00C, 1, 0, 1, 0, .Y, false, [ING_LINE_PAD_MODE, ING_LINE_ORDER, ING_LINE_RB_ORDER, ING_LINE_PAD_VALUE]⟩
def ING_BLOCK_BLOCK_LINES : Fld := ⟨.ING, 0x010, 23, 0, .RWS, 0⟩
def ING_BLOCK_TRIG_BLOCK_START : Fld := ⟨.ING, 0x010, 24, 24, .RWS, 0⟩
def ING_BLOCK : RegDef := ⟨.ING, 0x010, 1, 0, 1, 0, .Y, false, [ING_BLOCK_BLOCK_LINES, ING_BLOCK_TRIG_BLOCK_START]⟩
def ING_TRIG_ENABLE : Fld := ⟨.ING, 0x014, 0, 0, .RW, 0⟩
def ING_TRIG_SRC : Fld := ⟨.ING, 0x014, 2, 1, .RW, 0⟩
def ING_TRIG_PORT : Fld := ⟨.ING, 0x014, 4, 3, .RW, 0⟩
def ING_TRIG : RegDef := ⟨.ING, 0x014, 1, 0, 1, 0, .H, false, [ING_TRIG_ENABLE, ING_TRIG_SRC, ING_TRIG_PORT]⟩
def ING_TRIG_MIN_NS : Fld := ⟨.ING, 0x018, 31, 0, .RWS, 2000⟩
def ING_TRIG_MIN : RegDef := ⟨.ING, 0x018, 1, 0, 1, 0, .Y, false, [ING_TRIG_MIN_NS]⟩
def ING_LATE_WINDOW_NS : Fld := ⟨.ING, 0x01C, 31, 0, .RWS, 0xc350⟩
def ING_LATE_WINDOW : RegDef := ⟨.ING, 0x01C, 1, 0, 1, 0, .Y, false, [ING_LATE_WINDOW_NS]⟩
def ING_EXP_CENTRE_NS : Fld := ⟨.ING, 0x020, 31, 0, .RWS, 0⟩
def ING_EXP_CENTRE : RegDef := ⟨.ING, 0x020, 1, 0, 1, 0, .Y, false, [ING_EXP_CENTRE_NS]⟩
def ING_MD_OFFSET_LO_NM : Fld := ⟨.ING, 0x024, 31, 0, .RWS, 0⟩
def ING_MD_OFFSET_LO : RegDef := ⟨.ING, 0x024, 1, 0, 1, 0, .Y, true, [ING_MD_OFFSET_LO_NM]⟩
def ING_MD_OFFSET_HI_NM : Fld := ⟨.ING, 0x028, 31, 0, .RWS, 0⟩
def ING_MD_OFFSET_HI : RegDef := ⟨.ING, 0x028, 1, 0, 1, 0, .Y, false, [ING_MD_OFFSET_HI_NM]⟩
def ING_STATUS_RUNNING : Fld := ⟨.ING, 0x02C, 0, 0, .RO, 0⟩
def ING_STATUS_LINE_OPEN : Fld := ⟨.ING, 0x02C, 1, 1, .RO, 0⟩
def ING_STATUS_OUTSTANDING : Fld := ⟨.ING, 0x02C, 8, 2, .RO, 0⟩
def ING_STATUS_CAMSET_BUSY : Fld := ⟨.ING, 0x02C, 9, 9, .RO, 0⟩
def ING_STATUS_TUN_BUSY : Fld := ⟨.ING, 0x02C, 10, 10, .RO, 0⟩
def ING_STATUS_FORMAT_BAD : Fld := ⟨.ING, 0x02C, 11, 11, .RO, 0⟩
def ING_STATUS : RegDef := ⟨.ING, 0x02C, 1, 0, 1, 0, .C, false, [ING_STATUS_RUNNING, ING_STATUS_LINE_OPEN, ING_STATUS_OUTSTANDING, ING_STATUS_CAMSET_BUSY, ING_STATUS_TUN_BUSY, ING_STATUS_FORMAT_BAD]⟩
def ING_EVENT_SHED : Fld := ⟨.ING, 0x030, 0, 0, .W1C, 0⟩
def ING_EVENT_MISSING : Fld := ⟨.ING, 0x030, 1, 1, .W1C, 0⟩
def ING_EVENT_LATE : Fld := ⟨.ING, 0x030, 2, 2, .W1C, 0⟩
def ING_EVENT_SHORT : Fld := ⟨.ING, 0x030, 3, 3, .W1C, 0⟩
def ING_EVENT_LONG : Fld := ⟨.ING, 0x030, 4, 4, .W1C, 0⟩
def ING_EVENT_IMAGE_LEN : Fld := ⟨.ING, 0x030, 5, 5, .W1C, 0⟩
def ING_EVENT_UNSOLICITED : Fld := ⟨.ING, 0x030, 6, 6, .W1C, 0⟩
def ING_EVENT_FORMAT : Fld := ⟨.ING, 0x030, 7, 7, .W1C, 0⟩
def ING_EVENT_POISON : Fld := ⟨.ING, 0x030, 8, 8, .W1C, 0⟩
def ING_EVENT_EPOCH : Fld := ⟨.ING, 0x030, 9, 9, .W1C, 0⟩
def ING_EVENT_CAMSET_DONE : Fld := ⟨.ING, 0x030, 10, 10, .W1C, 0⟩
def ING_EVENT_TUN_DONE : Fld := ⟨.ING, 0x030, 11, 11, .W1C, 0⟩
def ING_EVENT_EVT : Fld := ⟨.ING, 0x030, 12, 12, .W1C, 0⟩
def ING_EVENT : RegDef := ⟨.ING, 0x030, 1, 0, 1, 0, .C, false, [ING_EVENT_SHED, ING_EVENT_MISSING, ING_EVENT_LATE, ING_EVENT_SHORT, ING_EVENT_LONG, ING_EVENT_IMAGE_LEN, ING_EVENT_UNSOLICITED, ING_EVENT_FORMAT, ING_EVENT_POISON, ING_EVENT_EPOCH, ING_EVENT_CAMSET_DONE, ING_EVENT_TUN_DONE, ING_EVENT_EVT]⟩
def ING_TRIG_INDEX_LO_INDEX : Fld := ⟨.ING, 0x034, 31, 0, .RO, 0⟩
def ING_TRIG_INDEX_LO : RegDef := ⟨.ING, 0x034, 1, 0, 1, 0, .C, true, [ING_TRIG_INDEX_LO_INDEX]⟩
def ING_TRIG_INDEX_HI_INDEX : Fld := ⟨.ING, 0x038, 15, 0, .RO, 0⟩
def ING_TRIG_INDEX_HI : RegDef := ⟨.ING, 0x038, 1, 0, 1, 0, .C, false, [ING_TRIG_INDEX_HI_INDEX]⟩
def ING_LINE_INDEX_LO_INDEX : Fld := ⟨.ING, 0x03C, 31, 0, .RO, 0⟩
def ING_LINE_INDEX_LO : RegDef := ⟨.ING, 0x03C, 1, 0, 1, 0, .C, true, [ING_LINE_INDEX_LO_INDEX]⟩
def ING_LINE_INDEX_HI_INDEX : Fld := ⟨.ING, 0x040, 15, 0, .RO, 0⟩
def ING_LINE_INDEX_HI : RegDef := ⟨.ING, 0x040, 1, 0, 1, 0, .C, false, [ING_LINE_INDEX_HI_INDEX]⟩
def ING_EPOCH_EPOCH : Fld := ⟨.ING, 0x044, 15, 0, .RO, 0⟩
def ING_EPOCH_PENDING : Fld := ⟨.ING, 0x044, 16, 16, .RO, 0⟩
def ING_EPOCH_UNCONFIRMED : Fld := ⟨.ING, 0x044, 17, 17, .RO, 0⟩
def ING_EPOCH : RegDef := ⟨.ING, 0x044, 1, 0, 1, 0, .C, false, [ING_EPOCH_EPOCH, ING_EPOCH_PENDING, ING_EPOCH_UNCONFIRMED]⟩
def ING_EPOCH_START_LO_LINE : Fld := ⟨.ING, 0x048, 31, 0, .RO, 0⟩
def ING_EPOCH_START_LO : RegDef := ⟨.ING, 0x048, 1, 0, 1, 0, .C, true, [ING_EPOCH_START_LO_LINE]⟩
def ING_EPOCH_START_HI_LINE : Fld := ⟨.ING, 0x04C, 15, 0, .RO, 0⟩
def ING_EPOCH_START_HI : RegDef := ⟨.ING, 0x04C, 1, 0, 1, 0, .C, false, [ING_EPOCH_START_HI_LINE]⟩
def ING_CNT_COUNT : Fld := ⟨.ING, 0x060, 31, 0, .RO, 0⟩
def ING_CNT : RegDef := ⟨.ING, 0x060, 12, 4, 1, 0, .C, false, [ING_CNT_COUNT]⟩
def ING_CAMSET_CTL_COUNT : Fld := ⟨.ING, 0x090, 2, 0, .RW, 0⟩
def ING_CAMSET_CTL_GO : Fld := ⟨.ING, 0x090, 3, 3, .WP, 0⟩
def ING_CAMSET_CTL_PROTECT : Fld := ⟨.ING, 0x090, 7, 4, .RW, 0⟩
def ING_CAMSET_CTL_TIMEOUT_MS : Fld := ⟨.ING, 0x090, 31, 16, .RW, 100⟩
def ING_CAMSET_CTL : RegDef := ⟨.ING, 0x090, 1, 0, 1, 0, .C, false, [ING_CAMSET_CTL_COUNT, ING_CAMSET_CTL_GO, ING_CAMSET_CTL_PROTECT, ING_CAMSET_CTL_TIMEOUT_MS]⟩
def ING_CAMSET_STATUS_BUSY : Fld := ⟨.ING, 0x094, 0, 0, .RO, 0⟩
def ING_CAMSET_STATUS_DONE : Fld := ⟨.ING, 0x094, 1, 1, .W1C, 0⟩
def ING_CAMSET_STATUS_ERR : Fld := ⟨.ING, 0x094, 2, 2, .W1C, 0⟩
def ING_CAMSET_STATUS_REFUSED : Fld := ⟨.ING, 0x094, 3, 3, .W1C, 0⟩
def ING_CAMSET_STATUS_FAILED_WRITE : Fld := ⟨.ING, 0x094, 6, 4, .RO, 0⟩
def ING_CAMSET_STATUS_TIMED_OUT : Fld := ⟨.ING, 0x094, 7, 7, .RO, 0⟩
def ING_CAMSET_STATUS_CAM_STATUS : Fld := ⟨.ING, 0x094, 15, 8, .RO, 0⟩
def ING_CAMSET_STATUS : RegDef := ⟨.ING, 0x094, 1, 0, 1, 0, .C, false, [ING_CAMSET_STATUS_BUSY, ING_CAMSET_STATUS_DONE, ING_CAMSET_STATUS_ERR, ING_CAMSET_STATUS_REFUSED, ING_CAMSET_STATUS_FAILED_WRITE, ING_CAMSET_STATUS_TIMED_OUT, ING_CAMSET_STATUS_CAM_STATUS]⟩
def ING_CAMSET_ADDR_ADDR : Fld := ⟨.ING, 0x0A0, 31, 0, .RW, 0⟩
def ING_CAMSET_ADDR : RegDef := ⟨.ING, 0x0A0, 4, 4, 1, 0, .C, false, [ING_CAMSET_ADDR_ADDR]⟩
def ING_CAMSET_VAL_VALUE : Fld := ⟨.ING, 0x0B0, 31, 0, .RW, 0⟩
def ING_CAMSET_VAL : RegDef := ⟨.ING, 0x0B0, 4, 4, 1, 0, .C, false, [ING_CAMSET_VAL_VALUE]⟩
def ING_TUN_CTL_GO : Fld := ⟨.ING, 0x0C0, 0, 0, .WP, 0⟩
def ING_TUN_CTL_WRITE : Fld := ⟨.ING, 0x0C0, 1, 1, .RW, 0⟩
def ING_TUN_CTL_WORDS : Fld := ⟨.ING, 0x0C0, 6, 2, .RW, 1⟩
def ING_TUN_CTL_TIMEOUT_MS : Fld := ⟨.ING, 0x0C0, 31, 16, .RW, 200⟩
def ING_TUN_CTL : RegDef := ⟨.ING, 0x0C0, 1, 0, 1, 0, .C, false, [ING_TUN_CTL_GO, ING_TUN_CTL_WRITE, ING_TUN_CTL_WORDS, ING_TUN_CTL_TIMEOUT_MS]⟩
def ING_TUN_STATUS_BUSY : Fld := ⟨.ING, 0x0C4, 0, 0, .RO, 0⟩
def ING_TUN_STATUS_DONE : Fld := ⟨.ING, 0x0C4, 1, 1, .W1C, 0⟩
def ING_TUN_STATUS_ERR : Fld := ⟨.ING, 0x0C4, 2, 2, .W1C, 0⟩
def ING_TUN_STATUS_PROTECTED : Fld := ⟨.ING, 0x0C4, 3, 3, .W1C, 0⟩
def ING_TUN_STATUS_TIMEOUT : Fld := ⟨.ING, 0x0C4, 4, 4, .W1C, 0⟩
def ING_TUN_STATUS_REFUSED : Fld := ⟨.ING, 0x0C4, 5, 5, .W1C, 0⟩
def ING_TUN_STATUS_CAM_STATUS : Fld := ⟨.ING, 0x0C4, 15, 8, .RO, 0⟩
def ING_TUN_STATUS : RegDef := ⟨.ING, 0x0C4, 1, 0, 1, 0, .C, false, [ING_TUN_STATUS_BUSY, ING_TUN_STATUS_DONE, ING_TUN_STATUS_ERR, ING_TUN_STATUS_PROTECTED, ING_TUN_STATUS_TIMEOUT, ING_TUN_STATUS_REFUSED, ING_TUN_STATUS_CAM_STATUS]⟩
def ING_TUN_ADDR_ADDR : Fld := ⟨.ING, 0x0C8, 31, 0, .RW, 0⟩
def ING_TUN_ADDR : RegDef := ⟨.ING, 0x0C8, 1, 0, 1, 0, .C, false, [ING_TUN_ADDR_ADDR]⟩
def ING_TUN_DATA_DATA : Fld := ⟨.ING, 0x100, 31, 0, .RW, 0⟩
def ING_TUN_DATA : RegDef := ⟨.ING, 0x100, 16, 4, 1, 0, .C, false, [ING_TUN_DATA_DATA]⟩
def ING_EVT_STATUS_COUNT : Fld := ⟨.ING, 0x140, 4, 0, .RO, 0⟩
def ING_EVT_STATUS_OVERFLOW : Fld := ⟨.ING, 0x140, 5, 5, .W1C, 0⟩
def ING_EVT_STATUS_BYTES : Fld := ⟨.ING, 0x140, 15, 8, .RO, 0⟩
def ING_EVT_STATUS_POP : Fld := ⟨.ING, 0x140, 31, 31, .WP, 0⟩
def ING_EVT_STATUS : RegDef := ⟨.ING, 0x140, 1, 0, 1, 0, .C, false, [ING_EVT_STATUS_COUNT, ING_EVT_STATUS_OVERFLOW, ING_EVT_STATUS_BYTES, ING_EVT_STATUS_POP]⟩
def ING_EVT_DATA_DATA : Fld := ⟨.ING, 0x180, 31, 0, .RO, 0⟩
def ING_EVT_DATA : RegDef := ⟨.ING, 0x180, 16, 4, 1, 0, .C, false, [ING_EVT_DATA_DATA]⟩
def tabING : List RegDef :=
  [ING_CFG, ING_STREAM, ING_PFNC, ING_LINE, ING_BLOCK, ING_TRIG, ING_TRIG_MIN, ING_LATE_WINDOW, ING_EXP_CENTRE, ING_MD_OFFSET_LO, ING_MD_OFFSET_HI, ING_STATUS, ING_EVENT, ING_TRIG_INDEX_LO, ING_TRIG_INDEX_HI, ING_LINE_INDEX_LO, ING_LINE_INDEX_HI, ING_EPOCH, ING_EPOCH_START_LO, ING_EPOCH_START_HI, ING_CNT, ING_CAMSET_CTL, ING_CAMSET_STATUS, ING_CAMSET_ADDR, ING_CAMSET_VAL, ING_TUN_CTL, ING_TUN_STATUS, ING_TUN_ADDR, ING_TUN_DATA, ING_EVT_STATUS, ING_EVT_DATA]

/-! ### TRU registers (spec/06_truing_and_regauge.md) -/

def TRU_CFG_CARRIAGE : Fld := ⟨.TRU, 0x000, 7, 0, .YH, 0⟩
def TRU_CFG_PLANES : Fld := ⟨.TRU, 0x000, 9, 8, .YH, 1⟩
def TRU_CFG_SAMPLE_BITS : Fld := ⟨.TRU, 0x000, 14, 10, .YH, 8⟩
def TRU_CFG_WIDTH : Fld := ⟨.TRU, 0x000, 31, 16, .YH, 0⟩
def TRU_CFG : RegDef := ⟨.TRU, 0x000, 1, 0, 1, 0, .H, false, [TRU_CFG_CARRIAGE, TRU_CFG_PLANES, TRU_CFG_SAMPLE_BITS, TRU_CFG_WIDTH]⟩
def TRU_CTL_MAP_EN : Fld := ⟨.TRU, 0x004, 0, 0, .RWS, 1⟩
def TRU_CTL_CURVE_EN : Fld := ⟨.TRU, 0x004, 1, 1, .RWS, 1⟩
def TRU_CTL : RegDef := ⟨.TRU, 0x004, 1, 0, 1, 0, .Y, false, [TRU_CTL_MAP_EN, TRU_CTL_CURVE_EN]⟩
def TRU_BANK_SEL : Fld := ⟨.TRU, 0x008, 0, 0, .RWS, 0⟩
def TRU_BANK : RegDef := ⟨.TRU, 0x008, 1, 0, 1, 0, .Y, false, [TRU_BANK_SEL]⟩
def TRU_TBL_CTL_BANK : Fld := ⟨.TRU, 0x00C, 0, 0, .RW, 0⟩
def TRU_TBL_CTL_LOAD : Fld := ⟨.TRU, 0x00C, 1, 1, .WP, 0⟩
def TRU_TBL_CTL_ABORT : Fld := ⟨.TRU, 0x00C, 2, 2, .WP, 0⟩
def TRU_TBL_CTL : RegDef := ⟨.TRU, 0x00C, 1, 0, 1, 0, .C, false, [TRU_TBL_CTL_BANK, TRU_TBL_CTL_LOAD, TRU_TBL_CTL_ABORT]⟩
def TRU_TBL_STATUS_BUSY : Fld := ⟨.TRU, 0x010, 0, 0, .RO, 0⟩
def TRU_TBL_STATUS_DONE : Fld := ⟨.TRU, 0x010, 1, 1, .W1C, 0⟩
def TRU_TBL_STATUS_ERR : Fld := ⟨.TRU, 0x010, 2, 2, .W1C, 0⟩
def TRU_TBL_STATUS_WWT_HOLD : Fld := ⟨.TRU, 0x010, 3, 3, .RO, 0⟩
def TRU_TBL_STATUS_ERR_CODE : Fld := ⟨.TRU, 0x010, 7, 4, .RO, 0⟩
def TRU_TBL_STATUS_VALID0 : Fld := ⟨.TRU, 0x010, 8, 8, .RO, 1⟩
def TRU_TBL_STATUS_VALID1 : Fld := ⟨.TRU, 0x010, 9, 9, .RO, 1⟩
def TRU_TBL_STATUS : RegDef := ⟨.TRU, 0x010, 1, 0, 1, 0, .C, false, [TRU_TBL_STATUS_BUSY, TRU_TBL_STATUS_DONE, TRU_TBL_STATUS_ERR, TRU_TBL_STATUS_WWT_HOLD, TRU_TBL_STATUS_ERR_CODE, TRU_TBL_STATUS_VALID0, TRU_TBL_STATUS_VALID1]⟩
def TRU_TBL_ADDR_LO_ADDR : Fld := ⟨.TRU, 0x014, 31, 6, .RW, 0⟩
def TRU_TBL_ADDR_LO : RegDef := ⟨.TRU, 0x014, 1, 0, 1, 0, .H, true, [TRU_TBL_ADDR_LO_ADDR]⟩
def TRU_TBL_ADDR_HI_ADDR : Fld := ⟨.TRU, 0x018, 9, 0, .RW, 0⟩
def TRU_TBL_ADDR_HI : RegDef := ⟨.TRU, 0x018, 1, 0, 1, 0, .H, false, [TRU_TBL_ADDR_HI_ADDR]⟩
def TRU_TBL_ID0_TABLE_ID : Fld := ⟨.TRU, 0x01C, 31, 0, .RO, 0⟩
def TRU_TBL_ID0 : RegDef := ⟨.TRU, 0x01C, 1, 0, 1, 0, .H, false, [TRU_TBL_ID0_TABLE_ID]⟩
def TRU_TBL_ID1_TABLE_ID : Fld := ⟨.TRU, 0x020, 31, 0, .RO, 0⟩
def TRU_TBL_ID1 : RegDef := ⟨.TRU, 0x020, 1, 0, 1, 0, .H, false, [TRU_TBL_ID1_TABLE_ID]⟩
def TRU_CURVE_B0_B1 : Fld := ⟨.TRU, 0x040, 15, 0, .RWS, 0⟩
def TRU_CURVE_B0_B2 : Fld := ⟨.TRU, 0x040, 31, 16, .RWS, 0⟩
def TRU_CURVE_B0 : RegDef := ⟨.TRU, 0x040, 1, 0, 3, 16, .Y, false, [TRU_CURVE_B0_B1, TRU_CURVE_B0_B2]⟩
def TRU_CURVE_S0_S0 : Fld := ⟨.TRU, 0x044, 15, 0, .RWS, 4096⟩
def TRU_CURVE_S0_S1 : Fld := ⟨.TRU, 0x044, 31, 16, .RWS, 4096⟩
def TRU_CURVE_S0 : RegDef := ⟨.TRU, 0x044, 1, 0, 3, 16, .Y, false, [TRU_CURVE_S0_S0, TRU_CURVE_S0_S1]⟩
def TRU_CURVE_T0_S2 : Fld := ⟨.TRU, 0x048, 15, 0, .RWS, 4096⟩
def TRU_CURVE_T0_O : Fld := ⟨.TRU, 0x048, 31, 16, .RWS, 0⟩
def TRU_CURVE_T0 : RegDef := ⟨.TRU, 0x048, 1, 0, 3, 16, .Y, false, [TRU_CURVE_T0_S2, TRU_CURVE_T0_O]⟩
def TRU_REF_FIRST : Fld := ⟨.TRU, 0x070, 14, 0, .RWS, 0⟩
def TRU_REF_COLUMNS : Fld := ⟨.TRU, 0x070, 26, 16, .RWS, 16⟩
def TRU_REF_AUTO : Fld := ⟨.TRU, 0x070, 31, 31, .RWS, 0⟩
def TRU_REF : RegDef := ⟨.TRU, 0x070, 1, 0, 1, 0, .Y, false, [TRU_REF_FIRST, TRU_REF_COLUMNS, TRU_REF_AUTO]⟩
def TRU_REF_CTL_LINES : Fld := ⟨.TRU, 0x074, 16, 0, .RWS, 4096⟩
def TRU_REF_CTL_TOL : Fld := ⟨.TRU, 0x074, 31, 24, .RWS, 10⟩
def TRU_REF_CTL : RegDef := ⟨.TRU, 0x074, 1, 0, 1, 0, .Y, false, [TRU_REF_CTL_LINES, TRU_REF_CTL_TOL]⟩
def TRU_REF_TARGET_TARGET : Fld := ⟨.TRU, 0x078, 15, 0, .RWS, 0x8000⟩
def TRU_REF_TARGET : RegDef := ⟨.TRU, 0x078, 3, 4, 1, 0, .Y, false, [TRU_REF_TARGET_TARGET]⟩
def TRU_GAIN_K_K : Fld := ⟨.TRU, 0x090, 31, 0, .RO, 0x40000000⟩
def TRU_GAIN_K : RegDef := ⟨.TRU, 0x090, 3, 4, 1, 0, .C, false, [TRU_GAIN_K_K]⟩
def TRU_GAIN_RESID_RESID : Fld := ⟨.TRU, 0x09C, 15, 0, .RO, 0⟩
def TRU_GAIN_RESID_RUNS : Fld := ⟨.TRU, 0x09C, 31, 16, .RO, 0⟩
def TRU_GAIN_RESID : RegDef := ⟨.TRU, 0x09C, 1, 0, 1, 0, .C, false, [TRU_GAIN_RESID_RESID, TRU_GAIN_RESID_RUNS]⟩
def TRU_EVENT_TBL_DONE : Fld := ⟨.TRU, 0x0A0, 0, 0, .W1C, 0⟩
def TRU_EVENT_TBL_ERR : Fld := ⟨.TRU, 0x0A0, 1, 1, .W1C, 0⟩
def TRU_EVENT_TBL_POISON : Fld := ⟨.TRU, 0x0A0, 2, 2, .W1C, 0⟩
def TRU_EVENT_CLIP : Fld := ⟨.TRU, 0x0A0, 3, 3, .W1C, 0⟩
def TRU_EVENT_POISON_FILL : Fld := ⟨.TRU, 0x0A0, 4, 4, .W1C, 0⟩
def TRU_EVENT_REF_DONE : Fld := ⟨.TRU, 0x0A0, 5, 5, .W1C, 0⟩
def TRU_EVENT_BANK_SWITCH : Fld := ⟨.TRU, 0x0A0, 6, 6, .W1C, 0⟩
def TRU_EVENT : RegDef := ⟨.TRU, 0x0A0, 1, 0, 1, 0, .C, false, [TRU_EVENT_TBL_DONE, TRU_EVENT_TBL_ERR, TRU_EVENT_TBL_POISON, TRU_EVENT_CLIP, TRU_EVENT_POISON_FILL, TRU_EVENT_REF_DONE, TRU_EVENT_BANK_SWITCH]⟩
def TRU_CLIP_LO_COUNT : Fld := ⟨.TRU, 0x0A4, 31, 0, .RO, 0⟩
def TRU_CLIP_LO : RegDef := ⟨.TRU, 0x0A4, 1, 0, 1, 0, .C, false, [TRU_CLIP_LO_COUNT]⟩
def TRU_CLIP_HI_COUNT : Fld := ⟨.TRU, 0x0A8, 31, 0, .RO, 0⟩
def TRU_CLIP_HI : RegDef := ⟨.TRU, 0x0A8, 1, 0, 1, 0, .C, false, [TRU_CLIP_HI_COUNT]⟩
def TRU_POISON_FILLS_COUNT : Fld := ⟨.TRU, 0x0AC, 31, 0, .RO, 0⟩
def TRU_POISON_FILLS : RegDef := ⟨.TRU, 0x0AC, 1, 0, 1, 0, .C, false, [TRU_POISON_FILLS_COUNT]⟩
def TRU_TBL_POISON_COUNT : Fld := ⟨.TRU, 0x0B0, 31, 0, .RO, 0⟩
def TRU_TBL_POISON : RegDef := ⟨.TRU, 0x0B0, 1, 0, 1, 0, .C, false, [TRU_TBL_POISON_COUNT]⟩
def TRU_REF_SUM_SUM : Fld := ⟨.TRU, 0x4000, 31, 0, .RO, 0⟩
def TRU_REF_SUM : RegDef := ⟨.TRU, 0x4000, 6144, 4, 1, 0, .C, true, [TRU_REF_SUM_SUM]⟩
def tabTRU : List RegDef :=
  [TRU_CFG, TRU_CTL, TRU_BANK, TRU_TBL_CTL, TRU_TBL_STATUS, TRU_TBL_ADDR_LO, TRU_TBL_ADDR_HI, TRU_TBL_ID0, TRU_TBL_ID1, TRU_CURVE_B0, TRU_CURVE_S0, TRU_CURVE_T0, TRU_REF, TRU_REF_CTL, TRU_REF_TARGET, TRU_GAIN_K, TRU_GAIN_RESID, TRU_EVENT, TRU_CLIP_LO, TRU_CLIP_HI, TRU_POISON_FILLS, TRU_TBL_POISON, TRU_REF_SUM]

/-! ### RGA registers (spec/06_truing_and_regauge.md) -/

def RGA_CFG_CARRIAGE : Fld := ⟨.RGA, 0x000, 7, 0, .YH, 0⟩
def RGA_CFG_PLANES_IN : Fld := ⟨.RGA, 0x000, 9, 8, .YH, 1⟩
def RGA_CFG_PLANES_OUT : Fld := ⟨.RGA, 0x000, 11, 10, .YH, 1⟩
def RGA_CFG_RB_ORDER : Fld := ⟨.RGA, 0x000, 12, 12, .RO, 0⟩
def RGA_CFG : RegDef := ⟨.RGA, 0x000, 1, 0, 1, 0, .H, false, [RGA_CFG_CARRIAGE, RGA_CFG_PLANES_IN, RGA_CFG_PLANES_OUT, RGA_CFG_RB_ORDER]⟩
def RGA_WIDTH_IN : Fld := ⟨.RGA, 0x004, 15, 0, .YH, 0⟩
def RGA_WIDTH_OUT : Fld := ⟨.RGA, 0x004, 31, 16, .YH, 0⟩
def RGA_WIDTH : RegDef := ⟨.RGA, 0x004, 1, 0, 1, 0, .H, false, [RGA_WIDTH_IN, RGA_WIDTH_OUT]⟩
def RGA_COLUMN_FIRST : Fld := ⟨.RGA, 0x008, 19, 0, .YH, 0⟩
def RGA_COLUMN : RegDef := ⟨.RGA, 0x008, 1, 0, 1, 0, .H, false, [RGA_COLUMN_FIRST]⟩
def RGA_BANK_SEL : Fld := ⟨.RGA, 0x00C, 0, 0, .RWS, 0⟩
def RGA_BANK : RegDef := ⟨.RGA, 0x00C, 1, 0, 1, 0, .Y, false, [RGA_BANK_SEL]⟩
def RGA_TBL_CTL_BANK : Fld := ⟨.RGA, 0x010, 0, 0, .RW, 0⟩
def RGA_TBL_CTL_LOAD : Fld := ⟨.RGA, 0x010, 1, 1, .WP, 0⟩
def RGA_TBL_CTL_ABORT : Fld := ⟨.RGA, 0x010, 2, 2, .WP, 0⟩
def RGA_TBL_CTL : RegDef := ⟨.RGA, 0x010, 1, 0, 1, 0, .C, false, [RGA_TBL_CTL_BANK, RGA_TBL_CTL_LOAD, RGA_TBL_CTL_ABORT]⟩
def RGA_TBL_STATUS_BUSY : Fld := ⟨.RGA, 0x014, 0, 0, .RO, 0⟩
def RGA_TBL_STATUS_DONE : Fld := ⟨.RGA, 0x014, 1, 1, .W1C, 0⟩
def RGA_TBL_STATUS_ERR : Fld := ⟨.RGA, 0x014, 2, 2, .W1C, 0⟩
def RGA_TBL_STATUS_ERR_CODE : Fld := ⟨.RGA, 0x014, 7, 4, .RO, 0⟩
def RGA_TBL_STATUS_VALID0 : Fld := ⟨.RGA, 0x014, 8, 8, .RO, 1⟩
def RGA_TBL_STATUS_VALID1 : Fld := ⟨.RGA, 0x014, 9, 9, .RO, 1⟩
def RGA_TBL_STATUS : RegDef := ⟨.RGA, 0x014, 1, 0, 1, 0, .C, false, [RGA_TBL_STATUS_BUSY, RGA_TBL_STATUS_DONE, RGA_TBL_STATUS_ERR, RGA_TBL_STATUS_ERR_CODE, RGA_TBL_STATUS_VALID0, RGA_TBL_STATUS_VALID1]⟩
def RGA_TBL_ADDR_LO_ADDR : Fld := ⟨.RGA, 0x018, 31, 6, .RW, 0⟩
def RGA_TBL_ADDR_LO : RegDef := ⟨.RGA, 0x018, 1, 0, 1, 0, .H, true, [RGA_TBL_ADDR_LO_ADDR]⟩
def RGA_TBL_ADDR_HI_ADDR : Fld := ⟨.RGA, 0x01C, 9, 0, .RW, 0⟩
def RGA_TBL_ADDR_HI : RegDef := ⟨.RGA, 0x01C, 1, 0, 1, 0, .H, false, [RGA_TBL_ADDR_HI_ADDR]⟩
def RGA_TBL_ID0_TABLE_ID : Fld := ⟨.RGA, 0x020, 31, 0, .RO, 0⟩
def RGA_TBL_ID0 : RegDef := ⟨.RGA, 0x020, 1, 0, 1, 0, .H, false, [RGA_TBL_ID0_TABLE_ID]⟩
def RGA_TBL_ID1_TABLE_ID : Fld := ⟨.RGA, 0x024, 31, 0, .RO, 0⟩
def RGA_TBL_ID1 : RegDef := ⟨.RGA, 0x024, 1, 0, 1, 0, .H, false, [RGA_TBL_ID1_TABLE_ID]⟩
def RGA_CD_START_LO_FRAC : Fld := ⟨.RGA, 0x030, 31, 0, .RWS, 0⟩
def RGA_CD_START_LO : RegDef := ⟨.RGA, 0x030, 1, 0, 1, 0, .Y, true, [RGA_CD_START_LO_FRAC]⟩
def RGA_CD_START_HI_INT : Fld := ⟨.RGA, 0x034, 15, 0, .RWS, 0⟩
def RGA_CD_START_HI : RegDef := ⟨.RGA, 0x034, 1, 0, 1, 0, .Y, false, [RGA_CD_START_HI_INT]⟩
def RGA_MD_CTL_MIN_STEP_NM : Fld := ⟨.RGA, 0x038, 19, 0, .RWS, 1⟩
def RGA_MD_CTL : RegDef := ⟨.RGA, 0x038, 1, 0, 1, 0, .Y, false, [RGA_MD_CTL_MIN_STEP_NM]⟩
def RGA_STATUS_RATIO : Fld := ⟨.RGA, 0x040, 15, 0, .RO, 0⟩
def RGA_STATUS_IN_HOLE : Fld := ⟨.RGA, 0x040, 16, 16, .RO, 0⟩
def RGA_STATUS : RegDef := ⟨.RGA, 0x040, 1, 0, 1, 0, .C, false, [RGA_STATUS_RATIO, RGA_STATUS_IN_HOLE]⟩
def RGA_EVENT_TBL_DONE : Fld := ⟨.RGA, 0x044, 0, 0, .W1C, 0⟩
def RGA_EVENT_TBL_ERR : Fld := ⟨.RGA, 0x044, 1, 1, .W1C, 0⟩
def RGA_EVENT_TBL_POISON : Fld := ⟨.RGA, 0x044, 2, 2, .W1C, 0⟩
def RGA_EVENT_BRIDGED : Fld := ⟨.RGA, 0x044, 3, 3, .W1C, 0⟩
def RGA_EVENT_HOLE : Fld := ⟨.RGA, 0x044, 4, 4, .W1C, 0⟩
def RGA_EVENT_BACK_LINE : Fld := ⟨.RGA, 0x044, 5, 5, .W1C, 0⟩
def RGA_EVENT_CLAMP : Fld := ⟨.RGA, 0x044, 6, 6, .W1C, 0⟩
def RGA_EVENT_OVERSPEED : Fld := ⟨.RGA, 0x044, 7, 7, .W1C, 0⟩
def RGA_EVENT_BANK_SWITCH : Fld := ⟨.RGA, 0x044, 8, 8, .W1C, 0⟩
def RGA_EVENT : RegDef := ⟨.RGA, 0x044, 1, 0, 1, 0, .C, false, [RGA_EVENT_TBL_DONE, RGA_EVENT_TBL_ERR, RGA_EVENT_TBL_POISON, RGA_EVENT_BRIDGED, RGA_EVENT_HOLE, RGA_EVENT_BACK_LINE, RGA_EVENT_CLAMP, RGA_EVENT_OVERSPEED, RGA_EVENT_BANK_SWITCH]⟩
def RGA_CNT_COUNT : Fld := ⟨.RGA, 0x048, 31, 0, .RO, 0⟩
def RGA_CNT : RegDef := ⟨.RGA, 0x048, 6, 4, 1, 0, .C, false, [RGA_CNT_COUNT]⟩
def RGA_OUT_LINES_LO_COUNT : Fld := ⟨.RGA, 0x060, 31, 0, .RO, 0⟩
def RGA_OUT_LINES_LO : RegDef := ⟨.RGA, 0x060, 1, 0, 1, 0, .C, true, [RGA_OUT_LINES_LO_COUNT]⟩
def RGA_OUT_LINES_HI_COUNT : Fld := ⟨.RGA, 0x064, 31, 0, .RO, 0⟩
def RGA_OUT_LINES_HI : RegDef := ⟨.RGA, 0x064, 1, 0, 1, 0, .C, false, [RGA_OUT_LINES_HI_COUNT]⟩
def tabRGA : List RegDef :=
  [RGA_CFG, RGA_WIDTH, RGA_COLUMN, RGA_BANK, RGA_TBL_CTL, RGA_TBL_STATUS, RGA_TBL_ADDR_LO, RGA_TBL_ADDR_HI, RGA_TBL_ID0, RGA_TBL_ID1, RGA_CD_START_LO, RGA_CD_START_HI, RGA_MD_CTL, RGA_STATUS, RGA_EVENT, RGA_CNT, RGA_OUT_LINES_LO, RGA_OUT_LINES_HI]

/-! ### CPL registers (spec/07_coupler_and_springs.md) -/

def CPL_CFG_LOW : Fld := ⟨.CPL, 0x000, 7, 0, .YH, 0⟩
def CPL_CFG_HIGH : Fld := ⟨.CPL, 0x000, 15, 8, .YH, 0⟩
def CPL_CFG_OVERLAP : Fld := ⟨.CPL, 0x000, 25, 16, .YH, 0⟩
def CPL_CFG_LINK : Fld := ⟨.CPL, 0x000, 27, 26, .YH, 3⟩
def CPL_CFG : RegDef := ⟨.CPL, 0x000, 1, 0, 2, 256, .H, false, [CPL_CFG_LOW, CPL_CFG_HIGH, CPL_CFG_OVERLAP, CPL_CFG_LINK]⟩
def CPL_BOUNDARY_B : Fld := ⟨.CPL, 0x004, 19, 0, .YH, 0⟩
def CPL_BOUNDARY : RegDef := ⟨.CPL, 0x004, 1, 0, 2, 256, .H, false, [CPL_BOUNDARY_B]⟩
def CPL_BLEND_RAMP : Fld := ⟨.CPL, 0x008, 8, 0, .RWS, 32⟩
def CPL_BLEND_PATH : Fld := ⟨.CPL, 0x008, 9, 9, .RWS, 0⟩
def CPL_BLEND_FIXED : Fld := ⟨.CPL, 0x008, 23, 16, .RWS, 0⟩
def CPL_BLEND : RegDef := ⟨.CPL, 0x008, 1, 0, 2, 256, .Y, false, [CPL_BLEND_RAMP, CPL_BLEND_PATH, CPL_BLEND_FIXED]⟩
def CPL_PATH_STEP : Fld := ⟨.CPL, 0x00C, 3, 0, .RWS, 2⟩
def CPL_PATH_PENALTY : Fld := ⟨.CPL, 0x00C, 31, 16, .RWS, 16⟩
def CPL_PATH : RegDef := ⟨.CPL, 0x00C, 1, 0, 2, 256, .Y, false, [CPL_PATH_STEP, CPL_PATH_PENALTY]⟩
def CPL_WAIT_LINES : Fld := ⟨.CPL, 0x010, 7, 0, .RWS, 16⟩
def CPL_WAIT : RegDef := ⟨.CPL, 0x010, 1, 0, 2, 256, .Y, false, [CPL_WAIT_LINES]⟩
def CPL_REG_CTL_ENABLE : Fld := ⟨.CPL, 0x014, 0, 0, .RWS, 1⟩
def CPL_REG_CTL_HALF : Fld := ⟨.CPL, 0x014, 9, 1, .RWS, 64⟩
def CPL_REG_CTL_LINES : Fld := ⟨.CPL, 0x014, 26, 10, .RWS, 4096⟩
def CPL_REG_CTL : RegDef := ⟨.CPL, 0x014, 1, 0, 2, 256, .Y, false, [CPL_REG_CTL_ENABLE, CPL_REG_CTL_HALF, CPL_REG_CTL_LINES]⟩
def CPL_REG_LIM_MIN_TEXTURE : Fld := ⟨.CPL, 0x018, 15, 0, .RWS, 256⟩
def CPL_REG_LIM_TOL : Fld := ⟨.CPL, 0x018, 23, 16, .RWS, 16⟩
def CPL_REG_LIM_DEAD : Fld := ⟨.CPL, 0x018, 31, 24, .RWS, 8⟩
def CPL_REG_LIM : RegDef := ⟨.CPL, 0x018, 1, 0, 2, 256, .Y, false, [CPL_REG_LIM_MIN_TEXTURE, CPL_REG_LIM_TOL, CPL_REG_LIM_DEAD]⟩
def CPL_STATUS_SEAM : Fld := ⟨.CPL, 0x01C, 7, 0, .RO, 0⟩
def CPL_STATUS_UNJOINED : Fld := ⟨.CPL, 0x01C, 8, 8, .RO, 0⟩
def CPL_STATUS_WAITING : Fld := ⟨.CPL, 0x01C, 9, 9, .RO, 0⟩
def CPL_STATUS_SHIFT_K : Fld := ⟨.CPL, 0x01C, 20, 16, .RO, 0⟩
def CPL_STATUS : RegDef := ⟨.CPL, 0x01C, 1, 0, 2, 256, .C, false, [CPL_STATUS_SEAM, CPL_STATUS_UNJOINED, CPL_STATUS_WAITING, CPL_STATUS_SHIFT_K]⟩
def CPL_EVENT_UNJOINED : Fld := ⟨.CPL, 0x020, 0, 0, .W1C, 0⟩
def CPL_EVENT_LATE : Fld := ⟨.CPL, 0x020, 1, 1, .W1C, 0⟩
def CPL_EVENT_REG_DONE : Fld := ⟨.CPL, 0x020, 2, 2, .W1C, 0⟩
def CPL_EVENT_REG_UNTEXTURED : Fld := ⟨.CPL, 0x020, 3, 3, .W1C, 0⟩
def CPL_EVENT_REG_RANGE : Fld := ⟨.CPL, 0x020, 4, 4, .W1C, 0⟩
def CPL_EVENT_POISON : Fld := ⟨.CPL, 0x020, 5, 5, .W1C, 0⟩
def CPL_EVENT_PATH_LIMIT : Fld := ⟨.CPL, 0x020, 6, 6, .W1C, 0⟩
def CPL_EVENT : RegDef := ⟨.CPL, 0x020, 1, 0, 2, 256, .C, false, [CPL_EVENT_UNJOINED, CPL_EVENT_LATE, CPL_EVENT_REG_DONE, CPL_EVENT_REG_UNTEXTURED, CPL_EVENT_REG_RANGE, CPL_EVENT_POISON, CPL_EVENT_PATH_LIMIT]⟩
def CPL_REG_CD_D : Fld := ⟨.CPL, 0x024, 31, 0, .RO, 0⟩
def CPL_REG_CD : RegDef := ⟨.CPL, 0x024, 1, 0, 2, 256, .C, false, [CPL_REG_CD_D]⟩
def CPL_REG_MD_D : Fld := ⟨.CPL, 0x028, 31, 0, .RO, 0⟩
def CPL_REG_MD : RegDef := ⟨.CPL, 0x028, 1, 0, 2, 256, .C, false, [CPL_REG_MD_D]⟩
def CPL_REG_USED_LINES : Fld := ⟨.CPL, 0x02C, 16, 0, .RO, 0⟩
def CPL_REG_USED_WINDOWS : Fld := ⟨.CPL, 0x02C, 31, 17, .RO, 0⟩
def CPL_REG_USED : RegDef := ⟨.CPL, 0x02C, 1, 0, 2, 256, .C, false, [CPL_REG_USED_LINES, CPL_REG_USED_WINDOWS]⟩
def CPL_RESID_RESID : Fld := ⟨.CPL, 0x030, 15, 0, .RO, 0⟩
def CPL_RESID_RUNS : Fld := ⟨.CPL, 0x030, 31, 16, .RO, 0⟩
def CPL_RESID : RegDef := ⟨.CPL, 0x030, 1, 0, 2, 256, .C, false, [CPL_RESID_RESID, CPL_RESID_RUNS]⟩
def CPL_CNT_COUNT : Fld := ⟨.CPL, 0x034, 31, 0, .RO, 0⟩
def CPL_CNT : RegDef := ⟨.CPL, 0x034, 4, 4, 2, 256, .C, false, [CPL_CNT_COUNT]⟩
def tabCPL : List RegDef :=
  [CPL_CFG, CPL_BOUNDARY, CPL_BLEND, CPL_PATH, CPL_WAIT, CPL_REG_CTL, CPL_REG_LIM, CPL_STATUS, CPL_EVENT, CPL_REG_CD, CPL_REG_MD, CPL_REG_USED, CPL_RESID, CPL_CNT]

/-! ### SPR registers (spec/07_coupler_and_springs.md) -/

def SPR_CFG_CARRIAGE : Fld := ⟨.SPR, 0x000, 7, 0, .YH, 0⟩
def SPR_CFG_FAST_LANE : Fld := ⟨.SPR, 0x000, 8, 8, .YH, 0⟩
def SPR_CFG_WIDTH : Fld := ⟨.SPR, 0x000, 31, 16, .YH, 0⟩
def SPR_CFG : RegDef := ⟨.SPR, 0x000, 1, 0, 1, 0, .H, false, [SPR_CFG_CARRIAGE, SPR_CFG_FAST_LANE, SPR_CFG_WIDTH]⟩
def SPR_CTL_RANK5 : Fld := ⟨.SPR, 0x004, 0, 0, .RWS, 0⟩
def SPR_CTL_TC_SHIFT : Fld := ⟨.SPR, 0x004, 5, 1, .RWS, 10⟩
def SPR_CTL_SMOOTH : Fld := ⟨.SPR, 0x004, 7, 6, .RWS, 0⟩
def SPR_CTL_TAPS : Fld := ⟨.SPR, 0x004, 11, 8, .RWS, 0⟩
def SPR_CTL_ACQ_MUTE : Fld := ⟨.SPR, 0x004, 12, 12, .RWS, 1⟩
def SPR_CTL : RegDef := ⟨.SPR, 0x004, 1, 0, 1, 0, .Y, false, [SPR_CTL_RANK5, SPR_CTL_TC_SHIFT, SPR_CTL_SMOOTH, SPR_CTL_TAPS, SPR_CTL_ACQ_MUTE]⟩
def SPR_BASE_ACQ_LINES : Fld := ⟨.SPR, 0x008, 12, 0, .RWS, 64⟩
def SPR_BASE_RESEED_GAP : Fld := ⟨.SPR, 0x008, 31, 16, .RWS, 64⟩
def SPR_BASE : RegDef := ⟨.SPR, 0x008, 1, 0, 1, 0, .Y, false, [SPR_BASE_ACQ_LINES, SPR_BASE_RESEED_GAP]⟩
def SPR_FREEZE_CLASS_MASK : Fld := ⟨.SPR, 0x00C, 3, 0, .RWS, 15⟩
def SPR_FREEZE_GROW : Fld := ⟨.SPR, 0x00C, 7, 4, .RWS, 2⟩
def SPR_FREEZE_HOLD : Fld := ⟨.SPR, 0x00C, 15, 8, .RWS, 8⟩
def SPR_FREEZE_MAX : Fld := ⟨.SPR, 0x00C, 31, 16, .RWS, 0x4000⟩
def SPR_FREEZE : RegDef := ⟨.SPR, 0x00C, 1, 0, 1, 0, .Y, false, [SPR_FREEZE_CLASS_MASK, SPR_FREEZE_GROW, SPR_FREEZE_HOLD, SPR_FREEZE_MAX]⟩
def SPR_REIN_FREEZE_LINES : Fld := ⟨.SPR, 0x010, 15, 0, .RWS, 1024⟩
def SPR_REIN_FREEZE : RegDef := ⟨.SPR, 0x010, 1, 0, 1, 0, .Y, false, [SPR_REIN_FREEZE_LINES]⟩
def SPR_FREEZE_CMD_FREEZE : Fld := ⟨.SPR, 0x014, 0, 0, .WP, 0⟩
def SPR_FREEZE_CMD_THAW : Fld := ⟨.SPR, 0x014, 1, 1, .WP, 0⟩
def SPR_FREEZE_CMD : RegDef := ⟨.SPR, 0x014, 1, 0, 1, 0, .C, false, [SPR_FREEZE_CMD_FREEZE, SPR_FREEZE_CMD_THAW]⟩
def SPR_STATUS_FEEDBACK : Fld := ⟨.SPR, 0x018, 5, 0, .RO, 2⟩
def SPR_STATUS_ACQUIRING : Fld := ⟨.SPR, 0x018, 6, 6, .RO, 0⟩
def SPR_STATUS_REIN_FROZEN : Fld := ⟨.SPR, 0x018, 7, 7, .RO, 0⟩
def SPR_STATUS_REMAIN : Fld := ⟨.SPR, 0x018, 23, 8, .RO, 0⟩
def SPR_STATUS : RegDef := ⟨.SPR, 0x018, 1, 0, 1, 0, .C, false, [SPR_STATUS_FEEDBACK, SPR_STATUS_ACQUIRING, SPR_STATUS_REIN_FROZEN, SPR_STATUS_REMAIN]⟩
def SPR_DELAY_NOMINAL : Fld := ⟨.SPR, 0x01C, 15, 0, .RO, 0⟩
def SPR_DELAY : RegDef := ⟨.SPR, 0x01C, 1, 0, 1, 0, .C, false, [SPR_DELAY_NOMINAL]⟩
def SPR_MD_SHIFT_NM : Fld := ⟨.SPR, 0x020, 31, 0, .RO, 0⟩
def SPR_MD_SHIFT : RegDef := ⟨.SPR, 0x020, 1, 0, 1, 0, .C, false, [SPR_MD_SHIFT_NM]⟩
def SPR_EVENT_ACQ_START : Fld := ⟨.SPR, 0x024, 0, 0, .W1C, 0⟩
def SPR_EVENT_ACQ_END : Fld := ⟨.SPR, 0x024, 1, 1, .W1C, 0⟩
def SPR_EVENT_REIN_FREEZE : Fld := ⟨.SPR, 0x024, 2, 2, .W1C, 0⟩
def SPR_EVENT_THAW : Fld := ⟨.SPR, 0x024, 3, 3, .W1C, 0⟩
def SPR_EVENT_STUCK : Fld := ⟨.SPR, 0x024, 4, 4, .W1C, 0⟩
def SPR_EVENT_SATURATE : Fld := ⟨.SPR, 0x024, 5, 5, .W1C, 0⟩
def SPR_EVENT_POISON : Fld := ⟨.SPR, 0x024, 6, 6, .W1C, 0⟩
def SPR_EVENT_DELAY_SHIFT : Fld := ⟨.SPR, 0x024, 7, 7, .W1C, 0⟩
def SPR_EVENT : RegDef := ⟨.SPR, 0x024, 1, 0, 1, 0, .C, false, [SPR_EVENT_ACQ_START, SPR_EVENT_ACQ_END, SPR_EVENT_REIN_FREEZE, SPR_EVENT_THAW, SPR_EVENT_STUCK, SPR_EVENT_SATURATE, SPR_EVENT_POISON, SPR_EVENT_DELAY_SHIFT]⟩
def SPR_CNT_COUNT : Fld := ⟨.SPR, 0x028, 31, 0, .RO, 0⟩
def SPR_CNT : RegDef := ⟨.SPR, 0x028, 6, 4, 1, 0, .C, false, [SPR_CNT_COUNT]⟩
def SPR_COEF_C : Fld := ⟨.SPR, 0x040, 15, 0, .RWS, 0⟩
def SPR_COEF : RegDef := ⟨.SPR, 0x040, 16, 4, 1, 0, .Y, false, [SPR_COEF_C]⟩
def SPR_BASELINE_B : Fld := ⟨.SPR, 0x4000, 31, 0, .RO, 0⟩
def SPR_BASELINE : RegDef := ⟨.SPR, 0x4000, 17408, 4, 1, 0, .C, false, [SPR_BASELINE_B]⟩
def tabSPR : List RegDef :=
  [SPR_CFG, SPR_CTL, SPR_BASE, SPR_FREEZE, SPR_REIN_FREEZE, SPR_FREEZE_CMD, SPR_STATUS, SPR_DELAY, SPR_MD_SHIFT, SPR_EVENT, SPR_CNT, SPR_COEF, SPR_BASELINE]

/-! ### SEG registers (spec/08_segmentation_and_records.md) -/

def SEG_CFG_CARRIAGE : Fld := ⟨.SEG, 0x000, 7, 0, .YH, 0⟩
def SEG_CFG_WIDTH : Fld := ⟨.SEG, 0x000, 31, 16, .YH, 0⟩
def SEG_CFG : RegDef := ⟨.SEG, 0x000, 1, 0, 1, 0, .H, false, [SEG_CFG_CARRIAGE, SEG_CFG_WIDTH]⟩
def SEG_OWNED_FIRST : Fld := ⟨.SEG, 0x004, 15, 0, .YH, 0⟩
def SEG_OWNED_COUNT : Fld := ⟨.SEG, 0x004, 31, 16, .YH, 0⟩
def SEG_OWNED : RegDef := ⟨.SEG, 0x004, 1, 0, 1, 0, .H, false, [SEG_OWNED_FIRST, SEG_OWNED_COUNT]⟩
def SEG_CTL_CONTRAST_EN : Fld := ⟨.SEG, 0x008, 0, 0, .RWS, 0⟩
def SEG_CTL : RegDef := ⟨.SEG, 0x008, 1, 0, 1, 0, .Y, false, [SEG_CTL_CONTRAST_EN]⟩
def SEG_CLASS_ENABLE : Fld := ⟨.SEG, 0x010, 0, 0, .RWS, 0⟩
def SEG_CLASS_POLARITY : Fld := ⟨.SEG, 0x010, 1, 1, .RWS, 0⟩
def SEG_CLASS_CONTRAST : Fld := ⟨.SEG, 0x010, 2, 2, .RWS, 0⟩
def SEG_CLASS : RegDef := ⟨.SEG, 0x010, 4, 4, 1, 0, .Y, false, [SEG_CLASS_ENABLE, SEG_CLASS_POLARITY, SEG_CLASS_CONTRAST]⟩
def SEG_THR_LOW : Fld := ⟨.SEG, 0x020, 14, 0, .RWS, 128⟩
def SEG_THR_HIGH : Fld := ⟨.SEG, 0x020, 30, 16, .RWS, 256⟩
def SEG_THR : RegDef := ⟨.SEG, 0x020, 4, 4, 1, 0, .Y, false, [SEG_THR_LOW, SEG_THR_HIGH]⟩
def SEG_STATUS_RUNS : Fld := ⟨.SEG, 0x030, 15, 0, .RO, 0⟩
def SEG_STATUS : RegDef := ⟨.SEG, 0x030, 1, 0, 1, 0, .C, false, [SEG_STATUS_RUNS]⟩
def SEG_EVENT_FOREGROUND : Fld := ⟨.SEG, 0x034, 0, 0, .W1C, 0⟩
def SEG_EVENT_SATURATE : Fld := ⟨.SEG, 0x034, 1, 1, .W1C, 0⟩
def SEG_EVENT : RegDef := ⟨.SEG, 0x034, 1, 0, 1, 0, .C, false, [SEG_EVENT_FOREGROUND, SEG_EVENT_SATURATE]⟩
def SEG_CNT_COUNT : Fld := ⟨.SEG, 0x038, 31, 0, .RO, 0⟩
def SEG_CNT : RegDef := ⟨.SEG, 0x038, 3, 4, 1, 0, .C, false, [SEG_CNT_COUNT]⟩
def tabSEG : List RegDef :=
  [SEG_CFG, SEG_OWNED, SEG_CTL, SEG_CLASS, SEG_THR, SEG_STATUS, SEG_EVENT, SEG_CNT]

/-! ### LBL registers (spec/08_segmentation_and_records.md) -/

def LBL_CFG_CARRIAGE : Fld := ⟨.LBL, 0x000, 7, 0, .YH, 0⟩
def LBL_CFG_SEAM_LOW : Fld := ⟨.LBL, 0x000, 8, 8, .YH, 0⟩
def LBL_CFG_SEAM_HIGH : Fld := ⟨.LBL, 0x000, 9, 9, .YH, 0⟩
def LBL_CFG : RegDef := ⟨.LBL, 0x000, 1, 0, 1, 0, .H, false, [LBL_CFG_CARRIAGE, LBL_CFG_SEAM_LOW, LBL_CFG_SEAM_HIGH]⟩
def LBL_CTL_CLOSE_K : Fld := ⟨.LBL, 0x004, 4, 0, .RWS, 2⟩
def LBL_CTL : RegDef := ⟨.LBL, 0x004, 1, 0, 1, 0, .Y, false, [LBL_CTL_CLOSE_K]⟩
def LBL_STATUS_OPEN : Fld := ⟨.LBL, 0x008, 16, 0, .RO, 0⟩
def LBL_STATUS_EXCLUDED : Fld := ⟨.LBL, 0x008, 17, 17, .RO, 0⟩
def LBL_STATUS : RegDef := ⟨.LBL, 0x008, 1, 0, 1, 0, .C, false, [LBL_STATUS_OPEN, LBL_STATUS_EXCLUDED]⟩
def LBL_EVENT_FULL : Fld := ⟨.LBL, 0x00C, 0, 0, .W1C, 0⟩
def LBL_EVENT_GAP_CLOSE : Fld := ⟨.LBL, 0x00C, 1, 1, .W1C, 0⟩
def LBL_EVENT_CUT : Fld := ⟨.LBL, 0x00C, 2, 2, .W1C, 0⟩
def LBL_EVENT_LAG_FLUSH : Fld := ⟨.LBL, 0x00C, 3, 3, .W1C, 0⟩
def LBL_EVENT_DISCARD : Fld := ⟨.LBL, 0x00C, 4, 4, .W1C, 0⟩
def LBL_EVENT : RegDef := ⟨.LBL, 0x00C, 1, 0, 1, 0, .C, false, [LBL_EVENT_FULL, LBL_EVENT_GAP_CLOSE, LBL_EVENT_CUT, LBL_EVENT_LAG_FLUSH, LBL_EVENT_DISCARD]⟩
def LBL_FRONTIER_LO_LINE : Fld := ⟨.LBL, 0x010, 31, 0, .RO, 0⟩
def LBL_FRONTIER_LO : RegDef := ⟨.LBL, 0x010, 1, 0, 1, 0, .C, true, [LBL_FRONTIER_LO_LINE]⟩
def LBL_FRONTIER_HI_LINE : Fld := ⟨.LBL, 0x014, 31, 0, .RO, 0⟩
def LBL_FRONTIER_HI : RegDef := ⟨.LBL, 0x014, 1, 0, 1, 0, .C, false, [LBL_FRONTIER_HI_LINE]⟩
def LBL_CNT_COUNT : Fld := ⟨.LBL, 0x020, 31, 0, .RO, 0⟩
def LBL_CNT : RegDef := ⟨.LBL, 0x020, 5, 4, 1, 0, .C, false, [LBL_CNT_COUNT]⟩
def tabLBL : List RegDef :=
  [LBL_CFG, LBL_CTL, LBL_STATUS, LBL_EVENT, LBL_FRONTIER_LO, LBL_FRONTIER_HI, LBL_CNT]

/-! ### DBM registers (spec/08_segmentation_and_records.md) -/

def DBM_CFG_COACH : Fld := ⟨.DBM, 0x000, 2, 0, .YH, 0⟩
def DBM_CFG_LIVE : Fld := ⟨.DBM, 0x000, 3, 3, .YH, 0⟩
def DBM_CFG : RegDef := ⟨.DBM, 0x000, 1, 0, 1, 0, .H, false, [DBM_CFG_COACH, DBM_CFG_LIVE]⟩
def DBM_CONT_LINES : Fld := ⟨.DBM, 0x004, 20, 0, .RWS, 0x10000⟩
def DBM_CONT : RegDef := ⟨.DBM, 0x004, 1, 0, 1, 0, .Y, false, [DBM_CONT_LINES]⟩
def DBM_SUMMARY_LINES : Fld := ⟨.DBM, 0x008, 16, 0, .RWS, 4096⟩
def DBM_SUMMARY_ALWAYS : Fld := ⟨.DBM, 0x008, 31, 31, .RWS, 0⟩
def DBM_SUMMARY : RegDef := ⟨.DBM, 0x008, 1, 0, 1, 0, .Y, false, [DBM_SUMMARY_LINES, DBM_SUMMARY_ALWAYS]⟩
def DBM_LAG_LINES : Fld := ⟨.DBM, 0x00C, 16, 0, .RWS, 4096⟩
def DBM_LAG : RegDef := ⟨.DBM, 0x00C, 1, 0, 1, 0, .Y, false, [DBM_LAG_LINES]⟩
def DBM_OPEN_SETS : Fld := ⟨.DBM, 0x010, 17, 0, .RO, 0⟩
def DBM_OPEN : RegDef := ⟨.DBM, 0x010, 1, 0, 1, 0, .C, false, [DBM_OPEN_SETS]⟩
def DBM_FRONTIER_LO_LINE : Fld := ⟨.DBM, 0x014, 31, 0, .RO, 0⟩
def DBM_FRONTIER_LO : RegDef := ⟨.DBM, 0x014, 1, 0, 1, 0, .C, true, [DBM_FRONTIER_LO_LINE]⟩
def DBM_FRONTIER_HI_LINE : Fld := ⟨.DBM, 0x018, 31, 0, .RO, 0⟩
def DBM_FRONTIER_HI : RegDef := ⟨.DBM, 0x018, 1, 0, 1, 0, .C, false, [DBM_FRONTIER_HI_LINE]⟩
def DBM_Q_BASE_LO_ADDR : Fld := ⟨.DBM, 0x01C, 31, 6, .YH, 0⟩
def DBM_Q_BASE_LO : RegDef := ⟨.DBM, 0x01C, 1, 0, 1, 0, .H, true, [DBM_Q_BASE_LO_ADDR]⟩
def DBM_Q_BASE_HI_ADDR : Fld := ⟨.DBM, 0x020, 9, 0, .YH, 0⟩
def DBM_Q_BASE_HI : RegDef := ⟨.DBM, 0x020, 1, 0, 1, 0, .H, false, [DBM_Q_BASE_HI_ADDR]⟩
def DBM_Q_SLOTS_S : Fld := ⟨.DBM, 0x024, 31, 0, .YH, 0⟩
def DBM_Q_SLOTS : RegDef := ⟨.DBM, 0x024, 1, 0, 1, 0, .H, false, [DBM_Q_SLOTS_S]⟩
def DBM_Q_DEPTH_D : Fld := ⟨.DBM, 0x028, 31, 0, .YH, 0⟩
def DBM_Q_DEPTH : RegDef := ⟨.DBM, 0x028, 1, 0, 1, 0, .H, false, [DBM_Q_DEPTH_D]⟩
def DBM_Q_IRQ_RECORDS : Fld := ⟨.DBM, 0x02C, 31, 0, .RW, 1⟩
def DBM_Q_IRQ : RegDef := ⟨.DBM, 0x02C, 1, 0, 1, 0, .H, false, [DBM_Q_IRQ_RECORDS]⟩
def DBM_SEQ_LO_SEQ : Fld := ⟨.DBM, 0x030, 31, 0, .RO, 0⟩
def DBM_SEQ_LO : RegDef := ⟨.DBM, 0x030, 1, 0, 1, 0, .P, true, [DBM_SEQ_LO_SEQ]⟩
def DBM_SEQ_HI_SEQ : Fld := ⟨.DBM, 0x034, 31, 0, .RO, 0⟩
def DBM_SEQ_HI : RegDef := ⟨.DBM, 0x034, 1, 0, 1, 0, .P, false, [DBM_SEQ_HI_SEQ]⟩
def DBM_ACK_LO_SEQ : Fld := ⟨.DBM, 0x038, 31, 0, .RW, 0⟩
def DBM_ACK_LO : RegDef := ⟨.DBM, 0x038, 1, 0, 1, 0, .P, true, [DBM_ACK_LO_SEQ]⟩
def DBM_ACK_HI_SEQ : Fld := ⟨.DBM, 0x03C, 31, 0, .RW, 0⟩
def DBM_ACK_HI : RegDef := ⟨.DBM, 0x03C, 1, 0, 1, 0, .P, false, [DBM_ACK_HI_SEQ]⟩
def DBM_RSEQ_LO_SEQ : Fld := ⟨.DBM, 0x300, 31, 0, .RO, 0⟩
def DBM_RSEQ_LO : RegDef := ⟨.DBM, 0x300, 1, 0, 6, 16, .H, true, [DBM_RSEQ_LO_SEQ]⟩
def DBM_RSEQ_HI_SEQ : Fld := ⟨.DBM, 0x304, 31, 0, .RO, 0⟩
def DBM_RSEQ_HI : RegDef := ⟨.DBM, 0x304, 1, 0, 6, 16, .H, false, [DBM_RSEQ_HI_SEQ]⟩
def DBM_RACK_LO_SEQ : Fld := ⟨.DBM, 0x308, 31, 0, .RW, 0⟩
def DBM_RACK_LO : RegDef := ⟨.DBM, 0x308, 1, 0, 6, 16, .H, true, [DBM_RACK_LO_SEQ]⟩
def DBM_RACK_HI_SEQ : Fld := ⟨.DBM, 0x30C, 31, 0, .RW, 0⟩
def DBM_RACK_HI : RegDef := ⟨.DBM, 0x30C, 1, 0, 6, 16, .H, false, [DBM_RACK_HI_SEQ]⟩
def DBM_SHED_CLASSES : Fld := ⟨.DBM, 0x050, 3, 0, .RO, 0⟩
def DBM_SHED_FOLDING : Fld := ⟨.DBM, 0x050, 4, 4, .RO, 0⟩
def DBM_SHED_BUFFER : Fld := ⟨.DBM, 0x050, 31, 16, .RO, 0⟩
def DBM_SHED : RegDef := ⟨.DBM, 0x050, 1, 0, 1, 0, .C, false, [DBM_SHED_CLASSES, DBM_SHED_FOLDING, DBM_SHED_BUFFER]⟩
def DBM_EVENT_QUEUE : Fld := ⟨.DBM, 0x054, 0, 0, .W1C, 0⟩
def DBM_EVENT_SHED : Fld := ⟨.DBM, 0x054, 1, 1, .W1C, 0⟩
def DBM_EVENT_LAG : Fld := ⟨.DBM, 0x054, 2, 2, .W1C, 0⟩
def DBM_EVENT_REJOIN : Fld := ⟨.DBM, 0x054, 3, 3, .W1C, 0⟩
def DBM_EVENT_FULL : Fld := ⟨.DBM, 0x054, 4, 4, .W1C, 0⟩
def DBM_EVENT_FOLD : Fld := ⟨.DBM, 0x054, 5, 5, .W1C, 0⟩
def DBM_EVENT_MARK_DROP : Fld := ⟨.DBM, 0x054, 6, 6, .W1C, 0⟩
def DBM_EVENT : RegDef := ⟨.DBM, 0x054, 1, 0, 1, 0, .C, false, [DBM_EVENT_QUEUE, DBM_EVENT_SHED, DBM_EVENT_LAG, DBM_EVENT_REJOIN, DBM_EVENT_FULL, DBM_EVENT_FOLD, DBM_EVENT_MARK_DROP]⟩
def DBM_LAGGING_LO_MASK : Fld := ⟨.DBM, 0x058, 31, 0, .RO, 0⟩
def DBM_LAGGING_LO : RegDef := ⟨.DBM, 0x058, 1, 0, 1, 0, .C, true, [DBM_LAGGING_LO_MASK]⟩
def DBM_LAGGING_HI_MASK : Fld := ⟨.DBM, 0x05C, 15, 0, .RO, 0⟩
def DBM_LAGGING_HI : RegDef := ⟨.DBM, 0x05C, 1, 0, 1, 0, .C, false, [DBM_LAGGING_HI_MASK]⟩
def DBM_CNT_COUNT : Fld := ⟨.DBM, 0x060, 31, 0, .RO, 0⟩
def DBM_CNT : RegDef := ⟨.DBM, 0x060, 10, 4, 1, 0, .C, false, [DBM_CNT_COUNT]⟩
def DBM_MARK_CTL_ENABLE : Fld := ⟨.DBM, 0x100, 0, 0, .RWS, 0⟩
def DBM_MARK_CTL_CLASS_MASK : Fld := ⟨.DBM, 0x100, 4, 1, .RWS, 0⟩
def DBM_MARK_CTL_REF : Fld := ⟨.DBM, 0x100, 6, 5, .RWS, 0⟩
def DBM_MARK_CTL_PATH : Fld := ⟨.DBM, 0x100, 8, 7, .RWS, 0⟩
def DBM_MARK_CTL_UNIT : Fld := ⟨.DBM, 0x100, 12, 9, .RWS, 0⟩
def DBM_MARK_CTL_MARKER : Fld := ⟨.DBM, 0x100, 16, 13, .RWS, 0⟩
def DBM_MARK_CTL_FIRST_ONLY : Fld := ⟨.DBM, 0x100, 17, 17, .RWS, 1⟩
def DBM_MARK_CTL : RegDef := ⟨.DBM, 0x100, 16, 16, 1, 0, .Y, false, [DBM_MARK_CTL_ENABLE, DBM_MARK_CTL_CLASS_MASK, DBM_MARK_CTL_REF, DBM_MARK_CTL_PATH, DBM_MARK_CTL_UNIT, DBM_MARK_CTL_MARKER, DBM_MARK_CTL_FIRST_ONLY]⟩
def DBM_MARK_COLS_FIRST : Fld := ⟨.DBM, 0x104, 15, 0, .RWS, 0⟩
def DBM_MARK_COLS_LAST : Fld := ⟨.DBM, 0x104, 31, 16, .RWS, 0xffff⟩
def DBM_MARK_COLS : RegDef := ⟨.DBM, 0x104, 16, 16, 1, 0, .Y, false, [DBM_MARK_COLS_FIRST, DBM_MARK_COLS_LAST]⟩
def DBM_MARK_OFFSET_LO_NM : Fld := ⟨.DBM, 0x108, 31, 0, .RWS, 0⟩
def DBM_MARK_OFFSET_LO : RegDef := ⟨.DBM, 0x108, 16, 16, 1, 0, .Y, true, [DBM_MARK_OFFSET_LO_NM]⟩
def DBM_MARK_OFFSET_HI_NM : Fld := ⟨.DBM, 0x10C, 31, 0, .RWS, 0⟩
def DBM_MARK_OFFSET_HI : RegDef := ⟨.DBM, 0x10C, 16, 16, 1, 0, .Y, false, [DBM_MARK_OFFSET_HI_NM]⟩
def DBM_MARK_CNT_ACTIONS : Fld := ⟨.DBM, 0x200, 15, 0, .RO, 0⟩
def DBM_MARK_CNT_DROPS : Fld := ⟨.DBM, 0x200, 31, 16, .RO, 0⟩
def DBM_MARK_CNT : RegDef := ⟨.DBM, 0x200, 1, 0, 1, 0, .C, false, [DBM_MARK_CNT_ACTIONS, DBM_MARK_CNT_DROPS]⟩
def tabDBM : List RegDef :=
  [DBM_CFG, DBM_CONT, DBM_SUMMARY, DBM_LAG, DBM_OPEN, DBM_FRONTIER_LO, DBM_FRONTIER_HI, DBM_Q_BASE_LO, DBM_Q_BASE_HI, DBM_Q_SLOTS, DBM_Q_DEPTH, DBM_Q_IRQ, DBM_SEQ_LO, DBM_SEQ_HI, DBM_ACK_LO, DBM_ACK_HI, DBM_RSEQ_LO, DBM_RSEQ_HI, DBM_RACK_LO, DBM_RACK_HI, DBM_SHED, DBM_EVENT, DBM_LAGGING_LO, DBM_LAGGING_HI, DBM_CNT, DBM_MARK_CTL, DBM_MARK_COLS, DBM_MARK_OFFSET_LO, DBM_MARK_OFFSET_HI, DBM_MARK_CNT]

/-! ### STA registers (spec/04_camera_streams.md) -/

def STA_CFG_CARRIAGE : Fld := ⟨.STA, 0x000, 7, 0, .YH, 0⟩
def STA_CFG_PLANES : Fld := ⟨.STA, 0x000, 9, 8, .YH, 1⟩
def STA_CFG_TAP : Fld := ⟨.STA, 0x000, 10, 10, .YH, 0⟩
def STA_CFG_SAMPLE_BITS : Fld := ⟨.STA, 0x000, 20, 16, .YH, 8⟩
def STA_CFG : RegDef := ⟨.STA, 0x000, 1, 0, 1, 0, .H, false, [STA_CFG_CARRIAGE, STA_CFG_PLANES, STA_CFG_TAP, STA_CFG_SAMPLE_BITS]⟩
def STA_CTL_ENABLE : Fld := ⟨.STA, 0x004, 0, 0, .RWS, 0⟩
def STA_CTL_BINS : Fld := ⟨.STA, 0x004, 1, 1, .RWS, 0⟩
def STA_CTL_ZONES : Fld := ⟨.STA, 0x004, 8, 2, .RWS, 0⟩
def STA_CTL : RegDef := ⟨.STA, 0x004, 1, 0, 1, 0, .Y, false, [STA_CTL_ENABLE, STA_CTL_BINS, STA_CTL_ZONES]⟩
def STA_BLOCK_BLOCK_LINES : Fld := ⟨.STA, 0x008, 16, 0, .RWS, 4096⟩
def STA_BLOCK : RegDef := ⟨.STA, 0x008, 1, 0, 1, 0, .Y, false, [STA_BLOCK_BLOCK_LINES]⟩
def STA_ZONE_FIRST : Fld := ⟨.STA, 0x00C, 14, 0, .RWS, 0⟩
def STA_ZONE_WIDTH : Fld := ⟨.STA, 0x00C, 31, 16, .RWS, 0⟩
def STA_ZONE : RegDef := ⟨.STA, 0x00C, 1, 0, 1, 0, .Y, false, [STA_ZONE_FIRST, STA_ZONE_WIDTH]⟩
def STA_RING_BASE_LO_ADDR : Fld := ⟨.STA, 0x010, 31, 6, .RW, 0⟩
def STA_RING_BASE_LO : RegDef := ⟨.STA, 0x010, 1, 0, 1, 0, .H, true, [STA_RING_BASE_LO_ADDR]⟩
def STA_RING_BASE_HI_ADDR : Fld := ⟨.STA, 0x014, 9, 0, .RW, 0⟩
def STA_RING_BASE_HI : RegDef := ⟨.STA, 0x014, 1, 0, 1, 0, .H, false, [STA_RING_BASE_HI_ADDR]⟩
def STA_RING_SLOTS_SLOTS : Fld := ⟨.STA, 0x018, 15, 0, .RW, 0⟩
def STA_RING_SLOTS : RegDef := ⟨.STA, 0x018, 1, 0, 1, 0, .H, false, [STA_RING_SLOTS_SLOTS]⟩
def STA_SLOT_SIZE_BYTES : Fld := ⟨.STA, 0x01C, 31, 0, .RO, 64⟩
def STA_SLOT_SIZE : RegDef := ⟨.STA, 0x01C, 1, 0, 1, 0, .Y, false, [STA_SLOT_SIZE_BYTES]⟩
def STA_RING_WRITE_SLOT : Fld := ⟨.STA, 0x020, 15, 0, .RO, 0⟩
def STA_RING_WRITE : RegDef := ⟨.STA, 0x020, 1, 0, 1, 0, .H, false, [STA_RING_WRITE_SLOT]⟩
def STA_RING_READ_SLOT : Fld := ⟨.STA, 0x024, 15, 0, .RW, 0⟩
def STA_RING_READ : RegDef := ⟨.STA, 0x024, 1, 0, 1, 0, .H, false, [STA_RING_READ_SLOT]⟩
def STA_STATUS_OPEN : Fld := ⟨.STA, 0x028, 0, 0, .RO, 0⟩
def STA_STATUS_LINES : Fld := ⟨.STA, 0x028, 31, 16, .RO, 0⟩
def STA_STATUS : RegDef := ⟨.STA, 0x028, 1, 0, 1, 0, .C, false, [STA_STATUS_OPEN, STA_STATUS_LINES]⟩
def STA_EVENT_CLOSED : Fld := ⟨.STA, 0x02C, 0, 0, .W1C, 0⟩
def STA_EVENT_SHORT : Fld := ⟨.STA, 0x02C, 1, 1, .W1C, 0⟩
def STA_EVENT_INCOMPLETE : Fld := ⟨.STA, 0x02C, 2, 2, .W1C, 0⟩
def STA_EVENT_DROPPED : Fld := ⟨.STA, 0x02C, 3, 3, .W1C, 0⟩
def STA_EVENT : RegDef := ⟨.STA, 0x02C, 1, 0, 1, 0, .C, false, [STA_EVENT_CLOSED, STA_EVENT_SHORT, STA_EVENT_INCOMPLETE, STA_EVENT_DROPPED]⟩
def STA_DROPPED_COUNT : Fld := ⟨.STA, 0x030, 31, 0, .RO, 0⟩
def STA_DROPPED : RegDef := ⟨.STA, 0x030, 1, 0, 1, 0, .C, false, [STA_DROPPED_COUNT]⟩
def STA_BLOCKS_COUNT : Fld := ⟨.STA, 0x034, 31, 0, .RO, 0⟩
def STA_BLOCKS : RegDef := ⟨.STA, 0x034, 1, 0, 1, 0, .C, false, [STA_BLOCKS_COUNT]⟩
def tabSTA : List RegDef :=
  [STA_CFG, STA_CTL, STA_BLOCK, STA_ZONE, STA_RING_BASE_LO, STA_RING_BASE_HI, STA_RING_SLOTS, STA_SLOT_SIZE, STA_RING_WRITE, STA_RING_READ, STA_STATUS, STA_EVENT, STA_DROPPED, STA_BLOCKS]

/-! ### PAT registers (spec/08_segmentation_and_records.md) -/

def PAT_CFG_COACH : Fld := ⟨.PAT, 0x000, 2, 0, .YH, 0⟩
def PAT_CFG_INSTANCE : Fld := ⟨.PAT, 0x000, 3, 3, .YH, 0⟩
def PAT_CFG : RegDef := ⟨.PAT, 0x000, 1, 0, 1, 0, .H, false, [PAT_CFG_COACH, PAT_CFG_INSTANCE]⟩
def PAT_CTL_ENABLE : Fld := ⟨.PAT, 0x004, 0, 0, .RWS, 0⟩
def PAT_CTL_CLASS_MASK : Fld := ⟨.PAT, 0x004, 4, 1, .RWS, 15⟩
def PAT_CTL_FIRST_ONLY : Fld := ⟨.PAT, 0x004, 5, 5, .RWS, 0⟩
def PAT_CTL_MARGIN : Fld := ⟨.PAT, 0x004, 15, 8, .RWS, 16⟩
def PAT_CTL : RegDef := ⟨.PAT, 0x004, 1, 0, 1, 0, .Y, false, [PAT_CTL_ENABLE, PAT_CTL_CLASS_MASK, PAT_CTL_FIRST_ONLY, PAT_CTL_MARGIN]⟩
def PAT_RING_BASE_LO_ADDR : Fld := ⟨.PAT, 0x008, 31, 6, .RW, 0⟩
def PAT_RING_BASE_LO : RegDef := ⟨.PAT, 0x008, 1, 0, 1, 0, .H, true, [PAT_RING_BASE_LO_ADDR]⟩
def PAT_RING_BASE_HI_ADDR : Fld := ⟨.PAT, 0x00C, 9, 0, .RW, 0⟩
def PAT_RING_BASE_HI : RegDef := ⟨.PAT, 0x00C, 1, 0, 1, 0, .H, false, [PAT_RING_BASE_HI_ADDR]⟩
def PAT_RING_SLOTS_SLOTS : Fld := ⟨.PAT, 0x010, 15, 0, .RW, 0⟩
def PAT_RING_SLOTS : RegDef := ⟨.PAT, 0x010, 1, 0, 1, 0, .H, false, [PAT_RING_SLOTS_SLOTS]⟩
def PAT_SLOT_SIZE_BYTES : Fld := ⟨.PAT, 0x014, 23, 6, .RW, 2048⟩
def PAT_SLOT_SIZE : RegDef := ⟨.PAT, 0x014, 1, 0, 1, 0, .H, false, [PAT_SLOT_SIZE_BYTES]⟩
def PAT_RING_WRITE_SLOT : Fld := ⟨.PAT, 0x018, 15, 0, .RO, 0⟩
def PAT_RING_WRITE : RegDef := ⟨.PAT, 0x018, 1, 0, 1, 0, .H, false, [PAT_RING_WRITE_SLOT]⟩
def PAT_RING_READ_SLOT : Fld := ⟨.PAT, 0x01C, 15, 0, .RW, 0⟩
def PAT_RING_READ : RegDef := ⟨.PAT, 0x01C, 1, 0, 1, 0, .H, false, [PAT_RING_READ_SLOT]⟩
def PAT_STATUS_PENDING : Fld := ⟨.PAT, 0x020, 10, 0, .RO, 0⟩
def PAT_STATUS : RegDef := ⟨.PAT, 0x020, 1, 0, 1, 0, .C, false, [PAT_STATUS_PENDING]⟩
def PAT_EVENT_WRITTEN : Fld := ⟨.PAT, 0x024, 0, 0, .W1C, 0⟩
def PAT_EVENT_CLIPPED : Fld := ⟨.PAT, 0x024, 1, 1, .W1C, 0⟩
def PAT_EVENT_SHED : Fld := ⟨.PAT, 0x024, 2, 2, .W1C, 0⟩
def PAT_EVENT_LOST : Fld := ⟨.PAT, 0x024, 3, 3, .W1C, 0⟩
def PAT_EVENT : RegDef := ⟨.PAT, 0x024, 1, 0, 1, 0, .C, false, [PAT_EVENT_WRITTEN, PAT_EVENT_CLIPPED, PAT_EVENT_SHED, PAT_EVENT_LOST]⟩
def PAT_CNT_COUNT : Fld := ⟨.PAT, 0x028, 31, 0, .RO, 0⟩
def PAT_CNT : RegDef := ⟨.PAT, 0x028, 5, 4, 1, 0, .C, false, [PAT_CNT_COUNT]⟩
def tabPAT : List RegDef :=
  [PAT_CFG, PAT_CTL, PAT_RING_BASE_LO, PAT_RING_BASE_HI, PAT_RING_SLOTS, PAT_SLOT_SIZE, PAT_RING_WRITE, PAT_RING_READ, PAT_STATUS, PAT_EVENT, PAT_CNT]

/-! ### PMT registers (spec/09_portmanteau_archive_preview.md) -/

def PMT_CFG_COACH : Fld := ⟨.PMT, 0x000, 2, 0, .YH, 0⟩
def PMT_CFG_INSTANCE : Fld := ⟨.PMT, 0x000, 4, 3, .YH, 0⟩
def PMT_CFG_BOUND : Fld := ⟨.PMT, 0x000, 8, 5, .YH, 0⟩
def PMT_CFG : RegDef := ⟨.PMT, 0x000, 1, 0, 1, 0, .H, false, [PMT_CFG_COACH, PMT_CFG_INSTANCE, PMT_CFG_BOUND]⟩
def PMT_STATUS_JOB_BUSY : Fld := ⟨.PMT, 0x004, 0, 0, .RO, 0⟩
def PMT_STATUS_LOAD : Fld := ⟨.PMT, 0x004, 15, 8, .RO, 0⟩
def PMT_STATUS : RegDef := ⟨.PMT, 0x004, 1, 0, 1, 0, .C, false, [PMT_STATUS_JOB_BUSY, PMT_STATUS_LOAD]⟩
def PMT_EVENT_REFUSED : Fld := ⟨.PMT, 0x008, 0, 0, .W1C, 0⟩
def PMT_EVENT_LOST : Fld := ⟨.PMT, 0x008, 1, 1, .W1C, 0⟩
def PMT_EVENT_SKIP : Fld := ⟨.PMT, 0x008, 2, 2, .W1C, 0⟩
def PMT_EVENT_PINNED : Fld := ⟨.PMT, 0x008, 3, 3, .W1C, 0⟩
def PMT_EVENT_JOB_DONE : Fld := ⟨.PMT, 0x008, 4, 4, .W1C, 0⟩
def PMT_EVENT_JOB_ERR : Fld := ⟨.PMT, 0x008, 5, 5, .W1C, 0⟩
def PMT_EVENT_CRC : Fld := ⟨.PMT, 0x008, 6, 6, .W1C, 0⟩
def PMT_EVENT_OVERRUN : Fld := ⟨.PMT, 0x008, 7, 7, .W1C, 0⟩
def PMT_EVENT : RegDef := ⟨.PMT, 0x008, 1, 0, 1, 0, .C, false, [PMT_EVENT_REFUSED, PMT_EVENT_LOST, PMT_EVENT_SKIP, PMT_EVENT_PINNED, PMT_EVENT_JOB_DONE, PMT_EVENT_JOB_ERR, PMT_EVENT_CRC, PMT_EVENT_OVERRUN]⟩
def PMT_CNT_COUNT : Fld := ⟨.PMT, 0x010, 31, 0, .RO, 0⟩
def PMT_CNT : RegDef := ⟨.PMT, 0x010, 7, 4, 1, 0, .C, false, [PMT_CNT_COUNT]⟩
def PMT_ARC_CFG_CARRIAGE : Fld := ⟨.PMT, 0x100, 7, 0, .YH, 255⟩
def PMT_ARC_CFG_SAMPLE_BITS : Fld := ⟨.PMT, 0x100, 12, 8, .YH, 8⟩
def PMT_ARC_CFG_GROUPS : Fld := ⟨.PMT, 0x100, 24, 16, .YH, 0⟩
def PMT_ARC_CFG : RegDef := ⟨.PMT, 0x100, 1, 0, 4, 64, .H, false, [PMT_ARC_CFG_CARRIAGE, PMT_ARC_CFG_SAMPLE_BITS, PMT_ARC_CFG_GROUPS]⟩
def PMT_ARC_CTL_ENABLE : Fld := ⟨.PMT, 0x104, 0, 0, .RWS, 1⟩
def PMT_ARC_CTL_BUDGET : Fld := ⟨.PMT, 0x104, 2, 1, .RWS, 1⟩
def PMT_ARC_CTL_PIN_EN : Fld := ⟨.PMT, 0x104, 3, 3, .RW, 0⟩
def PMT_ARC_CTL : RegDef := ⟨.PMT, 0x104, 1, 0, 4, 64, .Y, false, [PMT_ARC_CTL_ENABLE, PMT_ARC_CTL_BUDGET, PMT_ARC_CTL_PIN_EN]⟩
def PMT_ARC_PIN_ROW : Fld := ⟨.PMT, 0x108, 31, 0, .RW, 0⟩
def PMT_ARC_PIN : RegDef := ⟨.PMT, 0x108, 1, 0, 4, 64, .C, false, [PMT_ARC_PIN_ROW]⟩
def PMT_ARC_NEXT_ROW : Fld := ⟨.PMT, 0x10C, 31, 0, .RO, 0⟩
def PMT_ARC_NEXT : RegDef := ⟨.PMT, 0x10C, 1, 0, 4, 64, .C, false, [PMT_ARC_NEXT_ROW]⟩
def PMT_ARC_OLDEST_ROW : Fld := ⟨.PMT, 0x110, 31, 0, .RO, 0⟩
def PMT_ARC_OLDEST : RegDef := ⟨.PMT, 0x110, 1, 0, 4, 64, .C, false, [PMT_ARC_OLDEST_ROW]⟩
def PMT_ARC_WRITE_OFFSET : Fld := ⟨.PMT, 0x114, 31, 0, .RO, 0⟩
def PMT_ARC_WRITE : RegDef := ⟨.PMT, 0x114, 1, 0, 4, 64, .C, false, [PMT_ARC_WRITE_OFFSET]⟩
def PMT_PART_LO_ADDR : Fld := ⟨.PMT, 0x118, 31, 6, .YH, 0⟩
def PMT_PART_LO : RegDef := ⟨.PMT, 0x118, 3, 4, 4, 64, .H, false, [PMT_PART_LO_ADDR]⟩
def PMT_PART_HI_ADDR : Fld := ⟨.PMT, 0x124, 9, 0, .YH, 0⟩
def PMT_PART_HI : RegDef := ⟨.PMT, 0x124, 3, 4, 4, 64, .H, false, [PMT_PART_HI_ADDR]⟩
def PMT_PART_SIZE_SIZE : Fld := ⟨.PMT, 0x130, 31, 0, .YH, 0⟩
def PMT_PART_SIZE : RegDef := ⟨.PMT, 0x130, 3, 4, 4, 64, .H, false, [PMT_PART_SIZE_SIZE]⟩
def PMT_OVF_NEXT_SEQ : Fld := ⟨.PMT, 0x13C, 31, 0, .RO, 1⟩
def PMT_OVF_NEXT : RegDef := ⟨.PMT, 0x13C, 1, 0, 4, 64, .C, false, [PMT_OVF_NEXT_SEQ]⟩
def PMT_JOB_CTL_GO : Fld := ⟨.PMT, 0x400, 0, 0, .WP, 0⟩
def PMT_JOB_CTL_ABORT : Fld := ⟨.PMT, 0x400, 1, 1, .WP, 0⟩
def PMT_JOB_CTL_DEST : Fld := ⟨.PMT, 0x400, 2, 2, .RW, 0⟩
def PMT_JOB_CTL_SOURCE : Fld := ⟨.PMT, 0x400, 15, 8, .RW, 0⟩
def PMT_JOB_CTL_TARGET : Fld := ⟨.PMT, 0x400, 23, 16, .RW, 0⟩
def PMT_JOB_CTL : RegDef := ⟨.PMT, 0x400, 1, 0, 1, 0, .C, false, [PMT_JOB_CTL_GO, PMT_JOB_CTL_ABORT, PMT_JOB_CTL_DEST, PMT_JOB_CTL_SOURCE, PMT_JOB_CTL_TARGET]⟩
def PMT_JOB_STATUS_BUSY : Fld := ⟨.PMT, 0x404, 0, 0, .RO, 0⟩
def PMT_JOB_STATUS_DONE : Fld := ⟨.PMT, 0x404, 1, 1, .W1C, 0⟩
def PMT_JOB_STATUS_ERR : Fld := ⟨.PMT, 0x404, 2, 2, .W1C, 0⟩
def PMT_JOB_STATUS_HEAD_LOST : Fld := ⟨.PMT, 0x404, 3, 3, .RO, 0⟩
def PMT_JOB_STATUS_OVERRUN : Fld := ⟨.PMT, 0x404, 4, 4, .RO, 0⟩
def PMT_JOB_STATUS_CRC : Fld := ⟨.PMT, 0x404, 5, 5, .RO, 0⟩
def PMT_JOB_STATUS_ERR_CODE : Fld := ⟨.PMT, 0x404, 11, 8, .RO, 0⟩
def PMT_JOB_STATUS : RegDef := ⟨.PMT, 0x404, 1, 0, 1, 0, .C, false, [PMT_JOB_STATUS_BUSY, PMT_JOB_STATUS_DONE, PMT_JOB_STATUS_ERR, PMT_JOB_STATUS_HEAD_LOST, PMT_JOB_STATUS_OVERRUN, PMT_JOB_STATUS_CRC, PMT_JOB_STATUS_ERR_CODE]⟩
def PMT_JOB_FROM_LO_NM : Fld := ⟨.PMT, 0x408, 31, 0, .RW, 0⟩
def PMT_JOB_FROM_LO : RegDef := ⟨.PMT, 0x408, 1, 0, 1, 0, .C, true, [PMT_JOB_FROM_LO_NM]⟩
def PMT_JOB_FROM_HI_NM : Fld := ⟨.PMT, 0x40C, 31, 0, .RW, 0⟩
def PMT_JOB_FROM_HI : RegDef := ⟨.PMT, 0x40C, 1, 0, 1, 0, .C, false, [PMT_JOB_FROM_HI_NM]⟩
def PMT_JOB_TO_LO_NM : Fld := ⟨.PMT, 0x410, 31, 0, .RW, 0⟩
def PMT_JOB_TO_LO : RegDef := ⟨.PMT, 0x410, 1, 0, 1, 0, .C, true, [PMT_JOB_TO_LO_NM]⟩
def PMT_JOB_TO_HI_NM : Fld := ⟨.PMT, 0x414, 31, 0, .RW, 0⟩
def PMT_JOB_TO_HI : RegDef := ⟨.PMT, 0x414, 1, 0, 1, 0, .C, false, [PMT_JOB_TO_HI_NM]⟩
def PMT_JOB_DST_LO_ADDR : Fld := ⟨.PMT, 0x418, 31, 6, .RW, 0⟩
def PMT_JOB_DST_LO : RegDef := ⟨.PMT, 0x418, 1, 0, 1, 0, .C, true, [PMT_JOB_DST_LO_ADDR]⟩
def PMT_JOB_DST_HI_ADDR : Fld := ⟨.PMT, 0x41C, 9, 0, .RW, 0⟩
def PMT_JOB_DST_HI : RegDef := ⟨.PMT, 0x41C, 1, 0, 1, 0, .C, false, [PMT_JOB_DST_HI_ADDR]⟩
def PMT_JOB_DST_LEN_UNITS : Fld := ⟨.PMT, 0x420, 31, 0, .RW, 0⟩
def PMT_JOB_DST_LEN : RegDef := ⟨.PMT, 0x420, 1, 0, 1, 0, .C, false, [PMT_JOB_DST_LEN_UNITS]⟩
def PMT_JOB_LINES_LINES : Fld := ⟨.PMT, 0x424, 31, 0, .RO, 0⟩
def PMT_JOB_LINES : RegDef := ⟨.PMT, 0x424, 1, 0, 1, 0, .C, false, [PMT_JOB_LINES_LINES]⟩
def tabPMT : List RegDef :=
  [PMT_CFG, PMT_STATUS, PMT_EVENT, PMT_CNT, PMT_ARC_CFG, PMT_ARC_CTL, PMT_ARC_PIN, PMT_ARC_NEXT, PMT_ARC_OLDEST, PMT_ARC_WRITE, PMT_PART_LO, PMT_PART_HI, PMT_PART_SIZE, PMT_OVF_NEXT, PMT_JOB_CTL, PMT_JOB_STATUS, PMT_JOB_FROM_LO, PMT_JOB_FROM_HI, PMT_JOB_TO_LO, PMT_JOB_TO_HI, PMT_JOB_DST_LO, PMT_JOB_DST_HI, PMT_JOB_DST_LEN, PMT_JOB_LINES]

/-! ### PVW registers (spec/09_portmanteau_archive_preview.md) -/

def PVW_CFG_COACH : Fld := ⟨.PVW, 0x000, 2, 0, .YH, 0⟩
def PVW_CFG_INSTANCE : Fld := ⟨.PVW, 0x000, 3, 3, .YH, 0⟩
def PVW_CFG_PLANES : Fld := ⟨.PVW, 0x000, 5, 4, .YH, 1⟩
def PVW_CFG : RegDef := ⟨.PVW, 0x000, 1, 0, 1, 0, .H, false, [PVW_CFG_COACH, PVW_CFG_INSTANCE, PVW_CFG_PLANES]⟩
def PVW_CTL_ENABLE : Fld := ⟨.PVW, 0x004, 0, 0, .RWS, 0⟩
def PVW_CTL_VIEW : Fld := ⟨.PVW, 0x004, 3, 1, .RWS, 0⟩
def PVW_CTL_DEST : Fld := ⟨.PVW, 0x004, 4, 4, .RWS, 0⟩
def PVW_CTL_RATE : Fld := ⟨.PVW, 0x004, 10, 5, .RWS, 30⟩
def PVW_CTL_ROWS : Fld := ⟨.PVW, 0x004, 17, 11, .RWS, 16⟩
def PVW_CTL : RegDef := ⟨.PVW, 0x004, 1, 0, 1, 0, .Y, false, [PVW_CTL_ENABLE, PVW_CTL_VIEW, PVW_CTL_DEST, PVW_CTL_RATE, PVW_CTL_ROWS]⟩
def PVW_SCALE_CD : Fld := ⟨.PVW, 0x008, 14, 0, .RWS, 256⟩
def PVW_SCALE_MD : Fld := ⟨.PVW, 0x008, 30, 16, .RWS, 256⟩
def PVW_SCALE : RegDef := ⟨.PVW, 0x008, 1, 0, 1, 0, .Y, false, [PVW_SCALE_CD, PVW_SCALE_MD]⟩
def PVW_FIRST_COLUMN : Fld := ⟨.PVW, 0x00C, 19, 0, .RWS, 0⟩
def PVW_FIRST : RegDef := ⟨.PVW, 0x00C, 1, 0, 1, 0, .Y, false, [PVW_FIRST_COLUMN]⟩
def PVW_LAST_COLUMN : Fld := ⟨.PVW, 0x010, 19, 0, .RWS, 0⟩
def PVW_LAST : RegDef := ⟨.PVW, 0x010, 1, 0, 1, 0, .Y, false, [PVW_LAST_COLUMN]⟩
def PVW_MAP_BLACK : Fld := ⟨.PVW, 0x014, 15, 0, .RWS, 0⟩
def PVW_MAP_GAIN : Fld := ⟨.PVW, 0x014, 31, 16, .RWS, 256⟩
def PVW_MAP : RegDef := ⟨.PVW, 0x014, 1, 0, 1, 0, .Y, false, [PVW_MAP_BLACK, PVW_MAP_GAIN]⟩
def PVW_NET_LANE_LANE : Fld := ⟨.PVW, 0x018, 6, 0, .RW, 0⟩
def PVW_NET_LANE_PAYLOAD : Fld := ⟨.PVW, 0x018, 15, 8, .RW, 22⟩
def PVW_NET_LANE : RegDef := ⟨.PVW, 0x018, 1, 0, 1, 0, .H, false, [PVW_NET_LANE_LANE, PVW_NET_LANE_PAYLOAD]⟩
def PVW_NET_IP_ADDR : Fld := ⟨.PVW, 0x01C, 31, 0, .RW, 0⟩
def PVW_NET_IP : RegDef := ⟨.PVW, 0x01C, 1, 0, 1, 0, .H, false, [PVW_NET_IP_ADDR]⟩
def PVW_NET_PORT_DST : Fld := ⟨.PVW, 0x020, 15, 0, .RW, 0⟩
def PVW_NET_PORT_SRC : Fld := ⟨.PVW, 0x020, 31, 16, .RW, 0⟩
def PVW_NET_PORT : RegDef := ⟨.PVW, 0x020, 1, 0, 1, 0, .H, false, [PVW_NET_PORT_DST, PVW_NET_PORT_SRC]⟩
def PVW_NET_MAC_LO_MAC : Fld := ⟨.PVW, 0x024, 31, 0, .RW, 0⟩
def PVW_NET_MAC_LO : RegDef := ⟨.PVW, 0x024, 1, 0, 1, 0, .H, true, [PVW_NET_MAC_LO_MAC]⟩
def PVW_NET_MAC_HI_MAC : Fld := ⟨.PVW, 0x028, 15, 0, .RW, 0⟩
def PVW_NET_MAC_HI : RegDef := ⟨.PVW, 0x028, 1, 0, 1, 0, .H, false, [PVW_NET_MAC_HI_MAC]⟩
def PVW_RING_BASE_LO_ADDR : Fld := ⟨.PVW, 0x02C, 31, 6, .RW, 0⟩
def PVW_RING_BASE_LO : RegDef := ⟨.PVW, 0x02C, 1, 0, 1, 0, .H, true, [PVW_RING_BASE_LO_ADDR]⟩
def PVW_RING_BASE_HI_ADDR : Fld := ⟨.PVW, 0x030, 9, 0, .RW, 0⟩
def PVW_RING_BASE_HI : RegDef := ⟨.PVW, 0x030, 1, 0, 1, 0, .H, false, [PVW_RING_BASE_HI_ADDR]⟩
def PVW_RING_SLOTS : Fld := ⟨.PVW, 0x034, 15, 0, .RW, 0⟩
def PVW_RING_SLOT_SIZE : Fld := ⟨.PVW, 0x034, 31, 16, .RW, 0⟩
def PVW_RING : RegDef := ⟨.PVW, 0x034, 1, 0, 1, 0, .H, false, [PVW_RING_SLOTS, PVW_RING_SLOT_SIZE]⟩
def PVW_RING_PTR_WRITE : Fld := ⟨.PVW, 0x038, 15, 0, .RO, 0⟩
def PVW_RING_PTR_READ : Fld := ⟨.PVW, 0x038, 31, 16, .RW, 0⟩
def PVW_RING_PTR : RegDef := ⟨.PVW, 0x038, 1, 0, 1, 0, .H, false, [PVW_RING_PTR_WRITE, PVW_RING_PTR_READ]⟩
def PVW_STATUS_STRIP : Fld := ⟨.PVW, 0x03C, 31, 0, .RO, 0⟩
def PVW_STATUS : RegDef := ⟨.PVW, 0x03C, 1, 0, 1, 0, .C, false, [PVW_STATUS_STRIP]⟩
def PVW_EVENT_SENT : Fld := ⟨.PVW, 0x040, 0, 0, .W1C, 0⟩
def PVW_EVENT_DROPPED : Fld := ⟨.PVW, 0x040, 1, 1, .W1C, 0⟩
def PVW_EVENT_GAP : Fld := ⟨.PVW, 0x040, 2, 2, .W1C, 0⟩
def PVW_EVENT : RegDef := ⟨.PVW, 0x040, 1, 0, 1, 0, .C, false, [PVW_EVENT_SENT, PVW_EVENT_DROPPED, PVW_EVENT_GAP]⟩
def PVW_CNT_COUNT : Fld := ⟨.PVW, 0x044, 31, 0, .RO, 0⟩
def PVW_CNT : RegDef := ⟨.PVW, 0x044, 3, 4, 1, 0, .C, false, [PVW_CNT_COUNT]⟩
def tabPVW : List RegDef :=
  [PVW_CFG, PVW_CTL, PVW_SCALE, PVW_FIRST, PVW_LAST, PVW_MAP, PVW_NET_LANE, PVW_NET_IP, PVW_NET_PORT, PVW_NET_MAC_LO, PVW_NET_MAC_HI, PVW_RING_BASE_LO, PVW_RING_BASE_HI, PVW_RING, PVW_RING_PTR, PVW_STATUS, PVW_EVENT, PVW_CNT]

/-- The register table of one block. -/
def table : Blk → List RegDef
  | .GLB => tabGLB
  | .HDR => tabHDR
  | .YOK => tabYOK
  | .OUT => tabOUT
  | .PST => tabPST
  | .LCH => tabLCH
  | .TMT => tabTMT
  | .WAY => tabWAY
  | .PWR => tabPWR
  | .CLK => tabCLK
  | .PAI => tabPAI
  | .RNG => tabRNG
  | .REI => tabREI
  | .BKL => tabBKL
  | .WHT => tabWHT
  | .DRY => tabDRY
  | .MEW => tabMEW
  | .DMC => tabDMC
  | .WWT => tabWWT
  | .LAN => tabLAN
  | .ING => tabING
  | .TRU => tabTRU
  | .RGA => tabRGA
  | .CPL => tabCPL
  | .SPR => tabSPR
  | .SEG => tabSEG
  | .LBL => tabLBL
  | .DBM => tabDBM
  | .STA => tabSTA
  | .PAT => tabPAT
  | .PMT => tabPMT
  | .PVW => tabPVW

end Sys2Proof.Machine.Reg
end

