-- ==== Sys2Proof/Machine/Data/Archive.lean ====
section
/-! DEFINITION. The archive streams, decode jobs and preview scalers beyond their registers (R273 to R298). -/

namespace Sys2Proof.Machine

/-- The open row of a carriage's archive stream (R280), oldest line first, when its last line came, what the row's index entry says came
before it, and the same for the row after it. -/
structure ArcStream where
  lines : List Line
  since : Nat
  rowSkip : Bool
  rowGap : Bool
  nextSkip : Bool
  nextGap : Bool
  deriving DecidableEq, Repr

/-- A stream with no open row. -/
def ArcStream.fresh : ArcStream := ⟨[], 0, false, false, false, false⟩

/-- A decoded line: its 32-byte tag, its samples in archive order, the poisoned ones. -/
structure ArcLine where
  tag : List Byte
  samples : List Nat
  poison : List Nat
  deriving DecidableEq, Repr

/-- A decode job (R285): its settings as they stood at GO, the row it reads next, decoded lines that wait, the bytes written, the last
trigger number and tag delivered, and the code with which it will end. -/
structure PmtJob where
  dest : Nat
  src : Nat
  target : Nat
  til : Int
  follow : Bool
  dst : Nat
  room : Nat
  row : Nat
  lines : List ArcLine
  used : Nat
  last : Option ArcLine
  ending : Option Nat
  deriving DecidableEq, Repr

/-- A preview scaler: strips selected and not yet whole, the last one selected, finished rows of the first of them, whether one lacked a
line, lines tapped for rows to come, the next grid line of each carriage, when the first carriage had passed the present row, the MD and TIME
of the strip's first line, and strips dropped since the last delivered. -/
structure Pvw where
  strips : List Nat
  last : Option Nat
  rows : List (List Nat)
  gap : Bool
  lines : List (Nat × Line)
  passed : List (Nat × Nat)
  since : Option Nat
  time : Option Int
  dropped : Nat
  deriving DecidableEq, Repr

/-- A scaler that has nothing. -/
def Pvw.fresh : Pvw := ⟨[], none, [], false, [], [], none, none, 0⟩

end Sys2Proof.Machine
end

