-- ==== Sys2Proof/Machine/Data/Fabric.lean ====
section
/-! DEFINITION. Drayage channels and Whiffletree units beyond their registers (R335 to R352). -/

namespace Sys2Proof.Machine

/-- A Drayage channel: bytes written so far, the outcome that its completion will report, and completions since harness load. -/
structure DryChan where
  done : Nat
  code : Nat
  completions : Nat
  deriving DecidableEq, Repr

/-- A request at a Whiffletree unit. -/
structure WhtReq where
  input : Nat
  requester : Nat
  beats : Nat       -- remaining
  since : Nat       -- ns of TAI at which its wait began
  told : Bool       -- its starvation was reported
  preempted : Bool
  orphan : Bool     -- its requester left the map (R352)
  hint : Nat
  deriving DecidableEq, Repr

/-- A Whiffletree unit: what waits, what holds the grant under which BURST_MAX, and when each requester's last grant ended. -/
structure Wht where
  reqs : List WhtReq
  holder : Option (WhtReq × Nat)
  ended : List (Nat × Nat)
  deriving DecidableEq, Repr

/-- A unit at rest. -/
def Wht.fresh : Wht := ⟨[], none, []⟩

end Sys2Proof.Machine
end

