-- ==== Sys2Proof/Machine/Data/Mem.lean ====
section
/-! DEFINITION. Package DRAM and the DDR5 channels beyond their registers (R299 to R321). -/

namespace Sys2Proof.Machine

/-- Package DRAM: bytes at package addresses. Addresses rise strictly and no entry is 0, which is what an unlisted address reads as
(log 20). -/
abbrev Memory := List (Nat × Byte)

/-- A range of DRAM whose bytes and poison an apply left undefined (R70): each is an open value of the range's draw until a write covers it. -/
structure Stale where
  lo : Nat
  hi : Nat
  draw : Nat
  deriving DecidableEq, Repr

/-- The DIMMs of a populated channel (R306). -/
structure Dimm where
  count : Nat
  ranks : Nat
  rankBytes : Nat
  width : Nat       -- 0 x4, 1 x8
  speed : Nat       -- 1 4800, 2 5600, 3 6400 MT/s
  deriving DecidableEq, Repr

/-- One entry of a bank's activation tracker (R315). -/
structure RowCount where
  row : Nat
  count : Nat
  requester : Nat
  deriving DecidableEq, Repr

/-- A DDR5 channel: what it owes, tracks and copies. -/
structure Dmc where
  owed : List (Nat × Nat)                 -- refreshes owed by rank (R314)
  banks : List (Nat × List RowCount)      -- trackers by rank * 256 + bank (R315)
  curbed : List Nat                       -- requesters Curbed in this window (R316)
  block : Nat                             -- the copy pointer P (R319)
  ceWindow : List (Nat × (Nat × Nat))     -- by rank: start of its second and corrected words in it (R318)
  deriving DecidableEq, Repr

/-- A channel that owes, tracks and copies nothing. -/
def Dmc.fresh : Dmc := ⟨[], [], [], 0, []⟩

end Sys2Proof.Machine
end

