-- ==== Sys2Proof/Machine/Data/Control.lean ====
section
/-! DEFINITION. Data of the control paths that is not a register: the part as built, the directory, interrupts, the Outrider,
stalled accesses, the Post, and what leaves the part (spec/01, spec/13, spec/16, spec/17). -/

namespace Sys2Proof.Machine

/-- The part as built and wired: what no command of the table changes but a pin or a plug does. -/
structure Hw where
  coaches : Nat             -- 2, 4 or 8 (R2)
  strapPins : Nat           -- levels of the STRAP pins (R433)
  gio : Nat                 -- levels of the GIO input pins
  serial : Nat              -- 8-byte part serial (R418)
  firmware : Nat            -- running Daxpamen version, bytes 2, 1, 0 (R43, R418)
  dimms : List (Nat × Dimm) -- the populated package channels 2c + d (R306)
  deriving DecidableEq, Repr

/-- One entry of the harness directory (R74). -/
structure DirEntry where
  typ : Nat
  coach : Nat
  inst : Nat
  carriage : Nat         -- 0xFF for shared engines and fabric blocks
  flags : Nat            -- bit 0 replay, bit 1 fast lane, bit 2 placed by a patch
  version : Nat
  base : Nat
  size : Nat
  engn : Nat             -- index of the ENGN record, 0xFFFF for a fabric block
  deriving DecidableEq, Repr

/-- The MSI-X side of the endpoint (R394, R395): which vectors are masked, which have a message pending, and vector 0's state:
0 no new G-code, 1 a message went for one, 2 another came after that message (log 5). -/
structure Irq where
  masked : List Nat
  pend : List Nat
  glbNew : Nat
  deriving DecidableEq, Repr

/-- What leaves the part at a pin or a link. -/
inductive EgKind where
  | msix            -- an MSI-X message; unit is the vector
  | ethFrame        -- an Ethernet frame; unit is the global lane
  | voxhusMarker    -- an alignment marker; unit is the global lane
  | voxhusLink      -- a link word; unit is the global lane
  | voxhusCredit    -- a credit word
  | voxhusPacket    -- a Voxhus packet: body is its header word and payload words
  | trigger         -- a Voxhus trigger word, or a CXP trigger packet: number, KIND and delay; unit is the master lane
  | cameraWrite     -- a CXP control packet that writes: body is OP, TAG, SIZE, address and data; unit is the carriage
  | cameraRead      -- one that reads
  | cxpControl      -- a CXP discovery or configuration write
  | hostWrite       -- a write to host memory: unit is 0, body is the address and the bytes
  | hostRead        -- data returned to the host: body is the data
  | outrider        -- an Outrider response: body is its bytes
  | wheelWord       -- a word delivered behind the Fifth wheel: unit is the coach, body the data and its poison
  | gio             -- the level of a GIO pin: body is the level, empty where the pin drives none
  | bypHold         -- the level of a BYP_HOLDn pin
  | coreIrq         -- an interrupt to the core that a master ID names
  | absFrame        -- an absolute-encoder frame request; unit is the port
  | ptp             -- a PTP message: unit is its messageType
  | mirror          -- a mirror-link message: unit is its TYPE
  | ring            -- a ring message
  | netPreview      -- a preview packet
  | archiveDrain    -- words of a job's output
  | previewLine     -- a grid line to a PVW
  deriving DecidableEq, Repr

/-- One thing that left the part, in order of departure. -/
structure Egress where
  kind : EgKind
  unit : Nat
  body : List Nat
  deriving DecidableEq, Repr

/-- The Outrider port (R397, R398): the latest request's response, whether it was read, and a response that stands before it: of an IDENTIFY
or of a discarded request, while another runs. -/
structure OutPort where
  status : Nat
  done : Nat
  data : List Word
  unread : Bool
  aside : Option (Nat × Nat × List Word)
  waiting : Option (List Byte)  -- a request that runs on, waiting on a stopped domain (R398, R401)
  lastFrame : Nat               -- ns of TAI of the last request frame, for LCH_LEASE (R421)
  deriving DecidableEq, Repr

/-- An access that waits for a stopped domain (R401): of a register, or through BAR2 with the length read, the bytes written and EP. -/
structure Stalled where
  master : Nat
  off : Nat                     -- BAR0 offset, or package address
  isWrite : Bool
  word : Word
  dram : Option (Nat × List Byte × Bool)
  deriving DecidableEq, Repr

/-- A reply of a Daxpamen service that waits for its full mailbox (R418). -/
structure PostReply where
  mailbox : Nat
  sender : Nat
  words : List Word
  deriving DecidableEq, Repr

/-- An entry of the Waybill fault log (R325). -/
structure FaultEntry where
  time : Nat
  code : Nat
  coach : Nat
  master : Nat
  count : Nat
  detail : Nat
  deriving DecidableEq, Repr

/-- An owner key slot (R63). -/
inductive KeySlot where
  | empty
  | enrolled (digest : Nat)
  | revoked (digest : Nat)
  deriving DecidableEq, Repr

end Sys2Proof.Machine
end

