-- ==== Sys2Proof/Machine/Data/Harness.lean ====
section
/-! DEFINITION. The harness image as data: its header, sections and records (R42 to R61), the state of a load (R64 to R71) and of a
carriage patch (R76 to R78), and what the Waybill holds (R20, R63, R323, R325, R445). -/

namespace Sys2Proof.Machine

/-- The header fields that a load uses (R43). -/
structure ImgHeader where
  kind : Nat
  part : Nat
  patchCarriage : Nat
  flags : Nat
  imageId : Nat
  baseId : Nat
  minFw : Nat
  crc : Nat
  deriving DecidableEq, Repr

/-- HEAD (R46). -/
structure HeadRec where
  fPace : Nat
  webMaster : Nat
  ringPos : Nat
  ringSize : Nat
  gridCd : Nat
  gridMd : Nat
  totalColumns : Nat
  column0 : Int
  recordQueue : Nat
  deriving DecidableEq, Repr

/-- LANE (R47). -/
structure LaneRec where
  lane : Nat
  mode : Nat
  rate : Nat
  use : Nat
  conn : Nat
  index : Nat
  dirs : Nat
  ctle : Nat
  deriving DecidableEq, Repr

/-- CARR (R48). -/
structure CarrRec where
  carriage : Nat
  role : Nat
  conn : Nat
  ing : Nat
  stream : Nat
  format : Nat
  inputWidth : Nat
  owned : Nat
  ovlLow : Nat
  ovlHigh : Nat
  firstCol : Nat
  maxRate : Nat
  taps : Nat
  options : Nat
  latency : Nat
  planes : Nat
  history : Nat
  winBase : Nat
  winSize : Nat
  deriving DecidableEq, Repr

/-- ENGN (R49). -/
structure EngnRec where
  typ : Nat
  coach : Nat
  inst : Nat
  carriage : Nat
  position : Nat
  minVersion : Nat
  base : Nat
  size : Nat
  deriving DecidableEq, Repr

/-- MEWS (R50). -/
structure MewsRec where
  coach : Nat
  mews : Nat
  sram : Nat
  depth : Nat
  cutThrough : Nat
  deriving DecidableEq, Repr

/-- ROUT (R51). -/
structure RoutRec where
  src : Nat
  srcPort : Nat
  dstPort : Nat
  dst : Nat
  mews : Nat
  deriving DecidableEq, Repr

/-- DRAM (R52). -/
structure DramRec where
  partition : Nat
  kind : Nat
  carriage : Nat
  channels : Nat
  granule : Nat
  flags : Nat
  size : Nat
  base : Nat
  rank : Nat
  deriving DecidableEq, Repr

/-- REIN (R53): the kind and bytes 1 to 15. -/
structure ReinRec where
  kind : Nat
  body : List Byte
  deriving DecidableEq, Repr

/-- WHIF (R54). -/
structure WhifRec where
  coach : Nat
  unit : Nat
  requester : Nat
  number : Nat
  burstMax : Nat
  deriving DecidableEq, Repr

/-- POST (R55). -/
structure PostRec where
  kind : Nat
  index : Nat
  value : Nat
  timeout : Nat
  deriving DecidableEq, Repr

/-- TIME (R56): the kind and the fields of both kinds. -/
structure TimeRec where
  kind : Nat
  role : Nat
  lane : Nat
  domain : Nat
  flags : Nat
  jumpLimit : Nat
  ingress : Nat
  egress : Nat
  deriving DecidableEq, Repr

/-- WAYW (R57). -/
structure WaywRec where
  port : Nat
  mode : Nat
  filterN : Nat
  disagreeM : Nat
  cpr : Nat
  npc : Nat
  trigger : Nat
  indexTol : Nat
  deLimit : Nat
  pitch : Nat
  rate : Nat
  absBits : Nat
  absCode : Nat
  absCrcBits : Nat
  absPoly : Nat
  absClock : Nat
  absTimeout : Nat
  deriving DecidableEq, Repr

/-- INIT (R59). -/
structure InitRec where
  offset : Nat
  value : Nat
  mask : Nat
  deriving DecidableEq, Repr

/-- PAIR (R60). -/
structure PairRec where
  pairId : Nat
  preference : Nat
  lanes : List Nat
  deriving DecidableEq, Repr

/-- An image in parts: what parse leaves for check and apply. YOKE records are (offset, value) pairs (R58). `tags` keeps the
section order, for the section index of a failure (R72). -/
structure Image where
  hdr : ImgHeader
  tags : List Nat
  head : Option HeadRec
  lanes : List LaneRec
  carrs : List CarrRec
  engns : List EngnRec
  mews : List MewsRec
  routs : List RoutRec
  drams : List DramRec
  reins : List ReinRec
  whifs : List WhifRec
  posts : List PostRec
  times : List TimeRec
  waywiser : List WaywRec
  yokes : List (Nat × Nat)
  inits : List InitRec
  pair : Option PairRec
  deriving DecidableEq, Repr

/-- Why a load runs. -/
inductive LoadWhy where
  | request     -- HDR_CTL.LOAD
  | boot        -- start-up stage 9, first attempt (R65)
  | bootFall    -- start-up stage 9, fallback attempt
  | progA       -- HDR_CTL.PROG_A (R66)
  | progB
  deriving DecidableEq, Repr

/-- A load, patch or slot programming in progress (R67, R77, R66). -/
structure Loading where
  why : LoadWhy
  src : Nat              -- 0 slot A, 1 slot B, 2 host staging, 3 Outrider buffer
  checkOnly : Bool
  patch : Bool
  bytes : List Byte      -- the staged image
  image : Option Image   -- once parse and check have passed
  deriving DecidableEq, Repr

/-- Where a carriage patch stands (R77, R78). -/
inductive PatchStep where
  | pending | draining | drained
  deriving DecidableEq, Repr

/-- A carriage patch that passed check (R77, R78). -/
structure Patch where
  image : Image
  kind : Nat
  instant : Nat          -- HDR_PATCH_AT as it stood at the load
  step : PatchStep
  upTo : Nat             -- n of R78, once the instant is reached: the old chain completes output lines below it
  top : Int              -- MD of the last grid line that the old chain's look-ahead needs
  past : Nat             -- lines taken beyond it
  deriving DecidableEq, Repr

/-- The harness unit: the Outrider buffer, the load in progress, the running image and its patches. -/
structure Hdr where
  orBuf : List Byte              -- bytes of the Outrider buffer, first byte first (R64)
  load : Option Loading
  active : Option Image          -- the applied full image, retained (R432)
  patches : List Image           -- the last applied patch of each carriage, in the order applied
  patch : Option Patch
  parts : List (Nat × Nat)       -- partition number and the base address it was placed at (R310)
  deriving DecidableEq, Repr

/-- A Wheelwright record (R445). -/
structure WwtRecord where
  time : Nat
  cls : Nat
  coach : Nat
  inst : Nat
  outcome : Nat
  temp : Nat
  cause : Nat
  rejects : Nat
  quality1 : Nat
  quality2 : Nat
  detail : Nat
  deriving DecidableEq, Repr

/-- What the Waybill holds beside the owner key slots (R20, R323): the one thing that outlives a loss of power (R494). -/
structure Waybill where
  slotA : Option (List Byte)     -- none: blank
  slotB : Option (List Byte)
  badA : Bool                    -- an uncorrectable word in slot A (R324)
  badB : Bool
  faults : List FaultEntry       -- newest first (R325)
  calib : List WwtRecord         -- newest first (R445)
  training : List (Nat × Nat)    -- stored DRAM training by channel, tagged with the population it was made for (R307)
  retired : List (Nat × Nat)     -- a channel and its rank that a Remount retired (R319)
  daxA : Bool                    -- Daxpamen image A verifies (R434 stage 3)
  daxB : Bool
  offsets : List (Nat × Nat)     -- factory offset of sensor 16c + s, two's complement of 16 bits (R441)
  deriving DecidableEq, Repr

end Sys2Proof.Machine
end

