-- ==== Sys2Proof/Machine/Data/Ing.lean ====
section
/-! DEFINITION. ING parsers and STA units beyond their registers (R109 to R143). -/

namespace Sys2Proof.Machine

/-- Where a trigger stands: its line is awaited, is open, or did not come for a cause of R128. -/
inductive TrigState where
  | waiting
  | open_
  | gone (cause : Nat)
  deriving DecidableEq, Repr

/-- A numbered trigger event (R115, R117) not yet passed on as a line or in a gap marker. -/
structure Trig where
  n : Nat
  instant : Int
  time : Int
  md : Int
  unsure : Bool
  sent : Bool
  offset : Int      -- ING_MD_OFFSET at the trigger
  down : Bool       -- the receive direction was not up at the trigger
  state : TrigState
  deriving DecidableEq, Repr

/-- A stream packet that waits for the ING: when it came, whether it starts or ends a line or ends an image, its line number, its payload words of a
width, and the poisoned ones. -/
structure RxPkt where
  came : Nat
  start : Bool
  ending : Bool
  blockEnd : Bool
  lineLow : Nat
  width : Nat
  words : List Nat
  poison : List Nat
  deriving DecidableEq, Repr

/-- The line being received: the trigger it takes, none where it is discarded, and its packets so far. -/
structure OpenLine where
  trig : Option Nat
  camLine : Nat
  packets : List RxPkt
  deriving DecidableEq, Repr

/-- A control transaction of the tunnel as GO found it (R134). -/
structure TunReq where
  write : Bool
  addr : Nat
  words : Nat
  data : List Nat
  deriving DecidableEq, Repr

/-- A parser. -/
structure Ing where
  due : List Int                   -- instants of trigger events not yet taken
  next : Nat                       -- the next trigger number
  lastSent : Option Int            -- instant of the last trigger sent
  trigs : List Trig                -- oldest first
  unsent : List (Nat × Nat)        -- settled numbers not sent, as ranges, newest first
  gap : Option Gap                 -- the open run
  gapBefore : Bool
  match_ : Option Nat              -- CXP: the number of the next line of the image
  imageOpen : Bool                 -- a camera image is open: its end was not marked
  imageLine : Nat                  -- lines of the present camera image so far
  announced : Nat                  -- lines that the image header announced (CXP)
  rx : List RxPkt
  cur : Option OpenLine
  epochs : List (Option Nat × Bool × Nat)  -- pending epochs: first line once known, unconfirmed, the instant A
  starts : List (Nat × Nat × Bool) -- the latest epochs, their first lines and whether they are unconfirmed, newest first
  epochFirst : Bool
  wire : Nat                       -- control transaction under way: 0 none, 1 settings write, 2 tunnel request (R135)
  wireSince : Nat
  camLeft : List (Nat × Nat)       -- settings writes not yet acknowledged
  camIdx : Nat                     -- the index of the first of them
  tunWait : Bool                   -- a tunnel request waits
  tun : TunReq                     -- the tunnel request that waits or is under way
  tag : Nat                        -- the TAG of the latest control request (R135)
  events : List (List Byte)
  tagged : Option (Int × Int)      -- MD and TIME of the latest tag written
  deriving DecidableEq, Repr

/-- A parser at the start of its carriage. -/
def Ing.fresh : Ing :=
  ⟨[], 0, none, [], [], none, false, none, false, 0, 0, [], none, [], [], false, 0, 0, [], 0, false, ⟨false, 0, 1, []⟩, 0, [], none⟩

/-- An open statistics block (R137 to R141): its first line, the lines it spans so far and counts, what its header says, its sums. -/
structure StaBlock where
  first : Nat
  spanned : Nat
  counted : Nat
  mdStart : Int
  mdEnd : Int
  timeStart : Int
  epoch : Nat
  unconfirmed : Bool
  poisoned : Bool
  bins : List (List Nat)           -- per plane
  zones : List (List (Nat × Nat))  -- per zone and plane: sum, clipped
  deriving DecidableEq, Repr

/-- A statistics unit. -/
structure Sta where
  block : Option StaBlock
  next : Nat                       -- the first line of the next block
  number : Nat
  dropped : Nat                    -- since the last block written
  lost : List Nat                  -- lines that the tap could not take
  cut : Option Nat                 -- the line at which Truing's tables changed (R140)
  marks : List (Nat × Int × Int)   -- MD_n and t_n of the numbers from the next block's or the open block's first line on (R117)
  deriving DecidableEq, Repr

/-- A unit with no block open. -/
def Sta.fresh : Sta := ⟨none, 0, 0, 0, [], none, []⟩

end Sys2Proof.Machine
end

