-- ==== Sys2Proof/Machine/Data/Lane.lean ====
section
/-! DEFINITION. Field lanes beyond their registers: training, link words, credits, deskew (R79 to R108). -/

namespace Sys2Proof.Machine

/-- Credit of one virtual channel of a Voxhus lane, in units since link start (R93): what the peer was granted and has used, the last
TOTAL received, and what this transmitter has used. -/
structure LaneVc where
  granted : Nat
  used : Nat
  total : Nat
  sent : Nat
  deriving DecidableEq, Repr

/-- A run of equal bits of a serial stream (R85), none at length 0. -/
structure EqualRun where
  last : Bool
  len : Nat
  deriving DecidableEq, Repr

/-- A PRBS checker (R107): the latest 31 bits of its sequence, the bits taken and met since it last seeded itself, the bits checked and the
errors since the counts were zeroed, and how many bits ago each error of the last 1,024 bits came. -/
structure Prbs where
  reg : Nat
  fill : Nat
  good : Nat
  locked : Bool
  bits : Nat
  errors : Nat
  wrong : List Nat
  deriving DecidableEq, Repr

/-- A Voxhus packet as received: its header word, payload words and the poisoned ones. -/
structure VoxPkt where
  hdr : Nat
  words : List Nat
  poison : List Nat
  deriving DecidableEq, Repr

/-- A lane. `since` is when the present training attempt began, none outside training; `stuck`: down until a retrain (R82, R92). -/
structure Lane where
  since : Option Nat
  stuck : Bool
  trained : Bool           -- settings kept through doze and sleep (R103)
  relock : Bool            -- the attempt only relocks after doze or sleep
  good : Nat               -- valid markers in a row (R88)
  bad : Nat                -- bad or missing markers in a row
  scramble : Nat           -- the receiver's scrambler state
  txState : Nat            -- the transmitter's
  hunting : Bool           -- words are dropped until the next marker (R85, R95)
  peerLocked : Bool        -- the peer's lock report came (R97)
  peerAsleep : Bool        -- the peer's transmitter sleeps (R105)
  eye : Nat                -- eye width found at framing or by the run whose code is pending
  vcs : List (Nat × LaneVc)
  stuffs : List (Nat × Nat)   -- instants and numbers of the last ms (L-0012, L-0013, L-0020, L-0041)
  headers : List (Nat × Nat)
  uncorr : List (Nat × Nat)
  fec : List (Nat × Nat)
  tests : Nat              -- CXP test packets received
  beat : Option (Nat × Nat)   -- device time of the last heartbeat and the Timetable time beside it (R81)
  dropped : Nat            -- words, packets and frames discarded and counted where no register names the count
  run : EqualRun                -- the receiver's run of equal bits (R85)
  skip : Nat               -- payload words still to drop to the next control position (R95)
  part : Option VoxPkt     -- the packet of which payload words are still to come
  lostFraming : Nat        -- lost-framing events (R85)
  prbs : Prbs
  fecMode : Nat            -- the FEC in use: LAN_ETH.FEC as of the last retrain (R83)
  begun : List (Nat × Nat) -- each carriage of the connection with its next trigger number as the lane went down (R249)
  deriving DecidableEq, Repr

/-- A lane that is off. -/
def Lane.fresh : Lane :=
  ⟨none, false, false, false, 0, 0, 0, 0, false, false, false, 0, [], [], [], [], [], 0, none, 0, ⟨false, 0⟩, 0, none, 0,
    ⟨0, 0, 0, false, 0, 0, []⟩, 0, []⟩

/-- A packet that waits for an earlier SEQUENCE of its VC (R92). -/
structure HeldPkt where
  since : Nat
  lane : Nat
  pkt : VoxPkt
  deriving DecidableEq, Repr

/-- A packet that the part is to send: its VC, DATA_TYPE and payload words. -/
structure TxPkt where
  vc : Nat
  typ : Nat
  words : List Nat
  deriving DecidableEq, Repr

/-- A connection or link: CXP discovery (0 idle, 1 running, 2 done, 3 abandoned), the deskew of its Voxhus packets and what it sends. -/
structure Conn where
  disc : Nat
  discSince : Nat
  expected : List (Nat × Nat)   -- the next SEQUENCE of each VC
  held : List HeldPkt
  txSeq : List (Nat × Nat)      -- the next SEQUENCE of each VC sent
  next : Nat                    -- packets sent so far: the lane of the next one, in INDEX order
  waiting : List TxPkt          -- packets that wait for credit, oldest first
  deriving DecidableEq, Repr

/-- A connection at link start. -/
def Conn.fresh : Conn := ⟨0, 0, [], [], [], 0, []⟩

end Sys2Proof.Machine
end

