-- ==== Sys2Proof/Machine/Data/Power.lean ====
section
/-! DEFINITION. Power states, start-up and the Wheelwright beyond their registers (spec/14, R494, R495). -/

namespace Sys2Proof.Machine

/-- Where an entry into sleep stands (the steps of R427): `none` outside one. -/
inductive SleepStep where
  | none | draining | drayage | clocks
  deriving DecidableEq, Repr

/-- The power unit. `PWR_STATE` shows STATE; here stands what a step of R427, R431 or R434 still has to know. -/
structure Power where
  off : Bool              -- the rails are down or PORn is low (R423, R494)
  rstHeld : Bool          -- RSTn is low and holds the part at the end of stage 2 (R495)
  step : SleepStep
  wakeDuring : Bool       -- a wake came during an entry (R428)
  fromBox : Bool          -- the wake under way leaves Box-only (R431)
  wakeFrom : Nat          -- the 250 MHz sample count when the wake under way began (R431)
  tripped : Bool          -- a thermal trip has not yet been left (R439)
  resetting : List Nat    -- coaches in reset (R437)
  sleepLine : Nat         -- the last grid line processed before the sleep (R430)
  linkUp : Bool           -- the PCIe link is up
  inD0 : Bool             -- the PCIe function is in D0 (R416, R421)
  inD3 : Bool             -- the PCIe function is in D3hot (R426)
  keptId : Option Nat     -- the applied IMAGE_ID kept in the Box island (R424, R432)
  keptCrc : Nat           -- the header CRC kept beside it
  temps : List (Nat × Nat) -- latest reading of sensor 16c + s (R438)
  io33 : Bool             -- the I/O cells run in 3.3 V mode, by VDD_IO as PORn rose (R490)
  deriving DecidableEq, Repr

/-- One Wheelwright instance, keyed in State by class, coach and carriage (R440, R443). -/
structure WwtInst where
  baseline : Option Nat   -- class temperature at the last accepted run (R442)
  rejects : Nat
  unsettled : Bool
  running : Bool
  cause : Nat             -- 0 temperature, 1 timer, 2 command, of the run due or in progress
  due : Bool
  quality : Nat           -- last quality figure
  lastRun : Nat           -- ns of TAI of the last run, accepted or not
  lastOk : Nat            -- ns of TAI of the last accepted run
  started : Nat           -- ns of TAI at which the run or measurement in progress began
  deriving DecidableEq, Repr

end Sys2Proof.Machine
end

