-- ==== Sys2Proof/Machine/Data/Rein.lean ====
section
/-! DEFINITION. The Reins and Buckles beyond their registers (R354 to R369). -/

namespace Sys2Proof.Machine

/-- The state of one Buckle (R361, R362). -/
structure Buckle where
  prevY : Bool     -- y of the previous Rein cycle
  prevQ : Bool     -- Q of the previous Rein cycle
  out : Bool       -- the filter's output; for the glitch filter the accepted level
  deriving DecidableEq, Repr

/-- The Reins of the package. Sources and task inputs have keys of coach, number and event or task (`crossKey`). -/
structure Reins where
  cross : List (Nat × Nat)      -- crossing counters (R358), by key
  tasks : List (Nat × Nat)      -- task-input counts (R360), by key
  ovf : List Nat                -- task inputs whose OVERFLOW flag is set, by key
  carry : List Nat              -- channels that carried an event in the latest cycle: coach * 128 + local channel, or 64 + trunk channel (R354)
  window : List (Nat × Nat)     -- events each channel carried in its present rate window (R368)
  trunk : List (Nat × Nat)      -- trunk events under way: channel and Rein cycles left (R355)
  fire : List Nat               -- trunk channels that REI_TRUNK_FIRE fires in the next cycle (R364)
  buckles : List (Nat × Buckle) -- by coach * 32 + Buckle
  deriving DecidableEq, Repr

end Sys2Proof.Machine
end

