-- ==== Sys2Proof/Machine/Data/Time.lean ====
section
/-! DEFINITION. The Timetable beyond its registers (R370 to R384). -/

namespace Sys2Proof.Machine

/-- A master that Announce messages offered: the default data set of its grandmaster, compared field by field (R373). -/
structure PtpMaster where
  priority1 : Nat
  clockClass : Nat
  accuracy : Nat
  variance : Nat
  priority2 : Nat
  identity : Nat
  source : Nat        -- source port identity of its messages
  deriving DecidableEq, Repr

/-- A launch queue entry (R379). -/
structure Launch where
  instant : Int
  tag : Nat
  template : Nat
  drop : Bool          -- LATE: a late entry is dropped
  marker : Nat         -- 0xFF for software
  unsure : Bool
  late : Bool
  frame : Option (Nat × List Byte)  -- once prefetched: lane and template bytes
  deriving DecidableEq, Repr

/-- A marker target in the scheduler (R382): T in nm. -/
structure MarkTarget where
  pos : Int
  marker : Nat
  tag : Nat
  held : Bool
  unsure : Bool
  deriving DecidableEq, Repr

/-- The Timetable: time in ns of TAI with 40 fractional bits, and what its servo, port, launches and markers hold. Times of messages are
in ps. -/
structure Tmt where
  ns : Nat
  frac : Nat
  samples : Nat                      -- 250 MHz samples counted since reset (R146)
  boxTicks : Nat                     -- Box-clock ticks counted asleep since reset
  step : Option (Bool × Int)         -- a step due at the next tick: (true, t) sets the time to t, (false, d) adds d (R375)
  fromWake : Bool                    -- no offset within the limit since a wake (R375)
  sleepFrom : Nat                    -- when the package last left Run (R384)
  rates : List (Nat × Int)           -- (ns, rate) changes of the rate, newest first (R377)
  holdFrom : Nat
  master : Option PtpMaster
  sync : Option (Nat × Int × Int)    -- a two-step Sync: sequence, receive time, correction
  lastSync : Option (Int × Int)      -- t1 with its corrections, t2
  delayReq : Option (Nat × Int)      -- sequence, t3 (or t1 of a Pdelay_Req)
  pdelay : Option (Nat × Int × Int × Int) -- two-step Pdelay_Resp: sequence, t2, t4, correction
  seqs : Nat                         -- sequence number of the next message sent
  launches : List Launch
  targets : List MarkTarget
  asym : List (Nat × (Nat × Nat))    -- INGRESS and EGRESS of each lane (R374)
  moves : List (Nat × Bool)          -- when the state last became locked or unlocked and what it was before, newest first (R122)
  deriving DecidableEq, Repr

end Sys2Proof.Machine
end

