-- ==== Sys2Proof/Machine/Data/Way.lean ====
section
/-! DEFINITION. The Waywiser beyond its registers (R144 to R167) and the pulses on GIO pins (R163). Positions are in units of 2^-32 nm. -/

namespace Sys2Proof.Machine

/-- A recorded edge, snap or absolute frame: its instant in ns of the sample count, the extended count and the position there. -/
structure WayEdge where
  ns : Int
  ext : Int
  pos : Int
  deriving DecidableEq, Repr

/-- One encoder port. -/
structure WayPort where
  rcd : Option WaywRec      -- the WAYW record it runs by (R155)
  origin : Int              -- ORIGIN with its fraction (R154)
  indexed : Bool            -- an index came since the port started (R150)
  speed : Int               -- the smoothed speed, s31.32 nm/ns (R157)
  edges : Nat               -- edges or good frames since start or standstill, at most 5
  hist : List WayEdge       -- newest first: the last edges and those of the last 1 ms (R157, R158)
  moved : Nat               -- the tick of the latest position update
  before : Int              -- the position just before it (R162)
  nextPoint : Int           -- X_next (R159)
  fired : Option Nat        -- the tick of its latest encoder-spaced event (R159)
  nextFixed : Int           -- instant of the next fixed-rate event, 2^-32 sample (R160)
  absBusy : Bool            -- an absolute frame is in progress (R151)
  absAgain : Bool           -- a request came during it
  absLatch : Int            -- its latch instant, ns of the sample count
  absRun : Nat              -- consecutive bad frames (R152)
  sleepExt : Int            -- extended count when the package left Run (R167)
  tallyA : Nat × Nat        -- pair A asleep: raw transitions, accepted ones (R166)
  tallyB : Nat × Nat        -- pair B asleep
  deriving DecidableEq, Repr

/-- A target of a compare unit: position in nm, tag, whether it was reached when it was pushed or armed, and the tick of that (R162). -/
structure CmpTarget where
  pos : Int
  tag : Nat
  late : Bool
  since : Nat
  deriving DecidableEq, Repr

/-- A compare unit: its sorted queue, for DIR 2 whether the position stood above the head when that was armed, and the tick at which it
fired last (R162). -/
structure CmpUnit where
  queue : List CmpTarget
  above : Bool
  fired : Option Nat
  deriving DecidableEq, Repr

/-- A pulse of a GIO function: source 0 compare unit, 1 alarm, 2 Rein binding of pin idx; its number, and its end in ns of the part's own
clocks, which no step of time moves (R163). -/
structure GioPulse where
  src : Nat
  idx : Nat
  til : Nat
  deriving DecidableEq, Repr

/-- The Waywiser. -/
structure Way where
  ports : List WayPort
  cmps : List CmpUnit
  offset : Int          -- the web-position offset with its fraction (R154)
  pulses : List GioPulse
  deriving DecidableEq, Repr

/-- A port that never ran. -/
def WayPort.fresh : WayPort := ⟨none, 0, false, 0, 0, [], 0, 0, 0, none, 0, false, false, 0, 0, 0, (0, 0), (0, 0)⟩

/-- A compare unit with nothing queued. -/
def CmpUnit.fresh : CmpUnit := ⟨[], false, none⟩

end Sys2Proof.Machine
end

