-- ==== Sys2Proof/Machine/Data/Yoke.lean ====
section
/-! DEFINITION. Yoke commits beyond their registers (R404 to R412). -/

namespace Sys2Proof.Machine

/-- A commit that is checking or pending (R406). -/
structure Commit where
  master : Nat                -- 0 for a commit held for another part (R412)
  carriage : Option Nat       -- none: package scope
  kind : Nat                  -- R407
  instant : Nat
  defaults : Bool
  checkOnly : Bool
  pending : Bool              -- false while checking
  asked : Bool                -- the frozen values went to the other parts (R412, R470)
  awaited : Nat               -- check results of other parts still to come
  seq : Nat                   -- commit number sent with mirror messages
  values : List (Nat × Word)  -- the frozen staged words of its registers, by register key
  deriving DecidableEq, Repr

/-- Values that the engines of one carriage take at their own line (R408): `pos` is the apply position and `line` the ING's apply line,
each none until known. -/
structure Armed where
  carriage : Nat
  seq : Nat
  package : Bool
  kind : Nat
  released : Bool
  pos : Option Int
  line : Option Nat
  values : List (Nat × Word)
  deriving DecidableEq, Repr

/-- The Yoke. -/
structure Yoke where
  commits : List Commit
  armed : List Armed          -- those of package commits first (R410)
  nextSeq : Nat
  latest : List (Nat × Nat)   -- the number of each master's latest commit, which YOK_STATUS.STATE shows
  deriving DecidableEq, Repr

end Sys2Proof.Machine
end

