-- ==== Sys2Proof/Machine/State.lean ====
section
/-! DEFINITION. The state of the part, all of it plain data, what stops a command, and the state after reset. -/

namespace Sys2Proof.Machine

/-- Why a command stops the part: nothing does. Every command of the table has an effect in every state. -/
inductive Fault where
  deriving DecidableEq, Repr

/-- Why a command has no meaning. -/
inductive Refusal where
  /-- Raised by an arm of `exec` whose command is not modelled yet; no arm does now. Safe: nothing happens. -/
  | notModelled (mnemonic : String)
  deriving DecidableEq, Repr

/-- The whole state. -/
structure State where
  /-- Commands that wait, the oldest first. -/
  pending : List Instr
  /-- How many open values were drawn; the model's own field (log 2). -/
  freeCtr : Nat
  /-- The part as built and wired (log 1). -/
  hw : Hw
  /-- Active register words by register key; one that is not listed holds its Reset column (R9, R10). -/
  regs : List (Nat × Word)
  /-- Staged register words (R11, R404). -/
  staged : List (Nat × Word)
  /-- The master that staged a register last (R404). -/
  stager : List (Nat × Nat)
  /-- Yoke defaults of the running harness (R411). -/
  ydef : List (Nat × Word)
  /-- High words that a read of a low word latched, by master (R8). -/
  latch : List (Nat × (Nat × Word))
  /-- The harness directory (R74, R75). -/
  dir : List DirEntry
  /-- MSI-X masks, pending messages and vector 0 (R394, R395). -/
  irq : Irq
  /-- What left the part, in order; the model's own log. -/
  egress : List Egress
  /-- The Outrider port (R397, R398). -/
  out : OutPort
  /-- Accesses that wait on stopped domains (R401). -/
  stalled : List Stalled
  /-- Replies of Daxpamen services that wait for a mailbox (R418). -/
  replies : List PostReply
  /-- Sequence numbers of mailboxes (R414). -/
  postSeq : List (Nat × Nat)
  /-- Power, sleep and start-up (R423 to R439). -/
  pwr : Power
  /-- The running harness, a load, a patch (R42 to R78). -/
  hdr : Hdr
  /-- Owner key slots, in the Waybill (R63). -/
  keys : List KeySlot
  /-- The Waybill (R323 to R325). -/
  store : Waybill
  /-- Wheelwright runs (R440 to R446). -/
  wwt : List (Nat × WwtInst)
  /-- The Reins and Buckles (R354 to R369). -/
  rein : Reins
  /-- Commits (R405 to R413). -/
  yoke : Yoke
  /-- The Timetable (R370 to R384). -/
  tmt : Tmt
  /-- The Waywiser (R144 to R168). -/
  way : Way
  /-- Package DRAM (R309), in canonical form; an unlisted byte reads 0 (log 20). -/
  mem : Memory
  /-- Poisoned DRAM words (R303). -/
  poison : List Nat
  /-- DRAM that an apply left undefined and nothing has written since (R70). -/
  stale : List Stale
  /-- Refresh, tracker, scrub and Remount of each channel (R314 to R321). -/
  dmc : List (Nat × Dmc)
  /-- Drayage channels (R335 to R343). -/
  dry : List (Nat × DryChan)
  /-- Whiffletree units (R344 to R353). -/
  wht : List (Nat × Wht)
  /-- What each Mews holds (R328 to R334). -/
  mews : List (Nat × Mews)
  /-- ING of each carriage (R109 to R136). -/
  ing : List (Nat × Ing)
  /-- Statistics of each carriage (R137 to R142). -/
  sta : List (Nat × Sta)
  /-- TRU of each carriage (R169 to R186). -/
  tru : List (Nat × Tru)
  /-- Regauge of each carriage (R176 to R199). -/
  rga : List (Nat × Rga)
  /-- Seam units, by the low carriage (R201 to R211). -/
  seam : List (Nat × Seam)
  /-- GAIN results in progress, by carriage (R184 to R186). -/
  gain : List (Nat × GainJob)
  /-- A SEAM result in progress (R212 to R214). -/
  seamFix : Option SeamFix
  /-- Springs of each carriage (R215 to R225). -/
  spr : List (Nat × Spr)
  /-- SEG of each carriage (R229 to R233). -/
  seg : List (Nat × Seg)
  /-- Grid lines in history rings (R26). -/
  hist : List (Nat × List HistLine)
  /-- LBL of each carriage (R234 to R239). -/
  lbl : List (Nat × Lbl)
  /-- The DBM: slices, streams, records (R240 to R267). -/
  dbm : Dbm
  /-- Patch jobs of each PAT (R262 to R265). -/
  pat : List (Nat × List PatJob)
  /-- Merge Mews that a flush mark left, and the first line of the gap record that the next frontier closes (R333). -/
  tapLost : List (Nat × Nat)
  /-- Field lanes (R79 to R108). -/
  lanes : List (Nat × Lane)
  /-- CXP connections (R81, R82). -/
  conns : List (Nat × Conn)
  /-- Archive rows of each carriage (R273 to R284). -/
  arc : List (Nat × ArcStream)
  /-- Decode jobs of each PMT (R285 to R289). -/
  jobs : List (Nat × PmtJob)
  /-- Preview units (R290 to R295). -/
  pvw : List (Nat × Pvw)
  /-- The redundant pair (R450 to R467). -/
  pair : Pair
  /-- The ring (R468 to R474). -/
  ring : Ring
  deriving DecidableEq, Repr

/-- The part as the model has it built and wired until a statement says otherwise: a GLK-8 with one DIMM on each channel, every strap low,
every GIO pin low (DESIGN CHOICE, log 1). -/
def Hw.built : Hw := ⟨8, 0, 0, 0, 0x010000, (List.range 16).map (fun c => (c, ⟨1, 1, 17179869184, 0, 1⟩))⟩

/-- The Waybill of a part as delivered: blank slots, no record, both Daxpamen images good (DESIGN CHOICE, log 1). -/
def Waybill.blank : Waybill := ⟨none, none, false, false, [], [], [], [], true, true, []⟩

/-- The registers that power-on writes beside the Reset column: GLB_ID, GLB_STRAP, HDR_KEY_CTL, OUT_CFG, PST_CFG of mailboxes 14 and 15,
PWR_RESET_CAUSE, by register key. -/
def powerOnRegs : List (Nat × Word) :=
  [(0, 0x08080008), (12, 0), (4294967348, 0), (12884901888, 0xB0), (17179872768, 0x000A0120), (17179873024, 0x000A0121),
    (34359738404, 0x11111111)]

/-- The part right after PORn has risen: start-up stage 1, every register at its Reset column, nothing in any memory but the Waybill's. -/
def State.reset : State where
  pending := []
  freeCtr := 0
  hw := Hw.built
  regs := powerOnRegs
  staged := []
  stager := []
  ydef := []
  latch := []
  dir := []
  irq := ⟨List.range 256, [], 0⟩
  egress := []
  out := ⟨6, 0, [], false, none, none, 0⟩
  stalled := []
  replies := []
  postSeq := []
  pwr := ⟨false, false, .none, false, false, 0, false, [], 0, false, false, false, none, 0, [], false⟩
  hdr := ⟨[], none, none, [], none, []⟩
  keys := [.empty, .empty, .empty, .empty]
  store := Waybill.blank
  wwt := []
  rein := ⟨[], [], [], [], [], [], [], []⟩
  yoke := ⟨[], [], 0, []⟩
  tmt := ⟨0, 0, 0, 0, none, false, 0, [], 0, none, none, none, none, none, 0, [], [], [], []⟩
  way := ⟨[.fresh, .fresh, .fresh, .fresh], List.replicate 16 .fresh, 0, []⟩
  mem := []
  poison := []
  stale := []
  dmc := []
  dry := []
  wht := []
  mews := []
  ing := []
  sta := []
  tru := []
  rga := []
  seam := []
  gain := []
  seamFix := none
  spr := []
  seg := []
  hist := []
  lbl := []
  dbm := ⟨[], [], 0, [], 0, 0⟩
  pat := []
  tapLost := []
  lanes := []
  conns := []
  arc := []
  jobs := []
  pvw := []
  pair := Pair.fresh
  ring := Ring.fresh

end Sys2Proof.Machine
end

