-- ==== Sys2Proof/Machine/Ops.lean ====
section
/-! DEFINITION. The named operations over State that every family uses: registers by field (R8 to R12), the directory, events and
their interrupts and Rein sources (R357, R394, R505), error codes (R15, R482), the fault log (R325), open values, output. -/

namespace Sys2Proof.Machine

/-! ### Registers -/

/-- The key of a register in the register store: block, window number and offset, each in a place of its own. -/
def regKey (b : Blk) (i off : Nat) : Nat := (b.code * 4096 + i % 4096) * 1048576 + off % 1048576

/-- The block of a register key. -/
def keyBlk (k : Nat) : Blk := blkOfCode (k / 1048576 / 4096)

/-- The window number of a register key: the coach times 32 plus the number within the coach; a master ID for YOK. -/
def keyInst (k : Nat) : Nat := k / 1048576 % 4096

/-- The offset of a register key in its window. -/
def keyOff (k : Nat) : Nat := k % 1048576

/-- Whether a register definition holds the register at an offset. -/
def RegDef.holds (d : RegDef) (o : Nat) : Bool :=
  if o < d.off then false
  else
    let rel := o - d.off
    let j := if d.gstride = 0 then 0 else rel / d.gstride
    let r := if d.gstride = 0 then rel else rel % d.gstride
    let i := if d.stride = 0 then 0 else r / d.stride
    decide (j < d.gcnt) && decide (i < d.cnt) && decide (r = i * d.stride)

/-- The definition of the register at an offset of a block's window, if the block has one there. -/
def findDef (b : Blk) (o : Nat) : Option RegDef := (Reg.table b).find? (fun d => d.holds o)

/-- The word of a register at its reset values (the Reset column of its table). -/
def resetWord (b : Blk) (o : Nat) : Word :=
  match findDef b o with
  | none => 0
  | some d => d.fields.foldl (fun w f => putBits w f.hi f.lo f.rst) 0

/-- The active word of a register: its stored value, or its reset value where nothing was stored. -/
def State.word (s : State) (b : Blk) (i o : Nat) : Word := cgetD s.regs (regKey b i o) (resetWord b o)

/-- Store the active word of a register. -/
def State.setWord (s : State) (b : Blk) (i o : Nat) (w : Word) : State := { s with regs := cset s.regs (regKey b i o) w }

/-- Read a field of the active view. -/
def State.rf (s : State) (i : Nat) (f : Fld) : Nat :=
  match cget s.regs (regKey f.blk i f.off) with
  | some w => getBits w f.hi f.lo
  | none => f.rst

/-- Write a field of the active view, whatever its access code: what hardware does, not what a master may do. -/
def State.wf (s : State) (i : Nat) (f : Fld) (v : Nat) : State :=
  s.setWord f.blk i f.off (putBits (s.word f.blk i f.off) f.hi f.lo v)

/-- Read a one-bit field. -/
def State.rb (s : State) (i : Nat) (f : Fld) : Bool := s.rf i f == 1

/-- The staged word of a register: its staged value, or its active word where nothing is staged (R11). -/
def State.stagedWord (s : State) (b : Blk) (i o : Nat) : Word :=
  (cget s.staged (regKey b i o)).getD (s.word b i o)

/-- Read a field of the staged view. -/
def State.sf (s : State) (i : Nat) (f : Fld) : Nat := getBits (s.stagedWord f.blk i f.off) f.hi f.lo

/-- Write a staged field (R11) without a stager mark. -/
def State.wsf (s : State) (i : Nat) (f : Fld) (v : Nat) : State :=
  { s with staged := cset s.staged (regKey f.blk i f.off) (putBits (s.stagedWord f.blk i f.off) f.hi f.lo v) }

/-- A 64-bit quantity in two consecutive registers, the low word first (R8). -/
def State.rf64 (s : State) (i : Nat) (lo : Fld) : Nat :=
  s.rf i { lo with hi := 31, lo := 0 } + 2 ^ 32 * (s.word lo.blk i (lo.off + 4)).toNat

/-- Store a 64-bit quantity in two consecutive registers. -/
def State.wf64 (s : State) (i : Nat) (lo : Fld) (v : Nat) : State :=
  (s.setWord lo.blk i lo.off (BitVec.ofNat 32 v)).setWord lo.blk i (lo.off + 4) (BitVec.ofNat 32 (v / 2 ^ 32))

/-- The largest value a field holds. -/
def Fld.top (f : Fld) : Nat := 2 ^ (f.hi + 1 - f.lo) - 1

/-- Add to a saturating counter. -/
def State.add (s : State) (i : Nat) (f : Fld) (n : Nat) : State := s.wf i f (satN f.top (s.rf i f + n))

/-- Add 1 to a saturating counter. -/
def State.inc (s : State) (i : Nat) (f : Fld) : State := s.add i f 1

/-- Add 1 to a counter that wraps at its width. -/
def State.incWrap (s : State) (i : Nat) (f : Fld) : State := s.wf i f ((s.rf i f + 1) % (f.top + 1))

/-- Keep the largest value seen. -/
def State.peak (s : State) (i : Nat) (f : Fld) (v : Nat) : State := s.wf i f (Nat.max (s.rf i f) (satN f.top v))

/-! ### Coaches, carriages, windows -/

/-- The window number of unit n of coach c. -/
def unitOf (c n : Nat) : Nat := c * 32 + n

/-- The window number of a global lane (R14). -/
def laneInst (l : Nat) : Nat := unitOf (l / 16) (l % 16)

/-- The coach of a window of a block: C0 for the global blocks. -/
def coachOf (b : Blk) (i : Nat) : Nat := if b.typeCode = 0 then 0 else i / 32

/-- The carriages the part has (R2). -/
def State.carriageCount (s : State) : Nat := 6 * s.hw.coaches

/-- The window number of a carriage's engine of a type, by the directory (R74); the default instance of R28 where it lists none. -/
def State.eng (s : State) (b : Blk) (g : Nat) : Nat :=
  match s.dir.find? (fun e => e.typ == b.typeCode && e.carriage == g) with
  | some e => unitOf e.coach e.inst
  | none => unitOf (g / 6) (g % 6)

/-- Whether a carriage has an engine of a type in the directory. -/
def State.hasEng (s : State) (b : Blk) (g : Nat) : Bool :=
  s.dir.any (fun e => e.typ == b.typeCode && e.carriage == g)

/-- The directory entry of a window. -/
def State.entryOf (s : State) (b : Blk) (i : Nat) : Option DirEntry :=
  s.dir.find? (fun e => e.typ == b.typeCode && e.coach == i / 32 && e.inst == i % 32)

/-- Whether the part has the window: global blocks always, others by the directory. -/
def State.hasUnit (s : State) (b : Blk) (i : Nat) : Bool := b.typeCode == 0 || (s.entryOf b i).isSome

/-- The carriage of an engine window, 0xFF for none. -/
def State.carriageAt (s : State) (b : Blk) (i : Nat) : Nat :=
  match s.entryOf b i with
  | some e => e.carriage
  | none => 0xFF

/-- The CARR record of a carriage: its last applied patch's, else the full image's (R76). -/
def State.carr (s : State) (g : Nat) : Option CarrRec :=
  match s.hdr.patches.reverse.findSome? (fun im => im.carrs.find? (fun r => r.carriage == g)) with
  | some r => some r
  | none =>
    match s.hdr.active with
    | none => none
    | some im => im.carrs.find? (fun r => r.carriage == g)

/-- A carriage that the harness lists with ROLE 1 (R48). -/
def State.live (s : State) (g : Nat) : Bool :=
  match s.carr g with
  | some r => r.role == 1
  | none => false

/-- A carriage that the harness lists with ROLE 2 (R48). -/
def State.isReplay (s : State) (g : Nat) : Bool :=
  match s.carr g with
  | some r => r.role == 2
  | none => false

/-- The carriages of the running harness, rising. -/
def State.carriages (s : State) : List Nat := (List.range s.carriageCount).filter (fun g => (s.carr g).isSome)

/-- The HEAD record of the running harness. -/
def State.head (s : State) : HeadRec :=
  match s.hdr.active with
  | some im => im.head.getD ⟨100, 0, 0, 1, 1000, 1000, 0, 0, 0⟩
  | none => ⟨100, 0, 0, 1, 1000, 1000, 0, 0, 0⟩

/-- The MD grid pitch, nm (R46). -/
def State.gridMd (s : State) : Nat := Nat.max 1 s.head.gridMd

/-- The CD grid pitch, nm (R46). -/
def State.gridCd (s : State) : Nat := Nat.max 1 s.head.gridCd

/-- The seam unit window whose low carriage is g, and the offset of its registers (R27). -/
def seamInst (g : Nat) : Nat := unitOf (g / 6) (g % 6 / 2)

/-- The offset that seam unit u adds (R27). -/
def seamOff (g : Nat) : Nat := 0x100 * (g % 6 % 2)

/-- The low carriage of seam unit u of CPL n of coach c (R27). -/
def seamLow (i u : Nat) : Nat := 6 * (i / 32) + 2 * (i % 32) + u

/-! ### Output and open values -/

/-- Something leaves the part. -/
def State.emit (s : State) (k : EgKind) (unit : Nat) (body : List Nat) : State :=
  { s with egress := s.egress ++ [⟨k, unit, body⟩] }

/-- The next open value of at most n bits. -/
def State.freeVal (s : State) (bits : Nat) : Nat := Config.freeValue s.freeCtr % 2 ^ bits

/-- Count the draw of an open value. -/
def State.drawn (s : State) : State := { s with freeCtr := s.freeCtr + 1 }

/-! ### The pair role (R451) -/

/-- PAI_STATUS.STATE (R451). -/
def State.role (s : State) : Nat := s.rf 0 Reg.PAI_STATUS_STATE

/-- The standby of a pair. -/
def State.standby (s : State) : Bool := s.role == 3

/-- Outputs are suppressed in states 1, 3 and 5 (R451). -/
def State.suppressed (s : State) : Bool := s.role == 1 || s.role == 3 || s.role == 5

/-- Something leaves the part unless its role suppresses it. -/
def State.emitLive (s : State) (k : EgKind) (unit : Nat) (body : List Nat) : State := if s.suppressed then s else s.emit k unit body

/-- The present time, ns of TAI (R370). -/
def State.now (s : State) : Nat := s.tmt.ns

/-- Whether line tags carry HOLDOVER: in every Timetable state but locked and grandmaster (R122, R372). -/
def State.unlocked (s : State) : Bool := !(s.rf 0 Reg.TMT_STATUS_STATE == 3 || s.rf 0 Reg.TMT_STATUS_STATE == 5)

/-- Whether line tags of an instant carry HOLDOVER: by the state of the Timetable then (R122). -/
def State.unlockedAt (s : State) (t : Int) : Bool :=
  match (s.tmt.moves.filter (fun m => decide (t < m.1))).getLast? with
  | some m => m.2
  | none => s.unlocked

/-! ### Rein sources (R357, R358) -/

/-- The key of a source's crossing counter. -/
def crossKey (coach src ev : Nat) : Nat := (coach * 65536 + src) * 256 + ev

/-- A source raises n events: its crossing counter rises and stays at 65,535, where REI_EVENT.SRC_SAT sets (R358). Nothing is raised
while the coach's control clock stands (R369). -/
def State.reinRaise (s : State) (coach src ev n : Nat) : State :=
  if (s.rf 0 Reg.PWR_STATE_COACH_UP).testBit coach then
    let k := crossKey coach src ev
    let v := cgetD s.rein.cross k 0 + n
    let s1 := { s with rein := { s.rein with cross := cset s.rein.cross k (satN 65535 v) } }
    if v > 65535 then s1.wf (unitOf coach 0) Reg.REI_EVENT_SRC_SAT 1 else s1
  else s

/-- The Rein source of a bit of an event register: coach, source number, event number (R357). -/
def State.reinSource (s : State) (i : Nat) (f : Fld) : Option (Nat × Nat × Nat) :=
  match f.blk with
  | .WAY => if f.off < 0x800 then some (0, 0xF001, 32 + 16 * ((f.off - 0x10C) / 0x100) + f.lo) else none
  | .TMT => if f.off = 0x10 then some (0, 0xF002, 16 + f.lo) else none
  | .PAI => some (0, 0xF002, 32 + f.lo)
  | .RNG => some (0, 0xF002, 48 + f.lo)
  | .LAN => some (i / 32, 0xF010, 8 * (i % 32) + f.lo)
  | .DMC => some (i / 32, 0xF011, 16 * (i % 32) + f.lo)
  | .MEW => some (i / 32, 0xF012, f.lo)
  | .WHT => some (i / 32, 0xF013, 4 * (i % 32) + f.lo)
  | .ING | .TRU | .RGA | .CPL | .SPR | .SEG | .LBL | .DBM | .STA | .PAT | .PMT | .PVW =>
    match s.entryOf f.blk i with
    | some e => some (i / 32, e.engn, f.lo + (if f.blk = .CPL then 16 * (f.off / 0x100) else 0))
    | none => none
  | .GLB | .HDR | .YOK | .OUT | .PST | .LCH | .PWR | .CLK | .REI | .BKL | .DRY | .WWT => none

/-! ### Interrupts (R394, R395, R505) -/

/-- Whether a register is not zero. -/
def State.nz (s : State) (b : Blk) (i o : Nat) : Bool := s.word b i o != 0

/-- A bit mask from a list of conditions, the first at bit 0. -/
def maskOf (l : List Bool) : Nat := (List.range l.length).foldl (fun a k => if l.getD k false then a + 2 ^ k else a) 0

/-- Whether a seam unit joins two sides (R203, R204): its window exists and LINK is not 3. -/
def State.seamOn (s : State) (g : Nat) : Bool :=
  (s.entryOf .CPL (seamInst g)).isSome && s.rf (seamInst g) (Reg.CPL_CFG_LINK.sh (seamOff g)) != 3

/-- The masters whose YOK banks hold something (R406). -/
def State.yokMasters (s : State) : List Nat :=
  ((s.regs.map (fun p => p.1)).filter (fun k => keyBlk k == .YOK)).map keyInst

/-- The source bits of a vector: one bit per source of R505, each the OR of the bits that raise the vector. -/
def State.irqSrc (s : State) (v : Nat) : Nat :=
  if v = 0 then b2n (s.irq.glbNew != 0)
  else if v = 1 then b2n (s.rb 0 Reg.HDR_STATUS_DONE || s.rb 0 Reg.HDR_STATUS_FAIL)
  else if v = 2 then
    maskOf [s.yokMasters.any (fun m => s.rb m Reg.YOK_STATUS_DONE || s.rb m Reg.YOK_STATUS_FAIL),
            s.yokMasters.any (fun m => s.rb m Reg.YOK_STATUS_APPLIED)]
  else if v = 3 then
    maskOf ((List.range 16).map (fun m => s.rf 0 (Reg.PST_CFG_RECEIVER.sh (0x100 * m)) == 1 &&
      (s.word .PST 0 (0x0C + 0x100 * m) &&& s.word .PST 0 (0x14 + 0x100 * m)) != 0))
  else if v = 4 then maskOf [s.nz .LCH 0 4, s.nz .LCH 0 8]
  else if v = 5 then b2n (s.nz .TMT 0 0x10)
  else if v = 6 then
    maskOf ((List.range 4).map (fun p => s.nz .WAY 0 (0x10C + 0x100 * p)) ++
      (List.range 16).map (fun u => s.rb 0 (Reg.WAY_CMP_STATUS_FIRED.sh (0x40 * u)) ||
        s.rb 0 (Reg.WAY_CMP_STATUS_LATE.sh (0x40 * u)) || s.rb 0 (Reg.WAY_CMP_STATUS_FULL.sh (0x40 * u))))
  else if v = 7 then maskOf [s.nz .PAI 0 0x10, s.nz .RNG 0 0x08]
  else if v = 8 then
    b2n (s.nz .PWR 0 0x1C || (List.range s.hw.coaches).any (fun c => s.nz .WWT (unitOf c 0) 0x0C))
  else if v = 9 then
    maskOf (s.nz .DBM 0 0x54 :: (List.range (2 * s.hw.coaches)).map (fun k => s.nz .PAT (unitOf (k / 2) (k % 2)) 0x24))
  else if v < 16 then 0
  else if v < 16 + 8 * s.hw.coaches then
    let c := (v - 16) / 8
    match (v - 16) % 8 with
    | 0 => maskOf [s.nz .DMC (unitOf c 0) 0x0C, s.nz .DMC (unitOf c 1) 0x0C]
    | 1 => maskOf (s.nz .MEW (unitOf c 0) 0x04 :: (List.range 9).map (fun u => s.nz .WHT (unitOf c u) 0x18) ++
            [s.nz .REI (unitOf c 0) 0x04])
    | 2 => maskOf ((List.range 32).map (fun n => s.rb (unitOf c 0) (Reg.DRY_CH_CFG_IRQ_EN.sh (0x40 * n)) &&
            ((s.word .DRY (unitOf c 0) 4 ||| s.word .DRY (unitOf c 0) 8).toNat.testBit n)))
    | 3 => maskOf ((List.range 16).map (fun l => s.nz .LAN (unitOf c l) 0x1C))
    | 4 => s.rf 0 (Reg.GLB_REIN_IRQ_BITS.sh (4 * c))
    | 5 => maskOf ((List.range 4).map (fun n => s.nz .PMT (unitOf c n) 0x08))
    | 6 => maskOf ((List.range 2).map (fun n => s.nz .PVW (unitOf c n) 0x40))
    | _ => 0
  else if v < 80 then 0
  else if v < 80 + s.carriageCount then
    let g := v - 80
    maskOf [s.hasEng .ING g && s.nz .ING (s.eng .ING g) 0x30, s.hasEng .STA g && s.nz .STA (s.eng .STA g) 0x2C,
      s.hasEng .TRU g && s.nz .TRU (s.eng .TRU g) 0xA0, s.hasEng .RGA g && s.nz .RGA (s.eng .RGA g) 0x44,
      s.hasEng .SPR g && s.nz .SPR (s.eng .SPR g) 0x24, s.hasEng .SEG g && s.nz .SEG (s.eng .SEG g) 0x34,
      s.hasEng .LBL g && s.nz .LBL (s.eng .LBL g) 0x0C,
      decide (0 < g) && s.seamOn (g - 1) && s.nz .CPL (seamInst (g - 1)) (0x20 + seamOff (g - 1)),
      s.seamOn g && s.nz .CPL (seamInst g) (0x20 + seamOff g)]
  else 0

/-- The level of a vector: the OR of its source bits (R394). -/
def State.irqLevel (s : State) (v : Nat) : Bool := s.irqSrc v != 0

/-- A vector's message goes, or its pending bit sets where the MSI-X table masks it (R395). -/
def State.sendVector (s : State) (v : Nat) : State :=
  if s.irq.masked.contains v then
    { s with irq := { s.irq with pend := if s.irq.pend.contains v then s.irq.pend else v :: s.irq.pend } }
  else s.emit .msix v []

/-- After a change, each of the vectors whose level rose sends (R395). -/
def State.edges (old : State) (vs : List Nat) (s : State) : State :=
  vs.foldl (fun t v => if !old.irqLevel v && t.irqLevel v then t.sendVector v else t) s

/-- The vectors that a bit of an event register raises (R394). -/
def State.vectorsOf (s : State) (i : Nat) (f : Fld) : List Nat :=
  match f.blk with
  | .GLB => if f.off < 0x180 then [0] else [20 + 8 * ((f.off - 0x180) / 4)]
  | .HDR => [1] | .YOK => [2] | .PST => [3] | .LCH => [4] | .TMT => [5] | .WAY => [6]
  | .PAI => [7] | .RNG => [7] | .PWR => [8] | .WWT => [8] | .DBM => [9] | .PAT => [9]
  | .DMC => [16 + 8 * (i / 32)]
  | .MEW => [17 + 8 * (i / 32)] | .WHT => [17 + 8 * (i / 32)] | .REI => [17 + 8 * (i / 32)]
  | .DRY => [18 + 8 * (i / 32)]
  | .LAN => [19 + 8 * (i / 32)]
  | .PMT => [21 + 8 * (i / 32)]
  | .PVW => [22 + 8 * (i / 32)]
  | .ING | .TRU | .RGA | .SPR | .SEG | .LBL | .STA => [80 + s.carriageAt f.blk i]
  | .CPL => let g := seamLow i (f.off / 0x100); [80 + g, 80 + g + 1]
  | .OUT | .CLK | .BKL => []

/-- A status or event bit sets: it stays until software clears it, its Rein event is raised each time its cause recurs (R357), and
the vectors whose level rises send (R395). -/
def State.ev (s : State) (i : Nat) (f : Fld) : State :=
  let s1 := s.wf i f 1
  let s2 := match s.reinSource i f with
    | some (c, src, n) => s1.reinRaise c src n 1
    | none => s1
  State.edges s (s.vectorsOf i f) s2

/-- Set an event bit when a condition holds. -/
def State.evIf (s : State) (p : Bool) (i : Nat) (f : Fld) : State := if p then s.ev i f else s

/-! ### Error codes and the fault log (R15, R325, R482) -/

/-- The entries that the fault log holds: 512 KiB for each two coaches (R323, R325). -/
def State.faultRoom (s : State) : Nat := s.hw.coaches / 2 * 16384

/-- Log a code in the Waybill: a repeat of the newest entry's code and coach within 1 s raises its COUNT (R325). -/
def State.logFault (s : State) (code coach master detail : Nat) : State :=
  let fresh : FaultEntry := ⟨s.now, code, coach, master, 0, detail⟩
  match s.store.faults with
  | [] => { s with store := { s.store with faults := [fresh] } }
  | e :: t =>
    if e.code = code ∧ e.coach = coach ∧ s.now ≤ e.time + 1000000000 then
      { s with store := { s.store with faults := { e with count := satN 65535 (e.count + 1) } :: t } }
    else { s with store := { s.store with faults := (fresh :: e :: t).take s.faultRoom } }

/-- The G-code of these digits, in the form of R15. -/
def gWord (d : Nat) : Nat := codeWord 'G' d

/-- A vector 0 source: a new code in GLB_ERR (R394, log 5). -/
def State.glbRaise (s : State) : State :=
  if s.irq.glbNew = 0 then ({ s with irq := { s.irq with glbNew := 1 } } : State).sendVector 0
  else { s with irq := { s.irq with glbNew := 2 } }

/-- Record a G-code with an offset or address and a master (R422, R482). -/
def State.gcode (s : State) (d addr master : Nat) : State :=
  (((((s.wf 0 Reg.GLB_ERR_CODE (gWord d)).wf 0 Reg.GLB_ERR_ADDR_OFFSET addr).wf 0 Reg.GLB_ERR_MASTER_MASTER master).inc 0
    Reg.GLB_ERR_MASTER_COUNT).logFault (gWord d) 0 master addr).glbRaise

/-- Write GLB_FAB_ERR, which also records G-0054 (R478). -/
def State.fabErr (s : State) (code coach detail : Nat) : State :=
  ((s.wf 0 Reg.GLB_FAB_ERR_CODE code).logFault code coach 0 detail).gcode 0x0054 0 0

/-- Record an L-code of a lane (R108, R482). -/
def State.lcode (s : State) (lane d : Nat) : State :=
  (s.wf (laneInst lane) Reg.LAN_ERR_CODE (codeWord 'L' d)).logFault (codeWord 'L' d) (lane / 16) 0 lane

/-- Record a D- or M-code of a DDR5 channel 2c + d (R482). -/
def State.dmcCode (s : State) (ch : Nat) (letter : Char) (d detail : Nat) : State :=
  (s.wf (unitOf (ch / 2) (ch % 2)) Reg.DMC_ERR_CODE (codeWord letter d)).logFault (codeWord letter d) (ch / 2) 0 detail

/-- Log a W-code (R447, R482). -/
def State.wcode (s : State) (coach d detail : Nat) : State := s.logFault (codeWord 'W' d) coach 0 detail

/-- Record a P-code of the pair (R482). -/
def State.pcode (s : State) (d : Nat) : State :=
  (s.wf 0 Reg.PAI_ERR_CODE (codeWord 'P' d)).logFault (codeWord 'P' d) 0 0 0

/-- Record a P-code of the ring (R482). -/
def State.rcode (s : State) (d : Nat) : State :=
  (s.wf 0 Reg.RNG_ERR_CODE (codeWord 'P' d)).logFault (codeWord 'P' d) 0 0 0

/-- Record an H-code where R72 says it failed; H-codes of boot attempts and H-0F01 are also logged (R482). -/
def State.hcode (s : State) (d sect record carriage value : Nat) (log : Bool) : State :=
  let s1 := ((((s.wf 0 Reg.HDR_ERR_CODE (codeWord 'H' d)).wf 0 Reg.HDR_ERR_LOC_CARRIAGE carriage).wf 0
    Reg.HDR_ERR_LOC_SECTION sect).wf 0 Reg.HDR_ERR_LOC_RECORD record).wf 0 Reg.HDR_ERR_VALUE_VALUE value
  if log then s1.logFault (codeWord 'H' d) 0 0 value else s1

/-- A Y-code in a master's bank (R406, R482). -/
def State.ycode (s : State) (m d loc value : Nat) : State :=
  ((s.wf m Reg.YOK_ERR_CODE (codeWord 'Y' d)).wf m Reg.YOK_ERR_LOC_OFFSET loc).wf m Reg.YOK_ERR_VALUE_VALUE value

/-! ### Reset domains (R12) -/

/-- Whether a register is of a domain or of one after it. -/
def domAtLeast (d : Dom) (b : Blk) (o : Nat) : Bool :=
  match findDef b o with
  | some r => decide (d.rank ≤ r.dom.rank)
  | none => true

/-- Restore every register that p picks and that is of domain d or after it: the stored word goes, and a Y-domain register with a
YOKE or record value takes that value again (R12, R58). -/
def State.restore (s : State) (d : Dom) (p : Blk → Nat → Nat → Bool) : State :=
  let hit := fun (k : Nat) => p (keyBlk k) (keyInst k) (keyOff k) && domAtLeast d (keyBlk k) (keyOff k)
  let kept := s.regs.filter (fun e => !hit e.1)
  { s with regs := s.ydef.foldl (fun m e => if p (keyBlk e.1) (keyInst e.1) (keyOff e.1) then cset m e.1 e.2 else m) kept }

end Sys2Proof.Machine
end

