-- ==== Sys2Proof/Machine/WayPos.lean ====
section
/-! DEFINITION. Where the web is (R153, R154, R157, R158): positions and speeds of the Waywiser at the present sample and at an instant. -/

namespace Sys2Proof.Machine

/-- One nanometre in the units of a position. -/
def nmQ : Int := 4294967296

/-- A field of port p. -/
def wp (f : Fld) (p : Nat) : Fld := f.sh (0x100 * p)

/-- A field of compare unit u. -/
def wc (f : Fld) (u : Nat) : Fld := f.sh (0x40 * u)

/-- Encoder port p. -/
def State.port (s : State) (p : Nat) : WayPort := s.way.ports.getD p WayPort.fresh

/-- Change port p. -/
def State.portMod (s : State) (p : Nat) (f : WayPort → WayPort) : State :=
  { s with way := { s.way with ports := lmod s.way.ports p f } }

/-- Counts per revolution (R149). -/
def State.cpr (s : State) (p : Nat) : Int := s.rf 0 (wp Reg.WAY_CPR_CPR_M1 p) + 1

/-- The count of a port. -/
def State.count (s : State) (p : Nat) : Int := s.rf 0 (wp Reg.WAY_COUNT_COUNT p)

/-- The revolution counter of a port. -/
def State.rev (s : State) (p : Nat) : Int := sgn 32 (s.rf 0 (wp Reg.WAY_REV_REV p))

/-- The extended count (R149). -/
def State.ext (s : State) (p : Nat) : Int := s.rev p * s.cpr p + s.count p

/-- Nanometres per count, u32.32 (R153). -/
def State.npc (s : State) (p : Nat) : Int := s.rf64 0 (wp Reg.WAY_NPC_LO_FRAC p)

/-- The present sample, in ns of the sample count. -/
def State.sampleNs (s : State) : Int := 4 * s.tmt.samples

/-- The number of the present sample: of the sample clock awake, of the Box clock asleep (R165). -/
def State.tickNo (s : State) : Nat := s.tmt.samples + s.tmt.boxTicks

/-- The part's own time since PORn, ns: 4 ns a sample awake, a period of the Box clock asleep; no step of the Timetable moves it. -/
def State.monoNs (s : State) : Nat := (4 * 8388608 * s.tmt.samples + 1000000000 * s.tmt.boxTicks) / 8388608

/-- Whether the package is asleep (R165): Stand or Box-only, and an entry from Stand into Box-only, whose clocks have stopped already. -/
def State.asleep (s : State) : Bool :=
  let st := s.rf 0 Reg.PWR_STATE_STATE
  st == 1 || st == 2 || (st == 3 && s.rf 0 Reg.PWR_STATE_COACH_UP == 0)

/-- The counted position, before anything below 0 reads as 0 (R153). -/
def State.countedPos (s : State) (p : Nat) : Int := (s.port p).origin + s.ext p * s.npc p

/-- The instant of the latest edge or good frame; the present one where there was none. -/
def State.edgeNs (s : State) (p : Nat) : Int :=
  match (s.port p).hist with
  | e :: _ => e.ns
  | [] => s.sampleNs

/-- The speed estimate at an instant, with the bound of an overdue edge (R157); an absolute port has no counts to be overdue. -/
def State.speedAt (s : State) (p : Nat) (ns : Int) : Int :=
  let v := (s.port p).speed
  let dt := ns - s.edgeNs p
  if dt ≤ 0 ∨ s.rf 0 (wp Reg.WAY_CFG_MODE p) ≠ 1 then v
  else
    let b := rne (s.npc p) dt.toNat
    if b < v then b else if v < -b then -b else v

/-- The speed estimate now. -/
def State.speedQ (s : State) (p : Nat) : Int := s.speedAt p s.sampleNs

/-- The real-time position of a port at a sample, unlimited below: interpolation from the latest edge, never reaching the next count
and never going behind the edge; without a clamp in absolute mode; none asleep (R158, R165). -/
def State.posRaw (s : State) (p : Nat) (ns : Int) : Int :=
  let base := s.countedPos p
  if s.asleep then base
  else
    let v := (s.port p).speed
    let inc := v * (ns - s.edgeNs p)
    if s.rf 0 (wp Reg.WAY_CFG_MODE p) = 2 then base + inc
    else
      let top := s.npc p - 1
      if 0 ≤ v then base + clampI 0 (if top < 0 then 0 else top) inc else base + clampI (if top < 0 then 0 else -top) 0 inc

/-- The real-time position of a port (R158); below 0 it reads as 0 (R153). -/
def State.posQ (s : State) (p : Nat) : Int :=
  let x := s.posRaw p s.sampleNs
  if x < 0 then 0 else x

/-- The position one sample before the present one (R162). -/
def State.posBefore (s : State) (p : Nat) : Int :=
  let w := s.port p
  if w.moved = s.tickNo then w.before else s.posRaw p (s.sampleNs - 4)

/-- The web master's port (R144). -/
def State.webPort (s : State) : Nat := s.rf 0 Reg.WAY_MASTER_PORT

/-- The web position (R144, R154). -/
def State.webQ (s : State) : Int := s.posQ s.webPort + s.way.offset

/-- The web position in whole nm. -/
def State.webNm (s : State) : Int := rne s.webQ 4294967296

/-- Whether a port is uncertain or suspect (R156). -/
def State.portUnsure (s : State) (p : Nat) : Bool := s.rb 0 (wp Reg.WAY_STATUS_UNCERTAIN p) || s.rb 0 (wp Reg.WAY_STATUS_SUSPECT p)

/-- The position between two recorded edges, newest first, at an instant they enclose (R158). -/
def between : List WayEdge → Int → Option Int
  | b :: a :: t, ns =>
    if a.ns ≤ ns then
      if b.ns - a.ns ≤ 0 then some b.pos else some (a.pos + rne ((b.pos - a.pos) * (ns - a.ns)) (b.ns - a.ns).toNat)
    else between (a :: t) ns
  | _, _ => none

/-- The answer to a position query at an instant of TAI: web position in nm and whether it is uncertain (R156, R158). -/
def State.webAt (s : State) (t : Int) : Nat × Bool :=
  let p := s.webPort
  let unsure := s.portUnsure p
  let d := t - s.now
  let ns := s.sampleNs + d
  let hist := (s.port p).hist
  let r : Int × Bool :=
    if 0 ≤ d then (s.posQ p + s.speedQ p * d, unsure || decide (1000000 < d))
    else if d < -1000000 then ((hist.getLast?.map (fun e => e.pos)).getD (s.countedPos p), true)
    else if s.edgeNs p ≤ ns then (s.posRaw p ns, unsure)
    else
      match between hist ns with
      | some x => (x, unsure)
      | none => ((hist.getLast?.map (fun e => e.pos)).getD (s.countedPos p), true)
  let x := rne ((if r.1 < 0 then 0 else r.1) + s.way.offset) 4294967296
  ((if x < 0 then 0 else x).toNat, r.2)

/-- The delay of the speed path, ns (R157); all ones at standstill. -/
def State.speedDelay (s : State) (p : Nat) : Nat :=
  let v := (s.speedQ p).natAbs
  if v = 0 then 0xFFFFFFFF
  else satN 0xFFFFFFFF (rne ((2 ^ (s.rf 0 (wp Reg.WAY_CTL_SPEED_SHIFT p)) + 1) * s.npc p) v).toNat

/-- The words that reads of position and speed registers return. -/
def State.wayShown (s : State) (off : Nat) (raw : Word) : Word :=
  if off < 0x100 ∨ 0x500 ≤ off then raw
  else
    let p := off / 0x100 - 1
    let lo := fun (x : Int) => BitVec.ofInt 32 x
    let hi := fun (x : Int) => BitVec.ofInt 32 (Int.ediv x 4294967296)
    match off % 0x100 with
    | 0x20 => lo (rne (s.posQ p) 4294967296)
    | 0x24 => hi (rne (s.posQ p) 4294967296)
    | 0x48 => lo (s.speedQ p)
    | 0x4C => hi (s.speedQ p)
    | 0x50 => BitVec.ofNat 32 (s.speedDelay p)
    | _ => raw

end Sys2Proof.Machine
end

