-- ==== Sys2Proof/Machine/Flags.lean ====
section
/-! DEFINITION. Flag computations that several blocks share: the level of an output pin from the pulses on it (R497), the level of a
status from its causes, and the limits of a signed sample (R6). -/

namespace Sys2Proof.Machine

/-- A value limited to WP16, u12.4: 0 to 65,535 sixteenths (R6). -/
def wp16 (x : Int) : Nat := (clampI 0 65535 x).toNat

/-- Whether a value falls outside WP16. -/
def wp16Over (x : Int) : Bool := decide (x < 0) || decide (x > 65535)

/-- A value limited to S16, s11.4 (R6). -/
def s16 (x : Int) : Int := clampI (-32768) 32767 x

/-- Whether a value falls outside S16. -/
def s16Over (x : Int) : Bool := decide (x < -32768) || decide (x > 32767)

end Sys2Proof.Machine
end

