-- ==== Sys2Proof/Machine/Mem.lean ====
section
/-! DEFINITION. Package DRAM: bytes and poison, the Felloe code (R299 to R303), and the package address space (R309 to R311). -/

namespace Sys2Proof.Machine

/-! ### Bytes -/

/-- The byte at a package address; an unlisted one reads 0 (log 20). -/
def Memory.byte (m : Memory) (a : Nat) : Byte := cgetD m a 0

/-- Store a byte, keeping the canonical form: 0 is not listed. -/
def Memory.put (m : Memory) (a : Nat) (b : Byte) : Memory := if b = 0 then cdel m a else cset m a b

/-- The canonical form: addresses rise strictly and no entry is 0. -/
def Memory.wf (m : Memory) : Bool := ckeysRise m && m.all (fun e => e.2 != 0)

/-- n bytes from an address on. -/
def Memory.readBytes (m : Memory) (a n : Nat) : List Byte := (List.range n).map (fun k => m.byte (a + k))

/-- Store bytes from an address on. -/
def Memory.writeBytes (m : Memory) (a : Nat) : List Byte → Memory
  | [] => m
  | b :: t => Memory.writeBytes (m.put a b) (a + 1) t

/-- Take every byte from lo up to but not including hi out. -/
def Memory.wipe (m : Memory) (lo hi : Nat) : Memory := m.filter (fun e => decide (e.1 < lo) || decide (hi ≤ e.1))

/-- The part of a list of undefined ranges outside lo to hi (R70). -/
def carve (l : List Stale) (lo hi : Nat) : List Stale :=
  (l.flatMap (fun r => [⟨r.lo, Nat.min r.hi lo, r.draw⟩, ⟨Nat.max r.lo hi, r.hi, r.draw⟩])).filter (fun r => decide (r.lo < r.hi))

/-- The part of a list of undefined ranges inside lo to hi. -/
def within (l : List Stale) (lo hi : Nat) : List Stale :=
  (l.map (fun r => (⟨Nat.max r.lo lo, Nat.min r.hi hi, r.draw⟩ : Stale))).filter (fun r => decide (r.lo < r.hi))

/-- The undefined range that holds an address. -/
def State.staleAt (s : State) (a : Nat) : Option Stale := s.stale.find? (fun r => decide (r.lo ≤ a) && decide (a < r.hi))

/-- The byte of DRAM at a package address: an open value where an apply left it undefined (R70). -/
def State.byteAt (s : State) (a : Nat) : Byte :=
  match s.staleAt a with
  | some r => BitVec.ofNat 8 (Config.staleByte r.draw a)
  | none => s.mem.byte a

/-- n bytes of DRAM from an address on. -/
def State.dramBytes (s : State) (a n : Nat) : List Byte := (List.range n).map (fun k => s.byteAt (a + k))

/-- Whether a word of 8 bytes of DRAM is poisoned (R303); an open value where an apply left any of it undefined (R70). -/
def State.poisonAt (s : State) (w : Nat) : Bool :=
  s.poison.contains w || (within s.stale (8 * w) (8 * w + 8)).any (fun r => Config.stalePoison r.draw w)

/-! ### The Felloe code -/

/-- Product in GF(16) modulo α^4 + α + 1 (R299). -/
def gfMul (a b : Nat) : Nat :=
  let p := (List.range 4).foldl (fun x k => if b.testBit k then x ^^^ (a * 2 ^ k) else x) 0
  (List.range 3).foldl (fun x k => if x.testBit (6 - k) then x ^^^ (0x13 * 2 ^ (2 - k)) else x) p

/-- g_i of R300. -/
def gfG (i : Nat) : Nat := gfMul i i ^^^ gfMul 2 i ^^^ 6

/-- Symbol k of a code word. -/
def symb (r k : Nat) : Nat := r / 16 ^ k % 16

/-- A sum over the data symbols. -/
def gfSum (d : Nat) (f : Nat → Nat) : Nat := (List.range 16).foldl (fun x i => x ^^^ gfMul (f i) (symb d i)) 0

/-- The 80-bit Felloe word of 64 data bits (R301); a poisoned word has its check bits inverted. -/
def felloe (d : Nat) (poison : Bool) : Nat :=
  let d := d % 2 ^ 64
  let s0 := gfSum d (fun _ => 1)
  let s1 := gfSum d id
  let s3 := gfSum d gfG
  let c16 := gfMul 3 s0 ^^^ s1
  let chk := c16 + 16 * (c16 ^^^ s3) + 256 * s1 + 4096 * gfMul 2 s0
  d + 2 ^ 64 * (if poison then chk ^^^ 0xFFFF else chk)

/-- The syndrome of a word (R302). -/
def syndrome (r : Nat) : Nat × Nat × Nat × Nat :=
  let s0 := gfSum r (fun _ => 1)
  let c := fun k => symb r k
  (s0 ^^^ c 16 ^^^ c 18 ^^^ c 19, gfSum r id ^^^ c 18, gfMul 2 s0 ^^^ c 19, gfSum r gfG ^^^ c 17 ^^^ c 18 ^^^ gfMul 8 (c 19))

/-- The symbol and the error that explain a syndrome, if one symbol does (R302). -/
def oneSymbol (s : Nat × Nat × Nat × Nat) : Option (Nat × Nat) :=
  let col := fun (i : Nat) =>
    if i < 16 then (1, i, 2, gfG i) else if i = 16 then (1, 0, 0, 0) else if i = 17 then (0, 0, 0, 1)
    else if i = 18 then (1, 1, 0, 1) else (1, 0, 1, 8)
  let hit := fun (i e : Nat) =>
    let h := col i
    s == (gfMul e h.1, gfMul e h.2.1, gfMul e h.2.2.1, gfMul e h.2.2.2)
  ((List.range 20).flatMap (fun i => (rangeFrom 1 15).map (fun e => (i, e)))).find? (fun p => hit p.1 p.2)

/-- The class of a word read (R302). -/
inductive WordClass where
  | clean | corrected (symbol : Nat) | poison | uncorrectable
  deriving DecidableEq, Repr

/-- Classify a word and give the data delivered (R302). -/
def felloeRead (r : Nat) : WordClass × Nat :=
  let s := syndrome r
  let d := r % 2 ^ 64
  if s = (0, 0, 0, 0) then (.clean, d)
  else
    match oneSymbol s with
    | some (i, e) => (.corrected i, if i < 16 then d ^^^ (e * 16 ^ i) else d)
    | none =>
      let t := (s.1 ^^^ 15, s.2.1 ^^^ 15, s.2.2.1 ^^^ 15, s.2.2.2 ^^^ 1)
      if t = (0, 0, 0, 0) ∨ (oneSymbol t).isSome then (.poison, d) else (.uncorrectable, d)

/-! ### The package address space -/

/-- Daxpamen's reserve ends here (R309). -/
def reserveTop : Nat := 0x10000000

/-- The DRAM records in force: the full image's and those of applied patches, which take the place of their carriage's (R76). -/
def State.dramRecs (s : State) : List DramRec :=
  let gone := fun (r : DramRec) => s.hdr.patches.any (fun p => p.hdr.patchCarriage == r.carriage && p.drams != [])
  (match s.hdr.active with
   | some im => im.drams.filter (fun r => !gone r)
   | none => []) ++ s.hdr.patches.flatMap (fun im => im.drams)

/-- The record of a partition number, the latest if a patch brought one. -/
def State.partRec (s : State) (n : Nat) : Option DramRec := s.dramRecs.reverse.find? (fun r => r.partition == n && r.kind != 9)

/-- The base at which a partition was placed (R310). -/
def State.partBase (s : State) (n : Nat) : Nat := cgetD s.hdr.parts n 0

/-- The partition that holds an address. -/
def State.partAt (s : State) (a : Nat) : Option DramRec :=
  match s.hdr.parts.find? (fun p => match s.partRec p.1 with
      | some r => decide (p.2 ≤ a) && decide (a < p.2 + r.size)
      | none => false) with
  | some p => s.partRec p.1
  | none => none

/-- Whether an access by a master other than Daxpamen reaches DRAM at an address (R309, R310). -/
def State.dramOpen (s : State) (a : Nat) : Bool :=
  if a < reserveTop then decide (0x1000000 ≤ a) && decide (a < 0x2000000) else (s.partAt a).isSome

/-- The members of a CHANNELS mask, rising. -/
def chanList (mask : Nat) : List Nat := (List.range 16).filter (fun k => mask.testBit k)

/-- The package channel that holds an address (R309, R311). -/
def State.chanOf (s : State) (a : Nat) : Nat :=
  match s.partAt a with
  | none => 0
  | some r =>
    let l := chanList r.channels
    l.getD ((a - s.partBase r.partition) / 2 ^ r.granule % Nat.max 1 l.length) 0

/-- The DMC window of a package channel. -/
def chanInst (ch : Nat) : Nat := unitOf (ch / 2) (ch % 2)

/-- The words of 8 bytes that a range touches. -/
def wordsIn (a n : Nat) : List Nat := if n = 0 then [] else rangeFrom (a / 8) ((a + n - 1) / 8 + 1 - a / 8)

/-- Whether a range holds a poisoned word (R303). -/
def State.poisonIn (s : State) (a n : Nat) : Bool := (wordsIn a n).any s.poisonAt

/-- Mark or clear the poison of a word. -/
def State.setPoison (s : State) (w : Nat) (on : Bool) : State :=
  { s with poison := if on then (if s.poison.contains w then s.poison else w :: s.poison) else s.poison.filter (fun x => x != w) }

/-- Count the blocks of 128 bytes that a write covers only in part, each on its channel (R305). -/
def State.countRmw (s : State) (a n : Nat) : State :=
  if n = 0 then s
  else
    (rangeFrom (a / 128) ((a + n - 1) / 128 + 1 - a / 128)).foldl (fun t k =>
      if a ≤ 128 * k ∧ 128 * (k + 1) ≤ a + n then t else t.inc (chanInst (t.chanOf (128 * k))) Reg.DMC_RMW_COUNT) s

/-- Store bytes in package DRAM: whole words written are clean, or poisoned if the write is; words written in part keep their poison
(R303), one that was open (R70) too. -/
def State.dramPut (s : State) (a : Nat) (l : List Byte) (poison : Bool) : State :=
  let n := l.length
  let s1 := { s with mem := s.mem.writeBytes a l, stale := carve s.stale a (a + n) }
  let s2 := (wordsIn a n).foldl (fun t w =>
    if poison then t.setPoison w true
    else if a ≤ 8 * w ∧ 8 * w + 8 ≤ a + n then t.setPoison w false
    else if s.poisonAt w then t.setPoison w true else t) s1
  s2.countRmw a n

/-- A write from a master: bytes outside what is open are discarded, with G-0010 for the first of them (R309, R310). -/
def State.dramWrite (s : State) (m a : Nat) (l : List Byte) (poison : Bool) : State :=
  if (List.range l.length).all (fun k => s.dramOpen (a + k)) then s.dramPut a l poison
  else
    let s1 := (List.range l.length).foldl (fun t k =>
      if t.dramOpen (a + k) then t.dramPut (a + k) [l.getD k 0] poison else t) s
    match (List.range l.length).find? (fun k => !s.dramOpen (a + k)) with
    | some k => s1.gcode 0x0010 (a + k) m
    | none => s1

/-- A read by a master: bytes outside what is open read 0, with G-0010 for the first of them; and whether a poisoned word was read. -/
def State.dramRead (s : State) (m a n : Nat) : List Byte × Bool × State :=
  let l := (List.range n).map (fun k => if s.dramOpen (a + k) then s.byteAt (a + k) else 0)
  let s1 := match (List.range n).find? (fun k => !s.dramOpen (a + k)) with
    | some k => s.gcode 0x0010 (a + k) m
    | none => s
  (l, s.poisonIn a n, s1)

/-- The words that DMC_PART_INFO to DMC_PART_SIZE_HI show for the partition that DMC_PART_SEL selects. -/
def State.partWord (s : State) (i off : Nat) (raw : Word) : Word :=
  if off < 0xA4 ∨ 0xB8 < off then raw
  else
    match s.partRec (s.rf i Reg.DMC_PART_SEL_PARTITION) with
    | none => if off = 0xA4 then 0xFF00 else 0
    | some r =>
      let b := s.partBase r.partition
      BitVec.ofNat 32 (match off with
        | 0xA4 => r.kind + 256 * r.carriage + 65536 * r.granule + 2 ^ 31
        | 0xA8 => r.channels
        | 0xAC => b
        | 0xB0 => b / 2 ^ 32
        | 0xB4 => r.size
        | _ => r.size / 2 ^ 32)

end Sys2Proof.Machine
end

