-- ==== Sys2Proof/Machine/Operands.lean ====
section
/-! DEFINITION. How a master's access finds a register and what it does there: the address map (R33, R34, R404, R475, R481), stopped
domains and the guard (R400 to R402), the access codes (R10), staged writes (R404, R406), latched 64-bit reads (R8, R403). -/

namespace Sys2Proof.Machine

/-- The host's master ID (R388). -/
def mHost : Nat := 0x01
/-- The Outrider's master ID (R388). -/
def mOut : Nat := 0x10
/-- Daxpamen's master ID on behalf of the Wheelwright (R388). -/
def mWwt : Nat := 0x7F

/-- Whether a master counts as secure (R388). -/
def secureMaster (m : Nat) : Bool := m == mOut || (decide (0x20 ≤ m) && decide (m < 0x30)) || m == mWwt

/-- A Drayage channel (R388): it makes no register access and owns no Linchpin. -/
def drayMaster (m : Nat) : Bool := decide (0x40 ≤ m) && decide (m < 0x60)

/-- Where an active-view offset leads. -/
structure Loc where
  blk : Blk
  inst : Nat
  off : Nat
  rdef : RegDef
  deriving DecidableEq, Repr

/-- The register at an active-view offset for a master, if one is there (R34, R475, R481). While a harness applies, engine and fabric windows are
unoccupied (R70). YOK's first seven registers are banked by
master (R406). -/
def State.locate (s : State) (m off : Nat) : Option Loc :=
  if off % 4 ≠ 0 then none
  else if off < 0xC000 then
    let b := blkOfCode (off / 0x1000)
    let o := off % 0x1000
    match findDef b o with
    | some d => some ⟨b, if b = .YOK ∧ o < 0x1C then m else 0, o, d⟩
    | none => none
  else if s.rf 0 Reg.HDR_STATUS_PHASE = 4 then none
  else
    match s.dir.find? (fun e => decide (e.base ≤ off) && decide (off < e.base + e.size)) with
    | none => none
    | some e =>
      match blkOfType e.typ with
      | none => none
      | some b =>
        let o := off - e.base
        match findDef b o with
        | some d => some ⟨b, unitOf e.coach e.inst, o, d⟩
        | none => none

/-- The active-view offset of a register key, for the registers that record an offset; 0 where the window is gone. -/
def State.offsetOf (s : State) (k : Nat) : Nat :=
  let b := keyBlk k
  if b.typeCode = 0 then b.code * 0x1000 + keyOff k
  else
    match s.entryOf b (keyInst k) with
    | some e => e.base + keyOff k
    | none => 0

/-- Whether a register holds a staged field (R404). -/
def RegDef.hasRws (d : RegDef) : Bool := d.fields.any (fun f => f.acc == .RWS)

/-- The bits of the fields of one access code. -/
def RegDef.maskAcc (d : RegDef) (a : Acc) : Word :=
  d.fields.foldl (fun w f => if f.acc = a then w ||| maskBits f.hi f.lo else w) 0

/-- Whether the domain of a register is stopped: GLB, OUT, PWR and WAY never are while the part has power; any other stops with its
coach's fast clocks (R400). `PWR_STATE.COACH_UP` says which coaches run. -/
def State.stopped (s : State) (b : Blk) (i : Nat) : Bool :=
  if s.pwr.off then true
  else
    match b with
    | .GLB | .OUT | .PWR | .WAY => false
    | _ => !(s.rf 0 Reg.PWR_STATE_COACH_UP).testBit (coachOf b i)

/-- A master's guard (R401): the host and the Outrider have a bit, every other master always runs with the guard set. -/
def State.guardOf (s : State) (m : Nat) : Bool :=
  if m = mHost then s.rb 0 Reg.GLB_GUARD_HOST
  else if m = mOut then s.rb 0 Reg.GLB_GUARD_OUTRIDER
  else true

/-- What becomes of an access before it reaches its register. -/
inductive Gate where
  | pass | unoccupied | refused | waits
  deriving DecidableEq, Repr

/-- The gate of an access to a located register: a stopped domain refuses or holds it by the guard (R401). -/
def State.gate (s : State) (m : Nat) (b : Blk) (i : Nat) : Gate :=
  if s.stopped b i then (if s.guardOf m then .refused else .waits) else .pass

/-! ### The access codes -/

/-- The active word after a write of w: RW bits set, W1C bits clear, W1S bits set; RO, YH, WP and RWS bits stay (R10). -/
def RegDef.written (d : RegDef) (old w : Word) : Word :=
  let rw := d.maskAcc .RW
  let a := (old &&& ~~~rw) ||| (w &&& rw)
  let b := a &&& ~~~(w &&& d.maskAcc .W1C)
  b ||| (w &&& d.maskAcc .W1S)

/-- Whether a commit has frozen a register's staged value (R406). -/
def State.frozen (s : State) (k : Nat) : Bool := s.yoke.commits.any (fun c => c.values.any (fun e => e.1 == k))

/-- The staged side of a write (R404, R406): the RWS bits of w become the staged value and the writer the stager; a frozen register
keeps its staged value and records Y-0003. -/
def State.stageWrite (s : State) (m : Nat) (l : Loc) (w : Word) : State :=
  if !l.rdef.hasRws then s
  else
    let k := regKey l.blk l.inst l.off
    if s.frozen k then s.ycode m 0x0003 (s.offsetOf k) w.toNat
    else
      let rws := l.rdef.maskAcc .RWS
      let old := s.stagedWord l.blk l.inst l.off
      { s with staged := cset s.staged k ((old &&& ~~~rws) ||| (w &&& rws)), stager := cset s.stager k m }

/-- A write to a register in the active view by its access codes alone. -/
def State.codeWrite (s : State) (m : Nat) (l : Loc) (w : Word) : State :=
  let s1 := s.stageWrite m l w
  let old := s1.word l.blk l.inst l.off
  let new := l.rdef.written old w
  if new = old then s1 else s1.setWord l.blk l.inst l.off new

/-! ### Reads -/

/-- The key of a master's high-word latch in a register block (R403). -/
def latchKey (m : Nat) (b : Blk) (i : Nat) : Nat := m * 1048576 + b.code * 4096 + i

/-- A word of the harness directory (R74): entry 0 is the header. -/
def State.dirWord (s : State) (off : Nat) : Word :=
  let n := (off - 0x10000) / 32
  let w := off % 32 / 4
  if s.dir = [] ∨ s.rf 0 Reg.HDR_STATUS_PHASE = 4 then 0
  else if n = 0 then
    let lastPatch := match s.hdr.patches.getLast? with
      | some p => p.hdr.imageId
      | none => 0
    BitVec.ofNat 32 (match w with
      | 0 => 0xFFFF + s.hw.coaches * 65536
      | 1 => s.dir.length * 65536
      | 2 => s.rf 0 Reg.HDR_GEN_GEN
      | 4 => s.rf 0 Reg.HDR_ACTIVE_ID_LO_ID
      | 5 => s.rf 0 Reg.HDR_ACTIVE_ID_HI_ID
      | 6 => lastPatch
      | 7 => lastPatch / 2 ^ 32
      | _ => 0)
  else
    match s.dir[n - 1]? with
    | none => 0
    | some e => BitVec.ofNat 32 (match w with
      | 0 => e.typ + e.coach * 2 ^ 16 + e.inst * 2 ^ 24
      | 1 => e.carriage + e.flags * 256 + e.version * 65536
      | 2 => e.base
      | 3 => e.size
      | _ => 0)

/-- `OUT_STATUS.ATTN`: a source group that OUT_ATTN_MASK enables is high (R399). -/
def State.attn (s : State) : Bool :=
  (List.range 10).any (fun v => (s.rf 0 Reg.OUT_ATTN_MASK_VECTORS).testBit v && s.irqLevel v) ||
  (List.range 7).any (fun k => (s.rf 0 Reg.OUT_ATTN_MASK_GROUPS).testBit k &&
    (List.range s.hw.coaches).any (fun c => s.irqLevel (16 + k + 8 * c))) ||
  ((s.rf 0 Reg.OUT_ATTN_MASK_GROUPS).testBit 7 && (List.range s.carriageCount).any (fun g => s.irqLevel (80 + g))) ||
  (s.rb 0 Reg.OUT_ATTN_MASK_POST && (List.range 16).any (fun m => s.rf 0 (Reg.PST_CFG_RECEIVER.sh (0x100 * m)) == mOut &&
    (s.word .PST 0 (0x0C + 0x100 * m) &&& s.word .PST 0 (0x14 + 0x100 * m)) != 0))

/-- The state of a commit scope: 0 free, 1 checking, 2 pending, 3 held by a patch (R405, R77). -/
def State.scopeState (s : State) (g : Option Nat) : Nat :=
  match s.yoke.commits.find? (fun c => c.carriage == g) with
  | some c => if c.pending then 2 else 1
  | none =>
    match g, s.hdr.patch with
    | some c, some p => if p.image.hdr.patchCarriage = c then 3 else 0
    | _, _ => 0

/-- The bytes of a slot of STA window i under its active settings (R142). -/
def State.staSlot (s : State) (i : Nat) : Nat :=
  let np := s.rf i Reg.STA_CFG_PLANES
  alignUp (64 + 4 * np * (if s.rb i Reg.STA_CTL_BINS then 4096 else 256) + 8 * np * s.rf i Reg.STA_CTL_ZONES) 64

/-- The bits of secure channels in a watch register: a non-secure master reads 0 there (R367). -/
def State.watchSecure (s : State) (i off : Nat) : Word :=
  BitVec.ofNat 32 (maskOf ((List.range 32).map (fun k =>
    if off = 0x10 then s.rb 0 (Reg.REI_TR_CFG_SECURE.sh (8 * k)) else s.rb i (Reg.REI_CH_CFG_SECURE.sh (8 * (k + (off - 8) * 8))))))

/-- The value that a read of a register returns before latching: stored, or formed from the state where the register only shows it. -/
def State.shown (s : State) (m : Nat) (l : Loc) : Word :=
  let raw := s.word l.blk l.inst l.off
  match l.blk with
  | .GLB =>
    if 0x140 ≤ l.off ∧ l.off < 0x160 then
      BitVec.ofNat 32 (maskOf ((List.range 32).map (fun b => s.irqLevel (8 * (l.off - 0x140) + b))))
    else if l.off = 0x164 then BitVec.ofNat 32 (s.irqSrc (s.rf 0 Reg.GLB_IRQ_SRC_SEL_VECTOR))
    else raw
  | .OUT => if l.off = 4 then putBits raw 0 0 (b2n s.attn) else raw
  | .PWR =>
    if l.off = 0x1C then putBits raw 6 6 (b2n ((List.range s.hw.coaches).any (fun c => s.nz .WWT (unitOf c 0) 0x0C)))
    else raw
  | .YOK =>
    if l.off = 0x0C then
      putBits (putBits raw 6 5 (s.scopeState none)) 15 8
        (match s.yoke.commits.find? (fun c => c.carriage == none) with
         | some c => c.master
         | none => 0)
    else if 0x1C ≤ l.off ∧ l.off < 0x28 then
      (List.range 16).foldl (fun w k => putBits w (2 * k + 1) (2 * k) (s.scopeState (some (4 * (l.off - 0x1C) + k)))) 0
    else raw
  | .PST =>
    let mb := l.off / 0x100
    if l.off % 0x100 = 0x10 then s.word .PST 0 (l.off - 4)
    else if 0x40 ≤ l.off % 0x100 ∧ s.rb 0 (Reg.PST_CFG_SECURE.sh (0x100 * mb)) ∧ !secureMaster m ∧
        s.rf 0 (Reg.PST_STATUS_WRITER.sh (0x100 * mb)) ≠ m then 0
    else raw
  | .LCH =>
    if 0x100 ≤ l.off then
      let n := (l.off - 0x100) / 8
      let owner := s.rf 0 (Reg.LCH_PIN_OWNER.sh (8 * n))
      if l.off % 8 = 4 then putBits raw 15 8 owner else raw
    else raw
  | .WAY => s.wayShown l.off raw
  | .SPR =>
    if 0x4000 ≤ l.off then
      BitVec.ofNat 32 (((cgetD s.spr (s.carriageAt .SPR l.inst) Spr.fresh).cols.getD ((l.off - 0x4000) / 4) ⟨0, 0, false, none⟩).b)
    else raw
  | .STA => if l.off = 0x1C then BitVec.ofNat 32 (s.staSlot l.inst) else raw
  | .WHT =>
    let u := cgetD s.wht l.inst Wht.fresh
    if l.off = 8 then
      let hold := s.rb l.inst Reg.WHT_CTL_HOLD && s.rf l.inst Reg.WHT_STATUS_HOLD_CAUSE == 0
      if hold then putBits (putBits raw 5 5 1) 8 6 3 else raw
    else if 0x80 ≤ l.off then
      match u.reqs.find? (fun r => r.input == (l.off - 0x80) / 4) with
      | some r => BitVec.ofNat 32 (r.hint + 4096 + 8192 * b2n r.preempted + 65536 * satN 65535 ((s.now - r.since) / 1000))
      | none => 0
    else raw
  | .DMC => s.partWord l.inst l.off raw
  | .TMT =>
    if l.off = 0x18 then BitVec.ofNat 32 s.now
    else if l.off = 0x1C then BitVec.ofNat 32 (s.now / 2 ^ 32)
    else if l.off = 0x64 then BitVec.ofNat 32 (cgetD s.tmt.asym (s.rf 0 Reg.TMT_ASYM_SEL_LANE) (0, 0)).1
    else if l.off = 0x68 then BitVec.ofNat 32 (cgetD s.tmt.asym (s.rf 0 Reg.TMT_ASYM_SEL_LANE) (0, 0)).2
    else raw
  | .CPL =>
    if s.rf l.inst (Reg.CPL_CFG_LINK.sh (l.off / 0x100 * 0x100)) = 3 then
      (if l.off % 0x100 = 0 then putBits 0 Reg.CPL_CFG_LINK.hi Reg.CPL_CFG_LINK.lo 3 else 0)
    else raw
  | .REI =>
    if l.off = 0x20 then
      let k := crossKey (l.inst / 32) (s.rf l.inst Reg.REI_TASK_SEL_SINK) (s.rf l.inst Reg.REI_TASK_SEL_TASK)
      BitVec.ofNat 32 (cgetD s.rein.tasks k 0 + 16 * b2n (s.rein.ovf.contains k))
    else if l.inst ≠ 0 ∧ ((0x10 ≤ l.off ∧ l.off < 0x18) ∨ (0x300 ≤ l.off ∧ l.off < 0x400)) then 0
    else if 8 ≤ l.off ∧ l.off < 0x14 ∧ !secureMaster m then raw &&& ~~~(s.watchSecure l.inst l.off) else raw
  | .DBM =>
    if l.inst ≠ 0 ∧ ((0x14 ≤ l.off ∧ l.off < 0x40) ∨ l.off = 0x50 ∨ l.off = 0x58 ∨ l.off = 0x5C ∨ (0x100 ≤ l.off ∧ l.off ≤ 0x200)) then 0
    else if 0x300 ≤ l.off ∧ !s.isReplay (6 * (l.inst / 32) + (l.off - 0x300) / 16) then 0 else raw
  | _ => raw

/-- A read of an active-view register with its latch (R8, R403): a low word loads the master's latch of the block with its high
word; the next read of that high word returns the latched half. -/
def State.readLatched (s : State) (m : Nat) (l : Loc) : Word × State :=
  let v := s.shown m l
  let k := latchKey m l.blk l.inst
  if l.rdef.lo64 ∧ (l.rdef.stride = 0 ∨ (l.off - l.rdef.off) % 8 = 0) then
    match findDef l.blk (l.off + 4) with
    | some d => (v, { s with latch := cset s.latch k (l.off + 4, s.shown m ⟨l.blk, l.inst, l.off + 4, d⟩) })
    | none => (v, s)
  else
    match cget s.latch k with
    | some (o, h) => if o = l.off then (h, { s with latch := cdel s.latch k }) else (v, s)
    | none => (v, s)

end Sys2Proof.Machine
end

