-- ==== Sys2Proof/Machine/Linchpin.lean ====
section
/-! DEFINITION. The Linchpins (R419 to R421), and the horn that a break rings (R417). -/

namespace Sys2Proof.Machine

/-- Whether mailbox m signals its receiver: HORN AND MASK is not 0 (R417). -/
def State.hornHigh (s : State) (m : Nat) : Bool :=
  (s.word .PST 0 (0x0C + 0x100 * m) &&& s.word .PST 0 (0x14 + 0x100 * m)) != 0

/-- Ring horn bits of a mailbox (R417): the host is signalled through vector 3, a core through its own interrupt, the Outrider through
`OUT_STATUS.ATTN`, which is formed when it is read. -/
def State.ringHorn (s : State) (m : Nat) (bits : Word) : State :=
  let s1 := s.setWord .PST 0 (0x0C + 0x100 * m) (s.word .PST 0 (0x0C + 0x100 * m) ||| bits)
  let r := s1.rf 0 (Reg.PST_CFG_RECEIVER.sh (0x100 * m))
  let s2 := if !s.hornHigh m && s1.hornHigh m && decide (0x20 ≤ r) && decide (r < 0x30) then s1.emit .coreIrq r [m] else s1
  State.edges s [3] s2

/-- The owner of Linchpin n, 0 for a free one (R419). -/
def State.pinOwner (s : State) (n : Nat) : Nat := s.rf 0 (Reg.LCH_PIN_OWNER.sh (8 * n))

/-- The resource class of Linchpin n (R420). -/
def State.pinClass (s : State) (n : Nat) : Nat := s.rf 0 (Reg.LCH_INFO_CLASS.sh (8 * n))

/-- Whether the class of Linchpin n is suspect (R421). -/
def State.pinSuspect (s : State) (n : Nat) : Bool := (s.rf 0 Reg.LCH_SUSPECT_CLASS).testBit (s.pinClass n)

/-- An acquisition attempt: a free Linchpin goes to the reader, unless it is a Drayage channel (R419). -/
def State.pinTry (s : State) (m n : Nat) : State :=
  if s.pinOwner n = 0 ∧ !drayMaster m then s.wf 0 (Reg.LCH_PIN_OWNER.sh (8 * n)) m else s

/-- What a read of LCH_PINn returns, after the attempt (R419). -/
def State.pinWord (s : State) (m n : Nat) : Word :=
  putBits (putBits (putBits 0 0 0 (b2n (s.pinOwner n == m))) 1 1 (b2n (s.pinSuspect n))) 15 8 (s.pinOwner n)

/-- Free a Linchpin for its owner; any other master records G-0016 (R419). -/
def State.pinRelease (s : State) (m n : Nat) : State :=
  if s.pinOwner n = m ∧ m ≠ 0 then s.wf 0 (Reg.LCH_PIN_OWNER.sh (8 * n)) 0
  else s.gcode 0x0016 (0x5100 + 8 * n) m

/-- Break a held Linchpin: it is freed, its BROKEN bit sets, horn bit 31 of the mailbox in LCH_HORN rings, and its class becomes
suspect unless it is class 0 (R421). -/
def State.pinBreak (s : State) (n : Nat) : State :=
  if s.pinOwner n = 0 then s
  else
    let s1 := s.wf 0 (Reg.LCH_PIN_OWNER.sh (8 * n)) 0
    let o := if n < 32 then 4 else 8
    let s2 := s1.setWord .LCH 0 o (s1.word .LCH 0 o ||| BitVec.ofNat 32 (2 ^ (n % 32)))
    let s3 := State.edges s1 [4] s2
    let s4 := s3.ringHorn (s3.rf 0 Reg.LCH_HORN_MAILBOX) (BitVec.ofNat 32 (2 ^ 31))
    let c := s.pinClass n
    if c = 0 then s4 else s4.wf 0 Reg.LCH_SUSPECT_CLASS (s4.rf 0 Reg.LCH_SUSPECT_CLASS ||| 2 ^ c)

/-- Break every Linchpin whose owner is a given master (R421). -/
def State.pinBreakOwner (s : State) (m : Nat) : State :=
  (List.range 64).foldl (fun t n => if t.pinOwner n = m then t.pinBreak n else t) s

end Sys2Proof.Machine
end

