-- ==== Sys2Proof/Machine/Access.lean ====
section
/-! DEFINITION. One register access from outside: reads with every side effect (R392, R404), the frame around a register action
(R401, R402), accesses that wait, and unoccupied offsets (R34). -/

namespace Sys2Proof.Machine

/-- How an access ended. -/
inductive Done where
  | done | refused | waits
  deriving DecidableEq, Repr

/-- Record an access to an unoccupied offset (R34). -/
def State.unoccupied (s : State) (m off : Nat) : State := s.gcode 0x0010 off m

/-- Record an access that the guard refused (R401); the Outrider's also sets OUT_STATUS.ASLEEP. -/
def State.guardRefuses (s : State) (m off : Nat) : State :=
  let s1 := s.gcode 0x0014 off m
  if m = mOut then s1.wf 0 Reg.OUT_STATUS_ASLEEP 1 else s1

/-- Whether an offset lies in the staged view (R11). -/
def inStaged (off : Nat) : Bool := decide (0x10000000 ≤ off) && decide (off < 0x20000000)

/-- A register read by a master: the word, the state after its side effects, and how it ended. -/
def State.busRead (s : State) (m off : Nat) : Word × State × Done :=
  if inStaged off then
    match s.locate m (off - 0x10000000) with
    | none => (0, s.unoccupied m off, .done)
    | some l =>
      if !l.rdef.hasRws then (0, s.unoccupied m off, .done)
      else
        match s.gate m l.blk l.inst with
        | .refused => (0, s.guardRefuses m off, .refused)
        | .waits => (0, s, .waits)
        | _ =>
          let rws := l.rdef.maskAcc .RWS
          ((s.stagedWord l.blk l.inst l.off &&& rws) ||| (s.word l.blk l.inst l.off &&& ~~~rws), s, .done)
  else if 0x10000 ≤ off ∧ off < 0x20000 then
    match s.gate m .HDR 0 with
    | .refused => (0, s.guardRefuses m off, .refused)
    | .waits => (0, s, .waits)
    | _ => (s.dirWord off, s, .done)
  else
    match s.locate m off with
    | none => (0, s.unoccupied m off, .done)
    | some l =>
      match s.gate m l.blk l.inst with
      | .refused => (0, s.guardRefuses m off, .refused)
      | .waits => (0, s, .waits)
      | _ =>
        if l.blk = .LCH ∧ 0x100 ≤ l.off ∧ l.off % 8 = 0 then
          let s1 := s.pinTry m ((l.off - 0x100) / 8)
          (s1.pinWord m ((l.off - 0x100) / 8), s1, .done)
        else if l.blk = .TMT ∧ l.off = 0x18 then
          let r := s.readLatched m l
          (r.1, r.2.wf 0 Reg.TMT_TIME_FRAC_FRAC (s.tmt.frac / 2 ^ 24), .done)
        else
          let r := s.readLatched m l
          (r.1, r.2, .done)

/-- Hold an access until its domain runs (R401). -/
def State.hold (s : State) (m off : Nat) (isWrite : Bool) (w : Word) : State :=
  { s with stalled := s.stalled ++ [⟨m, off, isWrite, w, none⟩] }

/-- Whether the window of a block is there for an access: engine and fabric windows are unoccupied from step 4 of a load until publication
(R34, R70). -/
def State.shows (s : State) (b : Blk) (i : Nat) : Bool :=
  s.hasUnit b i && (b.typeCode == 0 || s.rf 0 Reg.HDR_STATUS_PHASE != 4)

/-- A register action: the write that pulses field f of window i, with the whole word written. The gate of R401 comes first, then the
access codes of the register's other fields (R10), then the action. -/
def State.regAct (s : State) (m i : Nat) (f : Fld) (w : Word) (act : State → State) : State :=
  let off := s.offsetOf (regKey f.blk i f.off)
  let w1 := w ||| maskBits f.hi f.lo
  if !s.shows f.blk i then s.unoccupied m off
  else
    match findDef f.blk f.off with
    | none => s.unoccupied m off
    | some d =>
      match s.gate m f.blk i with
      | .refused => s.guardRefuses m off
      | .waits => s.hold m off true w1
      | _ => act (s.codeWrite m ⟨f.blk, i, f.off, d⟩ w1)

/-- A write of a whole register whose new values act: the access codes of R10 take it first, then the action. -/
def State.regSet (s : State) (m i : Nat) (f : Fld) (w : Word) (act : State → State) : State :=
  let off := s.offsetOf (regKey f.blk i f.off)
  if !s.shows f.blk i then s.unoccupied m off
  else
    match findDef f.blk f.off with
    | none => s.unoccupied m off
    | some d =>
      match s.gate m f.blk i with
      | .refused => s.guardRefuses m off
      | .waits => s.hold m off true w
      | _ => act (s.codeWrite m ⟨f.blk, i, f.off, d⟩ w)

/-- A register write that has a meaning of its own in place of its access codes (a FIFO, a slot, a request register). -/
def State.regDo (s : State) (m i : Nat) (f : Fld) (w : Word) (act : State → State) : State :=
  let off := s.offsetOf (regKey f.blk i f.off)
  if !s.shows f.blk i then s.unoccupied m off
  else
    match s.gate m f.blk i with
    | .refused => s.guardRefuses m off
    | .waits => s.hold m off true w
    | _ => act s

/-- A register action that only one kind of master may take: another master's write is discarded whole and ends as given. -/
def State.regOnly (s : State) (ok : Bool) (m i : Nat) (f : Fld) (w : Word) (act other : State → State) : State :=
  if ok then s.regAct m i f w act else s.regDo m i f w other

/-- A host read completes (R392). -/
def State.hostReads (s : State) (m : Nat) (w : Word) : State := if m = mHost then s.emit .hostRead 0 [w.toNat] else s

end Sys2Proof.Machine
end

