-- ==== Sys2Proof/Machine/Mews.lean ====
section
/-! DEFINITION. The Mews (R328 to R334): how packets enter, wait and leave, the routes that join engines through them (R25, R26, R51,
R203), and the commands on them but the flush boundaries. -/

namespace Sys2Proof.Machine

/-- A register of Mews m of coach c. -/
def mewF (f : Fld) (m : Nat) : Fld := f.sh (16 * m)

/-- The key of Mews m of coach c. -/
def mewKey (c m : Nat) : Nat := c * 1024 + m

/-- A Mews by key. -/
def State.mew (s : State) (k : Nat) : Mews := cgetD s.mews k Mews.fresh

/-- The depth of a Mews in units; 0 where the harness defines none. -/
def State.mewDepth (s : State) (k : Nat) : Nat := s.rf (unitOf (k / 1024) 0) (mewF Reg.MEW_DEPTH_UNITS (k % 1024))

/-- The kind of a Mews (R328). -/
def State.mewKind (s : State) (k : Nat) : Nat := s.rf (unitOf (k / 1024) 0) (mewF Reg.MEW_DEPTH_KIND (k % 1024))

/-- The units that packets still hold in a ring; a stalled producer's are beyond its depth. -/
def Mews.held (w : Mews) : Nat := (w.packets.map (fun p => p.units - p.taken)).sum

/-- Whether an entry only marks where a tap lost lines. -/
def MewPkt.isLost (p : MewPkt) : Bool :=
  match p.item with
  | some (.lost _) => true
  | _ => false

/-- Put a Mews in place and show its fill and peak. -/
def State.setMew (s : State) (k : Nat) (w : Mews) : State :=
  let i := unitOf (k / 1024) 0
  let m := k % 1024
  let u := Nat.min (s.mewDepth k) w.held
  let s1 := { s with mews := cset s.mews k w }
  ((s1.wf i (mewF Reg.MEW_FILL_UNITS m) u).wf i (mewF Reg.MEW_FILL_PACKETS m) (satN 4095 (w.packets.filter (fun p => !p.isLost)).length)).peak i (mewF Reg.MEW_PEAK_UNITS m) u

/-- Room for a whole packet of n units. -/
def State.mewRoom (s : State) (k n : Nat) : Bool := decide ((s.mew k).held + n ≤ s.mewDepth k)

/-- Whether a producer stalls: the ring is full (R329). -/
def State.mewFull (s : State) (k : Nat) : Bool := decide (s.mewDepth k ≤ (s.mew k).held)

/-- The units of what travels: a line is 32 bytes of tag and 2 bytes a sample (R329), anything else one unit for 64 bytes. -/
def Item.units : Item → Nat
  | .line l => ceilDiv (32 + 2 * (l.planes.map (fun p => p.length)).sum) 64
  | .bytes l => Nat.max 1 (ceilDiv l.length 64)
  | _ => 1

/-- A poison end mark is written (R332). -/
def State.mewBad (s : State) (c : Nat) : State := (s.inc (unitOf c 0) (Reg.MEW_CNT_COUNT)).ev (unitOf c 0) Reg.MEW_EVENT_POISON_END

/-- Write a whole packet; false where a tap has no room for it and drops it (R329). A full ring of another kind keeps its producer
stalled before the packet, so that part of a packet beyond the depth is what the producer still holds. -/
def State.mewPush (s : State) (k : Nat) (it : Item) (bad : Bool) : State × Bool :=
  if s.mewKind k = 1 ∧ !s.mewRoom k it.units then (s, false)
  else
    let w := s.mew k
    let s1 := s.setMew k { w with packets := w.packets ++ [⟨it.units, 0, true, bad, false, some it⟩] }
    (if bad then s1.mewBad (k / 1024) else s1, true)

/-- What the next packet carries. -/
def State.mewHead (s : State) (k : Nat) : Option Item :=
  match (s.mew k).packets with
  | p :: _ => p.item
  | [] => none

/-- Take the next packet away. -/
def State.mewPop (s : State) (k : Nat) : State :=
  let w := s.mew k
  s.setMew k { w with packets := w.packets.drop 1, flush := w.flush.map (fun n => n - 1) }

/-! ### Routes -/

/-- Whether a patch whose instant is reached cuts carriage g off before grid line m (R78). -/
def State.patchCut (s : State) (g m : Nat) : Bool :=
  match s.hdr.patch with
  | some p => p.step != .pending && p.image.hdr.patchCarriage == g && decide (p.upTo ≤ m)
  | none => false

/-- A place in a carriage: an engine window and its port; ports count on CPL only (R51). -/
structure Hop where
  blk : Blk
  win : Nat
  port : Nat
  deriving DecidableEq, Repr

/-- The image that placed a carriage: its last applied patch, else the full image. -/
def State.imageFor (s : State) (g : Nat) : Option Image :=
  match s.hdr.patches.reverse.find? (fun im => im.carrs.any (fun r => r.carriage == g)) with
  | some im => some im
  | none => s.hdr.active

/-- Whether ENGN record k of an image is an engine window. -/
def Image.isEng (im : Image) (k : Nat) (h : Hop) : Bool :=
  match im.engns.getD k ⟨0, 0, 0, 0, 0, 0, 0, 0⟩ with
  | e => e.typ == h.blk.typeCode && unitOf e.coach e.inst == h.win

/-- The Mews that a ROUT record of carriage g's image sets between two places. -/
def State.link (s : State) (g : Nat) (a b : Hop) : Option Nat :=
  match s.imageFor g with
  | none => none
  | some im =>
    (im.routs.find? (fun r => im.isEng r.src a && im.isEng r.dst b &&
      (a.blk != .CPL || r.srcPort == a.port) && (b.blk != .CPL || r.dstPort == b.port))).map (fun r => mewKey (g / 6) r.mews)

/-- The ends of the routes through Mews k, in the images in force: producer and consumer (R51, R328). -/
def State.mewEnds (s : State) (k : Nat) : List (EngnRec × EngnRec) :=
  (s.hdr.active.toList ++ s.hdr.patches).flatMap (fun im => im.routs.filterMap (fun r =>
    match im.engns[r.src]?, im.engns[r.dst]? with
    | some a, some b => if mewKey (if a.typ = Blk.typeCode .CPL then b.coach else a.coach) r.mews = k then some (a, b) else none
    | _, _ => none))

/-- The window of a block that consumes from Mews k. -/
def State.mewSink (s : State) (k : Nat) (b : Blk) : Option Nat :=
  ((s.mewEnds k).find? (fun e => e.2.typ == b.typeCode)).map (fun e => unitOf e.2.coach e.2.inst)

/-- The place of an engine of carriage g. -/
def State.hop (s : State) (g : Nat) (b : Blk) : Hop := ⟨b, s.eng b g, 0⟩

/-- The port of the seam unit on a carriage's low side, where it has one. -/
def State.hopLow (s : State) (g : Nat) : Option Hop :=
  if 0 < g ∧ s.seamOn (g - 1) then some ⟨.CPL, seamInst (g - 1), 2 * ((g - 1) % 6 % 2) + 1⟩ else none

/-- The port of the seam unit on a carriage's high side, where it has one. -/
def State.hopHigh (s : State) (g : Nat) : Option Hop :=
  if s.seamOn g then some ⟨.CPL, seamInst g, 2 * (g % 6 % 2)⟩ else none

/-- The chain of carriage g (R25, R203). -/
def State.chain (s : State) (g : Nat) : List Hop :=
  [s.hop g .ING, s.hop g .TRU, s.hop g .RGA] ++ (s.hopLow g).toList ++ (s.hopHigh g).toList ++
  [s.hop g .SPR, s.hop g .SEG, s.hop g .LBL, ⟨.DBM, unitOf (g / 6) 0, 0⟩]

/-- The element after the first that p picks. -/
def afterFirst {α : Type} (p : α → Bool) : List α → Option α
  | [] => none
  | x :: t => if p x then t.head? else afterFirst p t

/-- The Mews behind a place of the chain. -/
def State.mewOut (s : State) (g : Nat) (h : Hop) : Option Nat :=
  match afterFirst (fun x => x == h) (s.chain g) with
  | some n => s.link g h n
  | none => none

/-- The Mews ahead of a place of the chain. -/
def State.mewIn (s : State) (g : Nat) (h : Hop) : Option Nat :=
  match afterFirst (fun x => x == h) (s.chain g).reverse with
  | some n => s.link g n h
  | none => none

/-- Pass something on to the next engine of the chain; without a route it goes nowhere. -/
def State.pass (s : State) (g : Nat) (h : Hop) (it : Item) (bad : Bool) : State :=
  match s.mewOut g h with
  | some k => (s.mewPush k it bad).1
  | none => s

/-- Whether an engine is stalled by a full Mews behind it (R39). -/
def State.heldUp (s : State) (g : Nat) (h : Hop) : Bool :=
  match s.mewOut g h with
  | some k => s.mewFull k
  | none => false

/-- The next thing for an engine, unless it stalls or has nothing. -/
def State.takeNext (s : State) (g : Nat) (h : Hop) : Option (Item × State) :=
  if s.heldUp g h then none
  else
    match s.mewIn g h with
    | none => none
    | some k => (s.mewHead k).map (fun it => (it, s.mewPop k))

/-- A mark for n lost lines, which one beside it takes in. -/
def lostMark (n : Nat) (beside : Option MewPkt) : MewPkt :=
  ⟨0, 0, true, false, false, some (.lost (match beside.bind MewPkt.item with
    | some (.lost m) => m + n
    | _ => n))⟩

/-- A tap loses n lines ahead of what it holds. -/
def State.tapLoseFirst (s : State) (k n : Nat) : State :=
  let p := (s.mew k).packets
  let more := p.head?.any MewPkt.isLost
  if n = 0 then s
  else { s with mews := cset s.mews k { s.mew k with packets := lostMark n p.head? :: (if more then p.drop 1 else p) } }

/-- A tap loses a line behind what it holds (R40, R283). -/
def State.tapLose (s : State) (k : Nat) : State :=
  let p := (s.mew k).packets
  let more := p.getLast?.any MewPkt.isLost
  { s with mews := cset s.mews k { s.mew k with packets := (if more then p.dropLast else p) ++ [lostMark 1 p.getLast?] } }

/-- Offer something to a tap; false where it is lost (R40). A mark stands in the place of a lost line. -/
def State.tapPush (s : State) (g : Nat) (a b : Hop) (it : Item) : State × Bool :=
  match s.link g a b with
  | some k =>
    let r := s.mewPush k it false
    if r.2 then r
    else match it with
    | .line _ => (r.1.tapLose k, false)
    | _ => (r.1, false)
  | none => (s, false)

/-- The lines that a tap lost just ahead of the next thing it holds, taken out. -/
def State.tapTake (s : State) (k : Nat) : Nat × State :=
  match s.mewHead k with
  | some (.lost n) => (n, s.mewPop k)
  | _ => (0, s)

/-! ### Commands -/

/-- Units of a packet enter a ring: as many as there is room for, the rest stays with the stalled producer. -/
def State.mewWrite (s : State) (k units : Nat) (last bad : Bool) : State :=
  let w := s.mew k
  let more := match w.packets.getLast? with
    | some p => !p.ended
    | none => false
  let room := s.mewDepth k - w.held
  let put := Nat.min room (w.owed + units)
  let rest := w.owed + units - put
  let fin := last && rest == 0
  let pk := if more
    then w.packets.dropLast ++ (w.packets.getLast?.toList.map (fun (p : MewPkt) =>
      ({ p with units := p.units + put, ended := fin, bad := p.bad || bad } : MewPkt)))
    else w.packets ++ [⟨put, 0, fin, bad, false, none⟩]
  let isBad := match pk.getLast? with
    | some p => p.bad
    | none => false
  let s1 := s.setMew k { w with packets := pk, owed := rest }
  if fin && isBad then s1.mewBad (k / 1024) else s1

/-- MEWS_PACKET_WRITE: a producer writes units of a packet, `last` with its end mark, `bad` for a packet it marks bad. A full tap drops a
packet whole (R329, R332). -/
def execMewsPacketWrite (c m units : Nat) (last bad : Bool) (s : State) : Host.Outcome State Fault Refusal :=
  .next (let k := mewKey c m
    if s.mewDepth k = 0 then s
    else if s.mewKind k = 1 ∧ !s.mewRoom k units then s
    else s.mewWrite k units last bad)

/-- MEWS_SPACE_FREED: the consumer freed units and a stalled producer continues after some pace clocks (R329, R331). -/
def execMewsSpaceFreed (c m clocks : Nat) (last : Bool) (s : State) : Host.Outcome State Fault Refusal :=
  .next (let k := mewKey c m
    if (s.mew k).owed = 0 ∨ s.mewFull k then s
    else (s.mewWrite k 0 last false).add (unitOf c 0) (mewF Reg.MEW_STALL_PROD m) (clocks / 1024))

/-- MEWS_PACKET_READ: the consumer reads units of the next packet once CUT_THROUGH units or its end mark are in (R330), having waited some
pace clocks (R331). A packet that carries a line or the like leaves with its engine's own command. -/
def execMewsPacketRead (c m units clocks : Nat) (s : State) : Host.Outcome State Fault Refusal :=
  .next (let k := mewKey c m
    let w := s.mew k
    match w.packets with
    | [] => s.add (unitOf c 0) (mewF Reg.MEW_STALL_CONS m) (clocks / 1024)
    | p :: t =>
      let s1 := s.add (unitOf c 0) (mewF Reg.MEW_STALL_CONS m) (clocks / 1024)
      if p.taken = 0 ∧ !p.ended ∧ p.units < s.rf (unitOf c 0) (mewF Reg.MEW_PEAK_CUT m) then s1
      else
        let q := { p with taken := Nat.min p.units (p.taken + units) }
        if q.ended ∧ q.taken = q.units ∧ q.item = none then
          s1.setMew k { w with packets := t, flush := w.flush.map (fun n => n - 1) }
        else s1.setMew k { w with packets := q :: t })

/-- MEWS_PACKET_ABANDON: a producer abandons its packet and the Mews ends it with a poison end mark with TRUNCATED (R332). -/
def execMewsPacketAbandon (c m : Nat) (s : State) : Host.Outcome State Fault Refusal :=
  .next (let k := mewKey c m
    let w := s.mew k
    match w.packets.getLast? with
    | none => s
    | some p =>
      if p.ended then s
      else
        let q := { p with ended := true, bad := true, truncated := true }
        let s1 := (s.setMew k { w with packets := w.packets.dropLast ++ [q], owed := 0 }).mewBad c
        (s1.inc (unitOf c 0) (Reg.MEW_CNT_COUNT.sh 4)).ev (unitOf c 0) Reg.MEW_EVENT_TRUNCATED)

/-- A flush request: refused unless the Mews is of kind 2; else the flush point lies behind the packet being written (R333). -/
def State.actMewFlush (s : State) (c m : Nat) : State :=
  let k := mewKey c m
  if s.mewKind k ≠ 2 then s.wf (unitOf c 0) Reg.MEW_FLUSH_STATUS_REFUSED 1
  else
    let jobs := match s.mewSink k .PAT with
      | some i => (cgetD s.pat i []).length
      | none => 0
    ({ s with mews := cset s.mews k { s.mew k with flush := some ((s.mew k).packets.length), jobs := jobs } } : State).wf (unitOf c 0) Reg.MEW_FLUSH_STATUS_BUSY 1

/-- MEWS_FLUSH: MEW_FLUSH.GO, written by a master with the Mews in the word (R333). -/
def execMewsFlush (m : Nat) (w : Word) (c : Nat) (s : State) : Host.Outcome State Fault Refusal :=
  .next (s.regAct m (unitOf c 0) Reg.MEW_FLUSH_GO w (fun t => t.actMewFlush c (t.rf (unitOf c 0) Reg.MEW_FLUSH_MEWS)))

/-- Clear a peak. -/
def State.actPeakClear (s : State) (c n : Nat) : State := s.wf (unitOf c 0) (mewF Reg.MEW_PEAK_UNITS n) 0

/-- MEW_PEAK_CLEAR: MEW_PEAK.CLEAR of Mews n (R331). -/
def execMewPeakClear (m : Nat) (w : Word) (c n : Nat) (s : State) : Host.Outcome State Fault Refusal :=
  .next (s.regAct m (unitOf c 0) (mewF Reg.MEW_PEAK_CLEAR n) w (fun t => t.actPeakClear c n))

/-- Empty a Mews (R334). -/
def State.mewEmpty (s : State) (k : Nat) : State := s.setMew k Mews.fresh

end Sys2Proof.Machine
end

