-- ==== Sys2Proof/Machine/Wake.lean ====
section
/-! DEFINITION. Wake sources (R428, R429) and pulses on GIO pins (R163, R497). -/

namespace Sys2Proof.Machine

/-- Set PWR_STATE.STATE. -/
def State.toPwr (s : State) (n : Nat) : State := s.wf 0 Reg.PWR_STATE_STATE n

/-- Start the wake that a source began (R431): STATE 4. From Box-only without a retained copy, start-up stages 4 to 12 run instead. -/
def State.wakeBegins (s : State) (fromBox : Bool) : State :=
  let t := { s.toPwr 4 with pwr := { s.pwr with step := .none, wakeDuring := false, fromBox := fromBox, wakeFrom := s.tmt.samples } }
  if !fromBox then t
  else if s.pwr.keptId.isSome then t.wf 0 Reg.GLB_BOOT_STAGE_STAGE 12
  else (t.wf 0 Reg.GLB_BOOT_STAGE_STAGE (Nat.min 4 (t.rf 0 Reg.GLB_BOOT_STAGE_STAGE))).wf 0 Reg.GLB_BOOT_STAGE_STATE 0

/-- Whether a wake source is enabled (R429). -/
def State.wakeEnabled (s : State) (src idx : Nat) : Bool :=
  match src with
  | 1 => s.rb 0 Reg.PWR_WAKE_EN_MOTION && s.rb 0 (Reg.WAY_WAKE_ENABLE.sh (0x100 * idx))
  | 2 => s.rb 0 Reg.PWR_WAKE_EN_COMPARE && s.rb 0 (Reg.WAY_CMP_CTL_WAKE.sh (0x40 * idx))
  | 3 => s.rb 0 Reg.PWR_WAKE_EN_GIO && (s.rf 0 Reg.PWR_WAKE_GIO_PIN).testBit idx
  | 4 => s.rb 0 Reg.PWR_WAKE_EN_POST && s.rf 0 Reg.PWR_WAKE_HORN_MAILBOX != 0
  | 6 => s.rb 0 Reg.PWR_WAKE_EN_ALARM && s.rb 0 (Reg.TMT_ALM_CTL_WAKE.sh (0x20 * idx))
  | _ => false

/-- A wake source occurs (R428, R429): it is seen, and an enabled one wakes a sleeping part, or is remembered during an entry. After a
trip nothing here wakes the part (R439). -/
def State.wakeSource (s : State) (src idx : Nat) : State :=
  let st := s.rf 0 Reg.PWR_STATE_STATE
  if s.pwr.off ∨ (st ≠ 1 ∧ st ≠ 2 ∧ st ≠ 3) ∨ src = 0 ∨ 6 < src then s
  else
    let s1 := s.wf 0 Reg.PWR_WAKE_CAUSE_SEEN (s.rf 0 Reg.PWR_WAKE_CAUSE_SEEN ||| 2 ^ (src - 1))
    if !s.wakeEnabled src idx ∨ s.pwr.tripped then s1
    else if st = 3 ∧ s.pwr.wakeDuring then s1
    else
      let s2 := (s1.wf 0 Reg.PWR_WAKE_CAUSE_SOURCE src).wf 0 Reg.PWR_WAKE_CAUSE_INDEX idx
      if st = 3 then { s2 with pwr := { s2.pwr with wakeDuring := true } } else s2.wakeBegins (st == 2)

/-! ### GIO pins -/

/-- The functions that drive a GIO pin, each as whether it is active low: compare units and alarms with GIO_EN, and the Rein output
bindings of C0, which are active high (R497). -/
def State.gioFunctions (s : State) (pin : Nat) : List Bool :=
  ((List.range 16).filter (fun u => s.rb 0 (wc Reg.WAY_CMP_CTL_GIO_EN u) && s.rf 0 (wc Reg.WAY_CMP_CTL_GIO u) == pin)).map
    (fun u => s.rb 0 (wc Reg.WAY_CMP_CTL_POLARITY u)) ++
  ((List.range 8).filter (fun a => s.rb 0 (Reg.TMT_ALM_CTL_GIO_EN.sh (0x20 * a)) && s.rf 0 (Reg.TMT_ALM_CTL_GIO.sh (0x20 * a)) == pin)).map
    (fun a => s.rb 0 (Reg.TMT_ALM_CTL_POLARITY.sh (0x20 * a))) ++
  ((List.range 256).filter (fun k => s.rb 0 (Reg.REI_SNK_ENABLE.sh (4 * k)) && s.rf 0 (Reg.REI_SNK_SINK.sh (4 * k)) == 0xF000 &&
    s.rf 0 (Reg.REI_SNK_TASK.sh (4 * k)) == pin)).map (fun _ => false)

/-- Whether a GIO pin is an output (R497). -/
def State.gioIsOutput (s : State) (pin : Nat) : Bool := !(s.gioFunctions pin).isEmpty

/-- The inactive level of an output pin: high when every function that names it is active low (R497). -/
def State.gioIdle (s : State) (pin : Nat) : Nat := b2n (!(s.gioFunctions pin).isEmpty && (s.gioFunctions pin).all id)

/-- The pin that a function drives with its pulses: that of its compare unit or alarm while GIO_EN is 1, or the Rein binding's (R163; an
alarm's pin follows its register as a compare unit's does, log 80). -/
def State.gioPin (s : State) (src idx : Nat) : Option Nat :=
  if src = 0 then (if s.rb 0 (wc Reg.WAY_CMP_CTL_GIO_EN idx) then some (s.rf 0 (wc Reg.WAY_CMP_CTL_GIO idx)) else none)
  else if src = 1 then
    (if s.rb 0 (Reg.TMT_ALM_CTL_GIO_EN.sh (0x20 * idx)) then some (s.rf 0 (Reg.TMT_ALM_CTL_GIO.sh (0x20 * idx))) else none)
  else some idx

/-- The pins that a function names in some states, each once. -/
def gioNamed (ss : List State) (src idx : Nat) : List Nat := (ss.filterMap (fun t => t.gioPin src idx)).eraseDups

/-- The level that a GIO pin drives: its other level while any pulse on it is active; none where it is an input (R163, R497). -/
def State.gioLevel (s : State) (pin : Nat) : Option Nat :=
  if s.gioIsOutput pin then
    some (if s.way.pulses.any (fun q => s.gioPin q.src q.idx == some pin) then 1 - s.gioIdle pin else s.gioIdle pin)
  else none

/-- Show the pins whose levels differ from those of an earlier state; a pin that is no output any more drives nothing. -/
def State.gioShow (s old : State) (pins : List Nat) : State :=
  pins.foldl (fun t p => if s.gioLevel p = old.gioLevel p then t else t.emitLive .gio p (s.gioLevel p).toList) s

/-- Start or restart a pulse of a width in µs, 0 acting as 1 (R163). -/
def State.gioStart (s : State) (src idx us : Nat) : State :=
  let rest := s.way.pulses.filter (fun q => !(q.src == src && q.idx == idx))
  let s1 := { s with way := { s.way with pulses := rest ++ [(⟨src, idx, s.monoNs + 1000 * Nat.max 1 us⟩ : GioPulse)] } }
  let s2 := if src = 0 then s1.wf 0 (wc Reg.WAY_CMP_STATUS_PULSE idx) 1 else s1
  s2.gioShow s (gioNamed [s] src idx)

/-- GIO_PULSE_END: a pulse of a compare unit (src 0), alarm (1) or Rein binding (2) reaches its width and ends; the pin returns to its
inactive level when no other pulse is active (R163). -/
def execGioPulseEnd (src idx : Nat) (s : State) : Host.Outcome State Fault Refusal :=
  .next (match s.way.pulses.find? (fun q => q.src == src && q.idx == idx && decide (q.til ≤ s.monoNs)) with
    | none => s
    | some _ =>
      let rest := s.way.pulses.filter (fun x => !(x.src == src && x.idx == idx))
      let s1 := { s with way := { s.way with pulses := rest } }
      let s2 := if src = 0 then s1.wf 0 (wc Reg.WAY_CMP_STATUS_PULSE idx) 0 else s1
      s2.gioShow s (gioNamed [s] src idx))

end Sys2Proof.Machine
end

