-- ==== Sys2Proof/Machine/Waywiser.lean ====
section
/-! DEFINITION. The encoder ports and compare units of the Waywiser (R144 to R167). Line triggers are in WayTrigger.lean. -/

namespace Sys2Proof.Machine

/-! ### Marks -/

/-- Mark a port's position uncertain (R156). -/
def State.unsure (s : State) (p : Nat) : State := s.wf 0 (wp Reg.WAY_STATUS_UNCERTAIN p) 1

/-- Clear the mark, unless the port is suspect (R156). -/
def State.sure (s : State) (p : Nat) : State :=
  if s.rb 0 (wp Reg.WAY_STATUS_SUSPECT p) then s else s.wf 0 (wp Reg.WAY_STATUS_UNCERTAIN p) 0

/-- The encoder of a port becomes suspect (R150, R152). -/
def State.suspect (s : State) (p : Nat) : State :=
  (s.wf 0 (wp Reg.WAY_STATUS_SUSPECT p) 1).ev 0 (wp Reg.WAY_EVENT_SUSPECT p)

/-! ### Counting -/

/-- Move the extended count by d counts: the revolution counter wraps at 32 bits with REV_WRAP (R149). -/
def State.advance (s : State) (p : Nat) (d : Int) : State :=
  let c := s.count p + d
  let r := s.rev p + Int.ediv c (s.cpr p)
  let s1 := (s.wf 0 (wp Reg.WAY_COUNT_COUNT p) (Int.emod c (s.cpr p)).toNat).wf 0 (wp Reg.WAY_REV_REV p) (unsgn 32 r)
  if r < -2147483648 ∨ 2147483647 < r then (s1.unsure p).ev 0 (wp Reg.WAY_EVENT_REV_WRAP p) else s1

/-- A position below 0 sets UNDERFLOW and marks the position uncertain (R153). -/
def State.underflow (s : State) (p : Nat) : State :=
  if s.countedPos p < 0 then (s.unsure p).ev 0 (wp Reg.WAY_EVENT_UNDERFLOW p) else s

/-- Record an edge or frame: the last five are kept, and those of the last 1 ms with the one before them (R157, R158). -/
def State.record (s : State) (p : Nat) (ns : Int) : State :=
  let e : WayEdge := ⟨ns, s.ext p, s.countedPos p⟩
  s.portMod p (fun w => { w with hist := e :: w.hist.take (Nat.max 4 ((w.hist.takeWhile (fun x => decide (s.sampleNs - 1000000 ≤ x.ns))).length + 1)) })

/-- The speed after an edge: nothing before the fourth, then the travel from the first to the fourth directly, then the travel over four
edges through the smoother (R157). -/
def State.edgeSpeed (s : State) (p : Nat) (ns bounded : Int) : State :=
  let w := s.port p
  let n := Nat.min 5 (w.edges + 1)
  let back := if n = 4 then 2 else 3
  match w.hist[back]? with
  | none => s.portMod p (fun x => { x with edges := n })
  | some e0 =>
    let dt := (ns - e0.ns).toNat
    let raw := rne ((s.ext p - e0.ext) * s.npc p) dt
    if n < 4 ∨ dt = 0 then s.portMod p (fun x => { x with edges := n })
    else
      let v := if n = 4 then raw else bounded + rne (raw - bounded) (2 ^ (s.rf 0 (wp Reg.WAY_CTL_SPEED_SHIFT p)))
      (s.portMod p (fun x => { x with edges := n, speed := v })).wf 0 (wp Reg.WAY_STATUS_SPEED_VALID p) 1

/-- The period of one sample of the filters, in ns rounded: 4 awake (R146). -/
def State.filterNs (s : State) (p : Nat) : Int :=
  let n := s.rf 0 (wp Reg.WAY_CFG_FILTER_N p)
  if s.asleep then rne (n * 1000000000) 8388608 else 4 * n

/-- Note where the position stood before an update of this sample. -/
def State.noteBefore (s : State) (p : Nat) : State :=
  let b := s.posRaw p (s.sampleNs - 4)
  s.portMod p (fun w => { w with before := if w.moved = s.tickNo then w.before else b, moved := s.tickNo })

/-- One counted step (R147): count, direction, record, speed. An edge ends the overdue bound at its own stamp, before the filter's delay
(R146, R157). -/
def State.countStep (s : State) (p : Nat) (d : Int) : State :=
  let ns := s.sampleNs - s.filterNs p
  let bounded := s.speedAt p ns
  let s1 := ((s.noteBefore p).wf 0 (wp Reg.WAY_STATUS_DIR p) (b2n (decide (d < 0)))).advance p d
  let s2 := if s.asleep then s1 else s1.edgeSpeed p ns bounded
  (s2.record p ns).underflow p

/-- Edges came faster than the Box clock's samples could follow (R166). -/
def State.overspeed (s : State) (p : Nat) : State :=
  ((s.wf 0 (wp Reg.WAY_STATUS_SLEEP_OVERSPEED p) 1).unsure p).ev 0 (wp Reg.WAY_EVENT_SLEEP_OVERSPEED p)

/-- Raw transitions of pairs A and B come, then ca and cb say which of the pairs has one accepted. Asleep each pair's tally counts them, and
new raw ones that leave it more than 1 ahead are an overspeed (R166; the tallies count from the stop of the clocks on, log 79). -/
def State.tally (s : State) (p ra rb : Nat) (ca cb : Bool) : State :=
  if !s.asleep then s
  else
    let w := s.port p
    let a := w.tallyA.1 + ra
    let b := w.tallyB.1 + rb
    let s1 := s.portMod p (fun x => { x with tallyA := (a, w.tallyA.2 + b2n ca), tallyB := (b, w.tallyB.2 + b2n cb) })
    if (0 < ra ∧ w.tallyA.2 + 1 < a) ∨ (0 < rb ∧ w.tallyB.2 + 1 < b) then s1.overspeed p else s1

/-- A double edge (R148); asleep it is also an overspeed (R166). -/
def State.doubleEdge (s : State) (p : Nat) : State :=
  let s1 := ((s.inc 0 (wp Reg.WAY_DE_TOTAL_COUNT p)).inc 0 (wp Reg.WAY_DE_IN_WINDOW p)).ev 0 (wp Reg.WAY_EVENT_DOUBLE_EDGE p)
  let s2 := if s1.rf 0 (wp Reg.WAY_DE_LIMIT p) < s1.rf 0 (wp Reg.WAY_DE_IN_WINDOW p) then
      (s1.unsure p).ev 0 (wp Reg.WAY_EVENT_DE_LIMIT p) else s1
  if s.asleep then s2.overspeed p else s2

/-- The place of the levels (A, B) in the forward sequence (R147). -/
def quadPlace (a b : Bool) : Nat := if b then (if a then 2 else 3) else if a then 1 else 0

/-- Whether a port uses an input pair k, 0 A or DAT, 1 B, 2 Z: DAT alone in absolute mode, Z only with INDEX_EN (R144, R152). -/
def State.pairUsed (s : State) (p k : Nat) : Bool :=
  let mode := s.rf 0 (wp Reg.WAY_CFG_MODE p)
  if mode = 2 then k == 0 else mode != 0 && (k < 2 || (k == 2 && s.rb 0 (wp Reg.WAY_CTL_INDEX_EN p)))

/-- The level of DAT becomes x, unless the pair is in wire fault (R145). -/
def State.datLevel (s : State) (p : Nat) (x : Bool) : State :=
  if (s.rf 0 (wp Reg.WAY_STATUS_WIRE_FAULT p)).testBit 0 then s else s.wf 0 (wp Reg.WAY_STATUS_LEVELS p) (b2n x)

/-- Whether DAT can show level x: a pair in wire fault holds its last good level (R145). -/
def State.datShows (s : State) (p : Nat) (x : Bool) : Bool :=
  !(s.rf 0 (wp Reg.WAY_STATUS_WIRE_FAULT p)).testBit 0 || (s.rf 0 (wp Reg.WAY_STATUS_LEVELS p)).testBit 0 == x

/-- QUADRATURE_STEP: the accepted levels of a port become a, b and z, after ra raw transitions of pair A and rb of pair B since the last
(R147, R148, R166). A pair in wire fault keeps its level (R145); on an absolute port a is the level of DAT (R151). -/
def execQuadratureStep (p : Nat) (a b z : Bool) (ra rb : Nat) (s : State) : Host.Outcome State Fault Refusal :=
  let p := p % 4
  let lv := s.rf 0 (wp Reg.WAY_STATUS_LEVELS p)
  let wf := s.rf 0 (wp Reg.WAY_STATUS_WIRE_FAULT p)
  let hold := fun (k : Nat) (x : Bool) => if wf.testBit k then lv.testBit k else x
  let a1 := hold 0 a
  let b1 := hold 1 b
  let z1 := hold 2 z
  let mode := s.rf 0 (wp Reg.WAY_CFG_MODE p)
  .next (if mode = 2 then s.datLevel p a
  else if mode = 1 then
    let ca := a1 != lv.testBit 0
    let cb := b1 != lv.testBit 1
    let s1 := (s.wf 0 (wp Reg.WAY_STATUS_LEVELS p) (maskOf [a1, b1, z1])).tally p ra rb ca cb
    if ca ∧ cb then s1.doubleEdge p
    else if ca ∨ cb then
      let fwd := (quadPlace a1 b1 + 4 - quadPlace (lv.testBit 0) (lv.testBit 1)) % 4 = 1
      let inv := s.rb 0 (wp Reg.WAY_CTL_INVERT p)
      s1.countStep p (if (decide fwd) != inv then 1 else -1)
    else s1
  else s)

/-- DOUBLE_EDGE_WINDOW: a 1 ms window ends; a count above DE_LIMIT marks the position uncertain, and the next window starts at 0 (R148). -/
def execDoubleEdgeWindow (p : Nat) (s : State) : Host.Outcome State Fault Refusal :=
  let p := p % 4
  let s1 := if s.rf 0 (wp Reg.WAY_DE_LIMIT p) < s.rf 0 (wp Reg.WAY_DE_IN_WINDOW p) then s.unsure p else s
  .next (s1.wf 0 (wp Reg.WAY_DE_IN_WINDOW p) 0)

/-- WIRE_DISAGREE_FAULT: the wires of an input pair k of a port agree for DISAGREE_M samples (R145). -/
def execWireDisagreeFault (p k : Nat) (s : State) : Host.Outcome State Fault Refusal :=
  let p := p % 4
  let wf := s.rf 0 (wp Reg.WAY_STATUS_WIRE_FAULT p)
  .next (if !s.pairUsed p k ∨ wf.testBit k then s
  else ((s.wf 0 (wp Reg.WAY_STATUS_WIRE_FAULT p) (wf + 2 ^ k)).unsure p).ev 0 (wp Reg.WAY_EVENT_WIRE_FAULT p))

/-- WIRE_FAULT_CLEAR: the wires of a pair in fault differ for DISAGREE_M samples (R145). -/
def execWireFaultClear (p k : Nat) (s : State) : Host.Outcome State Fault Refusal :=
  let p := p % 4
  let wf := s.rf 0 (wp Reg.WAY_STATUS_WIRE_FAULT p)
  .next (if wf.testBit k then s.wf 0 (wp Reg.WAY_STATUS_WIRE_FAULT p) (wf - 2 ^ k) else s)

/-- FILTER_REJECTED_PULSE: the filter of input pair k rejects a pulse: counted awake (R146); asleep its two raw transitions enter the tally
of a quadrature pair (R166). -/
def execFilterRejectedPulse (p k : Nat) (s : State) : Host.Outcome State Fault Refusal :=
  let p := p % 4
  .next (if !s.pairUsed p k then s
  else if !s.asleep then s.inc 0 (wp Reg.WAY_GLITCH_COUNT p)
  else if s.rf 0 (wp Reg.WAY_CFG_MODE p) = 1 then s.tally p (if k = 0 then 2 else 0) (if k = 1 then 2 else 0) false false
  else s)

/-! ### Index -/

/-- The discrepancy of an index event (R150). -/
def State.indexD (s : State) (p : Nat) : Int :=
  let n := s.cpr p
  let d := Int.emod (s.rf 0 (wp Reg.WAY_INDEX_COUNT_COUNT p) - s.count p) n
  if Int.ediv n 2 < d then d - n else d

/-- A snap: C changes by d and the run and the mark clear (R150, R156). -/
def State.snap (s : State) (p : Nat) (d : Int) : State :=
  let s1 := (s.noteBefore p).advance p d
  let s2 := s1.portMod p (fun w => { w with hist := lmod w.hist 0 (fun e => { e with pos := s1.countedPos p, ext := s1.ext p }) })
  let s3 := (s2.inc 0 (wp Reg.WAY_INDEX_STAT_SNAPS p)).wf 0 (wp Reg.WAY_STATUS_MISMATCH_RUN p) 0
  ((s3.sure p).underflow p).ev 0 (wp Reg.WAY_EVENT_INDEX_SNAP p)

/-- INDEX_EVENT: an accepted rising edge of Z (R150). -/
def execIndexEvent (p : Nat) (s : State) : Host.Outcome State Fault Refusal :=
  let p := p % 4
  .next (if s.rf 0 (wp Reg.WAY_CFG_MODE p) ≠ 1 ∨ !s.rb 0 (wp Reg.WAY_CTL_INDEX_EN p) ∨
      (s.rf 0 (wp Reg.WAY_STATUS_WIRE_FAULT p)).testBit 2 then s
  else
    let d := s.indexD p
    let first := !(s.port p).indexed
    let s1 := s.portMod p (fun w => { w with indexed := true })
    if (first ∧ s.rb 0 (wp Reg.WAY_CTL_INDEX_ALIGN p)) ∨ d.natAbs ≤ s.rf 0 (wp Reg.WAY_CFG_INDEX_TOL p) then s1.snap p d
    else
      let run := s.rf 0 (wp Reg.WAY_STATUS_MISMATCH_RUN p)
      let s2 := ((s1.inc 0 (wp Reg.WAY_INDEX_STAT_MISMATCHES p)).wf 0 (wp Reg.WAY_STATUS_MISMATCH_RUN p) (satN 3 (run + 1))).ev 0
        (wp Reg.WAY_EVENT_INDEX_MISMATCH p)
      if run = 2 then s2.suspect p else s2)

/-! ### Absolute frames -/

/-- A bad frame: counted, and its run escalates (R152). -/
def State.badFrame (s : State) (p : Nat) (f : Fld) : State :=
  let run := (s.port p).absRun + 1
  let s1 := (s.portMod p (fun w => { w with absRun := run })).inc 0 (wp f p)
  let s2 := (s1.wf 0 (wp Reg.WAY_STATUS_MISMATCH_RUN p) (satN 3 run)).ev 0 (wp Reg.WAY_EVENT_ABS_FRAME_ERR p)
  let s3 := if run = 2 then s2.unsure p else s2
  if run = 8 then s3.suspect p else s3

/-- Start a frame, or refuse it while DAT is low (R151). -/
def State.absStart (s : State) (p : Nat) : State :=
  if (s.rf 0 (wp Reg.WAY_STATUS_LEVELS p)).testBit 0 then
    (s.portMod p (fun w => { w with absBusy := true, absLatch := s.sampleNs })).emit .absFrame p []
  else s.badFrame p Reg.WAY_ABS_ERRS_BUSY

/-- A request for a frame: one that comes during a frame is counted once and served when that frame ends (R151). -/
def State.absRequest (s : State) (p : Nat) : State :=
  if s.rf 0 (wp Reg.WAY_CFG_MODE p) ≠ 2 then s
  else if (s.port p).absBusy then s.portMod p (fun w => { w with absAgain := true })
  else s.absStart p

/-- A frame ends; a request that came during it is served. -/
def State.absEnds (s : State) (p : Nat) : State :=
  let again := (s.port p).absAgain
  let s1 := s.portMod p (fun w => { w with absBusy := false, absAgain := false })
  if again then s1.absStart p else s1

/-- The period of the frame timer, µs: PERIOD_US awake, SLEEP_MS asleep (R151, R165). At 0 it stops (asleep: log 81). -/
def State.absPeriod (s : State) (p : Nat) : Nat :=
  if s.asleep then 1000 * s.rf 0 (wp Reg.WAY_ABS_CTL_SLEEP_MS p) else s.rf 0 (wp Reg.WAY_ABS_CTL_PERIOD_US p)

/-- ABS_FRAME_REQUEST: the Rein task input (`task`) or the period timer requests a frame; `dat` is the level of DAT (R151). -/
def execAbsFrameRequest (p : Nat) (task dat : Bool) (s : State) : Host.Outcome State Fault Refusal :=
  let p := p % 4
  .next (if s.rf 0 (wp Reg.WAY_CFG_MODE p) ≠ 2 ∨ (!task ∧ s.absPeriod p = 0) then s else (s.datLevel p dat).absRequest p)

/-- Whether a frame's CRC holds (R152). -/
def State.absCrcGood (s : State) (p v crc : Nat) : Bool :=
  let n := s.rf 0 (wp Reg.WAY_ABS_CFG_CRC_BITS p)
  let b := s.rf 0 (wp Reg.WAY_ABS_CFG_BITS p)
  let r := crcBits n (s.rf 0 (wp Reg.WAY_ABS_POLY_POLY p)) 0 (bitsMsb b v)
  if n = 0 then true else r == (if s.rb 0 (wp Reg.WAY_ABS_CTL_CRC_INV p) then 2 ^ n - 1 - crc % 2 ^ n else crc % 2 ^ n)

/-- Binary value of a Gray word of n bits: bit k is the parity of bits k and above. -/
def grayValue (n v : Nat) : Nat :=
  (List.range n).foldl (fun a k => a + (b2n ((List.range (n - k)).foldl (fun x j => x != v.testBit (k + j)) false)) * 2 ^ k) 0

/-- Unfold a good value into the extended count (R152): C_pred + Δ, Δ the step from the predicted value. -/
def State.unfold (s : State) (p v : Nat) : State :=
  let b := s.rf 0 (wp Reg.WAY_ABS_CFG_BITS p)
  let npc := (s.npc p).toNat
  let latch := (s.port p).absLatch
  let travel := if s.asleep ∨ npc = 0 then 0 else rne ((s.port p).speed * (latch - s.edgeNs p)) npc
  let pred := s.ext p + travel
  let m : Int := 2 ^ b
  let d0 := Int.emod (v - pred) m
  let d := if Int.ediv m 2 < d0 then d0 - m else d0
  let s1 := (s.noteBefore p).advance p (pred + d - s.ext p)
  let s2 := match (s.port p).hist.head? with
    | none => s1.portMod p (fun w => { w with edges := 1 })
    | some e =>
      let dt := (latch - e.ns).toNat
      let raw := rne ((s1.ext p - e.ext) * s.npc p) dt
      let n := Nat.min 5 ((s.port p).edges + 1)
      if s.asleep ∨ dt = 0 then s1
      else if n < 2 then s1.portMod p (fun w => { w with edges := n })
      else
        let old := (s.port p).speed
        let sp := if n = 2 then raw else old + rne (raw - old) (2 ^ (s.rf 0 (wp Reg.WAY_CTL_SPEED_SHIFT p)))
        (s1.portMod p (fun w => { w with edges := n, speed := sp })).wf 0 (wp Reg.WAY_STATUS_SPEED_VALID p) 1
  (s2.wf64 0 (wp Reg.WAY_ABS_RAW_LO_V p) v).record p latch

/-- ABS_FRAME_COMPLETE: DAT returns high and the frame ends with position bits v and CRC bits (R152). A good one unfolds into the extended
count, ends the run of bad frames and clears the mark, which a position below 0 then sets again (R164); a bad one escalates. -/
def execAbsFrameComplete (p v crc : Nat) (s : State) : Host.Outcome State Fault Refusal :=
  let p := p % 4
  .next (if !(s.port p).absBusy ∨ !s.datShows p true then s
  else
    let s0 := s.datLevel p true
    let b := s.rf 0 (wp Reg.WAY_ABS_CFG_BITS p)
    let raw := v % 2 ^ b
    if s.absCrcGood p raw crc then
      let val := if s.rb 0 (wp Reg.WAY_ABS_CFG_GRAY p) then grayValue b raw else raw
      let s1 := ((s0.portMod p (fun w => { w with absRun := 0 })).wf 0 (wp Reg.WAY_STATUS_MISMATCH_RUN p) 0).unfold p val
      ((s1.sure p).underflow p).absEnds p
    else (s0.badFrame p Reg.WAY_ABS_ERRS_CRC).absEnds p)

/-- ABS_FRAME_TIMEOUT: DAT does not return high in time (R151). -/
def execAbsFrameTimeout (p : Nat) (s : State) : Host.Outcome State Fault Refusal :=
  let p := p % 4
  .next (if (s.port p).absBusy ∧ s.datShows p false then ((s.datLevel p false).badFrame p Reg.WAY_ABS_ERRS_TIMEOUT).absEnds p else s)

/-! ### Speed, sleep and wake -/

/-- Stop the estimate of a port: standstill or sleep (R157, R165). -/
def State.stopSpeed (s : State) (p : Nat) : State :=
  (s.portMod p (fun w => { w with speed := 0, edges := 0 })).wf 0 (wp Reg.WAY_STATUS_SPEED_VALID p) 0

/-- SPEED_STANDSTILL: STOP_MS without an edge (R157). -/
def execSpeedStandstill (p : Nat) (s : State) : Host.Outcome State Fault Refusal :=
  let p := p % 4
  .next (if s.rf 0 (wp Reg.WAY_CTL_STOP_MS p) * 1000000 ≤ s.sampleNs - s.edgeNs p then s.stopSpeed p else s)

/-- The first trigger point strictly beyond a position (R159). -/
def State.firstPoint (s : State) (p : Nat) : Int :=
  let pitch : Int := s.rf 0 (wp Reg.WAY_TRIG_PITCH_NM p) * nmQ
  let base := (s.port p).origin + s.rf 0 (wp Reg.WAY_TRIG_PHASE_NM p) * nmQ
  if pitch = 0 then 0 else base + (Int.ediv (s.posQ p - base) pitch + 1) * pitch

/-- Start the trigger series of a port beyond its present position (R159). -/
def State.rebase (s : State) (p : Nat) : State :=
  let x := s.firstPoint p
  s.portMod p (fun w => { w with nextPoint := x })

/-- The package leaves Run: C_sleep of each port (R167). Out of Stand it left Run before. -/
def State.leaveRun (s : State) : State :=
  if s.rf 0 Reg.PWR_STATE_STATE = 0 then (List.range 4).foldl (fun t p => t.portMod p (fun w => { w with sleepExt := s.ext p })) s else s

/-- The clocks stop (R165): speed and interpolation end, and the edge tallies count (R166). -/
def State.waySleep (s : State) : State :=
  (List.range 4).foldl (fun t p => (t.stopSpeed p).portMod p (fun w => { w with hist := [], tallyA := (0, 0), tallyB := (0, 0) })) s

/-- The package wakes (R165): speed restarts, triggers resume beyond the present position. -/
def State.wayWake (s : State) : State :=
  (List.range 4).foldl (fun t p =>
    let u := ((t.stopSpeed p).portMod p (fun w => { w with hist := [], nextFixed := 4294967296 * (t.tmt.samples + 1) }))
    u.rebase p) s

/-- MOTION_WAKE: travel since the package left Run reaches WAY_WAKE.COUNTS, asleep or on the way (R167, R428). -/
def execMotionWake (p : Nat) (s : State) : Host.Outcome State Fault Refusal :=
  let p := p % 4
  .next (if (1 ≤ s.rf 0 Reg.PWR_STATE_STATE ∧ s.rf 0 Reg.PWR_STATE_STATE ≤ 3) ∧ s.rb 0 (wp Reg.WAY_WAKE_ENABLE p) ∧
      s.rf 0 (wp Reg.WAY_WAKE_COUNTS p) ≤ (s.ext p - (s.port p).sleepExt).natAbs then
    (s.ev 0 (wp Reg.WAY_EVENT_MOTION_WAKE p)).wakeSource 1 p
  else s)

/-- WAY_CMD: CLEAR_SUSPECT first, then CLEAR_UNCERTAIN, ABS_REQUEST and CLEAR_COUNTS (R150, R156). -/
def State.actWayCmd (s : State) (p : Nat) (w : Word) : State :=
  let b := fun (k : Nat) => w.toNat.testBit k
  let s1 := if b 1 then
      ((s.wf 0 (wp Reg.WAY_STATUS_SUSPECT p) 0).wf 0 (wp Reg.WAY_STATUS_MISMATCH_RUN p) 0).portMod p (fun x => { x with absRun := 0 })
    else s
  let s2 := if b 0 ∧ !s1.rb 0 (wp Reg.WAY_STATUS_SUSPECT p) then
      (s1.wf 0 (wp Reg.WAY_STATUS_UNCERTAIN p) 0).wf 0 (wp Reg.WAY_STATUS_SLEEP_OVERSPEED p) 0 else s1
  let s3 := if b 3 then
      (((s2.setWord .WAY 0 (0x13C + 0x100 * p) 0).setWord .WAY 0 (0x144 + 0x100 * p) 0).setWord .WAY 0 (0x188 + 0x100 * p) 0).setWord .WAY 0
        (0x190 + 0x100 * p) 0
    else s2
  if b 2 then s3.absRequest p else s3

/-- CLEAR_UNCERTAIN: `WAY_CMD.CLEAR_UNCERTAIN` (R156). -/
def execClearUncertain (m p : Nat) (w : Word) (s : State) : Host.Outcome State Fault Refusal :=
  .next (s.regAct m 0 (wp Reg.WAY_CMD_CLEAR_UNCERTAIN (p % 4)) w (fun t => t.actWayCmd (p % 4) (w ||| 1)))

/-- CLEAR_SUSPECT: `WAY_CMD.CLEAR_SUSPECT` (R150). -/
def execClearSuspect (m p : Nat) (w : Word) (s : State) : Host.Outcome State Fault Refusal :=
  .next (s.regAct m 0 (wp Reg.WAY_CMD_CLEAR_SUSPECT (p % 4)) w (fun t => t.actWayCmd (p % 4) (w ||| 2)))

/-- ABS_REQUEST: `WAY_CMD.ABS_REQUEST` (R151). -/
def execAbsRequest (m p : Nat) (w : Word) (s : State) : Host.Outcome State Fault Refusal :=
  .next (s.regAct m 0 (wp Reg.WAY_CMD_ABS_REQUEST (p % 4)) w (fun t => t.actWayCmd (p % 4) (w ||| 4)))

/-- WAY_CLEAR_COUNTS: `WAY_CMD.CLEAR_COUNTS`. -/
def execWayClearCounts (m p : Nat) (w : Word) (s : State) : Host.Outcome State Fault Refusal :=
  .next (s.regAct m 0 (wp Reg.WAY_CMD_CLEAR_COUNTS (p % 4)) w (fun t => t.actWayCmd (p % 4) (w ||| 8)))

/-! ### Compare units -/

/-- Compare unit u. -/
def State.cmp (s : State) (u : Nat) : CmpUnit := s.way.cmps.getD u CmpUnit.fresh

/-- Set compare unit u and its DEPTH. -/
def State.cmpSet (s : State) (u : Nat) (c : CmpUnit) : State :=
  ({ s with way := { s.way with cmps := lmod s.way.cmps u (fun _ => c) } } : State).wf 0 (wc Reg.WAY_CMP_STATUS_DEPTH u) c.queue.length

/-- The position a compare unit watches, and the one a sample before. -/
def State.cmpPos (s : State) (u : Nat) : Int × Int :=
  if s.rb 0 (wc Reg.WAY_CMP_CTL_WEB u) then (s.webQ, s.posBefore s.webPort + s.way.offset)
  else (s.posQ (s.rf 0 (wc Reg.WAY_CMP_CTL_PORT u)), s.posBefore (s.rf 0 (wc Reg.WAY_CMP_CTL_PORT u)))

/-- Whether a position is at or beyond a target in the sense of DIR; for DIR 2 equal to it (R162). -/
def beyond (dir : Nat) (x t : Int) : Bool := if dir = 0 then decide (t ≤ x) else if dir = 1 then decide (x ≤ t) else decide (x = t)

/-- Insert a target in the order of DIR (R162). -/
def cmpInsert (dir : Nat) (t : CmpTarget) : List CmpTarget → List CmpTarget
  | [] => [t]
  | x :: r => if (if dir = 1 then decide (x.pos < t.pos) else decide (t.pos < x.pos)) then t :: x :: r else x :: cmpInsert dir t r

/-- Push a target: refused when the queue is full; late where it is already reached, with DIR 2 only as the head, which alone is armed (R162). -/
def State.cmpPush (s : State) (u : Nat) (pos : Int) (tag : Nat) : State :=
  let c := s.cmp u
  if 8 ≤ c.queue.length then
    State.edges s [6] ((s.wf 0 (wc Reg.WAY_CMP_STATUS_FULL u) 1).inc 0 (wc Reg.WAY_CMP_STATUS_DROPS u))
  else
    let dir := s.rf 0 (wc Reg.WAY_CMP_CTL_DIR u)
    let x := (s.cmpPos u).1
    let late := s.rb 0 (wc Reg.WAY_CMP_CTL_ENABLE u) && beyond dir x (pos * nmQ) &&
      (decide (dir < 2) || (cmpInsert dir ⟨pos, tag, true, s.tickNo⟩ c.queue).head? == some ⟨pos, tag, true, s.tickNo⟩)
    let q := cmpInsert dir ⟨pos, tag, late, s.tickNo⟩ c.queue
    let above := match q with
      | t :: _ => decide (t.pos * nmQ < x)
      | [] => false
    s.cmpSet u { c with queue := q, above := if q.head? = c.queue.head? then c.above else above }

/-- WAY_CMP_PUSH: FLUSH first, then PUSH of the unsigned position of WAY_CMP_TARGET (R13, R162). -/
def State.actCmpPush (s : State) (u : Nat) (w : Word) : State :=
  let s1 := if w.toNat.testBit 30 then s.cmpSet u { s.cmp u with queue := [], above := false } else s
  if w.toNat.testBit 31 then s1.cmpPush u (s1.rf64 0 (wc Reg.WAY_CMP_TARGET_LO_NM u)) (getBits w 15 0) else s1

/-- COMPARE_PUSH: `WAY_CMP_PUSH.PUSH` (R162). -/
def execComparePush (m u : Nat) (w : Word) (s : State) : Host.Outcome State Fault Refusal :=
  .next (s.regAct m 0 (wc Reg.WAY_CMP_PUSH_PUSH (u % 16)) w (fun t => t.actCmpPush (u % 16) (w ||| maskBits 31 31)))

/-- COMPARE_FLUSH: `WAY_CMP_PUSH.FLUSH` (R162). -/
def execCompareFlush (m u : Nat) (w : Word) (s : State) : Host.Outcome State Fault Refusal :=
  .next (s.regAct m 0 (wc Reg.WAY_CMP_PUSH_FLUSH (u % 16)) w (fun t => t.actCmpPush (u % 16) (w ||| maskBits 30 30)))

/-- After a write to WAY_CMP_CTL, `old` the state before it: the queue takes the order of DIR, and ENABLE becoming 1 arms the head, which is
late if it is already reached (R162); the pins that the unit named and names show their levels (R163, R497). -/
def State.actCmpCtl (s : State) (u : Nat) (old : State) : State :=
  let dir := s.rf 0 (wc Reg.WAY_CMP_CTL_DIR u)
  let x := (s.cmpPos u).1
  let q := (s.cmp u).queue.foldl (fun a t => cmpInsert dir t a) []
  let rising := s.rb 0 (wc Reg.WAY_CMP_CTL_ENABLE u) && !old.rb 0 (wc Reg.WAY_CMP_CTL_ENABLE u)
  let q1 := match q with
    | t :: r => if rising then { t with late := beyond dir x (t.pos * nmQ), since := s.tickNo } :: r else q
    | [] => []
  let above := match q with
    | t :: _ => decide (t.pos * nmQ < x)
    | [] => false
  (s.cmpSet u { s.cmp u with queue := q1, above := if rising then above else (s.cmp u).above }).gioShow old (gioNamed [old, s] 0 u)

/-- COMPARE_ENABLE: a write of `WAY_CMP_CTL` with ENABLE 1 (R162). -/
def execCompareEnable (m u : Nat) (w : Word) (s : State) : Host.Outcome State Fault Refusal :=
  .next (s.regAct m 0 (wc Reg.WAY_CMP_CTL_ENABLE (u % 16)) w (fun t => t.actCmpCtl (u % 16) s))

/-- Whether the head of a unit fires in the present sample: it has been reached, a late one by an earlier sample, and the unit has not fired
in this one (R162). -/
def State.cmpReached (s : State) (u : Nat) : Bool :=
  let c := s.cmp u
  let dir := s.rf 0 (wc Reg.WAY_CMP_CTL_DIR u)
  match c.queue with
  | [] => false
  | t :: _ =>
    let x := (s.cmpPos u).1
    let q := t.pos * nmQ
    s.rb 0 (wc Reg.WAY_CMP_CTL_ENABLE u) && c.fired != some s.tickNo && !(t.late && t.since == s.tickNo) &&
    (t.late || beyond dir x q || (decide (1 < dir) && (if c.above then decide (x ≤ q) else decide (q ≤ x))))

/-- COMPARE_FIRE: the head target of an enabled unit is reached (R162): position, instant and tag are recorded and each enabled action
taken; a Rein event is not generated asleep (R165). -/
def execCompareFire (u : Nat) (s : State) : Host.Outcome State Fault Refusal :=
  let u := u % 16
  .next (match (s.cmp u).queue with
    | [] => s
    | t :: r =>
      if !s.cmpReached u then s
      else
        let x := s.cmpPos u
        let above := match r with
          | n :: _ => decide (n.pos * nmQ < x.2)
          | [] => false
        let s1 := s.cmpSet u ⟨r, above, some s.tickNo⟩
        let s2 := (s1.wf64 0 (wc Reg.WAY_CMP_FIRED_POS_LO_NM u) (unsgn 64 (rne x.1 4294967296))).wf64 0
          (wc Reg.WAY_CMP_FIRED_TIME_LO_NS u) s.now
        let s3 := (s2.wf 0 (wc Reg.WAY_CMP_FIRED_TAG_TAG u) t.tag).wf 0 (wc Reg.WAY_CMP_STATUS_FIRED u) 1
        let s4 := State.edges s [6] (if t.late then s3.wf 0 (wc Reg.WAY_CMP_STATUS_LATE u) 1 else s3)
        let s5 := if s.rb 0 (wc Reg.WAY_CMP_CTL_GIO_EN u) then
            s4.gioStart 0 u (s.rf 0 (wc Reg.WAY_CMP_CTL_WIDTH_US u)) else s4
        let s6 := if s.rb 0 (wc Reg.WAY_CMP_CTL_REIN u) ∧ !s.asleep then s5.reinRaise 0 0xF001 u 1 else s5
        if s.rb 0 (wc Reg.WAY_CMP_CTL_WAKE u) then s6.wakeSource 2 u else s6)

/-! ### Harness load and Yoke apply -/

/-- Put a WAYW record into the registers that it loads (R57). -/
def State.wayRegs (s : State) (p : Nat) (r : WaywRec) : State :=
  let w := fun (f : Fld) (v : Nat) (t : State) => t.wf 0 (wp f p) v
  ((((((((((((s |> w Reg.WAY_CFG_MODE r.mode) |> w Reg.WAY_CFG_TRIGGER r.trigger) |> w Reg.WAY_CFG_FILTER_N r.filterN) |>
    w Reg.WAY_CFG_DISAGREE_M r.disagreeM) |> w Reg.WAY_CFG_INDEX_TOL r.indexTol) |> w Reg.WAY_CPR_CPR_M1 r.cpr) |>
    w Reg.WAY_DE_LIMIT r.deLimit) |> w Reg.WAY_ABS_CFG_BITS r.absBits) |> w Reg.WAY_ABS_CFG_GRAY r.absCode) |>
    w Reg.WAY_ABS_CFG_CRC_BITS r.absCrcBits) |> w Reg.WAY_ABS_CFG_CLOCK_KHZ r.absClock) |> w Reg.WAY_ABS_POLY_POLY r.absPoly) |>
    w Reg.WAY_ABS_TIMEOUT_NS r.absTimeout

/-- A port restarts with a new record (R155). -/
def State.portStart (s : State) (p : Nat) (r : WaywRec) : State :=
  let s1 := (((s.wf 0 (wp Reg.WAY_COUNT_COUNT p) 0).wf 0 (wp Reg.WAY_REV_REV p) 0).wf64 0 (wp Reg.WAY_ORIGIN_LO_NM p) 0).wf64 0
    (wp Reg.WAY_NPC_LO_FRAC p) r.npc
  let s2 := ((s1.wf 0 (wp Reg.WAY_STATUS_SUSPECT p) 0).wf 0 (wp Reg.WAY_STATUS_MISMATCH_RUN p) 0).wf 0 (wp Reg.WAY_STATUS_SPEED_VALID p) 0
  let s3 := (s2.unsure p).portMod p (fun _ =>
    { WayPort.fresh with rcd := some r, nextFixed := 4294967296 * (s.tmt.samples + 1) })
  s3.rebase p

/-- A harness load sets the ports from its WAYW records (R155): a port whose record is unchanged keeps its count, origin and trigger
point, one that changes restarts, one without a record is off; the web-position offset returns to 0. -/
def State.wayLoad (s : State) (rs : List WaywRec) : State :=
  let s0 := { s with way := { s.way with offset := 0 } }
  (List.range 4).foldl (fun t p =>
    match rs.find? (fun r => r.port == p) with
    | none => t.portMod p (fun w => { w with rcd := none })
    | some r =>
      let u := t.wayRegs p r
      if (t.port p).rcd = some r then u else u.portStart p r) s0

/-- The registers of a window that a commit wrote. -/
def wroteReg (ks : List Nat) (b : Blk) (i o : Nat) : Bool := ks.contains (regKey b i o)

/-- A Yoke apply on the Waywiser (R153, R154, R159): `old` is the state before the values, `ks` the registers applied. -/
def State.wayApply (s old : State) (ks : List Nat) : State :=
  let s1 := (List.range 4).foldl (fun (t : State) p =>
    let o := fun (x : Nat) => wroteReg ks .WAY 0 (x + 0x100 * p)
    let t1 :=
      if o 0x128 ∨ o 0x12C then
        t.portMod p (fun w => { w with origin := sgn 64 (t.rf64 0 (wp Reg.WAY_ORIGIN_LO_NM p)) * nmQ })
      else if t.npc p ≠ old.npc p then
        let x := (old.port p).origin + old.ext p * (old.npc p - t.npc p)
        (t.portMod p (fun w => { w with origin := x })).wf64 0 (wp Reg.WAY_ORIGIN_LO_NM p) (unsgn 64 (rne x 4294967296))
      else t
    let t2 := t1.portMod p (fun w => { w with hist := lmod w.hist 0 (fun e => { e with pos := t1.countedPos p }) })
    let moved := decide ((t2.port p).origin ≠ (old.port p).origin)
    let t3 := if moved then t2.underflow p else t2
    let same := fun (f : Fld) => t3.rf 0 (wp f p) == old.rf 0 (wp f p)
    if moved ∨ !same Reg.WAY_TRIG_PITCH_NM ∨ !same Reg.WAY_TRIG_PHASE_NM then t3.rebase p else t3) s
  if s.webPort ≠ old.webPort then
    let x := old.webQ - s1.posQ s.webPort
    ({ s1 with way := { s1.way with offset := x } } : State).wf64 0 Reg.WAY_MASTER_OFFSET_LO_NM (unsgn 64 (rne x 4294967296))
  else s1

end Sys2Proof.Machine
end

