-- ==== Sys2Proof/Machine/Whiffletree.lean ====
section
/-! DEFINITION. The Whiffletree (R344 to R352). -/

namespace Sys2Proof.Machine

/-- A unit. -/
def State.whtAt (s : State) (i : Nat) : Wht := cgetD s.wht i Wht.fresh

/-- Whether input 15 of a unit is fixed (R344): the emergency inputs of units 0, 1 and 7, and the Outrider's of unit 8. -/
def whtFixed (unit : Nat) : Bool := unit == 0 || unit == 1 || unit == 7 || unit == 8

/-- Whether input 15 of a unit is an emergency input (R344). -/
def whtEmergency (unit : Nat) : Bool := unit == 0 || unit == 1 || unit == 7

/-- The requester at an input: that of WHT_IN, or a number of its own for a fixed input. -/
def State.whtRequester (s : State) (i n : Nat) : Nat :=
  if n = 15 ∧ whtFixed (i % 32) then 0x1000F else s.rf i (Reg.WHT_IN_REQUESTER.sh (4 * n))

/-- BURST_MAX of an input; a fixed input has none and holds until it drops. -/
def State.whtBurst (s : State) (i n : Nat) : Nat :=
  if n = 15 ∧ whtFixed (i % 32) then 0 else s.rf i (Reg.WHT_IN_BURST_MAX.sh (4 * n))

/-- Whether a unit is in hold mode (R347). -/
def State.whtHold (s : State) (i : Nat) : Bool := s.rb i Reg.WHT_STATUS_HOLD_MODE || s.rb i Reg.WHT_CTL_HOLD

/-- Whether the Curb withholds a request on units 0 and 1 (R316): its requester is Curbed and DELAY ns since its last grant have not
passed. -/
def State.whtCurbed (s : State) (i : Nat) (r : WhtReq) : Bool :=
  let d := cgetD s.dmc i Dmc.fresh
  decide (i % 32 < 2) && d.curbed.contains r.requester &&
  decide (s.now < cgetD (s.whtAt i).ended r.requester 0 + s.rf i Reg.DMC_CURB_CTL_DELAY)

/-- The turn hint of a request (R350). -/
def State.whtHint (s : State) (i : Nat) (l : List WhtReq) (r : WhtReq) : Nat :=
  let above := l.filter (fun x => decide (r.input < x.input))
  let sum := above.foldl (fun a x => a + ceilDiv x.beats (Nat.max 1 (s.whtBurst i x.input))) 0
  if s.whtHold i ∨ above.any (fun x => x.input == 15 && whtEmergency (i % 32)) then 4095 else satN 4095 sum

/-- Store a unit, showing its pending inputs, its holder and the hints of those that wait. -/
def State.whtSet (s : State) (i : Nat) (w : Wht) : State :=
  let w1 := { w with reqs := w.reqs.map (fun r => { r with hint := s.whtHint i w.reqs r }) }
  let s1 := { s with wht := cset s.wht i w1 }
  let s2 := s1.wf i Reg.WHT_PENDING_INPUT (maskOf ((List.range 16).map (fun n => w.reqs.any (fun r => r.input == n))))
  match w.holder with
  | some h => (s2.wf i Reg.WHT_STATUS_GRANTED 1).wf i Reg.WHT_STATUS_HOLDER h.1.input
  | none => s2.wf i Reg.WHT_STATUS_GRANTED 0

/-- Add the requests that have begun; an input without a requester has none. -/
def State.whtAdd (s : State) (i : Nat) (w : Wht) (l : List BusReq) : Wht :=
  l.foldl (fun a q =>
    let rq := s.whtRequester i q.input
    if rq = 0xFFFF ∨ 15 < q.input ∨ q.beats = 0 then a
    else { a with reqs := a.reqs ++ [⟨q.input, rq, q.beats, s.now - q.ago, false, false, false, 0⟩] }) w

/-- The highest of some requests. -/
def highest : List WhtReq → Option WhtReq
  | [] => none
  | r :: t =>
    match highest t with
    | none => some r
    | some x => if x.input < r.input then some r else some x

/-- Take a decision (R346, R352): orphans of an old map first, at their old numbers; then the highest pending input. -/
def State.whtDecide (s : State) (i : Nat) (w : Wht) : State :=
  let open' := w.reqs.filter (fun r => !s.whtCurbed i r)
  let orphans := open'.filter (fun r => r.orphan)
  match w.holder, highest (if orphans.isEmpty then open' else orphans) with
  | none, some r =>
    let s1 := s.whtSet i { w with reqs := dropFirst (fun x => x == r) w.reqs, holder := some (r, s.whtBurst i r.input) }
    (s1.incWrap i Reg.WHT_CNT_COUNT).wf i Reg.WHT_STATUS_BEATS 0
  | _, _ => s.whtSet i w

/-- WHIFFLETREE_DECISION: requests that have begun become pending; if the resource is free the highest input is granted, and the others
get turn hints (R346, R350). -/
def execWhiffletreeDecision (c u : Nat) (reqs : List BusReq) (s : State) : Host.Outcome State Fault Refusal :=
  let i := unitOf c (u % 32)
  .next (if s.hasUnit .WHT i then s.whtDecide i (s.whtAdd i (s.whtAt i) reqs) else s)

/-- The grant ends after some beats: the rest of the request waits again, with or without the preempted mark. -/
def State.whtEnd (s : State) (w : Wht) (r : WhtReq) (left : Nat) (preempted : Bool) : Wht :=
  let e := cset w.ended r.requester s.now
  if left = 0 then { w with holder := none, ended := e }
  else { w with holder := none, ended := e, reqs := w.reqs ++ [{ r with beats := left, preempted := preempted, since := s.now, told := false }] }

/-- BURST_MAX_EXPIRE: the holder has moved BURST_MAX beats and re-arbitrates with the rest; hold mode ignores BURST_MAX (R347). -/
def execBurstMaxExpire (c u : Nat) (s : State) : Host.Outcome State Fault Refusal :=
  let i := unitOf c (u % 32)
  let w := s.whtAt i
  .next (match w.holder with
    | some (r, b) =>
      if s.whtHold i ∨ b = 0 ∨ r.beats ≤ b then s
      else (s.wf i Reg.WHT_STATUS_BEATS b).whtDecide i (s.whtEnd w r (r.beats - b) false)
    | none => s)

/-- GRANT_DROP: the holder drops its request after `beats` beats; a drop before the first beat costs a dead cycle (R347, R349). -/
def execGrantDrop (c u beats : Nat) (s : State) : Host.Outcome State Fault Refusal :=
  let i := unitOf c (u % 32)
  let w := s.whtAt i
  .next (match w.holder with
    | some (r, _) =>
      let s1 := (s.wf i Reg.WHT_STATUS_BEATS (satN 65535 beats)).whtSet i (s.whtEnd w r 0 false)
      if beats = 0 then (s1.inc i (Reg.WHT_CNT_COUNT.sh 8)).ev i Reg.WHT_EVENT_DEAD else s1
    | none => s)

/-- The emergency input of a unit takes the grant (R348): the holder keeps its remaining beats pending; a free resource grants it in the
ordinary way. -/
def State.whtPreempt (s : State) (i beats : Nat) : State :=
  let w := s.whtAt i
  let e : WhtReq := ⟨15, 0x1000F, 1, s.now, false, false, false, 0⟩
  match w.holder with
  | none => s.whtDecide i { w with reqs := w.reqs ++ [e] }
  | some (r, _) =>
    if r.input = 15 then s
    else
      let w1 := s.whtEnd w r (r.beats - beats) true
      let s1 := s.whtSet i { w1 with holder := some (e, 0) }
      (((s1.incWrap i Reg.WHT_CNT_COUNT).inc i (Reg.WHT_CNT_COUNT.sh 4)).wf i Reg.WHT_STATUS_BEATS 0).ev i Reg.WHT_EVENT_PREEMPT

/-- EMERGENCY_PREEMPT: an emergency input of unit 0, 1 or 7 takes the grant after `beats` beats of the holder (R348). -/
def execEmergencyPreempt (c u beats : Nat) (s : State) : Host.Outcome State Fault Refusal :=
  .next (if whtEmergency u ∧ s.hasUnit .WHT (unitOf c u) then s.whtPreempt (unitOf c u) beats else s)

/-- STARVATION: the wait of an input exceeds WHT_STARVE.LIMIT_NS; it is reported once per wait (R351). -/
def execStarvation (c u input : Nat) (s : State) : Host.Outcome State Fault Refusal :=
  let i := unitOf c (u % 32)
  let w := s.whtAt i
  let lim := s.rf i Reg.WHT_STARVE_LIMIT_NS
  .next (match w.reqs.find? (fun r => r.input == input && !r.told && decide (lim < s.now - r.since)) with
    | some r =>
      if lim = 0 then s
      else
        let s1 := s.whtSet i { w with reqs := w.reqs.map (fun x => if x == r then { x with told := true } else x) }
        let s2 := s1.wf i Reg.WHT_STARVED_INPUT (s1.rf i Reg.WHT_STARVED_INPUT ||| 2 ^ (input % 16))
        (s2.inc i (Reg.WHT_CNT_COUNT.sh 12)).ev i Reg.WHT_EVENT_STARVE
    | none => s)

/-- WHT_CTL.CLEAR_STARVE: clears WHT_STARVED and restarts every wait counter (R351). -/
def State.actClearStarve (s : State) (i : Nat) : State :=
  let w := s.whtAt i
  (s.whtSet i { w with reqs := w.reqs.map (fun x => { x with since := s.now, told := false }) }).wf i Reg.WHT_STARVED_INPUT 0

/-- CLEAR_STARVE: `WHT_CTL.CLEAR_STARVE`. -/
def execClearStarve (m c u : Nat) (w : Word) (s : State) : Host.Outcome State Fault Refusal :=
  .next (s.regAct m (unitOf c (u % 32)) Reg.WHT_CTL_CLEAR_STARVE w (fun t => t.actClearStarve (unitOf c (u % 32))))

/-- The windows of every Whiffletree unit of the part. -/
def State.whtUnits (s : State) : List Nat :=
  (List.range s.hw.coaches).flatMap (fun c => (List.range (if c = 0 then 9 else 8)).map (unitOf c))

/-- Put every unit in hold mode for a cause (R347). -/
def State.whtHoldAll (s : State) (cause : Nat) : State :=
  s.whtUnits.foldl (fun t i => (t.wf i Reg.WHT_STATUS_HOLD_MODE 1).wf i Reg.WHT_STATUS_HOLD_CAUSE cause) s

/-- Stage 11: every unit leaves hold mode (R347, R434). -/
def State.whtRelease (s : State) : State :=
  s.whtUnits.foldl (fun t i => (t.wf i Reg.WHT_STATUS_HOLD_MODE 0).wf i Reg.WHT_STATUS_HOLD_CAUSE 0) s

/-- A Yoke apply on a unit's map (R352): waiting inputs take the new number of their requester; one whose requester is gone keeps its old
number and is served first. -/
def State.whtApply (s : State) (i : Nat) : State :=
  let w := s.whtAt i
  let renum := fun (r : WhtReq) =>
    match (List.range 16).find? (fun n => s.whtRequester i n == r.requester) with
    | some n => { r with input := n }
    | none => { r with orphan := true }
  (s.whtSet i { w with reqs := w.reqs.map renum }).ev i Reg.WHT_EVENT_REMAP

end Sys2Proof.Machine
end

