-- ==== Sys2Proof/Machine/Post.lean ====
section
/-! DEFINITION. The Post (R414 to R418): claims, messages, horns, and the Daxpamen services of mailbox 14. -/

namespace Sys2Proof.Machine

/-- A field of mailbox m. -/
def pst (f : Fld) (m : Nat) : Fld := f.sh (0x100 * m)

/-- Word n of a mailbox's slot. -/
def State.slotWord (s : State) (m n : Nat) : Word := s.word .PST 0 (0x100 * m + 0x40 + 4 * n)

/-- Set word n of a mailbox's slot. -/
def State.setSlot (s : State) (m n : Nat) (w : Word) : State := s.setWord .PST 0 (0x100 * m + 0x40 + 4 * n) w

/-- Empty a mailbox: no message, no claim, no writer. -/
def State.slotFree (s : State) (m : Nat) : State :=
  ((s.wf 0 (pst Reg.PST_STATUS_FULL m) 0).wf 0 (pst Reg.PST_STATUS_CLAIMED m) 0).wf 0 (pst Reg.PST_STATUS_WRITER m) 0

/-- Whether the receiver of a mailbox is in reset or asleep (R416). -/
def State.receiverAsleep (s : State) (m : Nat) : Bool :=
  let r := s.rf 0 (pst Reg.PST_CFG_RECEIVER m)
  if r = mHost then !s.pwr.linkUp || !s.pwr.inD0
  else if 0x20 ≤ r ∧ r < 0x30 then s.stopped .REI (unitOf ((r - 0x20) / 2) 0)
  else false

/-- A write to word n of a slot: the first write to an empty mailbox claims it; another master's write is discarded with COLLISION; the
SENDER and SEQ bits of word 0 ignore it (R415). A waiting message can no longer be written. -/
def State.slotWrite (s : State) (m mb n : Nat) (w : Word) : State :=
  let full := s.rb 0 (pst Reg.PST_STATUS_FULL mb)
  let claimed := s.rb 0 (pst Reg.PST_STATUS_CLAIMED mb)
  let mine := s.rf 0 (pst Reg.PST_STATUS_WRITER mb) == m
  if full ∨ (claimed ∧ !mine) then s.wf 0 (pst Reg.PST_STATUS_COLLISION mb) 1
  else
    let s1 := if claimed then s
      else (s.wf 0 (pst Reg.PST_STATUS_CLAIMED mb) 1).wf 0 (pst Reg.PST_STATUS_WRITER mb) m
    let w1 := if n = 0 then putBits (putBits w 7 0 (getBits (s.slotWord mb 0) 7 0)) 31 24 (getBits (s.slotWord mb 0) 31 24) else w
    s1.setSlot mb n w1

/-- Send a filled slot as a master: SENDER and SEQ are stamped, FULL sets, horn bit 0 rings, the Post's Rein event is raised, and
TIMEOUT sets at once for a receiver that sleeps (R415, R416). -/
def State.slotSend (s : State) (m mb : Nat) : State :=
  let seq := cgetD s.postSeq mb 0
  let w0 := putBits (putBits (s.slotWord mb 0) 7 0 m) 31 24 seq
  let s1 := s.setSlot mb 0 w0
  let s2 := { s1 with postSeq := cset s1.postSeq mb ((seq + 1) % 256) }
  let s3 := ((s2.wf 0 (pst Reg.PST_STATUS_FULL mb) 1).wf 0 (pst Reg.PST_STATUS_CLAIMED mb) 0).wf 0 (pst Reg.PST_STATUS_WRITER mb) m
  let s4 := (s3.ringHorn mb 1).reinRaise 0 0xF003 mb 1
  if s4.receiverAsleep mb then s4.wf 0 (pst Reg.PST_STATUS_TIMEOUT mb) 1 else s4

/-- Put a message of a core into a mailbox and send it. -/
def State.coreSend (s : State) (core mb : Nat) (words : List Word) : State :=
  ((List.range words.length).foldl (fun t n => t.setSlot mb n (words.getD n 0)) s).slotSend core mb

/-- Deliver the first waiting reply for an empty mailbox (R418). -/
def State.deliverReply (s : State) (mb : Nat) : State :=
  match s.replies.find? (fun r => r.mailbox == mb) with
  | none => s
  | some r => ({ s with replies := dropFirst (fun x => x.mailbox == mb) s.replies } : State).coreSend r.sender mb r.words

/-- Reply to a service request (R418): TYPE plus 0x80, the same tag, a status, then words. A reply mailbox that is not 0 to 13 or whose
receiver is not the requester gets none, and G-0018 is recorded; a full mailbox makes the reply wait. -/
def State.serviceReply (s : State) (core : Nat) (req0 req1 : Word) (status : Nat) (words : List Word) : State :=
  let rm := getBits req1 7 0
  let sender := getBits req0 7 0
  if 13 < rm ∨ s.rf 0 (pst Reg.PST_CFG_RECEIVER rm) ≠ sender then s.gcode 0x0018 0 sender
  else
    let w0 := putBits (putBits 0 15 8 (getBits req0 15 8 + 0x80)) 23 16 (4 * (words.length + 1))
    let w1 := putBits (putBits 0 15 8 (getBits req1 15 8)) 23 16 status
    let msg := w0 :: w1 :: words
    if s.rb 0 (pst Reg.PST_STATUS_FULL rm) ∨ s.rb 0 (pst Reg.PST_STATUS_CLAIMED rm) then
      { s with replies := s.replies ++ [⟨rm, core, msg⟩] }
    else s.coreSend core rm msg

/-- A message is taken by its receiver: the slot empties and the sender sees TAKEN (R416). -/
def State.slotTake (s : State) (mb : Nat) : State :=
  ((s.slotFree mb).wf 0 (pst Reg.PST_STATUS_TAKEN mb) 1).deliverReply mb

/-- Whether mailbox mb holds a request of a service TYPE, and the core that serves it runs (R416, R418). -/
def State.asks (s : State) (mb typ : Nat) : Bool :=
  s.rb 0 (pst Reg.PST_STATUS_FULL mb) && getBits (s.slotWord mb 0) 15 8 == typ && !s.receiverAsleep mb

/-- Serve the request in mailbox mb: its core takes it and replies. -/
def State.serve (s : State) (core mb : Nat) (status : Nat) (words : List Word) : State :=
  (s.slotTake mb).serviceReply core (s.slotWord mb 0) (s.slotWord mb 1) status words

/-- The service TYPEs that Daxpamen knows in mailboxes 14 and 15 (R418, R446). -/
def knownService (mb typ : Nat) : Bool :=
  if mb = 14 then typ == 1 || typ == 2 || typ == 3 || typ == 4
  else typ == 1 || typ == 2 || typ == 3

/-- SEND by the writer of a claimed slot (R415); a request of an unknown TYPE to mailbox 14 or 15 is answered with status 1 (R418). -/
def State.actSend (s : State) (m mb : Nat) : State :=
  if s.rb 0 (pst Reg.PST_STATUS_CLAIMED mb) ∧ s.rf 0 (pst Reg.PST_STATUS_WRITER mb) = m then
    let s1 := s.slotSend m mb
    if 14 ≤ mb ∧ !knownService mb (getBits (s.slotWord mb 0) 15 8) ∧ !s1.receiverAsleep mb then
      s1.serve (0x20 + (mb - 14)) mb 1 []
    else s1
  else s

/-- TAKE by the receiver or the Outrider (R416). -/
def State.actTake (s : State) (m mb : Nat) : State :=
  if s.rb 0 (pst Reg.PST_STATUS_FULL mb) ∧ (m = mOut ∨ s.rf 0 (pst Reg.PST_CFG_RECEIVER mb) = m) then s.slotTake mb else s

/-- ABORT by the writer withdraws a message not taken, or a claim (R416). -/
def State.actAbort (s : State) (m mb : Nat) : State :=
  if s.rf 0 (pst Reg.PST_STATUS_WRITER mb) = m ∧
      (s.rb 0 (pst Reg.PST_STATUS_FULL mb) ∨ s.rb 0 (pst Reg.PST_STATUS_CLAIMED mb)) then (s.slotFree mb).deliverReply mb
  else s

/-- A write to PST_HORN_CLR clears horn bits for the receiver and the Outrider; another master's is discarded (R417). -/
def State.actHornClear (s : State) (m mb : Nat) (w : Word) : State :=
  if m = mOut ∨ s.rf 0 (pst Reg.PST_CFG_RECEIVER mb) = m then
    s.setWord .PST 0 (0x0C + 0x100 * mb) (s.word .PST 0 (0x0C + 0x100 * mb) &&& ~~~w)
  else s

/-- POST_SLOT_WRITE: a write to word n of mailbox mb's slot (R415). -/
def execPostSlotWrite (m mb n : Nat) (w : Word) (s : State) : Host.Outcome State Fault Refusal :=
  .next (s.regDo m 0 ((pst Reg.PST_MSG_WORD (mb % 16)).sh (4 * (n % 16))) w (fun t => t.slotWrite m (mb % 16) (n % 16) w))

/-- POST_SEND: `PST_CTL.SEND` (R415). -/
def execPostSend (m mb : Nat) (w : Word) (s : State) : Host.Outcome State Fault Refusal :=
  .next (s.regAct m 0 (pst Reg.PST_CTL_SEND (mb % 16)) w (fun t => t.actSend m (mb % 16)))

/-- POST_TAKE: `PST_CTL.TAKE` (R416). -/
def execPostTake (m mb : Nat) (w : Word) (s : State) : Host.Outcome State Fault Refusal :=
  .next (s.regAct m 0 (pst Reg.PST_CTL_TAKE (mb % 16)) w (fun t => t.actTake m (mb % 16)))

/-- POST_ABORT: `PST_CTL.ABORT` (R416). -/
def execPostAbort (m mb : Nat) (w : Word) (s : State) : Host.Outcome State Fault Refusal :=
  .next (s.regAct m 0 (pst Reg.PST_CTL_ABORT (mb % 16)) w (fun t => t.actAbort m (mb % 16)))

/-- POST_CLAIM_LAPSE: the mailbox timeout passes on a claim without SEND, and the claim lapses (R415). -/
def execPostClaimLapse (mb : Nat) (s : State) : Host.Outcome State Fault Refusal :=
  .next (if s.rb 0 (pst Reg.PST_STATUS_CLAIMED (mb % 16)) then (s.slotFree (mb % 16)).deliverReply (mb % 16) else s)

/-- POST_TIMEOUT: the mailbox timeout passes on a message not taken: it stays in the slot and TIMEOUT sets; a reply that waited for the
mailbox is dropped (R416, R418). -/
def execPostTimeout (mb : Nat) (s : State) : Host.Outcome State Fault Refusal :=
  .next (if s.rb 0 (pst Reg.PST_STATUS_FULL (mb % 16)) then
    { s.wf 0 (pst Reg.PST_STATUS_TIMEOUT (mb % 16)) 1 with replies := s.replies.filter (fun r => r.mailbox != mb % 16) }
  else s)

/-- HORN_RING: a write to PST_HORN rings the bits written as 1 (R417). -/
def execHornRing (m mb : Nat) (w : Word) (s : State) : Host.Outcome State Fault Refusal :=
  .next (s.regDo m 0 (pst Reg.PST_HORN_HORN (mb % 16)) w (fun t => t.ringHorn (mb % 16) w))

/-- HORN_CLEAR: a write to PST_HORN_CLR (R417). -/
def execHornClear (m mb : Nat) (w : Word) (s : State) : Host.Outcome State Fault Refusal :=
  .next (s.regDo m 0 (pst Reg.PST_HORN_CLR_HORN (mb % 16)) w (fun t => t.actHornClear m (mb % 16) w))

/-- Words of a list of bytes, four to a word, least significant first. -/
def wordsOf (n : Nat) (l : List Byte) : List Word := (List.range n).map (fun k => BitVec.ofNat 32 (leAt l (4 * k) 4))

/-- The 32 bytes of a fault-log entry (R325). -/
def FaultEntry.bytes (e : FaultEntry) : List Byte :=
  toBytes 8 e.time ++ toBytes 4 e.code ++ toBytes 1 e.coach ++ toBytes 1 e.master ++ toBytes 2 e.count ++ toBytes 16 e.detail

/-- IDENTITY: service 1 of mailbox 14 (R418). -/
def execIdentity (s : State) : Host.Outcome State Fault Refusal :=
  .next (if s.asks 14 1 then
    s.serve 0x20 14 0 [BitVec.ofNat 32 s.hw.firmware, BitVec.ofNat 32 s.hw.serial, BitVec.ofNat 32 (s.hw.serial / 2 ^ 32),
      BitVec.ofNat 32 s.hw.coaches, s.word .HDR 0 0x20, s.word .HDR 0 0x24]
  else s)

/-- FAULT_READ: service 2 of mailbox 14: the entry at an index, 0 the newest, then the number held; an index beyond is a bad argument
(R418). -/
def execFaultRead (s : State) : Host.Outcome State Fault Refusal :=
  .next (if s.asks 14 2 then
    match s.store.faults[(s.slotWord 14 2).toNat]? with
    | some e => s.serve 0x20 14 0 (wordsOf 8 e.bytes ++ [BitVec.ofNat 32 s.store.faults.length])
    | none => s.serve 0x20 14 2 []
  else s)

/-- FAULT_CLEAR: service 3 of mailbox 14: clears the log for the Outrider, and is refused to others (R418). -/
def execFaultClear (s : State) : Host.Outcome State Fault Refusal :=
  .next (if s.asks 14 3 then
    if getBits (s.slotWord 14 0) 7 0 = mOut then
      ({ s with store := { s.store with faults := [] } } : State).serve 0x20 14 0 []
    else s.serve 0x20 14 3 []
  else s)

/-- TEMPS: service 4 of mailbox 14: the 16 readings of a coach, two a word; a coach the part lacks is a bad argument (R418, R438). -/
def execTemps (s : State) : Host.Outcome State Fault Refusal :=
  .next (if s.asks 14 4 then
    let c := (s.slotWord 14 2).toNat
    if c < s.hw.coaches then
      s.serve 0x20 14 0 ((List.range 8).map (fun k =>
        BitVec.ofNat 32 (cgetD s.pwr.temps (16 * c + 2 * k) 0 + 65536 * cgetD s.pwr.temps (16 * c + 2 * k + 1) 0)))
    else s.serve 0x20 14 2 []
  else s)

/-- LINCHPIN_ACQUIRE: a read of LCH_PINn (R419). -/
def execLinchpinAcquire (m n : Nat) (s : State) : Host.Outcome State Fault Refusal :=
  .next (match s.gate m .LCH 0 with
    | .refused => s.guardRefuses m (0x5100 + 8 * (n % 64))
    | .waits => s.hold m (0x5100 + 8 * (n % 64)) false 0
    | _ => let t := s.pinTry m (n % 64); t.hostReads m (t.pinWord m (n % 64)))

/-- LINCHPIN_RELEASE: a write of 1 to LCH_PINn.RELEASE (R419). -/
def execLinchpinRelease (m n : Nat) (w : Word) (s : State) : Host.Outcome State Fault Refusal :=
  .next (s.regAct m 0 (Reg.LCH_PIN_RELEASE.sh (8 * (n % 64))) w (fun t => t.pinRelease m (n % 64)))

/-- LCH_INFO.FORCE: the Outrider breaks a Linchpin; another master's write is discarded (R421). -/
def State.actForce (s : State) (m n : Nat) : State := if m = mOut then s.pinBreak n else s

/-- LINCHPIN_FORCE: `LCH_INFO.FORCE` (R421). -/
def execLinchpinForce (m n : Nat) (w : Word) (s : State) : Host.Outcome State Fault Refusal :=
  .next (s.regAct m 0 (Reg.LCH_INFO_FORCE.sh (8 * (n % 64))) w (fun t => t.actForce m (n % 64)))

/-- LINCHPIN_BREAK: an owner resets or faults, and each Linchpin it owns breaks (R421). -/
def execLinchpinBreak (owner : Nat) (s : State) : Host.Outcome State Fault Refusal :=
  .next (if owner = 0 then s else s.pinBreakOwner owner)

/-- LINCHPIN_LEASE_EXPIRE: no Outrider frame for LCH_LEASE.MS: the Outrider's Linchpins break; a lease of 0 is off (R421). -/
def execLinchpinLeaseExpire (s : State) : Host.Outcome State Fault Refusal :=
  let ms := s.rf 0 Reg.LCH_LEASE_MS
  .next (if ms = 0 ∨ s.now < s.out.lastFrame + ms * 1000000 then s else s.pinBreakOwner mOut)

end Sys2Proof.Machine
end

