-- ==== Sys2Proof/Machine/WwtCore.lean ====
section
/-! DEFINITION. The Wheelwright's instances, triggers and outcomes (R440 to R446). Classes: 0 LANE, 1 DRAM, 2 SEAM, 3 GAIN, 4 TSEN. -/

namespace Sys2Proof.Machine

/-- The key of an instance: LANE, DRAM and TSEN by coach, GAIN by carriage, SEAM one for the package (R440). -/
def wwtKey (cls coach car : Nat) : Nat := if cls = 2 then 2 * 65536 else if cls = 3 then 3 * 65536 + car else cls * 65536 + coach

/-- An instance that has never run. -/
def wwtFresh : WwtInst := ⟨none, 0, false, false, 0, false, 0, 0, 0, 0⟩

/-- An instance. -/
def State.wwtAt (s : State) (cls coach car : Nat) : WwtInst := cgetD s.wwt (wwtKey cls coach car) wwtFresh

/-- Change an instance. -/
def State.wwtMod (s : State) (cls coach car : Nat) (f : WwtInst → WwtInst) : State :=
  { s with wwt := cmod s.wwt (wwtKey cls coach car) wwtFresh f }

/-- The WWT window that shows a class: C0's for SEAM, the coach's otherwise. -/
def wwtWin (cls coach : Nat) : Nat := unitOf (if cls = 2 then 0 else coach) 0

/-- Whether the part runs (R423): STATE 0 and start-up at its last stage. -/
def State.running (s : State) : Bool :=
  !s.pwr.off && s.rf 0 Reg.PWR_STATE_STATE == 0 && s.rf 0 Reg.GLB_BOOT_STAGE_STAGE == 12

/-- Whether the part is the standby of a pair (R444): PAI_STATUS.STATE 3. -/
def State.isStandby (s : State) : Bool := s.rf 0 Reg.PAI_STATUS_STATE == 3

/-- Whether an instance exists (R440): the coach, or the carriage with TRU_REF.AUTO. -/
def State.wwtExists (s : State) (cls coach car : Nat) : Bool :=
  if cls = 3 then s.hasEng .TRU car && s.rb (s.eng .TRU car) Reg.TRU_REF_AUTO
  else decide (cls < 5) && decide (coach < s.hw.coaches)

/-! ### Temperatures (R438 to R440) -/

/-- The latest reading of a sensor, signed, in 0.125 °C. -/
def State.tempOf (s : State) (c k : Nat) : Int := sgn 16 (cgetD s.pwr.temps (16 * c + k) 0)

/-- Whether TSEN has left a sensor valid (R441). -/
def State.sensorValid (s : State) (c k : Nat) : Bool := !(s.rf (unitOf c 0) Reg.WWT_TSEN_BAD).testBit k

/-- The mean of readings, rounded by R7; 0 for none. -/
def meanTemp (l : List Int) : Int := rne (l.foldl (· + ·) 0) l.length

/-- The mean of the valid sensors among a group of a coach, or the coach's mean where the group has none (R440). -/
def State.groupTemp (s : State) (c : Nat) (ks : List Nat) : Int :=
  let v := ks.filter (s.sensorValid c)
  if v.isEmpty then meanTemp (((List.range 16).filter (s.sensorValid c)).map (s.tempOf c))
  else meanTemp (v.map (s.tempOf c))

/-- The class temperature of an instance (R440). -/
def State.classTemp (s : State) (cls coach car : Nat) : Int :=
  match cls with
  | 0 => s.groupTemp coach [0, 1, 2, 3]
  | 1 => s.groupTemp coach [4, 5]
  | 2 =>
    let cs := (List.range s.hw.coaches).filter (fun c => (List.range 6).any (fun k => s.live (6 * c + k)))
    match cs.map (fun c => s.groupTemp c (rangeFrom 6 6)) with
    | [] => s.groupTemp 0 (rangeFrom 6 6)
    | t :: ts => ts.foldl (fun a b => if a < b then b else a) t
  | 3 => s.groupTemp (car / 6) [6 + car % 6]
  | _ => s.groupTemp coach (List.range 16)

/-- The temperature threshold of a class, 0 for off (R442). -/
def State.wwtThresh (s : State) (cls coach : Nat) : Nat :=
  match cls with
  | 0 => s.rf (unitOf coach 0) Reg.WWT_THRESH_LANE
  | 1 => s.rf (unitOf coach 0) Reg.WWT_THRESH_DRAM
  | 2 => s.rf 0 Reg.WWT_THRESH_SEAM
  | 3 => s.rf (unitOf coach 0) Reg.WWT_THRESH_GAIN
  | _ => s.rf (unitOf coach 0) Reg.WWT_THRESH_TSEN_TSEN

/-- The period of a class's timer, ns; an unsettled instance's is at most 60 s (R442, R443). -/
def State.wwtPeriod (s : State) (cls coach car : Nat) : Nat :=
  let p := (s.word .WWT (wwtWin cls coach) (0x1C + 4 * cls)).toNat
  let q := if (s.wwtAt cls coach car).unsettled ∧ 60 < p then 60 else p
  q * 1000000000

/-! ### Runs -/

/-- Whether due runs may start: Run, no load in PHASE 1 to 5, and no SEAM or GAIN run on a standby (R442, R444). -/
def State.wwtMayRun (s : State) (cls : Nat) : Bool :=
  s.running && !(decide (1 ≤ s.rf 0 Reg.HDR_STATUS_PHASE) && decide (s.rf 0 Reg.HDR_STATUS_PHASE ≤ 5)) &&
  !(s.isStandby && (cls == 2 || cls == 3))

/-- Show whether a run of the class is in progress. -/
def State.showRunning (s : State) (cls coach : Nat) (on : Bool) : State :=
  let r := s.rf (wwtWin cls coach) Reg.WWT_STATUS_RUNNING
  s.wf (wwtWin cls coach) Reg.WWT_STATUS_RUNNING (if on then r ||| 2 ^ cls else if r.testBit cls then r - 2 ^ cls else r)

/-- A run takes only what begins after its start: no seam window that is open or was published before it (R212), no strip measurement that has
begun or ended before it (R185). -/
def State.runFresh (s : State) (cls car : Nat) : State :=
  if cls = 2 then
    { s with seam := s.seam.map (fun e => (e.1, ({ e.2 with results := [], window := { e.2.window with inRun := false } } : Seam))) }
  else if cls = 3 then
    { s with tru := s.tru.map (fun e => if e.1 = car then (e.1, ({ e.2 with ref := none, results := [] } : Tru)) else e) }
  else s

/-- Start a due run that may start (R442). -/
def State.wwtStart (s : State) (cls coach car : Nat) : State :=
  let w := s.wwtAt cls coach car
  if w.due ∧ !w.running ∧ s.wwtMayRun cls then
    ((s.runFresh cls car).wwtMod cls coach car (fun x => { x with running := true, due := false, started := s.now })).showRunning cls coach true
  else s

/-- A cause makes a run due; it starts unless one of the instance is in progress, whose end it then waits for (R442). -/
def State.wwtRequest (s : State) (cls coach car cause : Nat) : State :=
  if s.wwtExists cls coach car then
    (s.wwtMod cls coach car (fun x => { x with due := true, cause := if x.due then x.cause else cause })).wwtStart cls coach car
  else s

/-- Store a Wheelwright record; a full ring drops its oldest (R445): the calibration store is 512 KiB for each coach. -/
def State.wwtStore (s : State) (r : WwtRecord) : State :=
  { s with store := { s.store with calib := (r :: s.store.calib).take (s.hw.coaches * 16384) } }

/-- Show an outcome in WWT_LAST and write its record. -/
def State.wwtLog (s : State) (cls coach car outcome q1 q2 detail : Nat) : State :=
  let w := s.wwtAt cls coach car
  let win := wwtWin cls coach
  let s1 := (((s.wf win Reg.WWT_LAST_CLASS cls).wf win Reg.WWT_LAST_OUTCOME outcome).wf win Reg.WWT_LAST_INSTANCE
    (if cls = 3 then car else 0)).wf win Reg.WWT_LAST_QUALITY (satN 65535 q2)
  s1.wwtStore ⟨s.now, cls, if cls = 2 then 0xFF else coach, if cls = 3 then car else 0, outcome,
    unsgn 16 (s.classTemp cls coach car), w.cause, w.rejects, q1, q2, detail⟩

/-- Show reject counts and unsettled bits in the coach's window (R443). -/
def State.wwtShow (s : State) (cls coach car : Nat) : State :=
  let w := s.wwtAt cls coach car
  let win := wwtWin cls coach
  let rj := s.rf win Reg.WWT_STATUS_REJECTS
  let s1 := s.wf win Reg.WWT_STATUS_REJECTS (rj - (rj / 4 ^ cls % 4) * 4 ^ cls + (satN 3 w.rejects) * 4 ^ cls)
  let s2 := if cls = 3 then
      s1.wf win Reg.WWT_GAIN_UNSETTLED_CARRIAGE
        (maskOf ((List.range 6).map (fun k => (s.wwtAt 3 coach (6 * coach + k)).unsettled)))
    else s1
  let un := if cls = 3 then s2.rf win Reg.WWT_GAIN_UNSETTLED_CARRIAGE != 0 else w.unsettled
  let old := s2.rf win Reg.WWT_STATUS_UNSETTLED
  s2.wf win Reg.WWT_STATUS_UNSETTLED (if un then old ||| 2 ^ cls else if old.testBit cls then old - 2 ^ cls else old)

/-- An event bit of the Wheelwright, which also raises the power vector through PWR_EVENT.WWT. -/
def State.wwtEv (s : State) (cls coach : Nat) (f : Fld) : State := s.ev (wwtWin cls coach) f

/-- The run in progress ends, and a cause that came while it ran starts the next (R442). -/
def State.wwtEnd (s : State) (cls coach car : Nat) : State :=
  ((s.wwtMod cls coach car (fun x => { x with running := false, lastRun := s.now })).showRunning cls coach false).wwtStart cls coach car

/-- An accepted run: the baseline moves, the reject count returns to 0, an unsettled instance settles (R443). -/
def State.wwtAccept (s : State) (cls coach car q1 q2 detail : Nat) : State :=
  let was := (s.wwtAt cls coach car).unsettled
  let t := unsgn 16 (s.classTemp cls coach car)
  let s1 := s.wwtMod cls coach car (fun x => { x with baseline := some t, rejects := 0, unsettled := false, quality := q2, lastOk := s.now })
  let s2 := (s1.wwtShow cls coach car).wwtLog cls coach car 0 q1 q2 detail
  let s3 := s2.wwtEv cls coach Reg.WWT_EVENT_ACCEPTED
  let s4 := if was then s3.wwtEv cls coach Reg.WWT_EVENT_SETTLED else s3
  s4.wwtEnd cls coach car

/-- A rejected run: previous values stay, the class's W-code is logged, the third rejection in a row makes the instance unsettled with
W-0020 (R443, R447). -/
def State.wwtReject (s : State) (cls coach car q1 q2 detail : Nat) : State :=
  let w := s.wwtAt cls coach car
  let n := w.rejects + 1
  let s1 := s.wwtMod cls coach car (fun x => { x with rejects := n, unsettled := x.unsettled || decide (3 ≤ n), quality := q2 })
  let s2 := (s1.wwtShow cls coach car).wwtLog cls coach car 1 q1 q2 detail
  let s3 := (s2.wcode coach (cls + 1) detail).wwtEv cls coach Reg.WWT_EVENT_REJECTED
  let s4 := if n = 3 then (s3.wcode coach 0x0020 detail).wwtEv cls coach Reg.WWT_EVENT_UNSETTLED else s3
  s4.wwtEnd cls coach car

/-- An accepted result that could not be applied: W-0010; values, baseline and reject count stay (R443). -/
def State.wwtNotApplied (s : State) (cls coach car q1 q2 detail : Nat) : State :=
  let s1 := s.wwtLog cls coach car 2 q1 q2 detail
  ((s1.wcode coach 0x0010 detail).wwtEv cls coach Reg.WWT_EVENT_NOT_APPLIED).wwtEnd cls coach car

/-- Abandon one run in progress with W-0030; it is due again (R442). -/
def State.wwtAbandonOne (s : State) (cls coach car : Nat) : State :=
  if (s.wwtAt cls coach car).running then
    let s1 := (s.wwtLog cls coach car 3 0 0 0).wcode coach 0x0030 0
    (s1.wwtMod cls coach car (fun x => { x with running := false, due := true })).showRunning cls coach false
  else s

/-- Every instance that the part can have, in the order TSEN, DRAM, LANE, SEAM, GAIN (R442): class, coach, carriage. -/
def State.wwtAll (s : State) : List (Nat × Nat × Nat) :=
  (List.range s.hw.coaches).map (fun c => (4, c, 0)) ++ (List.range s.hw.coaches).map (fun c => (1, c, 0)) ++
  (List.range s.hw.coaches).map (fun c => (0, c, 0)) ++ [(2, 0, 0)] ++
  (List.range s.carriageCount).map (fun g => (3, g / 6, g))

/-- Accepted results that are not in force are given up. -/
def State.wwtForget (s : State) : State :=
  { s.gain.foldl (fun (t : State) x => t.wf (t.eng .TRU x.1) Reg.TRU_TBL_STATUS_WWT_HOLD 0) s with gain := [], seamFix := none }

/-- Abandon every run in progress: a sleep request or a load (R442). -/
def State.wwtAbandon (s : State) : State := (s.wwtAll.foldl (fun t x => t.wwtAbandonOne x.1 x.2.1 x.2.2) s).wwtForget

/-- A seam unit whose window restarts at its next pair. -/
def seamAgain (e : Nat × Seam) : Nat × Seam := (e.1, { e.2 with under := none })

/-- What becomes of the Wheelwright's commit of a scope: applied, its result is accepted, and every seam
window restarts at its next pair (R214); ended, the result could not be applied (R443). -/
def State.wwtCommitted (s : State) (carriage : Option Nat) (ok : Bool) : State :=
  match carriage with
  | none =>
    match s.seamFix with
    | some x =>
      let s1 := { s with seamFix := none, seam := if ok then s.seam.map seamAgain else s.seam }
      if ok then s1.wwtAccept 2 0 0 x.q1 x.q2 x.detail else s1.wwtNotApplied 2 0 0 x.q1 x.q2 x.detail
    | none => s
  | some g =>
    match cget s.gain g with
    | some j =>
      let s1 := { s with gain := cdel s.gain g }
      if j.mirrored then s1
      else if ok then s1.wwtAccept 3 (g / 6) g j.q1 j.q2 (j.ks.getD 0 0) else s1.wwtNotApplied 3 (g / 6) g j.q1 j.q2 (j.ks.getD 0 0)
    | none => s

/-- Start every due run that may start, in the order of R442. -/
def State.wwtResume (s : State) : State := s.wwtAll.foldl (fun t x => t.wwtStart x.1 x.2.1 x.2.2) s

/-- The temperature trigger of an instance (R442). -/
def State.wwtTempCheck (s : State) (cls coach car : Nat) : State :=
  let w := s.wwtAt cls coach car
  match w.baseline with
  | none => s
  | some b =>
    let d := (s.classTemp cls coach car - sgn 16 b).natAbs
    if s.wwtThresh cls coach ≠ 0 ∧ s.wwtThresh cls coach < d ∧ !w.due ∧ !w.running then s.wwtRequest cls coach car 0 else s

/-! ### Commands -/

/-- WWT_TIMER: a class period expires on an instance, and a run becomes due (R442); a period of 0 is off. -/
def execWwtTimer (cls coach car : Nat) (s : State) : Host.Outcome State Fault Refusal :=
  let p := s.wwtPeriod cls coach car
  .next (if p ≠ 0 ∧ (s.wwtAt cls coach car).lastRun + p ≤ s.now then s.wwtRequest cls coach car 1 else s)

/-- The instances of a class that a write to coach c's WWT_CTL selects: GAIN by the CARRIAGE field, SEAM through C0's window. -/
def State.wwtSelected (s : State) (c cls : Nat) : Option (Nat × Nat) :=
  if cls = 2 then (if c = 0 then some (0, 0) else none)
  else if cls = 3 then some (s.rf (unitOf c 0) Reg.WWT_CTL_CARRIAGE / 6, s.rf (unitOf c 0) Reg.WWT_CTL_CARRIAGE)
  else some (c, 0)

/-- A write to WWT_CTL: RUN bits request runs; with CLEAR_UNSETTLED they select classes whose reject counts restart (R442, R443). -/
def State.actWwtCtl (s : State) (c : Nat) (w : Word) : State :=
  (List.range 5).foldl (fun t cls =>
    if (getBits w 4 0).testBit cls then
      match t.wwtSelected c cls with
      | some (cc, car) =>
        if w.toNat.testBit 5 then (t.wwtMod cls cc car (fun x => { x with rejects := 0 })).wwtShow cls cc car
        else t.wwtRequest cls cc car 2
      | none => t
    else t) s

/-- WWT_RUN: `WWT_CTL.RUN` (R442). -/
def execWwtRun (m c : Nat) (w : Word) (s : State) : Host.Outcome State Fault Refusal :=
  let w1 := w &&& ~~~(32 : Word)
  .next (s.regDo m (unitOf c 0) Reg.WWT_CTL_RUN w1 (fun t =>
    (t.wf (unitOf c 0) Reg.WWT_CTL_CARRIAGE (getBits w1 15 8)).actWwtCtl c w1))

/-- CLEAR_UNSETTLED: `WWT_CTL.CLEAR_UNSETTLED` (R443). -/
def execClearUnsettled (m c : Nat) (w : Word) (s : State) : Host.Outcome State Fault Refusal :=
  let w1 := w ||| (32 : Word)
  .next (s.regDo m (unitOf c 0) Reg.WWT_CTL_CLEAR_UNSETTLED w1 (fun t =>
    (t.wf (unitOf c 0) Reg.WWT_CTL_CARRIAGE (getBits w1 15 8)).actWwtCtl c w1))

/-- The arguments of a mailbox 15 request: class, coach, carriage in words 2 to 4 (R446). -/
def State.wwtArgs (s : State) : Nat × Nat × Nat := ((s.slotWord 15 2).toNat, (s.slotWord 15 3).toNat, (s.slotWord 15 4).toNat)

/-- WWT_SERVICE_RUN: service 1 of mailbox 15; refused outside Run or for an instance that does not exist (R446). -/
def execWwtServiceRun (s : State) : Host.Outcome State Fault Refusal :=
  let a := s.wwtArgs
  .next (if s.asks 15 1 then
    if s.running ∧ s.wwtExists a.1 a.2.1 a.2.2 then
      (s.wwtRequest a.1 (if a.1 = 3 then a.2.2 / 6 else a.2.1) a.2.2 2).serve 0x21 15 0 []
    else s.serve 0x21 15 3 []
  else s)

/-- WWT_SERVICE_STATE: service 2 of mailbox 15 (R446). -/
def execWwtServiceState (s : State) : Host.Outcome State Fault Refusal :=
  let a := s.wwtArgs
  .next (if s.asks 15 2 then
    if s.wwtExists a.1 a.2.1 a.2.2 then
      let w := s.wwtAt a.1 a.2.1 a.2.2
      s.serve 0x21 15 0 [BitVec.ofNat 32 (w.baseline.getD 0), BitVec.ofNat 32 w.quality, BitVec.ofNat 32 w.rejects,
        BitVec.ofNat 32 (b2n w.unsettled), BitVec.ofNat 32 ((s.now - w.lastOk) / 1000000000)]
    else s.serve 0x21 15 2 []
  else s)

/-- The 32 bytes of a Wheelwright record (R445). -/
def WwtRecord.bytes (r : WwtRecord) : List Byte :=
  toBytes 8 r.time ++ toBytes 1 r.cls ++ toBytes 1 r.coach ++ toBytes 1 r.inst ++ toBytes 1 r.outcome ++ toBytes 2 r.temp ++
  toBytes 1 r.cause ++ toBytes 1 r.rejects ++ toBytes 4 r.quality1 ++ toBytes 4 r.quality2 ++ toBytes 8 r.detail

/-- RECORD_READ: service 3 of mailbox 15 (R446). -/
def execRecordRead (s : State) : Host.Outcome State Fault Refusal :=
  .next (if s.asks 15 3 then
    match s.store.calib[(s.slotWord 15 2).toNat]? with
    | some r => s.serve 0x21 15 0 (wordsOf 8 r.bytes ++ [BitVec.ofNat 32 s.store.calib.length])
    | none => s.serve 0x21 15 2 []
  else s)

/-- The median of 16 values: the mean of the middle two, rounded by R7 (log 12). -/
def median16 (l : List Int) : Int :=
  let srt := sortBy (fun (x : Int) => (x + 4294967296).toNat) l
  rne (srt.getD 7 0 + srt.getD 8 0) 2

/-- The deviation of each sensor from the median of the corrected means (R441). -/
def tsenDevs (l : List Int) : List Int := l.map (fun x => x - median16 l)

/-- TSEN_RUN_COMPLETE: two measurements of the 16 corrected means of a coach end (R441); the operands are the mean readings of each, in
0.125 °C, from which the factory offsets of the calibration store are taken. They agree when no deviation differs by more than 0.5 °C. -/
def execTsenRunComplete (c : Nat) (first second : List Int) (s : State) : Host.Outcome State Fault Refusal :=
  .next (if !(s.wwtAt 4 c 0).running ∨ first.length ≠ 16 ∨ second.length ≠ 16 then s
  else
    let fix := fun (l : List Int) => (List.range 16).map (fun k => l.getD k 0 - sgn 16 (cgetD s.store.offsets (16 * c + k) 0))
    let d1 := tsenDevs (fix first)
    let d2 := tsenDevs (fix second)
    let big := fun (l : List Int) => l.foldl (fun a x => Nat.max a x.natAbs) 0
    if (List.zip d1 d2).all (fun p => decide ((p.1 - p.2).natAbs ≤ 4)) then
      let bad := maskOf (d2.map (fun x => decide (24 < x.natAbs)))
      let was := s.rf (unitOf c 0) Reg.WWT_TSEN_BAD
      let s1 := s.wf (unitOf c 0) Reg.WWT_TSEN_BAD bad
      let good := d2.filter (fun x => decide (x.natAbs ≤ 24))
      let s2 := s1.wf (unitOf c 0) Reg.WWT_TSEN_DEV (satN 65535 (big good))
      let s3 := (List.range 16).foldl (fun t k =>
        if bad.testBit k ∧ !was.testBit k then (t.wcode c 0x0021 k).wwtEv 4 c Reg.WWT_EVENT_SENSOR_BAD else t) s2
      s3.wwtAccept 4 c 0 (big d1) (big d2) bad
    else s.wwtReject 4 c 0 (big d1) (big d2) (s.rf (unitOf c 0) Reg.WWT_TSEN_BAD))

end Sys2Proof.Machine
end

