-- ==== Sys2Proof/Machine/Apply.lean ====
section
/-! DEFINITION. How the values of a commit come into force (R406 to R409): each engine takes its armed values at its own line, blocks
outside carriages at the release. -/

namespace Sys2Proof.Machine

/-! ### Values -/

/-- Put the staged fields of registers in force. -/
def State.takeValues (s : State) (l : List (Nat × Word)) : State :=
  l.foldl (fun t e =>
    let b := keyBlk e.1
    let o := keyOff e.1
    match findDef b o with
    | none => t
    | some d =>
      let rws := d.maskAcc .RWS
      t.setWord b (keyInst e.1) o ((t.word b (keyInst e.1) o &&& ~~~rws) ||| (e.2 &&& rws))) s

/-- The staged values of registers that apply are done with, but for those staged again since (R406 step 4). -/
def State.unstage (s : State) (ks : List Nat) : State :=
  { s with staged := s.staged.filter (fun e => !ks.contains e.1 || (cget s.stager e.1).isSome) }

/-- An engine of carriage g takes those of its armed values whose commits are due at its present line: those of the package commit
first, then those of the carriage's (R410). -/
def State.armedTake (s : State) (g : Nat) (due : Armed → Bool) (mine : Nat → Bool) : State :=
  let hit := fun (a : Armed) => a.carriage == g && due a
  let vals := (s.yoke.armed.filter hit).flatMap (fun a => a.values.filter (fun e => mine e.1))
  if vals = [] then s
  else
    let rest := s.yoke.armed.map (fun (a : Armed) =>
      if hit a then ({ a with values := a.values.filter (fun e => !mine e.1) } : Armed) else a)
    ({ s.takeValues vals with yoke := { s.yoke with armed := rest.filter (fun a => a.values != []) } } : State).unstage (vals.map (fun e => e.1))

/-- Whether the apply position of a commit is at or before a tag MD. -/
def Armed.at_ (a : Armed) (md : Int) : Bool :=
  match a.pos with
  | some p => decide (p ≤ md)
  | none => false

/-- Whether a register key is of carriage g's engine of a block. -/
def State.ofEng (s : State) (g : Nat) (b : Blk) (k : Nat) : Bool := keyBlk k == b && keyInst k == s.eng b g

/-- An engine of carriage g reaches a line with a tag MD: it takes what is due there (R408). -/
def State.armedAt (s : State) (g : Nat) (b : Blk) (md : Int) : State := s.armedTake g (fun a => a.at_ md) (s.ofEng g b)

/-! ### Other parts (R412, R470) -/

/-- This part is a pair's primary with a partner (R412). -/
def State.inPair (s : State) : Bool := s.role == 2

/-- This part leads a ring that has other live members (R470). -/
def State.ringLead (s : State) : Bool :=
  s.rb 0 Reg.RNG_STATUS_LIVE && s.rf 0 Reg.RNG_STATUS_LEADER == s.rf 0 Reg.RNG_CFG_POSITION && decide (1 < s.rf 0 Reg.RNG_CFG_SIZE) &&
  (s.ring.west.isSome || s.ring.east.isSome)

/-- Whether a commit is checked and applied on other parts too: every commit of a pair, package commits of a ring's leader. -/
def State.yokeShared (s : State) (carriage : Option Nat) : Bool := s.inPair || (carriage.isNone && s.ringLead)

/-- The members of the ring whose hellos this part hears: one each way, or one in all when both are the same. -/
def State.ringNear (s : State) : Nat :=
  match s.ring.west, s.ring.east with
  | some a, some b => if a.pos = b.pos then 1 else 2
  | none, none => 0
  | _, _ => 1

/-- A message of a shared commit goes to the partner and, for package scope, round the ring. -/
def State.yokeTell (s : State) (carriage : Option Nat) (typ : Nat) (body : List Nat) : State :=
  let s1 := if s.inPair then s.emit .mirror typ body else s
  if carriage.isNone && s.ringLead then s1.emit .ring typ body else s1

/-! ### Release -/

/-- The position at which all parts apply (R412): the web position plus the travel over LEAD_US, on the next grid line. -/
def State.pairPos (s : State) : Nat :=
  let web := s.webNm.toNat
  let p := s.gridMd
  if s.rb 0 (wp Reg.WAY_STATUS_SPEED_VALID s.webPort) then
    let x := web + (rne (s.speedQ s.webPort * 1000 * s.rf 0 Reg.YOK_PAIR_LEAD_US) 4294967296).toNat
    let q := alignUp x p
    if q ≤ web then (web / p + 1) * p else q
  else (web / p + 1) * p

/-- The carriage whose lines a register's values wait for, 0xFF for a register that belongs to none (R408, R409). A stream slot of a PMT goes by
its carriage (R280). -/
def State.keyCar (s : State) (k : Nat) : Nat :=
  match keyBlk k with
  | .ING | .STA | .TRU | .RGA | .SPR | .SEG | .LBL => s.carriageAt (keyBlk k) (keyInst k)
  | .PMT =>
    let o := keyOff k
    if 0x100 ≤ o ∧ o < 0x200 then s.rf (keyInst k) (Reg.PMT_ARC_CFG_CARRIAGE.sh ((o - 0x100) / 0x40 * 0x40)) else 0xFF
  | _ => 0xFF

/-- The registers of a commit that belong to no carriage (R409). -/
def State.outside (s : State) (k : Nat) : Bool := s.keyCar k == 0xFF

/-- A default apply also restores the other fields of Y-domain registers (R411): those of code RW, the YH ones never change. -/
def State.restoreRw (s : State) (ks : List Nat) : State :=
  ks.foldl (fun t k =>
    match findDef (keyBlk k) (keyOff k) with
    | none => t
    | some d =>
      let m := if d.dom = .Y then d.maskAcc .RW else 0
      if m = 0 then t
      else
        let w := t.word (keyBlk k) (keyInst k) (keyOff k)
        t.setWord (keyBlk k) (keyInst k) (keyOff k) ((w &&& ~~~m) ||| (resetWord (keyBlk k) (keyOff k) &&& m))) s

/-- A change of DBM_CONT.LINES holds from the first multiple of the new L at or beyond the grid line of the instant (R268). -/
def State.contApply (s old : State) (pos : Nat) : State :=
  let l := s.rf 0 Reg.DBM_CONT_LINES
  let l0 := old.rf 0 Reg.DBM_CONT_LINES
  if l = l0 then s
  else
    let line := ceilDiv pos s.gridMd
    { s with dbm := { s.dbm with contOld := if line < s.dbm.contFrom then s.dbm.contOld else l0, contFrom := alignUp line (Nat.max 1 l) } }

/-- What the blocks outside carriages do with the values that a release gave them. -/
def State.blocksApply (s old : State) (ks : List Nat) (pos : Nat) : State :=
  let s1 := if ks.any (fun k => keyBlk k == .WAY) then s.wayApply old ks else s
  let units := ((ks.filter (fun k => keyBlk k == .WHT)).map keyInst).eraseDups
  let s2 := units.foldl (fun (t : State) i => t.whtApply i) s1
  if ks.any (fun k => keyBlk k == .DBM) then s2.contApply old pos else s2

/-- The masters that have a YOK bank (R388): the host, the Outrider, the Coachman cores, Daxpamen for the Wheelwright. -/
def State.yokBanks (s : State) : List Nat := [mHost, mOut] ++ rangeFrom 0x20 (2 * s.hw.coaches) ++ [mWwt]

/-- APPLIED sets in every master's bank. -/
def State.showApplied (s : State) : State :=
  State.edges s [2] (s.yokBanks.foldl (fun (t : State) m => t.wf m Reg.YOK_STATUS_APPLIED 1) s)

/-- STATE of a master's bank, when a commit is its latest. -/
def State.yokeState (s : State) (m seq n : Nat) : State :=
  if cget s.yoke.latest m = some seq then s.wf m Reg.YOK_STATUS_STATE n else s

/-- Release a commit (R406 step 4): registers outside carriages apply, each carriage's wait for their lines, stager marks clear, and the count,
DONE, APPLIED and the Rein event follow. -/
def State.release (s : State) (seq : Nat) : State :=
  match s.yoke.commits.find? (fun c => c.seq == seq && c.pending) with
  | none => s
  | some c =>
    let keys := c.values.map (fun e => e.1)
    let outs := c.values.filter (fun e => s.outside e.1)
    let ks := outs.map (fun e => e.1)
    let s1 := s.takeValues outs
    let s2 := if c.defaults then s1.restoreRw keys else s1
    let s3 := ({ s2 with
      stager := s2.stager.filter (fun e => !keys.contains e.1)
      yoke := { s2.yoke with
        commits := s2.yoke.commits.filter (fun x => x.seq != seq)
        armed := s2.yoke.armed.map (fun (a : Armed) => if a.seq = seq then ({ a with released := true } : Armed) else a) } } : State).unstage ks
    let s4 := s3.blocksApply s ks (if c.kind = 0 then c.instant else s.webNm.toNat)
    let s5 := if c.carriage = none then s4.wf64 0 Reg.YOK_APPLY_POS_LO_NM s.webNm.toNat else s4
    let s5 := if c.master = mWwt then s5.wwtCommitted c.carriage true else s5
    let s6 := (s5.incWrap 0 Reg.YOK_COUNT_APPLIED).yokeState c.master seq 3
    ((s6.evIf (c.master != 0) c.master Reg.YOK_STATUS_DONE).showApplied).reinRaise 0 0xF015 0 1

/-- What releases a commit: where other parts apply it too, the release of another kind than 0 only fixes the position at which all apply
(R412). -/
def State.releaseOn (s : State) (seq : Nat) : State :=
  match s.yoke.commits.find? (fun c => c.seq == seq && c.pending) with
  | none => s
  | some c =>
    if s.yokeShared c.carriage ∧ c.kind ≠ 0 then
      let p := s.pairPos
      let s1 := { s with yoke := { s.yoke with
        commits := s.yoke.commits.map (fun (x : Commit) => if x.seq = seq then ({ x with kind := 0, instant := p } : Commit) else x)
        armed := s.yoke.armed.map (fun (a : Armed) => if a.seq = seq then ({ a with kind := 0, pos := some (p : Int) } : Armed) else a) } }
      s1.yokeTell c.carriage 0x46 [seq, p]
    else s.release seq

end Sys2Proof.Machine
end

