-- ==== Sys2Proof/Machine/FifthWheel.lean ====
section
/-! DEFINITION. The Fifth wheel: its links, ports and routes (R21, R22), and the load that the harness puts on a link (R23, H-0303). -/

namespace Sys2Proof.Machine

/-- The column of a coach of a GLK-8 in its row (R21). -/
def gridCol (c : Nat) : Nat := if c < 4 then c else 7 - c

/-- The coach of a GLK-8 at a row and column. -/
def gridAt (row col : Nat) : Nat := if row = 0 then col % 4 else 7 - col % 4

/-- The next coach on the way from one coach to another (R22): along the row first, the shorter way round with ties going east; round the ring
with ties going to the next coach. -/
def nextHop (coaches a b : Nat) : Nat :=
  if coaches = 2 then 1 - a
  else if coaches = 4 then (if (b + 4 - a) % 4 ≤ 2 then (a + 1) % 4 else (a + 3) % 4)
  else if gridCol a = gridCol b then b
  else if (gridCol b + 4 - gridCol a) % 4 ≤ 2 then gridAt (a / 4) (gridCol a + 1) else gridAt (a / 4) (gridCol a + 3)

/-- The links of a route, each as the coaches it joins; at most three (R22). -/
def routeLinks (coaches : Nat) : Nat → Nat → Nat → List (Nat × Nat)
  | 0, _, _ => []
  | n + 1, a, b => if a = b then [] else (a, nextHop coaches a b) :: routeLinks coaches n (nextHop coaches a b) b

/-- The route from coach a to coach b. -/
def fabricRoute (coaches a b : Nat) : List (Nat × Nat) := routeLinks coaches 3 a b

/-- The ports of coach a that reach its neighbour b (R21). -/
def linkPorts (coaches a b : Nat) : List Nat :=
  if coaches = 2 then [0, 1, 2, 3]
  else if coaches = 4 then (if b = (a + 1) % 4 then [0, 1] else [2, 3])
  else if gridCol a = gridCol b then [2, 3]
  else if b = gridAt (a / 4) (gridCol a + 1) then [0] else [1]

/-- The full width of the link from coach a to coach b, bytes/s in one direction (R21). -/
def linkWidth (coaches a b : Nat) : Nat := 256000000000 * (linkPorts coaches a b).length

/-- Traffic between two coaches in bytes/s, scaled by 16 × 720,720 as the budget of a channel is, with the carriages that it serves. -/
structure Flow where
  a : Nat
  b : Nat
  load : Nat
  cars : List Nat
  deriving DecidableEq, Repr

/-- The windows of a type, in directory order. -/
def State.windows (v : State) (b : Blk) : List Nat := (v.dir.filter (fun e => e.typ == b.typeCode)).map (fun e => unitOf e.coach e.inst)

/-- The low carriages of the seams that are joined. -/
def State.joinedSeams (v : State) : List Nat := (List.range v.carriageCount).filter (fun g => v.seamOn g)

/-- Bits of a sample of a device code (R110). -/
def formatBits (code : Nat) : Nat :=
  if code = 2 ∨ code = 0x12 ∨ code = 0x22 then 10 else if code = 3 then 12 else if code = 4 then 16 else 8

/-- The stream slot bound to a carriage: window and offset. -/
def State.slotOf (v : State) (g : Nat) : Option (Nat × Nat) :=
  ((v.windows .PMT).flatMap (fun i => (List.range 4).map (fun k => (i, 0x40 * k)))).find?
    (fun x => v.rf x.1 (Reg.PMT_ARC_CFG_CARRIAGE.sh x.2) == g)

/-- Output planes of a carriage. -/
def planesOut (planes : Nat) : Nat := if planes = 1 then 1 else 3

/-- A partition's traffic (R313), times 16, bytes/s: history, archive, record queue; other kinds are not budgeted. -/
def State.partTraffic16 (v : State) (r : DramRec) : Nat :=
  match v.carr r.carriage with
  | some c =>
    if r.kind = 1 then 2 * planesOut c.planes * c.owned * c.maxRate * 17
    else if r.kind = 2 then
      let row := (c.planes * c.inputWidth * formatBits c.format + 7) / 8
      let budget := match v.slotOf r.carriage with
        | some x => v.rf x.1 (Reg.PMT_ARC_CTL_BUDGET.sh x.2)
        | none => 1
      (row * 2 * (4 + budget) + 34 * 16) * c.maxRate
    else if r.kind = 5 then 16 * 8192000 * v.head.fPace
    else 0
  | none => if r.kind = 5 then 16 * 8192000 * v.head.fPace else 0

/-- Seam traffic of the harness (R204): the shared columns of each line of g_H go to the unit and back. -/
def State.seamFlows (v : State) : List Flow :=
  v.joinedSeams.flatMap (fun g =>
    match v.carr g, v.carr (g + 1) with
    | some l, some h =>
      if l.carriage / 6 = h.carriage / 6 then []
      else
        let x := 2 * (2 * l.ovlHigh) * planesOut h.planes * h.maxRate * 16 * 720720
        [⟨h.carriage / 6, l.carriage / 6, x, [g, g + 1]⟩, ⟨l.carriage / 6, h.carriage / 6, x, [g, g + 1]⟩]
    | _, _ => [])

/-- Non-local DRAM traffic of the harness, as R313 budgets it: what coaches write to, and read from, channels of other coaches. Patches are read
by the carriage's coach; the record queue is written and read from C0, half each. -/
def State.dramFlows (v : State) : List Flow :=
  v.dramRecs.flatMap (fun r =>
    let l := chanList r.channels
    let share := v.partTraffic16 r * (720720 / Nat.max 1 l.length)
    let home := if r.carriage = 0xFF then 0 else r.carriage / 6
    let out := if r.kind = 1 then share * 16 / 17 else if r.kind = 5 then share / 2 else share
    l.flatMap (fun ch => if ch / 2 = home then [] else [⟨home, ch / 2, out, [r.carriage]⟩, ⟨ch / 2, home, share - out, [r.carriage]⟩]))

/-- The load of the link from coach a to its neighbour b, in the same scale (H-0303). The spec gives merge traffic no figure (log 59). -/
def State.linkLoad (v : State) (a b : Nat) : Nat :=
  (((v.seamFlows ++ v.dramFlows).filter (fun f => (fabricRoute v.hw.coaches f.a f.b).contains (a, b))).map (fun f => f.load)).sum

/-- The links of a part. -/
def allLinks (coaches : Nat) : List (Nat × Nat) :=
  (List.range coaches).flatMap (fun a => ((List.range coaches).filter (fun b => a != b && nextHop coaches a b == b)).map (fun b => (a, b)))

/-- The links that are to carry more than their full width. -/
def State.overloaded (v : State) : List (Nat × Nat) :=
  (allLinks v.hw.coaches).filter (fun l => decide (linkWidth v.hw.coaches l.1 l.2 * 16 * 720720 < v.linkLoad l.1 l.2))

/-! ### Failed ports (R21) -/

/-- The ports of a link that work: the k-th port at one end meets the k-th at the other, and either end's failure takes both out (log 60). -/
def State.portsLeft (s : State) (a b : Nat) : Nat :=
  let n := s.hw.coaches
  let down := fun (c p : Nat) => (s.rf 0 Reg.GLB_FAB_PORTS_FAILED).testBit (4 * c + p)
  (((linkPorts n a b).zip (linkPorts n b a)).filter (fun x => !down a x.1 && !down b x.2)).length

/-- The links from a column of a row of a GLK-8, so many steps in one direction: 1 east, 3 west. -/
def rowLinks (row step : Nat) : Nat → Nat → List (Nat × Nat)
  | 0, _ => []
  | n + 1, col => (gridAt row col, gridAt row (col + step)) :: rowLinks row step n (col + step)

/-- The route that traffic takes now: where a row link of its fixed route has no port left, the other way round the row. -/
def State.wayNow (s : State) (a b : Nat) : List (Nat × Nat) :=
  let n := s.hw.coaches
  let r := fabricRoute n a b
  let row := r.filter (fun l => gridCol l.1 != gridCol l.2)
  if n = 8 ∧ row.any (fun l => s.portsLeft l.1 l.2 == 0) then
    let east := decide ((gridCol b + 4 - gridCol a) % 4 ≤ 2)
    let steps := if east then (gridCol a + 4 - gridCol b) % 4 else (gridCol b + 4 - gridCol a) % 4
    rowLinks (a / 4) (if east then 3 else 1) steps (gridCol a) ++ r.filter (fun l => gridCol l.1 == gridCol l.2)
  else r

/-- Whether failed ports leave a link on the way of a carriage's traffic short of its load (R21). -/
def State.linkShort (s : State) (g : Nat) : Bool :=
  if s.rf 0 Reg.GLB_FAB_PORTS_FAILED = 0 then false
  else
    let ways := (s.seamFlows ++ s.dramFlows).map (fun f => (f, s.wayNow f.a f.b))
    let load := fun (l : Nat × Nat) => ((ways.filter (fun x => x.2.contains l)).map (fun x => x.1.load)).sum
    ways.any (fun x => x.1.cars.contains g &&
      x.2.any (fun l => decide (256000000000 * s.portsLeft l.1 l.2 * 16 * 720720 < load l)))

end Sys2Proof.Machine
end

