-- ==== Sys2Proof/Machine/Serial.lean ====
section
/-! DEFINITION. What the bits on a lane mean: stuffing (R85), the scrambler (R86), Felloe words in bit order (R84), and the PRBS test with its
checker (R107). -/

namespace Sys2Proof.Machine

/-! ### Stuffing (R85) -/

/-- The run after one more bit. -/
def EqualRun.next (r : EqualRun) (b : Bool) : EqualRun := if r.len ≠ 0 ∧ r.last = b then ⟨b, r.len + 1⟩ else ⟨b, 1⟩

/-- The serial stream of bits: after 15 equal ones an opposite one. -/
def stuff : EqualRun → List Bool → List Bool
  | _, [] => []
  | r, b :: t => if (r.next b).len = 15 then b :: (!b) :: stuff ⟨!b, 1⟩ t else b :: stuff (r.next b) t

/-- The bits of a serial stream without the one after any 15 equal ones, with how many bits had come before each violation, and the run. -/
def unstuff : EqualRun → Nat → List Bool → List Bool × List Nat × EqualRun
  | r, _, [] => ([], [], r)
  | r, n, b :: t =>
    if 15 ≤ r.len then
      let x := unstuff ⟨b, 1⟩ n t
      (x.1, if b = r.last then n :: x.2.1 else x.2.1, x.2.2)
    else
      let x := unstuff (r.next b) (n + 1) t
      (b :: x.1, x.2)

/-! ### The scrambler (R86) -/

/-- One step of the scrambler. -/
def scrambleStep (x : Nat) : Nat := (2 * x + b2n (x.testBit 22 != x.testBit 17)) % 2 ^ 23

/-- The scrambler after n bits. -/
def scrambleAfter : Nat → Nat → Nat
  | 0, x => x
  | n + 1, x => scrambleAfter n (scrambleStep x)

/-- Bits scrambled from a state on; the same again gives the bits back. -/
def scrambleBits : Nat → List Bool → List Bool
  | _, [] => []
  | x, b :: t => (b != (scrambleStep x).testBit 0) :: scrambleBits (scrambleStep x) t

/-! ### Words (R84) -/

/-- The bits of a word, bit 0 first. -/
def wordBits (w : Nat) : List Bool := (List.range 80).map (fun k => w.testBit k)

/-- The number whose bits, bit 0 first, are given. -/
def bitsWord : List Bool → Nat
  | [] => 0
  | b :: t => b2n b + 2 * bitsWord t

/-- The first n words of a stream. -/
def bitWords : Nat → List Bool → List Nat
  | 0, _ => []
  | n + 1, l => bitsWord (l.take 80) :: bitWords n (l.drop 80)

/-- The serial bits of 64-bit words sent from a run and a scrambler state on: Felloe-encoded, scrambled and stuffed. -/
def sendWords (r : EqualRun) (x : Nat) (l : List Nat) : List Bool := stuff r (scrambleBits x (l.flatMap (fun w => wordBits (felloe w false))))

/-! ### PRBS (R107) -/

/-- The degree and the second tap of a PATTERN. -/
def prbsTaps (pattern : Nat) : Nat × Nat := if pattern = 0 then (7, 6) else if pattern = 1 then (15, 14) else (31, 28)

/-- The next bit of a pattern after the bits in a register, the latest in bit 0. -/
def prbsNext (pattern reg : Nat) : Bool := reg.testBit ((prbsTaps pattern).1 - 1) != reg.testBit ((prbsTaps pattern).2 - 1)

/-- The bits of a pattern from a register on: what the generator sends. -/
def prbsBits (pattern : Nat) : Nat → Nat → List Bool
  | 0, _ => []
  | n + 1, reg => prbsNext pattern reg :: prbsBits pattern n ((2 * reg + b2n (prbsNext pattern reg)) % 2 ^ 31)

/-- A checker that begins to seed itself. -/
def Prbs.reseed (p : Prbs) : Prbs := { p with reg := 0, fill := 0, good := 0, locked := false, wrong := [] }

/-- One received bit at the checker: unlocked it takes the bit and locks after 64 that its own prediction met; locked it counts the bits that
differ from its own sequence, and reseeds after more than 32 among 1,024 (log 69). -/
def Prbs.step (pattern : Nat) (p : Prbs) (b : Bool) : Prbs :=
  let want := prbsNext pattern p.reg
  if p.locked then
    let wrong := ((p.wrong.map (fun k => k + 1)).filter (fun k => decide (k < 1024))) ++ (if b = want then [] else [0])
    let q := { p with reg := (2 * p.reg + b2n want) % 2 ^ 31, bits := p.bits + 1, errors := p.errors + b2n (b != want), wrong := wrong }
    if 32 < wrong.length then q.reseed else q
  else
    let good := if p.fill < (prbsTaps pattern).1 then 0 else if b = want then p.good + 1 else 0
    { p with reg := (2 * p.reg + b2n b) % 2 ^ 31, fill := p.fill + 1, good := good, locked := decide (64 ≤ good) }

/-! ### The eye (R99) -/

/-- The longest run of set bits among the low n bits of a mask, with the run that ends there. -/
def longestRun (mask : Nat) : Nat → Nat × Nat
  | 0 => (0, 0)
  | n + 1 =>
    let x := longestRun mask n
    let cur := if mask.testBit n then x.2 + 1 else 0
    (Nat.max x.1 cur, cur)

/-- The eye width of one peaking code: the longest run of error-free positions among 64. -/
def eyeWidth (mask : Nat) : Nat := (longestRun mask 64).1

end Sys2Proof.Machine
end

