-- ==== Sys2Proof/Machine/Link.lean ====
section
/-! DEFINITION. Lanes and the connections they form: reading a lane, its credits (R93, R94), and what the part sends on a link (R89 to R92). -/

namespace Sys2Proof.Machine

/-! ### Reading a lane -/

/-- A lane beyond its registers. -/
def State.lane (s : State) (l : Nat) : Lane := cgetD s.lanes l Lane.fresh

/-- Change a lane beyond its registers. -/
def State.laneMod (s : State) (l : Nat) (f : Lane → Lane) : State := { s with lanes := cset s.lanes l (f (s.lane l)) }

/-- A camera connection, or another link by its key. -/
def State.conn (s : State) (c : Nat) : Conn := cgetD s.conns c Conn.fresh

/-- Change a connection. -/
def State.connMod (s : State) (c : Nat) (f : Conn → Conn) : State := { s with conns := cset s.conns c (f (s.conn c)) }

/-- A field of a lane's window. -/
def State.lf (s : State) (l : Nat) (f : Fld) : Nat := s.rf (laneInst l) f

/-- Write a field of a lane's window. -/
def State.lw (s : State) (l : Nat) (f : Fld) (v : Nat) : State := s.wf (laneInst l) f v

/-- The lanes of the part that have a window. -/
def State.allLanes (s : State) : List Nat := (List.range (16 * s.hw.coaches)).filter (fun l => s.hasUnit .LAN (laneInst l))

/-- The lanes of camera connection c, master first. -/
def State.lanesOfConn (s : State) (c : Nat) : List Nat :=
  sortBy (fun l => s.lf l Reg.LAN_CFG_INDEX) (s.allLanes.filter (fun l => s.lf l Reg.LAN_CFG_USE == 1 && s.lf l Reg.LAN_CFG_CONNECTION == c))

/-- The carriages on camera connection c. -/
def State.carsOfConn (s : State) (c : Nat) : List Nat :=
  s.carriages.filter (fun g => match s.carr g with
    | some r => r.role == 1 && r.conn == c
    | none => false)

/-- A lane in CXP mode. -/
def State.isCxp (s : State) (l : Nat) : Bool := s.lf l Reg.LAN_CFG_MODE == 1

/-- A lane in Voxhus mode. -/
def State.isVox (s : State) (l : Nat) : Bool := s.lf l Reg.LAN_CFG_MODE == 2

/-- A lane in an Ethernet mode. -/
def State.isEth (s : State) (l : Nat) : Bool := s.lf l Reg.LAN_CFG_MODE == 3 || s.lf l Reg.LAN_CFG_MODE == 4

/-- Whether a lane runs PRBS in a direction: it then carries no protocol traffic in either (R107). -/
def State.inPrbs (s : State) (l : Nat) : Bool := s.rb (laneInst l) Reg.LAN_PRBS_CTL_TX_ON || s.rb (laneInst l) Reg.LAN_PRBS_CTL_RX_ON

/-- Whether the receive direction is up and carries traffic. -/
def State.laneRxUp (s : State) (l : Nat) : Bool := s.lf l Reg.LAN_STATUS_RX_STATE == 4 && !s.inPrbs l

/-- Whether the transmit direction is up and carries traffic. -/
def State.laneTxUp (s : State) (l : Nat) : Bool := s.lf l Reg.LAN_STATUS_TX_STATE == 4 && !s.inPrbs l

/-- The global lanes of the mirror link (R60). -/
def State.mirrorLanes (s : State) : List Nat :=
  match s.hdr.active with
  | some im => (im.pair.map (fun r => r.lanes)).getD []
  | none => []

/-! ### Links -/

/-- The key of the link that a lane belongs to: its camera connection, the mirror link, or a ring lane by itself. -/
def State.linkKey (s : State) (l : Nat) : Nat :=
  if s.lf l Reg.LAN_CFG_USE = 1 then s.lf l Reg.LAN_CFG_CONNECTION
  else if s.lf l Reg.LAN_CFG_USE = 2 then 0x100
  else 0x200 + l

/-- The lanes of a link, in INDEX order. -/
def State.linkLanes (s : State) (k : Nat) : List Nat :=
  if k < 0x100 then s.lanesOfConn k
  else if k = 0x100 then s.allLanes.filter (fun l => s.lf l Reg.LAN_CFG_USE == 2)
  else [k - 0x200]

/-- The VCs that carry lines on a camera connection: the STREAMs of its carriages (R92). -/
def State.streamVcs (s : State) (c : Nat) : List Nat :=
  (s.carsOfConn c).map (fun g => s.rf (s.eng .ING g) Reg.ING_STREAM_STREAM % 16)

/-- The VC of a camera connection that carries control and events: the lowest that carries no lines (log 68). -/
def State.controlVc (s : State) (c : Nat) : Nat := ((List.range 16).find? (fun v => !(s.streamVcs c).contains v)).getD 15

/-- The VCs that a lane's use maps: the streams and the control VC of a camera connection, VC 0 to 4 of the mirror link (R454), VC 0 of the
ring (log 68). -/
def State.mappedVcs (s : State) (l : Nat) : List Nat :=
  if s.lf l Reg.LAN_CFG_USE = 1 then
    let c := s.lf l Reg.LAN_CFG_CONNECTION
    s.streamVcs c ++ [s.controlVc c]
  else if s.lf l Reg.LAN_CFG_USE = 2 then List.range 5
  else if s.lf l Reg.LAN_CFG_USE = 3 then [0]
  else []

/-- The credit of a VC of a lane. -/
def State.vc (s : State) (l v : Nat) : LaneVc := cgetD (s.lane l).vcs v ⟨0, 0, 0, 0⟩

/-- Set the credit of a VC and show it in LAN_VCn. -/
def State.setVc (s : State) (l v : Nat) (x : LaneVc) : State :=
  let s1 := s.laneMod l (fun y => { y with vcs := cset y.vcs v x })
  (s1.wf (laneInst l) (Reg.LAN_VC_GRANTED.sh (4 * v)) (satN 255 (x.granted - x.used))).wf (laneInst l) (Reg.LAN_VC_HELD.sh (4 * v))
    (satN 255 ((x.total + 2 ^ 32 - x.sent % 2 ^ 32) % 2 ^ 32))

/-- The credit counts start at 0 as a link starts (R93). -/
def State.creditsZero (s : State) (l : Nat) : State :=
  (List.range 16).foldl (fun t v => (t.wf (laneInst l) (Reg.LAN_VC_GRANTED.sh (4 * v)) 0).wf (laneInst l) (Reg.LAN_VC_HELD.sh (4 * v)) 0)
    (s.laneMod l (fun y => { y with vcs := [] }))

/-! ### What the part sends -/

/-- The units that a packet of n payload words costs (R93). -/
def packetCost (n : Nat) : Nat := ceilDiv (n + 1) 64

/-- Whether the units sent on a VC and a packet's cost are no more than the last TOTAL, both mod 2^32 (R93). -/
def LaneVc.affords (x : LaneVc) (cost : Nat) : Bool := decide ((x.total + 2 ^ 32 - (x.sent + cost) % 2 ^ 32) % 2 ^ 32 < 2 ^ 31)

/-- The header of a packet that the part sends (R90): it carries no line. -/
def txHeader (p : TxPkt) (seq : Nat) : Nat := 1 + 16 * p.vc + 256 * p.typ + 2 ^ 16 * seq + 2 ^ 32 * (p.words.length - 1)

/-- Send what waits on a link as far as credit lets it (R92, R93): each packet whole on one lane, the lanes in INDEX order by turns. -/
def State.pumpGo : Nat → Nat → State → State
  | 0, _, s => s
  | n + 1, k, s =>
    let x := s.conn k
    let ls := (s.linkLanes k).filter s.laneTxUp
    match x.waiting, ls with
    | p :: rest, _ :: _ =>
      let l := ls.getD (x.next % ls.length) 0
      let v := s.vc l p.vc
      let cost := packetCost p.words.length
      let seq := cgetD x.txSeq p.vc 0
      if v.affords cost then
        State.pumpGo n k (((s.connMod k (fun y => { y with
            waiting := rest, next := y.next + 1, txSeq := cset y.txSeq p.vc ((seq + 1) % 65536) })).setVc l p.vc { v with sent := v.sent + cost }).emit
          .voxhusPacket l (txHeader p seq :: p.words))
      else s
    | _, _ => s

/-- Send what waits on a link. -/
def State.linkPump (s : State) (k : Nat) : State := State.pumpGo (s.conn k).waiting.length k s

/-- A packet of the part for a link: it leaves when credit is there. Every packet of the part on a camera connection is a control request of at
most 9 payload words, so none passes the 32 of R91. -/
def State.voxSend (s : State) (k : Nat) (p : TxPkt) : State :=
  if s.suppressed then s else (s.connMod k (fun x => { x with waiting := x.waiting ++ [p] })).linkPump k

/-- Send a link word (R89): OP and the direction concerned. It leaves on a transmit direction that is up, the training lock report in training
too (R97). -/
def State.linkWord (s : State) (l op dir : Nat) : State :=
  if s.laneTxUp l ∨ op = 0x20 then s.emit .voxhusLink l [4 + 256 * op + 65536 * dir] else s

/-- A trigger word (R89) of a VC: KIND, the low 16 bits of the trigger number, and by how much it leaves late, in units of 10 ps. -/
def triggerWord (v kind n late : Nat) : Nat := 3 + 16 * v + 256 * kind + 2 ^ 16 * (n % 65536) + 2 ^ 32 * satN 65535 (100 * late)

end Sys2Proof.Machine
end

