-- ==== Sys2Proof/Machine/Ing.lean ====
section
/-! DEFINITION. The ING parsers (R109 to R136): triggers and tags, matching lines to triggers, gap markers, malformed lines and images,
exposure epochs, the control tunnel and camera events. Rows about the ING name a carriage. -/

namespace Sys2Proof.Machine

/-! ### Shorthands -/

/-- The parser of carriage g. -/
def State.ingOf (s : State) (g : Nat) : Ing := cgetD s.ing g Ing.fresh

/-- Change the parser of carriage g. -/
def State.ingMod (s : State) (g : Nat) (f : Ing → Ing) : State := { s with ing := cset s.ing g (f (s.ingOf g)) }

/-- The register window of carriage g's parser. -/
def State.ingWin (s : State) (g : Nat) : Nat := s.eng .ING g

/-- A field of carriage g's parser. -/
def State.ingF (s : State) (g : Nat) (f : Fld) : Nat := s.rf (s.ingWin g) f

/-- A counter of carriage g's parser (R143). -/
def State.ingCount (s : State) (g k : Nat) : State := s.inc (s.ingWin g) (Reg.ING_CNT_COUNT.sh (4 * k))

/-- An event of carriage g's parser. -/
def State.ingEv (s : State) (g : Nat) (f : Fld) : State := s.ev (s.ingWin g) f

/-- A 48-bit index in two registers. -/
def State.ingIndex (s : State) (g : Nat) (f : Fld) (n : Nat) : State := s.wf64 (s.ingWin g) f (n % 2 ^ 48)

/-- The lanes of carriage g's connection (R47, R48), master first. -/
def State.connLanes (s : State) (g : Nat) : List Nat :=
  match s.carr g with
  | none => []
  | some r => s.lanesOfConn r.conn

/-- Whether every receive direction of the connection is up (R128 LANE). -/
def State.rxUp (s : State) (g : Nat) : Bool := (s.connLanes g).all s.laneRxUp

/-- Whether the transmit direction of the master lane is up (R116). -/
def State.txUp (s : State) (g : Nat) : Bool :=
  match s.connLanes g with
  | l :: _ => s.laneTxUp l
  | [] => false

/-- INPUT_WIDTH; 0 stands for 32,768. -/
def wide (n : Nat) : Nat := if n = 0 then 32768 else n

/-- Show OUTSTANDING. -/
def State.ingShow (s : State) (g : Nat) : State :=
  let n := (s.ingOf g).trigs.filter (fun t => t.state == .waiting && t.sent)
  s.wf (s.ingWin g) Reg.ING_STATUS_OUTSTANDING (satN 127 n.length)

/-! ### Gap markers and epochs -/

/-- Something for the statistics tap, where the harness sets it (R26); a line that it cannot take is one that the STA skips (R40, R141). -/
def State.staTap (s : State) (g : Nat) (from_ : Hop) (it : Item) : State :=
  if !(((s.carr g).map CarrRec.taps).getD 0).testBit 0 then s
  else
  let r := s.tapPush g from_ (s.hop g .STA) it
  match it with
  | .line l => if r.2 then r.1 else { s with sta := cmod s.sta g Sta.fresh (fun u => { u with lost := l.tag.index :: u.lost }) }
  | _ => r.1

/-- Offer something to the archive tap of carriage g, where the harness sets it (R26, R279). -/
def State.archiveTap (s : State) (g : Nat) (it : Item) : State :=
  if !(((s.carr g).map CarrRec.taps).getD 0).testBit 1 then s
  else (List.range 4).foldl (fun t n => (t.tapPush g (t.hop g .ING) ⟨.PMT, unitOf (g / 6) n, 0⟩ it).1) s

/-- Put the open run into the chain as a gap marker (R127, R128). -/
def State.gapSend (s : State) (g : Nat) : State :=
  match (s.ingOf g).gap with
  | none => s
  | some m =>
    let s1 := (s.ingMod g (fun i => { i with gap := none, gapBefore := true })).ingCount g 10
    let s2 := s1.pass g (s1.hop g .ING) (.gap m) false
    let s3 := if s2.rf (s2.eng .STA g) Reg.STA_CFG_TAP = 0 then s2.staTap g (s2.hop g .ING) (.gap m) else s2
    s3.archiveTap g (.gap m)

/-- Name a line that did not come: it extends the open run of its cause, or starts a new run; a run of 65,536 lines closes (R128). -/
def State.gapAdd (s : State) (g : Nat) (t : Trig) (cause : Nat) : State :=
  let fresh : Gap := ⟨cause, t.n, t.n, t.md, t.md, t.time, t.time, 1, false, true, 1, 0⟩
  let s1 := match (s.ingOf g).gap with
    | some m =>
      if m.cause = cause ∧ m.last + 1 = t.n then
        s.ingMod g (fun i => { i with gap := some { m with last := t.n, md1 := t.md, time1 := t.time, count := m.count + 1 } })
      else (s.gapSend g).ingMod g (fun i => { i with gap := some fresh })
    | none => s.ingMod g (fun i => { i with gap := some fresh })
  match (s1.ingOf g).gap with
  | some m => if 65536 ≤ m.count then s1.gapSend g else s1
  | none => s1

/-- SETTINGS_LATENCY of carriage g. -/
def State.settingsLatency (s : State) (g : Nat) : Nat := ((s.carr g).map (fun r => r.latency)).getD 0

/-- Show the pending epoch: while no trigger was sent since its instant A, the next one is T (R131). -/
def State.epochShow (s : State) (g : Nat) : State :=
  let i := s.ingOf g
  let s1 := s.wf (s.ingWin g) Reg.ING_EPOCH_PENDING (b2n (!i.epochs.isEmpty))
  match i.epochs with
  | (l, _, _) :: _ => s1.ingIndex g Reg.ING_EPOCH_START_LO_LINE (l.getD (i.next + s.settingsLatency g))
  | [] => s1

/-- Begin the epochs whose first line is at or before line n (R131). -/
def State.epochTo (s : State) (g n : Nat) : State :=
  ((s.ingOf g).epochs.filter (fun e => match e.1 with
    | some l => decide (l ≤ n)
    | none => false)).foldl (fun t e =>
      let w := t.ingWin g
      let k := (t.ingF g Reg.ING_EPOCH_EPOCH + 1) % 65536
      let l := e.1.getD n
      let t1 := (t.wf w Reg.ING_EPOCH_EPOCH k).wf w Reg.ING_EPOCH_UNCONFIRMED (b2n e.2.1)
      let t2 := (t1.ingIndex g Reg.ING_EPOCH_START_LO_LINE l).ingMod g (fun i =>
        { i with epochs := i.epochs.drop 1, starts := ((k, l, e.2.1) :: i.starts).take 8, epochFirst := true })
      (t2.epochShow g).ingEv g Reg.ING_EVENT_EPOCH) s

/-- A new epoch is pending from the present instant on (R131, R132). -/
def State.epochPend (s : State) (g : Nat) (unconfirmed : Bool) : State :=
  (s.ingMod g (fun i => { i with epochs := i.epochs ++ [(none, unconfirmed, s.now)] })).epochShow g

/-- Numbers that did not come pass, in order, from the oldest trigger on into gap markers, up to one whose line is awaited or open. -/
def State.settleGo : Nat → Nat → State → State
  | 0, _, s => s
  | k + 1, g, s =>
    match (s.ingOf g).trigs with
    | [] => s
    | t :: rest =>
      match t.state with
      | .gone cause =>
        let s1 := (s.epochTo g t.n).gapAdd g t cause
        let unsent := if t.sent then (s1.ingOf g).unsent else match (s1.ingOf g).unsent with
          | (a, b) :: l => if b + 1 = t.n then (a, t.n) :: l else (t.n, t.n) :: (a, b) :: l
          | [] => [(t.n, t.n)]
        State.settleGo k g (s1.ingMod g (fun i =>
          { i with trigs := rest, unsent := unsent.filter (fun r => decide (t.n < r.2 + 65536)) }))
      | _ => s

/-- Settle what can be settled. -/
def State.settle (s : State) (g : Nat) : State := (State.settleGo ((s.ingOf g).trigs.length + 1) g s).ingShow g

/-- Declare triggers missing: a line that was due while the receive direction was not up names cause LANE (R119, R128). -/
def State.declare (s : State) (g : Nat) (who : Trig → Bool) (superseded : Bool) : State :=
  let lane := !s.rxUp g
  let hit := (s.ingOf g).trigs.filter (fun t => t.state == .waiting && t.sent && who t)
  let causeOf := fun (t : Trig) => if !superseded && (lane || t.down) then 3 else 2
  let s1 := s.ingMod g (fun i => { i with trigs := i.trigs.map (fun (t : Trig) =>
    if t.state == .waiting && t.sent && who t then ({ t with state := .gone (causeOf t) } : Trig) else t) })
  hit.foldl (fun x t => (if causeOf t = 2 then x.ingCount g 1 else x).ingEv g Reg.ING_EVENT_MISSING) s1

/-- Whether a trigger's window is past for a packet that came at an instant: one at the very end of it is on time (R119). -/
def State.pastWindow (s : State) (g came : Nat) (t : Trig) : Bool :=
  decide (t.instant + s.ingF g Reg.ING_LATE_WINDOW_NS < came)

/-! ### Triggers -/

/-- The registers that a trigger event's own apply takes: all of the ING's but ING_LINE (R408). -/
def State.trigSide (s : State) (g : Nat) (k : Nat) : Bool := s.ofEng g .ING k && keyOff k != 0x0C

/-- A trigger event at a web position reaches the trigger-side apply line of a commit (R408). -/
def State.trigApply (s : State) (g : Nat) (web : Int) : State :=
  let n := (s.ingOf g).next
  let reached := fun (a : Armed) => a.carriage == g && a.line.isNone &&
    (if a.kind = 0 then a.at_ web else a.kind != 1 && a.released)
  let s1 := { s with yoke := { s.yoke with armed := s.yoke.armed.map (fun (a : Armed) =>
    if reached a then ({ a with line := some n } : Armed) else a) } }
  s1.armedTake g (fun a => a.line.isSome) (s1.trigSide g)

/-- The apply position of a commit whose apply line is n, once MD_n is known (R408). -/
def State.trigPos (s : State) (g n : Nat) (md : Int) : State :=
  { s with yoke := { s.yoke with armed := s.yoke.armed.map (fun (a : Armed) =>
    if a.carriage = g ∧ a.line = some n ∧ a.pos = none then ({ a with pos := some md } : Armed) else a) } }

/-- A trigger leaves on the master lane (R116): a CXP trigger packet with its number, KIND and insertion delay in ns (log 70), or a Voxhus
trigger word. -/
def State.trigSend (s : State) (g n kind : Nat) (instant : Int) : State :=
  let late := ((s.now : Int) - instant).toNat
  s.emitLive .trigger ((s.connLanes g).headD 0) (if s.ingF g Reg.ING_CFG_PROTOCOL = 1
    then [triggerWord (s.ingF g Reg.ING_STREAM_STREAM % 16) kind n late] else [n, kind, late])

/-- Epochs whose settings change came before this trigger begin with the line of the camera's latency from it; a trigger of the instant A
itself counts as before it (R131). A primary tells the standby of each (R454). -/
def State.epochFix (s : State) (g n : Nat) (instant : Int) : State :=
  let i := s.ingOf g
  let l := n + s.settingsLatency g
  let fixes := fun (e : Option Nat × Bool × Nat) => e.1 == none && decide ((e.2.2 : Int) < instant)
  let s1 := s.ingMod g (fun j => { j with epochs := j.epochs.map (fun e => if fixes e then (some l, e.2) else e) })
  if s.inPair then
    (List.range i.epochs.length).foldl (fun t k =>
      match i.epochs[k]? with
      | some e => if fixes e then t.emit .mirror 0x43 [g, l, (s.ingF g Reg.ING_EPOCH_EPOCH + 1 + k) % 65536, b2n e.2.1] else t
      | none => t) s1
  else s1

/-- The statistics unit of carriage g learns MD_n and t_n of a number (R117, R142). -/
def State.staMark (s : State) (g n : Nat) (md time : Int) : State :=
  if s.hasEng .STA g ∧ s.rf (s.eng .STA g) Reg.STA_CTL_ENABLE = 1 then
    { s with sta := cmod s.sta g Sta.fresh (fun u =>
      if u.marks.any (fun e => e.1 == n) then u else { u with marks := u.marks ++ [(n, md, time)] }) }
  else s

/-- One trigger event of carriage g's source (R115 to R117), where `query` answers for the web position at an instant. -/
def State.triggerBy (s : State) (g : Nat) (instant : Int) (query : Int → Nat × Bool) : State :=
  let s0 := s.trigApply g (query instant).1
  let i := s0.ingOf g
  let n := i.next
  let time := instant + s0.ingF g Reg.ING_EXP_CENTRE_NS
  let w := query time
  let md : Int := w.1 + sgn 64 (s0.rf64 (s0.ingWin g) Reg.ING_MD_OFFSET_LO_NM)
  let near := match i.lastSent with
    | some l => decide (instant < l + s0.ingF g Reg.ING_TRIG_MIN_NS)
    | none => false
  let up := s0.txUp g || s0.standby
  let sent := !near && up
  let t : Trig := ⟨n, instant, time, md, w.2, sent,
    sgn 64 (s0.rf64 (s0.ingWin g) Reg.ING_MD_OFFSET_LO_NM), !s0.rxUp g,
    if sent then .waiting else .gone 4⟩
  let s1 := (s0.ingMod g (fun j => { j with
      next := n + 1, trigs := j.trigs ++ [t], lastSent := if sent then some instant else j.lastSent })).ingIndex g
    Reg.ING_TRIG_INDEX_LO_INDEX (n + 1)
  let s2 := (((if sent then s1.epochFix g n instant else s1).trigPos g n md).epochShow g).staMark g n md time
  if sent then
    let len := s2.ingF g Reg.ING_BLOCK_BLOCK_LINES
    let start := s2.ingF g Reg.ING_BLOCK_TRIG_BLOCK_START = 1 ∧ (if len = 0 then n = 0 else n % len = 0)
    (s2.trigSend g n (if start then 1 else 0) instant).settle g
  else
    let s3 := s2.ingCount g 11
    let s4 := if up then s3 else match s3.connLanes g with
      | l :: _ => (s3.inc (laneInst l) Reg.LAN_EVENT_TRIG_DROP_COUNT).ev (laneInst l) Reg.LAN_EVENT_TRIG_DROPPED
      | [] => s3
    s4.settle g

/-- One trigger event of carriage g's own source: the part's Waywiser answers for the position. -/
def State.trigger (s : State) (g : Nat) (instant : Int) : State := s.triggerBy g instant (fun t => s.webAt t)

/-- Whether carriage g's parser runs: it accepts lines, or a patch holds it back for a time (R78). -/
def State.ingRuns (s : State) (g : Nat) : Bool :=
  s.ingF g Reg.ING_STATUS_RUNNING == 1 || (match s.hdr.patch with
    | some p => p.step != .pending && p.image.hdr.patchCarriage == g
    | none => false)

/-- A source hands an event to carriage g's parser, which takes it while it runs and ENABLE is 1 (R115). -/
def State.trigDue (s : State) (g : Nat) (instant : Int) : State :=
  if s.hasEng .ING g ∧ s.ingF g Reg.ING_TRIG_ENABLE = 1 ∧ s.ingF g Reg.ING_CFG_REPLAY = 0 ∧ s.ingRuns g then
    s.ingMod g (fun i => { i with due := i.due ++ [instant] })
  else s

/-- ING_TRIGGER_EVENT: the next trigger event of carriage g's source takes a number, fixes t_n and MD_n, and leaves unless it is
suppressed (R115 to R117). -/
def execIngTriggerEvent (g : Nat) (s : State) : Host.Outcome State Fault Refusal :=
  .next (match (s.ingOf g).due with
    | [] => s
    | t :: rest => (s.ingMod g (fun i => { i with due := rest })).trigger g t)

/-! ### Camera images and formats -/

/-- A camera image begins: one before it whose end was not marked is found short only now (R126), and the format is checked (R113). -/
def State.imageHeader (s : State) (g pfnc lines : Nat) : State :=
  let i := s.ingOf g
  let b := s.ingF g Reg.ING_BLOCK_BLOCK_LINES
  let s1 := if b ≠ 0 ∧ i.imageOpen ∧ i.imageLine < b then
    (s.ingCount g 6).ingEv g Reg.ING_EVENT_IMAGE_LEN else s
  let bad := s.ingF g Reg.ING_PFNC_VALUE ≠ 0 ∧ s.ingF g Reg.ING_PFNC_VALUE ≠ pfnc
  let s2 := (s1.ingMod g (fun j => { j with imageOpen := true, imageLine := 0, announced := lines })).wf
    (s.ingWin g) Reg.ING_STATUS_FORMAT_BAD (if bad then 1 else 0)
  if bad then s2.ingEv g Reg.ING_EVENT_FORMAT else s2

/-- CXP_IMAGE_HEADER: a rectangular image header with its PFNC value and line count; the image's first line is matched to the oldest
outstanding trigger (R113, R118). -/
def execCxpImageHeader (g pfnc lines : Nat) (s : State) : Host.Outcome State Fault Refusal :=
  .next (if !s.hasEng .ING g ∨ s.ingF g Reg.ING_CFG_PROTOCOL = 1 then s
    else
      let s1 := s.declare g (fun t => s.pastWindow g s.now t) false
      let first := ((s1.ingOf g).trigs.find? (fun t => t.state == .waiting && t.sent)).map (fun t => t.n)
      ((s1.imageHeader g pfnc lines).ingMod g (fun i => { i with match_ := first })).settle g)

/-- VOXHUS_LINE_HEADER: the line header packet of a camera image, with its PFNC value (R113, R118). -/
def execVoxhusLineHeader (g pfnc : Nat) (s : State) : Host.Outcome State Fault Refusal :=
  .next (if !s.hasEng .ING g ∨ s.ingF g Reg.ING_CFG_PROTOCOL = 0 then s else s.imageHeader g pfnc 0)

/-! ### Lines -/

/-- The trigger number that an arriving line is matched to (R118). -/
def State.matchLine (s : State) (g low : Nat) : Option Nat :=
  let i := s.ingOf g
  if s.ingF g Reg.ING_CFG_PROTOCOL = 1 then
    if i.next = 0 then none
    else
      let top := i.next - 1
      let back := (top + 65536 - low % 65536) % 65536
      if back ≤ top then some (top - back) else none
  else i.match_

/-- The numbers that the lines whose first packets wait for carriage g's parser are matched to (R118). -/
def State.awaited (s : State) (g : Nat) : List Nat :=
  let l := (s.ingOf g).rx.filter (fun p => p.start)
  (List.range l.length).filterMap (fun k =>
    if s.ingF g Reg.ING_CFG_PROTOCOL = 1 then s.matchLine g ((l.getD k ⟨0, true, true, false, 0, 64, [], []⟩).lineLow)
    else (s.ingOf g).match_.map (fun m => m + k))

/-- TRIGGER_WINDOW_EXPIRE: every trigger of carriage g whose window ends by now with no line is missing; a first packet that is here wins
(R119). -/
def execTriggerWindowExpire (g : Nat) (s : State) : Host.Outcome State Fault Refusal :=
  .next ((s.declare g (fun t => decide (t.instant + s.ingF g Reg.ING_LATE_WINDOW_NS ≤ s.now) && !(s.awaited g).contains t.n) false).settle g)

/-- The judgement of R119 on a line matched to a number. -/
inductive Verdict where
  | late | unsolicited | format | shed | accepted | reconfig
  deriving DecidableEq, Repr

/-- Whether a patch sheds the lines of carriage g: its instant is reached, the old chain has what its look-ahead needs (three lines beyond the
last grid line of it, R36), and the patched chain is not ready (R78). -/
def State.patchSheds (s : State) (g : Nat) : Bool :=
  match s.hdr.patch with
  | some p => p.step != .pending && p.image.hdr.patchCarriage == g && (p.step != .draining || decide (3 ≤ p.past))
  | none => false

/-- The old chain of a patched carriage takes a line with an MD. -/
def State.patchTakes (s : State) (g : Nat) (md : Int) : State :=
  match s.hdr.patch with
  | some p =>
    if p.step = .draining ∧ p.image.hdr.patchCarriage = g ∧ p.top < md then
      { s with hdr := { s.hdr with patch := some { p with past := p.past + 1 } } }
    else s
  | none => s

/-- Judge a line (R119), its window already tested. Where a failed port leaves a link short, which lines are shed is open (R21; log 59); with
ING_PFNC at 0 a mismatch found before lasts to the next header (R113; log 71). -/
def State.judge (s : State) (g : Nat) (n : Option Nat) : Verdict :=
  let i := s.ingOf g
  match n with
  | none => .unsolicited
  | some n =>
    if i.next ≤ n then .unsolicited
    else
      match i.trigs.find? (fun t => t.n == n) with
      | none => if i.unsent.any (fun r => decide (r.1 ≤ n) && decide (n ≤ r.2)) then .unsolicited else .late
      | some t =>
        if !t.sent then .unsolicited
        else if t.state ≠ .waiting then .late
        else if s.ingF g Reg.ING_STATUS_FORMAT_BAD = 1 then .format
        else if s.patchSheds g then .reconfig
        else if s.linkShort g && s.freeVal 1 == 1 then .shed
        else
          let bytes := 32 + 2 * s.ingF g Reg.ING_CFG_PLANES * wide (s.ingF g Reg.ING_STREAM_WIDTH)
          match s.mewOut g (s.hop g .ING) with
          | some k => if s.mewRoom k (ceilDiv bytes 64) then .accepted else .shed
          | none => .accepted

/-- Set the state of trigger n. -/
def State.trigTo (s : State) (g n : Nat) (x : TrigState) : State :=
  s.ingMod g (fun i => { i with trigs := i.trigs.map (fun (t : Trig) => if t.n = n then ({ t with state := x } : Trig) else t) })

/-- The first accepted line at or beyond a line-index instant releases its commit and is its apply line (R407); every line takes the
ING_LINE fields that are due at it (R408). -/
def State.lineApply (s : State) (g n : Nat) (md : Int) : State :=
  let due := (s.yoke.commits.filter (fun c => c.kind == 1 && c.pending && c.carriage == some g && decide (c.instant ≤ n))).map (fun c => c.seq)
  let s1 := due.foldl (fun t q => t.releaseOn q) s
  let s2 := { s1 with yoke := { s1.yoke with armed := s1.yoke.armed.map (fun (a : Armed) =>
    if a.carriage = g ∧ a.kind = 1 ∧ a.released ∧ a.line = none then ({ a with line := some n, pos := some md } : Armed) else a) } }
  s2.armedTake g (fun a => match a.line with
    | some l => decide (l ≤ n)
    | none => false) (s2.ofEng g .ING)

/-- A replayed line with its archived number and MD does for its carriage's commits what a trigger event and its line do for a live one's
(R408). -/
def State.replayApply (s : State) (g n : Nat) (md : Int) : State :=
  let due := (s.yoke.commits.filter (fun c => c.kind == 1 && c.pending && c.carriage == some g && decide (c.instant ≤ n))).map (fun c => c.seq)
  let s1 := due.foldl (fun t q => t.releaseOn q) s
  let reached := fun (a : Armed) => a.carriage == g && a.line.isNone && (if a.kind = 0 then a.at_ md else a.released)
  let s2 := { s1 with yoke := { s1.yoke with armed := s1.yoke.armed.map (fun (a : Armed) =>
    if reached a then ({ a with line := some n, pos := some (a.pos.getD md) } : Armed) else a) } }
  s2.armedTake g (fun a => a.line.isSome) (s2.ofEng g .ING)

/-- ING_LINE_DECIDE: the first packet of a line that waits for carriage g's parser is judged (R119); a packet whose line lost its start is
discarded and counts as none (R124). A CXP line is matched to the number after the last, sent or not (R118; log 72). -/
def execIngLineDecide (g : Nat) (s : State) : Host.Outcome State Fault Refusal :=
  .next (match (s.ingOf g).cur, (s.ingOf g).rx with
    | none, p :: rest =>
      if !p.start then s.ingMod g (fun j => { j with rx := rest })
      else
      let s0 := s.declare g (fun t => s.pastWindow g p.came t) false
      let n := s0.matchLine g p.lineLow
      let i := s0.ingOf g
      let cam := if s0.ingF g Reg.ING_CFG_PROTOCOL = 1 then p.lineLow else i.imageLine % 65536
      let s1 := ((if s0.linkShort g then s0.drawn else s0).ingMod g (fun j => { j with
        rx := rest, match_ := j.match_.map (fun m => m + 1), imageLine := j.imageLine + 1, imageOpen := true })).wf (s.ingWin g) Reg.ING_STATUS_LINE_OPEN 1
      let take := fun (t : State) (q : Option Nat) => t.ingMod g (fun j => { j with cur := some ⟨q, cam, [p]⟩ })
      match s0.judge g n with
      | .late => (((take s1 none).ingCount g 2).ingEv g Reg.ING_EVENT_LATE).settle g
      | .unsolicited => (((take s1 none).ingCount g 3).ingEv g Reg.ING_EVENT_UNSOLICITED).settle g
      | .format => ((take s1 none).trigTo g (n.getD 0) (.gone 6)).settle g
      | .reconfig => ((take s1 none).trigTo g (n.getD 0) (.gone 5)).settle g
      | .shed => ((((take s1 none).trigTo g (n.getD 0) (.gone 1)).ingCount g 0).ingEv g Reg.ING_EVENT_SHED).settle g
      | .accepted =>
        let m := n.getD 0
        let md := ((i.trigs.find? (fun t => t.n == m)).map (fun t => t.md)).getD 0
        let s2 := (((s1.trigTo g m .open_).declare g (fun t => decide (t.n < m)) true).lineApply g m md).patchTakes g md
        (take s2 (some m)).settle g
    | _, _ => s)

/-- The packets that belong to the open line, whether its end has come, and what is left (R124). -/
def linePackets : List RxPkt → List RxPkt × Bool × List RxPkt
  | [] => ([], false, [])
  | p :: t =>
    if p.start then ([], true, p :: t)
    else if p.ending then ([p], true, t)
    else
      let r := linePackets t
      (p :: r.1, r.2)

/-- The samples of b bits in payload words of a width, from bit 0 upward (R90, R110). -/
def unpack (b n : Nat) (words : List Nat) (width : Nat) : List Nat :=
  let v := words.reverse.foldl (fun a w => a * 2 ^ width + w % 2 ^ width) 0
  (List.range n).map (fun j => v / 2 ^ (b * j) % 2 ^ b)

/-- The samples that a poisoned word touches. -/
def poisonedSamples (b n width : Nat) (bad : List Nat) : List Nat :=
  (List.range n).filter (fun j => bad.any (fun k => decide (width * k < b * (j + 1)) && decide (b * j < width * (k + 1))))

/-- The packets' words in order, with the places of the poisoned ones. -/
def gatherWords (l : List RxPkt) : List Nat × List Nat :=
  l.foldl (fun a p => (a.1 ++ p.words, a.2 ++ p.poison.map (fun k => k + a.1.length))) ([], [])

/-- The planes of a line from its payload: samples, poisoned columns, SHORT and LONG (R110, R111, R124, R125). -/
def State.parseLine (s : State) (g : Nat) (pk : List RxPkt) : List (List Int) × List (List Nat) × Bool × Bool :=
  let b := formatBits (s.ingF g Reg.ING_CFG_FORMAT)
  let np := Nat.max 1 (s.ingF g Reg.ING_CFG_PLANES)
  let wd := wide (s.ingF g Reg.ING_STREAM_WIDTH)
  let width := (pk.map (fun p => p.width)).headD 64
  let w := gatherWords pk
  let need := ceilDiv (b * np * wd) width
  let bits := width * w.1.length
  let got := Nat.min (np * wd) (bits / b)
  let smp := unpack b got (w.1.take need) width
  let bad := poisonedSamples b got width w.2
  let planar := s.ingF g Reg.ING_LINE_ORDER = 1 ∧ np ≠ 1
  let at_ := fun (p i : Nat) => if planar then p * wd + i else np * i + p
  let have_ := fun (p : Nat) => if planar then Nat.min wd (got - p * wd) else got / np
  let top := 2 ^ b - 1
  let pad := satN top (s.ingF g Reg.ING_LINE_PAD_VALUE)
  let plane := fun (p : Nat) =>
    let n := have_ p
    let fill := if s.ingF g Reg.ING_LINE_PAD_MODE = 1 ∧ 0 < n then smp.getD (at_ p (n - 1)) 0 else pad
    (List.range wd).map (fun i => (((if i < n then smp.getD (at_ p i) 0 else fill) : Nat) : Int))
  let badIn := fun (p : Nat) => (List.range (have_ p)).filter (fun i => bad.contains (at_ p i))
  ((List.range np).map plane, (List.range np).map badIn, decide (bits < b * np * wd), decide (need < w.1.length))

/-- A flag as a bit of the tag's FLAGS. -/
def flagBit (n : Nat) (p : Bool) : Nat := if p then 2 ^ n else 0

/-- A line enters the chain and the taps of the ING output (R26, R40). -/
def State.lineOut (s : State) (g : Nat) (l : Line) (bad : Bool) : State :=
  let h := s.hop g .ING
  let s1 := s.pass g h (.line l) bad
  let s2 := if s1.rf (s1.eng .STA g) Reg.STA_CFG_TAP = 0 then s1.staTap g h (.line l) else s1
  s2.archiveTap g (.line l)

/-- ING_LINE_END: the open line of carriage g ends at its last packet, or at the first packet of the next line; a short line is padded, a
long one cut, and the accepted line enters the chain (R122, R124 to R126). -/
def execIngLineEnd (g : Nat) (s : State) : Host.Outcome State Fault Refusal :=
  .next (match (s.ingOf g).cur with
    | none => s
    | some o =>
      let done := match o.packets.getLast? with
        | some p => p.ending
        | none => false
      let r := if done then ([], true, (s.ingOf g).rx) else linePackets (s.ingOf g).rx
      let pk := o.packets ++ r.1
      if !r.2.1 then s.ingMod g (fun i => { i with cur := some { o with packets := pk }, rx := r.2.2 })
      else
        let i := s.ingOf g
        let b := s.ingF g Reg.ING_BLOCK_BLOCK_LINES
        let marked := if s.ingF g Reg.ING_CFG_PROTOCOL = 1 then pk.any (fun p => p.ending && p.blockEnd)
          else decide (i.announced ≠ 0) && decide (i.imageLine = i.announced)
        let imgShort := marked && decide (b ≠ 0) && decide (i.imageLine < b)
        let imgLong := decide (b ≠ 0) && decide (b < i.imageLine)
        let s1 := (s.ingMod g (fun j => { j with
          cur := none, rx := r.2.2, imageOpen := j.imageOpen && !marked
          imageLine := if marked && s.ingF g Reg.ING_CFG_PROTOCOL = 1 then 0 else j.imageLine })).wf (s.ingWin g) Reg.ING_STATUS_LINE_OPEN 0
        let s2 := if imgShort then (s1.ingCount g 6).ingEv g Reg.ING_EVENT_IMAGE_LEN
          else if imgLong then (s1.ingCount g 7).ingEv g Reg.ING_EVENT_IMAGE_LEN else s1
        match o.trig, i.trigs.find? (fun t => o.trig == some t.n) with
        | some n, some t =>
          let x := s2.parseLine g pk
          let poison := pk.any (fun p => !p.poison.isEmpty)
          let s3 := if x.2.2.1 then (s2.ingCount g 4).ingEv g Reg.ING_EVENT_SHORT else s2
          let s4 := if x.2.2.2 then (s3.ingCount g 5).ingEv g Reg.ING_EVENT_LONG else s3
          let s5 := if poison then (s4.ingCount g 9).ingEv g Reg.ING_EVENT_POISON else s4
          let s6 := (s5.epochTo g n).gapSend g
          let j := s6.ingOf g
          let flags := flagBit 0 x.2.2.1 + flagBit 1 x.2.2.2 + flagBit 2 imgShort + flagBit 3 imgLong + flagBit 4 poison +
            flagBit 5 j.gapBefore + flagBit 6 j.epochFirst + flagBit 7 (s6.ingF g Reg.ING_EPOCH_UNCONFIRMED == 1) +
            flagBit 8 t.unsure + flagBit 9 (s6.unlockedAt t.time) + flagBit 13 s6.standby
          let l : Line := ⟨⟨t.md, t.time, n, s6.ingF g Reg.ING_EPOCH_EPOCH, o.camLine, flags⟩, 0, s6.ingF g Reg.ING_LINE_RB_ORDER,
            x.1, x.2.1, false, false, [], [t.offset]⟩
          let s7 := (s6.ingMod g (fun q => { q with
            gapBefore := false, epochFirst := false, tagged := some (t.md, t.time), trigs := q.trigs.filter (fun y => y.n != n) })).ingIndex g Reg.ING_LINE_INDEX_LO_INDEX n
          (s7.lineOut g l poison).settle g
        | _, _ => s2)

/-! ### Camera settings (R130 to R133) -/

/-- The carriages of carriage g's connection, which share one control transaction (R135). -/
def State.sharers (s : State) (g : Nat) : List Nat :=
  match s.carr g with
  | some r => s.carsOfConn r.conn
  | none => [g]

/-- The payload of a Voxhus control request (R135): its first word, and the write data, two words of 4 bytes in each. -/
def requestWords (op tag addr size : Nat) (data : List Nat) : List Nat :=
  (op + 256 * tag + 65536 * size + 2 ^ 32 * addr) ::
    (List.range (ceilDiv data.length 2)).map (fun k => data.getD (2 * k) 0 + 2 ^ 32 * data.getD (2 * k + 1) 0)

/-- A control request leaves with the next TAG (R130, R135): a CXP control packet by its OP, TAG, SIZE, address and data, or a Voxhus packet. -/
def State.request (s : State) (g op addr size : Nat) (data : List Nat) : State :=
  let tag := ((s.ingOf g).tag + 1) % 256
  let s1 := s.ingMod g (fun j => { j with tag := tag, wireSince := s.now })
  if s.ingF g Reg.ING_CFG_PROTOCOL = 1 then
    let c := ((s.carr g).map (fun r => r.conn)).getD 0xFF
    s1.voxSend c ⟨s.controlVc c, 0x10, requestWords op tag addr size data⟩
  else s1.emitLive (if op = 2 then .cameraWrite else .cameraRead) g ([op, tag, size, addr] ++ data)

/-- Whether PROTECT covers a write of n words at an address (R133). -/
def State.tunProtected (s : State) (g a n : Nat) : Bool :=
  (List.range 4).any (fun k => (s.ingF g Reg.ING_CAMSET_CTL_PROTECT).testBit k &&
    decide (a ≤ s.ingF g (Reg.ING_CAMSET_ADDR_ADDR.sh (4 * k))) && decide (s.ingF g (Reg.ING_CAMSET_ADDR_ADDR.sh (4 * k)) < a + 4 * n))

/-- A tunnel write that PROTECT forbids ends with nothing sent (R133). -/
def State.tunForbid (s : State) (g : Nat) : State :=
  let w := s.ingWin g
  (((((s.ingMod g (fun j => { j with tunWait := false })).wf w Reg.ING_TUN_STATUS_BUSY 0).wf w Reg.ING_STATUS_TUN_BUSY 0).wf w
    Reg.ING_TUN_STATUS_PROTECTED 1).ingEv g Reg.ING_EVENT_TUN_DONE)

/-- The next request of a connection with no control transaction outstanding (R135): a settings write, else a tunnel request, of its lowest
carriage that has one (log 73). -/
def State.wireNext (s : State) (l : List Nat) : State :=
  if l.any (fun x => (s.ingOf x).wire != 0) then s
  else
    match l.find? (fun x => (s.ingOf x).camLeft != []) with
    | some x =>
      let v := (s.ingOf x).camLeft.headD (0, 0)
      (s.ingMod x (fun j => { j with wire := 1 })).request x 2 v.1 4 [v.2]
    | none =>
      match l.find? (fun x => (s.ingOf x).tunWait) with
      | some x =>
        let r := (s.ingOf x).tun
        (s.ingMod x (fun j => { j with wire := 2, tunWait := false })).request x (if r.write then 2 else 1) r.addr (4 * r.words) r.data
      | none => s

/-- Send the next settings write, or let a waiting tunnel request go, when the connection has no control transaction outstanding (R135); a
waiting write that has become protected ends first (R133). -/
def State.wireGo (s : State) (g : Nat) : State :=
  let l := s.sharers g
  (l.foldl (fun t x =>
    let r := (t.ingOf x).tun
    if (t.ingOf x).tunWait && r.write && t.tunProtected x r.addr r.words then t.tunForbid x else t) s).wireNext l

/-- A settings change ends: the epoch follows (R131, R132). -/
def State.camEnds (s : State) (g : Nat) (good : Bool) : State :=
  let w := s.ingWin g
  let s1 := ((s.ingMod g (fun j => { j with camLeft := [] })).wf w Reg.ING_CAMSET_STATUS_BUSY 0).wf w Reg.ING_STATUS_CAMSET_BUSY 0
  let s2 := if good then (s1.wf w Reg.ING_CAMSET_STATUS_DONE 1).ingEv g Reg.ING_EVENT_CAMSET_DONE else s1.wf w Reg.ING_CAMSET_STATUS_ERR 1
  (s2.epochPend g (!good)).wireGo g

/-- Launch a settings change (R130): refused while one runs, with COUNT above 4, and on the standby of a pair (R456). -/
def State.actCamset (s : State) (g : Nat) : State :=
  let w := s.ingWin g
  let n := s.rf w Reg.ING_CAMSET_CTL_COUNT
  if s.rf w Reg.ING_CAMSET_STATUS_BUSY = 1 ∨ 4 < n ∨ s.standby then s.wf w Reg.ING_CAMSET_STATUS_REFUSED 1
  else if n = 0 then s.camEnds g true
  else
    let l := (List.range n).map (fun k => (s.rf w (Reg.ING_CAMSET_ADDR_ADDR.sh (4 * k)), s.rf w (Reg.ING_CAMSET_VAL_VALUE.sh (4 * k))))
    (((s.wf w Reg.ING_CAMSET_STATUS_BUSY 1).wf w Reg.ING_STATUS_CAMSET_BUSY 1).ingMod g (fun j => { j with camLeft := l, camIdx := 0 })).wireGo g

/-- CAMSET_LAUNCH: ING_CAMSET_CTL.GO of carriage g's parser (R130). -/
def execCamsetLaunch (m : Nat) (w : Word) (g : Nat) (s : State) : Host.Outcome State Fault Refusal :=
  .next (s.regAct m (s.ingWin g) Reg.ING_CAMSET_CTL_GO w (fun t => t.actCamset g))

/-- A settings write fails (R132). -/
def State.camFails (s : State) (g status : Nat) (timedOut : Bool) : State :=
  let w := s.ingWin g
  let s1 := (((s.wf w Reg.ING_CAMSET_STATUS_FAILED_WRITE (s.ingOf g).camIdx).wf w Reg.ING_CAMSET_STATUS_TIMED_OUT (b2n timedOut)).wf w
    Reg.ING_CAMSET_STATUS_CAM_STATUS status).ingMod g (fun j => { j with wire := 0 })
  s1.camEnds g false

/-- The camera acknowledges a settings write (R130, R131, R132). -/
def State.camAck (s : State) (g status : Nat) : State :=
  if status ≠ 0 then s.camFails g status false
  else
    let s1 := s.ingMod g (fun j => { j with wire := 0, camLeft := j.camLeft.drop 1, camIdx := j.camIdx + 1 })
    if (s1.ingOf g).camLeft = [] then s1.camEnds g true else s1.wireGo g

/-- CAMSET_ACK: the camera of carriage g acknowledges a settings write with a status, 0 for success (R131, R132). -/
def execCamsetAck (g status : Nat) (s : State) : Host.Outcome State Fault Refusal :=
  .next (if (s.ingOf g).wire = 1 ∧ !s.standby then s.camAck g status else s)

/-- CAMSET_TIMEOUT: no acknowledgement came within TIMEOUT_MS (R132). -/
def execCamsetTimeout (g : Nat) (s : State) : Host.Outcome State Fault Refusal :=
  .next (if (s.ingOf g).wire = 1 ∧ (s.ingOf g).wireSince + 1000000 * s.ingF g Reg.ING_CAMSET_CTL_TIMEOUT_MS ≤ s.now then s.camFails g 0 true
    else s)

/-! ### The control tunnel and camera events (R134 to R136) -/

/-- Start a tunnel transaction on what its registers hold now (R134): refused while one runs and on the standby, and for a protected address.
WORDS 0 counts as 1, 17 and more as 16 (log 74). -/
def State.actTunnel (s : State) (g : Nat) : State :=
  let w := s.ingWin g
  let n := Nat.max 1 (satN 16 (s.rf w Reg.ING_TUN_CTL_WORDS))
  let write := s.rf w Reg.ING_TUN_CTL_WRITE == 1
  let r : TunReq := ⟨write, s.rf w Reg.ING_TUN_ADDR_ADDR, n,
    if write then (List.range n).map (fun k => s.rf w (Reg.ING_TUN_DATA_DATA.sh (4 * k))) else []⟩
  if s.rf w Reg.ING_TUN_STATUS_BUSY = 1 ∨ s.standby then s.wf w Reg.ING_TUN_STATUS_REFUSED 1
  else if write && s.tunProtected g r.addr n then s.tunForbid g
  else
    (((s.wf w Reg.ING_TUN_STATUS_BUSY 1).wf w Reg.ING_STATUS_TUN_BUSY 1).ingMod g (fun j => { j with tunWait := true, tun := r })).wireGo g

/-- TUNNEL_GO: ING_TUN_CTL.GO of carriage g's parser (R134). -/
def execTunnelGo (m : Nat) (w : Word) (g : Nat) (s : State) : Host.Outcome State Fault Refusal :=
  .next (s.regAct m (s.ingWin g) Reg.ING_TUN_CTL_GO w (fun t => t.actTunnel g))

/-- A tunnel transaction ends with a status bit set. -/
def State.tunEnds (s : State) (g : Nat) (f : Fld) : State :=
  let w := s.ingWin g
  ((((((s.ingMod g (fun j => { j with wire := 0 })).wf w Reg.ING_TUN_STATUS_BUSY 0).wf w Reg.ING_STATUS_TUN_BUSY 0).wf w f 1).ingEv g
    Reg.ING_EVENT_TUN_DONE)).wireGo g

/-- The camera answers a tunnel transaction (R134, R135). -/
def State.tunAnswer (s : State) (g status : Nat) (data : List Word) : State :=
  let w := s.ingWin g
  let s1 := s.wf w Reg.ING_TUN_STATUS_CAM_STATUS status
  if status ≠ 0 then s1.tunEnds g Reg.ING_TUN_STATUS_ERR
  else
    let s2 := if (s.ingOf g).tun.write then s1
      else (List.range (s.ingOf g).tun.words).foldl (fun t k => t.wf w (Reg.ING_TUN_DATA_DATA.sh (4 * k)) (data.getD k 0).toNat) s1
    s2.tunEnds g Reg.ING_TUN_STATUS_DONE

/-- TUNNEL_RESPONSE: the camera's response with its status and data (R135). -/
def execTunnelResponse (g status : Nat) (data : List Word) (s : State) : Host.Outcome State Fault Refusal :=
  .next (if (s.ingOf g).wire = 2 ∧ !s.standby then s.tunAnswer g status data else s)

/-- TUNNEL_TIMEOUT: no response came within TIMEOUT_MS (R134). -/
def execTunnelTimeout (g : Nat) (s : State) : Host.Outcome State Fault Refusal :=
  .next (if (s.ingOf g).wire = 2 ∧ (s.ingOf g).wireSince + 1000000 * s.ingF g Reg.ING_TUN_CTL_TIMEOUT_MS ≤ s.now then
      s.tunEnds g Reg.ING_TUN_STATUS_TIMEOUT
    else s)

/-- A control response with a TAG, for whichever transaction is outstanding; one with another TAG answers none (R135). -/
def State.controlResponse (s : State) (g tag status : Nat) (data : List Word) : State :=
  if s.standby ∨ tag ≠ (s.ingOf g).tag then s
  else if (s.ingOf g).wire = 1 then s.camAck g status
  else if (s.ingOf g).wire = 2 then s.tunAnswer g status data
  else s

/-- CXP_CONTROL_RESPONSE: a CXP control acknowledgement with its tag, status and data (R135). -/
def execCxpControlResponse (g tag status : Nat) (data : List Word) (s : State) : Host.Outcome State Fault Refusal :=
  .next (if s.ingF g Reg.ING_CFG_PROTOCOL = 0 then s.controlResponse g tag status data else s)

/-- Show the head of the event queue (R136). -/
def State.evtShow (s : State) (g : Nat) : State :=
  let w := s.ingWin g
  let q := (s.ingOf g).events
  let h := q.headD []
  let s1 := (s.wf w Reg.ING_EVT_STATUS_COUNT q.length).wf w Reg.ING_EVT_STATUS_BYTES h.length
  (List.range 16).foldl (fun t k => t.wf w (Reg.ING_EVT_DATA_DATA.sh (4 * k)) (leAt h (4 * k) 4)) s1

/-- A camera event enters the queue of 16, or is discarded (R136). -/
def State.cameraEvent (s : State) (g : Nat) (l : List Byte) : State :=
  if 16 ≤ (s.ingOf g).events.length then s.wf (s.ingWin g) Reg.ING_EVT_STATUS_OVERFLOW 1
  else ((s.ingMod g (fun i => { i with events := i.events ++ [l.take 64] })).evtShow g).ingEv g Reg.ING_EVENT_EVT

/-- CXP_EVENT_PACKET: a CXP event packet for carriage g's parser (R136). -/
def execCxpEventPacket (g : Nat) (l : List Byte) (s : State) : Host.Outcome State Fault Refusal :=
  .next (if s.hasEng .ING g ∧ s.ingF g Reg.ING_CFG_PROTOCOL = 0 then s.cameraEvent g l else s)

/-- CAMERA_EVENT_RECEIVE: a Voxhus camera event packet for carriage g's parser (R136). -/
def execCameraEventReceive (g : Nat) (l : List Byte) (s : State) : Host.Outcome State Fault Refusal :=
  .next (if s.hasEng .ING g ∧ s.ingF g Reg.ING_CFG_PROTOCOL = 1 then s.cameraEvent g l else s)

/-- Remove the head event. -/
def State.actEvtPop (s : State) (g : Nat) : State := (s.ingMod g (fun i => { i with events := i.events.drop 1 })).evtShow g

/-- CAMERA_EVENT_POP: ING_EVT_STATUS.POP of carriage g's parser (R136). -/
def execCameraEventPop (m : Nat) (w : Word) (g : Nat) (s : State) : Host.Outcome State Fault Refusal :=
  .next (s.regAct m (s.ingWin g) Reg.ING_EVT_STATUS_POP w (fun t => t.actEvtPop g))

end Sys2Proof.Machine
end

