-- ==== Sys2Proof/Machine/Sta.lean ====
section
/-! DEFINITION. The statistics units (R137 to R142). Rows about an STA name a carriage. -/

namespace Sys2Proof.Machine

/-- The statistics unit of carriage g. -/
def State.staOf (s : State) (g : Nat) : Sta := cgetD s.sta g Sta.fresh

/-- Change the statistics unit of carriage g. -/
def State.staMod (s : State) (g : Nat) (f : Sta → Sta) : State := { s with sta := cset s.sta g (f (s.staOf g)) }

/-- Show the open block. -/
def State.staShow (s : State) (g : Nat) : State :=
  let w := s.eng .STA g
  match (s.staOf g).block with
  | some b => (s.wf w Reg.STA_STATUS_OPEN 1).wf w Reg.STA_STATUS_LINES (satN 65535 b.spanned)
  | none => (s.wf w Reg.STA_STATUS_OPEN 0).wf w Reg.STA_STATUS_LINES 0

/-- The bytes of a slot: header, histograms, zones, padding (R142). -/
def State.staBytes (s : State) (g : Nat) (b : StaBlock) (short incomplete : Bool) : List Byte :=
  let w := s.eng .STA g
  let u := s.staOf g
  let zones := s.rf w Reg.STA_CTL_ZONES
  let flags := b2n short + 2 * b2n incomplete + 4 * b2n b.unconfirmed + 8 * s.rf w Reg.STA_CFG_TAP + 16 * b2n b.poisoned
  let head := toBytes 4 u.number ++ toBytes 1 g ++ toBytes 1 (s.rf w Reg.STA_CFG_PLANES) ++
    toBytes 1 (if s.rb w Reg.STA_CTL_BINS then 12 else 8) ++ toBytes 1 zones ++ toBytes 2 b.epoch ++ toBytes 2 flags ++
    toBytes 2 (s.rf w Reg.STA_ZONE_WIDTH) ++ toBytes 2 (s.rf w Reg.STA_ZONE_FIRST) ++ toBytes 6 b.first ++
    toBytes 2 (satN 65535 u.dropped) ++ toBytes 4 b.spanned ++ toBytes 4 b.counted ++ toBytes 8 (unsgn 64 b.mdStart) ++
    toBytes 8 (unsgn 64 b.mdEnd) ++ toBytes 8 (unsgn 64 b.timeStart) ++ toBytes 1 (s.rf w Reg.STA_CFG_SAMPLE_BITS) ++ toBytes 7 0
  let hist := b.bins.flatMap (fun p => p.flatMap (fun n => toBytes 4 n))
  let zone := b.zones.flatMap (fun z => z.flatMap (fun e => toBytes 6 e.1 ++ toBytes 2 (satN 65535 e.2)))
  let l := head ++ hist ++ zone
  l ++ List.replicate (s.staSlot w - l.length) 0

/-- Close the open block: written into the ring, or dropped where the ring is full (R142). The next one begins behind it. -/
def State.staClose (s : State) (g : Nat) (short : Bool) : State :=
  match (s.staOf g).block with
  | none => s
  | some b =>
    let w := s.eng .STA g
    let u := s.staOf g
    let incomplete := u.lost.any (fun n => decide (b.first ≤ n) && decide (n < b.first + b.spanned))
    let slots := s.rf w Reg.STA_RING_SLOTS_SLOTS
    let wr := s.rf w Reg.STA_RING_WRITE_SLOT
    let full := slots = 0 ∨ (wr + 1) % slots = s.rf w Reg.STA_RING_READ_SLOT
    let s1 := (s.evIf short w Reg.STA_EVENT_SHORT).evIf incomplete w Reg.STA_EVENT_INCOMPLETE
    let s2 := if full then ((s1.inc w Reg.STA_DROPPED_COUNT).staMod g (fun x => { x with dropped := x.dropped + 1 })).ev w Reg.STA_EVENT_DROPPED
      else
        let base := 64 * s1.rf w Reg.STA_RING_BASE_LO_ADDR + 2 ^ 32 * s1.rf w Reg.STA_RING_BASE_HI_ADDR
        let t := s1.dramWrite 0 (base + wr * s1.staSlot w) (s1.staBytes g b short incomplete) false
        ((t.wf w Reg.STA_RING_WRITE_SLOT ((wr + 1) % slots)).staMod g (fun x => { x with dropped := 0 })).ev w Reg.STA_EVENT_CLOSED
    ((s2.inc w Reg.STA_BLOCKS_COUNT).staMod g (fun x => { x with
      block := none, number := x.number + 1, next := b.first + b.spanned
      lost := x.lost.filter (fun n => decide (b.first + b.spanned ≤ n))
      marks := x.marks.filter (fun e => decide (b.first + b.spanned ≤ e.1)) })).staShow g

/-- Open a block at a line, with what its header says of that line; nothing is summed. -/
def State.staOpen (s : State) (g first : Nat) (md time : Int) (epoch : Nat) (unconfirmed : Bool) : State :=
  let w := s.eng .STA g
  let np := s.rf w Reg.STA_CFG_PLANES
  let bins := List.replicate np (List.replicate (if s.rb w Reg.STA_CTL_BINS then 4096 else 256) 0)
  let zones := List.replicate (s.rf w Reg.STA_CTL_ZONES) (List.replicate np (0, 0))
  s.staMod g (fun x => { x with block := some ⟨first, 0, 0, md, md, time, epoch, unconfirmed, false, bins, zones⟩ })

/-- MD_n and t_n of a number (R117); open where no trigger of this part gave them, as on a replay carriage (log 31). -/
def State.staPos (s : State) (g n : Nat) : (Int × Int) × State :=
  match (s.staOf g).marks.find? (fun e => e.1 == n) with
  | some e => (e.2, s)
  | none => ((sgn 64 (s.freeVal 64), sgn 64 (s.drawn.freeVal 64)), s.drawn.drawn)

/-- The epoch of a number and whether it is unconfirmed, by the epochs that have begun. -/
def State.staEpoch (s : State) (g n : Nat) : Nat × Bool :=
  let l := (s.ingOf g).starts
  match l.find? (fun e => decide (e.2.1 ≤ n)), l.getLast? with
  | some e, _ => (e.1, e.2.2)
  | none, some e => ((e.1 + 65535) % 65536, false)
  | none, none => (s.ingF g Reg.ING_EPOCH_EPOCH, s.ingF g Reg.ING_EPOCH_UNCONFIRMED == 1)

/-- Span the lines from the block's end up to line n, closing each block that fills (R140, R141). A block that opens takes the epoch given, or
that of its first line. -/
def State.staSpan : Nat → Nat → Nat → Option (Nat × Bool) → State → State
  | 0, _, _, _, s => s
  | k + 1, g, n, ep, s =>
    let len := s.rf (s.eng .STA g) Reg.STA_BLOCK_BLOCK_LINES
    match (s.staOf g).block with
    | none =>
      let f := (s.staOf g).next
      if n < f then s
      else
        let p := s.staPos g f
        let e := ep.getD (s.staEpoch g f)
        State.staSpan k g n ep (p.2.staOpen g f p.1.1 p.1.2 e.1 e.2)
    | some b =>
      if n < b.first + b.spanned then s
      else if n < b.first + len then
        let p := s.staPos g n
        p.2.staMod g (fun x => { x with block := some { b with spanned := n + 1 - b.first, mdEnd := p.1.1 } })
      else if b.spanned = len then State.staSpan k g n ep (s.staClose g false)
      else
        let p := s.staPos g (b.first + len - 1)
        State.staSpan k g n ep ((p.2.staMod g (fun x => { x with block := some { b with spanned := len, mdEnd := p.1.1 } })).staClose g false)

/-- End the open block before line n, early (R140); later blocks begin at n. -/
def State.staCut (s : State) (g n : Nat) : State :=
  match (s.staOf g).block with
  | none => s.staMod g (fun x => { x with next := Nat.max n x.next })
  | some b =>
    if n ≤ b.first then s
    else
      let len := s.rf (s.eng .STA g) Reg.STA_BLOCK_BLOCK_LINES
      let m := Nat.min n (b.first + len)
      let p := s.staPos g (m - 1)
      let s1 := if m = b.first + b.spanned then s
        else p.2.staMod g (fun x => { x with block := some { b with spanned := m - b.first, mdEnd := p.1.1 } })
      (s1.staClose g (decide (m < b.first + len))).staMod g (fun x => { x with next := n })

/-- Span the lines before n, with a block's end before every line at which an epoch begins, n among them (R140). A block is cut before its
T + L whether or not that line comes (log 78). -/
def State.staTo (s : State) (g n : Nat) (ep : Option (Nat × Bool)) : State :=
  let at_ := ((s.ingOf g).starts.filter (fun e => decide (e.2.1 ≤ n))).reverse
  let s1 := at_.foldl (fun t e =>
    let first := match (t.staOf g).block with
      | some b => b.first
      | none => (t.staOf g).next
    if first < e.2.1 then (State.staSpan (e.2.1 + 1) g (e.2.1 - 1) none t).staCut g e.2.1 else t) s
  State.staSpan (n + 2) g n ep s1

/-- Add a sample to a plane's histogram and zone (R138, R139). -/
def State.staAdd (s : State) (w : Nat) (p col v : Nat) (b : StaBlock) : StaBlock :=
  let bits := s.rf w Reg.STA_CFG_SAMPLE_BITS
  let k := if s.rb w Reg.STA_CTL_BINS then 12 else 8
  let bin := if k ≤ bits then v / 2 ^ (bits - k) else v * 2 ^ (k - bits)
  let first := s.rf w Reg.STA_ZONE_FIRST
  let width := s.rf w Reg.STA_ZONE_WIDTH
  let b1 := { b with bins := lmod b.bins p (fun h => lmod h bin (fun n => n + 1)) }
  if width = 0 ∨ col < first then b1
  else { b1 with zones := lmod b1.zones ((col - first) / width) (fun z => lmod z p (fun e => (e.1 + v, e.2 + b2n (v == 2 ^ bits - 1)))) }

/-- The reported planes of a line, as columns and values: a bilinear line's plane 1 splits by parity into red and blue (R137). -/
def staPlanes (np : Nat) (l : Line) : List (List (Nat × Nat)) :=
  let cells := fun (p : List Int) => (List.range p.length).zip (p.map Int.toNat)
  if np = 3 ∧ l.planes.length = 2 then
    let rb := cells (l.planes.getD 1 [])
    let red := rb.filter (fun c => c.1 % 2 == l.rb)
    let blue := rb.filter (fun c => c.1 % 2 != l.rb)
    [red, cells (l.planes.getD 0 []), blue]
  else l.planes.map cells

/-- Take a line's samples in (R141). -/
def State.staSum (s : State) (g : Nat) (l : Line) : State :=
  let w := s.eng .STA g
  s.staMod g (fun x => { x with block := x.block.map (fun (b : StaBlock) =>
    if l.tag.flags.testBit 4 then ({ b with poisoned := true } : StaBlock)
    else
      let ps := staPlanes (s.rf w Reg.STA_CFG_PLANES) l
      let c := (List.range ps.length).foldl (fun a p => (ps.getD p []).foldl (fun a2 e => s.staAdd w p e.1 e.2 a2) a) b
      ({ c with counted := c.counted + 1 } : StaBlock)) })

/-- The first line of an epoch. -/
def State.epochStart (s : State) (g epoch n : Nat) : Nat :=
  match (s.ingOf g).starts.find? (fun e => e.1 == epoch) with
  | some e => e.2.1
  | none => n

/-- Commits and table changes that reach the unit at line n cut its block before it (R140, R408). -/
def State.staApply (s : State) (g n : Nat) (md : Int) : State :=
  let w := s.eng .STA g
  let due := fun (a : Armed) => if s.rf w Reg.STA_CFG_TAP = 0 then (match a.line with
      | some l => decide (l ≤ n)
      | none => false) else a.at_ md
  let t := s.armedTake g due (s.ofEng g .STA)
  let changed := [0x04, 0x08, 0x0C].any (fun o => s.word .STA w o != t.word .STA w o)
  let tables : Bool := match (s.staOf g).cut with
    | some c => decide (c ≤ n)
    | none => false
  if changed ∨ tables then
    let u := (s.staCut g n).armedTake g due (s.ofEng g .STA)
    u.staMod g (fun x => { x with cut := none })
  else t

/-- STA_LINE: the unit of carriage g takes the next line or gap marker of its tap: lines of a marker are spanned and not counted (R141). -/
def execStaLine (g : Nat) (s : State) : Host.Outcome State Fault Refusal :=
  .next (let w := s.eng .STA g
    let src := s.hop g (if s.rf w Reg.STA_CFG_TAP = 0 then .ING else .TRU)
    match s.link g src (s.hop g .STA) with
    | none => s
    | some k =>
      match s.mewHead k with
      | some (.line l) =>
        let n := l.tag.index
        let s1 := (s.mewPop k).staApply g n l.tag.md
        if s1.rf w Reg.STA_CTL_ENABLE = 0 then s1.staMod g (fun x => { x with next := n + 1, marks := [] })
        else
          let s2 := s1.staMark g n l.tag.md l.tag.time
          let other := (s2.ingOf g).starts == [] && (match (s2.staOf g).block with
            | some b => b.epoch != l.tag.epoch
            | none => false)
          let s3 := (if other then s2.staCut g n else s2).staTo g n (some (l.tag.epoch, l.tag.flags.testBit 7))
          (s3.staSum g l).staShow g
      | some (.gap m) =>
        let s1 := s.mewPop k
        if s1.rf w Reg.STA_CTL_ENABLE = 0 then s1.staMod g (fun x => { x with next := m.last + 1, marks := [] })
        else (((s1.staMark g m.first m.md0 m.time0).staMark g m.last m.md1 m.time1).staTo g m.last none).staShow g
      | _ => s)

/-- STA_BLOCK_CLOSE: the open block of carriage g that spans its BLOCK_LINES closes (R140, R142). An early close happens with the line or
the event that ends the block. -/
def execStaBlockClose (g : Nat) (s : State) : Host.Outcome State Fault Refusal :=
  .next (match (s.staOf g).block with
    | none => s
    | some b => if b.spanned = s.rf (s.eng .STA g) Reg.STA_BLOCK_BLOCK_LINES then s.staClose g false else s)

end Sys2Proof.Machine
end

