-- ==== Sys2Proof/Machine/Lines.lean ====
section
/-! DEFINITION. What the line engines share: mirrored columns (R174), medians, planes of the three colours (R191), and the gap that
a flush mark leaves (R333). -/

namespace Sys2Proof.Machine

/-- The column that stands for column k of a line of w columns, mirrored about the end columns (R174). -/
def mirror (w : Nat) (k : Int) : Nat :=
  let a : Int := if k < 0 then -k else k
  let b : Int := if a < w then a else 2 * ((w : Int) - 1) - a
  (clampI 0 ((w : Int) - 1) b).toNat

/-- The sample at a column, mirrored beyond the ends. -/
def sampleAt (l : List Int) (k : Int) : Int := l.getD (mirror l.length k) 0

/-- A place mirrored about 0 and about `last`, as often as it takes (R197, R216). -/
def reflect (last i : Int) : Int :=
  if last ≤ 0 then 0
  else
    let j := Int.emod i (2 * last)
    if j ≤ last then j else 2 * last - j

/-- Insert into a rising list of integers. -/
def insInt (x : Int) : List Int → List Int
  | [] => [x]
  | y :: t => if x ≤ y then x :: y :: t else y :: insInt x t

/-- The median of an odd number of values; it picks an existing one. -/
def medianOf (l : List Int) : Int := (l.foldl (fun a x => insInt x a) []).getD (l.length / 2) 0

/-- The samples of every second column, starting at a parity. -/
def everySecond (parity : Nat) (l : List Int) : List Int :=
  (List.range ((l.length + 1 - parity) / 2)).map (fun i => l.getD (2 * i + parity) 0)

/-- A marker that stands for no grid line, before grid line k. -/
def Gap.noneFrom (m : Gap) (k : Nat) : Gap := { m with from_ := Nat.max 1 k, til := Nat.max 1 k - 1 }

/-- Whether a marker is a hole in the lines: it is not bridged, and a change of MD shift has left lines out (R197, R224). -/
def Gap.isHole (m : Gap) : Bool := !m.bridged && (m.cause != 0x10 || decide (m.from_ ≤ m.til))

/-- The causes of end marks, which end a stretch where the part itself stops its carriages and are never recorded: before a sleep, a full load,
a patch. -/
def sleepEnd : Nat := 0x118
def loadEnd : Nat := 0x105
def patchEnd : Nat := 0x205

/-- Whether a marker is an end mark. -/
def Gap.isEnd (m : Gap) : Bool := decide (0x100 ≤ m.cause)

/-- The gap marker that an engine forms for a flush mark, before its grid lines are known (R333). -/
def flushGap (before : Option Tag) (after : Tag) : Gap :=
  let a := before.getD after
  ⟨0x17, a.index + 1, after.index - 1, a.md + 1, after.md - 1, a.time, after.time, 0, false, false, 1, 0⟩

/-- A line with GAP_BEFORE set. -/
def Line.afterGap (l : Line) : Line := { l with tag := { l.tag with flags := l.tag.flags ||| 32 } }

/-! ### The taps of the Coupler output (R26) -/

/-- Offer something to the preview of carriage g, which taps behind h. -/
def State.previewTap (s : State) (g : Nat) (h : Hop) (it : Item) : State :=
  if (((s.carr g).map CarrRec.taps).getD 0).testBit 3 then
    (List.range 2).foldl (fun t n => (t.tapPush g h ⟨.PVW, unitOf (g / 6) n, 0⟩ it).1) s
  else s

/-- A line reaches the history and the preview: owned columns go into the history, the whole line to the scalers. -/
def State.couplerTaps (s : State) (g : Nat) (h : Hop) (l : Line) : State :=
  let s1 : State := match s.carr g with
    | some r =>
      if r.taps.testBit 2 then
        let own := fun (p : List Int) => (p.drop r.ovlLow).take r.owned
        let x : HistLine := ⟨l.grid, l.tag.md, l.planes.map own,
          l.poison.map (fun p => (p.filter (fun c => decide (r.ovlLow ≤ c) && decide (c < r.ovlLow + r.owned))).map (fun c => c - r.ovlLow))⟩
        { s with hist := cset s.hist g (x :: (cgetD s.hist g []).filter (fun y => decide (l.grid < y.grid + 2 * r.history))) }
      else s
    | none => s
  s1.previewTap g h (.line l)

/-- Something leaves Regauge or a seam unit at place h: what goes to Springs passes the Coupler output and its taps. -/
def State.coupled (s : State) (g : Nat) (h : Hop) (it : Item) : State :=
  let s1 := s.pass g h it false
  if afterFirst (fun x => x == h) (s.chain g) = some (s.hop g .SPR) then
    match it with
    | .line l => s1.couplerTaps g h l
    | .gap m => if m.isEnd then s1 else s1.previewTap g h (.gap m)
    | _ => s1
  else s1

end Sys2Proof.Machine
end

