-- ==== Sys2Proof/Machine/Cpl.lean ====
section
/-! DEFINITION. Seam units of the Coupler (R201 to R211): pairing, blending, the seam path, live registration. A unit is named by its low
carriage. -/

namespace Sys2Proof.Machine

/-- An empty side. -/
def SeamSide.fresh : SeamSide := ⟨[], none, none, none, false⟩

/-- An empty registration window, opened in a SEAM run or outside one. -/
def RegWindow.fresh (inRun : Bool) : RegWindow := ⟨0, 0, 0, 0, 0, 0, 0, List.replicate 17 0, inRun⟩

/-- A seam unit at its start. -/
def Seam.fresh : Seam := ⟨SeamSide.fresh, SeamSide.fresh, none, [], none, 0, RegWindow.fresh false, [], [], none⟩

/-- The seam unit of low carriage g. -/
def State.seamOf (s : State) (g : Nat) : Seam := cgetD s.seam g Seam.fresh

/-- Change a seam unit. -/
def State.seamMod (s : State) (g : Nat) (f : Seam → Seam) : State := { s with seam := cmod s.seam g Seam.fresh f }

/-- A side of a unit. -/
def Seam.side (x : Seam) (low : Bool) : SeamSide := if low then x.low else x.high

/-- Change a side of a unit. -/
def Seam.sideMod (x : Seam) (low : Bool) (f : SeamSide → SeamSide) : Seam :=
  if low then { x with low := f x.low } else { x with high := f x.high }

/-- A field of the unit. -/
def State.cf (s : State) (g : Nat) (f : Fld) : Nat := s.rf (seamInst g) (f.sh (seamOff g))

/-- Write a field of the unit. -/
def State.cw (s : State) (g : Nat) (f : Fld) (v : Nat) : State := s.wf (seamInst g) (f.sh (seamOff g)) v

/-- An event of the unit. -/
def State.cev (s : State) (g : Nat) (f : Fld) : State := s.ev (seamInst g) (f.sh (seamOff g))

/-- Add to counter n of the unit. -/
def State.ccount (s : State) (g n k : Nat) : State := s.add (seamInst g) (Reg.CPL_CNT_COUNT.sh (seamOff g + 4 * n)) k

/-- Half the shared region, V. -/
def State.seamV (s : State) (g : Nat) : Nat := s.cf g Reg.CPL_CFG_OVERLAP

/-- The carriage of a side. -/
def sideCar (g : Nat) (low : Bool) : Nat := if low then g else g + 1

/-- The port of a side. -/
def sideHop (g : Nat) (low : Bool) : Hop := ⟨.CPL, seamInst g, 2 * (g % 6 % 2) + (if low then 0 else 1)⟩

/-- A line marked as unjoined on the seam's side (R208). -/
def Line.alone (l : Line) (low : Bool) : Line := if low then { l with unjoinedHigh := true } else { l with unjoinedLow := true }

/-- The grid line of an entry. -/
def SeamEntry.grid (e : SeamEntry) : Option Nat :=
  match e.item with
  | .line l => some l.grid
  | _ => none

/-- The line of an entry. -/
def SeamEntry.line? (e : SeamEntry) : Option Line :=
  match e.item with
  | .line l => some l
  | _ => none

/-! ### The shared columns -/

/-- The shared columns of a plane on a side, from package column B − V on: a low carriage's last 2V columns, a high one's first (R201). -/
def shared (v : Nat) (low : Bool) (p : List Int) : List Int := if low then p.drop (p.length - 2 * v) else p.take (2 * v)

/-- A plane with its shared columns replaced. -/
def putShared (v : Nat) (low : Bool) (p y : List Int) : List Int := if low then p.take (p.length - 2 * v) ++ y else y ++ p.drop (2 * v)

/-- The shared columns of every plane. -/
def Line.shares (l : Line) (v : Nat) (low : Bool) : List (List Int) := l.planes.map (shared v low)

/-- The line with the shared columns of every plane replaced. -/
def Line.withShares (l : Line) (v : Nat) (low : Bool) (y : List (List Int)) : Line :=
  { l with planes := (List.range l.planes.length).map (fun p => putShared v low (l.planes.getD p []) (y.getD p [])) }

/-- The poisoned shared columns of plane p, counted from B − V. -/
def Line.sharedPoison (l : Line) (v : Nat) (low : Bool) (p : Nat) : List Nat :=
  let base := if low then (l.planes.getD p []).length - 2 * v else 0
  ((l.poison.getD p []).filter (fun c => decide (base ≤ c) && decide (c < base + 2 * v))).map (fun c => c - base)

/-- The line without poison in its shared columns. -/
def Line.clearShared (l : Line) (v : Nat) (low : Bool) : Line :=
  { l with poison := (List.range l.poison.length).map (fun p =>
      let base := if low then (l.planes.getD p []).length - 2 * v else 0
      (l.poison.getD p []).filter (fun c => decide (c < base) || decide (base + 2 * v ≤ c))) }

/-- The samples of a pair of planes after R207: a poisoned one takes the other side's, both poisoned 0. -/
def mendPlane (a b : List Int) (pa pb : List Nat) : List Int :=
  (List.range a.length).map (fun i => if pa.contains i then (if pb.contains i then 0 else b.getD i 0) else a.getD i 0)

/-- Poisoned shared samples of a joined pair are replaced (R207): the lines and how many samples there were. -/
def mendPair (v : Nat) (l h : Line) : Line × Line × Nat :=
  let n := Nat.min l.planes.length h.planes.length
  let pl := (List.range n).map (l.sharedPoison v true)
  let ph := (List.range n).map (h.sharedPoison v false)
  let bad : Nat := ((List.range n).map (fun p => ((List.range (2 * v)).filter (fun i =>
    (pl.getD p []).contains i || (ph.getD p []).contains i)).length)).sum
  if bad = 0 then (l, h, 0)
  else
    let sl := l.shares v true
    let sh := h.shares v false
    let yl := (List.range n).map (fun p => mendPlane (sl.getD p []) (sh.getD p []) (pl.getD p []) (ph.getD p []))
    let yh := (List.range n).map (fun p => mendPlane (sh.getD p []) (sl.getD p []) (ph.getD p []) (pl.getD p []))
    let fix := fun (x : Line) (low : Bool) (y : List (List Int)) =>
      let z := (x.withShares v low y).clearShared v low
      ({ z with tag := { z.tag with flags := z.tag.flags ||| 16 } } : Line)
    (fix l true yl, fix h false yh, bad)

/-- The blended sample at i columns from B − V, with the seam q columns from B and ramp W (R205). -/
def blendAt (v ramp : Nat) (q : Int) (i : Nat) (a b : Int) : Int :=
  let d : Int := (i : Int) - v - q
  let h : Int := (ramp / 2 : Nat)
  if d < -h then a
  else if h ≤ d then b
  else
    let k := 2 * (d + h) + 1
    rne (a * (2 * ramp - k) + b * k) (2 * ramp)

/-- Both lines of a joined pair with their shared columns blended (R205). -/
def blendPair (v ramp : Nat) (q : Int) (l h : Line) : Line × Line :=
  let sl := l.shares v true
  let sh := h.shares v false
  let y := (List.range sl.length).map (fun p => (List.range (2 * v)).map (fun i =>
    blendAt v ramp q i ((sl.getD p []).getD i 0) ((sh.getD p []).getD i 0)))
  (l.withShares v true y, h.withShares v false y)

/-! ### The seam path (R206) -/

/-- The sum of |L − H| over columns B + q − 2 to B + q + 1 of a line and all its planes. -/
def pathCost (v : Nat) (q : Int) (l h : Line) : Nat :=
  let sl := l.shares v true
  let sh := h.shares v false
  ((List.range sl.length).map (fun p => ((List.range 4).map (fun (i : Nat) =>
    let x := ((v : Int) + q + i - 2).toNat
    ((sl.getD p []).getD x 0 - (sh.getD p []).getD x 0).natAbs)).sum)).sum

/-- The offset with the lowest cost: lines are the pairs about m, prev is the offset of the line before. -/
def pathPick (v step penalty : Nat) (prev : Int) (pairs : List (Line × Line)) : Int :=
  let cands := (List.range (2 * step + 1)).map (fun (i : Nat) => prev - step + i)
  let ok := cands.filter (fun q => decide (q.natAbs ≤ 64))
  let cost := fun (q : Int) => (pairs.map (fun x => pathCost v q x.1 x.2)).sum + penalty * (q - prev).natAbs
  let better := fun (a b : Int) =>
    if cost a != cost b then decide (cost a < cost b)
    else if (a - prev).natAbs != (b - prev).natAbs then decide ((a - prev).natAbs < (b - prev).natAbs)
    else decide (a < b)
  match ok with
  | [] => prev
  | x :: t => t.foldl (fun b a => if better a b then a else b) x

/-! ### Registration (R209 to R211) -/

/-- A sample of a shared plane, x columns from B. -/
def atB (v : Nat) (p : List Int) (x : Int) : Int := if x + v < 0 then 0 else p.getD (x + v).toNat 0

/-- Twice A at x columns from B for one plane of a pair (R209). -/
def twiceA (v : Nat) (k : Int) (l h : List Int) (x : Int) : Int := atB v l (x - k) + atB v h x

/-- What one plane of line m adds to a window of half-width r; the pairs are lines m − 1, m and m + 1. -/
def regPlane (v r : Nat) (k : Int) (w : RegWindow) (a b c : List Int × List Int) : RegWindow :=
  let xs := (List.range (2 * r)).map (fun (i : Nat) => (i : Int) - r)
  let diff := xs.map (fun x => atB v b.2 x - atB v b.1 (x - k))
  let tot := diff.foldl (· + ·) 0
  let gx := xs.map (fun x => twiceA v k b.1 b.2 (x + 1) - twiceA v k b.1 b.2 (x - 1))
  let gy := xs.map (fun x => twiceA v k c.1 c.2 x - twiceA v k a.1 a.2 x)
  let dl := diff.map (fun d => 2 * (r : Int) * d - tot)
  let dot := fun (p q : List Int) => (List.range (2 * r)).foldl (fun acc i => acc + p.getD i 0 * q.getD i 0) (0 : Int)
  { w with
    n := w.n + 2 * r
    sxx := w.sxx + dot gx gx
    syy := w.syy + dot gy gy
    sxy := w.sxy + dot gx gy
    sxd := w.sxd + dot gx dl
    syd := w.syd + dot gy dl
    sad := (List.range 17).map (fun j => w.sad.getD j 0 +
      (xs.map (fun x => (atB v b.2 x - atB v b.1 (x - ((j : Int) - 8))).natAbs)).sum) }

/-- A line that a window may use (R211): no INTERPOLATED, POISON, SHORT or LONG. -/
def Line.clean (l : Line) : Bool := (l.tag.flags &&& (1 ||| 2 ||| 16 ||| 1024)) == 0

/-- The shift with the least SAD: ties to the smaller |j|, then to the smaller j (R210). -/
def leastSad (sad : List Nat) : Int :=
  let js := (List.range 17).map (fun (i : Nat) => (i : Int) - 8)
  let sadOf := fun (j : Int) => sad.getD (j + 8).toNat 0
  let better := fun (a b : Int) =>
    if sadOf a != sadOf b then decide (sadOf a < sadOf b)
    else if a.natAbs != b.natAbs then decide (a.natAbs < b.natAbs)
    else decide (a < b)
  js.foldl (fun b a => if better a b then a else b) 0

/-- A window starts again, empty, with k at 0 (R210, R211). -/
def State.regRestart (s : State) (g : Nat) : State :=
  ((s.seamMod g (fun (x : Seam) => ({ x with k := 0, window := RegWindow.fresh (s.wwtAt 2 0 0).running } : Seam))).cw g Reg.CPL_STATUS_SHIFT_K 0).cw g
    Reg.CPL_REG_USED_LINES 0

/-- Used line m enters the open window unless it has its lines already (R209, R211). -/
def State.regUse (s : State) (g : Nat) (a b c : Line × Line) : State :=
  let x := s.seamOf g
  if s.cf g Reg.CPL_REG_CTL_ENABLE = 0 ∨ s.cf g Reg.CPL_REG_CTL_LINES ≤ x.window.lines then s
  else
    let v := s.seamV g
    let r := s.cf g Reg.CPL_REG_CTL_HALF
    let pick := fun (q : Line × Line) (p : Nat) => (shared v true (q.1.planes.getD p []), shared v false (q.2.planes.getD p []))
    let w := (List.range b.1.planes.length).foldl (fun (w : RegWindow) p => regPlane v r x.k w (pick a p) (pick b p) (pick c p)) x.window
    (s.seamMod g (fun (y : Seam) => ({ y with window := { w with lines := w.lines + 1 } } : Seam))).cw g Reg.CPL_REG_USED_LINES
      (x.window.lines + 1)

/-! ### Settings that changed -/

/-- The registers of a unit whose change restarts its registration (R211). -/
def State.seamWords (s : State) (g : Nat) : List Word :=
  [0x08, 0x0C, 0x10, 0x14, 0x18].map (fun o => s.word .CPL (seamInst g) (o + seamOff g))

/-- Applied settings take effect at a pair: registration restarts at any change of the unit's own and where the pair was formed under other
corrections than the one before it, the path at a change of PATH or FIXED (R206, R211). -/
def State.seamSettings (s : State) (g : Nat) (l h : Line) : State :=
  let now_ := s.seamWords g
  let under := some (l.under ++ h.under)
  let x := s.seamOf g
  if x.seen = now_ ∧ x.under = under then s
  else
    let path := decide ((x.seen.getD 0 0) &&& 0xFF0200 ≠ (now_.getD 0 0) &&& 0xFF0200)
    (s.seamMod g (fun (y : Seam) => ({ y with seen := now_, under := under, q := if path then none else y.q } : Seam))).regRestart g

/-! ### Unjoined lines (R208) -/

/-- The run of unjoined lines closes and goes down the low carriage's chain for its gap record (R254). -/
def State.unjoinedEnd (s : State) (g : Nat) : State :=
  match (s.seamOf g).unjoined with
  | none => s
  | some (a, b) => (s.seamMod g (fun (x : Seam) => ({ x with unjoined := none } : Seam))).pass g (sideHop g true) (.seam g a b) false

/-- Grid line m goes unjoined. -/
def State.unjoin (s : State) (g m : Nat) : State :=
  let s1 := ((s.ccount g 0 1).cev g Reg.CPL_EVENT_UNJOINED).cw g Reg.CPL_STATUS_UNJOINED 1
  let s2 := s1.seamMod g (fun (x : Seam) => ({ x with late := x.late ++ [m] } : Seam))
  let s3 := match (s2.seamOf g).unjoined with
    | some (a, b) =>
      if m = b + 1 then s2.seamMod g (fun (x : Seam) => ({ x with unjoined := some (a, m) } : Seam))
      else (s2.unjoinedEnd g).seamMod g (fun (x : Seam) => ({ x with unjoined := some (m, m) } : Seam))
    | none => s2.seamMod g (fun (x : Seam) => ({ x with unjoined := some (m, m) } : Seam))
  match (s3.seamOf g).unjoined with
  | some (a, b) => if 65536 ≤ b - a + 1 then s3.unjoinedEnd g else s3
  | none => s3

/-- An entry that will pass as it is. -/
def SeamEntry.letGo (e : SeamEntry) (low : Bool) : SeamEntry :=
  match e.item with
  | .line l => ⟨.line (l.alone low), .alone⟩
  | _ => { e with fate := .alone }

/-- The waiting lines of a side that p picks go unjoined. -/
def State.dropWaiting (s : State) (g : Nat) (low : Bool) (p : Nat → Bool) : State :=
  let hit := fun (e : SeamEntry) => e.fate == .waits && (match e.grid with
    | some m => p m
    | none => false)
  let gone := (((s.seamOf g).side low).entries.filter hit).filterMap SeamEntry.grid
  let s1 := s.seamMod g (fun x => x.sideMod low (fun (d : SeamSide) =>
    ({ d with entries := d.entries.map (fun e => if hit e then e.letGo low else e) } : SeamSide)))
  gone.foldl (fun t m => t.unjoin g m) s1

/-- Joined lines m meet: poisoned shared samples are replaced and counted (R207), and a run of unjoined lines ends. -/
def State.join (s : State) (g m : Nat) : State :=
  let x := s.seamOf g
  let find := fun (d : SeamSide) => (d.entries.find? (fun e => e.grid == some m)).bind SeamEntry.line?
  match find x.low, find x.high with
  | some l, some h =>
    let r := mendPair (s.seamV g) l h
    let put := fun (d : SeamSide) (n : Line) =>
      ({ d with entries := d.entries.map (fun e => if e.grid = some m then ⟨.line n, .joined⟩ else e) } : SeamSide)
    let s1 := s.seamMod g (fun (y : Seam) => ({ y with low := put y.low r.1, high := put y.high r.2.1 } : Seam))
    let s2 := (s1.ccount g 2 r.2.2).evIf (r.2.2 != 0) (seamInst g) (Reg.CPL_EVENT_POISON.sh (seamOff g))
    (s2.unjoinedEnd g).cw g Reg.CPL_STATUS_UNJOINED 0
  | _, _ => s

/-! ### Release (R206) -/

/-- Something leaves on a side. -/
def State.seamOut (s : State) (g : Nat) (low : Bool) (it : Item) : State := s.coupled (sideCar g low) (sideHop g low) it

/-- The next entry of a side leaves, and a line is remembered for the line after it. -/
def State.seamPop (s : State) (g : Nat) (low : Bool) : State :=
  s.seamMod g (fun x => x.sideMod low (fun (d : SeamSide) =>
    ({ d with entries := d.entries.drop 1, left := (match d.entries.head?.bind SeamEntry.line? with
        | some l => some l
        | none => d.left) } : SeamSide)))

/-- Entries that need no partner leave a side, as long as its way is not full. A hole or a new epoch restarts registration (R211). -/
def State.seamAlone (low : Bool) : Nat → Nat → State → State
  | 0, _, s => s
  | n + 1, g, s =>
    match ((s.seamOf g).side low).entries with
    | e :: _ =>
      if e.fate ≠ .alone ∨ s.heldUp (sideCar g low) (sideHop g low) then s
      else
        let restart : Bool := match e.item with
          | .gap m => decide (m.from_ ≤ m.til)
          | .line l => l.tag.flags.testBit 5 || l.tag.flags.testBit 6
          | _ => false
        let s1 := if restart || e.grid.isSome then (s.seamMod g (fun (x : Seam) => ({ x with q := none } : Seam))) else s
        let s2 := if restart then s1.regRestart g else s1
        State.seamAlone low n g ((s2.seamOut g low e.item).seamPop g low)
    | [] => s

/-- Whether a side is past the grid line at its head: it has delivered or passed over the next, or has ended by a marker before it (R206). -/
def SeamSide.isPast (d : SeamSide) (m : Nat) : Bool :=
  decide (m < d.top.getD 0) || d.entries.any (fun e => match e.item with
    | .gap x => x.isEnd
    | _ => false)

/-- The pair at the head of both sides, where it may leave: both sides are past it. -/
def State.pairReady (s : State) (g : Nat) : Option (Line × Line) :=
  let x := s.seamOf g
  match x.low.entries, x.high.entries with
  | a :: _, b :: _ =>
    match a.line?, b.line? with
    | some l, some h =>
      if a.fate = .joined ∧ b.fate = .joined ∧ l.grid = h.grid ∧ x.low.isPast l.grid ∧ x.high.isPast l.grid ∧
          !s.heldUp g (sideHop g true) ∧ !s.heldUp (g + 1) (sideHop g false) then some (l, h)
      else none
    | _, _ => none
  | _, _ => none

/-- The lines of both sides at a grid line, among those held or the ones that left last. -/
def Seam.pairAt (x : Seam) (m : Nat) : Option (Line × Line) :=
  let find := fun (d : SeamSide) =>
    match (d.entries.find? (fun e => e.grid == some m)).bind SeamEntry.line? with
    | some l => some l
    | none => d.left.filter (fun l => l.grid == m)
  match find x.low, find x.high with
  | some l, some h => some (l, h)
  | _, _ => none

/-- The seam offset of a joined line (R206). -/
def State.seamQ (s : State) (g : Nat) (l h : Line) : Int :=
  let x := s.seamOf g
  let fixed := sgn 8 (s.cf g Reg.CPL_BLEND_FIXED)
  if s.cf g Reg.CPL_BLEND_PATH = 0 then fixed
  else
    let before := if l.grid = 0 then none else x.pairAt (l.grid - 1)
    let after := x.pairAt (l.grid + 1)
    match x.q with
    | none => fixed
    | some q =>
      let near := match before, after with
        | some a, some b => [a, (l, h), b]
        | some a, none => [a, (l, h), a]
        | none, some b => [b, (l, h), b]
        | none, none => [(l, h), (l, h), (l, h)]
      pathPick (s.seamV g) (s.cf g Reg.CPL_PATH_STEP) (s.cf g Reg.CPL_PATH_PENALTY) q near

/-- Registration sees a joined line as it leaves. -/
def State.regLine (s : State) (g : Nat) (l h : Line) : State :=
  let x := s.seamOf g
  if l.grid = 0 then s
  else
    match x.pairAt (l.grid - 1), x.pairAt (l.grid + 1) with
    | some a, some c =>
      if a.1.clean && a.2.clean && l.clean && h.clean && c.1.clean && c.2.clean then s.regUse g a (l, h) c else s
    | _, _ => s

/-- A joined pair leaves: settings, restarts, the seam's place, registration, blending. -/
def State.pairOut (s : State) (g : Nat) (l h : Line) : State :=
  let flag := fun (n : Nat) => l.tag.flags.testBit n || h.tag.flags.testBit n
  let s1 := s.seamSettings g l h
  let s2 := if flag 5 then s1.seamMod g (fun (x : Seam) => ({ x with q := none } : Seam)) else s1
  let s3 := if flag 5 || flag 6 then s2.regRestart g else s2
  let q := s3.seamQ g l h
  let s4 := (s3.regLine g l h).cw g Reg.CPL_STATUS_SEAM (unsgn 8 q)
  let s5 := (s4.evIf (s4.cf g Reg.CPL_BLEND_PATH == 1 && q.natAbs == 64) (seamInst g) (Reg.CPL_EVENT_PATH_LIMIT.sh (seamOff g))).seamMod g
    (fun (x : Seam) => ({ x with q := some q } : Seam))
  let y := blendPair (s5.seamV g) (s5.cf g Reg.CPL_BLEND_RAMP) q l h
  (((s5.seamOut g true (.line y.1)).seamPop g true).seamOut g false (.line y.2)).seamPop g false

/-- Everything that may leave leaves. -/
def State.seamDrain : Nat → Nat → State → State
  | 0, _, s => s
  | n + 1, g, s =>
    let s1 := State.seamAlone false 512 g (State.seamAlone true 512 g s)
    match s1.pairReady g with
    | some (l, h) => State.seamDrain n g (s1.pairOut g l h)
    | none => s1

/-! ### Delivery (R208) -/

/-- WAITING, and the unjoined lines whose partners can no longer come. -/
def State.seamShow (s : State) (g : Nat) : State :=
  let s1 := s.seamMod g (fun (x : Seam) =>
    match x.low.top, x.high.top with
    | some a, some b => ({ x with late := x.late.filter (fun k => decide (Nat.min a b < k)) } : Seam)
    | _, _ => x)
  let x := s1.seamOf g
  let waits := fun (d : SeamSide) => d.entries.any (fun e => e.fate == .waits)
  s1.cw g Reg.CPL_STATUS_WAITING (b2n (waits x.low || waits x.high))

/-- A side's front moves up to a grid line. -/
def SeamSide.upTo (d : SeamSide) (m : Nat) : SeamSide := { d with top := some (Nat.max m (d.top.getD m)) }

/-- A side gets something to hold. -/
def State.seamHold (s : State) (g : Nat) (low : Bool) (e : SeamEntry) : State :=
  s.seamMod g (fun x => x.sideMod low (fun (d : SeamSide) => ({ d with entries := d.entries ++ [e] } : SeamSide)))

/-- A gap marker comes on a side: it passes in its order, and waiting lines of the other side that it passes over go unjoined. -/
def State.seamGap (s : State) (g : Nat) (low : Bool) (m : Gap) : State :=
  let s1 := s.seamHold g low ⟨.gap m, .alone⟩
  if m.isEnd then s1.dropWaiting g (!low) (fun _ => true)
  else if m.til < m.from_ then s1
  else
    (s1.dropWaiting g (!low) (fun k => decide (k ≤ m.til))).seamMod g (fun x => x.sideMod low (fun d => d.upTo m.til))

/-- A line comes on a side. Beside a carriage that a patch has cut off it goes unjoined at once (R78). -/
def State.seamLine (s : State) (g : Nat) (low : Bool) (l : Line) : State :=
  let m := l.grid
  let s1 := s.dropWaiting g (!low) (fun k => decide (k < m))
  let x := s1.seamOf g
  let other := x.side (!low)
  let partner := other.entries.any (fun e => e.fate == .waits && e.grid == some m)
  let passed : Bool := match other.top with
    | some t => decide (m ≤ t)
    | none => false
  let s2 :=
    if s.patchCut (sideCar g low) m then s1.seamHold g low ⟨.line (l.alone low), .alone⟩
    else if s.patchCut (sideCar g (!low)) m then (s1.seamHold g low ⟨.line (l.alone low), .alone⟩).unjoin g m
    else if x.late.contains m then
      ((s1.seamHold g low ⟨.line (l.alone low), .alone⟩).ccount g 1 1).cev g Reg.CPL_EVENT_LATE
    else if partner then (s1.seamHold g low ⟨.line l, .waits⟩).join g m
    else if passed then (s1.seamHold g low ⟨.line (l.alone low), .alone⟩).unjoin g m
    else s1.seamHold g low ⟨.line l, .waits⟩
  let wait := Nat.max 1 (s2.cf g Reg.CPL_WAIT_LINES)
  let s3 := s2.dropWaiting g low (fun k => decide (k + wait ≤ m))
  s3.seamMod g (fun x => x.sideMod low (fun (d : SeamSide) => { d.upTo m with tag := some l.tag }))

/-- What a side delivers. A flush mark turns into a gap before the next line (R333). -/
def State.seamTake (s : State) (g : Nat) (low : Bool) (it : Item) : State :=
  let d := (s.seamOf g).side low
  match it with
  | .line l =>
    if d.flushed then
      let m := flushGap d.tag l.tag
      let mk_ : Gap := match d.top with
        | some t => if t + 1 < l.grid then { m with from_ := t + 1, til := l.grid - 1 } else m.noneFrom l.grid
        | none => m.noneFrom l.grid
      let s1 := s.seamMod g (fun x => x.sideMod low (fun (e : SeamSide) => ({ e with flushed := false } : SeamSide)))
      (s1.seamGap g low mk_).seamLine g low l.afterGap
    else s.seamLine g low l
  | .gap m => s.seamGap g low m
  | .flushMark => s.seamMod g (fun x => x.sideMod low (fun (e : SeamSide) => ({ e with flushed := true } : SeamSide)))
  | other => s.seamHold g low ⟨other, .alone⟩

/-- Whether a side holds as many lines as a unit holds of one (R208). -/
def State.seamSideFull (s : State) (g : Nat) (low : Bool) : Bool :=
  decide (s.cf g Reg.CPL_WAIT_LINES + 2 ≤ ((((s.seamOf g).side low).entries.filter (fun e => e.grid.isSome)).length))

/-- A side of unit g takes the next thing from its Mews, and the unit gives out what may leave. -/
def State.seamDeliver (s : State) (g : Nat) (low : Bool) : State :=
  if !s.seamOn g then s
  else
    let s1 := State.seamDrain 512 g s
    let s2 := if s1.seamSideFull g low then s1
      else
        match s1.takeNext (sideCar g low) (sideHop g low) with
        | none => s1
        | some (it, t) => (State.seamDrain 512 g (t.seamTake g low it)).seamShow g
    s2

/-- SEAM_LINE_DELIVER: carriage g's side (low) or that of g + 1 delivers the next thing to seam unit g (R208). -/
def execSeamLineDeliver (g : Nat) (low : Bool) (s : State) : Host.Outcome State Fault Refusal := .next (s.seamDeliver g low)

/-- A window with its lines publishes or not, and the next opens with the new shift (R209, R210). -/
def State.regEnd (s : State) (g : Nat) : State :=
  let x := s.seamOf g
  let w := x.window
  let r : Int := s.cf g Reg.CPL_REG_CTL_HALF
  let det := w.sxx * w.syy - w.sxy * w.sxy
  let least : Int := s.cf g Reg.CPL_REG_LIM_MIN_TEXTURE * w.n
  let flat : Bool := decide (w.sxx < 16 * least) || decide (w.syy < 16 * least) || decide (det ≤ 0)
  let nx := w.sxd * w.syy - w.syd * w.sxy
  let ny := w.syd * w.sxx - w.sxd * w.sxy
  let j := leastSad w.sad
  let far : Bool := decide (j ≠ x.k) || (!flat && decide (2 * r * det ≤ 8 * (ny.natAbs : Int)))
  let den := (r * det).toNat
  let cd := 256 * x.k + rne (-512 * nx) den
  let md := rne (-512 * ny) den
  let s1 := if flat then (s.cev g Reg.CPL_EVENT_REG_UNTEXTURED).ccount g 3 1 else s
  let s2 := if far then s1.cev g Reg.CPL_EVENT_REG_RANGE else s1
  let running := (s.wwtAt 2 0 0).running
  let s3 := if flat || far then s2
    else
      ((((s2.cw g Reg.CPL_REG_CD_D (unsgn 32 cd)).cw g Reg.CPL_REG_MD_D (unsgn 32 md)).cev g Reg.CPL_EVENT_REG_DONE).add (seamInst g)
        (Reg.CPL_REG_USED_WINDOWS.sh (seamOff g)) 1).seamMod g (fun (y : Seam) =>
          ({ y with results := if running && w.inRun then y.results ++ [(cd, md)] else y.results } : Seam))
  ((s3.seamMod g (fun (y : Seam) => ({ y with k := j, window := RegWindow.fresh running } : Seam))).cw g Reg.CPL_STATUS_SHIFT_K (unsgn 5 j)).cw g
    Reg.CPL_REG_USED_LINES 0

/-- REG_WINDOW_END: the window of seam unit g has its LINES used lines (R209, R210). -/
def execRegWindowEnd (g : Nat) (s : State) : Host.Outcome State Fault Refusal :=
  .next (if s.seamOn g && s.cf g Reg.CPL_REG_CTL_ENABLE == 1 && decide (s.cf g Reg.CPL_REG_CTL_LINES ≤ (s.seamOf g).window.lines) then s.regEnd g
    else s)

end Sys2Proof.Machine
end

