-- ==== Sys2Proof/Machine/PairCore.lean ====
section
/-! DEFINITION. Digests of a pair and the resync of a carriage, as far as the engines of a chain take part (R460, R461). -/

namespace Sys2Proof.Machine

/-- Change the pair. -/
def State.pairMod (s : State) (f : Pair → Pair) : State := { s with pair := f s.pair }

/-- Whether grid line m of carriage g is one of a digest, or the line at which a snapshot is taken. -/
def State.digestAt (s : State) (g m : Nat) : Bool :=
  (s.role == 2 || s.role == 3) && s.live g && (m % 1024 == 0 || s.pair.snap == some (g, m))

/-- An engine's item of a digest. -/
def State.digestPart (s : State) (g m item : Nat) (words : List Nat) : State :=
  if s.digestAt g m then
    s.pairMod (fun (p : Pair) => ({ p with
      parts := (⟨g, m, item, words⟩ :: p.parts.filter (fun d => !(d.carriage == g && d.line == m && d.item == item))).take 1024 } : Pair))
  else s

/-- An item that was formed, if it was. -/
def Pair.part (p : Pair) (g m item : Nat) : List Nat :=
  match p.parts.find? (fun d => d.carriage == g && d.line == m && d.item == item) with
  | some d => d.words
  | none => []

/-- The values of a component that a digest covers. -/
def Comp.words (c : Comp) : List Nat :=
  match c.feat with
  | none => [c.last, c.col]
  | some f => [c.last, c.col, f.area, f.xmin, f.xmax, f.mfirst, f.mlast, f.sx, f.sm, f.wa, f.wax, f.wam, f.sxx, f.smm, f.sxm,
      unsgn 64 f.emin, unsgn 64 f.emax, unsgn 64 f.esum] ++ f.classes ++ [unsgn 64 f.md, unsgn 64 f.time, f.epoch, f.flags]

/-- Open components in the order of R460. -/
def compOrder (l : List Comp) : List Comp :=
  sortBy (fun (c : Comp) => match c.feat with
    | some f => f.xmin * 2 ^ 64 + f.mfirst
    | none => c.col * 2 ^ 64) l

/-- The values of a line that is sent to the standby. -/
def Line.words (l : Line) : List Nat :=
  [l.grid, unsgn 64 l.tag.md, unsgn 64 l.tag.time, l.tag.index, l.tag.epoch, l.tag.camLine, l.tag.flags] ++
  l.planes.flatMap (fun p => p.map (unsgn 16))

/-! ### The primary's side of a resync -/

/-- An SPR input line of the carriage that a resync takes over goes to the standby, behind the snapshot. -/
def State.mirrorLine (s : State) (g : Nat) (l : Line) : State :=
  if s.role = 2 ∧ s.pair.sending = some g then
    if s.pair.snap.isSome then s.pairMod (fun (p : Pair) => ({ p with queued := p.queued ++ [l] } : Pair))
    else s.emit .mirror 0x4A (1 :: g :: l.words)
  else s

/-- Springs has formed output line m of carriage g: the next one after a request becomes m_s. -/
def State.sprDigest (s : State) (g m : Nat) (words : List Nat) (ahead : List Line) : State :=
  let s1 := if s.role = 2 ∧ s.pair.snapWait = some g then
      s.pairMod (fun (p : Pair) => ({ p with snapWait := none, snap := some (g, m), sending := some g, queued := ahead } : Pair))
    else s
  s1.digestPart g m 0 words

/-- The snapshot of m_s goes, and the lines behind it. -/
def State.snapSend (s : State) (g m : Nat) (words : List Nat) : State :=
  if s.role = 2 ∧ s.pair.snap = some (g, m) then
    let s1 := s.emit .mirror 0x4A (0 :: g :: m :: words)
    let s2 := s.pair.queued.foldl (fun (t : State) l => t.emit .mirror 0x4A (1 :: g :: l.words)) s1
    s2.pairMod (fun (p : Pair) => ({ p with snap := none, queued := [] } : Pair))
  else s

/-! ### The standby's side -/

/-- Show whether a resync runs. -/
def State.resyncShow (s : State) : State := s.wf 0 Reg.PAI_STATUS_RESYNC (b2n s.pair.resync.isSome)

/-- With none under way, the next waiting resync starts: the primary is asked (R461 step 1). -/
def State.resyncNext (s : State) : State :=
  if s.role ≠ 3 ∨ s.pair.resync.isSome then s.resyncShow
  else
    match s.pair.waiting with
    | [] => s.resyncShow
    | g :: t =>
      ((s.pairMod (fun (p : Pair) => ({ p with waiting := t, resync := some ⟨g, s.now, none, 0, none⟩ } : Pair))).emit .mirror 0x4D
        [3, g]).resyncShow

/-- A resync of carriage g is due. -/
def State.resyncWant (s : State) (g : Nat) : State :=
  let on := s.pair.waiting.contains g || (s.pair.resync.map (fun r => r.carriage)) == some g
  (if on then s else s.pairMod (fun (p : Pair) => ({ p with waiting := insertBy id g p.waiting } : Pair))).resyncNext

/-- A digest of carriage g differs or did not come (R460). -/
def State.digestBad (s : State) (g : Nat) : State :=
  let f := if g < 32 then Reg.PAI_DIGEST_LO_CARRIAGE else Reg.PAI_DIGEST_HI_CARRIAGE
  (((s.wf 0 f (s.rf 0 f ||| 2 ^ (g % 32))).ev 0 Reg.PAI_EVENT_DIGEST).pcode 0x0020).resyncWant g

/-- The standby compares the digests that it has of both parts. -/
def State.digestMeet (s : State) : State :=
  if s.role ≠ 3 then s
  else
    let hit := s.pair.own.filter (fun d => s.pair.theirs.any (fun e => e.carriage == d.carriage && e.line == d.line))
    let out := fun (d : Dig) => hit.any (fun e => e.carriage == d.carriage && e.line == d.line)
    let s1 := s.pairMod (fun (p : Pair) => ({ p with own := p.own.filter (fun d => !out d), theirs := p.theirs.filter (fun d => !out d) } : Pair))
    hit.foldl (fun (t : State) d =>
      if s.pair.theirs.any (fun e => e.carriage == d.carriage && e.line == d.line && e.crc == d.crc) then t else t.digestBad d.carriage) s1

/-- LBL has taken line m of carriage g: the digest is whole (R460). -/
def State.lblDigest (s : State) (g m : Nat) (comps : List Comp) (before : List (Nat × Nat × Nat)) (epoch : Nat) : State :=
  if !s.digestAt g m then s
  else
    let pend := (s.ingOf g).epochs.map (fun e => match e.1 with
      | some l => l + 1
      | none => 0)
    let words := s.pair.part g m 0 ++ s.pair.part g m 1 ++ (compOrder comps).flatMap (fun c => c.words) ++ [epoch] ++ pend
    let s1 := s.pairMod (fun (p : Pair) => ({ p with parts := p.parts.filter (fun d => !(d.carriage == g && d.line == m)) } : Pair))
    let s2 := s1.snapSend g m (words ++ before.flatMap (fun r => [r.1, r.2.1, r.2.2]))
    if m % 1024 = 0 then
      let crc := Config.digest words % 2 ^ 32
      ((s2.emit .mirror 0x49 [g, m, crc]).pairMod (fun (p : Pair) => ({ p with
        own := (⟨g, m, crc, s.now⟩ :: p.own).take 256 } : Pair))).digestMeet
    else s2

/-- While a resync runs on the mirrored lines of carriage g, its own input waits or, as far as the mirrored lines have come, is discarded
(R461 step 3). The answer is whether the thing is discarded, or none where it is taken as usual. -/
def State.resyncHolds (s : State) (g : Nat) (it : Item) : Option Bool :=
  match s.pair.resync with
  | some r =>
    if s.role = 3 ∧ r.carriage = g ∧ r.from_.isSome then
      match it with
      | .line l => some (decide (l.grid ≤ r.last))
      | .gap m => some (decide (m.til ≤ r.last))
      | _ => none
    else none
  | none => none

end Sys2Proof.Machine
end

