-- ==== Sys2Proof/Machine/Tasks.lean ====
section
/-! DEFINITION. Task inputs of the Reins (R359, R360): pending counts that sinks take. -/

namespace Sys2Proof.Machine

/-- The sink number of a stage engine: its ENGN index (R359). -/
def State.sinkOf (s : State) (b : Blk) (i : Nat) : Nat :=
  match s.entryOf b i with
  | some e => e.engn
  | none => 0xEFFF

/-- Events arrive at a task input of coach c (R360): beyond 15 they are lost. -/
def State.taskAdd (s : State) (c sink task n : Nat) : State :=
  let k := crossKey c sink task
  let v := cgetD s.rein.tasks k 0 + n
  let s1 := { s with rein := { s.rein with tasks := cset s.rein.tasks k (satN 15 v) } }
  if 15 < v then
    ({ s1 with rein := { s1.rein with ovf := if s1.rein.ovf.contains k then s1.rein.ovf else k :: s1.rein.ovf } } : State).ev (unitOf c 0)
      Reg.REI_EVENT_TASK_OVF
  else s1

/-- The pending events of a task input. -/
def State.taskCount (s : State) (c sink task : Nat) : Nat := cgetD s.rein.tasks (crossKey c sink task) 0

/-- A sink takes n of its pending events. -/
def State.taskTake (s : State) (c sink task n : Nat) : State :=
  let k := crossKey c sink task
  { s with rein := { s.rein with tasks := cset s.rein.tasks k (cgetD s.rein.tasks k 0 - n) } }

end Sys2Proof.Machine
end

