-- ==== Sys2Proof/Machine/Spr.lean ====
section
/-! DEFINITION. Springs (R215 to R225): poison replacement, rank filter, baseline with its freezes, deviation, smoothing. Rows name a carriage. -/

namespace Sys2Proof.Machine

/-- Springs of carriage g. -/
def State.sprOf (s : State) (g : Nat) : Spr := cgetD s.spr g Spr.fresh

/-- Change Springs of carriage g. -/
def State.sprMod (s : State) (g : Nat) (f : Spr → Spr) : State := { s with spr := cmod s.spr g Spr.fresh f }

/-- Its window. -/
def State.sprWin (s : State) (g : Nat) : Nat := s.eng .SPR g

/-- A field of it. -/
def State.sprF (s : State) (g : Nat) (f : Fld) : Nat := s.rf (s.sprWin g) f

/-- Add to its counter n. -/
def State.sprCount (s : State) (g n k : Nat) : State := s.add (s.sprWin g) (Reg.SPR_CNT_COUNT.sh (4 * n)) k

/-- The tag flags that become the OR over what windows read (R223). -/
def orFlags : Nat := 0x79F

/-! ### Settings -/

/-- Whether SEG of carriage g will use local contrast at a line of tag MD md (R219, R233). -/
def State.contrastAt (s : State) (g : Nat) (md : Int) : Bool :=
  let k := regKey .SEG (s.eng .SEG g) Reg.SEG_CTL_CONTRAST_EN.off
  let due := (s.yoke.armed.filter (fun a => a.carriage == g && a.at_ md)).flatMap (fun a => a.values.filter (fun e => e.1 == k))
  match due.getLast? with
  | some e => e.2.toNat.testBit 0
  | none => s.rb (s.eng .SEG g) Reg.SEG_CTL_CONTRAST_EN

/-- The smoothing in force (R222, R224). -/
def State.smoothNow (s : State) (g : Nat) : Smooth :=
  let mode := s.sprF g Reg.SPR_CTL_SMOOTH
  if mode = 0 ∨ mode = 3 then ⟨0, [], 0⟩
  else
    let c := (List.range (s.sprF g Reg.SPR_CTL_TAPS + 1)).map (fun t => sgn 16 (s.sprF g (Reg.SPR_COEF_C.sh (4 * t))))
    let tot := c.foldl (· + ·) 0
    let mom := (List.range c.length).foldl (fun (a : Int) (t : Nat) => a + t * c.getD t 0) 0
    let nom := rne (256 * mom) tot.toNat
    let d := if mode = 2 then clampI 0 65535 nom else 0
    ⟨mode, c, (rne (d * s.gridMd) 256).toNat⟩

/-- d_nom in 1/256 line for SPR_DELAY (R224). -/
def Smooth.nominal (m : Smooth) : Nat :=
  if m.mode = 2 then
    (clampI 0 65535 (rne (256 * (List.range m.coef.length).foldl (fun (a : Int) (t : Nat) => a + t * m.coef.getD t 0) 0)
      (m.coef.foldl (· + ·) 0).toNat)).toNat
  else 0

/-- h_s: half the taps of linear smoothing. -/
def Smooth.half (m : Smooth) : Nat := if m.mode = 1 then (m.coef.length - 1) / 2 else 0

/-- F of R219 for a line of MD Y_m, which SEG gets with the shift taken off. -/
def State.feedbackAt (s : State) (g : Nat) (m : Smooth) (md : Int) : Nat := m.half + (if s.contrastAt g (md - m.shift) then 15 else 0) + 2

/-! ### The baseline (R217 to R221) -/

/-- The update of a baseline by a rank-filter output with shift t (R217). -/
def baseStep (b : Nat) (r : Int) (t : Nat) : Nat := (rne ((b : Int) * 2 ^ t + (r * 65536 - b)) (2 ^ t)).toNat

/-- floor(log2 i), 0 for 0. -/
def log2Of (i : Nat) : Nat := Nat.log2 i

/-- Whether a run of the lists covers a column within a number of columns and shares a class (R220). -/
def runCovers (grow mask : Nat) (runs : List Run) (j : Nat) : Bool :=
  runs.any (fun r => (r.mask &&& mask) != 0 && decide (r.start ≤ j + grow) && decide (j ≤ r.stop + grow))

/-- One column through the update of line k: held by a Reins hold, covered on this line, covered on this or a line of the hold. -/
def SprCol.update (c : SprCol) (r : Int) (t maxRun : Nat) (held now_ near : Bool) : SprCol × Bool × Bool :=
  if held then (c, true, false)
  else if c.released && now_ then ({ c with b := baseStep c.b r t }, false, false)
  else if near then
    let n := c.skipped + 1
    if 0 < maxRun ∧ maxRun ≤ n then ({ c with skipped := 0, released := true }, true, true) else ({ c with skipped := n, released := false }, true, false)
  else ({ c with b := baseStep c.b r t, skipped := 0, released := false }, false, false)

/-- Whether a column takes the update of line k: one that was seeded by itself takes those from its own acquisition on (R218, R322). -/
def SprCol.takes (c : SprCol) (k acq : Nat) : Bool :=
  match c.own with
  | none => true
  | some 0 => false
  | some (n + 1) => decide (n + acq ≤ k)

/-- The acquisition of a column that was seeded by itself (R217, R322). -/
def SprCol.acquire (c : SprCol) (k acq shift : Nat) (r : Int) : SprCol :=
  match c.own with
  | none => c
  | some 0 => { c with b := baseStep c.b r 0, own := some (k + 1), skipped := 0, released := false }
  | some (n + 1) => if k < n + acq then { c with b := baseStep c.b r (Nat.min shift (Nat.log2 (k + 1 - n))) } else c

/-- The update from a line whose mask is there (R217, R220, R221). -/
def State.sprApply (s : State) (g : Nat) (u : SprUpd) : State :=
  let x := s.sprOf g
  let grow := s.sprF g Reg.SPR_FREEZE_GROW
  let mask := s.sprF g Reg.SPR_FREEZE_CLASS_MASK
  let hold := s.sprF g Reg.SPR_FREEZE_HOLD
  let here := (x.masks.filter (fun e => e.1 == u.k)).flatMap (fun e => e.2)
  let round := (x.masks.filter (fun e => decide (e.1 ≤ u.k) && decide (u.k ≤ e.1 + hold))).flatMap (fun e => e.2)
  let held : Bool := match x.frozen with
    | some (a, b) => decide (a ≤ u.k) && decide (u.k ≤ b)
    | none => false
  let t := s.sprF g Reg.SPR_CTL_TC_SHIFT
  let res := (List.range x.cols.length).map (fun j =>
    let c := x.cols.getD j ⟨0, 0, false, none⟩
    if u.bad.contains j ∨ !c.takes u.k (s.sprF g Reg.SPR_BASE_ACQ_LINES) then (c, false, false)
    else c.update (u.r.getD j 0) t (s.sprF g Reg.SPR_FREEZE_MAX) held (runCovers grow mask here j) (runCovers grow mask round j))
  let frozen := (res.filter (fun e => e.2.1)).length
  let freed := (res.filter (fun e => e.2.2)).length
  (((s.sprMod g (fun (y : Spr) => ({ y with cols := res.map (fun e => e.1) } : Spr))).sprCount g 1 frozen).sprCount g 2 freed).evIf (freed != 0)
    (s.sprWin g) Reg.SPR_EVENT_STUCK

/-- The updates due at the boundary before line m, in line order; one that a later line's mask overtakes is skipped (R219). False where a
mask is still out. -/
def State.sprDue : Nat → Nat → Nat → State → State × Bool
  | 0, _, _, s => (s, true)
  | n + 1, g, m, s =>
    let x := s.sprOf g
    match x.updates with
    | [] => (s, true)
    | u :: t =>
      let passed := t.any (fun c => decide (c.k + c.feedback ≤ u.k + u.feedback) && decide (c.k + c.feedback ≤ m))
      if passed then
        State.sprDue n g m ((s.sprMod g (fun (y : Spr) => ({ y with updates := t } : Spr))).sprCount g 1 x.cols.length)
      else if m < u.k + u.feedback then (s, true)
      else if !x.masks.any (fun e => e.1 == u.k) then (s, false)
      else State.sprDue n g m ((s.sprMod g (fun (y : Spr) => ({ y with updates := t } : Spr))).sprApply g u)

/-- The Reins inputs at the boundary before line k: THAW first (R221). -/
def State.sprReins (s : State) (g k f : Nat) : State :=
  let w := s.sprWin g
  let c := w / 32
  let sink := s.sinkOf .SPR w
  let nf := s.taskCount c sink 0
  let nt := s.taskCount c sink 1
  let s1 := if nt = 0 then s
    else ((s.taskTake c sink 1 nt).sprMod g (fun (y : Spr) => ({ y with frozen := none } : Spr))).ev w Reg.SPR_EVENT_THAW
  let s2 := if nf = 0 then s1
    else ((s1.taskTake c sink 0 nf).sprMod g (fun (y : Spr) =>
      ({ y with frozen := some (k + 1 - f, k + s1.sprF g Reg.SPR_REIN_FREEZE_LINES - 1) } : Spr))).ev w Reg.SPR_EVENT_REIN_FREEZE
  let left := match (s2.sprOf g).frozen with
    | some (_, b) => b + 1 - k
    | none => 0
  (s2.wf w Reg.SPR_STATUS_REIN_FROZEN (b2n (left != 0))).wf w Reg.SPR_STATUS_REMAIN (satN 65535 left)

/-- A seed at line m starts acquisition (R218). -/
def State.sprSeed (s : State) (g m n : Nat) : State :=
  ((((s.sprMod g (fun (y : Spr) => ({ y with
    seeded := true, s := m, updates := [], cols := (List.range n).map (fun j => ⟨(y.cols.getD j ⟨0, 0, false, none⟩).b, 0, false, none⟩) } : Spr))).sprCount g 0
    1).wf (s.sprWin g) Reg.SPR_STATUS_ACQUIRING 1).ev (s.sprWin g) Reg.SPR_EVENT_ACQ_START)

/-- The line at a place of the stretch, mirrored about its first place and, at its end, about its last (R216). -/
def Spr.place (x : Spr) (final : Bool) (i : Int) : Nat :=
  let last : Int := ((x.base + x.lines.length : Nat) : Int) - 1
  (clampI x.base last (if final then reflect last i else if i < 0 then -i else i)).toNat

/-- The line at a place. -/
def Spr.lineAt (x : Spr) (i : Nat) : Option SprLine := x.lines[i - x.base]?

/-- The rank filter at a place with half width h (R216). -/
def Spr.rankAt (x : Spr) (final : Bool) (i h : Nat) : List Int :=
  let rows := (List.range (2 * h + 1)).map (fun (d : Nat) => ((x.lineAt (x.place final ((i : Int) + d - h))).map (fun l => l.x)).getD [])
  let n := ((x.lineAt i).map (fun l => l.x.length)).getD 0
  (List.range n).map (fun j => medianOf (rows.map (fun r => r.getD j 0)))

/-- The acquisition update of line m, i lines after the seed (R217). -/
def State.sprAcquire (s : State) (g i : Nat) (r : List Int) (bad : List Nat) : State :=
  let t := Nat.min (s.sprF g Reg.SPR_CTL_TC_SHIFT) (log2Of i)
  let a := s.sprF g Reg.SPR_BASE_ACQ_LINES
  let shift := s.sprF g Reg.SPR_CTL_TC_SHIFT
  s.sprMod g (fun (y : Spr) => ({ y with cols := (List.range r.length).map (fun j =>
    let c := y.cols.getD j ⟨0, 0, false, none⟩
    if bad.contains j then c
    else if c.own.isSome then c.acquire (y.s + i - 1) a shift (r.getD j 0)
    else { c with b := baseStep c.b (r.getD j 0) t }) } : Spr))

/-- Show what follows from the settings at a line of MD Y_m: the nominal delay, S and F (R219, R224). -/
def State.sprShow (s : State) (g : Nat) (md : Int) : State :=
  let w := s.sprWin g
  let m := s.smoothNow g
  ((s.wf w Reg.SPR_DELAY_NOMINAL m.nominal).wf w Reg.SPR_MD_SHIFT_NM m.shift).wf w Reg.SPR_STATUS_FEEDBACK (s.feedbackAt g m md)

/-- Settings that a commit brings at a line. -/
def State.sprSettings (s : State) (g : Nat) (md : Int) : State := (s.armedAt g .SPR md).sprShow g md

/-- The deviation of a rank-filter output, and how many columns saturate (R217). -/
def Spr.deviation (x : Spr) (r : List Int) : List Int × Nat :=
  let raw := (List.range r.length).map (fun j => rne (r.getD j 0 * 65536 - ((x.cols.getD j ⟨0, 0, false, none⟩).b : Int)) 65536)
  (raw.map s16, (raw.filter s16Over).length)

/-- Form line m at place i (R217): its update or acquisition, its deviation. -/
def State.sprForm (s : State) (g i h : Nat) (final : Bool) (l : SprLine) : State :=
  let w := s.sprWin g
  let m := l.line.grid
  let sm := s.smoothNow g
  let f := s.feedbackAt g sm l.line.tag.md
  let r := (s.sprOf g).rankAt final i h
  let n := m + 1 - (s.sprOf g).s
  let a := s.sprF g Reg.SPR_BASE_ACQ_LINES
  let acq := decide (n ≤ a)
  let t := s.sprF g Reg.SPR_CTL_TC_SHIFT
  let own := fun (cs : List SprCol) => (List.range cs.length).map (fun j =>
    let c := cs.getD j ⟨0, 0, false, none⟩
    if l.bad.contains j then c else c.acquire m a t (r.getD j 0))
  let s1 := if acq then s.sprAcquire g n r l.bad
    else s.sprMod g (fun (y : Spr) => ({ y with cols := own y.cols, updates := y.updates ++ [⟨m, r, l.bad, f⟩] } : Spr))
  let was := s1.rb w Reg.SPR_STATUS_ACQUIRING
  let s2 := (s1.wf w Reg.SPR_STATUS_ACQUIRING (b2n (decide (n < a)))).evIf (was && decide (a ≤ n)) w Reg.SPR_EVENT_ACQ_END
  let d := (s2.sprOf g).deviation r
  let mute := acq && s2.rb w Reg.SPR_CTL_ACQ_MUTE
  let e := if mute then r.map (fun _ => 0) else d.1
  let sat := if mute then 0 else d.2
  let s3 := (s2.sprCount g 3 sat).evIf (sat != 0) w Reg.SPR_EVENT_SATURATE
  let s4 := s3.sprMod g (fun (y : Spr) => ({ y with
    formed := i + 1
    lines := lmod y.lines (i - y.base) (fun (q : SprLine) => ({ q with e := e, rank := h, smooth := sm } : SprLine)) } : Spr))
  let x := s4.sprOf g
  s4.sprDigest g m (x.cols.length :: x.cols.map (fun c => c.b) ++ [Nat.min n a]) ((x.lines.drop (i + 1 - x.base)).map (fun q => q.line))

/-- Springs forms what it can: the next line needs the lines of its rank window and the masks that are due (R219). -/
def State.sprFormAll : Nat → Nat → State → State
  | 0, _, s => s
  | n + 1, g, s =>
    let x := s.sprOf g
    match x.lineAt x.formed with
    | none => s
    | some l =>
      let final := x.closing.isSome
      let s1 := s.sprSettings g l.line.tag.md
      let h := if s1.rb (s1.sprWin g) Reg.SPR_CTL_RANK5 then 2 else 1
      if !final ∧ x.base + x.lines.length ≤ x.formed + h then s1
      else
        let sm := s1.smoothNow g
        let seed := !x.seeded
        let due := if seed then (s1, true) else State.sprDue 64 g l.line.grid s1
        if !due.2 then due.1
        else
          let s2 := due.1.sprReins g l.line.grid (due.1.feedbackAt g sm l.line.tag.md)
          let s3 := if seed then s2.sprSeed g l.line.grid l.x.length else s2
          State.sprFormAll n g (s3.sprForm g x.formed h final l)

/-! ### Smoothing and output (R222 to R224) -/

/-- The places that the smoothing window of a place reads, with their coefficients. -/
def Spr.taps (x : Spr) (final : Bool) (i : Nat) (m : Smooth) : List (Nat × Int) :=
  match m.mode with
  | 1 => (List.range m.coef.length).map (fun (t : Nat) => (x.place final ((i : Int) - m.half + t), m.coef.getD t 0))
  | 2 => (List.range m.coef.length).map (fun (t : Nat) => (x.place final ((i : Int) - t), m.coef.getD t 0))
  | _ => [(i, 16384)]

/-- The smoothed line of a place, and how many columns saturate (R222). -/
def Spr.smoothAt (x : Spr) (taps : List (Nat × Int)) (n : Nat) : List Int × Nat :=
  let rows := taps.map (fun t => (((x.lineAt t.1).map (fun l => l.e)).getD [], t.2))
  let raw := (List.range n).map (fun j => rne (rows.foldl (fun (a : Int) r => a + r.1.getD j 0 * r.2) 0) 16384)
  (raw.map s16, (raw.filter s16Over).length)

/-- The flags of an output line (R223): each line that the smoothing reads brings those of its own rank window. -/
def Spr.flagsAt (x : Spr) (final : Bool) (i : Nat) (taps : List (Nat × Int)) (l : SprLine) : Nat :=
  let rank := fun (p : Nat) => ((x.lineAt p).map (fun q => q.rank)).getD l.rank
  let places := taps.flatMap (fun t => (List.range (2 * rank t.1 + 1)).map (fun (d : Nat) => x.place final ((t.1 : Int) + d - rank t.1)))
  let seen := (i :: places).foldl (fun a p => a ||| ((x.lineAt p).map (fun q => q.line.tag.flags)).getD 0) 0
  let own := l.line.tag.flags
  (own - (own &&& orFlags)) + (seen &&& orFlags) ||| (if l.smooth.mode = 2 then 2048 else 0)

/-- The marker of a change of S (R224): the MD between two lines, and the grid lines not given out. -/
def shiftMark (d0 : Int) (g0 : Nat) (d1 : Int) (g1 : Nat) : Gap :=
  let m : Gap := ⟨0x10, 0, 0, d0, d1, 0, 0, g1 - g0 - 1, false, false, g0 + 1, g1 - 1⟩
  if g0 + 1 < g1 then m else m.noneFrom g1

/-- A line that is not given out has no mask to come: its update is skipped, and counts as frozen (log 61). -/
def State.sprSkip (s : State) (g k : Nat) : State :=
  let x := s.sprOf g
  if x.updates.any (fun u => u.k == k) then
    (s.sprMod g (fun (y : Spr) => ({ y with updates := y.updates.filter (fun u => u.k != k) } : Spr))).sprCount g 1 x.cols.length
  else s

/-- A formed and smoothed line leaves, unless a raised S holds it back (R224); what stood behind it follows. -/
def State.sprEmit (s : State) (g i : Nat) (final : Bool) (l : SprLine) : State :=
  let x := s.sprOf g
  let h := s.hop g .SPR
  let taps := x.taps final i l.smooth
  let y := x.smoothAt taps l.e.length
  let sat := if l.smooth.mode = 0 then 0 else y.2
  let s1 := (s.sprCount g 4 sat).evIf (sat != 0) (s.sprWin g) Reg.SPR_EVENT_SATURATE
  let md := l.line.tag.md - l.smooth.shift
  let tag : Tag := { l.line.tag with md := md, flags := x.flagsAt final i taps l }
  let o : Line := { l.line with tag := tag, planes := [if l.smooth.mode = 0 then l.e else y.1], poison := [[]] }
  let moved := x.lastMd.isSome && x.shift != l.smooth.shift
  let since := if moved && x.shiftFrom.isNone then x.lastMd.map (fun d => (d, x.lastOut)) else x.shiftFrom
  let late : Bool := match since, x.lastMd with
    | some _, some d => decide (md ≤ d)
    | _, _ => false
  let s2 := if late then (s1.sprSkip g l.line.grid).sprMod g (fun (z : Spr) => ({ z with shiftFrom := since } : Spr))
    else
      let s3 := match since with
        | some (d, m) => s1.pass g h (.gap (shiftMark d m md l.line.grid)) false
        | none => s1
      (s3.pass g h (.line o) false).sprMod g (fun (z : Spr) => ({ z with
        lastMd := some md, lastOut := l.line.grid, shiftFrom := none } : Spr))
  let s2 := (s2.sprMod g (fun (z : Spr) => ({ z with shift := l.smooth.shift } : Spr))).evIf moved (s.sprWin g) Reg.SPR_EVENT_DELAY_SHIFT
  let s4 := l.behind.foldl (fun t it => t.pass g h it false) s2
  s4.sprMod g (fun (z : Spr) =>
    let cut := i + 1 - 20 - z.base
    ({ z with out := i + 1, lines := z.lines.drop cut, base := z.base + cut } : Spr))

/-- Springs gives out what it can, and closes a stretch whose lines have all left. -/
def State.sprOutAll : Nat → Nat → State → State
  | 0, _, s => s
  | n + 1, g, s =>
    let x := s.sprOf g
    let total := x.base + x.lines.length
    let final := x.closing.isSome
    if x.out < x.formed ∧ !s.heldUp g (s.hop g .SPR) then
      match x.lineAt x.out with
      | none => s
      | some l =>
        if x.formed ≤ x.out + l.smooth.half ∧ !(final ∧ x.formed = total) then s
        else State.sprOutAll n g (s.sprEmit g x.out final l)
    else if final ∧ x.out = total then
      let s1 := match x.closing with
        | some it => s.pass g (s.hop g .SPR) it false
        | none => s
      let again := x.closing == some .start
      s1.sprMod g (fun (y : Spr) => ({ y with
        closing := none, lines := [], base := 0, formed := 0, out := 0, hole := true, seeded := y.seeded && !again
        lastGrid := if again then none else y.lastGrid, lastTag := if again then none else y.lastTag
        lastMd := if again then none else y.lastMd, shiftFrom := if again then none else y.shiftFrom } : Spr))
    else s

/-- Springs goes on as far as it can. -/
def State.sprRun (s : State) (g : Nat) : State := State.sprOutAll 64 g (State.sprFormAll 64 g s)

/-! ### Input -/

/-- The working samples of a line and its poisoned columns (R215). -/
def Line.working (l : Line) : List Int × List Nat :=
  match l.planes with
  | [r, g, b] =>
    ((List.range r.length).map (fun j => rne (19595 * r.getD j 0 + 38470 * g.getD j 0 + 7471 * b.getD j 0) 65536),
     (List.range r.length).filter (fun j => l.poison.any (fun p => p.contains j)))
  | p :: _ => (p, l.poison.getD 0 [])
  | [] => ([], [])

/-- A line comes in (R215, R216, R218). -/
def State.sprIn (s : State) (g : Nat) (l : Line) : State :=
  let x := s.sprOf g
  let left := match x.lastGrid with
    | some p => l.grid - p - 1
    | none => 0
  let gap := s.sprF g Reg.SPR_BASE_RESEED_GAP
  let again := x.hole && decide (0 < gap) && decide (gap ≤ left)
  let v := l.working
  let xs := (List.range v.1.length).map (fun j =>
    if v.2.contains j then rne ((x.cols.getD j ⟨0, 0, false, none⟩).b : Int) 65536 else v.1.getD j 0)
  let s1 := (s.sprCount g 5 v.2.length).evIf (!v.2.isEmpty) (s.sprWin g) Reg.SPR_EVENT_POISON
  (s1.mirrorLine g l).sprMod g (fun (y : Spr) => ({ y with
    lines := y.lines ++ [⟨l, xs, v.2, [], 0, ⟨0, [], 0⟩, []⟩]
    seeded := y.seeded && !again, hole := false, lastGrid := some l.grid, lastTag := some l.tag } : Spr))

/-- A marker that is no hole, or something else, passes in its place among the lines. -/
def State.sprBehind (s : State) (g : Nat) (it : Item) : State :=
  let x := s.sprOf g
  if x.out = x.base + x.lines.length then s.pass g (s.hop g .SPR) it false
  else s.sprMod g (fun (y : Spr) => ({ y with
    lines := lmod y.lines (y.lines.length - 1) (fun (q : SprLine) => ({ q with behind := q.behind ++ [it] } : SprLine)) } : Spr))

/-- What comes in: a marker that left out lines ends the stretch. -/
def State.sprTake (s : State) (g : Nat) (it : Item) : State :=
  match it with
  | .line l =>
    let x := s.sprOf g
    if x.flushed then
      let m := flushGap x.lastTag l.tag
      let k : Gap := match x.lastGrid with
        | some p => if p + 1 < l.grid then { m with from_ := p + 1, til := l.grid - 1 } else m.noneFrom l.grid
        | none => m.noneFrom l.grid
      State.sprIn (State.sprRun (s.sprMod g (fun (y : Spr) => ({ y with flushed := false, closing := some (.gap k) } : Spr))) g) g l.afterGap
    else s.sprIn g l
  | .gap m => if !m.isHole then s.sprBehind g it else s.sprMod g (fun (y : Spr) => ({ y with closing := some (.gap m) } : Spr))
  | .flushMark => s.sprMod g (fun (y : Spr) => ({ y with flushed := true } : Spr))
  | .start => s.sprMod g (fun (y : Spr) => ({ y with closing := some .start, flushed := false } : Spr))
  | other => s.sprBehind g other

/-- Whether Springs may take something in: no line waits for a mask and no stretch is closing. -/
def State.sprReady (s : State) (g : Nat) : Bool :=
  let x := s.sprOf g
  let h := if s.rb (s.sprWin g) Reg.SPR_CTL_RANK5 then 2 else 1
  x.closing.isNone && decide (x.base + x.lines.length ≤ x.formed + h)

/-- SPR_LINE: Springs of carriage g forms and gives out what it can, having taken the next thing in (R215). -/
def execSprLine (g : Nat) (s : State) : Host.Outcome State Fault Refusal :=
  .next (let s1 := s.sprRun g
    if !s1.sprReady g then s1
    else
      match s1.takeNext g (s1.hop g .SPR) with
      | none => s1
      | some (it, t) =>
        match s1.resyncHolds g it with
        | some true => t
        | some false => s1
        | none => (t.sprTake g it).sprRun g)

/-- FREEZE_MASK_RETURN: the next freeze mask of carriage g's SEG comes back, and Springs goes on with the update it allows (R219). -/
def execFreezeMaskReturn (g : Nat) (s : State) : Host.Outcome State Fault Refusal :=
  .next (match (s.sprOf g).sent with
    | [] => s
    | e :: t => (s.sprMod g (fun (y : Spr) => ({ y with
        sent := t, masks := (e :: y.masks).filter (fun q => decide (e.1 ≤ q.1 + 320)) } : Spr))).sprRun g)

/-- An event at a task input of Springs. -/
def State.actSprTask (s : State) (w task : Nat) : State := s.taskAdd (w / 32) (s.sinkOf .SPR w) task 1

/-- SPR_FREEZE: SPR_FREEZE_CMD.FREEZE of window w (R221). -/
def execSprFreeze (m : Nat) (v : Word) (w : Nat) (s : State) : Host.Outcome State Fault Refusal :=
  .next (s.regAct m w Reg.SPR_FREEZE_CMD_FREEZE v (fun t => t.actSprTask w 0))

/-- SPR_THAW: SPR_FREEZE_CMD.THAW of window w (R221). -/
def execSprThaw (m : Nat) (v : Word) (w : Nat) (s : State) : Host.Outcome State Fault Refusal :=
  .next (s.regAct m w Reg.SPR_FREEZE_CMD_THAW v (fun t => t.actSprTask w 1))

end Sys2Proof.Machine
end

