-- ==== Sys2Proof/Machine/Seg.lean ====
section
/-! DEFINITION. Segmentation (R229 to R233): local contrast, thresholds, hysteresis, the two run lists. The row names a carriage. -/

namespace Sys2Proof.Machine

/-- SEG of carriage g. -/
def State.segOf (s : State) (g : Nat) : Seg := cgetD s.seg g Seg.fresh

/-- Change SEG of carriage g. -/
def State.segMod (s : State) (g : Nat) (f : Seg → Seg) : State := { s with seg := cmod s.seg g Seg.fresh f }

/-- The line at a place of the stretch, mirrored about its first place and, at its end, about its last (R229). -/
def Seg.place (x : Seg) (final : Bool) (i : Int) : Nat :=
  let last : Int := ((x.base + x.lines.length : Nat) : Int) - 1
  (clampI x.base last (if final then reflect last i else if i < 0 then -i else i)).toNat

/-- The deviations at a place. -/
def Seg.devAt (x : Seg) (i : Nat) : List Int := ((x.lines[i - x.base]?).map (fun l => l.line.planes.getD 0 [])).getD []

/-- The sum over columns j − 15 to j + 15 of a line, mirrored about its ends. -/
def boxRow (l : List Int) (j : Nat) : Int := (List.range 31).foldl (fun a (k : Nat) => a + sampleAt l ((j : Int) + k - 15)) 0

/-- The local contrast of a place before it saturates (R229). -/
def Seg.contrast (x : Seg) (final : Bool) (i : Nat) : List Int :=
  let e := x.devAt i
  let rows := (List.range 31).map (fun (d : Nat) => x.devAt (x.place final ((i : Int) + d - 15)))
  (List.range e.length).map (fun j => e.getD j 0 - rne (rows.foldl (fun a r => a + boxRow r j) 0) 961)

/-- The maximal spans of columns that p picks, among columns lo to hi − 1. -/
def spansOf (p : Nat → Bool) (lo hi : Nat) : List (Nat × Nat) :=
  let step := fun (acc : List (Nat × Nat)) (j : Nat) =>
    if !p j then acc
    else
      match acc with
      | (a, b) :: t => if b + 1 = j then (a, j) :: t else (j, j) :: acc
      | [] => [(j, j)]
  ((rangeFrom lo (hi - lo)).foldl step []).reverse

/-- The foreground spans of a class (R230, R231): weak runs with a strong sample, or within one column of foreground on the line before. -/
def foreground (dark : Bool) (low high : Int) (v : List Int) (before : List (Nat × Nat)) : List (Nat × Nat) :=
  let weak := fun (j : Nat) => if dark then decide (v.getD j 0 ≤ -low) else decide (low ≤ v.getD j 0)
  let strong := fun (j : Nat) => if dark then decide (v.getD j 0 ≤ -high) else decide (high ≤ v.getD j 0)
  (spansOf weak 0 v.length).filter (fun r =>
    (rangeFrom r.1 (r.2 + 1 - r.1)).any strong || before.any (fun b => decide (b.1 ≤ r.2 + 1) && decide (r.1 ≤ b.2 + 1)))

/-- The runs of identical masks among columns lo to hi − 1 (R232). -/
def maskRuns (mask : Nat → Nat) (lo hi : Nat) : List Run :=
  let step := fun (acc : List Run) (j : Nat) =>
    if mask j = 0 then acc
    else
      match acc with
      | r :: t => if r.stop + 1 = j ∧ r.mask = mask j then { r with stop := j } :: t else ⟨j, j, mask j⟩ :: acc
      | [] => [⟨j, j, mask j⟩]
  ((rangeFrom lo (hi - lo)).foldl step []).reverse

/-- A column's class mask. -/
def maskAt (fg : List (List (Nat × Nat))) (j : Nat) : Nat :=
  maskOf (fg.map (fun spans => spans.any (fun r => decide (r.1 ≤ j) && decide (j ≤ r.2))))

/-- The foreground of every class on a line (R229 to R231); v is e, l the local contrast where it is available. -/
def State.segClasses (s : State) (w : Nat) (v l : List Int) (before : List (List (Nat × Nat))) : List (List (Nat × Nat)) :=
  (List.range 4).map (fun c =>
    if s.rf w (Reg.SEG_CLASS_ENABLE.sh (4 * c)) = 0 then []
    else
      foreground (s.rb w (Reg.SEG_CLASS_POLARITY.sh (4 * c))) (s.rf w (Reg.SEG_THR_LOW.sh (4 * c))) (s.rf w (Reg.SEG_THR_HIGH.sh (4 * c)))
        (if s.rb w (Reg.SEG_CLASS_CONTRAST.sh (4 * c)) then l else v) (before.getD c []))

/-- Whether an enabled class tests the local contrast value. -/
def State.segTests (s : State) (w : Nat) : Bool :=
  s.rb w Reg.SEG_CTL_CONTRAST_EN && (List.range 4).any (fun c =>
    s.rb w (Reg.SEG_CLASS_ENABLE.sh (4 * c)) && s.rb w (Reg.SEG_CLASS_CONTRAST.sh (4 * c)))

/-- Segment the line at a place: its lists, its counts, the freeze mask on its way to Springs, and the line on its way to LBL. -/
def State.segForm (s : State) (g i : Nat) (final : Bool) (l : SegLine) : State :=
  let w := s.eng .SEG g
  let x := s.segOf g
  let e := x.devAt i
  let raw := if s.segTests w then x.contrast final i else e
  let sat := (raw.filter s16Over).length
  let s1 := (s.add w (Reg.SEG_CNT_COUNT.sh 8) sat).evIf (sat != 0) w Reg.SEG_EVENT_SATURATE
  let before := if l.line.tag.flags.testBit 5 then [] else x.before.getD []
  let fg := s1.segClasses w e (raw.map s16) before
  let first := s1.rf w Reg.SEG_OWNED_FIRST
  let full := maskRuns (maskAt fg) 0 e.length
  let owned := maskRuns (maskAt fg) first (first + s1.rf w Reg.SEG_OWNED_COUNT)
  let n := owned.length
  let s2 := s1.wf w Reg.SEG_STATUS_RUNS (satN 65535 n)
  let s3 := if n = 0 then s2 else ((s2.inc w Reg.SEG_CNT_COUNT).add w (Reg.SEG_CNT_COUNT.sh 4) n).ev w Reg.SEG_EVENT_FOREGROUND
  let s4 := s3.sprMod g (fun (y : Spr) => ({ y with sent := y.sent ++ [(l.line.grid, full)] } : Spr))
  let s5 := s4.pass g (s4.hop g .SEG) (.line { l.line with runs := owned }) false
  let s6 := l.behind.foldl (fun t it => t.pass g (t.hop g .SEG) it false) s5
  let s7 := s6.segMod g (fun (y : Seg) =>
    let cut := i + 1 - 31 - y.base
    ({ y with formed := i + 1, before := some fg, lines := y.lines.drop cut, base := y.base + cut } : Seg))
  s7.digestPart g l.line.grid 1 (fg.flatMap (fun c => c.length :: c.flatMap (fun x => [x.1, x.2])))

/-- SEG goes on as far as it can: with local contrast it looks 15 lines ahead (R36, R233). -/
def State.segRun : Nat → Nat → State → State
  | 0, _, s => s
  | n + 1, g, s =>
    let x := s.segOf g
    let total := x.base + x.lines.length
    let final := x.closing.isSome
    match x.lines[x.formed - x.base]? with
    | some l =>
      let s1 := s.armedAt g .SEG l.line.tag.md
      let ahead := if s1.rb (s1.eng .SEG g) Reg.SEG_CTL_CONTRAST_EN then 15 else 0
      if (!final ∧ total ≤ x.formed + ahead) ∨ s1.heldUp g (s1.hop g .SEG) then s1
      else State.segRun n g (s1.segForm g x.formed final l)
    | none =>
      match x.closing with
      | some it => (s.pass g (s.hop g .SEG) it false).segMod g (fun (y : Seg) =>
          ({ y with closing := none, lines := [], base := 0, formed := 0, before := none } : Seg))
      | none => s

/-- Something that is no hole passes in its place among the lines. -/
def State.segBehind (s : State) (g : Nat) (it : Item) : State :=
  let x := s.segOf g
  if x.formed = x.base + x.lines.length then s.pass g (s.hop g .SEG) it false
  else s.segMod g (fun (y : Seg) => ({ y with
    lines := lmod y.lines (y.lines.length - 1) (fun (q : SegLine) => ({ q with behind := q.behind ++ [it] } : SegLine)) } : Seg))

/-- A line comes in. -/
def State.segIn (s : State) (g : Nat) (l : Line) : State :=
  s.segMod g (fun (y : Seg) => ({ y with lines := y.lines ++ [⟨l, []⟩], lastTag := some l.tag, lastGrid := some l.grid } : Seg))

/-- What comes in. -/
def State.segTake (s : State) (g : Nat) (it : Item) : State :=
  let x := s.segOf g
  match it with
  | .line l =>
    if x.flushed then
      let m := flushGap x.lastTag l.tag
      let k : Gap := match x.lastGrid with
        | some p => if p + 1 < l.grid then { m with from_ := p + 1, til := l.grid - 1 } else m.noneFrom l.grid
        | none => m.noneFrom l.grid
      State.segIn (State.segRun 64 g (s.segMod g (fun (y : Seg) => ({ y with flushed := false, closing := some (.gap k) } : Seg)))) g l.afterGap
    else s.segIn g l
  | .gap m => if m.isHole then s.segMod g (fun (y : Seg) => ({ y with closing := some it } : Seg)) else s.segBehind g it
  | .flushMark => s.segMod g (fun (y : Seg) => ({ y with flushed := true } : Seg))
  | .start => s.segMod g (fun (y : Seg) => ({ y with closing := some it, flushed := false } : Seg))
  | other => s.segBehind g other

/-- SEG_LINE: SEG of carriage g thresholds what it can, having taken the next thing in (R229 to R232). -/
def execSegLine (g : Nat) (s : State) : Host.Outcome State Fault Refusal :=
  .next (let s1 := State.segRun 64 g s
    let x := s1.segOf g
    let ahead := if s1.rb (s1.eng .SEG g) Reg.SEG_CTL_CONTRAST_EN then 15 else 0
    if x.closing.isSome ∨ x.formed + ahead < x.base + x.lines.length then s1
    else
      match s1.takeNext g (s1.hop g .SEG) with
      | none => s1
      | some (it, t) => State.segRun 64 g (t.segTake g it))

end Sys2Proof.Machine
end

