-- ==== Sys2Proof/Machine/Lbl.lean ====
section
/-! DEFINITION. Labelling within a carriage (R234 to R239, R245, R246). Rows name a carriage. -/

namespace Sys2Proof.Machine

/-- The labeller of carriage g. -/
def State.lblOf (s : State) (g : Nat) : Lbl := cgetD s.lbl g Lbl.fresh

/-- Change the labeller of carriage g. -/
def State.lblMod (s : State) (g : Nat) (f : Lbl → Lbl) : State := { s with lbl := cmod s.lbl g Lbl.fresh f }

/-- Its window. -/
def State.lblWin (s : State) (g : Nat) : Nat := s.eng .LBL g

/-- Add to its counter n. -/
def State.lblCount (s : State) (g n k : Nat) : State := s.add (s.lblWin g) (Reg.LBL_CNT_COUNT.sh (4 * n)) k

/-- f_g (R242). -/
def State.lblFront (s : State) (g : Nat) : Nat := s.rf64 (s.lblWin g) Reg.LBL_FRONTIER_LO_LINE

/-- Something goes to the slice. -/
def State.lblSend (s : State) (g : Nat) (it : Item) : State := s.pass g (s.hop g .LBL) it false

/-- OPEN. -/
def State.lblShow (s : State) (g : Nat) : State := s.wf (s.lblWin g) Reg.LBL_STATUS_OPEN (s.lblOf g).comps.length

/-- L in force at a line (R246, R268). -/
def State.contAt (s : State) (m : Nat) : Nat :=
  Nat.max 1 (if m < s.dbm.contFrom then s.dbm.contOld else s.rf 0 Reg.DBM_CONT_LINES)

/-- Whether components are cut at a line. -/
def State.cutLine (s : State) (m : Nat) : Bool := m % s.contAt m == 0

/-- The line at which the segment of a line ends. -/
def State.segEnd (s : State) (m : Nat) : Nat :=
  let l := s.contAt m
  let e := (m / l + 1) * l
  if m < s.dbm.contFrom ∧ s.dbm.contFrom < e then s.dbm.contFrom else e

/-! ### Features (R235, R236) -/

/-- The record flags that a line's tag flags give (R236). -/
def flagsOfTag (f : Nat) : Nat :=
  (if f.testBit 10 then 0x10 else 0) + (if f.testBit 13 then 0x20 else 0) + (if f.testBit 12 then 0x40 else 0) +
  (if f.testBit 7 then 0x100 else 0) + (if f.testBit 11 then 0x200 else 0) + (if f.testBit 8 then 0x400 else 0) +
  (if f.testBit 4 then 0x800 else 0) + (if f.testBit 9 then 0x4000 else 0)

/-- The features of one run: package columns a to b of a line, with their deviations. -/
def runFeat (g m a b mask : Nat) (e : List Int) (t : Tag) : Feat :=
  let xs := rangeFrom a (b + 1 - a)
  let n := xs.length
  let dev := fun (x : Nat) => e.getD (x - a) 0
  let sum := fun (f : Nat → Nat) => (xs.map f).sum
  let sx := sum (fun x => x)
  { area := n, xmin := a, xmax := b, mfirst := m, mlast := m, sx := sx, sm := n * m
    wa := sum (fun x => (dev x).natAbs), wax := sum (fun x => (dev x).natAbs * x), wam := sum (fun x => (dev x).natAbs * m)
    sxx := sum (fun x => x * x), smm := n * m * m, sxm := sx * m
    emin := (xs.map dev).foldl (fun p q => if q < p then q else p) (dev a)
    emax := (xs.map dev).foldl (fun p q => if p < q then q else p) (dev a)
    esum := (xs.map dev).foldl (· + ·) 0
    classes := (List.range 4).map (fun c => if mask.testBit c then n else 0)
    md := t.md, time := t.time, timeBy := g, epoch := t.epoch, epochBy := g, epochLast := t.epoch, epochLastBy := g
    seen := [(g, t.epoch)], carrLo := g, carrHi := g, flags := flagsOfTag t.flags }

/-- The features of two pieces together: a piece's first or last line gives EPOCH and TIME, on one line the lowest carriage's (R250). -/
def Feat.join (p q : Feat) : Feat :=
  let qFirst := decide (q.mfirst < p.mfirst) || (q.mfirst == p.mfirst && decide (q.epochBy < p.epochBy))
  let qLast := decide (p.mlast < q.mlast) || (p.mlast == q.mlast && decide (q.timeBy < p.timeBy))
  { area := p.area + q.area, xmin := Nat.min p.xmin q.xmin, xmax := Nat.max p.xmax q.xmax
    mfirst := Nat.min p.mfirst q.mfirst, mlast := Nat.max p.mlast q.mlast, sx := p.sx + q.sx, sm := p.sm + q.sm
    wa := p.wa + q.wa, wax := p.wax + q.wax, wam := p.wam + q.wam, sxx := p.sxx + q.sxx, smm := p.smm + q.smm, sxm := p.sxm + q.sxm
    emin := if q.emin < p.emin then q.emin else p.emin, emax := if p.emax < q.emax then q.emax else p.emax
    esum := p.esum + q.esum, classes := (List.range 4).map (fun c => p.classes.getD c 0 + q.classes.getD c 0)
    md := if q.md < p.md then q.md else p.md
    time := if qLast then q.time else p.time, timeBy := if qLast then q.timeBy else p.timeBy
    epoch := if qFirst then q.epoch else p.epoch, epochBy := if qFirst then q.epochBy else p.epochBy
    epochLast := if qLast then q.epochLast else p.epochLast, epochLastBy := if qLast then q.epochLastBy else p.epochLastBy
    seen := p.seen ++ q.seen.filter (fun e => !p.seen.contains e)
    carrLo := Nat.min p.carrLo q.carrLo, carrHi := Nat.max p.carrHi q.carrHi, flags := p.flags ||| q.flags }

/-- The features of two pieces that may be empty. -/
def joinFeat : Option Feat → Option Feat → Option Feat
  | some p, some q => some (p.join q)
  | some p, none => some p
  | none, q => q

/-! ### Closing (R238, R239, R246) -/

/-- The fragment of a component's present segment, which has no features where it closes behind a cut without a run since; EPOCH_MIXED where it saw more than one EPOCH (R251). -/
def State.fragOf (s : State) (g : Nat) (c : Comp) (close flags : Nat) (cut : Bool) (forced : Nat) : Frag :=
  let mixed : Nat := match c.feat with
    | some f => if 1 < f.seen.length then 0x80 else 0
    | none => 0
  ⟨g, c.labels, if cut then close else if c.feat.isSome then s.segEnd c.last else s.segEnd close, c.feat, flags ||| mixed, close, cut, forced,
    c.seams⟩

/-- A component closes and goes to the slice. -/
def State.lblClose (s : State) (g : Nat) (c : Comp) (close flags forced : Nat) : State :=
  let f := s.fragOf g c close flags false forced
  ((s.lblMod g (fun (x : Lbl) => ({ x with comps := x.comps.filter (fun d => d.label != c.label) } : Lbl))).lblCount g 0 1).lblSend g (.frag f)

/-- Every open component closes with flags that its last line decides. -/
def State.lblCloseAll (s : State) (g close : Nat) (flags : Comp → Nat) (forced : Nat) : State :=
  (s.lblOf g).comps.foldl (fun t c => t.lblClose g c close (flags c) forced) s

/-- The cut at line m: open components hand in their features and start again (R246). -/
def State.lblCut (s : State) (g m : Nat) : State :=
  let x := s.lblOf g
  if x.comps = [] ∨ !s.cutLine m then s
  else
    let s1 := x.comps.foldl (fun t c => (t.lblCount g 0 1).lblSend g (.frag (t.fragOf g c m 0 true 0))) s
    (s1.lblMod g (fun (y : Lbl) => ({ y with comps := y.comps.map (fun (c : Comp) => ({ c with feat := none } : Comp)) } : Lbl))).ev (s.lblWin g)
      Reg.LBL_EVENT_CUT

/-- A component that is to make room: the lowest last line, then the lowest first column (R239). -/
def oldestComp : List Comp → Option Comp
  | [] => none
  | c :: t => some (t.foldl (fun b a => if a.last < b.last ∨ (a.last = b.last ∧ a.col < b.col) then a else b) c)

/-- A place for a new component at line m. -/
def State.lblRoom (s : State) (g m : Nat) : State :=
  if (s.lblOf g).comps.length < 65536 then s
  else
    match oldestComp (s.lblOf g).comps with
    | some c => ((s.lblClose g c m 4 1).lblCount g 1 1).ev (s.lblWin g) Reg.LBL_EVENT_FULL
    | none => s

/-! ### A line (R234, R237) -/

/-- Components become one: the lowest label stands. -/
def Comp.unite (a b : Comp) : Comp :=
  ⟨Nat.min a.label b.label, a.labels ++ b.labels, Nat.max a.last b.last, Nat.min a.col b.col, joinFeat a.feat b.feat, a.seams ||| b.seams⟩

/-- A run of a line: it joins the components it touches on the line before, or starts one. The answer is its label. -/
def State.lblRun (s : State) (g m a b : Nat) (f : Feat) : State × Nat :=
  let x := s.lblOf g
  let touch := (x.before.filter (fun r => decide (a ≤ r.2.1 + 1) && decide (r.1 ≤ b + 1))).map (fun r => r.2.2)
  let mine := x.comps.filter (fun c => c.labels.any (fun l => touch.contains l))
  match mine with
  | [] =>
    let s1 := s.lblRoom g m
    let n := (s1.lblOf g).next
    (s1.lblMod g (fun (y : Lbl) => ({ y with next := n + 1, comps := y.comps ++ [⟨n, [n], m, a, some f, 0⟩] } : Lbl)), n)
  | c :: t =>
    let u := t.foldl Comp.unite c
    let v : Comp := { u with last := m, col := Nat.min u.col a, feat := joinFeat u.feat (some f) }
    let gone := mine.map (fun d => d.label)
    (s.lblMod g (fun (y : Lbl) => ({ y with comps := y.comps.filter (fun d => !gone.contains d.label) ++ [v] } : Lbl)), v.label)

/-- A run that covers a boundary column marks its component for the seam (R238), and gives an edge report or, on an unjoined line, that mark
(R237). -/
def State.lblEdge (s : State) (g m label a b : Nat) (low alone : Bool) : State :=
  let s1 := s.lblMod g (fun (y : Lbl) => ({ y with comps := y.comps.map (fun (c : Comp) =>
    if c.labels.contains label then ({ c with
      seams := c.seams ||| (if low then 1 else 2)
      feat := if alone then c.feat.map (fun (f : Feat) => ({ f with flags := f.flags ||| 0x1000 } : Feat)) else c.feat } : Comp)
    else c) } : Lbl))
  if alone then s1
  else (s1.lblCount g 3 1).lblSend g (.report ⟨if !low then g else if g = 0 then 255 else g - 1, !low, m, g, label, a, b⟩)

/-- The frontier moves up and is reported (R242). -/
def State.lblAdvance (s : State) (g m : Nat) : State :=
  if m ≤ s.lblFront g then s else (s.wf64 (s.lblWin g) Reg.LBL_FRONTIER_LO_LINE m).lblSend g (.frontier g m)

/-- The runs of a line in package columns with their features. -/
def State.lblRuns (s : State) (g : Nat) (l : Line) : List (Nat × Nat × Nat × Feat) :=
  match s.carr g with
  | none => []
  | some r => l.runs.map (fun q =>
    let a := r.firstCol + q.start - r.ovlLow
    let b := r.firstCol + q.stop - r.ovlLow
    (a, b, q.mask, runFeat g l.grid a b q.mask (((l.planes.getD 0 []).drop q.start).take (q.stop + 1 - q.start)) l.tag))

/-- Runs of the line that cover a boundary column of a joined side. -/
def State.lblEdges (s : State) (g : Nat) (l : Line) (runs : List (Nat × Nat × Nat)) : State :=
  match s.carr g with
  | none => s
  | some r =>
    let w := s.lblWin g
    runs.foldl (fun t q =>
      let t1 := if s.rb w Reg.LBL_CFG_SEAM_LOW ∧ q.1 ≤ r.firstCol then t.lblEdge g l.grid q.2.2 q.1 q.2.1 true l.unjoinedLow else t
      if s.rb w Reg.LBL_CFG_SEAM_HIGH ∧ r.firstCol + r.owned ≤ q.2.1 + 1 then t1.lblEdge g l.grid q.2.2 q.1 q.2.1 false l.unjoinedHigh else t1) s

/-- A line through the labeller. -/
def State.lblLine (s : State) (g : Nat) (l : Line) : State :=
  let m := l.grid
  let s1 := (s.armedAt g .LBL l.tag.md).lblCut g m
  let s2 := if l.tag.flags.testBit 5 then s1.lblMod g (fun (y : Lbl) => ({ y with before := [] } : Lbl)) else s1
  let r := (s2.lblRuns g l).foldl (fun (a : State × List (Nat × Nat × Nat)) q =>
    let x := a.1.lblRun g m q.1 q.2.1 q.2.2.2
    (x.1, a.2 ++ [(q.1, q.2.1, x.2)])) (s2, [])
  let s3 := r.1.lblEdges g l r.2
  let k := Nat.max 1 (s3.rf (s3.lblWin g) Reg.LBL_CTL_CLOSE_K)
  let s4 := ((s3.lblOf g).comps.filter (fun c => decide (c.last + k ≤ m))).foldl (fun t c => t.lblClose g c (c.last + k) 0 0) s3
  let s5 := ((s4.lblMod g (fun (y : Lbl) => ({ y with before := r.2, lastLine := some m, lastTag := some l.tag } : Lbl))).lblAdvance g m).lblShow g
  s5.lblDigest g m (s5.lblOf g).comps r.2 l.tag.epoch

/-- The end mark of a stretch that the part itself ends: before a sleep it closes what is open as a hole does (R427), before a reconfiguration
with TRUNCATED, and in a patch with GAP_ADJACENT at a seam (R70, R78, R238). It goes no further. -/
def State.lblEnd (s : State) (g : Nat) (m : Gap) : State :=
  let x := s.lblOf g
  let flags : Comp → Nat := if m.cause = sleepEnd then (fun c => if x.lastLine = some c.last then 8 else 0)
    else if m.cause = loadEnd then (fun _ => 4)
    else (fun c => if c.seams != 0 then 12 else 4)
  let t := s.lblCloseAll g m.from_ flags (if m.cause = sleepEnd then 0 else if m.cause = loadEnd then 3 else 2)
  (t.lblMod g (fun (y : Lbl) => ({ y with before := [] } : Lbl))).lblShow g

/-- A gap marker at the labeller (R238): a hole closes what is open, and the marker goes on. -/
def State.lblGap (s : State) (g : Nat) (m : Gap) : State :=
  if m.isEnd then s.lblEnd g m
  else
  let s1 := if !m.isHole then s
    else
      let x := s.lblOf g
      let n := x.comps.length
      let t := s.lblCloseAll g m.from_ (fun c => if x.lastLine = some c.last then 8 else 0) 0
      ((t.lblCount g 2 n).evIf (n != 0) (s.lblWin g) Reg.LBL_EVENT_GAP_CLOSE).lblMod g (fun (y : Lbl) => ({ y with before := [] } : Lbl))
  let s2 := s1.lblSend g (.gap m)
  (if m.from_ ≤ m.til then s2.lblAdvance g m.til else s2).lblShow g

/-! ### A carriage that lags (R245) -/

/-- Whether a carriage is excluded. -/
def State.excluded (s : State) (g : Nat) : Bool := s.rb (s.lblWin g) Reg.LBL_STATUS_EXCLUDED

/-- Show the excluded carriages. -/
def State.lagShow (s : State) : State :=
  let m := s.dbm.lag.foldl (fun a e => a + 2 ^ e.1) 0
  (s.wf 0 Reg.DBM_LAGGING_LO_MASK m).wf 0 Reg.DBM_LAGGING_HI_MASK (m / 2 ^ 32)

/-- An excluded carriage delivers line m beyond the present chunk: it goes on as after a hole and rejoins Φ. -/
def State.lblRejoin (s : State) (g m : Nat) : State :=
  let st := cgetD s.dbm.streams 255 Stream.fresh
  let s1 := { s with dbm := { s.dbm with
    lag := cdel s.dbm.lag g, streams := cset s.dbm.streams 255 { st with front := cset st.front g (m - 1) } } }
  (((s1.lagShow.wf (s.lblWin g) Reg.LBL_STATUS_EXCLUDED 0).wf64 (s.lblWin g) Reg.LBL_FRONTIER_LO_LINE (m - 1)).ev 0 Reg.DBM_EVENT_REJOIN).lblMod g
    (fun (y : Lbl) => ({ y with before := [], lastLine := none } : Lbl))

/-- A line or marker that LAG records cover is discarded. -/
def State.lblDiscard (s : State) (g : Nat) : State := (s.lblCount g 4 1).ev (s.lblWin g) Reg.LBL_EVENT_DISCARD

/-- The part of a marker from grid line k on: trigger numbers go by the MD they stand at (log 36). -/
def Gap.beyond (m : Gap) (k : Nat) (pitch : Nat) : Gap :=
  let y : Int := k * pitch
  let span := m.md1 - m.md0
  let steps : Int := (m.last - m.first : Nat)
  let drop : Nat := if span ≤ 0 ∨ y ≤ m.md0 then 0 else (clampI 0 steps (-(Int.ediv (-((y - m.md0) * steps)) span))).toNat
  if m.indexed then
    { m with from_ := k, first := m.first + drop, count := m.count - drop
             md0 := m.md0 + (if steps = 0 then 0 else rne (span * drop) steps.toNat)
             time0 := m.time0 + (if steps = 0 then 0 else rne ((m.time1 - m.time0) * drop) steps.toNat) }
  else { m with from_ := k }

/-- The record that a harness load owes a carriage: from its last line to its first, named by the number behind the last (log 62). -/
def loadGap (before : Option Tag) (after : Tag) : Gap :=
  let a := before.getD after
  ⟨5, a.index + 1, a.index + 1, a.md, after.md, a.time, after.time, 0, false, true, 1, 0⟩

/-- What comes in. -/
def State.lblTake (s : State) (g : Nat) (it : Item) : State :=
  let next := cgetD s.dbm.lag g 0
  match it with
  | .line l =>
    if s.excluded g then
      if l.grid < next then s.lblDiscard g else (s.lblRejoin g l.grid).lblLine g l
    else
      let x := s.lblOf g
      if x.owes ≠ 0 then
        let m : Gap := if x.owes = 5 then loadGap x.lastTag l.tag else flushGap x.lastTag l.tag
        let k : Gap := match x.lastLine with
          | some p => if p + 1 < l.grid then { m with from_ := p + 1, til := l.grid - 1 } else m.noneFrom l.grid
          | none => m.noneFrom l.grid
        State.lblLine ((s.lblMod g (fun (y : Lbl) => ({ y with owes := 0 } : Lbl))).lblGap g k) g l.afterGap
      else s.lblLine g l
  | .gap m =>
    if s.excluded g then
      if m.til < next then s.lblDiscard g
      else (s.lblRejoin g (Nat.max m.from_ next)).lblGap g (if m.from_ < next then m.beyond next s.gridMd else m)
    else s.lblGap g m
  | .flushMark => s.lblMod g (fun (y : Lbl) => ({ y with owes := 0x17 } : Lbl))
  | .start =>
    let t := s.lblCloseAll g (s.lblFront g + 1) (fun _ => 4) 0
    (((t.lblMod g (fun (y : Lbl) => ({ y with before := [], lastLine := none, lastTag := none, owes := 0 } : Lbl))).wf64 (s.lblWin g)
      Reg.LBL_FRONTIER_LO_LINE 0).lblSend g .start).lblShow g
  | other => s.lblSend g other

/-- Whether something is of a patched carriage's look-ahead alone: a line or marker beyond what the old chain completes (R78). -/
def State.lookAhead (s : State) (g : Nat) (it : Item) : Bool :=
  match it with
  | .line l => s.patchCut g l.grid
  | .gap m => !m.isEnd && s.patchCut g m.from_
  | _ => false

/-- LBL_LINE: the labeller of carriage g takes the next thing in (R234 to R238). -/
def execLblLine (g : Nat) (s : State) : Host.Outcome State Fault Refusal :=
  .next (match s.takeNext g (s.hop g .LBL) with
    | none => s
    | some (it, t) => if s.lookAhead g it then t else t.lblTake g it)

end Sys2Proof.Machine
end

