-- ==== Sys2Proof/Machine/Streams.lean ====
section
/-! DEFINITION. Record streams as every block that adds a record sees them: the order of records (R247, R256) and gap records that count grid
lines (R249, R253, R254). -/

namespace Sys2Proof.Machine

/-- A record stream. -/
def State.strm (s : State) (k : Nat) : Stream := cgetD s.dbm.streams k Stream.fresh

/-- Change a record stream. -/
def State.strmMod (s : State) (k : Nat) (f : Stream → Stream) : State :=
  { s with dbm := { s.dbm with streams := cmod s.dbm.streams k Stream.fresh f } }

/-- Whether a record comes before another. -/
def Rec.before (a b : Rec) : Bool :=
  if a.sort != b.sort then decide (a.sort < b.sort)
  else if a.kind != b.kind then decide (a.kind < b.kind)
  else if a.cd != b.cd then decide (a.cd < b.cd)
  else decide (a.did < b.did)

/-- Put a record in its place, behind those of the same key. -/
def putRec (r : Rec) : List Rec → List Rec
  | [] => [r]
  | x :: t => if r.before x then r :: x :: t else x :: putRec r t

/-- A record enters a stream. -/
def State.addRec (s : State) (k : Nat) (r : Rec) : State := s.strmMod k (fun (t : Stream) => ({ t with recs := putRec r t.recs } : Stream))

/-! ### Gap records (R253, R254) -/

/-- Y of a grid line, nm. -/
def State.yOf (s : State) (m : Nat) : Int := (m : Int) * s.gridMd

/-- FLAGS of a gap or summary record beyond its own bits: SHADOW on a standby, REPLAY in a replay stream. -/
def State.strmFlags (s : State) (k : Nat) : Nat := (if s.standby then 0x20 else 0) + (if k = 255 then 0 else 0x40)

/-- The bytes of a gap record. -/
def gapBytes (cause flags run : Nat) (md0 md1 t0 t1 : Int) (first car high last detail : Nat) : List Byte :=
  toBytes 1 3 ++ toBytes 1 cause ++ toBytes 2 flags ++ toBytes 4 run ++ toBytes 8 0 ++ toBytes 8 (unsgn 64 md0) ++ toBytes 8 (unsgn 64 md1) ++
  toBytes 8 (unsgn 64 t0) ++ toBytes 8 (unsgn 64 t1) ++ toBytes 6 first ++ toBytes 1 car ++ toBytes 1 high ++ toBytes 6 last ++ toBytes 2 detail

/-- A gap record that counts grid lines a to a + n − 1. -/
def State.lineGap (s : State) (k cause a n car high detail : Nat) : Rec :=
  let e := s.yOf (a + (n - 1))
  ⟨a, 1, 0, 0, 0, gapBytes cause (s.strmFlags k) n (s.yOf a) e s.now s.now (2 ^ 48 - 1) car high (2 ^ 48 - 1) detail, e.toNat, none⟩

/-- A gap record of no line at Φ + 1 for a recovery (R249). -/
def State.recoveryGap (s : State) (cause car : Nat) : State := s.addRec 255 (s.lineGap 255 cause ((s.strm 255).phi + 1) 0 car 0xFF 0)

end Sys2Proof.Machine
end

