-- ==== Sys2Proof/Machine/Inet.lean ====
section
/-! DEFINITION. The Ethernet frames of the part's own services (R83): addresses, the tag, IPv4 and UDP, and the FCS. -/

namespace Sys2Proof.Machine

/-- Replace the bytes at a place of a list. -/
def overlay (l : List Byte) (at' : Nat) (x : List Byte) : List Byte := l.take at' ++ x ++ l.drop (at' + x.length)

/-- The Internet checksum's sum of big-endian 16-bit words, an odd last byte padded with 0. -/
def inetSum : List Byte → Nat
  | a :: b :: t => 256 * a.toNat + b.toNat + inetSum t
  | [a] => 256 * a.toNat
  | [] => 0

/-- Fold the carries of an Internet checksum and complement it. -/
def inetFold (n : Nat) : Nat :=
  let a := n % 65536 + n / 65536
  let b := a % 65536 + a / 65536
  65535 - b

/-- A frame with its IPv4 UDP checksum computed again; a frame that is not IPv4 UDP stays as it is (R378). -/
def udpFix (f : List Byte) : List Byte :=
  let l2 := if beAt f 12 2 = 0x8100 then 18 else 14
  let ihl := 4 * (leAt f l2 1 % 16)
  let u := l2 + ihl
  if beAt f (l2 - 2) 2 ≠ 0x0800 ∨ leAt f (l2 + 9) 1 ≠ 17 then f
  else
    let len := beAt f (u + 4) 2
    let z := overlay f (u + 6) [0, 0]
    let c := inetFold (inetSum (bytesAt f (l2 + 12) 8) + 17 + len + inetSum (bytesAt z u len))
    overlay f (u + 6) (toBytes 2 (if c = 0 then 65535 else c)).reverse

/-- The MAC address of a lane, byte 0 first. -/
def State.macBytes (s : State) (l : Nat) : List Byte :=
  (toBytes 2 (s.lf l Reg.LAN_MAC_HI_MAC)).reverse ++ (toBytes 4 (s.lf l Reg.LAN_MAC_LO_MAC)).reverse

/-- The 802.1Q tag that frames carry, if any. -/
def State.vlanTag (s : State) (l : Nat) : List Byte :=
  if s.rb (laneInst l) Reg.LAN_ETH_VLAN_ON then (toBytes 2 0x8100).reverse ++ (toBytes 2 (s.lf l Reg.LAN_ETH_VLAN)).reverse else []

/-- A UDP datagram in an IPv4 packet from a lane, without padding or FCS. The fields of the IPv4 header that the spec does not give (type of
service, identification, fragment flags, time to live) are open (log 77). -/
def State.udpFrame (s : State) (l : Nat) (mac : List Byte) (ip srcPort dstPort : Nat) (data : List Byte) : List Byte :=
  let be := fun (n v : Nat) => (toBytes n v).reverse
  let h := fun (sum : Nat) => [0x45] ++ be 1 (Config.ipHeader s.freeCtr 0) ++ be 2 (28 + data.length) ++ be 2 (Config.ipHeader s.freeCtr 1) ++
    be 2 (Config.ipHeader s.freeCtr 2) ++ be 1 (Config.ipHeader s.freeCtr 3) ++ [17] ++ be 2 sum ++ be 4 (s.lf l Reg.LAN_IPV4_ADDR) ++ be 4 ip
  udpFix (mac ++ s.macBytes l ++ s.vlanTag l ++ [0x08, 0x00] ++ h (inetFold (inetSum (h 0))) ++
    be 2 srcPort ++ be 2 dstPort ++ be 2 (8 + data.length) ++ [0, 0] ++ data)

/-- A frame leaves a lane, filled to the least length, with its FCS. -/
def State.ethOut (s : State) (k : EgKind) (l : Nat) (frame : List Byte) : State :=
  s.emit k l ((withFcs (frame ++ List.replicate (60 - frame.length) 0)).map (fun b => b.toNat))

end Sys2Proof.Machine
end

