-- ==== Sys2Proof/Machine/Timetable.lean ====
section
/-! DEFINITION. The Timetable (R370 to R384): time, the servo and its steps, the PTP port, launches, alarms and markers. -/

namespace Sys2Proof.Machine

/-- Put a new Timetable part in place. -/
def State.tmtSet (s : State) (f : Tmt → Tmt) : State := { s with tmt := f s.tmt }

/-- Set TMT_STATUS.STATE; becoming locked or grandmaster sets LOCKED (R372). -/
def State.toTime (s : State) (n : Nat) : State :=
  let was := s.rf 0 Reg.TMT_STATUS_STATE
  let s1 := s.wf 0 Reg.TMT_STATUS_STATE n
  let s2 := if s1.unlocked = s.unlocked then s1 else s1.tmtSet (fun t => { t with moves := ((s.now, s.unlocked) :: t.moves).take 16 })
  s2.evIf (n != was && (n == 3 || n == 5)) 0 Reg.TMT_EVENT_LOCKED

/-- JUMP_LIMIT, ns. -/
def State.jumpLimit (s : State) : Nat := s.rf 0 Reg.TMT_JUMP_LIMIT_NS

/-! ### Rate and holdover -/

/-- The rates of the last 16 s and the one before them. -/
def keepRates (lim : Int) : List (Nat × Int) → List (Nat × Int)
  | [] => []
  | x :: t => if (x.1 : Int) ≤ lim then [x] else x :: keepRates lim t

/-- Change the rate correction, remembering it for the mean of R377. -/
def State.setRate (s : State) (r : Int) : State :=
  (s.tmtSet (fun t => { t with rates := keepRates ((s.now : Int) - 16000000000) ((s.now, r) :: t.rates) })).wf 0 Reg.TMT_RATE_RATE (unsgn 32 r)

/-- Sum of rate times duration, and of durations, from lim to til. -/
def rateSum (lim : Int) : Int → List (Nat × Int) → Int × Int
  | _, [] => (0, 0)
  | til, (t, r) :: rest =>
    let lo := if (t : Int) < lim then lim else t
    let d := if lo < til then til - lo else 0
    let x := rateSum lim lo rest
    (x.1 + d * r, x.2 + d)

/-- The mean rate over the 16 s before now (R377); the present rate where no time has passed. -/
def State.meanRate (s : State) : Int :=
  let x := rateSum ((s.now : Int) - 16000000000) s.now s.tmt.rates
  if x.2 ≤ 0 then sgn 32 (s.rf 0 Reg.TMT_RATE_RATE) else rne x.1 x.2.toNat

/-- Enter holdover (R377): the mean rate, STATE 4, HOLDOVER and G-0021. -/
def State.holdover (s : State) : State :=
  if s.rf 0 Reg.TMT_STATUS_STATE = 4 then s
  else
    let s1 := s.setRate s.meanRate
    let s2 := (s1.tmtSet (fun t => { t with holdFrom := s.now })).wf 0 Reg.TMT_HOLDOVER_AGE_S 0
    ((s2.toTime 4).gcode 0x0021 0 0).ev 0 Reg.TMT_EVENT_HOLDOVER

/-- Leave holdover for a state. -/
def State.leaveHoldover (s : State) (n : Nat) : State := (s.toTime n).wf 0 Reg.TMT_HOLDOVER_AGE_S 0

/-! ### Steps and the servo -/

/-- A step by d ns takes effect (R375, R376): launches of markers move with it, software launches it has passed are late. -/
def State.stepBy (s : State) (d : Int) : State :=
  let mv := fun (x : Nat) => ((x : Int) + d).toNat
  let now' := mv s.now
  let s1 := s.tmtSet (fun t => { t with
    ns := now', holdFrom := mv t.holdFrom, rates := t.rates.map (fun x => (mv x.1, x.2)),
    launches := t.launches.map (fun l =>
      if l.marker = 0xFF then { l with late := l.late || decide (l.instant < now') } else { l with instant := l.instant + d }) })
  s1.ev 0 Reg.TMT_EVENT_STEPPED

/-- The servo takes an offset o = part − source, in ns (R375, R377). Within the limit it slews: the rate it chooses within ±500 ppm is
Daxpamen's and open. Beyond it the step is refused, or applied without a command while STATE is 0 or within the sleep error after a
wake. -/
def State.servo (s : State) (o : Int) : State :=
  let s1 := s.wf64 0 Reg.TMT_OFFSET_LO_NS (unsgn 64 o)
  let s2 := if s1.rb 0 Reg.TMT_STATUS_STEP_PENDING then s1.wf64 0 Reg.TMT_STEP_LO_NS (unsgn 64 (-o)) else s1
  let st := s2.rf 0 Reg.TMT_STATUS_STATE
  if o.natAbs ≤ s2.jumpLimit then
    let r := ((s2.freeVal 64 % 4096000001 : Nat) : Int) - 2048000000
    let s3 := (s2.drawn.setRate r).tmtSet (fun t => { t with fromWake := false })
    s3.leaveHoldover 3
  else if st = 0 then
    (s2.tmtSet (fun t => { t with step := some (false, -o) })).toTime 2
  else if s2.tmt.fromWake ∧ o.natAbs ≤ 1000 * s2.rf 0 Reg.TMT_SLEEP_ERR_US then
    (s2.tmtSet (fun t => { t with step := some (false, -o), fromWake := false })).ev 0 Reg.TMT_EVENT_WAKE_STEP
  else
    let s3 := (s2.wf64 0 Reg.TMT_STEP_LO_NS (unsgn 64 (-o))).wf 0 Reg.TMT_STATUS_STEP_PENDING 1
    let s4 := ((s3.inc 0 (Reg.TMT_CNT_COUNT.sh 12)).gcode 0x0020 0 0).ev 0 Reg.TMT_EVENT_STEP_REFUSED
    if st = 3 then s4.toTime 2 else s4

/-- Time, in ns with 40 fractional bits, after d units of 2^-40 ns; it wraps at 48 bits of seconds (R370). -/
def timeAdd (t : Tmt) (d : Int) : Tmt :=
  let x := Int.emod ((t.ns : Int) * 2 ^ 40 + t.frac + d) (2 ^ 88 * 1000000000)
  { t with ns := (x / 2 ^ 40).toNat, frac := (Int.emod x (2 ^ 40)).toNat }

/-- What one tick adds, in 2^-40 ns: 4 ns × (1 + r) awake, the Box clock's period corrected by the stored drift asleep (R370, R384). -/
def State.tickInc (s : State) : Int :=
  if s.asleep then 131072000000000 + 1310720 * sgn 16 (s.rf 0 Reg.TMT_SLEEP_DRIFT)
  else 4398046511104 + rne (sgn 32 (s.rf 0 Reg.TMT_RATE_RATE) * 1073741824) 1000000000

/-- n ticks pass with nothing between them: of 4 ns awake, of the Box clock asleep. A step that is due is taken with the first (R375). -/
def State.ticks (s : State) (n : Nat) : State :=
  (if s.pwr.off ∨ n = 0 then s
  else
    let aw := if s.asleep then 0 else n
    let s1 := s.tmtSet (fun (t : Tmt) => ({ timeAdd t (n * s.tickInc) with samples := t.samples + aw, boxTicks := t.boxTicks + (n - aw) } : Tmt))
    let s2 := match s.tmt.step with
      | none => s1
      | some (abs, d) =>
        (s1.stepBy (if abs then d - s.now else d)).tmtSet (fun t => { t with step := none })
    if s2.rf 0 Reg.TMT_STATUS_STATE = 4 then s2.wf 0 Reg.TMT_HOLDOVER_AGE_S ((s2.now - s2.tmt.holdFrom) / 1000000000) else s2)

/-- TMT_CMD.STEP_ACCEPT (R375): the pending step applies at the next tick; it ends a holdover (R377). -/
def State.actStepAccept (s : State) : State :=
  if s.rb 0 Reg.TMT_STATUS_STEP_PENDING then
    let s1 := (s.tmtSet (fun t => { t with step := some (false, sgn 64 (s.rf64 0 Reg.TMT_STEP_LO_NS)) })).wf 0 Reg.TMT_STATUS_STEP_PENDING 0
    if s.rf 0 Reg.TMT_STATUS_STATE = 4 then s1.leaveHoldover 2 else s1
  else s

/-- TMT_CMD.SET (R375). -/
def State.actTimeSet (s : State) : State :=
  let src := s.rf 0 Reg.TMT_STATUS_SOURCE
  if 1 ≤ src ∧ src ≤ 3 then (s.inc 0 (Reg.TMT_CNT_COUNT.sh 12)).gcode 0x0020 0x6014 0
  else
    let s1 := s.tmtSet (fun t => { t with step := some (true, s.rf64 0 Reg.TMT_SET_LO_NS) })
    if s.rf 0 Reg.TMT_STATUS_STATE = 0 then s1.toTime 1 else s1

/-- Capture unit c latches the present time (R376). -/
def State.capture (s : State) (c : Nat) : State :=
  (s.wf64 0 (Reg.TMT_CAP_NS.sh (8 * c)) s.now).ev 0 Reg.TMT_EVENT_CAPTURE

/-- A write to TMT_CMD. -/
def State.actTmtCmd (s : State) (w : Word) : State :=
  let b := fun (k : Nat) => w.toNat.testBit k
  let s1 := if b 0 then s.actStepAccept else s
  let s2 := if b 1 then s1.wf 0 Reg.TMT_STATUS_STEP_PENDING 0 else s1
  let s3 := if b 2 then s2.actTimeSet else s2
  if b 3 then s3.capture 0 else s3

/-- STEP_ACCEPT: `TMT_CMD.STEP_ACCEPT`. -/
def execStepAccept (m : Nat) (w : Word) (s : State) : Host.Outcome State Fault Refusal :=
  .next (s.regAct m 0 Reg.TMT_CMD_STEP_ACCEPT w (fun t => t.actTmtCmd (w ||| 1)))

/-- STEP_REJECT: `TMT_CMD.STEP_REJECT`. -/
def execStepReject (m : Nat) (w : Word) (s : State) : Host.Outcome State Fault Refusal :=
  .next (s.regAct m 0 Reg.TMT_CMD_STEP_REJECT w (fun t => t.actTmtCmd (w ||| 2)))

/-- TIME_SET: `TMT_CMD.SET`. -/
def execTimeSet (m : Nat) (w : Word) (s : State) : Host.Outcome State Fault Refusal :=
  .next (s.regAct m 0 Reg.TMT_CMD_SET w (fun t => t.actTmtCmd (w ||| 4)))

/-- CAPTURE: `TMT_CMD.CAPTURE` latches unit 0 (R376). A capture task input is taken in its Rein cycle. -/
def execCapture (m : Nat) (w : Word) (s : State) : Host.Outcome State Fault Refusal :=
  .next (s.regAct m 0 Reg.TMT_CMD_CAPTURE w (fun t => t.actTmtCmd (w ||| 8)))

/-- The package leaves Run: Daxpamen stores the measured drift of the Box clock, an open value (R384). -/
def State.tmtSleep (s : State) : State :=
  ((s.wf 0 Reg.TMT_SLEEP_DRIFT (s.freeVal 16)).drawn).tmtSet (fun t => { t with sleepFrom := s.now })

/-- The package wakes (R384): the estimated error of the sleep is shown, and without a source STATE returns to 1. -/
def State.tmtWake (s : State) : State :=
  let us := rne (((s.now : Int) - s.tmt.sleepFrom) * s.rf 0 Reg.TMT_SLEEP_BOUND) 100000000000
  let s1 := (s.wf 0 Reg.TMT_SLEEP_ERR_US (satN (2 ^ 32 - 1) us.toNat)).tmtSet (fun t => { t with fromWake := true })
  if s1.rf 0 Reg.TMT_STATUS_SOURCE = 0 then (if s1.rf 0 Reg.TMT_STATUS_STATE = 0 then s1 else s1.toTime 1)
  else if s1.rf 0 Reg.TMT_STATUS_STATE = 3 then s1.toTime 2 else s1

/-! ### PTP -/

/-- Compare two lists of numbers field by field. -/
def lexLess : List Nat → List Nat → Bool
  | a :: x, b :: y => if a < b then true else if b < a then false else lexLess x y
  | _, _ => false

/-- The order of the default data set comparison (R373). -/
def PtpMaster.key (m : PtpMaster) : List Nat := [m.priority1, m.clockClass, m.accuracy, m.variance, m.priority2, m.identity]

/-- The part's own default data set. -/
def State.ownMaster (s : State) : PtpMaster :=
  ⟨s.rf 0 Reg.TMT_PTP_PRIORITY1, s.rf 0 Reg.TMT_PTP_CLASS, s.rf 0 Reg.TMT_PTP_LOG_ACCURACY, Config.clockVariance,
   s.rf 0 Reg.TMT_PTP_PRIORITY2, Config.clockIdentity, 0⟩

/-- INGRESS and EGRESS of the PTP lane, ps (R374). -/
def State.ptpAsym (s : State) : Int × Int :=
  let a := cgetD s.tmt.asym (s.rf 0 Reg.TMT_CFG_LANE) (0, 0)
  (sgn 32 a.1, sgn 32 a.2)

/-- Whether the port runs (R373) and a message is of its domain. -/
def State.ptpOn (s : State) (domain : Nat) : Bool := s.rf 0 Reg.TMT_CFG_ROLE != 0 && s.rf 0 Reg.TMT_CFG_DOMAIN == domain

/-- A message arrives; one that the port has no use for is discarded and counted (R373, R387). With PTP off nothing listens. -/
def State.ptpIn (s : State) (good : Bool) (f : State → State) : State :=
  if s.rf 0 Reg.TMT_CFG_ROLE = 0 then s
  else
    let s1 := s.inc 0 Reg.TMT_CNT_COUNT
    if good then f s1 else s1.inc 0 (Reg.TMT_CNT_COUNT.sh 8)

/-- Whether a launch holds a lane's other frames (R379). -/
def State.laneHeld (s : State) (lane : Nat) : Bool :=
  s.tmt.launches.any (fun l => match l.frame with
    | some f => f.1 == lane
    | none => false)

/-- A message leaves: type, then the body after its sequence number. -/
def State.ptpOut (s : State) (typ seq : Nat) (body : List Nat) : State :=
  (s.inc 0 (Reg.TMT_CNT_COUNT.sh 4)).emit .ptp typ (seq :: body)

/-- Whether the port follows a source: it is a slave and the message comes from its master. -/
def State.ptpFollows (s : State) (domain src : Nat) : Bool :=
  s.ptpOn domain && s.rf 0 Reg.TMT_STATUS_PORT_STATE == 9 &&
  (match s.tmt.master with
   | some m => m.source == src
   | none => false)

/-- An offset measured from t1 with its corrections and t2, in ps: the path delay comes off, and the servo takes it in ns. -/
def State.ptpMeasure (s : State) (t1 t2 : Int) : State :=
  let s1 := s.tmtSet (fun t => { t with lastSync := some (t1, t2), sync := none })
  s1.servo (rne (t2 - t1 - sgn 32 (s.rf 0 Reg.TMT_PATH_DELAY_PS)) 1000)

/-- PTP_SYNC: a Sync with its origin time and correction, received at rx, in ps (R374, R375). -/
def execPtpSync (src seq domain : Nat) (twoStep : Bool) (origin corr rx : Int) (s : State) : Host.Outcome State Fault Refusal :=
  .next (s.ptpIn (s.ptpFollows domain src) (fun t =>
    let t2 := rx - t.ptpAsym.1
    if twoStep then t.tmtSet (fun x => { x with sync := some (seq, t2, corr) }) else t.ptpMeasure (origin + corr) t2))

/-- PTP_FOLLOW_UP: the precise origin time of a two-step Sync (R373). -/
def execPtpFollowUp (src seq domain : Nat) (origin corr : Int) (s : State) : Host.Outcome State Fault Refusal :=
  .next (match s.tmt.sync with
    | some (q, t2, c) =>
      s.ptpIn (s.ptpFollows domain src && q == seq) (fun t => t.ptpMeasure (origin + corr + c) t2)
    | none => s.ptpIn false id)

/-- PTP_DELAY_REQ: a Delay_Req received at rx is answered by a master (R373). -/
def execPtpDelayReq (src seq domain : Nat) (rx : Int) (s : State) : Host.Outcome State Fault Refusal :=
  .next (s.ptpIn (s.ptpOn domain && s.rf 0 Reg.TMT_STATUS_PORT_STATE == 6 && !s.rb 0 Reg.TMT_CFG_PEER) (fun t =>
    t.ptpOut 9 seq [src, (rx - t.ptpAsym.1).toNat]))

/-- PTP_DELAY_RESP: the master's answer updates the mean path delay (R373): ((t2 − t1) + (t4 − t3)) / 2 without the corrections. -/
def execPtpDelayResp (src seq domain : Nat) (t4 corr : Int) (s : State) : Host.Outcome State Fault Refusal :=
  .next (s.ptpIn (s.ptpFollows domain src && !s.rb 0 Reg.TMT_CFG_PEER) (fun t =>
    match t.tmt.delayReq, t.tmt.lastSync with
    | some (q, t3), some (t1, t2) =>
      if q = seq then
        (t.tmtSet (fun x => { x with delayReq := none })).wf 0 Reg.TMT_PATH_DELAY_PS (unsgn 32 (rne (t2 - t1 + (t4 - t3 - corr)) 2))
      else t
    | _, _ => t))

/-- PTP_PDELAY_REQ: a Pdelay_Req is answered, with a follow-up when the part transmits in two steps (R373). -/
def execPtpPdelayReq (src seq domain : Nat) (rx : Int) (s : State) : Host.Outcome State Fault Refusal :=
  .next (s.ptpIn (s.ptpOn domain && s.rb 0 Reg.TMT_CFG_PEER) (fun t =>
    let t1 := t.ptpOut 3 seq [src, (rx - t.ptpAsym.1).toNat]
    if t.rb 0 Reg.TMT_CFG_TWO_STEP then t1.ptpOut 10 seq [src, 1000 * t.now] else t1))

/-- PTP_PDELAY_RESP: the neighbour's answer, received at rx (R373). -/
def execPtpPdelayResp (seq domain : Nat) (twoStep : Bool) (t2 corr rx : Int) (s : State) : Host.Outcome State Fault Refusal :=
  .next (s.ptpIn (s.ptpOn domain && s.rb 0 Reg.TMT_CFG_PEER) (fun t =>
    let t4 := rx - t.ptpAsym.1
    match t.tmt.delayReq with
    | some (q, t1) =>
      if q ≠ seq then t
      else if twoStep then t.tmtSet (fun x => { x with pdelay := some (seq, t2, t4, corr) })
      else (t.tmtSet (fun x => { x with delayReq := none })).wf 0 Reg.TMT_PATH_DELAY_PS (unsgn 32 (rne (t4 - t1 - corr) 2))
    | none => t))

/-- PTP_PDELAY_RESP_FOLLOW_UP: the precise response time t3 completes a two-step exchange (R373). -/
def execPtpPdelayRespFollowUp (seq domain : Nat) (t3 corr : Int) (s : State) : Host.Outcome State Fault Refusal :=
  .next (s.ptpIn (s.ptpOn domain && s.rb 0 Reg.TMT_CFG_PEER) (fun t =>
    match t.tmt.delayReq, t.tmt.pdelay with
    | some (_, t1), some (q, t2, t4, c) =>
      if q = seq then
        (t.tmtSet (fun x => { x with delayReq := none, pdelay := none })).wf 0 Reg.TMT_PATH_DELAY_PS
          (unsgn 32 (rne (t4 - t1 - (t3 - t2) - c - corr) 2))
      else t
    | _, _ => t))

/-- The part becomes grandmaster (R372, R373). -/
def State.ptpBecomesMaster (s : State) : State :=
  let s1 := (s.tmtSet (fun t => { t with master := none, sync := none })).wf 0 Reg.TMT_STATUS_PORT_STATE 6
  let s2 := if s1.rf 0 Reg.TMT_STATUS_SOURCE = 1 then s1.wf 0 Reg.TMT_STATUS_SOURCE 0 else s1
  if s2.rf 0 Reg.TMT_STATUS_SOURCE = 0 ∧ s2.rf 0 Reg.TMT_STATUS_STATE ≠ 4 then s2.toTime 5 else s2

/-- The port follows a master: the slave state, source 1 unless the mirror link or the ring leads (R371). -/
def State.ptpFollow (s : State) (m : PtpMaster) : State :=
  let s1 := (s.tmtSet (fun t => { t with master := some m })).wf 0 Reg.TMT_STATUS_PORT_STATE 9
  let s2 := s1.wf64 0 Reg.TMT_GM_ID_LO_ID m.identity
  let src := s2.rf 0 Reg.TMT_STATUS_SOURCE
  if src = 2 ∨ src = 3 then s2
  else
    let s3 := s2.wf 0 Reg.TMT_STATUS_SOURCE 1
    let st := s3.rf 0 Reg.TMT_STATUS_STATE
    if st = 1 ∨ st = 5 then s3.toTime 2 else s3

/-- PTP_ANNOUNCE: an Announce enters best master selection (R373, R377): a grandmaster of another identity means holdover, GM_CHANGE and
G-0022. -/
def execPtpAnnounce (src identity p1 cls acc var p2 domain utc flags : Nat) (s : State) : Host.Outcome State Fault Refusal :=
  .next (s.ptpIn (s.ptpOn domain) (fun t =>
    let m : PtpMaster := ⟨p1, cls, acc, var, p2, identity, src⟩
    let ownBetter := t.rf 0 Reg.TMT_CFG_ROLE == 2 && lexLess t.ownMaster.key m.key
    let show' := fun (u : State) =>
      (((u.wf 0 Reg.TMT_UTC_OFFSET utc).wf 0 Reg.TMT_UTC_VALID flags).wf 0 Reg.TMT_UTC_LEAP61 (flags / 2)).wf 0 Reg.TMT_UTC_LEAP59 (flags / 4)
    match t.tmt.master with
    | none => if ownBetter then t.ptpBecomesMaster else show' (t.ptpFollow m)
    | some old =>
      if old.source = src then
        if ownBetter then t.ptpBecomesMaster
        else
          let u := show' (t.ptpFollow m)
          if old.identity = identity then u else ((u.holdover).gcode 0x0022 0 0).ev 0 Reg.TMT_EVENT_GM_CHANGE
      else if lexLess m.key old.key then
        let u := show' (t.ptpFollow m)
        if old.identity = identity then u else ((u.holdover).gcode 0x0022 0 0).ev 0 Reg.TMT_EVENT_GM_CHANGE
      else t))

/-- PTP_DISCARDED_MESSAGE: a Signaling or Management message (R373). -/
def execPtpDiscardedMessage (s : State) : Host.Outcome State Fault Refusal := .next (s.ptpIn false id)

/-- PTP_MASTER_SEND: a master sends Announce, or Sync with its Follow_Up in two steps (R373); a lane that a launch holds waits. -/
def execPtpMasterSend (announce : Bool) (s : State) : Host.Outcome State Fault Refusal :=
  .next (if s.rf 0 Reg.TMT_CFG_ROLE ≠ 2 ∨ s.rf 0 Reg.TMT_STATUS_PORT_STATE ≠ 6 ∨ s.laneHeld (s.rf 0 Reg.TMT_CFG_LANE) then s
  else
    let q := s.tmt.seqs
    let s1 := s.tmtSet (fun t => { t with seqs := (q + 1) % 65536 })
    if announce then s1.ptpOut 0xB q s.ownMaster.key
    else if s.rb 0 Reg.TMT_CFG_TWO_STEP then (s1.ptpOut 0 q []).ptpOut 8 q [1000 * s.now]
    else s1.ptpOut 0 q [1000 * s.now])

/-- PTP_DELAY_REQ_SEND: a slave sends a Delay_Req, or under peer delay any port a Pdelay_Req, at tx in ps (R373, R374). -/
def execPtpDelayReqSend (tx : Int) (s : State) : Host.Outcome State Fault Refusal :=
  let peer := s.rb 0 Reg.TMT_CFG_PEER
  .next (if s.rf 0 Reg.TMT_CFG_ROLE = 0 ∨ (!peer ∧ s.rf 0 Reg.TMT_STATUS_PORT_STATE ≠ 9) ∨ s.laneHeld (s.rf 0 Reg.TMT_CFG_LANE) then s
  else
    let q := s.tmt.seqs
    (s.tmtSet (fun t => { t with seqs := (q + 1) % 65536, delayReq := some (q, tx + s.ptpAsym.2) })).ptpOut (if peer then 2 else 1) q [])

/-- ANNOUNCE_TIMEOUT: no Announce within announceReceiptTimeout intervals: holdover if a source was followed; a port that may become
grandmaster does so otherwise (R377). -/
def execAnnounceTimeout (s : State) : Host.Outcome State Fault Refusal :=
  .next (if s.rf 0 Reg.TMT_CFG_ROLE = 0 then s
  else
    let canLead := s.rf 0 Reg.TMT_CFG_ROLE = 2
    match s.tmt.master with
    | some _ =>
      let s1 := (s.tmtSet (fun t => { t with master := none, sync := none })).wf 0 Reg.TMT_STATUS_PORT_STATE (if canLead then 6 else 4)
      if s1.rf 0 Reg.TMT_STATUS_SOURCE = 1 then s1.holdover else s1
    | none => if canLead then s.ptpBecomesMaster else s)

/-! ### Launches -/

/-- Whether a lane is an up Ethernet service lane (R379). -/
def State.ethService (s : State) (l : Nat) : Bool :=
  let i := laneInst l
  (s.rf i Reg.LAN_CFG_MODE == 3 || s.rf i Reg.LAN_CFG_MODE == 4) && s.rf i Reg.LAN_CFG_USE == 4 && s.rf i Reg.LAN_STATUS_TX_STATE == 4

/-- Set the queue and its DEPTH. -/
def State.launchSet (s : State) (l : List Launch) : State :=
  (s.tmtSet (fun t => { t with launches := l })).wf 0 Reg.TMT_LAUNCH_STATUS_DEPTH l.length

/-- Report the latest launch: 0 on time, 1 late, 2 dropped (R380, R387). -/
def State.launchDone (s : State) (how tag : Nat) : State :=
  let s1 := ((s.wf 0 Reg.TMT_LAUNCH_STATUS_LAST how).wf 0 Reg.TMT_LAUNCH_LAST_TAG_TAG tag).inc 0 (Reg.TMT_CNT_COUNT.sh (16 + 4 * how))
  if how = 1 then s1.ev 0 Reg.TMT_EVENT_LAUNCH_LATE else if how = 2 then s1.ev 0 Reg.TMT_EVENT_LAUNCH_DROP else s1

/-- Insert by instant, after every entry of the same instant (R379). -/
def launchInsert (x : Launch) : List Launch → List Launch
  | [] => [x]
  | y :: t => if x.instant < y.instant then x :: y :: t else y :: launchInsert x t

/-- Enter a launch (R379, R380): refused when 64 are queued; one less than 20 µs ahead is late, and dropped if its LATE bit says so. -/
def State.launchPush (s : State) (x : Launch) : State :=
  if 64 ≤ s.tmt.launches.length then s.wf 0 Reg.TMT_LAUNCH_STATUS_FULL 1
  else
    let late := x.late || decide (x.instant < (s.now : Int) + 20000)
    if late ∧ x.drop then s.launchDone 2 x.tag
    else s.launchSet (launchInsert { x with late := late } s.tmt.launches)

/-- TMT_LAUNCH_CTL: FLUSH drops every software entry, counting each; PUSH enters one (R379). -/
def State.actLaunch (s : State) (w : Word) : State :=
  let s1 := if w.toNat.testBit 31 then
      let gone := (s.tmt.launches.filter (fun l => l.marker == 0xFF)).length
      (s.launchSet (s.tmt.launches.filter (fun l => l.marker != 0xFF))).add 0 (Reg.TMT_CNT_COUNT.sh 24) gone
    else s
  if w.toNat.testBit 30 then
    s1.launchPush ⟨s1.rf64 0 Reg.TMT_LAUNCH_TIME_LO_NS, s1.rf 0 Reg.TMT_LAUNCH_TAG_TAG, getBits w 3 0, w.toNat.testBit 4, 0xFF, false, false, none⟩
  else s1

/-- LAUNCH_PUSH: `TMT_LAUNCH_CTL.PUSH`. -/
def execLaunchPush (m : Nat) (w : Word) (s : State) : Host.Outcome State Fault Refusal :=
  .next (s.regAct m 0 Reg.TMT_LAUNCH_CTL_PUSH w (fun t => t.actLaunch (w ||| maskBits 30 30)))

/-- LAUNCH_FLUSH: `TMT_LAUNCH_CTL.FLUSH`. -/
def execLaunchFlush (m : Nat) (w : Word) (s : State) : Host.Outcome State Fault Refusal :=
  .next (s.regAct m 0 Reg.TMT_LAUNCH_CTL_FLUSH w (fun t => t.actLaunch (w ||| maskBits 31 31)))

/-- Whether an entry's prefetch is due: 20 µs before its instant, or at once when it is late (R379, R380). -/
def State.prefetchDue (s : State) (l : Launch) : Bool :=
  l.frame == none && (l.late || decide (l.instant ≤ (s.now : Int) + 20000))

/-- LAUNCH_PREFETCH: the first entry that is due reads its template from package DRAM; LENGTH outside 60 to 240, or a LANE that is not an
up Ethernet service lane, drops it with G-0023 (R378, R379). -/
def execLaunchPrefetch (s : State) : Host.Outcome State Fault Refusal :=
  .next (match s.tmt.launches.findIdx? s.prefetchDue with
    | none => s
    | some k =>
      match s.tmt.launches[k]? with
      | none => s
      | some l =>
        let b := s.dramBytes (s.rf64 0 Reg.TMT_TPL_BASE_LO_ADDR + 256 * l.template) 256
        let len := leAt b 0 2
        let lane := leAt b 4 1
        if len < 60 ∨ 240 < len ∨ !s.ethService lane then
          ((s.launchSet (s.tmt.launches.eraseIdx k)).gcode 0x0023 l.tag 0).launchDone 2 l.tag
        else s.launchSet (lmod s.tmt.launches k (fun x => { x with frame := some (lane, b) })))

/-- The frame of a launch: the template with its launch block (R378). -/
def launchFrame (l : Launch) (b : List Byte) (late : Bool) : List Byte :=
  let len := leAt b 0 2
  let ins := leAt b 2 2
  let f := bytesAt b 0x10 len
  let block := toBytes 4 l.tag ++ toBytes 1 l.marker ++ toBytes 1 (b2n late + 2 * b2n l.unsure) ++ [0, 0] ++ toBytes 8 l.instant.toNat
  let g := if ins = 0xFFFF then f else (overlay f ins block).take len
  if leAt b 5 1 % 2 = 1 then udpFix g else g

/-- LAUNCH_SEND: the first prefetched entry leaves at its instant, or as soon as it can when it is late; `busy` says that an earlier
launch is still being sent on its lane at its instant, which makes it late (R379, R380). On the standby of a pair it is formed, not
sent, and counted as on time. -/
def execLaunchSend (busy : Bool) (s : State) : Host.Outcome State Fault Refusal :=
  .next (match s.tmt.launches.findIdx? (fun l => l.frame.isSome && (l.late || decide (l.instant ≤ (s.now : Int)))) with
    | none => s
    | some k =>
      match s.tmt.launches[k]? with
      | none => s
      | some l =>
        match l.frame with
        | none => s
        | some (lane, b) =>
          let late := l.late || busy
          let s1 := s.launchSet (s.tmt.launches.eraseIdx k)
          if s.suppressed then s1.launchDone 0 l.tag
          else if late ∧ l.drop then s1.launchDone 2 l.tag
          else (s1.launchDone (b2n late) l.tag).ethOut .ethFrame lane (launchFrame l b late))

/-! ### Alarms -/

/-- ALARM_FIRE: the time reaches TMT_ALM_TIME of an armed alarm (R381). A firing is late when it is not at the first tick at or after its
time: five whole ns awake, a Box clock asleep. -/
def execAlarmFire (a : Nat) (s : State) : Host.Outcome State Fault Refusal :=
  let f := fun (x : Fld) => x.sh (0x20 * (a % 8))
  let t := s.rf64 0 (f Reg.TMT_ALM_TIME_LO_NS)
  let p := s.rf64 0 (f Reg.TMT_ALM_PERIOD_LO_NS)
  .next (if !s.rb 0 (f Reg.TMT_ALM_CTL_ENABLE) ∨ s.now < t then s
  else
    let late := (if s.asleep then 120 else 5) < s.now - t
    let s1 := (s.wf 0 (f Reg.TMT_ALM_STATUS_FIRED) 1)
    let s2 := if late then s1.wf 0 (f Reg.TMT_ALM_STATUS_LATE) 1 else s1
    let s3 := if p = 0 then s2.wf 0 (f Reg.TMT_ALM_CTL_ENABLE) 0
      else
        let k := (s.now - t) / p
        (s2.wf64 0 (f Reg.TMT_ALM_TIME_LO_NS) (t + (k + 1) * p)).add 0 (f Reg.TMT_ALM_STATUS_SKIPPED) k
    let s4 := s3.ev 0 Reg.TMT_EVENT_ALARM
    let s5 := if s.rb 0 (f Reg.TMT_ALM_CTL_GIO_EN) then
        s4.gioStart 1 (a % 8) (s.rf 0 (f Reg.TMT_ALM_CTL_WIDTH_US)) else s4
    let s6 := if s.rb 0 (f Reg.TMT_ALM_CTL_REIN) ∧ !s.asleep then s5.reinRaise 0 0xF002 (a % 8) 1 else s5
    if s.rb 0 (f Reg.TMT_ALM_CTL_WAKE) then s6.wakeSource 6 (a % 8) else s6)

/-! ### Markers -/

/-- A field of marker k. -/
def mkf (f : Fld) (k : Nat) : Fld := f.sh (0x10 * k)

/-- Show how many targets each marker and the scheduler hold (R383). -/
def State.markShow (s : State) : State :=
  let n := fun (p : MarkTarget → Bool) => (s.tmt.targets.filter p).length
  ((List.range 16).foldl (fun t k => (t.wf 0 (mkf Reg.TMT_MARK_STATUS_PENDING k) (n (fun x => x.marker == k))).wf 0
    (mkf Reg.TMT_MARK_STATUS_HELD k) (n (fun x => x.marker == k && x.held))) s).wf 0 Reg.TMT_MARK_PEND_TARGETS s.tmt.targets.length

/-- A marker target is refused or dropped (R383). -/
def State.markDrop (s : State) : State := (s.inc 0 (Reg.TMT_CNT_COUNT.sh 28)).ev 0 Reg.TMT_EVENT_MARK_DROP

/-- The launch time of a target by the present position and speed (R382); none without a valid forward speed. -/
def State.markTime (s : State) (pos : Int) (k : Nat) : Option Int :=
  let p := s.webPort
  let v := s.speedQ p
  if !s.rb 0 (wp Reg.WAY_STATUS_SPEED_VALID p) ∨ v ≤ 0 then none
  else some ((s.now : Int) + rne (pos * nmQ - s.webQ) v.toNat - s.rf 0 (mkf Reg.TMT_MARK_LEAD_NS k))

/-- A target leaves for the launch queue (R382): dropped if the queue is full. -/
def State.markLaunch (s : State) (x : MarkTarget) (t : Int) (late : Bool) : State :=
  if 64 ≤ s.tmt.launches.length then (s.wf 0 Reg.TMT_LAUNCH_STATUS_FULL 1).markDrop
  else if late ∧ s.rb 0 (mkf Reg.TMT_MARK_CTL_LATE x.marker) then s.markDrop
  else s.launchPush ⟨t, x.tag, s.rf 0 (mkf Reg.TMT_MARK_CTL_TEMPLATE x.marker), s.rb 0 (mkf Reg.TMT_MARK_CTL_LATE x.marker), x.marker,
    x.unsure, late, none⟩

/-- One prediction of a target (R382, R383): it locks within the lock-in window, is late once the web has reached it, and otherwise
stays. `first` is the prediction at hand-over. -/
def State.markPredict (s : State) (x : MarkTarget) (first : Bool) : State × Option MarkTarget :=
  let y := { x with unsure := x.unsure || s.portUnsure s.webPort }
  if x.pos * nmQ ≤ s.webQ then (s.markLaunch y s.now true, none)
  else
    match s.markTime x.pos x.marker with
    | none => (s, some { y with held := true })
    | some t =>
      if first ∧ t < (s.now : Int) + 20000 then (s.markLaunch y t true, none)
      else if t - 1000 * s.rf 0 (mkf Reg.TMT_MARK_CTL_LOCK_US x.marker) ≤ (s.now : Int) then (s.markLaunch y t false, none)
      else (s, some { y with held := false })

/-- A marker rule hands over a target (R382, R383); the answer says whether it was taken. -/
def State.markTarget (s : State) (pos : Int) (k tag : Nat) : State × Bool :=
  if 256 ≤ s.tmt.targets.length ∨ !s.rb 0 (mkf Reg.TMT_MARK_CTL_ENABLE k) then (s.markDrop, false)
  else
    let r := s.markPredict ⟨pos, k, tag, false, false⟩ true
    match r.2 with
    | none => (r.1, true)
    | some y => ((r.1.tmtSet (fun t => { t with targets := t.targets ++ [y] })).markShow, true)

/-- MARKER_PREDICT: a multiple of 100 µs: every target is predicted again, in the order of hand-over (R382). -/
def execMarkerPredict (s : State) : Host.Outcome State Fault Refusal :=
  let r := s.tmt.targets.foldl (fun (a : State × List MarkTarget) x =>
    let q := a.1.markPredict x false
    (q.1, match q.2 with
      | some y => a.2 ++ [y]
      | none => a.2)) (s, [])
  .next (r.1.tmtSet (fun t => { t with targets := r.2 })).markShow

/-- A harness load drops every target and queued marker launch, counting them (R383). -/
def State.markFlush (s : State) : State :=
  let gone := (s.tmt.launches.filter (fun l => l.marker != 0xFF)).length + s.tmt.targets.length
  let s1 := s.launchSet (s.tmt.launches.filter (fun l => l.marker == 0xFF))
  let s2 := ((s1.tmtSet (fun t => { t with targets := [] })).markShow).add 0 (Reg.TMT_CNT_COUNT.sh 28) gone
  s2.evIf (decide (0 < gone)) 0 Reg.TMT_EVENT_MARK_DROP

end Sys2Proof.Machine
end

