-- ==== Sys2Proof/Machine/Dbm.lean ====
section
/-! DEFINITION. The Drawbar merge (R240 to R249): slices, sets, the frontier, records and their order, marker rules (R266, R267). Streams are
named by 255 for the live one and by carriage for a replay carriage's (R261). -/

namespace Sys2Proof.Machine

/-- A slice. -/
def State.slice (s : State) (c : Nat) : Slice := cgetD s.dbm.slices c Slice.fresh

/-- Change a slice, and show its open sets. -/
def State.sliceMod (s : State) (c : Nat) (f : Slice → Slice) : State :=
  let x := f (s.slice c)
  ({ s with dbm := { s.dbm with slices := cset s.dbm.slices c x } } : State).wf (unitOf c 0) Reg.DBM_OPEN_SETS x.sets.length

/-- The stream of a carriage. -/
def State.strmOf (s : State) (g : Nat) : Nat := if s.isReplay g then g else 255

/-- The window of the slice that keeps a stream (R261). -/
def strmWin (k : Nat) : Nat := if k = 255 then 0 else unitOf (k / 6) 0

/-- Add to counter n of the slice that keeps stream k (R271). -/
def State.dbmCount (s : State) (k n m : Nat) : State := s.add (strmWin k) (Reg.DBM_CNT_COUNT.sh (4 * n)) m

/-! ### Sets (R240, R241, R244) -/

/-- A set of one member that has handed in nothing. -/
def DSet.ofNode (n : Nat × Nat) : DSet := ⟨[n], [], [], [], 0, none, 0, [], false, none⟩

/-- Members of one list and those of another that it lacks. -/
def joinNodes (a b : List (Nat × Nat)) : List (Nat × Nat) := a ++ b.filter (fun n => !a.contains n)

/-- Two sets become one: the lower DEFECT_ID and the higher CONT stand (log 37). -/
def DSet.unite (a b : DSet) : DSet :=
  { members := joinNodes a.members b.members, closed := joinNodes a.closed b.closed, handed := a.handed ++ b.handed
    parts := a.parts ++ b.parts, flags := a.flags ||| b.flags
    did := match a.did, b.did with
      | some x, some y => some (Nat.min x y)
      | some x, none => some x
      | none, y => y
    cont := Nat.max a.cont b.cont, ready := [], solo := a.solo || b.solo
    forced := match a.forced, b.forced with
      | some x, some y => some (Nat.max x y)
      | some x, none => some x
      | none, y => y }

/-- The sets that hold a node become one that holds all of them; with none, a new one. The rest, and that set. A new member makes it wait. -/
def gather (sets : List DSet) (nodes : List (Nat × Nat)) : List DSet × DSet :=
  let hit := sets.filter (fun d => d.members.any (fun n => nodes.contains n))
  let rest := sets.filter (fun d => !d.members.any (fun n => nodes.contains n))
  match hit with
  | [] => (rest, { DSet.ofNode (nodes.getD 0 (0, 0)) with members := nodes })
  | d :: t =>
    let u := t.foldl DSet.unite d
    (rest, { u with members := joinNodes u.members nodes, ready := if nodes.all (fun n => u.members.contains n) then u.ready else [] })

/-- A set closed early stands with what it has; members still open leave it, each to form a set of its own with GAP_ADJACENT (R244). -/
def DSet.detach (d : DSet) (out : Nat × Nat → Bool) (c : Nat) : List DSet :=
  let gone := d.members.filter (fun n => !d.closed.contains n && out n)
  let rest := d.members.filter (fun n => !gone.contains n)
  { d with members := rest, solo := true, forced := some (match d.forced with
      | some x => Nat.max x c
      | none => c) } ::
  gone.map (fun n => { DSet.ofNode n with flags := 8, solo := true, handed := d.handed.filter (fun e => e.1 == n) })

/-- A fragment reaches a stream. -/
def Stream.frag (t : Stream) (f : Frag) : Stream :=
  let nodes := f.labels.map (fun l => (f.carriage, l))
  let r := gather t.sets nodes
  let d := r.2
  let e : DSet := { d with
    closed := if f.cut then d.closed else joinNodes d.closed nodes
    handed := if f.cut then nodes.map (fun n => (n, f.seg)) ++ d.handed.filter (fun h => !nodes.contains h.1) else d.handed
    parts := d.parts ++ [f], ready := d.ready.filter (fun k => k != f.seg) }
  { t with sets := r.1 ++
      (if f.cut ∨ f.forced = 0 then [e]
       else if f.forced = 1 then e.detach (fun _ => true) f.close
       else if f.forced = 2 then e.detach (fun n => n.1 != f.carriage) f.close
       else [{ e with forced := some (match e.forced with
          | some x => Nat.max x f.close
          | none => f.close) }]) }

/-- The node of a report. -/
def Report.node (r : Report) : Nat × Nat := (r.car, r.label)

/-- Reports of the other side within one line (R241). -/
def Report.meets (r q : Report) : Bool := r.seam == q.seam && r.low != q.low && decide (q.line ≤ r.line + 1) && decide (r.line ≤ q.line + 1)

/-- An edge report reaches a stream: the sets of both sides become one (R241). -/
def Stream.report (t : Stream) (g : Nat) (r : Report) : Stream :=
  let mates := t.reports.filter (fun e => r.meets e.2)
  let t1 := { t with reports := t.reports ++ [(g, r)], seen := cset t.seen g (Nat.max r.line (cgetD t.seen g 0)) }
  mates.foldl (fun u q =>
    let solo := u.sets.any (fun d => d.solo && (d.members.contains r.node || d.members.contains q.2.node))
    if solo then u
    else
      let x := gather u.sets [r.node, q.2.node]
      let fl := 1 ||| (if r.seam / 6 ≠ (r.seam + 1) / 6 then 2 else 0) ||| (if 48 ≤ Nat.max r.car q.2.car then 0x8000 else 0)
      { u with sets := x.1 ++ [{ x.2 with flags := x.2.flags ||| fl }] }) t1

/-- A full slice closes a set with what it holds (R240). -/
def Stream.force (t : Stream) (nodes : List (Nat × Nat)) (c : Nat) : Stream :=
  { t with sets := t.sets.flatMap (fun d =>
      if d.members.any (fun n => nodes.contains n) then ({ d with flags := d.flags ||| 4 } : DSet).detach (fun _ => true) c else [d]) }

/-! ### Segments (R243, R246) -/

/-- The segments of a set, rising: those with features, and the last, where every member closed in it without a run (R246). -/
def DSet.keys (d : DSet) : List Nat :=
  let full := ((d.parts.filter (fun f => f.feat.isSome)).map (fun f => f.seg)).foldl (fun a k => if a.contains k then a else insertBy id k a) []
  let ends := ((d.parts.filter (fun f => !f.cut)).map (fun f => f.seg)).foldl Nat.max 0
  if d.members.all (fun n => d.closed.contains n) && d.parts.any (fun f => !f.cut) && full.all (fun k => decide (k < ends)) then full ++ [ends]
  else full

/-- Whether every fragment of segment k is in. -/
def DSet.complete (d : DSet) (seen : List (Nat × Nat)) (k : Nat) : Bool :=
  d.members.all (fun n => d.closed.contains n || d.handed.any (fun h => h.1 == n && decide (k ≤ h.2)) || decide (k ≤ cgetD seen n.1 0))

/-- Whether a segment is not the last. -/
def DSet.goesOn (d : DSet) (k : Nat) : Bool := d.parts.any (fun f => f.seg == k && f.cut) || d.keys.any (fun x => decide (k < x))

/-- The closing line of a segment. -/
def DSet.closeAt (d : DSet) (k : Nat) : Nat :=
  if d.goesOn k then k
  else
    match d.forced with
    | some c => c
    | none => ((d.parts.filter (fun f => f.seg == k)).map (fun f => f.close)).foldl Nat.max 0

/-- The features of a segment without a run: no sample, no class, and where it lies is open (log 66). -/
def Feat.none_ (did k : Nat) : Feat :=
  let v := Config.emptySegment did k
  let x := v 0 % 2 ^ 16
  let m := v 1 % 2 ^ 48
  ⟨0, x, x, m, m, 0, 0, 0, 0, 0, 0, 0, 0, sgn 16 (v 2), sgn 16 (v 3), sgn 16 (v 4), [0, 0, 0, 0], sgn 64 (v 5), sgn 64 (v 6), 0, v 7 % 2 ^ 16, 0,
    v 7 % 2 ^ 16, 0, [], v 8 % 64, v 8 % 64, 0⟩

/-- The features of a segment. -/
def DSet.featAt (d : DSet) (k : Nat) : Feat :=
  ((d.parts.filter (fun f => f.seg == k)).foldl (fun a f => joinFeat a f.feat) none).getD (Feat.none_ (d.did.getD 0) k)

/-- The record flags of a segment (R251). -/
def DSet.flagsAt (d : DSet) (k : Nat) : Nat :=
  (d.parts.filter (fun f => f.seg == k)).foldl (fun a f => a ||| f.flags ||| ((f.feat.map (fun x => x.flags)).getD 0)) d.flags

/-- Epochs seen: the most that one camera counts, 1 to 63 (R235, R250). -/
def Feat.epochs (f : Feat) : Nat :=
  satN 63 (Nat.max 1 (((f.seen.map (fun e => e.1)).map (fun g => (f.seen.filter (fun e => e.1 == g)).length)).foldl Nat.max 0))

/-- A centroid fraction (R252): sums over |e|, the first line or column, how many there are. -/
def centroidFrac (w wx lo n free : Nat) : Nat :=
  if n ≤ 1 then 0
  else if w = 0 then free % 65536
  else (clampI 0 65535 (rne (65536 * ((wx : Int) - lo * w)) (w * (n - 1)))).toNat

/-- CENTROID_MD and CENTROID_CD of a segment (R252). -/
def centroidsOf (did k : Nat) (f : Feat) : Nat × Nat :=
  (centroidFrac f.wa f.wam f.mfirst (f.mlast - f.mfirst + 1) (Config.zeroCentroid did k 0),
   centroidFrac f.wa f.wax f.xmin (f.xmax - f.xmin + 1) (Config.zeroCentroid did k 1))

/-- The classes present. -/
def Feat.classMask (f : Feat) : Nat := maskOf (f.classes.map (fun n => n != 0))

/-- The highest class present. -/
def Feat.classTop (f : Feat) : Nat := Nat.log2 f.classMask

/-- A record of 64 bytes with SEQUENCE 0: bytes of a list padded to 64. -/
def pad64 (l : List Byte) : List Byte := (l ++ List.replicate 64 0).take 64

/-- CD of a package column (R46). -/
def State.cdOf (s : State) (x : Nat) : Int := s.head.column0 + (x : Int) * s.gridCd

/-- The bytes of a defect or continuation record (R250). -/
def State.defectBytes (s : State) (did cont k flags : Nat) (more : Bool) (f : Feat) : List Byte :=
  let c := centroidsOf did k f
  let ext := (f.mlast - f.mfirst) % 2 ^ 16 + 2 ^ 16 * ((f.xmax - f.xmin) % 2 ^ 20) + 2 ^ 36 * (f.carrLo % 64) + 2 ^ 42 * (satN 63 f.carrHi) +
    2 ^ 48 * (cont % 65536)
  toBytes 1 ((if more then 2 else 1) + 16 * f.classMask) ++ toBytes 1 (f.classTop + 4 * f.epochs) ++ toBytes 2 flags ++ toBytes 4 did ++
  toBytes 8 0 ++ toBytes 8 (unsgn 64 f.md) ++ toBytes 8 (unsgn 64 (s.cdOf f.xmin)) ++ toBytes 8 (unsgn 64 f.time) ++ toBytes 8 ext ++
  toBytes 4 (satN 0xFFFFFFFF f.area) ++ toBytes 2 c.1 ++ toBytes 2 c.2 ++ toBytes 2 (unsgn 16 f.emin) ++ toBytes 2 (unsgn 16 f.emax) ++
  toBytes 2 (unsgn 16 (rne f.esum (Nat.max 1 f.area))) ++ toBytes 2 f.epoch

/-- A record's centroid on one axis as a whole column or line: Σ|e|·x ÷ Σ|e|, or where that sum is 0 the fraction that its record has. -/
def Feat.centre (f : Feat) (sum lo hi frac : Nat) : Nat :=
  if f.wa = 0 then lo + (rne (frac * (hi - lo + 1)) 65536).toNat else (rne sum f.wa).toNat

/-- The record of a segment. -/
def State.segRec (s : State) (k : Nat) (d : DSet) (key : Nat) (f : Feat) : Rec :=
  let did := d.did.getD 0
  let flags := d.flagsAt key
  { sort := d.closeAt key, kind := 0, cd := s.cdOf f.xmin, did := did, cls := f.classTop
    body := s.defectBytes did d.cont key flags (d.goesOn key) f, mdEnd := 0
    job := some ⟨k, did, d.cont, 0, flags, f.carrLo, f, f.centre f.wax f.xmin f.xmax (centroidsOf did k f).2,
      f.centre f.wam f.mfirst f.mlast (centroidsOf did k f).1⟩ }

/-! ### Order (R247) -/

/-! ### Gap records of markers (R253, R254) -/

/-- The record of a marker of carriage g. -/
def State.markRec (s : State) (k g : Nat) (m : Gap) : Rec :=
  if m.indexed then
    ⟨m.from_, 1, 0, 0, 0, gapBytes m.cause (s.strmFlags k + b2n m.bridged + 2) m.count m.md0 m.md1 m.time0 m.time1 m.first g 0xFF m.last 0,
      m.md1.toNat, none⟩
  else s.lineGap k m.cause m.from_ (m.til + 1 - m.from_) g 0xFF 0

/-! ### Marker rules (R266, R267) -/

/-- A field of rule r. -/
def ruleF (f : Fld) (r : Nat) : Fld := f.sh (16 * r)

/-- R of a rule's REF; one that is none of the three is open (log 38). -/
def State.ruleRef (s : State) (ref did k : Nat) (f : Feat) : Int × State :=
  let span : Int := ((f.mlast - f.mfirst : Nat) : Int) * s.gridMd
  match ref with
  | 0 => (f.md, s)
  | 1 => (f.md + rne ((centroidsOf did k f).1 * span) 65536, s)
  | 2 => (f.md + span, s)
  | _ => (sgn 64 (s.freeVal 64), s.drawn)

/-- A marker action is counted, or its refusal. -/
def State.markCount (s : State) (ok : Bool) : State :=
  if ok then s.inc 0 Reg.DBM_MARK_CNT_ACTIONS else (s.inc 0 Reg.DBM_MARK_CNT_DROPS).ev 0 Reg.DBM_EVENT_MARK_DROP

/-- A rule acts on a record at position t (R267); the standby does not push. -/
def State.ruleAct (s : State) (r did : Nat) (t : Int) : State :=
  let path := s.rf 0 (ruleF Reg.DBM_MARK_CTL_PATH r)
  let unit := s.rf 0 (ruleF Reg.DBM_MARK_CTL_UNIT r)
  let s1 := if (path = 0 ∨ path = 2) ∧ !s.suppressed then
      (s.cmpPush unit t (did % 65536)).markCount (decide ((s.cmp unit).queue.length < 8))
    else s
  if path = 1 ∨ path = 2 then
    let x := s1.markTarget t (s.rf 0 (ruleF Reg.DBM_MARK_CTL_MARKER r)) did
    x.1.markCount x.2
  else s1

/-- Every rule on a record that became ready. -/
def State.markRules (s : State) (did cont k : Nat) (f : Feat) : State :=
  let col := rne f.wax (Nat.max 1 f.wa)
  let col1 : Int := if f.wa = 0 then (f.xmin : Int) + rne ((centroidsOf did k f).2 * (f.xmax - f.xmin : Nat)) 65536 else col
  (List.range 16).foldl (fun t r =>
    if t.rb 0 (ruleF Reg.DBM_MARK_CTL_ENABLE r) ∧ (t.rf 0 (ruleF Reg.DBM_MARK_CTL_CLASS_MASK r)).testBit f.classTop ∧
        16 * (t.rf 0 (ruleF Reg.DBM_MARK_COLS_FIRST r) : Int) ≤ col1 ∧ col1 ≤ 16 * (t.rf 0 (ruleF Reg.DBM_MARK_COLS_LAST r) : Int) + 15 ∧
        (cont = 0 ∨ !t.rb 0 (ruleF Reg.DBM_MARK_CTL_FIRST_ONLY r)) then
      let x := t.ruleRef (t.rf 0 (ruleF Reg.DBM_MARK_CTL_REF r)) did k f
      x.2.ruleAct r did (x.1 + sgn 64 (t.rf64 0 (ruleF Reg.DBM_MARK_OFFSET_LO_NM r)))
    else t) s

/-! ### Readiness (R243) -/

/-- The segments of a set that have become ready get the set's DEFECT_ID and meet the marker rules. -/
def State.readySet (s : State) (k room : Nat) (d : DSet) : State × DSet :=
  let seen := (s.strm k).seen
  ((d.keys.filter (fun x => !d.ready.contains x && d.complete seen x)).take room).foldl (fun (a : State × DSet) x =>
    let f := a.2.featAt x
    let fresh := a.2.did.isNone
    let did := a.2.did.getD a.1.dbm.nextId
    let s1 := if fresh then { a.1 with dbm := { a.1.dbm with nextId := (did + 1) % 2 ^ 32 } } else a.1
    let n := a.2.cont + (a.2.keys.filter (fun y => decide (y < x))).length
    let s2 := if k = 255 ∧ f.area ≠ 0 then s1.markRules did n x f else s1
    (s2, { a.2 with did := some did, ready := a.2.ready ++ [x] })) (s, d)

/-- How many entries the emission buffer holds (R257). -/
def Stream.buffered (t : Stream) : Nat := t.recs.length + (t.sets.map (fun d => d.ready.length)).sum

/-- Every set of a stream is looked at for readiness, as long as the emission buffer has room (R257); with none it waits (log 67). -/
def State.readyAll (s : State) (k : Nat) : State :=
  let t := s.strm k
  let r := t.sets.foldl (fun (a : State × List DSet × Nat) d =>
    let x := a.1.readySet k a.2.2 d
    (x.1, a.2.1 ++ [x.2], a.2.2 - (x.2.ready.length - d.ready.length))) (s, [], 65536 - t.buffered)
  r.1.strmMod k (fun (t : Stream) => ({ t with sets := r.2.1 } : Stream))

/-! ### Passing Φ (R243, R246) -/

/-- Φ for a set: one that touches the seam with the ring neighbour to the east goes by the lower of Φ and that neighbour's frontier (R471). -/
def State.phiFor (s : State) (k phi : Nat) (d : DSet) : Nat :=
  if k = 255 ∧ d.flags.testBit 17 ∧ s.rb 0 Reg.RNG_STATUS_HIGH_JOINED then Nat.min phi (s.rf64 0 Reg.RNG_FRONTIER_LO_LINE) else phi

/-- A segment's record enters the emission buffer, or, where its set touches the seam with the ring neighbour to the west, the partial set
goes to that neighbour and is kept (R471). -/
def State.segOut (s : State) (k : Nat) (d : DSet) (x : Nat) (f : Feat) : State :=
  if k = 255 ∧ d.flags.testBit 16 ∧ s.rb 0 Reg.RNG_STATUS_LOW_JOINED then
    let part : DSet := { d with parts := d.parts.filter (fun p => p.seg == x) }
    let s1 := s.emit .ring 2 (x :: d.closeAt x :: d.did.getD 0 :: d.members.flatMap (fun n => [n.1, n.2]))
    { s1 with ring := { s1.ring with kept := s1.ring.kept ++ [(x, part)] } }
  else
    let s1 := s.addRec k (s.segRec k d x f)
    if k = 255 ∧ d.flags.testBit 15 ∧ !d.goesOn x then s1.inc 0 Reg.RNG_CNT_COUNT else s1

/-- Records of a set whose segments Φ has passed, in their order, and what is left of the set. -/
def State.passSet (k phi : Nat) : Nat → DSet → State → State × DSet
  | 0, d, s => (s, d)
  | n + 1, d, s =>
    match d.keys with
    | [] => (s, d)
    | x :: _ =>
      if d.ready.contains x ∧ d.closeAt x ≤ s.phiFor k phi d then
        State.passSet k phi n { d with
          cont := d.cont + 1, parts := d.parts.filter (fun p => p.seg != x), ready := d.ready.filter (fun y => y != x) } (s.segOut k d x (d.featAt x))
      else (s, d)

/-- Whether nothing more will come of a set. -/
def DSet.spent (d : DSet) : Bool := d.keys.isEmpty && d.members.all (fun n => d.closed.contains n)

/-- Every set of a stream gives up what Φ has passed. -/
def State.passAll (s : State) (k phi : Nat) : State :=
  let r := (s.strm k).sets.foldl (fun (a : State × List DSet) d =>
    let x := State.passSet k phi (d.keys.length + 1) d a.1
    (x.1, if x.2.spent then a.2 else a.2 ++ [x.2])) (s, [])
  r.1.strmMod k (fun (t : Stream) => ({ t with sets := r.2, reports := t.reports.filter (fun e =>
    decide ((if e.2.seam + 1 = s.carriageCount ∧ s.rb 0 Reg.RNG_STATUS_HIGH_JOINED then Nat.min phi (s.rf64 0 Reg.RNG_FRONTIER_LO_LINE) else phi) ≤
      e.2.line + 1)) } : Stream))

/-- LAG records of the chunks whose first line Φ has reached (R245). -/
def State.lagChunks : Nat → Nat → Nat → State → State
  | 0, _, _, s => s
  | n + 1, g, phi, s =>
    let next := cgetD s.dbm.lag g 0
    let len := Nat.max 1 (s.rf 0 Reg.DBM_LAG_LINES)
    if phi < next then s
    else
      State.lagChunks n g phi ((({ s with dbm := { s.dbm with lag := cset s.dbm.lag g (next + len) } } : State).addRec 255
        (s.lineGap 255 0x12 next len g 0xFF 0)).dbmCount 255 8 1)

/-- The carriages that Φ counts (R242). -/
def State.counted (s : State) (k : Nat) : List Nat :=
  if k = 255 then (List.range s.carriageCount).filter (fun g => s.live g && !(cget s.dbm.lag g).isSome) else [k]

/-- Show what the live DBM would shed now (R258). -/
def Stream.wouldShed (t : Stream) (q depth slots c : Nat) : Bool :=
  decide (4 * depth + c * (slots - depth) ≤ 4 * q) || decide (49152 + 4096 * c ≤ t.buffered)

/-- The record queue of a stream: base address, slots, depth (R256). -/
def State.queueOf (s : State) (k : Nat) : Nat × Nat × Nat :=
  match s.dramRecs.reverse.find? (fun r => r.kind == 5 && r.carriage == k) with
  | some r =>
    let slots := r.size / 64
    (s.partBase r.partition, slots, Nat.min s.head.recordQueue (slots - 4096))
  | none => (0, 0, 0)

/-- The window and sequence register of a stream. -/
def seqReg (k : Nat) : Nat × Fld :=
  if k = 255 then (0, Reg.DBM_SEQ_LO_SEQ) else (unitOf (k / 6) 0, Reg.DBM_RSEQ_LO_SEQ.sh (16 * (k % 6)))

/-- The acknowledgement register of a stream. -/
def ackReg (k : Nat) : Nat × Fld :=
  if k = 255 then (0, Reg.DBM_ACK_LO_SEQ) else (unitOf (k / 6) 0, Reg.DBM_RACK_LO_SEQ.sh (16 * (k % 6)))

/-- The next SEQUENCE that a record takes: behind those on their way to a standby (R459). -/
def State.nextSeq (s : State) (k : Nat) : Nat := s.rf64 (seqReg k).1 (seqReg k).2 + (s.strm k).awaiting.length

/-- The acknowledged sequence in force. -/
def State.dbmAck (s : State) (k : Nat) : Nat := s.rf64 (ackReg k).1 (ackReg k).2

/-- Q (R256). -/
def State.queueLen (s : State) (k : Nat) : Nat := s.nextSeq k - s.dbmAck k

/-- Show DBM_SHED (R258). -/
def State.shedShow (s : State) : State :=
  let t := s.strm 255
  let q := s.queueLen 255
  let x := s.queueOf 255
  ((s.wf 0 Reg.DBM_SHED_CLASSES (maskOf ((List.range 4).map (t.wouldShed q x.2.2 x.2.1)))).wf 0 Reg.DBM_SHED_FOLDING (b2n t.fold.isSome)).wf 0
    Reg.DBM_SHED_BUFFER (satN 65535 (t.buffered / 4))

/-- Φ of a stream moves with its carriages, never back; what it passes enters the emission buffer, then LAG records (R242 to R245). -/
def State.phiMove (s : State) (k : Nat) : State :=
  let t := s.strm k
  let phi := match (s.counted k).map (fun g => cgetD t.front g 0) with
    | [] => t.phi
    | f :: fs => Nat.max t.phi (fs.foldl Nat.min f)
  let p := Nat.max 1 (s.rf 0 Reg.DBM_SUMMARY_LINES)
  let s1 := s.strmMod k (fun (u : Stream) => ({ u with
    phi := phi
    sumNext := if !s.rb 0 Reg.DBM_SUMMARY_ALWAYS then none
      else if u.sumNext.isSome then u.sumNext else some (phi / p * p) } : Stream))
  let s2 := if k = 255 then s1.wf64 0 Reg.DBM_FRONTIER_LO_LINE phi else s1
  let s3 := (s2.readyAll k).passAll k phi
  if k = 255 then (s3.dbm.lag.foldl (fun u e => State.lagChunks (phi + 1) e.1 phi u) s3).shedShow else s3

/-! ### What reaches a stream -/

/-- Everything that a stream has formed enters its emission buffer, whatever its frontier. -/
def State.strmDrain (s : State) (k : Nat) : State := (s.readyAll k).passAll k (2 ^ 64)

/-- A decode job of a replay carriage starts (R287): the records of the job before leave first, and the frontier starts again. -/
def State.strmRestart (s : State) (k : Nat) : State :=
  (s.strmDrain k).strmMod k (fun (t : Stream) => ({ t with
    recs := t.recs.map (fun (r : Rec) => ({ r with sort := 0 } : Rec)), front := [], seen := [], phi := 0, sumNext := none } : Stream))

/-- The set of a report's node touches the seam with a ring neighbour that is joined: bit 16 to the west, bit 17 to the east. -/
def State.ringTouch (s : State) (r : Report) : State :=
  let bit := if r.seam = 255 ∧ s.rb 0 Reg.RNG_STATUS_LOW_JOINED then 0x10000
    else if r.low ∧ r.seam + 1 = s.carriageCount ∧ s.rb 0 Reg.RNG_STATUS_HIGH_JOINED then 0x20000 else 0
  if bit = 0 then s
  else s.strmMod 255 (fun (t : Stream) =>
    let x := gather t.sets [r.node]
    ({ t with sets := x.1 ++ [{ x.2 with flags := x.2.flags ||| bit }] } : Stream))

/-- A fragment, report, marker or the like of carriage g reaches its stream. -/
def State.strmTake (s : State) (g : Nat) (it : Item) : State :=
  let k := s.strmOf g
  match it with
  | .frag f => ((s.strmMod k (fun t => t.frag f)).readyAll k).shedShow
  | .report r => ((s.strmMod k (fun t => t.report g r)).ringTouch r).readyAll k
  | .gap m => s.addRec k (s.markRec k g m)
  | .seam x a b => s.addRec k (s.lineGap k 0x11 a (b + 1 - a) x (x + 1) (b2n (s.cf x Reg.CPL_CFG_LINK == 2)))
  | .force nodes c => (s.strmMod k (fun t => t.force nodes c)).readyAll k
  | .start => if k = 255 then s else s.strmRestart k
  | _ => s

/-- The frontier of carriage g reaches its stream. -/
def State.strmFront (s : State) (g m : Nat) : State :=
  let k := s.strmOf g
  (s.strmMod k (fun (t : Stream) => ({ t with
    front := cset t.front g (Nat.max m (cgetD t.front g 0)), seen := cset t.seen g (Nat.max m (cgetD t.seen g 0)) } : Stream))).phiMove k

/-! ### Slices (R240) -/

/-- Where something lies on the web: its last line and first column; a fragment without features lies nowhere. -/
def Item.place : Item → Nat × Nat
  | .frag f => (f.feat.map (fun x => (x.mlast, x.xmin))).getD (0, 2 ^ 64)
  | .report r => (r.line, r.start)
  | _ => (0, 2 ^ 64)

/-- A slice hears of a node at a place: in none of its sets it makes a new one. -/
def Slice.hear (x : Slice) (n : Nat × Nat) (at_ : Nat × Nat) : Slice :=
  if x.sets.any (fun d => d.members.contains n) then
    { x with sets := x.sets.map (fun (d : SliceSet) =>
        if d.members.contains n then ({ d with last := Nat.max d.last at_.1, col := Nat.min d.col at_.2 } : SliceSet) else d) }
  else { x with sets := x.sets ++ [⟨[n], [], at_.1, at_.2⟩] }

/-- Two nodes of a slice come into one set. -/
def Slice.unite (x : Slice) (a b : Nat × Nat) (at_ : Nat × Nat) : Slice :=
  let y := (x.hear a at_).hear b at_
  let hit := y.sets.filter (fun d => d.members.contains a || d.members.contains b)
  let rest := y.sets.filter (fun d => !(d.members.contains a || d.members.contains b))
  { y with sets := rest ++ [hit.foldl (fun (u : SliceSet) d => ⟨joinNodes u.members d.members, joinNodes u.closed d.closed, Nat.max u.last d.last,
    Nat.min u.col d.col⟩) ⟨[], [], 0, 2 ^ 64⟩] }

/-- What a slice notes of a fragment or report of its coach: sets whose members have all closed are finished or handed on. -/
def Slice.note (x : Slice) (g : Nat) (it : Item) : Slice :=
  match it with
  | .frag f =>
    let nodes := f.labels.map (fun l => (g, l))
    match nodes with
    | [] => x
    | n :: t =>
      let y := t.foldl (fun u m => u.unite n m it.place) (x.hear n it.place)
      let z : Slice := if f.cut then y else
        { y with sets := y.sets.map (fun (d : SliceSet) => if d.members.contains n then ({ d with closed := joinNodes d.closed nodes } : SliceSet) else d) }
      { z with sets := z.sets.filter (fun d => d.members.any (fun m => !d.closed.contains m)) }
  | .report r =>
    if r.seam % 6 = 5 then x.hear r.node it.place
    else
      let mates := x.reports.filter (fun e => r.meets e.2)
      let y : Slice := { x.hear r.node it.place with reports := (x.reports.filter (fun e => decide (r.line ≤ e.2.line + 4096))) ++ [(g, r)] }
      mates.foldl (fun u q => if u.sets.any (fun d => d.members.contains q.2.node) then u.unite r.node q.2.node it.place else u) y
  | _ => x

/-- A slice's oldest set: the lowest last line, then the lowest first column (R239, R240). -/
def oldestSet : List SliceSet → Option SliceSet
  | [] => none
  | d :: t => some (t.foldl (fun (b a : SliceSet) => if a.last < b.last ∨ (a.last = b.last ∧ a.col < b.col) then a else b) d)

/-- Something goes on from slice c: C0's slice and that of a replay carriage hold the stream themselves, another forwards it. -/
def State.sliceOut (s : State) (g : Nat) (it : Item) : State :=
  if g / 6 = 0 ∨ s.isReplay g then s.strmTake g it
  else s.sliceMod (g / 6) (fun (x : Slice) => ({ x with fwd := x.fwd ++ [⟨g, it⟩] } : Slice))

/-- A slice takes something of carriage g: it may have to close its oldest set first (R240). -/
def State.sliceTake (s : State) (g : Nat) (it : Item) : State :=
  let c := g / 6
  let s1 := s.sliceMod c (fun x => x.note g it)
  let line : Nat := match it with
    | .frag f => f.close
    | .report r => r.line
    | _ => 0
  let s2 := s1.sliceOut g it
  let l := (s1.slice c).sets
  match oldestSet l.dropLast with
  | some d =>
    if 131072 < l.length then
      (((s2.sliceMod c (fun (x : Slice) => ({ x with sets := x.sets.filter (fun e => e != d) } : Slice))).sliceOut g (.force d.members line)).add
        (unitOf c 0) (Reg.DBM_CNT_COUNT.sh 28) 1).ev (unitOf c 0) Reg.DBM_EVENT_FULL
    else s2
  | none => s2

/-- Components of carriage g that something names. -/
def Item.nodes (g : Nat) : Item → List (Nat × Nat)
  | .frag f => f.labels.map (fun l => (g, l))
  | .report r => if r.car = g then [r.node] else []
  | _ => []

/-- The components of carriage g that are open beyond Mews k and whose end a flush took away: none of what is in k closes them. -/
def State.lostNodes (s : State) (g k : Nat) : List (Nat × Nat) :=
  let open' := (s.strm (s.strmOf g)).sets.flatMap (fun d => d.members.filter (fun n => n.1 == g && !d.closed.contains n))
  let here := (s.slice (g / 6)).sets.flatMap (fun d => d.members.filter (fun n => n.1 == g && !d.closed.contains n))
  let onWay := (s.slice (g / 6)).fwd.flatMap (fun f => if f.carriage = g then f.item.nodes g else [])
  let later := (s.mew k).packets.flatMap (fun p => match p.item with
    | some (.frag f) => if f.cut then [] else f.labels.map (fun l => (g, l))
    | _ => [])
  (joinNodes (joinNodes open' here) onWay).filter (fun n => !later.contains n)

/-- A flush mark on a merge Mews (R333): what it took away ends here, and the next frontier closes the span of its gap record. -/
def State.mergeFlushed (s : State) (g : Nat) : State :=
  match s.mewIn g ⟨.DBM, unitOf (g / 6) 0, 0⟩ with
  | none => s
  | some k =>
    let lost := s.lostNodes g k
    let front := cgetD (s.strm (s.strmOf g)).front g 0
    let ends := fun (d : SliceSet) => ({ d with closed := joinNodes d.closed (d.members.filter (fun n => lost.contains n)) } : SliceSet)
    let alive := fun (d : SliceSet) => d.members.any (fun n => !d.closed.contains n)
    let s1 := s.sliceMod (g / 6) (fun (x : Slice) => ({ x with sets := (x.sets.map ends).filter alive } : Slice))
    { s1.sliceOut g (.force lost front) with tapLost := cset s1.tapLost k (front + 1) }

/-- The gap record of a merge Mews that was flushed, over the lines from its frontier before to its frontier after (R333). -/
def State.mergeGap (s : State) (g m : Nat) : State :=
  match s.mewIn g ⟨.DBM, unitOf (g / 6) 0, 0⟩ with
  | none => s
  | some k =>
    match cget s.tapLost k with
    | none => s
    | some f =>
      let s1 := { s with tapLost := cdel s.tapLost k }
      if m < f then s1 else s1.addRec (s.strmOf g) (s.lineGap (s.strmOf g) 0x17 f (m + 1 - f) g 0xFF 0)

/-- The slice of carriage g's coach takes the next fragment, edge report or marker from its Mews (R240). -/
def State.sliceNext (s : State) (g : Nat) : State :=
  match s.takeNext g ⟨.DBM, unitOf (g / 6) 0, 0⟩ with
  | some (.frontier _ _, _) => s
  | some (.flushMark, t) => t.mergeFlushed g
  | some (it, t) => t.sliceTake g it
  | none => s

/-- DBM_FRAGMENT: the slice of carriage g's coach takes the next thing but a frontier. -/
def execDbmFragment (g : Nat) (s : State) : Host.Outcome State Fault Refusal := .next (s.sliceNext g)

/-- The live DBM takes the next thing that the slice of coach c forwards (R240, R241). -/
def State.fwdNext (s : State) (c : Nat) : State :=
  match (s.slice c).fwd with
  | [] => s
  | f :: t => (s.sliceMod c (fun (x : Slice) => ({ x with fwd := t } : Slice))).strmTake f.carriage f.item

/-- DBM_PARTIAL_SET: the live DBM takes from the slice of coach c what it forwards, one thing at a time (log 63). -/
def execDbmPartialSet (c : Nat) (s : State) : Host.Outcome State Fault Refusal := .next (s.fwdNext c)

/-- The frontier of carriage g is reported once its slice has forwarded everything before it, and Φ moves (R240, R242, R243). -/
def State.frontNext (s : State) (g : Nat) : State :=
  match s.takeNext g ⟨.DBM, unitOf (g / 6) 0, 0⟩ with
  | some (.frontier h m, t) => if (s.slice (g / 6)).fwd = [] then (t.mergeGap g m).strmFront h m else s
  | _ => s

/-- FRONTIER_ADVANCE: the frontier of carriage g is reported. -/
def execFrontierAdvance (g : Nat) (s : State) : Host.Outcome State Fault Refusal := .next (s.frontNext g)

/-! ### A carriage that lags (R245) -/

/-- What carriage g has handed in reaches its stream. -/
def State.mergeRun : Nat → Nat → State → State
  | 0, _, s => s
  | n + 1, g, s => State.mergeRun n g (((s.sliceNext g).fwdNext (g / 6)).frontNext g)

/-- How many turns that takes. -/
def State.mergeTurns (s : State) (g : Nat) : Nat :=
  (match s.mewIn g ⟨.DBM, unitOf (g / 6) 0, 0⟩ with
    | some k => 3 * (s.mew k).packets.length
    | none => 0) + (s.slice (g / 6)).fwd.length

/-- The carriage leaves Φ, which moves on without it (R242, R245). -/
def State.exclude (s : State) (g f : Nat) : State :=
  let s1 := s.wf (s.lblWin g) Reg.LBL_STATUS_EXCLUDED 1
  ((({ s1 with dbm := { s1.dbm with lag := cset s1.dbm.lag g (f + 1) } } : State).lagShow).ev 0 Reg.DBM_EVENT_LAG).phiMove 255

/-- CARRIAGE_LAG: the frontier of live carriage g is more than DBM_LAG.LINES behind the web: its components close and reach the stream, and
it leaves Φ (R245). -/
def execCarriageLag (g : Nat) (s : State) : Host.Outcome State Fault Refusal :=
  .next (let f := s.lblFront g
    let web := s.webNm.toNat / s.gridMd
    if !s.live g ∨ s.excluded g ∨ web ≤ f + s.rf 0 Reg.DBM_LAG_LINES then s
    else
      let s1 := (s.lblCloseAll g (f + 1) (fun _ => 12) 2).ev (s.lblWin g) Reg.LBL_EVENT_LAG_FLUSH
      let s2 := (s1.lblMod g (fun (y : Lbl) => ({ y with before := [], lastLine := none } : Lbl))).lblShow g
      (State.mergeRun (s2.mergeTurns g) g s2).exclude g f)

end Sys2Proof.Machine
end

