-- ==== Sys2Proof/Machine/Records.lean ====
section
/-! DEFINITION. The record queues (R248, R255 to R261) and the patch cutters (R262 to R265). -/

namespace Sys2Proof.Machine

/-! ### Patches wait (R262) -/

/-- Pending patches of PAT window i. -/
def State.patOf (s : State) (i : Nat) : List PatJob := cgetD s.pat i []

/-- Set them and show how many. -/
def State.patSet (s : State) (i : Nat) (l : List PatJob) : State :=
  ({ s with pat := cset s.pat i l } : State).wf i Reg.PAT_STATUS_PENDING l.length

/-- Change the shed counts of a period of P lines. -/
def shedMod (l : List Shed) (period lines : Nat) (f : Shed → Shed) : List Shed :=
  if l.any (fun x => x.period == period && x.lines == lines) then l.map (fun x => if x.period = period ∧ x.lines = lines then f x else x)
  else l ++ [f ⟨period, lines, [0, 0, 0, 0], 0⟩]

/-- P of summaries. -/
def State.sumLines (s : State) : Nat := Nat.max 1 (s.rf 0 Reg.DBM_SUMMARY_LINES)

/-- A patch is shed: counted by its PAT and in the period that Φ is in (R255, R265). -/
def State.patShed (s : State) (i k : Nat) : State :=
  let p := s.sumLines
  ((s.inc i (Reg.PAT_CNT_COUNT.sh 8)).ev i Reg.PAT_EVENT_SHED).strmMod k (fun (t : Stream) => ({ t with
    sheds := shedMod t.sheds (t.phi / p) p (fun x => { x with patches := x.patches + 1 }) } : Stream))

/-- The PAT window that cuts the patch of a job. -/
def PatJob.window (j : PatJob) : Nat := unitOf (j.first / 6) (j.did % 2)

/-- Whether a record's patch is taken on (R262). -/
def State.patOffer (s : State) (j : PatJob) : State × Bool :=
  let i := j.window
  if !s.hasUnit .PAT i ∨ !s.rb i Reg.PAT_CTL_ENABLE ∨ !(s.rf i Reg.PAT_CTL_CLASS_MASK).testBit j.feat.classTop ∨
      (s.rb i Reg.PAT_CTL_FIRST_ONLY ∧ j.cont ≠ 0) ∨ s.suppressed then (s, false)
  else if 1024 ≤ (s.patOf i).length then (s.patShed i j.stream, false)
  else (s.patSet i (s.patOf i ++ [j]), true)

/-! ### Writing a record (R248, R256) -/

/-- Bytes with a little-endian number put at a place. -/
def putAt (l : List Byte) (off n v : Nat) : List Byte := l.take off ++ toBytes n v ++ l.drop (off + n)

/-- A record gets into its slot, and what follows from it. -/
def State.storeRec (s : State) (k seq : Nat) (r : Rec) : State :=
  let q := s.queueOf k
  let s1 := s.dramPut (q.1 + 64 * (seq % Nat.max 1 q.2.1)) r.body false
  let s2 := s1.wf64 (seqReg k).1 (seqReg k).2 (seq + 1)
  let s3 := s2.dbmCount k 0 1
  let s4 := if r.kind = 1 then s3.dbmCount k 5 1 else if r.kind = 2 then s3.dbmCount k 6 1 else s3
  let n := s4.rf64 (seqReg k).1 (seqReg k).2 - s4.dbmAck k
  s4.evIf (decide (s4.rf (strmWin k) Reg.DBM_Q_IRQ_RECORDS ≤ n)) (strmWin k) Reg.DBM_EVENT_QUEUE

/-- Whether two records have the same key (R247). -/
def Rec.same (a b : Rec) : Bool := !a.before b && !b.before a

/-- A standby's own record meets the mirrored one of its key, or waits for it (R458). -/
def State.shadow (s : State) (r : Rec) : State :=
  if s.pair.unmatched.any (fun q => q.same r) then
    s.pairMod (fun (p : Pair) => ({ p with unmatched := p.unmatched.filter (fun q => !q.same r) } : Pair))
  else s.strmMod 255 (fun (t : Stream) => ({ t with shadows := t.shadows ++ [r] } : Stream))

/-- A record takes the next SEQUENCE: a primary with a partner sends it first (R459), a standby keeps it as a shadow (R458); a part whose
outputs are suppressed otherwise drops it (R451). -/
def State.writeRec (s : State) (k : Nat) (r : Rec) : State :=
  let seq := s.nextSeq k
  if k = 255 ∧ s.standby then s.shadow r
  else if k = 255 ∧ s.suppressed then s
  else
    let x : State × Nat := match r.job with
      | some j =>
        let y := s.patOffer { j with seq := seq }
        (y.1, if y.2 then 0 else 0x2000)
      | none => (s, 0)
    let flags := leAt r.body 2 2 ||| x.2
    let b : Rec := { r with body := putAt (putAt r.body 2 2 flags) 8 8 seq }
    if k = 255 ∧ s.inPair then
      (x.1.emit .mirror 0x47 ((s.strm k).phi :: b.body.map (fun y => y.toNat))).strmMod k (fun (t : Stream) => ({ t with
        awaiting := t.awaiting ++ [(seq, b)] } : Stream))
    else x.1.storeRec k seq b

/-- Records that the standby holds, or all once there is none to wait for, are written (R459). -/
def State.flushAwaiting (s : State) (upTo : Nat) : State :=
  let l := (s.strm 255).awaiting
  let s1 := s.strmMod 255 (fun (t : Stream) => ({ t with awaiting := t.awaiting.filter (fun e => decide (upTo < e.1)) } : Stream))
  (l.filter (fun e => decide (e.1 ≤ upTo))).foldl (fun t e => t.storeRec 255 e.1 e.2) s1

/-- The summary record of a period of P lines (R255). -/
def State.sumRec (s : State) (k period lines : Nat) (counts : List Nat) (patches gaps : Nat) (folded : Bool) (mdEnd : Nat) : Rec :=
  let body := toBytes 1 4 ++ toBytes 1 0 ++ toBytes 2 (b2n folded + s.strmFlags k) ++ toBytes 4 period ++ toBytes 8 0 ++
    toBytes 8 (unsgn 64 (s.yOf (period * lines))) ++ toBytes 8 mdEnd ++ (List.range 4).flatMap (fun c => toBytes 4 (satN 0xFFFFFFFF (counts.getD c 0))) ++
    toBytes 4 (satN 0xFFFFFFFF patches) ++ toBytes 4 (satN 0xFFFFFFFF gaps) ++ toBytes 8 s.now
  ⟨(period + 1) * lines, 2, 0, 0, 0, pad64 body, mdEnd, none⟩

/-- A gap or summary record that finds the queue full is folded into the pending summary (R260). -/
def State.foldIn (s : State) (k period lines : Nat) (counts : List Nat) (patches gaps mdEnd : Nat) : State :=
  let f : Fold := match (s.strm k).fold with
    | some f => { f with
        period := Nat.min f.period period, mdEnd := Nat.max f.mdEnd mdEnd
        counts := (List.range 4).map (fun c => f.counts.getD c 0 + counts.getD c 0), patches := f.patches + patches, gaps := f.gaps + gaps }
    | none => ⟨period, lines, mdEnd, counts, patches, gaps⟩
  let s1 := s.strmMod k (fun (t : Stream) => ({ t with fold := some f } : Stream))
  (s1.dbmCount k 9 1).ev (strmWin k) Reg.DBM_EVENT_FOLD

/-- The summary that is due next, if any: its period, P, counts and patches (R259). -/
def State.sumDue (s : State) (k phi : Nat) : Option Shed :=
  let t := s.strm k
  let shed := (t.sheds.filter (fun x => decide ((x.period + 1) * x.lines ≤ phi)))
  let first := shed.foldl (fun (a : Option Shed) x => match a with
    | some y => if (x.period + 1) * x.lines < (y.period + 1) * y.lines then some x else some y
    | none => some x) none
  let p := s.sumLines
  match t.sumNext with
  | none => first
  | some m =>
    let n := ceilDiv m p
    if (n + 1) * p ≤ phi then
      match first with
      | some x => if (x.period + 1) * x.lines ≤ (n + 1) * p then some x else some ⟨n, p, [0, 0, 0, 0], 0⟩
      | none => some ⟨n, p, [0, 0, 0, 0], 0⟩
    else first

/-- The due summary is written or folded. -/
def State.sumGo (s : State) (k : Nat) (x : Shed) : State :=
  let full := decide ((s.queueOf k).2.1 ≤ s.queueLen k)
  let done : State := s.strmMod k (fun (t : Stream) => ({ t with
    sheds := t.sheds.filter (fun y => !(y.period == x.period && y.lines == x.lines))
    sumNext := t.sumNext.map (fun m => Nat.max m ((x.period + 1) * x.lines)) } : Stream))
  let e := (s.yOf ((x.period + 1) * x.lines - 1)).toNat
  if full then done.foldIn k x.period x.lines x.counts x.patches 0 e
  else done.writeRec k (s.sumRec k x.period x.lines x.counts x.patches 0 false e)

/-- A record at its turn: written, shed or folded (R258, R260). -/
def State.recGo (s : State) (k : Nat) (r : Rec) : State :=
  let t := s.strm k
  let q := s.queueLen k
  let x := s.queueOf k
  let s1 := s.strmMod k (fun (t : Stream) => ({ t with recs := t.recs.drop 1 } : Stream))
  let p := s.sumLines
  if r.kind = 0 then
    if t.wouldShed q x.2.2 x.2.1 r.cls then
      let s2 := s1.strmMod k (fun (t : Stream) => ({ t with
        sheds := shedMod t.sheds (r.sort / p) p (fun y => { y with counts := lmod y.counts r.cls (fun n => n + 1) }) } : Stream))
      (s2.dbmCount k (1 + r.cls) 1).ev (strmWin k) Reg.DBM_EVENT_SHED
    else s1.writeRec k r
  else if x.2.1 ≤ q then s1.foldIn k (r.sort / p) p [0, 0, 0, 0] 0 1 r.mdEnd
  else s1.writeRec k r

/-- The next record of a stream up to sort line phi, in key order (R247, R258 to R260). -/
def State.recNext (s : State) (k phi : Nat) : State :=
  let t := s.strm k
  let free := decide (s.queueLen k < (s.queueOf k).2.1)
  match t.fold with
  | some f =>
    if free then
      (s.strmMod k (fun (u : Stream) => ({ u with fold := none } : Stream))).writeRec k
        (s.sumRec k f.period f.lines f.counts f.patches f.gaps true f.mdEnd)
    else go s t
  | none => go s t
where
  /-- Without a pending summary that can leave. -/
  go (s : State) (t : Stream) : State :=
    let head := (t.recs.head?).filter (fun r => decide (r.sort ≤ phi))
    match s.sumDue k phi, head with
    | some x, some r => if (x.period + 1) * x.lines < r.sort then s.sumGo k x else s.recGo k r
    | some x, none => s.sumGo k x
    | none, some r => s.recGo k r
    | none, none => s

/-- RECORD_WRITE: the next record of stream k (255 live, else a replay carriage) at its turn (R258). -/
def execRecordWrite (k : Nat) (s : State) : Host.Outcome State Fault Refusal := .next (s.recNext k (s.strm k).phi).shedShow

/-! ### Acknowledgement (R256) -/

/-- The high word of an acknowledgement applies both words, unless the value is below the present one or above the next SEQUENCE; a standby
ignores it (R456), and a primary with a partner mirrors it. -/
def State.actAck (s : State) (k : Nat) (w : Word) : State :=
  let new := w.toNat * 2 ^ 32 + (s.strm k).ackLow
  if (k = 255 ∧ s.standby) ∨ new < s.dbmAck k ∨ s.rf64 (seqReg k).1 (seqReg k).2 < new then s
  else
    let s1 := (s.wf64 (ackReg k).1 (ackReg k).2 new).shedShow
    if k = 255 ∧ s.inPair then s1.emit .mirror 0x48 [new] else s1

/-- The low word of an acknowledgement waits for its high word. -/
def State.actAckLow (s : State) (k : Nat) (w : Word) : State := s.strmMod k (fun (t : Stream) => ({ t with ackLow := w.toNat } : Stream))

/-- DBM_ACK_WRITE: a write of DBM_ACK_HI (R256). -/
def execDbmAckWrite (m : Nat) (w : Word) (s : State) : Host.Outcome State Fault Refusal :=
  .next (s.regDo m 0 Reg.DBM_ACK_HI_SEQ w (fun t => t.actAck 255 w))

/-- DBM_RACK_WRITE: a write of DBM_RACK_HI of carriage g; ignored where it is no replay carriage (R261). -/
def execDbmRackWrite (m : Nat) (w : Word) (g : Nat) (s : State) : Host.Outcome State Fault Refusal :=
  .next (s.regDo m (unitOf (g / 6) 0) (Reg.DBM_RACK_HI_SEQ.sh (16 * (g % 6))) w (fun t => if t.isReplay g then t.actAck g w else t))

/-! ### Cutting a patch (R263 to R265) -/

/-- The columns and lines of a patch (R263): widened box, clipped to the web, then to the limits, about the centroid. -/
structure PatBox where
  x0 : Nat
  w : Nat
  m0 : Nat
  h : Nat
  clipped : Bool
  deriving DecidableEq, Repr

/-- The largest width and height within limits: the greatest area, then the greatest width (log 39). -/
def largestBox (w h cap : Nat) : Nat × Nat :=
  (rangeFrom 1 w).foldl (fun (b : Nat × Nat) x =>
    let y := Nat.min h (cap / x)
    if b.1 * b.2 ≤ x * y then (x, y) else b) (1, Nat.min 1 cap)

/-- Where a span of n about a centre begins inside lo to lo + m − 1. -/
def spanAbout (lo m n centre : Nat) : Nat := (clampI lo ((lo + m - n : Nat) : Int) ((centre : Int) - (n / 2 : Nat))).toNat

/-- The slot size of PAT window i. -/
def State.patSlot (s : State) (i : Nat) : Nat := 64 * s.rf i Reg.PAT_SLOT_SIZE_BYTES

/-- The columns and lines of a job's patch. -/
def State.patBox (s : State) (i planes : Nat) (j : PatJob) : PatBox :=
  let mg := s.rf i Reg.PAT_CTL_MARGIN
  let x0 := j.feat.xmin - mg
  let x1 := Nat.min (s.head.totalColumns - 1) (j.feat.xmax + mg)
  let m0 := j.feat.mfirst - mg
  let w := x1 + 1 - x0
  let h := j.feat.mlast + mg + 1 - m0
  let cap := (s.patSlot i - 128) / (2 * Nat.max 1 planes)
  if w ≤ 1024 ∧ h ≤ 1024 ∧ w * h ≤ cap then ⟨x0, w, m0, h, false⟩
  else
    let b := largestBox (Nat.min w 1024) (Nat.min h 1024) cap
    ⟨spanAbout x0 w b.1 j.centreX, b.1, spanAbout m0 h b.2 j.centreM, b.2, true⟩

/-- The carriage that owns a package column. -/
def State.ownerOf (s : State) (x : Nat) : Option CarrRec :=
  (List.range s.carriageCount).findSome? (fun g => (s.carr g).filter (fun r => decide (r.firstCol ≤ x) && decide (x < r.firstCol + r.owned)))

/-- A sample of the histories (R263, R265): its value, whether its line is lost, whether it is poisoned. -/
def State.histAt (s : State) (stream p x m : Nat) : Nat × Bool × Bool :=
  match (if stream = 255 then s.ownerOf x else s.carr stream) with
  | none => (0, false, false)
  | some r =>
    if m + r.history < s.lblFront r.carriage then (0, true, false)
    else
      match (cgetD s.hist r.carriage []).find? (fun h => h.grid == m) with
      | none => (0, true, false)
      | some h =>
        if (h.poison.getD p []).contains (x - r.firstCol) then (0, false, true)
        else (((h.planes.getD p []).getD (x - r.firstCol) 0).toNat, false, false)

/-- The header of a slot (R264). -/
def State.patHead (s : State) (j : PatJob) (b : PatBox) (planes status : Nat) (md0 : Int) : List Byte :=
  let f := j.feat
  let a := Nat.max 1 f.area
  toBytes 4 j.did ++ toBytes 2 j.cont ++ toBytes 1 status ++ toBytes 1 planes ++ toBytes 8 j.seq ++ toBytes 8 (unsgn 64 md0) ++
  toBytes 8 (unsgn 64 (s.cdOf b.x0)) ++ toBytes 2 b.w ++ toBytes 2 b.h ++ toBytes 4 0 ++ toBytes 8 f.area ++ toBytes 8 (unsgn 64 f.esum) ++
  toBytes 8 f.wa ++ (List.range 4).flatMap (fun c => toBytes 4 (satN 0xFFFFFFFF (f.classes.getD c 0))) ++
  toBytes 8 (unsgn 64 (rne (65536 * ((f.sxx * a : Nat) - (f.sx * f.sx : Nat) : Int)) a)) ++
  toBytes 8 (unsgn 64 (rne (65536 * ((f.smm * a : Nat) - (f.sm * f.sm : Nat) : Int)) a)) ++
  toBytes 8 (unsgn 64 (rne (65536 * ((f.sxm * a : Nat) - (f.sx * f.sm : Nat) : Int)) a)) ++
  toBytes 4 (unsgn 32 (rne (256 * ((f.sx : Int) - (f.xmin * a : Nat))) a)) ++
  toBytes 4 (unsgn 32 (rne (256 * ((f.sm : Int) - (f.mfirst * a : Nat))) a)) ++
  toBytes 2 f.epoch ++ toBytes 2 f.epochLast ++ toBytes 2 j.flags ++ toBytes 10 0

/-- Write a slot into the ring of PAT window i, or shed the patch where it is full (R264, R265). -/
def State.patPut (s : State) (i stream : Nat) (l : List Byte) (clipped lost poison : Bool) : State :=
  let slots := s.rf i Reg.PAT_RING_SLOTS_SLOTS
  let wr := s.rf i Reg.PAT_RING_WRITE_SLOT
  if slots = 0 ∨ (wr + 1) % slots = s.rf i Reg.PAT_RING_READ_SLOT then s.patShed i stream
  else
    let base := 64 * s.rf i Reg.PAT_RING_BASE_LO_ADDR + 2 ^ 32 * s.rf i Reg.PAT_RING_BASE_HI_ADDR
    let size := s.patSlot i
    let s1 := s.dramWrite 0 (base + wr * size) ((l ++ List.replicate (alignUp l.length 64 - l.length) 0).take size) false
    let s2 := ((s1.wf i Reg.PAT_RING_WRITE_SLOT ((wr + 1) % slots)).inc i Reg.PAT_CNT_COUNT).ev i Reg.PAT_EVENT_WRITTEN
    let s3 := if clipped then (s2.inc i (Reg.PAT_CNT_COUNT.sh 4)).ev i Reg.PAT_EVENT_CLIPPED else s2
    let s4 := if lost then s3.inc i (Reg.PAT_CNT_COUNT.sh 12) else s3
    let s5 := if poison then s4.inc i (Reg.PAT_CNT_COUNT.sh 16) else s4
    s5.evIf (lost || poison) i Reg.PAT_EVENT_LOST

/-- Planes of a carriage's history: 3 in colour. -/
def State.patPlanes (s : State) (g : Nat) : Nat := Nat.max 1 (((cgetD s.hist g []).head?.map (fun h => h.planes.length)).getD 1)

/-- Cut a job's patch. -/
def State.patCut (s : State) (i : Nat) (j : PatJob) : State :=
  let planes := s.patPlanes j.first
  let b := s.patBox i planes j
  let px := (List.range planes).flatMap (fun p => (rangeFrom b.m0 b.h).flatMap (fun m => (rangeFrom b.x0 b.w).map (fun x => s.histAt j.stream p x m)))
  let lost := px.any (fun e => e.2.1)
  let poison := px.any (fun e => e.2.2)
  let md0 : Int := match (cgetD s.hist j.first []).find? (fun h => h.grid == b.m0) with
    | some h => h.md
    | none => s.yOf b.m0
  let status := b2n b.clipped + 2 * b2n lost + 4 * b2n poison
  s.patPut i j.stream (s.patHead j b planes status md0 ++ px.flatMap (fun e => toBytes 2 e.1)) b.clipped lost poison

/-- Whether Φ has passed the last line of a job's patch (R263). -/
def State.patDue (s : State) (i : Nat) (j : PatJob) : Bool :=
  let b := s.patBox i (s.patPlanes j.first) j
  decide (b.m0 + b.h ≤ (s.strm j.stream).phi + 1)

/-- A job that leaves its queue is no longer one that a flush will discard (R333). -/
def State.jobLeaves (s : State) (i place : Nat) : State :=
  { s with mews := s.mews.map (fun e => if s.mewSink e.1 .PAT = some i ∧ place < e.2.jobs then (e.1, { e.2 with jobs := e.2.jobs - 1 }) else e) }

/-- PATCH_CUT: PAT window i cuts its first pending patch whose lines Φ has passed (R263). -/
def execPatchCut (i : Nat) (s : State) : Host.Outcome State Fault Refusal :=
  .next (match (s.patOf i).find? (s.patDue i) with
    | none => s
    | some j =>
      ((s.jobLeaves i ((s.patOf i).findIdx (fun x => x == j))).patSet i (dropFirst (fun x => x == j) (s.patOf i))).patCut i j)

/-- A teardown aborts pending patches: where their ring survives, a header says so (R265). -/
def State.patAbort (s : State) (i : Nat) (torn : PatJob → Bool) : State :=
  ((s.patOf i).filter torn).foldl (fun t j =>
    let planes := t.patPlanes j.first
    let b := t.patBox i planes j
    t.patPut i j.stream (t.patHead j b planes (8 + b2n b.clipped) (t.yOf b.m0)) b.clipped false false)
    (s.patSet i ((s.patOf i).filter (fun j => !torn j)))

/-- Whether a job of PAT window i reads the history of carriage g. -/
def State.patReads (s : State) (i g : Nat) (j : PatJob) : Bool :=
  let b := s.patBox i (s.patPlanes j.first) j
  if j.stream = 255 then
    match s.carr g with
    | some r => r.role == 1 && decide (r.firstCol < b.x0 + b.w) && decide (b.x0 < r.firstCol + r.owned)
    | none => false
  else j.stream == g

end Sys2Proof.Machine
end

