-- ==== Sys2Proof/Machine/MewsFlush.lean ====
section
/-! DEFINITION. Flushes of a Mews at a packet boundary (R333), and what a lost packet means to its consumer. -/

namespace Sys2Proof.Machine

/-- Whether the consumer stands at a packet boundary. -/
def Mews.atBoundary (w : Mews) : Bool :=
  match w.packets with
  | p :: _ => p.taken == 0
  | [] => true

/-- Whether the first n packets all have their end marks, so that the flush point is reached. -/
def Mews.endedTo (w : Mews) (n : Nat) : Bool := (w.packets.take n).all (fun p => p.ended)

/-- Discard n packets at the head: count them and show how many the flush took. -/
def State.mewDiscard (s : State) (c m n : Nat) (mark : List MewPkt) : State :=
  let k := mewKey c m
  let w := s.mew k
  ((s.setMew k { w with packets := mark ++ w.packets.drop n, flush := none, jobs := 0, hwFlush := false }).add (unitOf c 0)
    (Reg.MEW_CNT_COUNT.sh 8) n)

/-- Jobs that a PAT's flush takes are shed (R265, R333). -/
def State.jobsShed (s : State) (k n : Nat) : State :=
  match s.mewSink k .PAT with
  | none => s
  | some i => ((s.patOf i).take n).foldl (fun t j => t.patShed i j.stream) (s.patSet i ((s.patOf i).drop n))

/-- MEWS_FLUSH_BOUNDARY: the consumer of Mews m is at a packet boundary and the packets up to the flush point are discarded (R333). -/
def execMewsFlushBoundary (c m : Nat) (s : State) : Host.Outcome State Fault Refusal :=
  .next (let k := mewKey c m
    let w := s.mew k
    match w.flush with
    | none => s
    | some n =>
      if w.hwFlush ∨ !w.atBoundary ∨ !w.endedTo n then s
      else
        let i := unitOf c 0
        let j := w.jobs
        let s1 := ((s.mewDiscard c m n []).jobsShed k j).add i (Reg.MEW_CNT_COUNT.sh 8) j
        (((s1.wf i Reg.MEW_FLUSH_STATUS_BUSY 0).wf i Reg.MEW_FLUSH_STATUS_DISCARDED (satN 65535 (n + j))).wf i Reg.MEW_FLUSH_STATUS_DONE
          1).ev i Reg.MEW_EVENT_FLUSHED)

/-- A pointer word of Mews m is lost: its flush point lies behind what is in it now (R322, R333). -/
def State.mewLost (s : State) (c m : Nat) : State :=
  let k := mewKey c m
  let jobs := match s.mewSink k .PAT with
    | some i => (s.patOf i).length
    | none => 0
  { s with mews := cset s.mews k { s.mew k with flush := some (s.mew k).packets.length, jobs := jobs, hwFlush := true } }

/-- The carriage whose LBL produces into Mews k. -/
def State.mewLabeller (s : State) (k : Nat) : Option Nat :=
  ((s.mewEnds k).find? (fun e => e.1.typ == Blk.typeCode .LBL)).map (fun e => e.1.carriage)

/-- Every open component of carriage g closes with TRUNCATED (R333). -/
def State.lblTruncate (s : State) (g : Nat) : State := (s.lblCloseAll g (s.lblFront g) (fun _ => 4) 0).lblShow g

/-- Records of these classes, discarded from a record Mews, count as shed in the summary of their period (R258, R333). -/
def State.recordsShed (s : State) (classes : List Nat) : State :=
  let p := s.sumLines
  classes.foldl (fun t c => (t.dbmCount 255 (1 + c % 4) 1).strmMod 255 (fun (x : Stream) => ({ x with
    sheds := shedMod x.sheds (x.phi / p) p (fun y => { y with counts := lmod y.counts (c % 4) (fun n => n + 1) }) } : Stream))) s

/-- The lines among packets: how many, those that the tap had lost before among them, and the numbers of the others. -/
def linesAmong (l : List MewPkt) : Nat × List Nat :=
  l.foldl (fun a p => match p.item with
    | some (.line x) => (a.1 + 1, a.2 ++ [x.tag.index])
    | some (.lost n) => (a.1 + n, a.2)
    | _ => a) (0, [])

/-- A tap's consumer has lost lines: a statistics unit knows their numbers, for the others a mark stands at the head (R40, R333). -/
def State.tapFlushed (s : State) (k : Nat) (gone : List MewPkt) : State :=
  let x := linesAmong gone
  match ((s.mewEnds k).find? (fun e => e.2.typ == Blk.typeCode .STA)).map (fun e => e.1.carriage) with
  | some g => { s with sta := cmod s.sta g Sta.fresh (fun u => { u with lost := x.2 ++ u.lost }) }
  | none => s.tapLoseFirst k x.1

/-- What a hardware flush of packets means beyond its mark, by the kind of the Mews (R333). -/
def State.mewLoss (s : State) (k : Nat) (gone : List MewPkt) (jobs : Nat) (classes : List Nat) : State :=
  match s.mewKind k with
  | 1 => s.tapFlushed k gone
  | 2 => s.jobsShed k jobs
  | 3 =>
    match s.mewLabeller k with
    | some g => s.lblTruncate g
    | none => s
  | 4 => s.recordsShed classes
  | _ => s

/-- MEWS_HW_FLUSH: Mews m, whose pointer was lost, flushes itself at a packet boundary; a line or merge Mews delivers a flush mark in place of
what it discarded (R333). `classes` are the classes of the records discarded from a record Mews. -/
def execMewsHwFlush (c m : Nat) (classes : List Nat) (s : State) : Host.Outcome State Fault Refusal :=
  .next (let k := mewKey c m
    let w := s.mew k
    match w.flush with
    | none => s
    | some n =>
      if !w.hwFlush ∨ !w.atBoundary ∨ !w.endedTo n then s
      else
        let kind := s.mewKind k
        let mark : List MewPkt := if kind = 0 ∨ kind = 3 then [⟨1, 0, true, false, false, some .flushMark⟩] else []
        let i := unitOf c 0
        (((s.mewDiscard c m n mark).mewLoss k (w.packets.take n) w.jobs classes).inc i (Reg.MEW_CNT_COUNT.sh 12)).ev i Reg.MEW_EVENT_FLUSH_MARK)

end Sys2Proof.Machine
end

