-- ==== Sys2Proof/Machine/Tables.lean ====
section
/-! DEFINITION. The table banks of Truing and Regauge and their loader (R176 to R181, R189). Rows name a carriage and whether they mean
its Regauge. -/

namespace Sys2Proof.Machine

/-- Truing's default bank: D = 0, G = 1.0, an empty map (R181). -/
def TruBank.fresh : TruBank := ⟨0, [], [], []⟩

/-- Truing at its start. -/
def Tru.fresh : Tru := ⟨[TruBank.fresh, TruBank.fresh], none, none, [], none, false⟩

/-- Regauge's default bank (R181). -/
def RgaBank.fresh (win nout : Nat) : RgaBank :=
  ⟨if nout ≤ 1 then 2 ^ 28 else Nat.min (2 ^ 30) ((win - 1) * 2 ^ 28 / (nout - 1)), [], [], [], [], [], []⟩

/-- Regauge at a start. -/
def Rga.fresh (win nout : Nat) : Rga :=
  ⟨[RgaBank.fresh win nout, RgaBank.fresh win nout], none, [], 0, 0, none, 0, none, [], false, none, false⟩

/-- Truing of carriage g. -/
def State.truOf (s : State) (g : Nat) : Tru := cgetD s.tru g Tru.fresh

/-- Change Truing of carriage g. -/
def State.truMod (s : State) (g : Nat) (f : Tru → Tru) : State := { s with tru := cset s.tru g (f (s.truOf g)) }

/-- INPUT_WIDTH and N_out of carriage g's Regauge (R187). -/
def State.rgaIn (s : State) (g : Nat) : Nat := wide (s.rf (s.eng .RGA g) Reg.RGA_WIDTH_IN)

/-- N_out of carriage g (R187). -/
def State.rgaOut (s : State) (g : Nat) : Nat := s.rf (s.eng .RGA g) Reg.RGA_WIDTH_OUT

/-- Regauge of carriage g. -/
def State.rgaOf (s : State) (g : Nat) : Rga := cgetD s.rga g (Rga.fresh (s.rgaIn g) (s.rgaOut g))

/-- Change Regauge of carriage g. -/
def State.rgaMod (s : State) (g : Nat) (f : Rga → Rga) : State := { s with rga := cset s.rga g (f (s.rgaOf g)) }

/-! ### Coefficients -/

/-- π in units of 2^-96, its first 96 fractional bits. -/
def piQ : Int := 0x3243F6A8885A308D313198A2E

/-- Terms of the series of sin x / x from x² in units of 2^-96. -/
def sincGo : Nat → Nat → Int → Int → Int
  | 0, _, _, _ => 0
  | f + 1, k, x2, t => t + sincGo f (k + 1) x2 (Int.ediv (-(t * x2)) (2 ^ 96 * ((2 * k : Int) * (2 * k + 1))))

/-- sinc(n / d) in units of 2^-96, by its series. -/
def sincQ (n d : Int) : Int :=
  let x := Int.ediv (piQ * n) d
  sincGo 40 1 (Int.ediv (x * x) (2 ^ 96)) (2 ^ 96)

/-- A Lanczos weight of support a at n / 256 from the centre, in units of 2^-96; 0 outside the support. -/
def lanczosQ (a n : Int) : Int := if n.natAbs < (256 * a).natAbs then Int.ediv (sincQ n 256 * sincQ n (256 * a)) (2 ^ 96) else 0

/-- Weight of tap t at phase φ of a set of n taps, normalised to a sum of 65,536 and rounded. -/
def lanczosTap (n φ t : Nat) : Int :=
  let w := fun (k : Nat) => lanczosQ (n / 2 : Nat) (256 * ((k : Int) - (n / 2 - 1 : Nat)) - φ)
  let sum := (List.range n).foldl (fun x k => x + w k) 0
  rne (65536 * w t) sum.toNat

/-- The built-in set of n taps (R181): the Lanczos kernel rounded to s2.16 so that it passes R189. The last bit of each coefficient is open
(log 32): a value of −1, 0 or 1 from `Config.lanczosRound` is added, and the tap nearest the centre takes what is left of 65,536. -/
def builtIn (n φ t : Nat) : Int :=
  let c := n / 2 - 1
  if φ = 0 then (if t = c then 65536 else 0)
  else
    let swap := 128 < φ
    let p := if swap then 256 - φ else φ
    let k := if swap then n - 1 - t else t
    let coef := fun (j : Nat) =>
      let i := if p = 128 ∧ n / 2 ≤ j then n - 1 - j else j
      lanczosTap n p i + ((Config.lanczosRound (n * 65536 + p * 256 + i) % 3 : Nat) : Int) - 1
    let rest := fun (skip : List Nat) => 65536 - ((List.range n).filter (fun j => !skip.contains j)).foldl (fun x j => x + coef j) 0
    if p = 128 then (if k = c ∨ k = c + 1 then Int.ediv (rest [c, c + 1]) 2 else coef k)
    else if k = c then rest [c] else coef k

/-- A CD coefficient of a bank. -/
def RgaBank.cdAt (b : RgaBank) (φ t : Nat) : Int := if b.cd = [] then builtIn 8 φ t else b.cd.getD (8 * φ + t) 0

/-- An MD coefficient of a bank. -/
def RgaBank.mdAt (b : RgaBank) (φ t : Nat) : Int := if b.md = [] then builtIn 6 φ t else b.md.getD (6 * φ + t) 0

/-- An increment entry of a bank, u4.28. -/
def RgaBank.incAt (b : RgaBank) (j : Nat) : Nat := if b.incs = [] then b.uniform else b.incs.getD j 0

/-- Whether a set of n taps sums to 65,536 in every phase (R189). -/
def sumsRight (n : Nat) (c : List Int) : Bool :=
  (List.range 256).all (fun p => decide (((c.drop (n * p)).take n).foldl (· + ·) 0 = 65536))

/-- Whether a set of n taps is linear-phase (R189). -/
def linearPhase (n : Nat) (c : List Int) : Bool :=
  let at_ := fun (p t : Nat) => c.getD (n * p + t) 0
  decide (at_ 0 (n - 1) = 0) && (List.range (n - 1)).all (fun t => decide (at_ 0 t = at_ 0 (n - 2 - t))) &&
  (rangeFrom 1 255).all (fun p => (List.range n).all (fun t => decide (at_ p t = at_ (256 - p) (n - 1 - t))))

/-! ### The loader -/

/-- The fields of the loader of Truing or Regauge. -/
structure LoaderRegs where
  busy : Fld
  done : Fld
  err : Fld
  code : Fld
  valid : Fld          -- of bank 0; bank 1's is the next bit
  lo : Fld
  hi : Fld
  ident : Fld          -- of bank 0; bank 1's is the next register
  evDone : Fld
  evErr : Fld
  sel : Fld
  bank : Fld
  load : Fld
  abort : Fld

/-- The loader's fields. -/
def loaderRegs (rga : Bool) : LoaderRegs :=
  if rga then
    ⟨Reg.RGA_TBL_STATUS_BUSY, Reg.RGA_TBL_STATUS_DONE, Reg.RGA_TBL_STATUS_ERR, Reg.RGA_TBL_STATUS_ERR_CODE, Reg.RGA_TBL_STATUS_VALID0,
      Reg.RGA_TBL_ADDR_LO_ADDR, Reg.RGA_TBL_ADDR_HI_ADDR, Reg.RGA_TBL_ID0_TABLE_ID, Reg.RGA_EVENT_TBL_DONE, Reg.RGA_EVENT_TBL_ERR,
      Reg.RGA_BANK_SEL, Reg.RGA_TBL_CTL_BANK, Reg.RGA_TBL_CTL_LOAD, Reg.RGA_TBL_CTL_ABORT⟩
  else
    ⟨Reg.TRU_TBL_STATUS_BUSY, Reg.TRU_TBL_STATUS_DONE, Reg.TRU_TBL_STATUS_ERR, Reg.TRU_TBL_STATUS_ERR_CODE, Reg.TRU_TBL_STATUS_VALID0,
      Reg.TRU_TBL_ADDR_LO_ADDR, Reg.TRU_TBL_ADDR_HI_ADDR, Reg.TRU_TBL_ID0_TABLE_ID, Reg.TRU_EVENT_TBL_DONE, Reg.TRU_EVENT_TBL_ERR,
      Reg.TRU_BANK_SEL, Reg.TRU_TBL_CTL_BANK, Reg.TRU_TBL_CTL_LOAD, Reg.TRU_TBL_CTL_ABORT⟩

/-- The window of a loader. -/
def State.loaderWin (s : State) (g : Nat) (rga : Bool) : Nat := s.eng (if rga then .RGA else .TRU) g

/-- Bank b's VALID field. -/
def LoaderRegs.validOf (r : LoaderRegs) (b : Nat) : Fld := { r.valid with hi := r.valid.hi + b, lo := r.valid.lo + b }

/-- A load ends or is refused with a code of R180. -/
def State.tblEnds (s : State) (g : Nat) (rga : Bool) (code : Nat) : State :=
  let r := loaderRegs rga
  let w := s.loaderWin g rga
  let s1 := s.wf w r.code code
  if code = 0 then (s1.wf w r.done 1).ev w r.evDone else (s1.wf w r.err 1).ev w r.evErr

/-- Whether a bank is the staged SEL of a commit that waits, or of one released whose line has not come (R179). -/
def State.bankAwaited (s : State) (g : Nat) (rga : Bool) (bank : Nat) : Bool :=
  let r := loaderRegs rga
  let k := regKey r.sel.blk (s.loaderWin g rga) r.sel.off
  let picks := fun (l : List (Nat × Word)) => l.any (fun e => e.1 == k && getBits e.2 r.sel.hi r.sel.lo == bank)
  s.yoke.commits.any (fun c => picks c.values) || s.yoke.armed.any (fun a => a.carriage == g && picks a.values)

/-- Pick the load in progress of a loader. -/
def State.loadingOf (s : State) (g : Nat) (rga : Bool) : Option (Nat × Nat) := if rga then (s.rgaOf g).loading else (s.truOf g).loading

/-- Set the load in progress of a loader. -/
def State.setLoading (s : State) (g : Nat) (rga : Bool) (x : Option (Nat × Nat)) : State :=
  if rga then s.rgaMod g (fun u => { u with loading := x }) else s.truMod g (fun u => { u with loading := x })

/-- The image address in a loader's registers. -/
def State.tblAddr (s : State) (g : Nat) (rga : Bool) : Nat :=
  let r := loaderRegs rga
  64 * s.rf (s.loaderWin g rga) r.lo + 2 ^ 32 * s.rf (s.loaderWin g rga) r.hi

/-- Start a load of a bank, whose VALID clears (R179). -/
def State.tblStart (s : State) (g : Nat) (rga : Bool) (bank : Nat) : State :=
  let r := loaderRegs rga
  let w := s.loaderWin g rga
  ((s.setLoading g rga (some (bank, s.tblAddr g rga))).wf w r.busy 1).wf w (r.validOf bank) 0

/-- LOAD: refused for the active bank or one awaited (code 9), while a load is busy or the Wheelwright holds the loader (code 10). -/
def State.actTblLoad (s : State) (g : Nat) (rga : Bool) : State :=
  let r := loaderRegs rga
  let w := s.loaderWin g rga
  let bank := s.rf w r.bank
  if s.rf w r.sel = bank ∨ s.bankAwaited g rga bank then s.tblEnds g rga 9
  else if (s.loadingOf g rga).isSome ∨ (!rga ∧ s.rb w Reg.TRU_TBL_STATUS_WWT_HOLD) then s.tblEnds g rga 10
  else s.tblStart g rga bank

/-- ABORT: the load in progress ends with code 11; its bank stays invalid (R180). -/
def State.actTblAbort (s : State) (g : Nat) (rga : Bool) : State :=
  if (s.loadingOf g rga).isNone then s
  else ((s.setLoading g rga none).wf (s.loaderWin g rga) (loaderRegs rga).busy 0).tblEnds g rga 11

/-- A map entry of a TRU body: plane, column, half window. -/
def mapEntry (v : Nat) : Nat × Nat × Nat := (v / 32768 % 4, v % 32768, 1 + v / 131072 % 2)

/-- Whether a defect map is in order: rising by plane and column, within the line. -/
def mapRight (planes width : Nat) : List (Nat × Nat × Nat) → Bool
  | [] => true
  | [a] => decide (a.1 < planes) && decide (a.2.1 < width)
  | a :: b :: t => decide (a.1 < planes) && decide (a.2.1 < width) && decide (a.1 * 32768 + a.2.1 < b.1 * 32768 + b.2.1) &&
      mapRight planes width (b :: t)

/-- What the header of a table image is checked against before its LENGTH is used: a code of R180, 0 for none (the order: log 82). -/
def tblHeadCheck (rga : Bool) (h : List Byte) (poisoned : Bool) : Nat :=
  let magic := if rga then [0x52, 0x47, 0x41, 0x54] else [0x54, 0x52, 0x55, 0x54]
  if poisoned then 8
  else if (h.take 4).map (fun x => x.toNat) ≠ magic ∨ leAt h 4 2 ≠ 0x0100 then 1
  else if crc32c (h.take 0x3C) ≠ leAt h 0x3C 4 then 2
  else 0

/-- What the body of a table image with header h is checked against: a code of R180, 0 for none. -/
def State.tblBodyCheck (s : State) (g : Nat) (rga : Bool) (h b : List Byte) (poisoned : Bool) : Nat :=
  let w := s.loaderWin g rga
  let planes := s.rf w Reg.TRU_CFG_PLANES
  let wd := if rga then s.rgaOut g else wide (s.rf w Reg.TRU_CFG_WIDTH)
  let n := leAt h 0x0C 4
  let want := if rga then alignUp (4 * wd) 64 + 8192 + 6144 else alignUp (8 * planes * wd + 4 * n) 64
  let body := fun (off k : Nat) => leAt b (off + 4 * k) 4
  let o := alignUp (4 * wd) 64
  let cd := (List.range 2048).map (fun k => sgn 32 (body o k))
  let md := (List.range 1536).map (fun k => sgn 32 (body (o + 8192) k))
  if poisoned then 8
  else if crc32c b ≠ leAt h 0x1C 4 then 3
  else if leAt h 8 4 ≠ wd ∨ leAt h 6 1 ≠ (if rga then 0 else planes) ∨ (rga ∧ n ≠ 0) ∨ b.length ≠ want then 4
  else if rga then
    if !(List.range wd).all (fun k => decide (2 ^ 24 ≤ body 0 k) && decide (body 0 k ≤ 2 ^ 30)) then 5
    else if !(sumsRight 8 cd && sumsRight 6 md) then 6
    else if !(linearPhase 8 cd && linearPhase 6 md) then 7
    else 0
  else if 4096 < n ∨ !mapRight planes wd ((List.range n).map (fun k => mapEntry (body (8 * planes * wd) k))) then 5
  else 0

/-- Put an image's contents in a bank. -/
def State.tblFill (s : State) (g : Nat) (rga : Bool) (bank : Nat) (h b : List Byte) : State :=
  if rga then
    let wd := s.rgaOut g
    let o := alignUp (4 * wd) 64
    let x : RgaBank := ⟨0, (List.range wd).map (fun k => leAt b (4 * k) 4), (List.range 2048).map (fun k => sgn 32 (leAt b (o + 4 * k) 4)),
      (List.range 1536).map (fun k => sgn 32 (leAt b (o + 8192 + 4 * k) 4)), [], [], []⟩
    s.rgaMod g (fun u => { u with banks := lmod u.banks bank (fun _ => x) })
  else
    let n := s.rf (s.loaderWin g rga) Reg.TRU_CFG_PLANES * wide (s.rf (s.loaderWin g rga) Reg.TRU_CFG_WIDTH)
    let x : TruBank := ⟨leAt h 0x14 4, (List.range n).map (fun k => leAt b (8 * k) 8),
      (List.range (leAt h 0x0C 4)).map (fun k => mapEntry (leAt b (8 * n + 4 * k) 4)), []⟩
    s.truMod g (fun u => { u with banks := lmod u.banks bank (fun _ => x) })

/-- What a loader reads from DRAM: as Daxpamen, whose own the image is that the Wheelwright rebuilt (R186), or as any other master (R309). -/
def State.tblRead (s : State) (own : Bool) (a n : Nat) : List Byte × Bool × State :=
  if own then (s.dramBytes a n, s.poisonIn a n, s) else s.dramRead 0 a n

/-- The load in progress has read its image: it is checked, header first, and fills the bank or not (R179, R180). -/
def State.tblDone (s : State) (g : Nat) (rga : Bool) : State :=
  match s.loadingOf g rga with
  | none => s
  | some (bank, a) =>
    let r := loaderRegs rga
    let w := s.loaderWin g rga
    let own := !rga && (cget s.gain g).any (fun j => j.step == 1)
    let hd := s.tblRead own a 64
    let bad := tblHeadCheck rga hd.1 hd.2.1
    let bd := if bad = 0 then hd.2.2.tblRead own (a + 64) (leAt hd.1 0x18 4) else ([], false, hd.2.2)
    let s1 := (bd.2.2.setLoading g rga none).wf w r.busy 0
    let code := if bad = 0 then s1.tblBodyCheck g rga hd.1 bd.1 bd.2.1 else bad
    if code = 0 then
      (((s1.tblFill g rga bank hd.1 bd.1).wf w (r.validOf bank) 1).wf w (r.ident.sh (4 * bank)) (leAt hd.1 0x10 4)).tblEnds g rga 0
    else s1.tblEnds g rga code

/-- TABLE_LOAD: TBL_CTL.LOAD of carriage g's Truing or Regauge (R179). -/
def execTableLoad (m : Nat) (w : Word) (g : Nat) (rga : Bool) (s : State) : Host.Outcome State Fault Refusal :=
  .next (s.regAct m (s.loaderWin g rga) (loaderRegs rga).load w (fun t => t.actTblLoad g rga))

/-- TABLE_LOAD_COMPLETE: the loader has read the image (R180). -/
def execTableLoadComplete (g : Nat) (rga : Bool) (s : State) : Host.Outcome State Fault Refusal :=
  .next (s.tblDone g rga)

/-- TABLE_LOAD_ABORT: TBL_CTL.ABORT (R180). -/
def execTableLoadAbort (m : Nat) (w : Word) (g : Nat) (rga : Bool) (s : State) : Host.Outcome State Fault Refusal :=
  .next (s.regAct m (s.loaderWin g rga) (loaderRegs rga).abort w (fun t => t.actTblAbort g rga))

end Sys2Proof.Machine
end

