-- ==== Sys2Proof/Machine/Dmc.lean ====
section
/-! DEFINITION. The DDR5 channels and the error handling of every memory: reads and scrubs (R302, R317, R318), refresh (R314), the Curb
(R315, R316), the Remount (R319 to R321), training and DRAM runs (R307, R308), coach SRAM (R322) and the Waybill (R324). -/

namespace Sys2Proof.Machine

/-- A channel beyond its registers, by window. -/
def State.dmcAt (s : State) (i : Nat) : Dmc := cgetD s.dmc i Dmc.fresh

/-- Change it. -/
def State.dmcMod (s : State) (i : Nat) (f : Dmc → Dmc) : State := { s with dmc := cmod s.dmc i Dmc.fresh f }

/-- Whether a channel serves requests. -/
def State.dmcReady (s : State) (i : Nat) : Bool := s.rf i Reg.DMC_STATUS_STATE == 2 || s.rf i Reg.DMC_STATUS_STATE == 4

/-- The DIMMs of a package channel. -/
def State.dimmOf (s : State) (ch : Nat) : Option Dimm := cget s.hw.dimms ch

/-- DETAIL of a D- or M-code: package address, rank, symbol (R325). -/
def dmcDetail (addr rank symbol : Nat) : Nat := addr % 2 ^ 48 + rank % 256 * 2 ^ 48 + symbol % 256 * 2 ^ 56

/-! ### The Remount (R319 to R321) -/

/-- The spare rank of a channel while nothing uses it. -/
def State.spareFree (s : State) (i : Nat) : Option Nat :=
  let r := s.rf i Reg.DMC_CFG_SPARE
  if 4 ≤ r ∨ s.rf i Reg.DMC_REMOUNT_STATUS_STATE ≠ 0 ∨ s.rf i Reg.DMC_STATUS_RETIRED ≠ 0 then none else some r

/-- Step 1: a Remount of a rank starts. -/
def State.remountStart (s : State) (ch rank spare detail : Nat) : State :=
  let i := chanInst ch
  let s1 := ((((s.wf i Reg.DMC_REMOUNT_STATUS_STATE 1).wf i Reg.DMC_REMOUNT_STATUS_FROM rank).wf i Reg.DMC_REMOUNT_STATUS_SPARE spare).wf i
    Reg.DMC_REMOUNT_STATUS_PROGRESS 0).wf i Reg.DMC_REMOUNT_STATUS_POISONED 0
  let s2 := (s1.wf i Reg.DMC_STATUS_STATE 4).dmcMod i (fun (d : Dmc) => ({ d with block := 0 } : Dmc))
  ((s2.dmcCode ch 'D' 0x0020 detail).ev i Reg.DMC_EVENT_REMOUNT_START).recoveryGap 0x13 0xFF

/-- A rank is to move: it starts where a spare is free, and otherwise `code` is recorded, unless the rank is on its way already. -/
def State.remountWanted (s : State) (ch rank code detail : Nat) : State :=
  let i := chanInst ch
  match s.spareFree i with
  | some r => if r = rank then s.dmcCode ch 'D' code detail else s.remountStart ch rank r detail
  | none =>
    if s.rf i Reg.DMC_REMOUNT_STATUS_STATE = 1 ∧ s.rf i Reg.DMC_REMOUNT_STATUS_FROM = rank then s
    else if s.rf i Reg.DMC_REMOUNT_STATUS_STATE = 1 ∧ s.rf i Reg.DMC_REMOUNT_STATUS_SPARE = rank ∧ code = 0x0022 then
      s.dmcCode ch 'D' 0x0024 detail
    else s.dmcCode ch 'D' code detail

/-! ### Reading a word (R302, R303, R318) -/

/-- The limit of corrected words in a rank in 1 s (R318). -/
def State.ceLimit (s : State) (ch rank detail : Nat) : State :=
  let i := chanInst ch
  let w := cgetD (s.dmcAt i).ceWindow rank (s.now, 0)
  let n : Nat × Nat := if s.now < w.1 + 1000000000 then (w.1, w.2 + 1) else (s.now, 1)
  let s1 := s.dmcMod i (fun (d : Dmc) => ({ d with ceWindow := cset d.ceWindow rank n } : Dmc))
  if n.2 = s.rf i Reg.DMC_CE_LIMIT_LIMIT + 1 then
    let s2 := s1.ev i Reg.DMC_EVENT_CE_LIMIT
    if s.rb i Reg.DMC_CE_LIMIT_AUTO then s2.remountWanted ch rank 0x0023 detail
    else if (s.spareFree i).isNone then s2.dmcCode ch 'D' 0x0023 detail
    else s2
  else s1

/-- DMC_ERR_INFO of a word. -/
def State.errInfo (s : State) (i addr rank symbol kind : Nat) (scrub : Bool) : State :=
  ((((s.wf i Reg.DMC_ERR_INFO_RANK rank).wf i Reg.DMC_ERR_INFO_SYMBOL symbol).wf i Reg.DMC_ERR_INFO_KIND kind).wf i Reg.DMC_ERR_INFO_SCRUB
    (b2n scrub)).wf i Reg.DMC_ERR_INFO_BEAT (addr / 8 % 16)

/-- DMC_ERR_ADDR: the block of the latest corrected or uncorrectable word. -/
def State.errAddr (s : State) (i addr : Nat) : State :=
  (s.wf i Reg.DMC_ERR_ADDR_LO_ADDR (addr / 128 % 2 ^ 25)).wf i Reg.DMC_ERR_ADDR_HI_ADDR (addr / 2 ^ 32)

/-- A corrected word. -/
def State.wordCorrected (s : State) (ch addr rank symbol : Nat) (scrub : Bool) : State :=
  let i := chanInst ch
  let s1 := ((s.inc i Reg.DMC_CE_COUNT).inc i (Reg.DMC_RANK_CE_COUNT.sh (4 * (rank % 4)))).ev i Reg.DMC_EVENT_CE
  ((s1.errAddr i addr).errInfo i addr rank symbol 0 scrub).ceLimit ch rank (dmcDetail addr rank symbol)

/-- A stored-poison word is read. -/
def State.poisonRead (s : State) (ch addr rank : Nat) (scrub : Bool) : State :=
  let i := chanInst ch
  ((s.inc i Reg.DMC_POISON_COUNT).ev i Reg.DMC_EVENT_POISON_READ).errInfo i addr rank 31 2 scrub

/-- A new uncorrectable word: from here on it is a poisoned word of the data as read (R303). -/
def State.wordLost (s : State) (ch addr rank data : Nat) (scrub : Bool) : State :=
  let i := chanInst ch
  let d := dmcDetail addr rank 31
  let a := addr / 8 * 8
  let s1 := ({ s with mem := s.mem.writeBytes a (toBytes 8 data), stale := carve s.stale a (a + 8) } : State).setPoison (addr / 8) true
  let s2 := (((s1.inc i Reg.DMC_UE_COUNT).errAddr i addr).errInfo i addr rank 31 1 scrub).dmcCode ch 'M' 0x0001 d
  (s2.ev i Reg.DMC_EVENT_UE).remountWanted ch rank 0x0022 d

/-- The 80-bit word stored at an address. -/
def State.storedWord (s : State) (addr : Nat) : Nat :=
  felloe (ofBytes (s.dramBytes (addr / 8 * 8) 8)) (s.poisonAt (addr / 8))

/-- A word is read with error bits `err` in it (R302); whether it was poisoned before and whether it was lost now stands in the answer's state. -/
def State.wordRead (s : State) (ch addr rank err : Nat) (scrub : Bool) : State :=
  let r := felloeRead (s.storedWord addr ^^^ (err % 2 ^ 80))
  match r.1 with
  | .clean => s
  | .corrected k => s.wordCorrected ch addr rank k scrub
  | .poison => s.poisonRead ch addr rank scrub
  | .uncorrectable => s.wordLost ch addr rank r.2 scrub

/-- The words of a block of 128 bytes are read: `errs` gives the error bits by beat. -/
def State.blockRead (s : State) (ch block rank : Nat) (errs : List (Nat × Nat)) (scrub : Bool) : State :=
  (List.range 16).foldl (fun t b => t.wordRead ch (128 * block + 8 * b) rank (cgetD errs b 0) scrub) s

/-- DRAM_READ: a word of package DRAM is read from a rank with error bits `err` of its 80 (R302, R303, R318, R319). -/
def execDramRead (addr rank err : Nat) (s : State) : Host.Outcome State Fault Refusal :=
  .next (let ch := s.chanOf addr
    if s.dmcReady (chanInst ch) then s.wordRead ch addr rank err false else s)

/-- SCRUB_BLOCK: the patrol scrubber reads the block of 128 bytes at an address, unless HOURS is 0 (R317). -/
def execScrubBlock (addr rank : Nat) (errs : List (Nat × Nat)) (s : State) : Host.Outcome State Fault Refusal :=
  .next (let ch := s.chanOf addr
    let i := chanInst ch
    if s.dmcReady i ∧ s.rf i Reg.DMC_SCRUB_HOURS ≠ 0 then s.blockRead ch (addr / 128) rank errs true else s)

/-! ### Moving a rank (R319) -/

/-- Blocks of a rank. -/
def State.rankBlocks (s : State) (ch : Nat) : Nat :=
  match s.dimmOf ch with
  | some d => d.rankBytes / 128
  | none => 0

/-- DMC_REMOUNT_CTL.GO: an installed rank other than a free spare starts. -/
def State.actRemountGo (s : State) (i : Nat) : State :=
  let ch := 2 * (i / 32) + i % 32
  let rank := s.rf i Reg.DMC_REMOUNT_CTL_RANK
  match s.spareFree i with
  | some r => if r = rank ∨ s.rf i Reg.DMC_CFG_RANKS ≤ rank ∨ !s.dmcReady i then s else s.remountStart ch rank r (dmcDetail 0 rank 31)
  | none => s

/-- REMOUNT_GO: `DMC_REMOUNT_CTL.GO` of channel d of coach c. -/
def execRemountGo (m : Nat) (w : Word) (c d : Nat) (s : State) : Host.Outcome State Fault Refusal :=
  .next (s.regAct m (unitOf c d) Reg.DMC_REMOUNT_CTL_GO w (fun t => t.actRemountGo (unitOf c d)))

/-- The words of a block that are poisoned. -/
def State.poisonedIn (s : State) (block : Nat) : Nat := ((List.range 16).filter (fun b => s.poisonAt (16 * block + b))).length

/-- REMOUNT_COPY_BLOCK: the copier moves the next block of the failed rank, the one that holds `addr`, and P moves on (R319 step 2). -/
def execRemountCopyBlock (ch addr : Nat) (errs : List (Nat × Nat)) (s : State) : Host.Outcome State Fault Refusal :=
  .next (let i := chanInst ch
    let p := (s.dmcAt i).block
    let n := s.rankBlocks ch
    if s.rf i Reg.DMC_STATUS_STATE ≠ 4 ∨ s.rf i Reg.DMC_REMOUNT_STATUS_STATE ≠ 1 ∨ n ≤ p then s
    else
      let s1 := s.blockRead ch (addr / 128) (s.rf i Reg.DMC_REMOUNT_STATUS_FROM) errs false
      ((s1.add i Reg.DMC_REMOUNT_STATUS_POISONED (s1.poisonedIn (addr / 128))).dmcMod i (fun (d : Dmc) => ({ d with block := p + 1 } : Dmc))).wf i
        Reg.DMC_REMOUNT_STATUS_PROGRESS (satN 255 ((p + 1) * 256 / n)))

/-- REMOUNT_COMPLETE: P has passed the last block: the spare takes the rank's place and the rank retires (R319 step 3). -/
def execRemountComplete (ch : Nat) (s : State) : Host.Outcome State Fault Refusal :=
  .next (let i := chanInst ch
    let from' := s.rf i Reg.DMC_REMOUNT_STATUS_FROM
    if s.rf i Reg.DMC_STATUS_STATE ≠ 4 ∨ s.rf i Reg.DMC_REMOUNT_STATUS_STATE ≠ 1 ∨ (s.dmcAt i).block < s.rankBlocks ch then s
    else
      let s1 := ((s.wf i Reg.DMC_STATUS_RETIRED (s.rf i Reg.DMC_STATUS_RETIRED ||| 2 ^ from')).wf i Reg.DMC_REMOUNT_STATUS_STATE 2).wf i
        Reg.DMC_STATUS_STATE 2
      ({ s1 with store := { s1.store with retired := cset s1.store.retired ch from' } } : State).dmcCode ch 'D' 0x0021 (dmcDetail 0 from' 31)
        |>.ev i Reg.DMC_EVENT_REMOUNT_DONE)

/-! ### Refresh (R314) -/

/-- Show the most refreshes that a rank owes. -/
def State.owedShow (s : State) (i : Nat) : State :=
  s.wf i Reg.DMC_STATUS_OWED ((s.dmcAt i).owed.foldl (fun a e => Nat.max a e.2) 0)

/-- REFRESH_DUE: a refresh of a rank falls due with `depth` requests in the channel's queue; a forced one takes the emergency input after
`beats` beats of the holder. -/
def execRefreshDue (c d rank depth beats : Nat) (s : State) : Host.Outcome State Fault Refusal :=
  .next (let i := unitOf c d
    let n := cgetD (s.dmcAt i).owed rank 0
    if 2 ≤ d ∨ !s.dmcReady i ∨ depth < s.rf i Reg.DMC_REF_BUSY then s
    else if n < 8 then (s.dmcMod i (fun (x : Dmc) => ({ x with owed := cset x.owed rank (n + 1) } : Dmc))).owedShow i
    else s.whtPreempt i beats)

/-- REFRESH_MAKEUP: the queue is below BUSY and every owed refresh goes out. -/
def execRefreshMakeup (c d depth : Nat) (s : State) : Host.Outcome State Fault Refusal :=
  .next (let i := unitOf c d
    if !s.dmcReady i ∨ s.rf i Reg.DMC_REF_BUSY ≤ depth then s
    else (s.dmcMod i (fun (x : Dmc) => ({ x with owed := [] } : Dmc))).owedShow i)

/-- DIMM_HOT: the channel's DIMM sensor reads `temp` eighths of a degree: above 85 °C the interval halves. -/
def execDimmHot (c d : Nat) (temp : Int) (s : State) : Host.Outcome State Fault Refusal :=
  .next (let i := unitOf c d
    if 2 ≤ d ∨ (s.dimmOf (2 * c + d)).isNone then s
    else if temp ≤ 680 then s.wf i Reg.DMC_STATUS_HOT 0
    else if s.rb i Reg.DMC_STATUS_HOT then s
    else ((s.wf i Reg.DMC_STATUS_HOT 1).dmcCode (2 * c + d) 'D' 0x0010 (dmcDetail 0 0 31)).ev i Reg.DMC_EVENT_HOT)

/-! ### The Curb (R315, R316) -/

/-- The least count of a tracker. -/
def leastCount : List RowCount → Nat
  | [] => 0
  | [e] => e.count
  | e :: t => Nat.min e.count (leastCount t)

/-- Count an activation in a tracker of 32 entries: `pick` chooses among entries of the least count. The answer holds the old and new count. -/
def track (l : List RowCount) (row requester pick : Nat) : List RowCount × Nat × Nat :=
  match l.find? (fun e => e.row == row) with
  | some e => (l.map (fun x => if x.row = row then ⟨row, x.count + 1, requester⟩ else x), e.count, e.count + 1)
  | none =>
    if l.length < 32 then (l ++ [⟨row, 1, requester⟩], 0, 1)
    else
      let n := leastCount l
      let ties := (List.range l.length).filter (fun k => (l.getD k ⟨0, 0, 0⟩).count == n)
      (lmod l (ties.getD (pick % Nat.max 1 ties.length) 0) (fun _ => ⟨row, n + 1, requester⟩), n, n + 1)

/-- A requester is Curbed until the window ends. -/
def State.curb (s : State) (ch requester : Nat) : State :=
  let i := chanInst ch
  let d := s.dmcAt i
  if d.curbed.contains requester then s
  else
    let s1 := s.dmcMod i (fun (x : Dmc) => ({ x with curbed := x.curbed ++ [requester] } : Dmc))
    let s2 := ((s1.wf i Reg.DMC_CURB_STATUS_REQUESTER requester).wf i Reg.DMC_CURB_STATUS_ACTIVE 1).wf i Reg.DMC_CURB_STATUS_CURBED
      (satN 255 (d.curbed.length + 1))
    ((s2.inc i Reg.DMC_CURB_CNT_COUNT).dmcCode ch 'D' 0x0030 (dmcDetail 0 0 31)).ev i Reg.DMC_EVENT_CURB

/-- ROW_ACTIVATE: a row of a bank is activated for a requester. -/
def execRowActivate (c d rank bank row requester : Nat) (s : State) : Host.Outcome State Fault Refusal :=
  .next (let i := unitOf c d
    let k := rank * 256 + bank
    let l := cgetD (s.dmcAt i).banks k []
    let th := s.rf i Reg.DMC_CURB_CTL_THRESHOLD
    if 2 ≤ d ∨ !s.dmcReady i then s
    else
      let r := track l row requester (s.freeVal 5)
      let s1 := s.drawn.dmcMod i (fun (x : Dmc) => ({ x with banks := cset x.banks k r.1 } : Dmc))
      if r.2.1 < th ∧ th ≤ r.2.2 then s1.curb (2 * c + d) requester else s1)

/-- CURB_WINDOW_END: a refresh window of 32 ms ends. -/
def execCurbWindowEnd (c d : Nat) (s : State) : Host.Outcome State Fault Refusal :=
  .next (let i := unitOf c d
    if 2 ≤ d ∨ (s.dimmOf (2 * c + d)).isNone then s
    else ((s.dmcMod i (fun (x : Dmc) => ({ x with banks := [], curbed := [] } : Dmc))).wf i Reg.DMC_CURB_STATUS_ACTIVE 0).wf i
      Reg.DMC_CURB_STATUS_CURBED 0)

/-! ### Training, DRAM runs, self-refresh -/

/-- The read and write margin of byte lane k in a list of words, read in bits 15 to 0 and write in bits 31 to 16. -/
def marginMin (l : List Nat) : Nat := l.foldl (fun a w => Nat.min a (Nat.min (w % 65536) (w / 65536 % 65536))) 65535

/-- Show ten margins. -/
def State.showMargins (s : State) (i : Nat) (l : List Nat) : State :=
  (List.range 10).foldl (fun t k => (t.wf i (Reg.DMC_MARGIN_READ.sh (4 * k)) (l.getD k 0)).wf i (Reg.DMC_MARGIN_WRITE.sh (4 * k)) (l.getD k 0 / 65536)) s

/-- A population that R306 supports. -/
def Dimm.supported (d : Dimm) : Bool :=
  let each := d.rankBytes * d.ranks / Nat.max 1 d.count
  decide (1 ≤ d.count) && decide (d.count ≤ 2) && decide (1 ≤ d.ranks) && decide (d.ranks ≤ 4) && decide (d.width ≤ 1) &&
  decide (16 * 2 ^ 30 ≤ each) && decide (each ≤ 128 * 2 ^ 30) && (d.speed == 1 || ((d.speed == 2 || d.speed == 3) && d.count == 1))

/-- The D-code that stops start-up at stage 6 (R306): 3 where channel 0 of C0 is empty, 2 for an unsupported or unequal population. -/
def State.dimmFault (s : State) : Option Nat :=
  match s.dimmOf 0 with
  | none => some 3
  | some d => if d.supported && s.hw.dimms.all (fun e => e.2 == d && decide (e.1 < 2 * s.hw.coaches)) then none else some 2

/-- Channel ch is trained (R307): `mode` 1 with its stored delays, 2 in full, 3 in full after the stored ones failed; `l` holds its margins.
A rank that a Remount retired stays out (R319). -/
def State.chanTrained (s : State) (ch mode ms : Nat) (l : List Nat) : State :=
  let i := chanInst ch
  let m := marginMin (l.take 10)
  let ret := match cget s.store.retired ch with
    | some r => 2 ^ r
    | none => 0
  let s0 := if mode = 3 then s.dmcCode ch 'D' 0x0005 (dmcDetail 0 0 31) else s
  let s1 := ((((s0.showMargins i l).wf i Reg.DMC_TRAIN_MODE (Nat.min mode 2)).wf i Reg.DMC_TRAIN_TIME_MS (satN 65535 ms)).wf i
    Reg.DMC_STATUS_RETIRED ret).dmcMod i (fun _ => Dmc.fresh)
  let s2 := { s1 with store := { s1.store with training := cset s1.store.training ch 1 } }
  if m < 12 then (s2.wf i Reg.DMC_STATUS_STATE 5).dmcCode ch 'D' 0x0001 (dmcDetail 0 0 31)
  else
    let s3 := s2.wf i Reg.DMC_STATUS_STATE 2
    if m < 20 then (s3.dmcCode ch 'D' 0x0004 (dmcDetail 0 0 31)).ev i Reg.DMC_EVENT_MARGIN else s3

/-- Populated channels are trained (R307); `train` is 1 where the stored delays verify, 2 where they do not, 0 where none fit; `margins` holds
ten words for each of them, rising. STRAP[5] asks for full training. -/
def State.chansTrained (s : State) (chans : List Nat) (train ms : Nat) (margins : List Nat) : State :=
  let full := (s.rf 0 Reg.GLB_STRAP_STRAP).testBit 5
  (List.range chans.length).foldl (fun (t : State) k =>
    let ch := chans.getD k 0
    let mode := if full ∨ train = 0 ∨ (cget s.store.training ch).isNone then 2 else if train = 1 then 1 else 3
    t.chanTrained ch mode ms ((margins.drop (10 * k)).take 10)) s

/-- Stage 6: every populated channel is trained (R434). -/
def State.dramTrained (s : State) (train ms : Nat) (margins : List Nat) : State := s.chansTrained (s.hw.dimms.map (fun e => e.1)) train ms margins

/-- DRAM_RUN_COMPLETE: the two measurements of a DRAM run of coach c end (R308): each holds ten words for each of its ready channels. -/
def execDramRunComplete (c : Nat) (first second : List Nat) (s : State) : Host.Outcome State Fault Refusal :=
  .next (let chans := [unitOf c 0, unitOf c 1].filter s.dmcReady
    let n := 10 * chans.length
    let near := fun (a b : Nat) => decide (a ≤ b + 3) && decide (b ≤ a + 3)
    let ok := (List.range n).all (fun k =>
      near (first.getD k 0 % 65536) (second.getD k 0 % 65536) && near (first.getD k 0 / 65536) (second.getD k 0 / 65536))
    let q1 := marginMin (first.take n)
    let q2 := marginMin (second.take n)
    let lane := (second.take n).findIdx (fun w => Nat.min (w % 65536) (w / 65536 % 65536) == q2)
    if !(s.wwtAt 1 c 0).running ∨ first.length ≠ n ∨ second.length ≠ n then s
    else if ok then
      let s1 := (List.range chans.length).foldl (fun (t : State) k => t.showMargins (chans.getD k 0) ((second.drop (10 * k)).take 10)) s
      let tr := (List.range chans.length).foldl (fun l k => cset l (2 * c + chans.getD k 0 % 32) 1) s1.store.training
      ({ s1 with store := { s1.store with training := tr } } : State).wwtAccept 1 c 0 q1 q2 lane
    else s.wwtReject 1 c 0 q1 q2 lane)

/-- Every rank pays its owed refreshes and enters self-refresh (R314, R427). -/
def State.dramSleep (s : State) : State :=
  s.hw.dimms.foldl (fun t e =>
    let i := chanInst e.1
    if t.dmcReady i then ((t.dmcMod i (fun (d : Dmc) => ({ d with owed := [] } : Dmc))).wf i Reg.DMC_STATUS_OWED 0).wf i Reg.DMC_STATUS_STATE 3 else t) s

/-- DRAM leaves self-refresh; a Remount goes on at P (R320, R431). -/
def State.dramWake (s : State) : State :=
  s.hw.dimms.foldl (fun t e =>
    let i := chanInst e.1
    if t.rf i Reg.DMC_STATUS_STATE = 3 then t.wf i Reg.DMC_STATUS_STATE (if t.rf i Reg.DMC_REMOUNT_STATUS_STATE = 1 then 4 else 2) else t) s

/-! ### Coach SRAM and the Waybill (R317, R322, R324) -/

/-- Samples of a line in a Mews are poisoned. -/
def Item.poisonAt (plane col : Nat) : Item → Item
  | .line l =>
    let wide := l.poison ++ List.replicate (plane + 1 - l.poison.length) []
    let now' := lmod wide plane (fun p => if p.contains col then p else insertBy id col p)
    .line { l with poison := now' }
  | x => x

/-- What the block that owns a lost word does (R183, R322). -/
def State.sramItem (s : State) (c : Nat) : SramWord → State
  | .samples m n p col =>
    let k := mewKey c m
    let mark := fun (q : MewPkt) => (⟨q.units, q.taken, q.ended, q.bad, q.truncated, q.item.map (Item.poisonAt p col)⟩ : MewPkt)
    { s with mews := cset s.mews k { s.mew k with packets := lmod (s.mew k).packets n mark } }
  | .component g label =>
    match (s.lblOf g).comps.find? (fun x => x.label == label) with
    | some x => (s.lblClose g x (s.lblFront g) (4 ||| 0x800) 1).lblShow g
    | none => s
  | .baseline g col =>
    s.sprMod g (fun (x : Spr) => ({ x with cols := lmod x.cols col (fun (q : SprCol) => ({ q with own := some 0 } : SprCol)) } : Spr))
  | .window g => s.regRestart g
  | .pointer m => s.mewLost c m
  | .truEntry g b n => s.truMod g (fun (t : Tru) => ({ t with banks := lmod t.banks b (fun (q : TruBank) => ({ q with bad := n :: q.bad } : TruBank)) } : Tru))
  | .rgaIncrement g b n =>
    s.rgaMod g (fun (t : Rga) => ({ t with banks := lmod t.banks b (fun (q : RgaBank) => ({ q with badInc := n :: q.badInc } : RgaBank)) } : Rga))
  | .rgaCd g b n =>
    s.rgaMod g (fun (t : Rga) => ({ t with banks := lmod t.banks b (fun (q : RgaBank) => ({ q with badCd := n :: q.badCd } : RgaBank)) } : Rga))
  | .rgaMd g b n =>
    s.rgaMod g (fun (t : Rga) => ({ t with banks := lmod t.banks b (fun (q : RgaBank) => ({ q with badMd := n :: q.badMd } : RgaBank)) } : Rga))
  | .other => s

/-- A new uncorrectable word of coach SRAM: M-0002 in both channels of the coach with DMC_EVENT.UE (R477, R482), and what its owner does. -/
def State.sramLost (s : State) (c : Nat) (w : SramWord) : State :=
  let code := codeWord 'M' 0x0002
  let a := unitOf c 0
  let b := unitOf c 1
  let s1 := (s.inc 0 (Reg.GLB_MEM_CNT_COUNT.sh 4)).logFault code c 0 0
  let s2 := (((s1.wf a Reg.DMC_ERR_CODE code).ev a Reg.DMC_EVENT_UE).wf b Reg.DMC_ERR_CODE code).ev b Reg.DMC_EVENT_UE
  s2.sramItem c w

/-- Whether the fast domains of a coach hold their contents. -/
def State.coachUp (s : State) (c : Nat) : Bool := (s.rf 0 Reg.PWR_STATE_COACH_UP).testBit c

/-- SRAM_UNCORRECTABLE: a new uncorrectable word of coach c's SRAM is read (R322). -/
def execSramUncorrectable (c : Nat) (w : SramWord) (s : State) : Host.Outcome State Fault Refusal :=
  .next (if s.coachUp c then s.sramLost c w else s)

/-- SRAM_SCRUB: a patrol of coach c's SRAM found `ce` corrected words and the uncorrectable ones given (R317, R322). -/
def execSramScrub (c ce : Nat) (ue : List SramWord) (s : State) : Host.Outcome State Fault Refusal :=
  .next (if s.coachUp c then ue.foldl (fun t w => t.sramLost c w) (s.add 0 Reg.GLB_MEM_CNT_COUNT ce) else s)

/-- A new uncorrectable word of the Waybill: M-0003, held in GLB_FAB_ERR (R324, R482). -/
def State.waybillLost (s : State) (p : WaybillPlace) : State :=
  let s1 := (s.inc 0 (Reg.GLB_MEM_CNT_COUNT.sh 12)).fabErr (codeWord 'M' 0x0003) 0 0
  match p with
  | .slotA => { s1 with store := { s1.store with badA := true } }
  | .slotB => { s1 with store := { s1.store with badB := true } }
  | .daxA => { s1 with store := { s1.store with daxA := false } }
  | .daxB => { s1 with store := { s1.store with daxB := false } }
  | .other => s1

/-- WAYBILL_SCRUB: a patrol of the Waybill found `ce` corrected words and uncorrectable ones at the places given (R317, R324). -/
def execWaybillScrub (ce : Nat) (ue : List WaybillPlace) (s : State) : Host.Outcome State Fault Refusal :=
  .next (if s.pwr.off then s else ue.foldl State.waybillLost (s.add 0 (Reg.GLB_MEM_CNT_COUNT.sh 8) ce))

end Sys2Proof.Machine
end

