-- ==== Sys2Proof/Machine/Drayage.lean ====
section
/-! DEFINITION. Drayage (R335 to R343). -/

namespace Sys2Proof.Machine

/-- A field of channel n. -/
def dc (f : Fld) (n : Nat) : Fld := f.sh (0x40 * n)

/-- The key of channel n of coach c. -/
def dryKey (c n : Nat) : Nat := 32 * c + n

/-- The channel's part that no register shows. -/
def State.dryAt (s : State) (c n : Nat) : DryChan := cgetD s.dry (dryKey c n) ⟨0, 0, 0⟩

/-- Change it. -/
def State.dryMod (s : State) (c n : Nat) (f : DryChan → DryChan) : State :=
  { s with dry := cmod s.dry (dryKey c n) ⟨0, 0, 0⟩ f }

/-- Whether a DRAM range lies wholly where Drayage may go: the host range of the reserve, or partitions that follow one another
(R309, R310, R335; log 22). -/
def State.covered (s : State) : Nat → Nat → Nat → Bool
  | 0, _, _ => false
  | fuel + 1, a, top =>
    if top ≤ a then true
    else if 0x1000000 ≤ a ∧ a < 0x2000000 then decide (top ≤ 0x2000000)
    else if a < reserveTop then false
    else
      match s.partAt a with
      | some r => s.covered fuel (s.partBase r.partition + r.size) top
      | none => false

/-- The memory or host range of a channel. -/
def State.drySrc (s : State) (c n : Nat) : Nat := s.rf64 (unitOf c 0) (dc Reg.DRY_CH_SRC_LO_ADDR n)
def State.dryDst (s : State) (c n : Nat) : Nat := s.rf64 (unitOf c 0) (dc Reg.DRY_CH_DST_LO_ADDR n)
def State.dryCnt (s : State) (c n : Nat) : Nat := s.rf (unitOf c 0) (dc Reg.DRY_CH_CNT_BYTES n)

/-- Whether a channel is paced (R342). -/
def State.dryPaced (s : State) (c n : Nat) : Bool := decide (s.rf (unitOf c 0) (dc Reg.DRY_CH_CFG_PACE n) < 16)

/-- The status block of R340. -/
def State.dryBlock (s : State) (c n code residue : Nat) : List Byte :=
  let moved := s.dryCnt c n - residue
  toBytes 1 code ++ toBytes 1 n ++ toBytes 1 c ++
  toBytes 1 (s.rf (unitOf c 0) (dc Reg.DRY_CH_STATUS_POISON n) + 2 * b2n (s.dryPaced c n)) ++
  toBytes 4 (s.dryAt c n).completions ++ toBytes 8 residue ++ toBytes 8 (s.drySrc c n + moved) ++ toBytes 8 (s.dryDst c n + moved) ++
  toBytes 8 s.now ++ List.replicate 24 0

/-- Bytes go to a space: package DRAM, or host memory with the EP attribute when they are poisoned (R303, R337). -/
def State.dryStore (s : State) (n space addr : Nat) (l : List Byte) (poisoned : List Nat) : State :=
  if space = 1 then s.emit .hostWrite (b2n (!poisoned.isEmpty)) (addr :: l.map (fun b => b.toNat))
  else
    let s1 := if s.covered 4096 addr (addr + l.length) then s.dramPut addr l false else s.gcode 0x0010 addr (0x40 + n)
    (if s.covered 4096 addr (addr + l.length) then poisoned else []).foldl (fun t k => t.setPoison (addr / 8 + k) true) s1

/-- Report a completion or a refusal, in the order of R338: status block, DRY_CH_STATUS, DRY_DONE or DRY_ERR, interrupt. -/
def State.dryReport (s : State) (c n code residue : Nat) : State :=
  let i := unitOf c 0
  let s0 := (s.dryMod c n (fun x => { x with completions := (x.completions + 1) % 2 ^ 32 })).wf i (dc Reg.DRY_CH_RESID_BYTES n) residue
  let s1 := if s0.rb i (dc Reg.DRY_CH_CFG_WB_EN n) then
      s0.dryStore n (s0.rf i (dc Reg.DRY_CH_CFG_WB_SPACE n))
        (64 * s0.rf i (dc Reg.DRY_CH_WB_LO_ADDR n) + 2 ^ 32 * s0.rf i (dc Reg.DRY_CH_WB_HI_ADDR n)) (s0.dryBlock c n code residue) []
    else s0
  let s2 := (s1.wf i (dc Reg.DRY_CH_STATUS_CODE n) code).wf i (dc Reg.DRY_CH_STATUS_STATE n) 0
  let o := if code = 0 then 4 else 8
  let s3 := s2.setWord .DRY i o (s2.word .DRY i o ||| BitVec.ofNat 32 (2 ^ n))
  (State.edges s2 [18 + 8 * c] s3).reinRaise c 0xF014 n 1

/-- The start tests of R335 in their order: the code of the first that holds, none where the channel starts. -/
def State.dryTest (s : State) (c n : Nat) : Option Nat :=
  let i := unitOf c 0
  let src := s.drySrc c n
  let dst := s.dryDst c n
  let cnt := s.dryCnt c n
  let ss := s.rf i (dc Reg.DRY_CH_CFG_SRC_SPACE n)
  let ds := s.rf i (dc Reg.DRY_CH_CFG_DST_SPACE n)
  if cnt = 0 then some 0
  else if src % 64 ≠ 0 ∨ dst % 64 ≠ 0 ∨ cnt % 64 ≠ 0 then some 2
  else if ss = 1 ∧ ds = 1 then some 4
  else if (ss = 0 ∧ !s.covered 4096 src (src + cnt)) ∨ (ds = 0 ∧ !s.covered 4096 dst (dst + cnt)) then some 5
  else if ss = 0 ∧ ds = 0 ∧ src < dst ∧ dst < src + cnt then some 3
  else if (List.range 16).all (fun k => s.rf (unitOf c 6) (Reg.WHT_IN_REQUESTER.sh (4 * k)) != 0xF010 + s.rf i (dc Reg.DRY_CH_LANE_LANE n)) then some 6
  else none

/-- Start a channel (R335). -/
def State.dryGo (s : State) (c n : Nat) : State :=
  let i := unitOf c 0
  if s.rf i (dc Reg.DRY_CH_STATUS_STATE n) ≠ 0 then s.wf i (dc Reg.DRY_CH_STATUS_REFUSED n) 1
  else
    let s1 := s.wf i (dc Reg.DRY_CH_STATUS_POISON n) 0
    match s1.dryTest c n with
    | some code => s1.dryReport c n code (s1.dryCnt c n)
    | none =>
      ((s1.dryMod c n (fun x => { x with done := 0, code := 0 })).wf i (dc Reg.DRY_CH_STATUS_STATE n) 1).wf i
        (dc Reg.DRY_CH_RESID_BYTES n) (s1.dryCnt c n)

/-- An abort (R339): a waiting channel ends at once, a moving one completes its bursts first. -/
def State.dryAbort (s : State) (c n code : Nat) : State :=
  let i := unitOf c 0
  let st := s.rf i (dc Reg.DRY_CH_STATUS_STATE n)
  if st = 1 then s.dryReport c n code (s.rf i (dc Reg.DRY_CH_RESID_BYTES n))
  else if st = 2 then (s.dryMod c n (fun x => { x with code := code })).wf i (dc Reg.DRY_CH_STATUS_STATE n) 3
  else s

/-- DRY_CH_CTL: GO, then ABORT. While the part enters a sleep state a software start is refused (R427 step 1). -/
def State.actDry (s : State) (c n : Nat) (w : Word) : State :=
  let s1 := if !w.toNat.testBit 0 then s
    else if s.rf 0 Reg.PWR_STATE_STATE = 3 then s.wf (unitOf c 0) (dc Reg.DRY_CH_STATUS_REFUSED n) 1
    else s.dryGo c n
  if w.toNat.testBit 1 then s1.dryAbort c n 7 else s1

/-- DRAYAGE_GO: `DRY_CH_CTL.GO` (R335). The Drayage task input starts a channel in its Rein cycle. -/
def execDrayageGo (m c n : Nat) (w : Word) (s : State) : Host.Outcome State Fault Refusal :=
  .next (s.regAct m (unitOf c 0) (dc Reg.DRY_CH_CTL_GO (n % 32)) w (fun t => t.actDry c (n % 32) (w ||| 1)))

/-- DRAYAGE_ABORT: `DRY_CH_CTL.ABORT` (R339). -/
def execDrayageAbort (m c n : Nat) (w : Word) (s : State) : Host.Outcome State Fault Refusal :=
  .next (s.regAct m (unitOf c 0) (dc Reg.DRY_CH_CTL_ABORT (n % 32)) w (fun t => t.actDry c (n % 32) (w ||| 2)))

/-- DRAYAGE_BURST: a channel gets buffer space for its next burst, reads it and writes it out (R337). A host source brings its data and
the words that came poisoned; a host read that ends in error ends the transfer with code 9. A paced channel takes a credit (R342). -/
def execDrayageBurst (c n : Nat) (hostData : List Byte) (hostPoison : List Nat) (hostErr : Bool) (s : State) :
    Host.Outcome State Fault Refusal :=
  let i := unitOf c 0
  let st := s.rf i (dc Reg.DRY_CH_STATUS_STATE n)
  let left := s.rf i (dc Reg.DRY_CH_RESID_BYTES n)
  let k := s.rf i (dc Reg.DRY_CH_CFG_PACE n)
  let credit := s.rf i (Reg.DRY_REQ_CREDIT.sh (4 * k))
  .next (if 32 ≤ n ∨ (st ≠ 1 ∧ st ≠ 2) ∨ left = 0 ∨ (s.dryPaced c n ∧ credit = 0) then s
  else
    let s0 := if s.dryPaced c n then s.wf i (Reg.DRY_REQ_CREDIT.sh (4 * k)) (credit - 1) else s
    if s.rf i (dc Reg.DRY_CH_CFG_SRC_SPACE n) = 1 ∧ hostErr then s0.dryReport c n 9 left
    else
      let b := s.rf i (dc Reg.DRY_CH_CFG_BURST n)
      let len := Nat.min left (64 * (if b = 0 then 64 else b))
      let moved := s.dryCnt c n - left
      let src := s.drySrc c n + moved
      let fromHost := s.rf i (dc Reg.DRY_CH_CFG_SRC_SPACE n) = 1
      let data := if fromHost then bytesAt hostData 0 len else s.dramBytes src len
      let bad := if fromHost then hostPoison.filter (fun x => decide (8 * x < len))
        else (List.range (len / 8)).filter (fun x => s.poisonAt (src / 8 + x))
      let s1 := (s0.peak i Reg.DRY_BUF_PEAK (len / 64)).dryStore n (s.rf i (dc Reg.DRY_CH_CFG_DST_SPACE n)) (s.dryDst c n + moved) data bad
      let s2 := if bad.isEmpty then s1 else s1.wf i (dc Reg.DRY_CH_STATUS_POISON n) 1
      ((s2.wf i (dc Reg.DRY_CH_STATUS_STATE n) 2).wf i (dc Reg.DRY_CH_RESID_BYTES n) (left - len)).dryMod c n
        (fun x => { x with done := x.done + len }))

/-- DRAYAGE_COMPLETE: the last data write of a channel has left, or an abort's last burst has (R338, R339). -/
def execDrayageComplete (c n : Nat) (s : State) : Host.Outcome State Fault Refusal :=
  let i := unitOf c 0
  let st := s.rf i (dc Reg.DRY_CH_STATUS_STATE n)
  let left := s.rf i (dc Reg.DRY_CH_RESID_BYTES n)
  .next (if 32 ≤ n then s
  else if st = 2 ∧ left = 0 then s.dryReport c n 0 0
  else if st = 3 then s.dryReport c n (s.dryAt c n).code left
  else s)

/-- Raise the credit of a request line (R342). -/
def State.dryCredit (s : State) (c k n : Nat) : State :=
  let i := unitOf c 0
  let v := s.rf i (Reg.DRY_REQ_CREDIT.sh (4 * k)) + n
  let s1 := s.wf i (Reg.DRY_REQ_CREDIT.sh (4 * k)) (satN 65535 v)
  if 65535 ≤ v then s1.wf i (Reg.DRY_REQ_OVERFLOW.sh (4 * k)) 1 else s1

/-- DRAYAGE_CREDIT: a peripheral raises its request line; lines 14 and 15 are never raised (R342). -/
def execDrayageCredit (c k : Nat) (s : State) : Host.Outcome State Fault Refusal :=
  .next (if k < 14 ∧ c < s.hw.coaches then s.dryCredit c k 1 else s)

/-- DRAYAGE_REQ_CLEAR: `DRY_REQ.CLEAR` (R343). -/
def execDrayageReqClear (m c k : Nat) (w : Word) (s : State) : Host.Outcome State Fault Refusal :=
  .next (s.regAct m (unitOf c 0) (Reg.DRY_REQ_CLEAR.sh (4 * (k % 16))) w (fun t =>
    t.wf (unitOf c 0) (Reg.DRY_REQ_CREDIT.sh (4 * (k % 16))) 0))

/-- Every channel that runs on a coach, or on every coach, ends with a code (R339, R427). -/
def State.drayStopAll (s : State) (coach : Option Nat) (code : Nat) : State :=
  (List.range s.hw.coaches).foldl (fun t c =>
    if coach.getD c = c then
      (List.range 32).foldl (fun u n =>
        if u.rf (unitOf c 0) (dc Reg.DRY_CH_STATUS_STATE n) ≠ 0 then
          u.dryReport c n code (u.rf (unitOf c 0) (dc Reg.DRY_CH_RESID_BYTES n))
        else u) t
    else t) s

/-- Transfers stop without a report: the part loses its clocks at once (R439). -/
def State.drayDrop (s : State) : State := { s with dry := [] }

end Sys2Proof.Machine
end

