-- ==== Sys2Proof/Machine/Tru.lean ====
section
/-! DEFINITION. Truing (R169 to R175, R182 to R184). Rows name a carriage. -/

namespace Sys2Proof.Machine

/-- A curve register field of plane p. -/
def curveF (f : Fld) (p : Nat) : Fld := f.sh (16 * p)

/-- The curve of plane p at g in 1/16, in units of 2^-16 (R172). -/
def State.curve (s : State) (w p : Nat) (g : Int) : Int :=
  let b1 : Int := s.rf w (curveF Reg.TRU_CURVE_B0_B1 p)
  let b2 : Int := s.rf w (curveF Reg.TRU_CURVE_B0_B2 p)
  let s0 : Int := s.rf w (curveF Reg.TRU_CURVE_S0_S0 p)
  let s1 : Int := s.rf w (curveF Reg.TRU_CURVE_S0_S1 p)
  let s2 : Int := s.rf w (curveF Reg.TRU_CURVE_T0_S2 p)
  let o : Int := 4096 * sgn 16 (s.rf w (curveF Reg.TRU_CURVE_T0_O p))
  if g < b1 then o + s0 * g
  else if g < b2 then o + s0 * b1 + s1 * (g - b1)
  else o + s0 * b1 + s1 * (b2 - b1) + s2 * (g - b2)

/-- Steps 1 to 3 of R171 on a code of bits `w` bits with table entry `entry`, before the clamp, in 1/16. -/
def State.truStep (s : State) (win p bits : Nat) (entry : Nat) (code : Int) : Int :=
  let d := code * 2 ^ (16 - bits) - (entry % 65536 : Nat)
  let g := rne (d * (entry / 65536 % 2 ^ 18 : Nat)) 65536
  if s.rb win Reg.TRU_CTL_CURVE_EN then rne (s.curve win p g) 4096 else g

/-- Step 4: a poisoned sample takes the mean of the nearest good neighbours (R173). -/
def poisonFill (l : List Int) (bad : List Nat) : List Int :=
  (List.range l.length).map (fun i =>
    if !bad.contains i then l.getD i 0
    else
      let left := ((List.range i).reverse).find? (fun k => !bad.contains k)
      let right := (rangeFrom (i + 1) (l.length - 1 - i)).find? (fun k => !bad.contains k)
      match left, right with
      | some a, some b => rne (l.getD a 0 + l.getD b 0) 2
      | some a, none => l.getD a 0
      | none, some b => l.getD b 0
      | none, none => 0)

/-- Step 5: the median of the window of half width h about column i (R174). -/
def mapFill (l : List Int) (i h : Nat) : Int :=
  medianOf ((List.range (2 * h + 1)).map (fun (k : Nat) => sampleAt l ((i : Int) + k - h)))

/-- The active bank of Truing. -/
def State.truBank (s : State) (g : Nat) : TruBank := (s.truOf g).banks.getD (s.rf (s.eng .TRU g) Reg.TRU_BANK_SEL) TruBank.fresh

/-- The entry of plane p, column i; one that SRAM cannot give is open (R183). -/
def State.truEntry (s : State) (b : TruBank) (idx : Nat) : Nat :=
  if b.bad.contains idx then Config.freeValue (s.freeCtr + idx) % 2 ^ 34 else b.entries.getD idx (2 ^ 32)

/-- One plane of a line through steps 1 to 5: the samples, how many clamped low and high. -/
def State.truPlane (s : State) (g p : Nat) (codes : List Int) (bad : List Nat) : List Int × Nat × Nat :=
  let w := s.eng .TRU g
  let b := s.truBank g
  let bits := s.rf w Reg.TRU_CFG_SAMPLE_BITS
  let n := codes.length
  let raw := (List.range n).map (fun i => s.truStep w p bits (s.truEntry b (p * n + i)) (codes.getD i 0))
  let good := fun (i : Nat) => !bad.contains i
  let lo := ((List.range n).filter (fun i => good i && decide (raw.getD i 0 < 0))).length
  let hi := ((List.range n).filter (fun i => good i && decide (65535 < raw.getD i 0))).length
  let y := poisonFill (raw.map (fun x => clampI 0 65535 x)) bad
  let listed := if s.rb w Reg.TRU_CTL_MAP_EN then b.map.filter (fun e => e.1 == p) else []
  let out := (List.range n).map (fun i =>
    match listed.find? (fun e => e.2.1 == i) with
    | some e => mapFill y i e.2.2
    | none => if b.bad.contains (p * n + i) then mapFill y i 1 else y.getD i 0)
  (out, lo, hi)

/-- The strip samples of a line by reported plane: the step-3 results of the strip columns (R184), and whether one was clamped. -/
def State.stripOf (s : State) (g : Nat) (l : Line) : List (List Int) × Bool :=
  let w := s.eng .TRU g
  let b := s.truBank g
  let bits := s.rf w Reg.TRU_CFG_SAMPLE_BITS
  let first := s.rf w Reg.TRU_REF_FIRST
  let cols := s.rf w Reg.TRU_REF_COLUMNS
  let raw := fun (p : Nat) => (List.range cols).map (fun i =>
    let pl := l.planes.getD p []
    s.truStep w p bits (s.truEntry b (p * pl.length + first + i)) (pl.getD (first + i) 0))
  let all := (List.range l.planes.length).map raw
  let clamped := all.any (fun x => x.any (fun v => decide (v < 0) || decide (65535 < v)))
  if l.planes.length = 2 then
    let p1 := all.getD 1 []
    let pick := fun (par : Nat) => (List.range cols).map (fun i => if (first + i) % 2 = par then p1.getD i 0 else 0)
    ([pick (l.rb % 2), all.getD 0 [], pick ((l.rb + 1) % 2)], clamped)
  else (all, clamped)

/-- A line in the strip measurement (R184): a run that still measures starts one, an epoch boundary starts it again, flagged or clamped lines
are left out. -/
def State.truRef (s : State) (g : Nat) (l : Line) : State :=
  let on := (s.wwtAt 3 (g / 6) g).running && (cget s.gain g).isNone && decide ((s.truOf g).results.length < 2)
  if !on then s
  else
    let x := s.stripOf g l
    let fresh : RefRun := ⟨0, x.1.map (fun p => p.map (fun _ => 0)), l.tag.epoch, s.now⟩
    let r := match (s.truOf g).ref with
      | some r => if r.epoch = l.tag.epoch then r else { fresh with since := r.since }
      | none => fresh
    let skip := l.tag.flags.testBit 0 || l.tag.flags.testBit 1 || l.tag.flags.testBit 4 || x.2 ||
      decide (s.rf (s.eng .TRU g) Reg.TRU_REF_CTL_LINES ≤ r.lines)
    let r2 := if skip then r
      else { r with lines := r.lines + 1, sums := (List.range r.sums.length).map (fun p =>
        (List.range (r.sums.getD p []).length).map (fun i =>
          ((r.sums.getD p []).getD i 0) + (clampI 0 65535 ((x.1.getD p []).getD i 0)).toNat)) }
    s.truMod g (fun u => { u with ref := some r2 })

/-- Commits that reach Truing at a line (R182): a changed SEL is a bank switch, before which the statistics
block at the TRU tap ends (R140), and any change starts the strip measurement again. -/
def State.truApply (s : State) (g n : Nat) (md : Int) : State :=
  let w := s.eng .TRU g
  let t := s.armedAt g .TRU md
  let changed := (Reg.table .TRU).any (fun d => (List.range (Nat.max 1 d.gcnt * Nat.max 1 d.cnt)).any (fun k =>
    d.hasRws && s.word .TRU w (d.off + k * (if d.gstride = 0 then d.stride else d.gstride)) !=
      t.word .TRU w (d.off + k * (if d.gstride = 0 then d.stride else d.gstride))))
  if !changed then t
  else
    let t1 := t.truMod g (fun u => { u with ref := none })
    let swap := s.rf w Reg.TRU_BANK_SEL != t.rf w Reg.TRU_BANK_SEL
    let t2 := t1.staMod g (fun x => { x with cut := if swap && t1.rf (t1.eng .STA g) Reg.STA_CFG_TAP == 1 then some n else x.cut })
    t2.evIf swap w Reg.TRU_EVENT_BANK_SWITCH

/-- Count what happened to a line: clamps low and high, poison fills, table reads that failed; n open values were drawn for the last. -/
def State.truCount (s : State) (w lo hi fills bad n : Nat) : State :=
  let s1 := { s with freeCtr := if bad = 0 then s.freeCtr else s.freeCtr + n }
  let s2 := ((s1.add w Reg.TRU_CLIP_LO_COUNT lo).add w Reg.TRU_CLIP_HI_COUNT hi).evIf (lo + hi != 0) w Reg.TRU_EVENT_CLIP
  let s3 := (s2.add w Reg.TRU_POISON_FILLS_COUNT fills).evIf (fills != 0) w Reg.TRU_EVENT_POISON_FILL
  (s3.add w Reg.TRU_TBL_POISON_COUNT bad).evIf (bad != 0) w Reg.TRU_EVENT_TBL_POISON

/-- A line through Truing (R171 to R175). -/
def State.truLine (s : State) (g : Nat) (l : Line) : State :=
  let h := s.hop g .TRU
  let w := s.eng .TRU g
  let s0 := (s.truApply g l.tag.index l.tag.md).truRef g l
  let b := s0.truBank g
  let out := (List.range l.planes.length).map (fun p => s0.truPlane g p (l.planes.getD p []) (l.poison.getD p []))
  let lo : Nat := (out.map (fun x => x.2.1)).sum
  let hi : Nat := (out.map (fun x => x.2.2)).sum
  let fills : Nat := (l.poison.map (fun p => p.length)).sum
  let n : Nat := (l.planes.map (fun p => p.length)).sum
  let bad := (b.bad.filter (fun k => decide (k < n))).length
  let s4 := s0.truCount w lo hi fills bad n
  let o : Line := { l with planes := out.map (fun x => x.1), poison := l.planes.map (fun _ => []) }
  let s5 := s4.pass g h (.line o) false
  if s5.rf (s5.eng .STA g) Reg.STA_CFG_TAP = 1 then s5.staTap g h (.line o) else s5

/-- A gap marker passes Truing and its statistics tap. -/
def State.truGap (s : State) (g : Nat) (m : Gap) : State :=
  let h := s.hop g .TRU
  let s1 := s.pass g h (.gap m) false
  if s1.rf (s1.eng .STA g) Reg.STA_CFG_TAP = 1 then s1.staTap g h (.gap m) else s1

/-- TRU_LINE: Truing of carriage g takes the next thing from its Mews: it corrects a line, passes a gap marker on, and turns a flush mark
into a gap before the next line (R171, R333). -/
def execTruLine (g : Nat) (s : State) : Host.Outcome State Fault Refusal :=
  .next (match s.takeNext g (s.hop g .TRU) with
    | none => s
    | some (it, t) =>
      match it with
      | .line l =>
        let u := t.truOf g
        let t1 := if u.flushed then t.truGap g (flushGap u.last l.tag) else t
        let l1 := if u.flushed then l.afterGap else l
        (t1.truLine g l1).truMod g (fun u => { u with last := some l.tag, flushed := false })
      | .gap m => t.truGap g m
      | .flushMark => t.truMod g (fun u => { u with flushed := true })
      | .start => (t.truMod g (fun u => { u with last := none, flushed := false })).pass g (t.hop g .TRU) .start false
      | _ => t)

/-- REF_MEASUREMENT_DONE: a strip measurement of carriage g has its LINES lines and publishes its sums (R184). -/
def execRefMeasurementDone (g : Nat) (s : State) : Host.Outcome State Fault Refusal :=
  .next (match (s.truOf g).ref with
    | none => s
    | some r =>
      let w := s.eng .TRU g
      if r.lines < s.rf w Reg.TRU_REF_CTL_LINES then s
      else
        let sel := s.rf w Reg.TRU_BANK_SEL
        let ident := s.rf w (Reg.TRU_TBL_ID0_TABLE_ID.sh (4 * sel))
        let s1 := (List.range r.sums.length).foldl (fun t p =>
          (List.range (r.sums.getD p []).length).foldl (fun t2 i =>
            t2.wf64 w (Reg.TRU_REF_SUM_SUM.sh (8 * (p * 1024 + i))) ((r.sums.getD p []).getD i 0)) t) s
        ((s1.truMod g (fun u => { u with ref := none, results := u.results ++ [(ident, r.sums)] })).wwtMod 3 (g / 6) g (fun x => { x with started := s.now })).ev w
          Reg.TRU_EVENT_REF_DONE)

end Sys2Proof.Machine
end

