-- ==== Sys2Proof/Machine/Pvw.lean ====
section
/-! DEFINITION. The preview scalers (R290 to R295). Rows name a PVW window, the tick a view. -/

namespace Sys2Proof.Machine

/-- A preview scaler. -/
def State.pvwOf (s : State) (i : Nat) : Pvw := cgetD s.pvw i Pvw.fresh

/-- Change it. -/
def State.pvwMod (s : State) (i : Nat) (f : Pvw → Pvw) : State := { s with pvw := cset s.pvw i (f (s.pvwOf i)) }

/-! ### Selection (R293) -/

/-- The first grid line of strip k of window i (R293). -/
def State.stripLine (s : State) (i k : Nat) : Nat := k * s.rf i Reg.PVW_CTL_ROWS * s.rf i Reg.PVW_SCALE_MD / 256

/-- The first strip whose first grid line is at least G. -/
def State.stripFrom (s : State) (i g : Nat) : Nat := ceilDiv (256 * g) (Nat.max 1 (s.rf i Reg.PVW_CTL_ROWS * s.rf i Reg.PVW_SCALE_MD))

/-- A scaler hears of the present grid line and selects its next strip. -/
def State.pvwTick (s : State) (i g : Nat) : State :=
  let k := s.stripFrom i g
  let past : Bool := match (s.pvwOf i).last with
    | some p => decide (k ≤ p)
    | none => false
  if past then s
  else (s.pvwMod i (fun x => { x with strips := x.strips ++ [k], last := some k })).wf i Reg.PVW_STATUS_STRIP (k % 2 ^ 32)

/-- The PVW windows of the part. -/
def State.pvwWins (s : State) : List Nat :=
  ((List.range s.hw.coaches).flatMap (fun c => [unitOf c 0, unitOf c 1])).filter (fun i => s.hasUnit .PVW i)

/-- PREVIEW_TICK: the selection tick of a view, every 1 / RATE s. -/
def execPreviewTick (view : Nat) (s : State) : Host.Outcome State Fault Refusal :=
  .next ((s.pvwWins.filter (fun i => s.rb i Reg.PVW_CTL_ENABLE && s.rf i Reg.PVW_CTL_VIEW == view)).foldl
    (fun t i => t.pvwTick i (t.webNm / t.gridMd).toNat) s)

/-! ### Lines (R290, R292) -/

/-- The Mews from carriage g's Coupler output to window i. -/
def State.pvwLink (s : State) (i g : Nat) : Option Nat :=
  match afterFirst (fun x => x == s.hop g .SPR) (s.chain g).reverse with
  | some h => s.link g h ⟨.PVW, i, 0⟩
  | none => none

/-- The carriages that feed window i, rising. -/
def State.pvwCars (s : State) (i : Nat) : List Nat :=
  (rangeFrom (6 * (i / 32)) 6).filter (fun g => s.live g && (s.pvwLink i g).isSome)

/-- B of a scale. -/
def boxSize (r : Nat) : Nat := Nat.max 1 (r / 256)

/-- The box row of a preview row and the weight, of 256, of the one behind it. -/
def State.boxRow (s : State) (i n : Nat) : Nat × Nat :=
  let r := s.rf i Reg.PVW_SCALE_MD
  let d := 256 * boxSize r
  (n * r / d, (rne (256 * ((n * r % d : Nat) : Int)) d).toNat)

/-- The preview row that window i forms next, where a strip is selected. -/
def State.rowNow (s : State) (i : Nat) : Option Nat :=
  match (s.pvwOf i).strips with
  | k :: _ => some (k * s.rf i Reg.PVW_CTL_ROWS + (s.pvwOf i).rows.length)
  | [] => none

/-- The first grid line that window i still needs. -/
def State.needFrom (s : State) (i : Nat) : Option Nat :=
  (s.rowNow i).map (fun n => (s.boxRow i n).1 * boxSize (s.rf i Reg.PVW_SCALE_MD))

/-- Take what carriage g has for window i, at most n things. -/
def State.pvwPull : Nat → Nat → Nat → State → State
  | 0, _, _, s => s
  | n + 1, i, g, s =>
    match s.pvwLink i g with
    | none => s
    | some k =>
      match s.mewHead k with
      | none => s
      | some it =>
        let s1 := s.mewPop k
        let pass := fun (m : Nat) (x : Pvw) => ({ x with passed := cset x.passed g (Nat.max m (cgetD x.passed g 0)) } : Pvw)
        let s2 := match it with
          | .line l =>
            let keep : Bool := match s1.needFrom i with
              | some a => decide (a ≤ l.grid)
              | none => false
            s1.pvwMod i (fun x => pass (l.grid + 1) (if keep then { x with lines := x.lines ++ [(g, l)] } else x))
          | .gap m => if m.from_ ≤ m.til then s1.pvwMod i (pass (m.til + 1)) else s1
          | _ => s1
        State.pvwPull n i g s2

/-- Take what every feeding carriage has. -/
def State.pvwPullAll (s : State) (i : Nat) : State :=
  (s.pvwCars i).foldl (fun t g => State.pvwPull (match t.pvwLink i g with
    | some k => (t.mew k).packets.length
    | none => 0) i g t) s

/-- Whether carriage g has passed the box rows of a preview row. -/
def State.pvwPast (s : State) (i n g : Nat) : Bool :=
  decide (((s.boxRow i n).1 + 2) * boxSize (s.rf i Reg.PVW_SCALE_MD) ≤ cgetD (s.pvwOf i).passed g 0)

/-! ### Samples (R290, R291) -/

/-- The carriage that gives a package column on window i, and the column's place in its lines: its owner, else one that receives it, else the
nearest column received. -/
def State.pvwColumn (s : State) (i x : Nat) : Nat × Nat :=
  let recs := (s.pvwCars i).filterMap s.carr
  let lo := fun (r : CarrRec) => r.firstCol - r.ovlLow
  let hi := fun (r : CarrRec) => r.firstCol + r.owned + r.ovlHigh - 1
  let far := fun (r : CarrRec) => if x < lo r then lo r - x else if hi r < x then x - hi r else 0
  let best := fun (a : Option CarrRec) (r : CarrRec) => match a with
    | none => some r
    | some b => if far r < far b then some r else some b
  let pick := match recs.find? (fun r => decide (r.firstCol ≤ x) && decide (x < r.firstCol + r.owned)) with
    | some r => some r
    | none => recs.foldl best none
  match pick with
  | none => (0, 0)
  | some r => (r.carriage, Nat.max (lo r) (Nat.min x (hi r)) + r.ovlLow - r.firstCol)

/-- The mean of a box: the lines of a box row that are there, over the box's columns; none where there is no line. -/
def State.boxMean (s : State) (i plane row : Nat) (cols : List (Nat × Nat)) : Option Int :=
  let b := boxSize (s.rf i Reg.PVW_SCALE_MD)
  let lines := (s.pvwOf i).lines.filter (fun e => decide (row * b ≤ e.2.grid) && decide (e.2.grid < (row + 1) * b))
  let vals := lines.flatMap (fun e => (cols.filter (fun c => c.1 == e.1)).map (fun c => (e.2.planes.getD plane []).getD c.2 0))
  if vals = [] then none else some (rne (vals.foldl (· + ·) 0) vals.length)

/-- Between two values by a weight of 256; a weight of 0 needs the first alone. -/
def blend (a b : Option Int) (f : Nat) : Option Int :=
  match a, b with
  | some x, some y => some (rne (x * (256 - (f : Int)) + y * f) 256)
  | some x, none => if f = 0 then some x else none
  | none, some y => if f = 256 then some y else none
  | none, none => none

/-- A preview sample: along CD in each of its box rows, then along MD. -/
def State.previewSample (s : State) (i plane n u : Nat) : Option Int :=
  let r := s.rf i Reg.PVW_SCALE_CD
  let b := boxSize r
  let d := 256 * b
  let k := u * r / d
  let f := (rne (256 * ((u * r % d : Nat) : Int)) d).toNat
  let cols := fun (k : Nat) => (List.range b).map (fun j => s.pvwColumn i (s.rf i Reg.PVW_FIRST_COLUMN + k * b + j))
  let q := s.boxRow i n
  let along := fun (row : Nat) => blend (s.boxMean i plane row (cols k)) (s.boxMean i plane row (cols (k + 1))) f
  blend (along q.1) (along (q.1 + 1)) q.2

/-- The byte of a sample (R291). -/
def State.mapped (s : State) (i : Nat) (v : Int) : Nat :=
  (clampI 0 255 (rne ((v - s.rf i Reg.PVW_MAP_BLACK) * s.rf i Reg.PVW_MAP_GAIN) 65536)).toNat

/-- Whether carriage g owns the first column of the boxes of preview column u. -/
def State.ownsBox (s : State) (i g u : Nat) : Bool :=
  let r := Nat.max 1 (s.rf i Reg.PVW_SCALE_CD)
  let b := boxSize r
  let x := s.rf i Reg.PVW_FIRST_COLUMN + u * r / (256 * b) * b
  match s.carr g with
  | some c => decide (c.firstCol ≤ x) && decide (x < c.firstCol + c.owned)
  | none => false

/-- The preview columns of window i's share. -/
def State.shareCols (s : State) (i : Nat) : List Nat :=
  let r := Nat.max 1 (s.rf i Reg.PVW_SCALE_CD)
  (List.range ((s.rf i Reg.PVW_LAST_COLUMN + 1 - s.rf i Reg.PVW_FIRST_COLUMN) * 256 / r)).filter (fun u =>
    (s.pvwCars i).any (fun g => s.ownsBox i g u))

/-- The lowest carriage of window i's share. -/
def State.shareLow (s : State) (i : Nat) : Option Nat := (s.pvwCars i).find? (fun g => (s.shareCols i).any (fun u => s.ownsBox i g u))

/-! ### Strips (R292 to R295) -/

/-- The header of a fragment (R294). -/
def State.stripHeader (s : State) (i k flags frag frags off len time : Nat) : List Byte :=
  let cols := s.shareCols i
  toBytes 4 0x504B4C47 ++ toBytes 1 1 ++ toBytes 1 (s.rf i Reg.PVW_CTL_VIEW) ++ toBytes 1 (if s.rf i Reg.PVW_CFG_PLANES = 3 then 3 else 1) ++
  toBytes 1 flags ++ toBytes 4 k ++ toBytes 2 frag ++ toBytes 2 frags ++ toBytes 4 (cols.headD 0) ++ toBytes 2 cols.length ++
  toBytes 2 (s.rf i Reg.PVW_CTL_ROWS) ++ toBytes 4 off ++ toBytes 2 len ++ toBytes 2 (satN 65535 (s.pvwOf i).dropped) ++
  toBytes 8 (s.stripLine i k * s.gridMd) ++ toBytes 8 time ++ toBytes 2 (s.rf i Reg.PVW_SCALE_CD) ++ toBytes 2 (s.rf i Reg.PVW_SCALE_MD) ++
  toBytes 1 (i / 32) ++ toBytes 11 0

/-- A strip is dropped (R293). -/
def State.stripDrop (s : State) (i : Nat) : State :=
  ((s.inc i (Reg.PVW_CNT_COUNT.sh 4)).ev i Reg.PVW_EVENT_DROPPED).pvwMod i (fun x => { x with dropped := x.dropped + 1 })

/-- A strip is delivered. -/
def State.stripSent (s : State) (i : Nat) : State :=
  ((s.inc i Reg.PVW_CNT_COUNT).ev i Reg.PVW_EVENT_SENT).pvwMod i (fun x => { x with dropped := 0 })

/-- A whole strip leaves: as datagrams from its lane (R294), into its host ring (R295), or not at all. -/
def State.stripOut (s : State) (i k : Nat) (data : List Byte) (gap laneFull : Bool) (time : Nat) : State :=
  let flags := (if s.standby then 2 else 0) + (if gap then 4 else 0)
  let s0 := if gap then (s.inc i (Reg.PVW_CNT_COUNT.sh 8)).ev i Reg.PVW_EVENT_GAP else s
  if s.suppressed then s0
  else if s.rf i Reg.PVW_CTL_DEST = 0 then
    let lane := s.rf i Reg.PVW_NET_LANE_LANE
    let up := s.hasUnit .LAN (laneInst lane) && s.rf (laneInst lane) Reg.LAN_CFG_USE == 4 && s.laneTxUp lane &&
      s.rf (laneInst lane) Reg.LAN_IPV4_ADDR != 0
    if laneFull ∨ !up then s0.stripDrop i
    else
      let size := 64 * Nat.max 1 (s.rf i Reg.PVW_NET_LANE_PAYLOAD)
      let n := ceilDiv data.length size
      let mac := (toBytes 2 (s.rf i Reg.PVW_NET_MAC_HI_MAC)).reverse ++ (toBytes 4 (s.rf i Reg.PVW_NET_MAC_LO_MAC)).reverse
      ((List.range n).foldl (fun t f =>
        let part := (data.drop (f * size)).take size
        (t.ethOut .netPreview lane (t.udpFrame lane mac (s.rf i Reg.PVW_NET_IP_ADDR) (s.rf i Reg.PVW_NET_PORT_SRC) (s.rf i Reg.PVW_NET_PORT_DST)
          (t.stripHeader i k (flags + b2n (f + 1 == n)) f n (f * size) part.length time ++ part))).drawn) s0).stripSent i
  else
    let slots := s.rf i Reg.PVW_RING_SLOTS
    let wr := s.rf i Reg.PVW_RING_PTR_WRITE
    let size := 4096 * s.rf i Reg.PVW_RING_SLOT_SIZE
    if slots = 0 ∨ (wr + 1) % Nat.max 1 slots = s.rf i Reg.PVW_RING_PTR_READ ∨ size < 64 + data.length then s0.stripDrop i
    else
      let base := 64 * s.rf i Reg.PVW_RING_BASE_LO_ADDR + 2 ^ 32 * s.rf i Reg.PVW_RING_BASE_HI_ADDR
      let s1 := s0.dramWrite 0 (base + wr * size) (s0.stripHeader i k (flags + 1) 0 1 0 data.length time ++ data) false
      (s1.wf i Reg.PVW_RING_PTR_WRITE ((wr + 1) % slots)).stripSent i

/-- The TIME of a strip's first line in the share's lowest carriage; open where that line is missing. -/
def State.stripTime (s : State) (i k : Nat) : Int × State :=
  match (s.pvwOf i).lines.find? (fun e => some e.1 == s.shareLow i && e.2.grid == s.stripLine i k) with
  | some e => (e.2.tag.time, s)
  | none => (sgn 64 (s.freeVal 64), s.drawn)

/-- Form a preview row; the last of a strip lets it leave. -/
def State.pvwForm (s : State) (i n : Nat) (laneFull : Bool) : State :=
  match (s.pvwOf i).strips with
  | [] => s
  | k :: rest =>
    let s1 := if (s.pvwOf i).rows = [] then (s.stripTime i k).2.pvwMod i (fun x => { x with time := some (s.stripTime i k).1 }) else s
    let planes := if s.rf i Reg.PVW_CFG_PLANES = 3 then 3 else 1
    let vals := (s.shareCols i).flatMap (fun u => (List.range planes).map (fun p => s.previewSample i p n u))
    let row := vals.map (fun v => match v with
      | some x => s.mapped i x
      | none => 0)
    let s2 := s1.pvwMod i (fun x => { x with rows := x.rows ++ [row], gap := x.gap || vals.any Option.isNone, since := none })
    let x := s2.pvwOf i
    let s3 := if x.rows.length < s.rf i Reg.PVW_CTL_ROWS then s2
      else
        let data := x.rows.flatten.map (fun v => BitVec.ofNat 8 v)
        (s2.stripOut i k data x.gap laneFull (unsgn 64 (x.time.getD 0))).pvwMod i (fun y => { y with strips := rest, rows := [], gap := false, time := none })
    let need := s3.needFrom i
    s3.pvwMod i (fun y => { y with lines := match need with
      | some a => y.lines.filter (fun e => decide (a ≤ e.2.grid))
      | none => [] })

/-- PREVIEW_ROW_COMPLETE: window i takes what its carriages have passed; when every one has passed the box rows of the next preview row, the row
is formed (R292). `laneFull`: the lane's send queue has no room should a strip become whole. -/
def execPreviewRowComplete (i : Nat) (laneFull : Bool) (s : State) : Host.Outcome State Fault Refusal :=
  .next (if !s.hasUnit .PVW i then s
  else
    let s1 := s.pvwPullAll i
    if !s1.rb i Reg.PVW_CTL_ENABLE then s1.pvwMod i (fun x => { x with strips := [], rows := [], lines := [], since := none, gap := false })
    else
      match s1.rowNow i with
      | none => s1
      | some n =>
        let cars := s1.pvwCars i
        if cars.all (fun g => s1.pvwPast i n g) ∧ cars ≠ [] then s1.pvwForm i n laneFull
        else if cars.any (fun g => s1.pvwPast i n g) ∧ (s1.pvwOf i).since = none then s1.pvwMod i (fun x => { x with since := some s1.now })
        else s1)

/-- PREVIEW_ROW_TIMEOUT: 10 ms after the first carriage passed, the row is formed of what is there (R292). -/
def execPreviewRowTimeout (i : Nat) (laneFull : Bool) (s : State) : Host.Outcome State Fault Refusal :=
  .next (match (s.pvwOf i).since, s.rowNow i with
    | some t, some n => if t + 10000000 ≤ s.now then s.pvwForm i n laneFull else s
    | _, _ => s)

end Sys2Proof.Machine
end

