-- ==== Sys2Proof/Machine/ReinMap.lean ====
section
/-! DEFINITION. What the Reins may bind (R354 to R369): which sources and sinks exist, which are secure, loops without a flip-flop. Both the
harness check and the Yoke check use these. -/

namespace Sys2Proof.Machine

/-- The EVENT register of a block, as an offset in its window. -/
def eventOff (b : Blk) : Option Nat :=
  match b with
  | .ING => some 0x30 | .STA => some 0x2C | .TRU => some 0xA0 | .RGA => some 0x44 | .CPL => some 0x20 | .SPR => some 0x24
  | .SEG => some 0x34 | .LBL => some 0x0C | .DBM => some 0x54 | .PAT => some 0x24 | .PMT => some 0x08 | .PVW => some 0x40
  | .TMT => some 0x10 | .PAI => some 0x10 | .RNG => some 0x08 | .WAY => some 0x10C | .LAN => some 0x1C | .DMC => some 0x0C
  | .MEW => some 0x04 | .WHT => some 0x18
  | .GLB | .HDR | .YOK | .OUT | .PST | .LCH | .PWR | .CLK | .REI | .BKL | .DRY | .WWT => none

/-- Whether bit n of a block's EVENT register is an event. -/
def isEvent (b : Blk) (n : Nat) : Bool :=
  match eventOff b with
  | none => false
  | some o =>
    match findDef b o with
    | none => false
    | some d => d.fields.any (fun f => f.acc == .W1C && decide (f.lo ≤ n) && decide (n ≤ f.hi))

/-- Whether a block's engine, by its ENGN record, is a stage engine that can raise event n (R357); a Coupler's second unit counts from 16. -/
def stageEvent (b : Blk) (n : Nat) : Bool := if b = .CPL then isEvent b (n % 16) && decide (n < 32) else isEvent b n

/-- Whether a fabric source exists on a coach and has an event (R357). -/
def fabricEvent (coach src ev : Nat) : Bool :=
  match src with
  | 0xF000 => coach == 0 && decide (ev < 64)
  | 0xF001 => coach == 0 && (decide (ev < 16) || (decide (32 ≤ ev) && decide (ev < 96) && isEvent .WAY (ev % 16)))
  | 0xF002 => coach == 0 && (decide (ev < 8) || (decide (16 ≤ ev) && decide (ev < 32) && isEvent .TMT (ev - 16)) ||
      (decide (32 ≤ ev) && decide (ev < 48) && isEvent .PAI (ev - 32)) || (decide (48 ≤ ev) && decide (ev < 64) && isEvent .RNG (ev - 48)))
  | 0xF003 => coach == 0 && decide (ev < 16)
  | 0xF010 => decide (ev < 128) && isEvent .LAN (ev % 8)
  | 0xF011 => decide (ev < 32) && isEvent .DMC (ev % 16)
  | 0xF012 => isEvent .MEW ev
  | 0xF013 => decide (ev / 4 < (if coach = 0 then 9 else 8))
  | 0xF014 => decide (ev < 32)
  | 0xF015 => coach == 0 && decide (ev < 2)
  | _ => false

/-- Whether a fabric sink exists on a coach and has a task input (R359). -/
def fabricTask (coach sink task : Nat) : Bool :=
  match sink with
  | 0xF000 => coach == 0 && decide (task < 32)
  | 0xF001 => coach == 0 && decide (task < 4)
  | 0xF002 => coach == 0 && decide (task < 4)
  | 0xF014 => decide (task < 32)
  | 0xF015 => coach == 0 && task == 0
  | 0xF016 => decide (task < 8)
  | _ => false

/-- Whether a stage engine has a task input (R359). -/
def stageTask (b : Blk) (task : Nat) : Bool :=
  match b with
  | .ING | .SPR => decide (task < 2)
  | .PMT => task == 0
  | _ => false

/-- Whether a source is secure (R365): the Yoke's, and the Post events of mailboxes whose receiver is a secure master. -/
def secureSource (receiver : Nat → Nat) (src ev : Nat) : Bool := src == 0xF015 || (src == 0xF003 && secureMaster (receiver ev))

/-- Whether a sink is secure (R365). -/
def secureSink (sink : Nat) : Bool := sink == 0xF015

/-- Drop the edges that no other edge leads to. -/
def trimEdges (l : List (Nat × Nat × Nat)) : List (Nat × Nat × Nat) := l.filter (fun e => l.any (fun d => d.2.1 == e.1))

/-- What is left of edges (from, to, owner) once those outside every loop's reach are gone: not empty exactly when there is a loop. -/
def loopEdges : Nat → List (Nat × Nat × Nat) → List (Nat × Nat × Nat)
  | 0, l => l
  | n + 1, l => loopEdges n (trimEdges l)

end Sys2Proof.Machine
end

