-- ==== Sys2Proof/Machine/Rga.lean ====
section
/-! DEFINITION. Regauge (R187 to R198). Rows name a carriage. -/

namespace Sys2Proof.Machine

/-- The active bank of Regauge. -/
def State.rgaBank (s : State) (g : Nat) : RgaBank :=
  (s.rgaOf g).banks.getD (s.rf (s.eng .RGA g) Reg.RGA_BANK_SEL) (RgaBank.fresh 2 2)

/-- Increment entry j; for one that SRAM cannot give, the column's before it (R183); the first column's is open then. -/
def State.rgaInc (s : State) (b : RgaBank) : Nat → Nat
  | 0 => if b.badInc.contains 0 then Config.freeValue s.freeCtr % 2 ^ 30 else b.incAt 0
  | j + 1 => if b.badInc.contains (j + 1) then s.rgaInc b j else b.incAt (j + 1)

/-- RGA_CD_START, s16.32. -/
def State.cdStart (s : State) (w : Nat) : Int := 2 ^ 32 * sgn 16 (s.rf w Reg.RGA_CD_START_HI_INT) + s.rf w Reg.RGA_CD_START_LO_FRAC

/-- Source positions s_0, s_1, ... in 2^-32 pixels from increments (R187). -/
def positions (inc : Nat → Nat) : Nat → Nat → Int → List Int
  | 0, _, _ => []
  | k + 1, j, x => x :: positions inc k (j + 1) (x + 16 * inc j)

/-- The source positions of carriage g. -/
def State.sources (s : State) (g : Nat) : List Int :=
  positions (s.rgaInc (s.rgaBank g)) (s.rgaOut g) 0 (s.cdStart (s.eng .RGA g))

/-- The integer part and phase of a position (R188, R194). -/
def phaseOf (pos : Int) (den : Nat) : Int × Nat :=
  let n := Int.ediv pos den
  let φ := (rne (256 * Int.emod pos den) den).toNat
  if φ = 256 then (n + 1, 0) else (n, φ)

/-- The whole place nearest a position; midway the lower one (log 61). -/
def nearest (pos : Int) (den : Nat) : Int :=
  if 2 * Int.emod pos den ≤ den then Int.ediv pos den else Int.ediv pos den + 1

/-- Whether the CD coefficients at a position fail (R183). -/
def RgaBank.cdBad (b : RgaBank) (pos : Int) (den : Nat) : Bool :=
  (List.range 8).any (fun t => b.badCd.contains (8 * (phaseOf pos den).2 + t))

/-- One CD sample of a plane at a position, in 1/256, before saturation (R188, R190). A phase with an uncorrectable coefficient gives the
nearest sample (R183). -/
def cdSample (b : RgaBank) (l : List Int) (pos : Int) (den : Nat) : Int :=
  let p := phaseOf pos den
  if b.cdBad pos den then 16 * sampleAt l (nearest pos den)
  else
    rne ((List.range 8).foldl (fun x t => x + b.cdAt p.2 t * sampleAt l (p.1 - 3 + t)) 0) 4096

/-- The intermediate planes of a line, before saturation: a bilinear line gives red, green and blue (R190, R191). -/
def State.cdPlanes (s : State) (g : Nat) (l : MidLine) : List (List Int) :=
  let b := s.rgaBank g
  let src := s.sources g
  let whole := fun (p : List Int) => src.map (fun x => cdSample b p x (2 ^ 32))
  let half := fun (par : Nat) =>
    let sub := everySecond par (l.planes.getD 1 [])
    src.map (fun x => cdSample b sub (x - 2 ^ 32 * (par : Int)) (2 ^ 33))
  if l.planes.length = 2 then [half (l.rb % 2), whole (l.planes.getD 0 []), half ((l.rb + 1) % 2)] else l.planes.map whole

/-- s13.8 (R190). -/
def s13_8 (x : Int) : Int := clampI (-2097152) 2097151 x

/-- Line i of the stretch, mirrored about its first line, and about its last where `ended` (R194, R197). -/
def Rga.lineAt (r : Rga) (ended : Bool) (i : Int) : Option (Nat × MidLine) :=
  let last : Int := (r.count : Int) - 1
  let b : Int := if ended then reflect last i else if i < 0 then -i else i
  let c := (clampI 0 last b).toNat
  (r.lines[r.count - 1 - c]?).map (fun l => (c, l))

/-- The intermediate samples of line c of the stretch; a synthesised line is the mean of its neighbours (R196). -/
def State.midPlanes (s : State) (g : Nat) (c : Nat) (l : MidLine) : List (List Int) :=
  let own := fun (x : MidLine) => (s.cdPlanes g x).map (fun p => p.map s13_8)
  if !l.made then own l
  else
    let r := s.rgaOf g
    match r.lines[r.count - c]?, r.lines[r.count - 2 - c]? with
    | some a, some b =>
      let x := own a
      let y := own b
      (List.range x.length).map (fun p => (List.range (x.getD p []).length).map (fun j =>
        rne ((x.getD p []).getD j 0 + (y.getD p []).getD j 0) 2))
    | _, _ => []

/-- Commits that reach Regauge at a grid position (R182). -/
def State.rgaApply (s : State) (g : Nat) (y : Int) : State :=
  let w := s.eng .RGA g
  let t := s.armedAt g .RGA y
  t.evIf (s.rf w Reg.RGA_BANK_SEL != t.rf w Reg.RGA_BANK_SEL) w Reg.RGA_EVENT_BANK_SWITCH

/-- Count table reads that failed for an output line at MD phase φ (R183); a bilinear line reads coefficients for its half planes too. -/
def State.rgaBad (s : State) (g φ : Nat) (bilinear : Bool) : State :=
  let w := s.eng .RGA g
  let b := s.rgaBank g
  if b.badInc = [] ∧ b.badCd = [] ∧ b.badMd = [] then s
  else
    let incs := (b.badInc.filter (fun j => decide (j < s.rgaOut g))).length
    let src := s.sources g
    let half := if bilinear then (List.range 2).flatMap (fun (par : Nat) => src.filter (fun x => b.cdBad (x - 2 ^ 32 * (par : Int)) (2 ^ 33))) else []
    let cds := (src.filter (fun x => b.cdBad x (2 ^ 32))).length + half.length
    let mds := if (List.range 6).any (fun t => b.badMd.contains (6 * φ + t)) then s.rgaOut g else 0
    let n := incs + cds + mds
    ({ s with freeCtr := s.freeCtr + 1 }.add w (Reg.RGA_CNT_COUNT.sh 20) n).evIf (n != 0) w Reg.RGA_EVENT_TBL_POISON

/-- The markers of bridged lines whose place comes by output line m pass on (R196, R247). -/
def State.heldOut (s : State) (g m : Nat) : State :=
  let r := s.rgaOf g
  (r.held.filter (fun x => decide (x.from_ ≤ m))).foldl (fun (t : State) x => t.coupled g (t.hop g .RGA) (.gap x))
    (s.rgaMod g (fun u => { u with held := u.held.filter (fun x => decide (m < x.from_)) }))

/-- Every marker that is held passes on. -/
def State.heldAll (s : State) (g : Nat) : State :=
  let r := s.rgaOf g
  r.held.foldl (fun (t : State) x => t.coupled g (t.hop g .RGA) (.gap x)) (s.rgaMod g (fun u => { u with held := [] }))

/-- Emit output grid line m from base line n, which lies at or before it, with the line behind it (R194, R195). -/
def State.emitGrid (s : State) (g m n : Nat) (ended : Bool) : State :=
  let y : Int := m * s.gridMd
  let w := s.eng .RGA g
  let s0 := (s.heldOut g m).rgaApply g y
  let r := s0.rgaOf g
  match r.lineAt ended n with
  | none => s0
  | some (_, a) =>
    let nx := r.lineAt ended (n + 1)
    let d : Int := match nx with
      | some (_, b) => if n + 1 < r.count then b.tag.md - a.tag.md else 0
      | none => 0
    let f : Int := if d ≤ 0 then 0 else rne (2 ^ 32 * (y - a.tag.md)) d.toNat
    let dt : Int := match nx with
      | some (_, b) => b.tag.time - a.tag.time
      | none => 0
    let p := phaseOf ((n : Int) * 2 ^ 32 + f) (2 ^ 32)
    let b := s0.rgaBank g
    let bad := (List.range 6).any (fun t => b.badMd.contains (6 * p.2 + t))
    let near := nearest ((n : Int) * 2 ^ 32 + f) (2 ^ 32) + 2 - p.1
    let coef := fun (t : Nat) => if bad then (if (t : Int) = near then 65536 else 0) else b.mdAt p.2 t
    let taps := ((List.range 6).filter (fun (t : Nat) => coef t != 0)).filterMap (fun (t : Nat) => (r.lineAt ended (p.1 - 2 + (t : Int))).map (fun x => (coef t, x)))
    let mids := taps.map (fun x => (x.1, s0.midPlanes g x.2.1 x.2.2))
    let shape := (mids.head?.map (fun x => x.2)).getD []
    let raw := (List.range shape.length).map (fun k => (List.range (shape.getD k []).length).map (fun j =>
      rne (mids.foldl (fun x e => x + e.1 * ((e.2.getD k []).getD j 0)) 0) 1048576))
    let clamped : Nat := (raw.map (fun q => (q.filter wp16Over).length)).sum
    let made := a.made || (decide (a.tag.md < y) && (match nx with
      | some (_, b) => b.made
      | none => false))
    let or_ := (taps.map (fun x => x.2.2.tag.flags)).foldl (fun x z => x ||| z) 0 &&& 0x339F
    let first : Bool := match r.epoch with
      | some e => e != a.tag.epoch
      | none => false
    let flags := or_ ||| flagBit 5 r.gapSeen ||| flagBit 6 first ||| flagBit 10 made
    let l : Line := ⟨⟨y, rne (a.tag.time * 2 ^ 32 + f * dt) (2 ^ 32), a.tag.index, a.tag.epoch, a.tag.camLine, flags⟩, m, a.rb,
      raw.map (fun q => q.map (fun x => clampI 0 65535 x)), raw.map (fun _ => []), false, false, [],
      s0.cdStart w :: (s0.rf w Reg.RGA_BANK_SEL : Int) :: (taps.flatMap (fun x => x.2.2.under)).eraseDups⟩
    let s1 := (s0.add w (Reg.RGA_CNT_COUNT.sh 12) clamped).evIf (clamped != 0) w Reg.RGA_EVENT_CLAMP
    let s2 := ((s1.rgaBad g p.2 (a.planes.length == 2)).wf w Reg.RGA_CFG_RB_ORDER a.rb).wf64 w Reg.RGA_OUT_LINES_LO_COUNT
      (s1.rf64 w Reg.RGA_OUT_LINES_LO_COUNT + 1)
    (s2.rgaMod g (fun u => { u with next := m + 1, gapSeen := false, epoch := some a.tag.epoch })).coupled g (s2.hop g .RGA) (.line l)

/-- Emit the output lines from base line n up to a position (R194, R198). -/
def State.emitTo : Nat → Nat → Nat → Int → Bool → State → State
  | 0, _, _, _, _, s => s
  | k + 1, g, n, lim, ended, s =>
    let m := (s.rgaOf g).next
    if (m : Int) * s.gridMd < lim then State.emitTo k g n lim ended (s.emitGrid g m n ended) else s

/-- The output lines of base line n, whose next line is in the stretch; more than one of them counts (R198). -/
def State.emitBase (s : State) (g n : Nat) (ended : Bool) : State :=
  let r := s.rgaOf g
  match r.lineAt ended n, r.lineAt ended (n + 1) with
  | some (_, a), some (_, b) =>
    let w := s.eng .RGA g
    let d := b.tag.md - a.tag.md
    let s1 := s.wf w Reg.RGA_STATUS_RATIO (satN 65535 (rne (4096 * d) s.gridMd).toNat)
    let s2 := s1.evIf (decide ((s.gridMd : Int) < d)) w Reg.RGA_EVENT_OVERSPEED
    let s3 := State.emitTo ((d.toNat / s.gridMd) + 2) g n b.tag.md ended s2
    let s4 := if r.next + 1 < (s3.rgaOf g).next then s3.inc w (Reg.RGA_CNT_COUNT.sh 16) else s3
    s4.rgaMod g (fun u => { u with bases := n + 1 })
  | _, _ => s

/-- The bases of the stretch that are complete leave: all but the last three lines', or all where the stretch ended (R194, R197). -/
def State.emitBases : Nat → Nat → Bool → State → State
  | 0, _, _, s => s
  | k + 1, g, ended, s =>
    let r := s.rgaOf g
    if r.bases + (if ended then 1 else 3) < r.count then State.emitBases k g ended (s.emitBase g r.bases ended) else s

/-- The stretch ends at its last line: the lines up to and at its MD leave (R197). -/
def State.endStretch (s : State) (g : Nat) : State :=
  let r := s.rgaOf g
  match r.lines with
  | [] => s
  | l :: _ =>
    let s1 := State.emitBases (r.count + 1) g true s
    let s2 := (State.emitTo 2 g (r.count - 1) (l.tag.md + 1) true s1).heldAll g
    let w := s.eng .RGA g
    (((s2.rgaMod g (fun u => { u with lines := [], count := 0, bases := 0 })).inc w (Reg.RGA_CNT_COUNT.sh 4)).wf w
      Reg.RGA_STATUS_IN_HOLE 1).ev w Reg.RGA_EVENT_HOLE

/-- A marker that is not bridged: a hole begins or goes on, and the marker passes with the grid lines it stands for (R197). -/
def State.holeMark (s : State) (g : Nat) (m : Gap) : State :=
  let p : Int := s.gridMd
  let w := s.eng .RGA g
  let first := (s.rgaOf g).lines.isEmpty && (s.rgaOf g).top.isNone && !(s.rgaOf g).gapSeen
  let s0 := if first then ((s.inc w (Reg.RGA_CNT_COUNT.sh 4)).wf w Reg.RGA_STATUS_IN_HOLE 1).ev w Reg.RGA_EVENT_HOLE else s
  let s1 := s0.endStretch g
  let r := s1.rgaOf g
  let from_ := if first then Nat.max r.next (-(Int.ediv (-m.md0) p)).toNat else r.next
  let til1 := (Int.ediv m.md1 p + 1).toNat
  let s2 := s1.rgaMod g (fun u => { u with next := Nat.max from_ til1, gapSeen := true })
  let mk_ : Gap := if from_ < til1 then { m with from_ := from_, til := til1 - 1 } else m.noneFrom from_
  s2.coupled g (s2.hop g .RGA) (.gap mk_)

/-- A line enters the stretch; its intermediate samples that saturate count (R190, R194). -/
def State.rgaTake (s : State) (g : Nat) (l : MidLine) : State :=
  let w := s.eng .RGA g
  let sat : Nat := if l.made then 0 else ((s.cdPlanes g l).map (fun p => (p.filter (fun x => s13_8 x != x)).length)).sum
  let s1 := (s.add w (Reg.RGA_CNT_COUNT.sh 12) sat).evIf (sat != 0) w Reg.RGA_EVENT_CLAMP
  let r := s1.rgaOf g
  let first : Nat := (-(Int.ediv (-l.tag.md) s.gridMd)).toNat
  let next := if r.count = 0 then Nat.max r.next first else r.next
  let s2 := (s1.rgaMod g (fun u => { u with
    lines := (l :: u.lines).take 8, count := u.count + 1, top := some l.tag.md, next := next })).wf w Reg.RGA_STATUS_IN_HOLE 0
  State.emitBases 8 g false s2

/-- An input line (R193, R196, R197). -/
def State.rgaLine (s : State) (g : Nat) (l : Line) : State :=
  let w := s.eng .RGA g
  let step : Int := s.rf w Reg.RGA_MD_CTL_MIN_STEP_NM
  let r := s.rgaOf g
  let back : Bool := match r.top with
    | some t => decide (l.tag.md < t + step)
    | none => false
  let mid : MidLine := ⟨l.tag, l.planes, false, l.rb, l.under⟩
  match r.pending with
  | none =>
    if back then (s.inc w (Reg.RGA_CNT_COUNT.sh 8)).ev w Reg.RGA_EVENT_BACK_LINE else s.rgaTake g mid
  | some m =>
    let s1 := s.rgaMod g (fun u => { u with pending := none })
    let fits : Bool := match r.lines with
      | a :: _ => decide (a.tag.index + 1 = m.first) && decide (l.tag.index = m.last + 1) && decide (a.tag.md + step ≤ m.md0) &&
          decide (m.md0 + step ≤ l.tag.md)
      | [] => false
    if back ∨ !fits then
      let s2 := s1.holeMark g m
      if back then (s2.inc w (Reg.RGA_CNT_COUNT.sh 8)).ev w Reg.RGA_EVENT_BACK_LINE else s2.rgaTake g mid
    else
      let prev := ((r.lines.head?).map (fun a => a.tag)).getD l.tag
      let ep := if s.epochStart g l.tag.epoch l.tag.index ≤ m.first then l.tag.epoch else prev.epoch
      let made : MidLine := ⟨⟨m.md0, m.time0, m.first, ep, s1.freeVal 16, prev.flags &&& 0x3000⟩, [], true, l.rb, l.under⟩
      let k := Nat.max r.next (-(Int.ediv (-m.md0) s.gridMd)).toNat
      let s2 := s1.drawn.rgaMod g (fun u => { u with held := u.held ++ [{ m.noneFrom k with bridged := true }] })
      let s3 := (s2.inc w Reg.RGA_CNT_COUNT).ev w Reg.RGA_EVENT_BRIDGED
      let s4 := s3.rgaMod g (fun u => { u with lines := (made :: u.lines).take 8, count := u.count + 1, top := some m.md0 })
      s4.rgaTake g mid

/-- A gap marker: one missing line behind a line of the stretch waits to be bridged, any other makes a hole (R196, R197). -/
def State.rgaGap (s : State) (g : Nat) (m : Gap) : State :=
  match (s.rgaOf g).pending with
  | some p => ((s.rgaMod g (fun u => { u with pending := none })).holeMark g p).holeMark g m
  | none =>
    if m.count = 1 ∧ m.indexed ∧ (s.rgaOf g).lines ≠ [] then s.rgaMod g (fun u => { u with pending := some m })
    else s.holeMark g m

/-- Regauge ends its sequence where the part itself stops the carriage: what the stretch still holds leaves, then the end mark, and a new
sequence begins as after a hole (R192, R430). -/
def State.rgaEnd (s : State) (g cause : Nat) : State :=
  let s1 := match (s.rgaOf g).pending with
    | some m => (s.rgaMod g (fun u => { u with pending := none })).holeMark g m
    | none => s
  let r := s1.rgaOf g
  let s2 := match r.lines with
    | [] => s1
    | l :: _ => (State.emitTo 2 g (r.count - 1) (l.tag.md + 1) true (State.emitBases (r.count + 1) g true s1)).heldAll g
  let k := (s2.rgaOf g).next
  let mk_ : Gap := ⟨cause, 0, 0, 0, 0, 0, 0, 0, false, false, Nat.max 1 k, Nat.max 1 k - 1⟩
  (s2.rgaMod g (fun u => { u with lines := [], count := 0, bases := 0, top := none, gapSeen := true, flushed := false })).coupled
    g (s2.hop g .RGA) (.gap mk_)

/-- A decode job starts (R287): what the stretch still holds leaves, with a hole at a line that waited to be bridged, and a new
sequence begins. -/
def State.rgaStart (s : State) (g : Nat) : State :=
  let s0 := match (s.rgaOf g).pending with
    | some m => (s.rgaMod g (fun u => { u with pending := none })).holeMark g m
    | none => s
  let r := s0.rgaOf g
  let s1 := match r.lines with
    | [] => s0
    | l :: _ => (State.emitTo 2 g (r.count - 1) (l.tag.md + 1) true (State.emitBases (r.count + 1) g true s0)).heldAll g
  (s1.rgaMod g (fun u => { u with
    lines := [], count := 0, bases := 0, top := none, next := 0, pending := none, gapSeen := false, epoch := none, flushed := false })).coupled
    g (s.hop g .RGA) .start

/-- RGA_LINE: Regauge of carriage g takes the next input line, or a flush mark, and gives out the output lines that it completes (R194,
R333). -/
def execRgaLine (g : Nat) (s : State) : Host.Outcome State Fault Refusal :=
  .next (match s.takeNext g (s.hop g .RGA) with
    | some (.line l, t) =>
      let r := t.rgaOf g
      if r.flushed then
        let before := (r.lines.head?).map (fun a => a.tag)
        ((t.rgaMod g (fun u => { u with flushed := false })).rgaGap g (flushGap before l.tag)).rgaLine g l
      else t.rgaLine g l
    | some (.flushMark, t) => t.rgaMod g (fun u => { u with flushed := true })
    | some (.start, t) => t.rgaStart g
    | _ => s)

/-- RGA_GAP_MARKER: Regauge of carriage g takes a gap marker, which it bridges or turns into a hole (R196, R197). -/
def execRgaGapMarker (g : Nat) (s : State) : Host.Outcome State Fault Refusal :=
  .next (match s.takeNext g (s.hop g .RGA) with
    | some (.gap m, t) => t.rgaGap g m
    | _ => s)

end Sys2Proof.Machine
end

