-- ==== Sys2Proof/Machine/YokeCheck.lean ====
section
/-! DEFINITION. The block rules of a Yoke check (R406 step 2), which H-0701 repeats over an image's YOKE values: each names the register key
that breaks it. They read a state in which every register holds the value to be tested. -/

namespace Sys2Proof.Machine

/-- The key of a register field. -/
def Fld.key (f : Fld) (i : Nat) : Nat := regKey f.blk i f.off

/-- The first test that fails. -/
def firstBad : List (Bool × Nat) → Option Nat
  | [] => none
  | (true, k) :: _ => some k
  | (false, _) :: t => firstBad t

/-- Not between two limits. -/
def outOf (lo hi x : Nat) : Bool := decide (x < lo) || decide (hi < x)

/-- The engines of a type that belong to carriages: carriage and window, in carriage order. -/
def State.carEngines (v : State) (b : Blk) : List (Nat × Nat) :=
  ((List.range v.carriageCount).filter (fun g => v.hasEng b g)).map (fun g => (g, v.eng b g))

/-- INPUT_WIDTH of a carriage. -/
def State.inputWidth (v : State) (g : Nat) : Nat := ((v.carr g).map (fun r => r.inputWidth)).getD 0

/-! ### ING and STA (R121, R139) -/

def State.y0410 (v : State) : Option Nat :=
  firstBad ((v.carEngines .STA).map (fun x =>
    (decide (v.inputWidth x.1 < v.rf x.2 Reg.STA_ZONE_FIRST + v.rf x.2 Reg.STA_CTL_ZONES * v.rf x.2 Reg.STA_ZONE_WIDTH),
      Reg.STA_ZONE_FIRST.key x.2)))

def State.y0411 (v : State) : Option Nat :=
  firstBad ((v.carEngines .STA).map (fun x => (outOf 256 65536 (v.rf x.2 Reg.STA_BLOCK_BLOCK_LINES), Reg.STA_BLOCK_BLOCK_LINES.key x.2)))

def State.y0412 (v : State) : Option Nat :=
  firstBad ((v.carEngines .ING).map (fun x =>
    (decide (64 * v.rf x.2 Reg.ING_TRIG_MIN_NS ≤ v.rf x.2 Reg.ING_LATE_WINDOW_NS), Reg.ING_LATE_WINDOW_NS.key x.2)))

/-! ### WAY (R168) -/

/-- A field of encoder port p. -/
def State.wayF (v : State) (p : Nat) (f : Fld) : Nat := v.rf 0 (f.sh (0x100 * p))

/-- The key of a register of encoder port p. -/
def wayKey (p : Nat) (f : Fld) : Nat := (f.sh (0x100 * p)).key 0

def State.y0420 (v : State) : Option Nat :=
  firstBad ((List.range 4).flatMap (fun p =>
    [(v.wayF p Reg.WAY_CFG_TRIGGER == 1 && v.wayF p Reg.WAY_TRIG_PITCH_NM == 0, wayKey p Reg.WAY_TRIG_PITCH_NM),
     (v.wayF p Reg.WAY_CFG_TRIGGER == 2 && v.wayF p Reg.WAY_TRIG_RATE_MHZ == 0, wayKey p Reg.WAY_TRIG_RATE_MHZ)]))

def State.y0421 (v : State) : Option Nat :=
  firstBad ((List.range 4).map (fun p =>
    (decide (8 < v.wayF p Reg.WAY_CTL_SPEED_SHIFT) || v.wayF p Reg.WAY_CTL_STOP_MS == 0, wayKey p Reg.WAY_CTL_STOP_MS)))

def State.y0422 (v : State) : Option Nat :=
  firstBad [(v.wayF (v.rf 0 Reg.WAY_MASTER_PORT) Reg.WAY_CFG_MODE == 0, Reg.WAY_MASTER_PORT.key 0)]

/-- PERIOD_US against the clock periods and the timeout, both sides times CLOCK_KHZ. -/
def State.y0423 (v : State) : Option Nat :=
  firstBad ((List.range 4).map (fun p =>
    let us := v.wayF p Reg.WAY_ABS_CTL_PERIOD_US
    let khz := v.wayF p Reg.WAY_ABS_CFG_CLOCK_KHZ
    let bits := v.wayF p Reg.WAY_ABS_CFG_BITS + v.wayF p Reg.WAY_ABS_CFG_CRC_BITS + 1
    (us != 0 && (khz == 0 || decide (us * 1000 * khz < bits * 1000000 + v.wayF p Reg.WAY_ABS_TIMEOUT_NS * khz)), wayKey p Reg.WAY_ABS_CTL_PERIOD_US)))

/-- The phase is below the pitch, but on a port where neither is set (log 58). -/
def State.y0424 (v : State) : Option Nat :=
  firstBad ((List.range 4).map (fun p =>
    (decide (v.wayF p Reg.WAY_TRIG_PITCH_NM ≤ v.wayF p Reg.WAY_TRIG_PHASE_NM) && v.wayF p Reg.WAY_TRIG_PITCH_NM + v.wayF p Reg.WAY_TRIG_PHASE_NM != 0,
      wayKey p Reg.WAY_TRIG_PHASE_NM)))

/-! ### TRU and RGA (R200) -/

/-- Whether SEL of a loader's engine names a bank that is not VALID. -/
def State.selBad (v : State) (rga : Bool) (i : Nat) : Bool :=
  let r := loaderRegs rga
  v.rf i (r.validOf (v.rf i r.sel)) == 0

def State.y0430 (v : State) : Option Nat :=
  firstBad ((v.carEngines .TRU).map (fun x => (v.selBad false x.2, Reg.TRU_BANK_SEL.key x.2)))

def State.y0431 (v : State) : Option Nat :=
  firstBad ((v.carEngines .TRU).flatMap (fun x => (List.range (v.rf x.2 Reg.TRU_CFG_PLANES)).map (fun p =>
    (decide (v.rf x.2 (Reg.TRU_CURVE_B0_B2.sh (16 * p)) < v.rf x.2 (Reg.TRU_CURVE_B0_B1.sh (16 * p))),
      (Reg.TRU_CURVE_B0_B1.sh (16 * p)).key x.2))))

def State.y0432 (v : State) : Option Nat :=
  firstBad ((v.carEngines .TRU).flatMap (fun x =>
    let n := v.rf x.2 Reg.TRU_REF_COLUMNS
    [(outOf 16 1024 n || decide (v.inputWidth x.1 < v.rf x.2 Reg.TRU_REF_FIRST + n), Reg.TRU_REF_FIRST.key x.2),
     (outOf 256 65536 (v.rf x.2 Reg.TRU_REF_CTL_LINES), Reg.TRU_REF_CTL_LINES.key x.2)]))

def State.y0440 (v : State) : Option Nat :=
  firstBad ((v.carEngines .RGA).map (fun x => (v.selBad true x.2, Reg.RGA_BANK_SEL.key x.2)))

def State.y0441 (v : State) : Option Nat :=
  firstBad ((v.carEngines .RGA).map (fun x =>
    let top := ((v.inputWidth x.1 : Int) - 1) * 2 ^ 32
    ((v.sources x.1).any (fun p => decide (p < 0) || decide (top < p)), Reg.RGA_CD_START_LO_FRAC.key x.2)))

def State.y0442 (v : State) : Option Nat :=
  firstBad ((v.carEngines .RGA).map (fun x =>
    (outOf 1 v.gridMd (v.rf x.2 Reg.RGA_MD_CTL_MIN_STEP_NM), Reg.RGA_MD_CTL_MIN_STEP_NM.key x.2)))

/-! ### CPL and SPR (R226) -/

/-- A field of the seam unit whose low carriage is g. -/
def State.seamF (v : State) (g : Nat) (f : Fld) : Nat := v.rf (seamInst g) (f.sh (seamOff g))

/-- The key of a register of the seam unit whose low carriage is g. -/
def seamKey (g : Nat) (f : Fld) : Nat := (f.sh (seamOff g)).key (seamInst g)

/-- The seam support of R73: twice it, since half a ramp may be odd. -/
def State.seamSupport2 (v : State) (g : Nat) : Nat :=
  let contrast := [g, g + 1].any (fun k => v.hasEng .SEG k && v.rb (v.eng .SEG k) Reg.SEG_CTL_CONTRAST_EN)
  v.seamF g Reg.CPL_BLEND_RAMP + 2 * ((if v.seamF g Reg.CPL_BLEND_PATH = 1 then 64 else 0) + (if contrast then 15 else 0) + 4)

def State.y0450 (v : State) : Option Nat :=
  firstBad (v.joinedSeams.flatMap (fun g =>
    let ramp := v.seamF g Reg.CPL_BLEND_RAMP
    let fixed := sgn 8 (v.seamF g Reg.CPL_BLEND_FIXED)
    [(ramp % 2 == 1 || decide (256 < ramp) || decide (fixed < -64) || decide (64 < fixed), seamKey g Reg.CPL_BLEND_RAMP),
     (outOf 1 8 (v.seamF g Reg.CPL_PATH_STEP), seamKey g Reg.CPL_PATH_STEP),
     (v.seamF g Reg.CPL_WAIT_LINES == 0, seamKey g Reg.CPL_WAIT_LINES)]))

def State.y0451 (v : State) : Option Nat :=
  firstBad (v.joinedSeams.map (fun g => (decide (2 * v.seamF g Reg.CPL_CFG_OVERLAP < v.seamSupport2 g), seamKey g Reg.CPL_BLEND_RAMP)))

def State.y0452 (v : State) : Option Nat :=
  firstBad (v.joinedSeams.map (fun g =>
    let half := v.seamF g Reg.CPL_REG_CTL_HALF
    (decide (half < 8) || decide (v.seamF g Reg.CPL_CFG_OVERLAP < half + 9) || outOf 256 65536 (v.seamF g Reg.CPL_REG_CTL_LINES),
      seamKey g Reg.CPL_REG_CTL_HALF)))

def State.y0460 (v : State) : Option Nat :=
  firstBad ((v.carEngines .SPR).flatMap (fun x =>
    [(outOf 1 20 (v.rf x.2 Reg.SPR_CTL_TC_SHIFT), Reg.SPR_CTL_TC_SHIFT.key x.2),
     (outOf 1 4096 (v.rf x.2 Reg.SPR_BASE_ACQ_LINES), Reg.SPR_BASE_ACQ_LINES.key x.2)]))

/-- The coefficients of a smoothing filter: N = TAPS + 1 of them. -/
def State.smoothCoefs (v : State) (i : Nat) : List Int :=
  (List.range (v.rf i Reg.SPR_CTL_TAPS + 1)).map (fun t => sgn 16 (v.rf i (Reg.SPR_COEF_C.sh (4 * t))))

/-- SMOOTH 3 names no setting and breaks the rule. -/
def State.y0461 (v : State) : Option Nat :=
  firstBad ((v.carEngines .SPR).map (fun x =>
    let mode := v.rf x.2 Reg.SPR_CTL_SMOOTH
    let c := v.smoothCoefs x.2
    (mode == 3 || (mode == 1 && (c.length % 2 == 0 || outOf 3 15 c.length)) || (mode == 2 && outOf 2 16 c.length) ||
      (mode != 0 && c.sum != 16384), Reg.SPR_CTL_SMOOTH.key x.2)))

def State.y0462 (v : State) : Option Nat :=
  firstBad ((v.carEngines .SPR).map (fun x =>
    (v.rf x.2 Reg.SPR_CTL_SMOOTH == 1 && v.smoothCoefs x.2 != (v.smoothCoefs x.2).reverse, Reg.SPR_CTL_SMOOTH.key x.2)))

def State.y0463 (v : State) : Option Nat :=
  firstBad ((v.carEngines .SPR).map (fun x =>
    (v.rf x.2 Reg.SPR_CTL_SMOOTH == 2 && v.rf x.2 Reg.SPR_CFG_FAST_LANE == 0, Reg.SPR_CTL_SMOOTH.key x.2)))

/-! ### SEG, LBL, DBM and PAT (R268) -/

/-- A field of class k of a SEG. -/
def State.classF (v : State) (i k : Nat) (f : Fld) : Nat := v.rf i (f.sh (4 * k))

def State.y0470 (v : State) : Option Nat :=
  firstBad ((v.carEngines .SEG).flatMap (fun x => (List.range 4).map (fun k =>
    let lo := v.classF x.2 k Reg.SEG_THR_LOW
    (v.classF x.2 k Reg.SEG_CLASS_ENABLE == 1 && (lo == 0 || decide (v.classF x.2 k Reg.SEG_THR_HIGH < lo)),
      (Reg.SEG_THR_LOW.sh (4 * k)).key x.2))))

def State.y0471 (v : State) : Option Nat :=
  firstBad ((v.carEngines .SEG).flatMap (fun x => (List.range 4).map (fun k =>
    (v.rf x.2 Reg.SEG_CTL_CONTRAST_EN == 0 && v.classF x.2 k Reg.SEG_CLASS_CONTRAST == 1, (Reg.SEG_CLASS_CONTRAST.sh (4 * k)).key x.2))))

def State.y0480 (v : State) : Option Nat :=
  firstBad ((v.carEngines .LBL).map (fun x => (outOf 1 16 (v.rf x.2 Reg.LBL_CTL_CLOSE_K), Reg.LBL_CTL_CLOSE_K.key x.2)))

def State.y0490 (v : State) : Option Nat :=
  firstBad ((v.windows .DBM).flatMap (fun i =>
    let n := v.rf i Reg.DBM_CONT_LINES
    [(outOf 4096 65536 n || 65536 % Nat.max 1 n != 0, Reg.DBM_CONT_LINES.key i),
     (outOf 256 65536 (v.rf i Reg.DBM_SUMMARY_LINES), Reg.DBM_SUMMARY_LINES.key i),
     (outOf 256 65536 (v.rf i Reg.DBM_LAG_LINES), Reg.DBM_LAG_LINES.key i)]))

/-- UNIT is 4 bits wide, so it always names a compare unit. -/
def State.y0492 (v : State) : Option Nat :=
  firstBad ((v.windows .DBM).flatMap (fun i => (List.range 16).map (fun r =>
    (v.rf i (Reg.DBM_MARK_CTL_ENABLE.sh (16 * r)) == 1 &&
      decide (v.rf i (Reg.DBM_MARK_COLS_LAST.sh (16 * r)) < v.rf i (Reg.DBM_MARK_COLS_FIRST.sh (16 * r))),
      (Reg.DBM_MARK_COLS_FIRST.sh (16 * r)).key i))))

/-- MARGIN is 8 bits wide. -/
def State.y04a0 (v : State) : Option Nat :=
  firstBad ((v.windows .PAT).map (fun i => (decide (255 < v.rf i Reg.PAT_CTL_MARGIN), Reg.PAT_CTL_MARGIN.key i)))

/-! ### PMT and PVW (R296), and the DRAM budget of R312 and R313 -/

/-- U of a channel, bytes/s (R312). -/
def State.usable (v : State) (ch : Nat) : Nat :=
  match v.hw.dimms.find? (fun d => d.1 == ch) with
  | none => 0
  | some d =>
    if d.2.speed = 3 then 35600000000 else if d.2.speed = 2 then 31100000000
    else if d.2.count = 2 then 25300000000 else 26700000000

/-- A channel's budgeted traffic, times 16 × 720,720 so that an even share over up to 16 channels is whole. -/
def State.channelTraffic (v : State) (ch : Nat) : Nat :=
  (v.dramRecs.map (fun r =>
    let l := chanList r.channels
    if l.contains ch then v.partTraffic16 r * (720720 / Nat.max 1 l.length) else 0)).sum

/-- Whether a channel's budgeted traffic is more than 0.80 × U (R313). -/
def State.overBudget (v : State) (ch : Nat) : Bool := decide (4 * v.usable ch * 16 * 720720 < 5 * v.channelTraffic ch)

def State.y04b0 (v : State) : Option Nat :=
  firstBad ((v.windows .PMT).flatMap (fun i => (List.range 4).map (fun k =>
    let g := v.rf i (Reg.PMT_ARC_CFG_CARRIAGE.sh (0x40 * k))
    let chans := (v.dramRecs.filter (fun r => r.kind == 2 && r.carriage == g)).flatMap (fun r => chanList r.channels)
    (g != 0xFF && chans.any v.overBudget, (Reg.PMT_ARC_CTL_BUDGET.sh (0x40 * k)).key i))))

def State.y04c0 (v : State) : Option Nat :=
  firstBad (v.pvwWins.flatMap (fun i =>
    [(outOf 1 64 (v.rf i Reg.PVW_CTL_ROWS) || outOf 1 60 (v.rf i Reg.PVW_CTL_RATE), Reg.PVW_CTL_ROWS.key i),
     (outOf 256 16384 (v.rf i Reg.PVW_SCALE_CD) || outOf 256 16384 (v.rf i Reg.PVW_SCALE_MD), Reg.PVW_SCALE_CD.key i),
     (decide (v.rf i Reg.PVW_LAST_COLUMN < v.rf i Reg.PVW_FIRST_COLUMN), Reg.PVW_FIRST_COLUMN.key i),
     (decide (v.head.totalColumns ≤ v.rf i Reg.PVW_LAST_COLUMN), Reg.PVW_LAST_COLUMN.key i),
     (outOf 1 140 (v.rf i Reg.PVW_NET_LANE_PAYLOAD), Reg.PVW_NET_LANE_PAYLOAD.key i)]))

/-- The settings that every enabled PVW of one view shares. -/
def State.viewSettings (v : State) (i : Nat) : List Nat :=
  [v.rf i Reg.PVW_SCALE_CD, v.rf i Reg.PVW_SCALE_MD, v.rf i Reg.PVW_FIRST_COLUMN, v.rf i Reg.PVW_LAST_COLUMN, v.rf i Reg.PVW_CTL_ROWS,
   v.rf i Reg.PVW_CTL_RATE, v.rf i Reg.PVW_MAP_BLACK, v.rf i Reg.PVW_MAP_GAIN]

/-- The live carriages that own columns of window i's view. -/
def State.viewCars (v : State) (i : Nat) : List CarrRec :=
  (v.carriages.filterMap (fun g => v.carr g)).filter (fun c => c.role == 1 &&
    decide (c.firstCol ≤ v.rf i Reg.PVW_LAST_COLUMN) && decide (v.rf i Reg.PVW_FIRST_COLUMN < c.firstCol + c.owned))

def State.y04c1 (v : State) : Option Nat :=
  let on := v.pvwWins.filter (fun i => v.rb i Reg.PVW_CTL_ENABLE)
  firstBad (on.map (fun i =>
    let same := on.filter (fun j => v.rf j Reg.PVW_CTL_VIEW == v.rf i Reg.PVW_CTL_VIEW)
    let cars := v.viewCars i
    (same.any (fun j => v.viewSettings j != v.viewSettings i) ||
      cars.any (fun c => cars.any (fun d => c.planes != d.planes)) ||
      cars.any (fun c => !(same.any (fun j => j / 32 == c.carriage / 6))), Reg.PVW_CTL_VIEW.key i)))

/-! ### DMC (R326) -/

def State.y04d0 (v : State) : Option Nat :=
  firstBad ((v.windows .DMC).map (fun i =>
    (outOf 256 65535 (v.rf i Reg.DMC_CURB_CTL_THRESHOLD) || outOf 10 10000 (v.rf i Reg.DMC_CURB_CTL_DELAY), Reg.DMC_CURB_CTL_THRESHOLD.key i)))

def State.y04d1 (v : State) : Option Nat :=
  firstBad ((v.windows .DMC).flatMap (fun i =>
    [(v.rf i Reg.DMC_REF_BUSY == 0, Reg.DMC_REF_BUSY.key i), (decide (168 < v.rf i Reg.DMC_SCRUB_HOURS), Reg.DMC_SCRUB_HOURS.key i)]))

/-! ### WHT and DRY (R353) -/

/-- The units at which a fabric requester is eligible (R345). -/
def fabricUnits (n : Nat) : List Nat :=
  if n = 0 ∨ n = 2 ∨ n = 3 ∨ n = 9 then [0, 1, 7, 8]
  else if 4 ≤ n ∧ n ≤ 8 then [0, 1]
  else if 10 ≤ n ∧ n ≤ 14 then [2, 3, 4, 5]
  else if 16 ≤ n ∧ n ≤ 31 then [6] else []

/-- Whether a requester is eligible at unit u of coach c: a fabric requester, or a PMT or PAT of the coach at its DDR5 channels (R345). -/
def State.eligible (v : State) (c u r : Nat) : Bool :=
  if 0xF000 ≤ r then (fabricUnits (r - 0xF000)).contains u
  else decide (u < 2) && v.dir.any (fun e => e.engn == r && e.coach == c && (e.typ == Blk.PMT.typeCode || e.typ == Blk.PAT.typeCode))

/-- The inputs of a unit that hold a requester of the map, fixed inputs left out. -/
def State.mapped_ (v : State) (i : Nat) : List Nat :=
  (List.range 16).filter (fun n => !(n == 15 && whtFixed (i % 32)) && v.whtRequester i n != 0xFFFF)

def State.y04e0 (v : State) : Option Nat :=
  firstBad ((v.windows .WHT).flatMap (fun i => (v.mapped_ i).map (fun n =>
    let r := v.whtRequester i n
    (!(v.eligible (i / 32) (i % 32) r) || (v.mapped_ i).any (fun k => k != n && v.whtRequester i k == r),
      (Reg.WHT_IN_REQUESTER.sh (4 * n)).key i))))

def State.y04e1 (v : State) : Option Nat :=
  firstBad ((v.windows .WHT).flatMap (fun i => (v.mapped_ i).map (fun n =>
    (outOf 1 4096 (v.whtBurst i n), (Reg.WHT_IN_BURST_MAX.sh (4 * n)).key i))))

/-- A fixed input has no record and takes no staged value: a commit that holds one breaks the rule. -/
def State.y04e3 (v : State) (taken : List Nat) : Option Nat :=
  firstBad ((v.windows .WHT).map (fun i =>
    let k := (Reg.WHT_IN_REQUESTER.sh 60).key i
    (whtFixed (i % 32) && taken.contains k, k)))

/-- The lanes that are staged are tested. -/
def State.y04e4 (v : State) (taken : List Nat) : Option Nat :=
  firstBad ((v.windows .DRY).flatMap (fun i => (List.range 32).map (fun n =>
    let k := (Reg.DRY_CH_LANE_LANE.sh (0x40 * n)).key i
    let u := unitOf (i / 32) 6
    let r := 0xF010 + v.rf i (Reg.DRY_CH_LANE_LANE.sh (0x40 * n))
    (taken.contains k && !((v.mapped_ u).any (fun m => v.whtRequester u m == r)), k))))

/-! ### REI and BKL (R353, R363 to R368) -/

/-- The coaches that have a REI window. -/
def State.reinCoaches (v : State) : List Nat := (List.range v.hw.coaches).filter (fun c => v.hasUnit .REI (unitOf c 0))

/-- The CFG register of a channel of coach c: a trunk channel's is in C0. -/
def chanFld (c n : Nat) (f : Fld) : Nat × Fld := if n < 64 then (unitOf c 0, f.sh (8 * n)) else (0, f.sh (0x200 + 8 * (n - 64)))

/-- The owner of a channel. -/
def State.chanOwner (v : State) (c n : Nat) : Nat := v.rf (chanFld c n Reg.REI_CH_CFG_OWNER).1 (chanFld c n Reg.REI_CH_CFG_OWNER).2

/-- Whether a channel is secure. -/
def State.chanSecure (v : State) (c n : Nat) : Bool := v.rb (chanFld c n Reg.REI_CH_CFG_SECURE).1 (chanFld c n Reg.REI_CH_CFG_SECURE).2

/-- RATE_LIMIT of a channel. -/
def State.chanRate (v : State) (c n : Nat) : Nat := v.rf (chanFld c n Reg.REI_CH_CFG_RATE_LIMIT).1 (chanFld c n Reg.REI_CH_CFG_RATE_LIMIT).2

/-- The enabled Buckles of coach c. -/
def State.bucklesOn (v : State) (c : Nat) : List Nat :=
  (List.range 32).filter (fun b => v.rb (unitOf c 0) (Reg.BKL_OUT_ENABLE.sh (16 * b)))

/-- The input channels of a Buckle that are in use. -/
def State.buckleIns (v : State) (c b : Nat) : List Nat :=
  let w := v.rf (unitOf c 0) (Reg.BKL_IN_IN.sh (16 * b))
  ((List.range 4).map (fun k => w / 256 ^ k % 256)).filter (fun n => n != 0xFF)

/-- The output channel of a Buckle. -/
def State.buckleOut (v : State) (c b : Nat) : Nat := v.rf (unitOf c 0) (Reg.BKL_OUT_CHANNEL.sh (16 * b))

/-- The enabled source bindings of coach c. -/
def State.sourcesOn (v : State) (c : Nat) : List Nat := (List.range 256).filter (fun k => v.rb (unitOf c 0) (Reg.REI_SRC_ENABLE.sh (4 * k)))

/-- The enabled sink bindings of coach c. -/
def State.sinksOn (v : State) (c : Nat) : List Nat := (List.range 256).filter (fun k => v.rb (unitOf c 0) (Reg.REI_SNK_ENABLE.sh (4 * k)))

/-- A field of a source or sink binding. -/
def State.bindF (v : State) (c k : Nat) (f : Fld) : Nat := v.rf (unitOf c 0) (f.sh (4 * k))

/-- The receiver of a mailbox. -/
def State.receiver (v : State) (m : Nat) : Nat := v.rf 0 (Reg.PST_CFG_RECEIVER.sh (0x100 * m))

/-- The edges that Buckles without a flip-flop put between channels. -/
def State.plainEdges (v : State) (c : Nat) : List (Nat × Nat × Nat) :=
  ((v.bucklesOn c).filter (fun b => !v.rb (unitOf c 0) (Reg.BKL_CFG_FF.sh (16 * b)))).flatMap
    (fun b => (v.buckleIns c b).map (fun n => (n, v.buckleOut c b, b)))

def State.y04f0 (v : State) : Option Nat :=
  firstBad (v.reinCoaches.map (fun c =>
    match loopEdges 64 (v.plainEdges c) with
    | [] => (false, 0)
    | e :: _ => (true, (Reg.BKL_CFG_LUT.sh (16 * e.2.2)).key (unitOf c 0))))

def State.y04f1 (v : State) : Option Nat :=
  firstBad (v.reinCoaches.flatMap (fun c =>
    let open_ := fun (n : Nat) => !secureMaster (v.chanOwner c n)
    (v.sourcesOn c).map (fun k =>
      (secureSource v.receiver (v.bindF c k Reg.REI_SRC_SOURCE) (v.bindF c k Reg.REI_SRC_EVENT) && open_ (v.bindF c k Reg.REI_SRC_CHANNEL),
        (Reg.REI_SRC_SOURCE.sh (4 * k)).key (unitOf c 0))) ++
    (v.sinksOn c).map (fun k =>
      (secureSink (v.bindF c k Reg.REI_SNK_SINK) && open_ (v.bindF c k Reg.REI_SNK_CHANNEL), (Reg.REI_SNK_SINK.sh (4 * k)).key (unitOf c 0))) ++
    (v.bucklesOn c).map (fun b =>
      (open_ (v.buckleOut c b) && (v.buckleIns c b).any (fun n => v.chanSecure c n), (Reg.BKL_IN_IN.sh (16 * b)).key (unitOf c 0)))))

/-- Whether a source binding's source exists (R357). -/
def State.sourceExists (v : State) (c src ev : Nat) : Bool :=
  if 0xF000 ≤ src then fabricEvent c src ev
  else v.dir.any (fun e => e.engn == src && e.coach == c && (match blkOfType e.typ with
    | some b => stageEvent b ev
    | none => false))

/-- Whether a sink binding's task input exists (R359). -/
def State.sinkExists (v : State) (c snk task : Nat) : Bool :=
  if 0xF000 ≤ snk then fabricTask c snk task
  else v.dir.any (fun e => e.engn == snk && e.coach == c && (match blkOfType e.typ with
    | some b => stageTask b task
    | none => false))

/-- Whether a channel is in use: it has an owner, or an enabled binding or Buckle names it. -/
def State.chanUsed (v : State) (c n : Nat) : Bool :=
  v.chanOwner c n != 0 || (v.sourcesOn c).any (fun k => v.bindF c k Reg.REI_SRC_CHANNEL == n) ||
  (v.sinksOn c).any (fun k => v.bindF c k Reg.REI_SNK_CHANNEL == n) || (v.bucklesOn c).any (fun b => v.buckleOut c b == n)

def State.y04f2 (v : State) : Option Nat :=
  firstBad (v.reinCoaches.flatMap (fun c =>
    (List.range (if c = 0 then 96 else 64)).map (fun n =>
      let r := v.chanRate c n
      (decide (1000 < r) || (r == 0 && v.chanUsed c n), (chanFld c n Reg.REI_CH_CFG_RATE_LIMIT).2.key (chanFld c n Reg.REI_CH_CFG_RATE_LIMIT).1)) ++
    (v.sourcesOn c).map (fun k =>
      (!(v.sourceExists c (v.bindF c k Reg.REI_SRC_SOURCE) (v.bindF c k Reg.REI_SRC_EVENT)) || decide (95 < v.bindF c k Reg.REI_SRC_CHANNEL),
        (Reg.REI_SRC_SOURCE.sh (4 * k)).key (unitOf c 0))) ++
    (v.sinksOn c).map (fun k =>
      (!(v.sinkExists c (v.bindF c k Reg.REI_SNK_SINK) (v.bindF c k Reg.REI_SNK_TASK)) || decide (95 < v.bindF c k Reg.REI_SNK_CHANNEL),
        (Reg.REI_SNK_SINK.sh (4 * k)).key (unitOf c 0))) ++
    (List.range 32).map (fun b =>
      let f := v.rf (unitOf c 0) (Reg.BKL_CFG_FILTER.sh (16 * b))
      (decide (4 < f) || (f == 1 && v.rf (unitOf c 0) (Reg.BKL_CFG_GLITCH.sh (16 * b)) == 0), (Reg.BKL_CFG_LUT.sh (16 * b)).key (unitOf c 0)))))

/-! ### The rules together -/

/-- The rule that blocks outside carriages are staged in package scope only, as a carriage-scope request meets it: the first register of its
requester in such a block, for seam units only those that serve the carriage. -/
def scopeRule (mine : List Nat) (scope : Option Nat) (bs : List Blk) : Option Nat :=
  match scope with
  | none => none
  | some g =>
    mine.find? (fun k => bs.contains (keyBlk k) &&
      (keyBlk k != .CPL || (let low := seamLow (keyInst k) (keyOff k / 0x100); low == g || low + 1 == g)))

/-- Every block rule in ascending Y-code order over a state that holds the values to be tested: `taken` are the registers that the commit
takes, `mine` those its requester staged. -/
def State.yRules (v : State) (taken mine : List Nat) (scope : Option Nat) : List (Nat × Option Nat) :=
  [(0x0410, v.y0410), (0x0411, v.y0411), (0x0412, v.y0412), (0x0420, v.y0420), (0x0421, v.y0421), (0x0422, v.y0422), (0x0423, v.y0423),
   (0x0424, v.y0424), (0x0430, v.y0430), (0x0431, v.y0431), (0x0432, v.y0432), (0x0440, v.y0440), (0x0441, v.y0441), (0x0442, v.y0442),
   (0x0450, v.y0450), (0x0451, v.y0451), (0x0452, v.y0452), (0x0453, scopeRule mine scope [.CPL]), (0x0460, v.y0460), (0x0461, v.y0461),
   (0x0462, v.y0462), (0x0463, v.y0463), (0x0470, v.y0470), (0x0471, v.y0471), (0x0480, v.y0480), (0x0490, v.y0490),
   (0x0491, scopeRule mine scope [.DBM]), (0x0492, v.y0492), (0x04A0, v.y04a0), (0x04B0, v.y04b0), (0x04C0, v.y04c0), (0x04C1, v.y04c1),
   (0x04C2, scopeRule mine scope [.PVW]), (0x04D0, v.y04d0), (0x04D1, v.y04d1), (0x04D2, scopeRule mine scope [.DMC]), (0x04E0, v.y04e0),
   (0x04E1, v.y04e1), (0x04E2, scopeRule mine scope [.WHT, .DRY]), (0x04E3, v.y04e3 taken), (0x04E4, v.y04e4 taken), (0x04F0, v.y04f0),
   (0x04F1, v.y04f1), (0x04F2, v.y04f2), (0x04F3, scopeRule mine scope [.REI, .BKL])]

/-- The first rule that fails: its code and the register it names. -/
def firstRule : List (Nat × Option Nat) → Option (Nat × Nat)
  | [] => none
  | (c, some k) :: _ => some (c, k)
  | (_, none) :: t => firstRule t

/-- The check (R406 step 2). -/
def State.yCheck (v : State) (taken mine : List Nat) (scope : Option Nat) : Option (Nat × Nat) := firstRule (v.yRules taken mine scope)

end Sys2Proof.Machine
end

