-- ==== Sys2Proof/Machine/Yoke.lean ====
section
/-! DEFINITION. The Yoke's commits (R404 to R413): request, check, release, cancel and discard, and the same on the other part of a pair. -/

namespace Sys2Proof.Machine

/-! ### Scopes (R404, R405) -/

/-- Whether a commit of a scope covers a register: in carriage scope those of engines whose directory CARRIAGE it is, in package scope all but
those of replay carriages. -/
def State.inScope (s : State) (carriage : Option Nat) (k : Nat) : Bool :=
  let g := s.carriageAt (keyBlk k) (keyInst k)
  match carriage with
  | some c => g == c
  | none => !(s.isReplay g)

/-- Every register with RWS fields of a block's window. -/
def rwsKeys (b : Blk) (i : Nat) : List Nat :=
  ((Reg.table b).filter (fun d => d.hasRws)).flatMap (fun d =>
    (List.range d.gcnt).flatMap (fun j => (List.range d.cnt).map (fun n => regKey b i (d.off + j * d.gstride + n * d.stride))))

/-- Every register with RWS fields of the part. -/
def State.allRws (s : State) : List Nat :=
  rwsKeys .WAY 0 ++ s.dir.flatMap (fun e => match blkOfType e.typ with
    | some b => rwsKeys b (unitOf e.coach e.inst)
    | none => [])

/-- The Y-domain reset value of a register (R58). -/
def State.yReset (s : State) (k : Nat) : Word := (cget s.ydef k).getD (resetWord (keyBlk k) (keyOff k))

/-- A fixed Whiffletree input cannot be restaged (R344). -/
def fixedInput (k : Nat) : Bool := keyBlk k == .WHT && keyOff k == 0x7C && whtFixed (keyInst k % 32)

/-- The frozen values of a commit: the registers of the scope whose stager is its master (R404), or with DEFAULTS every one at its Y-domain
reset value (R411). -/
def State.yokeTaken (s : State) (m : Nat) (carriage : Option Nat) (defaults : Bool) : List (Nat × Word) :=
  if defaults then (s.allRws.filter (fun k => s.inScope carriage k && !fixedInput k)).map (fun k => (k, s.yReset k))
  else ((s.stager.filter (fun e => e.2 == m && s.inScope carriage e.1)).map (fun e => e.1)).map
    (fun k => (k, s.stagedWord (keyBlk k) (keyInst k) (keyOff k)))

/-! ### Failures (R406) -/

/-- A commit or request fails: code, FAIL, and the Rein event for one refused or failed at its check (R357). -/
def State.yokeFail (s : State) (m d loc value : Nat) : State := ((s.ycode m d loc value).ev m Reg.YOK_STATUS_FAIL).reinRaise 0 0xF015 1 1

/-- Drop a commit and what it armed. -/
def State.yokeDrop (s : State) (seq : Nat) : State :=
  { s with yoke := { s.yoke with
      commits := s.yoke.commits.filter (fun c => c.seq != seq), armed := s.yoke.armed.filter (fun a => a.seq != seq || a.released) } }

/-- Every commit of every scope ends with Y-0006, and every staged value and stager mark clears (R71, R410). -/
def State.yokeCancelAll (s : State) : State :=
  let s1 := s.yoke.commits.foldl (fun (t : State) c =>
    if c.master = 0 then t else ((t.ycode c.master 0x0006 0 0).ev c.master Reg.YOK_STATUS_FAIL).yokeState c.master c.seq 0) s
  { s1 with yoke := { s1.yoke with commits := [], armed := [] }, staged := [], stager := [] }

/-! ### Request (R406 step 1) -/

/-- Whether an enabled binding reaches the Yoke sink (R359). -/
def State.yokeBound (s : State) : Bool :=
  (s.sinksOn 0).any (fun k => s.bindF 0 k Reg.REI_SNK_SINK == 0xF015 && s.bindF 0 k Reg.REI_SNK_TASK == 0)

/-- The request tests. -/
def State.yokeTests (s : State) (carriage : Option Nat) (kind : Nat) : Option Nat :=
  if s.scopeState carriage ≠ 0 then some 0x0001
  else if kind = 1 ∧ carriage = none then some 0x0004
  else if (match carriage with
    | some g => !(s.dir.any (fun e => e.carriage == g))
    | none => false) then some 0x0005
  else if kind = 4 ∧ !s.yokeBound then some 0x0012
  else if s.rb 0 Reg.PAI_CFG_PRESENT ∧ s.rf 0 Reg.PAI_STATUS_LANES_UP = 0 then some 0x0021
  else if s.standby then some 0x0022
  else none

/-- The scope that YOK_CTL of a master names. -/
def State.yokeScope (s : State) (m : Nat) : Option Nat :=
  if s.rb m Reg.YOK_CTL_SCOPE then some (s.rf m Reg.YOK_CTL_CARRIAGE) else none

/-- Put a commit in, checking. -/
def State.yokeEnter (s : State) (m : Nat) (carriage : Option Nat) (kind instant : Nat) (defaults checkOnly : Bool) : State :=
  let vals := s.yokeTaken m carriage defaults
  let n := s.yoke.nextSeq
  let c : Commit := ⟨m, carriage, kind, instant, defaults, checkOnly, false, false, 0, n, vals⟩
  let s1 := if defaults then
    { s with
      staged := vals.foldl (fun l e => cset l e.1 e.2) s.staged
      stager := vals.foldl (fun l e => cset l e.1 m) s.stager } else s
  (({ s1 with yoke := { s1.yoke with
    commits := s1.yoke.commits ++ [c], nextSeq := n + 1, latest := cset s1.yoke.latest m n } } : State).wf m Reg.YOK_STATUS_STATE 1)

/-- REQUEST. -/
def State.actYokeRequest (s : State) (m : Nat) : State :=
  let scope := s.yokeScope m
  let kind := s.rf m Reg.YOK_CTL_KIND
  match s.yokeTests scope kind with
  | some d => s.yokeFail m d 0 0
  | none => s.yokeEnter m scope kind (s.rf64 m Reg.YOK_AT_LO_AT) (s.rb m Reg.YOK_CTL_DEFAULTS) (s.rb m Reg.YOK_CTL_CHECK_ONLY)

/-- Daxpamen, for the Wheelwright, stages a field; a frozen register keeps its value (R406). -/
def State.wwtStage (s : State) (i : Nat) (f : Fld) (v : Nat) : State :=
  if s.frozen (f.key i) then s.ycode mWwt 0x0003 (s.offsetOf (f.key i)) v
  else { s.wsf i f v with stager := cset s.stager (f.key i) mWwt }

/-- The Wheelwright requests a commit. -/
def State.wwtRequestCommit (s : State) (carriage : Option Nat) (kind instant : Nat) : State :=
  match s.yokeTests carriage kind with
  | some d =>
    let s1 := s.yokeFail mWwt d 0 0
    let ks := ((s1.stager.filter (fun e => e.2 == mWwt && s1.inScope carriage e.1)).map (fun e => e.1)).filter (fun k => !s1.frozen k)
    ({ s1 with staged := s1.staged.filter (fun e => !ks.contains e.1), stager := s1.stager.filter (fun e => !ks.contains e.1) } : State).wwtCommitted
      carriage false
  | none => s.yokeEnter mWwt carriage kind instant false false

/-- YOKE_REQUEST: master m writes w to YOK_CTL with REQUEST set. -/
def execYokeRequest (m : Nat) (w : Word) (s : State) : Host.Outcome State Fault Refusal :=
  .next (s.regAct m m Reg.YOK_CTL_REQUEST w (fun t => t.actYokeRequest m))

/-! ### Check (R406 steps 2 and 3) -/

/-- The state that the rules of a check read: every register at the value it holds once every commit pending before this one has applied, those
of this commit at their frozen values. -/
def State.yokeView (s : State) (seq : Nat) (vals : List (Nat × Word)) : State :=
  let armed := (s.yoke.armed.filter (fun a => a.released)).flatMap (fun a => a.values)
  let before := (s.yoke.commits.filter (fun c => c.pending && c.seq != seq)).flatMap (fun c => c.values)
  ((s.takeValues armed).takeValues before).takeValues vals

/-- The registers that a commit stages, as the rules about staged registers read them: with DEFAULTS, those of the image's records. -/
def State.yokeStages (s : State) (c : Commit) : List Nat :=
  let ks := c.values.map (fun e => e.1)
  if c.defaults then ks.filter (fun k => (cget s.ydef k).isSome) else ks

/-- The first rule that a commit breaks: code and register. -/
def State.yokeBreaks (s : State) (c : Commit) : Option (Nat × Nat) :=
  (s.yokeView c.seq c.values).yCheck (s.yokeStages c) ((s.stager.filter (fun e => e.2 == c.master)).map (fun e => e.1)) c.carriage

/-- The carriages whose parsers a scope covers. -/
def State.scopeIngs (s : State) (carriage : Option Nat) : List Nat :=
  ((match carriage with
    | some g => [g]
    | none => s.carriages)).filter (fun g => s.hasEng .ING g)

/-- Y-0002: the instant had passed when the check ended (R407). A KIND of 5 to 7 names no instant that could come. -/
def State.yokePassed (s : State) (c : Commit) : Bool :=
  let tags := (s.scopeIngs c.carriage).filterMap (fun g => (s.ingOf g).tagged)
  match c.kind with
  | 0 => decide ((c.instant : Int) ≤ s.webNm) || tags.any (fun t => decide ((c.instant : Int) ≤ t.1))
  | 1 => (s.scopeIngs c.carriage).any (fun g => decide (c.instant < (s.ingOf g).next))
  | 2 => decide (c.instant < s.now + 10000) || tags.any (fun t => decide ((c.instant : Int) ≤ t.2))
  | 3 => false
  | 4 => false
  | _ => true

/-- Arm the engines of each carriage with the values that wait for their lines (R408): those of package commits stand first (R410). -/
def State.yokeArm (s : State) (c : Commit) (pos : Option Int) : State :=
  let ins := c.values.filter (fun e => !s.outside e.1)
  let cars := (ins.map (fun e => s.keyCar e.1)).eraseDups
  let news := cars.map (fun g => (⟨g, c.seq, c.carriage.isNone, c.kind, false, pos, none, ins.filter (fun e => s.keyCar e.1 == g)⟩ : Armed))
  let old := s.yoke.armed
  { s with yoke := { s.yoke with
    armed := if c.carriage.isNone then old.filter (fun a => a.package) ++ news ++ old.filter (fun a => !a.package) else old ++ news } }

/-- A commit that passed its checks becomes pending; KIND 3 releases it at once. -/
def State.yokePend (s : State) (c : Commit) : State :=
  let s1 := (({ s with yoke := { s.yoke with
    commits := s.yoke.commits.map (fun (x : Commit) => if x.seq = c.seq then ({ x with pending := true } : Commit) else x) } } : State).yokeArm c
      (if c.kind = 0 then some (c.instant : Int) else none)).yokeState c.master c.seq 2
  if c.kind = 3 then s1.releaseOn c.seq else s1

/-- The Wheelwright's commit ends without applying: what it staged is discarded and its result is not applied (R186, R214). -/
def State.yokeLost (s : State) (c : Commit) : State :=
  let ks := c.values.map (fun e => e.1)
  ({ s with staged := s.staged.filter (fun e => !ks.contains e.1), stager := s.stager.filter (fun e => !ks.contains e.1) } : State).wwtCommitted
    c.carriage false

/-- A commit fails its check. -/
def State.yokeEnds (s : State) (c : Commit) (d loc value : Nat) : State :=
  let s1 := ((s.yokeDrop c.seq).yokeState c.master c.seq 0).yokeFail c.master d loc value
  if c.master = mWwt then s1.yokeLost c else s1

/-- The end of a check whose rules all held: Y-0002 last, then CHECK_ONLY ends it. -/
def State.yokeFinish (s : State) (c : Commit) : State :=
  if s.yokePassed c then s.yokeEnds c 0x0002 0 c.instant
  else if c.checkOnly then ((s.yokeDrop c.seq).yokeState c.master c.seq 0).ev c.master Reg.YOK_STATUS_DONE
  else s.yokePend c

/-- The frozen values and instant of a commit, as a YOKE message carries them (R454). -/
def yokeBody (c : Commit) : List Nat :=
  [c.seq, (match c.carriage with
    | some g => g
    | none => 0xFF), c.kind, c.instant, b2n c.defaults, b2n c.checkOnly] ++ c.values.flatMap (fun e => [e.1, e.2.toNat])

/-- Ask the other parts of a shared commit to check it (R412). -/
def State.yokeAsk (s : State) (c : Commit) : State :=
  let n := (if s.inPair then 1 else 0) + (if c.carriage.isNone && s.ringLead then s.ringNear else 0)
  ({ s with yoke := { s.yoke with
    commits := s.yoke.commits.map (fun (x : Commit) => if x.seq = c.seq then ({ x with asked := true, awaited := n } : Commit) else x) } }
      : State).yokeTell c.carriage 0x44 (yokeBody c)

/-- The check of the commit of a scope ends here: where others check too, their results come first (R412). -/
def State.yokeChecked (s : State) (carriage : Option Nat) : State :=
  match s.yoke.commits.find? (fun c => c.carriage == carriage && !c.pending) with
  | none => s
  | some c =>
    match s.yokeBreaks c with
    | some (d, k) =>
      s.yokeEnds c d (s.offsetOf k) ((s.yokeView c.seq c.values).word (keyBlk k) (keyInst k) (keyOff k)).toNat
    | none =>
      if s.yokeShared c.carriage then (if c.asked then s else s.yokeAsk c)
      else s.yokeFinish c

/-- YOKE_CHECK_DONE: the check of the commit of a scope, a carriage or the package, ends. -/
def execYokeCheckDone (carriage : Option Nat) (s : State) : Host.Outcome State Fault Refusal := .next (s.yokeChecked carriage)

/-! ### Release (R407) -/

/-- Whether the instant of a pending commit has come. KIND 1 comes with its line; KIND 3 came at the check's end; KIND 4 with an event of the
Yoke sink. -/
def State.yokeDue (s : State) (c : Commit) : Bool :=
  match c.kind with
  | 0 => decide ((c.instant : Int) ≤ s.webNm)
  | 2 => decide (c.instant ≤ s.now)
  | _ => false

/-- YOKE_RELEASE: the instant of the pending commit of a scope has come (R407). -/
def execYokeRelease (carriage : Option Nat) (s : State) : Host.Outcome State Fault Refusal :=
  .next (match s.yoke.commits.find? (fun c => c.carriage == carriage && c.pending) with
    | some c => if s.yokeDue c then s.releaseOn c.seq else s
    | none => s)

/-- The Yoke sink takes an event: every pending commit of KIND 4 is released (R407). -/
def State.yokeSink (s : State) : State :=
  ((s.yoke.commits.filter (fun c => c.pending && c.kind == 4)).map (fun c => c.seq)).foldl (fun (t : State) n => t.releaseOn n) s

/-! ### Cancel and discard (R406, R410) -/

/-- CANCEL: the requester or the Outrider ends the commit of SCOPE with Y-0007; any other cancel is refused with Y-0008. -/
def State.actYokeCancel (s : State) (m : Nat) : State :=
  match s.yoke.commits.find? (fun c => c.carriage == s.yokeScope m) with
  | some c =>
    if c.master = m ∨ m = mOut then
      let s1 := (((s.yokeDrop c.seq).yokeState c.master c.seq 0).ycode c.master 0x0007 0 0).ev c.master Reg.YOK_STATUS_FAIL
      if c.master = mWwt then s1.yokeLost c else s1
    else s.ycode m 0x0008 0 0
  | none => s.ycode m 0x0008 0 0

/-- YOKE_CANCEL: master m writes w to YOK_CTL with CANCEL set. -/
def execYokeCancel (m : Nat) (w : Word) (s : State) : Host.Outcome State Fault Refusal :=
  .next (s.regAct m m Reg.YOK_CTL_CANCEL w (fun t => t.actYokeCancel m))

/-- DISCARD: the staged values of the master's registers in SCOPE go back to active, and their marks clear; frozen ones stay. -/
def State.actYokeDiscard (s : State) (m : Nat) : State :=
  let ks := ((s.stager.filter (fun e => e.2 == m && s.inScope (s.yokeScope m) e.1)).map (fun e => e.1)).filter (fun k => !s.frozen k)
  { s with staged := s.staged.filter (fun e => !ks.contains e.1), stager := s.stager.filter (fun e => !ks.contains e.1) }

/-- YOKE_DISCARD: master m writes w to YOK_CTL with DISCARD set. -/
def execYokeDiscard (m : Nat) (w : Word) (s : State) : Host.Outcome State Fault Refusal :=
  .next (s.regAct m m Reg.YOK_CTL_DISCARD w (fun t => t.actYokeDiscard m))

/-! ### The other part (R412, R470) -/

/-- This part checks and applies the commits of another: the standby of a pair, or a ring member that does not lead. -/
def State.yokeFollows (s : State) : Bool :=
  s.standby || (s.rb 0 Reg.RNG_STATUS_LIVE && s.rf 0 Reg.RNG_STATUS_LEADER != s.rf 0 Reg.RNG_CFG_POSITION)

/-- The result of a check goes back. -/
def State.yokeAnswer (s : State) (seq code : Nat) : State := if s.standby then s.emit .mirror 0x45 [seq, code] else s.emit .ring 0x45 [seq, code]

/-- MIRROR_YOKE: the frozen values and instant of a commit (R412). The part runs the same check, answers, and holds what passed for its apply
position; a commit of another kind than 0 waits for that position to be told. -/
def execMirrorYoke (seq : Nat) (carriage : Option Nat) (kind instant : Nat) (defaults checkOnly : Bool) (values : List (Nat × Word)) (s : State) :
    Host.Outcome State Fault Refusal :=
  .next (if !s.yokeFollows then s
  else
    let at_ := if kind = 0 then instant else 2 ^ 64
    let c : Commit := ⟨0, carriage, 0, at_, defaults, checkOnly, true, false, 0, seq, values⟩
    let s0 := (s.yoke.commits.filter (fun x => x.carriage == carriage)).foldl (fun (t : State) x => t.yokeDrop x.seq) s
    match s0.yokeBreaks c with
    | some (d, _) => s0.yokeAnswer seq (codeWord 'Y' d)
    | none =>
      let s1 := s0.yokeAnswer seq 0
      if checkOnly then s1
      else ({ s1 with yoke := { s1.yoke with commits := s1.yoke.commits ++ [c], nextSeq := Nat.max s1.yoke.nextSeq (seq + 1) } } : State).yokeArm c
        (if kind = 0 then some (instant : Int) else none))

/-- YOKE_RESULT: another part's check of a commit, 0 for pass or its Y-code (R412). -/
def execYokeResult (seq : Nat) (code : Nat) (s : State) : Host.Outcome State Fault Refusal :=
  .next (match s.yoke.commits.find? (fun c => c.seq == seq && !c.pending && c.asked) with
    | none => s
    | some c =>
      if code ≠ 0 then s.yokeEnds c 0x0020 0 code
      else
        let left := c.awaited - 1
        let s1 := { s with yoke := { s.yoke with
          commits := s.yoke.commits.map (fun (x : Commit) => if x.seq = seq then ({ x with awaited := left } : Commit) else x) } }
        if left = 0 then s1.yokeFinish c else s1)

/-- YOKE_APPLY: the web position at which this part applies a commit it holds (R412). -/
def execYokeApply (seq : Nat) (pos : Nat) (s : State) : Host.Outcome State Fault Refusal :=
  .next (if !s.yokeFollows then s
  else { s with yoke := { s.yoke with
    commits := s.yoke.commits.map (fun (x : Commit) => if x.seq = seq then ({ x with instant := pos } : Commit) else x)
    armed := s.yoke.armed.map (fun (a : Armed) => if a.seq = seq then ({ a with pos := some (pos : Int) } : Armed) else a) } })

end Sys2Proof.Machine
end

