-- ==== Sys2Proof/Machine/Gain.lean ====
section
/-! DEFINITION. GAIN runs of the Wheelwright and the tables that they rebuild (R185, R186, R456). Rows name a carriage. -/

namespace Sys2Proof.Machine

/-- The strip columns that report a plane: all, or for red and blue of a bilinear carriage those of its parity (R184). -/
def State.stripCols (s : State) (g p : Nat) : List Nat :=
  let w := s.eng .TRU g
  let first := s.rf w Reg.TRU_REF_FIRST
  let all := List.range (s.rf w Reg.TRU_REF_COLUMNS)
  if s.rf w Reg.TRU_CFG_PLANES = 2 ∧ p ≠ 1 then
    let red := s.rf (s.eng .ING g) Reg.ING_LINE_RB_ORDER % 2
    all.filter (fun i => (first + i) % 2 == (if p = 0 then red else 1 - red))
  else all

/-- The sums of the columns of a reported plane. -/
def State.planeSums (s : State) (g p : Nat) (sums : List (List Nat)) : List Nat :=
  (s.stripCols g p).map (fun i => (sums.getD p []).getD i 0)

/-- k of reported plane p as a fraction (R185): its TARGET over the mean of the column means. -/
def State.gainK (s : State) (g p : Nat) (l : List Nat) : Nat × Nat :=
  let w := s.eng .TRU g
  (s.rf w (Reg.TRU_REF_TARGET_TARGET.sh (4 * p)) * s.rf w Reg.TRU_REF_CTL_LINES * l.length, l.sum)

/-- The residual of a plane: the root mean square of the column means about their mean, in 0.01 % of it, rounded by R7. -/
def gainResid (l : List Nat) : Nat :=
  let t := l.sum
  if t = 0 then 0
  else
    let a := l.length * (l.map (fun x => x * x)).sum - t * t
    let f := isqrt (a * 100000000 / (t * t))
    let lhs := (2 * f + 1) * (2 * f + 1) * (t * t)
    let rhs := 4 * a * 100000000
    if lhs < rhs ∨ (lhs = rhs ∧ f % 2 = 1) then f + 1 else f

/-- Whether a plane's factors differ by at most TOL in 0.01 % of the second, which lies within 0.5 to 2.0. -/
def gainAgrees (tol : Nat) (k1 k2 : Nat × Nat) : Bool :=
  k1.2 != 0 && k2.2 != 0 &&
  decide (((k1.1 * k2.2 : Nat) - (k2.1 * k1.2 : Nat) : Int).natAbs * 10000 ≤ tol * k2.1 * k1.2) &&
  decide (k2.2 ≤ 2 * k2.1) && decide (k2.1 ≤ 2 * k2.2)

/-- The largest residual over the planes. -/
def worstResid (l : List (List Nat)) : Nat := l.foldl (fun a x => Nat.max a (gainResid x)) 0

/-- The measurements of a run are done with. -/
def State.gainClear (s : State) (g : Nat) : State := s.truMod g (fun u => { u with ref := none, results := [] })

/-- The run of a carriage has its two measurements: they agree, and the factors are accepted, or it is rejected. -/
def State.gainJudge (s : State) (g ident : Nat) (a b : List (List Nat)) : State :=
  let w := s.eng .TRU g
  let ps := List.range b.length
  let l1 := ps.map (fun p => s.planeSums g p a)
  let l2 := ps.map (fun p => s.planeSums g p b)
  let ok := ps.all (fun p => gainAgrees (s.rf w Reg.TRU_REF_CTL_TOL) (s.gainK g p (l1.getD p [])) (s.gainK g p (l2.getD p [])))
  let q1 := worstResid l1
  let q2 := worstResid l2
  if !ok then s.wwtReject 3 (g / 6) g q1 q2 0
  else
    let ks := ps.map (fun p => let k := s.gainK g p (l2.getD p []); (rne (k.1 * 1073741824) k.2).toNat)
    let s1 := ps.foldl (fun (t : State) p => t.wf w (Reg.TRU_GAIN_K_K.sh (4 * p)) (ks.getD p 0)) s
    let s2 := (s1.wf w Reg.TRU_GAIN_RESID_RESID (satN 65535 q2)).inc w Reg.TRU_GAIN_RESID_RUNS
    let s3 := { s2 with gain := cset s2.gain g ⟨ks, ident, q1, q2, s.now, 0, 0, 0, false⟩ }
    if s3.inPair then s3.emit .mirror 0x4B (g :: ks) else s3

/-- GAIN_RUN_COMPLETE: the two measurements of carriage g's run end, or one has taken 10 s (R185). -/
def execGainRunComplete (g : Nat) (s : State) : Host.Outcome State Fault Refusal :=
  .next (if !(s.wwtAt 3 (g / 6) g).running ∨ (cget s.gain g).isSome then s
  else
    match (s.truOf g).results with
    | a :: b :: _ => (s.gainClear g).gainJudge g b.1 a.2 b.2
    | _ =>
      if (s.wwtAt 3 (g / 6) g).started + 10000000000 ≤ s.now then (s.gainClear g).wwtReject 3 (g / 6) g 0 0 0 else s)

/-- The factor that entry i of plane p takes: reported plane p, or of a bilinear carriage green for plane 0 and red or blue by column for
plane 1. -/
def State.entryK (s : State) (g p i : Nat) (ks : List Nat) : Nat :=
  if s.rf (s.eng .TRU g) Reg.TRU_CFG_PLANES = 2 then
    if p = 0 then ks.getD 1 0
    else ks.getD (if i % 2 = s.rf (s.eng .ING g) Reg.ING_LINE_RB_ORDER % 2 then 0 else 2) 0
  else ks.getD p 0

/-- The image of a Truing table (R176, R177). -/
def truImage (planes width ident base : Nat) (entries : List Nat) (map : List (Nat × Nat × Nat)) : List Byte :=
  let raw := entries.flatMap (toBytes 8) ++ map.flatMap (fun e => toBytes 4 (e.2.1 + 32768 * e.1 + 131072 * (e.2.2 - 1)))
  let body := raw ++ List.replicate (alignUp raw.length 64 - raw.length) 0
  let h := [0x54, 0x52, 0x55, 0x54] ++ toBytes 2 0x0100 ++ toBytes 2 planes ++ toBytes 4 width ++ toBytes 4 map.length ++ toBytes 4 ident ++
    toBytes 4 base ++ toBytes 4 body.length ++ toBytes 4 (crc32c body) ++ List.replicate 28 0
  h ++ toBytes 4 (crc32c h) ++ body

/-- The image with TABLE_ID `ident` of the active table, every G times its factor (R186 step 2). -/
def State.rebuilt (s : State) (g ident : Nat) (ks : List Nat) : List Byte :=
  let w := s.eng .TRU g
  let b := s.truBank g
  let n := wide (s.rf w Reg.TRU_CFG_WIDTH)
  let one := fun (p i : Nat) =>
    let e := s.truEntry b (p * n + i)
    e % 65536 + 65536 * satN (2 ^ 18 - 1) (rne ((e / 65536 % 2 ^ 18) * s.entryK g p i ks) 1073741824).toNat
  let planes := s.rf w Reg.TRU_CFG_PLANES
  truImage planes n ident (s.rf w (Reg.TRU_TBL_ID0_TABLE_ID.sh (4 * s.rf w Reg.TRU_BANK_SEL)))
    ((List.range planes).flatMap (fun p => (List.range n).map (one p))) b.map

/-- Where Daxpamen puts carriage g's rebuilt image of n bytes: an open place in its part of the reserve (R186, R309; log 23). -/
def State.ownPlace (s : State) (g n : Nat) : Nat := 0x2000000 + 0x480000 * g + 64 * (s.freeVal 32 % ((0x480000 - n) / 64 + 1))

/-- GAIN_REBUILD: the loader is idle and no commit waits in the carriage's scope; Daxpamen rebuilds the active table in DRAM of its own and
loads it into the inactive bank (R186 steps 1 and 2). Its address and the low bits of its TABLE_ID are open (log 23). -/
def execGainRebuild (g : Nat) (s : State) : Host.Outcome State Fault Refusal :=
  .next (match cget s.gain g with
    | none => s
    | some j =>
      if j.step ≠ 0 ∨ (s.truOf g).loading.isSome ∨ (!j.mirrored ∧ s.scopeState (some g) ≠ 0) then s
      else
        let w := s.eng .TRU g
        let bank := 1 - s.rf w Reg.TRU_BANK_SEL
        let ident := 2 ^ 31 + s.freeVal 31
        let image := s.drawn.rebuilt g ident j.ks
        let s1 : State := { s with freeCtr := s.freeCtr + 1 + s.rf w Reg.TRU_CFG_PLANES * wide (s.rf w Reg.TRU_CFG_WIDTH) }
        let a := s1.ownPlace g image.length
        let s2 := ((((s1.drawn).dramPut a image false).wf w Reg.TRU_TBL_STATUS_WWT_HOLD 1).wf w Reg.TRU_TBL_ADDR_LO_ADDR (a / 64)).wf w Reg.TRU_TBL_ADDR_HI_ADDR 0
        ({ s2 with gain := cset s2.gain g { j with step := 1, bank := bank, newId := ident } } : State).tblStart
          g false bank)

/-- GAIN_COMMIT_STAGE: the load of the rebuilt table has ended; Daxpamen stages SEL and requests a carriage-scope commit at the next line boundary
if the bank is VALID and the table measured is still active (R186 step 3). A standby takes SEL from the primary's commit. -/
def execGainCommitStage (g : Nat) (s : State) : Host.Outcome State Fault Refusal :=
  .next (match cget s.gain g with
    | none => s
    | some j =>
      if j.step ≠ 1 ∨ (s.truOf g).loading.isSome then s
      else
        let w := s.eng .TRU g
        let r := loaderRegs false
        let s1 := { s.wf w Reg.TRU_TBL_STATUS_WWT_HOLD 0 with gain := cset s.gain g { j with step := 2 } }
        let valid := s1.rf w (r.validOf j.bank) == 1 && s1.rf w (r.ident.sh (4 * j.bank)) == j.newId
        if j.mirrored ∨ !valid ∨ s1.rf w (r.ident.sh (4 * s1.rf w Reg.TRU_BANK_SEL)) ≠ j.ident then s1.wwtCommitted (some g) false
        else (s1.wwtStage w Reg.TRU_BANK_SEL j.bank).wwtRequestCommit (some g) 3 0)

/-- GAIN_WAIT_TIMEOUT: the loader stayed busy or a commit pending for 1 s (R186 step 1). -/
def execGainWaitTimeout (g : Nat) (s : State) : Host.Outcome State Fault Refusal :=
  .next (match cget s.gain g with
    | none => s
    | some j => if j.step = 0 ∧ j.since + 1000000000 ≤ s.now then s.wwtCommitted (some g) false else s)

/-- CALIB: the primary's accepted factors of carriage g, by reported plane; the standby rebuilds its own table with them (R456). -/
def execCalib (g : Nat) (ks : List Nat) (s : State) : Host.Outcome State Fault Refusal :=
  .next (if s.standby ∧ s.hasEng .TRU g then
    let w := s.eng .TRU g
    let s1 := (List.range ks.length).foldl (fun (t : State) p => t.wf w (Reg.TRU_GAIN_K_K.sh (4 * p)) (ks.getD p 0)) s
    { s1 with gain := cset s1.gain g ⟨ks, 0, 0, 0, s.now, 0, 0, 0, true⟩ }
  else s)

end Sys2Proof.Machine
end

