-- ==== Sys2Proof/Machine/Crypto.lean ====
section
/-! DEFINITION. SHA-384 and the ECDSA P-384 check that a harness image's signature passes (R61, R62). The spec names the two standards;
their constants and steps are theirs (log 6). -/

namespace Sys2Proof.Machine

/-- A 64-bit sum. -/
def add64 (a b : Nat) : Nat := (a + b) % 2 ^ 64

/-- A 64-bit rotation to the right. -/
def rotr64 (x n : Nat) : Nat := (x / 2 ^ n) ||| (x * 2 ^ (64 - n) % 2 ^ 64)

/-- The 80 round constants of SHA-384. -/
def shaK : List Nat :=
  [0x428a2f98d728ae22, 0x7137449123ef65cd, 0xb5c0fbcfec4d3b2f, 0xe9b5dba58189dbbc] ++
  [0x3956c25bf348b538, 0x59f111f1b605d019, 0x923f82a4af194f9b, 0xab1c5ed5da6d8118] ++
  [0xd807aa98a3030242, 0x12835b0145706fbe, 0x243185be4ee4b28c, 0x550c7dc3d5ffb4e2] ++
  [0x72be5d74f27b896f, 0x80deb1fe3b1696b1, 0x9bdc06a725c71235, 0xc19bf174cf692694] ++
  [0xe49b69c19ef14ad2, 0xefbe4786384f25e3, 0x0fc19dc68b8cd5b5, 0x240ca1cc77ac9c65] ++
  [0x2de92c6f592b0275, 0x4a7484aa6ea6e483, 0x5cb0a9dcbd41fbd4, 0x76f988da831153b5] ++
  [0x983e5152ee66dfab, 0xa831c66d2db43210, 0xb00327c898fb213f, 0xbf597fc7beef0ee4] ++
  [0xc6e00bf33da88fc2, 0xd5a79147930aa725, 0x06ca6351e003826f, 0x142929670a0e6e70] ++
  [0x27b70a8546d22ffc, 0x2e1b21385c26c926, 0x4d2c6dfc5ac42aed, 0x53380d139d95b3df] ++
  [0x650a73548baf63de, 0x766a0abb3c77b2a8, 0x81c2c92e47edaee6, 0x92722c851482353b] ++
  [0xa2bfe8a14cf10364, 0xa81a664bbc423001, 0xc24b8b70d0f89791, 0xc76c51a30654be30] ++
  [0xd192e819d6ef5218, 0xd69906245565a910, 0xf40e35855771202a, 0x106aa07032bbd1b8] ++
  [0x19a4c116b8d2d0c8, 0x1e376c085141ab53, 0x2748774cdf8eeb99, 0x34b0bcb5e19b48a8] ++
  [0x391c0cb3c5c95a63, 0x4ed8aa4ae3418acb, 0x5b9cca4f7763e373, 0x682e6ff3d6b2b8a3] ++
  [0x748f82ee5defb2fc, 0x78a5636f43172f60, 0x84c87814a1f0ab72, 0x8cc702081a6439ec] ++
  [0x90befffa23631e28, 0xa4506cebde82bde9, 0xbef9a3f7b2c67915, 0xc67178f2e372532b] ++
  [0xca273eceea26619c, 0xd186b8c721c0c207, 0xeada7dd6cde0eb1e, 0xf57d4f7fee6ed178] ++
  [0x06f067aa72176fba, 0x0a637dc5a2c898a6, 0x113f9804bef90dae, 0x1b710b35131c471b] ++
  [0x28db77f523047d84, 0x32caab7b40c72493, 0x3c9ebe0a15c9bebc, 0x431d67c49c100d4c] ++
  [0x4cc5d4becb3e42b6, 0x597f299cfc657e2a, 0x5fcb6fab3ad6faec, 0x6c44198c4a475817]

/-- The initial hash value of SHA-384. -/
def shaH : List Nat := [0xcbbb9d5dc1059ed8, 0x629a292a367cd507, 0x9159015a3070dd17, 0x152fecd8f70e5939, 0x67332667ffc00b31, 0x8eb44a8768581511, 0xdb0c2e0d64f98fa7, 0x47b5481dbefa4fa4]

/-- The message schedule: w holds the words so far, newest first. -/
def shaExtend : Nat → List Nat → List Nat
  | 0, w => w
  | n + 1, w =>
    let w15 := w.getD 14 0
    let w2 := w.getD 1 0
    let s0 := rotr64 w15 1 ^^^ rotr64 w15 8 ^^^ (w15 / 2 ^ 7)
    let s1 := rotr64 w2 19 ^^^ rotr64 w2 61 ^^^ (w2 / 2 ^ 6)
    shaExtend n (add64 (add64 (w.getD 15 0) s0) (add64 (w.getD 6 0) s1) :: w)

/-- One round over the working variables a to h. -/
def shaRound (v : List Nat) (kw : Nat) : List Nat :=
  let a := v.getD 0 0; let b := v.getD 1 0; let c := v.getD 2 0; let d := v.getD 3 0
  let e := v.getD 4 0; let f := v.getD 5 0; let g := v.getD 6 0; let h := v.getD 7 0
  let s1 := rotr64 e 14 ^^^ rotr64 e 18 ^^^ rotr64 e 41
  let ch := (e &&& f) ^^^ ((e ^^^ (2 ^ 64 - 1)) &&& g)
  let t1 := add64 (add64 h s1) (add64 ch kw)
  let s0 := rotr64 a 28 ^^^ rotr64 a 34 ^^^ rotr64 a 39
  let mj := (a &&& b) ^^^ (a &&& c) ^^^ (b &&& c)
  [add64 t1 (add64 s0 mj), a, b, c, add64 d t1, e, f, g]

/-- One block of 16 words. -/
def shaBlock (h : List Nat) (w : List Nat) : List Nat :=
  let ws := (shaExtend 64 w.reverse).reverse
  let v := (List.zip shaK ws).foldl (fun v kw => shaRound v (add64 kw.1 kw.2)) h
  List.zipWith add64 h v

/-- The padded message as big-endian 64-bit words. -/
def shaWords : Nat → List Byte → List Nat
  | 0, _ => []
  | n + 1, l => ofBytes ((l.take 8).reverse) :: shaWords n (l.drop 8)

/-- Run over n blocks of words. -/
def shaRun : Nat → List Nat → List Nat → List Nat
  | 0, h, _ => h
  | n + 1, h, w => shaRun n (shaBlock h (w.take 16)) (w.drop 16)

/-- SHA-384 of a byte list, as 48 bytes in order. -/
def sha384 (l : List Byte) : List Byte :=
  let blocks := (l.length + 17 + 127) / 128
  let zeros := blocks * 128 - l.length - 17
  let msg := l ++ [0x80] ++ List.replicate zeros 0 ++ (toBytes 16 (8 * l.length)).reverse
  let h := shaRun blocks shaH (shaWords (16 * blocks) msg)
  (h.take 6).flatMap (fun x => (toBytes 8 x).reverse)

/-- The prime of P-384. -/
def p384 : Nat := 0xfffffffffffffffffffffffffffffffffffffffffffffffffffffffffffffffeffffffff0000000000000000ffffffff
/-- The order of P-384's base point. -/
def n384 : Nat := 0xffffffffffffffffffffffffffffffffffffffffffffffffc7634d81f4372ddf581a0db248b0a77aecec196accc52973
/-- The coefficient b of P-384; a is -3. -/
def b384 : Nat := 0xb3312fa7e23ee7e4988e056be3f82d19181d9c6efe8141120314088f5013875ac656398d8a2ed19d2a85c8edd3ec2aef
/-- The base point of P-384. -/
def g384 : Nat × Nat := (0xaa87ca22be8b05378eb1c71ef320ad746e1d3b628ba79b9859f741e082542a385502f25dbf55296c3a545e3872760ab7, 0x3617de4a96262c6f5d9e98bf9292dc29f8f41dbd289a147ce9da3113b5f0b8c00a60b1ce1d7e819d7a431d7c90ea0e5f)

/-- x to the power e modulo m, over the k low bits of e. -/
def powBits : Nat → Nat → Nat → Nat → Nat
  | 0, _, _, m => 1 % m
  | k + 1, x, e, m =>
    let r := powBits k x (e / 2) m
    let r2 := r * r % m
    if e % 2 = 1 then r2 * x % m else r2

/-- The inverse modulo a prime of 384 bits. -/
def invMod (x m : Nat) : Nat := powBits 384 x (m - 2) m

/-- A point in Jacobian coordinates; Z = 0 is the point at infinity. -/
structure JPoint where
  x : Nat
  y : Nat
  z : Nat
  deriving DecidableEq, Repr

/-- a - b modulo the prime. -/
def subP (a b : Nat) : Nat := (a % p384 + p384 - b % p384) % p384

/-- Twice a point. -/
def jDouble (q : JPoint) : JPoint :=
  if q.z = 0 then q
  else
    let delta := q.z * q.z % p384
    let gamma := q.y * q.y % p384
    let beta := q.x * gamma % p384
    let alpha := 3 * (subP q.x delta * (q.x + delta) % p384) % p384
    let x3 := subP (alpha * alpha) (8 * beta)
    let z3 := subP (subP ((q.y + q.z) * (q.y + q.z)) gamma) delta
    ⟨x3, subP (alpha * subP (4 * beta) x3) (8 * (gamma * gamma % p384)), z3⟩

/-- The sum of two points. -/
def jAdd (a b : JPoint) : JPoint :=
  if a.z = 0 then b
  else if b.z = 0 then a
  else
    let z1 := a.z * a.z % p384
    let z2 := b.z * b.z % p384
    let u1 := a.x * z2 % p384
    let u2 := b.x * z1 % p384
    let s1 := a.y * (b.z * z2 % p384) % p384
    let s2 := b.y * (a.z * z1 % p384) % p384
    if u1 = u2 then (if s1 = s2 then jDouble a else ⟨1, 1, 0⟩)
    else
      let h := subP u2 u1
      let r := subP s2 s1
      let h2 := h * h % p384
      let h3 := h * h2 % p384
      let v := u1 * h2 % p384
      let x3 := subP (subP (r * r) h3) (2 * v)
      ⟨x3, subP (r * subP v x3) (s1 * h3), h * (a.z * b.z % p384) % p384⟩

/-- k times a point, over n bits of k. -/
def jMul (q : JPoint) : Nat → Nat → JPoint
  | 0, _ => ⟨1, 1, 0⟩
  | n + 1, k =>
    let h := jDouble (jMul q n (k / 2))
    if k % 2 = 1 then jAdd h q else h

/-- Whether (r, s) is a valid ECDSA P-384 signature of a digest under the public key (x, y) (R62). -/
def ecdsaOk (x y digest r s : Nat) : Bool :=
  if r = 0 ∨ n384 ≤ r ∨ s = 0 ∨ n384 ≤ s ∨ p384 ≤ x ∨ p384 ≤ y then false
  else if y * y % p384 ≠ (x * x * x + b384 + 3 * (p384 - x)) % p384 then false
  else
    let w := invMod s n384
    let q := jAdd (jMul ⟨g384.1, g384.2, 1⟩ 384 (digest * w % n384)) (jMul ⟨x, y, 1⟩ 384 (r * w % n384))
    if q.z = 0 then false
    else
      let zi := invMod q.z p384
      decide (q.x * (zi * zi % p384) % p384 % n384 = r)

end Sys2Proof.Machine
end

