-- ==== Sys2Proof/Machine/HarnessImage.lean ====
section
/-! DEFINITION. Reading a harness image from its bytes (R42 to R61) and the parse rules H-0001 to H-0021 of R72. -/

namespace Sys2Proof.Machine

/-- A failed rule: the code's digits, where it failed, the value (R72). -/
structure HErr where
  code : Nat
  sect : Nat
  record : Nat
  car : Nat
  val : Nat
  deriving DecidableEq, Repr

/-- A failure that names no section. -/
def hErr0 (code val : Nat) : HErr := ⟨code, 0xFF, 0xFFFF, 0xFF, val⟩

/-- The sixteen section tags in their order: HEAD LANE CARR ENGN MEWS ROUT DRAM REIN WHIF POST TIME WAYW YOKE INIT PAIR SIGN. -/
def tagCodes : List Nat :=
  [0x44414548, 0x454E414C, 0x52524143, 0x4E474E45, 0x5357454D, 0x54554F52, 0x4D415244, 0x4E494552] ++
  [0x46494857, 0x54534F50, 0x454D4954, 0x57594157, 0x454B4F59, 0x54494E49, 0x52494150, 0x4E474953]

/-- The record size of each tag, in tag order (R45). -/
def tagSizes : List Nat := [64, 16, 64, 16, 16, 8, 32, 16, 8, 8, 16, 64, 8, 16, 32, 256]

/-- The place of a tag in the order of R45, 16 for an unknown one. -/
def tagIndex (t : Nat) : Nat := tagCodes.findIdx (fun x => x == t)

/-- One section-table entry (R44). -/
structure SectEntry where
  tag : Nat
  version : Nat
  recSize : Nat
  offset : Nat
  length : Nat
  count : Nat
  crc : Nat
  deriving DecidableEq, Repr

/-- Section-table entry k. -/
def sectEntry (im : List Byte) (k : Nat) : SectEntry :=
  let o := 0x100 + 32 * k
  ⟨leAt im o 4, leAt im (o + 4) 2, leAt im (o + 6) 2, leAt im (o + 8) 4, leAt im (o + 12) 4, leAt im (o + 16) 4, leAt im (o + 24) 4⟩

/-- The entries of the section table, at most 16. -/
def sectTable (im : List Byte) : List SectEntry := (List.range (Nat.min 16 (leAt im 0x10 2))).map (sectEntry im)

/-- The header (R43). -/
def readHeader (im : List Byte) : ImgHeader :=
  ⟨leAt im 0xC 1, leAt im 0xD 1, leAt im 0xE 1, leAt im 0xF 1, leAt im 0x18 8, leAt im 0x20 8, leAt im 0x28 4, leAt im 0xFC 4⟩

/-- The records of the first section with the tag of index t, each as its bytes. -/
def sectRecords (im : List Byte) (t : Nat) : List (List Byte) :=
  match (sectTable im).find? (fun e => tagIndex e.tag == t) with
  | none => []
  | some e => (List.range e.count).map (fun k => bytesAt im (e.offset + e.recSize * k) e.recSize)

def readHead (r : List Byte) : HeadRec :=
  ⟨leAt r 0 1, leAt r 1 1, leAt r 2 1, leAt r 3 1, leAt r 4 4, leAt r 8 4, leAt r 0xC 4, sgn 64 (leAt r 0x10 8), leAt r 0x18 4⟩

def readLane (r : List Byte) : LaneRec :=
  ⟨leAt r 0 1, leAt r 1 1, leAt r 2 1, leAt r 3 1, leAt r 4 1, leAt r 5 1, leAt r 6 1, leAt r 7 1⟩

def readCarr (r : List Byte) : CarrRec :=
  ⟨leAt r 0 1, leAt r 1 1, leAt r 2 1, leAt r 3 1, leAt r 4 2, leAt r 6 2, leAt r 8 2, leAt r 0xA 2, leAt r 0xC 2, leAt r 0xE 2,
   leAt r 0x10 4, leAt r 0x14 4, leAt r 0x18 1, leAt r 0x19 1, leAt r 0x1A 1, leAt r 0x1B 1, leAt r 0x1C 4, leAt r 0x20 4, leAt r 0x24 4⟩

def readEngn (r : List Byte) : EngnRec :=
  ⟨leAt r 0 2, leAt r 2 1, leAt r 3 1, leAt r 4 1, leAt r 5 1, leAt r 6 2, leAt r 8 4, leAt r 0xC 4⟩

def readMews (r : List Byte) : MewsRec := ⟨leAt r 0 1, leAt r 2 2, leAt r 4 4, leAt r 8 4, leAt r 0xC 2⟩

def readRout (r : List Byte) : RoutRec := ⟨leAt r 0 2, leAt r 2 1, leAt r 3 1, leAt r 4 2, leAt r 6 2⟩

def readDram (r : List Byte) : DramRec :=
  ⟨leAt r 0 2, leAt r 2 1, leAt r 3 1, leAt r 4 2, leAt r 6 1, leAt r 7 1, leAt r 8 8, leAt r 0x10 8, leAt r 0x18 1⟩

def readRein (r : List Byte) : ReinRec := ⟨leAt r 0 1, bytesAt r 1 15⟩

def readWhif (r : List Byte) : WhifRec := ⟨leAt r 0 1, leAt r 1 1, leAt r 2 2, leAt r 4 1, leAt r 6 2⟩

def readPost (r : List Byte) : PostRec := ⟨leAt r 0 1, leAt r 1 1, leAt r 2 1, leAt r 4 4⟩

def readTime (r : List Byte) : TimeRec :=
  if leAt r 0 1 = 2 then ⟨2, 0, leAt r 1 1, 0, 0, 0, leAt r 4 4, leAt r 8 4⟩
  else ⟨leAt r 0 1, leAt r 1 1, leAt r 2 1, leAt r 3 1, leAt r 4 1, leAt r 8 4, 0, 0⟩

def readWayw (r : List Byte) : WaywRec :=
  ⟨leAt r 0 1, leAt r 1 1, leAt r 2 1, leAt r 3 1, leAt r 4 4, leAt r 8 8, leAt r 0x10 1, leAt r 0x11 1, leAt r 0x12 2, leAt r 0x14 4,
   leAt r 0x18 4, leAt r 0x1C 1, leAt r 0x1D 1, leAt r 0x1E 1, leAt r 0x20 2, leAt r 0x22 2, leAt r 0x24 4⟩

def readInit (r : List Byte) : InitRec := ⟨leAt r 0 4, leAt r 4 4, leAt r 8 4⟩

def readPair (r : List Byte) : PairRec := ⟨leAt r 0 8, leAt r 8 1, (List.range 4).map (fun k => leAt r (12 + k) 1)⟩

/-- Every section of an image read into its records. -/
def readImage (im : List Byte) : Image :=
  { hdr := readHeader im
    tags := (sectTable im).map (fun e => tagIndex e.tag)
    head := (sectRecords im 0).head?.map readHead
    lanes := (sectRecords im 1).map readLane
    carrs := (sectRecords im 2).map readCarr
    engns := (sectRecords im 3).map readEngn
    mews := (sectRecords im 4).map readMews
    routs := (sectRecords im 5).map readRout
    drams := (sectRecords im 6).map readDram
    reins := (sectRecords im 7).map readRein
    whifs := (sectRecords im 8).map readWhif
    posts := (sectRecords im 9).map readPost
    times := (sectRecords im 10).map readTime
    waywiser := (sectRecords im 11).map readWayw
    yokes := (sectRecords im 12).map (fun r => (leAt r 0 4, leAt r 4 4))
    inits := (sectRecords im 13).map readInit
    pair := (sectRecords im 14).head?.map readPair }

/-! ### Parse rules -/

/-- The first entry of a list that fails a test, with its index. -/
def firstIdx {α : Type} (p : α → Bool) : Nat → List α → Option Nat
  | _, [] => none
  | k, x :: t => if p x then some k else firstIdx p (k + 1) t

/-- The first failure among rules tried in order. -/
def firstErr : List (Option HErr) → Option HErr
  | [] => none
  | some e :: _ => some e
  | none :: t => firstErr t

/-- A rule that names one section-table entry. -/
def sectRule (code : Nat) (im : List Byte) (bad : SectEntry → Bool) : Option HErr :=
  match firstIdx bad 0 (sectTable im) with
  | some k => some ⟨code, k, 0xFFFF, 0xFF, 0⟩
  | none => none

/-- Whether section k breaks H-0011: aligned, in tag order, after the one before it, inside the image, a whole number of records, and
the last entry SIGN ending the image (R44; which of these failures have H-0011: log 57). -/
def sectMisplaced (im : List Byte) (k : Nat) : Bool :=
  let t := sectTable im
  let size := leAt im 8 4
  match t[k]? with
  | none => false
  | some e =>
    e.offset % 64 != 0 || decide (size < e.offset + e.length) || e.length != e.count * e.recSize ||
    (match (if k = 0 then none else t[k - 1]?) with
     | none => decide (e.offset < 0x100 + 32 * t.length)
     | some q => decide (tagIndex e.tag < tagIndex q.tag) || decide (e.offset < q.offset + q.length)) ||
    (if k + 1 = t.length then tagIndex e.tag != 15 || e.offset + e.length != size else tagIndex e.tag == 15)

/-- The sections that an image of a KIND must hold and those it may hold, by tag index (R45). -/
def sectRequired (kind flags : Nat) : List Nat :=
  if kind = 1 then [0, 1, 2, 3, 4, 5, 6, 8, 12, 15] ++ (if flags % 2 = 1 then [14] else []) else [2, 3, 4, 5, 15]

def sectAllowed (kind flags : Nat) : List Nat :=
  if kind = 1 then (List.range 14) ++ [15] ++ (if flags % 2 = 1 then [14] else [])
  else [1, 2, 3, 4, 5, 6, 7, 12, 13, 15]

/-- H-0013 (R45): the first section that may not be there, or is there twice, or has the wrong number of records; else the first
required one that is missing. -/
def sectPresence (im : List Byte) : Option HErr :=
  let h := readHeader im
  let t := sectTable im
  let bad := fun (k : Nat) =>
    match t[k]? with
    | none => false
    | some e =>
      let x := tagIndex e.tag
      !(sectAllowed h.kind h.flags).contains x || (t.take k).any (fun q => q.tag == e.tag) ||
      ((x == 0 || x == 15 || x == 14 || (x == 2 && h.kind == 2)) && e.count != 1)
  match (List.range t.length).find? bad with
  | some k => some ⟨0x13, k, 0xFFFF, 0xFF, 0⟩
  | none => if (sectRequired h.kind h.flags).all (fun x => t.any (fun e => tagIndex e.tag == x)) then none else some (hErr0 0x13 0)

/-- The bytes of the SIGN record. -/
def signRecord (im : List Byte) : List Byte := ((sectRecords im 15).head?).getD []

/-- The CRC that a section's entry must hold; SIGN's covers bytes 0x00 to 0x67 only (R44, R62). -/
def sectCrc (im : List Byte) (e : SectEntry) : Nat :=
  crc32c (bytesAt im e.offset (if tagIndex e.tag = 15 then 0x68 else e.length))

/-- The digest that an owner key slot holds, if it is enrolled and not revoked (R63). -/
def State.keyDigest (s : State) (k : Nat) : Option Nat :=
  match s.keys[k]? with
  | some (.enrolled d) => some d
  | _ => none

/-- The parse rules of R72 in ascending order over the bytes received. -/
def State.parseErr (s : State) (im : List Byte) : Option HErr :=
  let h := readHeader im
  let sg := signRecord im
  let signOff := ((sectTable im).getLast?.map (fun e => e.offset)).getD 0
  firstErr
    [ if leAt im 0 4 ≠ 0x484B4C47 ∨ leAt im 5 1 ≠ 1 ∨ (h.kind ≠ 1 ∧ h.kind ≠ 2) then some (hErr0 0x01 (leAt im 0 4)) else none,
      if h.crc ≠ crc32c (bytesAt im 0 0xFC) then some (hErr0 0x02 h.crc) else none,
      if 16777216 < leAt im 8 4 ∨ leAt im 8 4 ≠ im.length then some (hErr0 0x03 (leAt im 8 4)) else none,
      if h.part ≠ s.hw.coaches then some (hErr0 0x04 h.part) else none,
      if s.hw.firmware < h.minFw then some (hErr0 0x07 h.minFw) else none,
      sectRule 0x10 im (fun e => tagIndex e.tag == 16 || e.version / 256 != 1 || e.recSize != tagSizes.getD (tagIndex e.tag) 0),
      if leAt im 0x10 2 < 3 ∨ 16 < leAt im 0x10 2 ∨ leAt im 0x14 4 ≠ 0x100 then some (hErr0 0x11 (leAt im 0x10 2)) else
        match (List.range (sectTable im).length).find? (sectMisplaced im) with
        | some k => some ⟨0x11, k, 0xFFFF, 0xFF, 0⟩
        | none => none,
      sectRule 0x12 im (fun e => e.crc != sectCrc im e),
      sectPresence im,
      if s.keyDigest (leAt sg 2 1) = some (ofBytes (sha384 (bytesAt sg 4 97))) then none
        else some ⟨0x20, (sectTable im).length - 1, 0, 0xFF, leAt sg 2 1⟩,
      if ecdsaOk (beAt sg 5 48) (beAt sg 53 48) (beAt (sha384 (bytesAt im 0 signOff)) 0 48) (beAt sg 0x68 48) (beAt sg 0x98 48) ∧
          leAt sg 4 1 = 4 ∧ leAt sg 0 2 = 1 then none
        else some ⟨0x21, (sectTable im).length - 1, 0, 0xFF, 0⟩ ]

end Sys2Proof.Machine
end

