-- ==== Sys2Proof/Machine/Keys.lean ====
section
/-! DEFINITION. Owner keys and the Outrider image buffer (R63, R64). -/

namespace Sys2Proof.Machine

/-- The two state bits that HDR_KEY_CTL.STATE shows for a slot. -/
def KeySlot.code : KeySlot → Nat
  | .empty => 0
  | .enrolled _ => 1
  | .revoked _ => 3

/-- Show the state of the four slots in HDR_KEY_CTL.STATE. -/
def State.showKeys (s : State) : State :=
  s.wf 0 Reg.HDR_KEY_CTL_STATE ((List.range 4).foldl (fun a k => a + (s.keys.getD k .empty).code * 4 ^ k) 0)

/-- The digest in HDR_KEY_DIGEST0 to 11, byte 0 lowest (R63). -/
def State.keyInput (s : State) : Nat :=
  (List.range 12).foldl (fun a k => a + (s.word .HDR 0 (0x40 + 4 * k)).toNat * 2 ^ (32 * k)) 0

/-- A slot after an enrolment: only an empty one takes the digest (R63). -/
def enrolSlot (d : Nat) : KeySlot → KeySlot
  | .empty => .enrolled d
  | k => k

/-- A slot after a revocation: revoked for good (R63). -/
def revokeSlot : KeySlot → KeySlot
  | .empty => .revoked 0
  | .enrolled d => .revoked d
  | .revoked d => .revoked d

/-- HDR_KEY_CTL.ENROL: the digest goes into the slot that SLOT names if it is empty; otherwise REFUSED sets (R63). -/
def State.actEnrol (s : State) : State :=
  let k := s.rf 0 Reg.HDR_KEY_CTL_SLOT
  if (s.keys.getD k .empty) = .empty then
    ({ s with keys := lmod s.keys k (enrolSlot s.keyInput) } : State).showKeys
  else s.wf 0 Reg.HDR_KEY_CTL_REFUSED 1

/-- HDR_KEY_CTL.REVOKE (R63). -/
def State.actRevoke (s : State) : State :=
  ({ s with keys := lmod s.keys (s.rf 0 Reg.HDR_KEY_CTL_SLOT) revokeSlot } : State).showKeys

/-- A write to a key register by a master other than the Outrider: discarded, G-0011 (R63). -/
def State.keyRefused (s : State) (m off : Nat) : State := s.gcode 0x0011 off m

/-- ENROL: `HDR_KEY_CTL.ENROL` (R63). -/
def execEnrol (m : Nat) (w : Word) (s : State) : Host.Outcome State Fault Refusal :=
  .next (s.regOnly (m == mOut) m 0 Reg.HDR_KEY_CTL_ENROL w (fun t => t.actEnrol) (fun t => t.keyRefused m 0x1034))

/-- REVOKE: `HDR_KEY_CTL.REVOKE` (R63). -/
def execRevoke (m : Nat) (w : Word) (s : State) : Host.Outcome State Fault Refusal :=
  .next (s.regOnly (m == mOut) m 0 Reg.HDR_KEY_CTL_REVOKE w (fun t => t.actRevoke) (fun t => t.keyRefused m 0x1034))

/-- A write to HDR_OR_DATA by the Outrider appends four bytes while the buffer of 16 MiB has room; another master's is discarded
(R64). -/
def State.actOrData (s : State) (m : Nat) (w : Word) : State :=
  if m = mOut ∧ s.hdr.orBuf.length + 4 ≤ 16777216 then
    let s1 := { s with hdr := { s.hdr with orBuf := s.hdr.orBuf ++ toBytes 4 w.toNat } }
    (s1.setWord .HDR 0 0x2C w).wf 0 Reg.HDR_OR_COUNT_BYTES s1.hdr.orBuf.length
  else s

/-- HDR_OR_COUNT.CLEAR (R64). -/
def State.actOrClear (s : State) : State :=
  ({ s with hdr := { s.hdr with orBuf := [] } } : State).wf 0 Reg.HDR_OR_COUNT_BYTES 0

/-- OR_DATA_APPEND: a write to `HDR_OR_DATA` (R64). -/
def execOrDataAppend (m : Nat) (w : Word) (s : State) : Host.Outcome State Fault Refusal :=
  .next (s.regDo m 0 Reg.HDR_OR_DATA_DATA w (fun t => t.actOrData m w))

/-- OR_BUFFER_CLEAR: `HDR_OR_COUNT.CLEAR` (R64). -/
def execOrBufferClear (m : Nat) (w : Word) (s : State) : Host.Outcome State Fault Refusal :=
  .next (s.regAct m 0 Reg.HDR_OR_COUNT_CLEAR w (fun t => t.actOrClear))

end Sys2Proof.Machine
end

