-- ==== Sys2Proof/Machine/Lanes.lean ====
section
/-! DEFINITION. Field lanes: training and retrain (R97, R98), CXP discovery (R82), equalisation codes and LANE runs (R99 to R102), the power
state of each direction (R103 to R105) and the PRBS test (R106, R107). -/

namespace Sys2Proof.Machine

/-! ### Reading a lane -/

/-- The LANE record of a lane (R47): a patch's, else the full image's. -/
def State.laneRec (s : State) (l : Nat) : Option LaneRec :=
  match s.hdr.patches.reverse.findSome? (fun im => im.lanes.find? (fun r => r.lane == l)) with
  | some r => some r
  | none =>
    match s.hdr.active with
    | none => none
    | some im => im.lanes.find? (fun r => r.lane == l)

/-- Whether DIRECTIONS enables a direction: 0 receive, 1 transmit (R47). -/
def State.laneDir (s : State) (l d : Nat) : Bool :=
  match s.laneRec l with
  | some r => r.dirs.testBit d
  | none => false

/-- The eye widths of R102: accepted at training, and marginal below. -/
def State.eyeLimits (s : State) (l : Nat) : Nat × Nat := if s.isVox l then (18, 24) else (16, 20)

/-- The receive state that the package state, the record and LAN_PWR ask for (R79, R103, R104): 0 off, 1 sleep, 2 doze, 4 up, and 5 for the PRBS
checker (R107). -/
def State.rxTarget (s : State) (l : Nat) : Nat :=
  if s.rb (laneInst l) Reg.LAN_PRBS_CTL_RX_ON then 5
  else if s.lf l Reg.LAN_CFG_USE = 5 then 1
  else if !s.laneDir l 0 then 0
  else
    match s.lf l Reg.LAN_PWR_RX_REQ with
    | 0 => 4
    | 1 => 2
    | 2 => 1
    | _ => 0

/-- The transmit state asked for: 0 off, 1 sleep, 2 low-speed uplink only (CXP), 4 up, 5 for the PRBS generator. -/
def State.txTarget (s : State) (l : Nat) : Nat :=
  if s.rb (laneInst l) Reg.LAN_PRBS_CTL_TX_ON then 5
  else if s.lf l Reg.LAN_CFG_USE = 5 then 1
  else if !s.laneDir l 1 then 0
  else
    match s.lf l Reg.LAN_PWR_TX_REQ with
    | 0 => 4
    | 1 => if s.isCxp l then 2 else 4
    | 2 => 1
    | _ => 0

/-! ### Errors and directions -/

/-- Record an L-code of a lane; LAN_EVENT.ERR sets (R108). -/
def State.laneErr (s : State) (l d : Nat) : State := (s.lcode l d).ev (laneInst l) Reg.LAN_EVENT_ERR

/-- A mirror lane came up or dropped: LANES_UP and EVENT.LINK (R455). -/
def State.linkMove (s : State) (l : Nat) : State :=
  if s.mirrorLanes.contains l then
    let n := maskOf ((s.mirrorLanes.take 4).map (fun x => s.laneRxUp x && s.laneTxUp x))
    if n = s.rf 0 Reg.PAI_STATUS_LANES_UP then s else (s.wf 0 Reg.PAI_STATUS_LANES_UP n).ev 0 Reg.PAI_EVENT_LINK
  else s

/-- Set the receive state; reaching and leaving up set their event bits. -/
def State.setRx (s : State) (l v : Nat) : State :=
  let old := s.lf l Reg.LAN_STATUS_RX_STATE
  let s1 := (s.lw l Reg.LAN_STATUS_RX_STATE v).linkMove l
  if old ≠ 4 ∧ v = 4 then s1.ev (laneInst l) Reg.LAN_EVENT_UP
  else if old = 4 ∧ v ≠ 4 then (s1.lw l Reg.LAN_STATUS_FRAMED 0).ev (laneInst l) Reg.LAN_EVENT_DOWN
  else s1

/-- Set the transmit state. -/
def State.setTx (s : State) (l v : Nat) : State := (s.lw l Reg.LAN_STATUS_TX_STATE v).linkMove l

/-- Whether a transmit direction has reached the point at which it is up (R97). -/
def State.txReady (s : State) (l : Nat) : Bool :=
  if s.isEth l then s.rb (laneInst l) Reg.LAN_STATUS_PLL_LOCK
  else if s.isVox l then (s.lane l).peerLocked
  else (s.conn (s.lf l Reg.LAN_CFG_CONNECTION)).disc == 2

/-- Bring the transmit direction to the state asked for, as far as R97 lets it. -/
def State.txMove (s : State) (l : Nat) : State :=
  let t := s.txTarget l
  s.setTx l (if t = 4 then (if s.txReady l then 4 else 3) else t)

/-- The data slice takes an accepted code, with the eye width found for it (R101). -/
def State.eqTake (s : State) (l : Nat) : State :=
  if s.rb (laneInst l) Reg.LAN_EQ_PENDING then
    let old := s.lf l Reg.LAN_EQ_CODE
    let new := s.lf l Reg.LAN_EQ_NEXT
    let eye := (s.lane l).eye
    let s1 := (s.lw l Reg.LAN_EQ_CODE new).lw l Reg.LAN_EQ_PENDING 0
    let s2 := if eye = 0 then s1 else (s1.lw l Reg.LAN_EYE_WIDTH eye).lw l Reg.LAN_EYE_CODE new
    let s3 := if old = new then s2 else s2.ev (laneInst l) Reg.LAN_EVENT_EQ_SWITCH
    if 0 < eye ∧ eye < (s.eyeLimits l).2 then s3.laneErr l 0x0030 else s3
  else s

/-! ### Training (R97, R98) -/

/-- The FEC that LAN_ETH asks of a lane: RS-FEC at 25GBASE-R only (R83). -/
def State.fecAsked (s : State) (l : Nat) : Nat :=
  let f := s.lf l Reg.LAN_ETH_FEC
  if s.isEth l then (if f = 2 ∧ s.lf l Reg.LAN_CFG_MODE ≠ 4 then 0 else f) else 0

/-- Begin a training attempt at step 1 or step 2. A Voxhus transmitter seeds its scrambler and sends training markers (R86, R97), its credits
start at 0 (R93); a CXP lane has discovery run again, the master at once, an extension lane where it had ended (R82); the FEC asked for comes
into use (R83). -/
def State.trainFrom (s : State) (l step : Nat) : State :=
  let seed := 1 + s.freeVal 23 % (2 ^ 23 - 1)
  let s0 := if s.isVox l then s.drawn else s
  let s1 := s0.laneMod l (fun x => { x with
    since := some s.now, stuck := false, trained := false, relock := false, good := 0, bad := 0, txState := seed
    hunting := false, peerLocked := false, skip := 0, part := none, run := ⟨false, 0⟩, fecMode := s.fecAsked l })
  let s2 := if s.isVox l then s1.creditsZero l
    else if s.isCxp l then s1.connMod (s.lf l Reg.LAN_CFG_CONNECTION) (fun c =>
      { c with disc := if s.lf l Reg.LAN_CFG_INDEX = 0 ∨ 2 ≤ c.disc then 0 else c.disc })
    else s1
  let was := s.lf l Reg.LAN_STATUS_RX_STATE
  let s3 := if s.rxTarget l = 4 ∨ was = 3 ∨ was = 4 then s2.setRx l 3 else s2
  let s4 := (s3.lw l Reg.LAN_STATUS_FRAMED 0).lw l Reg.LAN_STATUS_TRAIN_STEP step
  (if step = 1 then s4.lw l Reg.LAN_STATUS_PLL_LOCK 0 else s4).txMove l

/-- Begin a training attempt: at step 2 with the retained code, at step 1 only when the lane PLL is not locked (R97, R98). -/
def State.train (s : State) (l : Nat) : State := s.trainFrom l (if s.rb (laneInst l) Reg.LAN_STATUS_PLL_LOCK then 2 else 1)

/-- A camera lane that carries traffic drops: remember the carriages that run with no line outstanding, and their next trigger numbers
(R249). -/
def State.laneDrops (s : State) (l : Nat) : State :=
  if s.laneRxUp l ∧ s.lf l Reg.LAN_CFG_USE = 1 then
    let idle := (s.carsOfConn (s.lf l Reg.LAN_CFG_CONNECTION)).filter (fun g =>
      s.ingRuns g && !(s.ingOf g).trigs.any (fun t => t.state == .waiting && t.sent) && (s.ingOf g).cur.isNone)
    s.laneMod l (fun x => { x with begun := idle.map (fun g => (g, (s.ingOf g).next)) })
  else s

/-- A retrained lane is up: a carriage that lost no line by it, since no trigger was due, gets the gap record of a lossless recovery (R249;
log 64). -/
def State.laneBack (s : State) (l : Nat) : State :=
  (s.lane l).begun.foldl (fun t e => if (t.ingOf e.1).next = e.2 then t.recoveryGap 3 e.1 else t)
    (s.laneMod l (fun x => { x with begun := [] }))

/-- Retrain a lane, with an L-code or without (R98): a lane that is up goes down, a pending code is taken (R101), a mirror lane's drop
records P-0005 (R455). -/
def State.retrain (s : State) (l : Nat) (code : Option Nat) : State :=
  if s.lf l Reg.LAN_CFG_USE = 5 ∨ (s.rxTarget l ≠ 4 ∧ s.txTarget l ≠ 4 ∧ s.lf l Reg.LAN_STATUS_RX_STATE ≠ 4) then s
  else
    let s1 := match code with
      | some d => s.laneErr l d
      | none => s
    let s2 := if s.laneRxUp l ∧ s.lf l Reg.LAN_CFG_USE = 2 then s1.pcode 0x0005 else s1
    (((s2.laneDrops l).inc (laneInst l) Reg.LAN_FRAMING_RETRAINS).eqTake l).train l

/-- A lane reaches up (R97 step 5) with the eye of its code (R102). -/
def State.laneUp (s : State) (l : Nat) : State :=
  let eye := (s.lane l).eye
  let s1 := ((s.laneBack l).laneMod l (fun x => { x with
    since := none, stuck := false, trained := true, relock := false, bad := 0 })).setRx l 4
  let s2 := ((s1.lw l Reg.LAN_STATUS_FRAMED 1).lw l Reg.LAN_STATUS_TRAIN_STEP 5).lw l Reg.LAN_STATUS_SIGNAL 1
  let s3 := (s2.lw l Reg.LAN_EYE_WIDTH eye).lw l Reg.LAN_EYE_CODE (s.lf l Reg.LAN_EQ_CODE)
  if eye < (s.eyeLimits l).2 then s3.laneErr l 0x0030 else s3

/-- A lane whose framing is done comes up, or keeps training with L-0001 when its eye is below the accepted limit (R102). -/
def State.laneUpOr (s : State) (l eye : Nat) : State :=
  let s1 := s.laneMod l (fun x => { x with eye := satN 63 eye })
  if eye < (s.eyeLimits l).1 then (s1.laneErr l 0x0001).train l else s1.laneUp l

/-- LANE_PLL_LOCKED: the lane PLL locks (R97 step 1); an Ethernet transmit direction is then up. -/
def execLanePllLocked (lane : Nat) (s : State) : Host.Outcome State Fault Refusal :=
  .next (if (s.lf lane Reg.LAN_STATUS_RX_STATE = 3 ∨ s.lf lane Reg.LAN_STATUS_TX_STATE = 3) ∧
      s.lf lane Reg.LAN_STATUS_TRAIN_STEP = 1 ∧ s.rb 0 Reg.CLK_LOCK_LANEREF then
    let s1 := s.lw lane Reg.LAN_STATUS_PLL_LOCK 1
    (s1.lw lane Reg.LAN_STATUS_TRAIN_STEP (if (s.lane lane).relock then 3 else 2)).txMove lane
  else s)

/-- Discovery starts on a CXP connection that awaits it, once its master lane has reached step 3 (R82, R97). -/
def State.discover (s : State) (l : Nat) : State :=
  let c := s.lf l Reg.LAN_CFG_CONNECTION
  if s.isCxp l ∧ (s.conn c).disc = 0 ∧ 3 ≤ s.lf ((s.lanesOfConn c).headD l) Reg.LAN_STATUS_TRAIN_STEP then
    s.connMod c (fun x => { x with disc := 1, discSince := s.now })
  else s

/-- LANE_CDR_LOCKED: the receiver's CDR locks and its DFE adapts (R97 step 2); framing starts, on a CXP lane with discovery. -/
def execLaneCdrLocked (lane : Nat) (s : State) : Host.Outcome State Fault Refusal :=
  .next (if s.lf lane Reg.LAN_STATUS_RX_STATE = 3 ∧ s.lf lane Reg.LAN_STATUS_TRAIN_STEP = 2 ∧ !(s.lane lane).stuck then
    ((s.lw lane Reg.LAN_STATUS_SIGNAL 1).lw lane Reg.LAN_STATUS_TRAIN_STEP 3).discover lane
  else s)

/-- LANE_FRAMING_DONE: framing completes with an eye width in UI/64 (R97 steps 3 to 5): a Voxhus lane holds marker lock and reports it, and is
up once the peer's report is there too; a CXP lane comes up when discovery has configured its connection. -/
def execLaneFramingDone (lane eye : Nat) (s : State) : Host.Outcome State Fault Refusal :=
  .next (if s.lf lane Reg.LAN_STATUS_RX_STATE ≠ 3 ∨ s.lf lane Reg.LAN_STATUS_TRAIN_STEP ≠ 3 ∨ (s.lane lane).stuck then s
  else if s.isCxp lane then
    if (s.conn (s.lf lane Reg.LAN_CFG_CONNECTION)).disc = 2 then s.laneUpOr lane eye else s
  else if !s.isVox lane then s.laneUpOr lane eye
  else if (s.lane lane).good < 2 then s
  else if (s.lane lane).relock then s.laneUpOr lane eye
  else
    let s1 := (s.laneMod lane (fun x => { x with eye := satN 63 eye })).lw lane Reg.LAN_STATUS_FRAMED 1
    let s2 := if s.laneDir lane 1 then s1.linkWord lane 0x20 0 else s1
    if (s.lane lane).peerLocked ∨ !s.laneDir lane 1 then s2.laneUpOr lane eye else s2.lw lane Reg.LAN_STATUS_TRAIN_STEP 4)

/-- LANE_TRAIN_TIMEOUT: a lane not up 100 ms after training began sets L-0001 and starts again; a CXP lane that has reached step 3 is limited
by discovery instead (R97). -/
def execLaneTrainTimeout (lane : Nat) (s : State) : Host.Outcome State Fault Refusal :=
  .next (match (s.lane lane).since with
    | none => s
    | some t =>
      if s.lf lane Reg.LAN_STATUS_RX_STATE ≠ 3 ∨ (s.lane lane).stuck ∨ s.now < t + 100000000 ∨
        (s.isCxp lane ∧ 3 ≤ s.lf lane Reg.LAN_STATUS_TRAIN_STEP) then s
      else (s.laneErr lane 0x0001).train lane)

/-- The peer's training lock report (R97 step 4): the transmit direction is up, credit words open the VCs, and a lane that holds marker lock
is up. -/
def State.lockReport (s : State) (l : Nat) : State :=
  if s.lf l Reg.LAN_STATUS_RX_STATE ≠ 3 ∧ s.lf l Reg.LAN_STATUS_TX_STATE ≠ 3 then s
  else
    let s1 := (s.laneMod l (fun x => { x with peerLocked := true })).txMove l
    if s.lf l Reg.LAN_STATUS_RX_STATE = 3 ∧ s.lf l Reg.LAN_STATUS_TRAIN_STEP = 4 then s1.laneUpOr l (s.lane l).eye else s1

/-- LANE_SIGNAL_LOSS: signal is lost; an up lane sets L-0010 and retrains (R98), unless its peer's transmitter went to sleep (R105). -/
def execLaneSignalLoss (lane : Nat) (s : State) : Host.Outcome State Fault Refusal :=
  .next (let s1 := s.lw lane Reg.LAN_STATUS_SIGNAL 0
    if s.laneRxUp lane then
      if (s.lane lane).peerAsleep then s1.setRx lane 1 else s1.retrain lane (some 0x0010)
    else s1)

/-- ETH_BLOCK_LOCK_LOSS: an Ethernet lane loses block or FEC lock: L-0040 and a retrain (R98). -/
def execEthBlockLockLoss (lane : Nat) (s : State) : Host.Outcome State Fault Refusal :=
  .next (if s.isEth lane ∧ s.laneRxUp lane then s.retrain lane (some 0x0040) else s)

/-! ### LAN_CTL -/

/-- Zero every counter of the window. -/
def State.clearCounts (s : State) (l : Nat) : State :=
  let i := laneInst l
  let s1 := (((((s.wf i Reg.LAN_CORR_COUNT 0).wf i Reg.LAN_UNCORR_COUNT 0).setWord .LAN i 0x28 0).wf i Reg.LAN_PRBS_ERR_ERRORS 0).wf
    i Reg.LAN_PRBS_BITS_MBITS 0).wf i Reg.LAN_EVENT_TRIG_DROP_COUNT 0
  let s2 := (List.range 16).foldl (fun t v => t.wf i (Reg.LAN_VC_SEQ_ERR.sh (4 * v)) 0) s1
  (s2.wf i Reg.LAN_EYE_RUNS 0).laneMod l (fun x => { x with tests := 0, dropped := 0, prbs := { x.prbs with bits := 0, errors := 0 } })

/-- A write of LAN_CTL: each set bit acts. -/
def State.actLanCtl (s : State) (l : Nat) (w : Word) : State :=
  let s1 := if w.toNat.testBit 1 then s.clearCounts l else s
  let s2 := if w.toNat.testBit 0 then s1.retrain l none else s1
  if w.toNat.testBit 2 then s2.wwtRequest 0 (l / 16) 0 2 else s2

/-- LANE_RETRAIN: LAN_CTL.RETRAIN (R98). -/
def execLaneRetrain (m : Nat) (w : Word) (lane : Nat) (s : State) : Host.Outcome State Fault Refusal :=
  .next (s.regAct m (laneInst lane) Reg.LAN_CTL_RETRAIN w (fun t => t.actLanCtl lane (w ||| 1)))

/-- LANE_CLEAR_COUNTS: LAN_CTL.CLEAR_COUNTS. -/
def execLaneClearCounts (m : Nat) (w : Word) (lane : Nat) (s : State) : Host.Outcome State Fault Refusal :=
  .next (s.regAct m (laneInst lane) Reg.LAN_CTL_CLEAR_COUNTS w (fun t => t.actLanCtl lane (w ||| 2)))

/-- LANE_RUN_WWT: LAN_CTL.RUN_WWT requests a LANE run of the lane's coach (R99, R442). -/
def execLaneRunWwt (m : Nat) (w : Word) (lane : Nat) (s : State) : Host.Outcome State Fault Refusal :=
  .next (s.regAct m (laneInst lane) Reg.LAN_CTL_RUN_WWT w (fun t => t.actLanCtl lane (w ||| 4)))

/-! ### Equalisation -/

/-- LAN_EQ.SET_GO makes SET pending as if a run had accepted it; no run has measured its eye. -/
def State.actSetGo (s : State) (l : Nat) : State :=
  ((s.lw l Reg.LAN_EQ_NEXT (s.lf l Reg.LAN_EQ_SET)).lw l Reg.LAN_EQ_PENDING 1).laneMod l (fun x => { x with eye := 0 })

/-- LANE_EQ_SET_GO: LAN_EQ.SET_GO. -/
def execLaneEqSetGo (m : Nat) (w : Word) (lane : Nat) (s : State) : Host.Outcome State Fault Refusal :=
  .next (s.regAct m (laneInst lane) Reg.LAN_EQ_SET_GO w (fun t => t.actSetGo lane))

/-- LANE_EQ_SWITCH: the mode's switch point passes and a pending code is taken (R101). -/
def execLaneEqSwitch (lane : Nat) (s : State) : Host.Outcome State Fault Refusal :=
  .next (if s.laneRxUp lane then s.eqTake lane else s)

/-- One lane's pair of measurements in a LANE run: code and eye of each. -/
structure EyePair where
  lane : Nat
  code1 : Nat
  eye1 : Nat
  code2 : Nat
  eye2 : Nat
  deriving DecidableEq, Repr

/-- The tolerance of R100. -/
def EyePair.agrees (e : EyePair) : Bool :=
  decide (e.code1 ≤ e.code2 + 1) && decide (e.code2 ≤ e.code1 + 1) && decide (e.eye1 ≤ e.eye2 + 2) && decide (e.eye2 ≤ e.eye1 + 2)

/-- The widest eye of the 16 codes, the lower code on a tie (R99): the code and its eye, from each code's error-free positions. -/
def widestEye (masks : List Nat) : Nat × Nat :=
  let eye := fun k => eyeWidth (masks.getD k 0)
  (List.range 16).foldl (fun (a : Nat × Nat) k => if a.2 < eye k then (k, eye k) else a) (0, eye 0)

/-- The receivers that a LANE run of coach c measures (R99). -/
def State.lanesOfRun (s : State) (c : Nat) : List Nat :=
  (rangeFrom (16 * c) 16).filter (fun l => s.hasUnit .LAN (laneInst l) && s.laneRxUp l && s.rb (laneInst l) Reg.LAN_EQ_AUTO)

/-- A lane takes the result of an accepted run: the second run's code and eye; a code other than the data slice's waits (R101). -/
def State.eqAccept (s : State) (e : EyePair) : State :=
  let l := e.lane
  let eye := satN 63 e.eye2
  let s1 := (s.inc (laneInst l) Reg.LAN_EYE_RUNS).laneMod l (fun x => { x with eye := eye })
  if e.code2 = s.lf l Reg.LAN_EQ_CODE then
    let s2 := ((s1.lw l Reg.LAN_EQ_PENDING 0).lw l Reg.LAN_EYE_WIDTH eye).lw l Reg.LAN_EYE_CODE e.code2
    if eye < (s.eyeLimits l).2 then s2.laneErr l 0x0030 else s2
  else (s1.lw l Reg.LAN_EQ_NEXT e.code2).lw l Reg.LAN_EQ_PENDING 1

/-- LANE_RUN_COMPLETE: a LANE run's two measurements of coach c end (R99, R100, R443). The operands give, lane by lane in the order of the
coach's measured lanes, a mask of the error-free sampling positions for each of the 16 codes; a missing list is a measurement that did not
complete. One lane whose two results disagree rejects the run for every lane of the coach (log 75). -/
def execLaneRunComplete (c : Nat) (first second : List (List Nat)) (s : State) : Host.Outcome State Fault Refusal :=
  .next (if !(s.wwtAt 0 c 0).running then s
  else
    let ls := s.lanesOfRun c
    let pairs := (List.range ls.length).map (fun k =>
      let a := widestEye (first.getD k [])
      let b := widestEye (second.getD k [])
      (⟨ls.getD k 0, a.1, a.2, b.1, b.2⟩ : EyePair))
    let least : List Nat → Nat := fun v => v.foldl Nat.min 63
    let q1 := least (pairs.map (fun e => e.eye1))
    let q2 := least (pairs.map (fun e => e.eye2))
    let worst := (pairs.find? (fun e => e.eye2 == q2)).getD ⟨16 * c, 0, 0, 0, 0⟩
    let detail := worst.lane + 256 * worst.code1 + 65536 * worst.code2
    if pairs.all EyePair.agrees ∧ ls.length ≤ first.length ∧ ls.length ≤ second.length then
      (pairs.foldl (fun t e => t.eqAccept e) s).wwtAccept 0 c 0 q1 q2 detail
    else s.wwtReject 0 c 0 q1 q2 detail)

/-! ### Discovery (R82) -/

/-- A lane of a configured connection: its uplink is up, and a receiver that waits at step 3 comes up. -/
def State.cxpLane (s : State) (speed uplink eye l : Nat) : State :=
  let s1 := ((s.lw l Reg.LAN_CXP_SPEED speed).lw l Reg.LAN_CXP_UPLINK uplink).lw l Reg.LAN_CXP_MASTER (b2n (s.lf l Reg.LAN_CFG_INDEX == 0))
  let s2 := s1.txMove l
  if s.lf l Reg.LAN_STATUS_RX_STATE = 3 ∧ s.lf l Reg.LAN_STATUS_TRAIN_STEP = 3 then s2.laneUpOr l eye else s2

/-- A lane of a connection that is down until a retrain: it waits at step 3, its transmit direction too. -/
def State.laneStuck (s : State) (l code : Nat) : State :=
  let s1 := ((s.laneDrops l).laneMod l (fun x => { x with stuck := true, since := none, peerLocked := false, part := none })).laneErr l code
  let s2 := if s.lf l Reg.LAN_STATUS_RX_STATE = 4 then (s1.setRx l 3).lw l Reg.LAN_STATUS_TRAIN_STEP 3 else s1
  if s.lf l Reg.LAN_STATUS_TX_STATE = 4 then s2.setTx l 3 else s2

/-- Abandon a connection: its lanes stay down until a retrain, with an L-code on each. -/
def State.connFails (s : State) (c code : Nat) : State :=
  (s.lanesOfConn c).foldl (fun t l => t.laneStuck l code) (s.connMod c (fun x => { x with disc := 3 }))

/-- CXP_DISCOVERY: discovery on connection c ends with the camera's speed, lane count and uplink (R82): the connection is configured, or its
lanes stay down with L-0003. The operands give the eye of each lane in INDEX order. -/
def execCxpDiscovery (c speed count uplink : Nat) (eyes : List Nat) (s : State) : Host.Outcome State Fault Refusal :=
  .next (if (s.conn c).disc ≠ 1 then s
  else
    let ls := s.lanesOfConn c
    if speed ≠ s.lf (ls.headD 0) Reg.LAN_CFG_RATE ∨ count ≠ ls.length then s.connFails c 0x0003
    else
      let s1 := (s.connMod c (fun x => { x with disc := 2 })).emit .cxpControl c [speed, count]
      (List.range ls.length).foldl (fun t k => t.cxpLane speed uplink (eyes.getD k 0) (ls.getD k 0)) s1)

/-- CXP_DISCOVERY_TIMEOUT: DISC_TIMEOUT ms pass: the connection is abandoned with L-0002 on every lane (R82). -/
def execCxpDiscoveryTimeout (c : Nat) (s : State) : Host.Outcome State Fault Refusal :=
  .next (if (s.conn c).disc = 1 ∧
      (s.conn c).discSince + 1000000 * s.lf ((s.lanesOfConn c).headD 0) Reg.LAN_CXP_DISC_TIMEOUT ≤ s.now then s.connFails c 0x0002
  else s)

/-! ### Power of the directions (R103 to R105) -/

/-- Wake a receiver: after doze or sleep it only relocks, unless its training was abandoned or it was off. -/
def State.rxWake (s : State) (l : Nat) : State :=
  if (s.lane l).trained ∧ s.lf l Reg.LAN_STATUS_RX_STATE ≠ 0 then
    let s1 := if (s.lane l).peerAsleep then (s.linkWord l 0x03 1).laneMod l (fun x => { x with peerAsleep := false }) else s
    let s2 := s1.laneMod l (fun x => { x with since := some s.now, relock := true, good := 0, bad := 0, hunting := false })
    (s2.setRx l 3).lw l Reg.LAN_STATUS_TRAIN_STEP (if s.rb (laneInst l) Reg.LAN_STATUS_PLL_LOCK then 3 else 1)
  else s.train l

/-- Put a receiver to doze or sleep, or off: training in progress is abandoned, and PEER_SLEEP asks the peer's transmitter to sleep too. -/
def State.rxRest (s : State) (l v : Nat) : State :=
  let st := s.lf l Reg.LAN_STATUS_RX_STATE
  let ask := s.isVox l && s.rb (laneInst l) Reg.LAN_PWR_PEER_SLEEP && st == 4 && v == 1 && s.laneTxUp l
  let s1 := if ask then s.linkWord l 0x01 1 else s
  let s2 := s1.laneMod l (fun x => { x with
    since := none, relock := false, part := none, trained := decide (v ≠ 0) && x.trained && decide (st ≠ 3 ∨ x.relock) })
  ((s2.setRx l v).lw l Reg.LAN_STATUS_TRAIN_STEP 0).lw l Reg.LAN_STATUS_FRAMED 0

/-- The lane PLL runs while a direction needs it (R103). -/
def State.pllShow (s : State) (l : Nat) : State :=
  if s.lf l Reg.LAN_STATUS_RX_STATE ≤ 1 ∧ s.lf l Reg.LAN_STATUS_TX_STATE ≤ 2 then s.lw l Reg.LAN_STATUS_PLL_LOCK 0 else s

/-- A transmit direction that was off, or sent a test, has nothing left of its training: the peer's lock report or discovery must come again
(R103). -/
def State.txForget (s : State) (l : Nat) : State :=
  let s1 := s.laneMod l (fun x => { x with peerLocked := false })
  if s.isCxp l then (s1.connMod (s.lf l Reg.LAN_CFG_CONNECTION) (fun c => { c with disc := if c.disc = 2 then 0 else c.disc })).discover l
  else s1

/-- Move the transmit direction towards a state, where the receive direction goes to rx. -/
def State.txGo (s : State) (l rx tx : Nat) : State :=
  let was := s.lf l Reg.LAN_STATUS_TX_STATE
  if tx ≠ 4 then s.setTx l tx
  else if was = 4 ∨ was = 3 then s
  else
    let s0 := if was = 0 ∨ was = 5 then s.txForget l else s
    let t := s0.setTx l (if s0.txReady l then 4 else 3)
    if (s.lf l Reg.LAN_STATUS_RX_STATE = 0 ∨ rx ≠ 4) ∧ !s.rb (laneInst l) Reg.LAN_STATUS_PLL_LOCK then t.lw l Reg.LAN_STATUS_TRAIN_STEP 1 else t

/-- Move the receive direction towards a state; a packet that has begun comes to its end first (R105). -/
def State.rxGo (s : State) (l rx : Nat) : State :=
  let st := s.lf l Reg.LAN_STATUS_RX_STATE
  if rx = 5 then
    if st = 5 then s
    else (s.laneMod l (fun x => { x with since := none, trained := false, part := none })).setRx l 5
  else if rx = 4 then
    if st = 3 ∨ st = 4 then s
    else if st = 5 then (s.setRx l 3).train l
    else s.rxWake l
  else if st = rx ∨ (s.lane l).part.isSome then s
  else s.rxRest l rx

/-- Move both directions towards given states: a transmit direction that comes up goes first, so that a wake word can leave, one that rests
goes last, so that a sleep request can (R105). -/
def State.laneMove (s : State) (l rx tx : Nat) : State :=
  (if tx = 4 then (s.txGo l rx tx).rxGo l rx else (s.rxGo l rx).txGo l rx tx).pllShow l

/-- Move both directions to the states that LAN_PWR requests. -/
def State.laneFollow (s : State) (l : Nat) : State := s.laneMove l (s.rxTarget l) (s.txTarget l)

/-- LANE_POWER_REQUEST: a write to LAN_PWR (R103); in a sleep state the request waits for the wake (R104). -/
def execLanePowerRequest (m : Nat) (w : Word) (lane : Nat) (s : State) : Host.Outcome State Fault Refusal :=
  .next (s.regSet m (laneInst lane) Reg.LAN_PWR_RX_REQ w (fun t => if t.running then t.laneFollow lane else t))

/-- LANE_WAKE_ON_SIGNAL: signal at a receiver in doze or sleep with WAKE_ON_SIGNAL (R105). -/
def execLaneWakeOnSignal (lane : Nat) (s : State) : Host.Outcome State Fault Refusal :=
  .next (let st := s.lf lane Reg.LAN_STATUS_RX_STATE
    if (st = 1 ∨ st = 2) ∧ s.lf lane Reg.LAN_CFG_USE ≠ 5 ∧ s.rb (laneInst lane) Reg.LAN_PWR_WAKE_ON_SIGNAL ∧ s.running then
      (s.lw lane Reg.LAN_STATUS_SIGNAL 1).rxWake lane
    else s)

/-- One lane in Stand (R104): receivers sleep, and transmitters too unless TX_KEEP holds them, PRBS tests included; spare
lanes stay as they are (R79). -/
def State.laneRest (s : State) (l : Nat) : State :=
  let rx := s.lf l Reg.LAN_STATUS_RX_STATE
  let tx := s.lf l Reg.LAN_STATUS_TX_STATE
  let keep := tx != 5 && (s.rb (laneInst l) Reg.LAN_PWR_TX_KEEP || tx == 0)
  if s.lf l Reg.LAN_CFG_USE = 5 then s
  else s.laneMove l (if rx = 0 then 0 else 1) (if keep then tx else 1)

/-- Stand (R104). -/
def State.lanesSleep (s : State) : State := s.allLanes.foldl (fun t l => t.laneRest l) s

/-- A packet that a sleep request waited for has ended (R105). -/
def State.packetEnds (s : State) (l : Nat) : State :=
  if !s.running then s.laneRest l else if s.rxTarget l = 4 then s else s.laneFollow l

/-- The end of Stand: every lane follows its requests again (R431 step 6). -/
def State.lanesWake (s : State) : State := s.allLanes.foldl (fun t l => t.laneFollow l) s

/-- Bring a lane to its reset: both directions off, everything it held gone (R104). -/
def State.laneOff (s : State) (l : Nat) : State :=
  { s.setWord .LAN (laneInst l) 0x04 0 with lanes := cdel s.lanes l, conns := cdel s.conns (s.lf l Reg.LAN_CFG_CONNECTION) }

/-- Start a lane as its record says (R79, R97): a spare lane sleeps, others train from step 1. -/
def State.laneStart (s : State) (l : Nat) : State :=
  let s1 := s.laneOff l
  if s.lf l Reg.LAN_CFG_USE = 5 then (s1.setRx l (s1.rxTarget l)).setTx l (s1.txTarget l)
  else
    let s2 := if s1.rxTarget l = 4 then s1 else s1.setRx l (s1.rxTarget l)
    if s1.rxTarget l = 4 ∨ s1.txTarget l = 4 then s2.trainFrom l 1 else s2.txMove l

/-- Train every lane from the start (R431 step 6, R434 stage 10, R479). -/
def State.lanesTrainAll (s : State) : State := s.allLanes.foldl (fun t l => t.laneStart l) s

/-- The lane reference is lost: every lane goes down with L-0010 (R479). -/
def State.lanesDownAll (s : State) : State :=
  s.allLanes.foldl (fun t l =>
    if t.lf l Reg.LAN_CFG_USE = 5 then t.lw l Reg.LAN_STATUS_PLL_LOCK 0
    else (((t.laneDrops l).laneErr l 0x0010).eqTake l).trainFrom l 1) s

/-- Lane training at start-up counts as an accepted LANE run (R442). -/
def State.lanesBaseline (s : State) : State :=
  (List.range s.hw.coaches).foldl (fun t c =>
    t.wwtMod 0 c 0 (fun x => { x with baseline := some (unsgn 16 (t.classTemp 0 c 0)), lastRun := t.now, lastOk := t.now })) s

/-! ### PRBS (R106, R107) -/

/-- The checker takes bits: LOCK, the bit errors while locked, and the bits checked in units of 2^20 (R107). -/
def State.prbsTake (s : State) (l pattern : Nat) (bits : List Bool) : State :=
  let p := bits.foldl (Prbs.step pattern) (s.lane l).prbs
  (((s.laneMod l (fun x => { x with prbs := p })).lw l Reg.LAN_PRBS_CTL_LOCK (b2n p.locked)).lw l Reg.LAN_PRBS_ERR_ERRORS (satN 0xFFFFFFFF p.errors)).lw l
    Reg.LAN_PRBS_BITS_MBITS (satN 0xFFFFFFFF (p.bits / 2 ^ 20))

/-- What a write of LAN_PRBS_CTL does: a direction with its test on is in state 5, one whose test ends goes back to its use, or to sleep in
Stand (R104); a checker that starts, or has another PATTERN, seeds itself. -/
def State.actPrbs (s : State) (l pattern : Nat) : State :=
  let on := s.rb (laneInst l) Reg.LAN_PRBS_CTL_RX_ON
  let s1 := if on && s.lf l Reg.LAN_STATUS_RX_STATE == 5 && s.lf l Reg.LAN_PRBS_CTL_PATTERN == pattern then s
    else (s.laneMod l (fun x => { x with prbs := x.prbs.reseed })).lw l Reg.LAN_PRBS_CTL_LOCK 0
  if s.running ∨ s.lf l Reg.LAN_CFG_USE = 5 then s1.laneFollow l else s1

/-- LANE_PRBS_CONTROL: a write to LAN_PRBS_CTL, after the bits that the receiver saw since the last; a running checker has checked them. -/
def execLanePrbsControl (m : Nat) (w : Word) (lane : Nat) (bits : List Bool) (s : State) : Host.Outcome State Fault Refusal :=
  let pattern := s.lf lane Reg.LAN_PRBS_CTL_PATTERN
  let s1 := if s.lf lane Reg.LAN_STATUS_RX_STATE = 5 then s.prbsTake lane pattern bits else s
  .next (s1.regSet m (laneInst lane) Reg.LAN_PRBS_CTL_PATTERN w (fun t => t.actPrbs lane pattern))

end Sys2Proof.Machine
end

