-- ==== Sys2Proof/Machine/Pmt.lean ====
section
/-! DEFINITION. The Portmanteau coders: coding groups (R273 to R278), the rolling archive (R279 to R284), decode jobs and replay (R285 to
R289). -/

namespace Sys2Proof.Machine

/-! ### The code (R275) -/

/-- The prediction of a sample from its neighbours a (left), b (above) and c (above left), none where there is none. -/
def predict (w : Nat) (a b c : Option Nat) : Nat :=
  match a, b, c with
  | some a, some b, some c => if Nat.max a b ≤ c then Nat.min a b else if c ≤ Nat.min a b then Nat.max a b else a + b - c
  | some a, none, _ => a
  | _, some b, _ => b
  | none, none, _ => 2 ^ (w - 1)

/-- The unsigned value of a prediction error. -/
def errorCode (w x p : Nat) : Nat :=
  let d := (x + 2 ^ w - p % 2 ^ w) % 2 ^ w
  if d < 2 ^ (w - 1) then 2 * d else 2 * (2 ^ w - d) - 1

/-- The sample that an unsigned value stands for. -/
def errorDecode (w u p : Nat) : Nat := if u % 2 = 0 then (p + u / 2) % 2 ^ w else (p + 2 ^ w - ((u + 1) / 2) % 2 ^ w) % 2 ^ w

/-- The unsigned values of a line, given the line above. -/
def lineCodes (w : Nat) (above : Option (List Nat)) (xs : List Nat) : List Nat :=
  (List.range xs.length).map (fun j =>
    let at_ := fun (l : List Nat) (k : Nat) => l.getD k 0
    errorCode w (at_ xs j) (predict w (if j = 0 then none else some (at_ xs (j - 1))) (above.map (fun l => at_ l j))
      (if j = 0 then none else above.map (fun l => at_ l (j - 1)))))

/-- The bits of one value under selector K, as fields of value and width. -/
def codeFields (w k u : Nat) : List (Nat × Nat) :=
  if k = 31 then [(u, w)]
  else if u / 2 ^ k < 16 then [(2 ^ (u / 2 ^ k) - 1, u / 2 ^ k + 1), (u % 2 ^ k, k)]
  else [(65535, 16), (u, w)]

/-- How many bits a block takes under K. -/
def blockBits (w k : Nat) (us : List Nat) : Nat := (us.map (fun u => ((codeFields w k u).map (fun f => f.2)).sum)).sum

/-- The selector of a block: the fewest bits, the lowest K on a tie, 31 only when strictly shorter. -/
def selector (w : Nat) (us : List Nat) : Nat :=
  let best := (List.range w).foldl (fun (a : Nat × Nat) k => if blockBits w k us < a.2 then (k, blockBits w k us) else a) (0, blockBits w 0 us)
  if w * us.length < best.2 then 31 else best.1

/-- Cut a list into blocks of n. -/
def chunks {α : Type} (n : Nat) : Nat → List α → List (List α)
  | 0, _ => []
  | _ + 1, [] => []
  | k + 1, l => l.take n :: chunks n k (l.drop n)

/-- The fields of a group's payload. -/
def groupFields (w : Nat) (rows : List (List Nat)) : List (Nat × Nat) :=
  (List.range rows.length).flatMap (fun i =>
    let us := lineCodes w (if i = 0 then none else rows[i - 1]?) (rows.getD i [])
    (chunks 16 us.length us).flatMap (fun b => let k := selector w b; (k, 5) :: b.flatMap (codeFields w k)))

/-- Fields, least significant bit first, as bytes filled from bit 0 upward, the last with zero bits. -/
def packFields (l : List (Nat × Nat)) : List Byte :=
  let bits := (l.map (fun f => f.2)).sum
  toBytes ((bits + 7) / 8) (l.reverse.foldl (fun a f => a * 2 ^ f.2 + f.1 % 2 ^ f.2) 0)

/-- How many one bits stand at a place, at most n. -/
def onesAt : Nat → Nat → Nat → Nat
  | 0, _, _ => 0
  | n + 1, v, p => if v.testBit p then onesAt n v (p + 1) + 1 else 0

/-- The next value of a block under K: the value and the place behind it. -/
def readCode (w k v p : Nat) : Nat × Nat :=
  if k = 31 then (v / 2 ^ p % 2 ^ w, p + w)
  else
    let q := onesAt 16 v p
    if q < 16 then (q * 2 ^ k + v / 2 ^ (p + q + 1) % 2 ^ k, p + q + 1 + k) else (v / 2 ^ (p + 16) % 2 ^ w, p + 16 + w)

/-- n samples of a line, block by block from sample j on; none at a reserved selector. -/
def readLineGo (w n : Nat) (above : Option (List Nat)) (v : Nat) : Nat → Nat → Nat → List Nat → Option (List Nat × Nat)
  | 0, p, _, acc => some (acc.reverse, p)
  | left + 1, p, sel, acc =>
    let j := n - (left + 1)
    let k := if j % 16 = 0 then v / 2 ^ p % 32 else sel
    let p1 := if j % 16 = 0 then p + 5 else p
    if w ≤ k ∧ k ≠ 31 then none
    else
      let x := readCode w k v p1
      let pr := predict w acc.head? (above.map (fun l => l.getD j 0)) (if j = 0 then none else above.map (fun l => l.getD (j - 1) 0))
      readLineGo w n above v left x.2 k (errorDecode w x.1 pr :: acc)

/-- The samples of h lines. -/
def readGroup (w n v : Nat) : Nat → Nat → Option (List Nat) → Option (List (List Nat))
  | 0, _, _ => some []
  | h + 1, p, above =>
    match readLineGo w n above v n p 0 [] with
    | none => none
    | some (xs, q) => (readGroup w n v h q (some xs)).map (fun t => xs :: t)

/-! ### Groups, slots, rows (R273, R274, R276, R280) -/

/-- The bytes of a group's slot (R274). -/
def slotBytes (n h w budget : Nat) : Nat :=
  let r := (n * h * w + 7) / 8
  Nat.max 64 (r * (4 + budget) / 8 / 64 * 64)

/-- The widths of a stream's group columns. -/
def groupWidths (total : Nat) : List Nat := (List.range (ceilDiv total 256)).map (fun k => Nat.min 256 (total - 256 * k))

/-- The bytes of a row: tag area and slots. -/
def rowBytes (total h w budget : Nat) : Nat := ceilDiv h 2 * 64 + ((groupWidths total).map (fun n => slotBytes n h w budget)).sum

/-- The CRC of a group's samples as 16-bit values. -/
def groupCrc (rows : List (List Nat)) : Nat := crc32c (rows.flatMap (fun l => l.flatMap (toBytes 2)))

/-- A group's header. -/
def groupHeader (crc len n h flags ovf : Nat) : List Byte :=
  toBytes 4 crc ++ toBytes 2 len ++ toBytes 1 (n - 1) ++ toBytes 1 (h - 1 + flags) ++ toBytes 4 ovf ++ toBytes 4 0

/-- The tag of a line as bytes (R122). -/
def tagBytes (g : Nat) (t : Tag) : List Byte :=
  toBytes 8 (unsgn 64 t.md) ++ toBytes 8 (unsgn 64 t.time) ++ toBytes 6 t.index ++ toBytes 2 t.epoch ++ toBytes 1 g ++ toBytes 1 1 ++
  toBytes 2 t.camLine ++ toBytes 4 t.flags

/-- A tag from its bytes. -/
def readTag (b : List Byte) : Tag := ⟨(leAt b 0 8 : Nat), sgn 64 (leAt b 8 8), leAt b 0x10 6, leAt b 0x16 2, leAt b 0x1A 2, leAt b 0x1C 4⟩

/-! ### Streams -/

/-- The archive stream of a carriage. -/
def State.arcOf (s : State) (g : Nat) : ArcStream := cgetD s.arc g ArcStream.fresh

/-- Change it. -/
def State.arcMod (s : State) (g : Nat) (f : ArcStream → ArcStream) : State := { s with arc := cset s.arc g (f (s.arcOf g)) }

/-- The PMT window and slot offset to which a carriage's archive is bound (R279). -/
def State.pmtOf (s : State) (g : Nat) : Option (Nat × Nat) :=
  ((List.range 16).find? (fun k =>
    s.hasUnit .PMT (unitOf (g / 6) (k / 4)) && (s.rf (unitOf (g / 6) (k / 4)) Reg.PMT_CFG_BOUND).testBit (k % 4) &&
    s.rf (unitOf (g / 6) (k / 4)) (Reg.PMT_ARC_CFG_CARRIAGE.sh (0x40 * (k % 4))) == g)).map
    (fun k => (unitOf (g / 6) (k / 4), 0x40 * (k % 4)))

/-- The base of partition n of a stream: 0 archive, 1 index, 2 overflow. -/
def State.arcBase (s : State) (i o n : Nat) : Nat :=
  64 * s.rf i (Reg.PMT_PART_LO_ADDR.sh (o + 4 * n)) + 2 ^ 32 * s.rf i (Reg.PMT_PART_HI_ADDR.sh (o + 4 * n))

/-- The size of partition n in its units. -/
def State.arcSize (s : State) (i o n : Nat) : Nat := s.rf i (Reg.PMT_PART_SIZE_SIZE.sh (o + 4 * n))

/-- S of a carriage. -/
def State.arcTotal (s : State) (g : Nat) : Nat :=
  match s.carr g with
  | some r => r.planes * wide r.inputWidth
  | none => 0

/-- The address of the index entry of a row. -/
def State.idxAddr (s : State) (i o r : Nat) : Nat := s.arcBase i o 1 + 32 * (r % Nat.max 1 (s.arcSize i o 1))

/-- The index entry of a row. -/
def State.idxEntry (s : State) (i o r : Nat) : List Byte := s.dramBytes (s.idxAddr i o r) 32

/-- Whether a row is intact (R282). -/
def State.intact (s : State) (i o r : Nat) : Bool :=
  let old := s.rf i (Reg.PMT_ARC_OLDEST_ROW.sh o)
  decide ((r + 2 ^ 32 - old) % 2 ^ 32 < (s.rf i (Reg.PMT_ARC_NEXT_ROW.sh o) + 2 ^ 32 - old) % 2 ^ 32)

/-- The intact rows, oldest first. -/
def State.intactRows (s : State) (i o : Nat) : List Nat :=
  let old := s.rf i (Reg.PMT_ARC_OLDEST_ROW.sh o)
  (List.range ((s.rf i (Reg.PMT_ARC_NEXT_ROW.sh o) + 2 ^ 32 - old) % 2 ^ 32)).map (fun k => (old + k) % 2 ^ 32)

/-- Where a row lies by its index entry: first unit and number of units. -/
def State.rowPlace (s : State) (g i o r : Nat) : Nat × Nat :=
  let e := s.idxEntry i o r
  (leAt e 0x18 4, rowBytes (s.arcTotal g) (leAt e 0x16 1) (s.rf i (Reg.PMT_ARC_CFG_SAMPLE_BITS.sh o)) (leAt e 0x17 1 / 32 % 4) / 64)

/-- OLDEST once a row of some units at a place, in the next index slot, is written (R282 step 2). -/
def State.oldestAfter (s : State) (g i o place units : Nat) : Nat :=
  let next := s.rf i (Reg.PMT_ARC_NEXT_ROW.sh o)
  let slots := Nat.max 1 (s.arcSize i o 1)
  let hit := (s.intactRows i o).filter (fun r =>
    let p := s.rowPlace g i o r
    r % slots == next % slots || (decide (p.1 < place + units) && decide (place < p.1 + p.2)))
  match hit.getLast? with
  | some r => (r + 1) % 2 ^ 32
  | none => s.rf i (Reg.PMT_ARC_OLDEST_ROW.sh o)

/-- The pin holds OLDEST back from a row (R283). -/
def State.pinned (s : State) (i o new : Nat) : Bool :=
  let old := s.rf i (Reg.PMT_ARC_OLDEST_ROW.sh o)
  let pin := s.rf i (Reg.PMT_ARC_PIN_ROW.sh o)
  let p := if s.intact i o pin then pin else old
  s.rb i (Reg.PMT_ARC_CTL_PIN_EN.sh o) && decide ((p + 2 ^ 32 - old) % 2 ^ 32 < (new + 2 ^ 32 - old) % 2 ^ 32)

/-- Add to a counter of a PMT. -/
def State.pmtCount (s : State) (i k n : Nat) : State := s.add i (Reg.PMT_CNT_COUNT.sh (4 * k)) n

/-- Lines that the archive skips (R283): the next row says so. -/
def State.arcSkip (s : State) (g i n : Nat) : State :=
  if n = 0 then s else ((s.pmtCount i 3 n).ev i Reg.PMT_EVENT_SKIP).arcMod g (fun x => { x with nextSkip := true })

/-- A group is refused or poisoned: stored raw in the next overflow slot, or lost (R277). The answer is its slot's bytes and its flags. -/
def State.groupRaw (s : State) (i o w budget : Nat) (rows : List (List Nat)) (poison : List Nat) : State × List Byte × Nat :=
  let n := (rows.headD []).length
  let h := rows.length
  let crc := groupCrc rows
  let pf := if poison.isEmpty then 0 else 32
  let fill := fun (l : List Byte) => l ++ List.replicate (slotBytes n h w budget - l.length) 0
  let size := s.arcSize i o 2
  if size = 0 then
    (((s.pmtCount i 2 1).ev i Reg.PMT_EVENT_LOST), fill (groupHeader crc 0 n h (64 + pf) 0), 2 + b2n (pf != 0) * 4)
  else
    let q := s.rf i (Reg.PMT_OVF_NEXT_SEQ.sh o)
    let a := s.arcBase i o 2 + q % size * (512 * w)
    let raw := packFields (rows.flatMap (fun l => l.map (fun x => (x, w))))
    let s1 := s.dramPut a (raw ++ List.replicate ((8 - raw.length % 8) % 8) 0) false
    let s2 := (poison.flatMap (fun k => [k * w / 64, (k * w + w - 1) / 64])).foldl (fun t k => t.setPoison (a / 8 + k) true) s1
    let s3 := s2.wf i (Reg.PMT_OVF_NEXT_SEQ.sh o) (if q = 2 ^ 32 - 1 then 1 else q + 1)
    (((s3.pmtCount i 1 1).ev i Reg.PMT_EVENT_REFUSED), fill (groupHeader crc 0 n h (16 + pf) q), 1 + b2n (pf != 0) * 4)

/-- A group is coded into its slot, or goes raw (R276, R277). -/
def State.groupCode (s : State) (i o w budget : Nat) (rows : List (List Nat)) (poison : List Nat) : State × List Byte × Nat :=
  let n := (rows.headD []).length
  let h := rows.length
  let p := packFields (groupFields w rows)
  if poison.isEmpty ∧ 16 + p.length ≤ slotBytes n h w budget then
    (s.pmtCount i 0 1, groupHeader (groupCrc rows) p.length n h 0 0 ++ p ++ List.replicate (slotBytes n h w budget - 16 - p.length) 0, 0)
  else s.groupRaw i o w budget rows poison

/-- The samples of a line in archive order, and the poisoned ones. -/
def archiveSamples (l : Line) : List Nat × List Nat :=
  (l.planes.flatMap (fun p => p.map Int.toNat),
   ((List.range l.planes.length).flatMap (fun p =>
     (l.poison.getD p []).map (fun c => c + ((l.planes.take p).map (fun q => q.length)).sum))))

/-- The groups of a row, one after the other. -/
def State.groupsGo (s : State) (i o w budget : Nat) (rows : List (List Nat × List Nat)) : List Nat → Nat → State × List Byte × Nat
  | [], _ => (s, [], 0)
  | n :: t, first =>
    let cut := rows.map (fun r => (r.1.drop first).take n)
    let bad := (List.range rows.length).flatMap (fun k =>
      ((rows.getD k ([], [])).2.filter (fun c => decide (first ≤ c) && decide (c < first + n))).map (fun c => k * n + (c - first)))
    let x := s.groupCode i o w budget cut bad
    let y := State.groupsGo x.1 i o w budget rows t (first + n)
    (y.1, x.2.1 ++ y.2.1, x.2.2 ||| y.2.2)

/-- Write the row of a carriage's open lines (R280 to R282). -/
def State.rowWrite (s : State) (g i o : Nat) (lines : List Line) (skip gap : Bool) : State :=
  let w := s.rf i (Reg.PMT_ARC_CFG_SAMPLE_BITS.sh o)
  let budget := s.rf i (Reg.PMT_ARC_CTL_BUDGET.sh o)
  let h := lines.length
  let units := rowBytes (s.arcTotal g) h w budget / 64
  let wr := s.rf i (Reg.PMT_ARC_WRITE_OFFSET.sh o)
  let place := if wr + units ≤ s.arcSize i o 0 then wr else 0
  let new := s.oldestAfter g i o place units
  if s.pinned i o new then (s.arcSkip g i h).ev i Reg.PMT_EVENT_PINNED
  else
    let next := s.rf i (Reg.PMT_ARC_NEXT_ROW.sh o)
    let s1 := s.wf i (Reg.PMT_ARC_OLDEST_ROW.sh o) new
    let tags := lines.flatMap (fun l => tagBytes g l.tag)
    let x := s1.groupsGo i o w budget (lines.map archiveSamples) (groupWidths (s.arcTotal g)) 0
    let s2 := x.1.dramPut (s.arcBase i o 0 + 64 * place) (tags ++ List.replicate (ceilDiv h 2 * 64 - tags.length) 0 ++ x.2.1) false
    let a := ((lines.head?).map (fun l => l.tag)).getD ⟨0, 0, 0, 0, 0, 0⟩
    let b := ((lines.getLast?).map (fun l => l.tag)).getD a
    let flags := x.2.2 + 8 * b2n skip + 16 * b2n gap + 32 * budget + 128 * b2n (lines.any (fun l => l.tag.flags.testBit 6))
    let e := toBytes 8 (unsgn 64 a.md) ++ toBytes 8 (unsgn 64 b.md) ++ toBytes 6 a.index ++ toBytes 1 h ++ toBytes 1 flags ++
      toBytes 4 place ++ toBytes 4 next
    ((s2.dramPut (s.idxAddr i o next) e false).wf i (Reg.PMT_ARC_NEXT_ROW.sh o) ((next + 1) % 2 ^ 32)).wf i (Reg.PMT_ARC_WRITE_OFFSET.sh o) (place + units)

/-- Close the open row of a carriage. -/
def State.rowClose (s : State) (g : Nat) : State :=
  let x := s.arcOf g
  match x.lines, s.pmtOf g with
  | [], _ => s
  | _, none => s.arcMod g (fun _ => ArcStream.fresh)
  | l, some (i, o) => (s.arcMod g (fun (y : ArcStream) => ({ y with lines := [], rowSkip := false, rowGap := false } : ArcStream))).rowWrite g i o l x.rowSkip x.rowGap

/-- The settings of carriage g's stream slot that are due at a line come into force; a change of BUDGET closes the row first (R280). -/
def State.arcApply (s : State) (g i o : Nat) (t : Tag) : State :=
  let mine := fun (k : Nat) => keyBlk k == .PMT && keyInst k == i && decide (0x100 + o ≤ keyOff k) && decide (keyOff k < 0x140 + o)
  let due := fun (a : Armed) => a.at_ t.md || (match a.line with
    | some n => decide (n ≤ t.index)
    | none => false)
  let u := s.armedTake g due mine
  if u.rf i (Reg.PMT_ARC_CTL_BUDGET.sh o) = s.rf i (Reg.PMT_ARC_CTL_BUDGET.sh o) then u else (s.rowClose g).armedTake g due mine

/-- A line joins the open row, or starts one where trigger numbers break or 16 lines are in. -/
def State.arcLine (s : State) (g i o : Nat) (l : Line) : State :=
  let s1 := s.arcApply g i o l.tag
  if s1.rf i (Reg.PMT_ARC_CTL_ENABLE.sh o) = 0 then s1.rowClose g
  else
    let x := s1.arcOf g
    let breaks : Bool := match x.lines.getLast? with
      | some p => p.tag.index + 1 != l.tag.index
      | none => false
    let full := decide (16 ≤ x.lines.length) || breaks
    let s2 := if full then s1.rowClose g else s1
    s2.arcMod g (fun (y : ArcStream) =>
      if y.lines = [] then ⟨[l], s.now, y.nextSkip, y.nextGap, false, false⟩
      else ({ y with lines := y.lines ++ [l], since := s.now } : ArcStream))

/-- ARCHIVE_LINE: the archive stream of carriage g takes the next line or marker of its tap; what the tap could not take is skipped and closes
the row (R280, R283). -/
def execArchiveLine (g : Nat) (s : State) : Host.Outcome State Fault Refusal :=
  .next (match s.pmtOf g with
    | none => s
    | some (i, o) =>
      match s.link g (s.hop g .ING) ⟨.PMT, i, 0⟩ with
      | none => s
      | some k =>
        let lost := (s.tapTake k).1
        let s1 := if lost = 0 then s else ((s.tapTake k).2.rowClose g).arcSkip g i lost
        match s1.mewHead k with
        | some (.line l) => (s1.mewPop k).arcLine g i o l
        | some (.gap _) => ((s1.mewPop k).rowClose g).arcMod g (fun (y : ArcStream) => ({ y with nextGap := true } : ArcStream))
        | some _ => s1.mewPop k
        | none => s1)

/-- ARCHIVE_ROW_CLOSE: the open row of carriage g with its 16 lines closes (R280). Its early ends come with the line, marker or event that
makes them. -/
def execArchiveRowClose (g : Nat) (s : State) : Host.Outcome State Fault Refusal :=
  .next (if 16 ≤ (s.arcOf g).lines.length then s.rowClose g else s)

/-- ARCHIVE_ROW_TIMEOUT: 1 ms without a line closes the open row of carriage g (R280). -/
def execArchiveRowTimeout (g : Nat) (s : State) : Host.Outcome State Fault Refusal :=
  .next (if (s.arcOf g).lines ≠ [] ∧ (s.arcOf g).since + 1000000 ≤ s.now then s.rowClose g else s)

/-- The newest intact row by the index alone, for a load that keeps the partitions (R284): NEXT, OLDEST, WRITE and OVF_NEXT are restored, and
the first row carries GAP_BEFORE. The rows are those of an unbroken run of numbers up to the newest. -/
def State.arcRestore (s : State) (g i o next oldest write ovf : Nat) : State :=
  ((((s.wf i (Reg.PMT_ARC_NEXT_ROW.sh o) next).wf i (Reg.PMT_ARC_OLDEST_ROW.sh o) oldest).wf i (Reg.PMT_ARC_WRITE_OFFSET.sh o) write).wf
    i (Reg.PMT_OVF_NEXT_SEQ.sh o) ovf).arcMod g (fun _ => { ArcStream.fresh with nextGap := true })

/-! ### Decoding (R278) -/

/-- The samples of a group and the poisoned ones, from its slot in the archive; and its state after the checks: counters and CRC. -/
def State.groupRead (s : State) (io oo job a n h w : Nat) : State × List (List Nat) × List Nat :=
  let hd := s.dramBytes a 16
  let fl := leAt hd 7 1
  let all := List.range (n * h)
  let zero := List.replicate h (List.replicate n 0)
  let fail := fun (t : State) => (((t.pmtCount job 5 1).ev job Reg.PMT_EVENT_CRC).wf job Reg.PMT_JOB_STATUS_CRC 1, zero, all)
  let s1 := s.pmtCount job 4 1
  if fl.testBit 6 then fail s1
  else if fl.testBit 4 then
    let q := leAt hd 8 4
    let size := s.arcSize io oo 2
    if size < (s.rf io (Reg.PMT_OVF_NEXT_SEQ.sh oo) + 2 ^ 32 - q) % 2 ^ 32 ∨ size = 0 then fail (s1.pmtCount job 6 1)
    else
      let b := s.arcBase io oo 2 + q % size * (512 * w)
      let v := ofBytes (s.dramBytes b ((n * h * w + 7) / 8))
      let xs := (List.range h).map (fun r => (List.range n).map (fun j => v / 2 ^ (w * (r * n + j)) % 2 ^ w))
      if fl.testBit 5 then
        let bad := all.filter (fun k => [k * w / 64, (k * w + w - 1) / 64].any (fun x => s.poisonAt (b / 8 + x)))
        (s1, xs, bad)
      else if groupCrc xs = leAt hd 0 4 then (s1, xs, []) else fail s1
  else
    match readGroup w n (ofBytes (s.dramBytes (a + 16) (leAt hd 4 2))) h 0 none with
    | none => fail s1
    | some xs => if groupCrc xs = leAt hd 0 4 then (s1, xs, []) else fail s1

/-- The groups of a row from an address on: rows of samples with their poisoned places, group by group. -/
def State.rowGroups (s : State) (io oo job h w budget : Nat) : List Nat → Nat → Nat → List (List Nat × List Nat) → State × List (List Nat × List Nat)
  | [], _, _, acc => (s, acc)
  | n :: t, a, first, acc =>
    let x := s.groupRead io oo job a n h w
    let acc1 := (List.range h).map (fun r =>
      let y := acc.getD r ([], [])
      (y.1 ++ x.2.1.getD r [], y.2 ++ (x.2.2.filter (fun k => k / n == r)).map (fun k => first + k % n)))
    State.rowGroups x.1 io oo job h w budget t (a + slotBytes n h w budget) (first + n) acc1

/-- The lines of a row. -/
def State.rowRead (s : State) (g io oo job r : Nat) : State × List ArcLine :=
  let e := s.idxEntry io oo r
  let h := leAt e 0x16 1
  let w := s.rf io (Reg.PMT_ARC_CFG_SAMPLE_BITS.sh oo)
  let budget := leAt e 0x17 1 / 32 % 4
  let a := s.arcBase io oo 0 + 64 * leAt e 0x18 4
  let x := s.rowGroups io oo job h w budget (groupWidths (s.arcTotal g)) (a + ceilDiv h 2 * 64) 0 []
  (x.1, (List.range h).map (fun k => ⟨s.dramBytes (a + 32 * k) 32, (x.2.getD k ([], [])).1, (x.2.getD k ([], [])).2⟩))

/-! ### Jobs (R285 to R289) -/

/-- A job that cannot start, or one that ends (R289). -/
def State.jobCode (s : State) (i code : Nat) : State :=
  let s1 := s.wf i Reg.PMT_JOB_STATUS_ERR_CODE code
  if code = 0 then (s1.wf i Reg.PMT_JOB_STATUS_DONE 1).ev i Reg.PMT_EVENT_JOB_DONE
  else (s1.wf i Reg.PMT_JOB_STATUS_ERR 1).ev i Reg.PMT_EVENT_JOB_ERR

/-- MD_FIRST and MD_LAST of a row. -/
def State.rowSpan (s : State) (i o r : Nat) : Int × Int :=
  let e := s.idxEntry i o r
  ((leAt e 0 8 : Nat), (leAt e 8 8 : Nat))

/-- Whether TARGET is a matching replay carriage of the PMT's coach (R287). -/
def State.targetFits (s : State) (i src target : Nat) : Bool :=
  match s.carr src, s.carr target with
  | some a, some b => b.role == 2 && target / 6 == i / 32 && a.format == b.format && a.inputWidth == b.inputWidth &&
      a.firstCol == b.firstCol && a.owned == b.owned
  | _, _ => false

/-- Start the job set up in PMT window i, or refuse it (R285, R287, R289). -/
def State.actJobGo (s : State) (i : Nat) : State :=
  let src := s.rf i Reg.PMT_JOB_CTL_SOURCE
  let target := s.rf i Reg.PMT_JOB_CTL_TARGET
  let dest := s.rf i Reg.PMT_JOB_CTL_DEST
  if s.rb i Reg.PMT_JOB_STATUS_BUSY then s.jobCode i 1
  else
    let s0 := ((s.wf i Reg.PMT_JOB_STATUS_HEAD_LOST 0).wf i Reg.PMT_JOB_STATUS_OVERRUN 0).wf i Reg.PMT_JOB_STATUS_CRC 0
    match s.pmtOf src with
    | none => s0.jobCode i 2
    | some (io, oo) =>
      let frm : Int := s.rf64 i Reg.PMT_JOB_FROM_LO_NM
      let hi := s.rf64 i Reg.PMT_JOB_TO_LO_NM
      let follow := hi == 2 ^ 64 - 1
      let til : Int := hi
      let rows := s.intactRows io oo
      let first := (rows.find? (fun r => decide (frm ≤ (s.rowSpan io oo r).2))).filter (fun r => follow || decide ((s.rowSpan io oo r).1 ≤ til))
      if dest = 0 ∧ !s.targetFits i src target then s0.jobCode i 3
      else if dest = 0 ∧ s.jobs.any (fun j => j.2.dest == 0 && j.2.target == target) then s0.jobCode i 4
      else
        match first with
        | none => s0.jobCode i 5
        | some r =>
          let dst := 64 * s.rf i Reg.PMT_JOB_DST_LO_ADDR + 2 ^ 32 * s.rf i Reg.PMT_JOB_DST_HI_ADDR
          let room := 64 * s.rf i Reg.PMT_JOB_DST_LEN_UNITS
          if dest = 1 ∧ room = 0 then s0.jobCode i 6
          else
            let lost := match rows.head? with
              | some q => decide (frm < (s.rowSpan io oo q).1)
              | none => false
            let s1 := ((((s0.wf i Reg.PMT_JOB_STATUS_HEAD_LOST (b2n lost)).wf i Reg.PMT_JOB_STATUS_BUSY 1).wf i Reg.PMT_STATUS_JOB_BUSY 1).wf
              i Reg.PMT_JOB_LINES_LINES 0).wf i Reg.PMT_JOB_STATUS_ERR_CODE 0
            let s2 := { s1 with jobs := cset s1.jobs i ⟨dest, src, target, til, follow, dst, room, r, [], 0, none, none⟩ }
            if dest = 0 then s2.pass target (s2.hop target .ING) .start false else s2

/-- End the job of a window with a code. -/
def State.jobEnd (s : State) (i code : Nat) : State :=
  match cget s.jobs i with
  | none => s
  | some _ =>
    ((({ s with jobs := cdel s.jobs i } : State).wf i Reg.PMT_JOB_STATUS_BUSY 0).wf i Reg.PMT_STATUS_JOB_BUSY 0).jobCode i code

/-- A running job will end with a code; the first cause stands. -/
def State.jobStop (s : State) (i code : Nat) : State :=
  match cget s.jobs i with
  | none => s
  | some j => if j.ending.isSome then s else { s with jobs := cset s.jobs i { j with ending := some code } }

/-- A write of PMT_JOB_CTL. -/
def State.actJobCtl (s : State) (i : Nat) (w : Word) : State :=
  let s1 := if w.toNat.testBit 1 then s.jobStop i 8 else s
  if w.toNat.testBit 0 then s1.actJobGo i else s1

/-- DECODE_JOB_GO: PMT_JOB_CTL.GO of window i. -/
def execDecodeJobGo (m : Nat) (w : Word) (i : Nat) (s : State) : Host.Outcome State Fault Refusal :=
  .next (s.regAct m i Reg.PMT_JOB_CTL_GO w (fun t => t.actJobCtl i (w ||| 1)))

/-- DECODE_JOB_ABORT: PMT_JOB_CTL.ABORT of window i (R288). -/
def execDecodeJobAbort (m : Nat) (w : Word) (i : Nat) (s : State) : Host.Outcome State Fault Refusal :=
  .next (s.regAct m i Reg.PMT_JOB_CTL_ABORT w (fun t => t.actJobCtl i (w ||| 2)))

/-- The job goes to its next row: over rows that are gone, to its end, or it waits at NEXT (R285, R288). -/
def State.jobRow (s : State) (i : Nat) (j : PmtJob) : State :=
  match s.pmtOf j.src with
  | none => s.jobStop i 9
  | some (io, oo) =>
    let next := s.rf io (Reg.PMT_ARC_NEXT_ROW.sh oo)
    if j.row = next then (if j.follow then s else s.jobStop i 0)
    else if !s.intact io oo j.row then
      ({ s with jobs := cset s.jobs i { j with row := s.rf io (Reg.PMT_ARC_OLDEST_ROW.sh oo) } } : State).wf i Reg.PMT_JOB_STATUS_OVERRUN 1 |>.ev
        i Reg.PMT_EVENT_OVERRUN
    else if !j.follow ∧ j.til < (s.rowSpan io oo j.row).1 then s.jobStop i 0
    else
      let x := s.rowRead j.src io oo i j.row
      { x.1 with jobs := cset x.1.jobs i { j with row := (j.row + 1) % 2 ^ 32, lines := x.2 } }

/-- A line into host memory (R286): tag, samples as 16-bit values, zero fill; words that hold poisoned samples are poisoned. -/
def State.jobToHost (s : State) (i : Nat) (j : PmtJob) (l : ArcLine) (rest : List ArcLine) : State :=
  let body := l.tag ++ l.samples.flatMap (toBytes 2)
  let size := alignUp body.length 64
  if j.room < j.used + size then s.jobStop i 7
  else
    let a := j.dst + j.used
    let s1 := s.dramWrite 0 a (body ++ List.replicate (size - body.length) 0) false
    let s2 := (l.poison.map (fun k => (32 + 2 * k) / 8)).foldl (fun t k => t.setPoison (a / 8 + k) true) s1
    ({ s2 with jobs := cset s2.jobs i { j with lines := rest, used := j.used + size, last := some l } } : State).inc i Reg.PMT_JOB_LINES_LINES

/-- The planes of an archived line: equal cuts of its samples. -/
def ArcLine.planes (l : ArcLine) (np : Nat) : List (List Int) × List (List Nat) :=
  let n := l.samples.length / Nat.max 1 np
  ((List.range np).map (fun p => ((l.samples.drop (p * n)).take n).map (fun (x : Nat) => (x : Int))),
   (List.range np).map (fun p => (l.poison.filter (fun k => k / Nat.max 1 n == p)).map (fun k => k % Nat.max 1 n)))

/-- A line into the replay carriage (R123, R287): REPLAY set, behind a marker of cause 0x16 where trigger numbers break. -/
def State.jobToCarriage (s : State) (i : Nat) (j : PmtJob) (l : ArcLine) (rest : List ArcLine) : State :=
  let g := j.target
  let h := s.hop g .ING
  if s.heldUp g h then s
  else
    let t := readTag l.tag
    let s1 := match j.last with
      | none => s
      | some p =>
        let q := readTag p.tag
        if q.index + 1 = t.index then s
        else s.pass g h (.gap ⟨0x16, q.index + 1, t.index - 1, q.md, t.md, q.time, t.time, t.index - 1 - q.index, false, true, 1, 0⟩) false
    let np := ((s.carr g).map (fun r => r.planes)).getD 1
    let x := l.planes np
    let line : Line := ⟨{ t with flags := t.flags ||| 4096 }, 0, s.rf (s.eng .ING g) Reg.ING_LINE_RB_ORDER, x.1, x.2, false, false, [], []⟩
    let s2 := (s1.replayApply g t.index t.md).ingMod g (fun q => { q with tagged := some (t.md, t.time) })
    ({ s2.pass g h (.line line) (!l.poison.isEmpty) with jobs := cset s.jobs i { j with lines := rest, last := some l } } : State).inc i
      Reg.PMT_JOB_LINES_LINES

/-- DECODE_LINE: the job of window i delivers its next line, reading the next row where none waits (R285 to R287). -/
def execDecodeLine (i : Nat) (s : State) : Host.Outcome State Fault Refusal :=
  .next (match cget s.jobs i with
    | none => s
    | some j =>
      if j.ending.isSome then s
      else
        match j.lines with
        | [] => s.jobRow i j
        | l :: rest => if j.dest = 1 then s.jobToHost i j l rest else s.jobToCarriage i j l rest)

/-- DECODE_JOB_END: a job that has reached its end, was aborted or lost its source or target ends with its code (R288, R289). -/
def execDecodeJobEnd (i : Nat) (s : State) : Host.Outcome State Fault Refusal :=
  .next (match cget s.jobs i with
    | some j => match j.ending with
      | some code => s.jobEnd i code
      | none => s
    | none => s)

end Sys2Proof.Machine
end

