-- ==== Sys2Proof/Machine/Pair.lean ====
section
/-! DEFINITION. The redundant pair: bypass outputs (R448), roles (R451 to R453), heartbeats (R455), the standby (R456 to R459), resyncs
(R461) and takeovers (R462 to R466). -/

namespace Sys2Proof.Machine

/-! ### Bypass outputs (R448) -/

/-- Whether the part is in Run or Stand, between them too. -/
def State.runOrStand (s : State) : Bool :=
  let st := s.rf 0 Reg.PWR_STATE_STATE
  !s.pwr.off && (st == 0 || st == 1 || st == 3 || (st == 4 && !s.pwr.fromBox))

/-- Whether BYP_HOLDn n is to be driven high. -/
def State.bypWanted (s : State) (n : Nat) : Bool :=
  let fn := s.rf 0 Reg.PAI_BYP_FN_FN / 4 ^ n % 4
  decide (11 ≤ s.rf 0 Reg.GLB_BOOT_STAGE_STAGE) && s.runOrStand &&
    (if fn = 1 then s.role == 2 || s.role == 4
     else if fn = 2 then s.rb 0 Reg.RNG_STATUS_LIVE
     else if fn = 3 then (s.rf 0 Reg.PAI_BYP_SW_HOLD).testBit n
     else false)

/-- Drive the outputs to a mask of levels. -/
def State.bypTo (s : State) (mask : Nat) : State :=
  let old := s.rf 0 Reg.PAI_BYP_LEVEL_LEVEL
  (List.range 8).foldl (fun (t : State) n => if old.testBit n = mask.testBit n then t else t.emit .bypHold n [b2n (mask.testBit n)])
    (s.wf 0 Reg.PAI_BYP_LEVEL_LEVEL mask)

/-- Drive every output as R448 says. -/
def State.bypShow (s : State) : State := s.bypTo (maskOf ((List.range 8).map s.bypWanted))

/-- Every output goes low. -/
def State.bypAllLow (s : State) : State := s.bypTo 0

/-! ### Roles (R451 to R453) -/

/-- The image's PAIR record. -/
def State.pairRec (s : State) : Option PairRec :=
  match s.hdr.active with
  | some im => im.pair
  | none => none

/-- Whether the hold input is wired and reads high. -/
def State.holdHigh (s : State) : Bool := s.rb 0 Reg.PAI_PINS_HOLD_EN && s.rb 0 Reg.PAI_STATUS_HOLD_IN

/-- The lanes of the mirror link that are up. -/
def State.mirrorUp (s : State) : List Nat := s.mirrorLanes.filter (fun l => s.laneRxUp l && s.laneTxUp l)

/-- HELLO on every up mirror lane. -/
def State.helloSend (s : State) : State :=
  match s.pairRec with
  | none => s
  | some r => s.mirrorUp.foldl (fun (t : State) l => t.emit .mirror 0x40
      [l, r.pairId, s.rf64 0 Reg.HDR_ACTIVE_ID_LO_ID, s.rf 0 Reg.PAI_CFG_SIDE, s.role, s.hw.firmware]) s

/-- The time of a part that stops being a standby comes from its PTP port where that is locked; otherwise it holds over (R371, R463). -/
def State.leaveMirrorTime (s : State) : State :=
  if s.rf 0 Reg.TMT_STATUS_SOURCE = 2 then
    if s.rf 0 Reg.TMT_STATUS_PORT_STATE = 9 then s.wf 0 Reg.TMT_STATUS_SOURCE 1 else (s.wf 0 Reg.TMT_STATUS_SOURCE 0).holdover
  else s

/-- Go to a role: STATE, EVENT.ROLE, the outputs. -/
def State.toRole (s : State) (n : Nat) : State :=
  let old := s.role
  let s1 := ((s.wf 0 Reg.PAI_STATUS_STATE n).evIf (old != n) 0 Reg.PAI_EVENT_ROLE).bypShow
  if old = 3 ∧ n ≠ 3 then s1.leaveMirrorTime else s1

/-- A part enters state 1 and says HELLO. -/
def State.joinPair (s : State) : State :=
  (((s.pairMod (fun (p : Pair) => ({ p with joinSince := some s.now, aligned := false, resync := none, waiting := [] } : Pair))).toRole
    1).resyncShow).helloSend

/-- Stage 11, or the end of a load in Run: with a PAIR section the part joins, else it is unpaired (R451, R452). -/
def State.pairStart (s : State) : State :=
  if s.rb 0 Reg.PAI_CFG_PRESENT then s.joinPair else (s.pairMod (fun _ => Pair.fresh)).toRole 0

/-- Solo primary with P-0002: what waited for the partner is written (R459). -/
def State.goSolo (s : State) : State := ((s.pcode 0x0002).toRole 4).flushAwaiting (2 ^ 64)

/-- Solo or detached, by the hold input (R452). -/
def State.goAlone (s : State) (detached solo : Nat) : State :=
  if s.holdHigh then (s.pcode detached).toRole 5 else if solo = 2 then s.goSolo else (s.pcode solo).toRole 4

/-- The carriages whose state a standby takes over. -/
def State.liveCars (s : State) : List Nat := (List.range s.carriageCount).filter s.live

/-- A record that a standby formed carries SHADOW; one it writes does not. -/
def Rec.setShadow (r : Rec) (on : Bool) : Rec :=
  let f := leAt r.body 2 2
  let g := if on then f ||| 0x20 else f - (f &&& 0x20)
  { r with body := putAt r.body 2 2 g }

/-- The archive of a carriage continues with the primary's row number, which no listed message carries (log 41), and GAP_BEFORE (R466). -/
def State.arcJoin (s : State) (g : Nat) : State :=
  let s1 := s.rowClose g
  match s1.pmtOf g with
  | some (i, o) =>
    (((s1.wf i (Reg.PMT_ARC_NEXT_ROW.sh o) (s1.freeVal 32)).wf i (Reg.PMT_ARC_OLDEST_ROW.sh o) (s1.freeVal 32)).drawn).arcMod g (fun _ =>
      { ArcStream.fresh with rowGap := true, nextGap := true })
  | none => s1

/-- A part becomes standby: every carriage's state is to be taken over by a resync (R466). -/
def State.becomeStandby (s : State) : State :=
  let cars := s.liveCars
  let s1 := (s.pairMod (fun _ => { Pair.fresh with waiting := cars, joinedAt := cars.map (fun g => (g, s.lblFront g)) })).strmMod 255
    (fun (t : Stream) => ({ t with recs := t.recs.map (fun r => r.setShadow true), awaiting := [], shadows := [] } : Stream))
  let s2 := ((s1.toRole 3).wf 0 Reg.PAI_STATUS_READY (b2n cars.isEmpty)).wf 0 Reg.TMT_STATUS_SOURCE 2
  let s3 := if s.rf 0 Reg.TMT_STATUS_STATE = 0 then s2 else s2.toTime 2
  (cars.foldl (fun (t : State) g => t.arcJoin g) s3).resyncNext

/-- A part becomes primary with a partner. -/
def State.becomePrimary (s : State) : State :=
  (s.pairMod (fun (p : Pair) => ({ p with joinSince := none } : Pair))).toRole 2

/-- PAIR_HELLO: a HELLO of the partner: its PAIR_ID and IMAGE_ID, side and role (R452). Two parts that are both primaries go by the
preference (log 42). -/
def execPairHello (pairId imageId side role : Nat) (s : State) : Host.Outcome State Fault Refusal :=
  .next (match s.pairRec with
    | none => s
    | some r =>
      let own := s.role
      if own = 0 ∨ own = 2 ∨ own = 3 then s
      else
        let s1 := s.pairMod (fun (p : Pair) => ({ p with joinSince := none } : Pair))
        if pairId ≠ r.pairId ∨ imageId ≠ s.rf64 0 Reg.HDR_ACTIVE_ID_LO_ID then s1.goAlone 0x0001 0x0001
        else
          let theirs := role = 2 ∨ role = 4
          let first := if s.rf 0 Reg.PAI_CFG_PREFERENCE = 2 then 1 else 0
          if own = 4 ∧ !theirs then s1.becomePrimary
          else if own ≠ 4 ∧ theirs then s1.becomeStandby
          else if s.rf 0 Reg.PAI_CFG_SIDE = first ∧ s.rf 0 Reg.PAI_CFG_SIDE ≠ side then s1.becomePrimary
          else s1.becomeStandby)

/-- PAIR_JOIN_TIMEOUT: no HELLO within PAI_JOIN.MS of stage 11 (R452). -/
def execPairJoinTimeout (s : State) : Host.Outcome State Fault Refusal :=
  .next (match s.pair.joinSince with
    | some t =>
      if s.role = 1 ∧ t + 1000000 * s.rf 0 Reg.PAI_JOIN_MS ≤ s.now then
        (s.pairMod (fun (p : Pair) => ({ p with joinSince := none } : Pair))).goAlone 0x0003 0x0002
      else s
    | none => s)

/-- PAIR_HOLD_CONFLICT: both hold inputs have been high for 1 ms: side B yields (R453). -/
def execPairHoldConflict (s : State) : Host.Outcome State Fault Refusal :=
  .next (if (s.role = 2 ∨ s.role = 4) ∧ s.holdHigh ∧ s.rf 0 Reg.PAI_CFG_SIDE = 1 then
      (((s.strmMod 255 (fun (t : Stream) => ({ t with awaiting := [] } : Stream))).pcode 0x0004).toRole 5).ev 0 Reg.PAI_EVENT_YIELD
    else s)

/-! ### Takeover (R462 to R464) -/

/-- Components of a carriage that began before the part rejoined, which was not resynced, are TRUNCATED (R466). -/
def truncBefore (m : Nat) (f : Feat) : Feat := if f.mfirst ≤ m then { f with flags := f.flags ||| 4 } else f

/-- Mark the open components and the sets of carriages that were not resynced. -/
def State.markUnsynced (s : State) : State :=
  (s.pair.joinedAt.filter (fun e => !s.pair.synced.contains e.1)).foldl (fun (t : State) e =>
    (t.lblMod e.1 (fun (y : Lbl) => ({ y with comps := y.comps.map (fun (c : Comp) => ({ c with feat := c.feat.map (truncBefore e.2) } : Comp)) } :
      Lbl))).strmMod 255 (fun (y : Stream) => ({ y with sets := y.sets.map (fun (d : DSet) => ({ d with parts := d.parts.map (fun (f : Frag) =>
        if f.carriage = e.1 then ({ f with feat := f.feat.map (truncBefore e.2) } : Frag) else f) } : DSet)) } : Stream))) s

/-- A shadow record that the former standby writes itself: without SHADOW, its patch offered, at the next SEQUENCE (R464). -/
def State.writeTaken (s : State) (r : Rec) : State :=
  let seq := s.nextSeq 255
  let q := r.setShadow false
  let x : State × Nat := match q.job with
    | some j => let y := s.patOffer { j with seq := seq }; (y.1, if y.2 then 0 else 0x2000)
    | none => (s, 0)
  x.1.storeRec 255 seq { q with body := putAt (putAt q.body 2 2 (leAt q.body 2 2 ||| x.2)) 8 8 seq }

/-- Whether a record comes after the last mirrored one (R247, R464). -/
def Pair.after (p : Pair) (r : Rec) : Bool :=
  match p.lastRec with
  | some q => q.before r
  | none => true

/-- The record stream continues (R464). -/
def State.takeStream (s : State) : State :=
  let t := s.strm 255
  let phi := t.phi
  let mine := (t.shadows.foldl (fun (a : List Rec) r => putRec r a) []).filter (fun r => s.pair.after r && decide (r.sort ≤ phi))
  let s1 := s.strmMod 255 (fun (y : Stream) => ({ y with
    shadows := [], awaiting := [], recs := (y.recs.filter (fun r => s.pair.after r)).map (fun r => r.setShadow false) } : Stream))
  ((mine.foldl (fun (u : State) r => u.writeTaken r) s1).recoveryGap 0x15 0xFF)

/-- The standby takes over, with a P-code or by a switchover (R463). -/
def State.takeover (s : State) (code : Option Nat) : State :=
  let s1 := match code with
    | some d => s.pcode d
    | none => s
  let s2 := s1.wf64 0 Reg.PAI_TAKE_POS_LO_NM s.webNm.toNat
  let off := s.way.offset + sgn 64 (s.rf64 0 Reg.PAI_WEB_OFFSET_LO_NM) * 4294967296
  let s3 := ({ s2 with way := { s2.way with offset := off } } : State).wf64 0 Reg.WAY_MASTER_OFFSET_LO_NM (unsgn 64 (rne off 4294967296))
  let s4 := ((s3.toRole 2).markUnsynced).takeStream
  let s5 := s4.pairMod (fun (p : Pair) => ({ p with
    liveFrom := some ((s.now : Int) + 1000 * s.rf 0 Reg.PAI_TAKE_SETTLE_US), resync := none, waiting := [], unmatched := [], own := [], theirs := [], handover := none } :
      Pair))
  ((s5.resyncShow).inc 0 Reg.PAI_CNT_COUNT).ev 0 Reg.PAI_EVENT_TAKEOVER

/-- HOLD_INPUT_LOW: the hold input has read low for 4 samples; a standby whose input had been high takes over (R462). -/
def execHoldInputLow (s : State) : Host.Outcome State Fault Refusal :=
  .next (let s1 := s.wf 0 Reg.PAI_STATUS_HOLD_IN 0
    if s.standby ∧ s.rb 0 Reg.PAI_PINS_HOLD_EN then s1.takeover (some 0x0010) else s1)

/-! ### Heartbeats (R454 to R456) -/

/-- HEARTBEAT: a heartbeat of the partner: its STATE, the last SEQUENCE it sent, Φ, DBM_ACK, its web position and its Timetable time. The
standby keeps the pair offset, and at the first heartbeat takes sequence and acknowledgement (R456, R466). -/
def execHeartbeat (state : Nat) (sent : Option Nat) (phi ack : Nat) (web : Int) (time : Nat) (s : State) : Host.Outcome State Fault Refusal :=
  .next (if s.role = 0 then s
  else
    let s1 := (s.wf 0 Reg.PAI_STATUS_MISSED 0).wf 0 Reg.PAI_STATUS_PARTNER (state % 8)
    let align := fun (t : State) => (t.wf64 0 Reg.DBM_SEQ_LO_SEQ ((sent.map (fun n => n + 1)).getD 0)).wf64 0 Reg.DBM_ACK_LO_SEQ ack
    if s.standby then
      let s2 := s1.wf64 0 Reg.PAI_WEB_OFFSET_LO_NM (unsgn 64 (web - (s1.webAt time).1))
      let s3 := s2.pairMod (fun (p : Pair) => ({ p with phi := Nat.max p.phi phi, aligned := true } : Pair))
      if s.pair.aligned then s3 else align s3
    else if s.role = 5 then align s1
    else s1)

/-- HEARTBEAT_SEND: every 30 µs a heartbeat goes out on every up mirror lane, and HELLO where the part is no standby (R452, R454). -/
def execHeartbeatSend (s : State) : Host.Outcome State Fault Refusal :=
  .next (if s.role = 0 ∨ !s.running then s
  else
    let next := s.nextSeq 255
    let s1 := s.mirrorUp.foldl (fun (t : State) l => t.emit .mirror 0x41
      [l, s.role, next, (s.strm 255).phi, s.dbmAck 255, unsgn 64 s.webNm, s.now]) s
    if s.standby then s1 else s1.helloSend)

/-- HEARTBEAT_MISSED: 30 µs without a heartbeat (R455): at the third in a row a standby takes over or detaches (R462), a primary goes on
alone (R459). Nothing is missed in sleep (R467). -/
def execHeartbeatMissed (s : State) : Host.Outcome State Fault Refusal :=
  .next (if (s.role ≠ 2 ∧ s.role ≠ 3) ∨ !s.running then s
  else
    let n := satN 3 (s.rf 0 Reg.PAI_STATUS_MISSED + 1)
    let s1 := (s.wf 0 Reg.PAI_STATUS_MISSED n).inc 0 (Reg.PAI_CNT_COUNT.sh 12)
    if n < 3 then s1
    else if s.role = 2 then s1.goSolo
    else if s.holdHigh then (s1.pcode 0x0003).toRole 5
    else s1.takeover (some 0x0011))

/-! ### What the standby takes from the primary (R456) -/

/-- Whether carriage g's parser takes the events of Waywiser port p (R115). -/
def State.listens (s : State) (g p : Nat) : Bool :=
  s.hasEng .ING g && s.ingF g Reg.ING_TRIG_ENABLE == 1 && s.ingF g Reg.ING_CFG_REPLAY == 0 && s.ingRuns g &&
    ((s.ingF g Reg.ING_TRIG_SRC == 0 && s.webPort == p) || (s.ingF g Reg.ING_TRIG_SRC == 1 && s.ingF g Reg.ING_TRIG_PORT == p))

/-- MIRROR_TRIGGER: a TRIGGER message: port, trigger number, instant, web position and speed there, POS_UNCERTAIN (R454, R456). -/
def execMirrorTrigger (port n : Nat) (instant : Int) (pos : Nat) (speed : Int) (unsure : Bool) (s : State) :
    Host.Outcome State Fault Refusal :=
  .next (if !s.standby then s
  else
    let p := port % 4
    let query := fun (t : Int) =>
      let x := (pos : Int) + rne (speed * (t - instant)) 4294967296
      ((if x < 0 then 0 else x).toNat, unsure)
    let s1 := s.pairMod (fun (q : Pair) => ({ q with trigs := cset q.trigs p ⟨n, instant, pos, speed, unsure⟩, silent := cset q.silent p [] } : Pair))
    (s.carriages.filter (fun g => s.listens g p)).foldl (fun (t : State) g =>
      (t.ingMod g (fun i => { i with next := n })).triggerBy g instant query) s1)

/-- MIRROR_EPOCH: an EPOCH message: carriage, start line T + L, epoch, unconfirmed flag (R454, R456). -/
def execMirrorEpoch (g line epoch : Nat) (unconfirmed : Bool) (s : State) : Host.Outcome State Fault Refusal :=
  .next (if !s.standby ∨ !s.hasEng .ING g then s
  else
    let s1 := if (s.ingOf g).epochs = [] then s.wf (s.ingWin g) Reg.ING_EPOCH_EPOCH ((epoch + 65535) % 65536) else s
    (s1.ingMod g (fun i => { i with epochs := i.epochs ++ [(some line, unconfirmed, s.now)] })).epochShow g)

/-- Shadows that the mirrored Φ has passed, and mirrored records that the own Φ has passed, without a match: counted, with P-0030 (R458). -/
def State.diverge (s : State) : State :=
  let t := s.strm 255
  let a := t.shadows.filter (fun r => decide (r.sort ≤ s.pair.phi))
  let b := s.pair.unmatched.filter (fun r => decide (r.sort ≤ t.phi) && !t.recs.any (fun q => q.same r))
  if a = [] ∧ b = [] then s
  else
    let s1 := s.strmMod 255 (fun (y : Stream) => ({ y with shadows := y.shadows.filter (fun r => decide (s.pair.phi < r.sort)) } : Stream))
    let s2 := s1.pairMod (fun (p : Pair) => ({ p with unmatched := p.unmatched.filter (fun r => !b.contains r) } : Pair))
    ((s2.add 0 (Reg.PAI_CNT_COUNT.sh 8) (a.length + b.length)).pcode 0x0030).ev 0 Reg.PAI_EVENT_DIVERGE

/-- A mirrored record gets into its slot, and a shadow of its key is dropped (R458). -/
def State.mirrorRec (s : State) (seq : Nat) (r : Rec) : State :=
  let q := s.queueOf 255
  let s1 := (s.dramPut (q.1 + 64 * (seq % Nat.max 1 q.2.1)) r.body false).wf64 0 Reg.DBM_SEQ_LO_SEQ (seq + 1)
  let s2 := s1.pairMod (fun (p : Pair) => ({ p with lastRec := some r } : Pair))
  if (s.strm 255).shadows.any (fun x => x.same r) then
    s2.strmMod 255 (fun (y : Stream) => ({ y with shadows := y.shadows.filter (fun x => !x.same r) } : Stream))
  else s2.pairMod (fun (p : Pair) => ({ p with unmatched := p.unmatched ++ [r] } : Pair))

/-- RECORDS: a RECORDS message: records in order with their SEQUENCE, and the Φ up to which the stream is complete (R454, R458). The
standby confirms what it holds (R459). -/
def execRecords (recs : List (Nat × Rec)) (phi : Nat) (s : State) : Host.Outcome State Fault Refusal :=
  .next (if !s.standby then s
  else
    let s1 := recs.foldl (fun (t : State) e => t.mirrorRec e.1 e.2) s
    let s2 := (s1.pairMod (fun (p : Pair) => ({ p with phi := Nat.max p.phi phi } : Pair))).diverge
    if recs = [] then s2 else s2.emit .mirror 0x4E [(recs.map (fun e => e.1)).foldl Nat.max 0])

/-- RECORDS_HELD: the highest SEQUENCE that the standby holds: the primary writes up to it (R459). -/
def execRecordsHeld (seq : Nat) (s : State) : Host.Outcome State Fault Refusal :=
  .next (if s.role = 2 then (s.flushAwaiting seq).shedShow else s)

/-- MIRROR_ACK: an ACK message: a value that was written to the primary's DBM_ACK (R456). -/
def execMirrorAck (v : Nat) (s : State) : Host.Outcome State Fault Refusal :=
  .next (if s.standby then (s.wf64 0 Reg.DBM_ACK_LO_SEQ v).shedShow else s)

/-- MIRROR_TIME: a TIME message, as the primary's time less the standby's own at that moment (R371, R454). -/
def execMirrorTime (offset : Int) (s : State) : Host.Outcome State Fault Refusal :=
  .next (if s.standby then s.servo (-offset) else s)

/-! ### Digests and resync (R460, R461) -/

/-- DIGEST: a DIGEST message: carriage, grid line, CRC-32C; the standby compares it with its own (R460). -/
def execDigest (g line crc : Nat) (s : State) : Host.Outcome State Fault Refusal :=
  .next (if s.standby then
      (s.pairMod (fun (p : Pair) => ({ p with theirs := (⟨g, line, crc, s.now⟩ :: p.theirs).take 256 } : Pair))).digestMeet
    else s)

/-- DIGEST_TIMEOUT: the primary's digest of carriage g has not come 10 ms after the own one: a mismatch (R460). -/
def execDigestTimeout (g : Nat) (s : State) : Host.Outcome State Fault Refusal :=
  .next (let late := fun (d : Dig) => d.carriage == g && decide (d.since + 10000000 ≤ s.now)
    if s.standby ∧ s.pair.own.any late then
      (s.pairMod (fun (p : Pair) => ({ p with own := p.own.filter (fun d => !late d) } : Pair))).digestBad g
    else s)

/-- RESYNC_REQUEST: a CONTROL resync-request for carriage g reaches the primary (R461 step 2). -/
def execResyncRequest (g : Nat) (s : State) : Host.Outcome State Fault Refusal :=
  .next (if s.role = 2 ∧ s.live g then
      s.pairMod (fun (p : Pair) => ({ p with snapWait := some g, snap := none, sending := none, queued := [] } : Pair))
    else s)

/-- Whether a record began on a carriage. -/
def Rec.ofCar (r : Rec) (g : Nat) : Bool :=
  match r.job with
  | some j => j.first == g
  | none => false

/-- A snapshot becomes the state of carriage g after line m_s (R461 step 3). -/
def State.snapLoad (s : State) (g : Nat) (x : Snapshot) : State :=
  let s1 := s.sprMod g (fun (y : Spr) =>
    let keep := (y.lines.filter (fun l => decide (l.line.grid ≤ x.line)))
    let known := decide (keep.length ≤ y.out - y.base)
    let lines := if known then keep else []
    ({ y with
      cols := x.cols, seeded := true, s := x.seed, lines := lines, base := if known then y.base else 0
      formed := if known then y.base + lines.length else 0, out := if known then y.base + lines.length else 0
      closing := none, hole := false, lastGrid := some x.line
      updates := y.updates.filter (fun u => decide (u.k ≤ x.line)), sent := y.sent.filter (fun e => decide (e.1 ≤ x.line))
      masks := y.masks.filter (fun e => decide (e.1 ≤ x.line)) } : Spr))
  let s2 := s1.segMod g (fun (y : Seg) =>
    ({ y with lines := [], base := 0, formed := 0, closing := none, before := some x.fg, lastGrid := some x.line } : Seg))
  let top := (x.comps.map (fun c => c.labels.foldl Nat.max c.label)).foldl Nat.max 0
  let s3 := s2.lblMod g (fun (y : Lbl) =>
    ({ y with comps := x.comps, before := x.before, lastLine := some x.line, next := Nat.max y.next (top + 1) } : Lbl))
  let s4 := (s3.wf (s3.ingWin g) Reg.ING_EPOCH_EPOCH (x.epoch % 65536)).ingMod g (fun i => { i with epochs := x.epochs })
  s4.strmMod 255 (fun (y : Stream) => ({ y with
    shadows := y.shadows.filter (fun r => !(r.ofCar g && decide (r.sort ≤ x.line)))
    recs := y.recs.filter (fun r => !(r.ofCar g && decide (r.sort ≤ x.line)))
    sets := (y.sets.map (fun (d : DSet) => ({ d with closed := joinNodes d.closed (d.members.filter (fun n => n.1 == g)) } : DSet))).filter
      (fun d => !d.members.all (fun n => n.1 == g)) } : Stream))

/-- Whether carriage g's own input for a grid line waits in Springs' Mews. -/
def State.ownWaits (s : State) (g m : Nat) : Bool :=
  match s.mewIn g (s.hop g .SPR) with
  | some k => (s.mew k).packets.any (fun p => match p.item with
    | some (.line l) => l.grid == m
    | _ => false)
  | none => false

/-- MIRROR_STATE: a STATE message for carriage g: the snapshot, or an SPR input line of the primary (R461 steps 3 and 4). -/
def execMirrorState (g : Nat) (msg : StateMsg) (s : State) : Host.Outcome State Fault Refusal :=
  .next (match s.pair.resync with
    | none => s
    | some r =>
      if !s.standby ∨ r.carriage ≠ g ∨ r.held.isSome then s
      else
        let put := fun (t : State) (q : Resync) => t.pairMod (fun (p : Pair) => ({ p with resync := some q } : Pair))
        match msg with
        | .snapshot x => put (s.snapLoad g x) { r with from_ := some x.line, last := x.line }
        | .line l =>
          if r.from_ = none ∨ l.grid ≤ r.last then s
          else if s.ownWaits g l.grid then put s { r with held := some l }
          else (put (s.sprIn g l) { r with last := l.grid }).sprRun g)

/-- Own items that the mirrored lines stood for leave Springs' Mews. -/
def State.dropOwn : Nat → Nat → Nat → State → State
  | 0, _, _, s => s
  | n + 1, g, last, s =>
    match s.mewIn g (s.hop g .SPR) with
    | none => s
    | some k =>
      match s.mewHead k with
      | some (.line l) => if l.grid ≤ last then State.dropOwn n g last (s.mewPop k) else s
      | some (.gap m) => if m.til ≤ last then State.dropOwn n g last (s.mewPop k) else s
      | _ => s

/-- RESYNC_SWITCH_BACK: the own input of the carriage has caught up: the standby goes on with its own lines and reports it (R461 steps 4 and
5). -/
def execResyncSwitchBack (s : State) : Host.Outcome State Fault Refusal :=
  .next (match s.pair.resync with
    | none => s
    | some r =>
      match r.held with
      | none => s
      | some _ =>
        let g := r.carriage
        let s1 := State.dropOwn 4096 g r.last s
        let s2 := s1.pairMod (fun (p : Pair) => ({ p with resync := none, synced := if p.synced.contains g then p.synced else g :: p.synced } : Pair))
        let s3 := (s2.emit .mirror 0x4D [4, g]).wf 0 Reg.PAI_STATUS_READY (b2n (s2.liveCars.all (fun x => s2.pair.synced.contains x)))
        (((s3.inc 0 (Reg.PAI_CNT_COUNT.sh 4)).pcode 0x0021).ev 0 Reg.PAI_EVENT_RESYNC).resyncNext)

/-- RESYNC_DONE: a CONTROL resync-done for carriage g reaches the primary, which places a gap record (R461 step 5). -/
def execResyncDone (g : Nat) (s : State) : Host.Outcome State Fault Refusal :=
  .next (if s.role = 2 then
      let s1 := (s.pairMod (fun (p : Pair) => ({ p with sending := none, queued := [] } : Pair))).recoveryGap 0x14 g
      ((s1.inc 0 (Reg.PAI_CNT_COUNT.sh 4)).pcode 0x0021).ev 0 Reg.PAI_EVENT_RESYNC
    else s)

/-- RESYNC_TIMEOUT: a resync has not reached step 5 within 100 ms (R461). -/
def execResyncTimeout (s : State) : Host.Outcome State Fault Refusal :=
  .next (match s.pair.resync with
    | none => s
    | some r =>
      if r.since + 100000000 ≤ s.now then
        (((s.pairMod (fun (p : Pair) => ({ p with resync := none } : Pair))).pcode 0x0022).ev 0 Reg.PAI_EVENT_RESYNC_FAIL).resyncNext
      else s)

/-! ### Switchover, detach, rejoin (R465, R466) -/

/-- PAI_CTL.SWITCHOVER (R465). -/
def State.actSwitchover (s : State) : State :=
  let foreign := s.role = 4 ∧ s.rf 0 Reg.PAI_STATUS_PARTNER = 5 ∧ s.mirrorUp ≠ [] ∧ s.dbmAck 255 = s.rf64 0 Reg.DBM_SEQ_LO_SEQ
  if (s.role = 2 ∨ foreign) ∧ s.pair.sending = none ∧ s.pair.snapWait = none ∧ s.yoke.commits = [] ∧ s.pair.handover = none then
    let p := s.pairPos
    (s.pairMod (fun (q : Pair) => ({ q with handover := some p } : Pair))).emit .mirror 0x4D [0, p]
  else s.pcode 0x0012

/-- SWITCHOVER: PAI_CTL.SWITCHOVER. -/
def execSwitchover (m : Nat) (w : Word) (s : State) : Host.Outcome State Fault Refusal :=
  .next (s.regAct m 0 Reg.PAI_CTL_SWITCHOVER w (fun t => t.actSwitchover))

/-- SWITCHOVER_CONTROL: a CONTROL switchover names the web position of the handover (R465). -/
def execSwitchoverControl (p : Nat) (s : State) : Host.Outcome State Fault Refusal :=
  .next (if s.role = 3 ∨ s.role = 5 then s.pairMod (fun (q : Pair) => ({ q with handover := some p } : Pair)) else s)

/-- The handover, once the web has reached P (R465). -/
def State.handoverCheck (s : State) : State :=
  match s.pair.handover with
  | none => s
  | some p =>
    if s.webNm < p then s
    else
      let s1 := s.pairMod (fun (q : Pair) => ({ q with handover := none } : Pair))
      if s.role = 2 ∨ s.role = 4 then (s1.strmMod 255 (fun (t : Stream) => ({ t with awaiting := [] } : Stream))).joinPair
      else if s.role = 3 ∨ s.role = 5 then s1.takeover none
      else s1

/-- TIMETABLE_TICK: n ticks pass with nothing between them (R370); a handover happens at the sample at which the web has reached P
(R465). -/
def execTimetableTick (n : Nat) (s : State) : Host.Outcome State Fault Refusal := .next (s.ticks n).handoverCheck

/-- PAI_CTL.DETACH: a standby goes to state 5; refused elsewhere (R466). -/
def State.actDetach (s : State) : State :=
  if s.standby then ((s.pairMod (fun (p : Pair) => ({ p with resync := none, waiting := [] } : Pair))).toRole 5).resyncShow else s.pcode 0x0012

/-- DETACH: PAI_CTL.DETACH. -/
def execDetach (m : Nat) (w : Word) (s : State) : Host.Outcome State Fault Refusal :=
  .next (s.regAct m 0 Reg.PAI_CTL_DETACH w (fun t => t.actDetach))

/-- PAI_CTL.REJOIN: a detached part returns to state 1; refused elsewhere (R466). -/
def State.actRejoin (s : State) : State := if s.role = 5 then s.joinPair else s.pcode 0x0012

/-- REJOIN: PAI_CTL.REJOIN. -/
def execRejoin (m : Nat) (w : Word) (s : State) : Host.Outcome State Fault Refusal :=
  .next (s.regAct m 0 Reg.PAI_CTL_REJOIN w (fun t => t.actRejoin))

end Sys2Proof.Machine
end

