-- ==== Sys2Proof/Machine/Rein.lean ====
section
/-! DEFINITION. The Reins: sources, channels, Buckles, task inputs and what sinks do, Rein cycle by Rein cycle (R354 to R369). -/

namespace Sys2Proof.Machine

/-- The coaches whose control clock runs (R369). -/
def State.reinUp (s : State) : List Nat := (List.range s.hw.coaches).filter (fun c => (s.rf 0 Reg.PWR_STATE_COACH_UP).testBit c)

/-! ### Channels (R354, R355, R368) -/

/-- The key of a channel as coach c names it: trunk channels are the package's. -/
def chanKey (c n : Nat) : Nat := if n < 64 then c * 128 + n else n

/-- RATE_LIMIT of a channel, by its key. -/
def State.keyRate (s : State) (k : Nat) : Nat :=
  if k % 128 < 64 then s.rf (unitOf (k / 128) 0) (Reg.REI_CH_CFG_RATE_LIMIT.sh (8 * (k % 128)))
  else s.rf 0 (Reg.REI_TR_CFG_RATE_LIMIT.sh (8 * (k % 64)))

/-- Whether a channel still passes an event in this rate window. -/
def State.keyOpen (s : State) (k : Nat) : Bool := decide (cgetD s.rein.window k 0 < s.keyRate k)

/-- A dropped event (R368). -/
def State.keyDrop (s : State) (k : Nat) : State :=
  if k % 128 < 64 then
    (s.inc (unitOf (k / 128) 0) (Reg.REI_CH_DROPS_COUNT.sh (8 * (k % 128)))).ev (unitOf (k / 128) 0) Reg.REI_EVENT_RATE_DROP
  else (s.inc 0 (Reg.REI_TR_DROPS_COUNT.sh (8 * (k % 64)))).ev 0 Reg.REI_EVENT_RATE_DROP

/-- The channels on which the sources of coach c put an event in this cycle (R357, R358). -/
def State.sourceKeys (s : State) (c : Nat) : List Nat :=
  let i := unitOf c 0
  ((List.range 256).filter (fun k => s.rb i (Reg.REI_SRC_ENABLE.sh (4 * k)) &&
    decide (0 < cgetD s.rein.cross (crossKey c (s.rf i (Reg.REI_SRC_SOURCE.sh (4 * k))) (s.rf i (Reg.REI_SRC_EVENT.sh (4 * k)))) 0))).map
    (fun k => chanKey c (s.rf i (Reg.REI_SRC_CHANNEL.sh (4 * k))))

/-- Every crossing counter of a running coach above 0 goes down by 1. -/
def State.crossDown (s : State) : State :=
  { s with rein := { s.rein with cross := (s.rein.cross.map (fun e =>
      if (s.rf 0 Reg.PWR_STATE_COACH_UP).testBit (e.1 / 16777216) then (e.1, e.2 - 1) else e)).filter (fun e => e.2 != 0) } }

/-! ### Buckles (R361, R362) -/

/-- A Buckle. -/
def State.buckle (s : State) (c b : Nat) : Buckle := cgetD s.rein.buckles (unitOf c b) ⟨false, false, false⟩

/-- The inputs of a Buckle of coach c under the channels that carry an event. -/
def State.buckleInputs (s : State) (c b : Nat) (on : List Nat) : Nat :=
  let w := s.rf (unitOf c 0) (Reg.BKL_IN_IN.sh (16 * b))
  maskOf ((List.range 4).map (fun k => let n := w / 256 ^ k % 256; n != 0xFF && on.contains (c * 128 + n)))

/-- A Buckle in a cycle: y, Q and its output. -/
def State.buckleStep (s : State) (c b : Nat) (on : List Nat) : Buckle :=
  let i := unitOf c 0
  let old := s.buckle c b
  let y := (s.rf i (Reg.BKL_CFG_LUT.sh (16 * b))).testBit (s.buckleInputs c b on)
  let q := if s.rb i (Reg.BKL_CFG_FF.sh (16 * b)) then old.prevY else y
  let out := match s.rf i (Reg.BKL_CFG_FILTER.sh (16 * b)) with
    | 1 => old.out
    | 2 => q && !old.prevQ
    | 3 => !q && old.prevQ
    | 4 => q != old.prevQ
    | _ => q
  ⟨y, q, out⟩

/-- The channels that the Buckles of coach c drive. -/
def State.buckleKeys (s : State) (c : Nat) (on : List Nat) : List Nat :=
  ((List.range 32).filter (fun b => s.rb (unitOf c 0) (Reg.BKL_OUT_ENABLE.sh (16 * b)) && (s.buckleStep c b on).out)).map
    (fun b => c * 128 + s.rf (unitOf c 0) (Reg.BKL_OUT_CHANNEL.sh (16 * b)))

/-- The local channels of coach c that carry an event, once the Buckles without a flip-flop have settled: no loop runs through them alone
(R363), so that 33 rounds reach every one. -/
def State.settleKeys (s : State) (c : Nat) (base : List Nat) : Nat → List Nat → List Nat
  | 0, on => on
  | n + 1, on => State.settleKeys s c base n ((base ++ s.buckleKeys c on).filter s.keyOpen)

/-- The Buckles of coach c after a cycle, shown in BKL_OUT. -/
def State.buckleShow (s : State) (c : Nat) (on : List Nat) : State :=
  (List.range 32).foldl (fun t b =>
    let i := unitOf c 0
    let x := s.buckleStep c b on
    let t1 := { t with rein := { t.rein with buckles := cset t.rein.buckles (unitOf c b) x } }
    (((t1.wf i (Reg.BKL_OUT_INPUTS.sh (16 * b)) (s.buckleInputs c b on)).wf i (Reg.BKL_OUT_Y.sh (16 * b)) (b2n x.prevY)).wf i
      (Reg.BKL_OUT_Q.sh (16 * b)) (b2n x.prevQ)).wf i (Reg.BKL_OUT_OUT.sh (16 * b)) (b2n x.out)) s

/-! ### Sinks (R359) -/

/-- Take one event of a task input, or all of them, and do something for it. -/
def State.sinkOne (s : State) (c sink task : Nat) (all : Bool) (act : State → State) : State :=
  let n := s.taskCount c sink task
  if n = 0 then s else act (s.taskTake c sink task (if all then n else 1))

/-- The engines of coach c whose task inputs are taken in a Rein cycle; Springs takes its own at line boundaries (R221). -/
def State.engineSinks (s : State) (c : Nat) : State :=
  s.dir.foldl (fun t e =>
    if e.coach ≠ c ∨ 0xF000 ≤ e.engn then t
    else if e.typ = Blk.typeCode .ING then
      let t1 := t.sinkOne c e.engn 0 false (fun u =>
        if u.rf (unitOf c e.inst) Reg.ING_TRIG_SRC = 2 then u.trigDue e.carriage u.now else u)
      t1.sinkOne c e.engn 1 false (fun u => u.actCamset e.carriage)
    else if e.typ = Blk.typeCode .PMT then t.sinkOne c e.engn 0 false (fun u => u.actJobGo (unitOf c e.inst))
    else t) s

/-- The interrupt sink of coach c (R359, R394): bits of the Rein interrupt status, and its vector. -/
def State.irqSink (s : State) (c i : Nat) : State :=
  s.sinkOne c 0xF016 i true (fun u =>
    let f := Reg.GLB_REIN_IRQ_BITS.sh (4 * c)
    State.edges u [20 + 8 * c] (u.wf 0 f (u.rf 0 f ||| 2 ^ i)))

/-- The fabric sinks of coach c. -/
def State.fabricSinks (s : State) (c : Nat) : State :=
  let s1 := (List.range 32).foldl (fun t n =>
    if t.rf (unitOf c 0) (Reg.DRY_CH_STATUS_STATE.sh (0x40 * n)) = 0 then t.sinkOne c 0xF014 n false (fun u => u.dryGo c n) else t) s
  let s2 := (List.range 8).foldl (fun t i => t.irqSink c i) s1
  if c ≠ 0 then s2
  else
    let s3 := (List.range 32).foldl (fun t p => t.sinkOne 0 0xF000 p true (fun u => u.gioStart 2 p (u.rf 0 Reg.REI_GIO_WIDTH_US))) s2
    let s4 := (List.range 4).foldl (fun t p => t.sinkOne 0 0xF001 p false (fun u => u.absRequest p)) s3
    let s5 := (List.range 4).foldl (fun t k => t.sinkOne 0 0xF002 k false (fun u => u.capture k)) s4
    s5.sinkOne 0 0xF015 0 false (fun u => u.yokeSink)

/-- The events that reach the task inputs of coach c (R360). -/
def State.arrivals (s : State) (c : Nat) (on : List Nat) : State :=
  let i := unitOf c 0
  ((List.range 256).filter (fun k => s.rb i (Reg.REI_SNK_ENABLE.sh (4 * k)) &&
    on.contains (chanKey c (s.rf i (Reg.REI_SNK_CHANNEL.sh (4 * k)))))).foldl
    (fun t k => t.taskAdd c (s.rf i (Reg.REI_SNK_SINK.sh (4 * k))) (s.rf i (Reg.REI_SNK_TASK.sh (4 * k))) 1) s

/-! ### A Rein cycle -/

/-- Watch flags of the channels that carry an event (R364). -/
def State.watch (s : State) (on : List Nat) : State :=
  on.foldl (fun t k =>
    let i := unitOf (k / 128) 0
    let n := k % 128
    if n < 32 then t.wf i Reg.REI_WATCH_LO_FLAGS (t.rf i Reg.REI_WATCH_LO_FLAGS ||| 2 ^ n)
    else if n < 64 then t.wf i Reg.REI_WATCH_HI_FLAGS (t.rf i Reg.REI_WATCH_HI_FLAGS ||| 2 ^ (n - 32))
    else t.wf 0 Reg.REI_TRUNK_WATCH_FLAGS (t.rf 0 Reg.REI_TRUNK_WATCH_FLAGS ||| 2 ^ (n - 64))) s

/-- Channels without repeats. -/
def uniq (l : List Nat) : List Nat := l.foldl (fun a k => if a.contains k then a else a ++ [k]) []

/-- What enters the trunk in this cycle: source events and those that software fires, each within its channel's rate. -/
def State.trunkEnter (s : State) : List Nat :=
  uniq (((s.reinUp.flatMap s.sourceKeys).filter (fun k => decide (64 ≤ k % 128))) ++ s.rein.fire.map (fun t => 64 + t))

/-- The trunk moves on by a cycle (R355): the channels that come out, and the state. -/
def State.trunkMove (s : State) : List Nat × State :=
  let moved := s.rein.trunk.map (fun e => (e.1, e.2 - 1))
  let enter := s.trunkEnter
  let out := (moved.filter (fun e => e.2 == 0)).map (fun e => 64 + e.1)
  let under := (moved.filter (fun e => e.2 != 0)) ++ (enter.filter s.keyOpen).map (fun k => (k - 64, 48))
  let s1 := (enter.filter (fun k => !s.keyOpen k)).foldl State.keyDrop s
  let win := (enter.filter s.keyOpen).foldl (fun m k => cmod m k 0 (fun n => n + 1)) s1.rein.window
  (out, { s1 with rein := { s1.rein with trunk := under, fire := [], window := win } })

/-- The local channels of coach c in this cycle, with what its limiters drop. -/
def State.localMove (s : State) (c : Nat) : List Nat × State :=
  let base := uniq ((s.sourceKeys c).filter (fun k => decide (k % 128 < 64)))
  let on := uniq (s.settleKeys c base 33 (base.filter s.keyOpen))
  let asked := uniq (base ++ s.buckleKeys c on)
  let s1 := (asked.filter (fun k => !s.keyOpen k)).foldl State.keyDrop (s.buckleShow c on)
  (on, { s1 with rein := { s1.rein with window := on.foldl (fun m k => cmod m k 0 (fun n => n + 1)) s1.rein.window } })

/-- REIN_CYCLE: one cycle of the Reins of every running coach (R354 to R362): channels carry their events, Buckles evaluate, watch flags
set, sinks take what was pending, and what arrives is added. -/
def execReinCycle (s : State) : Host.Outcome State Fault Refusal :=
  .next (let up := s.reinUp
    if up = [] then s
    else
      let tr := s.trunkMove
      let loc := up.foldl (fun (a : List Nat × State) c => let r := a.2.localMove c; (a.1 ++ r.1, r.2)) tr
      let s1 := (loc.2.crossDown).watch loc.1
      let s2 := up.foldl (fun t c => (t.engineSinks c).fabricSinks c) s1
      let s3 := up.foldl (fun t c => t.arrivals c loc.1) s2
      { s3 with rein := { s3.rein with carry := loc.1 } })

/-- REIN_SOURCE_EVENT: a source of coach c raises an event (R357, R358). -/
def execReinSourceEvent (c src ev : Nat) (s : State) : Host.Outcome State Fault Refusal :=
  .next (if s.hw.coaches ≤ c then s else s.reinRaise c (src % 65536) (ev % 256) 1)

/-- BUCKLE_GLITCH_ACCEPT: the new value of Q of Buckle b of coach c has held for GLITCH pace clocks (R362). -/
def execBuckleGlitchAccept (c b : Nat) (s : State) : Host.Outcome State Fault Refusal :=
  .next (let x := s.buckle c b
    if s.rf (unitOf c 0) (Reg.BKL_CFG_FILTER.sh (16 * b)) = 1 ∧ b < 32 then
      { s with rein := { s.rein with buckles := cset s.rein.buckles (unitOf c b) { x with out := x.prevQ } } }
    else s)

/-- REIN_RATE_WINDOW: a rate window of 1 µs ends (R368). -/
def execReinRateWindow (s : State) : Host.Outcome State Fault Refusal := .next { s with rein := { s.rein with window := [] } }

/-! ### Security (R365 to R367) -/

/-- A write that R366 or R367 refuses: discarded whole, with G-0012, REI_DENIED of its window and the event. -/
def State.reinDenied (s : State) (m c chan kind off : Nat) : State :=
  let i := unitOf c 0
  ((((s.wf i Reg.REI_DENIED_MASTER m).wf i Reg.REI_DENIED_CHANNEL chan).wf i Reg.REI_DENIED_KIND kind).ev i Reg.REI_EVENT_DENIED).gcode 0x0012 off m

/-- The first secure trunk channel of a mask. -/
def State.secureTrunk (s : State) (w : Nat) : Option Nat :=
  (List.range 32).find? (fun t => w.testBit t && s.rb 0 (Reg.REI_TR_CFG_SECURE.sh (8 * t)))

/-- REI_TRUNK_FIRE: each named trunk channel carries an event in the Rein cycle after the write (R364). -/
def State.actTrunkFire (s : State) (m : Nat) (w : Word) : State :=
  match (if secureMaster m then none else s.secureTrunk w.toNat) with
  | some t => s.reinDenied m 0 (64 + t) 2 (s.offsetOf (regKey .REI 0 0x14))
  | none => { s with rein := { s.rein with fire := uniq (s.rein.fire ++ (List.range 32).filter (fun t => w.toNat.testBit t)) } }

/-- REIN_TRUNK_FIRE: a write to REI_TRUNK_FIRE (R364, R367). -/
def execReinTrunkFire (m : Nat) (w : Word) (s : State) : Host.Outcome State Fault Refusal :=
  .next (s.regDo m 0 Reg.REI_TRUNK_FIRE_FIRE w (fun t => t.actTrunkFire m w))

/-! ### GIO inputs (R357, R429, R462) -/

/-- GIO_INPUT_EDGE: the new level of an input pin has held for FILTER samples (R357); while the part sleeps it is a wake event instead. A
rise of the hold input shows there. -/
def execGioInputEdge (pin : Nat) (rising : Bool) (s : State) : Host.Outcome State Fault Refusal :=
  .next (if 32 ≤ pin ∨ s.pwr.off ∨ s.hw.gio.testBit pin = rising ∨ s.gioIsOutput pin then s
  else
    let s1 := { s with hw := { s.hw with gio := if rising then s.hw.gio ||| 2 ^ pin else s.hw.gio - 2 ^ pin } }
    let s2 := if rising ∧ s.rf 0 Reg.PAI_PINS_HOLD_GIO = pin ∧ s.inPair then s1.wf 0 Reg.PAI_STATUS_HOLD_IN 1 else s1
    (s2.reinRaise 0 0xF000 (2 * pin + b2n (!rising)) 1).wakeSource 3 pin)

end Sys2Proof.Machine
end

