-- ==== Sys2Proof/Machine/Bus.lean ====
section
/-! DEFINITION. One register write from outside, with every action that its WP bits start (R10, R401 to R404, R476). The actions that stop
or restart the part come from above as a parameter, since a harness apply writes registers too (R59). -/

namespace Sys2Proof.Machine

/-- Whether a word has a bit set. -/
def bitOn (w : Word) (n : Nat) : Bool := w.toNat.testBit n

/-- Act if a bit is set. -/
def State.on (s : State) (b : Bool) (act : State → State) : State := if b then act s else s

/-! ### Global blocks -/

/-- GLB_IRQ_EOI: service of a vector ends, and it sends again if its level is still 1 (R395, log 5). -/
def State.actEoi (s : State) (v : Nat) : State :=
  if v = 0 then
    if s.irq.glbNew = 2 then ({ s with irq := { s.irq with glbNew := 1 } } : State).sendVector 0
    else { s with irq := { s.irq with glbNew := 0 } }
  else if s.irqLevel v then s.sendVector v else s

/-- GLB_GUARD: a master writes its own bit only (R401). -/
def State.guardWrite (s : State) (m : Nat) (w : Word) : State :=
  if m = mHost then s.wf 0 Reg.GLB_GUARD_HOST (getBits w 0 0)
  else if m = mOut then s.wf 0 Reg.GLB_GUARD_OUTRIDER (getBits w 1 1)
  else s

/-- A write in the GLB window. -/
def State.glbWrite (s : State) (m : Nat) (l : Loc) (w : Word) : State :=
  if l.off = 0x10C then s.guardWrite m w
  else if l.off = 0x168 then s.actEoi (getBits w 7 0)
  else s.codeWrite m l w

/-- A write in the HDR window, but for HDR_CTL: the keys are the Outrider's alone (R63), HDR_OR_DATA appends (R64). -/
def State.hdrWrite (s : State) (m : Nat) (l : Loc) (w : Word) : State :=
  if l.off = 0x2C then s.actOrData m w
  else if 0x34 ≤ l.off ∧ l.off < 0x70 then
    if m ≠ mOut then s.keyRefused m (0x1000 + l.off)
    else
      let s1 := s.codeWrite m l w
      if l.off = 0x34 then (s1.on (bitOn w 2) (fun t => t.actEnrol)).on (bitOn w 3) (fun t => t.actRevoke) else s1
  else
    let s1 := s.codeWrite m l w
    if l.off = 0x30 then s1.on (bitOn w 31) (fun t => t.actOrClear) else s1

/-- A write of a mailbox's mask can raise its signal (R417). -/
def State.maskWrite (s : State) (m mb : Nat) (l : Loc) (w : Word) : State :=
  let s1 := s.codeWrite m l w
  let r := s1.rf 0 (pst Reg.PST_CFG_RECEIVER mb)
  let s2 := if !s.hornHigh mb && s1.hornHigh mb && decide (0x20 ≤ r) && decide (r < 0x30) then s1.emit .coreIrq r [mb] else s1
  State.edges s [3] s2

/-- A write in the PST window (R415 to R417). -/
def State.pstWrite (s : State) (m : Nat) (l : Loc) (w : Word) : State :=
  let mb := l.off / 0x100
  let o := l.off % 0x100
  if o = 4 then
    ((s.on (bitOn w 0) (fun t => t.actSend m mb)).on (bitOn w 1) (fun t => t.actTake m mb)).on (bitOn w 2) (fun t => t.actAbort m mb)
  else if o = 0x0C then s.ringHorn mb w
  else if o = 0x10 then s.actHornClear m mb w
  else if o = 0x14 then s.maskWrite m mb l w
  else if 0x40 ≤ o then s.slotWrite m mb ((o - 0x40) / 4) w
  else s.codeWrite m l w

/-- A write in the LCH window (R419, R421). -/
def State.lchWrite (s : State) (m : Nat) (l : Loc) (w : Word) : State :=
  let n := (l.off - 0x100) / 8
  if l.off < 0x100 then s.codeWrite m l w
  else if !bitOn w 31 then s
  else if l.off % 8 = 0 then s.pinRelease m n
  else s.actForce m n

/-- A write in the TMT window (R375, R376, R379, R497; TMT_ASYM_IN and OUT are those of the lane that TMT_ASYM_SEL names). -/
def State.tmtWrite (s : State) (m : Nat) (l : Loc) (w : Word) : State :=
  let lane := s.rf 0 Reg.TMT_ASYM_SEL_LANE
  let a := cgetD s.tmt.asym lane (0, 0)
  if l.off = 0x14 then s.actTmtCmd w
  else if l.off = 0x64 then { s with tmt := { s.tmt with asym := cset s.tmt.asym lane (w.toNat, a.2) } }
  else if l.off = 0x68 then { s with tmt := { s.tmt with asym := cset s.tmt.asym lane (a.1, w.toNat) } }
  else if l.off = 0x110 then s.codeWrite m l (w &&& ~~~(0xFF : Word))
  else
    let s1 := s.codeWrite m l w
    if l.off = 0x10C then s1.actLaunch w
    else if 0x200 ≤ l.off ∧ l.off % 0x20 = 0 then s1.gioShow s (gioNamed [s, s1] 1 ((l.off - 0x200) / 0x20))
    else s1

/-- A write in the WAY window (R150, R162). -/
def State.wayWrite (s : State) (m : Nat) (l : Loc) (w : Word) : State :=
  let s1 := s.codeWrite m l w
  if l.off < 0x800 then if l.off % 0x100 = 0x10 ∧ 0x100 ≤ l.off then s1.actWayCmd (l.off / 0x100 - 1) w else s1
  else
    let u := (l.off - 0x800) / 0x40
    if l.off % 0x40 = 0 then s1.actCmpCtl u s
    else if l.off % 0x40 = 0x10 then s1.actCmpPush u w
    else s1

/-- A write in the PWR window, but for PWR_CTL, PWR_CMD and PWR_RESET_CTL: a bit set in PWR_WAKE_HORN is a wake source (R429). In
Box-only only the Outrider reaches it. -/
def State.pwrWrite (s : State) (m : Nat) (l : Loc) (w : Word) : State :=
  if l.off = 0x14 then
    if m ≠ mOut ∧ s.rf 0 Reg.PWR_STATE_STATE = 2 then s
    else
      (List.range 16).foldl (fun t mb => if bitOn w mb then t.wakeSource 4 mb else t) (s.codeWrite m l w)
  else s.codeWrite m l w

/-- A write in the YOK window: YOK_CTL cancels, discards and requests, in that order (R406, R410). -/
def State.yokWrite (s : State) (m : Nat) (l : Loc) (w : Word) : State :=
  let s1 := s.codeWrite m l w
  if l.off = 0 then
    ((s1.on (bitOn w 1) (fun t => t.actYokeCancel m)).on (bitOn w 2) (fun t => t.actYokeDiscard m)).on (bitOn w 0) (fun t => t.actYokeRequest m)
  else s1

/-- A write in the PAI window (R448, R465, R466). -/
def State.paiWrite (s : State) (m : Nat) (l : Loc) (w : Word) : State :=
  let s1 := s.codeWrite m l w
  if l.off = 0x0C then
    ((s1.on (bitOn w 0) (fun t => t.actSwitchover)).on (bitOn w 1) (fun t => t.actDetach)).on (bitOn w 2) (fun t => t.actRejoin)
  else if l.off = 0x80 ∨ l.off = 0x84 then s1.bypShow
  else s1

/-! ### Fabric blocks -/

/-- A write in a lane's window. -/
def State.lanWrite (s : State) (m : Nat) (l : Loc) (w : Word) : State :=
  let n := l.inst / 32 * 16 + l.inst % 32
  let s1 := s.codeWrite m l w
  if l.off = 8 then s1.actLanCtl n w
  else if l.off = 0x0C then if s1.running then s1.laneFollow n else s1
  else if l.off = 0x10 then s1.on (bitOn w 14) (fun t => t.actSetGo n)
  else if l.off = 0x30 then s1.actPrbs n (s.lf n Reg.LAN_PRBS_CTL_PATTERN)
  else s1

/-- A write in a DMC, MEW, DRY, WHT, WWT or PMT window. One partition is selected for every DMC window. -/
def State.fabWrite (s : State) (m : Nat) (l : Loc) (w : Word) : State :=
  let i := l.inst
  let c := i / 32
  let s1 := s.codeWrite m l w
  match l.blk with
  | .DMC =>
    if l.off = 0x44 then s1.on (bitOn w 0) (fun t => t.actRemountGo i)
    else if l.off = 0xA0 then (s1.windows .DMC).foldl (fun (t : State) j => t.wf j Reg.DMC_PART_SEL_PARTITION (s1.rf i Reg.DMC_PART_SEL_PARTITION)) s1
    else s1
  | .MEW =>
    if l.off = 8 then s1.on (bitOn w 31) (fun t => t.actMewFlush c (t.rf i Reg.MEW_FLUSH_MEWS))
    else if 0x1000 ≤ l.off ∧ l.off % 16 = 8 then s1.on (bitOn w 31) (fun t => t.actPeakClear c ((l.off - 0x1008) / 16))
    else s1
  | .DRY =>
    let s2 := State.edges s [18 + 8 * c] s1
    if 0x100 ≤ l.off ∧ l.off % 0x40 = 4 then s2.actDry c ((l.off - 0x100) / 0x40) w
    else if 0x40 ≤ l.off ∧ l.off < 0x80 then s2.on (bitOn w 31) (fun t => t.wf i (Reg.DRY_REQ_CREDIT.sh (l.off - 0x40)) 0)
    else s2
  | .WHT => if l.off = 4 then s1.on (bitOn w 1) (fun t => t.actClearStarve i) else s1
  | .WWT => if l.off = 4 then s1.actWwtCtl c w else s1
  | .PMT => if l.off = 0x400 then s1.actJobCtl i w else s1
  | _ => s1

/-! ### The Reins (R364 to R367) -/

/-- The secure bits of a watch register of coach c: local channels lo to lo + 31, or the trunk channels. -/
def State.secureBits (s : State) (c lo : Nat) : Word :=
  BitVec.ofNat 32 (maskOf ((List.range 32).map (fun k => s.chanSecure c (lo + k))))

/-- A write of a watch register: clears flags, and is refused whole if a non-secure master names a secure channel's (R364, R367). -/
def State.watchWrite (s : State) (m : Nat) (l : Loc) (w : Word) : State :=
  let lo := if l.off = 8 then 0 else if l.off = 0x0C then 32 else 64
  let bad := w &&& s.secureBits (l.inst / 32) lo
  if !secureMaster m && bad != 0 then
    let k := ((List.range 32).find? (fun n => bitOn bad n)).getD 0
    s.reinDenied m (l.inst / 32) (lo + k) 3 (s.offsetOf (regKey .REI l.inst l.off))
  else s.codeWrite m l w

/-- The channels that a reroute touches (R366): the old and the staged channel of a binding entry, the output channel of a Buckle, old and
staged, and the channel of a CFG register. The old channel of an entry not in use counts for nothing (log 53). -/
def State.rerouted (s : State) (l : Loc) (w : Word) : List Nat :=
  let i := l.inst
  if l.blk = .BKL then
    let b := (l.off - 0x100) / 16 * 16
    let old := if s.rb i (Reg.BKL_OUT_ENABLE.sh b) then [s.rf i (Reg.BKL_OUT_CHANNEL.sh b)] else []
    let new := if l.off % 16 = 8 then w else s.stagedWord .BKL i (0x108 + b)
    old ++ [getBits new Reg.BKL_OUT_CHANNEL.hi Reg.BKL_OUT_CHANNEL.lo]
  else if l.off < 0x300 then [(l.off - 0x100) / 8]
  else if l.off < 0x400 then [64 + (l.off - 0x300) / 8]
  else
    let old := s.word .REI i l.off
    (if bitOn old 31 then [getBits old 30 24] else []) ++ [getBits w 30 24]

/-- KIND of a refused reroute in REI_DENIED. -/
def rerouteKind (l : Loc) : Nat := if l.blk = .BKL then 5 else if l.off < 0x400 then 4 else 1

/-- A reroute: staged if the writer owns every channel it touches or is the Outrider, else refused whole (R366, R367). -/
def State.reroute (s : State) (m : Nat) (l : Loc) (w : Word) : State :=
  let c := l.inst / 32
  match (if m = mOut then none else (s.rerouted l w).find? (fun n => s.chanOwner c n != m)) with
  | some n => s.reinDenied m c n (rerouteKind l) (s.offsetOf (regKey l.blk l.inst l.off))
  | none => s.codeWrite m l w

/-- A write in a REI window; trunk registers exist in C0's only. -/
def State.reiWrite (s : State) (m : Nat) (l : Loc) (w : Word) : State :=
  if l.inst ≠ 0 ∧ ((0x10 ≤ l.off ∧ l.off < 0x18) ∨ (0x300 ≤ l.off ∧ l.off < 0x400)) then s
  else if 8 ≤ l.off ∧ l.off < 0x14 then s.watchWrite m l w
  else if l.off = 0x14 then s.actTrunkFire m w
  else if l.off = 0x20 then
    let k := crossKey (l.inst / 32) (s.rf l.inst Reg.REI_TASK_SEL_SINK) (s.rf l.inst Reg.REI_TASK_SEL_TASK)
    if bitOn w 4 then { s with rein := { s.rein with ovf := s.rein.ovf.filter (fun x => x != k) } } else s
  else if 0x100 ≤ l.off then s.reroute m l w
  else s.codeWrite m l w

/-! ### Stage engines -/

/-- A write in an ING window (R130, R134, R136). -/
def State.ingWrite (s : State) (m : Nat) (l : Loc) (w : Word) : State :=
  let g := s.carriageAt .ING l.inst
  let s1 := s.codeWrite m l w
  if l.off = 0x90 then s1.on (bitOn w 3) (fun t => t.actCamset g)
  else if l.off = 0xC0 then s1.on (bitOn w 0) (fun t => t.actTunnel g)
  else if l.off = 0x140 then s1.on (bitOn w 31) (fun t => t.actEvtPop g)
  else s1

/-- A write in a TRU or RGA window: ABORT, then LOAD (R179, R180). -/
def State.tblWrite (s : State) (m : Nat) (l : Loc) (w : Word) (rga : Bool) : State :=
  let g := s.carriageAt l.blk l.inst
  let s1 := s.codeWrite m l w
  if l.off = (if rga then 0x10 else 0x0C) then (s1.on (bitOn w 2) (fun t => t.actTblAbort g rga)).on (bitOn w 1) (fun t => t.actTblLoad g rga)
  else s1

/-- A write in an SPR window (R221). -/
def State.sprWrite (s : State) (m : Nat) (l : Loc) (w : Word) : State :=
  let s1 := s.codeWrite m l w
  if l.off = 0x14 then (s1.on (bitOn w 0) (fun t => t.actSprTask l.inst 0)).on (bitOn w 1) (fun t => t.actSprTask l.inst 1) else s1

/-- A write in a CPL window: a unit with LINK 3 does not exist, and its registers discard writes. -/
def State.cplWrite (s : State) (m : Nat) (l : Loc) (w : Word) : State :=
  if s.rf l.inst (Reg.CPL_CFG_LINK.sh (l.off / 0x100 * 0x100)) = 3 then s else s.codeWrite m l w

/-- A write in a DBM window: the registers of the live DBM exist in its window only, a replay group in its carriage's (R256, R261). -/
def State.dbmWrite (s : State) (m : Nat) (l : Loc) (w : Word) : State :=
  let g := 6 * (l.inst / 32) + (l.off - 0x300) / 16
  if l.inst ≠ 0 ∧ ((0x14 ≤ l.off ∧ l.off < 0x40) ∨ l.off = 0x50 ∨ l.off = 0x58 ∨ l.off = 0x5C ∨ (0x100 ≤ l.off ∧ l.off ≤ 0x200)) then s
  else if 0x300 ≤ l.off then
    if !s.isReplay g then s
    else if l.off % 16 = 8 then s.actAckLow g w
    else if l.off % 16 = 12 then s.actAck g w
    else s.codeWrite m l w
  else if l.off = 0x38 then s.actAckLow 255 w
  else if l.off = 0x3C then s.actAck 255 w
  else s.codeWrite m l w

/-! ### Every write -/

/-- The staged word that a write may leave: REQUESTER of a fixed Whiffletree input is the part's (R344). -/
def State.fixedInputs (s : State) (l : Loc) (w : Word) : Word :=
  let u := l.inst % 32
  let f := Reg.WHT_IN_REQUESTER.sh (4 * 15)
  if l.blk = .WHT ∧ l.off = f.off ∧ (whtEmergency u ∨ u = 8) then
    putBits w f.hi f.lo (getBits (s.stagedWord .WHT l.inst f.off) f.hi f.lo)
  else w

/-- The effect of a write on the register it reaches. HDR_CTL, PWR_CTL, PWR_CMD and PWR_RESET_CTL go to `top` after their access codes. -/
def State.writeAt (top : State → Nat → Loc → Word → State) (s : State) (m : Nat) (l : Loc) (w : Word) : State :=
  match l.blk with
  | .GLB => s.glbWrite m l w
  | .HDR => if l.off = 0 then top (s.codeWrite m l w) m l w else s.hdrWrite m l w
  | .YOK => s.yokWrite m l w
  | .PST => s.pstWrite m l w
  | .LCH => s.lchWrite m l w
  | .TMT => s.tmtWrite m l w
  | .WAY => s.wayWrite m l w
  | .PWR => if l.off = 4 ∨ l.off = 0x18 then top (s.codeWrite m l w) m l w else if l.off = 0x20 then top s m l w else s.pwrWrite m l w
  | .PAI => s.paiWrite m l w
  | .LAN => s.lanWrite m l w
  | .DMC | .MEW | .DRY | .WWT | .PMT => s.fabWrite m l w
  | .WHT => s.fabWrite m l (s.fixedInputs l w)
  | .REI => s.reiWrite m l w
  | .BKL => if l.rdef.hasRws then s.reroute m l w else s.codeWrite m l w
  | .ING => s.ingWrite m l w
  | .TRU => s.tblWrite m l w false
  | .RGA => s.tblWrite m l w true
  | .SPR => s.sprWrite m l w
  | .CPL => s.cplWrite m l w
  | .DBM => s.dbmWrite m l w
  | .OUT | .RNG | .CLK | .STA | .SEG | .LBL | .PAT | .PVW => s.codeWrite m l w

/-- A write in the staged view: RWS fields only, under the same guards as in the active view (R404). -/
def State.stagedAt (s : State) (m : Nat) (l : Loc) (w : Word) : State :=
  if l.blk = .REI ∨ l.blk = .BKL then
    if l.blk = .REI ∧ l.inst ≠ 0 ∧ 0x300 ≤ l.off ∧ l.off < 0x400 then s
    else
      let c := l.inst / 32
      match (if m = mOut then none else (s.rerouted l w).find? (fun n => s.chanOwner c n != m)) with
      | some n => s.reinDenied m c n (rerouteKind l) (0x10000000 + s.offsetOf (regKey l.blk l.inst l.off))
      | none => s.stageWrite m l w
  else if l.blk = .CPL ∧ s.rf l.inst (Reg.CPL_CFG_LINK.sh (l.off / 0x100 * 0x100)) = 3 then s
  else if l.blk = .DBM ∧ l.inst ≠ 0 ∧ 0x100 ≤ l.off ∧ l.off ≤ 0x200 then s
  else s.stageWrite m l (s.fixedInputs l w)

/-- A whole-word write by a master to a BAR0 offset, with how it ended (R11, R34, R401). -/
def State.busWriteWith (top : State → Nat → Loc → Word → State) (s : State) (m off : Nat) (w : Word) : State × Done :=
  let staged := inStaged off
  let a := if staged then off - 0x10000000 else off
  if !staged && decide (0x10000 ≤ off) && decide (off < 0x20000) then
    match s.gate m .HDR 0 with
    | .refused => (s.guardRefuses m off, .refused)
    | .waits => (s.hold m off true w, .waits)
    | _ => (s, .done)
  else
    match s.locate m a with
    | none => (s.unoccupied m off, .done)
    | some l =>
      if staged && !l.rdef.hasRws then (s.unoccupied m off, .done)
      else
        match s.gate m l.blk l.inst with
        | .refused => (s.guardRefuses m off, .refused)
        | .waits => (s.hold m off true w, .waits)
        | _ => (if staged then s.stagedAt m l w else s.writeAt top m l w, .done)

end Sys2Proof.Machine
end

