-- ==== Sys2Proof/Machine/Drain.lean ====
section
/-! DEFINITION. Draining: carriages finish what they hold and stop, for a sleep (R427), a full load (R70), a patch (R78) or a coach reset (R437).
The engines' own commands do the work, one thing at a time. -/

namespace Sys2Proof.Machine

/-- Run a command; a stop leaves the state as it was. -/
def State.via (s : State) (f : State → Host.Outcome State Fault Refusal) : State :=
  match f s with
  | .next t => t
  | .fault _ => s
  | .refused _ => s

/-- Every engine of carriage g takes one thing. -/
def State.turn (s : State) (g : Nat) : State :=
  [execTruLine g, execRgaLine g, execRgaGapMarker g, execSeamLineDeliver g true, execSeamLineDeliver (g - 1) false, execSprLine g, execSegLine g,
    execFreezeMaskReturn g, execLblLine g, execDbmFragment g, execDbmPartialSet (g / 6), execFrontierAdvance g, execStaLine g,
    execArchiveLine g].foldl (fun (t : State) f => t.via f) s

/-- How many turns a drain takes: what the Mews and the engines hold passes at most 16 places. -/
def State.turns (s : State) : Nat := 16 * ((s.mews.map (fun e => e.2.packets.length)).sum + (s.spr.map (fun e => e.2.lines.length)).sum +
  (s.seg.map (fun e => e.2.lines.length)).sum + (s.dbm.slices.map (fun e => e.2.fwd.length)).sum + 16)

/-- Carriages take turns. -/
def State.pump : Nat → List Nat → State → State
  | 0, _, s => s
  | n + 1, gs, s => State.pump n gs (gs.foldl (fun (t : State) g => t.turn g) s)

/-- Every ING of some carriages declares its outstanding triggers missing and ends its open run (R427). -/
def State.ingEnd (s : State) (gs : List Nat) : State :=
  gs.foldl (fun (t : State) g => if t.hasEng .ING g then ((t.declare g (fun _ => true) false).settle g).gapSend g else t) s

/-- The chains of some carriages drain: what is on its way passes, then an end mark ends every stretch (R70, R78, R427). -/
def State.chainsEnd (s : State) (gs : List Nat) (cause : Nat) : State :=
  let s1 := s.ingEnd gs
  let s2 := State.pump s1.turns gs s1
  let s3 := gs.foldl (fun (t : State) g => if t.hasEng .RGA g then t.rgaEnd g cause else t) s2
  State.pump s3.turns gs s3

/-- The stretch of a seam unit that has ended: its sides start anew (R206). -/
def State.seamsEnd (s : State) (gs : List Nat) : State :=
  gs.foldl (fun (t : State) g => if t.seamOn g then t.seamMod g (fun (x : Seam) => ({ x with
    low := { x.low with top := none, flushed := false }, high := { x.high with top := none, flushed := false }, q := none, late := [] } : Seam))
    else t) s

/-- Write records of stream k up to its last. -/
def State.recsOut : Nat → Nat → State → State
  | 0, _, s => s
  | n + 1, k, s =>
    let t := s.strm k
    match t.recs.getLast? with
    | none => s
    | some r => State.recsOut n k (s.recNext k (Nat.max t.phi r.sort))

/-- Every component that is closed enters the stream, and every record is written. -/
def State.strmOut (s : State) (k : Nat) : State :=
  let s1 := s.strmDrain k
  (State.recsOut (2 * (s1.strm k).recs.length + (s1.strm k).sheds.length + 1) k s1).shedShow

/-- Patches that are due are cut. -/
def State.patsOut (s : State) : State :=
  (s.windows .PAT).foldl (fun (t : State) i => (List.range (t.patOf i).length).foldl (fun (u : State) _ => u.via (execPatchCut i)) t) s

/-- Blocks of statistics close short and archive rows close (R140, R280). -/
def State.tapsEnd (s : State) (gs : List Nat) : State :=
  gs.foldl (fun (t : State) g => (t.staClose g (match (t.staOf g).block with
    | some b => decide (b.spanned < t.rf (t.eng .STA g) Reg.STA_BLOCK_BLOCK_LINES)
    | none => false)).rowClose g) s

/-- The streams that carriages feed. -/
def State.streamKeys (s : State) : List Nat := 255 :: (List.range s.carriageCount).filter (fun g => s.isReplay g)

/-- Every carriage drains and stops, and everything it formed leaves (R70, R427). -/
def State.drainAll (s : State) (cause : Nat) : State :=
  let gs := s.carriages
  let s1 := (s.chainsEnd gs cause).seamsEnd gs
  let s2 := s1.streamKeys.foldl (fun (t : State) k => t.strmOut k) s1
  (s2.patsOut).tapsEnd gs

/-- The last grid line that the part processed: the highest frontier of a live carriage (R430). -/
def State.lastLine (s : State) : Nat :=
  (s.carriages.filter (fun g => s.live g)).foldl (fun a g => Nat.max a (s.lblFront g)) 0

end Sys2Proof.Machine
end

