-- ==== Sys2Proof/Machine/HarnessPlace.lean ====
section
/-! DEFINITION. What an image sets before its INIT list runs (R67 step 5): the directory and the windows (R74, R75, R481), the placement of
partitions (R310), and every register that a record gives. The check looks at the same state (R72, H-0600, H-0700, H-0701). -/

namespace Sys2Proof.Machine

/-! ### The directory -/

/-- The carriages of an image that use a fast lane or replay, as directory FLAGS (R74). -/
def carrFlags (cs : List CarrRec) (g : Nat) (patch : Bool) : Nat :=
  (match cs.find? (fun r => r.carriage == g) with
   | some r => b2n (r.role == 2) + 2 * (r.options % 2)
   | none => 0) + 4 * b2n patch

/-- The directory entry of an ENGN record, with the index under which Reins name it. -/
def engEntry (cs : List CarrRec) (patch : Bool) (x : Nat × EngnRec) : DirEntry :=
  ⟨x.2.typ, x.2.coach, x.2.inst, x.2.carriage, carrFlags cs x.2.carriage patch, Config.engineVersion x.2.typ % 65536, x.2.base, x.2.size, x.1⟩

/-- The directory's order (R75). -/
def dirKey (e : DirEntry) : Nat := e.typ * 65536 + e.coach * 256 + e.inst

/-- The fabric blocks of a part in directory order: block, coach, instance, and whether an entry names it; a channel without DIMMs has a
window and no entry (R481). -/
def fabricBlocks (hw : Hw) (lanes : List Nat) : List (Blk × Nat × Nat × Bool) :=
  let cs := List.range hw.coaches
  (sortBy id lanes).map (fun l => (.LAN, l / 16, l % 16, true)) ++
  cs.flatMap (fun c => [0, 1].map (fun d => (.DMC, c, d, (cget hw.dimms (2 * c + d)).isSome))) ++
  ([.MEW, .DRY] : List Blk).flatMap (fun b => cs.map (fun c => (b, c, 0, true))) ++
  cs.flatMap (fun c => (List.range (if c = 0 then 9 else 8)).map (fun u => (.WHT, c, u, true))) ++
  ([.REI, .BKL, .WWT] : List Blk).flatMap (fun b => cs.map (fun c => (b, c, 0, true)))

/-- Lay the fabric windows from an offset upward, each at its least span and aligned to it (R481). -/
def layFabric : Nat → List (Blk × Nat × Nat × Bool) → List DirEntry
  | _, [] => []
  | o, (b, c, n, listed) :: t =>
    let a := alignUp o b.leastSpan
    let rest := layFabric (a + b.leastSpan) t
    if listed then ⟨b.typeCode, c, n, 0xFF, 0, Config.engineVersion b.typeCode % 65536, a, b.leastSpan, 0xFFFF⟩ :: rest else rest

/-- The members of a list with their places. -/
def indexed {α : Type} (l : List α) : List (Nat × α) := (List.range l.length).zip l

/-- The directory of a full image. -/
def State.fullDir (s : State) (im : Image) : List DirEntry :=
  sortBy dirKey ((indexed im.engns).map (engEntry im.carrs false)) ++ layFabric 0x20000 (fabricBlocks s.hw (im.lanes.map (fun r => r.lane)))

/-- The ENGN index under which Reins know a patched engine: that of the engine whose place in its carriage it takes, else one that no image
uses (log 46). -/
def State.patchIndex (s : State) (x : Nat × EngnRec) : Nat :=
  match s.dir.find? (fun e => e.typ == x.2.typ && e.carriage == x.2.carriage) with
  | some e => e.engn
  | none => 0x8000 + x.2.carriage * 16 + x.2.typ % 16

/-- The lanes that the running harness has. -/
def State.dirLanes (s : State) : List Nat := (s.dir.filter (fun e => e.typ == Blk.LAN.typeCode)).map (fun e => 16 * e.coach + e.inst)

/-- The lanes of the harness as a patch leaves them: a patch with a LANE section gives all lanes of its carriage's connection (R45). -/
def State.patchLanes (s : State) (im : Image) : List Nat :=
  let old := s.dirLanes
  let conn := ((s.carr im.hdr.patchCarriage).map (fun r => r.conn)).getD 0xFF
  let mine := old.filter (fun l => s.rf (laneInst l) Reg.LAN_CFG_USE == 1 && s.rf (laneInst l) Reg.LAN_CFG_CONNECTION == conn && conn != 0xFF)
  if im.lanes = [] then old
  else (old.filter (fun l => !mine.contains l)) ++ (im.lanes.map (fun r => r.lane)).filter (fun l => !(old.filter (fun k => !mine.contains k)).contains l)

/-- The directory as a patch leaves it (R76, R78): the carriage's engines are those of the patch, everything shared stays. -/
def State.patchDir (s : State) (im : Image) : List DirEntry :=
  let g := im.hdr.patchCarriage
  let stay := s.dir.filter (fun e => decide (e.typ < 0x100) && e.carriage != g)
  let mine := ((indexed im.engns).filter (fun x => x.2.carriage == g)).map (fun x => engEntry im.carrs true (s.patchIndex x, x.2))
  sortBy dirKey (stay ++ mine) ++ layFabric 0x20000 (fabricBlocks s.hw (s.patchLanes im))

/-! ### Partitions (R310) -/

/-- Whether two ranges share a byte. -/
def meets (a b : Nat × Nat) : Bool := decide (a.1 < b.2) && decide (b.1 < a.2)

/-- The lowest free multiple of a number for a size among taken ranges, from the end of Daxpamen's reserve upward. -/
def lowestFree (taken : List (Nat × Nat)) (align size : Nat) : Nat :=
  let cand := (reserveTop :: taken.map (fun r => r.2)).map (fun a => alignUp (Nat.max a reserveTop) align)
  let ok := cand.filter (fun a => !taken.any (fun r => meets r (a, a + size)))
  ok.foldl Nat.min (ok.headD 0)

/-- Place the partitions of some records beside others already placed, which are given as number and range: fixed bases first, then the rest in
ascending number (R310). -/
def placeParts (placed : List (Nat × (Nat × Nat))) (l : List DramRec) : List (Nat × (Nat × Nat)) :=
  let real := l.filter (fun r => r.kind != 9)
  let fix := (real.filter (fun r => r.flags.testBit 1)).map (fun r => (r.partition, (r.base, r.base + r.size)))
  (sortBy (fun (r : DramRec) => r.partition) (real.filter (fun r => !r.flags.testBit 1))).foldl (fun acc r =>
    let a := lowestFree (acc.map (fun e => e.2)) (2 ^ r.granule * Nat.max 1 (chanList r.channels).length) r.size
    acc ++ [(r.partition, (a, a + r.size))]) (placed ++ fix)

/-- The partitions in force, with their ranges. -/
def State.partRanges (s : State) : List (Nat × (Nat × Nat)) :=
  s.hdr.parts.map (fun p => (p.1, (p.2, p.2 + ((s.partRec p.1).map (fun r => r.size)).getD 0)))

/-- Where a full image's partitions lie. -/
def fullParts (im : Image) : List (Nat × Nat) := (placeParts [] im.drams).map (fun e => (e.1, e.2.1))

/-- A partition of the running harness that a patch's record leaves as it is: the same record. -/
def State.keptParts (s : State) (im : Image) : List (Nat × Nat) :=
  s.hdr.parts.filter (fun p => match s.partRec p.1 with
    | some r => im.drams.contains r
    | none => false)

/-- Where the partitions lie after a patch: those of its carriage are the patch's, unless it brings none. -/
def State.patchParts (s : State) (im : Image) : List (Nat × Nat) :=
  if im.drams = [] then s.hdr.parts
  else
    let stay := s.partRanges.filter (fun p => match s.partRec p.1 with
      | some r => r.carriage != im.hdr.patchCarriage || im.drams.contains r
      | none => false)
    let fresh := im.drams.filter (fun r => !(s.keptParts im).any (fun p => p.1 == r.partition))
    (placeParts stay fresh).map (fun e => (e.1, e.2.1))

/-! ### Registers -/

/-- Write fields of one window. -/
def State.wfs (s : State) (i : Nat) (l : List (Fld × Nat)) : State := l.foldl (fun t e => t.wf i e.1 e.2) s

/-- Set a field of a Y-domain register from a record: it is active, and what every later Y-domain event restores (R12, R58). -/
def State.wdef (s : State) (i : Nat) (f : Fld) (v : Nat) : State :=
  let k := regKey f.blk i f.off
  let t := s.wf i f v
  { t with ydef := cset t.ydef k (putBits (cgetD t.ydef k (resetWord f.blk f.off)) f.hi f.lo v) }

/-- Set fields of one window from a record. -/
def State.wdefs (s : State) (i : Nat) (l : List (Fld × Nat)) : State := l.foldl (fun t e => t.wdef i e.1 e.2) s

/-- A YOKE record (R58): the staged fields of its register take the value, now and at every later Y-domain event. -/
def State.wyoke (s : State) (e : Nat × Nat) : State :=
  match s.locate 0 e.1 with
  | none => s
  | some l =>
    let k := regKey l.blk l.inst l.off
    let rws := l.rdef.maskAcc .RWS
    let mix := fun (old : Word) => (old &&& ~~~rws) ||| (BitVec.ofNat 32 e.2 &&& rws)
    { s.setWord l.blk l.inst l.off (mix (s.word l.blk l.inst l.off)) with
      ydef := cset s.ydef k (mix (cgetD s.ydef k (resetWord l.blk l.off))) }

/-- The given fields of the windows that p picks go back to their reset values; every other bit stays. -/
def State.clearShown (s : State) (p : Blk → Nat → Bool) (fs : List Fld) : State :=
  { s with regs := s.regs.map (fun e =>
      let b := keyBlk e.1
      let o := keyOff e.1
      if p b (keyInst e.1) then
        match findDef b o with
        | some d =>
          if d.dom = .C then
            let m := d.fields.foldl (fun (w : Word) f => if fs.contains f then w ||| maskBits f.hi f.lo else w) 0
            (e.1, (e.2 &&& ~~~m) ||| (resetWord b o &&& m))
          else e
        | none => e
      else e) }

/-- Fields of C-domain registers that show where an engine stands: they follow the engine, which starts anew. What an engine found or counted
without a word on the load stays, as does what software set (R12). -/
def liveFields : List Fld :=
  [Reg.ING_STATUS_RUNNING, Reg.ING_STATUS_LINE_OPEN, Reg.ING_STATUS_OUTSTANDING, Reg.ING_STATUS_CAMSET_BUSY, Reg.ING_STATUS_TUN_BUSY,
    Reg.ING_STATUS_FORMAT_BAD, Reg.ING_TRIG_INDEX_LO_INDEX, Reg.ING_TRIG_INDEX_HI_INDEX, Reg.ING_EPOCH_PENDING, Reg.ING_CAMSET_STATUS_BUSY,
    Reg.ING_TUN_STATUS_BUSY, Reg.ING_EVT_STATUS_COUNT, Reg.ING_EVT_STATUS_BYTES, Reg.STA_STATUS_OPEN, Reg.STA_STATUS_LINES] ++
  [Reg.TRU_TBL_STATUS_BUSY, Reg.TRU_TBL_STATUS_WWT_HOLD, Reg.RGA_TBL_STATUS_BUSY, Reg.RGA_STATUS_IN_HOLE, Reg.CPL_STATUS_SEAM,
    Reg.CPL_STATUS_UNJOINED, Reg.CPL_STATUS_WAITING, Reg.CPL_STATUS_SHIFT_K, Reg.CPL_REG_USED_LINES, Reg.SPR_STATUS_FEEDBACK,
    Reg.SPR_STATUS_ACQUIRING, Reg.SPR_STATUS_REIN_FROZEN, Reg.SPR_STATUS_REMAIN, Reg.SPR_DELAY_NOMINAL, Reg.SPR_MD_SHIFT_NM] ++
  [Reg.LBL_STATUS_OPEN, Reg.LBL_STATUS_EXCLUDED, Reg.LBL_FRONTIER_LO_LINE, Reg.LBL_FRONTIER_HI_LINE, Reg.DBM_OPEN_SETS, Reg.DBM_SHED_CLASSES,
    Reg.DBM_SHED_FOLDING, Reg.DBM_SHED_BUFFER, Reg.DBM_LAGGING_LO_MASK, Reg.DBM_LAGGING_HI_MASK, Reg.PAT_STATUS_PENDING,
    Reg.PMT_ARC_NEXT_ROW, Reg.PMT_ARC_OLDEST_ROW, Reg.PMT_ARC_WRITE_OFFSET, Reg.PMT_OVF_NEXT_SEQ]

/-- Fields of C-domain registers that count since harness load, and what fabric blocks show of what a load empties (R334, R339). -/
def loadFields : List Fld :=
  [Reg.ING_CNT_COUNT, Reg.TRU_GAIN_RESID_RUNS, Reg.RGA_CNT_COUNT, Reg.RGA_OUT_LINES_LO_COUNT, Reg.RGA_OUT_LINES_HI_COUNT, Reg.CPL_CNT_COUNT,
    Reg.CPL_REG_USED_WINDOWS, Reg.CPL_RESID_RUNS, Reg.SPR_CNT_COUNT, Reg.SEG_CNT_COUNT, Reg.LBL_CNT_COUNT, Reg.DBM_CNT_COUNT, Reg.PAT_CNT_COUNT,
    Reg.PMT_CNT_COUNT, Reg.PVW_CNT_COUNT] ++
  [Reg.TMT_CNT_COUNT, Reg.YOK_COUNT_APPLIED, Reg.DMC_CURB_CNT_COUNT, Reg.DMC_UTIL_RFM, Reg.DRY_BUF_USED, Reg.DRY_BUF_PEAK,
    Reg.MEW_FLUSH_STATUS_BUSY, Reg.MEW_FILL_UNITS, Reg.MEW_FILL_PACKETS]

/-! #### By carriage -/

/-- N_out of a carriage (R187). -/
def CarrRec.nout (r : CarrRec) : Nat := r.ovlLow + r.owned + r.ovlHigh

/-- Whether two carriages are joined within the part (R201). -/
def joinedRecs (l h : CarrRec) : Bool :=
  l.role == 1 && h.role == 1 && h.carriage == l.carriage + 1 && l.ovlHigh != 0 && h.ovlLow != 0 && h.firstCol == l.firstCol + l.owned

/-- Whether carriage g and the next one are joined, by the CARR records in force. -/
def State.joinedAt (s : State) (g : Nat) : Bool :=
  match s.carr g, s.carr (g + 1) with
  | some l, some h => joinedRecs l h
  | _, _ => false

/-- Whether a side of the part faces a ring neighbour (R27, R468): the low side of the first carriage, the high side of the last. -/
def State.ringSide (s : State) (low : Bool) : Bool :=
  let n := s.head.ringSize
  decide (1 < n) && (if low then decide (0 < s.head.ringPos) else decide (s.head.ringPos + 1 < n))

/-- LINK of the seam unit above carriage g: 0 local, 1 to the next coach, 2 to the next part of a ring, 3 power-gated (R27, R201). -/
def State.seamLink (s : State) (g : Nat) : Nat :=
  if s.joinedAt g then (if g / 6 = (g + 1) / 6 then 0 else 1)
  else if g + 1 = s.carriageCount ∧ s.ringSide false then
    (match s.carr g with
     | some r => if r.role = 1 ∧ r.ovlHigh ≠ 0 then 2 else 3
     | none => 3)
  else 3

/-- The registers of the seam unit above carriage g (R205). -/
def State.placeSeam (s : State) (g : Nat) : State :=
  if (s.entryOf .CPL (seamInst g)).isNone then s
  else
    let link := s.seamLink g
    let f := fun (x : Fld) => x.sh (seamOff g)
    match s.carr g with
    | some r =>
      if link = 3 then s.wf (seamInst g) (f Reg.CPL_CFG_LINK) 3
      else s.wfs (seamInst g) [(f Reg.CPL_CFG_LINK, link), (f Reg.CPL_CFG_LOW, g), (f Reg.CPL_CFG_HIGH, if link = 2 then 0 else g + 1),
        (f Reg.CPL_CFG_OVERLAP, r.ovlHigh), (f Reg.CPL_BOUNDARY_B, r.firstCol + r.owned)]
    | none => s.wf (seamInst g) (f Reg.CPL_CFG_LINK) 3

/-- The registers of a carriage's engines that its CARR record gives. -/
def State.placeCarriage (s : State) (r : CarrRec) : State :=
  let g := r.carriage
  let w := formatBits r.format
  let lanes := s.dir.filter (fun e => e.typ == Blk.LAN.typeCode && s.rf (unitOf e.coach e.inst) Reg.LAN_CFG_USE == 1 &&
    s.rf (unitOf e.coach e.inst) Reg.LAN_CFG_CONNECTION == r.conn && r.role == 1)
  let vox := lanes.any (fun e => s.rf (unitOf e.coach e.inst) Reg.LAN_CFG_MODE == 2)
  let put := fun (t : State) (b : Blk) (l : List (Fld × Nat)) => if t.hasEng b g then t.wfs (t.eng b g) l else t
  let s1 := put s .ING [(Reg.ING_CFG_CARRIAGE, g), (Reg.ING_CFG_PLANES, r.planes), (Reg.ING_CFG_LANES, lanes.length - 1),
    (Reg.ING_CFG_PROTOCOL, b2n vox), (Reg.ING_CFG_REPLAY, b2n (r.role == 2)), (Reg.ING_CFG_FORMAT, r.format),
    (Reg.ING_STREAM_STREAM, r.stream), (Reg.ING_STREAM_WIDTH, r.inputWidth), (Reg.ING_STATUS_RUNNING, 1)]
  let s2 := put s1 .STA [(Reg.STA_CFG_CARRIAGE, g), (Reg.STA_CFG_PLANES, planesOut r.planes), (Reg.STA_CFG_TAP, b2n (r.taps.testBit 4)),
    (Reg.STA_CFG_SAMPLE_BITS, if r.taps.testBit 4 then 16 else w)]
  let s3 := put s2 .TRU [(Reg.TRU_CFG_CARRIAGE, g), (Reg.TRU_CFG_PLANES, r.planes), (Reg.TRU_CFG_SAMPLE_BITS, w), (Reg.TRU_CFG_WIDTH, r.inputWidth),
    (Reg.TRU_TBL_STATUS_VALID0, 1), (Reg.TRU_TBL_STATUS_VALID1, 1)]
  let s4 := put s3 .RGA [(Reg.RGA_CFG_CARRIAGE, g), (Reg.RGA_CFG_PLANES_IN, r.planes), (Reg.RGA_CFG_PLANES_OUT, planesOut r.planes),
    (Reg.RGA_WIDTH_IN, r.inputWidth), (Reg.RGA_WIDTH_OUT, r.nout), (Reg.RGA_COLUMN_FIRST, r.firstCol - r.ovlLow),
    (Reg.RGA_TBL_STATUS_VALID0, 1), (Reg.RGA_TBL_STATUS_VALID1, 1)]
  let s5 := put s4 .SPR [(Reg.SPR_CFG_CARRIAGE, g), (Reg.SPR_CFG_FAST_LANE, r.options % 2), (Reg.SPR_CFG_WIDTH, r.nout)]
  let s6 := put s5 .SEG [(Reg.SEG_CFG_CARRIAGE, g), (Reg.SEG_CFG_WIDTH, r.nout), (Reg.SEG_OWNED_FIRST, r.ovlLow), (Reg.SEG_OWNED_COUNT, r.owned)]
  put s6 .LBL [(Reg.LBL_CFG_CARRIAGE, g),
    (Reg.LBL_CFG_SEAM_LOW, b2n (decide (0 < g) && s.seamLink (g - 1) != 3 || (g == 0 && s.ringSide true && r.ovlLow != 0))),
    (Reg.LBL_CFG_SEAM_HIGH, b2n (s.seamLink g != 3))]

/-- The partition of a kind that a carriage owns: its base and its size, 0 and 0 for none. -/
def State.ownPart (s : State) (kind g : Nat) : Nat × Nat :=
  match s.dramRecs.find? (fun r => r.kind == kind && r.carriage == g) with
  | some r => (s.partBase r.partition, r.size)
  | none => (0, 0)

/-- The routes of an image as pairs of ENGN records. -/
def Image.links (im : Image) : List (RoutRec × EngnRec × EngnRec) :=
  im.routs.filterMap (fun r => match im.engns[r.src]?, im.engns[r.dst]? with
    | some a, some b => some (r, a, b)
    | _, _ => none)

/-- The archive stream of a carriage leaves its slot. -/
def State.unbindArchive (s : State) (g : Nat) : State :=
  (List.range 16).foldl (fun (t : State) k =>
    let i := unitOf (g / 6) (k / 4)
    if t.hasUnit .PMT i ∧ (t.rf i Reg.PMT_CFG_BOUND).testBit (k % 4) ∧ t.rf i (Reg.PMT_ARC_CFG_CARRIAGE.sh (0x40 * (k % 4))) = g then
      t.wf i Reg.PMT_CFG_BOUND (t.rf i Reg.PMT_CFG_BOUND - 2 ^ (k % 4))
    else t) s

/-- Bind the archive stream of a carriage to the slot that its route's input port names (R279, log 47). -/
def State.bindArchive (s : State) (im : Image) (r : CarrRec) : State :=
  let g := r.carriage
  match im.links.find? (fun x => x.2.1.typ == Blk.ING.typeCode && x.2.1.carriage == g && x.2.2.typ == Blk.PMT.typeCode) with
  | none => s
  | some x =>
    if !r.taps.testBit 1 then s
    else
      let i := unitOf x.2.2.coach x.2.2.inst
      let n := x.1.dstPort % 4
      let o := 0x40 * n
      let w := formatBits r.format
      let total := r.planes * r.inputWidth
      let a := s.ownPart 2 g
      let d := s.ownPart 4 g
      let v := s.ownPart 3 g
      let part := fun (k base size : Nat) =>
        [(Reg.PMT_PART_LO_ADDR.sh (o + 4 * k), base / 64), (Reg.PMT_PART_HI_ADDR.sh (o + 4 * k), base / 2 ^ 32), (Reg.PMT_PART_SIZE_SIZE.sh (o + 4 * k), size)]
      s.wfs i ([(Reg.PMT_CFG_BOUND, s.rf i Reg.PMT_CFG_BOUND ||| 2 ^ n), (Reg.PMT_ARC_CFG_CARRIAGE.sh o, g), (Reg.PMT_ARC_CFG_SAMPLE_BITS.sh o, w),
        (Reg.PMT_ARC_CFG_GROUPS.sh o, ceilDiv total 256)] ++ part 0 a.1 (satN (2 ^ 32 - 1) (a.2 / 64)) ++ part 1 d.1 (d.2 / 32) ++
        part 2 v.1 (v.2 / (512 * w)))

/-! #### By coach and package -/

/-- The kind of the Mews of a route, by its engines (R328). -/
def routeKind (a b : EngnRec) : Nat :=
  let t := fun (e : EngnRec) (l : List Blk) => l.any (fun x => x.typeCode == e.typ)
  if t b [.DBM] then 3
  else if t a [.DBM] then 2
  else if t b [.STA, .PMT, .PVW] then 1
  else if t b [.PAT] then 2
  else 0

/-- A route out of the high port of a seam unit that joins coach c to coach c + 1: its far port sits on coach c + 1 (R51, R204). -/
def farOut (x : RoutRec × EngnRec × EngnRec) : Bool :=
  x.2.1.typ == Blk.CPL.typeCode && x.2.1.inst == 2 && x.1.srcPort == 3 && x.2.2.coach == x.2.1.coach + 1

/-- The Mews that a route uses (R51): on the producer's coach; a route out of a far port lies where the port sits. -/
def routeMews (x : RoutRec × EngnRec × EngnRec) : Nat := mewKey (if farOut x then x.2.2.coach else x.2.1.coach) x.1.mews

/-- The registers of a Mews (R328, R331); one without a route carries records on C0 and jobs elsewhere (log 48). -/
def State.placeMews (s : State) (im : Image) (r : MewsRec) : State :=
  let kind := match im.links.find? (fun x => routeMews x == mewKey r.coach r.mews) with
    | some x => routeKind x.2.1 x.2.2
    | none => if r.coach = 0 then 4 else 2
  s.wfs (unitOf r.coach 0) [(mewF Reg.MEW_DEPTH_UNITS r.mews, r.depth / 64), (mewF Reg.MEW_DEPTH_KIND r.mews, kind),
    (mewF Reg.MEW_PEAK_CUT r.mews, satN 2047 r.cutThrough)]

/-- The registers of a lane (R47). -/
def State.placeLane (s : State) (r : LaneRec) : State :=
  s.wfs (laneInst r.lane) [(Reg.LAN_CFG_MODE, r.mode), (Reg.LAN_CFG_RATE, r.rate), (Reg.LAN_CFG_USE, r.use),
    (Reg.LAN_CFG_CONNECTION, if r.use = 1 then r.conn else 0x3F), (Reg.LAN_CFG_INDEX, r.index), (Reg.LAN_CFG_GLOBAL, r.lane),
    (Reg.LAN_EQ_CODE, r.ctle % 16), (Reg.LAN_EQ_AUTO, r.ctle / 16 % 2)]

/-- The registers of a Whiffletree unit (R344, R353): inputs without a WHIF record have no requester. -/
def State.placeWht (s : State) (im : Image) (c u : Nat) : State :=
  let i := unitOf c u
  let recs := im.whifs.filter (fun r => r.coach == c && r.unit == u)
  let s1 := (List.range 16).foldl (fun (t : State) n => t.wdef i (Reg.WHT_IN_REQUESTER.sh (4 * n)) 0xFFFF) s
  let s2 := recs.foldl (fun (t : State) r => t.wdefs i [(Reg.WHT_IN_REQUESTER.sh (4 * r.number), r.requester),
    (Reg.WHT_IN_BURST_MAX.sh (4 * r.number), r.burstMax)]) s1
  let mask := maskOf ((List.range 16).map (fun n => recs.any (fun r => r.number == n) || (n == 15 && whtFixed u)))
  s2.wfs i [(Reg.WHT_CFG_COACH, c), (Reg.WHT_CFG_UNIT, u), (Reg.WHT_CFG_KIND, if u < 2 then 0 else if u < 6 then 1 else u - 4),
    (Reg.WHT_CFG_FIXED, b2n (whtFixed u)), (Reg.WHT_CFG_EMERGENCY, b2n (whtEmergency u)), (Reg.WHT_CFG_INPUTS, mask)]

/-- The spare rank that a KIND 9 record reserves on a channel, 7 for none (R310). -/
def spareOf (l : List DramRec) (ch : Nat) : Nat :=
  match l.find? (fun r => r.kind == 9 && chanList r.channels == [ch]) with
  | some r => r.rank
  | none => 7

/-- The registers of a DDR5 channel. -/
def State.placeDmc (s : State) (im : Image) (ch : Nat) : State :=
  let i := chanInst ch
  match cget s.hw.dimms ch with
  | none => s
  | some d => s.wfs i [(Reg.DMC_CFG_COACH, ch / 2), (Reg.DMC_CFG_CHANNEL, ch % 2), (Reg.DMC_CFG_SPEED, d.speed), (Reg.DMC_CFG_DIMMS, d.count),
      (Reg.DMC_CFG_RANKS, d.ranks), (Reg.DMC_CFG_WIDTH, d.width), (Reg.DMC_CFG_CAPACITY, d.ranks * d.rankBytes / 2 ^ 30),
      (Reg.DMC_CFG_SPARE, spareOf im.drams ch)]

/-- The registers of a coach's fabric blocks and shared engines. -/
def State.placeCoach (s : State) (im : Image) (c : Nat) : State :=
  let i := unitOf c 0
  let s1 := s.wfs i [(Reg.MEW_CFG_COACH, c), (Reg.MEW_CFG_COUNT, (im.mews.filter (fun r => r.coach == c)).length), (Reg.DRY_CFG_COACH, c),
    (Reg.REI_CFG_COACH, c), (Reg.REI_CFG_TRUNK, b2n (c == 0)), (Reg.WWT_CFG_COACH, c), (Reg.DBM_CFG_COACH, c), (Reg.DBM_CFG_LIVE, b2n (c == 0))]
  let s2 := (List.range (if c = 0 then 9 else 8)).foldl (fun (t : State) u => t.placeWht im c u) s1
  let s3 := [0, 1].foldl (fun (t : State) d => t.placeDmc im (2 * c + d)) s2
  let s4 := (List.range 2).foldl (fun (t : State) n => t.wfs (unitOf c n) [(Reg.PAT_CFG_COACH, c), (Reg.PAT_CFG_INSTANCE, n),
    (Reg.PVW_CFG_COACH, c), (Reg.PVW_CFG_INSTANCE, n),
    (Reg.PVW_CFG_PLANES, if im.carrs.any (fun r => r.role == 1 && r.planes != 1) then 3 else 1)]) s3
  (List.range 4).foldl (fun (t : State) n => t.wfs (unitOf c n) [(Reg.PMT_CFG_COACH, c), (Reg.PMT_CFG_INSTANCE, n)]) s4

/-- Byte k of a REIN record. -/
def ReinRec.at_ (r : ReinRec) (k : Nat) : Nat := leAt r.body (k - 1) 1

/-- Two bytes of a REIN record. -/
def ReinRec.half (r : ReinRec) (k : Nat) : Nat := leAt r.body (k - 1) 2

/-- CARRIAGE of a REIN record (R53). -/
def ReinRec.car (r : ReinRec) : Nat := if r.kind = 1 then r.at_ 5 else if r.kind = 4 then r.at_ 13 else r.at_ 6

/-- The coach whose tables hold a binding: its local channel's; of a trunk binding, that of its engine, or of its carriage for a fabric source or
sink, C0 where it names none (R53, R355, log 49). -/
def Image.bindCoach (im : Image) (r : ReinRec) : Nat :=
  if r.at_ 1 ≠ 0xFF then r.at_ 1
  else if r.half 3 < 0xF000 then (match im.engns[r.half 3]? with
    | some e => e.coach
    | none => 0)
  else if r.car ≠ 0xFF then r.car / 6 else 0

/-- The 7-bit channel number of a REIN record (R354). -/
def ReinRec.chan (r : ReinRec) : Nat := if r.at_ 1 = 0xFF then 64 + r.at_ 2 else r.at_ 2

/-- Channel and Buckle records (R53 kinds 1 and 4). -/
def State.placeChannel (s : State) (r : ReinRec) : State :=
  if r.kind = 1 then
    let trunk := r.at_ 1 = 0xFF
    let i := if trunk then 0 else unitOf (r.at_ 1) 0
    let o := 8 * r.at_ 2
    if trunk then s.wdefs i [(Reg.REI_TR_CFG_OWNER.sh o, r.at_ 3), (Reg.REI_TR_CFG_SECURE.sh o, r.at_ 4 % 2), (Reg.REI_TR_CFG_RATE_LIMIT.sh o, r.half 6)]
    else s.wdefs i [(Reg.REI_CH_CFG_OWNER.sh o, r.at_ 3), (Reg.REI_CH_CFG_SECURE.sh o, r.at_ 4 % 2), (Reg.REI_CH_CFG_RATE_LIMIT.sh o, r.half 6)]
  else if r.kind = 4 then
    let o := 16 * r.at_ 2
    s.wdefs (unitOf (r.at_ 1) 0) [(Reg.BKL_CFG_LUT.sh o, r.half 3), (Reg.BKL_CFG_FF.sh o, r.at_ 10 % 2), (Reg.BKL_CFG_FILTER.sh o, r.at_ 10 / 2 % 8),
      (Reg.BKL_CFG_GLITCH.sh o, r.half 11), (Reg.BKL_IN_IN.sh o, leAt r.body 4 4), (Reg.BKL_OUT_CHANNEL.sh o, r.at_ 9), (Reg.BKL_OUT_ENABLE.sh o, 1)]
  else s

/-- Put a binding into slot n of its coach's table. -/
def State.placeBinding (s : State) (c n : Nat) (r : ReinRec) (idx : Nat) : State :=
  let i := unitOf c 0
  let o := 4 * n
  if r.kind = 2 then
    s.wdefs i [(Reg.REI_SRC_SOURCE.sh o, idx), (Reg.REI_SRC_EVENT.sh o, r.at_ 5), (Reg.REI_SRC_CHANNEL.sh o, r.chan), (Reg.REI_SRC_ENABLE.sh o, 1)]
  else
    s.wdefs i [(Reg.REI_SNK_SINK.sh o, idx), (Reg.REI_SNK_TASK.sh o, r.at_ 5), (Reg.REI_SNK_CHANNEL.sh o, r.chan), (Reg.REI_SNK_ENABLE.sh o, 1)]

/-- The bindings of an image on a coach, sources (kind 2) or sinks (kind 3), in record order. -/
def Image.bindings (im : Image) (kind c : Nat) : List ReinRec := im.reins.filter (fun r => r.kind == kind && im.bindCoach r == c)

/-- The Reins of a full image (R53, R369): bindings fill the tables of their coach in record order. -/
def State.placeReins (s : State) (im : Image) : State :=
  let s1 := im.reins.foldl (fun (t : State) r => t.placeChannel r) s
  (List.range s.hw.coaches).foldl (fun (t : State) c =>
    [2, 3].foldl (fun (u : State) kind =>
      (indexed (im.bindings kind c)).foldl (fun (v : State) x => v.placeBinding c x.1 x.2 (x.2.half 3)) u) t) s1

/-- The mailboxes of Daxpamen, which no record claims (R414). -/
def State.postDefaults (s : State) : State :=
  [14, 15].foldl (fun (t : State) m => t.wfs 0 [(Reg.PST_CFG_RECEIVER.sh (0x100 * m), 0x12 + m), (Reg.PST_CFG_SECURE.sh (0x100 * m), 1),
    (Reg.PST_CFG_TIMEOUT_MS.sh (0x100 * m), 10)]) s

/-- The registers of the Post and the Linchpins (R55); a Linchpin that no record names has class 0. -/
def State.placePost (s : State) (im : Image) : State :=
  let s1 := (List.range 64).foldl (fun (t : State) n => t.wf 0 (Reg.LCH_INFO_CLASS.sh (8 * n)) 0) s.postDefaults
  im.posts.foldl (fun (t : State) r =>
    if r.kind = 1 then t.wfs 0 [(Reg.PST_CFG_RECEIVER.sh (0x100 * r.index), r.value), (Reg.PST_CFG_SECURE.sh (0x100 * r.index), b2n (secureMaster r.value)),
      (Reg.PST_CFG_TIMEOUT_MS.sh (0x100 * r.index), ceilDiv r.timeout 1000)]
    else t.wf 0 (Reg.LCH_INFO_CLASS.sh (8 * r.index)) r.value) s1

/-- The registers of the Timetable (R56); without a profile it is off. -/
def State.placeTime (s : State) (im : Image) : State :=
  let s1 := match im.times.find? (fun r => r.kind == 1) with
    | some r => s.wfs 0 [(Reg.TMT_CFG_ROLE, r.role), (Reg.TMT_CFG_TWO_STEP, r.flags % 2), (Reg.TMT_CFG_PEER, r.flags / 2 % 2),
        (Reg.TMT_CFG_LANE, r.lane), (Reg.TMT_CFG_DOMAIN, r.domain), (Reg.TMT_JUMP_LIMIT_NS, r.jumpLimit)]
    | none => s.wf 0 Reg.TMT_JUMP_LIMIT_NS 1000
  let asym := (im.times.filter (fun r => r.kind == 2)).foldl (fun (m : List (Nat × (Nat × Nat))) r => cset m r.lane (r.ingress, r.egress)) []
  { s1 with tmt := { s1.tmt with asym := asym } }

/-- The registers of an encoder port (R57). -/
def State.placePort (s : State) (r : WaywRec) : State :=
  let f := fun (x : Fld) => x.sh (0x100 * r.port)
  let s1 := s.wfs 0 [(f Reg.WAY_CFG_MODE, r.mode), (f Reg.WAY_CFG_TRIGGER, r.trigger), (f Reg.WAY_CFG_FILTER_N, r.filterN),
    (f Reg.WAY_CFG_DISAGREE_M, r.disagreeM), (f Reg.WAY_CFG_INDEX_TOL, r.indexTol), (f Reg.WAY_CPR_CPR_M1, r.cpr), (f Reg.WAY_DE_LIMIT, r.deLimit),
    (f Reg.WAY_ABS_CFG_BITS, r.absBits), (f Reg.WAY_ABS_CFG_GRAY, r.absCode), (f Reg.WAY_ABS_CFG_CRC_BITS, r.absCrcBits),
    (f Reg.WAY_ABS_CFG_CLOCK_KHZ, r.absClock), (f Reg.WAY_ABS_POLY_POLY, r.absPoly), (f Reg.WAY_ABS_TIMEOUT_NS, r.absTimeout)]
  s1.wdefs 0 [(f Reg.WAY_TRIG_PITCH_NM, r.pitch), (f Reg.WAY_TRIG_RATE_MHZ, r.rate)]

/-- NPC of a port as its record gives it, for a port that starts anew (R155). -/
def State.placeNpc (s : State) (r : WaywRec) : State :=
  if (s.way.ports.getD r.port WayPort.fresh).rcd = some r then s
  else s.wdefs 0 [((Reg.WAY_ORIGIN_LO_NM).sh (0x100 * r.port), 0), ((Reg.WAY_ORIGIN_HI_NM).sh (0x100 * r.port), 0),
    ((Reg.WAY_NPC_LO_FRAC).sh (0x100 * r.port), r.npc % 2 ^ 32), ((Reg.WAY_NPC_HI_INT).sh (0x100 * r.port), r.npc / 2 ^ 32)]

/-- The lane of a ring direction (R468), by LANE USE and INDEX. -/
def Image.ringLane (im : Image) (index : Nat) : Nat :=
  match im.lanes.find? (fun r => r.use == 3 && r.index == index) with
  | some r => r.lane
  | none => 0

/-- The registers of pair, ring, clocks and the header (R46, R60). -/
def State.placePackage (s : State) (im : Image) : State :=
  let h := im.head.getD ⟨100, 0, 0, 1, 1000, 1000, 0, 0, 0⟩
  let s1 := s.wdef 0 Reg.WAY_MASTER_PORT h.webMaster
  let s2 := s1.wfs 0 [(Reg.CLK_PACE_CODE, h.fPace), (Reg.RNG_CFG_POSITION, h.ringPos), (Reg.RNG_CFG_SIZE, h.ringSize),
    (Reg.RNG_CFG_WEST, im.ringLane 0), (Reg.RNG_CFG_EAST, im.ringLane 1)]
  let q := s2.ownPart 5 0xFF
  let slots := q.2 / 64
  let s3 := s2.wfs 0 [(Reg.DBM_Q_BASE_LO_ADDR, q.1 / 64), (Reg.DBM_Q_BASE_HI_ADDR, q.1 / 2 ^ 32), (Reg.DBM_Q_SLOTS_S, slots),
    (Reg.DBM_Q_DEPTH_D, Nat.min h.recordQueue (slots - 4096))]
  match im.pair with
  | some p => s3.wfs 0 [(Reg.PAI_CFG_PRESENT, 1), (Reg.PAI_CFG_PREFERENCE, p.preference),
      (Reg.PAI_CFG_SIDE, b2n (s3.hw.gio.testBit (s3.rf 0 Reg.PAI_PINS_SIDE_GIO)))]
  | none => s3

/-! ### The whole -/

/-- A full image in place, but for its INIT list: every register of domains H and Y is reset, then records and YOKE values load. WAYW ports that
their record leaves as they are keep ORIGIN and NPC, whatever the YOKE section says of them (R155, log 50). -/
def State.placed (s : State) (im : Image) : State :=
  let held := (List.range 4).filter (fun p => ((s.way.ports.getD p WayPort.fresh).rcd).isSome &&
    im.waywiser.any (fun r => r.port == p && (s.way.ports.getD p WayPort.fresh).rcd == some r))
  let keep := s.regs.filter (fun e => keyBlk e.1 == .WAY && held.any (fun p => decide (0x128 + 0x100 * p ≤ keyOff e.1) && decide (keyOff e.1 < 0x138 + 0x100 * p)))
  let s0 := { s with hdr := { s.hdr with active := some im, patches := [], parts := fullParts im }, dir := s.fullDir im, ydef := [], staged := [],
                     stager := [], regs := s.regs }
  let s1 := (s0.restore .H (fun _ _ _ => true)).clearShown (fun _ _ => true) (liveFields ++ loadFields)
  let s2 := im.lanes.foldl (fun (t : State) r => t.placeLane r) s1
  let s3 := (List.range s.hw.coaches).foldl (fun (t : State) c => t.placeCoach im c) s2
  let s4 := im.mews.foldl (fun (t : State) r => t.placeMews im r) s3
  let s5 := im.carrs.foldl (fun (t : State) r => (t.placeCarriage r).bindArchive im r) s4
  let s6 := (List.range s.carriageCount).foldl (fun (t : State) g => t.placeSeam g) s5
  let s7 := (((s6.placePost im).placeTime im).placeReins im).placePackage im
  let s8 := im.waywiser.foldl (fun (t : State) r => (t.placePort r).placeNpc r) s7
  let s9 := im.yokes.foldl (fun (t : State) e => t.wyoke e) s8
  keep.foldl (fun (t : State) e => t.setWord (keyBlk e.1) (keyInst e.1) (keyOff e.1) e.2) s9

/-- The bindings of a carriage that its running image brought leave their tables, and those of a patch take the lowest free places (log 46). -/
def State.patchBindings (s : State) (im : Image) (kind c : Nat) : State :=
  let i := unitOf c 0
  let en := if kind = 2 then Reg.REI_SRC_ENABLE else Reg.REI_SNK_ENABLE
  let old := match s.imageFor im.hdr.patchCarriage with
    | some x => ((indexed (x.bindings kind c)).filter (fun (y : Nat × ReinRec) => y.2.car == im.hdr.patchCarriage)).map (fun (y : Nat × ReinRec) => y.1)
    | none => []
  let s1 := old.foldl (fun (t : State) n => t.wdef i (en.sh (4 * n)) 0) s
  (im.bindings kind c).foldl (fun (t : State) r =>
    match (List.range 256).find? (fun n => !t.rb i (en.sh (4 * n))) with
    | some n => t.placeBinding c n r (match im.engns[r.half 3]? with
        | some e => s.patchIndex (r.half 3, e)
        | none => r.half 3)
    | none => t) s1

/-- A carriage patch in place, but for its INIT list (R76, R78): the windows of its engines start anew, as at a harness load (log 65), and a
lane of its connection that the patch gives no record goes off (R79). -/
def State.placedPatch (s : State) (im : Image) : State :=
  let g := im.hdr.patchCarriage
  let dir := s.patchDir im
  let mine := fun (b : Blk) (i : Nat) => decide (b.typeCode < 0x100) && b.typeCode != 0 &&
    ((s.dir ++ dir).any (fun e => e.carriage == g && e.typ == b.typeCode && unitOf e.coach e.inst == i))
  let lanesNew := if im.lanes = [] then [] else im.lanes.filter (fun r => !((s.hdr.active.toList ++ s.hdr.patches).any (fun x => x.lanes.contains r)))
  let gone := s.dirLanes.filter (fun l => !(s.patchLanes im).contains l)
  let win := fun (b : Blk) (i _ : Nat) => mine b i ||
    (b == .LAN && (lanesNew.any (fun r => laneInst r.lane == i) || gone.any (fun l => laneInst l == i)))
  let fresh := fun (k : Nat) => mine (keyBlk k) (keyInst k)
  let parts := s.patchParts im
  let old := if im.reins = [] then s
    else (List.range s.hw.coaches).foldl (fun (t : State) c => [2, 3].foldl (fun (u : State) kind => u.patchBindings im kind c) t) s
  let s0 := { old with hdr := { s.hdr with patches := s.hdr.patches.filter (fun (p : Image) => p.hdr.patchCarriage != g) ++ [im], parts := parts }, dir := dir,
                       ydef := old.ydef.filter (fun e => !fresh e.1), staged := s.staged.filter (fun e => !fresh e.1),
                       stager := s.stager.filter (fun e => !fresh e.1) }
  let s1 := (s0.restore .H win).clearShown mine liveFields
  let s2 := lanesNew.foldl (fun (t : State) r => t.placeLane r) (gone.foldl (fun (t : State) l => t.setWord .LAN (laneInst l) 4 0) s1)
  let s3 := im.mews.foldl (fun (t : State) r => t.placeMews im r) s2
  let s4 := (im.reins.filter (fun r => r.kind == 1 || r.kind == 4)).foldl (fun (t : State) r => t.placeChannel r) s3
  let s5 := im.carrs.foldl (fun (t : State) r => (t.placeCarriage r).bindArchive im r) (s4.unbindArchive g)
  im.yokes.foldl (fun (t : State) e => t.wyoke e) s5

end Sys2Proof.Machine
end

