-- ==== Sys2Proof/Machine/HarnessCheck.lean ====
section
/-! DEFINITION. The check rules H-0100 to H-0900 of R72. Rules about the whole harness look at the state that the image would leave
(`placed`, `placedPatch`). Every rule names the first record that breaks it, in section and record order (R68). -/

namespace Sys2Proof.Machine

/-! ### Reporting -/

/-- The place of a tag in an image's section table, 0xFF for none. -/
def Image.sect (im : Image) (tag : Nat) : Nat :=
  match im.tags.findIdx? (fun x => x == tag) with
  | some k => k
  | none => 0xFF

/-- The first record of a section that a test refuses, with the value it names; the test sees the records before it. -/
def findBad {α : Type} (bad : List α → α → Option Nat) : Nat → List α → List α → Option (Nat × Nat × α)
  | _, _, [] => none
  | k, seen, x :: t =>
    match bad seen x with
    | some v => some (k, v, x)
    | none => findBad bad (k + 1) (seen ++ [x]) t

/-- A rule over the records of a section. -/
def Image.rule {α : Type} (im : Image) (code tag : Nat) (l : List α) (car : α → Nat) (bad : List α → α → Option Nat) : Option HErr :=
  (findBad bad 0 [] l).map (fun x => ⟨code, im.sect tag, x.1, car x.2.2, x.2.1⟩)

/-- A rule that a section breaks as a whole. -/
def Image.whole (im : Image) (code tag car : Nat) (bad : Option Nat) : Option HErr := bad.map (fun v => ⟨code, im.sect tag, 0xFFFF, car, v⟩)

/-- A value that a condition refuses. -/
def refuse (p : Bool) (v : Nat) : Option Nat := if p then some v else none

/-- The first value that some conditions refuse. -/
def anyBad (l : List (Bool × Nat)) : Option Nat := firstBad l

/-- The tag indices (R45). -/
def tagHead : Nat := 0
def tagLane : Nat := 1
def tagCarr : Nat := 2
def tagEngn : Nat := 3
def tagMews : Nat := 4
def tagRout : Nat := 5
def tagDram : Nat := 6
def tagRein : Nat := 7
def tagWhif : Nat := 8
def tagPost : Nat := 9
def tagTime : Nat := 10
def tagWayw : Nat := 11
def tagYoke : Nat := 12
def tagInit : Nat := 13
def tagPair : Nat := 14

/-- No carriage. -/
def noCar {α : Type} (_ : α) : Nat := 0xFF

/-! ### H-0100: ranges and reserved bytes -/

/-- The reserved bytes of a record (R46 to R61), by tag. -/
def reservedAt (tag : Nat) (r : List Byte) : List Nat :=
  let k := leAt r 0 1
  match tag with
  | 0 => rangeFrom 0x1C 36
  | 1 => rangeFrom 8 8
  | 2 => rangeFrom 0x28 24
  | 4 => [1, 0xE, 0xF]
  | 6 => rangeFrom 0x19 7
  | 7 => if k = 1 then rangeFrom 8 8 else if k = 4 then [14, 15] else rangeFrom 7 9
  | 8 => [5]
  | 9 => if k = 2 then [3, 4, 5, 6, 7] else [3]
  | 10 => if k = 2 then [2, 3, 12, 13, 14, 15] else [5, 6, 7, 12, 13, 14, 15]
  | 11 => 0x1F :: rangeFrom 0x28 24
  | 13 => rangeFrom 12 4
  | 14 => [9, 10, 11] ++ rangeFrom 0x10 16
  | 15 => 3 :: (rangeFrom 0x65 3 ++ rangeFrom 0xC8 56)
  | _ => []

/-- The first reserved byte of a record that is not 0. -/
def reservedBad (tag : Nat) (r : List Byte) : Option Nat :=
  ((reservedAt tag r).find? (fun k => leAt r k 1 != 0)).map (fun k => leAt r k 1)

/-- Ranges of HEAD (R46): the ring position and size follow FLAGS bit 1. -/
def headBad (n flags : Nat) (h : HeadRec) : Option Nat :=
  let ring := flags.testBit 1
  anyBad [(outOf 50 100 h.fPace, h.fPace), (decide (3 < h.webMaster), h.webMaster),
    (if ring then outOf 2 4 h.ringSize else h.ringSize != 1, h.ringSize), (decide (h.ringSize ≤ h.ringPos), h.ringPos),
    (outOf 1000 1000000 h.gridCd, h.gridCd), (outOf 1000 1000000 h.gridMd, h.gridMd), (outOf 1 (16384 * 6 * n) h.totalColumns, h.totalColumns)]

/-- The modes that a USE allows (R79). -/
def useModes (use : Nat) : List Nat :=
  if use = 1 then [1, 2] else if use = 2 ∨ use = 3 then [2] else if use = 4 then [3, 4] else if use = 5 then [1, 2, 3, 4] else []

/-- The payload capacity of a CXP speed in Mbit/s (R80); 0 for a speed that is none. -/
def cxpMbit (rate : Nat) : Nat :=
  if rate = 1 then 1000 else if rate = 2 then 2000 else if rate = 3 then 2500 else if rate = 5 then 4000 else if rate = 6 then 5000
  else if rate = 10 then 8000 else if rate = 12 then 10000 else 0

/-- Ranges of LANE (R47, R79, R80). -/
def laneBad (n : Nat) (r : LaneRec) : Option Nat :=
  anyBad [(decide (16 * n ≤ r.lane), r.lane), (outOf 1 4 r.mode, r.mode), (outOf 1 5 r.use, r.use), (!(useModes r.use).contains r.mode, r.mode),
    (if r.mode = 1 then cxpMbit r.rate == 0 else r.rate != 0, r.rate), (if r.use = 1 then decide (47 < r.conn) else r.conn != 0xFF, r.conn),
    (decide (3 < r.index), r.index), (decide (3 < r.dirs), r.dirs), (decide (31 < r.ctle), r.ctle)]

/-- PLANES of a pixel format, 0 for a code outside the table (R110). -/
def formatPlanes (code : Nat) : Nat :=
  if 1 ≤ code ∧ code ≤ 4 then 1 else if code = 0x11 ∨ code = 0x12 then 3 else if code = 0x21 ∨ code = 0x22 then 2 else 0

/-- Ranges of CARR (R48, R110, R181). -/
def carrBad (n : Nat) (r : CarrRec) : Option Nat :=
  anyBad [(decide (6 * n ≤ r.carriage), r.carriage), (outOf 1 2 r.role, r.role),
    (if r.role = 1 then decide (47 < r.conn) else r.conn != 0xFF, r.conn), (decide (7 < r.ing), r.ing),
    (formatPlanes r.format == 0 || formatPlanes r.format != r.planes, r.format), (outOf 1 32768 r.inputWidth, r.inputWidth),
    (outOf 1 16384 r.owned, r.owned), (decide (512 < r.ovlLow), r.ovlLow), (decide (512 < r.ovlHigh), r.ovlHigh), (decide (31 < r.taps), r.taps),
    (decide (1 < r.options), r.options), (r.winSize % 0x10000 != 0, r.winSize),
    (decide (1 < r.nout) && decide (16 * (r.inputWidth - 1) < r.nout - 1), r.inputWidth)]

/-- The engines that belong to no carriage (R49). -/
def sharedType (t : Nat) : Bool := ([.CPL, .DBM, .PAT, .PMT, .PVW] : List Blk).any (fun b => b.typeCode == t)

/-- The least span of a TYPE. -/
def spanOf (t : Nat) : Nat :=
  match blkOfType t with
  | some b => b.leastSpan
  | none => 0

/-- Ranges of ENGN (R49, R480); an image that asks for a later version than the engine has is refused here (log 56). -/
def engnBad (n : Nat) (e : EngnRec) : Option Nat :=
  anyBad [(outOf 1 12 e.typ, e.typ), (decide (n ≤ e.coach), e.coach), ((e.carriage == 0xFF) != sharedType e.typ, e.carriage),
    (decide (8 < e.position), e.position), (e.base % 0x1000 != 0, e.base), (e.size % 0x1000 != 0 || decide (e.size < spanOf e.typ), e.size),
    (e.minVersion != 0 && decide (Config.engineVersion e.typ % 65536 < e.minVersion), e.minVersion)]

/-- The bytes that the output Mews of an ING must hold (R329). -/
def ingMewsNeed (im : Image) (r : MewsRec) : Nat :=
  match im.links.find? (fun x => x.2.1.typ == Blk.ING.typeCode && x.2.2.typ == Blk.TRU.typeCode && routeMews x == mewKey r.coach r.mews) with
  | some x =>
    (match im.carrs.find? (fun c => c.carriage == x.2.1.carriage) with
     | some c => alignUp (32 + 2 * c.planes * c.inputWidth) 64
     | none => 0)
  | none => 0

/-- Ranges of MEWS (R50, R329, R330). -/
def mewsBad (n : Nat) (im : Image) (r : MewsRec) : Option Nat :=
  anyBad [(decide (n ≤ r.coach), r.coach), (decide (1023 < r.mews), r.mews), (r.sram % 64 != 0, r.sram), (r.depth % 64 != 0, r.depth),
    (outOf 1 (r.depth / 64) r.cutThrough, r.cutThrough), (decide (r.depth < ingMewsNeed im r), r.depth)]

/-- Ranges of ROUT: the ports of a Coupler (R51) and the stream slots of a Portmanteau (R279, log 47). -/
def routBad (im : Image) (r : RoutRec) : Option Nat :=
  match im.engns[r.src]?, im.engns[r.dst]? with
  | some a, some b =>
    anyBad [(a.typ == Blk.CPL.typeCode && decide (3 < r.srcPort), r.srcPort), (b.typ == Blk.CPL.typeCode && decide (3 < r.dstPort), r.dstPort),
      (a.typ == Blk.ING.typeCode && b.typ == Blk.PMT.typeCode && decide (3 < r.dstPort), r.dstPort)]
  | _, _ => none

/-- Ranges of DRAM (R52). -/
def dramBad (n : Nat) (r : DramRec) : Option Nat :=
  let k := (chanList r.channels).length
  anyBad [(outOf 1 9 r.kind, r.kind), (k == 0 || decide (2 ^ (2 * n) ≤ r.channels), r.channels), (outOf 8 16 r.granule, r.granule),
    (decide (3 < r.flags), r.flags), (r.size % (2 ^ r.granule * Nat.max 1 k) != 0, r.size % 2 ^ 32),
    (r.base != 0 && !r.flags.testBit 1, r.base % 2 ^ 32), (r.kind == 9 && k != 1, r.channels), (r.kind != 9 && r.rank != 0, r.rank)]

/-- Ranges of REIN (R53). -/
def reinBad (n : Nat) (r : ReinRec) : Option Nat :=
  let scope := r.at_ 1
  let chan := decide ((if scope = 0xFF then 31 else 63) < r.at_ 2)
  let noScope := scope != 0xFF && decide (n ≤ scope)
  if r.kind = 1 then
    anyBad [(noScope, scope), (chan, r.at_ 2), (decide (1 < r.at_ 4), r.at_ 4), (outOf 1 1000 (r.half 6), r.half 6)]
  else if r.kind = 2 ∨ r.kind = 3 then anyBad [(noScope, scope), (chan, r.at_ 2)]
  else if r.kind = 4 then
    anyBad ([(decide (n ≤ scope), scope), (decide (31 < r.at_ 2), r.at_ 2)] ++
      (rangeFrom 5 4).map (fun k => (decide (63 < r.at_ k) && r.at_ k != 0xFF, r.at_ k)) ++
      [(decide (63 < r.at_ 9), r.at_ 9), (decide (9 < r.at_ 10), r.at_ 10), (decide (4095 < r.half 11), r.half 11)])
  else some r.kind

/-- Ranges of WHIF (R54, R344). -/
def whifBad (n : Nat) (r : WhifRec) : Option Nat :=
  anyBad [(decide (n ≤ r.coach), r.coach), (decide ((if r.coach = 0 then 8 else 7) < r.unit), r.unit), (decide (15 < r.number), r.number),
    (outOf 1 4096 r.burstMax, r.burstMax)]

/-- Ranges of POST (R55, R420). -/
def postBad (r : PostRec) : Option Nat :=
  if r.kind = 1 then refuse (decide (15 < r.index)) r.index
  else if r.kind = 2 then anyBad [(decide (63 < r.index), r.index), (decide (15 < r.value), r.value)]
  else some r.kind

/-- Ranges of TIME (R56): at most one profile, whose lane is an Ethernet lane. -/
def timeBad (lanes : List LaneRec) (seen : List TimeRec) (r : TimeRec) : Option Nat :=
  if r.kind = 1 then anyBad [(seen.any (fun x => x.kind == 1), r.kind), (decide (2 < r.role), r.role), (decide (3 < r.flags), r.flags),
    (r.role != 0 && lanes.any (fun x => x.lane == r.lane && x.use != 4), r.lane)]
  else refuse (r.kind != 2) r.kind

/-- Ranges of WAYW (R57): one record a port. -/
def waywBad (seen : List WaywRec) (r : WaywRec) : Option Nat :=
  anyBad [(decide (3 < r.port) || seen.any (fun x => x.port == r.port), r.port), (outOf 1 2 r.mode, r.mode), (r.filterN == 0, r.filterN),
    (r.disagreeM == 0, r.disagreeM), (decide (2 < r.trigger), r.trigger), (r.trigger == 1 && r.pitch == 0, r.pitch),
    (r.trigger == 2 && r.rate == 0, r.rate), (outOf 8 40 r.absBits, r.absBits), (decide (1 < r.absCode), r.absCode),
    (decide (16 < r.absCrcBits), r.absCrcBits)]

/-- The header's part of H-0100 (R43, R450): a part is not both of a pair and on a ring. -/
def headerBad (bytes : List Byte) (h : ImgHeader) : Option Nat :=
  anyBad [(decide (2 < h.flags), h.flags), (if h.kind = 1 then h.patchCarriage != 0xFF else h.patchCarriage == 0xFF, h.patchCarriage),
    (h.kind == 1 && h.baseId != 0, h.baseId % 2 ^ 32), (h.imageId == 0, 0), (leAt bytes 6 2 != 256, leAt bytes 6 2), (leAt bytes 0x12 2 != 0, leAt bytes 0x12 2),
    (leAt bytes 0x2C 4 != 0, leAt bytes 0x2C 4), ((bytesAt bytes 0xC0 60).any (fun b => b != 0), 0)]

/-- The section table's part of H-0100: reserved bytes of an entry, and the bytes before its section, are 0 (R42, R44). -/
def tableBad (bytes : List Byte) : Option (Nat × Nat) :=
  let t := sectTable bytes
  ((List.range t.length).find? (fun k =>
    let o := 0x100 + 32 * k
    let prev := match (if k = 0 then none else t[k - 1]?) with
      | some q => q.offset + q.length
      | none => 0x100 + 32 * t.length
    let here := match t[k]? with
      | some e => e.offset
      | none => prev
    leAt bytes (o + 0x14) 4 != 0 || leAt bytes (o + 0x1C) 4 != 0 || (bytesAt bytes prev (here - prev)).any (fun b => b != 0))).map (fun k => (k, 0))

/-- H-0100 over one section: the ranges of its records, each with its reserved bytes. -/
def Image.ranges {α : Type} (im : Image) (bytes : List Byte) (tag : Nat) (l : List α) (car : α → Nat) (bad : List α → α → Option Nat) : Option HErr :=
  let raw := sectRecords bytes tag
  im.rule 0x100 tag l car (fun seen x => match bad seen x with
    | some v => some v
    | none => reservedBad tag (raw.getD seen.length []))

/-- H-0100 (R72). -/
def State.h0100 (s : State) (im : Image) (bytes : List Byte) : Option HErr :=
  let n := s.hw.coaches
  let h := im.hdr
  let carEngn := fun (e : EngnRec) => e.carriage
  firstErr
    [ (headerBad bytes h).map (fun v => hErr0 0x100 v),
      (tableBad bytes).map (fun x => ⟨0x100, x.1, 0xFFFF, 0xFF, x.2⟩),
      im.ranges bytes tagHead im.head.toList noCar (fun _ x => headBad n h.flags x),
      im.ranges bytes tagLane im.lanes noCar (fun _ x => laneBad n x),
      im.ranges bytes tagCarr im.carrs (fun r => r.carriage) (fun _ x => carrBad n x),
      im.ranges bytes tagEngn im.engns carEngn (fun _ x => engnBad n x),
      im.ranges bytes tagMews im.mews noCar (fun _ x => mewsBad n im x),
      im.ranges bytes tagRout im.routs noCar (fun _ x => routBad im x),
      im.ranges bytes tagDram im.drams (fun r => r.carriage) (fun _ x => dramBad n x),
      im.ranges bytes tagRein im.reins (fun r => r.car) (fun _ x => reinBad n x),
      im.ranges bytes tagWhif im.whifs noCar (fun _ x => whifBad n x),
      im.ranges bytes tagPost im.posts noCar (fun _ x => postBad x),
      im.ranges bytes tagTime im.times noCar (timeBad im.lanes),
      im.ranges bytes tagWayw im.waywiser noCar waywBad,
      im.ranges bytes tagInit im.inits noCar (fun _ _ => none),
      im.ranges bytes tagPair im.pair.toList noCar (fun _ p => anyBad [(p.pairId == 0, 0), (decide (2 < p.preference), p.preference)]),
      im.ranges bytes 15 [()] noCar (fun _ _ => none) ]

/-! ### H-0101: indices and needed partitions -/

/-- Whether an index names an engine of the image, or a fabric number of a set. -/
def Image.refOk (im : Image) (k : Nat) (fabric : Nat → Bool) : Bool := if k < 0xF000 then decide (k < im.engns.length) else fabric (k - 0xF000)

/-- The fabric numbers of sources, sinks and requesters (R345, R357, R359). -/
def fabricSourceNo (n : Nat) : Bool := decide (n ≤ 3) || (decide (0x10 ≤ n) && decide (n ≤ 0x15))
def fabricSinkNo (n : Nat) : Bool := decide (n ≤ 2) || (decide (0x14 ≤ n) && decide (n ≤ 0x16))
def fabricRequesterNo (n : Nat) : Bool := (fabricUnits n) != []

/-- The carriages that a REIN or DRAM record of an image may name: those of the harness as the image leaves it. -/
def State.carKnown (v : State) (g : Nat) : Bool := g == 0xFF || (v.carr g).isSome

/-- Whether a lane of the harness serves a camera connection. -/
def State.connKnown (v : State) (c : Nat) : Bool :=
  v.allLanes.any (fun l => v.lf l Reg.LAN_CFG_USE == 1 && v.lf l Reg.LAN_CFG_CONNECTION == c)

/-- The partition that a carriage lacks (R261, R279), by KIND. -/
def State.partLacks (v : State) (r : CarrRec) : Option Nat :=
  let has := fun (k : Nat) => v.dramRecs.any (fun d => d.kind == k && d.carriage == r.carriage)
  if r.role = 2 ∧ !has 5 then some 5
  else if r.taps.testBit 1 ∧ !has 2 then some 2
  else if r.taps.testBit 1 ∧ !has 4 then some 4
  else none

/-- The units that a requester reaches through a partition from a coach: the channel's unit at home, else the ports of the way there, the transit
ports behind, and the inbound requester of the channel's coach (R345). -/
def reachDram (n home ch who : Nat) : List (Nat × Nat × Nat) :=
  if ch / 2 = home then [(home, ch % 2, who)]
  else
    (fabricRoute n home (ch / 2)).flatMap (fun l => (linkPorts n l.1 l.2).map (fun p => (l.1, 2 + p, if l.1 = home then 0xF00C else 0xF00E))) ++
    (fabricRoute n (ch / 2) home).flatMap (fun l => (linkPorts n l.1 l.2).map (fun p => (l.1, 2 + p, if l.1 = ch / 2 then 0xF00C else 0xF00E))) ++
    [(ch / 2, ch % 2, 0xF009)]

/-- The ports that a class reaches between two coaches. -/
def reachClass (n a b cls : Nat) : List (Nat × Nat × Nat) :=
  (fabricRoute n a b).flatMap (fun l => (linkPorts n l.1 l.2).map (fun p => (l.1, 2 + p, if l.1 = a then 0xF000 + cls else 0xF00E)))

/-- The requesters that reach a unit only through a route or partition of an image, with coach and unit (R345): PMT and PAT engines, the history
writer, the ring writers, and the classes of the Fifth wheel. -/
def State.reaches (v : State) (im : Image) : List (Nat × Nat × Nat) :=
  let n := v.hw.coaches
  let pmts := (im.links.filter (fun x => x.2.1.typ == Blk.ING.typeCode && x.2.2.typ == Blk.PMT.typeCode)).flatMap (fun x =>
    (im.drams.filter (fun d => d.carriage == x.2.1.carriage && decide (2 ≤ d.kind) && decide (d.kind ≤ 4))).flatMap (fun d =>
      (chanList d.channels).flatMap (fun ch => reachDram n x.2.2.coach ch x.1.dst)))
  let pats := (im.links.filter (fun x => x.2.1.typ == Blk.DBM.typeCode && x.2.2.typ == Blk.PAT.typeCode)).flatMap (fun x =>
    (im.drams.filter (fun d => d.kind == 1 && d.carriage / 6 == x.2.2.coach)).flatMap (fun d =>
      (chanList d.channels).flatMap (fun ch => reachDram n x.2.2.coach ch x.1.dst)))
  let hist := (im.drams.filter (fun d => d.kind == 1 && im.carrs.any (fun r => r.carriage == d.carriage && r.taps.testBit 2))).flatMap (fun d =>
    (chanList d.channels).flatMap (fun ch => reachDram n (d.carriage / 6) ch 0xF006))
  let recs := (im.drams.filter (fun d => d.kind == 5)).flatMap (fun d =>
    (chanList d.channels).flatMap (fun ch => reachDram n (if d.carriage = 0xFF then 0 else d.carriage / 6) ch 0xF008))
  let seams := v.joinedSeams.flatMap (fun g => if g / 6 = (g + 1) / 6 ∨ g + 1 = v.carriageCount then [] else
    reachClass n (g / 6 + 1) (g / 6) 10 ++ reachClass n (g / 6) (g / 6 + 1) 10)
  let merges := (im.links.filter (fun x => x.2.2.typ == Blk.DBM.typeCode && x.2.1.coach != x.2.2.coach)).flatMap (fun x =>
    reachClass n x.2.1.coach x.2.2.coach 11)
  pmts ++ pats ++ hist ++ recs ++ seams ++ merges

/-- H-0101 (R72). -/
def State.h0101 (v : State) (im : Image) : Option HErr :=
  let full := im.hdr.kind = 1
  let mewsKnown := fun (k : Nat) => im.mews.any (fun m => mewKey m.coach m.mews == k)
  firstErr
    [ im.rule 0x101 tagCarr im.carrs (fun r => r.carriage) (fun _ r =>
        match refuse (r.role == 1 && !im.lanes.any (fun l => l.use == 1 && l.conn == r.conn) && !v.connKnown r.conn) r.conn with
        | some x => some x
        | none => v.partLacks r),
      im.rule 0x101 tagEngn im.engns (fun e => e.carriage) (fun _ e => refuse (!v.carKnown e.carriage) e.carriage),
      im.rule 0x101 tagRout im.routs noCar (fun _ r =>
        match im.engns[r.src]?, im.engns[r.dst]? with
        | some a, some b => refuse (!mewsKnown (routeMews (r, a, b))) r.mews
        | _, _ => some (Nat.max r.src r.dst)),
      im.rule 0x101 tagDram im.drams (fun r => r.carriage) (fun _ r => refuse (!v.carKnown r.carriage) r.carriage),
      im.whole 0x101 tagDram 0xFF (refuse (decide full && !v.dramRecs.any (fun d => d.kind == 5 && d.carriage == 0xFF)) 5),
      im.rule 0x101 tagRein im.reins (fun r => r.car) (fun _ r =>
        anyBad [(!v.carKnown r.car, r.car), (r.kind == 2 && !im.refOk (r.half 3) fabricSourceNo, r.half 3),
          (r.kind == 3 && !im.refOk (r.half 3) fabricSinkNo, r.half 3)]),
      im.rule 0x101 tagWhif im.whifs noCar (fun _ r => refuse (!im.refOk r.requester fabricRequesterNo) r.requester),
      im.whole 0x101 tagWhif 0xFF (if full then
        ((v.reaches im).find? (fun x => !im.whifs.any (fun w => w.coach == x.1 && w.unit == x.2.1 && w.requester == x.2.2))).map (fun x => x.2.2) else none),
      im.rule 0x101 tagTime im.times noCar (fun _ r => refuse ((r.kind == 2 || r.role != 0) && !im.lanes.any (fun l => l.lane == r.lane)) r.lane),
      im.rule 0x101 tagPair im.pair.toList noCar (fun _ p => p.lanes.find? (fun l => !im.lanes.any (fun x => x.lane == l))) ]

/-! ### H-0200 to H-0209: structure -/

/-- The entries of the running harness that a patch leaves in place, none for a full image. -/
def State.others (s : State) (im : Image) : List DirEntry :=
  if im.hdr.kind = 1 then [] else s.dir.filter (fun e => decide (e.typ < 0x100) && e.carriage != im.hdr.patchCarriage)

/-- An ENGN record that names a shared engine of the running harness as it stands (R76, log 46). -/
def sameEngine (e : EngnRec) (d : DirEntry) : Bool :=
  sharedType e.typ && e.typ == d.typ && e.coach == d.coach && e.inst == d.inst && e.base == d.base && e.size == d.size

/-- H-0200: each instance once, within R24, and free on its coach in a patch (R76). -/
def State.h0200 (s : State) (im : Image) : Option HErr :=
  im.rule 0x200 tagEngn im.engns (fun e => e.carriage) (fun seen e =>
    let room := match blkOfType e.typ with
      | some b => b.perCoach
      | none => 0
    refuse (decide (room ≤ e.inst) || seen.any (fun x => x.typ == e.typ && x.coach == e.coach && x.inst == e.inst) ||
      (!sharedType e.typ && (s.others im).any (fun d => d.typ == e.typ && d.coach == e.coach && d.inst == e.inst))) e.inst)

/-- H-0201: each lane once; a connection has 1 to 4 lanes with INDEX 0 to n − 1, all on the coach of its ING. -/
def State.h0201 (v : State) (im : Image) : Option HErr :=
  im.rule 0x201 tagLane im.lanes noCar (fun seen r =>
    let grp := im.lanes.filter (fun x => x.use == 1 && x.conn == r.conn)
    let cars := (v.carriages.filterMap (fun g => v.carr g)).filter (fun c => c.role == 1 && c.conn == r.conn)
    refuse (seen.any (fun x => x.lane == r.lane) ||
      (r.use == 1 && (decide (4 < grp.length) || !(List.range grp.length).all (fun k => grp.any (fun x => x.index == k)) ||
        cars.any (fun c => c.carriage / 6 != r.lane / 16)))) r.lane)

/-- The Mews of the running harness that a patch leaves in place: those that no route of its carriage uses. -/
def State.mewsKept (s : State) (im : Image) : List MewsRec :=
  if im.hdr.kind = 1 then []
  else
    let g := im.hdr.patchCarriage
    (s.hdr.active.toList ++ s.hdr.patches.filter (fun p => p.hdr.patchCarriage != g)).flatMap (fun x => x.mews.filter (fun m =>
      !x.links.any (fun l => routeMews l == mewKey m.coach m.mews && (l.2.1.carriage == g || l.2.2.carriage == g))))

/-- H-0202: the Mews of a coach fit its SRAM without overlap. The spec gives line buffers and labeller state no sizes (log 52). -/
def State.h0202 (s : State) (im : Image) : Option HErr :=
  im.rule 0x202 tagMews im.mews noCar (fun seen m =>
    refuse (decide (50331648 < m.sram + m.depth) || (s.mewsKept im ++ seen).any (fun x => x.coach == m.coach &&
      (x.mews == m.mews || meets (x.sram, x.sram + x.depth) (m.sram, m.sram + m.depth)))) m.sram)

/-- The bytes of a channel that partitions may use: its trained DRAM, less a spare or retired rank (R310, R319) and Daxpamen's reserve on
channel 0 of C0 (R309). -/
def State.chanRoom (s : State) (l : List DramRec) (ch : Nat) : Nat :=
  let st := s.rf (chanInst ch) Reg.DMC_STATUS_STATE
  match cget s.hw.dimms ch with
  | none => 0
  | some d =>
    if st ≠ 2 ∧ st ≠ 3 ∧ st ≠ 4 then 0
    else
      let out := if spareOf l ch < d.ranks ∨ (cget s.store.retired ch).isSome then 1 else 0
      (d.ranks - out) * d.rankBytes - (if ch = 0 then reserveTop else 0)

/-- Whether a record set fits: spare ranks follow R310, partitions their channels, fixed ranges lie clear. `others` are records that stay. -/
def State.dramFits (s : State) (others l : List DramRec) : Bool :=
  let every := others ++ l
  let real := every.filter (fun r => r.kind != 9)
  let spares := every.filter (fun r => r.kind == 9)
  let fix := real.filter (fun r => r.flags.testBit 1)
  spares.all (fun r => (chanList r.channels).all (fun ch => match cget s.hw.dimms ch with
    | some d => decide (r.rank < d.ranks) && decide (1 < d.ranks)
    | none => false)) &&
  (List.range (2 * s.hw.coaches)).all (fun ch =>
    decide ((spares.filter (fun r => (chanList r.channels).contains ch)).length ≤ 1) &&
    decide (((real.filter (fun r => (chanList r.channels).contains ch)).map (fun r => r.size / Nat.max 1 (chanList r.channels).length)).sum ≤
      s.chanRoom every ch)) &&
  fix.all (fun r => decide (reserveTop ≤ r.base) && decide (r.base + r.size ≤ 2 ^ 42)) &&
  (List.range fix.length).all (fun k => (List.range k).all (fun j => match fix[k]?, fix[j]? with
    | some a, some b => !meets (a.base, a.base + a.size) (b.base, b.base + b.size)
    | _, _ => true))

/-- The records that stay beside those of an image. -/
def State.dramKept (s : State) (im : Image) : List DramRec :=
  if im.hdr.kind = 1 then [] else s.dramRecs.filter (fun r => r.carriage != im.hdr.patchCarriage)

/-- H-0203 (R72, R310). -/
def State.h0203 (s : State) (im : Image) : Option HErr :=
  im.rule 0x203 tagDram im.drams (fun r => r.carriage) (fun seen r =>
    refuse ((s.dramKept im ++ seen).any (fun x => x.partition == r.partition) || !s.dramFits (s.dramKept im) (seen ++ [r])) r.partition)

/-- H-0204: each mailbox and each Linchpin is claimed once; mailboxes 14 and 15 are Daxpamen's (R414). -/
def Image.h0204 (im : Image) : Option HErr :=
  im.rule 0x204 tagPost im.posts noCar (fun seen r =>
    refuse (seen.any (fun x => x.kind == r.kind && x.index == r.index) || (r.kind == 1 && decide (14 ≤ r.index))) r.index)

/-- The chain position of a TYPE (R25). -/
def chainPos (t : Nat) : Nat :=
  if t ≤ 4 then t else if t = 5 then 5 else if t = 6 then 6 else if t = 7 then 7 else if t = 8 then 8 else 0

/-- The engines of a type that a carriage has in an image, by index. -/
def Image.engsOf (im : Image) (b : Blk) (g : Nat) : List (Nat × EngnRec) :=
  (indexed im.engns).filter (fun x => x.2.typ == b.typeCode && x.2.carriage == g)

/-- A shared engine of an image, by window. -/
def Image.shared (im : Image) (b : Blk) (i : Nat) : Option (Nat × EngnRec) :=
  (indexed im.engns).find? (fun x => x.2.typ == b.typeCode && unitOf x.2.coach x.2.inst == i)

/-- A node of a chain: ENGN index and port. -/
def Image.chainNodes (im : Image) (v : State) (r : CarrRec) : Option (List (Nat × Nat)) :=
  let g := r.carriage
  let one := fun (b : Blk) => match im.engsOf b g with
    | [x] => if x.2.coach = g / 6 then some (x.1, 0) else none
    | _ => none
  let low := if 0 < g ∧ v.joinedAt (g - 1) then [(im.shared .CPL (seamInst (g - 1))).map (fun x => (x.1, 2 * ((g - 1) % 6 % 2) + 1))] else []
  let high := if v.joinedAt g ∨ v.seamLink g = 2 then [(im.shared .CPL (seamInst g)).map (fun x => (x.1, 2 * (g % 6 % 2)))] else []
  let dbm := (im.shared .DBM (unitOf (g / 6) 0)).map (fun x => (x.1, 0))
  let l := [one .ING, one .TRU, one .RGA] ++ low ++ high ++ [one .SPR, one .SEG, one .LBL, dbm]
  if l.all (fun x => x.isSome) then some (l.filterMap id) else none

/-- The TYPE of an ENGN index, 0 for none. -/
def Image.typeAt (im : Image) (k : Nat) : Nat := ((im.engns[k]?).map (fun e => e.typ)).getD 0

/-- Whether a route joins two nodes. -/
def Image.joins (im : Image) (a b : Nat × Nat) (r : RoutRec) : Bool :=
  r.src == a.1 && r.dst == b.1 && (im.typeAt a.1 != Blk.CPL.typeCode || r.srcPort == a.2) && (im.typeAt b.1 != Blk.CPL.typeCode || r.dstPort == b.2)

/-- Whether exactly one route joins two nodes. -/
def Image.joinedOnce (im : Image) (a b : Nat × Nat) : Bool := (im.routs.filter (im.joins a b)).length == 1

/-- Whether a route is a link of some chain of the image. -/
def Image.chainLink (im : Image) (v : State) (r : RoutRec) : Bool :=
  im.carrs.any (fun c => match im.chainNodes v c with
    | some l => (l.zip (l.drop 1)).any (fun x => im.joins x.1 x.2 r)
    | none => false)

/-- Whether a carriage's chain breaks R25, R28, R29: the position named. -/
def Image.chainBad (im : Image) (v : State) (r : CarrRec) : Option Nat :=
  match im.chainNodes v r with
  | none =>
    let missing := ([.ING, .TRU, .RGA, .SPR, .SEG, .LBL] : List Blk).find? (fun b => match im.engsOf b r.carriage with
      | [x] => x.2.coach != r.carriage / 6
      | _ => true)
    some (match missing with
      | some b => chainPos b.typeCode
      | none => 4)
  | some l =>
    if im.engns.any (fun e => e.typ == Blk.ING.typeCode && e.carriage == r.carriage && e.inst != r.ing) then some r.ing
    else
      match (l.zip (l.drop 1)).find? (fun x => !im.joinedOnce x.1 x.2) with
      | some x => some (chainPos (im.typeAt x.2.1))
      | none => none

/-- Whether a route lies where it may (R25, R29, R51, R204): between engines of a chain it is a link of a chain or leads from one DBM slice to
another; its Mews is its own; and only routes into a seam unit or a DBM slice, or out of a far port, cross coaches. -/
def Image.routeBad (im : Image) (v : State) (seen : List RoutRec) (r : RoutRec) : Option Nat :=
  match im.engns[r.src]?, im.engns[r.dst]? with
  | some a, some b =>
    let key := routeMews (r, a, b)
    let taken := seen.any (fun x => match im.engns[x.src]?, im.engns[x.dst]? with
      | some c, some d => routeMews (x, c, d) == key
      | _, _ => false)
    let crossing := a.coach != b.coach && b.typ != Blk.CPL.typeCode && b.typ != Blk.DBM.typeCode && !farOut (r, a, b)
    let merge := a.typ == Blk.DBM.typeCode && b.typ == Blk.DBM.typeCode
    let disorder := chainPos a.typ != 0 && chainPos b.typ != 0 && !merge && !im.chainLink v r
    let slot := a.typ == Blk.ING.typeCode && b.typ == Blk.PMT.typeCode && seen.any (fun x => x.dst == r.dst && x.dstPort == r.dstPort &&
      im.typeAt x.src == Blk.ING.typeCode)
    refuse (taken || crossing || disorder || slot) r.mews
  | _, _ => none

/-- H-0205 (R72). -/
def State.h0205 (v : State) (im : Image) : Option HErr :=
  firstErr
    [ im.rule 0x205 tagCarr im.carrs (fun r => r.carriage) (fun seen r =>
        match refuse (seen.any (fun x => x.carriage == r.carriage)) r.carriage with
        | some x => some x
        | none => im.chainBad v r),
      im.rule 0x205 tagEngn im.engns (fun e => e.carriage) (fun _ e => refuse (e.position != chainPos e.typ) e.position),
      im.rule 0x205 tagRout im.routs noCar (fun seen r => im.routeBad v seen r) ]

/-- H-0206: channels and Buckles are defined once, and a coach has at most 256 bindings of a kind (R53, R369). -/
def State.h0206 (s : State) (im : Image) : Option HErr :=
  let kept := if im.hdr.kind = 1 then [] else (s.hdr.active.toList ++ s.hdr.patches).flatMap (fun x => x.reins.filter (fun r => r.car != im.hdr.patchCarriage))
  im.rule 0x206 tagRein im.reins (fun r => r.car) (fun seen r =>
    if r.kind = 1 ∨ r.kind = 4 then refuse ((kept ++ seen).any (fun x => x.kind == r.kind && x.at_ 1 == r.at_ 1 && x.at_ 2 == r.at_ 2)) (r.at_ 2)
    else
      let same := fun (x : ReinRec) => x.kind == r.kind && im.bindCoach x == im.bindCoach r
      refuse (decide (256 < (seen.filter same).length + (kept.filter same).length + 1)) (r.at_ 1))

/-- H-0207: at most two fast-lane carriages on a coach. -/
def State.h0207 (v : State) (im : Image) : Option HErr :=
  let fast := fun (c : Nat) => ((v.carriages.filterMap (fun g => v.carr g)).filter (fun r => r.carriage / 6 == c && r.options.testBit 0)).length
  im.rule 0x207 tagCarr im.carrs (fun r => r.carriage) (fun seen r =>
    let before := (seen.filter (fun x => x.carriage / 6 == r.carriage / 6 && x.options.testBit 0)).length
    let n := if im.hdr.kind = 1 then before + 1 else fast (r.carriage / 6)
    refuse (r.options.testBit 0 && decide (2 < n)) n)

/-- H-0208: the directory has at most 2,047 entries. -/
def State.h0208 (v : State) (im : Image) : Option HErr := im.whole 0x208 tagEngn 0xFF (refuse (decide (2047 < v.dir.length)) v.dir.length)

/-- H-0209: windows lie in the engine range, apart from one another, those of a carriage inside its reserved range (R48, R76). -/
def State.h0209 (s : State) (im : Image) : Option HErr :=
  let inRange := fun (a z : Nat) => decide (0x800000 ≤ a) && decide (a + z ≤ 0x10000000)
  firstErr
    [ im.rule 0x209 tagCarr im.carrs (fun r => r.carriage) (fun _ r => refuse (!inRange r.winBase r.winSize) r.winBase),
      im.rule 0x209 tagEngn im.engns (fun e => e.carriage) (fun seen e =>
        let inside := match im.carrs.find? (fun r => r.carriage == e.carriage) with
          | some r => decide (r.winBase ≤ e.base) && decide (e.base + e.size ≤ r.winBase + r.winSize)
          | none => true
        let me := (e.base, e.base + e.size)
        refuse (!inRange e.base e.size || !inside || seen.any (fun x => meets (x.base, x.base + x.size) me) ||
          (s.others im).any (fun d => !sameEngine e d && meets (d.base, d.base + d.size) me)) e.base) ]

/-! ### H-0300 to H-0305: capacity -/

/-- The payload of a lane in bit/s times 1025: a Voxhus lane loses one header word for 1,024 payload words (R80, R114). -/
def laneBits (r : LaneRec) : Nat := if r.mode = 2 then 312440000 * 64 * 1024 else cxpMbit r.rate * 1000000 * 1025

/-- The LANE records in force. -/
def State.laneRecs (v : State) : List LaneRec := v.allLanes.filterMap (fun l => v.laneRec l)

/-- H-0300: VALUE is the need in Mbit/s. -/
def State.h0300 (v : State) (im : Image) : Option HErr :=
  im.rule 0x300 tagCarr im.carrs (fun r => r.carriage) (fun _ r =>
    let need := r.inputWidth * r.planes * formatBits r.format * r.maxRate
    let cap := ((v.laneRecs.filter (fun l => l.use == 1 && l.conn == r.conn)).map laneBits).sum
    refuse (r.role == 1 && decide (cap < need * 1025)) (rne need 1000000).toNat)

/-- cycles_per_line (R32). -/
def cyclesPerLine (r : CarrRec) : Nat := ceilDiv (Nat.max r.inputWidth r.nout * r.planes) 2 + 32

/-- H-0301: VALUE is the need in thousands of pace clocks per second. -/
def State.h0301 (v : State) (im : Image) : Option HErr :=
  im.rule 0x301 tagCarr im.carrs (fun r => r.carriage) (fun _ r =>
    let need := r.maxRate * cyclesPerLine r
    refuse (decide (v.head.fPace * 12500000 < need)) (rne need 1000).toNat)

/-- H-0302: the budget of each channel (R313); the channel is named. -/
def State.h0302 (v : State) (im : Image) : Option HErr :=
  im.whole 0x302 tagDram 0xFF ((List.range (2 * v.hw.coaches)).find? v.overBudget)

/-- H-0303: each link of the Fifth wheel; the coach from which it leads is named in bits 7:0 and the other in bits 15:8. -/
def State.h0303 (v : State) (im : Image) : Option HErr := im.whole 0x303 tagRout 0xFF ((v.overloaded.head?).map (fun l => l.1 + 256 * l.2))

/-- H-0304: the archive streams and replay jobs of a coach need at most its four PMT engines, and the streams of one PMT at most that one (R279);
an engine codes 10 Gsample/s at 1.25 GHz (R273). The coach is named. -/
def State.h0304 (v : State) (im : Image) : Option HErr :=
  let one := 100000000 * v.head.fPace
  let rate := fun (r : CarrRec) => r.planes * r.inputWidth * r.maxRate
  let cars := v.carriages.filterMap (fun g => v.carr g)
  let bad := fun (c : Nat) =>
    let mine := cars.filter (fun r => r.carriage / 6 == c)
    decide (4 * one < ((mine.filter (fun r => r.taps.testBit 1)).map rate).sum + ((mine.filter (fun r => r.role == 2)).map rate).sum) ||
    (List.range 4).any (fun n => decide (one < ((mine.filter (fun r => (v.pmtOf r.carriage).map (fun x => x.1) == some (unitOf c n))).map rate).sum))
  im.whole 0x304 tagCarr 0xFF ((List.range v.hw.coaches).find? bad)

/-- H-0305: the live carriages tile the web, and overlaps fit their carriage (R202, R287). -/
def State.h0305 (v : State) (im : Image) : Option HErr :=
  let live := (v.carriages.filterMap (fun g => v.carr g)).filter (fun r => r.role == 1)
  let total := v.head.totalColumns
  firstErr
    [ im.rule 0x305 tagCarr im.carrs (fun r => r.carriage) (fun _ r =>
        let me := (r.firstCol, r.firstCol + r.owned)
        match refuse (decide (r.owned < r.ovlLow + r.ovlHigh)) (r.ovlLow + r.ovlHigh) with
        | some x => some x
        | none => refuse (r.role == 1 && (decide (total < me.2) || live.any (fun x => x.carriage != r.carriage && meets (x.firstCol, x.firstCol + x.owned) me) ||
            !(me.1 == 0 || live.any (fun x => x.firstCol + x.owned == me.1)))) r.firstCol),
      im.whole 0x305 tagCarr 0xFF (refuse ((live.map (fun r => r.owned)).sum != total) (live.map (fun r => r.owned)).sum) ]

/-! ### H-0400 to H-0700 -/

/-- The first REIN record that a test picks, else the section. -/
def Image.reinRule (im : Image) (code : Nat) (p : ReinRec → Bool) : Option HErr :=
  im.rule code tagRein im.reins (fun r => r.car) (fun _ r => refuse (p r) (r.at_ 2))

/-- H-0400: no loop of channels without a flip-flop (R363). -/
def State.h0400 (v : State) (im : Image) : Option HErr :=
  im.reinRule 0x400 (fun r => r.kind == 4 && (loopEdges 64 (v.plainEdges (r.at_ 1))).any (fun e => e.2.2 == r.at_ 2))

/-- Whether an ID is a master's (R388). -/
def State.isMaster (s : State) (m : Nat) : Bool :=
  m == mHost || m == mOut || m == mWwt || drayMaster m || (decide (0x20 ≤ m) && decide (m < 0x20 + 2 * s.hw.coaches))

/-- H-0401: owners are masters. -/
def State.h0401 (v : State) (im : Image) : Option HErr :=
  im.rule 0x401 tagRein im.reins (fun r => r.car) (fun _ r => refuse (r.kind == 1 && !v.isMaster (r.at_ 3)) (r.at_ 3))

/-- H-0402: no channel of a non-secure owner binds a secure source or sink, and no Buckle carries a secure channel into one (R365, R367). -/
def State.h0402 (v : State) (im : Image) : Option HErr :=
  im.reinRule 0x402 (fun r =>
    let open_ := fun (n : Nat) => !secureMaster (v.chanOwner (im.bindCoach r) n)
    if r.kind = 2 then secureSource v.receiver (r.half 3) (r.at_ 5) && open_ r.chan
    else if r.kind = 3 then secureSink (r.half 3) && open_ r.chan
    else if r.kind = 4 then open_ (r.at_ 9) && (rangeFrom 5 4).any (fun k => r.at_ k != 0xFF && v.chanSecure (r.at_ 1) (r.at_ k))
    else false)

/-- H-0500: input numbers are unique; input 15 of unit 8 is the Outrider's (R344). -/
def Image.h0500 (im : Image) : Option HErr :=
  im.rule 0x500 tagWhif im.whifs noCar (fun seen r =>
    refuse (seen.any (fun x => x.coach == r.coach && x.unit == r.unit && x.number == r.number) || (r.unit == 8 && r.number == 15)) r.number)

/-- H-0501: no record names a fixed emergency input. -/
def Image.h0501 (im : Image) : Option HErr :=
  im.rule 0x501 tagWhif im.whifs noCar (fun _ r => refuse (whtEmergency r.unit && r.number == 15) r.unit)

/-- H-0600: every joined overlap holds its seam support (R73). -/
def State.h0600 (v : State) (im : Image) : Option HErr :=
  let short := fun (g ovl : Nat) => v.seamOn g && decide (2 * ovl < v.seamSupport2 g)
  im.rule 0x600 tagCarr im.carrs (fun r => r.carriage) (fun (_ : List CarrRec) (r : CarrRec) =>
    anyBad [(decide (0 < r.carriage) && short (r.carriage - 1) r.ovlLow, r.ovlLow), (short r.carriage r.ovlHigh, r.ovlHigh)])

/-- Whether carriage l meets carriage h = l + 1 on the next column of the web (R201). -/
def State.faces (v : State) (l h : Nat) : Bool :=
  match v.carr l, v.carr h with
  | some a, some b => a.role == 1 && b.role == 1 && b.firstCol == a.firstCol + a.owned
  | _, _ => false

/-- Whether a carriage's high overlap breaks R201; toward a ring neighbour R469 governs. -/
def State.badHigh (v : State) (r : CarrRec) : Bool :=
  if v.faces r.carriage (r.carriage + 1) then r.ovlHigh != ((v.carr (r.carriage + 1)).map (fun x => x.ovlLow)).getD 0
  else r.ovlHigh != 0 && !(r.role == 1 && r.carriage + 1 == v.carriageCount && v.ringSide false)

/-- The same of its low overlap. -/
def State.badLow (v : State) (r : CarrRec) : Bool :=
  if 0 < r.carriage ∧ v.faces (r.carriage - 1) r.carriage then r.ovlLow != ((v.carr (r.carriage - 1)).map (fun x => x.ovlHigh)).getD 0
  else r.ovlLow != 0 && !(r.role == 1 && r.carriage == 0 && v.ringSide true)

/-- H-0601: overlaps follow R201. -/
def State.h0601 (v : State) (im : Image) : Option HErr :=
  im.rule 0x601 tagCarr im.carrs (fun r => r.carriage) (fun _ r =>
    anyBad [(v.badLow r, r.ovlLow), (v.badHigh r, r.ovlHigh)])

/-- The bits of a register that an INIT write reaches. -/
def RegDef.initMask (d : RegDef) : Word := d.maskAcc .RW ||| d.maskAcc .W1S ||| d.maskAcc .W1C ||| d.maskAcc .WP

/-- The carriage of the register at an offset. -/
def State.carOfOff (v : State) (off : Nat) : Nat :=
  match v.locate 0 off with
  | some l => v.carriageAt l.blk l.inst
  | none => 0xFF

/-- In a patch, YOKE and INIT records are for the registers of its carriage's engines (R76). -/
def State.patchReg (v : State) (im : Image) (off : Nat) : Bool := im.hdr.kind == 1 || v.carOfOff off == im.hdr.patchCarriage

/-- H-0700 (R58, R59). -/
def State.h0700 (v : State) (im : Image) : Option HErr :=
  firstErr
    [ im.rule 0x700 tagYoke im.yokes (fun e => v.carOfOff e.1) (fun _ e =>
        match v.locate 0 e.1 with
        | some l => refuse (!l.rdef.hasRws || !v.patchReg im e.1) e.1
        | none => some e.1),
      im.rule 0x700 tagInit im.inits (fun e => v.carOfOff e.offset) (fun _ e =>
        match v.locate 0 e.offset with
        | some l => refuse (l.rdef.initMask == 0 || (BitVec.ofNat 32 e.mask &&& l.rdef.maskAcc .RWS) != 0 || !v.patchReg im e.offset) e.offset
        | none => some e.offset) ]

/-- H-0701: VALUE holds the Y-code; the YOKE record of the register that breaks it is named. -/
def State.h0701 (v : State) (im : Image) : Option HErr :=
  let keys := im.yokes.filterMap (fun e => (v.locate 0 e.1).map (fun l => regKey l.blk l.inst l.off))
  match v.yCheck keys [] none with
  | none => none
  | some y =>
    let off := v.offsetOf y.2
    let k := match im.yokes.findIdx? (fun e => e.1 == off) with
      | some j => j
      | none => 0xFFFF
    some ⟨0x701, im.sect tagYoke, k, v.carOfOff off, codeWord 'Y' y.1⟩

/-! ### H-0800 to H-0900 -/

/-- Whether a camera connection serves a live carriage of the running harness other than g. -/
def State.connOther (s : State) (g c : Nat) : Bool :=
  s.carriages.any (fun k => k != g && match s.carr k with
    | some r => r.role == 1 && r.conn == c
    | none => false)

/-- H-0801: a patch's lanes serve its carriage's connection, and none is, or was, another carriage's: of a connection that carriages share, a patch
touches no lane. -/
def State.h0801 (s : State) (im : Image) : Option HErr :=
  let g := im.hdr.patchCarriage
  let conn := ((im.carrs.head?).map (fun r => r.conn)).getD 0xFF
  let old := ((s.carr g).map (fun r => r.conn)).getD 0xFF
  im.rule 0x801 tagLane im.lanes noCar (fun _ r =>
    refuse (r.use != 1 || r.conn != conn || s.connOther g conn || s.connOther g old || (match s.laneRec r.lane with
      | some x => x.use != 1 || x.conn != old
      | none => false)) r.lane)

/-- H-0802. -/
def Image.h0802 (im : Image) : Option HErr :=
  im.rule 0x802 tagDram im.drams (fun r => r.carriage) (fun _ r => refuse (r.carriage != im.hdr.patchCarriage) r.partition)

/-- H-0803. -/
def Image.h0803 (im : Image) : Option HErr :=
  im.rule 0x803 tagRein im.reins (fun r => r.car) (fun _ r => refuse (r.car != im.hdr.patchCarriage) (r.at_ 2))

/-- H-0804: an ENGN record of a shared engine names one of the running harness as it stands; every other is of the patched carriage. -/
def State.h0804 (s : State) (im : Image) : Option HErr :=
  im.rule 0x804 tagEngn im.engns (fun e => e.carriage) (fun _ e =>
    refuse (if sharedType e.typ then !s.dir.any (sameEngine e) else e.carriage != im.hdr.patchCarriage) e.typ)

/-- A patch's routes belong to its carriage: each has an engine of the carriage at an end, or a port of its seam units; and its Mews are those of
such routes (R76). The spec gives no code of its own (log 57). -/
def Image.patchRoutes (im : Image) (v : State) : Option HErr :=
  let g := im.hdr.patchCarriage
  let nodes := im.carrs.flatMap (fun c => (im.chainNodes v c).getD [])
  let car := fun (k : Nat) => (im.engns[k]?).any (fun e => e.carriage == g)
  let port := fun (k p : Nat) => im.typeAt k == Blk.CPL.typeCode && nodes.contains (k, p)
  firstErr
    [ im.rule 0x804 tagMews im.mews noCar (fun _ m => refuse (!im.links.any (fun x => routeMews x == mewKey m.coach m.mews)) m.mews),
      im.rule 0x804 tagRout im.routs noCar (fun _ r =>
        refuse (!(car r.src || car r.dst || port r.src r.srcPort || port r.dst r.dstPort)) r.mews) ]

/-- Whether a patch's apply instant has passed (R77, R407). -/
def State.instantPassed (s : State) (im : Image) : Bool :=
  s.yokePassed ⟨0, some im.hdr.patchCarriage, s.rf 0 Reg.HDR_PATCH_KIND_KIND, s.rf64 0 Reg.HDR_PATCH_AT_LO_AT, false, false, false, false, 0, 0, []⟩

/-- H-0900: the mirror lanes are four lanes, each a Voxhus lane of USE 2. -/
def Image.h0900 (im : Image) : Option HErr :=
  im.rule 0x900 tagPair im.pair.toList noCar (fun _ p => ((indexed p.lanes).find? (fun x =>
    (p.lanes.take x.1).contains x.2 || !im.lanes.any (fun r => r.lane == x.2 && r.mode == 2 && r.use == 2))).map (fun x => x.2))

/-- The rules that only a patch has, in order (R72); `v` is the state that the patch would leave. -/
def State.patchErr (s v : State) (im : Image) : Option HErr :=
  let running := (s.hdr.active.map (fun a => a.hdr.imageId)).getD 0
  firstErr
    [ if im.hdr.baseId ≠ running ∨ running = 0 then some (hErr0 0x800 (im.hdr.baseId % 2 ^ 32)) else none,
      s.h0801 im, im.h0802, im.h0803, s.h0804 im, im.patchRoutes v,
      if s.scopeState (some im.hdr.patchCarriage) ≠ 0 then some (hErr0 0x805 0) else none,
      if s.instantPassed im then some (hErr0 0x806 0) else none ]

/-- A patch must name its carriage in its CARR record (R45, R76): another number counts as out of range (log 57). -/
def Image.patchCarr (im : Image) : Option HErr :=
  if im.hdr.kind = 1 then none
  else im.rule 0x100 tagCarr im.carrs (fun r => r.carriage) (fun _ r => refuse (r.carriage != im.hdr.patchCarriage) r.carriage)

/-- The state that an image would leave but for its INIT list, with the default tables that it fills in (R181). -/
def State.wouldBe (s : State) (im : Image) : State :=
  if im.hdr.kind = 1 then { s.placed im with tru := [], rga := [] }
  else
    let v := s.placedPatch im
    { v with tru := cdel v.tru im.hdr.patchCarriage, rga := cdel v.rga im.hdr.patchCarriage }

/-- What each check rule says of an image, in ascending order (R72). -/
def State.checkRules (s : State) (im : Image) (bytes : List Byte) : List (Option HErr) :=
  let full := im.hdr.kind = 1
  let v := s.wouldBe im
  [ s.h0100 im bytes, im.patchCarr, v.h0101 im, s.h0200 im, v.h0201 im, s.h0202 im, s.h0203 im, im.h0204, v.h0205 im, s.h0206 im, v.h0207 im,
    v.h0208 im, s.h0209 im, v.h0300 im, v.h0301 im, v.h0302 im, v.h0303 im, v.h0304 im, v.h0305 im, v.h0400 im, v.h0401 im, v.h0402 im,
    im.h0500, im.h0501, v.h0600 im, v.h0601 im, v.h0700 im, v.h0701 im, if full then none else s.patchErr v im, im.h0900 ]

/-- The first check rule that fails (R68, R72). -/
def State.checkErr (s : State) (im : Image) (bytes : List Byte) : Option HErr := firstErr (s.checkRules im bytes)

end Sys2Proof.Machine
end

