-- ==== Sys2Proof/Machine/WayTrigger.lean ====
section
/-! DEFINITION. The trigger generators of the Waywiser (R159 to R161), and how they go live after a takeover (R456, R463). -/

namespace Sys2Proof.Machine

/-- T of R160, in 2^-32 sample. -/
def State.fixedStep (s : State) (p : Nat) : Int :=
  rne (250000000000 * nmQ) (Nat.max 1 (s.rf 0 (wp Reg.WAY_TRIG_RATE_MHZ p)))

/-- The carriages that take the events of port p. -/
def State.listeners (s : State) (p : Nat) : List Nat := s.carriages.filter (fun g => s.listens g p)

/-- An event reaches every parser that takes it; a primary with a partner mirrors it with the number that the lowest of them gives it (R454,
log 43). -/
def State.eventOut (s : State) (p : Nat) (instant : Int) : State :=
  let cars := s.listeners p
  let s1 := match cars with
    | g :: _ =>
      if s.inPair then
        let w := s.webAt instant
        s.emit .mirror 0x42 [p, (s.ingOf g).next + (s.ingOf g).due.length, unsgn 64 instant, w.1, unsgn 64 (s.speedQ s.webPort), b2n w.2]
      else s
    | [] => s
  cars.foldl (fun (t : State) g => t.trigDue g instant) s1

/-- How many events of port p lie between the latest mirrored trigger and an event at an instant, that event counted (R463). -/
def State.eventsSince (s : State) (p : Nat) (m : MirTrig) (instant : Int) : Nat :=
  let d := if s.rf 0 (wp Reg.WAY_CFG_TRIGGER p) = 2 then rne ((instant - m.instant) * nmQ) (4 * s.fixedStep p).toNat
    else rne (((s.webAt instant).1 : Int) - m.pos) (Nat.max 1 (s.rf 0 (wp Reg.WAY_TRIG_PITCH_NM p)))
  Nat.max 1 d.toNat

/-- The first live event of a port after a takeover: each parser names the numbers that were skipped, with cause 0x15, and goes on with the
event's number (R463 steps 2 and 3). -/
def State.goesLive (s : State) (p : Nat) (m : MirTrig) (instant : Int) : State :=
  let k := s.eventsSince p m instant
  let own := cgetD s.pair.silent p []
  let back := fun (j : Nat) => (own[own.length + j - (k - 1)]?).getD m.instant
  let s1 := (s.listeners p).foldl (fun (t : State) g =>
    let x := t.ingF g Reg.ING_EXP_CENTRE_NS
    let skipped := (List.range (k - 1)).map (fun j =>
      let at_ := back j + x
      let w := t.webAt at_
      let off := sgn 64 (t.rf64 (t.ingWin g) Reg.ING_MD_OFFSET_LO_NM)
      (⟨m.n + 1 + j, back j, at_, w.1 + off, w.2, false, off, false, .gone 0x15⟩ : Trig))
    (skipped.foldl (fun (u : State) x => u.staMark g x.n x.md x.time)
      (t.ingMod g (fun i => { i with next := m.n + k, trigs := i.trigs ++ skipped, due := [] }))).settle g) s
  (s1.pairMod (fun (q : Pair) => ({ q with trigs := cdel q.trigs p, silent := cdel q.silent p } : Pair))).eventOut p instant

/-- Whether the generators issue events: in Run only (R165, R427 step 1). -/
def State.generating (s : State) : Bool := s.rf 0 Reg.PWR_STATE_STATE == 0

/-- An event of port p's generator: a part that is neither primary nor unpaired sends nothing (R451, R456, log 44). During an apply the
carriages have stopped and no event reaches them; from its end on they take every event (R67 step 4, R115). -/
def State.portEvent (s : State) (p : Nat) (instant : Int) : State :=
  let s1 := s.wf64 0 (wp Reg.WAY_TRIG_COUNT_LO_COUNT p) (s.rf64 0 (wp Reg.WAY_TRIG_COUNT_LO_COUNT p) + 1)
  let quiet := s1.pairMod (fun (q : Pair) => ({ q with silent := cset q.silent p ((cgetD q.silent p [] ++ [instant]).drop
    ((cgetD q.silent p []).length + 1 - 65536)) } : Pair))
  if s.rf 0 Reg.HDR_STATUS_PHASE = 4 then s1
  else if s.suppressed then quiet
  else
    match s.pair.liveFrom, cget s.pair.trigs p with
    | some t, some m => if instant < t then quiet else s1.goesLive p m instant
    | some t, none => if instant < t then quiet else s1.eventOut p instant
    | none, _ => s1.eventOut p instant

/-- ENCODER_TRIGGER: the real-time position of port p is at or beyond X_next: an event is issued, and X_next advances by one pitch; one event
a sample (R159). -/
def execEncoderTrigger (p : Nat) (s : State) : Host.Outcome State Fault Refusal :=
  let p := p % 4
  .next (if s.rf 0 (wp Reg.WAY_CFG_MODE p) = 0 ∨ s.rf 0 (wp Reg.WAY_CFG_TRIGGER p) ≠ 1 ∨ !s.generating ∨ s.posQ p < (s.port p).nextPoint ∨
      (s.port p).fired = some s.tickNo then s
  else
    (s.portMod p (fun (w : WayPort) => ({ w with
      nextPoint := w.nextPoint + s.rf 0 (wp Reg.WAY_TRIG_PITCH_NM p) * nmQ, fired := some s.tickNo } : WayPort))).portEvent p s.now)

/-- FIXED_RATE_TRIGGER: the exact instant of port p's next event is reached: an event is issued, and the accumulator adds T (R160). -/
def execFixedRateTrigger (p : Nat) (s : State) : Host.Outcome State Fault Refusal :=
  let p := p % 4
  .next (if s.rf 0 (wp Reg.WAY_CFG_TRIGGER p) ≠ 2 ∨ !s.generating ∨ (s.tmt.samples : Int) * nmQ < (s.port p).nextFixed then s
  else (s.portMod p (fun (w : WayPort) => ({ w with nextFixed := w.nextFixed + s.fixedStep p } : WayPort))).portEvent p s.now)

end Sys2Proof.Machine
end

