-- ==== Sys2Proof/Machine/Ring.lean ====
section
/-! DEFINITION. The ring (R468 to R473): hellos, joined seams, partial sets that cross members, and the loss of a neighbour. -/

namespace Sys2Proof.Machine

/-! ### Membership -/

/-- Change the ring. -/
def State.ringMod (s : State) (f : Ring → Ring) : State := { s with ring := f s.ring }

/-- Whether the image makes the part a ring member. -/
def State.inRing (s : State) : Bool := decide (1 < s.rf 0 Reg.RNG_CFG_SIZE)

/-- Show whether the member is live, and drive the bridge (R448, R472). -/
def State.ringLive (s : State) : State :=
  (s.wf 0 Reg.RNG_STATUS_LIVE (b2n (s.inRing && s.rb 0 Reg.HDR_STATUS_ACTIVE && s.runOrStand &&
    decide (11 ≤ s.rf 0 Reg.GLB_BOOT_STAGE_STAGE)))).bypShow

/-- The overlap of the seam that is shared with the west or the east neighbour (R469). -/
def State.ringOverlap (s : State) (west : Bool) : Nat :=
  let cars := s.liveCars
  match (if west then cars.head? else cars.getLast?) with
  | some g => ((s.carr g).map (fun r => if west then r.ovlLow else r.ovlHigh)).getD 0
  | none => 0

/-- RING_HELLO_SEND: every 1 ms each ring lane that is up sends a hello (R469). -/
def execRingHelloSend (s : State) : Host.Outcome State Fault Refusal :=
  .next (if !s.rb 0 Reg.RNG_STATUS_LIVE then s
  else
    [true, false].foldl (fun (t : State) west =>
      let l := t.rf 0 (if west then Reg.RNG_CFG_WEST else Reg.RNG_CFG_EAST)
      if t.laneTxUp l then
        t.emit .ring 1 [l, t.rf 0 Reg.RNG_CFG_POSITION, t.rf 0 Reg.RNG_CFG_SIZE, t.gridCd, t.gridMd, unsgn 64 t.head.column0,
          t.head.totalColumns, t.ringOverlap west, t.rf 0 Reg.RNG_STATUS_LEADER, unsgn 64 t.webNm, t.now, (t.strm 255).phi]
      else t) s)

/-! ### Loss of a neighbour (R472) -/

/-- The sets that wait on the missing member to the east close at once. -/
def State.closeEast (s : State) : State :=
  let line := (s.strm 255).phi + 1
  let front := s.rf64 0 Reg.RNG_FRONTIER_LO_LINE
  let waits := fun (d : DSet) => d.members.any (fun n => decide (48 ≤ n.1) && !d.closed.contains n) ||
    (d.flags.testBit 17 && d.keys.any (fun x => decide (front < d.closeAt x)))
  let close := fun (d : DSet) => if waits d then ({ d with flags := d.flags ||| 0x1004 } : DSet).detach (fun n => decide (48 ≤ n.1)) line else [d]
  let own := fun (d : DSet) => !d.members.all (fun n => decide (48 ≤ n.1))
  (s.strmMod 255 (fun (t : Stream) => ({ t with sets := (t.sets.flatMap close).filter own } : Stream))).readyAll 255

/-- The partial sets that the missing member to the west has not confirmed are written here. -/
def State.writeKept (s : State) : State :=
  let l := s.ring.kept
  let s1 := s.ringMod (fun (r : Ring) => ({ r with kept := [] } : Ring))
  l.foldl (fun (t : State) e =>
    (t.addRec 255 (t.segRec 255 { e.2 with flags := e.2.flags ||| 0x9004 } e.1 (e.2.featAt e.1))).inc 0 (Reg.RNG_CNT_COUNT.sh 4)) s1

/-- A neighbour is lost: its seam is unjoined until it returns. -/
def State.ringLost (s : State) (west : Bool) : State :=
  let s1 := (s.rcode 0x0040).ev 0 Reg.RNG_EVENT_LOST
  if west then
    (((s1.wf 0 Reg.RNG_STATUS_WEST_UP 0).wf 0 Reg.RNG_STATUS_LOW_JOINED 0).ringMod (fun (r : Ring) =>
      ({ r with west := none, lostWest := true } : Ring))).writeKept
  else
    (((s1.closeEast).wf 0 Reg.RNG_STATUS_EAST_UP 0).wf 0 Reg.RNG_STATUS_HIGH_JOINED 0).ringMod (fun (r : Ring) =>
      ({ r with east := none, lostEast := true } : Ring))

/-- Whether a neighbour is there. -/
def State.ringHas (s : State) (west : Bool) : Bool := if west then s.ring.west.isSome else s.ring.east.isSome

/-- RING_NEIGHBOUR_LOST: the ring lane to a neighbour drops, or a hello names an unexpected position (R472). -/
def execRingNeighbourLost (west : Bool) (s : State) : Host.Outcome State Fault Refusal :=
  .next (if s.inRing ∧ s.ringHas west then s.ringLost west else s)

/-! ### Hellos (R469, R470, R473) -/

/-- Whether a hello's sender is the web neighbour on its side, and the seam between the two may join (R469). -/
def State.ringMatches (s : State) (west : Bool) (h : RingHello) : Bool :=
  h.size == s.rf 0 Reg.RNG_CFG_SIZE && h.gridCd == s.gridCd && h.gridMd == s.gridMd && h.overlap == s.ringOverlap west &&
    (if west then s.head.column0 == h.column0 + (h.columns : Int) * h.gridCd
     else h.column0 == s.head.column0 + (s.head.totalColumns : Int) * s.gridCd)

/-- Whether two hellos agree in all that joins a seam. -/
def RingHello.agrees (a b : RingHello) : Bool :=
  a.pos == b.pos && a.size == b.size && a.gridCd == b.gridCd && a.gridMd == b.gridMd && a.column0 == b.column0 && a.columns == b.columns &&
    a.overlap == b.overlap

/-- The time leader by the latest hellos: the lowest live position (R470); the new leader records it. -/
def State.ringLeader (s : State) : State :=
  let pos := s.rf 0 Reg.RNG_CFG_POSITION
  let of := fun (h : Option RingHello) => (h.map (fun x => Nat.min x.pos x.leader)).getD pos
  let n := Nat.min pos (Nat.min (of s.ring.west) (of s.ring.east))
  let s1 := s.wf 0 Reg.RNG_STATUS_LEADER n
  if n ≠ s.rf 0 Reg.RNG_STATUS_LEADER ∧ n = pos then
    let s2 := (s1.rcode 0x0043).ev 0 Reg.RNG_EVENT_LEADER
    if s.rf 0 Reg.TMT_STATUS_SOURCE = 3 then s2.wf 0 Reg.TMT_STATUS_SOURCE 0 else s2
  else s1

/-- A member that does not lead takes the leader's time and aligns its web position to the leader's (R470). -/
def State.ringAlign (s : State) (h : RingHello) : State :=
  if s.rf 0 Reg.RNG_STATUS_LEADER = s.rf 0 Reg.RNG_CFG_POSITION ∨ h.leader ≠ s.rf 0 Reg.RNG_STATUS_LEADER then s
  else
    let off := s.way.offset + ((h.web : Int) - s.webNm) * 4294967296
    let s1 := ({ s with way := { s.way with offset := off } } : State).wf64 0 Reg.WAY_MASTER_OFFSET_LO_NM (unsgn 64 (rne off 4294967296))
    (s1.wf 0 Reg.TMT_STATUS_SOURCE 3).servo ((s.now : Int) - h.time)

/-- A hello's seam joins, stays unjoined with P-0041, or joins again with P-0042. -/
def State.ringJoin (s : State) (west : Bool) (h : RingHello) (before : Option RingHello) (lost : Bool) : State :=
  let pos := s.rf 0 Reg.RNG_CFG_POSITION
  let seam := if west then decide (0 < pos) else decide (pos + 1 < s.rf 0 Reg.RNG_CFG_SIZE)
  let f := if west then Reg.RNG_STATUS_LOW_JOINED else Reg.RNG_STATUS_HIGH_JOINED
  let news := match before with
    | some b => !b.agrees h
    | none => true
  if !seam then (if lost then (s.rcode 0x0042).ev 0 Reg.RNG_EVENT_RETURNED else s)
  else if s.ringMatches west h then
    let s1 := s.wf 0 f 1
    if lost then (s1.rcode 0x0042).ev 0 Reg.RNG_EVENT_RETURNED else s1
  else
    let s1 := s.wf 0 f 0
    if news then (s1.rcode 0x0041).ev 0 Reg.RNG_EVENT_MISMATCH else s1

/-- RING_HELLO: a hello arrives on the west or the east lane (R469): time, web position and Φ in it are as of its arrival. -/
def execRingHello (west : Bool) (h : RingHello) (s : State) : Host.Outcome State Fault Refusal :=
  .next (if !s.rb 0 Reg.RNG_STATUS_LIVE then s
  else
    let n := Nat.max 1 (s.rf 0 Reg.RNG_CFG_SIZE)
    let pos := s.rf 0 Reg.RNG_CFG_POSITION
    let shown := s.wf 0 (if west then Reg.RNG_STATUS_WEST_POS else Reg.RNG_STATUS_EAST_POS) (h.pos % 4)
    if h.pos ≠ (if west then (pos + n - 1) % n else (pos + 1) % n) then
      if s.ringHas west then shown.ringLost west else shown
    else
      let before := if west then s.ring.west else s.ring.east
      let lost := if west then s.ring.lostWest else s.ring.lostEast
      let s1 := shown.wf 0 (if west then Reg.RNG_STATUS_WEST_UP else Reg.RNG_STATUS_EAST_UP) 1
      let s2 := s1.ringMod (fun (r : Ring) => if west then
          ({ r with west := some h, lostWest := false, kept := r.kept.filter (fun e => decide (h.phi < e.2.closeAt e.1)) } : Ring)
        else ({ r with east := some h, lostEast := false } : Ring))
      ((s2.ringJoin west h before lost).ringLeader).ringAlign h)

/-! ### Sets that cross members (R471) -/

/-- The features of a fragment of member p + 1 in the columns and carriage numbers of member p. -/
def Feat.fromEast (f : Feat) (cols : Nat) : Feat :=
  { f with
    xmin := f.xmin + cols, xmax := f.xmax + cols, sx := f.sx + cols * f.area, wax := f.wax + cols * f.wa
    sxx := f.sxx + 2 * cols * f.sx + cols * cols * f.area, sxm := f.sxm + cols * f.sm
    timeBy := f.timeBy + 48, epochBy := f.epochBy + 48, epochLastBy := f.epochLastBy + 48
    seen := f.seen.map (fun e => (e.1 + 48, e.2)), carrLo := f.carrLo + 48, carrHi := f.carrHi + 48 }

/-- RING_PARTIAL_SET: member p + 1's partial sets that touch the shared seam, as fragments and edge reports, and its frontier: member p
unites them by R241, with PART_CROSSING, carriage g of member p + 1 counting as 48 + g (R471). -/
def execRingPartialSet (frags : List Frag) (reports : List Report) (frontier : Nat) (s : State) : Host.Outcome State Fault Refusal :=
  .next (if !s.rb 0 Reg.RNG_STATUS_HIGH_JOINED then s
  else
    let cols := s.head.totalColumns
    let s1 := frags.foldl (fun (t : State) f =>
      t.strmMod 255 (fun x => x.frag { f with carriage := f.carriage + 48, feat := f.feat.map (fun y => y.fromEast cols) })) s
    let s2 := reports.foldl (fun (t : State) r =>
      t.strmMod 255 (fun x => x.report (r.car + 48) { r with seam := s.carriageCount - 1, low := false, car := r.car + 48 })) s1
    let s3 := s2.strmMod 255 (fun (t : Stream) => ({ t with
      seen := (List.range 48).foldl (fun m g => cset m (48 + g) (Nat.max frontier (cgetD m (48 + g) 0))) t.seen } : Stream))
    ((s3.wf64 0 Reg.RNG_FRONTIER_LO_LINE (Nat.max frontier (s.rf64 0 Reg.RNG_FRONTIER_LO_LINE))).readyAll 255).phiMove 255)

end Sys2Proof.Machine
end

