-- ==== Sys2Proof/Machine/HarnessApply.lean ====
section
/-! DEFINITION. Applying an image (R67 steps 4 to 6, R70, R78): the carriages end, everything is set anew, INIT runs, the directory is
published. -/

namespace Sys2Proof.Machine

/-- A load, patch or programming request ends with an H-code; a failed attempt at start-up is also logged (R65, R68, R482). -/
def State.hdrFail (s : State) (e : HErr) (log : Bool) : State :=
  (s.hcode e.code e.sect e.record e.car e.val log).ev 0 Reg.HDR_STATUS_FAIL

/-! ### Step 4: the running harness ends -/

/-- A load takes a primary's hold away once its carriages have ended, and a standby out of its pair before (R467). The records that a primary
closes now go to its own queue. -/
def State.pairEnds (s : State) : State :=
  if s.role = 2 then (s.flushAwaiting (2 ^ 64)).wf 0 Reg.PAI_STATUS_STATE 4
  else if s.role = 3 then (s.pairMod (fun _ => Pair.fresh)).toRole 1
  else s

/-- What a primary becomes once its carriages have ended. -/
def State.holdDrops (s : State) : State := if s.role = 4 then (s.pairMod (fun _ => Pair.fresh)).toRole 1 else s

/-- Apply begins (R67 step 4): commits end with Y-0006 (R71), Wheelwright runs are abandoned, Drayage channels end with code 8 (R339), the
Whiffletrees enter hold mode (R347). Triggers stop; the carriages still take the lines of those already sent. -/
def State.applyBegins (s : State) : State :=
  (((s.yokeCancelAll.wwtAbandon).drayStopAll none 8).whtHoldAll 2).pairEnds

/-- Step 4 ends: what the carriages still hold drains, and their open components close truncated (R70). -/
def State.applyDrained (s : State) : State := (s.drainAll loadEnd).holdDrops

/-! ### Step 5: what an apply leaves of what was there -/

/-- Where the bytes of kept partitions were, their size, and where they go (R70). -/
def State.keptRanges (s : State) (parts : List (Nat × Nat)) (recs : List DramRec) : List (Nat × Nat × Nat) :=
  (recs.filter (fun r => r.kind != 9 && r.flags.testBit 0 && s.dramRecs.contains r)).map (fun r =>
    (s.partBase r.partition, r.size, cgetD parts r.partition 0))

/-- The bytes known after an apply: those of Daxpamen's reserve and of the kept partitions (R70). -/
def Memory.moveKept (m : Memory) (kept : List (Nat × Nat × Nat)) : Memory :=
  kept.foldl (fun (acc : Memory) r =>
    (m.filter (fun e => decide (r.1 ≤ e.1) && decide (e.1 < r.1 + r.2.1))).foldl (fun (a : Memory) e => a.put (e.1 - r.1 + r.2.2) e.2) acc)
    (m.filter (fun e => decide (e.1 < reserveTop)))

/-- The poisoned words that remain, where they then are. -/
def moveWords (l : List Nat) (kept : List (Nat × Nat × Nat)) : List Nat :=
  l.filter (fun w => decide (8 * w < reserveTop)) ++ kept.flatMap (fun r =>
    (l.filter (fun w => decide (r.1 ≤ 8 * w) && decide (8 * w < r.1 + r.2.1))).map (fun w => w - r.1 / 8 + r.2.2 / 8))

/-- The undefined ranges after an apply: all DRAM outside the reserve and the kept partitions, and what was undefined in those (R70). -/
def State.moveStale (s : State) (kept : List (Nat × Nat × Nat)) : List Stale :=
  kept.foldl (fun (acc : List Stale) r => carve acc r.2.2 (r.2.2 + r.2.1)) [⟨reserveTop, 2 ^ 64, s.freeCtr⟩] ++
  kept.flatMap (fun r => (within s.stale r.1 (r.1 + r.2.1)).map (fun x => ⟨x.lo - r.1 + r.2.2, x.hi - r.1 + r.2.2, x.draw⟩))

/-- Whether a load keeps a carriage's partition of a kind: its record is the same and says so. -/
def State.keepsPart (s : State) (recs : List DramRec) (kind g : Nat) : Bool :=
  match s.dramRecs.find? (fun r => r.kind == kind && r.carriage == g) with
  | some r => r.flags.testBit 0 && recs.contains r
  | none => !recs.any (fun r => r.kind == kind && r.carriage == g)

/-- Whether it keeps the archive stream of a carriage (R284). -/
def State.keepsArchive (s : State) (recs : List DramRec) (g : Nat) : Bool :=
  (s.dramRecs.any (fun r => r.kind == 2 && r.carriage == g)) && [2, 3, 4].all (fun k => s.keepsPart recs k g)

/-- The archive stream of carriage g goes on where `old` left it, if its partitions were kept: what the index says is what the registers held
(R284). -/
def State.arcKeep (s old : State) (g : Nat) : State :=
  match old.pmtOf g, s.pmtOf g with
  | some (i, o), some (j, q) =>
    s.arcRestore g j q (old.rf i (Reg.PMT_ARC_NEXT_ROW.sh o)) (old.rf i (Reg.PMT_ARC_OLDEST_ROW.sh o))
      (old.rf i (Reg.PMT_ARC_WRITE_OFFSET.sh o)) (old.rf i (Reg.PMT_OVF_NEXT_SEQ.sh o))
  | _, _ => s

/-- A stream in its slot at its start: empty, at row 0 (R284). -/
def State.arcStart (s : State) (g : Nat) : State :=
  match s.pmtOf g with
  | some (i, o) => s.wfs i [(Reg.PMT_ARC_NEXT_ROW.sh o, 0), (Reg.PMT_ARC_OLDEST_ROW.sh o, 0), (Reg.PMT_ARC_WRITE_OFFSET.sh o, 0), (Reg.PMT_OVF_NEXT_SEQ.sh o, 0)]
  | none => s

/-- The labeller of a carriage at a load: it owes the gap record from its last line to the first one to come (R70). -/
def Lbl.reload (x : Lbl) (grid : Nat) : Lbl :=
  match x.lastTag with
  | some t => { Lbl.fresh with next := x.next, lastTag := some t, lastLine := some (t.md.toNat / grid), owes := 5 }
  | none => { Lbl.fresh with next := x.next }

/-- The live stream at a load: Φ, its sheds and its pending summaries go on. -/
def Stream.reload (t : Stream) : Stream :=
  { Stream.fresh with phi := t.phi, sheds := t.sheds, fold := t.fold, sumNext := t.sumNext, ackLow := t.ackLow }

/-- Every engine, Mews and queue of every carriage starts anew (R67 step 5, R334). `keptHist` are the carriages whose line history stays. -/
def State.enginesFresh (s : State) (grid : Nat) (keptHist : List Nat) : State :=
  { s with
    ing := [], sta := [], tru := [], rga := [], seam := [], gain := [], seamFix := none, spr := [], seg := [], pat := [], tapLost := [],
    mews := [], jobs := [], pvw := [], arc := [], dry := [], wht := [], hist := s.hist.filter (fun e => keptHist.contains e.1),
    lbl := s.lbl.map (fun e => (e.1, e.2.reload grid)),
    dbm := { s.dbm with streams := [(255, (s.strm 255).reload)], slices := [], lag := [], contOld := 0, contFrom := 0 },
    rein := ⟨[], [], [], [], [], [], [], []⟩ }

/-- Shared blocks lose what waited in them: request lines their credits (R343), the Reins their watch flags (R369). -/
def State.fabricFresh (s : State) : State :=
  (List.range s.hw.coaches).foldl (fun (t : State) c =>
    let i := unitOf c 0
    let t1 := (List.range 16).foldl (fun (u : State) k => u.wf i (Reg.DRY_REQ_CREDIT.sh (4 * k)) 0) t
    [8, 0x0C, 0x10].foldl (fun (u : State) o => u.setWord .REI i o 0) t1) s

/-! #### Lanes -/

/-- Whether a lane's record stays the same (R70). -/
def State.laneKept (s : State) (recs : List LaneRec) (l : Nat) : Bool :=
  match s.laneRec l with
  | some r => recs.contains r
  | none => false

/-- Lanes after an apply: those whose record stayed keep their training and their tuned code; the others are off until training starts. -/
def State.lanesKeep (s old : State) (recs : List LaneRec) : State :=
  let keep := (List.range (16 * s.hw.coaches)).filter (fun l => old.laneKept recs l)
  let sameConn := fun (c : Nat) => (old.lanesOfConn c ++ s.lanesOfConn c).all (fun l => keep.contains l)
  let s1 := (old.allLanes ++ s.allLanes).foldl (fun (t : State) l => if keep.contains l then t else t.setWord .LAN (laneInst l) 4 0) s
  let s2 := keep.foldl (fun (t : State) l =>
    let i := laneInst l
    t.wfs i [(Reg.LAN_EQ_CODE, old.rf i Reg.LAN_EQ_CODE), (Reg.LAN_EQ_NEXT, old.rf i Reg.LAN_EQ_NEXT),
      (Reg.LAN_EQ_PENDING, old.rf i Reg.LAN_EQ_PENDING), (Reg.LAN_EYE_WIDTH, old.rf i Reg.LAN_EYE_WIDTH), (Reg.LAN_EYE_CODE, old.rf i Reg.LAN_EYE_CODE)]) s1
  { s2 with lanes := s.lanes.filter (fun e => keep.contains e.1), conns := s.conns.filter (fun e => sameConn e.1) }

/-- Training starts on the lanes whose record changed; the others go on as LAN_PWR now says (R67 step 6). -/
def State.lanesGo (s old : State) (recs : List LaneRec) : State :=
  s.allLanes.foldl (fun (t : State) l => if old.laneKept recs l then t.laneFollow l else t.laneStart l) s

/-! #### The Waywiser -/

/-- The encoder ports after an apply (R155): what YOKE says of ORIGIN and NPC holds for a port that restarts. -/
def State.portsLoad (s : State) (im : Image) : State :=
  let s1 := s.wayLoad im.waywiser
  im.waywiser.foldl (fun (t : State) (r : WaywRec) =>
    if (s.port r.port).rcd = some r then t
    else
      let t1 := [0x128, 0x12C, 0x130, 0x134].foldl (fun (u : State) o =>
        u.setWord .WAY 0 (o + 0x100 * r.port) (s.word .WAY 0 (o + 0x100 * r.port))) t
      (t1.portMod r.port (fun (w : WayPort) => ({ w with origin := sgn 64 (t1.rf64 0 (wp Reg.WAY_ORIGIN_LO_NM r.port)) * nmQ } : WayPort))).rebase r.port) s1

/-! #### INIT (R59) -/

/-- The actions that stop or restart the part, for an INIT record: a load or a programming is refused while the apply runs (R71), a sleep
request too (R426), and only the Outrider resets a coach (R437). -/
def initTop (s : State) (m : Nat) (l : Loc) (w : Word) : State :=
  if l.blk = .HDR then (if bitOn w 0 || bitOn w 3 || bitOn w 4 then s.hdrFail (hErr0 0x05 0) false else s)
  else if l.off = 4 then s.on (bitOn w 31) (fun t => (t.gcode 0x0030 0x8004 m).ev 0 Reg.PWR_EVENT_REFUSED)
  else if l.off = 0x20 then s.on (bitOn w 31) (fun t => t.gcode 0x0032 0x8020 m)
  else s

/-- One INIT record: a read, with all that a read does (R392), and one write, formed field by field (R59). -/
def State.initOne (s : State) (r : InitRec) : State :=
  match s.locate 0x20 r.offset with
  | none => s
  | some l =>
    let v := BitVec.ofNat 32 r.value &&& BitVec.ofNat 32 r.mask
    let rw := l.rdef.maskAcc .RW
    let act := l.rdef.maskAcc .W1C ||| l.rdef.maskAcc .W1S ||| l.rdef.maskAcc .WP
    let x := s.busRead 0x20 r.offset
    let old := x.1
    (x.2.1.busWriteWith initTop 0x20 r.offset ((rw &&& ((old &&& ~~~BitVec.ofNat 32 r.mask) ||| v)) ||| (act &&& v))).1

/-- The INIT list in section order. -/
def State.runInit (s : State) (im : Image) : State := im.inits.foldl (fun (t : State) r => t.initOne r) s

/-! ### Publication and the whole -/

/-- A publication: HDR_GEN moves on and never reads 0 (R75). -/
def State.publish (s : State) : State :=
  let g := (s.rf 0 Reg.HDR_GEN_GEN + 1) % 2 ^ 32
  s.wf 0 Reg.HDR_GEN_GEN (if g = 0 then 1 else g)

/-- The ring as the new image finds it: the same place in the same ring goes on. -/
def State.ringReload (s old : State) : State :=
  if s.rf 0 Reg.RNG_CFG_SIZE = old.rf 0 Reg.RNG_CFG_SIZE ∧ s.rf 0 Reg.RNG_CFG_POSITION = old.rf 0 Reg.RNG_CFG_POSITION then s
  else { s with ring := Ring.fresh }

/-- Everything that an image sets (R67 step 5, R70), with the patches' engines still to come. -/
def State.setUp (s : State) (im : Image) : State :=
  let kept := s.keptRanges (fullParts im) im.drams
  let a0 := (s.windows .PAT).foldl (fun (t : State) i => t.patAbort i (fun _ => true)) s
  let a1 := { a0 with mem := a0.mem.moveKept kept, poison := moveWords a0.poison kept, stale := a0.moveStale kept, freeCtr := a0.freeCtr + 1 }
  let a2 := a1.placed im
  let a3 := a2.jobs.foldl (fun (t : State) e => t.jobEnd e.1 9) a2
  let p := a3.enginesFresh (Nat.max 1 ((im.head.map (fun h => h.gridMd)).getD 1)) (s.carriages.filter (fun g => s.keepsPart im.drams 1 g))
  let p1 := ((p.portsLoad im).fabricFresh).markFlush
  let p2 := (p1.lanesKeep s im.lanes).ringReload s
  s.carriages.foldl (fun (t : State) g => if s.keepsArchive im.drams g then t.arcKeep s g else t) p2

/-- The Springs of some carriages show what follows from their settings (R219, R224). -/
def State.sprsShow (s : State) (gs : List Nat) : State :=
  gs.foldl (fun (t : State) g => if t.hasEng .SPR g then t.sprShow g t.webNm else t) s

/-- Apply and publish a full image (R67 steps 5 and 6): the new windows are there from the phase's end on, so that YOKE values and INIT writes
find them. -/
def State.applyImage (s : State) (im : Image) : State :=
  let s1 := ((s.wf 0 Reg.HDR_STATUS_PHASE 0).setUp im).runInit im
  let s2 := ((s1.lanesGo s im.lanes).publish).wf 0 Reg.HDR_STATUS_ACTIVE 1
  let s3 := s2.allLanes.foldl (fun (t : State) l => (t.wf (laneInst l) Reg.LAN_EYE_RUNS 0).wf (laneInst l) Reg.LAN_FRAMING_RETRAINS 0) s2
  (s3.wf64 0 Reg.HDR_ACTIVE_ID_LO_ID im.hdr.imageId).sprsShow s3.carriages

/-- No harness (R69): the directory is empty, no engine and no partition exists. -/
def State.harnessLost (s : State) : State :=
  let s1 := { s.enginesFresh 1 [] with hdr := { s.hdr with active := none, patches := [], patch := none, parts := [], load := none }, dir := [],
                                       lanes := [], conns := [] }
  (((s1.wf 0 Reg.HDR_STATUS_ACTIVE 0).wf 0 Reg.HDR_GEN_GEN 0).wf64 0 Reg.HDR_ACTIVE_ID_LO_ID 0).markFlush

/-! ### Carriage patches (R78) -/

/-- A pending patch is due: its kind's instant, seen from its carriage (R77, R406). -/
def State.patchDue (s : State) (p : Patch) : Bool :=
  let g := p.image.hdr.patchCarriage
  match p.kind with
  | 0 => decide (p.instant ≤ s.webNm.toNat)
  | 1 => decide (p.instant ≤ (s.ingOf g).next)
  | 2 => decide (p.instant ≤ s.now)
  | _ => true

/-- ING_STATUS.RUNNING shows whether a carriage accepts lines. -/
def State.showTaking (s : State) (g : Nat) (on : Bool) : State :=
  if s.hasEng .ING g then s.wf (s.eng .ING g) Reg.ING_STATUS_RUNNING (b2n on) else s

/-- The MD at which a patch's instant lies for its carriage (R77): the position itself, its line's, that of the time, or the web's. -/
def State.patchMd (s : State) (p : Patch) : Int :=
  match p.kind with
  | 0 => p.instant
  | 1 =>
    match (s.ingOf p.image.hdr.patchCarriage).trigs.find? (fun t => t.n == p.instant) with
    | some t => t.md
    | none => s.webNm
  | 2 => (s.webAt p.instant).1
  | _ => s.webNm

/-- The look-ahead in lines of a carriage's old chain behind Regauge: Coupler, Springs and SEG as they are set (R36). -/
def State.chainAhead (s : State) (g : Nat) : Nat :=
  (s.hopLow g).toList.length + (s.hopHigh g).toList.length + (if s.sprF g Reg.SPR_CTL_RANK5 = 1 then 2 else 1) +
  (s.smoothNow g).half + (if s.rb (s.eng .SEG g) Reg.SEG_CTL_CONTRAST_EN then 15 else 0)

/-- Lines of a carriage's neighbours that wait in seam units for lines it will no longer join go on without it. -/
def State.patchSeams (s : State) (g n : Nat) : State :=
  let s1 := if s.seamOn g then s.dropWaiting g false (fun k => decide (n ≤ k)) else s
  if 0 < g ∧ s1.seamOn (g - 1) then s1.dropWaiting (g - 1) true (fun k => decide (n ≤ k)) else s1

/-- PATCH_APPLY_INSTANT: the pending patch's instant is reached (R78 step 1). The old chain completes the output lines below n, the first at or
beyond the instant, and takes what its look-ahead needs for them. -/
def execPatchApplyInstant (s : State) : Host.Outcome State Fault Refusal :=
  .next (match s.hdr.patch with
    | some p =>
      if p.step = .pending ∧ s.rf 0 Reg.HDR_STATUS_PHASE = 5 ∧ s.patchDue p then
        let g := p.image.hdr.patchCarriage
        let n := (-(Int.ediv (-s.patchMd p) s.gridMd)).toNat
        let top : Int := ((n : Int) - 1 + s.chainAhead g) * s.gridMd
        (({ s with hdr := { s.hdr with patch := some { p with step := .draining, upTo := n, top := top, past := 0 } } } : State).patchSeams g
          n).showTaking g false
      else s
    | none => s)

/-- The old chain of a carriage completes what came before the instant and ends (R78 step 2): open components close truncated. -/
def State.patchDrain (s : State) (g : Nat) : State :=
  let top : Int := match s.hdr.patch with
    | some p => p.top
    | none => 0
  let s0 := if s.hasEng .ING g then (s.declare g (fun t => decide (t.md ≤ top)) false).settle g else s
  let s1 := match (s0.ingOf g).gap with
    | some m => if m.cause = 5 then s0 else s0.gapSend g
    | none => s0
  let s2 := State.pump s1.turns [g] s1
  let s3 := if s2.hasEng .RGA g then s2.rgaEnd g patchEnd else s2
  (State.pump s3.turns [g] s3).tapsEnd [g]

/-- The Mews of a carriage's links empty (R334). -/
def State.patchMews (s : State) (g : Nat) : State :=
  s.mews.foldl (fun (t : State) e => if (s.mewEnds e.1).any (fun x => x.1.carriage == g) then t.mewEmpty e.1 else t) s

/-- The engines of a carriage start anew, but for what names its triggers and components. A job whose
source partitions or target are torn down ends with code 9 (R288), and patches of a history that is torn down are aborted (R265). -/
def State.patchFresh (s : State) (g : Nat) (keepHist keepArc : Bool) : State :=
  let s0 := s.jobs.foldl (fun (t : State) e => if (e.2.src = g ∧ !keepArc) ∨ (e.2.dest = 0 ∧ e.2.target = g) then t.jobEnd e.1 9 else t) s
  let s1 := if keepHist then s0 else (s0.windows .PAT).foldl (fun (t : State) i => t.patAbort i (t.patReads i g)) s0
  { s1 with sta := cdel s1.sta g, tru := cdel s1.tru g, rga := cdel s1.rga g, gain := cdel s1.gain g, spr := cdel s1.spr g, seg := cdel s1.seg g,
            arc := cdel s1.arc g, hist := if keepHist then s1.hist else cdel s1.hist g,
            ing := cmod s1.ing g Ing.fresh (fun (i : Ing) => ({ Ing.fresh with
              due := i.due, next := i.next, lastSent := i.lastSent, trigs := i.trigs, unsent := i.unsent, gap := i.gap, gapBefore := i.gapBefore } : Ing)),
            lbl := cmod s1.lbl g Lbl.fresh (fun (x : Lbl) => ({ Lbl.fresh with next := x.next, lastTag := x.lastTag, lastLine := x.lastLine } : Lbl)) }

/-- The patched engines are set, INIT runs, the directory is published (R78 step 3). A package commit due at the same line applies first;
Regauge goes on from line n. -/
def State.patchApply (s : State) (im : Image) : State :=
  let g := im.hdr.patchCarriage
  let recs := if im.drams = [] then s.dramRecs else im.drams ++ s.dramRecs.filter (fun r => r.carriage != g)
  let parts := s.patchParts im
  let gone := (s.partRanges.filter (fun p => match s.partRec p.1 with
    | some r => r.carriage == g && !recs.contains r
    | none => false)).map (fun p => p.2)
  let clear := gone ++ parts.filterMap (fun p => if (s.hdr.parts.contains p) then none else
    (recs.find? (fun r => r.partition == p.1)).map (fun r => (p.2, p.2 + r.size)))
  let n : Nat := match s.hdr.patch with
    | some p => p.upTo
    | none => 0
  let y := s.armedTake g (fun a => a.at_ ((n : Int) * s.gridMd) || a.line.isSome) (fun k => s.keyCar k == g)
  let s0 := (y.patchMews g).patchFresh g (s.keepsPart recs 1 g) (s.keepsArchive recs g)
  let s1 := { s0 with mem := clear.foldl (fun (m : Memory) (r : Nat × Nat) => m.wipe r.1 r.2) s0.mem,
                      poison := s0.poison.filter (fun w => !clear.any (fun (r : Nat × Nat) => decide (r.1 ≤ 8 * w) && decide (8 * w < r.2))),
                      stale := clear.map (fun (r : Nat × Nat) => (⟨r.1, r.2, s0.freeCtr⟩ : Stale)) ++ clear.foldl (fun (l : List Stale) (r : Nat × Nat) => carve l r.1 r.2) s0.stale,
                      freeCtr := s0.freeCtr + 1 }
  let p := ((s1.placedPatch im).arcStart g).rgaMod g (fun (r : Rga) => ({ r with next := n, gapSeen := true } : Rga))
  let p1 := if s.keepsArchive recs g then p.arcKeep s g else p
  let changed := im.lanes.filter (fun r => !s.laneKept im.lanes r.lane)
  let p2 := ((({ p1 with lanes := p1.lanes.filter (fun e => (s.patchLanes im).contains e.1) } : State).runInit im).publish).showTaking g false
  (changed.foldl (fun (t : State) r => t.laneStart r.lane) p2).sprsShow [g]

/-- PATCH_CHAIN_DRAINED: the old chain has drained (R78 steps 2 and 3). -/
def execPatchChainDrained (s : State) : Host.Outcome State Fault Refusal :=
  .next (match s.hdr.patch with
    | some p =>
      if p.step = .draining then
        let t := (s.patchDrain p.image.hdr.patchCarriage).patchApply p.image
        { t with hdr := { t.hdr with patch := some { p with step := .drained } } }
      else s
    | none => s)

/-- A patched carriage starts (R78 step 4): lines still awaited count as shed by the patch, and trigger numbers start at 0 again (R115). -/
def State.patchStart (s : State) (g : Nat) : State :=
  if !s.hasEng .ING g then s
  else
    let s1 := (s.ingMod g (fun (i : Ing) => ({ i with cur := none, trigs := i.trigs.map (fun (t : Trig) => match t.state with
      | .gone _ => t
      | _ => ({ t with state := .gone 5 } : Trig)) } : Ing))).settle g
    let s2 := s1.ingMod g (fun (i : Ing) => ({ i with next := 0, unsent := [], match_ := none } : Ing))
    ((s2.ingIndex g Reg.ING_TRIG_INDEX_LO_INDEX 0).showTaking g true).ingShow g

/-- PATCH_CHAIN_READY: the patched chain is ready: the ING accepts lines again, and its run of shed lines with cause RECONFIG ends with the
next. -/
def execPatchChainReady (s : State) : Host.Outcome State Fault Refusal :=
  .next (match s.hdr.patch with
    | some p =>
      if p.step = .drained then
        let t := ({ s with hdr := { s.hdr with patch := none } } : State).patchStart p.image.hdr.patchCarriage
        ((t.wf 0 Reg.HDR_STATUS_PHASE 0).wf 0 Reg.HDR_STATUS_PATCH_CARRIAGE 0xFF).ev 0 Reg.HDR_STATUS_DONE
      else s
    | none => s)

end Sys2Proof.Machine
end

