-- ==== Sys2Proof/Machine/HarnessLoad.lean ====
section
/-! DEFINITION. Loading a harness (R64 to R71): requests, the staged image, slot programming, abort, and carriage-patch requests. -/

namespace Sys2Proof.Machine

/-- The load phase that HDR_STATUS.PHASE shows. -/
def State.phase (s : State) : Nat := s.rf 0 Reg.HDR_STATUS_PHASE

/-- Go to a load phase. -/
def State.toPhase (s : State) (n : Nat) : State := s.wf 0 Reg.HDR_STATUS_PHASE n

/-- The bytes of a source: a slot (none if it is blank), the host staging range, the Outrider buffer (R64). -/
def State.sourceBytes (s : State) (src : Nat) : Option (List Byte) :=
  match src with
  | 0 => s.store.slotA
  | 1 => s.store.slotB
  | 2 => some (s.dramBytes (s.rf64 0 Reg.HDR_STAGE_ADDR_LO_ADDR) (s.rf 0 Reg.HDR_STAGE_LEN_LEN))
  | _ => some s.hdr.orBuf

/-- Start a load (R67 step 1). -/
def State.beginLoad (s : State) (why : LoadWhy) (src : Nat) (checkOnly patch : Bool) : State :=
  { s.toPhase 1 with hdr := { s.hdr with load := some ⟨why, src, checkOnly, patch, [], none⟩ } }

/-- HDR_CTL.LOAD (R67, R71): refused with H-0005 before start-up stage 9 (R64, log 10), while a load or slot programming runs, or a patch is
pending and another is asked for; with H-0006 for a full image while a patch is pending; with H-0001 for a patch from a slot (R77, log 10). -/
def State.actLoad (s : State) : State :=
  let patch := s.rb 0 Reg.HDR_CTL_PATCH
  let src := s.rf 0 Reg.HDR_CTL_SRC
  let ph := s.phase
  if s.rf 0 Reg.GLB_BOOT_STAGE_STAGE < 9 ∨ (1 ≤ ph ∧ ph ≤ 4) ∨ ph = 6 ∨ (ph = 5 ∧ patch) then s.hdrFail (hErr0 0x05 0) false
  else if ph = 5 then s.hdrFail (hErr0 0x06 0) false
  else if patch ∧ src < 2 then s.hdrFail (hErr0 0x01 0) false
  else s.beginLoad .request src (s.rb 0 Reg.HDR_CTL_CHECK_ONLY) patch

/-- HARNESS_LOAD: `HDR_CTL.LOAD`. -/
def execHarnessLoad (m : Nat) (w : Word) (s : State) : Host.Outcome State Fault Refusal :=
  .next (s.regAct m 0 Reg.HDR_CTL_LOAD w (fun t => t.actLoad))

/-- HDR_CTL.ABORT: ends a load in PHASE 1 to 3 with H-0008; in PHASE 4 it does nothing (R71). -/
def State.actAbortLoad (s : State) : State :=
  if 1 ≤ s.phase ∧ s.phase ≤ 3 then
    let t := { s.toPhase 0 with hdr := { s.hdr with load := none } }
    t.hdrFail (hErr0 0x08 0) false
  else s

/-- HARNESS_ABORT: `HDR_CTL.ABORT`. -/
def execHarnessAbort (m : Nat) (w : Word) (s : State) : Host.Outcome State Fault Refusal :=
  .next (s.regAct m 0 Reg.HDR_CTL_ABORT w (fun t => t.actAbortLoad))

/-- HDR_CTL.PATCH_CANCEL: withdraws a pending patch with nothing changed, unless its instant has been reached (R77). -/
def State.actPatchCancel (s : State) : State :=
  match s.hdr.patch with
  | some p =>
    if p.step = .pending then
      ({ s.toPhase 0 with hdr := { s.hdr with patch := none } } : State).wf 0 Reg.HDR_STATUS_PATCH_CARRIAGE 0xFF
    else s
  | none => s

/-- PATCH_CANCEL: `HDR_CTL.PATCH_CANCEL`. -/
def execPatchCancel (m : Nat) (w : Word) (s : State) : Host.Outcome State Fault Refusal :=
  .next (s.regAct m 0 Reg.HDR_CTL_PATCH_CANCEL w (fun t => t.actPatchCancel))

/-- HDR_CTL.PROG_A or PROG_B: programs a slot from the staging range or the Outrider buffer that SRC names (R66); refused with H-0005
before start-up stage 9 (R64) and while other work runs, with H-0006 while a patch is pending, with H-0001 where SRC names a slot (log 10). -/
def State.actProg (s : State) (why : LoadWhy) : State :=
  let src := s.rf 0 Reg.HDR_CTL_SRC
  if s.phase = 5 then s.hdrFail (hErr0 0x06 0) false
  else if s.phase ≠ 0 ∨ s.rf 0 Reg.GLB_BOOT_STAGE_STAGE < 9 then s.hdrFail (hErr0 0x05 0) false
  else if src < 2 then s.hdrFail (hErr0 0x01 0) false
  else { s.toPhase 6 with hdr := { s.hdr with load := some ⟨why, src, false, false, (s.sourceBytes src).getD [], none⟩ } }

/-- PROG_A: `HDR_CTL.PROG_A`. -/
def execProgA (m : Nat) (w : Word) (s : State) : Host.Outcome State Fault Refusal :=
  .next (s.regAct m 0 Reg.HDR_CTL_PROG_A w (fun t => t.actProg .progA))

/-- PROG_B: `HDR_CTL.PROG_B`. -/
def execProgB (m : Nat) (w : Word) (s : State) : Host.Outcome State Fault Refusal :=
  .next (s.regAct m 0 Reg.HDR_CTL_PROG_B w (fun t => t.actProg .progB))

/-- The first failing rule of parse and then of check (R68, R72). A KIND that HDR_CTL.PATCH does not agree with is H-0001 after the other
rules of parse (R77; log 57). -/
def State.imageErr (s : State) (bytes : List Byte) (patch : Bool) : Option HErr :=
  match s.parseErr bytes with
  | some e => some e
  | none =>
    let im := readImage bytes
    if (im.hdr.kind = 2) ≠ patch then some (hErr0 0x01 im.hdr.kind)
    else s.checkErr im bytes

/-- The bytes of a slot: 6, 12 or 16 MiB (R323). -/
def State.slotBytes (s : State) : Nat := if s.hw.coaches = 2 then 6291456 else if s.hw.coaches = 4 then 12582912 else 16777216

/-- SLOT_PROGRAM_COMPLETE: the slot write ends (R66). The image passes parse and check first; one larger than the slot fails with
H-0009 and leaves the slot untouched (R323). Programming writes full images and patches alike never: a patch fails with H-0001. -/
def execSlotProgramComplete (s : State) : Host.Outcome State Fault Refusal :=
  .next (match s.hdr.load with
    | some l =>
      if s.phase = 6 then
        let t := { s.toPhase 0 with hdr := { s.hdr with load := none } }
        match s.imageErr l.bytes false with
        | some e => t.hdrFail e false
        | none =>
          if s.slotBytes < l.bytes.length then t.hdrFail (hErr0 0x09 l.bytes.length) false
          else
            let u := if l.why = .progA then { t with store := { t.store with slotA := some l.bytes, badA := false } }
              else { t with store := { t.store with slotB := some l.bytes, badB := false } }
            u.ev 0 Reg.HDR_STATUS_DONE
      else s
    | none => s)

/-- A start-up attempt at a slot (R65). -/
def State.bootAttempt (s : State) (why : LoadWhy) (src : Nat) : State := s.beginLoad why src false false

/-- A load that fails ends; at start-up the fallback attempt of R65 follows the first, and after the last the part waits at stage 9. -/
def State.loadFails (s : State) (l : Loading) (e : HErr) : State :=
  let boot := l.why = .boot ∨ l.why = .bootFall
  let t := ({ s.toPhase 0 with hdr := { s.hdr with load := none } } : State).hdrFail e (decide boot)
  if l.why = .boot ∧ s.rf 0 Reg.GLB_STRAP_STRAP % 4 < 2 then t.bootAttempt .bootFall (1 - l.src)
  else if boot then t.wf 0 Reg.GLB_BOOT_STAGE_STATE 1
  else t

/-- HARNESS_SOURCE_COMPLETE: the staged image is complete; parse and check run (R67 steps 2 and 3). A word of a slot that cannot be
corrected fails its CRC (R324): the slot's bytes then read as not received. -/
def execHarnessSourceComplete (s : State) : Host.Outcome State Fault Refusal :=
  .next (match s.hdr.load with
    | none => s
    | some l =>
      if s.phase ≠ 1 then s
      else
        let bad := (l.src = 0 ∧ s.store.badA) ∨ (l.src = 1 ∧ s.store.badB)
        match s.sourceBytes l.src with
        | none => s.loadFails l (hErr0 0x01 0)
        | some bytes =>
          if bad then s.loadFails l (hErr0 0x02 0)
          else
            match s.imageErr bytes l.patch with
            | some e => s.loadFails l e
            | none =>
              let im := readImage bytes
              if l.checkOnly then
                ({ s.toPhase 0 with hdr := { s.hdr with load := none } } : State).ev 0 Reg.HDR_STATUS_DONE
              else if l.patch then
                ({ s.toPhase 5 with hdr := { s.hdr with load := none, patch := some ⟨im, s.rf 0 Reg.HDR_PATCH_KIND_KIND,
                    s.rf64 0 Reg.HDR_PATCH_AT_LO_AT, .pending, 0, 0, 0⟩ } } : State).wf 0 Reg.HDR_STATUS_PATCH_CARRIAGE im.hdr.patchCarriage
              else
                ({ s.toPhase 4 with hdr := { s.hdr with load := some { l with bytes := bytes, image := some im } } } : State).applyBegins)

/-- Milliseconds since PORn, saturating as GLB_BOOT_STAGE.MS shows them: 4 ns a sample awake, the Box clock asleep. -/
def State.msUp (s : State) : Nat := satN 65535 (s.monoNs / 1000000)

/-- Start-up stages 10 to 12 follow an apply (R67 step 6); at stage 9 the stage's own end leads on. -/
def State.stagesFollow (s : State) : State :=
  let s1 := s.wf 0 Reg.GLB_BOOT_STAGE_STATE 0
  if 10 ≤ s.rf 0 Reg.GLB_BOOT_STAGE_STAGE then
    (s1.wf 0 Reg.GLB_BOOT_STAGE_STAGE 10).wf 0 Reg.GLB_BOOT_STAGE_MS (s.msUp)
  else s1

/-- HARNESS_APPLY_DRAINED: the carriages have drained and apply runs (R67 steps 5 and 6); a hardware fault in it ends with H-0F01 and no
harness (R69). FALLBACK follows the load that applied last (R65; log 83). -/
def execHarnessApplyDrained (hwFault : Bool) (s : State) : Host.Outcome State Fault Refusal :=
  .next (match s.hdr.load with
    | none => s
    | some l =>
      match l.image with
      | none => s
      | some im =>
        if s.phase ≠ 4 then s
        else
          let t := ({ s with hdr := { s.hdr with load := none } } : State).applyDrained
          if hwFault then (t.harnessLost.toPhase 0).hdrFail (hErr0 0xF01 0) true
          else
            let u := ((t.applyImage im).wf 0 Reg.HDR_STATUS_ACTIVE_SRC l.src).wf 0 Reg.HDR_STATUS_FALLBACK (b2n (l.why == .bootFall))
            (u.stagesFollow).ev 0 Reg.HDR_STATUS_DONE)

end Sys2Proof.Machine
end

