-- ==== Sys2Proof/Machine/Restart.lean ====
section
/-! DEFINITION. Losing state and getting it back: power, resets, Box-only, re-application of the running image, the sleep gap (R424, R430, R432,
R436, R437, R494). -/

namespace Sys2Proof.Machine

/-- Put a digit into one coach's place of PWR_RESET_CAUSE. -/
def nibble (word c v : Nat) : Nat := word - word / 16 ^ c % 16 * 16 ^ c + v * 16 ^ c

/-- Note the last reset cause of some coaches: 1 PORn, 2 RSTn, 3 coach reset, 4 thermal trip, 5 wake from Box-only. -/
def State.resetCause (s : State) (cs : List Nat) (v : Nat) : State :=
  cs.foldl (fun (t : State) c => t.wf 0 Reg.PWR_RESET_CAUSE_CAUSE (nibble (t.rf 0 Reg.PWR_RESET_CAUSE_CAUSE) c v)) s

/-! ### Power -/

/-- What the part shows of its build and its straps from PORn on (R2, R390, R396, R433), and Daxpamen's mailboxes (R414). -/
def State.builtRegs (s : State) : State :=
  let p := s.hw.strapPins
  let s1 := (s.wf 0 Reg.GLB_ID_PART s.hw.coaches).wf 0 Reg.GLB_ID_DEVICE (0x800 + s.hw.coaches)
  let s2 := ((s1.wf 0 Reg.OUT_CFG_MODE (p / 4 % 2)).wf 0 Reg.OUT_CFG_ADDRESS (0x58 + p / 8 % 4)).wf 0 Reg.GLB_STRAP_STRAP (p / 4 % 8 * 4)
  s2.postDefaults.showKeys

/-- The state without power: as at reset but for what the Waybill holds (R494), the board around the part, and the model's own fields. -/
def State.cold (s : State) : State :=
  { State.reset with pending := s.pending, freeCtr := s.freeCtr, hw := s.hw, egress := s.egress, keys := s.keys, store := s.store, regs := [] }

/-- PORn rises (R434, R436, R495), with VDD_IO at so many mV: above 2.5 V the I/O cells run in 3.3 V mode until the next PORn (R490). -/
def State.powerOn (s : State) (rstnLow : Bool) (vddIo : Nat) : State :=
  let t := s.cold
  (({ t with pwr := { t.pwr with rstHeld := rstnLow, io33 := decide (2500 < vddIo) } } : State).builtRegs).resetCause (List.range s.hw.coaches) 1

/-- A slot that was being programmed is left blank (R66). -/
def State.slotBroken (s : State) : State :=
  match s.hdr.load with
  | some l =>
    if l.why = .progA then { s with store := { s.store with slotA := none } }
    else if l.why = .progB then { s with store := { s.store with slotB := none } }
    else s
  | none => s

/-- The rails fail or PORn falls (R494): the outputs go low and nothing runs. -/
def State.powerOff (s : State) : State :=
  let t := (s.slotBroken.bypAllLow).cold
  { t with pwr := { t.pwr with off := true } }

/-! ### Everything in the fast domains goes -/

/-- No engine, queue, lane or transfer holds anything; commits, staged values and latches are gone. -/
def State.fastGone (s : State) : State :=
  { s.enginesFresh 1 [] with
    staged := [], stager := [], latch := [], irq := ⟨List.range 256, [], 0⟩, replies := [], postSeq := [],
    wwt := [], yoke := ⟨[], [], s.yoke.nextSeq, []⟩, lbl := [], lanes := [], conns := [], pair := Pair.fresh, ring := Ring.fresh,
    dbm := { s.dbm with streams := [(255, { Stream.fresh with phi := (s.strm 255).phi })], slices := [], lag := [], contOld := 0, contFrom := 0 },
    tmt := { s.tmt with launches := [], targets := [], sync := none, delayReq := none, pdelay := none } }

/-- The harness is gone with it. -/
def State.harnessGone (s : State) : State :=
  { s with dir := [], ydef := [], hdr := ⟨[], none, none, [], none, []⟩, arc := [], hist := [] }

/-- A register access in flight to a reset coach completes: a read with 0, a write discarded, with G-0017 (R402). -/
def State.accessLost (s : State) (x : Stalled) : State :=
  let s1 := s.gcode 0x0017 x.off x.master
  if x.isWrite then s1
  else
    match x.dram with
    | some d => s1.emit .hostRead 0 (List.replicate d.1 0)
    | none => s1.hostReads x.master 0

/-- The word of an Outrider request that waits completes in the same way; the request goes on with its next word when it is resumed. -/
def State.outLost (s : State) : State :=
  match s.out.waiting with
  | none => s
  | some f =>
    ({ s with out := { s.out with done := s.out.done + 1, data := if f.headD 0 = 0x10 then s.out.data ++ [0] else s.out.data } } : State).gcode
      0x0017 (leAt f 1 4) mOut

/-- The coach that holds a register, by its offset. -/
def State.offCoach (s : State) (off : Nat) : Nat :=
  match s.locate mHost (off % 0x10000000) with
  | some l => coachOf l.blk l.inst
  | none => 0

/-- The coach that a waiting access goes to. -/
def State.stalledCoach (s : State) (x : Stalled) : Nat := if x.dram.isSome then s.chanOf x.off / 2 else s.offCoach x.off

/-! ### RSTn (R436) -/

/-- The Waywiser after RSTn: counts stay, the settings are gone, and each port starts anew with the next load. -/
def Way.afterReset (w : Way) : Way :=
  { ports := w.ports.map (fun (p : WayPort) => ({ WayPort.fresh with sleepExt := p.sleepExt, tallyA := p.tallyA, tallyB := p.tallyB } : WayPort))
    cmps := List.replicate 16 .fresh, offset := 0, pulses := [] }

/-- RSTn, or a reset of C0: domains C, H and Y of every coach; what DRAM then holds is as never written (log 54), and a slot being
programmed stays blank (R66; log 84). Start-up goes on from stage 3; after a thermal trip the part stays in Box-only (R439). -/
def State.pinReset (s : State) (cause : Nat) : State :=
  let s1 := (s.stalled.foldl (fun (t : State) x => t.accessLost x) s).outLost
  let s2 := ((s1.slotBroken).bypAllLow).fastGone.harnessGone
  let s3 := { s2 with stalled := [], mem := [], poison := [], stale := [], dmc := [], way := s2.way.afterReset,
                      pwr := { s2.pwr with step := .none, wakeDuring := false, fromBox := false, resetting := [], linkUp := false, inD0 := false,
                                           inD3 := false, keptId := none, keptCrc := 0 } }
  let s4 := (((s3.restore .C (fun _ _ _ => true)).builtRegs).resetCause (List.range s.hw.coaches) 2).resetCause [0] cause
  let s5 := s4.wf 0 Reg.GLB_STRAP_STRAP (s.rf 0 Reg.GLB_STRAP_STRAP)
  if s.pwr.tripped ∧ s.rf 0 Reg.PWR_STATE_STATE = 2 then s5
  else
    let s6 := (s5.wf 0 Reg.PWR_STATE_STATE 0).wf 0 Reg.PWR_STATE_COACH_UP 0
    ((s6.wf 0 Reg.GLB_BOOT_STAGE_STAGE 3).wf 0 Reg.GLB_BOOT_STAGE_STATE 0).wf 0 Reg.GLB_BOOT_STAGE_COACH 0xFF

/-! ### Box-only (R424, R427 step 6, R432) -/

/-- The registers that stay through Box-only: those of the Box island, the alarms, and, with the retained copy, those from which the engines
find their archives again. -/
def keptInBox (keep : Bool) (b : Blk) (o : Nat) : Bool :=
  match b with
  | .GLB | .PWR | .WAY | .OUT => true
  | .TMT => decide (0x200 ≤ o)
  | .HDR => keep && o == 4
  | .DMC => o == 4 || (0x48 ≤ o && o < 0x54) || (0x54 ≤ o && o < 0x8C)
  | .PMT => keep
  | _ => false

/-- Fast domains and coach SRAM lose their contents; DRAM and the retained image only without KEEP_IN_BOX. The states of spare lanes read 0
too (R79, R104; log 85). -/
def State.fastLost (s : State) (keep : Bool) : State :=
  let s1 := { s.fastGone with stalled := s.stalled.filter (fun x => x.master != mHost), hist := if keep then s.hist else [] }
  let s2 := if keep then { s1 with hdr := { s1.hdr with load := none, orBuf := [], patch := none } }
    else { s1.harnessGone with mem := [], poison := [], stale := [], dmc := [] }
  let s3 := (s2.restore .C (fun b _ o => !keptInBox keep b o)).postDefaults
  if keep then s3
  else s.hw.dimms.foldl (fun (t : State) e => t.wf (chanInst e.1) Reg.DMC_STATUS_STATE 0) (s3.wf 0 Reg.HDR_STATUS_ACTIVE 0)

/-! ### Re-applying the running image (R432, R437) -/

/-- The running image and the last patch of each carriage apply again, without parse or check; the partitions whose records say so keep their
contents wherever they then lie. -/
def State.reapply (s : State) : State :=
  match s.hdr.active with
  | none => s
  | some im =>
    let old := (s.windows .PAT).foldl (fun (t : State) i => t.patAbort i (fun _ => true)) s
    let t := s.hdr.patches.foldl (fun (u : State) (p : Image) => u.patchApply p) (old.applyImage im)
    let kept := (old.dramRecs.filter (fun r => r.kind != 9 && r.flags.testBit 0)).map (fun r =>
      (old.partBase r.partition, r.size, t.partBase r.partition))
    let u := { t with mem := old.mem.moveKept kept, poison := moveWords old.poison kept, stale := old.moveStale kept, freeCtr := t.freeCtr + 1,
                      hist := old.hist.filter (fun e => old.keepsPart t.dramRecs 1 e.1) }
    let v := old.carriages.foldl (fun (x : State) g => if old.keepsArchive u.dramRecs g then x.arcKeep old g else x) u
    s.carriages.foldl (fun (x : State) g => x.showTaking g true) v

/-- After a wake no carriage owes a gap record of its own: the SLEEP record covers the span (R432). -/
def State.oweNothing (s : State) : State :=
  { s with lbl := s.lbl.map (fun e => (e.1, { e.2 with owes := 0 })) }

/-! ### The sleep gap (R430) -/

/-- The grid line before the first trigger point after the wake, by the web master's generator; by the position where its rate is fixed
(log 55). -/
def State.beforeFirst (s : State) : Nat :=
  let p := s.webPort
  if s.rf 0 (wp Reg.WAY_CFG_TRIGGER p) = 1 then
    let t := ((s.port p).nextPoint + s.way.offset).toNat
    ceilDiv t (s.gridMd * 4294967296) - 1
  else s.webNm.toNat / s.gridMd

/-- The live DBM places one gap record for the web that passed while the part slept. -/
def State.sleepGap (s : State) : State :=
  if !s.rb 0 Reg.HDR_STATUS_ACTIVE then s
  else
    let first := s.pwr.sleepLine + 1
    s.addRec 255 (s.lineGap 255 0x18 first (s.beforeFirst + 1 - first) 0xFF 0xFF 0)

/-! ### Coach reset (R437) -/

/-- The carriages of a coach stop: what they had not yet labelled is lost, their open components close truncated. -/
def State.coachEnds (s : State) (c : Nat) : State :=
  let gs := s.carriages.filter (fun g => g / 6 == c)
  let s1 := s.ingEnd gs
  let s2 := s1.mews.foldl (fun (t : State) e => if e.1 / 1024 = c ∧ s1.mewKind e.1 < 3 then t.mewEmpty e.1 else t) s1
  let s3 := gs.foldl (fun (t : State) g => if t.hasEng .LBL g then t.lblTruncate g else t) s2
  let s4 := State.pump s3.turns gs s3
  { s4 with spr := s4.spr.filter (fun e => e.1 / 6 != c), seg := s4.seg.filter (fun e => e.1 / 6 != c), rga := s4.rga.filter (fun e => e.1 / 6 != c),
            tru := s4.tru.filter (fun e => e.1 / 6 != c), ing := s4.ing.filter (fun e => e.1 / 6 != c), sta := s4.sta.filter (fun e => e.1 / 6 != c),
            mews := s4.mews.filter (fun e => e.1 / 1024 != c) }

/-- Coach c, not C0, goes into reset. -/
def State.coachReset (s : State) (c : Nat) : State :=
  let inFlight := fun (x : Stalled) => s.stalledCoach x == c
  let s1 := (s.stalled.filter inFlight).foldl (fun (t : State) x => t.accessLost x) s
  let s2 := match s.out.waiting with
    | some f => if s.offCoach (leAt f 1 4) = c then s1.outLost else s1
    | none => s1
  let s3 := ((({ s2 with stalled := s2.stalled.filter (fun x => !inFlight x) } : State).yokeCancelAll).drayStopAll (some c) 8).pairEnds
  let s4 := ((s3.coachEnds c).pinBreakOwner (0x20 + 2 * c)).pinBreakOwner (0x21 + 2 * c)
  let s5 := s4.restore .C (fun b i _ => b.typeCode != 0 && i / 32 == c)
  let s6 := { s5 with lanes := s5.lanes.filter (fun e => e.1 / 16 != c), dry := s5.dry.filter (fun e => e.1 / 32 != c),
                      wht := s5.wht.filter (fun e => e.1 / 32 != c), dmc := s5.dmc.filter (fun e => e.1 / 32 != c),
                      pwr := { s5.pwr with resetting := c :: s5.pwr.resetting.filter (fun x => x != c) } }
  let up := s6.rf 0 Reg.PWR_STATE_COACH_UP
  (((s6.wf 0 Reg.PWR_STATE_COACH_UP (up - up / 2 ^ c % 2 * 2 ^ c)).resetCause [c] 3)).holdDrops

/-- Every reset coach is ready again: the running image applies as a full load would (R67, R70), with start-up stages to follow. -/
def State.reapplyFull (s : State) (cs : List Nat) : State :=
  let s1 := ((s.applyBegins).applyDrained).reapply
  let s2 := s1.allLanes.foldl (fun (t : State) l => if cs.contains (l / 16) then t.laneStart l else t) s1
  s2.stagesFollow

end Sys2Proof.Machine
end

