-- ==== Sys2Proof/Machine/Power.lean ====
section
/-! DEFINITION. Power states, wake, start-up, resets and temperature (R423 to R439, R479, R494, R495). -/

namespace Sys2Proof.Machine

/-- KEEP_IN_BOX holds when every DDR5 channel that holds DIMMs has DMC_PWR.KEEP_IN_BOX set (R423, log 14). -/
def State.keepInBox (s : State) : Bool :=
  s.hw.dimms.all (fun d => s.rb (unitOf (d.1 / 2) (d.1 % 2)) Reg.DMC_PWR_KEEP_IN_BOX)

/-- A refused power request: PWR_EVENT.REFUSED and its code (R426). -/
def State.pwrRefuse (s : State) (m d : Nat) : State := (s.gcode d 0x8004 m).ev 0 Reg.PWR_EVENT_REFUSED

/-- An entry into a sleep state begins (R427 step 1): runs of the Wheelwright are abandoned (R442); out of Stand only the clocks are left to
stop. -/
def State.sleepBegins (s : State) (t : Nat) : State :=
  let s1 := (((s.leaveRun).toPwr 3).wf 0 Reg.PWR_STATE_TARGET t).wwtAbandon
  { s1 with pwr := { s1.pwr with step := if s.rf 0 Reg.PWR_STATE_STATE = 1 then .clocks else .draining, wakeDuring := false } }

/-- PWR_CTL.GO (R426); a standby refuses it, and a primary sends it to its standby (R467). -/
def State.actSleep (s : State) (m : Nat) : State :=
  let t := s.rf 0 Reg.PWR_CTL_TARGET
  let force := s.rb 0 Reg.PWR_CTL_FORCE
  let st := s.rf 0 Reg.PWR_STATE_STATE
  if drayMaster m then s
  else if s.standby then (s.pcode 0x0012).ev 0 Reg.PWR_EVENT_REFUSED
  else if st = 3 ∨ st = 4 ∨ s.rf 0 Reg.GLB_BOOT_STAGE_STAGE ≠ 12 ∨ st = 2 ∨ (st = 1 ∧ t = 1) ∨ t = 0 ∨ t = 3 then s.pwrRefuse m 0x0030
  else if s.rf 0 Reg.HDR_STATUS_PHASE ≠ 0 then s.pwrRefuse m 0x0030
  else if s.yoke.commits ≠ [] then s.pwrRefuse m 0x0030
  else if t = 2 ∧ !force ∧ !s.keepInBox ∧ s.rf64 0 Reg.DBM_SEQ_LO_SEQ ≠ s.rf64 0 Reg.DBM_ACK_LO_SEQ then s.pwrRefuse m 0x0031
  else if t = 2 ∧ !force ∧ !s.pwr.inD3 ∧ !(s.rf 0 Reg.GLB_STRAP_STRAP).testBit 6 then s.pwrRefuse m 0x0031
  else
    let s1 := s.sleepBegins t
    if s.role = 2 then s1.emit .mirror 0x4D [1, t] else s1

/-- SLEEP_REQUEST: `PWR_CTL.GO` (R426, R427 step 1). -/
def execSleepRequest (m : Nat) (w : Word) (s : State) : Host.Outcome State Fault Refusal :=
  .next (s.regAct m 0 Reg.PWR_CTL_GO w (fun t => t.actSleep m))

/-- CONTROL_SLEEP_REQUEST: a CONTROL sleep request of the primary reaches the standby: it leaves for state 1, where it stays until both have
woken, and enters the same sleep state (R467). -/
def execControlSleepRequest (target : Nat) (s : State) : Host.Outcome State Fault Refusal :=
  .next (if s.standby ∧ s.running ∧ (target = 1 ∨ target = 2) then
    ((((s.pairMod (fun (p : Pair) => ({ p with joinSince := none, resync := none, waiting := [] } : Pair))).toRole 1).resyncShow).sleepBegins target)
  else s)

/-- SLEEP_DRAIN_DONE: every chain has drained (R427 step 2): outstanding triggers are missing, components close as at a hole, STA blocks
close SHORT, archive rows close. -/
def execSleepDrainDone (s : State) : Host.Outcome State Fault Refusal :=
  .next (if s.pwr.step = .draining then
    let t := s.drainAll sleepEnd
    { t with pwr := { t.pwr with step := .drayage, sleepLine := t.lastLine } }
  else s)

/-- SLEEP_DRAYAGE_DONE: running channels have completed, or are aborted with code 7 at the limit (R427 step 3); then DRAM enters
self-refresh and lanes take the states of R104 (step 4). -/
def execSleepDrayageDone (s : State) : Host.Outcome State Fault Refusal :=
  .next (if s.pwr.step = .drayage then
    let t := ((s.drayStopAll none 7).dramSleep).lanesSleep
    { t with pwr := { t.pwr with step := .clocks } }
  else s)

/-- Daxpamen retains the applied image: its IMAGE_ID and header CRC stand in the Box island (R432). -/
def State.retain (s : State) (keep : Bool) : State :=
  let im := if keep then s.hdr.active else none
  { s with pwr := { s.pwr with keptId := im.map (fun (x : Image) => x.hdr.imageId)
                               keptCrc := (im.map (fun (x : Image) => x.hdr.crc)).getD 0 } }

/-- Enter Box-only (R427 step 6, R432): fast domains and coach SRAM lose their contents, DRAM too without KEEP_IN_BOX, the PCIe endpoint
powers down and BYP_HOLDn0 to 7 go low. -/
def State.enterBox (s : State) : State :=
  let keep := s.keepInBox
  let s1 := s.retain keep
  let s2 := { s1 with pwr := { s1.pwr with linkUp := false, inD0 := false, step := .none } }
  let s3 := (s2.fastLost keep).bypAllLow
  (s3.wf 0 Reg.PWR_STATE_COACH_UP 0).toPwr 2

/-- The clocks stop: the Waywiser and the Timetable go on with the Box clock (R165, R384). -/
def State.clocksStop (s : State) : State := ((s.waySleep).tmtSleep).wf 0 Reg.PWR_STATE_COACH_UP 0

/-- SLEEP_CLOCKS_STOPPED: fast clocks stop and Stand is reached (R427 step 5); a wake that came meanwhile leaves by the Stand column, or
Box-only follows (step 6, R428). An entry out of Stand stops no clock. -/
def execSleepClocksStopped (s : State) : Host.Outcome State Fault Refusal :=
  .next (if s.pwr.step = .clocks then
    let u := if s.rf 0 Reg.PWR_STATE_COACH_UP = 0 then s else s.clocksStop
    let t := ((u.toPwr 1).wf 0 Reg.PWR_STATE_TARGET 0).ev 0 Reg.PWR_EVENT_ENTERED
    if s.pwr.wakeDuring then (t.wakeBegins false).ev 0 Reg.PWR_EVENT_ABORTED
    else if s.rf 0 Reg.PWR_STATE_TARGET = 2 then t.enterBox
    else { t with pwr := { t.pwr with step := .none } }
  else s)

/-- WAKE_EVENT: a wake source of R429 other than the command: 1 motion, 2 compare, 3 GIO, 4 Post horn, 6 alarm. -/
def execWakeEvent (src idx : Nat) (s : State) : Host.Outcome State Fault Refusal := .next (s.wakeSource src idx)

/-- PWR_CMD.WAKE (R429, R439): the Outrider in any sleep state, the host in Stand; after a trip the Outrider only, and only while the
hottest sensor reads below 95.0 °C. -/
def State.actWake (s : State) (m : Nat) : State :=
  let st := s.rf 0 Reg.PWR_STATE_STATE
  let may := m = mOut ∨ (m = mHost ∧ st = 1 ∧ !s.pwr.tripped)
  if !may ∨ (st ≠ 1 ∧ st ≠ 2 ∧ st ≠ 3) then s
  else if s.pwr.tripped ∧ 760 ≤ sgn 16 (s.rf 0 Reg.PWR_TEMP_MAX) then s.ev 0 Reg.PWR_EVENT_REFUSED
  else
    let s1 := (s.wf 0 Reg.PWR_WAKE_CAUSE_SOURCE 5).wf 0 Reg.PWR_WAKE_CAUSE_INDEX 0
    let s2 := s1.wf 0 Reg.PWR_WAKE_CAUSE_SEEN (s.rf 0 Reg.PWR_WAKE_CAUSE_SEEN ||| 16)
    let s3 := { s2 with pwr := { s2.pwr with tripped := false } }
    if st = 3 then { s3 with pwr := { s3.pwr with wakeDuring := true } } else s3.wakeBegins (st == 2)

/-- WAKE_COMMAND: `PWR_CMD.WAKE`. -/
def execWakeCommand (m : Nat) (w : Word) (s : State) : Host.Outcome State Fault Refusal :=
  .next (s.regAct m 0 Reg.PWR_CMD_WAKE w (fun t => t.actWake m))

/-- The horns kept in PWR_WAKE_HORN ring bit 1 of their mailboxes when the control domain of C0 runs again (R429). -/
def State.wakeHorns (s : State) : State :=
  let h := s.rf 0 Reg.PWR_WAKE_HORN_MAILBOX
  ((List.range 16).foldl (fun t m => if h.testBit m then t.ringHorn m 2 else t) s).wf 0 Reg.PWR_WAKE_HORN_MAILBOX 0

/-- Every coach runs, every PLL is locked and every reference is there (R431 step 1, R434 stage 4). -/
def State.clocksUp (s : State) : State :=
  let n := 2 ^ s.hw.coaches - 1
  let s1 := ((s.wf 0 Reg.PWR_STATE_COACH_UP n).wf 0 Reg.CLK_LOCK_PACE n).wf 0 Reg.CLK_LOCK_CONTROL n
  let s2 := ((s1.wf 0 Reg.CLK_LOCK_SAMPLE 1).wf 0 Reg.CLK_LOCK_SYSREF 1).wf 0 Reg.CLK_LOCK_LANEREF 1
  (s2.wf 0 Reg.CLK_LOCK_PCIEREF 1).wf 0 Reg.CLK_LOCK_BOX 1

/-- The PCIe link trains, unless STRAP[6] keeps the endpoint off (R433, R434 stage 7). -/
def State.linkTrains (s : State) : State :=
  let up := !(s.rf 0 Reg.GLB_STRAP_STRAP).testBit 6
  { s with pwr := { s.pwr with linkUp := up, inD0 := up, inD3 := false } }

/-- Carriages are ready: a part with a PAIR section negotiates, ring members show themselves (R434 stage 11, R451, R472). -/
def State.carriagesReady (s : State) : State := ((s.whtRelease).pairStart).ringLive

/-- A pair looks for its other side again after Stand: heartbeats count anew, and a part in state 1 says HELLO (R467). -/
def State.pairWakes (s : State) : State :=
  let s1 := s.wf 0 Reg.PAI_STATUS_MISSED 0
  if s1.role = 1 then s1.helloSend else s1

/-- The end of a wake (R431 step 7): Run, WOKEN, the SLEEP gap record of R430 is placed. LAST_WAKE_US counts the samples of 4 ns since it
began. -/
def State.wakeEnds (s : State) : State :=
  let us := 4 * (s.tmt.samples - s.pwr.wakeFrom) / 1000
  let s1 := (s.toPwr 0).wf 0 Reg.PWR_LAST_WAKE_US (satN (2 ^ 32 - 1) us)
  let s2 := (s1.wayWake.tmtWake).wakeHorns
  ((s2.sleepGap).wwtResume).ev 0 Reg.PWR_EVENT_WOKEN

/-- The load of stage 9 starts from the strap-selected source (R65); without one the stage waits. -/
def State.bootLoad (s : State) : State :=
  let h := s.rf 0 Reg.GLB_STRAP_STRAP % 4
  if h = 3 then s.wf 0 Reg.GLB_BOOT_STAGE_STATE 1 else s.bootAttempt .boot (if h = 1 then 1 else 0)

/-- Enter a start-up stage (R434). -/
def State.toStage (s : State) (n : Nat) : State :=
  ((s.wf 0 Reg.GLB_BOOT_STAGE_STAGE n).wf 0 Reg.GLB_BOOT_STAGE_STATE 0).wf 0 Reg.GLB_BOOT_STAGE_MS s.msUp

/-- A wake from Box-only with its retained copy (R431, R432). An uncorrectable word of the copy leads to the load of start-up instead. -/
def State.boxWake (s : State) (copyBad : Bool) : State :=
  let s1 := (((s.resetCause (List.range s.hw.coaches) 5).clocksUp).dramWake).linkTrains
  if copyBad then ((s1.harnessGone.wf 0 Reg.HDR_STATUS_ACTIVE 0).toStage 9).bootLoad
  else ((((s1.reapply).oweNothing).lanesTrainAll).carriagesReady).wakeEnds

/-- WAKE_COMPLETE: the wake's steps complete (R431). A wake from Box-only re-applies the retained image (R432), unless a word of the copy is
uncorrectable; without KEEP_IN_BOX start-up stages 4 to 12 run instead and end the wake. -/
def execWakeComplete (copyBad : Bool) (s : State) : Host.Outcome State Fault Refusal :=
  .next (if s.rf 0 Reg.PWR_STATE_STATE ≠ 4 ∨ s.rf 0 Reg.GLB_BOOT_STAGE_STAGE ≠ 12 then s
  else if s.pwr.fromBox then s.boxWake copyBad
  else ((((s.wf 0 Reg.PWR_STATE_COACH_UP (2 ^ s.hw.coaches - 1)).dramWake).lanesWake).pairWakes).wakeEnds)

/-- BOOT_CONTINUE: `PWR_CMD.CONTINUE` from the Outrider ends the hold of stage 3 (R433). -/
def State.actContinue (s : State) (m : Nat) : State :=
  if m = mOut ∧ s.rf 0 Reg.GLB_BOOT_STAGE_STAGE = 3 ∧ s.rf 0 Reg.GLB_BOOT_STAGE_STATE = 1 then
    (s.wf 0 Reg.GLB_BOOT_STAGE_STATE 0).wf 0 Reg.GLB_BOOT_STAGE_STAGE 4
  else s

/-- BOOT_CONTINUE: `PWR_CMD.CONTINUE`. -/
def execBootContinue (m : Nat) (w : Word) (s : State) : Host.Outcome State Fault Refusal :=
  .next (s.regAct m 0 Reg.PWR_CMD_CONTINUE w (fun t => t.actContinue m))

/-! ### Start-up and resets -/

/-- POWER_ON_RESET: PORn rises or the VDD_AON monitor releases: every register of every domain takes its reset value and stage 1 begins;
only the Waybill keeps what it held (R434, R436, R494). RSTn low at that moment holds the part at the end of stage 2 (R495); the part senses
VDD_IO, given in mV (R490). -/
def execPowerOnReset (rstnLow : Bool) (vddIo : Nat) (s : State) : Host.Outcome State Fault Refusal := .next (s.powerOn rstnLow vddIo)

/-- A fault stops start-up in its stage (R434). -/
def State.bootStop (s : State) (letter : Char) (d coach : Nat) : State :=
  let s1 := ((s.wf 0 Reg.GLB_BOOT_ERR_CODE (codeWord letter d)).wf 0 Reg.GLB_BOOT_STAGE_STATE 2).wf 0 Reg.GLB_BOOT_STAGE_COACH coach
  if letter = 'G' then s1.gcode d 0 0 else s1

/-- Stage 6 (R307, R434): D-0002 and D-0003 stop it by the DIMMs that are fitted; otherwise every channel trains, for the time since the stage
began. -/
def State.dramStage (s : State) (train : Nat) (margins : List Nat) : State :=
  match s.dimmFault with
  | some d => (s.dmcCode 0 'D' d 0).bootStop 'D' d 0
  | none => (s.dramTrained train (s.msUp - s.rf 0 Reg.GLB_BOOT_STAGE_MS) margins).toStage 7

/-- The end of stage 11: Run; the first of a wake ends it. -/
def State.lastStage (s : State) : State :=
  let s1 := (s.toStage 12).carriagesReady
  if s.rf 0 Reg.PWR_STATE_STATE = 4 then s1.wakeEnds else s1.wwtResume

/-- STARTUP_STAGE_COMPLETE: the present stage ends, or a fault of stage 4 or 5 on a coach stops start-up (R434). Stage 6 comes with how its
training went: 0 nothing stored holds, 1 stored results verify, 2 they fail with D-0005; and ten margins for each channel. -/
def execStartupStageComplete (fault : Bool) (coach train : Nat) (margins : List Nat) (s : State) : Host.Outcome State Fault Refusal :=
  let st := s.rf 0 Reg.PWR_STATE_STATE
  .next (if s.pwr.off ∨ s.rf 0 Reg.GLB_BOOT_STAGE_STATE = 2 ∨ (st ≠ 0 ∧ st ≠ 4) then s
  else
    match s.rf 0 Reg.GLB_BOOT_STAGE_STAGE with
    | 1 => s.toStage 2
    | 2 =>
      let s1 := s.wf 0 Reg.GLB_STRAP_STRAP s.hw.strapPins
      if s.pwr.rstHeld then s1.wf 0 Reg.GLB_BOOT_STAGE_STATE 1 else s1.toStage 3
    | 3 =>
      if s.rf 0 Reg.GLB_BOOT_STAGE_STATE = 1 then s
      else if !s.store.daxA ∧ !s.store.daxB then s.bootStop 'G' 0x0050 0
      else if (s.rf 0 Reg.GLB_STRAP_STRAP).testBit 7 then s.wf 0 Reg.GLB_BOOT_STAGE_STATE 1
      else s.toStage 4
    | 4 => if fault then s.bootStop 'G' 0x0051 coach else s.clocksUp.toStage 5
    | 5 => if fault then s.bootStop 'G' 0x0052 coach else s.toStage 6
    | 6 => s.dramStage train margins
    | 7 => s.linkTrains.toStage 8
    | 8 => if s.rb 0 Reg.HDR_STATUS_ACTIVE then s.toStage 9 else (s.toStage 9).bootLoad
    | 9 => if s.rb 0 Reg.HDR_STATUS_ACTIVE then s.toStage 10 else s
    | 10 => s.lanesBaseline.toStage 11
    | 11 => s.lastStage
    | _ => s)

/-- RESET_PIN: RSTn goes low for a time (R436, R495): pulses under 200 ns are ignored, from 200 ns to 1 µs they may or may not reset, and
while PORn is low RSTn has no effect. -/
def execResetPin (ns : Nat) (s : State) : Host.Outcome State Fault Refusal :=
  .next (if s.pwr.off ∨ ns < 200 then s
  else if ns < 1000 then (if Config.shortResetPulse s.freeCtr then s.drawn.pinReset 2 else s.drawn)
  else s.pinReset 2)

/-- RSTN_RISE: RSTn, held low past PORn, rises and start-up goes on from the end of stage 2 (R495). -/
def execRstnRise (s : State) : Host.Outcome State Fault Refusal :=
  .next (if s.pwr.rstHeld ∧ !s.pwr.off then
    let t := { s with pwr := { s.pwr with rstHeld := false } }
    if s.rf 0 Reg.GLB_BOOT_STAGE_STAGE = 2 ∧ s.rf 0 Reg.GLB_BOOT_STAGE_STATE = 1 then t.toStage 3 else t
  else s)

/-- PWR_RESET_CTL.GO by the Outrider (R437); of C0 it acts as RSTn (R436). -/
def State.actCoachReset (s : State) : State :=
  let c := s.rf 0 Reg.PWR_RESET_CTL_COACH
  if c = 0 then s.pinReset 3
  else if s.hw.coaches ≤ c then s
  else s.coachReset c

/-- COACH_RESET: `PWR_RESET_CTL.GO`; a write by another master is discarded and records G-0032. -/
def execCoachReset (m : Nat) (w : Word) (s : State) : Host.Outcome State Fault Refusal :=
  .next (s.regOnly (m == mOut) m 0 Reg.PWR_RESET_CTL_GO w (fun t => t.actCoachReset) (fun t => t.gcode 0x0032 0x8020 m))

/-- COACH_RESET_READY: the reset coach has run stages 4 to 9, its DRAM trained as in stage 6, and the running image is re-applied from its
retained copy (R436, R437) once no other coach is in reset. -/
def execCoachResetReady (c train ms : Nat) (margins : List Nat) (s : State) : Host.Outcome State Fault Refusal :=
  .next (if s.pwr.resetting.contains c then
    let chans := (s.hw.dimms.map (fun e => e.1)).filter (fun ch => ch / 2 == c)
    let t := s.chansTrained chans train ms margins
    let v := t.wf 0 Reg.PWR_STATE_COACH_UP (t.rf 0 Reg.PWR_STATE_COACH_UP ||| 2 ^ c)
    let w := (v.wf 0 Reg.CLK_LOCK_PACE (v.rf 0 Reg.CLK_LOCK_PACE ||| 2 ^ c)).wf 0 Reg.CLK_LOCK_CONTROL (v.rf 0 Reg.CLK_LOCK_CONTROL ||| 2 ^ c)
    let u := { w with pwr := { w.pwr with resetting := w.pwr.resetting.filter (fun x => x != c) } }
    if u.pwr.resetting.isEmpty then u.reapplyFull [c] else u
  else s)

/-- COACHMAN_WATCHDOG: a core's watchdog expires and its Daxpamen restarts: the Linchpins of the core and those of 0x7F break (R421,
R436). -/
def execCoachmanWatchdog (c j : Nat) (s : State) : Host.Outcome State Fault Refusal :=
  .next ((s.pinBreakOwner (0x20 + 2 * c + j)).pinBreakOwner mWwt)

/-- The PCIe function resets (R436): MSI-X returns to all vectors masked, the function to D0, and the host's Linchpins break (R421). -/
def State.functionReset (s : State) (up : Bool) : State :=
  ({ s with irq := { s.irq with masked := List.range 256, pend := [] }, pwr := { s.pwr with linkUp := up, inD0 := up, inD3 := false } } : State).pinBreakOwner mHost

/-- PCIE_RESET: kind 0 a hot reset, 1 link down, 2 a function-level reset (R436). -/
def execPcieReset (kind : Nat) (s : State) : Host.Outcome State Fault Refusal := .next (s.functionReset (s.pwr.linkUp && kind != 1))

/-- PCIE_PERST: PCIE_PERSTn restarts link training of the endpoint only (R435): a fundamental reset of the function (R421). Before stage
7 only the training restarts. -/
def execPciePerst (s : State) : Host.Outcome State Fault Refusal :=
  .next (if s.pwr.off ∨ (s.rf 0 Reg.GLB_STRAP_STRAP).testBit 6 ∨ s.rf 0 Reg.PWR_STATE_STATE = 2 then s
  else s.functionReset (decide (7 < s.rf 0 Reg.GLB_BOOT_STAGE_STAGE)))

/-- FUNCTION_D_STATE_CHANGE: the host moves the function to D3hot or back to D0; leaving D0 breaks the host's Linchpins (R421). -/
def execFunctionDStateChange (d3 : Bool) (s : State) : Host.Outcome State Fault Refusal :=
  .next (let t := { s with pwr := { s.pwr with inD0 := !d3 && s.pwr.linkUp, inD3 := d3 } }
    if d3 ∧ s.pwr.inD0 then t.pinBreakOwner mHost else t)

/-- POWER_LOSS: the rails fail or PORn falls: only the Waybill keeps its contents; a slot being programmed is left blank (R66, R494). -/
def execPowerLoss (s : State) : Host.Outcome State Fault Refusal := .next s.powerOff

/-! ### Temperature, clocks -/

/-- The hottest valid sensor of the package, with its coach and number (R439). -/
def State.hottest (s : State) : Int × Nat :=
  ((List.range (16 * s.hw.coaches)).filter (fun k => s.sensorValid (k / 16) (k % 16) &&
    (cget s.pwr.temps k).isSome)).foldl
    (fun (a : Int × Nat) k => if a.1 < s.tempOf (k / 16) (k % 16) then (s.tempOf (k / 16) (k % 16), k) else a) (-32768, 0)

/-- What a trip cuts short: the clocks stop at once, the last line is Φ, and DRAM enters self-refresh only with KEEP_IN_BOX (R439). -/
def State.tripStops (s : State) : State :=
  if s.rf 0 Reg.PWR_STATE_STATE = 1 then s
  else
    let s1 := { s with pwr := { s.pwr with sleepLine := (s.strm 255).phi, wakeDuring := false, step := .none } }
    let s2 := (((s1.leaveRun).drayDrop).wwtForget).clocksStop
    if s2.keepInBox then s2.dramSleep else s2

/-- The temperature trip (R439): Box-only at once. -/
def State.trip (s : State) (sensor : Nat) (t : Int) : State :=
  let s1 := if s.rf 0 Reg.PWR_STATE_STATE = 2 then s else ((s.tripStops).enterBox).wf 0 Reg.PWR_STATE_TARGET 0
  let s2 := { s1 with pwr := { s1.pwr with tripped := true } }
  let s3 := s2.resetCause (List.range s.hw.coaches) 4
  (s3.gcode 0x0041 (sensor + 65536 * unsgn 16 t) 0).ev 0 Reg.PWR_EVENT_TRIP

/-- TEMP_SENSOR_UPDATE: the 16 sensors of a coach update (R438): the hottest of the package is shown, warned of and tripped at
(R439), and the Wheelwright's temperature triggers look at it (R442). -/
def execTempSensorUpdate (c : Nat) (readings : List Nat) (s : State) : Host.Outcome State Fault Refusal :=
  .next (if s.pwr.off ∨ s.hw.coaches ≤ c then s
  else
    let temps := (List.range 16).foldl (fun (m : List (Nat × Nat)) k => cset m (16 * c + k) (readings.getD k 0 % 65536)) s.pwr.temps
    let s1 : State := { s with pwr := { s.pwr with temps := temps } }
    let s2 : State := if s.stopped .WWT (unitOf c 0) then s1
      else (List.range 8).foldl (fun (t : State) n => (t.wf (unitOf c 0) (Reg.WWT_TEMP_EVEN.sh (4 * n)) (readings.getD (2 * n) 0)).wf
        (unitOf c 0) (Reg.WWT_TEMP_ODD.sh (4 * n)) (readings.getD (2 * n + 1) 0)) s1
    let was := sgn 16 (s2.rf 0 Reg.PWR_TEMP_MAX)
    let h := s2.hottest
    let s3 := s2.wf 0 Reg.PWR_TEMP_MAX (unsgn 16 h.1)
    let warn := sgn 16 (s3.rf 0 Reg.PWR_TEMP_WARN)
    let s4 : State := if warn ≤ h.1 ∧ was < warn then (s3.gcode 0x0040 (unsgn 16 h.1) 0).ev 0 Reg.PWR_EVENT_HOT else s3
    if 880 ≤ h.1 ∧ !s4.pwr.tripped then s4.trip h.2 h.1
    else if s4.running then s4.wwtAll.foldl (fun t x => if x.2.1 = c ∨ x.1 = 2 then t.wwtTempCheck x.1 x.2.1 x.2.2 else t) s4
    else s4)

/-- PLL_UNLOCK: in Run a PLL loses lock (R479): a pace or control PLL (kind 0) of a coach resets it, the Waywiser sample PLL (kind 1)
acts as RSTn; G-0053 is recorded. -/
def execPllUnlock (kind c : Nat) (s : State) : Host.Outcome State Fault Refusal :=
  .next (if !s.running then s
  else
    let s1 := (s.wf 0 Reg.CLK_EVENT_UNLOCK 1).gcode 0x0053 0 0
    if kind = 0 ∧ c ≠ 0 ∧ c < s.hw.coaches then s1.coachReset c
    else if kind = 0 then s1.pinReset 3
    else s1.pinReset 2)

/-- REFERENCE_LOSS: in Run a reference is lost (R479): 0 the 25 MHz system reference acts as RSTn with G-0053, 1 the lane reference takes
every lane down with L-0010, 2 the PCIe reference takes the link down. -/
def execReferenceLoss (kind : Nat) (s : State) : Host.Outcome State Fault Refusal :=
  .next (if !s.running then s
  else
    let s1 := s.wf 0 Reg.CLK_EVENT_REF_LOSS 1
    match kind with
    | 0 => ((s1.gcode 0x0053 0 0).pinReset 2).wf 0 Reg.CLK_LOCK_SYSREF 0
    | 1 => (s1.wf 0 Reg.CLK_LOCK_LANEREF 0).lanesDownAll
    | _ => (s1.wf 0 Reg.CLK_LOCK_PCIEREF 0).functionReset false)

/-- REFERENCE_RETURN: a lost reference returns (R479): the lanes retrain after the lane reference, the link trains after the PCIe
reference. -/
def execReferenceReturn (kind : Nat) (s : State) : Host.Outcome State Fault Refusal :=
  .next (if s.pwr.off then s
  else
    match kind with
    | 0 => s.wf 0 Reg.CLK_LOCK_SYSREF 1
    | 1 => if s.rb 0 Reg.CLK_LOCK_LANEREF then s else (s.wf 0 Reg.CLK_LOCK_LANEREF 1).lanesTrainAll
    | _ => if s.rb 0 Reg.CLK_LOCK_PCIEREF then s
           else { s.wf 0 Reg.CLK_LOCK_PCIEREF 1 with pwr := { s.pwr with linkUp := true, inD0 := true, inD3 := false } })

end Sys2Proof.Machine
end

