-- ==== Sys2Proof/Machine/Top.lean ====
section
/-! DEFINITION. Accesses from outside: register writes in full (R10, R392), unoccupied ones (R34), the BAR2 window (R393), interrupts (R395),
accesses that waited (R401), and words on the Fifth wheel (R21, R23). -/

namespace Sys2Proof.Machine

/-! ### Register writes -/

/-- A write of HDR_CTL: ABORT, PATCH_CANCEL, LOAD, PROG_A, PROG_B in this order. -/
def State.hdrCtl (s : State) (w : Word) : State :=
  let s1 := (s.on (bitOn w 1) (fun t => t.actAbortLoad)).on (bitOn w 2) (fun t => t.actPatchCancel)
  ((s1.on (bitOn w 0) (fun t => t.actLoad)).on (bitOn w 3) (fun t => t.actProg .progA)).on (bitOn w 4) (fun t => t.actProg .progB)

/-- What the registers that stop or restart the part do: HDR_CTL, PWR_CTL, PWR_CMD after their access codes, PWR_RESET_CTL by the Outrider
only (R437). -/
def State.topWrite (s : State) (m : Nat) (l : Loc) (w : Word) : State :=
  if l.blk = .HDR then s.hdrCtl w
  else if l.off = 4 then s.on (bitOn w 3) (fun t => t.actSleep m)
  else if l.off = 0x18 then (s.on (bitOn w 0) (fun t => t.actWake m)).on (bitOn w 1) (fun t => t.actContinue m)
  else if m = mOut then (s.codeWrite m l w).on (bitOn w 3) (fun t => t.actCoachReset)
  else s.gcode 0x0032 0x8020 m

/-- A whole-word write by a master to a BAR0 offset, with how it ended (R11, R34, R401). -/
def State.busWrite (s : State) (m off : Nat) (w : Word) : State × Done := s.busWriteWith State.topWrite m off w

/-- REGISTER_WRITE: a write by a master at a BAR0 offset, in the active or the staged view; `be` holds its byte enables, and a write with
only some of them is discarded with G-0013 (R10, R392). -/
def execRegisterWrite (m off be : Nat) (w : Word) (s : State) : Host.Outcome State Fault Refusal :=
  .next (let o := off - off % 4
    if be % 16 ≠ 15 then s.gcode 0x0013 o m else (s.busWrite m o w).1)

/-- Whether a register access at an offset finds no block (R34). -/
def State.noBlock (s : State) (m off : Nat) : Bool :=
  if inStaged off then
    match s.locate m (off - 0x10000000) with
    | none => true
    | some l => !l.rdef.hasRws
  else !(decide (0x10000 ≤ off) && decide (off < 0x20000)) && (s.locate m off).isNone

/-- UNOCCUPIED_ACCESS: an access to an offset, or to a package DRAM address, that nothing occupies completes at once: a read returns 0, a
write is discarded, and G-0010 is recorded (R34, R310). -/
def execUnoccupiedAccess (m off : Nat) (isWrite dram : Bool) (s : State) : Host.Outcome State Fault Refusal :=
  .next (if (if dram then s.dramOpen off else !s.noBlock m off) then s
  else
    let s1 := s.unoccupied m off
    if isWrite then s1 else s1.hostReads m 0)

/-! ### BAR2 -/

/-- The package address of a BAR2 offset. -/
def State.bar2Addr (s : State) (off : Nat) : Nat := s.rf 0 Reg.GLB_BAR2_BASE_GIB * 2 ^ 30 + off

/-- Whether an access meets a channel that is stopped: in self-refresh, or with its coach (R400). -/
def State.dramStopped (s : State) (a n : Nat) : Bool :=
  (List.range n).any (fun k => s.dramOpen (a + k) && (s.stopped .DMC (chanInst (s.chanOf (a + k))) ||
    s.rf (chanInst (s.chanOf (a + k))) Reg.DMC_STATUS_STATE == 3))

/-- A BAR2 read reaches DRAM: its data, with EP where a word is poisoned (R303, R393). -/
def State.bar2Read (s : State) (a n : Nat) : State :=
  let r := s.dramRead mHost a n
  r.2.2.emit .hostRead (b2n r.2.1) (r.1.map BitVec.toNat)

/-- A BAR2 write reaches DRAM; one with EP poisons the words it covers and records M-0010 (R303). -/
def State.bar2Write (s : State) (a : Nat) (l : List Byte) (ep : Bool) : State :=
  let s1 := s.dramWrite mHost a l ep
  if ep ∧ s.dramOpen a then s1.dmcCode (s.chanOf a) 'M' 0x0010 (dmcDetail a 0 31) else s1

/-- BAR2_READ: n bytes at a BAR2 offset (R393); a stopped channel holds or refuses it by the host's guard (R401). -/
def execBar2Read (off n : Nat) (s : State) : Host.Outcome State Fault Refusal :=
  .next (let a := s.bar2Addr off
    if !s.dramStopped a n then s.bar2Read a n
    else if s.guardOf mHost then (s.guardRefuses mHost a).emit .hostRead 0 (List.replicate n 0)
    else { s with stalled := s.stalled ++ [⟨mHost, a, false, 0, some (n, [], false)⟩] })

/-- BAR2_WRITE: bytes at a BAR2 offset, with EP or not (R303, R393). -/
def execBar2Write (off : Nat) (bytes : List Byte) (ep : Bool) (s : State) : Host.Outcome State Fault Refusal :=
  .next (let a := s.bar2Addr off
    if !s.dramStopped a bytes.length then s.bar2Write a bytes ep
    else if s.guardOf mHost then s.guardRefuses mHost a
    else { s with stalled := s.stalled ++ [⟨mHost, a, true, 0, some (0, bytes, ep)⟩] })

/-- BAR2_BASE_WRITE: a write of GLB_BAR2_BASE moves the window for later requests (R393). -/
def execBar2BaseWrite (m : Nat) (w : Word) (s : State) : Host.Outcome State Fault Refusal :=
  .next (s.regSet m 0 Reg.GLB_BAR2_BASE_GIB w id)

/-! ### Interrupts (R395) -/

/-- IRQ_EOI: a write of GLB_IRQ_EOI. -/
def execIrqEoi (m : Nat) (w : Word) (s : State) : Host.Outcome State Fault Refusal :=
  .next (s.regDo m 0 Reg.GLB_IRQ_EOI_VECTOR w (fun t => t.actEoi (getBits w 7 0)))

/-- MSIX_UNMASK: the host clears a vector's mask in the MSI-X table, and its pending message goes. -/
def execMsixUnmask (v : Nat) (s : State) : Host.Outcome State Fault Refusal :=
  .next (let t := { s with irq := { s.irq with masked := s.irq.masked.filter (fun x => x != v), pend := s.irq.pend.filter (fun x => x != v) } }
    if s.irq.pend.contains v ∧ s.irq.masked.contains v then t.emit .msix v [] else t)

/-! ### The Fifth wheel -/

/-- FIFTH_WHEEL_PORT_FAIL: port p of coach c fails: L-0050, and its bit stays set until stage 5 trains again (R21, R478). -/
def execFifthWheelPortFail (c p : Nat) (s : State) : Host.Outcome State Fault Refusal :=
  .next (if s.pwr.off ∨ s.hw.coaches ≤ c ∨ 4 ≤ p ∨ s.stopped .GLB 0 ∨ (s.rf 0 Reg.GLB_FAB_PORTS_FAILED).testBit (4 * c + p) then s
  else (s.wf 0 Reg.GLB_FAB_PORTS_FAILED (s.rf 0 Reg.GLB_FAB_PORTS_FAILED ||| 2 ^ (4 * c + p))).fabErr (codeWord 'L' 0x0050) c p)

/-- FIFTH_WHEEL_WORD_RECEIVE: a Felloe word reaches an endpoint of coach c over port p: corrected and counted, or delivered poisoned; a new
uncorrectable one is M-0004 (R23, R477). -/
def execFifthWheelWordReceive (c p r : Nat) (s : State) : Host.Outcome State Fault Refusal :=
  .next (if s.stopped .REI (unitOf c 0) ∨ s.hw.coaches ≤ c ∨ (s.rf 0 Reg.GLB_FAB_PORTS_FAILED).testBit (4 * c + p) then s
  else
    let x := felloeRead (r % 2 ^ 80)
    match x.1 with
    | .clean => s.emit .wheelWord c [x.2, 0]
    | .corrected _ => (s.inc 0 (Reg.GLB_MEM_CNT_COUNT.sh 16)).emit .wheelWord c [x.2, 0]
    | .poison => s.emit .wheelWord c [x.2, 1]
    | .uncorrectable => ((s.inc 0 (Reg.GLB_MEM_CNT_COUNT.sh 20)).fabErr (codeWord 'M' 0x0004) c p).emit .wheelWord c [x.2, 1])

end Sys2Proof.Machine
end

