-- ==== Sys2Proof/Machine/Outrider.lean ====
section
/-! DEFINITION. The Outrider (R396 to R399), and accesses that waited on a stopped domain (R401). -/

namespace Sys2Proof.Machine

/-! ### Responses -/

/-- A response frame: STATUS, DONE, data, CRC (R397). -/
def outBytes (status done : Nat) (data : List Word) : List Nat :=
  let l : List Byte := BitVec.ofNat 8 status :: BitVec.ofNat 8 done :: data.flatMap (fun w => toBytes 4 w.toNat)
  l.map BitVec.toNat ++ [crc8 l]

/-- Words that a response to a request carries: those of a READ. -/
def outWords (f : List Byte) : Nat := if f.headD 0 = 0x10 then (f.getD 5 0).toNat + 1 else 0

/-- The response is read (R398): a response that stands aside first, busy while a request runs, idle once it has been read. -/
def State.outRespond (s : State) : State :=
  let p := s.out
  match p.aside with
  | some (st, dn, data) => ({ s with out := { p with aside := none } } : State).emit .outrider 0 (outBytes st dn data)
  | none =>
    match p.waiting with
    | some f => s.emit .outrider 0 (outBytes 1 0 (List.replicate (outWords f) 0))
    | none =>
      if p.unread then ({ s with out := { p with unread := false } } : State).emit .outrider 0 (outBytes p.status p.done p.data)
      else s.emit .outrider 0 (outBytes 6 0 [])

/-- In I2C mode the read transaction that follows a request returns its response (R398). -/
def State.outAfter (s : State) : State := if s.rf 0 Reg.OUT_CFG_MODE = 0 then s.outRespond else s

/-- A request ends with a status; a READ's response holds every word asked for. -/
def State.outEnd (s : State) (status words : Nat) : State :=
  { s with out := { s.out with status := status, unread := true, waiting := none,
                               data := s.out.data ++ List.replicate (words - s.out.data.length) 0 } }

/-! ### Requests -/

/-- One word of a request after the other: word DONE is next. A stopped domain ends it with DOMAIN_ASLEEP, or holds it (R398, R401). -/
def State.outRun : Nat → List Byte → State → State
  | 0, f, s => s.outEnd 0 (outWords f)
  | n + 1, f, s =>
    let k := s.out.done
    let off := leAt f 1 4
    let go := fun (t : State) (data : List Word) => State.outRun n f { t with out := { t.out with done := k + 1, data := data } }
    if f.headD 0 = 0x10 then
      let r := s.busRead mOut (off + 4 * k)
      match r.2.2 with
      | .done => go r.2.1 (s.out.data ++ [r.1])
      | .refused => r.2.1.outEnd 4 (outWords f)
      | .waits => { s with out := { s.out with waiting := some f } }
    else
      let w : Word := BitVec.ofNat 32 (leAt f (6 + 4 * k) 4)
      let r := s.busWrite mOut (if f.headD 0 = 0x21 then off else off + 4 * k) w
      match r.2 with
      | .done => go r.1 []
      | .refused => r.1.outEnd 4 0
      | .waits => { s with out := { s.out with waiting := some f } }

/-- The bytes that a frame should have by its CMD and COUNT, where COUNT is in range (R397). -/
def frameLength (f : List Byte) : Option Nat :=
  let n := (f.getD 5 0).toNat
  match (f.headD 0).toNat with
  | 0x10 => if n ≤ 15 then some 7 else none
  | 0x20 => if n ≤ 15 then some (7 + 4 * (n + 1)) else none
  | 0x21 => if n ≤ 127 then some (7 + 4 * (n + 1)) else none
  | 0x40 => if n = 0 then some 7 else none
  | _ => none

/-- What is wrong with a request frame (R398): 3 for one that ends early, then 2 for its CRC, then 3 for its form; 0 for a good one. -/
def frameFault (f : List Byte) : Nat :=
  let short := match frameLength f with
    | some n => decide (f.length < n)
    | none => decide (f.length < 7)
  if short then 3
  else if crc8 f.dropLast ≠ (f.getLastD 0).toNat then 2
  else if frameLength f ≠ some f.length ∨ leAt f 1 4 % 4 ≠ 0 then 3
  else 0

/-- A bad frame is discarded whole: its flag in OUT_STATUS, ERRORS, and its status for the response. -/
def State.outBad (s : State) (status : Nat) : State :=
  let n := s.rf 0 Reg.OUT_CNT_ERRORS
  let s1 := (if status = 2 then s.wf 0 Reg.OUT_STATUS_CRC_ERR 1 else s.wf 0 Reg.OUT_STATUS_MALFORMED 1).wf 0 Reg.OUT_CNT_ERRORS (satN 65535 (n + 1))
  if s1.out.waiting.isSome then { s1 with out := { s1.out with aside := some (status, 0, []) } }
  else { s1 with out := { s1.out with status := status, done := 0, data := [], unread := true, aside := none } }

/-- The four words of IDENTIFY (R397). -/
def State.identity (s : State) : List Word :=
  [s.word .GLB 0 0, BitVec.ofNat 32 (s.rf 0 Reg.PWR_STATE_STATE), putBits (s.word .OUT 0 4) 0 0 (b2n s.attn), s.word .OUT 0 0x0C]

/-- An accepted frame counts, and starts the lease of R421 anew. -/
def State.outAccept (s : State) : State :=
  let t := s.wf 0 Reg.OUT_CNT_FRAMES ((s.rf 0 Reg.OUT_CNT_FRAMES + 1) % 65536)
  { t with out := { t.out with lastFrame := s.now } }

/-- A request frame arrives (R397, R398). Without power, and before the end of stage 1, nothing answers (R434). -/
def State.outFrame (s : State) (f : List Byte) : State :=
  if s.pwr.off ∨ s.rf 0 Reg.GLB_BOOT_STAGE_STAGE = 1 then s
  else
    let bad := frameFault f
    if bad ≠ 0 then (s.outBad bad).outAfter
    else if f.headD 0 = 0x40 then
      let t := s.outAccept
      let u : State := if t.out.waiting.isSome then { t with out := { t.out with aside := some (0, 4, t.identity) } }
        else { t with out := { t.out with status := 0, done := 4, data := t.identity, unread := true, aside := none } }
      u.outAfter
    else if s.out.waiting.isSome then
      let t := s.wf 0 Reg.OUT_STATUS_OVERRUN 1
      ({ t with out := { t.out with aside := some (5, 0, []) } } : State).outAfter
    else
      let t := s.outAccept
      let u := { t with out := { t.out with status := 0, done := 0, data := [], unread := false, aside := none } }
      (State.outRun ((f.getD 5 0).toNat + 1) f u).outAfter

/-- OR_READ: a READ frame: the bytes after CMD. -/
def execOrRead (bytes : List Byte) (s : State) : Host.Outcome State Fault Refusal := .next (s.outFrame (0x10 :: bytes))

/-- OR_WRITE: a WRITE frame: the bytes after CMD. -/
def execOrWrite (bytes : List Byte) (s : State) : Host.Outcome State Fault Refusal := .next (s.outFrame (0x20 :: bytes))

/-- OR_WRITE_FIFO: a WRITE_FIFO frame: the bytes after CMD. -/
def execOrWriteFifo (bytes : List Byte) (s : State) : Host.Outcome State Fault Refusal := .next (s.outFrame (0x21 :: bytes))

/-- OR_RESULT: an SPI RESULT: the response of the latest request (R398). In I2C mode the command is unknown. -/
def execOrResult (s : State) : Host.Outcome State Fault Refusal :=
  .next (if s.pwr.off ∨ s.rf 0 Reg.GLB_BOOT_STAGE_STAGE = 1 then s
  else if s.rf 0 Reg.OUT_CFG_MODE = 1 then s.outRespond
  else (s.outBad 3).outAfter)

/-- OR_IDENTIFY: an IDENTIFY frame: the bytes after CMD (R397). -/
def execOrIdentify (bytes : List Byte) (s : State) : Host.Outcome State Fault Refusal := .next (s.outFrame (0x40 :: bytes))

/-! ### Accesses that waited (R401) -/

/-- A waiting access tries again; one that still meets a stopped domain goes on waiting. -/
def State.retry (s : State) (x : Stalled) : State :=
  match x.dram with
  | some (n, l, ep) =>
    if s.dramStopped x.off (if x.isWrite then l.length else n) then { s with stalled := s.stalled ++ [x] }
    else if x.isWrite then s.bar2Write x.off l ep else s.bar2Read x.off n
  | none =>
    if x.isWrite then (s.busWrite x.master x.off x.word).1
    else
      let r := s.busRead x.master x.off
      match r.2.2 with
      | .waits => { s with stalled := s.stalled ++ [x] }
      | _ => r.2.1.hostReads x.master r.1

/-- STALLED_ACCESS_RESUME: accesses whose domains run again complete in order, and an Outrider request that waited goes on. -/
def execStalledAccessResume (s : State) : Host.Outcome State Fault Refusal :=
  .next (let t := s.stalled.foldl (fun (u : State) x => u.retry x) { s with stalled := [] }
    match t.out.waiting with
    | none => t
    | some f => State.outRun ((f.getD 5 0).toNat + 1 - t.out.done) f { t with out := { t.out with waiting := none } })

end Sys2Proof.Machine
end

