-- ==== Sys2Proof/Machine/Seam.lean ====
section
/-! DEFINITION. SEAM runs of the Wheelwright and the corrections that they commit (R212 to R214). -/

namespace Sys2Proof.Machine

/-- The seams that a run measures: joined, with registration on. -/
def State.measuredSeams (s : State) : List Nat :=
  (List.range s.carriageCount).filter (fun g => s.seamOn g && s.cf g Reg.CPL_REG_CTL_ENABLE == 1)

/-- The first two windows of a seam that began after the run and published. -/
def State.seamTwo (s : State) (g : Nat) : List (Int × Int) := (s.seamOf g).results.take 2

/-- The residual of a result, 1/256 px. -/
def seamResid (r : Int × Int) : Nat := Nat.max r.1.natAbs r.2.natAbs

/-- Whether a seam's two results differ by at most TOL. -/
def State.seamAgrees (s : State) (g : Nat) (a b : Int × Int) : Bool :=
  decide ((a.1 - b.1).natAbs ≤ s.cf g Reg.CPL_REG_LIM_TOL) && decide ((a.2 - b.2).natAbs ≤ s.cf g Reg.CPL_REG_LIM_TOL)

/-- The live carriages of the web. -/
def State.liveRecs (s : State) : List CarrRec := (s.carriages.filterMap (fun g => s.carr g)).filter (fun c => c.role == 1)

/-- The reference: the live carriage with the lowest FIRST_COLUMN (R213). -/
def State.seamRef (s : State) : Option CarrRec :=
  s.liveRecs.foldl (fun (a : Option CarrRec) c => match a with
    | none => some c
    | some x => if c.firstCol < x.firstCol then some c else some x) none

/-- D_cd and D_md of every live carriage but the reference: the sums over the seams on its low side (R213). -/
def State.seamSums (s : State) (res : List (Nat × (Int × Int))) : List (Nat × (Int × Int)) :=
  match s.seamRef with
  | none => []
  | some r =>
    (s.liveRecs.filter (fun c => c.carriage != r.carriage)).map (fun c =>
      let on := res.filter (fun x => match s.carr x.1 with
        | some l => decide (l.firstCol < c.firstCol)
        | none => false)
      (c.carriage, ((on.map (fun x => x.2.1)).sum, (on.map (fun x => x.2.2)).sum)))

/-- The new RGA_CD_START of a carriage in 2^-32 pixels: the present one plus D_cd / 256 times the mean increment of its low-side shared columns,
rounded once; where it shares none the mean is open. -/
def State.cdStep (s : State) (g : Nat) (d : Int) : Int × State :=
  let start := s.cdStart (s.eng .RGA g)
  let v := ((s.carr g).map (fun r => r.ovlLow)).getD 0
  if v = 0 then (if d = 0 then (start, s) else (rne (start * 256 + d * 16 * s.freeVal 30) 256, s.drawn))
  else
    let inc := s.rgaInc (s.rgaBank g)
    let t : Nat := ((List.range (2 * v)).map inc).sum
    (rne (start * (512 * v) + d * 16 * t) (512 * v), s)

/-- Stage the corrections of one carriage. -/
def State.seamStage (s : State) (x : Nat × (Int × Int)) : State :=
  let g := x.1
  if x.2.1 = 0 ∧ x.2.2 = 0 then s
  else
    let w := s.eng .RGA g
    let i := s.eng .ING g
    let c := s.cdStep g x.2.1
    let start := unsgn 48 c.1
    let md := unsgn 64 (sgn 64 (s.rf64 i Reg.ING_MD_OFFSET_LO_NM) - rne (x.2.2 * s.gridMd) 256)
    (((c.2.wwtStage w Reg.RGA_CD_START_LO_FRAC (start % 2 ^ 32)).wwtStage w Reg.RGA_CD_START_HI_INT (start / 2 ^ 32)).wwtStage i
      Reg.ING_MD_OFFSET_LO_NM (md % 2 ^ 32)).wwtStage i Reg.ING_MD_OFFSET_HI_NM (md / 2 ^ 32)

/-- Stage the corrections and request the commit (R214): at the first grid position at least 2 ms of travel ahead, or at the next line where the speed
is not valid. -/
def State.seamCommit (s : State) (x : SeamFix) : State :=
  let s1 := { x.sums.foldl (fun (t : State) e => t.seamStage e) s with seamFix := some { x with staged := true } }
  if s.rb 0 (wp Reg.WAY_STATUS_SPEED_VALID s.webPort) then
    let p := s.gridMd
    s1.wwtRequestCommit none 0 (p * ceilDiv (s.webQ + s.speedQ s.webPort * 2000000).toNat (p * 4294967296))
  else s1.wwtRequestCommit none 3 0

/-- Judge a run by the seams with two results (R212). -/
def State.seamJudge (s : State) : State :=
  let both := (s.measuredSeams.map (fun g => (g, s.seamTwo g))).filter (fun x => x.2.length == 2)
  let pairs := both.map (fun x => (x.1, x.2.getD 0 (0, 0), x.2.getD 1 (0, 0)))
  let q1 := pairs.foldl (fun a x => Nat.max a (seamResid x.2.1)) 0
  let q2 := pairs.foldl (fun a x => Nat.max a (seamResid x.2.2)) 0
  let worst := ((pairs.find? (fun x => seamResid x.2.2 == q2)).map (fun x => x.1)).getD 0
  if pairs = [] ∨ !(pairs.all (fun x => s.seamAgrees x.1 x.2.1 x.2.2)) then s.wwtReject 2 0 0 q1 q2 worst
  else
    let s1 := pairs.foldl (fun (t : State) x => (t.cw x.1 Reg.CPL_RESID_RESID (satN 65535 (seamResid x.2.2))).add (seamInst x.1)
      (Reg.CPL_RESID_RUNS.sh (seamOff x.1)) 1) s
    if pairs.all (fun x => decide (seamResid x.2.2 ≤ s.cf x.1 Reg.CPL_REG_LIM_DEAD)) then s1.wwtAccept 2 0 0 q1 q2 worst
    else
      let fix : SeamFix := ⟨s.seamSums (pairs.map (fun x => (x.1, x.2.2))), q1, q2, worst, s.now, false⟩
      if s1.scopeState none = 0 then s1.seamCommit fix else { s1 with seamFix := some fix }

/-- SEAM_RUN_COMPLETE: every measured seam has its two windows and the run is judged; corrections that waited for a package-scope commit are staged
once the scope is free (R212, R214). -/
def execSeamRunComplete (s : State) : Host.Outcome State Fault Refusal :=
  .next (if !(s.wwtAt 2 0 0).running then s
  else
    match s.seamFix with
    | some x => if !x.staged ∧ s.scopeState none = 0 then s.seamCommit x else s
    | none => if s.measuredSeams.all (fun g => (s.seamTwo g).length == 2) then s.seamJudge else s)

/-- SEAM_RUN_TIMEOUT: 10 s after its start a run is judged without the seams that published no two windows; corrections that waited 1 s for a
package-scope commit are discarded (R212, R214). -/
def execSeamRunTimeout (s : State) : Host.Outcome State Fault Refusal :=
  .next (if !(s.wwtAt 2 0 0).running then s
  else
    match s.seamFix with
    | some x => if !x.staged ∧ x.since + 1000000000 ≤ s.now then s.wwtCommitted none false else s
    | none => if (s.wwtAt 2 0 0).started + 10000000000 ≤ s.now then s.seamJudge else s)

end Sys2Proof.Machine
end

