-- ==== Sys2Proof/Machine/Voxhus.lean ====
section
/-! DEFINITION. Traffic of the field lanes: Voxhus markers, packets, credits and link words (R84 to R95), CXP packets (R81) and Ethernet frames
(R83). -/

namespace Sys2Proof.Machine

/-! ### Counted faults -/

/-- Add n events to a list of those of the last ms. -/
def within1ms (now n : Nat) (l : List (Nat × Nat)) : List (Nat × Nat) :=
  (if n = 0 then l else l ++ [(now, n)]).filter (fun p => decide (now < p.1 + 1000000))

/-- The events of a list. -/
def eventSum (l : List (Nat × Nat)) : Nat := (l.map (fun p => p.2)).sum

/-- The words that come are dropped to the next marker; the packet under way goes on with what has come of it (R85, R95). -/
def State.hunt (s : State) (l : Nat) : State := s.laneMod l (fun x => { x with hunting := true, skip := 0 })

/-- Count n stuffing violations, each with a lost-framing event (R85); more than 16 in 1 ms set L-0012. -/
def State.stuffing (s : State) (l n : Nat) : State :=
  if n = 0 then s
  else
    let w := within1ms s.now n (s.lane l).stuffs
    let s1 := ((s.add (laneInst l) Reg.LAN_FRAMING_STUFF n).laneMod l (fun x => { x with stuffs := w, lostFraming := x.lostFraming + n })).hunt l
    if 16 < eventSum w ∧ s.laneRxUp l then (s1.laneMod l (fun x => { x with stuffs := [] })).retrain l (some 0x0012) else s1

/-- Count n uncorrectable words; more than 64 in 1 ms set L-0020 and retrain the lane (R95). -/
def State.uncorrectable (s : State) (l n : Nat) : State :=
  if n = 0 then s
  else
    let w := within1ms s.now n (s.lane l).uncorr
    let s1 := (s.add (laneInst l) Reg.LAN_UNCORR_COUNT n).laneMod l (fun x => { x with uncorr := w })
    if 64 < eventSum w ∧ s.laneRxUp l then (s1.laneMod l (fun x => { x with uncorr := [] })).retrain l (some 0x0020) else s1

/-- A control-position word is uncorrectable: it is discarded, words are dropped to the next marker, and one header counts lost (R95); more
than 16 in 1 ms set L-0013. -/
def State.headerLost (s : State) (l : Nat) : State :=
  let w := within1ms s.now 1 (s.lane l).headers
  let s1 := ((s.inc (laneInst l) Reg.LAN_FRAMING_HEADER).laneMod l (fun x => { x with headers := w })).hunt l
  if 16 < eventSum w ∧ s.laneRxUp l then (s1.laneMod l (fun x => { x with headers := [] })).retrain l (some 0x0013) else s1

/-- Something is discarded and counted where no register names the count. -/
def State.laneDrop (s : State) (l : Nat) : State := s.laneMod l (fun x => { x with dropped := x.dropped + 1 })

/-! ### Markers (R86 to R88) -/

/-- The CHECK of a marker's bits 73:0, bit 0 first as they are sent (R84, R87). -/
def markerCheck (body : Nat) : Nat := crcBits 6 0x03 0 ((List.range 74).map (fun k => body.testBit k))

/-- The 80 bits of a marker (R87). -/
def markerBits (scramble index global remain : Nat) : Nat :=
  let body := 0x96C35A0F + scramble % 2 ^ 23 * 2 ^ 32 + (index % 4 + global % 64 * 4) * 2 ^ 55 + remain % 2 ^ 11 * 2 ^ 63
  body + markerCheck body * 2 ^ 74

/-- Whether a marker is valid (R88). -/
def markerValid (w : Nat) : Bool := w % 2 ^ 32 == 0x96C35A0F && w / 2 ^ 74 % 64 == markerCheck (w % 2 ^ 74)

/-- What a lane makes of the 80 bits where a marker stands (R88): a valid one loads the scrambler and ends the dropping of words, from then on
after the payload words that REMAIN says are still to come (R95). Lock is lost on a lane that is up or waits for the peer's report. -/
def State.markerTake (s : State) (l w : Nat) : State :=
  if markerValid w then
    s.laneMod l (fun x => { x with
      good := x.good + 1, bad := 0, scramble := w / 2 ^ 32 % 2 ^ 23, hunting := false
      skip := if x.hunting then w / 2 ^ 63 % 2 ^ 11 else x.skip })
  else
    let n := (s.lane l).bad + 1
    let s1 := (s.inc (laneInst l) Reg.LAN_FRAMING_MARKER).laneMod l (fun x => { x with good := 0, bad := n })
    if 3 ≤ n ∧ (s1.laneRxUp l ∨ (s1.lf l Reg.LAN_STATUS_RX_STATE = 3 ∧ s1.lf l Reg.LAN_STATUS_TRAIN_STEP = 4)) then s1.retrain l (some 0x0011)
    else s1

/-- VOXHUS_MARKER_RECEIVE: the serial bits where a marker stands, a missing one as the bits are (R85, R88). A stuffing violation in them has the
words after this marker dropped too. -/
def execVoxhusMarkerReceive (lane : Nat) (bits : List Bool) (s : State) : Host.Outcome State Fault Refusal :=
  .next (if !s.isVox lane ∨ (s.lf lane Reg.LAN_STATUS_RX_STATE ≠ 3 ∧ !s.laneRxUp lane) then s
  else
    let u := unstuff (s.lane lane).run 0 bits
    ((s.laneMod lane (fun x => { x with run := u.2.2 })).markerTake lane (bitsWord (u.1.take 80))).stuffing lane u.2.1.length)

/-- VOXHUS_MARKER_SEND: after every 8,192 words, or 64 in training, a marker leaves with the scrambler state of the next word and the payload
words still to come of the packet it stands in (R87, R97). -/
def execVoxhusMarkerSend (lane remain : Nat) (s : State) : Host.Outcome State Fault Refusal :=
  .next (let st := s.lf lane Reg.LAN_STATUS_TX_STATE
    if !s.isVox lane ∨ (st ≠ 3 ∧ st ≠ 4) then s
    else
      let x := scrambleAfter (80 * (if st = 3 then 64 else 8192)) (s.lane lane).txState
      (s.laneMod lane (fun q => { q with txState := x })).emit .voxhusMarker lane
        [markerBits x (s.lf lane Reg.LAN_CFG_INDEX) lane (if st = 3 then 0 else remain)])

/-! ### Credits (R93, R94) -/

/-- The least credit of a mapped VC. -/
def creditShare : Nat := 34

/-- The units of a lane's buffer. -/
def laneUnits : Nat := 192

/-- VOXHUS_CREDIT_SEND: a credit word for a mapped VC leaves with the TOTAL that gives the peer its units again (R93, R94). -/
def execVoxhusCreditSend (lane v : Nat) (s : State) : Host.Outcome State Fault Refusal :=
  .next (if s.isVox lane ∧ s.laneTxUp lane ∧ (s.mappedVcs lane).contains v then
    let x := s.vc lane v
    let g := Nat.max x.granted (x.used + creditShare)
    (s.setVc lane v { x with granted := g }).emit .voxhusCredit lane [2 + 16 * v + 2 ^ 32 * (g % 2 ^ 32)]
  else s)

/-! ### Packets (R90, R92, R95) -/

/-- Hand a stream packet to the parsers of a connection: the one whose STREAM it carries takes line data and image headers, the others count
it (R109). A packet that does not start a line, with none open, belongs to a line that was lost. -/
def State.streamPacket (s : State) (c stream : Nat) (p : RxPkt) : State :=
  (s.carsOfConn c).foldl (fun t g =>
    if t.ingF g Reg.ING_STREAM_STREAM ≠ stream then t.ingCount g 8
    else
      let i := t.ingOf g
      let follows : Bool := match i.rx.getLast? with
        | some q => !q.ending
        | none => match i.cur with
          | some o => match o.packets.getLast? with
            | some q => !q.ending
            | none => true
          | none => false
      if p.start || follows then t.ingMod g (fun j => { j with rx := j.rx ++ [p] }) else t) s

/-- The carriage that takes a connection's packets of a VC: the one whose STREAM it is, else the first of the connection. -/
def State.carOfVc (s : State) (c v : Nat) : Option Nat :=
  match (s.carsOfConn c).find? (fun g => s.ingF g Reg.ING_STREAM_STREAM == v) with
  | some g => some g
  | none => (s.carsOfConn c).head?

/-- The bytes of payload words, the first from bit 0 of the first word. -/
def wordBytes (l : List Nat) : List Byte := l.flatMap (fun w => toBytes 8 w)

/-- The 32-bit words of payload words. -/
def halfWords (l : List Nat) : List Word := l.flatMap (fun w => [BitVec.ofNat 32 w, BitVec.ofNat 32 (w / 2 ^ 32)])

/-- A packet of a camera connection, deskewed, goes to its user (R90, R92): line data and line headers to the parser of the stream, control responses and events to
the ING. Test packets end here; what the mirror link and the ring bring is taken by their own rows. -/
def State.deliver (s : State) (lane : Nat) (p : VoxPkt) : State :=
  if s.lf lane Reg.LAN_CFG_USE ≠ 1 then s
  else
  let c := s.lf lane Reg.LAN_CFG_CONNECTION
  let v := p.hdr / 16 % 16
  let typ := p.hdr / 256 % 256
  let flag := fun (k : Nat) => p.hdr.testBit k
  if typ = 0x01 then s.streamPacket c v ⟨s.now, flag 42, flag 43, flag 45, p.hdr / 2 ^ 48 % 65536, 64, p.words, p.poison⟩
  else if typ = 0x02 then
    (s.carsOfConn c).foldl (fun t g =>
      if t.ingF g Reg.ING_STREAM_STREAM = v then t.imageHeader g (p.words.headD 0 % 2 ^ 32) 0 else t.ingCount g 8) s
  else
    match s.carOfVc c v with
    | none => s.laneDrop lane
    | some g =>
      if typ = 0x11 then s.controlResponse g (p.words.headD 0 / 256 % 256) (p.words.headD 0 % 256) (halfWords (p.words.drop 1))
      else if typ = 0x20 then s.cameraEvent g (wordBytes p.words)
      else if typ = 0x30 then s
      else s.laneDrop lane

/-- The SEQUENCE of a packet. -/
def VoxPkt.seq (p : VoxPkt) : Nat := p.hdr / 2 ^ 16 % 65536

/-- The VC of a packet. -/
def VoxPkt.chan (p : VoxPkt) : Nat := p.hdr / 16 % 16

/-- Pass on the held packets of a VC that are next in SEQUENCE. -/
def State.heldGo : Nat → Nat → Nat → State → State
  | 0, _, _, s => s
  | n + 1, c, v, s =>
    match cget (s.conn c).expected v with
    | none => s
    | some e =>
      match (s.conn c).held.find? (fun h => h.pkt.chan == v && h.pkt.seq == e) with
      | none => s
      | some h =>
        let s1 := (s.connMod c (fun x => { x with
          held := dropFirst (fun q => q.pkt.chan == v && q.pkt.seq == e) x.held, expected := cset x.expected v ((e + 1) % 65536) })).deliver h.lane h.pkt
        State.heldGo n c v s1

/-- A packet that is taken as the next of its VC. -/
def State.takeNow (s : State) (c lane : Nat) (p : VoxPkt) : State :=
  let s1 := (s.connMod c (fun x => { x with expected := cset x.expected p.chan ((p.seq + 1) % 65536) })).deliver lane p
  State.heldGo (s1.conn c).held.length c p.chan s1

/-- A packet out of SEQUENCE counts on its lane. -/
def State.seqErr (s : State) (lane v : Nat) : State := s.inc (laneInst lane) (Reg.LAN_VC_SEQ_ERR.sh (4 * v))

/-- Held packets whose missing forerunner did not come in 2 µs go on without it. -/
def State.heldExpire : Nat → Nat → State → State
  | 0, _, s => s
  | n + 1, c, s =>
    match (s.conn c).held.find? (fun h => decide (h.since + 2000 < s.now)) with
    | none => s
    | some h =>
      let v := h.pkt.chan
      let e := cgetD (s.conn c).expected v h.pkt.seq
      let near := (((s.conn c).held.filter (fun q => q.pkt.chan == v)).map (fun q => (q.pkt.seq + 65536 - e) % 65536)).foldl Nat.min 65535
      let s1 := (s.seqErr h.lane v).connMod c (fun x => { x with expected := cset x.expected v ((e + near) % 65536) })
      State.heldExpire n c (State.heldGo (s1.conn c).held.length c v s1)

/-- Skew beyond 2 µs: L-0060, and the connection is down until a retrain (R92). -/
def State.skewed (s : State) (c : Nat) : State :=
  (s.linkLanes c).foldl (fun t l => t.laneStuck l 0x0060) (s.connMod c (fun x => { x with held := [], expected := [] }))

/-- Put a packet of a link in order by VC and SEQUENCE (R92). -/
def State.deskew (s : State) (lane : Nat) (p : VoxPkt) : State :=
  let c := s.linkKey lane
  let s1 := State.heldExpire (s.conn c).held.length c s
  match cget (s1.conn c).expected p.chan with
  | none => s1.takeNow c lane p
  | some e =>
    let d := (p.seq + 65536 - e) % 65536
    if d = 0 then s1.takeNow c lane p
    else if (s1.linkLanes c).length ≤ 1 then (s1.seqErr lane p.chan).takeNow c lane p
    else if d < 32768 then s1.connMod c (fun x => { x with held := x.held ++ [⟨s.now, lane, p⟩] })
    else (s1.seqErr lane p.chan).skewed c

/-! ### The receiver (R84 to R86, R89, R90, R93 to R95) -/

/-- A packet under way ends: it is deskewed, and a sleep request that waited for it acts. -/
def State.packetDone (s : State) (l : Nat) : State :=
  match (s.lane l).part with
  | none => s
  | some p => ((s.laneMod l (fun x => { x with part := none })).deskew l p).packetEnds l

/-- A packet header (R90): its units are used; a packet beyond the credit granted, or on a VC that the lane does not map, sets L-0014, and is
discarded where the units `held` in the lane buffer leave no room for it (R93, R94). -/
def State.headerTake (s : State) (l held hdr : Nat) : State :=
  let v := hdr / 16 % 16
  let n := hdr / 2 ^ 32 % 1024 + 1
  let cost := packetCost n
  let x := s.vc l v
  let passed := decide (x.granted < x.used + cost)
  let s1 := s.setVc l v { x with used := x.used + cost, granted := Nat.max x.granted (x.used + cost) }
  let s2 := if passed then (s1.laneErr l 0x0014).ev (laneInst l) Reg.LAN_EVENT_CREDIT else s1
  if passed ∧ laneUnits < held + cost then (s2.laneDrop l).laneMod l (fun y => { y with skip := n })
  else s2.laneMod l (fun y => { y with part := some ⟨hdr, [], []⟩ })

/-- A link word (R89): OP and the direction concerned. A sleep request is acknowledged, and this part's transmitter sleeps once that left
(R105); an acknowledgement lets the peer's sleep; a wake brings this part's transmitter up. -/
def State.linkTake (s : State) (l op dir : Nat) : State :=
  if op = 0x20 then s.lockReport l
  else if !s.laneRxUp l ∨ op = 0x10 then s
  else if op = 0x01 then
    let s1 := s.linkWord l 0x02 dir
    if dir = 1 then (if s.laneTxUp l then s1.setTx l 1 else s1) else s1.laneMod l (fun x => { x with peerAsleep := true })
  else if op = 0x02 then (if dir = 1 then s.laneMod l (fun x => { x with peerAsleep := true }) else s)
  else if op = 0x03 then
    if dir = 1 then (if s.lf l Reg.LAN_STATUS_TX_STATE = 1 ∧ s.txTarget l = 4 ∧ s.running then s.txMove l else s)
    else s.laneMod l (fun x => { x with peerAsleep := false })
  else s.laneDrop l

/-- A word at a control position (R89), by its TYPE. The part takes no trigger words: it discards and counts them with those of a reserved
TYPE (log 51). A credit word lets packets go that waited for it. -/
def State.controlTake (s : State) (l held w : Nat) : State :=
  let typ := w % 16
  if typ = 4 then s.linkTake l (w / 256 % 256) (w / 65536 % 256)
  else if typ = 0 ∨ !s.laneRxUp l then s
  else if typ = 1 then s.headerTake l held w
  else if typ = 2 then
    (s.setVc l (w / 16 % 16) { s.vc l (w / 16 % 16) with total := w / 2 ^ 32 % 2 ^ 32 }).linkPump (s.linkKey l)
  else s.laneDrop l

/-- Whether a lane reads words: it is up, or holds marker lock in training. -/
def State.reads (s : State) (l : Nat) : Bool :=
  s.laneRxUp l || (s.lf l Reg.LAN_STATUS_RX_STATE == 3 && decide (2 ≤ (s.lane l).good) && !(s.lane l).stuck)

/-- One Felloe word (R95): corrections and uncorrectable words count; a payload word joins its packet, poisoned where it cannot be corrected; a
word at a control position acts, or is lost with what follows up to the next marker (a poisoned one too, log 76). -/
def State.wordTake (s : State) (l held : Nat) (r : WordClass × Nat) : State :=
  if !s.reads l ∨ (s.lane l).hunting then s
  else
    let s1 := match r.1 with
      | .corrected _ => s.inc (laneInst l) Reg.LAN_CORR_COUNT
      | .uncorrectable => s.uncorrectable l 1
      | _ => s
    let bad := match r.1 with
      | .poison => true
      | .uncorrectable => true
      | _ => false
    if !s1.reads l then s1
    else if (s1.lane l).skip ≠ 0 then s1.laneMod l (fun x => { x with skip := x.skip - 1 })
    else
      match (s1.lane l).part with
      | some p =>
        let s2 := s1.laneMod l (fun x => { x with
          part := some { p with words := p.words ++ [r.2], poison := if bad then p.poison ++ [p.words.length] else p.poison } })
        if p.words.length = p.hdr / 2 ^ 32 % 1024 then s2.packetDone l else s2
      | none => if bad then s1.headerLost l else s1.controlTake l held r.2

/-- Serial bits of words on a Voxhus lane: the stuffing goes (R85), the scrambler (R86), and the Felloe words act one by one (R84, R95). A
stuffing violation ends them: words are dropped from the one it stands in to the next marker, and the packet under way goes on short. -/
def State.bitsTake (s : State) (l held : Nat) (bits : List Bool) : State :=
  if !s.isVox l ∨ !s.reads l then s
  else
    let x := s.lane l
    let u := unstuff x.run 0 bits
    let n := (u.2.1.headD u.1.length) / 80
    let plain := scrambleBits x.scramble (u.1.take (80 * n))
    let s1 := s.laneMod l (fun y => { y with run := u.2.2, scramble := if x.hunting then x.scramble else scrambleAfter (80 * n) x.scramble })
    let s2 := (bitWords n plain).foldl (fun t w => t.wordTake l held (felloeRead w)) s1
    let s3 := s2.stuffing l u.2.1.length
    if (s3.lane l).hunting then s3.packetDone l else s3

/-- VOXHUS_PACKET_RECEIVE: serial bits of a packet header and its payload words, or of a part of them up to a marker (R90 to R95), and the
credit units that the lane buffer still holds. -/
def execVoxhusPacketReceive (lane : Nat) (bits : List Bool) (held : Nat) (s : State) : Host.Outcome State Fault Refusal :=
  .next (s.bitsTake lane held bits)

/-- VOXHUS_CREDIT_WORD: serial bits of a credit word, which brings the TOTAL of its VC (R89, R93). -/
def execVoxhusCreditWord (lane : Nat) (bits : List Bool) (s : State) : Host.Outcome State Fault Refusal := .next (s.bitsTake lane 0 bits)

/-- VOXHUS_SLEEP_REQUEST: serial bits of a link word by which the peer asks a direction to sleep (R105). -/
def execVoxhusSleepRequest (lane : Nat) (bits : List Bool) (s : State) : Host.Outcome State Fault Refusal := .next (s.bitsTake lane 0 bits)

/-- VOXHUS_SLEEP_ACK: serial bits of a link word by which the peer acknowledges (R105). -/
def execVoxhusSleepAck (lane : Nat) (bits : List Bool) (s : State) : Host.Outcome State Fault Refusal := .next (s.bitsTake lane 0 bits)

/-- VOXHUS_WAKE: serial bits of a link word by which the peer wakes a direction: this part's transmitter, or its own, to which a receiver that
followed it to sleep relocks (R105). -/
def execVoxhusWake (lane : Nat) (bits : List Bool) (s : State) : Host.Outcome State Fault Refusal :=
  .next (let st := s.lf lane Reg.LAN_STATUS_RX_STATE
    if s.isVox lane ∧ (s.lane lane).peerAsleep ∧ (st = 1 ∨ st = 2) ∧ s.rxTarget lane = 4 ∧ s.running then
      (s.laneMod lane (fun x => { x with peerAsleep := false })).rxWake lane
    else s.bitsTake lane 0 bits)

/-- VOXHUS_KEEP_ALIVE: serial bits of a keep-alive, which asks for nothing (R89). -/
def execVoxhusKeepAlive (lane : Nat) (bits : List Bool) (s : State) : Host.Outcome State Fault Refusal := .next (s.bitsTake lane 0 bits)

/-- TRAINING_LOCK_REPORT: serial bits of the peer's lock report (R97 step 4). -/
def execTrainingLockReport (lane : Nat) (bits : List Bool) (s : State) : Host.Outcome State Fault Refusal := .next (s.bitsTake lane 0 bits)

/-- VOXHUS_RESERVED_WORD: serial bits of a word of TYPE 0x5 to 0xF, which is discarded and counted (R89). -/
def execVoxhusReservedWord (lane : Nat) (bits : List Bool) (s : State) : Host.Outcome State Fault Refusal := .next (s.bitsTake lane 0 bits)

/-! ### CoaXPress packets (R81) -/

/-- CXP_STREAM_PACKET: a stream packet arrives on a lane: its stream ID, whether it starts or ends a line and whether it ends an image by the
line markers, its 32-bit words, the bad ones, and the 8b/10b code errors in it. -/
def execCxpStreamPacket (lane stream : Nat) (start ending last : Bool) (words poison : List Nat) (errors : Nat) (s : State) :
    Host.Outcome State Fault Refusal :=
  .next (if s.isCxp lane ∧ s.laneRxUp lane then
    (s.add (laneInst lane) Reg.LAN_CORR_COUNT errors).streamPacket (s.lf lane Reg.LAN_CFG_CONNECTION) stream
      ⟨s.now, start, ending, last, 0, 32, words, poison⟩
  else s)

/-- CXP_HEARTBEAT: the device time is logged against Timetable time. -/
def execCxpHeartbeat (lane time : Nat) (s : State) : Host.Outcome State Fault Refusal :=
  .next (if s.isCxp lane ∧ s.laneRxUp lane then s.laneMod lane (fun x => { x with beat := some (time, s.now) }) else s)

/-- CXP_CONNECTION_TEST: a test packet and its errors are counted. -/
def execCxpConnectionTest (lane errors : Nat) (s : State) : Host.Outcome State Fault Refusal :=
  .next (if s.isCxp lane ∧ s.laneRxUp lane then
    let n := (s.lane lane).tests + 1
    ((s.laneMod lane (fun x => { x with tests := n })).add (laneInst lane) Reg.LAN_FRAMING_MARKER errors).wf (laneInst lane)
      Reg.LAN_FRAMING_HEADER (satN 255 (n / 65536))
  else s)

/-! ### Ethernet frames (R83) -/

/-- The ARP answer to a request, without padding and FCS. -/
def State.arpAnswer (s : State) (l : Nat) (req : List Byte) : List Byte :=
  let ip := (toBytes 4 (s.lf l Reg.LAN_IPV4_ADDR)).reverse
  bytesAt req 8 6 ++ s.macBytes l ++ s.vlanTag l ++ [0x08, 0x06, 0x00, 0x01, 0x08, 0x00, 0x06, 0x04, 0x00, 0x02] ++
    s.macBytes l ++ ip ++ bytesAt req 8 10

/-- A frame whose FCS was good goes to its service (R83). -/
def State.frameTake (s : State) (lane : Nat) (frame : List Byte) : State :=
  let tagged := beAt frame 12 2 == 0x8100
  let typ := beAt frame (if tagged then 16 else 12) 2
  let body := frame.drop (if tagged then 18 else 14)
  let ip := s.lf lane Reg.LAN_IPV4_ADDR
  if frame.length < 60 ∨ 9212 < frame.length then s.laneDrop lane
  else if tagged ∧ beAt frame 14 2 % 4096 ≠ s.lf lane Reg.LAN_ETH_VLAN then s.laneDrop lane
  else if typ = 0x88F7 ∨ (typ = 0x0800 ∧ leAt body 9 1 = 17 ∧ (beAt body 22 2 = 319 ∨ beAt body 22 2 = 320)) then s
  else if typ = 0x0806 ∧ ip ≠ 0 ∧ beAt body 6 2 = 1 ∧ beAt body 24 4 = ip ∧ s.laneTxUp lane then
    s.ethOut .ethFrame lane (s.arpAnswer lane body)
  else s.laneDrop lane

/-- ETH_FRAME_RECEIVE: a frame with its FCS, and the corrected and uncorrectable codewords of the FEC in use since the last (R83): an ARP request
for LAN_IPV4 is answered, a PTP event goes to the Timetable by its own row, and what no service uses is discarded and counted, a frame with a
bad FCS too. Only uncorrectable RS-FEC codewords count towards L-0041. -/
def execEthFrameReceive (lane : Nat) (frame : List Byte) (corrected uncorrected : Nat) (s : State) : Host.Outcome State Fault Refusal :=
  .next (if !s.isEth lane ∨ !s.laneRxUp lane then s
  else
    let i := laneInst lane
    let fec := (s.lane lane).fecMode
    let body := frame.take (frame.length - 4)
    let good := decide (4 ≤ frame.length) && leAt frame (frame.length - 4) 4 == crc32 body
    let f := within1ms s.now (if fec = 2 then uncorrected else 0) (s.lane lane).fec
    let s1 := if fec = 0 then s else (s.add i Reg.LAN_CORR_COUNT corrected).add i Reg.LAN_UNCORR_COUNT uncorrected
    let s2 := (s1.add i Reg.LAN_UNCORR_COUNT (b2n (!good))).laneMod lane (fun x => { x with fec := f })
    if 64 < eventSum f then (s2.laneMod lane (fun x => { x with fec := [] })).retrain lane (some 0x0041)
    else if !good then s2
    else s2.frameTake lane body)

end Sys2Proof.Machine
end

