-- ==== Sys2Proof/Machine/Dispatch.lean ====
section
/-! DEFINITION. One arm for each command. -/

namespace Sys2Proof.Machine

/-- The effect of a command on everything but the queue. -/
def exec (i : Instr) (s : State) : Host.Outcome State Fault Refusal :=
  match i with
  | .registerWrite m off be w => Sys2Proof.Machine.execRegisterWrite m off be w s
  | .unoccupiedAccess m off isWrite dram => Sys2Proof.Machine.execUnoccupiedAccess m off isWrite dram s
  | .fifthWheelPortFail c p => Sys2Proof.Machine.execFifthWheelPortFail c p s
  | .fifthWheelWordReceive c p r => Sys2Proof.Machine.execFifthWheelWordReceive c p r s
  | .harnessLoad m w => Sys2Proof.Machine.execHarnessLoad m w s
  | .harnessSourceComplete => Sys2Proof.Machine.execHarnessSourceComplete s
  | .harnessApplyDrained hwFault => Sys2Proof.Machine.execHarnessApplyDrained hwFault s
  | .harnessAbort m w => Sys2Proof.Machine.execHarnessAbort m w s
  | .patchCancel m w => Sys2Proof.Machine.execPatchCancel m w s
  | .progA m w => Sys2Proof.Machine.execProgA m w s
  | .progB m w => Sys2Proof.Machine.execProgB m w s
  | .slotProgramComplete => Sys2Proof.Machine.execSlotProgramComplete s
  | .enrol m w => Sys2Proof.Machine.execEnrol m w s
  | .revoke m w => Sys2Proof.Machine.execRevoke m w s
  | .orDataAppend m w => Sys2Proof.Machine.execOrDataAppend m w s
  | .orBufferClear m w => Sys2Proof.Machine.execOrBufferClear m w s
  | .patchApplyInstant => Sys2Proof.Machine.execPatchApplyInstant s
  | .patchChainDrained => Sys2Proof.Machine.execPatchChainDrained s
  | .patchChainReady => Sys2Proof.Machine.execPatchChainReady s
  | .lanePllLocked lane => Sys2Proof.Machine.execLanePllLocked lane s
  | .laneCdrLocked lane => Sys2Proof.Machine.execLaneCdrLocked lane s
  | .laneFramingDone lane eye => Sys2Proof.Machine.execLaneFramingDone lane eye s
  | .laneTrainTimeout lane => Sys2Proof.Machine.execLaneTrainTimeout lane s
  | .cxpDiscovery c speed count uplink eyes => Sys2Proof.Machine.execCxpDiscovery c speed count uplink eyes s
  | .cxpDiscoveryTimeout c => Sys2Proof.Machine.execCxpDiscoveryTimeout c s
  | .cxpStreamPacket lane stream start ending last words poison errors => Sys2Proof.Machine.execCxpStreamPacket lane stream start ending last words poison errors s
  | .cxpImageHeader g pfnc lines => Sys2Proof.Machine.execCxpImageHeader g pfnc lines s
  | .cxpControlResponse g tag status data => Sys2Proof.Machine.execCxpControlResponse g tag status data s
  | .cxpEventPacket g l => Sys2Proof.Machine.execCxpEventPacket g l s
  | .cxpHeartbeat lane time => Sys2Proof.Machine.execCxpHeartbeat lane time s
  | .cxpConnectionTest lane errors => Sys2Proof.Machine.execCxpConnectionTest lane errors s
  | .voxhusMarkerReceive lane bits => Sys2Proof.Machine.execVoxhusMarkerReceive lane bits s
  | .voxhusMarkerSend lane remain => Sys2Proof.Machine.execVoxhusMarkerSend lane remain s
  | .voxhusPacketReceive lane bits held => Sys2Proof.Machine.execVoxhusPacketReceive lane bits held s
  | .voxhusCreditWord lane bits => Sys2Proof.Machine.execVoxhusCreditWord lane bits s
  | .voxhusCreditSend lane v => Sys2Proof.Machine.execVoxhusCreditSend lane v s
  | .voxhusSleepRequest lane bits => Sys2Proof.Machine.execVoxhusSleepRequest lane bits s
  | .voxhusSleepAck lane bits => Sys2Proof.Machine.execVoxhusSleepAck lane bits s
  | .voxhusWake lane bits => Sys2Proof.Machine.execVoxhusWake lane bits s
  | .voxhusKeepAlive lane bits => Sys2Proof.Machine.execVoxhusKeepAlive lane bits s
  | .trainingLockReport lane bits => Sys2Proof.Machine.execTrainingLockReport lane bits s
  | .voxhusReservedWord lane bits => Sys2Proof.Machine.execVoxhusReservedWord lane bits s
  | .ethFrameReceive lane frame corrected uncorrected => Sys2Proof.Machine.execEthFrameReceive lane frame corrected uncorrected s
  | .ethBlockLockLoss lane => Sys2Proof.Machine.execEthBlockLockLoss lane s
  | .laneSignalLoss lane => Sys2Proof.Machine.execLaneSignalLoss lane s
  | .laneRetrain m w lane => Sys2Proof.Machine.execLaneRetrain m w lane s
  | .laneClearCounts m w lane => Sys2Proof.Machine.execLaneClearCounts m w lane s
  | .laneRunWwt m w lane => Sys2Proof.Machine.execLaneRunWwt m w lane s
  | .laneEqSetGo m w lane => Sys2Proof.Machine.execLaneEqSetGo m w lane s
  | .laneEqSwitch lane => Sys2Proof.Machine.execLaneEqSwitch lane s
  | .lanePowerRequest m w lane => Sys2Proof.Machine.execLanePowerRequest m w lane s
  | .laneWakeOnSignal lane => Sys2Proof.Machine.execLaneWakeOnSignal lane s
  | .lanePrbsControl m w lane bits => Sys2Proof.Machine.execLanePrbsControl m w lane bits s
  | .ingTriggerEvent g => Sys2Proof.Machine.execIngTriggerEvent g s
  | .ingLineDecide g => Sys2Proof.Machine.execIngLineDecide g s
  | .ingLineEnd g => Sys2Proof.Machine.execIngLineEnd g s
  | .triggerWindowExpire g => Sys2Proof.Machine.execTriggerWindowExpire g s
  | .voxhusLineHeader g pfnc => Sys2Proof.Machine.execVoxhusLineHeader g pfnc s
  | .camsetLaunch m w g => Sys2Proof.Machine.execCamsetLaunch m w g s
  | .camsetAck g status => Sys2Proof.Machine.execCamsetAck g status s
  | .camsetTimeout g => Sys2Proof.Machine.execCamsetTimeout g s
  | .tunnelGo m w g => Sys2Proof.Machine.execTunnelGo m w g s
  | .tunnelResponse g status data => Sys2Proof.Machine.execTunnelResponse g status data s
  | .tunnelTimeout g => Sys2Proof.Machine.execTunnelTimeout g s
  | .cameraEventReceive g l => Sys2Proof.Machine.execCameraEventReceive g l s
  | .cameraEventPop m w g => Sys2Proof.Machine.execCameraEventPop m w g s
  | .staLine g => Sys2Proof.Machine.execStaLine g s
  | .staBlockClose g => Sys2Proof.Machine.execStaBlockClose g s
  | .wireDisagreeFault p k => Sys2Proof.Machine.execWireDisagreeFault p k s
  | .wireFaultClear p k => Sys2Proof.Machine.execWireFaultClear p k s
  | .quadratureStep p a b z ra rb => Sys2Proof.Machine.execQuadratureStep p a b z ra rb s
  | .doubleEdgeWindow p => Sys2Proof.Machine.execDoubleEdgeWindow p s
  | .indexEvent p => Sys2Proof.Machine.execIndexEvent p s
  | .absFrameRequest p task dat => Sys2Proof.Machine.execAbsFrameRequest p task dat s
  | .absRequest m p w => Sys2Proof.Machine.execAbsRequest m p w s
  | .absFrameComplete p v crc => Sys2Proof.Machine.execAbsFrameComplete p v crc s
  | .absFrameTimeout p => Sys2Proof.Machine.execAbsFrameTimeout p s
  | .speedStandstill p => Sys2Proof.Machine.execSpeedStandstill p s
  | .encoderTrigger p => Sys2Proof.Machine.execEncoderTrigger p s
  | .fixedRateTrigger p => Sys2Proof.Machine.execFixedRateTrigger p s
  | .compareFire u => Sys2Proof.Machine.execCompareFire u s
  | .gioPulseEnd src idx => Sys2Proof.Machine.execGioPulseEnd src idx s
  | .comparePush m u w => Sys2Proof.Machine.execComparePush m u w s
  | .compareFlush m u w => Sys2Proof.Machine.execCompareFlush m u w s
  | .compareEnable m u w => Sys2Proof.Machine.execCompareEnable m u w s
  | .clearUncertain m p w => Sys2Proof.Machine.execClearUncertain m p w s
  | .clearSuspect m p w => Sys2Proof.Machine.execClearSuspect m p w s
  | .wayClearCounts m p w => Sys2Proof.Machine.execWayClearCounts m p w s
  | .motionWake p => Sys2Proof.Machine.execMotionWake p s
  | .truLine g => Sys2Proof.Machine.execTruLine g s
  | .tableLoad m w g rga => Sys2Proof.Machine.execTableLoad m w g rga s
  | .tableLoadComplete g rga => Sys2Proof.Machine.execTableLoadComplete g rga s
  | .tableLoadAbort m w g rga => Sys2Proof.Machine.execTableLoadAbort m w g rga s
  | .refMeasurementDone g => Sys2Proof.Machine.execRefMeasurementDone g s
  | .gainRebuild g => Sys2Proof.Machine.execGainRebuild g s
  | .gainCommitStage g => Sys2Proof.Machine.execGainCommitStage g s
  | .gainWaitTimeout g => Sys2Proof.Machine.execGainWaitTimeout g s
  | .rgaLine g => Sys2Proof.Machine.execRgaLine g s
  | .rgaGapMarker g => Sys2Proof.Machine.execRgaGapMarker g s
  | .seamLineDeliver g low => Sys2Proof.Machine.execSeamLineDeliver g low s
  | .regWindowEnd g => Sys2Proof.Machine.execRegWindowEnd g s
  | .seamRunComplete => Sys2Proof.Machine.execSeamRunComplete s
  | .seamRunTimeout => Sys2Proof.Machine.execSeamRunTimeout s
  | .sprLine g => Sys2Proof.Machine.execSprLine g s
  | .freezeMaskReturn g => Sys2Proof.Machine.execFreezeMaskReturn g s
  | .sprFreeze m v w => Sys2Proof.Machine.execSprFreeze m v w s
  | .sprThaw m v w => Sys2Proof.Machine.execSprThaw m v w s
  | .segLine g => Sys2Proof.Machine.execSegLine g s
  | .lblLine g => Sys2Proof.Machine.execLblLine g s
  | .dbmFragment g => Sys2Proof.Machine.execDbmFragment g s
  | .dbmPartialSet c => Sys2Proof.Machine.execDbmPartialSet c s
  | .frontierAdvance g => Sys2Proof.Machine.execFrontierAdvance g s
  | .recordWrite k => Sys2Proof.Machine.execRecordWrite k s
  | .carriageLag g => Sys2Proof.Machine.execCarriageLag g s
  | .dbmAckWrite m w => Sys2Proof.Machine.execDbmAckWrite m w s
  | .dbmRackWrite m w g => Sys2Proof.Machine.execDbmRackWrite m w g s
  | .patchCut unit => Sys2Proof.Machine.execPatchCut unit s
  | .archiveLine g => Sys2Proof.Machine.execArchiveLine g s
  | .archiveRowClose g => Sys2Proof.Machine.execArchiveRowClose g s
  | .archiveRowTimeout g => Sys2Proof.Machine.execArchiveRowTimeout g s
  | .decodeJobGo m w unit => Sys2Proof.Machine.execDecodeJobGo m w unit s
  | .decodeJobAbort m w unit => Sys2Proof.Machine.execDecodeJobAbort m w unit s
  | .decodeLine unit => Sys2Proof.Machine.execDecodeLine unit s
  | .decodeJobEnd unit => Sys2Proof.Machine.execDecodeJobEnd unit s
  | .previewTick view => Sys2Proof.Machine.execPreviewTick view s
  | .previewRowComplete unit laneFull => Sys2Proof.Machine.execPreviewRowComplete unit laneFull s
  | .previewRowTimeout unit laneFull => Sys2Proof.Machine.execPreviewRowTimeout unit laneFull s
  | .dramRead addr rank err => Sys2Proof.Machine.execDramRead addr rank err s
  | .bar2Read off n => Sys2Proof.Machine.execBar2Read off n s
  | .bar2Write off bytes ep => Sys2Proof.Machine.execBar2Write off bytes ep s
  | .bar2BaseWrite m w => Sys2Proof.Machine.execBar2BaseWrite m w s
  | .refreshDue c d rank depth beats => Sys2Proof.Machine.execRefreshDue c d rank depth beats s
  | .refreshMakeup c d depth => Sys2Proof.Machine.execRefreshMakeup c d depth s
  | .dimmHot c d temp => Sys2Proof.Machine.execDimmHot c d temp s
  | .rowActivate c d rank bank row requester => Sys2Proof.Machine.execRowActivate c d rank bank row requester s
  | .curbWindowEnd c d => Sys2Proof.Machine.execCurbWindowEnd c d s
  | .scrubBlock addr rank errs => Sys2Proof.Machine.execScrubBlock addr rank errs s
  | .sramScrub c ce ue => Sys2Proof.Machine.execSramScrub c ce ue s
  | .waybillScrub ce ue => Sys2Proof.Machine.execWaybillScrub ce ue s
  | .remountGo m w c d => Sys2Proof.Machine.execRemountGo m w c d s
  | .remountCopyBlock ch addr errs => Sys2Proof.Machine.execRemountCopyBlock ch addr errs s
  | .remountComplete ch => Sys2Proof.Machine.execRemountComplete ch s
  | .dramRunComplete c first second => Sys2Proof.Machine.execDramRunComplete c first second s
  | .sramUncorrectable c w => Sys2Proof.Machine.execSramUncorrectable c w s
  | .mewsPacketWrite c m units last bad => Sys2Proof.Machine.execMewsPacketWrite c m units last bad s
  | .mewsSpaceFreed c m clocks last => Sys2Proof.Machine.execMewsSpaceFreed c m clocks last s
  | .mewsPacketRead c m units clocks => Sys2Proof.Machine.execMewsPacketRead c m units clocks s
  | .mewsPacketAbandon c m => Sys2Proof.Machine.execMewsPacketAbandon c m s
  | .mewsFlush m w c => Sys2Proof.Machine.execMewsFlush m w c s
  | .mewsFlushBoundary c m => Sys2Proof.Machine.execMewsFlushBoundary c m s
  | .mewsHwFlush c m classes => Sys2Proof.Machine.execMewsHwFlush c m classes s
  | .mewPeakClear m w c n => Sys2Proof.Machine.execMewPeakClear m w c n s
  | .drayageGo m c n w => Sys2Proof.Machine.execDrayageGo m c n w s
  | .drayageBurst c n hostData hostPoison hostErr => Sys2Proof.Machine.execDrayageBurst c n hostData hostPoison hostErr s
  | .drayageComplete c n => Sys2Proof.Machine.execDrayageComplete c n s
  | .drayageAbort m c n w => Sys2Proof.Machine.execDrayageAbort m c n w s
  | .drayageCredit c k => Sys2Proof.Machine.execDrayageCredit c k s
  | .drayageReqClear m c k w => Sys2Proof.Machine.execDrayageReqClear m c k w s
  | .whiffletreeDecision c u reqs => Sys2Proof.Machine.execWhiffletreeDecision c u reqs s
  | .burstMaxExpire c u => Sys2Proof.Machine.execBurstMaxExpire c u s
  | .grantDrop c u beats => Sys2Proof.Machine.execGrantDrop c u beats s
  | .emergencyPreempt c u beats => Sys2Proof.Machine.execEmergencyPreempt c u beats s
  | .starvation c u input => Sys2Proof.Machine.execStarvation c u input s
  | .clearStarve m c u w => Sys2Proof.Machine.execClearStarve m c u w s
  | .reinSourceEvent c src ev => Sys2Proof.Machine.execReinSourceEvent c src ev s
  | .reinCycle => Sys2Proof.Machine.execReinCycle s
  | .buckleGlitchAccept c b => Sys2Proof.Machine.execBuckleGlitchAccept c b s
  | .reinRateWindow => Sys2Proof.Machine.execReinRateWindow s
  | .reinTrunkFire m w => Sys2Proof.Machine.execReinTrunkFire m w s
  | .gioInputEdge pin rising => Sys2Proof.Machine.execGioInputEdge pin rising s
  | .timetableTick n => Sys2Proof.Machine.execTimetableTick n s
  | .ptpSync src seq domain twoStep origin corr rx => Sys2Proof.Machine.execPtpSync src seq domain twoStep origin corr rx s
  | .ptpFollowUp src seq domain origin corr => Sys2Proof.Machine.execPtpFollowUp src seq domain origin corr s
  | .ptpDelayReq src seq domain rx => Sys2Proof.Machine.execPtpDelayReq src seq domain rx s
  | .ptpDelayResp src seq domain t4 corr => Sys2Proof.Machine.execPtpDelayResp src seq domain t4 corr s
  | .ptpPdelayReq src seq domain rx => Sys2Proof.Machine.execPtpPdelayReq src seq domain rx s
  | .ptpPdelayResp seq domain twoStep t2 corr rx => Sys2Proof.Machine.execPtpPdelayResp seq domain twoStep t2 corr rx s
  | .ptpPdelayRespFollowUp seq domain t3 corr => Sys2Proof.Machine.execPtpPdelayRespFollowUp seq domain t3 corr s
  | .ptpAnnounce src identity p1 cls acc var p2 domain utc flags => Sys2Proof.Machine.execPtpAnnounce src identity p1 cls acc var p2 domain utc flags s
  | .ptpDiscardedMessage => Sys2Proof.Machine.execPtpDiscardedMessage s
  | .ptpMasterSend announce => Sys2Proof.Machine.execPtpMasterSend announce s
  | .announceTimeout => Sys2Proof.Machine.execAnnounceTimeout s
  | .stepAccept m w => Sys2Proof.Machine.execStepAccept m w s
  | .stepReject m w => Sys2Proof.Machine.execStepReject m w s
  | .timeSet m w => Sys2Proof.Machine.execTimeSet m w s
  | .capture m w => Sys2Proof.Machine.execCapture m w s
  | .launchPush m w => Sys2Proof.Machine.execLaunchPush m w s
  | .launchFlush m w => Sys2Proof.Machine.execLaunchFlush m w s
  | .launchPrefetch => Sys2Proof.Machine.execLaunchPrefetch s
  | .launchSend busy => Sys2Proof.Machine.execLaunchSend busy s
  | .alarmFire a => Sys2Proof.Machine.execAlarmFire a s
  | .markerPredict => Sys2Proof.Machine.execMarkerPredict s
  | .irqEoi m w => Sys2Proof.Machine.execIrqEoi m w s
  | .msixUnmask v => Sys2Proof.Machine.execMsixUnmask v s
  | .orRead bytes => Sys2Proof.Machine.execOrRead bytes s
  | .orWrite bytes => Sys2Proof.Machine.execOrWrite bytes s
  | .orWriteFifo bytes => Sys2Proof.Machine.execOrWriteFifo bytes s
  | .orResult => Sys2Proof.Machine.execOrResult s
  | .orIdentify bytes => Sys2Proof.Machine.execOrIdentify bytes s
  | .stalledAccessResume => Sys2Proof.Machine.execStalledAccessResume s
  | .yokeRequest m w => Sys2Proof.Machine.execYokeRequest m w s
  | .yokeCheckDone carriage => Sys2Proof.Machine.execYokeCheckDone carriage s
  | .yokeRelease carriage => Sys2Proof.Machine.execYokeRelease carriage s
  | .yokeCancel m w => Sys2Proof.Machine.execYokeCancel m w s
  | .yokeDiscard m w => Sys2Proof.Machine.execYokeDiscard m w s
  | .postSlotWrite m mb n w => Sys2Proof.Machine.execPostSlotWrite m mb n w s
  | .postSend m mb w => Sys2Proof.Machine.execPostSend m mb w s
  | .postTake m mb w => Sys2Proof.Machine.execPostTake m mb w s
  | .postAbort m mb w => Sys2Proof.Machine.execPostAbort m mb w s
  | .postClaimLapse mb => Sys2Proof.Machine.execPostClaimLapse mb s
  | .postTimeout mb => Sys2Proof.Machine.execPostTimeout mb s
  | .hornRing m mb w => Sys2Proof.Machine.execHornRing m mb w s
  | .hornClear m mb w => Sys2Proof.Machine.execHornClear m mb w s
  | .identity => Sys2Proof.Machine.execIdentity s
  | .faultRead => Sys2Proof.Machine.execFaultRead s
  | .faultClear => Sys2Proof.Machine.execFaultClear s
  | .temps => Sys2Proof.Machine.execTemps s
  | .wwtServiceRun => Sys2Proof.Machine.execWwtServiceRun s
  | .wwtServiceState => Sys2Proof.Machine.execWwtServiceState s
  | .recordRead => Sys2Proof.Machine.execRecordRead s
  | .linchpinAcquire m n => Sys2Proof.Machine.execLinchpinAcquire m n s
  | .linchpinRelease m n w => Sys2Proof.Machine.execLinchpinRelease m n w s
  | .linchpinForce m n w => Sys2Proof.Machine.execLinchpinForce m n w s
  | .linchpinBreak owner => Sys2Proof.Machine.execLinchpinBreak owner s
  | .linchpinLeaseExpire => Sys2Proof.Machine.execLinchpinLeaseExpire s
  | .pcieReset kind => Sys2Proof.Machine.execPcieReset kind s
  | .pciePerst => Sys2Proof.Machine.execPciePerst s
  | .sleepRequest m w => Sys2Proof.Machine.execSleepRequest m w s
  | .sleepDrainDone => Sys2Proof.Machine.execSleepDrainDone s
  | .sleepDrayageDone => Sys2Proof.Machine.execSleepDrayageDone s
  | .sleepClocksStopped => Sys2Proof.Machine.execSleepClocksStopped s
  | .wakeEvent src idx => Sys2Proof.Machine.execWakeEvent src idx s
  | .wakeCommand m w => Sys2Proof.Machine.execWakeCommand m w s
  | .wakeComplete copyBad => Sys2Proof.Machine.execWakeComplete copyBad s
  | .bootContinue m w => Sys2Proof.Machine.execBootContinue m w s
  | .powerOnReset rstnLow vddIo => Sys2Proof.Machine.execPowerOnReset rstnLow vddIo s
  | .startupStageComplete fault coach train margins => Sys2Proof.Machine.execStartupStageComplete fault coach train margins s
  | .resetPin ns => Sys2Proof.Machine.execResetPin ns s
  | .coachReset m w => Sys2Proof.Machine.execCoachReset m w s
  | .coachResetReady c train ms margins => Sys2Proof.Machine.execCoachResetReady c train ms margins s
  | .coachmanWatchdog c j => Sys2Proof.Machine.execCoachmanWatchdog c j s
  | .tempSensorUpdate c readings => Sys2Proof.Machine.execTempSensorUpdate c readings s
  | .wwtTimer cls coach car => Sys2Proof.Machine.execWwtTimer cls coach car s
  | .wwtRun m c w => Sys2Proof.Machine.execWwtRun m c w s
  | .clearUnsettled m c w => Sys2Proof.Machine.execClearUnsettled m c w s
  | .laneRunComplete c first second => Sys2Proof.Machine.execLaneRunComplete c first second s
  | .gainRunComplete g => Sys2Proof.Machine.execGainRunComplete g s
  | .tsenRunComplete c first second => Sys2Proof.Machine.execTsenRunComplete c first second s
  | .pllUnlock kind c => Sys2Proof.Machine.execPllUnlock kind c s
  | .referenceLoss kind => Sys2Proof.Machine.execReferenceLoss kind s
  | .pairHello pairId imageId side role => Sys2Proof.Machine.execPairHello pairId imageId side role s
  | .pairJoinTimeout => Sys2Proof.Machine.execPairJoinTimeout s
  | .pairHoldConflict => Sys2Proof.Machine.execPairHoldConflict s
  | .heartbeat state sent phi ack web time => Sys2Proof.Machine.execHeartbeat state sent phi ack web time s
  | .heartbeatSend => Sys2Proof.Machine.execHeartbeatSend s
  | .heartbeatMissed => Sys2Proof.Machine.execHeartbeatMissed s
  | .mirrorTrigger port n instant pos speed unsure => Sys2Proof.Machine.execMirrorTrigger port n instant pos speed unsure s
  | .mirrorEpoch g line epoch unconfirmed => Sys2Proof.Machine.execMirrorEpoch g line epoch unconfirmed s
  | .mirrorYoke seq carriage kind instant defaults checkOnly values => Sys2Proof.Machine.execMirrorYoke seq carriage kind instant defaults checkOnly values s
  | .yokeResult seq code => Sys2Proof.Machine.execYokeResult seq code s
  | .yokeApply seq pos => Sys2Proof.Machine.execYokeApply seq pos s
  | .records recs phi => Sys2Proof.Machine.execRecords recs phi s
  | .recordsHeld seq => Sys2Proof.Machine.execRecordsHeld seq s
  | .mirrorAck v => Sys2Proof.Machine.execMirrorAck v s
  | .digest g line crc => Sys2Proof.Machine.execDigest g line crc s
  | .digestTimeout g => Sys2Proof.Machine.execDigestTimeout g s
  | .resyncRequest g => Sys2Proof.Machine.execResyncRequest g s
  | .mirrorState g msg => Sys2Proof.Machine.execMirrorState g msg s
  | .resyncSwitchBack => Sys2Proof.Machine.execResyncSwitchBack s
  | .resyncDone g => Sys2Proof.Machine.execResyncDone g s
  | .resyncTimeout => Sys2Proof.Machine.execResyncTimeout s
  | .calib g ks => Sys2Proof.Machine.execCalib g ks s
  | .mirrorTime offset => Sys2Proof.Machine.execMirrorTime offset s
  | .switchoverControl p => Sys2Proof.Machine.execSwitchoverControl p s
  | .holdInputLow => Sys2Proof.Machine.execHoldInputLow s
  | .switchover m w => Sys2Proof.Machine.execSwitchover m w s
  | .detach m w => Sys2Proof.Machine.execDetach m w s
  | .rejoin m w => Sys2Proof.Machine.execRejoin m w s
  | .ringHello west h => Sys2Proof.Machine.execRingHello west h s
  | .ringHelloSend => Sys2Proof.Machine.execRingHelloSend s
  | .ringPartialSet frags reports frontier => Sys2Proof.Machine.execRingPartialSet frags reports frontier s
  | .ringNeighbourLost west => Sys2Proof.Machine.execRingNeighbourLost west s
  | .powerLoss => Sys2Proof.Machine.execPowerLoss s
  | .rstnRise => Sys2Proof.Machine.execRstnRise s
  | .referenceReturn kind => Sys2Proof.Machine.execReferenceReturn kind s
  | .functionDStateChange d3 => Sys2Proof.Machine.execFunctionDStateChange d3 s
  | .controlSleepRequest target => Sys2Proof.Machine.execControlSleepRequest target s
  | .filterRejectedPulse p k => Sys2Proof.Machine.execFilterRejectedPulse p k s
  | .ptpDelayReqSend tx => Sys2Proof.Machine.execPtpDelayReqSend tx s

end Sys2Proof.Machine
end

