-- ==== Sys2Proof/Safety.lean ====
section
/-! DEFINITION. What statements say of a step: that a command completes, that an access reaches its register, what a command leaves alone,
what holds in every state, and what only goes forward. -/

namespace Sys2Proof.Machine

/-! ### Completing -/

/-- The command answers a next state in s, and P holds of it. -/
def Completes (c : Instr) (s : State) (P : State → Prop) : Prop := ∃ t, exec c s = .next t ∧ P t

/-- An access to window i of a block reaches its register: the part has the window (R34) and its domain's clock runs (R400, R401). -/
def Reaches (s : State) (b : Blk) (i : Nat) : Prop := s.shows b i = true ∧ s.stopped b i = false

/-- A field of a word, as a write of its register gives it. -/
def Fld.of (f : Fld) (w : Word) : Nat := getBits w f.hi f.lo

/-- A carriage whose engine window of a block is in the directory, and whose clock runs. -/
def HasEngine (s : State) (b : Blk) (g : Nat) : Prop := s.hasEng b g = true ∧ Reaches s b (s.eng b g)

/-- The serial bits of words that a Voxhus lane reads next, with nothing under way on it (R84 to R86, R95). -/
def State.brings (s : State) (l : Nat) (words : List Nat) (bits : List Bool) : Prop :=
  s.isVox l = true ∧ s.reads l = true ∧ (s.lane l).hunting = false ∧ (s.lane l).skip = 0 ∧ (s.lane l).part = none ∧ (s.lane l).run.len < 15 ∧
  bits = sendWords (s.lane l).run (s.lane l).scramble words

/-- No control transaction is outstanding or waits on the connection of carriage g, which is among those that share it (R135). -/
def State.wireIdle (s : State) (g : Nat) : Prop :=
  g ∈ s.sharers g ∧ ∀ x ∈ s.sharers g, (s.ingOf x).wire = 0 ∧ (s.ingOf x).camLeft = [] ∧ (s.ingOf x).tunWait = false

/-- A Voxhus control request of carriage g with these payload words has left a lane or waits on its connection for credit (R92, R93, R135). -/
def State.requested (s : State) (g : Nat) (words : List Nat) : Prop :=
  ∃ c, s.carr g = some c ∧ ((∃ p ∈ (s.conn c.conn).waiting, p.typ = 0x10 ∧ p.words = words) ∨
    ∃ l hdr, ⟨.voxhusPacket, l, hdr :: words⟩ ∈ s.egress)

/-! ### What is left alone -/

/-- The fields of State. -/
inductive Field where
  | pending | freeCtr | hw | regs | staged | stager | ydef | latch | dir | irq | egress | out | stalled | replies | postSeq | pwr | hdr
  | keys | store | wwt | rein | yoke | tmt | way | mem | poison | stale | dmc | dry | wht | mews | ing | sta | tru | rga | seam | gain | seamFix
  | spr | seg | hist | lbl | dbm | pat | tapLost | lanes | conns | arc | jobs | pvw | pair | ring
  deriving DecidableEq, Repr

/-- Two states have the same in a field. -/
def Field.same : Field → State → State → Prop
  | .pending, r, s => r.pending = s.pending
  | .freeCtr, r, s => r.freeCtr = s.freeCtr
  | .hw, r, s => r.hw = s.hw
  | .regs, r, s => r.regs = s.regs
  | .staged, r, s => r.staged = s.staged
  | .stager, r, s => r.stager = s.stager
  | .ydef, r, s => r.ydef = s.ydef
  | .latch, r, s => r.latch = s.latch
  | .dir, r, s => r.dir = s.dir
  | .irq, r, s => r.irq = s.irq
  | .egress, r, s => r.egress = s.egress
  | .out, r, s => r.out = s.out
  | .stalled, r, s => r.stalled = s.stalled
  | .replies, r, s => r.replies = s.replies
  | .postSeq, r, s => r.postSeq = s.postSeq
  | .pwr, r, s => r.pwr = s.pwr
  | .hdr, r, s => r.hdr = s.hdr
  | .keys, r, s => r.keys = s.keys
  | .store, r, s => r.store = s.store
  | .wwt, r, s => r.wwt = s.wwt
  | .rein, r, s => r.rein = s.rein
  | .yoke, r, s => r.yoke = s.yoke
  | .tmt, r, s => r.tmt = s.tmt
  | .way, r, s => r.way = s.way
  | .mem, r, s => r.mem = s.mem
  | .poison, r, s => r.poison = s.poison
  | .stale, r, s => r.stale = s.stale
  | .dmc, r, s => r.dmc = s.dmc
  | .dry, r, s => r.dry = s.dry
  | .wht, r, s => r.wht = s.wht
  | .mews, r, s => r.mews = s.mews
  | .ing, r, s => r.ing = s.ing
  | .sta, r, s => r.sta = s.sta
  | .tru, r, s => r.tru = s.tru
  | .rga, r, s => r.rga = s.rga
  | .seam, r, s => r.seam = s.seam
  | .gain, r, s => r.gain = s.gain
  | .seamFix, r, s => r.seamFix = s.seamFix
  | .spr, r, s => r.spr = s.spr
  | .seg, r, s => r.seg = s.seg
  | .hist, r, s => r.hist = s.hist
  | .lbl, r, s => r.lbl = s.lbl
  | .dbm, r, s => r.dbm = s.dbm
  | .pat, r, s => r.pat = s.pat
  | .tapLost, r, s => r.tapLost = s.tapLost
  | .lanes, r, s => r.lanes = s.lanes
  | .conns, r, s => r.conns = s.conns
  | .arc, r, s => r.arc = s.arc
  | .jobs, r, s => r.jobs = s.jobs
  | .pvw, r, s => r.pvw = s.pvw
  | .pair, r, s => r.pair = s.pair
  | .ring, r, s => r.ring = s.ring

/-- What a command left alone: every field but those listed, and every register but those of the blocks listed. -/
structure Frame (fs : List Field) (bs : List Blk) (s t : State) : Prop where
  fields : ∀ f, f ∉ fs → f ≠ .regs → f.same s t
  regs : ∀ b, b ∉ bs → ∀ i o, t.word b i o = s.word b i o

/-! ### What holds in every state -/

/-- The invariant: package DRAM is in its canonical form (R309, log 20), and the Waybill has its four key slots (R63). -/
def Inv (s : State) : Prop := s.mem.wf = true ∧ s.keys.length = 4

/-! ### What only goes forward -/

/-- A key slot takes a digest once and is revoked for good (R63). -/
def KeySlot.grows : KeySlot → KeySlot → Prop
  | .empty, _ => True
  | .enrolled d, k => k = .enrolled d ∨ k = .revoked d
  | .revoked d, k => k = .revoked d

/-- Every slot of a list of key slots only goes forward. -/
def KeysGrow (a b : List KeySlot) : Prop := a.length = b.length ∧ ∀ n, (a.getD n .empty).grows (b.getD n .empty)

end Sys2Proof.Machine
end

