-- ==== Sys2Proof/Frames.lean ====
section
/-! DEFINITION. What each command may change: fields of State, and the register blocks whose registers it may write. A command of a chain engine may
write registers of every block, since a commit's values apply at its lines (R408, R409). -/

namespace Sys2Proof.Machine

/-- Every register block. -/
def everyBlk : List Blk :=
  [.GLB, .HDR, .YOK, .OUT, .PST, .LCH, .TMT, .WAY, .PWR, .PAI, .RNG, .CLK, .REI, .BKL, .WHT, .DRY, .MEW, .DMC, .WWT, .LAN, .ING, .TRU, .RGA, .CPL,
    .SPR, .SEG, .LBL, .DBM, .STA, .PAT, .PMT, .PVW]

/-- Every field but the registers and those listed. -/
def allBut (l : List Field) : List Field :=
  ([.pending, .freeCtr, .hw, .staged, .stager, .ydef, .latch, .dir, .irq, .egress, .out, .stalled, .replies, .postSeq, .pwr, .hdr, .keys, .store,
    .wwt, .rein, .yoke, .tmt, .way, .mem, .poison, .stale, .dmc, .dry, .wht, .mews, .ing, .sta, .tru, .rga, .seam, .gain, .seamFix, .spr, .seg, .hist,
    .lbl, .dbm, .pat, .tapLost, .lanes, .conns, .arc, .jobs, .pvw, .pair, .ring] : List Field).filter (fun f => !l.contains f)

/-- The fields that any register access may change: it is recorded or waits (R34, R401, R482). -/
def acc (l : List Field) : List Field := [.irq, .egress, .stalled, .store] ++ l

/-- The blocks whose registers any access may change: GLB_ERR and OUT_STATUS (R401, R422). -/
def accBlk (l : List Blk) : List Blk := [.GLB, .OUT] ++ l

/-- The fields that a write to a coded register may change: it may stage (R404). -/
def act (l : List Field) : List Field := [.staged, .stager] ++ acc l

/-- The blocks whose registers a write to a coded register may change: YOK_ERR holds Y-0003 of a frozen one (R406). -/
def actBlk (l : List Blk) : List Blk := .YOK :: accBlk l

/-- The fields and the register blocks that a command may change. -/
def mayChange : Instr → List Field × List Blk
  | .registerWrite .. => (allBut [.pending, .hw], everyBlk)
  | .unoccupiedAccess .. => ([.irq, .egress, .store], [.GLB])
  | .fifthWheelPortFail .. => ([.irq, .egress, .store], [.GLB])
  | .fifthWheelWordReceive .. => ([.irq, .egress, .store], [.GLB])
  | .harnessLoad .. => (act [.hdr, .rein], actBlk [.HDR, .REI])
  | .harnessSourceComplete .. => ([.staged, .stager, .irq, .egress, .hdr, .store, .wwt, .rein, .yoke, .tmt, .mem, .poison, .stale, .dry, .gain,
    .seamFix, .dbm, .pair], [.GLB, .HDR, .YOK, .TMT, .PAI, .REI, .WHT, .DRY, .DMC, .WWT, .TRU, .DBM])
  | .harnessApplyDrained .. => (allBut [.pending, .hw, .out], everyBlk)
  | .harnessAbort .. => (act [.hdr, .rein], actBlk [.HDR, .REI])
  | .patchCancel .. => (act [.hdr], actBlk [.HDR])
  | .progA .. => (act [.hdr, .rein], actBlk [.HDR, .REI])
  | .progB .. => (act [.hdr, .rein], actBlk [.HDR, .REI])
  | .slotProgramComplete .. => ([.irq, .egress, .hdr, .store, .rein], [.HDR, .REI])
  | .enrol .. => (act [.keys], actBlk [.HDR])
  | .revoke .. => (act [.keys], actBlk [.HDR])
  | .orDataAppend .. => (acc [.hdr], accBlk [.HDR])
  | .orBufferClear .. => (act [.hdr], actBlk [.HDR])
  | .patchApplyInstant .. => ([.irq, .egress, .hdr, .rein, .mews, .seam], [.REI, .MEW, .ING, .CPL])
  | .patchChainDrained .. => (allBut [.pending, .hw, .out, .pvw], everyBlk)
  | .patchChainReady .. => ([.irq, .egress, .hdr, .rein, .mews, .ing, .sta, .tapLost], [.HDR, .REI, .MEW, .ING])
  | .lanePllLocked .. => ([.irq, .egress, .rein], [.PAI, .REI, .LAN])
  | .laneCdrLocked .. => ([.conns], [.LAN])
  | .laneFramingDone .. => ([.freeCtr, .irq, .egress, .store, .rein, .dbm, .lanes, .conns], [.PAI, .REI, .LAN])
  | .laneTrainTimeout .. => ([.freeCtr, .irq, .egress, .store, .rein, .lanes, .conns], [.PAI, .REI, .LAN])
  | .cxpDiscovery .. => ([.freeCtr, .irq, .egress, .store, .rein, .dbm, .lanes, .conns], [.PAI, .REI, .LAN])
  | .cxpDiscoveryTimeout .. => ([.irq, .egress, .store, .rein, .lanes, .conns], [.PAI, .REI, .LAN])
  | .cxpStreamPacket .. => ([.ing], [.LAN, .ING])
  | .cxpImageHeader .. => ([.irq, .egress, .rein, .mews, .ing, .sta, .tapLost], [.REI, .MEW, .ING])
  | .cxpControlResponse .. => ([.irq, .egress, .rein, .ing, .lanes, .conns], [.REI, .LAN, .ING])
  | .cxpEventPacket .. => ([.irq, .egress, .rein, .ing], [.REI, .ING])
  | .cxpHeartbeat .. => ([.lanes], [])
  | .cxpConnectionTest .. => ([.lanes], [.LAN])
  | .voxhusMarkerReceive .. => ([.freeCtr, .irq, .egress, .store, .rein, .lanes, .conns], [.PAI, .REI, .LAN])
  | .voxhusMarkerSend .. => ([.egress, .lanes], [])
  | .voxhusPacketReceive .. => ([.freeCtr, .irq, .egress, .store, .rein, .ing, .dbm, .lanes, .conns], [.PAI, .REI, .LAN, .ING])
  | .voxhusCreditWord .. => ([.freeCtr, .irq, .egress, .store, .rein, .ing, .dbm, .lanes, .conns], [.PAI, .REI, .LAN, .ING])
  | .voxhusCreditSend .. => ([.egress, .lanes], [.LAN])
  | .voxhusSleepRequest .. => ([.freeCtr, .irq, .egress, .store, .rein, .ing, .dbm, .lanes, .conns], [.PAI, .REI, .LAN, .ING])
  | .voxhusSleepAck .. => ([.freeCtr, .irq, .egress, .store, .rein, .ing, .dbm, .lanes, .conns], [.PAI, .REI, .LAN, .ING])
  | .voxhusWake .. => ([.freeCtr, .irq, .egress, .store, .rein, .ing, .dbm, .lanes, .conns], [.PAI, .REI, .LAN, .ING])
  | .voxhusKeepAlive .. => ([.freeCtr, .irq, .egress, .store, .rein, .ing, .dbm, .lanes, .conns], [.PAI, .REI, .LAN, .ING])
  | .trainingLockReport .. => ([.freeCtr, .irq, .egress, .store, .rein, .ing, .dbm, .lanes, .conns], [.PAI, .REI, .LAN, .ING])
  | .voxhusReservedWord .. => ([.freeCtr, .irq, .egress, .store, .rein, .ing, .dbm, .lanes, .conns], [.PAI, .REI, .LAN, .ING])
  | .ethFrameReceive .. => ([.freeCtr, .irq, .egress, .store, .rein, .lanes, .conns], [.PAI, .REI, .LAN])
  | .ethBlockLockLoss .. => ([.freeCtr, .irq, .egress, .store, .rein, .lanes, .conns], [.PAI, .REI, .LAN])
  | .laneSignalLoss .. => ([.freeCtr, .irq, .egress, .store, .rein, .lanes, .conns], [.PAI, .REI, .LAN])
  | .laneRetrain .. => (act [.freeCtr, .wwt, .rein, .tru, .seam, .lanes, .conns], actBlk [.PAI, .REI, .WWT, .LAN])
  | .laneClearCounts .. => (act [.freeCtr, .wwt, .rein, .tru, .seam, .lanes, .conns], actBlk [.PAI, .REI, .WWT, .LAN])
  | .laneRunWwt .. => (act [.freeCtr, .wwt, .rein, .tru, .seam, .lanes, .conns], actBlk [.PAI, .REI, .WWT, .LAN])
  | .laneEqSetGo .. => (act [.lanes], actBlk [.LAN])
  | .laneEqSwitch .. => ([.irq, .egress, .store, .rein], [.REI, .LAN])
  | .lanePowerRequest .. => (act [.freeCtr, .rein, .lanes, .conns], actBlk [.PAI, .REI, .LAN])
  | .laneWakeOnSignal .. => ([.freeCtr, .irq, .egress, .rein, .lanes, .conns], [.PAI, .REI, .LAN])
  | .lanePrbsControl .. => (act [.freeCtr, .rein, .lanes, .conns], actBlk [.PAI, .REI, .LAN])
  | .ingTriggerEvent .. => ([.staged, .irq, .egress, .rein, .yoke, .mews, .ing, .sta, .tapLost], everyBlk)
  | .ingLineDecide .. => ([.freeCtr, .staged, .stager, .irq, .egress, .hdr, .store, .wwt, .rein, .yoke, .way, .wht, .mews, .ing, .sta, .tru, .seam,
    .gain, .seamFix, .dbm, .tapLost], everyBlk)
  | .ingLineEnd .. => ([.irq, .egress, .rein, .mews, .ing, .sta, .tapLost], [.REI, .MEW, .ING])
  | .triggerWindowExpire .. => ([.irq, .egress, .rein, .mews, .ing, .sta, .tapLost], [.REI, .MEW, .ING])
  | .voxhusLineHeader .. => ([.irq, .egress, .rein, .ing], [.REI, .ING])
  | .camsetLaunch .. => (act [.rein, .ing, .lanes, .conns], actBlk [.REI, .LAN, .ING])
  | .camsetAck .. => ([.irq, .egress, .rein, .ing, .lanes, .conns], [.REI, .LAN, .ING])
  | .camsetTimeout .. => ([.irq, .egress, .rein, .ing, .lanes, .conns], [.REI, .LAN, .ING])
  | .tunnelGo .. => (act [.rein, .ing, .lanes, .conns], actBlk [.REI, .LAN, .ING])
  | .tunnelResponse .. => ([.irq, .egress, .rein, .ing, .lanes, .conns], [.REI, .LAN, .ING])
  | .tunnelTimeout .. => ([.irq, .egress, .rein, .ing, .lanes, .conns], [.REI, .LAN, .ING])
  | .cameraEventReceive .. => ([.irq, .egress, .rein, .ing], [.REI, .ING])
  | .cameraEventPop .. => (act [.ing], actBlk [.ING])
  | .staLine .. => ([.freeCtr, .staged, .irq, .egress, .store, .rein, .yoke, .mem, .poison, .stale, .mews, .sta], everyBlk)
  | .staBlockClose .. => ([.irq, .egress, .store, .rein, .mem, .poison, .stale, .sta], [.GLB, .REI, .DMC, .STA])
  | .wireDisagreeFault .. => ([.irq, .egress, .rein], [.WAY, .REI])
  | .wireFaultClear .. => ([], [.WAY])
  | .quadratureStep .. => ([.irq, .egress, .rein, .way], [.WAY, .REI])
  | .doubleEdgeWindow .. => ([], [.WAY])
  | .indexEvent .. => ([.irq, .egress, .rein, .way], [.WAY, .REI])
  | .absFrameRequest .. => ([.irq, .egress, .rein, .way], [.WAY, .REI])
  | .absRequest .. => (act [.rein, .way], actBlk [.WAY, .REI])
  | .absFrameComplete .. => ([.irq, .egress, .rein, .way], [.WAY, .REI])
  | .absFrameTimeout .. => ([.irq, .egress, .rein, .way], [.WAY, .REI])
  | .speedStandstill .. => ([.way], [.WAY])
  | .encoderTrigger .. => ([.irq, .egress, .rein, .way, .mews, .ing, .sta, .tapLost, .pair], [.WAY, .REI, .MEW, .ING])
  | .fixedRateTrigger .. => ([.irq, .egress, .rein, .way, .mews, .ing, .sta, .tapLost, .pair], [.WAY, .REI, .MEW, .ING])
  | .compareFire .. => ([.irq, .egress, .pwr, .rein, .way], [.GLB, .WAY, .PWR, .REI])
  | .gioPulseEnd .. => ([.egress, .way], [.WAY])
  | .comparePush .. => (act [.way], actBlk [.WAY])
  | .compareFlush .. => (act [.way], actBlk [.WAY])
  | .compareEnable .. => (act [.way], actBlk [.WAY])
  | .clearUncertain .. => (act [.rein, .way], actBlk [.WAY, .REI])
  | .clearSuspect .. => (act [.rein, .way], actBlk [.WAY, .REI])
  | .wayClearCounts .. => (act [.rein, .way], actBlk [.WAY, .REI])
  | .motionWake .. => ([.irq, .egress, .pwr, .rein], [.GLB, .WAY, .PWR, .REI])
  | .truLine .. => ([.freeCtr, .staged, .irq, .egress, .rein, .yoke, .mews, .sta, .tru, .tapLost], everyBlk)
  | .tableLoad .. => (act [.rein, .tru, .rga], actBlk [.REI, .TRU, .RGA])
  | .tableLoadComplete .. => ([.irq, .egress, .store, .rein, .tru, .rga], [.GLB, .REI, .TRU, .RGA])
  | .tableLoadAbort .. => (act [.rein, .tru, .rga], actBlk [.REI, .TRU, .RGA])
  | .refMeasurementDone .. => ([.irq, .egress, .wwt, .rein, .tru], [.REI, .TRU])
  | .gainRebuild .. => ([.freeCtr, .mem, .poison, .stale, .tru, .rga, .gain], [.DMC, .TRU, .RGA])
  | .gainCommitStage .. => ([.staged, .stager, .irq, .egress, .store, .wwt, .rein, .yoke, .tru, .seam, .gain, .seamFix], [.YOK, .REI, .WWT, .TRU])
  | .gainWaitTimeout .. => ([.irq, .egress, .store, .wwt, .rein, .tru, .seam, .gain, .seamFix], [.REI, .WWT])
  | .rgaLine .. => ([.freeCtr, .staged, .irq, .egress, .rein, .yoke, .mews, .rga, .hist], everyBlk)
  | .rgaGapMarker .. => ([.freeCtr, .staged, .irq, .egress, .rein, .yoke, .mews, .rga, .hist], everyBlk)
  | .seamLineDeliver .. => ([.irq, .egress, .rein, .mews, .seam, .hist], [.REI, .MEW, .CPL])
  | .regWindowEnd .. => ([.irq, .egress, .rein, .seam], [.REI, .CPL])
  | .seamRunComplete .. => ([.freeCtr, .staged, .stager, .irq, .egress, .store, .wwt, .rein, .yoke, .tru, .seam, .gain, .seamFix], [.YOK, .REI, .WWT,
    .CPL])
  | .seamRunTimeout .. => ([.freeCtr, .staged, .stager, .irq, .egress, .store, .wwt, .rein, .yoke, .tru, .seam, .gain, .seamFix], [.YOK, .REI, .WWT,
    .CPL])
  | .sprLine .. => ([.staged, .irq, .egress, .rein, .yoke, .mews, .spr, .hist, .tapLost, .pair], everyBlk)
  | .freezeMaskReturn .. => ([.staged, .irq, .egress, .rein, .yoke, .mews, .spr, .pair], everyBlk)
  | .sprFreeze .. => (act [.rein], actBlk [.REI, .SPR])
  | .sprThaw .. => (act [.rein], actBlk [.REI, .SPR])
  | .segLine .. => ([.staged, .irq, .egress, .rein, .yoke, .mews, .spr, .seg, .pair], everyBlk)
  | .lblLine .. => ([.staged, .irq, .egress, .store, .rein, .yoke, .mews, .lbl, .dbm, .pair], everyBlk)
  | .dbmFragment .. => ([.freeCtr, .irq, .egress, .rein, .tmt, .way, .mews, .dbm, .tapLost, .ring], [.TMT, .WAY, .RNG, .REI, .MEW, .DBM])
  | .dbmPartialSet .. => ([.freeCtr, .irq, .egress, .rein, .tmt, .way, .dbm, .ring], [.TMT, .WAY, .RNG, .REI, .DBM])
  | .frontierAdvance .. => ([.freeCtr, .irq, .egress, .rein, .tmt, .way, .mews, .dbm, .tapLost, .ring], [.TMT, .WAY, .RNG, .REI, .MEW, .DBM])
  | .recordWrite .. => ([.irq, .egress, .rein, .mem, .poison, .stale, .dbm, .pat, .pair], [.REI, .DMC, .DBM, .PAT])
  | .carriageLag .. => ([.freeCtr, .irq, .egress, .rein, .tmt, .way, .mews, .lbl, .dbm, .tapLost, .ring], [.TMT, .WAY, .RNG, .REI, .MEW, .LBL, .DBM])
  | .dbmAckWrite .. => (acc [], accBlk [.DBM])
  | .dbmRackWrite .. => (acc [], accBlk [.DBM])
  | .patchCut .. => ([.irq, .egress, .store, .rein, .mem, .poison, .stale, .mews, .dbm, .pat], [.GLB, .REI, .DMC, .PAT])
  | .archiveLine .. => ([.staged, .irq, .egress, .rein, .yoke, .mem, .poison, .stale, .mews, .tapLost, .arc], everyBlk)
  | .archiveRowClose .. => ([.irq, .egress, .rein, .mem, .poison, .stale, .arc], [.REI, .DMC, .PMT])
  | .archiveRowTimeout .. => ([.irq, .egress, .rein, .mem, .poison, .stale, .arc], [.REI, .DMC, .PMT])
  | .decodeJobGo .. => (act [.rein, .mews, .jobs], actBlk [.REI, .MEW, .PMT])
  | .decodeJobAbort .. => (act [.rein, .mews, .jobs], actBlk [.REI, .MEW, .PMT])
  | .decodeLine .. => ([.staged, .stager, .irq, .egress, .store, .wwt, .rein, .yoke, .way, .mem, .poison, .stale, .wht, .mews, .ing, .tru, .seam,
    .gain, .seamFix, .dbm, .jobs], everyBlk)
  | .decodeJobEnd .. => ([.irq, .egress, .rein, .jobs], [.REI, .PMT])
  | .previewTick .. => ([.pvw], [.PVW])
  | .previewRowComplete .. => ([.freeCtr, .irq, .egress, .store, .rein, .mem, .poison, .stale, .mews, .tapLost, .pvw], [.GLB, .REI, .MEW, .DMC, .PVW])
  | .previewRowTimeout .. => ([.freeCtr, .irq, .egress, .store, .rein, .mem, .poison, .stale, .pvw], [.GLB, .REI, .DMC, .PVW])
  | .dramRead .. => ([.irq, .egress, .store, .rein, .mem, .poison, .stale, .dmc, .dbm], [.REI, .DMC])
  | .bar2Read .. => (acc [], accBlk [])
  | .bar2Write .. => (acc [.mem, .poison, .stale], accBlk [.DMC])
  | .bar2BaseWrite .. => (act [], actBlk [])
  | .refreshDue .. => ([.irq, .egress, .rein, .dmc, .wht], [.REI, .WHT, .DMC])
  | .refreshMakeup .. => ([.dmc], [.DMC])
  | .dimmHot .. => ([.irq, .egress, .store, .rein], [.REI, .DMC])
  | .rowActivate .. => ([.freeCtr, .irq, .egress, .store, .rein, .dmc], [.REI, .DMC])
  | .curbWindowEnd .. => ([.dmc], [.DMC])
  | .scrubBlock .. => ([.irq, .egress, .store, .rein, .mem, .poison, .stale, .dmc, .dbm], [.REI, .DMC])
  | .sramScrub .. => ([.irq, .egress, .store, .rein, .mews, .tru, .rga, .seam, .spr, .lbl], [.GLB, .REI, .MEW, .DMC, .CPL, .LBL])
  | .waybillScrub .. => ([.irq, .egress, .store], [.GLB])
  | .remountGo .. => (act [.rein, .dmc, .dbm], actBlk [.REI, .DMC])
  | .remountCopyBlock .. => ([.irq, .egress, .store, .rein, .mem, .poison, .stale, .dmc, .dbm], [.REI, .DMC])
  | .remountComplete .. => ([.irq, .egress, .store, .rein], [.REI, .DMC])
  | .dramRunComplete .. => ([.irq, .egress, .store, .wwt, .rein, .tru, .seam], [.REI, .DMC, .WWT])
  | .sramUncorrectable .. => ([.irq, .egress, .store, .rein, .mews, .tru, .rga, .seam, .spr, .lbl], [.GLB, .REI, .MEW, .DMC, .CPL, .LBL])
  | .mewsPacketWrite .. => ([.irq, .egress, .rein, .mews], [.REI, .MEW])
  | .mewsSpaceFreed .. => ([.irq, .egress, .rein, .mews], [.REI, .MEW])
  | .mewsPacketRead .. => ([.mews], [.MEW])
  | .mewsPacketAbandon .. => ([.irq, .egress, .rein, .mews], [.REI, .MEW])
  | .mewsFlush .. => (act [.mews], actBlk [.MEW])
  | .mewsFlushBoundary .. => ([.irq, .egress, .rein, .mews, .dbm, .pat], [.REI, .MEW, .PAT])
  | .mewsHwFlush .. => ([.irq, .egress, .rein, .mews, .sta, .lbl, .dbm, .pat, .tapLost], [.REI, .MEW, .LBL, .DBM, .PAT])
  | .mewPeakClear .. => (act [], actBlk [.MEW])
  | .drayageGo .. => (act [.rein, .mem, .poison, .stale, .dry], actBlk [.REI, .DRY, .DMC])
  | .drayageBurst .. => ([.irq, .egress, .store, .rein, .mem, .poison, .stale, .dry], [.GLB, .REI, .DRY, .DMC])
  | .drayageComplete .. => ([.irq, .egress, .store, .rein, .mem, .poison, .stale, .dry], [.GLB, .REI, .DRY, .DMC])
  | .drayageAbort .. => (act [.rein, .mem, .poison, .stale, .dry], actBlk [.REI, .DRY, .DMC])
  | .drayageCredit .. => ([], [.DRY])
  | .drayageReqClear .. => (act [], actBlk [.DRY])
  | .whiffletreeDecision .. => ([.wht], [.WHT])
  | .burstMaxExpire .. => ([.wht], [.WHT])
  | .grantDrop .. => ([.irq, .egress, .rein, .wht], [.REI, .WHT])
  | .emergencyPreempt .. => ([.irq, .egress, .rein, .wht], [.REI, .WHT])
  | .starvation .. => ([.irq, .egress, .rein, .wht], [.REI, .WHT])
  | .clearStarve .. => (act [.wht], actBlk [.WHT])
  | .reinSourceEvent .. => ([.rein], [.REI])
  | .reinCycle .. => ([.staged, .stager, .irq, .egress, .store, .wwt, .rein, .yoke, .way, .mem, .poison, .stale, .dry, .wht, .mews, .ing, .tru, .seam,
    .gain, .seamFix, .dbm, .lanes, .conns, .jobs], everyBlk)
  | .buckleGlitchAccept .. => ([.rein], [])
  | .reinRateWindow .. => ([.rein], [])
  | .reinTrunkFire .. => (acc [.rein], accBlk [.REI])
  | .gioInputEdge .. => ([.hw, .pwr, .rein], [.GLB, .PWR, .PAI, .REI])
  | .timetableTick .. => ([.irq, .egress, .store, .rein, .tmt, .way, .mem, .poison, .stale, .lbl, .dbm, .pat, .pair], [.GLB, .TMT, .WAY, .PAI, .REI,
    .DMC, .DBM, .PAT])
  | .ptpSync .. => ([.freeCtr, .irq, .egress, .store, .rein, .tmt], [.GLB, .TMT, .REI])
  | .ptpFollowUp .. => ([.freeCtr, .irq, .egress, .store, .rein, .tmt], [.GLB, .TMT, .REI])
  | .ptpDelayReq .. => ([.egress], [.TMT])
  | .ptpDelayResp .. => ([.tmt], [.TMT])
  | .ptpPdelayReq .. => ([.egress], [.TMT])
  | .ptpPdelayResp .. => ([.tmt], [.TMT])
  | .ptpPdelayRespFollowUp .. => ([.tmt], [.TMT])
  | .ptpAnnounce .. => ([.irq, .egress, .store, .rein, .tmt], [.GLB, .TMT, .REI])
  | .ptpDiscardedMessage .. => ([], [.TMT])
  | .ptpMasterSend .. => ([.egress, .tmt], [.TMT])
  | .announceTimeout .. => ([.irq, .egress, .store, .rein, .tmt], [.GLB, .TMT, .REI])
  | .stepAccept .. => (act [.rein, .tmt], actBlk [.TMT, .REI])
  | .stepReject .. => (act [.rein, .tmt], actBlk [.TMT, .REI])
  | .timeSet .. => (act [.rein, .tmt], actBlk [.TMT, .REI])
  | .capture .. => (act [.rein, .tmt], actBlk [.TMT, .REI])
  | .launchPush .. => (act [.rein, .tmt], actBlk [.TMT, .REI])
  | .launchFlush .. => (act [.rein, .tmt], actBlk [.TMT, .REI])
  | .launchPrefetch .. => ([.irq, .egress, .store, .rein, .tmt], [.GLB, .TMT, .REI])
  | .launchSend .. => ([.irq, .egress, .rein, .tmt], [.TMT, .REI])
  | .alarmFire .. => ([.irq, .egress, .pwr, .rein, .way], [.GLB, .TMT, .WAY, .PWR, .REI])
  | .markerPredict .. => ([.irq, .egress, .rein, .tmt], [.TMT, .REI])
  | .irqEoi .. => (acc [], accBlk [])
  | .msixUnmask .. => ([.irq, .egress], [])
  | .orRead .. => (allBut [.pending, .hw], everyBlk)
  | .orWrite .. => (allBut [.pending, .hw], everyBlk)
  | .orWriteFifo .. => (allBut [.pending, .hw], everyBlk)
  | .orResult .. => ([.egress, .out], [.OUT])
  | .orIdentify .. => (allBut [.pending, .hw], everyBlk)
  | .stalledAccessResume .. => (allBut [.pending, .hw], everyBlk)
  | .yokeRequest .. => (act [.rein, .yoke], actBlk [.REI])
  | .yokeCheckDone .. => ([.staged, .stager, .irq, .egress, .store, .wwt, .rein, .yoke, .way, .wht, .tru, .seam, .gain, .seamFix, .dbm], everyBlk)
  | .yokeRelease .. => ([.staged, .stager, .irq, .egress, .store, .wwt, .rein, .yoke, .way, .wht, .tru, .seam, .gain, .seamFix, .dbm], everyBlk)
  | .yokeCancel .. => (act [.wwt, .rein, .yoke, .tru, .seam, .gain, .seamFix], actBlk [.REI, .WWT])
  | .yokeDiscard .. => (act [], actBlk [])
  | .postSlotWrite .. => (acc [], accBlk [.PST])
  | .postSend .. => (act [.replies, .postSeq, .rein], actBlk [.PST, .REI])
  | .postTake .. => (act [.replies, .postSeq, .rein], actBlk [.PST, .REI])
  | .postAbort .. => (act [.replies, .postSeq, .rein], actBlk [.PST, .REI])
  | .postClaimLapse .. => ([.irq, .egress, .replies, .postSeq, .rein], [.PST, .REI])
  | .postTimeout .. => ([.replies], [.PST])
  | .hornRing .. => (acc [], accBlk [.PST])
  | .hornClear .. => (acc [], accBlk [.PST])
  | .identity .. => ([.irq, .egress, .replies, .postSeq, .store, .rein], [.GLB, .PST, .REI])
  | .faultRead .. => ([.irq, .egress, .replies, .postSeq, .store, .rein], [.GLB, .PST, .REI])
  | .faultClear .. => ([.irq, .egress, .replies, .postSeq, .store, .rein], [.GLB, .PST, .REI])
  | .temps .. => ([.irq, .egress, .replies, .postSeq, .store, .rein], [.GLB, .PST, .REI])
  | .wwtServiceRun .. => ([.irq, .egress, .replies, .postSeq, .store, .wwt, .rein, .tru, .seam], [.GLB, .PST, .REI, .WWT])
  | .wwtServiceState .. => ([.irq, .egress, .replies, .postSeq, .store, .rein], [.GLB, .PST, .REI])
  | .recordRead .. => ([.irq, .egress, .replies, .postSeq, .store, .rein], [.GLB, .PST, .REI])
  | .linchpinAcquire .. => (acc [], accBlk [.LCH])
  | .linchpinRelease .. => (act [], actBlk [.LCH])
  | .linchpinForce .. => (act [], actBlk [.PST, .LCH])
  | .linchpinBreak .. => ([.irq, .egress], [.PST, .LCH])
  | .linchpinLeaseExpire .. => ([.irq, .egress], [.PST, .LCH])
  | .pcieReset .. => ([.irq, .egress, .pwr], [.PST, .LCH])
  | .pciePerst .. => ([.irq, .egress, .pwr], [.PST, .LCH])
  | .sleepRequest .. => (act [.pwr, .wwt, .rein, .way, .gain, .seamFix], actBlk [.PWR, .PAI, .REI, .WWT, .TRU])
  | .sleepDrainDone .. => ([.freeCtr, .staged, .irq, .egress, .pwr, .store, .rein, .yoke, .tmt, .way, .mem, .poison, .stale, .mews, .ing, .sta, .tru,
    .rga, .seam, .spr, .seg, .hist, .lbl, .dbm, .pat, .tapLost, .arc, .pair, .ring], everyBlk)
  | .sleepDrayageDone .. => ([.freeCtr, .irq, .egress, .pwr, .store, .rein, .mem, .poison, .stale, .dmc, .dry, .lanes, .conns], [.GLB, .PAI, .REI,
    .DRY, .DMC, .LAN])
  | .sleepClocksStopped .. => (allBut [.pending, .hw, .out, .keys, .store], everyBlk)
  | .wakeEvent .. => ([.pwr], [.GLB, .PWR])
  | .wakeCommand .. => (act [.pwr, .rein], actBlk [.PWR, .REI])
  | .wakeComplete .. => (allBut [.pending, .hw, .out], everyBlk)
  | .bootContinue .. => (act [], actBlk [.PWR])
  | .powerOnReset .. => (allBut [.pending, .freeCtr, .hw, .egress, .keys, .store], everyBlk)
  | .startupStageComplete .. => ([.irq, .egress, .pwr, .hdr, .store, .wwt, .rein, .tmt, .way, .dmc, .tru, .seam, .dbm, .pair], [.GLB, .HDR, .PST,
    .TMT, .WAY, .PWR, .PAI, .RNG, .CLK, .REI, .WHT, .DMC, .WWT])
  | .resetPin .. => (allBut [.pending, .hw, .keys], everyBlk)
  | .coachReset .. => (allBut [.pending, .hw, .keys], everyBlk)
  | .coachResetReady .. => (allBut [.pending, .hw, .out], everyBlk)
  | .coachmanWatchdog .. => ([.irq, .egress], [.PST, .LCH])
  | .tempSensorUpdate .. => (allBut [.pending, .hw, .out, .keys], everyBlk)
  | .wwtTimer .. => ([.wwt, .tru, .seam], [.WWT])
  | .wwtRun .. => (acc [.wwt, .tru, .seam], accBlk [.WWT])
  | .clearUnsettled .. => (acc [.wwt, .tru, .seam], accBlk [.WWT])
  | .laneRunComplete .. => ([.irq, .egress, .store, .wwt, .rein, .tru, .seam, .lanes], [.REI, .WWT, .LAN])
  | .gainRunComplete .. => ([.irq, .egress, .store, .wwt, .rein, .tru, .seam, .gain], [.REI, .WWT, .TRU])
  | .tsenRunComplete .. => ([.irq, .egress, .store, .wwt, .rein, .tru, .seam], [.REI, .WWT])
  | .pllUnlock .. => (allBut [.pending, .hw, .keys], everyBlk)
  | .referenceLoss .. => (allBut [.pending, .hw, .keys], everyBlk)
  | .pairHello .. => ([.freeCtr, .irq, .egress, .store, .rein, .tmt, .mem, .poison, .stale, .dbm, .arc, .pair], [.GLB, .TMT, .PAI, .REI, .DMC, .DBM,
    .PMT])
  | .pairJoinTimeout .. => ([.irq, .egress, .store, .rein, .tmt, .mem, .poison, .stale, .dbm, .pair], [.GLB, .TMT, .PAI, .REI, .DMC, .DBM])
  | .pairHoldConflict .. => ([.irq, .egress, .store, .rein, .tmt, .dbm], [.GLB, .TMT, .PAI, .REI])
  | .heartbeat .. => ([.pair], [.PAI, .DBM])
  | .heartbeatSend .. => ([.egress], [])
  | .heartbeatMissed .. => ([.irq, .egress, .store, .rein, .tmt, .way, .mem, .poison, .stale, .lbl, .dbm, .pat, .pair], [.GLB, .TMT, .WAY, .PAI, .REI,
    .DMC, .DBM, .PAT])
  | .mirrorTrigger .. => ([.staged, .irq, .egress, .rein, .yoke, .mews, .ing, .sta, .tapLost, .pair], everyBlk)
  | .mirrorEpoch .. => ([.ing], [.ING])
  | .mirrorYoke .. => ([.egress, .yoke], [])
  | .yokeResult .. => ([.staged, .stager, .irq, .egress, .store, .wwt, .rein, .yoke, .way, .wht, .tru, .seam, .gain, .seamFix, .dbm], everyBlk)
  | .yokeApply .. => ([.yoke], [])
  | .records .. => ([.irq, .egress, .store, .rein, .mem, .poison, .stale, .dbm, .pair], [.PAI, .REI, .DMC, .DBM])
  | .recordsHeld .. => ([.irq, .egress, .rein, .mem, .poison, .stale, .dbm], [.REI, .DMC, .DBM])
  | .mirrorAck .. => ([], [.DBM])
  | .digest .. => ([.irq, .egress, .store, .rein, .pair], [.PAI, .REI])
  | .digestTimeout .. => ([.irq, .egress, .store, .rein, .pair], [.PAI, .REI])
  | .resyncRequest .. => ([.pair], [])
  | .mirrorState .. => ([.staged, .irq, .egress, .rein, .yoke, .mews, .ing, .spr, .seg, .lbl, .dbm, .pair], everyBlk)
  | .resyncSwitchBack .. => ([.irq, .egress, .store, .rein, .mews, .pair], [.PAI, .REI, .MEW])
  | .resyncDone .. => ([.irq, .egress, .store, .rein, .dbm, .pair], [.PAI, .REI])
  | .resyncTimeout .. => ([.irq, .egress, .store, .rein, .pair], [.PAI, .REI])
  | .calib .. => ([.gain], [.TRU])
  | .mirrorTime .. => ([.freeCtr, .irq, .egress, .store, .rein, .tmt], [.GLB, .TMT, .REI])
  | .switchoverControl .. => ([.pair], [])
  | .holdInputLow .. => ([.irq, .egress, .store, .rein, .tmt, .way, .mem, .poison, .stale, .lbl, .dbm, .pat, .pair], [.GLB, .TMT, .WAY, .PAI, .REI,
    .DMC, .DBM, .PAT])
  | .switchover .. => (act [.pair], actBlk [.PAI])
  | .detach .. => (act [.rein, .tmt, .pair], actBlk [.TMT, .PAI, .REI])
  | .rejoin .. => (act [.rein, .tmt, .pair], actBlk [.TMT, .PAI, .REI])
  | .ringHello .. => ([.freeCtr, .irq, .egress, .store, .rein, .tmt, .way, .dbm, .ring], [.GLB, .TMT, .WAY, .RNG, .REI, .DBM])
  | .ringHelloSend .. => ([.egress], [])
  | .ringPartialSet .. => ([.freeCtr, .irq, .egress, .rein, .tmt, .way, .dbm, .ring], [.TMT, .WAY, .RNG, .REI, .DBM])
  | .ringNeighbourLost .. => ([.freeCtr, .irq, .egress, .store, .rein, .tmt, .way, .dbm, .ring], [.TMT, .WAY, .RNG, .REI, .DBM])
  | .powerLoss .. => (allBut [.pending, .freeCtr, .hw, .keys], everyBlk)
  | .rstnRise .. => ([.pwr], [.GLB])
  | .referenceReturn .. => ([.freeCtr, .irq, .egress, .pwr, .rein, .lanes, .conns], [.PAI, .CLK, .REI, .LAN])
  | .functionDStateChange .. => ([.irq, .egress, .pwr], [.PST, .LCH])
  | .controlSleepRequest .. => ([.irq, .egress, .pwr, .store, .wwt, .rein, .tmt, .way, .gain, .seamFix, .pair], [.GLB, .TMT, .PWR, .PAI, .REI, .WWT,
    .TRU])
  | .filterRejectedPulse .. => ([.irq, .egress, .rein, .way], [.WAY, .REI])
  | .ptpDelayReqSend .. => ([.egress, .tmt], [.TMT])

end Sys2Proof.Machine
end

