-- ==== Sys2Proof/Certificates/Slice0/Obligations.lean ====
section
/-! DEFINITION. The statements for the provers, one per definition. Each docstring names the rules of the spec that it speaks of. -/

open Sys2Proof Sys2Proof.Machine

/-- One step runs the command in front of the queue on the state with the rest of the queue. On an empty queue the block idles, the model's own
choice (log 4). -/
def Obligations.StepTakesTheFrontCommandOrIdles : Prop :=
  (∀ (c : Instr) (s : State), step { s with pending := c :: s.pending } = exec c s) ∧ ∀ s : State, s.pending = [] → step s = .next s

/-- R9, R12, R63, R309, R395, R398, R432. Right after power-on every register reads its Reset column, or where its table gives none the value that
log 1 names; start-up stands at stage 1; no harness runs, no window is in the directory, the key slots are empty, every vector is masked, DRAM and
the queue hold nothing, and no Outrider request was seen. -/
def Obligations.ResetLeavesTheStatedValues : Prop :=
  (∀ b i o, regKey b i o ∉ powerOnRegs.map (fun e => e.1) → State.reset.word b i o = resetWord b o) ∧
  State.reset.rf 0 Reg.GLB_BOOT_STAGE_STAGE = 1 ∧ State.reset.rf 0 Reg.GLB_BOOT_STAGE_STATE = 0 ∧ State.reset.rf 0 Reg.HDR_STATUS_ACTIVE = 0 ∧
  State.reset.hdr.active = none ∧ State.reset.dir = [] ∧ State.reset.keys = [.empty, .empty, .empty, .empty] ∧
  (∀ v, v < 256 → v ∈ State.reset.irq.masked) ∧ State.reset.mem = [] ∧ State.reset.poison = [] ∧ State.reset.pending = [] ∧
  State.reset.out.status = 6 ∧ State.reset.staged = [] ∧ State.reset.yoke.commits = []

/-- The invariant holds at reset: DRAM is in its canonical form, and the Waybill has four key slots. -/
def Obligations.TheInvariantHoldsAtReset : Prop :=
  Inv State.reset

/-- R63, R309. From every state with DRAM in its canonical form and four key slots, a step answers such a state. -/
def Obligations.EveryStepKeepsTheInvariant : Prop :=
  ∀ s t : State, Inv s → step s = .next t → Inv t

/-- Every command leaves alone every field of State and every register block that is not listed for it in mayChange, and no command but its own
row's writes the queue or the part's wiring unless listed. -/
def Obligations.EveryCommandStaysInItsFrame : Prop :=
  ∀ (c : Instr) (s t : State), exec c s = .next t → Frame (mayChange c).1 (mayChange c).2 s t

/-- R63. No command takes a digest out of a key slot, puts another in its place, or brings a revoked slot back; only the rows of the Outrider's
access and of the key registers change a slot at all. -/
def Obligations.KeySlotsOnlyGoForward : Prop :=
  ∀ (c : Instr) (s t : State), exec c s = .next t → KeysGrow s.keys t.keys ∧ (.keys ∉ (mayChange c).1 → t.keys = s.keys)

/-- Every command answers a next state in every state: the part refuses, ignores and reports, and never stops. -/
def Obligations.EveryCommandHasAnEffect : Prop :=
  ∀ (c : Instr) (s : State), ∃ t, exec c s = .next t

/-- R10, R11, R392. A whole-word write to a register whose block has no action of its own acts on each field by its access code: RW bits take the
written bits, W1C bits clear and W1S bits set where the written bit is 1, and RO, WP, YH and RWS bits stay; RWS bits become the staged value unless
a pending commit holds it frozen. A write with only some byte enables is discarded whole and records G-0013. -/
def Obligations.RegisterWritesActOnEachFieldByItsCode : Prop :=
  ∀ (s : State) (m off be : Nat) (w : Word),
    (∀ l : Loc, off % 4 = 0 → off < 0x10000000 → ¬ (0x10000 ≤ off ∧ off < 0x20000) → be % 16 = 15 → s.locate m off = some l →
      l.blk ∈ [Blk.OUT, .RNG, .CLK, .STA, .SEG, .LBL, .PAT, .PVW] → s.stopped l.blk l.inst = false →
      Completes (.registerWrite m off be w) s (fun t => ∀ f ∈ l.rdef.fields, ∀ k, f.lo ≤ k → k ≤ f.hi →
        (t.word l.blk l.inst l.off).getLsbD k = (match f.acc with
          | .RW => w.getLsbD k
          | .W1C => (s.word l.blk l.inst l.off).getLsbD k && !w.getLsbD k
          | .W1S => (s.word l.blk l.inst l.off).getLsbD k || w.getLsbD k
          | .RO | .WP | .YH | .RWS => (s.word l.blk l.inst l.off).getLsbD k) ∧
        (f.acc = .RWS → s.frozen (regKey l.blk l.inst l.off) = false → (t.stagedWord l.blk l.inst l.off).getLsbD k = w.getLsbD k))) ∧
    (be % 16 ≠ 15 → Completes (.registerWrite m off be w) s (fun t => t.rf 0 Reg.GLB_ERR_CODE = codeWord 'G' 0x0013 ∧
      t.rf 0 Reg.GLB_ERR_ADDR_OFFSET = (off - off % 4) % 2 ^ 32 ∧ t.staged = s.staged ∧ ∀ b i o, b ≠ .GLB → t.word b i o = s.word b i o))

/-- R34, R310. An access to an offset that no block occupies, or to a package DRAM address that no partition holds, completes at once: G-0010 is
recorded with the offset and the master, a host read returns 0, and a write changes no register but GLB_ERR and no byte of DRAM. R21, R23, R302,
R478. A Fifth-wheel port that fails sets its bit of GLB_FAB_PORTS and L-0050 in GLB_FAB_ERR, and every other port's bit stays. A Felloe word that
arrives over a working port is delivered with the data that its check gives, with its poison bit set where it is poison or cannot be corrected, and
never dropped; an uncorrectable one records M-0004. -/
def Obligations.UnoccupiedAccessesAndPortsThatFailAreReported : Prop :=
  (∀ (s : State) (m off : Nat) (isWrite dram : Bool), (if dram then s.dramOpen off = false else s.noBlock m off = true) →
    Completes (.unoccupiedAccess m off isWrite dram) s (fun t =>
      t.rf 0 Reg.GLB_ERR_CODE = codeWord 'G' 0x0010 ∧ t.rf 0 Reg.GLB_ERR_ADDR_OFFSET = off % 2 ^ 32 ∧
      t.rf 0 Reg.GLB_ERR_MASTER_MASTER = m % 256 ∧ t.mem = s.mem ∧ t.staged = s.staged ∧ t.stalled = s.stalled ∧
      (∀ b i o, b ≠ .GLB → t.word b i o = s.word b i o) ∧
      (isWrite = false → m = mHost → t.egress.getLast? = some ⟨.hostRead, 0, [0]⟩))) ∧
  (∀ (s : State) (c p r : Nat), c < s.hw.coaches → c < 8 → p < 4 → s.pwr.off = false →
    (s.rf 0 Reg.GLB_FAB_PORTS_FAILED).testBit (4 * c + p) = false →
    Completes (.fifthWheelPortFail c p) s (fun t => t.rf 0 Reg.GLB_FAB_ERR_CODE = codeWord 'L' 0x0050 ∧
      ∀ k, k < 32 → (t.rf 0 Reg.GLB_FAB_PORTS_FAILED).testBit k = ((s.rf 0 Reg.GLB_FAB_PORTS_FAILED).testBit k || decide (k = 4 * c + p))) ∧
    (Reaches s .REI (unitOf c 0) → Completes (.fifthWheelWordReceive c p r) s (fun t =>
      t.egress.getLast? = some ⟨.wheelWord, c, [(felloeRead (r % 2 ^ 80)).2,
        b2n ((felloeRead (r % 2 ^ 80)).1 == .poison || (felloeRead (r % 2 ^ 80)).1 == .uncorrectable)]⟩ ∧
      ((felloeRead (r % 2 ^ 80)).1 = .uncorrectable → t.rf 0 Reg.GLB_FAB_ERR_CODE = codeWord 'M' 0x0004))))

/-- R64, R66, R67, R71, R77. From start-up stage 9 on a LOAD starts a load while none runs (of a patch, from host memory or the Outrider buffer
only); it is refused with H-0005 while one runs and with H-0006, or H-0005 for a second patch, while a patch is pending. ABORT ends a load in phases
1 to 3 with H-0008 and has no effect in phase 4. PATCH_CANCEL drops a patch whose instant is not reached and leaves any other. PROG_A and PROG_B
begin to program a slot from host memory or the Outrider buffer. The refusal of a LOAD before stage 9 is the model's own choice (log 10). -/
def Obligations.HarnessRequestsStartEndOrAreRefused : Prop :=
  ∀ (s : State) (m : Nat) (w : Word), Reaches s .HDR 0 →
    (s.rf 0 Reg.GLB_BOOT_STAGE_STAGE < 9 → Completes (.harnessLoad m w) s (fun t =>
        t.rf 0 Reg.HDR_ERR_CODE = codeWord 'H' 5 ∧ t.rf 0 Reg.HDR_STATUS_FAIL = 1 ∧ t.phase = s.phase ∧ t.hdr = s.hdr)) ∧
    (9 ≤ s.rf 0 Reg.GLB_BOOT_STAGE_STAGE → s.phase = 0 → (Reg.HDR_CTL_PATCH.of w = 1 → 2 ≤ Reg.HDR_CTL_SRC.of w) →
      Completes (.harnessLoad m w) s (fun t => t.phase = 1 ∧
        t.hdr.load = some ⟨.request, Reg.HDR_CTL_SRC.of w, Reg.HDR_CTL_CHECK_ONLY.of w == 1, Reg.HDR_CTL_PATCH.of w == 1, [], none⟩ ∧
        t.hdr.active = s.hdr.active)) ∧
    (1 ≤ s.phase → s.phase ≤ 4 → Completes (.harnessLoad m w) s (fun t =>
        t.rf 0 Reg.HDR_ERR_CODE = codeWord 'H' 5 ∧ t.rf 0 Reg.HDR_STATUS_FAIL = 1 ∧ t.phase = s.phase ∧ t.hdr = s.hdr)) ∧
    (s.phase = 5 → 9 ≤ s.rf 0 Reg.GLB_BOOT_STAGE_STAGE → Completes (.harnessLoad m w) s (fun t =>
        t.rf 0 Reg.HDR_ERR_CODE = codeWord 'H' (if Reg.HDR_CTL_PATCH.of w = 1 then 5 else 6) ∧
        t.rf 0 Reg.HDR_STATUS_FAIL = 1 ∧ t.phase = 5 ∧ t.hdr = s.hdr)) ∧
    (1 ≤ s.phase → s.phase ≤ 3 → Completes (.harnessAbort m w) s (fun t => t.phase = 0 ∧ t.hdr = { s.hdr with load := none } ∧
        t.rf 0 Reg.HDR_ERR_CODE = codeWord 'H' 8 ∧ t.rf 0 Reg.HDR_STATUS_FAIL = 1)) ∧
    (s.phase = 4 → Completes (.harnessAbort m w) s (fun t => t.phase = 4 ∧ t.hdr = s.hdr)) ∧
    (∀ p, s.hdr.patch = some p → p.step = .pending → Completes (.patchCancel m w) s (fun t => t.phase = 0 ∧
        t.hdr = { s.hdr with patch := none } ∧ t.rf 0 Reg.HDR_STATUS_PATCH_CARRIAGE = 0xFF)) ∧
    (∀ p, s.hdr.patch = some p → p.step ≠ .pending → Completes (.patchCancel m w) s (fun t => t.hdr = s.hdr ∧ t.phase = s.phase)) ∧
    (s.phase = 0 → 9 ≤ s.rf 0 Reg.GLB_BOOT_STAGE_STAGE → 2 ≤ Reg.HDR_CTL_SRC.of w →
      ∀ bytes, s.sourceBytes (Reg.HDR_CTL_SRC.of w) = some bytes →
      Completes (.progA m w) s (fun t => t.phase = 6 ∧ t.store = s.store ∧
        t.hdr = { s.hdr with load := some ⟨.progA, Reg.HDR_CTL_SRC.of w, false, false, bytes, none⟩ }) ∧
      Completes (.progB m w) s (fun t => t.phase = 6 ∧ t.store = s.store ∧
        t.hdr = { s.hdr with load := some ⟨.progB, Reg.HDR_CTL_SRC.of w, false, false, bytes, none⟩ }))

/-- R66, R67, R68, R69, R75, R77. A load whose source is complete and whose image passes its check goes on to its apply in phase 4; a patch is then
pending in phase 5 with its kind and instant; a CHECK_ONLY load ends with DONE. A requested load whose image fails ends in phase 0 with FAIL and its
H-code, the running harness as it was. A drained load applies: its image is the active one, with DONE, ACTIVE, its IMAGE_ID and a generation that is
never 0, or a hardware fault ends it with FAIL, H-0F01 and no harness. A slot takes an image that passes its check and fits, with DONE, or fails
with FAIL and keeps what it held. -/
def Obligations.HarnessImagesPassOrFailWhole : Prop :=
  ∀ (s : State) (l : Loading), s.hdr.load = some l →
    (∀ bytes, s.phase = 1 → s.sourceBytes l.src = some bytes → ¬ ((l.src = 0 ∧ s.store.badA = true) ∨ (l.src = 1 ∧ s.store.badB = true)) →
      (s.imageErr bytes l.patch = none → l.checkOnly = false → l.patch = false → Completes .harnessSourceComplete s (fun t =>
        t.phase = 4 ∧ t.hdr.active = s.hdr.active ∧ t.hdr.load = some { l with bytes := bytes, image := some (readImage bytes) })) ∧
      (s.imageErr bytes l.patch = none → l.checkOnly = false → l.patch = true → Completes .harnessSourceComplete s (fun t =>
        t.phase = 5 ∧ t.rf 0 Reg.HDR_STATUS_PATCH_CARRIAGE = (readImage bytes).hdr.patchCarriage % 256 ∧
        t.hdr = { s.hdr with load := none, patch := some ⟨readImage bytes, s.rf 0 Reg.HDR_PATCH_KIND_KIND, s.rf64 0 Reg.HDR_PATCH_AT_LO_AT, .pending,
          0, 0, 0⟩ })) ∧
      (s.imageErr bytes l.patch = none → l.checkOnly = true → Completes .harnessSourceComplete s (fun t =>
        t.phase = 0 ∧ t.rf 0 Reg.HDR_STATUS_DONE = 1 ∧ t.hdr = { s.hdr with load := none })) ∧
      (∀ e, s.imageErr bytes l.patch = some e → l.why = .request → e.code < 65536 → Completes .harnessSourceComplete s (fun t =>
        t.phase = 0 ∧ t.hdr = { s.hdr with load := none } ∧ t.rf 0 Reg.HDR_STATUS_FAIL = 1 ∧
        t.rf 0 Reg.HDR_ERR_CODE = codeWord 'H' e.code))) ∧
    (s.phase = 4 → ∀ im, l.image = some im →
      Completes (.harnessApplyDrained false) s (fun t => t.hdr.active = some im ∧ t.hdr.load = none ∧ t.rf 0 Reg.HDR_STATUS_DONE = 1 ∧
        t.rf 0 Reg.HDR_STATUS_ACTIVE = 1 ∧ t.rf64 0 Reg.HDR_ACTIVE_ID_LO_ID = im.hdr.imageId % 2 ^ 64 ∧ t.rf 0 Reg.HDR_GEN_GEN ≠ 0) ∧
      Completes (.harnessApplyDrained true) s (fun t => t.hdr.active = none ∧ t.dir = [] ∧ t.rf 0 Reg.HDR_STATUS_ACTIVE = 0 ∧
        t.rf 0 Reg.HDR_GEN_GEN = 0 ∧ t.rf 0 Reg.HDR_STATUS_FAIL = 1 ∧ t.rf 0 Reg.HDR_ERR_CODE = codeWord 'H' 0xF01)) ∧
    (s.phase = 6 →
      (s.imageErr l.bytes false = none → l.bytes.length ≤ s.slotBytes → Completes .slotProgramComplete s (fun t =>
        t.phase = 0 ∧ t.hdr = { s.hdr with load := none } ∧ t.rf 0 Reg.HDR_STATUS_DONE = 1 ∧
        t.store.slotA = (if l.why = .progA then some l.bytes else s.store.slotA) ∧
        t.store.slotB = (if l.why = .progA then s.store.slotB else some l.bytes))) ∧
      (s.imageErr l.bytes false = none → s.slotBytes < l.bytes.length → Completes .slotProgramComplete s (fun t =>
        t.phase = 0 ∧ t.rf 0 Reg.HDR_STATUS_FAIL = 1 ∧ t.rf 0 Reg.HDR_ERR_CODE = codeWord 'H' 9 ∧ t.store = s.store)) ∧
      (∀ e, s.imageErr l.bytes false = some e → Completes .slotProgramComplete s (fun t =>
        t.phase = 0 ∧ t.rf 0 Reg.HDR_STATUS_FAIL = 1 ∧ t.store = s.store)))

/-- R63, R64. The Outrider enrols a digest into an empty key slot only, and revokes a slot for good; another slot never changes, and another
master's write changes no slot and records G-0011. HDR_OR_DATA appends the four bytes that the Outrider writes, low byte first, while the 16 MiB
buffer has room; CLEAR empties it. -/
def Obligations.KeySlotsAreWrittenOnceByTheOutrider : Prop :=
  ∀ (s : State) (m : Nat) (w : Word), Reaches s .HDR 0 → s.keys.length = 4 →
    (s.keys.getD (Reg.HDR_KEY_CTL_SLOT.of w) .empty = .empty →
      Completes (.enrol mOut w) s (fun t => t.keys.getD (Reg.HDR_KEY_CTL_SLOT.of w) .empty = .enrolled s.keyInput ∧
        ∀ j, j ≠ Reg.HDR_KEY_CTL_SLOT.of w → t.keys.getD j .empty = s.keys.getD j .empty)) ∧
    (s.keys.getD (Reg.HDR_KEY_CTL_SLOT.of w) .empty ≠ .empty →
      Completes (.enrol mOut w) s (fun t => t.keys = s.keys ∧ t.rf 0 Reg.HDR_KEY_CTL_REFUSED = 1)) ∧
    Completes (.revoke mOut w) s (fun t => (∃ d, t.keys.getD (Reg.HDR_KEY_CTL_SLOT.of w) .empty = .revoked d) ∧
      ∀ j, j ≠ Reg.HDR_KEY_CTL_SLOT.of w → t.keys.getD j .empty = s.keys.getD j .empty) ∧
    (m ≠ mOut → Completes (.enrol m w) s (fun t => t.keys = s.keys ∧ t.rf 0 Reg.GLB_ERR_CODE = codeWord 'G' 0x0011) ∧
      Completes (.revoke m w) s (fun t => t.keys = s.keys ∧ t.rf 0 Reg.GLB_ERR_CODE = codeWord 'G' 0x0011) ∧
      Completes (.orDataAppend m w) s (fun t => t.hdr = s.hdr)) ∧
    (s.hdr.orBuf.length + 4 ≤ 16777216 → Completes (.orDataAppend mOut w) s (fun t =>
      t.hdr.orBuf = s.hdr.orBuf ++ [w.toNat % 256, w.toNat / 256 % 256, w.toNat / 65536 % 256, w.toNat / 16777216].map (BitVec.ofNat 8) ∧
      t.rf 0 Reg.HDR_OR_COUNT_BYTES = s.hdr.orBuf.length + 4)) ∧
    Completes (.orBufferClear m w) s (fun t => t.hdr = { s.hdr with orBuf := [] } ∧ t.rf 0 Reg.HDR_OR_COUNT_BYTES = 0)

/-- R77, R78. A pending patch whose instant is reached (of kind 0 the web has come to it, of kind 1 its trigger number has been given, of kind 2 its
time has come, of kind 3 at once) starts to drain its carriage's chain up to its first grid line at or beyond the MD of the instant, and the
carriage's ING no longer shows RUNNING; once drained the patch counts among those applied and the directory is published under a generation that is
never 0; once ready it is over: PHASE 0, no patch carriage, DONE, and the carriage's ING shows RUNNING again. The steps run in this order only. -/
def Obligations.CarriagePatchesApplyInOrder : Prop :=
  ∀ (s : State) (p : Patch), s.hdr.patch = some p →
    (p.step = .pending → s.phase = 5 → s.hasEng .ING p.image.hdr.patchCarriage = true →
      (p.kind = 0 ∧ p.instant ≤ s.webNm.toNat) ∨ (p.kind = 1 ∧ p.instant ≤ (s.ingOf p.image.hdr.patchCarriage).next) ∨
        (p.kind = 2 ∧ p.instant ≤ s.now) ∨ p.kind = 3 → Completes .patchApplyInstant s (fun t =>
      t.rf (s.eng .ING p.image.hdr.patchCarriage) Reg.ING_STATUS_RUNNING = 0 ∧
      ∃ n top, t.hdr = { s.hdr with patch := some { p with step := .draining, upTo := n, top := top, past := 0 } } ∧
        s.patchMd p ≤ (n : Int) * s.gridMd ∧ (0 < n → ((n : Int) - 1) * s.gridMd < s.patchMd p))) ∧
    (p.step = .draining → Completes .patchChainDrained s (fun t =>
      t.hdr.patch = some { p with step := .drained } ∧ p.image ∈ t.hdr.patches ∧ t.rf 0 Reg.HDR_GEN_GEN ≠ 0)) ∧
    (p.step = .drained → s.hasEng .ING p.image.hdr.patchCarriage = true → Completes .patchChainReady s (fun t =>
      t.hdr = { s.hdr with patch := none } ∧ t.phase = 0 ∧ t.rf 0 Reg.HDR_STATUS_PATCH_CARRIAGE = 0xFF ∧ t.rf 0 Reg.HDR_STATUS_DONE = 1 ∧
      t.rf (s.eng .ING p.image.hdr.patchCarriage) Reg.ING_STATUS_RUNNING = 1)) ∧
    (p.step ≠ .draining → Completes .patchChainDrained s (fun t => t = s)) ∧
    (p.step ≠ .drained → Completes .patchChainReady s (fun t => t = s))

/-- R97, R102. A lane trains step by step: PLL lock leads to step 2 and brings an Ethernet transmitter up, CDR lock leads to step 3 and starts
discovery on a CXP connection with its master lane, and a framed Ethernet lane, or a Voxhus lane that has the peer's lock report, comes up if the
eye reaches the accepted limit (with L-0030 below the marginal one) and otherwise trains again with L-0001; so does a lane not up after 100 ms. A
lock report brings a Voxhus transmitter, and a receiver that waits for it, up. -/
def Obligations.LanesTrainStepByStep : Prop :=
  ∀ (s : State) (l eye : Nat), s.rf (laneInst l) Reg.LAN_STATUS_RX_STATE = 3 →
    (s.rf (laneInst l) Reg.LAN_STATUS_TRAIN_STEP = 1 → s.rf 0 Reg.CLK_LOCK_LANEREF = 1 → (s.lane l).relock = false →
      Completes (.lanePllLocked l) s (fun t => t.rf (laneInst l) Reg.LAN_STATUS_PLL_LOCK = 1 ∧
        t.rf (laneInst l) Reg.LAN_STATUS_TRAIN_STEP = 2 ∧
        (s.isEth l = true → s.txTarget l = 4 → s.rf (laneInst l) Reg.LAN_STATUS_TX_STATE ≠ 5 →
          t.rf (laneInst l) Reg.LAN_STATUS_TX_STATE = 4))) ∧
    (s.rf (laneInst l) Reg.LAN_STATUS_TRAIN_STEP = 2 → (s.lane l).stuck = false →
      Completes (.laneCdrLocked l) s (fun t => t.rf (laneInst l) Reg.LAN_STATUS_SIGNAL = 1 ∧
        t.rf (laneInst l) Reg.LAN_STATUS_TRAIN_STEP = 3 ∧
        (s.isCxp l = true → (s.conn (s.rf (laneInst l) Reg.LAN_CFG_CONNECTION)).disc = 0 →
          (s.lanesOfConn (s.rf (laneInst l) Reg.LAN_CFG_CONNECTION)).headD l = l →
          (t.conn (s.rf (laneInst l) Reg.LAN_CFG_CONNECTION)).disc = 1))) ∧
    (s.rf (laneInst l) Reg.LAN_STATUS_TRAIN_STEP = 3 → (s.lane l).stuck = false →
      (s.isCxp l = true → (s.conn (s.rf (laneInst l) Reg.LAN_CFG_CONNECTION)).disc = 2) →
      (s.isVox l = true → 2 ≤ (s.lane l).good ∧ (s.lane l).relock = false ∧ (s.lane l).peerLocked = true) →
      ((if s.isVox l then 18 else 16) ≤ eye → eye < 64 →
        Completes (.laneFramingDone l eye) s (fun t => t.rf (laneInst l) Reg.LAN_STATUS_RX_STATE = 4 ∧
          t.rf (laneInst l) Reg.LAN_STATUS_FRAMED = 1 ∧ t.rf (laneInst l) Reg.LAN_EYE_WIDTH = eye ∧ t.rf (laneInst l) Reg.LAN_EVENT_UP = 1 ∧
          (eye < (if s.isVox l then 24 else 20) → t.rf (laneInst l) Reg.LAN_ERR_CODE = codeWord 'L' 0x0030))) ∧
      (eye < (if s.isVox l then 18 else 16) → s.rxTarget l = 4 →
        Completes (.laneFramingDone l eye) s (fun t => t.rf (laneInst l) Reg.LAN_STATUS_RX_STATE = 3 ∧
          t.rf (laneInst l) Reg.LAN_ERR_CODE = codeWord 'L' 0x0001 ∧ (t.lane l).since = some s.now))) ∧
    (∀ b, (s.lane l).since = some b → b + 100000000 ≤ s.now → (s.lane l).stuck = false → s.rxTarget l = 4 →
      (s.isCxp l = true → s.rf (laneInst l) Reg.LAN_STATUS_TRAIN_STEP < 3) →
      Completes (.laneTrainTimeout l) s (fun t => t.rf (laneInst l) Reg.LAN_ERR_CODE = codeWord 'L' 0x0001 ∧
        t.rf (laneInst l) Reg.LAN_EVENT_ERR = 1 ∧ t.rf (laneInst l) Reg.LAN_STATUS_RX_STATE = 3 ∧
        t.rf (laneInst l) Reg.LAN_STATUS_TRAIN_STEP = (if s.rf (laneInst l) Reg.LAN_STATUS_PLL_LOCK = 1 then 2 else 1) ∧
        (t.lane l).since = some s.now)) ∧
    (∀ w bits, w < 2 ^ 64 → w % 16 = 4 → w / 256 % 256 = 0x20 → s.brings l [w] bits → s.txTarget l = 4 →
      s.rf (laneInst l) Reg.LAN_STATUS_TX_STATE = 3 → s.rf (laneInst l) Reg.LAN_STATUS_TRAIN_STEP = 4 → 18 ≤ (s.lane l).eye →
      Completes (.trainingLockReport l bits) s (fun t =>
        t.rf (laneInst l) Reg.LAN_STATUS_TX_STATE = 4 ∧ (t.lane l).peerLocked = true ∧ t.rf (laneInst l) Reg.LAN_STATUS_RX_STATE = 4))

/-- R98, R103, R105. A lane that loses signal or block lock, or is told to retrain, goes down and trains again, with its L-code where it lost
something; LAN_PWR moves each direction of a lane that is up to the state it asks for; a sleeping receiver with WAKE_ON_SIGNAL wakes on signal; a
Voxhus sleep request is acknowledged and puts this part's transmitter to sleep where it names it, and else, like the acknowledgement of this part's
own request, lets the peer's transmitter sleep; a wake word wakes the receiver that followed the peer to sleep, or this part's transmitter where it
names it. -/
def Obligations.LanesDropSleepAndWake : Prop :=
  ∀ (s : State) (m l : Nat) (w : Word), s.rf (laneInst l) Reg.LAN_CFG_USE ≠ 5 →
    (s.laneRxUp l = true → s.rxTarget l = 4 → s.rf (laneInst l) Reg.LAN_EQ_PENDING = 0 →
      ((s.lane l).peerAsleep = false → Completes (.laneSignalLoss l) s (fun t =>
        t.rf (laneInst l) Reg.LAN_STATUS_RX_STATE = 3 ∧ t.rf (laneInst l) Reg.LAN_STATUS_SIGNAL = 0 ∧
        t.rf (laneInst l) Reg.LAN_ERR_CODE = codeWord 'L' 0x0010 ∧ t.rf (laneInst l) Reg.LAN_EVENT_DOWN = 1 ∧
        t.rf (laneInst l) Reg.LAN_FRAMING_RETRAINS = Nat.min 255 (s.rf (laneInst l) Reg.LAN_FRAMING_RETRAINS + 1) ∧
        (t.lane l).since = some s.now)) ∧
      (s.isEth l = true → Completes (.ethBlockLockLoss l) s (fun t =>
        t.rf (laneInst l) Reg.LAN_STATUS_RX_STATE = 3 ∧ t.rf (laneInst l) Reg.LAN_ERR_CODE = codeWord 'L' 0x0040)) ∧
      (Reaches s .LAN (laneInst l) → Reg.LAN_CTL_CLEAR_COUNTS.of w = 0 → Reg.LAN_CTL_RUN_WWT.of w = 0 →
        Completes (.laneRetrain m w l) s (fun t => t.rf (laneInst l) Reg.LAN_STATUS_RX_STATE = 3 ∧
          t.rf (laneInst l) Reg.LAN_STATUS_TRAIN_STEP = (if s.rf (laneInst l) Reg.LAN_STATUS_PLL_LOCK = 1 then 2 else 1) ∧
          t.rf (laneInst l) Reg.LAN_FRAMING_RETRAINS = Nat.min 255 (s.rf (laneInst l) Reg.LAN_FRAMING_RETRAINS + 1)))) ∧
    (s.rf (laneInst l) Reg.LAN_STATUS_RX_STATE = 1 ∨ s.rf (laneInst l) Reg.LAN_STATUS_RX_STATE = 2 → s.running = true →
      (s.lane l).trained = true →
      (s.rf (laneInst l) Reg.LAN_PWR_WAKE_ON_SIGNAL = 1 → Completes (.laneWakeOnSignal l) s (fun t =>
        t.rf (laneInst l) Reg.LAN_STATUS_RX_STATE = 3 ∧ t.rf (laneInst l) Reg.LAN_STATUS_SIGNAL = 1)) ∧
      (s.isVox l = true → s.rxTarget l = 4 → (s.lane l).peerAsleep = true → ∀ bits, Completes (.voxhusWake l bits) s (fun t =>
        t.rf (laneInst l) Reg.LAN_STATUS_RX_STATE = 3 ∧ (t.lane l).peerAsleep = false))) ∧
    (Reaches s .LAN (laneInst l) → s.running = true → s.laneDir l 0 = true → s.laneDir l 1 = true → s.inPrbs l = false → (s.lane l).part = none →
      s.rf (laneInst l) Reg.LAN_STATUS_RX_STATE = 4 → s.rf (laneInst l) Reg.LAN_STATUS_TX_STATE = 4 →
      Completes (.lanePowerRequest m w l) s (fun t =>
        t.rf (laneInst l) Reg.LAN_STATUS_RX_STATE = [4, 2, 1, 0].getD (Reg.LAN_PWR_RX_REQ.of w) 0 ∧
        t.rf (laneInst l) Reg.LAN_STATUS_TX_STATE = [4, if s.isCxp l then 2 else 4, 1, 0].getD (Reg.LAN_PWR_TX_REQ.of w) 0)) ∧
    (∀ x dir bits, x = 4 + 256 * 1 + 65536 * dir → dir < 256 → s.brings l [x] bits → s.laneRxUp l = true → s.laneTxUp l = true →
      Completes (.voxhusSleepRequest l bits) s (fun t => ⟨.voxhusLink, l, [4 + 256 * 2 + 65536 * dir]⟩ ∈ t.egress ∧
        t.rf (laneInst l) Reg.LAN_STATUS_TX_STATE = (if dir = 1 then 1 else 4) ∧
        (t.lane l).peerAsleep = ((s.lane l).peerAsleep || dir != 1))) ∧
    (∀ bits, s.brings l [4 + 256 * 2 + 65536] bits → s.laneRxUp l = true →
      Completes (.voxhusSleepAck l bits) s (fun t => (t.lane l).peerAsleep = true)) ∧
    (∀ bits, s.brings l [4 + 256 * 3 + 65536] bits → s.laneRxUp l = true → s.rf (laneInst l) Reg.LAN_STATUS_TX_STATE = 1 → s.txTarget l = 4 →
      s.running = true → Completes (.voxhusWake l bits) s (fun t =>
        t.rf (laneInst l) Reg.LAN_STATUS_TX_STATE = if (s.lane l).peerLocked then 4 else 3))

/-- R99, R100, R101. SET_GO makes the written code pending; a pending code becomes the data slice's at the next switch point only. A LANE run whose
two measurements agree for every measured lane gives each lane the second measurement's widest code, the longest run of error-free positions among
64 of its 16 codes: pending if it differs from the data slice's, else its eye width is shown. Where one measured lane's two results disagree, or a
measurement lacks a lane, no lane's registers change (that it is so for every lane of the coach is the model's own choice, log 75). R99, R106, R107,
R442. CLEAR_COUNTS zeroes every counter of the lane's window; RUN_WWT makes a LANE run of the lane's coach due where one is in progress, and else
starts it where runs may start; a write of LAN_PRBS_CTL puts both directions where it turns them on into the PRBS state, and the checker, while on,
counts as R107 says. -/
def Obligations.LaneCodesCountersAndTestsFollowTheirCommands : Prop :=
  (∀ (s : State) (m l : Nat) (w : Word),
    (Reaches s .LAN (laneInst l) → Completes (.laneEqSetGo m w l) s (fun t =>
      t.rf (laneInst l) Reg.LAN_EQ_NEXT = Reg.LAN_EQ_SET.of w ∧ t.rf (laneInst l) Reg.LAN_EQ_PENDING = 1 ∧
      t.rf (laneInst l) Reg.LAN_EQ_CODE = s.rf (laneInst l) Reg.LAN_EQ_CODE)) ∧
    (s.laneRxUp l = true →
      (s.rf (laneInst l) Reg.LAN_EQ_PENDING = 1 → Completes (.laneEqSwitch l) s (fun t =>
        t.rf (laneInst l) Reg.LAN_EQ_CODE = s.rf (laneInst l) Reg.LAN_EQ_NEXT % 16 ∧ t.rf (laneInst l) Reg.LAN_EQ_PENDING = 0 ∧
        (s.rf (laneInst l) Reg.LAN_EQ_CODE ≠ s.rf (laneInst l) Reg.LAN_EQ_NEXT → t.rf (laneInst l) Reg.LAN_EVENT_EQ_SWITCH = 1))) ∧
      (s.rf (laneInst l) Reg.LAN_EQ_PENDING = 0 → Completes (.laneEqSwitch l) s (fun t => t = s))) ∧
    (∀ (c : Nat) (first second : List (List Nat)), c < 8 → (s.wwtAt 0 c 0).running = true →
      ((∀ k, k < (s.lanesOfRun c).length → (EyePair.mk 0 (widestEye (first.getD k [])).1 (widestEye (first.getD k [])).2
          (widestEye (second.getD k [])).1 (widestEye (second.getD k [])).2).agrees = true) →
        (s.lanesOfRun c).length ≤ first.length → (s.lanesOfRun c).length ≤ second.length →
        Completes (.laneRunComplete c first second) s (fun t => ∀ k, k < (s.lanesOfRun c).length →
          (let i := laneInst ((s.lanesOfRun c).getD k 0)
           let b := widestEye (second.getD k [])
           t.rf i Reg.LAN_EQ_CODE = s.rf i Reg.LAN_EQ_CODE ∧
           (b.1 ≠ s.rf i Reg.LAN_EQ_CODE → t.rf i Reg.LAN_EQ_NEXT = b.1 ∧ t.rf i Reg.LAN_EQ_PENDING = 1) ∧
           (b.1 = s.rf i Reg.LAN_EQ_CODE → t.rf i Reg.LAN_EQ_PENDING = 0 ∧ t.rf i Reg.LAN_EYE_WIDTH = Nat.min 63 b.2)))) ∧
      ((∃ k, k < (s.lanesOfRun c).length ∧ (EyePair.mk 0 (widestEye (first.getD k [])).1 (widestEye (first.getD k [])).2
          (widestEye (second.getD k [])).1 (widestEye (second.getD k [])).2).agrees = false) ∨ first.length < (s.lanesOfRun c).length ∨
          second.length < (s.lanesOfRun c).length →
        Completes (.laneRunComplete c first second) s (fun t => ∀ i f, f.blk = .LAN → t.rf i f = s.rf i f)))) ∧
  (∀ (s : State) (m l : Nat) (w : Word) (bits : List Bool), Reaches s .LAN (laneInst l) →
    (Reg.LAN_CTL_RETRAIN.of w = 0 → Completes (.laneClearCounts m w l) s (fun t => ∀ f ∈ [Reg.LAN_CORR_COUNT, Reg.LAN_UNCORR_COUNT,
      Reg.LAN_FRAMING_STUFF, Reg.LAN_FRAMING_MARKER, Reg.LAN_FRAMING_HEADER, Reg.LAN_FRAMING_RETRAINS, Reg.LAN_PRBS_ERR_ERRORS,
      Reg.LAN_PRBS_BITS_MBITS, Reg.LAN_EVENT_TRIG_DROP_COUNT, Reg.LAN_EYE_RUNS] ++ (List.range 16).map (fun v => Reg.LAN_VC_SEQ_ERR.sh (4 * v)),
      t.rf (laneInst l) f = 0)) ∧
    (Reg.LAN_CTL_RETRAIN.of w = 0 → Reg.LAN_CTL_CLEAR_COUNTS.of w = 0 → l / 16 < s.hw.coaches → (s.wwtAt 0 (l / 16) 0).running = true →
      Completes (.laneRunWwt m w l) s (fun t => (t.wwtAt 0 (l / 16) 0).due = true ∧ (t.wwtAt 0 (l / 16) 0).running = true)) ∧
    (Reg.LAN_CTL_RETRAIN.of w = 0 → Reg.LAN_CTL_CLEAR_COUNTS.of w = 0 → l / 16 < s.hw.coaches → (s.wwtAt 0 (l / 16) 0).running = false →
      s.wwtMayRun 0 = true →
      Completes (.laneRunWwt m w l) s (fun t => (t.wwtAt 0 (l / 16) 0).running = true ∧ (t.wwtAt 0 (l / 16) 0).started = s.now)) ∧
    (s.running = true → Reg.LAN_PRBS_CTL_TX_ON.of w = 1 → Reg.LAN_PRBS_CTL_RX_ON.of w = 1 →
      Completes (.lanePrbsControl m w l bits) s (fun t =>
        t.rf (laneInst l) Reg.LAN_STATUS_TX_STATE = 5 ∧ t.rf (laneInst l) Reg.LAN_STATUS_RX_STATE = 5 ∧
        t.rf (laneInst l) Reg.LAN_PRBS_CTL_PATTERN = Reg.LAN_PRBS_CTL_PATTERN.of w)) ∧
    (∀ p, p = bits.foldl (Prbs.step (s.rf (laneInst l) Reg.LAN_PRBS_CTL_PATTERN)) (s.lane l).prbs →
      s.rf (laneInst l) Reg.LAN_STATUS_RX_STATE = 5 → Completes (.lanePrbsControl m w l bits) s (fun t =>
        t.rf (laneInst l) Reg.LAN_PRBS_ERR_ERRORS = Nat.min 4294967295 p.errors ∧
        t.rf (laneInst l) Reg.LAN_PRBS_BITS_MBITS = Nat.min 4294967295 (p.bits / 2 ^ 20))))

/-- R81, R82. Discovery that ends with the camera's answer configures a connection whose record agrees: the speed and lane count go to the camera,
and every lane shows speed, uplink and which is the master. An answer that disagrees, or none within DISC_TIMEOUT, abandons it with L-0003 or L-0002
on every lane, each down until a retrain. R81, R83. On an up CXP lane a stream packet goes to the parser of the carriage whose STREAM it carries and
its code errors are counted, a heartbeat logs the device time beside the Timetable's, and a test packet and its errors are counted. On an up
Ethernet lane a frame with a bad FCS counts one in LAN_UNCORR, beside the codewords that the FEC in use could not correct, and an ARP request for
LAN_IPV4 is answered; more than 64 such RS-FEC codewords at once retrain the lane with L-0041. -/
def Obligations.CxpConnectionsAndEthernetFramesAreTaken : Prop :=
  (∀ (s : State) (c speed count uplink : Nat) (eyes : List Nat), (s.conn c).disc = 1 →
    ((speed ≠ s.rf (laneInst ((s.lanesOfConn c).headD 0)) Reg.LAN_CFG_RATE ∨ count ≠ (s.lanesOfConn c).length) →
      Completes (.cxpDiscovery c speed count uplink eyes) s (fun t => (t.conn c).disc = 3 ∧ ∀ l ∈ s.lanesOfConn c,
        (t.lane l).stuck = true ∧ t.rf (laneInst l) Reg.LAN_ERR_CODE = codeWord 'L' 0x0003 ∧ t.rf (laneInst l) Reg.LAN_EVENT_ERR = 1)) ∧
    (speed = s.rf (laneInst ((s.lanesOfConn c).headD 0)) Reg.LAN_CFG_RATE → count = (s.lanesOfConn c).length → speed < 16 → uplink < 4 →
      Completes (.cxpDiscovery c speed count uplink eyes) s (fun t => (⟨.cxpControl, c, [speed, count]⟩ : Egress) ∈ t.egress ∧
        ∀ l ∈ s.lanesOfConn c, t.rf (laneInst l) Reg.LAN_CXP_SPEED = speed ∧ t.rf (laneInst l) Reg.LAN_CXP_UPLINK = uplink ∧
          t.rf (laneInst l) Reg.LAN_CXP_MASTER = (if s.rf (laneInst l) Reg.LAN_CFG_INDEX = 0 then 1 else 0))) ∧
    ((s.conn c).discSince + 1000000 * s.rf (laneInst ((s.lanesOfConn c).headD 0)) Reg.LAN_CXP_DISC_TIMEOUT ≤ s.now →
      Completes (.cxpDiscoveryTimeout c) s (fun t => (t.conn c).disc = 3 ∧ ∀ l ∈ s.lanesOfConn c,
        (t.lane l).stuck = true ∧ t.rf (laneInst l) Reg.LAN_ERR_CODE = codeWord 'L' 0x0002 ∧ t.rf (laneInst l) Reg.LAN_EVENT_ERR = 1))) ∧
  (∀ (s : State) (l g stream errors time corr unc : Nat) (start ending last : Bool) (words poison : List Nat) (frame : List Byte),
    s.laneRxUp l = true →
    (s.rf (laneInst l) Reg.LAN_CFG_MODE = 1 →
      (start = true → g ∈ s.carsOfConn (s.rf (laneInst l) Reg.LAN_CFG_CONNECTION) → s.rf (s.eng .ING g) Reg.ING_STREAM_STREAM = stream →
        Completes (.cxpStreamPacket l stream start ending last words poison errors) s (fun t =>
          (t.ingOf g).rx = (s.ingOf g).rx ++ [⟨s.now, start, ending, last, 0, 32, words, poison⟩] ∧
          t.rf (laneInst l) Reg.LAN_CORR_COUNT = Nat.min 4294967295 (s.rf (laneInst l) Reg.LAN_CORR_COUNT + errors))) ∧
      Completes (.cxpHeartbeat l time) s (fun t => (t.lane l).beat = some (time, s.now)) ∧
      Completes (.cxpConnectionTest l errors) s (fun t => (t.lane l).tests = (s.lane l).tests + 1 ∧
        t.rf (laneInst l) Reg.LAN_FRAMING_MARKER = Nat.min 255 (s.rf (laneInst l) Reg.LAN_FRAMING_MARKER + errors) ∧
        t.rf (laneInst l) Reg.LAN_FRAMING_HEADER = Nat.min 255 (((s.lane l).tests + 1) / 65536))) ∧
    (s.isEth l = true → (s.lane l).fec = [] → (if (s.lane l).fecMode = 2 then unc else 0) ≤ 64 →
      (∀ fcs, fcs < 2 ^ 32 → fcs ≠ crc32 frame → Completes (.ethFrameReceive l (frame ++ toBytes 4 fcs) corr unc) s (fun t =>
        t.rf (laneInst l) Reg.LAN_UNCORR_COUNT = Nat.min 4294967295 (s.rf (laneInst l) Reg.LAN_UNCORR_COUNT +
          ((if (s.lane l).fecMode = 0 then 0 else unc) + 1)))) ∧
      (60 ≤ frame.length → frame.length ≤ 9212 → beAt frame 12 2 = 0x0806 → beAt (frame.drop 14) 6 2 = 1 →
        s.rf (laneInst l) Reg.LAN_IPV4_ADDR ≠ 0 → beAt (frame.drop 14) 24 4 = s.rf (laneInst l) Reg.LAN_IPV4_ADDR → s.laneTxUp l = true →
        Completes (.ethFrameReceive l (withFcs frame) corr unc) s (fun t =>
          ∃ body pad, t.egress = s.egress ++ [⟨.ethFrame, l, (withFcs (body ++ List.replicate pad 0)).map (fun b => b.toNat)⟩] ∧
            body = s.arpAnswer l (frame.drop 14) ∧ body.length + pad = Nat.max 60 body.length))) ∧
    (s.isEth l = true → (s.lane l).fec = [] → (s.lane l).fecMode = 2 → 64 < unc → s.rxTarget l = 4 → s.rf (laneInst l) Reg.LAN_CFG_USE ≠ 5 →
      s.rf (laneInst l) Reg.LAN_EQ_PENDING = 0 → Completes (.ethFrameReceive l frame corr unc) s (fun t =>
        t.rf (laneInst l) Reg.LAN_STATUS_RX_STATE = 3 ∧ t.rf (laneInst l) Reg.LAN_ERR_CODE = codeWord 'L' 0x0041)))

/-- R84, R85, R86. On a lane that nothing is under way on, the serial bits of words (Felloe-encoded, scrambled and stuffed) give those words back,
and leave the scrambler and the run as sending them does. R87, R88, R89. A marker whose SYNC and CHECK are right ends a loss of words and gives the
receiver its scrambler state; a bad one is counted, and the third in a row on an up lane of a camera connection starts training again with L-0011.
The transmitter's marker carries its scrambler state. A control word of TYPE 0x5 to 0xF is discarded and counted; a keep-alive changes no register
and sends nothing. R89, R90, R93, R94, R95. A credit word gives its VC the TOTAL it carries; a credit word to the peer grants the units used and the
least share again; a packet counts its units, and a line data packet in SEQUENCE reaches the parser whose STREAM its VC is; one past its credit sets
L-0014, and is dropped where the lane buffer cannot hold it; a control-position word that cannot be corrected counts one header and one
uncorrectable word. -/
def Obligations.VoxhusMarkersKeepLockAndPacketsSpendCredits : Prop :=
  (∀ (r : EqualRun) (x : Nat) (ws : List Nat), r.len < 15 → (∀ w ∈ ws, w < 2 ^ 64) →
    ∀ u, u = unstuff r 0 (sendWords r x ws) → u.2.1 = [] ∧ u.1.length = 80 * ws.length ∧
      bitWords ws.length (scrambleBits x u.1) = ws.map (fun w => felloe w false)) ∧
  (∀ (s : State) (l w remain : Nat) (bits : List Bool), s.rf (laneInst l) Reg.LAN_CFG_MODE = 2 → w < 2 ^ 80 → (s.lane l).run.len < 15 →
    bits = stuff (s.lane l).run (wordBits w) →
    (s.rf (laneInst l) Reg.LAN_STATUS_RX_STATE = 3 ∨ s.laneRxUp l = true →
      (markerValid w = true → Completes (.voxhusMarkerReceive l bits) s (fun t =>
        (t.lane l).scramble = w / 2 ^ 32 % 2 ^ 23 ∧ (t.lane l).good = (s.lane l).good + 1 ∧ (t.lane l).bad = 0 ∧ (t.lane l).hunting = false ∧
        t.regs = s.regs)) ∧
      (markerValid w = false → (s.lane l).bad < 2 → Completes (.voxhusMarkerReceive l bits) s (fun t =>
        t.rf (laneInst l) Reg.LAN_FRAMING_MARKER = Nat.min 255 (s.rf (laneInst l) Reg.LAN_FRAMING_MARKER + 1) ∧
        (t.lane l).bad = (s.lane l).bad + 1 ∧ (t.lane l).good = 0 ∧ (t.lane l).scramble = (s.lane l).scramble)) ∧
      (markerValid w = false → (s.lane l).bad = 2 → s.laneRxUp l = true → s.rf (laneInst l) Reg.LAN_CFG_USE = 1 →
        s.rxTarget l = 4 → s.rf (laneInst l) Reg.LAN_EQ_PENDING = 0 → Completes (.voxhusMarkerReceive l bits) s (fun t =>
        t.rf (laneInst l) Reg.LAN_ERR_CODE = codeWord 'L' 0x0011 ∧ t.rf (laneInst l) Reg.LAN_STATUS_RX_STATE = 3))) ∧
    (s.rf (laneInst l) Reg.LAN_STATUS_TX_STATE = 4 → Completes (.voxhusMarkerSend l remain) s (fun t =>
      (t.lane l).txState = scrambleAfter 655360 (s.lane l).txState ∧
      t.egress = s.egress ++ [⟨.voxhusMarker, l, [markerBits (t.lane l).txState (s.rf (laneInst l) Reg.LAN_CFG_INDEX) l remain]⟩]))) ∧
  (∀ (s : State) (l w v : Nat) (bits : List Bool), w < 2 ^ 64 → s.brings l [w] bits → s.laneRxUp l = true →
    (5 ≤ w % 16 → Completes (.voxhusReservedWord l bits) s (fun t => (t.lane l).dropped = (s.lane l).dropped + 1 ∧ t.regs = s.regs)) ∧
    (w % 16 = 4 → w / 256 % 256 = 0x10 → Completes (.voxhusKeepAlive l bits) s (fun t => t.regs = s.regs ∧ t.egress = s.egress)) ∧
    (w % 16 = 2 → Completes (.voxhusCreditWord l bits) s (fun t => (t.vc l (w / 16 % 16)).total = w / 2 ^ 32 % 2 ^ 32)) ∧
    (s.laneTxUp l = true → v < 16 → v ∈ s.mappedVcs l → Completes (.voxhusCreditSend l v) s (fun t =>
      (t.vc l v).granted = Nat.max (s.vc l v).granted ((s.vc l v).used + 34) ∧
      t.egress = s.egress ++ [⟨.voxhusCredit, l, [2 + 16 * v + 2 ^ 32 * ((t.vc l v).granted % 2 ^ 32)]⟩]))) ∧
  (∀ (s : State) (l hdr held v n : Nat) (words : List Nat) (bits : List Bool), hdr < 2 ^ 64 → (∀ w ∈ words, w < 2 ^ 64) →
    hdr % 16 = 1 → v = hdr / 16 % 16 → words.length = hdr / 2 ^ 32 % 1024 + 1 → n = ceilDiv (words.length + 1) 64 →
    s.brings l (hdr :: words) bits → s.laneRxUp l = true → s.rxTarget l = 4 → s.running = true →
    (s.conn (s.linkKey l)).held = [] → cget (s.conn (s.linkKey l)).expected v = some (hdr / 2 ^ 16 % 65536) →
    ((s.vc l v).used + n ≤ (s.vc l v).granted → s.rf (laneInst l) Reg.LAN_CFG_USE ≠ 1 → Completes (.voxhusPacketReceive l bits held) s (fun t =>
      (t.vc l v).used = (s.vc l v).used + n ∧ (t.lane l).part = none ∧
      cget (t.conn (s.linkKey l)).expected v = some ((hdr / 2 ^ 16 % 65536 + 1) % 65536))) ∧
    (∀ g, (s.vc l v).used + n ≤ (s.vc l v).granted → s.rf (laneInst l) Reg.LAN_CFG_USE = 1 → hdr / 256 % 256 = 1 → hdr.testBit 42 = true →
      g ∈ s.carsOfConn (s.rf (laneInst l) Reg.LAN_CFG_CONNECTION) → s.rf (s.eng .ING g) Reg.ING_STREAM_STREAM = v →
      Completes (.voxhusPacketReceive l bits held) s (fun t => (t.ingOf g).rx = (s.ingOf g).rx ++
        [⟨s.now, true, hdr.testBit 43, hdr.testBit 45, hdr / 2 ^ 48 % 65536, 64, words, []⟩])) ∧
    ((s.vc l v).granted < (s.vc l v).used + n → 192 < held + n → Completes (.voxhusPacketReceive l bits held) s (fun t =>
      t.rf (laneInst l) Reg.LAN_ERR_CODE = codeWord 'L' 0x0014 ∧ t.rf (laneInst l) Reg.LAN_EVENT_CREDIT = 1 ∧
      (t.lane l).dropped = (s.lane l).dropped + 1 ∧ (t.lane l).skip = 0)) ∧
    ((s.lane l).uncorr = [] → (s.lane l).headers = [] → ∀ raw, raw < 2 ^ 80 → (felloeRead raw).1 = .uncorrectable →
      Completes (.voxhusPacketReceive l (stuff (s.lane l).run (scrambleBits (s.lane l).scramble (wordBits raw))) held) s (fun t =>
        (t.lane l).hunting = true ∧
        t.rf (laneInst l) Reg.LAN_FRAMING_HEADER = Nat.min 255 (s.rf (laneInst l) Reg.LAN_FRAMING_HEADER + 1) ∧
        t.rf (laneInst l) Reg.LAN_UNCORR_COUNT = Nat.min 4294967295 (s.rf (laneInst l) Reg.LAN_UNCORR_COUNT + 1))))

/-- R89, R115, R116, R119. A trigger event takes the next trigger number, sent or not; one that comes too soon after the last trigger sent, or while
the transmit direction is not up, is suppressed and counted; any other is sent: a CXP trigger packet with its number, KIND and insertion delay, or a
Voxhus trigger word with the VC, KIND, the low 16 bits of the number and LATE. After an expiry no sent trigger whose window has passed still waits,
but one whose line's first packet is here, and MISSING is set where one was declared. -/
def Obligations.TriggersAreNumberedSentOrSuppressed : Prop :=
  ∀ (s : State) (g : Nat),
    (∀ i rest, (s.ingOf g).due = i :: rest → s.yoke.armed = [] → Completes (.ingTriggerEvent g) s (fun t =>
      (t.ingOf g).next = (s.ingOf g).next + 1 ∧ (t.ingOf g).due = rest ∧
      t.rf (s.eng .ING g) Reg.ING_TRIG_INDEX_LO_INDEX = ((s.ingOf g).next + 1) % 2 ^ 32 ∧
      ((∃ l, (s.ingOf g).lastSent = some l ∧ i < l + s.rf (s.eng .ING g) Reg.ING_TRIG_MIN_NS) ∨ (s.txUp g = false ∧ s.standby = false) →
        t.rf (s.eng .ING g) (Reg.ING_CNT_COUNT.sh 44) = Nat.min 4294967295 (s.rf (s.eng .ING g) (Reg.ING_CNT_COUNT.sh 44) + 1) ∧
        (t.ingOf g).lastSent = (s.ingOf g).lastSent))) ∧
    (∀ i rest n kind late, (s.ingOf g).due = i :: rest → s.yoke.armed = [] →
      (∀ l, (s.ingOf g).lastSent = some l → l + s.rf (s.eng .ING g) Reg.ING_TRIG_MIN_NS ≤ i) → s.txUp g = true → s.suppressed = false →
      n = (s.ingOf g).next → late = ((s.now : Int) - i).toNat →
      kind = (if s.rf (s.eng .ING g) Reg.ING_BLOCK_TRIG_BLOCK_START = 1 ∧ (if s.rf (s.eng .ING g) Reg.ING_BLOCK_BLOCK_LINES = 0 then n = 0
        else n % s.rf (s.eng .ING g) Reg.ING_BLOCK_BLOCK_LINES = 0) then 1 else 0) →
      Completes (.ingTriggerEvent g) s (fun t => (t.ingOf g).next = n + 1 ∧ (t.ingOf g).lastSent = some i ∧
        (⟨.trigger, (s.connLanes g).headD 0, if s.rf (s.eng .ING g) Reg.ING_CFG_PROTOCOL = 1
          then [3 + 16 * (s.rf (s.eng .ING g) Reg.ING_STREAM_STREAM % 16) + 256 * kind + 2 ^ 16 * (n % 65536) + 2 ^ 32 * Nat.min 65535 (100 * late)]
          else [n, kind, late]⟩ : Egress) ∈ t.egress)) ∧
    Completes (.triggerWindowExpire g) s (fun t =>
      (∀ x ∈ (t.ingOf g).trigs, x.sent = true → x.state = .waiting →
        s.now < x.instant + s.rf (s.eng .ING g) Reg.ING_LATE_WINDOW_NS ∨ x.n ∈ s.awaited g) ∧
      ((∃ x ∈ (s.ingOf g).trigs, x.sent = true ∧ x.state = .waiting ∧ x.instant + s.rf (s.eng .ING g) Reg.ING_LATE_WINDOW_NS ≤ s.now ∧
          x.n ∉ s.awaited g) → t.rf (s.eng .ING g) Reg.ING_EVENT_MISSING = 1))

/-- R113, R119, R122, R126. The first packet of a line is judged: a late, unsolicited or shed line is discarded and counted, an accepted one opens
with its trigger. A line's end closes it, and an accepted line becomes the last accepted index. An image header of the connection's protocol begins
an image and checks its format. -/
def Obligations.LinesAreJudgedAndClosed : Prop :=
  ∀ (s : State) (g : Nat),
    (∀ p rest, (s.ingOf g).cur = none → (s.ingOf g).rx = p :: rest → p.start = true →
      (∀ x ∈ (s.ingOf g).trigs, p.came ≤ x.instant + s.rf (s.eng .ING g) Reg.ING_LATE_WINDOW_NS) → Completes (.ingLineDecide g) s (fun t =>
        (t.ingOf g).rx = rest ∧ (t.ingOf g).cur.isSome = true ∧
        (s.judge g (s.matchLine g p.lineLow) ≠ .accepted → t.rf (s.eng .ING g) Reg.ING_STATUS_LINE_OPEN = 1) ∧
        (s.judge g (s.matchLine g p.lineLow) = .late → (∀ o, (t.ingOf g).cur = some o → o.trig = none) ∧
          t.rf (s.eng .ING g) (Reg.ING_CNT_COUNT.sh 8) = Nat.min 4294967295 (s.rf (s.eng .ING g) (Reg.ING_CNT_COUNT.sh 8) + 1) ∧
          t.rf (s.eng .ING g) Reg.ING_EVENT_LATE = 1) ∧
        (s.judge g (s.matchLine g p.lineLow) = .unsolicited → (∀ o, (t.ingOf g).cur = some o → o.trig = none) ∧
          t.rf (s.eng .ING g) (Reg.ING_CNT_COUNT.sh 12) = Nat.min 4294967295 (s.rf (s.eng .ING g) (Reg.ING_CNT_COUNT.sh 12) + 1) ∧
          t.rf (s.eng .ING g) Reg.ING_EVENT_UNSOLICITED = 1) ∧
        (s.judge g (s.matchLine g p.lineLow) = .shed → (∀ o, (t.ingOf g).cur = some o → o.trig = none) ∧
          t.rf (s.eng .ING g) (Reg.ING_CNT_COUNT.sh 0) = Nat.min 4294967295 (s.rf (s.eng .ING g) (Reg.ING_CNT_COUNT.sh 0) + 1) ∧
          t.rf (s.eng .ING g) Reg.ING_EVENT_SHED = 1) ∧
        (s.judge g (s.matchLine g p.lineLow) = .accepted → ∀ o, (t.ingOf g).cur = some o →
          o.trig = s.matchLine g p.lineLow ∧ o.packets = [p]))) ∧
    (∀ o p, (s.ingOf g).cur = some o → o.packets.getLast? = some p → p.ending = true → Completes (.ingLineEnd g) s (fun t =>
      (t.ingOf g).cur = none ∧ t.rf (s.eng .ING g) Reg.ING_STATUS_LINE_OPEN = 0 ∧
      (∀ n x, o.trig = some n → (s.ingOf g).trigs.find? (fun y => o.trig == some y.n) = some x →
        (t.ingOf g).tagged = some (x.md, x.time) ∧ t.rf (s.eng .ING g) Reg.ING_LINE_INDEX_LO_INDEX = n % 2 ^ 32))) ∧
    (s.hasEng .ING g = true → ∀ pfnc lines,
      (s.rf (s.eng .ING g) Reg.ING_CFG_PROTOCOL = 0 → Completes (.cxpImageHeader g pfnc lines) s (fun t =>
        (t.ingOf g).imageOpen = true ∧ (t.ingOf g).imageLine = 0 ∧ (t.ingOf g).announced = lines ∧
        t.rf (s.eng .ING g) Reg.ING_STATUS_FORMAT_BAD = (if s.rf (s.eng .ING g) Reg.ING_PFNC_VALUE ≠ 0 ∧
          s.rf (s.eng .ING g) Reg.ING_PFNC_VALUE ≠ pfnc then 1 else 0))) ∧
      (s.rf (s.eng .ING g) Reg.ING_CFG_PROTOCOL = 1 → Completes (.voxhusLineHeader g pfnc) s (fun t =>
        (t.ingOf g).imageOpen = true ∧ (t.ingOf g).imageLine = 0 ∧
        (s.rf (s.eng .ING g) Reg.ING_PFNC_VALUE ≠ 0 → s.rf (s.eng .ING g) Reg.ING_PFNC_VALUE ≠ pfnc →
          t.rf (s.eng .ING g) Reg.ING_STATUS_FORMAT_BAD = 1 ∧ t.rf (s.eng .ING g) Reg.ING_EVENT_FORMAT = 1) ∧
        (s.rf (s.eng .ING g) Reg.ING_PFNC_VALUE = pfnc → t.rf (s.eng .ING g) Reg.ING_STATUS_FORMAT_BAD = 0))))

/-- R130, R131, R132, R135. A settings change is refused while one runs or with COUNT above 4; on an idle connection its first write leaves with the
next TAG; its last acknowledgement makes a new epoch pending from the present instant on, an error or a timeout makes one that is unconfirmed, with
the failing write and the camera's status. A CXP control response with the TAG outstanding is the answer of the transaction outstanding, one with
another TAG is none. R133, R134, R135. A tunnel transaction is refused while one runs and, for a write to a protected address, with PROTECTED; on an
idle connection any other leaves with the next TAG, and runs until the camera's response ends it with DONE or ERR, or its time ends it with TIMEOUT.
-/
def Obligations.CameraSettingsAndTunnelsEndWithOneStatus : Prop :=
  (∀ (s : State) (m g status : Nat) (w : Word) (data : List Word), s.standby = false →
    (Reaches s .ING (s.eng .ING g) →
      ((s.rf (s.eng .ING g) Reg.ING_CAMSET_STATUS_BUSY = 1 ∨ 4 < Reg.ING_CAMSET_CTL_COUNT.of w) → Completes (.camsetLaunch m w g) s (fun t =>
        t.rf (s.eng .ING g) Reg.ING_CAMSET_STATUS_REFUSED = 1 ∧ t.egress = s.egress)) ∧
      (s.rf (s.eng .ING g) Reg.ING_CAMSET_STATUS_BUSY = 0 → 1 ≤ Reg.ING_CAMSET_CTL_COUNT.of w → Reg.ING_CAMSET_CTL_COUNT.of w ≤ 4 →
        s.wireIdle g → s.suppressed = false → ∀ tag a v, tag = ((s.ingOf g).tag + 1) % 256 →
        a = s.rf (s.eng .ING g) (Reg.ING_CAMSET_ADDR_ADDR.sh 0) → v = s.rf (s.eng .ING g) (Reg.ING_CAMSET_VAL_VALUE.sh 0) →
        Completes (.camsetLaunch m w g) s (fun t =>
          t.rf (s.eng .ING g) Reg.ING_CAMSET_STATUS_BUSY = 1 ∧ (t.ingOf g).wire = 1 ∧ (t.ingOf g).tag = tag ∧
          (s.rf (s.eng .ING g) Reg.ING_CFG_PROTOCOL = 0 → t.egress = s.egress ++ [⟨.cameraWrite, g, [2, tag, 4, a, v]⟩]) ∧
          (s.rf (s.eng .ING g) Reg.ING_CFG_PROTOCOL = 1 → t.requested g [2 + 256 * tag + 65536 * 4 + 2 ^ 32 * a, v])))) ∧
    ((s.ingOf g).wire = 1 →
      ((s.ingOf g).camLeft.length = 1 → Completes (.camsetAck g 0) s (fun t => t.rf (s.eng .ING g) Reg.ING_CAMSET_STATUS_DONE = 1 ∧
        t.rf (s.eng .ING g) Reg.ING_CAMSET_STATUS_BUSY = 0 ∧ t.rf (s.eng .ING g) Reg.ING_EVENT_CAMSET_DONE = 1 ∧
        (t.ingOf g).epochs = (s.ingOf g).epochs ++ [(none, false, s.now)])) ∧
      (status ≠ 0 → status < 256 → Completes (.camsetAck g status) s (fun t => t.rf (s.eng .ING g) Reg.ING_CAMSET_STATUS_ERR = 1 ∧
        t.rf (s.eng .ING g) Reg.ING_CAMSET_STATUS_BUSY = 0 ∧ t.rf (s.eng .ING g) Reg.ING_CAMSET_STATUS_CAM_STATUS = status ∧
        t.rf (s.eng .ING g) Reg.ING_CAMSET_STATUS_TIMED_OUT = 0 ∧
        t.rf (s.eng .ING g) Reg.ING_CAMSET_STATUS_FAILED_WRITE = (s.ingOf g).camIdx % 8 ∧
        (t.ingOf g).epochs = (s.ingOf g).epochs ++ [(none, true, s.now)])) ∧
      ((s.ingOf g).wireSince + 1000000 * s.rf (s.eng .ING g) Reg.ING_CAMSET_CTL_TIMEOUT_MS ≤ s.now → Completes (.camsetTimeout g) s (fun t =>
        t.rf (s.eng .ING g) Reg.ING_CAMSET_STATUS_ERR = 1 ∧ t.rf (s.eng .ING g) Reg.ING_CAMSET_STATUS_TIMED_OUT = 1 ∧
        t.rf (s.eng .ING g) Reg.ING_CAMSET_STATUS_BUSY = 0 ∧ (t.ingOf g).epochs = (s.ingOf g).epochs ++ [(none, true, s.now)]))) ∧
    (s.rf (s.eng .ING g) Reg.ING_CFG_PROTOCOL = 0 → ∀ tag,
      (tag ≠ (s.ingOf g).tag → exec (.cxpControlResponse g tag status data) s = .next s) ∧
      (tag = (s.ingOf g).tag → (s.ingOf g).wire = 1 → (s.ingOf g).camLeft.length = 1 → Completes (.cxpControlResponse g tag 0 data) s (fun t =>
        t.rf (s.eng .ING g) Reg.ING_CAMSET_STATUS_DONE = 1 ∧ t.rf (s.eng .ING g) Reg.ING_CAMSET_STATUS_BUSY = 0)) ∧
      (tag = (s.ingOf g).tag → (s.ingOf g).wire = 1 → Completes (.cxpControlResponse g tag status data) s (fun t =>
        exec (.camsetAck g status) s = .next t)) ∧
      (tag = (s.ingOf g).tag → (s.ingOf g).wire = 2 → Completes (.cxpControlResponse g tag status data) s (fun t =>
        exec (.tunnelResponse g status data) s = .next t)))) ∧
  (∀ (s : State) (m g status : Nat) (w : Word) (data : List Word), s.standby = false →
    (Reaches s .ING (s.eng .ING g) →
      (s.rf (s.eng .ING g) Reg.ING_TUN_STATUS_BUSY = 1 → Completes (.tunnelGo m w g) s (fun t =>
        t.rf (s.eng .ING g) Reg.ING_TUN_STATUS_REFUSED = 1 ∧ t.egress = s.egress)) ∧
      (s.rf (s.eng .ING g) Reg.ING_TUN_STATUS_BUSY = 0 → Reg.ING_TUN_CTL_WRITE.of w = 1 →
        s.tunProtected g (s.rf (s.eng .ING g) Reg.ING_TUN_ADDR_ADDR) (Nat.max 1 (satN 16 (Reg.ING_TUN_CTL_WORDS.of w))) = true →
        Completes (.tunnelGo m w g) s (fun t => t.rf (s.eng .ING g) Reg.ING_TUN_STATUS_PROTECTED = 1 ∧
          t.rf (s.eng .ING g) Reg.ING_TUN_STATUS_BUSY = 0)) ∧
      (∀ tag a n, tag = ((s.ingOf g).tag + 1) % 256 → a = s.rf (s.eng .ING g) Reg.ING_TUN_ADDR_ADDR →
        n = Nat.max 1 (satN 16 (Reg.ING_TUN_CTL_WORDS.of w)) → s.rf (s.eng .ING g) Reg.ING_TUN_STATUS_BUSY = 0 → s.wireIdle g →
        s.suppressed = false →
        (Reg.ING_TUN_CTL_WRITE.of w = 0 → Completes (.tunnelGo m w g) s (fun t =>
          t.rf (s.eng .ING g) Reg.ING_TUN_STATUS_BUSY = 1 ∧ (t.ingOf g).wire = 2 ∧ (t.ingOf g).tag = tag ∧
          (s.rf (s.eng .ING g) Reg.ING_CFG_PROTOCOL = 0 → t.egress = s.egress ++ [⟨.cameraRead, g, [1, tag, 4 * n, a]⟩]) ∧
          (s.rf (s.eng .ING g) Reg.ING_CFG_PROTOCOL = 1 → t.requested g [1 + 256 * tag + 65536 * (4 * n) + 2 ^ 32 * a]))) ∧
        (Reg.ING_TUN_CTL_WRITE.of w = 1 → s.tunProtected g a n = false → s.rf (s.eng .ING g) Reg.ING_CFG_PROTOCOL = 0 →
          Completes (.tunnelGo m w g) s (fun t => t.rf (s.eng .ING g) Reg.ING_TUN_STATUS_BUSY = 1 ∧ (t.ingOf g).wire = 2 ∧
            t.egress = s.egress ++ [⟨.cameraWrite, g, [2, tag, 4 * n, a] ++
              (List.range n).map (fun k => s.rf (s.eng .ING g) (Reg.ING_TUN_DATA_DATA.sh (4 * k)))⟩])))) ∧
    ((s.ingOf g).wire = 2 →
      (status ≠ 0 → status < 256 → Completes (.tunnelResponse g status data) s (fun t => t.rf (s.eng .ING g) Reg.ING_TUN_STATUS_ERR = 1 ∧
        t.rf (s.eng .ING g) Reg.ING_TUN_STATUS_CAM_STATUS = status ∧ t.rf (s.eng .ING g) Reg.ING_TUN_STATUS_BUSY = 0)) ∧
      Completes (.tunnelResponse g 0 data) s (fun t => t.rf (s.eng .ING g) Reg.ING_TUN_STATUS_DONE = 1 ∧
        t.rf (s.eng .ING g) Reg.ING_TUN_STATUS_BUSY = 0 ∧ t.rf (s.eng .ING g) Reg.ING_EVENT_TUN_DONE = 1 ∧
        ((s.ingOf g).tun.write = false → ∀ k, k < (s.ingOf g).tun.words → k < 16 →
          t.rf (s.eng .ING g) (Reg.ING_TUN_DATA_DATA.sh (4 * k)) = (data.getD k 0).toNat)) ∧
      ((s.ingOf g).wireSince + 1000000 * s.rf (s.eng .ING g) Reg.ING_TUN_CTL_TIMEOUT_MS ≤ s.now → Completes (.tunnelTimeout g) s (fun t =>
        t.rf (s.eng .ING g) Reg.ING_TUN_STATUS_TIMEOUT = 1 ∧ t.rf (s.eng .ING g) Reg.ING_TUN_STATUS_BUSY = 0))))

/-- R136. A camera event enters its parser's queue of 16 with its first 64 bytes, or, where the queue is full, is discarded and sets OVERFLOW. The
head event is read in ING_EVT_DATA0 onward, lowest byte first, and POP removes it. -/
def Obligations.CameraEventsQueueUpToSixteen : Prop :=
  ∀ (s : State) (m g : Nat) (w : Word) (l : List Byte) (head : State → Prop),
    head = (fun t => ∀ e rest, (t.ingOf g).events = e :: rest → ∀ k, k < 16 →
      t.rf (s.eng .ING g) (Reg.ING_EVT_DATA_DATA.sh (4 * k)) = leAt e (4 * k) 4) →
    (∀ c, (c = Instr.cxpEventPacket g l ∧ s.rf (s.eng .ING g) Reg.ING_CFG_PROTOCOL = 0) ∨
        (c = Instr.cameraEventReceive g l ∧ s.rf (s.eng .ING g) Reg.ING_CFG_PROTOCOL = 1) → s.hasEng .ING g = true →
      ((s.ingOf g).events.length < 16 → Completes c s (fun t => (t.ingOf g).events = (s.ingOf g).events ++ [l.take 64] ∧ head t)) ∧
      (16 ≤ (s.ingOf g).events.length → Completes c s (fun t => (t.ingOf g).events = (s.ingOf g).events ∧
        t.rf (s.eng .ING g) Reg.ING_EVT_STATUS_OVERFLOW = 1))) ∧
    (Reaches s .ING (s.eng .ING g) → Completes (.cameraEventPop m w g) s (fun t =>
      (t.ingOf g).events = (s.ingOf g).events.drop 1 ∧ head t))

/-- R141, R142. The statistics unit spans and counts the line that follows its open block; a full block closes into the ring, or counts as dropped
where the ring is full. -/
def Obligations.StatisticsBlocksCloseIntoTheRing : Prop :=
  ∀ (s : State) (g : Nat) (b : StaBlock), (s.staOf g).block = some b →
    (∀ k x, s.yoke.armed = [] → (s.staOf g).cut = none →
      s.link g (s.hop g (if s.rf (s.eng .STA g) Reg.STA_CFG_TAP = 0 then .ING else .TRU)) (s.hop g .STA) = some k →
      s.mewHead k = some (.line x) → s.rf (s.eng .STA g) Reg.STA_CTL_ENABLE = 1 → b.epoch = x.tag.epoch →
      x.tag.index = b.first + b.spanned → b.spanned < s.rf (s.eng .STA g) Reg.STA_BLOCK_BLOCK_LINES →
      (∀ e ∈ (s.ingOf g).starts, b.first < e.2.1 → x.tag.index < e.2.1) → Completes (.staLine g) s (fun t => ∃ c, (t.staOf g).block = some c ∧
        c.first = b.first ∧ c.spanned = b.spanned + 1 ∧
        c.counted = (if x.tag.flags.testBit 4 then b.counted else b.counted + 1))) ∧
    (b.spanned = s.rf (s.eng .STA g) Reg.STA_BLOCK_BLOCK_LINES → Completes (.staBlockClose g) s (fun t => (t.staOf g).block = none ∧
      (t.staOf g).number = (s.staOf g).number + 1 ∧ (t.staOf g).next = b.first + b.spanned ∧
      t.rf (s.eng .STA g) Reg.STA_BLOCKS_COUNT = Nat.min 4294967295 (s.rf (s.eng .STA g) Reg.STA_BLOCKS_COUNT + 1) ∧
      (s.rf (s.eng .STA g) Reg.STA_RING_SLOTS_SLOTS = 0 →
        t.rf (s.eng .STA g) Reg.STA_DROPPED_COUNT = Nat.min 4294967295 (s.rf (s.eng .STA g) Reg.STA_DROPPED_COUNT + 1) ∧
        t.rf (s.eng .STA g) Reg.STA_EVENT_DROPPED = 1) ∧
      (s.rf (s.eng .STA g) Reg.STA_RING_SLOTS_SLOTS ≠ 0 →
        (s.rf (s.eng .STA g) Reg.STA_RING_WRITE_SLOT + 1) % s.rf (s.eng .STA g) Reg.STA_RING_SLOTS_SLOTS ≠
          s.rf (s.eng .STA g) Reg.STA_RING_READ_SLOT →
        t.rf (s.eng .STA g) Reg.STA_RING_WRITE_SLOT =
          (s.rf (s.eng .STA g) Reg.STA_RING_WRITE_SLOT + 1) % s.rf (s.eng .STA g) Reg.STA_RING_SLOTS_SLOTS ∧
        t.rf (s.eng .STA g) Reg.STA_EVENT_CLOSED = 1)))

/-- R147. On a quadrature port without a wire fault every accepted transition of (A, B) changes the count, kept modulo the counts per revolution, by
one step: (0,0) to (1,0) to (1,1) to (0,1) to (0,0) is forward and adds 1, the reverse subtracts 1, INVERT swaps the two, and DIR shows which it
was. -/
def Obligations.QuadratureStepsCountOneEach : Prop :=
  ∀ (s : State) (p ra rb : Nat) (a b z : Bool), p < 4 → s.rf 0 (wp Reg.WAY_CFG_MODE p) = 1 → s.rf 0 (wp Reg.WAY_STATUS_WIRE_FAULT p) = 0 →
    ∀ la lb, la = (s.rf 0 (wp Reg.WAY_STATUS_LEVELS p)).testBit 0 → lb = (s.rf 0 (wp Reg.WAY_STATUS_LEVELS p)).testBit 1 →
    ∀ forward backward : Bool,
      forward = decide ((la, lb, a, b) ∈ [(false, false, true, false), (true, false, true, true), (true, true, false, true), (false, true, false, false)]) →
      backward = decide ((a, b, la, lb) ∈ [(false, false, true, false), (true, false, true, true), (true, true, false, true), (false, true, false, false)]) →
      (if s.rf 0 (wp Reg.WAY_CTL_INVERT p) = 0 then forward else backward) = true → Completes (.quadratureStep p a b z ra rb) s (fun t =>
        t.rf 0 (wp Reg.WAY_COUNT_COUNT p) = (s.rf 0 (wp Reg.WAY_COUNT_COUNT p) + 1) % (s.rf 0 (wp Reg.WAY_CPR_CPR_M1 p) + 1) ∧
        t.rf 0 (wp Reg.WAY_STATUS_DIR p) = 0 ∧ t.rf 0 (wp Reg.WAY_STATUS_LEVELS p) = maskOf [a, b, z]) ∧
      (if s.rf 0 (wp Reg.WAY_CTL_INVERT p) = 0 then backward else forward) = true → Completes (.quadratureStep p a b z ra rb) s (fun t =>
        t.rf 0 (wp Reg.WAY_COUNT_COUNT p) = (s.rf 0 (wp Reg.WAY_COUNT_COUNT p) + s.rf 0 (wp Reg.WAY_CPR_CPR_M1 p)) %
          (s.rf 0 (wp Reg.WAY_CPR_CPR_M1 p) + 1) ∧ t.rf 0 (wp Reg.WAY_STATUS_DIR p) = 1 ∧
        t.rf 0 (wp Reg.WAY_STATUS_LEVELS p) = maskOf [a, b, z])

/-- R145, R146, R148, R166. On a quadrature port both levels changing at once leave the count and register a double edge, and one past DE_LIMIT
marks the position uncertain. A wire-disagree fault of a pair that the port uses marks the pair and the position, and clears alone; a pulse that the
filter rejects is counted awake, and asleep it is two raw transitions of its pair, an overspeed where they leave the tally more than 1 ahead. R150,
R151, R152, R156. An index within tolerance, or the first with INDEX_ALIGN, snaps the count to WAY_INDEX_COUNT; any other leaves the count and is a
mismatch, the third in a row making the encoder suspect. An absolute frame is requested only while DAT is high, by the Rein task or by the period
timer where its period is not 0, and a request during a frame waits; a good word ends the run of bad ones and clears the mark of a port that is not
suspect, unless the position is below 0; a bad or late one is counted. -/
def Obligations.EncoderPortsCorrectOrMarkThePosition : Prop :=
  (∀ (s : State) (p k ra rb : Nat) (a b z : Bool), p < 4 →
    (s.rf 0 (wp Reg.WAY_CFG_MODE p) = 1 → s.rf 0 (wp Reg.WAY_STATUS_WIRE_FAULT p) = 0 →
      (a ≠ (s.rf 0 (wp Reg.WAY_STATUS_LEVELS p)).testBit 0 → b ≠ (s.rf 0 (wp Reg.WAY_STATUS_LEVELS p)).testBit 1 →
        Completes (.quadratureStep p a b z ra rb) s (fun t => t.rf 0 (wp Reg.WAY_COUNT_COUNT p) = s.rf 0 (wp Reg.WAY_COUNT_COUNT p) ∧
          t.rf 0 (wp Reg.WAY_DE_TOTAL_COUNT p) = Nat.min 4294967295 (s.rf 0 (wp Reg.WAY_DE_TOTAL_COUNT p) + 1) ∧
          t.rf 0 (wp Reg.WAY_EVENT_DOUBLE_EDGE p) = 1 ∧
          (s.rf 0 (wp Reg.WAY_DE_LIMIT p) < Nat.min 65535 (s.rf 0 (wp Reg.WAY_DE_IN_WINDOW p) + 1) →
            t.rf 0 (wp Reg.WAY_STATUS_UNCERTAIN p) = 1 ∧ t.rf 0 (wp Reg.WAY_EVENT_DE_LIMIT p) = 1)))) ∧
    Completes (.doubleEdgeWindow p) s (fun t => t.rf 0 (wp Reg.WAY_DE_IN_WINDOW p) = 0 ∧
      (s.rf 0 (wp Reg.WAY_DE_LIMIT p) < s.rf 0 (wp Reg.WAY_DE_IN_WINDOW p) → t.rf 0 (wp Reg.WAY_STATUS_UNCERTAIN p) = 1)) ∧
    (s.pairUsed p k = true → (s.rf 0 (wp Reg.WAY_STATUS_WIRE_FAULT p)).testBit k = false → Completes (.wireDisagreeFault p k) s (fun t =>
        t.rf 0 (wp Reg.WAY_STATUS_WIRE_FAULT p) = s.rf 0 (wp Reg.WAY_STATUS_WIRE_FAULT p) + 2 ^ k ∧
        t.rf 0 (wp Reg.WAY_STATUS_UNCERTAIN p) = 1 ∧ t.rf 0 (wp Reg.WAY_EVENT_WIRE_FAULT p) = 1)) ∧
    ((s.rf 0 (wp Reg.WAY_STATUS_WIRE_FAULT p)).testBit k = true → Completes (.wireFaultClear p k) s (fun t =>
      t.rf 0 (wp Reg.WAY_STATUS_WIRE_FAULT p) = s.rf 0 (wp Reg.WAY_STATUS_WIRE_FAULT p) - 2 ^ k ∧
      t.rf 0 (wp Reg.WAY_STATUS_UNCERTAIN p) = s.rf 0 (wp Reg.WAY_STATUS_UNCERTAIN p))) ∧
    (s.pairUsed p k = true → s.asleep = false → Completes (.filterRejectedPulse p k) s (fun t =>
      t.rf 0 (wp Reg.WAY_GLITCH_COUNT p) = Nat.min 4294967295 (s.rf 0 (wp Reg.WAY_GLITCH_COUNT p) + 1))) ∧
    (s.rf 0 (wp Reg.WAY_CFG_MODE p) = 1 → k < 2 → s.asleep = true →
      ∀ e, e = (if k = 0 then (s.port p).tallyA else (s.port p).tallyB) →
      (p < s.way.ports.length → Completes (.filterRejectedPulse p k) s (fun t => t.rf 0 (wp Reg.WAY_GLITCH_COUNT p) = s.rf 0 (wp Reg.WAY_GLITCH_COUNT p) ∧
        (if k = 0 then (t.port p).tallyA else (t.port p).tallyB) = (e.1 + 2, e.2))) ∧
      (e.2 + 1 < e.1 + 2 → Completes (.filterRejectedPulse p k) s (fun t => t.rf 0 (wp Reg.WAY_STATUS_SLEEP_OVERSPEED p) = 1 ∧
        t.rf 0 (wp Reg.WAY_STATUS_UNCERTAIN p) = 1 ∧ t.rf 0 (wp Reg.WAY_EVENT_SLEEP_OVERSPEED p) = 1)))) ∧
  (∀ (s : State) (m p v crc : Nat) (w : Word), p < 4 →
    (s.rf 0 (wp Reg.WAY_CFG_MODE p) = 1 → s.rf 0 (wp Reg.WAY_CTL_INDEX_EN p) = 1 →
      (s.rf 0 (wp Reg.WAY_STATUS_WIRE_FAULT p)).testBit 2 = false →
      ((s.indexD p).natAbs ≤ s.rf 0 (wp Reg.WAY_CFG_INDEX_TOL p) ∨ ((s.port p).indexed = false ∧ s.rf 0 (wp Reg.WAY_CTL_INDEX_ALIGN p) = 1) →
        Completes (.indexEvent p) s (fun t =>
          t.rf 0 (wp Reg.WAY_COUNT_COUNT p) = s.rf 0 (wp Reg.WAY_INDEX_COUNT_COUNT p) % (s.rf 0 (wp Reg.WAY_CPR_CPR_M1 p) + 1) ∧
          t.rf 0 (wp Reg.WAY_INDEX_STAT_SNAPS p) = Nat.min 65535 (s.rf 0 (wp Reg.WAY_INDEX_STAT_SNAPS p) + 1) ∧
          t.rf 0 (wp Reg.WAY_STATUS_MISMATCH_RUN p) = 0 ∧ t.rf 0 (wp Reg.WAY_EVENT_INDEX_SNAP p) = 1)) ∧
      (s.rf 0 (wp Reg.WAY_CFG_INDEX_TOL p) < (s.indexD p).natAbs → s.rf 0 (wp Reg.WAY_CTL_INDEX_ALIGN p) = 0 →
        Completes (.indexEvent p) s (fun t => t.rf 0 (wp Reg.WAY_COUNT_COUNT p) = s.rf 0 (wp Reg.WAY_COUNT_COUNT p) ∧
          t.rf 0 (wp Reg.WAY_INDEX_STAT_MISMATCHES p) = Nat.min 65535 (s.rf 0 (wp Reg.WAY_INDEX_STAT_MISMATCHES p) + 1) ∧
          t.rf 0 (wp Reg.WAY_STATUS_MISMATCH_RUN p) = Nat.min 3 (s.rf 0 (wp Reg.WAY_STATUS_MISMATCH_RUN p) + 1) ∧
          t.rf 0 (wp Reg.WAY_EVENT_INDEX_MISMATCH p) = 1 ∧
          (s.rf 0 (wp Reg.WAY_STATUS_MISMATCH_RUN p) = 2 → t.rf 0 (wp Reg.WAY_STATUS_SUSPECT p) = 1 ∧
            t.rf 0 (wp Reg.WAY_EVENT_SUSPECT p) = 1)))) ∧
    (s.rf 0 (wp Reg.WAY_CFG_MODE p) = 2 → (s.port p).absBusy = false →
      (∀ task : Bool, task = true ∨ s.absPeriod p ≠ 0 →
        (s.datShows p true = true → Completes (.absFrameRequest p task true) s (fun t => t.egress = s.egress ++ [⟨.absFrame, p, []⟩])) ∧
        (s.datShows p false = true → Completes (.absFrameRequest p task false) s (fun t =>
          t.rf 0 (wp Reg.WAY_ABS_ERRS_BUSY p) = Nat.min 255 (s.rf 0 (wp Reg.WAY_ABS_ERRS_BUSY p) + 1) ∧
          t.rf 0 (wp Reg.WAY_EVENT_ABS_FRAME_ERR p) = 1 ∧ t.egress = s.egress))) ∧
      (Reaches s .WAY 0 → (s.rf 0 (wp Reg.WAY_STATUS_LEVELS p)).testBit 0 = true → Completes (.absRequest m p w) s (fun t =>
        t.egress = s.egress ++ [⟨.absFrame, p, []⟩]))) ∧
    ((s.port p).absBusy = true →
      (s.rf 0 (wp Reg.WAY_CFG_MODE p) = 2 → p < s.way.ports.length → ∀ dat : Bool, Completes (.absFrameRequest p true dat) s (fun t =>
        (t.port p).absAgain = true ∧ t.egress = s.egress)) ∧
      (s.absCrcGood p (v % 2 ^ s.rf 0 (wp Reg.WAY_ABS_CFG_BITS p)) crc = true → (s.port p).absAgain = false → s.datShows p true = true →
        s.rf 0 (wp Reg.WAY_STATUS_SUSPECT p) = 0 → Completes (.absFrameComplete p v crc) s (fun t =>
          t.rf 0 (wp Reg.WAY_STATUS_MISMATCH_RUN p) = 0 ∧ t.rf 0 (wp Reg.WAY_STATUS_UNCERTAIN p) = b2n (decide (t.countedPos p < 0)))) ∧
      (s.absCrcGood p (v % 2 ^ s.rf 0 (wp Reg.WAY_ABS_CFG_BITS p)) crc = false → s.datShows p true = true →
        Completes (.absFrameComplete p v crc) s (fun t =>
          t.rf 0 (wp Reg.WAY_ABS_ERRS_CRC p) = Nat.min 255 (s.rf 0 (wp Reg.WAY_ABS_ERRS_CRC p) + 1) ∧
          t.rf 0 (wp Reg.WAY_EVENT_ABS_FRAME_ERR p) = 1)) ∧
      (s.datShows p false = true → Completes (.absFrameTimeout p) s (fun t =>
        t.rf 0 (wp Reg.WAY_ABS_ERRS_TIMEOUT p) = Nat.min 255 (s.rf 0 (wp Reg.WAY_ABS_ERRS_TIMEOUT p) + 1) ∧
        t.rf 0 (wp Reg.WAY_EVENT_ABS_FRAME_ERR p) = 1))))

/-- R156, R157, R159, R160, R161, R165, R167. In Run the position reaching X_next, or the fixed rate's instant, issues one counted event to every
parser that takes it, and X_next rises by one pitch; short of it, outside Run, or a second time in one sample nothing is issued. STOP_MS without an
edge makes the speed invalid. WAY_CMD clears what it names. R428. Travel past WAY_WAKE.COUNTS is a motion wake: asleep it wakes the package, and on
the way to sleep it is remembered. -/
def Obligations.TriggerGeneratorsAndPortCommands : Prop :=
  ∀ (s : State) (m p : Nat) (w : Word), p < 4 →
    (s.rf 0 (wp Reg.WAY_CFG_MODE p) ≠ 0 → s.rf 0 (wp Reg.WAY_CFG_TRIGGER p) = 1 →
      ((s.port p).nextPoint ≤ s.posQ p → s.generating = true → (s.port p).fired ≠ some s.tickNo → Completes (.encoderTrigger p) s (fun t =>
        t.rf64 0 (wp Reg.WAY_TRIG_COUNT_LO_COUNT p) = (s.rf64 0 (wp Reg.WAY_TRIG_COUNT_LO_COUNT p) + 1) % 2 ^ 64 ∧
        (p < s.way.ports.length → (t.port p).nextPoint = (s.port p).nextPoint + s.rf 0 (wp Reg.WAY_TRIG_PITCH_NM p) * nmQ) ∧
        (s.rf 0 Reg.HDR_STATUS_PHASE ≠ 4 → s.suppressed = false → s.pair.liveFrom = none →
          ∀ g ∈ s.listeners p, (t.ingOf g).due = (s.ingOf g).due ++ [(s.now : Int)]))) ∧
      (s.posQ p < (s.port p).nextPoint ∨ s.generating = false ∨ (s.port p).fired = some s.tickNo →
        Completes (.encoderTrigger p) s (fun t => t = s))) ∧
    (s.rf 0 (wp Reg.WAY_CFG_TRIGGER p) = 2 → s.generating = true → (s.port p).nextFixed ≤ (s.tmt.samples : Int) * nmQ →
      Completes (.fixedRateTrigger p) s (fun t =>
        t.rf64 0 (wp Reg.WAY_TRIG_COUNT_LO_COUNT p) = (s.rf64 0 (wp Reg.WAY_TRIG_COUNT_LO_COUNT p) + 1) % 2 ^ 64 ∧
        (s.rf 0 Reg.HDR_STATUS_PHASE ≠ 4 → s.suppressed = false → s.pair.liveFrom = none →
          ∀ g ∈ s.listeners p, (t.ingOf g).due = (s.ingOf g).due ++ [(s.now : Int)]))) ∧
    (s.rf 0 (wp Reg.WAY_CTL_STOP_MS p) * 1000000 ≤ s.sampleNs - s.edgeNs p → Completes (.speedStandstill p) s (fun t =>
      t.rf 0 (wp Reg.WAY_STATUS_SPEED_VALID p) = 0)) ∧
    (Reaches s .WAY 0 →
      ((s.rf 0 (wp Reg.WAY_STATUS_SUSPECT p) = 0 ∨ Reg.WAY_CMD_CLEAR_SUSPECT.of w = 1) → Reg.WAY_CMD_ABS_REQUEST.of w = 0 →
        Completes (.clearUncertain m p w) s (fun t => t.rf 0 (wp Reg.WAY_STATUS_UNCERTAIN p) = 0 ∧
          t.rf 0 (wp Reg.WAY_STATUS_SLEEP_OVERSPEED p) = 0)) ∧
      (s.rf 0 (wp Reg.WAY_STATUS_SUSPECT p) = 1 → Reg.WAY_CMD_CLEAR_SUSPECT.of w = 0 → Reg.WAY_CMD_ABS_REQUEST.of w = 0 →
        Completes (.clearUncertain m p w) s (fun t => t.rf 0 (wp Reg.WAY_STATUS_UNCERTAIN p) = s.rf 0 (wp Reg.WAY_STATUS_UNCERTAIN p))) ∧
      (Reg.WAY_CMD_ABS_REQUEST.of w = 0 → Completes (.clearSuspect m p w) s (fun t => t.rf 0 (wp Reg.WAY_STATUS_SUSPECT p) = 0 ∧
        t.rf 0 (wp Reg.WAY_STATUS_MISMATCH_RUN p) = 0)) ∧
      (Reg.WAY_CMD_ABS_REQUEST.of w = 0 → Completes (.wayClearCounts m p w) s (fun t =>
        t.rf 0 (wp Reg.WAY_INDEX_STAT_SNAPS p) = 0 ∧ t.rf 0 (wp Reg.WAY_INDEX_STAT_MISMATCHES p) = 0 ∧
        t.rf 0 (wp Reg.WAY_DE_TOTAL_COUNT p) = 0 ∧ t.rf 0 (wp Reg.WAY_ABS_ERRS_CRC p) = 0 ∧ t.rf 0 (wp Reg.WAY_ABS_ERRS_TIMEOUT p) = 0 ∧
        t.rf 0 (wp Reg.WAY_ABS_ERRS_BUSY p) = 0 ∧ t.rf 0 (wp Reg.WAY_GLITCH_COUNT p) = 0))) ∧
    (s.pwr.off = false → s.rf 0 (wp Reg.WAY_WAKE_ENABLE p) = 1 →
      s.rf 0 (wp Reg.WAY_WAKE_COUNTS p) ≤ (s.ext p - (s.port p).sleepExt).natAbs →
      (1 ≤ s.rf 0 Reg.PWR_STATE_STATE → s.rf 0 Reg.PWR_STATE_STATE ≤ 3 → Completes (.motionWake p) s (fun t =>
        t.rf 0 (wp Reg.WAY_EVENT_MOTION_WAKE p) = 1 ∧ (t.rf 0 Reg.PWR_WAKE_CAUSE_SEEN).testBit 0 = true)) ∧
      (s.rf 0 Reg.PWR_WAKE_EN_MOTION = 1 → s.pwr.tripped = false →
        (s.rf 0 Reg.PWR_STATE_STATE = 1 ∨ s.rf 0 Reg.PWR_STATE_STATE = 2 → Completes (.motionWake p) s (fun t =>
          t.rf 0 Reg.PWR_STATE_STATE = 4 ∧ t.rf 0 Reg.PWR_WAKE_CAUSE_SOURCE = 1 ∧ t.rf 0 Reg.PWR_WAKE_CAUSE_INDEX = p)) ∧
        (s.rf 0 Reg.PWR_STATE_STATE = 3 → s.pwr.wakeDuring = false → Completes (.motionWake p) s (fun t =>
          t.pwr.wakeDuring = true ∧ t.rf 0 Reg.PWR_STATE_STATE = 3 ∧ t.rf 0 Reg.PWR_WAKE_CAUSE_SOURCE = 1))))

/-- R13, R162, R163. A push to a full queue is refused and counted, any other queues its target, an unsigned position with its tag; FLUSH empties
the queue; ENABLE arms the head, late if the position has reached it; a reached head fires, is removed and leaves its tag, and the unit fires no
second time in that sample; a GIO pulse that has lasted its width ends. -/
def Obligations.CompareUnitsQueueFireAndPulse : Prop :=
  ∀ (s : State) (m u src idx : Nat) (w : Word), u < 16 →
    (Reaches s .WAY 0 →
      (Reg.WAY_CMP_PUSH_FLUSH.of w = 0 →
        ((s.cmp u).queue.length < 8 → Completes (.comparePush m u w) s (fun t =>
          t.rf 0 (wc Reg.WAY_CMP_STATUS_DEPTH u) = (s.cmp u).queue.length + 1 ∧
          (u < s.way.cmps.length → ∃ x ∈ (t.cmp u).queue, x.pos = s.rf64 0 (wc Reg.WAY_CMP_TARGET_LO_NM u) ∧
            x.tag = getBits w 15 0 ∧ x.since = s.tickNo))) ∧
        (8 ≤ (s.cmp u).queue.length → Completes (.comparePush m u w) s (fun t => t.way = s.way ∧
          t.rf 0 (wc Reg.WAY_CMP_STATUS_FULL u) = 1 ∧
          t.rf 0 (wc Reg.WAY_CMP_STATUS_DROPS u) = Nat.min 65535 (s.rf 0 (wc Reg.WAY_CMP_STATUS_DROPS u) + 1)))) ∧
      (Reg.WAY_CMP_PUSH_PUSH.of w = 0 → Completes (.compareFlush m u w) s (fun t => t.rf 0 (wc Reg.WAY_CMP_STATUS_DEPTH u) = 0)) ∧
      Completes (.compareEnable m u w) s (fun t => t.rf 0 (wc Reg.WAY_CMP_CTL_ENABLE u) = 1 ∧
        t.rf 0 (wc Reg.WAY_CMP_CTL_DIR u) = Reg.WAY_CMP_CTL_DIR.of w ∧
        (∀ x, u < s.way.cmps.length → (s.cmp u).queue = [x] → s.rf 0 (wc Reg.WAY_CMP_CTL_ENABLE u) = 0 →
          (t.cmp u).queue = [{ x with late := beyond (Reg.WAY_CMP_CTL_DIR.of w) (t.cmpPos u).1 (x.pos * nmQ), since := s.tickNo }]))) ∧
    (∀ x r, (s.cmp u).queue = x :: r → s.cmpReached u = true → Completes (.compareFire u) s (fun t =>
      t.rf 0 (wc Reg.WAY_CMP_STATUS_FIRED u) = 1 ∧ t.rf 0 (wc Reg.WAY_CMP_FIRED_TAG_TAG u) = x.tag % 65536 ∧
      t.rf 0 (wc Reg.WAY_CMP_STATUS_DEPTH u) = r.length % 16 ∧ (x.late = true → t.rf 0 (wc Reg.WAY_CMP_STATUS_LATE u) = 1))) ∧
    ((s.cmp u).fired = some s.tickNo → Completes (.compareFire u) s (fun t => t = s)) ∧
    (∀ q ∈ s.way.pulses, q.src = src → q.idx = idx → q.til ≤ s.monoNs → Completes (.gioPulseEnd src idx) s (fun t =>
      t.way.pulses = s.way.pulses.filter (fun x => !(x.src == src && x.idx == idx)) ∧
      (src = 0 → idx < 16 → t.rf 0 (wc Reg.WAY_CMP_STATUS_PULSE idx) = 0)))

/-- R179, R180. A LOAD of the active bank, of one that a commit awaits, or while a load is busy or the Wheelwright holds the loader, is refused with
code 9 or 10; any other starts, with the bank's VALID cleared. The load's end fills the bank and makes it VALID, or leaves it invalid with the code
of the check that failed; ABORT ends it with code 11. -/
def Obligations.TableLoadsFillABankOrAreRefused : Prop :=
  ∀ (s : State) (m g : Nat) (w : Word) (rga : Bool),
    (Reaches s (loaderRegs rga).load.blk (s.loaderWin g rga) →
      (s.rf (s.loaderWin g rga) (loaderRegs rga).sel = (loaderRegs rga).bank.of w ∨ s.bankAwaited g rga ((loaderRegs rga).bank.of w) = true →
        Completes (.tableLoad m w g rga) s (fun t => t.rf (s.loaderWin g rga) (loaderRegs rga).code = 9 ∧
          t.rf (s.loaderWin g rga) (loaderRegs rga).err = 1 ∧ t.loadingOf g rga = s.loadingOf g rga)) ∧
      (s.rf (s.loaderWin g rga) (loaderRegs rga).sel ≠ (loaderRegs rga).bank.of w → s.bankAwaited g rga ((loaderRegs rga).bank.of w) = false →
        ((s.loadingOf g rga).isSome = true ∨ (rga = false ∧ s.rf (s.loaderWin g rga) Reg.TRU_TBL_STATUS_WWT_HOLD = 1) →
          Completes (.tableLoad m w g rga) s (fun t => t.rf (s.loaderWin g rga) (loaderRegs rga).code = 10 ∧
            t.rf (s.loaderWin g rga) (loaderRegs rga).err = 1 ∧ t.loadingOf g rga = s.loadingOf g rga)) ∧
        (s.loadingOf g rga = none → (rga = false → s.rf (s.loaderWin g rga) Reg.TRU_TBL_STATUS_WWT_HOLD = 0) →
          Completes (.tableLoad m w g rga) s (fun t => t.rf (s.loaderWin g rga) (loaderRegs rga).busy = 1 ∧
            t.rf (s.loaderWin g rga) ((loaderRegs rga).validOf ((loaderRegs rga).bank.of w)) = 0 ∧
            t.loadingOf g rga = some ((loaderRegs rga).bank.of w, s.tblAddr g rga)))) ∧
      ((s.loadingOf g rga).isSome = true → Completes (.tableLoadAbort m w g rga) s (fun t => t.loadingOf g rga = none ∧
        t.rf (s.loaderWin g rga) (loaderRegs rga).busy = 0 ∧ t.rf (s.loaderWin g rga) (loaderRegs rga).code = 11 ∧
        t.rf (s.loaderWin g rga) (loaderRegs rga).err = 1))) ∧
    (∀ bank a, s.loadingOf g rga = some (bank, a) → bank < 2 →
      ∀ own hd bd, own = (!rga && (cget s.gain g).any (fun j => j.step == 1)) → hd = s.tblRead own a 64 →
      bd = hd.2.2.tblRead own (a + 64) (leAt hd.1 0x18 4) →
      (tblHeadCheck rga hd.1 hd.2.1 = 0 → s.tblBodyCheck g rga hd.1 bd.1 bd.2.1 = 0 → Completes (.tableLoadComplete g rga) s (fun t =>
        t.loadingOf g rga = none ∧ t.rf (s.loaderWin g rga) (loaderRegs rga).busy = 0 ∧ t.rf (s.loaderWin g rga) (loaderRegs rga).code = 0 ∧
        t.rf (s.loaderWin g rga) (loaderRegs rga).done = 1 ∧ t.rf (s.loaderWin g rga) ((loaderRegs rga).validOf bank) = 1 ∧
        t.rf (s.loaderWin g rga) ((loaderRegs rga).ident.sh (4 * bank)) = leAt hd.1 0x10 4 ∧
        (t.truOf g).banks = ((s.tblFill g rga bank hd.1 bd.1).truOf g).banks ∧
        (t.rgaOf g).banks = ((s.tblFill g rga bank hd.1 bd.1).rgaOf g).banks)) ∧
      (∀ code, code ≠ 0 → tblHeadCheck rga hd.1 hd.2.1 = code ∨
          (tblHeadCheck rga hd.1 hd.2.1 = 0 ∧ s.tblBodyCheck g rga hd.1 bd.1 bd.2.1 = code) →
        Completes (.tableLoadComplete g rga) s (fun t =>
          t.loadingOf g rga = none ∧ t.rf (s.loaderWin g rga) (loaderRegs rga).busy = 0 ∧ t.rf (s.loaderWin g rga) (loaderRegs rga).code = code ∧
          t.rf (s.loaderWin g rga) (loaderRegs rga).err = 1 ∧
          t.rf (s.loaderWin g rga) ((loaderRegs rga).validOf bank) = s.rf (s.loaderWin g rga) ((loaderRegs rga).validOf bank))))

/-- R171, R173, R184. A line leaves Truing with its tag, every plane corrected by the steps of R171 and no sample poisoned; a strip measurement with
its LINES lines publishes its sums in TRU_REF_SUM. -/
def Obligations.TruingCorrectsEveryPlane : Prop :=
  ∀ (s : State) (g : Nat),
    (∀ l u, s.takeNext g (s.hop g .TRU) = some (.line l, u) → (u.truOf g).flushed = false → u.yoke.armed = [] →
      s.rf (s.eng .STA g) Reg.STA_CFG_TAP = 0 → Completes (.truLine g) s (fun t =>
        (t.truOf g).last = some l.tag ∧
        (∀ k, u.mewOut g (u.hop g .TRU) = some k → u.mewKind k ≠ 1 → ∃ o : Line,
          ((t.mew k).packets.getLast?).bind (fun q => q.item) = some (.line o) ∧ o.tag = l.tag ∧
          o.planes = (List.range l.planes.length).map (fun p => (u.truPlane g p (l.planes.getD p []) (l.poison.getD p [])).1) ∧
          o.poison = l.planes.map (fun _ => [])))) ∧
    (∀ r, (s.truOf g).ref = some r → s.rf (s.eng .TRU g) Reg.TRU_REF_CTL_LINES ≤ r.lines → Completes (.refMeasurementDone g) s (fun t =>
      (t.truOf g).ref = none ∧ t.rf (s.eng .TRU g) Reg.TRU_EVENT_REF_DONE = 1 ∧
      (t.truOf g).results = (s.truOf g).results ++
        [(s.rf (s.eng .TRU g) (Reg.TRU_TBL_ID0_TABLE_ID.sh (4 * s.rf (s.eng .TRU g) Reg.TRU_BANK_SEL)), r.sums)] ∧
      (r.sums.length ≤ 3 → (∀ q ∈ r.sums, q.length ≤ 1024 ∧ ∀ v ∈ q, v < 2 ^ 64) →
        ∀ p, p < r.sums.length → ∀ i, i < (r.sums.getD p []).length →
          t.rf64 (s.eng .TRU g) (Reg.TRU_REF_SUM_SUM.sh (8 * (p * 1024 + i))) = (r.sums.getD p []).getD i 0)))

/-- R185, R186. A GAIN run that lasts 10 s without its two measurements, or whose two disagree in a plane, is rejected, and one whose measurements
agree in every plane counts and waits for the loader; then the active table is rebuilt in DRAM of Daxpamen's own and loaded from there into the
inactive bank under WWT_HOLD, and committed in carriage scope if it is VALID and the measured table is still active. A wait of 1 s discards the
result. -/
def Obligations.GainRunsRebuildAndCommitTheTable : Prop :=
  ∀ (s : State) (g : Nat),
    ((s.wwtAt 3 (g / 6) g).running = true → cget s.gain g = none →
      ((s.truOf g).results = [] → (s.wwtAt 3 (g / 6) g).started + 10000000000 ≤ s.now → Completes (.gainRunComplete g) s (fun t =>
        (t.wwtAt 3 (g / 6) g).rejects = (s.wwtAt 3 (g / 6) g).rejects + 1 ∧ t.rf (wwtWin 3 (g / 6)) Reg.WWT_LAST_OUTCOME = 1)) ∧
      (∀ a b rest ok, (s.truOf g).results = a :: b :: rest → b.2.length ≤ 3 →
        ok = (List.range b.2.length).all (fun p => gainAgrees (s.rf (s.eng .TRU g) Reg.TRU_REF_CTL_TOL)
          (s.gainK g p (s.planeSums g p a.2)) (s.gainK g p (s.planeSums g p b.2))) →
        (ok = true → Completes (.gainRunComplete g) s (fun t => (∃ j, cget t.gain g = some j ∧ j.step = 0 ∧ j.ident = b.1 ∧ j.since = s.now) ∧
          (t.truOf g).results = [] ∧
          t.rf (s.eng .TRU g) Reg.TRU_GAIN_RESID_RUNS = Nat.min 65535 (s.rf (s.eng .TRU g) Reg.TRU_GAIN_RESID_RUNS + 1))) ∧
        (ok = false → Completes (.gainRunComplete g) s (fun t => cget t.gain g = none ∧ (t.truOf g).results = [] ∧
          (t.wwtAt 3 (g / 6) g).rejects = (s.wwtAt 3 (g / 6) g).rejects + 1 ∧ t.rf (wwtWin 3 (g / 6)) Reg.WWT_LAST_OUTCOME = 1)))) ∧
    (∀ j, cget s.gain g = some j → (s.truOf g).loading = none →
      (j.step = 0 → s.scopeState (some g) = 0 → g < 48 → s.mem.wf = true →
        ∀ ident image, ident = 2 ^ 31 + s.freeVal 31 → image = s.drawn.rebuilt g ident j.ks → Completes (.gainRebuild g) s (fun t =>
        t.rf (s.eng .TRU g) Reg.TRU_TBL_STATUS_WWT_HOLD = 1 ∧ t.rf (s.eng .TRU g) Reg.TRU_TBL_STATUS_BUSY = 1 ∧
        t.loadingOf g false = some (1 - s.rf (s.eng .TRU g) Reg.TRU_BANK_SEL, t.tblAddr g false) ∧
        t.dramBytes (t.tblAddr g false) image.length = image ∧
        (∃ x, cget t.gain g = some x ∧ x.step = 1 ∧ x.bank = 1 - s.rf (s.eng .TRU g) Reg.TRU_BANK_SEL ∧ x.newId = ident))) ∧
      (j.step = 1 → j.mirrored = false → j.bank < 2 →
        s.rf (s.eng .TRU g) ((loaderRegs false).validOf j.bank) = 1 →
        s.rf (s.eng .TRU g) (Reg.TRU_TBL_ID0_TABLE_ID.sh (4 * j.bank)) = j.newId →
        s.rf (s.eng .TRU g) (Reg.TRU_TBL_ID0_TABLE_ID.sh (4 * s.rf (s.eng .TRU g) Reg.TRU_BANK_SEL)) = j.ident →
        s.yokeTests (some g) 3 = none → Completes (.gainCommitStage g) s (fun t =>
          t.rf (s.eng .TRU g) Reg.TRU_TBL_STATUS_WWT_HOLD = 0 ∧
          ∃ c ∈ t.yoke.commits, c.master = mWwt ∧ c.carriage = some g ∧ c.kind = 3 ∧ c.pending = false)) ∧
      (j.step = 0 → j.mirrored = false → j.since + 1000000000 ≤ s.now → ckeysRise s.gain = true → Completes (.gainWaitTimeout g) s (fun t =>
        cget t.gain g = none ∧ t.rf (wwtWin 3 (g / 6)) Reg.WWT_LAST_OUTCOME = 2)))

/-- R193, R196, R197. A line whose MD has not risen by MIN_STEP_NM is dropped and counts as a back line; any other enters the stretch. A marker of
one missing line behind a line waits to be bridged; a longer one ends the stretch in a hole, which is counted. -/
def Obligations.RegaugeTakesForwardLinesAndHoles : Prop :=
  ∀ (s : State) (g : Nat) (u : State), (u.rgaOf g).pending = none → u.yoke.armed = [] →
    (∀ l, s.takeNext g (s.hop g .RGA) = some (.line l, u) → (u.rgaOf g).flushed = false →
      (∀ x, (u.rgaOf g).top = some x → l.tag.md < x + u.rf (u.eng .RGA g) Reg.RGA_MD_CTL_MIN_STEP_NM → Completes (.rgaLine g) s (fun t =>
        t.rf (u.eng .RGA g) (Reg.RGA_CNT_COUNT.sh 8) = Nat.min 4294967295 (u.rf (u.eng .RGA g) (Reg.RGA_CNT_COUNT.sh 8) + 1) ∧
        t.rf (u.eng .RGA g) Reg.RGA_EVENT_BACK_LINE = 1 ∧ t.rga = u.rga)) ∧
      ((∀ x, (u.rgaOf g).top = some x → x + u.rf (u.eng .RGA g) Reg.RGA_MD_CTL_MIN_STEP_NM ≤ l.tag.md) → Completes (.rgaLine g) s (fun t =>
        (t.rgaOf g).top = some l.tag.md ∧ (t.rgaOf g).count = (u.rgaOf g).count + 1 ∧
        t.rf (u.eng .RGA g) Reg.RGA_STATUS_IN_HOLE = 0))) ∧
    (∀ m, s.takeNext g (s.hop g .RGA) = some (.gap m, u) → (u.rgaOf g).lines ≠ [] →
      (m.count = 1 → m.indexed = true → Completes (.rgaGapMarker g) s (fun t => (t.rgaOf g).pending = some m)) ∧
      (m.count ≠ 1 → Completes (.rgaGapMarker g) s (fun t => (t.rgaOf g).lines = [] ∧ (t.rgaOf g).gapSeen = true ∧
        t.rf (u.eng .RGA g) (Reg.RGA_CNT_COUNT.sh 4) = Nat.min 4294967295 (u.rf (u.eng .RGA g) (Reg.RGA_CNT_COUNT.sh 4) + 1) ∧
        t.rf (u.eng .RGA g) Reg.RGA_EVENT_HOLE = 1 ∧ t.rf (u.eng .RGA g) Reg.RGA_STATUS_IN_HOLE = 1)))

/-- R208, R209, R210. A line that comes to a seam whose other side has not passed it waits for its partner; one that comes after the other side has
passed it goes unjoined and is counted. A registration window with its LINES used lines ends: where it has too little texture it publishes nothing
and is counted, otherwise it publishes the shift that solves its normal equations if that lies within the range; in every case a new window opens.
-/
def Obligations.SeamsJoinLinesAndRegister : Prop :=
  ∀ (s : State) (g : Nat) (low : Bool), s.seamOn g = true →
    (∀ l t, (s.seamOf g).low.entries = [] → (s.seamOf g).high.entries = [] → ((s.seamOf g).side low).flushed = false →
      (s.seamOf g).late.contains l.grid = false → s.patchCut (sideCar g low) l.grid = false → s.patchCut (sideCar g (!low)) l.grid = false →
      s.takeNext (sideCar g low) (sideHop g low) = some (.line l, t) →
      ((∀ q, ((s.seamOf g).side (!low)).top = some q → q < l.grid) → Completes (.seamLineDeliver g low) s (fun u =>
        ((u.seamOf g).side low).entries = [⟨.line l, .waits⟩] ∧ u.cf g Reg.CPL_STATUS_WAITING = 1)) ∧
      (∀ q, ((s.seamOf g).side (!low)).top = some q → l.grid ≤ q → Completes (.seamLineDeliver g low) s (fun u =>
        u.cf g Reg.CPL_EVENT_UNJOINED = 1 ∧ u.cf g Reg.CPL_STATUS_UNJOINED = 1 ∧
        u.cf g (Reg.CPL_CNT_COUNT.sh 0) = Nat.min 4294967295 (s.cf g (Reg.CPL_CNT_COUNT.sh 0) + 1)))) ∧
    (s.cf g Reg.CPL_REG_CTL_ENABLE = 1 → s.cf g Reg.CPL_REG_CTL_LINES ≤ (s.seamOf g).window.lines →
      ∀ w, w = (s.seamOf g).window → Completes (.regWindowEnd g) s (fun u =>
        u.cf g Reg.CPL_REG_USED_LINES = 0 ∧ (u.seamOf g).window = RegWindow.fresh (s.wwtAt 2 0 0).running ∧ (u.seamOf g).k = leastSad w.sad ∧
        (w.sxx < 16 * (s.cf g Reg.CPL_REG_LIM_MIN_TEXTURE * w.n) ∨ w.syy < 16 * (s.cf g Reg.CPL_REG_LIM_MIN_TEXTURE * w.n) ∨
            w.sxx * w.syy - w.sxy * w.sxy ≤ 0 →
          u.cf g Reg.CPL_EVENT_REG_UNTEXTURED = 1 ∧ u.cf g Reg.CPL_REG_CD_D = s.cf g Reg.CPL_REG_CD_D ∧
          u.cf g (Reg.CPL_CNT_COUNT.sh 12) = Nat.min 4294967295 (s.cf g (Reg.CPL_CNT_COUNT.sh 12) + 1)) ∧
        (∀ det : Int, det = w.sxx * w.syy - w.sxy * w.sxy → ∀ ny : Int, ny = w.syd * w.sxx - w.sxd * w.sxy →
          ∀ r : Int, r = s.cf g Reg.CPL_REG_CTL_HALF →
          (16 * (s.cf g Reg.CPL_REG_LIM_MIN_TEXTURE * w.n) ≤ w.sxx ∧ 16 * (s.cf g Reg.CPL_REG_LIM_MIN_TEXTURE * w.n) ≤ w.syy ∧ 0 < det) →
          (leastSad w.sad ≠ (s.seamOf g).k ∨ 2 * r * det ≤ 8 * (ny.natAbs : Int) → u.cf g Reg.CPL_EVENT_REG_RANGE = 1 ∧
            u.cf g Reg.CPL_REG_CD_D = s.cf g Reg.CPL_REG_CD_D) ∧
          (leastSad w.sad = (s.seamOf g).k ∧ 8 * (ny.natAbs : Int) < 2 * r * det → u.cf g Reg.CPL_EVENT_REG_DONE = 1 ∧
            u.cf g Reg.CPL_REG_CD_D = unsgn 32 (256 * (s.seamOf g).k + rne (-512 * (w.sxd * w.syy - w.syd * w.sxy)) (r * det).toNat) ∧
            u.cf g Reg.CPL_REG_MD_D = unsgn 32 (rne (-512 * ny) (r * det).toNat)))))

/-- R212, R213, R214. A SEAM run whose two windows disagree is rejected; one whose seams agree and lie within DEAD is accepted; one that needs
corrections holds them until its commit. After 10 s it is judged without the seams that published no two windows, and corrections that waited 1 s
for the package scope are given up with outcome 2. -/
def Obligations.SeamRunsAreJudgedByTheirTwoWindows : Prop :=
  ∀ (s : State), (s.wwtAt 2 0 0).running = true →
    (s.seamFix = none → s.measuredSeams ≠ [] → (∀ g ∈ s.measuredSeams, (s.seamTwo g).length = 2) →
      ((∃ g ∈ s.measuredSeams, s.seamAgrees g ((s.seamTwo g).getD 0 (0, 0)) ((s.seamTwo g).getD 1 (0, 0)) = false) →
        Completes .seamRunComplete s (fun t => (t.wwtAt 2 0 0).rejects = (s.wwtAt 2 0 0).rejects + 1 ∧ t.rf 0 Reg.WWT_LAST_OUTCOME = 1 ∧
          t.rf 0 Reg.WWT_LAST_CLASS = 2 ∧ t.seamFix = none)) ∧
      ((∀ g ∈ s.measuredSeams, s.seamAgrees g ((s.seamTwo g).getD 0 (0, 0)) ((s.seamTwo g).getD 1 (0, 0)) = true) →
        ((∀ g ∈ s.measuredSeams, seamResid ((s.seamTwo g).getD 1 (0, 0)) ≤ s.cf g Reg.CPL_REG_LIM_DEAD) →
          Completes .seamRunComplete s (fun t => (t.wwtAt 2 0 0).rejects = 0 ∧ (t.wwtAt 2 0 0).unsettled = false ∧
            t.rf 0 Reg.WWT_LAST_OUTCOME = 0 ∧ t.rf 0 Reg.WWT_EVENT_ACCEPTED = 1 ∧ t.seamFix = none)) ∧
        ((∃ g ∈ s.measuredSeams, s.cf g Reg.CPL_REG_LIM_DEAD < seamResid ((s.seamTwo g).getD 1 (0, 0))) → s.scopeState none ≠ 0 →
          Completes .seamRunComplete s (fun t => ∃ x, t.seamFix = some x ∧ x.staged = false ∧ x.since = s.now)))) ∧
    (s.seamFix = none → (s.wwtAt 2 0 0).started + 10000000000 ≤ s.now → (∀ g ∈ s.measuredSeams, (s.seamTwo g).length ≠ 2) →
      Completes .seamRunTimeout s (fun t => (t.wwtAt 2 0 0).rejects = (s.wwtAt 2 0 0).rejects + 1 ∧ t.rf 0 Reg.WWT_LAST_OUTCOME = 1)) ∧
    (∀ x, s.seamFix = some x → x.staged = false → x.since + 1000000000 ≤ s.now → Completes .seamRunTimeout s (fun t =>
      t.seamFix = none ∧ t.rf 0 Reg.WWT_LAST_OUTCOME = 2 ∧ t.rf 0 Reg.WWT_EVENT_NOT_APPLIED = 1 ∧
      (t.wwtAt 2 0 0).rejects = (s.wwtAt 2 0 0).rejects))

/-- R215, R219, R221. Springs takes the next line into its stretch, its poisoned samples marked by an event. A freeze mask that comes back leaves
the masks on their way and is known to Springs. FREEZE and THAW each add one event to their task input, which holds at most 15. -/
def Obligations.SpringsTakesLinesMasksAndFreezes : Prop :=
  ∀ (s : State) (m g w : Nat) (v : Word),
    (∀ l t, (s.sprOf g).lines = [] → (s.sprOf g).closing = none → (s.sprOf g).flushed = false → (s.sprOf g).formed ≤ (s.sprOf g).out →
      (s.sprOf g).base ≤ (s.sprOf g).formed → s.takeNext g (s.hop g .SPR) = some (.line l, t) → s.resyncHolds g (.line l) = none →
      Completes (.sprLine g) s (fun u => (u.sprOf g).lastGrid = some l.grid ∧ (u.sprOf g).lastTag = some l.tag ∧ (u.sprOf g).hole = false ∧
        (s.yoke.armed = [] → l.working.2 ≠ [] → u.rf (s.eng .SPR g) Reg.SPR_EVENT_POISON = 1))) ∧
    (∀ e rest, (s.sprOf g).sent = e :: rest → Completes (.freezeMaskReturn g) s (fun u => (u.sprOf g).sent = rest ∧ e ∈ (u.sprOf g).masks)) ∧
    (Reaches s .SPR w →
      Completes (.sprFreeze m v w) s (fun u =>
        u.taskCount (w / 32) (s.sinkOf .SPR w) 0 = Nat.min 15 (s.taskCount (w / 32) (s.sinkOf .SPR w) 0 + 1)) ∧
      Completes (.sprThaw m v w) s (fun u =>
        u.taskCount (w / 32) (s.sinkOf .SPR w) 1 = Nat.min 15 (s.taskCount (w / 32) (s.sinkOf .SPR w) 1 + 1)))

/-- R230, R231, R232, R238, R242, R245. A line through SEG without local contrast gives the two run lists of its class masks: the full list goes to
Springs as freeze mask, the owned list is counted. A line through LBL moves the frontier up to it and leaves no component open whose last run lies
CLOSE_K lines back. A carriage that lags has its components closed and leaves the package frontier. R240, R242, R247, R253. A slice of another coach
forwards each fragment in its order; a marker that reaches the live DBM puts its gap record into the emission buffer in key order. A carriage's
frontier, reported after all that came before it, moves up, and the package frontier is the least of the counted carriages' frontiers and never goes
back. -/
def Obligations.LinesBecomeComponentsAndTheFrontierMoves : Prop :=
  (∀ (s : State) (g : Nat), s.yoke.armed = [] →
    (∀ l t, (s.segOf g).lines = [] → (s.segOf g).closing = none → (s.segOf g).flushed = false → (s.segOf g).formed = (s.segOf g).base →
      s.takeNext g (s.hop g .SEG) = some (.line l, t) → t.heldUp g (t.hop g .SEG) = false →
      s.rf (s.eng .SEG g) Reg.SEG_CTL_CONTRAST_EN = 0 →
      ∀ e fg owned, e = l.planes.getD 0 [] →
        fg = s.segClasses (s.eng .SEG g) e (e.map s16) (if l.tag.flags.testBit 5 then [] else (s.segOf g).before.getD []) →
        owned = maskRuns (maskAt fg) (s.rf (s.eng .SEG g) Reg.SEG_OWNED_FIRST)
          (s.rf (s.eng .SEG g) Reg.SEG_OWNED_FIRST + s.rf (s.eng .SEG g) Reg.SEG_OWNED_COUNT) →
        Completes (.segLine g) s (fun u => u.rf (s.eng .SEG g) Reg.SEG_STATUS_RUNS = Nat.min 65535 owned.length ∧
          (u.sprOf g).sent = (s.sprOf g).sent ++ [(l.grid, maskRuns (maskAt fg) 0 e.length)] ∧
          (owned ≠ [] → u.rf (s.eng .SEG g) Reg.SEG_EVENT_FOREGROUND = 1 ∧
            u.rf (s.eng .SEG g) Reg.SEG_CNT_COUNT = Nat.min 4294967295 (s.rf (s.eng .SEG g) Reg.SEG_CNT_COUNT + 1)))) ∧
    (∀ l t, s.takeNext g (s.hop g .LBL) = some (.line l, t) → s.excluded g = false → (s.lblOf g).owes = 0 → l.grid < 2 ^ 64 →
      Completes (.lblLine g) s (fun u => (u.lblOf g).lastLine = some l.grid ∧ u.lblFront g = Nat.max (s.lblFront g) l.grid ∧
        ∀ c ∈ (u.lblOf g).comps, l.grid < c.last + Nat.max 1 (s.rf (s.eng .LBL g) Reg.LBL_CTL_CLOSE_K))) ∧
    (s.live g = true → s.excluded g = false → s.lblFront g + s.rf 0 Reg.DBM_LAG_LINES < s.webNm.toNat / s.gridMd →
      Completes (.carriageLag g) s (fun u => (u.lblOf g).comps = [] ∧ u.excluded g = true ∧ u.rf 0 Reg.DBM_EVENT_LAG = 1 ∧
        u.rf (s.eng .LBL g) Reg.LBL_EVENT_LAG_FLUSH = 1 ∧ cget u.dbm.lag g = some (s.lblFront g + 1)))) ∧
  (∀ (s : State) (g c : Nat),
    (∀ f t, s.takeNext g ⟨.DBM, unitOf (g / 6) 0, 0⟩ = some (.frag f, t) → g / 6 ≠ 0 → s.isReplay g = false →
      (s.slice (g / 6)).sets.length + f.labels.length ≤ 131072 → Completes (.dbmFragment g) s (fun u =>
        (u.slice (g / 6)).fwd = (s.slice (g / 6)).fwd ++ [⟨g, .frag f⟩])) ∧
    (∀ f rest, (s.slice c).fwd = f :: rest → Completes (.dbmPartialSet c) s (fun u => (u.slice c).fwd = rest ∧
      (∀ m, f.item = .gap m → s.isReplay f.carriage = false →
        (u.strm 255).recs = putRec (s.markRec 255 f.carriage m) (s.strm 255).recs))) ∧
    (∀ h m t, s.takeNext g ⟨.DBM, unitOf (g / 6) 0, 0⟩ = some (.frontier h m, t) → (s.slice (g / 6)).fwd = [] → s.isReplay h = false →
      Completes (.frontierAdvance g) s (fun u =>
        cgetD (u.strm 255).front h 0 = Nat.max m (cgetD (s.strm 255).front h 0) ∧ (s.strm 255).phi ≤ (u.strm 255).phi ∧
        u.rf64 0 Reg.DBM_FRONTIER_LO_LINE = (u.strm 255).phi % 2 ^ 64 ∧
        (∀ x ∈ s.counted 255, (u.strm 255).phi ≤ Nat.max (s.strm 255).phi (cgetD (u.strm 255).front x 0)) ∧
        (s.counted 255 ≠ [] → ∃ x ∈ s.counted 255, (u.strm 255).phi = Nat.max (s.strm 255).phi (cgetD (u.strm 255).front x 0)))))

/-- R248, R256, R258, R260. A defect record at its turn takes the next SEQUENCE and its slot of the record queue, or, where R258 sheds its class, is
counted as shed and takes no number; a gap record that finds the queue full is folded. An acknowledgement is taken where it lies between the present
one and the next SEQUENCE and ignored elsewhere, for the live stream and a replay stream alike. R263, R264, R265. A PAT cuts the first pending patch
whose lines the frontier has passed: the patch leaves the queue, and is written into the next slot of the ring and counted, or, where the ring has
no room, is shed and counted. -/
def Obligations.RecordsAndPatchesAreWrittenOrShed : Prop :=
  (∀ (s : State) (m g : Nat) (w : Word),
    (∀ r rest, (s.strm 255).recs = r :: rest → r.sort ≤ (s.strm 255).phi → (s.strm 255).fold = none → s.sumDue 255 (s.strm 255).phi = none →
      (s.strm 255).awaiting = [] → s.role = 0 →
      (r.kind = 0 → (s.strm 255).wouldShed (s.queueLen 255) (s.queueOf 255).2.2 (s.queueOf 255).2.1 r.cls = true → r.cls < 4 →
        Completes (.recordWrite 255) s (fun t => (t.strm 255).recs = rest ∧ t.rf64 0 Reg.DBM_SEQ_LO_SEQ = s.rf64 0 Reg.DBM_SEQ_LO_SEQ ∧
          t.rf 0 (Reg.DBM_CNT_COUNT.sh (4 * (1 + r.cls))) = Nat.min 4294967295 (s.rf 0 (Reg.DBM_CNT_COUNT.sh (4 * (1 + r.cls))) + 1) ∧
          t.rf 0 Reg.DBM_EVENT_SHED = 1)) ∧
      ((r.kind = 0 ∧ (s.strm 255).wouldShed (s.queueLen 255) (s.queueOf 255).2.2 (s.queueOf 255).2.1 r.cls = false) ∨
          (r.kind ≠ 0 ∧ s.queueLen 255 < (s.queueOf 255).2.1) → r.body.length = 64 → s.mem.wf = true →
        Completes (.recordWrite 255) s (fun t => (t.strm 255).recs = rest ∧
          t.rf64 0 Reg.DBM_SEQ_LO_SEQ = (s.rf64 0 Reg.DBM_SEQ_LO_SEQ + 1) % 2 ^ 64 ∧
          t.rf 0 Reg.DBM_CNT_COUNT = Nat.min 4294967295 (s.rf 0 Reg.DBM_CNT_COUNT + 1) ∧
          ∀ b, b = t.dramBytes ((s.queueOf 255).1 + 64 * (s.rf64 0 Reg.DBM_SEQ_LO_SEQ % Nat.max 1 (s.queueOf 255).2.1)) 64 →
            leAt b 8 8 = s.rf64 0 Reg.DBM_SEQ_LO_SEQ ∧ b.drop 16 = r.body.drop 16)) ∧
      (r.kind ≠ 0 → (s.queueOf 255).2.1 ≤ s.queueLen 255 → Completes (.recordWrite 255) s (fun t => (t.strm 255).recs = rest ∧
        t.rf64 0 Reg.DBM_SEQ_LO_SEQ = s.rf64 0 Reg.DBM_SEQ_LO_SEQ ∧ (∃ f, (t.strm 255).fold = some f ∧ f.gaps = 1) ∧
        t.rf 0 (Reg.DBM_CNT_COUNT.sh 36) = Nat.min 4294967295 (s.rf 0 (Reg.DBM_CNT_COUNT.sh 36) + 1) ∧ t.rf 0 Reg.DBM_EVENT_FOLD = 1))) ∧
    (∀ c k, (c = Instr.dbmAckWrite m w ∧ k = 255 ∧ s.standby = false) ∨ (c = Instr.dbmRackWrite m w g ∧ k = g ∧ g ≠ 255 ∧ s.isReplay g = true) →
      Reaches s .DBM (ackReg k).1 → (s.strm k).ackLow < 2 ^ 32 → ∀ n, n = w.toNat * 2 ^ 32 + (s.strm k).ackLow →
      (s.dbmAck k ≤ n → n ≤ s.rf64 (seqReg k).1 (seqReg k).2 → Completes c s (fun t => t.dbmAck k = n)) ∧
      (n < s.dbmAck k ∨ s.rf64 (seqReg k).1 (seqReg k).2 < n → Completes c s (fun t => t.dbmAck k = s.dbmAck k)))) ∧
  (∀ (s : State) (i : Nat), (∃ j, (s.patOf i).find? (s.patDue i) = some j) →
    (s.rf i Reg.PAT_RING_SLOTS_SLOTS ≠ 0 →
      (s.rf i Reg.PAT_RING_WRITE_SLOT + 1) % s.rf i Reg.PAT_RING_SLOTS_SLOTS ≠ s.rf i Reg.PAT_RING_READ_SLOT → Completes (.patchCut i) s (fun t =>
        (t.patOf i).length + 1 = (s.patOf i).length ∧
        t.rf i Reg.PAT_RING_WRITE_SLOT = (s.rf i Reg.PAT_RING_WRITE_SLOT + 1) % s.rf i Reg.PAT_RING_SLOTS_SLOTS ∧
        t.rf i Reg.PAT_CNT_COUNT = Nat.min 4294967295 (s.rf i Reg.PAT_CNT_COUNT + 1) ∧ t.rf i Reg.PAT_EVENT_WRITTEN = 1)) ∧
    (s.rf i Reg.PAT_RING_SLOTS_SLOTS = 0 ∨
        (s.rf i Reg.PAT_RING_WRITE_SLOT + 1) % s.rf i Reg.PAT_RING_SLOTS_SLOTS = s.rf i Reg.PAT_RING_READ_SLOT → Completes (.patchCut i) s (fun t =>
      (t.patOf i).length + 1 = (s.patOf i).length ∧ t.rf i Reg.PAT_RING_WRITE_SLOT = s.rf i Reg.PAT_RING_WRITE_SLOT ∧
      t.rf i (Reg.PAT_CNT_COUNT.sh 8) = Nat.min 4294967295 (s.rf i (Reg.PAT_CNT_COUNT.sh 8) + 1) ∧ t.rf i Reg.PAT_EVENT_SHED = 1)))

/-- R280, R281, R282. An accepted line joins its carriage's open row, or begins a new one where trigger numbers break or 16 lines are in. A full
row, or one that has waited 1 ms, closes: it takes the next row number, and its index entry names that number and how many lines it holds. -/
def Obligations.ArchiveRowsGatherAndClose : Prop :=
  ∀ (s : State) (g i o : Nat), s.pmtOf g = some (i, o) →
    (∀ k l, s.link g (s.hop g .ING) ⟨.PMT, i, 0⟩ = some k → (s.tapTake k).1 = 0 → s.mewHead k = some (.line l) → s.yoke.armed = [] →
      s.rf i (Reg.PMT_ARC_CTL_ENABLE.sh o) = 1 →
      ((s.arcOf g).lines.length < 16 → (∀ p, (s.arcOf g).lines.getLast? = some p → p.tag.index + 1 = l.tag.index) →
        Completes (.archiveLine g) s (fun t => (t.arcOf g).lines = (s.arcOf g).lines ++ [l] ∧ (t.arcOf g).since = s.now)) ∧
      (16 ≤ (s.arcOf g).lines.length ∨ (∃ p, (s.arcOf g).lines.getLast? = some p ∧ p.tag.index + 1 ≠ l.tag.index) →
        Completes (.archiveLine g) s (fun t => (t.arcOf g).lines = [l]))) ∧
    (∀ c, s.mem.wf = true → s.rf i (Reg.PMT_ARC_CTL_PIN_EN.sh o) = 0 →
      (c = Instr.archiveRowClose g ∧ (s.arcOf g).lines.length = 16) ∨
        (c = Instr.archiveRowTimeout g ∧ (s.arcOf g).lines ≠ [] ∧ (s.arcOf g).lines.length < 16 ∧ (s.arcOf g).since + 1000000 ≤ s.now) →
      Completes c s (fun t => (t.arcOf g).lines = [] ∧
        t.rf i (Reg.PMT_ARC_NEXT_ROW.sh o) = (s.rf i (Reg.PMT_ARC_NEXT_ROW.sh o) + 1) % 2 ^ 32 ∧
        leAt (t.idxEntry i o (s.rf i (Reg.PMT_ARC_NEXT_ROW.sh o))) 0x1C 4 = s.rf i (Reg.PMT_ARC_NEXT_ROW.sh o) ∧
        leAt (t.idxEntry i o (s.rf i (Reg.PMT_ARC_NEXT_ROW.sh o))) 0x16 1 = (s.arcOf g).lines.length))

/-- R285, R286, R288, R289. GO is refused with code 1 while a job runs and with code 2 for a source that has no archive stream; a job into host
memory begins at the first intact row of its range. Each line is written and counted until the destination is full, which ends the job with code 7;
ABORT ends it with code 8. A job that has come to its end shows its code, DONE for 0 and ERR for any other, and the PMT is free. -/
def Obligations.DecodeJobsRunToOneCode : Prop :=
  ∀ (s : State) (m i : Nat) (w : Word),
    (Reaches s .PMT i →
      (s.rf i Reg.PMT_JOB_STATUS_BUSY = 1 → Completes (.decodeJobGo m w i) s (fun t => t.rf i Reg.PMT_JOB_STATUS_ERR_CODE = 1 ∧
        t.rf i Reg.PMT_JOB_STATUS_ERR = 1 ∧ t.rf i Reg.PMT_JOB_STATUS_BUSY = 1)) ∧
      (s.rf i Reg.PMT_JOB_STATUS_BUSY = 0 → s.pmtOf (Reg.PMT_JOB_CTL_SOURCE.of w) = none → Completes (.decodeJobGo m w i) s (fun t =>
        t.rf i Reg.PMT_JOB_STATUS_ERR_CODE = 2 ∧ t.rf i Reg.PMT_JOB_STATUS_ERR = 1 ∧ t.rf i Reg.PMT_JOB_STATUS_BUSY = 0)) ∧
      (∀ io oo r, s.rf i Reg.PMT_JOB_STATUS_BUSY = 0 → s.pmtOf (Reg.PMT_JOB_CTL_SOURCE.of w) = some (io, oo) →
        Reg.PMT_JOB_CTL_DEST.of w = 1 → s.rf i Reg.PMT_JOB_DST_LEN_UNITS ≠ 0 →
        (s.intactRows io oo).find? (fun r => decide ((s.rf64 i Reg.PMT_JOB_FROM_LO_NM : Int) ≤ (s.rowSpan io oo r).2)) = some r →
        (s.rf64 i Reg.PMT_JOB_TO_LO_NM = 2 ^ 64 - 1 ∨ (s.rowSpan io oo r).1 ≤ (s.rf64 i Reg.PMT_JOB_TO_LO_NM : Int)) →
        Completes (.decodeJobGo m w i) s (fun t => t.rf i Reg.PMT_JOB_STATUS_BUSY = 1 ∧ t.rf i Reg.PMT_JOB_LINES_LINES = 0 ∧
          ∃ j, cget t.jobs i = some j ∧ j.src = Reg.PMT_JOB_CTL_SOURCE.of w ∧ j.row = r ∧ j.ending = none)) ∧
      (∀ j, cget s.jobs i = some j → j.ending = none → Reg.PMT_JOB_CTL_GO.of w = 0 → Completes (.decodeJobAbort m w i) s (fun t =>
        cget t.jobs i = some { j with ending := some 8 }))) ∧
    (∀ j, cget s.jobs i = some j →
      (∀ l rest, j.ending = none → j.lines = l :: rest → j.dest = 1 → ∀ n, n = alignUp (l.tag ++ l.samples.flatMap (toBytes 2)).length 64 →
        (j.used + n ≤ j.room → Completes (.decodeLine i) s (fun t =>
          cget t.jobs i = some { j with lines := rest, used := j.used + n, last := some l } ∧
          t.rf i Reg.PMT_JOB_LINES_LINES = Nat.min 4294967295 (s.rf i Reg.PMT_JOB_LINES_LINES + 1))) ∧
        (j.room < j.used + n → Completes (.decodeLine i) s (fun t => cget t.jobs i = some { j with ending := some 7 }))) ∧
      (∀ code, j.ending = some code → code < 16 → Completes (.decodeJobEnd i) s (fun t =>
        t.jobs = cdel s.jobs i ∧ t.rf i Reg.PMT_JOB_STATUS_BUSY = 0 ∧ t.rf i Reg.PMT_JOB_STATUS_ERR_CODE = code ∧
        (code = 0 → t.rf i Reg.PMT_JOB_STATUS_DONE = 1 ∧ t.rf i Reg.PMT_EVENT_JOB_DONE = 1) ∧
        (code ≠ 0 → t.rf i Reg.PMT_JOB_STATUS_ERR = 1 ∧ t.rf i Reg.PMT_EVENT_JOB_ERR = 1))))

/-- R292, R293. A selection tick selects the first strip whose first grid line lies at or beyond the web, if it lies beyond the last one selected. A
preview row is formed when every carriage that feeds it has passed its box rows, or 10 ms after the first has; the last row of a strip lets the
strip leave, and one whose lane has no room is dropped and counted. -/
def Obligations.PreviewStripsAreSelectedFormedAndDropped : Prop :=
  ∀ (s : State) (view i : Nat) (full : Bool),
    (i ∈ s.pvwWins → s.rf i Reg.PVW_CTL_ENABLE = 1 → s.rf i Reg.PVW_CTL_VIEW = view → ∀ k, k = s.stripFrom i (s.webNm / s.gridMd).toNat →
      ((∀ p, (s.pvwOf i).last = some p → p < k) → Completes (.previewTick view) s (fun t =>
        (t.pvwOf i).strips = (s.pvwOf i).strips ++ [k] ∧ (t.pvwOf i).last = some k ∧ t.rf i Reg.PVW_STATUS_STRIP = k % 2 ^ 32)) ∧
      (∀ p, (s.pvwOf i).last = some p → k ≤ p → Completes (.previewTick view) s (fun t => t.pvwOf i = s.pvwOf i))) ∧
    (∀ c u n strip rest, (c = Instr.previewRowComplete i full ∧ s.hasUnit .PVW i = true ∧ u = s.pvwPullAll i ∧
          u.rf i Reg.PVW_CTL_ENABLE = 1 ∧ (u.pvwCars i).all (fun g => u.pvwPast i n g) = true ∧ u.pvwCars i ≠ []) ∨
        (c = Instr.previewRowTimeout i full ∧ u = s ∧ ∃ since, (s.pvwOf i).since = some since ∧ since + 10000000 ≤ s.now) →
      u.rowNow i = some n → (u.pvwOf i).strips = strip :: rest →
      ((u.pvwOf i).rows.length + 1 < u.rf i Reg.PVW_CTL_ROWS → Completes c s (fun t => (t.pvwOf i).strips = strip :: rest ∧
        (t.pvwOf i).rows.length = (u.pvwOf i).rows.length + 1 ∧ (t.pvwOf i).since = none)) ∧
      (u.rf i Reg.PVW_CTL_ROWS ≤ (u.pvwOf i).rows.length + 1 → Completes c s (fun t => (t.pvwOf i).strips = rest ∧ (t.pvwOf i).rows = [] ∧
        (full = true → u.suppressed = false → u.rf i Reg.PVW_CTL_DEST = 0 → t.rf i Reg.PVW_EVENT_DROPPED = 1 ∧
          (t.pvwOf i).dropped = (u.pvwOf i).dropped + 1 ∧
          t.rf i (Reg.PVW_CNT_COUNT.sh 4) = Nat.min 4294967295 (u.rf i (Reg.PVW_CNT_COUNT.sh 4) + 1)))))

/-- R299 to R302. The Felloe code: a clean word reads clean, a poisoned one reads as stored poison with or without one wrong symbol, a clean word
with one wrong symbol is corrected, and one with two is never taken for clean or corrected. -/
def Obligations.TheFelloeCodeCorrectsOneSymbolAndDetectsTwo : Prop :=
  ∀ d, d < 2 ^ 64 →
    felloeRead (felloe d false) = (.clean, d) ∧ felloeRead (felloe d true) = (.poison, d) ∧
    (∀ k e, k < 20 → 1 ≤ e → e < 16 →
      felloeRead (felloe d false ^^^ e * 16 ^ k) = (.corrected k, d) ∧ (felloeRead (felloe d true ^^^ e * 16 ^ k)).1 = .poison ∧
      ∀ j f, j < 20 → j ≠ k → 1 ≤ f → f < 16 →
        (felloeRead (felloe d false ^^^ e * 16 ^ k ^^^ f * 16 ^ j)).1 = .poison ∨
        (felloeRead (felloe d false ^^^ e * 16 ^ k ^^^ f * 16 ^ j)).1 = .uncorrectable)

/-- R302, R303, R317, R318. A DRAM word read from a ready channel changes nothing where it is clean, counts as corrected with its rank and symbol,
as a poison read, or as a new uncorrectable word that is poisoned from then on. The patrol scrubber reads the words of a block the same way, and
does nothing while HOURS is 0. R303, R310, R393, R401. A BAR2 read of open addresses of running channels answers the bytes with EP where a word is
poisoned, and a write stores them, with EP as poison under M-0010; a stopped channel refuses the access under a guard with G-0014 and otherwise
holds it. A write of GLB_BAR2_BASE moves the window. -/
def Obligations.DramIsJudgedAsItIsReadAndReachedThroughBar2 : Prop :=
  (∀ (s : State) (addr rank err : Nat),
    ∀ i c, i = chanInst (s.chanOf addr) → c = (felloeRead (s.storedWord addr ^^^ (err % 2 ^ 80))).1 → s.dmcReady i = true →
      (c = .clean → exec (.dramRead addr rank err) s = .next s) ∧
      (∀ k, c = .corrected k → k < 20 → Completes (.dramRead addr rank err) s (fun t =>
        t.rf i Reg.DMC_CE_COUNT = Nat.min 4294967295 (s.rf i Reg.DMC_CE_COUNT + 1) ∧
        t.rf i (Reg.DMC_RANK_CE_COUNT.sh (4 * (rank % 4))) = Nat.min 4294967295 (s.rf i (Reg.DMC_RANK_CE_COUNT.sh (4 * (rank % 4))) + 1) ∧
        t.rf i Reg.DMC_EVENT_CE = 1 ∧ t.rf i Reg.DMC_ERR_INFO_SYMBOL = k ∧ t.rf i Reg.DMC_ERR_INFO_KIND = 0 ∧ t.mem = s.mem)) ∧
      (c = .poison → Completes (.dramRead addr rank err) s (fun t =>
        t.rf i Reg.DMC_POISON_COUNT = Nat.min 4294967295 (s.rf i Reg.DMC_POISON_COUNT + 1) ∧ t.rf i Reg.DMC_EVENT_POISON_READ = 1 ∧
        t.rf i Reg.DMC_ERR_INFO_KIND = 2 ∧ t.rf i Reg.DMC_UE_COUNT = s.rf i Reg.DMC_UE_COUNT)) ∧
      (c = .uncorrectable → Completes (.dramRead addr rank err) s (fun t =>
        t.rf i Reg.DMC_UE_COUNT = Nat.min 4294967295 (s.rf i Reg.DMC_UE_COUNT + 1) ∧ t.rf i Reg.DMC_EVENT_UE = 1 ∧
        t.rf i Reg.DMC_ERR_INFO_KIND = 1 ∧ addr / 8 ∈ t.poison)) ∧
      (s.rf i Reg.DMC_SCRUB_HOURS = 0 → ∀ errs, exec (.scrubBlock addr rank errs) s = .next s) ∧
      (s.rf i Reg.DMC_SCRUB_HOURS ≠ 0 → (∀ b, b < 16 → (felloeRead (s.storedWord (128 * (addr / 128) + 8 * b))).1 = .clean) →
        exec (.scrubBlock addr rank []) s = .next s ∧
        ∀ b k e, b < 16 → k < 20 → e < 2 ^ 80 → (felloeRead (s.storedWord (128 * (addr / 128) + 8 * b) ^^^ e)).1 = .corrected k →
          Completes (.scrubBlock addr rank [(b, e)]) s (fun t =>
            t.rf i Reg.DMC_CE_COUNT = Nat.min 4294967295 (s.rf i Reg.DMC_CE_COUNT + 1) ∧ t.rf i Reg.DMC_ERR_INFO_SCRUB = 1 ∧
            t.rf i Reg.DMC_ERR_INFO_BEAT = b))) ∧
  (∀ (s : State) (off n : Nat) (bytes : List Byte) (ep : Bool), ∀ a, a = s.bar2Addr off →
    (s.dramStopped a n = false → (∀ k, k < n → s.dramOpen (a + k) = true) → Completes (.bar2Read off n) s (fun t => t.mem = s.mem ∧
      t.egress = s.egress ++ [⟨.hostRead, b2n (s.poisonIn a n), (s.dramBytes a n).map BitVec.toNat⟩])) ∧
    (s.dramStopped a 1 = false → s.dramOpen a = false → Completes (.bar2Read off 1) s (fun t =>
      (⟨.hostRead, b2n (s.poisonIn a 1), [0]⟩ : Egress) ∈ t.egress ∧ t.rf 0 Reg.GLB_ERR_CODE = codeWord 'G' 0x10)) ∧
    (s.dramStopped a bytes.length = false → (∀ k, k < bytes.length → s.dramOpen (a + k) = true) → bytes ≠ [] →
      Completes (.bar2Write off bytes ep) s (fun t => t.mem = s.mem.writeBytes a bytes ∧
        (ep = true → (∀ x ∈ wordsIn a bytes.length, x ∈ t.poison) ∧
          t.rf (chanInst (s.chanOf a)) Reg.DMC_ERR_CODE = codeWord 'M' 0x10))) ∧
    (s.dramStopped a n = true → s.guardOf mHost = true → Completes (.bar2Read off n) s (fun t => t.rf 0 Reg.GLB_ERR_CODE = codeWord 'G' 0x14)) ∧
    (s.dramStopped a bytes.length = true → s.guardOf mHost = false → Completes (.bar2Write off bytes ep) s (fun t =>
      t.stalled.length = s.stalled.length + 1 ∧ t.mem = s.mem)) ∧
    (∀ m w, Reaches s .GLB 0 → Completes (.bar2BaseWrite m w) s (fun t => t.rf 0 Reg.GLB_BAR2_BASE_GIB = Reg.GLB_BAR2_BASE_GIB.of w)))

/-- R314, R315, R316. A refresh that falls due on a busy channel is owed, up to 8, and then preempts the channel's arbitration; a quiet channel pays
all that is owed. A DIMM above 85 °C shows HOT with D-0010. A row activation counts in its bank's tracker, one that reaches THRESHOLD Curbs its
requester, and the end of the window clears trackers and Curbs. -/
def Obligations.RefreshesAreOwedAndRowsCurbed : Prop :=
  ∀ (s : State) (c d rank depth beats : Nat), d < 2 → ∀ i, i = unitOf c d →
    (s.dmcReady i = true →
      (s.rf i Reg.DMC_REF_BUSY ≤ depth → cgetD (s.dmcAt i).owed rank 0 < 8 → Completes (.refreshDue c d rank depth beats) s (fun t =>
        cgetD (t.dmcAt i).owed rank 0 = cgetD (s.dmcAt i).owed rank 0 + 1)) ∧
      (∀ r b, s.rf i Reg.DMC_REF_BUSY ≤ depth → 8 ≤ cgetD (s.dmcAt i).owed rank 0 → (s.whtAt i).holder = some (r, b) → r.input ≠ 15 →
        Completes (.refreshDue c d rank depth beats) s (fun t => t.rf i Reg.WHT_EVENT_PREEMPT = 1 ∧
          (∃ e, (t.whtAt i).holder = some (e, 0) ∧ e.input = 15) ∧ t.dmcAt i = s.dmcAt i)) ∧
      (depth < s.rf i Reg.DMC_REF_BUSY → Completes (.refreshMakeup c d depth) s (fun t =>
        (t.dmcAt i).owed = [] ∧ t.rf i Reg.DMC_STATUS_OWED = 0)) ∧
      (∀ bank row requester, requester < 65536 → ∀ l, l = cgetD (s.dmcAt i).banks (rank * 256 + bank) [] →
        (∀ e, l.find? (fun e => e.row == row) = some e → Completes (.rowActivate c d rank bank row requester) s (fun t =>
          cgetD (t.dmcAt i).banks (rank * 256 + bank) [] = l.map (fun x => if x.row = row then ⟨row, x.count + 1, requester⟩ else x) ∧
          (e.count + 1 = s.rf i Reg.DMC_CURB_CTL_THRESHOLD → (s.dmcAt i).curbed.contains requester = false →
            t.rf i Reg.DMC_EVENT_CURB = 1 ∧ t.rf i Reg.DMC_CURB_STATUS_REQUESTER = requester ∧ t.rf i Reg.DMC_CURB_STATUS_ACTIVE = 1 ∧
            requester ∈ (t.dmcAt i).curbed ∧ t.rf i Reg.DMC_ERR_CODE = codeWord 'D' 0x30))) ∧
        (l.find? (fun e => e.row == row) = none → l.length < 32 → Completes (.rowActivate c d rank bank row requester) s (fun t =>
          cgetD (t.dmcAt i).banks (rank * 256 + bank) [] = l ++ [⟨row, 1, requester⟩])))) ∧
    ((s.dimmOf (2 * c + d)).isSome = true →
      (∀ temp : Int, 680 < temp → s.rf i Reg.DMC_STATUS_HOT = 0 → Completes (.dimmHot c d temp) s (fun t =>
        t.rf i Reg.DMC_STATUS_HOT = 1 ∧ t.rf i Reg.DMC_EVENT_HOT = 1 ∧ t.rf i Reg.DMC_ERR_CODE = codeWord 'D' 0x10)) ∧
      (∀ temp : Int, temp ≤ 680 → Completes (.dimmHot c d temp) s (fun t => t.rf i Reg.DMC_STATUS_HOT = 0)) ∧
      Completes (.curbWindowEnd c d) s (fun t => (t.dmcAt i).banks = [] ∧ (t.dmcAt i).curbed = [] ∧ t.rf i Reg.DMC_CURB_STATUS_ACTIVE = 0))

/-- R319. GO starts a Remount of an installed rank onto a free spare, with D-0020; each copied block moves P on by one; when P has passed the last
block the spare takes the rank's place and the rank retires, with D-0021. GO without a free spare starts none. R308, R317, R322, R324. A DRAM run
whose measurements differ by at most 3 ps everywhere is accepted, any other rejected. Coach SRAM and the Waybill count corrected and uncorrectable
words; a bad word of a Daxpamen image or a harness slot makes that image bad. -/
def Obligations.RemountsMemoryRunsAndPatrolsEnd : Prop :=
  (∀ (s : State) (m c d : Nat) (w : Word), d < 2 → ∀ i ch, i = unitOf c d → ch = 2 * c + d →
    (Reaches s .DMC i →
      (∀ q, s.spareFree i = some q → q ≠ Reg.DMC_REMOUNT_CTL_RANK.of w → Reg.DMC_REMOUNT_CTL_RANK.of w < s.rf i Reg.DMC_CFG_RANKS →
        s.dmcReady i = true → Completes (.remountGo m w c d) s (fun t => t.rf i Reg.DMC_REMOUNT_STATUS_STATE = 1 ∧
          t.rf i Reg.DMC_REMOUNT_STATUS_FROM = Reg.DMC_REMOUNT_CTL_RANK.of w ∧ t.rf i Reg.DMC_REMOUNT_STATUS_SPARE = q ∧
          t.rf i Reg.DMC_STATUS_STATE = 4 ∧ t.rf i Reg.DMC_ERR_CODE = codeWord 'D' 0x20 ∧ t.rf i Reg.DMC_EVENT_REMOUNT_START = 1 ∧
          (t.dmcAt i).block = 0)) ∧
      (s.spareFree i = none → Completes (.remountGo m w c d) s (fun t =>
        t.rf i Reg.DMC_REMOUNT_STATUS_STATE = s.rf i Reg.DMC_REMOUNT_STATUS_STATE ∧ t.rf i Reg.DMC_STATUS_STATE = s.rf i Reg.DMC_STATUS_STATE))) ∧
    (s.rf i Reg.DMC_STATUS_STATE = 4 → s.rf i Reg.DMC_REMOUNT_STATUS_STATE = 1 →
      (∀ addr errs, (s.dmcAt i).block < s.rankBlocks ch → Completes (.remountCopyBlock ch addr errs) s (fun t =>
        (t.dmcAt i).block = (s.dmcAt i).block + 1 ∧
        t.rf i Reg.DMC_REMOUNT_STATUS_PROGRESS = Nat.min 255 (((s.dmcAt i).block + 1) * 256 / s.rankBlocks ch))) ∧
      (s.rankBlocks ch ≤ (s.dmcAt i).block → Completes (.remountComplete ch) s (fun t => t.rf i Reg.DMC_REMOUNT_STATUS_STATE = 2 ∧
        t.rf i Reg.DMC_STATUS_STATE = 2 ∧ t.rf i Reg.DMC_ERR_CODE = codeWord 'D' 0x21 ∧ t.rf i Reg.DMC_EVENT_REMOUNT_DONE = 1 ∧
        (t.rf i Reg.DMC_STATUS_RETIRED).testBit (s.rf i Reg.DMC_REMOUNT_STATUS_FROM) = true ∧
        cget t.store.retired ch = some (s.rf i Reg.DMC_REMOUNT_STATUS_FROM))))) ∧
  (∀ (s : State) (c : Nat),
    (∀ first second n, (s.wwtAt 1 c 0).running = true → n = 10 * ([unitOf c 0, unitOf c 1].filter s.dmcReady).length → first.length = n →
      second.length = n →
      ((∀ k, k < n → first.getD k 0 % 65536 ≤ second.getD k 0 % 65536 + 3 ∧ second.getD k 0 % 65536 ≤ first.getD k 0 % 65536 + 3 ∧
          first.getD k 0 / 65536 ≤ second.getD k 0 / 65536 + 3 ∧ second.getD k 0 / 65536 ≤ first.getD k 0 / 65536 + 3) →
        Completes (.dramRunComplete c first second) s (fun t => (t.wwtAt 1 c 0).rejects = 0 ∧ t.rf (unitOf c 0) Reg.WWT_LAST_OUTCOME = 0 ∧
          t.rf (unitOf c 0) Reg.WWT_LAST_CLASS = 1)) ∧
      ((∃ k, k < n ∧ first.getD k 0 % 65536 + 3 < second.getD k 0 % 65536) →
        Completes (.dramRunComplete c first second) s (fun t => (t.wwtAt 1 c 0).rejects = (s.wwtAt 1 c 0).rejects + 1 ∧
          t.rf (unitOf c 0) Reg.WWT_LAST_OUTCOME = 1))) ∧
    (s.coachUp c = true →
      (∀ w, Completes (.sramUncorrectable c w) s (fun t => t.rf (unitOf c 0) Reg.DMC_ERR_CODE = codeWord 'M' 2 ∧
        t.rf (unitOf c 0) Reg.DMC_EVENT_UE = 1 ∧ t.rf (unitOf c 1) Reg.DMC_EVENT_UE = 1 ∧
        t.rf 0 (Reg.GLB_MEM_CNT_COUNT.sh 4) = Nat.min 4294967295 (s.rf 0 (Reg.GLB_MEM_CNT_COUNT.sh 4) + 1) ∧
        (∀ g, w = .window g → (t.seamOf g).window.lines = 0))) ∧
      (∀ ce ue, Completes (.sramScrub c ce ue) s (fun t =>
        t.rf 0 Reg.GLB_MEM_CNT_COUNT = Nat.min 4294967295 (s.rf 0 Reg.GLB_MEM_CNT_COUNT + ce) ∧
        t.rf 0 (Reg.GLB_MEM_CNT_COUNT.sh 4) = Nat.min 4294967295 (s.rf 0 (Reg.GLB_MEM_CNT_COUNT.sh 4) + ue.length)))) ∧
    (s.pwr.off = false → ∀ ce ue, Completes (.waybillScrub ce ue) s (fun t =>
      t.rf 0 (Reg.GLB_MEM_CNT_COUNT.sh 8) = Nat.min 4294967295 (s.rf 0 (Reg.GLB_MEM_CNT_COUNT.sh 8) + ce) ∧
      t.rf 0 (Reg.GLB_MEM_CNT_COUNT.sh 12) = Nat.min 4294967295 (s.rf 0 (Reg.GLB_MEM_CNT_COUNT.sh 12) + ue.length) ∧
      (WaybillPlace.daxA ∈ ue → t.store.daxA = false) ∧ (WaybillPlace.slotA ∈ ue → t.store.badA = true))))

/-- R328 to R332. A packet enters a Mews whole where it has room; a tap without room drops it, and the producer of any other kind keeps the rest
until space is freed. The consumer starts a packet once CUT_THROUGH units or its end mark are in and takes it away with its last unit. An abandoned
packet ends with a poison end mark and TRUNCATED, and CLEAR clears the peak. R333. A flush is refused for a Mews that is no job Mews; otherwise it
waits for its packet boundary, where every packet up to the flush point is discarded and counted. A hardware flush of a line Mews leaves one flush
mark in their place; one of a tap leaves a mark for the lines that it lost at the head. -/
def Obligations.MewsCarryPacketsWholeAndFlushAtABoundary : Prop :=
  (∀ (s : State) (c m units clocks : Nat) (last bad : Bool), m < 1024 → ∀ k i, k = mewKey c m → i = unitOf c 0 →
    (s.mewDepth k ≠ 0 → (s.mew k).owed = 0 →
      (s.mewKind k = 1 → s.mewDepth k < (s.mew k).held + units → exec (.mewsPacketWrite c m units last bad) s = .next s) ∧
      ((∀ p, (s.mew k).packets.getLast? = some p → p.ended = true) →
        ((s.mew k).held + units ≤ s.mewDepth k → Completes (.mewsPacketWrite c m units last bad) s (fun t =>
          (t.mew k).packets = (s.mew k).packets ++ [⟨units, 0, last, bad, false, none⟩] ∧ (t.mew k).owed = 0 ∧
          t.rf i (mewF Reg.MEW_FILL_UNITS m) = (t.mew k).held ∧
          (last = true → bad = true → t.rf i Reg.MEW_EVENT_POISON_END = 1 ∧
            t.rf i Reg.MEW_CNT_COUNT = Nat.min 4294967295 (s.rf i Reg.MEW_CNT_COUNT + 1)))) ∧
        (s.mewKind k ≠ 1 → s.mewDepth k < (s.mew k).held + units → Completes (.mewsPacketWrite c m units last bad) s (fun t =>
          (t.mew k).owed = units - (s.mewDepth k - (s.mew k).held))))) ∧
    ((s.mew k).owed ≠ 0 → (s.mew k).held < s.mewDepth k → Completes (.mewsSpaceFreed c m clocks last) s (fun t =>
      (t.mew k).owed = (s.mew k).owed - (s.mewDepth k - (s.mew k).held) ∧
      t.rf i (mewF Reg.MEW_STALL_PROD m) = Nat.min 65535 (s.rf i (mewF Reg.MEW_STALL_PROD m) + clocks / 1024))) ∧
    (∀ p rest, (s.mew k).packets = p :: rest →
      (p.taken = 0 → p.ended = false → p.units < s.rf i (mewF Reg.MEW_PEAK_CUT m) → Completes (.mewsPacketRead c m units clocks) s (fun t =>
        t.mew k = s.mew k ∧ t.rf i (mewF Reg.MEW_STALL_CONS m) = Nat.min 65535 (s.rf i (mewF Reg.MEW_STALL_CONS m) + clocks / 1024))) ∧
      (p.ended = true → p.item = none → p.units ≤ p.taken + units → p.taken ≤ p.units → Completes (.mewsPacketRead c m units clocks) s (fun t =>
        (t.mew k).packets = rest)) ∧
      (p.ended = true ∨ s.rf i (mewF Reg.MEW_PEAK_CUT m) ≤ p.units → p.taken + units < p.units →
        Completes (.mewsPacketRead c m units clocks) s (fun t => (t.mew k).packets = { p with taken := p.taken + units } :: rest))) ∧
    (∀ p, (s.mew k).packets.getLast? = some p → p.ended = false → Completes (.mewsPacketAbandon c m) s (fun t =>
      (t.mew k).packets = (s.mew k).packets.dropLast ++ [{ p with ended := true, bad := true, truncated := true }] ∧ (t.mew k).owed = 0 ∧
      t.rf i Reg.MEW_EVENT_TRUNCATED = 1 ∧ t.rf i Reg.MEW_EVENT_POISON_END = 1 ∧
      t.rf i (Reg.MEW_CNT_COUNT.sh 4) = Nat.min 4294967295 (s.rf i (Reg.MEW_CNT_COUNT.sh 4) + 1))) ∧
    (Reaches s .MEW i → ∀ master w, Completes (.mewPeakClear master w c m) s (fun t => t.rf i (mewF Reg.MEW_PEAK_UNITS m) = 0))) ∧
  (∀ (s : State) (c m : Nat), m < 1024 → ∀ k i, k = mewKey c m → i = unitOf c 0 →
    (∀ master w, Reaches s .MEW i → Reg.MEW_FLUSH_MEWS.of w = m →
      (s.mewKind k ≠ 2 → Completes (.mewsFlush master w c) s (fun t => t.rf i Reg.MEW_FLUSH_STATUS_REFUSED = 1 ∧ t.mews = s.mews)) ∧
      (s.mewKind k = 2 → Completes (.mewsFlush master w c) s (fun t => t.rf i Reg.MEW_FLUSH_STATUS_BUSY = 1 ∧
        (t.mew k).flush = some (s.mew k).packets.length ∧ (t.mew k).packets = (s.mew k).packets))) ∧
    (∀ n, (s.mew k).flush = some n → (s.mew k).atBoundary = true → (s.mew k).endedTo n = true →
      ((s.mew k).hwFlush = false → Completes (.mewsFlushBoundary c m) s (fun t => (t.mew k).packets = (s.mew k).packets.drop n ∧
        (t.mew k).flush = none ∧ t.rf i Reg.MEW_FLUSH_STATUS_BUSY = 0 ∧ t.rf i Reg.MEW_FLUSH_STATUS_DONE = 1 ∧
        t.rf i Reg.MEW_FLUSH_STATUS_DISCARDED = Nat.min 65535 (n + (s.mew k).jobs) ∧ t.rf i Reg.MEW_EVENT_FLUSHED = 1)) ∧
      ((s.mew k).hwFlush = true → ∀ classes,
        (s.mewKind k = 0 → Completes (.mewsHwFlush c m classes) s (fun t =>
          (t.mew k).packets = ⟨1, 0, true, false, false, some .flushMark⟩ :: (s.mew k).packets.drop n ∧ t.rf i Reg.MEW_EVENT_FLUSH_MARK = 1 ∧
          t.rf i (Reg.MEW_CNT_COUNT.sh 12) = Nat.min 4294967295 (s.rf i (Reg.MEW_CNT_COUNT.sh 12) + 1))) ∧
        (s.mewKind k = 1 → Completes (.mewsHwFlush c m classes) s (fun t => t.rf i Reg.MEW_EVENT_FLUSH_MARK = 1 ∧
          ((s.mewEnds k).find? (fun e => e.2.typ == Blk.typeCode .STA) = none →
            ∀ x rest, x = (linesAmong ((s.mew k).packets.take n)).1 → x ≠ 0 → rest = (s.mew k).packets.drop n →
              rest.head?.any MewPkt.isLost = false → (t.mew k).packets = lostMark x rest.head? :: rest))))))

/-- R335, R336, R339, R342, R343. GO is refused while the channel is busy, ends at once with the code of the first start test that holds, and
otherwise starts the channel. Each burst copies its bytes forward, exactly, and a paced one takes a credit or waits for it. The channel completes
with code 0 when nothing is left; ABORT ends a waiting channel with code 7 and lets a moving one finish its bursts. Credits rise by 1 and stay at
65,535. -/
def Obligations.DrayageCopiesBurstsForward : Prop :=
  ∀ (s : State) (m c n : Nat) (w : Word), n < 32 → ∀ i, i = unitOf c 0 →
    (Reaches s .DRY i →
      (s.rf 0 Reg.PWR_STATE_STATE ≠ 3 → Reg.DRY_CH_CTL_ABORT.of w = 0 →
        (s.rf i (dc Reg.DRY_CH_STATUS_STATE n) ≠ 0 → Completes (.drayageGo m c n w) s (fun t =>
          t.rf i (dc Reg.DRY_CH_STATUS_REFUSED n) = 1 ∧ t.rf i (dc Reg.DRY_CH_STATUS_STATE n) = s.rf i (dc Reg.DRY_CH_STATUS_STATE n))) ∧
        (s.rf i (dc Reg.DRY_CH_STATUS_STATE n) = 0 →
          (∀ code, s.dryTest c n = some code → Completes (.drayageGo m c n w) s (fun t => t.rf i (dc Reg.DRY_CH_STATUS_STATE n) = 0 ∧
            t.rf i (dc Reg.DRY_CH_STATUS_CODE n) = code ∧ t.rf i (dc Reg.DRY_CH_RESID_BYTES n) = s.dryCnt c n ∧
            (t.rf i (if code = 0 then Reg.DRY_DONE_CHANNEL else Reg.DRY_ERR_CHANNEL)).testBit n = true)) ∧
          (s.dryTest c n = none → Completes (.drayageGo m c n w) s (fun t => t.rf i (dc Reg.DRY_CH_STATUS_STATE n) = 1 ∧
            t.rf i (dc Reg.DRY_CH_RESID_BYTES n) = s.dryCnt c n)))) ∧
      (Reg.DRY_CH_CTL_GO.of w = 0 →
        (s.rf i (dc Reg.DRY_CH_STATUS_STATE n) = 1 → Completes (.drayageAbort m c n w) s (fun t => t.rf i (dc Reg.DRY_CH_STATUS_STATE n) = 0 ∧
          t.rf i (dc Reg.DRY_CH_STATUS_CODE n) = 7 ∧ t.rf i (dc Reg.DRY_CH_RESID_BYTES n) = s.rf i (dc Reg.DRY_CH_RESID_BYTES n))) ∧
        (s.rf i (dc Reg.DRY_CH_STATUS_STATE n) = 2 → Completes (.drayageAbort m c n w) s (fun t => t.rf i (dc Reg.DRY_CH_STATUS_STATE n) = 3))) ∧
      (∀ k, k < 16 → Completes (.drayageReqClear m c k w) s (fun t => t.rf i (Reg.DRY_REQ_CREDIT.sh (4 * k)) = 0))) ∧
    (∀ left hd hp he, left = s.rf i (dc Reg.DRY_CH_RESID_BYTES n) → left ≠ 0 →
      (s.rf i (dc Reg.DRY_CH_STATUS_STATE n) = 1 ∨ s.rf i (dc Reg.DRY_CH_STATUS_STATE n) = 2) →
      (∀ k, k = s.rf i (dc Reg.DRY_CH_CFG_PACE n) → k < 16 → s.rf i (Reg.DRY_REQ_CREDIT.sh (4 * k)) = 0 →
        exec (.drayageBurst c n hd hp he) s = .next s) ∧
      (∀ len src dst, len = Nat.min left (64 * (if s.rf i (dc Reg.DRY_CH_CFG_BURST n) = 0 then 64 else s.rf i (dc Reg.DRY_CH_CFG_BURST n))) →
        src = s.drySrc c n + (s.dryCnt c n - left) → dst = s.dryDst c n + (s.dryCnt c n - left) →
        s.rf i (dc Reg.DRY_CH_CFG_SRC_SPACE n) = 0 → s.rf i (dc Reg.DRY_CH_CFG_DST_SPACE n) = 0 → s.covered 4096 dst (dst + len) = true →
        (∀ k, k = s.rf i (dc Reg.DRY_CH_CFG_PACE n) → k < 16 → s.rf i (Reg.DRY_REQ_CREDIT.sh (4 * k)) ≠ 0) →
        Completes (.drayageBurst c n hd hp he) s (fun t => t.mem = s.mem.writeBytes dst (s.dramBytes src len) ∧
          t.rf i (dc Reg.DRY_CH_STATUS_STATE n) = 2 ∧ t.rf i (dc Reg.DRY_CH_RESID_BYTES n) = left - len ∧
          (∀ k, k = s.rf i (dc Reg.DRY_CH_CFG_PACE n) → k < 16 →
            t.rf i (Reg.DRY_REQ_CREDIT.sh (4 * k)) + 1 = s.rf i (Reg.DRY_REQ_CREDIT.sh (4 * k)))))) ∧
    (s.rf i (dc Reg.DRY_CH_STATUS_STATE n) = 2 → s.rf i (dc Reg.DRY_CH_RESID_BYTES n) = 0 → Completes (.drayageComplete c n) s (fun t =>
      t.rf i (dc Reg.DRY_CH_STATUS_STATE n) = 0 ∧ t.rf i (dc Reg.DRY_CH_STATUS_CODE n) = 0 ∧ (t.rf i Reg.DRY_DONE_CHANNEL).testBit n = true)) ∧
    (∀ k, k < 14 → c < s.hw.coaches → Completes (.drayageCredit c k) s (fun t =>
      t.rf i (Reg.DRY_REQ_CREDIT.sh (4 * k)) = Nat.min 65535 (s.rf i (Reg.DRY_REQ_CREDIT.sh (4 * k)) + 1)))

/-- R346, R347, R348, R349, R351. A free resource goes to the pending input with the highest number; a holder keeps it until it drops or its
BURST_MAX has passed, when it waits again with its remaining beats. A drop before the first beat costs a dead cycle. An emergency input takes the
grant whoever holds it. An input that waits longer than LIMIT_NS is reported once, and CLEAR_STARVE starts every wait again. -/
def Obligations.TheHighestInputWinsTheGrant : Prop :=
  ∀ (s : State) (c u : Nat), u < 32 → ∀ i, i = unitOf c u →
    (∀ reqs rs, rs = (s.whtAdd i (s.whtAt i) reqs).reqs → s.hasUnit .WHT i = true → (s.whtAt i).holder = none → rs ≠ [] →
      (∀ r ∈ rs, s.whtCurbed i r = false ∧ r.orphan = false) → Completes (.whiffletreeDecision c u reqs) s (fun t =>
        t.rf i Reg.WHT_STATUS_GRANTED = 1 ∧ t.rf i Reg.WHT_CNT_COUNT = (s.rf i Reg.WHT_CNT_COUNT + 1) % 2 ^ 32 ∧
        ∃ r ∈ rs, (∀ x ∈ rs, x.input ≤ r.input) ∧ (t.whtAt i).holder = some (r, s.whtBurst i r.input))) ∧
    (∀ r b, (s.whtAt i).holder = some (r, b) →
      (∀ reqs, s.hasUnit .WHT i = true → Completes (.whiffletreeDecision c u reqs) s (fun t => (t.whtAt i).holder = some (r, b))) ∧
      (s.whtHold i = true → exec (.burstMaxExpire c u) s = .next s) ∧
      (s.whtHold i = false → 0 < b → b < r.beats → (s.whtAt i).reqs = [] → r.orphan = false →
        s.whtCurbed i { r with beats := r.beats - b, preempted := false, since := s.now, told := false } = false →
        Completes (.burstMaxExpire c u) s (fun t => ∃ x y, (t.whtAt i).holder = some (x, y) ∧ x.input = r.input ∧ x.beats = r.beats - b ∧
          t.rf i Reg.WHT_CNT_COUNT = (s.rf i Reg.WHT_CNT_COUNT + 1) % 2 ^ 32)) ∧
      (∀ beats, Completes (.grantDrop c u beats) s (fun t => (t.whtAt i).holder = none ∧ t.rf i Reg.WHT_STATUS_GRANTED = 0 ∧
        (beats = 0 → t.rf i Reg.WHT_EVENT_DEAD = 1 ∧
          t.rf i (Reg.WHT_CNT_COUNT.sh 8) = Nat.min 4294967295 (s.rf i (Reg.WHT_CNT_COUNT.sh 8) + 1)))) ∧
      (∀ beats, whtEmergency u = true → s.hasUnit .WHT i = true → r.input ≠ 15 → Completes (.emergencyPreempt c u beats) s (fun t =>
        (∃ e, (t.whtAt i).holder = some (e, 0) ∧ e.input = 15) ∧ t.rf i Reg.WHT_EVENT_PREEMPT = 1 ∧
        t.rf i (Reg.WHT_CNT_COUNT.sh 4) = Nat.min 4294967295 (s.rf i (Reg.WHT_CNT_COUNT.sh 4) + 1) ∧
        (beats < r.beats → ∃ x ∈ (t.whtAt i).reqs, x.input = r.input ∧ x.preempted = true ∧ x.beats = r.beats - beats)))) ∧
    (∀ r input, (s.whtAt i).reqs.find? (fun r => r.input == input && !r.told &&
        decide (s.rf i Reg.WHT_STARVE_LIMIT_NS < s.now - r.since)) = some r → s.rf i Reg.WHT_STARVE_LIMIT_NS ≠ 0 → input < 16 →
      Completes (.starvation c u input) s (fun t => t.rf i Reg.WHT_EVENT_STARVE = 1 ∧ (t.rf i Reg.WHT_STARVED_INPUT).testBit input = true ∧
        t.rf i (Reg.WHT_CNT_COUNT.sh 12) = Nat.min 4294967295 (s.rf i (Reg.WHT_CNT_COUNT.sh 12) + 1))) ∧
    (Reaches s .WHT i → ∀ m w, Completes (.clearStarve m c u w) s (fun t => t.rf i Reg.WHT_STARVED_INPUT = 0 ∧
      ∀ r ∈ (t.whtAt i).reqs, r.since = s.now ∧ r.told = false))

/-- R354, R355, R357, R358, R362, R364, R367, R368. An event of a running coach's source raises its crossing counter, which stays at 65,535. In a
cycle the channel of each source that waits carries an event, a trunk channel comes out 48 cycles after it entered, and watch flags show it. The
glitch filter takes the level that held, a rate window starts every channel anew, and a write to REI_TRUNK_FIRE fires its channels or is refused
whole. An input edge is a source of C0. -/
def Obligations.ReinsCarryEventsCycleByCycle : Prop :=
  ∀ (s : State),
    (∀ c src ev, c < s.hw.coaches → src < 65536 → ev < 256 →
      ((s.rf 0 Reg.PWR_STATE_COACH_UP).testBit c = false → exec (.reinSourceEvent c src ev) s = .next s) ∧
      ((s.rf 0 Reg.PWR_STATE_COACH_UP).testBit c = true → Completes (.reinSourceEvent c src ev) s (fun t =>
        cgetD t.rein.cross (crossKey c src ev) 0 = Nat.min 65535 (cgetD s.rein.cross (crossKey c src ev) 0 + 1) ∧
        (65535 ≤ cgetD s.rein.cross (crossKey c src ev) 0 → t.rf (unitOf c 0) Reg.REI_EVENT_SRC_SAT = 1)))) ∧
    (s.reinUp = [] → exec .reinCycle s = .next s) ∧
    (s.reinUp ≠ [] → Completes .reinCycle s (fun t => t.rein.fire = [] ∧
      (∀ n, (n, 1) ∈ s.rein.trunk → 64 + n ∈ t.rein.carry ∧
        (n < 32 → s.yoke.commits = [] → s.yoke.armed = [] → (t.rf 0 Reg.REI_TRUNK_WATCH_FLAGS).testBit n = true)) ∧
      (∀ n k, (n, k + 2) ∈ s.rein.trunk → (n, k + 1) ∈ t.rein.trunk) ∧
      (∀ n, n ∈ s.rein.fire → n < 32 → s.keyOpen (64 + n) = true → (n, 48) ∈ t.rein.trunk) ∧
      (∀ c k n, c ∈ s.reinUp → k < 256 → s.rf (unitOf c 0) (Reg.REI_SRC_ENABLE.sh (4 * k)) = 1 →
        n = s.rf (unitOf c 0) (Reg.REI_SRC_CHANNEL.sh (4 * k)) → n < 64 → s.keyOpen (c * 128 + n) = true →
        0 < cgetD s.rein.cross (crossKey c (s.rf (unitOf c 0) (Reg.REI_SRC_SOURCE.sh (4 * k)))
          (s.rf (unitOf c 0) (Reg.REI_SRC_EVENT.sh (4 * k)))) 0 → c * 128 + n ∈ t.rein.carry))) ∧
    (∀ c b, b < 32 →
      (s.rf (unitOf c 0) (Reg.BKL_CFG_FILTER.sh (16 * b)) = 1 → Completes (.buckleGlitchAccept c b) s (fun t =>
        (t.buckle c b).out = (s.buckle c b).prevQ)) ∧
      (s.rf (unitOf c 0) (Reg.BKL_CFG_FILTER.sh (16 * b)) ≠ 1 → exec (.buckleGlitchAccept c b) s = .next s)) ∧
    (∀ k, 0 < s.keyRate k → Completes .reinRateWindow s (fun t => t.keyOpen k = true)) ∧
    (Reaches s .REI 0 → ∀ m w,
      (secureMaster m = true ∨ (∀ n, n < 32 → w.toNat.testBit n = true → s.rf 0 (Reg.REI_TR_CFG_SECURE.sh (8 * n)) = 0) →
        Completes (.reinTrunkFire m w) s (fun t => (∀ n, n < 32 → w.toNat.testBit n = true → n ∈ t.rein.fire) ∧ t.regs = s.regs)) ∧
      (secureMaster m = false → (∃ n, n < 32 ∧ w.toNat.testBit n = true ∧ s.rf 0 (Reg.REI_TR_CFG_SECURE.sh (8 * n)) = 1) →
        Completes (.reinTrunkFire m w) s (fun t => t.rein.fire = s.rein.fire ∧ t.rf 0 Reg.GLB_ERR_CODE = codeWord 'G' 0x0012 ∧
          t.rf 0 Reg.REI_EVENT_DENIED = 1))) ∧
    (∀ pin rising, pin < 32 → s.pwr.off = false → s.gioIsOutput pin = false →
      (s.hw.gio.testBit pin = rising → exec (.gioInputEdge pin rising) s = .next s) ∧
      (s.hw.gio.testBit pin ≠ rising → s.rf 0 Reg.PWR_STATE_STATE = 0 → Completes (.gioInputEdge pin rising) s (fun t =>
        t.hw.gio.testBit pin = rising ∧ ((s.rf 0 Reg.PWR_STATE_COACH_UP).testBit 0 = true → ∀ k, k = crossKey 0 0xF000 (2 * pin + b2n (!rising)) →
          cgetD t.rein.cross k 0 = Nat.min 65535 (cgetD s.rein.cross k 0 + 1)))))

/-- R370, R375, R376. A tick moves the time by 4 ns corrected by the rate. An offset within JUMP_LIMIT locks, one beyond it is refused with G-0020
and waits in TMT_STEP, and an unset part takes it without a command. STEP_ACCEPT lets the next tick take it, STEP_REJECT drops it, SET is refused
while a source leads, and CAPTURE latches the present time. -/
def Obligations.TheTimeStepsOnlyWhereItMay : Prop :=
  ∀ (s : State),
    (∀ n, 0 < n → s.pwr.off = false → s.tmt.step = none → s.pair.handover = none → Completes (.timetableTick n) s (fun t =>
      (t.tmt.ns : Int) * 2 ^ 40 + t.tmt.frac = ((s.tmt.ns : Int) * 2 ^ 40 + s.tmt.frac + n * s.tickInc) % (2 ^ 88 * 1000000000))) ∧
    (∀ m seq origin corr rx o, s.rf 0 Reg.TMT_CFG_ROLE ≠ 0 → s.tmt.master = some m → s.rf 0 Reg.TMT_STATUS_PORT_STATE = 9 →
      o = rne (rx - s.ptpAsym.1 - (origin + corr) - sgn 32 (s.rf 0 Reg.TMT_PATH_DELAY_PS)) 1000 →
      ∀ c, c = Instr.ptpSync m.source seq (s.rf 0 Reg.TMT_CFG_DOMAIN) false origin corr rx →
        (o.natAbs ≤ s.rf 0 Reg.TMT_JUMP_LIMIT_NS → Completes c s (fun t => t.rf 0 Reg.TMT_STATUS_STATE = 3 ∧
          t.rf64 0 Reg.TMT_OFFSET_LO_NS = unsgn 64 o ∧ t.tmt.ns = s.tmt.ns ∧ t.tmt.step = s.tmt.step)) ∧
        (s.rf 0 Reg.TMT_JUMP_LIMIT_NS < o.natAbs → s.rf 0 Reg.TMT_STATUS_STATE ≠ 0 → s.tmt.fromWake = false → Completes c s (fun t =>
          t.rf64 0 Reg.TMT_STEP_LO_NS = unsgn 64 (-o) ∧ t.rf 0 Reg.TMT_STATUS_STEP_PENDING = 1 ∧ t.rf 0 Reg.TMT_EVENT_STEP_REFUSED = 1 ∧
          t.rf 0 Reg.GLB_ERR_CODE = codeWord 'G' 0x0020 ∧ t.rf 0 Reg.TMT_RATE_RATE = s.rf 0 Reg.TMT_RATE_RATE ∧ t.tmt.step = s.tmt.step ∧
          t.rf 0 (Reg.TMT_CNT_COUNT.sh 12) = Nat.min 4294967295 (s.rf 0 (Reg.TMT_CNT_COUNT.sh 12) + 1))) ∧
        (s.rf 0 Reg.TMT_JUMP_LIMIT_NS < o.natAbs → s.rf 0 Reg.TMT_STATUS_STATE = 0 → Completes c s (fun t =>
          t.tmt.step = some (false, -o) ∧ t.rf 0 Reg.TMT_STATUS_STATE = 2))) ∧
    (Reaches s .TMT 0 → ∀ m w, (∀ k, k < 4 → w.toNat.testBit k = false) →
      (s.rf 0 Reg.TMT_STATUS_STEP_PENDING = 1 → Completes (.stepAccept m w) s (fun t => t.rf 0 Reg.TMT_STATUS_STEP_PENDING = 0 ∧
        t.tmt.step = some (false, sgn 64 (s.rf64 0 Reg.TMT_STEP_LO_NS)))) ∧
      Completes (.stepReject m w) s (fun t => t.rf 0 Reg.TMT_STATUS_STEP_PENDING = 0 ∧ t.tmt.step = s.tmt.step) ∧
      (1 ≤ s.rf 0 Reg.TMT_STATUS_SOURCE → s.rf 0 Reg.TMT_STATUS_SOURCE ≤ 3 → Completes (.timeSet m w) s (fun t => t.tmt.step = s.tmt.step ∧
        t.rf 0 Reg.GLB_ERR_CODE = codeWord 'G' 0x0020)) ∧
      (s.rf 0 Reg.TMT_STATUS_SOURCE = 0 → Completes (.timeSet m w) s (fun t => t.tmt.step = some (true, (s.rf64 0 Reg.TMT_SET_LO_NS : Int)))) ∧
      Completes (.capture m w) s (fun t => t.rf64 0 Reg.TMT_CAP_NS = s.tmt.ns % 2 ^ 64 ∧ t.rf 0 Reg.TMT_EVENT_CAPTURE = 1))

/-- R373, R374, R377, R387. With PTP off no message does anything. A Follow_Up completes a two-step Sync; a slave measures the path delay from the
answers to its requests; a master answers Delay_Req and sends Announce and Sync; a new grandmaster identity or no Announce in time means holdover
with its codes; other messages are discarded and counted. -/
def Obligations.PtpMessagesActByTheRoleOfThePort : Prop :=
  ∀ (s : State) (src seq d : Nat) (a b rx : Int),
    (s.rf 0 Reg.TMT_CFG_ROLE = 0 → ∀ id p1 cls acc var p2 utc flags two,
      exec (.ptpSync src seq d two a b rx) s = .next s ∧ exec (.ptpFollowUp src seq d a b) s = .next s ∧
      exec (.ptpDelayReq src seq d rx) s = .next s ∧ exec (.ptpDelayResp src seq d a b) s = .next s ∧
      exec (.ptpPdelayReq src seq d rx) s = .next s ∧ exec (.ptpPdelayResp seq d two a b rx) s = .next s ∧
      exec (.ptpPdelayRespFollowUp seq d a b) s = .next s ∧ exec (.ptpAnnounce src id p1 cls acc var p2 d utc flags) s = .next s ∧
      exec .ptpDiscardedMessage s = .next s ∧ exec (.ptpMasterSend two) s = .next s ∧ exec (.ptpDelayReqSend rx) s = .next s ∧
      exec .announceTimeout s = .next s) ∧
    (s.rf 0 Reg.TMT_CFG_ROLE ≠ 0 → d = s.rf 0 Reg.TMT_CFG_DOMAIN →
      (∀ m, s.tmt.master = some m → m.source = src → s.rf 0 Reg.TMT_STATUS_PORT_STATE = 9 →
        Completes (.ptpSync src seq d true a b rx) s (fun t => t.tmt.sync = some (seq, rx - s.ptpAsym.1, b)) ∧
        (∀ t2 c o, s.tmt.sync = some (seq, t2, c) → o = rne (t2 - (a + b + c) - sgn 32 (s.rf 0 Reg.TMT_PATH_DELAY_PS)) 1000 →
          o.natAbs ≤ s.rf 0 Reg.TMT_JUMP_LIMIT_NS → Completes (.ptpFollowUp src seq d a b) s (fun t =>
            t.rf64 0 Reg.TMT_OFFSET_LO_NS = unsgn 64 o ∧ t.rf 0 Reg.TMT_STATUS_STATE = 3 ∧ t.tmt.sync = none)) ∧
        (s.rf 0 Reg.TMT_CFG_PEER = 0 → ∀ t1 t2 t3, s.tmt.delayReq = some (seq, t3) → s.tmt.lastSync = some (t1, t2) →
          Completes (.ptpDelayResp src seq d a b) s (fun t =>
            t.rf 0 Reg.TMT_PATH_DELAY_PS = unsgn 32 (rne (t2 - t1 + (a - t3 - b)) 2) ∧ t.tmt.delayReq = none)) ∧
        (∀ id p1 cls acc var p2 utc flags, m.identity ≠ id → s.rf 0 Reg.TMT_CFG_ROLE = 1 →
          Completes (.ptpAnnounce src id p1 cls acc var p2 d utc flags) s (fun t =>
            t.tmt.master = some ⟨p1, cls, acc, var, p2, id, src⟩ ∧ t.rf 0 Reg.TMT_STATUS_STATE = 4 ∧ t.rf 0 Reg.TMT_EVENT_GM_CHANGE = 1 ∧
            t.rf 0 Reg.GLB_ERR_CODE = codeWord 'G' 0x0022))) ∧
      (s.rf 0 Reg.TMT_STATUS_PORT_STATE = 6 → s.rf 0 Reg.TMT_CFG_PEER = 0 → Completes (.ptpDelayReq src seq d rx) s (fun t =>
        t.egress = s.egress ++ [⟨.ptp, 9, [seq, src, (rx - s.ptpAsym.1).toNat]⟩] ∧
        t.rf 0 Reg.TMT_CNT_COUNT = Nat.min 4294967295 (s.rf 0 Reg.TMT_CNT_COUNT + 1))) ∧
      (s.rf 0 Reg.TMT_CFG_PEER = 1 →
        (s.rf 0 Reg.TMT_CFG_TWO_STEP = 0 → Completes (.ptpPdelayReq src seq d rx) s (fun t =>
          t.egress = s.egress ++ [⟨.ptp, 3, [seq, src, (rx - s.ptpAsym.1).toNat]⟩])) ∧
        (s.rf 0 Reg.TMT_CFG_TWO_STEP = 1 → Completes (.ptpPdelayReq src seq d rx) s (fun t =>
          t.egress = s.egress ++ [⟨.ptp, 3, [seq, src, (rx - s.ptpAsym.1).toNat]⟩, ⟨.ptp, 10, [seq, src, 1000 * s.now]⟩])) ∧
        (∀ t1, s.tmt.delayReq = some (seq, t1) →
          Completes (.ptpPdelayResp seq d false a b rx) s (fun t =>
            t.rf 0 Reg.TMT_PATH_DELAY_PS = unsgn 32 (rne (rx - s.ptpAsym.1 - t1 - b) 2) ∧ t.tmt.delayReq = none) ∧
          Completes (.ptpPdelayResp seq d true a b rx) s (fun t => t.tmt.pdelay = some (seq, a, rx - s.ptpAsym.1, b)) ∧
          (∀ t2 t4 c, s.tmt.pdelay = some (seq, t2, t4, c) → Completes (.ptpPdelayRespFollowUp seq d a b) s (fun t =>
            t.rf 0 Reg.TMT_PATH_DELAY_PS = unsgn 32 (rne (t4 - t1 - (a - t2) - c - b) 2) ∧ t.tmt.pdelay = none)))) ∧
      Completes .ptpDiscardedMessage s (fun t => t.rf 0 Reg.TMT_CNT_COUNT = Nat.min 4294967295 (s.rf 0 Reg.TMT_CNT_COUNT + 1) ∧
        t.rf 0 (Reg.TMT_CNT_COUNT.sh 8) = Nat.min 4294967295 (s.rf 0 (Reg.TMT_CNT_COUNT.sh 8) + 1)) ∧
      (s.laneHeld (s.rf 0 Reg.TMT_CFG_LANE) = false →
        (s.rf 0 Reg.TMT_CFG_ROLE = 2 → s.rf 0 Reg.TMT_STATUS_PORT_STATE = 6 →
          Completes (.ptpMasterSend true) s (fun t => t.egress = s.egress ++ [⟨.ptp, 0xB, s.tmt.seqs :: s.ownMaster.key⟩] ∧
            t.tmt.seqs = (s.tmt.seqs + 1) % 65536) ∧
          (s.rf 0 Reg.TMT_CFG_TWO_STEP = 0 → Completes (.ptpMasterSend false) s (fun t =>
            t.egress = s.egress ++ [⟨.ptp, 0, [s.tmt.seqs, 1000 * s.now]⟩])) ∧
          (s.rf 0 Reg.TMT_CFG_TWO_STEP = 1 → Completes (.ptpMasterSend false) s (fun t =>
            t.egress = s.egress ++ [⟨.ptp, 0, [s.tmt.seqs]⟩, ⟨.ptp, 8, [s.tmt.seqs, 1000 * s.now]⟩]))) ∧
        (s.rf 0 Reg.TMT_STATUS_PORT_STATE = 9 ∨ s.rf 0 Reg.TMT_CFG_PEER = 1 → Completes (.ptpDelayReqSend rx) s (fun t =>
          t.tmt.delayReq = some (s.tmt.seqs, rx + s.ptpAsym.2) ∧
          t.egress = s.egress ++ [⟨.ptp, if s.rf 0 Reg.TMT_CFG_PEER = 1 then 2 else 1, [s.tmt.seqs]⟩]))) ∧
      (s.tmt.master ≠ none → s.rf 0 Reg.TMT_STATUS_SOURCE = 1 → s.rf 0 Reg.TMT_STATUS_STATE ≠ 4 → Completes .announceTimeout s (fun t =>
        t.rf 0 Reg.TMT_STATUS_STATE = 4 ∧ t.rf 0 Reg.TMT_EVENT_HOLDOVER = 1 ∧ t.rf 0 Reg.TMT_HOLDOVER_AGE_S = 0 ∧
        t.rf 0 Reg.GLB_ERR_CODE = codeWord 'G' 0x0021)))

/-- R378, R379, R380, R381, R382, R383. A push enters the queue in order of instant, is refused by a full one, and one less than 20 µs ahead is late
or dropped. A prefetch reads the template or drops the entry with G-0023; a launch leaves on time, late or not at all, and on the standby of a pair
only in form. An alarm fires once its time is reached and disarms or advances by its period. A target without a valid speed is held, and locks
within its lock-in window. -/
def Obligations.LaunchesAlarmsAndMarkersFireByTime : Prop :=
  ∀ (s : State),
    (Reaches s .TMT 0 → ∀ m w,
      (w.toNat.testBit 31 = false → ∀ at', at' = s.rf64 0 Reg.TMT_LAUNCH_TIME_LO_NS →
        (64 ≤ s.tmt.launches.length → Completes (.launchPush m w) s (fun t => t.rf 0 Reg.TMT_LAUNCH_STATUS_FULL = 1 ∧
          t.tmt.launches = s.tmt.launches)) ∧
        (s.tmt.launches.length < 64 →
          (at' < s.tmt.ns + 20000 → w.toNat.testBit 4 = true → Completes (.launchPush m w) s (fun t => t.tmt.launches = s.tmt.launches ∧
            t.rf 0 Reg.TMT_LAUNCH_STATUS_LAST = 2 ∧ t.rf 0 Reg.TMT_EVENT_LAUNCH_DROP = 1 ∧
            t.rf 0 Reg.TMT_LAUNCH_LAST_TAG_TAG = s.rf 0 Reg.TMT_LAUNCH_TAG_TAG)) ∧
          (s.tmt.ns + 20000 ≤ at' ∨ w.toNat.testBit 4 = false → Completes (.launchPush m w) s (fun t => t.tmt.launches =
            launchInsert ⟨at', s.rf 0 Reg.TMT_LAUNCH_TAG_TAG, getBits w 3 0, w.toNat.testBit 4, 0xFF, false, decide (at' < s.tmt.ns + 20000), none⟩
              s.tmt.launches)))) ∧
      (w.toNat.testBit 30 = false → Completes (.launchFlush m w) s (fun t =>
        t.tmt.launches = s.tmt.launches.filter (fun l => l.marker != 0xFF) ∧
        t.rf 0 (Reg.TMT_CNT_COUNT.sh 24) = Nat.min 4294967295 (s.rf 0 (Reg.TMT_CNT_COUNT.sh 24) +
          (s.tmt.launches.filter (fun l => l.marker == 0xFF)).length)))) ∧
    (∀ k l b, s.tmt.launches.findIdx? s.prefetchDue = some k → s.tmt.launches[k]? = some l →
      b = s.dramBytes (s.rf64 0 Reg.TMT_TPL_BASE_LO_ADDR + 256 * l.template) 256 →
      (leAt b 0 2 < 60 ∨ 240 < leAt b 0 2 ∨ s.ethService (leAt b 4 1) = false → Completes .launchPrefetch s (fun t =>
        t.tmt.launches = s.tmt.launches.eraseIdx k ∧ t.rf 0 Reg.GLB_ERR_CODE = codeWord 'G' 0x0023 ∧ t.rf 0 Reg.TMT_LAUNCH_STATUS_LAST = 2)) ∧
      (60 ≤ leAt b 0 2 → leAt b 0 2 ≤ 240 → s.ethService (leAt b 4 1) = true → Completes .launchPrefetch s (fun t =>
        t.tmt.launches[k]? = some { l with frame := some (leAt b 4 1, b) }))) ∧
    (∀ k l lane b busy, s.tmt.launches.findIdx? (fun l => l.frame.isSome && (l.late || decide (l.instant ≤ (s.now : Int)))) = some k →
      s.tmt.launches[k]? = some l → l.frame = some (lane, b) →
      (s.suppressed = true → Completes (.launchSend busy) s (fun t => t.egress = s.egress ∧ t.rf 0 Reg.TMT_LAUNCH_STATUS_LAST = 0 ∧
        t.tmt.launches = s.tmt.launches.eraseIdx k)) ∧
      (s.suppressed = false →
        (l.late = false → busy = false → Completes (.launchSend busy) s (fun t => t.tmt.launches = s.tmt.launches.eraseIdx k ∧
          t.rf 0 Reg.TMT_LAUNCH_STATUS_LAST = 0 ∧
          ∀ f, f = launchFrame l b false → 60 ≤ f.length → t.egress = s.egress ++ [⟨.ethFrame, lane, (withFcs f).map (fun x => x.toNat)⟩])) ∧
        (l.late = true ∨ busy = true →
          (l.drop = true → Completes (.launchSend busy) s (fun t => t.rf 0 Reg.TMT_LAUNCH_STATUS_LAST = 2 ∧ t.rf 0 Reg.TMT_EVENT_LAUNCH_DROP = 1)) ∧
          (l.drop = false → Completes (.launchSend busy) s (fun t => t.rf 0 Reg.TMT_LAUNCH_STATUS_LAST = 1 ∧ t.rf 0 Reg.TMT_EVENT_LAUNCH_LATE = 1 ∧
            ∀ f, f = launchFrame l b true → 60 ≤ f.length → ⟨.ethFrame, lane, (withFcs f).map (fun x => x.toNat)⟩ ∈ t.egress))))) ∧
    (∀ a, a < 8 → ∀ f : Fld → Fld, f = (fun x => x.sh (0x20 * a)) → ∀ at' p, at' = s.rf64 0 (f Reg.TMT_ALM_TIME_LO_NS) →
      p = s.rf64 0 (f Reg.TMT_ALM_PERIOD_LO_NS) →
      (s.rf 0 (f Reg.TMT_ALM_CTL_ENABLE) = 0 ∨ s.tmt.ns < at' → exec (.alarmFire a) s = .next s) ∧
      (s.rf 0 (f Reg.TMT_ALM_CTL_ENABLE) = 1 → at' ≤ s.tmt.ns → Completes (.alarmFire a) s (fun t =>
        t.rf 0 (f Reg.TMT_ALM_STATUS_FIRED) = 1 ∧ t.rf 0 Reg.TMT_EVENT_ALARM = 1 ∧
        (p = 0 → t.rf 0 (f Reg.TMT_ALM_CTL_ENABLE) = 0) ∧
        (p ≠ 0 → t.rf 0 (f Reg.TMT_ALM_CTL_ENABLE) = 1 ∧
          t.rf64 0 (f Reg.TMT_ALM_TIME_LO_NS) = (at' + ((s.tmt.ns - at') / p + 1) * p) % 2 ^ 64)))) ∧
    ((∀ x ∈ s.tmt.targets, s.webQ < x.pos * nmQ) → s.rf 0 (wp Reg.WAY_STATUS_SPEED_VALID s.webPort) = 0 →
      Completes .markerPredict s (fun t => t.tmt.launches = s.tmt.launches ∧
        t.tmt.targets = s.tmt.targets.map (fun x => { x with held := true, unsure := x.unsure || s.portUnsure s.webPort }))) ∧
    (∀ x at', s.tmt.targets = [x] → s.webQ < x.pos * nmQ → s.markTime x.pos x.marker = some at' → s.tmt.launches.length < 64 →
      at' - 1000 * s.rf 0 (mkf Reg.TMT_MARK_CTL_LOCK_US x.marker) ≤ (s.tmt.ns : Int) → s.rf 0 (mkf Reg.TMT_MARK_CTL_LATE x.marker) = 0 →
      Completes .markerPredict s (fun t => t.tmt.targets = [] ∧ t.tmt.launches = launchInsert
        ⟨at', x.tag, s.rf 0 (mkf Reg.TMT_MARK_CTL_TEMPLATE x.marker), false, x.marker, x.unsure || s.portUnsure s.webPort,
          decide (at' < (s.tmt.ns : Int) + 20000), none⟩ s.tmt.launches))

/-- R395, R397, R398, R401. At an end-of-interrupt a vector whose level is still 1 sends again, and an unmasked one sends what was pending. A bad
frame is discarded whole with its status; a good one makes its access, or is refused while one runs; a response is read once. What waited on a
stopped domain completes once it runs. -/
def Obligations.InterruptsAndOutriderFramesAreAnswered : Prop :=
  ∀ (s : State),
    (Reaches s .GLB 0 → ∀ m w v, v = getBits w 7 0 → v ≠ 0 →
      (s.irqLevel v = false → exec (.irqEoi m w) s = .next s) ∧
      (s.irqLevel v = true → s.irq.masked.contains v = false → Completes (.irqEoi m w) s (fun t => t.egress = s.egress ++ [⟨.msix, v, []⟩])) ∧
      (s.irqLevel v = true → s.irq.masked.contains v = true → Completes (.irqEoi m w) s (fun t => t.egress = s.egress ∧ v ∈ t.irq.pend))) ∧
    (∀ v, Completes (.msixUnmask v) s (fun t => v ∉ t.irq.masked ∧ v ∉ t.irq.pend ∧
      t.egress = s.egress ++ if v ∈ s.irq.masked ∧ v ∈ s.irq.pend then [⟨.msix, v, []⟩] else [])) ∧
    (s.pwr.off = false → s.rf 0 Reg.GLB_BOOT_STAGE_STAGE ≠ 1 →
      (∀ bytes (c : Instr) (f : List Byte),
        (c = .orRead bytes ∧ f = 0x10 :: bytes) ∨ (c = .orWrite bytes ∧ f = 0x20 :: bytes) ∨ (c = .orWriteFifo bytes ∧ f = 0x21 :: bytes) ∨
          (c = .orIdentify bytes ∧ f = 0x40 :: bytes) →
        (frameFault f ≠ 0 → s.out.waiting = none → Completes c s (fun t => t.out.status = frameFault f ∧ t.out.done = 0 ∧
          t.rf 0 Reg.OUT_CNT_ERRORS = Nat.min 65535 (s.rf 0 Reg.OUT_CNT_ERRORS + 1))) ∧
        (frameFault f = 0 → s.out.waiting ≠ none → f.headD 0 ≠ 0x40 → Completes c s (fun t => t.rf 0 Reg.OUT_STATUS_OVERRUN = 1 ∧
          t.out.waiting = s.out.waiting)) ∧
        (frameFault f = 0 → s.out.waiting = none →
          (f.headD 0 = 0x40 → Completes c s (fun t => t.out.status = 0 ∧ t.out.done = 4 ∧ t.out.data = s.outAccept.identity ∧
            t.rf 0 Reg.OUT_CNT_FRAMES = (s.rf 0 Reg.OUT_CNT_FRAMES + 1) % 65536)) ∧
          (∀ u, u = { s.outAccept with out := { s.outAccept.out with status := 0, done := 0, data := [], unread := false, aside := none } } →
            f.getD 5 0 = 0 →
            (f.headD 0 = 0x10 → ∀ r, r = u.busRead mOut (leAt f 1 4) →
              (r.2.2 = .done → Completes c s (fun t => t.out.status = 0 ∧ t.out.done = 1 ∧ t.out.data = [r.1] ∧ t.regs = r.2.1.regs)) ∧
              (r.2.2 = .refused → Completes c s (fun t => t.out.status = 4))) ∧
            (f.headD 0 = 0x20 ∨ f.headD 0 = 0x21 → ∀ r, r = u.busWrite mOut (leAt f 1 4) (BitVec.ofNat 32 (leAt f 6 4)) →
              (r.2 = .done → Completes c s (fun t => t.out.status = 0 ∧ t.out.done = 1 ∧ t.regs = r.1.regs)) ∧
              (r.2 = .refused → Completes c s (fun t => t.out.status = 4)))))) ∧
      (s.rf 0 Reg.OUT_CFG_MODE = 1 → s.out.aside = none →
        (∀ f, s.out.waiting = some f → Completes .orResult s (fun t =>
          t.egress = s.egress ++ [⟨.outrider, 0, outBytes 1 0 (List.replicate (outWords f) 0)⟩])) ∧
        (s.out.waiting = none → s.out.unread = true → Completes .orResult s (fun t => t.out.unread = false ∧
          t.egress = s.egress ++ [⟨.outrider, 0, outBytes s.out.status s.out.done s.out.data⟩])) ∧
        (s.out.waiting = none → s.out.unread = false → Completes .orResult s (fun t =>
          t.egress = s.egress ++ [⟨.outrider, 0, outBytes 6 0 []⟩])))) ∧
    (s.out.waiting = none →
      (s.stalled = [] → exec .stalledAccessResume s = .next s) ∧
      (∀ m off w, s.stalled = [⟨m, off, true, w, none⟩] → ∀ r, r = State.busWrite { s with stalled := [] } m off w → r.1.out.waiting = none →
        exec .stalledAccessResume s = .next r.1) ∧
      (∀ m off w, s.stalled = [⟨m, off, false, w, none⟩] → ∀ r, r = State.busRead { s with stalled := [] } m off → r.2.2 = .done →
        r.2.1.out.waiting = none → exec .stalledAccessResume s = .next (r.2.1.hostReads m r.1)))

/-- R404 to R407, R410. A request that fails a test ends with its Y-code and FAIL; one that passes freezes the values whose stager is the requester.
The check ends with the first rule broken, with Y-0002 last, or leaves the commit pending. Its instant releases it and its values are in force. The
requester or the Outrider cancels it, and DISCARD drops what the master staged. -/
def Obligations.CommitsAreCheckedReleasedOrEnded : Prop :=
  ∀ (s : State),
    (∀ m w scope, Reaches s .YOK m → scope = (if Reg.YOK_CTL_SCOPE.of w = 1 then some (Reg.YOK_CTL_CARRIAGE.of w) else none) →
      (∀ d, s.yokeTests scope (Reg.YOK_CTL_KIND.of w) = some d → Completes (.yokeRequest m w) s (fun t => t.yoke = s.yoke ∧
        t.rf m Reg.YOK_ERR_CODE = codeWord 'Y' d ∧ t.rf m Reg.YOK_STATUS_FAIL = 1)) ∧
      (s.yokeTests scope (Reg.YOK_CTL_KIND.of w) = none → Reg.YOK_CTL_DEFAULTS.of w = 0 → Completes (.yokeRequest m w) s (fun t =>
        t.rf m Reg.YOK_STATUS_STATE = 1 ∧ ∃ c, t.yoke.commits = s.yoke.commits ++ [c] ∧ c.master = m ∧ c.carriage = scope ∧
          c.kind = Reg.YOK_CTL_KIND.of w ∧ c.instant = s.rf64 m Reg.YOK_AT_LO_AT ∧ c.pending = false ∧
          c.values.map (fun e => e.1) = (s.stager.filter (fun e => e.2 == m && s.inScope scope e.1)).map (fun e => e.1))) ∧
      (∀ c, s.yoke.commits.find? (fun c => c.carriage == scope) = some c → c.master ≠ mWwt →
        (c.master = m ∨ m = mOut → Completes (.yokeCancel m w) s (fun t => t.yoke.commits = s.yoke.commits.filter (fun x => x.seq != c.seq) ∧
          t.rf c.master Reg.YOK_ERR_CODE = codeWord 'Y' 0x0007 ∧ t.rf c.master Reg.YOK_STATUS_FAIL = 1 ∧ t.staged = s.staged)) ∧
        (c.master ≠ m → m ≠ mOut → Completes (.yokeCancel m w) s (fun t => t.yoke = s.yoke ∧
          t.rf m Reg.YOK_ERR_CODE = codeWord 'Y' 0x0008))) ∧
      Completes (.yokeDiscard m w) s (fun t => t.yoke = s.yoke ∧ ∀ k, (∃ e ∈ s.stager, e.1 = k ∧ e.2 = m) → s.inScope scope k = true →
        s.frozen k = false → (∀ e ∈ t.staged, e.1 ≠ k) ∧ (∀ e ∈ t.stager, e.1 ≠ k))) ∧
    (∀ scope c, s.yoke.commits.find? (fun c => c.carriage == scope && !c.pending) = some c → c.master ≠ mWwt →
      (∀ d k, s.yokeBreaks c = some (d, k) → Completes (.yokeCheckDone scope) s (fun t =>
        t.yoke.commits = s.yoke.commits.filter (fun x => x.seq != c.seq) ∧ t.rf c.master Reg.YOK_ERR_CODE = codeWord 'Y' d ∧
        t.rf c.master Reg.YOK_STATUS_FAIL = 1 ∧ t.staged = s.staged)) ∧
      (s.yokeBreaks c = none → s.yokeShared scope = false →
        (s.yokePassed c = true → Completes (.yokeCheckDone scope) s (fun t =>
          t.yoke.commits = s.yoke.commits.filter (fun x => x.seq != c.seq) ∧ t.rf c.master Reg.YOK_ERR_CODE = codeWord 'Y' 0x0002)) ∧
        (s.yokePassed c = false → c.checkOnly = true → Completes (.yokeCheckDone scope) s (fun t =>
          t.yoke.commits = s.yoke.commits.filter (fun x => x.seq != c.seq) ∧ t.rf c.master Reg.YOK_STATUS_DONE = 1)) ∧
        (s.yokePassed c = false → c.checkOnly = false → c.kind ≠ 3 → Completes (.yokeCheckDone scope) s (fun t =>
          t.yoke.commits = s.yoke.commits.map (fun x => if x.seq = c.seq then { x with pending := true } else x) ∧ t.staged = s.staged)))) ∧
    (∀ scope c k v d, s.yoke.commits.find? (fun c => c.carriage == scope && c.pending) = some c → s.yokeShared scope = false →
      (s.yokeDue c = false → exec (.yokeRelease scope) s = .next s) ∧
      (s.yokeDue c = true → (∀ x ∈ s.yoke.commits, x.seq = c.seq → x = c) → c.defaults = false → c.master ≠ 0 → c.master ≠ mWwt →
        c.values = [(k, v)] → keyBlk k = .REI → keyOff k ≠ 4 → findDef .REI (keyOff k) = some d → Completes (.yokeRelease scope) s (fun t =>
          t.word .REI (keyInst k) (keyOff k) = (s.word .REI (keyInst k) (keyOff k) &&& ~~~d.maskAcc .RWS) ||| (v &&& d.maskAcc .RWS) ∧
          t.yoke.commits = s.yoke.commits.filter (fun x => x.seq != c.seq) ∧ t.rf c.master Reg.YOK_STATUS_DONE = 1 ∧
          t.rf mHost Reg.YOK_STATUS_APPLIED = 1 ∧ t.rf 0 Reg.YOK_COUNT_APPLIED = (s.rf 0 Reg.YOK_COUNT_APPLIED + 1) % 2 ^ 32 ∧
          (∀ e ∈ t.stager, e.1 ≠ k))))

/-- R415, R416, R417, R418, R446. The first write claims an empty mailbox and others collide; SEND by the writer stamps the message and rings bit 0;
the receiver takes it, the writer withdraws it, a claim lapses and a message not taken shows TIMEOUT. Horns ring for any master and clear for the
receiver. The services of mailboxes 14 and 15 take their request and reply with its TYPE plus 0x80 and a status. -/
def Obligations.MailboxesCarryMessagesAndServices : Prop :=
  ∀ (s : State) (m mb : Nat) (w : Word), mb < 16 → m < 256 →
    (Reaches s .PST 0 →
      (∀ n, 0 < n → n < 16 → s.rf 0 (pst Reg.PST_STATUS_FULL mb) = 0 →
        (s.rf 0 (pst Reg.PST_STATUS_CLAIMED mb) = 0 ∨ s.rf 0 (pst Reg.PST_STATUS_WRITER mb) = m → Completes (.postSlotWrite m mb n w) s (fun t =>
          t.rf 0 (pst Reg.PST_STATUS_CLAIMED mb) = 1 ∧ t.rf 0 (pst Reg.PST_STATUS_WRITER mb) = m ∧ t.slotWord mb n = w)) ∧
        (s.rf 0 (pst Reg.PST_STATUS_CLAIMED mb) = 1 → s.rf 0 (pst Reg.PST_STATUS_WRITER mb) ≠ m → Completes (.postSlotWrite m mb n w) s (fun t =>
          t.rf 0 (pst Reg.PST_STATUS_COLLISION mb) = 1 ∧ t.slotWord mb n = s.slotWord mb n))) ∧
      (s.rf 0 (pst Reg.PST_STATUS_CLAIMED mb) = 1 → s.rf 0 (pst Reg.PST_STATUS_WRITER mb) = m →
        mb < 14 ∨ knownService mb (getBits (s.slotWord mb 0) 15 8) = true → Completes (.postSend m mb w) s (fun t =>
          t.rf 0 (pst Reg.PST_STATUS_FULL mb) = 1 ∧ getBits (t.slotWord mb 0) 7 0 = m ∧
          getBits (t.slotWord mb 0) 31 24 = cgetD s.postSeq mb 0 % 256 ∧ cgetD t.postSeq mb 0 = (cgetD s.postSeq mb 0 + 1) % 256 ∧
          (t.rf 0 (pst Reg.PST_HORN_HORN mb)).testBit 0 = true ∧
          (s.receiverAsleep mb = true → t.rf 0 (pst Reg.PST_STATUS_TIMEOUT mb) = 1))) ∧
      (s.rf 0 (pst Reg.PST_STATUS_FULL mb) = 1 → s.replies = [] →
        (m = mOut ∨ s.rf 0 (pst Reg.PST_CFG_RECEIVER mb) = m → Completes (.postTake m mb w) s (fun t =>
          t.rf 0 (pst Reg.PST_STATUS_FULL mb) = 0 ∧ t.rf 0 (pst Reg.PST_STATUS_TAKEN mb) = 1)) ∧
        (m ≠ mOut → s.rf 0 (pst Reg.PST_CFG_RECEIVER mb) ≠ m → Completes (.postTake m mb w) s (fun t =>
          t.rf 0 (pst Reg.PST_STATUS_FULL mb) = 1)) ∧
        (s.rf 0 (pst Reg.PST_STATUS_WRITER mb) = m → Completes (.postAbort m mb w) s (fun t => t.rf 0 (pst Reg.PST_STATUS_FULL mb) = 0))) ∧
      Completes (.hornRing m mb w) s (fun t => t.word .PST 0 (0x0C + 0x100 * mb) = s.word .PST 0 (0x0C + 0x100 * mb) ||| w) ∧
      (m = mOut ∨ s.rf 0 (pst Reg.PST_CFG_RECEIVER mb) = m → Completes (.hornClear m mb w) s (fun t =>
        t.word .PST 0 (0x0C + 0x100 * mb) = s.word .PST 0 (0x0C + 0x100 * mb) &&& ~~~w)) ∧
      (m ≠ mOut → s.rf 0 (pst Reg.PST_CFG_RECEIVER mb) ≠ m → exec (.hornClear m mb w) s = .next s)) ∧
    (s.rf 0 (pst Reg.PST_STATUS_CLAIMED mb) = 1 → s.replies = [] → Completes (.postClaimLapse mb) s (fun t =>
      t.rf 0 (pst Reg.PST_STATUS_CLAIMED mb) = 0 ∧ t.rf 0 (pst Reg.PST_STATUS_WRITER mb) = 0)) ∧
    (s.rf 0 (pst Reg.PST_STATUS_FULL mb) = 1 → Completes (.postTimeout mb) s (fun t => t.rf 0 (pst Reg.PST_STATUS_FULL mb) = 1 ∧
      t.rf 0 (pst Reg.PST_STATUS_TIMEOUT mb) = 1 ∧ ∀ r ∈ t.replies, r.mailbox ≠ mb)) ∧
    (∀ r, r < 14 → r = getBits (s.slotWord mb 1) 7 0 → s.rf 0 (pst Reg.PST_CFG_RECEIVER r) = getBits (s.slotWord mb 0) 7 0 → s.replies = [] →
      s.rf 0 (pst Reg.PST_STATUS_FULL r) = 0 → s.rf 0 (pst Reg.PST_STATUS_CLAIMED r) = 0 →
      ∀ (served : Nat → Nat → State → Prop), served = (fun typ status t => t.rf 0 (pst Reg.PST_STATUS_FULL mb) = 0 ∧
        t.rf 0 (pst Reg.PST_STATUS_FULL r) = 1 ∧ getBits (t.slotWord r 0) 15 8 = typ + 0x80 ∧ getBits (t.slotWord r 1) 23 16 = status) →
      (mb = 14 →
        (s.asks 14 1 = true → Completes .identity s (fun t => served 1 0 t ∧ t.slotWord r 2 = BitVec.ofNat 32 s.hw.firmware ∧
          t.slotWord r 5 = BitVec.ofNat 32 s.hw.coaches)) ∧
        (s.asks 14 2 = true → (∀ e, s.store.faults[(s.slotWord 14 2).toNat]? = some e → Completes .faultRead s (fun t => served 2 0 t ∧
            t.slotWord r 10 = BitVec.ofNat 32 s.store.faults.length)) ∧
          (s.store.faults[(s.slotWord 14 2).toNat]? = none → Completes .faultRead s (served 2 2))) ∧
        (s.asks 14 3 = true → (getBits (s.slotWord 14 0) 7 0 = mOut → Completes .faultClear s (fun t => served 3 0 t ∧ t.store.faults = [])) ∧
          (getBits (s.slotWord 14 0) 7 0 ≠ mOut → Completes .faultClear s (fun t => served 3 3 t ∧ t.store.faults = s.store.faults))) ∧
        (s.asks 14 4 = true → ((s.slotWord 14 2).toNat < s.hw.coaches → Completes .temps s (served 4 0)) ∧
          (s.hw.coaches ≤ (s.slotWord 14 2).toNat → Completes .temps s (served 4 2)))) ∧
      (mb = 15 → ∀ a, a = s.wwtArgs →
        (s.asks 15 1 = true → (s.running = true → s.wwtExists a.1 a.2.1 a.2.2 = true → Completes .wwtServiceRun s (served 1 0)) ∧
          (s.running = false ∨ s.wwtExists a.1 a.2.1 a.2.2 = false → Completes .wwtServiceRun s (served 1 3))) ∧
        (s.asks 15 2 = true → (s.wwtExists a.1 a.2.1 a.2.2 = true → Completes .wwtServiceState s (fun t => served 2 0 t ∧
            t.slotWord r 4 = BitVec.ofNat 32 (s.wwtAt a.1 a.2.1 a.2.2).rejects)) ∧
          (s.wwtExists a.1 a.2.1 a.2.2 = false → Completes .wwtServiceState s (served 2 2))) ∧
        (s.asks 15 3 = true → (∀ e, s.store.calib[(s.slotWord 15 2).toNat]? = some e → Completes .recordRead s (fun t => served 3 0 t ∧
            t.slotWord r 10 = BitVec.ofNat 32 s.store.calib.length)) ∧
          (s.store.calib[(s.slotWord 15 2).toNat]? = none → Completes .recordRead s (served 3 2)))))

/-- R419, R420, R421. A free Linchpin goes to the master that reads it, and never to a Drayage channel; its owner frees it, and another master's
release records G-0016. A break frees it, marks it broken, rings bit 31 and makes its class suspect. An owner's reset breaks every Linchpin it holds
and no other: the host's with its function, the Outrider's with its lease, a core's with its watchdog. -/
def Obligations.LinchpinsHaveOneOwnerAndBreakWithIt : Prop :=
  ∀ (s : State) (m n : Nat) (w : Word), n < 64 → 0 < m → m < 256 →
    (Reaches s .LCH 0 →
      (s.pinOwner n = 0 → drayMaster m = false → Completes (.linchpinAcquire m n) s (fun t => t.pinOwner n = m ∧
        (m = mHost → ∃ x : Word, t.egress = s.egress ++ [⟨.hostRead, 0, [x.toNat]⟩] ∧ getBits x 0 0 = 1 ∧ getBits x 15 8 = m))) ∧
      (s.pinOwner n ≠ 0 ∨ drayMaster m = true → Completes (.linchpinAcquire m n) s (fun t => t.pinOwner n = s.pinOwner n)) ∧
      (s.pinOwner n = m → Completes (.linchpinRelease m n w) s (fun t => t.pinOwner n = 0)) ∧
      (s.pinOwner n ≠ m → Completes (.linchpinRelease m n w) s (fun t => t.pinOwner n = s.pinOwner n ∧
        t.rf 0 Reg.GLB_ERR_CODE = codeWord 'G' 0x0016)) ∧
      (s.pinOwner n ≠ 0 → Completes (.linchpinForce mOut n w) s (fun t => t.pinOwner n = 0 ∧
        (n < 32 → (t.rf 0 Reg.LCH_BROKEN_LO_PIN).testBit n = true) ∧ (32 ≤ n → (t.rf 0 Reg.LCH_BROKEN_HI_PIN).testBit (n - 32) = true) ∧
        (s.pinClass n ≠ 0 → t.pinSuspect n = true) ∧
        (t.rf 0 (pst Reg.PST_HORN_HORN (s.rf 0 Reg.LCH_HORN_MAILBOX))).testBit 31 = true)) ∧
      (m ≠ mOut → Completes (.linchpinForce m n w) s (fun t => t.pinOwner n = s.pinOwner n))) ∧
    Completes (.linchpinBreak m) s (fun t => t.pinOwner n = if s.pinOwner n = m then 0 else s.pinOwner n) ∧
    (∀ ms, ms = s.rf 0 Reg.LCH_LEASE_MS →
      (ms = 0 ∨ s.tmt.ns < s.out.lastFrame + ms * 1000000 → exec .linchpinLeaseExpire s = .next s) ∧
      (ms ≠ 0 → s.out.lastFrame + ms * 1000000 ≤ s.tmt.ns → Completes .linchpinLeaseExpire s (fun t =>
        t.pinOwner n = if s.pinOwner n = mOut then 0 else s.pinOwner n))) ∧
    (∀ c j, Completes (.coachmanWatchdog c j) s (fun t =>
      t.pinOwner n = if s.pinOwner n = 0x20 + 2 * c + j ∨ s.pinOwner n = mWwt then 0 else s.pinOwner n)) ∧
    (∀ kind, Completes (.pcieReset kind) s (fun t => t.pinOwner n = (if s.pinOwner n = mHost then 0 else s.pinOwner n) ∧
      t.irq.masked = List.range 256 ∧ t.pwr.linkUp = (s.pwr.linkUp && kind != 1) ∧ t.pwr.inD3 = false)) ∧
    (s.pwr.off = false → (s.rf 0 Reg.GLB_STRAP_STRAP).testBit 6 = false → s.rf 0 Reg.PWR_STATE_STATE ≠ 2 → Completes .pciePerst s (fun t =>
      t.pinOwner n = (if s.pinOwner n = mHost then 0 else s.pinOwner n) ∧ t.irq.masked = List.range 256 ∧
      t.pwr.linkUp = decide (7 < s.rf 0 Reg.GLB_BOOT_STAGE_STAGE))) ∧
    Completes (.functionDStateChange false) s (fun t => t.pwr.inD0 = s.pwr.linkUp ∧ t.pwr.inD3 = false ∧ t.pinOwner n = s.pinOwner n) ∧
    Completes (.functionDStateChange true) s (fun t => t.pwr.inD0 = false ∧ t.pwr.inD3 = true ∧
      t.pinOwner n = if s.pinOwner n = mHost ∧ s.pwr.inD0 = true then 0 else s.pinOwner n)

/-- R426, R427, R428, R429, R431, R439. A sleep request is refused with its code or enters: carriages drain, Drayage ends, clocks stop, and Stand or
Box-only is reached with every bypass output low in Box-only. An enabled wake source, or WAKE by a master that may, starts the wake, and its last
step reads Run with WOKEN. A wake during an entry aborts it. -/
def Obligations.SleepIsEnteredAndLeftStepByStep : Prop :=
  ∀ (s : State), s.hw.coaches ≤ 8 → ∀ st, st = s.rf 0 Reg.PWR_STATE_STATE →
    (∀ m w target force, Reaches s .PWR 0 → drayMaster m = false → s.standby = false → target = Reg.PWR_CTL_TARGET.of w →
      force = Reg.PWR_CTL_FORCE.of w →
      (st = 3 ∨ st = 4 ∨ s.rf 0 Reg.HDR_STATUS_PHASE ≠ 0 ∨ s.yoke.commits ≠ [] → Completes (.sleepRequest m w) s (fun t =>
        t.rf 0 Reg.PWR_STATE_STATE = st ∧ t.rf 0 Reg.GLB_ERR_CODE = codeWord 'G' 0x0030 ∧ t.rf 0 Reg.PWR_EVENT_REFUSED = 1)) ∧
      (st = 0 → s.rf 0 Reg.GLB_BOOT_STAGE_STAGE = 12 → s.rf 0 Reg.HDR_STATUS_PHASE = 0 → s.yoke.commits = [] →
        (target = 2 → force = 0 → s.keepInBox = false → s.rf64 0 Reg.DBM_SEQ_LO_SEQ ≠ s.rf64 0 Reg.DBM_ACK_LO_SEQ →
          Completes (.sleepRequest m w) s (fun t => t.rf 0 Reg.PWR_STATE_STATE = 0 ∧ t.rf 0 Reg.GLB_ERR_CODE = codeWord 'G' 0x0031)) ∧
        (target = 1 ∨ target = 2 ∧ (force = 1 ∨ s.keepInBox = true ∧ s.pwr.inD3 = true) → Completes (.sleepRequest m w) s (fun t =>
          t.rf 0 Reg.PWR_STATE_STATE = 3 ∧ t.rf 0 Reg.PWR_STATE_TARGET = target ∧ t.pwr.step = .draining)))) ∧
    (s.pwr.step = .draining → Completes .sleepDrainDone s (fun t => t.pwr.step = .drayage)) ∧
    (s.pwr.step = .drayage → Completes .sleepDrayageDone s (fun t => t.pwr.step = .clocks)) ∧
    (s.pwr.step = .clocks →
      (s.pwr.wakeDuring = true → Completes .sleepClocksStopped s (fun t => t.rf 0 Reg.PWR_STATE_STATE = 4 ∧ t.rf 0 Reg.PWR_EVENT_ABORTED = 1)) ∧
      (s.pwr.wakeDuring = false → s.rf 0 Reg.PWR_STATE_TARGET ≠ 2 → Completes .sleepClocksStopped s (fun t =>
        t.rf 0 Reg.PWR_STATE_STATE = 1 ∧ t.rf 0 Reg.PWR_STATE_COACH_UP = 0 ∧ t.rf 0 Reg.PWR_EVENT_ENTERED = 1 ∧ t.pwr.step = .none)) ∧
      (s.pwr.wakeDuring = false → s.rf 0 Reg.PWR_STATE_TARGET = 2 → Completes .sleepClocksStopped s (fun t =>
        t.rf 0 Reg.PWR_STATE_STATE = 2 ∧ t.rf 0 Reg.PWR_STATE_COACH_UP = 0 ∧ t.rf 0 Reg.PAI_BYP_LEVEL_LEVEL = 0 ∧ t.pwr.linkUp = false))) ∧
    (∀ src idx, s.pwr.off = false → st = 1 ∨ st = 2 → 1 ≤ src → src ≤ 6 →
      (s.wakeEnabled src idx = true → s.pwr.tripped = false → Completes (.wakeEvent src idx) s (fun t => t.rf 0 Reg.PWR_STATE_STATE = 4 ∧
        t.rf 0 Reg.PWR_WAKE_CAUSE_SOURCE = src ∧ (t.rf 0 Reg.PWR_WAKE_CAUSE_SEEN).testBit (src - 1) = true)) ∧
      (s.wakeEnabled src idx = false ∨ s.pwr.tripped = true → Completes (.wakeEvent src idx) s (fun t => t.rf 0 Reg.PWR_STATE_STATE = st ∧
        (t.rf 0 Reg.PWR_WAKE_CAUSE_SEEN).testBit (src - 1) = true))) ∧
    (∀ m w, Reaches s .PWR 0 →
      (st = 1 ∨ st = 2 → m = mOut ∨ m = mHost ∧ st = 1 → s.pwr.tripped = false → Completes (.wakeCommand m w) s (fun t =>
        t.rf 0 Reg.PWR_STATE_STATE = 4 ∧ t.rf 0 Reg.PWR_WAKE_CAUSE_SOURCE = 5)) ∧
      (st = 2 → m = mOut → s.pwr.tripped = true → (760 : Int) ≤ sgn 16 (s.rf 0 Reg.PWR_TEMP_MAX) → Completes (.wakeCommand m w) s (fun t =>
        t.rf 0 Reg.PWR_STATE_STATE = 2 ∧ t.rf 0 Reg.PWR_EVENT_REFUSED = 1)) ∧
      (m ≠ mOut → m ≠ mHost ∨ st ≠ 1 → Completes (.wakeCommand m w) s (fun t => t.rf 0 Reg.PWR_STATE_STATE = st)) ∧
      (s.rf 0 Reg.GLB_BOOT_STAGE_STAGE = 3 → s.rf 0 Reg.GLB_BOOT_STAGE_STATE = 1 →
        (m = mOut → Completes (.bootContinue m w) s (fun t => t.rf 0 Reg.GLB_BOOT_STAGE_STAGE = 4 ∧ t.rf 0 Reg.GLB_BOOT_STAGE_STATE = 0)) ∧
        (m ≠ mOut → Completes (.bootContinue m w) s (fun t => t.rf 0 Reg.GLB_BOOT_STAGE_STAGE = 3)))) ∧
    (∀ copyBad, (st ≠ 4 → exec (.wakeComplete copyBad) s = .next s) ∧
      (st = 4 → s.rf 0 Reg.GLB_BOOT_STAGE_STAGE = 12 → s.pwr.fromBox = false → Completes (.wakeComplete copyBad) s (fun t =>
        t.rf 0 Reg.PWR_STATE_STATE = 0 ∧ t.rf 0 Reg.PWR_EVENT_WOKEN = 1 ∧ t.rf 0 Reg.PWR_STATE_COACH_UP = 2 ^ s.hw.coaches - 1)))

/-- R433, R434, R436, R437, R479, R490, R494, R495. Start-up climbs one stage at a time, holds where a strap or RSTn says so and stops at a fault
with its code. PORn begins stage 1, keeps the Waybill only and fixes the I/O mode by VDD_IO; RSTn, a reset of C0, and the loss of the system
reference or the sample PLL begin stage 3 and keep the P domain; a coach reset takes one coach down until it is ready. A lost lane or PCIe reference
takes its links down. -/
def Obligations.StartUpClimbsAndResetsRestore : Prop :=
  ∀ (s : State), s.hw.coaches ≤ 8 → ∀ stage, stage = s.rf 0 Reg.GLB_BOOT_STAGE_STAGE →
    (∀ fault c train margins cmd, cmd = Instr.startupStageComplete fault c train margins → s.pwr.off = false →
      s.rf 0 Reg.GLB_BOOT_STAGE_STATE = 0 → s.rf 0 Reg.PWR_STATE_STATE = 0 →
      (stage = 1 → Completes cmd s (fun t => t.rf 0 Reg.GLB_BOOT_STAGE_STAGE = 2)) ∧
      (stage = 2 → (s.pwr.rstHeld = false → Completes cmd s (fun t => t.rf 0 Reg.GLB_BOOT_STAGE_STAGE = 3 ∧
          t.rf 0 Reg.GLB_STRAP_STRAP = s.hw.strapPins % 256)) ∧
        (s.pwr.rstHeld = true → Completes cmd s (fun t => t.rf 0 Reg.GLB_BOOT_STAGE_STAGE = 2 ∧ t.rf 0 Reg.GLB_BOOT_STAGE_STATE = 1))) ∧
      (stage = 3 →
        (s.store.daxA = false → s.store.daxB = false → Completes cmd s (fun t => t.rf 0 Reg.GLB_BOOT_STAGE_STATE = 2 ∧
          t.rf 0 Reg.GLB_BOOT_ERR_CODE = codeWord 'G' 0x0050)) ∧
        (s.store.daxA = true ∨ s.store.daxB = true →
          ((s.rf 0 Reg.GLB_STRAP_STRAP).testBit 7 = true → Completes cmd s (fun t => t.rf 0 Reg.GLB_BOOT_STAGE_STAGE = 3 ∧
            t.rf 0 Reg.GLB_BOOT_STAGE_STATE = 1)) ∧
          ((s.rf 0 Reg.GLB_STRAP_STRAP).testBit 7 = false → Completes cmd s (fun t => t.rf 0 Reg.GLB_BOOT_STAGE_STAGE = 4)))) ∧
      (stage = 4 ∨ stage = 5 →
        (fault = true → Completes cmd s (fun t => t.rf 0 Reg.GLB_BOOT_STAGE_STAGE = stage ∧ t.rf 0 Reg.GLB_BOOT_STAGE_STATE = 2 ∧
          t.rf 0 Reg.GLB_BOOT_ERR_CODE = codeWord 'G' (0x004D + stage))) ∧
        (fault = false → Completes cmd s (fun t => t.rf 0 Reg.GLB_BOOT_STAGE_STAGE = stage + 1))) ∧
      (∀ d, stage = 6 → s.dimmFault = some d → Completes cmd s (fun t => t.rf 0 Reg.GLB_BOOT_STAGE_STAGE = 6 ∧
        t.rf 0 Reg.GLB_BOOT_STAGE_STATE = 2 ∧ t.rf 0 Reg.GLB_BOOT_ERR_CODE = codeWord 'D' d)) ∧
      (stage = 6 → s.dimmFault = none → Completes cmd s (fun t => t.rf 0 Reg.GLB_BOOT_STAGE_STAGE = 7)) ∧
      (7 ≤ stage → stage ≤ 11 → s.rf 0 Reg.HDR_STATUS_ACTIVE = 1 → Completes cmd s (fun t => t.rf 0 Reg.GLB_BOOT_STAGE_STAGE = stage + 1))) ∧
    (∀ low vddIo, Completes (.powerOnReset low vddIo) s (fun t => t.rf 0 Reg.GLB_BOOT_STAGE_STAGE = 1 ∧ t.pwr.off = false ∧ t.pwr.rstHeld = low ∧
      t.pwr.io33 = decide (2500 < vddIo) ∧ t.keys = s.keys ∧ t.store = s.store ∧ t.mem = [] ∧ t.dir = [] ∧ t.hdr.active = none)) ∧
    Completes .powerLoss s (fun t => t.pwr.off = true ∧ t.keys = s.keys ∧ t.store.faults = s.store.faults ∧ t.mem = [] ∧ t.dir = []) ∧
    (s.pwr.rstHeld = true → s.pwr.off = false → stage = 2 → s.rf 0 Reg.GLB_BOOT_STAGE_STATE = 1 → Completes .rstnRise s (fun t =>
      t.rf 0 Reg.GLB_BOOT_STAGE_STAGE = 3 ∧ t.pwr.rstHeld = false)) ∧
    (∀ ns, (ns < 200 → exec (.resetPin ns) s = .next s) ∧
      (1000 ≤ ns → s.pwr.off = false → s.pwr.tripped = false → Completes (.resetPin ns) s (fun t => t.rf 0 Reg.GLB_BOOT_STAGE_STAGE = 3 ∧
        t.rf 0 Reg.PWR_STATE_STATE = 0 ∧ t.dir = [] ∧ t.hdr.active = none ∧ t.keys = s.keys ∧
        t.rf 0 Reg.GLB_GUARD_HOST = s.rf 0 Reg.GLB_GUARD_HOST ∧ t.rf64 0 Reg.DBM_SEQ_LO_SEQ = s.rf64 0 Reg.DBM_SEQ_LO_SEQ ∧ t.tmt.ns = s.tmt.ns))) ∧
    (∀ m w c, Reaches s .PWR 0 → c = Reg.PWR_RESET_CTL_COACH.of w →
      (m ≠ mOut → Completes (.coachReset m w) s (fun t => t.rf 0 Reg.PWR_STATE_COACH_UP = s.rf 0 Reg.PWR_STATE_COACH_UP ∧
        t.rf 0 Reg.GLB_ERR_CODE = codeWord 'G' 0x0032)) ∧
      (m = mOut → c ≠ 0 → c < s.hw.coaches → Completes (.coachReset m w) s (fun t => (t.rf 0 Reg.PWR_STATE_COACH_UP).testBit c = false ∧
        c ∈ t.pwr.resetting ∧ t.yoke.commits = [] ∧ t.staged = [] ∧ t.rf 0 Reg.PWR_RESET_CAUSE_CAUSE / 16 ^ c % 16 = 3)) ∧
      (m = mOut → c = 0 → s.pwr.tripped = false → Completes (.coachReset m w) s (fun t => t.rf 0 Reg.GLB_BOOT_STAGE_STAGE = 3))) ∧
    (∀ c train ms margins,
      (s.pwr.resetting.contains c = false → exec (.coachResetReady c train ms margins) s = .next s) ∧
      (s.pwr.resetting.contains c = true → c < 8 → Completes (.coachResetReady c train ms margins) s (fun t => c ∉ t.pwr.resetting ∧
        (t.rf 0 Reg.PWR_STATE_COACH_UP).testBit c = true))) ∧
    (∀ kind c,
      (s.running = false → exec (.pllUnlock kind c) s = .next s ∧ exec (.referenceLoss kind) s = .next s) ∧
      (s.running = true → s.pwr.tripped = false →
        (kind = 0 → c ≠ 0 → c < s.hw.coaches → Completes (.pllUnlock kind c) s (fun t => (t.rf 0 Reg.PWR_STATE_COACH_UP).testBit c = false ∧
          t.rf 0 Reg.CLK_EVENT_UNLOCK = 1)) ∧
        (kind ≠ 0 → Completes (.pllUnlock kind c) s (fun t => t.rf 0 Reg.GLB_BOOT_STAGE_STAGE = 3)) ∧
        Completes (.referenceLoss 0) s (fun t => t.rf 0 Reg.GLB_BOOT_STAGE_STAGE = 3 ∧ t.rf 0 Reg.CLK_LOCK_SYSREF = 0) ∧
        Completes (.referenceLoss 1) s (fun t => t.rf 0 Reg.CLK_LOCK_LANEREF = 0 ∧ t.rf 0 Reg.CLK_EVENT_REF_LOSS = 1) ∧
        Completes (.referenceLoss 2) s (fun t => t.rf 0 Reg.CLK_LOCK_PCIEREF = 0 ∧ t.pwr.linkUp = false)) ∧
      (s.pwr.off = false → Completes (.referenceReturn 0) s (fun t => t.rf 0 Reg.CLK_LOCK_SYSREF = 1) ∧
        Completes (.referenceReturn 1) s (fun t => t.rf 0 Reg.CLK_LOCK_LANEREF = 1) ∧
        (s.rf 0 Reg.CLK_LOCK_PCIEREF = 0 → Completes (.referenceReturn 2) s (fun t => t.rf 0 Reg.CLK_LOCK_PCIEREF = 1 ∧ t.pwr.linkUp = true))))

/-- R438, R439, R441, R442, R443. A sensor update shows the hottest valid sensor, warns at PWR_TEMP.WARN and trips at 110.0 °C into Box-only. A
timer or a command makes a run due, which starts where it may. A TSEN run whose two measurements agree is accepted and marks the bad sensors; one
that does not is rejected, and the third rejection in a row makes the instance unsettled. CLEAR_UNSETTLED restarts the count. -/
def Obligations.TemperaturesTripAndWheelwrightRunsEnd : Prop :=
  ∀ (s : State) (c : Nat), c < s.hw.coaches → s.hw.coaches ≤ 8 →
    (∀ readings temps h, s.pwr.off = false →
      temps = (List.range 16).foldl (fun (m : List (Nat × Nat)) k => cset m (16 * c + k) (readings.getD k 0 % 65536)) s.pwr.temps →
      h = (State.hottest { s with pwr := { s.pwr with temps := temps } }).1 →
      (h < 880 ∨ s.pwr.tripped = true → Completes (.tempSensorUpdate c readings) s (fun t => t.pwr.temps = temps ∧
        t.rf 0 Reg.PWR_TEMP_MAX = unsgn 16 h ∧
        (sgn 16 (s.rf 0 Reg.PWR_TEMP_WARN) ≤ h → sgn 16 (s.rf 0 Reg.PWR_TEMP_MAX) < sgn 16 (s.rf 0 Reg.PWR_TEMP_WARN) →
          t.rf 0 Reg.PWR_EVENT_HOT = 1 ∧ t.rf 0 Reg.GLB_ERR_CODE = codeWord 'G' 0x0040))) ∧
      (880 ≤ h → s.pwr.tripped = false → Completes (.tempSensorUpdate c readings) s (fun t => t.rf 0 Reg.PWR_STATE_STATE = 2 ∧
        t.pwr.tripped = true ∧ t.rf 0 Reg.PWR_EVENT_TRIP = 1 ∧ t.rf 0 Reg.GLB_ERR_CODE = codeWord 'G' 0x0041 ∧
        (s.rf 0 Reg.PWR_STATE_STATE ≠ 2 → t.rf 0 Reg.PAI_BYP_LEVEL_LEVEL = 0)))) ∧
    (∀ cls car, ((s.wwtPeriod cls c car = 0 ∨ s.tmt.ns < (s.wwtAt cls c car).lastRun + s.wwtPeriod cls c car) →
        exec (.wwtTimer cls c car) s = .next s) ∧
      (s.wwtPeriod cls c car ≠ 0 → (s.wwtAt cls c car).lastRun + s.wwtPeriod cls c car ≤ s.tmt.ns → s.wwtExists cls c car = true →
        Completes (.wwtTimer cls c car) s (fun t => (t.wwtAt cls c car).due = true ∨ (t.wwtAt cls c car).running = true))) ∧
    (Reaches s .WWT (unitOf c 0) → ∀ m w cls, cls = 0 ∨ cls = 1 ∨ cls = 4 → w.toNat.testBit cls = true →
      Completes (.wwtRun m c w) s (fun t => (t.wwtAt cls c 0).due = true ∨ (t.wwtAt cls c 0).running = true) ∧
      Completes (.clearUnsettled m c w) s (fun t => (t.wwtAt cls c 0).rejects = 0 ∧
        (t.wwtAt cls c 0).unsettled = (s.wwtAt cls c 0).unsettled ∧ (t.wwtAt cls c 0).baseline = (s.wwtAt cls c 0).baseline)) ∧
    (∀ a b d1 d2, (s.wwtAt 4 c 0).running = true → a.length = 16 → b.length = 16 →
      d1 = tsenDevs ((List.range 16).map (fun k => a.getD k 0 - sgn 16 (cgetD s.store.offsets (16 * c + k) 0))) →
      d2 = tsenDevs ((List.range 16).map (fun k => b.getD k 0 - sgn 16 (cgetD s.store.offsets (16 * c + k) 0))) →
      ((∀ k, k < 16 → (d1.getD k 0 - d2.getD k 0).natAbs ≤ 4) → Completes (.tsenRunComplete c a b) s (fun t =>
        (t.wwtAt 4 c 0).rejects = 0 ∧ (t.wwtAt 4 c 0).unsettled = false ∧ t.rf (unitOf c 0) Reg.WWT_EVENT_ACCEPTED = 1 ∧
        ∀ k, k < 16 → (t.rf (unitOf c 0) Reg.WWT_TSEN_BAD).testBit k = decide (24 < (d2.getD k 0).natAbs))) ∧
      ((∃ k, k < 16 ∧ 4 < (d1.getD k 0 - d2.getD k 0).natAbs) → Completes (.tsenRunComplete c a b) s (fun t =>
        (t.wwtAt 4 c 0).rejects = (s.wwtAt 4 c 0).rejects + 1 ∧ t.rf (unitOf c 0) Reg.WWT_EVENT_REJECTED = 1 ∧
        t.rf (unitOf c 0) Reg.WWT_TSEN_BAD = s.rf (unitOf c 0) Reg.WWT_TSEN_BAD ∧
        ((s.wwtAt 4 c 0).rejects = 2 → (t.wwtAt 4 c 0).unsettled = true ∧ t.rf (unitOf c 0) Reg.WWT_EVENT_UNSETTLED = 1))))

/-- R452, R453, R455, R459, R462, R463, R465, R466, R467. A HELLO decides who is primary, no HELLO or another image leaves a part alone by its hold
input, side B yields, and heartbeats clear or count what was missed. A standby takes over when its hold input falls, or at the third missed
heartbeat with the hold low. Switchover, detach and rejoin move the roles or are refused with P-0012. -/
def Obligations.ThePairAgreesOnOnePrimary : Prop :=
  ∀ (s : State), ∀ role, role = s.rf 0 Reg.PAI_STATUS_STATE →
    (∀ r pairId imageId side theirs c, s.pairRec = some r → c = Instr.pairHello pairId imageId side theirs → role = 1 ∨ role = 4 ∨ role = 5 →
      (pairId ≠ r.pairId ∨ imageId ≠ s.rf64 0 Reg.HDR_ACTIVE_ID_LO_ID → Completes c s (fun t => t.rf 0 Reg.PAI_ERR_CODE = codeWord 'P' 0x0001 ∧
        t.rf 0 Reg.PAI_STATUS_STATE = if s.holdHigh then 5 else 4)) ∧
      (pairId = r.pairId → imageId = s.rf64 0 Reg.HDR_ACTIVE_ID_LO_ID →
        (role = 4 → theirs ≠ 2 → theirs ≠ 4 → Completes c s (fun t => t.rf 0 Reg.PAI_STATUS_STATE = 2)) ∧
        (role ≠ 4 → theirs = 2 ∨ theirs = 4 → Completes c s (fun t => t.rf 0 Reg.PAI_STATUS_STATE = 3 ∧ t.rf 0 Reg.TMT_STATUS_SOURCE = 2)) ∧
        (role ≠ 4 → theirs ≠ 2 → theirs ≠ 4 → side ≠ s.rf 0 Reg.PAI_CFG_SIDE → Completes c s (fun t => t.rf 0 Reg.PAI_STATUS_STATE =
          if s.rf 0 Reg.PAI_CFG_SIDE = (if s.rf 0 Reg.PAI_CFG_PREFERENCE = 2 then 1 else 0) then 2 else 3)))) ∧
    (∀ since, role = 1 → s.pair.joinSince = some since →
      (s.tmt.ns < since + 1000000 * s.rf 0 Reg.PAI_JOIN_MS → exec .pairJoinTimeout s = .next s) ∧
      (since + 1000000 * s.rf 0 Reg.PAI_JOIN_MS ≤ s.tmt.ns →
        (s.holdHigh = true → Completes .pairJoinTimeout s (fun t => t.rf 0 Reg.PAI_STATUS_STATE = 5 ∧
          t.rf 0 Reg.PAI_ERR_CODE = codeWord 'P' 0x0003)) ∧
        (s.holdHigh = false → Completes .pairJoinTimeout s (fun t => t.rf 0 Reg.PAI_STATUS_STATE = 4 ∧
          t.rf 0 Reg.PAI_ERR_CODE = codeWord 'P' 0x0002)))) ∧
    (role = 2 ∨ role = 4 → s.holdHigh = true →
      (s.rf 0 Reg.PAI_CFG_SIDE = 1 → Completes .pairHoldConflict s (fun t => t.rf 0 Reg.PAI_STATUS_STATE = 5 ∧ t.rf 0 Reg.PAI_EVENT_YIELD = 1 ∧
        t.rf 0 Reg.PAI_ERR_CODE = codeWord 'P' 0x0004)) ∧
      (s.rf 0 Reg.PAI_CFG_SIDE = 0 → exec .pairHoldConflict s = .next s)) ∧
    (∀ state sent phi ack web time, (role = 0 → exec (.heartbeat state sent phi ack web time) s = .next s) ∧
      (role ≠ 0 → Completes (.heartbeat state sent phi ack web time) s (fun t => t.rf 0 Reg.PAI_STATUS_MISSED = 0 ∧
        t.rf 0 Reg.PAI_STATUS_PARTNER = state % 8 ∧ t.rf 0 Reg.PAI_STATUS_STATE = role ∧
        (role = 3 → s.pair.aligned = false → t.rf64 0 Reg.DBM_ACK_LO_SEQ = ack % 2 ^ 64)))) ∧
    (role = 0 ∨ s.running = false → exec .heartbeatSend s = .next s) ∧
    (role ≠ 0 → s.running = true → ∀ l ∈ s.mirrorUp, Completes .heartbeatSend s (fun t => ⟨.mirror, 0x41,
      [l, role, s.nextSeq 255, (s.strm 255).phi, s.dbmAck 255, unsgn 64 s.webNm, s.tmt.ns]⟩ ∈ t.egress)) ∧
    (role = 2 ∨ role = 3 → s.running = true →
      (s.rf 0 Reg.PAI_STATUS_MISSED < 2 → Completes .heartbeatMissed s (fun t => t.rf 0 Reg.PAI_STATUS_MISSED = s.rf 0 Reg.PAI_STATUS_MISSED + 1 ∧
        t.rf 0 Reg.PAI_STATUS_STATE = role ∧
        t.rf 0 (Reg.PAI_CNT_COUNT.sh 12) = Nat.min 4294967295 (s.rf 0 (Reg.PAI_CNT_COUNT.sh 12) + 1))) ∧
      (s.rf 0 Reg.PAI_STATUS_MISSED = 2 →
        (role = 2 → Completes .heartbeatMissed s (fun t => t.rf 0 Reg.PAI_STATUS_STATE = 4 ∧ t.rf 0 Reg.PAI_ERR_CODE = codeWord 'P' 0x0002)) ∧
        (role = 3 → s.holdHigh = true → Completes .heartbeatMissed s (fun t => t.rf 0 Reg.PAI_STATUS_STATE = 5 ∧
          t.rf 0 Reg.PAI_ERR_CODE = codeWord 'P' 0x0003)) ∧
        (role = 3 → s.holdHigh = false → Completes .heartbeatMissed s (fun t => t.rf 0 Reg.PAI_STATUS_STATE = 2 ∧
          t.rf 0 Reg.PAI_EVENT_TAKEOVER = 1 ∧ t.rf 0 Reg.PAI_CNT_COUNT = Nat.min 4294967295 (s.rf 0 Reg.PAI_CNT_COUNT + 1))))) ∧
    (role = 3 → s.rf 0 Reg.PAI_PINS_HOLD_EN = 1 → Completes .holdInputLow s (fun t => t.rf 0 Reg.PAI_STATUS_STATE = 2 ∧
      t.rf 0 Reg.PAI_STATUS_HOLD_IN = 0 ∧ t.rf 0 Reg.PAI_EVENT_TAKEOVER = 1)) ∧
    (role ≠ 3 ∨ s.rf 0 Reg.PAI_PINS_HOLD_EN = 0 → Completes .holdInputLow s (fun t => t.rf 0 Reg.PAI_STATUS_STATE = role ∧
      t.rf 0 Reg.PAI_STATUS_HOLD_IN = 0)) ∧
    (Reaches s .PAI 0 → ∀ m w,
      (role = 2 → s.pair.sending = none → s.pair.snapWait = none → s.yoke.commits = [] → s.pair.handover = none →
        Completes (.switchover m w) s (fun t => t.pair.handover = some s.pairPos ∧ t.egress = s.egress ++ [⟨.mirror, 0x4D, [0, s.pairPos]⟩])) ∧
      ((role ≠ 2 ∧ role ≠ 4) ∨ s.yoke.commits ≠ [] → Completes (.switchover m w) s (fun t => t.pair = s.pair ∧
        t.rf 0 Reg.PAI_ERR_CODE = codeWord 'P' 0x0012)) ∧
      (role = 3 → Completes (.detach m w) s (fun t => t.rf 0 Reg.PAI_STATUS_STATE = 5)) ∧
      (role ≠ 3 → Completes (.detach m w) s (fun t => t.rf 0 Reg.PAI_STATUS_STATE = role ∧ t.rf 0 Reg.PAI_ERR_CODE = codeWord 'P' 0x0012)) ∧
      (role = 5 → Completes (.rejoin m w) s (fun t => t.rf 0 Reg.PAI_STATUS_STATE = 1)) ∧
      (role ≠ 5 → Completes (.rejoin m w) s (fun t => t.rf 0 Reg.PAI_STATUS_STATE = role ∧ t.rf 0 Reg.PAI_ERR_CODE = codeWord 'P' 0x0012))) ∧
    (∀ p, (role = 3 ∨ role = 5 → Completes (.switchoverControl p) s (fun t => t.pair.handover = some p)) ∧
      (role ≠ 3 → role ≠ 5 → exec (.switchoverControl p) s = .next s)) ∧
    (∀ target, target = 1 ∨ target = 2 → (role ≠ 3 → exec (.controlSleepRequest target) s = .next s) ∧
      (role = 3 → s.running = true → Completes (.controlSleepRequest target) s (fun t => t.rf 0 Reg.PAI_STATUS_STATE = 1 ∧
        t.rf 0 Reg.PWR_STATE_STATE = 3 ∧ t.rf 0 Reg.PWR_STATE_TARGET = target)))

/-- R412, R456, R458, R459, R460, R461. A standby takes triggers, epochs, commits, records, acknowledgements, factors and the time from its primary,
and confirms or answers what it holds. A digest that differs, or does not come, starts a resync, whose snapshot and lines it takes until its own
input has caught up; the primary marks the end, and one that takes too long fails. -/
def Obligations.TheStandbyFollowsItsPrimary : Prop :=
  ∀ (s : State) (g : Nat), ∀ role, role = s.rf 0 Reg.PAI_STATUS_STATE →
    (role ≠ 3 → ∀ a b c d x y z l, exec (.mirrorTrigger a b x c y z) s = .next s ∧ exec (.mirrorEpoch g a b z) s = .next s ∧
      exec (.records l d) s = .next s ∧ exec (.mirrorAck a) s = .next s ∧ exec (.mirrorTime x) s = .next s ∧
      exec (.digest g a b) s = .next s ∧ exec (.digestTimeout g) s = .next s) ∧
    (role = 3 →
      (∀ p n i pos v u, p < 4 → Completes (.mirrorTrigger p n i pos v u) s (fun t => t.pair.trigs = cset s.pair.trigs p ⟨n, i, pos, v, u⟩)) ∧
      (∀ line e u, s.hasEng .ING g = true → Completes (.mirrorEpoch g line e u) s (fun t =>
        (t.ingOf g).epochs = (s.ingOf g).epochs ++ [(some line, u, s.now)])) ∧
      (∀ seq r phi, Completes (.records [(seq, r)] phi) s (fun t => t.rf64 0 Reg.DBM_SEQ_LO_SEQ = (seq + 1) % 2 ^ 64 ∧
        t.pair.lastRec = some r ∧ t.pair.phi = Nat.max s.pair.phi phi ∧ ⟨.mirror, 0x4E, [seq]⟩ ∈ t.egress)) ∧
      (∀ v, Completes (.mirrorAck v) s (fun t => t.rf64 0 Reg.DBM_ACK_LO_SEQ = v % 2 ^ 64)) ∧
      (∀ o, o.natAbs ≤ s.rf 0 Reg.TMT_JUMP_LIMIT_NS → Completes (.mirrorTime o) s (fun t => t.rf 0 Reg.TMT_STATUS_STATE = 3 ∧
        t.rf64 0 Reg.TMT_OFFSET_LO_NS = unsgn 64 (-o))) ∧
      (∀ ks, s.hasEng .TRU g = true → Completes (.calib g ks) s (fun t => ∃ j, cget t.gain g = some j ∧ j.ks = ks ∧ j.mirrored = true)) ∧
      (∀ line crc mine at', g < 48 → s.pair.own = [⟨g, line, mine, at'⟩] → s.pair.theirs = [] →
        (crc = mine → Completes (.digest g line crc) s (fun t => t.pair.own = [] ∧ t.regs = s.regs)) ∧
        (crc ≠ mine → Completes (.digest g line crc) s (fun t => t.rf 0 Reg.PAI_EVENT_DIGEST = 1 ∧ t.rf 0 Reg.PAI_ERR_CODE = codeWord 'P' 0x0020)) ∧
        (at' + 10000000 ≤ s.tmt.ns → Completes (.digestTimeout g) s (fun t => t.rf 0 Reg.PAI_EVENT_DIGEST = 1 ∧ t.pair.own = [] ∧
          (s.pair.resync = none → s.pair.waiting = [] → ⟨.mirror, 0x4D, [3, g]⟩ ∈ t.egress)))) ∧
      (∀ r, s.pair.resync = some r → r.carriage = g → r.held = none →
        (∀ x, Completes (.mirrorState g (.snapshot x)) s (fun t => t.pair.resync = some { r with from_ := some x.line, last := x.line } ∧
          (t.lblOf g).comps = x.comps)) ∧
        (∀ l, r.from_ ≠ none → r.last < l.grid → s.ownWaits g l.grid = true → Completes (.mirrorState g (.line l)) s (fun t =>
          t.pair.resync = some { r with held := some l }))) ∧
      (∀ r l, s.pair.resync = some r → r.held = some l → Completes .resyncSwitchBack s (fun t => r.carriage ∈ t.pair.synced ∧
        t.rf 0 Reg.PAI_EVENT_RESYNC = 1 ∧ t.rf 0 Reg.PAI_ERR_CODE = codeWord 'P' 0x0021 ∧ ⟨.mirror, 0x4D, [4, r.carriage]⟩ ∈ t.egress))) ∧
    (role = 2 →
      (∀ seq e, (s.strm 255).awaiting = [e] →
        (e.1 ≤ seq → Completes (.recordsHeld seq) s (fun t => (t.strm 255).awaiting = [])) ∧
        (seq < e.1 → Completes (.recordsHeld seq) s (fun t => (t.strm 255).awaiting = [e] ∧ t.mem = s.mem))) ∧
      (s.live g = true → Completes (.resyncRequest g) s (fun t => t.pair.snapWait = some g ∧ t.pair.sending = none)) ∧
      Completes (.resyncDone g) s (fun t => t.rf 0 Reg.PAI_EVENT_RESYNC = 1 ∧ t.rf 0 Reg.PAI_ERR_CODE = codeWord 'P' 0x0021 ∧
        t.pair.sending = none)) ∧
    (∀ r, s.pair.resync = some r → (s.tmt.ns < r.since + 100000000 → exec .resyncTimeout s = .next s) ∧
      (r.since + 100000000 ≤ s.tmt.ns → Completes .resyncTimeout s (fun t => t.rf 0 Reg.PAI_EVENT_RESYNC_FAIL = 1 ∧
        t.rf 0 Reg.PAI_ERR_CODE = codeWord 'P' 0x0022 ∧ (s.pair.waiting = [] → t.pair.resync = none)))) ∧
    (∀ seq carriage inst values check c, c = (⟨0, carriage, 0, inst, false, check, true, false, 0, seq, values⟩ : Commit) →
      (s.yokeFollows = false → exec (.mirrorYoke seq carriage 0 inst false check values) s = .next s ∧ exec (.yokeApply seq inst) s = .next s) ∧
      (s.yokeFollows = true → (∀ x ∈ s.yoke.commits, x.carriage ≠ carriage) →
        (∀ d k, s.yokeBreaks c = some (d, k) → Completes (.mirrorYoke seq carriage 0 inst false check values) s (fun t => t.yoke = s.yoke ∧
          t.egress = s.egress ++ [⟨if role = 3 then .mirror else .ring, 0x45, [seq, codeWord 'Y' d]⟩])) ∧
        (s.yokeBreaks c = none → check = false → Completes (.mirrorYoke seq carriage 0 inst false check values) s (fun t =>
          t.yoke.commits = s.yoke.commits ++ [c] ∧ t.egress = s.egress ++ [⟨if role = 3 then .mirror else .ring, 0x45, [seq, 0]⟩]))) ∧
      (s.yokeFollows = true → Completes (.yokeApply seq inst) s (fun t =>
        t.yoke.armed = s.yoke.armed.map (fun a => if a.seq = seq then { a with pos := some (inst : Int) } else a) ∧
        t.yoke.commits = s.yoke.commits.map (fun x => if x.seq = seq then { x with instant := inst } else x)))) ∧
    (∀ seq code c, s.yoke.commits.find? (fun c => c.seq == seq && !c.pending && c.asked) = some c → c.master ≠ mWwt →
      (code ≠ 0 → Completes (.yokeResult seq code) s (fun t => t.yoke.commits = s.yoke.commits.filter (fun x => x.seq != seq) ∧
        t.rf c.master Reg.YOK_ERR_CODE = codeWord 'Y' 0x0020 ∧ t.rf c.master Reg.YOK_ERR_VALUE_VALUE = code % 2 ^ 32)) ∧
      (code = 0 → 1 < c.awaited → Completes (.yokeResult seq code) s (fun t =>
        t.yoke.commits = s.yoke.commits.map (fun x => if x.seq = seq then { x with awaited := c.awaited - 1 } else x))))

/-- R469, R470, R471, R472, R473. A live member says hello on each ring lane that is up. A hello of the neighbour joins the shared seam where all
agrees and leaves it unjoined otherwise; one that names another position, or a dropped lane, loses the neighbour with P-0040. Partial sets and a
frontier are taken from the east while that seam is joined. -/
def Obligations.RingMembersJoinTheirSeams : Prop :=
  ∀ (s : State), ∀ pos n, pos = s.rf 0 Reg.RNG_CFG_POSITION → n = Nat.max 1 (s.rf 0 Reg.RNG_CFG_SIZE) →
    (s.rf 0 Reg.RNG_STATUS_LIVE = 0 → exec .ringHelloSend s = .next s ∧ ∀ west h, exec (.ringHello west h) s = .next s) ∧
    (s.rf 0 Reg.RNG_STATUS_LIVE = 1 →
      (∀ l, l = s.rf 0 Reg.RNG_CFG_WEST ∨ l = s.rf 0 Reg.RNG_CFG_EAST → s.laneTxUp l = true → Completes .ringHelloSend s (fun t =>
        ⟨.ring, 1, [l, pos, s.rf 0 Reg.RNG_CFG_SIZE, s.gridCd, s.gridMd, unsgn 64 s.head.column0, s.head.totalColumns,
          s.ringOverlap (l == s.rf 0 Reg.RNG_CFG_WEST), s.rf 0 Reg.RNG_STATUS_LEADER, unsgn 64 s.webNm, s.tmt.ns, (s.strm 255).phi]⟩ ∈ t.egress)) ∧
      (∀ h, h.pos = (pos + n - 1) % n → Completes (.ringHello true h) s (fun t => t.ring.west = some h ∧ t.rf 0 Reg.RNG_STATUS_WEST_UP = 1 ∧
        t.rf 0 Reg.RNG_STATUS_WEST_POS = h.pos % 4 ∧
        (0 < pos → t.rf 0 Reg.RNG_STATUS_LOW_JOINED = b2n (s.ringMatches true h)) ∧
        (0 < pos → s.ring.lostWest = true → s.ringMatches true h = true → t.rf 0 Reg.RNG_EVENT_RETURNED = 1))) ∧
      (∀ h, h.pos = (pos + 1) % n → Completes (.ringHello false h) s (fun t => t.ring.east = some h ∧ t.rf 0 Reg.RNG_STATUS_EAST_UP = 1 ∧
        (pos + 1 < s.rf 0 Reg.RNG_CFG_SIZE → t.rf 0 Reg.RNG_STATUS_HIGH_JOINED = b2n (s.ringMatches false h)))) ∧
      (∀ h, h.pos ≠ (pos + n - 1) % n → s.ringHas true = true → Completes (.ringHello true h) s (fun t => t.ring.west = none ∧
        t.rf 0 Reg.RNG_STATUS_WEST_UP = 0 ∧ t.rf 0 Reg.RNG_STATUS_LOW_JOINED = 0 ∧ t.rf 0 Reg.RNG_ERR_CODE = codeWord 'P' 0x0040))) ∧
    (∀ west, (s.inRing = false ∨ s.ringHas west = false → exec (.ringNeighbourLost west) s = .next s) ∧
      (s.inRing = true → s.ringHas west = true → Completes (.ringNeighbourLost west) s (fun t => t.ringHas west = false ∧
        t.rf 0 Reg.RNG_EVENT_LOST = 1 ∧ t.rf 0 Reg.RNG_ERR_CODE = codeWord 'P' 0x0040 ∧
        t.rf 0 (if west then Reg.RNG_STATUS_LOW_JOINED else Reg.RNG_STATUS_HIGH_JOINED) = 0))) ∧
    (∀ frags reports front,
      (s.rf 0 Reg.RNG_STATUS_HIGH_JOINED = 0 → exec (.ringPartialSet frags reports front) s = .next s) ∧
      (s.rf 0 Reg.RNG_STATUS_HIGH_JOINED = 1 → Completes (.ringPartialSet frags reports front) s (fun t =>
        t.rf64 0 Reg.RNG_FRONTIER_LO_LINE = Nat.max front (s.rf64 0 Reg.RNG_FRONTIER_LO_LINE) % 2 ^ 64)))
end

