-- ==== Sys2Proof/Laws/Memory.lean ====
section
/-! SUPPORT. Package DRAM: every operation keeps the canonical form, and a read gives what was written last. -/

namespace Sys2Proof.Machine

/-! ### Ordered cells -/

/-- Every key of a list lies above a bound, and the keys rise. -/
def keysAbove {α : Type} (b : Nat) : List (Nat × α) → Prop
  | [] => True
  | (k, _) :: t => b < k ∧ keysAbove k t

theorem keysAbove_rise {α : Type} {k : Nat} {v : α} {t : List (Nat × α)} : ckeysRise ((k, v) :: t) = true ↔ keysAbove k t := by
  induction t generalizing k v with
  | nil => simp [ckeysRise, keysAbove]
  | cons x t ih => simp [ckeysRise, keysAbove, ih]

theorem keysAbove_mono {α : Type} {a b : Nat} {l : List (Nat × α)} (h : keysAbove b l) (e : a ≤ b) : keysAbove a l := by
  cases l with
  | nil => trivial
  | cons x t => exact ⟨Nat.lt_of_le_of_lt e h.1, h.2⟩

theorem keysAbove_cset {α : Type} {b a : Nat} {x : α} {l : List (Nat × α)} (h : keysAbove b l) (e : b < a) : keysAbove b (cset l a x) := by
  induction l generalizing b with
  | nil => exact ⟨e, trivial⟩
  | cons y t ih =>
    obtain ⟨k, v⟩ := y
    unfold cset
    split
    · next c => exact ⟨e, c, h.2⟩
    · split
      · next c => subst c; exact ⟨e, h.2⟩
      · exact ⟨h.1, ih h.2 (by omega)⟩

theorem keysAbove_cdel {α : Type} {b a : Nat} {l : List (Nat × α)} (h : keysAbove b l) : keysAbove b (cdel l a) := by
  induction l generalizing b with
  | nil => trivial
  | cons y t ih =>
    obtain ⟨k, v⟩ := y
    unfold cdel
    split
    · exact keysAbove_mono h.2 (Nat.le_of_lt h.1)
    · exact ⟨h.1, ih h.2⟩

theorem keysAbove_filter {α : Type} {b : Nat} {p : Nat × α → Bool} {l : List (Nat × α)} (h : keysAbove b l) : keysAbove b (l.filter p) := by
  induction l generalizing b with
  | nil => trivial
  | cons y t ih =>
    obtain ⟨k, v⟩ := y
    unfold List.filter
    split
    · exact ⟨h.1, ih h.2⟩
    · exact keysAbove_mono (ih h.2) (Nat.le_of_lt h.1)

/-- The keys of an ordered list lie above some bound once they are counted from 1. -/
theorem rise_cons {α : Type} {x : Nat × α} {t : List (Nat × α)} : ckeysRise (x :: t) = true ↔ keysAbove x.1 t := keysAbove_rise

theorem cget_above {α : Type} {a b : Nat} {l : List (Nat × α)} (h : keysAbove b l) (e : a ≤ b) : cget l a = none := by
  induction l generalizing b with
  | nil => rfl
  | cons y t ih =>
    obtain ⟨k, v⟩ := y
    have := h.1
    simp only [cget]
    rw [if_neg (by omega)]
    exact ih h.2 (by omega)

/-- A read after a write, of the key written and of another. -/
theorem cget_cset {α : Type} (l : List (Nat × α)) (a b : Nat) (x : α) : cget (cset l a x) b = if b = a then some x else cget l b := by
  induction l with
  | nil => simp [cset, cget]
  | cons y t ih =>
    obtain ⟨k, v⟩ := y
    unfold cset
    split
    · simp [cget]
    · split
      · next c =>
        subst c
        by_cases e : b = a <;> simp [cget, e]
      · next c d =>
        by_cases e : b = k
        · subst e
          have : ¬ b = a := fun q => d q.symm
          simp [cget, this]
        · simp [cget, e, ih]

theorem cget_cset_same {α : Type} (l : List (Nat × α)) (a : Nat) (x : α) : cget (cset l a x) a = some x := by simp [cget_cset]

theorem cget_cset_other {α : Type} (l : List (Nat × α)) {a b : Nat} (x : α) (h : b ≠ a) : cget (cset l a x) b = cget l b := by
  simp [cget_cset, h]

/-- A read after a key is taken out. -/
theorem cget_cdel {α : Type} {l : List (Nat × α)} (h : ckeysRise l = true) (a b : Nat) : cget (cdel l a) b = if b = a then none else cget l b := by
  induction l with
  | nil => simp [cdel, cget]
  | cons y t ih =>
    obtain ⟨k, v⟩ := y
    have ha := keysAbove_rise.mp h
    have ht : ckeysRise t = true := by
      cases t with
      | nil => rfl
      | cons z u => exact keysAbove_rise.mpr ha.2
    unfold cdel
    split
    · next c =>
      subst c
      by_cases e : b = a
      · subst e
        simpa using cget_above ha (Nat.le_refl _)
      · simp [cget, e]
    · next c =>
      by_cases e : b = k
      · subst e
        have : ¬ b = a := fun q => c q.symm
        simp [cget, this]
      · simp [cget, e, ih ht]

/-! ### The canonical form -/

/-- The canonical form by a bound below every address. -/
def Memory.above (b : Nat) (m : Memory) : Prop := keysAbove b m ∧ ∀ e ∈ m, e.2 ≠ 0

theorem Memory.wf_iff {x : Nat × Byte} {t : Memory} : Memory.wf (x :: t) = true ↔ keysAbove x.1 t ∧ ∀ e ∈ x :: t, e.2 ≠ 0 := by
  simp only [Memory.wf, Bool.and_eq_true, rise_cons, List.all_eq_true, bne_iff_ne, ne_eq]

theorem Memory.wf_nil : Memory.wf [] = true := rfl

theorem ckeysRise_cset {α : Type} {l : List (Nat × α)} (h : ckeysRise l = true) (a : Nat) (x : α) : ckeysRise (cset l a x) = true := by
  cases l with
  | nil => rfl
  | cons y t =>
    obtain ⟨k, v⟩ := y
    have ht := keysAbove_rise.mp h
    unfold cset
    split
    · next c => exact keysAbove_rise.mpr ⟨c, ht⟩
    · split
      · next c => subst c; exact keysAbove_rise.mpr ht
      · exact keysAbove_rise.mpr (keysAbove_cset ht (by omega))

theorem ckeysRise_cdel {α : Type} {l : List (Nat × α)} (h : ckeysRise l = true) (a : Nat) : ckeysRise (cdel l a) = true := by
  cases l with
  | nil => rfl
  | cons y t =>
    obtain ⟨k, v⟩ := y
    have ht := keysAbove_rise.mp h
    unfold cdel
    split
    · cases t with
      | nil => rfl
      | cons z u => exact keysAbove_rise.mpr ht.2
    · exact keysAbove_rise.mpr (keysAbove_cdel ht)

theorem ckeysRise_filter {α : Type} {l : List (Nat × α)} (h : ckeysRise l = true) (p : Nat × α → Bool) : ckeysRise (l.filter p) = true := by
  induction l with
  | nil => rfl
  | cons y t ih =>
    have ht := rise_cons.mp h
    have hr : ckeysRise t = true := by
      cases t with
      | nil => rfl
      | cons z u => exact rise_cons.mpr ht.2
    unfold List.filter
    split
    · exact rise_cons.mpr (keysAbove_filter ht)
    · exact ih hr

theorem mem_cset {α : Type} {l : List (Nat × α)} {a : Nat} {x : α} {e : Nat × α} (h : e ∈ cset l a x) : e = (a, x) ∨ e ∈ l := by
  induction l with
  | nil => simpa [cset] using h
  | cons y t ih =>
    obtain ⟨k, v⟩ := y
    unfold cset at h
    split at h
    · simpa using h
    · split at h
      · rcases List.mem_cons.mp h with h | h
        · exact .inl h
        · exact .inr (List.mem_cons_of_mem _ h)
      · rcases List.mem_cons.mp h with h | h
        · exact .inr (h ▸ List.mem_cons_self)
        · exact (ih h).imp id (List.mem_cons_of_mem _)

theorem mem_cdel {α : Type} {l : List (Nat × α)} {a : Nat} {e : Nat × α} (h : e ∈ cdel l a) : e ∈ l := by
  induction l with
  | nil => exact h
  | cons y t ih =>
    obtain ⟨k, v⟩ := y
    unfold cdel at h
    split at h
    · exact List.mem_cons_of_mem _ h
    · rcases List.mem_cons.mp h with h | h
      · exact h ▸ List.mem_cons_self
      · exact List.mem_cons_of_mem _ (ih h)

theorem Memory.wf_split (m : Memory) : m.wf = true ↔ ckeysRise m = true ∧ ∀ e ∈ m, e.2 ≠ 0 := by
  simp only [Memory.wf, Bool.and_eq_true, List.all_eq_true, bne_iff_ne, ne_eq]

/-- Storing a byte keeps the canonical form. -/
theorem Memory.wf_put {m : Memory} (h : m.wf = true) (a : Nat) (b : Byte) : (m.put a b).wf = true := by
  rw [Memory.wf_split] at h ⊢
  unfold Memory.put
  split
  · exact ⟨ckeysRise_cdel h.1 a, fun e he => h.2 e (mem_cdel he)⟩
  · next c =>
    refine ⟨ckeysRise_cset h.1 a b, fun e he => ?_⟩
    rcases mem_cset he with rfl | he
    · exact c
    · exact h.2 e he

/-- Storing bytes keeps the canonical form. -/
theorem Memory.wf_writeBytes (l : List Byte) {m : Memory} (h : m.wf = true) (a : Nat) : (m.writeBytes a l).wf = true := by
  induction l generalizing m a with
  | nil => exact h
  | cons b t ih => exact ih (Memory.wf_put h a b) (a + 1)

/-- A selection of bytes has the canonical form. -/
theorem Memory.wf_filter {m : Memory} (h : m.wf = true) (p : Nat × Byte → Bool) : Memory.wf (m.filter p) = true := by
  rw [Memory.wf_split] at h ⊢
  exact ⟨ckeysRise_filter h.1 p, fun e he => h.2 e (List.mem_filter.mp he).1⟩

/-- Taking a range out keeps the canonical form. -/
theorem Memory.wf_wipe {m : Memory} (h : m.wf = true) (lo hi : Nat) : (m.wipe lo hi).wf = true := Memory.wf_filter h _

/-- Taking several ranges out keeps it. -/
theorem Memory.wf_wipes {α : Type} (l : List α) (lo hi : α → Nat) {m : Memory} (h : m.wf = true) :
    Memory.wf (l.foldl (fun (x : Memory) r => x.wipe (lo r) (hi r)) m) = true := by
  induction l generalizing m with
  | nil => exact h
  | cons r t ih => exact ih (Memory.wf_wipe h _ _)

/-- What a load keeps of DRAM has the canonical form. -/
theorem Memory.wf_moveKept {m : Memory} (h : m.wf = true) (kept : List (Nat × Nat × Nat)) : (m.moveKept kept).wf = true := by
  have one : ∀ (l : Memory) (f : Nat → Nat) (a : Memory), a.wf = true → Memory.wf (l.foldl (fun (x : Memory) e => x.put (f e.1) e.2) a) = true := by
    intro l f
    induction l with
    | nil => exact fun a ha => ha
    | cons e t ih => exact fun a ha => ih _ (Memory.wf_put ha _ _)
  have all : ∀ (l : List (Nat × Nat × Nat)) (a : Memory), a.wf = true → Memory.wf (l.foldl (fun (acc : Memory) r =>
      (m.filter (fun e => decide (r.1 ≤ e.1) && decide (e.1 < r.1 + r.2.1))).foldl (fun (x : Memory) e => x.put (e.1 - r.1 + r.2.2) e.2) acc) a) = true := by
    intro l
    induction l with
    | nil => exact fun a ha => ha
    | cons r t ih => exact fun a ha => ih _ (one _ (fun n => n - r.1 + r.2.2) _ ha)
  exact all kept _ (Memory.wf_filter h _)

/-! ### Reads after writes -/

/-- The byte read after a byte is stored. -/
theorem Memory.byte_put {m : Memory} (h : m.wf = true) (a b : Nat) (v : Byte) : (m.put a v).byte b = if b = a then v else m.byte b := by
  have hr := ((Memory.wf_split m).mp h).1
  unfold Memory.put Memory.byte cgetD
  by_cases c : v = 0
  · rw [if_pos c, cget_cdel hr]
    by_cases e : b = a <;> simp [e, c]
  · rw [if_neg c, cget_cset]
    by_cases e : b = a <;> simp [e]

/-- A byte outside those stored reads as before. -/
theorem Memory.byte_writeBytes_outside (l : List Byte) {m : Memory} (h : m.wf = true) (a b : Nat) (e : b < a ∨ a + l.length ≤ b) :
    (m.writeBytes a l).byte b = m.byte b := by
  induction l generalizing m a with
  | nil => rfl
  | cons v t ih =>
    simp only [List.length_cons] at e
    unfold Memory.writeBytes
    rw [ih (Memory.wf_put h a v) (a + 1) (by omega), Memory.byte_put h, if_neg (by omega)]

/-- A byte among those stored reads as stored. -/
theorem Memory.byte_writeBytes_inside (l : List Byte) {m : Memory} (h : m.wf = true) (a k : Nat) (e : k < l.length) :
    (m.writeBytes a l).byte (a + k) = l.getD k 0 := by
  induction l generalizing m a k with
  | nil => simp at e
  | cons v t ih =>
    unfold Memory.writeBytes
    cases k with
    | zero =>
      rw [Memory.byte_writeBytes_outside t (Memory.wf_put h a v) _ _ (.inl (by omega)), Memory.byte_put h]
      simp
    | succ k =>
      have := ih (Memory.wf_put h a v) (a + 1) k (by simpa using e)
      rw [show a + (k + 1) = a + 1 + k by omega, this]
      rfl

end Sys2Proof.Machine
end

