-- ==== Sys2Proof/Laws/Keeps.lean ====
section
/-! SUPPORT. Frames: which fields of State, and the registers of which blocks, an operation may change. A mask has one bit for each field and one
for each register block; `Keeps m r s` says that s differs from r at most where m has a bit, and that what always stands stands: memory keeps its
canonical form, key slots only go forward (R63), what left the part stays left, open values are drawn once. -/

namespace Sys2Proof.Machine

/-- The place of a field in a mask. -/
def Field.place : Field → Nat
  | .pending => 0 | .freeCtr => 1 | .hw => 2 | .regs => 3 | .staged => 4 | .stager => 5 | .ydef => 6 | .latch => 7 | .dir => 8 | .irq => 9
  | .egress => 10 | .out => 11 | .stalled => 12 | .replies => 13 | .postSeq => 14 | .pwr => 15 | .hdr => 16 | .keys => 17 | .store => 18
  | .wwt => 19 | .rein => 20 | .yoke => 21 | .tmt => 22 | .way => 23 | .mem => 24 | .poison => 25 | .dmc => 26 | .dry => 27 | .wht => 28
  | .mews => 29 | .ing => 30 | .sta => 31 | .tru => 32 | .rga => 33 | .seam => 34 | .gain => 35 | .seamFix => 36 | .spr => 37 | .seg => 38
  | .hist => 39 | .lbl => 40 | .dbm => 41 | .pat => 42 | .tapLost => 43 | .lanes => 44 | .conns => 45 | .arc => 46 | .jobs => 47
  | .pvw => 48 | .pair => 49 | .ring => 50 | .stale => 51

/-- The mask bit of a block's registers. -/
def blkBit (b : Blk) : Nat := 2 ^ (64 + b.code)

/-- A mask lies in another. -/
def Sub (a b : Nat) : Prop := a ||| b = b

/-- What s has in common with r. -/
structure Keeps (m : Nat) (r s : State) : Prop where
  same : ∀ f : Field, m.testBit f.place = false → f.same r s
  regs : ∀ b : Blk, m.testBit (64 + b.code) = false → ∀ k, keyBlk k = b → cget r.regs k = cget s.regs k
  memWf : r.mem.wf = true → s.mem.wf = true
  keys : KeysGrow r.keys s.keys
  drawn : r.freeCtr ≤ s.freeCtr
  left : ∃ l, s.egress = r.egress ++ l

/-- The same of an outcome that is a next state. -/
def KeepsO (m : Nat) (r : State) (o : Host.Outcome State Fault Refusal) : Prop := ∀ t, o = .next t → Keeps m r t

/-- The same of a state that comes with something taken from it. -/
def KeepsT {α : Type} (m : Nat) (r : State) (o : Option (α × State)) : Prop := ∀ x, o = some x → Keeps m r x.2

/-! ### Masks -/

theorem Sub.refl (a : Nat) : Sub a a := Nat.or_self a

theorem Sub.bit {a b : Nat} (h : Sub a b) {n : Nat} (hn : b.testBit n = false) : a.testBit n = false := by
  have e : (a ||| b).testBit n = b.testBit n := by rw [h]
  rw [Nat.testBit_or, hn, Bool.or_false] at e
  exact e

theorem Sub.trans {a b c : Nat} (h : Sub a b) (k : Sub b c) : Sub a c := by
  unfold Sub at *
  rw [← k, ← Nat.or_assoc, h]

theorem Sub.or {a b c : Nat} (h : Sub a c) (k : Sub b c) : Sub (a ||| b) c := by
  unfold Sub at *
  rw [Nat.or_assoc, k, h]

theorem Sub.l {a b c : Nat} (h : Sub a b) : Sub a (b ||| c) := by
  unfold Sub at *
  rw [← Nat.or_assoc, h]

theorem Sub.r (a b : Nat) : Sub a (b ||| a) := by
  unfold Sub
  rw [Nat.or_comm b a, ← Nat.or_assoc, Nat.or_self]

/-- A mask of every block holds each block's bit. -/
theorem Sub.anyBlk (b : Blk) {m : Nat} (h : Sub 0xFFFFFFFF0000000000000000 m) : Sub (blkBit b) m :=
  Sub.trans (by cases b <;> rfl) h

/-- A block's bit, by the block that it is. -/
theorem Sub.blk {b : Blk} (c : Blk) {m : Nat} (e : b = c) (h : Sub (blkBit c) m) : Sub (blkBit b) m := by
  rw [e]
  exact h

theorem blk_ite {c : Prop} [Decidable c] {f g : Fld} {b : Blk} (h : f.blk = b) (k : g.blk = b) : (if c then f else g).blk = b := by
  split <;> assumption

/-! ### Key slots -/

theorem KeySlot.grows_refl (k : KeySlot) : k.grows k := by
  cases k <;> simp [KeySlot.grows]

theorem KeySlot.grows_trans {a b c : KeySlot} (h : a.grows b) (k : b.grows c) : a.grows c := by
  cases a with
  | empty => trivial
  | enrolled d =>
    rcases h with rfl | rfl
    · exact k
    · exact .inr k
  | revoked d =>
    cases h
    exact k

theorem KeysGrow.refl (a : List KeySlot) : KeysGrow a a := ⟨rfl, fun _ => KeySlot.grows_refl _⟩

theorem KeysGrow.trans {a b c : List KeySlot} (h : KeysGrow a b) (k : KeysGrow b c) : KeysGrow a c :=
  ⟨h.1.trans k.1, fun n => KeySlot.grows_trans (h.2 n) (k.2 n)⟩

/-- A change of one slot that goes forward. -/
theorem KeysGrow.lmod {f : KeySlot → KeySlot} (hf : ∀ k : KeySlot, k.grows (f k)) (a : List KeySlot) (n : Nat) : KeysGrow a (lmod a n f) := by
  induction a generalizing n with
  | nil => exact KeysGrow.refl _
  | cons x t ih =>
    cases n with
    | zero =>
      refine ⟨by simp [Machine.lmod], fun j => ?_⟩
      cases j with
      | zero => exact hf x
      | succ j => exact KeySlot.grows_refl _
    | succ n =>
      refine ⟨by simpa [Machine.lmod] using (ih n).1, fun j => ?_⟩
      cases j with
      | zero => exact KeySlot.grows_refl _
      | succ j => simpa [Machine.lmod] using (ih n).2 j

/-! ### How frames compose -/

theorem Keeps.refl (m : Nat) (s : State) : Keeps m s s where
  same f _ := by cases f <;> rfl
  regs _ _ _ _ := rfl
  memWf h := h
  keys := KeysGrow.refl _
  drawn := Nat.le_refl _
  left := ⟨[], by simp⟩

theorem Field.same_trans (f : Field) {r s t : State} (h : f.same r s) (k : f.same s t) : f.same r t := by
  cases f <;> exact Eq.trans h k

theorem Keeps.then {m m' : Nat} {r s t : State} (h : Keeps m r s) (k : Keeps m' s t) (e : Sub m' m) : Keeps m r t where
  same f hf := f.same_trans (h.same f hf) (k.same f (e.bit hf))
  regs b hb n hn := (h.regs b hb n hn).trans (k.regs b (e.bit hb) n hn)
  memWf hw := k.memWf (h.memWf hw)
  keys := h.keys.trans k.keys
  drawn := Nat.le_trans h.drawn k.drawn
  left := by
    obtain ⟨x, hx⟩ := h.left
    obtain ⟨y, hy⟩ := k.left
    exact ⟨x ++ y, by rw [hy, hx, List.append_assoc]⟩

/-- A wider mask. -/
theorem Keeps.widen {m m' : Nat} {s t : State} (k : Keeps m' s t) (e : Sub m' m) : Keeps m s t := (Keeps.refl m s).then k e

theorem Keeps.ite {m : Nat} {r s t : State} {c : Prop} [Decidable c] (h : Keeps m r s) (k : Keeps m r t) : Keeps m r (if c then s else t) := by
  split <;> assumption

theorem Keeps.ite_fst {α : Type} {m : Nat} {r : State} {s t : State × α} {c : Prop} [Decidable c] (h : Keeps m r s.1) (k : Keeps m r t.1) :
    Keeps m r (if c then s else t).1 := by
  split <;> assumption

theorem Keeps.ite_snd {α : Type} {m : Nat} {r : State} {s t : α × State} {c : Prop} [Decidable c] (h : Keeps m r s.2) (k : Keeps m r t.2) :
    Keeps m r (if c then s else t).2 := by
  split <;> assumption

theorem Keeps.fold {α : Type} {m : Nat} {r s : State} {f : State → α → State} {l : List α} (h : Keeps m r s) (k : ∀ t x, Keeps m t (f t x)) :
    Keeps m r (l.foldl f s) := by
  induction l generalizing s with
  | nil => exact h
  | cons x t ih => exact ih (h.then (k s x) (Sub.refl m))

theorem Keeps.fold_fst {α β : Type} {m : Nat} {r : State} {p : State × β} {f : State × β → α → State × β} {l : List α} (h : Keeps m r p.1)
    (k : ∀ t x, Keeps m t.1 (f t x).1) : Keeps m r (l.foldl f p).1 := by
  induction l generalizing p with
  | nil => exact h
  | cons x t ih => exact ih (h.then (k p x) (Sub.refl m))

theorem Keeps.fold_snd {α β : Type} {m : Nat} {r : State} {p : β × State} {f : β × State → α → β × State} {l : List α} (h : Keeps m r p.2)
    (k : ∀ t x, Keeps m t.2 (f t x).2) : Keeps m r (l.foldl f p).2 := by
  induction l generalizing p with
  | nil => exact h
  | cons x t ih => exact ih (h.then (k p x) (Sub.refl m))

theorem KeepsO.next {m : Nat} {r s : State} (h : Keeps m r s) : KeepsO m r (.next s) := by
  intro t e
  cases e
  exact h

theorem KeepsO.ite {m : Nat} {r : State} {s t : Host.Outcome State Fault Refusal} {c : Prop} [Decidable c] (h : KeepsO m r s) (k : KeepsO m r t) :
    KeepsO m r (if c then s else t) := by
  split <;> assumption

/-- A frame before an outcome's. -/
theorem KeepsO.then {m m' : Nat} {r s : State} {o : Host.Outcome State Fault Refusal} (h : Keeps m r s) (k : KeepsO m' s o) (e : Sub m' m) :
    KeepsO m r o := fun t ht => h.then (k t ht) e

theorem KeepsT.none {α : Type} {m : Nat} {r : State} : KeepsT (α := α) m r none := by
  intro x e
  cases e

theorem KeepsT.some {α : Type} {m : Nat} {r s : State} {a : α} (h : Keeps m r s) : KeepsT m r (some (a, s)) := by
  intro x e
  cases e
  exact h

theorem KeepsT.ite {α : Type} {m : Nat} {r : State} {s t : Option (α × State)} {c : Prop} [Decidable c] (h : KeepsT m r s) (k : KeepsT m r t) :
    KeepsT m r (if c then s else t) := by
  split <;> assumption

/-! ### One lemma for each set of fields that some definition updates -/

/-- The frame of an update of fields that are in the mask. -/
theorem Keeps.of_fields {m : Nat} {r s t : State} (h : Keeps m r s)
    (hf : ∀ f : Field, m.testBit f.place = false → f.same s t) (hr : m.testBit 3 = false ∨ s.regs = t.regs) (hm : s.mem.wf = true → t.mem.wf = true)
    (hk : s.keys = t.keys) (hd : s.freeCtr = t.freeCtr) (hl : s.egress = t.egress) : Keeps m r t where
  same f e := f.same_trans (h.same f e) (hf f e)
  regs b hb k hk := by
    have e : s.regs = t.regs := hr.elim (fun e => hf .regs e) id
    rw [← e]
    exact h.regs b hb k hk
  memWf hw := hm (h.memWf hw)
  keys := by rw [← hk]; exact h.keys
  drawn := by rw [← hd]; exact h.drawn
  left := by rw [← hl]; exact h.left

theorem Keeps.set_pending {m : Nat} {r s : State} {v0} (h : Keeps m r s) (e : Sub 0x1 m) :
    Keeps m r { s with pending := v0 } :=
  h.of_fields (fun f hf => by
    cases f
    any_goals rfl
    all_goals exact absurd (e.bit hf) (by decide)) (.inr rfl) id rfl rfl rfl

theorem Keeps.set_hw {m : Nat} {r s : State} {v0} (h : Keeps m r s) (e : Sub 0x4 m) :
    Keeps m r { s with hw := v0 } :=
  h.of_fields (fun f hf => by
    cases f
    any_goals rfl
    all_goals exact absurd (e.bit hf) (by decide)) (.inr rfl) id rfl rfl rfl

theorem Keeps.set_staged {m : Nat} {r s : State} {v0} (h : Keeps m r s) (e : Sub 0x10 m) :
    Keeps m r { s with staged := v0 } :=
  h.of_fields (fun f hf => by
    cases f
    any_goals rfl
    all_goals exact absurd (e.bit hf) (by decide)) (.inr rfl) id rfl rfl rfl

theorem Keeps.set_staged_stager {m : Nat} {r s : State} {v0 v1} (h : Keeps m r s) (e : Sub 0x30 m) :
    Keeps m r { s with staged := v0, stager := v1 } :=
  h.of_fields (fun f hf => by
    cases f
    any_goals rfl
    all_goals exact absurd (e.bit hf) (by decide)) (.inr rfl) id rfl rfl rfl

theorem Keeps.set_staged_stager_ydef_dir_hdr {m : Nat} {r s : State} {v0 v1 v2 v3 v4} (h : Keeps m r s) (e : Sub 0x10170 m) :
    Keeps m r { s with staged := v0, stager := v1, ydef := v2, dir := v3, hdr := v4 } :=
  h.of_fields (fun f hf => by
    cases f
    any_goals rfl
    all_goals exact absurd (e.bit hf) (by decide)) (.inr rfl) id rfl rfl rfl

theorem Keeps.set_many15 {m : Nat} {r s : State} {v0 v1 v2 v3 v4 v5 v6 v7 v8 v9 v10 v11 v12 v13 v14} (h : Keeps m r s) (e : Sub 0x63300006862B0 m) :
    Keeps m r { s with staged := v0, stager := v1, latch := v2, irq := v3, replies := v4, postSeq := v5, wwt := v6, yoke := v7, tmt := v8, lbl := v9, dbm := v10, lanes := v11, conns := v12, pair := v13, ring := v14 } :=
  h.of_fields (fun f hf => by
    cases f
    any_goals rfl
    all_goals exact absurd (e.bit hf) (by decide)) (.inr rfl) id rfl rfl rfl

theorem Keeps.set_staged_stager_yoke {m : Nat} {r s : State} {v0 v1 v2} (h : Keeps m r s) (e : Sub 0x200030 m) :
    Keeps m r { s with staged := v0, stager := v1, yoke := v2 } :=
  h.of_fields (fun f hf => by
    cases f
    any_goals rfl
    all_goals exact absurd (e.bit hf) (by decide)) (.inr rfl) id rfl rfl rfl

theorem Keeps.set_stager {m : Nat} {r s : State} {v0} (h : Keeps m r s) (e : Sub 0x20 m) :
    Keeps m r { s with stager := v0 } :=
  h.of_fields (fun f hf => by
    cases f
    any_goals rfl
    all_goals exact absurd (e.bit hf) (by decide)) (.inr rfl) id rfl rfl rfl

theorem Keeps.set_stager_yoke {m : Nat} {r s : State} {v0 v1} (h : Keeps m r s) (e : Sub 0x200020 m) :
    Keeps m r { s with stager := v0, yoke := v1 } :=
  h.of_fields (fun f hf => by
    cases f
    any_goals rfl
    all_goals exact absurd (e.bit hf) (by decide)) (.inr rfl) id rfl rfl rfl

theorem Keeps.set_ydef {m : Nat} {r s : State} {v0} (h : Keeps m r s) (e : Sub 0x40 m) :
    Keeps m r { s with ydef := v0 } :=
  h.of_fields (fun f hf => by
    cases f
    any_goals rfl
    all_goals exact absurd (e.bit hf) (by decide)) (.inr rfl) id rfl rfl rfl

theorem Keeps.set_ydef_dir_hdr_hist_arc {m : Nat} {r s : State} {v0 v1 v2 v3 v4} (h : Keeps m r s) (e : Sub 0x408000010140 m) :
    Keeps m r { s with ydef := v0, dir := v1, hdr := v2, hist := v3, arc := v4 } :=
  h.of_fields (fun f hf => by
    cases f
    any_goals rfl
    all_goals exact absurd (e.bit hf) (by decide)) (.inr rfl) id rfl rfl rfl

theorem Keeps.set_latch {m : Nat} {r s : State} {v0} (h : Keeps m r s) (e : Sub 0x80 m) :
    Keeps m r { s with latch := v0 } :=
  h.of_fields (fun f hf => by
    cases f
    any_goals rfl
    all_goals exact absurd (e.bit hf) (by decide)) (.inr rfl) id rfl rfl rfl

theorem Keeps.set_dir_hdr_lanes_conns {m : Nat} {r s : State} {v0 v1 v2 v3} (h : Keeps m r s) (e : Sub 0x300000010100 m) :
    Keeps m r { s with dir := v0, hdr := v1, lanes := v2, conns := v3 } :=
  h.of_fields (fun f hf => by
    cases f
    any_goals rfl
    all_goals exact absurd (e.bit hf) (by decide)) (.inr rfl) id rfl rfl rfl

theorem Keeps.set_irq {m : Nat} {r s : State} {v0} (h : Keeps m r s) (e : Sub 0x200 m) :
    Keeps m r { s with irq := v0 } :=
  h.of_fields (fun f hf => by
    cases f
    any_goals rfl
    all_goals exact absurd (e.bit hf) (by decide)) (.inr rfl) id rfl rfl rfl

theorem Keeps.set_irq_pwr {m : Nat} {r s : State} {v0 v1} (h : Keeps m r s) (e : Sub 0x8200 m) :
    Keeps m r { s with irq := v0, pwr := v1 } :=
  h.of_fields (fun f hf => by
    cases f
    any_goals rfl
    all_goals exact absurd (e.bit hf) (by decide)) (.inr rfl) id rfl rfl rfl

theorem Keeps.set_out {m : Nat} {r s : State} {v0} (h : Keeps m r s) (e : Sub 0x800 m) :
    Keeps m r { s with out := v0 } :=
  h.of_fields (fun f hf => by
    cases f
    any_goals rfl
    all_goals exact absurd (e.bit hf) (by decide)) (.inr rfl) id rfl rfl rfl

theorem Keeps.set_stalled {m : Nat} {r s : State} {v0} (h : Keeps m r s) (e : Sub 0x1000 m) :
    Keeps m r { s with stalled := v0 } :=
  h.of_fields (fun f hf => by
    cases f
    any_goals rfl
    all_goals exact absurd (e.bit hf) (by decide)) (.inr rfl) id rfl rfl rfl

theorem Keeps.set_stalled_hist {m : Nat} {r s : State} {v0 v1} (h : Keeps m r s) (e : Sub 0x8000001000 m) :
    Keeps m r { s with stalled := v0, hist := v1 } :=
  h.of_fields (fun f hf => by
    cases f
    any_goals rfl
    all_goals exact absurd (e.bit hf) (by decide)) (.inr rfl) id rfl rfl rfl

theorem Keeps.set_replies {m : Nat} {r s : State} {v0} (h : Keeps m r s) (e : Sub 0x2000 m) :
    Keeps m r { s with replies := v0 } :=
  h.of_fields (fun f hf => by
    cases f
    any_goals rfl
    all_goals exact absurd (e.bit hf) (by decide)) (.inr rfl) id rfl rfl rfl

theorem Keeps.set_postSeq {m : Nat} {r s : State} {v0} (h : Keeps m r s) (e : Sub 0x4000 m) :
    Keeps m r { s with postSeq := v0 } :=
  h.of_fields (fun f hf => by
    cases f
    any_goals rfl
    all_goals exact absurd (e.bit hf) (by decide)) (.inr rfl) id rfl rfl rfl

theorem Keeps.set_pwr {m : Nat} {r s : State} {v0} (h : Keeps m r s) (e : Sub 0x8000 m) :
    Keeps m r { s with pwr := v0 } :=
  h.of_fields (fun f hf => by
    cases f
    any_goals rfl
    all_goals exact absurd (e.bit hf) (by decide)) (.inr rfl) id rfl rfl rfl

theorem Keeps.set_pwr_dmc_dry_wht_lanes {m : Nat} {r s : State} {v0 v1 v2 v3 v4} (h : Keeps m r s) (e : Sub 0x10001C008000 m) :
    Keeps m r { s with pwr := v0, dmc := v1, dry := v2, wht := v3, lanes := v4 } :=
  h.of_fields (fun f hf => by
    cases f
    any_goals rfl
    all_goals exact absurd (e.bit hf) (by decide)) (.inr rfl) id rfl rfl rfl

theorem Keeps.set_hdr {m : Nat} {r s : State} {v0} (h : Keeps m r s) (e : Sub 0x10000 m) :
    Keeps m r { s with hdr := v0 } :=
  h.of_fields (fun f hf => by
    cases f
    any_goals rfl
    all_goals exact absurd (e.bit hf) (by decide)) (.inr rfl) id rfl rfl rfl

theorem Keeps.set_store {m : Nat} {r s : State} {v0} (h : Keeps m r s) (e : Sub 0x40000 m) :
    Keeps m r { s with store := v0 } :=
  h.of_fields (fun f hf => by
    cases f
    any_goals rfl
    all_goals exact absurd (e.bit hf) (by decide)) (.inr rfl) id rfl rfl rfl

theorem Keeps.set_wwt {m : Nat} {r s : State} {v0} (h : Keeps m r s) (e : Sub 0x80000 m) :
    Keeps m r { s with wwt := v0 } :=
  h.of_fields (fun f hf => by
    cases f
    any_goals rfl
    all_goals exact absurd (e.bit hf) (by decide)) (.inr rfl) id rfl rfl rfl

theorem Keeps.set_rein {m : Nat} {r s : State} {v0} (h : Keeps m r s) (e : Sub 0x100000 m) :
    Keeps m r { s with rein := v0 } :=
  h.of_fields (fun f hf => by
    cases f
    any_goals rfl
    all_goals exact absurd (e.bit hf) (by decide)) (.inr rfl) id rfl rfl rfl

theorem Keeps.set_many21 {m : Nat} {r s : State} {v0 v1 v2 v3 v4 v5 v6 v7 v8 v9 v10 v11 v12 v13 v14 v15 v16 v17 v18 v19 v20} (h : Keeps m r s) (e : Sub 0x1CFFFF8100000 m) :
    Keeps m r { s with rein := v0, dry := v1, wht := v2, mews := v3, ing := v4, sta := v5, tru := v6, rga := v7, seam := v8, gain := v9, seamFix := v10, spr := v11, seg := v12, hist := v13, lbl := v14, dbm := v15, pat := v16, tapLost := v17, arc := v18, jobs := v19, pvw := v20 } :=
  h.of_fields (fun f hf => by
    cases f
    any_goals rfl
    all_goals exact absurd (e.bit hf) (by decide)) (.inr rfl) id rfl rfl rfl

theorem Keeps.set_yoke {m : Nat} {r s : State} {v0} (h : Keeps m r s) (e : Sub 0x200000 m) :
    Keeps m r { s with yoke := v0 } :=
  h.of_fields (fun f hf => by
    cases f
    any_goals rfl
    all_goals exact absurd (e.bit hf) (by decide)) (.inr rfl) id rfl rfl rfl

theorem Keeps.set_tmt {m : Nat} {r s : State} {v0} (h : Keeps m r s) (e : Sub 0x400000 m) :
    Keeps m r { s with tmt := v0 } :=
  h.of_fields (fun f hf => by
    cases f
    any_goals rfl
    all_goals exact absurd (e.bit hf) (by decide)) (.inr rfl) id rfl rfl rfl

theorem Keeps.set_way {m : Nat} {r s : State} {v0} (h : Keeps m r s) (e : Sub 0x800000 m) :
    Keeps m r { s with way := v0 } :=
  h.of_fields (fun f hf => by
    cases f
    any_goals rfl
    all_goals exact absurd (e.bit hf) (by decide)) (.inr rfl) id rfl rfl rfl

theorem Keeps.set_poison {m : Nat} {r s : State} {v0} (h : Keeps m r s) (e : Sub 0x2000000 m) :
    Keeps m r { s with poison := v0 } :=
  h.of_fields (fun f hf => by
    cases f
    any_goals rfl
    all_goals exact absurd (e.bit hf) (by decide)) (.inr rfl) id rfl rfl rfl

theorem Keeps.set_dmc {m : Nat} {r s : State} {v0} (h : Keeps m r s) (e : Sub 0x4000000 m) :
    Keeps m r { s with dmc := v0 } :=
  h.of_fields (fun f hf => by
    cases f
    any_goals rfl
    all_goals exact absurd (e.bit hf) (by decide)) (.inr rfl) id rfl rfl rfl

theorem Keeps.set_dry {m : Nat} {r s : State} {v0} (h : Keeps m r s) (e : Sub 0x8000000 m) :
    Keeps m r { s with dry := v0 } :=
  h.of_fields (fun f hf => by
    cases f
    any_goals rfl
    all_goals exact absurd (e.bit hf) (by decide)) (.inr rfl) id rfl rfl rfl

theorem Keeps.set_wht {m : Nat} {r s : State} {v0} (h : Keeps m r s) (e : Sub 0x10000000 m) :
    Keeps m r { s with wht := v0 } :=
  h.of_fields (fun f hf => by
    cases f
    any_goals rfl
    all_goals exact absurd (e.bit hf) (by decide)) (.inr rfl) id rfl rfl rfl

theorem Keeps.set_mews {m : Nat} {r s : State} {v0} (h : Keeps m r s) (e : Sub 0x20000000 m) :
    Keeps m r { s with mews := v0 } :=
  h.of_fields (fun f hf => by
    cases f
    any_goals rfl
    all_goals exact absurd (e.bit hf) (by decide)) (.inr rfl) id rfl rfl rfl

theorem Keeps.set_ing {m : Nat} {r s : State} {v0} (h : Keeps m r s) (e : Sub 0x40000000 m) :
    Keeps m r { s with ing := v0 } :=
  h.of_fields (fun f hf => by
    cases f
    any_goals rfl
    all_goals exact absurd (e.bit hf) (by decide)) (.inr rfl) id rfl rfl rfl

theorem Keeps.set_sta {m : Nat} {r s : State} {v0} (h : Keeps m r s) (e : Sub 0x80000000 m) :
    Keeps m r { s with sta := v0 } :=
  h.of_fields (fun f hf => by
    cases f
    any_goals rfl
    all_goals exact absurd (e.bit hf) (by decide)) (.inr rfl) id rfl rfl rfl

theorem Keeps.set_tru {m : Nat} {r s : State} {v0} (h : Keeps m r s) (e : Sub 0x100000000 m) :
    Keeps m r { s with tru := v0 } :=
  h.of_fields (fun f hf => by
    cases f
    any_goals rfl
    all_goals exact absurd (e.bit hf) (by decide)) (.inr rfl) id rfl rfl rfl

theorem Keeps.set_rga {m : Nat} {r s : State} {v0} (h : Keeps m r s) (e : Sub 0x200000000 m) :
    Keeps m r { s with rga := v0 } :=
  h.of_fields (fun f hf => by
    cases f
    any_goals rfl
    all_goals exact absurd (e.bit hf) (by decide)) (.inr rfl) id rfl rfl rfl

theorem Keeps.set_seam {m : Nat} {r s : State} {v0} (h : Keeps m r s) (e : Sub 0x400000000 m) :
    Keeps m r { s with seam := v0 } :=
  h.of_fields (fun f hf => by
    cases f
    any_goals rfl
    all_goals exact absurd (e.bit hf) (by decide)) (.inr rfl) id rfl rfl rfl

theorem Keeps.set_gain {m : Nat} {r s : State} {v0} (h : Keeps m r s) (e : Sub 0x800000000 m) :
    Keeps m r { s with gain := v0 } :=
  h.of_fields (fun f hf => by
    cases f
    any_goals rfl
    all_goals exact absurd (e.bit hf) (by decide)) (.inr rfl) id rfl rfl rfl

theorem Keeps.set_gain_seamFix {m : Nat} {r s : State} {v0 v1} (h : Keeps m r s) (e : Sub 0x1800000000 m) :
    Keeps m r { s with gain := v0, seamFix := v1 } :=
  h.of_fields (fun f hf => by
    cases f
    any_goals rfl
    all_goals exact absurd (e.bit hf) (by decide)) (.inr rfl) id rfl rfl rfl

theorem Keeps.set_seamFix {m : Nat} {r s : State} {v0} (h : Keeps m r s) (e : Sub 0x1000000000 m) :
    Keeps m r { s with seamFix := v0 } :=
  h.of_fields (fun f hf => by
    cases f
    any_goals rfl
    all_goals exact absurd (e.bit hf) (by decide)) (.inr rfl) id rfl rfl rfl

theorem Keeps.set_spr {m : Nat} {r s : State} {v0} (h : Keeps m r s) (e : Sub 0x2000000000 m) :
    Keeps m r { s with spr := v0 } :=
  h.of_fields (fun f hf => by
    cases f
    any_goals rfl
    all_goals exact absurd (e.bit hf) (by decide)) (.inr rfl) id rfl rfl rfl

theorem Keeps.set_seg {m : Nat} {r s : State} {v0} (h : Keeps m r s) (e : Sub 0x4000000000 m) :
    Keeps m r { s with seg := v0 } :=
  h.of_fields (fun f hf => by
    cases f
    any_goals rfl
    all_goals exact absurd (e.bit hf) (by decide)) (.inr rfl) id rfl rfl rfl

theorem Keeps.set_hist {m : Nat} {r s : State} {v0} (h : Keeps m r s) (e : Sub 0x8000000000 m) :
    Keeps m r { s with hist := v0 } :=
  h.of_fields (fun f hf => by
    cases f
    any_goals rfl
    all_goals exact absurd (e.bit hf) (by decide)) (.inr rfl) id rfl rfl rfl

theorem Keeps.set_lbl {m : Nat} {r s : State} {v0} (h : Keeps m r s) (e : Sub 0x10000000000 m) :
    Keeps m r { s with lbl := v0 } :=
  h.of_fields (fun f hf => by
    cases f
    any_goals rfl
    all_goals exact absurd (e.bit hf) (by decide)) (.inr rfl) id rfl rfl rfl

theorem Keeps.set_dbm {m : Nat} {r s : State} {v0} (h : Keeps m r s) (e : Sub 0x20000000000 m) :
    Keeps m r { s with dbm := v0 } :=
  h.of_fields (fun f hf => by
    cases f
    any_goals rfl
    all_goals exact absurd (e.bit hf) (by decide)) (.inr rfl) id rfl rfl rfl

theorem Keeps.set_pat {m : Nat} {r s : State} {v0} (h : Keeps m r s) (e : Sub 0x40000000000 m) :
    Keeps m r { s with pat := v0 } :=
  h.of_fields (fun f hf => by
    cases f
    any_goals rfl
    all_goals exact absurd (e.bit hf) (by decide)) (.inr rfl) id rfl rfl rfl

theorem Keeps.set_tapLost {m : Nat} {r s : State} {v0} (h : Keeps m r s) (e : Sub 0x80000000000 m) :
    Keeps m r { s with tapLost := v0 } :=
  h.of_fields (fun f hf => by
    cases f
    any_goals rfl
    all_goals exact absurd (e.bit hf) (by decide)) (.inr rfl) id rfl rfl rfl

theorem Keeps.set_lanes {m : Nat} {r s : State} {v0} (h : Keeps m r s) (e : Sub 0x100000000000 m) :
    Keeps m r { s with lanes := v0 } :=
  h.of_fields (fun f hf => by
    cases f
    any_goals rfl
    all_goals exact absurd (e.bit hf) (by decide)) (.inr rfl) id rfl rfl rfl

theorem Keeps.set_lanes_conns {m : Nat} {r s : State} {v0 v1} (h : Keeps m r s) (e : Sub 0x300000000000 m) :
    Keeps m r { s with lanes := v0, conns := v1 } :=
  h.of_fields (fun f hf => by
    cases f
    any_goals rfl
    all_goals exact absurd (e.bit hf) (by decide)) (.inr rfl) id rfl rfl rfl

theorem Keeps.set_conns {m : Nat} {r s : State} {v0} (h : Keeps m r s) (e : Sub 0x200000000000 m) :
    Keeps m r { s with conns := v0 } :=
  h.of_fields (fun f hf => by
    cases f
    any_goals rfl
    all_goals exact absurd (e.bit hf) (by decide)) (.inr rfl) id rfl rfl rfl

theorem Keeps.set_arc {m : Nat} {r s : State} {v0} (h : Keeps m r s) (e : Sub 0x400000000000 m) :
    Keeps m r { s with arc := v0 } :=
  h.of_fields (fun f hf => by
    cases f
    any_goals rfl
    all_goals exact absurd (e.bit hf) (by decide)) (.inr rfl) id rfl rfl rfl

theorem Keeps.set_jobs {m : Nat} {r s : State} {v0} (h : Keeps m r s) (e : Sub 0x800000000000 m) :
    Keeps m r { s with jobs := v0 } :=
  h.of_fields (fun f hf => by
    cases f
    any_goals rfl
    all_goals exact absurd (e.bit hf) (by decide)) (.inr rfl) id rfl rfl rfl

theorem Keeps.set_pvw {m : Nat} {r s : State} {v0} (h : Keeps m r s) (e : Sub 0x1000000000000 m) :
    Keeps m r { s with pvw := v0 } :=
  h.of_fields (fun f hf => by
    cases f
    any_goals rfl
    all_goals exact absurd (e.bit hf) (by decide)) (.inr rfl) id rfl rfl rfl

theorem Keeps.set_pair {m : Nat} {r s : State} {v0} (h : Keeps m r s) (e : Sub 0x2000000000000 m) :
    Keeps m r { s with pair := v0 } :=
  h.of_fields (fun f hf => by
    cases f
    any_goals rfl
    all_goals exact absurd (e.bit hf) (by decide)) (.inr rfl) id rfl rfl rfl

theorem Keeps.set_ring {m : Nat} {r s : State} {v0} (h : Keeps m r s) (e : Sub 0x4000000000000 m) :
    Keeps m r { s with ring := v0 } :=
  h.of_fields (fun f hf => by
    cases f
    any_goals rfl
    all_goals exact absurd (e.bit hf) (by decide)) (.inr rfl) id rfl rfl rfl

theorem Keeps.set_mem_stale {m : Nat} {r s : State} {v0 v1} (h : Keeps m r s) (e : Sub 0x8000001000000 m) (hv : s.mem.wf = true → Memory.wf v0 = true) :
    Keeps m r { s with mem := v0, stale := v1 } :=
  h.of_fields (fun f hf => by
    cases f
    any_goals rfl
    all_goals exact absurd (e.bit hf) (by decide)) (.inr rfl) hv rfl rfl rfl

theorem Keeps.set_seam_seamFix {m : Nat} {r s : State} {v0 v1} (h : Keeps m r s) (e : Sub 0x1400000000 m) :
    Keeps m r { s with seam := v0, seamFix := v1 } :=
  h.of_fields (fun f hf => by
    cases f
    any_goals rfl
    all_goals exact absurd (e.bit hf) (by decide)) (.inr rfl) id rfl rfl rfl

theorem Keeps.set_tru_rga {m : Nat} {r s : State} {v0 v1} (h : Keeps m r s) (e : Sub 0x300000000 m) :
    Keeps m r { s with tru := v0, rga := v1 } :=
  h.of_fields (fun f hf => by
    cases f
    any_goals rfl
    all_goals exact absurd (e.bit hf) (by decide)) (.inr rfl) id rfl rfl rfl

theorem Keeps.set_mem_poison_stale {m : Nat} {r s : State} {v0 v1 v2} (h : Keeps m r s) (e : Sub 0x8000003000000 m) (hv : s.mem.wf = true → Memory.wf v0 = true) :
    Keeps m r { s with mem := v0, poison := v1, stale := v2 } :=
  h.of_fields (fun f hf => by
    cases f
    any_goals rfl
    all_goals exact absurd (e.bit hf) (by decide)) (.inr rfl) hv rfl rfl rfl

theorem Keeps.set_ing_sta_tru_rga_gain_spr_seg_hist_lbl_arc {m : Nat} {r s : State} {v0 v1 v2 v3 v4 v5 v6 v7 v8 v9} (h : Keeps m r s) (e : Sub 0x41EBC0000000 m) :
    Keeps m r { s with ing := v0, sta := v1, tru := v2, rga := v3, gain := v4, spr := v5, seg := v6, hist := v7, lbl := v8, arc := v9 } :=
  h.of_fields (fun f hf => by
    cases f
    any_goals rfl
    all_goals exact absurd (e.bit hf) (by decide)) (.inr rfl) id rfl rfl rfl

theorem Keeps.set_stalled_pwr_way_mem_poison_stale_dmc {m : Nat} {r s : State} {v0 v1 v2 v3 v4 v5 v6} (h : Keeps m r s) (e : Sub 0x8000007809000 m) (hv : s.mem.wf = true → Memory.wf v3 = true) :
    Keeps m r { s with stalled := v0, pwr := v1, way := v2, mem := v3, poison := v4, stale := v5, dmc := v6 } :=
  h.of_fields (fun f hf => by
    cases f
    any_goals rfl
    all_goals exact absurd (e.bit hf) (by decide)) (.inr rfl) hv rfl rfl rfl

theorem Keeps.set_mem_poison_stale_dmc {m : Nat} {r s : State} {v0 v1 v2 v3} (h : Keeps m r s) (e : Sub 0x8000007000000 m) (hv : s.mem.wf = true → Memory.wf v0 = true) :
    Keeps m r { s with mem := v0, poison := v1, stale := v2, dmc := v3 } :=
  h.of_fields (fun f hf => by
    cases f
    any_goals rfl
    all_goals exact absurd (e.bit hf) (by decide)) (.inr rfl) hv rfl rfl rfl

theorem Keeps.set_mews_ing_sta_tru_rga_spr_seg {m : Nat} {r s : State} {v0 v1 v2 v3 v4 v5 v6} (h : Keeps m r s) (e : Sub 0x63E0000000 m) :
    Keeps m r { s with mews := v0, ing := v1, sta := v2, tru := v3, rga := v4, spr := v5, seg := v6 } :=
  h.of_fields (fun f hf => by
    cases f
    any_goals rfl
    all_goals exact absurd (e.bit hf) (by decide)) (.inr rfl) id rfl rfl rfl

end Sys2Proof.Machine
end

