-- ==== Sys2Proof/Laws/KeepsBase.lean ====
section
/-! SUPPORT. Frames of the operations that write what every frame speaks of: registers, output, open values, key slots, DRAM. -/

namespace Sys2Proof.Machine

/-- The block of a register key is the block it was made of. -/
theorem keyBlk_regKey (b : Blk) (i o : Nat) : keyBlk (regKey b i o) = b := by
  have h : regKey b i o / 1048576 / 4096 = b.code := by
    unfold regKey
    omega
  unfold keyBlk
  rw [h]
  cases b <;> rfl

/-- A pair that is known. -/
theorem Keeps.of_fst {α : Type} {m : Nat} {r a : State} {p : State × α} {b : α} (e : p = (a, b)) (h : Keeps m r p.1) : Keeps m r a := by
  subst e
  exact h

theorem Keeps.of_snd {α : Type} {m : Nat} {r a : State} {p : α × State} {b : α} (e : p = (b, a)) (h : Keeps m r p.2) : Keeps m r a := by
  subst e
  exact h

/-- The open values only advance. -/
theorem Keeps.set_freeCtr {m : Nat} {r s : State} {v : Nat} (h : Keeps m r s) (e : Sub 2 m) (le : s.freeCtr ≤ v) :
    Keeps m r { s with freeCtr := v } where
  same f hf := f.same_trans (h.same f hf) (by
    cases f
    any_goals rfl
    all_goals exact absurd (e.bit hf) (by decide))
  regs b hb k hk := h.regs b hb k hk
  memWf hw := h.memWf hw
  keys := h.keys
  drawn := Nat.le_trans h.drawn le
  left := h.left

/-- Key slots that only go forward. -/
theorem Keeps.set_keys {m : Nat} {r s : State} {v : List KeySlot} (h : Keeps m r s) (e : Sub 0x20000 m) (le : KeysGrow s.keys v) :
    Keeps m r { s with keys := v } where
  same f hf := f.same_trans (h.same f hf) (by
    cases f
    any_goals rfl
    all_goals exact absurd (e.bit hf) (by decide))
  regs b hb k hk := h.regs b hb k hk
  memWf hw := h.memWf hw
  keys := h.keys.trans le
  drawn := h.drawn
  left := h.left

/-- Registers of any block. -/
theorem Keeps.set_regs {m : Nat} {r s : State} {v : List (Nat × Word)} (h : Keeps m r s) (e : Sub 0xFFFFFFFF0000000000000008 m) :
    Keeps m r { s with regs := v } where
  same f hf := f.same_trans (h.same f hf) (by
    cases f
    any_goals rfl
    all_goals exact absurd (e.bit hf) (by decide))
  regs b hb := absurd (e.bit hb) (by cases b <;> decide)
  memWf hw := h.memWf hw
  keys := h.keys
  drawn := h.drawn
  left := h.left

/-- One register. -/
theorem State.setWord_keeps (s : State) (b : Blk) (i o : Nat) (w : Word) : Keeps (0x8 ||| blkBit b) s (State.setWord s b i o w) where
  same f hf := by
    cases f
    any_goals rfl
    have e := (Sub.l (c := blkBit b) (Sub.refl 0x8)).bit hf
    exact absurd e (by decide)
  regs c hc k hk := by
    have d : c ≠ b := by
      intro q
      subst q
      have e := (Sub.r (blkBit c) 0x8).bit hc
      rw [blkBit, Nat.testBit_two_pow_self] at e
      exact absurd e (by decide)
    refine (cget_cset_other s.regs w ?_).symm
    intro q
    exact d (by rw [← hk, q, keyBlk_regKey])
  memWf h := h
  keys := KeysGrow.refl _
  drawn := Nat.le_refl _
  left := ⟨[], by simp [State.setWord]⟩

/-- Something leaves the part. -/
theorem State.emit_keeps (s : State) (k : EgKind) (unit : Nat) (body : List Nat) : Keeps 0x400 s (State.emit s k unit body) where
  same f hf := by
    cases f
    any_goals rfl
    exact absurd hf (by decide)
  regs _ _ _ _ := rfl
  memWf h := h
  keys := KeysGrow.refl _
  drawn := Nat.le_refl _
  left := ⟨_, rfl⟩

theorem State.drawn_keeps (s : State) : Keeps 0x2 s (State.drawn s) := by
  unfold State.drawn
  exact Keeps.set_freeCtr (Keeps.refl _ _) rfl (Nat.le_succ _)

theorem State.restore_keeps (s : State) (d : Dom) (p : Blk → Nat → Nat → Bool) : Keeps 0xFFFFFFFF0000000000000008 s (State.restore s d p) := by
  unfold State.restore
  exact Keeps.set_regs (Keeps.refl _ _) rfl

theorem State.clearShown_keeps (s : State) (p : Blk → Nat → Bool) (l : List Fld) : Keeps 0xFFFFFFFF0000000000000008 s (State.clearShown s p l) := by
  unfold State.clearShown
  exact Keeps.set_regs (Keeps.refl _ _) rfl

/-- Losing power keeps the Waybill, the board and the model's own fields. -/
theorem State.cold_keeps (s : State) : Keeps 0xFFFFFFFF000FFFFFFFF9FBF8 s (State.cold s) where
  same f hf := by
    cases f
    any_goals rfl
    all_goals exact absurd hf (by decide)
  regs b hb := absurd hb (by cases b <;> decide)
  memWf _ := rfl
  keys := KeysGrow.refl _
  drawn := Nat.le_refl _
  left := ⟨[], by simp [State.cold]⟩

theorem Keeps.set_freeCtr_mem_poison_stale {m : Nat} {r s : State} {v0 v1 v2 v3} (h : Keeps m r s) (e : Sub 0x8000003000002 m) (hv : s.mem.wf = true → Memory.wf v1 = true) (le : s.freeCtr ≤ v0) :
    Keeps m r { s with freeCtr := v0, mem := v1, poison := v2, stale := v3 } :=
  Keeps.set_freeCtr (s := { s with mem := v1, poison := v2, stale := v3 }) (Keeps.set_mem_poison_stale h (Sub.trans (show Sub 0x8000003000000 0x8000003000002 from rfl) e) hv)
    (Sub.trans (show Sub 2 0x8000003000002 from rfl) e) (v := v0) le

end Sys2Proof.Machine
end

