-- ==== Sys2Proof/Laws/KeepsOps.lean ====
section
/-! SUPPORT. Frames of the operations of Machine/Ops.lean: what each may change, one lemma each. -/

namespace Sys2Proof.Machine

theorem State.wf_keeps (s : State) (i : Nat) (f : Fld) (v : Nat) : Keeps (0x8 ||| blkBit (f.blk)) s (State.wf s i f v) := by
  unfold State.wf
  refine Keeps.then ?_ (State.setWord_keeps _ _ _ _ _) (Sub.or (Sub.l rfl) (Sub.r _ _))
  exact Keeps.refl _ _

theorem State.wsf_keeps (s : State) (i : Nat) (f : Fld) (v : Nat) : Keeps 0x10 s (State.wsf s i f v) := by
  unfold State.wsf
  refine Keeps.set_staged ?_ rfl
  exact Keeps.refl _ _

theorem State.wf64_keeps (s : State) (i : Nat) (lo : Fld) (v : Nat) : Keeps (0x8 ||| blkBit (lo.blk)) s (State.wf64 s i lo v) := by
  unfold State.wf64
  refine Keeps.then ?_ (State.setWord_keeps _ _ _ _ _) (Sub.or (Sub.l rfl) (Sub.r _ _))
  refine Keeps.then ?_ (State.setWord_keeps _ _ _ _ _) (Sub.or (Sub.l rfl) (Sub.r _ _))
  exact Keeps.refl _ _

theorem State.add_keeps (s : State) (i : Nat) (f : Fld) (n : Nat) : Keeps (0x8 ||| blkBit (f.blk)) s (State.add s i f n) := by
  unfold State.add
  refine Keeps.then ?_ (State.wf_keeps _ _ _ _) (Sub.or (Sub.l rfl) (Sub.r _ _))
  exact Keeps.refl _ _

theorem State.inc_keeps (s : State) (i : Nat) (f : Fld) : Keeps (0x8 ||| blkBit (f.blk)) s (State.inc s i f) := by
  unfold State.inc
  refine Keeps.then ?_ (State.add_keeps _ _ _ _) (Sub.or (Sub.l rfl) (Sub.r _ _))
  exact Keeps.refl _ _

theorem State.incWrap_keeps (s : State) (i : Nat) (f : Fld) : Keeps (0x8 ||| blkBit (f.blk)) s (State.incWrap s i f) := by
  unfold State.incWrap
  refine Keeps.then ?_ (State.wf_keeps _ _ _ _) (Sub.or (Sub.l rfl) (Sub.r _ _))
  exact Keeps.refl _ _

theorem State.peak_keeps (s : State) (i : Nat) (f : Fld) (v : Nat) : Keeps (0x8 ||| blkBit (f.blk)) s (State.peak s i f v) := by
  unfold State.peak
  refine Keeps.then ?_ (State.wf_keeps _ _ _ _) (Sub.or (Sub.l rfl) (Sub.r _ _))
  exact Keeps.refl _ _

theorem State.emitLive_keeps (s : State) (k : EgKind) (unit : Nat) (body : List Nat) : Keeps 0x400 s (State.emitLive s k unit body) := by
  unfold State.emitLive
  refine Keeps.ite ?_ ?_
  · exact Keeps.refl _ _
  · refine Keeps.then ?_ (State.emit_keeps _ _ _ _) rfl
    exact Keeps.refl _ _

theorem State.reinRaise_keeps (s : State) (coach : Nat) (src : Nat) (ev : Nat) (n : Nat) :
    Keeps 0x10000000000000100008 s (State.reinRaise s coach src ev n) := by
  unfold State.reinRaise
  refine Keeps.ite ?_ ?_
  · extract_lets +onlyGivenNames -merge -useContext k
    extract_lets +onlyGivenNames -merge -useContext v
    extract_lets +onlyGivenNames -merge -useContext s1
    extract_lets +onlyGivenNames -merge -useContext x1
    have keeps_x1 : Keeps 0x10000000000000100008 s x1 := by
      unfold x1
      refine Keeps.set_rein ?_ rfl
      exact Keeps.refl _ _
    refine Keeps.ite ?_ ?_
    · refine Keeps.then ?_ (State.wf_keeps _ _ _ _) (Sub.or rfl rfl)
      exact keeps_x1
    · exact keeps_x1
  · exact Keeps.refl _ _

theorem State.sendVector_keeps (s : State) (v : Nat) : Keeps 0x600 s (State.sendVector s v) := by
  unfold State.sendVector
  refine Keeps.ite ?_ ?_
  · refine Keeps.set_irq ?_ rfl
    exact Keeps.refl _ _
  · refine Keeps.then ?_ (State.emit_keeps _ _ _ _) rfl
    exact Keeps.refl _ _

theorem State.edges_keeps (old : State) (vs : List Nat) (s : State) : Keeps 0x600 s (State.edges old vs s) := by
  unfold State.edges
  refine Keeps.fold ?_ (fun t1 y2 => ?_)
  · exact Keeps.refl _ _
  · refine Keeps.ite ?_ ?_
    · refine Keeps.then ?_ (State.sendVector_keeps _ _) rfl
      exact Keeps.refl _ _
    · exact Keeps.refl _ _

theorem State.ev_keeps (s : State) (i : Nat) (f : Fld) : Keeps (0x10000000000000100608 ||| blkBit (f.blk)) s (State.ev s i f) := by
  unfold State.ev
  extract_lets +onlyGivenNames -merge -useContext s1
  have keeps_s1 : Keeps ((0x10000000000000100608 ||| blkBit (f.blk))) s s1 := by
    unfold s1
    refine Keeps.then ?_ (State.wf_keeps _ _ _ _) (Sub.or (Sub.l rfl) (Sub.r _ _))
    exact Keeps.refl _ _
  extract_lets +onlyGivenNames -merge -useContext s2
  have keeps_s2 : Keeps ((0x10000000000000100608 ||| blkBit (f.blk))) s s2 := by
    unfold s2
    split
    · refine Keeps.then ?_ (State.reinRaise_keeps _ _ _ _ _) (Sub.l rfl)
      exact keeps_s1
    · exact keeps_s1
  refine Keeps.then ?_ (State.edges_keeps _ _ _) (Sub.l rfl)
  exact keeps_s2

theorem State.evIf_keeps (s : State) (p : Bool) (i : Nat) (f : Fld) :
    Keeps (0x10000000000000100608 ||| blkBit (f.blk)) s (State.evIf s p i f) := by
  unfold State.evIf
  refine Keeps.ite ?_ ?_
  · refine Keeps.then ?_ (State.ev_keeps _ _ _) (Sub.or (Sub.l rfl) (Sub.r _ _))
    exact Keeps.refl _ _
  · exact Keeps.refl _ _

theorem State.logFault_keeps (s : State) (code : Nat) (coach : Nat) (master : Nat) (detail : Nat) :
    Keeps 0x40000 s (State.logFault s code coach master detail) := by
  unfold State.logFault
  extract_lets +onlyGivenNames -merge -useContext fresh
  split
  · refine Keeps.set_store ?_ rfl
    exact Keeps.refl _ _
  · refine Keeps.ite ?_ ?_
    · refine Keeps.set_store ?_ rfl
      exact Keeps.refl _ _
    · refine Keeps.set_store ?_ rfl
      exact Keeps.refl _ _

theorem State.glbRaise_keeps (s : State) : Keeps 0x600 s (State.glbRaise s) := by
  unfold State.glbRaise
  refine Keeps.ite ?_ ?_
  · refine Keeps.then ?_ (State.sendVector_keeps _ _) rfl
    refine Keeps.set_irq ?_ rfl
    exact Keeps.refl _ _
  · refine Keeps.set_irq ?_ rfl
    exact Keeps.refl _ _

theorem State.gcode_keeps (s : State) (d : Nat) (addr : Nat) (master : Nat) :
    Keeps 0x10000000000040608 s (State.gcode s d addr master) := by
  unfold State.gcode
  refine Keeps.then ?_ (State.glbRaise_keeps _) rfl
  refine Keeps.then ?_ (State.logFault_keeps _ _ _ _ _) rfl
  refine Keeps.then ?_ (State.inc_keeps _ _ _) (Sub.or rfl rfl)
  refine Keeps.then ?_ (State.wf_keeps _ _ _ _) (Sub.or rfl rfl)
  refine Keeps.then ?_ (State.wf_keeps _ _ _ _) (Sub.or rfl rfl)
  refine Keeps.then ?_ (State.wf_keeps _ _ _ _) (Sub.or rfl rfl)
  exact Keeps.refl _ _

theorem State.fabErr_keeps (s : State) (code : Nat) (coach : Nat) (detail : Nat) :
    Keeps 0x10000000000040608 s (State.fabErr s code coach detail) := by
  unfold State.fabErr
  refine Keeps.then ?_ (State.gcode_keeps _ _ _ _) rfl
  refine Keeps.then ?_ (State.logFault_keeps _ _ _ _ _) rfl
  refine Keeps.then ?_ (State.wf_keeps _ _ _ _) (Sub.or rfl rfl)
  exact Keeps.refl _ _

theorem State.lcode_keeps (s : State) (lane : Nat) (d : Nat) : Keeps 0x800000000000000040008 s (State.lcode s lane d) := by
  unfold State.lcode
  refine Keeps.then ?_ (State.logFault_keeps _ _ _ _ _) rfl
  refine Keeps.then ?_ (State.wf_keeps _ _ _ _) (Sub.or rfl rfl)
  exact Keeps.refl _ _

theorem State.dmcCode_keeps (s : State) (ch : Nat) (letter : Char) (d : Nat) (detail : Nat) :
    Keeps 0x200000000000000040008 s (State.dmcCode s ch letter d detail) := by
  unfold State.dmcCode
  refine Keeps.then ?_ (State.logFault_keeps _ _ _ _ _) rfl
  refine Keeps.then ?_ (State.wf_keeps _ _ _ _) (Sub.or rfl rfl)
  exact Keeps.refl _ _

theorem State.wcode_keeps (s : State) (coach : Nat) (d : Nat) (detail : Nat) : Keeps 0x40000 s (State.wcode s coach d detail) := by
  unfold State.wcode
  refine Keeps.then ?_ (State.logFault_keeps _ _ _ _ _) rfl
  exact Keeps.refl _ _

theorem State.pcode_keeps (s : State) (d : Nat) : Keeps 0x2000000000000040008 s (State.pcode s d) := by
  unfold State.pcode
  refine Keeps.then ?_ (State.logFault_keeps _ _ _ _ _) rfl
  refine Keeps.then ?_ (State.wf_keeps _ _ _ _) (Sub.or rfl rfl)
  exact Keeps.refl _ _

theorem State.rcode_keeps (s : State) (d : Nat) : Keeps 0x4000000000000040008 s (State.rcode s d) := by
  unfold State.rcode
  refine Keeps.then ?_ (State.logFault_keeps _ _ _ _ _) rfl
  refine Keeps.then ?_ (State.wf_keeps _ _ _ _) (Sub.or rfl rfl)
  exact Keeps.refl _ _

theorem State.hcode_keeps (s : State) (d : Nat) (sect : Nat) (record : Nat) (carriage : Nat) (value : Nat) (log : Bool) :
    Keeps 0x20000000000040008 s (State.hcode s d sect record carriage value log) := by
  unfold State.hcode
  extract_lets +onlyGivenNames -merge -useContext s1
  have keeps_s1 : Keeps 0x20000000000040008 s s1 := by
    unfold s1
    refine Keeps.then ?_ (State.wf_keeps _ _ _ _) (Sub.or rfl rfl)
    refine Keeps.then ?_ (State.wf_keeps _ _ _ _) (Sub.or rfl rfl)
    refine Keeps.then ?_ (State.wf_keeps _ _ _ _) (Sub.or rfl rfl)
    refine Keeps.then ?_ (State.wf_keeps _ _ _ _) (Sub.or rfl rfl)
    refine Keeps.then ?_ (State.wf_keeps _ _ _ _) (Sub.or rfl rfl)
    exact Keeps.refl _ _
  refine Keeps.ite ?_ ?_
  · refine Keeps.then ?_ (State.logFault_keeps _ _ _ _ _) rfl
    exact keeps_s1
  · exact keeps_s1

theorem State.ycode_keeps (s : State) (m : Nat) (d : Nat) (loc : Nat) (value : Nat) :
    Keeps 0x40000000000000008 s (State.ycode s m d loc value) := by
  unfold State.ycode
  refine Keeps.then ?_ (State.wf_keeps _ _ _ _) (Sub.or rfl rfl)
  refine Keeps.then ?_ (State.wf_keeps _ _ _ _) (Sub.or rfl rfl)
  refine Keeps.then ?_ (State.wf_keeps _ _ _ _) (Sub.or rfl rfl)
  exact Keeps.refl _ _

end Sys2Proof.Machine
end

