-- ==== Sys2Proof/Laws/KeepsLinchpin.lean ====
section
/-! SUPPORT. Frames of the operations of Machine/Linchpin.lean: what each may change, one lemma each. -/

namespace Sys2Proof.Machine

theorem State.ringHorn_keeps (s : State) (m : Nat) (bits : Word) : Keeps 0x100000000000000608 s (State.ringHorn s m bits) := by
  unfold State.ringHorn
  extract_lets +onlyGivenNames -merge -useContext s1
  have keeps_s1 : Keeps 0x100000000000000608 s s1 := by
    unfold s1
    refine Keeps.then ?_ (State.setWord_keeps _ _ _ _ _) (Sub.or rfl rfl)
    exact Keeps.refl _ _
  extract_lets +onlyGivenNames -merge -useContext r
  extract_lets +onlyGivenNames -merge -useContext s2
  have keeps_s2 : Keeps 0x100000000000000608 s s2 := by
    unfold s2
    refine Keeps.ite ?_ ?_
    · refine Keeps.then ?_ (State.emit_keeps _ _ _ _) rfl
      exact keeps_s1
    · exact keeps_s1
  refine Keeps.then ?_ (State.edges_keeps _ _ _) rfl
  exact keeps_s2

theorem State.pinTry_keeps (s : State) (m : Nat) (n : Nat) : Keeps 0x200000000000000008 s (State.pinTry s m n) := by
  unfold State.pinTry
  refine Keeps.ite ?_ ?_
  · refine Keeps.then ?_ (State.wf_keeps _ _ _ _) (Sub.or rfl (Sub.blk .LCH (by first | rfl | exact blk_ite rfl rfl) rfl))
    exact Keeps.refl _ _
  · exact Keeps.refl _ _

theorem State.pinRelease_keeps (s : State) (m : Nat) (n : Nat) : Keeps 0x210000000000040608 s (State.pinRelease s m n) := by
  unfold State.pinRelease
  refine Keeps.ite ?_ ?_
  · refine Keeps.then ?_ (State.wf_keeps _ _ _ _) (Sub.or rfl (Sub.blk .LCH (by first | rfl | exact blk_ite rfl rfl) rfl))
    exact Keeps.refl _ _
  · refine Keeps.then ?_ (State.gcode_keeps _ _ _ _) rfl
    exact Keeps.refl _ _

theorem State.pinBreak_keeps (s : State) (n : Nat) : Keeps 0x300000000000000608 s (State.pinBreak s n) := by
  unfold State.pinBreak
  refine Keeps.ite ?_ ?_
  · exact Keeps.refl _ _
  · extract_lets +onlyGivenNames -merge -useContext s1
    have keeps_s1 : Keeps 0x300000000000000608 s s1 := by
      unfold s1
      refine Keeps.then ?_ (State.wf_keeps _ _ _ _) (Sub.or rfl (Sub.blk .LCH (by first | rfl | exact blk_ite rfl rfl) rfl))
      exact Keeps.refl _ _
    extract_lets +onlyGivenNames -merge -useContext o
    extract_lets +onlyGivenNames -merge -useContext s2
    have keeps_s2 : Keeps 0x300000000000000608 s s2 := by
      unfold s2
      refine Keeps.then ?_ (State.setWord_keeps _ _ _ _ _) (Sub.or rfl rfl)
      exact keeps_s1
    extract_lets +onlyGivenNames -merge -useContext s3
    have keeps_s3 : Keeps 0x300000000000000608 s s3 := by
      unfold s3
      refine Keeps.then ?_ (State.edges_keeps _ _ _) rfl
      exact keeps_s2
    extract_lets +onlyGivenNames -merge -useContext s4
    have keeps_s4 : Keeps 0x300000000000000608 s s4 := by
      unfold s4
      refine Keeps.then ?_ (State.ringHorn_keeps _ _ _) rfl
      exact keeps_s3
    extract_lets +onlyGivenNames -merge -useContext c
    refine Keeps.ite ?_ ?_
    · exact keeps_s4
    · refine Keeps.then ?_ (State.wf_keeps _ _ _ _) (Sub.or rfl rfl)
      exact keeps_s4

theorem State.pinBreakOwner_keeps (s : State) (m : Nat) : Keeps 0x300000000000000608 s (State.pinBreakOwner s m) := by
  unfold State.pinBreakOwner
  refine Keeps.fold ?_ (fun t1 y2 => ?_)
  · exact Keeps.refl _ _
  · refine Keeps.ite ?_ ?_
    · refine Keeps.then ?_ (State.pinBreak_keeps _ _) rfl
      exact Keeps.refl _ _
    · exact Keeps.refl _ _

end Sys2Proof.Machine
end

