-- ==== Sys2Proof/Laws/KeepsOperands.lean ====
section
/-! SUPPORT. Frames of the operations of Machine/Operands.lean: what each may change, one lemma each. -/

namespace Sys2Proof.Machine

theorem State.stageWrite_keeps (s : State) (m : Nat) (l : Loc) (w : Word) : Keeps 0x40000000000000038 s (State.stageWrite s m l w) := by
  unfold State.stageWrite
  refine Keeps.ite ?_ ?_
  · exact Keeps.refl _ _
  · extract_lets +onlyGivenNames -merge -useContext k
    refine Keeps.ite ?_ ?_
    · refine Keeps.then ?_ (State.ycode_keeps _ _ _ _ _) rfl
      exact Keeps.refl _ _
    · extract_lets +onlyGivenNames -merge -useContext rws
      extract_lets +onlyGivenNames -merge -useContext x1
      refine Keeps.set_staged_stager ?_ rfl
      exact Keeps.refl _ _

theorem State.codeWrite_keeps (s : State) (m : Nat) (l : Loc) (w : Word) :
    Keeps (0x40000000000000038 ||| blkBit (l.blk)) s (State.codeWrite s m l w) := by
  unfold State.codeWrite
  extract_lets +onlyGivenNames -merge -useContext s1
  have keeps_s1 : Keeps ((0x40000000000000038 ||| blkBit (l.blk))) s s1 := by
    unfold s1
    refine Keeps.then ?_ (State.stageWrite_keeps _ _ _ _) (Sub.l rfl)
    exact Keeps.refl _ _
  extract_lets +onlyGivenNames -merge -useContext x1
  extract_lets +onlyGivenNames -merge -useContext new
  refine Keeps.ite ?_ ?_
  · exact keeps_s1
  · refine Keeps.then ?_ (State.setWord_keeps _ _ _ _ _) (Sub.or (Sub.l rfl) (Sub.r _ _))
    exact keeps_s1

theorem State.readLatched_keeps (s : State) (m : Nat) (l : Loc) : Keeps 0x80 s (State.readLatched s m l).2 := by
  unfold State.readLatched
  extract_lets +onlyGivenNames -merge -useContext v
  extract_lets +onlyGivenNames -merge -useContext k
  refine Keeps.ite_snd ?_ ?_
  · split
    · dsimp only
      refine Keeps.set_latch ?_ rfl
      exact Keeps.refl _ _
    · dsimp only
      exact Keeps.refl _ _
  · split
    · refine Keeps.ite_snd ?_ ?_
      · dsimp only
        refine Keeps.set_latch ?_ rfl
        exact Keeps.refl _ _
      · dsimp only
        exact Keeps.refl _ _
    · dsimp only
      exact Keeps.refl _ _

end Sys2Proof.Machine
end

