-- ==== Sys2Proof/Laws/KeepsAccess.lean ====
section
/-! SUPPORT. Frames of the operations of Machine/Access.lean: what each may change, one lemma each. -/

namespace Sys2Proof.Machine

theorem State.unoccupied_keeps (s : State) (m : Nat) (off : Nat) : Keeps 0x10000000000040608 s (State.unoccupied s m off) := by
  unfold State.unoccupied
  refine Keeps.then ?_ (State.gcode_keeps _ _ _ _) rfl
  exact Keeps.refl _ _

theorem State.guardRefuses_keeps (s : State) (m : Nat) (off : Nat) : Keeps 0x90000000000040608 s (State.guardRefuses s m off) := by
  unfold State.guardRefuses
  extract_lets +onlyGivenNames -merge -useContext s1
  have keeps_s1 : Keeps 0x90000000000040608 s s1 := by
    unfold s1
    refine Keeps.then ?_ (State.gcode_keeps _ _ _ _) rfl
    exact Keeps.refl _ _
  refine Keeps.ite ?_ ?_
  · refine Keeps.then ?_ (State.wf_keeps _ _ _ _) (Sub.or rfl rfl)
    exact keeps_s1
  · exact keeps_s1

theorem State.busRead_keeps (s : State) (m : Nat) (off : Nat) : Keeps 0x690000000000040688 s (State.busRead s m off).2.1 := by
  unfold State.busRead
  split
  · split
    · dsimp only
      refine Keeps.then ?_ (State.unoccupied_keeps _ _ _) rfl
      exact Keeps.refl _ _
    · split
      · dsimp only
        refine Keeps.then ?_ (State.unoccupied_keeps _ _ _) rfl
        exact Keeps.refl _ _
      · split
        · dsimp only
          refine Keeps.then ?_ (State.guardRefuses_keeps _ _ _) rfl
          exact Keeps.refl _ _
        · dsimp only
          exact Keeps.refl _ _
        · extract_lets +onlyGivenNames -merge -useContext rws
          dsimp only
          exact Keeps.refl _ _
  · split
    · split
      · dsimp only
        refine Keeps.then ?_ (State.guardRefuses_keeps _ _ _) rfl
        exact Keeps.refl _ _
      · dsimp only
        exact Keeps.refl _ _
      · dsimp only
        exact Keeps.refl _ _
    · split
      · dsimp only
        refine Keeps.then ?_ (State.unoccupied_keeps _ _ _) rfl
        exact Keeps.refl _ _
      · split
        · dsimp only
          refine Keeps.then ?_ (State.guardRefuses_keeps _ _ _) rfl
          exact Keeps.refl _ _
        · dsimp only
          exact Keeps.refl _ _
        · split
          · extract_lets +onlyGivenNames -merge -useContext s1
            have keeps_s1 : Keeps 0x690000000000040688 s s1 := by
              unfold s1
              refine Keeps.then ?_ (State.pinTry_keeps _ _ _) rfl
              exact Keeps.refl _ _
            dsimp only
            exact keeps_s1
          · split
            · extract_lets +onlyGivenNames -merge -useContext r
              have keeps_r : Keeps 0x690000000000040688 s r.2 := by
                unfold r
                refine Keeps.then ?_ (State.readLatched_keeps _ _ _) rfl
                exact Keeps.refl _ _
              dsimp only
              refine Keeps.then ?_ (State.wf_keeps _ _ _ _) (Sub.or rfl rfl)
              exact keeps_r
            · extract_lets +onlyGivenNames -merge -useContext r
              have keeps_r : Keeps 0x690000000000040688 s r.2 := by
                unfold r
                refine Keeps.then ?_ (State.readLatched_keeps _ _ _) rfl
                exact Keeps.refl _ _
              dsimp only
              exact keeps_r

theorem State.hold_keeps (s : State) (m : Nat) (off : Nat) (isWrite : Bool) (w : Word) : Keeps 0x1000 s (State.hold s m off isWrite w) := by
  unfold State.hold
  refine Keeps.set_stalled ?_ rfl
  exact Keeps.refl _ _

theorem State.regAct_keeps {msk : Nat} (s : State) (m : Nat) (i : Nat) (f : Fld) (w : Word) (act : State → State) (hMsk : Sub (0xD0000000000041638 ||| blkBit (f.blk)) msk) (hFun5 : ∀ z0, Keeps msk z0 (act z0)) :
    Keeps msk s (State.regAct s m i f w act) := by
  unfold State.regAct
  extract_lets +onlyGivenNames -merge -useContext off
  extract_lets +onlyGivenNames -merge -useContext w1
  refine Keeps.ite ?_ ?_
  · refine Keeps.then ?_ (State.unoccupied_keeps _ _ _) (Sub.trans (by exact Sub.l rfl) hMsk)
    exact Keeps.refl _ _
  · split
    · refine Keeps.then ?_ (State.unoccupied_keeps _ _ _) (Sub.trans (by exact Sub.l rfl) hMsk)
      exact Keeps.refl _ _
    · split
      · refine Keeps.then ?_ (State.guardRefuses_keeps _ _ _) (Sub.trans (by exact Sub.l rfl) hMsk)
        exact Keeps.refl _ _
      · refine Keeps.then ?_ (State.hold_keeps _ _ _ _ _) (Sub.trans (by exact Sub.l rfl) hMsk)
        exact Keeps.refl _ _
      · refine Keeps.then ?_ (hFun5 _) (Sub.refl _)
        refine Keeps.then ?_ (State.codeWrite_keeps _ _ _ _) (Sub.trans (by exact Sub.or (Sub.l rfl) (Sub.r _ _)) hMsk)
        exact Keeps.refl _ _

theorem State.regSet_keeps {msk : Nat} (s : State) (m : Nat) (i : Nat) (f : Fld) (w : Word) (act : State → State) (hMsk : Sub (0xD0000000000041638 ||| blkBit (f.blk)) msk) (hFun5 : ∀ z0, Keeps msk z0 (act z0)) :
    Keeps msk s (State.regSet s m i f w act) := by
  unfold State.regSet
  extract_lets +onlyGivenNames -merge -useContext off
  refine Keeps.ite ?_ ?_
  · refine Keeps.then ?_ (State.unoccupied_keeps _ _ _) (Sub.trans (by exact Sub.l rfl) hMsk)
    exact Keeps.refl _ _
  · split
    · refine Keeps.then ?_ (State.unoccupied_keeps _ _ _) (Sub.trans (by exact Sub.l rfl) hMsk)
      exact Keeps.refl _ _
    · split
      · refine Keeps.then ?_ (State.guardRefuses_keeps _ _ _) (Sub.trans (by exact Sub.l rfl) hMsk)
        exact Keeps.refl _ _
      · refine Keeps.then ?_ (State.hold_keeps _ _ _ _ _) (Sub.trans (by exact Sub.l rfl) hMsk)
        exact Keeps.refl _ _
      · refine Keeps.then ?_ (hFun5 _) (Sub.refl _)
        refine Keeps.then ?_ (State.codeWrite_keeps _ _ _ _) (Sub.trans (by exact Sub.or (Sub.l rfl) (Sub.r _ _)) hMsk)
        exact Keeps.refl _ _

theorem State.regDo_keeps {msk : Nat} (s : State) (m : Nat) (i : Nat) (f : Fld) (w : Word) (act : State → State) (hMsk : Sub 0x90000000000041608 msk) (hFun5 : ∀ z0, Keeps msk z0 (act z0)) :
    Keeps msk s (State.regDo s m i f w act) := by
  unfold State.regDo
  extract_lets +onlyGivenNames -merge -useContext off
  refine Keeps.ite ?_ ?_
  · refine Keeps.then ?_ (State.unoccupied_keeps _ _ _) (Sub.trans (by exact rfl) hMsk)
    exact Keeps.refl _ _
  · split
    · refine Keeps.then ?_ (State.guardRefuses_keeps _ _ _) (Sub.trans (by exact rfl) hMsk)
      exact Keeps.refl _ _
    · refine Keeps.then ?_ (State.hold_keeps _ _ _ _ _) (Sub.trans (by exact rfl) hMsk)
      exact Keeps.refl _ _
    · refine Keeps.then ?_ (hFun5 _) (Sub.refl _)
      exact Keeps.refl _ _

theorem State.regOnly_keeps {msk : Nat} (s : State) (ok : Bool) (m : Nat) (i : Nat) (f : Fld) (w : Word) (act : State → State) (other : State → State) (hMsk : Sub (0xD0000000000041638 ||| blkBit (f.blk)) msk) (hFun6 : ∀ z0, Keeps msk z0 (act z0)) (hFun7 : ∀ z0, Keeps msk z0 (other z0)) :
    Keeps msk s (State.regOnly s ok m i f w act other) := by
  unfold State.regOnly
  refine Keeps.ite ?_ ?_
  · refine Keeps.then ?_ (State.regAct_keeps (msk := msk) _ _ _ _ _ _ (by exact Sub.trans (by exact Sub.or (Sub.l rfl) (Sub.r _ _)) hMsk) (fun z1 => ?_)) (Sub.refl _)
    · exact Keeps.refl _ _
    · refine Keeps.then ?_ (hFun6 _) (Sub.refl _)
      exact Keeps.refl _ _
  · refine Keeps.then ?_ (State.regDo_keeps (msk := msk) _ _ _ _ _ _ (by exact Sub.trans (by exact Sub.l rfl) hMsk) (fun z2 => ?_)) (Sub.refl _)
    · exact Keeps.refl _ _
    · refine Keeps.then ?_ (hFun7 _) (Sub.refl _)
      exact Keeps.refl _ _

theorem State.hostReads_keeps (s : State) (m : Nat) (w : Word) : Keeps 0x400 s (State.hostReads s m w) := by
  unfold State.hostReads
  refine Keeps.ite ?_ ?_
  · refine Keeps.then ?_ (State.emit_keeps _ _ _ _) rfl
    exact Keeps.refl _ _
  · exact Keeps.refl _ _

end Sys2Proof.Machine
end

