-- ==== Sys2Proof/Laws/Regs.lean ====
section
/-! SUPPORT. Registers: a field reads what was written last, and a write of one field leaves every other field alone (R9). -/

namespace Sys2Proof.Machine

/-! ### Bit fields -/

theorem getBits_testBit (w : Word) (hi lo i : Nat) : (getBits w hi lo).testBit i = (decide (i < hi + 1 - lo) && w.getLsbD (lo + i)) := by
  unfold getBits
  rw [Nat.testBit_mod_two_pow, Nat.testBit_div_two_pow, BitVec.testBit_toNat, Nat.add_comm i lo]

theorem maskBits_getLsbD (hi lo i : Nat) : (maskBits hi lo).getLsbD i = (decide (i < 32) && decide (lo ≤ i) && decide (i - lo < hi + 1 - lo)) := by
  unfold maskBits
  rw [BitVec.getLsbD_ofNat, Nat.testBit_mul_two_pow, Nat.testBit_two_pow_sub_one, Bool.and_assoc]

theorem putBits_getLsbD (w : Word) (hi lo v i : Nat) :
    (putBits w hi lo v).getLsbD i =
      if i < 32 ∧ lo ≤ i ∧ i - lo < hi + 1 - lo then v.testBit (i - lo) else w.getLsbD i := by
  unfold putBits
  simp only [BitVec.getLsbD_or, BitVec.getLsbD_and, BitVec.getLsbD_not, maskBits_getLsbD, BitVec.getLsbD_ofNat, Nat.testBit_mul_two_pow]
  by_cases a : i < 32 <;> by_cases b : lo ≤ i <;> by_cases c : i - lo < hi + 1 - lo <;> simp [a, b, c]
  all_goals exact BitVec.getLsbD_of_ge w i (by omega)

/-- A field reads what was put into it, modulo its width. -/
theorem getBits_putBits_same (w : Word) {hi lo : Nat} (v : Nat) (h : hi < 32) :
    getBits (putBits w hi lo v) hi lo = v % 2 ^ (hi + 1 - lo) := by
  apply Nat.eq_of_testBit_eq
  intro i
  rw [getBits_testBit, putBits_getLsbD, Nat.testBit_mod_two_pow]
  by_cases c : i < hi + 1 - lo
  · have e : lo + i < 32 ∧ lo ≤ lo + i ∧ lo + i - lo < hi + 1 - lo := by omega
    rw [if_pos e, Nat.add_sub_cancel_left]
  · simp [c]

/-- Other bits stay. -/
theorem getBits_putBits_other (w : Word) {hi lo hi' lo' : Nat} (v : Nat) (h : hi < lo' ∨ hi' < lo) :
    getBits (putBits w hi lo v) hi' lo' = getBits w hi' lo' := by
  apply Nat.eq_of_testBit_eq
  intro i
  rw [getBits_testBit, getBits_testBit, putBits_getLsbD]
  by_cases c : i < hi' + 1 - lo'
  · have e : ¬ (lo' + i < 32 ∧ lo ≤ lo' + i ∧ lo' + i - lo < hi + 1 - lo) := by omega
    rw [if_neg e]
  · simp [c]

/-! ### Register keys -/

theorem keyOff_regKey (b : Blk) (i o : Nat) : keyOff (regKey b i o) = o % 1048576 := by
  unfold keyOff regKey
  omega

theorem keyInst_regKey (b : Blk) (i o : Nat) : keyInst (regKey b i o) = i % 4096 := by
  unfold keyInst regKey
  omega

/-- Keys differ where the block, the window or the offset does. -/
theorem regKey_ne {b c : Blk} {i j o p : Nat} (h : b ≠ c ∨ i % 4096 ≠ j % 4096 ∨ o % 1048576 ≠ p % 1048576) : regKey b i o ≠ regKey c j p := by
  intro e
  rcases h with h | h | h
  · exact h (by rw [← keyBlk_regKey b i o, e, keyBlk_regKey])
  · exact h (by rw [← keyInst_regKey b i o, e, keyInst_regKey])
  · exact h (by rw [← keyOff_regKey b i o, e, keyOff_regKey])

/-! ### Words -/

theorem State.word_setWord_same (s : State) (b : Blk) (i o : Nat) (w : Word) : (s.setWord b i o w).word b i o = w := by
  simp [State.word, State.setWord, cgetD, cget_cset_same]

theorem State.word_setWord_other (s : State) {b c : Blk} {i j o p : Nat} (w : Word)
    (h : c ≠ b ∨ j % 4096 ≠ i % 4096 ∨ p % 1048576 ≠ o % 1048576) : (s.setWord b i o w).word c j p = s.word c j p := by
  unfold State.word State.setWord cgetD
  simp only
  rw [cget_cset_other _ _ (regKey_ne h)]

/-- A field, read from the register's word: of a field that the register's table gives, whether the register is stored or not. -/
theorem State.rf_of_word (s : State) (i : Nat) (f : Fld) (h : getBits (resetWord f.blk f.off) f.hi f.lo = f.rst) :
    s.rf i f = getBits (s.word f.blk i f.off) f.hi f.lo := by
  unfold State.rf State.word cgetD
  cases cget s.regs (regKey f.blk i f.off) with
  | none => exact h.symm
  | some w => rfl

/-- The field that hardware wrote reads what was written. -/
theorem State.rf_wf_same (s : State) (i : Nat) (f : Fld) (v : Nat) (h : f.hi < 32) : (s.wf i f v).rf i f = v % 2 ^ (f.hi + 1 - f.lo) := by
  unfold State.rf State.wf State.setWord
  simp only
  rw [cget_cset_same]
  exact getBits_putBits_same _ _ h

/-- A write of a field of another register leaves a field alone. -/
theorem State.rf_wf_reg (s : State) {i j : Nat} {f g : Fld} (v : Nat)
    (h : g.blk ≠ f.blk ∨ j % 4096 ≠ i % 4096 ∨ g.off % 1048576 ≠ f.off % 1048576) : (s.wf i f v).rf j g = s.rf j g := by
  unfold State.rf State.wf State.setWord
  simp only
  rw [cget_cset_other _ _ (regKey_ne h)]

/-- A write of other bits of the same register leaves a field alone. -/
theorem State.rf_wf_bits (s : State) (i : Nat) {f g : Fld} (v : Nat) (hb : g.blk = f.blk) (ho : g.off = f.off)
    (hr : getBits (resetWord g.blk g.off) g.hi g.lo = g.rst) (h : f.hi < g.lo ∨ g.hi < f.lo) : (s.wf i f v).rf i g = s.rf i g := by
  rw [State.rf_of_word s i g hr]
  unfold State.rf State.wf State.setWord
  simp only
  rw [hb, ho, cget_cset_same]
  exact getBits_putBits_other _ _ h

/-- A field of the register whose whole word was stored. -/
theorem State.rf_setWord_same (s : State) (i : Nat) (f : Fld) (w : Word) : (s.setWord f.blk i f.off w).rf i f = getBits w f.hi f.lo := by
  unfold State.rf State.setWord
  simp only
  rw [cget_cset_same]

/-- A word stored in another register leaves a field alone. -/
theorem State.rf_setWord_other (s : State) {b : Blk} {i j o : Nat} {g : Fld} (w : Word)
    (h : g.blk ≠ b ∨ j % 4096 ≠ i % 4096 ∨ g.off % 1048576 ≠ o % 1048576) : (s.setWord b i o w).rf j g = s.rf j g := by
  unfold State.rf State.setWord
  simp only
  rw [cget_cset_other _ _ (regKey_ne h)]

/-- A write of a field of another register leaves a word alone. -/
theorem State.word_wf_other (s : State) {b : Blk} {i j o : Nat} {f : Fld} (v : Nat)
    (h : b ≠ f.blk ∨ j % 4096 ≠ i % 4096 ∨ o % 1048576 ≠ f.off % 1048576) : (s.wf i f v).word b j o = s.word b j o :=
  State.word_setWord_other s _ h

/-- A 64-bit quantity reads what was stored, modulo 2^64 (R8). -/
theorem State.rf64_wf64_same (s : State) (i : Nat) (lo : Fld) (v : Nat) : (s.wf64 i lo v).rf64 i lo = v % 2 ^ 64 := by
  have e : lo.off % 1048576 ≠ (lo.off + 4) % 1048576 := by omega
  have w : (s.wf64 i lo v).word lo.blk i (lo.off + 4) = BitVec.ofNat 32 (v / 2 ^ 32) := State.word_setWord_same _ _ _ _ _
  have r : (s.wf64 i lo v).rf i { lo with hi := 31, lo := 0 } = v % 2 ^ 32 := by
    unfold State.wf64
    rw [State.rf_setWord_other (g := { lo with hi := 31, lo := 0 }) _ _ (.inr (.inr e))]
    refine (State.rf_setWord_same s i { lo with hi := 31, lo := 0 } _).trans ?_
    simp [getBits]
  unfold State.rf64
  rw [w, r, BitVec.toNat_ofNat]
  omega

/-! ### Fields through a frame -/

/-- A frame without a block's bit leaves the block's fields alone. -/
theorem Keeps.rf {m : Nat} {r s : State} (h : Keeps m r s) (i : Nat) (f : Fld) (e : m.testBit (64 + f.blk.code) = false) : s.rf i f = r.rf i f := by
  unfold State.rf
  rw [h.regs f.blk e _ (keyBlk_regKey _ _ _)]

theorem Keeps.word {m : Nat} {r s : State} (h : Keeps m r s) (b : Blk) (i o : Nat) (e : m.testBit (64 + b.code) = false) :
    s.word b i o = r.word b i o := by
  unfold State.word cgetD
  rw [h.regs b e _ (keyBlk_regKey _ _ _)]

/-! ### Events (R357, R394) -/

/-- A raised event leaves every word alone but the coach's Rein events. -/
theorem State.word_reinRaise (s : State) (coach src ev n : Nat) {b : Blk} (i o : Nat) (h : b ≠ .REI) :
    (s.reinRaise coach src ev n).word b i o = s.word b i o := by
  refine (State.reinRaise_keeps s coach src ev n).word b i o ?_
  cases b <;> first | exact absurd rfl h | rfl

/-- An event bit that sets changes the words of no other register but the Rein blocks'. -/
theorem State.word_ev (s : State) (i : Nat) (f : Fld) {b : Blk} (j o : Nat) (h : b ≠ .REI) : (s.ev i f).word b j o = (s.wf i f 1).word b j o := by
  unfold State.ev
  extract_lets s1 s2
  have e1 : (State.edges s (s.vectorsOf i f) s2).word b j o = s2.word b j o :=
    (State.edges_keeps s (s.vectorsOf i f) s2).word b j o (by cases b <;> rfl)
  rw [e1]
  unfold s2
  split
  · exact State.word_reinRaise _ _ _ _ _ _ _ h
  · rfl

theorem State.rf_ev (s : State) (i : Nat) (f : Fld) (j : Nat) {g : Fld} (h : g.blk ≠ .REI) : (s.ev i f).rf j g = (s.wf i f 1).rf j g := by
  have e : cget (s.ev i f).regs (regKey g.blk j g.off) = cget (s.wf i f 1).regs (regKey g.blk j g.off) := by
    unfold State.ev
    extract_lets s1 s2
    have k1 := (State.edges_keeps s (s.vectorsOf i f) s2).regs g.blk (by cases g.blk <;> rfl) _ (keyBlk_regKey g.blk j g.off)
    rw [← k1]
    unfold s2
    split
    · refine ((State.reinRaise_keeps _ _ _ _ _).regs g.blk ?_ _ (keyBlk_regKey g.blk j g.off)).symm
      generalize g.blk = b at h
      cases b <;> first | exact absurd rfl h | rfl
    · rfl
  unfold State.rf
  rw [e]

/-- An event bit of a block other than REI is set after its event. -/
theorem State.rf_ev_same (s : State) (i : Nat) (f : Fld) (h : f.blk ≠ .REI) (hi : f.hi < 32) (lo : f.lo ≤ f.hi) : (s.ev i f).rf i f = 1 := by
  rw [State.rf_ev s i f i h, State.rf_wf_same s i f 1 hi]
  exact Nat.mod_eq_of_lt (Nat.one_lt_two_pow (by omega))

end Sys2Proof.Machine
end

