-- ==== Sys2Proof/Laws/Access.lean ====
section
/-! SUPPORT. Accesses: an access that reaches its register acts (R401), and what a coded write leaves in its register and in every other
(R10, R404). -/

namespace Sys2Proof.Machine

/-- A running domain lets every access pass. -/
theorem Reaches.gate {s : State} {b : Blk} {i : Nat} (h : Reaches s b i) (m : Nat) : s.gate m b i = .pass := by
  unfold State.gate
  rw [h.2]
  rfl

/-- A register action that reaches its register: the access codes take the write, then the action runs. -/
theorem State.regAct_run (s : State) (m i : Nat) (f : Fld) (w : Word) (act : State → State) (h : Reaches s f.blk i) {d : RegDef}
    (hd : findDef f.blk f.off = some d) :
    s.regAct m i f w act = act (s.codeWrite m ⟨f.blk, i, f.off, d⟩ (w ||| maskBits f.hi f.lo)) := by
  unfold State.regAct
  simp only [h.1, hd, h.gate m, Bool.not_true, Bool.false_eq_true, if_false]

/-- A write whose new values act, where it reaches its register. -/
theorem State.regSet_run (s : State) (m i : Nat) (f : Fld) (w : Word) (act : State → State) (h : Reaches s f.blk i) {d : RegDef}
    (hd : findDef f.blk f.off = some d) : s.regSet m i f w act = act (s.codeWrite m ⟨f.blk, i, f.off, d⟩ w) := by
  unfold State.regSet
  simp only [h.1, hd, h.gate m, Bool.not_true, Bool.false_eq_true, if_false]

/-- A write with a meaning of its own, where it reaches its register. -/
theorem State.regDo_run (s : State) (m i : Nat) (f : Fld) (w : Word) (act : State → State) (h : Reaches s f.blk i) :
    s.regDo m i f w act = act s := by
  unfold State.regDo
  simp only [h.1, h.gate m, Bool.not_true, Bool.false_eq_true, if_false]

/-! ### Coded writes -/

/-- Staging changes no word of the active view but the writer's YOK_ERR. -/
theorem State.word_stageWrite (s : State) (m : Nat) (l : Loc) (w : Word) {b : Blk} (i o : Nat) (h : b ≠ .YOK) :
    (s.stageWrite m l w).word b i o = s.word b i o := by
  refine (State.stageWrite_keeps s m l w).word b i o ?_
  cases b <;> first | exact absurd rfl h | rfl

/-- What stands at a register's key after staging. -/
theorem State.cget_stageWrite (s : State) (m : Nat) (l : Loc) (w : Word) {b : Blk} (i o : Nat) (h : b ≠ .YOK) :
    cget (s.stageWrite m l w).regs (regKey b i o) = cget s.regs (regKey b i o) := by
  refine ((State.stageWrite_keeps s m l w).regs b ?_ _ (keyBlk_regKey b i o)).symm
  cases b <;> first | exact absurd rfl h | rfl

/-- A coded write leaves in its register what the access codes say (R10). -/
theorem State.word_codeWrite_same (s : State) (m : Nat) (l : Loc) (w : Word) (h : l.blk ≠ .YOK) :
    (s.codeWrite m l w).word l.blk l.inst l.off = l.rdef.written (s.word l.blk l.inst l.off) w := by
  unfold State.codeWrite
  extract_lets s1 old new
  have e : old = s.word l.blk l.inst l.off := State.word_stageWrite s m l w _ _ h
  split
  · rename_i c
    rw [← e]
    exact c.symm
  · rw [State.word_setWord_same, ← e]

/-- A coded write leaves every other register alone, but for the writer's YOK_ERR. -/
theorem State.word_codeWrite_other (s : State) (m : Nat) (l : Loc) (w : Word) {b : Blk} {i o : Nat} (hb : b ≠ .YOK)
    (h : b ≠ l.blk ∨ i % 4096 ≠ l.inst % 4096 ∨ o % 1048576 ≠ l.off % 1048576) : (s.codeWrite m l w).word b i o = s.word b i o := by
  unfold State.codeWrite
  extract_lets s1 old new
  split
  · exact State.word_stageWrite s m l w _ _ hb
  · rw [State.word_setWord_other _ _ h]
    exact State.word_stageWrite s m l w _ _ hb

/-- A field of another register after a coded write. -/
theorem State.rf_codeWrite_other (s : State) (m : Nat) (l : Loc) (w : Word) (i : Nat) {f : Fld} (hb : f.blk ≠ .YOK)
    (h : f.blk ≠ l.blk ∨ i % 4096 ≠ l.inst % 4096 ∨ f.off % 1048576 ≠ l.off % 1048576) : (s.codeWrite m l w).rf i f = s.rf i f := by
  have e : cget (s.codeWrite m l w).regs (regKey f.blk i f.off) = cget s.regs (regKey f.blk i f.off) := by
    unfold State.codeWrite
    extract_lets s1 old new
    split
    · exact State.cget_stageWrite s m l w _ _ hb
    · unfold State.setWord
      simp only
      rw [cget_cset_other _ _ (regKey_ne h)]
      exact State.cget_stageWrite s m l w _ _ hb
  unfold State.rf
  rw [e]

/-- A field of the register that a coded write reaches. -/
theorem State.rf_codeWrite_same (s : State) (m : Nat) (l : Loc) (w : Word) {f : Fld} (hy : l.blk ≠ .YOK) (hb : f.blk = l.blk) (ho : f.off = l.off)
    (hr : getBits (resetWord f.blk f.off) f.hi f.lo = f.rst) :
    (s.codeWrite m l w).rf l.inst f = getBits (l.rdef.written (s.word l.blk l.inst l.off) w) f.hi f.lo := by
  rw [State.rf_of_word _ _ _ hr, hb, ho, State.word_codeWrite_same s m l w hy]

/-- A bit of a coded register: RW bits are written, W1C bits clear where w has a 1, W1S bits set there, others stay (R10). -/
theorem RegDef.written_getLsbD (d : RegDef) (old w : Word) (n : Nat) :
    (d.written old w).getLsbD n =
      ((((old.getLsbD n && !(d.maskAcc .RW).getLsbD n) || (w.getLsbD n && (d.maskAcc .RW).getLsbD n)) &&
        !(w.getLsbD n && (d.maskAcc .W1C).getLsbD n)) || (w.getLsbD n && (d.maskAcc .W1S).getLsbD n)) := by
  unfold RegDef.written
  by_cases hn : n < 32
  · simp only [BitVec.getLsbD_or, BitVec.getLsbD_and, BitVec.getLsbD_not, hn, decide_true, Bool.true_and]
  · have z : ∀ x : Word, x.getLsbD n = false := fun x => BitVec.getLsbD_of_ge x n (by omega)
    simp [z]

/-- A field that hardware alone writes keeps its value through a coded write. -/
theorem getBits_written_kept (d : RegDef) (old w : Word) (hi lo : Nat)
    (h : (d.maskAcc .RW ||| d.maskAcc .W1C ||| d.maskAcc .W1S) &&& maskBits hi lo = 0#32) (hh : hi < 32) :
    getBits (d.written old w) hi lo = getBits old hi lo := by
  apply Nat.eq_of_testBit_eq
  intro i
  rw [getBits_testBit, getBits_testBit, RegDef.written_getLsbD]
  by_cases c : i < hi + 1 - lo
  · have e := congrArg (fun x : Word => x.getLsbD (lo + i)) h
    simp only [BitVec.getLsbD_and, BitVec.getLsbD_or, maskBits_getLsbD, BitVec.getLsbD_zero] at e
    have g : (decide (lo + i < 32) && decide (lo ≤ lo + i) && decide (lo + i - lo < hi + 1 - lo)) = true := by
      simp only [Bool.and_eq_true, decide_eq_true_eq]
      omega
    rw [g, Bool.and_true] at e
    simp only [Bool.or_eq_false_iff] at e
    simp [e.1.1, e.1.2, e.2]
  · simp [c]

/-- A field of RW bits takes the written value. -/
theorem getBits_written_rw (d : RegDef) (old w : Word) (hi lo : Nat) (h : d.maskAcc .RW &&& maskBits hi lo = maskBits hi lo)
    (h2 : (d.maskAcc .W1C ||| d.maskAcc .W1S) &&& maskBits hi lo = 0#32) (hh : hi < 32) :
    getBits (d.written old w) hi lo = getBits w hi lo := by
  apply Nat.eq_of_testBit_eq
  intro i
  rw [getBits_testBit, getBits_testBit, RegDef.written_getLsbD]
  by_cases c : i < hi + 1 - lo
  · have g : (decide (lo + i < 32) && decide (lo ≤ lo + i) && decide (lo + i - lo < hi + 1 - lo)) = true := by
      simp only [Bool.and_eq_true, decide_eq_true_eq]
      omega
    have e := congrArg (fun x : Word => x.getLsbD (lo + i)) h
    simp only [BitVec.getLsbD_and, maskBits_getLsbD, g, Bool.and_true] at e
    have e2 := congrArg (fun x : Word => x.getLsbD (lo + i)) h2
    simp only [BitVec.getLsbD_and, BitVec.getLsbD_or, maskBits_getLsbD, g, Bool.and_true, BitVec.getLsbD_zero, Bool.or_eq_false_iff] at e2
    simp [e, e2.1, e2.2]
  · simp [c]

/-- A hardware field of a coded register keeps its value through the write. -/
theorem State.rf_codeWrite_kept (s : State) (m : Nat) (l : Loc) (w : Word) {f : Fld} (hy : l.blk ≠ .YOK) (hb : f.blk = l.blk) (ho : f.off = l.off)
    (hr : getBits (resetWord f.blk f.off) f.hi f.lo = f.rst)
    (h : (l.rdef.maskAcc .RW ||| l.rdef.maskAcc .W1C ||| l.rdef.maskAcc .W1S) &&& maskBits f.hi f.lo = 0#32) (hh : f.hi < 32) :
    (s.codeWrite m l w).rf l.inst f = s.rf l.inst f := by
  rw [State.rf_codeWrite_same s m l w hy hb ho hr, getBits_written_kept _ _ _ _ _ h hh, State.rf_of_word s _ f hr, hb, ho]

/-- An RW field of a coded register takes the written bits. -/
theorem State.rf_codeWrite_rw (s : State) (m : Nat) (l : Loc) (w : Word) {f : Fld} (hy : l.blk ≠ .YOK) (hb : f.blk = l.blk) (ho : f.off = l.off)
    (hr : getBits (resetWord f.blk f.off) f.hi f.lo = f.rst)
    (h : l.rdef.maskAcc .RW &&& maskBits f.hi f.lo = maskBits f.hi f.lo)
    (h2 : (l.rdef.maskAcc .W1C ||| l.rdef.maskAcc .W1S) &&& maskBits f.hi f.lo = 0#32) (hh : f.hi < 32) :
    (s.codeWrite m l w).rf l.inst f = getBits w f.hi f.lo := by
  rw [State.rf_codeWrite_same s m l w hy hb ho hr, getBits_written_rw _ _ _ _ _ h h2 hh]

end Sys2Proof.Machine
end

