-- ==== Sys2Proof/Laws/KeepsWake.lean ====
section
/-! SUPPORT. Frames of the operations of Machine/Wake.lean: what each may change, one lemma each. -/

namespace Sys2Proof.Machine

theorem State.toPwr_keeps (s : State) (n : Nat) : Keeps 0x1000000000000000008 s (State.toPwr s n) := by
  unfold State.toPwr
  refine Keeps.then ?_ (State.wf_keeps _ _ _ _) (Sub.or rfl rfl)
  exact Keeps.refl _ _

theorem State.wakeBegins_keeps (s : State) (fromBox : Bool) : Keeps 0x1010000000000008008 s (State.wakeBegins s fromBox) := by
  unfold State.wakeBegins
  extract_lets +onlyGivenNames -merge -useContext t
  have keeps_t : Keeps 0x1010000000000008008 s t := by
    unfold t
    refine Keeps.then ?_ (State.toPwr_keeps _ _) rfl
    exact Keeps.refl _ _
  extract_lets +onlyGivenNames -merge -useContext x1
  extract_lets +onlyGivenNames -merge -useContext x2
  have keeps_x2 : Keeps 0x1010000000000008008 s x2 := by
    unfold x2
    refine Keeps.set_pwr ?_ rfl
    exact keeps_t
  refine Keeps.ite ?_ ?_
  · exact keeps_x2
  · refine Keeps.ite ?_ ?_
    · refine Keeps.then ?_ (State.wf_keeps _ _ _ _) (Sub.or rfl rfl)
      exact keeps_x2
    · refine Keeps.then ?_ (State.wf_keeps _ _ _ _) (Sub.or rfl rfl)
      refine Keeps.then ?_ (State.wf_keeps _ _ _ _) (Sub.or rfl rfl)
      exact keeps_x2

theorem State.wakeSource_keeps (s : State) (src : Nat) (idx : Nat) : Keeps 0x1010000000000008008 s (State.wakeSource s src idx) := by
  unfold State.wakeSource
  extract_lets +onlyGivenNames -merge -useContext st
  refine Keeps.ite ?_ ?_
  · exact Keeps.refl _ _
  · extract_lets +onlyGivenNames -merge -useContext s1
    have keeps_s1 : Keeps 0x1010000000000008008 s s1 := by
      unfold s1
      refine Keeps.then ?_ (State.wf_keeps _ _ _ _) (Sub.or rfl rfl)
      exact Keeps.refl _ _
    refine Keeps.ite ?_ ?_
    · exact keeps_s1
    · refine Keeps.ite ?_ ?_
      · exact keeps_s1
      · extract_lets +onlyGivenNames -merge -useContext s2
        have keeps_s2 : Keeps 0x1010000000000008008 s s2 := by
          unfold s2
          refine Keeps.then ?_ (State.wf_keeps _ _ _ _) (Sub.or rfl rfl)
          refine Keeps.then ?_ (State.wf_keeps _ _ _ _) (Sub.or rfl rfl)
          exact keeps_s1
        refine Keeps.ite ?_ ?_
        · refine Keeps.set_pwr ?_ rfl
          exact keeps_s2
        · refine Keeps.then ?_ (State.wakeBegins_keeps _ _) rfl
          exact keeps_s2

theorem State.gioShow_keeps (s : State) (old : State) (pins : List Nat) : Keeps 0x400 s (State.gioShow s old pins) := by
  unfold State.gioShow
  refine Keeps.fold ?_ (fun t1 y2 => ?_)
  · exact Keeps.refl _ _
  · refine Keeps.ite ?_ ?_
    · exact Keeps.refl _ _
    · refine Keeps.then ?_ (State.emitLive_keeps _ _ _ _) rfl
      exact Keeps.refl _ _

theorem State.gioStart_keeps (s : State) (src : Nat) (idx : Nat) (us : Nat) :
    Keeps 0x800000000000800408 s (State.gioStart s src idx us) := by
  unfold State.gioStart
  extract_lets +onlyGivenNames -merge -useContext rest
  extract_lets +onlyGivenNames -merge -useContext s1
  extract_lets +onlyGivenNames -merge -useContext s1_2
  have keeps_s1_2 : Keeps 0x800000000000800408 s s1_2 := by
    unfold s1_2
    refine Keeps.set_way ?_ rfl
    exact Keeps.refl _ _
  extract_lets +onlyGivenNames -merge -useContext s2
  have keeps_s2 : Keeps 0x800000000000800408 s s2 := by
    unfold s2
    refine Keeps.ite ?_ ?_
    · refine Keeps.then ?_ (State.wf_keeps _ _ _ _) (Sub.or rfl (Sub.blk .WAY (by first | rfl | exact blk_ite rfl rfl) rfl))
      exact keeps_s1_2
    · exact keeps_s1_2
  refine Keeps.then ?_ (State.gioShow_keeps _ _ _) rfl
  exact keeps_s2

theorem execGioPulseEnd_keeps (src : Nat) (idx : Nat) (s : State) : KeepsO 0x800000000000800408 s (execGioPulseEnd src idx s) := by
  unfold execGioPulseEnd
  refine KeepsO.next ?_
  split
  · exact Keeps.refl _ _
  · extract_lets +onlyGivenNames -merge -useContext rest
    extract_lets +onlyGivenNames -merge -useContext s1
    extract_lets +onlyGivenNames -merge -useContext s1_2
    have keeps_s1_2 : Keeps 0x800000000000800408 s s1_2 := by
      unfold s1_2
      refine Keeps.set_way ?_ rfl
      exact Keeps.refl _ _
    extract_lets +onlyGivenNames -merge -useContext s2
    have keeps_s2 : Keeps 0x800000000000800408 s s2 := by
      unfold s2
      refine Keeps.ite ?_ ?_
      · refine Keeps.then ?_ (State.wf_keeps _ _ _ _) (Sub.or rfl (Sub.blk .WAY (by first | rfl | exact blk_ite rfl rfl) rfl))
        exact keeps_s1_2
      · exact keeps_s1_2
    refine Keeps.then ?_ (State.gioShow_keeps _ _ _) rfl
    exact keeps_s2

end Sys2Proof.Machine
end

