-- ==== Sys2Proof/Laws/KeepsWayPos.lean ====
section
/-! SUPPORT. Frames of the operations of Machine/WayPos.lean: what each may change, one lemma each. -/

namespace Sys2Proof.Machine

theorem State.portMod_keeps (s : State) (p : Nat) (f : WayPort → WayPort) : Keeps 0x800000 s (State.portMod s p f) := by
  unfold State.portMod
  refine Keeps.set_way ?_ rfl
  exact Keeps.refl _ _

end Sys2Proof.Machine
end

