-- ==== Sys2Proof/Laws/KeepsWaywiser.lean ====
section
/-! SUPPORT. Frames of the operations of Machine/Waywiser.lean: what each may change, one lemma each. -/

namespace Sys2Proof.Machine

theorem State.unsure_keeps (s : State) (p : Nat) : Keeps 0x800000000000000008 s (State.unsure s p) := by
  unfold State.unsure
  refine Keeps.then ?_ (State.wf_keeps _ _ _ _) (Sub.or rfl (Sub.blk .WAY (by first | rfl | exact blk_ite rfl rfl) rfl))
  exact Keeps.refl _ _

theorem State.sure_keeps (s : State) (p : Nat) : Keeps 0x800000000000000008 s (State.sure s p) := by
  unfold State.sure
  refine Keeps.ite ?_ ?_
  · exact Keeps.refl _ _
  · refine Keeps.then ?_ (State.wf_keeps _ _ _ _) (Sub.or rfl (Sub.blk .WAY (by first | rfl | exact blk_ite rfl rfl) rfl))
    exact Keeps.refl _ _

theorem State.suspect_keeps (s : State) (p : Nat) : Keeps 0x10800000000000100608 s (State.suspect s p) := by
  unfold State.suspect
  refine Keeps.then ?_ (State.ev_keeps _ _ _) (Sub.or rfl (Sub.blk .WAY (by first | rfl | exact blk_ite rfl rfl) rfl))
  refine Keeps.then ?_ (State.wf_keeps _ _ _ _) (Sub.or rfl (Sub.blk .WAY (by first | rfl | exact blk_ite rfl rfl) rfl))
  exact Keeps.refl _ _

theorem State.advance_keeps (s : State) (p : Nat) (d : Int) : Keeps 0x10800000000000100608 s (State.advance s p d) := by
  unfold State.advance
  extract_lets +onlyGivenNames -merge -useContext c
  extract_lets +onlyGivenNames -merge -useContext r
  extract_lets +onlyGivenNames -merge -useContext s1
  have keeps_s1 : Keeps 0x10800000000000100608 s s1 := by
    unfold s1
    refine Keeps.then ?_ (State.wf_keeps _ _ _ _) (Sub.or rfl (Sub.blk .WAY (by first | rfl | exact blk_ite rfl rfl) rfl))
    refine Keeps.then ?_ (State.wf_keeps _ _ _ _) (Sub.or rfl (Sub.blk .WAY (by first | rfl | exact blk_ite rfl rfl) rfl))
    exact Keeps.refl _ _
  refine Keeps.ite ?_ ?_
  · refine Keeps.then ?_ (State.ev_keeps _ _ _) (Sub.or rfl (Sub.blk .WAY (by first | rfl | exact blk_ite rfl rfl) rfl))
    refine Keeps.then ?_ (State.unsure_keeps _ _) rfl
    exact keeps_s1
  · exact keeps_s1

theorem State.underflow_keeps (s : State) (p : Nat) : Keeps 0x10800000000000100608 s (State.underflow s p) := by
  unfold State.underflow
  refine Keeps.ite ?_ ?_
  · refine Keeps.then ?_ (State.ev_keeps _ _ _) (Sub.or rfl (Sub.blk .WAY (by first | rfl | exact blk_ite rfl rfl) rfl))
    refine Keeps.then ?_ (State.unsure_keeps _ _) rfl
    exact Keeps.refl _ _
  · exact Keeps.refl _ _

theorem State.record_keeps (s : State) (p : Nat) (ns : Int) : Keeps 0x800000 s (State.record s p ns) := by
  unfold State.record
  extract_lets +onlyGivenNames -merge -useContext e
  refine Keeps.then ?_ (State.portMod_keeps _ _ _) rfl
  exact Keeps.refl _ _

theorem State.edgeSpeed_keeps (s : State) (p : Nat) (ns : Int) (bounded : Int) :
    Keeps 0x800000000000800008 s (State.edgeSpeed s p ns bounded) := by
  unfold State.edgeSpeed
  extract_lets +onlyGivenNames -merge -useContext w
  extract_lets +onlyGivenNames -merge -useContext n
  extract_lets +onlyGivenNames -merge -useContext back
  split
  · refine Keeps.then ?_ (State.portMod_keeps _ _ _) rfl
    exact Keeps.refl _ _
  · extract_lets +onlyGivenNames -merge -useContext dt
    extract_lets +onlyGivenNames -merge -useContext raw
    refine Keeps.ite ?_ ?_
    · refine Keeps.then ?_ (State.portMod_keeps _ _ _) rfl
      exact Keeps.refl _ _
    · extract_lets +onlyGivenNames -merge -useContext v
      refine Keeps.then ?_ (State.wf_keeps _ _ _ _) (Sub.or rfl (Sub.blk .WAY (by first | rfl | exact blk_ite rfl rfl) rfl))
      refine Keeps.then ?_ (State.portMod_keeps _ _ _) rfl
      exact Keeps.refl _ _

theorem State.noteBefore_keeps (s : State) (p : Nat) : Keeps 0x800000 s (State.noteBefore s p) := by
  unfold State.noteBefore
  extract_lets +onlyGivenNames -merge -useContext b
  refine Keeps.then ?_ (State.portMod_keeps _ _ _) rfl
  exact Keeps.refl _ _

theorem State.countStep_keeps (s : State) (p : Nat) (d : Int) : Keeps 0x10800000000000900608 s (State.countStep s p d) := by
  unfold State.countStep
  extract_lets +onlyGivenNames -merge -useContext ns
  extract_lets +onlyGivenNames -merge -useContext bounded
  extract_lets +onlyGivenNames -merge -useContext s1
  have keeps_s1 : Keeps 0x10800000000000900608 s s1 := by
    unfold s1
    refine Keeps.then ?_ (State.advance_keeps _ _ _) rfl
    refine Keeps.then ?_ (State.wf_keeps _ _ _ _) (Sub.or rfl (Sub.blk .WAY (by first | rfl | exact blk_ite rfl rfl) rfl))
    refine Keeps.then ?_ (State.noteBefore_keeps _ _) rfl
    exact Keeps.refl _ _
  extract_lets +onlyGivenNames -merge -useContext s2
  have keeps_s2 : Keeps 0x10800000000000900608 s s2 := by
    unfold s2
    refine Keeps.ite ?_ ?_
    · exact keeps_s1
    · refine Keeps.then ?_ (State.edgeSpeed_keeps _ _ _ _) rfl
      exact keeps_s1
  refine Keeps.then ?_ (State.underflow_keeps _ _) rfl
  refine Keeps.then ?_ (State.record_keeps _ _ _) rfl
  exact keeps_s2

theorem State.overspeed_keeps (s : State) (p : Nat) : Keeps 0x10800000000000100608 s (State.overspeed s p) := by
  unfold State.overspeed
  refine Keeps.then ?_ (State.ev_keeps _ _ _) (Sub.or rfl (Sub.blk .WAY (by first | rfl | exact blk_ite rfl rfl) rfl))
  refine Keeps.then ?_ (State.unsure_keeps _ _) rfl
  refine Keeps.then ?_ (State.wf_keeps _ _ _ _) (Sub.or rfl (Sub.blk .WAY (by first | rfl | exact blk_ite rfl rfl) rfl))
  exact Keeps.refl _ _

theorem State.tally_keeps (s : State) (p : Nat) (ra : Nat) (rb : Nat) (ca : Bool) (cb : Bool) :
    Keeps 0x10800000000000900608 s (State.tally s p ra rb ca cb) := by
  unfold State.tally
  refine Keeps.ite ?_ ?_
  · exact Keeps.refl _ _
  · extract_lets +onlyGivenNames -merge -useContext w
    extract_lets +onlyGivenNames -merge -useContext a
    extract_lets +onlyGivenNames -merge -useContext b
    extract_lets +onlyGivenNames -merge -useContext s1
    have keeps_s1 : Keeps 0x10800000000000900608 s s1 := by
      unfold s1
      refine Keeps.then ?_ (State.portMod_keeps _ _ _) rfl
      exact Keeps.refl _ _
    refine Keeps.ite ?_ ?_
    · refine Keeps.then ?_ (State.overspeed_keeps _ _) rfl
      exact keeps_s1
    · exact keeps_s1

theorem State.doubleEdge_keeps (s : State) (p : Nat) : Keeps 0x10800000000000100608 s (State.doubleEdge s p) := by
  unfold State.doubleEdge
  extract_lets +onlyGivenNames -merge -useContext s1
  have keeps_s1 : Keeps 0x10800000000000100608 s s1 := by
    unfold s1
    refine Keeps.then ?_ (State.ev_keeps _ _ _) (Sub.or rfl (Sub.blk .WAY (by first | rfl | exact blk_ite rfl rfl) rfl))
    refine Keeps.then ?_ (State.inc_keeps _ _ _) (Sub.or rfl (Sub.blk .WAY (by first | rfl | exact blk_ite rfl rfl) rfl))
    refine Keeps.then ?_ (State.inc_keeps _ _ _) (Sub.or rfl (Sub.blk .WAY (by first | rfl | exact blk_ite rfl rfl) rfl))
    exact Keeps.refl _ _
  extract_lets +onlyGivenNames -merge -useContext s2
  have keeps_s2 : Keeps 0x10800000000000100608 s s2 := by
    unfold s2
    refine Keeps.ite ?_ ?_
    · refine Keeps.then ?_ (State.ev_keeps _ _ _) (Sub.or rfl (Sub.blk .WAY (by first | rfl | exact blk_ite rfl rfl) rfl))
      refine Keeps.then ?_ (State.unsure_keeps _ _) rfl
      exact keeps_s1
    · exact keeps_s1
  refine Keeps.ite ?_ ?_
  · refine Keeps.then ?_ (State.ev_keeps _ _ _) (Sub.or rfl (Sub.blk .WAY (by first | rfl | exact blk_ite rfl rfl) rfl))
    refine Keeps.then ?_ (State.unsure_keeps _ _) rfl
    refine Keeps.then ?_ (State.wf_keeps _ _ _ _) (Sub.or rfl (Sub.blk .WAY (by first | rfl | exact blk_ite rfl rfl) rfl))
    exact keeps_s2
  · exact keeps_s2

theorem State.datLevel_keeps (s : State) (p : Nat) (x : Bool) : Keeps 0x800000000000000008 s (State.datLevel s p x) := by
  unfold State.datLevel
  refine Keeps.ite ?_ ?_
  · exact Keeps.refl _ _
  · refine Keeps.then ?_ (State.wf_keeps _ _ _ _) (Sub.or rfl (Sub.blk .WAY (by first | rfl | exact blk_ite rfl rfl) rfl))
    exact Keeps.refl _ _

theorem execQuadratureStep_keeps (p : Nat) (a : Bool) (b : Bool) (z : Bool) (ra : Nat) (rb : Nat) (s : State) :
    KeepsO 0x10800000000000900608 s (execQuadratureStep p a b z ra rb s) := by
  unfold execQuadratureStep
  extract_lets +onlyGivenNames -merge -useContext xp
  extract_lets +onlyGivenNames -merge -useContext lv
  extract_lets +onlyGivenNames -merge -useContext wf
  extract_lets +onlyGivenNames -merge -useContext hold
  extract_lets +onlyGivenNames -merge -useContext a1
  extract_lets +onlyGivenNames -merge -useContext b1
  extract_lets +onlyGivenNames -merge -useContext z1
  extract_lets +onlyGivenNames -merge -useContext mode
  refine KeepsO.next ?_
  refine Keeps.ite ?_ ?_
  · refine Keeps.then ?_ (State.datLevel_keeps _ _ _) rfl
    exact Keeps.refl _ _
  · refine Keeps.ite ?_ ?_
    · extract_lets +onlyGivenNames -merge -useContext ca
      extract_lets +onlyGivenNames -merge -useContext cb
      extract_lets +onlyGivenNames -merge -useContext s1
      have keeps_s1 : Keeps 0x10800000000000900608 s s1 := by
        unfold s1
        refine Keeps.then ?_ (State.tally_keeps _ _ _ _ _ _) rfl
        refine Keeps.then ?_ (State.wf_keeps _ _ _ _) (Sub.or rfl (Sub.blk .WAY (by first | rfl | exact blk_ite rfl rfl) rfl))
        exact Keeps.refl _ _
      refine Keeps.ite ?_ ?_
      · refine Keeps.then ?_ (State.doubleEdge_keeps _ _) rfl
        exact keeps_s1
      · refine Keeps.ite ?_ ?_
        · extract_lets +onlyGivenNames -merge -useContext fwd
          extract_lets +onlyGivenNames -merge -useContext inv
          refine Keeps.then ?_ (State.countStep_keeps _ _ _) rfl
          exact keeps_s1
        · exact keeps_s1
    · exact Keeps.refl _ _

theorem execDoubleEdgeWindow_keeps (p : Nat) (s : State) : KeepsO 0x800000000000000008 s (execDoubleEdgeWindow p s) := by
  unfold execDoubleEdgeWindow
  extract_lets +onlyGivenNames -merge -useContext x1
  extract_lets +onlyGivenNames -merge -useContext s1
  have keeps_s1 : Keeps 0x800000000000000008 s s1 := by
    unfold s1
    refine Keeps.ite ?_ ?_
    · refine Keeps.then ?_ (State.unsure_keeps _ _) rfl
      exact Keeps.refl _ _
    · exact Keeps.refl _ _
  refine KeepsO.next ?_
  refine Keeps.then ?_ (State.wf_keeps _ _ _ _) (Sub.or rfl (Sub.blk .WAY (by first | rfl | exact blk_ite rfl rfl) rfl))
  exact keeps_s1

theorem execWireDisagreeFault_keeps (p : Nat) (k : Nat) (s : State) : KeepsO 0x10800000000000100608 s (execWireDisagreeFault p k s) := by
  unfold execWireDisagreeFault
  extract_lets +onlyGivenNames -merge -useContext x1
  extract_lets +onlyGivenNames -merge -useContext wf
  refine KeepsO.next ?_
  refine Keeps.ite ?_ ?_
  · exact Keeps.refl _ _
  · refine Keeps.then ?_ (State.ev_keeps _ _ _) (Sub.or rfl (Sub.blk .WAY (by first | rfl | exact blk_ite rfl rfl) rfl))
    refine Keeps.then ?_ (State.unsure_keeps _ _) rfl
    refine Keeps.then ?_ (State.wf_keeps _ _ _ _) (Sub.or rfl (Sub.blk .WAY (by first | rfl | exact blk_ite rfl rfl) rfl))
    exact Keeps.refl _ _

theorem execWireFaultClear_keeps (p : Nat) (k : Nat) (s : State) : KeepsO 0x800000000000000008 s (execWireFaultClear p k s) := by
  unfold execWireFaultClear
  extract_lets +onlyGivenNames -merge -useContext x1
  extract_lets +onlyGivenNames -merge -useContext wf
  refine KeepsO.next ?_
  refine Keeps.ite ?_ ?_
  · refine Keeps.then ?_ (State.wf_keeps _ _ _ _) (Sub.or rfl (Sub.blk .WAY (by first | rfl | exact blk_ite rfl rfl) rfl))
    exact Keeps.refl _ _
  · exact Keeps.refl _ _

theorem execFilterRejectedPulse_keeps (p : Nat) (k : Nat) (s : State) :
    KeepsO 0x10800000000000900608 s (execFilterRejectedPulse p k s) := by
  unfold execFilterRejectedPulse
  extract_lets +onlyGivenNames -merge -useContext xp
  refine KeepsO.next ?_
  refine Keeps.ite ?_ ?_
  · exact Keeps.refl _ _
  · refine Keeps.ite ?_ ?_
    · refine Keeps.then ?_ (State.inc_keeps _ _ _) (Sub.or rfl (Sub.blk .WAY (by first | rfl | exact blk_ite rfl rfl) rfl))
      exact Keeps.refl _ _
    · refine Keeps.ite ?_ ?_
      · refine Keeps.then ?_ (State.tally_keeps _ _ _ _ _ _) rfl
        exact Keeps.refl _ _
      · exact Keeps.refl _ _

theorem State.snap_keeps (s : State) (p : Nat) (d : Int) : Keeps 0x10800000000000900608 s (State.snap s p d) := by
  unfold State.snap
  extract_lets +onlyGivenNames -merge -useContext s1
  have keeps_s1 : Keeps 0x10800000000000900608 s s1 := by
    unfold s1
    refine Keeps.then ?_ (State.advance_keeps _ _ _) rfl
    refine Keeps.then ?_ (State.noteBefore_keeps _ _) rfl
    exact Keeps.refl _ _
  extract_lets +onlyGivenNames -merge -useContext s2
  have keeps_s2 : Keeps 0x10800000000000900608 s s2 := by
    unfold s2
    refine Keeps.then ?_ (State.portMod_keeps _ _ _) rfl
    exact keeps_s1
  extract_lets +onlyGivenNames -merge -useContext s3
  have keeps_s3 : Keeps 0x10800000000000900608 s s3 := by
    unfold s3
    refine Keeps.then ?_ (State.wf_keeps _ _ _ _) (Sub.or rfl (Sub.blk .WAY (by first | rfl | exact blk_ite rfl rfl) rfl))
    refine Keeps.then ?_ (State.inc_keeps _ _ _) (Sub.or rfl (Sub.blk .WAY (by first | rfl | exact blk_ite rfl rfl) rfl))
    exact keeps_s2
  refine Keeps.then ?_ (State.ev_keeps _ _ _) (Sub.or rfl (Sub.blk .WAY (by first | rfl | exact blk_ite rfl rfl) rfl))
  refine Keeps.then ?_ (State.underflow_keeps _ _) rfl
  refine Keeps.then ?_ (State.sure_keeps _ _) rfl
  exact keeps_s3

theorem execIndexEvent_keeps (p : Nat) (s : State) : KeepsO 0x10800000000000900608 s (execIndexEvent p s) := by
  unfold execIndexEvent
  extract_lets +onlyGivenNames -merge -useContext x1
  refine KeepsO.next ?_
  refine Keeps.ite ?_ ?_
  · exact Keeps.refl _ _
  · extract_lets +onlyGivenNames -merge -useContext d
    extract_lets +onlyGivenNames -merge -useContext first
    extract_lets +onlyGivenNames -merge -useContext s1
    have keeps_s1 : Keeps 0x10800000000000900608 s s1 := by
      unfold s1
      refine Keeps.then ?_ (State.portMod_keeps _ _ _) rfl
      exact Keeps.refl _ _
    refine Keeps.ite ?_ ?_
    · refine Keeps.then ?_ (State.snap_keeps _ _ _) rfl
      exact keeps_s1
    · extract_lets +onlyGivenNames -merge -useContext run
      extract_lets +onlyGivenNames -merge -useContext s2
      have keeps_s2 : Keeps 0x10800000000000900608 s s2 := by
        unfold s2
        refine Keeps.then ?_ (State.ev_keeps _ _ _) (Sub.or rfl (Sub.blk .WAY (by first | rfl | exact blk_ite rfl rfl) rfl))
        refine Keeps.then ?_ (State.wf_keeps _ _ _ _) (Sub.or rfl (Sub.blk .WAY (by first | rfl | exact blk_ite rfl rfl) rfl))
        refine Keeps.then ?_ (State.inc_keeps _ _ _) (Sub.or rfl (Sub.blk .WAY (by first | rfl | exact blk_ite rfl rfl) rfl))
        exact keeps_s1
      refine Keeps.ite ?_ ?_
      · refine Keeps.then ?_ (State.suspect_keeps _ _) rfl
        exact keeps_s2
      · exact keeps_s2

theorem State.badFrame_keeps (s : State) (p : Nat) (f : Fld) :
    Keeps (0x10800000000000900608 ||| blkBit (f.blk)) s (State.badFrame s p f) := by
  unfold State.badFrame
  extract_lets +onlyGivenNames -merge -useContext run
  extract_lets +onlyGivenNames -merge -useContext s1
  have keeps_s1 : Keeps ((0x10800000000000900608 ||| blkBit (f.blk))) s s1 := by
    unfold s1
    refine Keeps.then ?_ (State.inc_keeps _ _ _) (Sub.or (Sub.l rfl) (Sub.r _ _))
    refine Keeps.then ?_ (State.portMod_keeps _ _ _) (Sub.l rfl)
    exact Keeps.refl _ _
  extract_lets +onlyGivenNames -merge -useContext s2
  have keeps_s2 : Keeps ((0x10800000000000900608 ||| blkBit (f.blk))) s s2 := by
    unfold s2
    refine Keeps.then ?_ (State.ev_keeps _ _ _) (Sub.or (Sub.l rfl) (Sub.l (Sub.blk .WAY (by first | rfl | exact blk_ite rfl rfl) rfl)))
    refine Keeps.then ?_ (State.wf_keeps _ _ _ _) (Sub.or (Sub.l rfl) (Sub.l (Sub.blk .WAY (by first | rfl | exact blk_ite rfl rfl) rfl)))
    exact keeps_s1
  extract_lets +onlyGivenNames -merge -useContext s3
  have keeps_s3 : Keeps ((0x10800000000000900608 ||| blkBit (f.blk))) s s3 := by
    unfold s3
    refine Keeps.ite ?_ ?_
    · refine Keeps.then ?_ (State.unsure_keeps _ _) (Sub.l rfl)
      exact keeps_s2
    · exact keeps_s2
  refine Keeps.ite ?_ ?_
  · refine Keeps.then ?_ (State.suspect_keeps _ _) (Sub.l rfl)
    exact keeps_s3
  · exact keeps_s3

theorem State.absStart_keeps (s : State) (p : Nat) : Keeps 0x10800000000000900608 s (State.absStart s p) := by
  unfold State.absStart
  refine Keeps.ite ?_ ?_
  · refine Keeps.then ?_ (State.emit_keeps _ _ _ _) rfl
    refine Keeps.then ?_ (State.portMod_keeps _ _ _) rfl
    exact Keeps.refl _ _
  · refine Keeps.then ?_ (State.badFrame_keeps _ _ _) (Sub.or rfl rfl)
    exact Keeps.refl _ _

theorem State.absRequest_keeps (s : State) (p : Nat) : Keeps 0x10800000000000900608 s (State.absRequest s p) := by
  unfold State.absRequest
  refine Keeps.ite ?_ ?_
  · exact Keeps.refl _ _
  · refine Keeps.ite ?_ ?_
    · refine Keeps.then ?_ (State.portMod_keeps _ _ _) rfl
      exact Keeps.refl _ _
    · refine Keeps.then ?_ (State.absStart_keeps _ _) rfl
      exact Keeps.refl _ _

theorem State.absEnds_keeps (s : State) (p : Nat) : Keeps 0x10800000000000900608 s (State.absEnds s p) := by
  unfold State.absEnds
  extract_lets +onlyGivenNames -merge -useContext again
  extract_lets +onlyGivenNames -merge -useContext s1
  have keeps_s1 : Keeps 0x10800000000000900608 s s1 := by
    unfold s1
    refine Keeps.then ?_ (State.portMod_keeps _ _ _) rfl
    exact Keeps.refl _ _
  refine Keeps.ite ?_ ?_
  · refine Keeps.then ?_ (State.absStart_keeps _ _) rfl
    exact keeps_s1
  · exact keeps_s1

theorem execAbsFrameRequest_keeps (p : Nat) (task : Bool) (dat : Bool) (s : State) :
    KeepsO 0x10800000000000900608 s (execAbsFrameRequest p task dat s) := by
  unfold execAbsFrameRequest
  extract_lets +onlyGivenNames -merge -useContext xp
  refine KeepsO.next ?_
  refine Keeps.ite ?_ ?_
  · exact Keeps.refl _ _
  · refine Keeps.then ?_ (State.absRequest_keeps _ _) rfl
    refine Keeps.then ?_ (State.datLevel_keeps _ _ _) rfl
    exact Keeps.refl _ _

theorem State.unfold_keeps (s : State) (p : Nat) (v : Nat) : Keeps 0x10800000000000900608 s (State.unfold s p v) := by
  unfold State.unfold
  extract_lets +onlyGivenNames -merge -useContext b
  extract_lets +onlyGivenNames -merge -useContext npc
  extract_lets +onlyGivenNames -merge -useContext latch
  extract_lets +onlyGivenNames -merge -useContext travel
  extract_lets +onlyGivenNames -merge -useContext pred
  extract_lets +onlyGivenNames -merge -useContext m
  extract_lets +onlyGivenNames -merge -useContext d0
  extract_lets +onlyGivenNames -merge -useContext d
  extract_lets +onlyGivenNames -merge -useContext s1
  have keeps_s1 : Keeps 0x10800000000000900608 s s1 := by
    unfold s1
    refine Keeps.then ?_ (State.advance_keeps _ _ _) rfl
    refine Keeps.then ?_ (State.noteBefore_keeps _ _) rfl
    exact Keeps.refl _ _
  extract_lets +onlyGivenNames -merge -useContext s2
  extract_lets +onlyGivenNames -merge -useContext s2_2
  extract_lets +onlyGivenNames -merge -useContext s2_3
  have keeps_s2_3 : Keeps 0x10800000000000900608 s s2_3 := by
    unfold s2_3
    split
    · refine Keeps.then ?_ (State.portMod_keeps _ _ _) rfl
      exact keeps_s1
    · extract_lets +onlyGivenNames -merge -useContext dt
      extract_lets +onlyGivenNames -merge -useContext raw
      refine Keeps.ite ?_ ?_
      · exact keeps_s1
      · refine Keeps.ite ?_ ?_
        · refine Keeps.then ?_ (State.portMod_keeps _ _ _) rfl
          exact keeps_s1
        · extract_lets +onlyGivenNames -merge -useContext sp
          refine Keeps.then ?_ (State.wf_keeps _ _ _ _) (Sub.or rfl (Sub.blk .WAY (by first | rfl | exact blk_ite rfl rfl) rfl))
          refine Keeps.then ?_ (State.portMod_keeps _ _ _) rfl
          exact keeps_s1
  refine Keeps.then ?_ (State.record_keeps _ _ _) rfl
  refine Keeps.then ?_ (State.wf64_keeps _ _ _ _) (Sub.or rfl (Sub.blk .WAY (by first | rfl | exact blk_ite rfl rfl) rfl))
  exact keeps_s2_3

theorem execAbsFrameComplete_keeps (p : Nat) (v : Nat) (crc : Nat) (s : State) :
    KeepsO 0x10800000000000900608 s (execAbsFrameComplete p v crc s) := by
  unfold execAbsFrameComplete
  extract_lets +onlyGivenNames -merge -useContext xp
  refine KeepsO.next ?_
  refine Keeps.ite ?_ ?_
  · exact Keeps.refl _ _
  · extract_lets +onlyGivenNames -merge -useContext s0
    have keeps_s0 : Keeps 0x10800000000000900608 s s0 := by
      unfold s0
      refine Keeps.then ?_ (State.datLevel_keeps _ _ _) rfl
      exact Keeps.refl _ _
    extract_lets +onlyGivenNames -merge -useContext b
    extract_lets +onlyGivenNames -merge -useContext raw
    refine Keeps.ite ?_ ?_
    · extract_lets +onlyGivenNames -merge -useContext val
      extract_lets +onlyGivenNames -merge -useContext s1
      have keeps_s1 : Keeps 0x10800000000000900608 s s1 := by
        unfold s1
        refine Keeps.then ?_ (State.unfold_keeps _ _ _) rfl
        refine Keeps.then ?_ (State.wf_keeps _ _ _ _) (Sub.or rfl (Sub.blk .WAY (by first | rfl | exact blk_ite rfl rfl) rfl))
        refine Keeps.then ?_ (State.portMod_keeps _ _ _) rfl
        exact keeps_s0
      refine Keeps.then ?_ (State.absEnds_keeps _ _) rfl
      refine Keeps.then ?_ (State.underflow_keeps _ _) rfl
      refine Keeps.then ?_ (State.sure_keeps _ _) rfl
      exact keeps_s1
    · refine Keeps.then ?_ (State.absEnds_keeps _ _) rfl
      refine Keeps.then ?_ (State.badFrame_keeps _ _ _) rfl
      exact keeps_s0

theorem execAbsFrameTimeout_keeps (p : Nat) (s : State) : KeepsO 0x10800000000000900608 s (execAbsFrameTimeout p s) := by
  unfold execAbsFrameTimeout
  extract_lets +onlyGivenNames -merge -useContext xp
  refine KeepsO.next ?_
  refine Keeps.ite ?_ ?_
  · refine Keeps.then ?_ (State.absEnds_keeps _ _) rfl
    refine Keeps.then ?_ (State.badFrame_keeps _ _ _) rfl
    refine Keeps.then ?_ (State.datLevel_keeps _ _ _) rfl
    exact Keeps.refl _ _
  · exact Keeps.refl _ _

theorem State.stopSpeed_keeps (s : State) (p : Nat) : Keeps 0x800000000000800008 s (State.stopSpeed s p) := by
  unfold State.stopSpeed
  refine Keeps.then ?_ (State.wf_keeps _ _ _ _) (Sub.or rfl (Sub.blk .WAY (by first | rfl | exact blk_ite rfl rfl) rfl))
  refine Keeps.then ?_ (State.portMod_keeps _ _ _) rfl
  exact Keeps.refl _ _

theorem execSpeedStandstill_keeps (p : Nat) (s : State) : KeepsO 0x800000000000800008 s (execSpeedStandstill p s) := by
  unfold execSpeedStandstill
  extract_lets +onlyGivenNames -merge -useContext x1
  refine KeepsO.next ?_
  refine Keeps.ite ?_ ?_
  · refine Keeps.then ?_ (State.stopSpeed_keeps _ _) rfl
    exact Keeps.refl _ _
  · exact Keeps.refl _ _

theorem State.rebase_keeps (s : State) (p : Nat) : Keeps 0x800000 s (State.rebase s p) := by
  unfold State.rebase
  extract_lets +onlyGivenNames -merge -useContext x
  refine Keeps.then ?_ (State.portMod_keeps _ _ _) rfl
  exact Keeps.refl _ _

theorem State.leaveRun_keeps (s : State) : Keeps 0x800000 s (State.leaveRun s) := by
  unfold State.leaveRun
  refine Keeps.ite ?_ ?_
  · refine Keeps.fold ?_ (fun t1 y2 => ?_)
    · exact Keeps.refl _ _
    · refine Keeps.then ?_ (State.portMod_keeps _ _ _) rfl
      exact Keeps.refl _ _
  · exact Keeps.refl _ _

theorem State.waySleep_keeps (s : State) : Keeps 0x800000000000800008 s (State.waySleep s) := by
  unfold State.waySleep
  refine Keeps.fold ?_ (fun t1 y2 => ?_)
  · exact Keeps.refl _ _
  · refine Keeps.then ?_ (State.portMod_keeps _ _ _) rfl
    refine Keeps.then ?_ (State.stopSpeed_keeps _ _) rfl
    exact Keeps.refl _ _

theorem State.wayWake_keeps (s : State) : Keeps 0x800000000000800008 s (State.wayWake s) := by
  unfold State.wayWake
  refine Keeps.fold ?_ (fun t1 y2 => ?_)
  · exact Keeps.refl _ _
  · extract_lets +onlyGivenNames -merge -useContext u
    have keeps_u : Keeps 0x800000000000800008 t1 u := by
      unfold u
      refine Keeps.then ?_ (State.portMod_keeps _ _ _) rfl
      refine Keeps.then ?_ (State.stopSpeed_keeps _ _) rfl
      exact Keeps.refl _ _
    refine Keeps.then ?_ (State.rebase_keeps _ _) rfl
    exact keeps_u

theorem execMotionWake_keeps (p : Nat) (s : State) : KeepsO 0x11810000000000108608 s (execMotionWake p s) := by
  unfold execMotionWake
  extract_lets +onlyGivenNames -merge -useContext x1
  refine KeepsO.next ?_
  refine Keeps.ite ?_ ?_
  · refine Keeps.then ?_ (State.wakeSource_keeps _ _ _) rfl
    refine Keeps.then ?_ (State.ev_keeps _ _ _) (Sub.or rfl (Sub.blk .WAY (by first | rfl | exact blk_ite rfl rfl) rfl))
    exact Keeps.refl _ _
  · exact Keeps.refl _ _

theorem State.actWayCmd_keeps (s : State) (p : Nat) (w : Word) : Keeps 0x10800000000000900608 s (State.actWayCmd s p w) := by
  unfold State.actWayCmd
  extract_lets +onlyGivenNames -merge -useContext b
  extract_lets +onlyGivenNames -merge -useContext s1
  have keeps_s1 : Keeps 0x10800000000000900608 s s1 := by
    unfold s1
    refine Keeps.ite ?_ ?_
    · refine Keeps.then ?_ (State.portMod_keeps _ _ _) rfl
      refine Keeps.then ?_ (State.wf_keeps _ _ _ _) (Sub.or rfl (Sub.blk .WAY (by first | rfl | exact blk_ite rfl rfl) rfl))
      refine Keeps.then ?_ (State.wf_keeps _ _ _ _) (Sub.or rfl (Sub.blk .WAY (by first | rfl | exact blk_ite rfl rfl) rfl))
      exact Keeps.refl _ _
    · exact Keeps.refl _ _
  extract_lets +onlyGivenNames -merge -useContext s2
  have keeps_s2 : Keeps 0x10800000000000900608 s s2 := by
    unfold s2
    refine Keeps.ite ?_ ?_
    · refine Keeps.then ?_ (State.wf_keeps _ _ _ _) (Sub.or rfl (Sub.blk .WAY (by first | rfl | exact blk_ite rfl rfl) rfl))
      refine Keeps.then ?_ (State.wf_keeps _ _ _ _) (Sub.or rfl (Sub.blk .WAY (by first | rfl | exact blk_ite rfl rfl) rfl))
      exact keeps_s1
    · exact keeps_s1
  extract_lets +onlyGivenNames -merge -useContext s3
  have keeps_s3 : Keeps 0x10800000000000900608 s s3 := by
    unfold s3
    refine Keeps.ite ?_ ?_
    · refine Keeps.then ?_ (State.setWord_keeps _ _ _ _ _) (Sub.or rfl rfl)
      refine Keeps.then ?_ (State.setWord_keeps _ _ _ _ _) (Sub.or rfl rfl)
      refine Keeps.then ?_ (State.setWord_keeps _ _ _ _ _) (Sub.or rfl rfl)
      refine Keeps.then ?_ (State.setWord_keeps _ _ _ _ _) (Sub.or rfl rfl)
      exact keeps_s2
    · exact keeps_s2
  refine Keeps.ite ?_ ?_
  · refine Keeps.then ?_ (State.absRequest_keeps _ _) rfl
    exact keeps_s3
  · exact keeps_s3

theorem execClearUncertain_keeps (m : Nat) (p : Nat) (w : Word) (s : State) :
    KeepsO 0x108D0000000000941638 s (execClearUncertain m p w s) := by
  unfold execClearUncertain
  refine KeepsO.next ?_
  refine Keeps.then ?_ (State.regAct_keeps (msk := 0x108D0000000000941638) _ _ _ _ _ _ (by exact Sub.or rfl (Sub.blk .WAY (by first | rfl | exact blk_ite rfl rfl) rfl)) (fun z1 => ?_)) (Sub.refl _)
  · exact Keeps.refl _ _
  · refine Keeps.then ?_ (State.actWayCmd_keeps _ _ _) rfl
    exact Keeps.refl _ _

theorem execClearSuspect_keeps (m : Nat) (p : Nat) (w : Word) (s : State) : KeepsO 0x108D0000000000941638 s (execClearSuspect m p w s) := by
  unfold execClearSuspect
  refine KeepsO.next ?_
  refine Keeps.then ?_ (State.regAct_keeps (msk := 0x108D0000000000941638) _ _ _ _ _ _ (by exact Sub.or rfl (Sub.blk .WAY (by first | rfl | exact blk_ite rfl rfl) rfl)) (fun z1 => ?_)) (Sub.refl _)
  · exact Keeps.refl _ _
  · refine Keeps.then ?_ (State.actWayCmd_keeps _ _ _) rfl
    exact Keeps.refl _ _

theorem execAbsRequest_keeps (m : Nat) (p : Nat) (w : Word) (s : State) : KeepsO 0x108D0000000000941638 s (execAbsRequest m p w s) := by
  unfold execAbsRequest
  refine KeepsO.next ?_
  refine Keeps.then ?_ (State.regAct_keeps (msk := 0x108D0000000000941638) _ _ _ _ _ _ (by exact Sub.or rfl (Sub.blk .WAY (by first | rfl | exact blk_ite rfl rfl) rfl)) (fun z1 => ?_)) (Sub.refl _)
  · exact Keeps.refl _ _
  · refine Keeps.then ?_ (State.actWayCmd_keeps _ _ _) rfl
    exact Keeps.refl _ _

theorem execWayClearCounts_keeps (m : Nat) (p : Nat) (w : Word) (s : State) :
    KeepsO 0x108D0000000000941638 s (execWayClearCounts m p w s) := by
  unfold execWayClearCounts
  refine KeepsO.next ?_
  refine Keeps.then ?_ (State.regAct_keeps (msk := 0x108D0000000000941638) _ _ _ _ _ _ (by exact Sub.or rfl (Sub.blk .WAY (by first | rfl | exact blk_ite rfl rfl) rfl)) (fun z1 => ?_)) (Sub.refl _)
  · exact Keeps.refl _ _
  · refine Keeps.then ?_ (State.actWayCmd_keeps _ _ _) rfl
    exact Keeps.refl _ _

theorem State.cmpSet_keeps (s : State) (u : Nat) (c : CmpUnit) : Keeps 0x800000000000800008 s (State.cmpSet s u c) := by
  unfold State.cmpSet
  refine Keeps.then ?_ (State.wf_keeps _ _ _ _) (Sub.or rfl (Sub.blk .WAY (by first | rfl | exact blk_ite rfl rfl) rfl))
  refine Keeps.set_way ?_ rfl
  exact Keeps.refl _ _

theorem State.cmpPush_keeps (s : State) (u : Nat) (pos : Int) (tag : Nat) : Keeps 0x800000000000800608 s (State.cmpPush s u pos tag) := by
  unfold State.cmpPush
  extract_lets +onlyGivenNames -merge -useContext c
  refine Keeps.ite ?_ ?_
  · refine Keeps.then ?_ (State.edges_keeps _ _ _) rfl
    refine Keeps.then ?_ (State.inc_keeps _ _ _) (Sub.or rfl (Sub.blk .WAY (by first | rfl | exact blk_ite rfl rfl) rfl))
    refine Keeps.then ?_ (State.wf_keeps _ _ _ _) (Sub.or rfl (Sub.blk .WAY (by first | rfl | exact blk_ite rfl rfl) rfl))
    exact Keeps.refl _ _
  · extract_lets +onlyGivenNames -merge -useContext dir
    extract_lets +onlyGivenNames -merge -useContext x
    extract_lets +onlyGivenNames -merge -useContext late
    extract_lets +onlyGivenNames -merge -useContext q
    extract_lets +onlyGivenNames -merge -useContext above
    refine Keeps.then ?_ (State.cmpSet_keeps _ _ _) rfl
    exact Keeps.refl _ _

theorem State.actCmpPush_keeps (s : State) (u : Nat) (w : Word) : Keeps 0x800000000000800608 s (State.actCmpPush s u w) := by
  unfold State.actCmpPush
  extract_lets +onlyGivenNames -merge -useContext s1
  extract_lets +onlyGivenNames -merge -useContext s1_2
  have keeps_s1_2 : Keeps 0x800000000000800608 s s1_2 := by
    unfold s1_2
    refine Keeps.ite ?_ ?_
    · refine Keeps.then ?_ (State.cmpSet_keeps _ _ _) rfl
      exact Keeps.refl _ _
    · exact Keeps.refl _ _
  refine Keeps.ite ?_ ?_
  · refine Keeps.then ?_ (State.cmpPush_keeps _ _ _ _) rfl
    exact keeps_s1_2
  · exact keeps_s1_2

theorem execComparePush_keeps (m : Nat) (u : Nat) (w : Word) (s : State) : KeepsO 0x8D0000000000841638 s (execComparePush m u w s) := by
  unfold execComparePush
  refine KeepsO.next ?_
  refine Keeps.then ?_ (State.regAct_keeps (msk := 0x8D0000000000841638) _ _ _ _ _ _ (by exact Sub.or rfl (Sub.blk .WAY (by first | rfl | exact blk_ite rfl rfl) rfl)) (fun z1 => ?_)) (Sub.refl _)
  · exact Keeps.refl _ _
  · refine Keeps.then ?_ (State.actCmpPush_keeps _ _ _) rfl
    exact Keeps.refl _ _

theorem execCompareFlush_keeps (m : Nat) (u : Nat) (w : Word) (s : State) : KeepsO 0x8D0000000000841638 s (execCompareFlush m u w s) := by
  unfold execCompareFlush
  refine KeepsO.next ?_
  refine Keeps.then ?_ (State.regAct_keeps (msk := 0x8D0000000000841638) _ _ _ _ _ _ (by exact Sub.or rfl (Sub.blk .WAY (by first | rfl | exact blk_ite rfl rfl) rfl)) (fun z1 => ?_)) (Sub.refl _)
  · exact Keeps.refl _ _
  · refine Keeps.then ?_ (State.actCmpPush_keeps _ _ _) rfl
    exact Keeps.refl _ _

theorem State.actCmpCtl_keeps (s : State) (u : Nat) (old : State) : Keeps 0x800000000000800408 s (State.actCmpCtl s u old) := by
  unfold State.actCmpCtl
  extract_lets +onlyGivenNames -merge -useContext dir
  extract_lets +onlyGivenNames -merge -useContext x
  extract_lets +onlyGivenNames -merge -useContext q
  extract_lets +onlyGivenNames -merge -useContext rising
  extract_lets +onlyGivenNames -merge -useContext q1
  extract_lets +onlyGivenNames -merge -useContext above
  refine Keeps.then ?_ (State.gioShow_keeps _ _ _) rfl
  refine Keeps.then ?_ (State.cmpSet_keeps _ _ _) rfl
  exact Keeps.refl _ _

theorem execCompareEnable_keeps (m : Nat) (u : Nat) (w : Word) (s : State) : KeepsO 0x8D0000000000841638 s (execCompareEnable m u w s) := by
  unfold execCompareEnable
  refine KeepsO.next ?_
  refine Keeps.then ?_ (State.regAct_keeps (msk := 0x8D0000000000841638) _ _ _ _ _ _ (by exact Sub.or rfl (Sub.blk .WAY (by first | rfl | exact blk_ite rfl rfl) rfl)) (fun z1 => ?_)) (Sub.refl _)
  · exact Keeps.refl _ _
  · refine Keeps.then ?_ (State.actCmpCtl_keeps _ _ _) rfl
    exact Keeps.refl _ _

theorem execCompareFire_keeps (u : Nat) (s : State) : KeepsO 0x11810000000000908608 s (execCompareFire u s) := by
  unfold execCompareFire
  extract_lets +onlyGivenNames -merge -useContext u_2
  refine KeepsO.next ?_
  split
  · exact Keeps.refl _ _
  · refine Keeps.ite ?_ ?_
    · exact Keeps.refl _ _
    · extract_lets +onlyGivenNames -merge -useContext x
      extract_lets +onlyGivenNames -merge -useContext above
      extract_lets +onlyGivenNames -merge -useContext s1
      have keeps_s1 : Keeps 0x11810000000000908608 s s1 := by
        unfold s1
        refine Keeps.then ?_ (State.cmpSet_keeps _ _ _) rfl
        exact Keeps.refl _ _
      extract_lets +onlyGivenNames -merge -useContext s2
      have keeps_s2 : Keeps 0x11810000000000908608 s s2 := by
        unfold s2
        refine Keeps.then ?_ (State.wf64_keeps _ _ _ _) (Sub.or rfl (Sub.blk .WAY (by first | rfl | exact blk_ite rfl rfl) rfl))
        refine Keeps.then ?_ (State.wf64_keeps _ _ _ _) (Sub.or rfl (Sub.blk .WAY (by first | rfl | exact blk_ite rfl rfl) rfl))
        exact keeps_s1
      extract_lets +onlyGivenNames -merge -useContext s3
      have keeps_s3 : Keeps 0x11810000000000908608 s s3 := by
        unfold s3
        refine Keeps.then ?_ (State.wf_keeps _ _ _ _) (Sub.or rfl (Sub.blk .WAY (by first | rfl | exact blk_ite rfl rfl) rfl))
        refine Keeps.then ?_ (State.wf_keeps _ _ _ _) (Sub.or rfl (Sub.blk .WAY (by first | rfl | exact blk_ite rfl rfl) rfl))
        exact keeps_s2
      extract_lets +onlyGivenNames -merge -useContext s4
      have keeps_s4 : Keeps 0x11810000000000908608 s s4 := by
        unfold s4
        refine Keeps.then ?_ (State.edges_keeps _ _ _) rfl
        refine Keeps.ite ?_ ?_
        · refine Keeps.then ?_ (State.wf_keeps _ _ _ _) (Sub.or rfl (Sub.blk .WAY (by first | rfl | exact blk_ite rfl rfl) rfl))
          exact keeps_s3
        · exact keeps_s3
      extract_lets +onlyGivenNames -merge -useContext s5
      have keeps_s5 : Keeps 0x11810000000000908608 s s5 := by
        unfold s5
        refine Keeps.ite ?_ ?_
        · refine Keeps.then ?_ (State.gioStart_keeps _ _ _ _) rfl
          exact keeps_s4
        · exact keeps_s4
      extract_lets +onlyGivenNames -merge -useContext s6
      have keeps_s6 : Keeps 0x11810000000000908608 s s6 := by
        unfold s6
        refine Keeps.ite ?_ ?_
        · refine Keeps.then ?_ (State.reinRaise_keeps _ _ _ _ _) rfl
          exact keeps_s5
        · exact keeps_s5
      refine Keeps.ite ?_ ?_
      · refine Keeps.then ?_ (State.wakeSource_keeps _ _ _) rfl
        exact keeps_s6
      · exact keeps_s6

theorem State.wayRegs_keeps (s : State) (p : Nat) (r : WaywRec) : Keeps 0xFFFFFFFF0000000000000008 s (State.wayRegs s p r) := by
  unfold State.wayRegs
  extract_lets +onlyGivenNames -merge -useContext w
  unfold w
  refine Keeps.then ?_ (State.wf_keeps _ _ _ _) (Sub.or rfl (Sub.blk .WAY (by first | rfl | exact blk_ite rfl rfl) rfl))
  refine Keeps.then ?_ (State.wf_keeps _ _ _ _) (Sub.or rfl (Sub.blk .WAY (by first | rfl | exact blk_ite rfl rfl) rfl))
  refine Keeps.then ?_ (State.wf_keeps _ _ _ _) (Sub.or rfl (Sub.blk .WAY (by first | rfl | exact blk_ite rfl rfl) rfl))
  refine Keeps.then ?_ (State.wf_keeps _ _ _ _) (Sub.or rfl (Sub.blk .WAY (by first | rfl | exact blk_ite rfl rfl) rfl))
  refine Keeps.then ?_ (State.wf_keeps _ _ _ _) (Sub.or rfl (Sub.blk .WAY (by first | rfl | exact blk_ite rfl rfl) rfl))
  refine Keeps.then ?_ (State.wf_keeps _ _ _ _) (Sub.or rfl (Sub.blk .WAY (by first | rfl | exact blk_ite rfl rfl) rfl))
  refine Keeps.then ?_ (State.wf_keeps _ _ _ _) (Sub.or rfl (Sub.blk .WAY (by first | rfl | exact blk_ite rfl rfl) rfl))
  refine Keeps.then ?_ (State.wf_keeps _ _ _ _) (Sub.or rfl (Sub.blk .WAY (by first | rfl | exact blk_ite rfl rfl) rfl))
  refine Keeps.then ?_ (State.wf_keeps _ _ _ _) (Sub.or rfl (Sub.blk .WAY (by first | rfl | exact blk_ite rfl rfl) rfl))
  refine Keeps.then ?_ (State.wf_keeps _ _ _ _) (Sub.or rfl (Sub.blk .WAY (by first | rfl | exact blk_ite rfl rfl) rfl))
  refine Keeps.then ?_ (State.wf_keeps _ _ _ _) (Sub.or rfl (Sub.blk .WAY (by first | rfl | exact blk_ite rfl rfl) rfl))
  refine Keeps.then ?_ (State.wf_keeps _ _ _ _) (Sub.or rfl (Sub.blk .WAY (by first | rfl | exact blk_ite rfl rfl) rfl))
  refine Keeps.then ?_ (State.wf_keeps _ _ _ _) (Sub.or rfl (Sub.blk .WAY (by first | rfl | exact blk_ite rfl rfl) rfl))
  exact Keeps.refl _ _

theorem State.portStart_keeps (s : State) (p : Nat) (r : WaywRec) : Keeps 0x800000000000800008 s (State.portStart s p r) := by
  unfold State.portStart
  extract_lets +onlyGivenNames -merge -useContext s1
  have keeps_s1 : Keeps 0x800000000000800008 s s1 := by
    unfold s1
    refine Keeps.then ?_ (State.wf64_keeps _ _ _ _) (Sub.or rfl (Sub.blk .WAY (by first | rfl | exact blk_ite rfl rfl) rfl))
    refine Keeps.then ?_ (State.wf64_keeps _ _ _ _) (Sub.or rfl (Sub.blk .WAY (by first | rfl | exact blk_ite rfl rfl) rfl))
    refine Keeps.then ?_ (State.wf_keeps _ _ _ _) (Sub.or rfl (Sub.blk .WAY (by first | rfl | exact blk_ite rfl rfl) rfl))
    refine Keeps.then ?_ (State.wf_keeps _ _ _ _) (Sub.or rfl (Sub.blk .WAY (by first | rfl | exact blk_ite rfl rfl) rfl))
    exact Keeps.refl _ _
  extract_lets +onlyGivenNames -merge -useContext s2
  have keeps_s2 : Keeps 0x800000000000800008 s s2 := by
    unfold s2
    refine Keeps.then ?_ (State.wf_keeps _ _ _ _) (Sub.or rfl (Sub.blk .WAY (by first | rfl | exact blk_ite rfl rfl) rfl))
    refine Keeps.then ?_ (State.wf_keeps _ _ _ _) (Sub.or rfl (Sub.blk .WAY (by first | rfl | exact blk_ite rfl rfl) rfl))
    refine Keeps.then ?_ (State.wf_keeps _ _ _ _) (Sub.or rfl (Sub.blk .WAY (by first | rfl | exact blk_ite rfl rfl) rfl))
    exact keeps_s1
  extract_lets +onlyGivenNames -merge -useContext s3
  extract_lets +onlyGivenNames -merge -useContext x1
  have keeps_x1 : Keeps 0x800000000000800008 s x1 := by
    unfold x1
    refine Keeps.then ?_ (State.portMod_keeps _ _ _) rfl
    refine Keeps.then ?_ (State.unsure_keeps _ _) rfl
    exact keeps_s2
  refine Keeps.then ?_ (State.rebase_keeps _ _) rfl
  exact keeps_x1

theorem State.wayLoad_keeps (s : State) (rs : List WaywRec) : Keeps 0xFFFFFFFF0000000000800008 s (State.wayLoad s rs) := by
  unfold State.wayLoad
  extract_lets +onlyGivenNames -merge -useContext s0
  extract_lets +onlyGivenNames -merge -useContext x1
  have keeps_x1 : Keeps 0xFFFFFFFF0000000000800008 s x1 := by
    unfold x1
    refine Keeps.set_way ?_ rfl
    exact Keeps.refl _ _
  refine Keeps.fold ?_ (fun t2 y3 => ?_)
  · exact keeps_x1
  · split
    · refine Keeps.then ?_ (State.portMod_keeps _ _ _) rfl
      exact Keeps.refl _ _
    · extract_lets +onlyGivenNames -merge -useContext u
      have keeps_u : Keeps 0xFFFFFFFF0000000000800008 t2 u := by
        unfold u
        refine Keeps.then ?_ (State.wayRegs_keeps _ _ _) rfl
        exact Keeps.refl _ _
      refine Keeps.ite ?_ ?_
      · exact keeps_u
      · refine Keeps.then ?_ (State.portStart_keeps _ _ _) rfl
        exact keeps_u

theorem State.wayApply_keeps (s : State) (old : State) (ks : List Nat) : Keeps 0x10800000000000900608 s (State.wayApply s old ks) := by
  unfold State.wayApply
  extract_lets +onlyGivenNames -merge -useContext s1
  have keeps_s1 : Keeps 0x10800000000000900608 s s1 := by
    unfold s1
    refine Keeps.fold ?_ (fun t1 y2 => ?_)
    · exact Keeps.refl _ _
    · extract_lets +onlyGivenNames -merge -useContext o
      extract_lets +onlyGivenNames -merge -useContext t1_2
      extract_lets +onlyGivenNames -merge -useContext t1_3
      have keeps_t1_3 : Keeps 0x10800000000000900608 t1 t1_3 := by
        unfold t1_3
        refine Keeps.ite ?_ ?_
        · refine Keeps.then ?_ (State.portMod_keeps _ _ _) rfl
          exact Keeps.refl _ _
        · refine Keeps.ite ?_ ?_
          · refine Keeps.then ?_ (State.wf64_keeps _ _ _ _) (Sub.or rfl (Sub.blk .WAY (by first | rfl | exact blk_ite rfl rfl) rfl))
            refine Keeps.then ?_ (State.portMod_keeps _ _ _) rfl
            exact Keeps.refl _ _
          · exact Keeps.refl _ _
      extract_lets +onlyGivenNames -merge -useContext t2
      have keeps_t2 : Keeps 0x10800000000000900608 t1 t2 := by
        unfold t2
        refine Keeps.then ?_ (State.portMod_keeps _ _ _) rfl
        exact keeps_t1_3
      extract_lets +onlyGivenNames -merge -useContext moved
      extract_lets +onlyGivenNames -merge -useContext t3
      have keeps_t3 : Keeps 0x10800000000000900608 t1 t3 := by
        unfold t3
        refine Keeps.ite ?_ ?_
        · refine Keeps.then ?_ (State.underflow_keeps _ _) rfl
          exact keeps_t2
        · exact keeps_t2
      extract_lets +onlyGivenNames -merge -useContext same
      refine Keeps.ite ?_ ?_
      · refine Keeps.then ?_ (State.rebase_keeps _ _) rfl
        exact keeps_t3
      · exact keeps_t3
  refine Keeps.ite ?_ ?_
  · extract_lets +onlyGivenNames -merge -useContext x
    refine Keeps.then ?_ (State.wf64_keeps _ _ _ _) rfl
    refine Keeps.set_way ?_ rfl
    exact keeps_s1
  · exact keeps_s1

end Sys2Proof.Machine
end

