-- ==== Sys2Proof/Laws/KeepsWhiffletree.lean ====
section
/-! SUPPORT. Frames of the operations of Machine/Whiffletree.lean: what each may change, one lemma each. -/

namespace Sys2Proof.Machine

theorem State.whtSet_keeps (s : State) (i : Nat) (w : Wht) : Keeps 0x40000000000010000008 s (State.whtSet s i w) := by
  unfold State.whtSet
  extract_lets +onlyGivenNames -merge -useContext w1
  extract_lets +onlyGivenNames -merge -useContext s1
  have keeps_s1 : Keeps 0x40000000000010000008 s s1 := by
    unfold s1
    refine Keeps.set_wht ?_ rfl
    exact Keeps.refl _ _
  extract_lets +onlyGivenNames -merge -useContext s2
  have keeps_s2 : Keeps 0x40000000000010000008 s s2 := by
    unfold s2
    refine Keeps.then ?_ (State.wf_keeps _ _ _ _) (Sub.or rfl rfl)
    exact keeps_s1
  split
  · refine Keeps.then ?_ (State.wf_keeps _ _ _ _) (Sub.or rfl rfl)
    refine Keeps.then ?_ (State.wf_keeps _ _ _ _) (Sub.or rfl rfl)
    exact keeps_s2
  · refine Keeps.then ?_ (State.wf_keeps _ _ _ _) (Sub.or rfl rfl)
    exact keeps_s2

theorem State.whtDecide_keeps (s : State) (i : Nat) (w : Wht) : Keeps 0x40000000000010000008 s (State.whtDecide s i w) := by
  unfold State.whtDecide
  extract_lets +onlyGivenNames -merge -useContext open'
  extract_lets +onlyGivenNames -merge -useContext orphans
  split
  · extract_lets +onlyGivenNames -merge -useContext s1
    have keeps_s1 : Keeps 0x40000000000010000008 s s1 := by
      unfold s1
      refine Keeps.then ?_ (State.whtSet_keeps _ _ _) rfl
      exact Keeps.refl _ _
    refine Keeps.then ?_ (State.wf_keeps _ _ _ _) (Sub.or rfl rfl)
    refine Keeps.then ?_ (State.incWrap_keeps _ _ _) (Sub.or rfl rfl)
    exact keeps_s1
  · refine Keeps.then ?_ (State.whtSet_keeps _ _ _) rfl
    exact Keeps.refl _ _

theorem execWhiffletreeDecision_keeps (c : Nat) (u : Nat) (reqs : List BusReq) (s : State) :
    KeepsO 0x40000000000010000008 s (execWhiffletreeDecision c u reqs s) := by
  unfold execWhiffletreeDecision
  extract_lets +onlyGivenNames -merge -useContext i
  refine KeepsO.next ?_
  refine Keeps.ite ?_ ?_
  · refine Keeps.then ?_ (State.whtDecide_keeps _ _ _) rfl
    exact Keeps.refl _ _
  · exact Keeps.refl _ _

theorem execBurstMaxExpire_keeps (c : Nat) (u : Nat) (s : State) : KeepsO 0x40000000000010000008 s (execBurstMaxExpire c u s) := by
  unfold execBurstMaxExpire
  extract_lets +onlyGivenNames -merge -useContext i
  extract_lets +onlyGivenNames -merge -useContext w
  refine KeepsO.next ?_
  split
  · refine Keeps.ite ?_ ?_
    · exact Keeps.refl _ _
    · refine Keeps.then ?_ (State.whtDecide_keeps _ _ _) rfl
      refine Keeps.then ?_ (State.wf_keeps _ _ _ _) (Sub.or rfl rfl)
      exact Keeps.refl _ _
  · exact Keeps.refl _ _

theorem execGrantDrop_keeps (c : Nat) (u : Nat) (beats : Nat) (s : State) :
    KeepsO 0x50000000000010100608 s (execGrantDrop c u beats s) := by
  unfold execGrantDrop
  extract_lets +onlyGivenNames -merge -useContext i
  extract_lets +onlyGivenNames -merge -useContext w
  refine KeepsO.next ?_
  split
  · extract_lets +onlyGivenNames -merge -useContext s1
    have keeps_s1 : Keeps 0x50000000000010100608 s s1 := by
      unfold s1
      refine Keeps.then ?_ (State.whtSet_keeps _ _ _) rfl
      refine Keeps.then ?_ (State.wf_keeps _ _ _ _) (Sub.or rfl rfl)
      exact Keeps.refl _ _
    refine Keeps.ite ?_ ?_
    · refine Keeps.then ?_ (State.ev_keeps _ _ _) (Sub.or rfl rfl)
      refine Keeps.then ?_ (State.inc_keeps _ _ _) (Sub.or rfl rfl)
      exact keeps_s1
    · exact keeps_s1
  · exact Keeps.refl _ _

theorem State.whtPreempt_keeps (s : State) (i : Nat) (beats : Nat) : Keeps 0x50000000000010100608 s (State.whtPreempt s i beats) := by
  unfold State.whtPreempt
  extract_lets +onlyGivenNames -merge -useContext w
  extract_lets +onlyGivenNames -merge -useContext e
  split
  · refine Keeps.then ?_ (State.whtDecide_keeps _ _ _) rfl
    exact Keeps.refl _ _
  · refine Keeps.ite ?_ ?_
    · exact Keeps.refl _ _
    · extract_lets +onlyGivenNames -merge -useContext w1
      extract_lets +onlyGivenNames -merge -useContext s1
      have keeps_s1 : Keeps 0x50000000000010100608 s s1 := by
        unfold s1
        refine Keeps.then ?_ (State.whtSet_keeps _ _ _) rfl
        exact Keeps.refl _ _
      refine Keeps.then ?_ (State.ev_keeps _ _ _) (Sub.or rfl rfl)
      refine Keeps.then ?_ (State.wf_keeps _ _ _ _) (Sub.or rfl rfl)
      refine Keeps.then ?_ (State.inc_keeps _ _ _) (Sub.or rfl rfl)
      refine Keeps.then ?_ (State.incWrap_keeps _ _ _) (Sub.or rfl rfl)
      exact keeps_s1

theorem execEmergencyPreempt_keeps (c : Nat) (u : Nat) (beats : Nat) (s : State) :
    KeepsO 0x50000000000010100608 s (execEmergencyPreempt c u beats s) := by
  unfold execEmergencyPreempt
  refine KeepsO.next ?_
  refine Keeps.ite ?_ ?_
  · refine Keeps.then ?_ (State.whtPreempt_keeps _ _ _) rfl
    exact Keeps.refl _ _
  · exact Keeps.refl _ _

theorem execStarvation_keeps (c : Nat) (u : Nat) (input : Nat) (s : State) :
    KeepsO 0x50000000000010100608 s (execStarvation c u input s) := by
  unfold execStarvation
  extract_lets +onlyGivenNames -merge -useContext i
  extract_lets +onlyGivenNames -merge -useContext w
  extract_lets +onlyGivenNames -merge -useContext lim
  refine KeepsO.next ?_
  split
  · refine Keeps.ite ?_ ?_
    · exact Keeps.refl _ _
    · extract_lets +onlyGivenNames -merge -useContext s1
      have keeps_s1 : Keeps 0x50000000000010100608 s s1 := by
        unfold s1
        refine Keeps.then ?_ (State.whtSet_keeps _ _ _) rfl
        exact Keeps.refl _ _
      extract_lets +onlyGivenNames -merge -useContext s2
      have keeps_s2 : Keeps 0x50000000000010100608 s s2 := by
        unfold s2
        refine Keeps.then ?_ (State.wf_keeps _ _ _ _) (Sub.or rfl rfl)
        exact keeps_s1
      refine Keeps.then ?_ (State.ev_keeps _ _ _) (Sub.or rfl rfl)
      refine Keeps.then ?_ (State.inc_keeps _ _ _) (Sub.or rfl rfl)
      exact keeps_s2
  · exact Keeps.refl _ _

theorem State.actClearStarve_keeps (s : State) (i : Nat) : Keeps 0x40000000000010000008 s (State.actClearStarve s i) := by
  unfold State.actClearStarve
  extract_lets +onlyGivenNames -merge -useContext w
  refine Keeps.then ?_ (State.wf_keeps _ _ _ _) (Sub.or rfl rfl)
  refine Keeps.then ?_ (State.whtSet_keeps _ _ _) rfl
  exact Keeps.refl _ _

theorem execClearStarve_keeps (m : Nat) (c : Nat) (u : Nat) (w : Word) (s : State) :
    KeepsO 0x400D0000000010041638 s (execClearStarve m c u w s) := by
  unfold execClearStarve
  refine KeepsO.next ?_
  refine Keeps.then ?_ (State.regAct_keeps (msk := 0x400D0000000010041638) _ _ _ _ _ _ (by exact Sub.or rfl rfl) (fun z1 => ?_)) (Sub.refl _)
  · exact Keeps.refl _ _
  · refine Keeps.then ?_ (State.actClearStarve_keeps _ _) rfl
    exact Keeps.refl _ _

theorem State.whtHoldAll_keeps (s : State) (cause : Nat) : Keeps 0x40000000000000000008 s (State.whtHoldAll s cause) := by
  unfold State.whtHoldAll
  refine Keeps.fold ?_ (fun t1 y2 => ?_)
  · exact Keeps.refl _ _
  · refine Keeps.then ?_ (State.wf_keeps _ _ _ _) (Sub.or rfl rfl)
    refine Keeps.then ?_ (State.wf_keeps _ _ _ _) (Sub.or rfl rfl)
    exact Keeps.refl _ _

theorem State.whtRelease_keeps (s : State) : Keeps 0x40000000000000000008 s (State.whtRelease s) := by
  unfold State.whtRelease
  refine Keeps.fold ?_ (fun t1 y2 => ?_)
  · exact Keeps.refl _ _
  · refine Keeps.then ?_ (State.wf_keeps _ _ _ _) (Sub.or rfl rfl)
    refine Keeps.then ?_ (State.wf_keeps _ _ _ _) (Sub.or rfl rfl)
    exact Keeps.refl _ _

theorem State.whtApply_keeps (s : State) (i : Nat) : Keeps 0x50000000000010100608 s (State.whtApply s i) := by
  unfold State.whtApply
  extract_lets +onlyGivenNames -merge -useContext w
  extract_lets +onlyGivenNames -merge -useContext renum
  refine Keeps.then ?_ (State.ev_keeps _ _ _) (Sub.or rfl rfl)
  refine Keeps.then ?_ (State.whtSet_keeps _ _ _) rfl
  exact Keeps.refl _ _

end Sys2Proof.Machine
end

