-- ==== Sys2Proof/Laws/KeepsPost.lean ====
section
/-! SUPPORT. Frames of the operations of Machine/Post.lean: what each may change, one lemma each. -/

namespace Sys2Proof.Machine

theorem State.setSlot_keeps (s : State) (m : Nat) (n : Nat) (w : Word) : Keeps 0x100000000000000008 s (State.setSlot s m n w) := by
  unfold State.setSlot
  refine Keeps.then ?_ (State.setWord_keeps _ _ _ _ _) (Sub.or rfl rfl)
  exact Keeps.refl _ _

theorem State.slotFree_keeps (s : State) (m : Nat) : Keeps 0x100000000000000008 s (State.slotFree s m) := by
  unfold State.slotFree
  refine Keeps.then ?_ (State.wf_keeps _ _ _ _) (Sub.or rfl (Sub.blk .PST (by first | rfl | exact blk_ite rfl rfl) rfl))
  refine Keeps.then ?_ (State.wf_keeps _ _ _ _) (Sub.or rfl (Sub.blk .PST (by first | rfl | exact blk_ite rfl rfl) rfl))
  refine Keeps.then ?_ (State.wf_keeps _ _ _ _) (Sub.or rfl (Sub.blk .PST (by first | rfl | exact blk_ite rfl rfl) rfl))
  exact Keeps.refl _ _

theorem State.slotWrite_keeps (s : State) (m : Nat) (mb : Nat) (n : Nat) (w : Word) :
    Keeps 0x100000000000000008 s (State.slotWrite s m mb n w) := by
  unfold State.slotWrite
  extract_lets +onlyGivenNames -merge -useContext full
  extract_lets +onlyGivenNames -merge -useContext claimed
  extract_lets +onlyGivenNames -merge -useContext mine
  refine Keeps.ite ?_ ?_
  · refine Keeps.then ?_ (State.wf_keeps _ _ _ _) (Sub.or rfl (Sub.blk .PST (by first | rfl | exact blk_ite rfl rfl) rfl))
    exact Keeps.refl _ _
  · extract_lets +onlyGivenNames -merge -useContext s1
    have keeps_s1 : Keeps 0x100000000000000008 s s1 := by
      unfold s1
      refine Keeps.ite ?_ ?_
      · exact Keeps.refl _ _
      · refine Keeps.then ?_ (State.wf_keeps _ _ _ _) (Sub.or rfl (Sub.blk .PST (by first | rfl | exact blk_ite rfl rfl) rfl))
        refine Keeps.then ?_ (State.wf_keeps _ _ _ _) (Sub.or rfl (Sub.blk .PST (by first | rfl | exact blk_ite rfl rfl) rfl))
        exact Keeps.refl _ _
    extract_lets +onlyGivenNames -merge -useContext w1
    refine Keeps.then ?_ (State.setSlot_keeps _ _ _ _) rfl
    exact keeps_s1

theorem State.slotSend_keeps (s : State) (m : Nat) (mb : Nat) : Keeps 0x10100000000000104608 s (State.slotSend s m mb) := by
  unfold State.slotSend
  extract_lets +onlyGivenNames -merge -useContext seq
  extract_lets +onlyGivenNames -merge -useContext w0
  extract_lets +onlyGivenNames -merge -useContext s1
  have keeps_s1 : Keeps 0x10100000000000104608 s s1 := by
    unfold s1
    refine Keeps.then ?_ (State.setSlot_keeps _ _ _ _) rfl
    exact Keeps.refl _ _
  extract_lets +onlyGivenNames -merge -useContext s2
  have keeps_s2 : Keeps 0x10100000000000104608 s s2 := by
    unfold s2
    refine Keeps.set_postSeq ?_ rfl
    exact keeps_s1
  extract_lets +onlyGivenNames -merge -useContext s3
  have keeps_s3 : Keeps 0x10100000000000104608 s s3 := by
    unfold s3
    refine Keeps.then ?_ (State.wf_keeps _ _ _ _) (Sub.or rfl (Sub.blk .PST (by first | rfl | exact blk_ite rfl rfl) rfl))
    refine Keeps.then ?_ (State.wf_keeps _ _ _ _) (Sub.or rfl (Sub.blk .PST (by first | rfl | exact blk_ite rfl rfl) rfl))
    refine Keeps.then ?_ (State.wf_keeps _ _ _ _) (Sub.or rfl (Sub.blk .PST (by first | rfl | exact blk_ite rfl rfl) rfl))
    exact keeps_s2
  extract_lets +onlyGivenNames -merge -useContext s4
  have keeps_s4 : Keeps 0x10100000000000104608 s s4 := by
    unfold s4
    refine Keeps.then ?_ (State.reinRaise_keeps _ _ _ _ _) rfl
    refine Keeps.then ?_ (State.ringHorn_keeps _ _ _) rfl
    exact keeps_s3
  refine Keeps.ite ?_ ?_
  · refine Keeps.then ?_ (State.wf_keeps _ _ _ _) (Sub.or rfl (Sub.blk .PST (by first | rfl | exact blk_ite rfl rfl) rfl))
    exact keeps_s4
  · exact keeps_s4

theorem State.coreSend_keeps (s : State) (core : Nat) (mb : Nat) (words : List Word) :
    Keeps 0x10100000000000104608 s (State.coreSend s core mb words) := by
  unfold State.coreSend
  refine Keeps.then ?_ (State.slotSend_keeps _ _ _) rfl
  refine Keeps.fold ?_ (fun t1 y2 => ?_)
  · exact Keeps.refl _ _
  · refine Keeps.then ?_ (State.setSlot_keeps _ _ _ _) rfl
    exact Keeps.refl _ _

theorem State.deliverReply_keeps (s : State) (mb : Nat) : Keeps 0x10100000000000106608 s (State.deliverReply s mb) := by
  unfold State.deliverReply
  split
  · exact Keeps.refl _ _
  · refine Keeps.then ?_ (State.coreSend_keeps _ _ _ _) rfl
    refine Keeps.set_replies ?_ rfl
    exact Keeps.refl _ _

theorem State.serviceReply_keeps (s : State) (core : Nat) (req0 : Word) (req1 : Word) (status : Nat) (words : List Word) :
    Keeps 0x10110000000000146608 s (State.serviceReply s core req0 req1 status words) := by
  unfold State.serviceReply
  extract_lets +onlyGivenNames -merge -useContext rm
  extract_lets +onlyGivenNames -merge -useContext sender
  refine Keeps.ite ?_ ?_
  · refine Keeps.then ?_ (State.gcode_keeps _ _ _ _) rfl
    exact Keeps.refl _ _
  · extract_lets +onlyGivenNames -merge -useContext w0
    extract_lets +onlyGivenNames -merge -useContext w1
    extract_lets +onlyGivenNames -merge -useContext msg
    refine Keeps.ite ?_ ?_
    · refine Keeps.set_replies ?_ rfl
      exact Keeps.refl _ _
    · refine Keeps.then ?_ (State.coreSend_keeps _ _ _ _) rfl
      exact Keeps.refl _ _

theorem State.slotTake_keeps (s : State) (mb : Nat) : Keeps 0x10100000000000106608 s (State.slotTake s mb) := by
  unfold State.slotTake
  refine Keeps.then ?_ (State.deliverReply_keeps _ _) rfl
  refine Keeps.then ?_ (State.wf_keeps _ _ _ _) (Sub.or rfl (Sub.blk .PST (by first | rfl | exact blk_ite rfl rfl) rfl))
  refine Keeps.then ?_ (State.slotFree_keeps _ _) rfl
  exact Keeps.refl _ _

theorem State.serve_keeps (s : State) (core : Nat) (mb : Nat) (status : Nat) (words : List Word) :
    Keeps 0x10110000000000146608 s (State.serve s core mb status words) := by
  unfold State.serve
  refine Keeps.then ?_ (State.serviceReply_keeps _ _ _ _ _ _) rfl
  refine Keeps.then ?_ (State.slotTake_keeps _ _) rfl
  exact Keeps.refl _ _

theorem State.actSend_keeps (s : State) (m : Nat) (mb : Nat) : Keeps 0x10110000000000146608 s (State.actSend s m mb) := by
  unfold State.actSend
  refine Keeps.ite ?_ ?_
  · extract_lets +onlyGivenNames -merge -useContext s1
    have keeps_s1 : Keeps 0x10110000000000146608 s s1 := by
      unfold s1
      refine Keeps.then ?_ (State.slotSend_keeps _ _ _) rfl
      exact Keeps.refl _ _
    refine Keeps.ite ?_ ?_
    · refine Keeps.then ?_ (State.serve_keeps _ _ _ _ _) rfl
      exact keeps_s1
    · exact keeps_s1
  · exact Keeps.refl _ _

theorem State.actTake_keeps (s : State) (m : Nat) (mb : Nat) : Keeps 0x10100000000000106608 s (State.actTake s m mb) := by
  unfold State.actTake
  refine Keeps.ite ?_ ?_
  · refine Keeps.then ?_ (State.slotTake_keeps _ _) rfl
    exact Keeps.refl _ _
  · exact Keeps.refl _ _

theorem State.actAbort_keeps (s : State) (m : Nat) (mb : Nat) : Keeps 0x10100000000000106608 s (State.actAbort s m mb) := by
  unfold State.actAbort
  refine Keeps.ite ?_ ?_
  · refine Keeps.then ?_ (State.deliverReply_keeps _ _) rfl
    refine Keeps.then ?_ (State.slotFree_keeps _ _) rfl
    exact Keeps.refl _ _
  · exact Keeps.refl _ _

theorem State.actHornClear_keeps (s : State) (m : Nat) (mb : Nat) (w : Word) :
    Keeps 0x100000000000000008 s (State.actHornClear s m mb w) := by
  unfold State.actHornClear
  refine Keeps.ite ?_ ?_
  · refine Keeps.then ?_ (State.setWord_keeps _ _ _ _ _) (Sub.or rfl rfl)
    exact Keeps.refl _ _
  · exact Keeps.refl _ _

theorem execPostSlotWrite_keeps (m : Nat) (mb : Nat) (n : Nat) (w : Word) (s : State) :
    KeepsO 0x190000000000041608 s (execPostSlotWrite m mb n w s) := by
  unfold execPostSlotWrite
  refine KeepsO.next ?_
  refine Keeps.then ?_ (State.regDo_keeps (msk := 0x190000000000041608) _ _ _ _ _ _ (by exact rfl) (fun z1 => ?_)) (Sub.refl _)
  · exact Keeps.refl _ _
  · refine Keeps.then ?_ (State.slotWrite_keeps _ _ _ _ _) rfl
    exact Keeps.refl _ _

theorem execPostSend_keeps (m : Nat) (mb : Nat) (w : Word) (s : State) : KeepsO 0x101D0000000000147638 s (execPostSend m mb w s) := by
  unfold execPostSend
  refine KeepsO.next ?_
  refine Keeps.then ?_ (State.regAct_keeps (msk := 0x101D0000000000147638) _ _ _ _ _ _ (by exact Sub.or rfl (Sub.blk .PST (by first | rfl | exact blk_ite rfl rfl) rfl)) (fun z1 => ?_)) (Sub.refl _)
  · exact Keeps.refl _ _
  · refine Keeps.then ?_ (State.actSend_keeps _ _ _) rfl
    exact Keeps.refl _ _

theorem execPostTake_keeps (m : Nat) (mb : Nat) (w : Word) (s : State) : KeepsO 0x101D0000000000147638 s (execPostTake m mb w s) := by
  unfold execPostTake
  refine KeepsO.next ?_
  refine Keeps.then ?_ (State.regAct_keeps (msk := 0x101D0000000000147638) _ _ _ _ _ _ (by exact Sub.or rfl (Sub.blk .PST (by first | rfl | exact blk_ite rfl rfl) rfl)) (fun z1 => ?_)) (Sub.refl _)
  · exact Keeps.refl _ _
  · refine Keeps.then ?_ (State.actTake_keeps _ _ _) rfl
    exact Keeps.refl _ _

theorem execPostAbort_keeps (m : Nat) (mb : Nat) (w : Word) (s : State) : KeepsO 0x101D0000000000147638 s (execPostAbort m mb w s) := by
  unfold execPostAbort
  refine KeepsO.next ?_
  refine Keeps.then ?_ (State.regAct_keeps (msk := 0x101D0000000000147638) _ _ _ _ _ _ (by exact Sub.or rfl (Sub.blk .PST (by first | rfl | exact blk_ite rfl rfl) rfl)) (fun z1 => ?_)) (Sub.refl _)
  · exact Keeps.refl _ _
  · refine Keeps.then ?_ (State.actAbort_keeps _ _ _) rfl
    exact Keeps.refl _ _

theorem execPostClaimLapse_keeps (mb : Nat) (s : State) : KeepsO 0x10100000000000106608 s (execPostClaimLapse mb s) := by
  unfold execPostClaimLapse
  refine KeepsO.next ?_
  refine Keeps.ite ?_ ?_
  · refine Keeps.then ?_ (State.deliverReply_keeps _ _) rfl
    refine Keeps.then ?_ (State.slotFree_keeps _ _) rfl
    exact Keeps.refl _ _
  · exact Keeps.refl _ _

theorem execPostTimeout_keeps (mb : Nat) (s : State) : KeepsO 0x100000000000002008 s (execPostTimeout mb s) := by
  unfold execPostTimeout
  refine KeepsO.next ?_
  refine Keeps.ite ?_ ?_
  · extract_lets +onlyGivenNames -merge -useContext __src
    have keeps___src : Keeps 0x100000000000002008 s __src := by
      unfold __src
      refine Keeps.then ?_ (State.wf_keeps _ _ _ _) (Sub.or rfl (Sub.blk .PST (by first | rfl | exact blk_ite rfl rfl) rfl))
      exact Keeps.refl _ _
    refine Keeps.set_replies ?_ rfl
    exact keeps___src
  · exact Keeps.refl _ _

theorem execHornRing_keeps (m : Nat) (mb : Nat) (w : Word) (s : State) : KeepsO 0x190000000000041608 s (execHornRing m mb w s) := by
  unfold execHornRing
  refine KeepsO.next ?_
  refine Keeps.then ?_ (State.regDo_keeps (msk := 0x190000000000041608) _ _ _ _ _ _ (by exact rfl) (fun z1 => ?_)) (Sub.refl _)
  · exact Keeps.refl _ _
  · refine Keeps.then ?_ (State.ringHorn_keeps _ _ _) rfl
    exact Keeps.refl _ _

theorem execHornClear_keeps (m : Nat) (mb : Nat) (w : Word) (s : State) : KeepsO 0x190000000000041608 s (execHornClear m mb w s) := by
  unfold execHornClear
  refine KeepsO.next ?_
  refine Keeps.then ?_ (State.regDo_keeps (msk := 0x190000000000041608) _ _ _ _ _ _ (by exact rfl) (fun z1 => ?_)) (Sub.refl _)
  · exact Keeps.refl _ _
  · refine Keeps.then ?_ (State.actHornClear_keeps _ _ _ _) rfl
    exact Keeps.refl _ _

theorem execIdentity_keeps (s : State) : KeepsO 0x10110000000000146608 s (execIdentity s) := by
  unfold execIdentity
  refine KeepsO.next ?_
  refine Keeps.ite ?_ ?_
  · refine Keeps.then ?_ (State.serve_keeps _ _ _ _ _) rfl
    exact Keeps.refl _ _
  · exact Keeps.refl _ _

theorem execFaultRead_keeps (s : State) : KeepsO 0x10110000000000146608 s (execFaultRead s) := by
  unfold execFaultRead
  refine KeepsO.next ?_
  refine Keeps.ite ?_ ?_
  · split
    · refine Keeps.then ?_ (State.serve_keeps _ _ _ _ _) rfl
      exact Keeps.refl _ _
    · refine Keeps.then ?_ (State.serve_keeps _ _ _ _ _) rfl
      exact Keeps.refl _ _
  · exact Keeps.refl _ _

theorem execFaultClear_keeps (s : State) : KeepsO 0x10110000000000146608 s (execFaultClear s) := by
  unfold execFaultClear
  refine KeepsO.next ?_
  refine Keeps.ite ?_ ?_
  · refine Keeps.ite ?_ ?_
    · refine Keeps.then ?_ (State.serve_keeps _ _ _ _ _) rfl
      refine Keeps.set_store ?_ rfl
      exact Keeps.refl _ _
    · refine Keeps.then ?_ (State.serve_keeps _ _ _ _ _) rfl
      exact Keeps.refl _ _
  · exact Keeps.refl _ _

theorem execTemps_keeps (s : State) : KeepsO 0x10110000000000146608 s (execTemps s) := by
  unfold execTemps
  refine KeepsO.next ?_
  refine Keeps.ite ?_ ?_
  · extract_lets +onlyGivenNames -merge -useContext c
    refine Keeps.ite ?_ ?_
    · refine Keeps.then ?_ (State.serve_keeps _ _ _ _ _) rfl
      exact Keeps.refl _ _
    · refine Keeps.then ?_ (State.serve_keeps _ _ _ _ _) rfl
      exact Keeps.refl _ _
  · exact Keeps.refl _ _

theorem execLinchpinAcquire_keeps (m : Nat) (n : Nat) (s : State) : KeepsO 0x290000000000041608 s (execLinchpinAcquire m n s) := by
  unfold execLinchpinAcquire
  refine KeepsO.next ?_
  split
  · refine Keeps.then ?_ (State.guardRefuses_keeps _ _ _) rfl
    exact Keeps.refl _ _
  · refine Keeps.then ?_ (State.hold_keeps _ _ _ _ _) rfl
    exact Keeps.refl _ _
  · extract_lets +onlyGivenNames -merge -useContext t
    have keeps_t : Keeps 0x290000000000041608 s t := by
      unfold t
      refine Keeps.then ?_ (State.pinTry_keeps _ _ _) rfl
      exact Keeps.refl _ _
    refine Keeps.then ?_ (State.hostReads_keeps _ _ _) rfl
    exact keeps_t

theorem execLinchpinRelease_keeps (m : Nat) (n : Nat) (w : Word) (s : State) :
    KeepsO 0x2D0000000000041638 s (execLinchpinRelease m n w s) := by
  unfold execLinchpinRelease
  refine KeepsO.next ?_
  refine Keeps.then ?_ (State.regAct_keeps (msk := 0x2D0000000000041638) _ _ _ _ _ _ (by exact Sub.or rfl (Sub.blk .LCH (by first | rfl | exact blk_ite rfl rfl) rfl)) (fun z1 => ?_)) (Sub.refl _)
  · exact Keeps.refl _ _
  · refine Keeps.then ?_ (State.pinRelease_keeps _ _ _) rfl
    exact Keeps.refl _ _

theorem State.actForce_keeps (s : State) (m : Nat) (n : Nat) : Keeps 0x300000000000000608 s (State.actForce s m n) := by
  unfold State.actForce
  refine Keeps.ite ?_ ?_
  · refine Keeps.then ?_ (State.pinBreak_keeps _ _) rfl
    exact Keeps.refl _ _
  · exact Keeps.refl _ _

theorem execLinchpinForce_keeps (m : Nat) (n : Nat) (w : Word) (s : State) : KeepsO 0x3D0000000000041638 s (execLinchpinForce m n w s) := by
  unfold execLinchpinForce
  refine KeepsO.next ?_
  refine Keeps.then ?_ (State.regAct_keeps (msk := 0x3D0000000000041638) _ _ _ _ _ _ (by exact Sub.or rfl (Sub.blk .LCH (by first | rfl | exact blk_ite rfl rfl) rfl)) (fun z1 => ?_)) (Sub.refl _)
  · exact Keeps.refl _ _
  · refine Keeps.then ?_ (State.actForce_keeps _ _ _) rfl
    exact Keeps.refl _ _

theorem execLinchpinBreak_keeps (owner : Nat) (s : State) : KeepsO 0x300000000000000608 s (execLinchpinBreak owner s) := by
  unfold execLinchpinBreak
  refine KeepsO.next ?_
  refine Keeps.ite ?_ ?_
  · exact Keeps.refl _ _
  · refine Keeps.then ?_ (State.pinBreakOwner_keeps _ _) rfl
    exact Keeps.refl _ _

theorem execLinchpinLeaseExpire_keeps (s : State) : KeepsO 0x300000000000000608 s (execLinchpinLeaseExpire s) := by
  unfold execLinchpinLeaseExpire
  extract_lets +onlyGivenNames -merge -useContext ms
  refine KeepsO.next ?_
  refine Keeps.ite ?_ ?_
  · exact Keeps.refl _ _
  · refine Keeps.then ?_ (State.pinBreakOwner_keeps _ _) rfl
    exact Keeps.refl _ _

end Sys2Proof.Machine
end

