-- ==== Sys2Proof/Laws/KeepsWwtCore.lean ====
section
/-! SUPPORT. Frames of the operations of Machine/WwtCore.lean: what each may change, one lemma each. -/

namespace Sys2Proof.Machine

theorem State.wwtMod_keeps (s : State) (cls : Nat) (coach : Nat) (car : Nat) (f : WwtInst → WwtInst) :
    Keeps 0x80000 s (State.wwtMod s cls coach car f) := by
  unfold State.wwtMod
  refine Keeps.set_wwt ?_ rfl
  exact Keeps.refl _ _

theorem State.showRunning_keeps (s : State) (cls : Nat) (coach : Nat) (on : Bool) :
    Keeps 0x400000000000000000008 s (State.showRunning s cls coach on) := by
  unfold State.showRunning
  extract_lets +onlyGivenNames -merge -useContext r
  refine Keeps.then ?_ (State.wf_keeps _ _ _ _) (Sub.or rfl rfl)
  exact Keeps.refl _ _

theorem State.runFresh_keeps (s : State) (cls : Nat) (car : Nat) : Keeps 0x500000000 s (State.runFresh s cls car) := by
  unfold State.runFresh
  refine Keeps.ite ?_ ?_
  · refine Keeps.set_seam ?_ rfl
    exact Keeps.refl _ _
  · refine Keeps.ite ?_ ?_
    · refine Keeps.set_tru ?_ rfl
      exact Keeps.refl _ _
    · exact Keeps.refl _ _

theorem State.wwtStart_keeps (s : State) (cls : Nat) (coach : Nat) (car : Nat) :
    Keeps 0x400000000000500080008 s (State.wwtStart s cls coach car) := by
  unfold State.wwtStart
  extract_lets +onlyGivenNames -merge -useContext w
  refine Keeps.ite ?_ ?_
  · refine Keeps.then ?_ (State.showRunning_keeps _ _ _ _) rfl
    refine Keeps.then ?_ (State.wwtMod_keeps _ _ _ _ _) rfl
    refine Keeps.then ?_ (State.runFresh_keeps _ _ _) rfl
    exact Keeps.refl _ _
  · exact Keeps.refl _ _

theorem State.wwtRequest_keeps (s : State) (cls : Nat) (coach : Nat) (car : Nat) (cause : Nat) :
    Keeps 0x400000000000500080008 s (State.wwtRequest s cls coach car cause) := by
  unfold State.wwtRequest
  refine Keeps.ite ?_ ?_
  · refine Keeps.then ?_ (State.wwtStart_keeps _ _ _ _) rfl
    refine Keeps.then ?_ (State.wwtMod_keeps _ _ _ _ _) rfl
    exact Keeps.refl _ _
  · exact Keeps.refl _ _

theorem State.wwtStore_keeps (s : State) (r : WwtRecord) : Keeps 0x40000 s (State.wwtStore s r) := by
  unfold State.wwtStore
  refine Keeps.set_store ?_ rfl
  exact Keeps.refl _ _

theorem State.wwtLog_keeps (s : State) (cls : Nat) (coach : Nat) (car : Nat) (outcome : Nat) (q1 : Nat) (q2 : Nat) (detail : Nat) :
    Keeps 0x400000000000000040008 s (State.wwtLog s cls coach car outcome q1 q2 detail) := by
  unfold State.wwtLog
  extract_lets +onlyGivenNames -merge -useContext w
  extract_lets +onlyGivenNames -merge -useContext win
  extract_lets +onlyGivenNames -merge -useContext s1
  have keeps_s1 : Keeps 0x400000000000000040008 s s1 := by
    unfold s1
    refine Keeps.then ?_ (State.wf_keeps _ _ _ _) (Sub.or rfl rfl)
    refine Keeps.then ?_ (State.wf_keeps _ _ _ _) (Sub.or rfl rfl)
    refine Keeps.then ?_ (State.wf_keeps _ _ _ _) (Sub.or rfl rfl)
    refine Keeps.then ?_ (State.wf_keeps _ _ _ _) (Sub.or rfl rfl)
    exact Keeps.refl _ _
  refine Keeps.then ?_ (State.wwtStore_keeps _ _) rfl
  exact keeps_s1

theorem State.wwtShow_keeps (s : State) (cls : Nat) (coach : Nat) (car : Nat) :
    Keeps 0x400000000000000000008 s (State.wwtShow s cls coach car) := by
  unfold State.wwtShow
  extract_lets +onlyGivenNames -merge -useContext w
  extract_lets +onlyGivenNames -merge -useContext win
  extract_lets +onlyGivenNames -merge -useContext rj
  extract_lets +onlyGivenNames -merge -useContext s1
  have keeps_s1 : Keeps 0x400000000000000000008 s s1 := by
    unfold s1
    refine Keeps.then ?_ (State.wf_keeps _ _ _ _) (Sub.or rfl rfl)
    exact Keeps.refl _ _
  extract_lets +onlyGivenNames -merge -useContext s2
  have keeps_s2 : Keeps 0x400000000000000000008 s s2 := by
    unfold s2
    refine Keeps.ite ?_ ?_
    · refine Keeps.then ?_ (State.wf_keeps _ _ _ _) (Sub.or rfl rfl)
      exact keeps_s1
    · exact keeps_s1
  extract_lets +onlyGivenNames -merge -useContext un
  extract_lets +onlyGivenNames -merge -useContext x1
  refine Keeps.then ?_ (State.wf_keeps _ _ _ _) (Sub.or rfl rfl)
  exact keeps_s2

theorem State.wwtEv_keeps (s : State) (cls : Nat) (coach : Nat) (f : Fld) :
    Keeps (0x10000000000000100608 ||| blkBit (f.blk)) s (State.wwtEv s cls coach f) := by
  unfold State.wwtEv
  refine Keeps.then ?_ (State.ev_keeps _ _ _) (Sub.or (Sub.l rfl) (Sub.r _ _))
  exact Keeps.refl _ _

theorem State.wwtEnd_keeps (s : State) (cls : Nat) (coach : Nat) (car : Nat) :
    Keeps 0x400000000000500080008 s (State.wwtEnd s cls coach car) := by
  unfold State.wwtEnd
  refine Keeps.then ?_ (State.wwtStart_keeps _ _ _ _) rfl
  refine Keeps.then ?_ (State.showRunning_keeps _ _ _ _) rfl
  refine Keeps.then ?_ (State.wwtMod_keeps _ _ _ _ _) rfl
  exact Keeps.refl _ _

theorem State.wwtAccept_keeps (s : State) (cls : Nat) (coach : Nat) (car : Nat) (q1 : Nat) (q2 : Nat) (detail : Nat) :
    Keeps 0x4100000000005001C0608 s (State.wwtAccept s cls coach car q1 q2 detail) := by
  unfold State.wwtAccept
  extract_lets +onlyGivenNames -merge -useContext was
  extract_lets +onlyGivenNames -merge -useContext t
  extract_lets +onlyGivenNames -merge -useContext s1
  have keeps_s1 : Keeps 0x4100000000005001C0608 s s1 := by
    unfold s1
    refine Keeps.then ?_ (State.wwtMod_keeps _ _ _ _ _) rfl
    exact Keeps.refl _ _
  extract_lets +onlyGivenNames -merge -useContext s2
  have keeps_s2 : Keeps 0x4100000000005001C0608 s s2 := by
    unfold s2
    refine Keeps.then ?_ (State.wwtLog_keeps _ _ _ _ _ _ _ _) rfl
    refine Keeps.then ?_ (State.wwtShow_keeps _ _ _ _) rfl
    exact keeps_s1
  extract_lets +onlyGivenNames -merge -useContext s3
  have keeps_s3 : Keeps 0x4100000000005001C0608 s s3 := by
    unfold s3
    refine Keeps.then ?_ (State.wwtEv_keeps _ _ _ _) rfl
    exact keeps_s2
  extract_lets +onlyGivenNames -merge -useContext s4
  have keeps_s4 : Keeps 0x4100000000005001C0608 s s4 := by
    unfold s4
    refine Keeps.ite ?_ ?_
    · refine Keeps.then ?_ (State.wwtEv_keeps _ _ _ _) rfl
      exact keeps_s3
    · exact keeps_s3
  refine Keeps.then ?_ (State.wwtEnd_keeps _ _ _ _) rfl
  exact keeps_s4

theorem State.wwtReject_keeps (s : State) (cls : Nat) (coach : Nat) (car : Nat) (q1 : Nat) (q2 : Nat) (detail : Nat) :
    Keeps 0x4100000000005001C0608 s (State.wwtReject s cls coach car q1 q2 detail) := by
  unfold State.wwtReject
  extract_lets +onlyGivenNames -merge -useContext w
  extract_lets +onlyGivenNames -merge -useContext n
  extract_lets +onlyGivenNames -merge -useContext s1
  have keeps_s1 : Keeps 0x4100000000005001C0608 s s1 := by
    unfold s1
    refine Keeps.then ?_ (State.wwtMod_keeps _ _ _ _ _) rfl
    exact Keeps.refl _ _
  extract_lets +onlyGivenNames -merge -useContext s2
  have keeps_s2 : Keeps 0x4100000000005001C0608 s s2 := by
    unfold s2
    refine Keeps.then ?_ (State.wwtLog_keeps _ _ _ _ _ _ _ _) rfl
    refine Keeps.then ?_ (State.wwtShow_keeps _ _ _ _) rfl
    exact keeps_s1
  extract_lets +onlyGivenNames -merge -useContext s3
  have keeps_s3 : Keeps 0x4100000000005001C0608 s s3 := by
    unfold s3
    refine Keeps.then ?_ (State.wwtEv_keeps _ _ _ _) rfl
    refine Keeps.then ?_ (State.wcode_keeps _ _ _ _) rfl
    exact keeps_s2
  extract_lets +onlyGivenNames -merge -useContext s4
  have keeps_s4 : Keeps 0x4100000000005001C0608 s s4 := by
    unfold s4
    refine Keeps.ite ?_ ?_
    · refine Keeps.then ?_ (State.wwtEv_keeps _ _ _ _) rfl
      refine Keeps.then ?_ (State.wcode_keeps _ _ _ _) rfl
      exact keeps_s3
    · exact keeps_s3
  refine Keeps.then ?_ (State.wwtEnd_keeps _ _ _ _) rfl
  exact keeps_s4

theorem State.wwtNotApplied_keeps (s : State) (cls : Nat) (coach : Nat) (car : Nat) (q1 : Nat) (q2 : Nat) (detail : Nat) :
    Keeps 0x4100000000005001C0608 s (State.wwtNotApplied s cls coach car q1 q2 detail) := by
  unfold State.wwtNotApplied
  extract_lets +onlyGivenNames -merge -useContext s1
  have keeps_s1 : Keeps 0x4100000000005001C0608 s s1 := by
    unfold s1
    refine Keeps.then ?_ (State.wwtLog_keeps _ _ _ _ _ _ _ _) rfl
    exact Keeps.refl _ _
  refine Keeps.then ?_ (State.wwtEnd_keeps _ _ _ _) rfl
  refine Keeps.then ?_ (State.wwtEv_keeps _ _ _ _) rfl
  refine Keeps.then ?_ (State.wcode_keeps _ _ _ _) rfl
  exact keeps_s1

theorem State.wwtAbandonOne_keeps (s : State) (cls : Nat) (coach : Nat) (car : Nat) :
    Keeps 0x4000000000000000C0008 s (State.wwtAbandonOne s cls coach car) := by
  unfold State.wwtAbandonOne
  refine Keeps.ite ?_ ?_
  · extract_lets +onlyGivenNames -merge -useContext s1
    have keeps_s1 : Keeps 0x4000000000000000C0008 s s1 := by
      unfold s1
      refine Keeps.then ?_ (State.wcode_keeps _ _ _ _) rfl
      refine Keeps.then ?_ (State.wwtLog_keeps _ _ _ _ _ _ _ _) rfl
      exact Keeps.refl _ _
    refine Keeps.then ?_ (State.showRunning_keeps _ _ _ _) rfl
    refine Keeps.then ?_ (State.wwtMod_keeps _ _ _ _ _) rfl
    exact keeps_s1
  · exact Keeps.refl _ _

theorem State.wwtForget_keeps (s : State) : Keeps 0x2000000000001800000008 s (State.wwtForget s) := by
  unfold State.wwtForget
  extract_lets +onlyGivenNames -merge -useContext __src
  have keeps___src : Keeps 0x2000000000001800000008 s __src := by
    unfold __src
    refine Keeps.fold ?_ (fun t1 y2 => ?_)
    · exact Keeps.refl _ _
    · refine Keeps.then ?_ (State.wf_keeps _ _ _ _) (Sub.or rfl rfl)
      exact Keeps.refl _ _
  refine Keeps.set_gain_seamFix ?_ rfl
  exact keeps___src

theorem State.wwtAbandon_keeps (s : State) : Keeps 0x24000000000018000C0008 s (State.wwtAbandon s) := by
  unfold State.wwtAbandon
  refine Keeps.then ?_ (State.wwtForget_keeps _) rfl
  refine Keeps.fold ?_ (fun t1 y2 => ?_)
  · exact Keeps.refl _ _
  · refine Keeps.then ?_ (State.wwtAbandonOne_keeps _ _ _ _) rfl
    exact Keeps.refl _ _

theorem State.wwtCommitted_keeps (s : State) (carriage : Option Nat) (ok : Bool) :
    Keeps 0x410000000001D001C0608 s (State.wwtCommitted s carriage ok) := by
  unfold State.wwtCommitted
  split
  · split
    · extract_lets +onlyGivenNames -merge -useContext s1
      have keeps_s1 : Keeps 0x410000000001D001C0608 s s1 := by
        unfold s1
        refine Keeps.set_seam_seamFix ?_ rfl
        exact Keeps.refl _ _
      refine Keeps.ite ?_ ?_
      · refine Keeps.then ?_ (State.wwtAccept_keeps _ _ _ _ _ _ _) rfl
        exact keeps_s1
      · refine Keeps.then ?_ (State.wwtNotApplied_keeps _ _ _ _ _ _ _) rfl
        exact keeps_s1
    · exact Keeps.refl _ _
  · split
    · extract_lets +onlyGivenNames -merge -useContext s1
      have keeps_s1 : Keeps 0x410000000001D001C0608 s s1 := by
        unfold s1
        refine Keeps.set_gain ?_ rfl
        exact Keeps.refl _ _
      refine Keeps.ite ?_ ?_
      · exact keeps_s1
      · refine Keeps.ite ?_ ?_
        · refine Keeps.then ?_ (State.wwtAccept_keeps _ _ _ _ _ _ _) rfl
          exact keeps_s1
        · refine Keeps.then ?_ (State.wwtNotApplied_keeps _ _ _ _ _ _ _) rfl
          exact keeps_s1
    · exact Keeps.refl _ _

theorem State.wwtResume_keeps (s : State) : Keeps 0x400000000000500080008 s (State.wwtResume s) := by
  unfold State.wwtResume
  refine Keeps.fold ?_ (fun t1 y2 => ?_)
  · exact Keeps.refl _ _
  · refine Keeps.then ?_ (State.wwtStart_keeps _ _ _ _) rfl
    exact Keeps.refl _ _

theorem State.wwtTempCheck_keeps (s : State) (cls : Nat) (coach : Nat) (car : Nat) :
    Keeps 0x400000000000500080008 s (State.wwtTempCheck s cls coach car) := by
  unfold State.wwtTempCheck
  extract_lets +onlyGivenNames -merge -useContext w
  split
  · exact Keeps.refl _ _
  · extract_lets +onlyGivenNames -merge -useContext d
    refine Keeps.ite ?_ ?_
    · refine Keeps.then ?_ (State.wwtRequest_keeps _ _ _ _ _) rfl
      exact Keeps.refl _ _
    · exact Keeps.refl _ _

theorem execWwtTimer_keeps (cls : Nat) (coach : Nat) (car : Nat) (s : State) :
    KeepsO 0x400000000000500080008 s (execWwtTimer cls coach car s) := by
  unfold execWwtTimer
  extract_lets +onlyGivenNames -merge -useContext xp
  refine KeepsO.next ?_
  refine Keeps.ite ?_ ?_
  · refine Keeps.then ?_ (State.wwtRequest_keeps _ _ _ _ _) rfl
    exact Keeps.refl _ _
  · exact Keeps.refl _ _

theorem State.actWwtCtl_keeps (s : State) (c : Nat) (w : Word) : Keeps 0x400000000000500080008 s (State.actWwtCtl s c w) := by
  unfold State.actWwtCtl
  refine Keeps.fold ?_ (fun t1 y2 => ?_)
  · exact Keeps.refl _ _
  · refine Keeps.ite ?_ ?_
    · split
      · refine Keeps.ite ?_ ?_
        · refine Keeps.then ?_ (State.wwtShow_keeps _ _ _ _) rfl
          refine Keeps.then ?_ (State.wwtMod_keeps _ _ _ _ _) rfl
          exact Keeps.refl _ _
        · refine Keeps.then ?_ (State.wwtRequest_keeps _ _ _ _ _) rfl
          exact Keeps.refl _ _
      · exact Keeps.refl _ _
    · exact Keeps.refl _ _

theorem execWwtRun_keeps (m : Nat) (c : Nat) (w : Word) (s : State) : KeepsO 0x4000900000005000C1608 s (execWwtRun m c w s) := by
  unfold execWwtRun
  extract_lets +onlyGivenNames -merge -useContext w1
  refine KeepsO.next ?_
  refine Keeps.then ?_ (State.regDo_keeps (msk := 0x4000900000005000C1608) _ _ _ _ _ _ (by exact rfl) (fun z11 => ?_)) (Sub.refl _)
  · exact Keeps.refl _ _
  · refine Keeps.then ?_ (State.actWwtCtl_keeps _ _ _) rfl
    refine Keeps.then ?_ (State.wf_keeps _ _ _ _) rfl
    exact Keeps.refl _ _

theorem execClearUnsettled_keeps (m : Nat) (c : Nat) (w : Word) (s : State) :
    KeepsO 0x4000900000005000C1608 s (execClearUnsettled m c w s) := by
  unfold execClearUnsettled
  extract_lets +onlyGivenNames -merge -useContext w1
  refine KeepsO.next ?_
  refine Keeps.then ?_ (State.regDo_keeps (msk := 0x4000900000005000C1608) _ _ _ _ _ _ (by exact rfl) (fun z11 => ?_)) (Sub.refl _)
  · exact Keeps.refl _ _
  · refine Keeps.then ?_ (State.actWwtCtl_keeps _ _ _) rfl
    refine Keeps.then ?_ (State.wf_keeps _ _ _ _) rfl
    exact Keeps.refl _ _

theorem execWwtServiceRun_keeps (s : State) : KeepsO 0x4101100000005001C6608 s (execWwtServiceRun s) := by
  unfold execWwtServiceRun
  extract_lets +onlyGivenNames -merge -useContext a
  refine KeepsO.next ?_
  refine Keeps.ite ?_ ?_
  · refine Keeps.ite ?_ ?_
    · refine Keeps.then ?_ (State.serve_keeps _ _ _ _ _) rfl
      refine Keeps.then ?_ (State.wwtRequest_keeps _ _ _ _ _) rfl
      exact Keeps.refl _ _
    · refine Keeps.then ?_ (State.serve_keeps _ _ _ _ _) rfl
      exact Keeps.refl _ _
  · exact Keeps.refl _ _

theorem execWwtServiceState_keeps (s : State) : KeepsO 0x10110000000000146608 s (execWwtServiceState s) := by
  unfold execWwtServiceState
  extract_lets +onlyGivenNames -merge -useContext a
  refine KeepsO.next ?_
  refine Keeps.ite ?_ ?_
  · refine Keeps.ite ?_ ?_
    · extract_lets +onlyGivenNames -merge -useContext w
      refine Keeps.then ?_ (State.serve_keeps _ _ _ _ _) rfl
      exact Keeps.refl _ _
    · refine Keeps.then ?_ (State.serve_keeps _ _ _ _ _) rfl
      exact Keeps.refl _ _
  · exact Keeps.refl _ _

theorem execRecordRead_keeps (s : State) : KeepsO 0x10110000000000146608 s (execRecordRead s) := by
  unfold execRecordRead
  refine KeepsO.next ?_
  refine Keeps.ite ?_ ?_
  · split
    · refine Keeps.then ?_ (State.serve_keeps _ _ _ _ _) rfl
      exact Keeps.refl _ _
    · refine Keeps.then ?_ (State.serve_keeps _ _ _ _ _) rfl
      exact Keeps.refl _ _
  · exact Keeps.refl _ _

theorem execTsenRunComplete_keeps (c : Nat) (first : List Int) (second : List Int) (s : State) :
    KeepsO 0x4100000000005001C0608 s (execTsenRunComplete c first second s) := by
  unfold execTsenRunComplete
  refine KeepsO.next ?_
  refine Keeps.ite ?_ ?_
  · exact Keeps.refl _ _
  · extract_lets +onlyGivenNames -merge -useContext fix
    extract_lets +onlyGivenNames -merge -useContext d1
    extract_lets +onlyGivenNames -merge -useContext d2
    extract_lets +onlyGivenNames -merge -useContext big
    refine Keeps.ite ?_ ?_
    · extract_lets +onlyGivenNames -merge -useContext bad
      extract_lets +onlyGivenNames -merge -useContext was
      extract_lets +onlyGivenNames -merge -useContext s1
      have keeps_s1 : Keeps 0x4100000000005001C0608 s s1 := by
        unfold s1
        refine Keeps.then ?_ (State.wf_keeps _ _ _ _) rfl
        exact Keeps.refl _ _
      extract_lets +onlyGivenNames -merge -useContext good
      extract_lets +onlyGivenNames -merge -useContext s2
      have keeps_s2 : Keeps 0x4100000000005001C0608 s s2 := by
        unfold s2
        refine Keeps.then ?_ (State.wf_keeps _ _ _ _) rfl
        exact keeps_s1
      extract_lets +onlyGivenNames -merge -useContext s3
      have keeps_s3 : Keeps 0x4100000000005001C0608 s s3 := by
        unfold s3
        refine Keeps.fold ?_ (fun t1 y2 => ?_)
        · exact keeps_s2
        · refine Keeps.ite ?_ ?_
          · refine Keeps.then ?_ (State.wwtEv_keeps _ _ _ _) rfl
            refine Keeps.then ?_ (State.wcode_keeps _ _ _ _) rfl
            exact Keeps.refl _ _
          · exact Keeps.refl _ _
      refine Keeps.then ?_ (State.wwtAccept_keeps _ _ _ _ _ _ _) rfl
      exact keeps_s3
    · refine Keeps.then ?_ (State.wwtReject_keeps _ _ _ _ _ _ _) rfl
      exact Keeps.refl _ _

end Sys2Proof.Machine
end

