-- ==== Sys2Proof/Laws/KeepsApply.lean ====
section
/-! SUPPORT. Frames of the operations of Machine/Apply.lean: what each may change, one lemma each. -/

namespace Sys2Proof.Machine

theorem State.takeValues_keeps (s : State) (l : List (Nat × Word)) : Keeps 0xFFFFFFFF0000000000000008 s (State.takeValues s l) := by
  unfold State.takeValues
  refine Keeps.fold ?_ (fun t1 y2 => ?_)
  · exact Keeps.refl _ _
  · extract_lets +onlyGivenNames -merge -useContext b
    extract_lets +onlyGivenNames -merge -useContext o
    split
    · exact Keeps.refl _ _
    · extract_lets +onlyGivenNames -merge -useContext rws
      refine Keeps.then ?_ (State.setWord_keeps _ _ _ _ _) (Sub.or rfl (Sub.anyBlk _ rfl))
      exact Keeps.refl _ _

theorem State.unstage_keeps (s : State) (ks : List Nat) : Keeps 0x10 s (State.unstage s ks) := by
  unfold State.unstage
  refine Keeps.set_staged ?_ rfl
  exact Keeps.refl _ _

theorem State.armedTake_keeps (s : State) (g : Nat) (due : Armed → Bool) (mine : Nat → Bool) :
    Keeps 0xFFFFFFFF0000000000200018 s (State.armedTake s g due mine) := by
  unfold State.armedTake
  extract_lets +onlyGivenNames -merge -useContext hit
  extract_lets +onlyGivenNames -merge -useContext vals
  refine Keeps.ite ?_ ?_
  · exact Keeps.refl _ _
  · extract_lets +onlyGivenNames -merge -useContext rest
    refine Keeps.then ?_ (State.unstage_keeps _ _) rfl
    extract_lets +onlyGivenNames -merge -useContext __src
    have keeps___src : Keeps 0xFFFFFFFF0000000000200018 s __src := by
      unfold __src
      refine Keeps.then ?_ (State.takeValues_keeps _ _) rfl
      exact Keeps.refl _ _
    refine Keeps.set_yoke ?_ rfl
    exact keeps___src

theorem State.armedAt_keeps (s : State) (g : Nat) (b : Blk) (md : Int) : Keeps 0xFFFFFFFF0000000000200018 s (State.armedAt s g b md) := by
  unfold State.armedAt
  refine Keeps.then ?_ (State.armedTake_keeps _ _ _ _) rfl
  exact Keeps.refl _ _

theorem State.yokeTell_keeps (s : State) (carriage : Option Nat) (typ : Nat) (body : List Nat) :
    Keeps 0x400 s (State.yokeTell s carriage typ body) := by
  unfold State.yokeTell
  extract_lets +onlyGivenNames -merge -useContext s1
  have keeps_s1 : Keeps 0x400 s s1 := by
    unfold s1
    refine Keeps.ite ?_ ?_
    · refine Keeps.then ?_ (State.emit_keeps _ _ _ _) rfl
      exact Keeps.refl _ _
    · exact Keeps.refl _ _
  refine Keeps.ite ?_ ?_
  · refine Keeps.then ?_ (State.emit_keeps _ _ _ _) rfl
    exact keeps_s1
  · exact keeps_s1

theorem State.restoreRw_keeps (s : State) (ks : List Nat) : Keeps 0xFFFFFFFF0000000000000008 s (State.restoreRw s ks) := by
  unfold State.restoreRw
  refine Keeps.fold ?_ (fun t1 y2 => ?_)
  · exact Keeps.refl _ _
  · split
    · exact Keeps.refl _ _
    · extract_lets +onlyGivenNames -merge -useContext m
      refine Keeps.ite ?_ ?_
      · exact Keeps.refl _ _
      · extract_lets +onlyGivenNames -merge -useContext w
        refine Keeps.then ?_ (State.setWord_keeps _ _ _ _ _) (Sub.or rfl (Sub.anyBlk _ rfl))
        exact Keeps.refl _ _

theorem State.contApply_keeps (s : State) (old : State) (pos : Nat) : Keeps 0x20000000000 s (State.contApply s old pos) := by
  unfold State.contApply
  extract_lets +onlyGivenNames -merge -useContext l
  extract_lets +onlyGivenNames -merge -useContext l0
  refine Keeps.ite ?_ ?_
  · exact Keeps.refl _ _
  · extract_lets +onlyGivenNames -merge -useContext line
    refine Keeps.set_dbm ?_ rfl
    exact Keeps.refl _ _

theorem State.blocksApply_keeps (s : State) (old : State) (ks : List Nat) (pos : Nat) :
    Keeps 0x50800000020010900608 s (State.blocksApply s old ks pos) := by
  unfold State.blocksApply
  extract_lets +onlyGivenNames -merge -useContext s1
  have keeps_s1 : Keeps 0x50800000020010900608 s s1 := by
    unfold s1
    refine Keeps.ite ?_ ?_
    · refine Keeps.then ?_ (State.wayApply_keeps _ _ _) rfl
      exact Keeps.refl _ _
    · exact Keeps.refl _ _
  extract_lets +onlyGivenNames -merge -useContext units
  extract_lets +onlyGivenNames -merge -useContext s2
  have keeps_s2 : Keeps 0x50800000020010900608 s s2 := by
    unfold s2
    refine Keeps.fold ?_ (fun t1 y2 => ?_)
    · exact keeps_s1
    · refine Keeps.then ?_ (State.whtApply_keeps _ _) rfl
      exact Keeps.refl _ _
  refine Keeps.ite ?_ ?_
  · refine Keeps.then ?_ (State.contApply_keeps _ _ _) rfl
    exact keeps_s2
  · exact keeps_s2

theorem State.showApplied_keeps (s : State) : Keeps 0x40000000000000608 s (State.showApplied s) := by
  unfold State.showApplied
  refine Keeps.then ?_ (State.edges_keeps _ _ _) rfl
  refine Keeps.fold ?_ (fun t1 y2 => ?_)
  · exact Keeps.refl _ _
  · refine Keeps.then ?_ (State.wf_keeps _ _ _ _) (Sub.or rfl rfl)
    exact Keeps.refl _ _

theorem State.yokeState_keeps (s : State) (m : Nat) (seq : Nat) (n : Nat) : Keeps 0x40000000000000008 s (State.yokeState s m seq n) := by
  unfold State.yokeState
  refine Keeps.ite ?_ ?_
  · refine Keeps.then ?_ (State.wf_keeps _ _ _ _) (Sub.or rfl rfl)
    exact Keeps.refl _ _
  · exact Keeps.refl _ _

theorem State.release_keeps (s : State) (seq : Nat) : Keeps 0xFFFFFFFF0000021D10BC0638 s (State.release s seq) := by
  unfold State.release
  split
  · exact Keeps.refl _ _
  · extract_lets +onlyGivenNames -merge -useContext keys
    extract_lets +onlyGivenNames -merge -useContext outs
    extract_lets +onlyGivenNames -merge -useContext ks
    extract_lets +onlyGivenNames -merge -useContext s1
    have keeps_s1 : Keeps 0xFFFFFFFF0000021D10BC0638 s s1 := by
      unfold s1
      refine Keeps.then ?_ (State.takeValues_keeps _ _) rfl
      exact Keeps.refl _ _
    extract_lets +onlyGivenNames -merge -useContext s2
    have keeps_s2 : Keeps 0xFFFFFFFF0000021D10BC0638 s s2 := by
      unfold s2
      refine Keeps.ite ?_ ?_
      · refine Keeps.then ?_ (State.restoreRw_keeps _ _) rfl
        exact keeps_s1
      · exact keeps_s1
    extract_lets +onlyGivenNames -merge -useContext s3
    extract_lets +onlyGivenNames -merge -useContext s3_2
    have keeps_s3_2 : Keeps 0xFFFFFFFF0000021D10BC0638 s s3_2 := by
      unfold s3_2
      refine Keeps.then ?_ (State.unstage_keeps _ _) rfl
      refine Keeps.set_stager_yoke ?_ rfl
      exact keeps_s2
    extract_lets +onlyGivenNames -merge -useContext s4
    have keeps_s4 : Keeps 0xFFFFFFFF0000021D10BC0638 s s4 := by
      unfold s4
      refine Keeps.then ?_ (State.blocksApply_keeps _ _ _ _) rfl
      exact keeps_s3_2
    extract_lets +onlyGivenNames -merge -useContext s5
    have keeps_s5 : Keeps 0xFFFFFFFF0000021D10BC0638 s s5 := by
      unfold s5
      refine Keeps.ite ?_ ?_
      · refine Keeps.then ?_ (State.wf64_keeps _ _ _ _) rfl
        exact keeps_s4
      · exact keeps_s4
    extract_lets +onlyGivenNames -merge -useContext s5_2
    have keeps_s5_2 : Keeps 0xFFFFFFFF0000021D10BC0638 s s5_2 := by
      unfold s5_2
      refine Keeps.ite ?_ ?_
      · refine Keeps.then ?_ (State.wwtCommitted_keeps _ _ _) rfl
        exact keeps_s5
      · exact keeps_s5
    extract_lets +onlyGivenNames -merge -useContext s6
    have keeps_s6 : Keeps 0xFFFFFFFF0000021D10BC0638 s s6 := by
      unfold s6
      refine Keeps.then ?_ (State.yokeState_keeps _ _ _ _) rfl
      refine Keeps.then ?_ (State.incWrap_keeps _ _ _) rfl
      exact keeps_s5_2
    refine Keeps.then ?_ (State.reinRaise_keeps _ _ _ _ _) rfl
    refine Keeps.then ?_ (State.showApplied_keeps _) rfl
    refine Keeps.then ?_ (State.evIf_keeps _ _ _ _) rfl
    exact keeps_s6

theorem State.releaseOn_keeps (s : State) (seq : Nat) : Keeps 0xFFFFFFFF0000021D10BC0638 s (State.releaseOn s seq) := by
  unfold State.releaseOn
  split
  · exact Keeps.refl _ _
  · refine Keeps.ite ?_ ?_
    · extract_lets +onlyGivenNames -merge -useContext xp
      extract_lets +onlyGivenNames -merge -useContext s1
      extract_lets +onlyGivenNames -merge -useContext s1_2
      have keeps_s1_2 : Keeps 0xFFFFFFFF0000021D10BC0638 s s1_2 := by
        unfold s1_2
        refine Keeps.set_yoke ?_ rfl
        exact Keeps.refl _ _
      refine Keeps.then ?_ (State.yokeTell_keeps _ _ _ _) rfl
      exact keeps_s1_2
    · refine Keeps.then ?_ (State.release_keeps _ _) rfl
      exact Keeps.refl _ _

end Sys2Proof.Machine
end

