-- ==== Sys2Proof/Laws/KeepsMews.lean ====
section
/-! SUPPORT. Frames of the operations of Machine/Mews.lean: what each may change, one lemma each. -/

namespace Sys2Proof.Machine

theorem State.setMew_keeps (s : State) (k : Nat) (w : Mews) : Keeps 0x100000000000020000008 s (State.setMew s k w) := by
  unfold State.setMew
  extract_lets +onlyGivenNames -merge -useContext i
  extract_lets +onlyGivenNames -merge -useContext m
  extract_lets +onlyGivenNames -merge -useContext u
  extract_lets +onlyGivenNames -merge -useContext s1
  have keeps_s1 : Keeps 0x100000000000020000008 s s1 := by
    unfold s1
    refine Keeps.set_mews ?_ rfl
    exact Keeps.refl _ _
  refine Keeps.then ?_ (State.peak_keeps _ _ _ _) (Sub.or rfl (Sub.blk .MEW (by first | rfl | exact blk_ite rfl rfl) rfl))
  refine Keeps.then ?_ (State.wf_keeps _ _ _ _) (Sub.or rfl (Sub.blk .MEW (by first | rfl | exact blk_ite rfl rfl) rfl))
  refine Keeps.then ?_ (State.wf_keeps _ _ _ _) (Sub.or rfl (Sub.blk .MEW (by first | rfl | exact blk_ite rfl rfl) rfl))
  exact keeps_s1

theorem State.mewBad_keeps (s : State) (c : Nat) : Keeps 0x110000000000000100608 s (State.mewBad s c) := by
  unfold State.mewBad
  refine Keeps.then ?_ (State.ev_keeps _ _ _) (Sub.or rfl rfl)
  refine Keeps.then ?_ (State.inc_keeps _ _ _) (Sub.or rfl rfl)
  exact Keeps.refl _ _

theorem State.mewPush_keeps (s : State) (k : Nat) (it : Item) (bad : Bool) :
    Keeps 0x110000000000020100608 s (State.mewPush s k it bad).1 := by
  unfold State.mewPush
  refine Keeps.ite_fst ?_ ?_
  · dsimp only
    exact Keeps.refl _ _
  · extract_lets +onlyGivenNames -merge -useContext w
    extract_lets +onlyGivenNames -merge -useContext s1
    have keeps_s1 : Keeps 0x110000000000020100608 s s1 := by
      unfold s1
      refine Keeps.then ?_ (State.setMew_keeps _ _ _) rfl
      exact Keeps.refl _ _
    dsimp only
    refine Keeps.ite ?_ ?_
    · refine Keeps.then ?_ (State.mewBad_keeps _ _) rfl
      exact keeps_s1
    · exact keeps_s1

theorem State.mewPop_keeps (s : State) (k : Nat) : Keeps 0x100000000000020000008 s (State.mewPop s k) := by
  unfold State.mewPop
  extract_lets +onlyGivenNames -merge -useContext w
  refine Keeps.then ?_ (State.setMew_keeps _ _ _) rfl
  exact Keeps.refl _ _

theorem State.pass_keeps (s : State) (g : Nat) (h : Hop) (it : Item) (bad : Bool) :
    Keeps 0x110000000000020100608 s (State.pass s g h it bad) := by
  unfold State.pass
  split
  · refine Keeps.then ?_ (State.mewPush_keeps _ _ _ _) rfl
    exact Keeps.refl _ _
  · exact Keeps.refl _ _

theorem State.takeNext_keeps (s : State) (g : Nat) (h : Hop) : KeepsT 0x100000000000020000008 s (State.takeNext s g h) := by
  intro x e
  unfold State.takeNext at e
  split at e
  · cases e
  · split at e
    · cases e
    · obtain ⟨it, _, rfl⟩ := Option.map_eq_some_iff.mp e
      exact State.mewPop_keeps _ _

theorem State.tapLoseFirst_keeps (s : State) (k : Nat) (n : Nat) : Keeps 0x20000000 s (State.tapLoseFirst s k n) := by
  unfold State.tapLoseFirst
  extract_lets +onlyGivenNames -merge -useContext xp
  extract_lets +onlyGivenNames -merge -useContext more
  refine Keeps.ite ?_ ?_
  · exact Keeps.refl _ _
  · refine Keeps.set_mews ?_ rfl
    exact Keeps.refl _ _

theorem State.tapLose_keeps (s : State) (k : Nat) : Keeps 0x20000000 s (State.tapLose s k) := by
  unfold State.tapLose
  extract_lets +onlyGivenNames -merge -useContext xp
  extract_lets +onlyGivenNames -merge -useContext more
  refine Keeps.set_mews ?_ rfl
  exact Keeps.refl _ _

theorem State.tapPush_keeps (s : State) (g : Nat) (a : Hop) (b : Hop) (it : Item) :
    Keeps 0x110000000000020100608 s (State.tapPush s g a b it).1 := by
  unfold State.tapPush
  split
  · extract_lets +onlyGivenNames -merge -useContext r
    have keeps_r : Keeps 0x110000000000020100608 s r.1 := by
      unfold r
      refine Keeps.then ?_ (State.mewPush_keeps _ _ _ _) rfl
      exact Keeps.refl _ _
    refine Keeps.ite_fst ?_ ?_
    · exact keeps_r
    · split
      · dsimp only
        refine Keeps.then ?_ (State.tapLose_keeps _ _) rfl
        exact keeps_r
      · exact keeps_r
  · dsimp only
    exact Keeps.refl _ _

theorem State.tapTake_keeps (s : State) (k : Nat) : Keeps 0x100000000000020000008 s (State.tapTake s k).2 := by
  unfold State.tapTake
  split
  · dsimp only
    refine Keeps.then ?_ (State.mewPop_keeps _ _) rfl
    exact Keeps.refl _ _
  · dsimp only
    exact Keeps.refl _ _

theorem State.mewWrite_keeps (s : State) (k : Nat) (units : Nat) (last : Bool) (bad : Bool) :
    Keeps 0x110000000000020100608 s (State.mewWrite s k units last bad) := by
  unfold State.mewWrite
  extract_lets +onlyGivenNames -merge -useContext w
  extract_lets +onlyGivenNames -merge -useContext more
  extract_lets +onlyGivenNames -merge -useContext room
  extract_lets +onlyGivenNames -merge -useContext put
  extract_lets +onlyGivenNames -merge -useContext rest
  extract_lets +onlyGivenNames -merge -useContext fin
  extract_lets +onlyGivenNames -merge -useContext pk
  extract_lets +onlyGivenNames -merge -useContext isBad
  extract_lets +onlyGivenNames -merge -useContext s1
  have keeps_s1 : Keeps 0x110000000000020100608 s s1 := by
    unfold s1
    refine Keeps.then ?_ (State.setMew_keeps _ _ _) rfl
    exact Keeps.refl _ _
  refine Keeps.ite ?_ ?_
  · refine Keeps.then ?_ (State.mewBad_keeps _ _) rfl
    exact keeps_s1
  · exact keeps_s1

theorem execMewsPacketWrite_keeps (c : Nat) (m : Nat) (units : Nat) (last : Bool) (bad : Bool) (s : State) :
    KeepsO 0x110000000000020100608 s (execMewsPacketWrite c m units last bad s) := by
  unfold execMewsPacketWrite
  refine KeepsO.next ?_
  extract_lets +onlyGivenNames -merge -useContext k
  refine Keeps.ite ?_ ?_
  · exact Keeps.refl _ _
  · refine Keeps.ite ?_ ?_
    · exact Keeps.refl _ _
    · refine Keeps.then ?_ (State.mewWrite_keeps _ _ _ _ _) rfl
      exact Keeps.refl _ _

theorem execMewsSpaceFreed_keeps (c : Nat) (m : Nat) (clocks : Nat) (last : Bool) (s : State) :
    KeepsO 0x110000000000020100608 s (execMewsSpaceFreed c m clocks last s) := by
  unfold execMewsSpaceFreed
  refine KeepsO.next ?_
  extract_lets +onlyGivenNames -merge -useContext k
  refine Keeps.ite ?_ ?_
  · exact Keeps.refl _ _
  · refine Keeps.then ?_ (State.add_keeps _ _ _ _) (Sub.or rfl (Sub.blk .MEW (by first | rfl | exact blk_ite rfl rfl) rfl))
    refine Keeps.then ?_ (State.mewWrite_keeps _ _ _ _ _) rfl
    exact Keeps.refl _ _

theorem execMewsPacketRead_keeps (c : Nat) (m : Nat) (units : Nat) (clocks : Nat) (s : State) :
    KeepsO 0x100000000000020000008 s (execMewsPacketRead c m units clocks s) := by
  unfold execMewsPacketRead
  refine KeepsO.next ?_
  extract_lets +onlyGivenNames -merge -useContext k
  extract_lets +onlyGivenNames -merge -useContext w
  split
  · refine Keeps.then ?_ (State.add_keeps _ _ _ _) (Sub.or rfl (Sub.blk .MEW (by first | rfl | exact blk_ite rfl rfl) rfl))
    exact Keeps.refl _ _
  · extract_lets +onlyGivenNames -merge -useContext s1
    have keeps_s1 : Keeps 0x100000000000020000008 s s1 := by
      unfold s1
      refine Keeps.then ?_ (State.add_keeps _ _ _ _) (Sub.or rfl (Sub.blk .MEW (by first | rfl | exact blk_ite rfl rfl) rfl))
      exact Keeps.refl _ _
    refine Keeps.ite ?_ ?_
    · exact keeps_s1
    · extract_lets +onlyGivenNames -merge -useContext q
      refine Keeps.ite ?_ ?_
      · refine Keeps.then ?_ (State.setMew_keeps _ _ _) rfl
        exact keeps_s1
      · refine Keeps.then ?_ (State.setMew_keeps _ _ _) rfl
        exact keeps_s1

theorem execMewsPacketAbandon_keeps (c : Nat) (m : Nat) (s : State) : KeepsO 0x110000000000020100608 s (execMewsPacketAbandon c m s) := by
  unfold execMewsPacketAbandon
  refine KeepsO.next ?_
  extract_lets +onlyGivenNames -merge -useContext k
  extract_lets +onlyGivenNames -merge -useContext w
  split
  · exact Keeps.refl _ _
  · refine Keeps.ite ?_ ?_
    · exact Keeps.refl _ _
    · extract_lets +onlyGivenNames -merge -useContext q
      extract_lets +onlyGivenNames -merge -useContext s1
      have keeps_s1 : Keeps 0x110000000000020100608 s s1 := by
        unfold s1
        refine Keeps.then ?_ (State.mewBad_keeps _ _) rfl
        refine Keeps.then ?_ (State.setMew_keeps _ _ _) rfl
        exact Keeps.refl _ _
      refine Keeps.then ?_ (State.ev_keeps _ _ _) (Sub.or rfl rfl)
      refine Keeps.then ?_ (State.inc_keeps _ _ _) (Sub.or rfl rfl)
      exact keeps_s1

theorem State.actMewFlush_keeps (s : State) (c : Nat) (m : Nat) : Keeps 0x100000000000020000008 s (State.actMewFlush s c m) := by
  unfold State.actMewFlush
  extract_lets +onlyGivenNames -merge -useContext k
  refine Keeps.ite ?_ ?_
  · refine Keeps.then ?_ (State.wf_keeps _ _ _ _) (Sub.or rfl rfl)
    exact Keeps.refl _ _
  · extract_lets +onlyGivenNames -merge -useContext jobs
    refine Keeps.then ?_ (State.wf_keeps _ _ _ _) (Sub.or rfl rfl)
    refine Keeps.set_mews ?_ rfl
    exact Keeps.refl _ _

theorem execMewsFlush_keeps (m : Nat) (w : Word) (c : Nat) (s : State) : KeepsO 0x1000D0000000020041638 s (execMewsFlush m w c s) := by
  unfold execMewsFlush
  refine KeepsO.next ?_
  refine Keeps.then ?_ (State.regAct_keeps (msk := 0x1000D0000000020041638) _ _ _ _ _ _ (by exact Sub.or rfl rfl) (fun z1 => ?_)) (Sub.refl _)
  · exact Keeps.refl _ _
  · refine Keeps.then ?_ (State.actMewFlush_keeps _ _ _) rfl
    exact Keeps.refl _ _

theorem State.actPeakClear_keeps (s : State) (c : Nat) (n : Nat) : Keeps 0x100000000000000000008 s (State.actPeakClear s c n) := by
  unfold State.actPeakClear
  refine Keeps.then ?_ (State.wf_keeps _ _ _ _) (Sub.or rfl (Sub.blk .MEW (by first | rfl | exact blk_ite rfl rfl) rfl))
  exact Keeps.refl _ _

theorem execMewPeakClear_keeps (m : Nat) (w : Word) (c : Nat) (n : Nat) (s : State) :
    KeepsO 0x1000D0000000000041638 s (execMewPeakClear m w c n s) := by
  unfold execMewPeakClear
  refine KeepsO.next ?_
  refine Keeps.then ?_ (State.regAct_keeps (msk := 0x1000D0000000000041638) _ _ _ _ _ _ (by exact Sub.or rfl (Sub.blk .MEW (by first | rfl | exact blk_ite rfl rfl) rfl)) (fun z1 => ?_)) (Sub.refl _)
  · exact Keeps.refl _ _
  · refine Keeps.then ?_ (State.actPeakClear_keeps _ _ _) rfl
    exact Keeps.refl _ _

theorem State.mewEmpty_keeps (s : State) (k : Nat) : Keeps 0x100000000000020000008 s (State.mewEmpty s k) := by
  unfold State.mewEmpty
  refine Keeps.then ?_ (State.setMew_keeps _ _ _) rfl
  exact Keeps.refl _ _

end Sys2Proof.Machine
end

