-- ==== Sys2Proof/Laws/KeepsLines.lean ====
section
/-! SUPPORT. Frames of the operations of Machine/Lines.lean: what each may change, one lemma each. -/

namespace Sys2Proof.Machine

theorem State.previewTap_keeps (s : State) (g : Nat) (h : Hop) (it : Item) :
    Keeps 0x110000000000020100608 s (State.previewTap s g h it) := by
  unfold State.previewTap
  refine Keeps.ite ?_ ?_
  · refine Keeps.fold ?_ (fun t1 y2 => ?_)
    · exact Keeps.refl _ _
    · refine Keeps.then ?_ (State.tapPush_keeps _ _ _ _ _) rfl
      exact Keeps.refl _ _
  · exact Keeps.refl _ _

theorem State.couplerTaps_keeps (s : State) (g : Nat) (h : Hop) (l : Line) :
    Keeps 0x110000000008020100608 s (State.couplerTaps s g h l) := by
  unfold State.couplerTaps
  extract_lets +onlyGivenNames -merge -useContext s1
  have keeps_s1 : Keeps 0x110000000008020100608 s s1 := by
    unfold s1
    split
    · refine Keeps.ite ?_ ?_
      · extract_lets +onlyGivenNames -merge -useContext own
        extract_lets +onlyGivenNames -merge -useContext x
        refine Keeps.set_hist ?_ rfl
        exact Keeps.refl _ _
      · exact Keeps.refl _ _
    · exact Keeps.refl _ _
  refine Keeps.then ?_ (State.previewTap_keeps _ _ _ _) rfl
  exact keeps_s1

theorem State.coupled_keeps (s : State) (g : Nat) (h : Hop) (it : Item) : Keeps 0x110000000008020100608 s (State.coupled s g h it) := by
  unfold State.coupled
  extract_lets +onlyGivenNames -merge -useContext s1
  have keeps_s1 : Keeps 0x110000000008020100608 s s1 := by
    unfold s1
    refine Keeps.then ?_ (State.pass_keeps _ _ _ _ _) rfl
    exact Keeps.refl _ _
  refine Keeps.ite ?_ ?_
  · split
    · refine Keeps.then ?_ (State.couplerTaps_keeps _ _ _ _) rfl
      exact keeps_s1
    · refine Keeps.ite ?_ ?_
      · exact keeps_s1
      · refine Keeps.then ?_ (State.previewTap_keeps _ _ _ _) rfl
        exact keeps_s1
    · exact keeps_s1
  · exact keeps_s1

end Sys2Proof.Machine
end

