-- ==== Sys2Proof/Laws/KeepsCpl.lean ====
section
/-! SUPPORT. Frames of the operations of Machine/Cpl.lean: what each may change, one lemma each. -/

namespace Sys2Proof.Machine

theorem State.seamMod_keeps (s : State) (g : Nat) (f : Seam → Seam) : Keeps 0x400000000 s (State.seamMod s g f) := by
  unfold State.seamMod
  refine Keeps.set_seam ?_ rfl
  exact Keeps.refl _ _

theorem State.cw_keeps (s : State) (g : Nat) (f : Fld) (v : Nat) : Keeps (0x8 ||| blkBit (f.blk)) s (State.cw s g f v) := by
  unfold State.cw
  refine Keeps.then ?_ (State.wf_keeps _ _ _ _) (Sub.or (Sub.l rfl) (Sub.r _ _))
  exact Keeps.refl _ _

theorem State.cev_keeps (s : State) (g : Nat) (f : Fld) : Keeps (0x10000000000000100608 ||| blkBit (f.blk)) s (State.cev s g f) := by
  unfold State.cev
  refine Keeps.then ?_ (State.ev_keeps _ _ _) (Sub.or (Sub.l rfl) (Sub.r _ _))
  exact Keeps.refl _ _

theorem State.ccount_keeps (s : State) (g : Nat) (n : Nat) (k : Nat) : Keeps 0x8000000000000000000008 s (State.ccount s g n k) := by
  unfold State.ccount
  refine Keeps.then ?_ (State.add_keeps _ _ _ _) (Sub.or rfl (Sub.blk .CPL (by first | rfl | exact blk_ite rfl rfl) rfl))
  exact Keeps.refl _ _

theorem State.regRestart_keeps (s : State) (g : Nat) : Keeps 0x8000000000000400000008 s (State.regRestart s g) := by
  unfold State.regRestart
  refine Keeps.then ?_ (State.cw_keeps _ _ _ _) (Sub.or rfl rfl)
  refine Keeps.then ?_ (State.cw_keeps _ _ _ _) (Sub.or rfl rfl)
  refine Keeps.then ?_ (State.seamMod_keeps _ _ _) rfl
  exact Keeps.refl _ _

theorem State.regUse_keeps (s : State) (g : Nat) (a : Line × Line) (b : Line × Line) (c : Line × Line) :
    Keeps 0x8000000000000400000008 s (State.regUse s g a b c) := by
  unfold State.regUse
  extract_lets +onlyGivenNames -merge -useContext x
  refine Keeps.ite ?_ ?_
  · exact Keeps.refl _ _
  · extract_lets +onlyGivenNames -merge -useContext v
    extract_lets +onlyGivenNames -merge -useContext r
    extract_lets +onlyGivenNames -merge -useContext pick
    extract_lets +onlyGivenNames -merge -useContext w
    refine Keeps.then ?_ (State.cw_keeps _ _ _ _) (Sub.or rfl rfl)
    refine Keeps.then ?_ (State.seamMod_keeps _ _ _) rfl
    exact Keeps.refl _ _

theorem State.seamSettings_keeps (s : State) (g : Nat) (l : Line) (h : Line) :
    Keeps 0x8000000000000400000008 s (State.seamSettings s g l h) := by
  unfold State.seamSettings
  extract_lets +onlyGivenNames -merge -useContext now_
  extract_lets +onlyGivenNames -merge -useContext under
  extract_lets +onlyGivenNames -merge -useContext x
  refine Keeps.ite ?_ ?_
  · exact Keeps.refl _ _
  · extract_lets +onlyGivenNames -merge -useContext path
    refine Keeps.then ?_ (State.regRestart_keeps _ _) rfl
    refine Keeps.then ?_ (State.seamMod_keeps _ _ _) rfl
    exact Keeps.refl _ _

theorem State.unjoinedEnd_keeps (s : State) (g : Nat) : Keeps 0x110000000000420100608 s (State.unjoinedEnd s g) := by
  unfold State.unjoinedEnd
  split
  · exact Keeps.refl _ _
  · refine Keeps.then ?_ (State.pass_keeps _ _ _ _ _) rfl
    refine Keeps.then ?_ (State.seamMod_keeps _ _ _) rfl
    exact Keeps.refl _ _

theorem State.unjoin_keeps (s : State) (g : Nat) (m : Nat) : Keeps 0x8110000000000420100608 s (State.unjoin s g m) := by
  unfold State.unjoin
  extract_lets +onlyGivenNames -merge -useContext s1
  have keeps_s1 : Keeps 0x8110000000000420100608 s s1 := by
    unfold s1
    refine Keeps.then ?_ (State.cw_keeps _ _ _ _) (Sub.or rfl rfl)
    refine Keeps.then ?_ (State.cev_keeps _ _ _) (Sub.or rfl rfl)
    refine Keeps.then ?_ (State.ccount_keeps _ _ _ _) rfl
    exact Keeps.refl _ _
  extract_lets +onlyGivenNames -merge -useContext s2
  have keeps_s2 : Keeps 0x8110000000000420100608 s s2 := by
    unfold s2
    refine Keeps.then ?_ (State.seamMod_keeps _ _ _) rfl
    exact keeps_s1
  extract_lets +onlyGivenNames -merge -useContext s3
  have keeps_s3 : Keeps 0x8110000000000420100608 s s3 := by
    unfold s3
    split
    · refine Keeps.ite ?_ ?_
      · refine Keeps.then ?_ (State.seamMod_keeps _ _ _) rfl
        exact keeps_s2
      · refine Keeps.then ?_ (State.seamMod_keeps _ _ _) rfl
        refine Keeps.then ?_ (State.unjoinedEnd_keeps _ _) rfl
        exact keeps_s2
    · refine Keeps.then ?_ (State.seamMod_keeps _ _ _) rfl
      exact keeps_s2
  split
  · refine Keeps.ite ?_ ?_
    · refine Keeps.then ?_ (State.unjoinedEnd_keeps _ _) rfl
      exact keeps_s3
    · exact keeps_s3
  · exact keeps_s3

theorem State.dropWaiting_keeps (s : State) (g : Nat) (low : Bool) (p : Nat → Bool) :
    Keeps 0x8110000000000420100608 s (State.dropWaiting s g low p) := by
  unfold State.dropWaiting
  extract_lets +onlyGivenNames -merge -useContext hit
  extract_lets +onlyGivenNames -merge -useContext gone
  extract_lets +onlyGivenNames -merge -useContext s1
  have keeps_s1 : Keeps 0x8110000000000420100608 s s1 := by
    unfold s1
    refine Keeps.then ?_ (State.seamMod_keeps _ _ _) rfl
    exact Keeps.refl _ _
  refine Keeps.fold ?_ (fun t1 y2 => ?_)
  · exact keeps_s1
  · refine Keeps.then ?_ (State.unjoin_keeps _ _ _) rfl
    exact Keeps.refl _ _

theorem State.join_keeps (s : State) (g : Nat) (m : Nat) : Keeps 0x8110000000000420100608 s (State.join s g m) := by
  unfold State.join
  extract_lets +onlyGivenNames -merge -useContext x
  extract_lets +onlyGivenNames -merge -useContext find
  split
  · extract_lets +onlyGivenNames -merge -useContext r
    extract_lets +onlyGivenNames -merge -useContext put
    extract_lets +onlyGivenNames -merge -useContext s1
    have keeps_s1 : Keeps 0x8110000000000420100608 s s1 := by
      unfold s1
      refine Keeps.then ?_ (State.seamMod_keeps _ _ _) rfl
      exact Keeps.refl _ _
    extract_lets +onlyGivenNames -merge -useContext s2
    have keeps_s2 : Keeps 0x8110000000000420100608 s s2 := by
      unfold s2
      refine Keeps.then ?_ (State.evIf_keeps _ _ _ _) (Sub.or rfl (Sub.blk .CPL (by first | rfl | exact blk_ite rfl rfl) rfl))
      refine Keeps.then ?_ (State.ccount_keeps _ _ _ _) rfl
      exact keeps_s1
    refine Keeps.then ?_ (State.cw_keeps _ _ _ _) (Sub.or rfl rfl)
    refine Keeps.then ?_ (State.unjoinedEnd_keeps _ _) rfl
    exact keeps_s2
  · exact Keeps.refl _ _

theorem State.seamOut_keeps (s : State) (g : Nat) (low : Bool) (it : Item) :
    Keeps 0x110000000008020100608 s (State.seamOut s g low it) := by
  unfold State.seamOut
  refine Keeps.then ?_ (State.coupled_keeps _ _ _ _) rfl
  exact Keeps.refl _ _

theorem State.seamPop_keeps (s : State) (g : Nat) (low : Bool) : Keeps 0x400000000 s (State.seamPop s g low) := by
  unfold State.seamPop
  refine Keeps.then ?_ (State.seamMod_keeps _ _ _) rfl
  exact Keeps.refl _ _

theorem State.seamAlone_keeps (low : Bool) (p1 : Nat) (p2 : Nat) (p3 : State) :
    Keeps 0x8110000000008420100608 p3 (State.seamAlone low p1 p2 p3) := by
  induction p1 generalizing low p2 p3 with
  | zero =>
    rw [State.seamAlone]
    exact Keeps.refl _ _
  | succ j ih =>
    rw [State.seamAlone]
    split
    · refine Keeps.ite ?_ ?_
      · exact Keeps.refl _ _
      · extract_lets +onlyGivenNames -merge -useContext restart
        extract_lets +onlyGivenNames -merge -useContext s1
        have keeps_s1 : Keeps 0x8110000000008420100608 p3 s1 := by
          unfold s1
          refine Keeps.ite ?_ ?_
          · refine Keeps.then ?_ (State.seamMod_keeps _ _ _) rfl
            exact Keeps.refl _ _
          · exact Keeps.refl _ _
        extract_lets +onlyGivenNames -merge -useContext s2
        have keeps_s2 : Keeps 0x8110000000008420100608 p3 s2 := by
          unfold s2
          refine Keeps.ite ?_ ?_
          · refine Keeps.then ?_ (State.regRestart_keeps _ _) rfl
            exact keeps_s1
          · exact keeps_s1
        refine Keeps.then ?_ (ih _ _ _) (Sub.refl _)
        refine Keeps.then ?_ (State.seamPop_keeps _ _ _) rfl
        refine Keeps.then ?_ (State.seamOut_keeps _ _ _ _) rfl
        exact keeps_s2
    · exact Keeps.refl _ _

theorem State.regLine_keeps (s : State) (g : Nat) (l : Line) (h : Line) : Keeps 0x8000000000000400000008 s (State.regLine s g l h) := by
  unfold State.regLine
  extract_lets +onlyGivenNames -merge -useContext x
  refine Keeps.ite ?_ ?_
  · exact Keeps.refl _ _
  · split
    · refine Keeps.ite ?_ ?_
      · refine Keeps.then ?_ (State.regUse_keeps _ _ _ _ _) rfl
        exact Keeps.refl _ _
      · exact Keeps.refl _ _
    · exact Keeps.refl _ _

theorem State.pairOut_keeps (s : State) (g : Nat) (l : Line) (h : Line) : Keeps 0x8110000000008420100608 s (State.pairOut s g l h) := by
  unfold State.pairOut
  extract_lets +onlyGivenNames -merge -useContext flag
  extract_lets +onlyGivenNames -merge -useContext s1
  have keeps_s1 : Keeps 0x8110000000008420100608 s s1 := by
    unfold s1
    refine Keeps.then ?_ (State.seamSettings_keeps _ _ _ _) rfl
    exact Keeps.refl _ _
  extract_lets +onlyGivenNames -merge -useContext s2
  have keeps_s2 : Keeps 0x8110000000008420100608 s s2 := by
    unfold s2
    refine Keeps.ite ?_ ?_
    · refine Keeps.then ?_ (State.seamMod_keeps _ _ _) rfl
      exact keeps_s1
    · exact keeps_s1
  extract_lets +onlyGivenNames -merge -useContext s3
  have keeps_s3 : Keeps 0x8110000000008420100608 s s3 := by
    unfold s3
    refine Keeps.ite ?_ ?_
    · refine Keeps.then ?_ (State.regRestart_keeps _ _) rfl
      exact keeps_s2
    · exact keeps_s2
  extract_lets +onlyGivenNames -merge -useContext q
  extract_lets +onlyGivenNames -merge -useContext s4
  have keeps_s4 : Keeps 0x8110000000008420100608 s s4 := by
    unfold s4
    refine Keeps.then ?_ (State.cw_keeps _ _ _ _) rfl
    refine Keeps.then ?_ (State.regLine_keeps _ _ _ _) rfl
    exact keeps_s3
  extract_lets +onlyGivenNames -merge -useContext s5
  have keeps_s5 : Keeps 0x8110000000008420100608 s s5 := by
    unfold s5
    refine Keeps.then ?_ (State.seamMod_keeps _ _ _) rfl
    refine Keeps.then ?_ (State.evIf_keeps _ _ _ _) (Sub.or rfl (Sub.blk .CPL (by first | rfl | exact blk_ite rfl rfl) rfl))
    exact keeps_s4
  extract_lets +onlyGivenNames -merge -useContext y
  refine Keeps.then ?_ (State.seamPop_keeps _ _ _) rfl
  refine Keeps.then ?_ (State.seamOut_keeps _ _ _ _) rfl
  refine Keeps.then ?_ (State.seamPop_keeps _ _ _) rfl
  refine Keeps.then ?_ (State.seamOut_keeps _ _ _ _) rfl
  exact keeps_s5

theorem State.seamDrain_keeps (p0 : Nat) (p1 : Nat) (p2 : State) : Keeps 0x8110000000008420100608 p2 (State.seamDrain p0 p1 p2) := by
  induction p0 generalizing p1 p2 with
  | zero =>
    rw [State.seamDrain]
    exact Keeps.refl _ _
  | succ j ih =>
    rw [State.seamDrain]
    split
    · refine Keeps.then ?_ (ih _ _) (Sub.refl _)
      refine Keeps.then ?_ (State.pairOut_keeps _ _ _ _) rfl
      refine Keeps.then ?_ (State.seamAlone_keeps _ _ _ _) rfl
      refine Keeps.then ?_ (State.seamAlone_keeps _ _ _ _) rfl
      exact Keeps.refl _ _
    · refine Keeps.then ?_ (State.seamAlone_keeps _ _ _ _) rfl
      refine Keeps.then ?_ (State.seamAlone_keeps _ _ _ _) rfl
      exact Keeps.refl _ _

theorem State.seamShow_keeps (s : State) (g : Nat) : Keeps 0x8000000000000400000008 s (State.seamShow s g) := by
  unfold State.seamShow
  extract_lets +onlyGivenNames -merge -useContext s1
  have keeps_s1 : Keeps 0x8000000000000400000008 s s1 := by
    unfold s1
    refine Keeps.then ?_ (State.seamMod_keeps _ _ _) rfl
    exact Keeps.refl _ _
  extract_lets +onlyGivenNames -merge -useContext x
  extract_lets +onlyGivenNames -merge -useContext waits
  refine Keeps.then ?_ (State.cw_keeps _ _ _ _) (Sub.or rfl rfl)
  exact keeps_s1

theorem State.seamHold_keeps (s : State) (g : Nat) (low : Bool) (e : SeamEntry) : Keeps 0x400000000 s (State.seamHold s g low e) := by
  unfold State.seamHold
  refine Keeps.then ?_ (State.seamMod_keeps _ _ _) rfl
  exact Keeps.refl _ _

theorem State.seamGap_keeps (s : State) (g : Nat) (low : Bool) (m : Gap) : Keeps 0x8110000000000420100608 s (State.seamGap s g low m) := by
  unfold State.seamGap
  extract_lets +onlyGivenNames -merge -useContext s1
  have keeps_s1 : Keeps 0x8110000000000420100608 s s1 := by
    unfold s1
    refine Keeps.then ?_ (State.seamHold_keeps _ _ _ _) rfl
    exact Keeps.refl _ _
  refine Keeps.ite ?_ ?_
  · refine Keeps.then ?_ (State.dropWaiting_keeps _ _ _ _) rfl
    exact keeps_s1
  · refine Keeps.ite ?_ ?_
    · exact keeps_s1
    · refine Keeps.then ?_ (State.seamMod_keeps _ _ _) rfl
      refine Keeps.then ?_ (State.dropWaiting_keeps _ _ _ _) rfl
      exact keeps_s1

theorem State.seamLine_keeps (s : State) (g : Nat) (low : Bool) (l : Line) :
    Keeps 0x8110000000000420100608 s (State.seamLine s g low l) := by
  unfold State.seamLine
  extract_lets +onlyGivenNames -merge -useContext m
  extract_lets +onlyGivenNames -merge -useContext s1
  have keeps_s1 : Keeps 0x8110000000000420100608 s s1 := by
    unfold s1
    refine Keeps.then ?_ (State.dropWaiting_keeps _ _ _ _) rfl
    exact Keeps.refl _ _
  extract_lets +onlyGivenNames -merge -useContext x
  extract_lets +onlyGivenNames -merge -useContext other
  extract_lets +onlyGivenNames -merge -useContext partner
  extract_lets +onlyGivenNames -merge -useContext passed
  extract_lets +onlyGivenNames -merge -useContext s2
  have keeps_s2 : Keeps 0x8110000000000420100608 s s2 := by
    unfold s2
    refine Keeps.ite ?_ ?_
    · refine Keeps.then ?_ (State.seamHold_keeps _ _ _ _) rfl
      exact keeps_s1
    · refine Keeps.ite ?_ ?_
      · refine Keeps.then ?_ (State.unjoin_keeps _ _ _) rfl
        refine Keeps.then ?_ (State.seamHold_keeps _ _ _ _) rfl
        exact keeps_s1
      · refine Keeps.ite ?_ ?_
        · refine Keeps.then ?_ (State.cev_keeps _ _ _) rfl
          refine Keeps.then ?_ (State.ccount_keeps _ _ _ _) rfl
          refine Keeps.then ?_ (State.seamHold_keeps _ _ _ _) rfl
          exact keeps_s1
        · refine Keeps.ite ?_ ?_
          · refine Keeps.then ?_ (State.join_keeps _ _ _) rfl
            refine Keeps.then ?_ (State.seamHold_keeps _ _ _ _) rfl
            exact keeps_s1
          · refine Keeps.ite ?_ ?_
            · refine Keeps.then ?_ (State.unjoin_keeps _ _ _) rfl
              refine Keeps.then ?_ (State.seamHold_keeps _ _ _ _) rfl
              exact keeps_s1
            · refine Keeps.then ?_ (State.seamHold_keeps _ _ _ _) rfl
              exact keeps_s1
  extract_lets +onlyGivenNames -merge -useContext wait
  extract_lets +onlyGivenNames -merge -useContext s3
  have keeps_s3 : Keeps 0x8110000000000420100608 s s3 := by
    unfold s3
    refine Keeps.then ?_ (State.dropWaiting_keeps _ _ _ _) rfl
    exact keeps_s2
  refine Keeps.then ?_ (State.seamMod_keeps _ _ _) rfl
  exact keeps_s3

theorem State.seamTake_keeps (s : State) (g : Nat) (low : Bool) (it : Item) :
    Keeps 0x8110000000000420100608 s (State.seamTake s g low it) := by
  unfold State.seamTake
  extract_lets +onlyGivenNames -merge -useContext d
  split
  · refine Keeps.ite ?_ ?_
    · extract_lets +onlyGivenNames -merge -useContext m
      extract_lets +onlyGivenNames -merge -useContext mk_
      extract_lets +onlyGivenNames -merge -useContext s1
      have keeps_s1 : Keeps 0x8110000000000420100608 s s1 := by
        unfold s1
        refine Keeps.then ?_ (State.seamMod_keeps _ _ _) rfl
        exact Keeps.refl _ _
      refine Keeps.then ?_ (State.seamLine_keeps _ _ _ _) rfl
      refine Keeps.then ?_ (State.seamGap_keeps _ _ _ _) rfl
      exact keeps_s1
    · refine Keeps.then ?_ (State.seamLine_keeps _ _ _ _) rfl
      exact Keeps.refl _ _
  · refine Keeps.then ?_ (State.seamGap_keeps _ _ _ _) rfl
    exact Keeps.refl _ _
  · refine Keeps.then ?_ (State.seamMod_keeps _ _ _) rfl
    exact Keeps.refl _ _
  · refine Keeps.then ?_ (State.seamHold_keeps _ _ _ _) rfl
    exact Keeps.refl _ _

theorem State.seamDeliver_keeps (s : State) (g : Nat) (low : Bool) : Keeps 0x8110000000008420100608 s (State.seamDeliver s g low) := by
  unfold State.seamDeliver
  refine Keeps.ite ?_ ?_
  · exact Keeps.refl _ _
  · extract_lets +onlyGivenNames -merge -useContext s1
    have keeps_s1 : Keeps 0x8110000000008420100608 s s1 := by
      unfold s1
      refine Keeps.then ?_ (State.seamDrain_keeps _ _ _) rfl
      exact Keeps.refl _ _
    extract_lets +onlyGivenNames -merge -useContext s2
    have keeps_s2 : Keeps 0x8110000000008420100608 s s2 := by
      unfold s2
      refine Keeps.ite ?_ ?_
      · exact keeps_s1
      · split
        · exact keeps_s1
        · rename_i w1 w2 w3 w4
          have k5 : Keeps 0x8110000000008420100608 s w3 := by
            refine Keeps.then ?_ (State.takeNext_keeps _ _ _ _ w4) rfl
            exact keeps_s1
          refine Keeps.then ?_ (State.seamShow_keeps _ _) rfl
          refine Keeps.then ?_ (State.seamDrain_keeps _ _ _) rfl
          refine Keeps.then ?_ (State.seamTake_keeps _ _ _ _) rfl
          exact k5
    exact keeps_s2

theorem execSeamLineDeliver_keeps (g : Nat) (low : Bool) (s : State) : KeepsO 0x8110000000008420100608 s (execSeamLineDeliver g low s) := by
  unfold execSeamLineDeliver
  refine KeepsO.next ?_
  refine Keeps.then ?_ (State.seamDeliver_keeps _ _ _) rfl
  exact Keeps.refl _ _

theorem State.regEnd_keeps (s : State) (g : Nat) : Keeps 0x8010000000000400100608 s (State.regEnd s g) := by
  unfold State.regEnd
  extract_lets +onlyGivenNames -merge -useContext x
  extract_lets +onlyGivenNames -merge -useContext w
  extract_lets +onlyGivenNames -merge -useContext r
  extract_lets +onlyGivenNames -merge -useContext det
  extract_lets +onlyGivenNames -merge -useContext least
  extract_lets +onlyGivenNames -merge -useContext flat
  extract_lets +onlyGivenNames -merge -useContext nx
  extract_lets +onlyGivenNames -merge -useContext ny
  extract_lets +onlyGivenNames -merge -useContext j
  extract_lets +onlyGivenNames -merge -useContext far
  extract_lets +onlyGivenNames -merge -useContext den
  extract_lets +onlyGivenNames -merge -useContext cd
  extract_lets +onlyGivenNames -merge -useContext md
  extract_lets +onlyGivenNames -merge -useContext s1
  have keeps_s1 : Keeps 0x8010000000000400100608 s s1 := by
    unfold s1
    refine Keeps.ite ?_ ?_
    · refine Keeps.then ?_ (State.ccount_keeps _ _ _ _) rfl
      refine Keeps.then ?_ (State.cev_keeps _ _ _) (Sub.or rfl rfl)
      exact Keeps.refl _ _
    · exact Keeps.refl _ _
  extract_lets +onlyGivenNames -merge -useContext s2
  have keeps_s2 : Keeps 0x8010000000000400100608 s s2 := by
    unfold s2
    refine Keeps.ite ?_ ?_
    · refine Keeps.then ?_ (State.cev_keeps _ _ _) (Sub.or rfl rfl)
      exact keeps_s1
    · exact keeps_s1
  extract_lets +onlyGivenNames -merge -useContext running
  extract_lets +onlyGivenNames -merge -useContext s3
  have keeps_s3 : Keeps 0x8010000000000400100608 s s3 := by
    unfold s3
    refine Keeps.ite ?_ ?_
    · exact keeps_s2
    · refine Keeps.then ?_ (State.seamMod_keeps _ _ _) rfl
      refine Keeps.then ?_ (State.add_keeps _ _ _ _) (Sub.or rfl (Sub.blk .CPL (by first | rfl | exact blk_ite rfl rfl) rfl))
      refine Keeps.then ?_ (State.cev_keeps _ _ _) (Sub.or rfl rfl)
      refine Keeps.then ?_ (State.cw_keeps _ _ _ _) (Sub.or rfl rfl)
      refine Keeps.then ?_ (State.cw_keeps _ _ _ _) (Sub.or rfl rfl)
      exact keeps_s2
  refine Keeps.then ?_ (State.cw_keeps _ _ _ _) (Sub.or rfl rfl)
  refine Keeps.then ?_ (State.cw_keeps _ _ _ _) (Sub.or rfl rfl)
  refine Keeps.then ?_ (State.seamMod_keeps _ _ _) rfl
  exact keeps_s3

theorem execRegWindowEnd_keeps (g : Nat) (s : State) : KeepsO 0x8010000000000400100608 s (execRegWindowEnd g s) := by
  unfold execRegWindowEnd
  refine KeepsO.next ?_
  refine Keeps.ite ?_ ?_
  · refine Keeps.then ?_ (State.regEnd_keeps _ _) rfl
    exact Keeps.refl _ _
  · exact Keeps.refl _ _

end Sys2Proof.Machine
end

