-- ==== Sys2Proof/Laws/KeepsPairCore.lean ====
section
/-! SUPPORT. Frames of the operations of Machine/PairCore.lean: what each may change, one lemma each. -/

namespace Sys2Proof.Machine

theorem State.pairMod_keeps (s : State) (f : Pair → Pair) : Keeps 0x2000000000000 s (State.pairMod s f) := by
  unfold State.pairMod
  refine Keeps.set_pair ?_ rfl
  exact Keeps.refl _ _

theorem State.digestPart_keeps (s : State) (g : Nat) (m : Nat) (item : Nat) (words : List Nat) :
    Keeps 0x2000000000000 s (State.digestPart s g m item words) := by
  unfold State.digestPart
  refine Keeps.ite ?_ ?_
  · refine Keeps.then ?_ (State.pairMod_keeps _ _) rfl
    exact Keeps.refl _ _
  · exact Keeps.refl _ _

theorem State.mirrorLine_keeps (s : State) (g : Nat) (l : Line) : Keeps 0x2000000000400 s (State.mirrorLine s g l) := by
  unfold State.mirrorLine
  refine Keeps.ite ?_ ?_
  · refine Keeps.ite ?_ ?_
    · refine Keeps.then ?_ (State.pairMod_keeps _ _) rfl
      exact Keeps.refl _ _
    · refine Keeps.then ?_ (State.emit_keeps _ _ _ _) rfl
      exact Keeps.refl _ _
  · exact Keeps.refl _ _

theorem State.sprDigest_keeps (s : State) (g : Nat) (m : Nat) (words : List Nat) (ahead : List Line) :
    Keeps 0x2000000000000 s (State.sprDigest s g m words ahead) := by
  unfold State.sprDigest
  extract_lets +onlyGivenNames -merge -useContext s1
  have keeps_s1 : Keeps 0x2000000000000 s s1 := by
    unfold s1
    refine Keeps.ite ?_ ?_
    · refine Keeps.then ?_ (State.pairMod_keeps _ _) rfl
      exact Keeps.refl _ _
    · exact Keeps.refl _ _
  refine Keeps.then ?_ (State.digestPart_keeps _ _ _ _ _) rfl
  exact keeps_s1

theorem State.snapSend_keeps (s : State) (g : Nat) (m : Nat) (words : List Nat) : Keeps 0x2000000000400 s (State.snapSend s g m words) := by
  unfold State.snapSend
  refine Keeps.ite ?_ ?_
  · extract_lets +onlyGivenNames -merge -useContext s1
    have keeps_s1 : Keeps 0x2000000000400 s s1 := by
      unfold s1
      refine Keeps.then ?_ (State.emit_keeps _ _ _ _) rfl
      exact Keeps.refl _ _
    extract_lets +onlyGivenNames -merge -useContext s2
    have keeps_s2 : Keeps 0x2000000000400 s s2 := by
      unfold s2
      refine Keeps.fold ?_ (fun t1 y2 => ?_)
      · exact keeps_s1
      · refine Keeps.then ?_ (State.emit_keeps _ _ _ _) rfl
        exact Keeps.refl _ _
    refine Keeps.then ?_ (State.pairMod_keeps _ _) rfl
    exact keeps_s2
  · exact Keeps.refl _ _

theorem State.resyncShow_keeps (s : State) : Keeps 0x2000000000000000008 s (State.resyncShow s) := by
  unfold State.resyncShow
  refine Keeps.then ?_ (State.wf_keeps _ _ _ _) (Sub.or rfl rfl)
  exact Keeps.refl _ _

theorem State.resyncNext_keeps (s : State) : Keeps 0x2000002000000000408 s (State.resyncNext s) := by
  unfold State.resyncNext
  refine Keeps.ite ?_ ?_
  · refine Keeps.then ?_ (State.resyncShow_keeps _) rfl
    exact Keeps.refl _ _
  · split
    · refine Keeps.then ?_ (State.resyncShow_keeps _) rfl
      exact Keeps.refl _ _
    · refine Keeps.then ?_ (State.resyncShow_keeps _) rfl
      refine Keeps.then ?_ (State.emit_keeps _ _ _ _) rfl
      refine Keeps.then ?_ (State.pairMod_keeps _ _) rfl
      exact Keeps.refl _ _

theorem State.resyncWant_keeps (s : State) (g : Nat) : Keeps 0x2000002000000000408 s (State.resyncWant s g) := by
  unfold State.resyncWant
  extract_lets +onlyGivenNames -merge -useContext on
  refine Keeps.then ?_ (State.resyncNext_keeps _) rfl
  refine Keeps.ite ?_ ?_
  · exact Keeps.refl _ _
  · refine Keeps.then ?_ (State.pairMod_keeps _ _) rfl
    exact Keeps.refl _ _

theorem State.digestBad_keeps (s : State) (g : Nat) : Keeps 0x12000002000000140608 s (State.digestBad s g) := by
  unfold State.digestBad
  extract_lets +onlyGivenNames -merge -useContext f
  refine Keeps.then ?_ (State.resyncWant_keeps _ _) rfl
  refine Keeps.then ?_ (State.pcode_keeps _ _) rfl
  refine Keeps.then ?_ (State.ev_keeps _ _ _) (Sub.or rfl rfl)
  refine Keeps.then ?_ (State.wf_keeps _ _ _ _) (Sub.or rfl (Sub.blk .PAI (by first | rfl | exact blk_ite rfl rfl) rfl))
  exact Keeps.refl _ _

theorem State.digestMeet_keeps (s : State) : Keeps 0x12000002000000140608 s (State.digestMeet s) := by
  unfold State.digestMeet
  refine Keeps.ite ?_ ?_
  · exact Keeps.refl _ _
  · extract_lets +onlyGivenNames -merge -useContext hit
    extract_lets +onlyGivenNames -merge -useContext x1
    extract_lets +onlyGivenNames -merge -useContext s1
    have keeps_s1 : Keeps 0x12000002000000140608 s s1 := by
      unfold s1
      refine Keeps.then ?_ (State.pairMod_keeps _ _) rfl
      exact Keeps.refl _ _
    refine Keeps.fold ?_ (fun t2 y3 => ?_)
    · exact keeps_s1
    · refine Keeps.ite ?_ ?_
      · exact Keeps.refl _ _
      · refine Keeps.then ?_ (State.digestBad_keeps _ _) rfl
        exact Keeps.refl _ _

theorem State.lblDigest_keeps (s : State) (g : Nat) (m : Nat) (comps : List Comp) (before : List (Nat × Nat × Nat)) (epoch : Nat) :
    Keeps 0x12000002000000140608 s (State.lblDigest s g m comps before epoch) := by
  unfold State.lblDigest
  refine Keeps.ite ?_ ?_
  · exact Keeps.refl _ _
  · extract_lets +onlyGivenNames -merge -useContext pend
    extract_lets +onlyGivenNames -merge -useContext words
    extract_lets +onlyGivenNames -merge -useContext s1
    have keeps_s1 : Keeps 0x12000002000000140608 s s1 := by
      unfold s1
      refine Keeps.then ?_ (State.pairMod_keeps _ _) rfl
      exact Keeps.refl _ _
    extract_lets +onlyGivenNames -merge -useContext s2
    have keeps_s2 : Keeps 0x12000002000000140608 s s2 := by
      unfold s2
      refine Keeps.then ?_ (State.snapSend_keeps _ _ _ _) rfl
      exact keeps_s1
    refine Keeps.ite ?_ ?_
    · extract_lets +onlyGivenNames -merge -useContext crc
      refine Keeps.then ?_ (State.digestMeet_keeps _) rfl
      refine Keeps.then ?_ (State.pairMod_keeps _ _) rfl
      refine Keeps.then ?_ (State.emit_keeps _ _ _ _) rfl
      exact keeps_s2
    · exact keeps_s2

end Sys2Proof.Machine
end

