-- ==== Sys2Proof/Laws/KeepsLbl.lean ====
section
/-! SUPPORT. Frames of the operations of Machine/Lbl.lean: what each may change, one lemma each. -/

namespace Sys2Proof.Machine

theorem State.lblMod_keeps (s : State) (g : Nat) (f : Lbl → Lbl) : Keeps 0x10000000000 s (State.lblMod s g f) := by
  unfold State.lblMod
  refine Keeps.set_lbl ?_ rfl
  exact Keeps.refl _ _

theorem State.lblCount_keeps (s : State) (g : Nat) (n : Nat) (k : Nat) : Keeps 0x40000000000000000000008 s (State.lblCount s g n k) := by
  unfold State.lblCount
  refine Keeps.then ?_ (State.add_keeps _ _ _ _) (Sub.or rfl (Sub.blk .LBL (by first | rfl | exact blk_ite rfl rfl) rfl))
  exact Keeps.refl _ _

theorem State.lblSend_keeps (s : State) (g : Nat) (it : Item) : Keeps 0x110000000000020100608 s (State.lblSend s g it) := by
  unfold State.lblSend
  refine Keeps.then ?_ (State.pass_keeps _ _ _ _ _) rfl
  exact Keeps.refl _ _

theorem State.lblShow_keeps (s : State) (g : Nat) : Keeps 0x40000000000000000000008 s (State.lblShow s g) := by
  unfold State.lblShow
  refine Keeps.then ?_ (State.wf_keeps _ _ _ _) (Sub.or rfl rfl)
  exact Keeps.refl _ _

theorem State.lblClose_keeps (s : State) (g : Nat) (c : Comp) (close : Nat) (flags : Nat) (forced : Nat) :
    Keeps 0x40110000000010020100608 s (State.lblClose s g c close flags forced) := by
  unfold State.lblClose
  extract_lets +onlyGivenNames -merge -useContext f
  refine Keeps.then ?_ (State.lblSend_keeps _ _ _) rfl
  refine Keeps.then ?_ (State.lblCount_keeps _ _ _ _) rfl
  refine Keeps.then ?_ (State.lblMod_keeps _ _ _) rfl
  exact Keeps.refl _ _

theorem State.lblCloseAll_keeps (s : State) (g : Nat) (close : Nat) (flags : Comp → Nat) (forced : Nat) :
    Keeps 0x40110000000010020100608 s (State.lblCloseAll s g close flags forced) := by
  unfold State.lblCloseAll
  refine Keeps.fold ?_ (fun t1 y2 => ?_)
  · exact Keeps.refl _ _
  · refine Keeps.then ?_ (State.lblClose_keeps _ _ _ _ _ _) rfl
    exact Keeps.refl _ _

theorem State.lblCut_keeps (s : State) (g : Nat) (m : Nat) : Keeps 0x40110000000010020100608 s (State.lblCut s g m) := by
  unfold State.lblCut
  extract_lets +onlyGivenNames -merge -useContext x
  refine Keeps.ite ?_ ?_
  · exact Keeps.refl _ _
  · extract_lets +onlyGivenNames -merge -useContext s1
    have keeps_s1 : Keeps 0x40110000000010020100608 s s1 := by
      unfold s1
      refine Keeps.fold ?_ (fun t1 y2 => ?_)
      · exact Keeps.refl _ _
      · refine Keeps.then ?_ (State.lblSend_keeps _ _ _) rfl
        refine Keeps.then ?_ (State.lblCount_keeps _ _ _ _) rfl
        exact Keeps.refl _ _
    refine Keeps.then ?_ (State.ev_keeps _ _ _) (Sub.or rfl rfl)
    refine Keeps.then ?_ (State.lblMod_keeps _ _ _) rfl
    exact keeps_s1

theorem State.lblRoom_keeps (s : State) (g : Nat) (m : Nat) : Keeps 0x40110000000010020100608 s (State.lblRoom s g m) := by
  unfold State.lblRoom
  refine Keeps.ite ?_ ?_
  · exact Keeps.refl _ _
  · split
    · refine Keeps.then ?_ (State.ev_keeps _ _ _) (Sub.or rfl rfl)
      refine Keeps.then ?_ (State.lblCount_keeps _ _ _ _) rfl
      refine Keeps.then ?_ (State.lblClose_keeps _ _ _ _ _ _) rfl
      exact Keeps.refl _ _
    · exact Keeps.refl _ _

theorem State.lblRun_keeps (s : State) (g : Nat) (m : Nat) (a : Nat) (b : Nat) (f : Feat) :
    Keeps 0x40110000000010020100608 s (State.lblRun s g m a b f).1 := by
  unfold State.lblRun
  extract_lets +onlyGivenNames -merge -useContext x
  extract_lets +onlyGivenNames -merge -useContext touch
  extract_lets +onlyGivenNames -merge -useContext mine
  clear_value mine
  split
  · extract_lets +onlyGivenNames -merge -useContext s1
    have keeps_s1 : Keeps 0x40110000000010020100608 s s1 := by
      unfold s1
      refine Keeps.then ?_ (State.lblRoom_keeps _ _ _) rfl
      exact Keeps.refl _ _
    extract_lets +onlyGivenNames -merge -useContext n
    dsimp only
    refine Keeps.then ?_ (State.lblMod_keeps _ _ _) rfl
    exact keeps_s1
  · extract_lets +onlyGivenNames -merge -useContext u
    extract_lets +onlyGivenNames -merge -useContext v
    extract_lets +onlyGivenNames -merge -useContext gone
    dsimp only
    refine Keeps.then ?_ (State.lblMod_keeps _ _ _) rfl
    exact Keeps.refl _ _

theorem State.lblEdge_keeps (s : State) (g : Nat) (m : Nat) (label : Nat) (a : Nat) (b : Nat) (low : Bool) (alone : Bool) :
    Keeps 0x40110000000010020100608 s (State.lblEdge s g m label a b low alone) := by
  unfold State.lblEdge
  extract_lets +onlyGivenNames -merge -useContext s1
  have keeps_s1 : Keeps 0x40110000000010020100608 s s1 := by
    unfold s1
    refine Keeps.then ?_ (State.lblMod_keeps _ _ _) rfl
    exact Keeps.refl _ _
  refine Keeps.ite ?_ ?_
  · exact keeps_s1
  · refine Keeps.then ?_ (State.lblSend_keeps _ _ _) rfl
    refine Keeps.then ?_ (State.lblCount_keeps _ _ _ _) rfl
    exact keeps_s1

theorem State.lblAdvance_keeps (s : State) (g : Nat) (m : Nat) : Keeps 0x40110000000000020100608 s (State.lblAdvance s g m) := by
  unfold State.lblAdvance
  refine Keeps.ite ?_ ?_
  · exact Keeps.refl _ _
  · refine Keeps.then ?_ (State.lblSend_keeps _ _ _) rfl
    refine Keeps.then ?_ (State.wf64_keeps _ _ _ _) (Sub.or rfl rfl)
    exact Keeps.refl _ _

theorem State.lblEdges_keeps (s : State) (g : Nat) (l : Line) (runs : List (Nat × Nat × Nat)) :
    Keeps 0x40110000000010020100608 s (State.lblEdges s g l runs) := by
  unfold State.lblEdges
  split
  · exact Keeps.refl _ _
  · extract_lets +onlyGivenNames -merge -useContext w
    refine Keeps.fold ?_ (fun t1 y2 => ?_)
    · exact Keeps.refl _ _
    · extract_lets +onlyGivenNames -merge -useContext t1_2
      have keeps_t1_2 : Keeps 0x40110000000010020100608 t1 t1_2 := by
        unfold t1_2
        refine Keeps.ite ?_ ?_
        · refine Keeps.then ?_ (State.lblEdge_keeps _ _ _ _ _ _ _ _) rfl
          exact Keeps.refl _ _
        · exact Keeps.refl _ _
      refine Keeps.ite ?_ ?_
      · refine Keeps.then ?_ (State.lblEdge_keeps _ _ _ _ _ _ _ _) rfl
        exact keeps_t1_2
      · exact keeps_t1_2

theorem State.lblLine_keeps (s : State) (g : Nat) (l : Line) : Keeps 0xFFFFFFFF0002010020340618 s (State.lblLine s g l) := by
  unfold State.lblLine
  extract_lets +onlyGivenNames -merge -useContext m
  extract_lets +onlyGivenNames -merge -useContext s1
  have keeps_s1 : Keeps 0xFFFFFFFF0002010020340618 s s1 := by
    unfold s1
    refine Keeps.then ?_ (State.lblCut_keeps _ _ _) rfl
    refine Keeps.then ?_ (State.armedAt_keeps _ _ _ _) rfl
    exact Keeps.refl _ _
  extract_lets +onlyGivenNames -merge -useContext s2
  have keeps_s2 : Keeps 0xFFFFFFFF0002010020340618 s s2 := by
    unfold s2
    refine Keeps.ite ?_ ?_
    · refine Keeps.then ?_ (State.lblMod_keeps _ _ _) rfl
      exact keeps_s1
    · exact keeps_s1
  extract_lets +onlyGivenNames -merge -useContext r
  have keeps_r : Keeps 0xFFFFFFFF0002010020340618 s r.1 := by
    unfold r
    refine Keeps.fold_fst ?_ (fun t1 y2 => ?_)
    · dsimp only
      exact keeps_s2
    · extract_lets +onlyGivenNames -merge -useContext x
      have keeps_x : Keeps 0xFFFFFFFF0002010020340618 t1.fst x.1 := by
        unfold x
        refine Keeps.then ?_ (State.lblRun_keeps _ _ _ _ _ _) rfl
        exact Keeps.refl _ _
      dsimp only
      exact keeps_x
  extract_lets +onlyGivenNames -merge -useContext s3
  have keeps_s3 : Keeps 0xFFFFFFFF0002010020340618 s s3 := by
    unfold s3
    refine Keeps.then ?_ (State.lblEdges_keeps _ _ _ _) rfl
    exact keeps_r
  extract_lets +onlyGivenNames -merge -useContext k
  extract_lets +onlyGivenNames -merge -useContext s4
  have keeps_s4 : Keeps 0xFFFFFFFF0002010020340618 s s4 := by
    unfold s4
    refine Keeps.fold ?_ (fun t3 y4 => ?_)
    · exact keeps_s3
    · refine Keeps.then ?_ (State.lblClose_keeps _ _ _ _ _ _) rfl
      exact Keeps.refl _ _
  extract_lets +onlyGivenNames -merge -useContext s5
  have keeps_s5 : Keeps 0xFFFFFFFF0002010020340618 s s5 := by
    unfold s5
    refine Keeps.then ?_ (State.lblShow_keeps _ _) rfl
    refine Keeps.then ?_ (State.lblAdvance_keeps _ _ _) rfl
    refine Keeps.then ?_ (State.lblMod_keeps _ _ _) rfl
    exact keeps_s4
  refine Keeps.then ?_ (State.lblDigest_keeps _ _ _ _ _ _) rfl
  exact keeps_s5

theorem State.lblEnd_keeps (s : State) (g : Nat) (m : Gap) : Keeps 0x40110000000010020100608 s (State.lblEnd s g m) := by
  unfold State.lblEnd
  extract_lets +onlyGivenNames -merge -useContext x
  extract_lets +onlyGivenNames -merge -useContext flags
  extract_lets +onlyGivenNames -merge -useContext t
  have keeps_t : Keeps 0x40110000000010020100608 s t := by
    unfold t
    refine Keeps.then ?_ (State.lblCloseAll_keeps _ _ _ _ _) rfl
    exact Keeps.refl _ _
  refine Keeps.then ?_ (State.lblShow_keeps _ _) rfl
  refine Keeps.then ?_ (State.lblMod_keeps _ _ _) rfl
  exact keeps_t

theorem State.lblGap_keeps (s : State) (g : Nat) (m : Gap) : Keeps 0x40110000000010020100608 s (State.lblGap s g m) := by
  unfold State.lblGap
  refine Keeps.ite ?_ ?_
  · refine Keeps.then ?_ (State.lblEnd_keeps _ _ _) rfl
    exact Keeps.refl _ _
  · extract_lets +onlyGivenNames -merge -useContext s1
    extract_lets +onlyGivenNames -merge -useContext x1
    extract_lets +onlyGivenNames -merge -useContext x2
    have keeps_x2 : Keeps 0x40110000000010020100608 s x2 := by
      unfold x2
      refine Keeps.then ?_ (State.lblCloseAll_keeps _ _ _ _ _) rfl
      exact Keeps.refl _ _
    extract_lets +onlyGivenNames -merge -useContext x3
    have keeps_x3 : Keeps 0x40110000000010020100608 s x3 := by
      unfold x3
      refine Keeps.ite ?_ ?_
      · exact Keeps.refl _ _
      · refine Keeps.then ?_ (State.lblMod_keeps _ _ _) rfl
        refine Keeps.then ?_ (State.evIf_keeps _ _ _ _) (Sub.or rfl rfl)
        refine Keeps.then ?_ (State.lblCount_keeps _ _ _ _) rfl
        exact keeps_x2
    extract_lets +onlyGivenNames -merge -useContext s2
    have keeps_s2 : Keeps 0x40110000000010020100608 s s2 := by
      unfold s2
      refine Keeps.then ?_ (State.lblSend_keeps _ _ _) rfl
      exact keeps_x3
    refine Keeps.then ?_ (State.lblShow_keeps _ _) rfl
    refine Keeps.ite ?_ ?_
    · refine Keeps.then ?_ (State.lblAdvance_keeps _ _ _) rfl
      exact keeps_s2
    · exact keeps_s2

theorem State.lagShow_keeps (s : State) : Keeps 0x80000000000000000000008 s (State.lagShow s) := by
  unfold State.lagShow
  extract_lets +onlyGivenNames -merge -useContext m
  refine Keeps.then ?_ (State.wf_keeps _ _ _ _) (Sub.or rfl rfl)
  refine Keeps.then ?_ (State.wf_keeps _ _ _ _) (Sub.or rfl rfl)
  exact Keeps.refl _ _

theorem State.lblRejoin_keeps (s : State) (g : Nat) (m : Nat) : Keeps 0xC0010000000030000100608 s (State.lblRejoin s g m) := by
  unfold State.lblRejoin
  extract_lets +onlyGivenNames -merge -useContext st
  extract_lets +onlyGivenNames -merge -useContext s1
  extract_lets +onlyGivenNames -merge -useContext x1
  have keeps_x1 : Keeps 0xC0010000000030000100608 s x1 := by
    unfold x1
    refine Keeps.set_dbm ?_ rfl
    exact Keeps.refl _ _
  refine Keeps.then ?_ (State.lblMod_keeps _ _ _) rfl
  refine Keeps.then ?_ (State.ev_keeps _ _ _) (Sub.or rfl rfl)
  refine Keeps.then ?_ (State.wf64_keeps _ _ _ _) (Sub.or rfl rfl)
  refine Keeps.then ?_ (State.wf_keeps _ _ _ _) (Sub.or rfl rfl)
  refine Keeps.then ?_ (State.lagShow_keeps _) rfl
  exact keeps_x1

theorem State.lblDiscard_keeps (s : State) (g : Nat) : Keeps 0x40010000000000000100608 s (State.lblDiscard s g) := by
  unfold State.lblDiscard
  refine Keeps.then ?_ (State.ev_keeps _ _ _) (Sub.or rfl rfl)
  refine Keeps.then ?_ (State.lblCount_keeps _ _ _ _) rfl
  exact Keeps.refl _ _

theorem State.lblTake_keeps (s : State) (g : Nat) (it : Item) : Keeps 0xFFFFFFFF0002030020340618 s (State.lblTake s g it) := by
  unfold State.lblTake
  extract_lets +onlyGivenNames -merge -useContext next
  split
  · refine Keeps.ite ?_ ?_
    · refine Keeps.ite ?_ ?_
      · refine Keeps.then ?_ (State.lblDiscard_keeps _ _) rfl
        exact Keeps.refl _ _
      · refine Keeps.then ?_ (State.lblLine_keeps _ _ _) rfl
        refine Keeps.then ?_ (State.lblRejoin_keeps _ _ _) rfl
        exact Keeps.refl _ _
    · extract_lets +onlyGivenNames -merge -useContext x
      refine Keeps.ite ?_ ?_
      · extract_lets +onlyGivenNames -merge -useContext m
        extract_lets +onlyGivenNames -merge -useContext k
        refine Keeps.then ?_ (State.lblLine_keeps _ _ _) rfl
        refine Keeps.then ?_ (State.lblGap_keeps _ _ _) rfl
        refine Keeps.then ?_ (State.lblMod_keeps _ _ _) rfl
        exact Keeps.refl _ _
      · refine Keeps.then ?_ (State.lblLine_keeps _ _ _) rfl
        exact Keeps.refl _ _
  · refine Keeps.ite ?_ ?_
    · refine Keeps.ite ?_ ?_
      · refine Keeps.then ?_ (State.lblDiscard_keeps _ _) rfl
        exact Keeps.refl _ _
      · refine Keeps.then ?_ (State.lblGap_keeps _ _ _) rfl
        refine Keeps.then ?_ (State.lblRejoin_keeps _ _ _) rfl
        exact Keeps.refl _ _
    · refine Keeps.then ?_ (State.lblGap_keeps _ _ _) rfl
      exact Keeps.refl _ _
  · refine Keeps.then ?_ (State.lblMod_keeps _ _ _) rfl
    exact Keeps.refl _ _
  · extract_lets +onlyGivenNames -merge -useContext t
    have keeps_t : Keeps 0xFFFFFFFF0002030020340618 s t := by
      unfold t
      refine Keeps.then ?_ (State.lblCloseAll_keeps _ _ _ _ _) rfl
      exact Keeps.refl _ _
    refine Keeps.then ?_ (State.lblShow_keeps _ _) rfl
    refine Keeps.then ?_ (State.lblSend_keeps _ _ _) rfl
    refine Keeps.then ?_ (State.wf64_keeps _ _ _ _) rfl
    refine Keeps.then ?_ (State.lblMod_keeps _ _ _) rfl
    exact keeps_t
  · refine Keeps.then ?_ (State.lblSend_keeps _ _ _) rfl
    exact Keeps.refl _ _

theorem execLblLine_keeps (g : Nat) (s : State) : KeepsO 0xFFFFFFFF0002030020340618 s (execLblLine g s) := by
  unfold execLblLine
  refine KeepsO.next ?_
  split
  · exact Keeps.refl _ _
  · rename_i w1 w2 w3 w4
    have k5 : Keeps 0xFFFFFFFF0002030020340618 s w3 := by
      refine Keeps.then ?_ (State.takeNext_keeps _ _ _ _ w4) rfl
      exact Keeps.refl _ _
    refine Keeps.ite ?_ ?_
    · exact k5
    · refine Keeps.then ?_ (State.lblTake_keeps _ _ _) rfl
      exact k5

end Sys2Proof.Machine
end

