-- ==== Sys2Proof/Laws/KeepsMem.lean ====
section
/-! SUPPORT. Frames of the operations of Machine/Mem.lean: what each may change, one lemma each. -/

namespace Sys2Proof.Machine

theorem State.setPoison_keeps (s : State) (w : Nat) (on : Bool) : Keeps 0x2000000 s (State.setPoison s w on) := by
  unfold State.setPoison
  refine Keeps.set_poison ?_ rfl
  exact Keeps.refl _ _

theorem State.countRmw_keeps (s : State) (a : Nat) (n : Nat) : Keeps 0x200000000000000000008 s (State.countRmw s a n) := by
  unfold State.countRmw
  refine Keeps.ite ?_ ?_
  · exact Keeps.refl _ _
  · refine Keeps.fold ?_ (fun t1 y2 => ?_)
    · exact Keeps.refl _ _
    · refine Keeps.ite ?_ ?_
      · exact Keeps.refl _ _
      · refine Keeps.then ?_ (State.inc_keeps _ _ _) (Sub.or rfl rfl)
        exact Keeps.refl _ _

theorem State.dramPut_keeps (s : State) (a : Nat) (l : List Byte) (poison : Bool) :
    Keeps 0x200000008000003000008 s (State.dramPut s a l poison) := by
  unfold State.dramPut
  extract_lets +onlyGivenNames -merge -useContext n
  extract_lets +onlyGivenNames -merge -useContext s1
  have keeps_s1 : Keeps 0x200000008000003000008 s s1 := by
    unfold s1
    refine Keeps.set_mem_stale ?_ rfl ?_
    · exact Keeps.refl _ _
    · exact fun h => Memory.wf_writeBytes _ h _
  extract_lets +onlyGivenNames -merge -useContext s2
  have keeps_s2 : Keeps 0x200000008000003000008 s s2 := by
    unfold s2
    refine Keeps.fold ?_ (fun t1 y2 => ?_)
    · exact keeps_s1
    · refine Keeps.ite ?_ ?_
      · refine Keeps.then ?_ (State.setPoison_keeps _ _ _) rfl
        exact Keeps.refl _ _
      · refine Keeps.ite ?_ ?_
        · refine Keeps.then ?_ (State.setPoison_keeps _ _ _) rfl
          exact Keeps.refl _ _
        · refine Keeps.ite ?_ ?_
          · refine Keeps.then ?_ (State.setPoison_keeps _ _ _) rfl
            exact Keeps.refl _ _
          · exact Keeps.refl _ _
  refine Keeps.then ?_ (State.countRmw_keeps _ _ _) rfl
  exact keeps_s2

theorem State.dramWrite_keeps (s : State) (m : Nat) (a : Nat) (l : List Byte) (poison : Bool) :
    Keeps 0x200010008000003040608 s (State.dramWrite s m a l poison) := by
  unfold State.dramWrite
  refine Keeps.ite ?_ ?_
  · refine Keeps.then ?_ (State.dramPut_keeps _ _ _ _) rfl
    exact Keeps.refl _ _
  · extract_lets +onlyGivenNames -merge -useContext s1
    have keeps_s1 : Keeps 0x200010008000003040608 s s1 := by
      unfold s1
      refine Keeps.fold ?_ (fun t1 y2 => ?_)
      · exact Keeps.refl _ _
      · refine Keeps.ite ?_ ?_
        · refine Keeps.then ?_ (State.dramPut_keeps _ _ _ _) rfl
          exact Keeps.refl _ _
        · exact Keeps.refl _ _
    split
    · refine Keeps.then ?_ (State.gcode_keeps _ _ _ _) rfl
      exact keeps_s1
    · exact keeps_s1

theorem State.dramRead_keeps (s : State) (m : Nat) (a : Nat) (n : Nat) : Keeps 0x10000000000040608 s (State.dramRead s m a n).2.2 := by
  unfold State.dramRead
  extract_lets +onlyGivenNames -merge -useContext l
  extract_lets +onlyGivenNames -merge -useContext s1
  have keeps_s1 : Keeps 0x10000000000040608 s s1 := by
    unfold s1
    split
    · refine Keeps.then ?_ (State.gcode_keeps _ _ _ _) rfl
      exact Keeps.refl _ _
    · exact Keeps.refl _ _
  dsimp only
  exact keeps_s1

end Sys2Proof.Machine
end

