-- ==== Sys2Proof/Laws/KeepsStreams.lean ====
section
/-! SUPPORT. Frames of the operations of Machine/Streams.lean: what each may change, one lemma each. -/

namespace Sys2Proof.Machine

theorem State.strmMod_keeps (s : State) (k : Nat) (f : Stream → Stream) : Keeps 0x20000000000 s (State.strmMod s k f) := by
  unfold State.strmMod
  refine Keeps.set_dbm ?_ rfl
  exact Keeps.refl _ _

theorem State.addRec_keeps (s : State) (k : Nat) (r : Rec) : Keeps 0x20000000000 s (State.addRec s k r) := by
  unfold State.addRec
  refine Keeps.then ?_ (State.strmMod_keeps _ _ _) rfl
  exact Keeps.refl _ _

theorem State.recoveryGap_keeps (s : State) (cause : Nat) (car : Nat) : Keeps 0x20000000000 s (State.recoveryGap s cause car) := by
  unfold State.recoveryGap
  refine Keeps.then ?_ (State.addRec_keeps _ _ _) rfl
  exact Keeps.refl _ _

end Sys2Proof.Machine
end

