-- ==== Sys2Proof/Laws/KeepsTimetable.lean ====
section
/-! SUPPORT. Frames of the operations of Machine/Timetable.lean: what each may change, one lemma each. -/

namespace Sys2Proof.Machine

theorem State.tmtSet_keeps (s : State) (f : Tmt → Tmt) : Keeps 0x400000 s (State.tmtSet s f) := by
  unfold State.tmtSet
  refine Keeps.set_tmt ?_ rfl
  exact Keeps.refl _ _

theorem State.toTime_keeps (s : State) (n : Nat) : Keeps 0x10400000000000500608 s (State.toTime s n) := by
  unfold State.toTime
  extract_lets +onlyGivenNames -merge -useContext was
  extract_lets +onlyGivenNames -merge -useContext s1
  have keeps_s1 : Keeps 0x10400000000000500608 s s1 := by
    unfold s1
    refine Keeps.then ?_ (State.wf_keeps _ _ _ _) rfl
    exact Keeps.refl _ _
  extract_lets +onlyGivenNames -merge -useContext s2
  have keeps_s2 : Keeps 0x10400000000000500608 s s2 := by
    unfold s2
    refine Keeps.ite ?_ ?_
    · exact keeps_s1
    · refine Keeps.then ?_ (State.tmtSet_keeps _ _) rfl
      exact keeps_s1
  refine Keeps.then ?_ (State.evIf_keeps _ _ _ _) rfl
  exact keeps_s2

theorem State.setRate_keeps (s : State) (r : Int) : Keeps 0x400000000000400008 s (State.setRate s r) := by
  unfold State.setRate
  refine Keeps.then ?_ (State.wf_keeps _ _ _ _) (Sub.or rfl rfl)
  refine Keeps.then ?_ (State.tmtSet_keeps _ _) rfl
  exact Keeps.refl _ _

theorem State.holdover_keeps (s : State) : Keeps 0x10410000000000540608 s (State.holdover s) := by
  unfold State.holdover
  refine Keeps.ite ?_ ?_
  · exact Keeps.refl _ _
  · extract_lets +onlyGivenNames -merge -useContext s1
    have keeps_s1 : Keeps 0x10410000000000540608 s s1 := by
      unfold s1
      refine Keeps.then ?_ (State.setRate_keeps _ _) rfl
      exact Keeps.refl _ _
    extract_lets +onlyGivenNames -merge -useContext s2
    have keeps_s2 : Keeps 0x10410000000000540608 s s2 := by
      unfold s2
      refine Keeps.then ?_ (State.wf_keeps _ _ _ _) (Sub.or rfl rfl)
      refine Keeps.then ?_ (State.tmtSet_keeps _ _) rfl
      exact keeps_s1
    refine Keeps.then ?_ (State.ev_keeps _ _ _) (Sub.or rfl rfl)
    refine Keeps.then ?_ (State.gcode_keeps _ _ _ _) rfl
    refine Keeps.then ?_ (State.toTime_keeps _ _) rfl
    exact keeps_s2

theorem State.leaveHoldover_keeps (s : State) (n : Nat) : Keeps 0x10400000000000500608 s (State.leaveHoldover s n) := by
  unfold State.leaveHoldover
  refine Keeps.then ?_ (State.wf_keeps _ _ _ _) rfl
  refine Keeps.then ?_ (State.toTime_keeps _ _) rfl
  exact Keeps.refl _ _

theorem State.stepBy_keeps (s : State) (d : Int) : Keeps 0x10400000000000500608 s (State.stepBy s d) := by
  unfold State.stepBy
  extract_lets +onlyGivenNames -merge -useContext mv
  extract_lets +onlyGivenNames -merge -useContext now'
  extract_lets +onlyGivenNames -merge -useContext s1
  have keeps_s1 : Keeps 0x10400000000000500608 s s1 := by
    unfold s1
    refine Keeps.then ?_ (State.tmtSet_keeps _ _) rfl
    exact Keeps.refl _ _
  refine Keeps.then ?_ (State.ev_keeps _ _ _) rfl
  exact keeps_s1

theorem State.servo_keeps (s : State) (o : Int) : Keeps 0x1041000000000054060A s (State.servo s o) := by
  unfold State.servo
  extract_lets +onlyGivenNames -merge -useContext s1
  have keeps_s1 : Keeps 0x1041000000000054060A s s1 := by
    unfold s1
    refine Keeps.then ?_ (State.wf64_keeps _ _ _ _) (Sub.or rfl rfl)
    exact Keeps.refl _ _
  extract_lets +onlyGivenNames -merge -useContext s2
  have keeps_s2 : Keeps 0x1041000000000054060A s s2 := by
    unfold s2
    refine Keeps.ite ?_ ?_
    · refine Keeps.then ?_ (State.wf64_keeps _ _ _ _) (Sub.or rfl rfl)
      exact keeps_s1
    · exact keeps_s1
  extract_lets +onlyGivenNames -merge -useContext st
  refine Keeps.ite ?_ ?_
  · extract_lets +onlyGivenNames -merge -useContext r
    extract_lets +onlyGivenNames -merge -useContext s3
    have keeps_s3 : Keeps 0x1041000000000054060A s s3 := by
      unfold s3
      refine Keeps.then ?_ (State.tmtSet_keeps _ _) rfl
      refine Keeps.then ?_ (State.setRate_keeps _ _) rfl
      refine Keeps.then ?_ (State.drawn_keeps _) rfl
      exact keeps_s2
    refine Keeps.then ?_ (State.leaveHoldover_keeps _ _) rfl
    exact keeps_s3
  · refine Keeps.ite ?_ ?_
    · refine Keeps.then ?_ (State.toTime_keeps _ _) rfl
      refine Keeps.then ?_ (State.tmtSet_keeps _ _) rfl
      exact keeps_s2
    · refine Keeps.ite ?_ ?_
      · refine Keeps.then ?_ (State.ev_keeps _ _ _) (Sub.or rfl rfl)
        refine Keeps.then ?_ (State.tmtSet_keeps _ _) rfl
        exact keeps_s2
      · extract_lets +onlyGivenNames -merge -useContext s3
        have keeps_s3 : Keeps 0x1041000000000054060A s s3 := by
          unfold s3
          refine Keeps.then ?_ (State.wf_keeps _ _ _ _) (Sub.or rfl rfl)
          refine Keeps.then ?_ (State.wf64_keeps _ _ _ _) (Sub.or rfl rfl)
          exact keeps_s2
        extract_lets +onlyGivenNames -merge -useContext s4
        have keeps_s4 : Keeps 0x1041000000000054060A s s4 := by
          unfold s4
          refine Keeps.then ?_ (State.ev_keeps _ _ _) (Sub.or rfl rfl)
          refine Keeps.then ?_ (State.gcode_keeps _ _ _ _) rfl
          refine Keeps.then ?_ (State.inc_keeps _ _ _) (Sub.or rfl rfl)
          exact keeps_s3
        refine Keeps.ite ?_ ?_
        · refine Keeps.then ?_ (State.toTime_keeps _ _) rfl
          exact keeps_s4
        · exact keeps_s4

theorem State.ticks_keeps (s : State) (n : Nat) : Keeps 0x10400000000000D00608 s (State.ticks s n) := by
  unfold State.ticks
  refine Keeps.ite ?_ ?_
  · exact Keeps.refl _ _
  · extract_lets +onlyGivenNames -merge -useContext aw
    extract_lets +onlyGivenNames -merge -useContext s1
    have keeps_s1 : Keeps 0x10400000000000D00608 s s1 := by
      unfold s1
      refine Keeps.then ?_ (State.tmtSet_keeps _ _) rfl
      exact Keeps.refl _ _
    extract_lets +onlyGivenNames -merge -useContext s2
    have keeps_s2 : Keeps 0x10400000000000D00608 s s2 := by
      unfold s2
      split
      · exact keeps_s1
      · refine Keeps.then ?_ (State.tmtSet_keeps _ _) rfl
        refine Keeps.then ?_ (State.stepBy_keeps _ _) rfl
        exact keeps_s1
    refine Keeps.ite ?_ ?_
    · refine Keeps.then ?_ (State.wf_keeps _ _ _ _) (Sub.or rfl rfl)
      exact keeps_s2
    · exact keeps_s2

theorem State.actStepAccept_keeps (s : State) : Keeps 0x10400000000000500608 s (State.actStepAccept s) := by
  unfold State.actStepAccept
  refine Keeps.ite ?_ ?_
  · extract_lets +onlyGivenNames -merge -useContext s1
    have keeps_s1 : Keeps 0x10400000000000500608 s s1 := by
      unfold s1
      refine Keeps.then ?_ (State.wf_keeps _ _ _ _) (Sub.or rfl rfl)
      refine Keeps.then ?_ (State.tmtSet_keeps _ _) rfl
      exact Keeps.refl _ _
    refine Keeps.ite ?_ ?_
    · refine Keeps.then ?_ (State.leaveHoldover_keeps _ _) rfl
      exact keeps_s1
    · exact keeps_s1
  · exact Keeps.refl _ _

theorem State.actTimeSet_keeps (s : State) : Keeps 0x10410000000000540608 s (State.actTimeSet s) := by
  unfold State.actTimeSet
  extract_lets +onlyGivenNames -merge -useContext src
  refine Keeps.ite ?_ ?_
  · refine Keeps.then ?_ (State.gcode_keeps _ _ _ _) rfl
    refine Keeps.then ?_ (State.inc_keeps _ _ _) (Sub.or rfl rfl)
    exact Keeps.refl _ _
  · extract_lets +onlyGivenNames -merge -useContext s1
    have keeps_s1 : Keeps 0x10410000000000540608 s s1 := by
      unfold s1
      refine Keeps.then ?_ (State.tmtSet_keeps _ _) rfl
      exact Keeps.refl _ _
    refine Keeps.ite ?_ ?_
    · refine Keeps.then ?_ (State.toTime_keeps _ _) rfl
      exact keeps_s1
    · exact keeps_s1

theorem State.capture_keeps (s : State) (c : Nat) : Keeps 0x10400000000000100608 s (State.capture s c) := by
  unfold State.capture
  refine Keeps.then ?_ (State.ev_keeps _ _ _) (Sub.or rfl rfl)
  refine Keeps.then ?_ (State.wf64_keeps _ _ _ _) (Sub.or rfl (Sub.blk .TMT (by first | rfl | exact blk_ite rfl rfl) rfl))
  exact Keeps.refl _ _

theorem State.actTmtCmd_keeps (s : State) (w : Word) : Keeps 0x10410000000000540608 s (State.actTmtCmd s w) := by
  unfold State.actTmtCmd
  extract_lets +onlyGivenNames -merge -useContext b
  extract_lets +onlyGivenNames -merge -useContext s1
  have keeps_s1 : Keeps 0x10410000000000540608 s s1 := by
    unfold s1
    refine Keeps.ite ?_ ?_
    · refine Keeps.then ?_ (State.actStepAccept_keeps _) rfl
      exact Keeps.refl _ _
    · exact Keeps.refl _ _
  extract_lets +onlyGivenNames -merge -useContext s2
  have keeps_s2 : Keeps 0x10410000000000540608 s s2 := by
    unfold s2
    refine Keeps.ite ?_ ?_
    · refine Keeps.then ?_ (State.wf_keeps _ _ _ _) (Sub.or rfl rfl)
      exact keeps_s1
    · exact keeps_s1
  extract_lets +onlyGivenNames -merge -useContext s3
  have keeps_s3 : Keeps 0x10410000000000540608 s s3 := by
    unfold s3
    refine Keeps.ite ?_ ?_
    · refine Keeps.then ?_ (State.actTimeSet_keeps _) rfl
      exact keeps_s2
    · exact keeps_s2
  refine Keeps.ite ?_ ?_
  · refine Keeps.then ?_ (State.capture_keeps _ _) rfl
    exact keeps_s3
  · exact keeps_s3

theorem execStepAccept_keeps (m : Nat) (w : Word) (s : State) : KeepsO 0x104D0000000000541638 s (execStepAccept m w s) := by
  unfold execStepAccept
  refine KeepsO.next ?_
  refine Keeps.then ?_ (State.regAct_keeps (msk := 0x104D0000000000541638) _ _ _ _ _ _ (by exact Sub.or rfl rfl) (fun z1 => ?_)) (Sub.refl _)
  · exact Keeps.refl _ _
  · refine Keeps.then ?_ (State.actTmtCmd_keeps _ _) rfl
    exact Keeps.refl _ _

theorem execStepReject_keeps (m : Nat) (w : Word) (s : State) : KeepsO 0x104D0000000000541638 s (execStepReject m w s) := by
  unfold execStepReject
  refine KeepsO.next ?_
  refine Keeps.then ?_ (State.regAct_keeps (msk := 0x104D0000000000541638) _ _ _ _ _ _ (by exact Sub.or rfl rfl) (fun z1 => ?_)) (Sub.refl _)
  · exact Keeps.refl _ _
  · refine Keeps.then ?_ (State.actTmtCmd_keeps _ _) rfl
    exact Keeps.refl _ _

theorem execTimeSet_keeps (m : Nat) (w : Word) (s : State) : KeepsO 0x104D0000000000541638 s (execTimeSet m w s) := by
  unfold execTimeSet
  refine KeepsO.next ?_
  refine Keeps.then ?_ (State.regAct_keeps (msk := 0x104D0000000000541638) _ _ _ _ _ _ (by exact Sub.or rfl rfl) (fun z1 => ?_)) (Sub.refl _)
  · exact Keeps.refl _ _
  · refine Keeps.then ?_ (State.actTmtCmd_keeps _ _) rfl
    exact Keeps.refl _ _

theorem execCapture_keeps (m : Nat) (w : Word) (s : State) : KeepsO 0x104D0000000000541638 s (execCapture m w s) := by
  unfold execCapture
  refine KeepsO.next ?_
  refine Keeps.then ?_ (State.regAct_keeps (msk := 0x104D0000000000541638) _ _ _ _ _ _ (by exact Sub.or rfl rfl) (fun z1 => ?_)) (Sub.refl _)
  · exact Keeps.refl _ _
  · refine Keeps.then ?_ (State.actTmtCmd_keeps _ _) rfl
    exact Keeps.refl _ _

theorem State.tmtSleep_keeps (s : State) : Keeps 0x40000000000040000A s (State.tmtSleep s) := by
  unfold State.tmtSleep
  refine Keeps.then ?_ (State.tmtSet_keeps _ _) rfl
  refine Keeps.then ?_ (State.drawn_keeps _) rfl
  refine Keeps.then ?_ (State.wf_keeps _ _ _ _) (Sub.or rfl rfl)
  exact Keeps.refl _ _

theorem State.tmtWake_keeps (s : State) : Keeps 0x10400000000000500608 s (State.tmtWake s) := by
  unfold State.tmtWake
  extract_lets +onlyGivenNames -merge -useContext us
  extract_lets +onlyGivenNames -merge -useContext s1
  have keeps_s1 : Keeps 0x10400000000000500608 s s1 := by
    unfold s1
    refine Keeps.then ?_ (State.tmtSet_keeps _ _) rfl
    refine Keeps.then ?_ (State.wf_keeps _ _ _ _) (Sub.or rfl rfl)
    exact Keeps.refl _ _
  refine Keeps.ite ?_ ?_
  · refine Keeps.ite ?_ ?_
    · exact keeps_s1
    · refine Keeps.then ?_ (State.toTime_keeps _ _) rfl
      exact keeps_s1
  · refine Keeps.ite ?_ ?_
    · refine Keeps.then ?_ (State.toTime_keeps _ _) rfl
      exact keeps_s1
    · exact keeps_s1

theorem State.ptpIn_keeps {msk : Nat} (s : State) (good : Bool) (f : State → State) (hMsk : Sub 0x400000000000000008 msk) (hFun2 : ∀ z0, Keeps msk z0 (f z0)) :
    Keeps msk s (State.ptpIn s good f) := by
  unfold State.ptpIn
  refine Keeps.ite ?_ ?_
  · exact Keeps.refl _ _
  · extract_lets +onlyGivenNames -merge -useContext s1
    have keeps_s1 : Keeps msk s s1 := by
      unfold s1
      refine Keeps.then ?_ (State.inc_keeps _ _ _) (Sub.trans (by exact Sub.or rfl rfl) hMsk)
      exact Keeps.refl _ _
    refine Keeps.ite ?_ ?_
    · refine Keeps.then ?_ (hFun2 _) (Sub.refl _)
      exact keeps_s1
    · refine Keeps.then ?_ (State.inc_keeps _ _ _) (Sub.trans (by exact Sub.or rfl rfl) hMsk)
      exact keeps_s1

theorem State.ptpOut_keeps (s : State) (typ : Nat) (seq : Nat) (body : List Nat) :
    Keeps 0x400000000000000408 s (State.ptpOut s typ seq body) := by
  unfold State.ptpOut
  refine Keeps.then ?_ (State.emit_keeps _ _ _ _) rfl
  refine Keeps.then ?_ (State.inc_keeps _ _ _) (Sub.or rfl rfl)
  exact Keeps.refl _ _

theorem State.ptpMeasure_keeps (s : State) (t1 : Int) (t2 : Int) : Keeps 0x1041000000000054060A s (State.ptpMeasure s t1 t2) := by
  unfold State.ptpMeasure
  extract_lets +onlyGivenNames -merge -useContext s1
  have keeps_s1 : Keeps 0x1041000000000054060A s s1 := by
    unfold s1
    refine Keeps.then ?_ (State.tmtSet_keeps _ _) rfl
    exact Keeps.refl _ _
  refine Keeps.then ?_ (State.servo_keeps _ _) rfl
  exact keeps_s1

theorem execPtpSync_keeps (src : Nat) (seq : Nat) (domain : Nat) (twoStep : Bool) (origin : Int) (corr : Int) (rx : Int) (s : State) :
    KeepsO 0x1041000000000054060A s (execPtpSync src seq domain twoStep origin corr rx s) := by
  unfold execPtpSync
  refine KeepsO.next ?_
  refine Keeps.then ?_ (State.ptpIn_keeps (msk := 0x1041000000000054060A) _ _ _ (by exact rfl) (fun z1 => ?_)) (Sub.refl _)
  · exact Keeps.refl _ _
  · extract_lets +onlyGivenNames -merge -useContext t2
    refine Keeps.ite ?_ ?_
    · refine Keeps.then ?_ (State.tmtSet_keeps _ _) rfl
      exact Keeps.refl _ _
    · refine Keeps.then ?_ (State.ptpMeasure_keeps _ _ _) rfl
      exact Keeps.refl _ _

theorem execPtpFollowUp_keeps (src : Nat) (seq : Nat) (domain : Nat) (origin : Int) (corr : Int) (s : State) :
    KeepsO 0x1041000000000054060A s (execPtpFollowUp src seq domain origin corr s) := by
  unfold execPtpFollowUp
  refine KeepsO.next ?_
  split
  · refine Keeps.then ?_ (State.ptpIn_keeps (msk := 0x1041000000000054060A) _ _ _ (by exact rfl) (fun z1 => ?_)) (Sub.refl _)
    · exact Keeps.refl _ _
    · refine Keeps.then ?_ (State.ptpMeasure_keeps _ _ _) rfl
      exact Keeps.refl _ _
  · refine Keeps.then ?_ (State.ptpIn_keeps (msk := 0x1041000000000054060A) _ _ _ (by exact rfl) (fun z2 => ?_)) (Sub.refl _)
    · exact Keeps.refl _ _
    · rw [id]
      exact Keeps.refl _ _

theorem execPtpDelayReq_keeps (src : Nat) (seq : Nat) (domain : Nat) (rx : Int) (s : State) :
    KeepsO 0x400000000000000408 s (execPtpDelayReq src seq domain rx s) := by
  unfold execPtpDelayReq
  refine KeepsO.next ?_
  refine Keeps.then ?_ (State.ptpIn_keeps (msk := 0x400000000000000408) _ _ _ (by exact rfl) (fun z1 => ?_)) (Sub.refl _)
  · exact Keeps.refl _ _
  · refine Keeps.then ?_ (State.ptpOut_keeps _ _ _ _) rfl
    exact Keeps.refl _ _

theorem execPtpDelayResp_keeps (src : Nat) (seq : Nat) (domain : Nat) (t4 : Int) (corr : Int) (s : State) :
    KeepsO 0x400000000000400008 s (execPtpDelayResp src seq domain t4 corr s) := by
  unfold execPtpDelayResp
  refine KeepsO.next ?_
  refine Keeps.then ?_ (State.ptpIn_keeps (msk := 0x400000000000400008) _ _ _ (by exact rfl) (fun z1 => ?_)) (Sub.refl _)
  · exact Keeps.refl _ _
  · split
    · refine Keeps.ite ?_ ?_
      · refine Keeps.then ?_ (State.wf_keeps _ _ _ _) (Sub.or rfl rfl)
        refine Keeps.then ?_ (State.tmtSet_keeps _ _) rfl
        exact Keeps.refl _ _
      · exact Keeps.refl _ _
    · exact Keeps.refl _ _

theorem execPtpPdelayReq_keeps (src : Nat) (seq : Nat) (domain : Nat) (rx : Int) (s : State) :
    KeepsO 0x400000000000000408 s (execPtpPdelayReq src seq domain rx s) := by
  unfold execPtpPdelayReq
  refine KeepsO.next ?_
  refine Keeps.then ?_ (State.ptpIn_keeps (msk := 0x400000000000000408) _ _ _ (by exact rfl) (fun z1 => ?_)) (Sub.refl _)
  · exact Keeps.refl _ _
  · extract_lets +onlyGivenNames -merge -useContext t1
    have keeps_t1 : Keeps 0x400000000000000408 z1 t1 := by
      unfold t1
      refine Keeps.then ?_ (State.ptpOut_keeps _ _ _ _) rfl
      exact Keeps.refl _ _
    refine Keeps.ite ?_ ?_
    · refine Keeps.then ?_ (State.ptpOut_keeps _ _ _ _) rfl
      exact keeps_t1
    · exact keeps_t1

theorem execPtpPdelayResp_keeps (seq : Nat) (domain : Nat) (twoStep : Bool) (t2 : Int) (corr : Int) (rx : Int) (s : State) :
    KeepsO 0x400000000000400008 s (execPtpPdelayResp seq domain twoStep t2 corr rx s) := by
  unfold execPtpPdelayResp
  refine KeepsO.next ?_
  refine Keeps.then ?_ (State.ptpIn_keeps (msk := 0x400000000000400008) _ _ _ (by exact rfl) (fun z1 => ?_)) (Sub.refl _)
  · exact Keeps.refl _ _
  · extract_lets +onlyGivenNames -merge -useContext t4
    split
    · refine Keeps.ite ?_ ?_
      · exact Keeps.refl _ _
      · refine Keeps.ite ?_ ?_
        · refine Keeps.then ?_ (State.tmtSet_keeps _ _) rfl
          exact Keeps.refl _ _
        · refine Keeps.then ?_ (State.wf_keeps _ _ _ _) (Sub.or rfl rfl)
          refine Keeps.then ?_ (State.tmtSet_keeps _ _) rfl
          exact Keeps.refl _ _
    · exact Keeps.refl _ _

theorem execPtpPdelayRespFollowUp_keeps (seq : Nat) (domain : Nat) (t3 : Int) (corr : Int) (s : State) :
    KeepsO 0x400000000000400008 s (execPtpPdelayRespFollowUp seq domain t3 corr s) := by
  unfold execPtpPdelayRespFollowUp
  refine KeepsO.next ?_
  refine Keeps.then ?_ (State.ptpIn_keeps (msk := 0x400000000000400008) _ _ _ (by exact rfl) (fun z1 => ?_)) (Sub.refl _)
  · exact Keeps.refl _ _
  · split
    · refine Keeps.ite ?_ ?_
      · refine Keeps.then ?_ (State.wf_keeps _ _ _ _) (Sub.or rfl rfl)
        refine Keeps.then ?_ (State.tmtSet_keeps _ _) rfl
        exact Keeps.refl _ _
      · exact Keeps.refl _ _
    · exact Keeps.refl _ _

theorem State.ptpBecomesMaster_keeps (s : State) : Keeps 0x10400000000000500608 s (State.ptpBecomesMaster s) := by
  unfold State.ptpBecomesMaster
  extract_lets +onlyGivenNames -merge -useContext s1
  have keeps_s1 : Keeps 0x10400000000000500608 s s1 := by
    unfold s1
    refine Keeps.then ?_ (State.wf_keeps _ _ _ _) (Sub.or rfl rfl)
    refine Keeps.then ?_ (State.tmtSet_keeps _ _) rfl
    exact Keeps.refl _ _
  extract_lets +onlyGivenNames -merge -useContext s2
  have keeps_s2 : Keeps 0x10400000000000500608 s s2 := by
    unfold s2
    refine Keeps.ite ?_ ?_
    · refine Keeps.then ?_ (State.wf_keeps _ _ _ _) (Sub.or rfl rfl)
      exact keeps_s1
    · exact keeps_s1
  refine Keeps.ite ?_ ?_
  · refine Keeps.then ?_ (State.toTime_keeps _ _) rfl
    exact keeps_s2
  · exact keeps_s2

theorem State.ptpFollow_keeps (s : State) (m : PtpMaster) : Keeps 0x10400000000000500608 s (State.ptpFollow s m) := by
  unfold State.ptpFollow
  extract_lets +onlyGivenNames -merge -useContext s1
  have keeps_s1 : Keeps 0x10400000000000500608 s s1 := by
    unfold s1
    refine Keeps.then ?_ (State.wf_keeps _ _ _ _) (Sub.or rfl rfl)
    refine Keeps.then ?_ (State.tmtSet_keeps _ _) rfl
    exact Keeps.refl _ _
  extract_lets +onlyGivenNames -merge -useContext s2
  have keeps_s2 : Keeps 0x10400000000000500608 s s2 := by
    unfold s2
    refine Keeps.then ?_ (State.wf64_keeps _ _ _ _) (Sub.or rfl rfl)
    exact keeps_s1
  extract_lets +onlyGivenNames -merge -useContext src
  refine Keeps.ite ?_ ?_
  · exact keeps_s2
  · extract_lets +onlyGivenNames -merge -useContext s3
    have keeps_s3 : Keeps 0x10400000000000500608 s s3 := by
      unfold s3
      refine Keeps.then ?_ (State.wf_keeps _ _ _ _) (Sub.or rfl rfl)
      exact keeps_s2
    extract_lets +onlyGivenNames -merge -useContext st
    refine Keeps.ite ?_ ?_
    · refine Keeps.then ?_ (State.toTime_keeps _ _) rfl
      exact keeps_s3
    · exact keeps_s3

theorem execPtpAnnounce_keeps (src : Nat) (identity : Nat) (p1 : Nat) (cls : Nat) (acc : Nat) (var : Nat) (p2 : Nat) (domain : Nat) (utc : Nat) (flags : Nat) (s : State) :
    KeepsO 0x10410000000000540608 s (execPtpAnnounce src identity p1 cls acc var p2 domain utc flags s) := by
  unfold execPtpAnnounce
  refine KeepsO.next ?_
  refine Keeps.then ?_ (State.ptpIn_keeps (msk := 0x10410000000000540608) _ _ _ (by exact rfl) (fun z1 => ?_)) (Sub.refl _)
  · exact Keeps.refl _ _
  · extract_lets +onlyGivenNames -merge -useContext m
    extract_lets +onlyGivenNames -merge -useContext ownBetter
    extract_lets +onlyGivenNames -merge -useContext show'
    split
    · refine Keeps.ite ?_ ?_
      · refine Keeps.then ?_ (State.ptpBecomesMaster_keeps _) rfl
        exact Keeps.refl _ _
      · unfold show'
        refine Keeps.then ?_ (State.wf_keeps _ _ _ _) (Sub.or rfl rfl)
        refine Keeps.then ?_ (State.wf_keeps _ _ _ _) (Sub.or rfl rfl)
        refine Keeps.then ?_ (State.wf_keeps _ _ _ _) (Sub.or rfl rfl)
        refine Keeps.then ?_ (State.wf_keeps _ _ _ _) (Sub.or rfl rfl)
        refine Keeps.then ?_ (State.ptpFollow_keeps _ _) rfl
        exact Keeps.refl _ _
    · refine Keeps.ite ?_ ?_
      · refine Keeps.ite ?_ ?_
        · refine Keeps.then ?_ (State.ptpBecomesMaster_keeps _) rfl
          exact Keeps.refl _ _
        · extract_lets +onlyGivenNames -merge -useContext u
          have keeps_u : Keeps 0x10410000000000540608 z1 u := by
            unfold u
            unfold show'
            refine Keeps.then ?_ (State.wf_keeps _ _ _ _) (Sub.or rfl rfl)
            refine Keeps.then ?_ (State.wf_keeps _ _ _ _) (Sub.or rfl rfl)
            refine Keeps.then ?_ (State.wf_keeps _ _ _ _) (Sub.or rfl rfl)
            refine Keeps.then ?_ (State.wf_keeps _ _ _ _) (Sub.or rfl rfl)
            refine Keeps.then ?_ (State.ptpFollow_keeps _ _) rfl
            exact Keeps.refl _ _
          refine Keeps.ite ?_ ?_
          · exact keeps_u
          · refine Keeps.then ?_ (State.ev_keeps _ _ _) (Sub.or rfl rfl)
            refine Keeps.then ?_ (State.gcode_keeps _ _ _ _) rfl
            refine Keeps.then ?_ (State.holdover_keeps _) rfl
            exact keeps_u
      · refine Keeps.ite ?_ ?_
        · extract_lets +onlyGivenNames -merge -useContext u
          have keeps_u : Keeps 0x10410000000000540608 z1 u := by
            unfold u
            unfold show'
            refine Keeps.then ?_ (State.wf_keeps _ _ _ _) (Sub.or rfl rfl)
            refine Keeps.then ?_ (State.wf_keeps _ _ _ _) (Sub.or rfl rfl)
            refine Keeps.then ?_ (State.wf_keeps _ _ _ _) (Sub.or rfl rfl)
            refine Keeps.then ?_ (State.wf_keeps _ _ _ _) (Sub.or rfl rfl)
            refine Keeps.then ?_ (State.ptpFollow_keeps _ _) rfl
            exact Keeps.refl _ _
          refine Keeps.ite ?_ ?_
          · exact keeps_u
          · refine Keeps.then ?_ (State.ev_keeps _ _ _) (Sub.or rfl rfl)
            refine Keeps.then ?_ (State.gcode_keeps _ _ _ _) rfl
            refine Keeps.then ?_ (State.holdover_keeps _) rfl
            exact keeps_u
        · exact Keeps.refl _ _

theorem execPtpDiscardedMessage_keeps (s : State) : KeepsO 0x400000000000000008 s (execPtpDiscardedMessage s) := by
  unfold execPtpDiscardedMessage
  refine KeepsO.next ?_
  refine Keeps.then ?_ (State.ptpIn_keeps (msk := 0x400000000000000008) _ _ _ (by exact rfl) (fun z1 => ?_)) (Sub.refl _)
  · exact Keeps.refl _ _
  · rw [id]
    exact Keeps.refl _ _

theorem execPtpMasterSend_keeps (announce : Bool) (s : State) : KeepsO 0x400000000000400408 s (execPtpMasterSend announce s) := by
  unfold execPtpMasterSend
  refine KeepsO.next ?_
  refine Keeps.ite ?_ ?_
  · exact Keeps.refl _ _
  · extract_lets +onlyGivenNames -merge -useContext q
    extract_lets +onlyGivenNames -merge -useContext s1
    have keeps_s1 : Keeps 0x400000000000400408 s s1 := by
      unfold s1
      refine Keeps.then ?_ (State.tmtSet_keeps _ _) rfl
      exact Keeps.refl _ _
    refine Keeps.ite ?_ ?_
    · refine Keeps.then ?_ (State.ptpOut_keeps _ _ _ _) rfl
      exact keeps_s1
    · refine Keeps.ite ?_ ?_
      · refine Keeps.then ?_ (State.ptpOut_keeps _ _ _ _) rfl
        refine Keeps.then ?_ (State.ptpOut_keeps _ _ _ _) rfl
        exact keeps_s1
      · refine Keeps.then ?_ (State.ptpOut_keeps _ _ _ _) rfl
        exact keeps_s1

theorem execPtpDelayReqSend_keeps (tx : Int) (s : State) : KeepsO 0x400000000000400408 s (execPtpDelayReqSend tx s) := by
  unfold execPtpDelayReqSend
  extract_lets +onlyGivenNames -merge -useContext peer
  refine KeepsO.next ?_
  refine Keeps.ite ?_ ?_
  · exact Keeps.refl _ _
  · extract_lets +onlyGivenNames -merge -useContext q
    refine Keeps.then ?_ (State.ptpOut_keeps _ _ _ _) rfl
    refine Keeps.then ?_ (State.tmtSet_keeps _ _) rfl
    exact Keeps.refl _ _

theorem execAnnounceTimeout_keeps (s : State) : KeepsO 0x10410000000000540608 s (execAnnounceTimeout s) := by
  unfold execAnnounceTimeout
  refine KeepsO.next ?_
  refine Keeps.ite ?_ ?_
  · exact Keeps.refl _ _
  · extract_lets +onlyGivenNames -merge -useContext canLead
    split
    · extract_lets +onlyGivenNames -merge -useContext s1
      have keeps_s1 : Keeps 0x10410000000000540608 s s1 := by
        unfold s1
        refine Keeps.then ?_ (State.wf_keeps _ _ _ _) (Sub.or rfl rfl)
        refine Keeps.then ?_ (State.tmtSet_keeps _ _) rfl
        exact Keeps.refl _ _
      refine Keeps.ite ?_ ?_
      · refine Keeps.then ?_ (State.holdover_keeps _) rfl
        exact keeps_s1
      · exact keeps_s1
    · refine Keeps.ite ?_ ?_
      · refine Keeps.then ?_ (State.ptpBecomesMaster_keeps _) rfl
        exact Keeps.refl _ _
      · exact Keeps.refl _ _

theorem State.launchSet_keeps (s : State) (l : List Launch) : Keeps 0x400000000000400008 s (State.launchSet s l) := by
  unfold State.launchSet
  refine Keeps.then ?_ (State.wf_keeps _ _ _ _) (Sub.or rfl rfl)
  refine Keeps.then ?_ (State.tmtSet_keeps _ _) rfl
  exact Keeps.refl _ _

theorem State.launchDone_keeps (s : State) (how : Nat) (tag : Nat) : Keeps 0x10400000000000100608 s (State.launchDone s how tag) := by
  unfold State.launchDone
  extract_lets +onlyGivenNames -merge -useContext s1
  have keeps_s1 : Keeps 0x10400000000000100608 s s1 := by
    unfold s1
    refine Keeps.then ?_ (State.inc_keeps _ _ _) (Sub.or rfl (Sub.blk .TMT (by first | rfl | exact blk_ite rfl rfl) rfl))
    refine Keeps.then ?_ (State.wf_keeps _ _ _ _) (Sub.or rfl rfl)
    refine Keeps.then ?_ (State.wf_keeps _ _ _ _) (Sub.or rfl rfl)
    exact Keeps.refl _ _
  refine Keeps.ite ?_ ?_
  · refine Keeps.then ?_ (State.ev_keeps _ _ _) (Sub.or rfl rfl)
    exact keeps_s1
  · refine Keeps.ite ?_ ?_
    · refine Keeps.then ?_ (State.ev_keeps _ _ _) (Sub.or rfl rfl)
      exact keeps_s1
    · exact keeps_s1

theorem State.launchPush_keeps (s : State) (x : Launch) : Keeps 0x10400000000000500608 s (State.launchPush s x) := by
  unfold State.launchPush
  refine Keeps.ite ?_ ?_
  · refine Keeps.then ?_ (State.wf_keeps _ _ _ _) (Sub.or rfl rfl)
    exact Keeps.refl _ _
  · extract_lets +onlyGivenNames -merge -useContext late
    refine Keeps.ite ?_ ?_
    · refine Keeps.then ?_ (State.launchDone_keeps _ _ _) rfl
      exact Keeps.refl _ _
    · refine Keeps.then ?_ (State.launchSet_keeps _ _) rfl
      exact Keeps.refl _ _

theorem State.actLaunch_keeps (s : State) (w : Word) : Keeps 0x10400000000000500608 s (State.actLaunch s w) := by
  unfold State.actLaunch
  extract_lets +onlyGivenNames -merge -useContext s1
  extract_lets +onlyGivenNames -merge -useContext x1
  have keeps_x1 : Keeps 0x10400000000000500608 s x1 := by
    unfold x1
    refine Keeps.ite ?_ ?_
    · refine Keeps.then ?_ (State.add_keeps _ _ _ _) (Sub.or rfl rfl)
      refine Keeps.then ?_ (State.launchSet_keeps _ _) rfl
      exact Keeps.refl _ _
    · exact Keeps.refl _ _
  refine Keeps.ite ?_ ?_
  · refine Keeps.then ?_ (State.launchPush_keeps _ _) rfl
    exact keeps_x1
  · exact keeps_x1

theorem execLaunchPush_keeps (m : Nat) (w : Word) (s : State) : KeepsO 0x104D0000000000541638 s (execLaunchPush m w s) := by
  unfold execLaunchPush
  refine KeepsO.next ?_
  refine Keeps.then ?_ (State.regAct_keeps (msk := 0x104D0000000000541638) _ _ _ _ _ _ (by exact Sub.or rfl rfl) (fun z1 => ?_)) (Sub.refl _)
  · exact Keeps.refl _ _
  · refine Keeps.then ?_ (State.actLaunch_keeps _ _) rfl
    exact Keeps.refl _ _

theorem execLaunchFlush_keeps (m : Nat) (w : Word) (s : State) : KeepsO 0x104D0000000000541638 s (execLaunchFlush m w s) := by
  unfold execLaunchFlush
  refine KeepsO.next ?_
  refine Keeps.then ?_ (State.regAct_keeps (msk := 0x104D0000000000541638) _ _ _ _ _ _ (by exact Sub.or rfl rfl) (fun z1 => ?_)) (Sub.refl _)
  · exact Keeps.refl _ _
  · refine Keeps.then ?_ (State.actLaunch_keeps _ _) rfl
    exact Keeps.refl _ _

theorem execLaunchPrefetch_keeps (s : State) : KeepsO 0x10410000000000540608 s (execLaunchPrefetch s) := by
  unfold execLaunchPrefetch
  refine KeepsO.next ?_
  split
  · exact Keeps.refl _ _
  · split
    · exact Keeps.refl _ _
    · extract_lets +onlyGivenNames -merge -useContext b
      extract_lets +onlyGivenNames -merge -useContext len
      extract_lets +onlyGivenNames -merge -useContext lane
      refine Keeps.ite ?_ ?_
      · refine Keeps.then ?_ (State.launchDone_keeps _ _ _) rfl
        refine Keeps.then ?_ (State.gcode_keeps _ _ _ _) rfl
        refine Keeps.then ?_ (State.launchSet_keeps _ _) rfl
        exact Keeps.refl _ _
      · refine Keeps.then ?_ (State.launchSet_keeps _ _) rfl
        exact Keeps.refl _ _

theorem execLaunchSend_keeps (busy : Bool) (s : State) : KeepsO 0x10400000000000500608 s (execLaunchSend busy s) := by
  unfold execLaunchSend
  refine KeepsO.next ?_
  split
  · exact Keeps.refl _ _
  · split
    · exact Keeps.refl _ _
    · split
      · exact Keeps.refl _ _
      · extract_lets +onlyGivenNames -merge -useContext late
        extract_lets +onlyGivenNames -merge -useContext s1
        have keeps_s1 : Keeps 0x10400000000000500608 s s1 := by
          unfold s1
          refine Keeps.then ?_ (State.launchSet_keeps _ _) rfl
          exact Keeps.refl _ _
        refine Keeps.ite ?_ ?_
        · refine Keeps.then ?_ (State.launchDone_keeps _ _ _) rfl
          exact keeps_s1
        · refine Keeps.ite ?_ ?_
          · refine Keeps.then ?_ (State.launchDone_keeps _ _ _) rfl
            exact keeps_s1
          · refine Keeps.then ?_ (State.emit_keeps _ _ _ _) rfl
            refine Keeps.then ?_ (State.launchDone_keeps _ _ _) rfl
            exact keeps_s1

theorem execAlarmFire_keeps (a : Nat) (s : State) : KeepsO 0x11C10000000000908608 s (execAlarmFire a s) := by
  unfold execAlarmFire
  extract_lets +onlyGivenNames -merge -useContext f
  extract_lets +onlyGivenNames -merge -useContext t
  extract_lets +onlyGivenNames -merge -useContext xp
  refine KeepsO.next ?_
  refine Keeps.ite ?_ ?_
  · exact Keeps.refl _ _
  · extract_lets +onlyGivenNames -merge -useContext late
    extract_lets +onlyGivenNames -merge -useContext s1
    have keeps_s1 : Keeps 0x11C10000000000908608 s s1 := by
      unfold s1
      refine Keeps.then ?_ (State.wf_keeps _ _ _ _) (Sub.or rfl (Sub.blk .TMT (by first | rfl | exact blk_ite rfl rfl) rfl))
      exact Keeps.refl _ _
    extract_lets +onlyGivenNames -merge -useContext s2
    have keeps_s2 : Keeps 0x11C10000000000908608 s s2 := by
      unfold s2
      refine Keeps.ite ?_ ?_
      · refine Keeps.then ?_ (State.wf_keeps _ _ _ _) (Sub.or rfl (Sub.blk .TMT (by first | rfl | exact blk_ite rfl rfl) rfl))
        exact keeps_s1
      · exact keeps_s1
    extract_lets +onlyGivenNames -merge -useContext s3
    extract_lets +onlyGivenNames -merge -useContext s3_2
    have keeps_s3_2 : Keeps 0x11C10000000000908608 s s3_2 := by
      unfold s3_2
      refine Keeps.ite ?_ ?_
      · refine Keeps.then ?_ (State.wf_keeps _ _ _ _) (Sub.or rfl (Sub.blk .TMT (by first | rfl | exact blk_ite rfl rfl) rfl))
        exact keeps_s2
      · refine Keeps.then ?_ (State.add_keeps _ _ _ _) (Sub.or rfl (Sub.blk .TMT (by first | rfl | exact blk_ite rfl rfl) rfl))
        refine Keeps.then ?_ (State.wf64_keeps _ _ _ _) (Sub.or rfl (Sub.blk .TMT (by first | rfl | exact blk_ite rfl rfl) rfl))
        exact keeps_s2
    extract_lets +onlyGivenNames -merge -useContext s4
    have keeps_s4 : Keeps 0x11C10000000000908608 s s4 := by
      unfold s4
      refine Keeps.then ?_ (State.ev_keeps _ _ _) rfl
      exact keeps_s3_2
    extract_lets +onlyGivenNames -merge -useContext s5
    have keeps_s5 : Keeps 0x11C10000000000908608 s s5 := by
      unfold s5
      refine Keeps.ite ?_ ?_
      · refine Keeps.then ?_ (State.gioStart_keeps _ _ _ _) rfl
        exact keeps_s4
      · exact keeps_s4
    extract_lets +onlyGivenNames -merge -useContext s6
    have keeps_s6 : Keeps 0x11C10000000000908608 s s6 := by
      unfold s6
      refine Keeps.ite ?_ ?_
      · refine Keeps.then ?_ (State.reinRaise_keeps _ _ _ _ _) rfl
        exact keeps_s5
      · exact keeps_s5
    refine Keeps.ite ?_ ?_
    · refine Keeps.then ?_ (State.wakeSource_keeps _ _ _) rfl
      exact keeps_s6
    · exact keeps_s6

theorem State.markShow_keeps (s : State) : Keeps 0x400000000000000008 s (State.markShow s) := by
  unfold State.markShow
  extract_lets +onlyGivenNames -merge -useContext n
  refine Keeps.then ?_ (State.wf_keeps _ _ _ _) (Sub.or rfl rfl)
  refine Keeps.fold ?_ (fun t1 y2 => ?_)
  · exact Keeps.refl _ _
  · refine Keeps.then ?_ (State.wf_keeps _ _ _ _) (Sub.or rfl (Sub.blk .TMT (by first | rfl | exact blk_ite rfl rfl) rfl))
    refine Keeps.then ?_ (State.wf_keeps _ _ _ _) (Sub.or rfl (Sub.blk .TMT (by first | rfl | exact blk_ite rfl rfl) rfl))
    exact Keeps.refl _ _

theorem State.markDrop_keeps (s : State) : Keeps 0x10400000000000100608 s (State.markDrop s) := by
  unfold State.markDrop
  refine Keeps.then ?_ (State.ev_keeps _ _ _) (Sub.or rfl rfl)
  refine Keeps.then ?_ (State.inc_keeps _ _ _) (Sub.or rfl rfl)
  exact Keeps.refl _ _

theorem State.markLaunch_keeps (s : State) (x : MarkTarget) (t : Int) (late : Bool) :
    Keeps 0x10400000000000500608 s (State.markLaunch s x t late) := by
  unfold State.markLaunch
  refine Keeps.ite ?_ ?_
  · refine Keeps.then ?_ (State.markDrop_keeps _) rfl
    refine Keeps.then ?_ (State.wf_keeps _ _ _ _) (Sub.or rfl rfl)
    exact Keeps.refl _ _
  · refine Keeps.ite ?_ ?_
    · refine Keeps.then ?_ (State.markDrop_keeps _) rfl
      exact Keeps.refl _ _
    · refine Keeps.then ?_ (State.launchPush_keeps _ _) rfl
      exact Keeps.refl _ _

theorem State.markPredict_keeps (s : State) (x : MarkTarget) (first : Bool) :
    Keeps 0x10400000000000500608 s (State.markPredict s x first).1 := by
  unfold State.markPredict
  extract_lets +onlyGivenNames -merge -useContext y
  refine Keeps.ite_fst ?_ ?_
  · dsimp only
    refine Keeps.then ?_ (State.markLaunch_keeps _ _ _ _) rfl
    exact Keeps.refl _ _
  · split
    · dsimp only
      exact Keeps.refl _ _
    · refine Keeps.ite_fst ?_ ?_
      · dsimp only
        refine Keeps.then ?_ (State.markLaunch_keeps _ _ _ _) rfl
        exact Keeps.refl _ _
      · refine Keeps.ite_fst ?_ ?_
        · dsimp only
          refine Keeps.then ?_ (State.markLaunch_keeps _ _ _ _) rfl
          exact Keeps.refl _ _
        · dsimp only
          exact Keeps.refl _ _

theorem State.markTarget_keeps (s : State) (pos : Int) (k : Nat) (tag : Nat) :
    Keeps 0x10400000000000500608 s (State.markTarget s pos k tag).1 := by
  unfold State.markTarget
  refine Keeps.ite_fst ?_ ?_
  · dsimp only
    refine Keeps.then ?_ (State.markDrop_keeps _) rfl
    exact Keeps.refl _ _
  · extract_lets +onlyGivenNames -merge -useContext r
    have keeps_r : Keeps 0x10400000000000500608 s r.1 := by
      unfold r
      refine Keeps.then ?_ (State.markPredict_keeps _ _ _) rfl
      exact Keeps.refl _ _
    split
    · dsimp only
      exact keeps_r
    · dsimp only
      refine Keeps.then ?_ (State.markShow_keeps _) rfl
      refine Keeps.then ?_ (State.tmtSet_keeps _ _) rfl
      exact keeps_r

theorem execMarkerPredict_keeps (s : State) : KeepsO 0x10400000000000500608 s (execMarkerPredict s) := by
  unfold execMarkerPredict
  extract_lets +onlyGivenNames -merge -useContext r
  have keeps_r : Keeps 0x10400000000000500608 s r.1 := by
    unfold r
    refine Keeps.fold_fst ?_ (fun t1 y2 => ?_)
    · dsimp only
      exact Keeps.refl _ _
    · extract_lets +onlyGivenNames -merge -useContext q
      have keeps_q : Keeps 0x10400000000000500608 t1.fst q.1 := by
        unfold q
        refine Keeps.then ?_ (State.markPredict_keeps _ _ _) rfl
        exact Keeps.refl _ _
      dsimp only
      exact keeps_q
  refine KeepsO.next ?_
  refine Keeps.then ?_ (State.markShow_keeps _) rfl
  refine Keeps.then ?_ (State.tmtSet_keeps _ _) rfl
  exact keeps_r

theorem State.markFlush_keeps (s : State) : Keeps 0x10400000000000500608 s (State.markFlush s) := by
  unfold State.markFlush
  extract_lets +onlyGivenNames -merge -useContext gone
  extract_lets +onlyGivenNames -merge -useContext s1
  have keeps_s1 : Keeps 0x10400000000000500608 s s1 := by
    unfold s1
    refine Keeps.then ?_ (State.launchSet_keeps _ _) rfl
    exact Keeps.refl _ _
  extract_lets +onlyGivenNames -merge -useContext s2
  have keeps_s2 : Keeps 0x10400000000000500608 s s2 := by
    unfold s2
    refine Keeps.then ?_ (State.add_keeps _ _ _ _) (Sub.or rfl rfl)
    refine Keeps.then ?_ (State.markShow_keeps _) rfl
    refine Keeps.then ?_ (State.tmtSet_keeps _ _) rfl
    exact keeps_s1
  refine Keeps.then ?_ (State.evIf_keeps _ _ _ _) (Sub.or rfl rfl)
  exact keeps_s2

end Sys2Proof.Machine
end

