-- ==== Sys2Proof/Laws/KeepsDbm.lean ====
section
/-! SUPPORT. Frames of the operations of Machine/Dbm.lean: what each may change, one lemma each. -/

namespace Sys2Proof.Machine

theorem State.sliceMod_keeps (s : State) (c : Nat) (f : Slice → Slice) : Keeps 0x80000000000020000000008 s (State.sliceMod s c f) := by
  unfold State.sliceMod
  extract_lets +onlyGivenNames -merge -useContext x
  refine Keeps.then ?_ (State.wf_keeps _ _ _ _) (Sub.or rfl rfl)
  refine Keeps.set_dbm ?_ rfl
  exact Keeps.refl _ _

theorem State.dbmCount_keeps (s : State) (k : Nat) (n : Nat) (m : Nat) : Keeps 0x80000000000000000000008 s (State.dbmCount s k n m) := by
  unfold State.dbmCount
  refine Keeps.then ?_ (State.add_keeps _ _ _ _) (Sub.or rfl (Sub.blk .DBM (by first | rfl | exact blk_ite rfl rfl) rfl))
  exact Keeps.refl _ _

theorem State.ruleRef_keeps (s : State) (ref : Nat) (did : Nat) (k : Nat) (f : Feat) : Keeps 0x2 s (State.ruleRef s ref did k f).2 := by
  unfold State.ruleRef
  extract_lets +onlyGivenNames -merge -useContext span
  split
  · dsimp only
    exact Keeps.refl _ _
  · dsimp only
    exact Keeps.refl _ _
  · dsimp only
    exact Keeps.refl _ _
  · dsimp only
    refine Keeps.then ?_ (State.drawn_keeps _) rfl
    exact Keeps.refl _ _

theorem State.markCount_keeps (s : State) (ok : Bool) : Keeps 0x80010000000000000100608 s (State.markCount s ok) := by
  unfold State.markCount
  refine Keeps.ite ?_ ?_
  · refine Keeps.then ?_ (State.inc_keeps _ _ _) (Sub.or rfl rfl)
    exact Keeps.refl _ _
  · refine Keeps.then ?_ (State.ev_keeps _ _ _) (Sub.or rfl rfl)
    refine Keeps.then ?_ (State.inc_keeps _ _ _) (Sub.or rfl rfl)
    exact Keeps.refl _ _

theorem State.ruleAct_keeps (s : State) (r : Nat) (did : Nat) (t : Int) : Keeps 0x80010C00000000000D00608 s (State.ruleAct s r did t) := by
  unfold State.ruleAct
  extract_lets +onlyGivenNames -merge -useContext path
  extract_lets +onlyGivenNames -merge -useContext unit
  extract_lets +onlyGivenNames -merge -useContext s1
  have keeps_s1 : Keeps 0x80010C00000000000D00608 s s1 := by
    unfold s1
    refine Keeps.ite ?_ ?_
    · refine Keeps.then ?_ (State.markCount_keeps _ _) rfl
      refine Keeps.then ?_ (State.cmpPush_keeps _ _ _ _) rfl
      exact Keeps.refl _ _
    · exact Keeps.refl _ _
  refine Keeps.ite ?_ ?_
  · extract_lets +onlyGivenNames -merge -useContext x
    have keeps_x : Keeps 0x80010C00000000000D00608 s x.1 := by
      unfold x
      refine Keeps.then ?_ (State.markTarget_keeps _ _ _ _) rfl
      exact keeps_s1
    refine Keeps.then ?_ (State.markCount_keeps _ _) rfl
    exact keeps_x
  · exact keeps_s1

theorem State.markRules_keeps (s : State) (did : Nat) (cont : Nat) (k : Nat) (f : Feat) :
    Keeps 0x80010C00000000000D0060A s (State.markRules s did cont k f) := by
  unfold State.markRules
  extract_lets +onlyGivenNames -merge -useContext col
  extract_lets +onlyGivenNames -merge -useContext col1
  refine Keeps.fold ?_ (fun t1 y2 => ?_)
  · exact Keeps.refl _ _
  · refine Keeps.ite ?_ ?_
    · extract_lets +onlyGivenNames -merge -useContext x
      have keeps_x : Keeps 0x80010C00000000000D0060A t1 x.2 := by
        unfold x
        refine Keeps.then ?_ (State.ruleRef_keeps _ _ _ _ _) rfl
        exact Keeps.refl _ _
      refine Keeps.then ?_ (State.ruleAct_keeps _ _ _ _) rfl
      exact keeps_x
    · exact Keeps.refl _ _

theorem State.readySet_keeps (s : State) (k : Nat) (room : Nat) (d : DSet) :
    Keeps 0x80010C00000020000D0060A s (State.readySet s k room d).1 := by
  unfold State.readySet
  extract_lets +onlyGivenNames -merge -useContext seen
  refine Keeps.fold_fst ?_ (fun t1 y2 => ?_)
  · dsimp only
    exact Keeps.refl _ _
  · extract_lets +onlyGivenNames -merge -useContext f
    extract_lets +onlyGivenNames -merge -useContext fresh
    extract_lets +onlyGivenNames -merge -useContext did
    extract_lets +onlyGivenNames -merge -useContext s1
    have keeps_s1 : Keeps 0x80010C00000020000D0060A t1.fst s1 := by
      unfold s1
      exact Keeps.refl _ _
    extract_lets +onlyGivenNames -merge -useContext s1_2
    extract_lets +onlyGivenNames -merge -useContext s1_3
    have keeps_s1_3 : Keeps 0x80010C00000020000D0060A t1.fst s1_3 := by
      unfold s1_3
      refine Keeps.ite ?_ ?_
      · refine Keeps.set_dbm ?_ rfl
        exact keeps_s1
      · exact Keeps.refl _ _
    extract_lets +onlyGivenNames -merge -useContext n
    extract_lets +onlyGivenNames -merge -useContext s2
    have keeps_s2 : Keeps 0x80010C00000020000D0060A t1.fst s2 := by
      unfold s2
      refine Keeps.ite ?_ ?_
      · refine Keeps.then ?_ (State.markRules_keeps _ _ _ _ _) rfl
        exact keeps_s1_3
      · exact keeps_s1_3
    exact keeps_s2

theorem State.readyAll_keeps (s : State) (k : Nat) : Keeps 0x80010C00000020000D0060A s (State.readyAll s k) := by
  unfold State.readyAll
  extract_lets +onlyGivenNames -merge -useContext t
  extract_lets +onlyGivenNames -merge -useContext r
  have keeps_r : Keeps 0x80010C00000020000D0060A s r.1 := by
    unfold r
    refine Keeps.fold_fst ?_ (fun t1 y2 => ?_)
    · dsimp only
      exact Keeps.refl _ _
    · extract_lets +onlyGivenNames -merge -useContext x
      have keeps_x : Keeps 0x80010C00000020000D0060A t1.fst x.1 := by
        unfold x
        refine Keeps.then ?_ (State.readySet_keeps _ _ _ _) rfl
        exact Keeps.refl _ _
      exact keeps_x
  refine Keeps.then ?_ (State.strmMod_keeps _ _ _) rfl
  exact keeps_r

theorem State.segOut_keeps (s : State) (k : Nat) (d : DSet) (x : Nat) (f : Feat) :
    Keeps 0x4000004020000000408 s (State.segOut s k d x f) := by
  unfold State.segOut
  refine Keeps.ite ?_ ?_
  · extract_lets +onlyGivenNames -merge -useContext part
    extract_lets +onlyGivenNames -merge -useContext s1
    have keeps_s1 : Keeps 0x4000004020000000408 s s1 := by
      unfold s1
      refine Keeps.then ?_ (State.emit_keeps _ _ _ _) rfl
      exact Keeps.refl _ _
    refine Keeps.set_ring ?_ rfl
    exact keeps_s1
  · extract_lets +onlyGivenNames -merge -useContext s1
    have keeps_s1 : Keeps 0x4000004020000000408 s s1 := by
      unfold s1
      refine Keeps.then ?_ (State.addRec_keeps _ _ _) rfl
      exact Keeps.refl _ _
    refine Keeps.ite ?_ ?_
    · refine Keeps.then ?_ (State.inc_keeps _ _ _) (Sub.or rfl rfl)
      exact keeps_s1
    · exact keeps_s1

theorem State.passSet_keeps (k : Nat) (phi : Nat) (p2 : Nat) (p3 : DSet) (p4 : State) :
    Keeps 0x4000004020000000408 p4 (State.passSet k phi p2 p3 p4).1 := by
  induction p2 generalizing k phi p3 p4 with
  | zero =>
    rw [State.passSet]
    dsimp only
    exact Keeps.refl _ _
  | succ j ih =>
    rw [State.passSet]
    split
    · dsimp only
      exact Keeps.refl _ _
    · refine Keeps.ite_fst ?_ ?_
      · refine Keeps.then ?_ (ih _ _ _ _) (Sub.refl _)
        refine Keeps.then ?_ (State.segOut_keeps _ _ _ _ _) rfl
        exact Keeps.refl _ _
      · dsimp only
        exact Keeps.refl _ _

theorem State.passAll_keeps (s : State) (k : Nat) (phi : Nat) : Keeps 0x4000004020000000408 s (State.passAll s k phi) := by
  unfold State.passAll
  extract_lets +onlyGivenNames -merge -useContext r
  have keeps_r : Keeps 0x4000004020000000408 s r.1 := by
    unfold r
    refine Keeps.fold_fst ?_ (fun t1 y2 => ?_)
    · dsimp only
      exact Keeps.refl _ _
    · extract_lets +onlyGivenNames -merge -useContext x
      have keeps_x : Keeps 0x4000004020000000408 t1.fst x.1 := by
        unfold x
        refine Keeps.then ?_ (State.passSet_keeps _ _ _ _ _) rfl
        exact Keeps.refl _ _
      dsimp only
      exact keeps_x
  refine Keeps.then ?_ (State.strmMod_keeps _ _ _) rfl
  exact keeps_r

theorem State.lagChunks_keeps (p0 : Nat) (p1 : Nat) (p2 : Nat) (p3 : State) :
    Keeps 0x80000000000020000000008 p3 (State.lagChunks p0 p1 p2 p3) := by
  induction p0 generalizing p1 p2 p3 with
  | zero =>
    rw [State.lagChunks]
    exact Keeps.refl _ _
  | succ j ih =>
    rw [State.lagChunks]
    refine Keeps.ite ?_ ?_
    · exact Keeps.refl _ _
    · refine Keeps.then ?_ (ih _ _ _) (Sub.refl _)
      refine Keeps.then ?_ (State.dbmCount_keeps _ _ _ _) rfl
      refine Keeps.then ?_ (State.addRec_keeps _ _ _) rfl
      refine Keeps.set_dbm ?_ rfl
      exact Keeps.refl _ _

theorem State.shedShow_keeps (s : State) : Keeps 0x80000000000000000000008 s (State.shedShow s) := by
  unfold State.shedShow
  extract_lets +onlyGivenNames -merge -useContext t
  extract_lets +onlyGivenNames -merge -useContext q
  extract_lets +onlyGivenNames -merge -useContext x
  refine Keeps.then ?_ (State.wf_keeps _ _ _ _) (Sub.or rfl rfl)
  refine Keeps.then ?_ (State.wf_keeps _ _ _ _) (Sub.or rfl rfl)
  refine Keeps.then ?_ (State.wf_keeps _ _ _ _) (Sub.or rfl rfl)
  exact Keeps.refl _ _

theorem State.phiMove_keeps (s : State) (k : Nat) : Keeps 0x80014C00004020000D0060A s (State.phiMove s k) := by
  unfold State.phiMove
  extract_lets +onlyGivenNames -merge -useContext t
  extract_lets +onlyGivenNames -merge -useContext phi
  extract_lets +onlyGivenNames -merge -useContext p
  extract_lets +onlyGivenNames -merge -useContext s1
  have keeps_s1 : Keeps 0x80014C00004020000D0060A s s1 := by
    unfold s1
    refine Keeps.then ?_ (State.strmMod_keeps _ _ _) rfl
    exact Keeps.refl _ _
  extract_lets +onlyGivenNames -merge -useContext s2
  have keeps_s2 : Keeps 0x80014C00004020000D0060A s s2 := by
    unfold s2
    refine Keeps.ite ?_ ?_
    · refine Keeps.then ?_ (State.wf64_keeps _ _ _ _) (Sub.or rfl rfl)
      exact keeps_s1
    · exact keeps_s1
  extract_lets +onlyGivenNames -merge -useContext s3
  have keeps_s3 : Keeps 0x80014C00004020000D0060A s s3 := by
    unfold s3
    refine Keeps.then ?_ (State.passAll_keeps _ _ _) rfl
    refine Keeps.then ?_ (State.readyAll_keeps _ _) rfl
    exact keeps_s2
  refine Keeps.ite ?_ ?_
  · refine Keeps.then ?_ (State.shedShow_keeps _) rfl
    refine Keeps.fold ?_ (fun t1 y2 => ?_)
    · exact keeps_s3
    · refine Keeps.then ?_ (State.lagChunks_keeps _ _ _ _) rfl
      exact Keeps.refl _ _
  · exact keeps_s3

theorem State.strmDrain_keeps (s : State) (k : Nat) : Keeps 0x80014C00004020000D0060A s (State.strmDrain s k) := by
  unfold State.strmDrain
  refine Keeps.then ?_ (State.passAll_keeps _ _ _) rfl
  refine Keeps.then ?_ (State.readyAll_keeps _ _) rfl
  exact Keeps.refl _ _

theorem State.strmRestart_keeps (s : State) (k : Nat) : Keeps 0x80014C00004020000D0060A s (State.strmRestart s k) := by
  unfold State.strmRestart
  refine Keeps.then ?_ (State.strmMod_keeps _ _ _) rfl
  refine Keeps.then ?_ (State.strmDrain_keeps _ _) rfl
  exact Keeps.refl _ _

theorem State.ringTouch_keeps (s : State) (r : Report) : Keeps 0x20000000000 s (State.ringTouch s r) := by
  unfold State.ringTouch
  extract_lets +onlyGivenNames -merge -useContext bit
  refine Keeps.ite ?_ ?_
  · exact Keeps.refl _ _
  · refine Keeps.then ?_ (State.strmMod_keeps _ _ _) rfl
    exact Keeps.refl _ _

theorem State.strmTake_keeps (s : State) (g : Nat) (it : Item) : Keeps 0x80014C00004020000D0060A s (State.strmTake s g it) := by
  unfold State.strmTake
  extract_lets +onlyGivenNames -merge -useContext k
  split
  · refine Keeps.then ?_ (State.shedShow_keeps _) rfl
    refine Keeps.then ?_ (State.readyAll_keeps _ _) rfl
    refine Keeps.then ?_ (State.strmMod_keeps _ _ _) rfl
    exact Keeps.refl _ _
  · refine Keeps.then ?_ (State.readyAll_keeps _ _) rfl
    refine Keeps.then ?_ (State.ringTouch_keeps _ _) rfl
    refine Keeps.then ?_ (State.strmMod_keeps _ _ _) rfl
    exact Keeps.refl _ _
  · refine Keeps.then ?_ (State.addRec_keeps _ _ _) rfl
    exact Keeps.refl _ _
  · refine Keeps.then ?_ (State.addRec_keeps _ _ _) rfl
    exact Keeps.refl _ _
  · refine Keeps.then ?_ (State.readyAll_keeps _ _) rfl
    refine Keeps.then ?_ (State.strmMod_keeps _ _ _) rfl
    exact Keeps.refl _ _
  · refine Keeps.ite ?_ ?_
    · exact Keeps.refl _ _
    · refine Keeps.then ?_ (State.strmRestart_keeps _ _) rfl
      exact Keeps.refl _ _
  · exact Keeps.refl _ _

theorem State.strmFront_keeps (s : State) (g : Nat) (m : Nat) : Keeps 0x80014C00004020000D0060A s (State.strmFront s g m) := by
  unfold State.strmFront
  extract_lets +onlyGivenNames -merge -useContext k
  refine Keeps.then ?_ (State.phiMove_keeps _ _) rfl
  refine Keeps.then ?_ (State.strmMod_keeps _ _ _) rfl
  exact Keeps.refl _ _

theorem State.sliceOut_keeps (s : State) (g : Nat) (it : Item) : Keeps 0x80014C00004020000D0060A s (State.sliceOut s g it) := by
  unfold State.sliceOut
  refine Keeps.ite ?_ ?_
  · refine Keeps.then ?_ (State.strmTake_keeps _ _ _) rfl
    exact Keeps.refl _ _
  · refine Keeps.then ?_ (State.sliceMod_keeps _ _ _) rfl
    exact Keeps.refl _ _

theorem State.sliceTake_keeps (s : State) (g : Nat) (it : Item) : Keeps 0x80014C00004020000D0060A s (State.sliceTake s g it) := by
  unfold State.sliceTake
  extract_lets +onlyGivenNames -merge -useContext c
  extract_lets +onlyGivenNames -merge -useContext s1
  have keeps_s1 : Keeps 0x80014C00004020000D0060A s s1 := by
    unfold s1
    refine Keeps.then ?_ (State.sliceMod_keeps _ _ _) rfl
    exact Keeps.refl _ _
  extract_lets +onlyGivenNames -merge -useContext line
  extract_lets +onlyGivenNames -merge -useContext s2
  have keeps_s2 : Keeps 0x80014C00004020000D0060A s s2 := by
    unfold s2
    refine Keeps.then ?_ (State.sliceOut_keeps _ _ _) rfl
    exact keeps_s1
  extract_lets +onlyGivenNames -merge -useContext l
  split
  · refine Keeps.ite ?_ ?_
    · refine Keeps.then ?_ (State.ev_keeps _ _ _) rfl
      refine Keeps.then ?_ (State.add_keeps _ _ _ _) rfl
      refine Keeps.then ?_ (State.sliceOut_keeps _ _ _) rfl
      refine Keeps.then ?_ (State.sliceMod_keeps _ _ _) rfl
      exact keeps_s2
    · exact keeps_s2
  · exact keeps_s2

theorem State.mergeFlushed_keeps (s : State) (g : Nat) : Keeps 0x80014C000040A0000D0060A s (State.mergeFlushed s g) := by
  unfold State.mergeFlushed
  split
  · exact Keeps.refl _ _
  · extract_lets +onlyGivenNames -merge -useContext lost
    extract_lets +onlyGivenNames -merge -useContext front
    extract_lets +onlyGivenNames -merge -useContext ends
    extract_lets +onlyGivenNames -merge -useContext alive
    extract_lets +onlyGivenNames -merge -useContext s1
    have keeps_s1 : Keeps 0x80014C000040A0000D0060A s s1 := by
      unfold s1
      refine Keeps.then ?_ (State.sliceMod_keeps _ _ _) rfl
      exact Keeps.refl _ _
    extract_lets +onlyGivenNames -merge -useContext __src
    have keeps___src : Keeps 0x80014C000040A0000D0060A s __src := by
      unfold __src
      refine Keeps.then ?_ (State.sliceOut_keeps _ _ _) rfl
      exact keeps_s1
    refine Keeps.set_tapLost ?_ rfl
    exact keeps___src

theorem State.mergeGap_keeps (s : State) (g : Nat) (m : Nat) : Keeps 0xA0000000000 s (State.mergeGap s g m) := by
  unfold State.mergeGap
  split
  · exact Keeps.refl _ _
  · split
    · exact Keeps.refl _ _
    · extract_lets +onlyGivenNames -merge -useContext s1
      have keeps_s1 : Keeps 0xA0000000000 s s1 := by
        unfold s1
        refine Keeps.set_tapLost ?_ rfl
        exact Keeps.refl _ _
      refine Keeps.ite ?_ ?_
      · exact keeps_s1
      · refine Keeps.then ?_ (State.addRec_keeps _ _ _) rfl
        exact keeps_s1

theorem State.sliceNext_keeps (s : State) (g : Nat) : Keeps 0x80114C000040A0020D0060A s (State.sliceNext s g) := by
  unfold State.sliceNext
  split
  · rename_i w1 w2 w3 w4 w5
    have k6 : Keeps 0x80114C000040A0020D0060A s w4 := by
      refine Keeps.then ?_ (State.takeNext_keeps _ _ _ _ w5) rfl
      exact Keeps.refl _ _
    exact Keeps.refl _ _
  · rename_i w7 w8 w9
    have k10 : Keeps 0x80114C000040A0020D0060A s w8 := by
      refine Keeps.then ?_ (State.takeNext_keeps _ _ _ _ w9) rfl
      exact Keeps.refl _ _
    refine Keeps.then ?_ (State.mergeFlushed_keeps _ _) rfl
    exact k10
  · rename_i w11 w12 w13 w14 w15 w16
    have k17 : Keeps 0x80114C000040A0020D0060A s w13 := by
      refine Keeps.then ?_ (State.takeNext_keeps _ _ _ _ w16) rfl
      exact Keeps.refl _ _
    refine Keeps.then ?_ (State.sliceTake_keeps _ _ _) rfl
    exact k17
  · exact Keeps.refl _ _

theorem execDbmFragment_keeps (g : Nat) (s : State) : KeepsO 0x80114C000040A0020D0060A s (execDbmFragment g s) := by
  unfold execDbmFragment
  refine KeepsO.next ?_
  refine Keeps.then ?_ (State.sliceNext_keeps _ _) rfl
  exact Keeps.refl _ _

theorem State.fwdNext_keeps (s : State) (c : Nat) : Keeps 0x80014C00004020000D0060A s (State.fwdNext s c) := by
  unfold State.fwdNext
  split
  · exact Keeps.refl _ _
  · refine Keeps.then ?_ (State.strmTake_keeps _ _ _) rfl
    refine Keeps.then ?_ (State.sliceMod_keeps _ _ _) rfl
    exact Keeps.refl _ _

theorem execDbmPartialSet_keeps (c : Nat) (s : State) : KeepsO 0x80014C00004020000D0060A s (execDbmPartialSet c s) := by
  unfold execDbmPartialSet
  refine KeepsO.next ?_
  refine Keeps.then ?_ (State.fwdNext_keeps _ _) rfl
  exact Keeps.refl _ _

theorem State.frontNext_keeps (s : State) (g : Nat) : Keeps 0x80114C000040A0020D0060A s (State.frontNext s g) := by
  unfold State.frontNext
  split
  · rename_i w1 w2 w3 w4 w5
    have k6 : Keeps 0x80114C000040A0020D0060A s w4 := by
      refine Keeps.then ?_ (State.takeNext_keeps _ _ _ _ w5) rfl
      exact Keeps.refl _ _
    refine Keeps.ite ?_ ?_
    · refine Keeps.then ?_ (State.strmFront_keeps _ _ _) rfl
      refine Keeps.then ?_ (State.mergeGap_keeps _ _ _) rfl
      exact k6
    · exact Keeps.refl _ _
  · exact Keeps.refl _ _

theorem execFrontierAdvance_keeps (g : Nat) (s : State) : KeepsO 0x80114C000040A0020D0060A s (execFrontierAdvance g s) := by
  unfold execFrontierAdvance
  refine KeepsO.next ?_
  refine Keeps.then ?_ (State.frontNext_keeps _ _) rfl
  exact Keeps.refl _ _

theorem State.mergeRun_keeps (p0 : Nat) (p1 : Nat) (p2 : State) : Keeps 0x80114C000040A0020D0060A p2 (State.mergeRun p0 p1 p2) := by
  induction p0 generalizing p1 p2 with
  | zero =>
    rw [State.mergeRun]
    exact Keeps.refl _ _
  | succ j ih =>
    rw [State.mergeRun]
    refine Keeps.then ?_ (ih _ _) (Sub.refl _)
    refine Keeps.then ?_ (State.frontNext_keeps _ _) rfl
    refine Keeps.then ?_ (State.fwdNext_keeps _ _) rfl
    refine Keeps.then ?_ (State.sliceNext_keeps _ _) rfl
    exact Keeps.refl _ _

theorem State.exclude_keeps (s : State) (g : Nat) (f : Nat) : Keeps 0xC0014C00004020000D0060A s (State.exclude s g f) := by
  unfold State.exclude
  extract_lets +onlyGivenNames -merge -useContext s1
  have keeps_s1 : Keeps 0xC0014C00004020000D0060A s s1 := by
    unfold s1
    refine Keeps.then ?_ (State.wf_keeps _ _ _ _) rfl
    exact Keeps.refl _ _
  refine Keeps.then ?_ (State.phiMove_keeps _ _) rfl
  refine Keeps.then ?_ (State.ev_keeps _ _ _) rfl
  refine Keeps.then ?_ (State.lagShow_keeps _) rfl
  refine Keeps.set_dbm ?_ rfl
  exact keeps_s1

theorem execCarriageLag_keeps (g : Nat) (s : State) : KeepsO 0xC0114C000040B0020D0060A s (execCarriageLag g s) := by
  unfold execCarriageLag
  refine KeepsO.next ?_
  extract_lets +onlyGivenNames -merge -useContext f
  extract_lets +onlyGivenNames -merge -useContext web
  refine Keeps.ite ?_ ?_
  · exact Keeps.refl _ _
  · extract_lets +onlyGivenNames -merge -useContext s1
    have keeps_s1 : Keeps 0xC0114C000040B0020D0060A s s1 := by
      unfold s1
      refine Keeps.then ?_ (State.ev_keeps _ _ _) rfl
      refine Keeps.then ?_ (State.lblCloseAll_keeps _ _ _ _ _) rfl
      exact Keeps.refl _ _
    extract_lets +onlyGivenNames -merge -useContext s2
    have keeps_s2 : Keeps 0xC0114C000040B0020D0060A s s2 := by
      unfold s2
      refine Keeps.then ?_ (State.lblShow_keeps _ _) rfl
      refine Keeps.then ?_ (State.lblMod_keeps _ _ _) rfl
      exact keeps_s1
    refine Keeps.then ?_ (State.exclude_keeps _ _ _) rfl
    refine Keeps.then ?_ (State.mergeRun_keeps _ _ _) rfl
    exact keeps_s2

end Sys2Proof.Machine
end

