-- ==== Sys2Proof/Laws/KeepsRecords.lean ====
section
/-! SUPPORT. Frames of the operations of Machine/Records.lean: what each may change, one lemma each. -/

namespace Sys2Proof.Machine

theorem State.patSet_keeps (s : State) (i : Nat) (l : List PatJob) : Keeps 0x200000000000040000000008 s (State.patSet s i l) := by
  unfold State.patSet
  refine Keeps.then ?_ (State.wf_keeps _ _ _ _) (Sub.or rfl rfl)
  refine Keeps.set_pat ?_ rfl
  exact Keeps.refl _ _

theorem State.patShed_keeps (s : State) (i : Nat) (k : Nat) : Keeps 0x200010000000020000100608 s (State.patShed s i k) := by
  unfold State.patShed
  extract_lets +onlyGivenNames -merge -useContext p
  refine Keeps.then ?_ (State.strmMod_keeps _ _ _) rfl
  refine Keeps.then ?_ (State.ev_keeps _ _ _) (Sub.or rfl rfl)
  refine Keeps.then ?_ (State.inc_keeps _ _ _) (Sub.or rfl rfl)
  exact Keeps.refl _ _

theorem State.patOffer_keeps (s : State) (j : PatJob) : Keeps 0x200010000000060000100608 s (State.patOffer s j).1 := by
  unfold State.patOffer
  extract_lets +onlyGivenNames -merge -useContext i
  refine Keeps.ite_fst ?_ ?_
  · dsimp only
    exact Keeps.refl _ _
  · refine Keeps.ite_fst ?_ ?_
    · dsimp only
      refine Keeps.then ?_ (State.patShed_keeps _ _ _) rfl
      exact Keeps.refl _ _
    · dsimp only
      refine Keeps.then ?_ (State.patSet_keeps _ _ _) rfl
      exact Keeps.refl _ _

theorem State.storeRec_keeps (s : State) (k : Nat) (seq : Nat) (r : Rec) :
    Keeps 0x80210000008000003100608 s (State.storeRec s k seq r) := by
  unfold State.storeRec
  extract_lets +onlyGivenNames -merge -useContext q
  extract_lets +onlyGivenNames -merge -useContext s1
  have keeps_s1 : Keeps 0x80210000008000003100608 s s1 := by
    unfold s1
    refine Keeps.then ?_ (State.dramPut_keeps _ _ _ _) rfl
    exact Keeps.refl _ _
  extract_lets +onlyGivenNames -merge -useContext s2
  have keeps_s2 : Keeps 0x80210000008000003100608 s s2 := by
    unfold s2
    refine Keeps.then ?_ (State.wf64_keeps _ _ _ _) (Sub.or rfl (Sub.blk .DBM (by unfold seqReg; split <;> rfl) rfl))
    exact keeps_s1
  extract_lets +onlyGivenNames -merge -useContext s3
  have keeps_s3 : Keeps 0x80210000008000003100608 s s3 := by
    unfold s3
    refine Keeps.then ?_ (State.dbmCount_keeps _ _ _ _) rfl
    exact keeps_s2
  extract_lets +onlyGivenNames -merge -useContext s4
  have keeps_s4 : Keeps 0x80210000008000003100608 s s4 := by
    unfold s4
    refine Keeps.ite ?_ ?_
    · refine Keeps.then ?_ (State.dbmCount_keeps _ _ _ _) rfl
      exact keeps_s3
    · refine Keeps.ite ?_ ?_
      · refine Keeps.then ?_ (State.dbmCount_keeps _ _ _ _) rfl
        exact keeps_s3
      · exact keeps_s3
  extract_lets +onlyGivenNames -merge -useContext n
  refine Keeps.then ?_ (State.evIf_keeps _ _ _ _) rfl
  exact keeps_s4

theorem State.shadow_keeps (s : State) (r : Rec) : Keeps 0x2020000000000 s (State.shadow s r) := by
  unfold State.shadow
  refine Keeps.ite ?_ ?_
  · refine Keeps.then ?_ (State.pairMod_keeps _ _) rfl
    exact Keeps.refl _ _
  · refine Keeps.then ?_ (State.strmMod_keeps _ _ _) rfl
    exact Keeps.refl _ _

theorem State.writeRec_keeps (s : State) (k : Nat) (r : Rec) : Keeps 0x28021000000A060003100608 s (State.writeRec s k r) := by
  unfold State.writeRec
  extract_lets +onlyGivenNames -merge -useContext seq
  refine Keeps.ite ?_ ?_
  · refine Keeps.then ?_ (State.shadow_keeps _ _) rfl
    exact Keeps.refl _ _
  · refine Keeps.ite ?_ ?_
    · exact Keeps.refl _ _
    · extract_lets +onlyGivenNames -merge -useContext x
      have keeps_x : Keeps 0x28021000000A060003100608 s x.1 := by
        unfold x
        split
        · extract_lets +onlyGivenNames -merge -useContext y
          have keeps_y : Keeps 0x28021000000A060003100608 s y.1 := by
            unfold y
            refine Keeps.then ?_ (State.patOffer_keeps _ _) rfl
            exact Keeps.refl _ _
          exact keeps_y
        · dsimp only
          exact Keeps.refl _ _
      extract_lets +onlyGivenNames -merge -useContext flags
      extract_lets +onlyGivenNames -merge -useContext b
      refine Keeps.ite ?_ ?_
      · refine Keeps.then ?_ (State.strmMod_keeps _ _ _) rfl
        refine Keeps.then ?_ (State.emit_keeps _ _ _ _) rfl
        exact keeps_x
      · refine Keeps.then ?_ (State.storeRec_keeps _ _ _ _) rfl
        exact keeps_x

theorem State.flushAwaiting_keeps (s : State) (upTo : Nat) : Keeps 0x80210000008020003100608 s (State.flushAwaiting s upTo) := by
  unfold State.flushAwaiting
  extract_lets +onlyGivenNames -merge -useContext l
  extract_lets +onlyGivenNames -merge -useContext s1
  have keeps_s1 : Keeps 0x80210000008020003100608 s s1 := by
    unfold s1
    refine Keeps.then ?_ (State.strmMod_keeps _ _ _) rfl
    exact Keeps.refl _ _
  refine Keeps.fold ?_ (fun t1 y2 => ?_)
  · exact keeps_s1
  · refine Keeps.then ?_ (State.storeRec_keeps _ _ _ _) rfl
    exact Keeps.refl _ _

theorem State.foldIn_keeps (s : State) (k : Nat) (period : Nat) (lines : Nat) (counts : List Nat) (patches : Nat) (gaps : Nat) (mdEnd : Nat) :
    Keeps 0x80010000000020000100608 s (State.foldIn s k period lines counts patches gaps mdEnd) := by
  unfold State.foldIn
  extract_lets +onlyGivenNames -merge -useContext f
  extract_lets +onlyGivenNames -merge -useContext s1
  have keeps_s1 : Keeps 0x80010000000020000100608 s s1 := by
    unfold s1
    refine Keeps.then ?_ (State.strmMod_keeps _ _ _) rfl
    exact Keeps.refl _ _
  refine Keeps.then ?_ (State.ev_keeps _ _ _) rfl
  refine Keeps.then ?_ (State.dbmCount_keeps _ _ _ _) rfl
  exact keeps_s1

theorem State.sumGo_keeps (s : State) (k : Nat) (x : Shed) : Keeps 0x28021000000A060003100608 s (State.sumGo s k x) := by
  unfold State.sumGo
  extract_lets +onlyGivenNames -merge -useContext full
  extract_lets +onlyGivenNames -merge -useContext done
  have keeps_done : Keeps 0x28021000000A060003100608 s done := by
    unfold done
    refine Keeps.then ?_ (State.strmMod_keeps _ _ _) rfl
    exact Keeps.refl _ _
  extract_lets +onlyGivenNames -merge -useContext e
  refine Keeps.ite ?_ ?_
  · refine Keeps.then ?_ (State.foldIn_keeps _ _ _ _ _ _ _ _) rfl
    exact keeps_done
  · refine Keeps.then ?_ (State.writeRec_keeps _ _ _) rfl
    exact keeps_done

theorem State.recGo_keeps (s : State) (k : Nat) (r : Rec) : Keeps 0x28021000000A060003100608 s (State.recGo s k r) := by
  unfold State.recGo
  extract_lets +onlyGivenNames -merge -useContext t
  extract_lets +onlyGivenNames -merge -useContext q
  extract_lets +onlyGivenNames -merge -useContext x
  extract_lets +onlyGivenNames -merge -useContext s1
  have keeps_s1 : Keeps 0x28021000000A060003100608 s s1 := by
    unfold s1
    refine Keeps.then ?_ (State.strmMod_keeps _ _ _) rfl
    exact Keeps.refl _ _
  extract_lets +onlyGivenNames -merge -useContext xp
  refine Keeps.ite ?_ ?_
  · refine Keeps.ite ?_ ?_
    · extract_lets +onlyGivenNames -merge -useContext s2
      have keeps_s2 : Keeps 0x28021000000A060003100608 s s2 := by
        unfold s2
        refine Keeps.then ?_ (State.strmMod_keeps _ _ _) rfl
        exact keeps_s1
      refine Keeps.then ?_ (State.ev_keeps _ _ _) rfl
      refine Keeps.then ?_ (State.dbmCount_keeps _ _ _ _) rfl
      exact keeps_s2
    · refine Keeps.then ?_ (State.writeRec_keeps _ _ _) rfl
      exact keeps_s1
  · refine Keeps.ite ?_ ?_
    · refine Keeps.then ?_ (State.foldIn_keeps _ _ _ _ _ _ _ _) rfl
      exact keeps_s1
    · refine Keeps.then ?_ (State.writeRec_keeps _ _ _) rfl
      exact keeps_s1

theorem State.recNext_keeps (s : State) (k : Nat) (phi : Nat) : Keeps 0x28021000000A060003100608 s (State.recNext s k phi) := by
  unfold State.recNext
  extract_lets +onlyGivenNames -merge -useContext t
  extract_lets +onlyGivenNames -merge -useContext free
  split
  · refine Keeps.ite ?_ ?_
    · refine Keeps.then ?_ (State.writeRec_keeps _ _ _) rfl
      refine Keeps.then ?_ (State.strmMod_keeps _ _ _) rfl
      exact Keeps.refl _ _
    · unfold State.recNext.go
      extract_lets +onlyGivenNames -merge -useContext head
      split
      · refine Keeps.ite ?_ ?_
        · refine Keeps.then ?_ (State.sumGo_keeps _ _ _) rfl
          exact Keeps.refl _ _
        · refine Keeps.then ?_ (State.recGo_keeps _ _ _) rfl
          exact Keeps.refl _ _
      · refine Keeps.then ?_ (State.sumGo_keeps _ _ _) rfl
        exact Keeps.refl _ _
      · refine Keeps.then ?_ (State.recGo_keeps _ _ _) rfl
        exact Keeps.refl _ _
      · exact Keeps.refl _ _
  · unfold State.recNext.go
    extract_lets +onlyGivenNames -merge -useContext head
    split
    · refine Keeps.ite ?_ ?_
      · refine Keeps.then ?_ (State.sumGo_keeps _ _ _) rfl
        exact Keeps.refl _ _
      · refine Keeps.then ?_ (State.recGo_keeps _ _ _) rfl
        exact Keeps.refl _ _
    · refine Keeps.then ?_ (State.sumGo_keeps _ _ _) rfl
      exact Keeps.refl _ _
    · refine Keeps.then ?_ (State.recGo_keeps _ _ _) rfl
      exact Keeps.refl _ _
    · exact Keeps.refl _ _

theorem State.recNext.go_keeps (k : Nat) (phi : Nat) (s : State) (t : Stream) :
    Keeps 0x28021000000A060003100608 s (State.recNext.go k phi s t) := by
  unfold State.recNext.go
  extract_lets +onlyGivenNames -merge -useContext head
  split
  · refine Keeps.ite ?_ ?_
    · refine Keeps.then ?_ (State.sumGo_keeps _ _ _) rfl
      exact Keeps.refl _ _
    · refine Keeps.then ?_ (State.recGo_keeps _ _ _) rfl
      exact Keeps.refl _ _
  · refine Keeps.then ?_ (State.sumGo_keeps _ _ _) rfl
    exact Keeps.refl _ _
  · refine Keeps.then ?_ (State.recGo_keeps _ _ _) rfl
    exact Keeps.refl _ _
  · exact Keeps.refl _ _

theorem execRecordWrite_keeps (k : Nat) (s : State) : KeepsO 0x28021000000A060003100608 s (execRecordWrite k s) := by
  unfold execRecordWrite
  refine KeepsO.next ?_
  refine Keeps.then ?_ (State.shedShow_keeps _) rfl
  refine Keeps.then ?_ (State.recNext_keeps _ _ _) rfl
  exact Keeps.refl _ _

theorem State.actAck_keeps (s : State) (k : Nat) (w : Word) :
    Keeps (0x80000000000000000000408 ||| blkBit ((ackReg k).2.blk)) s (State.actAck s k w) := by
  unfold State.actAck
  extract_lets +onlyGivenNames -merge -useContext new
  refine Keeps.ite ?_ ?_
  · exact Keeps.refl _ _
  · extract_lets +onlyGivenNames -merge -useContext s1
    have keeps_s1 : Keeps ((0x80000000000000000000408 ||| blkBit ((ackReg k).2.blk))) s s1 := by
      unfold s1
      refine Keeps.then ?_ (State.shedShow_keeps _) (Sub.l rfl)
      refine Keeps.then ?_ (State.wf64_keeps _ _ _ _) (Sub.or (Sub.l rfl) (Sub.r _ _))
      exact Keeps.refl _ _
    refine Keeps.ite ?_ ?_
    · refine Keeps.then ?_ (State.emit_keeps _ _ _ _) (Sub.l rfl)
      exact keeps_s1
    · exact keeps_s1

theorem State.actAckLow_keeps (s : State) (k : Nat) (w : Word) : Keeps 0x20000000000 s (State.actAckLow s k w) := by
  unfold State.actAckLow
  refine Keeps.then ?_ (State.strmMod_keeps _ _ _) rfl
  exact Keeps.refl _ _

theorem execDbmAckWrite_keeps (m : Nat) (w : Word) (s : State) : KeepsO 0x80000090000000000041608 s (execDbmAckWrite m w s) := by
  unfold execDbmAckWrite
  refine KeepsO.next ?_
  refine Keeps.then ?_ (State.regDo_keeps (msk := 0x80000090000000000041608) _ _ _ _ _ _ (by exact rfl) (fun z1 => ?_)) (Sub.refl _)
  · exact Keeps.refl _ _
  · refine Keeps.then ?_ (State.actAck_keeps _ _ _) (Sub.or rfl rfl)
    exact Keeps.refl _ _

theorem execDbmRackWrite_keeps (m : Nat) (w : Word) (g : Nat) (s : State) :
    KeepsO (0x80000090000000000041608 ||| blkBit ((ackReg g).2.blk)) s (execDbmRackWrite m w g s) := by
  unfold execDbmRackWrite
  refine KeepsO.next ?_
  refine Keeps.then ?_ (State.regDo_keeps (msk := (0x80000090000000000041608 ||| blkBit ((ackReg g).2.blk))) _ _ _ _ _ _ (by exact Sub.l rfl) (fun z1 => ?_)) (Sub.refl _)
  · exact Keeps.refl _ _
  · refine Keeps.ite ?_ ?_
    · refine Keeps.then ?_ (State.actAck_keeps _ _ _) (Sub.or (Sub.l rfl) (Sub.r _ _))
      exact Keeps.refl _ _
    · exact Keeps.refl _ _

theorem State.patPut_keeps (s : State) (i : Nat) (stream : Nat) (l : List Byte) (clipped : Bool) (lost : Bool) (poison : Bool) :
    Keeps 0x200210010008020003140608 s (State.patPut s i stream l clipped lost poison) := by
  unfold State.patPut
  extract_lets +onlyGivenNames -merge -useContext slots
  extract_lets +onlyGivenNames -merge -useContext wr
  refine Keeps.ite ?_ ?_
  · refine Keeps.then ?_ (State.patShed_keeps _ _ _) rfl
    exact Keeps.refl _ _
  · extract_lets +onlyGivenNames -merge -useContext base
    extract_lets +onlyGivenNames -merge -useContext size
    extract_lets +onlyGivenNames -merge -useContext s1
    have keeps_s1 : Keeps 0x200210010008020003140608 s s1 := by
      unfold s1
      refine Keeps.then ?_ (State.dramWrite_keeps _ _ _ _ _) rfl
      exact Keeps.refl _ _
    extract_lets +onlyGivenNames -merge -useContext s2
    have keeps_s2 : Keeps 0x200210010008020003140608 s s2 := by
      unfold s2
      refine Keeps.then ?_ (State.ev_keeps _ _ _) rfl
      refine Keeps.then ?_ (State.inc_keeps _ _ _) rfl
      refine Keeps.then ?_ (State.wf_keeps _ _ _ _) rfl
      exact keeps_s1
    extract_lets +onlyGivenNames -merge -useContext s3
    have keeps_s3 : Keeps 0x200210010008020003140608 s s3 := by
      unfold s3
      refine Keeps.ite ?_ ?_
      · refine Keeps.then ?_ (State.ev_keeps _ _ _) rfl
        refine Keeps.then ?_ (State.inc_keeps _ _ _) rfl
        exact keeps_s2
      · exact keeps_s2
    extract_lets +onlyGivenNames -merge -useContext s4
    have keeps_s4 : Keeps 0x200210010008020003140608 s s4 := by
      unfold s4
      refine Keeps.ite ?_ ?_
      · refine Keeps.then ?_ (State.inc_keeps _ _ _) rfl
        exact keeps_s3
      · exact keeps_s3
    extract_lets +onlyGivenNames -merge -useContext s5
    have keeps_s5 : Keeps 0x200210010008020003140608 s s5 := by
      unfold s5
      refine Keeps.ite ?_ ?_
      · refine Keeps.then ?_ (State.inc_keeps _ _ _) rfl
        exact keeps_s4
      · exact keeps_s4
    refine Keeps.then ?_ (State.evIf_keeps _ _ _ _) rfl
    exact keeps_s5

theorem State.patCut_keeps (s : State) (i : Nat) (j : PatJob) : Keeps 0x200210010008020003140608 s (State.patCut s i j) := by
  unfold State.patCut
  extract_lets +onlyGivenNames -merge -useContext planes
  extract_lets +onlyGivenNames -merge -useContext b
  extract_lets +onlyGivenNames -merge -useContext px
  extract_lets +onlyGivenNames -merge -useContext lost
  extract_lets +onlyGivenNames -merge -useContext poison
  extract_lets +onlyGivenNames -merge -useContext md0
  extract_lets +onlyGivenNames -merge -useContext status
  refine Keeps.then ?_ (State.patPut_keeps _ _ _ _ _ _ _) rfl
  exact Keeps.refl _ _

theorem State.jobLeaves_keeps (s : State) (i : Nat) (place : Nat) : Keeps 0x20000000 s (State.jobLeaves s i place) := by
  unfold State.jobLeaves
  refine Keeps.set_mews ?_ rfl
  exact Keeps.refl _ _

theorem execPatchCut_keeps (i : Nat) (s : State) : KeepsO 0x200210010008060023140608 s (execPatchCut i s) := by
  unfold execPatchCut
  refine KeepsO.next ?_
  split
  · exact Keeps.refl _ _
  · refine Keeps.then ?_ (State.patCut_keeps _ _ _) rfl
    refine Keeps.then ?_ (State.patSet_keeps _ _ _) rfl
    refine Keeps.then ?_ (State.jobLeaves_keeps _ _ _) rfl
    exact Keeps.refl _ _

theorem State.patAbort_keeps (s : State) (i : Nat) (torn : PatJob → Bool) :
    Keeps 0x200210010008060003140608 s (State.patAbort s i torn) := by
  unfold State.patAbort
  refine Keeps.fold ?_ (fun t1 y2 => ?_)
  · refine Keeps.then ?_ (State.patSet_keeps _ _ _) rfl
    exact Keeps.refl _ _
  · extract_lets +onlyGivenNames -merge -useContext planes
    extract_lets +onlyGivenNames -merge -useContext b
    refine Keeps.then ?_ (State.patPut_keeps _ _ _ _ _ _ _) rfl
    exact Keeps.refl _ _

end Sys2Proof.Machine
end

