-- ==== Sys2Proof/Laws/KeepsMewsFlush.lean ====
section
/-! SUPPORT. Frames of the operations of Machine/MewsFlush.lean: what each may change, one lemma each. -/

namespace Sys2Proof.Machine

theorem State.mewDiscard_keeps (s : State) (c : Nat) (m : Nat) (n : Nat) (mark : List MewPkt) :
    Keeps 0x100000000000020000008 s (State.mewDiscard s c m n mark) := by
  unfold State.mewDiscard
  extract_lets +onlyGivenNames -merge -useContext k
  extract_lets +onlyGivenNames -merge -useContext w
  refine Keeps.then ?_ (State.add_keeps _ _ _ _) (Sub.or rfl rfl)
  refine Keeps.then ?_ (State.setMew_keeps _ _ _) rfl
  exact Keeps.refl _ _

theorem State.jobsShed_keeps (s : State) (k : Nat) (n : Nat) : Keeps 0x200010000000060000100608 s (State.jobsShed s k n) := by
  unfold State.jobsShed
  split
  · exact Keeps.refl _ _
  · refine Keeps.fold ?_ (fun t1 y2 => ?_)
    · refine Keeps.then ?_ (State.patSet_keeps _ _ _) rfl
      exact Keeps.refl _ _
    · refine Keeps.then ?_ (State.patShed_keeps _ _ _) rfl
      exact Keeps.refl _ _

theorem execMewsFlushBoundary_keeps (c : Nat) (m : Nat) (s : State) :
    KeepsO 0x200110000000060020100608 s (execMewsFlushBoundary c m s) := by
  unfold execMewsFlushBoundary
  refine KeepsO.next ?_
  extract_lets +onlyGivenNames -merge -useContext k
  extract_lets +onlyGivenNames -merge -useContext w
  split
  · exact Keeps.refl _ _
  · refine Keeps.ite ?_ ?_
    · exact Keeps.refl _ _
    · extract_lets +onlyGivenNames -merge -useContext i
      extract_lets +onlyGivenNames -merge -useContext j
      extract_lets +onlyGivenNames -merge -useContext s1
      have keeps_s1 : Keeps 0x200110000000060020100608 s s1 := by
        unfold s1
        refine Keeps.then ?_ (State.add_keeps _ _ _ _) (Sub.or rfl rfl)
        refine Keeps.then ?_ (State.jobsShed_keeps _ _ _) rfl
        refine Keeps.then ?_ (State.mewDiscard_keeps _ _ _ _ _) rfl
        exact Keeps.refl _ _
      refine Keeps.then ?_ (State.ev_keeps _ _ _) (Sub.or rfl rfl)
      refine Keeps.then ?_ (State.wf_keeps _ _ _ _) (Sub.or rfl rfl)
      refine Keeps.then ?_ (State.wf_keeps _ _ _ _) (Sub.or rfl rfl)
      refine Keeps.then ?_ (State.wf_keeps _ _ _ _) (Sub.or rfl rfl)
      exact keeps_s1

theorem State.mewLost_keeps (s : State) (c : Nat) (m : Nat) : Keeps 0x20000000 s (State.mewLost s c m) := by
  unfold State.mewLost
  extract_lets +onlyGivenNames -merge -useContext k
  extract_lets +onlyGivenNames -merge -useContext jobs
  refine Keeps.set_mews ?_ rfl
  exact Keeps.refl _ _

theorem State.lblTruncate_keeps (s : State) (g : Nat) : Keeps 0x40110000000010020100608 s (State.lblTruncate s g) := by
  unfold State.lblTruncate
  refine Keeps.then ?_ (State.lblShow_keeps _ _) rfl
  refine Keeps.then ?_ (State.lblCloseAll_keeps _ _ _ _ _) rfl
  exact Keeps.refl _ _

theorem State.recordsShed_keeps (s : State) (classes : List Nat) : Keeps 0x80000000000020000000008 s (State.recordsShed s classes) := by
  unfold State.recordsShed
  extract_lets +onlyGivenNames -merge -useContext xp
  refine Keeps.fold ?_ (fun t1 y2 => ?_)
  · exact Keeps.refl _ _
  · refine Keeps.then ?_ (State.strmMod_keeps _ _ _) rfl
    refine Keeps.then ?_ (State.dbmCount_keeps _ _ _ _) rfl
    exact Keeps.refl _ _

theorem State.tapFlushed_keeps (s : State) (k : Nat) (gone : List MewPkt) : Keeps 0xA0000000 s (State.tapFlushed s k gone) := by
  unfold State.tapFlushed
  extract_lets +onlyGivenNames -merge -useContext x
  split
  · refine Keeps.set_sta ?_ rfl
    exact Keeps.refl _ _
  · refine Keeps.then ?_ (State.tapLoseFirst_keeps _ _ _) rfl
    exact Keeps.refl _ _

theorem State.mewLoss_keeps (s : State) (k : Nat) (gone : List MewPkt) (jobs : Nat) (classes : List Nat) :
    Keeps 0x2C01100000000700A0100608 s (State.mewLoss s k gone jobs classes) := by
  unfold State.mewLoss
  split
  · refine Keeps.then ?_ (State.tapFlushed_keeps _ _ _) rfl
    exact Keeps.refl _ _
  · refine Keeps.then ?_ (State.jobsShed_keeps _ _ _) rfl
    exact Keeps.refl _ _
  · split
    · refine Keeps.then ?_ (State.lblTruncate_keeps _ _) rfl
      exact Keeps.refl _ _
    · exact Keeps.refl _ _
  · refine Keeps.then ?_ (State.recordsShed_keeps _ _) rfl
    exact Keeps.refl _ _
  · exact Keeps.refl _ _

theorem execMewsHwFlush_keeps (c : Nat) (m : Nat) (classes : List Nat) (s : State) :
    KeepsO 0x2C01100000000700A0100608 s (execMewsHwFlush c m classes s) := by
  unfold execMewsHwFlush
  refine KeepsO.next ?_
  extract_lets +onlyGivenNames -merge -useContext k
  extract_lets +onlyGivenNames -merge -useContext w
  split
  · exact Keeps.refl _ _
  · refine Keeps.ite ?_ ?_
    · exact Keeps.refl _ _
    · extract_lets +onlyGivenNames -merge -useContext kind
      extract_lets +onlyGivenNames -merge -useContext mark
      extract_lets +onlyGivenNames -merge -useContext i
      refine Keeps.then ?_ (State.ev_keeps _ _ _) rfl
      refine Keeps.then ?_ (State.inc_keeps _ _ _) rfl
      refine Keeps.then ?_ (State.mewLoss_keeps _ _ _ _ _) rfl
      refine Keeps.then ?_ (State.mewDiscard_keeps _ _ _ _ _) rfl
      exact Keeps.refl _ _

end Sys2Proof.Machine
end

