-- ==== Sys2Proof/Laws/KeepsTasks.lean ====
section
/-! SUPPORT. Frames of the operations of Machine/Tasks.lean: what each may change, one lemma each. -/

namespace Sys2Proof.Machine

theorem State.taskAdd_keeps (s : State) (c : Nat) (sink : Nat) (task : Nat) (n : Nat) :
    Keeps 0x10000000000000100608 s (State.taskAdd s c sink task n) := by
  unfold State.taskAdd
  extract_lets +onlyGivenNames -merge -useContext k
  extract_lets +onlyGivenNames -merge -useContext v
  extract_lets +onlyGivenNames -merge -useContext s1
  extract_lets +onlyGivenNames -merge -useContext x1
  have keeps_x1 : Keeps 0x10000000000000100608 s x1 := by
    unfold x1
    refine Keeps.set_rein ?_ rfl
    exact Keeps.refl _ _
  refine Keeps.ite ?_ ?_
  · refine Keeps.then ?_ (State.ev_keeps _ _ _) (Sub.or rfl rfl)
    refine Keeps.set_rein ?_ rfl
    exact keeps_x1
  · exact keeps_x1

theorem State.taskTake_keeps (s : State) (c : Nat) (sink : Nat) (task : Nat) (n : Nat) :
    Keeps 0x100000 s (State.taskTake s c sink task n) := by
  unfold State.taskTake
  extract_lets +onlyGivenNames -merge -useContext k
  refine Keeps.set_rein ?_ rfl
  exact Keeps.refl _ _

end Sys2Proof.Machine
end

