-- ==== Sys2Proof/Laws/KeepsSpr.lean ====
section
/-! SUPPORT. Frames of the operations of Machine/Spr.lean: what each may change, one lemma each. -/

namespace Sys2Proof.Machine

theorem State.sprMod_keeps (s : State) (g : Nat) (f : Spr → Spr) : Keeps 0x2000000000 s (State.sprMod s g f) := by
  unfold State.sprMod
  refine Keeps.set_spr ?_ rfl
  exact Keeps.refl _ _

theorem State.sprCount_keeps (s : State) (g : Nat) (n : Nat) (k : Nat) : Keeps 0x10000000000000000000008 s (State.sprCount s g n k) := by
  unfold State.sprCount
  refine Keeps.then ?_ (State.add_keeps _ _ _ _) (Sub.or rfl (Sub.blk .SPR (by first | rfl | exact blk_ite rfl rfl) rfl))
  exact Keeps.refl _ _

theorem State.sprApply_keeps (s : State) (g : Nat) (u : SprUpd) : Keeps 0x10010000000002000100608 s (State.sprApply s g u) := by
  unfold State.sprApply
  extract_lets +onlyGivenNames -merge -useContext x
  extract_lets +onlyGivenNames -merge -useContext grow
  extract_lets +onlyGivenNames -merge -useContext mask
  extract_lets +onlyGivenNames -merge -useContext hold
  extract_lets +onlyGivenNames -merge -useContext here
  extract_lets +onlyGivenNames -merge -useContext round
  extract_lets +onlyGivenNames -merge -useContext held
  extract_lets +onlyGivenNames -merge -useContext t
  extract_lets +onlyGivenNames -merge -useContext res
  extract_lets +onlyGivenNames -merge -useContext frozen
  extract_lets +onlyGivenNames -merge -useContext freed
  refine Keeps.then ?_ (State.evIf_keeps _ _ _ _) (Sub.or rfl rfl)
  refine Keeps.then ?_ (State.sprCount_keeps _ _ _ _) rfl
  refine Keeps.then ?_ (State.sprCount_keeps _ _ _ _) rfl
  refine Keeps.then ?_ (State.sprMod_keeps _ _ _) rfl
  exact Keeps.refl _ _

theorem State.sprDue_keeps (p0 : Nat) (p1 : Nat) (p2 : Nat) (p3 : State) :
    Keeps 0x10010000000002000100608 p3 (State.sprDue p0 p1 p2 p3).1 := by
  induction p0 generalizing p1 p2 p3 with
  | zero =>
    rw [State.sprDue]
    dsimp only
    exact Keeps.refl _ _
  | succ j ih =>
    rw [State.sprDue]
    split
    · dsimp only
      exact Keeps.refl _ _
    · extract_lets +onlyGivenNames -merge -useContext passed
      refine Keeps.ite_fst ?_ ?_
      · refine Keeps.then ?_ (ih _ _ _) rfl
        refine Keeps.then ?_ (State.sprCount_keeps _ _ _ _) rfl
        refine Keeps.then ?_ (State.sprMod_keeps _ _ _) rfl
        exact Keeps.refl _ _
      · refine Keeps.ite_fst ?_ ?_
        · dsimp only
          exact Keeps.refl _ _
        · refine Keeps.ite_fst ?_ ?_
          · dsimp only
            exact Keeps.refl _ _
          · refine Keeps.then ?_ (ih _ _ _) rfl
            refine Keeps.then ?_ (State.sprApply_keeps _ _ _) rfl
            refine Keeps.then ?_ (State.sprMod_keeps _ _ _) rfl
            exact Keeps.refl _ _

theorem State.sprReins_keeps (s : State) (g : Nat) (k : Nat) (f : Nat) : Keeps 0x10010000000002000100608 s (State.sprReins s g k f) := by
  unfold State.sprReins
  extract_lets +onlyGivenNames -merge -useContext w
  extract_lets +onlyGivenNames -merge -useContext c
  extract_lets +onlyGivenNames -merge -useContext sink
  extract_lets +onlyGivenNames -merge -useContext nf
  extract_lets +onlyGivenNames -merge -useContext nt
  extract_lets +onlyGivenNames -merge -useContext s1
  have keeps_s1 : Keeps 0x10010000000002000100608 s s1 := by
    unfold s1
    refine Keeps.ite ?_ ?_
    · exact Keeps.refl _ _
    · refine Keeps.then ?_ (State.ev_keeps _ _ _) (Sub.or rfl rfl)
      refine Keeps.then ?_ (State.sprMod_keeps _ _ _) rfl
      refine Keeps.then ?_ (State.taskTake_keeps _ _ _ _ _) rfl
      exact Keeps.refl _ _
  extract_lets +onlyGivenNames -merge -useContext s2
  have keeps_s2 : Keeps 0x10010000000002000100608 s s2 := by
    unfold s2
    refine Keeps.ite ?_ ?_
    · exact keeps_s1
    · refine Keeps.then ?_ (State.ev_keeps _ _ _) (Sub.or rfl rfl)
      refine Keeps.then ?_ (State.sprMod_keeps _ _ _) rfl
      refine Keeps.then ?_ (State.taskTake_keeps _ _ _ _ _) rfl
      exact keeps_s1
  extract_lets +onlyGivenNames -merge -useContext x1
  refine Keeps.then ?_ (State.wf_keeps _ _ _ _) (Sub.or rfl rfl)
  refine Keeps.then ?_ (State.wf_keeps _ _ _ _) (Sub.or rfl rfl)
  exact keeps_s2

theorem State.sprSeed_keeps (s : State) (g : Nat) (m : Nat) (n : Nat) : Keeps 0x10010000000002000100608 s (State.sprSeed s g m n) := by
  unfold State.sprSeed
  refine Keeps.then ?_ (State.ev_keeps _ _ _) (Sub.or rfl rfl)
  refine Keeps.then ?_ (State.wf_keeps _ _ _ _) (Sub.or rfl rfl)
  refine Keeps.then ?_ (State.sprCount_keeps _ _ _ _) rfl
  refine Keeps.then ?_ (State.sprMod_keeps _ _ _) rfl
  exact Keeps.refl _ _

theorem State.sprAcquire_keeps (s : State) (g : Nat) (i : Nat) (r : List Int) (bad : List Nat) :
    Keeps 0x2000000000 s (State.sprAcquire s g i r bad) := by
  unfold State.sprAcquire
  extract_lets +onlyGivenNames -merge -useContext t
  extract_lets +onlyGivenNames -merge -useContext a
  extract_lets +onlyGivenNames -merge -useContext shift
  refine Keeps.then ?_ (State.sprMod_keeps _ _ _) rfl
  exact Keeps.refl _ _

theorem State.sprShow_keeps (s : State) (g : Nat) (md : Int) : Keeps 0x10000000000000000000008 s (State.sprShow s g md) := by
  unfold State.sprShow
  extract_lets +onlyGivenNames -merge -useContext w
  extract_lets +onlyGivenNames -merge -useContext m
  refine Keeps.then ?_ (State.wf_keeps _ _ _ _) rfl
  refine Keeps.then ?_ (State.wf_keeps _ _ _ _) rfl
  refine Keeps.then ?_ (State.wf_keeps _ _ _ _) rfl
  exact Keeps.refl _ _

theorem State.sprSettings_keeps (s : State) (g : Nat) (md : Int) : Keeps 0xFFFFFFFF0000000000200018 s (State.sprSettings s g md) := by
  unfold State.sprSettings
  refine Keeps.then ?_ (State.sprShow_keeps _ _ _) rfl
  refine Keeps.then ?_ (State.armedAt_keeps _ _ _ _) rfl
  exact Keeps.refl _ _

theorem State.sprForm_keeps (s : State) (g : Nat) (i : Nat) (h : Nat) (final : Bool) (l : SprLine) :
    Keeps 0x10010000002002000100608 s (State.sprForm s g i h final l) := by
  unfold State.sprForm
  extract_lets +onlyGivenNames -merge -useContext w
  extract_lets +onlyGivenNames -merge -useContext m
  extract_lets +onlyGivenNames -merge -useContext sm
  extract_lets +onlyGivenNames -merge -useContext f
  extract_lets +onlyGivenNames -merge -useContext r
  extract_lets +onlyGivenNames -merge -useContext n
  extract_lets +onlyGivenNames -merge -useContext a
  extract_lets +onlyGivenNames -merge -useContext acq
  extract_lets +onlyGivenNames -merge -useContext t
  extract_lets +onlyGivenNames -merge -useContext own
  extract_lets +onlyGivenNames -merge -useContext s1
  have keeps_s1 : Keeps 0x10010000002002000100608 s s1 := by
    unfold s1
    refine Keeps.ite ?_ ?_
    · refine Keeps.then ?_ (State.sprAcquire_keeps _ _ _ _ _) rfl
      exact Keeps.refl _ _
    · refine Keeps.then ?_ (State.sprMod_keeps _ _ _) rfl
      exact Keeps.refl _ _
  extract_lets +onlyGivenNames -merge -useContext was
  extract_lets +onlyGivenNames -merge -useContext s2
  have keeps_s2 : Keeps 0x10010000002002000100608 s s2 := by
    unfold s2
    refine Keeps.then ?_ (State.evIf_keeps _ _ _ _) rfl
    refine Keeps.then ?_ (State.wf_keeps _ _ _ _) rfl
    exact keeps_s1
  extract_lets +onlyGivenNames -merge -useContext d
  extract_lets +onlyGivenNames -merge -useContext mute
  extract_lets +onlyGivenNames -merge -useContext e
  extract_lets +onlyGivenNames -merge -useContext sat
  extract_lets +onlyGivenNames -merge -useContext s3
  have keeps_s3 : Keeps 0x10010000002002000100608 s s3 := by
    unfold s3
    refine Keeps.then ?_ (State.evIf_keeps _ _ _ _) rfl
    refine Keeps.then ?_ (State.sprCount_keeps _ _ _ _) rfl
    exact keeps_s2
  extract_lets +onlyGivenNames -merge -useContext s4
  have keeps_s4 : Keeps 0x10010000002002000100608 s s4 := by
    unfold s4
    refine Keeps.then ?_ (State.sprMod_keeps _ _ _) rfl
    exact keeps_s3
  extract_lets +onlyGivenNames -merge -useContext x
  refine Keeps.then ?_ (State.sprDigest_keeps _ _ _ _ _) rfl
  exact keeps_s4

theorem State.sprFormAll_keeps (p0 : Nat) (p1 : Nat) (p2 : State) : Keeps 0xFFFFFFFF0002002000300618 p2 (State.sprFormAll p0 p1 p2) := by
  induction p0 generalizing p1 p2 with
  | zero =>
    rw [State.sprFormAll]
    exact Keeps.refl _ _
  | succ j ih =>
    rw [State.sprFormAll]
    split
    · exact Keeps.refl _ _
    · extract_lets +onlyGivenNames -merge -useContext final
      extract_lets +onlyGivenNames -merge -useContext s1
      have keeps_s1 : Keeps 0xFFFFFFFF0002002000300618 p2 s1 := by
        unfold s1
        refine Keeps.then ?_ (State.sprSettings_keeps _ _ _) rfl
        exact Keeps.refl _ _
      extract_lets +onlyGivenNames -merge -useContext h
      refine Keeps.ite ?_ ?_
      · exact keeps_s1
      · extract_lets +onlyGivenNames -merge -useContext sm
        extract_lets +onlyGivenNames -merge -useContext seed
        extract_lets +onlyGivenNames -merge -useContext due
        have keeps_due : Keeps 0xFFFFFFFF0002002000300618 p2 due.1 := by
          unfold due
          refine Keeps.ite_fst ?_ ?_
          · dsimp only
            exact keeps_s1
          · refine Keeps.then ?_ (State.sprDue_keeps _ _ _ _) rfl
            exact keeps_s1
        refine Keeps.ite ?_ ?_
        · exact keeps_due
        · extract_lets +onlyGivenNames -merge -useContext s2
          have keeps_s2 : Keeps 0xFFFFFFFF0002002000300618 p2 s2 := by
            unfold s2
            refine Keeps.then ?_ (State.sprReins_keeps _ _ _ _) rfl
            exact keeps_due
          extract_lets +onlyGivenNames -merge -useContext s3
          have keeps_s3 : Keeps 0xFFFFFFFF0002002000300618 p2 s3 := by
            unfold s3
            refine Keeps.ite ?_ ?_
            · refine Keeps.then ?_ (State.sprSeed_keeps _ _ _ _) rfl
              exact keeps_s2
            · exact keeps_s2
          refine Keeps.then ?_ (ih _ _) rfl
          refine Keeps.then ?_ (State.sprForm_keeps _ _ _ _ _ _) rfl
          exact keeps_s3

theorem State.sprSkip_keeps (s : State) (g : Nat) (k : Nat) : Keeps 0x10000000000002000000008 s (State.sprSkip s g k) := by
  unfold State.sprSkip
  extract_lets +onlyGivenNames -merge -useContext x
  refine Keeps.ite ?_ ?_
  · refine Keeps.then ?_ (State.sprCount_keeps _ _ _ _) rfl
    refine Keeps.then ?_ (State.sprMod_keeps _ _ _) rfl
    exact Keeps.refl _ _
  · exact Keeps.refl _ _

theorem State.sprEmit_keeps (s : State) (g : Nat) (i : Nat) (final : Bool) (l : SprLine) :
    Keeps 0x10110000000002020100608 s (State.sprEmit s g i final l) := by
  unfold State.sprEmit
  extract_lets +onlyGivenNames -merge -useContext x
  extract_lets +onlyGivenNames -merge -useContext xh
  extract_lets +onlyGivenNames -merge -useContext taps
  extract_lets +onlyGivenNames -merge -useContext y
  extract_lets +onlyGivenNames -merge -useContext sat
  extract_lets +onlyGivenNames -merge -useContext s1
  have keeps_s1 : Keeps 0x10110000000002020100608 s s1 := by
    unfold s1
    refine Keeps.then ?_ (State.evIf_keeps _ _ _ _) rfl
    refine Keeps.then ?_ (State.sprCount_keeps _ _ _ _) rfl
    exact Keeps.refl _ _
  extract_lets +onlyGivenNames -merge -useContext md
  extract_lets +onlyGivenNames -merge -useContext tag
  extract_lets +onlyGivenNames -merge -useContext tag_2
  extract_lets +onlyGivenNames -merge -useContext o
  extract_lets +onlyGivenNames -merge -useContext o_2
  extract_lets +onlyGivenNames -merge -useContext moved
  extract_lets +onlyGivenNames -merge -useContext since
  extract_lets +onlyGivenNames -merge -useContext late
  extract_lets +onlyGivenNames -merge -useContext s2
  have keeps_s2 : Keeps 0x10110000000002020100608 s s2 := by
    unfold s2
    clear_value since
    split
    · refine Keeps.then ?_ (State.pass_keeps _ _ _ _ _) rfl
      exact keeps_s1
    · exact keeps_s1
  extract_lets +onlyGivenNames -merge -useContext s2_2
  have keeps_s2_2 : Keeps 0x10110000000002020100608 s s2_2 := by
    unfold s2_2
    refine Keeps.ite ?_ ?_
    · refine Keeps.then ?_ (State.sprMod_keeps _ _ _) rfl
      refine Keeps.then ?_ (State.sprSkip_keeps _ _ _) rfl
      exact keeps_s1
    · refine Keeps.then ?_ (State.sprMod_keeps _ _ _) rfl
      refine Keeps.then ?_ (State.pass_keeps _ _ _ _ _) rfl
      exact keeps_s2
  extract_lets +onlyGivenNames -merge -useContext s2_3
  have keeps_s2_3 : Keeps 0x10110000000002020100608 s s2_3 := by
    unfold s2_3
    refine Keeps.then ?_ (State.evIf_keeps _ _ _ _) rfl
    refine Keeps.then ?_ (State.sprMod_keeps _ _ _) rfl
    exact keeps_s2_2
  extract_lets +onlyGivenNames -merge -useContext s4
  have keeps_s4 : Keeps 0x10110000000002020100608 s s4 := by
    unfold s4
    refine Keeps.fold ?_ (fun t1 y2 => ?_)
    · exact keeps_s2_3
    · refine Keeps.then ?_ (State.pass_keeps _ _ _ _ _) rfl
      exact Keeps.refl _ _
  refine Keeps.then ?_ (State.sprMod_keeps _ _ _) rfl
  exact keeps_s4

theorem State.sprOutAll_keeps (p0 : Nat) (p1 : Nat) (p2 : State) : Keeps 0x10110000000002020100608 p2 (State.sprOutAll p0 p1 p2) := by
  induction p0 generalizing p1 p2 with
  | zero =>
    rw [State.sprOutAll]
    exact Keeps.refl _ _
  | succ j ih =>
    rw [State.sprOutAll]
    refine Keeps.ite ?_ ?_
    · split
      · exact Keeps.refl _ _
      · refine Keeps.ite ?_ ?_
        · exact Keeps.refl _ _
        · refine Keeps.then ?_ (ih _ _) rfl
          refine Keeps.then ?_ (State.sprEmit_keeps _ _ _ _ _) rfl
          exact Keeps.refl _ _
    · refine Keeps.ite ?_ ?_
      · extract_lets +onlyGivenNames -merge -useContext s1
        have keeps_s1 : Keeps 0x10110000000002020100608 p2 s1 := by
          unfold s1
          split
          · refine Keeps.then ?_ (State.pass_keeps _ _ _ _ _) rfl
            exact Keeps.refl _ _
          · exact Keeps.refl _ _
        extract_lets +onlyGivenNames -merge -useContext again
        refine Keeps.then ?_ (State.sprMod_keeps _ _ _) rfl
        exact keeps_s1
      · exact Keeps.refl _ _

theorem State.sprRun_keeps (s : State) (g : Nat) : Keeps 0xFFFFFFFF0002002020300618 s (State.sprRun s g) := by
  unfold State.sprRun
  refine Keeps.then ?_ (State.sprOutAll_keeps _ _ _) rfl
  refine Keeps.then ?_ (State.sprFormAll_keeps _ _ _) rfl
  exact Keeps.refl _ _

theorem State.sprIn_keeps (s : State) (g : Nat) (l : Line) : Keeps 0x10010000002002000100608 s (State.sprIn s g l) := by
  unfold State.sprIn
  extract_lets +onlyGivenNames -merge -useContext x
  extract_lets +onlyGivenNames -merge -useContext x1
  extract_lets +onlyGivenNames -merge -useContext gap
  extract_lets +onlyGivenNames -merge -useContext again
  extract_lets +onlyGivenNames -merge -useContext v
  extract_lets +onlyGivenNames -merge -useContext xs
  extract_lets +onlyGivenNames -merge -useContext s1
  have keeps_s1 : Keeps 0x10010000002002000100608 s s1 := by
    unfold s1
    refine Keeps.then ?_ (State.evIf_keeps _ _ _ _) (Sub.or rfl rfl)
    refine Keeps.then ?_ (State.sprCount_keeps _ _ _ _) rfl
    exact Keeps.refl _ _
  refine Keeps.then ?_ (State.sprMod_keeps _ _ _) rfl
  refine Keeps.then ?_ (State.mirrorLine_keeps _ _ _) rfl
  exact keeps_s1

theorem State.sprBehind_keeps (s : State) (g : Nat) (it : Item) : Keeps 0x110000000002020100608 s (State.sprBehind s g it) := by
  unfold State.sprBehind
  extract_lets +onlyGivenNames -merge -useContext x
  refine Keeps.ite ?_ ?_
  · refine Keeps.then ?_ (State.pass_keeps _ _ _ _ _) rfl
    exact Keeps.refl _ _
  · refine Keeps.then ?_ (State.sprMod_keeps _ _ _) rfl
    exact Keeps.refl _ _

theorem State.sprTake_keeps (s : State) (g : Nat) (it : Item) : Keeps 0xFFFFFFFF0002002020300618 s (State.sprTake s g it) := by
  unfold State.sprTake
  split
  · extract_lets +onlyGivenNames -merge -useContext x
    refine Keeps.ite ?_ ?_
    · extract_lets +onlyGivenNames -merge -useContext m
      extract_lets +onlyGivenNames -merge -useContext k
      refine Keeps.then ?_ (State.sprIn_keeps _ _ _) rfl
      refine Keeps.then ?_ (State.sprRun_keeps _ _) rfl
      refine Keeps.then ?_ (State.sprMod_keeps _ _ _) rfl
      exact Keeps.refl _ _
    · refine Keeps.then ?_ (State.sprIn_keeps _ _ _) rfl
      exact Keeps.refl _ _
  · refine Keeps.ite ?_ ?_
    · refine Keeps.then ?_ (State.sprBehind_keeps _ _ _) rfl
      exact Keeps.refl _ _
    · refine Keeps.then ?_ (State.sprMod_keeps _ _ _) rfl
      exact Keeps.refl _ _
  · refine Keeps.then ?_ (State.sprMod_keeps _ _ _) rfl
    exact Keeps.refl _ _
  · refine Keeps.then ?_ (State.sprMod_keeps _ _ _) rfl
    exact Keeps.refl _ _
  · refine Keeps.then ?_ (State.sprBehind_keeps _ _ _) rfl
    exact Keeps.refl _ _

theorem execSprLine_keeps (g : Nat) (s : State) : KeepsO 0xFFFFFFFF000208A020300618 s (execSprLine g s) := by
  unfold execSprLine
  refine KeepsO.next ?_
  extract_lets +onlyGivenNames -merge -useContext s1
  have keeps_s1 : Keeps 0xFFFFFFFF000208A020300618 s s1 := by
    unfold s1
    refine Keeps.then ?_ (State.sprRun_keeps _ _) rfl
    exact Keeps.refl _ _
  refine Keeps.ite ?_ ?_
  · exact keeps_s1
  · split
    · rename_i w2 w3
      exact keeps_s1
    · rename_i w4 w5 w6 w7
      have k1 : Keeps 0xFFFFFFFF000208A020300618 s w6 := by
        refine Keeps.then ?_ (State.takeNext_keeps _ _ _ _ w7) rfl
        exact keeps_s1
      split
      · exact k1
      · exact keeps_s1
      · refine Keeps.then ?_ (State.sprRun_keeps _ _) rfl
        refine Keeps.then ?_ (State.sprTake_keeps _ _ _) rfl
        exact k1

theorem execFreezeMaskReturn_keeps (g : Nat) (s : State) : KeepsO 0xFFFFFFFF0002002020300618 s (execFreezeMaskReturn g s) := by
  unfold execFreezeMaskReturn
  refine KeepsO.next ?_
  split
  · exact Keeps.refl _ _
  · refine Keeps.then ?_ (State.sprRun_keeps _ _) rfl
    refine Keeps.then ?_ (State.sprMod_keeps _ _ _) rfl
    exact Keeps.refl _ _

theorem State.actSprTask_keeps (s : State) (w : Nat) (task : Nat) : Keeps 0x10000000000000100608 s (State.actSprTask s w task) := by
  unfold State.actSprTask
  refine Keeps.then ?_ (State.taskAdd_keeps _ _ _ _ _) rfl
  exact Keeps.refl _ _

theorem execSprFreeze_keeps (m : Nat) (v : Word) (w : Nat) (s : State) : KeepsO 0x100100D0000000000141638 s (execSprFreeze m v w s) := by
  unfold execSprFreeze
  refine KeepsO.next ?_
  refine Keeps.then ?_ (State.regAct_keeps (msk := 0x100100D0000000000141638) _ _ _ _ _ _ (by exact Sub.or rfl rfl) (fun z1 => ?_)) (Sub.refl _)
  · exact Keeps.refl _ _
  · refine Keeps.then ?_ (State.actSprTask_keeps _ _ _) rfl
    exact Keeps.refl _ _

theorem execSprThaw_keeps (m : Nat) (v : Word) (w : Nat) (s : State) : KeepsO 0x100100D0000000000141638 s (execSprThaw m v w s) := by
  unfold execSprThaw
  refine KeepsO.next ?_
  refine Keeps.then ?_ (State.regAct_keeps (msk := 0x100100D0000000000141638) _ _ _ _ _ _ (by exact Sub.or rfl rfl) (fun z1 => ?_)) (Sub.refl _)
  · exact Keeps.refl _ _
  · refine Keeps.then ?_ (State.actSprTask_keeps _ _ _) rfl
    exact Keeps.refl _ _

end Sys2Proof.Machine
end

