-- ==== Sys2Proof/Laws/KeepsTables.lean ====
section
/-! SUPPORT. Frames of the operations of Machine/Tables.lean: what each may change, one lemma each. -/

namespace Sys2Proof.Machine

theorem State.truMod_keeps (s : State) (g : Nat) (f : Tru → Tru) : Keeps 0x100000000 s (State.truMod s g f) := by
  unfold State.truMod
  refine Keeps.set_tru ?_ rfl
  exact Keeps.refl _ _

theorem State.rgaMod_keeps (s : State) (g : Nat) (f : Rga → Rga) : Keeps 0x200000000 s (State.rgaMod s g f) := by
  unfold State.rgaMod
  refine Keeps.set_rga ?_ rfl
  exact Keeps.refl _ _

theorem State.tblEnds_keeps (s : State) (g : Nat) (rga : Bool) (code : Nat) :
    Keeps 0x6010000000000000100608 s (State.tblEnds s g rga code) := by
  unfold State.tblEnds
  cases rga
  all_goals
    refine Keeps.ite ?_ ?_
    · refine Keeps.then ?_ (State.ev_keeps _ _ _) rfl
      refine Keeps.then ?_ (State.wf_keeps _ _ _ _) rfl
      refine Keeps.then ?_ (State.wf_keeps _ _ _ _) rfl
      exact Keeps.refl _ _
    · refine Keeps.then ?_ (State.ev_keeps _ _ _) rfl
      refine Keeps.then ?_ (State.wf_keeps _ _ _ _) rfl
      refine Keeps.then ?_ (State.wf_keeps _ _ _ _) rfl
      exact Keeps.refl _ _

theorem State.setLoading_keeps (s : State) (g : Nat) (rga : Bool) (x : Option (Nat × Nat)) :
    Keeps 0x300000000 s (State.setLoading s g rga x) := by
  unfold State.setLoading
  refine Keeps.ite ?_ ?_
  · refine Keeps.then ?_ (State.rgaMod_keeps _ _ _) rfl
    exact Keeps.refl _ _
  · refine Keeps.then ?_ (State.truMod_keeps _ _ _) rfl
    exact Keeps.refl _ _

theorem State.tblStart_keeps (s : State) (g : Nat) (rga : Bool) (bank : Nat) :
    Keeps 0x6000000000000300000008 s (State.tblStart s g rga bank) := by
  unfold State.tblStart
  cases rga
  · refine Keeps.then ?_ (State.wf_keeps _ _ _ _) (Sub.or rfl (Sub.blk .TRU rfl rfl))
    refine Keeps.then ?_ (State.wf_keeps _ _ _ _) rfl
    refine Keeps.then ?_ (State.setLoading_keeps _ _ _ _) rfl
    exact Keeps.refl _ _
  · refine Keeps.then ?_ (State.wf_keeps _ _ _ _) (Sub.or rfl (Sub.blk .RGA rfl rfl))
    refine Keeps.then ?_ (State.wf_keeps _ _ _ _) rfl
    refine Keeps.then ?_ (State.setLoading_keeps _ _ _ _) rfl
    exact Keeps.refl _ _

theorem State.actTblLoad_keeps (s : State) (g : Nat) (rga : Bool) : Keeps 0x6010000000000300100608 s (State.actTblLoad s g rga) := by
  unfold State.actTblLoad
  extract_lets +onlyGivenNames -merge -useContext r
  extract_lets +onlyGivenNames -merge -useContext w
  extract_lets +onlyGivenNames -merge -useContext bank
  refine Keeps.ite ?_ ?_
  · refine Keeps.then ?_ (State.tblEnds_keeps _ _ _ _) rfl
    exact Keeps.refl _ _
  · refine Keeps.ite ?_ ?_
    · refine Keeps.then ?_ (State.tblEnds_keeps _ _ _ _) rfl
      exact Keeps.refl _ _
    · refine Keeps.then ?_ (State.tblStart_keeps _ _ _ _) rfl
      exact Keeps.refl _ _

theorem State.actTblAbort_keeps (s : State) (g : Nat) (rga : Bool) : Keeps 0x6010000000000300100608 s (State.actTblAbort s g rga) := by
  unfold State.actTblAbort
  refine Keeps.ite ?_ ?_
  · exact Keeps.refl _ _
  · refine Keeps.then ?_ (State.tblEnds_keeps _ _ _ _) rfl
    refine Keeps.then ?_ (State.wf_keeps _ _ _ _) (by cases rga <;> rfl)
    refine Keeps.then ?_ (State.setLoading_keeps _ _ _ _) rfl
    exact Keeps.refl _ _

theorem State.tblFill_keeps (s : State) (g : Nat) (rga : Bool) (bank : Nat) (h : List Byte) (b : List Byte) :
    Keeps 0x300000000 s (State.tblFill s g rga bank h b) := by
  unfold State.tblFill
  refine Keeps.ite ?_ ?_
  · extract_lets +onlyGivenNames -merge -useContext wd
    extract_lets +onlyGivenNames -merge -useContext o
    extract_lets +onlyGivenNames -merge -useContext x
    refine Keeps.then ?_ (State.rgaMod_keeps _ _ _) rfl
    exact Keeps.refl _ _
  · extract_lets +onlyGivenNames -merge -useContext n
    extract_lets +onlyGivenNames -merge -useContext x
    refine Keeps.then ?_ (State.truMod_keeps _ _ _) rfl
    exact Keeps.refl _ _

theorem State.tblRead_keeps (s : State) (own : Bool) (a : Nat) (n : Nat) : Keeps 0x10000000000040608 s (State.tblRead s own a n).2.2 := by
  unfold State.tblRead
  split
  · dsimp only
    exact Keeps.refl _ _
  · refine Keeps.then ?_ (State.dramRead_keeps _ _ _ _) rfl
    exact Keeps.refl _ _

theorem State.tblDone_keeps (s : State) (g : Nat) (rga : Bool) : Keeps 0x6010010000000300140608 s (State.tblDone s g rga) := by
  unfold State.tblDone
  split
  · exact Keeps.refl _ _
  · extract_lets +onlyGivenNames -merge -useContext r
    extract_lets +onlyGivenNames -merge -useContext w
    extract_lets +onlyGivenNames -merge -useContext own
    extract_lets +onlyGivenNames -merge -useContext hd
    have keeps_hd : Keeps 0x6010010000000300140608 s hd.2.2 := by
      unfold hd
      refine Keeps.then ?_ (State.tblRead_keeps _ _ _ _) rfl
      exact Keeps.refl _ _
    extract_lets +onlyGivenNames -merge -useContext bad
    extract_lets +onlyGivenNames -merge -useContext bd
    have keeps_bd : Keeps 0x6010010000000300140608 s bd.2.2 := by
      unfold bd
      split
      · refine Keeps.then ?_ (State.tblRead_keeps _ _ _ _) rfl
        exact keeps_hd
      · exact keeps_hd
    extract_lets +onlyGivenNames -merge -useContext s1
    have keeps_s1 : Keeps 0x6010010000000300140608 s s1 := by
      unfold s1
      refine Keeps.then ?_ (State.wf_keeps _ _ _ _) (Sub.or rfl (by unfold r; cases rga <;> rfl))
      refine Keeps.then ?_ (State.setLoading_keeps _ _ _ _) rfl
      exact keeps_bd
    extract_lets +onlyGivenNames -merge -useContext code
    refine Keeps.ite ?_ ?_
    · refine Keeps.then ?_ (State.tblEnds_keeps _ _ _ _) rfl
      refine Keeps.then ?_ (State.wf_keeps _ _ _ _) (Sub.or rfl (by unfold r; cases rga <;> first | exact Sub.blk .TRU rfl rfl | exact Sub.blk .RGA rfl rfl))
      refine Keeps.then ?_ (State.wf_keeps _ _ _ _) (Sub.or rfl (by unfold r; cases rga <;> first | exact Sub.blk .TRU rfl rfl | exact Sub.blk .RGA rfl rfl))
      refine Keeps.then ?_ (State.tblFill_keeps _ _ _ _ _ _) rfl
      exact keeps_s1
    · refine Keeps.then ?_ (State.tblEnds_keeps _ _ _ _) rfl
      exact keeps_s1

theorem execTableLoad_keeps (m : Nat) (w : Word) (g : Nat) (rga : Bool) (s : State) :
    KeepsO 0x60100D0000000300141638 s (execTableLoad m w g rga s) := by
  unfold execTableLoad
  refine KeepsO.next ?_
  refine Keeps.then ?_ (State.regAct_keeps (msk := 0x60100D0000000300141638) _ _ _ _ _ _ (by exact (by cases rga <;> rfl)) (fun z11 => ?_)) (Sub.refl _)
  · exact Keeps.refl _ _
  · refine Keeps.then ?_ (State.actTblLoad_keeps _ _ _) rfl
    exact Keeps.refl _ _

theorem execTableLoadComplete_keeps (g : Nat) (rga : Bool) (s : State) :
    KeepsO 0x6010010000000300140608 s (execTableLoadComplete g rga s) := by
  unfold execTableLoadComplete
  refine KeepsO.next ?_
  refine Keeps.then ?_ (State.tblDone_keeps _ _ _) rfl
  exact Keeps.refl _ _

theorem execTableLoadAbort_keeps (m : Nat) (w : Word) (g : Nat) (rga : Bool) (s : State) :
    KeepsO 0x60100D0000000300141638 s (execTableLoadAbort m w g rga s) := by
  unfold execTableLoadAbort
  refine KeepsO.next ?_
  refine Keeps.then ?_ (State.regAct_keeps (msk := 0x60100D0000000300141638) _ _ _ _ _ _ (by exact (by cases rga <;> rfl)) (fun z11 => ?_)) (Sub.refl _)
  · exact Keeps.refl _ _
  · refine Keeps.then ?_ (State.actTblAbort_keeps _ _ _) rfl
    exact Keeps.refl _ _

end Sys2Proof.Machine
end

