-- ==== Sys2Proof/Laws/KeepsDmc.lean ====
section
/-! SUPPORT. Frames of the operations of Machine/Dmc.lean: what each may change, one lemma each. -/

namespace Sys2Proof.Machine

theorem State.dmcMod_keeps (s : State) (i : Nat) (f : Dmc → Dmc) : Keeps 0x4000000 s (State.dmcMod s i f) := by
  unfold State.dmcMod
  refine Keeps.set_dmc ?_ rfl
  exact Keeps.refl _ _

theorem State.remountStart_keeps (s : State) (ch : Nat) (rank : Nat) (spare : Nat) (detail : Nat) :
    Keeps 0x210000000020004140608 s (State.remountStart s ch rank spare detail) := by
  unfold State.remountStart
  extract_lets +onlyGivenNames -merge -useContext i
  extract_lets +onlyGivenNames -merge -useContext s1
  have keeps_s1 : Keeps 0x210000000020004140608 s s1 := by
    unfold s1
    refine Keeps.then ?_ (State.wf_keeps _ _ _ _) (Sub.or rfl rfl)
    refine Keeps.then ?_ (State.wf_keeps _ _ _ _) (Sub.or rfl rfl)
    refine Keeps.then ?_ (State.wf_keeps _ _ _ _) (Sub.or rfl rfl)
    refine Keeps.then ?_ (State.wf_keeps _ _ _ _) (Sub.or rfl rfl)
    refine Keeps.then ?_ (State.wf_keeps _ _ _ _) (Sub.or rfl rfl)
    exact Keeps.refl _ _
  extract_lets +onlyGivenNames -merge -useContext s2
  have keeps_s2 : Keeps 0x210000000020004140608 s s2 := by
    unfold s2
    refine Keeps.then ?_ (State.dmcMod_keeps _ _ _) rfl
    refine Keeps.then ?_ (State.wf_keeps _ _ _ _) (Sub.or rfl rfl)
    exact keeps_s1
  refine Keeps.then ?_ (State.recoveryGap_keeps _ _ _) rfl
  refine Keeps.then ?_ (State.ev_keeps _ _ _) (Sub.or rfl rfl)
  refine Keeps.then ?_ (State.dmcCode_keeps _ _ _ _ _) rfl
  exact keeps_s2

theorem State.remountWanted_keeps (s : State) (ch : Nat) (rank : Nat) (code : Nat) (detail : Nat) :
    Keeps 0x210000000020004140608 s (State.remountWanted s ch rank code detail) := by
  unfold State.remountWanted
  extract_lets +onlyGivenNames -merge -useContext i
  split
  · refine Keeps.ite ?_ ?_
    · refine Keeps.then ?_ (State.dmcCode_keeps _ _ _ _ _) rfl
      exact Keeps.refl _ _
    · refine Keeps.then ?_ (State.remountStart_keeps _ _ _ _ _) rfl
      exact Keeps.refl _ _
  · refine Keeps.ite ?_ ?_
    · exact Keeps.refl _ _
    · refine Keeps.ite ?_ ?_
      · refine Keeps.then ?_ (State.dmcCode_keeps _ _ _ _ _) rfl
        exact Keeps.refl _ _
      · refine Keeps.then ?_ (State.dmcCode_keeps _ _ _ _ _) rfl
        exact Keeps.refl _ _

theorem State.ceLimit_keeps (s : State) (ch : Nat) (rank : Nat) (detail : Nat) :
    Keeps 0x210000000020004140608 s (State.ceLimit s ch rank detail) := by
  unfold State.ceLimit
  extract_lets +onlyGivenNames -merge -useContext i
  extract_lets +onlyGivenNames -merge -useContext w
  extract_lets +onlyGivenNames -merge -useContext n
  extract_lets +onlyGivenNames -merge -useContext s1
  have keeps_s1 : Keeps 0x210000000020004140608 s s1 := by
    unfold s1
    refine Keeps.then ?_ (State.dmcMod_keeps _ _ _) rfl
    exact Keeps.refl _ _
  refine Keeps.ite ?_ ?_
  · extract_lets +onlyGivenNames -merge -useContext s2
    have keeps_s2 : Keeps 0x210000000020004140608 s s2 := by
      unfold s2
      refine Keeps.then ?_ (State.ev_keeps _ _ _) (Sub.or rfl rfl)
      exact keeps_s1
    refine Keeps.ite ?_ ?_
    · refine Keeps.then ?_ (State.remountWanted_keeps _ _ _ _ _) rfl
      exact keeps_s2
    · refine Keeps.ite ?_ ?_
      · refine Keeps.then ?_ (State.dmcCode_keeps _ _ _ _ _) rfl
        exact keeps_s2
      · exact keeps_s2
  · exact keeps_s1

theorem State.errInfo_keeps (s : State) (i : Nat) (addr : Nat) (rank : Nat) (symbol : Nat) (kind : Nat) (scrub : Bool) :
    Keeps 0x200000000000000000008 s (State.errInfo s i addr rank symbol kind scrub) := by
  unfold State.errInfo
  refine Keeps.then ?_ (State.wf_keeps _ _ _ _) (Sub.or rfl rfl)
  refine Keeps.then ?_ (State.wf_keeps _ _ _ _) (Sub.or rfl rfl)
  refine Keeps.then ?_ (State.wf_keeps _ _ _ _) (Sub.or rfl rfl)
  refine Keeps.then ?_ (State.wf_keeps _ _ _ _) (Sub.or rfl rfl)
  refine Keeps.then ?_ (State.wf_keeps _ _ _ _) (Sub.or rfl rfl)
  exact Keeps.refl _ _

theorem State.errAddr_keeps (s : State) (i : Nat) (addr : Nat) : Keeps 0x200000000000000000008 s (State.errAddr s i addr) := by
  unfold State.errAddr
  refine Keeps.then ?_ (State.wf_keeps _ _ _ _) (Sub.or rfl rfl)
  refine Keeps.then ?_ (State.wf_keeps _ _ _ _) (Sub.or rfl rfl)
  exact Keeps.refl _ _

theorem State.wordCorrected_keeps (s : State) (ch : Nat) (addr : Nat) (rank : Nat) (symbol : Nat) (scrub : Bool) :
    Keeps 0x210000000020004140608 s (State.wordCorrected s ch addr rank symbol scrub) := by
  unfold State.wordCorrected
  extract_lets +onlyGivenNames -merge -useContext i
  extract_lets +onlyGivenNames -merge -useContext s1
  have keeps_s1 : Keeps 0x210000000020004140608 s s1 := by
    unfold s1
    refine Keeps.then ?_ (State.ev_keeps _ _ _) (Sub.or rfl rfl)
    refine Keeps.then ?_ (State.inc_keeps _ _ _) (Sub.or rfl (Sub.blk .DMC (by first | rfl | exact blk_ite rfl rfl) rfl))
    refine Keeps.then ?_ (State.inc_keeps _ _ _) (Sub.or rfl rfl)
    exact Keeps.refl _ _
  refine Keeps.then ?_ (State.ceLimit_keeps _ _ _ _) rfl
  refine Keeps.then ?_ (State.errInfo_keeps _ _ _ _ _ _ _) rfl
  refine Keeps.then ?_ (State.errAddr_keeps _ _ _) rfl
  exact keeps_s1

theorem State.poisonRead_keeps (s : State) (ch : Nat) (addr : Nat) (rank : Nat) (scrub : Bool) :
    Keeps 0x210000000000000100608 s (State.poisonRead s ch addr rank scrub) := by
  unfold State.poisonRead
  extract_lets +onlyGivenNames -merge -useContext i
  refine Keeps.then ?_ (State.errInfo_keeps _ _ _ _ _ _ _) rfl
  refine Keeps.then ?_ (State.ev_keeps _ _ _) (Sub.or rfl rfl)
  refine Keeps.then ?_ (State.inc_keeps _ _ _) (Sub.or rfl rfl)
  exact Keeps.refl _ _

theorem State.wordLost_keeps (s : State) (ch : Nat) (addr : Nat) (rank : Nat) (data : Nat) (scrub : Bool) :
    Keeps 0x210000008020007140608 s (State.wordLost s ch addr rank data scrub) := by
  unfold State.wordLost
  extract_lets +onlyGivenNames -merge -useContext i
  extract_lets +onlyGivenNames -merge -useContext d
  extract_lets +onlyGivenNames -merge -useContext a
  extract_lets +onlyGivenNames -merge -useContext s1
  have keeps_s1 : Keeps 0x210000008020007140608 s s1 := by
    unfold s1
    refine Keeps.then ?_ (State.setPoison_keeps _ _ _) rfl
    refine Keeps.set_mem_stale ?_ rfl ?_
    · exact Keeps.refl _ _
    · exact fun h => Memory.wf_writeBytes _ h _
  extract_lets +onlyGivenNames -merge -useContext s2
  have keeps_s2 : Keeps 0x210000008020007140608 s s2 := by
    unfold s2
    refine Keeps.then ?_ (State.dmcCode_keeps _ _ _ _ _) rfl
    refine Keeps.then ?_ (State.errInfo_keeps _ _ _ _ _ _ _) rfl
    refine Keeps.then ?_ (State.errAddr_keeps _ _ _) rfl
    refine Keeps.then ?_ (State.inc_keeps _ _ _) rfl
    exact keeps_s1
  refine Keeps.then ?_ (State.remountWanted_keeps _ _ _ _ _) rfl
  refine Keeps.then ?_ (State.ev_keeps _ _ _) rfl
  exact keeps_s2

theorem State.wordRead_keeps (s : State) (ch : Nat) (addr : Nat) (rank : Nat) (err : Nat) (scrub : Bool) :
    Keeps 0x210000008020007140608 s (State.wordRead s ch addr rank err scrub) := by
  unfold State.wordRead
  extract_lets +onlyGivenNames -merge -useContext r
  split
  · exact Keeps.refl _ _
  · refine Keeps.then ?_ (State.wordCorrected_keeps _ _ _ _ _ _) rfl
    exact Keeps.refl _ _
  · refine Keeps.then ?_ (State.poisonRead_keeps _ _ _ _ _) rfl
    exact Keeps.refl _ _
  · refine Keeps.then ?_ (State.wordLost_keeps _ _ _ _ _ _) rfl
    exact Keeps.refl _ _

theorem State.blockRead_keeps (s : State) (ch : Nat) (block : Nat) (rank : Nat) (errs : List (Nat × Nat)) (scrub : Bool) :
    Keeps 0x210000008020007140608 s (State.blockRead s ch block rank errs scrub) := by
  unfold State.blockRead
  refine Keeps.fold ?_ (fun t1 y2 => ?_)
  · exact Keeps.refl _ _
  · refine Keeps.then ?_ (State.wordRead_keeps _ _ _ _ _ _) rfl
    exact Keeps.refl _ _

theorem execDramRead_keeps (addr : Nat) (rank : Nat) (err : Nat) (s : State) :
    KeepsO 0x210000008020007140608 s (execDramRead addr rank err s) := by
  unfold execDramRead
  refine KeepsO.next ?_
  extract_lets +onlyGivenNames -merge -useContext ch
  refine Keeps.ite ?_ ?_
  · refine Keeps.then ?_ (State.wordRead_keeps _ _ _ _ _ _) rfl
    exact Keeps.refl _ _
  · exact Keeps.refl _ _

theorem execScrubBlock_keeps (addr : Nat) (rank : Nat) (errs : List (Nat × Nat)) (s : State) :
    KeepsO 0x210000008020007140608 s (execScrubBlock addr rank errs s) := by
  unfold execScrubBlock
  refine KeepsO.next ?_
  extract_lets +onlyGivenNames -merge -useContext ch
  extract_lets +onlyGivenNames -merge -useContext i
  refine Keeps.ite ?_ ?_
  · refine Keeps.then ?_ (State.blockRead_keeps _ _ _ _ _ _) rfl
    exact Keeps.refl _ _
  · exact Keeps.refl _ _

theorem State.actRemountGo_keeps (s : State) (i : Nat) : Keeps 0x210000000020004140608 s (State.actRemountGo s i) := by
  unfold State.actRemountGo
  extract_lets +onlyGivenNames -merge -useContext ch
  extract_lets +onlyGivenNames -merge -useContext rank
  split
  · refine Keeps.ite ?_ ?_
    · exact Keeps.refl _ _
    · refine Keeps.then ?_ (State.remountStart_keeps _ _ _ _ _) rfl
      exact Keeps.refl _ _
  · exact Keeps.refl _ _

theorem execRemountGo_keeps (m : Nat) (w : Word) (c : Nat) (d : Nat) (s : State) :
    KeepsO 0x2100D0000020004141638 s (execRemountGo m w c d s) := by
  unfold execRemountGo
  refine KeepsO.next ?_
  refine Keeps.then ?_ (State.regAct_keeps (msk := 0x2100D0000020004141638) _ _ _ _ _ _ (by exact Sub.or rfl rfl) (fun z1 => ?_)) (Sub.refl _)
  · exact Keeps.refl _ _
  · refine Keeps.then ?_ (State.actRemountGo_keeps _ _) rfl
    exact Keeps.refl _ _

theorem execRemountCopyBlock_keeps (ch : Nat) (addr : Nat) (errs : List (Nat × Nat)) (s : State) :
    KeepsO 0x210000008020007140608 s (execRemountCopyBlock ch addr errs s) := by
  unfold execRemountCopyBlock
  refine KeepsO.next ?_
  extract_lets +onlyGivenNames -merge -useContext i
  extract_lets +onlyGivenNames -merge -useContext xp
  extract_lets +onlyGivenNames -merge -useContext n
  refine Keeps.ite ?_ ?_
  · exact Keeps.refl _ _
  · extract_lets +onlyGivenNames -merge -useContext s1
    have keeps_s1 : Keeps 0x210000008020007140608 s s1 := by
      unfold s1
      refine Keeps.then ?_ (State.blockRead_keeps _ _ _ _ _ _) rfl
      exact Keeps.refl _ _
    refine Keeps.then ?_ (State.wf_keeps _ _ _ _) rfl
    refine Keeps.then ?_ (State.dmcMod_keeps _ _ _) rfl
    refine Keeps.then ?_ (State.add_keeps _ _ _ _) rfl
    exact keeps_s1

theorem execRemountComplete_keeps (ch : Nat) (s : State) : KeepsO 0x210000000000000140608 s (execRemountComplete ch s) := by
  unfold execRemountComplete
  refine KeepsO.next ?_
  extract_lets +onlyGivenNames -merge -useContext i
  extract_lets +onlyGivenNames -merge -useContext from'
  refine Keeps.ite ?_ ?_
  · exact Keeps.refl _ _
  · extract_lets +onlyGivenNames -merge -useContext s1
    have keeps_s1 : Keeps 0x210000000000000140608 s s1 := by
      unfold s1
      refine Keeps.then ?_ (State.wf_keeps _ _ _ _) (Sub.or rfl rfl)
      refine Keeps.then ?_ (State.wf_keeps _ _ _ _) (Sub.or rfl rfl)
      refine Keeps.then ?_ (State.wf_keeps _ _ _ _) (Sub.or rfl rfl)
      exact Keeps.refl _ _
    refine Keeps.then ?_ (State.ev_keeps _ _ _) (Sub.or rfl rfl)
    refine Keeps.then ?_ (State.dmcCode_keeps _ _ _ _ _) rfl
    refine Keeps.set_store ?_ rfl
    exact keeps_s1

theorem State.owedShow_keeps (s : State) (i : Nat) : Keeps 0x200000000000000000008 s (State.owedShow s i) := by
  unfold State.owedShow
  refine Keeps.then ?_ (State.wf_keeps _ _ _ _) (Sub.or rfl rfl)
  exact Keeps.refl _ _

theorem execRefreshDue_keeps (c : Nat) (d : Nat) (rank : Nat) (depth : Nat) (beats : Nat) (s : State) :
    KeepsO 0x250000000000014100608 s (execRefreshDue c d rank depth beats s) := by
  unfold execRefreshDue
  refine KeepsO.next ?_
  extract_lets +onlyGivenNames -merge -useContext i
  extract_lets +onlyGivenNames -merge -useContext n
  refine Keeps.ite ?_ ?_
  · exact Keeps.refl _ _
  · refine Keeps.ite ?_ ?_
    · refine Keeps.then ?_ (State.owedShow_keeps _ _) rfl
      refine Keeps.then ?_ (State.dmcMod_keeps _ _ _) rfl
      exact Keeps.refl _ _
    · refine Keeps.then ?_ (State.whtPreempt_keeps _ _ _) rfl
      exact Keeps.refl _ _

theorem execRefreshMakeup_keeps (c : Nat) (d : Nat) (depth : Nat) (s : State) :
    KeepsO 0x200000000000004000008 s (execRefreshMakeup c d depth s) := by
  unfold execRefreshMakeup
  refine KeepsO.next ?_
  extract_lets +onlyGivenNames -merge -useContext i
  refine Keeps.ite ?_ ?_
  · exact Keeps.refl _ _
  · refine Keeps.then ?_ (State.owedShow_keeps _ _) rfl
    refine Keeps.then ?_ (State.dmcMod_keeps _ _ _) rfl
    exact Keeps.refl _ _

theorem execDimmHot_keeps (c : Nat) (d : Nat) (temp : Int) (s : State) : KeepsO 0x210000000000000140608 s (execDimmHot c d temp s) := by
  unfold execDimmHot
  refine KeepsO.next ?_
  extract_lets +onlyGivenNames -merge -useContext i
  refine Keeps.ite ?_ ?_
  · exact Keeps.refl _ _
  · refine Keeps.ite ?_ ?_
    · refine Keeps.then ?_ (State.wf_keeps _ _ _ _) (Sub.or rfl rfl)
      exact Keeps.refl _ _
    · refine Keeps.ite ?_ ?_
      · exact Keeps.refl _ _
      · refine Keeps.then ?_ (State.ev_keeps _ _ _) (Sub.or rfl rfl)
        refine Keeps.then ?_ (State.dmcCode_keeps _ _ _ _ _) rfl
        refine Keeps.then ?_ (State.wf_keeps _ _ _ _) (Sub.or rfl rfl)
        exact Keeps.refl _ _

theorem State.curb_keeps (s : State) (ch : Nat) (requester : Nat) : Keeps 0x210000000000004140608 s (State.curb s ch requester) := by
  unfold State.curb
  extract_lets +onlyGivenNames -merge -useContext i
  extract_lets +onlyGivenNames -merge -useContext d
  refine Keeps.ite ?_ ?_
  · exact Keeps.refl _ _
  · extract_lets +onlyGivenNames -merge -useContext s1
    have keeps_s1 : Keeps 0x210000000000004140608 s s1 := by
      unfold s1
      refine Keeps.then ?_ (State.dmcMod_keeps _ _ _) rfl
      exact Keeps.refl _ _
    extract_lets +onlyGivenNames -merge -useContext s2
    have keeps_s2 : Keeps 0x210000000000004140608 s s2 := by
      unfold s2
      refine Keeps.then ?_ (State.wf_keeps _ _ _ _) (Sub.or rfl rfl)
      refine Keeps.then ?_ (State.wf_keeps _ _ _ _) (Sub.or rfl rfl)
      refine Keeps.then ?_ (State.wf_keeps _ _ _ _) (Sub.or rfl rfl)
      exact keeps_s1
    refine Keeps.then ?_ (State.ev_keeps _ _ _) (Sub.or rfl rfl)
    refine Keeps.then ?_ (State.dmcCode_keeps _ _ _ _ _) rfl
    refine Keeps.then ?_ (State.inc_keeps _ _ _) (Sub.or rfl rfl)
    exact keeps_s2

theorem execRowActivate_keeps (c : Nat) (d : Nat) (rank : Nat) (bank : Nat) (row : Nat) (requester : Nat) (s : State) :
    KeepsO 0x21000000000000414060A s (execRowActivate c d rank bank row requester s) := by
  unfold execRowActivate
  refine KeepsO.next ?_
  extract_lets +onlyGivenNames -merge -useContext i
  extract_lets +onlyGivenNames -merge -useContext k
  extract_lets +onlyGivenNames -merge -useContext l
  extract_lets +onlyGivenNames -merge -useContext th
  refine Keeps.ite ?_ ?_
  · exact Keeps.refl _ _
  · extract_lets +onlyGivenNames -merge -useContext r
    extract_lets +onlyGivenNames -merge -useContext s1
    have keeps_s1 : Keeps 0x21000000000000414060A s s1 := by
      unfold s1
      refine Keeps.then ?_ (State.dmcMod_keeps _ _ _) rfl
      refine Keeps.then ?_ (State.drawn_keeps _) rfl
      exact Keeps.refl _ _
    refine Keeps.ite ?_ ?_
    · refine Keeps.then ?_ (State.curb_keeps _ _ _) rfl
      exact keeps_s1
    · exact keeps_s1

theorem execCurbWindowEnd_keeps (c : Nat) (d : Nat) (s : State) : KeepsO 0x200000000000004000008 s (execCurbWindowEnd c d s) := by
  unfold execCurbWindowEnd
  refine KeepsO.next ?_
  extract_lets +onlyGivenNames -merge -useContext i
  refine Keeps.ite ?_ ?_
  · exact Keeps.refl _ _
  · refine Keeps.then ?_ (State.wf_keeps _ _ _ _) (Sub.or rfl rfl)
    refine Keeps.then ?_ (State.wf_keeps _ _ _ _) (Sub.or rfl rfl)
    refine Keeps.then ?_ (State.dmcMod_keeps _ _ _) rfl
    exact Keeps.refl _ _

theorem State.showMargins_keeps (s : State) (i : Nat) (l : List Nat) : Keeps 0x200000000000000000008 s (State.showMargins s i l) := by
  unfold State.showMargins
  refine Keeps.fold ?_ (fun t1 y2 => ?_)
  · exact Keeps.refl _ _
  · refine Keeps.then ?_ (State.wf_keeps _ _ _ _) (Sub.or rfl (Sub.blk .DMC (by first | rfl | exact blk_ite rfl rfl) rfl))
    refine Keeps.then ?_ (State.wf_keeps _ _ _ _) (Sub.or rfl (Sub.blk .DMC (by first | rfl | exact blk_ite rfl rfl) rfl))
    exact Keeps.refl _ _

theorem State.chanTrained_keeps (s : State) (ch : Nat) (mode : Nat) (ms : Nat) (l : List Nat) :
    Keeps 0x210000000000004140608 s (State.chanTrained s ch mode ms l) := by
  unfold State.chanTrained
  extract_lets +onlyGivenNames -merge -useContext i
  extract_lets +onlyGivenNames -merge -useContext m
  extract_lets +onlyGivenNames -merge -useContext ret
  extract_lets +onlyGivenNames -merge -useContext s0
  have keeps_s0 : Keeps 0x210000000000004140608 s s0 := by
    unfold s0
    refine Keeps.ite ?_ ?_
    · refine Keeps.then ?_ (State.dmcCode_keeps _ _ _ _ _) rfl
      exact Keeps.refl _ _
    · exact Keeps.refl _ _
  extract_lets +onlyGivenNames -merge -useContext s1
  have keeps_s1 : Keeps 0x210000000000004140608 s s1 := by
    unfold s1
    refine Keeps.then ?_ (State.dmcMod_keeps _ _ _) rfl
    refine Keeps.then ?_ (State.wf_keeps _ _ _ _) (Sub.or rfl rfl)
    refine Keeps.then ?_ (State.wf_keeps _ _ _ _) (Sub.or rfl rfl)
    refine Keeps.then ?_ (State.wf_keeps _ _ _ _) (Sub.or rfl rfl)
    refine Keeps.then ?_ (State.showMargins_keeps _ _ _) rfl
    exact keeps_s0
  extract_lets +onlyGivenNames -merge -useContext s2
  extract_lets +onlyGivenNames -merge -useContext x1
  have keeps_x1 : Keeps 0x210000000000004140608 s x1 := by
    unfold x1
    refine Keeps.set_store ?_ rfl
    exact keeps_s1
  refine Keeps.ite ?_ ?_
  · refine Keeps.then ?_ (State.dmcCode_keeps _ _ _ _ _) rfl
    refine Keeps.then ?_ (State.wf_keeps _ _ _ _) (Sub.or rfl rfl)
    exact keeps_x1
  · extract_lets +onlyGivenNames -merge -useContext s3
    have keeps_s3 : Keeps 0x210000000000004140608 s s3 := by
      unfold s3
      refine Keeps.then ?_ (State.wf_keeps _ _ _ _) (Sub.or rfl rfl)
      exact keeps_x1
    refine Keeps.ite ?_ ?_
    · refine Keeps.then ?_ (State.ev_keeps _ _ _) (Sub.or rfl rfl)
      refine Keeps.then ?_ (State.dmcCode_keeps _ _ _ _ _) rfl
      exact keeps_s3
    · exact keeps_s3

theorem State.chansTrained_keeps (s : State) (chans : List Nat) (train : Nat) (ms : Nat) (margins : List Nat) :
    Keeps 0x210000000000004140608 s (State.chansTrained s chans train ms margins) := by
  unfold State.chansTrained
  extract_lets +onlyGivenNames -merge -useContext full
  refine Keeps.fold ?_ (fun t1 y2 => ?_)
  · exact Keeps.refl _ _
  · extract_lets +onlyGivenNames -merge -useContext ch
    extract_lets +onlyGivenNames -merge -useContext mode
    refine Keeps.then ?_ (State.chanTrained_keeps _ _ _ _ _) rfl
    exact Keeps.refl _ _

theorem State.dramTrained_keeps (s : State) (train : Nat) (ms : Nat) (margins : List Nat) :
    Keeps 0x210000000000004140608 s (State.dramTrained s train ms margins) := by
  unfold State.dramTrained
  refine Keeps.then ?_ (State.chansTrained_keeps _ _ _ _ _) rfl
  exact Keeps.refl _ _

theorem execDramRunComplete_keeps (c : Nat) (first : List Nat) (second : List Nat) (s : State) :
    KeepsO 0x6100000000005001C0608 s (execDramRunComplete c first second s) := by
  unfold execDramRunComplete
  refine KeepsO.next ?_
  extract_lets +onlyGivenNames -merge -useContext chans
  extract_lets +onlyGivenNames -merge -useContext n
  extract_lets +onlyGivenNames -merge -useContext near
  extract_lets +onlyGivenNames -merge -useContext ok
  extract_lets +onlyGivenNames -merge -useContext q1
  extract_lets +onlyGivenNames -merge -useContext q2
  extract_lets +onlyGivenNames -merge -useContext lane
  refine Keeps.ite ?_ ?_
  · exact Keeps.refl _ _
  · refine Keeps.ite ?_ ?_
    · extract_lets +onlyGivenNames -merge -useContext s1
      have keeps_s1 : Keeps 0x6100000000005001C0608 s s1 := by
        unfold s1
        refine Keeps.fold ?_ (fun t1 y2 => ?_)
        · exact Keeps.refl _ _
        · refine Keeps.then ?_ (State.showMargins_keeps _ _ _) rfl
          exact Keeps.refl _ _
      extract_lets +onlyGivenNames -merge -useContext tr
      refine Keeps.then ?_ (State.wwtAccept_keeps _ _ _ _ _ _ _) rfl
      refine Keeps.set_store ?_ rfl
      exact keeps_s1
    · refine Keeps.then ?_ (State.wwtReject_keeps _ _ _ _ _ _ _) rfl
      exact Keeps.refl _ _

theorem State.dramSleep_keeps (s : State) : Keeps 0x200000000000004000008 s (State.dramSleep s) := by
  unfold State.dramSleep
  refine Keeps.fold ?_ (fun t1 y2 => ?_)
  · exact Keeps.refl _ _
  · extract_lets +onlyGivenNames -merge -useContext i
    refine Keeps.ite ?_ ?_
    · refine Keeps.then ?_ (State.wf_keeps _ _ _ _) (Sub.or rfl rfl)
      refine Keeps.then ?_ (State.wf_keeps _ _ _ _) (Sub.or rfl rfl)
      refine Keeps.then ?_ (State.dmcMod_keeps _ _ _) rfl
      exact Keeps.refl _ _
    · exact Keeps.refl _ _

theorem State.dramWake_keeps (s : State) : Keeps 0x200000000000000000008 s (State.dramWake s) := by
  unfold State.dramWake
  refine Keeps.fold ?_ (fun t1 y2 => ?_)
  · exact Keeps.refl _ _
  · extract_lets +onlyGivenNames -merge -useContext i
    refine Keeps.ite ?_ ?_
    · refine Keeps.then ?_ (State.wf_keeps _ _ _ _) (Sub.or rfl rfl)
      exact Keeps.refl _ _
    · exact Keeps.refl _ _

theorem State.sramItem_keeps (s : State) (c : Nat) (p2 : SramWord) : Keeps 0x48110000000012720100608 s (State.sramItem s c p2) := by
  unfold State.sramItem
  split
  · extract_lets +onlyGivenNames -merge -useContext k
    extract_lets +onlyGivenNames -merge -useContext mark
    refine Keeps.set_mews ?_ rfl
    exact Keeps.refl _ _
  · split
    · refine Keeps.then ?_ (State.lblShow_keeps _ _) rfl
      refine Keeps.then ?_ (State.lblClose_keeps _ _ _ _ _ _) rfl
      exact Keeps.refl _ _
    · exact Keeps.refl _ _
  · refine Keeps.then ?_ (State.sprMod_keeps _ _ _) rfl
    exact Keeps.refl _ _
  · refine Keeps.then ?_ (State.regRestart_keeps _ _) rfl
    exact Keeps.refl _ _
  · refine Keeps.then ?_ (State.mewLost_keeps _ _ _) rfl
    exact Keeps.refl _ _
  · refine Keeps.then ?_ (State.truMod_keeps _ _ _) rfl
    exact Keeps.refl _ _
  · refine Keeps.then ?_ (State.rgaMod_keeps _ _ _) rfl
    exact Keeps.refl _ _
  · refine Keeps.then ?_ (State.rgaMod_keeps _ _ _) rfl
    exact Keeps.refl _ _
  · refine Keeps.then ?_ (State.rgaMod_keeps _ _ _) rfl
    exact Keeps.refl _ _
  · exact Keeps.refl _ _

theorem State.sramLost_keeps (s : State) (c : Nat) (w : SramWord) : Keeps 0x48310010000012720140608 s (State.sramLost s c w) := by
  unfold State.sramLost
  extract_lets +onlyGivenNames -merge -useContext code
  extract_lets +onlyGivenNames -merge -useContext a
  extract_lets +onlyGivenNames -merge -useContext b
  extract_lets +onlyGivenNames -merge -useContext s1
  have keeps_s1 : Keeps 0x48310010000012720140608 s s1 := by
    unfold s1
    refine Keeps.then ?_ (State.logFault_keeps _ _ _ _ _) rfl
    refine Keeps.then ?_ (State.inc_keeps _ _ _) (Sub.or rfl rfl)
    exact Keeps.refl _ _
  extract_lets +onlyGivenNames -merge -useContext s2
  have keeps_s2 : Keeps 0x48310010000012720140608 s s2 := by
    unfold s2
    refine Keeps.then ?_ (State.ev_keeps _ _ _) (Sub.or rfl rfl)
    refine Keeps.then ?_ (State.wf_keeps _ _ _ _) (Sub.or rfl rfl)
    refine Keeps.then ?_ (State.ev_keeps _ _ _) (Sub.or rfl rfl)
    refine Keeps.then ?_ (State.wf_keeps _ _ _ _) (Sub.or rfl rfl)
    exact keeps_s1
  refine Keeps.then ?_ (State.sramItem_keeps _ _ _) rfl
  exact keeps_s2

theorem execSramUncorrectable_keeps (c : Nat) (w : SramWord) (s : State) :
    KeepsO 0x48310010000012720140608 s (execSramUncorrectable c w s) := by
  unfold execSramUncorrectable
  refine KeepsO.next ?_
  refine Keeps.ite ?_ ?_
  · refine Keeps.then ?_ (State.sramLost_keeps _ _ _) rfl
    exact Keeps.refl _ _
  · exact Keeps.refl _ _

theorem execSramScrub_keeps (c : Nat) (ce : Nat) (ue : List SramWord) (s : State) :
    KeepsO 0x48310010000012720140608 s (execSramScrub c ce ue s) := by
  unfold execSramScrub
  refine KeepsO.next ?_
  refine Keeps.ite ?_ ?_
  · refine Keeps.fold ?_ (fun t1 y2 => ?_)
    · refine Keeps.then ?_ (State.add_keeps _ _ _ _) (Sub.or rfl rfl)
      exact Keeps.refl _ _
    · refine Keeps.then ?_ (State.sramLost_keeps _ _ _) rfl
      exact Keeps.refl _ _
  · exact Keeps.refl _ _

theorem State.waybillLost_keeps (s : State) (p : WaybillPlace) : Keeps 0x10000000000040608 s (State.waybillLost s p) := by
  unfold State.waybillLost
  extract_lets +onlyGivenNames -merge -useContext s1
  have keeps_s1 : Keeps 0x10000000000040608 s s1 := by
    unfold s1
    refine Keeps.then ?_ (State.fabErr_keeps _ _ _ _) rfl
    refine Keeps.then ?_ (State.inc_keeps _ _ _) (Sub.or rfl rfl)
    exact Keeps.refl _ _
  split
  · refine Keeps.set_store ?_ rfl
    exact keeps_s1
  · refine Keeps.set_store ?_ rfl
    exact keeps_s1
  · refine Keeps.set_store ?_ rfl
    exact keeps_s1
  · refine Keeps.set_store ?_ rfl
    exact keeps_s1
  · exact keeps_s1

theorem execWaybillScrub_keeps (ce : Nat) (ue : List WaybillPlace) (s : State) :
    KeepsO 0x10000000000040608 s (execWaybillScrub ce ue s) := by
  unfold execWaybillScrub
  refine KeepsO.next ?_
  refine Keeps.ite ?_ ?_
  · exact Keeps.refl _ _
  · refine Keeps.fold ?_ (fun t1 y2 => ?_)
    · refine Keeps.then ?_ (State.add_keeps _ _ _ _) (Sub.or rfl rfl)
      exact Keeps.refl _ _
    · refine Keeps.then ?_ (State.waybillLost_keeps _ _) rfl
      exact Keeps.refl _ _

end Sys2Proof.Machine
end

