-- ==== Sys2Proof/Laws/KeepsDrayage.lean ====
section
/-! SUPPORT. Frames of the operations of Machine/Drayage.lean: what each may change, one lemma each. -/

namespace Sys2Proof.Machine

theorem State.dryMod_keeps (s : State) (c : Nat) (n : Nat) (f : DryChan → DryChan) : Keeps 0x8000000 s (State.dryMod s c n f) := by
  unfold State.dryMod
  refine Keeps.set_dry ?_ rfl
  exact Keeps.refl _ _

theorem State.dryStore_keeps (s : State) (n : Nat) (space : Nat) (addr : Nat) (l : List Byte) (poisoned : List Nat) :
    Keeps 0x200010008000003040608 s (State.dryStore s n space addr l poisoned) := by
  unfold State.dryStore
  refine Keeps.ite ?_ ?_
  · refine Keeps.then ?_ (State.emit_keeps _ _ _ _) rfl
    exact Keeps.refl _ _
  · extract_lets +onlyGivenNames -merge -useContext s1
    have keeps_s1 : Keeps 0x200010008000003040608 s s1 := by
      unfold s1
      refine Keeps.ite ?_ ?_
      · refine Keeps.then ?_ (State.dramPut_keeps _ _ _ _) rfl
        exact Keeps.refl _ _
      · refine Keeps.then ?_ (State.gcode_keeps _ _ _ _) rfl
        exact Keeps.refl _ _
    refine Keeps.fold ?_ (fun t1 y2 => ?_)
    · exact keeps_s1
    · refine Keeps.then ?_ (State.setPoison_keeps _ _ _) rfl
      exact Keeps.refl _ _

theorem State.dryReport_keeps (s : State) (c : Nat) (n : Nat) (code : Nat) (residue : Nat) :
    Keeps 0x29001000800000B140608 s (State.dryReport s c n code residue) := by
  unfold State.dryReport
  extract_lets +onlyGivenNames -merge -useContext i
  extract_lets +onlyGivenNames -merge -useContext s0
  have keeps_s0 : Keeps 0x29001000800000B140608 s s0 := by
    unfold s0
    refine Keeps.then ?_ (State.wf_keeps _ _ _ _) (Sub.or rfl (Sub.blk .DRY (by first | rfl | exact blk_ite rfl rfl) rfl))
    refine Keeps.then ?_ (State.dryMod_keeps _ _ _ _) rfl
    exact Keeps.refl _ _
  extract_lets +onlyGivenNames -merge -useContext s1
  have keeps_s1 : Keeps 0x29001000800000B140608 s s1 := by
    unfold s1
    refine Keeps.ite ?_ ?_
    · refine Keeps.then ?_ (State.dryStore_keeps _ _ _ _ _ _) rfl
      exact keeps_s0
    · exact keeps_s0
  extract_lets +onlyGivenNames -merge -useContext s2
  have keeps_s2 : Keeps 0x29001000800000B140608 s s2 := by
    unfold s2
    refine Keeps.then ?_ (State.wf_keeps _ _ _ _) (Sub.or rfl (Sub.blk .DRY (by first | rfl | exact blk_ite rfl rfl) rfl))
    refine Keeps.then ?_ (State.wf_keeps _ _ _ _) (Sub.or rfl (Sub.blk .DRY (by first | rfl | exact blk_ite rfl rfl) rfl))
    exact keeps_s1
  extract_lets +onlyGivenNames -merge -useContext o
  extract_lets +onlyGivenNames -merge -useContext s3
  have keeps_s3 : Keeps 0x29001000800000B140608 s s3 := by
    unfold s3
    refine Keeps.then ?_ (State.setWord_keeps _ _ _ _ _) rfl
    exact keeps_s2
  refine Keeps.then ?_ (State.reinRaise_keeps _ _ _ _ _) rfl
  refine Keeps.then ?_ (State.edges_keeps _ _ _) rfl
  exact keeps_s3

theorem State.dryGo_keeps (s : State) (c : Nat) (n : Nat) : Keeps 0x29001000800000B140608 s (State.dryGo s c n) := by
  unfold State.dryGo
  extract_lets +onlyGivenNames -merge -useContext i
  refine Keeps.ite ?_ ?_
  · refine Keeps.then ?_ (State.wf_keeps _ _ _ _) (Sub.or rfl (Sub.blk .DRY (by first | rfl | exact blk_ite rfl rfl) rfl))
    exact Keeps.refl _ _
  · extract_lets +onlyGivenNames -merge -useContext s1
    have keeps_s1 : Keeps 0x29001000800000B140608 s s1 := by
      unfold s1
      refine Keeps.then ?_ (State.wf_keeps _ _ _ _) (Sub.or rfl (Sub.blk .DRY (by first | rfl | exact blk_ite rfl rfl) rfl))
      exact Keeps.refl _ _
    split
    · refine Keeps.then ?_ (State.dryReport_keeps _ _ _ _ _) rfl
      exact keeps_s1
    · refine Keeps.then ?_ (State.wf_keeps _ _ _ _) (Sub.or rfl (Sub.blk .DRY (by first | rfl | exact blk_ite rfl rfl) rfl))
      refine Keeps.then ?_ (State.wf_keeps _ _ _ _) (Sub.or rfl (Sub.blk .DRY (by first | rfl | exact blk_ite rfl rfl) rfl))
      refine Keeps.then ?_ (State.dryMod_keeps _ _ _ _) rfl
      exact keeps_s1

theorem State.dryAbort_keeps (s : State) (c : Nat) (n : Nat) (code : Nat) :
    Keeps 0x29001000800000B140608 s (State.dryAbort s c n code) := by
  unfold State.dryAbort
  extract_lets +onlyGivenNames -merge -useContext i
  extract_lets +onlyGivenNames -merge -useContext st
  refine Keeps.ite ?_ ?_
  · refine Keeps.then ?_ (State.dryReport_keeps _ _ _ _ _) rfl
    exact Keeps.refl _ _
  · refine Keeps.ite ?_ ?_
    · refine Keeps.then ?_ (State.wf_keeps _ _ _ _) (Sub.or rfl (Sub.blk .DRY (by first | rfl | exact blk_ite rfl rfl) rfl))
      refine Keeps.then ?_ (State.dryMod_keeps _ _ _ _) rfl
      exact Keeps.refl _ _
    · exact Keeps.refl _ _

theorem State.actDry_keeps (s : State) (c : Nat) (n : Nat) (w : Word) : Keeps 0x29001000800000B140608 s (State.actDry s c n w) := by
  unfold State.actDry
  extract_lets +onlyGivenNames -merge -useContext s1
  have keeps_s1 : Keeps 0x29001000800000B140608 s s1 := by
    unfold s1
    refine Keeps.ite ?_ ?_
    · exact Keeps.refl _ _
    · refine Keeps.ite ?_ ?_
      · refine Keeps.then ?_ (State.wf_keeps _ _ _ _) (Sub.or rfl (Sub.blk .DRY (by first | rfl | exact blk_ite rfl rfl) rfl))
        exact Keeps.refl _ _
      · refine Keeps.then ?_ (State.dryGo_keeps _ _ _) rfl
        exact Keeps.refl _ _
  refine Keeps.ite ?_ ?_
  · refine Keeps.then ?_ (State.dryAbort_keeps _ _ _ _) rfl
    exact keeps_s1
  · exact keeps_s1

theorem execDrayageGo_keeps (m : Nat) (c : Nat) (n : Nat) (w : Word) (s : State) :
    KeepsO 0x2900D000800000B141638 s (execDrayageGo m c n w s) := by
  unfold execDrayageGo
  refine KeepsO.next ?_
  refine Keeps.then ?_ (State.regAct_keeps (msk := 0x2900D000800000B141638) _ _ _ _ _ _ (by exact (Sub.or rfl (Sub.blk .DRY (by first | rfl | exact blk_ite rfl rfl) rfl))) (fun z11 => ?_)) (Sub.refl _)
  · exact Keeps.refl _ _
  · refine Keeps.then ?_ (State.actDry_keeps _ _ _ _) rfl
    exact Keeps.refl _ _

theorem execDrayageAbort_keeps (m : Nat) (c : Nat) (n : Nat) (w : Word) (s : State) :
    KeepsO 0x2900D000800000B141638 s (execDrayageAbort m c n w s) := by
  unfold execDrayageAbort
  refine KeepsO.next ?_
  refine Keeps.then ?_ (State.regAct_keeps (msk := 0x2900D000800000B141638) _ _ _ _ _ _ (by exact (Sub.or rfl (Sub.blk .DRY (by first | rfl | exact blk_ite rfl rfl) rfl))) (fun z11 => ?_)) (Sub.refl _)
  · exact Keeps.refl _ _
  · refine Keeps.then ?_ (State.actDry_keeps _ _ _ _) rfl
    exact Keeps.refl _ _

theorem execDrayageBurst_keeps (c : Nat) (n : Nat) (hostData : List Byte) (hostPoison : List Nat) (hostErr : Bool) (s : State) :
    KeepsO 0x29001000800000B140608 s (execDrayageBurst c n hostData hostPoison hostErr s) := by
  unfold execDrayageBurst
  extract_lets +onlyGivenNames -merge -useContext i
  extract_lets +onlyGivenNames -merge -useContext st
  extract_lets +onlyGivenNames -merge -useContext left
  extract_lets +onlyGivenNames -merge -useContext k
  extract_lets +onlyGivenNames -merge -useContext credit
  refine KeepsO.next ?_
  refine Keeps.ite ?_ ?_
  · exact Keeps.refl _ _
  · extract_lets +onlyGivenNames -merge -useContext s0
    have keeps_s0 : Keeps 0x29001000800000B140608 s s0 := by
      unfold s0
      refine Keeps.ite ?_ ?_
      · refine Keeps.then ?_ (State.wf_keeps _ _ _ _) (Sub.or rfl (Sub.blk .DRY (by first | rfl | exact blk_ite rfl rfl) rfl))
        exact Keeps.refl _ _
      · exact Keeps.refl _ _
    refine Keeps.ite ?_ ?_
    · refine Keeps.then ?_ (State.dryReport_keeps _ _ _ _ _) rfl
      exact keeps_s0
    · extract_lets +onlyGivenNames -merge -useContext b
      extract_lets +onlyGivenNames -merge -useContext len
      extract_lets +onlyGivenNames -merge -useContext moved
      extract_lets +onlyGivenNames -merge -useContext src
      extract_lets +onlyGivenNames -merge -useContext fromHost
      extract_lets +onlyGivenNames -merge -useContext data
      extract_lets +onlyGivenNames -merge -useContext bad
      extract_lets +onlyGivenNames -merge -useContext s1
      have keeps_s1 : Keeps 0x29001000800000B140608 s s1 := by
        unfold s1
        refine Keeps.then ?_ (State.dryStore_keeps _ _ _ _ _ _) rfl
        refine Keeps.then ?_ (State.peak_keeps _ _ _ _) rfl
        exact keeps_s0
      extract_lets +onlyGivenNames -merge -useContext s2
      have keeps_s2 : Keeps 0x29001000800000B140608 s s2 := by
        unfold s2
        refine Keeps.ite ?_ ?_
        · exact keeps_s1
        · refine Keeps.then ?_ (State.wf_keeps _ _ _ _) (Sub.or rfl (Sub.blk .DRY (by first | rfl | exact blk_ite rfl rfl) rfl))
          exact keeps_s1
      refine Keeps.then ?_ (State.dryMod_keeps _ _ _ _) rfl
      refine Keeps.then ?_ (State.wf_keeps _ _ _ _) (Sub.or rfl (Sub.blk .DRY (by first | rfl | exact blk_ite rfl rfl) rfl))
      refine Keeps.then ?_ (State.wf_keeps _ _ _ _) (Sub.or rfl (Sub.blk .DRY (by first | rfl | exact blk_ite rfl rfl) rfl))
      exact keeps_s2

theorem execDrayageComplete_keeps (c : Nat) (n : Nat) (s : State) : KeepsO 0x29001000800000B140608 s (execDrayageComplete c n s) := by
  unfold execDrayageComplete
  extract_lets +onlyGivenNames -merge -useContext i
  extract_lets +onlyGivenNames -merge -useContext st
  extract_lets +onlyGivenNames -merge -useContext left
  refine KeepsO.next ?_
  refine Keeps.ite ?_ ?_
  · exact Keeps.refl _ _
  · refine Keeps.ite ?_ ?_
    · refine Keeps.then ?_ (State.dryReport_keeps _ _ _ _ _) rfl
      exact Keeps.refl _ _
    · refine Keeps.ite ?_ ?_
      · refine Keeps.then ?_ (State.dryReport_keeps _ _ _ _ _) rfl
        exact Keeps.refl _ _
      · exact Keeps.refl _ _

theorem State.dryCredit_keeps (s : State) (c : Nat) (k : Nat) (n : Nat) : Keeps 0x80000000000000000008 s (State.dryCredit s c k n) := by
  unfold State.dryCredit
  extract_lets +onlyGivenNames -merge -useContext i
  extract_lets +onlyGivenNames -merge -useContext v
  extract_lets +onlyGivenNames -merge -useContext s1
  have keeps_s1 : Keeps 0x80000000000000000008 s s1 := by
    unfold s1
    refine Keeps.then ?_ (State.wf_keeps _ _ _ _) (Sub.or rfl (Sub.blk .DRY (by first | rfl | exact blk_ite rfl rfl) rfl))
    exact Keeps.refl _ _
  refine Keeps.ite ?_ ?_
  · refine Keeps.then ?_ (State.wf_keeps _ _ _ _) (Sub.or rfl (Sub.blk .DRY (by first | rfl | exact blk_ite rfl rfl) rfl))
    exact keeps_s1
  · exact keeps_s1

theorem execDrayageCredit_keeps (c : Nat) (k : Nat) (s : State) : KeepsO 0x80000000000000000008 s (execDrayageCredit c k s) := by
  unfold execDrayageCredit
  refine KeepsO.next ?_
  refine Keeps.ite ?_ ?_
  · refine Keeps.then ?_ (State.dryCredit_keeps _ _ _ _) rfl
    exact Keeps.refl _ _
  · exact Keeps.refl _ _

theorem execDrayageReqClear_keeps (m : Nat) (c : Nat) (k : Nat) (w : Word) (s : State) :
    KeepsO 0x800D0000000000041638 s (execDrayageReqClear m c k w s) := by
  unfold execDrayageReqClear
  refine KeepsO.next ?_
  refine Keeps.then ?_ (State.regAct_keeps (msk := 0x800D0000000000041638) _ _ _ _ _ _ (by exact Sub.or rfl (Sub.blk .DRY (by first | rfl | exact blk_ite rfl rfl) rfl)) (fun z1 => ?_)) (Sub.refl _)
  · exact Keeps.refl _ _
  · refine Keeps.then ?_ (State.wf_keeps _ _ _ _) (Sub.or rfl (Sub.blk .DRY (by first | rfl | exact blk_ite rfl rfl) rfl))
    exact Keeps.refl _ _

theorem State.drayStopAll_keeps (s : State) (coach : Option Nat) (code : Nat) :
    Keeps 0x29001000800000B140608 s (State.drayStopAll s coach code) := by
  unfold State.drayStopAll
  refine Keeps.fold ?_ (fun t1 y2 => ?_)
  · exact Keeps.refl _ _
  · refine Keeps.ite ?_ ?_
    · refine Keeps.fold ?_ (fun t3 y4 => ?_)
      · exact Keeps.refl _ _
      · refine Keeps.ite ?_ ?_
        · refine Keeps.then ?_ (State.dryReport_keeps _ _ _ _ _) rfl
          exact Keeps.refl _ _
        · exact Keeps.refl _ _
    · exact Keeps.refl _ _

theorem State.drayDrop_keeps (s : State) : Keeps 0x8000000 s (State.drayDrop s) := by
  unfold State.drayDrop
  refine Keeps.set_dry ?_ rfl
  exact Keeps.refl _ _

end Sys2Proof.Machine
end

