-- ==== Sys2Proof/Laws/KeepsLink.lean ====
section
/-! SUPPORT. Frames of the operations of Machine/Link.lean: what each may change, one lemma each. -/

namespace Sys2Proof.Machine

theorem State.laneMod_keeps (s : State) (l : Nat) (f : Lane → Lane) : Keeps 0x100000000000 s (State.laneMod s l f) := by
  unfold State.laneMod
  refine Keeps.set_lanes ?_ rfl
  exact Keeps.refl _ _

theorem State.connMod_keeps (s : State) (c : Nat) (f : Conn → Conn) : Keeps 0x200000000000 s (State.connMod s c f) := by
  unfold State.connMod
  refine Keeps.set_conns ?_ rfl
  exact Keeps.refl _ _

theorem State.lw_keeps (s : State) (l : Nat) (f : Fld) (v : Nat) : Keeps (0x8 ||| blkBit (f.blk)) s (State.lw s l f v) := by
  unfold State.lw
  refine Keeps.then ?_ (State.wf_keeps _ _ _ _) (Sub.or (Sub.l rfl) (Sub.r _ _))
  exact Keeps.refl _ _

theorem State.setVc_keeps (s : State) (l : Nat) (v : Nat) (x : LaneVc) : Keeps 0x800000000100000000008 s (State.setVc s l v x) := by
  unfold State.setVc
  extract_lets +onlyGivenNames -merge -useContext s1
  have keeps_s1 : Keeps 0x800000000100000000008 s s1 := by
    unfold s1
    refine Keeps.then ?_ (State.laneMod_keeps _ _ _) rfl
    exact Keeps.refl _ _
  refine Keeps.then ?_ (State.wf_keeps _ _ _ _) (Sub.or rfl (Sub.blk .LAN (by first | rfl | exact blk_ite rfl rfl) rfl))
  refine Keeps.then ?_ (State.wf_keeps _ _ _ _) (Sub.or rfl (Sub.blk .LAN (by first | rfl | exact blk_ite rfl rfl) rfl))
  exact keeps_s1

theorem State.creditsZero_keeps (s : State) (l : Nat) : Keeps 0x800000000100000000008 s (State.creditsZero s l) := by
  unfold State.creditsZero
  refine Keeps.fold ?_ (fun t1 y2 => ?_)
  · refine Keeps.then ?_ (State.laneMod_keeps _ _ _) rfl
    exact Keeps.refl _ _
  · refine Keeps.then ?_ (State.wf_keeps _ _ _ _) (Sub.or rfl (Sub.blk .LAN (by first | rfl | exact blk_ite rfl rfl) rfl))
    refine Keeps.then ?_ (State.wf_keeps _ _ _ _) (Sub.or rfl (Sub.blk .LAN (by first | rfl | exact blk_ite rfl rfl) rfl))
    exact Keeps.refl _ _

theorem State.pumpGo_keeps (p0 : Nat) (p1 : Nat) (p2 : State) : Keeps 0x800000000300000000408 p2 (State.pumpGo p0 p1 p2) := by
  induction p0 generalizing p1 p2 with
  | zero =>
    rw [State.pumpGo]
    exact Keeps.refl _ _
  | succ j ih =>
    rw [State.pumpGo]
    split
    · extract_lets +onlyGivenNames -merge -useContext l
      extract_lets +onlyGivenNames -merge -useContext v
      extract_lets +onlyGivenNames -merge -useContext cost
      extract_lets +onlyGivenNames -merge -useContext seq
      refine Keeps.ite ?_ ?_
      · refine Keeps.then ?_ (ih _ _) (Sub.refl _)
        refine Keeps.then ?_ (State.emit_keeps _ _ _ _) rfl
        refine Keeps.then ?_ (State.setVc_keeps _ _ _ _) rfl
        refine Keeps.then ?_ (State.connMod_keeps _ _ _) rfl
        exact Keeps.refl _ _
      · exact Keeps.refl _ _
    · exact Keeps.refl _ _

theorem State.linkPump_keeps (s : State) (k : Nat) : Keeps 0x800000000300000000408 s (State.linkPump s k) := by
  unfold State.linkPump
  refine Keeps.then ?_ (State.pumpGo_keeps _ _ _) rfl
  exact Keeps.refl _ _

theorem State.voxSend_keeps (s : State) (k : Nat) (p : TxPkt) : Keeps 0x800000000300000000408 s (State.voxSend s k p) := by
  unfold State.voxSend
  refine Keeps.ite ?_ ?_
  · exact Keeps.refl _ _
  · refine Keeps.then ?_ (State.linkPump_keeps _ _) rfl
    refine Keeps.then ?_ (State.connMod_keeps _ _ _) rfl
    exact Keeps.refl _ _

theorem State.linkWord_keeps (s : State) (l : Nat) (op : Nat) (dir : Nat) : Keeps 0x400 s (State.linkWord s l op dir) := by
  unfold State.linkWord
  refine Keeps.ite ?_ ?_
  · refine Keeps.then ?_ (State.emit_keeps _ _ _ _) rfl
    exact Keeps.refl _ _
  · exact Keeps.refl _ _

end Sys2Proof.Machine
end

