-- ==== Sys2Proof/Laws/KeepsIng.lean ====
section
/-! SUPPORT. Frames of the operations of Machine/Ing.lean: what each may change, one lemma each. -/

namespace Sys2Proof.Machine

theorem State.ingMod_keeps (s : State) (g : Nat) (f : Ing → Ing) : Keeps 0x40000000 s (State.ingMod s g f) := by
  unfold State.ingMod
  refine Keeps.set_ing ?_ rfl
  exact Keeps.refl _ _

theorem State.ingCount_keeps (s : State) (g : Nat) (k : Nat) : Keeps 0x1000000000000000000008 s (State.ingCount s g k) := by
  unfold State.ingCount
  refine Keeps.then ?_ (State.inc_keeps _ _ _) (Sub.or rfl (Sub.blk .ING (by first | rfl | exact blk_ite rfl rfl) rfl))
  exact Keeps.refl _ _

theorem State.ingEv_keeps (s : State) (g : Nat) (f : Fld) : Keeps (0x10000000000000100608 ||| blkBit (f.blk)) s (State.ingEv s g f) := by
  unfold State.ingEv
  refine Keeps.then ?_ (State.ev_keeps _ _ _) (Sub.or (Sub.l rfl) (Sub.r _ _))
  exact Keeps.refl _ _

theorem State.ingIndex_keeps (s : State) (g : Nat) (f : Fld) (n : Nat) : Keeps (0x8 ||| blkBit (f.blk)) s (State.ingIndex s g f n) := by
  unfold State.ingIndex
  refine Keeps.then ?_ (State.wf64_keeps _ _ _ _) (Sub.or (Sub.l rfl) (Sub.r _ _))
  exact Keeps.refl _ _

theorem State.ingShow_keeps (s : State) (g : Nat) : Keeps 0x1000000000000000000008 s (State.ingShow s g) := by
  unfold State.ingShow
  extract_lets +onlyGivenNames -merge -useContext n
  refine Keeps.then ?_ (State.wf_keeps _ _ _ _) (Sub.or rfl rfl)
  exact Keeps.refl _ _

theorem State.staTap_keeps (s : State) (g : Nat) (from_ : Hop) (it : Item) :
    Keeps 0x1100000000000A0100608 s (State.staTap s g from_ it) := by
  unfold State.staTap
  refine Keeps.ite ?_ ?_
  · exact Keeps.refl _ _
  · extract_lets +onlyGivenNames -merge -useContext r
    have keeps_r : Keeps 0x1100000000000A0100608 s r.1 := by
      unfold r
      refine Keeps.then ?_ (State.tapPush_keeps _ _ _ _ _) rfl
      exact Keeps.refl _ _
    split
    · refine Keeps.ite ?_ ?_
      · exact keeps_r
      · refine Keeps.set_sta ?_ rfl
        exact Keeps.refl _ _
    · exact keeps_r

theorem State.archiveTap_keeps (s : State) (g : Nat) (it : Item) : Keeps 0x110000000000020100608 s (State.archiveTap s g it) := by
  unfold State.archiveTap
  refine Keeps.ite ?_ ?_
  · exact Keeps.refl _ _
  · refine Keeps.fold ?_ (fun t1 y2 => ?_)
    · exact Keeps.refl _ _
    · refine Keeps.then ?_ (State.tapPush_keeps _ _ _ _ _) rfl
      exact Keeps.refl _ _

theorem State.gapSend_keeps (s : State) (g : Nat) : Keeps 0x11100000000800E0100608 s (State.gapSend s g) := by
  unfold State.gapSend
  split
  · exact Keeps.refl _ _
  · extract_lets +onlyGivenNames -merge -useContext s1
    have keeps_s1 : Keeps 0x11100000000800E0100608 s s1 := by
      unfold s1
      refine Keeps.then ?_ (State.ingCount_keeps _ _ _) rfl
      refine Keeps.then ?_ (State.ingMod_keeps _ _ _) rfl
      exact Keeps.refl _ _
    extract_lets +onlyGivenNames -merge -useContext s2
    have keeps_s2 : Keeps 0x11100000000800E0100608 s s2 := by
      unfold s2
      refine Keeps.then ?_ (State.pass_keeps _ _ _ _ _) rfl
      exact keeps_s1
    extract_lets +onlyGivenNames -merge -useContext s3
    have keeps_s3 : Keeps 0x11100000000800E0100608 s s3 := by
      unfold s3
      refine Keeps.ite ?_ ?_
      · refine Keeps.then ?_ (State.staTap_keeps _ _ _ _) rfl
        exact keeps_s2
      · exact keeps_s2
    refine Keeps.then ?_ (State.archiveTap_keeps _ _ _) rfl
    exact keeps_s3

theorem State.gapAdd_keeps (s : State) (g : Nat) (t : Trig) (cause : Nat) :
    Keeps 0x11100000000800E0100608 s (State.gapAdd s g t cause) := by
  unfold State.gapAdd
  extract_lets +onlyGivenNames -merge -useContext fresh
  extract_lets +onlyGivenNames -merge -useContext s1
  have keeps_s1 : Keeps 0x11100000000800E0100608 s s1 := by
    unfold s1
    split
    · refine Keeps.ite ?_ ?_
      · refine Keeps.then ?_ (State.ingMod_keeps _ _ _) rfl
        exact Keeps.refl _ _
      · refine Keeps.then ?_ (State.ingMod_keeps _ _ _) rfl
        refine Keeps.then ?_ (State.gapSend_keeps _ _) rfl
        exact Keeps.refl _ _
    · refine Keeps.then ?_ (State.ingMod_keeps _ _ _) rfl
      exact Keeps.refl _ _
  split
  · refine Keeps.ite ?_ ?_
    · refine Keeps.then ?_ (State.gapSend_keeps _ _) rfl
      exact keeps_s1
    · exact keeps_s1
  · exact keeps_s1

theorem State.epochShow_keeps (s : State) (g : Nat) : Keeps 0x1000000000000000000008 s (State.epochShow s g) := by
  unfold State.epochShow
  extract_lets +onlyGivenNames -merge -useContext i
  extract_lets +onlyGivenNames -merge -useContext s1
  have keeps_s1 : Keeps 0x1000000000000000000008 s s1 := by
    unfold s1
    refine Keeps.then ?_ (State.wf_keeps _ _ _ _) (Sub.or rfl rfl)
    exact Keeps.refl _ _
  split
  · refine Keeps.then ?_ (State.ingIndex_keeps _ _ _ _) (Sub.or rfl rfl)
    exact keeps_s1
  · exact keeps_s1

theorem State.epochTo_keeps (s : State) (g : Nat) (n : Nat) : Keeps 0x1010000000000040100608 s (State.epochTo s g n) := by
  unfold State.epochTo
  refine Keeps.fold ?_ (fun t1 y2 => ?_)
  · exact Keeps.refl _ _
  · extract_lets +onlyGivenNames -merge -useContext w
    extract_lets +onlyGivenNames -merge -useContext k
    extract_lets +onlyGivenNames -merge -useContext l
    extract_lets +onlyGivenNames -merge -useContext x3
    have keeps_x3 : Keeps 0x1010000000000040100608 t1 x3 := by
      unfold x3
      refine Keeps.then ?_ (State.wf_keeps _ _ _ _) (Sub.or rfl rfl)
      refine Keeps.then ?_ (State.wf_keeps _ _ _ _) (Sub.or rfl rfl)
      exact Keeps.refl _ _
    extract_lets +onlyGivenNames -merge -useContext t2
    have keeps_t2 : Keeps 0x1010000000000040100608 t1 t2 := by
      unfold t2
      refine Keeps.then ?_ (State.ingMod_keeps _ _ _) rfl
      refine Keeps.then ?_ (State.ingIndex_keeps _ _ _ _) (Sub.or rfl rfl)
      exact keeps_x3
    refine Keeps.then ?_ (State.ingEv_keeps _ _ _) (Sub.or rfl rfl)
    refine Keeps.then ?_ (State.epochShow_keeps _ _) rfl
    exact keeps_t2

theorem State.epochPend_keeps (s : State) (g : Nat) (unconfirmed : Bool) :
    Keeps 0x1000000000000040000008 s (State.epochPend s g unconfirmed) := by
  unfold State.epochPend
  refine Keeps.then ?_ (State.epochShow_keeps _ _) rfl
  refine Keeps.then ?_ (State.ingMod_keeps _ _ _) rfl
  exact Keeps.refl _ _

theorem State.settleGo_keeps (p0 : Nat) (p1 : Nat) (p2 : State) : Keeps 0x11100000000800E0100608 p2 (State.settleGo p0 p1 p2) := by
  induction p0 generalizing p1 p2 with
  | zero =>
    rw [State.settleGo]
    exact Keeps.refl _ _
  | succ j ih =>
    rw [State.settleGo]
    split
    · exact Keeps.refl _ _
    · split
      · extract_lets +onlyGivenNames -merge -useContext s1
        have keeps_s1 : Keeps 0x11100000000800E0100608 p2 s1 := by
          unfold s1
          refine Keeps.then ?_ (State.gapAdd_keeps _ _ _ _) rfl
          refine Keeps.then ?_ (State.epochTo_keeps _ _ _) rfl
          exact Keeps.refl _ _
        extract_lets +onlyGivenNames -merge -useContext unsent
        refine Keeps.then ?_ (ih _ _) rfl
        refine Keeps.then ?_ (State.ingMod_keeps _ _ _) rfl
        exact keeps_s1
      · exact Keeps.refl _ _

theorem State.settle_keeps (s : State) (g : Nat) : Keeps 0x11100000000800E0100608 s (State.settle s g) := by
  unfold State.settle
  refine Keeps.then ?_ (State.ingShow_keeps _ _) rfl
  refine Keeps.then ?_ (State.settleGo_keeps _ _ _) rfl
  exact Keeps.refl _ _

theorem State.declare_keeps (s : State) (g : Nat) (who : Trig → Bool) (superseded : Bool) :
    Keeps 0x1010000000000040100608 s (State.declare s g who superseded) := by
  unfold State.declare
  extract_lets +onlyGivenNames -merge -useContext lane
  extract_lets +onlyGivenNames -merge -useContext hit
  extract_lets +onlyGivenNames -merge -useContext causeOf
  extract_lets +onlyGivenNames -merge -useContext s1
  have keeps_s1 : Keeps 0x1010000000000040100608 s s1 := by
    unfold s1
    refine Keeps.then ?_ (State.ingMod_keeps _ _ _) rfl
    exact Keeps.refl _ _
  refine Keeps.fold ?_ (fun t1 y2 => ?_)
  · exact keeps_s1
  · refine Keeps.then ?_ (State.ingEv_keeps _ _ _) (Sub.or rfl rfl)
    refine Keeps.ite ?_ ?_
    · refine Keeps.then ?_ (State.ingCount_keeps _ _ _) rfl
      exact Keeps.refl _ _
    · exact Keeps.refl _ _

theorem State.trigApply_keeps (s : State) (g : Nat) (web : Int) : Keeps 0xFFFFFFFF0000000000200018 s (State.trigApply s g web) := by
  unfold State.trigApply
  extract_lets +onlyGivenNames -merge -useContext n
  extract_lets +onlyGivenNames -merge -useContext reached
  extract_lets +onlyGivenNames -merge -useContext s1
  extract_lets +onlyGivenNames -merge -useContext x1
  have keeps_x1 : Keeps 0xFFFFFFFF0000000000200018 s x1 := by
    unfold x1
    refine Keeps.set_yoke ?_ rfl
    exact Keeps.refl _ _
  refine Keeps.then ?_ (State.armedTake_keeps _ _ _ _) rfl
  exact keeps_x1

theorem State.trigPos_keeps (s : State) (g : Nat) (n : Nat) (md : Int) : Keeps 0x200000 s (State.trigPos s g n md) := by
  unfold State.trigPos
  refine Keeps.set_yoke ?_ rfl
  exact Keeps.refl _ _

theorem State.trigSend_keeps (s : State) (g : Nat) (n : Nat) (kind : Nat) (instant : Int) :
    Keeps 0x400 s (State.trigSend s g n kind instant) := by
  unfold State.trigSend
  extract_lets +onlyGivenNames -merge -useContext late
  refine Keeps.then ?_ (State.emitLive_keeps _ _ _ _) rfl
  exact Keeps.refl _ _

theorem State.epochFix_keeps (s : State) (g : Nat) (n : Nat) (instant : Int) : Keeps 0x40000400 s (State.epochFix s g n instant) := by
  unfold State.epochFix
  extract_lets +onlyGivenNames -merge -useContext i
  extract_lets +onlyGivenNames -merge -useContext l
  extract_lets +onlyGivenNames -merge -useContext fixes
  extract_lets +onlyGivenNames -merge -useContext s1
  have keeps_s1 : Keeps 0x40000400 s s1 := by
    unfold s1
    refine Keeps.then ?_ (State.ingMod_keeps _ _ _) rfl
    exact Keeps.refl _ _
  refine Keeps.ite ?_ ?_
  · refine Keeps.fold ?_ (fun t1 y2 => ?_)
    · exact keeps_s1
    · split
      · refine Keeps.ite ?_ ?_
        · refine Keeps.then ?_ (State.emit_keeps _ _ _ _) rfl
          exact Keeps.refl _ _
        · exact Keeps.refl _ _
      · exact Keeps.refl _ _
  · exact keeps_s1

theorem State.staMark_keeps (s : State) (g : Nat) (n : Nat) (md : Int) (time : Int) : Keeps 0x80000000 s (State.staMark s g n md time) := by
  unfold State.staMark
  refine Keeps.ite ?_ ?_
  · refine Keeps.set_sta ?_ rfl
    exact Keeps.refl _ _
  · exact Keeps.refl _ _

theorem State.triggerBy_keeps (s : State) (g : Nat) (instant : Int) (query : Int → Nat × Bool) :
    Keeps 0xFFFFFFFF00000800E0300618 s (State.triggerBy s g instant query) := by
  unfold State.triggerBy
  extract_lets +onlyGivenNames -merge -useContext s0
  have keeps_s0 : Keeps 0xFFFFFFFF00000800E0300618 s s0 := by
    unfold s0
    refine Keeps.then ?_ (State.trigApply_keeps _ _ _) rfl
    exact Keeps.refl _ _
  extract_lets +onlyGivenNames -merge -useContext i
  extract_lets +onlyGivenNames -merge -useContext n
  extract_lets +onlyGivenNames -merge -useContext time
  extract_lets +onlyGivenNames -merge -useContext w
  extract_lets +onlyGivenNames -merge -useContext md
  extract_lets +onlyGivenNames -merge -useContext near
  extract_lets +onlyGivenNames -merge -useContext up
  extract_lets +onlyGivenNames -merge -useContext sent
  extract_lets +onlyGivenNames -merge -useContext t
  extract_lets +onlyGivenNames -merge -useContext s1
  have keeps_s1 : Keeps 0xFFFFFFFF00000800E0300618 s s1 := by
    unfold s1
    refine Keeps.then ?_ (State.ingIndex_keeps _ _ _ _) rfl
    refine Keeps.then ?_ (State.ingMod_keeps _ _ _) rfl
    exact keeps_s0
  extract_lets +onlyGivenNames -merge -useContext s2
  have keeps_s2 : Keeps 0xFFFFFFFF00000800E0300618 s s2 := by
    unfold s2
    refine Keeps.then ?_ (State.staMark_keeps _ _ _ _ _) rfl
    refine Keeps.then ?_ (State.epochShow_keeps _ _) rfl
    refine Keeps.then ?_ (State.trigPos_keeps _ _ _ _) rfl
    refine Keeps.ite ?_ ?_
    · refine Keeps.then ?_ (State.epochFix_keeps _ _ _ _) rfl
      exact keeps_s1
    · exact keeps_s1
  refine Keeps.ite ?_ ?_
  · extract_lets +onlyGivenNames -merge -useContext len
    extract_lets +onlyGivenNames -merge -useContext start
    refine Keeps.then ?_ (State.settle_keeps _ _) rfl
    refine Keeps.then ?_ (State.trigSend_keeps _ _ _ _ _) rfl
    exact keeps_s2
  · extract_lets +onlyGivenNames -merge -useContext s3
    have keeps_s3 : Keeps 0xFFFFFFFF00000800E0300618 s s3 := by
      unfold s3
      refine Keeps.then ?_ (State.ingCount_keeps _ _ _) rfl
      exact keeps_s2
    extract_lets +onlyGivenNames -merge -useContext s4
    have keeps_s4 : Keeps 0xFFFFFFFF00000800E0300618 s s4 := by
      unfold s4
      refine Keeps.ite ?_ ?_
      · exact keeps_s3
      · split
        · refine Keeps.then ?_ (State.ev_keeps _ _ _) rfl
          refine Keeps.then ?_ (State.inc_keeps _ _ _) rfl
          exact keeps_s3
        · exact keeps_s3
    refine Keeps.then ?_ (State.settle_keeps _ _) rfl
    exact keeps_s4

theorem State.trigger_keeps (s : State) (g : Nat) (instant : Int) : Keeps 0xFFFFFFFF00000800E0300618 s (State.trigger s g instant) := by
  unfold State.trigger
  refine Keeps.then ?_ (State.triggerBy_keeps _ _ _ _) rfl
  exact Keeps.refl _ _

theorem State.trigDue_keeps (s : State) (g : Nat) (instant : Int) : Keeps 0x40000000 s (State.trigDue s g instant) := by
  unfold State.trigDue
  refine Keeps.ite ?_ ?_
  · refine Keeps.then ?_ (State.ingMod_keeps _ _ _) rfl
    exact Keeps.refl _ _
  · exact Keeps.refl _ _

theorem execIngTriggerEvent_keeps (g : Nat) (s : State) : KeepsO 0xFFFFFFFF00000800E0300618 s (execIngTriggerEvent g s) := by
  unfold execIngTriggerEvent
  refine KeepsO.next ?_
  split
  · exact Keeps.refl _ _
  · refine Keeps.then ?_ (State.trigger_keeps _ _ _) rfl
    refine Keeps.then ?_ (State.ingMod_keeps _ _ _) rfl
    exact Keeps.refl _ _

theorem State.imageHeader_keeps (s : State) (g : Nat) (pfnc : Nat) (lines : Nat) :
    Keeps 0x1010000000000040100608 s (State.imageHeader s g pfnc lines) := by
  unfold State.imageHeader
  extract_lets +onlyGivenNames -merge -useContext i
  extract_lets +onlyGivenNames -merge -useContext b
  extract_lets +onlyGivenNames -merge -useContext s1
  have keeps_s1 : Keeps 0x1010000000000040100608 s s1 := by
    unfold s1
    refine Keeps.ite ?_ ?_
    · refine Keeps.then ?_ (State.ingEv_keeps _ _ _) (Sub.or rfl rfl)
      refine Keeps.then ?_ (State.ingCount_keeps _ _ _) rfl
      exact Keeps.refl _ _
    · exact Keeps.refl _ _
  extract_lets +onlyGivenNames -merge -useContext bad
  extract_lets +onlyGivenNames -merge -useContext s2
  have keeps_s2 : Keeps 0x1010000000000040100608 s s2 := by
    unfold s2
    refine Keeps.then ?_ (State.wf_keeps _ _ _ _) (Sub.or rfl rfl)
    refine Keeps.then ?_ (State.ingMod_keeps _ _ _) rfl
    exact keeps_s1
  refine Keeps.ite ?_ ?_
  · refine Keeps.then ?_ (State.ingEv_keeps _ _ _) (Sub.or rfl rfl)
    exact keeps_s2
  · exact keeps_s2

theorem execCxpImageHeader_keeps (g : Nat) (pfnc : Nat) (lines : Nat) (s : State) :
    KeepsO 0x11100000000800E0100608 s (execCxpImageHeader g pfnc lines s) := by
  unfold execCxpImageHeader
  refine KeepsO.next ?_
  refine Keeps.ite ?_ ?_
  · exact Keeps.refl _ _
  · extract_lets +onlyGivenNames -merge -useContext s1
    have keeps_s1 : Keeps 0x11100000000800E0100608 s s1 := by
      unfold s1
      refine Keeps.then ?_ (State.declare_keeps _ _ _ _) rfl
      exact Keeps.refl _ _
    extract_lets +onlyGivenNames -merge -useContext first
    refine Keeps.then ?_ (State.settle_keeps _ _) rfl
    refine Keeps.then ?_ (State.ingMod_keeps _ _ _) rfl
    refine Keeps.then ?_ (State.imageHeader_keeps _ _ _ _) rfl
    exact keeps_s1

theorem execVoxhusLineHeader_keeps (g : Nat) (pfnc : Nat) (s : State) :
    KeepsO 0x1010000000000040100608 s (execVoxhusLineHeader g pfnc s) := by
  unfold execVoxhusLineHeader
  refine KeepsO.next ?_
  refine Keeps.ite ?_ ?_
  · exact Keeps.refl _ _
  · refine Keeps.then ?_ (State.imageHeader_keeps _ _ _ _) rfl
    exact Keeps.refl _ _

theorem execTriggerWindowExpire_keeps (g : Nat) (s : State) : KeepsO 0x11100000000800E0100608 s (execTriggerWindowExpire g s) := by
  unfold execTriggerWindowExpire
  refine KeepsO.next ?_
  refine Keeps.then ?_ (State.settle_keeps _ _) rfl
  refine Keeps.then ?_ (State.declare_keeps _ _ _ _) rfl
  exact Keeps.refl _ _

theorem State.patchTakes_keeps (s : State) (g : Nat) (md : Int) : Keeps 0x10000 s (State.patchTakes s g md) := by
  unfold State.patchTakes
  split
  · refine Keeps.ite ?_ ?_
    · refine Keeps.set_hdr ?_ rfl
      exact Keeps.refl _ _
    · exact Keeps.refl _ _
  · exact Keeps.refl _ _

theorem State.trigTo_keeps (s : State) (g : Nat) (n : Nat) (x : TrigState) : Keeps 0x40000000 s (State.trigTo s g n x) := by
  unfold State.trigTo
  refine Keeps.then ?_ (State.ingMod_keeps _ _ _) rfl
  exact Keeps.refl _ _

theorem State.lineApply_keeps (s : State) (g : Nat) (n : Nat) (md : Int) :
    Keeps 0xFFFFFFFF0000021D10BC0638 s (State.lineApply s g n md) := by
  unfold State.lineApply
  extract_lets +onlyGivenNames -merge -useContext due
  extract_lets +onlyGivenNames -merge -useContext s1
  have keeps_s1 : Keeps 0xFFFFFFFF0000021D10BC0638 s s1 := by
    unfold s1
    refine Keeps.fold ?_ (fun t1 y2 => ?_)
    · exact Keeps.refl _ _
    · refine Keeps.then ?_ (State.releaseOn_keeps _ _) rfl
      exact Keeps.refl _ _
  extract_lets +onlyGivenNames -merge -useContext s2
  extract_lets +onlyGivenNames -merge -useContext s2_2
  have keeps_s2_2 : Keeps 0xFFFFFFFF0000021D10BC0638 s s2_2 := by
    unfold s2_2
    refine Keeps.set_yoke ?_ rfl
    exact keeps_s1
  refine Keeps.then ?_ (State.armedTake_keeps _ _ _ _) rfl
  exact keeps_s2_2

theorem State.replayApply_keeps (s : State) (g : Nat) (n : Nat) (md : Int) :
    Keeps 0xFFFFFFFF0000021D10BC0638 s (State.replayApply s g n md) := by
  unfold State.replayApply
  extract_lets +onlyGivenNames -merge -useContext due
  extract_lets +onlyGivenNames -merge -useContext s1
  have keeps_s1 : Keeps 0xFFFFFFFF0000021D10BC0638 s s1 := by
    unfold s1
    refine Keeps.fold ?_ (fun t1 y2 => ?_)
    · exact Keeps.refl _ _
    · refine Keeps.then ?_ (State.releaseOn_keeps _ _) rfl
      exact Keeps.refl _ _
  extract_lets +onlyGivenNames -merge -useContext reached
  extract_lets +onlyGivenNames -merge -useContext s2
  extract_lets +onlyGivenNames -merge -useContext s2_2
  have keeps_s2_2 : Keeps 0xFFFFFFFF0000021D10BC0638 s s2_2 := by
    unfold s2_2
    refine Keeps.set_yoke ?_ rfl
    exact keeps_s1
  refine Keeps.then ?_ (State.armedTake_keeps _ _ _ _) rfl
  exact keeps_s2_2

theorem execIngLineDecide_keeps (g : Nat) (s : State) : KeepsO 0xFFFFFFFF00000A1DF0BD063A s (execIngLineDecide g s) := by
  unfold execIngLineDecide
  refine KeepsO.next ?_
  split
  · refine Keeps.ite ?_ ?_
    · refine Keeps.then ?_ (State.ingMod_keeps _ _ _) rfl
      exact Keeps.refl _ _
    · extract_lets +onlyGivenNames -merge -useContext s0
      have keeps_s0 : Keeps 0xFFFFFFFF00000A1DF0BD063A s s0 := by
        unfold s0
        refine Keeps.then ?_ (State.declare_keeps _ _ _ _) rfl
        exact Keeps.refl _ _
      extract_lets +onlyGivenNames -merge -useContext n
      extract_lets +onlyGivenNames -merge -useContext i
      extract_lets +onlyGivenNames -merge -useContext cam
      extract_lets +onlyGivenNames -merge -useContext s1
      have keeps_s1 : Keeps 0xFFFFFFFF00000A1DF0BD063A s s1 := by
        unfold s1
        refine Keeps.then ?_ (State.wf_keeps _ _ _ _) rfl
        refine Keeps.then ?_ (State.ingMod_keeps _ _ _) rfl
        refine Keeps.ite ?_ ?_
        · refine Keeps.then ?_ (State.drawn_keeps _) rfl
          exact keeps_s0
        · exact keeps_s0
      extract_lets +onlyGivenNames -merge -useContext take
      split
      · refine Keeps.then ?_ (State.settle_keeps _ _) rfl
        refine Keeps.then ?_ (State.ingEv_keeps _ _ _) rfl
        refine Keeps.then ?_ (State.ingCount_keeps _ _ _) rfl
        unfold take
        refine Keeps.then ?_ (State.ingMod_keeps _ _ _) rfl
        exact keeps_s1
      · refine Keeps.then ?_ (State.settle_keeps _ _) rfl
        refine Keeps.then ?_ (State.ingEv_keeps _ _ _) rfl
        refine Keeps.then ?_ (State.ingCount_keeps _ _ _) rfl
        unfold take
        refine Keeps.then ?_ (State.ingMod_keeps _ _ _) rfl
        exact keeps_s1
      · refine Keeps.then ?_ (State.settle_keeps _ _) rfl
        refine Keeps.then ?_ (State.trigTo_keeps _ _ _ _) rfl
        unfold take
        refine Keeps.then ?_ (State.ingMod_keeps _ _ _) rfl
        exact keeps_s1
      · refine Keeps.then ?_ (State.settle_keeps _ _) rfl
        refine Keeps.then ?_ (State.trigTo_keeps _ _ _ _) rfl
        unfold take
        refine Keeps.then ?_ (State.ingMod_keeps _ _ _) rfl
        exact keeps_s1
      · refine Keeps.then ?_ (State.settle_keeps _ _) rfl
        refine Keeps.then ?_ (State.ingEv_keeps _ _ _) rfl
        refine Keeps.then ?_ (State.ingCount_keeps _ _ _) rfl
        refine Keeps.then ?_ (State.trigTo_keeps _ _ _ _) rfl
        unfold take
        refine Keeps.then ?_ (State.ingMod_keeps _ _ _) rfl
        exact keeps_s1
      · extract_lets +onlyGivenNames -merge -useContext m
        extract_lets +onlyGivenNames -merge -useContext md
        extract_lets +onlyGivenNames -merge -useContext s2
        have keeps_s2 : Keeps 0xFFFFFFFF00000A1DF0BD063A s s2 := by
          unfold s2
          refine Keeps.then ?_ (State.patchTakes_keeps _ _ _) rfl
          refine Keeps.then ?_ (State.lineApply_keeps _ _ _ _) rfl
          refine Keeps.then ?_ (State.declare_keeps _ _ _ _) rfl
          refine Keeps.then ?_ (State.trigTo_keeps _ _ _ _) rfl
          exact keeps_s1
        refine Keeps.then ?_ (State.settle_keeps _ _) rfl
        unfold take
        refine Keeps.then ?_ (State.ingMod_keeps _ _ _) rfl
        exact keeps_s2
  · exact Keeps.refl _ _

theorem State.lineOut_keeps (s : State) (g : Nat) (l : Line) (bad : Bool) : Keeps 0x1100000000800A0100608 s (State.lineOut s g l bad) := by
  unfold State.lineOut
  extract_lets +onlyGivenNames -merge -useContext h
  extract_lets +onlyGivenNames -merge -useContext s1
  have keeps_s1 : Keeps 0x1100000000800A0100608 s s1 := by
    unfold s1
    refine Keeps.then ?_ (State.pass_keeps _ _ _ _ _) rfl
    exact Keeps.refl _ _
  extract_lets +onlyGivenNames -merge -useContext s2
  have keeps_s2 : Keeps 0x1100000000800A0100608 s s2 := by
    unfold s2
    refine Keeps.ite ?_ ?_
    · refine Keeps.then ?_ (State.staTap_keeps _ _ _ _) rfl
      exact keeps_s1
    · exact keeps_s1
  refine Keeps.then ?_ (State.archiveTap_keeps _ _ _) rfl
  exact keeps_s2

theorem execIngLineEnd_keeps (g : Nat) (s : State) : KeepsO 0x11100000000800E0100608 s (execIngLineEnd g s) := by
  unfold execIngLineEnd
  refine KeepsO.next ?_
  split
  · exact Keeps.refl _ _
  · extract_lets +onlyGivenNames -merge -useContext done
    extract_lets +onlyGivenNames -merge -useContext r
    extract_lets +onlyGivenNames -merge -useContext pk
    refine Keeps.ite ?_ ?_
    · refine Keeps.then ?_ (State.ingMod_keeps _ _ _) rfl
      exact Keeps.refl _ _
    · extract_lets +onlyGivenNames -merge -useContext i
      extract_lets +onlyGivenNames -merge -useContext b
      extract_lets +onlyGivenNames -merge -useContext marked
      extract_lets +onlyGivenNames -merge -useContext imgShort
      extract_lets +onlyGivenNames -merge -useContext imgLong
      extract_lets +onlyGivenNames -merge -useContext s1
      have keeps_s1 : Keeps 0x11100000000800E0100608 s s1 := by
        unfold s1
        refine Keeps.then ?_ (State.wf_keeps _ _ _ _) (Sub.or rfl rfl)
        refine Keeps.then ?_ (State.ingMod_keeps _ _ _) rfl
        exact Keeps.refl _ _
      extract_lets +onlyGivenNames -merge -useContext s2
      have keeps_s2 : Keeps 0x11100000000800E0100608 s s2 := by
        unfold s2
        refine Keeps.ite ?_ ?_
        · refine Keeps.then ?_ (State.ingEv_keeps _ _ _) (Sub.or rfl rfl)
          refine Keeps.then ?_ (State.ingCount_keeps _ _ _) rfl
          exact keeps_s1
        · refine Keeps.ite ?_ ?_
          · refine Keeps.then ?_ (State.ingEv_keeps _ _ _) (Sub.or rfl rfl)
            refine Keeps.then ?_ (State.ingCount_keeps _ _ _) rfl
            exact keeps_s1
          · exact keeps_s1
      split
      · extract_lets +onlyGivenNames -merge -useContext x
        extract_lets +onlyGivenNames -merge -useContext poison
        extract_lets +onlyGivenNames -merge -useContext s3
        have keeps_s3 : Keeps 0x11100000000800E0100608 s s3 := by
          unfold s3
          refine Keeps.ite ?_ ?_
          · refine Keeps.then ?_ (State.ingEv_keeps _ _ _) (Sub.or rfl rfl)
            refine Keeps.then ?_ (State.ingCount_keeps _ _ _) rfl
            exact keeps_s2
          · exact keeps_s2
        extract_lets +onlyGivenNames -merge -useContext s4
        have keeps_s4 : Keeps 0x11100000000800E0100608 s s4 := by
          unfold s4
          refine Keeps.ite ?_ ?_
          · refine Keeps.then ?_ (State.ingEv_keeps _ _ _) (Sub.or rfl rfl)
            refine Keeps.then ?_ (State.ingCount_keeps _ _ _) rfl
            exact keeps_s3
          · exact keeps_s3
        extract_lets +onlyGivenNames -merge -useContext s5
        have keeps_s5 : Keeps 0x11100000000800E0100608 s s5 := by
          unfold s5
          refine Keeps.ite ?_ ?_
          · refine Keeps.then ?_ (State.ingEv_keeps _ _ _) (Sub.or rfl rfl)
            refine Keeps.then ?_ (State.ingCount_keeps _ _ _) rfl
            exact keeps_s4
          · exact keeps_s4
        extract_lets +onlyGivenNames -merge -useContext s6
        have keeps_s6 : Keeps 0x11100000000800E0100608 s s6 := by
          unfold s6
          refine Keeps.then ?_ (State.gapSend_keeps _ _) rfl
          refine Keeps.then ?_ (State.epochTo_keeps _ _ _) rfl
          exact keeps_s5
        extract_lets +onlyGivenNames -merge -useContext j
        extract_lets +onlyGivenNames -merge -useContext flags
        extract_lets +onlyGivenNames -merge -useContext l
        extract_lets +onlyGivenNames -merge -useContext s7
        have keeps_s7 : Keeps 0x11100000000800E0100608 s s7 := by
          unfold s7
          refine Keeps.then ?_ (State.ingIndex_keeps _ _ _ _) (Sub.or rfl rfl)
          refine Keeps.then ?_ (State.ingMod_keeps _ _ _) rfl
          exact keeps_s6
        refine Keeps.then ?_ (State.settle_keeps _ _) rfl
        refine Keeps.then ?_ (State.lineOut_keeps _ _ _ _) rfl
        exact keeps_s7
      · exact keeps_s2

theorem State.request_keeps (s : State) (g : Nat) (op : Nat) (addr : Nat) (size : Nat) (data : List Nat) :
    Keeps 0x800000000300040000408 s (State.request s g op addr size data) := by
  unfold State.request
  extract_lets +onlyGivenNames -merge -useContext tag
  extract_lets +onlyGivenNames -merge -useContext s1
  have keeps_s1 : Keeps 0x800000000300040000408 s s1 := by
    unfold s1
    refine Keeps.then ?_ (State.ingMod_keeps _ _ _) rfl
    exact Keeps.refl _ _
  refine Keeps.ite ?_ ?_
  · extract_lets +onlyGivenNames -merge -useContext c
    refine Keeps.then ?_ (State.voxSend_keeps _ _ _) rfl
    exact keeps_s1
  · refine Keeps.then ?_ (State.emitLive_keeps _ _ _ _) rfl
    exact keeps_s1

theorem State.tunForbid_keeps (s : State) (g : Nat) : Keeps 0x1010000000000040100608 s (State.tunForbid s g) := by
  unfold State.tunForbid
  extract_lets +onlyGivenNames -merge -useContext w
  refine Keeps.then ?_ (State.ingEv_keeps _ _ _) rfl
  refine Keeps.then ?_ (State.wf_keeps _ _ _ _) rfl
  refine Keeps.then ?_ (State.wf_keeps _ _ _ _) rfl
  refine Keeps.then ?_ (State.wf_keeps _ _ _ _) rfl
  refine Keeps.then ?_ (State.ingMod_keeps _ _ _) rfl
  exact Keeps.refl _ _

theorem State.wireNext_keeps (s : State) (l : List Nat) : Keeps 0x800000000300040000408 s (State.wireNext s l) := by
  unfold State.wireNext
  refine Keeps.ite ?_ ?_
  · exact Keeps.refl _ _
  · split
    · extract_lets +onlyGivenNames -merge -useContext v
      refine Keeps.then ?_ (State.request_keeps _ _ _ _ _ _) rfl
      refine Keeps.then ?_ (State.ingMod_keeps _ _ _) rfl
      exact Keeps.refl _ _
    · split
      · extract_lets +onlyGivenNames -merge -useContext r
        refine Keeps.then ?_ (State.request_keeps _ _ _ _ _ _) rfl
        refine Keeps.then ?_ (State.ingMod_keeps _ _ _) rfl
        exact Keeps.refl _ _
      · exact Keeps.refl _ _

theorem State.wireGo_keeps (s : State) (g : Nat) : Keeps 0x1810000000300040100608 s (State.wireGo s g) := by
  unfold State.wireGo
  extract_lets +onlyGivenNames -merge -useContext l
  refine Keeps.then ?_ (State.wireNext_keeps _ _) rfl
  refine Keeps.fold ?_ (fun t1 y2 => ?_)
  · exact Keeps.refl _ _
  · extract_lets +onlyGivenNames -merge -useContext r
    refine Keeps.ite ?_ ?_
    · refine Keeps.then ?_ (State.tunForbid_keeps _ _) rfl
      exact Keeps.refl _ _
    · exact Keeps.refl _ _

theorem State.camEnds_keeps (s : State) (g : Nat) (good : Bool) : Keeps 0x1810000000300040100608 s (State.camEnds s g good) := by
  unfold State.camEnds
  extract_lets +onlyGivenNames -merge -useContext w
  extract_lets +onlyGivenNames -merge -useContext s1
  have keeps_s1 : Keeps 0x1810000000300040100608 s s1 := by
    unfold s1
    refine Keeps.then ?_ (State.wf_keeps _ _ _ _) rfl
    refine Keeps.then ?_ (State.wf_keeps _ _ _ _) rfl
    refine Keeps.then ?_ (State.ingMod_keeps _ _ _) rfl
    exact Keeps.refl _ _
  extract_lets +onlyGivenNames -merge -useContext s2
  have keeps_s2 : Keeps 0x1810000000300040100608 s s2 := by
    unfold s2
    refine Keeps.ite ?_ ?_
    · refine Keeps.then ?_ (State.ingEv_keeps _ _ _) rfl
      refine Keeps.then ?_ (State.wf_keeps _ _ _ _) rfl
      exact keeps_s1
    · refine Keeps.then ?_ (State.wf_keeps _ _ _ _) rfl
      exact keeps_s1
  refine Keeps.then ?_ (State.wireGo_keeps _ _) rfl
  refine Keeps.then ?_ (State.epochPend_keeps _ _ _) rfl
  exact keeps_s2

theorem State.actCamset_keeps (s : State) (g : Nat) : Keeps 0x1810000000300040100608 s (State.actCamset s g) := by
  unfold State.actCamset
  extract_lets +onlyGivenNames -merge -useContext w
  extract_lets +onlyGivenNames -merge -useContext n
  refine Keeps.ite ?_ ?_
  · refine Keeps.then ?_ (State.wf_keeps _ _ _ _) rfl
    exact Keeps.refl _ _
  · refine Keeps.ite ?_ ?_
    · refine Keeps.then ?_ (State.camEnds_keeps _ _ _) rfl
      exact Keeps.refl _ _
    · extract_lets +onlyGivenNames -merge -useContext l
      refine Keeps.then ?_ (State.wireGo_keeps _ _) rfl
      refine Keeps.then ?_ (State.ingMod_keeps _ _ _) rfl
      refine Keeps.then ?_ (State.wf_keeps _ _ _ _) rfl
      refine Keeps.then ?_ (State.wf_keeps _ _ _ _) rfl
      exact Keeps.refl _ _

theorem execCamsetLaunch_keeps (m : Nat) (w : Word) (g : Nat) (s : State) :
    KeepsO 0x18100D0000300040141638 s (execCamsetLaunch m w g s) := by
  unfold execCamsetLaunch
  refine KeepsO.next ?_
  refine Keeps.then ?_ (State.regAct_keeps (msk := 0x18100D0000300040141638) _ _ _ _ _ _ (by exact rfl) (fun z11 => ?_)) (Sub.refl _)
  · exact Keeps.refl _ _
  · refine Keeps.then ?_ (State.actCamset_keeps _ _) rfl
    exact Keeps.refl _ _

theorem State.camFails_keeps (s : State) (g : Nat) (status : Nat) (timedOut : Bool) :
    Keeps 0x1810000000300040100608 s (State.camFails s g status timedOut) := by
  unfold State.camFails
  extract_lets +onlyGivenNames -merge -useContext w
  extract_lets +onlyGivenNames -merge -useContext s1
  have keeps_s1 : Keeps 0x1810000000300040100608 s s1 := by
    unfold s1
    refine Keeps.then ?_ (State.ingMod_keeps _ _ _) rfl
    refine Keeps.then ?_ (State.wf_keeps _ _ _ _) rfl
    refine Keeps.then ?_ (State.wf_keeps _ _ _ _) rfl
    refine Keeps.then ?_ (State.wf_keeps _ _ _ _) rfl
    exact Keeps.refl _ _
  refine Keeps.then ?_ (State.camEnds_keeps _ _ _) rfl
  exact keeps_s1

theorem State.camAck_keeps (s : State) (g : Nat) (status : Nat) : Keeps 0x1810000000300040100608 s (State.camAck s g status) := by
  unfold State.camAck
  refine Keeps.ite ?_ ?_
  · refine Keeps.then ?_ (State.camFails_keeps _ _ _ _) rfl
    exact Keeps.refl _ _
  · extract_lets +onlyGivenNames -merge -useContext s1
    have keeps_s1 : Keeps 0x1810000000300040100608 s s1 := by
      unfold s1
      refine Keeps.then ?_ (State.ingMod_keeps _ _ _) rfl
      exact Keeps.refl _ _
    refine Keeps.ite ?_ ?_
    · refine Keeps.then ?_ (State.camEnds_keeps _ _ _) rfl
      exact keeps_s1
    · refine Keeps.then ?_ (State.wireGo_keeps _ _) rfl
      exact keeps_s1

theorem execCamsetAck_keeps (g : Nat) (status : Nat) (s : State) : KeepsO 0x1810000000300040100608 s (execCamsetAck g status s) := by
  unfold execCamsetAck
  refine KeepsO.next ?_
  refine Keeps.ite ?_ ?_
  · refine Keeps.then ?_ (State.camAck_keeps _ _ _) rfl
    exact Keeps.refl _ _
  · exact Keeps.refl _ _

theorem execCamsetTimeout_keeps (g : Nat) (s : State) : KeepsO 0x1810000000300040100608 s (execCamsetTimeout g s) := by
  unfold execCamsetTimeout
  refine KeepsO.next ?_
  refine Keeps.ite ?_ ?_
  · refine Keeps.then ?_ (State.camFails_keeps _ _ _ _) rfl
    exact Keeps.refl _ _
  · exact Keeps.refl _ _

theorem State.actTunnel_keeps (s : State) (g : Nat) : Keeps 0x1810000000300040100608 s (State.actTunnel s g) := by
  unfold State.actTunnel
  extract_lets +onlyGivenNames -merge -useContext w
  extract_lets +onlyGivenNames -merge -useContext n
  extract_lets +onlyGivenNames -merge -useContext write
  extract_lets +onlyGivenNames -merge -useContext r
  refine Keeps.ite ?_ ?_
  · refine Keeps.then ?_ (State.wf_keeps _ _ _ _) rfl
    exact Keeps.refl _ _
  · refine Keeps.ite ?_ ?_
    · refine Keeps.then ?_ (State.tunForbid_keeps _ _) rfl
      exact Keeps.refl _ _
    · refine Keeps.then ?_ (State.wireGo_keeps _ _) rfl
      refine Keeps.then ?_ (State.ingMod_keeps _ _ _) rfl
      refine Keeps.then ?_ (State.wf_keeps _ _ _ _) rfl
      refine Keeps.then ?_ (State.wf_keeps _ _ _ _) rfl
      exact Keeps.refl _ _

theorem execTunnelGo_keeps (m : Nat) (w : Word) (g : Nat) (s : State) : KeepsO 0x18100D0000300040141638 s (execTunnelGo m w g s) := by
  unfold execTunnelGo
  refine KeepsO.next ?_
  refine Keeps.then ?_ (State.regAct_keeps (msk := 0x18100D0000300040141638) _ _ _ _ _ _ (by exact rfl) (fun z11 => ?_)) (Sub.refl _)
  · exact Keeps.refl _ _
  · refine Keeps.then ?_ (State.actTunnel_keeps _ _) rfl
    exact Keeps.refl _ _

theorem State.tunEnds_keeps (s : State) (g : Nat) (f : Fld) :
    Keeps (0x1810000000300040100608 ||| blkBit f.blk) s (State.tunEnds s g f) := by
  unfold State.tunEnds
  extract_lets +onlyGivenNames -merge -useContext w
  refine Keeps.then ?_ (State.wireGo_keeps _ _) (Sub.l rfl)
  refine Keeps.then ?_ (State.ingEv_keeps _ _ _) (Sub.l rfl)
  refine Keeps.then ?_ (State.wf_keeps _ _ _ _) (Sub.or (Sub.l rfl) (Sub.r _ _))
  refine Keeps.then ?_ (State.wf_keeps _ _ _ _) (Sub.l rfl)
  refine Keeps.then ?_ (State.wf_keeps _ _ _ _) (Sub.l rfl)
  refine Keeps.then ?_ (State.ingMod_keeps _ _ _) (Sub.l rfl)
  exact Keeps.refl _ _

theorem State.tunAnswer_keeps (s : State) (g : Nat) (status : Nat) (data : List Word) :
    Keeps 0x1810000000300040100608 s (State.tunAnswer s g status data) := by
  unfold State.tunAnswer
  extract_lets +onlyGivenNames -merge -useContext w
  extract_lets +onlyGivenNames -merge -useContext s1
  have keeps_s1 : Keeps 0x1810000000300040100608 s s1 := by
    unfold s1
    refine Keeps.then ?_ (State.wf_keeps _ _ _ _) rfl
    exact Keeps.refl _ _
  refine Keeps.ite ?_ ?_
  · refine Keeps.then ?_ (State.tunEnds_keeps _ _ _) rfl
    exact keeps_s1
  · extract_lets +onlyGivenNames -merge -useContext s2
    have keeps_s2 : Keeps 0x1810000000300040100608 s s2 := by
      unfold s2
      refine Keeps.ite ?_ ?_
      · exact keeps_s1
      · refine Keeps.fold ?_ (fun t1 y2 => ?_)
        · exact keeps_s1
        · refine Keeps.then ?_ (State.wf_keeps _ _ _ _) (Sub.or rfl (Sub.blk .ING (by first | rfl | exact blk_ite rfl rfl) rfl))
          exact Keeps.refl _ _
    refine Keeps.then ?_ (State.tunEnds_keeps _ _ _) rfl
    exact keeps_s2

theorem execTunnelResponse_keeps (g : Nat) (status : Nat) (data : List Word) (s : State) :
    KeepsO 0x1810000000300040100608 s (execTunnelResponse g status data s) := by
  unfold execTunnelResponse
  refine KeepsO.next ?_
  refine Keeps.ite ?_ ?_
  · refine Keeps.then ?_ (State.tunAnswer_keeps _ _ _ _) rfl
    exact Keeps.refl _ _
  · exact Keeps.refl _ _

theorem execTunnelTimeout_keeps (g : Nat) (s : State) : KeepsO 0x1810000000300040100608 s (execTunnelTimeout g s) := by
  unfold execTunnelTimeout
  refine KeepsO.next ?_
  refine Keeps.ite ?_ ?_
  · refine Keeps.then ?_ (State.tunEnds_keeps _ _ _) rfl
    exact Keeps.refl _ _
  · exact Keeps.refl _ _

theorem State.controlResponse_keeps (s : State) (g : Nat) (tag : Nat) (status : Nat) (data : List Word) :
    Keeps 0x1810000000300040100608 s (State.controlResponse s g tag status data) := by
  unfold State.controlResponse
  refine Keeps.ite ?_ ?_
  · exact Keeps.refl _ _
  · refine Keeps.ite ?_ ?_
    · refine Keeps.then ?_ (State.camAck_keeps _ _ _) rfl
      exact Keeps.refl _ _
    · refine Keeps.ite ?_ ?_
      · refine Keeps.then ?_ (State.tunAnswer_keeps _ _ _ _) rfl
        exact Keeps.refl _ _
      · exact Keeps.refl _ _

theorem execCxpControlResponse_keeps (g : Nat) (tag : Nat) (status : Nat) (data : List Word) (s : State) :
    KeepsO 0x1810000000300040100608 s (execCxpControlResponse g tag status data s) := by
  unfold execCxpControlResponse
  refine KeepsO.next ?_
  refine Keeps.ite ?_ ?_
  · refine Keeps.then ?_ (State.controlResponse_keeps _ _ _ _ _) rfl
    exact Keeps.refl _ _
  · exact Keeps.refl _ _

theorem State.evtShow_keeps (s : State) (g : Nat) : Keeps 0x1000000000000000000008 s (State.evtShow s g) := by
  unfold State.evtShow
  extract_lets +onlyGivenNames -merge -useContext w
  extract_lets +onlyGivenNames -merge -useContext q
  extract_lets +onlyGivenNames -merge -useContext h
  extract_lets +onlyGivenNames -merge -useContext s1
  have keeps_s1 : Keeps 0x1000000000000000000008 s s1 := by
    unfold s1
    refine Keeps.then ?_ (State.wf_keeps _ _ _ _) (Sub.or rfl rfl)
    refine Keeps.then ?_ (State.wf_keeps _ _ _ _) (Sub.or rfl rfl)
    exact Keeps.refl _ _
  refine Keeps.fold ?_ (fun t1 y2 => ?_)
  · exact keeps_s1
  · refine Keeps.then ?_ (State.wf_keeps _ _ _ _) (Sub.or rfl (Sub.blk .ING (by first | rfl | exact blk_ite rfl rfl) rfl))
    exact Keeps.refl _ _

theorem State.cameraEvent_keeps (s : State) (g : Nat) (l : List Byte) : Keeps 0x1010000000000040100608 s (State.cameraEvent s g l) := by
  unfold State.cameraEvent
  refine Keeps.ite ?_ ?_
  · refine Keeps.then ?_ (State.wf_keeps _ _ _ _) (Sub.or rfl rfl)
    exact Keeps.refl _ _
  · refine Keeps.then ?_ (State.ingEv_keeps _ _ _) (Sub.or rfl rfl)
    refine Keeps.then ?_ (State.evtShow_keeps _ _) rfl
    refine Keeps.then ?_ (State.ingMod_keeps _ _ _) rfl
    exact Keeps.refl _ _

theorem execCxpEventPacket_keeps (g : Nat) (l : List Byte) (s : State) : KeepsO 0x1010000000000040100608 s (execCxpEventPacket g l s) := by
  unfold execCxpEventPacket
  refine KeepsO.next ?_
  refine Keeps.ite ?_ ?_
  · refine Keeps.then ?_ (State.cameraEvent_keeps _ _ _) rfl
    exact Keeps.refl _ _
  · exact Keeps.refl _ _

theorem execCameraEventReceive_keeps (g : Nat) (l : List Byte) (s : State) :
    KeepsO 0x1010000000000040100608 s (execCameraEventReceive g l s) := by
  unfold execCameraEventReceive
  refine KeepsO.next ?_
  refine Keeps.ite ?_ ?_
  · refine Keeps.then ?_ (State.cameraEvent_keeps _ _ _) rfl
    exact Keeps.refl _ _
  · exact Keeps.refl _ _

theorem State.actEvtPop_keeps (s : State) (g : Nat) : Keeps 0x1000000000000040000008 s (State.actEvtPop s g) := by
  unfold State.actEvtPop
  refine Keeps.then ?_ (State.evtShow_keeps _ _) rfl
  refine Keeps.then ?_ (State.ingMod_keeps _ _ _) rfl
  exact Keeps.refl _ _

theorem execCameraEventPop_keeps (m : Nat) (w : Word) (g : Nat) (s : State) :
    KeepsO 0x10000D0000000040041638 s (execCameraEventPop m w g s) := by
  unfold execCameraEventPop
  refine KeepsO.next ?_
  refine Keeps.then ?_ (State.regAct_keeps (msk := 0x10000D0000000040041638) _ _ _ _ _ _ (by exact Sub.or rfl rfl) (fun z1 => ?_)) (Sub.refl _)
  · exact Keeps.refl _ _
  · refine Keeps.then ?_ (State.actEvtPop_keeps _ _) rfl
    exact Keeps.refl _ _

end Sys2Proof.Machine
end

