-- ==== Sys2Proof/Laws/KeepsKeys.lean ====
section
/-! SUPPORT. Frames of the operations of Machine/Keys.lean: what each may change, one lemma each. -/

namespace Sys2Proof.Machine

theorem State.showKeys_keeps (s : State) : Keeps 0x20000000000000008 s (State.showKeys s) := by
  unfold State.showKeys
  refine Keeps.then ?_ (State.wf_keeps _ _ _ _) (Sub.or rfl rfl)
  exact Keeps.refl _ _

theorem State.actEnrol_keeps (s : State) : Keeps 0x20000000000020008 s (State.actEnrol s) := by
  unfold State.actEnrol
  extract_lets +onlyGivenNames -merge -useContext k
  refine Keeps.ite ?_ ?_
  · refine Keeps.then ?_ (State.showKeys_keeps _) rfl
    refine Keeps.set_keys ?_ rfl (KeysGrow.lmod (fun k => by cases k <;> simp [KeySlot.grows, enrolSlot]) _ _)
    exact Keeps.refl _ _
  · refine Keeps.then ?_ (State.wf_keeps _ _ _ _) (Sub.or rfl rfl)
    exact Keeps.refl _ _

theorem State.actRevoke_keeps (s : State) : Keeps 0x20000000000020008 s (State.actRevoke s) := by
  unfold State.actRevoke
  refine Keeps.then ?_ (State.showKeys_keeps _) rfl
  refine Keeps.set_keys ?_ rfl (KeysGrow.lmod (fun k => by cases k <;> simp [KeySlot.grows, revokeSlot]) _ _)
  exact Keeps.refl _ _

theorem State.keyRefused_keeps (s : State) (m : Nat) (off : Nat) : Keeps 0x10000000000040608 s (State.keyRefused s m off) := by
  unfold State.keyRefused
  refine Keeps.then ?_ (State.gcode_keeps _ _ _ _) rfl
  exact Keeps.refl _ _

theorem execEnrol_keeps (m : Nat) (w : Word) (s : State) : KeepsO 0xF0000000000061638 s (execEnrol m w s) := by
  unfold execEnrol
  refine KeepsO.next ?_
  refine Keeps.then ?_ (State.regOnly_keeps (msk := 0xF0000000000061638) _ _ _ _ _ _ _ _ (by exact Sub.or rfl rfl) (fun z1 => ?_) (fun z2 => ?_)) (Sub.refl _)
  · exact Keeps.refl _ _
  · refine Keeps.then ?_ (State.actEnrol_keeps _) rfl
    exact Keeps.refl _ _
  · refine Keeps.then ?_ (State.keyRefused_keeps _ _ _) rfl
    exact Keeps.refl _ _

theorem execRevoke_keeps (m : Nat) (w : Word) (s : State) : KeepsO 0xF0000000000061638 s (execRevoke m w s) := by
  unfold execRevoke
  refine KeepsO.next ?_
  refine Keeps.then ?_ (State.regOnly_keeps (msk := 0xF0000000000061638) _ _ _ _ _ _ _ _ (by exact Sub.or rfl rfl) (fun z1 => ?_) (fun z2 => ?_)) (Sub.refl _)
  · exact Keeps.refl _ _
  · refine Keeps.then ?_ (State.actRevoke_keeps _) rfl
    exact Keeps.refl _ _
  · refine Keeps.then ?_ (State.keyRefused_keeps _ _ _) rfl
    exact Keeps.refl _ _

theorem State.actOrData_keeps (s : State) (m : Nat) (w : Word) : Keeps 0x20000000000010008 s (State.actOrData s m w) := by
  unfold State.actOrData
  refine Keeps.ite ?_ ?_
  · extract_lets +onlyGivenNames -merge -useContext s1
    extract_lets +onlyGivenNames -merge -useContext x1
    have keeps_x1 : Keeps 0x20000000000010008 s x1 := by
      unfold x1
      refine Keeps.set_hdr ?_ rfl
      exact Keeps.refl _ _
    refine Keeps.then ?_ (State.wf_keeps _ _ _ _) (Sub.or rfl rfl)
    refine Keeps.then ?_ (State.setWord_keeps _ _ _ _ _) (Sub.or rfl rfl)
    exact keeps_x1
  · exact Keeps.refl _ _

theorem State.actOrClear_keeps (s : State) : Keeps 0x20000000000010008 s (State.actOrClear s) := by
  unfold State.actOrClear
  refine Keeps.then ?_ (State.wf_keeps _ _ _ _) (Sub.or rfl rfl)
  refine Keeps.set_hdr ?_ rfl
  exact Keeps.refl _ _

theorem execOrDataAppend_keeps (m : Nat) (w : Word) (s : State) : KeepsO 0xB0000000000051608 s (execOrDataAppend m w s) := by
  unfold execOrDataAppend
  refine KeepsO.next ?_
  refine Keeps.then ?_ (State.regDo_keeps (msk := 0xB0000000000051608) _ _ _ _ _ _ (by exact rfl) (fun z1 => ?_)) (Sub.refl _)
  · exact Keeps.refl _ _
  · refine Keeps.then ?_ (State.actOrData_keeps _ _ _) rfl
    exact Keeps.refl _ _

theorem execOrBufferClear_keeps (m : Nat) (w : Word) (s : State) : KeepsO 0xF0000000000051638 s (execOrBufferClear m w s) := by
  unfold execOrBufferClear
  refine KeepsO.next ?_
  refine Keeps.then ?_ (State.regAct_keeps (msk := 0xF0000000000051638) _ _ _ _ _ _ (by exact Sub.or rfl rfl) (fun z1 => ?_)) (Sub.refl _)
  · exact Keeps.refl _ _
  · refine Keeps.then ?_ (State.actOrClear_keeps _) rfl
    exact Keeps.refl _ _

end Sys2Proof.Machine
end

