-- ==== Sys2Proof/Laws/KeepsLanes.lean ====
section
/-! SUPPORT. Frames of the operations of Machine/Lanes.lean: what each may change, one lemma each. -/

namespace Sys2Proof.Machine

theorem State.laneErr_keeps (s : State) (l : Nat) (d : Nat) : Keeps 0x810000000000000140608 s (State.laneErr s l d) := by
  unfold State.laneErr
  refine Keeps.then ?_ (State.ev_keeps _ _ _) (Sub.or rfl rfl)
  refine Keeps.then ?_ (State.lcode_keeps _ _ _) rfl
  exact Keeps.refl _ _

theorem State.linkMove_keeps (s : State) (l : Nat) : Keeps 0x12000000000000100608 s (State.linkMove s l) := by
  unfold State.linkMove
  refine Keeps.ite ?_ ?_
  · extract_lets +onlyGivenNames -merge -useContext n
    refine Keeps.ite ?_ ?_
    · exact Keeps.refl _ _
    · refine Keeps.then ?_ (State.ev_keeps _ _ _) (Sub.or rfl rfl)
      refine Keeps.then ?_ (State.wf_keeps _ _ _ _) (Sub.or rfl rfl)
      exact Keeps.refl _ _
  · exact Keeps.refl _ _

theorem State.setRx_keeps (s : State) (l : Nat) (v : Nat) : Keeps 0x812000000000000100608 s (State.setRx s l v) := by
  unfold State.setRx
  extract_lets +onlyGivenNames -merge -useContext x1
  extract_lets +onlyGivenNames -merge -useContext s1
  have keeps_s1 : Keeps 0x812000000000000100608 s s1 := by
    unfold s1
    refine Keeps.then ?_ (State.linkMove_keeps _ _) rfl
    refine Keeps.then ?_ (State.lw_keeps _ _ _ _) (Sub.or rfl rfl)
    exact Keeps.refl _ _
  refine Keeps.ite ?_ ?_
  · refine Keeps.then ?_ (State.ev_keeps _ _ _) (Sub.or rfl rfl)
    exact keeps_s1
  · refine Keeps.ite ?_ ?_
    · refine Keeps.then ?_ (State.ev_keeps _ _ _) (Sub.or rfl rfl)
      refine Keeps.then ?_ (State.lw_keeps _ _ _ _) (Sub.or rfl rfl)
      exact keeps_s1
    · exact keeps_s1

theorem State.setTx_keeps (s : State) (l : Nat) (v : Nat) : Keeps 0x812000000000000100608 s (State.setTx s l v) := by
  unfold State.setTx
  refine Keeps.then ?_ (State.linkMove_keeps _ _) rfl
  refine Keeps.then ?_ (State.lw_keeps _ _ _ _) (Sub.or rfl rfl)
  exact Keeps.refl _ _

theorem State.txMove_keeps (s : State) (l : Nat) : Keeps 0x812000000000000100608 s (State.txMove s l) := by
  unfold State.txMove
  extract_lets +onlyGivenNames -merge -useContext t
  refine Keeps.then ?_ (State.setTx_keeps _ _ _) rfl
  exact Keeps.refl _ _

theorem State.eqTake_keeps (s : State) (l : Nat) : Keeps 0x810000000000000140608 s (State.eqTake s l) := by
  unfold State.eqTake
  refine Keeps.ite ?_ ?_
  · extract_lets +onlyGivenNames -merge -useContext x1
    extract_lets +onlyGivenNames -merge -useContext new
    extract_lets +onlyGivenNames -merge -useContext eye
    extract_lets +onlyGivenNames -merge -useContext s1
    have keeps_s1 : Keeps 0x810000000000000140608 s s1 := by
      unfold s1
      refine Keeps.then ?_ (State.lw_keeps _ _ _ _) (Sub.or rfl rfl)
      refine Keeps.then ?_ (State.lw_keeps _ _ _ _) (Sub.or rfl rfl)
      exact Keeps.refl _ _
    extract_lets +onlyGivenNames -merge -useContext s2
    have keeps_s2 : Keeps 0x810000000000000140608 s s2 := by
      unfold s2
      refine Keeps.ite ?_ ?_
      · exact keeps_s1
      · refine Keeps.then ?_ (State.lw_keeps _ _ _ _) (Sub.or rfl rfl)
        refine Keeps.then ?_ (State.lw_keeps _ _ _ _) (Sub.or rfl rfl)
        exact keeps_s1
    extract_lets +onlyGivenNames -merge -useContext s3
    have keeps_s3 : Keeps 0x810000000000000140608 s s3 := by
      unfold s3
      refine Keeps.ite ?_ ?_
      · exact keeps_s2
      · refine Keeps.then ?_ (State.ev_keeps _ _ _) (Sub.or rfl rfl)
        exact keeps_s2
    refine Keeps.ite ?_ ?_
    · refine Keeps.then ?_ (State.laneErr_keeps _ _ _) rfl
      exact keeps_s3
    · exact keeps_s3
  · exact Keeps.refl _ _

theorem State.trainFrom_keeps (s : State) (l : Nat) (step : Nat) : Keeps 0x81200000030000010060A s (State.trainFrom s l step) := by
  unfold State.trainFrom
  extract_lets +onlyGivenNames -merge -useContext seed
  extract_lets +onlyGivenNames -merge -useContext s0
  have keeps_s0 : Keeps 0x81200000030000010060A s s0 := by
    unfold s0
    refine Keeps.ite ?_ ?_
    · refine Keeps.then ?_ (State.drawn_keeps _) rfl
      exact Keeps.refl _ _
    · exact Keeps.refl _ _
  extract_lets +onlyGivenNames -merge -useContext s1
  have keeps_s1 : Keeps 0x81200000030000010060A s s1 := by
    unfold s1
    refine Keeps.then ?_ (State.laneMod_keeps _ _ _) rfl
    exact keeps_s0
  extract_lets +onlyGivenNames -merge -useContext s2
  have keeps_s2 : Keeps 0x81200000030000010060A s s2 := by
    unfold s2
    refine Keeps.ite ?_ ?_
    · refine Keeps.then ?_ (State.creditsZero_keeps _ _) rfl
      exact keeps_s1
    · refine Keeps.ite ?_ ?_
      · refine Keeps.then ?_ (State.connMod_keeps _ _ _) rfl
        exact keeps_s1
      · exact keeps_s1
  extract_lets +onlyGivenNames -merge -useContext was
  extract_lets +onlyGivenNames -merge -useContext s3
  have keeps_s3 : Keeps 0x81200000030000010060A s s3 := by
    unfold s3
    refine Keeps.ite ?_ ?_
    · refine Keeps.then ?_ (State.setRx_keeps _ _ _) rfl
      exact keeps_s2
    · exact keeps_s2
  extract_lets +onlyGivenNames -merge -useContext s4
  have keeps_s4 : Keeps 0x81200000030000010060A s s4 := by
    unfold s4
    refine Keeps.then ?_ (State.lw_keeps _ _ _ _) rfl
    refine Keeps.then ?_ (State.lw_keeps _ _ _ _) rfl
    exact keeps_s3
  refine Keeps.then ?_ (State.txMove_keeps _ _) rfl
  refine Keeps.ite ?_ ?_
  · refine Keeps.then ?_ (State.lw_keeps _ _ _ _) rfl
    exact keeps_s4
  · exact keeps_s4

theorem State.train_keeps (s : State) (l : Nat) : Keeps 0x81200000030000010060A s (State.train s l) := by
  unfold State.train
  refine Keeps.then ?_ (State.trainFrom_keeps _ _ _) rfl
  exact Keeps.refl _ _

theorem State.laneDrops_keeps (s : State) (l : Nat) : Keeps 0x100000000000 s (State.laneDrops s l) := by
  unfold State.laneDrops
  refine Keeps.ite ?_ ?_
  · extract_lets +onlyGivenNames -merge -useContext idle
    refine Keeps.then ?_ (State.laneMod_keeps _ _ _) rfl
    exact Keeps.refl _ _
  · exact Keeps.refl _ _

theorem State.laneBack_keeps (s : State) (l : Nat) : Keeps 0x120000000000 s (State.laneBack s l) := by
  unfold State.laneBack
  refine Keeps.fold ?_ (fun t1 y2 => ?_)
  · refine Keeps.then ?_ (State.laneMod_keeps _ _ _) rfl
    exact Keeps.refl _ _
  · refine Keeps.ite ?_ ?_
    · refine Keeps.then ?_ (State.recoveryGap_keeps _ _ _) rfl
      exact Keeps.refl _ _
    · exact Keeps.refl _ _

theorem State.retrain_keeps (s : State) (l : Nat) (code : Option Nat) : Keeps 0x81200000030000014060A s (State.retrain s l code) := by
  unfold State.retrain
  refine Keeps.ite ?_ ?_
  · exact Keeps.refl _ _
  · extract_lets +onlyGivenNames -merge -useContext s1
    have keeps_s1 : Keeps 0x81200000030000014060A s s1 := by
      unfold s1
      split
      · refine Keeps.then ?_ (State.laneErr_keeps _ _ _) rfl
        exact Keeps.refl _ _
      · exact Keeps.refl _ _
    extract_lets +onlyGivenNames -merge -useContext s2
    have keeps_s2 : Keeps 0x81200000030000014060A s s2 := by
      unfold s2
      refine Keeps.ite ?_ ?_
      · refine Keeps.then ?_ (State.pcode_keeps _ _) rfl
        exact keeps_s1
      · exact keeps_s1
    refine Keeps.then ?_ (State.train_keeps _ _) rfl
    refine Keeps.then ?_ (State.eqTake_keeps _ _) rfl
    refine Keeps.then ?_ (State.inc_keeps _ _ _) rfl
    refine Keeps.then ?_ (State.laneDrops_keeps _ _) rfl
    exact keeps_s2

theorem State.laneUp_keeps (s : State) (l : Nat) : Keeps 0x812000000120000140608 s (State.laneUp s l) := by
  unfold State.laneUp
  extract_lets +onlyGivenNames -merge -useContext eye
  extract_lets +onlyGivenNames -merge -useContext s1
  have keeps_s1 : Keeps 0x812000000120000140608 s s1 := by
    unfold s1
    refine Keeps.then ?_ (State.setRx_keeps _ _ _) rfl
    refine Keeps.then ?_ (State.laneMod_keeps _ _ _) rfl
    refine Keeps.then ?_ (State.laneBack_keeps _ _) rfl
    exact Keeps.refl _ _
  extract_lets +onlyGivenNames -merge -useContext s2
  have keeps_s2 : Keeps 0x812000000120000140608 s s2 := by
    unfold s2
    refine Keeps.then ?_ (State.lw_keeps _ _ _ _) rfl
    refine Keeps.then ?_ (State.lw_keeps _ _ _ _) rfl
    refine Keeps.then ?_ (State.lw_keeps _ _ _ _) rfl
    exact keeps_s1
  extract_lets +onlyGivenNames -merge -useContext s3
  have keeps_s3 : Keeps 0x812000000120000140608 s s3 := by
    unfold s3
    refine Keeps.then ?_ (State.lw_keeps _ _ _ _) rfl
    refine Keeps.then ?_ (State.lw_keeps _ _ _ _) rfl
    exact keeps_s2
  refine Keeps.ite ?_ ?_
  · refine Keeps.then ?_ (State.laneErr_keeps _ _ _) rfl
    exact keeps_s3
  · exact keeps_s3

theorem State.laneUpOr_keeps (s : State) (l : Nat) (eye : Nat) : Keeps 0x81200000032000014060A s (State.laneUpOr s l eye) := by
  unfold State.laneUpOr
  extract_lets +onlyGivenNames -merge -useContext s1
  have keeps_s1 : Keeps 0x81200000032000014060A s s1 := by
    unfold s1
    refine Keeps.then ?_ (State.laneMod_keeps _ _ _) rfl
    exact Keeps.refl _ _
  refine Keeps.ite ?_ ?_
  · refine Keeps.then ?_ (State.train_keeps _ _) rfl
    refine Keeps.then ?_ (State.laneErr_keeps _ _ _) rfl
    exact keeps_s1
  · refine Keeps.then ?_ (State.laneUp_keeps _ _) rfl
    exact keeps_s1

theorem execLanePllLocked_keeps (lane : Nat) (s : State) : KeepsO 0x812000000000000100608 s (execLanePllLocked lane s) := by
  unfold execLanePllLocked
  refine KeepsO.next ?_
  refine Keeps.ite ?_ ?_
  · extract_lets +onlyGivenNames -merge -useContext s1
    have keeps_s1 : Keeps 0x812000000000000100608 s s1 := by
      unfold s1
      refine Keeps.then ?_ (State.lw_keeps _ _ _ _) (Sub.or rfl rfl)
      exact Keeps.refl _ _
    refine Keeps.then ?_ (State.txMove_keeps _ _) rfl
    refine Keeps.then ?_ (State.lw_keeps _ _ _ _) (Sub.or rfl rfl)
    exact keeps_s1
  · exact Keeps.refl _ _

theorem State.discover_keeps (s : State) (l : Nat) : Keeps 0x200000000000 s (State.discover s l) := by
  unfold State.discover
  extract_lets +onlyGivenNames -merge -useContext c
  refine Keeps.ite ?_ ?_
  · refine Keeps.then ?_ (State.connMod_keeps _ _ _) rfl
    exact Keeps.refl _ _
  · exact Keeps.refl _ _

theorem execLaneCdrLocked_keeps (lane : Nat) (s : State) : KeepsO 0x800000000200000000008 s (execLaneCdrLocked lane s) := by
  unfold execLaneCdrLocked
  refine KeepsO.next ?_
  refine Keeps.ite ?_ ?_
  · refine Keeps.then ?_ (State.discover_keeps _ _) rfl
    refine Keeps.then ?_ (State.lw_keeps _ _ _ _) rfl
    refine Keeps.then ?_ (State.lw_keeps _ _ _ _) rfl
    exact Keeps.refl _ _
  · exact Keeps.refl _ _

theorem execLaneFramingDone_keeps (lane : Nat) (eye : Nat) (s : State) :
    KeepsO 0x81200000032000014060A s (execLaneFramingDone lane eye s) := by
  unfold execLaneFramingDone
  refine KeepsO.next ?_
  refine Keeps.ite ?_ ?_
  · exact Keeps.refl _ _
  · refine Keeps.ite ?_ ?_
    · refine Keeps.ite ?_ ?_
      · refine Keeps.then ?_ (State.laneUpOr_keeps _ _ _) rfl
        exact Keeps.refl _ _
      · exact Keeps.refl _ _
    · refine Keeps.ite ?_ ?_
      · refine Keeps.then ?_ (State.laneUpOr_keeps _ _ _) rfl
        exact Keeps.refl _ _
      · refine Keeps.ite ?_ ?_
        · exact Keeps.refl _ _
        · refine Keeps.ite ?_ ?_
          · refine Keeps.then ?_ (State.laneUpOr_keeps _ _ _) rfl
            exact Keeps.refl _ _
          · extract_lets +onlyGivenNames -merge -useContext s1
            have keeps_s1 : Keeps 0x81200000032000014060A s s1 := by
              unfold s1
              refine Keeps.then ?_ (State.lw_keeps _ _ _ _) rfl
              refine Keeps.then ?_ (State.laneMod_keeps _ _ _) rfl
              exact Keeps.refl _ _
            extract_lets +onlyGivenNames -merge -useContext s2
            have keeps_s2 : Keeps 0x81200000032000014060A s s2 := by
              unfold s2
              refine Keeps.ite ?_ ?_
              · refine Keeps.then ?_ (State.linkWord_keeps _ _ _ _) rfl
                exact keeps_s1
              · exact keeps_s1
            refine Keeps.ite ?_ ?_
            · refine Keeps.then ?_ (State.laneUpOr_keeps _ _ _) rfl
              exact keeps_s2
            · refine Keeps.then ?_ (State.lw_keeps _ _ _ _) rfl
              exact keeps_s2

theorem execLaneTrainTimeout_keeps (lane : Nat) (s : State) : KeepsO 0x81200000030000014060A s (execLaneTrainTimeout lane s) := by
  unfold execLaneTrainTimeout
  refine KeepsO.next ?_
  split
  · exact Keeps.refl _ _
  · refine Keeps.ite ?_ ?_
    · exact Keeps.refl _ _
    · refine Keeps.then ?_ (State.train_keeps _ _) rfl
      refine Keeps.then ?_ (State.laneErr_keeps _ _ _) rfl
      exact Keeps.refl _ _

theorem State.lockReport_keeps (s : State) (l : Nat) : Keeps 0x81200000032000014060A s (State.lockReport s l) := by
  unfold State.lockReport
  refine Keeps.ite ?_ ?_
  · exact Keeps.refl _ _
  · extract_lets +onlyGivenNames -merge -useContext s1
    have keeps_s1 : Keeps 0x81200000032000014060A s s1 := by
      unfold s1
      refine Keeps.then ?_ (State.txMove_keeps _ _) rfl
      refine Keeps.then ?_ (State.laneMod_keeps _ _ _) rfl
      exact Keeps.refl _ _
    refine Keeps.ite ?_ ?_
    · refine Keeps.then ?_ (State.laneUpOr_keeps _ _ _) rfl
      exact keeps_s1
    · exact keeps_s1

theorem execLaneSignalLoss_keeps (lane : Nat) (s : State) : KeepsO 0x81200000030000014060A s (execLaneSignalLoss lane s) := by
  unfold execLaneSignalLoss
  refine KeepsO.next ?_
  extract_lets +onlyGivenNames -merge -useContext s1
  have keeps_s1 : Keeps 0x81200000030000014060A s s1 := by
    unfold s1
    refine Keeps.then ?_ (State.lw_keeps _ _ _ _) (Sub.or rfl rfl)
    exact Keeps.refl _ _
  refine Keeps.ite ?_ ?_
  · refine Keeps.ite ?_ ?_
    · refine Keeps.then ?_ (State.setRx_keeps _ _ _) rfl
      exact keeps_s1
    · refine Keeps.then ?_ (State.retrain_keeps _ _ _) rfl
      exact keeps_s1
  · exact keeps_s1

theorem execEthBlockLockLoss_keeps (lane : Nat) (s : State) : KeepsO 0x81200000030000014060A s (execEthBlockLockLoss lane s) := by
  unfold execEthBlockLockLoss
  refine KeepsO.next ?_
  refine Keeps.ite ?_ ?_
  · refine Keeps.then ?_ (State.retrain_keeps _ _ _) rfl
    exact Keeps.refl _ _
  · exact Keeps.refl _ _

theorem State.clearCounts_keeps (s : State) (l : Nat) : Keeps 0x800000000100000000008 s (State.clearCounts s l) := by
  unfold State.clearCounts
  extract_lets +onlyGivenNames -merge -useContext i
  extract_lets +onlyGivenNames -merge -useContext s1
  have keeps_s1 : Keeps 0x800000000100000000008 s s1 := by
    unfold s1
    refine Keeps.then ?_ (State.wf_keeps _ _ _ _) (Sub.or rfl rfl)
    refine Keeps.then ?_ (State.wf_keeps _ _ _ _) (Sub.or rfl rfl)
    refine Keeps.then ?_ (State.wf_keeps _ _ _ _) (Sub.or rfl rfl)
    refine Keeps.then ?_ (State.setWord_keeps _ _ _ _ _) (Sub.or rfl rfl)
    refine Keeps.then ?_ (State.wf_keeps _ _ _ _) (Sub.or rfl rfl)
    refine Keeps.then ?_ (State.wf_keeps _ _ _ _) (Sub.or rfl rfl)
    exact Keeps.refl _ _
  extract_lets +onlyGivenNames -merge -useContext s2
  have keeps_s2 : Keeps 0x800000000100000000008 s s2 := by
    unfold s2
    refine Keeps.fold ?_ (fun t1 y2 => ?_)
    · exact keeps_s1
    · refine Keeps.then ?_ (State.wf_keeps _ _ _ _) (Sub.or rfl (Sub.blk .LAN (by first | rfl | exact blk_ite rfl rfl) rfl))
      exact Keeps.refl _ _
  refine Keeps.then ?_ (State.laneMod_keeps _ _ _) rfl
  refine Keeps.then ?_ (State.wf_keeps _ _ _ _) (Sub.or rfl rfl)
  exact keeps_s2

theorem State.actLanCtl_keeps (s : State) (l : Nat) (w : Word) : Keeps 0xC120000003005001C060A s (State.actLanCtl s l w) := by
  unfold State.actLanCtl
  extract_lets +onlyGivenNames -merge -useContext s1
  have keeps_s1 : Keeps 0xC120000003005001C060A s s1 := by
    unfold s1
    refine Keeps.ite ?_ ?_
    · refine Keeps.then ?_ (State.clearCounts_keeps _ _) rfl
      exact Keeps.refl _ _
    · exact Keeps.refl _ _
  extract_lets +onlyGivenNames -merge -useContext s2
  have keeps_s2 : Keeps 0xC120000003005001C060A s s2 := by
    unfold s2
    refine Keeps.ite ?_ ?_
    · refine Keeps.then ?_ (State.retrain_keeps _ _ _) rfl
      exact keeps_s1
    · exact keeps_s1
  refine Keeps.ite ?_ ?_
  · refine Keeps.then ?_ (State.wwtRequest_keeps _ _ _ _ _) rfl
    exact keeps_s2
  · exact keeps_s2

theorem execLaneRetrain_keeps (m : Nat) (w : Word) (lane : Nat) (s : State) :
    KeepsO 0xC120D00003005001C163A s (execLaneRetrain m w lane s) := by
  unfold execLaneRetrain
  refine KeepsO.next ?_
  refine Keeps.then ?_ (State.regAct_keeps (msk := 0xC120D00003005001C163A) _ _ _ _ _ _ (by exact rfl) (fun z11 => ?_)) (Sub.refl _)
  · exact Keeps.refl _ _
  · refine Keeps.then ?_ (State.actLanCtl_keeps _ _ _) rfl
    exact Keeps.refl _ _

theorem execLaneClearCounts_keeps (m : Nat) (w : Word) (lane : Nat) (s : State) :
    KeepsO 0xC120D00003005001C163A s (execLaneClearCounts m w lane s) := by
  unfold execLaneClearCounts
  refine KeepsO.next ?_
  refine Keeps.then ?_ (State.regAct_keeps (msk := 0xC120D00003005001C163A) _ _ _ _ _ _ (by exact rfl) (fun z11 => ?_)) (Sub.refl _)
  · exact Keeps.refl _ _
  · refine Keeps.then ?_ (State.actLanCtl_keeps _ _ _) rfl
    exact Keeps.refl _ _

theorem execLaneRunWwt_keeps (m : Nat) (w : Word) (lane : Nat) (s : State) :
    KeepsO 0xC120D00003005001C163A s (execLaneRunWwt m w lane s) := by
  unfold execLaneRunWwt
  refine KeepsO.next ?_
  refine Keeps.then ?_ (State.regAct_keeps (msk := 0xC120D00003005001C163A) _ _ _ _ _ _ (by exact rfl) (fun z11 => ?_)) (Sub.refl _)
  · exact Keeps.refl _ _
  · refine Keeps.then ?_ (State.actLanCtl_keeps _ _ _) rfl
    exact Keeps.refl _ _

theorem State.actSetGo_keeps (s : State) (l : Nat) : Keeps 0x800000000100000000008 s (State.actSetGo s l) := by
  unfold State.actSetGo
  refine Keeps.then ?_ (State.laneMod_keeps _ _ _) rfl
  refine Keeps.then ?_ (State.lw_keeps _ _ _ _) (Sub.or rfl rfl)
  refine Keeps.then ?_ (State.lw_keeps _ _ _ _) (Sub.or rfl rfl)
  exact Keeps.refl _ _

theorem execLaneEqSetGo_keeps (m : Nat) (w : Word) (lane : Nat) (s : State) :
    KeepsO 0x8000D0000100000041638 s (execLaneEqSetGo m w lane s) := by
  unfold execLaneEqSetGo
  refine KeepsO.next ?_
  refine Keeps.then ?_ (State.regAct_keeps (msk := 0x8000D0000100000041638) _ _ _ _ _ _ (by exact Sub.or rfl rfl) (fun z1 => ?_)) (Sub.refl _)
  · exact Keeps.refl _ _
  · refine Keeps.then ?_ (State.actSetGo_keeps _ _) rfl
    exact Keeps.refl _ _

theorem execLaneEqSwitch_keeps (lane : Nat) (s : State) : KeepsO 0x810000000000000140608 s (execLaneEqSwitch lane s) := by
  unfold execLaneEqSwitch
  refine KeepsO.next ?_
  refine Keeps.ite ?_ ?_
  · refine Keeps.then ?_ (State.eqTake_keeps _ _) rfl
    exact Keeps.refl _ _
  · exact Keeps.refl _ _

theorem State.eqAccept_keeps (s : State) (e : EyePair) : Keeps 0x810000000100000140608 s (State.eqAccept s e) := by
  unfold State.eqAccept
  extract_lets +onlyGivenNames -merge -useContext l
  extract_lets +onlyGivenNames -merge -useContext eye
  extract_lets +onlyGivenNames -merge -useContext s1
  have keeps_s1 : Keeps 0x810000000100000140608 s s1 := by
    unfold s1
    refine Keeps.then ?_ (State.laneMod_keeps _ _ _) rfl
    refine Keeps.then ?_ (State.inc_keeps _ _ _) (Sub.or rfl rfl)
    exact Keeps.refl _ _
  refine Keeps.ite ?_ ?_
  · extract_lets +onlyGivenNames -merge -useContext s2
    have keeps_s2 : Keeps 0x810000000100000140608 s s2 := by
      unfold s2
      refine Keeps.then ?_ (State.lw_keeps _ _ _ _) (Sub.or rfl rfl)
      refine Keeps.then ?_ (State.lw_keeps _ _ _ _) (Sub.or rfl rfl)
      refine Keeps.then ?_ (State.lw_keeps _ _ _ _) (Sub.or rfl rfl)
      exact keeps_s1
    refine Keeps.ite ?_ ?_
    · refine Keeps.then ?_ (State.laneErr_keeps _ _ _) rfl
      exact keeps_s2
    · exact keeps_s2
  · refine Keeps.then ?_ (State.lw_keeps _ _ _ _) (Sub.or rfl rfl)
    refine Keeps.then ?_ (State.lw_keeps _ _ _ _) (Sub.or rfl rfl)
    exact keeps_s1

theorem execLaneRunComplete_keeps (c : Nat) (first : List (List Nat)) (second : List (List Nat)) (s : State) :
    KeepsO 0xC100000001005001C0608 s (execLaneRunComplete c first second s) := by
  unfold execLaneRunComplete
  refine KeepsO.next ?_
  refine Keeps.ite ?_ ?_
  · exact Keeps.refl _ _
  · extract_lets +onlyGivenNames -merge -useContext ls
    extract_lets +onlyGivenNames -merge -useContext pairs
    extract_lets +onlyGivenNames -merge -useContext least
    extract_lets +onlyGivenNames -merge -useContext q1
    extract_lets +onlyGivenNames -merge -useContext q2
    extract_lets +onlyGivenNames -merge -useContext worst
    extract_lets +onlyGivenNames -merge -useContext detail
    refine Keeps.ite ?_ ?_
    · refine Keeps.then ?_ (State.wwtAccept_keeps _ _ _ _ _ _ _) rfl
      refine Keeps.fold ?_ (fun t1 y2 => ?_)
      · exact Keeps.refl _ _
      · refine Keeps.then ?_ (State.eqAccept_keeps _ _) rfl
        exact Keeps.refl _ _
    · refine Keeps.then ?_ (State.wwtReject_keeps _ _ _ _ _ _ _) rfl
      exact Keeps.refl _ _

theorem State.cxpLane_keeps (s : State) (speed : Nat) (uplink : Nat) (eye : Nat) (l : Nat) :
    Keeps 0x81200000032000014060A s (State.cxpLane s speed uplink eye l) := by
  unfold State.cxpLane
  extract_lets +onlyGivenNames -merge -useContext s1
  have keeps_s1 : Keeps 0x81200000032000014060A s s1 := by
    unfold s1
    refine Keeps.then ?_ (State.lw_keeps _ _ _ _) rfl
    refine Keeps.then ?_ (State.lw_keeps _ _ _ _) rfl
    refine Keeps.then ?_ (State.lw_keeps _ _ _ _) rfl
    exact Keeps.refl _ _
  extract_lets +onlyGivenNames -merge -useContext s2
  have keeps_s2 : Keeps 0x81200000032000014060A s s2 := by
    unfold s2
    refine Keeps.then ?_ (State.txMove_keeps _ _) rfl
    exact keeps_s1
  refine Keeps.ite ?_ ?_
  · refine Keeps.then ?_ (State.laneUpOr_keeps _ _ _) rfl
    exact keeps_s2
  · exact keeps_s2

theorem State.laneStuck_keeps (s : State) (l : Nat) (code : Nat) : Keeps 0x812000000100000140608 s (State.laneStuck s l code) := by
  unfold State.laneStuck
  extract_lets +onlyGivenNames -merge -useContext s1
  have keeps_s1 : Keeps 0x812000000100000140608 s s1 := by
    unfold s1
    refine Keeps.then ?_ (State.laneErr_keeps _ _ _) rfl
    refine Keeps.then ?_ (State.laneMod_keeps _ _ _) rfl
    refine Keeps.then ?_ (State.laneDrops_keeps _ _) rfl
    exact Keeps.refl _ _
  extract_lets +onlyGivenNames -merge -useContext s2
  have keeps_s2 : Keeps 0x812000000100000140608 s s2 := by
    unfold s2
    refine Keeps.ite ?_ ?_
    · refine Keeps.then ?_ (State.lw_keeps _ _ _ _) rfl
      refine Keeps.then ?_ (State.setRx_keeps _ _ _) rfl
      exact keeps_s1
    · exact keeps_s1
  refine Keeps.ite ?_ ?_
  · refine Keeps.then ?_ (State.setTx_keeps _ _ _) rfl
    exact keeps_s2
  · exact keeps_s2

theorem State.connFails_keeps (s : State) (c : Nat) (code : Nat) : Keeps 0x812000000300000140608 s (State.connFails s c code) := by
  unfold State.connFails
  refine Keeps.fold ?_ (fun t1 y2 => ?_)
  · refine Keeps.then ?_ (State.connMod_keeps _ _ _) rfl
    exact Keeps.refl _ _
  · refine Keeps.then ?_ (State.laneStuck_keeps _ _ _) rfl
    exact Keeps.refl _ _

theorem execCxpDiscovery_keeps (c : Nat) (speed : Nat) (count : Nat) (uplink : Nat) (eyes : List Nat) (s : State) :
    KeepsO 0x81200000032000014060A s (execCxpDiscovery c speed count uplink eyes s) := by
  unfold execCxpDiscovery
  refine KeepsO.next ?_
  refine Keeps.ite ?_ ?_
  · exact Keeps.refl _ _
  · extract_lets +onlyGivenNames -merge -useContext ls
    refine Keeps.ite ?_ ?_
    · refine Keeps.then ?_ (State.connFails_keeps _ _ _) rfl
      exact Keeps.refl _ _
    · extract_lets +onlyGivenNames -merge -useContext s1
      have keeps_s1 : Keeps 0x81200000032000014060A s s1 := by
        unfold s1
        refine Keeps.then ?_ (State.emit_keeps _ _ _ _) rfl
        refine Keeps.then ?_ (State.connMod_keeps _ _ _) rfl
        exact Keeps.refl _ _
      refine Keeps.fold ?_ (fun t1 y2 => ?_)
      · exact keeps_s1
      · refine Keeps.then ?_ (State.cxpLane_keeps _ _ _ _ _) rfl
        exact Keeps.refl _ _

theorem execCxpDiscoveryTimeout_keeps (c : Nat) (s : State) : KeepsO 0x812000000300000140608 s (execCxpDiscoveryTimeout c s) := by
  unfold execCxpDiscoveryTimeout
  refine KeepsO.next ?_
  refine Keeps.ite ?_ ?_
  · refine Keeps.then ?_ (State.connFails_keeps _ _ _) rfl
    exact Keeps.refl _ _
  · exact Keeps.refl _ _

theorem State.rxWake_keeps (s : State) (l : Nat) : Keeps 0x81200000030000010060A s (State.rxWake s l) := by
  unfold State.rxWake
  refine Keeps.ite ?_ ?_
  · extract_lets +onlyGivenNames -merge -useContext s1
    have keeps_s1 : Keeps 0x81200000030000010060A s s1 := by
      unfold s1
      refine Keeps.ite ?_ ?_
      · refine Keeps.then ?_ (State.laneMod_keeps _ _ _) rfl
        refine Keeps.then ?_ (State.linkWord_keeps _ _ _ _) rfl
        exact Keeps.refl _ _
      · exact Keeps.refl _ _
    extract_lets +onlyGivenNames -merge -useContext s2
    have keeps_s2 : Keeps 0x81200000030000010060A s s2 := by
      unfold s2
      refine Keeps.then ?_ (State.laneMod_keeps _ _ _) rfl
      exact keeps_s1
    refine Keeps.then ?_ (State.lw_keeps _ _ _ _) (Sub.or rfl rfl)
    refine Keeps.then ?_ (State.setRx_keeps _ _ _) rfl
    exact keeps_s2
  · refine Keeps.then ?_ (State.train_keeps _ _) rfl
    exact Keeps.refl _ _

theorem State.rxRest_keeps (s : State) (l : Nat) (v : Nat) : Keeps 0x812000000100000100608 s (State.rxRest s l v) := by
  unfold State.rxRest
  extract_lets +onlyGivenNames -merge -useContext st
  extract_lets +onlyGivenNames -merge -useContext ask
  extract_lets +onlyGivenNames -merge -useContext s1
  have keeps_s1 : Keeps 0x812000000100000100608 s s1 := by
    unfold s1
    refine Keeps.ite ?_ ?_
    · refine Keeps.then ?_ (State.linkWord_keeps _ _ _ _) rfl
      exact Keeps.refl _ _
    · exact Keeps.refl _ _
  extract_lets +onlyGivenNames -merge -useContext s2
  have keeps_s2 : Keeps 0x812000000100000100608 s s2 := by
    unfold s2
    refine Keeps.then ?_ (State.laneMod_keeps _ _ _) rfl
    exact keeps_s1
  refine Keeps.then ?_ (State.lw_keeps _ _ _ _) (Sub.or rfl rfl)
  refine Keeps.then ?_ (State.lw_keeps _ _ _ _) (Sub.or rfl rfl)
  refine Keeps.then ?_ (State.setRx_keeps _ _ _) rfl
  exact keeps_s2

theorem State.pllShow_keeps (s : State) (l : Nat) : Keeps 0x800000000000000000008 s (State.pllShow s l) := by
  unfold State.pllShow
  refine Keeps.ite ?_ ?_
  · refine Keeps.then ?_ (State.lw_keeps _ _ _ _) (Sub.or rfl rfl)
    exact Keeps.refl _ _
  · exact Keeps.refl _ _

theorem State.txForget_keeps (s : State) (l : Nat) : Keeps 0x300000000000 s (State.txForget s l) := by
  unfold State.txForget
  extract_lets +onlyGivenNames -merge -useContext s1
  have keeps_s1 : Keeps 0x300000000000 s s1 := by
    unfold s1
    refine Keeps.then ?_ (State.laneMod_keeps _ _ _) rfl
    exact Keeps.refl _ _
  refine Keeps.ite ?_ ?_
  · refine Keeps.then ?_ (State.discover_keeps _ _) rfl
    refine Keeps.then ?_ (State.connMod_keeps _ _ _) rfl
    exact keeps_s1
  · exact keeps_s1

theorem State.txGo_keeps (s : State) (l : Nat) (rx : Nat) (tx : Nat) : Keeps 0x812000000300000100608 s (State.txGo s l rx tx) := by
  unfold State.txGo
  extract_lets +onlyGivenNames -merge -useContext was
  refine Keeps.ite ?_ ?_
  · refine Keeps.then ?_ (State.setTx_keeps _ _ _) rfl
    exact Keeps.refl _ _
  · refine Keeps.ite ?_ ?_
    · exact Keeps.refl _ _
    · extract_lets +onlyGivenNames -merge -useContext s0
      have keeps_s0 : Keeps 0x812000000300000100608 s s0 := by
        unfold s0
        refine Keeps.ite ?_ ?_
        · refine Keeps.then ?_ (State.txForget_keeps _ _) rfl
          exact Keeps.refl _ _
        · exact Keeps.refl _ _
      extract_lets +onlyGivenNames -merge -useContext t
      have keeps_t : Keeps 0x812000000300000100608 s t := by
        unfold t
        refine Keeps.then ?_ (State.setTx_keeps _ _ _) rfl
        exact keeps_s0
      refine Keeps.ite ?_ ?_
      · refine Keeps.then ?_ (State.lw_keeps _ _ _ _) rfl
        exact keeps_t
      · exact keeps_t

theorem State.rxGo_keeps (s : State) (l : Nat) (rx : Nat) : Keeps 0x81200000030000010060A s (State.rxGo s l rx) := by
  unfold State.rxGo
  extract_lets +onlyGivenNames -merge -useContext st
  refine Keeps.ite ?_ ?_
  · refine Keeps.ite ?_ ?_
    · exact Keeps.refl _ _
    · refine Keeps.then ?_ (State.setRx_keeps _ _ _) rfl
      refine Keeps.then ?_ (State.laneMod_keeps _ _ _) rfl
      exact Keeps.refl _ _
  · refine Keeps.ite ?_ ?_
    · refine Keeps.ite ?_ ?_
      · exact Keeps.refl _ _
      · refine Keeps.ite ?_ ?_
        · refine Keeps.then ?_ (State.train_keeps _ _) rfl
          refine Keeps.then ?_ (State.setRx_keeps _ _ _) rfl
          exact Keeps.refl _ _
        · refine Keeps.then ?_ (State.rxWake_keeps _ _) rfl
          exact Keeps.refl _ _
    · refine Keeps.ite ?_ ?_
      · exact Keeps.refl _ _
      · refine Keeps.then ?_ (State.rxRest_keeps _ _ _) rfl
        exact Keeps.refl _ _

theorem State.laneMove_keeps (s : State) (l : Nat) (rx : Nat) (tx : Nat) : Keeps 0x81200000030000010060A s (State.laneMove s l rx tx) := by
  unfold State.laneMove
  refine Keeps.then ?_ (State.pllShow_keeps _ _) rfl
  refine Keeps.ite ?_ ?_
  · refine Keeps.then ?_ (State.rxGo_keeps _ _ _) rfl
    refine Keeps.then ?_ (State.txGo_keeps _ _ _ _) rfl
    exact Keeps.refl _ _
  · refine Keeps.then ?_ (State.txGo_keeps _ _ _ _) rfl
    refine Keeps.then ?_ (State.rxGo_keeps _ _ _) rfl
    exact Keeps.refl _ _

theorem State.laneFollow_keeps (s : State) (l : Nat) : Keeps 0x81200000030000010060A s (State.laneFollow s l) := by
  unfold State.laneFollow
  refine Keeps.then ?_ (State.laneMove_keeps _ _ _ _) rfl
  exact Keeps.refl _ _

theorem execLanePowerRequest_keeps (m : Nat) (w : Word) (lane : Nat) (s : State) :
    KeepsO 0x8120D000030000014163A s (execLanePowerRequest m w lane s) := by
  unfold execLanePowerRequest
  refine KeepsO.next ?_
  refine Keeps.then ?_ (State.regSet_keeps (msk := 0x8120D000030000014163A) _ _ _ _ _ _ (by exact Sub.or rfl rfl) (fun z1 => ?_)) (Sub.refl _)
  · exact Keeps.refl _ _
  · refine Keeps.ite ?_ ?_
    · refine Keeps.then ?_ (State.laneFollow_keeps _ _) rfl
      exact Keeps.refl _ _
    · exact Keeps.refl _ _

theorem execLaneWakeOnSignal_keeps (lane : Nat) (s : State) : KeepsO 0x81200000030000010060A s (execLaneWakeOnSignal lane s) := by
  unfold execLaneWakeOnSignal
  refine KeepsO.next ?_
  extract_lets +onlyGivenNames -merge -useContext st
  refine Keeps.ite ?_ ?_
  · refine Keeps.then ?_ (State.rxWake_keeps _ _) rfl
    refine Keeps.then ?_ (State.lw_keeps _ _ _ _) (Sub.or rfl rfl)
    exact Keeps.refl _ _
  · exact Keeps.refl _ _

theorem State.laneRest_keeps (s : State) (l : Nat) : Keeps 0x81200000030000010060A s (State.laneRest s l) := by
  unfold State.laneRest
  extract_lets +onlyGivenNames -merge -useContext rx
  extract_lets +onlyGivenNames -merge -useContext tx
  extract_lets +onlyGivenNames -merge -useContext keep
  refine Keeps.ite ?_ ?_
  · exact Keeps.refl _ _
  · refine Keeps.then ?_ (State.laneMove_keeps _ _ _ _) rfl
    exact Keeps.refl _ _

theorem State.lanesSleep_keeps (s : State) : Keeps 0x81200000030000010060A s (State.lanesSleep s) := by
  unfold State.lanesSleep
  refine Keeps.fold ?_ (fun t1 y2 => ?_)
  · exact Keeps.refl _ _
  · refine Keeps.then ?_ (State.laneRest_keeps _ _) rfl
    exact Keeps.refl _ _

theorem State.packetEnds_keeps (s : State) (l : Nat) : Keeps 0x81200000030000010060A s (State.packetEnds s l) := by
  unfold State.packetEnds
  refine Keeps.ite ?_ ?_
  · refine Keeps.then ?_ (State.laneRest_keeps _ _) rfl
    exact Keeps.refl _ _
  · refine Keeps.ite ?_ ?_
    · exact Keeps.refl _ _
    · refine Keeps.then ?_ (State.laneFollow_keeps _ _) rfl
      exact Keeps.refl _ _

theorem State.lanesWake_keeps (s : State) : Keeps 0x81200000030000010060A s (State.lanesWake s) := by
  unfold State.lanesWake
  refine Keeps.fold ?_ (fun t1 y2 => ?_)
  · exact Keeps.refl _ _
  · refine Keeps.then ?_ (State.laneFollow_keeps _ _) rfl
    exact Keeps.refl _ _

theorem State.laneOff_keeps (s : State) (l : Nat) : Keeps 0x800000000300000000008 s (State.laneOff s l) := by
  unfold State.laneOff
  extract_lets +onlyGivenNames -merge -useContext __src
  have keeps___src : Keeps 0x800000000300000000008 s __src := by
    unfold __src
    refine Keeps.then ?_ (State.setWord_keeps _ _ _ _ _) (Sub.or rfl rfl)
    exact Keeps.refl _ _
  refine Keeps.set_lanes_conns ?_ rfl
  exact keeps___src

theorem State.laneStart_keeps (s : State) (l : Nat) : Keeps 0x81200000030000010060A s (State.laneStart s l) := by
  unfold State.laneStart
  extract_lets +onlyGivenNames -merge -useContext s1
  have keeps_s1 : Keeps 0x81200000030000010060A s s1 := by
    unfold s1
    refine Keeps.then ?_ (State.laneOff_keeps _ _) rfl
    exact Keeps.refl _ _
  refine Keeps.ite ?_ ?_
  · refine Keeps.then ?_ (State.setTx_keeps _ _ _) rfl
    refine Keeps.then ?_ (State.setRx_keeps _ _ _) rfl
    exact keeps_s1
  · extract_lets +onlyGivenNames -merge -useContext s2
    have keeps_s2 : Keeps 0x81200000030000010060A s s2 := by
      unfold s2
      refine Keeps.ite ?_ ?_
      · exact keeps_s1
      · refine Keeps.then ?_ (State.setRx_keeps _ _ _) rfl
        exact keeps_s1
    refine Keeps.ite ?_ ?_
    · refine Keeps.then ?_ (State.trainFrom_keeps _ _ _) rfl
      exact keeps_s2
    · refine Keeps.then ?_ (State.txMove_keeps _ _) rfl
      exact keeps_s2

theorem State.lanesTrainAll_keeps (s : State) : Keeps 0x81200000030000010060A s (State.lanesTrainAll s) := by
  unfold State.lanesTrainAll
  refine Keeps.fold ?_ (fun t1 y2 => ?_)
  · exact Keeps.refl _ _
  · refine Keeps.then ?_ (State.laneStart_keeps _ _) rfl
    exact Keeps.refl _ _

theorem State.lanesDownAll_keeps (s : State) : Keeps 0x81200000030000014060A s (State.lanesDownAll s) := by
  unfold State.lanesDownAll
  refine Keeps.fold ?_ (fun t1 y2 => ?_)
  · exact Keeps.refl _ _
  · refine Keeps.ite ?_ ?_
    · refine Keeps.then ?_ (State.lw_keeps _ _ _ _) rfl
      exact Keeps.refl _ _
    · refine Keeps.then ?_ (State.trainFrom_keeps _ _ _) rfl
      refine Keeps.then ?_ (State.eqTake_keeps _ _) rfl
      refine Keeps.then ?_ (State.laneErr_keeps _ _ _) rfl
      refine Keeps.then ?_ (State.laneDrops_keeps _ _) rfl
      exact Keeps.refl _ _

theorem State.lanesBaseline_keeps (s : State) : Keeps 0x80000 s (State.lanesBaseline s) := by
  unfold State.lanesBaseline
  refine Keeps.fold ?_ (fun t1 y2 => ?_)
  · exact Keeps.refl _ _
  · refine Keeps.then ?_ (State.wwtMod_keeps _ _ _ _ _) rfl
    exact Keeps.refl _ _

theorem State.prbsTake_keeps (s : State) (l : Nat) (pattern : Nat) (bits : List Bool) :
    Keeps 0x800000000100000000008 s (State.prbsTake s l pattern bits) := by
  unfold State.prbsTake
  extract_lets +onlyGivenNames -merge -useContext xp
  refine Keeps.then ?_ (State.lw_keeps _ _ _ _) rfl
  refine Keeps.then ?_ (State.lw_keeps _ _ _ _) rfl
  refine Keeps.then ?_ (State.lw_keeps _ _ _ _) rfl
  refine Keeps.then ?_ (State.laneMod_keeps _ _ _) rfl
  exact Keeps.refl _ _

theorem State.actPrbs_keeps (s : State) (l : Nat) (pattern : Nat) : Keeps 0x81200000030000010060A s (State.actPrbs s l pattern) := by
  unfold State.actPrbs
  extract_lets +onlyGivenNames -merge -useContext on
  extract_lets +onlyGivenNames -merge -useContext s1
  have keeps_s1 : Keeps 0x81200000030000010060A s s1 := by
    unfold s1
    refine Keeps.ite ?_ ?_
    · exact Keeps.refl _ _
    · refine Keeps.then ?_ (State.lw_keeps _ _ _ _) rfl
      refine Keeps.then ?_ (State.laneMod_keeps _ _ _) rfl
      exact Keeps.refl _ _
  refine Keeps.ite ?_ ?_
  · refine Keeps.then ?_ (State.laneFollow_keeps _ _) rfl
    exact keeps_s1
  · exact keeps_s1

theorem execLanePrbsControl_keeps (m : Nat) (w : Word) (lane : Nat) (bits : List Bool) (s : State) :
    KeepsO 0x8120D000030000014163A s (execLanePrbsControl m w lane bits s) := by
  unfold execLanePrbsControl
  extract_lets +onlyGivenNames -merge -useContext pattern
  extract_lets +onlyGivenNames -merge -useContext s1
  have keeps_s1 : Keeps 0x8120D000030000014163A s s1 := by
    unfold s1
    refine Keeps.ite ?_ ?_
    · refine Keeps.then ?_ (State.prbsTake_keeps _ _ _ _) rfl
      exact Keeps.refl _ _
    · exact Keeps.refl _ _
  refine KeepsO.next ?_
  refine Keeps.then ?_ (State.regSet_keeps (msk := 0x8120D000030000014163A) _ _ _ _ _ _ (by exact rfl) (fun z11 => ?_)) (Sub.refl _)
  · exact keeps_s1
  · refine Keeps.then ?_ (State.actPrbs_keeps _ _ _) rfl
    exact Keeps.refl _ _

end Sys2Proof.Machine
end

