-- ==== Sys2Proof/Laws/KeepsPmt.lean ====
section
/-! SUPPORT. Frames of the operations of Machine/Pmt.lean: what each may change, one lemma each. -/

namespace Sys2Proof.Machine

theorem State.arcMod_keeps (s : State) (g : Nat) (f : ArcStream → ArcStream) : Keeps 0x400000000000 s (State.arcMod s g f) := by
  unfold State.arcMod
  refine Keeps.set_arc ?_ rfl
  exact Keeps.refl _ _

theorem State.pmtCount_keeps (s : State) (i : Nat) (k : Nat) (n : Nat) : Keeps 0x400000000000000000000008 s (State.pmtCount s i k n) := by
  unfold State.pmtCount
  refine Keeps.then ?_ (State.add_keeps _ _ _ _) (Sub.or rfl (Sub.blk .PMT (by first | rfl | exact blk_ite rfl rfl) rfl))
  exact Keeps.refl _ _

theorem State.arcSkip_keeps (s : State) (g : Nat) (i : Nat) (n : Nat) : Keeps 0x400010000000400000100608 s (State.arcSkip s g i n) := by
  unfold State.arcSkip
  refine Keeps.ite ?_ ?_
  · exact Keeps.refl _ _
  · refine Keeps.then ?_ (State.arcMod_keeps _ _ _) rfl
    refine Keeps.then ?_ (State.ev_keeps _ _ _) (Sub.or rfl rfl)
    refine Keeps.then ?_ (State.pmtCount_keeps _ _ _ _) rfl
    exact Keeps.refl _ _

theorem State.groupRaw_keeps (s : State) (i : Nat) (o : Nat) (w : Nat) (budget : Nat) (rows : List (List Nat)) (poison : List Nat) :
    Keeps 0x400210000008000003100608 s (State.groupRaw s i o w budget rows poison).1 := by
  unfold State.groupRaw
  extract_lets +onlyGivenNames -merge -useContext n
  extract_lets +onlyGivenNames -merge -useContext xh
  extract_lets +onlyGivenNames -merge -useContext crc
  extract_lets +onlyGivenNames -merge -useContext pf
  extract_lets +onlyGivenNames -merge -useContext fill
  extract_lets +onlyGivenNames -merge -useContext size
  refine Keeps.ite_fst ?_ ?_
  · dsimp only
    refine Keeps.then ?_ (State.ev_keeps _ _ _) rfl
    refine Keeps.then ?_ (State.pmtCount_keeps _ _ _ _) rfl
    exact Keeps.refl _ _
  · extract_lets +onlyGivenNames -merge -useContext q
    extract_lets +onlyGivenNames -merge -useContext a
    extract_lets +onlyGivenNames -merge -useContext raw
    extract_lets +onlyGivenNames -merge -useContext s1
    have keeps_s1 : Keeps 0x400210000008000003100608 s s1 := by
      unfold s1
      refine Keeps.then ?_ (State.dramPut_keeps _ _ _ _) rfl
      exact Keeps.refl _ _
    extract_lets +onlyGivenNames -merge -useContext s2
    have keeps_s2 : Keeps 0x400210000008000003100608 s s2 := by
      unfold s2
      refine Keeps.fold ?_ (fun t1 y2 => ?_)
      · exact keeps_s1
      · refine Keeps.then ?_ (State.setPoison_keeps _ _ _) rfl
        exact Keeps.refl _ _
    extract_lets +onlyGivenNames -merge -useContext s3
    have keeps_s3 : Keeps 0x400210000008000003100608 s s3 := by
      unfold s3
      refine Keeps.then ?_ (State.wf_keeps _ _ _ _) (Sub.or rfl (Sub.blk .PMT (by first | rfl | exact blk_ite rfl rfl) rfl))
      exact keeps_s2
    dsimp only
    refine Keeps.then ?_ (State.ev_keeps _ _ _) rfl
    refine Keeps.then ?_ (State.pmtCount_keeps _ _ _ _) rfl
    exact keeps_s3

theorem State.groupCode_keeps (s : State) (i : Nat) (o : Nat) (w : Nat) (budget : Nat) (rows : List (List Nat)) (poison : List Nat) :
    Keeps 0x400210000008000003100608 s (State.groupCode s i o w budget rows poison).1 := by
  unfold State.groupCode
  extract_lets +onlyGivenNames -merge -useContext n
  extract_lets +onlyGivenNames -merge -useContext xh
  extract_lets +onlyGivenNames -merge -useContext xp
  refine Keeps.ite_fst ?_ ?_
  · dsimp only
    refine Keeps.then ?_ (State.pmtCount_keeps _ _ _ _) rfl
    exact Keeps.refl _ _
  · refine Keeps.then ?_ (State.groupRaw_keeps _ _ _ _ _ _ _) rfl
    exact Keeps.refl _ _

theorem State.groupsGo_keeps (s : State) (i : Nat) (o : Nat) (w : Nat) (budget : Nat) (rows : List (List Nat × List Nat)) (p6 : List Nat) (p7 : Nat) :
    Keeps 0x400210000008000003100608 s (State.groupsGo s i o w budget rows p6 p7).1 := by
  induction p6 generalizing s i o w budget rows p7 with
  | nil =>
    rw [State.groupsGo]
    dsimp only
    exact Keeps.refl _ _
  | cons x xs ih =>
    rw [State.groupsGo]
    dsimp only
    refine Keeps.then ?_ (ih _ _ _ _ _ _ _) (Sub.refl _)
    refine Keeps.then ?_ (State.groupCode_keeps _ _ _ _ _ _ _) rfl
    exact Keeps.refl _ _

theorem State.rowWrite_keeps (s : State) (g : Nat) (i : Nat) (o : Nat) (lines : List Line) (skip : Bool) (gap : Bool) :
    Keeps 0x400210000008400003100608 s (State.rowWrite s g i o lines skip gap) := by
  unfold State.rowWrite
  extract_lets +onlyGivenNames -merge -useContext w
  extract_lets +onlyGivenNames -merge -useContext budget
  extract_lets +onlyGivenNames -merge -useContext xh
  extract_lets +onlyGivenNames -merge -useContext units
  extract_lets +onlyGivenNames -merge -useContext wr
  extract_lets +onlyGivenNames -merge -useContext place
  extract_lets +onlyGivenNames -merge -useContext new
  refine Keeps.ite ?_ ?_
  · refine Keeps.then ?_ (State.ev_keeps _ _ _) rfl
    refine Keeps.then ?_ (State.arcSkip_keeps _ _ _ _) rfl
    exact Keeps.refl _ _
  · extract_lets +onlyGivenNames -merge -useContext next
    extract_lets +onlyGivenNames -merge -useContext s1
    have keeps_s1 : Keeps 0x400210000008400003100608 s s1 := by
      unfold s1
      refine Keeps.then ?_ (State.wf_keeps _ _ _ _) (Sub.or rfl (Sub.blk .PMT (by first | rfl | exact blk_ite rfl rfl) rfl))
      exact Keeps.refl _ _
    extract_lets +onlyGivenNames -merge -useContext tags
    extract_lets +onlyGivenNames -merge -useContext x
    have keeps_x : Keeps 0x400210000008400003100608 s x.1 := by
      unfold x
      refine Keeps.then ?_ (State.groupsGo_keeps _ _ _ _ _ _ _ _) rfl
      exact keeps_s1
    extract_lets +onlyGivenNames -merge -useContext s2
    have keeps_s2 : Keeps 0x400210000008400003100608 s s2 := by
      unfold s2
      refine Keeps.then ?_ (State.dramPut_keeps _ _ _ _) rfl
      exact keeps_x
    extract_lets +onlyGivenNames -merge -useContext a
    extract_lets +onlyGivenNames -merge -useContext b
    extract_lets +onlyGivenNames -merge -useContext flags
    extract_lets +onlyGivenNames -merge -useContext e
    refine Keeps.then ?_ (State.wf_keeps _ _ _ _) (Sub.or rfl (Sub.blk .PMT (by first | rfl | exact blk_ite rfl rfl) rfl))
    refine Keeps.then ?_ (State.wf_keeps _ _ _ _) (Sub.or rfl (Sub.blk .PMT (by first | rfl | exact blk_ite rfl rfl) rfl))
    refine Keeps.then ?_ (State.dramPut_keeps _ _ _ _) rfl
    exact keeps_s2

theorem State.rowClose_keeps (s : State) (g : Nat) : Keeps 0x400210000008400003100608 s (State.rowClose s g) := by
  unfold State.rowClose
  extract_lets +onlyGivenNames -merge -useContext x
  split
  · exact Keeps.refl _ _
  · refine Keeps.then ?_ (State.arcMod_keeps _ _ _) rfl
    exact Keeps.refl _ _
  · refine Keeps.then ?_ (State.rowWrite_keeps _ _ _ _ _ _ _) rfl
    refine Keeps.then ?_ (State.arcMod_keeps _ _ _) rfl
    exact Keeps.refl _ _

theorem State.arcApply_keeps (s : State) (g : Nat) (i : Nat) (o : Nat) (t : Tag) :
    Keeps 0xFFFFFFFF0008400003300618 s (State.arcApply s g i o t) := by
  unfold State.arcApply
  extract_lets +onlyGivenNames -merge -useContext mine
  extract_lets +onlyGivenNames -merge -useContext due
  extract_lets +onlyGivenNames -merge -useContext u
  have keeps_u : Keeps 0xFFFFFFFF0008400003300618 s u := by
    unfold u
    refine Keeps.then ?_ (State.armedTake_keeps _ _ _ _) rfl
    exact Keeps.refl _ _
  refine Keeps.ite ?_ ?_
  · exact keeps_u
  · refine Keeps.then ?_ (State.armedTake_keeps _ _ _ _) rfl
    refine Keeps.then ?_ (State.rowClose_keeps _ _) rfl
    exact Keeps.refl _ _

theorem State.arcLine_keeps (s : State) (g : Nat) (i : Nat) (o : Nat) (l : Line) :
    Keeps 0xFFFFFFFF0008400003300618 s (State.arcLine s g i o l) := by
  unfold State.arcLine
  extract_lets +onlyGivenNames -merge -useContext s1
  have keeps_s1 : Keeps 0xFFFFFFFF0008400003300618 s s1 := by
    unfold s1
    refine Keeps.then ?_ (State.arcApply_keeps _ _ _ _ _) rfl
    exact Keeps.refl _ _
  refine Keeps.ite ?_ ?_
  · refine Keeps.then ?_ (State.rowClose_keeps _ _) rfl
    exact keeps_s1
  · extract_lets +onlyGivenNames -merge -useContext x
    extract_lets +onlyGivenNames -merge -useContext breaks
    extract_lets +onlyGivenNames -merge -useContext full
    extract_lets +onlyGivenNames -merge -useContext s2
    have keeps_s2 : Keeps 0xFFFFFFFF0008400003300618 s s2 := by
      unfold s2
      refine Keeps.ite ?_ ?_
      · refine Keeps.then ?_ (State.rowClose_keeps _ _) rfl
        exact keeps_s1
      · exact keeps_s1
    refine Keeps.then ?_ (State.arcMod_keeps _ _ _) rfl
    exact keeps_s2

theorem execArchiveLine_keeps (g : Nat) (s : State) : KeepsO 0xFFFFFFFF0008400023300618 s (execArchiveLine g s) := by
  unfold execArchiveLine
  refine KeepsO.next ?_
  split
  · exact Keeps.refl _ _
  · split
    · exact Keeps.refl _ _
    · extract_lets +onlyGivenNames -merge -useContext lost
      extract_lets +onlyGivenNames -merge -useContext s1
      have keeps_s1 : Keeps 0xFFFFFFFF0008400023300618 s s1 := by
        unfold s1
        refine Keeps.ite ?_ ?_
        · exact Keeps.refl _ _
        · refine Keeps.then ?_ (State.arcSkip_keeps _ _ _ _) rfl
          refine Keeps.then ?_ (State.rowClose_keeps _ _) rfl
          refine Keeps.then ?_ (State.tapTake_keeps _ _) rfl
          exact Keeps.refl _ _
      split
      · refine Keeps.then ?_ (State.arcLine_keeps _ _ _ _ _) rfl
        refine Keeps.then ?_ (State.mewPop_keeps _ _) rfl
        exact keeps_s1
      · refine Keeps.then ?_ (State.arcMod_keeps _ _ _) rfl
        refine Keeps.then ?_ (State.rowClose_keeps _ _) rfl
        refine Keeps.then ?_ (State.mewPop_keeps _ _) rfl
        exact keeps_s1
      · refine Keeps.then ?_ (State.mewPop_keeps _ _) rfl
        exact keeps_s1
      · exact keeps_s1

theorem execArchiveRowClose_keeps (g : Nat) (s : State) : KeepsO 0x400210000008400003100608 s (execArchiveRowClose g s) := by
  unfold execArchiveRowClose
  refine KeepsO.next ?_
  refine Keeps.ite ?_ ?_
  · refine Keeps.then ?_ (State.rowClose_keeps _ _) rfl
    exact Keeps.refl _ _
  · exact Keeps.refl _ _

theorem execArchiveRowTimeout_keeps (g : Nat) (s : State) : KeepsO 0x400210000008400003100608 s (execArchiveRowTimeout g s) := by
  unfold execArchiveRowTimeout
  refine KeepsO.next ?_
  refine Keeps.ite ?_ ?_
  · refine Keeps.then ?_ (State.rowClose_keeps _ _) rfl
    exact Keeps.refl _ _
  · exact Keeps.refl _ _

theorem State.arcRestore_keeps (s : State) (g : Nat) (i : Nat) (o : Nat) (next : Nat) (oldest : Nat) (write : Nat) (ovf : Nat) :
    Keeps 0x400000000000400000000008 s (State.arcRestore s g i o next oldest write ovf) := by
  unfold State.arcRestore
  refine Keeps.then ?_ (State.arcMod_keeps _ _ _) rfl
  refine Keeps.then ?_ (State.wf_keeps _ _ _ _) (Sub.or rfl (Sub.blk .PMT (by first | rfl | exact blk_ite rfl rfl) rfl))
  refine Keeps.then ?_ (State.wf_keeps _ _ _ _) (Sub.or rfl (Sub.blk .PMT (by first | rfl | exact blk_ite rfl rfl) rfl))
  refine Keeps.then ?_ (State.wf_keeps _ _ _ _) (Sub.or rfl (Sub.blk .PMT (by first | rfl | exact blk_ite rfl rfl) rfl))
  refine Keeps.then ?_ (State.wf_keeps _ _ _ _) (Sub.or rfl (Sub.blk .PMT (by first | rfl | exact blk_ite rfl rfl) rfl))
  exact Keeps.refl _ _

theorem State.groupRead_keeps (s : State) (io : Nat) (oo : Nat) (job : Nat) (a : Nat) (n : Nat) (h : Nat) (w : Nat) :
    Keeps 0x400010000000000000100608 s (State.groupRead s io oo job a n h w).1 := by
  unfold State.groupRead
  extract_lets hd fl all zero fail s1 q size b v xs bad
  have keeps_fail : ∀ t, Keeps 0x400010000000000000100608 t (fail t).1 := by
    intro t
    unfold fail
    refine Keeps.then ?_ (State.wf_keeps _ _ _ _) (Sub.or rfl rfl)
    refine Keeps.then ?_ (State.ev_keeps _ _ _) (Sub.or rfl rfl)
    refine Keeps.then ?_ (State.pmtCount_keeps _ _ _ _) rfl
    exact Keeps.refl _ _
  have keeps_s1 : Keeps 0x400010000000000000100608 s s1 := (Keeps.refl _ s).then (State.pmtCount_keeps _ _ _ _) rfl
  clear_value bad xs v b size q fail s1 zero all fl hd
  refine Keeps.ite_fst (keeps_s1.then (keeps_fail _) (Sub.refl _)) (Keeps.ite_fst ?_ ?_)
  · exact Keeps.ite_fst ((keeps_s1.then (State.pmtCount_keeps _ _ _ _) rfl).then (keeps_fail _) (Sub.refl _))
      (Keeps.ite_fst keeps_s1 (Keeps.ite_fst keeps_s1 (keeps_s1.then (keeps_fail _) (Sub.refl _))))
  · split
    · exact keeps_s1.then (keeps_fail _) (Sub.refl _)
    · exact Keeps.ite_fst keeps_s1 (keeps_s1.then (keeps_fail _) (Sub.refl _))

theorem State.rowGroups_keeps (s : State) (io : Nat) (oo : Nat) (job : Nat) (h : Nat) (w : Nat) (budget : Nat) (p7 : List Nat) (p8 : Nat) (p9 : Nat) (p10 : List (List Nat × List Nat)) :
    Keeps 0x400010000000000000100608 s (State.rowGroups s io oo job h w budget p7 p8 p9 p10).1 := by
  induction p7 generalizing s io oo job h w budget p8 p9 p10 with
  | nil =>
    rw [State.rowGroups]
    dsimp only
    exact Keeps.refl _ _
  | cons j jt ih =>
    rw [State.rowGroups]
    refine Keeps.then ?_ (ih _ _ _ _ _ _ _ _ _ _) rfl
    refine Keeps.then ?_ (State.groupRead_keeps _ _ _ _ _ _ _ _) rfl
    exact Keeps.refl _ _

theorem State.rowRead_keeps (s : State) (g : Nat) (io : Nat) (oo : Nat) (job : Nat) (r : Nat) :
    Keeps 0x400010000000000000100608 s (State.rowRead s g io oo job r).1 := by
  unfold State.rowRead
  extract_lets +onlyGivenNames -merge -useContext e
  extract_lets +onlyGivenNames -merge -useContext h
  extract_lets +onlyGivenNames -merge -useContext w
  extract_lets +onlyGivenNames -merge -useContext budget
  extract_lets +onlyGivenNames -merge -useContext a
  extract_lets +onlyGivenNames -merge -useContext x
  have keeps_x : Keeps 0x400010000000000000100608 s x.1 := by
    unfold x
    refine Keeps.then ?_ (State.rowGroups_keeps _ _ _ _ _ _ _ _ _ _ _) rfl
    exact Keeps.refl _ _
  dsimp only
  exact keeps_x

theorem State.jobCode_keeps (s : State) (i : Nat) (code : Nat) : Keeps 0x400010000000000000100608 s (State.jobCode s i code) := by
  unfold State.jobCode
  extract_lets +onlyGivenNames -merge -useContext s1
  have keeps_s1 : Keeps 0x400010000000000000100608 s s1 := by
    unfold s1
    refine Keeps.then ?_ (State.wf_keeps _ _ _ _) (Sub.or rfl rfl)
    exact Keeps.refl _ _
  refine Keeps.ite ?_ ?_
  · refine Keeps.then ?_ (State.ev_keeps _ _ _) (Sub.or rfl rfl)
    refine Keeps.then ?_ (State.wf_keeps _ _ _ _) (Sub.or rfl rfl)
    exact keeps_s1
  · refine Keeps.then ?_ (State.ev_keeps _ _ _) (Sub.or rfl rfl)
    refine Keeps.then ?_ (State.wf_keeps _ _ _ _) (Sub.or rfl rfl)
    exact keeps_s1

theorem State.actJobGo_keeps (s : State) (i : Nat) : Keeps 0x400110000000800020100608 s (State.actJobGo s i) := by
  unfold State.actJobGo
  extract_lets +onlyGivenNames -merge -useContext src
  clear_value src
  extract_lets +onlyGivenNames -merge -useContext target
  clear_value target
  extract_lets +onlyGivenNames -merge -useContext dest
  clear_value dest
  refine Keeps.ite ?_ ?_
  · refine Keeps.then ?_ (State.jobCode_keeps _ _ _) rfl
    exact Keeps.refl _ _
  · extract_lets +onlyGivenNames -merge -useContext s0
    have keeps_s0 : Keeps 0x400110000000800020100608 s s0 := by
      unfold s0
      refine Keeps.then ?_ (State.wf_keeps _ _ _ _) rfl
      refine Keeps.then ?_ (State.wf_keeps _ _ _ _) rfl
      refine Keeps.then ?_ (State.wf_keeps _ _ _ _) rfl
      exact Keeps.refl _ _
    split
    · refine Keeps.then ?_ (State.jobCode_keeps _ _ _) rfl
      exact keeps_s0
    · extract_lets +onlyGivenNames -merge -useContext frm
      clear_value frm
      extract_lets +onlyGivenNames -merge -useContext hi
      clear_value hi
      extract_lets +onlyGivenNames -merge -useContext follow
      clear_value follow
      extract_lets +onlyGivenNames -merge -useContext til
      clear_value til
      extract_lets +onlyGivenNames -merge -useContext rows
      clear_value rows
      extract_lets +onlyGivenNames -merge -useContext first
      clear_value first
      refine Keeps.ite ?_ ?_
      · refine Keeps.then ?_ (State.jobCode_keeps _ _ _) rfl
        exact keeps_s0
      · refine Keeps.ite ?_ ?_
        · refine Keeps.then ?_ (State.jobCode_keeps _ _ _) rfl
          exact keeps_s0
        · split
          · refine Keeps.then ?_ (State.jobCode_keeps _ _ _) rfl
            exact keeps_s0
          · extract_lets +onlyGivenNames -merge -useContext dst
            clear_value dst
            extract_lets +onlyGivenNames -merge -useContext room
            clear_value room
            refine Keeps.ite ?_ ?_
            · refine Keeps.then ?_ (State.jobCode_keeps _ _ _) rfl
              exact keeps_s0
            · extract_lets +onlyGivenNames -merge -useContext lost
              clear_value lost
              extract_lets +onlyGivenNames -merge -useContext s1
              have keeps_s1 : Keeps 0x400110000000800020100608 s s1 := by
                unfold s1
                refine Keeps.then ?_ (State.wf_keeps _ _ _ _) rfl
                refine Keeps.then ?_ (State.wf_keeps _ _ _ _) rfl
                refine Keeps.then ?_ (State.wf_keeps _ _ _ _) rfl
                refine Keeps.then ?_ (State.wf_keeps _ _ _ _) rfl
                refine Keeps.then ?_ (State.wf_keeps _ _ _ _) rfl
                exact keeps_s0
              extract_lets +onlyGivenNames -merge -useContext s2
              have keeps_s2 : Keeps 0x400110000000800020100608 s s2 := by
                unfold s2
                refine Keeps.set_jobs ?_ rfl
                exact keeps_s1
              refine Keeps.ite ?_ ?_
              · refine Keeps.then ?_ (State.pass_keeps _ _ _ _ _) rfl
                exact keeps_s2
              · exact keeps_s2

theorem State.jobEnd_keeps (s : State) (i : Nat) (code : Nat) : Keeps 0x400010000000800000100608 s (State.jobEnd s i code) := by
  unfold State.jobEnd
  split
  · exact Keeps.refl _ _
  · refine Keeps.then ?_ (State.jobCode_keeps _ _ _) rfl
    refine Keeps.then ?_ (State.wf_keeps _ _ _ _) (Sub.or rfl rfl)
    refine Keeps.then ?_ (State.wf_keeps _ _ _ _) (Sub.or rfl rfl)
    refine Keeps.set_jobs ?_ rfl
    exact Keeps.refl _ _

theorem State.jobStop_keeps (s : State) (i : Nat) (code : Nat) : Keeps 0x800000000000 s (State.jobStop s i code) := by
  unfold State.jobStop
  split
  · exact Keeps.refl _ _
  · refine Keeps.ite ?_ ?_
    · exact Keeps.refl _ _
    · refine Keeps.set_jobs ?_ rfl
      exact Keeps.refl _ _

theorem State.actJobCtl_keeps (s : State) (i : Nat) (w : Word) : Keeps 0x400110000000800020100608 s (State.actJobCtl s i w) := by
  unfold State.actJobCtl
  extract_lets +onlyGivenNames -merge -useContext s1
  have keeps_s1 : Keeps 0x400110000000800020100608 s s1 := by
    unfold s1
    refine Keeps.ite ?_ ?_
    · refine Keeps.then ?_ (State.jobStop_keeps _ _ _) rfl
      exact Keeps.refl _ _
    · exact Keeps.refl _ _
  refine Keeps.ite ?_ ?_
  · refine Keeps.then ?_ (State.actJobGo_keeps _ _) rfl
    exact keeps_s1
  · exact keeps_s1

theorem execDecodeJobGo_keeps (m : Nat) (w : Word) (i : Nat) (s : State) :
    KeepsO 0x4001100D0000800020141638 s (execDecodeJobGo m w i s) := by
  unfold execDecodeJobGo
  refine KeepsO.next ?_
  refine Keeps.then ?_ (State.regAct_keeps (msk := 0x4001100D0000800020141638) _ _ _ _ _ _ (by exact Sub.or rfl rfl) (fun z1 => ?_)) (Sub.refl _)
  · exact Keeps.refl _ _
  · refine Keeps.then ?_ (State.actJobCtl_keeps _ _ _) rfl
    exact Keeps.refl _ _

theorem execDecodeJobAbort_keeps (m : Nat) (w : Word) (i : Nat) (s : State) :
    KeepsO 0x4001100D0000800020141638 s (execDecodeJobAbort m w i s) := by
  unfold execDecodeJobAbort
  refine KeepsO.next ?_
  refine Keeps.then ?_ (State.regAct_keeps (msk := 0x4001100D0000800020141638) _ _ _ _ _ _ (by exact Sub.or rfl rfl) (fun z1 => ?_)) (Sub.refl _)
  · exact Keeps.refl _ _
  · refine Keeps.then ?_ (State.actJobCtl_keeps _ _ _) rfl
    exact Keeps.refl _ _

theorem State.jobRow_keeps (s : State) (i : Nat) (j : PmtJob) : Keeps 0x400010000000800000100608 s (State.jobRow s i j) := by
  unfold State.jobRow
  split
  · refine Keeps.then ?_ (State.jobStop_keeps _ _ _) rfl
    exact Keeps.refl _ _
  · extract_lets +onlyGivenNames -merge -useContext next
    refine Keeps.ite ?_ ?_
    · refine Keeps.ite ?_ ?_
      · exact Keeps.refl _ _
      · refine Keeps.then ?_ (State.jobStop_keeps _ _ _) rfl
        exact Keeps.refl _ _
    · refine Keeps.ite ?_ ?_
      · refine Keeps.then ?_ (State.ev_keeps _ _ _) (Sub.or rfl rfl)
        refine Keeps.then ?_ (State.wf_keeps _ _ _ _) (Sub.or rfl rfl)
        refine Keeps.set_jobs ?_ rfl
        exact Keeps.refl _ _
      · refine Keeps.ite ?_ ?_
        · refine Keeps.then ?_ (State.jobStop_keeps _ _ _) rfl
          exact Keeps.refl _ _
        · extract_lets +onlyGivenNames -merge -useContext x
          have keeps_x : Keeps 0x400010000000800000100608 s x.1 := by
            unfold x
            refine Keeps.then ?_ (State.rowRead_keeps _ _ _ _ _ _) rfl
            exact Keeps.refl _ _
          extract_lets +onlyGivenNames -merge -useContext __src
          have keeps___src : Keeps 0x400010000000800000100608 s __src := by
            unfold __src
            exact keeps_x
          refine Keeps.set_jobs ?_ rfl
          exact keeps___src

theorem State.jobToHost_keeps (s : State) (i : Nat) (j : PmtJob) (l : ArcLine) (rest : List ArcLine) :
    Keeps 0x400200010008800003040608 s (State.jobToHost s i j l rest) := by
  unfold State.jobToHost
  extract_lets +onlyGivenNames -merge -useContext body
  extract_lets +onlyGivenNames -merge -useContext size
  refine Keeps.ite ?_ ?_
  · refine Keeps.then ?_ (State.jobStop_keeps _ _ _) rfl
    exact Keeps.refl _ _
  · extract_lets +onlyGivenNames -merge -useContext a
    extract_lets +onlyGivenNames -merge -useContext s1
    have keeps_s1 : Keeps 0x400200010008800003040608 s s1 := by
      unfold s1
      refine Keeps.then ?_ (State.dramWrite_keeps _ _ _ _ _) rfl
      exact Keeps.refl _ _
    extract_lets +onlyGivenNames -merge -useContext s2
    have keeps_s2 : Keeps 0x400200010008800003040608 s s2 := by
      unfold s2
      refine Keeps.fold ?_ (fun t1 y2 => ?_)
      · exact keeps_s1
      · refine Keeps.then ?_ (State.setPoison_keeps _ _ _) rfl
        exact Keeps.refl _ _
    refine Keeps.then ?_ (State.inc_keeps _ _ _) rfl
    refine Keeps.set_jobs ?_ rfl
    exact keeps_s2

theorem State.jobToCarriage_keeps (s : State) (i : Nat) (j : PmtJob) (l : ArcLine) (rest : List ArcLine) :
    Keeps 0xFFFFFFFF0000821D70BC0638 s (State.jobToCarriage s i j l rest) := by
  unfold State.jobToCarriage
  extract_lets +onlyGivenNames -merge -useContext g
  extract_lets +onlyGivenNames -merge -useContext xh
  refine Keeps.ite ?_ ?_
  · exact Keeps.refl _ _
  · extract_lets +onlyGivenNames -merge -useContext t
    extract_lets +onlyGivenNames -merge -useContext s1
    have keeps_s1 : Keeps 0xFFFFFFFF0000821D70BC0638 s s1 := by
      unfold s1
      split
      · exact Keeps.refl _ _
      · extract_lets +onlyGivenNames -merge -useContext q
        refine Keeps.ite ?_ ?_
        · exact Keeps.refl _ _
        · refine Keeps.then ?_ (State.pass_keeps _ _ _ _ _) rfl
          exact Keeps.refl _ _
    extract_lets +onlyGivenNames -merge -useContext np
    extract_lets +onlyGivenNames -merge -useContext x
    extract_lets +onlyGivenNames -merge -useContext line
    extract_lets +onlyGivenNames -merge -useContext s2
    have keeps_s2 : Keeps 0xFFFFFFFF0000821D70BC0638 s s2 := by
      unfold s2
      refine Keeps.then ?_ (State.ingMod_keeps _ _ _) rfl
      refine Keeps.then ?_ (State.replayApply_keeps _ _ _ _) rfl
      exact keeps_s1
    refine Keeps.then ?_ (State.inc_keeps _ _ _) rfl
    extract_lets +onlyGivenNames -merge -useContext x__src
    have keeps_x__src : Keeps 0xFFFFFFFF0000821D70BC0638 s x__src := by
      unfold x__src
      refine Keeps.then ?_ (State.pass_keeps _ _ _ _ _) rfl
      exact keeps_s2
    refine Keeps.set_jobs ?_ rfl
    exact keeps_x__src

theorem execDecodeLine_keeps (i : Nat) (s : State) : KeepsO 0xFFFFFFFF0008821D73BC0638 s (execDecodeLine i s) := by
  unfold execDecodeLine
  refine KeepsO.next ?_
  split
  · exact Keeps.refl _ _
  · refine Keeps.ite ?_ ?_
    · exact Keeps.refl _ _
    · split
      · refine Keeps.then ?_ (State.jobRow_keeps _ _ _) rfl
        exact Keeps.refl _ _
      · refine Keeps.ite ?_ ?_
        · refine Keeps.then ?_ (State.jobToHost_keeps _ _ _ _ _) rfl
          exact Keeps.refl _ _
        · refine Keeps.then ?_ (State.jobToCarriage_keeps _ _ _ _ _) rfl
          exact Keeps.refl _ _

theorem execDecodeJobEnd_keeps (i : Nat) (s : State) : KeepsO 0x400010000000800000100608 s (execDecodeJobEnd i s) := by
  unfold execDecodeJobEnd
  refine KeepsO.next ?_
  split
  · split
    · refine Keeps.then ?_ (State.jobEnd_keeps _ _ _) rfl
      exact Keeps.refl _ _
    · exact Keeps.refl _ _
  · exact Keeps.refl _ _

end Sys2Proof.Machine
end

