-- ==== Sys2Proof/Laws/KeepsSeg.lean ====
section
/-! SUPPORT. Frames of the operations of Machine/Seg.lean: what each may change, one lemma each. -/

namespace Sys2Proof.Machine

theorem State.segMod_keeps (s : State) (g : Nat) (f : Seg → Seg) : Keeps 0x4000000000 s (State.segMod s g f) := by
  unfold State.segMod
  refine Keeps.set_seg ?_ rfl
  exact Keeps.refl _ _

theorem State.segForm_keeps (s : State) (g : Nat) (i : Nat) (final : Bool) (l : SegLine) :
    Keeps 0x20110000002006020100608 s (State.segForm s g i final l) := by
  unfold State.segForm
  extract_lets +onlyGivenNames -merge -useContext w
  extract_lets +onlyGivenNames -merge -useContext x
  extract_lets +onlyGivenNames -merge -useContext e
  extract_lets +onlyGivenNames -merge -useContext raw
  extract_lets +onlyGivenNames -merge -useContext sat
  extract_lets +onlyGivenNames -merge -useContext s1
  have keeps_s1 : Keeps 0x20110000002006020100608 s s1 := by
    unfold s1
    refine Keeps.then ?_ (State.evIf_keeps _ _ _ _) (Sub.or rfl rfl)
    refine Keeps.then ?_ (State.add_keeps _ _ _ _) (Sub.or rfl rfl)
    exact Keeps.refl _ _
  extract_lets +onlyGivenNames -merge -useContext before
  extract_lets +onlyGivenNames -merge -useContext fg
  extract_lets +onlyGivenNames -merge -useContext first
  extract_lets +onlyGivenNames -merge -useContext full
  extract_lets +onlyGivenNames -merge -useContext owned
  extract_lets +onlyGivenNames -merge -useContext n
  extract_lets +onlyGivenNames -merge -useContext s2
  have keeps_s2 : Keeps 0x20110000002006020100608 s s2 := by
    unfold s2
    refine Keeps.then ?_ (State.wf_keeps _ _ _ _) (Sub.or rfl rfl)
    exact keeps_s1
  extract_lets +onlyGivenNames -merge -useContext s3
  have keeps_s3 : Keeps 0x20110000002006020100608 s s3 := by
    unfold s3
    refine Keeps.ite ?_ ?_
    · exact keeps_s2
    · refine Keeps.then ?_ (State.ev_keeps _ _ _) (Sub.or rfl rfl)
      refine Keeps.then ?_ (State.add_keeps _ _ _ _) (Sub.or rfl rfl)
      refine Keeps.then ?_ (State.inc_keeps _ _ _) (Sub.or rfl rfl)
      exact keeps_s2
  extract_lets +onlyGivenNames -merge -useContext s4
  have keeps_s4 : Keeps 0x20110000002006020100608 s s4 := by
    unfold s4
    refine Keeps.then ?_ (State.sprMod_keeps _ _ _) rfl
    exact keeps_s3
  extract_lets +onlyGivenNames -merge -useContext s5
  extract_lets +onlyGivenNames -merge -useContext x1
  have keeps_x1 : Keeps 0x20110000002006020100608 s x1 := by
    unfold x1
    refine Keeps.then ?_ (State.pass_keeps _ _ _ _ _) rfl
    exact keeps_s4
  extract_lets +onlyGivenNames -merge -useContext s6
  have keeps_s6 : Keeps 0x20110000002006020100608 s s6 := by
    unfold s6
    refine Keeps.fold ?_ (fun t2 y3 => ?_)
    · exact keeps_x1
    · refine Keeps.then ?_ (State.pass_keeps _ _ _ _ _) rfl
      exact Keeps.refl _ _
  extract_lets +onlyGivenNames -merge -useContext s7
  have keeps_s7 : Keeps 0x20110000002006020100608 s s7 := by
    unfold s7
    refine Keeps.then ?_ (State.segMod_keeps _ _ _) rfl
    exact keeps_s6
  refine Keeps.then ?_ (State.digestPart_keeps _ _ _ _ _) rfl
  exact keeps_s7

theorem State.segRun_keeps (p0 : Nat) (p1 : Nat) (p2 : State) : Keeps 0xFFFFFFFF0002006020300618 p2 (State.segRun p0 p1 p2) := by
  induction p0 generalizing p1 p2 with
  | zero =>
    rw [State.segRun]
    exact Keeps.refl _ _
  | succ j ih =>
    rw [State.segRun]
    split
    · extract_lets +onlyGivenNames -merge -useContext s1
      have keeps_s1 : Keeps 0xFFFFFFFF0002006020300618 p2 s1 := by
        unfold s1
        refine Keeps.then ?_ (State.armedAt_keeps _ _ _ _) rfl
        exact Keeps.refl _ _
      extract_lets +onlyGivenNames -merge -useContext ahead
      refine Keeps.ite ?_ ?_
      · exact keeps_s1
      · refine Keeps.then ?_ (ih _ _) rfl
        refine Keeps.then ?_ (State.segForm_keeps _ _ _ _ _) rfl
        exact keeps_s1
    · split
      · refine Keeps.then ?_ (State.segMod_keeps _ _ _) rfl
        refine Keeps.then ?_ (State.pass_keeps _ _ _ _ _) rfl
        exact Keeps.refl _ _
      · exact Keeps.refl _ _

theorem State.segBehind_keeps (s : State) (g : Nat) (it : Item) : Keeps 0x110000000004020100608 s (State.segBehind s g it) := by
  unfold State.segBehind
  extract_lets +onlyGivenNames -merge -useContext x
  refine Keeps.ite ?_ ?_
  · refine Keeps.then ?_ (State.pass_keeps _ _ _ _ _) rfl
    exact Keeps.refl _ _
  · refine Keeps.then ?_ (State.segMod_keeps _ _ _) rfl
    exact Keeps.refl _ _

theorem State.segIn_keeps (s : State) (g : Nat) (l : Line) : Keeps 0x4000000000 s (State.segIn s g l) := by
  unfold State.segIn
  refine Keeps.then ?_ (State.segMod_keeps _ _ _) rfl
  exact Keeps.refl _ _

theorem State.segTake_keeps (s : State) (g : Nat) (it : Item) : Keeps 0xFFFFFFFF0002006020300618 s (State.segTake s g it) := by
  unfold State.segTake
  extract_lets +onlyGivenNames -merge -useContext x
  split
  · refine Keeps.ite ?_ ?_
    · extract_lets +onlyGivenNames -merge -useContext m
      extract_lets +onlyGivenNames -merge -useContext k
      refine Keeps.then ?_ (State.segIn_keeps _ _ _) rfl
      refine Keeps.then ?_ (State.segRun_keeps _ _ _) rfl
      refine Keeps.then ?_ (State.segMod_keeps _ _ _) rfl
      exact Keeps.refl _ _
    · refine Keeps.then ?_ (State.segIn_keeps _ _ _) rfl
      exact Keeps.refl _ _
  · refine Keeps.ite ?_ ?_
    · refine Keeps.then ?_ (State.segMod_keeps _ _ _) rfl
      exact Keeps.refl _ _
    · refine Keeps.then ?_ (State.segBehind_keeps _ _ _) rfl
      exact Keeps.refl _ _
  · refine Keeps.then ?_ (State.segMod_keeps _ _ _) rfl
    exact Keeps.refl _ _
  · refine Keeps.then ?_ (State.segMod_keeps _ _ _) rfl
    exact Keeps.refl _ _
  · refine Keeps.then ?_ (State.segBehind_keeps _ _ _) rfl
    exact Keeps.refl _ _

theorem execSegLine_keeps (g : Nat) (s : State) : KeepsO 0xFFFFFFFF0002006020300618 s (execSegLine g s) := by
  unfold execSegLine
  refine KeepsO.next ?_
  extract_lets +onlyGivenNames -merge -useContext s1
  have keeps_s1 : Keeps 0xFFFFFFFF0002006020300618 s s1 := by
    unfold s1
    refine Keeps.then ?_ (State.segRun_keeps _ _ _) rfl
    exact Keeps.refl _ _
  extract_lets +onlyGivenNames -merge -useContext x
  extract_lets +onlyGivenNames -merge -useContext ahead
  refine Keeps.ite ?_ ?_
  · exact keeps_s1
  · split
    · rename_i w2 w3
      exact keeps_s1
    · rename_i w4 w5 w6 w7
      have k1 : Keeps 0xFFFFFFFF0002006020300618 s w6 := by
        refine Keeps.then ?_ (State.takeNext_keeps _ _ _ _ w7) rfl
        exact keeps_s1
      refine Keeps.then ?_ (State.segRun_keeps _ _ _) rfl
      refine Keeps.then ?_ (State.segTake_keeps _ _ _) rfl
      exact k1

end Sys2Proof.Machine
end

