-- ==== Sys2Proof/Laws/KeepsPair.lean ====
section
/-! SUPPORT. Frames of the operations of Machine/Pair.lean: what each may change, one lemma each. -/

namespace Sys2Proof.Machine

theorem State.bypTo_keeps (s : State) (mask : Nat) : Keeps 0x2000000000000000408 s (State.bypTo s mask) := by
  unfold State.bypTo
  extract_lets +onlyGivenNames -merge -useContext x1
  refine Keeps.fold ?_ (fun t2 y3 => ?_)
  · refine Keeps.then ?_ (State.wf_keeps _ _ _ _) (Sub.or rfl rfl)
    exact Keeps.refl _ _
  · refine Keeps.ite ?_ ?_
    · exact Keeps.refl _ _
    · refine Keeps.then ?_ (State.emit_keeps _ _ _ _) rfl
      exact Keeps.refl _ _

theorem State.bypShow_keeps (s : State) : Keeps 0x2000000000000000408 s (State.bypShow s) := by
  unfold State.bypShow
  refine Keeps.then ?_ (State.bypTo_keeps _ _) rfl
  exact Keeps.refl _ _

theorem State.bypAllLow_keeps (s : State) : Keeps 0x2000000000000000408 s (State.bypAllLow s) := by
  unfold State.bypAllLow
  refine Keeps.then ?_ (State.bypTo_keeps _ _) rfl
  exact Keeps.refl _ _

theorem State.helloSend_keeps (s : State) : Keeps 0x400 s (State.helloSend s) := by
  unfold State.helloSend
  split
  · exact Keeps.refl _ _
  · refine Keeps.fold ?_ (fun t1 y2 => ?_)
    · exact Keeps.refl _ _
    · refine Keeps.then ?_ (State.emit_keeps _ _ _ _) rfl
      exact Keeps.refl _ _

theorem State.leaveMirrorTime_keeps (s : State) : Keeps 0x10410000000000540608 s (State.leaveMirrorTime s) := by
  unfold State.leaveMirrorTime
  refine Keeps.ite ?_ ?_
  · refine Keeps.ite ?_ ?_
    · refine Keeps.then ?_ (State.wf_keeps _ _ _ _) (Sub.or rfl rfl)
      exact Keeps.refl _ _
    · refine Keeps.then ?_ (State.holdover_keeps _) rfl
      refine Keeps.then ?_ (State.wf_keeps _ _ _ _) (Sub.or rfl rfl)
      exact Keeps.refl _ _
  · exact Keeps.refl _ _

theorem State.toRole_keeps (s : State) (n : Nat) : Keeps 0x12410000000000540608 s (State.toRole s n) := by
  unfold State.toRole
  extract_lets +onlyGivenNames -merge -useContext x1
  extract_lets +onlyGivenNames -merge -useContext s1
  have keeps_s1 : Keeps 0x12410000000000540608 s s1 := by
    unfold s1
    refine Keeps.then ?_ (State.bypShow_keeps _) rfl
    refine Keeps.then ?_ (State.evIf_keeps _ _ _ _) (Sub.or rfl rfl)
    refine Keeps.then ?_ (State.wf_keeps _ _ _ _) (Sub.or rfl rfl)
    exact Keeps.refl _ _
  refine Keeps.ite ?_ ?_
  · refine Keeps.then ?_ (State.leaveMirrorTime_keeps _) rfl
    exact keeps_s1
  · exact keeps_s1

theorem State.joinPair_keeps (s : State) : Keeps 0x12410002000000540608 s (State.joinPair s) := by
  unfold State.joinPair
  refine Keeps.then ?_ (State.helloSend_keeps _) rfl
  refine Keeps.then ?_ (State.resyncShow_keeps _) rfl
  refine Keeps.then ?_ (State.toRole_keeps _ _) rfl
  refine Keeps.then ?_ (State.pairMod_keeps _ _) rfl
  exact Keeps.refl _ _

theorem State.pairStart_keeps (s : State) : Keeps 0x12410002000000540608 s (State.pairStart s) := by
  unfold State.pairStart
  refine Keeps.ite ?_ ?_
  · refine Keeps.then ?_ (State.joinPair_keeps _) rfl
    exact Keeps.refl _ _
  · refine Keeps.then ?_ (State.toRole_keeps _ _) rfl
    refine Keeps.then ?_ (State.pairMod_keeps _ _) rfl
    exact Keeps.refl _ _

theorem State.goSolo_keeps (s : State) : Keeps 0x80212410008020003540608 s (State.goSolo s) := by
  unfold State.goSolo
  refine Keeps.then ?_ (State.flushAwaiting_keeps _ _) rfl
  refine Keeps.then ?_ (State.toRole_keeps _ _) rfl
  refine Keeps.then ?_ (State.pcode_keeps _ _) rfl
  exact Keeps.refl _ _

theorem State.goAlone_keeps (s : State) (detached : Nat) (solo : Nat) :
    Keeps 0x80212410008020003540608 s (State.goAlone s detached solo) := by
  unfold State.goAlone
  refine Keeps.ite ?_ ?_
  · refine Keeps.then ?_ (State.toRole_keeps _ _) rfl
    refine Keeps.then ?_ (State.pcode_keeps _ _) rfl
    exact Keeps.refl _ _
  · refine Keeps.ite ?_ ?_
    · refine Keeps.then ?_ (State.goSolo_keeps _) rfl
      exact Keeps.refl _ _
    · refine Keeps.then ?_ (State.toRole_keeps _ _) rfl
      refine Keeps.then ?_ (State.pcode_keeps _ _) rfl
      exact Keeps.refl _ _

theorem State.arcJoin_keeps (s : State) (g : Nat) : Keeps 0x40021000000840000310060A s (State.arcJoin s g) := by
  unfold State.arcJoin
  extract_lets +onlyGivenNames -merge -useContext s1
  have keeps_s1 : Keeps 0x40021000000840000310060A s s1 := by
    unfold s1
    refine Keeps.then ?_ (State.rowClose_keeps _ _) rfl
    exact Keeps.refl _ _
  split
  · refine Keeps.then ?_ (State.arcMod_keeps _ _ _) rfl
    refine Keeps.then ?_ (State.drawn_keeps _) rfl
    refine Keeps.then ?_ (State.wf_keeps _ _ _ _) (Sub.or rfl (Sub.blk .PMT (by first | rfl | exact blk_ite rfl rfl) rfl))
    refine Keeps.then ?_ (State.wf_keeps _ _ _ _) (Sub.or rfl (Sub.blk .PMT (by first | rfl | exact blk_ite rfl rfl) rfl))
    exact keeps_s1
  · exact keeps_s1

theorem State.becomeStandby_keeps (s : State) : Keeps 0x40021241000A42000354060A s (State.becomeStandby s) := by
  unfold State.becomeStandby
  extract_lets +onlyGivenNames -merge -useContext cars
  extract_lets +onlyGivenNames -merge -useContext s1
  extract_lets +onlyGivenNames -merge -useContext s1_2
  have keeps_s1_2 : Keeps 0x40021241000A42000354060A s s1_2 := by
    unfold s1_2
    refine Keeps.then ?_ (State.strmMod_keeps _ _ _) rfl
    refine Keeps.then ?_ (State.pairMod_keeps _ _) rfl
    exact Keeps.refl _ _
  extract_lets +onlyGivenNames -merge -useContext s2
  have keeps_s2 : Keeps 0x40021241000A42000354060A s s2 := by
    unfold s2
    refine Keeps.then ?_ (State.wf_keeps _ _ _ _) rfl
    refine Keeps.then ?_ (State.wf_keeps _ _ _ _) rfl
    refine Keeps.then ?_ (State.toRole_keeps _ _) rfl
    exact keeps_s1_2
  extract_lets +onlyGivenNames -merge -useContext s3
  have keeps_s3 : Keeps 0x40021241000A42000354060A s s3 := by
    unfold s3
    refine Keeps.ite ?_ ?_
    · exact keeps_s2
    · refine Keeps.then ?_ (State.toTime_keeps _ _) rfl
      exact keeps_s2
  refine Keeps.then ?_ (State.resyncNext_keeps _) rfl
  refine Keeps.fold ?_ (fun t1 y2 => ?_)
  · exact keeps_s3
  · refine Keeps.then ?_ (State.arcJoin_keeps _ _) rfl
    exact Keeps.refl _ _

theorem State.becomePrimary_keeps (s : State) : Keeps 0x12410002000000540608 s (State.becomePrimary s) := by
  unfold State.becomePrimary
  refine Keeps.then ?_ (State.toRole_keeps _ _) rfl
  refine Keeps.then ?_ (State.pairMod_keeps _ _) rfl
  exact Keeps.refl _ _

theorem execPairHello_keeps (pairId : Nat) (imageId : Nat) (side : Nat) (role : Nat) (s : State) :
    KeepsO 0x48021241000A42000354060A s (execPairHello pairId imageId side role s) := by
  unfold execPairHello
  refine KeepsO.next ?_
  split
  · exact Keeps.refl _ _
  · extract_lets +onlyGivenNames -merge -useContext own
    refine Keeps.ite ?_ ?_
    · exact Keeps.refl _ _
    · extract_lets +onlyGivenNames -merge -useContext s1
      have keeps_s1 : Keeps 0x48021241000A42000354060A s s1 := by
        unfold s1
        refine Keeps.then ?_ (State.pairMod_keeps _ _) rfl
        exact Keeps.refl _ _
      refine Keeps.ite ?_ ?_
      · refine Keeps.then ?_ (State.goAlone_keeps _ _ _) rfl
        exact keeps_s1
      · extract_lets +onlyGivenNames -merge -useContext theirs
        extract_lets +onlyGivenNames -merge -useContext first
        refine Keeps.ite ?_ ?_
        · refine Keeps.then ?_ (State.becomePrimary_keeps _) rfl
          exact keeps_s1
        · refine Keeps.ite ?_ ?_
          · refine Keeps.then ?_ (State.becomeStandby_keeps _) rfl
            exact keeps_s1
          · refine Keeps.ite ?_ ?_
            · refine Keeps.then ?_ (State.becomePrimary_keeps _) rfl
              exact keeps_s1
            · refine Keeps.then ?_ (State.becomeStandby_keeps _) rfl
              exact keeps_s1

theorem execPairJoinTimeout_keeps (s : State) : KeepsO 0x8021241000A020003540608 s (execPairJoinTimeout s) := by
  unfold execPairJoinTimeout
  refine KeepsO.next ?_
  split
  · refine Keeps.ite ?_ ?_
    · refine Keeps.then ?_ (State.goAlone_keeps _ _ _) rfl
      refine Keeps.then ?_ (State.pairMod_keeps _ _) rfl
      exact Keeps.refl _ _
    · exact Keeps.refl _ _
  · exact Keeps.refl _ _

theorem execPairHoldConflict_keeps (s : State) : KeepsO 0x12410000020000540608 s (execPairHoldConflict s) := by
  unfold execPairHoldConflict
  refine KeepsO.next ?_
  refine Keeps.ite ?_ ?_
  · refine Keeps.then ?_ (State.ev_keeps _ _ _) (Sub.or rfl rfl)
    refine Keeps.then ?_ (State.toRole_keeps _ _) rfl
    refine Keeps.then ?_ (State.pcode_keeps _ _) rfl
    refine Keeps.then ?_ (State.strmMod_keeps _ _ _) rfl
    exact Keeps.refl _ _
  · exact Keeps.refl _ _

theorem State.markUnsynced_keeps (s : State) : Keeps 0x30000000000 s (State.markUnsynced s) := by
  unfold State.markUnsynced
  refine Keeps.fold ?_ (fun t1 y2 => ?_)
  · exact Keeps.refl _ _
  · refine Keeps.then ?_ (State.strmMod_keeps _ _ _) rfl
    refine Keeps.then ?_ (State.lblMod_keeps _ _ _) rfl
    exact Keeps.refl _ _

theorem State.writeTaken_keeps (s : State) (r : Rec) : Keeps 0x280210000008060003100608 s (State.writeTaken s r) := by
  unfold State.writeTaken
  extract_lets +onlyGivenNames -merge -useContext seq
  extract_lets +onlyGivenNames -merge -useContext q
  extract_lets +onlyGivenNames -merge -useContext x
  have keeps_x : Keeps 0x280210000008060003100608 s x.1 := by
    unfold x
    split
    · extract_lets +onlyGivenNames -merge -useContext y
      have keeps_y : Keeps 0x280210000008060003100608 s y.1 := by
        unfold y
        refine Keeps.then ?_ (State.patOffer_keeps _ _) rfl
        exact Keeps.refl _ _
      exact keeps_y
    · dsimp only
      exact Keeps.refl _ _
  refine Keeps.then ?_ (State.storeRec_keeps _ _ _ _) rfl
  exact keeps_x

theorem State.takeStream_keeps (s : State) : Keeps 0x280210000008060003100608 s (State.takeStream s) := by
  unfold State.takeStream
  extract_lets +onlyGivenNames -merge -useContext t
  extract_lets +onlyGivenNames -merge -useContext phi
  extract_lets +onlyGivenNames -merge -useContext mine
  extract_lets +onlyGivenNames -merge -useContext s1
  have keeps_s1 : Keeps 0x280210000008060003100608 s s1 := by
    unfold s1
    refine Keeps.then ?_ (State.strmMod_keeps _ _ _) rfl
    exact Keeps.refl _ _
  refine Keeps.then ?_ (State.recoveryGap_keeps _ _ _) rfl
  refine Keeps.fold ?_ (fun t1 y2 => ?_)
  · exact keeps_s1
  · refine Keeps.then ?_ (State.writeTaken_keeps _ _) rfl
    exact Keeps.refl _ _

theorem State.takeover_keeps (s : State) (code : Option Nat) : Keeps 0x280212C1000A070003D40608 s (State.takeover s code) := by
  unfold State.takeover
  extract_lets +onlyGivenNames -merge -useContext s1
  have keeps_s1 : Keeps 0x280212C1000A070003D40608 s s1 := by
    unfold s1
    split
    · refine Keeps.then ?_ (State.pcode_keeps _ _) rfl
      exact Keeps.refl _ _
    · exact Keeps.refl _ _
  extract_lets +onlyGivenNames -merge -useContext s2
  have keeps_s2 : Keeps 0x280212C1000A070003D40608 s s2 := by
    unfold s2
    refine Keeps.then ?_ (State.wf64_keeps _ _ _ _) rfl
    exact keeps_s1
  extract_lets +onlyGivenNames -merge -useContext off
  extract_lets +onlyGivenNames -merge -useContext s3
  extract_lets +onlyGivenNames -merge -useContext s3_2
  have keeps_s3_2 : Keeps 0x280212C1000A070003D40608 s s3_2 := by
    unfold s3_2
    refine Keeps.then ?_ (State.wf64_keeps _ _ _ _) rfl
    refine Keeps.set_way ?_ rfl
    exact keeps_s2
  extract_lets +onlyGivenNames -merge -useContext s4
  have keeps_s4 : Keeps 0x280212C1000A070003D40608 s s4 := by
    unfold s4
    refine Keeps.then ?_ (State.takeStream_keeps _) rfl
    refine Keeps.then ?_ (State.markUnsynced_keeps _) rfl
    refine Keeps.then ?_ (State.toRole_keeps _ _) rfl
    exact keeps_s3_2
  extract_lets +onlyGivenNames -merge -useContext s5
  have keeps_s5 : Keeps 0x280212C1000A070003D40608 s s5 := by
    unfold s5
    refine Keeps.then ?_ (State.pairMod_keeps _ _) rfl
    exact keeps_s4
  refine Keeps.then ?_ (State.ev_keeps _ _ _) rfl
  refine Keeps.then ?_ (State.inc_keeps _ _ _) rfl
  refine Keeps.then ?_ (State.resyncShow_keeps _) rfl
  exact keeps_s5

theorem execHoldInputLow_keeps (s : State) : KeepsO 0x280212C1000A070003D40608 s (execHoldInputLow s) := by
  unfold execHoldInputLow
  refine KeepsO.next ?_
  extract_lets +onlyGivenNames -merge -useContext s1
  have keeps_s1 : Keeps 0x280212C1000A070003D40608 s s1 := by
    unfold s1
    refine Keeps.then ?_ (State.wf_keeps _ _ _ _) rfl
    exact Keeps.refl _ _
  refine Keeps.ite ?_ ?_
  · refine Keeps.then ?_ (State.takeover_keeps _ _) rfl
    exact keeps_s1
  · exact keeps_s1

theorem execHeartbeat_keeps (state : Nat) (sent : Option Nat) (phi : Nat) (ack : Nat) (web : Int) (time : Nat) (s : State) :
    KeepsO 0x80002000002000000000008 s (execHeartbeat state sent phi ack web time s) := by
  unfold execHeartbeat
  refine KeepsO.next ?_
  refine Keeps.ite ?_ ?_
  · exact Keeps.refl _ _
  · extract_lets +onlyGivenNames -merge -useContext s1
    have keeps_s1 : Keeps 0x80002000002000000000008 s s1 := by
      unfold s1
      refine Keeps.then ?_ (State.wf_keeps _ _ _ _) (Sub.or rfl rfl)
      refine Keeps.then ?_ (State.wf_keeps _ _ _ _) (Sub.or rfl rfl)
      exact Keeps.refl _ _
    extract_lets +onlyGivenNames -merge -useContext align
    refine Keeps.ite ?_ ?_
    · extract_lets +onlyGivenNames -merge -useContext s2
      have keeps_s2 : Keeps 0x80002000002000000000008 s s2 := by
        unfold s2
        refine Keeps.then ?_ (State.wf64_keeps _ _ _ _) (Sub.or rfl rfl)
        exact keeps_s1
      extract_lets +onlyGivenNames -merge -useContext s3
      have keeps_s3 : Keeps 0x80002000002000000000008 s s3 := by
        unfold s3
        refine Keeps.then ?_ (State.pairMod_keeps _ _) rfl
        exact keeps_s2
      refine Keeps.ite ?_ ?_
      · exact keeps_s3
      · unfold align
        refine Keeps.then ?_ (State.wf64_keeps _ _ _ _) (Sub.or rfl rfl)
        refine Keeps.then ?_ (State.wf64_keeps _ _ _ _) (Sub.or rfl rfl)
        exact keeps_s3
    · refine Keeps.ite ?_ ?_
      · unfold align
        refine Keeps.then ?_ (State.wf64_keeps _ _ _ _) (Sub.or rfl rfl)
        refine Keeps.then ?_ (State.wf64_keeps _ _ _ _) (Sub.or rfl rfl)
        exact keeps_s1
      · exact keeps_s1

theorem execHeartbeatSend_keeps (s : State) : KeepsO 0x400 s (execHeartbeatSend s) := by
  unfold execHeartbeatSend
  refine KeepsO.next ?_
  refine Keeps.ite ?_ ?_
  · exact Keeps.refl _ _
  · extract_lets +onlyGivenNames -merge -useContext next
    extract_lets +onlyGivenNames -merge -useContext s1
    have keeps_s1 : Keeps 0x400 s s1 := by
      unfold s1
      refine Keeps.fold ?_ (fun t1 y2 => ?_)
      · exact Keeps.refl _ _
      · refine Keeps.then ?_ (State.emit_keeps _ _ _ _) rfl
        exact Keeps.refl _ _
    refine Keeps.ite ?_ ?_
    · exact keeps_s1
    · refine Keeps.then ?_ (State.helloSend_keeps _) rfl
      exact keeps_s1

theorem execHeartbeatMissed_keeps (s : State) : KeepsO 0x280212C1000A070003D40608 s (execHeartbeatMissed s) := by
  unfold execHeartbeatMissed
  refine KeepsO.next ?_
  refine Keeps.ite ?_ ?_
  · exact Keeps.refl _ _
  · extract_lets +onlyGivenNames -merge -useContext n
    extract_lets +onlyGivenNames -merge -useContext s1
    have keeps_s1 : Keeps 0x280212C1000A070003D40608 s s1 := by
      unfold s1
      refine Keeps.then ?_ (State.inc_keeps _ _ _) rfl
      refine Keeps.then ?_ (State.wf_keeps _ _ _ _) rfl
      exact Keeps.refl _ _
    refine Keeps.ite ?_ ?_
    · exact keeps_s1
    · refine Keeps.ite ?_ ?_
      · refine Keeps.then ?_ (State.goSolo_keeps _) rfl
        exact keeps_s1
      · refine Keeps.ite ?_ ?_
        · refine Keeps.then ?_ (State.toRole_keeps _ _) rfl
          refine Keeps.then ?_ (State.pcode_keeps _ _) rfl
          exact keeps_s1
        · refine Keeps.then ?_ (State.takeover_keeps _ _) rfl
          exact keeps_s1

theorem execMirrorTrigger_keeps (port : Nat) (n : Nat) (instant : Int) (pos : Nat) (speed : Int) (unsure : Bool) (s : State) :
    KeepsO 0xFFFFFFFF00020800E0300618 s (execMirrorTrigger port n instant pos speed unsure s) := by
  unfold execMirrorTrigger
  refine KeepsO.next ?_
  refine Keeps.ite ?_ ?_
  · exact Keeps.refl _ _
  · extract_lets +onlyGivenNames -merge -useContext p
    extract_lets +onlyGivenNames -merge -useContext query
    extract_lets +onlyGivenNames -merge -useContext s1
    have keeps_s1 : Keeps 0xFFFFFFFF00020800E0300618 s s1 := by
      unfold s1
      refine Keeps.then ?_ (State.pairMod_keeps _ _) rfl
      exact Keeps.refl _ _
    refine Keeps.fold ?_ (fun t1 y2 => ?_)
    · exact keeps_s1
    · refine Keeps.then ?_ (State.triggerBy_keeps _ _ _ _) rfl
      refine Keeps.then ?_ (State.ingMod_keeps _ _ _) rfl
      exact Keeps.refl _ _

theorem execMirrorEpoch_keeps (g : Nat) (line : Nat) (epoch : Nat) (unconfirmed : Bool) (s : State) :
    KeepsO 0x1000000000000040000008 s (execMirrorEpoch g line epoch unconfirmed s) := by
  unfold execMirrorEpoch
  refine KeepsO.next ?_
  refine Keeps.ite ?_ ?_
  · exact Keeps.refl _ _
  · extract_lets +onlyGivenNames -merge -useContext s1
    have keeps_s1 : Keeps 0x1000000000000040000008 s s1 := by
      unfold s1
      refine Keeps.ite ?_ ?_
      · refine Keeps.then ?_ (State.wf_keeps _ _ _ _) (Sub.or rfl rfl)
        exact Keeps.refl _ _
      · exact Keeps.refl _ _
    refine Keeps.then ?_ (State.epochShow_keeps _ _) rfl
    refine Keeps.then ?_ (State.ingMod_keeps _ _ _) rfl
    exact keeps_s1

theorem State.diverge_keeps (s : State) : Keeps 0x12000002020000140608 s (State.diverge s) := by
  unfold State.diverge
  extract_lets +onlyGivenNames -merge -useContext t
  extract_lets +onlyGivenNames -merge -useContext a
  extract_lets +onlyGivenNames -merge -useContext b
  refine Keeps.ite ?_ ?_
  · exact Keeps.refl _ _
  · extract_lets +onlyGivenNames -merge -useContext s1
    have keeps_s1 : Keeps 0x12000002020000140608 s s1 := by
      unfold s1
      refine Keeps.then ?_ (State.strmMod_keeps _ _ _) rfl
      exact Keeps.refl _ _
    extract_lets +onlyGivenNames -merge -useContext s2
    have keeps_s2 : Keeps 0x12000002020000140608 s s2 := by
      unfold s2
      refine Keeps.then ?_ (State.pairMod_keeps _ _) rfl
      exact keeps_s1
    refine Keeps.then ?_ (State.ev_keeps _ _ _) (Sub.or rfl rfl)
    refine Keeps.then ?_ (State.pcode_keeps _ _) rfl
    refine Keeps.then ?_ (State.add_keeps _ _ _ _) (Sub.or rfl rfl)
    exact keeps_s2

theorem State.mirrorRec_keeps (s : State) (seq : Nat) (r : Rec) : Keeps 0x8020000000A020003000008 s (State.mirrorRec s seq r) := by
  unfold State.mirrorRec
  extract_lets +onlyGivenNames -merge -useContext q
  extract_lets +onlyGivenNames -merge -useContext s1
  have keeps_s1 : Keeps 0x8020000000A020003000008 s s1 := by
    unfold s1
    refine Keeps.then ?_ (State.wf64_keeps _ _ _ _) rfl
    refine Keeps.then ?_ (State.dramPut_keeps _ _ _ _) rfl
    exact Keeps.refl _ _
  extract_lets +onlyGivenNames -merge -useContext s2
  have keeps_s2 : Keeps 0x8020000000A020003000008 s s2 := by
    unfold s2
    refine Keeps.then ?_ (State.pairMod_keeps _ _) rfl
    exact keeps_s1
  refine Keeps.ite ?_ ?_
  · refine Keeps.then ?_ (State.strmMod_keeps _ _ _) rfl
    exact keeps_s2
  · refine Keeps.then ?_ (State.pairMod_keeps _ _) rfl
    exact keeps_s2

theorem execRecords_keeps (recs : List (Nat × Rec)) (phi : Nat) (s : State) :
    KeepsO 0x8021200000A020003140608 s (execRecords recs phi s) := by
  unfold execRecords
  refine KeepsO.next ?_
  refine Keeps.ite ?_ ?_
  · exact Keeps.refl _ _
  · extract_lets +onlyGivenNames -merge -useContext s1
    have keeps_s1 : Keeps 0x8021200000A020003140608 s s1 := by
      unfold s1
      refine Keeps.fold ?_ (fun t1 y2 => ?_)
      · exact Keeps.refl _ _
      · refine Keeps.then ?_ (State.mirrorRec_keeps _ _ _) rfl
        exact Keeps.refl _ _
    extract_lets +onlyGivenNames -merge -useContext s2
    have keeps_s2 : Keeps 0x8021200000A020003140608 s s2 := by
      unfold s2
      refine Keeps.then ?_ (State.diverge_keeps _) rfl
      refine Keeps.then ?_ (State.pairMod_keeps _ _) rfl
      exact keeps_s1
    refine Keeps.ite ?_ ?_
    · exact keeps_s2
    · refine Keeps.then ?_ (State.emit_keeps _ _ _ _) rfl
      exact keeps_s2

theorem execRecordsHeld_keeps (seq : Nat) (s : State) : KeepsO 0x80210000008020003100608 s (execRecordsHeld seq s) := by
  unfold execRecordsHeld
  refine KeepsO.next ?_
  refine Keeps.ite ?_ ?_
  · refine Keeps.then ?_ (State.shedShow_keeps _) rfl
    refine Keeps.then ?_ (State.flushAwaiting_keeps _ _) rfl
    exact Keeps.refl _ _
  · exact Keeps.refl _ _

theorem execMirrorAck_keeps (v : Nat) (s : State) : KeepsO 0x80000000000000000000008 s (execMirrorAck v s) := by
  unfold execMirrorAck
  refine KeepsO.next ?_
  refine Keeps.ite ?_ ?_
  · refine Keeps.then ?_ (State.shedShow_keeps _) rfl
    refine Keeps.then ?_ (State.wf64_keeps _ _ _ _) (Sub.or rfl rfl)
    exact Keeps.refl _ _
  · exact Keeps.refl _ _

theorem execMirrorTime_keeps (offset : Int) (s : State) : KeepsO 0x1041000000000054060A s (execMirrorTime offset s) := by
  unfold execMirrorTime
  refine KeepsO.next ?_
  refine Keeps.ite ?_ ?_
  · refine Keeps.then ?_ (State.servo_keeps _ _) rfl
    exact Keeps.refl _ _
  · exact Keeps.refl _ _

theorem execDigest_keeps (g : Nat) (line : Nat) (crc : Nat) (s : State) : KeepsO 0x12000002000000140608 s (execDigest g line crc s) := by
  unfold execDigest
  refine KeepsO.next ?_
  refine Keeps.ite ?_ ?_
  · refine Keeps.then ?_ (State.digestMeet_keeps _) rfl
    refine Keeps.then ?_ (State.pairMod_keeps _ _) rfl
    exact Keeps.refl _ _
  · exact Keeps.refl _ _

theorem execDigestTimeout_keeps (g : Nat) (s : State) : KeepsO 0x12000002000000140608 s (execDigestTimeout g s) := by
  unfold execDigestTimeout
  refine KeepsO.next ?_
  extract_lets +onlyGivenNames -merge -useContext late
  refine Keeps.ite ?_ ?_
  · refine Keeps.then ?_ (State.digestBad_keeps _ _) rfl
    refine Keeps.then ?_ (State.pairMod_keeps _ _) rfl
    exact Keeps.refl _ _
  · exact Keeps.refl _ _

theorem execResyncRequest_keeps (g : Nat) (s : State) : KeepsO 0x2000000000000 s (execResyncRequest g s) := by
  unfold execResyncRequest
  refine KeepsO.next ?_
  refine Keeps.ite ?_ ?_
  · refine Keeps.then ?_ (State.pairMod_keeps _ _) rfl
    exact Keeps.refl _ _
  · exact Keeps.refl _ _

theorem State.snapLoad_keeps (s : State) (g : Nat) (x : Snapshot) : Keeps 0x1000000000036040000008 s (State.snapLoad s g x) := by
  unfold State.snapLoad
  extract_lets +onlyGivenNames -merge -useContext s1
  have keeps_s1 : Keeps 0x1000000000036040000008 s s1 := by
    unfold s1
    refine Keeps.then ?_ (State.sprMod_keeps _ _ _) rfl
    exact Keeps.refl _ _
  extract_lets +onlyGivenNames -merge -useContext s2
  have keeps_s2 : Keeps 0x1000000000036040000008 s s2 := by
    unfold s2
    refine Keeps.then ?_ (State.segMod_keeps _ _ _) rfl
    exact keeps_s1
  extract_lets +onlyGivenNames -merge -useContext top
  extract_lets +onlyGivenNames -merge -useContext s3
  have keeps_s3 : Keeps 0x1000000000036040000008 s s3 := by
    unfold s3
    refine Keeps.then ?_ (State.lblMod_keeps _ _ _) rfl
    exact keeps_s2
  extract_lets +onlyGivenNames -merge -useContext s4
  have keeps_s4 : Keeps 0x1000000000036040000008 s s4 := by
    unfold s4
    refine Keeps.then ?_ (State.ingMod_keeps _ _ _) rfl
    refine Keeps.then ?_ (State.wf_keeps _ _ _ _) (Sub.or rfl rfl)
    exact keeps_s3
  refine Keeps.then ?_ (State.strmMod_keeps _ _ _) rfl
  exact keeps_s4

theorem execMirrorState_keeps (g : Nat) (msg : StateMsg) (s : State) : KeepsO 0xFFFFFFFF0002036060300618 s (execMirrorState g msg s) := by
  unfold execMirrorState
  refine KeepsO.next ?_
  split
  · exact Keeps.refl _ _
  · refine Keeps.ite ?_ ?_
    · exact Keeps.refl _ _
    · extract_lets +onlyGivenNames -merge -useContext put
      split
      · unfold put
        refine Keeps.then ?_ (State.pairMod_keeps _ _) rfl
        refine Keeps.then ?_ (State.snapLoad_keeps _ _ _) rfl
        exact Keeps.refl _ _
      · refine Keeps.ite ?_ ?_
        · exact Keeps.refl _ _
        · refine Keeps.ite ?_ ?_
          · unfold put
            refine Keeps.then ?_ (State.pairMod_keeps _ _) rfl
            exact Keeps.refl _ _
          · refine Keeps.then ?_ (State.sprRun_keeps _ _) rfl
            unfold put
            refine Keeps.then ?_ (State.pairMod_keeps _ _) rfl
            refine Keeps.then ?_ (State.sprIn_keeps _ _ _) rfl
            exact Keeps.refl _ _

theorem State.dropOwn_keeps (p0 : Nat) (p1 : Nat) (p2 : Nat) (p3 : State) :
    Keeps 0x100000000000020000008 p3 (State.dropOwn p0 p1 p2 p3) := by
  induction p0 generalizing p1 p2 p3 with
  | zero =>
    rw [State.dropOwn]
    exact Keeps.refl _ _
  | succ j ih =>
    rw [State.dropOwn]
    split
    · exact Keeps.refl _ _
    · split
      · refine Keeps.ite ?_ ?_
        · refine Keeps.then ?_ (ih _ _ _) rfl
          refine Keeps.then ?_ (State.mewPop_keeps _ _) rfl
          exact Keeps.refl _ _
        · exact Keeps.refl _ _
      · refine Keeps.ite ?_ ?_
        · refine Keeps.then ?_ (ih _ _ _) rfl
          refine Keeps.then ?_ (State.mewPop_keeps _ _) rfl
          exact Keeps.refl _ _
        · exact Keeps.refl _ _
      · exact Keeps.refl _ _

theorem execResyncSwitchBack_keeps (s : State) : KeepsO 0x112000002000020140608 s (execResyncSwitchBack s) := by
  unfold execResyncSwitchBack
  refine KeepsO.next ?_
  split
  · exact Keeps.refl _ _
  · split
    · exact Keeps.refl _ _
    · extract_lets +onlyGivenNames -merge -useContext g
      extract_lets +onlyGivenNames -merge -useContext s1
      have keeps_s1 : Keeps 0x112000002000020140608 s s1 := by
        unfold s1
        refine Keeps.then ?_ (State.dropOwn_keeps _ _ _ _) rfl
        exact Keeps.refl _ _
      extract_lets +onlyGivenNames -merge -useContext s2
      have keeps_s2 : Keeps 0x112000002000020140608 s s2 := by
        unfold s2
        refine Keeps.then ?_ (State.pairMod_keeps _ _) rfl
        exact keeps_s1
      extract_lets +onlyGivenNames -merge -useContext s3
      have keeps_s3 : Keeps 0x112000002000020140608 s s3 := by
        unfold s3
        refine Keeps.then ?_ (State.wf_keeps _ _ _ _) (Sub.or rfl rfl)
        refine Keeps.then ?_ (State.emit_keeps _ _ _ _) rfl
        exact keeps_s2
      refine Keeps.then ?_ (State.resyncNext_keeps _) rfl
      refine Keeps.then ?_ (State.ev_keeps _ _ _) (Sub.or rfl rfl)
      refine Keeps.then ?_ (State.pcode_keeps _ _) rfl
      refine Keeps.then ?_ (State.inc_keeps _ _ _) (Sub.or rfl rfl)
      exact keeps_s3

theorem execResyncDone_keeps (g : Nat) (s : State) : KeepsO 0x12000002020000140608 s (execResyncDone g s) := by
  unfold execResyncDone
  refine KeepsO.next ?_
  refine Keeps.ite ?_ ?_
  · extract_lets +onlyGivenNames -merge -useContext s1
    have keeps_s1 : Keeps 0x12000002020000140608 s s1 := by
      unfold s1
      refine Keeps.then ?_ (State.recoveryGap_keeps _ _ _) rfl
      refine Keeps.then ?_ (State.pairMod_keeps _ _) rfl
      exact Keeps.refl _ _
    refine Keeps.then ?_ (State.ev_keeps _ _ _) (Sub.or rfl rfl)
    refine Keeps.then ?_ (State.pcode_keeps _ _) rfl
    refine Keeps.then ?_ (State.inc_keeps _ _ _) (Sub.or rfl rfl)
    exact keeps_s1
  · exact Keeps.refl _ _

theorem execResyncTimeout_keeps (s : State) : KeepsO 0x12000002000000140608 s (execResyncTimeout s) := by
  unfold execResyncTimeout
  refine KeepsO.next ?_
  split
  · exact Keeps.refl _ _
  · refine Keeps.ite ?_ ?_
    · refine Keeps.then ?_ (State.resyncNext_keeps _) rfl
      refine Keeps.then ?_ (State.ev_keeps _ _ _) (Sub.or rfl rfl)
      refine Keeps.then ?_ (State.pcode_keeps _ _) rfl
      refine Keeps.then ?_ (State.pairMod_keeps _ _) rfl
      exact Keeps.refl _ _
    · exact Keeps.refl _ _

theorem State.actSwitchover_keeps (s : State) : Keeps 0x2000002000000040408 s (State.actSwitchover s) := by
  unfold State.actSwitchover
  extract_lets +onlyGivenNames -merge -useContext foreign
  refine Keeps.ite ?_ ?_
  · extract_lets +onlyGivenNames -merge -useContext p
    refine Keeps.then ?_ (State.emit_keeps _ _ _ _) rfl
    refine Keeps.then ?_ (State.pairMod_keeps _ _) rfl
    exact Keeps.refl _ _
  · refine Keeps.then ?_ (State.pcode_keeps _ _) rfl
    exact Keeps.refl _ _

theorem execSwitchover_keeps (m : Nat) (w : Word) (s : State) : KeepsO 0x20D0002000000041638 s (execSwitchover m w s) := by
  unfold execSwitchover
  refine KeepsO.next ?_
  refine Keeps.then ?_ (State.regAct_keeps (msk := 0x20D0002000000041638) _ _ _ _ _ _ (by exact Sub.or rfl rfl) (fun z1 => ?_)) (Sub.refl _)
  · exact Keeps.refl _ _
  · refine Keeps.then ?_ (State.actSwitchover_keeps _) rfl
    exact Keeps.refl _ _

theorem execSwitchoverControl_keeps (p : Nat) (s : State) : KeepsO 0x2000000000000 s (execSwitchoverControl p s) := by
  unfold execSwitchoverControl
  refine KeepsO.next ?_
  refine Keeps.ite ?_ ?_
  · refine Keeps.then ?_ (State.pairMod_keeps _ _) rfl
    exact Keeps.refl _ _
  · exact Keeps.refl _ _

theorem State.handoverCheck_keeps (s : State) : Keeps 0x280212C1000A070003D40608 s (State.handoverCheck s) := by
  unfold State.handoverCheck
  split
  · exact Keeps.refl _ _
  · refine Keeps.ite ?_ ?_
    · exact Keeps.refl _ _
    · extract_lets +onlyGivenNames -merge -useContext s1
      have keeps_s1 : Keeps 0x280212C1000A070003D40608 s s1 := by
        unfold s1
        refine Keeps.then ?_ (State.pairMod_keeps _ _) rfl
        exact Keeps.refl _ _
      refine Keeps.ite ?_ ?_
      · refine Keeps.then ?_ (State.joinPair_keeps _) rfl
        refine Keeps.then ?_ (State.strmMod_keeps _ _ _) rfl
        exact keeps_s1
      · refine Keeps.ite ?_ ?_
        · refine Keeps.then ?_ (State.takeover_keeps _ _) rfl
          exact keeps_s1
        · exact keeps_s1

theorem execTimetableTick_keeps (n : Nat) (s : State) : KeepsO 0x280212C1000A070003D40608 s (execTimetableTick n s) := by
  unfold execTimetableTick
  refine KeepsO.next ?_
  refine Keeps.then ?_ (State.handoverCheck_keeps _) rfl
  refine Keeps.then ?_ (State.ticks_keeps _ _) rfl
  exact Keeps.refl _ _

theorem State.actDetach_keeps (s : State) : Keeps 0x12410002000000540608 s (State.actDetach s) := by
  unfold State.actDetach
  refine Keeps.ite ?_ ?_
  · refine Keeps.then ?_ (State.resyncShow_keeps _) rfl
    refine Keeps.then ?_ (State.toRole_keeps _ _) rfl
    refine Keeps.then ?_ (State.pairMod_keeps _ _) rfl
    exact Keeps.refl _ _
  · refine Keeps.then ?_ (State.pcode_keeps _ _) rfl
    exact Keeps.refl _ _

theorem execDetach_keeps (m : Nat) (w : Word) (s : State) : KeepsO 0x124D0002000000541638 s (execDetach m w s) := by
  unfold execDetach
  refine KeepsO.next ?_
  refine Keeps.then ?_ (State.regAct_keeps (msk := 0x124D0002000000541638) _ _ _ _ _ _ (by exact Sub.or rfl rfl) (fun z1 => ?_)) (Sub.refl _)
  · exact Keeps.refl _ _
  · refine Keeps.then ?_ (State.actDetach_keeps _) rfl
    exact Keeps.refl _ _

theorem State.actRejoin_keeps (s : State) : Keeps 0x12410002000000540608 s (State.actRejoin s) := by
  unfold State.actRejoin
  refine Keeps.ite ?_ ?_
  · refine Keeps.then ?_ (State.joinPair_keeps _) rfl
    exact Keeps.refl _ _
  · refine Keeps.then ?_ (State.pcode_keeps _ _) rfl
    exact Keeps.refl _ _

theorem execRejoin_keeps (m : Nat) (w : Word) (s : State) : KeepsO 0x124D0002000000541638 s (execRejoin m w s) := by
  unfold execRejoin
  refine KeepsO.next ?_
  refine Keeps.then ?_ (State.regAct_keeps (msk := 0x124D0002000000541638) _ _ _ _ _ _ (by exact Sub.or rfl rfl) (fun z1 => ?_)) (Sub.refl _)
  · exact Keeps.refl _ _
  · refine Keeps.then ?_ (State.actRejoin_keeps _) rfl
    exact Keeps.refl _ _

end Sys2Proof.Machine
end

