-- ==== Sys2Proof/Laws/KeepsYoke.lean ====
section
/-! SUPPORT. Frames of the operations of Machine/Yoke.lean: what each may change, one lemma each. -/

namespace Sys2Proof.Machine

theorem State.yokeFail_keeps (s : State) (m : Nat) (d : Nat) (loc : Nat) (value : Nat) :
    Keeps 0x10040000000000100608 s (State.yokeFail s m d loc value) := by
  unfold State.yokeFail
  refine Keeps.then ?_ (State.reinRaise_keeps _ _ _ _ _) rfl
  refine Keeps.then ?_ (State.ev_keeps _ _ _) (Sub.or rfl rfl)
  refine Keeps.then ?_ (State.ycode_keeps _ _ _ _ _) rfl
  exact Keeps.refl _ _

theorem State.yokeDrop_keeps (s : State) (seq : Nat) : Keeps 0x200000 s (State.yokeDrop s seq) := by
  unfold State.yokeDrop
  refine Keeps.set_yoke ?_ rfl
  exact Keeps.refl _ _

theorem State.yokeCancelAll_keeps (s : State) : Keeps 0x10040000000000300638 s (State.yokeCancelAll s) := by
  unfold State.yokeCancelAll
  extract_lets +onlyGivenNames -merge -useContext s1
  have keeps_s1 : Keeps 0x10040000000000300638 s s1 := by
    unfold s1
    refine Keeps.fold ?_ (fun t1 y2 => ?_)
    · exact Keeps.refl _ _
    · refine Keeps.ite ?_ ?_
      · exact Keeps.refl _ _
      · refine Keeps.then ?_ (State.yokeState_keeps _ _ _ _) rfl
        refine Keeps.then ?_ (State.ev_keeps _ _ _) (Sub.or rfl rfl)
        refine Keeps.then ?_ (State.ycode_keeps _ _ _ _ _) rfl
        exact Keeps.refl _ _
  refine Keeps.set_staged_stager_yoke ?_ rfl
  exact keeps_s1

theorem State.yokeEnter_keeps (s : State) (m : Nat) (carriage : Option Nat) (kind : Nat) (instant : Nat) (defaults : Bool) (checkOnly : Bool) :
    Keeps 0x40000000000200038 s (State.yokeEnter s m carriage kind instant defaults checkOnly) := by
  unfold State.yokeEnter
  extract_lets +onlyGivenNames -merge -useContext vals
  extract_lets +onlyGivenNames -merge -useContext n
  extract_lets +onlyGivenNames -merge -useContext c
  extract_lets +onlyGivenNames -merge -useContext s1
  have keeps_s1 : Keeps 0x40000000000200038 s s1 := by
    unfold s1
    refine Keeps.ite ?_ ?_
    · refine Keeps.set_staged_stager ?_ rfl
      exact Keeps.refl _ _
    · exact Keeps.refl _ _
  refine Keeps.then ?_ (State.wf_keeps _ _ _ _) (Sub.or rfl rfl)
  refine Keeps.set_yoke ?_ rfl
  exact keeps_s1

theorem State.actYokeRequest_keeps (s : State) (m : Nat) : Keeps 0x10040000000000300638 s (State.actYokeRequest s m) := by
  unfold State.actYokeRequest
  extract_lets +onlyGivenNames -merge -useContext scope
  extract_lets +onlyGivenNames -merge -useContext kind
  split
  · refine Keeps.then ?_ (State.yokeFail_keeps _ _ _ _ _) rfl
    exact Keeps.refl _ _
  · refine Keeps.then ?_ (State.yokeEnter_keeps _ _ _ _ _ _ _) rfl
    exact Keeps.refl _ _

theorem State.wwtStage_keeps (s : State) (i : Nat) (f : Fld) (v : Nat) : Keeps 0x40000000000000038 s (State.wwtStage s i f v) := by
  unfold State.wwtStage
  refine Keeps.ite ?_ ?_
  · refine Keeps.then ?_ (State.ycode_keeps _ _ _ _ _) rfl
    exact Keeps.refl _ _
  · extract_lets +onlyGivenNames -merge -useContext __src
    have keeps___src : Keeps 0x40000000000000038 s __src := by
      unfold __src
      refine Keeps.then ?_ (State.wsf_keeps _ _ _ _) rfl
      exact Keeps.refl _ _
    refine Keeps.set_stager ?_ rfl
    exact keeps___src

theorem State.wwtRequestCommit_keeps (s : State) (carriage : Option Nat) (kind : Nat) (instant : Nat) :
    Keeps 0x410040000001D003C0638 s (State.wwtRequestCommit s carriage kind instant) := by
  unfold State.wwtRequestCommit
  split
  · extract_lets +onlyGivenNames -merge -useContext s1
    have keeps_s1 : Keeps 0x410040000001D003C0638 s s1 := by
      unfold s1
      refine Keeps.then ?_ (State.yokeFail_keeps _ _ _ _ _) rfl
      exact Keeps.refl _ _
    extract_lets +onlyGivenNames -merge -useContext ks
    refine Keeps.then ?_ (State.wwtCommitted_keeps _ _ _) rfl
    refine Keeps.set_staged_stager ?_ rfl
    exact keeps_s1
  · refine Keeps.then ?_ (State.yokeEnter_keeps _ _ _ _ _ _ _) rfl
    exact Keeps.refl _ _

theorem execYokeRequest_keeps (m : Nat) (w : Word) (s : State) : KeepsO 0x100D0000000000341638 s (execYokeRequest m w s) := by
  unfold execYokeRequest
  refine KeepsO.next ?_
  refine Keeps.then ?_ (State.regAct_keeps (msk := 0x100D0000000000341638) _ _ _ _ _ _ (by exact Sub.or rfl rfl) (fun z1 => ?_)) (Sub.refl _)
  · exact Keeps.refl _ _
  · refine Keeps.then ?_ (State.actYokeRequest_keeps _ _) rfl
    exact Keeps.refl _ _

theorem State.yokeView_keeps (s : State) (seq : Nat) (vals : List (Nat × Word)) :
    Keeps 0xFFFFFFFF0000000000000008 s (State.yokeView s seq vals) := by
  unfold State.yokeView
  extract_lets +onlyGivenNames -merge -useContext armed
  extract_lets +onlyGivenNames -merge -useContext before
  refine Keeps.then ?_ (State.takeValues_keeps _ _) rfl
  refine Keeps.then ?_ (State.takeValues_keeps _ _) rfl
  refine Keeps.then ?_ (State.takeValues_keeps _ _) rfl
  exact Keeps.refl _ _

theorem State.yokeArm_keeps (s : State) (c : Commit) (pos : Option Int) : Keeps 0x200000 s (State.yokeArm s c pos) := by
  unfold State.yokeArm
  extract_lets +onlyGivenNames -merge -useContext ins
  extract_lets +onlyGivenNames -merge -useContext cars
  extract_lets +onlyGivenNames -merge -useContext news
  extract_lets +onlyGivenNames -merge -useContext x1
  refine Keeps.set_yoke ?_ rfl
  exact Keeps.refl _ _

theorem State.yokePend_keeps (s : State) (c : Commit) : Keeps 0xFFFFFFFF0000021D10BC0638 s (State.yokePend s c) := by
  unfold State.yokePend
  extract_lets +onlyGivenNames -merge -useContext s1
  extract_lets +onlyGivenNames -merge -useContext s1_2
  have keeps_s1_2 : Keeps 0xFFFFFFFF0000021D10BC0638 s s1_2 := by
    unfold s1_2
    refine Keeps.then ?_ (State.yokeState_keeps _ _ _ _) rfl
    refine Keeps.then ?_ (State.yokeArm_keeps _ _ _) rfl
    refine Keeps.set_yoke ?_ rfl
    exact Keeps.refl _ _
  refine Keeps.ite ?_ ?_
  · refine Keeps.then ?_ (State.releaseOn_keeps _ _) rfl
    exact keeps_s1_2
  · exact keeps_s1_2

theorem State.yokeLost_keeps (s : State) (c : Commit) : Keeps 0x410000000001D001C0638 s (State.yokeLost s c) := by
  unfold State.yokeLost
  extract_lets +onlyGivenNames -merge -useContext ks
  refine Keeps.then ?_ (State.wwtCommitted_keeps _ _ _) rfl
  refine Keeps.set_staged_stager ?_ rfl
  exact Keeps.refl _ _

theorem State.yokeEnds_keeps (s : State) (c : Commit) (d : Nat) (loc : Nat) (value : Nat) :
    Keeps 0x410040000001D003C0638 s (State.yokeEnds s c d loc value) := by
  unfold State.yokeEnds
  extract_lets +onlyGivenNames -merge -useContext s1
  have keeps_s1 : Keeps 0x410040000001D003C0638 s s1 := by
    unfold s1
    refine Keeps.then ?_ (State.yokeFail_keeps _ _ _ _ _) rfl
    refine Keeps.then ?_ (State.yokeState_keeps _ _ _ _) rfl
    refine Keeps.then ?_ (State.yokeDrop_keeps _ _) rfl
    exact Keeps.refl _ _
  refine Keeps.ite ?_ ?_
  · refine Keeps.then ?_ (State.yokeLost_keeps _ _) rfl
    exact keeps_s1
  · exact keeps_s1

theorem State.yokeFinish_keeps (s : State) (c : Commit) : Keeps 0xFFFFFFFF0000021D10BC0638 s (State.yokeFinish s c) := by
  unfold State.yokeFinish
  refine Keeps.ite ?_ ?_
  · refine Keeps.then ?_ (State.yokeEnds_keeps _ _ _ _ _) rfl
    exact Keeps.refl _ _
  · refine Keeps.ite ?_ ?_
    · refine Keeps.then ?_ (State.ev_keeps _ _ _) rfl
      refine Keeps.then ?_ (State.yokeState_keeps _ _ _ _) rfl
      refine Keeps.then ?_ (State.yokeDrop_keeps _ _) rfl
      exact Keeps.refl _ _
    · refine Keeps.then ?_ (State.yokePend_keeps _ _) rfl
      exact Keeps.refl _ _

theorem State.yokeAsk_keeps (s : State) (c : Commit) : Keeps 0x200400 s (State.yokeAsk s c) := by
  unfold State.yokeAsk
  extract_lets +onlyGivenNames -merge -useContext n
  refine Keeps.then ?_ (State.yokeTell_keeps _ _ _ _) rfl
  refine Keeps.set_yoke ?_ rfl
  exact Keeps.refl _ _

theorem State.yokeChecked_keeps (s : State) (carriage : Option Nat) :
    Keeps 0xFFFFFFFF0000021D10BC0638 s (State.yokeChecked s carriage) := by
  unfold State.yokeChecked
  split
  · exact Keeps.refl _ _
  · split
    · refine Keeps.then ?_ (State.yokeEnds_keeps _ _ _ _ _) rfl
      exact Keeps.refl _ _
    · refine Keeps.ite ?_ ?_
      · refine Keeps.ite ?_ ?_
        · exact Keeps.refl _ _
        · refine Keeps.then ?_ (State.yokeAsk_keeps _ _) rfl
          exact Keeps.refl _ _
      · refine Keeps.then ?_ (State.yokeFinish_keeps _ _) rfl
        exact Keeps.refl _ _

theorem execYokeCheckDone_keeps (carriage : Option Nat) (s : State) :
    KeepsO 0xFFFFFFFF0000021D10BC0638 s (execYokeCheckDone carriage s) := by
  unfold execYokeCheckDone
  refine KeepsO.next ?_
  refine Keeps.then ?_ (State.yokeChecked_keeps _ _) rfl
  exact Keeps.refl _ _

theorem execYokeRelease_keeps (carriage : Option Nat) (s : State) : KeepsO 0xFFFFFFFF0000021D10BC0638 s (execYokeRelease carriage s) := by
  unfold execYokeRelease
  refine KeepsO.next ?_
  split
  · refine Keeps.ite ?_ ?_
    · refine Keeps.then ?_ (State.releaseOn_keeps _ _) rfl
      exact Keeps.refl _ _
    · exact Keeps.refl _ _
  · exact Keeps.refl _ _

theorem State.yokeSink_keeps (s : State) : Keeps 0xFFFFFFFF0000021D10BC0638 s (State.yokeSink s) := by
  unfold State.yokeSink
  refine Keeps.fold ?_ (fun t1 y2 => ?_)
  · exact Keeps.refl _ _
  · refine Keeps.then ?_ (State.releaseOn_keeps _ _) rfl
    exact Keeps.refl _ _

theorem State.actYokeCancel_keeps (s : State) (m : Nat) : Keeps 0x410040000001D003C0638 s (State.actYokeCancel s m) := by
  unfold State.actYokeCancel
  split
  · refine Keeps.ite ?_ ?_
    · extract_lets +onlyGivenNames -merge -useContext s1
      have keeps_s1 : Keeps 0x410040000001D003C0638 s s1 := by
        unfold s1
        refine Keeps.then ?_ (State.ev_keeps _ _ _) rfl
        refine Keeps.then ?_ (State.ycode_keeps _ _ _ _ _) rfl
        refine Keeps.then ?_ (State.yokeState_keeps _ _ _ _) rfl
        refine Keeps.then ?_ (State.yokeDrop_keeps _ _) rfl
        exact Keeps.refl _ _
      refine Keeps.ite ?_ ?_
      · refine Keeps.then ?_ (State.yokeLost_keeps _ _) rfl
        exact keeps_s1
      · exact keeps_s1
    · refine Keeps.then ?_ (State.ycode_keeps _ _ _ _ _) rfl
      exact Keeps.refl _ _
  · refine Keeps.then ?_ (State.ycode_keeps _ _ _ _ _) rfl
    exact Keeps.refl _ _

theorem execYokeCancel_keeps (m : Nat) (w : Word) (s : State) : KeepsO 0x4100D0000001D003C1638 s (execYokeCancel m w s) := by
  unfold execYokeCancel
  refine KeepsO.next ?_
  refine Keeps.then ?_ (State.regAct_keeps (msk := 0x4100D0000001D003C1638) _ _ _ _ _ _ (by exact rfl) (fun z11 => ?_)) (Sub.refl _)
  · exact Keeps.refl _ _
  · refine Keeps.then ?_ (State.actYokeCancel_keeps _ _) rfl
    exact Keeps.refl _ _

theorem State.actYokeDiscard_keeps (s : State) (m : Nat) : Keeps 0x30 s (State.actYokeDiscard s m) := by
  unfold State.actYokeDiscard
  extract_lets +onlyGivenNames -merge -useContext ks
  refine Keeps.set_staged_stager ?_ rfl
  exact Keeps.refl _ _

theorem execYokeDiscard_keeps (m : Nat) (w : Word) (s : State) : KeepsO 0xD0000000000041638 s (execYokeDiscard m w s) := by
  unfold execYokeDiscard
  refine KeepsO.next ?_
  refine Keeps.then ?_ (State.regAct_keeps (msk := 0xD0000000000041638) _ _ _ _ _ _ (by exact Sub.or rfl rfl) (fun z1 => ?_)) (Sub.refl _)
  · exact Keeps.refl _ _
  · refine Keeps.then ?_ (State.actYokeDiscard_keeps _ _) rfl
    exact Keeps.refl _ _

theorem State.yokeAnswer_keeps (s : State) (seq : Nat) (code : Nat) : Keeps 0x400 s (State.yokeAnswer s seq code) := by
  unfold State.yokeAnswer
  refine Keeps.ite ?_ ?_
  · refine Keeps.then ?_ (State.emit_keeps _ _ _ _) rfl
    exact Keeps.refl _ _
  · refine Keeps.then ?_ (State.emit_keeps _ _ _ _) rfl
    exact Keeps.refl _ _

theorem execMirrorYoke_keeps (seq : Nat) (carriage : Option Nat) (kind : Nat) (instant : Nat) (defaults : Bool) (checkOnly : Bool) (values : List (Nat × Word)) (s : State) :
    KeepsO 0x200400 s (execMirrorYoke seq carriage kind instant defaults checkOnly values s) := by
  unfold execMirrorYoke
  refine KeepsO.next ?_
  refine Keeps.ite ?_ ?_
  · exact Keeps.refl _ _
  · extract_lets +onlyGivenNames -merge -useContext at_
    extract_lets +onlyGivenNames -merge -useContext c
    extract_lets +onlyGivenNames -merge -useContext s0
    have keeps_s0 : Keeps 0x200400 s s0 := by
      unfold s0
      refine Keeps.fold ?_ (fun t1 y2 => ?_)
      · exact Keeps.refl _ _
      · refine Keeps.then ?_ (State.yokeDrop_keeps _ _) rfl
        exact Keeps.refl _ _
    split
    · refine Keeps.then ?_ (State.yokeAnswer_keeps _ _ _) rfl
      exact keeps_s0
    · extract_lets +onlyGivenNames -merge -useContext s1
      have keeps_s1 : Keeps 0x200400 s s1 := by
        unfold s1
        refine Keeps.then ?_ (State.yokeAnswer_keeps _ _ _) rfl
        exact keeps_s0
      refine Keeps.ite ?_ ?_
      · exact keeps_s1
      · refine Keeps.then ?_ (State.yokeArm_keeps _ _ _) rfl
        refine Keeps.set_yoke ?_ rfl
        exact keeps_s1

theorem execYokeResult_keeps (seq : Nat) (code : Nat) (s : State) : KeepsO 0xFFFFFFFF0000021D10BC0638 s (execYokeResult seq code s) := by
  unfold execYokeResult
  refine KeepsO.next ?_
  split
  · exact Keeps.refl _ _
  · refine Keeps.ite ?_ ?_
    · refine Keeps.then ?_ (State.yokeEnds_keeps _ _ _ _ _) rfl
      exact Keeps.refl _ _
    · extract_lets +onlyGivenNames -merge -useContext left
      extract_lets +onlyGivenNames -merge -useContext s1
      extract_lets +onlyGivenNames -merge -useContext s1_2
      have keeps_s1_2 : Keeps 0xFFFFFFFF0000021D10BC0638 s s1_2 := by
        unfold s1_2
        refine Keeps.set_yoke ?_ rfl
        exact Keeps.refl _ _
      refine Keeps.ite ?_ ?_
      · refine Keeps.then ?_ (State.yokeFinish_keeps _ _) rfl
        exact keeps_s1_2
      · exact keeps_s1_2

theorem execYokeApply_keeps (seq : Nat) (pos : Nat) (s : State) : KeepsO 0x200000 s (execYokeApply seq pos s) := by
  unfold execYokeApply
  refine KeepsO.next ?_
  refine Keeps.ite ?_ ?_
  · exact Keeps.refl _ _
  · refine Keeps.set_yoke ?_ rfl
    exact Keeps.refl _ _

end Sys2Proof.Machine
end

