-- ==== Sys2Proof/Laws/KeepsRein.lean ====
section
/-! SUPPORT. Frames of the operations of Machine/Rein.lean: what each may change, one lemma each. -/

namespace Sys2Proof.Machine

theorem State.keyDrop_keeps (s : State) (k : Nat) : Keeps 0x10000000000000100608 s (State.keyDrop s k) := by
  unfold State.keyDrop
  refine Keeps.ite ?_ ?_
  · refine Keeps.then ?_ (State.ev_keeps _ _ _) (Sub.or rfl rfl)
    refine Keeps.then ?_ (State.inc_keeps _ _ _) (Sub.or rfl (Sub.blk .REI (by first | rfl | exact blk_ite rfl rfl) rfl))
    exact Keeps.refl _ _
  · refine Keeps.then ?_ (State.ev_keeps _ _ _) (Sub.or rfl rfl)
    refine Keeps.then ?_ (State.inc_keeps _ _ _) (Sub.or rfl (Sub.blk .REI (by first | rfl | exact blk_ite rfl rfl) rfl))
    exact Keeps.refl _ _

theorem State.crossDown_keeps (s : State) : Keeps 0x100000 s (State.crossDown s) := by
  unfold State.crossDown
  refine Keeps.set_rein ?_ rfl
  exact Keeps.refl _ _

theorem State.buckleShow_keeps (s : State) (c : Nat) (on : List Nat) : Keeps 0x20000000000000100008 s (State.buckleShow s c on) := by
  unfold State.buckleShow
  refine Keeps.fold ?_ (fun t1 y2 => ?_)
  · exact Keeps.refl _ _
  · extract_lets +onlyGivenNames -merge -useContext i
    extract_lets +onlyGivenNames -merge -useContext x
    extract_lets +onlyGivenNames -merge -useContext x3
    extract_lets +onlyGivenNames -merge -useContext x4
    have keeps_x4 : Keeps 0x20000000000000100008 t1 x4 := by
      unfold x4
      refine Keeps.set_rein ?_ rfl
      exact Keeps.refl _ _
    refine Keeps.then ?_ (State.wf_keeps _ _ _ _) (Sub.or rfl (Sub.blk .BKL (by first | rfl | exact blk_ite rfl rfl) rfl))
    refine Keeps.then ?_ (State.wf_keeps _ _ _ _) (Sub.or rfl (Sub.blk .BKL (by first | rfl | exact blk_ite rfl rfl) rfl))
    refine Keeps.then ?_ (State.wf_keeps _ _ _ _) (Sub.or rfl (Sub.blk .BKL (by first | rfl | exact blk_ite rfl rfl) rfl))
    refine Keeps.then ?_ (State.wf_keeps _ _ _ _) (Sub.or rfl (Sub.blk .BKL (by first | rfl | exact blk_ite rfl rfl) rfl))
    exact keeps_x4

theorem State.sinkOne_keeps {msk : Nat} (s : State) (c : Nat) (sink : Nat) (task : Nat) (all : Bool) (act : State → State) (hMsk : Sub 0x100000 msk) (hFun5 : ∀ z0, Keeps msk z0 (act z0)) :
    Keeps msk s (State.sinkOne s c sink task all act) := by
  unfold State.sinkOne
  extract_lets +onlyGivenNames -merge -useContext n
  refine Keeps.ite ?_ ?_
  · exact Keeps.refl _ _
  · refine Keeps.then ?_ (hFun5 _) (Sub.refl _)
    refine Keeps.then ?_ (State.taskTake_keeps _ _ _ _ _) (Sub.trans (by exact rfl) hMsk)
    exact Keeps.refl _ _

theorem State.engineSinks_keeps (s : State) (c : Nat) : Keeps 0x401910000000B00060100608 s (State.engineSinks s c) := by
  unfold State.engineSinks
  refine Keeps.fold ?_ (fun t1 y2 => ?_)
  · exact Keeps.refl _ _
  · refine Keeps.ite ?_ ?_
    · exact Keeps.refl _ _
    · refine Keeps.ite ?_ ?_
      · extract_lets +onlyGivenNames -merge -useContext t1_2
        have keeps_t1_2 : Keeps 0x401910000000B00060100608 t1 t1_2 := by
          unfold t1_2
          refine Keeps.then ?_ (State.sinkOne_keeps (msk := 0x401910000000B00060100608) _ _ _ _ _ _ (by exact rfl) (fun z13 => ?_)) (Sub.refl _)
          · exact Keeps.refl _ _
          · refine Keeps.ite ?_ ?_
            · refine Keeps.then ?_ (State.trigDue_keeps _ _ _) rfl
              exact Keeps.refl _ _
            · exact Keeps.refl _ _
        refine Keeps.then ?_ (State.sinkOne_keeps (msk := 0x401910000000B00060100608) _ _ _ _ _ _ (by exact rfl) (fun z33 => ?_)) (Sub.refl _)
        · exact keeps_t1_2
        · refine Keeps.then ?_ (State.actCamset_keeps _ _) rfl
          exact Keeps.refl _ _
      · refine Keeps.ite ?_ ?_
        · refine Keeps.then ?_ (State.sinkOne_keeps (msk := 0x401910000000B00060100608) _ _ _ _ _ _ (by exact rfl) (fun z53 => ?_)) (Sub.refl _)
          · exact Keeps.refl _ _
          · refine Keeps.then ?_ (State.actJobGo_keeps _ _) rfl
            exact Keeps.refl _ _
        · exact Keeps.refl _ _

theorem State.irqSink_keeps (s : State) (c : Nat) (i : Nat) : Keeps 0x10000000000100608 s (State.irqSink s c i) := by
  unfold State.irqSink
  refine Keeps.then ?_ (State.sinkOne_keeps (msk := 0x10000000000100608) _ _ _ _ _ _ (by exact rfl) (fun z1 => ?_)) (Sub.refl _)
  · exact Keeps.refl _ _
  · extract_lets +onlyGivenNames -merge -useContext f
    refine Keeps.then ?_ (State.edges_keeps _ _ _) rfl
    refine Keeps.then ?_ (State.wf_keeps _ _ _ _) (Sub.or rfl (Sub.blk .GLB (by first | rfl | exact blk_ite rfl rfl) rfl))
    exact Keeps.refl _ _

theorem State.fabricSinks_keeps (s : State) (c : Nat) : Keeps 0xFFFFFFFF0008021D1BBC0638 s (State.fabricSinks s c) := by
  unfold State.fabricSinks
  extract_lets +onlyGivenNames -merge -useContext s1
  have keeps_s1 : Keeps 0xFFFFFFFF0008021D1BBC0638 s s1 := by
    unfold s1
    refine Keeps.fold ?_ (fun t1 y2 => ?_)
    · exact Keeps.refl _ _
    · refine Keeps.ite ?_ ?_
      · refine Keeps.then ?_ (State.sinkOne_keeps (msk := 0xFFFFFFFF0008021D1BBC0638) _ _ _ _ _ _ (by exact rfl) (fun z13 => ?_)) (Sub.refl _)
        · exact Keeps.refl _ _
        · refine Keeps.then ?_ (State.dryGo_keeps _ _ _) rfl
          exact Keeps.refl _ _
      · exact Keeps.refl _ _
  extract_lets +onlyGivenNames -merge -useContext s2
  have keeps_s2 : Keeps 0xFFFFFFFF0008021D1BBC0638 s s2 := by
    unfold s2
    refine Keeps.fold ?_ (fun t23 y24 => ?_)
    · exact keeps_s1
    · refine Keeps.then ?_ (State.irqSink_keeps _ _ _) rfl
      exact Keeps.refl _ _
  refine Keeps.ite ?_ ?_
  · exact keeps_s2
  · extract_lets +onlyGivenNames -merge -useContext s3
    have keeps_s3 : Keeps 0xFFFFFFFF0008021D1BBC0638 s s3 := by
      unfold s3
      refine Keeps.fold ?_ (fun t25 y26 => ?_)
      · exact keeps_s2
      · refine Keeps.then ?_ (State.sinkOne_keeps (msk := 0xFFFFFFFF0008021D1BBC0638) _ _ _ _ _ _ (by exact rfl) (fun z37 => ?_)) (Sub.refl _)
        · exact Keeps.refl _ _
        · refine Keeps.then ?_ (State.gioStart_keeps _ _ _ _) rfl
          exact Keeps.refl _ _
    extract_lets +onlyGivenNames -merge -useContext s4
    have keeps_s4 : Keeps 0xFFFFFFFF0008021D1BBC0638 s s4 := by
      unfold s4
      refine Keeps.fold ?_ (fun t47 y48 => ?_)
      · exact keeps_s3
      · refine Keeps.then ?_ (State.sinkOne_keeps (msk := 0xFFFFFFFF0008021D1BBC0638) _ _ _ _ _ _ (by exact rfl) (fun z59 => ?_)) (Sub.refl _)
        · exact Keeps.refl _ _
        · refine Keeps.then ?_ (State.absRequest_keeps _ _) rfl
          exact Keeps.refl _ _
    extract_lets +onlyGivenNames -merge -useContext s5
    have keeps_s5 : Keeps 0xFFFFFFFF0008021D1BBC0638 s s5 := by
      unfold s5
      refine Keeps.fold ?_ (fun t69 y70 => ?_)
      · exact keeps_s4
      · refine Keeps.then ?_ (State.sinkOne_keeps (msk := 0xFFFFFFFF0008021D1BBC0638) _ _ _ _ _ _ (by exact rfl) (fun z81 => ?_)) (Sub.refl _)
        · exact Keeps.refl _ _
        · refine Keeps.then ?_ (State.capture_keeps _ _) rfl
          exact Keeps.refl _ _
    refine Keeps.then ?_ (State.sinkOne_keeps (msk := 0xFFFFFFFF0008021D1BBC0638) _ _ _ _ _ _ (by exact rfl) (fun z101 => ?_)) (Sub.refl _)
    · exact keeps_s5
    · refine Keeps.then ?_ (State.yokeSink_keeps _) rfl
      exact Keeps.refl _ _

theorem State.arrivals_keeps (s : State) (c : Nat) (on : List Nat) : Keeps 0x10000000000000100608 s (State.arrivals s c on) := by
  unfold State.arrivals
  extract_lets +onlyGivenNames -merge -useContext i
  refine Keeps.fold ?_ (fun t1 y2 => ?_)
  · exact Keeps.refl _ _
  · refine Keeps.then ?_ (State.taskAdd_keeps _ _ _ _ _) rfl
    exact Keeps.refl _ _

theorem State.watch_keeps (s : State) (on : List Nat) : Keeps 0x10000000000000000008 s (State.watch s on) := by
  unfold State.watch
  refine Keeps.fold ?_ (fun t1 y2 => ?_)
  · exact Keeps.refl _ _
  · extract_lets +onlyGivenNames -merge -useContext i
    extract_lets +onlyGivenNames -merge -useContext n
    refine Keeps.ite ?_ ?_
    · refine Keeps.then ?_ (State.wf_keeps _ _ _ _) (Sub.or rfl rfl)
      exact Keeps.refl _ _
    · refine Keeps.ite ?_ ?_
      · refine Keeps.then ?_ (State.wf_keeps _ _ _ _) (Sub.or rfl rfl)
        exact Keeps.refl _ _
      · refine Keeps.then ?_ (State.wf_keeps _ _ _ _) (Sub.or rfl rfl)
        exact Keeps.refl _ _

theorem State.trunkMove_keeps (s : State) : Keeps 0x10000000000000100608 s (State.trunkMove s).2 := by
  unfold State.trunkMove
  extract_lets +onlyGivenNames -merge -useContext moved
  extract_lets +onlyGivenNames -merge -useContext enter
  extract_lets +onlyGivenNames -merge -useContext x1
  extract_lets +onlyGivenNames -merge -useContext under
  extract_lets +onlyGivenNames -merge -useContext s1
  have keeps_s1 : Keeps 0x10000000000000100608 s s1 := by
    unfold s1
    refine Keeps.fold ?_ (fun t2 y3 => ?_)
    · exact Keeps.refl _ _
    · refine Keeps.then ?_ (State.keyDrop_keeps _ _) rfl
      exact Keeps.refl _ _
  extract_lets +onlyGivenNames -merge -useContext win
  dsimp only
  refine Keeps.set_rein ?_ rfl
  exact keeps_s1

theorem State.localMove_keeps (s : State) (c : Nat) : Keeps 0x30000000000000100608 s (State.localMove s c).2 := by
  unfold State.localMove
  extract_lets +onlyGivenNames -merge -useContext base
  extract_lets +onlyGivenNames -merge -useContext on
  extract_lets +onlyGivenNames -merge -useContext asked
  extract_lets +onlyGivenNames -merge -useContext s1
  have keeps_s1 : Keeps 0x30000000000000100608 s s1 := by
    unfold s1
    refine Keeps.fold ?_ (fun t1 y2 => ?_)
    · refine Keeps.then ?_ (State.buckleShow_keeps _ _ _) rfl
      exact Keeps.refl _ _
    · refine Keeps.then ?_ (State.keyDrop_keeps _ _) rfl
      exact Keeps.refl _ _
  dsimp only
  refine Keeps.set_rein ?_ rfl
  exact keeps_s1

theorem execReinCycle_keeps (s : State) : KeepsO 0xFFFFFFFF0008B21D7BBC0638 s (execReinCycle s) := by
  unfold execReinCycle
  refine KeepsO.next ?_
  extract_lets +onlyGivenNames -merge -useContext up
  refine Keeps.ite ?_ ?_
  · exact Keeps.refl _ _
  · extract_lets +onlyGivenNames -merge -useContext tr
    have keeps_tr : Keeps 0xFFFFFFFF0008B21D7BBC0638 s tr.2 := by
      unfold tr
      refine Keeps.then ?_ (State.trunkMove_keeps _) rfl
      exact Keeps.refl _ _
    extract_lets +onlyGivenNames -merge -useContext loc
    have keeps_loc : Keeps 0xFFFFFFFF0008B21D7BBC0638 s loc.2 := by
      unfold loc
      refine Keeps.fold_snd ?_ (fun t1 y2 => ?_)
      · exact keeps_tr
      · extract_lets +onlyGivenNames -merge -useContext r
        have keeps_r : Keeps 0xFFFFFFFF0008B21D7BBC0638 t1.snd r.2 := by
          unfold r
          refine Keeps.then ?_ (State.localMove_keeps _ _) rfl
          exact Keeps.refl _ _
        exact keeps_r
    extract_lets +onlyGivenNames -merge -useContext s1
    have keeps_s1 : Keeps 0xFFFFFFFF0008B21D7BBC0638 s s1 := by
      unfold s1
      refine Keeps.then ?_ (State.watch_keeps _ _) rfl
      refine Keeps.then ?_ (State.crossDown_keeps _) rfl
      exact keeps_loc
    extract_lets +onlyGivenNames -merge -useContext s2
    have keeps_s2 : Keeps 0xFFFFFFFF0008B21D7BBC0638 s s2 := by
      unfold s2
      refine Keeps.fold ?_ (fun t3 y4 => ?_)
      · exact keeps_s1
      · refine Keeps.then ?_ (State.fabricSinks_keeps _ _) rfl
        refine Keeps.then ?_ (State.engineSinks_keeps _ _) rfl
        exact Keeps.refl _ _
    extract_lets +onlyGivenNames -merge -useContext s3
    have keeps_s3 : Keeps 0xFFFFFFFF0008B21D7BBC0638 s s3 := by
      unfold s3
      refine Keeps.fold ?_ (fun t5 y6 => ?_)
      · exact keeps_s2
      · refine Keeps.then ?_ (State.arrivals_keeps _ _ _) rfl
        exact Keeps.refl _ _
    refine Keeps.set_rein ?_ rfl
    exact keeps_s3

theorem execReinSourceEvent_keeps (c : Nat) (src : Nat) (ev : Nat) (s : State) :
    KeepsO 0x10000000000000100008 s (execReinSourceEvent c src ev s) := by
  unfold execReinSourceEvent
  refine KeepsO.next ?_
  refine Keeps.ite ?_ ?_
  · exact Keeps.refl _ _
  · refine Keeps.then ?_ (State.reinRaise_keeps _ _ _ _ _) rfl
    exact Keeps.refl _ _

theorem execBuckleGlitchAccept_keeps (c : Nat) (b : Nat) (s : State) : KeepsO 0x100000 s (execBuckleGlitchAccept c b s) := by
  unfold execBuckleGlitchAccept
  refine KeepsO.next ?_
  extract_lets +onlyGivenNames -merge -useContext x
  refine Keeps.ite ?_ ?_
  · refine Keeps.set_rein ?_ rfl
    exact Keeps.refl _ _
  · exact Keeps.refl _ _

theorem execReinRateWindow_keeps (s : State) : KeepsO 0x100000 s (execReinRateWindow s) := by
  unfold execReinRateWindow
  refine KeepsO.next ?_
  refine Keeps.set_rein ?_ rfl
  exact Keeps.refl _ _

theorem State.reinDenied_keeps (s : State) (m : Nat) (c : Nat) (chan : Nat) (kind : Nat) (off : Nat) :
    Keeps 0x10010000000000140608 s (State.reinDenied s m c chan kind off) := by
  unfold State.reinDenied
  extract_lets +onlyGivenNames -merge -useContext i
  refine Keeps.then ?_ (State.gcode_keeps _ _ _ _) rfl
  refine Keeps.then ?_ (State.ev_keeps _ _ _) (Sub.or rfl rfl)
  refine Keeps.then ?_ (State.wf_keeps _ _ _ _) (Sub.or rfl rfl)
  refine Keeps.then ?_ (State.wf_keeps _ _ _ _) (Sub.or rfl rfl)
  refine Keeps.then ?_ (State.wf_keeps _ _ _ _) (Sub.or rfl rfl)
  exact Keeps.refl _ _

theorem State.actTrunkFire_keeps (s : State) (m : Nat) (w : Word) : Keeps 0x10010000000000140608 s (State.actTrunkFire s m w) := by
  unfold State.actTrunkFire
  split
  · refine Keeps.then ?_ (State.reinDenied_keeps _ _ _ _ _ _) rfl
    exact Keeps.refl _ _
  · refine Keeps.set_rein ?_ rfl
    exact Keeps.refl _ _

theorem execReinTrunkFire_keeps (m : Nat) (w : Word) (s : State) : KeepsO 0x10090000000000141608 s (execReinTrunkFire m w s) := by
  unfold execReinTrunkFire
  refine KeepsO.next ?_
  refine Keeps.then ?_ (State.regDo_keeps (msk := 0x10090000000000141608) _ _ _ _ _ _ (by exact rfl) (fun z1 => ?_)) (Sub.refl _)
  · exact Keeps.refl _ _
  · refine Keeps.then ?_ (State.actTrunkFire_keeps _ _ _) rfl
    exact Keeps.refl _ _

theorem execGioInputEdge_keeps (pin : Nat) (rising : Bool) (s : State) :
    KeepsO 0x1301000000000010800C s (execGioInputEdge pin rising s) := by
  unfold execGioInputEdge
  refine KeepsO.next ?_
  refine Keeps.ite ?_ ?_
  · exact Keeps.refl _ _
  · extract_lets +onlyGivenNames -merge -useContext s1
    extract_lets +onlyGivenNames -merge -useContext x1
    have keeps_x1 : Keeps 0x1301000000000010800C s x1 := by
      unfold x1
      refine Keeps.set_hw ?_ rfl
      exact Keeps.refl _ _
    extract_lets +onlyGivenNames -merge -useContext s2
    have keeps_s2 : Keeps 0x1301000000000010800C s s2 := by
      unfold s2
      refine Keeps.ite ?_ ?_
      · refine Keeps.then ?_ (State.wf_keeps _ _ _ _) (Sub.or rfl rfl)
        exact keeps_x1
      · exact keeps_x1
    refine Keeps.then ?_ (State.wakeSource_keeps _ _ _) rfl
    refine Keeps.then ?_ (State.reinRaise_keeps _ _ _ _ _) rfl
    exact keeps_s2

end Sys2Proof.Machine
end

