-- ==== Sys2Proof/Laws/KeepsBus.lean ====
section
/-! SUPPORT. Frames of the operations of Machine/Bus.lean: what each may change, one lemma each. -/

namespace Sys2Proof.Machine

theorem State.on_keeps {msk : Nat} (s : State) (b : Bool) (act : State → State) (_hMsk : Sub 0x0 msk) (hFun2 : ∀ z0, Keeps msk z0 (act z0)) :
    Keeps msk s (State.on s b act) := by
  unfold State.on
  refine Keeps.ite ?_ ?_
  · refine Keeps.then ?_ (hFun2 _) (Sub.refl _)
    exact Keeps.refl _ _
  · exact Keeps.refl _ _

theorem State.actEoi_keeps (s : State) (v : Nat) : Keeps 0x600 s (State.actEoi s v) := by
  unfold State.actEoi
  refine Keeps.ite ?_ ?_
  · refine Keeps.ite ?_ ?_
    · refine Keeps.then ?_ (State.sendVector_keeps _ _) rfl
      refine Keeps.set_irq ?_ rfl
      exact Keeps.refl _ _
    · refine Keeps.set_irq ?_ rfl
      exact Keeps.refl _ _
  · refine Keeps.ite ?_ ?_
    · refine Keeps.then ?_ (State.sendVector_keeps _ _) rfl
      exact Keeps.refl _ _
    · exact Keeps.refl _ _

theorem State.guardWrite_keeps (s : State) (m : Nat) (w : Word) : Keeps 0x10000000000000008 s (State.guardWrite s m w) := by
  unfold State.guardWrite
  refine Keeps.ite ?_ ?_
  · refine Keeps.then ?_ (State.wf_keeps _ _ _ _) (Sub.or rfl rfl)
    exact Keeps.refl _ _
  · refine Keeps.ite ?_ ?_
    · refine Keeps.then ?_ (State.wf_keeps _ _ _ _) (Sub.or rfl rfl)
      exact Keeps.refl _ _
    · exact Keeps.refl _ _

theorem State.glbWrite_keeps (s : State) (m : Nat) (l : Loc) (w : Word) :
    Keeps (0x50000000000000638 ||| blkBit (l.blk)) s (State.glbWrite s m l w) := by
  unfold State.glbWrite
  refine Keeps.ite ?_ ?_
  · refine Keeps.then ?_ (State.guardWrite_keeps _ _ _) (Sub.l rfl)
    exact Keeps.refl _ _
  · refine Keeps.ite ?_ ?_
    · refine Keeps.then ?_ (State.actEoi_keeps _ _) (Sub.l rfl)
      exact Keeps.refl _ _
    · refine Keeps.then ?_ (State.codeWrite_keeps _ _ _ _) (Sub.or (Sub.l rfl) (Sub.r _ _))
      exact Keeps.refl _ _

theorem State.hdrWrite_keeps (s : State) (m : Nat) (l : Loc) (w : Word) :
    Keeps (0x70000000000070638 ||| blkBit (l.blk)) s (State.hdrWrite s m l w) := by
  unfold State.hdrWrite
  refine Keeps.ite ?_ ?_
  · refine Keeps.then ?_ (State.actOrData_keeps _ _ _) (Sub.l rfl)
    exact Keeps.refl _ _
  · refine Keeps.ite ?_ ?_
    · refine Keeps.ite ?_ ?_
      · refine Keeps.then ?_ (State.keyRefused_keeps _ _ _) (Sub.l rfl)
        exact Keeps.refl _ _
      · extract_lets +onlyGivenNames -merge -useContext s1
        have keeps_s1 : Keeps ((0x70000000000070638 ||| blkBit (l.blk))) s s1 := by
          unfold s1
          refine Keeps.then ?_ (State.codeWrite_keeps _ _ _ _) (Sub.or (Sub.l rfl) (Sub.r _ _))
          exact Keeps.refl _ _
        refine Keeps.ite ?_ ?_
        · refine Keeps.then ?_ (State.on_keeps (msk := (0x70000000000070638 ||| blkBit (l.blk))) _ _ _ (by exact Sub.l rfl) (fun z1 => ?_)) (Sub.refl _)
          · refine Keeps.then ?_ (State.on_keeps (msk := (0x70000000000070638 ||| blkBit (l.blk))) _ _ _ (by exact Sub.l rfl) (fun z2 => ?_)) (Sub.refl _)
            · exact keeps_s1
            · refine Keeps.then ?_ (State.actEnrol_keeps _) (Sub.l rfl)
              exact Keeps.refl _ _
          · refine Keeps.then ?_ (State.actRevoke_keeps _) (Sub.l rfl)
            exact Keeps.refl _ _
        · exact keeps_s1
    · extract_lets +onlyGivenNames -merge -useContext s1
      have keeps_s1 : Keeps ((0x70000000000070638 ||| blkBit (l.blk))) s s1 := by
        unfold s1
        refine Keeps.then ?_ (State.codeWrite_keeps _ _ _ _) (Sub.or (Sub.l rfl) (Sub.r _ _))
        exact Keeps.refl _ _
      refine Keeps.ite ?_ ?_
      · refine Keeps.then ?_ (State.on_keeps (msk := (0x70000000000070638 ||| blkBit (l.blk))) _ _ _ (by exact Sub.l rfl) (fun z3 => ?_)) (Sub.refl _)
        · exact keeps_s1
        · refine Keeps.then ?_ (State.actOrClear_keeps _) (Sub.l rfl)
          exact Keeps.refl _ _
      · exact keeps_s1

theorem State.maskWrite_keeps (s : State) (m : Nat) (mb : Nat) (l : Loc) (w : Word) :
    Keeps (0x40000000000000638 ||| blkBit (l.blk)) s (State.maskWrite s m mb l w) := by
  unfold State.maskWrite
  extract_lets +onlyGivenNames -merge -useContext s1
  have keeps_s1 : Keeps ((0x40000000000000638 ||| blkBit (l.blk))) s s1 := by
    unfold s1
    refine Keeps.then ?_ (State.codeWrite_keeps _ _ _ _) (Sub.or (Sub.l rfl) (Sub.r _ _))
    exact Keeps.refl _ _
  extract_lets +onlyGivenNames -merge -useContext r
  extract_lets +onlyGivenNames -merge -useContext s2
  have keeps_s2 : Keeps ((0x40000000000000638 ||| blkBit (l.blk))) s s2 := by
    unfold s2
    refine Keeps.ite ?_ ?_
    · refine Keeps.then ?_ (State.emit_keeps _ _ _ _) (Sub.l rfl)
      exact keeps_s1
    · exact keeps_s1
  refine Keeps.then ?_ (State.edges_keeps _ _ _) (Sub.l rfl)
  exact keeps_s2

theorem State.pstWrite_keeps (s : State) (m : Nat) (l : Loc) (w : Word) :
    Keeps (0x10150000000000146638 ||| blkBit (l.blk)) s (State.pstWrite s m l w) := by
  unfold State.pstWrite
  extract_lets +onlyGivenNames -merge -useContext mb
  extract_lets +onlyGivenNames -merge -useContext o
  refine Keeps.ite ?_ ?_
  · refine Keeps.then ?_ (State.on_keeps (msk := (0x10150000000000146638 ||| blkBit (l.blk))) _ _ _ (by exact Sub.l rfl) (fun z1 => ?_)) (Sub.refl _)
    · refine Keeps.then ?_ (State.on_keeps (msk := (0x10150000000000146638 ||| blkBit (l.blk))) _ _ _ (by exact Sub.l rfl) (fun z2 => ?_)) (Sub.refl _)
      · refine Keeps.then ?_ (State.on_keeps (msk := (0x10150000000000146638 ||| blkBit (l.blk))) _ _ _ (by exact Sub.l rfl) (fun z3 => ?_)) (Sub.refl _)
        · exact Keeps.refl _ _
        · refine Keeps.then ?_ (State.actSend_keeps _ _ _) (Sub.l rfl)
          exact Keeps.refl _ _
      · refine Keeps.then ?_ (State.actTake_keeps _ _ _) (Sub.l rfl)
        exact Keeps.refl _ _
    · refine Keeps.then ?_ (State.actAbort_keeps _ _ _) (Sub.l rfl)
      exact Keeps.refl _ _
  · refine Keeps.ite ?_ ?_
    · refine Keeps.then ?_ (State.ringHorn_keeps _ _ _) (Sub.l rfl)
      exact Keeps.refl _ _
    · refine Keeps.ite ?_ ?_
      · refine Keeps.then ?_ (State.actHornClear_keeps _ _ _ _) (Sub.l rfl)
        exact Keeps.refl _ _
      · refine Keeps.ite ?_ ?_
        · refine Keeps.then ?_ (State.maskWrite_keeps _ _ _ _ _) (Sub.or (Sub.l rfl) (Sub.r _ _))
          exact Keeps.refl _ _
        · refine Keeps.ite ?_ ?_
          · refine Keeps.then ?_ (State.slotWrite_keeps _ _ _ _ _) (Sub.l rfl)
            exact Keeps.refl _ _
          · refine Keeps.then ?_ (State.codeWrite_keeps _ _ _ _) (Sub.or (Sub.l rfl) (Sub.r _ _))
            exact Keeps.refl _ _

theorem State.lchWrite_keeps (s : State) (m : Nat) (l : Loc) (w : Word) :
    Keeps (0x350000000000040638 ||| blkBit (l.blk)) s (State.lchWrite s m l w) := by
  unfold State.lchWrite
  extract_lets +onlyGivenNames -merge -useContext n
  refine Keeps.ite ?_ ?_
  · refine Keeps.then ?_ (State.codeWrite_keeps _ _ _ _) (Sub.or (Sub.l rfl) (Sub.r _ _))
    exact Keeps.refl _ _
  · refine Keeps.ite ?_ ?_
    · exact Keeps.refl _ _
    · refine Keeps.ite ?_ ?_
      · refine Keeps.then ?_ (State.pinRelease_keeps _ _ _) (Sub.l rfl)
        exact Keeps.refl _ _
      · refine Keeps.then ?_ (State.actForce_keeps _ _ _) (Sub.l rfl)
        exact Keeps.refl _ _

theorem State.tmtWrite_keeps (s : State) (m : Nat) (l : Loc) (w : Word) : Keeps 0xFFFFFFFF0000000000540638 s (State.tmtWrite s m l w) := by
  unfold State.tmtWrite
  extract_lets +onlyGivenNames -merge -useContext lane
  extract_lets +onlyGivenNames -merge -useContext a
  refine Keeps.ite ?_ ?_
  · refine Keeps.then ?_ (State.actTmtCmd_keeps _ _) rfl
    exact Keeps.refl _ _
  · refine Keeps.ite ?_ ?_
    · refine Keeps.set_tmt ?_ rfl
      exact Keeps.refl _ _
    · refine Keeps.ite ?_ ?_
      · refine Keeps.set_tmt ?_ rfl
        exact Keeps.refl _ _
      · refine Keeps.ite ?_ ?_
        · refine Keeps.then ?_ (State.codeWrite_keeps _ _ _ _) (Sub.or rfl (Sub.anyBlk _ rfl))
          exact Keeps.refl _ _
        · extract_lets +onlyGivenNames -merge -useContext s1
          have keeps_s1 : Keeps 0xFFFFFFFF0000000000540638 s s1 := by
            unfold s1
            refine Keeps.then ?_ (State.codeWrite_keeps _ _ _ _) (Sub.or rfl (Sub.anyBlk _ rfl))
            exact Keeps.refl _ _
          refine Keeps.ite ?_ ?_
          · refine Keeps.then ?_ (State.actLaunch_keeps _ _) rfl
            exact keeps_s1
          · refine Keeps.ite ?_ ?_
            · refine Keeps.then ?_ (State.gioShow_keeps _ _ _) rfl
              exact keeps_s1
            · exact keeps_s1

theorem State.wayWrite_keeps (s : State) (m : Nat) (l : Loc) (w : Word) :
    Keeps (0x10840000000000900638 ||| blkBit (l.blk)) s (State.wayWrite s m l w) := by
  unfold State.wayWrite
  extract_lets +onlyGivenNames -merge -useContext s1
  have keeps_s1 : Keeps ((0x10840000000000900638 ||| blkBit (l.blk))) s s1 := by
    unfold s1
    refine Keeps.then ?_ (State.codeWrite_keeps _ _ _ _) (Sub.or (Sub.l rfl) (Sub.r _ _))
    exact Keeps.refl _ _
  refine Keeps.ite ?_ ?_
  · refine Keeps.ite ?_ ?_
    · refine Keeps.then ?_ (State.actWayCmd_keeps _ _ _) (Sub.l rfl)
      exact keeps_s1
    · exact keeps_s1
  · extract_lets +onlyGivenNames -merge -useContext u
    refine Keeps.ite ?_ ?_
    · refine Keeps.then ?_ (State.actCmpCtl_keeps _ _ _) (Sub.l rfl)
      exact keeps_s1
    · refine Keeps.ite ?_ ?_
      · refine Keeps.then ?_ (State.actCmpPush_keeps _ _ _) (Sub.l rfl)
        exact keeps_s1
      · exact keeps_s1

theorem State.pwrWrite_keeps (s : State) (m : Nat) (l : Loc) (w : Word) :
    Keeps (0x1050000000000008038 ||| blkBit (l.blk)) s (State.pwrWrite s m l w) := by
  unfold State.pwrWrite
  refine Keeps.ite ?_ ?_
  · refine Keeps.ite ?_ ?_
    · exact Keeps.refl _ _
    · refine Keeps.fold ?_ (fun t1 y2 => ?_)
      · refine Keeps.then ?_ (State.codeWrite_keeps _ _ _ _) (Sub.or (Sub.l rfl) (Sub.r _ _))
        exact Keeps.refl _ _
      · refine Keeps.ite ?_ ?_
        · refine Keeps.then ?_ (State.wakeSource_keeps _ _ _) (Sub.l rfl)
          exact Keeps.refl _ _
        · exact Keeps.refl _ _
  · refine Keeps.then ?_ (State.codeWrite_keeps _ _ _ _) (Sub.or (Sub.l rfl) (Sub.r _ _))
    exact Keeps.refl _ _

theorem State.yokWrite_keeps (s : State) (m : Nat) (l : Loc) (w : Word) : Keeps 0xFFFFFFFF0000001D003C0638 s (State.yokWrite s m l w) := by
  unfold State.yokWrite
  extract_lets +onlyGivenNames -merge -useContext s1
  have keeps_s1 : Keeps 0xFFFFFFFF0000001D003C0638 s s1 := by
    unfold s1
    refine Keeps.then ?_ (State.codeWrite_keeps _ _ _ _) (Sub.or rfl (Sub.anyBlk _ rfl))
    exact Keeps.refl _ _
  refine Keeps.ite ?_ ?_
  · refine Keeps.then ?_ (State.on_keeps (msk := 0xFFFFFFFF0000001D003C0638) _ _ _ (by exact rfl) (fun z11 => ?_)) (Sub.refl _)
    · refine Keeps.then ?_ (State.on_keeps (msk := 0xFFFFFFFF0000001D003C0638) _ _ _ (by exact rfl) (fun z31 => ?_)) (Sub.refl _)
      · refine Keeps.then ?_ (State.on_keeps (msk := 0xFFFFFFFF0000001D003C0638) _ _ _ (by exact rfl) (fun z51 => ?_)) (Sub.refl _)
        · exact keeps_s1
        · refine Keeps.then ?_ (State.actYokeCancel_keeps _ _) rfl
          exact Keeps.refl _ _
      · refine Keeps.then ?_ (State.actYokeDiscard_keeps _ _) rfl
        exact Keeps.refl _ _
    · refine Keeps.then ?_ (State.actYokeRequest_keeps _ _) rfl
      exact Keeps.refl _ _
  · exact keeps_s1

theorem State.paiWrite_keeps (s : State) (m : Nat) (l : Loc) (w : Word) :
    Keeps (0x12450002000000540638 ||| blkBit (l.blk)) s (State.paiWrite s m l w) := by
  unfold State.paiWrite
  extract_lets +onlyGivenNames -merge -useContext s1
  have keeps_s1 : Keeps ((0x12450002000000540638 ||| blkBit (l.blk))) s s1 := by
    unfold s1
    refine Keeps.then ?_ (State.codeWrite_keeps _ _ _ _) (Sub.or (Sub.l rfl) (Sub.r _ _))
    exact Keeps.refl _ _
  refine Keeps.ite ?_ ?_
  · refine Keeps.then ?_ (State.on_keeps (msk := (0x12450002000000540638 ||| blkBit (l.blk))) _ _ _ (by exact Sub.l rfl) (fun z1 => ?_)) (Sub.refl _)
    · refine Keeps.then ?_ (State.on_keeps (msk := (0x12450002000000540638 ||| blkBit (l.blk))) _ _ _ (by exact Sub.l rfl) (fun z2 => ?_)) (Sub.refl _)
      · refine Keeps.then ?_ (State.on_keeps (msk := (0x12450002000000540638 ||| blkBit (l.blk))) _ _ _ (by exact Sub.l rfl) (fun z3 => ?_)) (Sub.refl _)
        · exact keeps_s1
        · refine Keeps.then ?_ (State.actSwitchover_keeps _) (Sub.l rfl)
          exact Keeps.refl _ _
      · refine Keeps.then ?_ (State.actDetach_keeps _) (Sub.l rfl)
        exact Keeps.refl _ _
    · refine Keeps.then ?_ (State.actRejoin_keeps _) (Sub.l rfl)
      exact Keeps.refl _ _
  · refine Keeps.ite ?_ ?_
    · refine Keeps.then ?_ (State.bypShow_keeps _) (Sub.l rfl)
      exact keeps_s1
    · exact keeps_s1

theorem State.lanWrite_keeps (s : State) (m : Nat) (l : Loc) (w : Word) : Keeps 0xFFFFFFFF00003005001C063A s (State.lanWrite s m l w) := by
  unfold State.lanWrite
  extract_lets +onlyGivenNames -merge -useContext n
  extract_lets +onlyGivenNames -merge -useContext s1
  have keeps_s1 : Keeps 0xFFFFFFFF00003005001C063A s s1 := by
    unfold s1
    refine Keeps.then ?_ (State.codeWrite_keeps _ _ _ _) (Sub.or rfl (Sub.anyBlk _ rfl))
    exact Keeps.refl _ _
  refine Keeps.ite ?_ ?_
  · refine Keeps.then ?_ (State.actLanCtl_keeps _ _ _) rfl
    exact keeps_s1
  · refine Keeps.ite ?_ ?_
    · refine Keeps.ite ?_ ?_
      · refine Keeps.then ?_ (State.laneFollow_keeps _ _) rfl
        exact keeps_s1
      · exact keeps_s1
    · refine Keeps.ite ?_ ?_
      · refine Keeps.then ?_ (State.on_keeps (msk := 0xFFFFFFFF00003005001C063A) _ _ _ (by exact rfl) (fun z11 => ?_)) (Sub.refl _)
        · exact keeps_s1
        · refine Keeps.then ?_ (State.actSetGo_keeps _ _) rfl
          exact Keeps.refl _ _
      · refine Keeps.ite ?_ ?_
        · refine Keeps.then ?_ (State.actPrbs_keeps _ _ _) rfl
          exact keeps_s1
        · exact keeps_s1

theorem State.fabWrite_keeps (s : State) (m : Nat) (l : Loc) (w : Word) : Keeps 0xFFFFFFFF000882053F1C0638 s (State.fabWrite s m l w) := by
  unfold State.fabWrite
  extract_lets +onlyGivenNames -merge -useContext i
  extract_lets +onlyGivenNames -merge -useContext c
  extract_lets +onlyGivenNames -merge -useContext s1
  have keeps_s1 : Keeps 0xFFFFFFFF000882053F1C0638 s s1 := by
    unfold s1
    refine Keeps.then ?_ (State.codeWrite_keeps _ _ _ _) (Sub.or rfl (Sub.anyBlk _ rfl))
    exact Keeps.refl _ _
  split
  · refine Keeps.ite ?_ ?_
    · refine Keeps.then ?_ (State.on_keeps (msk := 0xFFFFFFFF000882053F1C0638) _ _ _ (by exact rfl) (fun z11 => ?_)) (Sub.refl _)
      · exact keeps_s1
      · refine Keeps.then ?_ (State.actRemountGo_keeps _ _) rfl
        exact Keeps.refl _ _
    · refine Keeps.ite ?_ ?_
      · refine Keeps.fold ?_ (fun t21 y22 => ?_)
        · exact keeps_s1
        · refine Keeps.then ?_ (State.wf_keeps _ _ _ _) rfl
          exact Keeps.refl _ _
      · exact keeps_s1
  · refine Keeps.ite ?_ ?_
    · refine Keeps.then ?_ (State.on_keeps (msk := 0xFFFFFFFF000882053F1C0638) _ _ _ (by exact rfl) (fun z33 => ?_)) (Sub.refl _)
      · exact keeps_s1
      · refine Keeps.then ?_ (State.actMewFlush_keeps _ _ _) rfl
        exact Keeps.refl _ _
    · refine Keeps.ite ?_ ?_
      · refine Keeps.then ?_ (State.on_keeps (msk := 0xFFFFFFFF000882053F1C0638) _ _ _ (by exact rfl) (fun z53 => ?_)) (Sub.refl _)
        · exact keeps_s1
        · refine Keeps.then ?_ (State.actPeakClear_keeps _ _ _) rfl
          exact Keeps.refl _ _
      · exact keeps_s1
  · extract_lets +onlyGivenNames -merge -useContext s2
    have keeps_s2 : Keeps 0xFFFFFFFF000882053F1C0638 s s2 := by
      unfold s2
      refine Keeps.then ?_ (State.edges_keeps _ _ _) rfl
      exact keeps_s1
    refine Keeps.ite ?_ ?_
    · refine Keeps.then ?_ (State.actDry_keeps _ _ _ _) rfl
      exact keeps_s2
    · refine Keeps.ite ?_ ?_
      · refine Keeps.then ?_ (State.on_keeps (msk := 0xFFFFFFFF000882053F1C0638) _ _ _ (by exact rfl) (fun z73 => ?_)) (Sub.refl _)
        · exact keeps_s2
        · refine Keeps.then ?_ (State.wf_keeps _ _ _ _) (Sub.or rfl (Sub.blk .DRY (by first | rfl | exact blk_ite rfl rfl) rfl))
          exact Keeps.refl _ _
      · exact keeps_s2
  · refine Keeps.ite ?_ ?_
    · refine Keeps.then ?_ (State.on_keeps (msk := 0xFFFFFFFF000882053F1C0638) _ _ _ (by exact rfl) (fun z93 => ?_)) (Sub.refl _)
      · exact keeps_s1
      · refine Keeps.then ?_ (State.actClearStarve_keeps _ _) rfl
        exact Keeps.refl _ _
    · exact keeps_s1
  · refine Keeps.ite ?_ ?_
    · refine Keeps.then ?_ (State.actWwtCtl_keeps _ _ _) rfl
      exact keeps_s1
    · exact keeps_s1
  · refine Keeps.ite ?_ ?_
    · refine Keeps.then ?_ (State.actJobCtl_keeps _ _ _) rfl
      exact keeps_s1
    · exact keeps_s1
  · exact keeps_s1

theorem State.watchWrite_keeps (s : State) (m : Nat) (l : Loc) (w : Word) :
    Keeps (0x10050000000000140638 ||| blkBit (l.blk)) s (State.watchWrite s m l w) := by
  unfold State.watchWrite
  extract_lets +onlyGivenNames -merge -useContext lo
  extract_lets +onlyGivenNames -merge -useContext bad
  refine Keeps.ite ?_ ?_
  · extract_lets +onlyGivenNames -merge -useContext k
    refine Keeps.then ?_ (State.reinDenied_keeps _ _ _ _ _ _) (Sub.l rfl)
    exact Keeps.refl _ _
  · refine Keeps.then ?_ (State.codeWrite_keeps _ _ _ _) (Sub.or (Sub.l rfl) (Sub.r _ _))
    exact Keeps.refl _ _

theorem State.reroute_keeps (s : State) (m : Nat) (l : Loc) (w : Word) :
    Keeps (0x10050000000000140638 ||| blkBit (l.blk)) s (State.reroute s m l w) := by
  unfold State.reroute
  extract_lets +onlyGivenNames -merge -useContext c
  split
  · refine Keeps.then ?_ (State.reinDenied_keeps _ _ _ _ _ _) (Sub.l rfl)
    exact Keeps.refl _ _
  · refine Keeps.then ?_ (State.codeWrite_keeps _ _ _ _) (Sub.or (Sub.l rfl) (Sub.r _ _))
    exact Keeps.refl _ _

theorem State.reiWrite_keeps (s : State) (m : Nat) (l : Loc) (w : Word) :
    Keeps (0x10050000000000140638 ||| blkBit (l.blk)) s (State.reiWrite s m l w) := by
  unfold State.reiWrite
  refine Keeps.ite ?_ ?_
  · exact Keeps.refl _ _
  · refine Keeps.ite ?_ ?_
    · refine Keeps.then ?_ (State.watchWrite_keeps _ _ _ _) (Sub.or (Sub.l rfl) (Sub.r _ _))
      exact Keeps.refl _ _
    · refine Keeps.ite ?_ ?_
      · refine Keeps.then ?_ (State.actTrunkFire_keeps _ _ _) (Sub.l rfl)
        exact Keeps.refl _ _
      · refine Keeps.ite ?_ ?_
        · extract_lets +onlyGivenNames -merge -useContext k
          refine Keeps.ite ?_ ?_
          · refine Keeps.set_rein ?_ (Sub.l rfl)
            exact Keeps.refl _ _
          · exact Keeps.refl _ _
        · refine Keeps.ite ?_ ?_
          · refine Keeps.then ?_ (State.reroute_keeps _ _ _ _) (Sub.or (Sub.l rfl) (Sub.r _ _))
            exact Keeps.refl _ _
          · refine Keeps.then ?_ (State.codeWrite_keeps _ _ _ _) (Sub.or (Sub.l rfl) (Sub.r _ _))
            exact Keeps.refl _ _

theorem State.ingWrite_keeps (s : State) (m : Nat) (l : Loc) (w : Word) : Keeps 0xFFFFFFFF0000300040100638 s (State.ingWrite s m l w) := by
  unfold State.ingWrite
  extract_lets +onlyGivenNames -merge -useContext g
  extract_lets +onlyGivenNames -merge -useContext s1
  have keeps_s1 : Keeps 0xFFFFFFFF0000300040100638 s s1 := by
    unfold s1
    refine Keeps.then ?_ (State.codeWrite_keeps _ _ _ _) (Sub.or rfl (Sub.anyBlk _ rfl))
    exact Keeps.refl _ _
  refine Keeps.ite ?_ ?_
  · refine Keeps.then ?_ (State.on_keeps (msk := 0xFFFFFFFF0000300040100638) _ _ _ (by exact rfl) (fun z11 => ?_)) (Sub.refl _)
    · exact keeps_s1
    · refine Keeps.then ?_ (State.actCamset_keeps _ _) rfl
      exact Keeps.refl _ _
  · refine Keeps.ite ?_ ?_
    · refine Keeps.then ?_ (State.on_keeps (msk := 0xFFFFFFFF0000300040100638) _ _ _ (by exact rfl) (fun z31 => ?_)) (Sub.refl _)
      · exact keeps_s1
      · refine Keeps.then ?_ (State.actTunnel_keeps _ _) rfl
        exact Keeps.refl _ _
    · refine Keeps.ite ?_ ?_
      · refine Keeps.then ?_ (State.on_keeps (msk := 0xFFFFFFFF0000300040100638) _ _ _ (by exact rfl) (fun z51 => ?_)) (Sub.refl _)
        · exact keeps_s1
        · refine Keeps.then ?_ (State.actEvtPop_keeps _ _) rfl
          exact Keeps.refl _ _
      · exact keeps_s1

theorem State.tblWrite_keeps (s : State) (m : Nat) (l : Loc) (w : Word) (rga : Bool) :
    Keeps 0xFFFFFFFF0000000300100638 s (State.tblWrite s m l w rga) := by
  unfold State.tblWrite
  extract_lets +onlyGivenNames -merge -useContext g
  extract_lets +onlyGivenNames -merge -useContext s1
  have keeps_s1 : Keeps 0xFFFFFFFF0000000300100638 s s1 := by
    unfold s1
    refine Keeps.then ?_ (State.codeWrite_keeps _ _ _ _) (Sub.or rfl (Sub.anyBlk _ rfl))
    exact Keeps.refl _ _
  refine Keeps.ite ?_ ?_
  · refine Keeps.then ?_ (State.on_keeps (msk := 0xFFFFFFFF0000000300100638) _ _ _ (by exact rfl) (fun z11 => ?_)) (Sub.refl _)
    · refine Keeps.then ?_ (State.on_keeps (msk := 0xFFFFFFFF0000000300100638) _ _ _ (by exact rfl) (fun z31 => ?_)) (Sub.refl _)
      · exact keeps_s1
      · refine Keeps.then ?_ (State.actTblAbort_keeps _ _ _) rfl
        exact Keeps.refl _ _
    · refine Keeps.then ?_ (State.actTblLoad_keeps _ _ _) rfl
      exact Keeps.refl _ _
  · exact keeps_s1

theorem State.sprWrite_keeps (s : State) (m : Nat) (l : Loc) (w : Word) :
    Keeps (0x10040000000000100638 ||| blkBit (l.blk)) s (State.sprWrite s m l w) := by
  unfold State.sprWrite
  extract_lets +onlyGivenNames -merge -useContext s1
  have keeps_s1 : Keeps ((0x10040000000000100638 ||| blkBit (l.blk))) s s1 := by
    unfold s1
    refine Keeps.then ?_ (State.codeWrite_keeps _ _ _ _) (Sub.or (Sub.l rfl) (Sub.r _ _))
    exact Keeps.refl _ _
  refine Keeps.ite ?_ ?_
  · refine Keeps.then ?_ (State.on_keeps (msk := (0x10040000000000100638 ||| blkBit (l.blk))) _ _ _ (by exact Sub.l rfl) (fun z1 => ?_)) (Sub.refl _)
    · refine Keeps.then ?_ (State.on_keeps (msk := (0x10040000000000100638 ||| blkBit (l.blk))) _ _ _ (by exact Sub.l rfl) (fun z2 => ?_)) (Sub.refl _)
      · exact keeps_s1
      · refine Keeps.then ?_ (State.actSprTask_keeps _ _ _) (Sub.l rfl)
        exact Keeps.refl _ _
    · refine Keeps.then ?_ (State.actSprTask_keeps _ _ _) (Sub.l rfl)
      exact Keeps.refl _ _
  · exact keeps_s1

theorem State.cplWrite_keeps (s : State) (m : Nat) (l : Loc) (w : Word) :
    Keeps (0x40000000000000038 ||| blkBit (l.blk)) s (State.cplWrite s m l w) := by
  unfold State.cplWrite
  refine Keeps.ite ?_ ?_
  · exact Keeps.refl _ _
  · refine Keeps.then ?_ (State.codeWrite_keeps _ _ _ _) (Sub.or (Sub.l rfl) (Sub.r _ _))
    exact Keeps.refl _ _

theorem State.dbmWrite_keeps (s : State) (m : Nat) (l : Loc) (w : Word) :
    Keeps (0x80000040000020000000438 ||| blkBit ((ackReg (6 * (l.inst / 32) + (l.off - 768) / 16)).2.blk) ||| blkBit (l.blk)) s (State.dbmWrite s m l w) := by
  unfold State.dbmWrite
  extract_lets +onlyGivenNames -merge -useContext g
  refine Keeps.ite ?_ ?_
  · exact Keeps.refl _ _
  · refine Keeps.ite ?_ ?_
    · refine Keeps.ite ?_ ?_
      · exact Keeps.refl _ _
      · refine Keeps.ite ?_ ?_
        · refine Keeps.then ?_ (State.actAckLow_keeps _ _ _) (Sub.l (Sub.l rfl))
          exact Keeps.refl _ _
        · refine Keeps.ite ?_ ?_
          · refine Keeps.then ?_ (State.actAck_keeps _ _ _) (Sub.or (Sub.l (Sub.l rfl)) (Sub.l (Sub.r _ _)))
            exact Keeps.refl _ _
          · refine Keeps.then ?_ (State.codeWrite_keeps _ _ _ _) (Sub.or (Sub.l (Sub.l rfl)) (Sub.r _ _))
            exact Keeps.refl _ _
    · refine Keeps.ite ?_ ?_
      · refine Keeps.then ?_ (State.actAckLow_keeps _ _ _) (Sub.l (Sub.l rfl))
        exact Keeps.refl _ _
      · refine Keeps.ite ?_ ?_
        · refine Keeps.then ?_ (State.actAck_keeps _ _ _) (Sub.or (Sub.l (Sub.l rfl)) (Sub.l (Sub.l rfl)))
          exact Keeps.refl _ _
        · refine Keeps.then ?_ (State.codeWrite_keeps _ _ _ _) (Sub.or (Sub.l (Sub.l rfl)) (Sub.r _ _))
          exact Keeps.refl _ _

theorem State.writeAt_keeps {msk : Nat} (top : State → Nat → Loc → Word → State) (s : State) (m : Nat) (l : Loc) (w : Word) (hMsk : Sub 0xFFFFFFFF000AB21F7FFFF63A msk)
    (hFun0 : ∀ z0 z1 z2 z3, Keeps msk z0 (top z0 z1 z2 z3)) : Keeps msk s (State.writeAt top s m l w) := by
  unfold State.writeAt
  split
  · refine Keeps.then ?_ (State.glbWrite_keeps _ _ _ _) (Sub.trans (by exact Sub.or rfl (Sub.anyBlk _ rfl)) hMsk)
    exact Keeps.refl _ _
  · refine Keeps.ite ?_ ?_
    · refine Keeps.then ?_ (hFun0 _ _ _ _) (Sub.refl _)
      refine Keeps.then ?_ (State.codeWrite_keeps _ _ _ _) (Sub.trans (by exact Sub.or rfl (Sub.anyBlk _ rfl)) hMsk)
      exact Keeps.refl _ _
    · refine Keeps.then ?_ (State.hdrWrite_keeps _ _ _ _) (Sub.trans (by exact Sub.or rfl (Sub.anyBlk _ rfl)) hMsk)
      exact Keeps.refl _ _
  · refine Keeps.then ?_ (State.yokWrite_keeps _ _ _ _) (Sub.trans (by exact rfl) hMsk)
    exact Keeps.refl _ _
  · refine Keeps.then ?_ (State.pstWrite_keeps _ _ _ _) (Sub.trans (by exact Sub.or rfl (Sub.anyBlk _ rfl)) hMsk)
    exact Keeps.refl _ _
  · refine Keeps.then ?_ (State.lchWrite_keeps _ _ _ _) (Sub.trans (by exact Sub.or rfl (Sub.anyBlk _ rfl)) hMsk)
    exact Keeps.refl _ _
  · refine Keeps.then ?_ (State.tmtWrite_keeps _ _ _ _) (Sub.trans (by exact rfl) hMsk)
    exact Keeps.refl _ _
  · refine Keeps.then ?_ (State.wayWrite_keeps _ _ _ _) (Sub.trans (by exact Sub.or rfl (Sub.anyBlk _ rfl)) hMsk)
    exact Keeps.refl _ _
  · refine Keeps.ite ?_ ?_
    · refine Keeps.then ?_ (hFun0 _ _ _ _) (Sub.refl _)
      refine Keeps.then ?_ (State.codeWrite_keeps _ _ _ _) (Sub.trans (by exact Sub.or rfl (Sub.anyBlk _ rfl)) hMsk)
      exact Keeps.refl _ _
    · refine Keeps.ite ?_ ?_
      · refine Keeps.then ?_ (hFun0 _ _ _ _) (Sub.refl _)
        exact Keeps.refl _ _
      · refine Keeps.then ?_ (State.pwrWrite_keeps _ _ _ _) (Sub.trans (by exact Sub.or rfl (Sub.anyBlk _ rfl)) hMsk)
        exact Keeps.refl _ _
  · refine Keeps.then ?_ (State.paiWrite_keeps _ _ _ _) (Sub.trans (by exact Sub.or rfl (Sub.anyBlk _ rfl)) hMsk)
    exact Keeps.refl _ _
  · refine Keeps.then ?_ (State.lanWrite_keeps _ _ _ _) (Sub.trans (by exact rfl) hMsk)
    exact Keeps.refl _ _
  · refine Keeps.then ?_ (State.fabWrite_keeps _ _ _ _) (Sub.trans (by exact rfl) hMsk)
    exact Keeps.refl _ _
  · refine Keeps.then ?_ (State.fabWrite_keeps _ _ _ _) (Sub.trans (by exact rfl) hMsk)
    exact Keeps.refl _ _
  · refine Keeps.then ?_ (State.fabWrite_keeps _ _ _ _) (Sub.trans (by exact rfl) hMsk)
    exact Keeps.refl _ _
  · refine Keeps.then ?_ (State.fabWrite_keeps _ _ _ _) (Sub.trans (by exact rfl) hMsk)
    exact Keeps.refl _ _
  · refine Keeps.then ?_ (State.fabWrite_keeps _ _ _ _) (Sub.trans (by exact rfl) hMsk)
    exact Keeps.refl _ _
  · refine Keeps.then ?_ (State.fabWrite_keeps _ _ _ _) (Sub.trans (by exact rfl) hMsk)
    exact Keeps.refl _ _
  · refine Keeps.then ?_ (State.reiWrite_keeps _ _ _ _) (Sub.trans (by exact Sub.or rfl (Sub.anyBlk _ rfl)) hMsk)
    exact Keeps.refl _ _
  · refine Keeps.ite ?_ ?_
    · refine Keeps.then ?_ (State.reroute_keeps _ _ _ _) (Sub.trans (by exact Sub.or rfl (Sub.anyBlk _ rfl)) hMsk)
      exact Keeps.refl _ _
    · refine Keeps.then ?_ (State.codeWrite_keeps _ _ _ _) (Sub.trans (by exact Sub.or rfl (Sub.anyBlk _ rfl)) hMsk)
      exact Keeps.refl _ _
  · refine Keeps.then ?_ (State.ingWrite_keeps _ _ _ _) (Sub.trans (by exact rfl) hMsk)
    exact Keeps.refl _ _
  · refine Keeps.then ?_ (State.tblWrite_keeps _ _ _ _ _) (Sub.trans (by exact rfl) hMsk)
    exact Keeps.refl _ _
  · refine Keeps.then ?_ (State.tblWrite_keeps _ _ _ _ _) (Sub.trans (by exact rfl) hMsk)
    exact Keeps.refl _ _
  · refine Keeps.then ?_ (State.sprWrite_keeps _ _ _ _) (Sub.trans (by exact Sub.or rfl (Sub.anyBlk _ rfl)) hMsk)
    exact Keeps.refl _ _
  · refine Keeps.then ?_ (State.cplWrite_keeps _ _ _ _) (Sub.trans (by exact Sub.or rfl (Sub.anyBlk _ rfl)) hMsk)
    exact Keeps.refl _ _
  · refine Keeps.then ?_ (State.dbmWrite_keeps _ _ _ _) (Sub.trans (by exact Sub.or (Sub.or rfl (Sub.anyBlk _ rfl)) (Sub.anyBlk _ rfl)) hMsk)
    exact Keeps.refl _ _
  · refine Keeps.then ?_ (State.codeWrite_keeps _ _ _ _) (Sub.trans (by exact Sub.or rfl (Sub.anyBlk _ rfl)) hMsk)
    exact Keeps.refl _ _
  · refine Keeps.then ?_ (State.codeWrite_keeps _ _ _ _) (Sub.trans (by exact Sub.or rfl (Sub.anyBlk _ rfl)) hMsk)
    exact Keeps.refl _ _
  · refine Keeps.then ?_ (State.codeWrite_keeps _ _ _ _) (Sub.trans (by exact Sub.or rfl (Sub.anyBlk _ rfl)) hMsk)
    exact Keeps.refl _ _
  · refine Keeps.then ?_ (State.codeWrite_keeps _ _ _ _) (Sub.trans (by exact Sub.or rfl (Sub.anyBlk _ rfl)) hMsk)
    exact Keeps.refl _ _
  · refine Keeps.then ?_ (State.codeWrite_keeps _ _ _ _) (Sub.trans (by exact Sub.or rfl (Sub.anyBlk _ rfl)) hMsk)
    exact Keeps.refl _ _
  · refine Keeps.then ?_ (State.codeWrite_keeps _ _ _ _) (Sub.trans (by exact Sub.or rfl (Sub.anyBlk _ rfl)) hMsk)
    exact Keeps.refl _ _
  · refine Keeps.then ?_ (State.codeWrite_keeps _ _ _ _) (Sub.trans (by exact Sub.or rfl (Sub.anyBlk _ rfl)) hMsk)
    exact Keeps.refl _ _
  · refine Keeps.then ?_ (State.codeWrite_keeps _ _ _ _) (Sub.trans (by exact Sub.or rfl (Sub.anyBlk _ rfl)) hMsk)
    exact Keeps.refl _ _

theorem State.stagedAt_keeps (s : State) (m : Nat) (l : Loc) (w : Word) : Keeps 0x10050000000000140638 s (State.stagedAt s m l w) := by
  unfold State.stagedAt
  refine Keeps.ite ?_ ?_
  · refine Keeps.ite ?_ ?_
    · exact Keeps.refl _ _
    · extract_lets +onlyGivenNames -merge -useContext c
      split
      · refine Keeps.then ?_ (State.reinDenied_keeps _ _ _ _ _ _) rfl
        exact Keeps.refl _ _
      · refine Keeps.then ?_ (State.stageWrite_keeps _ _ _ _) rfl
        exact Keeps.refl _ _
  · refine Keeps.ite ?_ ?_
    · exact Keeps.refl _ _
    · refine Keeps.ite ?_ ?_
      · exact Keeps.refl _ _
      · refine Keeps.then ?_ (State.stageWrite_keeps _ _ _ _) rfl
        exact Keeps.refl _ _

theorem State.busWriteWith_keeps {msk : Nat} (top : State → Nat → Loc → Word → State) (s : State) (m : Nat) (off : Nat) (w : Word) (hMsk : Sub 0xFFFFFFFF000AB21F7FFFF63A msk) (hFun0 : ∀ z0 z1 z2 z3, Keeps msk z0 (top z0 z1 z2 z3)) :
    Keeps msk s (State.busWriteWith top s m off w).1 := by
  unfold State.busWriteWith
  extract_lets +onlyGivenNames -merge -useContext staged
  extract_lets +onlyGivenNames -merge -useContext a
  refine Keeps.ite_fst ?_ ?_
  · split
    · dsimp only
      refine Keeps.then ?_ (State.guardRefuses_keeps _ _ _) (Sub.trans (by exact rfl) hMsk)
      exact Keeps.refl _ _
    · dsimp only
      refine Keeps.then ?_ (State.hold_keeps _ _ _ _ _) (Sub.trans (by exact rfl) hMsk)
      exact Keeps.refl _ _
    · dsimp only
      exact Keeps.refl _ _
  · split
    · dsimp only
      refine Keeps.then ?_ (State.unoccupied_keeps _ _ _) (Sub.trans (by exact rfl) hMsk)
      exact Keeps.refl _ _
    · refine Keeps.ite_fst ?_ ?_
      · dsimp only
        refine Keeps.then ?_ (State.unoccupied_keeps _ _ _) (Sub.trans (by exact rfl) hMsk)
        exact Keeps.refl _ _
      · split
        · dsimp only
          refine Keeps.then ?_ (State.guardRefuses_keeps _ _ _) (Sub.trans (by exact rfl) hMsk)
          exact Keeps.refl _ _
        · dsimp only
          refine Keeps.then ?_ (State.hold_keeps _ _ _ _ _) (Sub.trans (by exact rfl) hMsk)
          exact Keeps.refl _ _
        · dsimp only
          refine Keeps.ite ?_ ?_
          · refine Keeps.then ?_ (State.stagedAt_keeps _ _ _ _) (Sub.trans (by exact rfl) hMsk)
            exact Keeps.refl _ _
          · refine Keeps.then ?_ (State.writeAt_keeps (msk := msk) _ _ _ _ _ hMsk (fun z1 z2 z3 z4 => ?_)) (Sub.refl _)
            · exact Keeps.refl _ _
            · refine Keeps.then ?_ (hFun0 _ _ _ _) (Sub.refl _)
              exact Keeps.refl _ _

end Sys2Proof.Machine
end

