-- ==== Sys2Proof/Laws/KeepsGain.lean ====
section
/-! SUPPORT. Frames of the operations of Machine/Gain.lean: what each may change, one lemma each. -/

namespace Sys2Proof.Machine

theorem State.gainClear_keeps (s : State) (g : Nat) : Keeps 0x100000000 s (State.gainClear s g) := by
  unfold State.gainClear
  refine Keeps.then ?_ (State.truMod_keeps _ _ _) rfl
  exact Keeps.refl _ _

theorem State.gainJudge_keeps (s : State) (g : Nat) (ident : Nat) (a : List (List Nat)) (b : List (List Nat)) :
    Keeps 0x2410000000000D001C0608 s (State.gainJudge s g ident a b) := by
  unfold State.gainJudge
  extract_lets +onlyGivenNames -merge -useContext w
  extract_lets +onlyGivenNames -merge -useContext ps
  extract_lets +onlyGivenNames -merge -useContext l1
  extract_lets +onlyGivenNames -merge -useContext l2
  extract_lets +onlyGivenNames -merge -useContext ok
  extract_lets +onlyGivenNames -merge -useContext q1
  extract_lets +onlyGivenNames -merge -useContext q2
  refine Keeps.ite ?_ ?_
  · refine Keeps.then ?_ (State.wwtReject_keeps _ _ _ _ _ _ _) rfl
    exact Keeps.refl _ _
  · extract_lets +onlyGivenNames -merge -useContext ks
    extract_lets +onlyGivenNames -merge -useContext s1
    have keeps_s1 : Keeps 0x2410000000000D001C0608 s s1 := by
      unfold s1
      refine Keeps.fold ?_ (fun t1 y2 => ?_)
      · exact Keeps.refl _ _
      · refine Keeps.then ?_ (State.wf_keeps _ _ _ _) (Sub.or rfl (Sub.blk .TRU (by first | rfl | exact blk_ite rfl rfl) rfl))
        exact Keeps.refl _ _
    extract_lets +onlyGivenNames -merge -useContext s2
    have keeps_s2 : Keeps 0x2410000000000D001C0608 s s2 := by
      unfold s2
      refine Keeps.then ?_ (State.inc_keeps _ _ _) rfl
      refine Keeps.then ?_ (State.wf_keeps _ _ _ _) rfl
      exact keeps_s1
    extract_lets +onlyGivenNames -merge -useContext s3
    have keeps_s3 : Keeps 0x2410000000000D001C0608 s s3 := by
      unfold s3
      refine Keeps.set_gain ?_ rfl
      exact keeps_s2
    refine Keeps.ite ?_ ?_
    · refine Keeps.then ?_ (State.emit_keeps _ _ _ _) rfl
      exact keeps_s3
    · exact keeps_s3

theorem execGainRunComplete_keeps (g : Nat) (s : State) : KeepsO 0x2410000000000D001C0608 s (execGainRunComplete g s) := by
  unfold execGainRunComplete
  refine KeepsO.next ?_
  refine Keeps.ite ?_ ?_
  · exact Keeps.refl _ _
  · split
    · refine Keeps.then ?_ (State.gainJudge_keeps _ _ _ _ _) rfl
      refine Keeps.then ?_ (State.gainClear_keeps _ _) rfl
      exact Keeps.refl _ _
    · refine Keeps.ite ?_ ?_
      · refine Keeps.then ?_ (State.wwtReject_keeps _ _ _ _ _ _ _) rfl
        refine Keeps.then ?_ (State.gainClear_keeps _ _) rfl
        exact Keeps.refl _ _
      · exact Keeps.refl _ _

theorem execGainRebuild_keeps (g : Nat) (s : State) : KeepsO 0x6200000008000B0300000A s (execGainRebuild g s) := by
  unfold execGainRebuild
  refine KeepsO.next ?_
  split
  · exact Keeps.refl _ _
  · refine Keeps.ite ?_ ?_
    · exact Keeps.refl _ _
    · extract_lets +onlyGivenNames -merge -useContext w
      extract_lets +onlyGivenNames -merge -useContext bank
      extract_lets +onlyGivenNames -merge -useContext ident
      extract_lets +onlyGivenNames -merge -useContext image
      extract_lets +onlyGivenNames -merge -useContext s1
      have keeps_s1 : Keeps 0x6200000008000B0300000A s s1 := by
        unfold s1
        refine Keeps.set_freeCtr ?_ rfl ?_
        · exact Keeps.refl _ _
        · exact Nat.le_trans (Nat.le_add_right _ _) (Nat.le_add_right _ _)
      extract_lets +onlyGivenNames -merge -useContext a
      extract_lets +onlyGivenNames -merge -useContext s2
      have keeps_s2 : Keeps 0x6200000008000B0300000A s s2 := by
        unfold s2
        refine Keeps.then ?_ (State.wf_keeps _ _ _ _) rfl
        refine Keeps.then ?_ (State.wf_keeps _ _ _ _) rfl
        refine Keeps.then ?_ (State.wf_keeps _ _ _ _) rfl
        refine Keeps.then ?_ (State.dramPut_keeps _ _ _ _) rfl
        refine Keeps.then ?_ (State.drawn_keeps _) rfl
        exact keeps_s1
      refine Keeps.then ?_ (State.tblStart_keeps _ _ _ _) rfl
      refine Keeps.set_gain ?_ rfl
      exact keeps_s2

theorem execGainCommitStage_keeps (g : Nat) (s : State) : KeepsO 0x2410040000001D003C0638 s (execGainCommitStage g s) := by
  unfold execGainCommitStage
  refine KeepsO.next ?_
  split
  · exact Keeps.refl _ _
  · refine Keeps.ite ?_ ?_
    · exact Keeps.refl _ _
    · extract_lets +onlyGivenNames -merge -useContext w
      extract_lets +onlyGivenNames -merge -useContext r
      extract_lets +onlyGivenNames -merge -useContext s1
      have keeps_s1 : Keeps 0x2410040000001D003C0638 s s1 := by
        unfold s1
        refine Keeps.then ?_ (State.wf_keeps _ _ _ _) rfl
        exact Keeps.refl _ _
      extract_lets +onlyGivenNames -merge -useContext s1_2
      have keeps_s1_2 : Keeps 0x2410040000001D003C0638 s s1_2 := by
        unfold s1_2
        refine Keeps.set_gain ?_ rfl
        exact keeps_s1
      extract_lets +onlyGivenNames -merge -useContext valid
      refine Keeps.ite ?_ ?_
      · refine Keeps.then ?_ (State.wwtCommitted_keeps _ _ _) rfl
        exact keeps_s1_2
      · refine Keeps.then ?_ (State.wwtRequestCommit_keeps _ _ _ _) rfl
        refine Keeps.then ?_ (State.wwtStage_keeps _ _ _ _) rfl
        exact keeps_s1_2

theorem execGainWaitTimeout_keeps (g : Nat) (s : State) : KeepsO 0x410000000001D001C0608 s (execGainWaitTimeout g s) := by
  unfold execGainWaitTimeout
  refine KeepsO.next ?_
  split
  · exact Keeps.refl _ _
  · refine Keeps.ite ?_ ?_
    · refine Keeps.then ?_ (State.wwtCommitted_keeps _ _ _) rfl
      exact Keeps.refl _ _
    · exact Keeps.refl _ _

theorem execCalib_keeps (g : Nat) (ks : List Nat) (s : State) : KeepsO 0x2000000000000800000008 s (execCalib g ks s) := by
  unfold execCalib
  refine KeepsO.next ?_
  refine Keeps.ite ?_ ?_
  · extract_lets +onlyGivenNames -merge -useContext w
    extract_lets +onlyGivenNames -merge -useContext s1
    have keeps_s1 : Keeps 0x2000000000000800000008 s s1 := by
      unfold s1
      refine Keeps.fold ?_ (fun t1 y2 => ?_)
      · exact Keeps.refl _ _
      · refine Keeps.then ?_ (State.wf_keeps _ _ _ _) (Sub.or rfl (Sub.blk .TRU (by first | rfl | exact blk_ite rfl rfl) rfl))
        exact Keeps.refl _ _
    refine Keeps.set_gain ?_ rfl
    exact keeps_s1
  · exact Keeps.refl _ _

end Sys2Proof.Machine
end

