-- ==== Sys2Proof/Laws/KeepsRga.lean ====
section
/-! SUPPORT. Frames of the operations of Machine/Rga.lean: what each may change, one lemma each. -/

namespace Sys2Proof.Machine

theorem State.rgaApply_keeps (s : State) (g : Nat) (y : Int) : Keeps 0xFFFFFFFF0000000000300618 s (State.rgaApply s g y) := by
  unfold State.rgaApply
  extract_lets +onlyGivenNames -merge -useContext w
  extract_lets +onlyGivenNames -merge -useContext t
  have keeps_t : Keeps 0xFFFFFFFF0000000000300618 s t := by
    unfold t
    refine Keeps.then ?_ (State.armedAt_keeps _ _ _ _) rfl
    exact Keeps.refl _ _
  refine Keeps.then ?_ (State.evIf_keeps _ _ _ _) (Sub.or rfl rfl)
  exact keeps_t

theorem State.rgaBad_keeps (s : State) (g : Nat) (φ : Nat) (bilinear : Bool) :
    Keeps 0x401000000000000010060A s (State.rgaBad s g φ bilinear) := by
  unfold State.rgaBad
  extract_lets +onlyGivenNames -merge -useContext w
  extract_lets +onlyGivenNames -merge -useContext b
  refine Keeps.ite ?_ ?_
  · exact Keeps.refl _ _
  · extract_lets +onlyGivenNames -merge -useContext incs
    extract_lets +onlyGivenNames -merge -useContext src
    extract_lets +onlyGivenNames -merge -useContext half
    extract_lets +onlyGivenNames -merge -useContext cds
    extract_lets +onlyGivenNames -merge -useContext mds
    extract_lets +onlyGivenNames -merge -useContext n
    refine Keeps.then ?_ (State.evIf_keeps _ _ _ _) rfl
    refine Keeps.then ?_ (State.add_keeps _ _ _ _) rfl
    refine Keeps.set_freeCtr ?_ rfl ?_
    · exact Keeps.refl _ _
    · exact Nat.le_succ _

theorem State.heldOut_keeps (s : State) (g : Nat) (m : Nat) : Keeps 0x110000000008220100608 s (State.heldOut s g m) := by
  unfold State.heldOut
  extract_lets +onlyGivenNames -merge -useContext r
  refine Keeps.fold ?_ (fun t1 y2 => ?_)
  · refine Keeps.then ?_ (State.rgaMod_keeps _ _ _) rfl
    exact Keeps.refl _ _
  · refine Keeps.then ?_ (State.coupled_keeps _ _ _ _) rfl
    exact Keeps.refl _ _

theorem State.heldAll_keeps (s : State) (g : Nat) : Keeps 0x110000000008220100608 s (State.heldAll s g) := by
  unfold State.heldAll
  extract_lets +onlyGivenNames -merge -useContext r
  refine Keeps.fold ?_ (fun t1 y2 => ?_)
  · refine Keeps.then ?_ (State.rgaMod_keeps _ _ _) rfl
    exact Keeps.refl _ _
  · refine Keeps.then ?_ (State.coupled_keeps _ _ _ _) rfl
    exact Keeps.refl _ _

theorem State.emitGrid_keeps (s : State) (g : Nat) (m : Nat) (n : Nat) (ended : Bool) :
    Keeps 0xFFFFFFFF000000822030061A s (State.emitGrid s g m n ended) := by
  unfold State.emitGrid
  extract_lets +onlyGivenNames -merge -useContext y
  extract_lets +onlyGivenNames -merge -useContext w
  extract_lets +onlyGivenNames -merge -useContext s0
  have keeps_s0 : Keeps 0xFFFFFFFF000000822030061A s s0 := by
    unfold s0
    refine Keeps.then ?_ (State.rgaApply_keeps _ _ _) rfl
    refine Keeps.then ?_ (State.heldOut_keeps _ _ _) rfl
    exact Keeps.refl _ _
  extract_lets +onlyGivenNames -merge -useContext r
  split
  · exact keeps_s0
  · extract_lets +onlyGivenNames -merge -useContext nx
    extract_lets +onlyGivenNames -merge -useContext d
    extract_lets +onlyGivenNames -merge -useContext f
    extract_lets +onlyGivenNames -merge -useContext dt
    extract_lets +onlyGivenNames -merge -useContext xp
    extract_lets +onlyGivenNames -merge -useContext b
    extract_lets +onlyGivenNames -merge -useContext bad
    extract_lets +onlyGivenNames -merge -useContext near
    extract_lets +onlyGivenNames -merge -useContext coef
    extract_lets +onlyGivenNames -merge -useContext taps
    extract_lets +onlyGivenNames -merge -useContext mids
    extract_lets +onlyGivenNames -merge -useContext shape
    extract_lets +onlyGivenNames -merge -useContext raw
    extract_lets +onlyGivenNames -merge -useContext clamped
    extract_lets +onlyGivenNames -merge -useContext made
    extract_lets +onlyGivenNames -merge -useContext or_
    extract_lets +onlyGivenNames -merge -useContext first
    extract_lets +onlyGivenNames -merge -useContext flags
    extract_lets +onlyGivenNames -merge -useContext l
    extract_lets +onlyGivenNames -merge -useContext s1
    have keeps_s1 : Keeps 0xFFFFFFFF000000822030061A s s1 := by
      unfold s1
      refine Keeps.then ?_ (State.evIf_keeps _ _ _ _) rfl
      refine Keeps.then ?_ (State.add_keeps _ _ _ _) rfl
      exact keeps_s0
    extract_lets +onlyGivenNames -merge -useContext s2
    have keeps_s2 : Keeps 0xFFFFFFFF000000822030061A s s2 := by
      unfold s2
      refine Keeps.then ?_ (State.wf64_keeps _ _ _ _) rfl
      refine Keeps.then ?_ (State.wf_keeps _ _ _ _) rfl
      refine Keeps.then ?_ (State.rgaBad_keeps _ _ _ _) rfl
      exact keeps_s1
    refine Keeps.then ?_ (State.coupled_keeps _ _ _ _) rfl
    refine Keeps.then ?_ (State.rgaMod_keeps _ _ _) rfl
    exact keeps_s2

theorem State.emitTo_keeps (p0 : Nat) (p1 : Nat) (p2 : Nat) (p3 : Int) (p4 : Bool) (p5 : State) :
    Keeps 0xFFFFFFFF000000822030061A p5 (State.emitTo p0 p1 p2 p3 p4 p5) := by
  induction p0 generalizing p1 p2 p3 p4 p5 with
  | zero =>
    rw [State.emitTo]
    exact Keeps.refl _ _
  | succ j ih =>
    rw [State.emitTo]
    refine Keeps.ite ?_ ?_
    · refine Keeps.then ?_ (ih _ _ _ _ _) (Sub.refl _)
      refine Keeps.then ?_ (State.emitGrid_keeps _ _ _ _ _) rfl
      exact Keeps.refl _ _
    · exact Keeps.refl _ _

theorem State.emitBase_keeps (s : State) (g : Nat) (n : Nat) (ended : Bool) :
    Keeps 0xFFFFFFFF000000822030061A s (State.emitBase s g n ended) := by
  unfold State.emitBase
  extract_lets +onlyGivenNames -merge -useContext r
  split
  · extract_lets +onlyGivenNames -merge -useContext w
    extract_lets +onlyGivenNames -merge -useContext d
    extract_lets +onlyGivenNames -merge -useContext s1
    have keeps_s1 : Keeps 0xFFFFFFFF000000822030061A s s1 := by
      unfold s1
      refine Keeps.then ?_ (State.wf_keeps _ _ _ _) rfl
      exact Keeps.refl _ _
    extract_lets +onlyGivenNames -merge -useContext s2
    have keeps_s2 : Keeps 0xFFFFFFFF000000822030061A s s2 := by
      unfold s2
      refine Keeps.then ?_ (State.evIf_keeps _ _ _ _) rfl
      exact keeps_s1
    extract_lets +onlyGivenNames -merge -useContext s3
    have keeps_s3 : Keeps 0xFFFFFFFF000000822030061A s s3 := by
      unfold s3
      refine Keeps.then ?_ (State.emitTo_keeps _ _ _ _ _ _) rfl
      exact keeps_s2
    extract_lets +onlyGivenNames -merge -useContext s4
    have keeps_s4 : Keeps 0xFFFFFFFF000000822030061A s s4 := by
      unfold s4
      refine Keeps.ite ?_ ?_
      · refine Keeps.then ?_ (State.inc_keeps _ _ _) rfl
        exact keeps_s3
      · exact keeps_s3
    refine Keeps.then ?_ (State.rgaMod_keeps _ _ _) rfl
    exact keeps_s4
  · exact Keeps.refl _ _

theorem State.emitBases_keeps (p0 : Nat) (p1 : Nat) (p2 : Bool) (p3 : State) :
    Keeps 0xFFFFFFFF000000822030061A p3 (State.emitBases p0 p1 p2 p3) := by
  induction p0 generalizing p1 p2 p3 with
  | zero =>
    rw [State.emitBases]
    exact Keeps.refl _ _
  | succ j ih =>
    rw [State.emitBases]
    refine Keeps.ite ?_ ?_
    · refine Keeps.then ?_ (ih _ _ _) (Sub.refl _)
      refine Keeps.then ?_ (State.emitBase_keeps _ _ _ _) rfl
      exact Keeps.refl _ _
    · exact Keeps.refl _ _

theorem State.endStretch_keeps (s : State) (g : Nat) : Keeps 0xFFFFFFFF000000822030061A s (State.endStretch s g) := by
  unfold State.endStretch
  extract_lets +onlyGivenNames -merge -useContext r
  split
  · exact Keeps.refl _ _
  · extract_lets +onlyGivenNames -merge -useContext s1
    have keeps_s1 : Keeps 0xFFFFFFFF000000822030061A s s1 := by
      unfold s1
      refine Keeps.then ?_ (State.emitBases_keeps _ _ _ _) rfl
      exact Keeps.refl _ _
    extract_lets +onlyGivenNames -merge -useContext s2
    have keeps_s2 : Keeps 0xFFFFFFFF000000822030061A s s2 := by
      unfold s2
      refine Keeps.then ?_ (State.heldAll_keeps _ _) rfl
      refine Keeps.then ?_ (State.emitTo_keeps _ _ _ _ _ _) rfl
      exact keeps_s1
    extract_lets +onlyGivenNames -merge -useContext w
    refine Keeps.then ?_ (State.ev_keeps _ _ _) rfl
    refine Keeps.then ?_ (State.wf_keeps _ _ _ _) rfl
    refine Keeps.then ?_ (State.inc_keeps _ _ _) rfl
    refine Keeps.then ?_ (State.rgaMod_keeps _ _ _) rfl
    exact keeps_s2

theorem State.holeMark_keeps (s : State) (g : Nat) (m : Gap) : Keeps 0xFFFFFFFF000000822030061A s (State.holeMark s g m) := by
  unfold State.holeMark
  extract_lets +onlyGivenNames -merge -useContext xp
  extract_lets +onlyGivenNames -merge -useContext w
  extract_lets +onlyGivenNames -merge -useContext first
  extract_lets +onlyGivenNames -merge -useContext s0
  have keeps_s0 : Keeps 0xFFFFFFFF000000822030061A s s0 := by
    unfold s0
    refine Keeps.ite ?_ ?_
    · refine Keeps.then ?_ (State.ev_keeps _ _ _) rfl
      refine Keeps.then ?_ (State.wf_keeps _ _ _ _) rfl
      refine Keeps.then ?_ (State.inc_keeps _ _ _) rfl
      exact Keeps.refl _ _
    · exact Keeps.refl _ _
  extract_lets +onlyGivenNames -merge -useContext s1
  have keeps_s1 : Keeps 0xFFFFFFFF000000822030061A s s1 := by
    unfold s1
    refine Keeps.then ?_ (State.endStretch_keeps _ _) rfl
    exact keeps_s0
  extract_lets +onlyGivenNames -merge -useContext r
  extract_lets +onlyGivenNames -merge -useContext from_
  extract_lets +onlyGivenNames -merge -useContext til1
  extract_lets +onlyGivenNames -merge -useContext s2
  have keeps_s2 : Keeps 0xFFFFFFFF000000822030061A s s2 := by
    unfold s2
    refine Keeps.then ?_ (State.rgaMod_keeps _ _ _) rfl
    exact keeps_s1
  extract_lets +onlyGivenNames -merge -useContext mk_
  refine Keeps.then ?_ (State.coupled_keeps _ _ _ _) rfl
  exact keeps_s2

theorem State.rgaTake_keeps (s : State) (g : Nat) (l : MidLine) : Keeps 0xFFFFFFFF000000822030061A s (State.rgaTake s g l) := by
  unfold State.rgaTake
  extract_lets +onlyGivenNames -merge -useContext w
  extract_lets +onlyGivenNames -merge -useContext sat
  extract_lets +onlyGivenNames -merge -useContext s1
  have keeps_s1 : Keeps 0xFFFFFFFF000000822030061A s s1 := by
    unfold s1
    refine Keeps.then ?_ (State.evIf_keeps _ _ _ _) rfl
    refine Keeps.then ?_ (State.add_keeps _ _ _ _) rfl
    exact Keeps.refl _ _
  extract_lets +onlyGivenNames -merge -useContext r
  extract_lets +onlyGivenNames -merge -useContext first
  extract_lets +onlyGivenNames -merge -useContext next
  extract_lets +onlyGivenNames -merge -useContext s2
  have keeps_s2 : Keeps 0xFFFFFFFF000000822030061A s s2 := by
    unfold s2
    refine Keeps.then ?_ (State.wf_keeps _ _ _ _) rfl
    refine Keeps.then ?_ (State.rgaMod_keeps _ _ _) rfl
    exact keeps_s1
  refine Keeps.then ?_ (State.emitBases_keeps _ _ _ _) rfl
  exact keeps_s2

theorem State.rgaLine_keeps (s : State) (g : Nat) (l : Line) : Keeps 0xFFFFFFFF000000822030061A s (State.rgaLine s g l) := by
  unfold State.rgaLine
  extract_lets +onlyGivenNames -merge -useContext w
  extract_lets +onlyGivenNames -merge -useContext step
  extract_lets +onlyGivenNames -merge -useContext r
  extract_lets +onlyGivenNames -merge -useContext back
  extract_lets +onlyGivenNames -merge -useContext mid
  split
  · refine Keeps.ite ?_ ?_
    · refine Keeps.then ?_ (State.ev_keeps _ _ _) rfl
      refine Keeps.then ?_ (State.inc_keeps _ _ _) rfl
      exact Keeps.refl _ _
    · refine Keeps.then ?_ (State.rgaTake_keeps _ _ _) rfl
      exact Keeps.refl _ _
  · extract_lets +onlyGivenNames -merge -useContext s1
    have keeps_s1 : Keeps 0xFFFFFFFF000000822030061A s s1 := by
      unfold s1
      refine Keeps.then ?_ (State.rgaMod_keeps _ _ _) rfl
      exact Keeps.refl _ _
    extract_lets +onlyGivenNames -merge -useContext fits
    refine Keeps.ite ?_ ?_
    · extract_lets +onlyGivenNames -merge -useContext s2
      have keeps_s2 : Keeps 0xFFFFFFFF000000822030061A s s2 := by
        unfold s2
        refine Keeps.then ?_ (State.holeMark_keeps _ _ _) rfl
        exact keeps_s1
      refine Keeps.ite ?_ ?_
      · refine Keeps.then ?_ (State.ev_keeps _ _ _) rfl
        refine Keeps.then ?_ (State.inc_keeps _ _ _) rfl
        exact keeps_s2
      · refine Keeps.then ?_ (State.rgaTake_keeps _ _ _) rfl
        exact keeps_s2
    · extract_lets +onlyGivenNames -merge -useContext prev
      extract_lets +onlyGivenNames -merge -useContext ep
      extract_lets +onlyGivenNames -merge -useContext made
      extract_lets +onlyGivenNames -merge -useContext k
      extract_lets +onlyGivenNames -merge -useContext s2
      extract_lets +onlyGivenNames -merge -useContext s2_2
      have keeps_s2_2 : Keeps 0xFFFFFFFF000000822030061A s s2_2 := by
        unfold s2_2
        refine Keeps.then ?_ (State.rgaMod_keeps _ _ _) rfl
        refine Keeps.then ?_ (State.drawn_keeps _) rfl
        exact keeps_s1
      extract_lets +onlyGivenNames -merge -useContext s3
      have keeps_s3 : Keeps 0xFFFFFFFF000000822030061A s s3 := by
        unfold s3
        refine Keeps.then ?_ (State.ev_keeps _ _ _) rfl
        refine Keeps.then ?_ (State.inc_keeps _ _ _) rfl
        exact keeps_s2_2
      extract_lets +onlyGivenNames -merge -useContext s4
      have keeps_s4 : Keeps 0xFFFFFFFF000000822030061A s s4 := by
        unfold s4
        refine Keeps.then ?_ (State.rgaMod_keeps _ _ _) rfl
        exact keeps_s3
      refine Keeps.then ?_ (State.rgaTake_keeps _ _ _) rfl
      exact keeps_s4

theorem State.rgaGap_keeps (s : State) (g : Nat) (m : Gap) : Keeps 0xFFFFFFFF000000822030061A s (State.rgaGap s g m) := by
  unfold State.rgaGap
  split
  · refine Keeps.then ?_ (State.holeMark_keeps _ _ _) rfl
    refine Keeps.then ?_ (State.holeMark_keeps _ _ _) rfl
    refine Keeps.then ?_ (State.rgaMod_keeps _ _ _) rfl
    exact Keeps.refl _ _
  · refine Keeps.ite ?_ ?_
    · refine Keeps.then ?_ (State.rgaMod_keeps _ _ _) rfl
      exact Keeps.refl _ _
    · refine Keeps.then ?_ (State.holeMark_keeps _ _ _) rfl
      exact Keeps.refl _ _

theorem State.rgaEnd_keeps (s : State) (g : Nat) (cause : Nat) : Keeps 0xFFFFFFFF000000822030061A s (State.rgaEnd s g cause) := by
  unfold State.rgaEnd
  extract_lets +onlyGivenNames -merge -useContext s1
  have keeps_s1 : Keeps 0xFFFFFFFF000000822030061A s s1 := by
    unfold s1
    split
    · refine Keeps.then ?_ (State.holeMark_keeps _ _ _) rfl
      refine Keeps.then ?_ (State.rgaMod_keeps _ _ _) rfl
      exact Keeps.refl _ _
    · exact Keeps.refl _ _
  extract_lets +onlyGivenNames -merge -useContext r
  extract_lets +onlyGivenNames -merge -useContext s2
  have keeps_s2 : Keeps 0xFFFFFFFF000000822030061A s s2 := by
    unfold s2
    split
    · exact keeps_s1
    · refine Keeps.then ?_ (State.heldAll_keeps _ _) rfl
      refine Keeps.then ?_ (State.emitTo_keeps _ _ _ _ _ _) rfl
      refine Keeps.then ?_ (State.emitBases_keeps _ _ _ _) rfl
      exact keeps_s1
  extract_lets +onlyGivenNames -merge -useContext k
  extract_lets +onlyGivenNames -merge -useContext mk_
  refine Keeps.then ?_ (State.coupled_keeps _ _ _ _) rfl
  refine Keeps.then ?_ (State.rgaMod_keeps _ _ _) rfl
  exact keeps_s2

theorem State.rgaStart_keeps (s : State) (g : Nat) : Keeps 0xFFFFFFFF000000822030061A s (State.rgaStart s g) := by
  unfold State.rgaStart
  extract_lets +onlyGivenNames -merge -useContext s0
  have keeps_s0 : Keeps 0xFFFFFFFF000000822030061A s s0 := by
    unfold s0
    split
    · refine Keeps.then ?_ (State.holeMark_keeps _ _ _) rfl
      refine Keeps.then ?_ (State.rgaMod_keeps _ _ _) rfl
      exact Keeps.refl _ _
    · exact Keeps.refl _ _
  extract_lets +onlyGivenNames -merge -useContext r
  extract_lets +onlyGivenNames -merge -useContext s1
  have keeps_s1 : Keeps 0xFFFFFFFF000000822030061A s s1 := by
    unfold s1
    split
    · exact keeps_s0
    · refine Keeps.then ?_ (State.heldAll_keeps _ _) rfl
      refine Keeps.then ?_ (State.emitTo_keeps _ _ _ _ _ _) rfl
      refine Keeps.then ?_ (State.emitBases_keeps _ _ _ _) rfl
      exact keeps_s0
  refine Keeps.then ?_ (State.coupled_keeps _ _ _ _) rfl
  refine Keeps.then ?_ (State.rgaMod_keeps _ _ _) rfl
  exact keeps_s1

theorem execRgaLine_keeps (g : Nat) (s : State) : KeepsO 0xFFFFFFFF000000822030061A s (execRgaLine g s) := by
  unfold execRgaLine
  refine KeepsO.next ?_
  split
  · rename_i w1 w2 w3 w4
    have k5 : Keeps 0xFFFFFFFF000000822030061A s w3 := by
      refine Keeps.then ?_ (State.takeNext_keeps _ _ _ _ w4) rfl
      exact Keeps.refl _ _
    extract_lets +onlyGivenNames -merge -useContext r
    refine Keeps.ite ?_ ?_
    · extract_lets +onlyGivenNames -merge -useContext before
      refine Keeps.then ?_ (State.rgaLine_keeps _ _ _) rfl
      refine Keeps.then ?_ (State.rgaGap_keeps _ _ _) rfl
      refine Keeps.then ?_ (State.rgaMod_keeps _ _ _) rfl
      exact k5
    · refine Keeps.then ?_ (State.rgaLine_keeps _ _ _) rfl
      exact k5
  · rename_i w6 w7 w8
    have k9 : Keeps 0xFFFFFFFF000000822030061A s w7 := by
      refine Keeps.then ?_ (State.takeNext_keeps _ _ _ _ w8) rfl
      exact Keeps.refl _ _
    refine Keeps.then ?_ (State.rgaMod_keeps _ _ _) rfl
    exact k9
  · rename_i w10 w11 w12
    have k13 : Keeps 0xFFFFFFFF000000822030061A s w11 := by
      refine Keeps.then ?_ (State.takeNext_keeps _ _ _ _ w12) rfl
      exact Keeps.refl _ _
    refine Keeps.then ?_ (State.rgaStart_keeps _ _) rfl
    exact k13
  · exact Keeps.refl _ _

theorem execRgaGapMarker_keeps (g : Nat) (s : State) : KeepsO 0xFFFFFFFF000000822030061A s (execRgaGapMarker g s) := by
  unfold execRgaGapMarker
  refine KeepsO.next ?_
  split
  · rename_i w1 w2 w3 w4
    have k5 : Keeps 0xFFFFFFFF000000822030061A s w3 := by
      refine Keeps.then ?_ (State.takeNext_keeps _ _ _ _ w4) rfl
      exact Keeps.refl _ _
    refine Keeps.then ?_ (State.rgaGap_keeps _ _ _) rfl
    exact k5
  · exact Keeps.refl _ _

end Sys2Proof.Machine
end

