-- ==== Sys2Proof/Laws/KeepsSta.lean ====
section
/-! SUPPORT. Frames of the operations of Machine/Sta.lean: what each may change, one lemma each. -/

namespace Sys2Proof.Machine

theorem State.staMod_keeps (s : State) (g : Nat) (f : Sta → Sta) : Keeps 0x80000000 s (State.staMod s g f) := by
  unfold State.staMod
  refine Keeps.set_sta ?_ rfl
  exact Keeps.refl _ _

theorem State.staShow_keeps (s : State) (g : Nat) : Keeps 0x100000000000000000000008 s (State.staShow s g) := by
  unfold State.staShow
  extract_lets +onlyGivenNames -merge -useContext w
  split
  · refine Keeps.then ?_ (State.wf_keeps _ _ _ _) (Sub.or rfl rfl)
    refine Keeps.then ?_ (State.wf_keeps _ _ _ _) (Sub.or rfl rfl)
    exact Keeps.refl _ _
  · refine Keeps.then ?_ (State.wf_keeps _ _ _ _) (Sub.or rfl rfl)
    refine Keeps.then ?_ (State.wf_keeps _ _ _ _) (Sub.or rfl rfl)
    exact Keeps.refl _ _

theorem State.staClose_keeps (s : State) (g : Nat) (short : Bool) : Keeps 0x100210010008000083140608 s (State.staClose s g short) := by
  unfold State.staClose
  split
  · exact Keeps.refl _ _
  · extract_lets +onlyGivenNames -merge -useContext w
    extract_lets +onlyGivenNames -merge -useContext u
    extract_lets +onlyGivenNames -merge -useContext incomplete
    extract_lets +onlyGivenNames -merge -useContext slots
    extract_lets +onlyGivenNames -merge -useContext wr
    extract_lets +onlyGivenNames -merge -useContext full
    extract_lets +onlyGivenNames -merge -useContext s1
    have keeps_s1 : Keeps 0x100210010008000083140608 s s1 := by
      unfold s1
      refine Keeps.then ?_ (State.evIf_keeps _ _ _ _) rfl
      refine Keeps.then ?_ (State.evIf_keeps _ _ _ _) rfl
      exact Keeps.refl _ _
    extract_lets +onlyGivenNames -merge -useContext s2
    extract_lets +onlyGivenNames -merge -useContext s2_2
    have keeps_s2_2 : Keeps 0x100210010008000083140608 s s2_2 := by
      unfold s2_2
      refine Keeps.then ?_ (State.dramWrite_keeps _ _ _ _ _) rfl
      exact keeps_s1
    extract_lets +onlyGivenNames -merge -useContext s2_3
    have keeps_s2_3 : Keeps 0x100210010008000083140608 s s2_3 := by
      unfold s2_3
      refine Keeps.ite ?_ ?_
      · refine Keeps.then ?_ (State.ev_keeps _ _ _) rfl
        refine Keeps.then ?_ (State.staMod_keeps _ _ _) rfl
        refine Keeps.then ?_ (State.inc_keeps _ _ _) rfl
        exact keeps_s1
      · refine Keeps.then ?_ (State.ev_keeps _ _ _) rfl
        refine Keeps.then ?_ (State.staMod_keeps _ _ _) rfl
        refine Keeps.then ?_ (State.wf_keeps _ _ _ _) rfl
        exact keeps_s2_2
    refine Keeps.then ?_ (State.staShow_keeps _ _) rfl
    refine Keeps.then ?_ (State.staMod_keeps _ _ _) rfl
    refine Keeps.then ?_ (State.inc_keeps _ _ _) rfl
    exact keeps_s2_3

theorem State.staOpen_keeps (s : State) (g : Nat) (first : Nat) (md : Int) (time : Int) (epoch : Nat) (unconfirmed : Bool) :
    Keeps 0x80000000 s (State.staOpen s g first md time epoch unconfirmed) := by
  unfold State.staOpen
  extract_lets +onlyGivenNames -merge -useContext w
  extract_lets +onlyGivenNames -merge -useContext np
  extract_lets +onlyGivenNames -merge -useContext bins
  extract_lets +onlyGivenNames -merge -useContext zones
  refine Keeps.then ?_ (State.staMod_keeps _ _ _) rfl
  exact Keeps.refl _ _

theorem State.staPos_keeps (s : State) (g : Nat) (n : Nat) : Keeps 0x2 s (State.staPos s g n).2 := by
  unfold State.staPos
  split
  · dsimp only
    exact Keeps.refl _ _
  · dsimp only
    refine Keeps.then ?_ (State.drawn_keeps _) rfl
    refine Keeps.then ?_ (State.drawn_keeps _) rfl
    exact Keeps.refl _ _

theorem State.staSpan_keeps (p0 : Nat) (p1 : Nat) (p2 : Nat) (p3 : Option (Nat × Bool)) (p4 : State) :
    Keeps 0x10021001000800008314060A p4 (State.staSpan p0 p1 p2 p3 p4) := by
  induction p0 generalizing p1 p2 p3 p4 with
  | zero =>
    rw [State.staSpan]
    exact Keeps.refl _ _
  | succ j ih =>
    rw [State.staSpan]
    split
    · extract_lets +onlyGivenNames -merge -useContext f
      refine Keeps.ite ?_ ?_
      · exact Keeps.refl _ _
      · extract_lets +onlyGivenNames -merge -useContext xp
        have keeps_xp : Keeps 0x10021001000800008314060A p4 xp.2 := by
          unfold xp
          refine Keeps.then ?_ (State.staPos_keeps _ _ _) rfl
          exact Keeps.refl _ _
        extract_lets +onlyGivenNames -merge -useContext e
        refine Keeps.then ?_ (ih _ _ _ _) (Sub.refl _)
        refine Keeps.then ?_ (State.staOpen_keeps _ _ _ _ _ _ _) rfl
        exact keeps_xp
    · refine Keeps.ite ?_ ?_
      · exact Keeps.refl _ _
      · refine Keeps.ite ?_ ?_
        · extract_lets +onlyGivenNames -merge -useContext xp
          have keeps_xp : Keeps 0x10021001000800008314060A p4 xp.2 := by
            unfold xp
            refine Keeps.then ?_ (State.staPos_keeps _ _ _) rfl
            exact Keeps.refl _ _
          refine Keeps.then ?_ (State.staMod_keeps _ _ _) rfl
          exact keeps_xp
        · refine Keeps.ite ?_ ?_
          · refine Keeps.then ?_ (ih _ _ _ _) (Sub.refl _)
            refine Keeps.then ?_ (State.staClose_keeps _ _ _) rfl
            exact Keeps.refl _ _
          · extract_lets +onlyGivenNames -merge -useContext xp
            have keeps_xp : Keeps 0x10021001000800008314060A p4 xp.2 := by
              unfold xp
              refine Keeps.then ?_ (State.staPos_keeps _ _ _) rfl
              exact Keeps.refl _ _
            refine Keeps.then ?_ (ih _ _ _ _) (Sub.refl _)
            refine Keeps.then ?_ (State.staClose_keeps _ _ _) rfl
            refine Keeps.then ?_ (State.staMod_keeps _ _ _) rfl
            exact keeps_xp

theorem State.staCut_keeps (s : State) (g : Nat) (n : Nat) : Keeps 0x10021001000800008314060A s (State.staCut s g n) := by
  unfold State.staCut
  split
  · refine Keeps.then ?_ (State.staMod_keeps _ _ _) rfl
    exact Keeps.refl _ _
  · refine Keeps.ite ?_ ?_
    · exact Keeps.refl _ _
    · extract_lets +onlyGivenNames -merge -useContext len
      extract_lets +onlyGivenNames -merge -useContext m
      extract_lets +onlyGivenNames -merge -useContext xp
      have keeps_xp : Keeps 0x10021001000800008314060A s xp.2 := by
        unfold xp
        refine Keeps.then ?_ (State.staPos_keeps _ _ _) rfl
        exact Keeps.refl _ _
      extract_lets +onlyGivenNames -merge -useContext s1
      have keeps_s1 : Keeps 0x10021001000800008314060A s s1 := by
        unfold s1
        refine Keeps.ite ?_ ?_
        · exact Keeps.refl _ _
        · refine Keeps.then ?_ (State.staMod_keeps _ _ _) rfl
          exact keeps_xp
      refine Keeps.then ?_ (State.staMod_keeps _ _ _) rfl
      refine Keeps.then ?_ (State.staClose_keeps _ _ _) rfl
      exact keeps_s1

theorem State.staTo_keeps (s : State) (g : Nat) (n : Nat) (ep : Option (Nat × Bool)) :
    Keeps 0x10021001000800008314060A s (State.staTo s g n ep) := by
  unfold State.staTo
  extract_lets +onlyGivenNames -merge -useContext at1
  extract_lets +onlyGivenNames -merge -useContext s1
  have keeps_s1 : Keeps 0x10021001000800008314060A s s1 := by
    unfold s1
    refine Keeps.fold ?_ (fun t1 y2 => ?_)
    · exact Keeps.refl _ _
    · extract_lets +onlyGivenNames -merge -useContext first
      refine Keeps.ite ?_ ?_
      · refine Keeps.then ?_ (State.staCut_keeps _ _ _) rfl
        refine Keeps.then ?_ (State.staSpan_keeps _ _ _ _ _) rfl
        exact Keeps.refl _ _
      · exact Keeps.refl _ _
  refine Keeps.then ?_ (State.staSpan_keeps _ _ _ _ _) rfl
  exact keeps_s1

theorem State.staSum_keeps (s : State) (g : Nat) (l : Line) : Keeps 0x80000000 s (State.staSum s g l) := by
  unfold State.staSum
  extract_lets +onlyGivenNames -merge -useContext w
  refine Keeps.then ?_ (State.staMod_keeps _ _ _) rfl
  exact Keeps.refl _ _

theorem State.staApply_keeps (s : State) (g : Nat) (n : Nat) (md : Int) : Keeps 0xFFFFFFFF000800008334061A s (State.staApply s g n md) := by
  unfold State.staApply
  extract_lets +onlyGivenNames -merge -useContext w
  extract_lets +onlyGivenNames -merge -useContext due
  extract_lets +onlyGivenNames -merge -useContext t
  have keeps_t : Keeps 0xFFFFFFFF000800008334061A s t := by
    unfold t
    refine Keeps.then ?_ (State.armedTake_keeps _ _ _ _) rfl
    exact Keeps.refl _ _
  extract_lets +onlyGivenNames -merge -useContext changed
  extract_lets +onlyGivenNames -merge -useContext tables
  refine Keeps.ite ?_ ?_
  · extract_lets +onlyGivenNames -merge -useContext u
    have keeps_u : Keeps 0xFFFFFFFF000800008334061A s u := by
      unfold u
      refine Keeps.then ?_ (State.armedTake_keeps _ _ _ _) rfl
      refine Keeps.then ?_ (State.staCut_keeps _ _ _) rfl
      exact Keeps.refl _ _
    refine Keeps.then ?_ (State.staMod_keeps _ _ _) rfl
    exact keeps_u
  · exact keeps_t

theorem execStaLine_keeps (g : Nat) (s : State) : KeepsO 0xFFFFFFFF00080000A334061A s (execStaLine g s) := by
  unfold execStaLine
  refine KeepsO.next ?_
  extract_lets +onlyGivenNames -merge -useContext w
  extract_lets +onlyGivenNames -merge -useContext src
  split
  · exact Keeps.refl _ _
  · split
    · extract_lets +onlyGivenNames -merge -useContext n
      extract_lets +onlyGivenNames -merge -useContext s1
      have keeps_s1 : Keeps 0xFFFFFFFF00080000A334061A s s1 := by
        unfold s1
        refine Keeps.then ?_ (State.staApply_keeps _ _ _ _) rfl
        refine Keeps.then ?_ (State.mewPop_keeps _ _) rfl
        exact Keeps.refl _ _
      refine Keeps.ite ?_ ?_
      · refine Keeps.then ?_ (State.staMod_keeps _ _ _) rfl
        exact keeps_s1
      · extract_lets +onlyGivenNames -merge -useContext s2
        have keeps_s2 : Keeps 0xFFFFFFFF00080000A334061A s s2 := by
          unfold s2
          refine Keeps.then ?_ (State.staMark_keeps _ _ _ _ _) rfl
          exact keeps_s1
        extract_lets +onlyGivenNames -merge -useContext other
        extract_lets +onlyGivenNames -merge -useContext s3
        have keeps_s3 : Keeps 0xFFFFFFFF00080000A334061A s s3 := by
          unfold s3
          refine Keeps.then ?_ (State.staTo_keeps _ _ _ _) rfl
          refine Keeps.ite ?_ ?_
          · refine Keeps.then ?_ (State.staCut_keeps _ _ _) rfl
            exact keeps_s2
          · exact keeps_s2
        refine Keeps.then ?_ (State.staShow_keeps _ _) rfl
        refine Keeps.then ?_ (State.staSum_keeps _ _ _) rfl
        exact keeps_s3
    · extract_lets +onlyGivenNames -merge -useContext s1
      have keeps_s1 : Keeps 0xFFFFFFFF00080000A334061A s s1 := by
        unfold s1
        refine Keeps.then ?_ (State.mewPop_keeps _ _) rfl
        exact Keeps.refl _ _
      refine Keeps.ite ?_ ?_
      · refine Keeps.then ?_ (State.staMod_keeps _ _ _) rfl
        exact keeps_s1
      · refine Keeps.then ?_ (State.staShow_keeps _ _) rfl
        refine Keeps.then ?_ (State.staTo_keeps _ _ _ _) rfl
        refine Keeps.then ?_ (State.staMark_keeps _ _ _ _ _) rfl
        refine Keeps.then ?_ (State.staMark_keeps _ _ _ _ _) rfl
        exact keeps_s1
    · exact Keeps.refl _ _

theorem execStaBlockClose_keeps (g : Nat) (s : State) : KeepsO 0x100210010008000083140608 s (execStaBlockClose g s) := by
  unfold execStaBlockClose
  refine KeepsO.next ?_
  split
  · exact Keeps.refl _ _
  · refine Keeps.ite ?_ ?_
    · refine Keeps.then ?_ (State.staClose_keeps _ _ _) rfl
      exact Keeps.refl _ _
    · exact Keeps.refl _ _

end Sys2Proof.Machine
end

