-- ==== Sys2Proof/Laws/KeepsTru.lean ====
section
/-! SUPPORT. Frames of the operations of Machine/Tru.lean: what each may change, one lemma each. -/

namespace Sys2Proof.Machine

theorem State.truRef_keeps (s : State) (g : Nat) (l : Line) : Keeps 0x100000000 s (State.truRef s g l) := by
  unfold State.truRef
  extract_lets +onlyGivenNames -merge -useContext on
  refine Keeps.ite ?_ ?_
  · exact Keeps.refl _ _
  · extract_lets +onlyGivenNames -merge -useContext x
    extract_lets +onlyGivenNames -merge -useContext fresh
    extract_lets +onlyGivenNames -merge -useContext r
    extract_lets +onlyGivenNames -merge -useContext skip
    extract_lets +onlyGivenNames -merge -useContext r2
    refine Keeps.then ?_ (State.truMod_keeps _ _ _) rfl
    exact Keeps.refl _ _

theorem State.truApply_keeps (s : State) (g : Nat) (n : Nat) (md : Int) : Keeps 0xFFFFFFFF0000000180300618 s (State.truApply s g n md) := by
  unfold State.truApply
  extract_lets +onlyGivenNames -merge -useContext w
  extract_lets +onlyGivenNames -merge -useContext t
  have keeps_t : Keeps 0xFFFFFFFF0000000180300618 s t := by
    unfold t
    refine Keeps.then ?_ (State.armedAt_keeps _ _ _ _) rfl
    exact Keeps.refl _ _
  extract_lets +onlyGivenNames -merge -useContext changed
  refine Keeps.ite ?_ ?_
  · exact keeps_t
  · extract_lets +onlyGivenNames -merge -useContext t1
    have keeps_t1 : Keeps 0xFFFFFFFF0000000180300618 s t1 := by
      unfold t1
      refine Keeps.then ?_ (State.truMod_keeps _ _ _) rfl
      exact keeps_t
    extract_lets +onlyGivenNames -merge -useContext swap
    extract_lets +onlyGivenNames -merge -useContext t2
    have keeps_t2 : Keeps 0xFFFFFFFF0000000180300618 s t2 := by
      unfold t2
      refine Keeps.then ?_ (State.staMod_keeps _ _ _) rfl
      exact keeps_t1
    refine Keeps.then ?_ (State.evIf_keeps _ _ _ _) rfl
    exact keeps_t2

theorem State.truCount_keeps (s : State) (w : Nat) (lo : Nat) (hi : Nat) (fills : Nat) (bad : Nat) (n : Nat) :
    Keeps 0x201000000000000010060A s (State.truCount s w lo hi fills bad n) := by
  unfold State.truCount
  extract_lets +onlyGivenNames -merge -useContext s1
  have keeps_s1 : Keeps 0x201000000000000010060A s s1 := by
    unfold s1
    refine Keeps.set_freeCtr ?_ rfl (by first | exact Nat.le_succ _ | (split <;> omega))
    exact Keeps.refl _ _
  extract_lets +onlyGivenNames -merge -useContext s2
  have keeps_s2 : Keeps 0x201000000000000010060A s s2 := by
    unfold s2
    refine Keeps.then ?_ (State.evIf_keeps _ _ _ _) (Sub.or rfl rfl)
    refine Keeps.then ?_ (State.add_keeps _ _ _ _) (Sub.or rfl rfl)
    refine Keeps.then ?_ (State.add_keeps _ _ _ _) (Sub.or rfl rfl)
    exact keeps_s1
  extract_lets +onlyGivenNames -merge -useContext s3
  have keeps_s3 : Keeps 0x201000000000000010060A s s3 := by
    unfold s3
    refine Keeps.then ?_ (State.evIf_keeps _ _ _ _) (Sub.or rfl rfl)
    refine Keeps.then ?_ (State.add_keeps _ _ _ _) (Sub.or rfl rfl)
    exact keeps_s2
  refine Keeps.then ?_ (State.evIf_keeps _ _ _ _) (Sub.or rfl rfl)
  refine Keeps.then ?_ (State.add_keeps _ _ _ _) (Sub.or rfl rfl)
  exact keeps_s3

theorem State.truLine_keeps (s : State) (g : Nat) (l : Line) : Keeps 0xFFFFFFFF00000801A030061A s (State.truLine s g l) := by
  unfold State.truLine
  extract_lets +onlyGivenNames -merge -useContext h
  extract_lets +onlyGivenNames -merge -useContext w
  extract_lets +onlyGivenNames -merge -useContext s0
  have keeps_s0 : Keeps 0xFFFFFFFF00000801A030061A s s0 := by
    unfold s0
    refine Keeps.then ?_ (State.truRef_keeps _ _ _) rfl
    refine Keeps.then ?_ (State.truApply_keeps _ _ _ _) rfl
    exact Keeps.refl _ _
  extract_lets +onlyGivenNames -merge -useContext b
  extract_lets +onlyGivenNames -merge -useContext x1
  extract_lets +onlyGivenNames -merge -useContext lo
  extract_lets +onlyGivenNames -merge -useContext hi
  extract_lets +onlyGivenNames -merge -useContext fills
  extract_lets +onlyGivenNames -merge -useContext n
  extract_lets +onlyGivenNames -merge -useContext bad
  extract_lets +onlyGivenNames -merge -useContext s4
  have keeps_s4 : Keeps 0xFFFFFFFF00000801A030061A s s4 := by
    unfold s4
    refine Keeps.then ?_ (State.truCount_keeps _ _ _ _ _ _ _) rfl
    exact keeps_s0
  extract_lets +onlyGivenNames -merge -useContext o
  extract_lets +onlyGivenNames -merge -useContext s5
  have keeps_s5 : Keeps 0xFFFFFFFF00000801A030061A s s5 := by
    unfold s5
    refine Keeps.then ?_ (State.pass_keeps _ _ _ _ _) rfl
    exact keeps_s4
  refine Keeps.ite ?_ ?_
  · refine Keeps.then ?_ (State.staTap_keeps _ _ _ _) rfl
    exact keeps_s5
  · exact keeps_s5

theorem State.truGap_keeps (s : State) (g : Nat) (m : Gap) : Keeps 0x1100000000800A0100608 s (State.truGap s g m) := by
  unfold State.truGap
  extract_lets +onlyGivenNames -merge -useContext h
  extract_lets +onlyGivenNames -merge -useContext s1
  have keeps_s1 : Keeps 0x1100000000800A0100608 s s1 := by
    unfold s1
    refine Keeps.then ?_ (State.pass_keeps _ _ _ _ _) rfl
    exact Keeps.refl _ _
  refine Keeps.ite ?_ ?_
  · refine Keeps.then ?_ (State.staTap_keeps _ _ _ _) rfl
    exact keeps_s1
  · exact keeps_s1

theorem execTruLine_keeps (g : Nat) (s : State) : KeepsO 0xFFFFFFFF00000801A030061A s (execTruLine g s) := by
  unfold execTruLine
  refine KeepsO.next ?_
  split
  · rename_i w2 w3
    exact Keeps.refl _ _
  · rename_i w4 w5 w6 w7
    have k1 : Keeps 0xFFFFFFFF00000801A030061A s w6 := by
      refine Keeps.then ?_ (State.takeNext_keeps _ _ _ _ w7) rfl
      exact Keeps.refl _ _
    split
    · extract_lets +onlyGivenNames -merge -useContext u
      extract_lets +onlyGivenNames -merge -useContext t1
      have keeps_t1 : Keeps 0xFFFFFFFF00000801A030061A s t1 := by
        unfold t1
        refine Keeps.ite ?_ ?_
        · refine Keeps.then ?_ (State.truGap_keeps _ _ _) rfl
          exact k1
        · exact k1
      extract_lets +onlyGivenNames -merge -useContext l1
      refine Keeps.then ?_ (State.truMod_keeps _ _ _) rfl
      refine Keeps.then ?_ (State.truLine_keeps _ _ _) rfl
      exact keeps_t1
    · refine Keeps.then ?_ (State.truGap_keeps _ _ _) rfl
      exact k1
    · refine Keeps.then ?_ (State.truMod_keeps _ _ _) rfl
      exact k1
    · refine Keeps.then ?_ (State.pass_keeps _ _ _ _ _) rfl
      refine Keeps.then ?_ (State.truMod_keeps _ _ _) rfl
      exact k1
    · exact k1

theorem execRefMeasurementDone_keeps (g : Nat) (s : State) : KeepsO 0x2010000000000100180608 s (execRefMeasurementDone g s) := by
  unfold execRefMeasurementDone
  refine KeepsO.next ?_
  split
  · exact Keeps.refl _ _
  · extract_lets +onlyGivenNames -merge -useContext w
    refine Keeps.ite ?_ ?_
    · exact Keeps.refl _ _
    · extract_lets +onlyGivenNames -merge -useContext sel
      extract_lets +onlyGivenNames -merge -useContext ident
      extract_lets +onlyGivenNames -merge -useContext s1
      have keeps_s1 : Keeps 0x2010000000000100180608 s s1 := by
        unfold s1
        refine Keeps.fold ?_ (fun t1 y2 => ?_)
        · exact Keeps.refl _ _
        · refine Keeps.fold ?_ (fun t3 y4 => ?_)
          · exact Keeps.refl _ _
          · refine Keeps.then ?_ (State.wf64_keeps _ _ _ _) (Sub.or rfl (Sub.blk .TRU (by first | rfl | exact blk_ite rfl rfl) rfl))
            exact Keeps.refl _ _
      refine Keeps.then ?_ (State.ev_keeps _ _ _) (Sub.or rfl rfl)
      refine Keeps.then ?_ (State.wwtMod_keeps _ _ _ _ _) rfl
      refine Keeps.then ?_ (State.truMod_keeps _ _ _) rfl
      exact keeps_s1

end Sys2Proof.Machine
end

