-- ==== Sys2Proof/Laws/KeepsDrain.lean ====
section
/-! SUPPORT. Frames of the operations of Machine/Drain.lean: what each may change, one lemma each. -/

namespace Sys2Proof.Machine

theorem State.via_keeps {msk : Nat} (s : State) (f : State → Host.Outcome State Fault Refusal) (_hMsk : Sub 0x0 msk) (hFun1 : ∀ z0, KeepsO msk z0 (f z0)) :
    Keeps msk s (State.via s f) := by
  unfold State.via
  split
  · next t e => exact hFun1 s t e
  · exact Keeps.refl _ _
  · exact Keeps.refl _ _

theorem State.turn_keeps (s : State) (g : Nat) : Keeps 0xFFFFFFFF000E4BE7A3F4061A s (State.turn s g) := by
  have all : ∀ f ∈ [execTruLine g, execRgaLine g, execRgaGapMarker g, execSeamLineDeliver g true, execSeamLineDeliver (g - 1) false, execSprLine g,
      execSegLine g, execFreezeMaskReturn g, execLblLine g, execDbmFragment g, execDbmPartialSet (g / 6), execFrontierAdvance g, execStaLine g,
      execArchiveLine g], ∀ t, KeepsO 0xFFFFFFFF000E4BE7A3F4061A t (f t) := by
    intro f hf t
    simp only [List.mem_cons, List.not_mem_nil, or_false] at hf
    rcases hf with rfl | rfl | rfl | rfl | rfl | rfl | rfl | rfl | rfl | rfl | rfl | rfl | rfl | rfl
    · exact KeepsO.then (Keeps.refl _ _) (execTruLine_keeps _ _) rfl
    · exact KeepsO.then (Keeps.refl _ _) (execRgaLine_keeps _ _) rfl
    · exact KeepsO.then (Keeps.refl _ _) (execRgaGapMarker_keeps _ _) rfl
    · exact KeepsO.then (Keeps.refl _ _) (execSeamLineDeliver_keeps _ _ _) rfl
    · exact KeepsO.then (Keeps.refl _ _) (execSeamLineDeliver_keeps _ _ _) rfl
    · exact KeepsO.then (Keeps.refl _ _) (execSprLine_keeps _ _) rfl
    · exact KeepsO.then (Keeps.refl _ _) (execSegLine_keeps _ _) rfl
    · exact KeepsO.then (Keeps.refl _ _) (execFreezeMaskReturn_keeps _ _) rfl
    · exact KeepsO.then (Keeps.refl _ _) (execLblLine_keeps _ _) rfl
    · exact KeepsO.then (Keeps.refl _ _) (execDbmFragment_keeps _ _) rfl
    · exact KeepsO.then (Keeps.refl _ _) (execDbmPartialSet_keeps _ _) rfl
    · exact KeepsO.then (Keeps.refl _ _) (execFrontierAdvance_keeps _ _) rfl
    · exact KeepsO.then (Keeps.refl _ _) (execStaLine_keeps _ _) rfl
    · exact KeepsO.then (Keeps.refl _ _) (execArchiveLine_keeps _ _) rfl
  have fold : ∀ (l : List (State → Host.Outcome State Fault Refusal)) (t : State), (∀ f ∈ l, ∀ u, KeepsO 0xFFFFFFFF000E4BE7A3F4061A u (f u)) →
      Keeps 0xFFFFFFFF000E4BE7A3F4061A t (l.foldl (fun (x : State) f => x.via f) t) := by
    intro l
    induction l with
    | nil => exact fun t _ => Keeps.refl _ _
    | cons f fs ih =>
      intro t h
      exact (State.via_keeps (msk := 0xFFFFFFFF000E4BE7A3F4061A) t f rfl (h f List.mem_cons_self)).then (ih _ (fun k hk => h k (List.mem_cons_of_mem _ hk))) (Sub.refl _)
  unfold State.turn
  exact fold _ _ all

theorem State.pump_keeps (p0 : Nat) (p1 : List Nat) (p2 : State) : Keeps 0xFFFFFFFF000E4BE7A3F4061A p2 (State.pump p0 p1 p2) := by
  induction p0 generalizing p1 p2 with
  | zero =>
    rw [State.pump]
    exact Keeps.refl _ _
  | succ j ih =>
    rw [State.pump]
    refine Keeps.then ?_ (ih _ _) (Sub.refl _)
    refine Keeps.fold ?_ (fun t1 y2 => ?_)
    · exact Keeps.refl _ _
    · refine Keeps.then ?_ (State.turn_keeps _ _) rfl
      exact Keeps.refl _ _

theorem State.ingEnd_keeps (s : State) (gs : List Nat) : Keeps 0x11100000000800E0100608 s (State.ingEnd s gs) := by
  unfold State.ingEnd
  refine Keeps.fold ?_ (fun t1 y2 => ?_)
  · exact Keeps.refl _ _
  · refine Keeps.ite ?_ ?_
    · refine Keeps.then ?_ (State.gapSend_keeps _ _) rfl
      refine Keeps.then ?_ (State.settle_keeps _ _) rfl
      refine Keeps.then ?_ (State.declare_keeps _ _ _ _) rfl
      exact Keeps.refl _ _
    · exact Keeps.refl _ _

theorem State.chainsEnd_keeps (s : State) (gs : List Nat) (cause : Nat) :
    Keeps 0xFFFFFFFF000E4BE7E3F4061A s (State.chainsEnd s gs cause) := by
  unfold State.chainsEnd
  extract_lets +onlyGivenNames -merge -useContext s1
  have keeps_s1 : Keeps 0xFFFFFFFF000E4BE7E3F4061A s s1 := by
    unfold s1
    refine Keeps.then ?_ (State.ingEnd_keeps _ _) rfl
    exact Keeps.refl _ _
  extract_lets +onlyGivenNames -merge -useContext s2
  have keeps_s2 : Keeps 0xFFFFFFFF000E4BE7E3F4061A s s2 := by
    unfold s2
    refine Keeps.then ?_ (State.pump_keeps _ _ _) rfl
    exact keeps_s1
  extract_lets +onlyGivenNames -merge -useContext s3
  have keeps_s3 : Keeps 0xFFFFFFFF000E4BE7E3F4061A s s3 := by
    unfold s3
    refine Keeps.fold ?_ (fun t1 y2 => ?_)
    · exact keeps_s2
    · refine Keeps.ite ?_ ?_
      · refine Keeps.then ?_ (State.rgaEnd_keeps _ _ _) rfl
        exact Keeps.refl _ _
      · exact Keeps.refl _ _
  refine Keeps.then ?_ (State.pump_keeps _ _ _) rfl
  exact keeps_s3

theorem State.seamsEnd_keeps (s : State) (gs : List Nat) : Keeps 0x400000000 s (State.seamsEnd s gs) := by
  unfold State.seamsEnd
  refine Keeps.fold ?_ (fun t1 y2 => ?_)
  · exact Keeps.refl _ _
  · refine Keeps.ite ?_ ?_
    · refine Keeps.then ?_ (State.seamMod_keeps _ _ _) rfl
      exact Keeps.refl _ _
    · exact Keeps.refl _ _

theorem State.recsOut_keeps (p0 : Nat) (p1 : Nat) (p2 : State) : Keeps 0x28021000000A060003100608 p2 (State.recsOut p0 p1 p2) := by
  induction p0 generalizing p1 p2 with
  | zero =>
    rw [State.recsOut]
    exact Keeps.refl _ _
  | succ j ih =>
    rw [State.recsOut]
    split
    · exact Keeps.refl _ _
    · refine Keeps.then ?_ (ih _ _) (Sub.refl _)
      refine Keeps.then ?_ (State.recNext_keeps _ _ _) rfl
      exact Keeps.refl _ _

theorem State.strmOut_keeps (s : State) (k : Nat) : Keeps 0x280214C0000E060003D0060A s (State.strmOut s k) := by
  unfold State.strmOut
  extract_lets +onlyGivenNames -merge -useContext s1
  have keeps_s1 : Keeps 0x280214C0000E060003D0060A s s1 := by
    unfold s1
    refine Keeps.then ?_ (State.strmDrain_keeps _ _) rfl
    exact Keeps.refl _ _
  refine Keeps.then ?_ (State.shedShow_keeps _) rfl
  refine Keeps.then ?_ (State.recsOut_keeps _ _ _) rfl
  exact keeps_s1

theorem State.patsOut_keeps (s : State) : Keeps 0x200210010008060023140608 s (State.patsOut s) := by
  unfold State.patsOut
  refine Keeps.fold ?_ (fun t1 y2 => ?_)
  · exact Keeps.refl _ _
  · refine Keeps.fold ?_ (fun t3 y4 => ?_)
    · exact Keeps.refl _ _
    · refine Keeps.then ?_ (State.via_keeps (msk := 0x200210010008060023140608) _ _ (by exact rfl) (fun z15 => ?_)) (Sub.refl _)
      · exact Keeps.refl _ _
      · refine KeepsO.then ?_ (execPatchCut_keeps _ _) rfl
        exact Keeps.refl _ _

theorem State.tapsEnd_keeps (s : State) (gs : List Nat) : Keeps 0x500210010008400083140608 s (State.tapsEnd s gs) := by
  unfold State.tapsEnd
  refine Keeps.fold ?_ (fun t1 y2 => ?_)
  · exact Keeps.refl _ _
  · refine Keeps.then ?_ (State.rowClose_keeps _ _) rfl
    refine Keeps.then ?_ (State.staClose_keeps _ _ _) rfl
    exact Keeps.refl _ _

theorem State.drainAll_keeps (s : State) (cause : Nat) : Keeps 0xFFFFFFFF000E4FE7E3F4061A s (State.drainAll s cause) := by
  unfold State.drainAll
  extract_lets +onlyGivenNames -merge -useContext gs
  extract_lets +onlyGivenNames -merge -useContext s1
  have keeps_s1 : Keeps 0xFFFFFFFF000E4FE7E3F4061A s s1 := by
    unfold s1
    refine Keeps.then ?_ (State.seamsEnd_keeps _ _) rfl
    refine Keeps.then ?_ (State.chainsEnd_keeps _ _ _) rfl
    exact Keeps.refl _ _
  extract_lets +onlyGivenNames -merge -useContext s2
  have keeps_s2 : Keeps 0xFFFFFFFF000E4FE7E3F4061A s s2 := by
    unfold s2
    refine Keeps.fold ?_ (fun t1 y2 => ?_)
    · exact keeps_s1
    · refine Keeps.then ?_ (State.strmOut_keeps _ _) rfl
      exact Keeps.refl _ _
  refine Keeps.then ?_ (State.tapsEnd_keeps _ _) rfl
  refine Keeps.then ?_ (State.patsOut_keeps _) rfl
  exact keeps_s2

end Sys2Proof.Machine
end

