-- ==== Sys2Proof/Laws/KeepsHarnessPlace.lean ====
section
/-! SUPPORT. Frames of the operations of Machine/HarnessPlace.lean: what each may change, one lemma each. -/

namespace Sys2Proof.Machine

theorem State.wfs_keeps (s : State) (i : Nat) (l : List (Fld × Nat)) : Keeps 0xFFFFFFFF0000000000000008 s (State.wfs s i l) := by
  unfold State.wfs
  refine Keeps.fold ?_ (fun t1 y2 => ?_)
  · exact Keeps.refl _ _
  · refine Keeps.then ?_ (State.wf_keeps _ _ _ _) (Sub.or rfl (Sub.anyBlk _ rfl))
    exact Keeps.refl _ _

theorem State.wdef_keeps (s : State) (i : Nat) (f : Fld) (v : Nat) : Keeps (0x48 ||| blkBit (f.blk)) s (State.wdef s i f v) := by
  unfold State.wdef
  extract_lets +onlyGivenNames -merge -useContext k
  extract_lets +onlyGivenNames -merge -useContext t
  have keeps_t : Keeps ((0x48 ||| blkBit (f.blk))) s t := by
    unfold t
    refine Keeps.then ?_ (State.wf_keeps _ _ _ _) (Sub.or (Sub.l rfl) (Sub.r _ _))
    exact Keeps.refl _ _
  refine Keeps.set_ydef ?_ (Sub.l rfl)
  exact keeps_t

theorem State.wdefs_keeps (s : State) (i : Nat) (l : List (Fld × Nat)) : Keeps 0xFFFFFFFF0000000000000048 s (State.wdefs s i l) := by
  unfold State.wdefs
  refine Keeps.fold ?_ (fun t1 y2 => ?_)
  · exact Keeps.refl _ _
  · refine Keeps.then ?_ (State.wdef_keeps _ _ _ _) (Sub.or rfl (Sub.anyBlk _ rfl))
    exact Keeps.refl _ _

theorem State.wyoke_keeps (s : State) (e : Nat × Nat) : Keeps 0xFFFFFFFF0000000000000048 s (State.wyoke s e) := by
  unfold State.wyoke
  split
  · exact Keeps.refl _ _
  · extract_lets +onlyGivenNames -merge -useContext k
    extract_lets +onlyGivenNames -merge -useContext rws
    extract_lets +onlyGivenNames -merge -useContext mix
    extract_lets +onlyGivenNames -merge -useContext __src
    have keeps___src : Keeps 0xFFFFFFFF0000000000000048 s __src := by
      unfold __src
      refine Keeps.then ?_ (State.setWord_keeps _ _ _ _ _) (Sub.or rfl (Sub.anyBlk _ rfl))
      exact Keeps.refl _ _
    refine Keeps.set_ydef ?_ rfl
    exact keeps___src

theorem State.placeSeam_keeps (s : State) (g : Nat) : Keeps 0xFFFFFFFF0000000000000008 s (State.placeSeam s g) := by
  unfold State.placeSeam
  refine Keeps.ite ?_ ?_
  · exact Keeps.refl _ _
  · extract_lets +onlyGivenNames -merge -useContext link
    extract_lets +onlyGivenNames -merge -useContext f
    split
    · refine Keeps.ite ?_ ?_
      · refine Keeps.then ?_ (State.wf_keeps _ _ _ _) (Sub.or rfl (Sub.blk .CPL (by first | rfl | exact blk_ite rfl rfl) rfl))
        exact Keeps.refl _ _
      · refine Keeps.then ?_ (State.wfs_keeps _ _ _) rfl
        exact Keeps.refl _ _
    · refine Keeps.then ?_ (State.wf_keeps _ _ _ _) (Sub.or rfl (Sub.blk .CPL (by first | rfl | exact blk_ite rfl rfl) rfl))
      exact Keeps.refl _ _

theorem State.placeCarriage_keeps (s : State) (r : CarrRec) : Keeps 0xFFFFFFFF0000000000000008 s (State.placeCarriage s r) := by
  unfold State.placeCarriage
  extract_lets +onlyGivenNames -merge -useContext g
  extract_lets +onlyGivenNames -merge -useContext w
  extract_lets +onlyGivenNames -merge -useContext lanes
  extract_lets +onlyGivenNames -merge -useContext vox
  extract_lets +onlyGivenNames -merge -useContext put
  extract_lets +onlyGivenNames -merge -useContext s1
  have keeps_s1 : Keeps 0xFFFFFFFF0000000000000008 s s1 := by
    unfold s1
    unfold put
    refine Keeps.ite ?_ ?_
    · refine Keeps.then ?_ (State.wfs_keeps _ _ _) rfl
      exact Keeps.refl _ _
    · exact Keeps.refl _ _
  extract_lets +onlyGivenNames -merge -useContext s2
  have keeps_s2 : Keeps 0xFFFFFFFF0000000000000008 s s2 := by
    unfold s2
    unfold put
    refine Keeps.ite ?_ ?_
    · refine Keeps.then ?_ (State.wfs_keeps _ _ _) rfl
      exact keeps_s1
    · exact keeps_s1
  extract_lets +onlyGivenNames -merge -useContext s3
  have keeps_s3 : Keeps 0xFFFFFFFF0000000000000008 s s3 := by
    unfold s3
    unfold put
    refine Keeps.ite ?_ ?_
    · refine Keeps.then ?_ (State.wfs_keeps _ _ _) rfl
      exact keeps_s2
    · exact keeps_s2
  extract_lets +onlyGivenNames -merge -useContext s4
  have keeps_s4 : Keeps 0xFFFFFFFF0000000000000008 s s4 := by
    unfold s4
    unfold put
    refine Keeps.ite ?_ ?_
    · refine Keeps.then ?_ (State.wfs_keeps _ _ _) rfl
      exact keeps_s3
    · exact keeps_s3
  extract_lets +onlyGivenNames -merge -useContext s5
  have keeps_s5 : Keeps 0xFFFFFFFF0000000000000008 s s5 := by
    unfold s5
    unfold put
    refine Keeps.ite ?_ ?_
    · refine Keeps.then ?_ (State.wfs_keeps _ _ _) rfl
      exact keeps_s4
    · exact keeps_s4
  extract_lets +onlyGivenNames -merge -useContext s6
  have keeps_s6 : Keeps 0xFFFFFFFF0000000000000008 s s6 := by
    unfold s6
    unfold put
    refine Keeps.ite ?_ ?_
    · refine Keeps.then ?_ (State.wfs_keeps _ _ _) rfl
      exact keeps_s5
    · exact keeps_s5
  unfold put
  refine Keeps.ite ?_ ?_
  · refine Keeps.then ?_ (State.wfs_keeps _ _ _) rfl
    exact keeps_s6
  · exact keeps_s6

theorem State.unbindArchive_keeps (s : State) (g : Nat) : Keeps 0x400000000000000000000008 s (State.unbindArchive s g) := by
  unfold State.unbindArchive
  refine Keeps.fold ?_ (fun t1 y2 => ?_)
  · exact Keeps.refl _ _
  · extract_lets +onlyGivenNames -merge -useContext i
    refine Keeps.ite ?_ ?_
    · refine Keeps.then ?_ (State.wf_keeps _ _ _ _) rfl
      exact Keeps.refl _ _
    · exact Keeps.refl _ _

theorem State.bindArchive_keeps (s : State) (im : Image) (r : CarrRec) : Keeps 0xFFFFFFFF0000000000000008 s (State.bindArchive s im r) := by
  unfold State.bindArchive
  extract_lets +onlyGivenNames -merge -useContext g
  split
  · exact Keeps.refl _ _
  · refine Keeps.ite ?_ ?_
    · exact Keeps.refl _ _
    · extract_lets +onlyGivenNames -merge -useContext i
      extract_lets +onlyGivenNames -merge -useContext n
      extract_lets +onlyGivenNames -merge -useContext o
      extract_lets +onlyGivenNames -merge -useContext w
      extract_lets +onlyGivenNames -merge -useContext total
      extract_lets +onlyGivenNames -merge -useContext a
      extract_lets +onlyGivenNames -merge -useContext d
      extract_lets +onlyGivenNames -merge -useContext v
      extract_lets +onlyGivenNames -merge -useContext part
      refine Keeps.then ?_ (State.wfs_keeps _ _ _) rfl
      exact Keeps.refl _ _

theorem State.placeMews_keeps (s : State) (im : Image) (r : MewsRec) : Keeps 0xFFFFFFFF0000000000000008 s (State.placeMews s im r) := by
  unfold State.placeMews
  extract_lets +onlyGivenNames -merge -useContext kind
  refine Keeps.then ?_ (State.wfs_keeps _ _ _) rfl
  exact Keeps.refl _ _

theorem State.placeLane_keeps (s : State) (r : LaneRec) : Keeps 0xFFFFFFFF0000000000000008 s (State.placeLane s r) := by
  unfold State.placeLane
  refine Keeps.then ?_ (State.wfs_keeps _ _ _) rfl
  exact Keeps.refl _ _

theorem State.placeWht_keeps (s : State) (im : Image) (c : Nat) (u : Nat) :
    Keeps 0xFFFFFFFF0000000000000048 s (State.placeWht s im c u) := by
  unfold State.placeWht
  extract_lets +onlyGivenNames -merge -useContext i
  extract_lets +onlyGivenNames -merge -useContext recs
  extract_lets +onlyGivenNames -merge -useContext s1
  have keeps_s1 : Keeps 0xFFFFFFFF0000000000000048 s s1 := by
    unfold s1
    refine Keeps.fold ?_ (fun t1 y2 => ?_)
    · exact Keeps.refl _ _
    · refine Keeps.then ?_ (State.wdef_keeps _ _ _ _) (Sub.or rfl (Sub.blk .WHT (by first | rfl | exact blk_ite rfl rfl) rfl))
      exact Keeps.refl _ _
  extract_lets +onlyGivenNames -merge -useContext s2
  have keeps_s2 : Keeps 0xFFFFFFFF0000000000000048 s s2 := by
    unfold s2
    refine Keeps.fold ?_ (fun t3 y4 => ?_)
    · exact keeps_s1
    · refine Keeps.then ?_ (State.wdefs_keeps _ _ _) rfl
      exact Keeps.refl _ _
  extract_lets +onlyGivenNames -merge -useContext mask
  refine Keeps.then ?_ (State.wfs_keeps _ _ _) rfl
  exact keeps_s2

theorem State.placeDmc_keeps (s : State) (im : Image) (ch : Nat) : Keeps 0xFFFFFFFF0000000000000008 s (State.placeDmc s im ch) := by
  unfold State.placeDmc
  extract_lets +onlyGivenNames -merge -useContext i
  split
  · exact Keeps.refl _ _
  · refine Keeps.then ?_ (State.wfs_keeps _ _ _) rfl
    exact Keeps.refl _ _

theorem State.placeCoach_keeps (s : State) (im : Image) (c : Nat) : Keeps 0xFFFFFFFF0000000000000048 s (State.placeCoach s im c) := by
  unfold State.placeCoach
  extract_lets +onlyGivenNames -merge -useContext i
  extract_lets +onlyGivenNames -merge -useContext s1
  have keeps_s1 : Keeps 0xFFFFFFFF0000000000000048 s s1 := by
    unfold s1
    refine Keeps.then ?_ (State.wfs_keeps _ _ _) rfl
    exact Keeps.refl _ _
  extract_lets +onlyGivenNames -merge -useContext s2
  have keeps_s2 : Keeps 0xFFFFFFFF0000000000000048 s s2 := by
    unfold s2
    refine Keeps.fold ?_ (fun t1 y2 => ?_)
    · exact keeps_s1
    · refine Keeps.then ?_ (State.placeWht_keeps _ _ _ _) rfl
      exact Keeps.refl _ _
  extract_lets +onlyGivenNames -merge -useContext s3
  have keeps_s3 : Keeps 0xFFFFFFFF0000000000000048 s s3 := by
    unfold s3
    refine Keeps.fold ?_ (fun t3 y4 => ?_)
    · exact keeps_s2
    · refine Keeps.then ?_ (State.placeDmc_keeps _ _ _) rfl
      exact Keeps.refl _ _
  extract_lets +onlyGivenNames -merge -useContext s4
  have keeps_s4 : Keeps 0xFFFFFFFF0000000000000048 s s4 := by
    unfold s4
    refine Keeps.fold ?_ (fun t5 y6 => ?_)
    · exact keeps_s3
    · refine Keeps.then ?_ (State.wfs_keeps _ _ _) rfl
      exact Keeps.refl _ _
  refine Keeps.fold ?_ (fun t7 y8 => ?_)
  · exact keeps_s4
  · refine Keeps.then ?_ (State.wfs_keeps _ _ _) rfl
    exact Keeps.refl _ _

theorem State.placeChannel_keeps (s : State) (r : ReinRec) : Keeps 0xFFFFFFFF0000000000000048 s (State.placeChannel s r) := by
  unfold State.placeChannel
  refine Keeps.ite ?_ ?_
  · extract_lets +onlyGivenNames -merge -useContext trunk
    extract_lets +onlyGivenNames -merge -useContext i
    extract_lets +onlyGivenNames -merge -useContext o
    refine Keeps.ite ?_ ?_
    · refine Keeps.then ?_ (State.wdefs_keeps _ _ _) rfl
      exact Keeps.refl _ _
    · refine Keeps.then ?_ (State.wdefs_keeps _ _ _) rfl
      exact Keeps.refl _ _
  · refine Keeps.ite ?_ ?_
    · extract_lets +onlyGivenNames -merge -useContext o
      refine Keeps.then ?_ (State.wdefs_keeps _ _ _) rfl
      exact Keeps.refl _ _
    · exact Keeps.refl _ _

theorem State.placeBinding_keeps (s : State) (c : Nat) (n : Nat) (r : ReinRec) (idx : Nat) :
    Keeps 0xFFFFFFFF0000000000000048 s (State.placeBinding s c n r idx) := by
  unfold State.placeBinding
  extract_lets +onlyGivenNames -merge -useContext i
  extract_lets +onlyGivenNames -merge -useContext o
  refine Keeps.ite ?_ ?_
  · refine Keeps.then ?_ (State.wdefs_keeps _ _ _) rfl
    exact Keeps.refl _ _
  · refine Keeps.then ?_ (State.wdefs_keeps _ _ _) rfl
    exact Keeps.refl _ _

theorem State.placeReins_keeps (s : State) (im : Image) : Keeps 0xFFFFFFFF0000000000000048 s (State.placeReins s im) := by
  unfold State.placeReins
  extract_lets +onlyGivenNames -merge -useContext s1
  have keeps_s1 : Keeps 0xFFFFFFFF0000000000000048 s s1 := by
    unfold s1
    refine Keeps.fold ?_ (fun t1 y2 => ?_)
    · exact Keeps.refl _ _
    · refine Keeps.then ?_ (State.placeChannel_keeps _ _) rfl
      exact Keeps.refl _ _
  refine Keeps.fold ?_ (fun t3 y4 => ?_)
  · exact keeps_s1
  · refine Keeps.fold ?_ (fun t5 y6 => ?_)
    · exact Keeps.refl _ _
    · refine Keeps.fold ?_ (fun t7 y8 => ?_)
      · exact Keeps.refl _ _
      · refine Keeps.then ?_ (State.placeBinding_keeps _ _ _ _ _) rfl
        exact Keeps.refl _ _

theorem State.postDefaults_keeps (s : State) : Keeps 0xFFFFFFFF0000000000000008 s (State.postDefaults s) := by
  unfold State.postDefaults
  refine Keeps.fold ?_ (fun t1 y2 => ?_)
  · exact Keeps.refl _ _
  · refine Keeps.then ?_ (State.wfs_keeps _ _ _) rfl
    exact Keeps.refl _ _

theorem State.placePost_keeps (s : State) (im : Image) : Keeps 0xFFFFFFFF0000000000000008 s (State.placePost s im) := by
  unfold State.placePost
  extract_lets +onlyGivenNames -merge -useContext s1
  have keeps_s1 : Keeps 0xFFFFFFFF0000000000000008 s s1 := by
    unfold s1
    refine Keeps.fold ?_ (fun t1 y2 => ?_)
    · refine Keeps.then ?_ (State.postDefaults_keeps _) rfl
      exact Keeps.refl _ _
    · refine Keeps.then ?_ (State.wf_keeps _ _ _ _) (Sub.or rfl (Sub.blk .LCH (by first | rfl | exact blk_ite rfl rfl) rfl))
      exact Keeps.refl _ _
  refine Keeps.fold ?_ (fun t3 y4 => ?_)
  · exact keeps_s1
  · refine Keeps.ite ?_ ?_
    · refine Keeps.then ?_ (State.wfs_keeps _ _ _) rfl
      exact Keeps.refl _ _
    · refine Keeps.then ?_ (State.wf_keeps _ _ _ _) (Sub.or rfl (Sub.blk .LCH (by first | rfl | exact blk_ite rfl rfl) rfl))
      exact Keeps.refl _ _

theorem State.placeTime_keeps (s : State) (im : Image) : Keeps 0xFFFFFFFF0000000000400008 s (State.placeTime s im) := by
  unfold State.placeTime
  extract_lets +onlyGivenNames -merge -useContext s1
  have keeps_s1 : Keeps 0xFFFFFFFF0000000000400008 s s1 := by
    unfold s1
    split
    · refine Keeps.then ?_ (State.wfs_keeps _ _ _) rfl
      exact Keeps.refl _ _
    · refine Keeps.then ?_ (State.wf_keeps _ _ _ _) (Sub.or rfl rfl)
      exact Keeps.refl _ _
  extract_lets +onlyGivenNames -merge -useContext asym
  refine Keeps.set_tmt ?_ rfl
  exact keeps_s1

theorem State.placePort_keeps (s : State) (r : WaywRec) : Keeps 0xFFFFFFFF0000000000000048 s (State.placePort s r) := by
  unfold State.placePort
  extract_lets +onlyGivenNames -merge -useContext f
  extract_lets +onlyGivenNames -merge -useContext s1
  have keeps_s1 : Keeps 0xFFFFFFFF0000000000000048 s s1 := by
    unfold s1
    refine Keeps.then ?_ (State.wfs_keeps _ _ _) rfl
    exact Keeps.refl _ _
  refine Keeps.then ?_ (State.wdefs_keeps _ _ _) rfl
  exact keeps_s1

theorem State.placeNpc_keeps (s : State) (r : WaywRec) : Keeps 0xFFFFFFFF0000000000000048 s (State.placeNpc s r) := by
  unfold State.placeNpc
  refine Keeps.ite ?_ ?_
  · exact Keeps.refl _ _
  · refine Keeps.then ?_ (State.wdefs_keeps _ _ _) rfl
    exact Keeps.refl _ _

theorem State.placePackage_keeps (s : State) (im : Image) : Keeps 0xFFFFFFFF0000000000000048 s (State.placePackage s im) := by
  unfold State.placePackage
  extract_lets +onlyGivenNames -merge -useContext h
  extract_lets +onlyGivenNames -merge -useContext s1
  have keeps_s1 : Keeps 0xFFFFFFFF0000000000000048 s s1 := by
    unfold s1
    refine Keeps.then ?_ (State.wdef_keeps _ _ _ _) (Sub.or rfl rfl)
    exact Keeps.refl _ _
  extract_lets +onlyGivenNames -merge -useContext s2
  have keeps_s2 : Keeps 0xFFFFFFFF0000000000000048 s s2 := by
    unfold s2
    refine Keeps.then ?_ (State.wfs_keeps _ _ _) rfl
    exact keeps_s1
  extract_lets +onlyGivenNames -merge -useContext q
  extract_lets +onlyGivenNames -merge -useContext slots
  extract_lets +onlyGivenNames -merge -useContext s3
  have keeps_s3 : Keeps 0xFFFFFFFF0000000000000048 s s3 := by
    unfold s3
    refine Keeps.then ?_ (State.wfs_keeps _ _ _) rfl
    exact keeps_s2
  split
  · refine Keeps.then ?_ (State.wfs_keeps _ _ _) rfl
    exact keeps_s3
  · exact keeps_s3

theorem State.placed_keeps (s : State) (im : Image) : Keeps 0xFFFFFFFF0000000000410178 s (State.placed s im) := by
  unfold State.placed
  extract_lets +onlyGivenNames -merge -useContext held
  extract_lets +onlyGivenNames -merge -useContext keep
  extract_lets +onlyGivenNames -merge -useContext s0
  extract_lets +onlyGivenNames -merge -useContext s0_2
  have keeps_s0_2 : Keeps 0xFFFFFFFF0000000000410178 s s0_2 := by
    unfold s0_2
    refine Keeps.set_staged_stager_ydef_dir_hdr ?_ rfl
    exact Keeps.refl _ _
  extract_lets +onlyGivenNames -merge -useContext s1
  have keeps_s1 : Keeps 0xFFFFFFFF0000000000410178 s s1 := by
    unfold s1
    refine Keeps.then ?_ (State.clearShown_keeps _ _ _) rfl
    refine Keeps.then ?_ (State.restore_keeps _ _ _) rfl
    exact keeps_s0_2
  extract_lets +onlyGivenNames -merge -useContext s2
  have keeps_s2 : Keeps 0xFFFFFFFF0000000000410178 s s2 := by
    unfold s2
    refine Keeps.fold ?_ (fun t1 y2 => ?_)
    · exact keeps_s1
    · refine Keeps.then ?_ (State.placeLane_keeps _ _) rfl
      exact Keeps.refl _ _
  extract_lets +onlyGivenNames -merge -useContext s3
  have keeps_s3 : Keeps 0xFFFFFFFF0000000000410178 s s3 := by
    unfold s3
    refine Keeps.fold ?_ (fun t3 y4 => ?_)
    · exact keeps_s2
    · refine Keeps.then ?_ (State.placeCoach_keeps _ _ _) rfl
      exact Keeps.refl _ _
  extract_lets +onlyGivenNames -merge -useContext s4
  have keeps_s4 : Keeps 0xFFFFFFFF0000000000410178 s s4 := by
    unfold s4
    refine Keeps.fold ?_ (fun t5 y6 => ?_)
    · exact keeps_s3
    · refine Keeps.then ?_ (State.placeMews_keeps _ _ _) rfl
      exact Keeps.refl _ _
  extract_lets +onlyGivenNames -merge -useContext s5
  have keeps_s5 : Keeps 0xFFFFFFFF0000000000410178 s s5 := by
    unfold s5
    refine Keeps.fold ?_ (fun t7 y8 => ?_)
    · exact keeps_s4
    · refine Keeps.then ?_ (State.bindArchive_keeps _ _ _) rfl
      refine Keeps.then ?_ (State.placeCarriage_keeps _ _) rfl
      exact Keeps.refl _ _
  extract_lets +onlyGivenNames -merge -useContext s6
  have keeps_s6 : Keeps 0xFFFFFFFF0000000000410178 s s6 := by
    unfold s6
    refine Keeps.fold ?_ (fun t9 y10 => ?_)
    · exact keeps_s5
    · refine Keeps.then ?_ (State.placeSeam_keeps _ _) rfl
      exact Keeps.refl _ _
  extract_lets +onlyGivenNames -merge -useContext s7
  have keeps_s7 : Keeps 0xFFFFFFFF0000000000410178 s s7 := by
    unfold s7
    refine Keeps.then ?_ (State.placePackage_keeps _ _) rfl
    refine Keeps.then ?_ (State.placeReins_keeps _ _) rfl
    refine Keeps.then ?_ (State.placeTime_keeps _ _) rfl
    refine Keeps.then ?_ (State.placePost_keeps _ _) rfl
    exact keeps_s6
  extract_lets +onlyGivenNames -merge -useContext s8
  have keeps_s8 : Keeps 0xFFFFFFFF0000000000410178 s s8 := by
    unfold s8
    refine Keeps.fold ?_ (fun t11 y12 => ?_)
    · exact keeps_s7
    · refine Keeps.then ?_ (State.placeNpc_keeps _ _) rfl
      refine Keeps.then ?_ (State.placePort_keeps _ _) rfl
      exact Keeps.refl _ _
  extract_lets +onlyGivenNames -merge -useContext s9
  have keeps_s9 : Keeps 0xFFFFFFFF0000000000410178 s s9 := by
    unfold s9
    refine Keeps.fold ?_ (fun t13 y14 => ?_)
    · exact keeps_s8
    · refine Keeps.then ?_ (State.wyoke_keeps _ _) rfl
      exact Keeps.refl _ _
  refine Keeps.fold ?_ (fun t15 y16 => ?_)
  · exact keeps_s9
  · refine Keeps.then ?_ (State.setWord_keeps _ _ _ _ _) (Sub.or rfl (Sub.anyBlk _ rfl))
    exact Keeps.refl _ _

theorem State.patchBindings_keeps (s : State) (im : Image) (kind : Nat) (c : Nat) :
    Keeps 0xFFFFFFFF0000000000000048 s (State.patchBindings s im kind c) := by
  unfold State.patchBindings
  extract_lets +onlyGivenNames -merge -useContext i
  extract_lets +onlyGivenNames -merge -useContext en
  extract_lets +onlyGivenNames -merge -useContext x1
  extract_lets +onlyGivenNames -merge -useContext s1
  have keeps_s1 : Keeps 0xFFFFFFFF0000000000000048 s s1 := by
    unfold s1
    refine Keeps.fold ?_ (fun t2 y3 => ?_)
    · exact Keeps.refl _ _
    · refine Keeps.then ?_ (State.wdef_keeps _ _ _ _) (Sub.or rfl (Sub.blk .REI (by first | rfl | exact blk_ite rfl rfl) rfl))
      exact Keeps.refl _ _
  refine Keeps.fold ?_ (fun t4 y5 => ?_)
  · exact keeps_s1
  · split
    · refine Keeps.then ?_ (State.placeBinding_keeps _ _ _ _ _) rfl
      exact Keeps.refl _ _
    · exact Keeps.refl _ _

theorem State.placedPatch_keeps (s : State) (im : Image) : Keeps 0xFFFFFFFF0000000000010178 s (State.placedPatch s im) := by
  unfold State.placedPatch
  extract_lets +onlyGivenNames -merge -useContext g
  extract_lets +onlyGivenNames -merge -useContext dir
  extract_lets +onlyGivenNames -merge -useContext mine
  extract_lets +onlyGivenNames -merge -useContext lanesNew
  extract_lets +onlyGivenNames -merge -useContext gone
  extract_lets +onlyGivenNames -merge -useContext win
  extract_lets +onlyGivenNames -merge -useContext fresh
  extract_lets +onlyGivenNames -merge -useContext parts
  extract_lets +onlyGivenNames -merge -useContext old
  have keeps_old : Keeps 0xFFFFFFFF0000000000010178 s old := by
    unfold old
    refine Keeps.ite ?_ ?_
    · exact Keeps.refl _ _
    · refine Keeps.fold ?_ (fun t1 y2 => ?_)
      · exact Keeps.refl _ _
      · refine Keeps.fold ?_ (fun t3 y4 => ?_)
        · exact Keeps.refl _ _
        · refine Keeps.then ?_ (State.patchBindings_keeps _ _ _ _) rfl
          exact Keeps.refl _ _
  extract_lets +onlyGivenNames -merge -useContext s0
  extract_lets +onlyGivenNames -merge -useContext s0_2
  have keeps_s0_2 : Keeps 0xFFFFFFFF0000000000010178 s s0_2 := by
    unfold s0_2
    refine Keeps.set_staged_stager_ydef_dir_hdr ?_ rfl
    exact keeps_old
  extract_lets +onlyGivenNames -merge -useContext s1
  have keeps_s1 : Keeps 0xFFFFFFFF0000000000010178 s s1 := by
    unfold s1
    refine Keeps.then ?_ (State.clearShown_keeps _ _ _) rfl
    refine Keeps.then ?_ (State.restore_keeps _ _ _) rfl
    exact keeps_s0_2
  extract_lets +onlyGivenNames -merge -useContext s2
  have keeps_s2 : Keeps 0xFFFFFFFF0000000000010178 s s2 := by
    unfold s2
    refine Keeps.fold ?_ (fun t5 y6 => ?_)
    · refine Keeps.fold ?_ (fun t7 y8 => ?_)
      · exact keeps_s1
      · refine Keeps.then ?_ (State.setWord_keeps _ _ _ _ _) rfl
        exact Keeps.refl _ _
    · refine Keeps.then ?_ (State.placeLane_keeps _ _) rfl
      exact Keeps.refl _ _
  extract_lets +onlyGivenNames -merge -useContext s3
  have keeps_s3 : Keeps 0xFFFFFFFF0000000000010178 s s3 := by
    unfold s3
    refine Keeps.fold ?_ (fun t9 y10 => ?_)
    · exact keeps_s2
    · refine Keeps.then ?_ (State.placeMews_keeps _ _ _) rfl
      exact Keeps.refl _ _
  extract_lets +onlyGivenNames -merge -useContext s4
  have keeps_s4 : Keeps 0xFFFFFFFF0000000000010178 s s4 := by
    unfold s4
    refine Keeps.fold ?_ (fun t11 y12 => ?_)
    · exact keeps_s3
    · refine Keeps.then ?_ (State.placeChannel_keeps _ _) rfl
      exact Keeps.refl _ _
  extract_lets +onlyGivenNames -merge -useContext s5
  have keeps_s5 : Keeps 0xFFFFFFFF0000000000010178 s s5 := by
    unfold s5
    refine Keeps.fold ?_ (fun t13 y14 => ?_)
    · refine Keeps.then ?_ (State.unbindArchive_keeps _ _) rfl
      exact keeps_s4
    · refine Keeps.then ?_ (State.bindArchive_keeps _ _ _) rfl
      refine Keeps.then ?_ (State.placeCarriage_keeps _ _) rfl
      exact Keeps.refl _ _
  refine Keeps.fold ?_ (fun t15 y16 => ?_)
  · exact keeps_s5
  · refine Keeps.then ?_ (State.wyoke_keeps _ _) rfl
    exact Keeps.refl _ _

end Sys2Proof.Machine
end

