-- ==== Sys2Proof/Laws/KeepsHarnessApply.lean ====
section
/-! SUPPORT. Frames of the operations of Machine/HarnessApply.lean: what each may change, one lemma each. -/

namespace Sys2Proof.Machine

theorem State.hdrFail_keeps (s : State) (e : HErr) (log : Bool) : Keeps 0x10020000000000140608 s (State.hdrFail s e log) := by
  unfold State.hdrFail
  refine Keeps.then ?_ (State.ev_keeps _ _ _) (Sub.or rfl rfl)
  refine Keeps.then ?_ (State.hcode_keeps _ _ _ _ _ _ _) rfl
  exact Keeps.refl _ _

theorem State.pairEnds_keeps (s : State) : Keeps 0x8021241000A020003540608 s (State.pairEnds s) := by
  unfold State.pairEnds
  refine Keeps.ite ?_ ?_
  · refine Keeps.then ?_ (State.wf_keeps _ _ _ _) rfl
    refine Keeps.then ?_ (State.flushAwaiting_keeps _ _) rfl
    exact Keeps.refl _ _
  · refine Keeps.ite ?_ ?_
    · refine Keeps.then ?_ (State.toRole_keeps _ _) rfl
      refine Keeps.then ?_ (State.pairMod_keeps _ _) rfl
      exact Keeps.refl _ _
    · exact Keeps.refl _ _

theorem State.holdDrops_keeps (s : State) : Keeps 0x12410002000000540608 s (State.holdDrops s) := by
  unfold State.holdDrops
  refine Keeps.ite ?_ ?_
  · refine Keeps.then ?_ (State.toRole_keeps _ _) rfl
    refine Keeps.then ?_ (State.pairMod_keeps _ _) rfl
    exact Keeps.refl _ _
  · exact Keeps.refl _ _

theorem State.applyBegins_keeps (s : State) : Keeps 0x826D245000A02180B7C0638 s (State.applyBegins s) := by
  unfold State.applyBegins
  refine Keeps.then ?_ (State.pairEnds_keeps _) rfl
  refine Keeps.then ?_ (State.whtHoldAll_keeps _ _) rfl
  refine Keeps.then ?_ (State.drayStopAll_keeps _ _ _) rfl
  refine Keeps.then ?_ (State.wwtAbandon_keeps _) rfl
  refine Keeps.then ?_ (State.yokeCancelAll_keeps _) rfl
  exact Keeps.refl _ _

theorem State.applyDrained_keeps (s : State) : Keeps 0xFFFFFFFF000E4FE7E3F4061A s (State.applyDrained s) := by
  unfold State.applyDrained
  refine Keeps.then ?_ (State.holdDrops_keeps _) rfl
  refine Keeps.then ?_ (State.drainAll_keeps _ _) rfl
  exact Keeps.refl _ _

theorem State.arcKeep_keeps (s : State) (old : State) (g : Nat) : Keeps 0x400000000000400000000008 s (State.arcKeep s old g) := by
  unfold State.arcKeep
  split
  · refine Keeps.then ?_ (State.arcRestore_keeps _ _ _ _ _ _ _ _) rfl
    exact Keeps.refl _ _
  · exact Keeps.refl _ _

theorem State.arcStart_keeps (s : State) (g : Nat) : Keeps 0xFFFFFFFF0000000000000008 s (State.arcStart s g) := by
  unfold State.arcStart
  split
  · refine Keeps.then ?_ (State.wfs_keeps _ _ _) rfl
    exact Keeps.refl _ _
  · exact Keeps.refl _ _

theorem State.enginesFresh_keeps (s : State) (grid : Nat) (keptHist : List Nat) :
    Keeps 0x1CFFFF8100000 s (State.enginesFresh s grid keptHist) := by
  unfold State.enginesFresh
  refine Keeps.set_many21 ?_ rfl
  exact Keeps.refl _ _

theorem State.fabricFresh_keeps (s : State) : Keeps 0x90000000000000000008 s (State.fabricFresh s) := by
  unfold State.fabricFresh
  refine Keeps.fold ?_ (fun t1 y2 => ?_)
  · exact Keeps.refl _ _
  · extract_lets +onlyGivenNames -merge -useContext i
    extract_lets +onlyGivenNames -merge -useContext x3
    have keeps_x3 : Keeps 0x90000000000000000008 t1 x3 := by
      unfold x3
      refine Keeps.fold ?_ (fun t4 y5 => ?_)
      · exact Keeps.refl _ _
      · refine Keeps.then ?_ (State.wf_keeps _ _ _ _) (Sub.or rfl (Sub.blk .DRY (by first | rfl | exact blk_ite rfl rfl) rfl))
        exact Keeps.refl _ _
    refine Keeps.fold ?_ (fun t6 y7 => ?_)
    · exact keeps_x3
    · refine Keeps.then ?_ (State.setWord_keeps _ _ _ _ _) (Sub.or rfl rfl)
      exact Keeps.refl _ _

theorem State.lanesKeep_keeps (s : State) (old : State) (recs : List LaneRec) :
    Keeps 0xFFFFFFFF0000300000000008 s (State.lanesKeep s old recs) := by
  unfold State.lanesKeep
  extract_lets +onlyGivenNames -merge -useContext keep
  extract_lets +onlyGivenNames -merge -useContext sameConn
  extract_lets +onlyGivenNames -merge -useContext s1
  have keeps_s1 : Keeps 0xFFFFFFFF0000300000000008 s s1 := by
    unfold s1
    refine Keeps.fold ?_ (fun t1 y2 => ?_)
    · exact Keeps.refl _ _
    · refine Keeps.ite ?_ ?_
      · exact Keeps.refl _ _
      · refine Keeps.then ?_ (State.setWord_keeps _ _ _ _ _) (Sub.or rfl rfl)
        exact Keeps.refl _ _
  extract_lets +onlyGivenNames -merge -useContext s2
  have keeps_s2 : Keeps 0xFFFFFFFF0000300000000008 s s2 := by
    unfold s2
    refine Keeps.fold ?_ (fun t3 y4 => ?_)
    · exact keeps_s1
    · extract_lets +onlyGivenNames -merge -useContext i
      refine Keeps.then ?_ (State.wfs_keeps _ _ _) rfl
      exact Keeps.refl _ _
  refine Keeps.set_lanes_conns ?_ rfl
  exact keeps_s2

theorem State.lanesGo_keeps (s : State) (old : State) (recs : List LaneRec) :
    Keeps 0x81200000030000010060A s (State.lanesGo s old recs) := by
  unfold State.lanesGo
  refine Keeps.fold ?_ (fun t1 y2 => ?_)
  · exact Keeps.refl _ _
  · refine Keeps.ite ?_ ?_
    · refine Keeps.then ?_ (State.laneFollow_keeps _ _) rfl
      exact Keeps.refl _ _
    · refine Keeps.then ?_ (State.laneStart_keeps _ _) rfl
      exact Keeps.refl _ _

theorem State.portsLoad_keeps (s : State) (im : Image) : Keeps 0xFFFFFFFF0000000000800008 s (State.portsLoad s im) := by
  unfold State.portsLoad
  extract_lets +onlyGivenNames -merge -useContext s1
  have keeps_s1 : Keeps 0xFFFFFFFF0000000000800008 s s1 := by
    unfold s1
    refine Keeps.then ?_ (State.wayLoad_keeps _ _) rfl
    exact Keeps.refl _ _
  refine Keeps.fold ?_ (fun t1 y2 => ?_)
  · exact keeps_s1
  · refine Keeps.ite ?_ ?_
    · exact Keeps.refl _ _
    · extract_lets +onlyGivenNames -merge -useContext x3
      have keeps_x3 : Keeps 0xFFFFFFFF0000000000800008 t1 x3 := by
        unfold x3
        refine Keeps.fold ?_ (fun t4 y5 => ?_)
        · exact Keeps.refl _ _
        · refine Keeps.then ?_ (State.setWord_keeps _ _ _ _ _) (Sub.or rfl rfl)
          exact Keeps.refl _ _
      refine Keeps.then ?_ (State.rebase_keeps _ _) rfl
      refine Keeps.then ?_ (State.portMod_keeps _ _ _) rfl
      exact keeps_x3

theorem initTop_keeps (s : State) (m : Nat) (l : Loc) (w : Word) : Keeps 0x11030000000000140608 s (initTop s m l w) := by
  unfold initTop
  refine Keeps.ite ?_ ?_
  · refine Keeps.ite ?_ ?_
    · refine Keeps.then ?_ (State.hdrFail_keeps _ _ _) rfl
      exact Keeps.refl _ _
    · exact Keeps.refl _ _
  · refine Keeps.ite ?_ ?_
    · refine Keeps.then ?_ (State.on_keeps (msk := 0x11030000000000140608) _ _ _ (by exact rfl) (fun z1 => ?_)) (Sub.refl _)
      · exact Keeps.refl _ _
      · refine Keeps.then ?_ (State.ev_keeps _ _ _) (Sub.or rfl rfl)
        refine Keeps.then ?_ (State.gcode_keeps _ _ _ _) rfl
        exact Keeps.refl _ _
    · refine Keeps.ite ?_ ?_
      · refine Keeps.then ?_ (State.on_keeps (msk := 0x11030000000000140608) _ _ _ (by exact rfl) (fun z2 => ?_)) (Sub.refl _)
        · exact Keeps.refl _ _
        · refine Keeps.then ?_ (State.gcode_keeps _ _ _ _) rfl
          exact Keeps.refl _ _
      · exact Keeps.refl _ _

theorem State.initOne_keeps (s : State) (r : InitRec) : Keeps 0xFFFFFFFF000AB21F7FFFF6BA s (State.initOne s r) := by
  unfold State.initOne
  split
  · exact Keeps.refl _ _
  · extract_lets +onlyGivenNames -merge -useContext v
    extract_lets +onlyGivenNames -merge -useContext rw
    extract_lets +onlyGivenNames -merge -useContext act
    extract_lets +onlyGivenNames -merge -useContext x
    have keeps_x : Keeps 0xFFFFFFFF000AB21F7FFFF6BA s x.2.1 := by
      unfold x
      refine Keeps.then ?_ (State.busRead_keeps _ _ _) rfl
      exact Keeps.refl _ _
    extract_lets +onlyGivenNames -merge -useContext old
    refine Keeps.then ?_ (State.busWriteWith_keeps (msk := 0xFFFFFFFF000AB21F7FFFF6BA) _ _ _ _ _ (by exact rfl) (fun z11 z12 z13 z14 => ?_)) (Sub.refl _)
    · exact keeps_x
    · refine Keeps.then ?_ (initTop_keeps _ _ _ _) rfl
      exact Keeps.refl _ _

theorem State.runInit_keeps (s : State) (im : Image) : Keeps 0xFFFFFFFF000AB21F7FFFF6BA s (State.runInit s im) := by
  unfold State.runInit
  refine Keeps.fold ?_ (fun t1 y2 => ?_)
  · exact Keeps.refl _ _
  · refine Keeps.then ?_ (State.initOne_keeps _ _) rfl
    exact Keeps.refl _ _

theorem State.publish_keeps (s : State) : Keeps 0x20000000000000008 s (State.publish s) := by
  unfold State.publish
  extract_lets +onlyGivenNames -merge -useContext g
  refine Keeps.then ?_ (State.wf_keeps _ _ _ _) (Sub.or rfl rfl)
  exact Keeps.refl _ _

theorem State.ringReload_keeps (s : State) (old : State) : Keeps 0x4000000000000 s (State.ringReload s old) := by
  unfold State.ringReload
  refine Keeps.ite ?_ ?_
  · exact Keeps.refl _ _
  · refine Keeps.set_ring ?_ rfl
    exact Keeps.refl _ _

theorem State.setUp_keeps (s : State) (im : Image) : Keeps 0xFFFFFFFF000DFFFFFBD5077A s (State.setUp s im) := by
  unfold State.setUp
  extract_lets +onlyGivenNames -merge -useContext kept
  extract_lets +onlyGivenNames -merge -useContext a0
  have keeps_a0 : Keeps 0xFFFFFFFF000DFFFFFBD5077A s a0 := by
    unfold a0
    refine Keeps.fold ?_ (fun t1 y2 => ?_)
    · exact Keeps.refl _ _
    · refine Keeps.then ?_ (State.patAbort_keeps _ _ _) rfl
      exact Keeps.refl _ _
  extract_lets +onlyGivenNames -merge -useContext a1
  have keeps_a1 : Keeps 0xFFFFFFFF000DFFFFFBD5077A s a1 := by
    unfold a1
    refine Keeps.set_freeCtr_mem_poison_stale ?_ rfl ?_ ?_
    · exact keeps_a0
    · exact fun h => Memory.wf_moveKept h _
    · exact Nat.le_succ _
  extract_lets +onlyGivenNames -merge -useContext a2
  have keeps_a2 : Keeps 0xFFFFFFFF000DFFFFFBD5077A s a2 := by
    unfold a2
    refine Keeps.then ?_ (State.placed_keeps _ _) rfl
    exact keeps_a1
  extract_lets +onlyGivenNames -merge -useContext a3
  have keeps_a3 : Keeps 0xFFFFFFFF000DFFFFFBD5077A s a3 := by
    unfold a3
    refine Keeps.fold ?_ (fun t3 y4 => ?_)
    · exact keeps_a2
    · refine Keeps.then ?_ (State.jobEnd_keeps _ _ _) rfl
      exact Keeps.refl _ _
  extract_lets +onlyGivenNames -merge -useContext xp
  have keeps_xp : Keeps 0xFFFFFFFF000DFFFFFBD5077A s xp := by
    unfold xp
    refine Keeps.then ?_ (State.enginesFresh_keeps _ _ _) rfl
    exact keeps_a3
  extract_lets +onlyGivenNames -merge -useContext p1
  have keeps_p1 : Keeps 0xFFFFFFFF000DFFFFFBD5077A s p1 := by
    unfold p1
    refine Keeps.then ?_ (State.markFlush_keeps _) rfl
    refine Keeps.then ?_ (State.fabricFresh_keeps _) rfl
    refine Keeps.then ?_ (State.portsLoad_keeps _ _) rfl
    exact keeps_xp
  extract_lets +onlyGivenNames -merge -useContext p2
  have keeps_p2 : Keeps 0xFFFFFFFF000DFFFFFBD5077A s p2 := by
    unfold p2
    refine Keeps.then ?_ (State.ringReload_keeps _ _) rfl
    refine Keeps.then ?_ (State.lanesKeep_keeps _ _ _) rfl
    exact keeps_p1
  refine Keeps.fold ?_ (fun t5 y6 => ?_)
  · exact keeps_p2
  · refine Keeps.ite ?_ ?_
    · refine Keeps.then ?_ (State.arcKeep_keeps _ _ _) rfl
      exact Keeps.refl _ _
    · exact Keeps.refl _ _

theorem State.sprsShow_keeps (s : State) (gs : List Nat) : Keeps 0x10000000000000000000008 s (State.sprsShow s gs) := by
  unfold State.sprsShow
  refine Keeps.fold ?_ (fun t1 y2 => ?_)
  · exact Keeps.refl _ _
  · refine Keeps.ite ?_ ?_
    · refine Keeps.then ?_ (State.sprShow_keeps _ _ _) rfl
      exact Keeps.refl _ _
    · exact Keeps.refl _ _

theorem State.applyImage_keeps (s : State) (im : Image) : Keeps 0xFFFFFFFF000FFFFFFFFFF7FA s (State.applyImage s im) := by
  unfold State.applyImage
  extract_lets +onlyGivenNames -merge -useContext s1
  have keeps_s1 : Keeps 0xFFFFFFFF000FFFFFFFFFF7FA s s1 := by
    unfold s1
    refine Keeps.then ?_ (State.runInit_keeps _ _) rfl
    refine Keeps.then ?_ (State.setUp_keeps _ _) rfl
    refine Keeps.then ?_ (State.wf_keeps _ _ _ _) rfl
    exact Keeps.refl _ _
  extract_lets +onlyGivenNames -merge -useContext s2
  have keeps_s2 : Keeps 0xFFFFFFFF000FFFFFFFFFF7FA s s2 := by
    unfold s2
    refine Keeps.then ?_ (State.wf_keeps _ _ _ _) rfl
    refine Keeps.then ?_ (State.publish_keeps _) rfl
    refine Keeps.then ?_ (State.lanesGo_keeps _ _ _) rfl
    exact keeps_s1
  extract_lets +onlyGivenNames -merge -useContext s3
  have keeps_s3 : Keeps 0xFFFFFFFF000FFFFFFFFFF7FA s s3 := by
    unfold s3
    refine Keeps.fold ?_ (fun t1 y2 => ?_)
    · exact keeps_s2
    · refine Keeps.then ?_ (State.wf_keeps _ _ _ _) rfl
      refine Keeps.then ?_ (State.wf_keeps _ _ _ _) rfl
      exact Keeps.refl _ _
  refine Keeps.then ?_ (State.sprsShow_keeps _ _) rfl
  refine Keeps.then ?_ (State.wf64_keeps _ _ _ _) rfl
  exact keeps_s3

theorem State.harnessLost_keeps (s : State) : Keeps 0x10420001FFFFF8510708 s (State.harnessLost s) := by
  unfold State.harnessLost
  extract_lets +onlyGivenNames -merge -useContext s1
  have keeps_s1 : Keeps 0x10420001FFFFF8510708 s s1 := by
    unfold s1
    refine Keeps.then ?_ (State.enginesFresh_keeps _ _ _) rfl
    exact Keeps.refl _ _
  extract_lets +onlyGivenNames -merge -useContext x1
  extract_lets +onlyGivenNames -merge -useContext x2
  have keeps_x2 : Keeps 0x10420001FFFFF8510708 s x2 := by
    unfold x2
    refine Keeps.set_dir_hdr_lanes_conns ?_ rfl
    exact keeps_s1
  refine Keeps.then ?_ (State.markFlush_keeps _) rfl
  refine Keeps.then ?_ (State.wf64_keeps _ _ _ _) (Sub.or rfl rfl)
  refine Keeps.then ?_ (State.wf_keeps _ _ _ _) (Sub.or rfl rfl)
  refine Keeps.then ?_ (State.wf_keeps _ _ _ _) (Sub.or rfl rfl)
  exact keeps_x2

theorem State.showTaking_keeps (s : State) (g : Nat) (on : Bool) : Keeps 0x1000000000000000000008 s (State.showTaking s g on) := by
  unfold State.showTaking
  refine Keeps.ite ?_ ?_
  · refine Keeps.then ?_ (State.wf_keeps _ _ _ _) (Sub.or rfl rfl)
    exact Keeps.refl _ _
  · exact Keeps.refl _ _

theorem State.patchSeams_keeps (s : State) (g : Nat) (n : Nat) : Keeps 0x8110000000000420100608 s (State.patchSeams s g n) := by
  unfold State.patchSeams
  extract_lets +onlyGivenNames -merge -useContext s1
  have keeps_s1 : Keeps 0x8110000000000420100608 s s1 := by
    unfold s1
    refine Keeps.ite ?_ ?_
    · refine Keeps.then ?_ (State.dropWaiting_keeps _ _ _ _) rfl
      exact Keeps.refl _ _
    · exact Keeps.refl _ _
  refine Keeps.ite ?_ ?_
  · refine Keeps.then ?_ (State.dropWaiting_keeps _ _ _ _) rfl
    exact keeps_s1
  · exact keeps_s1

theorem execPatchApplyInstant_keeps (s : State) : KeepsO 0x9110000000000420110608 s (execPatchApplyInstant s) := by
  unfold execPatchApplyInstant
  refine KeepsO.next ?_
  split
  · refine Keeps.ite ?_ ?_
    · extract_lets +onlyGivenNames -merge -useContext g
      extract_lets +onlyGivenNames -merge -useContext n
      extract_lets +onlyGivenNames -merge -useContext top
      refine Keeps.then ?_ (State.showTaking_keeps _ _ _) rfl
      refine Keeps.then ?_ (State.patchSeams_keeps _ _ _) rfl
      refine Keeps.set_hdr ?_ rfl
      exact Keeps.refl _ _
    · exact Keeps.refl _ _
  · exact Keeps.refl _ _

theorem State.patchDrain_keeps (s : State) (g : Nat) : Keeps 0xFFFFFFFF000E4BE7E3F4061A s (State.patchDrain s g) := by
  unfold State.patchDrain
  extract_lets +onlyGivenNames -merge -useContext top
  extract_lets +onlyGivenNames -merge -useContext s0
  have keeps_s0 : Keeps 0xFFFFFFFF000E4BE7E3F4061A s s0 := by
    unfold s0
    refine Keeps.ite ?_ ?_
    · refine Keeps.then ?_ (State.settle_keeps _ _) rfl
      refine Keeps.then ?_ (State.declare_keeps _ _ _ _) rfl
      exact Keeps.refl _ _
    · exact Keeps.refl _ _
  extract_lets +onlyGivenNames -merge -useContext s1
  have keeps_s1 : Keeps 0xFFFFFFFF000E4BE7E3F4061A s s1 := by
    unfold s1
    split
    · refine Keeps.ite ?_ ?_
      · exact keeps_s0
      · refine Keeps.then ?_ (State.gapSend_keeps _ _) rfl
        exact keeps_s0
    · exact keeps_s0
  extract_lets +onlyGivenNames -merge -useContext s2
  have keeps_s2 : Keeps 0xFFFFFFFF000E4BE7E3F4061A s s2 := by
    unfold s2
    refine Keeps.then ?_ (State.pump_keeps _ _ _) rfl
    exact keeps_s1
  extract_lets +onlyGivenNames -merge -useContext s3
  have keeps_s3 : Keeps 0xFFFFFFFF000E4BE7E3F4061A s s3 := by
    unfold s3
    refine Keeps.ite ?_ ?_
    · refine Keeps.then ?_ (State.rgaEnd_keeps _ _ _) rfl
      exact keeps_s2
    · exact keeps_s2
  refine Keeps.then ?_ (State.tapsEnd_keeps _ _) rfl
  refine Keeps.then ?_ (State.pump_keeps _ _ _) rfl
  exact keeps_s3

theorem State.patchMews_keeps (s : State) (g : Nat) : Keeps 0x100000000000020000008 s (State.patchMews s g) := by
  unfold State.patchMews
  refine Keeps.fold ?_ (fun t1 y2 => ?_)
  · exact Keeps.refl _ _
  · refine Keeps.ite ?_ ?_
    · refine Keeps.then ?_ (State.mewEmpty_keeps _ _) rfl
      exact Keeps.refl _ _
    · exact Keeps.refl _ _

theorem State.patchFresh_keeps (s : State) (g : Nat) (keepHist : Bool) (keepArc : Bool) :
    Keeps 0x600210010008C7EBC3140608 s (State.patchFresh s g keepHist keepArc) := by
  unfold State.patchFresh
  extract_lets +onlyGivenNames -merge -useContext s0
  have keeps_s0 : Keeps 0x600210010008C7EBC3140608 s s0 := by
    unfold s0
    refine Keeps.fold ?_ (fun t1 y2 => ?_)
    · exact Keeps.refl _ _
    · refine Keeps.ite ?_ ?_
      · refine Keeps.then ?_ (State.jobEnd_keeps _ _ _) rfl
        exact Keeps.refl _ _
      · exact Keeps.refl _ _
  extract_lets +onlyGivenNames -merge -useContext s1
  have keeps_s1 : Keeps 0x600210010008C7EBC3140608 s s1 := by
    unfold s1
    refine Keeps.ite ?_ ?_
    · exact keeps_s0
    · refine Keeps.fold ?_ (fun t3 y4 => ?_)
      · exact keeps_s0
      · refine Keeps.then ?_ (State.patAbort_keeps _ _ _) rfl
        exact Keeps.refl _ _
  refine Keeps.set_ing_sta_tru_rga_gain_spr_seg_hist_lbl_arc ?_ rfl
  exact keeps_s1

theorem State.patchApply_keeps (s : State) (im : Image) : Keeps 0xFFFFFFFF000AF7FFFFFFF7FA s (State.patchApply s im) := by
  unfold State.patchApply
  extract_lets +onlyGivenNames -merge -useContext g
  extract_lets +onlyGivenNames -merge -useContext recs
  extract_lets +onlyGivenNames -merge -useContext parts
  extract_lets +onlyGivenNames -merge -useContext gone
  extract_lets +onlyGivenNames -merge -useContext clear
  extract_lets +onlyGivenNames -merge -useContext n
  extract_lets +onlyGivenNames -merge -useContext y
  have keeps_y : Keeps 0xFFFFFFFF000AF7FFFFFFF7FA s y := by
    unfold y
    refine Keeps.then ?_ (State.armedTake_keeps _ _ _ _) rfl
    exact Keeps.refl _ _
  extract_lets +onlyGivenNames -merge -useContext s0
  have keeps_s0 : Keeps 0xFFFFFFFF000AF7FFFFFFF7FA s s0 := by
    unfold s0
    refine Keeps.then ?_ (State.patchFresh_keeps _ _ _ _) rfl
    refine Keeps.then ?_ (State.patchMews_keeps _ _) rfl
    exact keeps_y
  extract_lets +onlyGivenNames -merge -useContext s1
  have keeps_s1 : Keeps 0xFFFFFFFF000AF7FFFFFFF7FA s s1 := by
    unfold s1
    refine Keeps.set_freeCtr_mem_poison_stale ?_ rfl ?_ ?_
    · exact keeps_s0
    · exact fun h => Memory.wf_wipes _ _ _ h
    · exact Nat.le_succ _
  extract_lets +onlyGivenNames -merge -useContext xp
  have keeps_xp : Keeps 0xFFFFFFFF000AF7FFFFFFF7FA s xp := by
    unfold xp
    refine Keeps.then ?_ (State.rgaMod_keeps _ _ _) rfl
    refine Keeps.then ?_ (State.arcStart_keeps _ _) rfl
    refine Keeps.then ?_ (State.placedPatch_keeps _ _) rfl
    exact keeps_s1
  extract_lets +onlyGivenNames -merge -useContext p1
  have keeps_p1 : Keeps 0xFFFFFFFF000AF7FFFFFFF7FA s p1 := by
    unfold p1
    refine Keeps.ite ?_ ?_
    · refine Keeps.then ?_ (State.arcKeep_keeps _ _ _) rfl
      exact keeps_xp
    · exact keeps_xp
  extract_lets +onlyGivenNames -merge -useContext changed
  extract_lets +onlyGivenNames -merge -useContext p2
  have keeps_p2 : Keeps 0xFFFFFFFF000AF7FFFFFFF7FA s p2 := by
    unfold p2
    refine Keeps.then ?_ (State.showTaking_keeps _ _ _) rfl
    refine Keeps.then ?_ (State.publish_keeps _) rfl
    refine Keeps.then ?_ (State.runInit_keeps _ _) rfl
    refine Keeps.set_lanes ?_ rfl
    exact keeps_p1
  refine Keeps.then ?_ (State.sprsShow_keeps _ _) rfl
  refine Keeps.fold ?_ (fun t1 y2 => ?_)
  · exact keeps_p2
  · refine Keeps.then ?_ (State.laneStart_keeps _ _) rfl
    exact Keeps.refl _ _

theorem execPatchChainDrained_keeps (s : State) : KeepsO 0xFFFFFFFF000EFFFFFFFFF7FA s (execPatchChainDrained s) := by
  unfold execPatchChainDrained
  refine KeepsO.next ?_
  split
  · refine Keeps.ite ?_ ?_
    · extract_lets +onlyGivenNames -merge -useContext t
      have keeps_t : Keeps 0xFFFFFFFF000EFFFFFFFFF7FA s t := by
        unfold t
        refine Keeps.then ?_ (State.patchApply_keeps _ _) rfl
        refine Keeps.then ?_ (State.patchDrain_keeps _ _) rfl
        exact Keeps.refl _ _
      refine Keeps.set_hdr ?_ rfl
      exact keeps_t
    · exact Keeps.refl _ _
  · exact Keeps.refl _ _

theorem State.patchStart_keeps (s : State) (g : Nat) : Keeps 0x11100000000800E0100608 s (State.patchStart s g) := by
  unfold State.patchStart
  refine Keeps.ite ?_ ?_
  · exact Keeps.refl _ _
  · extract_lets +onlyGivenNames -merge -useContext s1
    have keeps_s1 : Keeps 0x11100000000800E0100608 s s1 := by
      unfold s1
      refine Keeps.then ?_ (State.settle_keeps _ _) rfl
      refine Keeps.then ?_ (State.ingMod_keeps _ _ _) rfl
      exact Keeps.refl _ _
    extract_lets +onlyGivenNames -merge -useContext s2
    have keeps_s2 : Keeps 0x11100000000800E0100608 s s2 := by
      unfold s2
      refine Keeps.then ?_ (State.ingMod_keeps _ _ _) rfl
      exact keeps_s1
    refine Keeps.then ?_ (State.ingShow_keeps _ _) rfl
    refine Keeps.then ?_ (State.showTaking_keeps _ _ _) rfl
    refine Keeps.then ?_ (State.ingIndex_keeps _ _ _ _) (Sub.or rfl rfl)
    exact keeps_s2

theorem execPatchChainReady_keeps (s : State) : KeepsO 0x11100200000800E0110608 s (execPatchChainReady s) := by
  unfold execPatchChainReady
  refine KeepsO.next ?_
  split
  · refine Keeps.ite ?_ ?_
    · extract_lets +onlyGivenNames -merge -useContext t
      extract_lets +onlyGivenNames -merge -useContext x1
      have keeps_x1 : Keeps 0x11100200000800E0110608 s x1 := by
        unfold x1
        refine Keeps.then ?_ (State.patchStart_keeps _ _) rfl
        refine Keeps.set_hdr ?_ rfl
        exact Keeps.refl _ _
      refine Keeps.then ?_ (State.ev_keeps _ _ _) (Sub.or rfl rfl)
      refine Keeps.then ?_ (State.wf_keeps _ _ _ _) (Sub.or rfl rfl)
      refine Keeps.then ?_ (State.wf_keeps _ _ _ _) (Sub.or rfl rfl)
      exact keeps_x1
    · exact Keeps.refl _ _
  · exact Keeps.refl _ _

end Sys2Proof.Machine
end

