-- ==== Sys2Proof/Laws/KeepsHarnessLoad.lean ====
section
/-! SUPPORT. Frames of the operations of Machine/HarnessLoad.lean: what each may change, one lemma each. -/

namespace Sys2Proof.Machine

theorem State.toPhase_keeps (s : State) (n : Nat) : Keeps 0x20000000000000008 s (State.toPhase s n) := by
  unfold State.toPhase
  refine Keeps.then ?_ (State.wf_keeps _ _ _ _) (Sub.or rfl rfl)
  exact Keeps.refl _ _

theorem State.beginLoad_keeps (s : State) (why : LoadWhy) (src : Nat) (checkOnly : Bool) (patch : Bool) :
    Keeps 0x20000000000010008 s (State.beginLoad s why src checkOnly patch) := by
  unfold State.beginLoad
  extract_lets +onlyGivenNames -merge -useContext __src
  have keeps___src : Keeps 0x20000000000010008 s __src := by
    unfold __src
    refine Keeps.then ?_ (State.toPhase_keeps _ _) rfl
    exact Keeps.refl _ _
  refine Keeps.set_hdr ?_ rfl
  exact keeps___src

theorem State.actLoad_keeps (s : State) : Keeps 0x10020000000000150608 s (State.actLoad s) := by
  unfold State.actLoad
  extract_lets +onlyGivenNames -merge -useContext patch
  extract_lets +onlyGivenNames -merge -useContext src
  extract_lets +onlyGivenNames -merge -useContext ph
  refine Keeps.ite ?_ ?_
  · refine Keeps.then ?_ (State.hdrFail_keeps _ _ _) rfl
    exact Keeps.refl _ _
  · refine Keeps.ite ?_ ?_
    · refine Keeps.then ?_ (State.hdrFail_keeps _ _ _) rfl
      exact Keeps.refl _ _
    · refine Keeps.ite ?_ ?_
      · refine Keeps.then ?_ (State.hdrFail_keeps _ _ _) rfl
        exact Keeps.refl _ _
      · refine Keeps.then ?_ (State.beginLoad_keeps _ _ _ _ _) rfl
        exact Keeps.refl _ _

theorem execHarnessLoad_keeps (m : Nat) (w : Word) (s : State) : KeepsO 0x100F0000000000151638 s (execHarnessLoad m w s) := by
  unfold execHarnessLoad
  refine KeepsO.next ?_
  refine Keeps.then ?_ (State.regAct_keeps (msk := 0x100F0000000000151638) _ _ _ _ _ _ (by exact Sub.or rfl rfl) (fun z1 => ?_)) (Sub.refl _)
  · exact Keeps.refl _ _
  · refine Keeps.then ?_ (State.actLoad_keeps _) rfl
    exact Keeps.refl _ _

theorem State.actAbortLoad_keeps (s : State) : Keeps 0x10020000000000150608 s (State.actAbortLoad s) := by
  unfold State.actAbortLoad
  refine Keeps.ite ?_ ?_
  · extract_lets +onlyGivenNames -merge -useContext t
    have keeps_t : Keeps 0x10020000000000150608 s t := by
      unfold t
      refine Keeps.then ?_ (State.toPhase_keeps _ _) rfl
      exact Keeps.refl _ _
    extract_lets +onlyGivenNames -merge -useContext x1
    extract_lets +onlyGivenNames -merge -useContext x2
    have keeps_x2 : Keeps 0x10020000000000150608 s x2 := by
      unfold x2
      refine Keeps.set_hdr ?_ rfl
      exact keeps_t
    refine Keeps.then ?_ (State.hdrFail_keeps _ _ _) rfl
    exact keeps_x2
  · exact Keeps.refl _ _

theorem execHarnessAbort_keeps (m : Nat) (w : Word) (s : State) : KeepsO 0x100F0000000000151638 s (execHarnessAbort m w s) := by
  unfold execHarnessAbort
  refine KeepsO.next ?_
  refine Keeps.then ?_ (State.regAct_keeps (msk := 0x100F0000000000151638) _ _ _ _ _ _ (by exact Sub.or rfl rfl) (fun z1 => ?_)) (Sub.refl _)
  · exact Keeps.refl _ _
  · refine Keeps.then ?_ (State.actAbortLoad_keeps _) rfl
    exact Keeps.refl _ _

theorem State.actPatchCancel_keeps (s : State) : Keeps 0x20000000000010008 s (State.actPatchCancel s) := by
  unfold State.actPatchCancel
  split
  · refine Keeps.ite ?_ ?_
    · refine Keeps.then ?_ (State.wf_keeps _ _ _ _) (Sub.or rfl rfl)
      extract_lets +onlyGivenNames -merge -useContext __src
      have keeps___src : Keeps 0x20000000000010008 s __src := by
        unfold __src
        refine Keeps.then ?_ (State.toPhase_keeps _ _) rfl
        exact Keeps.refl _ _
      refine Keeps.set_hdr ?_ rfl
      exact keeps___src
    · exact Keeps.refl _ _
  · exact Keeps.refl _ _

theorem execPatchCancel_keeps (m : Nat) (w : Word) (s : State) : KeepsO 0xF0000000000051638 s (execPatchCancel m w s) := by
  unfold execPatchCancel
  refine KeepsO.next ?_
  refine Keeps.then ?_ (State.regAct_keeps (msk := 0xF0000000000051638) _ _ _ _ _ _ (by exact Sub.or rfl rfl) (fun z1 => ?_)) (Sub.refl _)
  · exact Keeps.refl _ _
  · refine Keeps.then ?_ (State.actPatchCancel_keeps _) rfl
    exact Keeps.refl _ _

theorem State.actProg_keeps (s : State) (why : LoadWhy) : Keeps 0x10020000000000150608 s (State.actProg s why) := by
  unfold State.actProg
  extract_lets +onlyGivenNames -merge -useContext src
  refine Keeps.ite ?_ ?_
  · refine Keeps.then ?_ (State.hdrFail_keeps _ _ _) rfl
    exact Keeps.refl _ _
  · refine Keeps.ite ?_ ?_
    · refine Keeps.then ?_ (State.hdrFail_keeps _ _ _) rfl
      exact Keeps.refl _ _
    · refine Keeps.ite ?_ ?_
      · refine Keeps.then ?_ (State.hdrFail_keeps _ _ _) rfl
        exact Keeps.refl _ _
      · extract_lets +onlyGivenNames -merge -useContext __src
        have keeps___src : Keeps 0x10020000000000150608 s __src := by
          unfold __src
          refine Keeps.then ?_ (State.toPhase_keeps _ _) rfl
          exact Keeps.refl _ _
        refine Keeps.set_hdr ?_ rfl
        exact keeps___src

theorem execProgA_keeps (m : Nat) (w : Word) (s : State) : KeepsO 0x100F0000000000151638 s (execProgA m w s) := by
  unfold execProgA
  refine KeepsO.next ?_
  refine Keeps.then ?_ (State.regAct_keeps (msk := 0x100F0000000000151638) _ _ _ _ _ _ (by exact Sub.or rfl rfl) (fun z1 => ?_)) (Sub.refl _)
  · exact Keeps.refl _ _
  · refine Keeps.then ?_ (State.actProg_keeps _ _) rfl
    exact Keeps.refl _ _

theorem execProgB_keeps (m : Nat) (w : Word) (s : State) : KeepsO 0x100F0000000000151638 s (execProgB m w s) := by
  unfold execProgB
  refine KeepsO.next ?_
  refine Keeps.then ?_ (State.regAct_keeps (msk := 0x100F0000000000151638) _ _ _ _ _ _ (by exact Sub.or rfl rfl) (fun z1 => ?_)) (Sub.refl _)
  · exact Keeps.refl _ _
  · refine Keeps.then ?_ (State.actProg_keeps _ _) rfl
    exact Keeps.refl _ _

theorem execSlotProgramComplete_keeps (s : State) : KeepsO 0x10020000000000150608 s (execSlotProgramComplete s) := by
  unfold execSlotProgramComplete
  refine KeepsO.next ?_
  split
  · refine Keeps.ite ?_ ?_
    · extract_lets +onlyGivenNames -merge -useContext t
      have keeps_t : Keeps 0x10020000000000150608 s t := by
        unfold t
        refine Keeps.then ?_ (State.toPhase_keeps _ _) rfl
        exact Keeps.refl _ _
      extract_lets +onlyGivenNames -merge -useContext x1
      extract_lets +onlyGivenNames -merge -useContext x2
      have keeps_x2 : Keeps 0x10020000000000150608 s x2 := by
        unfold x2
        refine Keeps.set_hdr ?_ rfl
        exact keeps_t
      split
      · refine Keeps.then ?_ (State.hdrFail_keeps _ _ _) rfl
        exact keeps_x2
      · refine Keeps.ite ?_ ?_
        · refine Keeps.then ?_ (State.hdrFail_keeps _ _ _) rfl
          exact keeps_x2
        · extract_lets +onlyGivenNames -merge -useContext u
          extract_lets +onlyGivenNames -merge -useContext x3
          extract_lets +onlyGivenNames -merge -useContext x4
          have keeps_x4 : Keeps 0x10020000000000150608 s x4 := by
            unfold x4
            refine Keeps.ite ?_ ?_
            · refine Keeps.set_store ?_ rfl
              exact keeps_x2
            · refine Keeps.set_store ?_ rfl
              exact keeps_x2
          refine Keeps.then ?_ (State.ev_keeps _ _ _) (Sub.or rfl rfl)
          exact keeps_x4
    · exact Keeps.refl _ _
  · exact Keeps.refl _ _

theorem State.bootAttempt_keeps (s : State) (why : LoadWhy) (src : Nat) : Keeps 0x20000000000010008 s (State.bootAttempt s why src) := by
  unfold State.bootAttempt
  refine Keeps.then ?_ (State.beginLoad_keeps _ _ _ _ _) rfl
  exact Keeps.refl _ _

theorem State.loadFails_keeps (s : State) (l : Loading) (e : HErr) : Keeps 0x10030000000000150608 s (State.loadFails s l e) := by
  unfold State.loadFails
  extract_lets +onlyGivenNames -merge -useContext boot
  extract_lets +onlyGivenNames -merge -useContext t
  have keeps_t : Keeps 0x10030000000000150608 s t := by
    unfold t
    refine Keeps.then ?_ (State.toPhase_keeps _ _) rfl
    exact Keeps.refl _ _
  extract_lets +onlyGivenNames -merge -useContext x1
  extract_lets +onlyGivenNames -merge -useContext x2
  have keeps_x2 : Keeps 0x10030000000000150608 s x2 := by
    unfold x2
    refine Keeps.then ?_ (State.hdrFail_keeps _ _ _) rfl
    refine Keeps.set_hdr ?_ rfl
    exact keeps_t
  refine Keeps.ite ?_ ?_
  · refine Keeps.then ?_ (State.bootAttempt_keeps _ _ _) rfl
    exact keeps_x2
  · refine Keeps.ite ?_ ?_
    · refine Keeps.then ?_ (State.wf_keeps _ _ _ _) (Sub.or rfl rfl)
      exact keeps_x2
    · exact keeps_x2

theorem execHarnessSourceComplete_keeps (s : State) : KeepsO 0x826D247000A02180B7D0638 s (execHarnessSourceComplete s) := by
  unfold execHarnessSourceComplete
  refine KeepsO.next ?_
  split
  · exact Keeps.refl _ _
  · refine Keeps.ite ?_ ?_
    · exact Keeps.refl _ _
    · extract_lets +onlyGivenNames -merge -useContext bad
      split
      · refine Keeps.then ?_ (State.loadFails_keeps _ _ _) rfl
        exact Keeps.refl _ _
      · refine Keeps.ite ?_ ?_
        · refine Keeps.then ?_ (State.loadFails_keeps _ _ _) rfl
          exact Keeps.refl _ _
        · split
          · refine Keeps.then ?_ (State.loadFails_keeps _ _ _) rfl
            exact Keeps.refl _ _
          · extract_lets +onlyGivenNames -merge -useContext im
            refine Keeps.ite ?_ ?_
            · refine Keeps.then ?_ (State.ev_keeps _ _ _) rfl
              extract_lets +onlyGivenNames -merge -useContext x__src
              have keeps_x__src : Keeps 0x826D247000A02180B7D0638 s x__src := by
                unfold x__src
                refine Keeps.then ?_ (State.toPhase_keeps _ _) rfl
                exact Keeps.refl _ _
              refine Keeps.set_hdr ?_ rfl
              exact keeps_x__src
            · refine Keeps.ite ?_ ?_
              · refine Keeps.then ?_ (State.wf_keeps _ _ _ _) rfl
                extract_lets +onlyGivenNames -merge -useContext x__src
                have keeps_x__src : Keeps 0x826D247000A02180B7D0638 s x__src := by
                  unfold x__src
                  refine Keeps.then ?_ (State.toPhase_keeps _ _) rfl
                  exact Keeps.refl _ _
                refine Keeps.set_hdr ?_ rfl
                exact keeps_x__src
              · refine Keeps.then ?_ (State.applyBegins_keeps _) rfl
                extract_lets +onlyGivenNames -merge -useContext x__src
                have keeps_x__src : Keeps 0x826D247000A02180B7D0638 s x__src := by
                  unfold x__src
                  refine Keeps.then ?_ (State.toPhase_keeps _ _) rfl
                  exact Keeps.refl _ _
                refine Keeps.set_hdr ?_ rfl
                exact keeps_x__src

theorem State.stagesFollow_keeps (s : State) : Keeps 0x10000000000000008 s (State.stagesFollow s) := by
  unfold State.stagesFollow
  extract_lets +onlyGivenNames -merge -useContext s1
  have keeps_s1 : Keeps 0x10000000000000008 s s1 := by
    unfold s1
    refine Keeps.then ?_ (State.wf_keeps _ _ _ _) (Sub.or rfl rfl)
    exact Keeps.refl _ _
  refine Keeps.ite ?_ ?_
  · refine Keeps.then ?_ (State.wf_keeps _ _ _ _) (Sub.or rfl rfl)
    refine Keeps.then ?_ (State.wf_keeps _ _ _ _) (Sub.or rfl rfl)
    exact keeps_s1
  · exact keeps_s1

theorem execHarnessApplyDrained_keeps (hwFault : Bool) (s : State) :
    KeepsO 0xFFFFFFFF000FFFFFFFFFF7FA s (execHarnessApplyDrained hwFault s) := by
  unfold execHarnessApplyDrained
  refine KeepsO.next ?_
  split
  · exact Keeps.refl _ _
  · split
    · exact Keeps.refl _ _
    · refine Keeps.ite ?_ ?_
      · exact Keeps.refl _ _
      · extract_lets +onlyGivenNames -merge -useContext t
        extract_lets +onlyGivenNames -merge -useContext t_2
        have keeps_t_2 : Keeps 0xFFFFFFFF000FFFFFFFFFF7FA s t_2 := by
          unfold t_2
          refine Keeps.then ?_ (State.applyDrained_keeps _) rfl
          refine Keeps.set_hdr ?_ rfl
          exact Keeps.refl _ _
        refine Keeps.ite ?_ ?_
        · refine Keeps.then ?_ (State.hdrFail_keeps _ _ _) rfl
          refine Keeps.then ?_ (State.toPhase_keeps _ _) rfl
          refine Keeps.then ?_ (State.harnessLost_keeps _) rfl
          exact keeps_t_2
        · extract_lets +onlyGivenNames -merge -useContext u
          have keeps_u : Keeps 0xFFFFFFFF000FFFFFFFFFF7FA s u := by
            unfold u
            refine Keeps.then ?_ (State.wf_keeps _ _ _ _) rfl
            refine Keeps.then ?_ (State.wf_keeps _ _ _ _) rfl
            refine Keeps.then ?_ (State.applyImage_keeps _ _) rfl
            exact keeps_t_2
          refine Keeps.then ?_ (State.ev_keeps _ _ _) rfl
          refine Keeps.then ?_ (State.stagesFollow_keeps _) rfl
          exact keeps_u

end Sys2Proof.Machine
end

