-- ==== Sys2Proof/Laws/KeepsRestart.lean ====
section
/-! SUPPORT. Frames of the operations of Machine/Restart.lean: what each may change, one lemma each. -/

namespace Sys2Proof.Machine

theorem State.resetCause_keeps (s : State) (cs : List Nat) (v : Nat) : Keeps 0x1000000000000000008 s (State.resetCause s cs v) := by
  unfold State.resetCause
  refine Keeps.fold ?_ (fun t1 y2 => ?_)
  · exact Keeps.refl _ _
  · refine Keeps.then ?_ (State.wf_keeps _ _ _ _) (Sub.or rfl rfl)
    exact Keeps.refl _ _

theorem State.builtRegs_keeps (s : State) : Keeps 0xFFFFFFFF0000000000000008 s (State.builtRegs s) := by
  unfold State.builtRegs
  extract_lets +onlyGivenNames -merge -useContext p
  extract_lets +onlyGivenNames -merge -useContext s1
  have keeps_s1 : Keeps 0xFFFFFFFF0000000000000008 s s1 := by
    unfold s1
    refine Keeps.then ?_ (State.wf_keeps _ _ _ _) (Sub.or rfl rfl)
    refine Keeps.then ?_ (State.wf_keeps _ _ _ _) (Sub.or rfl rfl)
    exact Keeps.refl _ _
  extract_lets +onlyGivenNames -merge -useContext s2
  have keeps_s2 : Keeps 0xFFFFFFFF0000000000000008 s s2 := by
    unfold s2
    refine Keeps.then ?_ (State.wf_keeps _ _ _ _) (Sub.or rfl rfl)
    refine Keeps.then ?_ (State.wf_keeps _ _ _ _) (Sub.or rfl rfl)
    refine Keeps.then ?_ (State.wf_keeps _ _ _ _) (Sub.or rfl rfl)
    exact keeps_s1
  refine Keeps.then ?_ (State.showKeys_keeps _) rfl
  refine Keeps.then ?_ (State.postDefaults_keeps _) rfl
  exact keeps_s2

theorem State.powerOn_keeps (s : State) (rstnLow : Bool) (vddIo : Nat) :
    Keeps 0xFFFFFFFF000FFFFFFFF9FBF8 s (State.powerOn s rstnLow vddIo) := by
  unfold State.powerOn
  extract_lets +onlyGivenNames -merge -useContext t
  have keeps_t : Keeps 0xFFFFFFFF000FFFFFFFF9FBF8 s t := by
    unfold t
    refine Keeps.then ?_ (State.cold_keeps _) rfl
    exact Keeps.refl _ _
  refine Keeps.then ?_ (State.resetCause_keeps _ _ _) rfl
  refine Keeps.then ?_ (State.builtRegs_keeps _) rfl
  refine Keeps.set_pwr ?_ rfl
  exact keeps_t

theorem State.slotBroken_keeps (s : State) : Keeps 0x40000 s (State.slotBroken s) := by
  unfold State.slotBroken
  split
  · refine Keeps.ite ?_ ?_
    · refine Keeps.set_store ?_ rfl
      exact Keeps.refl _ _
    · refine Keeps.ite ?_ ?_
      · refine Keeps.set_store ?_ rfl
        exact Keeps.refl _ _
      · exact Keeps.refl _ _
  · exact Keeps.refl _ _

theorem State.powerOff_keeps (s : State) : Keeps 0xFFFFFFFF000FFFFFFFFDFFF8 s (State.powerOff s) := by
  unfold State.powerOff
  extract_lets +onlyGivenNames -merge -useContext t
  have keeps_t : Keeps 0xFFFFFFFF000FFFFFFFFDFFF8 s t := by
    unfold t
    refine Keeps.then ?_ (State.cold_keeps _) rfl
    refine Keeps.then ?_ (State.bypAllLow_keeps _) rfl
    refine Keeps.then ?_ (State.slotBroken_keeps _) rfl
    exact Keeps.refl _ _
  refine Keeps.set_pwr ?_ rfl
  exact keeps_t

theorem State.fastGone_keeps (s : State) : Keeps 0x7FFFFF87862B0 s (State.fastGone s) := by
  unfold State.fastGone
  extract_lets +onlyGivenNames -merge -useContext __src
  have keeps___src : Keeps 0x7FFFFF87862B0 s __src := by
    unfold __src
    refine Keeps.then ?_ (State.enginesFresh_keeps _ _ _) rfl
    exact Keeps.refl _ _
  refine Keeps.set_many15 ?_ rfl
  exact keeps___src

theorem State.harnessGone_keeps (s : State) : Keeps 0x408000010140 s (State.harnessGone s) := by
  unfold State.harnessGone
  refine Keeps.set_ydef_dir_hdr_hist_arc ?_ rfl
  exact Keeps.refl _ _

theorem State.accessLost_keeps (s : State) (x : Stalled) : Keeps 0x10000000000040608 s (State.accessLost s x) := by
  unfold State.accessLost
  extract_lets +onlyGivenNames -merge -useContext s1
  have keeps_s1 : Keeps 0x10000000000040608 s s1 := by
    unfold s1
    refine Keeps.then ?_ (State.gcode_keeps _ _ _ _) rfl
    exact Keeps.refl _ _
  refine Keeps.ite ?_ ?_
  · exact keeps_s1
  · split
    · refine Keeps.then ?_ (State.emit_keeps _ _ _ _) rfl
      exact keeps_s1
    · refine Keeps.then ?_ (State.hostReads_keeps _ _ _) rfl
      exact keeps_s1

theorem State.outLost_keeps (s : State) : Keeps 0x10000000000040E08 s (State.outLost s) := by
  unfold State.outLost
  split
  · exact Keeps.refl _ _
  · refine Keeps.then ?_ (State.gcode_keeps _ _ _ _) rfl
    refine Keeps.set_out ?_ rfl
    exact Keeps.refl _ _

theorem State.pinReset_keeps (s : State) (cause : Nat) : Keeps 0xFFFFFFFF000FFFFFFFFDFFF8 s (State.pinReset s cause) := by
  unfold State.pinReset
  extract_lets +onlyGivenNames -merge -useContext s1
  have keeps_s1 : Keeps 0xFFFFFFFF000FFFFFFFFDFFF8 s s1 := by
    unfold s1
    refine Keeps.then ?_ (State.outLost_keeps _) rfl
    refine Keeps.fold ?_ (fun t1 y2 => ?_)
    · exact Keeps.refl _ _
    · refine Keeps.then ?_ (State.accessLost_keeps _ _) rfl
      exact Keeps.refl _ _
  extract_lets +onlyGivenNames -merge -useContext s2
  have keeps_s2 : Keeps 0xFFFFFFFF000FFFFFFFFDFFF8 s s2 := by
    unfold s2
    refine Keeps.then ?_ (State.harnessGone_keeps _) rfl
    refine Keeps.then ?_ (State.fastGone_keeps _) rfl
    refine Keeps.then ?_ (State.bypAllLow_keeps _) rfl
    refine Keeps.then ?_ (State.slotBroken_keeps _) rfl
    exact keeps_s1
  extract_lets +onlyGivenNames -merge -useContext s3
  extract_lets +onlyGivenNames -merge -useContext s3_2
  have keeps_s3_2 : Keeps 0xFFFFFFFF000FFFFFFFFDFFF8 s s3_2 := by
    unfold s3_2
    refine Keeps.set_stalled_pwr_way_mem_poison_stale_dmc ?_ rfl ?_
    · exact keeps_s2
    · exact fun _ => rfl
  extract_lets +onlyGivenNames -merge -useContext s4
  have keeps_s4 : Keeps 0xFFFFFFFF000FFFFFFFFDFFF8 s s4 := by
    unfold s4
    refine Keeps.then ?_ (State.resetCause_keeps _ _ _) rfl
    refine Keeps.then ?_ (State.resetCause_keeps _ _ _) rfl
    refine Keeps.then ?_ (State.builtRegs_keeps _) rfl
    refine Keeps.then ?_ (State.restore_keeps _ _ _) rfl
    exact keeps_s3_2
  extract_lets +onlyGivenNames -merge -useContext s5
  have keeps_s5 : Keeps 0xFFFFFFFF000FFFFFFFFDFFF8 s s5 := by
    unfold s5
    refine Keeps.then ?_ (State.wf_keeps _ _ _ _) rfl
    exact keeps_s4
  refine Keeps.ite ?_ ?_
  · exact keeps_s5
  · extract_lets +onlyGivenNames -merge -useContext s6
    have keeps_s6 : Keeps 0xFFFFFFFF000FFFFFFFFDFFF8 s s6 := by
      unfold s6
      refine Keeps.then ?_ (State.wf_keeps _ _ _ _) rfl
      refine Keeps.then ?_ (State.wf_keeps _ _ _ _) rfl
      exact keeps_s5
    refine Keeps.then ?_ (State.wf_keeps _ _ _ _) rfl
    refine Keeps.then ?_ (State.wf_keeps _ _ _ _) rfl
    refine Keeps.then ?_ (State.wf_keeps _ _ _ _) rfl
    exact keeps_s6

theorem State.fastLost_keeps (s : State) (keep : Bool) : Keeps 0xFFFFFFFF000FFFFFFF7973F8 s (State.fastLost s keep) := by
  unfold State.fastLost
  extract_lets +onlyGivenNames -merge -useContext s1
  have keeps_s1 : Keeps 0xFFFFFFFF000FFFFFFF7973F8 s s1 := by
    unfold s1
    refine Keeps.then ?_ (State.fastGone_keeps _) rfl
    exact Keeps.refl _ _
  extract_lets +onlyGivenNames -merge -useContext s1_2
  have keeps_s1_2 : Keeps 0xFFFFFFFF000FFFFFFF7973F8 s s1_2 := by
    unfold s1_2
    refine Keeps.set_stalled_hist ?_ rfl
    exact keeps_s1
  extract_lets +onlyGivenNames -merge -useContext s2
  extract_lets +onlyGivenNames -merge -useContext s2_2
  have keeps_s2_2 : Keeps 0xFFFFFFFF000FFFFFFF7973F8 s s2_2 := by
    unfold s2_2
    refine Keeps.then ?_ (State.harnessGone_keeps _) rfl
    exact keeps_s1_2
  extract_lets +onlyGivenNames -merge -useContext s2_3
  have keeps_s2_3 : Keeps 0xFFFFFFFF000FFFFFFF7973F8 s s2_3 := by
    unfold s2_3
    refine Keeps.ite ?_ ?_
    · refine Keeps.set_hdr ?_ rfl
      exact keeps_s1_2
    · refine Keeps.set_mem_poison_stale_dmc ?_ rfl ?_
      · exact keeps_s2_2
      · exact fun _ => rfl
  extract_lets +onlyGivenNames -merge -useContext s3
  have keeps_s3 : Keeps 0xFFFFFFFF000FFFFFFF7973F8 s s3 := by
    unfold s3
    refine Keeps.then ?_ (State.postDefaults_keeps _) rfl
    refine Keeps.then ?_ (State.restore_keeps _ _ _) rfl
    exact keeps_s2_3
  refine Keeps.ite ?_ ?_
  · exact keeps_s3
  · refine Keeps.fold ?_ (fun t1 y2 => ?_)
    · refine Keeps.then ?_ (State.wf_keeps _ _ _ _) rfl
      exact keeps_s3
    · refine Keeps.then ?_ (State.wf_keeps _ _ _ _) rfl
      exact Keeps.refl _ _

theorem State.reapply_keeps (s : State) : Keeps 0xFFFFFFFF000FFFFFFFFFF7FA s (State.reapply s) := by
  unfold State.reapply
  split
  · exact Keeps.refl _ _
  · next im _ =>
    extract_lets old t kept u v
    have keeps_old : Keeps 0xFFFFFFFF000FFFFFFFFFF7FA s old := by
      unfold old
      exact Keeps.fold (Keeps.refl _ _) (fun x i => (State.patAbort_keeps x i _).widen rfl)
    have keeps_t : Keeps 0xFFFFFFFF000FFFFFFFFFF7FA s t := by
      unfold t
      exact Keeps.fold (keeps_old.then (State.applyImage_keeps _ _) rfl) (fun x p => (State.patchApply_keeps x p).widen rfl)
    have keeps_u : Keeps 0xFFFFFFFF000FFFFFFFFFF7FA s u := by
      refine ⟨fun f hf => ?_, keeps_t.regs, fun hw => Memory.wf_moveKept (keeps_old.memWf hw) _, keeps_t.keys, Nat.le_succ_of_le keeps_t.drawn, keeps_t.left⟩
      cases f
      case mem => exact absurd hf (by decide)
      case poison => exact absurd hf (by decide)
      case stale => exact absurd hf (by decide)
      case freeCtr => exact absurd hf (by decide)
      case hist => exact absurd hf (by decide)
      all_goals exact keeps_t.same _ hf
    have keeps_v : Keeps 0xFFFFFFFF000FFFFFFFFFF7FA s v := by
      unfold v
      exact Keeps.fold keeps_u (fun x g => Keeps.ite ((State.arcKeep_keeps x _ _).widen rfl) (Keeps.refl _ _))
    exact Keeps.fold keeps_v (fun x g => (State.showTaking_keeps x _ _).widen rfl)

theorem State.oweNothing_keeps (s : State) : Keeps 0x10000000000 s (State.oweNothing s) := by
  unfold State.oweNothing
  refine Keeps.set_lbl ?_ rfl
  exact Keeps.refl _ _

theorem State.sleepGap_keeps (s : State) : Keeps 0x20000000000 s (State.sleepGap s) := by
  unfold State.sleepGap
  refine Keeps.ite ?_ ?_
  · exact Keeps.refl _ _
  · extract_lets +onlyGivenNames -merge -useContext first
    refine Keeps.then ?_ (State.addRec_keeps _ _ _) rfl
    exact Keeps.refl _ _

theorem State.coachEnds_keeps (s : State) (c : Nat) : Keeps 0xFFFFFFFF000E4BE7E3F4061A s (State.coachEnds s c) := by
  unfold State.coachEnds
  extract_lets +onlyGivenNames -merge -useContext gs
  extract_lets +onlyGivenNames -merge -useContext s1
  have keeps_s1 : Keeps 0xFFFFFFFF000E4BE7E3F4061A s s1 := by
    unfold s1
    refine Keeps.then ?_ (State.ingEnd_keeps _ _) rfl
    exact Keeps.refl _ _
  extract_lets +onlyGivenNames -merge -useContext s2
  have keeps_s2 : Keeps 0xFFFFFFFF000E4BE7E3F4061A s s2 := by
    unfold s2
    refine Keeps.fold ?_ (fun t1 y2 => ?_)
    · exact keeps_s1
    · refine Keeps.ite ?_ ?_
      · refine Keeps.then ?_ (State.mewEmpty_keeps _ _) rfl
        exact Keeps.refl _ _
      · exact Keeps.refl _ _
  extract_lets +onlyGivenNames -merge -useContext s3
  have keeps_s3 : Keeps 0xFFFFFFFF000E4BE7E3F4061A s s3 := by
    unfold s3
    refine Keeps.fold ?_ (fun t3 y4 => ?_)
    · exact keeps_s2
    · refine Keeps.ite ?_ ?_
      · refine Keeps.then ?_ (State.lblTruncate_keeps _ _) rfl
        exact Keeps.refl _ _
      · exact Keeps.refl _ _
  extract_lets +onlyGivenNames -merge -useContext s4
  have keeps_s4 : Keeps 0xFFFFFFFF000E4BE7E3F4061A s s4 := by
    unfold s4
    refine Keeps.then ?_ (State.pump_keeps _ _ _) rfl
    exact keeps_s3
  refine Keeps.set_mews_ing_sta_tru_rga_spr_seg ?_ rfl
  exact keeps_s4

theorem State.coachReset_keeps (s : State) (c : Nat) : Keeps 0xFFFFFFFF000E5BE7FFF49E3A s (State.coachReset s c) := by
  unfold State.coachReset
  extract_lets +onlyGivenNames -merge -useContext inFlight
  extract_lets +onlyGivenNames -merge -useContext s1
  have keeps_s1 : Keeps 0xFFFFFFFF000E5BE7FFF49E3A s s1 := by
    unfold s1
    refine Keeps.fold ?_ (fun t1 y2 => ?_)
    · exact Keeps.refl _ _
    · refine Keeps.then ?_ (State.accessLost_keeps _ _) rfl
      exact Keeps.refl _ _
  extract_lets +onlyGivenNames -merge -useContext s2
  have keeps_s2 : Keeps 0xFFFFFFFF000E5BE7FFF49E3A s s2 := by
    unfold s2
    split
    · refine Keeps.ite ?_ ?_
      · refine Keeps.then ?_ (State.outLost_keeps _) rfl
        exact keeps_s1
      · exact keeps_s1
    · exact keeps_s1
  extract_lets +onlyGivenNames -merge -useContext s3
  have keeps_s3 : Keeps 0xFFFFFFFF000E5BE7FFF49E3A s s3 := by
    unfold s3
    refine Keeps.then ?_ (State.pairEnds_keeps _) rfl
    refine Keeps.then ?_ (State.drayStopAll_keeps _ _ _) rfl
    refine Keeps.then ?_ (State.yokeCancelAll_keeps _) rfl
    refine Keeps.set_stalled ?_ rfl
    exact keeps_s2
  extract_lets +onlyGivenNames -merge -useContext s4
  have keeps_s4 : Keeps 0xFFFFFFFF000E5BE7FFF49E3A s s4 := by
    unfold s4
    refine Keeps.then ?_ (State.pinBreakOwner_keeps _ _) rfl
    refine Keeps.then ?_ (State.pinBreakOwner_keeps _ _) rfl
    refine Keeps.then ?_ (State.coachEnds_keeps _ _) rfl
    exact keeps_s3
  extract_lets +onlyGivenNames -merge -useContext s5
  have keeps_s5 : Keeps 0xFFFFFFFF000E5BE7FFF49E3A s s5 := by
    unfold s5
    refine Keeps.then ?_ (State.restore_keeps _ _ _) rfl
    exact keeps_s4
  extract_lets +onlyGivenNames -merge -useContext s6
  extract_lets +onlyGivenNames -merge -useContext s6_2
  have keeps_s6_2 : Keeps 0xFFFFFFFF000E5BE7FFF49E3A s s6_2 := by
    unfold s6_2
    refine Keeps.set_pwr_dmc_dry_wht_lanes ?_ rfl
    exact keeps_s5
  extract_lets +onlyGivenNames -merge -useContext up
  refine Keeps.then ?_ (State.holdDrops_keeps _) rfl
  refine Keeps.then ?_ (State.resetCause_keeps _ _ _) rfl
  refine Keeps.then ?_ (State.wf_keeps _ _ _ _) rfl
  exact keeps_s6_2

theorem State.reapplyFull_keeps (s : State) (cs : List Nat) : Keeps 0xFFFFFFFF000FFFFFFFFFF7FA s (State.reapplyFull s cs) := by
  unfold State.reapplyFull
  extract_lets +onlyGivenNames -merge -useContext s1
  have keeps_s1 : Keeps 0xFFFFFFFF000FFFFFFFFFF7FA s s1 := by
    unfold s1
    refine Keeps.then ?_ (State.reapply_keeps _) rfl
    refine Keeps.then ?_ (State.applyDrained_keeps _) rfl
    refine Keeps.then ?_ (State.applyBegins_keeps _) rfl
    exact Keeps.refl _ _
  extract_lets +onlyGivenNames -merge -useContext s2
  have keeps_s2 : Keeps 0xFFFFFFFF000FFFFFFFFFF7FA s s2 := by
    unfold s2
    refine Keeps.fold ?_ (fun t1 y2 => ?_)
    · exact keeps_s1
    · refine Keeps.ite ?_ ?_
      · refine Keeps.then ?_ (State.laneStart_keeps _ _) rfl
        exact Keeps.refl _ _
      · exact Keeps.refl _ _
  refine Keeps.then ?_ (State.stagesFollow_keeps _) rfl
  exact keeps_s2

end Sys2Proof.Machine
end

