-- ==== Sys2Proof/Laws/KeepsRing.lean ====
section
/-! SUPPORT. Frames of the operations of Machine/Ring.lean: what each may change, one lemma each. -/

namespace Sys2Proof.Machine

theorem State.ringMod_keeps (s : State) (f : Ring → Ring) : Keeps 0x4000000000000 s (State.ringMod s f) := by
  unfold State.ringMod
  refine Keeps.set_ring ?_ rfl
  exact Keeps.refl _ _

theorem State.ringLive_keeps (s : State) : Keeps 0x6000000000000000408 s (State.ringLive s) := by
  unfold State.ringLive
  refine Keeps.then ?_ (State.bypShow_keeps _) rfl
  refine Keeps.then ?_ (State.wf_keeps _ _ _ _) (Sub.or rfl rfl)
  exact Keeps.refl _ _

theorem execRingHelloSend_keeps (s : State) : KeepsO 0x400 s (execRingHelloSend s) := by
  unfold execRingHelloSend
  refine KeepsO.next ?_
  refine Keeps.ite ?_ ?_
  · exact Keeps.refl _ _
  · refine Keeps.fold ?_ (fun t1 y2 => ?_)
    · exact Keeps.refl _ _
    · extract_lets +onlyGivenNames -merge -useContext l
      refine Keeps.ite ?_ ?_
      · refine Keeps.then ?_ (State.emit_keeps _ _ _ _) rfl
        exact Keeps.refl _ _
      · exact Keeps.refl _ _

theorem State.closeEast_keeps (s : State) : Keeps 0x80010C00000020000D0060A s (State.closeEast s) := by
  unfold State.closeEast
  extract_lets +onlyGivenNames -merge -useContext line
  extract_lets +onlyGivenNames -merge -useContext front
  extract_lets +onlyGivenNames -merge -useContext waits
  extract_lets +onlyGivenNames -merge -useContext close
  extract_lets +onlyGivenNames -merge -useContext own
  refine Keeps.then ?_ (State.readyAll_keeps _ _) rfl
  refine Keeps.then ?_ (State.strmMod_keeps _ _ _) rfl
  exact Keeps.refl _ _

theorem State.writeKept_keeps (s : State) : Keeps 0x4000004020000000008 s (State.writeKept s) := by
  unfold State.writeKept
  extract_lets +onlyGivenNames -merge -useContext l
  extract_lets +onlyGivenNames -merge -useContext s1
  have keeps_s1 : Keeps 0x4000004020000000008 s s1 := by
    unfold s1
    refine Keeps.then ?_ (State.ringMod_keeps _ _) rfl
    exact Keeps.refl _ _
  refine Keeps.fold ?_ (fun t1 y2 => ?_)
  · exact keeps_s1
  · refine Keeps.then ?_ (State.inc_keeps _ _ _) rfl
    refine Keeps.then ?_ (State.addRec_keeps _ _ _) rfl
    exact Keeps.refl _ _

theorem State.ringLost_keeps (s : State) (west : Bool) : Keeps 0x80014C00004020000D4060A s (State.ringLost s west) := by
  unfold State.ringLost
  extract_lets +onlyGivenNames -merge -useContext s1
  have keeps_s1 : Keeps 0x80014C00004020000D4060A s s1 := by
    unfold s1
    refine Keeps.then ?_ (State.ev_keeps _ _ _) (Sub.or rfl rfl)
    refine Keeps.then ?_ (State.rcode_keeps _ _) rfl
    exact Keeps.refl _ _
  refine Keeps.ite ?_ ?_
  · refine Keeps.then ?_ (State.writeKept_keeps _) rfl
    refine Keeps.then ?_ (State.ringMod_keeps _ _) rfl
    refine Keeps.then ?_ (State.wf_keeps _ _ _ _) (Sub.or rfl rfl)
    refine Keeps.then ?_ (State.wf_keeps _ _ _ _) (Sub.or rfl rfl)
    exact keeps_s1
  · refine Keeps.then ?_ (State.ringMod_keeps _ _) rfl
    refine Keeps.then ?_ (State.wf_keeps _ _ _ _) (Sub.or rfl rfl)
    refine Keeps.then ?_ (State.wf_keeps _ _ _ _) (Sub.or rfl rfl)
    refine Keeps.then ?_ (State.closeEast_keeps _) rfl
    exact keeps_s1

theorem execRingNeighbourLost_keeps (west : Bool) (s : State) : KeepsO 0x80014C00004020000D4060A s (execRingNeighbourLost west s) := by
  unfold execRingNeighbourLost
  refine KeepsO.next ?_
  refine Keeps.ite ?_ ?_
  · refine Keeps.then ?_ (State.ringLost_keeps _ _) rfl
    exact Keeps.refl _ _
  · exact Keeps.refl _ _

theorem State.ringLeader_keeps (s : State) : Keeps 0x14400000000000140608 s (State.ringLeader s) := by
  unfold State.ringLeader
  extract_lets +onlyGivenNames -merge -useContext pos
  extract_lets +onlyGivenNames -merge -useContext of
  extract_lets +onlyGivenNames -merge -useContext n
  extract_lets +onlyGivenNames -merge -useContext s1
  have keeps_s1 : Keeps 0x14400000000000140608 s s1 := by
    unfold s1
    refine Keeps.then ?_ (State.wf_keeps _ _ _ _) (Sub.or rfl rfl)
    exact Keeps.refl _ _
  refine Keeps.ite ?_ ?_
  · extract_lets +onlyGivenNames -merge -useContext s2
    have keeps_s2 : Keeps 0x14400000000000140608 s s2 := by
      unfold s2
      refine Keeps.then ?_ (State.ev_keeps _ _ _) (Sub.or rfl rfl)
      refine Keeps.then ?_ (State.rcode_keeps _ _) rfl
      exact keeps_s1
    refine Keeps.ite ?_ ?_
    · refine Keeps.then ?_ (State.wf_keeps _ _ _ _) (Sub.or rfl rfl)
      exact keeps_s2
    · exact keeps_s2
  · exact keeps_s1

theorem State.ringAlign_keeps (s : State) (h : RingHello) : Keeps 0x10C10000000000D4060A s (State.ringAlign s h) := by
  unfold State.ringAlign
  refine Keeps.ite ?_ ?_
  · exact Keeps.refl _ _
  · extract_lets +onlyGivenNames -merge -useContext off
    extract_lets +onlyGivenNames -merge -useContext s1
    extract_lets +onlyGivenNames -merge -useContext x1
    have keeps_x1 : Keeps 0x10C10000000000D4060A s x1 := by
      unfold x1
      refine Keeps.then ?_ (State.wf64_keeps _ _ _ _) (Sub.or rfl rfl)
      refine Keeps.set_way ?_ rfl
      exact Keeps.refl _ _
    refine Keeps.then ?_ (State.servo_keeps _ _) rfl
    refine Keeps.then ?_ (State.wf_keeps _ _ _ _) (Sub.or rfl rfl)
    exact keeps_x1

theorem State.ringJoin_keeps (s : State) (west : Bool) (h : RingHello) (before : Option RingHello) (lost : Bool) :
    Keeps 0x14000000000000140608 s (State.ringJoin s west h before lost) := by
  unfold State.ringJoin
  extract_lets +onlyGivenNames -merge -useContext pos
  extract_lets +onlyGivenNames -merge -useContext seam
  extract_lets +onlyGivenNames -merge -useContext f
  extract_lets +onlyGivenNames -merge -useContext news
  refine Keeps.ite ?_ ?_
  · refine Keeps.ite ?_ ?_
    · refine Keeps.then ?_ (State.ev_keeps _ _ _) (Sub.or rfl rfl)
      refine Keeps.then ?_ (State.rcode_keeps _ _) rfl
      exact Keeps.refl _ _
    · exact Keeps.refl _ _
  · refine Keeps.ite ?_ ?_
    · extract_lets +onlyGivenNames -merge -useContext s1
      have keeps_s1 : Keeps 0x14000000000000140608 s s1 := by
        unfold s1
        refine Keeps.then ?_ (State.wf_keeps _ _ _ _) (Sub.or rfl (Sub.blk .RNG (by first | rfl | exact blk_ite rfl rfl) rfl))
        exact Keeps.refl _ _
      refine Keeps.ite ?_ ?_
      · refine Keeps.then ?_ (State.ev_keeps _ _ _) (Sub.or rfl rfl)
        refine Keeps.then ?_ (State.rcode_keeps _ _) rfl
        exact keeps_s1
      · exact keeps_s1
    · extract_lets +onlyGivenNames -merge -useContext s1
      have keeps_s1 : Keeps 0x14000000000000140608 s s1 := by
        unfold s1
        refine Keeps.then ?_ (State.wf_keeps _ _ _ _) (Sub.or rfl (Sub.blk .RNG (by first | rfl | exact blk_ite rfl rfl) rfl))
        exact Keeps.refl _ _
      refine Keeps.ite ?_ ?_
      · refine Keeps.then ?_ (State.ev_keeps _ _ _) (Sub.or rfl rfl)
        refine Keeps.then ?_ (State.rcode_keeps _ _) rfl
        exact keeps_s1
      · exact keeps_s1

theorem execRingHello_keeps (west : Bool) (h : RingHello) (s : State) : KeepsO 0x80014C10004020000D4060A s (execRingHello west h s) := by
  unfold execRingHello
  refine KeepsO.next ?_
  refine Keeps.ite ?_ ?_
  · exact Keeps.refl _ _
  · extract_lets +onlyGivenNames -merge -useContext n
    extract_lets +onlyGivenNames -merge -useContext pos
    extract_lets +onlyGivenNames -merge -useContext shown
    have keeps_shown : Keeps 0x80014C10004020000D4060A s shown := by
      unfold shown
      refine Keeps.then ?_ (State.wf_keeps _ _ _ _) (Sub.or rfl (Sub.blk .RNG (by first | rfl | exact blk_ite rfl rfl) rfl))
      exact Keeps.refl _ _
    refine Keeps.ite ?_ ?_
    · refine Keeps.ite ?_ ?_
      · refine Keeps.then ?_ (State.ringLost_keeps _ _) rfl
        exact keeps_shown
      · exact keeps_shown
    · extract_lets +onlyGivenNames -merge -useContext before
      extract_lets +onlyGivenNames -merge -useContext lost
      extract_lets +onlyGivenNames -merge -useContext s1
      have keeps_s1 : Keeps 0x80014C10004020000D4060A s s1 := by
        unfold s1
        refine Keeps.then ?_ (State.wf_keeps _ _ _ _) (Sub.or rfl (Sub.blk .RNG (by first | rfl | exact blk_ite rfl rfl) rfl))
        exact keeps_shown
      extract_lets +onlyGivenNames -merge -useContext s2
      have keeps_s2 : Keeps 0x80014C10004020000D4060A s s2 := by
        unfold s2
        refine Keeps.then ?_ (State.ringMod_keeps _ _) rfl
        exact keeps_s1
      refine Keeps.then ?_ (State.ringAlign_keeps _ _) rfl
      refine Keeps.then ?_ (State.ringLeader_keeps _) rfl
      refine Keeps.then ?_ (State.ringJoin_keeps _ _ _ _ _) rfl
      exact keeps_s2

theorem execRingPartialSet_keeps (frags : List Frag) (reports : List Report) (frontier : Nat) (s : State) :
    KeepsO 0x80014C00004020000D0060A s (execRingPartialSet frags reports frontier s) := by
  unfold execRingPartialSet
  refine KeepsO.next ?_
  refine Keeps.ite ?_ ?_
  · exact Keeps.refl _ _
  · extract_lets +onlyGivenNames -merge -useContext cols
    extract_lets +onlyGivenNames -merge -useContext s1
    have keeps_s1 : Keeps 0x80014C00004020000D0060A s s1 := by
      unfold s1
      refine Keeps.fold ?_ (fun t1 y2 => ?_)
      · exact Keeps.refl _ _
      · refine Keeps.then ?_ (State.strmMod_keeps _ _ _) rfl
        exact Keeps.refl _ _
    extract_lets +onlyGivenNames -merge -useContext s2
    have keeps_s2 : Keeps 0x80014C00004020000D0060A s s2 := by
      unfold s2
      refine Keeps.fold ?_ (fun t3 y4 => ?_)
      · exact keeps_s1
      · refine Keeps.then ?_ (State.strmMod_keeps _ _ _) rfl
        exact Keeps.refl _ _
    extract_lets +onlyGivenNames -merge -useContext s3
    have keeps_s3 : Keeps 0x80014C00004020000D0060A s s3 := by
      unfold s3
      refine Keeps.then ?_ (State.strmMod_keeps _ _ _) rfl
      exact keeps_s2
    refine Keeps.then ?_ (State.phiMove_keeps _ _) rfl
    refine Keeps.then ?_ (State.readyAll_keeps _ _) rfl
    refine Keeps.then ?_ (State.wf64_keeps _ _ _ _) (Sub.or rfl rfl)
    exact keeps_s3

end Sys2Proof.Machine
end

