-- ==== Sys2Proof/Laws/KeepsPower.lean ====
section
/-! SUPPORT. Frames of the operations of Machine/Power.lean: what each may change, one lemma each. -/

namespace Sys2Proof.Machine

theorem State.pwrRefuse_keeps (s : State) (m : Nat) (d : Nat) : Keeps 0x11010000000000140608 s (State.pwrRefuse s m d) := by
  unfold State.pwrRefuse
  refine Keeps.then ?_ (State.ev_keeps _ _ _) (Sub.or rfl rfl)
  refine Keeps.then ?_ (State.gcode_keeps _ _ _ _) rfl
  exact Keeps.refl _ _

theorem State.sleepBegins_keeps (s : State) (t : Nat) : Keeps 0x24010000000018008C8008 s (State.sleepBegins s t) := by
  unfold State.sleepBegins
  extract_lets +onlyGivenNames -merge -useContext s1
  have keeps_s1 : Keeps 0x24010000000018008C8008 s s1 := by
    unfold s1
    refine Keeps.then ?_ (State.wwtAbandon_keeps _) rfl
    refine Keeps.then ?_ (State.wf_keeps _ _ _ _) rfl
    refine Keeps.then ?_ (State.toPwr_keeps _ _) rfl
    refine Keeps.then ?_ (State.leaveRun_keeps _) rfl
    exact Keeps.refl _ _
  refine Keeps.set_pwr ?_ rfl
  exact keeps_s1

theorem State.actSleep_keeps (s : State) (m : Nat) : Keeps 0x24130100000018009C8608 s (State.actSleep s m) := by
  unfold State.actSleep
  extract_lets +onlyGivenNames -merge -useContext t
  extract_lets +onlyGivenNames -merge -useContext force
  extract_lets +onlyGivenNames -merge -useContext st
  refine Keeps.ite ?_ ?_
  · exact Keeps.refl _ _
  · refine Keeps.ite ?_ ?_
    · refine Keeps.then ?_ (State.ev_keeps _ _ _) rfl
      refine Keeps.then ?_ (State.pcode_keeps _ _) rfl
      exact Keeps.refl _ _
    · refine Keeps.ite ?_ ?_
      · refine Keeps.then ?_ (State.pwrRefuse_keeps _ _ _) rfl
        exact Keeps.refl _ _
      · refine Keeps.ite ?_ ?_
        · refine Keeps.then ?_ (State.pwrRefuse_keeps _ _ _) rfl
          exact Keeps.refl _ _
        · refine Keeps.ite ?_ ?_
          · refine Keeps.then ?_ (State.pwrRefuse_keeps _ _ _) rfl
            exact Keeps.refl _ _
          · refine Keeps.ite ?_ ?_
            · refine Keeps.then ?_ (State.pwrRefuse_keeps _ _ _) rfl
              exact Keeps.refl _ _
            · refine Keeps.ite ?_ ?_
              · refine Keeps.then ?_ (State.pwrRefuse_keeps _ _ _) rfl
                exact Keeps.refl _ _
              · extract_lets +onlyGivenNames -merge -useContext s1
                have keeps_s1 : Keeps 0x24130100000018009C8608 s s1 := by
                  unfold s1
                  refine Keeps.then ?_ (State.sleepBegins_keeps _ _) rfl
                  exact Keeps.refl _ _
                refine Keeps.ite ?_ ?_
                · refine Keeps.then ?_ (State.emit_keeps _ _ _ _) rfl
                  exact keeps_s1
                · exact keeps_s1

theorem execSleepRequest_keeps (m : Nat) (w : Word) (s : State) : KeepsO 0x24130D00000018009C9638 s (execSleepRequest m w s) := by
  unfold execSleepRequest
  refine KeepsO.next ?_
  refine Keeps.then ?_ (State.regAct_keeps (msk := 0x24130D00000018009C9638) _ _ _ _ _ _ (by exact rfl) (fun z11 => ?_)) (Sub.refl _)
  · exact Keeps.refl _ _
  · refine Keeps.then ?_ (State.actSleep_keeps _ _) rfl
    exact Keeps.refl _ _

theorem execControlSleepRequest_keeps (target : Nat) (s : State) :
    KeepsO 0x2413410002001800DC8608 s (execControlSleepRequest target s) := by
  unfold execControlSleepRequest
  refine KeepsO.next ?_
  refine Keeps.ite ?_ ?_
  · refine Keeps.then ?_ (State.sleepBegins_keeps _ _) rfl
    refine Keeps.then ?_ (State.resyncShow_keeps _) rfl
    refine Keeps.then ?_ (State.toRole_keeps _ _) rfl
    refine Keeps.then ?_ (State.pairMod_keeps _ _) rfl
    exact Keeps.refl _ _
  · exact Keeps.refl _ _

theorem execSleepDrainDone_keeps (s : State) : KeepsO 0xFFFFFFFF000E4FE7E3F4861A s (execSleepDrainDone s) := by
  unfold execSleepDrainDone
  refine KeepsO.next ?_
  refine Keeps.ite ?_ ?_
  · extract_lets +onlyGivenNames -merge -useContext t
    have keeps_t : Keeps 0xFFFFFFFF000E4FE7E3F4861A s t := by
      unfold t
      refine Keeps.then ?_ (State.drainAll_keeps _ _) rfl
      exact Keeps.refl _ _
    refine Keeps.set_pwr ?_ rfl
    exact keeps_t
  · exact Keeps.refl _ _

theorem execSleepDrayageDone_keeps (s : State) : KeepsO 0xA9201000830000F14860A s (execSleepDrayageDone s) := by
  unfold execSleepDrayageDone
  refine KeepsO.next ?_
  refine Keeps.ite ?_ ?_
  · extract_lets +onlyGivenNames -merge -useContext t
    have keeps_t : Keeps 0xA9201000830000F14860A s t := by
      unfold t
      refine Keeps.then ?_ (State.lanesSleep_keeps _) rfl
      refine Keeps.then ?_ (State.dramSleep_keeps _) rfl
      refine Keeps.then ?_ (State.drayStopAll_keeps _ _ _) rfl
      exact Keeps.refl _ _
    refine Keeps.set_pwr ?_ rfl
    exact keeps_t
  · exact Keeps.refl _ _

theorem State.retain_keeps (s : State) (keep : Bool) : Keeps 0x8000 s (State.retain s keep) := by
  unfold State.retain
  extract_lets +onlyGivenNames -merge -useContext im
  refine Keeps.set_pwr ?_ rfl
  exact Keeps.refl _ _

theorem State.enterBox_keeps (s : State) : Keeps 0xFFFFFFFF000FFFFFFF79F7F8 s (State.enterBox s) := by
  unfold State.enterBox
  extract_lets +onlyGivenNames -merge -useContext keep
  extract_lets +onlyGivenNames -merge -useContext s1
  have keeps_s1 : Keeps 0xFFFFFFFF000FFFFFFF79F7F8 s s1 := by
    unfold s1
    refine Keeps.then ?_ (State.retain_keeps _ _) rfl
    exact Keeps.refl _ _
  extract_lets +onlyGivenNames -merge -useContext s2
  extract_lets +onlyGivenNames -merge -useContext s2_2
  have keeps_s2_2 : Keeps 0xFFFFFFFF000FFFFFFF79F7F8 s s2_2 := by
    unfold s2_2
    refine Keeps.set_pwr ?_ rfl
    exact keeps_s1
  extract_lets +onlyGivenNames -merge -useContext s3
  have keeps_s3 : Keeps 0xFFFFFFFF000FFFFFFF79F7F8 s s3 := by
    unfold s3
    refine Keeps.then ?_ (State.bypAllLow_keeps _) rfl
    refine Keeps.then ?_ (State.fastLost_keeps _ _) rfl
    exact keeps_s2_2
  refine Keeps.then ?_ (State.toPwr_keeps _ _) rfl
  refine Keeps.then ?_ (State.wf_keeps _ _ _ _) rfl
  exact keeps_s3

theorem State.clocksStop_keeps (s : State) : Keeps 0x1C00000000000C0000A s (State.clocksStop s) := by
  unfold State.clocksStop
  refine Keeps.then ?_ (State.wf_keeps _ _ _ _) (Sub.or rfl rfl)
  refine Keeps.then ?_ (State.tmtSleep_keeps _) rfl
  refine Keeps.then ?_ (State.waySleep_keeps _) rfl
  exact Keeps.refl _ _

theorem execSleepClocksStopped_keeps (s : State) : KeepsO 0xFFFFFFFF000FFFFFFFF9F7FA s (execSleepClocksStopped s) := by
  unfold execSleepClocksStopped
  refine KeepsO.next ?_
  refine Keeps.ite ?_ ?_
  · extract_lets +onlyGivenNames -merge -useContext u
    have keeps_u : Keeps 0xFFFFFFFF000FFFFFFFF9F7FA s u := by
      unfold u
      refine Keeps.ite ?_ ?_
      · exact Keeps.refl _ _
      · refine Keeps.then ?_ (State.clocksStop_keeps _) rfl
        exact Keeps.refl _ _
    extract_lets +onlyGivenNames -merge -useContext t
    have keeps_t : Keeps 0xFFFFFFFF000FFFFFFFF9F7FA s t := by
      unfold t
      refine Keeps.then ?_ (State.ev_keeps _ _ _) rfl
      refine Keeps.then ?_ (State.wf_keeps _ _ _ _) rfl
      refine Keeps.then ?_ (State.toPwr_keeps _ _) rfl
      exact keeps_u
    refine Keeps.ite ?_ ?_
    · refine Keeps.then ?_ (State.ev_keeps _ _ _) rfl
      refine Keeps.then ?_ (State.wakeBegins_keeps _ _) rfl
      exact keeps_t
    · refine Keeps.ite ?_ ?_
      · refine Keeps.then ?_ (State.enterBox_keeps _) rfl
        exact keeps_t
      · refine Keeps.set_pwr ?_ rfl
        exact keeps_t
  · exact Keeps.refl _ _

theorem execWakeEvent_keeps (src : Nat) (idx : Nat) (s : State) : KeepsO 0x1010000000000008008 s (execWakeEvent src idx s) := by
  unfold execWakeEvent
  refine KeepsO.next ?_
  refine Keeps.then ?_ (State.wakeSource_keeps _ _ _) rfl
  exact Keeps.refl _ _

theorem State.actWake_keeps (s : State) (m : Nat) : Keeps 0x11010000000000108608 s (State.actWake s m) := by
  unfold State.actWake
  extract_lets +onlyGivenNames -merge -useContext st
  extract_lets +onlyGivenNames -merge -useContext may
  refine Keeps.ite ?_ ?_
  · exact Keeps.refl _ _
  · refine Keeps.ite ?_ ?_
    · refine Keeps.then ?_ (State.ev_keeps _ _ _) (Sub.or rfl rfl)
      exact Keeps.refl _ _
    · extract_lets +onlyGivenNames -merge -useContext s1
      have keeps_s1 : Keeps 0x11010000000000108608 s s1 := by
        unfold s1
        refine Keeps.then ?_ (State.wf_keeps _ _ _ _) (Sub.or rfl rfl)
        refine Keeps.then ?_ (State.wf_keeps _ _ _ _) (Sub.or rfl rfl)
        exact Keeps.refl _ _
      extract_lets +onlyGivenNames -merge -useContext s2
      have keeps_s2 : Keeps 0x11010000000000108608 s s2 := by
        unfold s2
        refine Keeps.then ?_ (State.wf_keeps _ _ _ _) (Sub.or rfl rfl)
        exact keeps_s1
      extract_lets +onlyGivenNames -merge -useContext s3
      extract_lets +onlyGivenNames -merge -useContext x1
      have keeps_x1 : Keeps 0x11010000000000108608 s x1 := by
        unfold x1
        refine Keeps.set_pwr ?_ rfl
        exact keeps_s2
      refine Keeps.ite ?_ ?_
      · refine Keeps.set_pwr ?_ rfl
        exact keeps_x1
      · refine Keeps.then ?_ (State.wakeBegins_keeps _ _) rfl
        exact keeps_x1

theorem execWakeCommand_keeps (m : Nat) (w : Word) (s : State) : KeepsO 0x110D0000000000149638 s (execWakeCommand m w s) := by
  unfold execWakeCommand
  refine KeepsO.next ?_
  refine Keeps.then ?_ (State.regAct_keeps (msk := 0x110D0000000000149638) _ _ _ _ _ _ (by exact Sub.or rfl rfl) (fun z1 => ?_)) (Sub.refl _)
  · exact Keeps.refl _ _
  · refine Keeps.then ?_ (State.actWake_keeps _ _) rfl
    exact Keeps.refl _ _

theorem State.wakeHorns_keeps (s : State) : Keeps 0x1100000000000000608 s (State.wakeHorns s) := by
  unfold State.wakeHorns
  extract_lets +onlyGivenNames -merge -useContext h
  refine Keeps.then ?_ (State.wf_keeps _ _ _ _) (Sub.or rfl rfl)
  refine Keeps.fold ?_ (fun t1 y2 => ?_)
  · exact Keeps.refl _ _
  · refine Keeps.ite ?_ ?_
    · refine Keeps.then ?_ (State.ringHorn_keeps _ _ _) rfl
      exact Keeps.refl _ _
    · exact Keeps.refl _ _

theorem State.clocksUp_keeps (s : State) : Keeps 0x9000000000000000008 s (State.clocksUp s) := by
  unfold State.clocksUp
  extract_lets +onlyGivenNames -merge -useContext n
  extract_lets +onlyGivenNames -merge -useContext s1
  have keeps_s1 : Keeps 0x9000000000000000008 s s1 := by
    unfold s1
    refine Keeps.then ?_ (State.wf_keeps _ _ _ _) (Sub.or rfl rfl)
    refine Keeps.then ?_ (State.wf_keeps _ _ _ _) (Sub.or rfl rfl)
    refine Keeps.then ?_ (State.wf_keeps _ _ _ _) (Sub.or rfl rfl)
    exact Keeps.refl _ _
  extract_lets +onlyGivenNames -merge -useContext s2
  have keeps_s2 : Keeps 0x9000000000000000008 s s2 := by
    unfold s2
    refine Keeps.then ?_ (State.wf_keeps _ _ _ _) (Sub.or rfl rfl)
    refine Keeps.then ?_ (State.wf_keeps _ _ _ _) (Sub.or rfl rfl)
    refine Keeps.then ?_ (State.wf_keeps _ _ _ _) (Sub.or rfl rfl)
    exact keeps_s1
  refine Keeps.then ?_ (State.wf_keeps _ _ _ _) (Sub.or rfl rfl)
  refine Keeps.then ?_ (State.wf_keeps _ _ _ _) (Sub.or rfl rfl)
  exact keeps_s2

theorem State.linkTrains_keeps (s : State) : Keeps 0x8000 s (State.linkTrains s) := by
  unfold State.linkTrains
  extract_lets +onlyGivenNames -merge -useContext up
  refine Keeps.set_pwr ?_ rfl
  exact Keeps.refl _ _

theorem State.carriagesReady_keeps (s : State) : Keeps 0x56410002000000540608 s (State.carriagesReady s) := by
  unfold State.carriagesReady
  refine Keeps.then ?_ (State.ringLive_keeps _) rfl
  refine Keeps.then ?_ (State.pairStart_keeps _) rfl
  refine Keeps.then ?_ (State.whtRelease_keeps _) rfl
  exact Keeps.refl _ _

theorem State.pairWakes_keeps (s : State) : Keeps 0x2000000000000000408 s (State.pairWakes s) := by
  unfold State.pairWakes
  extract_lets +onlyGivenNames -merge -useContext s1
  have keeps_s1 : Keeps 0x2000000000000000408 s s1 := by
    unfold s1
    refine Keeps.then ?_ (State.wf_keeps _ _ _ _) (Sub.or rfl rfl)
    exact Keeps.refl _ _
  refine Keeps.ite ?_ ?_
  · refine Keeps.then ?_ (State.helloSend_keeps _) rfl
    exact keeps_s1
  · exact keeps_s1

theorem State.wakeEnds_keeps (s : State) : Keeps 0x411D00000020500D80608 s (State.wakeEnds s) := by
  unfold State.wakeEnds
  extract_lets +onlyGivenNames -merge -useContext us
  extract_lets +onlyGivenNames -merge -useContext s1
  have keeps_s1 : Keeps 0x411D00000020500D80608 s s1 := by
    unfold s1
    refine Keeps.then ?_ (State.wf_keeps _ _ _ _) rfl
    refine Keeps.then ?_ (State.toPwr_keeps _ _) rfl
    exact Keeps.refl _ _
  extract_lets +onlyGivenNames -merge -useContext s2
  have keeps_s2 : Keeps 0x411D00000020500D80608 s s2 := by
    unfold s2
    refine Keeps.then ?_ (State.wakeHorns_keeps _) rfl
    refine Keeps.then ?_ (State.tmtWake_keeps _) rfl
    refine Keeps.then ?_ (State.wayWake_keeps _) rfl
    exact keeps_s1
  refine Keeps.then ?_ (State.ev_keeps _ _ _) rfl
  refine Keeps.then ?_ (State.wwtResume_keeps _) rfl
  refine Keeps.then ?_ (State.sleepGap_keeps _) rfl
  exact keeps_s2

theorem State.bootLoad_keeps (s : State) : Keeps 0x30000000000010008 s (State.bootLoad s) := by
  unfold State.bootLoad
  extract_lets +onlyGivenNames -merge -useContext h
  refine Keeps.ite ?_ ?_
  · refine Keeps.then ?_ (State.wf_keeps _ _ _ _) (Sub.or rfl rfl)
    exact Keeps.refl _ _
  · refine Keeps.then ?_ (State.bootAttempt_keeps _ _ _) rfl
    exact Keeps.refl _ _

theorem State.toStage_keeps (s : State) (n : Nat) : Keeps 0x10000000000000008 s (State.toStage s n) := by
  unfold State.toStage
  refine Keeps.then ?_ (State.wf_keeps _ _ _ _) (Sub.or rfl rfl)
  refine Keeps.then ?_ (State.wf_keeps _ _ _ _) (Sub.or rfl rfl)
  refine Keeps.then ?_ (State.wf_keeps _ _ _ _) (Sub.or rfl rfl)
  exact Keeps.refl _ _

theorem State.boxWake_keeps (s : State) (copyBad : Bool) : Keeps 0xFFFFFFFF000FFFFFFFFFF7FA s (State.boxWake s copyBad) := by
  unfold State.boxWake
  extract_lets +onlyGivenNames -merge -useContext s1
  have keeps_s1 : Keeps 0xFFFFFFFF000FFFFFFFFFF7FA s s1 := by
    unfold s1
    refine Keeps.then ?_ (State.linkTrains_keeps _) rfl
    refine Keeps.then ?_ (State.dramWake_keeps _) rfl
    refine Keeps.then ?_ (State.clocksUp_keeps _) rfl
    refine Keeps.then ?_ (State.resetCause_keeps _ _ _) rfl
    exact Keeps.refl _ _
  refine Keeps.ite ?_ ?_
  · refine Keeps.then ?_ (State.bootLoad_keeps _) rfl
    refine Keeps.then ?_ (State.toStage_keeps _ _) rfl
    refine Keeps.then ?_ (State.wf_keeps _ _ _ _) rfl
    refine Keeps.then ?_ (State.harnessGone_keeps _) rfl
    exact keeps_s1
  · refine Keeps.then ?_ (State.wakeEnds_keeps _) rfl
    refine Keeps.then ?_ (State.carriagesReady_keeps _) rfl
    refine Keeps.then ?_ (State.lanesTrainAll_keeps _) rfl
    refine Keeps.then ?_ (State.oweNothing_keeps _) rfl
    refine Keeps.then ?_ (State.reapply_keeps _) rfl
    exact keeps_s1

theorem execWakeComplete_keeps (copyBad : Bool) (s : State) : KeepsO 0xFFFFFFFF000FFFFFFFFFF7FA s (execWakeComplete copyBad s) := by
  unfold execWakeComplete
  refine KeepsO.next ?_
  refine Keeps.ite ?_ ?_
  · exact Keeps.refl _ _
  · refine Keeps.ite ?_ ?_
    · refine Keeps.then ?_ (State.boxWake_keeps _ _) rfl
      exact Keeps.refl _ _
    · refine Keeps.then ?_ (State.wakeEnds_keeps _) rfl
      refine Keeps.then ?_ (State.pairWakes_keeps _) rfl
      refine Keeps.then ?_ (State.lanesWake_keeps _) rfl
      refine Keeps.then ?_ (State.dramWake_keeps _) rfl
      refine Keeps.then ?_ (State.wf_keeps _ _ _ _) rfl
      exact Keeps.refl _ _

theorem State.actContinue_keeps (s : State) (m : Nat) : Keeps 0x10000000000000008 s (State.actContinue s m) := by
  unfold State.actContinue
  refine Keeps.ite ?_ ?_
  · refine Keeps.then ?_ (State.wf_keeps _ _ _ _) (Sub.or rfl rfl)
    refine Keeps.then ?_ (State.wf_keeps _ _ _ _) (Sub.or rfl rfl)
    exact Keeps.refl _ _
  · exact Keeps.refl _ _

theorem execBootContinue_keeps (m : Nat) (w : Word) (s : State) : KeepsO 0x10D0000000000041638 s (execBootContinue m w s) := by
  unfold execBootContinue
  refine KeepsO.next ?_
  refine Keeps.then ?_ (State.regAct_keeps (msk := 0x10D0000000000041638) _ _ _ _ _ _ (by exact Sub.or rfl rfl) (fun z1 => ?_)) (Sub.refl _)
  · exact Keeps.refl _ _
  · refine Keeps.then ?_ (State.actContinue_keeps _ _) rfl
    exact Keeps.refl _ _

theorem execPowerOnReset_keeps (rstnLow : Bool) (vddIo : Nat) (s : State) :
    KeepsO 0xFFFFFFFF000FFFFFFFF9FBF8 s (execPowerOnReset rstnLow vddIo s) := by
  unfold execPowerOnReset
  refine KeepsO.next ?_
  refine Keeps.then ?_ (State.powerOn_keeps _ _ _) rfl
  exact Keeps.refl _ _

theorem State.bootStop_keeps (s : State) (letter : Char) (d : Nat) (coach : Nat) :
    Keeps 0x10000000000040608 s (State.bootStop s letter d coach) := by
  unfold State.bootStop
  extract_lets +onlyGivenNames -merge -useContext s1
  have keeps_s1 : Keeps 0x10000000000040608 s s1 := by
    unfold s1
    refine Keeps.then ?_ (State.wf_keeps _ _ _ _) (Sub.or rfl rfl)
    refine Keeps.then ?_ (State.wf_keeps _ _ _ _) (Sub.or rfl rfl)
    refine Keeps.then ?_ (State.wf_keeps _ _ _ _) (Sub.or rfl rfl)
    exact Keeps.refl _ _
  refine Keeps.ite ?_ ?_
  · refine Keeps.then ?_ (State.gcode_keeps _ _ _ _) rfl
    exact keeps_s1
  · exact keeps_s1

theorem State.dramStage_keeps (s : State) (train : Nat) (margins : List Nat) :
    Keeps 0x210010000000004140608 s (State.dramStage s train margins) := by
  unfold State.dramStage
  split
  · refine Keeps.then ?_ (State.bootStop_keeps _ _ _ _) rfl
    refine Keeps.then ?_ (State.dmcCode_keeps _ _ _ _ _) rfl
    exact Keeps.refl _ _
  · refine Keeps.then ?_ (State.toStage_keeps _ _) rfl
    refine Keeps.then ?_ (State.dramTrained_keeps _ _ _ _) rfl
    exact Keeps.refl _ _

theorem State.lastStage_keeps (s : State) : Keeps 0x457D10002020500DC0608 s (State.lastStage s) := by
  unfold State.lastStage
  extract_lets +onlyGivenNames -merge -useContext s1
  have keeps_s1 : Keeps 0x457D10002020500DC0608 s s1 := by
    unfold s1
    refine Keeps.then ?_ (State.carriagesReady_keeps _) rfl
    refine Keeps.then ?_ (State.toStage_keeps _ _) rfl
    exact Keeps.refl _ _
  refine Keeps.ite ?_ ?_
  · refine Keeps.then ?_ (State.wakeEnds_keeps _) rfl
    exact keeps_s1
  · refine Keeps.then ?_ (State.wwtResume_keeps _) rfl
    exact keeps_s1

theorem execStartupStageComplete_keeps (fault : Bool) (coach : Nat) (train : Nat) (margins : List Nat) (s : State) :
    KeepsO 0x65FD30002020504DD8608 s (execStartupStageComplete fault coach train margins s) := by
  unfold execStartupStageComplete
  extract_lets +onlyGivenNames -merge -useContext st
  refine KeepsO.next ?_
  refine Keeps.ite ?_ ?_
  · exact Keeps.refl _ _
  · split
    · refine Keeps.then ?_ (State.toStage_keeps _ _) rfl
      exact Keeps.refl _ _
    · extract_lets +onlyGivenNames -merge -useContext s1
      have keeps_s1 : Keeps 0x65FD30002020504DD8608 s s1 := by
        unfold s1
        refine Keeps.then ?_ (State.wf_keeps _ _ _ _) rfl
        exact Keeps.refl _ _
      refine Keeps.ite ?_ ?_
      · refine Keeps.then ?_ (State.wf_keeps _ _ _ _) rfl
        exact keeps_s1
      · refine Keeps.then ?_ (State.toStage_keeps _ _) rfl
        exact keeps_s1
    · refine Keeps.ite ?_ ?_
      · exact Keeps.refl _ _
      · refine Keeps.ite ?_ ?_
        · refine Keeps.then ?_ (State.bootStop_keeps _ _ _ _) rfl
          exact Keeps.refl _ _
        · refine Keeps.ite ?_ ?_
          · refine Keeps.then ?_ (State.wf_keeps _ _ _ _) rfl
            exact Keeps.refl _ _
          · refine Keeps.then ?_ (State.toStage_keeps _ _) rfl
            exact Keeps.refl _ _
    · refine Keeps.ite ?_ ?_
      · refine Keeps.then ?_ (State.bootStop_keeps _ _ _ _) rfl
        exact Keeps.refl _ _
      · refine Keeps.then ?_ (State.toStage_keeps _ _) rfl
        refine Keeps.then ?_ (State.clocksUp_keeps _) rfl
        exact Keeps.refl _ _
    · refine Keeps.ite ?_ ?_
      · refine Keeps.then ?_ (State.bootStop_keeps _ _ _ _) rfl
        exact Keeps.refl _ _
      · refine Keeps.then ?_ (State.toStage_keeps _ _) rfl
        exact Keeps.refl _ _
    · refine Keeps.then ?_ (State.dramStage_keeps _ _ _) rfl
      exact Keeps.refl _ _
    · refine Keeps.then ?_ (State.toStage_keeps _ _) rfl
      refine Keeps.then ?_ (State.linkTrains_keeps _) rfl
      exact Keeps.refl _ _
    · refine Keeps.ite ?_ ?_
      · refine Keeps.then ?_ (State.toStage_keeps _ _) rfl
        exact Keeps.refl _ _
      · refine Keeps.then ?_ (State.bootLoad_keeps _) rfl
        refine Keeps.then ?_ (State.toStage_keeps _ _) rfl
        exact Keeps.refl _ _
    · refine Keeps.ite ?_ ?_
      · refine Keeps.then ?_ (State.toStage_keeps _ _) rfl
        exact Keeps.refl _ _
      · exact Keeps.refl _ _
    · refine Keeps.then ?_ (State.toStage_keeps _ _) rfl
      refine Keeps.then ?_ (State.lanesBaseline_keeps _) rfl
      exact Keeps.refl _ _
    · refine Keeps.then ?_ (State.lastStage_keeps _) rfl
      exact Keeps.refl _ _
    · exact Keeps.refl _ _

theorem execResetPin_keeps (ns : Nat) (s : State) : KeepsO 0xFFFFFFFF000FFFFFFFFDFFFA s (execResetPin ns s) := by
  unfold execResetPin
  refine KeepsO.next ?_
  refine Keeps.ite ?_ ?_
  · exact Keeps.refl _ _
  · refine Keeps.ite ?_ ?_
    · refine Keeps.ite ?_ ?_
      · refine Keeps.then ?_ (State.pinReset_keeps _ _) rfl
        refine Keeps.then ?_ (State.drawn_keeps _) rfl
        exact Keeps.refl _ _
      · refine Keeps.then ?_ (State.drawn_keeps _) rfl
        exact Keeps.refl _ _
    · refine Keeps.then ?_ (State.pinReset_keeps _ _) rfl
      exact Keeps.refl _ _

theorem execRstnRise_keeps (s : State) : KeepsO 0x10000000000008008 s (execRstnRise s) := by
  unfold execRstnRise
  refine KeepsO.next ?_
  refine Keeps.ite ?_ ?_
  · extract_lets +onlyGivenNames -merge -useContext t
    extract_lets +onlyGivenNames -merge -useContext x1
    have keeps_x1 : Keeps 0x10000000000008008 s x1 := by
      unfold x1
      refine Keeps.set_pwr ?_ rfl
      exact Keeps.refl _ _
    refine Keeps.ite ?_ ?_
    · refine Keeps.then ?_ (State.toStage_keeps _ _) rfl
      exact keeps_x1
    · exact keeps_x1
  · exact Keeps.refl _ _

theorem State.actCoachReset_keeps (s : State) : Keeps 0xFFFFFFFF000FFFFFFFFDFFFA s (State.actCoachReset s) := by
  unfold State.actCoachReset
  extract_lets +onlyGivenNames -merge -useContext c
  refine Keeps.ite ?_ ?_
  · refine Keeps.then ?_ (State.pinReset_keeps _ _) rfl
    exact Keeps.refl _ _
  · refine Keeps.ite ?_ ?_
    · exact Keeps.refl _ _
    · refine Keeps.then ?_ (State.coachReset_keeps _ _) rfl
      exact Keeps.refl _ _

theorem execCoachReset_keeps (m : Nat) (w : Word) (s : State) : KeepsO 0xFFFFFFFF000FFFFFFFFDFFFA s (execCoachReset m w s) := by
  unfold execCoachReset
  refine KeepsO.next ?_
  refine Keeps.then ?_ (State.regOnly_keeps (msk := 0xFFFFFFFF000FFFFFFFFDFFFA) _ _ _ _ _ _ _ _ (by exact rfl) (fun z11 => ?_) (fun z21 => ?_)) (Sub.refl _)
  · exact Keeps.refl _ _
  · refine Keeps.then ?_ (State.actCoachReset_keeps _) rfl
    exact Keeps.refl _ _
  · refine Keeps.then ?_ (State.gcode_keeps _ _ _ _) rfl
    exact Keeps.refl _ _

theorem execCoachResetReady_keeps (c : Nat) (train : Nat) (ms : Nat) (margins : List Nat) (s : State) :
    KeepsO 0xFFFFFFFF000FFFFFFFFFF7FA s (execCoachResetReady c train ms margins s) := by
  unfold execCoachResetReady
  refine KeepsO.next ?_
  refine Keeps.ite ?_ ?_
  · extract_lets +onlyGivenNames -merge -useContext chans
    extract_lets +onlyGivenNames -merge -useContext t
    have keeps_t : Keeps 0xFFFFFFFF000FFFFFFFFFF7FA s t := by
      unfold t
      refine Keeps.then ?_ (State.chansTrained_keeps _ _ _ _ _) rfl
      exact Keeps.refl _ _
    extract_lets +onlyGivenNames -merge -useContext v
    have keeps_v : Keeps 0xFFFFFFFF000FFFFFFFFFF7FA s v := by
      unfold v
      refine Keeps.then ?_ (State.wf_keeps _ _ _ _) rfl
      exact keeps_t
    extract_lets +onlyGivenNames -merge -useContext w
    have keeps_w : Keeps 0xFFFFFFFF000FFFFFFFFFF7FA s w := by
      unfold w
      refine Keeps.then ?_ (State.wf_keeps _ _ _ _) rfl
      refine Keeps.then ?_ (State.wf_keeps _ _ _ _) rfl
      exact keeps_v
    extract_lets +onlyGivenNames -merge -useContext u
    extract_lets +onlyGivenNames -merge -useContext u_2
    have keeps_u_2 : Keeps 0xFFFFFFFF000FFFFFFFFFF7FA s u_2 := by
      unfold u_2
      refine Keeps.set_pwr ?_ rfl
      exact keeps_w
    refine Keeps.ite ?_ ?_
    · refine Keeps.then ?_ (State.reapplyFull_keeps _ _) rfl
      exact keeps_u_2
    · exact keeps_u_2
  · exact Keeps.refl _ _

theorem execCoachmanWatchdog_keeps (c : Nat) (j : Nat) (s : State) : KeepsO 0x300000000000000608 s (execCoachmanWatchdog c j s) := by
  unfold execCoachmanWatchdog
  refine KeepsO.next ?_
  refine Keeps.then ?_ (State.pinBreakOwner_keeps _ _) rfl
  refine Keeps.then ?_ (State.pinBreakOwner_keeps _ _) rfl
  exact Keeps.refl _ _

theorem State.functionReset_keeps (s : State) (up : Bool) : Keeps 0x300000000000008608 s (State.functionReset s up) := by
  unfold State.functionReset
  refine Keeps.then ?_ (State.pinBreakOwner_keeps _ _) rfl
  refine Keeps.set_irq_pwr ?_ rfl
  exact Keeps.refl _ _

theorem execPcieReset_keeps (kind : Nat) (s : State) : KeepsO 0x300000000000008608 s (execPcieReset kind s) := by
  unfold execPcieReset
  refine KeepsO.next ?_
  refine Keeps.then ?_ (State.functionReset_keeps _ _) rfl
  exact Keeps.refl _ _

theorem execPciePerst_keeps (s : State) : KeepsO 0x300000000000008608 s (execPciePerst s) := by
  unfold execPciePerst
  refine KeepsO.next ?_
  refine Keeps.ite ?_ ?_
  · exact Keeps.refl _ _
  · refine Keeps.then ?_ (State.functionReset_keeps _ _) rfl
    exact Keeps.refl _ _

theorem execFunctionDStateChange_keeps (d3 : Bool) (s : State) : KeepsO 0x300000000000008608 s (execFunctionDStateChange d3 s) := by
  unfold execFunctionDStateChange
  refine KeepsO.next ?_
  extract_lets +onlyGivenNames -merge -useContext t
  extract_lets +onlyGivenNames -merge -useContext x1
  have keeps_x1 : Keeps 0x300000000000008608 s x1 := by
    unfold x1
    refine Keeps.set_pwr ?_ rfl
    exact Keeps.refl _ _
  refine Keeps.ite ?_ ?_
  · refine Keeps.then ?_ (State.pinBreakOwner_keeps _ _) rfl
    exact keeps_x1
  · exact keeps_x1

theorem execPowerLoss_keeps (s : State) : KeepsO 0xFFFFFFFF000FFFFFFFFDFFF8 s (execPowerLoss s) := by
  unfold execPowerLoss
  refine KeepsO.next ?_
  refine Keeps.then ?_ (State.powerOff_keeps _) rfl
  exact Keeps.refl _ _

theorem State.tripStops_keeps (s : State) : Keeps 0x2201C0000000180CC0800A s (State.tripStops s) := by
  unfold State.tripStops
  refine Keeps.ite ?_ ?_
  · exact Keeps.refl _ _
  · extract_lets +onlyGivenNames -merge -useContext s1
    extract_lets +onlyGivenNames -merge -useContext s1_2
    have keeps_s1_2 : Keeps 0x2201C0000000180CC0800A s s1_2 := by
      unfold s1_2
      refine Keeps.set_pwr ?_ rfl
      exact Keeps.refl _ _
    extract_lets +onlyGivenNames -merge -useContext s2
    have keeps_s2 : Keeps 0x2201C0000000180CC0800A s s2 := by
      unfold s2
      refine Keeps.then ?_ (State.clocksStop_keeps _) rfl
      refine Keeps.then ?_ (State.wwtForget_keeps _) rfl
      refine Keeps.then ?_ (State.drayDrop_keeps _) rfl
      refine Keeps.then ?_ (State.leaveRun_keeps _) rfl
      exact keeps_s1_2
    refine Keeps.ite ?_ ?_
    · refine Keeps.then ?_ (State.dramSleep_keeps _) rfl
      exact keeps_s2
    · exact keeps_s2

theorem State.trip_keeps (s : State) (sensor : Nat) (t : Int) : Keeps 0xFFFFFFFF000FFFFFFFFDF7FA s (State.trip s sensor t) := by
  unfold State.trip
  extract_lets +onlyGivenNames -merge -useContext s1
  have keeps_s1 : Keeps 0xFFFFFFFF000FFFFFFFFDF7FA s s1 := by
    unfold s1
    refine Keeps.ite ?_ ?_
    · exact Keeps.refl _ _
    · refine Keeps.then ?_ (State.wf_keeps _ _ _ _) rfl
      refine Keeps.then ?_ (State.enterBox_keeps _) rfl
      refine Keeps.then ?_ (State.tripStops_keeps _) rfl
      exact Keeps.refl _ _
  extract_lets +onlyGivenNames -merge -useContext s2
  extract_lets +onlyGivenNames -merge -useContext s2_2
  have keeps_s2_2 : Keeps 0xFFFFFFFF000FFFFFFFFDF7FA s s2_2 := by
    unfold s2_2
    refine Keeps.set_pwr ?_ rfl
    exact keeps_s1
  extract_lets +onlyGivenNames -merge -useContext s3
  have keeps_s3 : Keeps 0xFFFFFFFF000FFFFFFFFDF7FA s s3 := by
    unfold s3
    refine Keeps.then ?_ (State.resetCause_keeps _ _ _) rfl
    exact keeps_s2_2
  refine Keeps.then ?_ (State.ev_keeps _ _ _) rfl
  refine Keeps.then ?_ (State.gcode_keeps _ _ _ _) rfl
  exact keeps_s3

theorem execTempSensorUpdate_keeps (c : Nat) (readings : List Nat) (s : State) :
    KeepsO 0xFFFFFFFF000FFFFFFFFDF7FA s (execTempSensorUpdate c readings s) := by
  unfold execTempSensorUpdate
  refine KeepsO.next ?_
  refine Keeps.ite ?_ ?_
  · exact Keeps.refl _ _
  · extract_lets +onlyGivenNames -merge -useContext temps
    extract_lets +onlyGivenNames -merge -useContext s1
    extract_lets +onlyGivenNames -merge -useContext s1_2
    have keeps_s1_2 : Keeps 0xFFFFFFFF000FFFFFFFFDF7FA s s1_2 := by
      unfold s1_2
      refine Keeps.set_pwr ?_ rfl
      exact Keeps.refl _ _
    extract_lets +onlyGivenNames -merge -useContext s2
    have keeps_s2 : Keeps 0xFFFFFFFF000FFFFFFFFDF7FA s s2 := by
      unfold s2
      refine Keeps.ite ?_ ?_
      · exact keeps_s1_2
      · refine Keeps.fold ?_ (fun t1 y2 => ?_)
        · exact keeps_s1_2
        · refine Keeps.then ?_ (State.wf_keeps _ _ _ _) (Sub.or rfl (Sub.blk .WWT (by first | rfl | exact blk_ite rfl rfl) rfl))
          refine Keeps.then ?_ (State.wf_keeps _ _ _ _) (Sub.or rfl (Sub.blk .WWT (by first | rfl | exact blk_ite rfl rfl) rfl))
          exact Keeps.refl _ _
    extract_lets +onlyGivenNames -merge -useContext was
    extract_lets +onlyGivenNames -merge -useContext xh
    extract_lets +onlyGivenNames -merge -useContext s3
    have keeps_s3 : Keeps 0xFFFFFFFF000FFFFFFFFDF7FA s s3 := by
      unfold s3
      refine Keeps.then ?_ (State.wf_keeps _ _ _ _) rfl
      exact keeps_s2
    extract_lets +onlyGivenNames -merge -useContext warn
    extract_lets +onlyGivenNames -merge -useContext s4
    have keeps_s4 : Keeps 0xFFFFFFFF000FFFFFFFFDF7FA s s4 := by
      unfold s4
      refine Keeps.ite ?_ ?_
      · refine Keeps.then ?_ (State.ev_keeps _ _ _) rfl
        refine Keeps.then ?_ (State.gcode_keeps _ _ _ _) rfl
        exact keeps_s3
      · exact keeps_s3
    refine Keeps.ite ?_ ?_
    · refine Keeps.then ?_ (State.trip_keeps _ _ _) rfl
      exact keeps_s4
    · refine Keeps.ite ?_ ?_
      · refine Keeps.fold ?_ (fun t3 y4 => ?_)
        · exact keeps_s4
        · refine Keeps.ite ?_ ?_
          · refine Keeps.then ?_ (State.wwtTempCheck_keeps _ _ _ _) rfl
            exact Keeps.refl _ _
          · exact Keeps.refl _ _
      · exact keeps_s4

theorem execPllUnlock_keeps (kind : Nat) (c : Nat) (s : State) : KeepsO 0xFFFFFFFF000FFFFFFFFDFFFA s (execPllUnlock kind c s) := by
  unfold execPllUnlock
  refine KeepsO.next ?_
  refine Keeps.ite ?_ ?_
  · exact Keeps.refl _ _
  · extract_lets +onlyGivenNames -merge -useContext s1
    have keeps_s1 : Keeps 0xFFFFFFFF000FFFFFFFFDFFFA s s1 := by
      unfold s1
      refine Keeps.then ?_ (State.gcode_keeps _ _ _ _) rfl
      refine Keeps.then ?_ (State.wf_keeps _ _ _ _) rfl
      exact Keeps.refl _ _
    refine Keeps.ite ?_ ?_
    · refine Keeps.then ?_ (State.coachReset_keeps _ _) rfl
      exact keeps_s1
    · refine Keeps.ite ?_ ?_
      · refine Keeps.then ?_ (State.pinReset_keeps _ _) rfl
        exact keeps_s1
      · refine Keeps.then ?_ (State.pinReset_keeps _ _) rfl
        exact keeps_s1

theorem execReferenceLoss_keeps (kind : Nat) (s : State) : KeepsO 0xFFFFFFFF000FFFFFFFFDFFFA s (execReferenceLoss kind s) := by
  unfold execReferenceLoss
  refine KeepsO.next ?_
  refine Keeps.ite ?_ ?_
  · exact Keeps.refl _ _
  · extract_lets +onlyGivenNames -merge -useContext s1
    have keeps_s1 : Keeps 0xFFFFFFFF000FFFFFFFFDFFFA s s1 := by
      unfold s1
      refine Keeps.then ?_ (State.wf_keeps _ _ _ _) rfl
      exact Keeps.refl _ _
    split
    · refine Keeps.then ?_ (State.wf_keeps _ _ _ _) rfl
      refine Keeps.then ?_ (State.pinReset_keeps _ _) rfl
      refine Keeps.then ?_ (State.gcode_keeps _ _ _ _) rfl
      exact keeps_s1
    · refine Keeps.then ?_ (State.lanesDownAll_keeps _) rfl
      refine Keeps.then ?_ (State.wf_keeps _ _ _ _) rfl
      exact keeps_s1
    · refine Keeps.then ?_ (State.functionReset_keeps _ _) rfl
      refine Keeps.then ?_ (State.wf_keeps _ _ _ _) rfl
      exact keeps_s1

theorem execReferenceReturn_keeps (kind : Nat) (s : State) : KeepsO 0x81A00000030000010860A s (execReferenceReturn kind s) := by
  unfold execReferenceReturn
  refine KeepsO.next ?_
  refine Keeps.ite ?_ ?_
  · exact Keeps.refl _ _
  · split
    · refine Keeps.then ?_ (State.wf_keeps _ _ _ _) (Sub.or rfl rfl)
      exact Keeps.refl _ _
    · refine Keeps.ite ?_ ?_
      · exact Keeps.refl _ _
      · refine Keeps.then ?_ (State.lanesTrainAll_keeps _) rfl
        refine Keeps.then ?_ (State.wf_keeps _ _ _ _) (Sub.or rfl rfl)
        exact Keeps.refl _ _
    · refine Keeps.ite ?_ ?_
      · exact Keeps.refl _ _
      · extract_lets +onlyGivenNames -merge -useContext __src
        have keeps___src : Keeps 0x81A00000030000010860A s __src := by
          unfold __src
          refine Keeps.then ?_ (State.wf_keeps _ _ _ _) (Sub.or rfl rfl)
          exact Keeps.refl _ _
        refine Keeps.set_pwr ?_ rfl
        exact keeps___src

end Sys2Proof.Machine
end

