-- ==== Sys2Proof/Laws/KeepsTop.lean ====
section
/-! SUPPORT. Frames of the operations of Machine/Top.lean: what each may change, one lemma each. -/

namespace Sys2Proof.Machine

theorem State.hdrCtl_keeps (s : State) (w : Word) : Keeps 0x10020000000000150608 s (State.hdrCtl s w) := by
  unfold State.hdrCtl
  extract_lets +onlyGivenNames -merge -useContext s1
  have keeps_s1 : Keeps 0x10020000000000150608 s s1 := by
    unfold s1
    refine Keeps.then ?_ (State.on_keeps (msk := 0x10020000000000150608) _ _ _ (by exact rfl) (fun z1 => ?_)) (Sub.refl _)
    · refine Keeps.then ?_ (State.on_keeps (msk := 0x10020000000000150608) _ _ _ (by exact rfl) (fun z2 => ?_)) (Sub.refl _)
      · exact Keeps.refl _ _
      · refine Keeps.then ?_ (State.actAbortLoad_keeps _) rfl
        exact Keeps.refl _ _
    · refine Keeps.then ?_ (State.actPatchCancel_keeps _) rfl
      exact Keeps.refl _ _
  refine Keeps.then ?_ (State.on_keeps (msk := 0x10020000000000150608) _ _ _ (by exact rfl) (fun z3 => ?_)) (Sub.refl _)
  · refine Keeps.then ?_ (State.on_keeps (msk := 0x10020000000000150608) _ _ _ (by exact rfl) (fun z4 => ?_)) (Sub.refl _)
    · refine Keeps.then ?_ (State.on_keeps (msk := 0x10020000000000150608) _ _ _ (by exact rfl) (fun z5 => ?_)) (Sub.refl _)
      · exact keeps_s1
      · refine Keeps.then ?_ (State.actLoad_keeps _) rfl
        exact Keeps.refl _ _
    · refine Keeps.then ?_ (State.actProg_keeps _ _) rfl
      exact Keeps.refl _ _
  · refine Keeps.then ?_ (State.actProg_keeps _ _) rfl
    exact Keeps.refl _ _

theorem State.topWrite_keeps (s : State) (m : Nat) (l : Loc) (w : Word) : Keeps 0xFFFFFFFF000FFFFFFFFDFFFA s (State.topWrite s m l w) := by
  unfold State.topWrite
  refine Keeps.ite ?_ ?_
  · refine Keeps.then ?_ (State.hdrCtl_keeps _ _) rfl
    exact Keeps.refl _ _
  · refine Keeps.ite ?_ ?_
    · refine Keeps.then ?_ (State.on_keeps (msk := 0xFFFFFFFF000FFFFFFFFDFFFA) _ _ _ (by exact rfl) (fun z11 => ?_)) (Sub.refl _)
      · exact Keeps.refl _ _
      · refine Keeps.then ?_ (State.actSleep_keeps _ _) rfl
        exact Keeps.refl _ _
    · refine Keeps.ite ?_ ?_
      · refine Keeps.then ?_ (State.on_keeps (msk := 0xFFFFFFFF000FFFFFFFFDFFFA) _ _ _ (by exact rfl) (fun z31 => ?_)) (Sub.refl _)
        · refine Keeps.then ?_ (State.on_keeps (msk := 0xFFFFFFFF000FFFFFFFFDFFFA) _ _ _ (by exact rfl) (fun z51 => ?_)) (Sub.refl _)
          · exact Keeps.refl _ _
          · refine Keeps.then ?_ (State.actWake_keeps _ _) rfl
            exact Keeps.refl _ _
        · refine Keeps.then ?_ (State.actContinue_keeps _ _) rfl
          exact Keeps.refl _ _
      · refine Keeps.ite ?_ ?_
        · refine Keeps.then ?_ (State.on_keeps (msk := 0xFFFFFFFF000FFFFFFFFDFFFA) _ _ _ (by exact rfl) (fun z71 => ?_)) (Sub.refl _)
          · refine Keeps.then ?_ (State.codeWrite_keeps _ _ _ _) (Sub.or rfl (Sub.anyBlk _ rfl))
            exact Keeps.refl _ _
          · refine Keeps.then ?_ (State.actCoachReset_keeps _) rfl
            exact Keeps.refl _ _
        · refine Keeps.then ?_ (State.gcode_keeps _ _ _ _) rfl
          exact Keeps.refl _ _

theorem State.busWrite_keeps (s : State) (m : Nat) (off : Nat) (w : Word) :
    Keeps 0xFFFFFFFF000FFFFFFFFFFFFA s (State.busWrite s m off w).1 := by
  unfold State.busWrite
  refine Keeps.then ?_ (State.busWriteWith_keeps (msk := 0xFFFFFFFF000FFFFFFFFFFFFA) _ _ _ _ _ (by exact rfl) (fun z11 z12 z13 z14 => ?_)) (Sub.refl _)
  · exact Keeps.refl _ _
  · refine Keeps.then ?_ (State.topWrite_keeps _ _ _ _) rfl
    exact Keeps.refl _ _

theorem execRegisterWrite_keeps (m : Nat) (off : Nat) (be : Nat) (w : Word) (s : State) :
    KeepsO 0xFFFFFFFF000FFFFFFFFFFFFA s (execRegisterWrite m off be w s) := by
  unfold execRegisterWrite
  refine KeepsO.next ?_
  extract_lets +onlyGivenNames -merge -useContext o
  refine Keeps.ite ?_ ?_
  · refine Keeps.then ?_ (State.gcode_keeps _ _ _ _) rfl
    exact Keeps.refl _ _
  · refine Keeps.then ?_ (State.busWrite_keeps _ _ _ _) rfl
    exact Keeps.refl _ _

theorem execUnoccupiedAccess_keeps (m : Nat) (off : Nat) (isWrite : Bool) (dram : Bool) (s : State) :
    KeepsO 0x10000000000040608 s (execUnoccupiedAccess m off isWrite dram s) := by
  unfold execUnoccupiedAccess
  refine KeepsO.next ?_
  refine Keeps.ite ?_ ?_
  · exact Keeps.refl _ _
  · extract_lets +onlyGivenNames -merge -useContext s1
    have keeps_s1 : Keeps 0x10000000000040608 s s1 := by
      unfold s1
      refine Keeps.then ?_ (State.unoccupied_keeps _ _ _) rfl
      exact Keeps.refl _ _
    refine Keeps.ite ?_ ?_
    · exact keeps_s1
    · refine Keeps.then ?_ (State.hostReads_keeps _ _ _) rfl
      exact keeps_s1

theorem State.bar2Read_keeps (s : State) (a : Nat) (n : Nat) : Keeps 0x10000000000040608 s (State.bar2Read s a n) := by
  unfold State.bar2Read
  extract_lets +onlyGivenNames -merge -useContext r
  have keeps_r : Keeps 0x10000000000040608 s r.2.2 := by
    unfold r
    refine Keeps.then ?_ (State.dramRead_keeps _ _ _ _) rfl
    exact Keeps.refl _ _
  refine Keeps.then ?_ (State.emit_keeps _ _ _ _) rfl
  exact keeps_r

theorem State.bar2Write_keeps (s : State) (a : Nat) (l : List Byte) (ep : Bool) :
    Keeps 0x200010008000003040608 s (State.bar2Write s a l ep) := by
  unfold State.bar2Write
  extract_lets +onlyGivenNames -merge -useContext s1
  have keeps_s1 : Keeps 0x200010008000003040608 s s1 := by
    unfold s1
    refine Keeps.then ?_ (State.dramWrite_keeps _ _ _ _ _) rfl
    exact Keeps.refl _ _
  refine Keeps.ite ?_ ?_
  · refine Keeps.then ?_ (State.dmcCode_keeps _ _ _ _ _) rfl
    exact keeps_s1
  · exact keeps_s1

theorem execBar2Read_keeps (off : Nat) (n : Nat) (s : State) : KeepsO 0x90000000000041608 s (execBar2Read off n s) := by
  unfold execBar2Read
  refine KeepsO.next ?_
  extract_lets +onlyGivenNames -merge -useContext a
  refine Keeps.ite ?_ ?_
  · refine Keeps.then ?_ (State.bar2Read_keeps _ _ _) rfl
    exact Keeps.refl _ _
  · refine Keeps.ite ?_ ?_
    · refine Keeps.then ?_ (State.emit_keeps _ _ _ _) rfl
      refine Keeps.then ?_ (State.guardRefuses_keeps _ _ _) rfl
      exact Keeps.refl _ _
    · refine Keeps.set_stalled ?_ rfl
      exact Keeps.refl _ _

theorem execBar2Write_keeps (off : Nat) (bytes : List Byte) (ep : Bool) (s : State) :
    KeepsO 0x200090008000003041608 s (execBar2Write off bytes ep s) := by
  unfold execBar2Write
  refine KeepsO.next ?_
  extract_lets +onlyGivenNames -merge -useContext a
  refine Keeps.ite ?_ ?_
  · refine Keeps.then ?_ (State.bar2Write_keeps _ _ _ _) rfl
    exact Keeps.refl _ _
  · refine Keeps.ite ?_ ?_
    · refine Keeps.then ?_ (State.guardRefuses_keeps _ _ _) rfl
      exact Keeps.refl _ _
    · refine Keeps.set_stalled ?_ rfl
      exact Keeps.refl _ _

theorem execBar2BaseWrite_keeps (m : Nat) (w : Word) (s : State) : KeepsO 0xD0000000000041638 s (execBar2BaseWrite m w s) := by
  unfold execBar2BaseWrite
  refine KeepsO.next ?_
  refine Keeps.then ?_ (State.regSet_keeps (msk := 0xD0000000000041638) _ _ _ _ _ _ (by exact Sub.or rfl rfl) (fun z1 => ?_)) (Sub.refl _)
  · exact Keeps.refl _ _
  · rw [id]
    exact Keeps.refl _ _

theorem execIrqEoi_keeps (m : Nat) (w : Word) (s : State) : KeepsO 0x90000000000041608 s (execIrqEoi m w s) := by
  unfold execIrqEoi
  refine KeepsO.next ?_
  refine Keeps.then ?_ (State.regDo_keeps (msk := 0x90000000000041608) _ _ _ _ _ _ (by exact rfl) (fun z1 => ?_)) (Sub.refl _)
  · exact Keeps.refl _ _
  · refine Keeps.then ?_ (State.actEoi_keeps _ _) rfl
    exact Keeps.refl _ _

theorem execMsixUnmask_keeps (v : Nat) (s : State) : KeepsO 0x600 s (execMsixUnmask v s) := by
  unfold execMsixUnmask
  refine KeepsO.next ?_
  extract_lets +onlyGivenNames -merge -useContext t
  extract_lets +onlyGivenNames -merge -useContext x1
  have keeps_x1 : Keeps 0x600 s x1 := by
    unfold x1
    refine Keeps.set_irq ?_ rfl
    exact Keeps.refl _ _
  refine Keeps.ite ?_ ?_
  · refine Keeps.then ?_ (State.emit_keeps _ _ _ _) rfl
    exact keeps_x1
  · exact keeps_x1

theorem execFifthWheelPortFail_keeps (c : Nat) (p : Nat) (s : State) : KeepsO 0x10000000000040608 s (execFifthWheelPortFail c p s) := by
  unfold execFifthWheelPortFail
  refine KeepsO.next ?_
  refine Keeps.ite ?_ ?_
  · exact Keeps.refl _ _
  · refine Keeps.then ?_ (State.fabErr_keeps _ _ _ _) rfl
    refine Keeps.then ?_ (State.wf_keeps _ _ _ _) (Sub.or rfl rfl)
    exact Keeps.refl _ _

theorem execFifthWheelWordReceive_keeps (c : Nat) (p : Nat) (r : Nat) (s : State) :
    KeepsO 0x10000000000040608 s (execFifthWheelWordReceive c p r s) := by
  unfold execFifthWheelWordReceive
  refine KeepsO.next ?_
  refine Keeps.ite ?_ ?_
  · exact Keeps.refl _ _
  · extract_lets +onlyGivenNames -merge -useContext x
    split
    · refine Keeps.then ?_ (State.emit_keeps _ _ _ _) rfl
      exact Keeps.refl _ _
    · refine Keeps.then ?_ (State.emit_keeps _ _ _ _) rfl
      refine Keeps.then ?_ (State.inc_keeps _ _ _) (Sub.or rfl rfl)
      exact Keeps.refl _ _
    · refine Keeps.then ?_ (State.emit_keeps _ _ _ _) rfl
      exact Keeps.refl _ _
    · refine Keeps.then ?_ (State.emit_keeps _ _ _ _) rfl
      refine Keeps.then ?_ (State.fabErr_keeps _ _ _ _) rfl
      refine Keeps.then ?_ (State.inc_keeps _ _ _) (Sub.or rfl rfl)
      exact Keeps.refl _ _

end Sys2Proof.Machine
end

