-- ==== Sys2Proof/Laws/KeepsOutrider.lean ====
section
/-! SUPPORT. Frames of the operations of Machine/Outrider.lean: what each may change, one lemma each. -/

namespace Sys2Proof.Machine

theorem State.outRespond_keeps (s : State) : Keeps 0xC00 s (State.outRespond s) := by
  unfold State.outRespond
  extract_lets +onlyGivenNames -merge -useContext p
  split
  · refine Keeps.then ?_ (State.emit_keeps _ _ _ _) rfl
    refine Keeps.set_out ?_ rfl
    exact Keeps.refl _ _
  · split
    · refine Keeps.then ?_ (State.emit_keeps _ _ _ _) rfl
      exact Keeps.refl _ _
    · refine Keeps.ite ?_ ?_
      · refine Keeps.then ?_ (State.emit_keeps _ _ _ _) rfl
        refine Keeps.set_out ?_ rfl
        exact Keeps.refl _ _
      · refine Keeps.then ?_ (State.emit_keeps _ _ _ _) rfl
        exact Keeps.refl _ _

theorem State.outAfter_keeps (s : State) : Keeps 0xC00 s (State.outAfter s) := by
  unfold State.outAfter
  refine Keeps.ite ?_ ?_
  · refine Keeps.then ?_ (State.outRespond_keeps _) rfl
    exact Keeps.refl _ _
  · exact Keeps.refl _ _

theorem State.outEnd_keeps (s : State) (status : Nat) (words : Nat) : Keeps 0x800 s (State.outEnd s status words) := by
  unfold State.outEnd
  refine Keeps.set_out ?_ rfl
  exact Keeps.refl _ _

theorem State.outRun_keeps (p0 : Nat) (p1 : List Byte) (p2 : State) : Keeps 0xFFFFFFFF000FFFFFFFFFFFFA p2 (State.outRun p0 p1 p2) := by
  induction p0 generalizing p1 p2 with
  | zero =>
    rw [State.outRun]
    refine Keeps.then ?_ (State.outEnd_keeps _ _ _) rfl
    exact Keeps.refl _ _
  | succ j ih =>
    rw [State.outRun]
    refine Keeps.ite ?_ ?_
    · extract_lets +onlyGivenNames -merge -useContext r
      have keeps_r : Keeps 0xFFFFFFFF000FFFFFFFFFFFFA p2 r.2.1 := by
        unfold r
        refine Keeps.then ?_ (State.busRead_keeps _ _ _) rfl
        exact Keeps.refl _ _
      split
      · refine Keeps.then ?_ (ih _ _) rfl
        refine Keeps.set_out ?_ rfl
        exact keeps_r
      · refine Keeps.then ?_ (State.outEnd_keeps _ _ _) rfl
        exact keeps_r
      · refine Keeps.set_out ?_ rfl
        exact Keeps.refl _ _
    · extract_lets +onlyGivenNames -merge -useContext w
      extract_lets +onlyGivenNames -merge -useContext r
      have keeps_r : Keeps 0xFFFFFFFF000FFFFFFFFFFFFA p2 r.1 := by
        unfold r
        refine Keeps.then ?_ (State.busWrite_keeps _ _ _ _) rfl
        exact Keeps.refl _ _
      split
      · refine Keeps.then ?_ (ih _ _) rfl
        refine Keeps.set_out ?_ rfl
        exact keeps_r
      · refine Keeps.then ?_ (State.outEnd_keeps _ _ _) rfl
        exact keeps_r
      · refine Keeps.set_out ?_ rfl
        exact Keeps.refl _ _

theorem State.outBad_keeps (s : State) (status : Nat) : Keeps 0x80000000000000808 s (State.outBad s status) := by
  unfold State.outBad
  extract_lets +onlyGivenNames -merge -useContext n
  extract_lets +onlyGivenNames -merge -useContext s1
  have keeps_s1 : Keeps 0x80000000000000808 s s1 := by
    unfold s1
    refine Keeps.then ?_ (State.wf_keeps _ _ _ _) (Sub.or rfl rfl)
    refine Keeps.ite ?_ ?_
    · refine Keeps.then ?_ (State.wf_keeps _ _ _ _) (Sub.or rfl rfl)
      exact Keeps.refl _ _
    · refine Keeps.then ?_ (State.wf_keeps _ _ _ _) (Sub.or rfl rfl)
      exact Keeps.refl _ _
  refine Keeps.ite ?_ ?_
  · refine Keeps.set_out ?_ rfl
    exact keeps_s1
  · refine Keeps.set_out ?_ rfl
    exact keeps_s1

theorem State.outAccept_keeps (s : State) : Keeps 0x80000000000000808 s (State.outAccept s) := by
  unfold State.outAccept
  extract_lets +onlyGivenNames -merge -useContext t
  have keeps_t : Keeps 0x80000000000000808 s t := by
    unfold t
    refine Keeps.then ?_ (State.wf_keeps _ _ _ _) (Sub.or rfl rfl)
    exact Keeps.refl _ _
  refine Keeps.set_out ?_ rfl
  exact keeps_t

theorem State.outFrame_keeps (s : State) (f : List Byte) : Keeps 0xFFFFFFFF000FFFFFFFFFFFFA s (State.outFrame s f) := by
  unfold State.outFrame
  refine Keeps.ite ?_ ?_
  · exact Keeps.refl _ _
  · extract_lets +onlyGivenNames -merge -useContext bad
    refine Keeps.ite ?_ ?_
    · refine Keeps.then ?_ (State.outAfter_keeps _) rfl
      refine Keeps.then ?_ (State.outBad_keeps _ _) rfl
      exact Keeps.refl _ _
    · refine Keeps.ite ?_ ?_
      · extract_lets +onlyGivenNames -merge -useContext t
        have keeps_t : Keeps 0xFFFFFFFF000FFFFFFFFFFFFA s t := by
          unfold t
          refine Keeps.then ?_ (State.outAccept_keeps _) rfl
          exact Keeps.refl _ _
        extract_lets +onlyGivenNames -merge -useContext u
        extract_lets +onlyGivenNames -merge -useContext u_2
        extract_lets +onlyGivenNames -merge -useContext u_3
        have keeps_u_3 : Keeps 0xFFFFFFFF000FFFFFFFFFFFFA s u_3 := by
          unfold u_3
          refine Keeps.ite ?_ ?_
          · refine Keeps.set_out ?_ rfl
            exact keeps_t
          · refine Keeps.set_out ?_ rfl
            exact keeps_t
        refine Keeps.then ?_ (State.outAfter_keeps _) rfl
        exact keeps_u_3
      · refine Keeps.ite ?_ ?_
        · extract_lets +onlyGivenNames -merge -useContext t
          have keeps_t : Keeps 0xFFFFFFFF000FFFFFFFFFFFFA s t := by
            unfold t
            refine Keeps.then ?_ (State.wf_keeps _ _ _ _) rfl
            exact Keeps.refl _ _
          refine Keeps.then ?_ (State.outAfter_keeps _) rfl
          refine Keeps.set_out ?_ rfl
          exact keeps_t
        · extract_lets +onlyGivenNames -merge -useContext t
          have keeps_t : Keeps 0xFFFFFFFF000FFFFFFFFFFFFA s t := by
            unfold t
            refine Keeps.then ?_ (State.outAccept_keeps _) rfl
            exact Keeps.refl _ _
          extract_lets +onlyGivenNames -merge -useContext u
          extract_lets +onlyGivenNames -merge -useContext u_2
          have keeps_u_2 : Keeps 0xFFFFFFFF000FFFFFFFFFFFFA s u_2 := by
            unfold u_2
            refine Keeps.set_out ?_ rfl
            exact keeps_t
          refine Keeps.then ?_ (State.outAfter_keeps _) rfl
          refine Keeps.then ?_ (State.outRun_keeps _ _ _) rfl
          exact keeps_u_2

theorem execOrRead_keeps (bytes : List Byte) (s : State) : KeepsO 0xFFFFFFFF000FFFFFFFFFFFFA s (execOrRead bytes s) := by
  unfold execOrRead
  refine KeepsO.next ?_
  refine Keeps.then ?_ (State.outFrame_keeps _ _) rfl
  exact Keeps.refl _ _

theorem execOrWrite_keeps (bytes : List Byte) (s : State) : KeepsO 0xFFFFFFFF000FFFFFFFFFFFFA s (execOrWrite bytes s) := by
  unfold execOrWrite
  refine KeepsO.next ?_
  refine Keeps.then ?_ (State.outFrame_keeps _ _) rfl
  exact Keeps.refl _ _

theorem execOrWriteFifo_keeps (bytes : List Byte) (s : State) : KeepsO 0xFFFFFFFF000FFFFFFFFFFFFA s (execOrWriteFifo bytes s) := by
  unfold execOrWriteFifo
  refine KeepsO.next ?_
  refine Keeps.then ?_ (State.outFrame_keeps _ _) rfl
  exact Keeps.refl _ _

theorem execOrResult_keeps (s : State) : KeepsO 0x80000000000000C08 s (execOrResult s) := by
  unfold execOrResult
  refine KeepsO.next ?_
  refine Keeps.ite ?_ ?_
  · exact Keeps.refl _ _
  · refine Keeps.ite ?_ ?_
    · refine Keeps.then ?_ (State.outRespond_keeps _) rfl
      exact Keeps.refl _ _
    · refine Keeps.then ?_ (State.outAfter_keeps _) rfl
      refine Keeps.then ?_ (State.outBad_keeps _ _) rfl
      exact Keeps.refl _ _

theorem execOrIdentify_keeps (bytes : List Byte) (s : State) : KeepsO 0xFFFFFFFF000FFFFFFFFFFFFA s (execOrIdentify bytes s) := by
  unfold execOrIdentify
  refine KeepsO.next ?_
  refine Keeps.then ?_ (State.outFrame_keeps _ _) rfl
  exact Keeps.refl _ _

theorem State.retry_keeps (s : State) (x : Stalled) : Keeps 0xFFFFFFFF000FFFFFFFFFFFFA s (State.retry s x) := by
  unfold State.retry
  split
  · refine Keeps.ite ?_ ?_
    · refine Keeps.set_stalled ?_ rfl
      exact Keeps.refl _ _
    · refine Keeps.ite ?_ ?_
      · refine Keeps.then ?_ (State.bar2Write_keeps _ _ _ _) rfl
        exact Keeps.refl _ _
      · refine Keeps.then ?_ (State.bar2Read_keeps _ _ _) rfl
        exact Keeps.refl _ _
  · refine Keeps.ite ?_ ?_
    · refine Keeps.then ?_ (State.busWrite_keeps _ _ _ _) rfl
      exact Keeps.refl _ _
    · extract_lets +onlyGivenNames -merge -useContext r
      have keeps_r : Keeps 0xFFFFFFFF000FFFFFFFFFFFFA s r.2.1 := by
        unfold r
        refine Keeps.then ?_ (State.busRead_keeps _ _ _) rfl
        exact Keeps.refl _ _
      split
      · refine Keeps.set_stalled ?_ rfl
        exact Keeps.refl _ _
      · refine Keeps.then ?_ (State.hostReads_keeps _ _ _) rfl
        exact keeps_r

theorem execStalledAccessResume_keeps (s : State) : KeepsO 0xFFFFFFFF000FFFFFFFFFFFFA s (execStalledAccessResume s) := by
  unfold execStalledAccessResume
  refine KeepsO.next ?_
  extract_lets +onlyGivenNames -merge -useContext t
  have keeps_t : Keeps 0xFFFFFFFF000FFFFFFFFFFFFA s t := by
    unfold t
    refine Keeps.fold ?_ (fun t1 y2 => ?_)
    · refine Keeps.set_stalled ?_ rfl
      exact Keeps.refl _ _
    · refine Keeps.then ?_ (State.retry_keeps _ _) rfl
      exact Keeps.refl _ _
  split
  · exact keeps_t
  · refine Keeps.then ?_ (State.outRun_keeps _ _ _) rfl
    refine Keeps.set_out ?_ rfl
    exact keeps_t

end Sys2Proof.Machine
end

