-- ==== Sys2Proof/Laws/KeepsInet.lean ====
section
/-! SUPPORT. Frames of the operations of Machine/Inet.lean: what each may change, one lemma each. -/

namespace Sys2Proof.Machine

theorem State.ethOut_keeps (s : State) (k : EgKind) (l : Nat) (frame : List Byte) : Keeps 0x400 s (State.ethOut s k l frame) := by
  unfold State.ethOut
  refine Keeps.then ?_ (State.emit_keeps _ _ _ _) rfl
  exact Keeps.refl _ _

end Sys2Proof.Machine
end

