-- ==== Sys2Proof/Laws/KeepsPvw.lean ====
section
/-! SUPPORT. Frames of the operations of Machine/Pvw.lean: what each may change, one lemma each. -/

namespace Sys2Proof.Machine

theorem State.pvwMod_keeps (s : State) (i : Nat) (f : Pvw → Pvw) : Keeps 0x1000000000000 s (State.pvwMod s i f) := by
  unfold State.pvwMod
  refine Keeps.set_pvw ?_ rfl
  exact Keeps.refl _ _

theorem State.pvwTick_keeps (s : State) (i : Nat) (g : Nat) : Keeps 0x800000000001000000000008 s (State.pvwTick s i g) := by
  unfold State.pvwTick
  extract_lets +onlyGivenNames -merge -useContext k
  extract_lets +onlyGivenNames -merge -useContext past
  refine Keeps.ite ?_ ?_
  · exact Keeps.refl _ _
  · refine Keeps.then ?_ (State.wf_keeps _ _ _ _) (Sub.or rfl rfl)
    refine Keeps.then ?_ (State.pvwMod_keeps _ _ _) rfl
    exact Keeps.refl _ _

theorem execPreviewTick_keeps (view : Nat) (s : State) : KeepsO 0x800000000001000000000008 s (execPreviewTick view s) := by
  unfold execPreviewTick
  refine KeepsO.next ?_
  refine Keeps.fold ?_ (fun t1 y2 => ?_)
  · exact Keeps.refl _ _
  · refine Keeps.then ?_ (State.pvwTick_keeps _ _ _) rfl
    exact Keeps.refl _ _

theorem State.pvwPull_keeps (p0 : Nat) (p1 : Nat) (p2 : Nat) (p3 : State) :
    Keeps 0x100000001000020000008 p3 (State.pvwPull p0 p1 p2 p3) := by
  induction p0 generalizing p1 p2 p3 with
  | zero =>
    rw [State.pvwPull]
    exact Keeps.refl _ _
  | succ j ih =>
    rw [State.pvwPull]
    split
    · exact Keeps.refl _ _
    · split
      · exact Keeps.refl _ _
      · extract_lets +onlyGivenNames -merge -useContext s1
        have keeps_s1 : Keeps 0x100000001000020000008 p3 s1 := by
          unfold s1
          refine Keeps.then ?_ (State.mewPop_keeps _ _) rfl
          exact Keeps.refl _ _
        extract_lets +onlyGivenNames -merge -useContext pass
        extract_lets +onlyGivenNames -merge -useContext s2
        have keeps_s2 : Keeps 0x100000001000020000008 p3 s2 := by
          unfold s2
          split
          · extract_lets +onlyGivenNames -merge -useContext keep
            refine Keeps.then ?_ (State.pvwMod_keeps _ _ _) rfl
            exact keeps_s1
          · refine Keeps.ite ?_ ?_
            · refine Keeps.then ?_ (State.pvwMod_keeps _ _ _) rfl
              exact keeps_s1
            · exact keeps_s1
          · exact keeps_s1
        refine Keeps.then ?_ (ih _ _ _) (Sub.refl _)
        exact keeps_s2

theorem State.pvwPullAll_keeps (s : State) (i : Nat) : Keeps 0x100000001080020000008 s (State.pvwPullAll s i) := by
  unfold State.pvwPullAll
  refine Keeps.fold ?_ (fun t1 y2 => ?_)
  · exact Keeps.refl _ _
  · refine Keeps.then ?_ (State.pvwPull_keeps _ _ _ _) rfl
    exact Keeps.refl _ _

theorem State.stripDrop_keeps (s : State) (i : Nat) : Keeps 0x800010000001000000100608 s (State.stripDrop s i) := by
  unfold State.stripDrop
  refine Keeps.then ?_ (State.pvwMod_keeps _ _ _) rfl
  refine Keeps.then ?_ (State.ev_keeps _ _ _) (Sub.or rfl rfl)
  refine Keeps.then ?_ (State.inc_keeps _ _ _) (Sub.or rfl rfl)
  exact Keeps.refl _ _

theorem State.stripSent_keeps (s : State) (i : Nat) : Keeps 0x800010000001000000100608 s (State.stripSent s i) := by
  unfold State.stripSent
  refine Keeps.then ?_ (State.pvwMod_keeps _ _ _) rfl
  refine Keeps.then ?_ (State.ev_keeps _ _ _) (Sub.or rfl rfl)
  refine Keeps.then ?_ (State.inc_keeps _ _ _) (Sub.or rfl rfl)
  exact Keeps.refl _ _

theorem State.stripOut_keeps (s : State) (i : Nat) (k : Nat) (data : List Byte) (gap : Bool) (laneFull : Bool) (time : Nat) :
    Keeps 0x80021001000900000314060A s (State.stripOut s i k data gap laneFull time) := by
  unfold State.stripOut
  extract_lets +onlyGivenNames -merge -useContext flags
  extract_lets +onlyGivenNames -merge -useContext s0
  have keeps_s0 : Keeps 0x80021001000900000314060A s s0 := by
    unfold s0
    refine Keeps.ite ?_ ?_
    · refine Keeps.then ?_ (State.ev_keeps _ _ _) rfl
      refine Keeps.then ?_ (State.inc_keeps _ _ _) rfl
      exact Keeps.refl _ _
    · exact Keeps.refl _ _
  refine Keeps.ite ?_ ?_
  · exact keeps_s0
  · refine Keeps.ite ?_ ?_
    · extract_lets +onlyGivenNames -merge -useContext lane
      extract_lets +onlyGivenNames -merge -useContext up
      refine Keeps.ite ?_ ?_
      · refine Keeps.then ?_ (State.stripDrop_keeps _ _) rfl
        exact keeps_s0
      · extract_lets +onlyGivenNames -merge -useContext size
        extract_lets +onlyGivenNames -merge -useContext n
        extract_lets +onlyGivenNames -merge -useContext mac
        refine Keeps.then ?_ (State.stripSent_keeps _ _) rfl
        refine Keeps.fold ?_ (fun t1 y2 => ?_)
        · exact keeps_s0
        · extract_lets +onlyGivenNames -merge -useContext part
          refine Keeps.then ?_ (State.drawn_keeps _) rfl
          refine Keeps.then ?_ (State.ethOut_keeps _ _ _ _) rfl
          exact Keeps.refl _ _
    · extract_lets +onlyGivenNames -merge -useContext slots
      extract_lets +onlyGivenNames -merge -useContext wr
      extract_lets +onlyGivenNames -merge -useContext size
      refine Keeps.ite ?_ ?_
      · refine Keeps.then ?_ (State.stripDrop_keeps _ _) rfl
        exact keeps_s0
      · extract_lets +onlyGivenNames -merge -useContext base
        extract_lets +onlyGivenNames -merge -useContext s1
        have keeps_s1 : Keeps 0x80021001000900000314060A s s1 := by
          unfold s1
          refine Keeps.then ?_ (State.dramWrite_keeps _ _ _ _ _) rfl
          exact keeps_s0
        refine Keeps.then ?_ (State.stripSent_keeps _ _) rfl
        refine Keeps.then ?_ (State.wf_keeps _ _ _ _) rfl
        exact keeps_s1

theorem State.stripTime_keeps (s : State) (i : Nat) (k : Nat) : Keeps 0x2 s (State.stripTime s i k).2 := by
  unfold State.stripTime
  split
  · dsimp only
    exact Keeps.refl _ _
  · dsimp only
    refine Keeps.then ?_ (State.drawn_keeps _) rfl
    exact Keeps.refl _ _

theorem State.pvwForm_keeps (s : State) (i : Nat) (n : Nat) (laneFull : Bool) :
    Keeps 0x80021001000900000314060A s (State.pvwForm s i n laneFull) := by
  unfold State.pvwForm
  split
  · exact Keeps.refl _ _
  · extract_lets +onlyGivenNames -merge -useContext s1
    have keeps_s1 : Keeps 0x80021001000900000314060A s s1 := by
      unfold s1
      refine Keeps.ite ?_ ?_
      · refine Keeps.then ?_ (State.pvwMod_keeps _ _ _) rfl
        refine Keeps.then ?_ (State.stripTime_keeps _ _ _) rfl
        exact Keeps.refl _ _
      · exact Keeps.refl _ _
    extract_lets +onlyGivenNames -merge -useContext planes
    extract_lets +onlyGivenNames -merge -useContext vals
    extract_lets +onlyGivenNames -merge -useContext row
    extract_lets +onlyGivenNames -merge -useContext s2
    have keeps_s2 : Keeps 0x80021001000900000314060A s s2 := by
      unfold s2
      refine Keeps.then ?_ (State.pvwMod_keeps _ _ _) rfl
      exact keeps_s1
    extract_lets +onlyGivenNames -merge -useContext x
    extract_lets +onlyGivenNames -merge -useContext s3
    extract_lets +onlyGivenNames -merge -useContext s3_2
    have keeps_s3_2 : Keeps 0x80021001000900000314060A s s3_2 := by
      unfold s3_2
      refine Keeps.ite ?_ ?_
      · exact keeps_s2
      · refine Keeps.then ?_ (State.pvwMod_keeps _ _ _) rfl
        refine Keeps.then ?_ (State.stripOut_keeps _ _ _ _ _ _ _) rfl
        exact keeps_s2
    extract_lets +onlyGivenNames -merge -useContext need
    refine Keeps.then ?_ (State.pvwMod_keeps _ _ _) rfl
    exact keeps_s3_2

theorem execPreviewRowComplete_keeps (i : Nat) (laneFull : Bool) (s : State) :
    KeepsO 0x80031001000908002314060A s (execPreviewRowComplete i laneFull s) := by
  unfold execPreviewRowComplete
  refine KeepsO.next ?_
  refine Keeps.ite ?_ ?_
  · exact Keeps.refl _ _
  · extract_lets +onlyGivenNames -merge -useContext s1
    have keeps_s1 : Keeps 0x80031001000908002314060A s s1 := by
      unfold s1
      refine Keeps.then ?_ (State.pvwPullAll_keeps _ _) rfl
      exact Keeps.refl _ _
    refine Keeps.ite ?_ ?_
    · refine Keeps.then ?_ (State.pvwMod_keeps _ _ _) rfl
      exact keeps_s1
    · split
      · exact keeps_s1
      · extract_lets +onlyGivenNames -merge -useContext cars
        refine Keeps.ite ?_ ?_
        · refine Keeps.then ?_ (State.pvwForm_keeps _ _ _ _) rfl
          exact keeps_s1
        · refine Keeps.ite ?_ ?_
          · refine Keeps.then ?_ (State.pvwMod_keeps _ _ _) rfl
            exact keeps_s1
          · exact keeps_s1

theorem execPreviewRowTimeout_keeps (i : Nat) (laneFull : Bool) (s : State) :
    KeepsO 0x80021001000900000314060A s (execPreviewRowTimeout i laneFull s) := by
  unfold execPreviewRowTimeout
  refine KeepsO.next ?_
  split
  · refine Keeps.ite ?_ ?_
    · refine Keeps.then ?_ (State.pvwForm_keeps _ _ _ _) rfl
      exact Keeps.refl _ _
    · exact Keeps.refl _ _
  · exact Keeps.refl _ _

end Sys2Proof.Machine
end

