-- ==== Sys2Proof/Laws/KeepsSeam.lean ====
section
/-! SUPPORT. Frames of the operations of Machine/Seam.lean: what each may change, one lemma each. -/

namespace Sys2Proof.Machine

theorem State.cdStep_keeps (s : State) (g : Nat) (d : Int) : Keeps 0x2 s (State.cdStep s g d).2 := by
  unfold State.cdStep
  extract_lets +onlyGivenNames -merge -useContext v
  refine Keeps.ite_snd ?_ ?_
  · refine Keeps.ite_snd ?_ ?_
    · dsimp only
      exact Keeps.refl _ _
    · dsimp only
      refine Keeps.then ?_ (State.drawn_keeps _) rfl
      exact Keeps.refl _ _
  · extract_lets +onlyGivenNames -merge -useContext inc
    extract_lets +onlyGivenNames -merge -useContext t
    dsimp only
    exact Keeps.refl _ _

theorem State.seamStage_keeps (s : State) (x : Nat × Int × Int) : Keeps 0x4000000000000003A s (State.seamStage s x) := by
  unfold State.seamStage
  extract_lets +onlyGivenNames -merge -useContext g
  refine Keeps.ite ?_ ?_
  · exact Keeps.refl _ _
  · extract_lets +onlyGivenNames -merge -useContext w
    extract_lets +onlyGivenNames -merge -useContext i
    extract_lets +onlyGivenNames -merge -useContext c
    have keeps_c : Keeps 0x4000000000000003A s c.2 := by
      unfold c
      refine Keeps.then ?_ (State.cdStep_keeps _ _ _) rfl
      exact Keeps.refl _ _
    extract_lets +onlyGivenNames -merge -useContext start
    extract_lets +onlyGivenNames -merge -useContext md
    refine Keeps.then ?_ (State.wwtStage_keeps _ _ _ _) rfl
    refine Keeps.then ?_ (State.wwtStage_keeps _ _ _ _) rfl
    refine Keeps.then ?_ (State.wwtStage_keeps _ _ _ _) rfl
    refine Keeps.then ?_ (State.wwtStage_keeps _ _ _ _) rfl
    exact keeps_c

theorem State.seamCommit_keeps (s : State) (x : SeamFix) : Keeps 0x410040000001D003C063A s (State.seamCommit s x) := by
  unfold State.seamCommit
  extract_lets +onlyGivenNames -merge -useContext s1
  have keeps_s1 : Keeps 0x410040000001D003C063A s s1 := by
    unfold s1
    refine Keeps.fold ?_ (fun t1 y2 => ?_)
    · exact Keeps.refl _ _
    · refine Keeps.then ?_ (State.seamStage_keeps _ _) rfl
      exact Keeps.refl _ _
  extract_lets +onlyGivenNames -merge -useContext s1_2
  have keeps_s1_2 : Keeps 0x410040000001D003C063A s s1_2 := by
    unfold s1_2
    refine Keeps.set_seamFix ?_ rfl
    exact keeps_s1
  refine Keeps.ite ?_ ?_
  · extract_lets +onlyGivenNames -merge -useContext xp
    refine Keeps.then ?_ (State.wwtRequestCommit_keeps _ _ _ _) rfl
    exact keeps_s1_2
  · refine Keeps.then ?_ (State.wwtRequestCommit_keeps _ _ _ _) rfl
    exact keeps_s1_2

theorem State.seamJudge_keeps (s : State) : Keeps 0x8410040000001D003C063A s (State.seamJudge s) := by
  unfold State.seamJudge
  extract_lets +onlyGivenNames -merge -useContext both
  extract_lets +onlyGivenNames -merge -useContext pairs
  extract_lets +onlyGivenNames -merge -useContext q1
  extract_lets +onlyGivenNames -merge -useContext q2
  extract_lets +onlyGivenNames -merge -useContext worst
  refine Keeps.ite ?_ ?_
  · refine Keeps.then ?_ (State.wwtReject_keeps _ _ _ _ _ _ _) rfl
    exact Keeps.refl _ _
  · extract_lets +onlyGivenNames -merge -useContext s1
    have keeps_s1 : Keeps 0x8410040000001D003C063A s s1 := by
      unfold s1
      refine Keeps.fold ?_ (fun t1 y2 => ?_)
      · exact Keeps.refl _ _
      · refine Keeps.then ?_ (State.add_keeps _ _ _ _) (Sub.or rfl (Sub.blk .CPL (by first | rfl | exact blk_ite rfl rfl) rfl))
        refine Keeps.then ?_ (State.cw_keeps _ _ _ _) rfl
        exact Keeps.refl _ _
    refine Keeps.ite ?_ ?_
    · refine Keeps.then ?_ (State.wwtAccept_keeps _ _ _ _ _ _ _) rfl
      exact keeps_s1
    · extract_lets +onlyGivenNames -merge -useContext fix
      refine Keeps.ite ?_ ?_
      · refine Keeps.then ?_ (State.seamCommit_keeps _ _) rfl
        exact keeps_s1
      · refine Keeps.set_seamFix ?_ rfl
        exact keeps_s1

theorem execSeamRunComplete_keeps (s : State) : KeepsO 0x8410040000001D003C063A s (execSeamRunComplete s) := by
  unfold execSeamRunComplete
  refine KeepsO.next ?_
  refine Keeps.ite ?_ ?_
  · exact Keeps.refl _ _
  · split
    · refine Keeps.ite ?_ ?_
      · refine Keeps.then ?_ (State.seamCommit_keeps _ _) rfl
        exact Keeps.refl _ _
      · exact Keeps.refl _ _
    · refine Keeps.ite ?_ ?_
      · refine Keeps.then ?_ (State.seamJudge_keeps _) rfl
        exact Keeps.refl _ _
      · exact Keeps.refl _ _

theorem execSeamRunTimeout_keeps (s : State) : KeepsO 0x8410040000001D003C063A s (execSeamRunTimeout s) := by
  unfold execSeamRunTimeout
  refine KeepsO.next ?_
  refine Keeps.ite ?_ ?_
  · exact Keeps.refl _ _
  · split
    · refine Keeps.ite ?_ ?_
      · refine Keeps.then ?_ (State.wwtCommitted_keeps _ _ _) rfl
        exact Keeps.refl _ _
      · exact Keeps.refl _ _
    · refine Keeps.ite ?_ ?_
      · refine Keeps.then ?_ (State.seamJudge_keeps _) rfl
        exact Keeps.refl _ _
      · exact Keeps.refl _ _

end Sys2Proof.Machine
end

