-- ==== Sys2Proof/Laws/KeepsVoxhus.lean ====
section
/-! SUPPORT. Frames of the operations of Machine/Voxhus.lean: what each may change, one lemma each. -/

namespace Sys2Proof.Machine

theorem State.hunt_keeps (s : State) (l : Nat) : Keeps 0x100000000000 s (State.hunt s l) := by
  unfold State.hunt
  refine Keeps.then ?_ (State.laneMod_keeps _ _ _) rfl
  exact Keeps.refl _ _

theorem State.stuffing_keeps (s : State) (l : Nat) (n : Nat) : Keeps 0x81200000030000014060A s (State.stuffing s l n) := by
  unfold State.stuffing
  refine Keeps.ite ?_ ?_
  · exact Keeps.refl _ _
  · extract_lets +onlyGivenNames -merge -useContext w
    extract_lets +onlyGivenNames -merge -useContext s1
    have keeps_s1 : Keeps 0x81200000030000014060A s s1 := by
      unfold s1
      refine Keeps.then ?_ (State.hunt_keeps _ _) rfl
      refine Keeps.then ?_ (State.laneMod_keeps _ _ _) rfl
      refine Keeps.then ?_ (State.add_keeps _ _ _ _) rfl
      exact Keeps.refl _ _
    refine Keeps.ite ?_ ?_
    · refine Keeps.then ?_ (State.retrain_keeps _ _ _) rfl
      refine Keeps.then ?_ (State.laneMod_keeps _ _ _) rfl
      exact keeps_s1
    · exact keeps_s1

theorem State.uncorrectable_keeps (s : State) (l : Nat) (n : Nat) : Keeps 0x81200000030000014060A s (State.uncorrectable s l n) := by
  unfold State.uncorrectable
  refine Keeps.ite ?_ ?_
  · exact Keeps.refl _ _
  · extract_lets +onlyGivenNames -merge -useContext w
    extract_lets +onlyGivenNames -merge -useContext s1
    have keeps_s1 : Keeps 0x81200000030000014060A s s1 := by
      unfold s1
      refine Keeps.then ?_ (State.laneMod_keeps _ _ _) rfl
      refine Keeps.then ?_ (State.add_keeps _ _ _ _) (Sub.or rfl rfl)
      exact Keeps.refl _ _
    refine Keeps.ite ?_ ?_
    · refine Keeps.then ?_ (State.retrain_keeps _ _ _) rfl
      refine Keeps.then ?_ (State.laneMod_keeps _ _ _) rfl
      exact keeps_s1
    · exact keeps_s1

theorem State.headerLost_keeps (s : State) (l : Nat) : Keeps 0x81200000030000014060A s (State.headerLost s l) := by
  unfold State.headerLost
  extract_lets +onlyGivenNames -merge -useContext w
  extract_lets +onlyGivenNames -merge -useContext s1
  have keeps_s1 : Keeps 0x81200000030000014060A s s1 := by
    unfold s1
    refine Keeps.then ?_ (State.hunt_keeps _ _) rfl
    refine Keeps.then ?_ (State.laneMod_keeps _ _ _) rfl
    refine Keeps.then ?_ (State.inc_keeps _ _ _) rfl
    exact Keeps.refl _ _
  refine Keeps.ite ?_ ?_
  · refine Keeps.then ?_ (State.retrain_keeps _ _ _) rfl
    refine Keeps.then ?_ (State.laneMod_keeps _ _ _) rfl
    exact keeps_s1
  · exact keeps_s1

theorem State.laneDrop_keeps (s : State) (l : Nat) : Keeps 0x100000000000 s (State.laneDrop s l) := by
  unfold State.laneDrop
  refine Keeps.then ?_ (State.laneMod_keeps _ _ _) rfl
  exact Keeps.refl _ _

theorem State.markerTake_keeps (s : State) (l : Nat) (w : Nat) : Keeps 0x81200000030000014060A s (State.markerTake s l w) := by
  unfold State.markerTake
  refine Keeps.ite ?_ ?_
  · refine Keeps.then ?_ (State.laneMod_keeps _ _ _) rfl
    exact Keeps.refl _ _
  · extract_lets +onlyGivenNames -merge -useContext n
    extract_lets +onlyGivenNames -merge -useContext s1
    have keeps_s1 : Keeps 0x81200000030000014060A s s1 := by
      unfold s1
      refine Keeps.then ?_ (State.laneMod_keeps _ _ _) rfl
      refine Keeps.then ?_ (State.inc_keeps _ _ _) rfl
      exact Keeps.refl _ _
    refine Keeps.ite ?_ ?_
    · refine Keeps.then ?_ (State.retrain_keeps _ _ _) rfl
      exact keeps_s1
    · exact keeps_s1

theorem execVoxhusMarkerReceive_keeps (lane : Nat) (bits : List Bool) (s : State) :
    KeepsO 0x81200000030000014060A s (execVoxhusMarkerReceive lane bits s) := by
  unfold execVoxhusMarkerReceive
  refine KeepsO.next ?_
  refine Keeps.ite ?_ ?_
  · exact Keeps.refl _ _
  · extract_lets +onlyGivenNames -merge -useContext u
    refine Keeps.then ?_ (State.stuffing_keeps _ _ _) rfl
    refine Keeps.then ?_ (State.markerTake_keeps _ _ _) rfl
    refine Keeps.then ?_ (State.laneMod_keeps _ _ _) rfl
    exact Keeps.refl _ _

theorem execVoxhusMarkerSend_keeps (lane : Nat) (remain : Nat) (s : State) :
    KeepsO 0x100000000400 s (execVoxhusMarkerSend lane remain s) := by
  unfold execVoxhusMarkerSend
  refine KeepsO.next ?_
  extract_lets +onlyGivenNames -merge -useContext st
  refine Keeps.ite ?_ ?_
  · exact Keeps.refl _ _
  · extract_lets +onlyGivenNames -merge -useContext x
    refine Keeps.then ?_ (State.emit_keeps _ _ _ _) rfl
    refine Keeps.then ?_ (State.laneMod_keeps _ _ _) rfl
    exact Keeps.refl _ _

theorem execVoxhusCreditSend_keeps (lane : Nat) (v : Nat) (s : State) :
    KeepsO 0x800000000100000000408 s (execVoxhusCreditSend lane v s) := by
  unfold execVoxhusCreditSend
  refine KeepsO.next ?_
  refine Keeps.ite ?_ ?_
  · extract_lets +onlyGivenNames -merge -useContext x
    extract_lets +onlyGivenNames -merge -useContext g
    refine Keeps.then ?_ (State.emit_keeps _ _ _ _) rfl
    refine Keeps.then ?_ (State.setVc_keeps _ _ _ _) rfl
    exact Keeps.refl _ _
  · exact Keeps.refl _ _

theorem State.streamPacket_keeps (s : State) (c : Nat) (stream : Nat) (p : RxPkt) :
    Keeps 0x1000000000000040000008 s (State.streamPacket s c stream p) := by
  unfold State.streamPacket
  refine Keeps.fold ?_ (fun t1 y2 => ?_)
  · exact Keeps.refl _ _
  · refine Keeps.ite ?_ ?_
    · refine Keeps.then ?_ (State.ingCount_keeps _ _ _) rfl
      exact Keeps.refl _ _
    · extract_lets +onlyGivenNames -merge -useContext i
      extract_lets +onlyGivenNames -merge -useContext follows
      refine Keeps.ite ?_ ?_
      · refine Keeps.then ?_ (State.ingMod_keeps _ _ _) rfl
        exact Keeps.refl _ _
      · exact Keeps.refl _ _

theorem State.deliver_keeps (s : State) (lane : Nat) (p : VoxPkt) : Keeps 0x1810000000300040100608 s (State.deliver s lane p) := by
  unfold State.deliver
  refine Keeps.ite ?_ ?_
  · exact Keeps.refl _ _
  · extract_lets +onlyGivenNames -merge -useContext c
    extract_lets +onlyGivenNames -merge -useContext v
    extract_lets +onlyGivenNames -merge -useContext typ
    extract_lets +onlyGivenNames -merge -useContext flag
    refine Keeps.ite ?_ ?_
    · refine Keeps.then ?_ (State.streamPacket_keeps _ _ _ _) rfl
      exact Keeps.refl _ _
    · refine Keeps.ite ?_ ?_
      · refine Keeps.fold ?_ (fun t1 y2 => ?_)
        · exact Keeps.refl _ _
        · refine Keeps.ite ?_ ?_
          · refine Keeps.then ?_ (State.imageHeader_keeps _ _ _ _) rfl
            exact Keeps.refl _ _
          · refine Keeps.then ?_ (State.ingCount_keeps _ _ _) rfl
            exact Keeps.refl _ _
      · split
        · refine Keeps.then ?_ (State.laneDrop_keeps _ _) rfl
          exact Keeps.refl _ _
        · refine Keeps.ite ?_ ?_
          · refine Keeps.then ?_ (State.controlResponse_keeps _ _ _ _ _) rfl
            exact Keeps.refl _ _
          · refine Keeps.ite ?_ ?_
            · refine Keeps.then ?_ (State.cameraEvent_keeps _ _ _) rfl
              exact Keeps.refl _ _
            · refine Keeps.ite ?_ ?_
              · exact Keeps.refl _ _
              · refine Keeps.then ?_ (State.laneDrop_keeps _ _) rfl
                exact Keeps.refl _ _

theorem State.heldGo_keeps (p0 : Nat) (p1 : Nat) (p2 : Nat) (p3 : State) :
    Keeps 0x1810000000300040100608 p3 (State.heldGo p0 p1 p2 p3) := by
  induction p0 generalizing p1 p2 p3 with
  | zero =>
    rw [State.heldGo]
    exact Keeps.refl _ _
  | succ j ih =>
    rw [State.heldGo]
    split
    · exact Keeps.refl _ _
    · split
      · exact Keeps.refl _ _
      · extract_lets +onlyGivenNames -merge -useContext s1
        have keeps_s1 : Keeps 0x1810000000300040100608 p3 s1 := by
          unfold s1
          refine Keeps.then ?_ (State.deliver_keeps _ _ _) rfl
          refine Keeps.then ?_ (State.connMod_keeps _ _ _) rfl
          exact Keeps.refl _ _
        refine Keeps.then ?_ (ih _ _ _) (Sub.refl _)
        exact keeps_s1

theorem State.takeNow_keeps (s : State) (c : Nat) (lane : Nat) (p : VoxPkt) :
    Keeps 0x1810000000300040100608 s (State.takeNow s c lane p) := by
  unfold State.takeNow
  extract_lets +onlyGivenNames -merge -useContext s1
  have keeps_s1 : Keeps 0x1810000000300040100608 s s1 := by
    unfold s1
    refine Keeps.then ?_ (State.deliver_keeps _ _ _) rfl
    refine Keeps.then ?_ (State.connMod_keeps _ _ _) rfl
    exact Keeps.refl _ _
  refine Keeps.then ?_ (State.heldGo_keeps _ _ _ _) rfl
  exact keeps_s1

theorem State.seqErr_keeps (s : State) (lane : Nat) (v : Nat) : Keeps 0x800000000000000000008 s (State.seqErr s lane v) := by
  unfold State.seqErr
  refine Keeps.then ?_ (State.inc_keeps _ _ _) (Sub.or rfl (Sub.blk .LAN (by first | rfl | exact blk_ite rfl rfl) rfl))
  exact Keeps.refl _ _

theorem State.heldExpire_keeps (p0 : Nat) (p1 : Nat) (p2 : State) : Keeps 0x1810000000300040100608 p2 (State.heldExpire p0 p1 p2) := by
  induction p0 generalizing p1 p2 with
  | zero =>
    rw [State.heldExpire]
    exact Keeps.refl _ _
  | succ j ih =>
    rw [State.heldExpire]
    split
    · exact Keeps.refl _ _
    · extract_lets +onlyGivenNames -merge -useContext v
      extract_lets +onlyGivenNames -merge -useContext e
      extract_lets +onlyGivenNames -merge -useContext near
      extract_lets +onlyGivenNames -merge -useContext s1
      have keeps_s1 : Keeps 0x1810000000300040100608 p2 s1 := by
        unfold s1
        refine Keeps.then ?_ (State.connMod_keeps _ _ _) rfl
        refine Keeps.then ?_ (State.seqErr_keeps _ _ _) rfl
        exact Keeps.refl _ _
      refine Keeps.then ?_ (ih _ _) rfl
      refine Keeps.then ?_ (State.heldGo_keeps _ _ _ _) rfl
      exact keeps_s1

theorem State.skewed_keeps (s : State) (c : Nat) : Keeps 0x812000000300000140608 s (State.skewed s c) := by
  unfold State.skewed
  refine Keeps.fold ?_ (fun t1 y2 => ?_)
  · refine Keeps.then ?_ (State.connMod_keeps _ _ _) rfl
    exact Keeps.refl _ _
  · refine Keeps.then ?_ (State.laneStuck_keeps _ _ _) rfl
    exact Keeps.refl _ _

theorem State.deskew_keeps (s : State) (lane : Nat) (p : VoxPkt) : Keeps 0x1812000000300040140608 s (State.deskew s lane p) := by
  unfold State.deskew
  extract_lets +onlyGivenNames -merge -useContext c
  extract_lets +onlyGivenNames -merge -useContext s1
  have keeps_s1 : Keeps 0x1812000000300040140608 s s1 := by
    unfold s1
    refine Keeps.then ?_ (State.heldExpire_keeps _ _ _) rfl
    exact Keeps.refl _ _
  split
  · refine Keeps.then ?_ (State.takeNow_keeps _ _ _ _) rfl
    exact keeps_s1
  · extract_lets +onlyGivenNames -merge -useContext d
    refine Keeps.ite ?_ ?_
    · refine Keeps.then ?_ (State.takeNow_keeps _ _ _ _) rfl
      exact keeps_s1
    · refine Keeps.ite ?_ ?_
      · refine Keeps.then ?_ (State.takeNow_keeps _ _ _ _) rfl
        refine Keeps.then ?_ (State.seqErr_keeps _ _ _) rfl
        exact keeps_s1
      · refine Keeps.ite ?_ ?_
        · refine Keeps.then ?_ (State.connMod_keeps _ _ _) rfl
          exact keeps_s1
        · refine Keeps.then ?_ (State.skewed_keeps _ _) rfl
          refine Keeps.then ?_ (State.seqErr_keeps _ _ _) rfl
          exact keeps_s1

theorem State.packetDone_keeps (s : State) (l : Nat) : Keeps 0x181200000030004014060A s (State.packetDone s l) := by
  unfold State.packetDone
  split
  · exact Keeps.refl _ _
  · refine Keeps.then ?_ (State.packetEnds_keeps _ _) rfl
    refine Keeps.then ?_ (State.deskew_keeps _ _ _) rfl
    refine Keeps.then ?_ (State.laneMod_keeps _ _ _) rfl
    exact Keeps.refl _ _

theorem State.headerTake_keeps (s : State) (l : Nat) (held : Nat) (hdr : Nat) :
    Keeps 0x810000000100000140608 s (State.headerTake s l held hdr) := by
  unfold State.headerTake
  extract_lets +onlyGivenNames -merge -useContext v
  extract_lets +onlyGivenNames -merge -useContext n
  extract_lets +onlyGivenNames -merge -useContext cost
  extract_lets +onlyGivenNames -merge -useContext x
  extract_lets +onlyGivenNames -merge -useContext passed
  extract_lets +onlyGivenNames -merge -useContext s1
  have keeps_s1 : Keeps 0x810000000100000140608 s s1 := by
    unfold s1
    refine Keeps.then ?_ (State.setVc_keeps _ _ _ _) rfl
    exact Keeps.refl _ _
  extract_lets +onlyGivenNames -merge -useContext s2
  have keeps_s2 : Keeps 0x810000000100000140608 s s2 := by
    unfold s2
    refine Keeps.ite ?_ ?_
    · refine Keeps.then ?_ (State.ev_keeps _ _ _) rfl
      refine Keeps.then ?_ (State.laneErr_keeps _ _ _) rfl
      exact keeps_s1
    · exact keeps_s1
  refine Keeps.ite ?_ ?_
  · refine Keeps.then ?_ (State.laneMod_keeps _ _ _) rfl
    refine Keeps.then ?_ (State.laneDrop_keeps _ _) rfl
    exact keeps_s2
  · refine Keeps.then ?_ (State.laneMod_keeps _ _ _) rfl
    exact keeps_s2

theorem State.linkTake_keeps (s : State) (l : Nat) (op : Nat) (dir : Nat) :
    Keeps 0x81200000032000014060A s (State.linkTake s l op dir) := by
  unfold State.linkTake
  refine Keeps.ite ?_ ?_
  · refine Keeps.then ?_ (State.lockReport_keeps _ _) rfl
    exact Keeps.refl _ _
  · refine Keeps.ite ?_ ?_
    · exact Keeps.refl _ _
    · refine Keeps.ite ?_ ?_
      · extract_lets +onlyGivenNames -merge -useContext s1
        have keeps_s1 : Keeps 0x81200000032000014060A s s1 := by
          unfold s1
          refine Keeps.then ?_ (State.linkWord_keeps _ _ _ _) rfl
          exact Keeps.refl _ _
        refine Keeps.ite ?_ ?_
        · refine Keeps.ite ?_ ?_
          · refine Keeps.then ?_ (State.setTx_keeps _ _ _) rfl
            exact keeps_s1
          · exact keeps_s1
        · refine Keeps.then ?_ (State.laneMod_keeps _ _ _) rfl
          exact keeps_s1
      · refine Keeps.ite ?_ ?_
        · refine Keeps.ite ?_ ?_
          · refine Keeps.then ?_ (State.laneMod_keeps _ _ _) rfl
            exact Keeps.refl _ _
          · exact Keeps.refl _ _
        · refine Keeps.ite ?_ ?_
          · refine Keeps.ite ?_ ?_
            · refine Keeps.ite ?_ ?_
              · refine Keeps.then ?_ (State.txMove_keeps _ _) rfl
                exact Keeps.refl _ _
              · exact Keeps.refl _ _
            · refine Keeps.then ?_ (State.laneMod_keeps _ _ _) rfl
              exact Keeps.refl _ _
          · refine Keeps.then ?_ (State.laneDrop_keeps _ _) rfl
            exact Keeps.refl _ _

theorem State.controlTake_keeps (s : State) (l : Nat) (held : Nat) (w : Nat) :
    Keeps 0x81200000032000014060A s (State.controlTake s l held w) := by
  unfold State.controlTake
  extract_lets +onlyGivenNames -merge -useContext typ
  refine Keeps.ite ?_ ?_
  · refine Keeps.then ?_ (State.linkTake_keeps _ _ _ _) rfl
    exact Keeps.refl _ _
  · refine Keeps.ite ?_ ?_
    · exact Keeps.refl _ _
    · refine Keeps.ite ?_ ?_
      · refine Keeps.then ?_ (State.headerTake_keeps _ _ _ _) rfl
        exact Keeps.refl _ _
      · refine Keeps.ite ?_ ?_
        · refine Keeps.then ?_ (State.linkPump_keeps _ _) rfl
          refine Keeps.then ?_ (State.setVc_keeps _ _ _ _) rfl
          exact Keeps.refl _ _
        · refine Keeps.then ?_ (State.laneDrop_keeps _ _) rfl
          exact Keeps.refl _ _

theorem State.wordTake_keeps (s : State) (l : Nat) (held : Nat) (r : WordClass × Nat) :
    Keeps 0x181200000032004014060A s (State.wordTake s l held r) := by
  unfold State.wordTake
  refine Keeps.ite ?_ ?_
  · exact Keeps.refl _ _
  · extract_lets +onlyGivenNames -merge -useContext s1
    have keeps_s1 : Keeps 0x181200000032004014060A s s1 := by
      unfold s1
      split
      · refine Keeps.then ?_ (State.inc_keeps _ _ _) rfl
        exact Keeps.refl _ _
      · refine Keeps.then ?_ (State.uncorrectable_keeps _ _ _) rfl
        exact Keeps.refl _ _
      · exact Keeps.refl _ _
    extract_lets +onlyGivenNames -merge -useContext bad
    refine Keeps.ite ?_ ?_
    · exact keeps_s1
    · refine Keeps.ite ?_ ?_
      · refine Keeps.then ?_ (State.laneMod_keeps _ _ _) rfl
        exact keeps_s1
      · split
        · extract_lets +onlyGivenNames -merge -useContext s2
          have keeps_s2 : Keeps 0x181200000032004014060A s s2 := by
            unfold s2
            refine Keeps.then ?_ (State.laneMod_keeps _ _ _) rfl
            exact keeps_s1
          refine Keeps.ite ?_ ?_
          · refine Keeps.then ?_ (State.packetDone_keeps _ _) rfl
            exact keeps_s2
          · exact keeps_s2
        · refine Keeps.ite ?_ ?_
          · refine Keeps.then ?_ (State.headerLost_keeps _ _) rfl
            exact keeps_s1
          · refine Keeps.then ?_ (State.controlTake_keeps _ _ _ _) rfl
            exact keeps_s1

theorem State.bitsTake_keeps (s : State) (l : Nat) (held : Nat) (bits : List Bool) :
    Keeps 0x181200000032004014060A s (State.bitsTake s l held bits) := by
  unfold State.bitsTake
  refine Keeps.ite ?_ ?_
  · exact Keeps.refl _ _
  · extract_lets +onlyGivenNames -merge -useContext x
    extract_lets +onlyGivenNames -merge -useContext u
    extract_lets +onlyGivenNames -merge -useContext n
    extract_lets +onlyGivenNames -merge -useContext plain
    extract_lets +onlyGivenNames -merge -useContext s1
    have keeps_s1 : Keeps 0x181200000032004014060A s s1 := by
      unfold s1
      refine Keeps.then ?_ (State.laneMod_keeps _ _ _) rfl
      exact Keeps.refl _ _
    extract_lets +onlyGivenNames -merge -useContext s2
    have keeps_s2 : Keeps 0x181200000032004014060A s s2 := by
      unfold s2
      refine Keeps.fold ?_ (fun t1 y2 => ?_)
      · exact keeps_s1
      · refine Keeps.then ?_ (State.wordTake_keeps _ _ _ _) rfl
        exact Keeps.refl _ _
    extract_lets +onlyGivenNames -merge -useContext s3
    have keeps_s3 : Keeps 0x181200000032004014060A s s3 := by
      unfold s3
      refine Keeps.then ?_ (State.stuffing_keeps _ _ _) rfl
      exact keeps_s2
    refine Keeps.ite ?_ ?_
    · refine Keeps.then ?_ (State.packetDone_keeps _ _) rfl
      exact keeps_s3
    · exact keeps_s3

theorem execVoxhusPacketReceive_keeps (lane : Nat) (bits : List Bool) (held : Nat) (s : State) :
    KeepsO 0x181200000032004014060A s (execVoxhusPacketReceive lane bits held s) := by
  unfold execVoxhusPacketReceive
  refine KeepsO.next ?_
  refine Keeps.then ?_ (State.bitsTake_keeps _ _ _ _) rfl
  exact Keeps.refl _ _

theorem execVoxhusCreditWord_keeps (lane : Nat) (bits : List Bool) (s : State) :
    KeepsO 0x181200000032004014060A s (execVoxhusCreditWord lane bits s) := by
  unfold execVoxhusCreditWord
  refine KeepsO.next ?_
  refine Keeps.then ?_ (State.bitsTake_keeps _ _ _ _) rfl
  exact Keeps.refl _ _

theorem execVoxhusSleepRequest_keeps (lane : Nat) (bits : List Bool) (s : State) :
    KeepsO 0x181200000032004014060A s (execVoxhusSleepRequest lane bits s) := by
  unfold execVoxhusSleepRequest
  refine KeepsO.next ?_
  refine Keeps.then ?_ (State.bitsTake_keeps _ _ _ _) rfl
  exact Keeps.refl _ _

theorem execVoxhusSleepAck_keeps (lane : Nat) (bits : List Bool) (s : State) :
    KeepsO 0x181200000032004014060A s (execVoxhusSleepAck lane bits s) := by
  unfold execVoxhusSleepAck
  refine KeepsO.next ?_
  refine Keeps.then ?_ (State.bitsTake_keeps _ _ _ _) rfl
  exact Keeps.refl _ _

theorem execVoxhusWake_keeps (lane : Nat) (bits : List Bool) (s : State) :
    KeepsO 0x181200000032004014060A s (execVoxhusWake lane bits s) := by
  unfold execVoxhusWake
  refine KeepsO.next ?_
  extract_lets +onlyGivenNames -merge -useContext st
  refine Keeps.ite ?_ ?_
  · refine Keeps.then ?_ (State.rxWake_keeps _ _) rfl
    refine Keeps.then ?_ (State.laneMod_keeps _ _ _) rfl
    exact Keeps.refl _ _
  · refine Keeps.then ?_ (State.bitsTake_keeps _ _ _ _) rfl
    exact Keeps.refl _ _

theorem execVoxhusKeepAlive_keeps (lane : Nat) (bits : List Bool) (s : State) :
    KeepsO 0x181200000032004014060A s (execVoxhusKeepAlive lane bits s) := by
  unfold execVoxhusKeepAlive
  refine KeepsO.next ?_
  refine Keeps.then ?_ (State.bitsTake_keeps _ _ _ _) rfl
  exact Keeps.refl _ _

theorem execTrainingLockReport_keeps (lane : Nat) (bits : List Bool) (s : State) :
    KeepsO 0x181200000032004014060A s (execTrainingLockReport lane bits s) := by
  unfold execTrainingLockReport
  refine KeepsO.next ?_
  refine Keeps.then ?_ (State.bitsTake_keeps _ _ _ _) rfl
  exact Keeps.refl _ _

theorem execVoxhusReservedWord_keeps (lane : Nat) (bits : List Bool) (s : State) :
    KeepsO 0x181200000032004014060A s (execVoxhusReservedWord lane bits s) := by
  unfold execVoxhusReservedWord
  refine KeepsO.next ?_
  refine Keeps.then ?_ (State.bitsTake_keeps _ _ _ _) rfl
  exact Keeps.refl _ _

theorem execCxpStreamPacket_keeps (lane : Nat) (stream : Nat) (start : Bool) (ending : Bool) (last : Bool) (words : List Nat) (poison : List Nat) (errors : Nat) (s : State) :
    KeepsO 0x1800000000000040000008 s (execCxpStreamPacket lane stream start ending last words poison errors s) := by
  unfold execCxpStreamPacket
  refine KeepsO.next ?_
  refine Keeps.ite ?_ ?_
  · refine Keeps.then ?_ (State.streamPacket_keeps _ _ _ _) rfl
    refine Keeps.then ?_ (State.add_keeps _ _ _ _) (Sub.or rfl rfl)
    exact Keeps.refl _ _
  · exact Keeps.refl _ _

theorem execCxpHeartbeat_keeps (lane : Nat) (time : Nat) (s : State) : KeepsO 0x100000000000 s (execCxpHeartbeat lane time s) := by
  unfold execCxpHeartbeat
  refine KeepsO.next ?_
  refine Keeps.ite ?_ ?_
  · refine Keeps.then ?_ (State.laneMod_keeps _ _ _) rfl
    exact Keeps.refl _ _
  · exact Keeps.refl _ _

theorem execCxpConnectionTest_keeps (lane : Nat) (errors : Nat) (s : State) :
    KeepsO 0x800000000100000000008 s (execCxpConnectionTest lane errors s) := by
  unfold execCxpConnectionTest
  refine KeepsO.next ?_
  refine Keeps.ite ?_ ?_
  · extract_lets +onlyGivenNames -merge -useContext n
    refine Keeps.then ?_ (State.wf_keeps _ _ _ _) (Sub.or rfl rfl)
    refine Keeps.then ?_ (State.add_keeps _ _ _ _) (Sub.or rfl rfl)
    refine Keeps.then ?_ (State.laneMod_keeps _ _ _) rfl
    exact Keeps.refl _ _
  · exact Keeps.refl _ _

theorem State.frameTake_keeps (s : State) (lane : Nat) (frame : List Byte) : Keeps 0x100000000400 s (State.frameTake s lane frame) := by
  unfold State.frameTake
  extract_lets +onlyGivenNames -merge -useContext tagged
  extract_lets +onlyGivenNames -merge -useContext typ
  extract_lets +onlyGivenNames -merge -useContext body
  extract_lets +onlyGivenNames -merge -useContext ip
  refine Keeps.ite ?_ ?_
  · refine Keeps.then ?_ (State.laneDrop_keeps _ _) rfl
    exact Keeps.refl _ _
  · refine Keeps.ite ?_ ?_
    · refine Keeps.then ?_ (State.laneDrop_keeps _ _) rfl
      exact Keeps.refl _ _
    · refine Keeps.ite ?_ ?_
      · exact Keeps.refl _ _
      · refine Keeps.ite ?_ ?_
        · refine Keeps.then ?_ (State.ethOut_keeps _ _ _ _) rfl
          exact Keeps.refl _ _
        · refine Keeps.then ?_ (State.laneDrop_keeps _ _) rfl
          exact Keeps.refl _ _

theorem execEthFrameReceive_keeps (lane : Nat) (frame : List Byte) (corrected : Nat) (uncorrected : Nat) (s : State) :
    KeepsO 0x81200000030000014060A s (execEthFrameReceive lane frame corrected uncorrected s) := by
  unfold execEthFrameReceive
  refine KeepsO.next ?_
  refine Keeps.ite ?_ ?_
  · exact Keeps.refl _ _
  · extract_lets +onlyGivenNames -merge -useContext i
    extract_lets +onlyGivenNames -merge -useContext fec
    extract_lets +onlyGivenNames -merge -useContext body
    extract_lets +onlyGivenNames -merge -useContext good
    extract_lets +onlyGivenNames -merge -useContext f
    extract_lets +onlyGivenNames -merge -useContext s1
    have keeps_s1 : Keeps 0x81200000030000014060A s s1 := by
      unfold s1
      refine Keeps.ite ?_ ?_
      · exact Keeps.refl _ _
      · refine Keeps.then ?_ (State.add_keeps _ _ _ _) rfl
        refine Keeps.then ?_ (State.add_keeps _ _ _ _) rfl
        exact Keeps.refl _ _
    extract_lets +onlyGivenNames -merge -useContext s2
    have keeps_s2 : Keeps 0x81200000030000014060A s s2 := by
      unfold s2
      refine Keeps.then ?_ (State.laneMod_keeps _ _ _) rfl
      refine Keeps.then ?_ (State.add_keeps _ _ _ _) rfl
      exact keeps_s1
    refine Keeps.ite ?_ ?_
    · refine Keeps.then ?_ (State.retrain_keeps _ _ _) rfl
      refine Keeps.then ?_ (State.laneMod_keeps _ _ _) rfl
      exact keeps_s2
    · refine Keeps.ite ?_ ?_
      · exact keeps_s2
      · refine Keeps.then ?_ (State.frameTake_keeps _ _ _) rfl
        exact keeps_s2

end Sys2Proof.Machine
end

