-- ==== Sys2Proof/Laws/KeepsWayTrigger.lean ====
section
/-! SUPPORT. Frames of the operations of Machine/WayTrigger.lean: what each may change, one lemma each. -/

namespace Sys2Proof.Machine

theorem State.eventOut_keeps (s : State) (p : Nat) (instant : Int) : Keeps 0x40000400 s (State.eventOut s p instant) := by
  unfold State.eventOut
  extract_lets +onlyGivenNames -merge -useContext cars
  extract_lets +onlyGivenNames -merge -useContext s1
  extract_lets +onlyGivenNames -merge -useContext x1
  have keeps_x1 : Keeps 0x40000400 s x1 := by
    unfold x1
    clear_value cars
    split
    · refine Keeps.ite ?_ ?_
      · refine Keeps.then ?_ (State.emit_keeps _ _ _ _) rfl
        exact Keeps.refl _ _
      · exact Keeps.refl _ _
    · exact Keeps.refl _ _
  refine Keeps.fold ?_ (fun t2 y3 => ?_)
  · exact keeps_x1
  · refine Keeps.then ?_ (State.trigDue_keeps _ _ _) rfl
    exact Keeps.refl _ _

theorem State.goesLive_keeps (s : State) (p : Nat) (m : MirTrig) (instant : Int) :
    Keeps 0x11100000020800E0100608 s (State.goesLive s p m instant) := by
  unfold State.goesLive
  extract_lets +onlyGivenNames -merge -useContext k
  extract_lets +onlyGivenNames -merge -useContext own
  extract_lets +onlyGivenNames -merge -useContext back
  extract_lets +onlyGivenNames -merge -useContext s1
  have keeps_s1 : Keeps 0x11100000020800E0100608 s s1 := by
    unfold s1
    refine Keeps.fold ?_ (fun t1 y2 => ?_)
    · exact Keeps.refl _ _
    · extract_lets +onlyGivenNames -merge -useContext x
      extract_lets +onlyGivenNames -merge -useContext skipped
      extract_lets +onlyGivenNames -merge -useContext skipped_2
      refine Keeps.then ?_ (State.settle_keeps _ _) rfl
      refine Keeps.fold ?_ (fun t3 y4 => ?_)
      · refine Keeps.then ?_ (State.ingMod_keeps _ _ _) rfl
        exact Keeps.refl _ _
      · refine Keeps.then ?_ (State.staMark_keeps _ _ _ _ _) rfl
        exact Keeps.refl _ _
  refine Keeps.then ?_ (State.eventOut_keeps _ _ _) rfl
  refine Keeps.then ?_ (State.pairMod_keeps _ _) rfl
  exact keeps_s1

theorem State.portEvent_keeps (s : State) (p : Nat) (instant : Int) : Keeps 0x11108000020800E0100608 s (State.portEvent s p instant) := by
  unfold State.portEvent
  extract_lets +onlyGivenNames -merge -useContext s1
  have keeps_s1 : Keeps 0x11108000020800E0100608 s s1 := by
    unfold s1
    refine Keeps.then ?_ (State.wf64_keeps _ _ _ _) (Sub.or rfl (Sub.blk .WAY (by first | rfl | exact blk_ite rfl rfl) rfl))
    exact Keeps.refl _ _
  extract_lets +onlyGivenNames -merge -useContext quiet
  have keeps_quiet : Keeps 0x11108000020800E0100608 s quiet := by
    unfold quiet
    refine Keeps.then ?_ (State.pairMod_keeps _ _) rfl
    exact keeps_s1
  refine Keeps.ite ?_ ?_
  · exact keeps_s1
  · refine Keeps.ite ?_ ?_
    · exact keeps_quiet
    · split
      · refine Keeps.ite ?_ ?_
        · exact keeps_quiet
        · refine Keeps.then ?_ (State.goesLive_keeps _ _ _ _) rfl
          exact keeps_s1
      · refine Keeps.ite ?_ ?_
        · exact keeps_quiet
        · refine Keeps.then ?_ (State.eventOut_keeps _ _ _) rfl
          exact keeps_s1
      · refine Keeps.then ?_ (State.eventOut_keeps _ _ _) rfl
        exact keeps_s1

theorem execEncoderTrigger_keeps (p : Nat) (s : State) : KeepsO 0x11108000020800E0900608 s (execEncoderTrigger p s) := by
  unfold execEncoderTrigger
  extract_lets +onlyGivenNames -merge -useContext x1
  refine KeepsO.next ?_
  refine Keeps.ite ?_ ?_
  · exact Keeps.refl _ _
  · refine Keeps.then ?_ (State.portEvent_keeps _ _ _) rfl
    refine Keeps.then ?_ (State.portMod_keeps _ _ _) rfl
    exact Keeps.refl _ _

theorem execFixedRateTrigger_keeps (p : Nat) (s : State) : KeepsO 0x11108000020800E0900608 s (execFixedRateTrigger p s) := by
  unfold execFixedRateTrigger
  extract_lets +onlyGivenNames -merge -useContext x1
  refine KeepsO.next ?_
  refine Keeps.ite ?_ ?_
  · exact Keeps.refl _ _
  · refine Keeps.then ?_ (State.portEvent_keeps _ _ _) rfl
    refine Keeps.then ?_ (State.portMod_keeps _ _ _) rfl
    exact Keeps.refl _ _

end Sys2Proof.Machine
end

