-- ==== Sys2Proof/Laws/KeepsDispatch.lean ====
section
/-! SUPPORT. Frames of the operations of Machine/Dispatch.lean: what each may change, one lemma each. -/

namespace Sys2Proof.Machine

theorem exec_keeps (i : Instr) (s : State) : KeepsO 0xFFFFFFFF000FFFFFFFFFFFFE s (exec i s) := by
  unfold exec
  split
  · refine KeepsO.then ?_ (execRegisterWrite_keeps _ _ _ _ _) rfl
    exact Keeps.refl _ _
  · refine KeepsO.then ?_ (execUnoccupiedAccess_keeps _ _ _ _ _) rfl
    exact Keeps.refl _ _
  · refine KeepsO.then ?_ (execFifthWheelPortFail_keeps _ _ _) rfl
    exact Keeps.refl _ _
  · refine KeepsO.then ?_ (execFifthWheelWordReceive_keeps _ _ _ _) rfl
    exact Keeps.refl _ _
  · refine KeepsO.then ?_ (execHarnessLoad_keeps _ _ _) rfl
    exact Keeps.refl _ _
  · refine KeepsO.then ?_ (execHarnessSourceComplete_keeps _) rfl
    exact Keeps.refl _ _
  · refine KeepsO.then ?_ (execHarnessApplyDrained_keeps _ _) rfl
    exact Keeps.refl _ _
  · refine KeepsO.then ?_ (execHarnessAbort_keeps _ _ _) rfl
    exact Keeps.refl _ _
  · refine KeepsO.then ?_ (execPatchCancel_keeps _ _ _) rfl
    exact Keeps.refl _ _
  · refine KeepsO.then ?_ (execProgA_keeps _ _ _) rfl
    exact Keeps.refl _ _
  · refine KeepsO.then ?_ (execProgB_keeps _ _ _) rfl
    exact Keeps.refl _ _
  · refine KeepsO.then ?_ (execSlotProgramComplete_keeps _) rfl
    exact Keeps.refl _ _
  · refine KeepsO.then ?_ (execEnrol_keeps _ _ _) rfl
    exact Keeps.refl _ _
  · refine KeepsO.then ?_ (execRevoke_keeps _ _ _) rfl
    exact Keeps.refl _ _
  · refine KeepsO.then ?_ (execOrDataAppend_keeps _ _ _) rfl
    exact Keeps.refl _ _
  · refine KeepsO.then ?_ (execOrBufferClear_keeps _ _ _) rfl
    exact Keeps.refl _ _
  · refine KeepsO.then ?_ (execPatchApplyInstant_keeps _) rfl
    exact Keeps.refl _ _
  · refine KeepsO.then ?_ (execPatchChainDrained_keeps _) rfl
    exact Keeps.refl _ _
  · refine KeepsO.then ?_ (execPatchChainReady_keeps _) rfl
    exact Keeps.refl _ _
  · refine KeepsO.then ?_ (execLanePllLocked_keeps _ _) rfl
    exact Keeps.refl _ _
  · refine KeepsO.then ?_ (execLaneCdrLocked_keeps _ _) rfl
    exact Keeps.refl _ _
  · refine KeepsO.then ?_ (execLaneFramingDone_keeps _ _ _) rfl
    exact Keeps.refl _ _
  · refine KeepsO.then ?_ (execLaneTrainTimeout_keeps _ _) rfl
    exact Keeps.refl _ _
  · refine KeepsO.then ?_ (execCxpDiscovery_keeps _ _ _ _ _ _) rfl
    exact Keeps.refl _ _
  · refine KeepsO.then ?_ (execCxpDiscoveryTimeout_keeps _ _) rfl
    exact Keeps.refl _ _
  · refine KeepsO.then ?_ (execCxpStreamPacket_keeps _ _ _ _ _ _ _ _ _) rfl
    exact Keeps.refl _ _
  · refine KeepsO.then ?_ (execCxpImageHeader_keeps _ _ _ _) rfl
    exact Keeps.refl _ _
  · refine KeepsO.then ?_ (execCxpControlResponse_keeps _ _ _ _ _) rfl
    exact Keeps.refl _ _
  · refine KeepsO.then ?_ (execCxpEventPacket_keeps _ _ _) rfl
    exact Keeps.refl _ _
  · refine KeepsO.then ?_ (execCxpHeartbeat_keeps _ _ _) rfl
    exact Keeps.refl _ _
  · refine KeepsO.then ?_ (execCxpConnectionTest_keeps _ _ _) rfl
    exact Keeps.refl _ _
  · refine KeepsO.then ?_ (execVoxhusMarkerReceive_keeps _ _ _) rfl
    exact Keeps.refl _ _
  · refine KeepsO.then ?_ (execVoxhusMarkerSend_keeps _ _ _) rfl
    exact Keeps.refl _ _
  · refine KeepsO.then ?_ (execVoxhusPacketReceive_keeps _ _ _ _) rfl
    exact Keeps.refl _ _
  · refine KeepsO.then ?_ (execVoxhusCreditWord_keeps _ _ _) rfl
    exact Keeps.refl _ _
  · refine KeepsO.then ?_ (execVoxhusCreditSend_keeps _ _ _) rfl
    exact Keeps.refl _ _
  · refine KeepsO.then ?_ (execVoxhusSleepRequest_keeps _ _ _) rfl
    exact Keeps.refl _ _
  · refine KeepsO.then ?_ (execVoxhusSleepAck_keeps _ _ _) rfl
    exact Keeps.refl _ _
  · refine KeepsO.then ?_ (execVoxhusWake_keeps _ _ _) rfl
    exact Keeps.refl _ _
  · refine KeepsO.then ?_ (execVoxhusKeepAlive_keeps _ _ _) rfl
    exact Keeps.refl _ _
  · refine KeepsO.then ?_ (execTrainingLockReport_keeps _ _ _) rfl
    exact Keeps.refl _ _
  · refine KeepsO.then ?_ (execVoxhusReservedWord_keeps _ _ _) rfl
    exact Keeps.refl _ _
  · refine KeepsO.then ?_ (execEthFrameReceive_keeps _ _ _ _ _) rfl
    exact Keeps.refl _ _
  · refine KeepsO.then ?_ (execEthBlockLockLoss_keeps _ _) rfl
    exact Keeps.refl _ _
  · refine KeepsO.then ?_ (execLaneSignalLoss_keeps _ _) rfl
    exact Keeps.refl _ _
  · refine KeepsO.then ?_ (execLaneRetrain_keeps _ _ _ _) rfl
    exact Keeps.refl _ _
  · refine KeepsO.then ?_ (execLaneClearCounts_keeps _ _ _ _) rfl
    exact Keeps.refl _ _
  · refine KeepsO.then ?_ (execLaneRunWwt_keeps _ _ _ _) rfl
    exact Keeps.refl _ _
  · refine KeepsO.then ?_ (execLaneEqSetGo_keeps _ _ _ _) rfl
    exact Keeps.refl _ _
  · refine KeepsO.then ?_ (execLaneEqSwitch_keeps _ _) rfl
    exact Keeps.refl _ _
  · refine KeepsO.then ?_ (execLanePowerRequest_keeps _ _ _ _) rfl
    exact Keeps.refl _ _
  · refine KeepsO.then ?_ (execLaneWakeOnSignal_keeps _ _) rfl
    exact Keeps.refl _ _
  · refine KeepsO.then ?_ (execLanePrbsControl_keeps _ _ _ _ _) rfl
    exact Keeps.refl _ _
  · refine KeepsO.then ?_ (execIngTriggerEvent_keeps _ _) rfl
    exact Keeps.refl _ _
  · refine KeepsO.then ?_ (execIngLineDecide_keeps _ _) rfl
    exact Keeps.refl _ _
  · refine KeepsO.then ?_ (execIngLineEnd_keeps _ _) rfl
    exact Keeps.refl _ _
  · refine KeepsO.then ?_ (execTriggerWindowExpire_keeps _ _) rfl
    exact Keeps.refl _ _
  · refine KeepsO.then ?_ (execVoxhusLineHeader_keeps _ _ _) rfl
    exact Keeps.refl _ _
  · refine KeepsO.then ?_ (execCamsetLaunch_keeps _ _ _ _) rfl
    exact Keeps.refl _ _
  · refine KeepsO.then ?_ (execCamsetAck_keeps _ _ _) rfl
    exact Keeps.refl _ _
  · refine KeepsO.then ?_ (execCamsetTimeout_keeps _ _) rfl
    exact Keeps.refl _ _
  · refine KeepsO.then ?_ (execTunnelGo_keeps _ _ _ _) rfl
    exact Keeps.refl _ _
  · refine KeepsO.then ?_ (execTunnelResponse_keeps _ _ _ _) rfl
    exact Keeps.refl _ _
  · refine KeepsO.then ?_ (execTunnelTimeout_keeps _ _) rfl
    exact Keeps.refl _ _
  · refine KeepsO.then ?_ (execCameraEventReceive_keeps _ _ _) rfl
    exact Keeps.refl _ _
  · refine KeepsO.then ?_ (execCameraEventPop_keeps _ _ _ _) rfl
    exact Keeps.refl _ _
  · refine KeepsO.then ?_ (execStaLine_keeps _ _) rfl
    exact Keeps.refl _ _
  · refine KeepsO.then ?_ (execStaBlockClose_keeps _ _) rfl
    exact Keeps.refl _ _
  · refine KeepsO.then ?_ (execWireDisagreeFault_keeps _ _ _) rfl
    exact Keeps.refl _ _
  · refine KeepsO.then ?_ (execWireFaultClear_keeps _ _ _) rfl
    exact Keeps.refl _ _
  · refine KeepsO.then ?_ (execQuadratureStep_keeps _ _ _ _ _ _ _) rfl
    exact Keeps.refl _ _
  · refine KeepsO.then ?_ (execDoubleEdgeWindow_keeps _ _) rfl
    exact Keeps.refl _ _
  · refine KeepsO.then ?_ (execIndexEvent_keeps _ _) rfl
    exact Keeps.refl _ _
  · refine KeepsO.then ?_ (execAbsFrameRequest_keeps _ _ _ _) rfl
    exact Keeps.refl _ _
  · refine KeepsO.then ?_ (execAbsRequest_keeps _ _ _ _) rfl
    exact Keeps.refl _ _
  · refine KeepsO.then ?_ (execAbsFrameComplete_keeps _ _ _ _) rfl
    exact Keeps.refl _ _
  · refine KeepsO.then ?_ (execAbsFrameTimeout_keeps _ _) rfl
    exact Keeps.refl _ _
  · refine KeepsO.then ?_ (execSpeedStandstill_keeps _ _) rfl
    exact Keeps.refl _ _
  · refine KeepsO.then ?_ (execEncoderTrigger_keeps _ _) rfl
    exact Keeps.refl _ _
  · refine KeepsO.then ?_ (execFixedRateTrigger_keeps _ _) rfl
    exact Keeps.refl _ _
  · refine KeepsO.then ?_ (execCompareFire_keeps _ _) rfl
    exact Keeps.refl _ _
  · refine KeepsO.then ?_ (execGioPulseEnd_keeps _ _ _) rfl
    exact Keeps.refl _ _
  · refine KeepsO.then ?_ (execComparePush_keeps _ _ _ _) rfl
    exact Keeps.refl _ _
  · refine KeepsO.then ?_ (execCompareFlush_keeps _ _ _ _) rfl
    exact Keeps.refl _ _
  · refine KeepsO.then ?_ (execCompareEnable_keeps _ _ _ _) rfl
    exact Keeps.refl _ _
  · refine KeepsO.then ?_ (execClearUncertain_keeps _ _ _ _) rfl
    exact Keeps.refl _ _
  · refine KeepsO.then ?_ (execClearSuspect_keeps _ _ _ _) rfl
    exact Keeps.refl _ _
  · refine KeepsO.then ?_ (execWayClearCounts_keeps _ _ _ _) rfl
    exact Keeps.refl _ _
  · refine KeepsO.then ?_ (execMotionWake_keeps _ _) rfl
    exact Keeps.refl _ _
  · refine KeepsO.then ?_ (execTruLine_keeps _ _) rfl
    exact Keeps.refl _ _
  · refine KeepsO.then ?_ (execTableLoad_keeps _ _ _ _ _) rfl
    exact Keeps.refl _ _
  · refine KeepsO.then ?_ (execTableLoadComplete_keeps _ _ _) rfl
    exact Keeps.refl _ _
  · refine KeepsO.then ?_ (execTableLoadAbort_keeps _ _ _ _ _) rfl
    exact Keeps.refl _ _
  · refine KeepsO.then ?_ (execRefMeasurementDone_keeps _ _) rfl
    exact Keeps.refl _ _
  · refine KeepsO.then ?_ (execGainRebuild_keeps _ _) rfl
    exact Keeps.refl _ _
  · refine KeepsO.then ?_ (execGainCommitStage_keeps _ _) rfl
    exact Keeps.refl _ _
  · refine KeepsO.then ?_ (execGainWaitTimeout_keeps _ _) rfl
    exact Keeps.refl _ _
  · refine KeepsO.then ?_ (execRgaLine_keeps _ _) rfl
    exact Keeps.refl _ _
  · refine KeepsO.then ?_ (execRgaGapMarker_keeps _ _) rfl
    exact Keeps.refl _ _
  · refine KeepsO.then ?_ (execSeamLineDeliver_keeps _ _ _) rfl
    exact Keeps.refl _ _
  · refine KeepsO.then ?_ (execRegWindowEnd_keeps _ _) rfl
    exact Keeps.refl _ _
  · refine KeepsO.then ?_ (execSeamRunComplete_keeps _) rfl
    exact Keeps.refl _ _
  · refine KeepsO.then ?_ (execSeamRunTimeout_keeps _) rfl
    exact Keeps.refl _ _
  · refine KeepsO.then ?_ (execSprLine_keeps _ _) rfl
    exact Keeps.refl _ _
  · refine KeepsO.then ?_ (execFreezeMaskReturn_keeps _ _) rfl
    exact Keeps.refl _ _
  · refine KeepsO.then ?_ (execSprFreeze_keeps _ _ _ _) rfl
    exact Keeps.refl _ _
  · refine KeepsO.then ?_ (execSprThaw_keeps _ _ _ _) rfl
    exact Keeps.refl _ _
  · refine KeepsO.then ?_ (execSegLine_keeps _ _) rfl
    exact Keeps.refl _ _
  · refine KeepsO.then ?_ (execLblLine_keeps _ _) rfl
    exact Keeps.refl _ _
  · refine KeepsO.then ?_ (execDbmFragment_keeps _ _) rfl
    exact Keeps.refl _ _
  · refine KeepsO.then ?_ (execDbmPartialSet_keeps _ _) rfl
    exact Keeps.refl _ _
  · refine KeepsO.then ?_ (execFrontierAdvance_keeps _ _) rfl
    exact Keeps.refl _ _
  · refine KeepsO.then ?_ (execRecordWrite_keeps _ _) rfl
    exact Keeps.refl _ _
  · refine KeepsO.then ?_ (execCarriageLag_keeps _ _) rfl
    exact Keeps.refl _ _
  · refine KeepsO.then ?_ (execDbmAckWrite_keeps _ _ _) rfl
    exact Keeps.refl _ _
  · refine KeepsO.then ?_ (execDbmRackWrite_keeps _ _ _ _) (Sub.or rfl (Sub.anyBlk _ rfl))
    exact Keeps.refl _ _
  · refine KeepsO.then ?_ (execPatchCut_keeps _ _) rfl
    exact Keeps.refl _ _
  · refine KeepsO.then ?_ (execArchiveLine_keeps _ _) rfl
    exact Keeps.refl _ _
  · refine KeepsO.then ?_ (execArchiveRowClose_keeps _ _) rfl
    exact Keeps.refl _ _
  · refine KeepsO.then ?_ (execArchiveRowTimeout_keeps _ _) rfl
    exact Keeps.refl _ _
  · refine KeepsO.then ?_ (execDecodeJobGo_keeps _ _ _ _) rfl
    exact Keeps.refl _ _
  · refine KeepsO.then ?_ (execDecodeJobAbort_keeps _ _ _ _) rfl
    exact Keeps.refl _ _
  · refine KeepsO.then ?_ (execDecodeLine_keeps _ _) rfl
    exact Keeps.refl _ _
  · refine KeepsO.then ?_ (execDecodeJobEnd_keeps _ _) rfl
    exact Keeps.refl _ _
  · refine KeepsO.then ?_ (execPreviewTick_keeps _ _) rfl
    exact Keeps.refl _ _
  · refine KeepsO.then ?_ (execPreviewRowComplete_keeps _ _ _) rfl
    exact Keeps.refl _ _
  · refine KeepsO.then ?_ (execPreviewRowTimeout_keeps _ _ _) rfl
    exact Keeps.refl _ _
  · refine KeepsO.then ?_ (execDramRead_keeps _ _ _ _) rfl
    exact Keeps.refl _ _
  · refine KeepsO.then ?_ (execBar2Read_keeps _ _ _) rfl
    exact Keeps.refl _ _
  · refine KeepsO.then ?_ (execBar2Write_keeps _ _ _ _) rfl
    exact Keeps.refl _ _
  · refine KeepsO.then ?_ (execBar2BaseWrite_keeps _ _ _) rfl
    exact Keeps.refl _ _
  · refine KeepsO.then ?_ (execRefreshDue_keeps _ _ _ _ _ _) rfl
    exact Keeps.refl _ _
  · refine KeepsO.then ?_ (execRefreshMakeup_keeps _ _ _ _) rfl
    exact Keeps.refl _ _
  · refine KeepsO.then ?_ (execDimmHot_keeps _ _ _ _) rfl
    exact Keeps.refl _ _
  · refine KeepsO.then ?_ (execRowActivate_keeps _ _ _ _ _ _ _) rfl
    exact Keeps.refl _ _
  · refine KeepsO.then ?_ (execCurbWindowEnd_keeps _ _ _) rfl
    exact Keeps.refl _ _
  · refine KeepsO.then ?_ (execScrubBlock_keeps _ _ _ _) rfl
    exact Keeps.refl _ _
  · refine KeepsO.then ?_ (execSramScrub_keeps _ _ _ _) rfl
    exact Keeps.refl _ _
  · refine KeepsO.then ?_ (execWaybillScrub_keeps _ _ _) rfl
    exact Keeps.refl _ _
  · refine KeepsO.then ?_ (execRemountGo_keeps _ _ _ _ _) rfl
    exact Keeps.refl _ _
  · refine KeepsO.then ?_ (execRemountCopyBlock_keeps _ _ _ _) rfl
    exact Keeps.refl _ _
  · refine KeepsO.then ?_ (execRemountComplete_keeps _ _) rfl
    exact Keeps.refl _ _
  · refine KeepsO.then ?_ (execDramRunComplete_keeps _ _ _ _) rfl
    exact Keeps.refl _ _
  · refine KeepsO.then ?_ (execSramUncorrectable_keeps _ _ _) rfl
    exact Keeps.refl _ _
  · refine KeepsO.then ?_ (execMewsPacketWrite_keeps _ _ _ _ _ _) rfl
    exact Keeps.refl _ _
  · refine KeepsO.then ?_ (execMewsSpaceFreed_keeps _ _ _ _ _) rfl
    exact Keeps.refl _ _
  · refine KeepsO.then ?_ (execMewsPacketRead_keeps _ _ _ _ _) rfl
    exact Keeps.refl _ _
  · refine KeepsO.then ?_ (execMewsPacketAbandon_keeps _ _ _) rfl
    exact Keeps.refl _ _
  · refine KeepsO.then ?_ (execMewsFlush_keeps _ _ _ _) rfl
    exact Keeps.refl _ _
  · refine KeepsO.then ?_ (execMewsFlushBoundary_keeps _ _ _) rfl
    exact Keeps.refl _ _
  · refine KeepsO.then ?_ (execMewsHwFlush_keeps _ _ _ _) rfl
    exact Keeps.refl _ _
  · refine KeepsO.then ?_ (execMewPeakClear_keeps _ _ _ _ _) rfl
    exact Keeps.refl _ _
  · refine KeepsO.then ?_ (execDrayageGo_keeps _ _ _ _ _) rfl
    exact Keeps.refl _ _
  · refine KeepsO.then ?_ (execDrayageBurst_keeps _ _ _ _ _ _) rfl
    exact Keeps.refl _ _
  · refine KeepsO.then ?_ (execDrayageComplete_keeps _ _ _) rfl
    exact Keeps.refl _ _
  · refine KeepsO.then ?_ (execDrayageAbort_keeps _ _ _ _ _) rfl
    exact Keeps.refl _ _
  · refine KeepsO.then ?_ (execDrayageCredit_keeps _ _ _) rfl
    exact Keeps.refl _ _
  · refine KeepsO.then ?_ (execDrayageReqClear_keeps _ _ _ _ _) rfl
    exact Keeps.refl _ _
  · refine KeepsO.then ?_ (execWhiffletreeDecision_keeps _ _ _ _) rfl
    exact Keeps.refl _ _
  · refine KeepsO.then ?_ (execBurstMaxExpire_keeps _ _ _) rfl
    exact Keeps.refl _ _
  · refine KeepsO.then ?_ (execGrantDrop_keeps _ _ _ _) rfl
    exact Keeps.refl _ _
  · refine KeepsO.then ?_ (execEmergencyPreempt_keeps _ _ _ _) rfl
    exact Keeps.refl _ _
  · refine KeepsO.then ?_ (execStarvation_keeps _ _ _ _) rfl
    exact Keeps.refl _ _
  · refine KeepsO.then ?_ (execClearStarve_keeps _ _ _ _ _) rfl
    exact Keeps.refl _ _
  · refine KeepsO.then ?_ (execReinSourceEvent_keeps _ _ _ _) rfl
    exact Keeps.refl _ _
  · refine KeepsO.then ?_ (execReinCycle_keeps _) rfl
    exact Keeps.refl _ _
  · refine KeepsO.then ?_ (execBuckleGlitchAccept_keeps _ _ _) rfl
    exact Keeps.refl _ _
  · refine KeepsO.then ?_ (execReinRateWindow_keeps _) rfl
    exact Keeps.refl _ _
  · refine KeepsO.then ?_ (execReinTrunkFire_keeps _ _ _) rfl
    exact Keeps.refl _ _
  · refine KeepsO.then ?_ (execGioInputEdge_keeps _ _ _) rfl
    exact Keeps.refl _ _
  · refine KeepsO.then ?_ (execTimetableTick_keeps _ _) rfl
    exact Keeps.refl _ _
  · refine KeepsO.then ?_ (execPtpSync_keeps _ _ _ _ _ _ _ _) rfl
    exact Keeps.refl _ _
  · refine KeepsO.then ?_ (execPtpFollowUp_keeps _ _ _ _ _ _) rfl
    exact Keeps.refl _ _
  · refine KeepsO.then ?_ (execPtpDelayReq_keeps _ _ _ _ _) rfl
    exact Keeps.refl _ _
  · refine KeepsO.then ?_ (execPtpDelayResp_keeps _ _ _ _ _ _) rfl
    exact Keeps.refl _ _
  · refine KeepsO.then ?_ (execPtpPdelayReq_keeps _ _ _ _ _) rfl
    exact Keeps.refl _ _
  · refine KeepsO.then ?_ (execPtpPdelayResp_keeps _ _ _ _ _ _ _) rfl
    exact Keeps.refl _ _
  · refine KeepsO.then ?_ (execPtpPdelayRespFollowUp_keeps _ _ _ _ _) rfl
    exact Keeps.refl _ _
  · refine KeepsO.then ?_ (execPtpAnnounce_keeps _ _ _ _ _ _ _ _ _ _ _) rfl
    exact Keeps.refl _ _
  · refine KeepsO.then ?_ (execPtpDiscardedMessage_keeps _) rfl
    exact Keeps.refl _ _
  · refine KeepsO.then ?_ (execPtpMasterSend_keeps _ _) rfl
    exact Keeps.refl _ _
  · refine KeepsO.then ?_ (execAnnounceTimeout_keeps _) rfl
    exact Keeps.refl _ _
  · refine KeepsO.then ?_ (execStepAccept_keeps _ _ _) rfl
    exact Keeps.refl _ _
  · refine KeepsO.then ?_ (execStepReject_keeps _ _ _) rfl
    exact Keeps.refl _ _
  · refine KeepsO.then ?_ (execTimeSet_keeps _ _ _) rfl
    exact Keeps.refl _ _
  · refine KeepsO.then ?_ (execCapture_keeps _ _ _) rfl
    exact Keeps.refl _ _
  · refine KeepsO.then ?_ (execLaunchPush_keeps _ _ _) rfl
    exact Keeps.refl _ _
  · refine KeepsO.then ?_ (execLaunchFlush_keeps _ _ _) rfl
    exact Keeps.refl _ _
  · refine KeepsO.then ?_ (execLaunchPrefetch_keeps _) rfl
    exact Keeps.refl _ _
  · refine KeepsO.then ?_ (execLaunchSend_keeps _ _) rfl
    exact Keeps.refl _ _
  · refine KeepsO.then ?_ (execAlarmFire_keeps _ _) rfl
    exact Keeps.refl _ _
  · refine KeepsO.then ?_ (execMarkerPredict_keeps _) rfl
    exact Keeps.refl _ _
  · refine KeepsO.then ?_ (execIrqEoi_keeps _ _ _) rfl
    exact Keeps.refl _ _
  · refine KeepsO.then ?_ (execMsixUnmask_keeps _ _) rfl
    exact Keeps.refl _ _
  · refine KeepsO.then ?_ (execOrRead_keeps _ _) rfl
    exact Keeps.refl _ _
  · refine KeepsO.then ?_ (execOrWrite_keeps _ _) rfl
    exact Keeps.refl _ _
  · refine KeepsO.then ?_ (execOrWriteFifo_keeps _ _) rfl
    exact Keeps.refl _ _
  · refine KeepsO.then ?_ (execOrResult_keeps _) rfl
    exact Keeps.refl _ _
  · refine KeepsO.then ?_ (execOrIdentify_keeps _ _) rfl
    exact Keeps.refl _ _
  · refine KeepsO.then ?_ (execStalledAccessResume_keeps _) rfl
    exact Keeps.refl _ _
  · refine KeepsO.then ?_ (execYokeRequest_keeps _ _ _) rfl
    exact Keeps.refl _ _
  · refine KeepsO.then ?_ (execYokeCheckDone_keeps _ _) rfl
    exact Keeps.refl _ _
  · refine KeepsO.then ?_ (execYokeRelease_keeps _ _) rfl
    exact Keeps.refl _ _
  · refine KeepsO.then ?_ (execYokeCancel_keeps _ _ _) rfl
    exact Keeps.refl _ _
  · refine KeepsO.then ?_ (execYokeDiscard_keeps _ _ _) rfl
    exact Keeps.refl _ _
  · refine KeepsO.then ?_ (execPostSlotWrite_keeps _ _ _ _ _) rfl
    exact Keeps.refl _ _
  · refine KeepsO.then ?_ (execPostSend_keeps _ _ _ _) rfl
    exact Keeps.refl _ _
  · refine KeepsO.then ?_ (execPostTake_keeps _ _ _ _) rfl
    exact Keeps.refl _ _
  · refine KeepsO.then ?_ (execPostAbort_keeps _ _ _ _) rfl
    exact Keeps.refl _ _
  · refine KeepsO.then ?_ (execPostClaimLapse_keeps _ _) rfl
    exact Keeps.refl _ _
  · refine KeepsO.then ?_ (execPostTimeout_keeps _ _) rfl
    exact Keeps.refl _ _
  · refine KeepsO.then ?_ (execHornRing_keeps _ _ _ _) rfl
    exact Keeps.refl _ _
  · refine KeepsO.then ?_ (execHornClear_keeps _ _ _ _) rfl
    exact Keeps.refl _ _
  · refine KeepsO.then ?_ (execIdentity_keeps _) rfl
    exact Keeps.refl _ _
  · refine KeepsO.then ?_ (execFaultRead_keeps _) rfl
    exact Keeps.refl _ _
  · refine KeepsO.then ?_ (execFaultClear_keeps _) rfl
    exact Keeps.refl _ _
  · refine KeepsO.then ?_ (execTemps_keeps _) rfl
    exact Keeps.refl _ _
  · refine KeepsO.then ?_ (execWwtServiceRun_keeps _) rfl
    exact Keeps.refl _ _
  · refine KeepsO.then ?_ (execWwtServiceState_keeps _) rfl
    exact Keeps.refl _ _
  · refine KeepsO.then ?_ (execRecordRead_keeps _) rfl
    exact Keeps.refl _ _
  · refine KeepsO.then ?_ (execLinchpinAcquire_keeps _ _ _) rfl
    exact Keeps.refl _ _
  · refine KeepsO.then ?_ (execLinchpinRelease_keeps _ _ _ _) rfl
    exact Keeps.refl _ _
  · refine KeepsO.then ?_ (execLinchpinForce_keeps _ _ _ _) rfl
    exact Keeps.refl _ _
  · refine KeepsO.then ?_ (execLinchpinBreak_keeps _ _) rfl
    exact Keeps.refl _ _
  · refine KeepsO.then ?_ (execLinchpinLeaseExpire_keeps _) rfl
    exact Keeps.refl _ _
  · refine KeepsO.then ?_ (execPcieReset_keeps _ _) rfl
    exact Keeps.refl _ _
  · refine KeepsO.then ?_ (execPciePerst_keeps _) rfl
    exact Keeps.refl _ _
  · refine KeepsO.then ?_ (execSleepRequest_keeps _ _ _) rfl
    exact Keeps.refl _ _
  · refine KeepsO.then ?_ (execSleepDrainDone_keeps _) rfl
    exact Keeps.refl _ _
  · refine KeepsO.then ?_ (execSleepDrayageDone_keeps _) rfl
    exact Keeps.refl _ _
  · refine KeepsO.then ?_ (execSleepClocksStopped_keeps _) rfl
    exact Keeps.refl _ _
  · refine KeepsO.then ?_ (execWakeEvent_keeps _ _ _) rfl
    exact Keeps.refl _ _
  · refine KeepsO.then ?_ (execWakeCommand_keeps _ _ _) rfl
    exact Keeps.refl _ _
  · refine KeepsO.then ?_ (execWakeComplete_keeps _ _) rfl
    exact Keeps.refl _ _
  · refine KeepsO.then ?_ (execBootContinue_keeps _ _ _) rfl
    exact Keeps.refl _ _
  · refine KeepsO.then ?_ (execPowerOnReset_keeps _ _ _) rfl
    exact Keeps.refl _ _
  · refine KeepsO.then ?_ (execStartupStageComplete_keeps _ _ _ _ _) rfl
    exact Keeps.refl _ _
  · refine KeepsO.then ?_ (execResetPin_keeps _ _) rfl
    exact Keeps.refl _ _
  · refine KeepsO.then ?_ (execCoachReset_keeps _ _ _) rfl
    exact Keeps.refl _ _
  · refine KeepsO.then ?_ (execCoachResetReady_keeps _ _ _ _ _) rfl
    exact Keeps.refl _ _
  · refine KeepsO.then ?_ (execCoachmanWatchdog_keeps _ _ _) rfl
    exact Keeps.refl _ _
  · refine KeepsO.then ?_ (execTempSensorUpdate_keeps _ _ _) rfl
    exact Keeps.refl _ _
  · refine KeepsO.then ?_ (execWwtTimer_keeps _ _ _ _) rfl
    exact Keeps.refl _ _
  · refine KeepsO.then ?_ (execWwtRun_keeps _ _ _ _) rfl
    exact Keeps.refl _ _
  · refine KeepsO.then ?_ (execClearUnsettled_keeps _ _ _ _) rfl
    exact Keeps.refl _ _
  · refine KeepsO.then ?_ (execLaneRunComplete_keeps _ _ _ _) rfl
    exact Keeps.refl _ _
  · refine KeepsO.then ?_ (execGainRunComplete_keeps _ _) rfl
    exact Keeps.refl _ _
  · refine KeepsO.then ?_ (execTsenRunComplete_keeps _ _ _ _) rfl
    exact Keeps.refl _ _
  · refine KeepsO.then ?_ (execPllUnlock_keeps _ _ _) rfl
    exact Keeps.refl _ _
  · refine KeepsO.then ?_ (execReferenceLoss_keeps _ _) rfl
    exact Keeps.refl _ _
  · refine KeepsO.then ?_ (execPairHello_keeps _ _ _ _ _) rfl
    exact Keeps.refl _ _
  · refine KeepsO.then ?_ (execPairJoinTimeout_keeps _) rfl
    exact Keeps.refl _ _
  · refine KeepsO.then ?_ (execPairHoldConflict_keeps _) rfl
    exact Keeps.refl _ _
  · refine KeepsO.then ?_ (execHeartbeat_keeps _ _ _ _ _ _ _) rfl
    exact Keeps.refl _ _
  · refine KeepsO.then ?_ (execHeartbeatSend_keeps _) rfl
    exact Keeps.refl _ _
  · refine KeepsO.then ?_ (execHeartbeatMissed_keeps _) rfl
    exact Keeps.refl _ _
  · refine KeepsO.then ?_ (execMirrorTrigger_keeps _ _ _ _ _ _ _) rfl
    exact Keeps.refl _ _
  · refine KeepsO.then ?_ (execMirrorEpoch_keeps _ _ _ _ _) rfl
    exact Keeps.refl _ _
  · refine KeepsO.then ?_ (execMirrorYoke_keeps _ _ _ _ _ _ _ _) rfl
    exact Keeps.refl _ _
  · refine KeepsO.then ?_ (execYokeResult_keeps _ _ _) rfl
    exact Keeps.refl _ _
  · refine KeepsO.then ?_ (execYokeApply_keeps _ _ _) rfl
    exact Keeps.refl _ _
  · refine KeepsO.then ?_ (execRecords_keeps _ _ _) rfl
    exact Keeps.refl _ _
  · refine KeepsO.then ?_ (execRecordsHeld_keeps _ _) rfl
    exact Keeps.refl _ _
  · refine KeepsO.then ?_ (execMirrorAck_keeps _ _) rfl
    exact Keeps.refl _ _
  · refine KeepsO.then ?_ (execDigest_keeps _ _ _ _) rfl
    exact Keeps.refl _ _
  · refine KeepsO.then ?_ (execDigestTimeout_keeps _ _) rfl
    exact Keeps.refl _ _
  · refine KeepsO.then ?_ (execResyncRequest_keeps _ _) rfl
    exact Keeps.refl _ _
  · refine KeepsO.then ?_ (execMirrorState_keeps _ _ _) rfl
    exact Keeps.refl _ _
  · refine KeepsO.then ?_ (execResyncSwitchBack_keeps _) rfl
    exact Keeps.refl _ _
  · refine KeepsO.then ?_ (execResyncDone_keeps _ _) rfl
    exact Keeps.refl _ _
  · refine KeepsO.then ?_ (execResyncTimeout_keeps _) rfl
    exact Keeps.refl _ _
  · refine KeepsO.then ?_ (execCalib_keeps _ _ _) rfl
    exact Keeps.refl _ _
  · refine KeepsO.then ?_ (execMirrorTime_keeps _ _) rfl
    exact Keeps.refl _ _
  · refine KeepsO.then ?_ (execSwitchoverControl_keeps _ _) rfl
    exact Keeps.refl _ _
  · refine KeepsO.then ?_ (execHoldInputLow_keeps _) rfl
    exact Keeps.refl _ _
  · refine KeepsO.then ?_ (execSwitchover_keeps _ _ _) rfl
    exact Keeps.refl _ _
  · refine KeepsO.then ?_ (execDetach_keeps _ _ _) rfl
    exact Keeps.refl _ _
  · refine KeepsO.then ?_ (execRejoin_keeps _ _ _) rfl
    exact Keeps.refl _ _
  · refine KeepsO.then ?_ (execRingHello_keeps _ _ _) rfl
    exact Keeps.refl _ _
  · refine KeepsO.then ?_ (execRingHelloSend_keeps _) rfl
    exact Keeps.refl _ _
  · refine KeepsO.then ?_ (execRingPartialSet_keeps _ _ _ _) rfl
    exact Keeps.refl _ _
  · refine KeepsO.then ?_ (execRingNeighbourLost_keeps _ _) rfl
    exact Keeps.refl _ _
  · refine KeepsO.then ?_ (execPowerLoss_keeps _) rfl
    exact Keeps.refl _ _
  · refine KeepsO.then ?_ (execRstnRise_keeps _) rfl
    exact Keeps.refl _ _
  · refine KeepsO.then ?_ (execReferenceReturn_keeps _ _) rfl
    exact Keeps.refl _ _
  · refine KeepsO.then ?_ (execFunctionDStateChange_keeps _ _) rfl
    exact Keeps.refl _ _
  · refine KeepsO.then ?_ (execControlSleepRequest_keeps _ _) rfl
    exact Keeps.refl _ _
  · refine KeepsO.then ?_ (execFilterRejectedPulse_keeps _ _ _) rfl
    exact Keeps.refl _ _
  · refine KeepsO.then ?_ (execPtpDelayReqSend_keeps _ _) rfl
    exact Keeps.refl _ _

end Sys2Proof.Machine
end

