-- ==== Sys2Proof/Laws/KeepsHarnessCheck.lean ====
section
/-! SUPPORT. Frames of the operations of Machine/HarnessCheck.lean: what each may change, one lemma each. -/

namespace Sys2Proof.Machine

theorem State.wouldBe_keeps (s : State) (im : Image) : Keeps 0xFFFFFFFF0000000300410178 s (State.wouldBe s im) := by
  unfold State.wouldBe
  refine Keeps.ite ?_ ?_
  · extract_lets +onlyGivenNames -merge -useContext x__src
    have keeps_x__src : Keeps 0xFFFFFFFF0000000300410178 s x__src := by
      unfold x__src
      refine Keeps.then ?_ (State.placed_keeps _ _) rfl
      exact Keeps.refl _ _
    refine Keeps.set_tru_rga ?_ rfl
    exact keeps_x__src
  · extract_lets +onlyGivenNames -merge -useContext v
    have keeps_v : Keeps 0xFFFFFFFF0000000300410178 s v := by
      unfold v
      refine Keeps.then ?_ (State.placedPatch_keeps _ _) rfl
      exact Keeps.refl _ _
    refine Keeps.set_tru_rga ?_ rfl
    exact keeps_v

end Sys2Proof.Machine
end

