-- ==== Sys2Proof/Laws/KeepsStep.lean ====
section
/-! SUPPORT. Frames of the operations of Machine/Step.lean: what each may change, one lemma each. -/

namespace Sys2Proof.Machine

theorem State.withFetchWord_keeps (s : State) (nbits : Nat) (w : Nat) : Keeps 0x1 s (State.withFetchWord s nbits w) := by
  unfold State.withFetchWord
  split
  · refine Keeps.set_pending ?_ rfl
    exact Keeps.refl _ _
  · exact Keeps.refl _ _

theorem step_keeps (s : State) : KeepsO 0xFFFFFFFF000FFFFFFFFFFFFF s (step s) := by
  unfold step
  split
  · refine KeepsO.next ?_
    exact Keeps.refl _ _
  · refine KeepsO.then ?_ (exec_keeps _ _) rfl
    refine Keeps.set_pending ?_ rfl
    exact Keeps.refl _ _

end Sys2Proof.Machine
end

