-- ==== Sys2Proof/Laws/State.lean ====
section
/-! SUPPORT. What the basic updates of State leave alone: one lemma for each field. -/

namespace Sys2Proof.Machine

@[simp] theorem State.setWord_pending (s : State) (b : Blk) (i o : Nat) (w : Word) : (s.setWord b i o w).pending = s.pending := rfl
@[simp] theorem State.setWord_freeCtr (s : State) (b : Blk) (i o : Nat) (w : Word) : (s.setWord b i o w).freeCtr = s.freeCtr := rfl
@[simp] theorem State.setWord_hw (s : State) (b : Blk) (i o : Nat) (w : Word) : (s.setWord b i o w).hw = s.hw := rfl
@[simp] theorem State.setWord_staged (s : State) (b : Blk) (i o : Nat) (w : Word) : (s.setWord b i o w).staged = s.staged := rfl
@[simp] theorem State.setWord_stager (s : State) (b : Blk) (i o : Nat) (w : Word) : (s.setWord b i o w).stager = s.stager := rfl
@[simp] theorem State.setWord_ydef (s : State) (b : Blk) (i o : Nat) (w : Word) : (s.setWord b i o w).ydef = s.ydef := rfl
@[simp] theorem State.setWord_latch (s : State) (b : Blk) (i o : Nat) (w : Word) : (s.setWord b i o w).latch = s.latch := rfl
@[simp] theorem State.setWord_dir (s : State) (b : Blk) (i o : Nat) (w : Word) : (s.setWord b i o w).dir = s.dir := rfl
@[simp] theorem State.setWord_irq (s : State) (b : Blk) (i o : Nat) (w : Word) : (s.setWord b i o w).irq = s.irq := rfl
@[simp] theorem State.setWord_egress (s : State) (b : Blk) (i o : Nat) (w : Word) : (s.setWord b i o w).egress = s.egress := rfl
@[simp] theorem State.setWord_out (s : State) (b : Blk) (i o : Nat) (w : Word) : (s.setWord b i o w).out = s.out := rfl
@[simp] theorem State.setWord_stalled (s : State) (b : Blk) (i o : Nat) (w : Word) : (s.setWord b i o w).stalled = s.stalled := rfl
@[simp] theorem State.setWord_replies (s : State) (b : Blk) (i o : Nat) (w : Word) : (s.setWord b i o w).replies = s.replies := rfl
@[simp] theorem State.setWord_postSeq (s : State) (b : Blk) (i o : Nat) (w : Word) : (s.setWord b i o w).postSeq = s.postSeq := rfl
@[simp] theorem State.setWord_pwr (s : State) (b : Blk) (i o : Nat) (w : Word) : (s.setWord b i o w).pwr = s.pwr := rfl
@[simp] theorem State.setWord_hdr (s : State) (b : Blk) (i o : Nat) (w : Word) : (s.setWord b i o w).hdr = s.hdr := rfl
@[simp] theorem State.setWord_keys (s : State) (b : Blk) (i o : Nat) (w : Word) : (s.setWord b i o w).keys = s.keys := rfl
@[simp] theorem State.setWord_store (s : State) (b : Blk) (i o : Nat) (w : Word) : (s.setWord b i o w).store = s.store := rfl
@[simp] theorem State.setWord_wwt (s : State) (b : Blk) (i o : Nat) (w : Word) : (s.setWord b i o w).wwt = s.wwt := rfl
@[simp] theorem State.setWord_rein (s : State) (b : Blk) (i o : Nat) (w : Word) : (s.setWord b i o w).rein = s.rein := rfl
@[simp] theorem State.setWord_yoke (s : State) (b : Blk) (i o : Nat) (w : Word) : (s.setWord b i o w).yoke = s.yoke := rfl
@[simp] theorem State.setWord_tmt (s : State) (b : Blk) (i o : Nat) (w : Word) : (s.setWord b i o w).tmt = s.tmt := rfl
@[simp] theorem State.setWord_way (s : State) (b : Blk) (i o : Nat) (w : Word) : (s.setWord b i o w).way = s.way := rfl
@[simp] theorem State.setWord_mem (s : State) (b : Blk) (i o : Nat) (w : Word) : (s.setWord b i o w).mem = s.mem := rfl
@[simp] theorem State.setWord_poison (s : State) (b : Blk) (i o : Nat) (w : Word) : (s.setWord b i o w).poison = s.poison := rfl
@[simp] theorem State.setWord_stale (s : State) (b : Blk) (i o : Nat) (w : Word) : (s.setWord b i o w).stale = s.stale := rfl
@[simp] theorem State.setWord_dmc (s : State) (b : Blk) (i o : Nat) (w : Word) : (s.setWord b i o w).dmc = s.dmc := rfl
@[simp] theorem State.setWord_dry (s : State) (b : Blk) (i o : Nat) (w : Word) : (s.setWord b i o w).dry = s.dry := rfl
@[simp] theorem State.setWord_wht (s : State) (b : Blk) (i o : Nat) (w : Word) : (s.setWord b i o w).wht = s.wht := rfl
@[simp] theorem State.setWord_mews (s : State) (b : Blk) (i o : Nat) (w : Word) : (s.setWord b i o w).mews = s.mews := rfl
@[simp] theorem State.setWord_ing (s : State) (b : Blk) (i o : Nat) (w : Word) : (s.setWord b i o w).ing = s.ing := rfl
@[simp] theorem State.setWord_sta (s : State) (b : Blk) (i o : Nat) (w : Word) : (s.setWord b i o w).sta = s.sta := rfl
@[simp] theorem State.setWord_tru (s : State) (b : Blk) (i o : Nat) (w : Word) : (s.setWord b i o w).tru = s.tru := rfl
@[simp] theorem State.setWord_rga (s : State) (b : Blk) (i o : Nat) (w : Word) : (s.setWord b i o w).rga = s.rga := rfl
@[simp] theorem State.setWord_seam (s : State) (b : Blk) (i o : Nat) (w : Word) : (s.setWord b i o w).seam = s.seam := rfl
@[simp] theorem State.setWord_gain (s : State) (b : Blk) (i o : Nat) (w : Word) : (s.setWord b i o w).gain = s.gain := rfl
@[simp] theorem State.setWord_seamFix (s : State) (b : Blk) (i o : Nat) (w : Word) : (s.setWord b i o w).seamFix = s.seamFix := rfl
@[simp] theorem State.setWord_spr (s : State) (b : Blk) (i o : Nat) (w : Word) : (s.setWord b i o w).spr = s.spr := rfl
@[simp] theorem State.setWord_seg (s : State) (b : Blk) (i o : Nat) (w : Word) : (s.setWord b i o w).seg = s.seg := rfl
@[simp] theorem State.setWord_hist (s : State) (b : Blk) (i o : Nat) (w : Word) : (s.setWord b i o w).hist = s.hist := rfl
@[simp] theorem State.setWord_lbl (s : State) (b : Blk) (i o : Nat) (w : Word) : (s.setWord b i o w).lbl = s.lbl := rfl
@[simp] theorem State.setWord_dbm (s : State) (b : Blk) (i o : Nat) (w : Word) : (s.setWord b i o w).dbm = s.dbm := rfl
@[simp] theorem State.setWord_pat (s : State) (b : Blk) (i o : Nat) (w : Word) : (s.setWord b i o w).pat = s.pat := rfl
@[simp] theorem State.setWord_tapLost (s : State) (b : Blk) (i o : Nat) (w : Word) : (s.setWord b i o w).tapLost = s.tapLost := rfl
@[simp] theorem State.setWord_lanes (s : State) (b : Blk) (i o : Nat) (w : Word) : (s.setWord b i o w).lanes = s.lanes := rfl
@[simp] theorem State.setWord_conns (s : State) (b : Blk) (i o : Nat) (w : Word) : (s.setWord b i o w).conns = s.conns := rfl
@[simp] theorem State.setWord_arc (s : State) (b : Blk) (i o : Nat) (w : Word) : (s.setWord b i o w).arc = s.arc := rfl
@[simp] theorem State.setWord_jobs (s : State) (b : Blk) (i o : Nat) (w : Word) : (s.setWord b i o w).jobs = s.jobs := rfl
@[simp] theorem State.setWord_pvw (s : State) (b : Blk) (i o : Nat) (w : Word) : (s.setWord b i o w).pvw = s.pvw := rfl
@[simp] theorem State.setWord_pair (s : State) (b : Blk) (i o : Nat) (w : Word) : (s.setWord b i o w).pair = s.pair := rfl
@[simp] theorem State.setWord_ring (s : State) (b : Blk) (i o : Nat) (w : Word) : (s.setWord b i o w).ring = s.ring := rfl

@[simp] theorem State.wf_pending (s : State) (i : Nat) (f : Fld) (v : Nat) : (s.wf i f v).pending = s.pending := rfl
@[simp] theorem State.wf_freeCtr (s : State) (i : Nat) (f : Fld) (v : Nat) : (s.wf i f v).freeCtr = s.freeCtr := rfl
@[simp] theorem State.wf_hw (s : State) (i : Nat) (f : Fld) (v : Nat) : (s.wf i f v).hw = s.hw := rfl
@[simp] theorem State.wf_staged (s : State) (i : Nat) (f : Fld) (v : Nat) : (s.wf i f v).staged = s.staged := rfl
@[simp] theorem State.wf_stager (s : State) (i : Nat) (f : Fld) (v : Nat) : (s.wf i f v).stager = s.stager := rfl
@[simp] theorem State.wf_ydef (s : State) (i : Nat) (f : Fld) (v : Nat) : (s.wf i f v).ydef = s.ydef := rfl
@[simp] theorem State.wf_latch (s : State) (i : Nat) (f : Fld) (v : Nat) : (s.wf i f v).latch = s.latch := rfl
@[simp] theorem State.wf_dir (s : State) (i : Nat) (f : Fld) (v : Nat) : (s.wf i f v).dir = s.dir := rfl
@[simp] theorem State.wf_irq (s : State) (i : Nat) (f : Fld) (v : Nat) : (s.wf i f v).irq = s.irq := rfl
@[simp] theorem State.wf_egress (s : State) (i : Nat) (f : Fld) (v : Nat) : (s.wf i f v).egress = s.egress := rfl
@[simp] theorem State.wf_out (s : State) (i : Nat) (f : Fld) (v : Nat) : (s.wf i f v).out = s.out := rfl
@[simp] theorem State.wf_stalled (s : State) (i : Nat) (f : Fld) (v : Nat) : (s.wf i f v).stalled = s.stalled := rfl
@[simp] theorem State.wf_replies (s : State) (i : Nat) (f : Fld) (v : Nat) : (s.wf i f v).replies = s.replies := rfl
@[simp] theorem State.wf_postSeq (s : State) (i : Nat) (f : Fld) (v : Nat) : (s.wf i f v).postSeq = s.postSeq := rfl
@[simp] theorem State.wf_pwr (s : State) (i : Nat) (f : Fld) (v : Nat) : (s.wf i f v).pwr = s.pwr := rfl
@[simp] theorem State.wf_hdr (s : State) (i : Nat) (f : Fld) (v : Nat) : (s.wf i f v).hdr = s.hdr := rfl
@[simp] theorem State.wf_keys (s : State) (i : Nat) (f : Fld) (v : Nat) : (s.wf i f v).keys = s.keys := rfl
@[simp] theorem State.wf_store (s : State) (i : Nat) (f : Fld) (v : Nat) : (s.wf i f v).store = s.store := rfl
@[simp] theorem State.wf_wwt (s : State) (i : Nat) (f : Fld) (v : Nat) : (s.wf i f v).wwt = s.wwt := rfl
@[simp] theorem State.wf_rein (s : State) (i : Nat) (f : Fld) (v : Nat) : (s.wf i f v).rein = s.rein := rfl
@[simp] theorem State.wf_yoke (s : State) (i : Nat) (f : Fld) (v : Nat) : (s.wf i f v).yoke = s.yoke := rfl
@[simp] theorem State.wf_tmt (s : State) (i : Nat) (f : Fld) (v : Nat) : (s.wf i f v).tmt = s.tmt := rfl
@[simp] theorem State.wf_way (s : State) (i : Nat) (f : Fld) (v : Nat) : (s.wf i f v).way = s.way := rfl
@[simp] theorem State.wf_mem (s : State) (i : Nat) (f : Fld) (v : Nat) : (s.wf i f v).mem = s.mem := rfl
@[simp] theorem State.wf_poison (s : State) (i : Nat) (f : Fld) (v : Nat) : (s.wf i f v).poison = s.poison := rfl
@[simp] theorem State.wf_stale (s : State) (i : Nat) (f : Fld) (v : Nat) : (s.wf i f v).stale = s.stale := rfl
@[simp] theorem State.wf_dmc (s : State) (i : Nat) (f : Fld) (v : Nat) : (s.wf i f v).dmc = s.dmc := rfl
@[simp] theorem State.wf_dry (s : State) (i : Nat) (f : Fld) (v : Nat) : (s.wf i f v).dry = s.dry := rfl
@[simp] theorem State.wf_wht (s : State) (i : Nat) (f : Fld) (v : Nat) : (s.wf i f v).wht = s.wht := rfl
@[simp] theorem State.wf_mews (s : State) (i : Nat) (f : Fld) (v : Nat) : (s.wf i f v).mews = s.mews := rfl
@[simp] theorem State.wf_ing (s : State) (i : Nat) (f : Fld) (v : Nat) : (s.wf i f v).ing = s.ing := rfl
@[simp] theorem State.wf_sta (s : State) (i : Nat) (f : Fld) (v : Nat) : (s.wf i f v).sta = s.sta := rfl
@[simp] theorem State.wf_tru (s : State) (i : Nat) (f : Fld) (v : Nat) : (s.wf i f v).tru = s.tru := rfl
@[simp] theorem State.wf_rga (s : State) (i : Nat) (f : Fld) (v : Nat) : (s.wf i f v).rga = s.rga := rfl
@[simp] theorem State.wf_seam (s : State) (i : Nat) (f : Fld) (v : Nat) : (s.wf i f v).seam = s.seam := rfl
@[simp] theorem State.wf_gain (s : State) (i : Nat) (f : Fld) (v : Nat) : (s.wf i f v).gain = s.gain := rfl
@[simp] theorem State.wf_seamFix (s : State) (i : Nat) (f : Fld) (v : Nat) : (s.wf i f v).seamFix = s.seamFix := rfl
@[simp] theorem State.wf_spr (s : State) (i : Nat) (f : Fld) (v : Nat) : (s.wf i f v).spr = s.spr := rfl
@[simp] theorem State.wf_seg (s : State) (i : Nat) (f : Fld) (v : Nat) : (s.wf i f v).seg = s.seg := rfl
@[simp] theorem State.wf_hist (s : State) (i : Nat) (f : Fld) (v : Nat) : (s.wf i f v).hist = s.hist := rfl
@[simp] theorem State.wf_lbl (s : State) (i : Nat) (f : Fld) (v : Nat) : (s.wf i f v).lbl = s.lbl := rfl
@[simp] theorem State.wf_dbm (s : State) (i : Nat) (f : Fld) (v : Nat) : (s.wf i f v).dbm = s.dbm := rfl
@[simp] theorem State.wf_pat (s : State) (i : Nat) (f : Fld) (v : Nat) : (s.wf i f v).pat = s.pat := rfl
@[simp] theorem State.wf_tapLost (s : State) (i : Nat) (f : Fld) (v : Nat) : (s.wf i f v).tapLost = s.tapLost := rfl
@[simp] theorem State.wf_lanes (s : State) (i : Nat) (f : Fld) (v : Nat) : (s.wf i f v).lanes = s.lanes := rfl
@[simp] theorem State.wf_conns (s : State) (i : Nat) (f : Fld) (v : Nat) : (s.wf i f v).conns = s.conns := rfl
@[simp] theorem State.wf_arc (s : State) (i : Nat) (f : Fld) (v : Nat) : (s.wf i f v).arc = s.arc := rfl
@[simp] theorem State.wf_jobs (s : State) (i : Nat) (f : Fld) (v : Nat) : (s.wf i f v).jobs = s.jobs := rfl
@[simp] theorem State.wf_pvw (s : State) (i : Nat) (f : Fld) (v : Nat) : (s.wf i f v).pvw = s.pvw := rfl
@[simp] theorem State.wf_pair (s : State) (i : Nat) (f : Fld) (v : Nat) : (s.wf i f v).pair = s.pair := rfl
@[simp] theorem State.wf_ring (s : State) (i : Nat) (f : Fld) (v : Nat) : (s.wf i f v).ring = s.ring := rfl

@[simp] theorem State.wf64_pending (s : State) (i : Nat) (f : Fld) (v : Nat) : (s.wf64 i f v).pending = s.pending := rfl
@[simp] theorem State.wf64_freeCtr (s : State) (i : Nat) (f : Fld) (v : Nat) : (s.wf64 i f v).freeCtr = s.freeCtr := rfl
@[simp] theorem State.wf64_hw (s : State) (i : Nat) (f : Fld) (v : Nat) : (s.wf64 i f v).hw = s.hw := rfl
@[simp] theorem State.wf64_staged (s : State) (i : Nat) (f : Fld) (v : Nat) : (s.wf64 i f v).staged = s.staged := rfl
@[simp] theorem State.wf64_stager (s : State) (i : Nat) (f : Fld) (v : Nat) : (s.wf64 i f v).stager = s.stager := rfl
@[simp] theorem State.wf64_ydef (s : State) (i : Nat) (f : Fld) (v : Nat) : (s.wf64 i f v).ydef = s.ydef := rfl
@[simp] theorem State.wf64_latch (s : State) (i : Nat) (f : Fld) (v : Nat) : (s.wf64 i f v).latch = s.latch := rfl
@[simp] theorem State.wf64_dir (s : State) (i : Nat) (f : Fld) (v : Nat) : (s.wf64 i f v).dir = s.dir := rfl
@[simp] theorem State.wf64_irq (s : State) (i : Nat) (f : Fld) (v : Nat) : (s.wf64 i f v).irq = s.irq := rfl
@[simp] theorem State.wf64_egress (s : State) (i : Nat) (f : Fld) (v : Nat) : (s.wf64 i f v).egress = s.egress := rfl
@[simp] theorem State.wf64_out (s : State) (i : Nat) (f : Fld) (v : Nat) : (s.wf64 i f v).out = s.out := rfl
@[simp] theorem State.wf64_stalled (s : State) (i : Nat) (f : Fld) (v : Nat) : (s.wf64 i f v).stalled = s.stalled := rfl
@[simp] theorem State.wf64_replies (s : State) (i : Nat) (f : Fld) (v : Nat) : (s.wf64 i f v).replies = s.replies := rfl
@[simp] theorem State.wf64_postSeq (s : State) (i : Nat) (f : Fld) (v : Nat) : (s.wf64 i f v).postSeq = s.postSeq := rfl
@[simp] theorem State.wf64_pwr (s : State) (i : Nat) (f : Fld) (v : Nat) : (s.wf64 i f v).pwr = s.pwr := rfl
@[simp] theorem State.wf64_hdr (s : State) (i : Nat) (f : Fld) (v : Nat) : (s.wf64 i f v).hdr = s.hdr := rfl
@[simp] theorem State.wf64_keys (s : State) (i : Nat) (f : Fld) (v : Nat) : (s.wf64 i f v).keys = s.keys := rfl
@[simp] theorem State.wf64_store (s : State) (i : Nat) (f : Fld) (v : Nat) : (s.wf64 i f v).store = s.store := rfl
@[simp] theorem State.wf64_wwt (s : State) (i : Nat) (f : Fld) (v : Nat) : (s.wf64 i f v).wwt = s.wwt := rfl
@[simp] theorem State.wf64_rein (s : State) (i : Nat) (f : Fld) (v : Nat) : (s.wf64 i f v).rein = s.rein := rfl
@[simp] theorem State.wf64_yoke (s : State) (i : Nat) (f : Fld) (v : Nat) : (s.wf64 i f v).yoke = s.yoke := rfl
@[simp] theorem State.wf64_tmt (s : State) (i : Nat) (f : Fld) (v : Nat) : (s.wf64 i f v).tmt = s.tmt := rfl
@[simp] theorem State.wf64_way (s : State) (i : Nat) (f : Fld) (v : Nat) : (s.wf64 i f v).way = s.way := rfl
@[simp] theorem State.wf64_mem (s : State) (i : Nat) (f : Fld) (v : Nat) : (s.wf64 i f v).mem = s.mem := rfl
@[simp] theorem State.wf64_poison (s : State) (i : Nat) (f : Fld) (v : Nat) : (s.wf64 i f v).poison = s.poison := rfl
@[simp] theorem State.wf64_stale (s : State) (i : Nat) (f : Fld) (v : Nat) : (s.wf64 i f v).stale = s.stale := rfl
@[simp] theorem State.wf64_dmc (s : State) (i : Nat) (f : Fld) (v : Nat) : (s.wf64 i f v).dmc = s.dmc := rfl
@[simp] theorem State.wf64_dry (s : State) (i : Nat) (f : Fld) (v : Nat) : (s.wf64 i f v).dry = s.dry := rfl
@[simp] theorem State.wf64_wht (s : State) (i : Nat) (f : Fld) (v : Nat) : (s.wf64 i f v).wht = s.wht := rfl
@[simp] theorem State.wf64_mews (s : State) (i : Nat) (f : Fld) (v : Nat) : (s.wf64 i f v).mews = s.mews := rfl
@[simp] theorem State.wf64_ing (s : State) (i : Nat) (f : Fld) (v : Nat) : (s.wf64 i f v).ing = s.ing := rfl
@[simp] theorem State.wf64_sta (s : State) (i : Nat) (f : Fld) (v : Nat) : (s.wf64 i f v).sta = s.sta := rfl
@[simp] theorem State.wf64_tru (s : State) (i : Nat) (f : Fld) (v : Nat) : (s.wf64 i f v).tru = s.tru := rfl
@[simp] theorem State.wf64_rga (s : State) (i : Nat) (f : Fld) (v : Nat) : (s.wf64 i f v).rga = s.rga := rfl
@[simp] theorem State.wf64_seam (s : State) (i : Nat) (f : Fld) (v : Nat) : (s.wf64 i f v).seam = s.seam := rfl
@[simp] theorem State.wf64_gain (s : State) (i : Nat) (f : Fld) (v : Nat) : (s.wf64 i f v).gain = s.gain := rfl
@[simp] theorem State.wf64_seamFix (s : State) (i : Nat) (f : Fld) (v : Nat) : (s.wf64 i f v).seamFix = s.seamFix := rfl
@[simp] theorem State.wf64_spr (s : State) (i : Nat) (f : Fld) (v : Nat) : (s.wf64 i f v).spr = s.spr := rfl
@[simp] theorem State.wf64_seg (s : State) (i : Nat) (f : Fld) (v : Nat) : (s.wf64 i f v).seg = s.seg := rfl
@[simp] theorem State.wf64_hist (s : State) (i : Nat) (f : Fld) (v : Nat) : (s.wf64 i f v).hist = s.hist := rfl
@[simp] theorem State.wf64_lbl (s : State) (i : Nat) (f : Fld) (v : Nat) : (s.wf64 i f v).lbl = s.lbl := rfl
@[simp] theorem State.wf64_dbm (s : State) (i : Nat) (f : Fld) (v : Nat) : (s.wf64 i f v).dbm = s.dbm := rfl
@[simp] theorem State.wf64_pat (s : State) (i : Nat) (f : Fld) (v : Nat) : (s.wf64 i f v).pat = s.pat := rfl
@[simp] theorem State.wf64_tapLost (s : State) (i : Nat) (f : Fld) (v : Nat) : (s.wf64 i f v).tapLost = s.tapLost := rfl
@[simp] theorem State.wf64_lanes (s : State) (i : Nat) (f : Fld) (v : Nat) : (s.wf64 i f v).lanes = s.lanes := rfl
@[simp] theorem State.wf64_conns (s : State) (i : Nat) (f : Fld) (v : Nat) : (s.wf64 i f v).conns = s.conns := rfl
@[simp] theorem State.wf64_arc (s : State) (i : Nat) (f : Fld) (v : Nat) : (s.wf64 i f v).arc = s.arc := rfl
@[simp] theorem State.wf64_jobs (s : State) (i : Nat) (f : Fld) (v : Nat) : (s.wf64 i f v).jobs = s.jobs := rfl
@[simp] theorem State.wf64_pvw (s : State) (i : Nat) (f : Fld) (v : Nat) : (s.wf64 i f v).pvw = s.pvw := rfl
@[simp] theorem State.wf64_pair (s : State) (i : Nat) (f : Fld) (v : Nat) : (s.wf64 i f v).pair = s.pair := rfl
@[simp] theorem State.wf64_ring (s : State) (i : Nat) (f : Fld) (v : Nat) : (s.wf64 i f v).ring = s.ring := rfl

@[simp] theorem State.wsf_pending (s : State) (i : Nat) (f : Fld) (v : Nat) : (s.wsf i f v).pending = s.pending := rfl
@[simp] theorem State.wsf_freeCtr (s : State) (i : Nat) (f : Fld) (v : Nat) : (s.wsf i f v).freeCtr = s.freeCtr := rfl
@[simp] theorem State.wsf_hw (s : State) (i : Nat) (f : Fld) (v : Nat) : (s.wsf i f v).hw = s.hw := rfl
@[simp] theorem State.wsf_regs (s : State) (i : Nat) (f : Fld) (v : Nat) : (s.wsf i f v).regs = s.regs := rfl
@[simp] theorem State.wsf_stager (s : State) (i : Nat) (f : Fld) (v : Nat) : (s.wsf i f v).stager = s.stager := rfl
@[simp] theorem State.wsf_ydef (s : State) (i : Nat) (f : Fld) (v : Nat) : (s.wsf i f v).ydef = s.ydef := rfl
@[simp] theorem State.wsf_latch (s : State) (i : Nat) (f : Fld) (v : Nat) : (s.wsf i f v).latch = s.latch := rfl
@[simp] theorem State.wsf_dir (s : State) (i : Nat) (f : Fld) (v : Nat) : (s.wsf i f v).dir = s.dir := rfl
@[simp] theorem State.wsf_irq (s : State) (i : Nat) (f : Fld) (v : Nat) : (s.wsf i f v).irq = s.irq := rfl
@[simp] theorem State.wsf_egress (s : State) (i : Nat) (f : Fld) (v : Nat) : (s.wsf i f v).egress = s.egress := rfl
@[simp] theorem State.wsf_out (s : State) (i : Nat) (f : Fld) (v : Nat) : (s.wsf i f v).out = s.out := rfl
@[simp] theorem State.wsf_stalled (s : State) (i : Nat) (f : Fld) (v : Nat) : (s.wsf i f v).stalled = s.stalled := rfl
@[simp] theorem State.wsf_replies (s : State) (i : Nat) (f : Fld) (v : Nat) : (s.wsf i f v).replies = s.replies := rfl
@[simp] theorem State.wsf_postSeq (s : State) (i : Nat) (f : Fld) (v : Nat) : (s.wsf i f v).postSeq = s.postSeq := rfl
@[simp] theorem State.wsf_pwr (s : State) (i : Nat) (f : Fld) (v : Nat) : (s.wsf i f v).pwr = s.pwr := rfl
@[simp] theorem State.wsf_hdr (s : State) (i : Nat) (f : Fld) (v : Nat) : (s.wsf i f v).hdr = s.hdr := rfl
@[simp] theorem State.wsf_keys (s : State) (i : Nat) (f : Fld) (v : Nat) : (s.wsf i f v).keys = s.keys := rfl
@[simp] theorem State.wsf_store (s : State) (i : Nat) (f : Fld) (v : Nat) : (s.wsf i f v).store = s.store := rfl
@[simp] theorem State.wsf_wwt (s : State) (i : Nat) (f : Fld) (v : Nat) : (s.wsf i f v).wwt = s.wwt := rfl
@[simp] theorem State.wsf_rein (s : State) (i : Nat) (f : Fld) (v : Nat) : (s.wsf i f v).rein = s.rein := rfl
@[simp] theorem State.wsf_yoke (s : State) (i : Nat) (f : Fld) (v : Nat) : (s.wsf i f v).yoke = s.yoke := rfl
@[simp] theorem State.wsf_tmt (s : State) (i : Nat) (f : Fld) (v : Nat) : (s.wsf i f v).tmt = s.tmt := rfl
@[simp] theorem State.wsf_way (s : State) (i : Nat) (f : Fld) (v : Nat) : (s.wsf i f v).way = s.way := rfl
@[simp] theorem State.wsf_mem (s : State) (i : Nat) (f : Fld) (v : Nat) : (s.wsf i f v).mem = s.mem := rfl
@[simp] theorem State.wsf_poison (s : State) (i : Nat) (f : Fld) (v : Nat) : (s.wsf i f v).poison = s.poison := rfl
@[simp] theorem State.wsf_stale (s : State) (i : Nat) (f : Fld) (v : Nat) : (s.wsf i f v).stale = s.stale := rfl
@[simp] theorem State.wsf_dmc (s : State) (i : Nat) (f : Fld) (v : Nat) : (s.wsf i f v).dmc = s.dmc := rfl
@[simp] theorem State.wsf_dry (s : State) (i : Nat) (f : Fld) (v : Nat) : (s.wsf i f v).dry = s.dry := rfl
@[simp] theorem State.wsf_wht (s : State) (i : Nat) (f : Fld) (v : Nat) : (s.wsf i f v).wht = s.wht := rfl
@[simp] theorem State.wsf_mews (s : State) (i : Nat) (f : Fld) (v : Nat) : (s.wsf i f v).mews = s.mews := rfl
@[simp] theorem State.wsf_ing (s : State) (i : Nat) (f : Fld) (v : Nat) : (s.wsf i f v).ing = s.ing := rfl
@[simp] theorem State.wsf_sta (s : State) (i : Nat) (f : Fld) (v : Nat) : (s.wsf i f v).sta = s.sta := rfl
@[simp] theorem State.wsf_tru (s : State) (i : Nat) (f : Fld) (v : Nat) : (s.wsf i f v).tru = s.tru := rfl
@[simp] theorem State.wsf_rga (s : State) (i : Nat) (f : Fld) (v : Nat) : (s.wsf i f v).rga = s.rga := rfl
@[simp] theorem State.wsf_seam (s : State) (i : Nat) (f : Fld) (v : Nat) : (s.wsf i f v).seam = s.seam := rfl
@[simp] theorem State.wsf_gain (s : State) (i : Nat) (f : Fld) (v : Nat) : (s.wsf i f v).gain = s.gain := rfl
@[simp] theorem State.wsf_seamFix (s : State) (i : Nat) (f : Fld) (v : Nat) : (s.wsf i f v).seamFix = s.seamFix := rfl
@[simp] theorem State.wsf_spr (s : State) (i : Nat) (f : Fld) (v : Nat) : (s.wsf i f v).spr = s.spr := rfl
@[simp] theorem State.wsf_seg (s : State) (i : Nat) (f : Fld) (v : Nat) : (s.wsf i f v).seg = s.seg := rfl
@[simp] theorem State.wsf_hist (s : State) (i : Nat) (f : Fld) (v : Nat) : (s.wsf i f v).hist = s.hist := rfl
@[simp] theorem State.wsf_lbl (s : State) (i : Nat) (f : Fld) (v : Nat) : (s.wsf i f v).lbl = s.lbl := rfl
@[simp] theorem State.wsf_dbm (s : State) (i : Nat) (f : Fld) (v : Nat) : (s.wsf i f v).dbm = s.dbm := rfl
@[simp] theorem State.wsf_pat (s : State) (i : Nat) (f : Fld) (v : Nat) : (s.wsf i f v).pat = s.pat := rfl
@[simp] theorem State.wsf_tapLost (s : State) (i : Nat) (f : Fld) (v : Nat) : (s.wsf i f v).tapLost = s.tapLost := rfl
@[simp] theorem State.wsf_lanes (s : State) (i : Nat) (f : Fld) (v : Nat) : (s.wsf i f v).lanes = s.lanes := rfl
@[simp] theorem State.wsf_conns (s : State) (i : Nat) (f : Fld) (v : Nat) : (s.wsf i f v).conns = s.conns := rfl
@[simp] theorem State.wsf_arc (s : State) (i : Nat) (f : Fld) (v : Nat) : (s.wsf i f v).arc = s.arc := rfl
@[simp] theorem State.wsf_jobs (s : State) (i : Nat) (f : Fld) (v : Nat) : (s.wsf i f v).jobs = s.jobs := rfl
@[simp] theorem State.wsf_pvw (s : State) (i : Nat) (f : Fld) (v : Nat) : (s.wsf i f v).pvw = s.pvw := rfl
@[simp] theorem State.wsf_pair (s : State) (i : Nat) (f : Fld) (v : Nat) : (s.wsf i f v).pair = s.pair := rfl
@[simp] theorem State.wsf_ring (s : State) (i : Nat) (f : Fld) (v : Nat) : (s.wsf i f v).ring = s.ring := rfl

@[simp] theorem State.emit_pending (s : State) (k : EgKind) (u : Nat) (l : List Nat) : (s.emit k u l).pending = s.pending := rfl
@[simp] theorem State.emit_freeCtr (s : State) (k : EgKind) (u : Nat) (l : List Nat) : (s.emit k u l).freeCtr = s.freeCtr := rfl
@[simp] theorem State.emit_hw (s : State) (k : EgKind) (u : Nat) (l : List Nat) : (s.emit k u l).hw = s.hw := rfl
@[simp] theorem State.emit_regs (s : State) (k : EgKind) (u : Nat) (l : List Nat) : (s.emit k u l).regs = s.regs := rfl
@[simp] theorem State.emit_staged (s : State) (k : EgKind) (u : Nat) (l : List Nat) : (s.emit k u l).staged = s.staged := rfl
@[simp] theorem State.emit_stager (s : State) (k : EgKind) (u : Nat) (l : List Nat) : (s.emit k u l).stager = s.stager := rfl
@[simp] theorem State.emit_ydef (s : State) (k : EgKind) (u : Nat) (l : List Nat) : (s.emit k u l).ydef = s.ydef := rfl
@[simp] theorem State.emit_latch (s : State) (k : EgKind) (u : Nat) (l : List Nat) : (s.emit k u l).latch = s.latch := rfl
@[simp] theorem State.emit_dir (s : State) (k : EgKind) (u : Nat) (l : List Nat) : (s.emit k u l).dir = s.dir := rfl
@[simp] theorem State.emit_irq (s : State) (k : EgKind) (u : Nat) (l : List Nat) : (s.emit k u l).irq = s.irq := rfl
@[simp] theorem State.emit_out (s : State) (k : EgKind) (u : Nat) (l : List Nat) : (s.emit k u l).out = s.out := rfl
@[simp] theorem State.emit_stalled (s : State) (k : EgKind) (u : Nat) (l : List Nat) : (s.emit k u l).stalled = s.stalled := rfl
@[simp] theorem State.emit_replies (s : State) (k : EgKind) (u : Nat) (l : List Nat) : (s.emit k u l).replies = s.replies := rfl
@[simp] theorem State.emit_postSeq (s : State) (k : EgKind) (u : Nat) (l : List Nat) : (s.emit k u l).postSeq = s.postSeq := rfl
@[simp] theorem State.emit_pwr (s : State) (k : EgKind) (u : Nat) (l : List Nat) : (s.emit k u l).pwr = s.pwr := rfl
@[simp] theorem State.emit_hdr (s : State) (k : EgKind) (u : Nat) (l : List Nat) : (s.emit k u l).hdr = s.hdr := rfl
@[simp] theorem State.emit_keys (s : State) (k : EgKind) (u : Nat) (l : List Nat) : (s.emit k u l).keys = s.keys := rfl
@[simp] theorem State.emit_store (s : State) (k : EgKind) (u : Nat) (l : List Nat) : (s.emit k u l).store = s.store := rfl
@[simp] theorem State.emit_wwt (s : State) (k : EgKind) (u : Nat) (l : List Nat) : (s.emit k u l).wwt = s.wwt := rfl
@[simp] theorem State.emit_rein (s : State) (k : EgKind) (u : Nat) (l : List Nat) : (s.emit k u l).rein = s.rein := rfl
@[simp] theorem State.emit_yoke (s : State) (k : EgKind) (u : Nat) (l : List Nat) : (s.emit k u l).yoke = s.yoke := rfl
@[simp] theorem State.emit_tmt (s : State) (k : EgKind) (u : Nat) (l : List Nat) : (s.emit k u l).tmt = s.tmt := rfl
@[simp] theorem State.emit_way (s : State) (k : EgKind) (u : Nat) (l : List Nat) : (s.emit k u l).way = s.way := rfl
@[simp] theorem State.emit_mem (s : State) (k : EgKind) (u : Nat) (l : List Nat) : (s.emit k u l).mem = s.mem := rfl
@[simp] theorem State.emit_poison (s : State) (k : EgKind) (u : Nat) (l : List Nat) : (s.emit k u l).poison = s.poison := rfl
@[simp] theorem State.emit_stale (s : State) (k : EgKind) (u : Nat) (l : List Nat) : (s.emit k u l).stale = s.stale := rfl
@[simp] theorem State.emit_dmc (s : State) (k : EgKind) (u : Nat) (l : List Nat) : (s.emit k u l).dmc = s.dmc := rfl
@[simp] theorem State.emit_dry (s : State) (k : EgKind) (u : Nat) (l : List Nat) : (s.emit k u l).dry = s.dry := rfl
@[simp] theorem State.emit_wht (s : State) (k : EgKind) (u : Nat) (l : List Nat) : (s.emit k u l).wht = s.wht := rfl
@[simp] theorem State.emit_mews (s : State) (k : EgKind) (u : Nat) (l : List Nat) : (s.emit k u l).mews = s.mews := rfl
@[simp] theorem State.emit_ing (s : State) (k : EgKind) (u : Nat) (l : List Nat) : (s.emit k u l).ing = s.ing := rfl
@[simp] theorem State.emit_sta (s : State) (k : EgKind) (u : Nat) (l : List Nat) : (s.emit k u l).sta = s.sta := rfl
@[simp] theorem State.emit_tru (s : State) (k : EgKind) (u : Nat) (l : List Nat) : (s.emit k u l).tru = s.tru := rfl
@[simp] theorem State.emit_rga (s : State) (k : EgKind) (u : Nat) (l : List Nat) : (s.emit k u l).rga = s.rga := rfl
@[simp] theorem State.emit_seam (s : State) (k : EgKind) (u : Nat) (l : List Nat) : (s.emit k u l).seam = s.seam := rfl
@[simp] theorem State.emit_gain (s : State) (k : EgKind) (u : Nat) (l : List Nat) : (s.emit k u l).gain = s.gain := rfl
@[simp] theorem State.emit_seamFix (s : State) (k : EgKind) (u : Nat) (l : List Nat) : (s.emit k u l).seamFix = s.seamFix := rfl
@[simp] theorem State.emit_spr (s : State) (k : EgKind) (u : Nat) (l : List Nat) : (s.emit k u l).spr = s.spr := rfl
@[simp] theorem State.emit_seg (s : State) (k : EgKind) (u : Nat) (l : List Nat) : (s.emit k u l).seg = s.seg := rfl
@[simp] theorem State.emit_hist (s : State) (k : EgKind) (u : Nat) (l : List Nat) : (s.emit k u l).hist = s.hist := rfl
@[simp] theorem State.emit_lbl (s : State) (k : EgKind) (u : Nat) (l : List Nat) : (s.emit k u l).lbl = s.lbl := rfl
@[simp] theorem State.emit_dbm (s : State) (k : EgKind) (u : Nat) (l : List Nat) : (s.emit k u l).dbm = s.dbm := rfl
@[simp] theorem State.emit_pat (s : State) (k : EgKind) (u : Nat) (l : List Nat) : (s.emit k u l).pat = s.pat := rfl
@[simp] theorem State.emit_tapLost (s : State) (k : EgKind) (u : Nat) (l : List Nat) : (s.emit k u l).tapLost = s.tapLost := rfl
@[simp] theorem State.emit_lanes (s : State) (k : EgKind) (u : Nat) (l : List Nat) : (s.emit k u l).lanes = s.lanes := rfl
@[simp] theorem State.emit_conns (s : State) (k : EgKind) (u : Nat) (l : List Nat) : (s.emit k u l).conns = s.conns := rfl
@[simp] theorem State.emit_arc (s : State) (k : EgKind) (u : Nat) (l : List Nat) : (s.emit k u l).arc = s.arc := rfl
@[simp] theorem State.emit_jobs (s : State) (k : EgKind) (u : Nat) (l : List Nat) : (s.emit k u l).jobs = s.jobs := rfl
@[simp] theorem State.emit_pvw (s : State) (k : EgKind) (u : Nat) (l : List Nat) : (s.emit k u l).pvw = s.pvw := rfl
@[simp] theorem State.emit_pair (s : State) (k : EgKind) (u : Nat) (l : List Nat) : (s.emit k u l).pair = s.pair := rfl
@[simp] theorem State.emit_ring (s : State) (k : EgKind) (u : Nat) (l : List Nat) : (s.emit k u l).ring = s.ring := rfl

@[simp] theorem State.drawn_pending (s : State) : (s.drawn).pending = s.pending := rfl
@[simp] theorem State.drawn_hw (s : State) : (s.drawn).hw = s.hw := rfl
@[simp] theorem State.drawn_regs (s : State) : (s.drawn).regs = s.regs := rfl
@[simp] theorem State.drawn_staged (s : State) : (s.drawn).staged = s.staged := rfl
@[simp] theorem State.drawn_stager (s : State) : (s.drawn).stager = s.stager := rfl
@[simp] theorem State.drawn_ydef (s : State) : (s.drawn).ydef = s.ydef := rfl
@[simp] theorem State.drawn_latch (s : State) : (s.drawn).latch = s.latch := rfl
@[simp] theorem State.drawn_dir (s : State) : (s.drawn).dir = s.dir := rfl
@[simp] theorem State.drawn_irq (s : State) : (s.drawn).irq = s.irq := rfl
@[simp] theorem State.drawn_egress (s : State) : (s.drawn).egress = s.egress := rfl
@[simp] theorem State.drawn_out (s : State) : (s.drawn).out = s.out := rfl
@[simp] theorem State.drawn_stalled (s : State) : (s.drawn).stalled = s.stalled := rfl
@[simp] theorem State.drawn_replies (s : State) : (s.drawn).replies = s.replies := rfl
@[simp] theorem State.drawn_postSeq (s : State) : (s.drawn).postSeq = s.postSeq := rfl
@[simp] theorem State.drawn_pwr (s : State) : (s.drawn).pwr = s.pwr := rfl
@[simp] theorem State.drawn_hdr (s : State) : (s.drawn).hdr = s.hdr := rfl
@[simp] theorem State.drawn_keys (s : State) : (s.drawn).keys = s.keys := rfl
@[simp] theorem State.drawn_store (s : State) : (s.drawn).store = s.store := rfl
@[simp] theorem State.drawn_wwt (s : State) : (s.drawn).wwt = s.wwt := rfl
@[simp] theorem State.drawn_rein (s : State) : (s.drawn).rein = s.rein := rfl
@[simp] theorem State.drawn_yoke (s : State) : (s.drawn).yoke = s.yoke := rfl
@[simp] theorem State.drawn_tmt (s : State) : (s.drawn).tmt = s.tmt := rfl
@[simp] theorem State.drawn_way (s : State) : (s.drawn).way = s.way := rfl
@[simp] theorem State.drawn_mem (s : State) : (s.drawn).mem = s.mem := rfl
@[simp] theorem State.drawn_poison (s : State) : (s.drawn).poison = s.poison := rfl
@[simp] theorem State.drawn_stale (s : State) : (s.drawn).stale = s.stale := rfl
@[simp] theorem State.drawn_dmc (s : State) : (s.drawn).dmc = s.dmc := rfl
@[simp] theorem State.drawn_dry (s : State) : (s.drawn).dry = s.dry := rfl
@[simp] theorem State.drawn_wht (s : State) : (s.drawn).wht = s.wht := rfl
@[simp] theorem State.drawn_mews (s : State) : (s.drawn).mews = s.mews := rfl
@[simp] theorem State.drawn_ing (s : State) : (s.drawn).ing = s.ing := rfl
@[simp] theorem State.drawn_sta (s : State) : (s.drawn).sta = s.sta := rfl
@[simp] theorem State.drawn_tru (s : State) : (s.drawn).tru = s.tru := rfl
@[simp] theorem State.drawn_rga (s : State) : (s.drawn).rga = s.rga := rfl
@[simp] theorem State.drawn_seam (s : State) : (s.drawn).seam = s.seam := rfl
@[simp] theorem State.drawn_gain (s : State) : (s.drawn).gain = s.gain := rfl
@[simp] theorem State.drawn_seamFix (s : State) : (s.drawn).seamFix = s.seamFix := rfl
@[simp] theorem State.drawn_spr (s : State) : (s.drawn).spr = s.spr := rfl
@[simp] theorem State.drawn_seg (s : State) : (s.drawn).seg = s.seg := rfl
@[simp] theorem State.drawn_hist (s : State) : (s.drawn).hist = s.hist := rfl
@[simp] theorem State.drawn_lbl (s : State) : (s.drawn).lbl = s.lbl := rfl
@[simp] theorem State.drawn_dbm (s : State) : (s.drawn).dbm = s.dbm := rfl
@[simp] theorem State.drawn_pat (s : State) : (s.drawn).pat = s.pat := rfl
@[simp] theorem State.drawn_tapLost (s : State) : (s.drawn).tapLost = s.tapLost := rfl
@[simp] theorem State.drawn_lanes (s : State) : (s.drawn).lanes = s.lanes := rfl
@[simp] theorem State.drawn_conns (s : State) : (s.drawn).conns = s.conns := rfl
@[simp] theorem State.drawn_arc (s : State) : (s.drawn).arc = s.arc := rfl
@[simp] theorem State.drawn_jobs (s : State) : (s.drawn).jobs = s.jobs := rfl
@[simp] theorem State.drawn_pvw (s : State) : (s.drawn).pvw = s.pvw := rfl
@[simp] theorem State.drawn_pair (s : State) : (s.drawn).pair = s.pair := rfl
@[simp] theorem State.drawn_ring (s : State) : (s.drawn).ring = s.ring := rfl

@[simp] theorem State.setPoison_pending (s : State) (a : Nat) (on : Bool) : (s.setPoison a on).pending = s.pending := rfl
@[simp] theorem State.setPoison_freeCtr (s : State) (a : Nat) (on : Bool) : (s.setPoison a on).freeCtr = s.freeCtr := rfl
@[simp] theorem State.setPoison_hw (s : State) (a : Nat) (on : Bool) : (s.setPoison a on).hw = s.hw := rfl
@[simp] theorem State.setPoison_regs (s : State) (a : Nat) (on : Bool) : (s.setPoison a on).regs = s.regs := rfl
@[simp] theorem State.setPoison_staged (s : State) (a : Nat) (on : Bool) : (s.setPoison a on).staged = s.staged := rfl
@[simp] theorem State.setPoison_stager (s : State) (a : Nat) (on : Bool) : (s.setPoison a on).stager = s.stager := rfl
@[simp] theorem State.setPoison_ydef (s : State) (a : Nat) (on : Bool) : (s.setPoison a on).ydef = s.ydef := rfl
@[simp] theorem State.setPoison_latch (s : State) (a : Nat) (on : Bool) : (s.setPoison a on).latch = s.latch := rfl
@[simp] theorem State.setPoison_dir (s : State) (a : Nat) (on : Bool) : (s.setPoison a on).dir = s.dir := rfl
@[simp] theorem State.setPoison_irq (s : State) (a : Nat) (on : Bool) : (s.setPoison a on).irq = s.irq := rfl
@[simp] theorem State.setPoison_egress (s : State) (a : Nat) (on : Bool) : (s.setPoison a on).egress = s.egress := rfl
@[simp] theorem State.setPoison_out (s : State) (a : Nat) (on : Bool) : (s.setPoison a on).out = s.out := rfl
@[simp] theorem State.setPoison_stalled (s : State) (a : Nat) (on : Bool) : (s.setPoison a on).stalled = s.stalled := rfl
@[simp] theorem State.setPoison_replies (s : State) (a : Nat) (on : Bool) : (s.setPoison a on).replies = s.replies := rfl
@[simp] theorem State.setPoison_postSeq (s : State) (a : Nat) (on : Bool) : (s.setPoison a on).postSeq = s.postSeq := rfl
@[simp] theorem State.setPoison_pwr (s : State) (a : Nat) (on : Bool) : (s.setPoison a on).pwr = s.pwr := rfl
@[simp] theorem State.setPoison_hdr (s : State) (a : Nat) (on : Bool) : (s.setPoison a on).hdr = s.hdr := rfl
@[simp] theorem State.setPoison_keys (s : State) (a : Nat) (on : Bool) : (s.setPoison a on).keys = s.keys := rfl
@[simp] theorem State.setPoison_store (s : State) (a : Nat) (on : Bool) : (s.setPoison a on).store = s.store := rfl
@[simp] theorem State.setPoison_wwt (s : State) (a : Nat) (on : Bool) : (s.setPoison a on).wwt = s.wwt := rfl
@[simp] theorem State.setPoison_rein (s : State) (a : Nat) (on : Bool) : (s.setPoison a on).rein = s.rein := rfl
@[simp] theorem State.setPoison_yoke (s : State) (a : Nat) (on : Bool) : (s.setPoison a on).yoke = s.yoke := rfl
@[simp] theorem State.setPoison_tmt (s : State) (a : Nat) (on : Bool) : (s.setPoison a on).tmt = s.tmt := rfl
@[simp] theorem State.setPoison_way (s : State) (a : Nat) (on : Bool) : (s.setPoison a on).way = s.way := rfl
@[simp] theorem State.setPoison_mem (s : State) (a : Nat) (on : Bool) : (s.setPoison a on).mem = s.mem := rfl
@[simp] theorem State.setPoison_dmc (s : State) (a : Nat) (on : Bool) : (s.setPoison a on).dmc = s.dmc := rfl
@[simp] theorem State.setPoison_dry (s : State) (a : Nat) (on : Bool) : (s.setPoison a on).dry = s.dry := rfl
@[simp] theorem State.setPoison_wht (s : State) (a : Nat) (on : Bool) : (s.setPoison a on).wht = s.wht := rfl
@[simp] theorem State.setPoison_mews (s : State) (a : Nat) (on : Bool) : (s.setPoison a on).mews = s.mews := rfl
@[simp] theorem State.setPoison_ing (s : State) (a : Nat) (on : Bool) : (s.setPoison a on).ing = s.ing := rfl
@[simp] theorem State.setPoison_sta (s : State) (a : Nat) (on : Bool) : (s.setPoison a on).sta = s.sta := rfl
@[simp] theorem State.setPoison_tru (s : State) (a : Nat) (on : Bool) : (s.setPoison a on).tru = s.tru := rfl
@[simp] theorem State.setPoison_rga (s : State) (a : Nat) (on : Bool) : (s.setPoison a on).rga = s.rga := rfl
@[simp] theorem State.setPoison_seam (s : State) (a : Nat) (on : Bool) : (s.setPoison a on).seam = s.seam := rfl
@[simp] theorem State.setPoison_gain (s : State) (a : Nat) (on : Bool) : (s.setPoison a on).gain = s.gain := rfl
@[simp] theorem State.setPoison_seamFix (s : State) (a : Nat) (on : Bool) : (s.setPoison a on).seamFix = s.seamFix := rfl
@[simp] theorem State.setPoison_spr (s : State) (a : Nat) (on : Bool) : (s.setPoison a on).spr = s.spr := rfl
@[simp] theorem State.setPoison_seg (s : State) (a : Nat) (on : Bool) : (s.setPoison a on).seg = s.seg := rfl
@[simp] theorem State.setPoison_hist (s : State) (a : Nat) (on : Bool) : (s.setPoison a on).hist = s.hist := rfl
@[simp] theorem State.setPoison_lbl (s : State) (a : Nat) (on : Bool) : (s.setPoison a on).lbl = s.lbl := rfl
@[simp] theorem State.setPoison_dbm (s : State) (a : Nat) (on : Bool) : (s.setPoison a on).dbm = s.dbm := rfl
@[simp] theorem State.setPoison_pat (s : State) (a : Nat) (on : Bool) : (s.setPoison a on).pat = s.pat := rfl
@[simp] theorem State.setPoison_tapLost (s : State) (a : Nat) (on : Bool) : (s.setPoison a on).tapLost = s.tapLost := rfl
@[simp] theorem State.setPoison_lanes (s : State) (a : Nat) (on : Bool) : (s.setPoison a on).lanes = s.lanes := rfl
@[simp] theorem State.setPoison_conns (s : State) (a : Nat) (on : Bool) : (s.setPoison a on).conns = s.conns := rfl
@[simp] theorem State.setPoison_arc (s : State) (a : Nat) (on : Bool) : (s.setPoison a on).arc = s.arc := rfl
@[simp] theorem State.setPoison_jobs (s : State) (a : Nat) (on : Bool) : (s.setPoison a on).jobs = s.jobs := rfl
@[simp] theorem State.setPoison_pvw (s : State) (a : Nat) (on : Bool) : (s.setPoison a on).pvw = s.pvw := rfl
@[simp] theorem State.setPoison_pair (s : State) (a : Nat) (on : Bool) : (s.setPoison a on).pair = s.pair := rfl
@[simp] theorem State.setPoison_ring (s : State) (a : Nat) (on : Bool) : (s.setPoison a on).ring = s.ring := rfl

@[simp] theorem State.emit_egress (s : State) (k : EgKind) (u : Nat) (l : List Nat) : (s.emit k u l).egress = s.egress ++ [⟨k, u, l⟩] := rfl
@[simp] theorem State.drawn_freeCtr (s : State) : s.drawn.freeCtr = s.freeCtr + 1 := rfl

end Sys2Proof.Machine
end

