-- ==== Sys2Proof/Tests/Slice0.lean ====
section
/-! SUPPORT. Tests: what WellFormed refuses, states that meet the hypotheses of the statements (`…_met`), and single commands on small states.
The expected values come from the rules of the spec that the statements name. -/

open Sys2Proof.Machine

namespace Sys2Proof.Tests

section
set_option Elab.async false
set_option maxRecDepth 100000
set_option linter.unusedVariables false

/-- A state with fields of registers set: window, field, value. -/
def put (s : State) (l : List (Nat × Fld × Nat)) : State := l.foldl (fun t x => t.wf x.1 x.2.1 x.2.2) s

/-- The engine windows of the test harness, all in C0: the chain of carriage 0 with its taps, then the chain of carriage 1 up to its labeller. -/
def windows : List (Blk × Nat × Nat) :=
  [(.ING, 0, 0), (.TRU, 0, 0), (.RGA, 0, 0), (.CPL, 0, 0), (.SPR, 0, 0), (.SEG, 0, 0), (.LBL, 0, 0), (.DBM, 0, 255), (.STA, 0, 0), (.PMT, 0, 0),
    (.PVW, 0, 0), (.PAT, 0, 255), (.ING, 1, 1), (.TRU, 1, 1), (.RGA, 1, 1), (.SPR, 1, 1), (.SEG, 1, 1), (.LBL, 1, 1)]

/-- The fabric windows of the test harness, all in C0. -/
def fabric : List (Blk × Nat) :=
  [(.LAN, 0), (.LAN, 1), (.DMC, 0), (.DMC, 1), (.MEW, 0), (.DRY, 0), (.WHT, 0), (.REI, 0), (.BKL, 0), (.WWT, 0)]

/-- The routes: source, its port, the port of the destination, destination, Mews. -/
def routes : List RoutRec :=
  [⟨0, 0, 0, 1, 1⟩, ⟨1, 0, 0, 2, 2⟩, ⟨2, 0, 0, 4, 3⟩, ⟨4, 0, 0, 5, 4⟩, ⟨5, 0, 0, 6, 5⟩, ⟨6, 0, 0, 7, 6⟩, ⟨0, 0, 0, 8, 7⟩, ⟨1, 0, 0, 8, 8⟩,
    ⟨0, 0, 0, 9, 9⟩, ⟨2, 0, 0, 10, 10⟩, ⟨2, 0, 0, 3, 11⟩, ⟨3, 0, 0, 4, 12⟩, ⟨14, 0, 1, 3, 13⟩, ⟨3, 1, 0, 15, 14⟩, ⟨12, 0, 0, 13, 15⟩, ⟨13, 0, 0, 14, 16⟩,
    ⟨14, 0, 0, 15, 17⟩, ⟨15, 0, 0, 16, 18⟩, ⟨16, 0, 0, 17, 19⟩, ⟨17, 0, 0, 7, 20⟩, ⟨3, 0, 0, 10, 21⟩]

/-- A small image: two live carriages on connection 0, their chains, one DRAM partition, the mirror link on lane 0. -/
def image : Image where
  hdr := ⟨0, 8, 255, 0, 0, 0, 0, 0⟩
  tags := []
  head := some ⟨100, 0, 0, 1, 1000, 1000, 128, 0, 64⟩
  lanes := [⟨0, 2, 0, 1, 0, 0, 3, 0⟩]
  carrs := [⟨0, 1, 0, 0, 3, 1, 64, 64, 0, 2, 0, 1000, 0, 0, 0, 1, 0, 0, 0⟩, ⟨1, 1, 0, 1, 4, 1, 64, 64, 2, 0, 64, 1000, 0, 0, 0, 1, 0, 0, 0⟩]
  engns := windows.map (fun w => ⟨w.1.typeCode, 0, w.2.1, w.2.2, 0, 0, 0, 4096⟩)
  mews := []
  routs := routes
  drams := [⟨1, 1, 255, 1, 12, 0, 0x100000, 0, 0⟩]
  reins := []
  whifs := []
  posts := []
  times := []
  waywiser := []
  yokes := []
  inits := []
  pair := some ⟨7, 0, [0]⟩

/-- A part that runs that image: start-up done, every coach's clocks on, DRAM of both channels of C0 ready, every Mews 64 units deep. -/
def live : State :=
  put { State.reset with
    hdr := { State.reset.hdr with active := some image, parts := [(1, 0x10000000)] }
    dir := windows.map (fun w => ⟨w.1.typeCode, 0, w.2.1, w.2.2, 0, 1, 0x20000 + 4096 * w.2.1, 4096, 0⟩) ++
      fabric.map (fun w => ⟨w.1.typeCode, 0, w.2, 255, 0, 1, 0x80000 + 4096 * w.2, 4096, 65535⟩) }
    ([(0, Reg.PWR_STATE_COACH_UP, 255), (0, Reg.GLB_BOOT_STAGE_STAGE, 12), (0, Reg.HDR_STATUS_ACTIVE, 1), (0, Reg.DMC_STATUS_STATE, 2),
      (1, Reg.DMC_STATUS_STATE, 2)] ++ (List.range 22).map (fun k => (0, mewF Reg.MEW_DEPTH_UNITS k, 64)))

/-- The state that a command leaves. -/
def after (c : Instr) (s : State) : State :=
  match exec c s with
  | .next t => t
  | _ => s

/-- A line of one plane of 64 samples of code 10: number, grid line, MD. -/
def lineOf (n g : Nat) (md : Int) : Line := ⟨⟨md, 777, n, 0, 0, 0⟩, g, 0, [List.replicate 64 10], [[]], false, false, [], []⟩

/-- A state with one thing waiting in a Mews. -/
def waiting (s : State) (k : Nat) (it : Item) : State := { s with mews := cset s.mews k { Mews.fresh with packets := [⟨it.units, 0, true, false, false, some it⟩] } }

/-- What an engine takes next. -/
def nextOf (s : State) (g : Nat) (b : Blk) : Option Item := (s.takeNext g (s.hop g b)).map (fun x => x.1)

/-- The state in which it has taken it. -/
def takenOf (s : State) (g : Nat) (b : Blk) : State := ((s.takeNext g (s.hop g b)).map (fun x => x.2)).getD s

/-- The state with a carriage of coach C1: its labeller and the slice behind it, on Mews 22 of that coach. -/
def coachOne (s : State) : State :=
  { s with
    hdr := { s.hdr with active := some { image with
      engns := image.engns ++ [⟨Blk.typeCode .LBL, 1, 0, 6, 0, 0, 0, 4096⟩, ⟨Blk.typeCode .DBM, 1, 0, 255, 0, 0, 0, 4096⟩]
      routs := image.routs ++ [⟨18, 0, 0, 19, 22⟩] } }
    dir := s.dir ++ [⟨Blk.typeCode .LBL, 1, 0, 6, 0, 1, 0xA0000, 4096, 18⟩, ⟨Blk.typeCode .DBM, 1, 0, 255, 0, 1, 0xA1000, 4096, 19⟩] }

/-- The features of a run of two columns of carriage 0 on grid line 5. -/
def featOf : Feat := runFeat 0 5 10 11 1 [9, 9] (lineOf 5 5 100).tag

/-- A fragment of a carriage's component 7, closed at line 8. -/
def fragOf (g : Nat) : Frag := ⟨g, [7], 5, some featOf, 0, 8, false, 0, 0⟩

/-- What a state's slice in a coach takes next. -/
def sliceNext (s : State) (g : Nat) : Option Item := (s.takeNext g ⟨.DBM, unitOf (g / 6) 0, 0⟩).map (fun x => x.1)

/-! ### Helpers of single witnesses -/

def asleep (s : State) (st : Nat) : State :=
  { put s [(0, Reg.PWR_STATE_STATE, st), (0, Reg.HDR_STATUS_PHASE, 0), (0, Reg.PAI_STATUS_STATE, 2), (0, Reg.GLB_BOOT_STAGE_STAGE, 12)] with pwr := { s.pwr with off := false, tripped := false } }

def awakeRun (s : State) : State :=
  { put s [(0, Reg.PWR_STATE_STATE, 0), (0, Reg.HDR_STATUS_PHASE, 0), (0, Reg.PAI_STATUS_STATE, 2), (0, Reg.GLB_BOOT_STAGE_STAGE, 12), (0, Reg.PWR_STATE_COACH_UP, 255), (0, Reg.GLB_GUARD_OUTRIDER, 1)] with pwr := { s.pwr with off := false, tripped := false } }

def forceWord : Word := BitVec.ofNat 32 (2 + 2 ^ Reg.PWR_CTL_FORCE.lo)

def guarded (s : State) : State := put s [(0, Reg.GLB_GUARD_OUTRIDER, 1), (0, Reg.GLB_GUARD_HOST, 1)]

def atStage (s : State) (n : Nat) : State :=
  { put s [(0, Reg.GLB_BOOT_STAGE_STAGE, n), (0, Reg.GLB_BOOT_STAGE_STATE, 0), (0, Reg.PWR_STATE_STATE, 0), (0, Reg.GLB_STRAP_STRAP, 5)] with pwr := { s.pwr with off := false } }

def coachResetWord (c : Nat) : Word := BitVec.ofNat 32 (c * 2 ^ Reg.PWR_RESET_CTL_COACH.lo)

def heat (l : List Nat) (s : State) : List (Nat × Nat) := (List.range 16).foldl (fun (m : List (Nat × Nat)) k => cset m (16 * 1 + k) (l.getD k 0 %
  65536)) s.pwr.temps

def heated (l : List Nat) (s : State) : State := { s with pwr := { s.pwr with temps := heat l s } }

def devs (l : List Int) (s : State) : List Int := tsenDevs ((List.range 16).map (fun k => l.getD k 0 - sgn 16 (cgetD s.store.offsets (16 * 1 + k) 0)))

def readings1 : List Int := [500, 502, 498, 500, 501, 499, 500, 500, 500, 500, 500, 500, 500, 500, 500, 600]

def readings2 : List Int := [500, 502, 498, 500, 501, 499, 500, 500, 500, 500, 500, 500, 500, 500, 500, 604]

def readings3 : List Int := [500, 502, 498, 500, 501, 499, 500, 500, 500, 500, 500, 500, 500, 500, 500, 605]

def powered (s : State) : State := { s with pwr := { s.pwr with off := false } }

def phased (s : State) (n : Nat) : State := put s [(0, Reg.HDR_STATUS_PHASE, n), (0, Reg.GLB_GUARD_HOST, 1), (0, Reg.GLB_GUARD_OUTRIDER, 1), (0,
  Reg.GLB_BOOT_STAGE_STAGE, 12)]

def patchImage : Image := { image with hdr := ⟨2, 8, 1, 0, 6, 5, 0, 0⟩ }

def patchOf (kind instant : Nat) (step : PatchStep) : Patch := ⟨patchImage, kind, instant, step, 0, 0, 0⟩

def patching (s : State) (kind instant : Nat) (step : PatchStep) : State :=
  { phased s 5 with hdr := { s.hdr with patch := some (patchOf kind instant step) } }

def srcWord (src patch : Nat) : Word := BitVec.ofNat 32 (2 ^ Reg.HDR_CTL_SRC.lo * src + 2 ^ Reg.HDR_CTL_PATCH.lo * patch)

def loading (s : State) (n : Nat) (l : Loading) : State := { phased s n with hdr := { s.hdr with load := some l, orBuf := [0x47, 0x4C] } }

def slotWord (n : Nat) : Word := BitVec.ofNat 32 (n * 2 ^ Reg.HDR_KEY_CTL_SLOT.lo)

def laned (s : State) (mode rx tx step : Nat) (x : Lane) : State :=
  { put s [(0, Reg.LAN_CFG_MODE, mode), (0, Reg.LAN_CFG_USE, 1), (0, Reg.LAN_STATUS_RX_STATE, rx), (0, Reg.LAN_STATUS_TX_STATE, tx), (0, Reg.LAN_STATUS_TRAIN_STEP, step), (0, Reg.CLK_LOCK_LANEREF, 1), (0, Reg.LAN_CFG_CONNECTION, 0), (0, Reg.LAN_EQ_AUTO, 1), (0, Reg.LAN_EQ_CODE, 5), (0, Reg.LAN_PRBS_CTL_TX_ON, 0), (0, Reg.LAN_PRBS_CTL_RX_ON, 0), (0, Reg.LAN_PWR_RX_REQ, 0), (0, Reg.LAN_PWR_TX_REQ, 0), (0, Reg.LAN_EQ_PENDING, 0)] with lanes := [(0, x)] }

def voxBits (words : List Nat) : List Bool := sendWords ⟨false, 0⟩ 0x1234 words

def voxLane : Lane := { Lane.fresh with scramble := 0x1234 }

def sleepWord (code dir : Nat) : Nat := 4 + 256 * code + 65536 * dir

def runPair (first second : List (List Nat)) (k : Nat) : EyePair :=
  EyePair.mk 0 (widestEye (first.getD k [])).1 (widestEye (first.getD k [])).2 (widestEye (second.getD k [])).1 (widestEye (second.getD k [])).2

def eyes (a b c : Nat) : List Nat := [2 ^ a - 1, 2 ^ b - 1, 2 ^ c - 1]

def prbsWord : Word := BitVec.ofNat 32 (2 ^ Reg.LAN_PRBS_CTL_TX_ON.lo + 2 ^ Reg.LAN_PRBS_CTL_RX_ON.lo + 2 ^ Reg.LAN_PRBS_CTL_PATTERN.lo)

def L0 : Nat := laneInst 0

def arp : List Byte := List.replicate 12 1 ++ [8,6] ++ [0,1,8,0,6,4,0,1] ++ List.replicate 16 2 ++ [10,0,0,7] ++ List.replicate 40 0

def backOk (r : EqualRun) (x : Nat) : Bool := (unstuff r 0 (sendWords r x [0xFFFFFFFFFFFFFFFF, 0,
  0x123456789])).2.1 == [] && (unstuff r 0 (sendWords r x [0xFFFFFFFFFFFFFFFF, 0,
  0x123456789])).1.length == 240 && bitWords 3 (scrambleBits x (unstuff r 0 (sendWords r x [0xFFFFFFFFFFFFFFFF, 0,
  0x123456789])).1) == [0xFFFFFFFFFFFFFFFF, 0, 0x123456789].map (fun w => felloe w false)

def mk : Nat := markerBits 0x1234 0 0 5

def voxed (s : State) (use rx tx : Nat) (x : Lane) : State :=
  { put s [(L0, Reg.LAN_CFG_MODE, 2), (L0, Reg.LAN_CFG_USE, use), (L0, Reg.LAN_CFG_CONNECTION, 0), (L0, Reg.LAN_STATUS_RX_STATE, rx), (L0, Reg.LAN_STATUS_TX_STATE, tx), (L0, Reg.LAN_PRBS_CTL_TX_ON, 0), (L0, Reg.LAN_PRBS_CTL_RX_ON, 0), (L0, Reg.LAN_PWR_RX_REQ, 0), (L0, Reg.LAN_PWR_TX_REQ, 0), (L0, Reg.LAN_EQ_PENDING, 0)] with lanes := [(0, x)] }

def markBits (w : Nat) : List Bool := stuff ⟨false, 0⟩ (wordBits w)

def hd (typ seq : Nat) : Nat := 1 + 16*3 + 256 * typ + 2 ^ 16 * seq + 2^32*2 + 2 ^ 42 + 2 ^ 43 + 2 ^ 48 * 9

def credited (s : State) (use granted : Nat) : State :=
  { voxed (awakeRun s) use 4 4 { voxLane with vcs := [(3, ⟨granted, 0, 0, 0⟩)] } with conns := (voxed (awakeRun s) use 4 4 voxLane).linkKey 0 |> fun k => [(k, { Conn.fresh with expected := [(3, 65535)] })] }

def badRaw : Nat := felloe (hd 1 65535) false ^^^ 9 * 16 ^ 7 ^^^ 5 * 16 ^ 2

def G : Nat := 0

def trg (n : Nat) (i : Int) : Trig := ⟨n, i, i, 500, false, true, 0, false, .waiting⟩

def pkt : RxPkt := ⟨9500, true, false, false, 1, 64, [1,2,3], []⟩

def pktE : RxPkt := ⟨9500, true, true, false, 1, 64, [1,2,3], []⟩

def wCam (n : Nat) : Word := putBits 0 Reg.ING_CAMSET_CTL_COUNT.hi Reg.ING_CAMSET_CTL_COUNT.lo n

def wTun : Word := putBits 0 Reg.ING_TUN_CTL_WRITE.hi Reg.ING_TUN_CTL_WRITE.lo 1

def wTunR : Word := putBits 0 Reg.ING_TUN_CTL_WORDS.hi Reg.ING_TUN_CTL_WORDS.lo 5

def evb : List Byte := (List.range 70).map (BitVec.ofNat 8)

def blk0 : StaBlock := ⟨0, 3, 2, 0, 0, 0, 0, false, false, [List.replicate 256 0], []⟩

def wEn : Word := putBits (putBits 0xFF000000 Reg.WAY_CMP_CTL_ENABLE.hi Reg.WAY_CMP_CTL_ENABLE.lo 1) Reg.WAY_CMP_CTL_DIR.hi Reg.WAY_CMP_CTL_DIR.lo 1

def wBank (n : Nat) : Word := putBits 0 Reg.TRU_TBL_CTL_BANK.hi Reg.TRU_TBL_CTL_BANK.lo n

def jobOf (step : Nat) : GainJob := ⟨[1073741824], 3, 0, 0, 0, step, 1, 2 ^ 31 + 5, false⟩

def headOf (s : State) (own : Bool) (a : Nat) := s.tblRead own a 64

def bodyOf (s : State) (own : Bool) (a : Nat) := (headOf s own a).2.2.tblRead own (a + 64) (leAt (headOf s own a).1 0x18 4)

def tblCode (s : State) (g : Nat) (rga own : Bool) (a : Nat) : Nat :=
  if tblHeadCheck rga (headOf s own a).1 (headOf s own a).2.1 = 0 then s.tblBodyCheck g rga (headOf s own a).1 (bodyOf s own a).1 (bodyOf s own a).2.1
  else tblHeadCheck rga (headOf s own a).1 (headOf s own a).2.1

def tblState (s : State) : State :=
  { ((put s [(0, Reg.TRU_CFG_WIDTH, 4), (0, Reg.TRU_CFG_PLANES, 1), (0, Reg.TRU_BANK_SEL, 0)]).dramPut 0x2000000 (truImage 1 4 (2 ^ 31 + 5) 3 [65536, 65537, 65538, 65539] []) false).setLoading 0 false (some (1, 0x2000000)) with gain := [(0, jobOf 1)] }

def sums3 : List (List Nat) := [[400, 400], [400, 400], [400, 400]]

def gapOf (n : Nat) : Gap := { flushGap none (lineOf 9 9 900).tag with count := n, indexed := true }

def midOf (n : Nat) (md : Int) : MidLine := ⟨(lineOf n n md).tag, [List.replicate 64 10], false, 0, []⟩

def seamNext (s : State) (low : Bool) : Option Item := (s.takeNext (sideCar 0 low) (sideHop 0 low)).map (fun x => x.1)

def winOf (n : Nat) (xx yy xy xd yd : Int) : RegWindow := ⟨4, n, xx, yy, xy, xd, yd, [9, 9, 9, 9, 9, 9, 9, 9, 1, 9, 9, 9, 9, 9, 9, 9, 9], false⟩

def seamRun (s : State) (a b : Int × Int) : State := ((put s [(seamInst 0, Reg.CPL_CFG_LINK.sh (seamOff 0), 1), (seamInst 0,
  Reg.CPL_REG_CTL_ENABLE.sh (seamOff 0), 1), (seamInst 0, Reg.CPL_REG_LIM_TOL.sh (seamOff 0), 2), (seamInst 0, Reg.CPL_REG_LIM_DEAD.sh (seamOff 0),
  5)]).seamMod 0 (fun x => { x with results := [a, b] })).wwtMod 2 0 0 (fun x => { x with running := true, started := 0, rejects := 2 })

def badLine : Line := { lineOf 3 3 100 with poison := [[4]] }

def segL : Line := { lineOf 3 3 100 with planes := [(List.range 64).map (fun j => if j < 10 then 500 else 1)] }

def compOf (label last : Nat) : Comp := ⟨label, [label], last, 10, some featOf, 0⟩

def lblL : Line := { lineOf 9 9 100 with runs := [⟨3, 5, 1⟩, ⟨20, 21, 1⟩] }

def gap8 : Gap := { flushGap none (lineOf 9 9 900).tag with from_ := 5, til := 8, count := 4 }

def recAt (n kind cls : Nat) : Rec := ⟨n, kind, 0, 0, cls, List.replicate 64 3, 0, none⟩

def queued (s : State) (seq ack : Nat) (r : Rec) : State := (put
  { s with hdr := { s.hdr with active := some { image with drams := image.drams ++ [⟨2, 5, 255, 1, 12, 0, 0x100000, 0, 0⟩] }, parts := [(1, 0x10000000), (2, 0x10200000)] } }
  [(0, Reg.PAI_STATUS_STATE, 0), (0, Reg.DBM_SEQ_LO_SEQ, seq), (0, { Reg.DBM_SEQ_LO_SEQ with off := Reg.DBM_SEQ_LO_SEQ.off + 4 }, 0), (0,
  Reg.DBM_ACK_LO_SEQ, ack), (0, { Reg.DBM_ACK_LO_SEQ with off := Reg.DBM_ACK_LO_SEQ.off + 4 },
  0)]).strmMod 255 (fun t => { t with recs := [r, recAt 9 0 1], phi := 5 })

def replayed (s : State) : State := (put
  { s with hdr := { s.hdr with active := some { image with carrs := image.carrs.map (fun r => if r.carriage = 1 then { r with role := 2 } else r) } } }
  [((ackReg 1).1, (seqReg 1).2, 30), ((ackReg 1).1, { (seqReg 1).2 with off := (seqReg 1).2.off + 4 }, 0), ((ackReg 1).1, (ackReg 1).2, 30),
  ((ackReg 1).1, { (ackReg 1).2 with off := (ackReg 1).2.off + 4 }, 0)]).strmMod 1 (fun t => { t with ackLow := 30 })

def patJob : PatJob := ⟨255, 4, 0, 3, 0, 0, featOf, 10, 5⟩

def archived (s : State) (it : Item) (n : Nat) : State := (waiting (put s [(0, Reg.PMT_CFG_BOUND, 1), (0, Reg.PMT_ARC_CFG_CARRIAGE, 0), (0,
  Reg.PMT_ARC_CTL_ENABLE, 1), (0, Reg.PMT_ARC_CTL_PIN_EN, 0), (0, Reg.PMT_ARC_CFG_SAMPLE_BITS, 8), (0, Reg.PMT_ARC_CTL_BUDGET, 1), (0,
  Reg.PMT_PART_SIZE_SIZE, 4096), (0, Reg.PMT_PART_SIZE_SIZE.sh 4, 64), (0, Reg.PMT_PART_SIZE_SIZE.sh 8, 0), (0, Reg.PMT_PART_LO_ADDR, 0x400000), (0,
  Reg.PMT_PART_LO_ADDR.sh 4, 0x500000), (0, Reg.PMT_ARC_NEXT_ROW, 7), (0, Reg.PMT_ARC_OLDEST_ROW, 7), (0, Reg.PMT_ARC_WRITE_OFFSET,
  0)]) 9 it).arcMod 0 (fun x => { x with lines := (List.range n).map (fun k => lineOf k 0 (100 * k)) })

def wJob (src dest : Nat) : Word := putBits (putBits 0 Reg.PMT_JOB_CTL_SOURCE.hi Reg.PMT_JOB_CTL_SOURCE.lo src) Reg.PMT_JOB_CTL_DEST.hi
  Reg.PMT_JOB_CTL_DEST.lo dest

def decJob (e : Option Nat) (ls : List ArcLine) : PmtJob := ⟨1, 0, 0, 0, true, 0x10000000, 128, 5, ls, 0, none, e⟩

def aLine (n : Nat) : ArcLine := ⟨List.replicate 32 1, List.replicate n 7, [3]⟩

def previewed (s : State) (rows : Nat) : State := (put s [(0, Reg.PAI_STATUS_STATE, 0), (0, Reg.PVW_CTL_ENABLE, 1), (0, Reg.PVW_CTL_DEST, 0), (0,
  Reg.PVW_CTL_ROWS, rows), (0, Reg.PVW_SCALE_MD, 256), (0, Reg.PVW_SCALE_CD, 256), (0, Reg.PVW_FIRST_COLUMN, 0), (0, Reg.PVW_LAST_COLUMN, 3),
  (seamInst 0, Reg.CPL_CFG_LINK.sh (seamOff 0), 1)]).pvwMod 0 (fun x => { x with strips := [5, 8], since := some 0, passed := [(0, 10000)] })

def dA : Nat := 0x10000040

def bar2 (s : State) : State :=
  { put s [(0, Reg.GLB_BAR2_BASE_GIB, 0), (0, Reg.DMC_STATUS_STATE, 2), (0, Reg.PWR_STATE_STATE, 0)] with mem := [(0x10000041, 7), (0x10000043, 9)] }

def owing (s : State) (n : Nat) : State :=
  { put s [(32, Reg.DMC_STATUS_STATE, 2), (32, Reg.DMC_REF_BUSY, 3)] with dmc := [(32, ⟨[(1, n)], [(256, [⟨8, 6, 0x21⟩, ⟨9, 6, 0x22⟩])], [0x30], 0, []⟩)] }

def spared (s : State) (n : Nat) : State :=
  { put s [(0, Reg.DMC_STATUS_STATE, 2), (0, Reg.DMC_STATUS_RETIRED, 0), (0, Reg.DMC_REMOUNT_STATUS_STATE, 0), (0, Reg.DMC_CFG_SPARE, 3), (0, Reg.DMC_CFG_RANKS, 4)] with dmc := [(0, ⟨[], [], [], n, []⟩)] }

def dramRunning (s : State) : State :=
  { put s [(0, Reg.DMC_STATUS_STATE, 2), (1, Reg.DMC_STATUS_STATE, 5)] with wwt := [(wwtKey 1 0 0, { s.wwtAt 1 0 0 with running := true, rejects := 2, unsettled := true })] }

def mewsed (s : State) (k depth kind : Nat) (w : Mews) : State :=
  { put s [(unitOf (k / 1024) 0, mewF Reg.MEW_DEPTH_UNITS (k % 1024), depth), (unitOf (k / 1024) 0, mewF Reg.MEW_DEPTH_KIND (k % 1024), kind), (unitOf (k / 1024) 0, mewF Reg.MEW_PEAK_CUT (k % 1024), 8)] with mews := [(k, w)] }

def pktOf (n : Nat) : MewPkt := ⟨n, 0, true, false, false, none⟩

def linePkt (n : Nat) : MewPkt := ⟨2, 0, true, false, false, some (.line (lineOf n n 100))⟩

def tapFl : Mews := ⟨[linePkt 2, linePkt 3, linePkt 4], 0, some 2, 4, true⟩

def drayed (s : State) (l : List (Fld × Nat)) : State := put s ([(0, Reg.PWR_STATE_STATE, 0), (0, dc Reg.DRY_CH_SRC_LO_ADDR 31, 0x10000000), (0,
  (dc Reg.DRY_CH_SRC_LO_ADDR 31).sh 4, 0), (0, dc Reg.DRY_CH_DST_LO_ADDR 31, 0x10001000), (0, (dc Reg.DRY_CH_DST_LO_ADDR 31).sh 4, 0), (0,
  dc Reg.DRY_CH_CNT_BYTES 31, 192), (0, dc Reg.DRY_CH_CFG_SRC_SPACE 31, 0), (0, dc Reg.DRY_CH_CFG_DST_SPACE 31, 0), (0, dc Reg.DRY_CH_CFG_BURST 31,
  1), (0, dc Reg.DRY_CH_CFG_PACE 31, 15), (0, dc Reg.DRY_CH_LANE_LANE 31, 2), (0, dc Reg.DRY_CH_CFG_WB_EN 31, 1), (0, dc Reg.DRY_CH_CFG_WB_SPACE 31,
  0), (6, Reg.WHT_IN_REQUESTER.sh 8, 0xF012)] ++ l.map (fun x => (0, x.1, x.2)))

def reqOf (n beats : Nat) : WhtReq := ⟨n, 0x20 + n, beats, 0, false, false, false, 0⟩

def whtd (s : State) (rs : List WhtReq) (h : Option (WhtReq × Nat)) : State :=
  { put s [(0, Reg.WHT_STATUS_HOLD_MODE, 0), (0, Reg.WHT_CTL_HOLD, 0), (0, Reg.WHT_IN_REQUESTER.sh 12, 0x23), (0, Reg.WHT_IN_BURST_MAX.sh 12, 6)] with wht := [(0, ⟨rs, h, []⟩)], dmc := [] }

def reined (s : State) : State :=
  { put s [(0, Reg.PWR_STATE_COACH_UP, 2), (0, Reg.PWR_STATE_STATE, 0), (0, Reg.REI_TR_CFG_RATE_LIMIT.sh 248, 1), (32, Reg.REI_SRC_ENABLE.sh 1020, 1), (32, Reg.REI_SRC_CHANNEL.sh 1020, 63), (32, Reg.REI_SRC_SOURCE.sh 1020, 0xF014), (32, Reg.REI_SRC_EVENT.sh 1020, 5), (32, Reg.REI_CH_CFG_RATE_LIMIT.sh 504, 1)] with rein := { s.rein with cross := [(crossKey 1 0xF014 5, 2)], trunk := [(5, 1), (6, 48)], fire := [31] } }

def gmOf (id src : Nat) : PtpMaster := ⟨128, 248, 254, 65535, 128, id, src⟩

def slaved (s : State) (st : Nat) : State :=
  { put s [(0, Reg.TMT_CFG_ROLE, 1), (0, Reg.TMT_STATUS_PORT_STATE, 9), (0, Reg.TMT_JUMP_LIMIT_NS, 100), (0, Reg.TMT_STATUS_STATE, st), (0, Reg.TMT_STATUS_SOURCE, 1), (0, Reg.TMT_CFG_PEER, 0), (0, Reg.TMT_CFG_DOMAIN, 5), (0, Reg.TMT_PATH_DELAY_PS, 7000)] with tmt := { s.tmt with master := some (gmOf 0x77 3), asym := [] } }

def leading (s : State) (peer two : Nat) : State :=
  { put s [(0, Reg.TMT_CFG_ROLE, 2), (0, Reg.TMT_STATUS_PORT_STATE, 6), (0, Reg.TMT_CFG_PEER, peer), (0, Reg.TMT_CFG_TWO_STEP, two), (0, Reg.TMT_CFG_DOMAIN, 5)] with tmt := { s.tmt with master := none, launches := [], seqs := 65535 } }

def launchOf (at' : Int) (marker : Nat) (late drop : Bool) (f : Option (Nat × List Byte)) : Launch := ⟨at', 9, 0, drop, marker, false, late, f⟩

def launching (s : State) (ls : List Launch) (ns : Nat) : State :=
  { put s [(0, Reg.TMT_LAUNCH_TIME_LO_NS, 120000), (0, Reg.TMT_LAUNCH_TIME_LO_NS.sh 4, 0), (0, Reg.TMT_TPL_BASE_LO_ADDR, 0x10000000), (0, Reg.TMT_TPL_BASE_LO_ADDR.sh 4, 0), (9, Reg.LAN_CFG_MODE, 3), (9, Reg.LAN_CFG_USE, 4), (9, Reg.LAN_STATUS_TX_STATE, 4), (0, Reg.PAI_STATUS_STATE, 0), (0, Reg.PWR_STATE_STATE, 0)] with tmt := { s.tmt with launches := ls, ns := ns } }

def tplOf : List Byte := toBytes 2 60 ++ toBytes 2 20 ++ toBytes 1 9 ++ toBytes 1 1 ++ List.replicate 74 6

def alarmed (s : State) (p : Nat) : State :=
  { put s [(0, Reg.TMT_ALM_CTL_ENABLE.sh 0xE0, 1), (0, Reg.TMT_ALM_TIME_LO_NS.sh 0xE0, 500), (0, Reg.TMT_ALM_TIME_LO_NS.sh 0xE4, 0), (0, Reg.TMT_ALM_PERIOD_LO_NS.sh 0xE0, p), (0, Reg.TMT_ALM_PERIOD_LO_NS.sh 0xE4, 0), (0, Reg.TMT_ALM_CTL_GIO_EN.sh 0xE0, 1), (0, Reg.TMT_ALM_CTL_REIN.sh 0xE0, 1), (0, Reg.TMT_ALM_CTL_WAKE.sh 0xE0, 1)] with tmt := { s.tmt with ns := 725 } }

def marking (s : State) (valid : Nat) : State :=
  { put { s with way := { s.way with ports := List.replicate 4 { WayPort.fresh with speed := nmQ }, offset := 0 } } [(0, Reg.WAY_MASTER_PORT, 1), (0, wp Reg.WAY_STATUS_SPEED_VALID 1, valid), (0, wp Reg.WAY_CFG_MODE 1, 1), (0, wp Reg.WAY_NPC_LO_FRAC 1, 0), (0, (wp Reg.WAY_NPC_LO_FRAC 1).sh 4, 1), (0, wp Reg.WAY_REV_REV 1, 0), (0, wp Reg.WAY_COUNT_COUNT 1, 0), (0, mkf Reg.TMT_MARK_CTL_LOCK_US 15, 2000), (0, mkf Reg.TMT_MARK_CTL_LATE 15, 0), (0, mkf Reg.TMT_MARK_LEAD_NS 15, 0)] with tmt := { s.tmt with targets := [⟨1000000, 15, 3, false, false⟩], launches := [] } }

def frameOf (l : List Byte) : List Byte := l ++ [BitVec.ofNat 8 (crc8 l)]

def outing (s : State) (w : Option (List Byte)) : State :=
  { put s [(0, Reg.GLB_BOOT_STAGE_STAGE, 12), (0, Reg.GLB_GUARD_OUTRIDER, 1), (0, Reg.PWR_STATE_COACH_UP, 254)] with pwr := { s.pwr with off := false }, out := { s.out with waiting := w, aside := none, unread := true }, stalled := [] }

def begun (s : State) : State :=
  { s.outAccept with out := { s.outAccept.out with status := 0, done := 0, data := [], unread := false, aside := none } }

def yoked (s : State) (cs : List Commit) : State :=
  { put s [(0, Reg.PAI_CFG_PRESENT, 0), (0, Reg.PAI_STATUS_STATE, 0), (0, Reg.RNG_STATUS_LIVE, 0), (1, Reg.YOK_AT_LO_AT, 123), (1, Reg.YOK_STATUS_STATE, 0), (0, Reg.WAY_MASTER_PORT, 0), (0, Reg.WAY_CFG_MODE, 1)] with dir := s.dir.filter (fun e => e.typ == Blk.typeCode .REI), yoke := { s.yoke with commits := cs, armed := [], nextSeq := 9 }, stager := [(regKey .REI 0 0x108, 1), (regKey .REI 0 0x110, 2)], staged := [(regKey .REI 0 0x108, 0x00770003), (regKey .REI 0 0x110, 5)] }

def commitOf (m kind instant : Nat) (pending only : Bool) : Commit := ⟨m, none, kind, instant, false, only, pending, false, 0, 4,
  [(regKey .REI 0 0x108, 0x00770003)]⟩

def brokenCommit : Commit := ⟨1, none, 2, 5, false, false, false, false, 0, 4, [(regKey .REI 0 0x108, 0x03FF0003)]⟩

def served (mb r typ status : Nat) (t : State) : Bool := t.rf 0 (pst Reg.PST_STATUS_FULL mb) == 0 && t.rf 0 (pst Reg.PST_STATUS_FULL r) == 1 &&
  getBits (t.slotWord r 0) 15 8 == typ + 0x80 && getBits (t.slotWord r 1) 23 16 == status

def asking (s : State) (mb typ m a0 a1 a2 : Nat) : State := ((((put { s with replies := [] } [(0, pst Reg.PST_STATUS_FULL mb, 1), (0,
  pst Reg.PST_STATUS_FULL 3, 0), (0, pst Reg.PST_STATUS_CLAIMED 3, 0), (0, pst Reg.PST_CFG_RECEIVER 3, m), (0, pst Reg.PST_CFG_RECEIVER 14, 0x20), (0,
  pst Reg.PST_CFG_RECEIVER 15, 0x21), (0, Reg.PWR_STATE_COACH_UP,
  255)]).setSlot mb 0 (BitVec.ofNat 32 (m + 256 * typ))).setSlot mb 1 3).setSlot mb 2 (BitVec.ofNat 32 a0)).setSlot mb 3 (BitVec.ofNat 32 a1)
  |>.setSlot mb 4 (BitVec.ofNat 32 a2)

def askable (s : State) (mb : Nat) : Bool := getBits (s.slotWord mb 1) 7 0 == 3 && s.rf 0 (pst Reg.PST_CFG_RECEIVER 3) == getBits (s.slotWord mb 0) 7
  0 && s.replies == [] && s.rf 0 (pst Reg.PST_STATUS_FULL 3) == 0 && s.rf 0 (pst Reg.PST_STATUS_CLAIMED 3) == 0

def faulty (s : State) : State := { s with store := { s.store with faults := [⟨5, 6, 1, 2, 3, 4⟩] } }

def pinned (s : State) (m : Nat) : State := put s [(0, Reg.LCH_PIN_OWNER.sh 504, m), (0, Reg.LCH_INFO_CLASS.sh 504, 15), (0, Reg.LCH_HORN_MAILBOX,
  15)]

def paired (s : State) (role side hold : Nat) : State :=
  { put (awakeRun s) [(0, Reg.PAI_STATUS_STATE, role), (0, Reg.PAI_CFG_SIDE, side), (0, Reg.PAI_PINS_HOLD_EN, hold), (0, Reg.PAI_STATUS_HOLD_IN, hold), (0, Reg.GLB_GUARD_OUTRIDER, 1), (0, Reg.GLB_GUARD_HOST, 1), (0, Reg.PAI_CFG_PREFERENCE, 1)] with pair := { Pair.fresh with joinSince := some 5 } }

def waits (s : State) : State :=
  { s with dbm := { s.dbm with streams := [(255, { Stream.fresh with awaiting := [(3, ⟨1, 0, 0, 0, 0, List.replicate 64 0, 0, none⟩), (8, ⟨1, 0, 0, 0, 0, List.replicate 64 0, 0, none⟩)], recs := [⟨4, 0, 0, 0, 0, List.replicate 64 0, 0, none⟩] })] } }

def recOf : Rec := ⟨9, 0, 4, 3, 1, List.replicate 64 7, 88, none⟩

def digests (s : State) (since : Nat) : State := { s with pair := { s.pair with own := [⟨1, 2048, 55, since⟩], theirs := [] } }

def resyncing (s : State) (r : Resync) : State := { s with pair := { s.pair with resync := some r } }

def snapOf : Snapshot := ⟨40, [], 3, [[(1, 2)]], [⟨7, [7], 40, 10, some featOf, 0⟩], [(1, 2, 7)], 5, []⟩

def unyoked (s : State) : State :=
  { put s [(0, Reg.RNG_STATUS_LIVE, 0), (0, Reg.WAY_MASTER_PORT, 0), (0, Reg.WAY_CFG_MODE, 1)] with dir := [], yoke := { s.yoke with commits := [], armed := [] } }

def askedOf (carriage : Option Nat) (check : Bool) (values : List (Nat × Word)) : Commit := ⟨0, carriage, 0, 500, false, check, true, false, 0, 4,
  values⟩

def badValues : List (Nat × Word) := [(regKey .REI 0 0x108, 0x03FF0003)]

def askedBy (m n : Nat) : Commit := ⟨m, some 0, 0, 500, false, false, false, true, n, 4, []⟩

def ringed (s : State) (pos : Nat) : State :=
  { put (awakeRun s) [(0, Reg.RNG_CFG_SIZE, 3), (0, Reg.RNG_CFG_POSITION, pos), (0, Reg.RNG_CFG_WEST, 4), (0, Reg.RNG_CFG_EAST, 5), (0, Reg.RNG_STATUS_LIVE, 1), (4, Reg.LAN_STATUS_TX_STATE, 4)] with ring := Ring.fresh }

def helloAt (s : State) (pos : Nat) (west : Bool) : RingHello := ⟨pos, s.rf 0 Reg.RNG_CFG_SIZE, s.gridCd, s.gridMd,
  if west then s.head.column0 - 10 * s.gridCd else s.head.column0 + (s.head.totalColumns : Int) * s.gridCd, 10, s.ringOverlap west, 0, 5, 6, 7⟩

def crossSet : DSet := ⟨[(0, 7)], [], [], [fragOf 0], 0x30000, some 5, 0, [], false, none⟩

/-! ### What WellFormed refuses, and the boundary that it takes -/

theorem test_wf_refuses_master : (Instr.registerWrite 2 0 15 0).wf = false := by decide

theorem test_wf_refuses_master_of_none : (Instr.coachReset 0x60 0).wf = false := by decide

theorem test_wf_refuses_enables : (Instr.registerWrite 1 0 16 0).wf = false := by decide

theorem test_wf_refuses_carriage : (Instr.ingTriggerEvent 48).wf = false := by decide

theorem test_wf_refuses_coach : (Instr.fifthWheelPortFail 8 0).wf = false := by decide

theorem test_wf_refuses_port : (Instr.fifthWheelPortFail 0 4).wf = false := by decide

theorem test_wf_refuses_encoder_port : (Instr.indexEvent 4).wf = false := by decide

theorem test_wf_refuses_lane : (Instr.lanePllLocked 128).wf = false := by decide

theorem test_wf_refuses_connection : (Instr.cxpDiscoveryTimeout 256).wf = false := by decide

theorem test_wf_refuses_channel : (Instr.curbWindowEnd 0 2).wf = false := by decide

theorem test_wf_refuses_package_channel : (Instr.remountComplete 16).wf = false := by decide

theorem test_wf_refuses_mailbox : (Instr.postTimeout 16).wf = false := by decide

theorem test_wf_refuses_whiffletree : (Instr.burstMaxExpire 0 9).wf = false := by decide

theorem test_wf_refuses_compare : (Instr.compareFire 16).wf = false := by decide

theorem test_wf_refuses_alarm : (Instr.alarmFire 8).wf = false := by decide

theorem test_wf_refuses_linchpin : (Instr.linchpinAcquire 1 64).wf = false := by decide

theorem test_wf_refuses_drayage : (Instr.drayageComplete 0 32).wf = false := by decide

theorem test_wf_refuses_credit : (Instr.drayageCredit 0 16).wf = false := by decide

theorem test_wf_refuses_mews : (Instr.mewsFlushBoundary 0 1024).wf = false := by decide

theorem test_wf_refuses_gio : (Instr.gioInputEdge 32 true).wf = false := by decide

theorem test_wf_takes_the_last_of_each : ([
    .registerWrite 0x7F 0 15 0,
    .registerWrite 0x5F 0 0 0,
    .ingTriggerEvent 47,
    .fifthWheelPortFail 7 3,
    .lanePllLocked 127,
    .cxpDiscoveryTimeout 255,
    .curbWindowEnd 7 1,
    .remountComplete 15,
    .postTimeout 15,
    .burstMaxExpire 7 8,
    .compareFire 15,
    .alarmFire 7,
    .linchpinAcquire 1 63,
    .drayageComplete 7 31,
    .drayageCredit 7 15,
    .mewsFlushBoundary 7 1023,
    .gioInputEdge 31 true] : List Instr).all Instr.wf = true := by decide

/-! ### The block as a whole -/

theorem test_no_row_has_bits : decodeTableWord 32 0xFFFFFFFF = none := rfl

theorem test_step_idles_on_an_empty_queue : step live = .next live := rfl

theorem test_every_step_keeps_the_invariant_met : ∃ s t : State, Machine.Inv s ∧ step s = .next t ∧ s.pending ≠ [] :=
  ⟨{ State.reset with pending := [.referenceReturn 3] }, after (.referenceReturn 3) State.reset, by unfold Machine.Inv; decide, rfl, by decide⟩

theorem test_every_command_stays_in_its_frame_met : ∃ (c : Instr) (s t : State), exec c s = .next t := ⟨.sleepDrainDone, live, _, rfl⟩

theorem test_reset_identity : State.reset.word .GLB 0 0 = 0x08080008 := by decide

theorem test_felloe_corrects_a_symbol : felloeRead (felloe 0x0123456789ABCDEF false ^^^ 9 * 16 ^ 7) = (.corrected 7, 0x0123456789ABCDEF) := by
  decide +kernel

theorem test_felloe_keeps_poison : (felloeRead (felloe 5 true ^^^ 3 * 16 ^ 19)).1 = .poison := by decide +kernel

/-! ### A signed image that passes

A full image of a part of one coach with one DIMM on each channel, made by hand from the layout of R42 to R62 and signed with a P-384 key whose digest is in
key slot 0; each number is a block of 64 bytes, first byte lowest. -/

/-- The image, first half. -/
def imageBlocksA : List Nat :=
  [0x9000001000000000b00ff01010000064001000100484b4c47,
    0x0,
    0x0,
    0x91fd4d1d000000000000000000000000000000000000000000000000000000000000000000000000000000000000000000000000000000000000000000000000,
    0xe5a9a293000000000000000100000010000002c000100100454e414c000000007145d426000000000000000100000040000002800040010044414548,
    0x9cf8a9a400000000000000070000007000000340001001004e474e450000000052510941000000000000000100000040000003000040010052524143,
    0x266356c5000000000000000600000030000004400008010054554f5200000000f952be94000000000000000600000060000003c0001001005357454d,
    0xde4007e7000000000000000100000008000004c00008010046494857000000001ba26dd900000000000000010000002000000480002001004d415244,
    0x54000080100454b4f5900000000cf92fb05000000000000000100000040000005000040010057594157,
    0x7795f6ca00000000000000010000010000000540010001004e474953,
    0x40000000000000000000000040000027100000271001000064,
    0x3000001000200,
    0x40000008000000000000001000000000003e80000000000000000004000400001000100000100]

/-- The image, second half. -/
def imageBlocksB : List Nat :=
  [0x150000080c0000000050000000005000010000080b00000000300000000030000a00000801000000002000000000200001000008000000000010000000001,
    0x100000900000000008ff000000080000100000822000000007000000000700001000008210000000060000000006,
    0x1000010000000300000040000000000010000100000002000000300000000000100001000000010000002000000000001000010000000000000010000,
    0x100001000000050000006000000000001000010000000400000050000,
    0x600060000000500050005000000040004000400000003000300030000000200020002000000010001000100000000,
    0x10000000c0001ff050001,
    0x400000f0080000,
    0x80000000000000000000400000000000100000000000003e804040100,
    0xd83815240dd84c4421acd82b3003436ffd5058b43f4ed8e4f20075b95dedc336cd4ea4e8fb08460f24666c1f19e51b07efc1704c796011dbe1e97a0400000001,
    0xd2c5b89a4031a736311d916d3c993261500d9b875aa368850000004fe7f6bbcca6f363ed48394579ed47bb140fdb71a561d099940bb05ceb3636ee0d9a394b03,
    0xd8bf304622f1942e6d83e3519016376c4cd4c880b31e3ea9a5223ffec413f07bef235e00bd948f5648ea152804a5778cf3d24cdf6a6c3a45815242811ea0d76f,
    0x57dee454e345a71e]

/-- Its bytes. -/
def imageBytes : List Byte := (imageBlocksA ++ imageBlocksB).flatMap (toBytes 64)

/-- The digest of its owner key. -/
def ownerDigest : Nat := 0xc3b57d27ccdc793b2f07aef9ecac5e536714cbe4b860c77e8bd948b1946914d7a4b099f4e978d8752407fa846592fff8

/-- A part of one coach that holds the key and has trained its DRAM. -/
def owned : State :=
  put { State.reset with
    hw := { State.reset.hw with coaches := 1, dimms := State.reset.hw.dimms.take 2 }
    keys := [.enrolled ownerDigest, .empty, .empty, .empty] }
    [(chanInst 0, Reg.DMC_STATUS_STATE, 2), (chanInst 1, Reg.DMC_STATUS_STATE, 2)]

/-- R61: the digest of three bytes that the standard prints. -/
theorem test_sha384_of_abc : beAt (sha384 [0x61, 0x62, 0x63]) 0 48 =
    0xcb00753f45a35e8bb5a03d699ac65007272c32ab0eded1631a8b605a43ff5bed8086072ba1e7cc2358baeca134c825a7 := by decide +kernel

/-- R62: the signature of that image, made with another program, is good for its digest. -/
theorem test_signature_of_the_image : ecdsaOk
    0x7ae9e1db1160794c70c1ef071be5191f6c66240f4608fbe8a44ecd36c3ed5db97500f2e4d84e3fb45850fd6f4303302b
    0xd8ac21444cd80d241538d8034b399a0dee3636eb5cb00b9499d061a571db0f14bb47ed79453948ed63f3a6ccbbf6e74f
    0x7a1755225dc621f8d51b1f32dd2e3847552be66e904e9be5bd2770a80c261af048eb0a7f9cdaa88eba4d3a18c1f38162
    0x8568a35a879b0d506132993c6d911d3136a731409ab8c5d26fd7a01e81425281453a6c6adf4cd2f38c77a5042815ea48
    0x9280f0e8cd19a66f0fd6b1c557a372b3c4294b3a70c9a67f3aba20371d6865730926cc691b0f759aae3dade168efd093 = true := by decide +kernel

/-- The load of that image from the Outrider's buffer. -/
def imageLoad : Loading := ⟨.request, 3, false, false, imageBytes, none⟩

/-- That part with the load under way in phase n. -/
def carrying (n : Nat) : State :=
  put { owned with hdr := { owned.hdr with load := some imageLoad, orBuf := imageBytes } } [(0, Reg.HDR_STATUS_PHASE, n)]

/-! What the check says of that image, a few rules at a time. The Rein rules (Y-04F0 to Y-04F2) read some hundreds of registers that the image
leaves as they were, so one look at the registers answers for all of them. -/

theorem firstErr_append (a b : List (Option HErr)) (h : firstErr a = none) : firstErr (a ++ b) = firstErr b := by
  induction a with
  | nil => rfl
  | cons x t ih => cases x with
    | none => exact ih h
    | some e => cases h

theorem firstRule_append (a b : List (Nat × Option Nat)) (h : firstRule a = none) : firstRule (a ++ b) = firstRule b := by
  induction a with
  | nil => rfl
  | cons x t ih => obtain ⟨c, x⟩ := x; cases x with
    | none => exact ih h
    | some e => cases h

theorem firstBad_none (l : List (Bool × Nat)) (h : ∀ x ∈ l, x.1 = false) : firstBad l = none := by
  induction l with
  | nil => rfl
  | cons x t ih =>
    obtain ⟨c, k⟩ := x
    obtain rfl : c = false := h (c, k) (by simp)
    exact ih (fun y hy => h y (by simp [hy]))

theorem cget_absent {α : Type} (m : List (Nat × α)) (a : Nat) (h : ∀ p ∈ m, p.1 ≠ a) : cget m a = none := by
  induction m with
  | nil => rfl
  | cons p t ih =>
    rw [cget, if_neg (fun e => h p (by simp) e.symm)]
    exact ih (fun q hq => h q (by simp [hq]))

/-- A state whose registers of the Reins and Buckles stand at reset, but for the class register of C0. -/
def reinsIdle (v : State) : Bool := v.regs.all (fun p => !(p.1 / 4294967296 == 12) && !(p.1 / 4294967296 == 13) || p.1 == 51539607552)

theorem rf_idle (v : State) (h : reinsIdle v = true) (i : Nat) (f : Fld) (hb : f.blk = .REI ∨ f.blk = .BKL) (ho : f.off % 1048576 ≠ 0) :
    v.rf i f = f.rst := by
  have hn : cget v.regs (regKey f.blk i f.off) = none := by
    refine cget_absent _ _ (fun p hp e => ?_)
    have hq := (List.all_eq_true.mp h) p hp
    rw [e] at hq
    rcases hb with hb | hb <;> simp [hb, regKey, Blk.code] at hq <;> omega
  rw [State.rf, hn]

/-- The state that the image would leave, from phase n. -/
def left (n : Nat) : State := (carrying n).wouldBe (readImage imageBytes)

theorem left_idle (n : Nat) (h : n = 1 ∨ n = 6) : reinsIdle (left n) = true ∧ (left n).reinCoaches = [0] := by
  rcases h with rfl | rfl <;> decide +kernel

section Idle

variable {v : State} (h : reinsIdle v = true) (hc : v.reinCoaches = [0])
include h

theorem idle_buckles : v.bucklesOn 0 = [] := by
  refine List.filter_eq_nil_iff.mpr (fun b hb => ?_)
  have hb := List.mem_range.mp hb
  rw [State.rb, rf_idle v h _ _ (.inr rfl) (by simp [Fld.sh, Reg.BKL_OUT_ENABLE]; omega)]
  exact Bool.false_ne_true

theorem idle_sources : v.sourcesOn 0 = [] := by
  refine List.filter_eq_nil_iff.mpr (fun b hb => ?_)
  have hb := List.mem_range.mp hb
  rw [State.rb, rf_idle v h _ _ (.inl rfl) (by simp [Fld.sh, Reg.REI_SRC_ENABLE]; omega)]
  exact Bool.false_ne_true

theorem idle_sinks : v.sinksOn 0 = [] := by
  refine List.filter_eq_nil_iff.mpr (fun b hb => ?_)
  have hb := List.mem_range.mp hb
  rw [State.rb, rf_idle v h _ _ (.inl rfl) (by simp [Fld.sh, Reg.REI_SNK_ENABLE]; omega)]
  exact Bool.false_ne_true

theorem idle_channel (n : Nat) (hn : n < 96) : v.chanRate 0 n = 0 ∧ v.chanUsed 0 n = false := by
  have hr (f : Fld) (hb : f.blk = .REI) (h1 : 0 < f.off) (h2 : f.off < 0x10000) : v.rf (chanFld 0 n f).1 (chanFld 0 n f).2 = f.rst := by
    unfold chanFld
    split
    · exact rf_idle v h _ _ (.inl hb) (by simp [Fld.sh]; omega)
    · exact rf_idle v h _ _ (.inl hb) (by simp [Fld.sh]; omega)
  simp only [State.chanRate, State.chanUsed, State.chanOwner, idle_buckles h, idle_sources h, idle_sinks h]
  rw [hr _ rfl (by decide) (by decide), hr _ rfl (by decide) (by decide)]
  exact ⟨rfl, rfl⟩

include hc

theorem idle_rules : v.y04f0 = none ∧ v.y04f1 = none ∧ v.y04f2 = none := by
  refine ⟨?_, ?_, ?_⟩
  · have he : v.plainEdges 0 = [] := by simp [State.plainEdges, idle_buckles h]
    simp only [State.y04f0, hc, List.map_cons, List.map_nil, he]
    rfl
  · simp [State.y04f1, hc, idle_buckles h, idle_sources h, idle_sinks h, firstBad]
  · refine firstBad_none _ (fun x hx => ?_)
    simp only [hc, idle_sources h, idle_sinks h, List.flatMap_cons, List.flatMap_nil, List.map_nil, List.append_nil, List.mem_append, List.mem_map,
      List.mem_range] at hx
    rcases hx with ⟨n, hn, rfl⟩ | ⟨b, hb, rfl⟩
    · obtain ⟨h1, h2⟩ := idle_channel h n (by simpa using hn)
      simp [h1, h2]
    · have hf : v.rf (unitOf 0 0) (Reg.BKL_CFG_FILTER.sh (16 * b)) = 0 :=
        rf_idle v h _ _ (.inr rfl) (by simp [Fld.sh, Reg.BKL_CFG_FILTER]; omega)
      simp [hf]

end Idle

theorem parseErr_of_part (s t : State) (h : s.hw = t.hw) (k : s.keys = t.keys) (b : List Byte) : s.parseErr b = t.parseErr b := by
  cases s; cases t; cases h; cases k; rfl

theorem image_parses : (owned.parseErr imageBytes).isNone = true := by decide +kernel

/-- An image passes where it parses, its KIND suits, and every rule of the check passes: those before H-0701, H-0701, and those after. -/
theorem imageErr_none (s : State) (b : List Byte) (hp : s.parseErr b = none) (hk : (readImage b).hdr.kind = 1)
    (h : (firstErr ((s.checkRules (readImage b) b).take 27)).isNone = true ∧ (firstErr ((s.checkRules (readImage b) b).drop 28)).isNone = true)
    (h7 : (s.wouldBe (readImage b)).h0701 (readImage b) = none) : s.imageErr b false = none := by
  have hc : s.checkErr (readImage b) b = none := by
    rw [State.checkErr, ← List.take_append_drop 27 (State.checkRules _ _ _), firstErr_append _ _ (Option.isNone_iff_eq_none.mp h.1)]
    show firstErr ((s.wouldBe (readImage b)).h0701 (readImage b) :: (s.checkRules (readImage b) b).drop 28) = none
    rw [h7]
    exact Option.isNone_iff_eq_none.mp h.2
  simp [State.imageErr, hp, hk, hc]

theorem image_rules (n : Nat) (h : n = 1 ∨ n = 6) :
    (firstErr (((carrying n).checkRules (readImage imageBytes) imageBytes).take 27)).isNone = true ∧
    (firstErr (((carrying n).checkRules (readImage imageBytes) imageBytes).drop 28)).isNone = true := by
  rcases h with rfl | rfl <;> decide +kernel

/-- The registers that an image's YOKE section names. -/
def yokeKeys (v : State) (im : Image) : List Nat := im.yokes.filterMap (fun e => (v.locate 0 e.1).map (fun l => regKey l.blk l.inst l.off))

theorem h0701_none (v : State) (im : Image) (hi : reinsIdle v = true) (hc : v.reinCoaches = [0])
    (h : (firstRule ((v.yRules (yokeKeys v im) [] none).take 41)).isNone = true) : v.h0701 im = none := by
  have hy : v.yCheck (yokeKeys v im) [] none = none := by
    obtain ⟨h0, h1, h2⟩ := idle_rules hi hc
    rw [State.yCheck, ← List.take_append_drop 41 (State.yRules _ _ _ _), firstRule_append _ _ (Option.isNone_iff_eq_none.mp h)]
    show firstRule [(0x04F0, v.y04f0), (0x04F1, v.y04f1), (0x04F2, v.y04f2), (0x04F3, none)] = none
    rw [h0, h1, h2]
    rfl
  simp only [State.h0701, show v.yCheck (im.yokes.filterMap (fun e => (v.locate 0 e.1).map (fun l => regKey l.blk l.inst l.off))) [] none = none from hy]

theorem image_yoke_rules (n : Nat) (h : n = 1 ∨ n = 6) :
    (firstRule (((left n).yRules (yokeKeys (left n) (readImage imageBytes)) [] none).take 41)).isNone = true := by
  rcases h with rfl | rfl <;> decide +kernel

theorem image_kind : (readImage imageBytes).hdr.kind = 1 := by decide +kernel

theorem carrying_part (n : Nat) : (carrying n).hw = owned.hw ∧ (carrying n).keys = owned.keys := by
  simp only [carrying, put, List.foldl_cons, List.foldl_nil]
  exact ⟨rfl, rfl⟩

/-- The image passes, from phase 1 and from phase 6. -/
theorem image_passes (n : Nat) (h : n = 1 ∨ n = 6) : (carrying n).imageErr imageBytes false = none :=
  imageErr_none (carrying n) imageBytes
    ((parseErr_of_part (carrying n) owned (carrying_part n).1 (carrying_part n).2 imageBytes).trans (Option.isNone_iff_eq_none.mp image_parses))
    image_kind (image_rules n h)
    (h0701_none (left n) (readImage imageBytes) (left_idle n h).1 (left_idle n h).2 (image_yoke_rules n h))

/-- R67: a load whose source is complete and whose image passes every rule of R72. -/
theorem test_an_image_that_passes_its_check_met : ∃ (s : State) (l : Loading) (bytes : List Byte), s.hdr.load = some l ∧ s.phase = 1 ∧
    s.sourceBytes l.src = some bytes ∧ ¬ ((l.src = 0 ∧ s.store.badA = true) ∨ (l.src = 1 ∧ s.store.badB = true)) ∧
    s.imageErr bytes l.patch = none ∧ l.checkOnly = false ∧ l.patch = false :=
  ⟨carrying 1, imageLoad, imageBytes, by decide +kernel, by decide +kernel, by decide +kernel, by decide +kernel, image_passes 1 (.inl rfl), rfl, rfl⟩

/-- R66: a slot that is being programmed with an image that passes. -/
theorem test_an_image_that_goes_into_a_slot_met : ∃ (s : State) (l : Loading), s.hdr.load = some l ∧ s.phase = 6 ∧
    s.imageErr l.bytes false = none ∧ l.bytes.length ≤ s.slotBytes :=
  ⟨carrying 6, imageLoad, by decide +kernel, by decide +kernel, image_passes 6 (.inr rfl), by decide +kernel⟩

/-! ### States that meet the hypotheses of the statements -/

theorem test_sleep_is_entered_and_left_step_by_step_met :
    (∃ s : State, s.hw.coaches ≤ 8 ∧ Reaches s .PWR 0 ∧ drayMaster mOut = false ∧ s.standby = false ∧ s.rf 0 Reg.PWR_STATE_STATE = 3) ∧
    (∃ s : State, s.hw.coaches ≤ 8 ∧ Reaches s .PWR 0 ∧ drayMaster mHost = false ∧ s.standby = false ∧ s.rf 0 Reg.HDR_STATUS_PHASE ≠ 0) ∧
    (∃ s : State, s.hw.coaches ≤ 8 ∧ Reaches s .PWR 0 ∧ drayMaster mOut = false ∧ s.standby = false ∧ s.rf 0 Reg.PWR_STATE_STATE = 0 ∧
      s.rf 0 Reg.GLB_BOOT_STAGE_STAGE = 12 ∧ s.rf 0 Reg.HDR_STATUS_PHASE = 0 ∧ s.yoke.commits = [] ∧ Reg.PWR_CTL_TARGET.of 2 = 2 ∧
      Reg.PWR_CTL_FORCE.of 2 = 0 ∧ s.keepInBox = false ∧ s.rf64 0 Reg.DBM_SEQ_LO_SEQ ≠ s.rf64 0 Reg.DBM_ACK_LO_SEQ) ∧
    (∃ s : State, s.hw.coaches ≤ 8 ∧ Reaches s .PWR 0 ∧ drayMaster mOut = false ∧ s.standby = false ∧ s.rf 0 Reg.PWR_STATE_STATE = 0 ∧
      s.rf 0 Reg.GLB_BOOT_STAGE_STAGE = 12 ∧ s.rf 0 Reg.HDR_STATUS_PHASE = 0 ∧ s.yoke.commits = [] ∧ Reg.PWR_CTL_TARGET.of 1 = 1) ∧
    (∃ s : State, s.hw.coaches ≤ 8 ∧ Reaches s .PWR 0 ∧ drayMaster mOut = false ∧ s.standby = false ∧ s.rf 0 Reg.PWR_STATE_STATE = 0 ∧
      s.rf 0 Reg.GLB_BOOT_STAGE_STAGE = 12 ∧ s.rf 0 Reg.HDR_STATUS_PHASE = 0 ∧ s.yoke.commits = [] ∧ Reg.PWR_CTL_TARGET.of forceWord = 2 ∧
      Reg.PWR_CTL_FORCE.of forceWord = 1) ∧
    (∃ s : State, s.hw.coaches ≤ 8 ∧ s.pwr.step = .draining) ∧
    (∃ s : State, s.hw.coaches ≤ 8 ∧ s.pwr.step = .drayage) ∧
    (∃ s : State, s.hw.coaches ≤ 8 ∧ s.pwr.step = .clocks ∧ s.pwr.wakeDuring = true) ∧
    (∃ s : State, s.hw.coaches ≤ 8 ∧ s.pwr.step = .clocks ∧ s.pwr.wakeDuring = false ∧ s.rf 0 Reg.PWR_STATE_TARGET ≠ 2) ∧
    (∃ s : State, s.hw.coaches ≤ 8 ∧ s.pwr.step = .clocks ∧ s.pwr.wakeDuring = false ∧ s.rf 0 Reg.PWR_STATE_TARGET = 2) ∧
    (∃ s : State, s.hw.coaches ≤ 8 ∧ s.pwr.off = false ∧ s.rf 0 Reg.PWR_STATE_STATE = 2 ∧ s.wakeEnabled 6 3 = true ∧ s.pwr.tripped = false) ∧
    (∃ s : State, s.hw.coaches ≤ 8 ∧ s.pwr.off = false ∧ s.rf 0 Reg.PWR_STATE_STATE = 1 ∧ s.wakeEnabled 1 1 = true ∧ s.pwr.tripped = false) ∧
    (∃ s : State, s.hw.coaches ≤ 8 ∧ s.pwr.off = false ∧ s.rf 0 Reg.PWR_STATE_STATE = 1 ∧ (s.wakeEnabled 5 1 = false ∨ s.pwr.tripped = true)) ∧
    (∃ s : State, s.hw.coaches ≤ 8 ∧ Reaches s .PWR 0 ∧ s.rf 0 Reg.PWR_STATE_STATE = 2 ∧ s.pwr.tripped = false) ∧
    (∃ s : State, s.hw.coaches ≤ 8 ∧ Reaches s .PWR 0 ∧ s.rf 0 Reg.PWR_STATE_STATE = 1 ∧ s.pwr.tripped = false) ∧
    (∃ s : State, s.hw.coaches ≤ 8 ∧ Reaches s .PWR 0 ∧ s.rf 0 Reg.PWR_STATE_STATE = 2 ∧ s.pwr.tripped = true ∧
      (760 : Int) ≤ sgn 16 (s.rf 0 Reg.PWR_TEMP_MAX)) ∧
    (∃ s : State, s.hw.coaches ≤ 8 ∧ Reaches s .PWR 0 ∧ mHost ≠ mOut ∧ (mHost ≠ mHost ∨ s.rf 0 Reg.PWR_STATE_STATE ≠ 1)) ∧
    (∃ s : State, s.hw.coaches ≤ 8 ∧ Reaches s .PWR 0 ∧ s.rf 0 Reg.GLB_BOOT_STAGE_STAGE = 3 ∧ s.rf 0 Reg.GLB_BOOT_STAGE_STATE = 1) ∧
    (∃ s : State, s.hw.coaches ≤ 8 ∧ Reaches s .PWR 0 ∧ s.rf 0 Reg.GLB_BOOT_STAGE_STAGE = 3 ∧ s.rf 0 Reg.GLB_BOOT_STAGE_STATE = 1 ∧ mHost ≠ mOut) ∧
    (∃ s : State, s.hw.coaches ≤ 8 ∧ s.rf 0 Reg.PWR_STATE_STATE ≠ 4) ∧
    (∃ s : State, s.hw.coaches ≤ 8 ∧ s.rf 0 Reg.PWR_STATE_STATE = 4 ∧ s.rf 0 Reg.GLB_BOOT_STAGE_STAGE = 12 ∧ s.pwr.fromBox = false) :=
  ⟨⟨put (asleep live 3) [(0, Reg.PWR_STATE_COACH_UP, 255), (0, Reg.GLB_GUARD_OUTRIDER, 1)], by unfold Reaches; decide +kernel⟩,
   ⟨put (awakeRun live) [(0, Reg.HDR_STATUS_PHASE, 3)], by unfold Reaches; decide +kernel⟩,
   ⟨{ put (awakeRun live) [(0, Reg.DBM_SEQ_LO_SEQ, 5), (0, Reg.DBM_ACK_LO_SEQ, 3), (0, Reg.DMC_PWR_KEEP_IN_BOX, 0)] with yoke := { live.yoke with commits := [] } },
     by unfold Reaches; decide +kernel⟩,
   ⟨{ awakeRun live with yoke := { live.yoke with commits := [] } }, by unfold Reaches; decide +kernel⟩,
   ⟨{ awakeRun live with yoke := { live.yoke with commits := [] }, wwt := [(0, { wwtFresh with running := true })] },
     by unfold Reaches; decide +kernel⟩,
   ⟨{ awakeRun live with pwr := { live.pwr with step := .draining } }, by decide +kernel⟩,
   ⟨{ awakeRun live with pwr := { live.pwr with step := .drayage } }, by decide +kernel⟩,
   ⟨{ awakeRun live with pwr := { live.pwr with step := .clocks, wakeDuring := true } }, by decide +kernel⟩,
   ⟨{ put (asleep live 3) [(0, Reg.PWR_STATE_TARGET, 1)] with pwr := { live.pwr with step := .clocks, wakeDuring := false } }, by decide +kernel⟩,
   ⟨{ put (asleep live 3) [(0, Reg.PWR_STATE_TARGET, 2)] with pwr := { live.pwr with step := .clocks, wakeDuring := false } }, by decide +kernel⟩,
   ⟨put (asleep live 2) [(0, Reg.PWR_WAKE_EN_ALARM, 1), (0, Reg.TMT_ALM_CTL_WAKE.sh 0x60, 1)], by decide +kernel⟩,
   ⟨put (asleep live 1) [(0, Reg.PWR_WAKE_EN_MOTION, 1), (0, Reg.WAY_WAKE_ENABLE.sh 0x100, 1)], by decide +kernel⟩,
   ⟨asleep live 1, by decide +kernel⟩,
   ⟨guarded (asleep live 2), by unfold Reaches; decide +kernel⟩,
   ⟨guarded (asleep live 1), by unfold Reaches; decide +kernel⟩,
   ⟨{ put (guarded (asleep live 2)) [(0, Reg.PWR_TEMP_MAX, 760)] with pwr := { live.pwr with tripped := true } }, by unfold Reaches; decide +kernel⟩,
   ⟨guarded (asleep live 2), by unfold Reaches; decide +kernel⟩,
   ⟨put (guarded (awakeRun live)) [(0, Reg.GLB_BOOT_STAGE_STAGE, 3), (0, Reg.GLB_BOOT_STAGE_STATE, 1)], by unfold Reaches; decide +kernel⟩,
   ⟨put (guarded (awakeRun live)) [(0, Reg.GLB_BOOT_STAGE_STAGE, 3), (0, Reg.GLB_BOOT_STAGE_STATE, 1)], by unfold Reaches; decide +kernel⟩,
   ⟨asleep live 1, by decide +kernel⟩,
   ⟨{ asleep live 4 with pwr := { live.pwr with fromBox := false } }, by decide +kernel⟩⟩

theorem test_start_up_climbs_and_resets_restore_met :
    (∃ s : State, s.hw.coaches ≤ 8 ∧ s.pwr.off = false ∧ s.rf 0 Reg.GLB_BOOT_STAGE_STATE = 0 ∧ s.rf 0 Reg.PWR_STATE_STATE = 0 ∧
      s.rf 0 Reg.GLB_BOOT_STAGE_STAGE = 1) ∧
    (∃ s : State, s.hw.coaches ≤ 8 ∧ s.pwr.off = false ∧ s.rf 0 Reg.GLB_BOOT_STAGE_STATE = 0 ∧ s.rf 0 Reg.PWR_STATE_STATE = 0 ∧
      s.rf 0 Reg.GLB_BOOT_STAGE_STAGE = 2 ∧ s.pwr.rstHeld = false) ∧
    (∃ s : State, s.hw.coaches ≤ 8 ∧ s.pwr.off = false ∧ s.rf 0 Reg.GLB_BOOT_STAGE_STATE = 0 ∧ s.rf 0 Reg.PWR_STATE_STATE = 0 ∧
      s.rf 0 Reg.GLB_BOOT_STAGE_STAGE = 2 ∧ s.pwr.rstHeld = true) ∧
    (∃ s : State, s.hw.coaches ≤ 8 ∧ s.pwr.off = false ∧ s.rf 0 Reg.GLB_BOOT_STAGE_STATE = 0 ∧ s.rf 0 Reg.PWR_STATE_STATE = 0 ∧
      s.rf 0 Reg.GLB_BOOT_STAGE_STAGE = 3 ∧ s.store.daxA = false ∧ s.store.daxB = false) ∧
    (∃ s : State, s.hw.coaches ≤ 8 ∧ s.pwr.off = false ∧ s.rf 0 Reg.GLB_BOOT_STAGE_STATE = 0 ∧ s.rf 0 Reg.PWR_STATE_STATE = 0 ∧
      s.rf 0 Reg.GLB_BOOT_STAGE_STAGE = 3 ∧ (s.store.daxA = true ∨ s.store.daxB = true) ∧ (s.rf 0 Reg.GLB_STRAP_STRAP).testBit 7 = true) ∧
    (∃ s : State, s.hw.coaches ≤ 8 ∧ s.pwr.off = false ∧ s.rf 0 Reg.GLB_BOOT_STAGE_STATE = 0 ∧ s.rf 0 Reg.PWR_STATE_STATE = 0 ∧
      s.rf 0 Reg.GLB_BOOT_STAGE_STAGE = 3 ∧ (s.store.daxA = true ∨ s.store.daxB = true) ∧ (s.rf 0 Reg.GLB_STRAP_STRAP).testBit 7 = false) ∧
    (∃ s : State, s.hw.coaches ≤ 8 ∧ s.pwr.off = false ∧ s.rf 0 Reg.GLB_BOOT_STAGE_STATE = 0 ∧ s.rf 0 Reg.PWR_STATE_STATE = 0 ∧
      s.rf 0 Reg.GLB_BOOT_STAGE_STAGE = 4) ∧
    (∃ s : State, s.hw.coaches ≤ 8 ∧ s.pwr.off = false ∧ s.rf 0 Reg.GLB_BOOT_STAGE_STATE = 0 ∧ s.rf 0 Reg.PWR_STATE_STATE = 0 ∧
      s.rf 0 Reg.GLB_BOOT_STAGE_STAGE = 5) ∧
    (∃ s : State, s.hw.coaches ≤ 8 ∧ s.pwr.off = false ∧ s.rf 0 Reg.GLB_BOOT_STAGE_STATE = 0 ∧ s.rf 0 Reg.PWR_STATE_STATE = 0 ∧
      s.rf 0 Reg.GLB_BOOT_STAGE_STAGE = 4) ∧
    (∃ s : State, s.hw.coaches ≤ 8 ∧ s.pwr.off = false ∧ s.rf 0 Reg.GLB_BOOT_STAGE_STATE = 0 ∧ s.rf 0 Reg.PWR_STATE_STATE = 0 ∧
      s.rf 0 Reg.GLB_BOOT_STAGE_STAGE = 6 ∧ s.dimmFault = some 3) ∧
    (∃ s : State, s.hw.coaches ≤ 8 ∧ s.pwr.off = false ∧ s.rf 0 Reg.GLB_BOOT_STAGE_STATE = 0 ∧ s.rf 0 Reg.PWR_STATE_STATE = 0 ∧
      s.rf 0 Reg.GLB_BOOT_STAGE_STAGE = 6 ∧ s.dimmFault = none) ∧
    (∃ s : State, s.hw.coaches ≤ 8 ∧ s.pwr.off = false ∧ s.rf 0 Reg.GLB_BOOT_STAGE_STATE = 0 ∧ s.rf 0 Reg.PWR_STATE_STATE = 0 ∧
      s.rf 0 Reg.GLB_BOOT_STAGE_STAGE = 7 ∧ s.rf 0 Reg.HDR_STATUS_ACTIVE = 1) ∧
    (∃ s : State, s.hw.coaches ≤ 8 ∧ s.pwr.off = false ∧ s.rf 0 Reg.GLB_BOOT_STAGE_STATE = 0 ∧ s.rf 0 Reg.PWR_STATE_STATE = 0 ∧
      s.rf 0 Reg.GLB_BOOT_STAGE_STAGE = 11 ∧ s.rf 0 Reg.HDR_STATUS_ACTIVE = 1) ∧
    (∃ s : State, s.hw.coaches ≤ 8 ∧ s.pwr.off = false ∧ s.rf 0 Reg.GLB_BOOT_STAGE_STATE = 0 ∧ s.rf 0 Reg.PWR_STATE_STATE = 0 ∧
      s.rf 0 Reg.GLB_BOOT_STAGE_STAGE = 10 ∧ s.rf 0 Reg.HDR_STATUS_ACTIVE = 1) ∧
    (∃ s : State, s.hw.coaches ≤ 8 ∧ s.pwr.off = false ∧ s.rf 0 Reg.GLB_BOOT_STAGE_STATE = 0 ∧ s.rf 0 Reg.PWR_STATE_STATE = 0 ∧
      s.rf 0 Reg.GLB_BOOT_STAGE_STAGE = 8 ∧ s.rf 0 Reg.HDR_STATUS_ACTIVE = 1) ∧
    (∃ s : State, s.hw.coaches ≤ 8 ∧ s.pwr.off = false ∧ s.rf 0 Reg.GLB_BOOT_STAGE_STATE = 0 ∧ s.rf 0 Reg.PWR_STATE_STATE = 0 ∧
      s.rf 0 Reg.GLB_BOOT_STAGE_STAGE = 9 ∧ s.rf 0 Reg.HDR_STATUS_ACTIVE = 1) ∧
    (∃ s : State, s.hw.coaches ≤ 8) ∧
    (∃ s : State, s.hw.coaches ≤ 8) ∧
    (∃ s : State, s.hw.coaches ≤ 8 ∧ s.pwr.rstHeld = true ∧ s.pwr.off = false ∧ s.rf 0 Reg.GLB_BOOT_STAGE_STAGE = 2 ∧
      s.rf 0 Reg.GLB_BOOT_STAGE_STATE = 1) ∧
    (∃ s : State, s.hw.coaches ≤ 8 ∧ 199 < 200) ∧
    (∃ s : State, s.hw.coaches ≤ 8 ∧ s.pwr.off = false ∧ s.pwr.tripped = false) ∧
    (∃ s : State, s.hw.coaches ≤ 8 ∧ Reaches s .PWR 0 ∧ mHost ≠ mOut) ∧
    (∃ s : State, s.hw.coaches ≤ 8 ∧ Reaches s .PWR 0 ∧ Reg.PWR_RESET_CTL_COACH.of (coachResetWord 2) = 2 ∧ 2 < s.hw.coaches) ∧
    (∃ s : State, s.hw.coaches ≤ 8 ∧ Reaches s .PWR 0 ∧ Reg.PWR_RESET_CTL_COACH.of (coachResetWord 0) = 0 ∧ s.pwr.tripped = false) ∧
    (∃ s : State, s.hw.coaches ≤ 8 ∧ s.pwr.resetting.contains 3 = false) ∧
    (∃ s : State, s.hw.coaches ≤ 8 ∧ s.pwr.resetting.contains 3 = true) ∧
    (∃ s : State, s.hw.coaches ≤ 8 ∧ s.pwr.resetting.contains 3 = true) ∧
    (∃ s : State, s.hw.coaches ≤ 8 ∧ s.running = false) ∧
    (∃ s : State, s.hw.coaches ≤ 8 ∧ s.running = false) ∧
    (∃ s : State, s.hw.coaches ≤ 8 ∧ s.running = true ∧ s.pwr.tripped = false ∧ 7 < s.hw.coaches) ∧
    (∃ s : State, s.hw.coaches ≤ 8 ∧ s.running = true ∧ s.pwr.tripped = false) ∧
    (∃ s : State, s.hw.coaches ≤ 8 ∧ s.running = true ∧ s.pwr.tripped = false) ∧
    (∃ s : State, s.hw.coaches ≤ 8 ∧ s.running = true ∧ s.pwr.tripped = false) ∧
    (∃ s : State, s.hw.coaches ≤ 8 ∧ s.running = true ∧ s.pwr.tripped = false) ∧
    (∃ s : State, s.hw.coaches ≤ 8 ∧ s.running = true ∧ s.pwr.tripped = false) ∧
    (∃ s : State, s.hw.coaches ≤ 8 ∧ s.pwr.off = false) ∧
    (∃ s : State, s.hw.coaches ≤ 8 ∧ s.pwr.off = false) ∧
    (∃ s : State, s.hw.coaches ≤ 8 ∧ s.pwr.off = false ∧ s.rf 0 Reg.CLK_LOCK_PCIEREF = 0) :=
  ⟨⟨atStage live 1, by decide +kernel⟩,
   ⟨{ atStage live 2 with hw := { live.hw with strapPins := 0x3A5 } }, by decide +kernel⟩,
   ⟨{ atStage live 2 with pwr := { live.pwr with rstHeld := true } }, by decide +kernel⟩,
   ⟨{ atStage live 3 with store := { live.store with daxA := false, daxB := false } }, by decide +kernel⟩,
   ⟨{ put (atStage live 3) [(0, Reg.GLB_STRAP_STRAP, 128)] with store := { live.store with daxA := false, daxB := true } }, by decide +kernel⟩,
   ⟨{ atStage live 3 with store := { live.store with daxA := true, daxB := false } }, by decide +kernel⟩,
   ⟨atStage live 4, by decide +kernel⟩,
   ⟨atStage live 5, by decide +kernel⟩,
   ⟨atStage live 4, by decide +kernel⟩,
   ⟨{ atStage live 6 with hw := { live.hw with dimms := live.hw.dimms.filter (fun e => e.1 != 0) } }, by decide +kernel⟩,
   ⟨atStage live 6, by decide +kernel⟩,
   ⟨put (atStage live 7) [(0, Reg.HDR_STATUS_ACTIVE, 1)], by decide +kernel⟩,
   ⟨put (atStage live 11) [(0, Reg.HDR_STATUS_ACTIVE, 1)], by decide +kernel⟩,
   ⟨put (atStage live 10) [(0, Reg.HDR_STATUS_ACTIVE, 1)], by decide +kernel⟩,
   ⟨put (atStage live 8) [(0, Reg.HDR_STATUS_ACTIVE, 1)], by decide +kernel⟩,
   ⟨put (atStage live 9) [(0, Reg.HDR_STATUS_ACTIVE, 1)], by decide +kernel⟩,
   ⟨{ live with mem := [(3, 4)] }, by decide +kernel⟩,
   ⟨{ live with mem := [(3, 4)] }, by decide +kernel⟩,
   ⟨{ put (atStage live 2) [(0, Reg.GLB_BOOT_STAGE_STATE, 1)] with pwr := { live.pwr with rstHeld := true } }, by decide +kernel⟩,
   ⟨live, by decide +kernel⟩,
   ⟨{ live with stalled := [⟨mHost, 0x20000, false, 0, none⟩, ⟨mOut, 0x80000, true, 5, none⟩, ⟨mHost, 0x100, false, 0, some (8, [], false)⟩] },
     by decide +kernel⟩,
   ⟨guarded (awakeRun live), by unfold Reaches; decide +kernel⟩,
   ⟨waiting { guarded (awakeRun live) with yoke := { live.yoke with commits := [⟨0, some 0, 1, 5, false, false, false, false, 0, 3, []⟩, ⟨mHost, none, 2, 5, false, false, true, true, 0, 4, []⟩] } }
     1 (.line (lineOf 9 9 900)), by unfold Reaches; decide +kernel⟩,
   ⟨guarded (awakeRun live), by unfold Reaches; decide +kernel⟩,
   ⟨awakeRun live, by decide +kernel⟩,
   ⟨{ put (awakeRun live) [(0, Reg.PWR_STATE_COACH_UP, 0xF7)] with pwr := { live.pwr with resetting := [3] } }, by decide +kernel⟩,
   ⟨{ put (awakeRun live) [(0, Reg.PWR_STATE_COACH_UP, 0xF7)] with pwr := { live.pwr with resetting := [3, 5] } }, by decide +kernel⟩,
   ⟨asleep live 1, by decide +kernel⟩,
   ⟨asleep live 1, by decide +kernel⟩,
   ⟨awakeRun live, by decide +kernel⟩,
   ⟨awakeRun live, by decide +kernel⟩,
   ⟨awakeRun live, by decide +kernel⟩,
   ⟨awakeRun live, by decide +kernel⟩,
   ⟨awakeRun live, by decide +kernel⟩,
   ⟨awakeRun live, by decide +kernel⟩,
   ⟨awakeRun live, by decide +kernel⟩,
   ⟨awakeRun live, by decide +kernel⟩,
   ⟨put (awakeRun live) [(0, Reg.CLK_LOCK_PCIEREF, 0)], by decide +kernel⟩⟩

theorem test_temperatures_trip_and_wheelwright_runs_end_met :
    (∃ s : State, 1 < s.hw.coaches ∧ s.hw.coaches ≤ 8 ∧ s.pwr.off = false ∧ ((heated [600, 65535, 500] s).hottest.1 < 880 ∨ s.pwr.tripped = true)) ∧
    (∃ s : State, 1 < s.hw.coaches ∧ s.hw.coaches ≤ 8 ∧ s.pwr.off = false ∧ 880 ≤ (heated [600, 880] s).hottest.1 ∧ s.pwr.tripped = false) ∧
    (∃ s : State, 1 < s.hw.coaches ∧ s.hw.coaches ≤ 8 ∧ (s.wwtPeriod 0 1 0 = 0 ∨ s.tmt.ns < (s.wwtAt 0 1 0).lastRun + s.wwtPeriod 0 1 0)) ∧
    (∃ s : State, 1 < s.hw.coaches ∧ s.hw.coaches ≤ 8 ∧ s.wwtPeriod 0 1 0 ≠ 0 ∧ (s.wwtAt 0 1 0).lastRun + s.wwtPeriod 0 1 0 ≤ s.tmt.ns ∧
      s.wwtExists 0 1 0 = true) ∧
    (∃ s : State, 0 < s.hw.coaches ∧ s.hw.coaches ≤ 8 ∧ Reaches s .WWT (unitOf 0 0) ∧ (0xFF1F : Word).toNat.testBit 4 = true) ∧
    (∃ s : State, 0 < s.hw.coaches ∧ s.hw.coaches ≤ 8 ∧ Reaches s .WWT (unitOf 0 0) ∧ (0x1F : Word).toNat.testBit 1 = true) ∧
    (∃ s : State, 1 < s.hw.coaches ∧ s.hw.coaches ≤ 8 ∧ (s.wwtAt 4 1 0).running = true ∧ (∀ k,
      k < 16 → ((devs readings1 s).getD k 0 - (devs readings2 s).getD k 0).natAbs ≤ 4)) ∧
    (∃ s : State, 1 < s.hw.coaches ∧ s.hw.coaches ≤ 8 ∧ (s.wwtAt 4 1 0).running = true ∧ (∃ k ∈ List.range 16,
      4 < ((devs readings1 s).getD k 0 - (devs readings3 s).getD k 0).natAbs)) :=
  ⟨⟨{ put (awakeRun live) [(0, Reg.PWR_TEMP_MAX, 100), (0, Reg.PWR_TEMP_WARN, 500), (unitOf 1 0, Reg.WWT_TSEN_BAD, 0), (unitOf 1 0, Reg.WWT_THRESH_LANE, 1)] with wwt := [(1, { wwtFresh with baseline := some 3 })] },
    by decide +kernel⟩,
   ⟨put (awakeRun live) [(0, Reg.PWR_TEMP_MAX, 100), (unitOf 1 0, Reg.WWT_TSEN_BAD, 0)], by decide +kernel⟩,
   ⟨{ live with wwt := [(1, { wwtFresh with lastRun := 10 ^ 30 })] }, by decide +kernel⟩,
   ⟨{ put live [(unitOf 1 0, Reg.WWT_PERIOD0_S, 1)] with tmt := { live.tmt with ns := 10 ^ 30 }, wwt := [(1, { wwtFresh with unsettled := true }), (1, wwtFresh)] },
     by decide +kernel⟩,
   ⟨put (guarded (awakeRun live)) [(0, Reg.PAI_STATUS_STATE, 0)], by unfold Reaches; decide +kernel⟩,
   ⟨{ put (guarded (awakeRun live)) [(0, Reg.PAI_STATUS_STATE, 0)] with wwt := [(0, ⟨some 4, 2, true, true, 1, true, 1, 2, 3, 4⟩), (65536, ⟨some 4, 7, true, true, 1, true, 1, 2, 3, 4⟩)] },
     by unfold Reaches; decide +kernel⟩,
   ⟨{ live with wwt := [(4 * 65536 + 1, { wwtFresh with running := true, rejects := 2, unsettled := true, due := true })] }, by decide +kernel⟩,
   ⟨{ live with wwt := [(4 * 65536 + 1, { wwtFresh with running := true, rejects := 2, due := true })] }, by decide +kernel⟩⟩

theorem test_register_writes_act_on_each_field_by_its_code_met :
    (∃ s : State, 0x3004 % 4 = 0 ∧ 0x3004 < 0x10000000 ∧ ¬ (0x10000 ≤ 0x3004 ∧ 0x3004 < 0x20000) ∧ 15 % 16 = 15 ∧
      ((s.locate mHost 0x3004).map (fun l => (l.blk, l.inst, l.off))) = some (Blk.OUT, 0, 4) ∧ s.stopped .OUT 0 = false) ∧
    (∃ s : State, ((s.locate mHost 0x20004).map (fun l => (l.blk, l.inst, l.off))) = some (Blk.STA, 0, 4) ∧ s.stopped .STA 0 = false ∧
      Reg.STA_CTL_ENABLE.acc = .RWS ∧ s.frozen (regKey .STA 0 4) = false) ∧
    (∃ s : State, 7 % 16 ≠ 15) :=
  ⟨⟨live, by decide +kernel⟩,
   ⟨{ live with dir := [⟨Blk.typeCode .STA, 0, 0, 0, 0, 1, 0x20000, 4096, 0⟩] }, by decide +kernel⟩,
   ⟨live, by decide +kernel⟩⟩

theorem test_unoccupied_accesses_and_ports_that_fail_are_reported_met :
    (∃ s : State, s.dramOpen 0xFFFFFFFFFF = false) ∧
    (∃ s : State, s.noBlock mHost 0xFFFFFFC = true) ∧
    (∃ s : State, 7 < s.hw.coaches ∧ 7 < 8 ∧ 3 < 4 ∧ s.pwr.off = false ∧ (s.rf 0 Reg.GLB_FAB_PORTS_FAILED).testBit (4 * 7 + 3) = false) ∧
    (∃ s : State, 0 < s.hw.coaches ∧ 0 < 8 ∧ 0 < 4 ∧ s.pwr.off = false ∧ (s.rf 0 Reg.GLB_FAB_PORTS_FAILED).testBit (4 * 0 + 0) = false ∧
      Reaches s .REI (unitOf 0 0)) :=
  ⟨⟨live, by decide +kernel⟩,
   ⟨live, by decide +kernel⟩,
   ⟨powered (put live [(0, Reg.GLB_FAB_PORTS_FAILED, 0x7FFFFFFF)]), by decide +kernel⟩,
   ⟨powered (put live [(0, Reg.GLB_FAB_PORTS_FAILED, 0)]), by unfold Reaches; decide +kernel⟩⟩

theorem test_harness_requests_start_end_or_are_refused_met :
    (∃ s : State, Reaches s .HDR 0 ∧ s.rf 0 Reg.GLB_BOOT_STAGE_STAGE < 9) ∧
    (∃ s : State, Reaches s .HDR 0 ∧ 9 ≤ s.rf 0 Reg.GLB_BOOT_STAGE_STAGE ∧ s.phase = 0 ∧ (Reg.HDR_CTL_PATCH.of (srcWord 3 1) = 1 ∧
      2 ≤ Reg.HDR_CTL_SRC.of (srcWord 3 1))) ∧
    (∃ s : State, Reaches s .HDR 0 ∧ 1 ≤ s.phase ∧ s.phase ≤ 4) ∧
    (∃ s : State, Reaches s .HDR 0 ∧ s.phase = 5 ∧ 9 ≤ s.rf 0 Reg.GLB_BOOT_STAGE_STAGE) ∧
    (∃ s : State, Reaches s .HDR 0 ∧ 1 ≤ s.phase ∧ s.phase ≤ 3) ∧
    (∃ s : State, Reaches s .HDR 0 ∧ s.phase = 4) ∧
    (∃ s : State, Reaches s .HDR 0 ∧ s.hdr.patch = some (patchOf 0 7 .pending)) ∧
    (∃ s : State, Reaches s .HDR 0 ∧ s.hdr.patch = some (patchOf 0 7 .draining) ∧ PatchStep.draining ≠ .pending) ∧
    (∃ s : State, Reaches s .HDR 0 ∧ s.phase = 0 ∧ 9 ≤ s.rf 0 Reg.GLB_BOOT_STAGE_STAGE ∧ 2 ≤ Reg.HDR_CTL_SRC.of (srcWord 3 0) ∧
      s.sourceBytes (Reg.HDR_CTL_SRC.of (srcWord 3 0)) = some [0x47, 0x4C]) ∧
    (∃ s : State, Reaches s .HDR 0 ∧ s.phase = 0 ∧ s.sourceBytes (Reg.HDR_CTL_SRC.of (srcWord 3 0)) = some [0x47, 0x4C]) :=
  ⟨⟨put (phased live 0) [(0, Reg.GLB_BOOT_STAGE_STAGE, 8)], by unfold Reaches; decide +kernel⟩,
   ⟨put (phased live 0) [(0, Reg.GLB_BOOT_STAGE_STAGE, 9)], by unfold Reaches; decide +kernel⟩,
   ⟨phased live 4, by unfold Reaches; decide +kernel⟩,
   ⟨phased live 5, by unfold Reaches; decide +kernel⟩,
   ⟨phased live 3, by unfold Reaches; decide +kernel⟩,
   ⟨phased live 4, by unfold Reaches; decide +kernel⟩,
   ⟨patching live 0 7 .pending, by unfold Reaches; decide +kernel⟩,
   ⟨patching live 0 7 .draining, by unfold Reaches; decide +kernel⟩,
   ⟨{ phased live 0 with hdr := { live.hdr with orBuf := [0x47, 0x4C] } }, by unfold Reaches; decide +kernel⟩,
   ⟨{ phased live 0 with hdr := { live.hdr with orBuf := [0x47, 0x4C] } }, by unfold Reaches; decide +kernel⟩⟩

theorem test_harness_images_pass_or_fail_whole_met :
    (∃ s : State, s.hdr.load = some ⟨.request, 3, false, false, [], none⟩ ∧ s.phase = 1 ∧ s.sourceBytes 3 = some [0x47, 0x4C] ∧ ¬ ((3 = 0 ∧
      s.store.badA = true) ∨ (3 = 1 ∧ s.store.badB = true)) ∧ (s.imageErr [0x47, 0x4C] false).map (fun e => e.code) = some 1) ∧
    (∃ s : State, s.hdr.load = some ⟨.request, 3, false, false, [], some image⟩ ∧ s.phase = 4) ∧
    (∃ s : State, s.hdr.load = some ⟨.request, 3, false, false, [], some image⟩ ∧ s.phase = 4) ∧
    (∃ s : State, s.hdr.load = some ⟨.progA, 3, false, false, [1], none⟩ ∧ s.phase = 6 ∧ (s.imageErr [1] false).isSome = true) :=
  ⟨⟨loading live 1 ⟨.request, 3, false, false, [], none⟩, by decide +kernel⟩,
   ⟨loading live 4 ⟨.request, 3, false, false, [], some image⟩, by decide +kernel⟩,
   ⟨loading live 4 ⟨.request, 3, false, false, [], some image⟩, by decide +kernel⟩,
   ⟨loading live 6 ⟨.progA, 3, false, false, [1], none⟩, by decide +kernel⟩⟩

theorem test_key_slots_are_written_once_by_the_outrider_met :
    (∃ s : State, Reaches s .HDR 0 ∧ s.keys.length = 4 ∧ Reg.HDR_KEY_CTL_SLOT.of (slotWord 3) = 3 ∧
      s.keys.getD (Reg.HDR_KEY_CTL_SLOT.of (slotWord 3)) .empty = .empty) ∧
    (∃ s : State, Reaches s .HDR 0 ∧ s.keys.length = 4 ∧ s.keys.getD (Reg.HDR_KEY_CTL_SLOT.of (slotWord 0)) .empty ≠ .empty) ∧
    (∃ s : State, Reaches s .HDR 0 ∧ s.keys.length = 4 ∧ mHost ≠ mOut) ∧
    (∃ s : State, Reaches s .HDR 0 ∧ s.keys.length = 4 ∧ s.hdr.orBuf.length + 4 ≤ 16777216) :=
  ⟨⟨{ phased live 0 with keys := [.revoked 4, .enrolled 5, .empty, .empty] }, by unfold Reaches; decide +kernel⟩,
   ⟨{ phased live 0 with keys := [.revoked 4, .enrolled 5, .empty, .empty] }, by unfold Reaches; decide +kernel⟩,
   ⟨{ phased live 0 with keys := [.revoked 4, .enrolled 5, .empty, .empty] }, by unfold Reaches; decide +kernel⟩,
   ⟨{ phased live 0 with keys := [.revoked 4, .enrolled 5, .empty, .empty], hdr := { live.hdr with orBuf := [1, 2] } },
     by unfold Reaches; decide +kernel⟩⟩

theorem test_carriage_patches_apply_in_order_met :
    (∃ s : State, s.hdr.patch = some (patchOf 2 7 .pending) ∧ s.phase = 5 ∧ s.hasEng .ING patchImage.hdr.patchCarriage = true ∧ 7 ≤ s.now) ∧
    (∃ s : State, s.hdr.patch = some (patchOf 1 0 .pending) ∧ s.phase = 5 ∧ s.hasEng .ING patchImage.hdr.patchCarriage = true ∧
      0 ≤ (s.ingOf patchImage.hdr.patchCarriage).next) ∧
    (∃ s : State, s.hdr.patch = some (patchOf 0 0 .pending) ∧ s.phase = 5 ∧ s.hasEng .ING patchImage.hdr.patchCarriage = true ∧ 0 ≤ s.webNm.toNat) ∧
    (∃ s : State, s.hdr.patch = some (patchOf 3 0 .pending) ∧ s.phase = 5 ∧ s.hasEng .ING patchImage.hdr.patchCarriage = true) ∧
    (∃ s : State, s.hdr.patch = some (patchOf 2 7 .draining) ∧ PatchStep.draining ≠ .drained) ∧
    (∃ s : State, s.hdr.patch = some (patchOf 2 7 .drained) ∧ PatchStep.drained ≠ .draining ∧ s.hasEng .ING patchImage.hdr.patchCarriage = true) ∧
    (∃ s : State, s.hdr.patch = some (patchOf 2 7 .draining)) ∧
    (∃ s : State, s.hdr.patch = some (patchOf 2 7 .drained)) :=
  ⟨⟨{ patching live 2 7 .pending with tmt := { live.tmt with ns := 7 } }, by decide +kernel⟩,
   ⟨patching live 1 0 .pending, by decide +kernel⟩,
   ⟨patching live 0 0 .pending, by decide +kernel⟩,
   ⟨patching live 3 0 .pending, by decide +kernel⟩,
   ⟨patching live 2 7 .draining, by decide +kernel⟩,
   ⟨patching live 2 7 .drained, by decide +kernel⟩,
   ⟨patching live 2 7 .draining, by decide +kernel⟩,
   ⟨patching live 2 7 .drained, by decide +kernel⟩⟩

theorem test_lanes_train_step_by_step_met :
    (∃ s : State, s.rf (laneInst 0) Reg.LAN_STATUS_RX_STATE = 3 ∧ s.rf (laneInst 0) Reg.LAN_STATUS_TRAIN_STEP = 1 ∧ s.rf 0 Reg.CLK_LOCK_LANEREF = 1 ∧
      (s.lane 0).relock = false ∧ s.isEth 0 = true ∧ s.txTarget 0 = 4 ∧ s.rf (laneInst 0) Reg.LAN_STATUS_TX_STATE ≠ 5) ∧
    (∃ s : State, s.rf (laneInst 0) Reg.LAN_STATUS_RX_STATE = 3 ∧ s.rf (laneInst 0) Reg.LAN_STATUS_TRAIN_STEP = 2 ∧ (s.lane 0).stuck = false ∧
      s.isCxp 0 = true ∧ (s.conn (s.rf (laneInst 0) Reg.LAN_CFG_CONNECTION)).disc = 0 ∧
      (s.lanesOfConn (s.rf (laneInst 0) Reg.LAN_CFG_CONNECTION)).headD 0 = 0) ∧
    (∃ s : State, s.rf (laneInst 0) Reg.LAN_STATUS_RX_STATE = 3 ∧ s.rf (laneInst 0) Reg.LAN_STATUS_TRAIN_STEP = 3 ∧ (s.lane 0).stuck = false ∧
      s.isCxp 0 = false ∧ s.isVox 0 = true ∧ 2 ≤ (s.lane 0).good ∧ (s.lane 0).relock = false ∧ (s.lane 0).peerLocked = true ∧
      (if s.isVox 0 then 18 else 16) ≤ 18 ∧ 18 < 64) ∧
    (∃ s : State, s.rf (laneInst 0) Reg.LAN_STATUS_RX_STATE = 3 ∧ s.rf (laneInst 0) Reg.LAN_STATUS_TRAIN_STEP = 3 ∧ (s.lane 0).stuck = false ∧
      s.isCxp 0 = false ∧ s.isVox 0 = false ∧ (if s.isVox 0 then 18 else 16) ≤ 16 ∧ 16 < 64) ∧
    (∃ s : State, s.rf (laneInst 0) Reg.LAN_STATUS_RX_STATE = 3 ∧ s.rf (laneInst 0) Reg.LAN_STATUS_TRAIN_STEP = 3 ∧ (s.lane 0).stuck = false ∧
      s.isCxp 0 = true ∧ (s.conn (s.rf (laneInst 0) Reg.LAN_CFG_CONNECTION)).disc = 2 ∧ s.isVox 0 = false ∧ (if s.isVox 0 then 18 else 16) ≤ 20 ∧
      20 < 64) ∧
    (∃ s : State, s.rf (laneInst 0) Reg.LAN_STATUS_RX_STATE = 3 ∧ s.rf (laneInst 0) Reg.LAN_STATUS_TRAIN_STEP = 3 ∧ (s.lane 0).stuck = false ∧
      s.isCxp 0 = false ∧ s.isVox 0 = false ∧ 15 < (if s.isVox 0 then 18 else 16) ∧ s.rxTarget 0 = 4) ∧
    (∃ s : State, s.rf (laneInst 0) Reg.LAN_STATUS_RX_STATE = 3 ∧ (s.lane 0).since = some 5 ∧ 5 + 100000000 ≤ s.now ∧ (s.lane 0).stuck = false ∧
      s.rxTarget 0 = 4 ∧ s.isCxp 0 = true ∧ s.rf (laneInst 0) Reg.LAN_STATUS_TRAIN_STEP < 3) ∧
    (∃ s : State, s.rf (laneInst 0) Reg.LAN_STATUS_RX_STATE = 3 ∧ (s.lane 0).since = some 5 ∧ 5 + 100000000 ≤ s.now ∧ (s.lane 0).stuck = false ∧
      s.rxTarget 0 = 4 ∧ s.isCxp 0 = false) ∧
    (∃ s : State, s.rf (laneInst 0) Reg.LAN_STATUS_RX_STATE = 3 ∧ s.brings 0 [4 + 256 * 0x20] (voxBits [4 + 256 * 0x20]) ∧ s.txTarget 0 = 4 ∧
      s.rf (laneInst 0) Reg.LAN_STATUS_TX_STATE = 3 ∧ s.rf (laneInst 0) Reg.LAN_STATUS_TRAIN_STEP = 4 ∧ 18 ≤ (s.lane 0).eye) :=
  ⟨⟨laned live 3 3 3 1 Lane.fresh, by decide +kernel⟩,
   ⟨{ laned live 1 3 3 2 Lane.fresh with conns := [] }, by decide +kernel⟩,
   ⟨laned live 2 3 3 3 { Lane.fresh with good := 2, peerLocked := true }, by decide +kernel⟩,
   ⟨laned live 4 3 3 3 Lane.fresh, by decide +kernel⟩,
   ⟨{ laned live 1 3 3 3 Lane.fresh with conns := [(0, { Conn.fresh with disc := 2 })] }, by decide +kernel⟩,
   ⟨laned live 4 3 3 3 Lane.fresh, by decide +kernel⟩,
   ⟨{ laned live 1 3 3 2 { Lane.fresh with since := some 5 } with tmt := { live.tmt with ns := 100000005 } }, by decide +kernel⟩,
   ⟨{ laned live 2 3 3 4 { Lane.fresh with since := some 5 } with tmt := { live.tmt with ns := 100000005 } }, by decide +kernel⟩,
   ⟨laned live 2 3 3 4 { voxLane with eye := 18, good := 2 }, by unfold State.brings; decide +kernel⟩⟩

theorem test_lanes_drop_sleep_and_wake_met :
    (∃ s : State, s.rf (laneInst 0) Reg.LAN_CFG_USE ≠ 5 ∧ s.laneRxUp 0 = true ∧ s.rxTarget 0 = 4 ∧ s.rf (laneInst 0) Reg.LAN_EQ_PENDING = 0 ∧
      (s.lane 0).peerAsleep = false) ∧
    (∃ s : State, s.rf (laneInst 0) Reg.LAN_CFG_USE ≠ 5 ∧ s.laneRxUp 0 = true ∧ s.rxTarget 0 = 4 ∧ s.rf (laneInst 0) Reg.LAN_EQ_PENDING = 0 ∧
      s.isEth 0 = true) ∧
    (∃ s : State, s.rf (laneInst 0) Reg.LAN_CFG_USE ≠ 5 ∧ s.laneRxUp 0 = true ∧ s.rxTarget 0 = 4 ∧ s.rf (laneInst 0) Reg.LAN_EQ_PENDING = 0 ∧
      Reaches s .LAN (laneInst 0) ∧ Reg.LAN_CTL_CLEAR_COUNTS.of 1 = 0 ∧ Reg.LAN_CTL_RUN_WWT.of 1 = 0) ∧
    (∃ s : State, s.rf (laneInst 0) Reg.LAN_CFG_USE ≠ 5 ∧ s.rf (laneInst 0) Reg.LAN_STATUS_RX_STATE = 1 ∧ s.running = true ∧
      (s.lane 0).trained = true ∧ s.rf (laneInst 0) Reg.LAN_PWR_WAKE_ON_SIGNAL = 1) ∧
    (∃ s : State, s.rf (laneInst 0) Reg.LAN_CFG_USE ≠ 5 ∧ s.rf (laneInst 0) Reg.LAN_STATUS_RX_STATE = 2 ∧ s.running = true ∧
      (s.lane 0).trained = true ∧ s.isVox 0 = true ∧ s.rxTarget 0 = 4 ∧ (s.lane 0).peerAsleep = true) ∧
    (∃ s : State, s.rf (laneInst 0) Reg.LAN_CFG_USE ≠ 5 ∧ Reaches s .LAN (laneInst 0) ∧ s.running = true ∧ s.laneDir 0 0 = true ∧
      s.laneDir 0 1 = true ∧ s.inPrbs 0 = false ∧ (s.lane 0).part = none ∧ s.rf (laneInst 0) Reg.LAN_STATUS_RX_STATE = 4 ∧
      s.rf (laneInst 0) Reg.LAN_STATUS_TX_STATE = 4) ∧
    (∃ s : State, s.rf (laneInst 0) Reg.LAN_CFG_USE ≠ 5 ∧ s.brings 0 [sleepWord 1 1] (voxBits [sleepWord 1 1]) ∧ s.laneRxUp 0 = true ∧
      s.laneTxUp 0 = true) ∧
    (∃ s : State, s.rf (laneInst 0) Reg.LAN_CFG_USE ≠ 5 ∧ s.brings 0 [sleepWord 1 0] (voxBits [sleepWord 1 0]) ∧ s.laneRxUp 0 = true ∧
      s.laneTxUp 0 = true) ∧
    (∃ s : State, s.rf (laneInst 0) Reg.LAN_CFG_USE ≠ 5 ∧ s.brings 0 [sleepWord 2 1] (voxBits [sleepWord 2 1]) ∧ s.laneRxUp 0 = true) ∧
    (∃ s : State, s.rf (laneInst 0) Reg.LAN_CFG_USE ≠ 5 ∧ s.brings 0 [sleepWord 3 1] (voxBits [sleepWord 3 1]) ∧ s.laneRxUp 0 = true ∧
      s.rf (laneInst 0) Reg.LAN_STATUS_TX_STATE = 1 ∧ s.txTarget 0 = 4 ∧ s.running = true) :=
  ⟨⟨laned live 3 4 4 5 Lane.fresh, by decide +kernel⟩,
   ⟨laned live 3 4 4 5 Lane.fresh, by decide +kernel⟩,
   ⟨laned live 3 4 4 5 Lane.fresh, by unfold Reaches; decide +kernel⟩,
   ⟨put (laned (awakeRun live) 2 1 1 0 { Lane.fresh with trained := true, peerAsleep := true }) [(0, Reg.LAN_PWR_WAKE_ON_SIGNAL, 1)],
     by decide +kernel⟩,
   ⟨put (laned (awakeRun live) 2 2 1 0 { Lane.fresh with trained := true, peerAsleep := true }) [(0, Reg.LAN_PWR_WAKE_ON_SIGNAL, 1)],
     by decide +kernel⟩,
   ⟨laned (awakeRun live) 1 4 4 5 Lane.fresh, by unfold Reaches; decide +kernel⟩,
   ⟨laned (awakeRun live) 2 4 4 5 voxLane, by unfold State.brings; decide +kernel⟩,
   ⟨laned (awakeRun live) 2 4 4 5 voxLane, by unfold State.brings; decide +kernel⟩,
   ⟨laned (awakeRun live) 2 4 4 5 voxLane, by unfold State.brings; decide +kernel⟩,
   ⟨laned (awakeRun live) 2 4 1 5 { voxLane with peerLocked := true }, by unfold State.brings; decide +kernel⟩⟩

theorem test_lane_codes_counters_and_tests_follow_their_commands_met :
    (∃ s : State, Reaches s .LAN (laneInst 0)) ∧
    (∃ s : State, s.laneRxUp 0 = true ∧ s.rf (laneInst 0) Reg.LAN_EQ_PENDING = 1 ∧
      s.rf (laneInst 0) Reg.LAN_EQ_CODE ≠ s.rf (laneInst 0) Reg.LAN_EQ_NEXT) ∧
    (∃ s : State, s.laneRxUp 0 = true ∧ s.rf (laneInst 0) Reg.LAN_EQ_PENDING = 0) ∧
    (∃ s : State, 0 < 8 ∧ (s.wwtAt 0 0 0).running = true ∧ s.lanesOfRun 0 = [0] ∧ (∀ k,
      k < (s.lanesOfRun 0).length → (runPair [eyes 9 30 0] [eyes 9 28 27] k).agrees = true) ∧ (s.lanesOfRun 0).length ≤ [eyes 9 30 0].length ∧
      (s.lanesOfRun 0).length ≤ [eyes 9 28 27].length) ∧
    (∃ s : State, 0 < 8 ∧ (s.wwtAt 0 0 0).running = true ∧ s.lanesOfRun 0 = [0] ∧ (∀ k,
      k < (s.lanesOfRun 0).length → (runPair [eyes 9 30 0] [eyes 9 28 27] k).agrees = true)) ∧
    (∃ s : State, 0 < 8 ∧ (s.wwtAt 0 0 0).running = true ∧ (∃ k ∈ [0], k < (s.lanesOfRun 0).length ∧
      (runPair [eyes 9 30 0] [eyes 9 27 26] k).agrees = false)) ∧
    (∃ s : State, 0 < 8 ∧ (s.wwtAt 0 0 0).running = true ∧ 0 < (s.lanesOfRun 0).length) ∧
    (∃ s : State, Reaches s .LAN (laneInst 0) ∧ Reg.LAN_CTL_RETRAIN.of 2 = 0) ∧
    (∃ s : State, Reaches s .LAN (laneInst 0) ∧ Reg.LAN_CTL_RETRAIN.of 0 = 0 ∧ Reg.LAN_CTL_CLEAR_COUNTS.of 0 = 0 ∧ 0 / 16 < s.hw.coaches ∧
      (s.wwtAt 0 (0 / 16) 0).running = true) ∧
    (∃ s : State, Reaches s .LAN (laneInst 0) ∧ Reg.LAN_CTL_RETRAIN.of 0 = 0 ∧ Reg.LAN_CTL_CLEAR_COUNTS.of 0 = 0 ∧ 0 / 16 < s.hw.coaches ∧
      (s.wwtAt 0 (0 / 16) 0).running = false ∧ s.wwtMayRun 0 = true) ∧
    (∃ s : State, Reaches s .LAN (laneInst 0) ∧ s.running = true ∧ Reg.LAN_PRBS_CTL_TX_ON.of prbsWord = 1 ∧ Reg.LAN_PRBS_CTL_RX_ON.of prbsWord = 1) ∧
    (∃ s : State, Reaches s .LAN (laneInst 0) ∧ s.rf (laneInst 0) Reg.LAN_STATUS_RX_STATE = 5) :=
  ⟨⟨laned live 2 4 4 5 Lane.fresh, by unfold Reaches; decide +kernel⟩,
   ⟨put (laned live 2 4 4 5 Lane.fresh) [(0, Reg.LAN_EQ_PENDING, 1), (0, Reg.LAN_EQ_NEXT, 9)], by decide +kernel⟩,
   ⟨laned live 2 4 4 5 Lane.fresh, by decide +kernel⟩,
   ⟨{ laned live 2 4 4 5 Lane.fresh with wwt := [(0, { wwtFresh with running := true })] }, by decide +kernel⟩,
   ⟨{ put (laned live 2 4 4 5 Lane.fresh) [(0, Reg.LAN_EQ_CODE, 1)] with wwt := [(0, { wwtFresh with running := true })] }, by decide +kernel⟩,
   ⟨{ laned live 2 4 4 5 Lane.fresh with wwt := [(0, { wwtFresh with running := true })] }, by decide +kernel⟩,
   ⟨{ laned live 2 4 4 5 Lane.fresh with wwt := [(0, { wwtFresh with running := true })] }, by decide +kernel⟩,
   ⟨laned live 2 5 4 5 Lane.fresh, by unfold Reaches; decide +kernel⟩,
   ⟨{ put (laned (awakeRun live) 2 5 4 5 Lane.fresh) [(0, Reg.PAI_STATUS_STATE, 0)] with wwt := [(0, { wwtFresh with running := true })] },
     by unfold Reaches; decide +kernel⟩,
   ⟨put (laned (awakeRun live) 2 5 4 5 Lane.fresh) [(0, Reg.PAI_STATUS_STATE, 0)], by unfold Reaches; decide +kernel⟩,
   ⟨laned (awakeRun live) 2 4 4 5 Lane.fresh, by unfold Reaches; decide +kernel⟩,
   ⟨laned (awakeRun live) 2 5 5 5 Lane.fresh, by unfold Reaches; decide +kernel⟩⟩

theorem test_cxp_connections_and_ethernet_frames_are_taken_met :
    (∃ s : State, (s.conn 0).disc = 1 ∧ ((2 ≠ s.rf (laneInst ((s.lanesOfConn 0).headD 0)) Reg.LAN_CFG_RATE ∨ 1 ≠ (s.lanesOfConn 0).length)) ∧
      s.lanesOfConn 0 ≠ []) ∧
    (∃ s : State, (s.conn 0).disc = 1 ∧ 3 = s.rf (laneInst ((s.lanesOfConn 0).headD 0)) Reg.LAN_CFG_RATE ∧
      (s.lanesOfConn 0).length = (s.lanesOfConn 0).length ∧ s.lanesOfConn 0 ≠ []) ∧
    (∃ s : State, (s.conn 0).disc = 1 ∧ (s.conn 0).discSince + 1000000 * s.rf (laneInst ((s.lanesOfConn 0).headD 0)) Reg.LAN_CXP_DISC_TIMEOUT ≤ s.now
      ∧ s.lanesOfConn 0 ≠ []) ∧
    (∃ s : State, s.laneRxUp 0 = true ∧ s.rf (laneInst 0) Reg.LAN_CFG_MODE = 1 ∧ 0 ∈ s.carsOfConn (s.rf (laneInst 0) Reg.LAN_CFG_CONNECTION) ∧
      s.rf (s.eng .ING 0) Reg.ING_STREAM_STREAM = 5) ∧
    (∃ s : State, s.laneRxUp 0 = true ∧ s.rf (laneInst 0) Reg.LAN_CFG_MODE = 1) ∧
    (∃ s : State, s.laneRxUp 0 = true ∧ s.rf (laneInst 0) Reg.LAN_CFG_MODE = 1) ∧
    (∃ s : State, s.laneRxUp 0 = true ∧ s.isEth 0 = true ∧ (s.lane 0).fec = [] ∧ (if (s.lane 0).fecMode = 2 then 5 else 0) ≤ 64 ∧ 7 ≠ crc32 [1, 2,
      3]) ∧
    (∃ s : State, s.laneRxUp 0 = true ∧ s.isEth 0 = true ∧ (s.lane 0).fec = [] ∧ (if (s.lane 0).fecMode = 2 then 5 else 0) ≤ 64 ∧ 60 ≤ arp.length ∧
      arp.length ≤ 9212 ∧ beAt arp 12 2 = 0x0806 ∧ beAt (arp.drop 14) 6 2 = 1 ∧ s.rf (laneInst 0) Reg.LAN_IPV4_ADDR ≠ 0 ∧
      beAt (arp.drop 14) 24 4 = s.rf (laneInst 0) Reg.LAN_IPV4_ADDR ∧ s.laneTxUp 0 = true) ∧
    (∃ s : State, s.laneRxUp 0 = true ∧ s.isEth 0 = true ∧ (s.lane 0).fec = [] ∧ (s.lane 0).fecMode = 2 ∧ 64 < 65 ∧ s.rxTarget 0 = 4 ∧
      s.rf (laneInst 0) Reg.LAN_CFG_USE ≠ 5 ∧ s.rf (laneInst 0) Reg.LAN_EQ_PENDING = 0) :=
  ⟨⟨(put live [(L0, Reg.LAN_CFG_USE, 1), (L0, Reg.LAN_CFG_CONNECTION, 0), (L0, Reg.LAN_CFG_RATE, 3)]).connMod 0 (fun c => { c with disc := 1 }),
    by decide +kernel⟩,
   ⟨(put live [(L0, Reg.LAN_CFG_USE, 1), (L0, Reg.LAN_CFG_CONNECTION, 0), (L0, Reg.LAN_CFG_RATE, 3)]).connMod 0 (fun c => { c with disc := 1 }),
     by decide +kernel⟩,
   ⟨{ (put live [(L0, Reg.LAN_CFG_USE, 1), (L0, Reg.LAN_CFG_CONNECTION, 0)]).connMod 0 (fun c => { c with disc := 1 }) with tmt := { live.tmt with ns := 10^15 } },
     by decide +kernel⟩,
   ⟨put live [(L0, Reg.LAN_CFG_MODE, 1), (L0, Reg.LAN_STATUS_RX_STATE, 4), (L0, Reg.LAN_PRBS_CTL_TX_ON, 0), (L0, Reg.LAN_PRBS_CTL_RX_ON, 0), (L0,
     Reg.LAN_CFG_CONNECTION, 0), (live.eng .ING 0, Reg.ING_STREAM_STREAM, 5)], by decide +kernel⟩,
   ⟨put live [(L0, Reg.LAN_CFG_MODE, 1), (L0, Reg.LAN_STATUS_RX_STATE, 4), (L0, Reg.LAN_PRBS_CTL_TX_ON, 0), (L0, Reg.LAN_PRBS_CTL_RX_ON, 0)],
     by decide +kernel⟩,
   ⟨put live [(L0, Reg.LAN_CFG_MODE, 1), (L0, Reg.LAN_STATUS_RX_STATE, 4), (L0, Reg.LAN_PRBS_CTL_TX_ON, 0), (L0, Reg.LAN_PRBS_CTL_RX_ON, 0)],
     by decide +kernel⟩,
   ⟨{ put live [(L0, Reg.LAN_CFG_MODE, 3), (L0, Reg.LAN_STATUS_RX_STATE, 4), (L0, Reg.LAN_PRBS_CTL_TX_ON, 0), (L0, Reg.LAN_PRBS_CTL_RX_ON, 0)] with lanes := [(0, { Lane.fresh with fecMode := 1 })] },
     by decide +kernel⟩,
   ⟨{ put live [(L0, Reg.LAN_CFG_MODE, 3), (L0, Reg.LAN_STATUS_RX_STATE, 4), (L0, Reg.LAN_STATUS_TX_STATE, 4), (L0, Reg.LAN_PRBS_CTL_TX_ON, 0), (L0, Reg.LAN_PRBS_CTL_RX_ON, 0), (L0, Reg.LAN_IPV4_ADDR, 0x0A000007)] with lanes := [] },
     by decide +kernel⟩,
   ⟨{ put live [(L0, Reg.LAN_CFG_MODE, 4), (L0, Reg.LAN_CFG_USE, 2), (L0, Reg.LAN_STATUS_RX_STATE, 4), (L0, Reg.LAN_PRBS_CTL_TX_ON, 0), (L0, Reg.LAN_PRBS_CTL_RX_ON, 0), (L0, Reg.LAN_PWR_RX_REQ, 0), (L0, Reg.LAN_EQ_PENDING, 0)] with lanes := [(0, { Lane.fresh with fecMode := 2 })] },
     by decide +kernel⟩⟩

theorem test_voxhus_markers_keep_lock_and_packets_spend_credits_met :
    (∃ s : State, (5 : Nat) < 15 ∧ ∀ w ∈ [0xFFFFFFFFFFFFFFFF, 0, 0x123456789], w < 2 ^ 64) ∧
    (∃ s : State, s.rf (laneInst 0) Reg.LAN_CFG_MODE = 2 ∧ mk < 2 ^ 80 ∧ (s.lane 0).run.len < 15 ∧ markBits mk = stuff (s.lane 0).run (wordBits mk) ∧
      s.laneRxUp 0 = true ∧ markerValid mk = true) ∧
    (∃ s : State, s.rf (laneInst 0) Reg.LAN_CFG_MODE = 2 ∧ markBits 5 = stuff (s.lane 0).run (wordBits 5) ∧
      s.rf (laneInst 0) Reg.LAN_STATUS_RX_STATE = 3 ∧ markerValid 5 = false ∧ (s.lane 0).bad < 2) ∧
    (∃ s : State, s.rf (laneInst 0) Reg.LAN_CFG_MODE = 2 ∧ markBits 5 = stuff (s.lane 0).run (wordBits 5) ∧ markerValid 5 = false ∧
      (s.lane 0).bad = 2 ∧ s.laneRxUp 0 = true ∧ s.rf (laneInst 0) Reg.LAN_CFG_USE = 1 ∧ s.rxTarget 0 = 4 ∧
      s.rf (laneInst 0) Reg.LAN_EQ_PENDING = 0) ∧
    (∃ s : State, s.rf (laneInst 0) Reg.LAN_CFG_MODE = 2 ∧ s.rf (laneInst 0) Reg.LAN_STATUS_TX_STATE = 4) ∧
    (∃ s : State, s.brings 0 [21] (voxBits [21]) ∧ s.laneRxUp 0 = true ∧ 5 ≤ 21 % 16) ∧
    (∃ s : State, s.brings 0 [4 + 256 * 0x10] (voxBits [4 + 256 * 0x10]) ∧ s.laneRxUp 0 = true) ∧
    (∃ s : State, s.brings 0 [21] (voxBits [21]) ∧ s.laneRxUp 0 = true ∧ s.laneTxUp 0 = true ∧ s.mappedVcs 0 ≠ [] ∧ (s.mappedVcs 0).headD 0 < 16) ∧
    (∃ s : State, s.brings 0 [2 + 16*3 + 2^32*77] (voxBits [2 + 16*3 + 2^32*77]) ∧ s.laneRxUp 0 = true ∧ (2 + 16*3 + 2^32*77) % 16 = 2) ∧
    (∃ s : State, s.brings 0 [hd 1 65535, 7, 8, 9] (voxBits [hd 1 65535, 7, 8, 9]) ∧ s.laneRxUp 0 = true ∧ s.rxTarget 0 = 4 ∧ s.running = true ∧
      (s.conn (s.linkKey 0)).held = [] ∧ cget (s.conn (s.linkKey 0)).expected 3 = some 65535 ∧ (s.vc 0 3).used + 1 ≤ (s.vc 0 3).granted ∧
      s.rf (laneInst 0) Reg.LAN_CFG_USE ≠ 1) ∧
    (∃ s : State, s.brings 0 [hd 1 65535, 7, 8, 9] (voxBits [hd 1 65535, 7, 8, 9]) ∧ s.laneRxUp 0 = true ∧ s.rxTarget 0 = 4 ∧ s.running = true ∧
      (s.conn (s.linkKey 0)).held = [] ∧ cget (s.conn (s.linkKey 0)).expected 3 = some 65535 ∧ (s.vc 0 3).used + 1 ≤ (s.vc 0 3).granted ∧
      s.rf (laneInst 0) Reg.LAN_CFG_USE = 1 ∧ 0 ∈ s.carsOfConn (s.rf (laneInst 0) Reg.LAN_CFG_CONNECTION) ∧
      s.rf (s.eng .ING 0) Reg.ING_STREAM_STREAM = 3) ∧
    (∃ s : State, s.brings 0 [hd 1 65535, 7, 8, 9] (voxBits [hd 1 65535, 7, 8, 9]) ∧ s.laneRxUp 0 = true ∧ s.rxTarget 0 = 4 ∧ s.running = true ∧
      (s.conn (s.linkKey 0)).held = [] ∧ cget (s.conn (s.linkKey 0)).expected 3 = some 65535 ∧ (s.vc 0 3).granted < (s.vc 0 3).used + 1 ∧
      192 < 192 + 1) ∧
    (∃ s : State, s.brings 0 [hd 1 65535, 7, 8, 9] (voxBits [hd 1 65535, 7, 8, 9]) ∧ s.laneRxUp 0 = true ∧ s.rxTarget 0 = 4 ∧ s.running = true ∧
      (s.conn (s.linkKey 0)).held = [] ∧ cget (s.conn (s.linkKey 0)).expected 3 = some 65535 ∧ (s.lane 0).uncorr = [] ∧ (s.lane 0).headers = [] ∧
      badRaw < 2 ^ 80 ∧ (felloeRead badRaw).1 = .uncorrectable) :=
  ⟨⟨live, by decide +kernel⟩,
   ⟨voxed live 1 4 4 { Lane.fresh with hunting := true, bad := 1 }, by decide +kernel⟩,
   ⟨voxed live 1 3 3 Lane.fresh, by decide +kernel⟩,
   ⟨voxed live 1 4 4 { Lane.fresh with bad := 2 }, by decide +kernel⟩,
   ⟨voxed live 1 4 4 { Lane.fresh with txState := 0x1234 }, by decide +kernel⟩,
   ⟨voxed live 1 4 4 voxLane, by unfold State.brings; decide +kernel⟩,
   ⟨voxed live 1 4 4 voxLane, by unfold State.brings; decide +kernel⟩,
   ⟨voxed live 1 4 4 voxLane, by unfold State.brings; decide +kernel⟩,
   ⟨voxed live 1 4 4 voxLane, by unfold State.brings; decide +kernel⟩,
   ⟨credited live 2 1, by unfold State.brings; decide +kernel⟩,
   ⟨put (credited live 1 1) [(live.eng .ING 0, Reg.ING_STREAM_STREAM, 3)], by unfold State.brings; decide +kernel⟩,
   ⟨credited live 1 0, by unfold State.brings; decide +kernel⟩,
   ⟨credited live 1 1, by unfold State.brings; decide +kernel⟩⟩

theorem test_triggers_are_numbered_sent_or_suppressed_met :
    (∃ s : State, (s.ingOf 0).due = [5000, 6000] ∧ s.yoke.armed = [] ∧ (s.ingOf 0).lastSent = some 4000 ∧
      4000 + (s.rf (s.eng .ING 0) Reg.ING_TRIG_MIN_NS : Int) ≤ 5000 ∧ s.txUp 0 = true ∧ s.suppressed = false ∧
      s.rf (s.eng .ING 0) Reg.ING_CFG_PROTOCOL = 1 ∧ s.now = 5600) ∧
    (∃ s : State, (s.ingOf 0).due = [5000, 6000] ∧ s.yoke.armed = [] ∧ (s.ingOf 0).lastSent = some 4000 ∧
      4000 + (s.rf (s.eng .ING 0) Reg.ING_TRIG_MIN_NS : Int) ≤ 5000 ∧ s.txUp 0 = true ∧ s.suppressed = false ∧
      s.rf (s.eng .ING 0) Reg.ING_CFG_PROTOCOL = 0 ∧ s.now = 5600) ∧
    (∃ s : State, (s.ingOf 0).due = [5000, 6000] ∧ s.yoke.armed = [] ∧ (s.ingOf 0).lastSent = some 4000 ∧
      5000 < 4000 + (s.rf (s.eng .ING 0) Reg.ING_TRIG_MIN_NS : Int)) ∧
    (∃ s : State, (s.ingOf 0).due = [5000, 6000] ∧ s.yoke.armed = [] ∧ s.txUp 0 = false ∧ s.standby = false) ∧
    (∃ s : State, (s.ingOf 0).trigs = [trg 0 10, trg 1 9000, trg 2 20] ∧ s.now = 9500) :=
  ⟨⟨{ (put live [(laneInst 0, Reg.LAN_CFG_USE, 1), (laneInst 0, Reg.LAN_CFG_CONNECTION, 0), (laneInst 1, Reg.LAN_CFG_USE, 0), (laneInst 0, Reg.LAN_STATUS_TX_STATE, 4), (0, Reg.PAI_STATUS_STATE, 0), (0, Reg.ING_CFG_PROTOCOL, 1), (0, Reg.ING_BLOCK_TRIG_BLOCK_START, 1), (0, Reg.ING_BLOCK_BLOCK_LINES, 4), (0, Reg.ING_STREAM_STREAM, 5), (laneInst 0, Reg.LAN_PRBS_CTL_TX_ON, 0), (laneInst 0, Reg.LAN_PRBS_CTL_RX_ON, 0), (0, Reg.ING_TRIG_MIN_NS, 1000)]).ingMod 0 (fun i => { i with due := [5000, 6000], lastSent := some 4000 }) with tmt := { live.tmt with ns := 5600 } },
    by decide +kernel⟩,
   ⟨{ (put live [(laneInst 0, Reg.LAN_CFG_USE, 1), (laneInst 0, Reg.LAN_CFG_CONNECTION, 0), (laneInst 1, Reg.LAN_CFG_USE, 0), (laneInst 0, Reg.LAN_STATUS_TX_STATE, 4), (0, Reg.PAI_STATUS_STATE, 0), (0, Reg.ING_CFG_PROTOCOL, 0), (0, Reg.ING_BLOCK_TRIG_BLOCK_START, 1), (0, Reg.ING_BLOCK_BLOCK_LINES, 4), (0, Reg.ING_STREAM_STREAM, 5), (laneInst 0, Reg.LAN_PRBS_CTL_TX_ON, 0), (laneInst 0, Reg.LAN_PRBS_CTL_RX_ON, 0), (0, Reg.ING_TRIG_MIN_NS, 1000)]).ingMod 0 (fun i => { i with due := [5000, 6000], lastSent := some 4000 }) with tmt := { live.tmt with ns := 5600 } },
     by decide +kernel⟩,
   ⟨(put live [(laneInst 0, Reg.LAN_CFG_USE, 1), (laneInst 0, Reg.LAN_CFG_CONNECTION, 0), (laneInst 1, Reg.LAN_CFG_USE, 0), (laneInst 0,
     Reg.LAN_STATUS_TX_STATE, 4), (0, Reg.PAI_STATUS_STATE, 0), (laneInst 0, Reg.LAN_PRBS_CTL_TX_ON, 0), (laneInst 0, Reg.LAN_PRBS_CTL_RX_ON, 0), (0,
     Reg.ING_TRIG_MIN_NS, 1001)]).ingMod 0 (fun i => { i with due := [5000, 6000], lastSent := some 4000 }), by decide +kernel⟩,
   ⟨(put live [(laneInst 0, Reg.LAN_CFG_USE, 1), (laneInst 0, Reg.LAN_CFG_CONNECTION, 0), (laneInst 1, Reg.LAN_CFG_USE, 0), (laneInst 0,
     Reg.LAN_STATUS_TX_STATE, 3), (0, Reg.PAI_STATUS_STATE, 0), (laneInst 0, Reg.LAN_PRBS_CTL_TX_ON, 0), (laneInst 0, Reg.LAN_PRBS_CTL_RX_ON, 0), (0,
     Reg.ING_TRIG_MIN_NS, 100)]).ingMod 0 (fun i => { i with due := [5000, 6000], lastSent := some 4000 }), by decide +kernel⟩,
   ⟨{ (put live [(0, Reg.ING_LATE_WINDOW_NS, 1000)]).ingMod 0 (fun i => { i with next := 3, trigs := [trg 0 10, trg 1 9000, trg 2 20] }) with tmt := { live.tmt with ns := 9500 } },
     by decide +kernel⟩⟩

theorem test_lines_are_judged_and_closed_met :
    (∃ s : State, (s.ingOf 0).cur = none ∧ (s.ingOf 0).rx = [pkt] ∧ pkt.start = true ∧ (∀ x ∈ (s.ingOf 0).trigs,
      pkt.came ≤ x.instant + s.rf (s.eng .ING 0) Reg.ING_LATE_WINDOW_NS) ∧ s.judge 0 (s.matchLine 0 pkt.lineLow) = .accepted) ∧
    (∃ s : State, (s.ingOf 0).cur = none ∧ (s.ingOf 0).rx = [pkt] ∧ pkt.start = true ∧ (∀ x ∈ (s.ingOf 0).trigs,
      pkt.came ≤ x.instant + s.rf (s.eng .ING 0) Reg.ING_LATE_WINDOW_NS) ∧ s.judge 0 (s.matchLine 0 pkt.lineLow) = .late) ∧
    (∃ s : State, (s.ingOf 0).cur = none ∧ (s.ingOf 0).rx = [pkt] ∧ pkt.start = true ∧ (∀ x ∈ (s.ingOf 0).trigs,
      pkt.came ≤ x.instant + s.rf (s.eng .ING 0) Reg.ING_LATE_WINDOW_NS) ∧ s.judge 0 (s.matchLine 0 pkt.lineLow) = .unsolicited) ∧
    (∃ s : State, (s.ingOf 0).cur = none ∧ (s.ingOf 0).rx = [pkt] ∧ pkt.start = true ∧ (∀ x ∈ (s.ingOf 0).trigs,
      pkt.came ≤ x.instant + s.rf (s.eng .ING 0) Reg.ING_LATE_WINDOW_NS) ∧ s.judge 0 (s.matchLine 0 pkt.lineLow) = .shed) ∧
    (∃ s : State, (s.ingOf 0).cur = some ⟨some 1, 1, [pktE]⟩ ∧ pktE.ending = true ∧
      ((s.ingOf 0).trigs.find? (fun y => some 1 == some y.n)) = some { trg 1 9100 with state := .open_ }) ∧
    (∃ s : State, s.hasEng .ING 0 = true ∧ s.rf (s.eng .ING 0) Reg.ING_CFG_PROTOCOL = 0) ∧
    (∃ s : State, s.hasEng .ING 0 = true ∧ s.rf (s.eng .ING 0) Reg.ING_CFG_PROTOCOL = 1 ∧ s.rf (s.eng .ING 0) Reg.ING_PFNC_VALUE ≠ 0 ∧
      s.rf (s.eng .ING 0) Reg.ING_PFNC_VALUE ≠ 8) ∧
    (∃ s : State, s.hasEng .ING 0 = true ∧ s.rf (s.eng .ING 0) Reg.ING_CFG_PROTOCOL = 1 ∧ s.rf (s.eng .ING 0) Reg.ING_PFNC_VALUE = 8) :=
  ⟨⟨{ (put live [(0, Reg.ING_LATE_WINDOW_NS, 1000), (0, Reg.ING_CFG_PROTOCOL, 1), (0, Reg.ING_STATUS_FORMAT_BAD, 0), (0, Reg.ING_CFG_PLANES, 1), (0, Reg.ING_STREAM_WIDTH, 64)]).ingMod 0 (fun i => { i with next := 3, trigs := [trg 0 9000, trg 1 9100, trg 2 9200], rx := [pkt] }) with tmt := { live.tmt with ns := 9500 } },
    by decide +kernel⟩,
   ⟨{ (put live [(0, Reg.ING_LATE_WINDOW_NS, 1000), (0, Reg.ING_CFG_PROTOCOL, 1)]).ingMod 0 (fun i => { i with next := 3, trigs := [trg 2 9200], rx := [pkt] }) with tmt := { live.tmt with ns := 9500 } },
     by decide +kernel⟩,
   ⟨{ (put live [(0, Reg.ING_LATE_WINDOW_NS, 1000), (0, Reg.ING_CFG_PROTOCOL, 1)]).ingMod 0 (fun i => { i with next := 0, trigs := [], rx := [pkt] }) with tmt := { live.tmt with ns := 9500 } },
     by decide +kernel⟩,
   ⟨{ (put live [(0, mewF Reg.MEW_DEPTH_UNITS 1, 0), (0, Reg.ING_LATE_WINDOW_NS, 1000), (0, Reg.ING_CFG_PROTOCOL, 1), (0, Reg.ING_STATUS_FORMAT_BAD, 0), (0, Reg.ING_CFG_PLANES, 1), (0, Reg.ING_STREAM_WIDTH, 64)]).ingMod 0 (fun i => { i with next := 3, trigs := [trg 0 9000, trg 1 9100, trg 2 9200], rx := [pkt] }) with tmt := { live.tmt with ns := 9500 } },
     by decide +kernel⟩,
   ⟨(put live [(0, Reg.ING_STREAM_WIDTH, 64), (0, Reg.ING_CFG_PLANES,
     1)]).ingMod 0 (fun i =>
     { i with next := 3, trigs := [trg 0 9000, { trg 1 9100 with state := .open_ }, trg 2 9200], cur := some ⟨some 1, 1, [pktE]⟩ }),
     by decide +kernel⟩,
   ⟨put live [(0, Reg.ING_CFG_PROTOCOL, 0), (0, Reg.ING_PFNC_VALUE, 7)], by decide +kernel⟩,
   ⟨put live [(0, Reg.ING_CFG_PROTOCOL, 1), (0, Reg.ING_PFNC_VALUE, 7)], by decide +kernel⟩,
   ⟨put live [(0, Reg.ING_CFG_PROTOCOL, 1), (0, Reg.ING_PFNC_VALUE, 8)], by decide +kernel⟩⟩

theorem test_camera_settings_and_tunnels_end_with_one_status_met :
    (∃ s : State, s.standby = false ∧ Reaches s .ING (s.eng .ING 0) ∧
      (s.rf (s.eng .ING 0) Reg.ING_CAMSET_STATUS_BUSY = 1 ∨ 4 < Reg.ING_CAMSET_CTL_COUNT.of 1)) ∧
    (∃ s : State, s.standby = false ∧ Reaches s .ING (s.eng .ING 0) ∧ s.rf (s.eng .ING 0) Reg.ING_CAMSET_STATUS_BUSY = 0 ∧
      1 ≤ Reg.ING_CAMSET_CTL_COUNT.of (wCam 4) ∧ Reg.ING_CAMSET_CTL_COUNT.of (wCam 4) ≤ 4 ∧ s.wireIdle 0 ∧ s.suppressed = false ∧
      s.rf (s.eng .ING 0) Reg.ING_CFG_PROTOCOL = 0) ∧
    (∃ s : State, s.standby = false ∧ Reaches s .ING (s.eng .ING 0) ∧ s.rf (s.eng .ING 0) Reg.ING_CAMSET_STATUS_BUSY = 0 ∧
      1 ≤ Reg.ING_CAMSET_CTL_COUNT.of (wCam 4) ∧ Reg.ING_CAMSET_CTL_COUNT.of (wCam 4) ≤ 4 ∧ s.wireIdle 0 ∧ s.suppressed = false ∧
      s.rf (s.eng .ING 0) Reg.ING_CFG_PROTOCOL = 1) ∧
    (∃ s : State, s.standby = false ∧ (s.ingOf 0).wire = 1 ∧ (s.ingOf 0).camLeft.length = 1) ∧
    (∃ s : State, s.standby = false ∧ (s.ingOf 0).wire = 1 ∧ 255 ≠ 0 ∧ 255 < 256) ∧
    (∃ s : State, s.standby = false ∧ (s.ingOf 0).wire = 1 ∧
      (s.ingOf 0).wireSince + 1000000 * s.rf (s.eng .ING 0) Reg.ING_CAMSET_CTL_TIMEOUT_MS ≤ s.now) ∧
    (∃ s : State, s.standby = false ∧ s.rf (s.eng .ING 0) Reg.ING_CFG_PROTOCOL = 0 ∧ (s.ingOf 0).wire = 1) ∧
    (∃ s : State, s.standby = false ∧ s.rf (s.eng .ING 0) Reg.ING_CFG_PROTOCOL = 0 ∧ 3 ≠ (s.ingOf 0).tag) ∧
    (∃ s : State, s.standby = false ∧ s.rf (s.eng .ING 0) Reg.ING_CFG_PROTOCOL = 0 ∧ (s.ingOf 0).wire = 1 ∧ (s.ingOf 0).camLeft.length = 1) ∧
    (∃ s : State, s.standby = false ∧ s.rf (s.eng .ING 0) Reg.ING_CFG_PROTOCOL = 0 ∧ (s.ingOf 0).wire = 2) ∧
    (∃ s : State, s.standby = false ∧ Reaches s .ING (s.eng .ING 0) ∧ s.rf (s.eng .ING 0) Reg.ING_TUN_STATUS_BUSY = 1) ∧
    (∃ s : State, s.standby = false ∧ Reaches s .ING (s.eng .ING 0) ∧ s.rf (s.eng .ING 0) Reg.ING_TUN_STATUS_BUSY = 0 ∧
      Reg.ING_TUN_CTL_WRITE.of wTun = 1 ∧ s.tunProtected 0 (s.rf (s.eng .ING 0) Reg.ING_TUN_ADDR_ADDR) (Nat.max 1 (satN 16 (Reg.ING_TUN_CTL_WORDS.of
      wTun))) = true) ∧
    (∃ s : State, s.standby = false ∧ Reaches s .ING (s.eng .ING 0) ∧ s.rf (s.eng .ING 0) Reg.ING_TUN_STATUS_BUSY = 0 ∧ s.wireIdle 0 ∧
      s.suppressed = false ∧ s.rf (s.eng .ING 0) Reg.ING_CFG_PROTOCOL = 0 ∧ Reg.ING_TUN_CTL_WRITE.of wTunR = 0) ∧
    (∃ s : State, s.standby = false ∧ Reaches s .ING (s.eng .ING 0) ∧ s.rf (s.eng .ING 0) Reg.ING_TUN_STATUS_BUSY = 0 ∧ s.wireIdle 0 ∧
      s.suppressed = false ∧ s.rf (s.eng .ING 0) Reg.ING_CFG_PROTOCOL = 1 ∧ Reg.ING_TUN_CTL_WRITE.of wTunR = 0) ∧
    (∃ s : State, s.standby = false ∧ Reaches s .ING (s.eng .ING 0) ∧ s.rf (s.eng .ING 0) Reg.ING_TUN_STATUS_BUSY = 0 ∧ s.wireIdle 0 ∧
      s.suppressed = false ∧ s.rf (s.eng .ING 0) Reg.ING_CFG_PROTOCOL = 0 ∧ Reg.ING_TUN_CTL_WRITE.of wTun = 1 ∧
      s.tunProtected 0 (s.rf (s.eng .ING 0) Reg.ING_TUN_ADDR_ADDR) (Nat.max 1 (satN 16 (Reg.ING_TUN_CTL_WORDS.of wTun))) = false) ∧
    (∃ s : State, s.standby = false ∧ (s.ingOf 0).wire = 2) ∧
    (∃ s : State, s.standby = false ∧ (s.ingOf 0).wire = 2 ∧ (s.ingOf 0).tun.write = false ∧ 0 < (s.ingOf 0).tun.words) ∧
    (∃ s : State, s.standby = false ∧ (s.ingOf 0).wire = 2 ∧
      (s.ingOf 0).wireSince + 1000000 * s.rf (s.eng .ING 0) Reg.ING_TUN_CTL_TIMEOUT_MS ≤ s.now) :=
  ⟨⟨put live [(0, Reg.ING_CAMSET_STATUS_BUSY, 1), (0, Reg.PAI_STATUS_STATE, 0)], by unfold Reaches; decide +kernel⟩,
   ⟨{ (put live [(0, Reg.ING_CAMSET_STATUS_BUSY, 0), (0, Reg.PAI_STATUS_STATE, 0), (0, Reg.ING_CFG_PROTOCOL, 0), (0, Reg.ING_STATUS_RUNNING, 1)]) with ing := [] },
     by unfold Reaches State.wireIdle; decide +kernel⟩,
   ⟨{ (put live [(0, Reg.ING_CAMSET_STATUS_BUSY, 0), (0, Reg.PAI_STATUS_STATE, 0), (0, Reg.ING_CFG_PROTOCOL, 1), (0, Reg.ING_STATUS_RUNNING, 1)]) with ing := [] },
     by unfold Reaches State.wireIdle; decide +kernel⟩,
   ⟨(put live [(0, Reg.PAI_STATUS_STATE, 0)]).ingMod 0 (fun i => { i with wire := 1, camLeft := [(1,2)] }), by decide +kernel⟩,
   ⟨(put live [(0, Reg.PAI_STATUS_STATE, 0)]).ingMod 0 (fun i => { i with wire := 1, camLeft := [(1,2)], camIdx := 3 }), by decide +kernel⟩,
   ⟨{ (put live [(0, Reg.PAI_STATUS_STATE, 0), (0, Reg.ING_CAMSET_CTL_TIMEOUT_MS, 5)]).ingMod 0 (fun i => { i with wire := 1, camLeft := [(1,2)], camIdx := 3 }) with tmt := { live.tmt with ns := 5000000 } },
     by decide +kernel⟩,
   ⟨(put live [(0, Reg.PAI_STATUS_STATE, 0), (0, Reg.ING_CFG_PROTOCOL, 0)]).ingMod 0 (fun i => { i with wire := 1, camLeft := [(1,2)] }),
     by decide +kernel⟩,
   ⟨(put live [(0, Reg.PAI_STATUS_STATE, 0), (0, Reg.ING_CFG_PROTOCOL, 0)]).ingMod 0 (fun i => { i with wire := 2, tag := 4 }), by decide +kernel⟩,
   ⟨(put live [(0, Reg.PAI_STATUS_STATE, 0), (0, Reg.ING_CFG_PROTOCOL, 0)]).ingMod 0 (fun i => { i with wire := 1, camLeft := [(1,2)] }),
     by decide +kernel⟩,
   ⟨(put live [(0, Reg.PAI_STATUS_STATE, 0), (0, Reg.ING_CFG_PROTOCOL, 0)]).ingMod 0 (fun i => { i with wire := 2 }), by decide +kernel⟩,
   ⟨put live [(0, Reg.PAI_STATUS_STATE, 0), (0, Reg.ING_TUN_STATUS_BUSY, 1)], by unfold Reaches; decide +kernel⟩,
   ⟨put live [(0, Reg.PAI_STATUS_STATE, 0), (0, Reg.ING_TUN_STATUS_BUSY, 0), (0, Reg.ING_CAMSET_CTL_PROTECT, 1), (0, Reg.ING_CAMSET_ADDR_ADDR, 64),
     (0, Reg.ING_TUN_ADDR_ADDR, 64)], by unfold Reaches; decide +kernel⟩,
   ⟨{ (put live [(0, Reg.PAI_STATUS_STATE, 0), (0, Reg.ING_TUN_STATUS_BUSY, 0), (0, Reg.ING_CFG_PROTOCOL, 0), (0, Reg.ING_CAMSET_CTL_PROTECT, 0)]) with ing := [] },
     by unfold Reaches State.wireIdle; decide +kernel⟩,
   ⟨{ (put live [(0, Reg.PAI_STATUS_STATE, 0), (0, Reg.ING_TUN_STATUS_BUSY, 0), (0, Reg.ING_CFG_PROTOCOL, 1), (0, Reg.ING_CAMSET_CTL_PROTECT, 0)]) with ing := [] },
     by unfold Reaches State.wireIdle; decide +kernel⟩,
   ⟨{ (put live [(0, Reg.PAI_STATUS_STATE, 0), (0, Reg.ING_TUN_STATUS_BUSY, 0), (0, Reg.ING_CFG_PROTOCOL, 0), (0, Reg.ING_CAMSET_CTL_PROTECT, 0)]) with ing := [] },
     by unfold Reaches State.wireIdle; decide +kernel⟩,
   ⟨(put live [(0, Reg.PAI_STATUS_STATE, 0)]).ingMod 0 (fun i => { i with wire := 2 }), by decide +kernel⟩,
   ⟨(put live [(0, Reg.PAI_STATUS_STATE, 0)]).ingMod 0 (fun i => { i with wire := 2, tun := ⟨false, 64, 1, []⟩ }), by decide +kernel⟩,
   ⟨{ (put live [(0, Reg.PAI_STATUS_STATE, 0), (0, Reg.ING_TUN_CTL_TIMEOUT_MS, 5)]).ingMod 0 (fun i => { i with wire := 2 }) with tmt := { live.tmt with ns := 5000000 } },
     by decide +kernel⟩⟩

theorem test_camera_events_queue_up_to_sixteen_met :
    (∃ s : State, s.hasEng .ING 0 = true ∧ s.rf (s.eng .ING 0) Reg.ING_CFG_PROTOCOL = 0 ∧ (s.ingOf 0).events.length < 16) ∧
    (∃ s : State, s.hasEng .ING 0 = true ∧ s.rf (s.eng .ING 0) Reg.ING_CFG_PROTOCOL = 1 ∧ 16 ≤ (s.ingOf 0).events.length) ∧
    (∃ s : State, Reaches s .ING (s.eng .ING 0)) :=
  ⟨⟨(put live [(0, Reg.ING_CFG_PROTOCOL, 0)]).ingMod 0 (fun i => { i with events := List.replicate 15 [7] }), by decide +kernel⟩,
   ⟨(put live [(0, Reg.ING_CFG_PROTOCOL, 1)]).ingMod 0 (fun i => { i with events := List.replicate 16 [7] }), by decide +kernel⟩,
   ⟨(put live [(0, Reg.ING_CFG_PROTOCOL, 1)]).ingMod 0 (fun i => { i with events := [[1], evb] }), by unfold Reaches; decide +kernel⟩⟩

theorem test_statistics_blocks_close_into_the_ring_met :
    (∃ s : State, (s.staOf 0).block = some blk0 ∧ s.yoke.armed = [] ∧ (s.staOf 0).cut = none ∧
      s.link 0 (s.hop 0 (if s.rf (s.eng .STA 0) Reg.STA_CFG_TAP = 0 then .ING else .TRU)) (s.hop 0 .STA) = some 7 ∧
      s.mewHead 7 = some (.line (lineOf 3 3 100)) ∧ s.rf (s.eng .STA 0) Reg.STA_CTL_ENABLE = 1 ∧ blk0.epoch = (lineOf 3 3 100).tag.epoch ∧
      (lineOf 3 3 100).tag.index = blk0.first + blk0.spanned ∧ blk0.spanned < s.rf (s.eng .STA 0) Reg.STA_BLOCK_BLOCK_LINES ∧
      (∀ e ∈ (s.ingOf 0).starts, blk0.first < e.2.1 → (lineOf 3 3 100).tag.index < e.2.1)) ∧
    (∃ s : State, (s.staOf 0).block = some blk0 ∧ blk0.spanned = s.rf (s.eng .STA 0) Reg.STA_BLOCK_BLOCK_LINES ∧
      s.rf (s.eng .STA 0) Reg.STA_RING_SLOTS_SLOTS = 0) ∧
    (∃ s : State, (s.staOf 0).block = some blk0 ∧ blk0.spanned = s.rf (s.eng .STA 0) Reg.STA_BLOCK_BLOCK_LINES ∧
      s.rf (s.eng .STA 0) Reg.STA_RING_SLOTS_SLOTS ≠ 0 ∧ (s.rf (s.eng .STA 0) Reg.STA_RING_WRITE_SLOT + 1) % s.rf (s.eng .STA 0)
      Reg.STA_RING_SLOTS_SLOTS ≠ s.rf (s.eng .STA 0) Reg.STA_RING_READ_SLOT) :=
  ⟨⟨{ ((put live [(0, Reg.STA_CFG_TAP, 0), (0, Reg.STA_CTL_ENABLE, 1), (0, Reg.STA_BLOCK_BLOCK_LINES, 256), (0, Reg.STA_CFG_SAMPLE_BITS, 8)]).staMod 0 (fun x => { x with block := some blk0 })) with mews := [(7, { Mews.fresh with packets := [⟨3, 0, true, false, false, some (.line (lineOf 3 3 100))⟩] })] },
    by decide +kernel⟩,
   ⟨(put live [(0, Reg.STA_BLOCK_BLOCK_LINES, 3), (0, Reg.STA_RING_SLOTS_SLOTS, 0)]).staMod 0 (fun x => { x with block := some blk0 }),
     by decide +kernel⟩,
   ⟨(put live [(0, Reg.STA_BLOCK_BLOCK_LINES, 3), (0, Reg.STA_RING_SLOTS_SLOTS, 4), (0, Reg.STA_RING_WRITE_SLOT, 3), (0, Reg.STA_RING_READ_SLOT, 1),
     (0, Reg.STA_CTL_ZONES, 0)]).staMod 0 (fun x => { x with block := some blk0 }), by decide +kernel⟩⟩

theorem test_quadrature_steps_count_one_each_met :
    (∃ s : State, s.rf 0 (wp Reg.WAY_CFG_MODE 1) = 1 ∧ s.rf 0 (wp Reg.WAY_STATUS_WIRE_FAULT 1) = 0 ∧ s.rf 0 (wp Reg.WAY_STATUS_LEVELS 1) = 0 ∧
      s.rf 0 (wp Reg.WAY_CTL_INVERT 1) = 0 ∧ s.rf 0 (wp Reg.WAY_CPR_CPR_M1 1) = 99 ∧ s.rf 0 (wp Reg.WAY_COUNT_COUNT 1) = 99) ∧
    (∃ s : State, s.rf 0 (wp Reg.WAY_CFG_MODE 1) = 1 ∧ s.rf 0 (wp Reg.WAY_STATUS_WIRE_FAULT 1) = 0 ∧ s.rf 0 (wp Reg.WAY_STATUS_LEVELS 1) = 3 ∧
      s.rf 0 (wp Reg.WAY_CTL_INVERT 1) = 0 ∧ s.rf 0 (wp Reg.WAY_COUNT_COUNT 1) = 0) ∧
    (∃ s : State, s.rf 0 (wp Reg.WAY_CFG_MODE 1) = 1 ∧ s.rf 0 (wp Reg.WAY_STATUS_WIRE_FAULT 1) = 0 ∧ s.rf 0 (wp Reg.WAY_STATUS_LEVELS 1) = 2 ∧
      s.rf 0 (wp Reg.WAY_CTL_INVERT 1) = 1) :=
  ⟨⟨put live [(0, wp Reg.WAY_CFG_MODE 1, 1), (0, wp Reg.WAY_STATUS_WIRE_FAULT 1, 0), (0, wp Reg.WAY_STATUS_LEVELS 1, 0), (0, wp Reg.WAY_CTL_INVERT 1,
    0), (0, wp Reg.WAY_CPR_CPR_M1 1, 99), (0, wp Reg.WAY_COUNT_COUNT 1, 99)], by decide +kernel⟩,
   ⟨put live [(0, wp Reg.WAY_CFG_MODE 1, 1), (0, wp Reg.WAY_STATUS_WIRE_FAULT 1, 0), (0, wp Reg.WAY_STATUS_LEVELS 1, 3), (0, wp Reg.WAY_CTL_INVERT 1,
     0), (0, wp Reg.WAY_CPR_CPR_M1 1, 99), (0, wp Reg.WAY_COUNT_COUNT 1, 0)], by decide +kernel⟩,
   ⟨put live [(0, wp Reg.WAY_CFG_MODE 1, 1), (0, wp Reg.WAY_STATUS_WIRE_FAULT 1, 0), (0, wp Reg.WAY_STATUS_LEVELS 1, 2), (0, wp Reg.WAY_CTL_INVERT 1,
     1)], by decide +kernel⟩⟩

theorem test_encoder_ports_correct_or_mark_the_position_met :
    (∃ s : State, s.rf 0 (wp Reg.WAY_CFG_MODE 1) = 1 ∧ s.rf 0 (wp Reg.WAY_STATUS_WIRE_FAULT 1) = 0 ∧ s.rf 0 (wp Reg.WAY_STATUS_LEVELS 1) = 2 ∧
      s.rf 0 (wp Reg.WAY_DE_LIMIT 1) < Nat.min 65535 (s.rf 0 (wp Reg.WAY_DE_IN_WINDOW 1) + 1)) ∧
    (∃ s : State, s.rf 0 (wp Reg.WAY_DE_LIMIT 1) < s.rf 0 (wp Reg.WAY_DE_IN_WINDOW 1)) ∧
    (∃ s : State, s.pairUsed 1 2 = true ∧ (s.rf 0 (wp Reg.WAY_STATUS_WIRE_FAULT 1)).testBit 2 = false) ∧
    (∃ s : State, (s.rf 0 (wp Reg.WAY_STATUS_WIRE_FAULT 1)).testBit 2 = true) ∧
    (∃ s : State, s.pairUsed 1 0 = true ∧ s.asleep = false) ∧
    (∃ s : State, s.rf 0 (wp Reg.WAY_CFG_MODE 1) = 1 ∧ s.asleep = true ∧ (s.port 1).tallyB = (7, 8) ∧ 1 < s.way.ports.length) ∧
    (∃ s : State, s.rf 0 (wp Reg.WAY_CFG_MODE 1) = 1 ∧ s.asleep = true ∧ (s.port 1).tallyA = (7, 7) ∧ 7 + 1 < 7 + 2) ∧
    (∃ s : State, s.rf 0 (wp Reg.WAY_CFG_MODE 1) = 1 ∧ s.rf 0 (wp Reg.WAY_CTL_INDEX_EN 1) = 1 ∧
      (s.rf 0 (wp Reg.WAY_STATUS_WIRE_FAULT 1)).testBit 2 = false ∧ (s.indexD 1).natAbs ≤ s.rf 0 (wp Reg.WAY_CFG_INDEX_TOL 1)) ∧
    (∃ s : State, s.rf 0 (wp Reg.WAY_CFG_MODE 1) = 1 ∧ s.rf 0 (wp Reg.WAY_CTL_INDEX_EN 1) = 1 ∧
      (s.rf 0 (wp Reg.WAY_STATUS_WIRE_FAULT 1)).testBit 2 = false ∧ ((s.port 1).indexed = false ∧ s.rf 0 (wp Reg.WAY_CTL_INDEX_ALIGN 1) = 1)) ∧
    (∃ s : State, s.rf 0 (wp Reg.WAY_CFG_MODE 1) = 1 ∧ s.rf 0 (wp Reg.WAY_CTL_INDEX_EN 1) = 1 ∧
      (s.rf 0 (wp Reg.WAY_STATUS_WIRE_FAULT 1)).testBit 2 = false ∧ s.rf 0 (wp Reg.WAY_CFG_INDEX_TOL 1) < (s.indexD 1).natAbs ∧
      s.rf 0 (wp Reg.WAY_CTL_INDEX_ALIGN 1) = 0 ∧ s.rf 0 (wp Reg.WAY_STATUS_MISMATCH_RUN 1) = 2) ∧
    (∃ s : State, s.rf 0 (wp Reg.WAY_CFG_MODE 1) = 2 ∧ (s.port 1).absBusy = false ∧ s.datShows 1 true = true) ∧
    (∃ s : State, s.rf 0 (wp Reg.WAY_CFG_MODE 1) = 2 ∧ (s.port 1).absBusy = false ∧ s.absPeriod 1 ≠ 0 ∧ s.datShows 1 true = true) ∧
    (∃ s : State, s.rf 0 (wp Reg.WAY_CFG_MODE 1) = 2 ∧ (s.port 1).absBusy = false ∧ s.datShows 1 false = true) ∧
    (∃ s : State, (s.port 1).absBusy = true ∧ s.rf 0 (wp Reg.WAY_CFG_MODE 1) = 2 ∧ 1 < s.way.ports.length) ∧
    (∃ s : State, s.rf 0 (wp Reg.WAY_CFG_MODE 1) = 2 ∧ (s.port 1).absBusy = false ∧ Reaches s .WAY 0 ∧
      (s.rf 0 (wp Reg.WAY_STATUS_LEVELS 1)).testBit 0 = true) ∧
    (∃ s : State, (s.port 1).absBusy = true ∧ s.datShows 1 true = true ∧ s.absCrcGood 1 (77 % 2 ^ s.rf 0 (wp Reg.WAY_ABS_CFG_BITS 1)) 0 = true ∧
      (s.port 1).absAgain = false ∧ s.rf 0 (wp Reg.WAY_STATUS_SUSPECT 1) = 0) ∧
    (∃ s : State, (s.port 1).absBusy = true ∧ s.datShows 1 true = true ∧ s.absCrcGood 1 (77 % 2 ^ s.rf 0 (wp Reg.WAY_ABS_CFG_BITS 1)) 0 = false) ∧
    (∃ s : State, (s.port 1).absBusy = true ∧ s.datShows 1 false = true) :=
  ⟨⟨put live [(0, wp Reg.WAY_CFG_MODE 1, 1), (0, wp Reg.WAY_STATUS_WIRE_FAULT 1, 0), (0, wp Reg.WAY_STATUS_LEVELS 1, 2), (0, wp Reg.WAY_DE_LIMIT 1,
    4), (0, wp Reg.WAY_DE_IN_WINDOW 1, 4)], by decide +kernel⟩,
   ⟨put live [(0, wp Reg.WAY_DE_LIMIT 1, 4), (0, wp Reg.WAY_DE_IN_WINDOW 1, 5)], by decide +kernel⟩,
   ⟨put live [(0, wp Reg.WAY_CFG_MODE 1, 1), (0, wp Reg.WAY_CTL_INDEX_EN 1, 1), (0, wp Reg.WAY_STATUS_WIRE_FAULT 1, 3)], by decide +kernel⟩,
   ⟨put live [(0, wp Reg.WAY_STATUS_WIRE_FAULT 1, 5)], by decide +kernel⟩,
   ⟨put live [(0, wp Reg.WAY_CFG_MODE 1, 2), (0, Reg.PWR_STATE_STATE, 0)], by decide +kernel⟩,
   ⟨put (live.portMod 1 (fun w => { w with tallyB := (7, 8) })) [(0, wp Reg.WAY_CFG_MODE 1, 1), (0, Reg.PWR_STATE_STATE, 1)], by decide +kernel⟩,
   ⟨put (live.portMod 1 (fun w => { w with tallyA := (7, 7) })) [(0, wp Reg.WAY_CFG_MODE 1, 1), (0, Reg.PWR_STATE_STATE, 1)], by decide +kernel⟩,
   ⟨put live [(0, wp Reg.WAY_CFG_MODE 1, 1), (0, wp Reg.WAY_CTL_INDEX_EN 1, 1), (0, wp Reg.WAY_STATUS_WIRE_FAULT 1, 0), (0, wp Reg.WAY_CPR_CPR_M1 1,
     99), (0, wp Reg.WAY_COUNT_COUNT 1, 98), (0, wp Reg.WAY_INDEX_COUNT_COUNT 1, 1), (0, wp Reg.WAY_CFG_INDEX_TOL 1, 3)], by decide +kernel⟩,
   ⟨put live [(0, wp Reg.WAY_CFG_MODE 1, 1), (0, wp Reg.WAY_CTL_INDEX_EN 1, 1), (0, wp Reg.WAY_CTL_INDEX_ALIGN 1, 1), (0,
     wp Reg.WAY_STATUS_WIRE_FAULT 1, 0), (0, wp Reg.WAY_CPR_CPR_M1 1, 99), (0, wp Reg.WAY_COUNT_COUNT 1, 50), (0, wp Reg.WAY_INDEX_COUNT_COUNT 1,
     101), (0, wp Reg.WAY_CFG_INDEX_TOL 1, 3)], by decide +kernel⟩,
   ⟨put live [(0, wp Reg.WAY_CFG_MODE 1, 1), (0, wp Reg.WAY_CTL_INDEX_EN 1, 1), (0, wp Reg.WAY_CTL_INDEX_ALIGN 1, 0), (0,
     wp Reg.WAY_STATUS_WIRE_FAULT 1, 0), (0, wp Reg.WAY_CPR_CPR_M1 1, 99), (0, wp Reg.WAY_COUNT_COUNT 1, 50), (0, wp Reg.WAY_INDEX_COUNT_COUNT 1, 0),
     (0, wp Reg.WAY_CFG_INDEX_TOL 1, 49), (0, wp Reg.WAY_STATUS_MISMATCH_RUN 1, 2)], by decide +kernel⟩,
   ⟨(put live [(0, wp Reg.WAY_CFG_MODE 1, 2), (0, wp Reg.WAY_STATUS_WIRE_FAULT 1, 0), (0, Reg.PAI_STATUS_STATE, 0)]), by decide +kernel⟩,
   ⟨(put live [(0, wp Reg.WAY_CFG_MODE 1, 2), (0, wp Reg.WAY_STATUS_WIRE_FAULT 1, 0), (0, wp Reg.WAY_ABS_CTL_PERIOD_US 1, 100), (0,
     wp Reg.WAY_ABS_CTL_SLEEP_MS 1, 1)]), by decide +kernel⟩,
   ⟨(put live [(0, wp Reg.WAY_CFG_MODE 1, 2), (0, wp Reg.WAY_STATUS_WIRE_FAULT 1, 0), (0, Reg.PAI_STATUS_STATE, 0)]), by decide +kernel⟩,
   ⟨(put live [(0, wp Reg.WAY_CFG_MODE 1, 2)]).portMod 1 (fun w => { w with absBusy := true }), by decide +kernel⟩,
   ⟨(put live [(0, wp Reg.WAY_CFG_MODE 1, 2), (0, wp Reg.WAY_STATUS_LEVELS 1, 1)]), by unfold Reaches; decide +kernel⟩,
   ⟨(put live [(0, wp Reg.WAY_STATUS_WIRE_FAULT 1, 0), (0, wp Reg.WAY_CFG_MODE 1, 2), (0, wp Reg.WAY_ABS_CFG_BITS 1, 20), (0,
     wp Reg.WAY_ABS_CFG_CRC_BITS 1, 0), (0, wp Reg.WAY_STATUS_SUSPECT 1, 0)]).portMod 1 (fun w => { w with absBusy := true }), by decide +kernel⟩,
   ⟨(put live [(0, wp Reg.WAY_STATUS_WIRE_FAULT 1, 0), (0, wp Reg.WAY_CFG_MODE 1, 2), (0, wp Reg.WAY_ABS_CFG_BITS 1, 20), (0,
     wp Reg.WAY_ABS_CFG_CRC_BITS 1, 6), (0, wp Reg.WAY_ABS_POLY_POLY 1, 3), (0, wp Reg.WAY_ABS_CTL_CRC_INV 1,
     0)]).portMod 1 (fun w => { w with absBusy := true }), by decide +kernel⟩,
   ⟨(put live [(0, wp Reg.WAY_STATUS_WIRE_FAULT 1, 0), (0, wp Reg.WAY_CFG_MODE 1, 2)]).portMod 1 (fun w => { w with absBusy := true }),
     by decide +kernel⟩⟩

theorem test_trigger_generators_and_port_commands_met :
    (∃ s : State, s.rf 0 (wp Reg.WAY_CFG_MODE 0) ≠ 0 ∧ s.rf 0 (wp Reg.WAY_CFG_TRIGGER 0) = 1 ∧ (s.port 0).nextPoint ≤ s.posQ 0 ∧ s.generating = true ∧
      (s.port 0).fired ≠ some s.tickNo ∧ s.rf 0 Reg.HDR_STATUS_PHASE ≠ 4 ∧ s.suppressed = false ∧ s.pair.liveFrom = none ∧ s.listeners 0 ≠ []) ∧
    (∃ s : State, s.rf 0 (wp Reg.WAY_CFG_MODE 0) ≠ 0 ∧ s.rf 0 (wp Reg.WAY_CFG_TRIGGER 0) = 1 ∧ (s.port 0).fired = some s.tickNo) ∧
    (∃ s : State, s.rf 0 (wp Reg.WAY_CFG_MODE 0) ≠ 0 ∧ s.rf 0 (wp Reg.WAY_CFG_TRIGGER 0) = 1 ∧ s.generating = false) ∧
    (∃ s : State, s.rf 0 (wp Reg.WAY_CFG_TRIGGER 0) = 2 ∧ s.generating = true ∧ (s.port 0).nextFixed ≤ (s.tmt.samples : Int) * nmQ ∧
      s.rf 0 Reg.HDR_STATUS_PHASE ≠ 4 ∧ s.suppressed = false ∧ s.pair.liveFrom = none ∧ s.listeners 0 ≠ []) ∧
    (∃ s : State, s.rf 0 (wp Reg.WAY_CTL_STOP_MS 1) * 1000000 ≤ s.sampleNs - s.edgeNs 1) ∧
    (∃ s : State, Reaches s .WAY 0 ∧ s.rf 0 (wp Reg.WAY_STATUS_SUSPECT 1) = 0 ∧ Reg.WAY_CMD_ABS_REQUEST.of 1 = 0) ∧
    (∃ s : State, Reaches s .WAY 0 ∧ s.rf 0 (wp Reg.WAY_STATUS_SUSPECT 1) = 1 ∧ Reg.WAY_CMD_CLEAR_SUSPECT.of 1 = 0 ∧
      Reg.WAY_CMD_ABS_REQUEST.of 1 = 0) ∧
    (∃ s : State, Reaches s .WAY 0 ∧ Reg.WAY_CMD_ABS_REQUEST.of 2 = 0) ∧
    (∃ s : State, Reaches s .WAY 0 ∧ Reg.WAY_CMD_ABS_REQUEST.of 8 = 0) ∧
    (∃ s : State, s.asleep = true ∧ s.pwr.off = false ∧ s.rf 0 (wp Reg.WAY_WAKE_ENABLE 1) = 1 ∧
      s.rf 0 (wp Reg.WAY_WAKE_COUNTS 1) ≤ (s.ext 1 - (s.port 1).sleepExt).natAbs ∧ s.rf 0 Reg.PWR_WAKE_EN_MOTION = 1 ∧ s.pwr.tripped = false) ∧
    (∃ s : State, 1 ≤ s.rf 0 Reg.PWR_STATE_STATE ∧ s.rf 0 Reg.PWR_STATE_STATE ≤ 3 ∧ s.pwr.off = false ∧ s.rf 0 (wp Reg.WAY_WAKE_ENABLE 1) = 1 ∧
      s.rf 0 (wp Reg.WAY_WAKE_COUNTS 1) ≤ (s.ext 1 - (s.port 1).sleepExt).natAbs) ∧
    (∃ s : State, s.rf 0 Reg.PWR_STATE_STATE = 3 ∧ s.pwr.wakeDuring = false ∧ s.pwr.off = false ∧ s.rf 0 (wp Reg.WAY_WAKE_ENABLE 1) = 1 ∧
      s.rf 0 (wp Reg.WAY_WAKE_COUNTS 1) ≤ (s.ext 1 - (s.port 1).sleepExt).natAbs ∧ s.rf 0 Reg.PWR_WAKE_EN_MOTION = 1 ∧ s.pwr.tripped = false) :=
  ⟨⟨(put live [(0, Reg.ING_STATUS_RUNNING, 1), (0, wp Reg.WAY_CFG_MODE 0, 1), (0, wp Reg.WAY_CFG_TRIGGER 0, 1), (0, Reg.PWR_STATE_STATE, 0), (0,
    Reg.PAI_STATUS_STATE, 0), (0, Reg.HDR_STATUS_PHASE, 0), (0, Reg.ING_TRIG_ENABLE, 1), (0, Reg.ING_CFG_REPLAY, 0), (0, Reg.ING_TRIG_SRC, 1), (0,
    Reg.ING_TRIG_PORT, 0)]), by decide +kernel⟩,
   ⟨(put live [(0, wp Reg.WAY_CFG_MODE 0, 1), (0, wp Reg.WAY_CFG_TRIGGER 0, 1)]).portMod 0 (fun w => { w with fired := some live.tickNo }),
     by decide +kernel⟩,
   ⟨(put live [(0, wp Reg.WAY_CFG_MODE 0, 1), (0, wp Reg.WAY_CFG_TRIGGER 0, 1), (0, Reg.PWR_STATE_STATE, 1)]), by decide +kernel⟩,
   ⟨(put live [(0, Reg.ING_STATUS_RUNNING, 1), (0, wp Reg.WAY_CFG_TRIGGER 0, 2), (0, Reg.PWR_STATE_STATE, 0), (0, Reg.ING_TRIG_ENABLE, 1), (0,
     Reg.ING_CFG_REPLAY, 0), (0, Reg.ING_TRIG_SRC, 1), (0, Reg.ING_TRIG_PORT, 0), (0, Reg.PAI_STATUS_STATE, 0), (0, Reg.HDR_STATUS_PHASE, 0)]),
     by decide +kernel⟩,
   ⟨{ put live [(0, wp Reg.WAY_CTL_STOP_MS 1, 0)] with tmt := { live.tmt with samples := 1000 } }, by decide +kernel⟩,
   ⟨put live [(0, wp Reg.WAY_STATUS_SUSPECT 1, 0)], by unfold Reaches; decide +kernel⟩,
   ⟨put live [(0, wp Reg.WAY_STATUS_SUSPECT 1, 1), (0, wp Reg.WAY_STATUS_UNCERTAIN 1, 1)], by unfold Reaches; decide +kernel⟩,
   ⟨put live [(0, wp Reg.WAY_STATUS_SUSPECT 1, 1)], by unfold Reaches; decide +kernel⟩,
   ⟨live, by unfold Reaches; decide +kernel⟩,
   ⟨(put live [(0, Reg.PWR_STATE_STATE, 2), (0, wp Reg.WAY_WAKE_ENABLE 1, 1), (0, wp Reg.WAY_WAKE_COUNTS 1, 5), (0, wp Reg.WAY_COUNT_COUNT 1, 7), (0,
     wp Reg.WAY_REV_REV 1, 0), (0, Reg.PWR_WAKE_EN_MOTION, 1)]), by decide +kernel⟩,
   ⟨(put live [(0, Reg.PWR_STATE_STATE, 3), (0, wp Reg.WAY_WAKE_ENABLE 1, 1), (0, wp Reg.WAY_WAKE_COUNTS 1, 5), (0, wp Reg.WAY_COUNT_COUNT 1, 7), (0,
     wp Reg.WAY_REV_REV 1, 0), (0, Reg.PWR_WAKE_EN_MOTION, 0)]), by decide +kernel⟩,
   ⟨(fun u => { u with pwr := { u.pwr with wakeDuring := false } }) (put live [(0, Reg.PWR_STATE_STATE, 3), (0, wp Reg.WAY_WAKE_ENABLE 1, 1), (0,
     wp Reg.WAY_WAKE_COUNTS 1, 5), (0, wp Reg.WAY_COUNT_COUNT 1, 7), (0, wp Reg.WAY_REV_REV 1, 0), (0, Reg.PWR_WAKE_EN_MOTION, 1)]),
     by decide +kernel⟩⟩

theorem test_compare_units_queue_fire_and_pulse_met :
    (∃ s : State, Reaches s .WAY 0 ∧ 3 < s.way.cmps.length ∧ Reg.WAY_CMP_PUSH_FLUSH.of 9 = 0 ∧ (s.cmp 3).queue.length < 8) ∧
    (∃ s : State, Reaches s .WAY 0 ∧ Reg.WAY_CMP_PUSH_FLUSH.of 9 = 0 ∧ 8 ≤ (s.cmp 3).queue.length) ∧
    (∃ s : State, Reaches s .WAY 0 ∧ Reg.WAY_CMP_PUSH_PUSH.of 9 = 0) ∧
    (∃ s : State, Reaches s .WAY 0 ∧ 3 < s.way.cmps.length ∧ (s.cmp 3).queue = [⟨5, 6, false, 0⟩] ∧ s.rf 0 (wc Reg.WAY_CMP_CTL_ENABLE 3) = 0) ∧
    (∃ s : State, Reaches s .WAY 0) ∧
    (∃ s : State, (s.cmp 3).queue = ⟨5, 6, true, 0⟩ :: [⟨7, 8, false, 0⟩] ∧ s.cmpReached 3 = true) ∧
    (∃ s : State, (s.cmp 3).fired = some s.tickNo) ∧
    (∃ s : State, (⟨0, 3, 0⟩ : GioPulse) ∈ s.way.pulses ∧ 0 ≤ s.monoNs) :=
  ⟨⟨{ live with way := { live.way with cmps := lmod live.way.cmps 3 (fun _ => ⟨List.replicate 7 ⟨5, 6, false, 0⟩, false, none⟩) } },
    by unfold Reaches; decide +kernel⟩,
   ⟨{ live with way := { live.way with cmps := lmod live.way.cmps 3 (fun _ => ⟨List.replicate 8 ⟨5, 6, false, 0⟩, false, none⟩) } },
     by unfold Reaches; decide +kernel⟩,
   ⟨{ live with way := { live.way with cmps := lmod live.way.cmps 3 (fun _ => ⟨List.replicate 8 ⟨5, 6, false, 0⟩, false, none⟩) } },
     by unfold Reaches; decide +kernel⟩,
   ⟨put { live with way := { live.way with cmps := lmod live.way.cmps 3 (fun _ => ⟨[⟨5, 6, false, 0⟩], false, none⟩) } } [(0,
     wc Reg.WAY_CMP_CTL_ENABLE 3, 0)], by unfold Reaches; decide +kernel⟩,
   ⟨{ live with way := { live.way with cmps := lmod live.way.cmps 3 (fun _ => ⟨[⟨5, 6, false, 0⟩], false, none⟩) } },
     by unfold Reaches; decide +kernel⟩,
   ⟨put { live with way := { live.way with cmps := lmod live.way.cmps 3 (fun _ => ⟨[⟨5, 6, true, 0⟩, ⟨7, 8, false, 0⟩], false, none⟩) }, tmt := { live.tmt with samples := 9 } }
     [(0, wc Reg.WAY_CMP_CTL_ENABLE 3, 1)], by decide +kernel⟩,
   ⟨put { live with way := { live.way with cmps := lmod live.way.cmps 3 (fun _ => ⟨[⟨5, 6, true, 0⟩], false, some live.tickNo⟩) } } [(0,
     wc Reg.WAY_CMP_CTL_ENABLE 3, 1)], by decide +kernel⟩,
   ⟨{ live with way := { live.way with pulses := [⟨0, 3, 0⟩, ⟨1, 3, 0⟩, ⟨0, 5, 9⟩] } }, by decide +kernel⟩⟩

theorem test_table_loads_fill_abank_or_are_refused_met :
    (∃ s : State, Reaches s (loaderRegs false).load.blk (s.loaderWin 0 false) ∧
      s.rf (s.loaderWin 0 false) (loaderRegs false).sel = (loaderRegs false).bank.of (wBank 1)) ∧
    (∃ s : State, Reaches s (loaderRegs true).load.blk (s.loaderWin 0 true) ∧ s.rf (s.loaderWin 0 true) (loaderRegs true).sel = 0 ∧
      s.bankAwaited 0 true ((loaderRegs true).bank.of (wBank 1)) = true) ∧
    (∃ s : State, Reaches s (loaderRegs false).load.blk (s.loaderWin 0 false) ∧
      s.rf (s.loaderWin 0 false) (loaderRegs false).sel ≠ (loaderRegs false).bank.of (wBank 1) ∧
      s.bankAwaited 0 false ((loaderRegs false).bank.of (wBank 1)) = false ∧ s.rf (s.loaderWin 0 false) Reg.TRU_TBL_STATUS_WWT_HOLD = 1) ∧
    (∃ s : State, Reaches s (loaderRegs true).load.blk (s.loaderWin 0 true) ∧
      s.rf (s.loaderWin 0 true) (loaderRegs true).sel ≠ (loaderRegs true).bank.of (wBank 1) ∧
      s.bankAwaited 0 true ((loaderRegs true).bank.of (wBank 1)) = false ∧ (s.loadingOf 0 true).isSome = true) ∧
    (∃ s : State, Reaches s (loaderRegs false).load.blk (s.loaderWin 0 false) ∧
      s.rf (s.loaderWin 0 false) (loaderRegs false).sel ≠ (loaderRegs false).bank.of (wBank 1) ∧
      s.bankAwaited 0 false ((loaderRegs false).bank.of (wBank 1)) = false ∧ s.loadingOf 0 false = none ∧
      s.rf (s.loaderWin 0 false) Reg.TRU_TBL_STATUS_WWT_HOLD = 0) ∧
    (∃ s : State, Reaches s (loaderRegs true).load.blk (s.loaderWin 0 true) ∧ (s.loadingOf 0 true).isSome = true) ∧
    (∃ s : State, s.loadingOf 0 true = some (1, 0x10000000) ∧ tblCode s 0 true false 0x10000000 = 1) ∧
    (∃ s : State, s.loadingOf 0 false = some (1, 0x2000000) ∧ ((cget s.gain 0).any (fun j => j.step == 1)) = true ∧
      tblCode s 0 false true 0x2000000 = 0) :=
  ⟨⟨put live [(0, Reg.TRU_BANK_SEL, 1)], by unfold Reaches; decide +kernel⟩,
   ⟨{ put live [(0, Reg.RGA_BANK_SEL, 0)] with yoke := { live.yoke with commits := [⟨1, some 0, 3, 0, false, false, true, false, 0, 3, [(regKey .RGA 0 Reg.RGA_BANK_SEL.off, putBits 0 Reg.RGA_BANK_SEL.hi Reg.RGA_BANK_SEL.lo 1)]⟩] } },
     by unfold Reaches; decide +kernel⟩,
   ⟨put live [(0, Reg.TRU_BANK_SEL, 0), (0, Reg.TRU_TBL_STATUS_WWT_HOLD, 1)], by unfold Reaches; decide +kernel⟩,
   ⟨(put live [(0, Reg.RGA_BANK_SEL, 0)]).setLoading 0 true (some (1, 0x10000000)), by unfold Reaches; decide +kernel⟩,
   ⟨put live [(0, Reg.TRU_BANK_SEL, 0), (0, Reg.TRU_TBL_STATUS_WWT_HOLD, 0)], by unfold Reaches; decide +kernel⟩,
   ⟨live.setLoading 0 true (some (1, 0x10000000)), by unfold Reaches; decide +kernel⟩,
   ⟨live.setLoading 0 true (some (1, 0x10000000)), by decide +kernel⟩,
   ⟨tblState live, by decide +kernel⟩⟩

theorem test_truing_corrects_every_plane_met :
    (∃ s : State, nextOf s 0 .TRU = some (.line (lineOf 3 3 100)) ∧ ((takenOf s 0 .TRU).truOf 0).flushed = false ∧
      (takenOf s 0 .TRU).yoke.armed = [] ∧ s.rf (s.eng .STA 0) Reg.STA_CFG_TAP = 0 ∧
      (takenOf s 0 .TRU).mewOut 0 ((takenOf s 0 .TRU).hop 0 .TRU) = some 2 ∧ (takenOf s 0 .TRU).mewKind 2 ≠ 1) ∧
    (∃ s : State, (s.truOf 0).ref = some ⟨4, [[5, 6]], 0, 0⟩ ∧ s.rf (s.eng .TRU 0) Reg.TRU_REF_CTL_LINES ≤ 4) :=
  ⟨⟨waiting (put live [(0, Reg.STA_CFG_TAP, 0), (0, mewF Reg.MEW_DEPTH_KIND 1, 0), (0, mewF Reg.MEW_DEPTH_KIND 2, 0)]) 1 (.line (lineOf 3 3 100)),
    by decide +kernel⟩,
   ⟨(put live [(0, Reg.TRU_REF_CTL_LINES, 4)]).truMod 0 (fun u => { u with ref := some ⟨4, [[5, 6]], 0, 0⟩ }), by decide +kernel⟩⟩

theorem test_gain_runs_rebuild_and_commit_the_table_met :
    (∃ s : State, (s.wwtAt 3 (0 / 6) 0).running = true ∧ cget s.gain 0 = none ∧ (s.truOf 0).results = [] ∧
      (s.wwtAt 3 (0 / 6) 0).started + 10000000000 ≤ s.now) ∧
    (∃ s : State, (s.wwtAt 3 (0 / 6) 0).running = true ∧ cget s.gain 0 = none ∧ (s.truOf 0).results = [(3, sums3), (4, sums3)] ∧ sums3.length ≤ 3 ∧
      ((List.range sums3.length).all (fun p => gainAgrees (s.rf (s.eng .TRU 0) Reg.TRU_REF_CTL_TOL) (s.gainK 0 p (s.planeSums 0 p sums3)) (s.gainK 0 p
      (s.planeSums 0 p sums3))) = true)) ∧
    (∃ s : State, (s.wwtAt 3 (0 / 6) 0).running = true ∧ cget s.gain 0 = none ∧
      ((List.range sums3.length).all (fun p => gainAgrees (s.rf (s.eng .TRU 0) Reg.TRU_REF_CTL_TOL) (s.gainK 0 p (s.planeSums 0 p sums3)) (s.gainK 0 p
      (s.planeSums 0 p [[400, 400], [900, 900], [400, 400]]))) = false)) ∧
    (∃ s : State, cget s.gain 0 = some (jobOf 0) ∧ (s.truOf 0).loading = none ∧ s.scopeState (some 0) = 0 ∧ s.mem.wf = true) ∧
    (∃ s : State, cget s.gain 0 = some (jobOf 1) ∧ (s.truOf 0).loading = none ∧ s.rf (s.eng .TRU 0) ((loaderRegs false).validOf 1) = 1 ∧
      s.rf (s.eng .TRU 0) (Reg.TRU_TBL_ID0_TABLE_ID.sh (4 * 1)) = (jobOf 1).newId ∧
      s.rf (s.eng .TRU 0) (Reg.TRU_TBL_ID0_TABLE_ID.sh (4 * s.rf (s.eng .TRU 0) Reg.TRU_BANK_SEL)) = (jobOf 1).ident ∧
      s.yokeTests (some 0) 3 = none) ∧
    (∃ s : State, cget s.gain 0 = some (jobOf 0) ∧ (s.truOf 0).loading = none ∧ (jobOf 0).since + 1000000000 ≤ s.now ∧ ckeysRise s.gain = true) :=
  ⟨⟨{ live.wwtMod 3 0 0 (fun x => { x with running := true, started := 0, rejects := 2 }) with tmt := { live.tmt with ns := 10000000000 } },
    by decide +kernel⟩,
   ⟨((put live [(0, Reg.TRU_REF_CTL_LINES, 4), (0, Reg.TRU_REF_CTL_TOL, 50), (0, Reg.TRU_REF_COLUMNS, 2), (0, Reg.TRU_REF_TARGET_TARGET, 100), (0,
     Reg.TRU_REF_TARGET_TARGET.sh 4, 100), (0, Reg.TRU_REF_TARGET_TARGET.sh 8, 100), (0, Reg.TRU_CFG_PLANES,
     3)]).wwtMod 3 0 0 (fun x => { x with running := true, started := 0 })).truMod 0 (fun u => { u with results := [(3, sums3), (4, sums3)] }),
     by decide +kernel⟩,
   ⟨((put live [(0, Reg.TRU_REF_CTL_LINES, 4), (0, Reg.TRU_REF_CTL_TOL, 50), (0, Reg.TRU_REF_COLUMNS, 2), (0, Reg.TRU_REF_TARGET_TARGET, 100), (0,
     Reg.TRU_REF_TARGET_TARGET.sh 4, 100), (0, Reg.TRU_REF_TARGET_TARGET.sh 8, 100), (0, Reg.TRU_CFG_PLANES,
     3)]).wwtMod 3 0 0 (fun x => { x with running := true, started := 0 })).truMod 0 (fun u =>
     { u with results := [(3, sums3), (4, [[400, 400], [900, 900], [400, 400]])] }), by decide +kernel⟩,
   ⟨{ put live [(0, Reg.TRU_CFG_WIDTH, 4), (0, Reg.TRU_CFG_PLANES, 1), (0, Reg.PAI_CFG_PRESENT, 0)] with gain := [(0, jobOf 0)] }, by decide +kernel⟩,
   ⟨{ put live [(0, Reg.PAI_CFG_PRESENT, 0), (0, Reg.PAI_STATUS_STATE, 0), (0, Reg.TRU_BANK_SEL, 0), (0, Reg.TRU_TBL_STATUS_VALID1, 1), (0, Reg.TRU_TBL_ID0_TABLE_ID.sh 4, 2 ^ 31 + 5), (0, Reg.TRU_TBL_ID0_TABLE_ID, 3)] with gain := [(0, jobOf 1)] },
     by decide +kernel⟩,
   ⟨{ live with gain := [(0, jobOf 0)], tmt := { live.tmt with ns := 1000000000 } }, by decide +kernel⟩⟩

theorem test_regauge_takes_forward_lines_and_holes_met :
    (∃ s : State, nextOf s 0 .RGA = some (.line (lineOf 3 3 109)) ∧ ((takenOf s 0 .RGA).rgaOf 0).pending = none ∧ (takenOf s 0 .RGA).yoke.armed = [] ∧
      ((takenOf s 0 .RGA).rgaOf 0).flushed = false ∧ ((takenOf s 0 .RGA).rgaOf 0).top = some 100 ∧
      (109 : Int) < 100 + s.rf (s.eng .RGA 0) Reg.RGA_MD_CTL_MIN_STEP_NM) ∧
    (∃ s : State, nextOf s 0 .RGA = some (.line (lineOf 3 3 109)) ∧ ((takenOf s 0 .RGA).rgaOf 0).pending = none ∧ (takenOf s 0 .RGA).yoke.armed = [] ∧
      ((takenOf s 0 .RGA).rgaOf 0).flushed = false ∧ ((takenOf s 0 .RGA).rgaOf 0).top = some 100 ∧
      100 + (s.rf (s.eng .RGA 0) Reg.RGA_MD_CTL_MIN_STEP_NM : Int) ≤ 109) ∧
    (∃ s : State, nextOf s 0 .RGA = some (.gap (gapOf 1)) ∧ ((takenOf s 0 .RGA).rgaOf 0).pending = none ∧ (takenOf s 0 .RGA).yoke.armed = [] ∧
      ((takenOf s 0 .RGA).rgaOf 0).lines ≠ [] ∧ (gapOf 1).count = 1 ∧ (gapOf 1).indexed = true) ∧
    (∃ s : State, nextOf s 0 .RGA = some (.gap (gapOf 2)) ∧ ((takenOf s 0 .RGA).rgaOf 0).pending = none ∧ (takenOf s 0 .RGA).yoke.armed = [] ∧
      ((takenOf s 0 .RGA).rgaOf 0).lines ≠ [] ∧ (gapOf 2).count ≠ 1) :=
  ⟨⟨(waiting (put live [(0, Reg.RGA_WIDTH_OUT, 2), (0, Reg.RGA_WIDTH_IN, 2), (0, Reg.RGA_MD_CTL_MIN_STEP_NM,
    10)]) 2 (.line (lineOf 3 3 109))).rgaMod 0 (fun u => { u with top := some 100, pending := none, flushed := false }), by decide +kernel⟩,
   ⟨(waiting (put live [(0, Reg.RGA_WIDTH_OUT, 2), (0, Reg.RGA_WIDTH_IN, 2), (0, Reg.RGA_MD_CTL_MIN_STEP_NM,
     9)]) 2 (.line (lineOf 3 3 109))).rgaMod 0 (fun u => { u with top := some 100, pending := none, flushed := false }), by decide +kernel⟩,
   ⟨(waiting (put live [(0, Reg.RGA_WIDTH_OUT, 2), (0, Reg.RGA_WIDTH_IN,
     2)]) 2 (.gap (gapOf 1))).rgaMod 0 (fun u => { u with lines := [midOf 3 100], count := 1, pending := none }), by decide +kernel⟩,
   ⟨(waiting (put live [(0, Reg.RGA_WIDTH_OUT, 2), (0, Reg.RGA_WIDTH_IN,
     2)]) 2 (.gap (gapOf 2))).rgaMod 0 (fun u => { u with lines := [midOf 3 100], count := 1, pending := none }), by decide +kernel⟩⟩

theorem test_seams_join_lines_and_register_met :
    (∃ s : State, s.seamOn 0 = true ∧ (s.seamOf 0).low.entries = [] ∧ (s.seamOf 0).high.entries = [] ∧ ((s.seamOf 0).side true).flushed = false ∧
      (s.seamOf 0).late.contains 3 = false ∧ s.patchCut (sideCar 0 true) 3 = false ∧ s.patchCut (sideCar 0 false) 3 = false ∧
      seamNext s true = some (.line (lineOf 3 3 100)) ∧ ((s.seamOf 0).side (!true)).top = some 2) ∧
    (∃ s : State, s.seamOn 0 = true ∧ (s.seamOf 0).low.entries = [] ∧ (s.seamOf 0).high.entries = [] ∧ ((s.seamOf 0).side false).flushed = false ∧
      (s.seamOf 0).late.contains 3 = false ∧ s.patchCut (sideCar 0 true) 3 = false ∧ s.patchCut (sideCar 0 false) 3 = false ∧
      seamNext s false = some (.line (lineOf 3 3 100)) ∧ ((s.seamOf 0).side (!false)).top = some 3) ∧
    (∃ s : State, s.seamOn 0 = true ∧ s.cf 0 Reg.CPL_REG_CTL_ENABLE = 1 ∧ s.cf 0 Reg.CPL_REG_CTL_LINES ≤ (s.seamOf 0).window.lines ∧
      (s.seamOf 0).window = winOf 8 100 100 100 3 3 ∧ ((100 : Int) * 100 - 100 * 100 ≤ 0)) ∧
    (∃ s : State, s.seamOn 0 = true ∧ s.cf 0 Reg.CPL_REG_CTL_ENABLE = 1 ∧ s.cf 0 Reg.CPL_REG_CTL_LINES ≤ (s.seamOf 0).window.lines ∧
      (s.seamOf 0).window = winOf 8 1000 1000 100 3 3 ∧ ((16 * (s.cf 0 Reg.CPL_REG_LIM_MIN_TEXTURE * 8) : Nat) : Int) ≤ 1000 ∧
      leastSad (s.seamOf 0).window.sad ≠ (s.seamOf 0).k) ∧
    (∃ s : State, s.seamOn 0 = true ∧ s.cf 0 Reg.CPL_REG_CTL_ENABLE = 1 ∧ s.cf 0 Reg.CPL_REG_CTL_LINES ≤ (s.seamOf 0).window.lines ∧
      (s.seamOf 0).window = winOf 8 1000 1000 100 (-3000) 400 ∧ ((16 * (s.cf 0 Reg.CPL_REG_LIM_MIN_TEXTURE * 8) : Nat) : Int) ≤ 1000 ∧
      leastSad (s.seamOf 0).window.sad = (s.seamOf 0).k ∧ 8 * ((((400 : Int) * 1000 - (-3000) * 100).natAbs : Nat) : Int) < 2 * (s.cf 0
      Reg.CPL_REG_CTL_HALF : Int) * (1000 * 1000 - 100 * 100)) :=
  ⟨⟨(waiting (put live [(seamInst 0, Reg.CPL_CFG_LINK.sh (seamOff 0),
    1)]) 11 (.line (lineOf 3 3 100))).seamMod 0 (fun x => { x with high := { x.high with top := some 2 } }), by decide +kernel⟩,
   ⟨(waiting (put live [(seamInst 0, Reg.CPL_CFG_LINK.sh (seamOff 0),
     1)]) 13 (.line (lineOf 3 3 100))).seamMod 0 (fun x => { x with low := { x.low with top := some 3 } }), by decide +kernel⟩,
   ⟨(put live [(seamInst 0, Reg.CPL_CFG_LINK.sh (seamOff 0), 1), (seamInst 0, Reg.CPL_REG_CTL_ENABLE.sh (seamOff 0), 1), (seamInst 0,
     Reg.CPL_REG_CTL_LINES.sh (seamOff 0), 4)]).seamMod 0 (fun x => { x with window := winOf 8 100 100 100 3 3 }), by decide +kernel⟩,
   ⟨(put live [(seamInst 0, Reg.CPL_CFG_LINK.sh (seamOff 0), 1), (seamInst 0, Reg.CPL_REG_CTL_ENABLE.sh (seamOff 0), 1), (seamInst 0,
     Reg.CPL_REG_CTL_LINES.sh (seamOff 0), 4), (seamInst 0, Reg.CPL_REG_LIM_MIN_TEXTURE.sh (seamOff 0),
     1)]).seamMod 0 (fun x => { x with k := 3, window := winOf 8 1000 1000 100 3 3 }), by decide +kernel⟩,
   ⟨(put live [(seamInst 0, Reg.CPL_CFG_LINK.sh (seamOff 0), 1), (seamInst 0, Reg.CPL_REG_CTL_ENABLE.sh (seamOff 0), 1), (seamInst 0,
     Reg.CPL_REG_CTL_LINES.sh (seamOff 0), 4), (seamInst 0, Reg.CPL_REG_LIM_MIN_TEXTURE.sh (seamOff 0), 1), (seamInst 0,
     Reg.CPL_REG_CTL_HALF.sh (seamOff 0), 16)]).seamMod 0 (fun x => { x with k := 0, window := winOf 8 1000 1000 100 (-3000) 400 }),
     by decide +kernel⟩⟩

theorem test_seam_runs_are_judged_by_their_two_windows_met :
    (∃ s : State, (s.wwtAt 2 0 0).running = true ∧ s.seamFix = none ∧ s.measuredSeams ≠ [] ∧ (∀ g ∈ s.measuredSeams, (s.seamTwo g).length = 2) ∧
      (∃ g ∈ s.measuredSeams, s.seamAgrees g ((s.seamTwo g).getD 0 (0, 0)) ((s.seamTwo g).getD 1 (0, 0)) = false)) ∧
    (∃ s : State, (s.wwtAt 2 0 0).running = true ∧ s.seamFix = none ∧ s.measuredSeams ≠ [] ∧ (∀ g ∈ s.measuredSeams, (s.seamTwo g).length = 2) ∧
      (∀ g ∈ s.measuredSeams, s.seamAgrees g ((s.seamTwo g).getD 0 (0, 0)) ((s.seamTwo g).getD 1 (0, 0)) = true) ∧ (∀ g ∈ s.measuredSeams,
      seamResid ((s.seamTwo g).getD 1 (0, 0)) ≤ s.cf g Reg.CPL_REG_LIM_DEAD)) ∧
    (∃ s : State, (s.wwtAt 2 0 0).running = true ∧ s.seamFix = none ∧ s.measuredSeams ≠ [] ∧ (∀ g ∈ s.measuredSeams, (s.seamTwo g).length = 2) ∧
      (∀ g ∈ s.measuredSeams, s.seamAgrees g ((s.seamTwo g).getD 0 (0, 0)) ((s.seamTwo g).getD 1 (0, 0)) = true) ∧ (∃ g ∈ s.measuredSeams,
      s.cf g Reg.CPL_REG_LIM_DEAD < seamResid ((s.seamTwo g).getD 1 (0, 0))) ∧ s.scopeState none ≠ 0) ∧
    (∃ s : State, (s.wwtAt 2 0 0).running = true ∧ s.seamFix = none ∧ (s.wwtAt 2 0 0).started + 10000000000 ≤ s.now ∧ (∀ g ∈ s.measuredSeams,
      (s.seamTwo g).length ≠ 2)) ∧
    (∃ s : State, (s.wwtAt 2 0 0).running = true ∧ s.seamFix = some ⟨[], 1, 1, 0, 0, false⟩ ∧ 0 + 1000000000 ≤ s.now) :=
  ⟨⟨seamRun live (5, 5) (8, 5), by decide +kernel⟩,
   ⟨seamRun live (5, -4) (3, -5), by decide +kernel⟩,
   ⟨{ seamRun live (5, -4) (3, -6) with yoke := { live.yoke with commits := [⟨1, none, 3, 0, false, false, true, false, 0, 3, []⟩] } },
     by decide +kernel⟩,
   ⟨{ (put live [(seamInst 0, Reg.CPL_CFG_LINK.sh (seamOff 0), 1), (seamInst 0, Reg.CPL_REG_CTL_ENABLE.sh (seamOff 0), 1)]).wwtMod 2 0 0 (fun x => { x with running := true, started := 0, rejects := 2 }) with tmt := { live.tmt with ns := 10000000000 } },
     by decide +kernel⟩,
   ⟨{ live.wwtMod 2 0 0 (fun x => { x with running := true, started := 0, rejects := 2 }) with tmt := { live.tmt with ns := 1000000000 }, seamFix := some ⟨[], 1, 1, 0, 0, false⟩ },
     by decide +kernel⟩⟩

theorem test_springs_takes_lines_masks_and_freezes_met :
    (∃ s : State, (s.sprOf 0).lines = [] ∧ (s.sprOf 0).closing = none ∧ (s.sprOf 0).flushed = false ∧ (s.sprOf 0).formed ≤ (s.sprOf 0).out ∧
      (s.sprOf 0).base ≤ (s.sprOf 0).formed ∧ nextOf s 0 .SPR = some (.line badLine) ∧ s.resyncHolds 0 (.line badLine) = none ∧ s.yoke.armed = [] ∧
      badLine.working.2 ≠ []) ∧
    (∃ s : State, (s.sprOf 0).sent = (5, []) :: [(6, [])]) ∧
    (∃ s : State, Reaches s .SPR 0) ∧
    (∃ s : State, Reaches s .SPR 0) :=
  ⟨⟨waiting (put live [(seamInst 0, Reg.CPL_CFG_LINK.sh (seamOff 0), 3)]) 3 (.line badLine), by decide +kernel⟩,
   ⟨live.sprMod 0 (fun y => { y with sent := [(5, []), (6, [])] }), by decide +kernel⟩,
   ⟨live.taskAdd 0 (live.sinkOf .SPR 0) 0 15, by unfold Reaches; decide +kernel⟩,
   ⟨live, by unfold Reaches; decide +kernel⟩⟩

theorem test_lines_become_components_and_the_frontier_moves_met :
    (∃ s : State, s.yoke.armed = [] ∧ (s.segOf 0).lines = [] ∧ (s.segOf 0).closing = none ∧ (s.segOf 0).flushed = false ∧
      (s.segOf 0).formed = (s.segOf 0).base ∧ nextOf s 0 .SEG = some (.line segL) ∧
      (takenOf s 0 .SEG).heldUp 0 ((takenOf s 0 .SEG).hop 0 .SEG) = false ∧ s.rf (s.eng .SEG 0) Reg.SEG_CTL_CONTRAST_EN = 0 ∧
      maskRuns (maskAt (s.segClasses (s.eng .SEG 0) (segL.planes.getD 0 []) ((segL.planes.getD 0 []).map s16) ((s.segOf 0).before.getD []))) (s.rf
      (s.eng .SEG 0) Reg.SEG_OWNED_FIRST) (s.rf (s.eng .SEG 0) Reg.SEG_OWNED_FIRST + s.rf (s.eng .SEG 0) Reg.SEG_OWNED_COUNT) ≠ []) ∧
    (∃ s : State, s.yoke.armed = [] ∧ nextOf s 0 .LBL = some (.line lblL) ∧ s.excluded 0 = false ∧ (s.lblOf 0).owes = 0 ∧ lblL.grid < 2 ^ 64) ∧
    (∃ s : State, s.yoke.armed = [] ∧ s.live 0 = true ∧ s.excluded 0 = false ∧ s.lblFront 0 + s.rf 0 Reg.DBM_LAG_LINES < s.webNm.toNat / s.gridMd) ∧
    (∃ s : State, sliceNext s 6 = some (.frag (fragOf 6)) ∧ 6 / 6 ≠ 0 ∧ s.isReplay 6 = false ∧
      (s.slice (6 / 6)).sets.length + (fragOf 6).labels.length ≤ 131072) ∧
    (∃ s : State, (s.slice 1).fwd = ⟨6, .gap gap8⟩ :: [⟨6, .gap gap8⟩] ∧ s.isReplay 6 = false) ∧
    (∃ s : State, sliceNext s 0 = some (.frontier 0 50) ∧ (s.slice (0 / 6)).fwd = [] ∧ s.isReplay 0 = false ∧ s.counted 255 ≠ []) :=
  ⟨⟨waiting (put live [(0, Reg.SEG_CTL_CONTRAST_EN, 0), (0, Reg.SEG_CLASS_ENABLE, 1), (0, Reg.SEG_CLASS_POLARITY, 0), (0, Reg.SEG_THR_LOW, 100), (0,
    Reg.SEG_THR_HIGH, 200), (0, Reg.SEG_OWNED_FIRST, 2), (0, Reg.SEG_OWNED_COUNT, 60)]) 4 (.line segL), by decide +kernel⟩,
   ⟨(waiting (put live [(0, Reg.LBL_STATUS_EXCLUDED, 0), (0, Reg.LBL_CTL_CLOSE_K,
     2)]) 5 (.line lblL)).lblMod 0 (fun x => { x with comps := [compOf 1 7, compOf 2 8], before := [(4, 6, 2)], next := 3, owes := 0 }),
     by decide +kernel⟩,
   ⟨(put { live with way := { live.way with offset := 5000 * 1000 * nmQ } } [(0, Reg.LBL_STATUS_EXCLUDED, 0), (0, Reg.LBL_FRONTIER_LO_LINE, 3), (0,
     { Reg.LBL_FRONTIER_LO_LINE with off := Reg.LBL_FRONTIER_LO_LINE.off + 4 }, 0), (0, Reg.DBM_LAG_LINES,
     100)]).lblMod 0 (fun x => { x with comps := [compOf 1 7, compOf 2 8] }), by decide +kernel⟩,
   ⟨waiting (coachOne live) (mewKey 1 22) (.frag (fragOf 6)), by decide +kernel⟩,
   ⟨((live.sliceMod 1 (fun x => { x with fwd := [⟨6, .gap gap8⟩, ⟨6, .gap gap8⟩] })).strmMod 255 (fun t =>
     { t with recs := [recAt 3 0 1, recAt 9 0 1] })), by decide +kernel⟩,
   ⟨(waiting live 6 (.frontier 0 50)).strmMod 255 (fun t => { t with front := [(0, 40), (1, 45)], phi := 40 }), by decide +kernel⟩⟩

theorem test_records_and_patches_are_written_or_shed_met :
    (∃ s : State, (s.strm 255).recs = recAt 5 0 1 :: [recAt 9 0 1] ∧ (recAt 5 0 1).sort ≤ (s.strm 255).phi ∧ (s.strm 255).fold = none ∧
      s.sumDue 255 (s.strm 255).phi = none ∧ (s.strm 255).awaiting = [] ∧ s.role = 0 ∧ (recAt 5 0 1).kind = 0 ∧
      (s.strm 255).wouldShed (s.queueLen 255) (s.queueOf 255).2.2 (s.queueOf 255).2.1 1 = true) ∧
    (∃ s : State, (s.strm 255).recs = recAt 5 0 3 :: [recAt 9 0 1] ∧ (recAt 5 0 3).sort ≤ (s.strm 255).phi ∧ (s.strm 255).fold = none ∧
      s.sumDue 255 (s.strm 255).phi = none ∧ (s.strm 255).awaiting = [] ∧ s.role = 0 ∧ (recAt 5 0 3).kind = 0 ∧
      (s.strm 255).wouldShed (s.queueLen 255) (s.queueOf 255).2.2 (s.queueOf 255).2.1 3 = false ∧ (recAt 5 0 3).body.length = 64 ∧ s.mem.wf = true) ∧
    (∃ s : State, (s.strm 255).recs = recAt 5 1 0 :: [recAt 9 0 1] ∧ (recAt 5 1 0).sort ≤ (s.strm 255).phi ∧ (s.strm 255).fold = none ∧
      s.sumDue 255 (s.strm 255).phi = none ∧ (s.strm 255).awaiting = [] ∧ s.role = 0 ∧ (recAt 5 1 0).kind ≠ 0 ∧
      (s.queueOf 255).2.1 ≤ s.queueLen 255) ∧
    (∃ s : State, s.standby = false ∧ Reaches s .DBM (ackReg 255).1 ∧ (s.strm 255).ackLow < 2 ^ 32 ∧
      s.dbmAck 255 ≤ (0 : Word).toNat * 2 ^ 32 + (s.strm 255).ackLow ∧
      (0 : Word).toNat * 2 ^ 32 + (s.strm 255).ackLow ≤ s.rf64 (seqReg 255).1 (seqReg 255).2) ∧
    (∃ s : State, s.standby = false ∧ Reaches s .DBM (ackReg 255).1 ∧ (s.strm 255).ackLow < 2 ^ 32 ∧
      s.rf64 (seqReg 255).1 (seqReg 255).2 < (0 : Word).toNat * 2 ^ 32 + (s.strm 255).ackLow) ∧
    (∃ s : State, s.isReplay 1 = true ∧ Reaches s .DBM (ackReg 1).1 ∧ (s.strm 1).ackLow < 2 ^ 32 ∧
      s.dbmAck 1 ≤ (0 : Word).toNat * 2 ^ 32 + (s.strm 1).ackLow ∧ (0 : Word).toNat * 2 ^ 32 + (s.strm 1).ackLow ≤ s.rf64 (seqReg 1).1 (seqReg 1).2) ∧
    (∃ s : State, ((s.patOf 0).find? (s.patDue 0)) = some patJob ∧ s.rf 0 Reg.PAT_RING_SLOTS_SLOTS ≠ 0 ∧
      (s.rf 0 Reg.PAT_RING_WRITE_SLOT + 1) % s.rf 0 Reg.PAT_RING_SLOTS_SLOTS ≠ s.rf 0 Reg.PAT_RING_READ_SLOT) ∧
    (∃ s : State, ((s.patOf 0).find? (s.patDue 0)) = some patJob ∧
      (s.rf 0 Reg.PAT_RING_WRITE_SLOT + 1) % s.rf 0 Reg.PAT_RING_SLOTS_SLOTS = s.rf 0 Reg.PAT_RING_READ_SLOT) :=
  ⟨⟨queued live 16000 0 (recAt 5 0 1), by decide +kernel⟩,
   ⟨queued live 3 1 (recAt 5 0 3), by decide +kernel⟩,
   ⟨queued live 16384 0 (recAt 5 1 0), by decide +kernel⟩,
   ⟨(queued live 30 10 (recAt 5 0 3)).strmMod 255 (fun t => { t with ackLow := 20 }), by unfold Reaches; decide +kernel⟩,
   ⟨(queued live 30 10 (recAt 5 0 3)).strmMod 255 (fun t => { t with ackLow := 31 }), by unfold Reaches; decide +kernel⟩,
   ⟨replayed live, by unfold Reaches; decide +kernel⟩,
   ⟨((put live [(0, Reg.PAT_RING_SLOTS_SLOTS, 4), (0, Reg.PAT_RING_WRITE_SLOT, 3), (0, Reg.PAT_RING_READ_SLOT, 1), (0, Reg.PAT_CTL_MARGIN, 0), (0,
     Reg.PAT_SLOT_SIZE_BYTES, 4)]).patSet 0 [patJob, patJob]).strmMod 255 (fun t => { t with phi := 100 }), by decide +kernel⟩,
   ⟨((put live [(0, Reg.PAT_RING_SLOTS_SLOTS, 4), (0, Reg.PAT_RING_WRITE_SLOT, 3), (0, Reg.PAT_RING_READ_SLOT, 0), (0, Reg.PAT_CTL_MARGIN, 0), (0,
     Reg.PAT_SLOT_SIZE_BYTES, 4)]).patSet 0 [patJob, patJob]).strmMod 255 (fun t => { t with phi := 100 }), by decide +kernel⟩⟩

theorem test_archive_rows_gather_and_close_met :
    (∃ s : State, s.pmtOf 0 = some (0, 0) ∧ s.link 0 (s.hop 0 .ING) ⟨.PMT, 0, 0⟩ = some 9 ∧ (s.tapTake 9).1 = 0 ∧
      s.mewHead 9 = some (.line (lineOf 15 0 1500)) ∧ s.yoke.armed = [] ∧ s.rf 0 (Reg.PMT_ARC_CTL_ENABLE.sh 0) = 1 ∧ (s.arcOf 0).lines.length < 16 ∧
      (s.arcOf 0).lines.getLast? = some (lineOf 14 0 1400)) ∧
    (∃ s : State, s.pmtOf 0 = some (0, 0) ∧ s.link 0 (s.hop 0 .ING) ⟨.PMT, 0, 0⟩ = some 9 ∧ (s.tapTake 9).1 = 0 ∧
      s.mewHead 9 = some (.line (lineOf 15 0 1500)) ∧ s.yoke.armed = [] ∧ s.rf 0 (Reg.PMT_ARC_CTL_ENABLE.sh 0) = 1 ∧ (s.arcOf 0).lines = []) ∧
    (∃ s : State, s.pmtOf 0 = some (0, 0) ∧ s.link 0 (s.hop 0 .ING) ⟨.PMT, 0, 0⟩ = some 9 ∧ (s.tapTake 9).1 = 0 ∧
      s.mewHead 9 = some (.line (lineOf 15 0 1500)) ∧ s.yoke.armed = [] ∧ s.rf 0 (Reg.PMT_ARC_CTL_ENABLE.sh 0) = 1 ∧
      ((s.arcOf 0).lines.getLast?.map (fun p => p.tag.index + 1)) ≠ some 15 ∧ (s.arcOf 0).lines ≠ []) ∧
    (∃ s : State, s.pmtOf 0 = some (0, 0) ∧ s.mem.wf = true ∧ s.rf 0 (Reg.PMT_ARC_CTL_PIN_EN.sh 0) = 0 ∧ (s.arcOf 0).lines.length = 16) ∧
    (∃ s : State, s.pmtOf 0 = some (0, 0) ∧ s.mem.wf = true ∧ s.rf 0 (Reg.PMT_ARC_CTL_PIN_EN.sh 0) = 0 ∧ (s.arcOf 0).lines ≠ [] ∧
      (s.arcOf 0).lines.length < 16 ∧ (s.arcOf 0).since + 1000000 ≤ s.now) :=
  ⟨⟨archived live (.line (lineOf 15 0 1500)) 15, by decide +kernel⟩,
   ⟨archived live (.line (lineOf 15 0 1500)) 0, by decide +kernel⟩,
   ⟨archived live (.line (lineOf 15 0 1500)) 14, by decide +kernel⟩,
   ⟨archived live .start 16, by decide +kernel⟩,
   ⟨{ archived live .start 3 with tmt := { live.tmt with ns := 1000000 } }, by decide +kernel⟩⟩

theorem test_decode_jobs_run_to_one_code_met :
    (∃ s : State, Reaches s .PMT 0 ∧ s.rf 0 Reg.PMT_JOB_STATUS_BUSY = 1) ∧
    (∃ s : State, Reaches s .PMT 0 ∧ s.rf 0 Reg.PMT_JOB_STATUS_BUSY = 0 ∧ s.pmtOf (Reg.PMT_JOB_CTL_SOURCE.of (wJob 5 1)) = none) ∧
    (∃ s : State, Reaches s .PMT 0 ∧ s.rf 0 Reg.PMT_JOB_STATUS_BUSY = 0 ∧ s.pmtOf (Reg.PMT_JOB_CTL_SOURCE.of (wJob 0 1)) = some (0, 0) ∧
      Reg.PMT_JOB_CTL_DEST.of (wJob 0 1) = 1 ∧ s.rf 0 Reg.PMT_JOB_DST_LEN_UNITS ≠ 0 ∧
      (s.intactRows 0 0).find? (fun r => decide (sgn 64 (s.rf64 0 Reg.PMT_JOB_FROM_LO_NM) ≤ (s.rowSpan 0 0 r).2)) = some 5 ∧
      s.rf64 0 Reg.PMT_JOB_TO_LO_NM = 2 ^ 64 - 1) ∧
    (∃ s : State, Reaches s .PMT 0 ∧ cget s.jobs 0 = some (decJob none []) ∧ (decJob none []).ending = none ∧ Reg.PMT_JOB_CTL_GO.of 2 = 0) ∧
    (∃ s : State, cget s.jobs 0 = some (decJob none [aLine 48, aLine 9]) ∧
      0 + alignUp ((aLine 48).tag ++ (aLine 48).samples.flatMap (toBytes 2)).length 64 ≤ 128) ∧
    (∃ s : State, cget s.jobs 0 = some (decJob none [aLine 49]) ∧
      128 < 0 + alignUp ((aLine 49).tag ++ (aLine 49).samples.flatMap (toBytes 2)).length 64) ∧
    (∃ s : State, cget s.jobs 0 = some (decJob (some 0) [])) ∧
    (∃ s : State, cget s.jobs 0 = some (decJob (some 15) [])) :=
  ⟨⟨put live [(0, Reg.PMT_JOB_STATUS_BUSY, 1)], by unfold Reaches; decide +kernel⟩,
   ⟨put live [(0, Reg.PMT_JOB_STATUS_BUSY, 0), (0, Reg.PMT_CFG_BOUND, 0)], by unfold Reaches; decide +kernel⟩,
   ⟨put { archived live .start 0 with hdr := { live.hdr with parts := [(1, 0x10000000)] } } [(0, Reg.PMT_ARC_OLDEST_ROW, 5), (0,
     Reg.PMT_JOB_STATUS_BUSY, 0), (0, Reg.PMT_JOB_FROM_LO_NM, 0), (0, { Reg.PMT_JOB_FROM_LO_NM with off := Reg.PMT_JOB_FROM_LO_NM.off + 4 }, 0), (0,
     Reg.PMT_JOB_TO_LO_NM, 0xFFFFFFFF), (0, { Reg.PMT_JOB_TO_LO_NM with off := Reg.PMT_JOB_TO_LO_NM.off + 4 }, 0xFFFFFFFF), (0,
     Reg.PMT_JOB_DST_LEN_UNITS, 9)], by unfold Reaches; decide +kernel⟩,
   ⟨{ live with jobs := [(0, decJob none [])] }, by unfold Reaches; decide +kernel⟩,
   ⟨{ live with jobs := [(0, decJob none [aLine 48, aLine 9])] }, by decide +kernel⟩,
   ⟨{ live with jobs := [(0, decJob none [aLine 49])] }, by decide +kernel⟩,
   ⟨{ live with jobs := [(0, decJob (some 0) [])] }, by decide +kernel⟩,
   ⟨{ live with jobs := [(0, decJob (some 15) [])] }, by decide +kernel⟩⟩

theorem test_preview_strips_are_selected_formed_and_dropped_met :
    (∃ s : State, 0 ∈ s.pvwWins ∧ s.rf 0 Reg.PVW_CTL_ENABLE = 1 ∧ s.rf 0 Reg.PVW_CTL_VIEW = 0 ∧ (s.pvwOf 0).last = some 1 ∧
      1 < s.stripFrom 0 (s.webNm / s.gridMd).toNat) ∧
    (∃ s : State, 0 ∈ s.pvwWins ∧ s.rf 0 Reg.PVW_CTL_ENABLE = 1 ∧ s.rf 0 Reg.PVW_CTL_VIEW = 0 ∧ (s.pvwOf 0).last = some 99999999 ∧
      s.stripFrom 0 (s.webNm / s.gridMd).toNat ≤ 99999999) ∧
    (∃ s : State, s.hasUnit .PVW 0 = true ∧ (s.pvwPullAll 0).rf 0 Reg.PVW_CTL_ENABLE = 1 ∧
      ((s.pvwPullAll 0).pvwCars 0).all (fun g => (s.pvwPullAll 0).pvwPast 0 10 g) = true ∧ (s.pvwPullAll 0).pvwCars 0 ≠ [] ∧
      (s.pvwPullAll 0).rowNow 0 = some 10 ∧ ((s.pvwPullAll 0).pvwOf 0).strips = 5 :: [8] ∧
      ((s.pvwPullAll 0).pvwOf 0).rows.length + 1 < (s.pvwPullAll 0).rf 0 Reg.PVW_CTL_ROWS) ∧
    (∃ s : State, (s.pvwOf 0).since = some 0 ∧ 0 + 10000000 ≤ s.now ∧ s.rowNow 0 = some 5 ∧ (s.pvwOf 0).strips = 5 :: [8] ∧
      s.rf 0 Reg.PVW_CTL_ROWS ≤ (s.pvwOf 0).rows.length + 1 ∧ s.suppressed = false ∧ s.rf 0 Reg.PVW_CTL_DEST = 0) :=
  ⟨⟨(put { live with way := { live.way with offset := 5000 * 1000 * nmQ } } [(0, Reg.PVW_CTL_ENABLE, 1), (0, Reg.PVW_CTL_VIEW, 0), (0,
    Reg.PVW_CTL_ROWS, 4), (0, Reg.PVW_SCALE_MD, 256)]).pvwMod 0 (fun x => { x with last := some 1, strips := [1] }), by decide +kernel⟩,
   ⟨(put live [(0, Reg.PVW_CTL_ENABLE, 1), (0, Reg.PVW_CTL_VIEW, 0), (0, Reg.PVW_CTL_ROWS, 4), (0, Reg.PVW_SCALE_MD,
     256)]).pvwMod 0 (fun x => { x with last := some 99999999, strips := [1] }), by decide +kernel⟩,
   ⟨previewed live 2, by decide +kernel⟩,
   ⟨{ previewed live 1 with tmt := { live.tmt with ns := 10000000 } }, by decide +kernel⟩⟩

theorem test_dram_is_judged_as_it_is_read_and_reached_through_bar2_met :
    (∃ s : State, (felloeRead (s.storedWord dA ^^^ (0 % 2 ^ 80))).1 = .clean ∧ s.dmcReady (chanInst (s.chanOf dA)) = true) ∧
    (∃ s : State, (felloeRead (s.storedWord dA ^^^ (0x500000 % 2 ^ 80))).1 = .corrected 5 ∧ s.dmcReady (chanInst (s.chanOf dA)) = true) ∧
    (∃ s : State, (felloeRead (s.storedWord dA ^^^ (0 % 2 ^ 80))).1 = .poison ∧ s.dmcReady (chanInst (s.chanOf dA)) = true) ∧
    (∃ s : State, (felloeRead (s.storedWord dA ^^^ (0x11 % 2 ^ 80))).1 = .uncorrectable ∧ s.dmcReady (chanInst (s.chanOf dA)) = true) ∧
    (∃ s : State, s.rf 0 Reg.DMC_SCRUB_HOURS = 0 ∧ s.dmcReady (chanInst (s.chanOf dA)) = true) ∧
    (∃ s : State, s.rf 0 Reg.DMC_SCRUB_HOURS ≠ 0 ∧ s.dmcReady (chanInst (s.chanOf dA)) = true ∧ (∀ b ∈ List.range 16,
      (felloeRead (s.storedWord (128 * (dA / 128) + 8 * b))).1 = .clean)) ∧
    (∃ s : State, s.rf 0 Reg.DMC_SCRUB_HOURS ≠ 0 ∧ s.dmcReady (chanInst (s.chanOf dA)) = true ∧ (∀ b ∈ List.range 16,
      (felloeRead (s.storedWord (128 * (dA / 128) + 8 * b))).1 = .clean) ∧
      (felloeRead (s.storedWord (128 * (dA / 128) + 8 * 11) ^^^ 0x7)).1 = .corrected 0) ∧
    (∃ s : State, s.dramStopped (s.bar2Addr 0x10000040) 4 = false ∧ (∀ k ∈ List.range 4, s.dramOpen (s.bar2Addr 0x10000040 + k) = true)) ∧
    (∃ s : State, s.dramStopped (s.bar2Addr 0x40) 1 = false ∧ s.dramOpen (s.bar2Addr 0x40) = false) ∧
    (∃ s : State, s.dramStopped (s.bar2Addr 0x10000040) 9 = false ∧ (∀ k ∈ List.range 9, s.dramOpen (s.bar2Addr 0x10000040 + k) = true)) ∧
    (∃ s : State, s.dramStopped (s.bar2Addr 0x10000040) 9 = false ∧ (∀ k ∈ List.range 9, s.dramOpen (s.bar2Addr 0x10000040 + k) = true)) ∧
    (∃ s : State, s.dramStopped (s.bar2Addr 0x10000040) 4 = true ∧ s.guardOf mHost = true) ∧
    (∃ s : State, s.dramStopped (s.bar2Addr 0x10000040) 2 = true ∧ s.guardOf mHost = false) ∧
    (∃ s : State, Reaches s .GLB 0) :=
  ⟨⟨put live [(0, Reg.DMC_STATUS_STATE, 2)], by decide +kernel⟩,
   ⟨put live [(0, Reg.DMC_STATUS_STATE, 2), (0, Reg.DMC_CE_LIMIT_LIMIT, 0), (0, Reg.DMC_CE_LIMIT_AUTO, 1)], by decide +kernel⟩,
   ⟨{ put live [(0, Reg.DMC_STATUS_STATE, 2)] with poison := [dA / 8] }, by decide +kernel⟩,
   ⟨put live [(0, Reg.DMC_STATUS_STATE, 2)], by decide +kernel⟩,
   ⟨put live [(0, Reg.DMC_STATUS_STATE, 2), (0, Reg.DMC_SCRUB_HOURS, 0)], by decide +kernel⟩,
   ⟨put live [(0, Reg.DMC_STATUS_STATE, 2), (0, Reg.DMC_SCRUB_HOURS, 24)], by decide +kernel⟩,
   ⟨put live [(0, Reg.DMC_STATUS_STATE, 2), (0, Reg.DMC_SCRUB_HOURS, 24), (0, Reg.DMC_CE_LIMIT_LIMIT, 0), (0, Reg.DMC_CE_LIMIT_AUTO, 1)],
     by decide +kernel⟩,
   ⟨{ bar2 live with poison := [0x10000040 / 8] }, by decide +kernel⟩,
   ⟨bar2 live, by decide +kernel⟩,
   ⟨{ bar2 live with poison := [0x10000040 / 8] }, by decide +kernel⟩,
   ⟨{ bar2 live with poison := [0x10000040 / 8] }, by decide +kernel⟩,
   ⟨put (bar2 live) [(0, Reg.DMC_STATUS_STATE, 3), (0, Reg.GLB_GUARD_HOST, 1)], by decide +kernel⟩,
   ⟨put (bar2 live) [(0, Reg.DMC_STATUS_STATE, 3), (0, Reg.GLB_GUARD_HOST, 0)], by decide +kernel⟩,
   ⟨live, by unfold Reaches; decide +kernel⟩⟩

theorem test_refreshes_are_owed_and_rows_curbed_met :
    (∃ s : State, s.dmcReady 32 = true ∧ s.rf 32 Reg.DMC_REF_BUSY ≤ 3 ∧ cgetD (s.dmcAt 32).owed 1 0 < 8) ∧
    (∃ s : State, s.dmcReady 32 = true ∧ s.rf 32 Reg.DMC_REF_BUSY ≤ 3 ∧ 8 ≤ cgetD (s.dmcAt 32).owed 1 0 ∧ (s.whtAt 32).holder = some (⟨4, 0x21, 9, 0,
      false, false, false, 0⟩, 5)) ∧
    (∃ s : State, s.dmcReady 32 = true ∧ 2 < s.rf 32 Reg.DMC_REF_BUSY) ∧
    (∃ s : State, s.dmcReady 32 = true ∧ (cgetD (s.dmcAt 32).banks (1 * 256 + 0) []).find? (fun e => e.row == 9) = some ⟨9, 6, 0x22⟩ ∧
      6 + 1 = s.rf 32 Reg.DMC_CURB_CTL_THRESHOLD ∧ (s.dmcAt 32).curbed.contains 0x23 = false) ∧
    (∃ s : State, s.dmcReady 32 = true ∧ (cgetD (s.dmcAt 32).banks (1 * 256 + 0) []).find? (fun e => e.row == 10) = none ∧
      (cgetD (s.dmcAt 32).banks (1 * 256 + 0) []).length < 32) ∧
    (∃ s : State, (s.dimmOf (2 * 1 + 0)).isSome = true ∧ s.rf 32 Reg.DMC_STATUS_HOT = 0) ∧
    (∃ s : State, (s.dimmOf (2 * 1 + 0)).isSome = true) ∧
    (∃ s : State, (s.dimmOf (2 * 1 + 0)).isSome = true) :=
  ⟨⟨owing live 7, by decide +kernel⟩,
   ⟨{ owing live 8 with wht := [(32, ⟨[], some (⟨4, 0x21, 9, 0, false, false, false, 0⟩, 5), []⟩)] }, by decide +kernel⟩,
   ⟨owing live 8, by decide +kernel⟩,
   ⟨put (owing live 0) [(32, Reg.DMC_CURB_CTL_THRESHOLD, 7)], by decide +kernel⟩,
   ⟨owing live 0, by decide +kernel⟩,
   ⟨put live [(32, Reg.DMC_STATUS_HOT, 0)], by decide +kernel⟩,
   ⟨put live [(32, Reg.DMC_STATUS_HOT, 1)], by decide +kernel⟩,
   ⟨owing live 0, by decide +kernel⟩⟩

theorem test_remounts_memory_runs_and_patrols_end_met :
    (∃ s : State, Reaches s .DMC 0 ∧ s.spareFree 0 = some 3 ∧ 3 ≠ Reg.DMC_REMOUNT_CTL_RANK.of 2 ∧
      Reg.DMC_REMOUNT_CTL_RANK.of 2 < s.rf 0 Reg.DMC_CFG_RANKS ∧ s.dmcReady 0 = true) ∧
    (∃ s : State, Reaches s .DMC 0 ∧ s.spareFree 0 = none) ∧
    (∃ s : State, s.rf 0 Reg.DMC_STATUS_STATE = 4 ∧ s.rf 0 Reg.DMC_REMOUNT_STATUS_STATE = 1 ∧ (s.dmcAt 0).block < s.rankBlocks 0) ∧
    (∃ s : State, s.rf 0 Reg.DMC_STATUS_STATE = 4 ∧ s.rf 0 Reg.DMC_REMOUNT_STATUS_STATE = 1 ∧ s.rankBlocks 0 ≤ (s.dmcAt 0).block) ∧
    (∃ s : State, (s.wwtAt 1 0 0).running = true ∧ 10 = 10 * ([unitOf 0 0, unitOf 0 1].filter s.dmcReady).length) ∧
    (∃ s : State, (s.wwtAt 1 0 0).running = true ∧ 10 = 10 * ([unitOf 0 0, unitOf 0 1].filter s.dmcReady).length) ∧
    (∃ s : State, s.coachUp 0 = true) ∧
    (∃ s : State, s.coachUp 0 = true) ∧
    (∃ s : State, s.coachUp 0 = true) ∧
    (∃ s : State, s.pwr.off = false) :=
  ⟨⟨spared live 9, by unfold Reaches; decide +kernel⟩,
   ⟨put (spared live 9) [(0, Reg.DMC_CFG_SPARE, 7)], by unfold Reaches; decide +kernel⟩,
   ⟨put (spared live 134217727) [(0, Reg.DMC_STATUS_STATE, 4), (0, Reg.DMC_REMOUNT_STATUS_STATE, 1)], by decide +kernel⟩,
   ⟨put (spared live 134217728) [(0, Reg.DMC_STATUS_STATE, 4), (0, Reg.DMC_REMOUNT_STATUS_STATE, 1), (0, Reg.DMC_REMOUNT_STATUS_FROM, 1)],
     by decide +kernel⟩,
   ⟨dramRunning live, by decide +kernel⟩,
   ⟨dramRunning live, by decide +kernel⟩,
   ⟨live, by decide +kernel⟩,
   ⟨live, by decide +kernel⟩,
   ⟨live, by decide +kernel⟩,
   ⟨{ live with pwr := { live.pwr with off := false } }, by decide +kernel⟩⟩

theorem test_mews_carry_packets_whole_and_flush_at_aboundary_met :
    (∃ s : State, s.mewDepth 1023 ≠ 0 ∧ (s.mew 1023).owed = 0 ∧ s.mewKind 1023 = 1 ∧ s.mewDepth 1023 < (s.mew 1023).held + 5) ∧
    (∃ s : State, s.mewDepth 1023 ≠ 0 ∧ (s.mew 1023).owed = 0 ∧ (s.mew 1023).packets.getLast? = some (pktOf 5) ∧
      (s.mew 1023).held + 4 ≤ s.mewDepth 1023) ∧
    (∃ s : State, s.mewDepth 1023 ≠ 0 ∧ (s.mew 1023).owed = 0 ∧ (s.mew 1023).packets.getLast? = some (pktOf 5) ∧ s.mewKind 1023 ≠ 1 ∧
      s.mewDepth 1023 < (s.mew 1023).held + 7) ∧
    (∃ s : State, (s.mew 1023).owed ≠ 0 ∧ (s.mew 1023).held < s.mewDepth 1023) ∧
    (∃ s : State, (s.mew 1023).packets = [⟨7, 0, false, false, false, none⟩] ∧ 7 < s.rf 0 (mewF Reg.MEW_PEAK_CUT 1023)) ∧
    (∃ s : State, (s.mew 1023).packets = ⟨7, 4, true, false, false, none⟩ :: [pktOf 2] ∧ 7 ≤ 4 + 3) ∧
    (∃ s : State, (s.mew 1023).packets = ⟨8, 0, false, false, false, none⟩ :: [] ∧ s.rf 0 (mewF Reg.MEW_PEAK_CUT 1023) ≤ 8 ∧ 0 + 3 < 8) ∧
    (∃ s : State, (s.mew 1023).packets.getLast? = some ⟨8, 0, false, false, false, none⟩) ∧
    (∃ s : State, Reaches s .MEW 0) ∧
    (∃ s : State, Reaches s .MEW 0 ∧ Reg.MEW_FLUSH_MEWS.of 1023 = 1023 ∧ s.mewKind 1023 ≠ 2) ∧
    (∃ s : State, Reaches s .MEW 0 ∧ Reg.MEW_FLUSH_MEWS.of 1023 = 1023 ∧ s.mewKind 1023 = 2) ∧
    (∃ s : State, (s.mew 1023).flush = some 2 ∧ (s.mew 1023).atBoundary = true ∧ (s.mew 1023).endedTo 2 = true ∧ (s.mew 1023).hwFlush = false) ∧
    (∃ s : State, (s.mew 1023).flush = some 2 ∧ (s.mew 1023).atBoundary = true ∧ (s.mew 1023).endedTo 2 = true ∧ (s.mew 1023).hwFlush = true ∧
      s.mewKind 1023 = 0) ∧
    (∃ s : State, (s.mew 1023).flush = some 2 ∧ (s.mew 1023).atBoundary = true ∧ (s.mew 1023).endedTo 2 = true ∧ (s.mew 1023).hwFlush = true ∧
      s.mewKind 1023 = 1 ∧ (s.mewEnds 1023).find? (fun e => e.2.typ == Blk.typeCode .STA) = none ∧ (linesAmong ((s.mew 1023).packets.take 2)).1 ≠ 0 ∧
      ((s.mew 1023).packets.drop 2).head?.any MewPkt.isLost = false) :=
  ⟨⟨mewsed live 1023 9 1 ⟨[pktOf 5], 0, none, 0, false⟩, by decide +kernel⟩,
   ⟨mewsed live 1023 9 1 ⟨[pktOf 5], 0, none, 0, false⟩, by decide +kernel⟩,
   ⟨mewsed live 1023 9 0 ⟨[pktOf 5], 0, none, 0, false⟩, by decide +kernel⟩,
   ⟨mewsed live 1023 9 0 ⟨[⟨7, 2, false, true, false, none⟩], 6, none, 0, false⟩, by decide +kernel⟩,
   ⟨mewsed live 1023 9 0 ⟨[⟨7, 0, false, false, false, none⟩], 0, none, 0, false⟩, by decide +kernel⟩,
   ⟨mewsed live 1023 9 0 ⟨[⟨7, 4, true, false, false, none⟩, pktOf 2], 0, none, 0, false⟩, by decide +kernel⟩,
   ⟨mewsed live 1023 9 0 ⟨[⟨8, 0, false, false, false, none⟩], 0, none, 0, false⟩, by decide +kernel⟩,
   ⟨mewsed live 1023 9 0 ⟨[pktOf 2, ⟨8, 0, false, false, false, none⟩], 4, none, 0, false⟩, by decide +kernel⟩,
   ⟨mewsed live 1023 9 0 Mews.fresh, by unfold Reaches; decide +kernel⟩,
   ⟨mewsed live 1023 9 0 ⟨[pktOf 2], 0, none, 0, false⟩, by unfold Reaches; decide +kernel⟩,
   ⟨mewsed live 1023 9 2 ⟨[pktOf 2], 0, none, 0, false⟩, by unfold Reaches; decide +kernel⟩,
   ⟨mewsed live 1023 9 2 ⟨[pktOf 2, pktOf 3, pktOf 1], 0, some 2, 4, false⟩, by decide +kernel⟩,
   ⟨mewsed live 1023 9 0 ⟨[pktOf 2, pktOf 3, pktOf 1], 0, some 2, 4, true⟩, by decide +kernel⟩,
   ⟨mewsed live 1023 9 1 tapFl, by decide +kernel⟩⟩

theorem test_drayage_copies_bursts_forward_met :
    (∃ s : State, Reaches s .DRY 0 ∧ s.rf 0 Reg.PWR_STATE_STATE ≠ 3 ∧ Reg.DRY_CH_CTL_ABORT.of 0 = 0 ∧ s.rf 0 (dc Reg.DRY_CH_STATUS_STATE 31) ≠ 0) ∧
    (∃ s : State, Reaches s .DRY 0 ∧ s.rf 0 Reg.PWR_STATE_STATE ≠ 3 ∧ Reg.DRY_CH_CTL_ABORT.of 0 = 0 ∧ s.rf 0 (dc Reg.DRY_CH_STATUS_STATE 31) = 0 ∧
      s.dryTest 0 31 = some 3) ∧
    (∃ s : State, Reaches s .DRY 0 ∧ s.rf 0 Reg.PWR_STATE_STATE ≠ 3 ∧ Reg.DRY_CH_CTL_ABORT.of 0 = 0 ∧ s.rf 0 (dc Reg.DRY_CH_STATUS_STATE 31) = 0 ∧
      s.dryTest 0 31 = none) ∧
    (∃ s : State, Reaches s .DRY 0 ∧ Reg.DRY_CH_CTL_GO.of 0 = 0 ∧ s.rf 0 (dc Reg.DRY_CH_STATUS_STATE 31) = 1) ∧
    (∃ s : State, Reaches s .DRY 0 ∧ Reg.DRY_CH_CTL_GO.of 0 = 0 ∧ s.rf 0 (dc Reg.DRY_CH_STATUS_STATE 31) = 2) ∧
    (∃ s : State, Reaches s .DRY 0) ∧
    (∃ s : State, s.rf 0 (dc Reg.DRY_CH_RESID_BYTES 31) ≠ 0 ∧ s.rf 0 (dc Reg.DRY_CH_STATUS_STATE 31) = 1 ∧ s.rf 0 (dc Reg.DRY_CH_CFG_PACE 31) = 15 ∧
      s.rf 0 (Reg.DRY_REQ_CREDIT.sh (4 * 15)) = 0) ∧
    (∃ s : State, s.rf 0 (dc Reg.DRY_CH_RESID_BYTES 31) = 128 ∧ s.rf 0 (dc Reg.DRY_CH_STATUS_STATE 31) = 1 ∧
      Nat.min 128 (64 * (if s.rf 0 (dc Reg.DRY_CH_CFG_BURST 31) = 0 then 64 else s.rf 0 (dc Reg.DRY_CH_CFG_BURST 31))) = 64 ∧
      s.drySrc 0 31 + (s.dryCnt 0 31 - 128) = 0x10000040 ∧ s.dryDst 0 31 + (s.dryCnt 0 31 - 128) = 0x10001040 ∧
      s.rf 0 (dc Reg.DRY_CH_CFG_SRC_SPACE 31) = 0 ∧ s.rf 0 (dc Reg.DRY_CH_CFG_DST_SPACE 31) = 0 ∧ s.covered 4096 0x10001040 (0x10001040 + 64) = true ∧
      s.rf 0 (dc Reg.DRY_CH_CFG_PACE 31) = 15 ∧ s.rf 0 (Reg.DRY_REQ_CREDIT.sh (4 * 15)) ≠ 0) ∧
    (∃ s : State, s.rf 0 (dc Reg.DRY_CH_STATUS_STATE 31) = 2 ∧ s.rf 0 (dc Reg.DRY_CH_RESID_BYTES 31) = 0) ∧
    (∃ s : State, 0 < s.hw.coaches) :=
  ⟨⟨drayed live [(dc Reg.DRY_CH_STATUS_STATE 31, 2)], by unfold Reaches; decide +kernel⟩,
   ⟨drayed live [(dc Reg.DRY_CH_STATUS_STATE 31, 0), (dc Reg.DRY_CH_DST_LO_ADDR 31, 0x10000040)], by unfold Reaches; decide +kernel⟩,
   ⟨drayed live [(dc Reg.DRY_CH_STATUS_STATE 31, 0)], by unfold Reaches; decide +kernel⟩,
   ⟨drayed live [(dc Reg.DRY_CH_STATUS_STATE 31, 1), (dc Reg.DRY_CH_RESID_BYTES 31, 64)], by unfold Reaches; decide +kernel⟩,
   ⟨drayed live [(dc Reg.DRY_CH_STATUS_STATE 31, 2)], by unfold Reaches; decide +kernel⟩,
   ⟨live, by unfold Reaches; decide +kernel⟩,
   ⟨drayed live [(dc Reg.DRY_CH_STATUS_STATE 31, 1), (dc Reg.DRY_CH_RESID_BYTES 31, 64), (Reg.DRY_REQ_CREDIT.sh 60, 0)], by decide +kernel⟩,
   ⟨{ drayed live [(dc Reg.DRY_CH_STATUS_STATE 31, 1), (dc Reg.DRY_CH_RESID_BYTES 31, 128), (Reg.DRY_REQ_CREDIT.sh 60, 2)] with mem := [(0x10000041, 7), (0x10000081, 5)], poison := [0x10000040 / 8] },
     by decide +kernel⟩,
   ⟨drayed live [(dc Reg.DRY_CH_STATUS_STATE 31, 2), (dc Reg.DRY_CH_RESID_BYTES 31, 0)], by decide +kernel⟩,
   ⟨put live [(0, Reg.DRY_REQ_CREDIT.sh 52, 65535)], by decide +kernel⟩⟩

theorem test_the_highest_input_wins_the_grant_met :
    (∃ s : State, s.hasUnit .WHT 0 = true ∧ (s.whtAt 0).holder = none ∧ (s.whtAdd 0 (s.whtAt 0) [⟨3, 9, 0⟩]).reqs ≠ [] ∧
      (∀ r ∈ (s.whtAdd 0 (s.whtAt 0) [⟨3, 9, 0⟩]).reqs, s.whtCurbed 0 r = false ∧ r.orphan = false)) ∧
    (∃ s : State, (s.whtAt 0).holder = some (reqOf 1 9, 4) ∧ s.hasUnit .WHT 0 = true) ∧
    (∃ s : State, (s.whtAt 0).holder = some (reqOf 1 9, 4) ∧ s.whtHold 0 = true) ∧
    (∃ s : State, (s.whtAt 0).holder = some (reqOf 1 9, 4) ∧ s.whtHold 0 = false ∧ 0 < 4 ∧ 4 < (reqOf 1 9).beats ∧ (s.whtAt 0).reqs = [] ∧
      (reqOf 1 9).orphan = false ∧ s.whtCurbed 0 { reqOf 1 9 with beats := 5, preempted := false, since := s.now, told := false } = false) ∧
    (∃ s : State, (s.whtAt 0).holder = some (reqOf 1 9, 4)) ∧
    (∃ s : State, (s.whtAt 0).holder = some (reqOf 1 9, 4) ∧ whtEmergency 0 = true ∧ s.hasUnit .WHT 0 = true ∧ (reqOf 1 9).input ≠ 15) ∧
    (∃ s : State, (s.whtAt 0).reqs.find? (fun r => r.input == 2 && !r.told && decide (s.rf 0 Reg.WHT_STARVE_LIMIT_NS < s.now - r.since)) = some (reqOf
      2 8) ∧ s.rf 0 Reg.WHT_STARVE_LIMIT_NS ≠ 0) ∧
    (∃ s : State, Reaches s .WHT 0) :=
  ⟨⟨whtd live [reqOf 2 8] none, by decide +kernel⟩,
   ⟨whtd live [reqOf 2 8] (some (reqOf 1 9, 4)), by decide +kernel⟩,
   ⟨put (whtd live [] (some (reqOf 1 9, 4))) [(0, Reg.WHT_CTL_HOLD, 1)], by decide +kernel⟩,
   ⟨whtd live [] (some (reqOf 1 9, 4)), by decide +kernel⟩,
   ⟨whtd live [] (some (reqOf 1 9, 4)), by decide +kernel⟩,
   ⟨whtd live [reqOf 2 8] (some (reqOf 1 9, 4)), by decide +kernel⟩,
   ⟨put { whtd live [reqOf 2 8] none with tmt := { live.tmt with ns := 1001 } } [(0, Reg.WHT_STARVE_LIMIT_NS, 1000)], by decide +kernel⟩,
   ⟨{ whtd live [reqOf 2 8] none with tmt := { live.tmt with ns := 1001 } }, by unfold Reaches; decide +kernel⟩⟩

theorem test_reins_carry_events_cycle_by_cycle_met :
    (∃ s : State, 7 < s.hw.coaches ∧ (s.rf 0 Reg.PWR_STATE_COACH_UP).testBit 7 = false) ∧
    (∃ s : State, 7 < s.hw.coaches ∧ (s.rf 0 Reg.PWR_STATE_COACH_UP).testBit 7 = true ∧ 65535 ≤ cgetD s.rein.cross (crossKey 7 0xF014 31) 0) ∧
    (∃ s : State, s.reinUp = []) ∧
    (∃ s : State, s.reinUp ≠ [] ∧ (5, 1) ∈ s.rein.trunk ∧ s.yoke.commits = [] ∧ s.yoke.armed = [] ∧ (6, 46 + 2) ∈ s.rein.trunk ∧ 31 ∈ s.rein.fire ∧
      s.keyOpen (64 + 31) = true ∧ 1 ∈ s.reinUp ∧ s.rf (unitOf 1 0) (Reg.REI_SRC_ENABLE.sh (4 * 255)) = 1 ∧
      63 = s.rf (unitOf 1 0) (Reg.REI_SRC_CHANNEL.sh (4 * 255)) ∧ s.keyOpen (1 * 128 + 63) = true ∧
      0 < cgetD s.rein.cross (crossKey 1 (s.rf (unitOf 1 0) (Reg.REI_SRC_SOURCE.sh (4 * 255))) (s.rf (unitOf 1 0) (Reg.REI_SRC_EVENT.sh (4 * 255))))
      0) ∧
    (∃ s : State, s.rf (unitOf 1 0) (Reg.BKL_CFG_FILTER.sh (16 * 31)) = 1) ∧
    (∃ s : State, s.rf (unitOf 1 0) (Reg.BKL_CFG_FILTER.sh (16 * 31)) ≠ 1) ∧
    (∃ s : State, 0 < s.keyRate 95 ∧ s.keyOpen 95 = false) ∧
    (∃ s : State, Reaches s .REI 0 ∧ secureMaster 1 = false ∧ s.rf 0 (Reg.REI_TR_CFG_SECURE.sh (8 * 0)) = 0 ∧
      s.rf 0 (Reg.REI_TR_CFG_SECURE.sh (8 * 31)) = 0) ∧
    (∃ s : State, Reaches s .REI 0 ∧ secureMaster 1 = false ∧ s.rf 0 (Reg.REI_TR_CFG_SECURE.sh (8 * 31)) = 1) ∧
    (∃ s : State, Reaches s .REI 0 ∧ secureMaster mWwt = true) ∧
    (∃ s : State, s.pwr.off = false ∧ s.hw.gio.testBit 31 = true) ∧
    (∃ s : State, s.pwr.off = false ∧ s.gioIsOutput 31 = false ∧ s.hw.gio.testBit 31 ≠ false ∧ s.rf 0 Reg.PWR_STATE_STATE = 0 ∧
      (s.rf 0 Reg.PWR_STATE_COACH_UP).testBit 0 = true) :=
  ⟨⟨put live [(0, Reg.PWR_STATE_COACH_UP, 127)], by decide +kernel⟩,
   ⟨{ put live [(0, Reg.PWR_STATE_COACH_UP, 255)] with rein := { live.rein with cross := [(crossKey 7 0xF014 31, 65535)] } }, by decide +kernel⟩,
   ⟨put live [(0, Reg.PWR_STATE_COACH_UP, 0)], by decide +kernel⟩,
   ⟨reined live, by decide +kernel⟩,
   ⟨{ put live [(32, Reg.BKL_CFG_FILTER.sh 496, 1)] with rein := { live.rein with buckles := [(unitOf 1 31, ⟨false, true, false⟩)] } },
     by decide +kernel⟩,
   ⟨{ put live [(32, Reg.BKL_CFG_FILTER.sh 496, 4)] with rein := { live.rein with buckles := [(unitOf 1 31, ⟨false, true, false⟩)] } },
     by decide +kernel⟩,
   ⟨{ reined live with rein := { live.rein with window := [(95, 1)] } }, by decide +kernel⟩,
   ⟨put live [(0, Reg.REI_TR_CFG_SECURE.sh 0, 0), (0, Reg.REI_TR_CFG_SECURE.sh 248, 0)], by unfold Reaches; decide +kernel⟩,
   ⟨put live [(0, Reg.REI_TR_CFG_SECURE.sh 248, 1)], by unfold Reaches; decide +kernel⟩,
   ⟨put live [(0, Reg.REI_TR_CFG_SECURE.sh 248, 1)], by unfold Reaches; decide +kernel⟩,
   ⟨{ live with pwr := { live.pwr with off := false }, hw := { live.hw with gio := 0x80000000 } }, by decide +kernel⟩,
   ⟨put { live with pwr := { live.pwr with off := false }, hw := { live.hw with gio := 0x80000000 } } [(0, Reg.PWR_STATE_STATE, 0), (0,
     Reg.PWR_STATE_COACH_UP, 1)], by decide +kernel⟩⟩

theorem test_the_time_steps_only_where_it_may_met :
    (∃ s : State, s.pwr.off = false ∧ s.tmt.step = none ∧ s.pair.handover = none) ∧
    (∃ s : State, s.rf 0 Reg.TMT_CFG_ROLE ≠ 0 ∧ s.tmt.master = some (gmOf 0x77 3) ∧ s.rf 0 Reg.TMT_STATUS_PORT_STATE = 9 ∧
      rne (207000 - s.ptpAsym.1 - (90000 + 10000) - sgn 32 (s.rf 0 Reg.TMT_PATH_DELAY_PS)) 1000 = 100 ∧
      (100 : Int).natAbs ≤ s.rf 0 Reg.TMT_JUMP_LIMIT_NS ∧ s.rf 0 Reg.TMT_CFG_DOMAIN = 5) ∧
    (∃ s : State, s.rf 0 Reg.TMT_CFG_ROLE ≠ 0 ∧ s.tmt.master = some (gmOf 0x77 3) ∧ s.rf 0 Reg.TMT_STATUS_PORT_STATE = 9 ∧
      rne (208000 - s.ptpAsym.1 - (90000 + 10000) - sgn 32 (s.rf 0 Reg.TMT_PATH_DELAY_PS)) 1000 = 101 ∧
      s.rf 0 Reg.TMT_JUMP_LIMIT_NS < (101 : Int).natAbs ∧ s.rf 0 Reg.TMT_STATUS_STATE ≠ 0 ∧ s.tmt.fromWake = false ∧ s.rf 0 Reg.TMT_CFG_DOMAIN = 5) ∧
    (∃ s : State, s.rf 0 Reg.TMT_CFG_ROLE ≠ 0 ∧ s.tmt.master = some (gmOf 0x77 3) ∧ s.rf 0 Reg.TMT_STATUS_PORT_STATE = 9 ∧
      rne (208000 - s.ptpAsym.1 - (90000 + 10000) - sgn 32 (s.rf 0 Reg.TMT_PATH_DELAY_PS)) 1000 = 101 ∧
      s.rf 0 Reg.TMT_JUMP_LIMIT_NS < (101 : Int).natAbs ∧ s.rf 0 Reg.TMT_STATUS_STATE = 0 ∧ s.rf 0 Reg.TMT_CFG_DOMAIN = 5) ∧
    (∃ s : State, Reaches s .TMT 0 ∧ s.rf 0 Reg.TMT_STATUS_STEP_PENDING = 1) ∧
    (∃ s : State, Reaches s .TMT 0) ∧
    (∃ s : State, Reaches s .TMT 0 ∧ 1 ≤ s.rf 0 Reg.TMT_STATUS_SOURCE ∧ s.rf 0 Reg.TMT_STATUS_SOURCE ≤ 3) ∧
    (∃ s : State, Reaches s .TMT 0 ∧ s.rf 0 Reg.TMT_STATUS_SOURCE = 0) ∧
    (∃ s : State, Reaches s .TMT 0) :=
  ⟨⟨{ live with pwr := { live.pwr with off := false }, tmt := { live.tmt with ns := 2 ^ 48 * 1000000000 - 1, frac := 2 ^ 40 - 1, step := none }, pair := { live.pair with handover := none } },
    by decide +kernel⟩,
   ⟨slaved live 2, by decide +kernel⟩,
   ⟨{ slaved live 3 with tmt := { (slaved live 3).tmt with fromWake := false } }, by decide +kernel⟩,
   ⟨slaved live 0, by decide +kernel⟩,
   ⟨put live [(0, Reg.TMT_STATUS_STEP_PENDING, 1), (0, Reg.TMT_STATUS_STATE, 4)], by unfold Reaches; decide +kernel⟩,
   ⟨put live [(0, Reg.TMT_STATUS_STEP_PENDING, 1)], by unfold Reaches; decide +kernel⟩,
   ⟨put live [(0, Reg.TMT_STATUS_SOURCE, 3)], by unfold Reaches; decide +kernel⟩,
   ⟨put live [(0, Reg.TMT_STATUS_SOURCE, 0), (0, Reg.TMT_SET_LO_NS, 123)], by unfold Reaches; decide +kernel⟩,
   ⟨{ live with tmt := { live.tmt with ns := 2 ^ 65 + 5 } }, by unfold Reaches; decide +kernel⟩⟩

theorem test_ptp_messages_act_by_the_role_of_the_port_met :
    (∃ s : State, s.rf 0 Reg.TMT_CFG_ROLE = 0) ∧
    (∃ s : State, s.rf 0 Reg.TMT_CFG_ROLE = 0) ∧
    (∃ s : State, s.rf 0 Reg.TMT_CFG_ROLE ≠ 0 ∧ 5 = s.rf 0 Reg.TMT_CFG_DOMAIN ∧ s.tmt.master = some (gmOf 0x77 3) ∧
      s.rf 0 Reg.TMT_STATUS_PORT_STATE = 9) ∧
    (∃ s : State, s.rf 0 Reg.TMT_CFG_ROLE ≠ 0 ∧ 5 = s.rf 0 Reg.TMT_CFG_DOMAIN ∧ s.tmt.master = some (gmOf 0x77 3) ∧
      s.rf 0 Reg.TMT_STATUS_PORT_STATE = 9 ∧ s.tmt.sync = some (9, 207000, 4000) ∧
      rne (207000 - (90000 + 6000 + 4000) - sgn 32 (s.rf 0 Reg.TMT_PATH_DELAY_PS)) 1000 = 100 ∧ (100 : Int).natAbs ≤ s.rf 0 Reg.TMT_JUMP_LIMIT_NS) ∧
    (∃ s : State, s.rf 0 Reg.TMT_CFG_ROLE ≠ 0 ∧ 5 = s.rf 0 Reg.TMT_CFG_DOMAIN ∧ s.tmt.master = some (gmOf 0x77 3) ∧
      s.rf 0 Reg.TMT_STATUS_PORT_STATE = 9 ∧ s.rf 0 Reg.TMT_CFG_PEER = 0 ∧ s.tmt.delayReq = some (9, 300) ∧ s.tmt.lastSync = some (100, 160)) ∧
    (∃ s : State, s.rf 0 Reg.TMT_CFG_ROLE = 1 ∧ 5 = s.rf 0 Reg.TMT_CFG_DOMAIN ∧ s.tmt.master = some (gmOf 0x77 3) ∧
      s.rf 0 Reg.TMT_STATUS_PORT_STATE = 9 ∧ (gmOf 0x77 3).identity ≠ 0x78) ∧
    (∃ s : State, s.rf 0 Reg.TMT_CFG_ROLE ≠ 0 ∧ 5 = s.rf 0 Reg.TMT_CFG_DOMAIN ∧ s.rf 0 Reg.TMT_STATUS_PORT_STATE = 6 ∧ s.rf 0 Reg.TMT_CFG_PEER = 0) ∧
    (∃ s : State, s.rf 0 Reg.TMT_CFG_ROLE ≠ 0 ∧ 5 = s.rf 0 Reg.TMT_CFG_DOMAIN ∧ s.rf 0 Reg.TMT_CFG_PEER = 1 ∧ s.rf 0 Reg.TMT_CFG_TWO_STEP = 0) ∧
    (∃ s : State, s.rf 0 Reg.TMT_CFG_ROLE ≠ 0 ∧ 5 = s.rf 0 Reg.TMT_CFG_DOMAIN ∧ s.rf 0 Reg.TMT_CFG_PEER = 1 ∧ s.rf 0 Reg.TMT_CFG_TWO_STEP = 1) ∧
    (∃ s : State, s.rf 0 Reg.TMT_CFG_ROLE ≠ 0 ∧ 5 = s.rf 0 Reg.TMT_CFG_DOMAIN ∧ s.rf 0 Reg.TMT_CFG_PEER = 1 ∧ s.tmt.delayReq = some (9, 100)) ∧
    (∃ s : State, s.rf 0 Reg.TMT_CFG_ROLE ≠ 0 ∧ 5 = s.rf 0 Reg.TMT_CFG_DOMAIN ∧ s.rf 0 Reg.TMT_CFG_PEER = 1 ∧ s.tmt.delayReq = some (9, 100)) ∧
    (∃ s : State, s.rf 0 Reg.TMT_CFG_ROLE ≠ 0 ∧ 5 = s.rf 0 Reg.TMT_CFG_DOMAIN ∧ s.rf 0 Reg.TMT_CFG_PEER = 1 ∧ s.tmt.delayReq = some (9, 100) ∧
      s.tmt.pdelay = some (9, 120, 200, 6)) ∧
    (∃ s : State, s.rf 0 Reg.TMT_CFG_ROLE ≠ 0 ∧ 5 = s.rf 0 Reg.TMT_CFG_DOMAIN) ∧
    (∃ s : State, 5 = s.rf 0 Reg.TMT_CFG_DOMAIN ∧ s.laneHeld (s.rf 0 Reg.TMT_CFG_LANE) = false ∧ s.rf 0 Reg.TMT_CFG_ROLE = 2 ∧
      s.rf 0 Reg.TMT_STATUS_PORT_STATE = 6) ∧
    (∃ s : State, 5 = s.rf 0 Reg.TMT_CFG_DOMAIN ∧ s.laneHeld (s.rf 0 Reg.TMT_CFG_LANE) = false ∧ s.rf 0 Reg.TMT_CFG_ROLE = 2 ∧
      s.rf 0 Reg.TMT_STATUS_PORT_STATE = 6 ∧ s.rf 0 Reg.TMT_CFG_TWO_STEP = 1) ∧
    (∃ s : State, s.rf 0 Reg.TMT_CFG_ROLE ≠ 0 ∧ 5 = s.rf 0 Reg.TMT_CFG_DOMAIN ∧ s.laneHeld (s.rf 0 Reg.TMT_CFG_LANE) = false ∧
      s.rf 0 Reg.TMT_STATUS_PORT_STATE = 9) ∧
    (∃ s : State, s.rf 0 Reg.TMT_CFG_ROLE ≠ 0 ∧ 5 = s.rf 0 Reg.TMT_CFG_DOMAIN ∧ s.tmt.master ≠ none ∧ s.rf 0 Reg.TMT_STATUS_SOURCE = 1 ∧
      s.rf 0 Reg.TMT_STATUS_STATE ≠ 4) :=
  ⟨⟨{ put live [(0, Reg.TMT_CFG_ROLE, 0)] with tmt := { live.tmt with sync := some (9, 5, 6), master := some (gmOf 1 3) } }, by decide +kernel⟩,
   ⟨{ put live [(0, Reg.TMT_CFG_ROLE, 0)] with tmt := { live.tmt with sync := some (9, 5, 6), master := some (gmOf 1 3) } }, by decide +kernel⟩,
   ⟨slaved live 3, by decide +kernel⟩,
   ⟨{ slaved live 3 with tmt := { (slaved live 3).tmt with sync := some (9, 207000, 4000) } }, by decide +kernel⟩,
   ⟨{ slaved live 3 with tmt := { (slaved live 3).tmt with delayReq := some (9, 300), lastSync := some (100, 160) } }, by decide +kernel⟩,
   ⟨slaved live 3, by decide +kernel⟩,
   ⟨leading live 0 0, by decide +kernel⟩,
   ⟨leading live 1 0, by decide +kernel⟩,
   ⟨leading live 1 1, by decide +kernel⟩,
   ⟨{ leading live 1 1 with tmt := { (leading live 1 1).tmt with delayReq := some (9, 100), asym := [] } }, by decide +kernel⟩,
   ⟨{ leading live 1 1 with tmt := { (leading live 1 1).tmt with delayReq := some (9, 100), asym := [] } }, by decide +kernel⟩,
   ⟨{ leading live 1 1 with tmt := { (leading live 1 1).tmt with delayReq := some (9, 100), pdelay := some (9, 120, 200, 6) } }, by decide +kernel⟩,
   ⟨leading live 0 0, by decide +kernel⟩,
   ⟨leading live 0 0, by decide +kernel⟩,
   ⟨leading live 0 1, by decide +kernel⟩,
   ⟨{ slaved live 3 with tmt := { (slaved live 3).tmt with launches := [] } }, by decide +kernel⟩,
   ⟨slaved live 3, by decide +kernel⟩⟩

theorem test_launches_alarms_and_markers_fire_by_time_met :
    (∃ s : State, Reaches s .TMT 0 ∧ (0 : Word).toNat.testBit 31 = false ∧ 64 ≤ s.tmt.launches.length) ∧
    (∃ s : State, Reaches s .TMT 0 ∧ s.rf64 0 Reg.TMT_LAUNCH_TIME_LO_NS < s.tmt.ns + 20000 ∧ s.tmt.launches.length < 64) ∧
    (∃ s : State, Reaches s .TMT 0 ∧ s.tmt.ns + 20000 ≤ s.rf64 0 Reg.TMT_LAUNCH_TIME_LO_NS ∧ s.tmt.launches.length < 64) ∧
    (∃ s : State, Reaches s .TMT 0 ∧ s.tmt.launches.length < 64) ∧
    (∃ s : State, Reaches s .TMT 0 ∧ (0 : Word).toNat.testBit 30 = false) ∧
    (∃ s : State, s.tmt.launches.findIdx? s.prefetchDue = some 0 ∧ s.tmt.launches[0]? = some (launchOf 120000 0xFF false false none) ∧
      leAt (s.mem.readBytes (s.rf64 0 Reg.TMT_TPL_BASE_LO_ADDR + 256 * 0) 256) 0 2 < 60) ∧
    (∃ s : State, s.tmt.launches.findIdx? s.prefetchDue = some 0 ∧ s.tmt.launches[0]? = some (launchOf 120000 0xFF false false none) ∧
      leAt (s.mem.readBytes (s.rf64 0 Reg.TMT_TPL_BASE_LO_ADDR + 256 * 0) 256) 0 2 = 60 ∧
      s.ethService (leAt (s.mem.readBytes (s.rf64 0 Reg.TMT_TPL_BASE_LO_ADDR + 256 * 0) 256) 4 1) = true) ∧
    (∃ s : State, s.tmt.launches.findIdx? (fun l => l.frame.isSome && (l.late || decide (l.instant ≤ (s.now : Int)))) = some 0 ∧
      s.tmt.launches[0]? = some (launchOf 100000 0xFF false false (some (9, tplOf))) ∧ s.suppressed = true) ∧
    (∃ s : State, s.tmt.launches.findIdx? (fun l => l.frame.isSome && (l.late || decide (l.instant ≤ (s.now : Int)))) = some 0 ∧
      s.tmt.launches[0]? = some (launchOf 100000 0xFF false true (some (9, tplOf))) ∧ s.suppressed = false) ∧
    (∃ s : State, s.tmt.launches.findIdx? (fun l => l.frame.isSome && (l.late || decide (l.instant ≤ (s.now : Int)))) = some 0 ∧
      s.tmt.launches[0]? = some (launchOf 100000 0xFF false true (some (9, tplOf))) ∧ s.suppressed = false) ∧
    (∃ s : State, s.tmt.launches.findIdx? (fun l => l.frame.isSome && (l.late || decide (l.instant ≤ (s.now : Int)))) = some 0 ∧
      s.tmt.launches[0]? = some (launchOf 100000 0xFF true false (some (9, tplOf))) ∧ s.suppressed = false) ∧
    (∃ s : State, s.tmt.ns < s.rf64 0 (Reg.TMT_ALM_TIME_LO_NS.sh (0x20 * 7))) ∧
    (∃ s : State, s.rf 0 (Reg.TMT_ALM_CTL_ENABLE.sh (0x20 * 7)) = 1 ∧ s.rf64 0 (Reg.TMT_ALM_TIME_LO_NS.sh (0x20 * 7)) ≤ s.tmt.ns ∧
      s.rf64 0 (Reg.TMT_ALM_PERIOD_LO_NS.sh (0x20 * 7)) = 0) ∧
    (∃ s : State, s.rf 0 (Reg.TMT_ALM_CTL_ENABLE.sh (0x20 * 7)) = 1 ∧ s.rf64 0 (Reg.TMT_ALM_TIME_LO_NS.sh (0x20 * 7)) ≤ s.tmt.ns ∧
      s.rf64 0 (Reg.TMT_ALM_PERIOD_LO_NS.sh (0x20 * 7)) ≠ 0) ∧
    (∃ s : State, (∀ x ∈ s.tmt.targets, s.webQ < x.pos * nmQ) ∧ s.rf 0 (wp Reg.WAY_STATUS_SPEED_VALID s.webPort) = 0) ∧
    (∃ s : State, s.tmt.targets = [⟨1000000, 15, 3, false, false⟩] ∧ s.webQ < 1000000 * nmQ ∧ s.markTime 1000000 15 = some ((s.now : Int) + 1000000) ∧
      s.tmt.launches.length < 64 ∧ (s.now : Int) + 1000000 - 1000 * s.rf 0 (mkf Reg.TMT_MARK_CTL_LOCK_US 15) ≤ (s.tmt.ns : Int) ∧
      s.rf 0 (mkf Reg.TMT_MARK_CTL_LATE 15) = 0) :=
  ⟨⟨launching live (List.replicate 64 (launchOf 5 0xFF false false none)) 0, by unfold Reaches; decide +kernel⟩,
   ⟨launching live [launchOf 5 0xFF false false none] 100001, by unfold Reaches; decide +kernel⟩,
   ⟨launching live [launchOf 5 0xFF false false none] 100000, by unfold Reaches; decide +kernel⟩,
   ⟨launching live [launchOf 5 0xFF false false none] 100001, by unfold Reaches; decide +kernel⟩,
   ⟨launching live [launchOf 5 0xFF false false none, launchOf 5 2 false false none] 100001, by unfold Reaches; decide +kernel⟩,
   ⟨{ launching live [launchOf 120000 0xFF false false none] 100000 with mem := [(0x10000000, 59), (0x10000004, 40)] }, by decide +kernel⟩,
   ⟨{ launching live [launchOf 120000 0xFF false false none] 100000 with mem := [(0x10000000, 60), (0x10000004, 9)] }, by decide +kernel⟩,
   ⟨put (launching live [launchOf 100000 0xFF false false (some (9, tplOf))] 100000) [(0, Reg.PAI_STATUS_STATE, 3)], by decide +kernel⟩,
   ⟨launching live [launchOf 100000 0xFF false true (some (9, tplOf))] 100000, by decide +kernel⟩,
   ⟨launching live [launchOf 100000 0xFF false true (some (9, tplOf))] 100000, by decide +kernel⟩,
   ⟨launching live [launchOf 100000 0xFF true false (some (9, tplOf))] 0, by decide +kernel⟩,
   ⟨{ put live [(0, Reg.TMT_ALM_CTL_ENABLE.sh 0xE0, 1), (0, Reg.TMT_ALM_TIME_LO_NS.sh 0xE0, 501), (0, Reg.TMT_ALM_TIME_LO_NS.sh 0xE4, 0)] with tmt := { live.tmt with ns := 500 } },
     by decide +kernel⟩,
   ⟨alarmed live 0, by decide +kernel⟩,
   ⟨alarmed live 100, by decide +kernel⟩,
   ⟨marking live 0, by decide +kernel⟩,
   ⟨marking live 1, by decide +kernel⟩⟩

theorem test_interrupts_and_outrider_frames_are_answered_met :
    (∃ s : State, Reaches s .GLB 0 ∧ getBits (1 : Word) 7 0 ≠ 0 ∧ s.irqLevel (getBits (1 : Word) 7 0) = false) ∧
    (∃ s : State, Reaches s .GLB 0 ∧ getBits (1 : Word) 7 0 ≠ 0 ∧ s.irqLevel (getBits (1 : Word) 7 0) = true ∧ s.irq.masked.contains 1 = false) ∧
    (∃ s : State, Reaches s .GLB 0 ∧ getBits (1 : Word) 7 0 ≠ 0 ∧ s.irqLevel (getBits (1 : Word) 7 0) = true ∧ s.irq.masked.contains 1 = true) ∧
    (∃ s : State, 7 ∈ s.irq.masked ∧ 7 ∈ s.irq.pend) ∧
    (∃ s : State, s.pwr.off = false ∧ s.rf 0 Reg.GLB_BOOT_STAGE_STAGE ≠ 1 ∧ frameFault (0x10 :: [0, 0, 0, 0, 0, 1]) = 2 ∧ s.out.waiting = none) ∧
    (∃ s : State, s.pwr.off = false ∧ s.rf 0 Reg.GLB_BOOT_STAGE_STAGE ≠ 1 ∧ frameFault (frameOf [0x20, 0x10, 1, 0, 0, 0, 7, 0, 0, 0]) = 0 ∧
      s.out.waiting ≠ none) ∧
    (∃ s : State, s.pwr.off = false ∧ s.rf 0 Reg.GLB_BOOT_STAGE_STAGE ≠ 1 ∧ frameFault (frameOf [0x40, 0, 0, 0, 0, 0]) = 0 ∧ s.out.waiting = none) ∧
    (∃ s : State, s.pwr.off = false ∧ s.rf 0 Reg.GLB_BOOT_STAGE_STAGE ≠ 1 ∧ frameFault (frameOf [0x10, 0, 0, 0, 0, 0]) = 0 ∧ s.out.waiting = none ∧
      ((begun s).busRead mOut 0).2.2 = .done) ∧
    (∃ s : State, s.pwr.off = false ∧ s.rf 0 Reg.GLB_BOOT_STAGE_STAGE ≠ 1 ∧ frameFault (frameOf [0x10, 0, 0x10, 0, 0, 0]) = 0 ∧ s.out.waiting = none ∧
      ((begun s).busRead mOut 4096).2.2 = .refused) ∧
    (∃ s : State, s.pwr.off = false ∧ s.rf 0 Reg.GLB_BOOT_STAGE_STAGE ≠ 1 ∧ frameFault (frameOf [0x20, 0x10, 1, 0, 0, 0, 7, 0, 0, 0]) = 0 ∧
      s.out.waiting = none ∧ ((begun s).busWrite mOut 0x110 7).2 = .done) ∧
    (∃ s : State, s.pwr.off = false ∧ s.rf 0 Reg.GLB_BOOT_STAGE_STAGE ≠ 1 ∧ frameFault (frameOf [0x21, 0, 0x10, 0, 0, 0, 7, 0, 0, 0]) = 0 ∧
      s.out.waiting = none ∧ ((begun s).busWrite mOut 4096 7).2 = .refused) ∧
    (∃ s : State, s.pwr.off = false ∧ s.rf 0 Reg.GLB_BOOT_STAGE_STAGE ≠ 1 ∧ s.rf 0 Reg.OUT_CFG_MODE = 1 ∧ s.out.aside = none ∧
      s.out.waiting = some (frameOf [0x10, 0, 0, 0, 0, 1])) ∧
    (∃ s : State, s.pwr.off = false ∧ s.rf 0 Reg.GLB_BOOT_STAGE_STAGE ≠ 1 ∧ s.rf 0 Reg.OUT_CFG_MODE = 1 ∧ s.out.aside = none ∧ s.out.waiting = none ∧
      s.out.unread = true) ∧
    (∃ s : State, s.pwr.off = false ∧ s.rf 0 Reg.GLB_BOOT_STAGE_STAGE ≠ 1 ∧ s.rf 0 Reg.OUT_CFG_MODE = 1 ∧ s.out.aside = none ∧ s.out.waiting = none ∧
      s.out.unread = false) ∧
    (∃ s : State, s.out.waiting = none ∧ s.stalled = []) ∧
    (∃ s : State, s.out.waiting = none ∧ s.stalled = [⟨1, 0x110, true, 5, none⟩] ∧
      (State.busWrite { s with stalled := [] } 1 0x110 5).1.out.waiting = none) ∧
    (∃ s : State, s.out.waiting = none ∧ s.stalled = [⟨1, 0x110, false, 5, none⟩] ∧ (State.busRead { s with stalled := [] } 1 0x110).2.2 = .done ∧
      (State.busRead { s with stalled := [] } 1 0x110).2.1.out.waiting = none) :=
  ⟨⟨put live [(0, Reg.HDR_STATUS_DONE, 0), (0, Reg.HDR_STATUS_FAIL, 0)], by unfold Reaches; decide +kernel⟩,
   ⟨{ put live [(0, Reg.HDR_STATUS_DONE, 1)] with irq := { live.irq with masked := [] } }, by unfold Reaches; decide +kernel⟩,
   ⟨put live [(0, Reg.HDR_STATUS_DONE, 1)], by unfold Reaches; decide +kernel⟩,
   ⟨{ live with irq := { live.irq with pend := [7] } }, by decide +kernel⟩,
   ⟨outing live none, by decide +kernel⟩,
   ⟨outing live (some (frameOf [0x10, 0, 0, 0, 0, 0])), by decide +kernel⟩,
   ⟨outing live none, by decide +kernel⟩,
   ⟨outing live none, by decide +kernel⟩,
   ⟨outing live none, by decide +kernel⟩,
   ⟨outing live none, by decide +kernel⟩,
   ⟨outing live none, by decide +kernel⟩,
   ⟨put (outing live (some (frameOf [0x10, 0, 0, 0, 0, 1]))) [(0, Reg.OUT_CFG_MODE, 1)], by decide +kernel⟩,
   ⟨put (outing live none) [(0, Reg.OUT_CFG_MODE, 1)], by decide +kernel⟩,
   ⟨{ put (outing live none) [(0, Reg.OUT_CFG_MODE, 1)] with out := { live.out with unread := false } }, by decide +kernel⟩,
   ⟨outing live none, by decide +kernel⟩,
   ⟨{ outing live none with stalled := [⟨1, 0x110, true, 5, none⟩] }, by decide +kernel⟩,
   ⟨{ outing live none with stalled := [⟨1, 0x110, false, 5, none⟩] }, by decide +kernel⟩⟩

theorem test_commits_are_checked_released_or_ended_met :
    (∃ s : State, Reaches s .YOK 1 ∧ (if Reg.YOK_CTL_SCOPE.of 0x10 = 1 then some (Reg.YOK_CTL_CARRIAGE.of 0x10) else none) = none ∧
      s.yokeTests none (Reg.YOK_CTL_KIND.of 0x10) = some 4) ∧
    (∃ s : State, Reaches s .YOK 1 ∧ s.yokeTests none (Reg.YOK_CTL_KIND.of 0x20) = none ∧ Reg.YOK_CTL_DEFAULTS.of 0x20 = 0) ∧
    (∃ s : State, Reaches s .YOK mOut ∧ s.yoke.commits.find? (fun c => c.carriage == none) = some (commitOf 1 2 5 false false)) ∧
    (∃ s : State, Reaches s .YOK 0x20 ∧ s.yoke.commits.find? (fun c => c.carriage == none) = some (commitOf 1 2 5 false false)) ∧
    (∃ s : State, Reaches s .YOK 1 ∧ (∃ e ∈ s.stager, e.1 = regKey .REI 0 0x108 ∧ e.2 = 1) ∧ s.inScope none (regKey .REI 0 0x108) = true ∧
      s.frozen (regKey .REI 0 0x108) = false) ∧
    (∃ s : State, s.yoke.commits.find? (fun c => c.carriage == none && !c.pending) = some brokenCommit ∧
      (s.yokeBreaks brokenCommit).map (fun x => x.1) = some 0x04F2) ∧
    (∃ s : State, s.yoke.commits.find? (fun c => c.carriage == none && !c.pending) = some (commitOf 1 2 15000 false false) ∧
      s.yokeBreaks (commitOf 1 2 15000 false false) = none ∧ s.yokeShared none = false ∧ s.yokePassed (commitOf 1 2 15000 false false) = true) ∧
    (∃ s : State, s.yoke.commits.find? (fun c => c.carriage == none && !c.pending) = some (commitOf 1 2 15001 false true) ∧
      s.yokeBreaks (commitOf 1 2 15001 false true) = none ∧ s.yokeShared none = false ∧ s.yokePassed (commitOf 1 2 15001 false true) = false) ∧
    (∃ s : State, s.yoke.commits.find? (fun c => c.carriage == none && !c.pending) = some (commitOf 1 2 15001 false false) ∧
      s.yokeBreaks (commitOf 1 2 15001 false false) = none ∧ s.yokeShared none = false ∧ s.yokePassed (commitOf 1 2 15001 false false) = false) ∧
    (∃ s : State, s.yoke.commits.find? (fun c => c.carriage == none && c.pending) = some (commitOf 1 2 15001 true false) ∧ s.yokeShared none = false ∧
      s.yokeDue (commitOf 1 2 15001 true false) = false) ∧
    (∃ s : State, s.yoke.commits.find? (fun c => c.carriage == none && c.pending) = some (commitOf 1 2 15001 true false) ∧ s.yokeShared none = false ∧
      s.yokeDue (commitOf 1 2 15001 true false) = true ∧ (∀ x ∈ s.yoke.commits, x.seq = 4 → x = commitOf 1 2 15001 true false) ∧
      (findDef .REI 0x108).isSome = true) :=
  ⟨⟨yoked live [], by unfold Reaches; decide +kernel⟩,
   ⟨yoked live [], by unfold Reaches; decide +kernel⟩,
   ⟨yoked live [commitOf 1 2 5 false false], by unfold Reaches; decide +kernel⟩,
   ⟨yoked live [commitOf 1 2 5 false false], by unfold Reaches; decide +kernel⟩,
   ⟨yoked live [], by unfold Reaches; decide +kernel⟩,
   ⟨yoked live [brokenCommit], by decide +kernel⟩,
   ⟨{ yoked live [commitOf 1 2 15000 false false] with tmt := { live.tmt with ns := 5001 } }, by decide +kernel⟩,
   ⟨{ yoked live [commitOf 1 2 15001 false true] with tmt := { live.tmt with ns := 5001 } }, by decide +kernel⟩,
   ⟨{ yoked live [commitOf 1 2 15001 false false] with tmt := { live.tmt with ns := 5001 } }, by decide +kernel⟩,
   ⟨{ yoked live [commitOf 1 2 15001 true false] with tmt := { live.tmt with ns := 15000 } }, by decide +kernel⟩,
   ⟨{ yoked live [commitOf 1 2 15001 true false] with tmt := { live.tmt with ns := 15001 } }, by decide +kernel⟩⟩

theorem test_mailboxes_carry_messages_and_services_met :
    (∃ s : State, Reaches s .PST 0 ∧ s.rf 0 (pst Reg.PST_STATUS_FULL 15) = 0 ∧ s.rf 0 (pst Reg.PST_STATUS_CLAIMED 15) = 0) ∧
    (∃ s : State, Reaches s .PST 0 ∧ s.rf 0 (pst Reg.PST_STATUS_FULL 15) = 0 ∧ s.rf 0 (pst Reg.PST_STATUS_CLAIMED 15) = 1 ∧
      s.rf 0 (pst Reg.PST_STATUS_WRITER 15) ≠ 1) ∧
    (∃ s : State, Reaches s .PST 0 ∧ s.rf 0 (pst Reg.PST_STATUS_CLAIMED 13) = 1 ∧ s.rf 0 (pst Reg.PST_STATUS_WRITER 13) = 1 ∧
      s.receiverAsleep 13 = true) ∧
    (∃ s : State, Reaches s .PST 0 ∧ s.rf 0 (pst Reg.PST_STATUS_FULL 0) = 1 ∧ s.replies = [] ∧ s.rf 0 (pst Reg.PST_CFG_RECEIVER 0) = 1) ∧
    (∃ s : State, Reaches s .PST 0 ∧ s.rf 0 (pst Reg.PST_STATUS_FULL 0) = 1 ∧ s.replies = [] ∧ s.rf 0 (pst Reg.PST_CFG_RECEIVER 0) ≠ 1) ∧
    (∃ s : State, Reaches s .PST 0 ∧ s.rf 0 (pst Reg.PST_STATUS_FULL 0) = 1 ∧ s.replies = [] ∧ s.rf 0 (pst Reg.PST_STATUS_WRITER 0) = 1) ∧
    (∃ s : State, Reaches s .PST 0) ∧
    (∃ s : State, Reaches s .PST 0 ∧ s.rf 0 (pst Reg.PST_CFG_RECEIVER 15) = 1) ∧
    (∃ s : State, Reaches s .PST 0 ∧ s.rf 0 (pst Reg.PST_CFG_RECEIVER 15) ≠ 1) ∧
    (∃ s : State, s.rf 0 (pst Reg.PST_STATUS_CLAIMED 15) = 1 ∧ s.replies = []) ∧
    (∃ s : State, s.rf 0 (pst Reg.PST_STATUS_FULL 13) = 1) ∧
    (∃ s : State, askable s 14 = true ∧ s.asks 14 1 = true) ∧
    (∃ s : State, askable s 14 = true ∧ s.asks 14 2 = true ∧ s.store.faults[(s.slotWord 14 2).toNat]? = some ⟨5, 6, 1, 2, 3, 4⟩) ∧
    (∃ s : State, askable s 14 = true ∧ s.asks 14 2 = true ∧ s.store.faults[(s.slotWord 14 2).toNat]? = none) ∧
    (∃ s : State, askable s 14 = true ∧ s.asks 14 3 = true ∧ getBits (s.slotWord 14 0) 7 0 = mOut) ∧
    (∃ s : State, askable s 14 = true ∧ s.asks 14 3 = true ∧ getBits (s.slotWord 14 0) 7 0 ≠ mOut) ∧
    (∃ s : State, askable s 14 = true ∧ s.asks 14 4 = true ∧ (s.slotWord 14 2).toNat < s.hw.coaches) ∧
    (∃ s : State, askable s 14 = true ∧ s.asks 14 4 = true ∧ s.hw.coaches ≤ (s.slotWord 14 2).toNat) ∧
    (∃ s : State, askable s 15 = true ∧ s.asks 15 1 = true ∧ s.running = true ∧ s.wwtExists s.wwtArgs.1 s.wwtArgs.2.1 s.wwtArgs.2.2 = true) ∧
    (∃ s : State, askable s 15 = true ∧ s.asks 15 1 = true ∧ s.wwtExists s.wwtArgs.1 s.wwtArgs.2.1 s.wwtArgs.2.2 = false) ∧
    (∃ s : State, askable s 15 = true ∧ s.asks 15 2 = true ∧ s.wwtExists s.wwtArgs.1 s.wwtArgs.2.1 s.wwtArgs.2.2 = true) ∧
    (∃ s : State, askable s 15 = true ∧ s.asks 15 2 = true ∧ s.wwtExists s.wwtArgs.1 s.wwtArgs.2.1 s.wwtArgs.2.2 = false) ∧
    (∃ s : State, askable s 15 = true ∧ s.asks 15 3 = true ∧ (s.store.calib[(s.slotWord 15 2).toNat]?).isSome = true) ∧
    (∃ s : State, askable s 15 = true ∧ s.asks 15 3 = true ∧ s.store.calib[(s.slotWord 15 2).toNat]? = none) :=
  ⟨⟨put live [(0, pst Reg.PST_STATUS_FULL 15, 0), (0, pst Reg.PST_STATUS_CLAIMED 15, 0)], by unfold Reaches; decide +kernel⟩,
   ⟨put live [(0, pst Reg.PST_STATUS_FULL 15, 0), (0, pst Reg.PST_STATUS_CLAIMED 15, 1), (0, pst Reg.PST_STATUS_WRITER 15, 2)],
     by unfold Reaches; decide +kernel⟩,
   ⟨{ put live [(0, pst Reg.PST_STATUS_CLAIMED 13, 1), (0, pst Reg.PST_STATUS_WRITER 13, 1), (0, pst Reg.PST_CFG_RECEIVER 13, 0x2F), (0, Reg.PWR_STATE_COACH_UP, 127)] with postSeq := [(13, 255)] },
     by unfold Reaches; decide +kernel⟩,
   ⟨put live [(0, pst Reg.PST_STATUS_FULL 0, 1), (0, pst Reg.PST_CFG_RECEIVER 0, 1)], by unfold Reaches; decide +kernel⟩,
   ⟨put live [(0, pst Reg.PST_STATUS_FULL 0, 1), (0, pst Reg.PST_CFG_RECEIVER 0, 0x20)], by unfold Reaches; decide +kernel⟩,
   ⟨put live [(0, pst Reg.PST_STATUS_FULL 0, 1), (0, pst Reg.PST_STATUS_WRITER 0, 1)], by unfold Reaches; decide +kernel⟩,
   ⟨put live [(0, pst Reg.PST_CFG_RECEIVER 15, 1)], by unfold Reaches; decide +kernel⟩,
   ⟨put live [(0, pst Reg.PST_CFG_RECEIVER 15, 1), (0, pst Reg.PST_HORN_HORN 15, 0x80000011)], by unfold Reaches; decide +kernel⟩,
   ⟨put live [(0, pst Reg.PST_CFG_RECEIVER 15, 0x20), (0, pst Reg.PST_HORN_HORN 15, 0x80000011)], by unfold Reaches; decide +kernel⟩,
   ⟨put live [(0, pst Reg.PST_STATUS_CLAIMED 15, 1)], by decide +kernel⟩,
   ⟨{ put live [(0, pst Reg.PST_STATUS_FULL 13, 1)] with replies := [⟨13, 0x20, [1]⟩] }, by decide +kernel⟩,
   ⟨asking live 14 1 1 0 0 0, by decide +kernel⟩,
   ⟨faulty (asking live 14 2 1 0 0 0), by decide +kernel⟩,
   ⟨faulty (asking live 14 2 1 1 0 0), by decide +kernel⟩,
   ⟨faulty (asking live 14 3 mOut 1 0 0), by decide +kernel⟩,
   ⟨faulty (asking live 14 3 1 1 0 0), by decide +kernel⟩,
   ⟨asking live 14 4 1 7 0 0, by decide +kernel⟩,
   ⟨asking live 14 4 1 8 0 0, by decide +kernel⟩,
   ⟨put (asking live 15 1 1 1 7 0) [(0, Reg.PWR_STATE_STATE, 0), (0, Reg.GLB_BOOT_STAGE_STAGE, 12)], by decide +kernel⟩,
   ⟨put (asking live 15 1 1 1 8 0) [(0, Reg.PWR_STATE_STATE, 0), (0, Reg.GLB_BOOT_STAGE_STAGE, 12)], by decide +kernel⟩,
   ⟨asking live 15 2 1 4 7 0, by decide +kernel⟩,
   ⟨asking live 15 2 1 5 7 0, by decide +kernel⟩,
   ⟨{ asking live 15 3 1 0 0 0 with store := { live.store with calib := [⟨1, 2, 3, 4, 5, 6, 7, 8, 9, 10, 11⟩] } }, by decide +kernel⟩,
   ⟨asking live 15 3 1 0 0 0, by decide +kernel⟩⟩

theorem test_linchpins_have_one_owner_and_break_with_it_met :
    (∃ s : State, Reaches s .LCH 0 ∧ s.pinOwner 63 = 0 ∧ drayMaster mHost = false) ∧
    (∃ s : State, Reaches s .LCH 0 ∧ s.pinOwner 63 ≠ 0) ∧
    (∃ s : State, Reaches s .LCH 0 ∧ s.pinOwner 63 = 2) ∧
    (∃ s : State, Reaches s .LCH 0 ∧ s.pinOwner 63 ≠ 1) ∧
    (∃ s : State, Reaches s .LCH 0 ∧ s.pinOwner 63 ≠ 0 ∧ s.pinClass 63 ≠ 0) ∧
    (∃ s : State, Reaches s .LCH 0) ∧
    (∃ s : State, s.pinOwner 63 = 0x20) ∧
    (∃ s : State, s.rf 0 Reg.LCH_LEASE_MS ≠ 0 ∧ s.tmt.ns < s.out.lastFrame + s.rf 0 Reg.LCH_LEASE_MS * 1000000) ∧
    (∃ s : State, s.rf 0 Reg.LCH_LEASE_MS ≠ 0 ∧ s.out.lastFrame + s.rf 0 Reg.LCH_LEASE_MS * 1000000 ≤ s.tmt.ns ∧ s.pinOwner 63 = mOut) ∧
    (∃ s : State, s.pinOwner 63 = 0x20 + 2 * 7 + 1) ∧
    (∃ s : State, s.pinOwner 63 = mHost ∧ s.pwr.linkUp = true) ∧
    (∃ s : State, s.pwr.off = false ∧ (s.rf 0 Reg.GLB_STRAP_STRAP).testBit 6 = false ∧ s.rf 0 Reg.PWR_STATE_STATE ≠ 2 ∧ s.pinOwner 63 = mHost) ∧
    (∃ s : State, s.pinOwner 63 = mHost) ∧
    (∃ s : State, s.pinOwner 63 = mHost ∧ s.pwr.inD0 = true) :=
  ⟨⟨pinned live 0, by unfold Reaches; decide +kernel⟩,
   ⟨pinned live 2, by unfold Reaches; decide +kernel⟩,
   ⟨pinned live 2, by unfold Reaches; decide +kernel⟩,
   ⟨pinned live 2, by unfold Reaches; decide +kernel⟩,
   ⟨pinned live 1, by unfold Reaches; decide +kernel⟩,
   ⟨pinned live 1, by unfold Reaches; decide +kernel⟩,
   ⟨pinned live 0x20, by decide +kernel⟩,
   ⟨{ put (pinned live mOut) [(0, Reg.LCH_LEASE_MS, 5)] with tmt := { live.tmt with ns := 5000099 }, out := { live.out with lastFrame := 100 } },
     by decide +kernel⟩,
   ⟨{ put (pinned live mOut) [(0, Reg.LCH_LEASE_MS, 5)] with tmt := { live.tmt with ns := 5000100 }, out := { live.out with lastFrame := 100 } },
     by decide +kernel⟩,
   ⟨pinned live 0x2F, by decide +kernel⟩,
   ⟨{ pinned live mHost with pwr := { live.pwr with linkUp := true, inD0 := true } }, by decide +kernel⟩,
   ⟨{ put (pinned live mHost) [(0, Reg.GLB_STRAP_STRAP, 0), (0, Reg.PWR_STATE_STATE, 0), (0, Reg.GLB_BOOT_STAGE_STAGE, 8)] with pwr := { live.pwr with off := false } },
     by decide +kernel⟩,
   ⟨pinned live mHost, by decide +kernel⟩,
   ⟨{ pinned live mHost with pwr := { live.pwr with inD0 := true } }, by decide +kernel⟩⟩

theorem test_the_pair_agrees_on_one_primary_met :
    (∃ s : State, s.pairRec = some ⟨7, 0, [0]⟩ ∧ s.rf 0 Reg.PAI_STATUS_STATE = 1 ∧ 8 ≠ 7) ∧
    (∃ s : State, s.pairRec = some ⟨7, 0, [0]⟩ ∧ s.rf 0 Reg.PAI_STATUS_STATE = 5 ∧ 8 ≠ 7) ∧
    (∃ s : State, s.pairRec = some ⟨7, 0, [0]⟩ ∧ s.rf 0 Reg.PAI_STATUS_STATE = 4 ∧ 9 = s.rf64 0 Reg.HDR_ACTIVE_ID_LO_ID) ∧
    (∃ s : State, s.pairRec = some ⟨7, 0, [0]⟩ ∧ s.rf 0 Reg.PAI_STATUS_STATE = 5 ∧ 9 = s.rf64 0 Reg.HDR_ACTIVE_ID_LO_ID) ∧
    (∃ s : State, s.pairRec = some ⟨7, 0, [0]⟩ ∧ s.rf 0 Reg.PAI_STATUS_STATE = 1 ∧ 9 = s.rf64 0 Reg.HDR_ACTIVE_ID_LO_ID ∧
      1 ≠ s.rf 0 Reg.PAI_CFG_SIDE) ∧
    (∃ s : State, s.pairRec = some ⟨7, 0, [0]⟩ ∧ s.rf 0 Reg.PAI_STATUS_STATE = 5 ∧ 9 = s.rf64 0 Reg.HDR_ACTIVE_ID_LO_ID ∧
      0 ≠ s.rf 0 Reg.PAI_CFG_SIDE) ∧
    (∃ s : State, s.rf 0 Reg.PAI_STATUS_STATE = 1 ∧ s.pair.joinSince = some 5 ∧ s.tmt.ns < 5 + 1000000 * s.rf 0 Reg.PAI_JOIN_MS) ∧
    (∃ s : State, s.rf 0 Reg.PAI_STATUS_STATE = 1 ∧ s.pair.joinSince = some 5 ∧ 5 + 1000000 * s.rf 0 Reg.PAI_JOIN_MS ≤ s.tmt.ns ∧ s.holdHigh = true) ∧
    (∃ s : State, s.rf 0 Reg.PAI_STATUS_STATE = 1 ∧ s.pair.joinSince = some 5 ∧ 5 + 1000000 * s.rf 0 Reg.PAI_JOIN_MS ≤ s.tmt.ns ∧
      s.holdHigh = false) ∧
    (∃ s : State, s.rf 0 Reg.PAI_STATUS_STATE = 2 ∧ s.holdHigh = true ∧ s.rf 0 Reg.PAI_CFG_SIDE = 1) ∧
    (∃ s : State, s.rf 0 Reg.PAI_STATUS_STATE = 4 ∧ s.holdHigh = true ∧ s.rf 0 Reg.PAI_CFG_SIDE = 0) ∧
    (∃ s : State, s.rf 0 Reg.PAI_STATUS_STATE = 0) ∧
    (∃ s : State, s.rf 0 Reg.PAI_STATUS_STATE = 3 ∧ s.pair.aligned = false) ∧
    (∃ s : State, s.rf 0 Reg.PAI_STATUS_STATE = 5) ∧
    (∃ s : State, s.rf 0 Reg.PAI_STATUS_STATE = 0 ∨ s.running = false) ∧
    (∃ s : State, s.rf 0 Reg.PAI_STATUS_STATE ≠ 0 ∧ s.running = true) ∧
    (∃ s : State, s.rf 0 Reg.PAI_STATUS_STATE = 3 ∧ s.running = true ∧ s.rf 0 Reg.PAI_STATUS_MISSED < 2) ∧
    (∃ s : State, s.rf 0 Reg.PAI_STATUS_STATE = 2 ∧ s.running = true ∧ s.rf 0 Reg.PAI_STATUS_MISSED = 2) ∧
    (∃ s : State, s.rf 0 Reg.PAI_STATUS_STATE = 3 ∧ s.running = true ∧ s.rf 0 Reg.PAI_STATUS_MISSED = 2 ∧ s.holdHigh = true) ∧
    (∃ s : State, s.rf 0 Reg.PAI_STATUS_STATE = 3 ∧ s.running = true ∧ s.rf 0 Reg.PAI_STATUS_MISSED = 2 ∧ s.holdHigh = false) ∧
    (∃ s : State, s.rf 0 Reg.PAI_STATUS_STATE = 3 ∧ s.rf 0 Reg.PAI_PINS_HOLD_EN = 1) ∧
    (∃ s : State, s.rf 0 Reg.PAI_STATUS_STATE ≠ 3 ∨ s.rf 0 Reg.PAI_PINS_HOLD_EN = 0) ∧
    (∃ s : State, Reaches s .PAI 0 ∧ s.rf 0 Reg.PAI_STATUS_STATE = 2 ∧ s.pair.sending = none ∧ s.pair.snapWait = none ∧ s.yoke.commits = [] ∧
      s.pair.handover = none) ∧
    (∃ s : State, Reaches s .PAI 0 ∧ s.rf 0 Reg.PAI_STATUS_STATE ≠ 2 ∧ s.rf 0 Reg.PAI_STATUS_STATE ≠ 4) ∧
    (∃ s : State, Reaches s .PAI 0 ∧ s.rf 0 Reg.PAI_STATUS_STATE = 3) ∧
    (∃ s : State, Reaches s .PAI 0 ∧ s.rf 0 Reg.PAI_STATUS_STATE ≠ 3) ∧
    (∃ s : State, Reaches s .PAI 0 ∧ s.rf 0 Reg.PAI_STATUS_STATE = 5) ∧
    (∃ s : State, Reaches s .PAI 0 ∧ s.rf 0 Reg.PAI_STATUS_STATE ≠ 5) ∧
    (∃ s : State, s.rf 0 Reg.PAI_STATUS_STATE = 3 ∨ s.rf 0 Reg.PAI_STATUS_STATE = 5) ∧
    (∃ s : State, s.rf 0 Reg.PAI_STATUS_STATE ≠ 3 ∧ s.rf 0 Reg.PAI_STATUS_STATE ≠ 5) ∧
    (∃ s : State, s.rf 0 Reg.PAI_STATUS_STATE ≠ 3) ∧
    (∃ s : State, s.rf 0 Reg.PAI_STATUS_STATE = 3 ∧ s.running = true) :=
  ⟨⟨paired live 1 0 1, by decide +kernel⟩,
   ⟨paired live 5 0 0, by decide +kernel⟩,
   ⟨put (paired live 4 0 0) [(0, Reg.HDR_ACTIVE_ID_LO_ID, 9), (0, Reg.HDR_ACTIVE_ID_HI_ID, 0)], by decide +kernel⟩,
   ⟨put (waits (paired live 5 0 0)) [(0, Reg.HDR_ACTIVE_ID_LO_ID, 9), (0, Reg.HDR_ACTIVE_ID_HI_ID, 0)], by decide +kernel⟩,
   ⟨put (paired live 1 0 0) [(0, Reg.HDR_ACTIVE_ID_LO_ID, 9), (0, Reg.HDR_ACTIVE_ID_HI_ID, 0)], by decide +kernel⟩,
   ⟨put (paired live 5 1 0) [(0, Reg.HDR_ACTIVE_ID_LO_ID, 9), (0, Reg.HDR_ACTIVE_ID_HI_ID, 0)], by decide +kernel⟩,
   ⟨put (paired live 1 0 1) [(0, Reg.PAI_JOIN_MS, 4)], by decide +kernel⟩,
   ⟨{ paired live 1 0 1 with tmt := { live.tmt with ns := 10 ^ 30 } }, by decide +kernel⟩,
   ⟨{ waits (paired live 1 0 0) with tmt := { live.tmt with ns := 10 ^ 30 } }, by decide +kernel⟩,
   ⟨waits (paired live 2 1 1), by decide +kernel⟩,
   ⟨paired live 4 0 1, by decide +kernel⟩,
   ⟨paired live 0 0 0, by decide +kernel⟩,
   ⟨paired live 3 0 0, by decide +kernel⟩,
   ⟨paired live 5 0 0, by decide +kernel⟩,
   ⟨paired live 0 0 0, by decide +kernel⟩,
   ⟨{ put (paired live 2 0 0) [(0, Reg.LAN_STATUS_TX_STATE, 4), (0, Reg.LAN_STATUS_RX_STATE, 4)] with hdr := { live.hdr with active := some { image with pair := some ⟨7, 0, [0]⟩ } } },
     by decide +kernel⟩,
   ⟨put (paired live 3 0 0) [(0, Reg.PAI_STATUS_MISSED, 1), (0, Reg.PAI_CNT_COUNT.sh 12, 4294967295)], by decide +kernel⟩,
   ⟨put (waits (paired live 2 0 0)) [(0, Reg.PAI_STATUS_MISSED, 2)], by decide +kernel⟩,
   ⟨put (waits (paired live 3 0 1)) [(0, Reg.PAI_STATUS_MISSED, 2)], by decide +kernel⟩,
   ⟨put (waits (paired live 3 0 0)) [(0, Reg.PAI_STATUS_MISSED, 2)], by decide +kernel⟩,
   ⟨waits (paired live 3 0 1), by decide +kernel⟩,
   ⟨paired live 2 0 1, by decide +kernel⟩,
   ⟨paired live 2 0 0, by unfold Reaches; decide +kernel⟩,
   ⟨paired live 3 0 0, by unfold Reaches; decide +kernel⟩,
   ⟨paired live 3 0 0, by unfold Reaches; decide +kernel⟩,
   ⟨paired live 4 0 0, by unfold Reaches; decide +kernel⟩,
   ⟨paired live 5 0 0, by unfold Reaches; decide +kernel⟩,
   ⟨paired live 2 0 0, by unfold Reaches; decide +kernel⟩,
   ⟨paired live 5 0 0, by decide +kernel⟩,
   ⟨paired live 2 0 0, by decide +kernel⟩,
   ⟨paired live 2 0 0, by decide +kernel⟩,
   ⟨paired live 3 0 0, by decide +kernel⟩⟩

theorem test_the_standby_follows_its_primary_met :
    (∃ s : State, s.rf 0 Reg.PAI_STATUS_STATE ≠ 3) ∧
    (∃ s : State, s.rf 0 Reg.PAI_STATUS_STATE ≠ 3) ∧
    (∃ s : State, s.rf 0 Reg.PAI_STATUS_STATE ≠ 3) ∧
    (∃ s : State, s.rf 0 Reg.PAI_STATUS_STATE ≠ 3) ∧
    (∃ s : State, s.rf 0 Reg.PAI_STATUS_STATE ≠ 3) ∧
    (∃ s : State, s.rf 0 Reg.PAI_STATUS_STATE = 3) ∧
    (∃ s : State, s.rf 0 Reg.PAI_STATUS_STATE = 3 ∧ s.hasEng .ING 1 = true) ∧
    (∃ s : State, s.rf 0 Reg.PAI_STATUS_STATE = 3) ∧
    (∃ s : State, s.rf 0 Reg.PAI_STATUS_STATE = 3) ∧
    (∃ s : State, s.rf 0 Reg.PAI_STATUS_STATE = 3 ∧ (-7 : Int).natAbs ≤ s.rf 0 Reg.TMT_JUMP_LIMIT_NS) ∧
    (∃ s : State, s.rf 0 Reg.PAI_STATUS_STATE = 3 ∧ (0 : Int).natAbs ≤ s.rf 0 Reg.TMT_JUMP_LIMIT_NS) ∧
    (∃ s : State, s.rf 0 Reg.PAI_STATUS_STATE = 3 ∧ s.hasEng .TRU 0 = true) ∧
    (∃ s : State, s.rf 0 Reg.PAI_STATUS_STATE = 3 ∧ s.pair.own = [⟨1, 2048, 55, 3⟩] ∧ s.pair.theirs = []) ∧
    (∃ s : State, s.rf 0 Reg.PAI_STATUS_STATE = 3 ∧ s.pair.own = [⟨1, 2048, 55, 3⟩] ∧ s.pair.theirs = []) ∧
    (∃ s : State, s.rf 0 Reg.PAI_STATUS_STATE = 3 ∧ s.pair.own = [⟨1, 2048, 55, 3⟩] ∧ s.pair.theirs = [] ∧ 3 + 10000000 ≤ s.tmt.ns ∧
      s.pair.resync = none ∧ s.pair.waiting = []) ∧
    (∃ s : State, s.rf 0 Reg.PAI_STATUS_STATE = 3 ∧ s.pair.resync = some ⟨1, 5, none, 0, none⟩) ∧
    (∃ s : State, s.rf 0 Reg.PAI_STATUS_STATE = 3 ∧ s.pair.resync = some ⟨1, 5, some 40, 40, none⟩ ∧ 40 < (lineOf 41 41 4100).grid ∧
      s.ownWaits 1 (lineOf 41 41 4100).grid = true) ∧
    (∃ s : State, s.rf 0 Reg.PAI_STATUS_STATE = 3 ∧ s.pair.resync = some ⟨1, 5, some 40, 40, some (lineOf 41 41 4100)⟩) ∧
    (∃ s : State, s.rf 0 Reg.PAI_STATUS_STATE = 2) ∧
    (∃ s : State, s.rf 0 Reg.PAI_STATUS_STATE = 2 ∧ s.live 1 = true) ∧
    (∃ s : State, s.rf 0 Reg.PAI_STATUS_STATE = 2) ∧
    (∃ s : State, s.pair.resync = some ⟨1, 5, none, 0, none⟩ ∧ s.tmt.ns < 5 + 100000000) ∧
    (∃ s : State, s.pair.resync = some ⟨1, 5, none, 0, none⟩ ∧ 5 + 100000000 ≤ s.tmt.ns ∧ s.pair.waiting = []) ∧
    (∃ s : State, s.yokeFollows = false) ∧
    (∃ s : State, s.yokeFollows = false) ∧
    (∃ s : State, s.rf 0 Reg.PAI_STATUS_STATE = 3 ∧ s.yokeFollows = true ∧ (∀ x ∈ s.yoke.commits, x.carriage ≠ none) ∧
      s.yokeBreaks (askedOf none false [(regKey .REI 0 0x108, 0x00770003)]) = none) ∧
    (∃ s : State, s.rf 0 Reg.PAI_STATUS_STATE = 0 ∧ s.yokeFollows = true ∧ (∀ x ∈ s.yoke.commits, x.carriage ≠ none) ∧
      s.yokeBreaks (askedOf none false [(regKey .REI 0 0x108, 0x00770003)]) = none) ∧
    (∃ s : State, s.rf 0 Reg.PAI_STATUS_STATE = 3 ∧ s.yokeFollows = true ∧ (∀ x ∈ s.yoke.commits, x.carriage ≠ some 0) ∧
      (s.yokeBreaks (askedOf (some 0) true badValues)).isSome = true) ∧
    (∃ s : State, s.yokeFollows = true) ∧
    (∃ s : State, s.yoke.commits.find? (fun c => c.seq == 4 && !c.pending && c.asked) = some (askedBy 0 2) ∧ (askedBy 0 2).master ≠ mWwt) ∧
    (∃ s : State, s.yoke.commits.find? (fun c => c.seq == 4 && !c.pending && c.asked) = some (askedBy mHost 2) ∧ (askedBy mHost 2).master ≠ mWwt) ∧
    (∃ s : State, s.yoke.commits.find? (fun c => c.seq == 4 && !c.pending && c.asked) = some (askedBy mHost 2) ∧ 1 < (askedBy mHost 2).awaited) :=
  ⟨⟨paired live 2 0 0, by decide +kernel⟩,
   ⟨paired live 2 0 0, by decide +kernel⟩,
   ⟨paired live 2 0 0, by decide +kernel⟩,
   ⟨paired live 2 0 0, by decide +kernel⟩,
   ⟨paired live 2 0 0, by decide +kernel⟩,
   ⟨put (paired live 3 0 0) [(0, Reg.ING_TRIG_ENABLE, 1), (0, Reg.ING_TRIG_SRC, 1), (0, Reg.ING_TRIG_PORT, 2), (0, Reg.ING_CFG_REPLAY, 0)],
     by decide +kernel⟩,
   ⟨paired live 3 0 0, by decide +kernel⟩,
   ⟨waits (paired live 3 0 0), by decide +kernel⟩,
   ⟨paired live 3 0 0, by decide +kernel⟩,
   ⟨put (paired live 3 0 0) [(0, Reg.TMT_JUMP_LIMIT_NS, 70)], by decide +kernel⟩,
   ⟨put (paired live 3 0 0) [(0, Reg.TMT_JUMP_LIMIT_NS, 0)], by decide +kernel⟩,
   ⟨paired live 3 0 0, by decide +kernel⟩,
   ⟨digests (paired live 3 0 0) 3, by decide +kernel⟩,
   ⟨digests (paired live 3 0 0) 3, by decide +kernel⟩,
   ⟨{ digests (paired live 3 0 0) 3 with tmt := { live.tmt with ns := 10000003 } }, by decide +kernel⟩,
   ⟨resyncing (paired live 3 0 0) ⟨1, 5, none, 0, none⟩, by decide +kernel⟩,
   ⟨resyncing (waiting (paired live 3 0 0) 17 (.line (lineOf 41 41 4100))) ⟨1, 5, some 40, 40, none⟩, by decide +kernel⟩,
   ⟨resyncing (waiting (paired live 3 0 0) 17 (.line (lineOf 40 40 4000))) ⟨1, 5, some 40, 40, some (lineOf 41 41 4100)⟩, by decide +kernel⟩,
   ⟨waits (paired live 2 0 0), by decide +kernel⟩,
   ⟨paired live 2 0 0, by decide +kernel⟩,
   ⟨waits (paired live 2 0 0), by decide +kernel⟩,
   ⟨resyncing (paired live 3 0 0) ⟨1, 5, none, 0, none⟩, by decide +kernel⟩,
   ⟨{ resyncing (paired live 3 0 0) ⟨1, 5, none, 0, none⟩ with tmt := { live.tmt with ns := 100000005 } }, by decide +kernel⟩,
   ⟨unyoked (paired live 2 0 0), by decide +kernel⟩,
   ⟨unyoked (paired live 2 0 0), by decide +kernel⟩,
   ⟨unyoked (paired live 3 0 0), by decide +kernel⟩,
   ⟨put (unyoked (paired live 0 0 0)) [(0, Reg.RNG_STATUS_LIVE, 1), (0, Reg.RNG_STATUS_LEADER, 0), (0, Reg.RNG_CFG_POSITION, 1)], by decide +kernel⟩,
   ⟨{ paired live 3 0 0 with yoke := { live.yoke with commits := [] } }, by decide +kernel⟩,
   ⟨{ paired live 3 0 0 with yoke := { live.yoke with armed := [⟨0, 4, false, 0, false, none, none, []⟩], commits := [askedOf (some 0) false []] } },
     by decide +kernel⟩,
   ⟨{ paired live 2 0 0 with yoke := { live.yoke with commits := [askedBy 0 2] } }, by decide +kernel⟩,
   ⟨{ paired live 2 0 0 with yoke := { live.yoke with commits := [askedBy mHost 2] } }, by decide +kernel⟩,
   ⟨{ paired live 2 0 0 with yoke := { live.yoke with commits := [askedBy mHost 2] } }, by decide +kernel⟩⟩

theorem test_ring_members_join_their_seams_met :
    (∃ s : State, s.rf 0 Reg.RNG_STATUS_LIVE = 0) ∧
    (∃ s : State, s.rf 0 Reg.RNG_STATUS_LIVE = 0) ∧
    (∃ s : State, s.rf 0 Reg.RNG_STATUS_LIVE = 1 ∧ s.laneTxUp (s.rf 0 Reg.RNG_CFG_WEST) = true ∧ s.laneTxUp (s.rf 0 Reg.RNG_CFG_EAST) = true) ∧
    (∃ s : State, s.rf 0 Reg.RNG_STATUS_LIVE = 1 ∧ s.rf 0 Reg.RNG_CFG_POSITION = 1 ∧ s.rf 0 Reg.RNG_CFG_SIZE = 3 ∧ s.ring.lostWest = true ∧
      s.ringMatches true (helloAt s 0 true) = true) ∧
    (∃ s : State, s.rf 0 Reg.RNG_STATUS_LIVE = 1 ∧ s.rf 0 Reg.RNG_CFG_POSITION = 1 ∧ s.rf 0 Reg.RNG_CFG_SIZE = 3 ∧ s.ring.lostWest = true ∧
      s.ringMatches true (helloAt s 0 false) = false) ∧
    (∃ s : State, s.rf 0 Reg.RNG_STATUS_LIVE = 1 ∧ s.rf 0 Reg.RNG_CFG_POSITION = 1 ∧ s.rf 0 Reg.RNG_CFG_SIZE = 3 ∧
      s.ringMatches false (helloAt s 2 false) = true) ∧
    (∃ s : State, s.rf 0 Reg.RNG_STATUS_LIVE = 1 ∧ s.rf 0 Reg.RNG_CFG_POSITION = 2 ∧ s.rf 0 Reg.RNG_CFG_SIZE = 3) ∧
    (∃ s : State, s.rf 0 Reg.RNG_STATUS_LIVE = 1 ∧ s.rf 0 Reg.RNG_CFG_POSITION = 1 ∧ s.rf 0 Reg.RNG_CFG_SIZE = 3 ∧ s.ringHas true = true) ∧
    (∃ s : State, s.inRing = false ∨ s.ringHas true = false) ∧
    (∃ s : State, s.inRing = true ∧ s.ringHas true = true) ∧
    (∃ s : State, s.inRing = true ∧ s.ringHas false = true) ∧
    (∃ s : State, s.rf 0 Reg.RNG_STATUS_HIGH_JOINED = 0) ∧
    (∃ s : State, s.rf 0 Reg.RNG_STATUS_HIGH_JOINED = 1) :=
  ⟨⟨put (ringed live 1) [(0, Reg.RNG_STATUS_LIVE, 0)], by decide +kernel⟩,
   ⟨put (ringed live 1) [(0, Reg.RNG_STATUS_LIVE, 0)], by decide +kernel⟩,
   ⟨put (ringed live 1) [(5, Reg.LAN_STATUS_TX_STATE, 4)], by decide +kernel⟩,
   ⟨{ ringed live 1 with ring := { Ring.fresh with lostWest := true } }, by decide +kernel⟩,
   ⟨{ ringed live 1 with ring := { Ring.fresh with lostWest := true } }, by decide +kernel⟩,
   ⟨ringed live 1, by decide +kernel⟩,
   ⟨ringed live 2, by decide +kernel⟩,
   ⟨{ ringed live 1 with ring := { Ring.fresh with west := some ⟨0, 3, 1, 1, 0, 10, 0, 0, 0, 0, 0⟩ } }, by decide +kernel⟩,
   ⟨ringed live 1, by decide +kernel⟩,
   ⟨{ ringed live 1 with ring := { Ring.fresh with west := some ⟨0, 3, 1, 1, 0, 10, 0, 0, 0, 0, 0⟩, kept := [(8, crossSet), (0, crossSet), (5, crossSet)] } },
     by decide +kernel⟩,
   ⟨{ ringed live 1 with ring := { Ring.fresh with east := some ⟨2, 3, 1, 1, 0, 10, 0, 0, 0, 0, 0⟩ }, dbm := { live.dbm with streams := [(255, { Stream.fresh with sets := [{ crossSet with members := [(0, 7), (48, 9)] }] })] } },
     by decide +kernel⟩,
   ⟨put (ringed live 1) [(0, Reg.RNG_STATUS_HIGH_JOINED, 0)], by decide +kernel⟩,
   ⟨put (ringed live 1) [(0, Reg.RNG_STATUS_HIGH_JOINED, 1)], by decide +kernel⟩⟩

/-! ### Single commands -/

theorem test_slp_busy : (fun (s : State) => (fun (t : State) => t.rf 0 Reg.PWR_STATE_STATE = 3 ∧ t.rf 0 Reg.GLB_ERR_CODE = codeWord 'G' 0x0030 ∧
  t.rf 0 Reg.PWR_EVENT_REFUSED = 1) (after (.sleepRequest mOut 0x80000001) s)) (put (asleep live 3) [(0, Reg.PWR_STATE_COACH_UP, 255), (0,
  Reg.GLB_GUARD_OUTRIDER, 1)]) := by
  decide +kernel

theorem test_slp_drain : (fun (s : State) => (fun (t : State) => t.pwr.step = .drayage) (after (.sleepDrainDone) s))
  ({ awakeRun live with pwr := { live.pwr with step := .draining } }) := by
  decide +kernel

theorem test_up1 : (fun (s : State) => (fun (t : State) => t.rf 0 Reg.GLB_BOOT_STAGE_STAGE = 2) (after (.startupStageComplete true 3 2 [4]) s))
  (atStage live 1) := by
  decide +kernel

theorem test_porn : (fun (s : State) => (fun (t : State) => t.pwr.io33 = decide (2500 < 3300) ∧ t.rf 0 Reg.GLB_BOOT_STAGE_STAGE = 1 ∧
  t.pwr.off = false ∧ t.pwr.rstHeld = true ∧ t.keys = s.keys ∧ t.store = s.store ∧ t.mem = [] ∧ t.dir = [] ∧
  t.hdr.active = none) (after (.powerOnReset true 3300) s)) ({ live with mem := [(3, 4)] }) := by
  decide +kernel

theorem test_temp_warn : (fun (s : State) => (fun (t : State) => t.pwr.temps = heat [600, 65535, 500] s ∧
  t.rf 0 Reg.PWR_TEMP_MAX = unsgn 16 (heated [600, 65535, 500] s).hottest.1 ∧ (sgn 16 (s.rf 0 Reg.PWR_TEMP_WARN) ≤ (heated [600, 65535,
  500] s).hottest.1 → sgn 16 (s.rf 0 Reg.PWR_TEMP_MAX) < sgn 16 (s.rf 0 Reg.PWR_TEMP_WARN) → t.rf 0 Reg.PWR_EVENT_HOT = 1 ∧
  t.rf 0 Reg.GLB_ERR_CODE = codeWord 'G' 0x0040)) (after (.tempSensorUpdate 1 [600, 65535,
  500]) s)) ({ put (awakeRun live) [(0, Reg.PWR_TEMP_MAX, 100), (0, Reg.PWR_TEMP_WARN, 500), (unitOf 1 0, Reg.WWT_TSEN_BAD, 0), (unitOf 1 0, Reg.WWT_THRESH_LANE, 1)] with wwt := [(1, { wwtFresh with baseline := some 3 })] })
  := by
  decide +kernel

theorem test_timer_not : (fun (s : State) => (fun (t : State) => t = s) (after (.wwtTimer 0 1 0) s))
  ({ live with wwt := [(1, { wwtFresh with lastRun := 10 ^ 30 })] }) := by
  decide +kernel

theorem test_hdr_early : (fun (s : State) => (fun (t : State) => t.rf 0 Reg.HDR_ERR_CODE = codeWord 'H' 5 ∧ t.rf 0 Reg.HDR_STATUS_FAIL = 1 ∧
  t.phase = s.phase ∧ t.hdr = s.hdr) (after (.harnessLoad mHost (srcWord 3 1)) s)) (put (phased live 0) [(0, Reg.GLB_BOOT_STAGE_STAGE, 8)]) := by
  decide +kernel

theorem test_hdr_abort : (fun (s : State) => (fun (t : State) => t.phase = 0 ∧ t.hdr = { s.hdr with load := none } ∧
  t.rf 0 Reg.HDR_ERR_CODE = codeWord 'H' 8 ∧ t.rf 0 Reg.HDR_STATUS_FAIL = 1) (after (.harnessAbort mHost 0) s)) (phased live 3) := by
  decide +kernel

theorem test_hdr_source : (fun (s : State) => (fun (t : State) => t.phase = 0 ∧ t.hdr = { s.hdr with load := none } ∧ t.rf 0 Reg.HDR_STATUS_FAIL = 1 ∧
  t.rf 0 Reg.HDR_ERR_CODE = codeWord 'H' 1) (after (.harnessSourceComplete) s)) (loading live 1 ⟨.request, 3, false, false, [], none⟩) := by
  decide +kernel

theorem test_pat_due : (fun (s : State) => (fun (t : State) => t.rf (s.eng .ING patchImage.hdr.patchCarriage) Reg.ING_STATUS_RUNNING = 0 ∧
  (match t.hdr.patch with | some q => decide (t.hdr =
  { s.hdr with patch := some { patchOf 2 7 .pending with step := .draining, upTo := q.upTo, top := q.top, past := 0 } } ∧
  s.patchMd (patchOf 2 7 .pending) ≤ (q.upTo : Int) * s.gridMd ∧
  (0 < q.upTo → ((q.upTo : Int) - 1) * s.gridMd < s.patchMd (patchOf 2 7 .pending))) | none => false) = true) (after (.patchApplyInstant) s))
  ({ patching live 2 7 .pending with tmt := { live.tmt with ns := 7 } }) := by
  decide +kernel

theorem test_lan_pll : (fun (s : State) => (fun (t : State) => t.rf (laneInst 0) Reg.LAN_STATUS_PLL_LOCK = 1 ∧
  t.rf (laneInst 0) Reg.LAN_STATUS_TRAIN_STEP = 2 ∧ t.rf (laneInst 0) Reg.LAN_STATUS_TX_STATE = 4) (after (.lanePllLocked 0) s)) (laned live 3 3 3 1
  Lane.fresh) := by
  decide +kernel

theorem test_lan_cdr : (fun (s : State) => (fun (t : State) => t.rf (laneInst 0) Reg.LAN_STATUS_SIGNAL = 1 ∧
  t.rf (laneInst 0) Reg.LAN_STATUS_TRAIN_STEP = 3 ∧ (t.conn (s.rf (laneInst 0) Reg.LAN_CFG_CONNECTION)).disc = 1) (after (.laneCdrLocked 0) s))
  ({ laned live 1 3 3 2 Lane.fresh with conns := [] }) := by
  decide +kernel

theorem test_lan_loss : (fun (s : State) => (fun (t : State) => t.rf (laneInst 0) Reg.LAN_STATUS_RX_STATE = 3 ∧
  t.rf (laneInst 0) Reg.LAN_STATUS_SIGNAL = 0 ∧ t.rf (laneInst 0) Reg.LAN_ERR_CODE = codeWord 'L' 0x0010 ∧ t.rf (laneInst 0) Reg.LAN_EVENT_DOWN = 1 ∧
  t.rf (laneInst 0) Reg.LAN_FRAMING_RETRAINS = Nat.min 255 (s.rf (laneInst 0) Reg.LAN_FRAMING_RETRAINS + 1) ∧
  (t.lane 0).since = some s.now) (after (.laneSignalLoss 0) s)) (laned live 3 4 4 5 Lane.fresh) := by
  decide +kernel

theorem test_lan_block : (fun (s : State) => (fun (t : State) => t.rf (laneInst 0) Reg.LAN_STATUS_RX_STATE = 3 ∧
  t.rf (laneInst 0) Reg.LAN_ERR_CODE = codeWord 'L' 0x0040) (after (.ethBlockLockLoss 0) s)) (laned live 3 4 4 5 Lane.fresh) := by
  decide +kernel

theorem test_lan_set : (fun (s : State) => (fun (t : State) => t.rf (laneInst 0) Reg.LAN_EQ_NEXT = Reg.LAN_EQ_SET.of 0x90000 ∧
  t.rf (laneInst 0) Reg.LAN_EQ_PENDING = 1 ∧ t.rf (laneInst 0) Reg.LAN_EQ_CODE = s.rf (laneInst 0) Reg.LAN_EQ_CODE) (after (.laneEqSetGo mHost 0x90000
  0) s)) (laned live 2 4 4 5 Lane.fresh) := by
  decide +kernel

theorem test_lan_switch : (fun (s : State) => (fun (t : State) => t.rf (laneInst 0) Reg.LAN_EQ_CODE = s.rf (laneInst 0) Reg.LAN_EQ_NEXT % 16 ∧
  t.rf (laneInst 0) Reg.LAN_EQ_PENDING = 0 ∧ t.rf (laneInst 0) Reg.LAN_EVENT_EQ_SWITCH = 1) (after (.laneEqSwitch 0) s)) (put (laned live 2 4 4 5
  Lane.fresh) [(0, Reg.LAN_EQ_PENDING, 1), (0, Reg.LAN_EQ_NEXT, 9)]) := by
  decide +kernel

theorem test_cxp_disagrees : (fun (s : State) => (fun (t : State) => (t.conn 0).disc = 3 ∧ ∀ l ∈ s.lanesOfConn 0, (t.lane l).stuck = true ∧
  t.rf (laneInst l) Reg.LAN_ERR_CODE = codeWord 'L' 0x0003 ∧
  t.rf (laneInst l) Reg.LAN_EVENT_ERR = 1) (after (.cxpDiscovery 0 2 1 0 [30]) s)) ((put live [(L0, Reg.LAN_CFG_USE, 1), (L0, Reg.LAN_CFG_CONNECTION,
  0), (L0, Reg.LAN_CFG_RATE, 3)]).connMod 0 (fun c => { c with disc := 1 })) := by
  decide +kernel

theorem test_cxp_timeout : (fun (s : State) => (fun (t : State) => (t.conn 0).disc = 3 ∧ ∀ l ∈ s.lanesOfConn 0, (t.lane l).stuck = true ∧
  t.rf (laneInst l) Reg.LAN_ERR_CODE = codeWord 'L' 0x0002 ∧
  t.rf (laneInst l) Reg.LAN_EVENT_ERR = 1) (after (.cxpDiscoveryTimeout 0) s))
  ({ (put live [(L0, Reg.LAN_CFG_USE, 1), (L0, Reg.LAN_CFG_CONNECTION, 0)]).connMod 0 (fun c => { c with disc := 1 }) with tmt := { live.tmt with ns := 10^15 } })
  := by
  decide +kernel

theorem test_vox_good : (fun (s : State) => (fun (t : State) => (t.lane 0).scramble = mk / 2 ^ 32 % 2 ^ 23 ∧ (t.lane 0).good = (s.lane 0).good + 1 ∧
  (t.lane 0).bad = 0 ∧ (t.lane 0).hunting = false ∧ t.regs = s.regs) (after (.voxhusMarkerReceive 0 (markBits mk)) s)) (voxed live 1 4 4
  { Lane.fresh with hunting := true, bad := 1 }) := by
  decide +kernel

theorem test_trig_expire : (fun (s : State) => (fun (t : State) => (∀ x ∈ (t.ingOf 0).trigs,
  x.sent = true → x.state = .waiting → ((s.now : Int) < x.instant + s.rf (s.eng .ING 0) Reg.ING_LATE_WINDOW_NS ∨ x.n ∈ s.awaited 0)) ∧
  t.rf (s.eng .ING 0) Reg.ING_EVENT_MISSING = 1) (after (.triggerWindowExpire 0) s))
  ({ (put live [(0, Reg.ING_LATE_WINDOW_NS, 1000)]).ingMod 0 (fun i => { i with next := 3, trigs := [trg 0 10, trg 1 9000, trg 2 20] }) with tmt := { live.tmt with ns := 9500 } })
  := by
  decide +kernel

theorem test_line_accepted : (fun (s : State) => (fun (t : State) => (t.ingOf 0).rx = [] ∧ ((t.ingOf 0).cur.map (fun o => (o.trig,
  o.packets))) = some (s.matchLine 0 pkt.lineLow, [pkt])) (after (.ingLineDecide 0) s))
  ({ (put live [(0, Reg.ING_LATE_WINDOW_NS, 1000), (0, Reg.ING_CFG_PROTOCOL, 1), (0, Reg.ING_STATUS_FORMAT_BAD, 0), (0, Reg.ING_CFG_PLANES, 1), (0, Reg.ING_STREAM_WIDTH, 64)]).ingMod 0 (fun i => { i with next := 3, trigs := [trg 0 9000, trg 1 9100, trg 2 9200], rx := [pkt] }) with tmt := { live.tmt with ns := 9500 } })
  := by
  decide +kernel

theorem test_line_end : (fun (s : State) => (fun (t : State) => (t.ingOf 0).cur = none ∧ t.rf (s.eng .ING 0) Reg.ING_STATUS_LINE_OPEN = 0 ∧
  (t.ingOf 0).tagged = some (500, 9100) ∧ t.rf (s.eng .ING 0) Reg.ING_LINE_INDEX_LO_INDEX = 1) (after (.ingLineEnd 0) s)) ((put live [(0,
  Reg.ING_STREAM_WIDTH, 64), (0, Reg.ING_CFG_PLANES, 1)]).ingMod 0 (fun i =>
  { i with next := 3, trigs := [trg 0 9000, { trg 1 9100 with state := .open_ }, trg 2 9200], cur := some ⟨some 1, 1, [pktE]⟩ })) := by
  decide +kernel

theorem test_cam_refused : (fun (s : State) => (fun (t : State) => t.rf (s.eng .ING 0) Reg.ING_CAMSET_STATUS_REFUSED = 1 ∧
  t.egress = s.egress) (after (.camsetLaunch 1 1 0) s)) (put live [(0, Reg.ING_CAMSET_STATUS_BUSY, 1), (0, Reg.PAI_STATUS_STATE, 0)]) := by
  decide +kernel

theorem test_cam_ack : (fun (s : State) => (fun (t : State) => t.rf (s.eng .ING 0) Reg.ING_CAMSET_STATUS_DONE = 1 ∧
  t.rf (s.eng .ING 0) Reg.ING_CAMSET_STATUS_BUSY = 0 ∧ t.rf (s.eng .ING 0) Reg.ING_EVENT_CAMSET_DONE = 1 ∧
  (t.ingOf 0).epochs = (s.ingOf 0).epochs ++ [(none, false, s.now)]) (after (.camsetAck 0 0) s)) ((put live [(0, Reg.PAI_STATUS_STATE,
  0)]).ingMod 0 (fun i => { i with wire := 1, camLeft := [(1,2)] })) := by
  decide +kernel

theorem test_evt_take : (fun (s : State) => (fun (t : State) => (t.ingOf 0).events = (s.ingOf 0).events ++ [evb.take 64] ∧ ∀ k,
  k < 16 → t.rf (s.eng .ING 0) (Reg.ING_EVT_DATA_DATA.sh (4 * k)) = leAt ((t.ingOf 0).events.headD []) (4 * k) 4) (after (.cxpEventPacket 0 evb) s))
  ((put live [(0, Reg.ING_CFG_PROTOCOL, 0)]).ingMod 0 (fun i => { i with events := List.replicate 15 [7] })) := by
  decide +kernel

theorem test_evt_full : (fun (s : State) => (fun (t : State) => (t.ingOf 0).events = (s.ingOf 0).events ∧
  t.rf (s.eng .ING 0) Reg.ING_EVT_STATUS_OVERFLOW = 1) (after (.cameraEventReceive 0 evb) s)) ((put live [(0, Reg.ING_CFG_PROTOCOL,
  1)]).ingMod 0 (fun i => { i with events := List.replicate 16 [7] })) := by
  decide +kernel

theorem test_sta_line : (fun (s : State) => (fun (t : State) => ((t.staOf 0).block.map (fun c => (c.first, c.spanned, c.counted))) = some (0, 4,
  3)) (after (.staLine 0) s))
  ({ ((put live [(0, Reg.STA_CFG_TAP, 0), (0, Reg.STA_CTL_ENABLE, 1), (0, Reg.STA_BLOCK_BLOCK_LINES, 256), (0, Reg.STA_CFG_SAMPLE_BITS, 8)]).staMod 0 (fun x => { x with block := some blk0 })) with mews := [(7, { Mews.fresh with packets := [⟨3, 0, true, false, false, some (.line (lineOf 3 3 100))⟩] })] })
  := by
  decide +kernel

theorem test_sta_close_full : (fun (s : State) => (fun (t : State) => (t.staOf 0).block = none ∧ (t.staOf 0).number = (s.staOf 0).number + 1 ∧
  (t.staOf 0).next = blk0.first + blk0.spanned ∧ t.rf (s.eng .STA 0) Reg.STA_BLOCKS_COUNT = Nat.min 4294967295 (s.rf (s.eng .STA 0)
  Reg.STA_BLOCKS_COUNT + 1) ∧ t.rf (s.eng .STA 0) Reg.STA_DROPPED_COUNT = Nat.min 4294967295 (s.rf (s.eng .STA 0) Reg.STA_DROPPED_COUNT + 1) ∧
  t.rf (s.eng .STA 0) Reg.STA_EVENT_DROPPED = 1) (after (.staBlockClose 0) s)) ((put live [(0, Reg.STA_BLOCK_BLOCK_LINES, 3), (0,
  Reg.STA_RING_SLOTS_SLOTS, 0)]).staMod 0 (fun x => { x with block := some blk0 })) := by
  decide +kernel

theorem test_quad_fwd : (fun (s : State) => (fun (t : State) => t.rf 0 (wp Reg.WAY_COUNT_COUNT 1) = (s.rf 0 (wp Reg.WAY_COUNT_COUNT 1) + 1) % (s.rf 0
  (wp Reg.WAY_CPR_CPR_M1 1) + 1) ∧ t.rf 0 (wp Reg.WAY_STATUS_DIR 1) = 0 ∧ t.rf 0 (wp Reg.WAY_STATUS_LEVELS 1) = maskOf [true, false,
  true]) (after (.quadratureStep 1 true false true 1 1) s)) (put live [(0, wp Reg.WAY_CFG_MODE 1, 1), (0, wp Reg.WAY_STATUS_WIRE_FAULT 1, 0), (0,
  wp Reg.WAY_STATUS_LEVELS 1, 0), (0, wp Reg.WAY_CTL_INVERT 1, 0), (0, wp Reg.WAY_CPR_CPR_M1 1, 99), (0, wp Reg.WAY_COUNT_COUNT 1, 99)]) := by
  decide +kernel

theorem test_de_window : (fun (s : State) => (fun (t : State) => t.rf 0 (wp Reg.WAY_DE_IN_WINDOW 1) = 0 ∧
  t.rf 0 (wp Reg.WAY_STATUS_UNCERTAIN 1) = 1) (after (.doubleEdgeWindow 1) s)) (put live [(0, wp Reg.WAY_DE_LIMIT 1, 4), (0,
  wp Reg.WAY_DE_IN_WINDOW 1, 5)]) := by
  decide +kernel

theorem test_wire_fault : (fun (s : State) => (fun (t : State) => t.rf 0 (wp Reg.WAY_STATUS_WIRE_FAULT 1) = s.rf 0 (wp Reg.WAY_STATUS_WIRE_FAULT 1) +
  2 ^ 2 ∧ t.rf 0 (wp Reg.WAY_STATUS_UNCERTAIN 1) = 1 ∧ t.rf 0 (wp Reg.WAY_EVENT_WIRE_FAULT 1) = 1) (after (.wireDisagreeFault 1 2) s)) (put live [(0,
  wp Reg.WAY_CFG_MODE 1, 1), (0, wp Reg.WAY_CTL_INDEX_EN 1, 1), (0, wp Reg.WAY_STATUS_WIRE_FAULT 1, 3)]) := by
  decide +kernel

theorem test_enc_trig : (fun (s : State) => (fun (t : State) => (0 < s.way.ports.length → (t.port 0).nextPoint = (s.port 0).nextPoint + s.rf 0 (wp
  Reg.WAY_TRIG_PITCH_NM 0) * nmQ) ∧ t.rf64 0 (wp Reg.WAY_TRIG_COUNT_LO_COUNT 0) = (s.rf64 0 (wp Reg.WAY_TRIG_COUNT_LO_COUNT 0) + 1) % 2 ^ 64 ∧
  ∀ g ∈ s.listeners 0, (t.ingOf g).due = (s.ingOf g).due ++ [(s.now : Int)]) (after (.encoderTrigger 0) s)) ((put live [(0, Reg.ING_STATUS_RUNNING,
  1), (0, wp Reg.WAY_CFG_MODE 0, 1), (0, wp Reg.WAY_CFG_TRIGGER 0, 1), (0, Reg.PWR_STATE_STATE, 0), (0, Reg.PAI_STATUS_STATE, 0), (0,
  Reg.HDR_STATUS_PHASE, 0), (0, Reg.ING_TRIG_ENABLE, 1), (0, Reg.ING_CFG_REPLAY, 0), (0, Reg.ING_TRIG_SRC, 1), (0, Reg.ING_TRIG_PORT, 0)])) := by
  decide +kernel

theorem test_fix_trig : (fun (s : State) => (fun (t : State) => t.rf64 0 (wp Reg.WAY_TRIG_COUNT_LO_COUNT 0) = (s.rf64 0 (wp
  Reg.WAY_TRIG_COUNT_LO_COUNT 0) + 1) % 2 ^ 64 ∧ ∀ g ∈ s.listeners 0,
  (t.ingOf g).due = (s.ingOf g).due ++ [(s.now : Int)]) (after (.fixedRateTrigger 0) s)) ((put live [(0, Reg.ING_STATUS_RUNNING, 1), (0,
  wp Reg.WAY_CFG_TRIGGER 0, 2), (0, Reg.PWR_STATE_STATE, 0), (0, Reg.ING_TRIG_ENABLE, 1), (0, Reg.ING_CFG_REPLAY, 0), (0, Reg.ING_TRIG_SRC, 1), (0,
  Reg.ING_TRIG_PORT, 0), (0, Reg.PAI_STATUS_STATE, 0), (0, Reg.HDR_STATUS_PHASE, 0)])) := by
  decide +kernel

theorem test_cmp_push : (fun (s : State) => (fun (t : State) => t.rf 0 (wc Reg.WAY_CMP_STATUS_DEPTH 3) = (s.cmp 3).queue.length + 1 ∧
  ((t.cmp 3).queue.any (fun x => x.pos == s.rf64 0 (wc Reg.WAY_CMP_TARGET_LO_NM 3) && x.tag == getBits (9 : Word) 15 0 && x.since == s.tickNo)) =
  true) (after (.comparePush 1 3 9) s))
  ({ live with way := { live.way with cmps := lmod live.way.cmps 3 (fun _ => ⟨List.replicate 7 ⟨5, 6, false, 0⟩, false, none⟩) } }) := by
  decide +kernel

theorem test_cmp_flush : (fun (s : State) => (fun (t : State) => t.rf 0 (wc Reg.WAY_CMP_STATUS_DEPTH 3) = 0) (after (.compareFlush 1 3 9) s))
  ({ live with way := { live.way with cmps := lmod live.way.cmps 3 (fun _ => ⟨List.replicate 8 ⟨5, 6, false, 0⟩, false, none⟩) } }) := by
  decide +kernel

theorem test_tbl_active : (fun (s : State) => (fun (t : State) => t.rf (s.loaderWin 0 false) (loaderRegs false).code = 9 ∧
  t.rf (s.loaderWin 0 false) (loaderRegs false).err = 1 ∧ t.loadingOf 0 false = s.loadingOf 0 false) (after (.tableLoad 1 (wBank 1) 0 false) s)) (put
  live [(0, Reg.TRU_BANK_SEL, 1)]) := by
  decide +kernel

theorem test_tbl_abort : (fun (s : State) => (fun (t : State) => t.loadingOf 0 true = none ∧ t.rf (s.loaderWin 0 true) (loaderRegs true).busy = 0 ∧
  t.rf (s.loaderWin 0 true) (loaderRegs true).code = 11 ∧ t.rf (s.loaderWin 0 true) (loaderRegs true).err = 1) (after (.tableLoadAbort 1 0 0 true) s))
  (live.setLoading 0 true (some (1, 0x10000000))) := by
  decide +kernel

theorem test_tru_line : (fun (s : State) => (fun (t : State) => (t.truOf 0).last = some (lineOf 3 3 100).tag ∧
  (match ((t.mew 2).packets.getLast?).bind (fun q => q.item) with | some (.line o) => decide (o.tag = (lineOf 3 3 100).tag ∧
  o.planes = (List.range (lineOf 3 3 100).planes.length).map (fun p => ((takenOf s 0 .TRU).truPlane 0 p ((lineOf 3 3 100).planes.getD p []) ((lineOf 3
  3 100).poison.getD p [])).1) ∧ o.poison = (lineOf 3 3 100).planes.map (fun _ => [])) | _ => false) = true) (after (.truLine 0) s)) (waiting (put
  live [(0, Reg.STA_CFG_TAP, 0), (0, mewF Reg.MEW_DEPTH_KIND 1, 0), (0, mewF Reg.MEW_DEPTH_KIND 2, 0)]) 1 (.line (lineOf 3 3 100))) := by
  decide +kernel

theorem test_ref_done : (fun (s : State) => (fun (t : State) => (t.truOf 0).ref = none ∧ t.rf (s.eng .TRU 0) Reg.TRU_EVENT_REF_DONE = 1 ∧
  (t.truOf 0).results = (s.truOf 0).results ++ [(s.rf (s.eng .TRU 0) (Reg.TRU_TBL_ID0_TABLE_ID.sh (4 * s.rf (s.eng .TRU 0) Reg.TRU_BANK_SEL)), [[5,
  6]])] ∧ t.rf64 (s.eng .TRU 0) (Reg.TRU_REF_SUM_SUM.sh 0) = 5 ∧
  t.rf64 (s.eng .TRU 0) (Reg.TRU_REF_SUM_SUM.sh 8) = 6) (after (.refMeasurementDone 0) s)) ((put live [(0, Reg.TRU_REF_CTL_LINES,
  4)]).truMod 0 (fun u => { u with ref := some ⟨4, [[5, 6]], 0, 0⟩ })) := by
  decide +kernel

theorem test_gain_none : (fun (s : State) => (fun (t : State) => (t.wwtAt 3 (0 / 6) 0).rejects = (s.wwtAt 3 (0 / 6) 0).rejects + 1 ∧
  t.rf (wwtWin 3 (0 / 6)) Reg.WWT_LAST_OUTCOME = 1) (after (.gainRunComplete 0) s))
  ({ live.wwtMod 3 0 0 (fun x => { x with running := true, started := 0, rejects := 2 }) with tmt := { live.tmt with ns := 10000000000 } }) := by
  decide +kernel

theorem test_rga_back : (fun (s : State) => (fun (t : State) => t.rf (s.eng .RGA 0) (Reg.RGA_CNT_COUNT.sh 8) = Nat.min 4294967295 (s.rf (s.eng .RGA 0)
  (Reg.RGA_CNT_COUNT.sh 8) + 1) ∧ t.rf (s.eng .RGA 0) Reg.RGA_EVENT_BACK_LINE = 1 ∧
  t.rga = (takenOf s 0 .RGA).rga) (after (.rgaLine 0) s)) ((waiting (put live [(0, Reg.RGA_WIDTH_OUT, 2), (0, Reg.RGA_WIDTH_IN, 2), (0,
  Reg.RGA_MD_CTL_MIN_STEP_NM, 10)]) 2 (.line (lineOf 3 3 109))).rgaMod 0 (fun u => { u with top := some 100, pending := none, flushed := false })) :=
  by
  decide +kernel

theorem test_rga_bridge : (fun (s : State) => (fun (t : State) => (t.rgaOf 0).pending = some (gapOf 1)) (after (.rgaGapMarker 0) s)) ((waiting (put
  live [(0, Reg.RGA_WIDTH_OUT, 2), (0, Reg.RGA_WIDTH_IN, 2)]) 2 (.gap (gapOf 1))).rgaMod 0 (fun u =>
  { u with lines := [midOf 3 100], count := 1, pending := none })) := by
  decide +kernel

theorem test_seam_waits : (fun (s : State) => (fun (t : State) => ((t.seamOf 0).side true).entries = [⟨.line (lineOf 3 3 100), .waits⟩] ∧
  t.cf 0 Reg.CPL_STATUS_WAITING = 1) (after (.seamLineDeliver 0 true) s)) ((waiting (put live [(seamInst 0, Reg.CPL_CFG_LINK.sh (seamOff 0),
  1)]) 11 (.line (lineOf 3 3 100))).seamMod 0 (fun x => { x with high := { x.high with top := some 2 } })) := by
  decide +kernel

theorem test_reg_flat : (fun (s : State) => (fun (t : State) => t.cf 0 Reg.CPL_REG_USED_LINES = 0 ∧
  (t.seamOf 0).window = RegWindow.fresh (s.wwtAt 2 0 0).running ∧ (t.seamOf 0).k = leastSad (s.seamOf 0).window.sad ∧
  t.cf 0 Reg.CPL_EVENT_REG_UNTEXTURED = 1 ∧ t.cf 0 Reg.CPL_REG_CD_D = s.cf 0 Reg.CPL_REG_CD_D ∧
  t.cf 0 (Reg.CPL_CNT_COUNT.sh 12) = Nat.min 4294967295 (s.cf 0 (Reg.CPL_CNT_COUNT.sh 12) + 1)) (after (.regWindowEnd 0) s)) ((put live [(seamInst 0,
  Reg.CPL_CFG_LINK.sh (seamOff 0), 1), (seamInst 0, Reg.CPL_REG_CTL_ENABLE.sh (seamOff 0), 1), (seamInst 0, Reg.CPL_REG_CTL_LINES.sh (seamOff 0),
  4)]).seamMod 0 (fun x => { x with window := winOf 8 100 100 100 3 3 })) := by
  decide +kernel

theorem test_seam_rej : (fun (s : State) => (fun (t : State) => (t.wwtAt 2 0 0).rejects = (s.wwtAt 2 0 0).rejects + 1 ∧
  t.rf 0 Reg.WWT_LAST_OUTCOME = 1 ∧ t.rf 0 Reg.WWT_LAST_CLASS = 2 ∧ t.seamFix = none) (after (.seamRunComplete) s)) (seamRun live (5, 5) (8, 5)) := by
  decide +kernel

theorem test_seam_to : (fun (s : State) => (fun (t : State) => (t.wwtAt 2 0 0).rejects = (s.wwtAt 2 0 0).rejects + 1 ∧
  t.rf 0 Reg.WWT_LAST_OUTCOME = 1) (after (.seamRunTimeout) s))
  ({ (put live [(seamInst 0, Reg.CPL_CFG_LINK.sh (seamOff 0), 1), (seamInst 0, Reg.CPL_REG_CTL_ENABLE.sh (seamOff 0), 1)]).wwtMod 2 0 0 (fun x => { x with running := true, started := 0, rejects := 2 }) with tmt := { live.tmt with ns := 10000000000 } })
  := by
  decide +kernel

theorem test_spr_takes : (fun (s : State) => (fun (t : State) => (t.sprOf 0).lastGrid = some 3 ∧ (t.sprOf 0).lastTag = some badLine.tag ∧
  (t.sprOf 0).hole = false ∧ t.rf (s.eng .SPR 0) Reg.SPR_EVENT_POISON = 1) (after (.sprLine 0) s)) (waiting (put live [(seamInst 0,
  Reg.CPL_CFG_LINK.sh (seamOff 0), 3)]) 3 (.line badLine)) := by
  decide +kernel

theorem test_mask_back : (fun (s : State) => (fun (t : State) => (t.sprOf 0).sent = [(6, [])] ∧ (5,
  []) ∈ (t.sprOf 0).masks) (after (.freezeMaskReturn 0) s)) (live.sprMod 0 (fun y => { y with sent := [(5, []), (6, [])] })) := by
  decide +kernel

theorem test_lbl_line : (fun (s : State) => (fun (t : State) => (t.lblOf 0).lastLine = some 9 ∧ t.lblFront 0 = Nat.max (s.lblFront 0) 9 ∧
  ∀ c ∈ (t.lblOf 0).comps, 9 < c.last + Nat.max 1 (s.rf (s.eng .LBL 0) Reg.LBL_CTL_CLOSE_K)) (after (.lblLine 0) s)) ((waiting (put live [(0,
  Reg.LBL_STATUS_EXCLUDED, 0), (0, Reg.LBL_CTL_CLOSE_K, 2)]) 5 (.line lblL)).lblMod 0 (fun x =>
  { x with comps := [compOf 1 7, compOf 2 8], before := [(4, 6, 2)], next := 3, owes := 0 })) := by
  decide +kernel

theorem test_car_lag : (fun (s : State) => (fun (t : State) => (t.lblOf 0).comps = [] ∧ t.excluded 0 = true ∧ t.rf 0 Reg.DBM_EVENT_LAG = 1 ∧
  t.rf (s.eng .LBL 0) Reg.LBL_EVENT_LAG_FLUSH = 1 ∧ cget t.dbm.lag 0 = some (s.lblFront 0 + 1)) (after (.carriageLag 0) s)) ((put
  { live with way := { live.way with offset := 5000 * 1000 * nmQ } } [(0, Reg.LBL_STATUS_EXCLUDED, 0), (0, Reg.LBL_FRONTIER_LO_LINE, 3), (0,
  { Reg.LBL_FRONTIER_LO_LINE with off := Reg.LBL_FRONTIER_LO_LINE.off + 4 }, 0), (0, Reg.DBM_LAG_LINES,
  100)]).lblMod 0 (fun x => { x with comps := [compOf 1 7, compOf 2 8] })) := by
  decide +kernel

theorem test_rec_shed : (fun (s : State) => (fun (t : State) => (t.strm 255).recs = [recAt 9 0 1] ∧
  t.rf64 0 Reg.DBM_SEQ_LO_SEQ = s.rf64 0 Reg.DBM_SEQ_LO_SEQ ∧
  t.rf 0 (Reg.DBM_CNT_COUNT.sh (4 * (1 + 1))) = Nat.min 4294967295 (s.rf 0 (Reg.DBM_CNT_COUNT.sh (4 * (1 + 1))) + 1) ∧
  t.rf 0 Reg.DBM_EVENT_SHED = 1) (after (.recordWrite 255) s)) (queued live 16000 0 (recAt 5 0 1)) := by
  decide +kernel

theorem test_ack_good : (fun (s : State) => (fun (t : State) => t.dbmAck 255 = 20) (after (.dbmAckWrite 1 0) s)) ((queued live 30 10 (recAt 5 0
  3)).strmMod 255 (fun t => { t with ackLow := 20 })) := by
  decide +kernel

theorem test_arc_join : (fun (s : State) => (fun (t : State) => (t.arcOf 0).lines = (s.arcOf 0).lines ++ [lineOf 15 0 1500] ∧
  (t.arcOf 0).since = s.now) (after (.archiveLine 0) s)) (archived live (.line (lineOf 15 0 1500)) 15) := by
  decide +kernel

theorem test_job_busy : (fun (s : State) => (fun (t : State) => t.rf 0 Reg.PMT_JOB_STATUS_ERR_CODE = 1 ∧ t.rf 0 Reg.PMT_JOB_STATUS_ERR = 1 ∧
  t.rf 0 Reg.PMT_JOB_STATUS_BUSY = 1) (after (.decodeJobGo 1 1 0) s)) (put live [(0, Reg.PMT_JOB_STATUS_BUSY, 1)]) := by
  decide +kernel

theorem test_job_abort : (fun (s : State) => (fun (t : State) => cget t.jobs 0 = some { decJob none [] with ending := some 8 }) (after
  (.decodeJobAbort 1 2 0) s)) ({ live with jobs := [(0, decJob none [])] }) := by
  decide +kernel

theorem test_pvw_tick : (fun (s : State) => (fun (t : State) => (t.pvwOf 0).strips = (s.pvwOf 0).strips ++ [s.stripFrom 0 (s.webNm / s.gridMd).toNat]
  ∧ (t.pvwOf 0).last = some (s.stripFrom 0 (s.webNm / s.gridMd).toNat) ∧
  t.rf 0 Reg.PVW_STATUS_STRIP = s.stripFrom 0 (s.webNm / s.gridMd).toNat % 2 ^ 32) (after (.previewTick 0) s)) ((put
  { live with way := { live.way with offset := 5000 * 1000 * nmQ } } [(0, Reg.PVW_CTL_ENABLE, 1), (0, Reg.PVW_CTL_VIEW, 0), (0, Reg.PVW_CTL_ROWS, 4),
  (0, Reg.PVW_SCALE_MD, 256)]).pvwMod 0 (fun x => { x with last := some 1, strips := [1] })) := by
  decide +kernel

theorem test_pvw_row : (fun (s : State) => (fun (t : State) => (t.pvwOf 0).strips = 5 :: [8] ∧
  (t.pvwOf 0).rows.length = ((s.pvwPullAll 0).pvwOf 0).rows.length + 1 ∧
  (t.pvwOf 0).since = none) (after (.previewRowComplete 0 true) s)) (previewed live 2) := by
  decide +kernel

theorem test_dram_clean : (fun (s : State) => (fun (t : State) => t = s) (after (.dramRead dA 0 0) s)) (put live [(0, Reg.DMC_STATUS_STATE, 2)]) := by
  decide +kernel

theorem test_scrub_off : (fun (s : State) => (fun (t : State) => t = s) (after (.scrubBlock dA 1 [(0, 0x11)]) s)) (put live [(0, Reg.DMC_STATUS_STATE,
  2), (0, Reg.DMC_SCRUB_HOURS, 0)]) := by
  decide +kernel

theorem test_ref_due : (fun (s : State) => (fun (t : State) => cgetD (t.dmcAt 32).owed 1 0 = cgetD (s.dmcAt 32).owed 1 0 + 1) (after (.refreshDue 1 0
  1 3 0) s)) (owing live 7) := by
  decide +kernel

theorem test_ref_makeup : (fun (s : State) => (fun (t : State) => (t.dmcAt 32).owed = [] ∧
  t.rf 32 Reg.DMC_STATUS_OWED = 0) (after (.refreshMakeup 1 0 2) s)) (owing live 8) := by
  decide +kernel

theorem test_rem_go : (fun (s : State) => (fun (t : State) => t.rf 0 Reg.DMC_REMOUNT_STATUS_STATE = 1 ∧
  t.rf 0 Reg.DMC_REMOUNT_STATUS_FROM = Reg.DMC_REMOUNT_CTL_RANK.of 2 ∧ t.rf 0 Reg.DMC_REMOUNT_STATUS_SPARE = 3 ∧ t.rf 0 Reg.DMC_STATUS_STATE = 4 ∧
  t.rf 0 Reg.DMC_ERR_CODE = codeWord 'D' 0x20 ∧ t.rf 0 Reg.DMC_EVENT_REMOUNT_START = 1 ∧
  (t.dmcAt 0).block = 0) (after (.remountGo 1 2 0 0) s)) (spared live 9) := by
  decide +kernel

theorem test_rem_copy : (fun (s : State) => (fun (t : State) => (t.dmcAt 0).block = (s.dmcAt 0).block + 1 ∧
  t.rf 0 Reg.DMC_REMOUNT_STATUS_PROGRESS = Nat.min 255 (((s.dmcAt 0).block + 1) * 256 / s.rankBlocks 0)) (after (.remountCopyBlock 0 0x10000000 [(1,
  0x11), (2, 1)]) s)) (put (spared live 134217727) [(0, Reg.DMC_STATUS_STATE, 4), (0, Reg.DMC_REMOUNT_STATUS_STATE, 1)]) := by
  decide +kernel

theorem test_mew_tap_drop : (fun (s : State) => (fun (t : State) => t = s) (after (.mewsPacketWrite 0 1023 5 true true) s)) (mewsed live 1023 9 1
  ⟨[pktOf 5], 0, none, 0, false⟩) := by
  decide +kernel

theorem test_mew_freed : (fun (s : State) => (fun (t : State) => (t.mew 1023).owed = (s.mew 1023).owed - (s.mewDepth 1023 - (s.mew 1023).held) ∧
  t.rf 0 (mewF Reg.MEW_STALL_PROD 1023) = Nat.min 65535 (s.rf 0 (mewF Reg.MEW_STALL_PROD 1023) + 2048 / 1024)) (after (.mewsSpaceFreed 0 1023 2048
  true) s)) (mewsed live 1023 9 0 ⟨[⟨7, 2, false, true, false, none⟩], 6, none, 0, false⟩) := by
  decide +kernel

theorem test_dry_busy : (fun (s : State) => (fun (t : State) => t.rf 0 (dc Reg.DRY_CH_STATUS_REFUSED 31) = 1 ∧
  t.rf 0 (dc Reg.DRY_CH_STATUS_STATE 31) = s.rf 0 (dc Reg.DRY_CH_STATUS_STATE 31)) (after (.drayageGo 1 0 31 0) s)) (drayed live [(dc
  Reg.DRY_CH_STATUS_STATE 31, 2)]) := by
  decide +kernel

theorem test_dry_abort_wait : (fun (s : State) => (fun (t : State) => t.rf 0 (dc Reg.DRY_CH_STATUS_STATE 31) = 0 ∧
  t.rf 0 (dc Reg.DRY_CH_STATUS_CODE 31) = 7 ∧ t.rf 0 (dc Reg.DRY_CH_RESID_BYTES 31) = s.rf 0 (dc Reg.DRY_CH_RESID_BYTES 31)) (after (.drayageAbort 1 0
  31 0) s)) (drayed live [(dc Reg.DRY_CH_STATUS_STATE 31, 1), (dc Reg.DRY_CH_RESID_BYTES 31, 64)]) := by
  decide +kernel

theorem test_wht_free : (fun (s : State) => (fun (t : State) => t.rf 0 Reg.WHT_STATUS_GRANTED = 1 ∧
  t.rf 0 Reg.WHT_CNT_COUNT = (s.rf 0 Reg.WHT_CNT_COUNT + 1) % 2 ^ 32 ∧ ((t.whtAt 0).holder.map (fun x => (x.1.input, x.2))) = some (3,
  s.whtBurst 0 3)) (after (.whiffletreeDecision 0 0 [⟨3, 9, 0⟩]) s)) (whtd live [reqOf 2 8] none) := by
  decide +kernel

theorem test_wht_hold_mode : (fun (s : State) => (fun (t : State) => t = s) (after (.burstMaxExpire 0 0) s)) (put (whtd live [] (some (reqOf 1 9,
  4))) [(0, Reg.WHT_CTL_HOLD, 1)]) := by
  decide +kernel

theorem test_rein_down : (fun (s : State) => (fun (t : State) => t = s) (after (.reinSourceEvent 7 0xF014 31) s)) (put live [(0,
  Reg.PWR_STATE_COACH_UP, 127)]) := by
  decide +kernel

theorem test_rein_idle : (fun (s : State) => (fun (t : State) => t = s) (after (.reinCycle) s)) (put live [(0, Reg.PWR_STATE_COACH_UP, 0)]) := by
  decide +kernel

theorem test_tick : (fun (s : State) => (fun (t : State) => (t.tmt.ns : Int) * 2 ^ 40 + t.tmt.frac = ((s.tmt.ns : Int) * 2 ^ 40 + s.tmt.frac + 3 *
  s.tickInc) % (2 ^ 88 * 1000000000)) (after (.timetableTick 3) s))
  ({ live with pwr := { live.pwr with off := false }, tmt := { live.tmt with ns := 2 ^ 48 * 1000000000 - 1, frac := 2 ^ 40 - 1, step := none }, pair := { live.pair with handover := none } })
  := by
  decide +kernel

theorem test_sync_in : (fun (s : State) => (fun (t : State) => t.rf 0 Reg.TMT_STATUS_STATE = 3 ∧ t.rf64 0 Reg.TMT_OFFSET_LO_NS = unsgn 64 100 ∧
  t.tmt.ns = s.tmt.ns ∧ t.tmt.step = s.tmt.step) (after (.ptpSync 3 9 5 false 90000 10000 207000) s)) (slaved live 2) := by
  decide +kernel

theorem test_ptp_off : (fun (s : State) => (fun (t : State) => t = s) (after (.ptpFollowUp 3 9 5 1 2) s))
  ({ put live [(0, Reg.TMT_CFG_ROLE, 0)] with tmt := { live.tmt with sync := some (9, 5, 6), master := some (gmOf 1 3) } }) := by
  decide +kernel

theorem test_ptp_off_time : (fun (s : State) => (fun (t : State) => t = s) (after (.announceTimeout) s))
  ({ put live [(0, Reg.TMT_CFG_ROLE, 0)] with tmt := { live.tmt with sync := some (9, 5, 6), master := some (gmOf 1 3) } }) := by
  decide +kernel

theorem test_launch_full : (fun (s : State) => (fun (t : State) => t.rf 0 Reg.TMT_LAUNCH_STATUS_FULL = 1 ∧
  t.tmt.launches = s.tmt.launches) (after (.launchPush 1 0) s)) (launching live (List.replicate 64 (launchOf 5 0xFF false false none)) 0) := by
  decide +kernel

theorem test_launch_flush : (fun (s : State) => (fun (t : State) => t.tmt.launches = [launchOf 5 2 false false none] ∧
  t.rf 0 (Reg.TMT_CNT_COUNT.sh 24) = Nat.min 4294967295 (s.rf 0 (Reg.TMT_CNT_COUNT.sh 24) + 1)) (after (.launchFlush 1 0) s)) (launching live
  [launchOf 5 0xFF false false none, launchOf 5 2 false false none] 100001) := by
  decide +kernel

theorem test_eoi_low : (fun (s : State) => (fun (t : State) => t = s) (after (.irqEoi 1 1) s)) (put live [(0, Reg.HDR_STATUS_DONE, 0), (0,
  Reg.HDR_STATUS_FAIL, 0)]) := by
  decide +kernel

theorem test_unmask : (fun (s : State) => (fun (t : State) => 7 ∉ t.irq.masked ∧ 7 ∉ t.irq.pend ∧ t.egress = s.egress ++ [⟨.msix, 7,
  []⟩]) (after (.msixUnmask 7) s)) ({ live with irq := { live.irq with pend := [7] } }) := by
  decide +kernel

theorem test_yoke_bad : (fun (s : State) => (fun (t : State) => t.yoke = s.yoke ∧ t.rf 1 Reg.YOK_ERR_CODE = codeWord 'Y' 4 ∧
  t.rf 1 Reg.YOK_STATUS_FAIL = 1) (after (.yokeRequest 1 0x10) s)) (yoked live []) := by
  decide +kernel

theorem test_yoke_cancelled : (fun (s : State) => (fun (t : State) => t.yoke.commits = [] ∧ t.rf 1 Reg.YOK_ERR_CODE = codeWord 'Y' 0x0007 ∧
  t.rf 1 Reg.YOK_STATUS_FAIL = 1 ∧ t.staged = s.staged) (after (.yokeCancel mOut 0) s)) (yoked live [commitOf 1 2 5 false false]) := by
  decide +kernel

theorem test_slot_claim : (fun (s : State) => (fun (t : State) => t.rf 0 (pst Reg.PST_STATUS_CLAIMED 15) = 1 ∧
  t.rf 0 (pst Reg.PST_STATUS_WRITER 15) = 255 ∧ t.slotWord 15 15 = 0x89ABCDEF) (after (.postSlotWrite 255 15 15 0x89ABCDEF) s)) (put live [(0,
  pst Reg.PST_STATUS_FULL 15, 0), (0, pst Reg.PST_STATUS_CLAIMED 15, 0)]) := by
  decide +kernel

theorem test_slot_sent : (fun (s : State) => (fun (t : State) => t.rf 0 (pst Reg.PST_STATUS_FULL 13) = 1 ∧ getBits (t.slotWord 13 0) 7 0 = 1 ∧
  getBits (t.slotWord 13 0) 31 24 = cgetD s.postSeq 13 0 % 256 ∧ cgetD t.postSeq 13 0 = (cgetD s.postSeq 13 0 + 1) % 256 ∧
  (t.rf 0 (pst Reg.PST_HORN_HORN 13)).testBit 0 = true ∧ t.rf 0 (pst Reg.PST_STATUS_TIMEOUT 13) = 1) (after (.postSend 1 13 0) s))
  ({ put live [(0, pst Reg.PST_STATUS_CLAIMED 13, 1), (0, pst Reg.PST_STATUS_WRITER 13, 1), (0, pst Reg.PST_CFG_RECEIVER 13, 0x2F), (0, Reg.PWR_STATE_COACH_UP, 127)] with postSeq := [(13, 255)] })
  := by
  decide +kernel

theorem test_pin_take : (fun (s : State) => (fun (t : State) => t.pinOwner 63 = mHost ∧ t.egress.length = s.egress.length + 1 ∧
  (∀ e ∈ t.egress.drop s.egress.length, e.kind = .hostRead ∧ (e.body.getD 0 0).testBit 0 = true ∧
  e.body.getD 0 0 / 256 % 256 = mHost)) (after (.linchpinAcquire mHost 63) s)) (pinned live 0) := by
  decide +kernel

theorem test_pin_free : (fun (s : State) => (fun (t : State) => t.pinOwner 63 = 0) (after (.linchpinRelease 2 63 0) s)) (pinned live 2) := by
  decide +kernel

theorem test_hello_other : (fun (s : State) => (fun (t : State) => t.rf 0 Reg.PAI_ERR_CODE = codeWord 'P' 0x0001 ∧
  t.rf 0 Reg.PAI_STATUS_STATE = if s.holdHigh then 5 else 4) (after (.pairHello 8 5 1 2) s)) (paired live 1 0 1) := by
  decide +kernel

theorem test_join_not : (fun (s : State) => (fun (t : State) => t = s) (after (.pairJoinTimeout) s)) (put (paired live 1 0 1) [(0, Reg.PAI_JOIN_MS,
  4)]) := by
  decide +kernel

theorem test_not_standby : (fun (s : State) => (fun (t : State) => t = s) (after (.mirrorEpoch 0 7 8 true) s)) (paired live 2 0 0) := by
  decide +kernel

theorem test_not_standby1 : (fun (s : State) => (fun (t : State) => t = s) (after (.mirrorTrigger 1 2 3 4 5 true) s)) (paired live 2 0 0) := by
  decide +kernel

theorem test_rg_not : (fun (s : State) => (fun (t : State) => t = s) (after (.ringHelloSend) s)) (put (ringed live 1) [(0, Reg.RNG_STATUS_LIVE,
  0)]) := by
  decide +kernel

theorem test_rg_not2 : (fun (s : State) => (fun (t : State) => t = s) (after (.ringHello true ⟨0, 3, 1, 1, 0, 10, 0, 0, 0, 0,
  0⟩) s)) (put (ringed live 1) [(0, Reg.RNG_STATUS_LIVE, 0)]) := by
  decide +kernel

end

end Sys2Proof.Tests
end

section
/-! What the state right after power-on holds (R9, R12): statement O2. -/

namespace Sys2Proof.Machine

/-- A key that no cell has holds nothing. -/
theorem cget_eq_none {α : Type} {l : List (Nat × α)} {a : Nat} (h : a ∉ l.map (fun e => e.1)) : cget l a = none := by
  induction l with
  | nil => rfl
  | cons e t ih =>
    rw [List.map_cons, List.mem_cons, not_or] at h
    rw [cget, if_neg h.1, ih h.2]

theorem State.regs_reset : State.reset.regs = powerOnRegs := rfl

/-- A register that power-on does not write holds no stored word at reset. -/
theorem State.cget_reset {k : Nat} (h : k ∉ powerOnRegs.map (fun e => e.1)) : cget State.reset.regs k = none := by
  rw [State.regs_reset]
  exact cget_eq_none h

/-- A register without a stored word reads its Reset column (R9). -/
theorem State.word_of_none {s : State} {b : Blk} {i o : Nat} (h : cget s.regs (regKey b i o) = none) : s.word b i o = resetWord b o := by
  rw [State.word, cgetD, h, Option.getD_none]

/-- A field of a register without a stored word reads its reset value (R9). -/
theorem State.rf_of_none {s : State} {i : Nat} {f : Fld} (h : cget s.regs (regKey f.blk i f.off) = none) : s.rf i f = f.rst := by
  rw [State.rf, h]

/-- Every vector of the part is masked at reset (R395). -/
theorem State.masked_reset {v : Nat} (h : v < 256) : v ∈ State.reset.irq.masked := by
  simpa [State.reset] using h

/-- Settles O2: the register clauses by the keys that power-on writes (`State.cget_reset`), the others by the reset state's own fields. -/
theorem resetLeavesTheStatedValues : Obligations.ResetLeavesTheStatedValues := by
  unfold Obligations.ResetLeavesTheStatedValues
  exact ⟨fun _ _ _ h => State.word_of_none (State.cget_reset h), State.rf_of_none (State.cget_reset (by decide)),
    State.rf_of_none (State.cget_reset (by decide)), State.rf_of_none (State.cget_reset (by decide)),
    rfl, rfl, rfl, fun _ => State.masked_reset, rfl, rfl, rfl, rfl, rfl, rfl⟩

end Sys2Proof.Machine
end

section
/-! What a write of a register does to each of its bits (R10, R404), how a whole-word write reaches its register (R392), and what a G-code leaves
(R422): statement O8. -/

namespace Sys2Proof.Machine

/-! ### The access codes, bit by bit (R10) -/

/-- In every register table the fields of a register share no bit (R9). -/
theorem table_fields_apart (b : Blk) : ∀ d ∈ Reg.table b, d.fields.Pairwise (fun f g => f.hi < g.lo ∨ g.hi < f.lo) := by
  cases b <;> decide

/-- Of fields that pairwise share no bit, two are the same or share none. -/
theorem eq_or_apart {l : List Fld} (h : l.Pairwise (fun f g => f.hi < g.lo ∨ g.hi < f.lo)) {f g : Fld} (hf : f ∈ l) (hg : g ∈ l) :
    f = g ∨ f.hi < g.lo ∨ g.hi < f.lo := by
  induction h with
  | nil => cases hf
  | cons first _ ih =>
    rcases List.mem_cons.mp hf with rfl | hf'
    · exact (List.mem_cons.mp hg).imp Eq.symm (first g)
    · rcases List.mem_cons.mp hg with rfl | hg'
      · exact .inr (first f hf').symm
      · exact ih hf' hg'

/-- The definition found at an offset stands in the block's table. -/
theorem findDef_mem {b : Blk} {o : Nat} {d : RegDef} (h : findDef b o = some d) : d ∈ Reg.table b := List.mem_of_find?_eq_some h

/-- Of the fields of a register at most one holds a bit. -/
theorem field_eq_of_bit {b : Blk} {o : Nat} {d : RegDef} (h : findDef b o = some d) {f g : Fld} (hf : f ∈ d.fields) (hg : g ∈ d.fields) {k : Nat}
    (f1 : f.lo ≤ k) (f2 : k ≤ f.hi) (g1 : g.lo ≤ k) (g2 : k ≤ g.hi) : g = f := by
  rcases eq_or_apart (table_fields_apart b d (findDef_mem h)) hg hf with same | apart
  · exact same
  · omega

/-- The fold of the masks of one access code over fields, bit by bit. -/
theorem foldl_maskBits_getLsbD (a : Acc) (k : Nat) (l : List Fld) (w : Word) :
    (l.foldl (fun w f => if f.acc = a then w ||| maskBits f.hi f.lo else w) w).getLsbD k =
      (w.getLsbD k || l.any (fun f => decide (f.acc = a) && (maskBits f.hi f.lo).getLsbD k)) := by
  induction l generalizing w with
  | nil => simp
  | cons f t ih =>
    rw [List.foldl_cons, ih, List.any_cons]
    by_cases h : f.acc = a <;> simp [h, Bool.or_assoc]

/-- The mask of an access code has a bit of a field where the field has that code. -/
theorem maskAcc_getLsbD {b : Blk} {o : Nat} {d : RegDef} (h : findDef b o = some d) {f : Fld} (hf : f ∈ d.fields) {k : Nat} (h1 : f.lo ≤ k)
    (h2 : k ≤ f.hi) (hk : k < 32) (a : Acc) : (d.maskAcc a).getLsbD k = decide (f.acc = a) := by
  unfold RegDef.maskAcc
  rw [foldl_maskBits_getLsbD, show (0 : Word).getLsbD k = false from BitVec.getLsbD_zero, Bool.false_or, Bool.eq_iff_iff]
  simp only [List.any_eq_true, Bool.and_eq_true, decide_eq_true_eq, maskBits_getLsbD]
  constructor
  · rintro ⟨g, hg, ha, ⟨_, g1⟩, g2⟩
    rwa [field_eq_of_bit h hf hg h1 h2 g1 (by omega)] at ha
  · intro ha
    exact ⟨f, hf, ha, ⟨hk, h1⟩, by omega⟩

/-- What a write of w makes of a bit by the access code of its field (R10). -/
def Acc.after (a : Acc) (old w : Bool) : Bool :=
  match a with
  | .RW => w
  | .W1C => old && !w
  | .W1S => old || w
  | .RO | .WP | .YH | .RWS => old

/-- A coded write acts on each bit of a field by the field's access code. -/
theorem written_getLsbD_of_field {b : Blk} {o : Nat} {d : RegDef} (h : findDef b o = some d) {f : Fld} (hf : f ∈ d.fields) {k : Nat}
    (h1 : f.lo ≤ k) (h2 : k ≤ f.hi) (old w : Word) : (d.written old w).getLsbD k = f.acc.after (old.getLsbD k) (w.getLsbD k) := by
  rw [RegDef.written_getLsbD]
  by_cases hk : k < 32
  · simp only [maskAcc_getLsbD h hf h1 h2 hk]
    cases f.acc <;> simp [Acc.after]
  · cases f.acc <;> simp [Acc.after, BitVec.getLsbD_of_ge _ k (Nat.not_lt.mp hk)]

/-! ### The staged side of a write (R404, R406) -/

/-- A register with an RWS field holds a staged value. -/
theorem hasRws_of_field {d : RegDef} {f : Fld} (hf : f ∈ d.fields) (ha : f.acc = .RWS) : d.hasRws = true :=
  List.any_eq_true.mpr ⟨f, hf, by rw [ha]; rfl⟩

/-- The active word's part of a coded write leaves the staged values of staging. -/
theorem State.codeWrite_staged (s : State) (m : Nat) (l : Loc) (w : Word) : (s.codeWrite m l w).staged = (s.stageWrite m l w).staged := by
  unfold State.codeWrite
  extract_lets s1 old new
  split <;> rfl

/-- A coded write of a register with RWS fields that no commit holds stages the RWS bits (R404). -/
theorem State.stagedWord_codeWrite (s : State) (m : Nat) (l : Loc) (w : Word) (hr : l.rdef.hasRws = true)
    (hz : s.frozen (regKey l.blk l.inst l.off) = false) :
    (s.codeWrite m l w).stagedWord l.blk l.inst l.off =
      ((s.stagedWord l.blk l.inst l.off &&& ~~~l.rdef.maskAcc .RWS) ||| (w &&& l.rdef.maskAcc .RWS)) := by
  rw [State.stagedWord, State.codeWrite_staged]
  simp only [State.stageWrite, hr, hz, Bool.not_true, Bool.false_eq_true, if_false, cget_cset_same, Option.getD_some]

/-- A bit of an RWS field that no commit holds is staged as written. -/
theorem State.stagedWord_codeWrite_getLsbD (s : State) (m : Nat) {l : Loc} (w : Word) (h : findDef l.blk l.off = some l.rdef) {f : Fld}
    (hf : f ∈ l.rdef.fields) {k : Nat} (h1 : f.lo ≤ k) (h2 : k ≤ f.hi) (ha : f.acc = .RWS)
    (hz : s.frozen (regKey l.blk l.inst l.off) = false) : ((s.codeWrite m l w).stagedWord l.blk l.inst l.off).getLsbD k = w.getLsbD k := by
  rw [State.stagedWord_codeWrite s m l w (hasRws_of_field hf ha) hz]
  by_cases hk : k < 32
  · simp only [BitVec.getLsbD_or, BitVec.getLsbD_and, BitVec.getLsbD_not, maskAcc_getLsbD h hf h1 h2 hk, ha]
    simp
  · rw [BitVec.getLsbD_of_ge _ k (Nat.not_lt.mp hk), BitVec.getLsbD_of_ge _ k (Nat.not_lt.mp hk)]

/-! ### Whole-word writes (R392) -/

/-- The register that an access finds is the one its block's table has there. -/
theorem findDef_of_locate {s : State} {m off : Nat} {l : Loc} (h : s.locate m off = some l) : findDef l.blk l.off = some l.rdef := by
  unfold State.locate at h
  split at h
  · cases h
  split at h
  · extract_lets b o at h
    split at h
    · cases h
      assumption
    · cases h
  split at h
  · cases h
  split at h
  · cases h
  split at h
  · cases h
  extract_lets o at h
  split at h
  · cases h
    assumption
  · cases h

/-- The blocks whose registers act by their access codes alone. -/
def codedBlocks : List Blk := [.OUT, .RNG, .CLK, .STA, .SEG, .LBL, .PAT, .PVW]

/-- A write to a register of a coded block is its coded write. -/
theorem State.writeAt_coded (top : State → Nat → Loc → Word → State) (s : State) (m : Nat) (l : Loc) (w : Word) (h : l.blk ∈ codedBlocks) :
    s.writeAt top m l w = s.codeWrite m l w := by
  unfold State.writeAt
  generalize l.blk = b at h ⊢
  cases b
  all_goals first | rfl | exact absurd h (by decide)

/-- A whole-word write in the active view, outside the directory, that reaches its register in a running domain. -/
theorem State.busWrite_active (s : State) (m : Nat) {off : Nat} (w : Word) {l : Loc} (lt : off < 0x10000000)
    (hd : ¬ (0x10000 ≤ off ∧ off < 0x20000)) (hl : s.locate m off = some l) (hs : s.stopped l.blk l.inst = false) :
    (s.busWrite m off w).1 = s.writeAt State.topWrite m l w := by
  have active : inStaged off = false := by
    simp only [inStaged, Bool.and_eq_false_iff, decide_eq_false_iff_not]
    omega
  have dir : (!false && decide (0x10000 ≤ off) && decide (off < 0x20000)) = false := by
    simp only [Bool.not_false, Bool.true_and, Bool.and_eq_false_iff, decide_eq_false_iff_not]
    omega
  have gate : s.gate m l.blk l.inst = .pass := by
    unfold State.gate
    rw [hs]
    rfl
  unfold State.busWrite State.busWriteWith
  simp only [active, dir, hl, gate, Bool.false_eq_true, Bool.false_and, if_false]

/-- REGISTER_WRITE with every byte enable is the bus write; with only some it records G-0013 (R392). -/
theorem exec_registerWrite (m off be : Nat) (w : Word) (s : State) :
    exec (.registerWrite m off be w) s =
      .next (if be % 16 ≠ 15 then s.gcode 0x0013 (off - off % 4) m else (s.busWrite m (off - off % 4) w).1) := rfl

/-- A whole-word write to a register of a coded block is its coded write. -/
theorem exec_registerWrite_coded {s : State} {m off be : Nat} {w : Word} {l : Loc} (aligned : off % 4 = 0) (lt : off < 0x10000000)
    (hd : ¬ (0x10000 ≤ off ∧ off < 0x20000)) (whole : be % 16 = 15) (hl : s.locate m off = some l) (hb : l.blk ∈ codedBlocks)
    (hs : s.stopped l.blk l.inst = false) : exec (.registerWrite m off be w) s = .next (s.codeWrite m l w) := by
  rw [exec_registerWrite, if_neg (fun ne => ne whole), aligned, Nat.sub_zero, State.busWrite_active s m w lt hd hl hs,
    State.writeAt_coded _ s m l w hb]

/-! ### What a G-code records (R422, R482) -/

/-- A G-code's fields are those of its four register writes: the fault log and vector 0 change no register. -/
theorem State.rf_gcode (s : State) (d addr master i : Nat) (f : Fld) :
    (s.gcode d addr master).rf i f = ((((s.wf 0 Reg.GLB_ERR_CODE (gWord d)).wf 0 Reg.GLB_ERR_ADDR_OFFSET addr).wf 0 Reg.GLB_ERR_MASTER_MASTER
      master).inc 0 Reg.GLB_ERR_MASTER_COUNT).rf i f := by
  unfold State.gcode
  rw [(State.glbRaise_keeps _).rf i f (by cases f.blk <;> rfl), (State.logFault_keeps _ _ _ _ _).rf i f (by cases f.blk <;> rfl)]

theorem State.rf_gcode_code (s : State) (d addr master : Nat) : (s.gcode d addr master).rf 0 Reg.GLB_ERR_CODE = gWord d % 2 ^ 32 := by
  rw [State.rf_gcode, State.inc, State.add, State.rf_wf_reg _ _ (by decide), State.rf_wf_reg _ _ (by decide), State.rf_wf_reg _ _ (by decide),
    State.rf_wf_same _ _ _ _ (by decide)]
  rfl

theorem State.rf_gcode_offset (s : State) (d addr master : Nat) : (s.gcode d addr master).rf 0 Reg.GLB_ERR_ADDR_OFFSET = addr % 2 ^ 32 := by
  rw [State.rf_gcode, State.inc, State.add, State.rf_wf_reg _ _ (by decide), State.rf_wf_reg _ _ (by decide), State.rf_wf_same _ _ _ _ (by decide)]
  rfl

theorem State.gcode_staged (s : State) (d addr master : Nat) : (s.gcode d addr master).staged = s.staged :=
  Eq.symm ((State.gcode_keeps s d addr master).same .staged rfl)

theorem State.word_gcode (s : State) (d addr master : Nat) {b : Blk} (i o : Nat) (h : b ≠ .GLB) :
    (s.gcode d addr master).word b i o = s.word b i o := by
  refine (State.gcode_keeps s d addr master).word b i o ?_
  cases b
  all_goals first | exact absurd rfl h | rfl

/-- Settles O8: a whole-word write is the coded write of the register that the offset finds, and the fields of a register share no bit, so each
bit of the new word is that of its field's code; a write with only some byte enables is the record of G-0013. -/
theorem registerWritesActOnEachFieldByItsCode : Obligations.RegisterWritesActOnEachFieldByItsCode := by
  unfold Obligations.RegisterWritesActOnEachFieldByItsCode
  intro s m off be w
  constructor
  · intro l aligned lt hd whole hl hb hs
    have hdef := findDef_of_locate hl
    have hy : l.blk ≠ .YOK := fun e => absurd (e ▸ hb) (by decide)
    refine ⟨s.codeWrite m l w, exec_registerWrite_coded aligned lt hd whole hl hb hs, fun f hf k h1 h2 => ⟨?_, fun ha hz => ?_⟩⟩
    · rw [State.word_codeWrite_same s m l w hy, written_getLsbD_of_field hdef hf h1 h2]
      cases f.acc <;> rfl
    · exact State.stagedWord_codeWrite_getLsbD s m w hdef hf h1 h2 ha hz
  · intro part
    refine ⟨_, (exec_registerWrite m off be w s).trans (by rw [if_pos part]), ?_, State.rf_gcode_offset .., State.gcode_staged ..,
      fun b i o hb => State.word_gcode _ _ _ _ _ _ hb⟩
    rw [State.rf_gcode_code]
    decide

end Sys2Proof.Machine
end

section
/-! The Waywiser's compare units (R13, R162, R163): their registers, what a position is made of, and what push, flush, enable, fire and the end of a
pulse leave: statement O27. -/

namespace Sys2Proof.Machine

/-! ### Words with a bit set -/

/-- A field whose bits a write sets reads all ones. -/
theorem getBits_or_maskBits_same (w : Word) {hi lo : Nat} (h : hi < 32) : getBits (w ||| maskBits hi lo) hi lo = 2 ^ (hi + 1 - lo) - 1 := by
  apply Nat.eq_of_testBit_eq
  intro i
  rw [getBits_testBit, BitVec.getLsbD_or, maskBits_getLsbD, Nat.testBit_two_pow_sub_one, Nat.add_sub_cancel_left]
  by_cases c : i < hi + 1 - lo
  · have e : lo + i < 32 := by omega
    simp [c, e]
  · simp [c]

/-- Other bits stay. -/
theorem getBits_or_maskBits_other (w : Word) {hi lo hi' lo' : Nat} (h : hi < lo' ∨ hi' < lo) :
    getBits (w ||| maskBits hi lo) hi' lo' = getBits w hi' lo' := by
  apply Nat.eq_of_testBit_eq
  intro i
  rw [getBits_testBit, getBits_testBit, BitVec.getLsbD_or, maskBits_getLsbD]
  by_cases c : i < hi' + 1 - lo'
  · have e : (decide (lo ≤ lo' + i) && decide (lo' + i - lo < hi + 1 - lo)) = false := by
      simp only [Bool.and_eq_false_iff, decide_eq_false_iff_not]
      omega
    rw [Bool.and_assoc, e, Bool.and_false, Bool.or_false]
  · simp [c]

/-- A bit of a word, as the number of its one-bit field. -/
theorem testBit_eq_getBits (w : Word) (n : Nat) : w.toNat.testBit n = decide (getBits w n n = 1) := by
  rw [getBits, Nat.testBit_eq_decide_div_mod_eq, Nat.add_sub_cancel_left, Nat.pow_one]

/-! ### What other operations leave alone -/

theorem State.rf_edges (old : State) (vs : List Nat) (s : State) (i : Nat) (g : Fld) : (State.edges old vs s).rf i g = s.rf i g :=
  (State.edges_keeps old vs s).rf i g (by cases g.blk <;> rfl)

theorem State.rf_gioShow (s old : State) (pins : List Nat) (i : Nat) (g : Fld) : (s.gioShow old pins).rf i g = s.rf i g :=
  (State.gioShow_keeps s old pins).rf i g (by cases g.blk <;> rfl)

theorem State.rf_reinRaise_way (s : State) (coach src ev n i : Nat) {g : Fld} (hg : g.blk = .WAY) : (s.reinRaise coach src ev n).rf i g = s.rf i g :=
  (State.reinRaise_keeps s coach src ev n).rf i g (by rw [hg]; rfl)

theorem State.rf_wakeSource_way (s : State) (src idx i : Nat) {g : Fld} (hg : g.blk = .WAY) : (s.wakeSource src idx).rf i g = s.rf i g :=
  (State.wakeSource_keeps s src idx).rf i g (by rw [hg]; rfl)

theorem State.gioShow_way (s old : State) (pins : List Nat) : (s.gioShow old pins).way = s.way :=
  Eq.symm ((State.gioShow_keeps s old pins).same .way rfl)

theorem State.codeWrite_way (s : State) (m : Nat) (l : Loc) (w : Word) : (s.codeWrite m l w).way = s.way :=
  Eq.symm ((State.codeWrite_keeps s m l w).same .way (by cases l.blk <;> rfl))

theorem State.codeWrite_tmt (s : State) (m : Nat) (l : Loc) (w : Word) : (s.codeWrite m l w).tmt = s.tmt :=
  Eq.symm ((State.codeWrite_keeps s m l w).same .tmt (by cases l.blk <;> rfl))

theorem State.tickNo_codeWrite (s : State) (m : Nat) (l : Loc) (w : Word) : (s.codeWrite m l w).tickNo = s.tickNo := by
  rw [State.tickNo, State.tickNo, State.codeWrite_tmt]

/-- A coded write changes no compare unit's own state. -/
theorem State.cmp_codeWrite (s : State) (m : Nat) (l : Loc) (w : Word) (u : Nat) : (s.codeWrite m l w).cmp u = s.cmp u := by
  rw [State.cmp, State.cmp, State.codeWrite_way]

/-- A 64-bit quantity is the same where both its registers are (R8). -/
theorem State.rf64_congr {s t : State} {i : Nat} {lo : Fld} (h1 : t.rf i { lo with hi := 31, lo := 0 } = s.rf i { lo with hi := 31, lo := 0 })
    (h2 : t.word lo.blk i (lo.off + 4) = s.word lo.blk i (lo.off + 4)) : t.rf64 i lo = s.rf64 i lo := by
  rw [State.rf64, State.rf64, h1, h2]

/-! ### The registers of a compare unit -/

theorem findDef_cmpCtl {u : Nat} (hu : u < 16) : findDef .WAY (0x800 + 0x40 * u) = some Reg.WAY_CMP_CTL := by
  revert u
  decide

theorem findDef_cmpStatus {u : Nat} (hu : u < 16) : findDef .WAY (0x804 + 0x40 * u) = some Reg.WAY_CMP_STATUS := by
  revert u
  decide

theorem findDef_cmpPush {u : Nat} (hu : u < 16) : findDef .WAY (0x810 + 0x40 * u) = some Reg.WAY_CMP_PUSH := by
  revert u
  decide

/-- Where a write to a unit's WAY_CMP_CTL goes. -/
def cmpCtlLoc (u : Nat) : Loc := ⟨.WAY, 0, 0x800 + 0x40 * u, Reg.WAY_CMP_CTL⟩

/-- Where a write to a unit's WAY_CMP_PUSH goes. -/
def cmpPushLoc (u : Nat) : Loc := ⟨.WAY, 0, 0x810 + 0x40 * u, Reg.WAY_CMP_PUSH⟩

/-- A field that a register's reset word holds at its reset value, in unit u's copy of the register. -/
theorem resetWord_wc {u : Nat} {f : Fld} {d : RegDef} (hd : findDef (wc f u).blk (wc f u).off = some d)
    (hr : getBits (d.fields.foldl (fun w f => putBits w f.hi f.lo f.rst) 0) f.hi f.lo = f.rst) :
    getBits (resetWord (wc f u).blk (wc f u).off) (wc f u).hi (wc f u).lo = (wc f u).rst := by
  rw [resetWord, hd]
  exact hr

/-- A write of one field of a unit's status leaves the others alone. -/
theorem State.rf_wf_cmpStatus (s : State) {u : Nat} (hu : u < 16) {f g : Fld} (v : Nat) (hf : f ∈ Reg.WAY_CMP_STATUS.fields)
    (hg : g ∈ Reg.WAY_CMP_STATUS.fields) (h : f.hi < g.lo ∨ g.hi < f.lo) : (s.wf 0 (wc f u) v).rf 0 (wc g u) = s.rf 0 (wc g u) := by
  have status : ∀ x ∈ Reg.WAY_CMP_STATUS.fields, x.blk = .WAY ∧ x.off = 0x804 ∧
      getBits (Reg.WAY_CMP_STATUS.fields.foldl (fun w f => putBits w f.hi f.lo f.rst) 0) x.hi x.lo = x.rst := by decide
  obtain ⟨fb, fo, -⟩ := status f hf
  obtain ⟨gb, go, gr⟩ := status g hg
  have go' : (wc g u).off = 0x804 + 0x40 * u := congrArg (· + 0x40 * u) go
  have fo' : (wc f u).off = 0x804 + 0x40 * u := congrArg (· + 0x40 * u) fo
  have hd : findDef (wc g u).blk (wc g u).off = some Reg.WAY_CMP_STATUS := by
    rw [show (wc g u).blk = .WAY from gb, go', findDef_cmpStatus hu]
  exact State.rf_wf_bits s 0 v (gb.trans fb.symm) (go'.trans fo'.symm) (resetWord_wc hd gr) h

/-! ### A compare unit's own state -/

theorem lmod_getD_same {α : Type} (l : List α) (n : Nat) (f : α → α) (d : α) (h : n < l.length) : (lmod l n f).getD n d = f (l.getD n d) := by
  induction l generalizing n with
  | nil => exact absurd h (Nat.not_lt_zero n)
  | cons x t ih =>
    cases n with
    | zero => rfl
    | succ n => simpa [lmod] using ih n (Nat.lt_of_succ_lt_succ h)

theorem State.cmp_cmpSet_same (s : State) {u : Nat} (c : CmpUnit) (h : u < s.way.cmps.length) : (s.cmpSet u c).cmp u = c :=
  lmod_getD_same s.way.cmps u (fun _ => c) CmpUnit.fresh h

/-- DEPTH counts the queue (R162). -/
theorem State.rf_cmpSet_depth (s : State) (u : Nat) (c : CmpUnit) :
    (s.cmpSet u c).rf 0 (wc Reg.WAY_CMP_STATUS_DEPTH u) = c.queue.length % 16 := by
  unfold State.cmpSet
  exact State.rf_wf_same _ 0 _ _ (by decide : 3 < 32)

/-- Setting a unit changes no register but its status. -/
theorem State.rf_cmpSet_other (s : State) (u : Nat) (c : CmpUnit) (i : Nat) {g : Fld}
    (h : g.blk ≠ .WAY ∨ g.off % 1048576 ≠ (0x804 + 0x40 * u) % 1048576) : (s.cmpSet u c).rf i g = s.rf i g := by
  unfold State.cmpSet
  exact State.rf_wf_reg _ _ (h.imp_right .inr)

/-- Inserting a target adds it to the queue and nothing else. -/
theorem cmpInsert_perm (dir : Nat) (x : CmpTarget) (l : List CmpTarget) : (cmpInsert dir x l).Perm (x :: l) := by
  induction l with
  | nil => exact List.Perm.refl _
  | cons y t ih =>
    rw [cmpInsert]
    generalize (if dir = 1 then decide (y.pos < x.pos) else decide (x.pos < y.pos)) = before
    cases before with
    | true => exact List.Perm.refl _
    | false => exact (ih.cons y).trans (List.Perm.swap x y t)

theorem cmpInsert_length (dir : Nat) (x : CmpTarget) (l : List CmpTarget) : (cmpInsert dir x l).length = l.length + 1 :=
  (cmpInsert_perm dir x l).length_eq

theorem mem_cmpInsert (dir : Nat) (x : CmpTarget) (l : List CmpTarget) : x ∈ cmpInsert dir x l :=
  (cmpInsert_perm dir x l).mem_iff.mpr List.mem_cons_self

/-! ### Push and flush (R13, R162) -/

/-- A push into a queue with room inserts its target. -/
theorem State.cmpPush_room (s : State) {u : Nat} (pos : Int) (tag : Nat) (h : (s.cmp u).queue.length < 8) :
    ∃ c late, s.cmpPush u pos tag = s.cmpSet u c ∧
      c.queue = cmpInsert (s.rf 0 (wc Reg.WAY_CMP_CTL_DIR u)) ⟨pos, tag, late, s.tickNo⟩ (s.cmp u).queue := by
  unfold State.cmpPush
  simp only [if_neg (Nat.not_le.mpr h)]
  exact ⟨_, _, rfl, rfl⟩

/-- A push to a full queue is counted (R162). -/
theorem State.cmpPush_full (s : State) {u : Nat} (pos : Int) (tag : Nat) (h : 8 ≤ (s.cmp u).queue.length) :
    s.cmpPush u pos tag =
      State.edges s [6] ((s.wf 0 (wc Reg.WAY_CMP_STATUS_FULL u) 1).inc 0 (wc Reg.WAY_CMP_STATUS_DROPS u)) := by
  unfold State.cmpPush
  exact if_pos h

/-- PUSH without FLUSH pushes the target of WAY_CMP_TARGET. -/
theorem State.actCmpPush_push (s : State) (u : Nat) {w : Word} (h : Reg.WAY_CMP_PUSH_FLUSH.of w = 0) :
    s.actCmpPush u (w ||| maskBits 31 31) = s.cmpPush u (s.rf64 0 (wc Reg.WAY_CMP_TARGET_LO_NM u)) (getBits w 15 0) := by
  have flush : (w ||| maskBits 31 31).toNat.testBit 30 = false := by
    rw [testBit_eq_getBits, getBits_or_maskBits_other w (by decide), show getBits w 30 30 = 0 from h]
    rfl
  have push : (w ||| maskBits 31 31).toNat.testBit 31 = true := by
    rw [testBit_eq_getBits, getBits_or_maskBits_same w (by decide)]
    rfl
  simp only [State.actCmpPush, flush, push, Bool.false_eq_true, if_false, if_true, getBits_or_maskBits_other w (show 31 < 0 ∨ 15 < 31 by decide)]

/-- FLUSH without PUSH empties the queue. -/
theorem State.actCmpPush_flush (s : State) (u : Nat) {w : Word} (h : Reg.WAY_CMP_PUSH_PUSH.of w = 0) :
    s.actCmpPush u (w ||| maskBits 30 30) = s.cmpSet u { s.cmp u with queue := [], above := false } := by
  have flush : (w ||| maskBits 30 30).toNat.testBit 30 = true := by
    rw [testBit_eq_getBits, getBits_or_maskBits_same w (by decide)]
    rfl
  have push : (w ||| maskBits 30 30).toNat.testBit 31 = false := by
    rw [testBit_eq_getBits, getBits_or_maskBits_other w (by decide), show getBits w 31 31 = 0 from h]
    rfl
  simp only [State.actCmpPush, flush, push, Bool.false_eq_true, if_false, if_true]

/-- COMPARE_PUSH reaches its register: the access codes, then the push. -/
theorem exec_comparePush {s : State} (hr : Reaches s .WAY 0) (m : Nat) {u : Nat} (hu : u < 16) (w : Word) :
    exec (.comparePush m u w) s =
      .next ((s.codeWrite m (cmpPushLoc u) (w ||| maskBits 31 31)).actCmpPush u (w ||| maskBits 31 31)) := by
  change execComparePush m u w s = _
  rw [execComparePush, Nat.mod_eq_of_lt hu, State.regAct_run s m 0 _ w _ hr (findDef_cmpPush hu)]
  rfl

/-- COMPARE_FLUSH reaches its register: the access codes, then the flush. -/
theorem exec_compareFlush {s : State} (hr : Reaches s .WAY 0) (m : Nat) {u : Nat} (hu : u < 16) (w : Word) :
    exec (.compareFlush m u w) s =
      .next ((s.codeWrite m (cmpPushLoc u) (w ||| maskBits 30 30)).actCmpPush u (w ||| maskBits 30 30)) := by
  change execCompareFlush m u w s = _
  rw [execCompareFlush, Nat.mod_eq_of_lt hu, State.regAct_run s m 0 _ w _ hr (findDef_cmpPush hu)]
  rfl

/-- A write to WAY_CMP_PUSH leaves every field of another Waywiser register alone. -/
theorem State.rf_pushWrite (s : State) (m u : Nat) (w : Word) {f : Fld} (hb : f.blk = .WAY)
    (h : f.off % 1048576 ≠ (0x810 + 0x40 * u) % 1048576) : (s.codeWrite m (cmpPushLoc u) w).rf 0 f = s.rf 0 f :=
  State.rf_codeWrite_other s m _ w 0 (by rw [hb]; decide) (.inr (.inr h))

/-- A write to WAY_CMP_PUSH leaves the unit's WAY_CMP_TARGET alone. -/
theorem State.target_pushWrite (s : State) (m u : Nat) (w : Word) :
    (s.codeWrite m (cmpPushLoc u) w).rf64 0 (wc Reg.WAY_CMP_TARGET_LO_NM u) = s.rf64 0 (wc Reg.WAY_CMP_TARGET_LO_NM u) := by
  refine State.rf64_congr ?_ ?_
  · exact State.rf_pushWrite s m u w rfl (show (0x808 + 0x40 * u) % 1048576 ≠ _ by omega)
  · exact State.word_codeWrite_other s m _ w (show Blk.WAY ≠ .YOK by decide)
      (.inr (.inr (show (0x808 + 0x40 * u + 4) % 1048576 ≠ (0x810 + 0x40 * u) % 1048576 by omega)))

/-- A push into a queue with room queues the target with its tag. -/
theorem comparePush_room {s : State} (hr : Reaches s .WAY 0) (m : Nat) {u : Nat} (hu : u < 16) {w : Word} (hw : Reg.WAY_CMP_PUSH_FLUSH.of w = 0)
    (hq : (s.cmp u).queue.length < 8) : Completes (.comparePush m u w) s (fun t =>
      t.rf 0 (wc Reg.WAY_CMP_STATUS_DEPTH u) = (s.cmp u).queue.length + 1 ∧
      (u < s.way.cmps.length → ∃ x ∈ (t.cmp u).queue, x.pos = s.rf64 0 (wc Reg.WAY_CMP_TARGET_LO_NM u) ∧
        x.tag = getBits w 15 0 ∧ x.since = s.tickNo)) := by
  refine ⟨_, exec_comparePush hr m hu w, ?_⟩
  rw [State.actCmpPush_push _ u hw, State.target_pushWrite s m u]
  have queue := State.cmp_codeWrite s m (cmpPushLoc u) (w ||| maskBits 31 31) u
  have tick := State.tickNo_codeWrite s m (cmpPushLoc u) (w ||| maskBits 31 31)
  have way := State.codeWrite_way s m (cmpPushLoc u) (w ||| maskBits 31 31)
  generalize s.codeWrite m (cmpPushLoc u) (w ||| maskBits 31 31) = s1 at queue tick way ⊢
  obtain ⟨c, late, ht, hc⟩ := s1.cmpPush_room (s.rf64 0 (wc Reg.WAY_CMP_TARGET_LO_NM u)) (getBits w 15 0) (queue ▸ hq)
  rw [queue] at hc
  rw [ht]
  dsimp only
  rw [State.rf_cmpSet_depth, hc, cmpInsert_length]
  refine ⟨by omega, fun hl => ?_⟩
  rw [State.cmp_cmpSet_same s1 c (way ▸ hl), hc]
  exact ⟨_, mem_cmpInsert _ _ _, rfl, rfl, tick⟩

/-- A saturating counter of 16 bits that counts one more. -/
theorem satN_succ_mod (n : Nat) : satN 65535 (n + 1) % 65536 = Nat.min 65535 (n + 1) := by
  unfold satN
  change _ = min 65535 (n + 1)
  split <;> omega

/-- A push to a full queue is refused and counted. -/
theorem comparePush_full {s : State} (hr : Reaches s .WAY 0) (m : Nat) {u : Nat} (hu : u < 16) {w : Word} (hw : Reg.WAY_CMP_PUSH_FLUSH.of w = 0)
    (hq : 8 ≤ (s.cmp u).queue.length) : Completes (.comparePush m u w) s (fun t => t.way = s.way ∧
      t.rf 0 (wc Reg.WAY_CMP_STATUS_FULL u) = 1 ∧
      t.rf 0 (wc Reg.WAY_CMP_STATUS_DROPS u) = Nat.min 65535 (s.rf 0 (wc Reg.WAY_CMP_STATUS_DROPS u) + 1)) := by
  refine ⟨_, exec_comparePush hr m hu w, ?_⟩
  have queue := State.cmp_codeWrite s m (cmpPushLoc u) (w ||| maskBits 31 31) u
  have way := State.codeWrite_way s m (cmpPushLoc u) (w ||| maskBits 31 31)
  have drops : (s.codeWrite m (cmpPushLoc u) (w ||| maskBits 31 31)).rf 0 (wc Reg.WAY_CMP_STATUS_DROPS u) =
      s.rf 0 (wc Reg.WAY_CMP_STATUS_DROPS u) := State.rf_pushWrite s m u _ rfl (show (0x804 + 0x40 * u) % 1048576 ≠ _ by omega)
  rw [State.actCmpPush_push _ u hw, State.cmpPush_full _ _ _ (queue ▸ hq), State.inc, State.add]
  dsimp only
  rw [State.rf_edges, State.rf_edges]
  refine ⟨?_, ?_, ?_⟩
  · exact (Eq.symm ((State.edges_keeps _ _ _).same .way rfl)).trans way
  · rw [State.rf_wf_cmpStatus _ hu _ (by decide) (by decide) (by decide), State.rf_wf_same _ _ _ _ (by decide : 10 < 32)]
    rfl
  · rw [State.rf_wf_same _ _ _ _ (by decide : 31 < 32), State.rf_wf_cmpStatus _ hu _ (by decide) (by decide) (by decide), drops]
    exact satN_succ_mod _

/-- A flush empties the queue. -/
theorem compareFlush_empties {s : State} (hr : Reaches s .WAY 0) (m : Nat) {u : Nat} (hu : u < 16) {w : Word} (hw : Reg.WAY_CMP_PUSH_PUSH.of w = 0) :
    Completes (.compareFlush m u w) s (fun t => t.rf 0 (wc Reg.WAY_CMP_STATUS_DEPTH u) = 0) := by
  refine ⟨_, exec_compareFlush hr m hu w, ?_⟩
  rw [State.actCmpPush_flush _ u hw]
  exact State.rf_cmpSet_depth _ u _

/-! ### What a position is made of (R153, R158) -/

/-- Two states agree on the ports and the web offset, on time, on the port registers and on the power state. -/
structure SamePosition (s t : State) : Prop where
  ports : t.way.ports = s.way.ports
  offset : t.way.offset = s.way.offset
  tmt : t.tmt = s.tmt
  ways : ∀ o, o < 0x800 → cget t.regs (regKey .WAY 0 o) = cget s.regs (regKey .WAY 0 o)
  pwr : ∀ o, cget t.regs (regKey .PWR 0 o) = cget s.regs (regKey .PWR 0 o)

namespace SamePosition

variable {s t : State} (h : SamePosition s t)
include h

/-- A field of the Waywiser below its compare units. -/
theorem rf_way {f : Fld} (hb : f.blk = .WAY) (ho : f.off < 0x800) : t.rf 0 f = s.rf 0 f := by
  unfold State.rf
  rw [hb, h.ways _ ho]

theorem word_way {o : Nat} (ho : o < 0x800) : t.word .WAY 0 o = s.word .WAY 0 o := by
  unfold State.word cgetD
  rw [h.ways _ ho]

theorem rf_pwr {f : Fld} (hb : f.blk = .PWR) : t.rf 0 f = s.rf 0 f := by
  unfold State.rf
  rw [hb, h.pwr]

theorem port (p : Nat) : t.port p = s.port p := by
  unfold State.port
  rw [h.ports]

theorem asleep : t.asleep = s.asleep := by
  unfold State.asleep
  rw [h.rf_pwr rfl, h.rf_pwr rfl]

theorem sampleNs : t.sampleNs = s.sampleNs := by
  unfold State.sampleNs
  rw [h.tmt]

theorem edgeNs (p : Nat) : t.edgeNs p = s.edgeNs p := by
  unfold State.edgeNs
  rw [h.port, h.sampleNs]

theorem npc {p : Nat} (hp : p < 4) : t.npc p = s.npc p := by
  exact congrArg Nat.cast (State.rf64_congr (lo := wp Reg.WAY_NPC_LO_FRAC p) (h.rf_way rfl (show 0x130 + 0x100 * p < 0x800 by omega))
    (h.word_way (show 0x130 + 0x100 * p + 4 < 0x800 by omega)))

theorem ext {p : Nat} (hp : p < 4) : t.ext p = s.ext p := by
  unfold State.ext State.rev State.cpr State.count
  rw [h.rf_way (f := wp Reg.WAY_REV_REV p) rfl (show 0x118 + 0x100 * p < 0x800 by omega),
    h.rf_way (f := wp Reg.WAY_CPR_CPR_M1 p) rfl (show 0x11C + 0x100 * p < 0x800 by omega),
    h.rf_way (f := wp Reg.WAY_COUNT_COUNT p) rfl (show 0x114 + 0x100 * p < 0x800 by omega)]

theorem countedPos {p : Nat} (hp : p < 4) : t.countedPos p = s.countedPos p := by
  unfold State.countedPos
  rw [h.port, h.ext hp, h.npc hp]

theorem posQ {p : Nat} (hp : p < 4) : t.posQ p = s.posQ p := by
  have mode : t.rf 0 (wp Reg.WAY_CFG_MODE p) = s.rf 0 (wp Reg.WAY_CFG_MODE p) := h.rf_way rfl (show 0x100 + 0x100 * p < 0x800 by omega)
  unfold State.posQ State.posRaw
  rw [h.asleep, h.countedPos hp, h.port, h.edgeNs, h.sampleNs, mode, h.npc hp]

end SamePosition

/-- A field of two bits reads below 4. -/
theorem State.rf_lt_four (s : State) (i : Nat) {f : Fld} (hw : f.hi + 1 - f.lo = 2) (hr : f.rst = 0) : s.rf i f < 4 := by
  unfold State.rf
  split
  · unfold getBits
    rw [hw]
    exact Nat.mod_lt _ (by decide)
  · omega

theorem SamePosition.webQ {s t : State} (h : SamePosition s t) : t.webQ = s.webQ := by
  have master : t.webPort = s.webPort := h.rf_way rfl (by decide)
  have lt : s.webPort < 4 := s.rf_lt_four 0 (f := Reg.WAY_MASTER_PORT) rfl rfl
  unfold State.webQ
  rw [master, h.offset, h.posQ lt]

/-- The position that a unit watches, where the unit watches the same port. -/
theorem SamePosition.cmpPos {s t : State} (h : SamePosition s t) {u : Nat}
    (web : t.rf 0 (wc Reg.WAY_CMP_CTL_WEB u) = s.rf 0 (wc Reg.WAY_CMP_CTL_WEB u))
    (port : t.rf 0 (wc Reg.WAY_CMP_CTL_PORT u) = s.rf 0 (wc Reg.WAY_CMP_CTL_PORT u)) : (t.cmpPos u).1 = (s.cmpPos u).1 := by
  unfold State.cmpPos State.rb
  rw [web, port]
  split
  · exact h.webQ
  · exact h.posQ (s.rf_lt_four 0 rfl rfl)

/-- Setting a unit and showing pins moves no position. -/
theorem State.samePosition_cmpSet_gioShow (s old : State) {u : Nat} (hu : u < 16) (c : CmpUnit) (pins : List Nat) :
    SamePosition s ((s.cmpSet u c).gioShow old pins) := by
  have shown := State.gioShow_keeps (s.cmpSet u c) old pins
  have way := State.gioShow_way (s.cmpSet u c) old pins
  refine ⟨by rw [way]; rfl, by rw [way]; rfl, Eq.symm (shown.same .tmt rfl), fun o ho => ?_, fun o => ?_⟩
  · rw [← shown.regs .WAY rfl _ (keyBlk_regKey _ _ _)]
    exact cget_cset_other _ _ (regKey_ne (.inr (.inr (show o % 1048576 ≠ (0x804 + 0x40 * u) % 1048576 by omega))))
  · rw [← shown.regs .PWR rfl _ (keyBlk_regKey _ _ _)]
    exact cget_cset_other _ _ (regKey_ne (.inl (show Blk.PWR ≠ .WAY by decide)))

/-! ### Enable (R162) -/

/-- COMPARE_ENABLE reaches its register: the access codes, then what the new control word does. -/
theorem exec_compareEnable {s : State} (hr : Reaches s .WAY 0) (m : Nat) {u : Nat} (hu : u < 16) (w : Word) :
    exec (.compareEnable m u w) s = .next ((s.codeWrite m (cmpCtlLoc u) (w ||| maskBits 0 0)).actCmpCtl u s) := by
  change execCompareEnable m u w s = _
  rw [execCompareEnable, Nat.mod_eq_of_lt hu, State.regAct_run s m 0 _ w _ hr (findDef_cmpCtl hu)]
  rfl

/-- A new control word sets the unit's queue and shows its pins. -/
theorem State.actCmpCtl_eq (s : State) (u : Nat) (old : State) :
    ∃ c, s.actCmpCtl u old = (s.cmpSet u c).gioShow old (gioNamed [old, s] 0 u) ∧
      ∀ x, (s.cmp u).queue = [x] → s.rb 0 (wc Reg.WAY_CMP_CTL_ENABLE u) = true → old.rb 0 (wc Reg.WAY_CMP_CTL_ENABLE u) = false →
        c.queue = [{ x with late := beyond (s.rf 0 (wc Reg.WAY_CMP_CTL_DIR u)) (s.cmpPos u).1 (x.pos * nmQ), since := s.tickNo }] := by
  refine ⟨_, rfl, fun x hq new was => ?_⟩
  simp only [hq, List.foldl_cons, List.foldl_nil, cmpInsert, new, was, Bool.not_false, Bool.and_self, if_true]

/-- A field of WAY_CMP_CTL reads what a write gives it: every field of the register is RW. -/
theorem State.rf_ctlWrite (s : State) (m : Nat) {u : Nat} (hu : u < 16) (w : Word) {f : Fld} (hf : f ∈ Reg.WAY_CMP_CTL.fields) :
    (s.codeWrite m (cmpCtlLoc u) w).rf 0 (wc f u) = getBits w f.hi f.lo := by
  have ctl : ∀ x ∈ Reg.WAY_CMP_CTL.fields, x.blk = .WAY ∧ x.off = 0x800 ∧ x.hi < 32 ∧
      getBits (Reg.WAY_CMP_CTL.fields.foldl (fun w f => putBits w f.hi f.lo f.rst) 0) x.hi x.lo = x.rst ∧
      Reg.WAY_CMP_CTL.maskAcc .RW &&& maskBits x.hi x.lo = maskBits x.hi x.lo ∧
      (Reg.WAY_CMP_CTL.maskAcc .W1C ||| Reg.WAY_CMP_CTL.maskAcc .W1S) &&& maskBits x.hi x.lo = 0#32 := by decide
  obtain ⟨fb, fo, fh, fr, rw1, rw2⟩ := ctl f hf
  have off : (wc f u).off = 0x800 + 0x40 * u := congrArg (· + 0x40 * u) fo
  have hd : findDef (wc f u).blk (wc f u).off = some Reg.WAY_CMP_CTL := by
    rw [show (wc f u).blk = .WAY from fb, off, findDef_cmpCtl hu]
  exact State.rf_codeWrite_rw s m (cmpCtlLoc u) w (show Blk.WAY ≠ .YOK by decide) fb off (resetWord_wc hd fr) rw1 rw2 fh

/-- ENABLE arms the head, late if the position has reached it. -/
theorem compareEnable_arms {s : State} (hr : Reaches s .WAY 0) (m : Nat) {u : Nat} (hu : u < 16) (w : Word) :
    Completes (.compareEnable m u w) s (fun t => t.rf 0 (wc Reg.WAY_CMP_CTL_ENABLE u) = 1 ∧
      t.rf 0 (wc Reg.WAY_CMP_CTL_DIR u) = Reg.WAY_CMP_CTL_DIR.of w ∧
      (∀ x, u < s.way.cmps.length → (s.cmp u).queue = [x] → s.rf 0 (wc Reg.WAY_CMP_CTL_ENABLE u) = 0 →
        (t.cmp u).queue = [{ x with late := beyond (Reg.WAY_CMP_CTL_DIR.of w) (t.cmpPos u).1 (x.pos * nmQ), since := s.tickNo }])) := by
  refine ⟨_, exec_compareEnable hr m hu w, ?_⟩
  have enable := (State.rf_ctlWrite s m hu (w ||| maskBits 0 0) (f := Reg.WAY_CMP_CTL_ENABLE) (by decide)).trans
    (getBits_or_maskBits_same w (by decide))
  have dir := (State.rf_ctlWrite s m hu (w ||| maskBits 0 0) (f := Reg.WAY_CMP_CTL_DIR) (by decide)).trans
    (getBits_or_maskBits_other w (by decide))
  have queue := State.cmp_codeWrite s m (cmpCtlLoc u) (w ||| maskBits 0 0) u
  have tick := State.tickNo_codeWrite s m (cmpCtlLoc u) (w ||| maskBits 0 0)
  have way := State.codeWrite_way s m (cmpCtlLoc u) (w ||| maskBits 0 0)
  generalize s.codeWrite m (cmpCtlLoc u) (w ||| maskBits 0 0) = s1 at enable dir queue tick way ⊢
  obtain ⟨c, ht, arm⟩ := s1.actCmpCtl_eq u s
  have ctl : ∀ f, f.blk = .WAY → f.off = 0x800 → (s1.actCmpCtl u s).rf 0 (wc f u) = s1.rf 0 (wc f u) := fun f hb ho => by
    rw [ht, State.rf_gioShow]
    refine State.rf_cmpSet_other s1 u c 0 (.inr ?_)
    change (f.off + 0x40 * u) % 1048576 ≠ _
    omega
  refine ⟨(ctl _ rfl rfl).trans enable, (ctl _ rfl rfl).trans dir, fun x hl hq was => ?_⟩
  have pos : ((s1.actCmpCtl u s).cmpPos u).1 = (s1.cmpPos u).1 :=
    SamePosition.cmpPos (ht ▸ s1.samePosition_cmpSet_gioShow s hu c _) (ctl _ rfl rfl) (ctl _ rfl rfl)
  have armed := arm x (queue ▸ hq) (beq_iff_eq.mpr enable) (beq_eq_false_iff_ne.mpr (by rw [was]; decide))
  rw [pos, State.cmp, ht, State.gioShow_way, ← State.cmp, State.cmp_cmpSet_same s1 c (way ▸ hl), armed, dir, tick]
  rfl

/-! ### Fire (R162, R163) -/

/-- A pulse of a compare unit sets its PULSE bit, and no other register changes. -/
theorem State.rf_gioStart_cmp (s : State) (idx us i : Nat) (g : Fld) :
    (s.gioStart 0 idx us).rf i g = (s.wf 0 (wc Reg.WAY_CMP_STATUS_PULSE idx) 1).rf i g := by
  unfold State.gioStart
  rw [State.rf_gioShow, if_pos rfl]
  rfl

/-- What a fire records of its head target: the unit's queue, position, instant and tag, FIRED and for a late target LATE. -/
def State.cmpRecord (s : State) (u : Nat) (c : CmpUnit) (x : CmpTarget) : State :=
  let s1 := (((((s.cmpSet u c).wf64 0 (wc Reg.WAY_CMP_FIRED_POS_LO_NM u) (unsgn 64 (rne (s.cmpPos u).1 4294967296))).wf64 0
    (wc Reg.WAY_CMP_FIRED_TIME_LO_NS u) s.now).wf 0 (wc Reg.WAY_CMP_FIRED_TAG_TAG u) x.tag).wf 0 (wc Reg.WAY_CMP_STATUS_FIRED u) 1)
  if x.late then s1.wf 0 (wc Reg.WAY_CMP_STATUS_LATE u) 1 else s1

/-- The enabled actions of a fire: a GIO pulse, a Rein event awake, a wake (R162). `old` is the state before the fire. -/
def State.cmpActs (s old : State) (u : Nat) : State :=
  let s1 := if old.rb 0 (wc Reg.WAY_CMP_CTL_GIO_EN u) then s.gioStart 0 u (old.rf 0 (wc Reg.WAY_CMP_CTL_WIDTH_US u)) else s
  let s2 := if old.rb 0 (wc Reg.WAY_CMP_CTL_REIN u) ∧ !old.asleep then s1.reinRaise 0 0xF001 u 1 else s1
  if old.rb 0 (wc Reg.WAY_CMP_CTL_WAKE u) then s2.wakeSource 2 u else s2

/-- Whether the next head stands below the position one sample before: what a DIR 2 unit arms it with (R162). -/
def State.nextAbove (s : State) (u : Nat) (r : List CmpTarget) : Bool :=
  match r with
  | n :: _ => decide (n.pos * nmQ < (s.cmpPos u).2)
  | [] => false

/-- COMPARE_FIRE of a reached head records it and takes the actions. -/
theorem exec_compareFire_reached {s : State} {u : Nat} (hu : u < 16) {x : CmpTarget} {r : List CmpTarget} (hq : (s.cmp u).queue = x :: r)
    (hr : s.cmpReached u = true) :
    exec (.compareFire u) s = .next ((State.edges s [6] (s.cmpRecord u ⟨r, s.nextAbove u r, some s.tickNo⟩ x)).cmpActs s u) := by
  change execCompareFire u s = _
  unfold execCompareFire
  simp only [Nat.mod_eq_of_lt hu, hq, hr, Bool.not_true, Bool.false_eq_true, if_false]
  rfl

/-- COMPARE_FIRE does nothing where no head is reached. -/
theorem exec_compareFire_unreached {s : State} {u : Nat} (hu : u < 16) (hr : s.cmpReached u = false) : exec (.compareFire u) s = .next s := by
  change execCompareFire u s = _
  unfold execCompareFire
  simp only [Nat.mod_eq_of_lt hu, hr, Bool.not_false, if_true]
  split <;> rfl

/-- A unit that has fired in the present sample has no reached head (R162). -/
theorem State.cmpReached_of_fired {s : State} {u : Nat} (h : (s.cmp u).fired = some s.tickNo) : s.cmpReached u = false := by
  unfold State.cmpReached
  extract_lets c dir
  split
  · rfl
  · simp [c, h]

/-- The actions of a fire leave the unit's registers alone, but for PULSE. -/
theorem State.rf_cmpActs (s old : State) (u : Nat) {g : Fld} (hb : g.blk = .WAY)
    (hp : (s.wf 0 (wc Reg.WAY_CMP_STATUS_PULSE u) 1).rf 0 g = s.rf 0 g) : (s.cmpActs old u).rf 0 g = s.rf 0 g := by
  unfold State.cmpActs
  extract_lets s1 s2
  have pulse : s1.rf 0 g = s.rf 0 g := by
    unfold s1
    split
    · rw [State.rf_gioStart_cmp, hp]
    · rfl
  have event : s2.rf 0 g = s.rf 0 g := by
    unfold s2
    split
    · rw [State.rf_reinRaise_way _ _ _ _ _ _ hb, pulse]
    · exact pulse
  split
  · rw [State.rf_wakeSource_way _ _ _ _ hb, event]
  · exact event

/-- A field of the unit's status other than PULSE is after vector 6 and the actions as the record left it. -/
theorem State.rf_cmpActs_status (s old : State) {u : Nat} (hu : u < 16) {f : Fld} (hf : f ∈ Reg.WAY_CMP_STATUS.fields) (hb : f.blk = .WAY)
    (apart : Reg.WAY_CMP_STATUS_PULSE.hi < f.lo ∨ f.hi < Reg.WAY_CMP_STATUS_PULSE.lo) :
    ((State.edges old [6] s).cmpActs old u).rf 0 (wc f u) = s.rf 0 (wc f u) := by
  rw [State.rf_cmpActs (g := wc f u) _ _ _ hb (State.rf_wf_cmpStatus _ hu _ (by decide) hf apart), State.rf_edges]

/-- A 64-bit store leaves the fields of other registers alone. -/
theorem State.rf_wf64_other (s : State) (i j : Nat) {f g : Fld} (v : Nat) (h1 : g.off % 1048576 ≠ f.off % 1048576)
    (h2 : g.off % 1048576 ≠ (f.off + 4) % 1048576) : (s.wf64 i f v).rf j g = s.rf j g := by
  unfold State.wf64
  rw [State.rf_setWord_other _ _ (.inr (.inr h2)), State.rf_setWord_other _ _ (.inr (.inr h1))]

theorem State.rf_cmpRecord_fired (s : State) {u : Nat} (hu : u < 16) (c : CmpUnit) (x : CmpTarget) :
    (s.cmpRecord u c x).rf 0 (wc Reg.WAY_CMP_STATUS_FIRED u) = 1 := by
  unfold State.cmpRecord
  extract_lets s1
  have fired : s1.rf 0 (wc Reg.WAY_CMP_STATUS_FIRED u) = 1 := State.rf_wf_same _ 0 _ 1 (by decide : 8 < 32)
  split
  · rw [State.rf_wf_cmpStatus _ hu _ (by decide) (by decide) (by decide), fired]
  · exact fired

theorem State.rf_cmpRecord_tag (s : State) (u : Nat) (c : CmpUnit) (x : CmpTarget) :
    (s.cmpRecord u c x).rf 0 (wc Reg.WAY_CMP_FIRED_TAG_TAG u) = x.tag % 65536 := by
  unfold State.cmpRecord
  extract_lets s1
  have apart : (0x81C + 0x40 * u) % 1048576 ≠ (0x804 + 0x40 * u) % 1048576 := by omega
  have tag : s1.rf 0 (wc Reg.WAY_CMP_FIRED_TAG_TAG u) = x.tag % 65536 :=
    (State.rf_wf_reg _ _ (.inr (.inr apart))).trans (State.rf_wf_same _ 0 _ _ (by decide : 15 < 32))
  split
  · exact (State.rf_wf_reg _ _ (.inr (.inr apart))).trans tag
  · exact tag

theorem State.rf_cmpRecord_depth (s : State) {u : Nat} (hu : u < 16) (c : CmpUnit) (x : CmpTarget) :
    (s.cmpRecord u c x).rf 0 (wc Reg.WAY_CMP_STATUS_DEPTH u) = c.queue.length % 16 := by
  unfold State.cmpRecord
  extract_lets s1
  have depth : s1.rf 0 (wc Reg.WAY_CMP_STATUS_DEPTH u) = c.queue.length % 16 := by
    unfold s1
    rw [State.rf_wf_cmpStatus _ hu _ (by decide) (by decide) (by decide),
      State.rf_wf_reg _ _ (.inr (.inr (show (0x804 + 0x40 * u) % 1048576 ≠ (0x81C + 0x40 * u) % 1048576 by omega))),
      State.rf_wf64_other _ _ _ _ (show (0x804 + 0x40 * u) % 1048576 ≠ (0x820 + 0x40 * u) % 1048576 by omega)
        (show (0x804 + 0x40 * u) % 1048576 ≠ (0x820 + 0x40 * u + 4) % 1048576 by omega),
      State.rf_wf64_other _ _ _ _ (show (0x804 + 0x40 * u) % 1048576 ≠ (0x814 + 0x40 * u) % 1048576 by omega)
        (show (0x804 + 0x40 * u) % 1048576 ≠ (0x814 + 0x40 * u + 4) % 1048576 by omega), State.rf_cmpSet_depth]
  split
  · rw [State.rf_wf_cmpStatus _ hu _ (by decide) (by decide) (by decide), depth]
  · exact depth

theorem State.rf_cmpRecord_late (s : State) (u : Nat) (c : CmpUnit) {x : CmpTarget} (h : x.late = true) :
    (s.cmpRecord u c x).rf 0 (wc Reg.WAY_CMP_STATUS_LATE u) = 1 := by
  unfold State.cmpRecord
  rw [if_pos h]
  exact State.rf_wf_same _ 0 _ 1 (by decide : 9 < 32)

/-- A reached head fires, leaves the queue, and leaves its tag. -/
theorem compareFire_fires {s : State} {u : Nat} (hu : u < 16) {x : CmpTarget} {r : List CmpTarget} (hq : (s.cmp u).queue = x :: r)
    (hr : s.cmpReached u = true) : Completes (.compareFire u) s (fun t =>
      t.rf 0 (wc Reg.WAY_CMP_STATUS_FIRED u) = 1 ∧ t.rf 0 (wc Reg.WAY_CMP_FIRED_TAG_TAG u) = x.tag % 65536 ∧
      t.rf 0 (wc Reg.WAY_CMP_STATUS_DEPTH u) = r.length % 16 ∧ (x.late = true → t.rf 0 (wc Reg.WAY_CMP_STATUS_LATE u) = 1)) := by
  refine ⟨_, exec_compareFire_reached hu hq hr, ?_, ?_, ?_, fun late => ?_⟩
  · rw [State.rf_cmpActs_status _ s hu (by decide) rfl (by decide), s.rf_cmpRecord_fired hu]
  · rw [State.rf_cmpActs _ _ _ rfl (State.rf_wf_reg _ _ (.inr (.inr (show (0x81C + 0x40 * u) % 1048576 ≠ (0x804 + 0x40 * u) % 1048576 by omega)))),
      State.rf_edges, s.rf_cmpRecord_tag]
  · rw [State.rf_cmpActs_status _ s hu (by decide) rfl (by decide), s.rf_cmpRecord_depth hu]
  · rw [State.rf_cmpActs_status _ s hu (by decide) rfl (by decide), s.rf_cmpRecord_late u _ late]

/-! ### The end of a pulse (R163) -/

/-- A pulse that has lasted its width ends. -/
theorem gioPulseEnd_ends {s : State} {src idx : Nat} {q : GioPulse} (hq : q ∈ s.way.pulses) (hs : q.src = src) (hi : q.idx = idx)
    (ht : q.til ≤ s.monoNs) : Completes (.gioPulseEnd src idx) s (fun t =>
      t.way.pulses = s.way.pulses.filter (fun x => !(x.src == src && x.idx == idx)) ∧
      (src = 0 → idx < 16 → t.rf 0 (wc Reg.WAY_CMP_STATUS_PULSE idx) = 0)) := by
  refine ⟨_, rfl, ?_⟩
  split
  case h_1 none =>
    exact absurd (by simp [hs, hi, ht]) (List.find?_eq_none.mp none q hq)
  case h_2 =>
    refine ⟨?_, fun h0 _ => ?_⟩
    · rw [State.gioShow_way]
      split <;> rfl
    · rw [State.rf_gioShow, if_pos h0]
      exact State.rf_wf_same _ 0 _ 0 (by decide : 4 < 32)

/-- Settles O27: each clause is the lemma of its command, by what the unit's registers, queue and position hold after it. -/
theorem compareUnitsQueueFireAndPulse : Obligations.CompareUnitsQueueFireAndPulse := by
  unfold Obligations.CompareUnitsQueueFireAndPulse
  intro s m u src idx w hu
  refine ⟨fun hr => ⟨fun hw => ⟨comparePush_room hr m hu hw, comparePush_full hr m hu hw⟩, compareFlush_empties hr m hu,
      compareEnable_arms hr m hu w⟩,
    fun x r hq reached => compareFire_fires hu hq reached, fun fired => ⟨s, exec_compareFire_unreached hu (State.cmpReached_of_fired fired), rfl⟩,
    fun q hq hs hi ht => gioPulseEnd_ends hq hs hi ht⟩

end Sys2Proof.Machine
end

section
/-! What an access that reaches nothing leaves (R34, R310), and what a Fifth-wheel port that fails and a word over a working one leave (R21, R23,
R302, R478): statement O9. -/

namespace Sys2Proof.Machine

/-! ### What leaves the part -/

/-- What was sent last. -/
theorem State.getLast?_egress_emit (s : State) (k : EgKind) (unit : Nat) (body : List Nat) :
    (s.emit k unit body).egress.getLast? = some ⟨k, unit, body⟩ := by
  rw [State.emit_egress, List.getLast?_concat]

/-- A read's answer to the host changes no register. -/
theorem State.rf_hostReads (s : State) (m : Nat) (w : Word) (i : Nat) (f : Fld) : (s.hostReads m w).rf i f = s.rf i f :=
  (State.hostReads_keeps s m w).rf i f (by cases f.blk <;> rfl)

/-- The host's read completes with its data. -/
theorem State.getLast?_egress_hostReads (s : State) {m : Nat} (w : Word) (h : m = mHost) :
    (s.hostReads m w).egress.getLast? = some ⟨.hostRead, 0, [w.toNat]⟩ := by
  rw [State.hostReads, if_pos h, State.getLast?_egress_emit]

/-! ### What a G-code and a fabric error record (R422, R478, R482) -/

theorem State.rf_gcode_master (s : State) (d addr master : Nat) : (s.gcode d addr master).rf 0 Reg.GLB_ERR_MASTER_MASTER = master % 256 := by
  rw [State.rf_gcode, State.inc, State.add,
    State.rf_wf_bits _ _ (f := Reg.GLB_ERR_MASTER_COUNT) (g := Reg.GLB_ERR_MASTER_MASTER) _ rfl rfl (by decide) (by decide),
    State.rf_wf_same _ _ _ _ (by decide)]
  rfl

/-- A G-code changes no field outside GLB_ERR, GLB_ERR_ADDR and GLB_ERR_MASTER. -/
theorem State.rf_gcode_other (s : State) (d addr master i : Nat) {f : Fld} (h : ∀ o ∈ [0x100, 0x104, 0x108], f.off % 1048576 ≠ o) :
    (s.gcode d addr master).rf i f = s.rf i f := by
  have code : f.off % 1048576 ≠ 0x100 := h _ (by decide)
  have addrReg : f.off % 1048576 ≠ 0x104 := h _ (by decide)
  have masterReg : f.off % 1048576 ≠ 0x108 := h _ (by decide)
  rw [State.rf_gcode, State.inc, State.add, State.rf_wf_reg _ _ (.inr (.inr masterReg)), State.rf_wf_reg _ _ (.inr (.inr masterReg)),
    State.rf_wf_reg _ _ (.inr (.inr addrReg)), State.rf_wf_reg _ _ (.inr (.inr code))]

/-- A fabric error changes, outside the registers of its G-0054, GLB_FAB_ERR only. -/
theorem State.rf_fabErr (s : State) (code coach detail i : Nat) {f : Fld} (h : ∀ o ∈ [0x100, 0x104, 0x108], f.off % 1048576 ≠ o) :
    (s.fabErr code coach detail).rf i f = (s.wf 0 Reg.GLB_FAB_ERR_CODE code).rf i f := by
  rw [State.fabErr, State.rf_gcode_other _ _ _ _ _ h]
  exact (State.logFault_keeps _ _ _ _ _).rf i f (by cases f.blk <;> rfl)

theorem State.rf_fabErr_code (s : State) (code coach detail : Nat) : (s.fabErr code coach detail).rf 0 Reg.GLB_FAB_ERR_CODE = code % 2 ^ 32 := by
  rw [State.rf_fabErr _ _ _ _ _ (by decide), State.rf_wf_same _ _ _ _ (by decide)]
  rfl

theorem State.rf_fabErr_ports (s : State) (code coach detail : Nat) :
    (s.fabErr code coach detail).rf 0 Reg.GLB_FAB_PORTS_FAILED = s.rf 0 Reg.GLB_FAB_PORTS_FAILED := by
  rw [State.rf_fabErr _ _ _ _ _ (by decide), State.rf_wf_reg _ _ (by decide)]

/-! ### Unoccupied accesses (R34, R310) -/

/-- UNOCCUPIED_ACCESS, where nothing is: the G-code, and a read's answer. -/
theorem exec_unoccupiedAccess {s : State} {m off : Nat} {isWrite dram : Bool}
    (h : if dram then s.dramOpen off = false else s.noBlock m off = true) :
    exec (.unoccupiedAccess m off isWrite dram) s =
      .next (if isWrite then s.gcode 0x0010 off m else (s.gcode 0x0010 off m).hostReads m 0) := by
  have vacant : (if dram then s.dramOpen off else !s.noBlock m off) = false := by
    cases dram with
    | false => exact congrArg not h
    | true => exact h
  change execUnoccupiedAccess m off isWrite dram s = _
  rw [execUnoccupiedAccess, vacant]
  rfl

/-- The frame of UNOCCUPIED_ACCESS holds the registers of GLB only. -/
theorem unoccupiedAccess_frame_testBit {b : Blk} (h : b ≠ .GLB) : (0x10000000000040608).testBit (64 + b.code) = false := by
  cases b with
  | GLB => exact absurd rfl h
  | _ => rfl

/-- An access to what nothing occupies is recorded, answers a host's read with 0, and changes nothing else that it could reach. -/
theorem unoccupiedAccess_completes {s : State} {m off : Nat} {isWrite dram : Bool}
    (h : if dram then s.dramOpen off = false else s.noBlock m off = true) :
    Completes (.unoccupiedAccess m off isWrite dram) s (fun t =>
      t.rf 0 Reg.GLB_ERR_CODE = codeWord 'G' 0x0010 ∧ t.rf 0 Reg.GLB_ERR_ADDR_OFFSET = off % 2 ^ 32 ∧
      t.rf 0 Reg.GLB_ERR_MASTER_MASTER = m % 256 ∧ t.mem = s.mem ∧ t.staged = s.staged ∧ t.stalled = s.stalled ∧
      (∀ b i o, b ≠ .GLB → t.word b i o = s.word b i o) ∧
      (isWrite = false → m = mHost → t.egress.getLast? = some ⟨.hostRead, 0, [0]⟩)) := by
  have next := exec_unoccupiedAccess (isWrite := isWrite) h
  have keeps := execUnoccupiedAccess_keeps m off isWrite dram s _ next
  have recorded : ∀ f : Fld, State.rf (if isWrite then s.gcode 0x0010 off m else (s.gcode 0x0010 off m).hostReads m 0) 0 f =
      (s.gcode 0x0010 off m).rf 0 f := by
    intro f
    split
    · rfl
    · exact State.rf_hostReads ..
  refine ⟨_, next, ?_, ?_, ?_, (keeps.same .mem rfl).symm, (keeps.same .staged rfl).symm, (keeps.same .stalled rfl).symm,
    fun b i o hb => keeps.word b i o (unoccupiedAccess_frame_testBit hb), fun read host => ?_⟩
  · rw [recorded, State.rf_gcode_code]
    rfl
  · rw [recorded, State.rf_gcode_offset]
  · rw [recorded, State.rf_gcode_master]
  · rw [read]
    exact State.getLast?_egress_hostReads _ 0 host

/-! ### Ports that fail (R21, R478) -/

/-- FIFTH_WHEEL_PORT_FAIL of a working port of a coach of the part that has power. -/
theorem exec_fifthWheelPortFail {s : State} {c p : Nat} (hc : c < s.hw.coaches) (hp : p < 4) (hpwr : s.pwr.off = false)
    (hw : (s.rf 0 Reg.GLB_FAB_PORTS_FAILED).testBit (4 * c + p) = false) :
    exec (.fifthWheelPortFail c p) s = .next
      ((s.wf 0 Reg.GLB_FAB_PORTS_FAILED (s.rf 0 Reg.GLB_FAB_PORTS_FAILED ||| 2 ^ (4 * c + p))).fabErr (codeWord 'L' 0x0050) c p) := by
  have runs : s.stopped .GLB 0 = false := by
    rw [State.stopped, hpwr]
    rfl
  change execFifthWheelPortFail c p s = _
  rw [execFifthWheelPortFail, if_neg]
  simp only [hpwr, runs, hw, Bool.false_eq_true, false_or, or_false]
  omega

/-- A port that fails sets its own bit of GLB_FAB_PORTS and records L-0050. -/
theorem fifthWheelPortFail_completes {s : State} {c p : Nat} (hc : c < s.hw.coaches) (hp : p < 4) (hpwr : s.pwr.off = false)
    (hw : (s.rf 0 Reg.GLB_FAB_PORTS_FAILED).testBit (4 * c + p) = false) :
    Completes (.fifthWheelPortFail c p) s (fun t => t.rf 0 Reg.GLB_FAB_ERR_CODE = codeWord 'L' 0x0050 ∧
      ∀ k, k < 32 → (t.rf 0 Reg.GLB_FAB_PORTS_FAILED).testBit k =
        ((s.rf 0 Reg.GLB_FAB_PORTS_FAILED).testBit k || decide (k = 4 * c + p))) := by
  refine ⟨_, exec_fifthWheelPortFail hc hp hpwr hw, ?_, fun k hk => ?_⟩
  · rw [State.rf_fabErr_code]
    rfl
  · rw [State.rf_fabErr_ports, State.rf_wf_same _ _ _ _ (by decide), Nat.testBit_mod_two_pow, Nat.testBit_or, Nat.testBit_two_pow,
      decide_eq_true (show k < Reg.GLB_FAB_PORTS_FAILED.hi + 1 - Reg.GLB_FAB_PORTS_FAILED.lo from hk), Bool.true_and]
    simp only [eq_comm]

/-! ### Words over a working port (R23, R302) -/

/-- The counts and the record that a word of a class leaves at the receiving end (R23, R477). -/
def State.wheelNoted (s : State) (c p : Nat) (x : WordClass) : State :=
  match x with
  | .clean | .poison => s
  | .corrected _ => s.inc 0 (Reg.GLB_MEM_CNT_COUNT.sh 16)
  | .uncorrectable => (s.inc 0 (Reg.GLB_MEM_CNT_COUNT.sh 20)).fabErr (codeWord 'M' 0x0004) c p

/-- FIFTH_WHEEL_WORD_RECEIVE over a working port: whatever its class, the word is noted and delivered. -/
theorem exec_fifthWheelWordReceive {s : State} {c p : Nat} (r : Nat) (hc : c < s.hw.coaches) (hs : s.stopped .REI (unitOf c 0) = false)
    (hw : (s.rf 0 Reg.GLB_FAB_PORTS_FAILED).testBit (4 * c + p) = false) :
    exec (.fifthWheelWordReceive c p r) s = .next ((s.wheelNoted c p (felloeRead (r % 2 ^ 80)).1).emit .wheelWord c
      [(felloeRead (r % 2 ^ 80)).2,
        b2n ((felloeRead (r % 2 ^ 80)).1 == .poison || (felloeRead (r % 2 ^ 80)).1 == .uncorrectable)]) := by
  change execFifthWheelWordReceive c p r s = _
  rw [execFifthWheelWordReceive, if_neg (by simp [hs, hw, hc])]
  generalize felloeRead (r % 2 ^ 80) = x
  obtain ⟨k, data⟩ := x
  cases k with
  | clean => rfl
  | corrected symbol => rfl
  | poison => rfl
  | uncorrectable => rfl

/-- A word over a working port is delivered with its data and its poison bit; one that cannot be corrected records M-0004. -/
theorem fifthWheelWordReceive_delivers {s : State} {c p : Nat} (r : Nat) (hc : c < s.hw.coaches) (hs : s.stopped .REI (unitOf c 0) = false)
    (hw : (s.rf 0 Reg.GLB_FAB_PORTS_FAILED).testBit (4 * c + p) = false) :
    Completes (.fifthWheelWordReceive c p r) s (fun t =>
      t.egress.getLast? = some ⟨.wheelWord, c, [(felloeRead (r % 2 ^ 80)).2,
        b2n ((felloeRead (r % 2 ^ 80)).1 == .poison || (felloeRead (r % 2 ^ 80)).1 == .uncorrectable)]⟩ ∧
      ((felloeRead (r % 2 ^ 80)).1 = .uncorrectable → t.rf 0 Reg.GLB_FAB_ERR_CODE = codeWord 'M' 0x0004)) := by
  refine ⟨_, exec_fifthWheelWordReceive r hc hs hw, State.getLast?_egress_emit .., fun lost => ?_⟩
  rw [lost]
  exact State.rf_fabErr_code ..

/-- Settles O9: each clause is the lemma of its command, by what a G-code and a fabric error record and what the frame of the command leaves. -/
theorem unoccupiedAccessesAndPortsThatFailAreReported : Obligations.UnoccupiedAccessesAndPortsThatFailAreReported := by
  unfold Obligations.UnoccupiedAccessesAndPortsThatFailAreReported
  refine ⟨fun s m off isWrite dram h => unoccupiedAccess_completes h, fun s c p r hc _ hp hpwr hw => ⟨?_, fun ⟨_, runs⟩ => ?_⟩⟩
  · exact fifthWheelPortFail_completes hc hp hpwr hw
  · exact fifthWheelWordReceive_delivers r hc runs hw

end Sys2Proof.Machine
end

section
/-! What holds in every state and what only goes forward (R63, R309): the frame of each command as its row of `mayChange` gives it, and from it the
key slots and the invariant: statements O3, O4 and O6. -/

namespace Sys2Proof.Machine

/-! ### The invariant -/

/-- Settles O3: no byte of DRAM is listed at reset, and the reset state names its four slots. -/
theorem theInvariantHoldsAtReset : Obligations.TheInvariantHoldsAtReset := ⟨rfl, rfl⟩

/-- What keeps any frame keeps the invariant. -/
theorem Keeps.inv {m : Nat} {s t : State} (k : Keeps m s t) (h : Inv s) : Inv t := by
  obtain ⟨canonical, slots⟩ := h
  exact ⟨k.memWf canonical, k.keys.1.symm.trans slots⟩

/-- Settles O4: a step keeps its frame (`step_keeps`), and a frame keeps the invariant. -/
theorem everyStepKeepsTheInvariant : Obligations.EveryStepKeepsTheInvariant := by
  unfold Obligations.EveryStepKeepsTheInvariant
  exact fun s t inv next => (step_keeps s t next).inv inv

/-! ### A row of `mayChange` as a mask -/

/-- The mask of the fields and the register blocks of a row, with the registers themselves. -/
def rowMask (row : List Field × List Blk) : Nat :=
  0x8 ||| (row.1.foldr (fun f a => 2 ^ f.place ||| a) 0 ||| row.2.foldr (fun b a => blkBit b ||| a) 0)

/-- A frame within the mask of a command's row. -/
theorem KeepsO.inRow {c : Instr} {m : Nat} {s : State} {o : Host.Outcome State Fault Refusal} (k : KeepsO m s o) {fs : List Field} {bs : List Blk}
    (row : mayChange c = (fs, bs)) (within : Sub m (rowMask (fs, bs))) : KeepsO (rowMask (mayChange c)) s o := by
  rw [row]
  exact fun t next => (k t next).widen within

/-- Every acknowledgement register stands in the DBM. -/
theorem blk_ackReg (k : Nat) : (ackReg k).2.blk = .DBM := by
  unfold ackReg
  split <;> rfl

/-- Every command keeps the frame of its row: the frame lemma of each command lies within its row's mask. -/
theorem exec_keeps_row (c : Instr) (s : State) : KeepsO (rowMask (mayChange c)) s (exec c s) := by
  cases c with
  | registerWrite m off be w => exact (execRegisterWrite_keeps m off be w s).inRow rfl rfl
  | unoccupiedAccess m off isWrite dram => exact (execUnoccupiedAccess_keeps m off isWrite dram s).inRow rfl rfl
  | fifthWheelPortFail c p => exact (execFifthWheelPortFail_keeps c p s).inRow rfl rfl
  | fifthWheelWordReceive c p r => exact (execFifthWheelWordReceive_keeps c p r s).inRow rfl rfl
  | harnessLoad m w => exact (execHarnessLoad_keeps m w s).inRow rfl rfl
  | harnessSourceComplete => exact (execHarnessSourceComplete_keeps s).inRow rfl rfl
  | harnessApplyDrained hwFault => exact (execHarnessApplyDrained_keeps hwFault s).inRow rfl rfl
  | harnessAbort m w => exact (execHarnessAbort_keeps m w s).inRow rfl rfl
  | patchCancel m w => exact (execPatchCancel_keeps m w s).inRow rfl rfl
  | progA m w => exact (execProgA_keeps m w s).inRow rfl rfl
  | progB m w => exact (execProgB_keeps m w s).inRow rfl rfl
  | slotProgramComplete => exact (execSlotProgramComplete_keeps s).inRow rfl rfl
  | enrol m w => exact (execEnrol_keeps m w s).inRow rfl rfl
  | revoke m w => exact (execRevoke_keeps m w s).inRow rfl rfl
  | orDataAppend m w => exact (execOrDataAppend_keeps m w s).inRow rfl rfl
  | orBufferClear m w => exact (execOrBufferClear_keeps m w s).inRow rfl rfl
  | patchApplyInstant => exact (execPatchApplyInstant_keeps s).inRow rfl rfl
  | patchChainDrained => exact (execPatchChainDrained_keeps s).inRow rfl rfl
  | patchChainReady => exact (execPatchChainReady_keeps s).inRow rfl rfl
  | lanePllLocked lane => exact (execLanePllLocked_keeps lane s).inRow rfl rfl
  | laneCdrLocked lane => exact (execLaneCdrLocked_keeps lane s).inRow rfl rfl
  | laneFramingDone lane eye => exact (execLaneFramingDone_keeps lane eye s).inRow rfl rfl
  | laneTrainTimeout lane => exact (execLaneTrainTimeout_keeps lane s).inRow rfl rfl
  | cxpDiscovery c speed count uplink eyes => exact (execCxpDiscovery_keeps c speed count uplink eyes s).inRow rfl rfl
  | cxpDiscoveryTimeout c => exact (execCxpDiscoveryTimeout_keeps c s).inRow rfl rfl
  | cxpStreamPacket lane stream start ending last words poison errors =>
    exact (execCxpStreamPacket_keeps lane stream start ending last words poison errors s).inRow rfl rfl
  | cxpImageHeader g pfnc lines => exact (execCxpImageHeader_keeps g pfnc lines s).inRow rfl rfl
  | cxpControlResponse g tag status data => exact (execCxpControlResponse_keeps g tag status data s).inRow rfl rfl
  | cxpEventPacket g l => exact (execCxpEventPacket_keeps g l s).inRow rfl rfl
  | cxpHeartbeat lane time => exact (execCxpHeartbeat_keeps lane time s).inRow rfl rfl
  | cxpConnectionTest lane errors => exact (execCxpConnectionTest_keeps lane errors s).inRow rfl rfl
  | voxhusMarkerReceive lane bits => exact (execVoxhusMarkerReceive_keeps lane bits s).inRow rfl rfl
  | voxhusMarkerSend lane remain => exact (execVoxhusMarkerSend_keeps lane remain s).inRow rfl rfl
  | voxhusPacketReceive lane bits held => exact (execVoxhusPacketReceive_keeps lane bits held s).inRow rfl rfl
  | voxhusCreditWord lane bits => exact (execVoxhusCreditWord_keeps lane bits s).inRow rfl rfl
  | voxhusCreditSend lane v => exact (execVoxhusCreditSend_keeps lane v s).inRow rfl rfl
  | voxhusSleepRequest lane bits => exact (execVoxhusSleepRequest_keeps lane bits s).inRow rfl rfl
  | voxhusSleepAck lane bits => exact (execVoxhusSleepAck_keeps lane bits s).inRow rfl rfl
  | voxhusWake lane bits => exact (execVoxhusWake_keeps lane bits s).inRow rfl rfl
  | voxhusKeepAlive lane bits => exact (execVoxhusKeepAlive_keeps lane bits s).inRow rfl rfl
  | trainingLockReport lane bits => exact (execTrainingLockReport_keeps lane bits s).inRow rfl rfl
  | voxhusReservedWord lane bits => exact (execVoxhusReservedWord_keeps lane bits s).inRow rfl rfl
  | ethFrameReceive lane frame corrected uncorrected => exact (execEthFrameReceive_keeps lane frame corrected uncorrected s).inRow rfl rfl
  | ethBlockLockLoss lane => exact (execEthBlockLockLoss_keeps lane s).inRow rfl rfl
  | laneSignalLoss lane => exact (execLaneSignalLoss_keeps lane s).inRow rfl rfl
  | laneRetrain m w lane => exact (execLaneRetrain_keeps m w lane s).inRow rfl rfl
  | laneClearCounts m w lane => exact (execLaneClearCounts_keeps m w lane s).inRow rfl rfl
  | laneRunWwt m w lane => exact (execLaneRunWwt_keeps m w lane s).inRow rfl rfl
  | laneEqSetGo m w lane => exact (execLaneEqSetGo_keeps m w lane s).inRow rfl rfl
  | laneEqSwitch lane => exact (execLaneEqSwitch_keeps lane s).inRow rfl rfl
  | lanePowerRequest m w lane => exact (execLanePowerRequest_keeps m w lane s).inRow rfl rfl
  | laneWakeOnSignal lane => exact (execLaneWakeOnSignal_keeps lane s).inRow rfl rfl
  | lanePrbsControl m w lane bits => exact (execLanePrbsControl_keeps m w lane bits s).inRow rfl rfl
  | ingTriggerEvent g => exact (execIngTriggerEvent_keeps g s).inRow rfl rfl
  | ingLineDecide g => exact (execIngLineDecide_keeps g s).inRow rfl rfl
  | ingLineEnd g => exact (execIngLineEnd_keeps g s).inRow rfl rfl
  | triggerWindowExpire g => exact (execTriggerWindowExpire_keeps g s).inRow rfl rfl
  | voxhusLineHeader g pfnc => exact (execVoxhusLineHeader_keeps g pfnc s).inRow rfl rfl
  | camsetLaunch m w g => exact (execCamsetLaunch_keeps m w g s).inRow rfl rfl
  | camsetAck g status => exact (execCamsetAck_keeps g status s).inRow rfl rfl
  | camsetTimeout g => exact (execCamsetTimeout_keeps g s).inRow rfl rfl
  | tunnelGo m w g => exact (execTunnelGo_keeps m w g s).inRow rfl rfl
  | tunnelResponse g status data => exact (execTunnelResponse_keeps g status data s).inRow rfl rfl
  | tunnelTimeout g => exact (execTunnelTimeout_keeps g s).inRow rfl rfl
  | cameraEventReceive g l => exact (execCameraEventReceive_keeps g l s).inRow rfl rfl
  | cameraEventPop m w g => exact (execCameraEventPop_keeps m w g s).inRow rfl rfl
  | staLine g => exact (execStaLine_keeps g s).inRow rfl rfl
  | staBlockClose g => exact (execStaBlockClose_keeps g s).inRow rfl rfl
  | wireDisagreeFault p k => exact (execWireDisagreeFault_keeps p k s).inRow rfl rfl
  | wireFaultClear p k => exact (execWireFaultClear_keeps p k s).inRow rfl rfl
  | quadratureStep p a b z ra rb => exact (execQuadratureStep_keeps p a b z ra rb s).inRow rfl rfl
  | doubleEdgeWindow p => exact (execDoubleEdgeWindow_keeps p s).inRow rfl rfl
  | indexEvent p => exact (execIndexEvent_keeps p s).inRow rfl rfl
  | absFrameRequest p task dat => exact (execAbsFrameRequest_keeps p task dat s).inRow rfl rfl
  | absRequest m p w => exact (execAbsRequest_keeps m p w s).inRow rfl rfl
  | absFrameComplete p v crc => exact (execAbsFrameComplete_keeps p v crc s).inRow rfl rfl
  | absFrameTimeout p => exact (execAbsFrameTimeout_keeps p s).inRow rfl rfl
  | speedStandstill p => exact (execSpeedStandstill_keeps p s).inRow rfl rfl
  | encoderTrigger p => exact (execEncoderTrigger_keeps p s).inRow rfl rfl
  | fixedRateTrigger p => exact (execFixedRateTrigger_keeps p s).inRow rfl rfl
  | compareFire u => exact (execCompareFire_keeps u s).inRow rfl rfl
  | gioPulseEnd src idx => exact (execGioPulseEnd_keeps src idx s).inRow rfl rfl
  | comparePush m u w => exact (execComparePush_keeps m u w s).inRow rfl rfl
  | compareFlush m u w => exact (execCompareFlush_keeps m u w s).inRow rfl rfl
  | compareEnable m u w => exact (execCompareEnable_keeps m u w s).inRow rfl rfl
  | clearUncertain m p w => exact (execClearUncertain_keeps m p w s).inRow rfl rfl
  | clearSuspect m p w => exact (execClearSuspect_keeps m p w s).inRow rfl rfl
  | wayClearCounts m p w => exact (execWayClearCounts_keeps m p w s).inRow rfl rfl
  | motionWake p => exact (execMotionWake_keeps p s).inRow rfl rfl
  | truLine g => exact (execTruLine_keeps g s).inRow rfl rfl
  | tableLoad m w g rga => exact (execTableLoad_keeps m w g rga s).inRow rfl rfl
  | tableLoadComplete g rga => exact (execTableLoadComplete_keeps g rga s).inRow rfl rfl
  | tableLoadAbort m w g rga => exact (execTableLoadAbort_keeps m w g rga s).inRow rfl rfl
  | refMeasurementDone g => exact (execRefMeasurementDone_keeps g s).inRow rfl rfl
  | gainRebuild g => exact (execGainRebuild_keeps g s).inRow rfl rfl
  | gainCommitStage g => exact (execGainCommitStage_keeps g s).inRow rfl rfl
  | gainWaitTimeout g => exact (execGainWaitTimeout_keeps g s).inRow rfl rfl
  | rgaLine g => exact (execRgaLine_keeps g s).inRow rfl rfl
  | rgaGapMarker g => exact (execRgaGapMarker_keeps g s).inRow rfl rfl
  | seamLineDeliver g low => exact (execSeamLineDeliver_keeps g low s).inRow rfl rfl
  | regWindowEnd g => exact (execRegWindowEnd_keeps g s).inRow rfl rfl
  | seamRunComplete => exact (execSeamRunComplete_keeps s).inRow rfl rfl
  | seamRunTimeout => exact (execSeamRunTimeout_keeps s).inRow rfl rfl
  | sprLine g => exact (execSprLine_keeps g s).inRow rfl rfl
  | freezeMaskReturn g => exact (execFreezeMaskReturn_keeps g s).inRow rfl rfl
  | sprFreeze m v w => exact (execSprFreeze_keeps m v w s).inRow rfl rfl
  | sprThaw m v w => exact (execSprThaw_keeps m v w s).inRow rfl rfl
  | segLine g => exact (execSegLine_keeps g s).inRow rfl rfl
  | lblLine g => exact (execLblLine_keeps g s).inRow rfl rfl
  | dbmFragment g => exact (execDbmFragment_keeps g s).inRow rfl rfl
  | dbmPartialSet c => exact (execDbmPartialSet_keeps c s).inRow rfl rfl
  | frontierAdvance g => exact (execFrontierAdvance_keeps g s).inRow rfl rfl
  | recordWrite k => exact (execRecordWrite_keeps k s).inRow rfl rfl
  | carriageLag g => exact (execCarriageLag_keeps g s).inRow rfl rfl
  | dbmAckWrite m w => exact (execDbmAckWrite_keeps m w s).inRow rfl rfl
  | dbmRackWrite m w g => exact (execDbmRackWrite_keeps m w g s).inRow rfl (Sub.or rfl (Sub.blk .DBM (blk_ackReg g) rfl))
  | patchCut unit => exact (execPatchCut_keeps unit s).inRow rfl rfl
  | archiveLine g => exact (execArchiveLine_keeps g s).inRow rfl rfl
  | archiveRowClose g => exact (execArchiveRowClose_keeps g s).inRow rfl rfl
  | archiveRowTimeout g => exact (execArchiveRowTimeout_keeps g s).inRow rfl rfl
  | decodeJobGo m w unit => exact (execDecodeJobGo_keeps m w unit s).inRow rfl rfl
  | decodeJobAbort m w unit => exact (execDecodeJobAbort_keeps m w unit s).inRow rfl rfl
  | decodeLine unit => exact (execDecodeLine_keeps unit s).inRow rfl rfl
  | decodeJobEnd unit => exact (execDecodeJobEnd_keeps unit s).inRow rfl rfl
  | previewTick view => exact (execPreviewTick_keeps view s).inRow rfl rfl
  | previewRowComplete unit laneFull => exact (execPreviewRowComplete_keeps unit laneFull s).inRow rfl rfl
  | previewRowTimeout unit laneFull => exact (execPreviewRowTimeout_keeps unit laneFull s).inRow rfl rfl
  | dramRead addr rank err => exact (execDramRead_keeps addr rank err s).inRow rfl rfl
  | bar2Read off n => exact (execBar2Read_keeps off n s).inRow rfl rfl
  | bar2Write off bytes ep => exact (execBar2Write_keeps off bytes ep s).inRow rfl rfl
  | bar2BaseWrite m w => exact (execBar2BaseWrite_keeps m w s).inRow rfl rfl
  | refreshDue c d rank depth beats => exact (execRefreshDue_keeps c d rank depth beats s).inRow rfl rfl
  | refreshMakeup c d depth => exact (execRefreshMakeup_keeps c d depth s).inRow rfl rfl
  | dimmHot c d temp => exact (execDimmHot_keeps c d temp s).inRow rfl rfl
  | rowActivate c d rank bank row requester => exact (execRowActivate_keeps c d rank bank row requester s).inRow rfl rfl
  | curbWindowEnd c d => exact (execCurbWindowEnd_keeps c d s).inRow rfl rfl
  | scrubBlock addr rank errs => exact (execScrubBlock_keeps addr rank errs s).inRow rfl rfl
  | sramScrub c ce ue => exact (execSramScrub_keeps c ce ue s).inRow rfl rfl
  | waybillScrub ce ue => exact (execWaybillScrub_keeps ce ue s).inRow rfl rfl
  | remountGo m w c d => exact (execRemountGo_keeps m w c d s).inRow rfl rfl
  | remountCopyBlock ch addr errs => exact (execRemountCopyBlock_keeps ch addr errs s).inRow rfl rfl
  | remountComplete ch => exact (execRemountComplete_keeps ch s).inRow rfl rfl
  | dramRunComplete c first second => exact (execDramRunComplete_keeps c first second s).inRow rfl rfl
  | sramUncorrectable c w => exact (execSramUncorrectable_keeps c w s).inRow rfl rfl
  | mewsPacketWrite c m units last bad => exact (execMewsPacketWrite_keeps c m units last bad s).inRow rfl rfl
  | mewsSpaceFreed c m clocks last => exact (execMewsSpaceFreed_keeps c m clocks last s).inRow rfl rfl
  | mewsPacketRead c m units clocks => exact (execMewsPacketRead_keeps c m units clocks s).inRow rfl rfl
  | mewsPacketAbandon c m => exact (execMewsPacketAbandon_keeps c m s).inRow rfl rfl
  | mewsFlush m w c => exact (execMewsFlush_keeps m w c s).inRow rfl rfl
  | mewsFlushBoundary c m => exact (execMewsFlushBoundary_keeps c m s).inRow rfl rfl
  | mewsHwFlush c m classes => exact (execMewsHwFlush_keeps c m classes s).inRow rfl rfl
  | mewPeakClear m w c n => exact (execMewPeakClear_keeps m w c n s).inRow rfl rfl
  | drayageGo m c n w => exact (execDrayageGo_keeps m c n w s).inRow rfl rfl
  | drayageBurst c n hostData hostPoison hostErr => exact (execDrayageBurst_keeps c n hostData hostPoison hostErr s).inRow rfl rfl
  | drayageComplete c n => exact (execDrayageComplete_keeps c n s).inRow rfl rfl
  | drayageAbort m c n w => exact (execDrayageAbort_keeps m c n w s).inRow rfl rfl
  | drayageCredit c k => exact (execDrayageCredit_keeps c k s).inRow rfl rfl
  | drayageReqClear m c k w => exact (execDrayageReqClear_keeps m c k w s).inRow rfl rfl
  | whiffletreeDecision c u reqs => exact (execWhiffletreeDecision_keeps c u reqs s).inRow rfl rfl
  | burstMaxExpire c u => exact (execBurstMaxExpire_keeps c u s).inRow rfl rfl
  | grantDrop c u beats => exact (execGrantDrop_keeps c u beats s).inRow rfl rfl
  | emergencyPreempt c u beats => exact (execEmergencyPreempt_keeps c u beats s).inRow rfl rfl
  | starvation c u input => exact (execStarvation_keeps c u input s).inRow rfl rfl
  | clearStarve m c u w => exact (execClearStarve_keeps m c u w s).inRow rfl rfl
  | reinSourceEvent c src ev => exact (execReinSourceEvent_keeps c src ev s).inRow rfl rfl
  | reinCycle => exact (execReinCycle_keeps s).inRow rfl rfl
  | buckleGlitchAccept c b => exact (execBuckleGlitchAccept_keeps c b s).inRow rfl rfl
  | reinRateWindow => exact (execReinRateWindow_keeps s).inRow rfl rfl
  | reinTrunkFire m w => exact (execReinTrunkFire_keeps m w s).inRow rfl rfl
  | gioInputEdge pin rising => exact (execGioInputEdge_keeps pin rising s).inRow rfl rfl
  | timetableTick n => exact (execTimetableTick_keeps n s).inRow rfl rfl
  | ptpSync src seq domain twoStep origin corr rx => exact (execPtpSync_keeps src seq domain twoStep origin corr rx s).inRow rfl rfl
  | ptpFollowUp src seq domain origin corr => exact (execPtpFollowUp_keeps src seq domain origin corr s).inRow rfl rfl
  | ptpDelayReq src seq domain rx => exact (execPtpDelayReq_keeps src seq domain rx s).inRow rfl rfl
  | ptpDelayResp src seq domain t4 corr => exact (execPtpDelayResp_keeps src seq domain t4 corr s).inRow rfl rfl
  | ptpPdelayReq src seq domain rx => exact (execPtpPdelayReq_keeps src seq domain rx s).inRow rfl rfl
  | ptpPdelayResp seq domain twoStep t2 corr rx => exact (execPtpPdelayResp_keeps seq domain twoStep t2 corr rx s).inRow rfl rfl
  | ptpPdelayRespFollowUp seq domain t3 corr => exact (execPtpPdelayRespFollowUp_keeps seq domain t3 corr s).inRow rfl rfl
  | ptpAnnounce src identity p1 cls acc var p2 domain utc flags =>
    exact (execPtpAnnounce_keeps src identity p1 cls acc var p2 domain utc flags s).inRow rfl rfl
  | ptpDiscardedMessage => exact (execPtpDiscardedMessage_keeps s).inRow rfl rfl
  | ptpMasterSend announce => exact (execPtpMasterSend_keeps announce s).inRow rfl rfl
  | announceTimeout => exact (execAnnounceTimeout_keeps s).inRow rfl rfl
  | stepAccept m w => exact (execStepAccept_keeps m w s).inRow rfl rfl
  | stepReject m w => exact (execStepReject_keeps m w s).inRow rfl rfl
  | timeSet m w => exact (execTimeSet_keeps m w s).inRow rfl rfl
  | capture m w => exact (execCapture_keeps m w s).inRow rfl rfl
  | launchPush m w => exact (execLaunchPush_keeps m w s).inRow rfl rfl
  | launchFlush m w => exact (execLaunchFlush_keeps m w s).inRow rfl rfl
  | launchPrefetch => exact (execLaunchPrefetch_keeps s).inRow rfl rfl
  | launchSend busy => exact (execLaunchSend_keeps busy s).inRow rfl rfl
  | alarmFire a => exact (execAlarmFire_keeps a s).inRow rfl rfl
  | markerPredict => exact (execMarkerPredict_keeps s).inRow rfl rfl
  | irqEoi m w => exact (execIrqEoi_keeps m w s).inRow rfl rfl
  | msixUnmask v => exact (execMsixUnmask_keeps v s).inRow rfl rfl
  | orRead bytes => exact (execOrRead_keeps bytes s).inRow rfl rfl
  | orWrite bytes => exact (execOrWrite_keeps bytes s).inRow rfl rfl
  | orWriteFifo bytes => exact (execOrWriteFifo_keeps bytes s).inRow rfl rfl
  | orResult => exact (execOrResult_keeps s).inRow rfl rfl
  | orIdentify bytes => exact (execOrIdentify_keeps bytes s).inRow rfl rfl
  | stalledAccessResume => exact (execStalledAccessResume_keeps s).inRow rfl rfl
  | yokeRequest m w => exact (execYokeRequest_keeps m w s).inRow rfl rfl
  | yokeCheckDone carriage => exact (execYokeCheckDone_keeps carriage s).inRow rfl rfl
  | yokeRelease carriage => exact (execYokeRelease_keeps carriage s).inRow rfl rfl
  | yokeCancel m w => exact (execYokeCancel_keeps m w s).inRow rfl rfl
  | yokeDiscard m w => exact (execYokeDiscard_keeps m w s).inRow rfl rfl
  | postSlotWrite m mb n w => exact (execPostSlotWrite_keeps m mb n w s).inRow rfl rfl
  | postSend m mb w => exact (execPostSend_keeps m mb w s).inRow rfl rfl
  | postTake m mb w => exact (execPostTake_keeps m mb w s).inRow rfl rfl
  | postAbort m mb w => exact (execPostAbort_keeps m mb w s).inRow rfl rfl
  | postClaimLapse mb => exact (execPostClaimLapse_keeps mb s).inRow rfl rfl
  | postTimeout mb => exact (execPostTimeout_keeps mb s).inRow rfl rfl
  | hornRing m mb w => exact (execHornRing_keeps m mb w s).inRow rfl rfl
  | hornClear m mb w => exact (execHornClear_keeps m mb w s).inRow rfl rfl
  | identity => exact (execIdentity_keeps s).inRow rfl rfl
  | faultRead => exact (execFaultRead_keeps s).inRow rfl rfl
  | faultClear => exact (execFaultClear_keeps s).inRow rfl rfl
  | temps => exact (execTemps_keeps s).inRow rfl rfl
  | wwtServiceRun => exact (execWwtServiceRun_keeps s).inRow rfl rfl
  | wwtServiceState => exact (execWwtServiceState_keeps s).inRow rfl rfl
  | recordRead => exact (execRecordRead_keeps s).inRow rfl rfl
  | linchpinAcquire m n => exact (execLinchpinAcquire_keeps m n s).inRow rfl rfl
  | linchpinRelease m n w => exact (execLinchpinRelease_keeps m n w s).inRow rfl rfl
  | linchpinForce m n w => exact (execLinchpinForce_keeps m n w s).inRow rfl rfl
  | linchpinBreak owner => exact (execLinchpinBreak_keeps owner s).inRow rfl rfl
  | linchpinLeaseExpire => exact (execLinchpinLeaseExpire_keeps s).inRow rfl rfl
  | pcieReset kind => exact (execPcieReset_keeps kind s).inRow rfl rfl
  | pciePerst => exact (execPciePerst_keeps s).inRow rfl rfl
  | sleepRequest m w => exact (execSleepRequest_keeps m w s).inRow rfl rfl
  | sleepDrainDone => exact (execSleepDrainDone_keeps s).inRow rfl rfl
  | sleepDrayageDone => exact (execSleepDrayageDone_keeps s).inRow rfl rfl
  | sleepClocksStopped => exact (execSleepClocksStopped_keeps s).inRow rfl rfl
  | wakeEvent src idx => exact (execWakeEvent_keeps src idx s).inRow rfl rfl
  | wakeCommand m w => exact (execWakeCommand_keeps m w s).inRow rfl rfl
  | wakeComplete copyBad => exact (execWakeComplete_keeps copyBad s).inRow rfl rfl
  | bootContinue m w => exact (execBootContinue_keeps m w s).inRow rfl rfl
  | powerOnReset rstnLow vddIo => exact (execPowerOnReset_keeps rstnLow vddIo s).inRow rfl rfl
  | startupStageComplete fault coach train margins => exact (execStartupStageComplete_keeps fault coach train margins s).inRow rfl rfl
  | resetPin ns => exact (execResetPin_keeps ns s).inRow rfl rfl
  | coachReset m w => exact (execCoachReset_keeps m w s).inRow rfl rfl
  | coachResetReady c train ms margins => exact (execCoachResetReady_keeps c train ms margins s).inRow rfl rfl
  | coachmanWatchdog c j => exact (execCoachmanWatchdog_keeps c j s).inRow rfl rfl
  | tempSensorUpdate c readings => exact (execTempSensorUpdate_keeps c readings s).inRow rfl rfl
  | wwtTimer cls coach car => exact (execWwtTimer_keeps cls coach car s).inRow rfl rfl
  | wwtRun m c w => exact (execWwtRun_keeps m c w s).inRow rfl rfl
  | clearUnsettled m c w => exact (execClearUnsettled_keeps m c w s).inRow rfl rfl
  | laneRunComplete c first second => exact (execLaneRunComplete_keeps c first second s).inRow rfl rfl
  | gainRunComplete g => exact (execGainRunComplete_keeps g s).inRow rfl rfl
  | tsenRunComplete c first second => exact (execTsenRunComplete_keeps c first second s).inRow rfl rfl
  | pllUnlock kind c => exact (execPllUnlock_keeps kind c s).inRow rfl rfl
  | referenceLoss kind => exact (execReferenceLoss_keeps kind s).inRow rfl rfl
  | pairHello pairId imageId side role => exact (execPairHello_keeps pairId imageId side role s).inRow rfl rfl
  | pairJoinTimeout => exact (execPairJoinTimeout_keeps s).inRow rfl rfl
  | pairHoldConflict => exact (execPairHoldConflict_keeps s).inRow rfl rfl
  | heartbeat state sent phi ack web time => exact (execHeartbeat_keeps state sent phi ack web time s).inRow rfl rfl
  | heartbeatSend => exact (execHeartbeatSend_keeps s).inRow rfl rfl
  | heartbeatMissed => exact (execHeartbeatMissed_keeps s).inRow rfl rfl
  | mirrorTrigger port n instant pos speed unsure => exact (execMirrorTrigger_keeps port n instant pos speed unsure s).inRow rfl rfl
  | mirrorEpoch g line epoch unconfirmed => exact (execMirrorEpoch_keeps g line epoch unconfirmed s).inRow rfl rfl
  | mirrorYoke seq carriage kind instant defaults checkOnly values =>
    exact (execMirrorYoke_keeps seq carriage kind instant defaults checkOnly values s).inRow rfl rfl
  | yokeResult seq code => exact (execYokeResult_keeps seq code s).inRow rfl rfl
  | yokeApply seq pos => exact (execYokeApply_keeps seq pos s).inRow rfl rfl
  | records recs phi => exact (execRecords_keeps recs phi s).inRow rfl rfl
  | recordsHeld seq => exact (execRecordsHeld_keeps seq s).inRow rfl rfl
  | mirrorAck v => exact (execMirrorAck_keeps v s).inRow rfl rfl
  | digest g line crc => exact (execDigest_keeps g line crc s).inRow rfl rfl
  | digestTimeout g => exact (execDigestTimeout_keeps g s).inRow rfl rfl
  | resyncRequest g => exact (execResyncRequest_keeps g s).inRow rfl rfl
  | mirrorState g msg => exact (execMirrorState_keeps g msg s).inRow rfl rfl
  | resyncSwitchBack => exact (execResyncSwitchBack_keeps s).inRow rfl rfl
  | resyncDone g => exact (execResyncDone_keeps g s).inRow rfl rfl
  | resyncTimeout => exact (execResyncTimeout_keeps s).inRow rfl rfl
  | calib g ks => exact (execCalib_keeps g ks s).inRow rfl rfl
  | mirrorTime offset => exact (execMirrorTime_keeps offset s).inRow rfl rfl
  | switchoverControl p => exact (execSwitchoverControl_keeps p s).inRow rfl rfl
  | holdInputLow => exact (execHoldInputLow_keeps s).inRow rfl rfl
  | switchover m w => exact (execSwitchover_keeps m w s).inRow rfl rfl
  | detach m w => exact (execDetach_keeps m w s).inRow rfl rfl
  | rejoin m w => exact (execRejoin_keeps m w s).inRow rfl rfl
  | ringHello west hello => exact (execRingHello_keeps west hello s).inRow rfl rfl
  | ringHelloSend => exact (execRingHelloSend_keeps s).inRow rfl rfl
  | ringPartialSet frags reports frontier => exact (execRingPartialSet_keeps frags reports frontier s).inRow rfl rfl
  | ringNeighbourLost west => exact (execRingNeighbourLost_keeps west s).inRow rfl rfl
  | powerLoss => exact (execPowerLoss_keeps s).inRow rfl rfl
  | rstnRise => exact (execRstnRise_keeps s).inRow rfl rfl
  | referenceReturn kind => exact (execReferenceReturn_keeps kind s).inRow rfl rfl
  | functionDStateChange d3 => exact (execFunctionDStateChange_keeps d3 s).inRow rfl rfl
  | controlSleepRequest target => exact (execControlSleepRequest_keeps target s).inRow rfl rfl
  | filterRejectedPulse p k => exact (execFilterRejectedPulse_keeps p k s).inRow rfl rfl
  | ptpDelayReqSend tx => exact (execPtpDelayReqSend_keeps tx s).inRow rfl rfl

/-! ### Key slots -/

/-- A fold of bits has a bit where one of them has it. -/
theorem foldr_or_testBit {α : Type} (bits : α → Nat) (l : List α) (n : Nat) :
    (l.foldr (fun x a => bits x ||| a) 0).testBit n = l.any (fun x => (bits x).testBit n) := by
  induction l with
  | nil => exact Nat.zero_testBit n
  | cons x t ih => rw [List.foldr_cons, Nat.testBit_or, ih, List.any_cons]

/-- The place of the key slots in a mask is that of no other field. -/
theorem Field.eq_keys_of_place {f : Field} (h : f.place = Field.keys.place) : f = .keys := by
  cases f with
  | keys => rfl
  | _ => exact absurd h (by decide)

/-- A row that does not list the key slots has no bit for them: the bits of blocks lie above those of fields. -/
theorem rowMask_testBit_keys {row : List Field × List Blk} (h : Field.keys ∉ row.1) : (rowMask row).testBit Field.keys.place = false := by
  have fields : row.1.any (fun f => (2 ^ f.place).testBit Field.keys.place) = false := by
    simp only [List.any_eq_false, Nat.testBit_two_pow, decide_eq_true_eq]
    exact fun f listed place => h (Field.eq_keys_of_place place ▸ listed)
  have blocks : row.2.any (fun b => (blkBit b).testBit Field.keys.place) = false := by
    simp only [List.any_eq_false, blkBit, Nat.testBit_two_pow, decide_eq_true_eq]
    exact fun b _ place => absurd place (by rw [Field.place]; omega)
  rw [rowMask, Nat.testBit_or, Nat.testBit_or, foldr_or_testBit, foldr_or_testBit, fields, blocks]
  rfl

/-- Settles O6: every frame lets key slots only go forward, and the frame of a command whose row does not list them leaves them as they are. -/
theorem keySlotsOnlyGoForward : Obligations.KeySlotsOnlyGoForward := by
  unfold Obligations.KeySlotsOnlyGoForward
  intro c s t next
  have frame := exec_keeps_row c s t next
  exact ⟨frame.keys, fun unlisted => (frame.same .keys (rowMask_testBit_keys unlisted)).symm⟩

end Sys2Proof.Machine
end

section
/-! The harness registers (R9, R10, R64): what a write of one field leaves of the others, and what a pulse of HDR_CTL or of HDR_KEY_CTL hands to its
action. -/

namespace Sys2Proof.Machine

/-! ### Fields apart -/

/-- A write of f leaves g alone: another register's field, or a field of the same register that shares no bit with it. -/
abbrev Apart (g f : Fld) : Prop :=
  g.blk ≠ f.blk ∨ g.off % 1048576 ≠ f.off % 1048576 ∨
    (g.blk = f.blk ∧ g.off = f.off ∧ getBits (resetWord g.blk g.off) g.hi g.lo = g.rst ∧ (f.hi < g.lo ∨ g.hi < f.lo))

theorem State.rf_wf_apart (s : State) (i v : Nat) {f g : Fld} (h : Apart g f) : (s.wf i f v).rf i g = s.rf i g := by
  rcases h with blk | off | ⟨blk, off, reset, bits⟩
  · exact State.rf_wf_reg s v (.inl blk)
  · exact State.rf_wf_reg s v (.inr (.inr off))
  · exact State.rf_wf_bits s i v blk off reset bits

/-- An event bit leaves every field that it does not share bits with alone, but the Rein events. -/
theorem State.rf_ev_apart (s : State) {f g : Fld} (h : g.blk ≠ .REI) (apart : Apart g f) : (s.ev 0 f).rf 0 g = s.rf 0 g := by
  rw [State.rf_ev _ _ _ _ h, State.rf_wf_apart _ _ _ apart]

/-! ### A pulse of HDR_CTL -/

/-- The bits of HDR_CTL that pulse. -/
def hdrPulses : List Fld := [Reg.HDR_CTL_LOAD, Reg.HDR_CTL_ABORT, Reg.HDR_CTL_PATCH_CANCEL, Reg.HDR_CTL_PROG_A, Reg.HDR_CTL_PROG_B]

/-- What a pulse of HDR_CTL hands to its action: the state before, but for the fields of HDR_CTL that w brings. -/
structure CtlWritten (s c : State) (w : Word) : Prop where
  hdr : c.hdr = s.hdr
  store : c.store = s.store
  phase : c.phase = s.phase
  stage : c.rf 0 Reg.GLB_BOOT_STAGE_STAGE = s.rf 0 Reg.GLB_BOOT_STAGE_STAGE
  src : c.rf 0 Reg.HDR_CTL_SRC = Reg.HDR_CTL_SRC.of w
  checkOnly : c.rf 0 Reg.HDR_CTL_CHECK_ONLY = Reg.HDR_CTL_CHECK_ONLY.of w
  patch : c.rf 0 Reg.HDR_CTL_PATCH = Reg.HDR_CTL_PATCH.of w
  source : ∀ src, c.sourceBytes src = s.sourceBytes src

/-- A coded write keeps a field of State other than its registers and the staged view. -/
theorem State.codeWrite_same (s : State) (m : Nat) {l : Loc} (w : Word) (hl : l.blk = .HDR) {f : Field}
    (h : (0x60000000000000038).testBit f.place = false) : f.same s (s.codeWrite m l w) :=
  ((State.codeWrite_keeps s m l w).widen (m := 0x60000000000000038) (Sub.or rfl (Sub.blk .HDR hl rfl))).same f h

/-- Where a source's bytes are is said by the load's registers, the slots, the buffer and DRAM. -/
theorem State.sourceBytes_congr {s c : State} (hdr : c.hdr = s.hdr) (store : c.store = s.store) (mem : c.mem = s.mem) (stale : c.stale = s.stale)
    (addr : c.rf64 0 Reg.HDR_STAGE_ADDR_LO_ADDR = s.rf64 0 Reg.HDR_STAGE_ADDR_LO_ADDR)
    (len : c.rf 0 Reg.HDR_STAGE_LEN_LEN = s.rf 0 Reg.HDR_STAGE_LEN_LEN) (src : Nat) : c.sourceBytes src = s.sourceBytes src := by
  have byte : ∀ a, c.byteAt a = s.byteAt a := fun a => by
    rw [State.byteAt, State.byteAt, State.staleAt, State.staleAt, mem, stale]
  unfold State.sourceBytes
  split
  · rw [store]
  · rw [store]
  · simp only [State.dramBytes, addr, len, byte]
  · rw [hdr]

theorem State.regAct_hdrCtl {s : State} (hr : Reaches s .HDR 0) (m : Nat) (w : Word) {f : Fld} (hf : f ∈ hdrPulses) (act : State → State) :
    ∃ c, CtlWritten s c w ∧ s.regAct m 0 f w act = act c := by
  have pulses : ∀ f ∈ hdrPulses, f.blk = .HDR ∧ f.off = 0 ∧ f.hi < 8 := by decide
  obtain ⟨blk, off, low⟩ := pulses f hf
  have run := State.regAct_run s m 0 f w act (blk ▸ hr) (d := Reg.HDR_CTL) (by rw [blk, off]; rfl)
  rw [blk, off] at run
  have other : ∀ {g : Fld}, g.blk ≠ .YOK → (g.blk ≠ .HDR ∨ g.off % 1048576 ≠ 0) →
      (s.codeWrite m ⟨.HDR, 0, 0, Reg.HDR_CTL⟩ (w ||| maskBits f.hi f.lo)).rf 0 g = s.rf 0 g := fun yok apart =>
    State.rf_codeWrite_other s m _ _ 0 yok (apart.imp_right .inr)
  have written : ∀ {g : Fld}, g ∈ [Reg.HDR_CTL_SRC, Reg.HDR_CTL_CHECK_ONLY, Reg.HDR_CTL_PATCH] →
      (s.codeWrite m ⟨.HDR, 0, 0, Reg.HDR_CTL⟩ (w ||| maskBits f.hi f.lo)).rf 0 g = g.of w := fun {g} hg => by
    have rw : ∀ g ∈ [Reg.HDR_CTL_SRC, Reg.HDR_CTL_CHECK_ONLY, Reg.HDR_CTL_PATCH], g.blk = .HDR ∧ g.off = 0 ∧ 8 ≤ g.lo ∧ g.hi < 32 ∧
        getBits (resetWord .HDR 0) g.hi g.lo = g.rst ∧ Reg.HDR_CTL.maskAcc .RW &&& maskBits g.hi g.lo = maskBits g.hi g.lo ∧
        (Reg.HDR_CTL.maskAcc .W1C ||| Reg.HDR_CTL.maskAcc .W1S) &&& maskBits g.hi g.lo = 0#32 := by decide
    obtain ⟨gb, go, gl, gh, reset, rw1, rw2⟩ := rw g hg
    exact (State.rf_codeWrite_rw s m ⟨.HDR, 0, 0, Reg.HDR_CTL⟩ _ (by decide) gb go (by rw [gb, go]; exact reset) rw1 rw2 gh).trans
      (getBits_or_maskBits_other w (.inl (by omega)))
  refine ⟨_, ⟨?_, ?_, ?_, ?_, ?_, ?_, ?_, ?_⟩, run⟩
  · exact (State.codeWrite_same s m _ rfl (f := .hdr) rfl).symm
  · exact (State.codeWrite_same s m _ rfl (f := .store) rfl).symm
  · exact other (by decide) (by decide)
  · exact other (by decide) (by decide)
  · exact written (by decide)
  · exact written (by decide)
  · exact written (by decide)
  · refine State.sourceBytes_congr (State.codeWrite_same s m _ rfl (f := .hdr) rfl).symm (State.codeWrite_same s m _ rfl (f := .store) rfl).symm
      (State.codeWrite_same s m _ rfl (f := .mem) rfl).symm (State.codeWrite_same s m _ rfl (f := .stale) rfl).symm ?_ (other (by decide) (by decide))
    unfold State.rf64
    rw [other (by decide) (by decide), State.word_codeWrite_other _ _ _ _ (by decide) (.inr (.inr (by decide)))]

/-! ### A pulse of HDR_KEY_CTL -/

/-- What a pulse of HDR_KEY_CTL hands to its action: the state before, but for SLOT. -/
structure KeyWritten (s c : State) (w : Word) : Prop where
  keys : c.keys = s.keys
  slot : c.rf 0 Reg.HDR_KEY_CTL_SLOT = Reg.HDR_KEY_CTL_SLOT.of w
  input : c.keyInput = s.keyInput

/-- Two folds agree where their steps agree on every element of the list. -/
theorem foldl_eq_of_mem {α β : Type} {f g : α → β → α} {l : List β} (h : ∀ a, ∀ x ∈ l, f a x = g a x) (a : α) : l.foldl f a = l.foldl g a := by
  induction l generalizing a with
  | nil => rfl
  | cons x t ih =>
    rw [List.foldl_cons, List.foldl_cons, h a x List.mem_cons_self]
    exact ih (fun b y hy => h b y (List.mem_cons_of_mem x hy)) _

theorem State.regAct_keyCtl {s : State} (hr : Reaches s .HDR 0) (m : Nat) (w : Word) {f : Fld}
    (hf : f ∈ [Reg.HDR_KEY_CTL_ENROL, Reg.HDR_KEY_CTL_REVOKE]) (act : State → State) :
    ∃ c, KeyWritten s c w ∧ s.regAct m 0 f w act = act c := by
  have pulses : ∀ f ∈ [Reg.HDR_KEY_CTL_ENROL, Reg.HDR_KEY_CTL_REVOKE], f.blk = .HDR ∧ f.off = 0x34 ∧ 1 < f.lo := by decide
  obtain ⟨blk, off, high⟩ := pulses f hf
  have run := State.regAct_run s m 0 f w act (blk ▸ hr) (d := Reg.HDR_KEY_CTL) (by rw [blk, off]; rfl)
  rw [blk, off] at run
  refine ⟨_, ⟨?_, ?_, ?_⟩, run⟩
  · exact (State.codeWrite_same s m _ rfl (f := .keys) rfl).symm
  · exact (State.rf_codeWrite_rw s m ⟨.HDR, 0, 0x34, Reg.HDR_KEY_CTL⟩ _ (by decide) rfl rfl (by decide) (by decide) (by decide) (by decide)).trans
      (getBits_or_maskBits_other w (.inr high))
  · unfold State.keyInput
    refine foldl_eq_of_mem (fun a k hk => ?_) 0
    have digest : (0x40 + 4 * k) % 1048576 ≠ 0x34 % 1048576 := by
      have := List.mem_range.mp hk
      omega
    rw [State.word_codeWrite_other _ _ _ _ (by decide) (.inr (.inr digest))]

end Sys2Proof.Machine
end

section
/-! Owner keys and the Outrider's image buffer (R63, R64): statement O12. -/

namespace Sys2Proof.Machine

/-! ### One slot changes -/

theorem lmod_getD_other {α : Type} (l : List α) {n j : Nat} (f : α → α) (d : α) (h : j ≠ n) : (lmod l n f).getD j d = l.getD j d := by
  induction l generalizing n j with
  | nil => rfl
  | cons x t ih =>
    cases n with
    | zero =>
      obtain ⟨j, rfl⟩ := Nat.exists_eq_succ_of_ne_zero h
      rfl
    | succ n =>
      cases j with
      | zero => rfl
      | succ j => exact ih (fun same => h (congrArg Nat.succ same))

/-- SLOT names one of the four slots. -/
theorem slot_lt (w : Word) : Reg.HDR_KEY_CTL_SLOT.of w < 4 := Nat.mod_lt _ (by decide)

@[simp] theorem State.showKeys_keys (s : State) : s.showKeys.keys = s.keys := rfl

theorem State.gcode_keys (s : State) (d addr master : Nat) : (s.gcode d addr master).keys = s.keys :=
  ((State.gcode_keeps s d addr master).same .keys rfl).symm

/-! ### Enrolment and revocation (R63) -/

/-- ENROL and REVOKE by the Outrider run their action on the state with the written SLOT. -/
theorem State.regOnly_outrider {s : State} (hr : Reaches s .HDR 0) (w : Word) {f : Fld}
    (hf : f ∈ [Reg.HDR_KEY_CTL_ENROL, Reg.HDR_KEY_CTL_REVOKE]) (act other : State → State) :
    ∃ c, KeyWritten s c w ∧ s.regOnly (mOut == mOut) mOut 0 f w act other = act c := State.regAct_keyCtl hr mOut w hf act

/-- A digest goes into an empty slot, and no other slot changes. -/
theorem enrol_empty {s : State} (hr : Reaches s .HDR 0) (hk : s.keys.length = 4) {w : Word}
    (free : s.keys.getD (Reg.HDR_KEY_CTL_SLOT.of w) .empty = .empty) :
    Completes (.enrol mOut w) s (fun t => t.keys.getD (Reg.HDR_KEY_CTL_SLOT.of w) .empty = .enrolled s.keyInput ∧
      ∀ j, j ≠ Reg.HDR_KEY_CTL_SLOT.of w → t.keys.getD j .empty = s.keys.getD j .empty) := by
  obtain ⟨c, ⟨keys, slot, input⟩, run⟩ := State.regOnly_outrider hr w (f := Reg.HDR_KEY_CTL_ENROL) (by decide) (fun t => t.actEnrol)
    (fun t => t.keyRefused mOut 0x1034)
  have enrolled : c.actEnrol.keys = lmod s.keys (Reg.HDR_KEY_CTL_SLOT.of w) (enrolSlot s.keyInput) := by
    rw [State.actEnrol, slot, keys, if_pos free, State.showKeys_keys, input]
  refine ⟨_, congrArg Host.Outcome.next run, ?_, fun j hj => ?_⟩
  · rw [enrolled, lmod_getD_same _ _ _ _ (hk ▸ slot_lt w), free]
    rfl
  · rw [enrolled, lmod_getD_other _ _ _ hj]

/-- A slot that is not empty refuses a digest. -/
theorem enrol_taken {s : State} (hr : Reaches s .HDR 0) {w : Word} (taken : s.keys.getD (Reg.HDR_KEY_CTL_SLOT.of w) .empty ≠ .empty) :
    Completes (.enrol mOut w) s (fun t => t.keys = s.keys ∧ t.rf 0 Reg.HDR_KEY_CTL_REFUSED = 1) := by
  obtain ⟨c, ⟨keys, slot, -⟩, run⟩ := State.regOnly_outrider hr w (f := Reg.HDR_KEY_CTL_ENROL) (by decide) (fun t => t.actEnrol)
    (fun t => t.keyRefused mOut 0x1034)
  have refused : c.actEnrol = c.wf 0 Reg.HDR_KEY_CTL_REFUSED 1 := by
    rw [State.actEnrol, slot, keys, if_neg taken]
  refine ⟨_, congrArg Host.Outcome.next run, ?_, ?_⟩
  · rw [refused, State.wf_keys, keys]
  · rw [refused, State.rf_wf_same _ _ _ _ (by decide)]
    rfl

/-- Whatever a slot held, a revocation leaves it revoked. -/
theorem revokeSlot_revoked (k : KeySlot) : ∃ d, revokeSlot k = .revoked d := by
  cases k with
  | empty => exact ⟨0, rfl⟩
  | enrolled d => exact ⟨d, rfl⟩
  | revoked d => exact ⟨d, rfl⟩

/-- The slot that REVOKE names is revoked, and no other slot changes. -/
theorem revoke_revokes {s : State} (hr : Reaches s .HDR 0) (hk : s.keys.length = 4) (w : Word) :
    Completes (.revoke mOut w) s (fun t => (∃ d, t.keys.getD (Reg.HDR_KEY_CTL_SLOT.of w) .empty = .revoked d) ∧
      ∀ j, j ≠ Reg.HDR_KEY_CTL_SLOT.of w → t.keys.getD j .empty = s.keys.getD j .empty) := by
  obtain ⟨c, ⟨keys, slot, -⟩, run⟩ := State.regOnly_outrider hr w (f := Reg.HDR_KEY_CTL_REVOKE) (by decide) (fun t => t.actRevoke)
    (fun t => t.keyRefused mOut 0x1034)
  have revoked : c.actRevoke.keys = lmod s.keys (Reg.HDR_KEY_CTL_SLOT.of w) revokeSlot := by
    rw [State.actRevoke, State.showKeys_keys, slot, keys]
  refine ⟨_, congrArg Host.Outcome.next run, ?_, fun j hj => ?_⟩
  · rw [revoked, lmod_getD_same _ _ _ _ (hk ▸ slot_lt w)]
    exact revokeSlot_revoked _
  · rw [revoked, lmod_getD_other _ _ _ hj]

/-- Another master's write of HDR_KEY_CTL is refused. -/
theorem State.regOnly_refused {s : State} (hr : Reaches s .HDR 0) {m : Nat} (hm : m ≠ mOut) (w : Word) {f : Fld} (hf : f.blk = .HDR)
    (act other : State → State) : s.regOnly (m == mOut) m 0 f w act other = other s := by
  rw [State.regOnly, beq_false_of_ne hm, if_neg Bool.false_ne_true]
  exact State.regDo_run s m 0 f w other (hf ▸ hr)

/-- The refusal records G-0011 and changes no slot. -/
theorem State.keyRefused_records (s : State) (m off : Nat) :
    (s.keyRefused m off).keys = s.keys ∧ (s.keyRefused m off).rf 0 Reg.GLB_ERR_CODE = codeWord 'G' 0x0011 :=
  ⟨State.gcode_keys .., State.rf_gcode_code ..⟩

/-! ### The Outrider's image buffer (R64) -/

theorem exec_orDataAppend {s : State} (hr : Reaches s .HDR 0) (m : Nat) (w : Word) : exec (.orDataAppend m w) s = .next (s.actOrData m w) :=
  congrArg Host.Outcome.next (State.regDo_run s m 0 Reg.HDR_OR_DATA_DATA w _ hr)

/-- Another master's data is discarded. -/
theorem State.actOrData_other (s : State) {m : Nat} (hm : m ≠ mOut) (w : Word) : s.actOrData m w = s := by
  rw [State.actOrData, if_neg (fun both => hm both.1)]

/-- The four bytes of a word, low byte first. -/
theorem toBytes_word (w : Word) :
    toBytes 4 w.toNat = [w.toNat % 256, w.toNat / 256 % 256, w.toNat / 65536 % 256, w.toNat / 16777216].map (BitVec.ofNat 8) := by
  have byte : ∀ n, BitVec.ofNat 8 (n % 256) = BitVec.ofNat 8 n := fun n => BitVec.eq_of_toNat_eq (by simp)
  simp only [toBytes, List.map_cons, List.map_nil, byte, Nat.div_div_eq_div_mul]

/-- Data of the Outrider joins the buffer while it has room, and HDR_OR_COUNT counts it. -/
theorem orDataAppend_appends {s : State} (hr : Reaches s .HDR 0) (w : Word) (room : s.hdr.orBuf.length + 4 ≤ 16777216) :
    Completes (.orDataAppend mOut w) s (fun t => t.hdr.orBuf = s.hdr.orBuf ++
      [w.toNat % 256, w.toNat / 256 % 256, w.toNat / 65536 % 256, w.toNat / 16777216].map (BitVec.ofNat 8) ∧
      t.rf 0 Reg.HDR_OR_COUNT_BYTES = s.hdr.orBuf.length + 4) := by
  have taken : s.actOrData mOut w =
      (({ s with hdr := { s.hdr with orBuf := s.hdr.orBuf ++ toBytes 4 w.toNat } } : State).setWord .HDR 0 0x2C w).wf 0 Reg.HDR_OR_COUNT_BYTES
        (s.hdr.orBuf ++ toBytes 4 w.toNat).length := by
    rw [State.actOrData, if_pos ⟨rfl, room⟩]
  refine ⟨_, exec_orDataAppend hr mOut w, ?_, ?_⟩
  · rw [taken, ← toBytes_word]
    rfl
  · rw [taken, State.rf_wf_same _ _ _ _ (by decide), List.length_append]
    exact Nat.mod_eq_of_lt (show s.hdr.orBuf.length + 4 < 33554432 by omega)

/-- CLEAR empties the buffer. -/
theorem orBufferClear_empties {s : State} (hr : Reaches s .HDR 0) (m : Nat) (w : Word) :
    Completes (.orBufferClear m w) s (fun t => t.hdr = { s.hdr with orBuf := [] } ∧ t.rf 0 Reg.HDR_OR_COUNT_BYTES = 0) := by
  refine ⟨_, congrArg Host.Outcome.next (State.regAct_run s m 0 Reg.HDR_OR_COUNT_CLEAR w _ hr (d := Reg.HDR_OR_COUNT) rfl), ?_, ?_⟩
  · rw [State.actOrClear, State.wf_hdr, ← State.codeWrite_same s m _ rfl (f := .hdr) rfl]
  · exact State.rf_wf_same _ _ _ _ (by decide)

/-- Settles O12: each clause is the lemma of its command and of its slot or master. -/
theorem keySlotsAreWrittenOnceByTheOutrider : Obligations.KeySlotsAreWrittenOnceByTheOutrider := by
  unfold Obligations.KeySlotsAreWrittenOnceByTheOutrider
  intro s m w hr hk
  refine ⟨enrol_empty hr hk, enrol_taken hr, revoke_revokes hr hk w, fun hm => ⟨?_, ?_, ?_⟩, orDataAppend_appends hr w, orBufferClear_empties hr m w⟩
  · exact ⟨_, congrArg Host.Outcome.next (State.regOnly_refused hr hm w rfl _ _), State.keyRefused_records ..⟩
  · exact ⟨_, congrArg Host.Outcome.next (State.regOnly_refused hr hm w rfl _ _), State.keyRefused_records ..⟩
  · exact ⟨s, (exec_orDataAppend hr m w).trans (by rw [State.actOrData_other s hm]), rfl⟩

end Sys2Proof.Machine
end

section
/-! Requests of HDR_CTL (R64, R66, R67, R71, R77): what a failed request leaves, and each request by the phase that it finds: statement O10. -/

namespace Sys2Proof.Machine

/-! ### A failed request (R68, R482) -/

@[simp] theorem State.hdrFail_hdr (s : State) (e : HErr) (log : Bool) : (s.hdrFail e log).hdr = s.hdr :=
  ((State.hdrFail_keeps s e log).same .hdr rfl).symm

theorem State.rf_hcode (s : State) (d sect record carriage value : Nat) (log : Bool) (g : Fld) :
    (s.hcode d sect record carriage value log).rf 0 g = (((((s.wf 0 Reg.HDR_ERR_CODE (codeWord 'H' d)).wf 0 Reg.HDR_ERR_LOC_CARRIAGE carriage).wf 0
      Reg.HDR_ERR_LOC_SECTION sect).wf 0 Reg.HDR_ERR_LOC_RECORD record).wf 0 Reg.HDR_ERR_VALUE_VALUE value).rf 0 g := by
  unfold State.hcode
  split
  · exact (State.logFault_keeps _ _ _ _ _).rf 0 g (by cases g.blk <;> rfl)
  · rfl

/-- The fields that a failed request writes. -/
def failFields : List Fld :=
  [Reg.HDR_STATUS_FAIL, Reg.HDR_ERR_CODE, Reg.HDR_ERR_LOC_CARRIAGE, Reg.HDR_ERR_LOC_SECTION, Reg.HDR_ERR_LOC_RECORD, Reg.HDR_ERR_VALUE_VALUE]

@[simp] theorem State.rf_hdrFail_fail (s : State) (e : HErr) (log : Bool) : (s.hdrFail e log).rf 0 Reg.HDR_STATUS_FAIL = 1 :=
  State.rf_ev_same _ 0 _ (by decide) (by decide) (by decide)

theorem State.rf_hdrFail_code (s : State) (e : HErr) (log : Bool) : (s.hdrFail e log).rf 0 Reg.HDR_ERR_CODE = codeWord 'H' e.code := by
  have fits : codeWord 'H' e.code < 2 ^ 32 := by
    have : e.code % 65536 < 65536 := Nat.mod_lt _ (by decide)
    change 72 * 65536 + e.code % 65536 < 4294967296
    omega
  rw [State.hdrFail, State.rf_ev_apart _ (by decide) (by decide), State.rf_hcode, State.rf_wf_apart _ _ _ (by decide),
    State.rf_wf_apart _ _ _ (by decide), State.rf_wf_apart _ _ _ (by decide), State.rf_wf_apart _ _ _ (by decide),
    State.rf_wf_same _ _ _ _ (by decide)]
  exact Nat.mod_eq_of_lt fits

/-- A failed request leaves every other field but the Rein events alone. -/
theorem State.rf_hdrFail_other (s : State) (e : HErr) (log : Bool) {g : Fld} (h : g.blk ≠ .REI) (apart : ∀ f ∈ failFields, Apart g f) :
    (s.hdrFail e log).rf 0 g = s.rf 0 g := by
  simp only [failFields, List.forall_mem_cons] at apart
  obtain ⟨fail, code, carriage, sect, record, value, -⟩ := apart
  rw [State.hdrFail, State.rf_ev_apart _ h fail, State.rf_hcode, State.rf_wf_apart _ _ _ value, State.rf_wf_apart _ _ _ record,
    State.rf_wf_apart _ _ _ sect, State.rf_wf_apart _ _ _ carriage, State.rf_wf_apart _ _ _ code]

@[simp] theorem State.phase_hdrFail (s : State) (e : HErr) (log : Bool) : (s.hdrFail e log).phase = s.phase :=
  State.rf_hdrFail_other s e log (by decide) (by decide)

/-- A phase fits its field. -/
@[simp] theorem State.phase_toPhase (s : State) (n : Nat) : (s.toPhase n).phase = n % 8 := State.rf_wf_same s 0 _ n (by decide)

@[simp] theorem State.toPhase_hdr (s : State) (n : Nat) : (s.toPhase n).hdr = s.hdr := rfl

/-! ### LOAD (R64, R67, R71, R77) -/

/-- A one-bit field is set where it reads 1. -/
theorem State.rb_eq_true {s : State} {i : Nat} {f : Fld} : s.rb i f = true ↔ s.rf i f = 1 := beq_iff_eq

/-- What a refused request leaves: its H-code and FAIL, and nothing else of a load. -/
theorem State.hdrFail_refusal (c : State) (code : Nat) :
    (c.hdrFail (hErr0 code 0) false).rf 0 Reg.HDR_ERR_CODE = codeWord 'H' code ∧
      (c.hdrFail (hErr0 code 0) false).rf 0 Reg.HDR_STATUS_FAIL = 1 ∧ (c.hdrFail (hErr0 code 0) false).phase = c.phase ∧
      (c.hdrFail (hErr0 code 0) false).hdr = c.hdr :=
  ⟨State.rf_hdrFail_code .., State.rf_hdrFail_fail .., State.phase_hdrFail .., State.hdrFail_hdr ..⟩

/-- A LOAD that the part cannot take now is refused with H-0005. -/
theorem harnessLoad_busy {s : State} (hr : Reaches s .HDR 0) (m : Nat) (w : Word)
    (busy : s.rf 0 Reg.GLB_BOOT_STAGE_STAGE < 9 ∨ (1 ≤ s.phase ∧ s.phase ≤ 4) ∨ s.phase = 6 ∨ (s.phase = 5 ∧ Reg.HDR_CTL_PATCH.of w = 1)) :
    Completes (.harnessLoad m w) s (fun t =>
      t.rf 0 Reg.HDR_ERR_CODE = codeWord 'H' 5 ∧ t.rf 0 Reg.HDR_STATUS_FAIL = 1 ∧ t.phase = s.phase ∧ t.hdr = s.hdr) := by
  obtain ⟨c, written, run⟩ := State.regAct_hdrCtl hr m w (f := Reg.HDR_CTL_LOAD) (by decide) (fun t => t.actLoad)
  have refused : c.actLoad = c.hdrFail (hErr0 0x05 0) false := by
    rw [State.actLoad, if_pos]
    rwa [written.stage, written.phase, State.rb_eq_true, written.patch]
  refine ⟨_, congrArg Host.Outcome.next run, ?_⟩
  rw [refused, ← written.phase, ← written.hdr]
  exact c.hdrFail_refusal 5

/-- A full image asked for while a patch is pending is refused with H-0006. -/
theorem harnessLoad_patchPending {s : State} (hr : Reaches s .HDR 0) (m : Nat) {w : Word} (pending : s.phase = 5)
    (up : 9 ≤ s.rf 0 Reg.GLB_BOOT_STAGE_STAGE) (full : Reg.HDR_CTL_PATCH.of w ≠ 1) :
    Completes (.harnessLoad m w) s (fun t =>
      t.rf 0 Reg.HDR_ERR_CODE = codeWord 'H' 6 ∧ t.rf 0 Reg.HDR_STATUS_FAIL = 1 ∧ t.phase = s.phase ∧ t.hdr = s.hdr) := by
  obtain ⟨c, written, run⟩ := State.regAct_hdrCtl hr m w (f := Reg.HDR_CTL_LOAD) (by decide) (fun t => t.actLoad)
  have refused : c.actLoad = c.hdrFail (hErr0 0x06 0) false := by
    rw [State.actLoad, if_neg, if_pos (written.phase.trans pending)]
    rw [written.stage, written.phase, State.rb_eq_true, written.patch]
    omega
  refine ⟨_, congrArg Host.Outcome.next run, ?_⟩
  rw [refused, ← written.phase, ← written.hdr]
  exact c.hdrFail_refusal 6

/-- While nothing runs a LOAD begins a load as HDR_CTL says; a patch comes from host memory or the Outrider buffer. -/
theorem harnessLoad_begins {s : State} (hr : Reaches s .HDR 0) (m : Nat) {w : Word} (up : 9 ≤ s.rf 0 Reg.GLB_BOOT_STAGE_STAGE) (idle : s.phase = 0)
    (src : Reg.HDR_CTL_PATCH.of w = 1 → 2 ≤ Reg.HDR_CTL_SRC.of w) :
    Completes (.harnessLoad m w) s (fun t => t.phase = 1 ∧
      t.hdr.load = some ⟨.request, Reg.HDR_CTL_SRC.of w, Reg.HDR_CTL_CHECK_ONLY.of w == 1, Reg.HDR_CTL_PATCH.of w == 1, [], none⟩ ∧
      t.hdr.active = s.hdr.active) := by
  obtain ⟨c, written, run⟩ := State.regAct_hdrCtl hr m w (f := Reg.HDR_CTL_LOAD) (by decide) (fun t => t.actLoad)
  have begins : c.actLoad = c.beginLoad .request (Reg.HDR_CTL_SRC.of w) (Reg.HDR_CTL_CHECK_ONLY.of w == 1) (Reg.HDR_CTL_PATCH.of w == 1) := by
    rw [State.actLoad, if_neg, if_neg, if_neg, written.src, State.rb, State.rb, written.checkOnly, written.patch]
    · rw [State.rb_eq_true, written.patch, written.src]
      exact fun ⟨patch, slot⟩ => absurd (src patch) (by omega)
    · rw [written.phase, idle]
      decide
    · rw [written.stage, written.phase, State.rb_eq_true, written.patch]
      omega
  refine ⟨_, congrArg Host.Outcome.next run, ?_⟩
  rw [begins]
  exact ⟨State.phase_toPhase c 1, rfl, by rw [← written.hdr]; rfl⟩

/-! ### ABORT (R71) -/

theorem harnessAbort_ends {s : State} (hr : Reaches s .HDR 0) (m : Nat) (w : Word) (running : 1 ≤ s.phase ∧ s.phase ≤ 3) :
    Completes (.harnessAbort m w) s (fun t => t.phase = 0 ∧ t.hdr = { s.hdr with load := none } ∧
      t.rf 0 Reg.HDR_ERR_CODE = codeWord 'H' 8 ∧ t.rf 0 Reg.HDR_STATUS_FAIL = 1) := by
  obtain ⟨c, written, run⟩ := State.regAct_hdrCtl hr m w (f := Reg.HDR_CTL_ABORT) (by decide) (fun t => t.actAbortLoad)
  have ends : c.actAbortLoad = ({ c.toPhase 0 with hdr := { c.hdr with load := none } } : State).hdrFail (hErr0 0x08 0) false := by
    rw [State.actAbortLoad, if_pos (written.phase.symm ▸ running)]
  obtain ⟨code, fail, phase, hdr⟩ := ({ c.toPhase 0 with hdr := { c.hdr with load := none } } : State).hdrFail_refusal 8
  refine ⟨_, congrArg Host.Outcome.next run, ?_⟩
  rw [ends]
  exact ⟨phase.trans (State.phase_toPhase c 0), hdr.trans (by rw [written.hdr]), code, fail⟩

theorem harnessAbort_late {s : State} (hr : Reaches s .HDR 0) (m : Nat) (w : Word) (applying : s.phase = 4) :
    Completes (.harnessAbort m w) s (fun t => t.phase = 4 ∧ t.hdr = s.hdr) := by
  obtain ⟨c, written, run⟩ := State.regAct_hdrCtl hr m w (f := Reg.HDR_CTL_ABORT) (by decide) (fun t => t.actAbortLoad)
  have stays : c.actAbortLoad = c := by
    rw [State.actAbortLoad, if_neg]
    rw [written.phase]
    omega
  refine ⟨_, congrArg Host.Outcome.next run, ?_⟩
  rw [stays]
  exact ⟨written.phase.trans applying, written.hdr⟩

/-! ### PATCH_CANCEL (R77) -/

theorem patchCancel_drops {s : State} (hr : Reaches s .HDR 0) (m : Nat) (w : Word) {p : Patch} (hp : s.hdr.patch = some p)
    (step : p.step = .pending) :
    Completes (.patchCancel m w) s (fun t => t.phase = 0 ∧ t.hdr = { s.hdr with patch := none } ∧ t.rf 0 Reg.HDR_STATUS_PATCH_CARRIAGE = 0xFF) := by
  obtain ⟨c, written, run⟩ := State.regAct_hdrCtl hr m w (f := Reg.HDR_CTL_PATCH_CANCEL) (by decide) (fun t => t.actPatchCancel)
  have drops : c.actPatchCancel =
      ({ c.toPhase 0 with hdr := { s.hdr with patch := none } } : State).wf 0 Reg.HDR_STATUS_PATCH_CARRIAGE 0xFF := by
    simp only [State.actPatchCancel, written.hdr, hp, step, if_true]
  refine ⟨_, congrArg Host.Outcome.next run, ?_⟩
  rw [drops]
  exact ⟨(State.rf_wf_apart _ _ _ (by decide)).trans (State.phase_toPhase c 0), rfl, State.rf_wf_same _ _ _ _ (by decide)⟩

theorem patchCancel_late {s : State} (hr : Reaches s .HDR 0) (m : Nat) (w : Word) {p : Patch} (hp : s.hdr.patch = some p) (step : p.step ≠ .pending) :
    Completes (.patchCancel m w) s (fun t => t.hdr = s.hdr ∧ t.phase = s.phase) := by
  obtain ⟨c, written, run⟩ := State.regAct_hdrCtl hr m w (f := Reg.HDR_CTL_PATCH_CANCEL) (by decide) (fun t => t.actPatchCancel)
  have stays : c.actPatchCancel = c := by
    simp only [State.actPatchCancel, written.hdr, hp, step, if_false]
  refine ⟨_, congrArg Host.Outcome.next run, ?_⟩
  rw [stays]
  exact ⟨written.hdr, written.phase⟩

/-! ### PROG_A and PROG_B (R66) -/

/-- Programming begins with the bytes of the source, and the slots are as they were. -/
theorem actProg_begins {s c : State} {w : Word} (written : CtlWritten s c w) (why : LoadWhy) (idle : s.phase = 0)
    (up : 9 ≤ s.rf 0 Reg.GLB_BOOT_STAGE_STAGE) (src : 2 ≤ Reg.HDR_CTL_SRC.of w) {bytes : List Byte}
    (source : s.sourceBytes (Reg.HDR_CTL_SRC.of w) = some bytes) :
    (c.actProg why).phase = 6 ∧ (c.actProg why).store = s.store ∧
      (c.actProg why).hdr = { s.hdr with load := some ⟨why, Reg.HDR_CTL_SRC.of w, false, false, bytes, none⟩ } := by
  have begins : c.actProg why =
      { c.toPhase 6 with hdr := { s.hdr with load := some ⟨why, Reg.HDR_CTL_SRC.of w, false, false, bytes, none⟩ } } := by
    rw [State.actProg, if_neg, if_neg, if_neg, written.src, written.hdr, written.source, source, Option.getD_some]
    · rw [written.src]
      omega
    · rw [written.phase, written.stage]
      omega
    · rw [written.phase, idle]
      decide
  rw [begins]
  exact ⟨State.phase_toPhase c 6, written.store, rfl⟩

/-- Settles O10: each clause is the lemma of its command in the phase that it names. -/
theorem harnessRequestsStartEndOrAreRefused : Obligations.HarnessRequestsStartEndOrAreRefused := by
  unfold Obligations.HarnessRequestsStartEndOrAreRefused
  intro s m w hr
  refine ⟨fun early => harnessLoad_busy hr m w (.inl early), fun up idle src => harnessLoad_begins hr m up idle src,
    fun low high => harnessLoad_busy hr m w (.inr (.inl ⟨low, high⟩)), fun pending up => ?_, fun low high => harnessAbort_ends hr m w ⟨low, high⟩,
    harnessAbort_late hr m w, fun p hp step => patchCancel_drops hr m w hp step, fun p hp step => patchCancel_late hr m w hp step,
    fun idle up src bytes source => ⟨?_, ?_⟩⟩
  · split
    next patch => exact pending ▸ harnessLoad_busy hr m w (.inr (.inr (.inr ⟨pending, patch⟩)))
    next full => exact pending ▸ harnessLoad_patchPending hr m pending up full
  · obtain ⟨c, written, run⟩ := State.regAct_hdrCtl hr m w (f := Reg.HDR_CTL_PROG_A) (by decide) (fun t => t.actProg .progA)
    exact ⟨_, congrArg Host.Outcome.next run, actProg_begins written .progA idle up src source⟩
  · obtain ⟨c, written, run⟩ := State.regAct_hdrCtl hr m w (f := Reg.HDR_CTL_PROG_B) (by decide) (fun t => t.actProg .progB)
    exact ⟨_, congrArg Host.Outcome.next run, actProg_begins written .progB idle up src source⟩

end Sys2Proof.Machine
end

section
/-! What an apply leaves of the load (R59, R67, R70): no register access and no placing of records touches the harness, a load or a patch; only the
Outrider's image buffer may be cleared by an INIT record. -/

namespace Sys2Proof.Machine

/-! ### The same harness -/

/-- Of the harness, a load and a patch s holds what r holds; the Outrider's image buffer may differ. -/
def SameHarness (r s : State) : Prop := ∃ buf, s.hdr = { r.hdr with orBuf := buf }

theorem SameHarness.of_eq {r s : State} (h : s.hdr = r.hdr) : SameHarness r s := ⟨r.hdr.orBuf, h⟩

theorem SameHarness.trans {r s t : State} (h : SameHarness r s) (k : SameHarness s t) : SameHarness r t := by
  obtain ⟨a, ha⟩ := h
  obtain ⟨b, hb⟩ := k
  exact ⟨b, by rw [hb, ha]⟩

theorem SameHarness.fold {α : Type} {r s : State} {f : State → α → State} {l : List α} (h : SameHarness r s) (k : ∀ t x, SameHarness t (f t x)) :
    SameHarness r (l.foldl f s) := by
  induction l generalizing s with
  | nil => exact h
  | cons x t ih => exact ih (h.trans (k s x))

/-- A frame without the load's bit. -/
theorem Keeps.sameHarness {m : Nat} {r s : State} (k : Keeps m r s) (h : m.testBit Field.hdr.place = false) : SameHarness r s :=
  .of_eq (k.same .hdr h).symm

/-- The bits of blocks lie above those of fields. -/
theorem testBit_or_blkBit {a : Nat} (b : Blk) {n : Nat} (hn : n < 64) (h : a.testBit n = false) : (a ||| blkBit b).testBit n = false := by
  rw [Nat.testBit_or, h, blkBit, Nat.testBit_two_pow, Bool.false_or, decide_eq_false_iff_not]
  omega

/-- A frame with a block's registers and without the load's bit. -/
theorem Keeps.sameHarness_blk {m : Nat} {b : Blk} {r s : State} (k : Keeps (m ||| blkBit b) r s) (h : m.testBit Field.hdr.place = false) :
    SameHarness r s := k.sameHarness (testBit_or_blkBit b (by decide) h)

/-! ### Register accesses (R59, R392) -/

theorem State.codeWrite_sameHarness (s : State) (m : Nat) (l : Loc) (w : Word) : SameHarness s (s.codeWrite m l w) :=
  (State.codeWrite_keeps s m l w).sameHarness_blk rfl

/-- In the HDR window a master other than the Outrider can at most clear the image buffer. -/
theorem State.hdrWrite_sameHarness (s : State) {m : Nat} (hm : m ≠ mOut) (l : Loc) (w : Word) : SameHarness s (s.hdrWrite m l w) := by
  unfold State.hdrWrite
  split
  next data => exact .of_eq (by rw [State.actOrData_other s hm])
  next =>
    split
    next keys =>
      exact (State.gcode_keeps ..).sameHarness rfl
    next =>
      extract_lets s1
      have coded : SameHarness s s1 := State.codeWrite_sameHarness s m l w
      split
      next count =>
        unfold State.on
        split
        next clear => exact coded.trans ⟨[], rfl⟩
        next => exact coded
      next => exact coded

/-- A write at a register, where the actions from above keep the harness. -/
theorem State.writeAt_sameHarness {top : State → Nat → Loc → Word → State} {m : Nat} (hm : m ≠ mOut)
    (htop : ∀ z l w, SameHarness z (top z m l w)) (s : State) (l : Loc) (w : Word) : SameHarness s (s.writeAt top m l w) := by
  have coded := State.codeWrite_sameHarness s m l w
  unfold State.writeAt
  split
  case h_1 => exact (State.glbWrite_keeps ..).sameHarness_blk rfl
  case h_2 =>
    split
    next => exact coded.trans (htop ..)
    next => exact State.hdrWrite_sameHarness s hm l w
  case h_3 => exact (State.yokWrite_keeps ..).sameHarness rfl
  case h_4 => exact (State.pstWrite_keeps ..).sameHarness_blk rfl
  case h_5 => exact (State.lchWrite_keeps ..).sameHarness_blk rfl
  case h_6 => exact (State.tmtWrite_keeps ..).sameHarness rfl
  case h_7 => exact (State.wayWrite_keeps ..).sameHarness_blk rfl
  case h_8 =>
    split
    next => exact coded.trans (htop ..)
    next =>
      split
      next => exact htop ..
      next => exact (State.pwrWrite_keeps ..).sameHarness_blk rfl
  case h_9 => exact (State.paiWrite_keeps ..).sameHarness_blk rfl
  case h_10 => exact (State.lanWrite_keeps ..).sameHarness rfl
  case h_11 | h_12 | h_13 | h_14 | h_15 | h_16 => exact (State.fabWrite_keeps ..).sameHarness rfl
  case h_17 => exact (State.reiWrite_keeps ..).sameHarness_blk rfl
  case h_18 =>
    split
    next => exact (State.reroute_keeps ..).sameHarness_blk rfl
    next => exact coded
  case h_19 => exact (State.ingWrite_keeps ..).sameHarness rfl
  case h_20 | h_21 => exact (State.tblWrite_keeps ..).sameHarness rfl
  case h_22 => exact (State.sprWrite_keeps ..).sameHarness_blk rfl
  case h_23 => exact (State.cplWrite_keeps ..).sameHarness_blk rfl
  case h_24 => exact (State.dbmWrite_keeps ..).sameHarness_blk (testBit_or_blkBit _ (by decide) rfl)
  all_goals exact coded

theorem State.busWriteWith_sameHarness {top : State → Nat → Loc → Word → State} {m : Nat} (hm : m ≠ mOut)
    (htop : ∀ z l w, SameHarness z (top z m l w)) (s : State) (off : Nat) (w : Word) : SameHarness s (s.busWriteWith top m off w).1 := by
  have refused := (State.guardRefuses_keeps s m off).sameHarness rfl
  have waits := (State.hold_keeps s m off true w).sameHarness rfl
  have vacant := (State.unoccupied_keeps s m off).sameHarness rfl
  unfold State.busWriteWith
  extract_lets staged a
  split
  next directory =>
    split
    · exact refused
    · exact waits
    · exact .of_eq rfl
  next =>
    split
    next => exact vacant
    next l _ =>
      split
      next => exact vacant
      next =>
        split
        · exact refused
        · exact waits
        · change SameHarness s (if staged = true then s.stagedAt m l w else s.writeAt top m l w)
          split
          · exact (State.stagedAt_keeps ..).sameHarness rfl
          · exact State.writeAt_sameHarness hm htop s l w

/-- An INIT record reads and writes as a master other than the Outrider. -/
theorem State.initOne_sameHarness (s : State) (r : InitRec) : SameHarness s (s.initOne r) := by
  unfold State.initOne
  split
  next => exact .of_eq rfl
  next l _ =>
    extract_lets v rw act x old
    have read : SameHarness s x.2.1 := (State.busRead_keeps s 0x20 r.offset).sameHarness rfl
    exact read.trans (State.busWriteWith_sameHarness (by decide) (fun z l w => (initTop_keeps z 0x20 l w).sameHarness rfl) ..)

theorem State.runInit_sameHarness (s : State) (im : Image) : SameHarness s (s.runInit im) :=
  SameHarness.fold (.of_eq rfl) (fun t r => t.initOne_sameHarness r)

/-! ### Placing and publishing an image (R67 steps 5 and 6, R70) -/

/-- A frame without the load's bit, as an equation. -/
theorem Keeps.hdr_eq {m : Nat} {r s : State} (k : Keeps m r s) (h : m.testBit Field.hdr.place = false) : s.hdr = r.hdr := (k.same .hdr h).symm

/-- A fold of operations that leave the load alone. -/
theorem foldl_hdr {α : Type} {f : State → α → State} (k : ∀ t x, (f t x).hdr = t.hdr) (l : List α) (s : State) : (l.foldl f s).hdr = s.hdr := by
  induction l generalizing s with
  | nil => rfl
  | cons x t ih => exact (ih (f s x)).trans (k s x)

/-- A full image in place is the active one, with its partitions and no patch. -/
theorem State.placed_hdr (s : State) (im : Image) :
    (s.placed im).hdr = { s.hdr with active := some im, patches := [], parts := fullParts im } := by
  unfold State.placed
  extract_lets held keep r s0 s1 s2 s3 s4 s5 s6 s7 s8 s9
  have h1 : s1.hdr = s0.hdr := ((State.clearShown_keeps ..).hdr_eq rfl).trans ((State.restore_keeps ..).hdr_eq rfl)
  have h2 : s2.hdr = s1.hdr := foldl_hdr (fun t r => (t.placeLane_keeps r).hdr_eq rfl) ..
  have h3 : s3.hdr = s2.hdr := foldl_hdr (fun t c => (t.placeCoach_keeps im c).hdr_eq rfl) ..
  have h4 : s4.hdr = s3.hdr := foldl_hdr (fun t r => (t.placeMews_keeps im r).hdr_eq rfl) ..
  have h5 : s5.hdr = s4.hdr := foldl_hdr (fun t r => ((State.bindArchive_keeps ..).hdr_eq rfl).trans ((t.placeCarriage_keeps r).hdr_eq rfl)) ..
  have h6 : s6.hdr = s5.hdr := foldl_hdr (fun t g => (t.placeSeam_keeps g).hdr_eq rfl) ..
  have h7 : s7.hdr = s6.hdr := ((State.placePackage_keeps ..).hdr_eq rfl).trans (((State.placeReins_keeps ..).hdr_eq rfl).trans
    (((State.placeTime_keeps ..).hdr_eq rfl).trans ((State.placePost_keeps ..).hdr_eq rfl)))
  have h8 : s8.hdr = s7.hdr := foldl_hdr (fun t r => ((State.placeNpc_keeps ..).hdr_eq rfl).trans ((t.placePort_keeps r).hdr_eq rfl)) ..
  have h9 : s9.hdr = s8.hdr := foldl_hdr (fun t e => (t.wyoke_keeps e).hdr_eq rfl) ..
  rw [foldl_hdr (fun t e => State.setWord_hdr ..), h9, h8, h7, h6, h5, h4, h3, h2, h1]

/-- What step 5 sets up is the active image, and the load is as it was. -/
theorem State.setUp_hdr (s : State) (im : Image) :
    (s.setUp im).hdr = { s.hdr with active := some im, patches := [], parts := fullParts im } := by
  unfold State.setUp
  extract_lets kept a0 a1 a2 a3 p p1 p2
  have h0 : a0.hdr = s.hdr := foldl_hdr (fun t i => (t.patAbort_keeps i _).hdr_eq rfl) ..
  have h2 : a2.hdr = { s.hdr with active := some im, patches := [], parts := fullParts im } :=
    (State.placed_hdr a1 im).trans (by rw [show a1.hdr = s.hdr from h0])
  have h3 : a3.hdr = a2.hdr := foldl_hdr (fun _ _ => (State.jobEnd_keeps ..).hdr_eq rfl) ..
  have hp : p.hdr = a3.hdr := (State.enginesFresh_keeps ..).hdr_eq rfl
  have hp1 : p1.hdr = p.hdr := ((State.markFlush_keeps _).hdr_eq rfl).trans (((State.fabricFresh_keeps _).hdr_eq rfl).trans
    ((State.portsLoad_keeps ..).hdr_eq rfl))
  have hp2 : p2.hdr = p1.hdr := ((State.ringReload_keeps ..).hdr_eq rfl).trans ((State.lanesKeep_keeps ..).hdr_eq rfl)
  have archives : ∀ (t : State) (g : Nat), (if s.keepsArchive im.drams g then t.arcKeep s g else t).hdr = t.hdr := fun t g => by
    split
    · exact (State.arcKeep_keeps ..).hdr_eq rfl
    · rfl
  rw [foldl_hdr archives, hp2, hp1, hp, h3, h2]

/-- An image that applies is the active one, and the load is as it was. -/
theorem State.applyImage_hdr (s : State) (im : Image) :
    (s.applyImage im).hdr.active = some im ∧ (s.applyImage im).hdr.load = s.hdr.load := by
  unfold State.applyImage
  extract_lets s1 s2 s3
  obtain ⟨buf, h1⟩ := State.runInit_sameHarness ((s.wf 0 Reg.HDR_STATUS_PHASE 0).setUp im) im
  have h2 : s2.hdr = s1.hdr := ((State.publish_keeps _).hdr_eq rfl).trans ((State.lanesGo_keeps ..).hdr_eq rfl)
  have h3 : s3.hdr = s2.hdr := foldl_hdr (fun t l => (State.wf_hdr ..).trans (State.wf_hdr t ..)) ..
  have last : ((s3.wf64 0 Reg.HDR_ACTIVE_ID_LO_ID im.hdr.imageId).sprsShow s3.carriages).hdr = s3.hdr :=
    ((State.sprsShow_keeps ..).hdr_eq rfl).trans (State.wf64_hdr ..)
  rw [last, h3, h2, show s1.hdr = _ from h1, State.setUp_hdr]
  exact ⟨rfl, rfl⟩

end Sys2Proof.Machine
end

section
/-! Loads and slot programs to their end (R66 to R69, R75, R77): statement O11. -/

namespace Sys2Proof.Machine

/-! ### Events of the status register -/

@[simp] theorem State.ev_hdr (s : State) (f : Fld) (i : Nat) : (s.ev i f).hdr = s.hdr :=
  (State.ev_keeps s i f).hdr_eq (testBit_or_blkBit _ (by decide) rfl)

@[simp] theorem State.ev_store (s : State) (f : Fld) (i : Nat) : (s.ev i f).store = s.store :=
  ((State.ev_keeps s i f).same .store (testBit_or_blkBit _ (by decide) rfl)).symm

/-- DONE sets, and the load phase stays. -/
@[simp] theorem State.phase_done (s : State) : (s.ev 0 Reg.HDR_STATUS_DONE).phase = s.phase := State.rf_ev_apart s (by decide) (by decide)

theorem State.rf_done (s : State) : (s.ev 0 Reg.HDR_STATUS_DONE).rf 0 Reg.HDR_STATUS_DONE = 1 :=
  State.rf_ev_same s 0 _ (by decide) (by decide) (by decide)

/-- A failure that is not logged leaves the Waybill alone. -/
@[simp] theorem State.hdrFail_store (s : State) (e : HErr) : (s.hdrFail e false).store = s.store := State.ev_store ..

/-- A load or a program that has ended, in phase 0. -/
def State.loadOver (s : State) : State := { s.toPhase 0 with hdr := { s.hdr with load := none } }

theorem State.phase_loadOver (s : State) : s.loadOver.phase = 0 := State.phase_toPhase s 0

/-- What a failed load or program leaves: phase 0, no load, FAIL and its H-code. -/
theorem State.loadOver_fails (s : State) (e : HErr) : (s.loadOver.hdrFail e false).phase = 0 ∧
    (s.loadOver.hdrFail e false).hdr = { s.hdr with load := none } ∧ (s.loadOver.hdrFail e false).rf 0 Reg.HDR_STATUS_FAIL = 1 ∧
    (s.loadOver.hdrFail e false).rf 0 Reg.HDR_ERR_CODE = codeWord 'H' e.code :=
  ⟨(State.phase_hdrFail ..).trans s.phase_loadOver, State.hdrFail_hdr .., State.rf_hdrFail_fail .., State.rf_hdrFail_code ..⟩

/-! ### The staged image is complete (R67 steps 2 and 3, R68) -/

section
variable {s : State} {l : Loading} {bytes : List Byte} (load : s.hdr.load = some l) (received : s.phase = 1)
  (source : s.sourceBytes l.src = some bytes) (readable : ¬ ((l.src = 0 ∧ s.store.badA = true) ∨ (l.src = 1 ∧ s.store.badB = true)))
include load received source readable

/-- An image that fails its check ends a requested load. -/
theorem sourceComplete_fails {e : HErr} (err : s.imageErr bytes l.patch = some e) (request : l.why = .request) :
    Completes .harnessSourceComplete s (fun t => t.phase = 0 ∧ t.hdr = { s.hdr with load := none } ∧ t.rf 0 Reg.HDR_STATUS_FAIL = 1 ∧
      t.rf 0 Reg.HDR_ERR_CODE = codeWord 'H' e.code) := by
  have next : exec .harnessSourceComplete s = .next (s.loadOver.hdrFail e false) := by
    change execHarnessSourceComplete s = _
    simp [execHarnessSourceComplete, load, received, source, readable, err, State.loadFails, request, State.loadOver]
  exact ⟨_, next, s.loadOver_fails e⟩

/-- A CHECK_ONLY load that passes ends with DONE. -/
theorem sourceComplete_checked (pass : s.imageErr bytes l.patch = none) (only : l.checkOnly = true) :
    Completes .harnessSourceComplete s (fun t => t.phase = 0 ∧ t.rf 0 Reg.HDR_STATUS_DONE = 1 ∧ t.hdr = { s.hdr with load := none }) := by
  have next : exec .harnessSourceComplete s = .next (s.loadOver.ev 0 Reg.HDR_STATUS_DONE) := by
    change execHarnessSourceComplete s = _
    simp [execHarnessSourceComplete, load, received, source, readable, pass, only, State.loadOver]
  exact ⟨_, next, (State.phase_done _).trans s.phase_loadOver, State.rf_done _, State.ev_hdr ..⟩

/-- A patch that passes is pending with its kind and its instant. -/
theorem sourceComplete_patch (pass : s.imageErr bytes l.patch = none) (apply : l.checkOnly = false) (patch : l.patch = true) :
    Completes .harnessSourceComplete s (fun t => t.phase = 5 ∧
      t.rf 0 Reg.HDR_STATUS_PATCH_CARRIAGE = (readImage bytes).hdr.patchCarriage % 256 ∧
      t.hdr = { s.hdr with load := none, patch := some ⟨readImage bytes, s.rf 0 Reg.HDR_PATCH_KIND_KIND, s.rf64 0 Reg.HDR_PATCH_AT_LO_AT, .pending,
        0, 0, 0⟩ }) := by
  have next : exec .harnessSourceComplete s = .next (({ s.toPhase 5 with hdr := { s.hdr with load := none, patch := some ⟨readImage bytes,
      s.rf 0 Reg.HDR_PATCH_KIND_KIND, s.rf64 0 Reg.HDR_PATCH_AT_LO_AT, .pending, 0, 0, 0⟩ } } : State).wf 0 Reg.HDR_STATUS_PATCH_CARRIAGE
      (readImage bytes).hdr.patchCarriage) := by
    rw [patch] at pass
    change execHarnessSourceComplete s = _
    simp [execHarnessSourceComplete, load, received, source, readable, pass, apply, patch]
  exact ⟨_, next, (State.rf_wf_apart _ _ _ (by decide)).trans (State.phase_toPhase s 5), State.rf_wf_same _ _ _ _ (by decide), rfl⟩

/-- A full image that passes goes on to its apply, the running harness as it was. -/
theorem sourceComplete_full (pass : s.imageErr bytes l.patch = none) (apply : l.checkOnly = false) (full : l.patch = false) :
    Completes .harnessSourceComplete s (fun t => t.phase = 4 ∧ t.hdr.active = s.hdr.active ∧
      t.hdr.load = some { l with bytes := bytes, image := some (readImage bytes) }) := by
  have next : exec .harnessSourceComplete s = .next
      ({ s.toPhase 4 with hdr := { s.hdr with load := some { l with bytes := bytes, image := some (readImage bytes) } } } : State).applyBegins := by
    rw [full] at pass
    change execHarnessSourceComplete s = _
    simp [execHarnessSourceComplete, load, received, source, readable, pass, apply, full]
  refine ⟨_, next, ?_⟩
  have begins := State.applyBegins_keeps
    { s.toPhase 4 with hdr := { s.hdr with load := some { l with bytes := bytes, image := some (readImage bytes) } } }
  have hdr := begins.hdr_eq rfl
  exact ⟨(begins.rf 0 Reg.HDR_STATUS_PHASE rfl).trans (State.phase_toPhase s 4), (congrArg Hdr.active hdr).trans rfl,
    (congrArg Hdr.load hdr).trans rfl⟩

end

/-! ### A slot takes an image (R66, R323) -/

section
variable {s : State} {l : Loading} (load : s.hdr.load = some l) (programming : s.phase = 6)
include load programming

/-- An image that fails its check leaves the slots as they were. -/
theorem slotProgram_fails {e : HErr} (err : s.imageErr l.bytes false = some e) :
    Completes .slotProgramComplete s (fun t => t.phase = 0 ∧ t.rf 0 Reg.HDR_STATUS_FAIL = 1 ∧ t.store = s.store) := by
  have next : exec .slotProgramComplete s = .next (s.loadOver.hdrFail e false) := by
    change execSlotProgramComplete s = _
    simp [execSlotProgramComplete, load, programming, err, State.loadOver]
  obtain ⟨phase, -, fail, -⟩ := s.loadOver_fails e
  exact ⟨_, next, phase, fail, State.hdrFail_store ..⟩

/-- An image larger than the slot fails with H-0009. -/
theorem slotProgram_large (pass : s.imageErr l.bytes false = none) (large : s.slotBytes < l.bytes.length) :
    Completes .slotProgramComplete s (fun t =>
      t.phase = 0 ∧ t.rf 0 Reg.HDR_STATUS_FAIL = 1 ∧ t.rf 0 Reg.HDR_ERR_CODE = codeWord 'H' 9 ∧ t.store = s.store) := by
  have next : exec .slotProgramComplete s = .next (s.loadOver.hdrFail (hErr0 0x09 l.bytes.length) false) := by
    change execSlotProgramComplete s = _
    simp [execSlotProgramComplete, load, programming, pass, large, State.loadOver]
  obtain ⟨phase, -, fail, code⟩ := s.loadOver_fails (hErr0 0x09 l.bytes.length)
  exact ⟨_, next, phase, fail, code, State.hdrFail_store ..⟩

/-- An image that passes and fits goes into its slot, and the other slot stays. -/
theorem slotProgram_takes (pass : s.imageErr l.bytes false = none) (fits : l.bytes.length ≤ s.slotBytes) :
    Completes .slotProgramComplete s (fun t =>
      t.phase = 0 ∧ t.hdr = { s.hdr with load := none } ∧ t.rf 0 Reg.HDR_STATUS_DONE = 1 ∧
      t.store.slotA = (if l.why = .progA then some l.bytes else s.store.slotA) ∧
      t.store.slotB = (if l.why = .progA then s.store.slotB else some l.bytes)) := by
  have next : exec .slotProgramComplete s = .next (State.ev { s.loadOver with store :=
      if l.why = .progA then { s.store with slotA := some l.bytes, badA := false } else { s.store with slotB := some l.bytes, badB := false } }
      0 Reg.HDR_STATUS_DONE) := by
    change execSlotProgramComplete s = _
    simp only [execSlotProgramComplete, load, programming, pass, Nat.not_lt.mpr fits, if_true, if_false]
    split <;> rfl
  refine ⟨_, next, (State.phase_done _).trans s.phase_loadOver, State.ev_hdr .., State.rf_done _, ?_, ?_⟩
  · rw [State.ev_store, apply_ite Waybill.slotA]
  · rw [State.ev_store, apply_ite Waybill.slotB]

end

/-! ### An image applies (R67 steps 5 and 6, R75) -/

/-- A fold of operations that leave a field of a register alone. -/
theorem foldl_rf {α : Type} {f : State → α → State} {i : Nat} {g : Fld} (k : ∀ t x, (f t x).rf i g = t.rf i g) (l : List α) (s : State) :
    (l.foldl f s).rf i g = s.rf i g := by
  induction l generalizing s with
  | nil => rfl
  | cons x t ih => exact (ih (f s x)).trans (k s x)

/-- A frame without a block's registers leaves a 64-bit quantity of the block alone. -/
theorem Keeps.rf64 {m : Nat} {r s : State} (k : Keeps m r s) (i : Nat) (f : Fld) (h : m.testBit (64 + f.blk.code) = false) :
    s.rf64 i f = r.rf64 i f := by
  rw [State.rf64, State.rf64, k.rf i { f with hi := 31, lo := 0 } h, k.word f.blk i (f.off + 4) h]

/-- A publication never leaves the generation 0 (R75). -/
theorem State.rf_publish_gen (s : State) : s.publish.rf 0 Reg.HDR_GEN_GEN ≠ 0 := by
  unfold State.publish
  extract_lets g
  have fits : g < 4294967296 := Nat.mod_lt _ (by decide)
  rw [State.rf_wf_same _ _ _ _ (by decide)]
  change (if g = 0 then 1 else g) % 4294967296 ≠ 0
  split <;> omega

/-- After an apply HDR_STATUS.ACTIVE is set, HDR_GEN is not 0 and HDR_ACTIVE_ID is the image's. -/
theorem State.applyImage_status (s : State) (im : Image) :
    (s.applyImage im).rf 0 Reg.HDR_STATUS_ACTIVE = 1 ∧ (s.applyImage im).rf 0 Reg.HDR_GEN_GEN ≠ 0 ∧
      (s.applyImage im).rf64 0 Reg.HDR_ACTIVE_ID_LO_ID = im.hdr.imageId % 2 ^ 64 := by
  unfold State.applyImage
  extract_lets s1 s2 s3
  have shown := State.sprsShow_keeps (s3.wf64 0 Reg.HDR_ACTIVE_ID_LO_ID im.hdr.imageId) s3.carriages
  have lanes : ∀ g : Fld, g.blk = .HDR → s3.rf 0 g = s2.rf 0 g := fun g hg => foldl_rf (fun t lane =>
    (State.rf_wf_reg _ _ (.inl (by rw [hg]; decide))).trans (State.rf_wf_reg _ _ (.inl (by rw [hg]; decide)))) _ _
  refine ⟨?_, ?_, ?_⟩
  · rw [shown.rf _ _ rfl, State.rf_wf64_other _ _ _ _ (by decide) (by decide), lanes _ rfl]
    exact State.rf_wf_same _ _ _ _ (by decide)
  · rw [shown.rf _ _ rfl, State.rf_wf64_other _ _ _ _ (by decide) (by decide), lanes _ rfl, State.rf_wf_apart _ _ _ (by decide)]
    exact State.rf_publish_gen _
  · rw [shown.rf64 _ _ rfl]
    exact State.rf64_wf64_same ..

/-- What follows an apply that has published (R67 step 6): the load's source, the stages to come, DONE. -/
def State.applyEnds (s : State) (l : Loading) : State :=
  ((((s.wf 0 Reg.HDR_STATUS_ACTIVE_SRC l.src).wf 0 Reg.HDR_STATUS_FALLBACK (b2n (l.why == .bootFall))).stagesFollow).ev 0 Reg.HDR_STATUS_DONE)

theorem State.applyEnds_hdr (s : State) (l : Loading) : (s.applyEnds l).hdr = s.hdr :=
  (State.ev_hdr ..).trans ((State.stagesFollow_keeps _).hdr_eq rfl)

theorem State.rf_applyEnds_done (s : State) (l : Loading) : (s.applyEnds l).rf 0 Reg.HDR_STATUS_DONE = 1 := State.rf_done _

/-- The other fields of the HDR registers stay. -/
theorem State.rf_applyEnds (s : State) (l : Loading) {g : Fld} (hg : g.blk = .HDR)
    (apart : ∀ f ∈ [Reg.HDR_STATUS_DONE, Reg.HDR_STATUS_FALLBACK, Reg.HDR_STATUS_ACTIVE_SRC], Apart g f) : (s.applyEnds l).rf 0 g = s.rf 0 g := by
  simp only [List.forall_mem_cons] at apart
  obtain ⟨done, fallback, src, -⟩ := apart
  rw [State.applyEnds, State.rf_ev_apart _ (by rw [hg]; decide) done, (State.stagesFollow_keeps _).rf 0 g (by rw [hg]; rfl),
    State.rf_wf_apart _ _ _ fallback, State.rf_wf_apart _ _ _ src]

/-- So does a 64-bit quantity behind HDR_STATUS. -/
theorem State.rf64_applyEnds_id (s : State) (l : Loading) : (s.applyEnds l).rf64 0 Reg.HDR_ACTIVE_ID_LO_ID = s.rf64 0 Reg.HDR_ACTIVE_ID_LO_ID := by
  have high : (s.applyEnds l).word .HDR 0 0x24 = s.word .HDR 0 0x24 := by
    rw [State.applyEnds, State.word_ev _ _ _ _ _ (by decide), State.word_wf_other _ _ (.inr (.inr (by decide))),
      (State.stagesFollow_keeps _).word .HDR 0 0x24 rfl, State.word_wf_other _ _ (.inr (.inr (by decide))),
      State.word_wf_other _ _ (.inr (.inr (by decide)))]
  have low : (s.applyEnds l).rf 0 { Reg.HDR_ACTIVE_ID_LO_ID with hi := 31, lo := 0 } = s.rf 0 { Reg.HDR_ACTIVE_ID_LO_ID with hi := 31, lo := 0 } :=
    State.rf_applyEnds s l rfl (by decide)
  rw [State.rf64, State.rf64, low]
  exact congrArg (fun w : Word => s.rf 0 { Reg.HDR_ACTIVE_ID_LO_ID with hi := 31, lo := 0 } + 2 ^ 32 * w.toNat) high

/-! ### A drained load (R67, R69) -/

/-- No harness is left: nothing is active, and the directory is empty. -/
theorem State.harnessLost_hdr (s : State) : s.harnessLost.hdr.active = none ∧ s.harnessLost.dir = [] := by
  unfold State.harnessLost
  extract_lets s1 old bare
  have marked := State.markFlush_keeps (((bare.wf 0 Reg.HDR_STATUS_ACTIVE 0).wf 0 Reg.HDR_GEN_GEN 0).wf64 0 Reg.HDR_ACTIVE_ID_LO_ID 0)
  exact ⟨congrArg Hdr.active (marked.hdr_eq rfl), (marked.same .dir rfl).symm⟩

theorem State.harnessLost_status (s : State) : s.harnessLost.rf 0 Reg.HDR_STATUS_ACTIVE = 0 ∧ s.harnessLost.rf 0 Reg.HDR_GEN_GEN = 0 := by
  unfold State.harnessLost
  extract_lets s1 old bare
  have marked := State.markFlush_keeps (((bare.wf 0 Reg.HDR_STATUS_ACTIVE 0).wf 0 Reg.HDR_GEN_GEN 0).wf64 0 Reg.HDR_ACTIVE_ID_LO_ID 0)
  refine ⟨?_, ?_⟩
  · rw [marked.rf _ _ rfl, State.rf_wf64_other _ _ _ _ (by decide) (by decide), State.rf_wf_apart _ _ _ (by decide)]
    exact State.rf_wf_same _ _ _ _ (by decide)
  · rw [marked.rf _ _ rfl, State.rf_wf64_other _ _ _ _ (by decide) (by decide)]
    exact State.rf_wf_same _ _ _ _ (by decide)

section
variable {s : State} {l : Loading} {im : Image} (load : s.hdr.load = some l) (applying : s.phase = 4) (image : l.image = some im)
include load applying image

/-- HARNESS_APPLY_DRAINED of a load that applies: the carriages end, then the image applies or the harness is lost. -/
theorem exec_harnessApplyDrained (fault : Bool) : exec (.harnessApplyDrained fault) s = .next
    (if fault then ((({ s with hdr := { s.hdr with load := none } } : State).applyDrained.harnessLost.toPhase 0).hdrFail (hErr0 0xF01 0) true)
      else ((({ s with hdr := { s.hdr with load := none } } : State).applyDrained).applyImage im).applyEnds l) := by
  change execHarnessApplyDrained fault s = _
  simp only [execHarnessApplyDrained, load, image, applying, ne_eq, not_true, if_false]
  rfl

/-- A load that applies leaves its image active. -/
theorem harnessApplyDrained_applies :
    Completes (.harnessApplyDrained false) s (fun t => t.hdr.active = some im ∧ t.hdr.load = none ∧ t.rf 0 Reg.HDR_STATUS_DONE = 1 ∧
      t.rf 0 Reg.HDR_STATUS_ACTIVE = 1 ∧ t.rf64 0 Reg.HDR_ACTIVE_ID_LO_ID = im.hdr.imageId % 2 ^ 64 ∧ t.rf 0 Reg.HDR_GEN_GEN ≠ 0) := by
  refine ⟨_, (exec_harnessApplyDrained load applying image false).trans (congrArg Host.Outcome.next (if_neg Bool.false_ne_true)), ?_⟩
  have drained := (State.applyDrained_keeps { s with hdr := { s.hdr with load := none } }).hdr_eq rfl
  generalize ({ s with hdr := { s.hdr with load := none } } : State).applyDrained = t at drained ⊢
  obtain ⟨active, noLoad⟩ := t.applyImage_hdr im
  obtain ⟨status, gen, id⟩ := t.applyImage_status im
  have ends := (t.applyImage im).applyEnds_hdr l
  exact ⟨(congrArg Hdr.active ends).trans active, (congrArg Hdr.load ends).trans (noLoad.trans (congrArg Hdr.load drained)),
    State.rf_applyEnds_done ..,
    (State.rf_applyEnds _ _ rfl (by decide)).trans status, (State.rf64_applyEnds_id ..).trans id,
    fun zero => gen ((State.rf_applyEnds _ l rfl (by decide)).symm.trans zero)⟩

/-- A hardware fault ends it with H-0F01 and no harness. -/
theorem harnessApplyDrained_faults :
    Completes (.harnessApplyDrained true) s (fun t => t.hdr.active = none ∧ t.dir = [] ∧ t.rf 0 Reg.HDR_STATUS_ACTIVE = 0 ∧
      t.rf 0 Reg.HDR_GEN_GEN = 0 ∧ t.rf 0 Reg.HDR_STATUS_FAIL = 1 ∧ t.rf 0 Reg.HDR_ERR_CODE = codeWord 'H' 0xF01) := by
  refine ⟨_, (exec_harnessApplyDrained load applying image true).trans (congrArg Host.Outcome.next (if_pos rfl)), ?_⟩
  generalize ({ s with hdr := { s.hdr with load := none } } : State).applyDrained = t
  obtain ⟨active, dir⟩ := t.harnessLost_hdr
  obtain ⟨status, gen⟩ := t.harnessLost_status
  refine ⟨?_, ?_, ?_, ?_, State.rf_hdrFail_fail .., State.rf_hdrFail_code ..⟩
  · rw [State.hdrFail_hdr, State.toPhase_hdr, active]
  · exact ((State.hdrFail_keeps ..).same .dir rfl).symm.trans dir
  · rw [State.rf_hdrFail_other _ _ _ (by decide) (by decide)]
    exact (State.rf_wf_apart _ _ _ (by decide)).trans status
  · rw [State.rf_hdrFail_other _ _ _ (by decide) (by decide)]
    exact (State.rf_wf_apart _ _ _ (by decide)).trans gen

end

/-- Settles O11: each clause is the lemma of its command in the phase of the load and by the verdict on its image. -/
theorem harnessImagesPassOrFailWhole : Obligations.HarnessImagesPassOrFailWhole := by
  unfold Obligations.HarnessImagesPassOrFailWhole
  intro s l load
  refine ⟨fun bytes received source readable => ⟨?_, ?_, ?_, ?_⟩, fun applying im image => ⟨?_, ?_⟩, fun programming => ⟨?_, ?_, ?_⟩⟩
  · exact sourceComplete_full load received source readable
  · exact sourceComplete_patch load received source readable
  · exact sourceComplete_checked load received source readable
  · exact fun e err request _ => sourceComplete_fails load received source readable err request
  · exact harnessApplyDrained_applies load applying image
  · exact harnessApplyDrained_faults load applying image
  · exact slotProgram_takes load programming
  · exact slotProgram_large load programming
  · exact fun e err => slotProgram_fails load programming err

end Sys2Proof.Machine
end
